-- ==== Sys2Proof/Word.lean ====
section
/-!
DEFINITION. The byte and word types, and the plainest conversions between bytes, words and numbers.
-/
namespace Sys2Proof

/-- One byte. -/
abbrev Byte := BitVec 8

/-- One register word (R35). -/
abbrev Word := BitVec 32

end Sys2Proof
end

