-- ==== Sys2Proof/Machine/Operand.lean ====
section
/-!
DEFINITION. The types of the commands' operands.
-/
namespace Sys2Proof

/-- The capabilities that R267 names. -/
inductive Capability where
  | powerMgmt | pciExpress | msix | aer | ari | sriov | serialNumber | readinessTime | secondaryPcie | physical16 | physical32
  | dataLinkFeature
  deriving DecidableEq, Repr

/-- What happens at the JTAG pins (R488): JTAG_MODE changes, JTAG_TRST_N changes (true = high), or TCK makes one cycle with these levels of
TMS and TDI. -/
inductive JtagOp where
  | mode (b : Bool)
  | trst (high : Bool)
  | tck (tms tdi : Bool)
  deriving DecidableEq, Repr

/-- How a TLP or DLLP reaches the upstream port (R282): sound, or with an error of the link layer, of its ECRC or of its form; a message that
the device does not support; or the message that turns the link off, into L2 (R262). -/
inductive TlpCheck where
  | good | ecrc | receiver | badTlp | badDllp | replayTimeout | replayRollover | malformed | badMessage | turnOff
  deriving DecidableEq, Repr

/-- A write or read of a configuration-space register that the spec names and that has no row of its own (R30, R262 to R267, R270, R272,
R274, R277, R280, R281). Values are the field's value; a capability reads 1 where the function has it; a readiness time is in ns. -/
inductive CfgReg where
  | bar (i : Nat)      -- Base Address Register i, 0 to 5 (R30)
  | vfBar (i : Nat)    -- VF Base Address Register i of the SR-IOV capability (R30, R266)
  | romBar             -- Expansion ROM Base Address (R30, R269)
  | cap (c : Capability)   -- capability list (R267)
  | serial (hi : Bool)     -- Device Serial Number (R267)
  | readiness (i : Nat)    -- Readiness Time Reporting: the bound of line i of R280's table
  | mpsSupported   -- Device Capabilities: Max_Payload_Size Supported (R262)
  | ecrcCheck      -- AER: ECRC Check Enable (R262)
  | ecrcGen        -- AER: ECRC Generation Enable (R262)
  | vfDeviceId     -- VF Device ID (R264)
  | vfStride       -- VF Stride (R265)
  | supPages       -- Supported Page Sizes (R266)
  | sysPage        -- System Page Size (R266)
  | ids            -- Vendor ID and Device ID (R264)
  | classRev       -- class code and Revision ID (R264)
  | subsystem      -- Subsystem Vendor ID and Subsystem ID (R264)
  | maxReadReq     -- Device Control: Max Read Request Size code (R272)
  | extTag         -- Device Control: Extended Tag Field Enable (R272)
  | relaxed        -- Device Control: Enable Relaxed Ordering (R270)
  | tag10          -- Device Control 2: 10-Bit Tag Requester Enable (R272)
  | ctoValue       -- Device Control 2: Completion Timeout Value (R274)
  | ctoDisable     -- Device Control 2: Completion Timeout Disable (R277)
  | pmeEn          -- PME_En of PF0 (R281)
  | pmeStatus      -- PME_Status of PF0 (R281)
  | numVfs         -- NumVFs (R265, R283)
  | totalVfs       -- TotalVFs and InitialVFs (R265)
  | vfOffset       -- First VF Offset (R265)
  | ariHier        -- ARI Capable Hierarchy (R265)
  | other (off : Nat)  -- any register the base specification gives
  deriving DecidableEq, Repr

/-- What a port's receiver found while a frame arrived (R84, R104, R105): its FCS agreed; it did not end on an octet boundary; it held an
invalid symbol; FEC codewords of it that were corrected, and that could not be. -/
structure RxMarks where
  fcsOk : Bool := false
  dribble : Bool := false
  symbol : Bool := false
  corrected : Nat := 0
  uncorrected : Nat := 0
  deriving DecidableEq, Repr

/-- The state that an uncorrectable error of an internal RAM hits (R458): one item, with its index, or the block's own. -/
inductive RamState where
  | corrected (idx : Nat)
  | blockWide
  | subscription (i : Nat)
  | bay (b : Nat)
  | channel (c : Nat)
  | group (g : Nat)
  | comparator (c : Nat)
  | term (t : Nat)
  | publication (p : Nat)
  | gooseSub (g : Nat)
  | queue (q : Nat)
  | ring (g : Nat)
  | context (slot : Nat)
  deriving DecidableEq, Repr

end Sys2Proof
end

