-- ==== Sys2Proof/Syntax.lean ====
section
/-!
DEFINITION. The commands and events of the block: one constructor per row of the operations table, with its operands.

`who` is the requester code of R36: 0 is PF0 host software, 1 to 128 the Spindle threads by agent code (R363), and 0x100 + f
function f (R32) in its own register space. `at` is the clock tick at which an event from outside reaches the device.
-/
namespace Sys2Proof

/-- The commands. -/
inductive Instr where
  /-- REGISTER_WRITE: A write to a register field that has no row of its own, such as RW, W1C, W1S or WO, takes effect as its access type gives. (R8) -/
  | registerWrite (who : Nat) (addr : Nat) (val : Word)
  /-- UNASSIGNED_ACCESS: A read of an unassigned register address returns 0, a write to one is discarded, and both are counted in GLB_BAD_ACCESS. (R34) -/
  | unassignedAccess (who : Nat) (addr : Nat) (read : Bool)
  /-- REFUSED_SIZE_ACCESS: An access of the wrong size or alignment is refused: a write is discarded, a read returns 0xFFFF_FFFF, and the access is counted. (R35) -/
  | refusedSizeAccess (read : Bool)
  /-- SPLIT_LO_READ: A read of a _LO register copies the matching _HI register into the requester's read holding register. (R36) -/
  | splitLoRead (who : Nat) (addr : Nat)
  /-- SPLIT_LO_WRITE: A write to a _LO register is held for the writing requester until that requester writes the matching _HI. (R36) -/
  | splitLoWrite (who : Nat) (addr : Nat) (val : Word)
  /-- SPLIT_HI_WRITE: A write to a _HI register applies the held _LO value and the _HI value at once; with no held _LO it applies the _HI half alone and is counted. (R36) -/
  | splitHiWrite (who : Nat) (addr : Nat) (val : Word)
  /-- GLB_SYNC_READ: A read of GLB_SYNC returns once every earlier write of the requester to every block has taken effect. (R37) -/
  | glbSyncRead
  /-- STAGE_OPEN: The OPEN command copies live RWL values to the shadow and records the writer as owner of the staging window. (R39) -/
  | stageOpen (who : Nat) (blk : Nat)
  /-- STAGE_ABORT: The ABORT command discards the shadow, releases any reserved mark and closes the window with RESULT 5. (R39) -/
  | stageAbort (who : Nat) (blk : Nat)
  /-- STAGE_COMMIT_NOW: The COMMIT_NOW command validates the staged set and, if it is valid, swaps shadow to live at once. (R39) -/
  | stageCommitNow (who : Nat) (blk : Nat)
  /-- STAGE_ARM: The ARM command validates the staged set and reserves the commit mark, so that the set commits when the mark fires. (R39) -/
  | stageArm (who : Nat) (blk : Nat)
  /-- RWL_WRITE: A write to an RWL field goes to the shadow when the owner writes it in an Open window; otherwise it is ignored and counted. (R39) -/
  | rwlWrite (who : Nat) (addr : Nat) (val : Word)
  /-- STAGE_TIMEOUT: TIMEOUT runs out before the mark fires, so the mark is released and the window returns to Open with RESULT 4. (R39) -/
  | stageTimeout (blk : Nat)
  /-- WINDOW_PAGE_SELECT: A write of GLB_WIN_PAGEn selects the 2 MiB page of the window's table and discards any partly written entry. (R45) -/
  | windowPageSelect (win : Nat) (page : Nat)
  /-- WINDOW_WORD_WRITE: A word write through an indirect window updates the held copy of the entry; the write of the entry's last word applies the whole entry, unless a conflict refuses it. (R46) -/
  | windowWordWrite (who : Nat) (off : Nat) (val : Word)
  /-- WINDOW_FIRST_WORD_READ: A read of an entry's first word copies the whole entry into the window for the reads of its later words. (R46) -/
  | windowFirstWordRead (who : Nat) (off : Nat)
  /-- GTC_NS_READ: A read of TIM_GTC_NS latches the whole GTC value for the reading requester. (R48) -/
  | gtcNsRead (who : Nat)
  /-- GRAIN_ANGLE_READ: A read of TIM_GRAINn_ANGLE returns the angle and latches the cycle count of the same tick for the requester. (R48) -/
  | grainAngleRead (who : Nat) (inst : Nat)
  /-- PTP_OFS_SEC_WRITE: A write of TIM_PTP_OFS_SEC holds the offset seconds for the writer's next nanoseconds write. (R56) -/
  | ptpOfsSecWrite (who : Nat) (val : Word)
  /-- PTP_OFS_UPDATE: A write of TIM_PTP_OFS_NS submits one PTP update, which advances the time-quality state machine. (R56) -/
  | ptpOfsUpdate (who : Nat) (val : Word)
  /-- PPS_IN_EDGE: An edge on 1PPS_IN is stamped and gives an offset update for source 2. (R65) -/
  | ppsInEdge (rising : Bool) (t : Nat)
  /-- PPS_PULSE_MISSED: An expected 1PPS pulse does not arrive, and the miss count that makes 1PPS invalid advances. (R56) -/
  | ppsPulseMissed
  /-- IRIG_FRAME: A complete IRIG-B frame is decoded, its on-time marker is stamped, and it gives an offset update, or it is rejected. (R66) -/
  | irigFrame (good : Bool) (t : Nat) (doy : Nat) (sod : Nat) (yy : Nat) (halfHours : Nat) (lsp : Bool) (tq : Nat)
  /-- IRIG_FRAME_MISSED: An expected IRIG-B frame does not arrive, and the miss count that makes IRIG-B invalid advances. (R56) -/
  | irigFrameMissed
  /-- PTP_UPDATE_TIMEOUT: No PTP update has arrived within PTP_TO, so PTP becomes invalid and the time state may fall to another source or to Holdover. (R56) -/
  | ptpUpdateTimeout
  /-- HOLDOVER_EXPIRE: The holdover timer reaches LIMIT_S, quality becomes 3 and the state falls to Free-run. (R57) -/
  | holdoverExpire
  /-- FREQ_ADJ_WRITE: A write of TIM_FREQ_ADJ is clamped and applied to the DPLL, or only stored while in Holdover. (R53) -/
  | freqAdjWrite (who : Nat) (val : Word)
  /-- AO_COUNTER_CORRECT: Once per second the always-on counter is corrected against the GTC and the measured ratio is stored. (R51) -/
  | aoCounterCorrect
  /-- PPS_OUT_PULSE: At each whole GTC second plus the offset, 1PPS_OUT rises if the quality gate allows. (R67) -/
  | ppsOutPulse
  /-- PPS_OUT_PULSE_END: The 1PPS_OUT pulse ends after WIDTH_US. (R67) -/
  | ppsOutPulseEnd
  /-- OSC_CLOCK_LOST: No edge is seen on CLK10M_IN or OCXO_IN for 1 µs, so its OK bit falls and, if it is selected, event source 46 is raised. (R487) -/
  | oscClockLost (ocxo : Bool)
  /-- GRAIN_REF_GAP: No valid reference update has arrived within GAP × 100 µs, so the reference is lost and the instance switches or coasts. (R71) -/
  | grainRefGap (n : Nat)
  /-- GRAIN_CYCLE_WRAP: The Grain angle wraps and the cycle count increments; the alternate-angle difference is measured once per cycle. (R73) -/
  | grainCycleWrap (n : Nat)
  /-- GRAIN_COAST_FLAG: The second cycle-count increment after the last valid update sets COASTING and raises event source 43. (R73) -/
  | grainCoastFlag (n : Nat)
  /-- GRAIN_NOMINAL_REVERT: The TIMEOUT-th increment after the last valid update sets the frequency to nominal, and the state becomes Nominal. (R73) -/
  | grainNominalRevert (n : Nat)
  /-- ANGLE_MARK_FIRE: An enabled mark's instance crosses the mark angle in a qualifying cycle, so the mark fires, sets MARK_SEEN and may raise event source 44. (R77) -/
  | angleMarkFire (mark : Nat)
  /-- PORT_LOCK_ACQUIRED: Signal and symbol or block lock held for 1 ms moves a Down port to Negotiating or Up. (R88) -/
  | portLockAcquired (port : Nat)
  /-- PORT_AN_COMPLETE: Auto-negotiation completes and the port enters Up. (R88) -/
  | portAnComplete (port : Nat) (speed : Nat)
  /-- PORT_AN_TIMEOUT: Auto-negotiation does not complete within 500 ms, so it restarts and the port enters Down. (R88) -/
  | portAnTimeout (port : Nat)
  /-- PORT_LINK_LOST: Lock loss, hi_ber or remote fault takes a port Down and discards the frames handed to it that have not begun. (R88) -/
  | portLinkLost (port : Nat) (cause : Nat)
  /-- PORT_RESET_COMPLETE: A port in Reset completes its reset and enters Down. (R88) -/
  | portResetComplete (port : Nat)
  /-- FRAME_RECEIVE: The last bit of a frame arrives at a port; the frame is stamped, checked, passed through duplicate discard and HSR forwarding, and enters its pipeline. (R62) -/
  | frameReceive (port : Nat) (bytes : List Byte) (marks : RxMarks) (startTick : Nat) (endTick : Nat)
  /-- PORT_TX_BOUNDARY: At a frame boundary a port chooses its next frame: a Parting publication first, then a ring-forwarded frame, then the scheduler's choice. (R94) -/
  | portTxBoundary (port : Nat)
  /-- DD_ENTRY_EXPIRE: A duplicate-discard entry unused for WINDOW × 10 µs is freed. (R92) -/
  | ddEntryExpire (p : Nat) (mac : Nat)
  /-- SUPERVISION_TX: Every INTERVAL_MS the pair sends PRP or HSR supervision frames on both ports. (R93) -/
  | supervisionTx (p : Nat)
  /-- LOOP_CHECK_TIMEOUT: No loop-check frame returns within 10 ms, so the pair goes back to Released to retry. (R97) -/
  | loopCheckTimeout (p : Nat)
  /-- LOOP_CHECK_RETRY: The 100 ms retry interval ends, and the loop check may be attempted again. (R97) -/
  | loopCheckRetry (p : Nat)
  /-- BYPASS_SETTLE_EXPIRE: The links stay Up for SETTLE_MS, so the drive is asserted and the pair enters Switching. (R97) -/
  | bypassSettleExpire (p : Nat)
  /-- BYPASS_SWITCH_TIMEOUT: SWITCH_MS runs out without both links Up, so the drive is released with a failure counted, leading to Locked-out at the third. (R97) -/
  | bypassSwitchTimeout (p : Nat)
  /-- KEEPER_KICK: A write of 1 to KICK restarts the pair's keeper. (R98) -/
  | keeperKick (p : Nat)
  /-- KEEPER_EXPIRE: The keeper runs TIMEOUT_MS without a kick, so the drive is released until the next kick. (R98) -/
  | keeperExpire (p : Nat)
  /-- PAIR_RESET: A write of 1 to RESET resets the pair, releases its drive and clears its redundancy state. (R99) -/
  | pairReset (p : Nat)
  /-- FORCE_REL_WRITE: A write of FORCE_REL holds the drive released, or with 0 leaves Locked-out. (R97) -/
  | forceRelWrite (p : Nat) (val : Bool)
  /-- FABRIC_DEGRADE: The DEGRADE.GO command degrades a 100 Gb/s fabric port to x1 on the chosen lane. (R100) -/
  | fabricDegrade (m : Nat) (lane : Nat)
  /-- FABRIC_RESTORE: The RESTORE command retrains the fabric port at x4, and the port returns to x1 if that fails. (R100) -/
  | fabricRestore (m : Nat) (success : Bool)
  /-- FABRIC_LANE_LOST: A lane lost for 10 ms with AUTO_DEGRADE set starts the automatic degrade to x1. (R100) -/
  | fabricLaneLost (m : Nat) (lane : Nat)
  /-- FABRIC_DEGRADE_DWELL: The 100 ms dwell on one physical lane ends without link, so the next healthy lane is tried. (R100) -/
  | fabricDegradeDwell (m : Nat)
  /-- PFC_WATCHDOG_EXPIRE: A priority stays paused for WD_MS, so its egress frames are discarded until the pause ends. (R101) -/
  | pfcWatchdogExpire (port : Nat) (prio : Nat)
  /-- TRAP_LIMITER_REFILL: Every 1 ms each trap limiter's credit rises by RATE, up to its cap. (R118) -/
  | trapLimiterRefill
  /-- TRAP_CONS_WRITE: A write of a trap ring's CONS frees slots; a value above PROD is discarded and counted. (R123) -/
  | trapConsWrite (r : Nat) (val : Word)
  /-- LEARN_REQUEST: The table engine processes a queued learn request by refreshing, moving or inserting the source entry. (R133) -/
  | learnRequest
  /-- AGER_PASS: Every AGE_S / 3 seconds the ager ages every dynamic entry and removes those already at age 3. (R135) -/
  | agerPass
  /-- FWT_CMD_INSERT: Engine command OP 1 inserts the image or replaces the entry with the same key. (R140) -/
  | fwtCmdInsert (t : Nat) (bank : Nat)
  /-- FWT_CMD_DELETE: Engine command OP 2 deletes the entry that has the image's key. (R140) -/
  | fwtCmdDelete (t : Nat) (bank : Nat)
  /-- FWT_CMD_LOOKUP: Engine command OP 3 looks up the key and copies the entry back to the image words. (R140) -/
  | fwtCmdLookup (t : Nat) (bank : Nat)
  /-- FWT_INJECT: A write of 1 to INJECT makes the next apply to the table store inverted parity. (R130) -/
  | fwtInject (t : Nat)
  /-- FWT_REBUILD: A write of 1 to REBUILD opens a rebuild and starts clearing the shadow bank. (R141) -/
  | fwtRebuild (t : Nat)
  /-- FWT_SHADOW_CLEARED: Clearing of the shadow bank completes, so CLEARING falls and event source 184 is raised. (R141) -/
  | fwtShadowCleared (t : Nat)
  /-- FWT_SWAP: A write of 1 to SWAP exchanges the live and shadow banks between two lookups and closes the rebuild. (R142) -/
  | fwtSwap (t : Nat)
  /-- FWT_ABORT_REBUILD: A write of 1 to ABORT_REBUILD closes the rebuild and leaves the shadow bank as it is. (R141) -/
  | fwtAbortRebuild (t : Nat)
  /-- FWT_PERR_POP: A read of FWT_PERR returns the oldest parity-error address and pops it from the FIFO. (R137) -/
  | fwtPerrPop
  /-- SV_FRAME_INGEST: A frame from queue 4,092 is decoded, matched, rate-limited, authenticated and sequence-checked, and yields stream-sample records. (R155) -/
  | svFrameIngest
  /-- SV_LOSS_SCAN: At each 100 µs the loss scan moves streams without an accepted frame within LOSS to Lost. (R161) -/
  | svLossScan
  /-- KEY_PROMOTE: A write of 1 to PROMOTE makes the next key current between two verifications. (R154) -/
  | keyPromote (k : Nat)
  /-- KEY_AUTO_PROMOTE: With AUTO set, the key promotion happens at the first GTC second that reaches NEXT_FROM. (R154) -/
  | keyAutoPromote (k : Nat)
  /-- SAMPLE_RECORD_PLACE: A stream-sample record reaches the alignment fabric and is placed, sent to the recorder as late, or discarded. (R174) -/
  | sampleRecordPlace
  /-- ROW_INSTANT: The GTC reaches a row's instant; the row's expected set and hold time are fixed, and a row with no expected cells seals. (R176) -/
  | rowInstant (b : Nat)
  /-- ROW_HOLD_EXPIRE: The GTC reaches I + HOLD, so the row seals, with its unplaced cells filled. (R177) -/
  | rowHoldExpire (b : Nat)
  /-- COMPARATOR_STALE_SCAN: Every 100 µs, comparators without an evaluation within STALE are marked stale and Blocked. (R220) -/
  | comparatorStaleScan
  /-- TERM_ARM_SET: A write of TRP_ARM_SETk sets term arm bits, or updates ARM_WANT for gated terms. (R223) -/
  | termArmSet (k : Nat) (val : Word)
  /-- TERM_ARM_CLEAR: A write of TRP_ARM_CLRk clears term arm bits, disarming the terms and possibly publishing VAL_OFF. (R225) -/
  | termArmClear (k : Nat) (val : Word)
  /-- TERM_UNLATCH: A write of TRP_UNLATCHk requests an unlatch of latched terms. (R225) -/
  | termUnlatch (k : Nat) (val : Word)
  /-- GOOSE_RETRANSMIT: A publication's retransmission interval ends and the frame is sent again with sqNum + 1. (R231) -/
  | gooseRetransmit (p : Nat)
  /-- GOOSE_FRAME_INTAKE: A GOOSE frame from queue 4,093 is decoded, matched, authenticated and sequence-tested, and updates its subscription. (R238) -/
  | gooseFrameIntake
  /-- GOOSE_LOSS_SCAN: At each whole millisecond, subscriptions without an accepted frame within their TAL enter Lost. (R240) -/
  | gooseLossScan
  /-- REC_CMD_TRIGGER: A write of REC_CMD with GO fires the named capture set at REC_CMD_TIME. (R248) -/
  | recCmdTrigger (val : Word)
  /-- TRIG_IN_EDGE: A debounced TRIG_IN edge of the set polarity fires the KIND 5 slots and may wake the device. (R250) -/
  | trigInEdge (lvl : Bool) (t : Nat)
  /-- REC_BURST_WRITE: A bay's buffered records are written to its ring once they reach 64 KiB or the oldest is FLUSH_US old. (R247) -/
  | recBurstWrite (b : Nat)
  /-- SEGMENT_CLOSE: The GTC runs max(HOLD, LATE_MAX_US) past a segment's last row, so the segment closes at WPOS. (R253) -/
  | segmentClose (b : Nat) (c : Nat)
  /-- SEGMENT_EXPORT_START: The oldest closed segment begins export to its recorder namespace. (R255) -/
  | segmentExportStart
  /-- SEGMENT_EXPORT_STEP_DONE: An export write completes, and the next step follows or the segment is released. (R255) -/
  | segmentExportStepDone
  /-- SEGMENT_EXPORT_RETRY: One second after a failed export, the whole segment is retried from step 1. (R256) -/
  | segmentExportRetry
  /-- PERST_ASSERT: Assertion of PERST_N resets the HIF domain and stops every function. (R278) -/
  | perstAssert
  /-- PERST_DEASSERT: Deassertion of PERST_N starts link training, releases WAKE_N and may wake the device. (R280) -/
  | perstDeassert
  /-- LINK_UP: The upstream link reaches L0, possibly below its limits, and DRS is sent when PF0 is ready. (R263) -/
  | linkUp (rate : Nat) (width : Nat) (reversed : Bool)
  /-- LINK_DOWN: The upstream link goes down, and every function is reset and its rings become Idle. (R278) -/
  | linkDown
  /-- HOT_RESET: A Hot Reset resets HIF and every function. (R278) -/
  | hotReset
  /-- LINK_RETRAIN: A write of HIF_LINK_CMD.RETRAIN retrains the link within the present limits. (R263) -/
  | linkRetrain
  /-- CONFIG_REQUEST: A configuration request to a function is answered, or answered with CRS while the function is not ready. (R280) -/
  | configRequest (f : Nat) (reg : CfgReg) (write : Bool) (val : Word)
  /-- BUS_MASTER_DISABLE: Bus Master Enable cleared stops the function's requests at once and quiesces its rings. (R278) -/
  | busMasterDisable (f : Nat)
  /-- BUS_MASTER_ENABLE: Bus Master Enable set lets Idle rings run, held completions be written and pending MSI-X vectors be sent. (R295) -/
  | busMasterEnable (f : Nat)
  /-- MEMORY_SPACE_DISABLE: Memory Space Enable cleared makes later register and doorbell writes Unsupported Requests. (R278) -/
  | memorySpaceDisable (f : Nat)
  /-- FUNCTION_LEVEL_RESET: A function-level reset stops the function's requests, quiesces it and resets its registers and rings. (R278) -/
  | functionLevelReset (f : Nat)
  /-- FLR_DEADLINE: 100 ms after a function-level reset, owed tags are retired into quarantine and the function goes Idle. (R279) -/
  | flrDeadline (f : Nat)
  /-- D3HOT_ENTRY: A PF enters D3hot, stopping the requests of the PF and of its VFs. (R278) -/
  | d3hotEntry (f : Nat)
  /-- D0_ENTRY: A PF returns to D0 with its VFs, and pending vectors and held completions may go out. (R281) -/
  | d0Entry (f : Nat)
  /-- VF_ENABLE: VF Enable set creates the VFs, which become ready within 10 ms. (R280) -/
  | vfEnable (f : Nat)
  /-- VF_DISABLE: VF Enable cleared acts as a function-level reset of each VF and removes the VFs. (R278) -/
  | vfDisable (f : Nat)
  /-- COMPLETION_RECEIVE: A completion TLP arrives; it is checked and its data is delivered, or it is discarded or taken as Unexpected. (R273) -/
  | completionReceive (f : Nat) (tag : Nat) (lower : Nat) (count : Nat) (status : Nat) (bytes : List Byte) (poisoned : Bool) (check : TlpCheck)
  /-- COMPLETION_TIMEOUT: A read's completion timeout expires, so the request and its job fail and the tag enters quarantine. (R275) -/
  | completionTimeout (f : Nat) (tag : Nat)
  /-- TAG_QUARANTINE_EXPIRE: QUAR_MS after a timeout, the quarantined tag is freed for reuse. (R276) -/
  | tagQuarantineExpire (f : Nat) (tag : Nat)
  /-- DOORBELL_WRITE: A write of a ring's TAIL submits entries, or is discarded for an Absent ring, or is a malformed doorbell. (R289) -/
  | doorbellWrite (f : Nat) (n : Nat) (off : Nat) (full : Bool) (val : Word)
  /-- ENTRY_FETCH: Fetched entry copies arrive, and owned entries below TAIL are checked and taken. (R290) -/
  | entryFetch (g : Nat)
  /-- ENTRY_REFETCH: Every 1 µs an entry that showed OWN = 0 is fetched again. (R290) -/
  | entryRefetch (g : Nat)
  /-- OWN_WAIT_EXPIRE: An entry below TAIL is still not owned after OWN_WAIT_US, so it is malformed with DETAIL 6. (R290) -/
  | ownWaitExpire (g : Nat)
  /-- JOB_COMPLETE: A job ends and its entry is completed in place, counting towards the ring's interrupt. (R292) -/
  | jobComplete (g : Nat) (status : Nat) (detail : Nat) (len : Nat) (result : Nat)
  /-- RING_INTERRUPT_TIMER: ITIME_US after the first unsignalled counted completion, the ring's MSI-X vector is sent. (R294) -/
  | ringInterruptTimer (g : Nat)
  /-- ADMIN_RING_ENABLE: A write of QMG_ADM_CFG.ENABLE creates or destroys the admin ring, or is refused for bad settings. (R295) -/
  | adminRingEnable (f : Nat) (val : Word)
  /-- NO_OP: The admin No-op command completes with Success. (R299) -/
  | noOp (g : Nat)
  /-- IDENTIFY: The admin Identify command writes the function's identity block. (R299) -/
  | identify (g : Nat)
  /-- CREATE_RING: The admin Create Ring command creates a run-time ring, or refuses it with Invalid Field, Ring State or No Resources. (R299) -/
  | createRing (g : Nat)
  /-- DESTROY_RING: The admin Destroy Ring command stops the ring taking entries and completes once its started jobs complete. (R299) -/
  | destroyRing (g : Nat)
  /-- MODIFY_RING: The admin Modify Ring command changes a ring's RO hint, vector and interrupt settings. (R299) -/
  | modifyRing (g : Nat)
  /-- QUERY_RING: The admin Query Ring command returns the ring's CONS, state, LOG2 and TYPE. (R299) -/
  | queryRing (g : Nat)
  /-- RING_COUNTERS: The admin Ring Counters command writes the ring's eight counters. (R299) -/
  | ringCounters (g : Nat)
  /-- TRANSMIT: A PF1 Transmit job sends its frame to the egress queue named by BIND. (R299) -/
  | transmit (g : Nat)
  /-- RECEIVE_BUFFER: A PF1 Receive buffer entry is posted and is later filled with a received frame. (R299) -/
  | receiveBuffer (g : Nat)
  /-- MEASUREMENT_BUFFER: A PF2 Measurement buffer entry is posted and is later filled with a cycle frame or a report. (R299) -/
  | measurementBuffer (g : Nat)
  /-- NVME_CONTROLLER_ENABLE: CC.EN set brings an NVMe controller of PF3 or a VF into service. (R302) -/
  | nvmeControllerEnable (f : Nat) (wrr : Bool)
  /-- NVME_CONTROLLER_RESET: CC.EN cleared stops completions at once; drive commands already issued run to their end and their results are discarded. (R303) -/
  | nvmeControllerReset (f : Nat)
  /-- NVME_IDENTIFY: The NVMe Identify admin command returns the supported CNS structures. (R302) -/
  | nvmeIdentify (f : Nat) (cid : Nat) (cns : Nat) (nsid : Nat) (cntid : Nat)
  /-- NVME_GET_LOG_PAGE: The NVMe Get Log Page command returns a supported log. (R302) -/
  | nvmeGetLogPage (f : Nat) (cid : Nat) (lid : Nat) (len : Nat)
  /-- NVME_SET_FEATURES: The NVMe Set Features command sets a supported feature, power state included. (R302) -/
  | nvmeSetFeatures (f : Nat) (cid : Nat) (fid : Nat) (v : Nat)
  /-- NVME_GET_FEATURES: The NVMe Get Features command returns a supported feature. (R302) -/
  | nvmeGetFeatures (f : Nat) (cid : Nat) (fid : Nat) (v : Nat)
  /-- NVME_CREATE_IO_SQ: The NVMe command that creates an I/O submission queue. (R302) -/
  | nvmeCreateIoSq (f : Nat) (cid : Nat) (qid : Nat) (size : Nat) (cq : Nat) (prio : Nat)
  /-- NVME_CREATE_IO_CQ: The NVMe command that creates an I/O completion queue. (R302) -/
  | nvmeCreateIoCq (f : Nat) (cid : Nat) (qid : Nat) (size : Nat) (vec : Nat) (ien : Bool)
  /-- NVME_DELETE_IO_SQ: The NVMe command that deletes an I/O submission queue. (R302) -/
  | nvmeDeleteIoSq (f : Nat) (cid : Nat) (qid : Nat)
  /-- NVME_DELETE_IO_CQ: The NVMe command that deletes an I/O completion queue. (R302) -/
  | nvmeDeleteIoCq (f : Nat) (cid : Nat) (qid : Nat)
  /-- NVME_ABORT: The NVMe Abort command requests the abort of a command. (R302) -/
  | nvmeAbort (f : Nat) (cid : Nat) (sqid : Nat) (acid : Nat)
  /-- NVME_ASYNC_EVENT_REQUEST: The NVMe Asynchronous Event Request command is posted for a later event. (R302) -/
  | nvmeAsyncEventRequest (f : Nat) (cid : Nat)
  /-- NAMESPACE_ATTACHMENT: Namespace Attachment on PF3 attaches or detaches a namespace for a controller, with the result kept in MRAM. (R305) -/
  | namespaceAttachment (f : Nat) (cid : Nat) (nsid : Nat) (detach : Bool) (ctrls : List Nat)
  /-- DEVICE_SELF_TEST: Device Self-test starts a short or an extended read test over the namespaces in scope. (R312) -/
  | deviceSelfTest (f : Nat) (cid : Nat) (nsid : Nat) (stc : Nat)
  /-- NVME_READ: An NVMe Read is mapped to drive reads on the in-sync member, or is served from the journal shadow. (R307) -/
  | nvmeRead (f : Nat) (qid : Nat) (cid : Nat) (nsid : Nat) (lba : Nat) (n : Nat)
  /-- NVME_WRITE: An NVMe Write is journalled when it is 16 blocks or fewer, or is written straight home, on every member. (R308) -/
  | nvmeWrite (f : Nat) (qid : Nat) (cid : Nat) (nsid : Nat) (lba : Nat) (n : Nat) (data : List Byte)
  /-- NVME_WRITE_ZEROES: An NVMe Write Zeroes is carried out like a write, journalled when it is 16 blocks or fewer. (R308) -/
  | nvmeWriteZeroes (f : Nat) (qid : Nat) (cid : Nat) (nsid : Nat) (lba : Nat) (n : Nat)
  /-- NVME_FLUSH: An NVMe Flush completes once the writes before it have completed. (R302) -/
  | nvmeFlush (f : Nat) (qid : Nat) (cid : Nat) (nsid : Nat)
  /-- NVME_COMPARE: An NVMe Compare reads and compares the blocks it names. (R302) -/
  | nvmeCompare (f : Nat) (qid : Nat) (cid : Nat) (nsid : Nat) (lba : Nat) (n : Nat) (data : List Byte)
  /-- NVME_DATASET_MANAGEMENT: An NVMe Dataset Management Deallocate is passed to the drives. (R302) -/
  | nvmeDatasetManagement (f : Nat) (qid : Nat) (cid : Nat) (nsid : Nat) (deallocate : Bool) (ranges : List (Nat × Nat))
  /-- DRIVE_CMD_COMPLETE: A drive command completes, advancing a host command, a journal step, a rebuild chunk, a test read or an export. (R307) -/
  | driveCmdComplete (id : Nat) (good : Bool) (bytes : List Byte) (warn : Nat)
  /-- DRIVE_CMD_TIMEOUT: A drive command without completion after 30 s resets the drive controller and fails as a drive error. (R316) -/
  | driveCmdTimeout (id : Nat)
  /-- NS_REBUILD: A write of REBUILD starts the rebuild of a Degraded mirror. (R307) -/
  | nsRebuild (n : Nat)
  /-- SLOT_PRESENT_DEBOUNCE: DSn_PRSNT_N asserted for 100 ms moves an Empty slot to Present. (R317) -/
  | slotPresentDebounce (d : Nat)
  /-- SLOT_POWER_ON: POWER_ON, or AUTO_ON, asserts slot power and the slot enters Powering. (R317) -/
  | slotPowerOn (d : Nat)
  /-- SLOT_POWER_DELAY_EXPIRE: PWR_DELAY_MS passes, so DSn_PERST_N is deasserted and the slot enters Training. (R317) -/
  | slotPowerDelayExpire (d : Nat)
  /-- SLOT_DRIVE_READY: The slot's link reaches L0 with the drive ready, so the drive is enumerated and the slot is Up. (R317) -/
  | slotDriveReady (d : Nat) (rate : Nat) (width : Nat)
  /-- SLOT_TRAIN_TIMEOUT: Training does not finish within 10 s, so power is removed and the slot enters Fault. (R317) -/
  | slotTrainTimeout (d : Nat)
  /-- SLOT_ATTN_PRESS: A press of the attention button starts or cancels the 5 s removal timer. (R317) -/
  | slotAttnPress (d : Nat)
  /-- SLOT_ATTN_TIMEOUT: The 5 s attention timer ends, starting orderly removal. (R317) -/
  | slotAttnTimeout (d : Nat)
  /-- SLOT_POWER_OFF: POWER_OFF starts the orderly removal of the drive. (R318) -/
  | slotPowerOff (d : Nat)
  /-- SLOT_REMOVAL_WAIT_EXPIRE: A 5 s wait of orderly removal ends, and the removal moves on to shutdown or power-off. (R318) -/
  | slotRemovalWaitExpire (d : Nat)
  /-- SLOT_POWER_FAULT: DSn_PWRFLT_N asserted removes power at once, with a surprise removal, and the slot enters Fault. (R317) -/
  | slotPowerFault (d : Nat)
  /-- SLOT_LOST: Presence lost for 10 µs, or the link out of L0 for 1 ms, abandons the drive's commands as a surprise removal. (R319) -/
  | slotLost (d : Nat) (gone : Bool)
  /-- SLOT_FAULT_CLEAR: FAULT_CLR, or presence deasserted, takes the slot out of Fault. (R317) -/
  | slotFaultClear (d : Nat) (gone : Bool)
  /-- ROCE_PACKET_RECEIVE: A RoCEv2 packet arrives and is checked, held, placed, acknowledged or NAKed for its QP. (R331) -/
  | rocePacketReceive
  /-- ROCE_ACK_TIMER: ACK_US passes with packets unacknowledged, so an ACK is sent. (R331) -/
  | roceAckTimer (q : Nat)
  /-- ROCE_ACK_TIMEOUT: The ack timeout expires, so the sender retransmits from UNA_PSN or puts the QP in Error at exhaustion. (R332) -/
  | roceAckTimeout (q : Nat)
  /-- ROCE_RNR_WAIT_EXPIRE: The RNR wait stated by the peer ends, and the send is retried. (R332) -/
  | roceRnrWaitExpire (q : Nat)
  /-- ROCE_RATE_INCREASE: Each AI_US without a CNP adds AI_STEP to the QP's send rate. (R324) -/
  | roceRateIncrease (q : Nat)
  /-- SR_NAK_REPEAT: Every SR_NAK_US an unfilled selective-repeat gap is NAKed again. (R333) -/
  | srNakRepeat (q : Nat)
  /-- MISS_HOLD_TIMEOUT: A packet held in the miss buffer longer than MISS_TO is discarded. (R329) -/
  | missHoldTimeout
  /-- CONTEXT_FETCH_DONE: A context fetch completes, or fails, and the held packets for the QP are processed or discarded. (R328) -/
  | contextFetchDone (x : Nat)
  /-- CONTEXT_WRITEBACK_DONE: A context write-back completes; the slot is freed, or is revived when the QP has held work. (R330) -/
  | contextWritebackDone (x : Nat) (success : Bool)
  /-- CREATE_QP: The PF4 Create QP command creates a queue pair from an image. (R338) -/
  | createQp (g : Nat)
  /-- MODIFY_QP: The PF4 Modify QP command applies the masked quadwords of an image, next keys included. (R338) -/
  | modifyQp (g : Nat)
  /-- QUERY_QP: The PF4 Query QP command returns the QP image with its key fields as 0. (R338) -/
  | queryQp (g : Nat)
  /-- DESTROY_QP: The PF4 Destroy QP command flushes the posted entries and destroys the QP. (R338) -/
  | destroyQp (g : Nat)
  /-- REGISTER_REGION: The PF4 Register Region command registers a memory region and returns its rkey. (R338) -/
  | registerRegion (g : Nat)
  /-- DEREGISTER_REGION: The PF4 Deregister Region command removes a memory region. (R338) -/
  | deregisterRegion (g : Nat)
  /-- POST_SEND: A Post Send entry starts a SEND, WRITE or READ on the QP named by BIND. (R338) -/
  | postSend (g : Nat)
  /-- POST_RECEIVE: A Receive entry posts a buffer for incoming SENDs on the QP. (R338) -/
  | postReceive (g : Nat)
  /-- HEARTBEAT_SEND: Every HB_US each twin sends its heartbeat block on the mirror QP and as a raw frame. (R342) -/
  | heartbeatSend
  /-- HEARTBEAT_RECEIVE: A twin heartbeat arrives and drives role negotiation and the CFG_CRC check. (R343) -/
  | heartbeatReceive (raw : Bool)
  /-- TWIN_SILENT: No heartbeat arrives for HB_MISS × HB_US, so the twin is silent and a Standby device takes over. (R342) -/
  | twinSilent
  /-- TWIN_SEEK_EXPIRE: SEEK_MS passes without a twin heartbeat, so a Seeking device becomes Active. (R343) -/
  | twinSeekExpire
  /-- SHAPER_REFILL: Every 1 µs all shaper buckets and policer buckets refill at once, up to their caps. (R356) -/
  | shaperRefill
  /-- CORE_FAULT: A thread fault stops the whole core, aborts its reservations and applies the retire policy. (R367) -/
  | coreFault (k : Nat) (c : Nat) (fcode : Nat) (t : Nat) (pc : Nat)
  /-- CORE_WATCHDOG_EXPIRE: No thread of the core retires an instruction for 10 ms, which faults the core with FCODE 7. (R367) -/
  | coreWatchdogExpire (k : Nat) (c : Nat) (t : Nat) (pc : Nat) (since : Nat)
  /-- CORE_RESTART: The RESTART command warm-starts the partition on a Stopped core. (R368) -/
  | coreRestart (who : Nat) (k : Nat) (c : Nat)
  /-- CORE_RETIRE: The RETIRE command moves the core's logical position to the spare and warm-starts the partition there. (R368) -/
  | coreRetire (who : Nat) (k : Nat) (c : Nat)
  /-- CORE_RESTORE: The RESTORE command runs the self-test of a Retired core. (R368) -/
  | coreRestore (k : Nat) (c : Nat)
  /-- CORE_SELF_TEST_DONE: The core self-test ends, and the core becomes the spare or stays Retired. (R368) -/
  | coreSelfTestDone (k : Nat) (c : Nat) (pass : Bool)
  /-- CLUSTER_RELOAD: The RELOAD command stops the cluster's cores, invalidates its L2 and cold-starts its partitions. (R369) -/
  | clusterReload (who : Nat) (k : Nat)
  /-- CLUSTER_RELOAD_DONE: A reload completes and the cluster returns to Running. (R369) -/
  | clusterReloadDone (k : Nat)
  /-- CHANNEL_RESERVE: A read of a channel's RESV port reserves a slot, or returns Busy, Full or Aborted. (R371) -/
  | channelReserve (who : Nat) (ch : Nat)
  /-- CHANNEL_WORD_WRITE: A message word is written to the reserved slot, and the write of word LAST commits the message. (R372) -/
  | channelWordWrite (who : Nat) (ch : Nat) (w : Nat) (val : Word)
  /-- CHANNEL_POP: A write of POP frees the channel's head slot. (R374) -/
  | channelPop (ch : Nat)
  /-- DEBUG_HALT: The debugger halts a thread, which keeps its reservation, and the hold count starts. (R373) -/
  | debugHalt (agent : Nat)
  /-- DEBUG_RESUME: The debugger resumes a halted thread. (R373) -/
  | debugResume (agent : Nat)
  /-- CHANNEL_HOLD_TIMEOUT: A holder stays halted for HOLD_US, so its reservation is aborted. (R373) -/
  | channelHoldTimeout (ch : Nat)
  /-- CORE_DEADLOCK: A core stays all-waiting for DL_US, so the deadlock is raised and, with DL_ACT, the core faults. (R375) -/
  | coreDeadlock (k : Nat) (c : Nat) (t : Nat) (pc : Nat) (since : Nat)
  /-- FW_TX_DOORBELL: A write of a cluster's TXTAIL submits firmware transmit entries, which may return two-step timestamps. (R376) -/
  | fwTxDoorbell (k : Nat) (val : Word)
  /-- DMA_START: START loads the chain's first descriptor and runs the channel, or holds it paused. (R386) -/
  | dmaStart (who : Nat) (ch : Nat) (pause : Bool)
  /-- DMA_PAUSE: PAUSE written 1 stops the channel issuing reads and starts draining the data already read. (R386) -/
  | dmaPause (ch : Nat)
  /-- DMA_RESUME: PAUSE written 0 resumes a Paused channel at SRC_CUR. (R386) -/
  | dmaResume (ch : Nat)
  /-- DMA_ABORT: ABORT ends the channel in Error with ERR 1 once its write responses return. (R386) -/
  | dmaAbort (ch : Nat)
  /-- DMA_READ_DATA: Read data arrives for a channel and is written or compared. (R383) -/
  | dmaReadData (ch : Nat) (ecc : Bool)
  /-- DMA_WRITE_RESPONSE: A write response advances P; completing a descriptor loads the next one, or reaches Done or Paused. (R385) -/
  | dmaWriteResponse (ch : Nat) (good : Bool)
  /-- MEM_REFRESH_DUE: A bank's refresh interval elapses, and the refresh is paid, owed or forced. (R396) -/
  | memRefreshDue (c : Nat) (ch : Nat) (bank : Nat) (idle : Bool) (rfm : Nat) (hit : List Nat)
  /-- MEM_TEMP_READ: Every 4 ms die temperatures are read, and the refresh rate may change. (R396) -/
  | memTempRead (temps : List Int)
  /-- BULK_IDLE_SELF_REFRESH: No request reaches the bulk class for IDLE_US, so each channel enters self-refresh with its masks. (R397) -/
  | bulkIdleSelfRefresh
  /-- MEM_RETRAIN_DUE: RETRAIN_MS passes, or the temperature changes by 10 °C, so a channel's interval update falls due. (R400) -/
  | memRetrainDue (c : Nat) (ch : Nat)
  /-- MEM_RETRAIN_DEADLINE: An update still not done DEADLINE_MS after it fell due is done at the next idle gap. (R400) -/
  | memRetrainDeadline (c : Nat) (ch : Nat)
  /-- MEM_RETRAIN_REQUEST: A write of MEM_TRAIN_CMD.GO requests retraining of one channel. (R401) -/
  | memRetrainRequest (val : Word)
  /-- MEM_TEST_START: A write of MEM_TEST.GO starts, or refuses, a destructive march test over a bulk range. (R402) -/
  | memTestStart
  /-- MEM_TEST_ABORT: A write of MEM_TEST.ABORT stops the test at the next 64 KiB boundary. (R402) -/
  | memTestAbort
  /-- MEM_TEST_DONE: The march test ends, zeroes its range and reports pass or fail. (R402) -/
  | memTestDone (pass : Bool)
  /-- MEM_REPAIR_REQUEST: A write of MEM_REPAIR_CMD.GO queues the repair of a DRAM row. (R403) -/
  | memRepairRequest (val : Word)
  /-- MEM_REPAIR_WAIT_EXPIRE: No quiet window opens within REPAIR_WAIT_MS, so the repair starts at the next idle gap. (R403) -/
  | memRepairWaitExpire
  /-- MEM_REPAIR_DONE: A row repair ends; the bank reopens and the repair is logged in MRAM. (R403) -/
  | memRepairDone (c : Nat) (success : Bool) (remapped : Bool) (die : Nat) (bank : Nat) (row : Nat)
  /-- MEM_SCRUB_PASS: The patrol scrubber reads every sector once in each SCRUB_H hours. (R391) -/
  | memScrubPass
  /-- MEM_RD_EPOCH_END: A 4 ms row-tracking epoch ends and requester throttles are lifted. (R394) -/
  | memRdEpochEnd
  /-- DRAM_ECC_ERROR: An access finds a corrected or uncorrectable ECC error, which is corrected or returned poisoned. (R391) -/
  | dramEccError (c : Nat) (off : Nat) (ue : Bool) (req : Nat) (row : Nat)
  /-- MEM_ECC_POP: A read of MEM_ECC_LO returns and pops the oldest ECC FIFO entry. (R391) -/
  | memEccPop (who : Nat)
  /-- MRAM_DATA_READ: A read of MEM_MRAM_DATA_LO reads the MRAM word at OFFSET. (R406) -/
  | mramDataRead (who : Nat)
  /-- MRAM_DATA_WRITE: A write of MEM_MRAM_DATA_HI writes the 8-byte MRAM word, or is refused. (R407) -/
  | mramDataWrite (who : Nat) (val : Word)
  /-- ROM_BOOT: At reset release the ROM checks the slots, chooses one and starts stage 2, or enters the recovery loader. (R414) -/
  | romBoot (straps : Nat) (mib : Nat) (bad : Nat)
  /-- STAGE2_BOOT: Stage 2 trains memory, copies and checks components, makes the initial commits and starts the partitions. (R416) -/
  | stage2Boot (bad : Bool)
  /-- RECOVERY_PING: The recovery Ping command is answered. (R418) -/
  | recoveryPing (good : Bool)
  /-- RECOVERY_PROVISION: The recovery Provision command programs a blank OTP key digest. (R418) -/
  | recoveryProvision (good : Bool) (digest : List Byte)
  /-- RECOVERY_LOAD: The recovery Load command copies bytes into the loader area. (R418) -/
  | recoveryLoad (good : Bool) (off : Nat) (data : List Byte)
  /-- RECOVERY_RUN: The recovery Run command checks the loaded image and runs it if it passes. (R418) -/
  | recoveryRun (good : Bool)
  /-- RECOVERY_STATUS: The recovery Status command returns the slot REASONs and the OTP state. (R418) -/
  | recoveryStatus (good : Bool)
  /-- FLOOR_PROGRAM: BOOT_FLOOR_CMD.GO programs the next roll-back floor word, or is refused. (R419) -/
  | floorProgram
  /-- DEVICE_REBOOT: A write of BOOT_CTRL.REBOOT resets the device. (R467) -/
  | deviceReboot
  /-- DEVICE_REBOOT_ALT: A write of REBOOT_ALT resets the device with the running slot tried last. (R417) -/
  | deviceRebootAlt
  /-- UPDATE_BEGIN: Update Begin targets the other slot and starts erasing it. (R424) -/
  | updateBegin (g : Nat)
  /-- UPDATE_WRITE: Update Write programs and reads back data in the target slot. (R424) -/
  | updateWrite (g : Nat)
  /-- UPDATE_FINISH: Update Finish reads the whole slot back and checks it. (R424) -/
  | updateFinish (g : Nat)
  /-- UPDATE_ABORT: Update Abort stops the update after the flash operation in progress. (R424) -/
  | updateAbort (g : Nat)
  /-- FLASH_ERASE_DONE: A sector erase completes; the next sector is erased, or the engine enters Writing. (R424) -/
  | flashEraseDone
  /-- FLASH_PROGRAM_DONE: A page program completes and is read back, advancing the Update Write or the SEQ commit. (R424) -/
  | flashProgramDone (got : List Byte)
  /-- UPDATE_CHECK_DONE: The Finish check ends, and the SEQ page is programmed or the update fails. (R424) -/
  | updateCheckDone
  /-- LOAD_PARTITION: Load Partition checks a partition package and places it in the pending copy. (R427) -/
  | loadPartition (g : Nat)
  /-- ACTIVATE_PARTITION: Activate Partition stops the partition, swaps in the pending copy and cold-starts it. (R428) -/
  | activatePartition (g : Nat)
  /-- PARTITION_ACTIVATE_REG: A write of BOOT_PARTp_CTRL.ACTIVATE from a Spindle thread of another cluster activates a protected partition. (R428) -/
  | partitionActivateReg (who : Nat) (p : Nat)
  /-- CAL_SAMPLE_PERIOD: A sampling filtered counter reaches PERIOD and fires a sampling interrupt or event source 481. (R436) -/
  | calSamplePeriod (j : Nat) (agent : Nat)
  /-- COUNTER_WRAP: A counter wraps, feeding its chained counter and possibly setting OVF and raising event source 480. (R435) -/
  | counterWrap (e : Nat)
  /-- HISTOGRAM_CLEAR: A write of CLEAR zeroes the unit's bins and MAX in one cycle. (R440) -/
  | histogramClear (u : Nat)
  /-- HISTOGRAM_SAMPLE: A probe occurrence is binned, or counted in MISSED while the unit is frozen. (R438) -/
  | histogramSample (probe : Nat) (index : Nat) (v : Nat)
  /-- EVENT_RELEASE: A held event record's 2 µs hold ends, and it is released in R68 order to its routes. (R447) -/
  | eventRelease
  /-- RATE_LIMIT_WINDOW_END: A 100 ms rate-limit window ends with causes counted, so a summary record is raised. (R448) -/
  | rateLimitWindowEnd (src : Nat) (inst : Nat)
  /-- JOURNAL_SLOT_WRITTEN: A journal slot write of 540 ns completes and the next queued record is written. (R453) -/
  | journalSlotWritten
  /-- EVT_OUT_PULSE_END: The EVT_OUT pulse ends OUT_PULSE_US after the last record routed to it. (R451) -/
  | evtOutPulseEnd
  /-- EVENT_BUFFER: The PF0 Event Buffer entry is posted to receive one event record. (R456) -/
  | eventBuffer (g : Nat)
  /-- JOURNAL_READ: The PF0 Journal Read command copies consecutive valid records from a given JSEQ. (R456) -/
  | journalRead (g : Nat)
  /-- RAISE_TEST: The PF0 Raise Test command raises event source 498. (R456) -/
  | raiseTest (g : Nat)
  /-- INTERNAL_RAM_ERROR: An internal RAM error is corrected, restarts the item whose state it hit, or is a device fault. (R458) -/
  | internalRamError (blk : Nat) (what : RamState)
  /-- WATCHDOG_KICK: A write of EVT_WDOG_KICK restarts the device watchdog. (R459) -/
  | watchdogKick
  /-- WATCHDOG_HALF: The device watchdog reaches half its timeout, raising event source 7. (R459) -/
  | watchdogHalf
  /-- WATCHDOG_EXPIRE: The device watchdog expires, which is a device fault. (R459) -/
  | watchdogExpire
  /-- VAUX_POWER_ON: VAUX rises past VAUX_LOW and the always-on domain leaves reset. (R467) -/
  | vauxPowerOn (mv : Nat)
  /-- VAUX_LOW: VAUX falls below VAUX_LOW, resetting the always-on island and releasing the by-pass drives. (R461) -/
  | vauxLow (mv : Nat)
  /-- VIN_ON: VIN crosses VIN_ON, the input stage starts and the rails come into regulation. (R462) -/
  | vinOn (mv : Nat)
  /-- VIN_OFF: VIN falls below VIN_OFF, so the device is unpowered and the by-pass drives are released. (R461) -/
  | vinOff (mv : Nat)
  /-- SUPPLY_TRIP: A rail leaves regulation for 10 µs while running, which is a device fault. (R462) -/
  | supplyTrip (rail : Nat) (back : Bool)
  /-- PWR_OK_GLITCH: PWR_OK falls for under 10 µs, raising event source 15. (R477) -/
  | pwrOkGlitch (rail : Nat)
  /-- RESET_N_ASSERT: RESET_N held low holds the device in reset. (R469) -/
  | resetNAssert
  /-- RESET_N_RELEASE: The release of RESET_N starts the ROM. (R469) -/
  | resetNRelease
  /-- THERMAL_WARNING: A junction reading reaches WARN_C, raising event source 13. (R463) -/
  | thermalWarning (t : Int)
  /-- THERMAL_TRIP: A junction reading of 165 °C is a thermal trip and a device fault. (R463) -/
  | thermalTrip (t : Int)
  /-- THERMAL_TRIP_CLEAR: After a thermal trip the reading falls to 140 °C and the reset hold ends. (R463) -/
  | thermalTripClear (t : Int)
  /-- NV_REFUSAL_START: VIN falls below VNV_LOCK or PWRFAIL_N is asserted, so flash, MRAM and OTP writes are refused. (R464) -/
  | nvRefusalStart (pin : Bool) (mv : Nat)
  /-- NV_REFUSAL_END: The causes have been clear for 10 ms, so non-volatile writes resume and waiting writes go on. (R464) -/
  | nvRefusalEnd (mv : Nat) (since : Nat)
  /-- STANDBY_HOLD_ASSERT: STBY_REQ_N asserted, or PWR_STBY.ENTER, creates a Standby hold and starts entry. (R471) -/
  | standbyHoldAssert (soft : Bool)
  /-- STANDBY_DRIVE_WAIT_DONE: Drive commands and shutdowns finish, or their bounds run out, and entry continues to step 5. (R472) -/
  | standbyDriveWaitDone
  /-- WAKE_TIMER_EXPIRE: PWR_WAKE_TIMER expires with TIMER enabled and clears SOFT. (R471) -/
  | wakeTimerExpire
  /-- STANDBY_HOLD_RELEASE: The last Standby hold is removed and the device starts to wake. (R471) -/
  | standbyHoldRelease
  /-- REGISTER_READ_CLEAR: A read of an RC field returns its value and clears the field as a side effect. (R8) -/
  | registerReadClear (who : Nat) (addr : Nat)
  /-- MEMORY_SPACE_ENABLE: Memory Space Enable set lets the function accept register and doorbell writes again. (R278) -/
  | memorySpaceEnable (f : Nat)
  /-- MSIX_VECTOR_UNMASK: A vector's mask is cleared in the MSI-X table, and a vector with its pending bit set is sent. (R268) -/
  | msixVectorUnmask (f : Nat) (e : Nat)
  /-- PFC_PAUSE_TIME_EXPIRE: The pause time of a received PFC frame runs out and the paused priority may send again. (R101) -/
  | pfcPauseTimeExpire (port : Nat) (prio : Nat)
  /-- HARMONIC_RECORD_WRITTEN: A channel's harmonic computation ends, up to 2 ms after its trigger, and its record is written. (R205) -/
  | harmonicRecordWritten (c : Nat)
  /-- HEARTBEAT_PATH_SILENT: One heartbeat path has delivered nothing for HB_MISS × HB_US, so its path bit falls and event source 363 is raised. (R342) -/
  | heartbeatPathSilent (raw : Bool)
  /-- MEM_RETRAIN_DONE: Full retraining of a bulk channel ends, up to 200 µs after it began, the channel resumes and event source 453 is raised. (R401) -/
  | memRetrainDone (ch : Nat)
  /-- FLOOR_PROGRAM_DONE: The OTP floor word program ends and BOOT_FLOOR_CMD.STATE goes from Busy to Done. (R419) -/
  | floorProgramDone
  /-- VIN_OUT_OF_RANGE: VIN leaves the range 6.0 V to 60 V and event source 12 is raised. (R477) -/
  | vinOutOfRange (mv : Nat)
  /-- VAUX_WARNING: VAUX falls below 3.1 V and event source 14 is raised. (R477) -/
  | vauxWarning (mv : Nat)
  /-- THERMAL_WARNING_END: The junction reading falls below WARN_C, THERM_N is released, and at 5 °C below WARN_C the warning re-arms. (R463) -/
  | thermalWarningEnd (t : Int)
  /-- CLK25M_IN_ABSENT: CLK25M_IN goes absent, and the always-on domain runs from its internal oscillator until the clock returns. (R15) -/
  | clk25mInAbsent (present : Bool)
  /-- OSC_CLOCK_DETECTED: Edges appear again on CLK10M_IN or OCXO_IN and its OK bit in TIM_STATUS rises. (R487) -/
  | oscClockDetected (ocxo : Bool)
  /-- FUNCTION_INIT_DONE: A function finishes its reset or initialisation after PERST_N, a function-level reset with no reads owed, VF Enable or D0 entry, becomes ready and sends FRS. (R280) -/
  | functionInitDone (f : Nat)
  /-- DEBUG_PORT_ATTACH: JTAG_MODE changes, attaching or detaching Spindle debug access and raising event source 496. (R444) -/
  | debugPortAttach (op : JtagOp)
  deriving DecidableEq, Repr

end Sys2Proof
end

