-- ==== Sys2Proof/Config.lean ====
section
/-!
DEFINITION. The free values: what the spec leaves open after an effect it does state. None has a body, so nothing can be proved of
a value of it; a statement about one holds for every value. The first argument of most is a fresh number: the state's counter
`free`, which a step reads and advances, so that two uses are unrelated.
-/
namespace Sys2Proof.Config

/-- A value the spec leaves open, as a number (see the assumption log for each use). -/
opaque freeNat : Nat → Nat

/-- The unique die identifier that GLB_UID reads (64 bits). -/
opaque uid : Nat

/-- How far the device's arithmetic leaves the frequency of a Grain loop from that of R70, before the bounds of log 22. -/
opaque grainInc : Nat → Nat

/-- How far it leaves the frequency estimate of a Grain loop from the integral term (R70), before the bounds of log 22. -/
opaque grainEst : Nat → Nat

/-- The ratio measured between the GTC and the 25 MHz counter (R51), in 2^-32 ns for each count. -/
opaque aoRatio : Nat → Nat

/-- A message authentication code: algorithm code, key words, bytes covered (R152, R229, R337). -/
opaque mac : Nat → List Nat → List Byte → List Byte

/-- A SHA digest of the bytes (R413). -/
opaque sha : List Byte → List Byte

/-- Does a signature verify (R413, R420): public key, signature, bytes covered? -/
opaque sigOk : List Byte → List Byte → List Byte → Bool

/-- The encodings that R420 does not give, of the values of TLVs 0x0003 and 0x0004. A partition is the list of its number, cluster,
COLD, logical-core mask, thread masks, region base and size, entry offset, and base of its pending copy. The function layout is TotalVFs
of PF1 to PF4, then function, MSI-X FIRST, MSI-X SIZE and ring allowance of each function, then the Subsystem IDs. -/
opaque partTable : List Byte → List (List Nat)
opaque fnLayout : List Byte → List Nat × List (Nat × Nat × Nat × Nat) × Nat

/-- The real-time class offset at which stage 2 puts the checked copy of the configuration image (R416, R421). -/
opaque cfgCopyBase : Nat

/-- CFG_CRC of an image, which the image carries at a place that the spec does not give (R342). -/
opaque cfgCrc : List Byte → Nat

/-- The security extension of IEC 62351-6:2020 in its bytes: key identifier, algorithm code, MAC octets (R152, R153). -/
opaque secKeyId : List Byte → Nat
opaque secAlg : List Byte → Nat
opaque secMac : List Byte → List Byte

/-- Which of its two neighbours a term or a sum takes when it does not fit the number format of R202 (true: the one above), and the
exponent below which a sum of squares no longer scales down. -/
opaque roundUp : Rat → Bool
opaque sqExpMin : Int

/-- The ratio of a circle's circumference to its diameter, as the engine has it. -/
opaque piR : Rat

/-- Real functions of the phasor formulas (R199 to R205), on rational arguments. An angle is a number of turns. -/
opaque cosTurn : Rat → Rat
opaque sinTurn : Rat → Rat
opaque sqrtR : Rat → Rat
opaque atan2Turn : Rat → Rat → Rat

/-- The reset value of a configuration-space register that only the PCI Express base specification gives: function, offset. -/
opaque cfgReset : Nat → Nat → Nat

/-- The invariant CRC of a RoCEv2 packet over the bytes it covers (R322). -/
opaque icrc : List Byte → Nat

/-- The IP header of a sent packet: source and destination address of 16 bytes, DSCP, and the length of what follows it. -/
opaque ipHeader : List Byte → List Byte → Nat → Nat → List Byte

/-- AES-256-GCM (R335): key, IV, associated data, text; the sealed text with its tag, or the opened text if the tag agrees. -/
opaque gcmSeal : List Byte → Nat → List Byte → List Byte → List Byte
opaque gcmOpen : List Byte → Nat → List Byte → List Byte → Option (List Byte)

/-- RFC 3394 key wrapping under the key of a device reset (R327), and its inverse. -/
opaque wrapKey : Nat → List Byte → List Byte
opaque unwrapKey : Nat → List Byte → List Byte

/-- The MAC address of a fabric sub-port, and the destination address of raw heartbeats (R342). -/
opaque fabricMac : Nat → Nat
opaque heartbeatMac : Nat

/-- What the NVMe specifications leave to the device in an Identify structure or a log page: its kind and number, and the bytes
(R302). -/
opaque nvmeBytes : Nat → Nat → Nat → List Byte

/-- The ingress link delay of a port in ns, as its peer-delay measurement last gave it (R63): the port and a fresh number. -/
opaque linkDelay : Nat → Nat → Nat

/-- The number of cells of the boundary-scan register (R488). -/
opaque boundaryCells : Nat

/-- The RNR timer code that a receiver states (R332). -/
opaque rnrCode : Nat

end Sys2Proof.Config
end

