-- ==== Sys2Proof/Machine/Store.lean ====
section
/-!
DEFINITION. Sparse keyed storage in one canonical form, and byte and word packing.

Registers, table banks, byte memories and keyed tables of records are all `Tab α`: a list of (key, value) pairs with keys strictly
rising, none of whose values is the value that an unlisted key reads as. Two tables that read alike everywhere are then equal
data. `cellGet` reads a key, `cellSet` writes one and keeps the form, `cellsWf` says the form holds.
-/
namespace Sys2Proof.Machine

/-- A sparse table from natural keys to values. -/
abbrev Tab (α : Type) := List (Nat × α)

/-- The value at key `a`; an unlisted key reads `d a`. -/
def cellGet {α : Type} (d : Nat → α) : Tab α → Nat → α
  | [], a => d a
  | (k, v) :: t, a => if a < k then d a else if a = k then v else cellGet d t a

/-- Write `v` at key `a`. Writing what an unlisted key reads as removes the entry. -/
def cellSet {α : Type} [DecidableEq α] (d : Nat → α) : Tab α → Nat → α → Tab α
  | [], a, v => if v = d a then [] else [(a, v)]
  | (k, w) :: t, a, v =>
    if a < k then (if v = d a then (k, w) :: t else (a, v) :: (k, w) :: t)
    else if a = k then (if v = d a then t else (a, v) :: t)
    else (k, w) :: cellSet d t a v

/-- Every key of the table is at least `lo`, keys rise strictly, and no entry equals its unlisted value. -/
def cellsWfFrom {α : Type} [DecidableEq α] (d : Nat → α) : Nat → Tab α → Bool
  | _, [] => true
  | lo, (k, v) :: t => decide (lo ≤ k) && !decide (v = d k) && cellsWfFrom d (k + 1) t

/-- The canonical form of a table. -/
def cellsWf {α : Type} [DecidableEq α] (d : Nat → α) (t : Tab α) : Bool := cellsWfFrom d 0 t

/-- Remove every entry whose key meets `p`, so those keys read as unlisted. -/
def cellDrop {α : Type} (p : Nat → Bool) : Tab α → Tab α
  | [] => []
  | (k, v) :: t => if p k then cellDrop p t else (k, v) :: cellDrop p t

/-- The record at key `a` of a table of records; an unlisted key reads the type's default record. -/
def tabGet {α : Type} [Inhabited α] (t : Tab α) (a : Nat) : α := cellGet (fun _ => default) t a

/-- Write the record at key `a`. -/
def tabSet {α : Type} [Inhabited α] [DecidableEq α] (t : Tab α) (a : Nat) (v : α) : Tab α :=
  cellSet (fun _ => default) t a v

/-- Change the record at key `a` by `f`. -/
def tabUpd {α : Type} [Inhabited α] [DecidableEq α] (t : Tab α) (a : Nat) (f : α → α) : Tab α :=
  tabSet t a (f (tabGet t a))

/-- Little-endian bytes of `v`, `n` of them. -/
def leBytes : Nat → Nat → List Byte
  | 0, _ => []
  | n + 1, v => BitVec.ofNat 8 v :: leBytes n (v / 256)

/-- Big-endian bytes of `v`, `n` of them (network order). -/
def beBytes (n v : Nat) : List Byte := (leBytes n v).reverse

/-- The number whose little-endian bytes are given. -/
def leNat : List Byte → Nat
  | [] => 0
  | b :: t => b.toNat + 256 * leNat t

/-- The number whose big-endian bytes are given. -/
def beNat (l : List Byte) : Nat := leNat l.reverse

/-- Bytes `off` to `off + n - 1` of a list (fewer where the list ends). -/
def slice (l : List Byte) (off n : Nat) : List Byte := (l.drop off).take n

/-- The big-endian number in `n` bytes at `off`. -/
def beAt (l : List Byte) (off n : Nat) : Nat := beNat (slice l off n)

/-- The little-endian number in `n` bytes at `off`. -/
def leAt (l : List Byte) (off n : Nat) : Nat := leNat (slice l off n)

/-- Replace the bytes of `l` from `off` on by `p`, keeping the length of `l`. -/
def patch (l : List Byte) (off : Nat) (p : List Byte) : List Byte :=
  l.take off ++ (p ++ l.drop (off + p.length)).take (l.length - off)

/-- Write consecutive bytes into a byte memory whose unlisted bytes read `d`. -/
def memWrite (d : Nat → Byte) : Tab Byte → Nat → List Byte → Tab Byte
  | m, _, [] => m
  | m, a, b :: t => memWrite d (cellSet d m a b) (a + 1) t

/-- Read `n` consecutive bytes of a byte memory. -/
def memRead (d : Nat → Byte) (m : Tab Byte) : Nat → Nat → List Byte
  | _, 0 => []
  | a, n + 1 => cellGet d m a :: memRead d m (a + 1) n

/-- The unsigned field of width `w` at bit `lo` of `v`. -/
def bitsOf (v lo w : Nat) : Nat := v / 2 ^ lo % 2 ^ w

/-- Is bit `i` of `v` set? -/
def bitOf (v i : Nat) : Bool := v / 2 ^ i % 2 == 1

/-- `v` with bit `i` set to `b`. -/
def setBit (v i : Nat) (b : Bool) : Nat :=
  if bitOf v i = b then v else if b then v + 2 ^ i else v - 2 ^ i

/-- The signed number that `w` bits of two's complement spell. -/
def sgn (w v : Nat) : Int := if v % 2 ^ w < 2 ^ (w - 1) then (v % 2 ^ w : Nat) else (v % 2 ^ w : Nat) - (2 ^ w : Nat)

/-- Two's complement of a signed number in `w` bits. -/
def unsgn (w : Nat) (i : Int) : Nat := (i % ((2 ^ w : Nat) : Int)).toNat

/-- Saturating addition at `2^w - 1`. -/
def satAdd (w a b : Nat) : Nat := min (a + b) (2 ^ w - 1)

/-- A truth value as a bit. -/
def b2n (b : Bool) : Nat := if b then 1 else 0

/-- Apply `f` for each element, left to right. -/
def forEach {σ α : Type} (l : List α) (f : α → σ → σ) (s : σ) : σ :=
  match l with
  | [] => s
  | a :: t => forEach t f (f a s)

end Sys2Proof.Machine
end

