-- ==== Sys2Proof/Machine/Parts.lean ====
section
/-!
DEFINITION. The records the state is made of, for the shared mechanisms, the event unit, the timebase, the host interface and the
rings. Registers are not here: they are in the register store, each in one place.
-/
namespace Sys2Proof.Machine

/-- A holding register of R36 (read or write side) or a held half value (R48, R56). -/
structure Hold where
  valid : Bool := false
  addr : Nat := 0
  val : Nat := 0
  deriving DecidableEq, Repr, Inhabited

/-- The copy of one entry that an indirect window holds (R46). -/
structure WinCopy where
  valid : Bool := false
  entry : Nat := 0
  shadow : Bool := false
  words : List Nat := []
  changed : Bool := false
  deriving DecidableEq, Repr, Inhabited

/-- A staging window beyond its registers (R39): the staged words and the tick of ARM. -/
structure StageSt where
  staged : Tab (Option Nat) := []
  armTick : Nat := 0
  deriving DecidableEq, Repr, Inhabited

/-- An item of an event record: its size in bits (8, 16, 32 or 64) and its value (R446). -/
structure Item where
  bits : Nat
  val : Nat
  deriving DecidableEq, Repr, Inhabited

/-- An event record (R445) before it is given its JSEQ. -/
structure EvRec where
  src : Nat := 0
  steps : Nat := 0
  gtc : Nat := 0
  tick : Nat := 0
  quality : Nat := 0
  grainV : Bool := false
  inst : Nat := 0
  angle : Nat := 0
  cycle : Nat := 0
  summary : Bool := false
  suppressed : Nat := 0
  items : List Item := []
  deriving DecidableEq, Repr, Inhabited

/-- An open rate-limit window (R448). -/
structure RateWin where
  src : Nat := 0
  inst : Nat := 0
  endTick : Nat := 0
  count : Nat := 0
  last : List Item := []
  deriving DecidableEq, Repr, Inhabited

/-- The event unit (chapter 22) beyond its registers. -/
structure EvtSt where
  held : List EvRec := []
  wins : List RateWin := []
  /-- The journal queue of R454, oldest first. Always-on domain. -/
  jq : List EvRec := []
  /-- Is the head of `jq` being written, and since which tick (R453)? -/
  jwriting : Bool := false
  jstart : Nat := 0
  /-- Records lost since non-volatile writes were refused (R454). -/
  jlost : Nat := 0
  /-- Tick at which the device watchdog last started, and whether half its time was reported (R459). -/
  wdogFrom : Nat := 0
  wdogHalf : Bool := false
  /-- End of the EVT_OUT pulse of OUT_MODE 1 (R451); 0 when none. -/
  outPulseEnd : Nat := 0
  deriving DecidableEq, Repr, Inhabited

/-- One Grain instance beyond its registers (R69 to R75). -/
structure GrainSt where
  /-- cycle count × 2^64 + the 64-bit phase accumulator. -/
  acc : Nat := 0
  /-- increment for each tick, in 2^-32 angle units (16 integer and 32 fraction bits). -/
  inc : Nat := 0
  /-- the increments that were in force before, newest first: the tick at which one ended, and it. -/
  incLog : List (Nat × Nat) := []
  /-- frequency estimate (R70) in the same unit, published in TIM_GRAINn_FREQ as binary32 Hz, and the integral term of the loop. -/
  est : Nat := 0
  integ : Nat := 0
  /-- accumulator at the start of the present run of updates within 2° (Acquiring) and beyond 10° (Locked). -/
  goodFrom : Option Nat := none
  badFrom : Option Nat := none
  /-- tick, GTC value and cycle count of the last valid update since entry to Acquiring from Off. -/
  lastValid : Option (Nat × Nat × Nat) := none
  /-- a valid update has arrived since the last entry to Acquiring (R73). -/
  validSince : Bool := false
  /-- tick from which the loss gap counts (R71). -/
  gapFrom : Nat := 0
  /-- validity, tick and angle ahead of the tracker of the latest primary and alternate updates (R74). -/
  priOk : Bool := false
  altOk : Bool := false
  priTick : Nat := 0
  altTick : Nat := 0
  priAngle : Nat := 0
  altAngle : Nat := 0
  /-- the differences of the last cycles, newest first, at most 16 (R74). -/
  deltas : List Nat := []
  /-- cycle increments already processed by the once-per-cycle measurement. -/
  wrapCycle : Nat := 0
  deriving DecidableEq, Repr, Inhabited

/-- One time source (R56, R57). -/
structure SrcSt where
  ofs : Int := 0
  /-- consecutive updates within threshold since it was last outside it. -/
  run : Nat := 0
  /-- updates not within threshold while it was valid and better than the selected source in Locked (R57). -/
  worse : Nat := 0
  misses : Nat := 0
  seen : Bool := false
  lastTick : Nat := 0
  deriving DecidableEq, Repr, Inhabited

/-- The timebase (chapter 3) beyond its registers. -/
structure TimSt where
  /-- the GTC in nanoseconds: seconds × 10^9 + nanoseconds (R47). -/
  gtc : Nat := 0
  /-- the sources 1 PTP, 2 1PPS_IN, 3 IRIGB_IN. -/
  srcs : Tab SrcSt := []
  /-- Acquiring was entered from Holdover (true) or from Free-run (false). -/
  fromHold : Bool := false
  /-- consecutive updates of the selected source within threshold since its selection (R57). -/
  lockRun : Nat := 0
  /-- a disagreement was already reported in this Locked spell (source 33). -/
  disagreed : Bool := false
  /-- GTC value and tick of the entry to Holdover that the timer counts from (R51, R57). -/
  holdFrom : Option (Nat × Nat) := none
  /-- the correction the DPLL applies, and since which tick (R53). -/
  applied : Int := 0
  appliedFrom : Nat := 0
  /-- (ticks, correction) spent in Locked, newest first, for the mean of R53. -/
  lockedSegs : List (Nat × Int) := []
  /-- the mean that the last entry to Holdover applied (R53). -/
  mean : Int := 0
  /-- offset still to be slewed out, in 10^-9 ns, and the rate in ppb that is added while it is not 0 (R54). -/
  slew : Int := 0
  slewPpb : Nat := 0
  /-- a step has been taken while TIME_UNKNOWN was 1 (R59); held where TIME_UNKNOWN is. -/
  stepped : Bool := false
  /-- tick + 1 of the first change of the gate status of 1PPS_OUT since the last whole second, and the status before it (R67). -/
  gateTick : Nat := 0
  gateWas : Bool := false
  /-- marks that a higher mark's firing in tick `markTick` has taken with it (R78). -/
  markTick : Nat := 0
  markDone : List Nat := []
  /-- the last steps of the GTC, newest first, at most 16: tick and amount (R49). -/
  stepLog : List (Nat × Int) := []
  /-- always-on counter: GTC value and tick at the last correction, stored ratio in 2^-32 ns a count (R51). -/
  aoGtc : Nat := 0
  aoTick : Nat := 0
  aoRatio : Nat := 171798691840
  /-- the GTC stopped and the always-on counter carries time; what the state was then (R51). -/
  carried : Bool := false
  aoHold : Option (Nat × Nat) := none
  grains : Tab GrainSt := []
  /-- last firing of each mark: cycle count + 1; 0 none (R79). -/
  markCycle : Tab Nat := []
  /-- accumulator of the mark's instance at the commit that enabled or changed it (R77). -/
  markFrom : Tab Nat := []
  /-- latches of R48 for each requester: seconds of the GTC; cycle count (key who × 4 + instance). -/
  gtcLatch : Tab Nat := []
  cycLatch : Tab Nat := []
  /-- held TIM_PTP_OFS_SEC for each requester (R56). -/
  ofsSec : Tab Hold := []
  /-- end of the 1PPS_OUT pulse (R67); 0 when low. -/
  ppsEnd : Nat := 0
  deriving DecidableEq, Repr, Inhabited

/-- What a PCIe read is for. -/
inductive Purpose where
  | entry (g idx : Nat)          -- copy of ring entry idx (CONS count) of ring g (R290)
  | frag (g idx : Nat)           -- data of a job (R288)
  | table (g idx : Nat)          -- fragment table of a job (R288)
  | dmaDesc (ch : Nat)           -- DMA descriptor (R379)
  | dmaData (ch : Nat)           -- DMA source data (R383)
  | context (qp : Nat)           -- queue-pair context fetch (R328)
  | rdma (qp psn : Nat)          -- data of an RDMA READ response (R331)
  deriving DecidableEq, Repr, Inhabited

/-- Data of a read that has arrived for an engine, or its failure: `err` 1 timeout, 2 poisoned, 3 unexpected or malformed
completion, 4 UR or CA (R293). -/
structure Arrived where
  why : Purpose := .dmaDesc 0
  off : Nat := 0
  bytes : List Byte := []
  err : Nat := 0
  deriving DecidableEq, Repr, Inhabited

/-- An outstanding PCIe read (R272, R273). -/
structure ReadReq where
  fn : Nat := 0
  tag : Nat := 0
  addr : Nat := 0
  len : Nat := 0
  got : List Byte := []
  issue : Nat := 0
  why : Purpose := .dmaDesc 0
  /-- offset of this piece in the data it belongs to. -/
  off : Nat := 0
  /-- the job was cut or the function quiesced: data is discarded (R278). -/
  owed : Bool := false
  deriving DecidableEq, Repr, Inhabited

/-- Configuration-space state of one function; field defaults are the base specification's reset values. -/
structure FnCfg where
  mrrs : Nat := 2
  extTag : Bool := true
  relaxed : Bool := true
  tag10 : Bool := false
  ctoValue : Nat := 0
  ctoDisable : Bool := false
  numVfs : Nat := 0
  vfEnable : Bool := false
  /-- System Page Size, of the SR-IOV capability: bit n is 4 KiB × 2^n (R266). -/
  sysPage : Nat := 1
  /-- ECRC Check Enable and ECRC Generation Enable (R262). -/
  ecrcCheck : Bool := false
  ecrcGen : Bool := false
  /-- Base addresses: BARs 0 to 5, VF BARs 8 to 13, expansion ROM 16 (R30). -/
  bars : Tab Nat := []
  other : Tab Nat := []
  /-- tick of the function-level reset being completed, for the deadline of R279. -/
  flrTick : Nat := 0
  /-- reset or initialisation is under way: FUNCTION_INIT_DONE ends it (R280). -/
  initializing : Bool := false
  /-- an episode of cut jobs was reported (R296). -/
  cutReported : Bool := false
  deriving DecidableEq, Repr, Inhabited

/-- The host interface (chapter 12) beyond its registers. -/
structure HifSt where
  cfg : Tab FnCfg := []
  reads : List ReadReq := []
  /-- reads that wait for a free tag (R272). -/
  waiting : List ReadReq := []
  /-- data that waits for the DMA engine or the Tailstock link, oldest first. -/
  arrived : List Arrived := []
  /-- quarantined tags: (function, tag, tick of the timeout) (R276). -/
  quar : List (Nat × Nat × Nat) := []
  ariHier : Bool := false
  drsSent : Bool := false
  /-- Subsystem IDs from the image (R264). -/
  subsystem : Nat := 0
  /-- expansion ROM image copied at boot; empty when none passed (R269); what lies beyond it reads 0xFF. -/
  rom : List Byte := []
  /-- always-on: PME_En and PME_Status of PF0 (R281). -/
  pmeEn : Bool := false
  pmeStatus : Bool := false
  deriving DecidableEq, Repr, Inhabited

/-- A started job of a ring (R292). -/
structure Job where
  idx : Nat := 0
  qw : List Nat := []
  /-- fragments: (address, length). -/
  frags : List (Nat × Nat) := []
  /-- data read for the job so far: (offset in the job's data, bytes). -/
  data : List (Nat × List Byte) := []
  /-- reads still owed to it. -/
  owed : Nat := 0
  /-- a fragment table is still to be read (R288). -/
  indirect : Bool := false
  /-- its requests were cut (R296). -/
  cut : Bool := false
  /-- a buffer entry that has been posted and may be filled (R299, R456). -/
  posted : Bool := false
  /-- outcome: STATUS, DETAIL, LEN, RESULT, once it has ended. -/
  done : Option (Nat × Nat × Nat × Nat) := none
  deriving DecidableEq, Repr, Inhabited

/-- A ring (R285 to R299) beyond its descriptor registers. -/
structure RingSt where
  base : Nat := 0
  tail : Nat := 0
  ro : Bool := false
  prefetch : Nat := 0
  bind : Nat := 0
  vector : Nat := 0
  ien : Bool := false
  icount : Nat := 0
  itime : Nat := 0
  /-- entry copies that have arrived: (entry count, eight quadwords). -/
  copies : List (Nat × List Nat) := []
  /-- next entry count to read ahead. -/
  fetched : Nat := 0
  /-- started jobs, ring order. -/
  jobs : List Job := []
  /-- completions held because the function could not master (R296). -/
  heldDone : List Job := []
  /-- Destroy Ring has begun: the tag of nothing more is taken (R295). -/
  destroying : Bool := false
  /-- tick since which the head entry below TAIL has shown OWN = 0, and when that wait ends (R290). -/
  ownFrom : Option Nat := none
  ownEnd : Nat := 0
  /-- entries cut in the present episode (R296). -/
  cutCount : Nat := 0
  /-- counted completions not yet signalled, and the tick of the first (R294). -/
  unsig : Nat := 0
  unsigFrom : Nat := 0
  /-- ENTRIES, COMPLETIONS, REFETCH, CUT, BYTES_READ, BYTES_WRITTEN, INTERRUPTS (R299). -/
  cnt : List Nat := [0, 0, 0, 0, 0, 0, 0]
  deriving DecidableEq, Repr, Inhabited

/-- The states of the TAP controller of IEEE 1149.1 (R488). -/
inductive TapState where
  | testLogicReset | runTest | selectDr | captureDr | shiftDr | exit1Dr | pauseDr | exit2Dr | updateDr
  | selectIr | captureIr | shiftIr | exit1Ir | pauseIr | exit2Ir | updateIr
  deriving DecidableEq, Repr, Inhabited

/-- The TAP (R488): its controller, the instruction in force and its shift register, the data register being shifted (lowest bit first),
the update cells of the boundary-scan register, and TDO while it is driven. -/
structure TapSt where
  st : TapState := .testLogicReset
  ir : Nat := 1
  irShift : List Bool := []
  dr : List Bool := []
  cells : List Bool := []
  tdo : Option Bool := none
  deriving DecidableEq, Repr, Inhabited

/-- The levels of the pins that rules name (chapters 3, 11, 12, 14, 22 to 24); true = high. -/
structure Pins where
  resetN : Bool := true
  perstN : Bool := true
  pwrfailN : Bool := true
  stbyReqN : Bool := true
  wakeN : Bool := true
  pwrOk : Bool := true
  evtOut : Bool := false
  ppsOut : Bool := false
  trigIn : Bool := false
  thermN : Bool := true
  faultN : Bool := true
  rstoutN : Bool := true
  stbyInd : Bool := false
  spiWpN : Bool := false
  bulkResetN : Bool := false
  jtagMode : Bool := false
  /-- JTAG_TRST_N, which a pull-down holds low when nothing drives it. -/
  trstN : Bool := false
  tap : TapSt := {}
  clk25 : Bool := true
  straps : Nat := 0
  deriving DecidableEq, Repr, Inhabited

/-- The errors that R282's table names. -/
inductive AerErr where
  | receiver | badTlp | badDllp | replayTimeout | replayRollover | correctedInternal | completionTimeout | unexpectedCompletion
  | poisoned | ecrc | malformed | unsupportedRequest | uncorrectableInternal
  deriving DecidableEq, Repr, Inhabited

/-- The error messages (R262). -/
inductive ErrMsg where
  | cor | nonfatal | fatal
  deriving DecidableEq, Repr, Inhabited

/-- What the device gives out, or what is seen to happen outside it. The list of these in the state is the model's own. -/
inductive Out where
  | frame (port : Nat) (bytes : List Byte) (badFcs : Bool)
  | pfc (port prio : Nat) (xoff : Bool)
  | dmaWrite (f addr : Nat) (bytes : List Byte) (relaxed : Bool)
  | dmaRead (f tag addr len : Nat)
  | msix (f entry : Nat)
  | frs (f : Nat)
  | drs
  | pme
  | aer (f : Nat) (err : AerErr) (msg : ErrMsg)
  | crs (f : Nat)
  | urReply (f : Nat)
  | cfgReply (f val : Nat)
  | drive (d id op lba n : Nat) (fua : Bool) (bytes : List Byte)
  | driveReset (d : Nat)
  | nvme (f qid cid status result : Nat) (bytes : List Byte)
  | rdma (path : Nat) (bytes : List Byte)
  | threadIrq (agent : Nat)
  | recovery (bytes : List Nat)
  deriving DecidableEq, Repr, Inhabited

end Sys2Proof.Machine
end

