-- ==== Sys2Proof/Machine/PartsNet.lean ====
section
/-!
DEFINITION. The records of the ports, the pipelines, the forwarding tables and the scheduler (chapters 4, 5, 6 and 16).
-/
namespace Sys2Proof.Machine

/-- A received frame with its stamps (R62): bytes from the destination address to before the FCS, as the redundancy unit delivers
them. -/
structure RxFrame where
  bytes : List Byte := []
  port : Nat := 0
  /-- GTC values of the start and end stamps. -/
  startGtc : Nat := 0
  endGtc : Nat := 0
  /-- tick of the last bit. -/
  endTick : Nat := 0
  /-- TIM_STATUS.STEPS at the end stamp, and at the start stamp. -/
  steps : Nat := 0
  startSteps : Nat := 0
  /-- metadata bytes of R111. -/
  metad : List Byte := []
  /-- handed off through queue 4,093 (R115). -/
  goose : Bool := false
  /-- the class that its action word gave it (R114). -/
  cls : Option Nat := none
  deriving DecidableEq, Repr, Inhabited

/-- A frame in a scheduler queue. -/
structure QFrame where
  bytes : List Byte := []
  port : Nat := 0
  cls : Nat := 0
  colour : Nat := 0
  prio : Nat := 0
  /-- fabric sub-port × 8 + priority whose PFC use it counts in, plus 1; 0 none (R359). -/
  pfc : Nat := 0
  /-- transmit-ring entry of a cluster: (cluster, entry count, flags) (R376). -/
  fw : Option (Nat × Nat × Nat) := none
  /-- its VLAN as its ingress port classified it (R87); none for a frame that no port received. -/
  vlan : Option Nat := none
  deriving DecidableEq, Repr, Inhabited

/-- A frame handed to a port. -/
structure TxFrame where
  bytes : List Byte := []
  /-- 1 Parting publication, 2 HSR ring-forwarded, 3 scheduler's choice or a frame of the redundancy unit itself, 4 loop-check
  frame (R94, R97). -/
  kind : Nat := 3
  /-- it carries an RCT or HSR tag that this pair gave it (lreCntTx). -/
  lre : Bool := false
  /-- GTC value and STEPS at its start-of-frame delimiter. -/
  sofGtc : Nat := 0
  sofSteps : Nat := 0
  /-- scheduler queue whose cells it still holds, plus 1; 0 none. -/
  queue : Nat := 0
  /-- publication number plus 1; 0 none. -/
  pub : Nat := 0
  pfc : Nat := 0
  fw : Option (Nat × Nat × Nat) := none
  /-- its FCS is to be inverted (R91, R103). -/
  stomp : Bool := false
  /-- its class, for the event of a frame sent (R114, R431). -/
  cls : Option Nat := none
  /-- its VLAN as its ingress port classified it (R87), and the start stamp of a ring-forwarded frame (R63). -/
  vlan : Option Nat := none
  rxStart : Nat := 0
  /-- a retransmission of a publication, which yields to a fired one (R232). -/
  again : Bool := false
  /-- lossless priority of a frame of the Tailstock link, which PFC may hold, plus 1; 0 none (R101, RMA_CFG.PRIO). -/
  prio : Nat := 0
  deriving DecidableEq, Repr, Inhabited

/-- A pipeline port beyond its registers. -/
structure PortSt where
  /-- link state of a fabric sub-port, which has no register of its own (R88). -/
  xstate : Nat := 0
  onWire : Option TxFrame := none
  pubs : List TxFrame := []
  ring : List TxFrame := []
  handed : List TxFrame := []
  /-- tick of entry to Negotiating or Reset. -/
  since : Nat := 0
  /-- tick at which a reset or a disabling cut what the port was receiving (R103). -/
  cutTick : Nat := 0
  /-- speed of the last in-band status, plus 1; 0 none (SPEED of FPT_PORTn_STATUS). -/
  inband : Nat := 0
  /-- GTC second of the FCS error count, the count, and whether it was reported (R105). -/
  fcsSec : Nat := 0
  fcsCount : Nat := 0
  fcsTold : Bool := false
  deriving DecidableEq, Repr, Inhabited

/-- Highest sequence number seen, the map of the 64 below it, and which of those 65 were seen more than once (R92). -/
structure SeqMap where
  valid : Bool := false
  h : Nat := 0
  map : Nat := 0
  twice : Nat := 0
  deriving DecidableEq, Repr, Inhabited

/-- A duplicate-discard entry (R92). -/
structure DdEntry where
  used : Bool := false
  dl : SeqMap := {}
  fwA : SeqMap := {}
  fwB : SeqMap := {}
  last : Nat := 0
  deriving DecidableEq, Repr, Inhabited

/-- A field port pair beyond its registers (R89 to R99). -/
structure PairSt where
  /-- entries by source MAC address. -/
  dd : Tab DdEntry := []
  seq : Nat := 0
  supFrom : Nat := 0
  supSeq : Nat := 0
  /-- the pair is in reset (R99). -/
  inReset : Bool := false
  nonce : Nat := 0
  backA : Bool := false
  backB : Bool := false
  /-- tick of entry to the present BSTATE, and of the last failed check. -/
  since : Nat := 0
  retryFrom : Option Nat := none
  fails : Nat := 0
  keeperFrom : Nat := 0
  keeperExpired : Bool := false
  /-- the conditions of R96 that are present, as REASON codes. -/
  causes : List Nat := []
  deriving DecidableEq, Repr, Inhabited

/-- A fabric port beyond its registers (R100). -/
structure XportSt where
  /-- automatic degrade: lane being tried plus 1, and since when; 0 none. -/
  tryLane : Nat := 0
  trySince : Nat := 0
  /-- the port runs, or is to run, at x1. -/
  x1 : Bool := false
  deriving DecidableEq, Repr, Inhabited

/-- One priority of a fabric sub-port under PFC (R101). -/
structure PfcSt where
  paused : Bool := false
  until_ : Nat := 0
  since : Nat := 0
  discard : Bool := false
  deriving DecidableEq, Repr, Inhabited

/-- The ports (chapter 4). -/
structure FptSt where
  ports : Tab PortSt := []
  pairs : Tab PairSt := []
  xports : Tab XportSt := []
  /-- key sub-port × 8 + priority. -/
  pfc : Tab PfcSt := []
  /-- REASON code while power, reset or Standby holds every drive released; 0 when none does (R96). -/
  powerHold : Nat := 0
  deriving DecidableEq, Repr, Inhabited

/-- The pipelines (chapter 5). -/
structure PplSt where
  /-- limiter credit, key port × 4 + reason; a limiter that nothing has used or refilled holds none, which is 0. -/
  credit : Tab Nat := []
  /-- slots written to each trap ring since device reset (R120). -/
  trapSeq : Tab Nat := []
  /-- the ingest input FIFO, which takes queues 4,092 and 4,093 (R165); the GOOSE intake FIFO (R242); frames for the Tailstock
  link. -/
  svIn : List RxFrame := []
  gooseIn : List RxFrame := []
  rmaIn : List RxFrame := []
  deriving DecidableEq, Repr, Inhabited

/-- A learn request (R133). -/
structure LearnReq where
  vid : Nat := 0
  mac : Nat := 0
  port : Nat := 0
  deriving DecidableEq, Repr, Inhabited

/-- The forwarding tables (chapter 6). -/
structure FwtSt where
  learn : List LearnReq := []
  /-- a command on table 0 that waits its turn (R140): OP, bank, image, and the learn requests that go before it. -/
  cmd : Option (Nat × Nat × Nat × Nat) := none
  /-- parity error FIFO: (table, bank, index) (R137). -/
  perr : List (Nat × Nat × Nat) := []
  deriving DecidableEq, Repr, Inhabited

/-- The scheduler (chapter 16). -/
structure SchSt where
  queues : Tab (List QFrame) := []
  /-- credits in bits of the shapers in force; none = not in force since the last refill (R356, R357). Keys: port; port × 8 + class;
  queue. -/
  portCr : Tab (Option Int) := []
  clsCr : Tab (Option Int) := []
  qCr : Tab (Option Int) := []
  /-- policer buckets in bits; none = full, before the first refill. -/
  tc : Tab (Option Nat) := []
  tp : Tab (Option Nat) := []
  /-- deficits in bytes of the class and queue round robins, and where each stands. -/
  clsDef : Tab Nat := []
  qDef : Tab Nat := []
  clsAt : Tab Nat := []
  qAt : Tab Nat := []
  /-- the alarm of R354 was raised and free cells have not risen above its level since. -/
  alarmed : Bool := false
  /-- tick of the last red discard of a policer, plus 1 (R355). -/
  redAt : Tab Nat := []
  /-- cells admitted with a priority by a fabric sub-port, and whether XOFF was sent; key sub-port × 8 + priority (R359). -/
  pfcUse : Tab Nat := []
  xoff : Tab Nat := []
  /-- another cause of pause holds the priority (R359, R329). -/
  xoffElse : Tab Nat := []
  deriving DecidableEq, Repr, Inhabited

end Sys2Proof.Machine
end

