-- ==== Sys2Proof/Machine/PartsBlocks.lean ====
section
/-!
DEFINITION. The records of the blocks from sampled-value ingest to the recorder (chapters 7 to 11) and of the cores (chapter 17).
-/
namespace Sys2Proof.Machine

/-! ## Sampled-value ingest (chapter 7) -/

/-- A stream-sample record (R162). Cells are 64-bit numbers in the layout of R170. -/
structure SvRec where
  /-- GTC value of the frame's MAC stamp. -/
  stamp : Nat := 0
  sub : Nat := 0
  asdu : Nat := 0
  authOk : Bool := false
  reorder : Bool := false
  smpCnt : Nat := 0
  smpSynch : Nat := 0
  steps : Nat := 0
  cells : List Nat := []
  deriving DecidableEq, Repr, Inhabited

/-- A subscription beyond its registers (R156 to R161). -/
structure SubSt where
  /-- map of the 64 counts below H: bit i for H - 1 - i; how many of them have come up since the start. -/
  map : Nat := 0
  depth : Nat := 0
  run : Nat := 0
  /-- 10 ms window of GTC time, plus 1, and frames admitted in it. -/
  win : Nat := 0
  admitted : Nat := 0
  /-- consecutive wholly stale frames, and the first count that the next one must have. -/
  staleRun : Nat := 0
  staleCnt : Nat := 0
  /-- tick of the last bit of the last accepted frame; tick of the last entry to Acquiring. -/
  lastTick : Nat := 0
  acqTick : Nat := 0
  /-- a smpSynch value has been received; the last gmIdentity, when one has. -/
  synched : Bool := false
  gm : Option (List Byte) := none
  deriving DecidableEq, Repr, Inhabited

/-- The ingest unit (chapter 7) beyond its registers. -/
structure SviSt where
  subs : Tab SubSt := []
  /-- records on their way to the alignment fabric, oldest first. -/
  recs : List SvRec := []
  deriving DecidableEq, Repr, Inhabited

/-! ## Alignment (chapter 8) -/

/-- A row of a bay that is not sealed, or has just been sealed. -/
structure Row where
  n : Nat := 0
  /-- its instant has been reached: GTC value, tick, STEPS, Grain angle, cycle and frequency word at that tick, Locked or not. -/
  reached : Bool := false
  inst : Nat := 0
  tick : Nat := 0
  steps : Nat := 0
  angle : Nat := 0
  cycle : Nat := 0
  fe : Nat := 0
  locked : Bool := false
  gOff : Bool := false
  /-- subscriptions whose cells are expected (R176), and the hold time in ns (R177). -/
  expected : List Nat := []
  hold : Nat := 0
  /-- subscriptions placed, with the tick, and the cells placed: the cell and its tick + 1. -/
  placed : List (Nat × Nat) := []
  cells : Tab (Nat × Nat) := []
  deriving DecidableEq, Repr, Inhabited

/-- The settings that a frame keeps from its opening (R191): Grain instance, enabled marks, MAX_ROWS, RING0 and RING1. -/
structure FrameCfg where
  grain : Nat := 0
  marks : List Nat := []
  maxRows : Nat := 1
  rings : List (Option (Nat × Nat)) := []
  deriving DecidableEq, Repr, Inhabited

/-- A frame whose end is fixed and which closes once its last row is sealed (R185). -/
structure FrameCut where
  first : Nat := 0
  last : Nat := 0
  close : Nat := 0
  mark : Nat := 0
  gtc : Nat := 0
  discont : Bool := false
  cfg : FrameCfg := {}
  deriving DecidableEq, Repr, Inhabited

/-- A bay beyond its registers. -/
structure BaySt where
  n0 : Nat := 0
  /-- lowest sample number not sealed; lowest whose instant has not been reached. -/
  next : Nat := 0
  due : Nat := 0
  /-- no row has been sealed since the start, restart or step. -/
  fresh : Bool := true
  rows : List Row := []
  /-- last received cell by index: cell and tick of placement + 1 (R178, R179). -/
  last : Tab (Nat × Nat) := []
  fillRun : Tab Nat := []
  /-- the open frame: first row, DISCONT, settings; the frames cut before it; sample numbers of samples counted LATE. -/
  first : Nat := 0
  discont : Bool := true
  cfg : FrameCfg := {}
  cuts : List FrameCut := []
  lates : List Nat := []
  deriving DecidableEq, Repr, Inhabited

/-- The alignment fabric (chapter 8) beyond its registers. -/
structure AlnSt where
  bays : Tab BaySt := []
  deriving DecidableEq, Repr, Inhabited

/-! ## Phasor engine (chapter 9) -/

/-- The anchor of a channel (R208). -/
structure Anchor where
  /-- instant in seconds, and theta0 there in turns. -/
  t : Rat := 0
  theta : Rat := 0
  re : Rat := 0
  im : Rat := 0
  dc : Rat := 0
  freq : Rat := 0
  fe : Rat := 0
  fvalid : Bool := false
  deriving DecidableEq, Repr

/-- A harmonic record being computed (R205): its bytes before SEQ. -/
structure HarmJob where
  slot : Nat := 0
  bytes : List Byte := []
  deriving DecidableEq, Repr, Inhabited

/-- A channel result. Words are binary32; the rationals are the AREF 0 phasor in engineering units. -/
structure ChRes where
  n : Nat := 0
  status : Nat := 0
  re : Rat := 0
  im : Rat := 0
  ure : Rat := 0
  uim : Rat := 0
  /-- uncorrected phasor one FREQ span earlier. -/
  pre : Rat := 0
  pim : Rat := 0
  /-- VALID of the result one FREQ span earlier (R203). -/
  preOk : Bool := false
  mag : Rat := 0
  /-- arg in turns, AREF 0, and the angle as the channel gives it. -/
  arg : Rat := 0
  ang : Rat := 0
  rms : Rat := 0
  dc : Rat := 0
  freq : Rat := 0
  inst : Rat := 0
  w : Rat := 0
  mf : Nat := 0
  prov : Nat := 0
  qual : Nat := 0
  deriving DecidableEq, Repr, Inhabited

/-- A channel beyond its entry and records. -/
structure PheCh where
  /-- first sample number after the last start (R208, R210). -/
  start : Nat := 0
  /-- it has started. -/
  running : Bool := false
  /-- history slots that hold a sample since the last start: slot -> quality summary + 1 (R194, R203). -/
  qual : Tab Nat := []
  /-- highest sample number of a placement result, plus 1, and the placement results of rows not yet sealed (R195, R197). -/
  placed : Nat := 0
  place : List ChRes := []
  anchor : Option Anchor := none
  /-- VALID of the last reporting result. -/
  valid : Bool := false
  /-- cycle count of the last row, plus 1; a harmonic computation under way. -/
  cycle : Nat := 0
  harm : Option HarmJob := none
  deriving DecidableEq, Repr, Inhabited

/-- A group beyond its registers and records: FREQ history of each stage, newest first: (N, FREQ, FVALID). -/
structure PheGrp where
  place : List (Nat × Rat × Bool) := []
  report : List (Nat × Rat × Bool) := []
  valid : Bool := false
  deriving DecidableEq, Repr, Inhabited

/-- The phasor engine (chapter 9) beyond its registers. -/
structure PheSt where
  chans : Tab PheCh := []
  grps : Tab PheGrp := []
  deriving DecidableEq, Repr, Inhabited

/-! ## Parting path (chapter 10) -/

/-- A comparator beyond its registers: last evaluated N + 1 (0 none), tick of its last evaluation or of its VALID commit, and
whether it has been found stale since. -/
structure CmpSt where
  lastN : Nat := 0
  lastTick : Nat := 0
  deriving DecidableEq, Repr, Inhabited

/-- A publication beyond its registers: the eight octets of t, the schedule index and the tick of the next transmission (0 when
it does not run). -/
structure PubSt where
  t : List Byte := []
  k : Nat := 0
  running : Bool := false
  next : Nat := 0
  /-- since a wake it waits for a selected port (R475). -/
  woken : Bool := false
  deriving DecidableEq, Repr, Inhabited

/-- A GOOSE subscription beyond its registers. -/
structure GsubSt where
  lastTick : Nat := 0
  win : Nat := 0
  admitted : Nat := 0
  /-- consecutive older frames, their stNum and the last sqNum (R239). -/
  staleRun : Nat := 0
  staleSt : Nat := 0
  staleSq : Nat := 0
  /-- timeAllowedtoLive of the last accepted frame, in ms, whole (R240, R241). -/
  tal : Nat := 0
  deriving DecidableEq, Repr, Inhabited

/-- The sample that decides: comparator, N, GTC values of its instant and of the MAC stamp. -/
structure Decider where
  cmp : Nat := 0
  n : Nat := 0
  inst : Nat := 0
  stamp : Nat := 0
  deriving DecidableEq, Repr, Inhabited

/-- One evaluation of a term (R222), as its members stood then: the outputs, whether all of them are 1, whether one is Blocked, and the
comparators that had just become Blocked. -/
structure TermEv where
  term : Nat := 0
  decider : Option Decider := none
  out : Nat := 0
  all_ : Bool := false
  block : Bool := false
  newly : List Nat := []
  deriving DecidableEq, Repr, Inhabited

/-- The Parting path (chapter 10) beyond its registers. -/
structure TrpSt where
  /-- evaluations of the present tick that the terms have still to handle (R222); none between commands. -/
  evals : List TermEv := []
  cmps : Tab CmpSt := []
  pubs : Tab PubSt := []
  gsubs : Tab GsubSt := []
  /-- slots written to the GOOSE ring since device reset. -/
  ringSeq : Nat := 0
  deriving DecidableEq, Repr, Inhabited

/-! ## Recorder (chapter 11) -/

/-- A record in a ring or in the write-combining buffer. -/
structure RecRow where
  n : Nat := 0
  steps : Nat := 0
  tick : Nat := 0
  late : Bool := false
  /-- ring position of its first byte, and its length. -/
  pos : Nat := 0
  len : Nat := 0
  deriving DecidableEq, Repr, Inhabited

/-- A record in the write-combining buffer (R247). -/
structure BufRow where
  bay : Nat := 0
  row : RecRow := {}
  arrived : Nat := 0
  bytes : List Byte := []
  deriving DecidableEq, Repr, Inhabited

/-- A capture segment (R249 to R258). Times are ticks. -/
structure Seg where
  id : Nat := 0
  bay : Nat := 0
  set : Nat := 0
  slot : Nat := 0
  kind : Nat := 0
  fire : Nat := 0
  /-- the trigger: tick, GTC value, STEPS, QUALITY, angle, cycle. -/
  tTick : Int := 0
  tGtc : Nat := 0
  tSteps : Nat := 0
  tQual : Nat := 0
  tAngle : Nat := 0
  tCycle : Nat := 0
  /-- rows with instants in these bounds belong to it; the cap is the start instant + MAX_MS once the start is known. -/
  from_ : Int := 0
  to_ : Int := 0
  firstN : Option Nat := none
  firstTick : Nat := 0
  firstSteps : Nat := 0
  lastN : Nat := 0
  lastTick : Nat := 0
  lastSteps : Nat := 0
  /-- first and closing ring positions. -/
  pos : Option Nat := none
  close : Option Nat := none
  seq : Nat := 0
  /-- it has lost unexported bytes (R252). -/
  lost : Bool := false
  /-- SHORT_PRE, TRUNCATED, CONT, BLOCKED. -/
  shortPre : Bool := false
  truncated : Bool := false
  cont : Bool := false
  blocked : Bool := false
  deriving DecidableEq, Repr, Inhabited

/-- A bay's ring beyond its registers. -/
structure RecBay where
  idx : List RecRow := []
  /-- the rows sealed that the ring still spans, oldest first, whether or not they left a record. -/
  rows : List RecRow := []
  /-- tick of the latest row overwritten, plus 1; tick from which the ring has run. -/
  gone : Nat := 0
  fromTick : Nat := 0
  deriving DecidableEq, Repr, Inhabited

/-- The export under way (R255): segment, step 1 to 3, unit it is written at, and whether its write has ended (and how). -/
structure Export where
  seg : Nat := 0
  step : Nat := 1
  unit : Nat := 0
  units : Nat := 0
  /-- length and CRC of the data as step 2 wrote it, for the header. -/
  len : Nat := 0
  crc : Nat := 0
  /-- drive commands of the step that have not completed, and whether one failed. -/
  owed : Nat := 0
  bad : Bool := false
  done : Option Bool := none
  deriving DecidableEq, Repr, Inhabited

/-- The recorder (chapter 11) beyond its registers. -/
structure RecSt where
  bays : Tab RecBay := []
  buf : List BufRow := []
  segs : List Seg := []
  nextId : Nat := 0
  fires : Nat := 0
  /-- SEG_SEQ + 1 of the first segment that each firing opened, once it has closed; and that segment's id + 1. -/
  fireSeq : Tab Nat := []
  fireSeg : Tab Nat := []
  exp : Option Export := none
  /-- tick of the last failed export, plus 1 (R256). -/
  failedAt : Nat := 0
  /-- segments in each namespace log: (first unit, units). -/
  logs : Tab (List (Nat × Nat)) := []
  /-- tick of the last edge on TRIG_IN. -/
  trigFrom : Nat := 0
  /-- happenings of the present tick that the trigger slots have still to handle (R248): KIND, INDEX, tick, GTC value; none between
  commands. -/
  happened : List (Nat × Nat × Int × Nat) := []
  deriving DecidableEq, Repr, Inhabited

/-! ## Cores and channels (chapter 17) -/

/-- A message channel beyond its registers (R371 to R373). -/
structure ChanSt where
  /-- committed messages, 16 words each, oldest first. -/
  msgs : List (List Nat) := []
  /-- the 16 words of the reserved slot, and whether word 0 has been written. -/
  words : List Nat := []
  header : Bool := false
  /-- tick from which the debug hold counts. -/
  holdFrom : Nat := 0
  /-- agents whose last reservation was aborted and that have not read Aborted yet. -/
  aborted : List Nat := []
  deriving DecidableEq, Repr, Inhabited

/-- A firmware transmit ring (R376). -/
structure FwRing where
  cons : Nat := 0
  deriving DecidableEq, Repr, Inhabited

/-- The Spindle cores (chapter 17) beyond their registers. -/
structure CpuSt where
  chans : Tab ChanSt := []
  /-- threads halted by the debugger: agent codes. -/
  halted : List Nat := []
  /-- tick of the last automatic restart, plus 1, by physical core 5k + c (R368). -/
  autoAt : Tab Nat := []
  /-- transmit rings by cluster. -/
  tx : Tab FwRing := []
  deriving DecidableEq, Repr, Inhabited

/-! ## Tailstock link (chapter 15) -/

/-- A packet sent and not yet acknowledged. -/
structure TxPkt where
  psn : Nat := 0
  epoch : Nat := 0
  /-- transmission count (R335) and the plaintext key it was first sent with. -/
  txc : Nat := 0
  key : List Byte := []
  op : Nat := 0
  ackReq : Bool := false
  ext : List Byte := []
  data : List Byte := []
  deriving DecidableEq, Repr, Inhabited

/-- A message being sent: its ring job, if a host posted it, its PSNs, and for a READ the data received. -/
structure SendMsg where
  job : Option (Nat × Nat) := none
  read : Bool := false
  first : Nat := 0
  n : Nat := 1
  len : Nat := 0
  got : List (Nat × List Byte) := []
  acked : Bool := false
  deriving DecidableEq, Repr, Inhabited

/-- The message being received on a QP. -/
structure RecvMsg where
  active : Bool := false
  write : Bool := false
  first : Nat := 0
  /-- WRITE: address, rkey and length. -/
  va : Nat := 0
  rkey : Nat := 0
  len : Nat := 0
  got : Nat := 0
  /-- SEND: the receive entry in use. -/
  job : Option (Nat × Nat) := none
  deriving DecidableEq, Repr, Inhabited

/-- A queue pair beyond its context (R331 to R334). Ticks are kept plus 1; 0 none. -/
structure QpSt where
  sends : List SendMsg := []
  unacked : List TxPkt := []
  recv : RecvMsg := {}
  ackCount : Nat := 0
  ackFrom : Nat := 0
  nakked : Bool := false
  timerFrom : Nat := 0
  /-- end of an RNR wait, and the PSN it is for. -/
  rnrUntil : Nat := 0
  rnrPsn : Nat := 0
  cnpTx : Nat := 0
  rateFrom : Nat := 0
  /-- selective NAKs sent for gaps that may still be open: (PSN, tick of the last one) (R333). -/
  naks : List (Nat × Nat) := []
  msn : Nat := 0
  /-- data of READ responses that is being read from the host: (first PSN, bytes owed, pieces). -/
  reads : List (Nat × Nat × List (Nat × List Byte)) := []
  /-- times that a READ response of an encrypted QP has been sent, by epoch × 2^24 + PSN (R335). -/
  respTxc : Tab Nat := []
  deriving DecidableEq, Repr, Inhabited

/-- A packet in the miss buffer (R329, R333): it waits for its context, for region `region` - 1, or for the gap before it (`psn`
+ 1); `placed` when its data has been placed already. -/
structure HeldPkt where
  qp : Nat := 0
  frame : RxFrame := {}
  tick : Nat := 0
  region : Nat := 0
  psn : Nat := 0
  placed : Bool := false
  deriving DecidableEq, Repr, Inhabited

/-- A cache slot (R328): 0 Free, 1 Fetching, 2 Valid, 3 Writing back. -/
structure SlotSt where
  st : Nat := 0
  qp : Nat := 0
  last : Nat := 0
  deriving DecidableEq, Repr, Inhabited

/-- A region entry: 0 not cached, 1 Fetching, 2 Valid. -/
structure RegSt where
  st : Nat := 0
  iova : Nat := 0
  len : Nat := 0
  tag : Nat := 0
  acc : Nat := 0
  last : Nat := 0
  deriving DecidableEq, Repr, Inhabited

/-- The Tailstock link (chapter 15) beyond its registers. -/
structure RmaSt where
  /-- function index + 1 that created each QP and each region; 0 where none exists. -/
  owner : Tab Nat := []
  regOwner : Tab Nat := []
  slots : Tab SlotSt := []
  regs : Tab RegSt := []
  qps : Tab QpSt := []
  held : List HeldPkt := []
  /-- QPs that wait for a slot. -/
  want : List Nat := []
  /-- pinned contexts of the image: (QP, context) (R326, R347). -/
  pinned : List (Nat × Nat) := []
  cfgCrc : Nat := 0
  /-- number of the device reset, from which the wrapping key is drawn (R327). -/
  kek : Nat := 0
  /-- the twin: heartbeat sequence, ticks + 1 of the last sent and of the last heard on each path, start of Seeking, own snapshot
  sequence, a snapshot owed before the next row, and a heartbeat that has arrived on the mirror QP. -/
  hbSeq : Nat := 0
  hbFrom : Nat := 0
  hbQp : Nat := 0
  hbRaw : Nat := 0
  seekFrom : Nat := 0
  snapSeq : Nat := 0
  snapOwed : Bool := false
  hbNew : Bool := false
  deriving DecidableEq, Repr, Inhabited

end Sys2Proof.Machine
end

