-- ==== Sys2Proof/Machine/PartsSys.lean ====
section
/-!
DEFINITION. The records of the storage block (chapter 14), the DMA engine (18), the memory controllers (19), boot (20) and power (23),
beyond their registers.
-/
namespace Sys2Proof.Machine

/-! ## Storage (chapter 14) -/

/-- What a drive command is for. -/
inductive DrvWhy where
  | host (h : Nat) (off : Nat)   -- data of host command h, at block offset `off` of its range
  | shadow (h : Nat)             -- R308 step 1 of host command h
  | home (e : Nat)               -- R308 step 5 of journal entry e
  | replay (e : Nat)             -- reads entry e's shadow for the copy of R309
  | rebuildRead (s : Nat)
  | rebuildWrite (s : Nat)
  | test
  | exports
  | shutdown
  | power
  deriving DecidableEq, Repr, Inhabited

/-- A drive command: `op` 0 read, 1 write, 2 write zeroes, 3 deallocate, 4 SMART / Health log, 5 normal shutdown, 6 power state
(`n`). `ns` is the namespace slot it serves, where it serves one. -/
structure DrvCmd where
  id : Nat := 0
  d : Nat := 0
  op : Nat := 0
  lba : Nat := 0
  n : Nat := 0
  bytes : List Byte := []
  why : DrvWhy := .test
  ns : Nat := 0
  f : Nat := 0
  /-- class of the submission queue: 0 urgent, 1 high, 2 medium, 3 low. -/
  prio : Nat := 0
  /-- a read that was issued again after a failure (R307). -/
  again : Bool := false
  /-- Force Unit Access. -/
  fua : Bool := false
  issue : Nat := 0
  deriving DecidableEq, Repr, Inhabited

/-- A host command that has not completed: `op` 0 read, 1 write, 2 write zeroes, 3 flush, 4 compare, 5 deallocate. -/
structure HostCmd where
  id : Nat := 0
  f : Nat := 0
  qid : Nat := 0
  cid : Nat := 0
  op : Nat := 0
  s : Nat := 0
  lba : Nat := 0
  n : Nat := 0
  prio : Nat := 0
  /-- block ranges written, zeroed or deallocated. -/
  ranges : List (Nat × Nat) := []
  data : List Byte := []
  /-- drive commands owed; the sides that have taken the write, or for a Flush the commands it waits for. -/
  owed : Nat := 0
  wrote : List Nat := []
  /-- data read so far: (block offset, bytes). -/
  got : List (Nat × List Byte) := []
  /-- NVMe status settled so far; the completion is not given (R303). -/
  status : Nat := 0
  dead : Bool := false
  /-- 0 not begun, 1 data on its way, 2 waits for its commit (R310). -/
  phase : Nat := 0
  /-- journal entry taken, plus 1. -/
  entry : Nat := 0
  deriving DecidableEq, Repr, Inhabited

/-- A journal entry in use (R308, R309): 1 taken, 2 committed and to be copied, 3 being copied. -/
structure JEnt where
  st : Nat := 0
  s : Nat := 0
  lba : Nat := 0
  n : Nat := 0
  /-- sides (0 DRIVE_A, 1 DRIVE_B) whose shadow holds the data. -/
  members : List Nat := []
  seq : Nat := 0
  owed : Nat := 0
  took : Nat := 0
  data : List Byte := []
  zero : Bool := false
  /-- its data is to be read from the shadow: 1 since a start, 2 since a drive left. -/
  replay : Nat := 0
  deriving DecidableEq, Repr, Inhabited

/-- An I/O submission queue: completion queue and priority class; an I/O completion queue: vector and interrupt enable. -/
structure SqSt where
  qid : Nat := 0
  cq : Nat := 0
  prio : Nat := 0
  deriving DecidableEq, Repr, Inhabited

structure CqSt where
  qid : Nat := 0
  vector : Nat := 0
  ien : Bool := false
  deriving DecidableEq, Repr, Inhabited

/-- An NVMe controller. -/
structure CtlSt where
  en : Bool := false
  /-- weighted round robin is selected. -/
  wrr : Bool := false
  sqs : List SqSt := []
  cqs : List CqSt := []
  /-- features by identifier × 2^16 + selector. -/
  features : Tab Nat := []
  /-- Asynchronous Event Requests outstanding, results of events that wait for one, and the event types masked until their log is read. -/
  aers : List Nat := []
  events : List Nat := []
  masked : List Nat := []
  /-- the Timestamp feature: the value set, the tick from which it runs on, and whether a Set Features gave it. -/
  stamp : Nat := 0
  stampFrom : Nat := 0
  stampSet : Bool := false
  ps : Nat := 0
  lastOp : Nat := 0
  psEnd : Nat := 0
  /-- credits of the high, medium and low classes in the present round (R314). -/
  credit : Nat × Nat × Nat := (0, 0, 0)
  /-- completions held while the function cannot master: queue, command, status, result, data. -/
  held : List (Nat × Nat × Nat × Nat × List Byte) := []
  /-- last self-test: code, result (0 passed, 7 failed segment, 15 none), segment, NSID. -/
  test : Nat × Nat × Nat × Nat := (0, 15, 0, 0)
  deriving DecidableEq, Repr, Inhabited

/-- A drive slot. LED 0 off, 1 on, 2 blinking. -/
structure DsSt where
  pwren : Bool := false
  perst : Bool := true
  led : Nat := 0
  attn : Bool := false
  from_ : Nat := 0
  /-- orderly removal: 0 none, 1 waits for commands, 2 waits for the shutdown. -/
  removing : Nat := 0
  /-- put in its lowest non-operational state (R315). -/
  low : Bool := false
  /-- commands issued while an export waited, since the last export command (R314). -/
  since : Nat := 0
  deriving DecidableEq, Repr, Inhabited

/-- A namespace: a write has reached it since its mirror degraded; the survivor has failed; the copy point in blocks, a chunk
outstanding and to be copied again; the out-of-sync member has left since it was dropped; commands are completed under an old layout (R320). -/
structure NsSt where
  dirty : Bool := false
  failed : Bool := false
  rebuilding : Bool := false
  point : Nat := 0
  chunk : Bool := false
  redo : Bool := false
  left : Bool := false
  draining : Bool := false
  deriving DecidableEq, Repr, Inhabited

/-- An extent under test: namespace slot, drive, base, size, and reads made so far. -/
structure TestExt where
  s : Nat := 0
  d : Nat := 0
  base : Nat := 0
  size : Nat := 0
  pos : Nat := 0
  deriving DecidableEq, Repr, Inhabited

/-- A self-test under way (R312): controller, extended or not, NSID, extents, drives whose SMART log is still to be read, and the
first segment that failed with its NSID. -/
structure TestSt where
  f : Nat := 0
  extended : Bool := false
  nsid : Nat := 0
  exts : List TestExt := []
  smart : List Nat := []
  bad : Option (Nat × Nat) := none
  deriving DecidableEq, Repr, Inhabited

structure StgSt where
  cmds : List HostCmd := []
  drives : List DrvCmd := []
  /-- drive commands not issued yet. -/
  wait : List DrvCmd := []
  nextId : Nat := 0
  ents : Tab JEnt := []
  nextSeq : Nat := 1
  ctls : Tab CtlSt := []
  /-- turns between controllers (R314), by class, 0 urgent and 1 weighted: the controller in turn plus 1 with what is left of its burst;
  and the bursts each has left in the round, at class × 256 + controller. -/
  turns : Tab (Nat × Nat) := []
  shares : Tab Nat := []
  slots : Tab DsSt := []
  nss : Tab NsSt := []
  test : Option TestSt := none
  /-- entries copied by the replay of this start, not yet reported (source 347). -/
  replayed : Nat := 0
  /-- detaches that wait for commands already fetched (R305): PF3's command identifier, slot, controllers. -/
  detach : List (Nat × Nat × List Nat) := []
  /-- a wait of this refusal was reported (R310). -/
  heldTold : Bool := false
  /-- MRAM writes of the block that wait for the end of a refusal: (offset, bytes). -/
  nvWait : List (Nat × List Byte) := []
  deriving DecidableEq, Repr, Inhabited

/-! ## DMA (chapter 18) -/

/-- A channel of the DMA engine beyond its registers: the descriptor in force as four quadwords (empty: none). -/
structure DmaCh where
  desc : List Nat := []
  /-- the progress point of R384, and the next byte for which nothing has been issued. -/
  p : Nat := 0
  issued : Nat := 0
  /-- where the bursts of 256 bytes count from: the address at which reads began, rounded down to 64 (R383). -/
  start : Nat := 0
  /-- reads outstanding, (offset, length), and lengths of writes without a response, oldest first. -/
  reads : List (Nat × Nat) := []
  writes : List Nat := []
  /-- an error that ends the channel once its responses are in. -/
  err : Nat := 0
  deriving DecidableEq, Repr, Inhabited

structure DmaSt where
  chans : Tab DmaCh := []
  deriving DecidableEq, Repr, Inhabited

/-! ## Memory controllers (chapter 19) -/

/-- A row repair that waits or runs (R403): class, offset, mode, tick it was asked, whether it runs, and whether the command
register asked for it. -/
structure Repair where
  cls : Nat := 0
  off : Nat := 0
  mode : Nat := 0
  from_ : Nat := 0
  running : Bool := false
  cmd : Bool := true
  deriving DecidableEq, Repr, Inhabited

structure MemSt where
  /-- bulk segments that the DMA engine or host software has written since the last device reset (R398). -/
  written : Nat := 0
  /-- refreshes owed by a bank, negative when ahead, and the tick of its last due time; key class × 2^16 + channel × 2^8 + bank. -/
  owed : Tab Int := []
  refAt : Tab Nat := []
  /-- tick of the last source 450, plus 1. -/
  forcedAt : Nat := 0
  /-- dies refreshed at 4 times the base rate (R396). -/
  hot : List Nat := []
  /-- interval updates: tick of the last one, and tick plus 1 since which one is due; key class × 4 + channel (R400). -/
  last : Tab Nat := []
  due : Tab Nat := []
  /-- die temperature at the last update of a channel. -/
  atTemp : Tab Int := []
  /-- real-time channels whose update a command asked for, and bulk channels in full retraining (R401). -/
  asked : List Nat := []
  training : List Nat := []
  repairs : List Repair := []
  /-- corrected sectors by row: (sector, tick), for AUTO_REPAIR (R404). -/
  ceRows : Tab (List (Nat × Nat)) := []
  /-- the error FIFO: _LO and _HI words (R391). -/
  ecc : List (Nat × Nat) := []
  /-- range of the self-test under way. -/
  testBase : Nat := 0
  testLen : Nat := 0
  scrubFrom : Nat := 0
  /-- tick of the last request to the bulk class. -/
  bulkAt : Nat := 0
  deriving DecidableEq, Repr, Inhabited

/-! ## Power (chapter 23) -/

/-- The supply monitor and Standby beyond their registers. -/
structure PwrSt where
  /-- VIN in mV as it was last told to the device; none before the first. -/
  vin : Option Nat := none
  /-- the input power stage runs; VAUX is above VAUX_LOW; a thermal trip holds the device in reset. -/
  powered : Bool := true
  vaux : Bool := true
  hot : Bool := false
  /-- lowest cause code of the reset under way or last done (R468). -/
  cause : Nat := 1
  /-- tick at which the refusal began, and since which its causes have been clear. -/
  nvFrom : Nat := 0
  clearFrom : Option Nat := none
  /-- a thermal warning was raised and the reading has not fallen 5 °C below WARN_C since. -/
  warned : Bool := false
  /-- Standby: tick of entry, wake source + 1, and the drive wait of step 4 is on. -/
  from_ : Nat := 0
  source : Nat := 0
  draining : Bool := false
  /-- functions that were ready at entry to Standby (R474). -/
  ready : List Nat := []
  deriving DecidableEq, Repr, Inhabited

/-! ## Boot (chapter 20) -/

/-- A firmware partition as the image defines it (R420), with its checked and pending copies (R366, R427). -/
structure PartSt where
  cluster : Nat := 0
  cold : Bool := false
  /-- logical cores (bit g), and threads of each: bit 4g + t. -/
  cores : Nat := 0
  threads : Nat := 0
  base : Nat := 0
  size : Nat := 0
  entry : Nat := 0
  pend : Nat := 0
  checked : List Byte := []
  pending : List Byte := []
  deriving DecidableEq, Repr, Inhabited

/-- The update engine (R424). -/
structure UpdSt where
  /-- its command that has not completed: ring and entry; none also when its ring has gone. -/
  job : Option (Nat × Nat) := none
  /-- sectors erased; pages programmed of the Write under way; offset and data of it. -/
  sector : Nat := 0
  page : Nat := 0
  /-- pages programmed since Update Begin. -/
  pages : Nat := 0
  off : Nat := 0
  data : List Byte := []
  /-- a flash operation is in progress; the engine waits under R425; a wait of this refusal was reported. -/
  busy : Bool := false
  told : Bool := false
  /-- Update Abort waits for the flash operation in progress: ring and entry. -/
  abort : Option (Nat × Nat) := none
  /-- the SEQ page is being programmed, with this SEQ. -/
  seq : Option Nat := none
  stop : Bool := false
  /-- a phase that is to be entered once its record may be written: 1 Erasing, 3 Finishing; 0 none (R425). -/
  want : Nat := 0
  /-- how Finish fails: STATUS and REASON. -/
  fail : Option (Nat × Nat) := none
  /-- the SEQ page has been programmed and read back as it should. -/
  seqOk : Bool := false
  deriving DecidableEq, Repr, Inhabited

structure BootSt where
  /-- flash bytes; unlisted bytes read 0xFF. -/
  flash : Tab Byte := []
  /-- OTP: the 48-byte key digest, empty when blank, and the floor words. -/
  digest : List Byte := []
  floors : List Nat := []
  /-- the slot that REBOOT_ALT excludes, plus 1; always-on domain (R417). -/
  alt : Nat := 0
  /-- 0 in reset, 1 the ROM is to run, 2 recovery loader, 3 stage 2 is to run, 4 running, 5 a recovery image runs. -/
  phase : Nat := 1
  /-- bytes of one slot of the fitted flash (R410), as the ROM found them. -/
  half : Nat := 0
  /-- a floor word being programmed, plus 1 (R419). -/
  floorVal : Nat := 0
  /-- the loader area of boot SRAM; unlisted bytes read 0. -/
  loader : Tab Byte := []
  parts : Tab PartSt := []
  /-- what the image gives each function: ring allowance, first MSI-X vector, number of vectors (R420). -/
  fns : Tab (Nat × Nat × Nat) := []
  /-- the update engine (R424). -/
  upd : UpdSt := {}
  deriving DecidableEq, Repr, Inhabited

end Sys2Proof.Machine
end

