-- ==== Sys2Proof/Machine/RegMap.lean ====
section
/-!
DEFINITION. The register map (R8, R33, R39 and the register tables of every chapter).

One `Fld` constant per register field of the spec, named `REGISTER.FIELD` with the spec's own register name (a lower-case
letter in the name is the spec's repeat index). A field holds the absolute address of its register in PF0 BAR0 (block base of
R33 plus the offset of its register line), up to two repeat counts with their strides, its lowest bit, its width, and its
access type (R8). Reserved fields have no constant: they read 0 and never change (R9).
The admin ring registers of every function (chapter 13) are kept at `fnBase f + 0x10000`; PF0 reaches its own at QMG 0x0040.
-/
namespace Sys2Proof.Machine

/-- The access types of R8. -/
inductive Access where
  | ro | rw | w1c | w1s | rc | wo | rwl
  deriving DecidableEq, Repr

/-- A register field: address of instance 0, repeat counts and strides, lowest bit, width, access type. -/
structure Fld where
  base : Nat
  n1 : Nat
  s1 : Nat
  n2 : Nat
  s2 : Nat
  lo : Nat
  w : Nat
  acc : Access
  deriving DecidableEq, Repr

/-- The address of instance `(i, j)` of a field's register. -/
def Fld.addr (f : Fld) (i j : Nat) : Nat := f.base + f.s1 * i + f.s2 * j

/-- Key of the first byte of function `f`'s own register space (R32), outside PF0 BAR0's 64 MiB (R30). -/
def fnBase (f : Nat) : Nat := 0x8000000 + 0x100000 * f

-- 02: GLB_ID, offset 0x0000, part identity.
def GLB_ID.PART : Fld := ⟨0x0, 1, 0x0, 1, 0x0, 16, 16, .ro⟩
def GLB_ID.VENDOR : Fld := ⟨0x0, 1, 0x0, 1, 0x0, 0, 16, .ro⟩
-- 02: GLB_STEPPING, offset 0x0004, silicon stepping.
def GLB_STEPPING.LETTER : Fld := ⟨0x4, 1, 0x0, 1, 0x0, 4, 4, .ro⟩
def GLB_STEPPING.NUMBER : Fld := ⟨0x4, 1, 0x0, 1, 0x0, 0, 4, .ro⟩
-- 02: GLB_UID_LO, offset 0x0008, and GLB_UID_HI, offset 0x000C, unique die identifier.
def GLB_UID_LO.UID : Fld := ⟨0x8, 1, 0x0, 1, 0x0, 0, 32, .ro⟩
def GLB_UID_HI.UID : Fld := ⟨0xC, 1, 0x0, 1, 0x0, 0, 32, .ro⟩
-- 02: GLB_READY_BLK, offset 0x0010, block readiness.
def GLB_READY_BLK.READY : Fld := ⟨0x10, 1, 0x0, 1, 0x0, 0, 22, .ro⟩
-- 02: GLB_READY_FN, offset 0x0014, function readiness.
def GLB_READY_FN.VF_READY : Fld := ⟨0x14, 1, 0x0, 1, 0x0, 16, 5, .ro⟩
def GLB_READY_FN.PF_READY : Fld := ⟨0x14, 1, 0x0, 1, 0x0, 0, 5, .ro⟩
-- 02: GLB_FAIL_BLK, offset 0x0018, blocks that failed initialisation.
def GLB_FAIL_BLK.FAIL : Fld := ⟨0x18, 1, 0x0, 1, 0x0, 0, 22, .w1c⟩
-- 02: GLB_BAD_ACCESS, offset 0x001C, refused and unassigned accesses.
def GLB_BAD_ACCESS.COUNT : Fld := ⟨0x1C, 1, 0x0, 1, 0x0, 0, 32, .rc⟩
-- 02: GLB_SYNC, offset 0x0020, write barrier.
def GLB_SYNC.NONE : Fld := ⟨0x20, 1, 0x0, 1, 0x0, 0, 0, .ro⟩
-- 02: GLB_WIN_PAGEn, offset 0x0200 + 8 × n, page select for window n.
def GLB_WIN_PAGEn.PAGE : Fld := ⟨0x200, 12, 0x8, 1, 0x0, 0, 4, .rw⟩
-- 02: GLB_WIN_STATUSn, offset 0x0204 + 8 × n, status of window n.
def GLB_WIN_STATUSn.CONFLICT : Fld := ⟨0x204, 12, 0x8, 1, 0x0, 1, 1, .w1c⟩
def GLB_WIN_STATUSn.PARTIAL : Fld := ⟨0x204, 12, 0x8, 1, 0x0, 0, 1, .ro⟩
-- 03: TIM_GTC_NS, offset 0x0000, GTC nanoseconds and latch.
def TIM_GTC_NS.NS : Fld := ⟨0x40000, 1, 0x0, 1, 0x0, 0, 30, .ro⟩
-- 03: TIM_GTC_SEC_LO, offset 0x0004, and TIM_GTC_SEC_HI, offset 0x0008, latched GTC seconds.
def TIM_GTC_SEC_LO.SEC : Fld := ⟨0x40004, 1, 0x0, 1, 0x0, 0, 32, .ro⟩
def TIM_GTC_SEC_HI.SEC : Fld := ⟨0x40008, 1, 0x0, 1, 0x0, 0, 16, .ro⟩
-- 03: TIM_STATUS, offset 0x0010, state of time.
def TIM_STATUS.STEPS : Fld := ⟨0x40010, 1, 0x0, 1, 0x0, 16, 16, .ro⟩
def TIM_STATUS.TIME_UNKNOWN : Fld := ⟨0x40010, 1, 0x0, 1, 0x0, 15, 1, .ro⟩
def TIM_STATUS.LEAP_PENDING : Fld := ⟨0x40010, 1, 0x0, 1, 0x0, 14, 1, .ro⟩
def TIM_STATUS.SOURCE : Fld := ⟨0x40010, 1, 0x0, 1, 0x0, 12, 2, .ro⟩
def TIM_STATUS.CLK10M_OK : Fld := ⟨0x40010, 1, 0x0, 1, 0x0, 11, 1, .ro⟩
def TIM_STATUS.OCXO_OK : Fld := ⟨0x40010, 1, 0x0, 1, 0x0, 10, 1, .ro⟩
def TIM_STATUS.IRIG_OK : Fld := ⟨0x40010, 1, 0x0, 1, 0x0, 9, 1, .ro⟩
def TIM_STATUS.PPS_OK : Fld := ⟨0x40010, 1, 0x0, 1, 0x0, 8, 1, .ro⟩
def TIM_STATUS.STATE : Fld := ⟨0x40010, 1, 0x0, 1, 0x0, 4, 3, .ro⟩
def TIM_STATUS.QUALITY : Fld := ⟨0x40010, 1, 0x0, 1, 0x0, 0, 4, .ro⟩
-- 03: TIM_SRC_CTRL, offset 0x0014, source priority, oscillator and step policy.
def TIM_SRC_CTRL.OSC : Fld := ⟨0x40014, 1, 0x0, 1, 0x0, 18, 2, .rwl⟩
def TIM_SRC_CTRL.STEP_EN : Fld := ⟨0x40014, 1, 0x0, 1, 0x0, 16, 2, .rwl⟩
def TIM_SRC_CTRL.PRIO2 : Fld := ⟨0x40014, 1, 0x0, 1, 0x0, 6, 3, .rwl⟩
def TIM_SRC_CTRL.PRIO1 : Fld := ⟨0x40014, 1, 0x0, 1, 0x0, 3, 3, .rwl⟩
def TIM_SRC_CTRL.PRIO0 : Fld := ⟨0x40014, 1, 0x0, 1, 0x0, 0, 3, .rwl⟩
-- 03: TIM_LOCK_CFG, offset 0x0018, lock criterion.
def TIM_LOCK_CFG.COUNT : Fld := ⟨0x40018, 1, 0x0, 1, 0x0, 24, 8, .rwl⟩
def TIM_LOCK_CFG.THRESH_NS : Fld := ⟨0x40018, 1, 0x0, 1, 0x0, 0, 24, .rwl⟩
-- 03: TIM_STEP_THRESH, offset 0x001C, step threshold.
def TIM_STEP_THRESH.NS : Fld := ⟨0x4001C, 1, 0x0, 1, 0x0, 0, 32, .rwl⟩
-- 03: TIM_HOLDOVER, offset 0x0020, holdover limit.
def TIM_HOLDOVER.LIMIT_S : Fld := ⟨0x40020, 1, 0x0, 1, 0x0, 0, 24, .rwl⟩
-- 03: TIM_LOSS_CFG, offset 0x0024, source loss limits.
def TIM_LOSS_CFG.PTP_TO : Fld := ⟨0x40024, 1, 0x0, 1, 0x0, 16, 8, .rwl⟩
def TIM_LOSS_CFG.IRIG_MISS : Fld := ⟨0x40024, 1, 0x0, 1, 0x0, 8, 8, .rwl⟩
def TIM_LOSS_CFG.PPS_MISS : Fld := ⟨0x40024, 1, 0x0, 1, 0x0, 0, 8, .rwl⟩
-- 03: TIM_FREQ_ADJ_LO, offset 0x0028, and TIM_FREQ_ADJ_HI, offset 0x002C, DPLL frequency correction.
def TIM_FREQ_ADJ_LO.ADJ : Fld := ⟨0x40028, 1, 0x0, 1, 0x0, 0, 32, .rw⟩
def TIM_FREQ_ADJ_HI.ADJ : Fld := ⟨0x4002C, 1, 0x0, 1, 0x0, 0, 32, .rw⟩
-- 03: TIM_PTP_OFS_SEC, offset 0x0030, PTP offset seconds.
def TIM_PTP_OFS_SEC.SEC : Fld := ⟨0x40030, 1, 0x0, 1, 0x0, 0, 32, .wo⟩
-- 03: TIM_PTP_OFS_NS, offset 0x0034, PTP offset nanoseconds and update.
def TIM_PTP_OFS_NS.NS : Fld := ⟨0x40034, 1, 0x0, 1, 0x0, 0, 32, .wo⟩
-- 03: TIM_OFFSET, offset 0x0038, last offset of the selected source.
def TIM_OFFSET.NS : Fld := ⟨0x40038, 1, 0x0, 1, 0x0, 0, 32, .ro⟩
-- 03: TIM_SLEW_MAX, offset 0x003C, slew limit.
def TIM_SLEW_MAX.PPB : Fld := ⟨0x4003C, 1, 0x0, 1, 0x0, 0, 32, .rwl⟩
-- 03: TIM_UTC, offset 0x0040, UTC relation.
def TIM_UTC.LEAP61 : Fld := ⟨0x40040, 1, 0x0, 1, 0x0, 17, 1, .rw⟩
def TIM_UTC.LEAP59 : Fld := ⟨0x40040, 1, 0x0, 1, 0x0, 16, 1, .rw⟩
def TIM_UTC.UTC_OFFSET : Fld := ⟨0x40040, 1, 0x0, 1, 0x0, 0, 16, .rw⟩
-- 03: TIM_PPS_OUT_CFG, offset 0x0044, 1PPS_OUT control.
def TIM_PPS_OUT_CFG.WIDTH_US : Fld := ⟨0x40044, 1, 0x0, 1, 0x0, 16, 16, .rwl⟩
def TIM_PPS_OUT_CFG.GATE : Fld := ⟨0x40044, 1, 0x0, 1, 0x0, 4, 4, .rwl⟩
def TIM_PPS_OUT_CFG.ENABLE : Fld := ⟨0x40044, 1, 0x0, 1, 0x0, 0, 1, .rwl⟩
-- 03: TIM_PPS_OUT_OFS, offset 0x0048, 1PPS_OUT offset.
def TIM_PPS_OUT_OFS.NS : Fld := ⟨0x40048, 1, 0x0, 1, 0x0, 0, 32, .rwl⟩
-- 03: TIM_PPS_IN_CFG, offset 0x004C, 1PPS_IN control.
def TIM_PPS_IN_CFG.EDGE : Fld := ⟨0x4004C, 1, 0x0, 1, 0x0, 31, 1, .rwl⟩
def TIM_PPS_IN_CFG.CABLE_NS : Fld := ⟨0x4004C, 1, 0x0, 1, 0x0, 0, 24, .rwl⟩
-- 03: TIM_IRIG_CFG, offset 0x0050, IRIG-B control.
def TIM_IRIG_CFG.CABLE_NS : Fld := ⟨0x40050, 1, 0x0, 1, 0x0, 16, 16, .rwl⟩
def TIM_IRIG_CFG.AM_THRESH : Fld := ⟨0x40050, 1, 0x0, 1, 0x0, 8, 8, .rwl⟩
def TIM_IRIG_CFG.EXT_1344 : Fld := ⟨0x40050, 1, 0x0, 1, 0x0, 5, 1, .rwl⟩
def TIM_IRIG_CFG.LOCAL : Fld := ⟨0x40050, 1, 0x0, 1, 0x0, 4, 1, .rwl⟩
def TIM_IRIG_CFG.MOD : Fld := ⟨0x40050, 1, 0x0, 1, 0x0, 3, 1, .rwl⟩
def TIM_IRIG_CFG.EXPR : Fld := ⟨0x40050, 1, 0x0, 1, 0x0, 0, 3, .rwl⟩
-- 03: TIM_IRIG_STATUS, offset 0x0054, IRIG-B status.
def TIM_IRIG_STATUS.FRAME_ERR : Fld := ⟨0x40054, 1, 0x0, 1, 0x0, 16, 16, .rc⟩
def TIM_IRIG_STATUS.LSP : Fld := ⟨0x40054, 1, 0x0, 1, 0x0, 4, 1, .ro⟩
def TIM_IRIG_STATUS.TQ : Fld := ⟨0x40054, 1, 0x0, 1, 0x0, 0, 4, .ro⟩
-- 03: TIM_PTP_CFG, offset 0x0060, PTP instance.
def TIM_PTP_CFG.MAX_CLASS : Fld := ⟨0x40060, 1, 0x0, 1, 0x0, 16, 8, .rwl⟩
def TIM_PTP_CFG.DOMAIN : Fld := ⟨0x40060, 1, 0x0, 1, 0x0, 8, 8, .rwl⟩
def TIM_PTP_CFG.PROFILE : Fld := ⟨0x40060, 1, 0x0, 1, 0x0, 0, 2, .rwl⟩
-- 03: TIM_PTP_PORTn, offset 0x0100 + 4 × n, n = 0 to 39, PTP port mode. Ports 0 to 23 are F0 to F23. Ports 24 to 39 are the 25 Gb/s sub-ports of X0 to X3, f
def TIM_PTP_PORTn.ONE_STEP : Fld := ⟨0x40100, 40, 0x4, 1, 0x0, 7, 1, .rwl⟩
def TIM_PTP_PORTn.P2P : Fld := ⟨0x40100, 40, 0x4, 1, 0x0, 6, 1, .rwl⟩
def TIM_PTP_PORTn.MODE : Fld := ⟨0x40100, 40, 0x4, 1, 0x0, 0, 4, .rwl⟩
-- 03: TIM_TSCOMPn, offset 0x0200 + 4 × n, n = 0 to 39, timestamp compensation.
def TIM_TSCOMPn.EGR : Fld := ⟨0x40200, 40, 0x4, 1, 0x0, 16, 16, .rw⟩
def TIM_TSCOMPn.ING : Fld := ⟨0x40200, 40, 0x4, 1, 0x0, 0, 16, .rw⟩
-- 03: TIM_GRAINn_CTRL, offset 0x1000 + 0x100 × n, n = 0 to 3, instance control.
def TIM_GRAINn_CTRL.ENABLE : Fld := ⟨0x41000, 4, 0x100, 1, 0x0, 31, 1, .rwl⟩
def TIM_GRAINn_CTRL.NOMINAL_MHZ : Fld := ⟨0x41000, 4, 0x100, 1, 0x0, 0, 17, .rwl⟩
-- 03: TIM_GRAINn_REF, offset 0x1004 + 0x100 × n, primary reference.
def TIM_GRAINn_REF.KIND : Fld := ⟨0x41004, 4, 0x100, 1, 0x0, 31, 1, .rwl⟩
def TIM_GRAINn_REF.INDEX : Fld := ⟨0x41004, 4, 0x100, 1, 0x0, 0, 12, .rwl⟩
-- 03: TIM_GRAINn_ALT, offset 0x1008 + 0x100 × n, alternate reference.
def TIM_GRAINn_ALT.KIND : Fld := ⟨0x41008, 4, 0x100, 1, 0x0, 31, 1, .rwl⟩
def TIM_GRAINn_ALT.ALT_EN : Fld := ⟨0x41008, 4, 0x100, 1, 0x0, 30, 1, .rwl⟩
def TIM_GRAINn_ALT.INDEX : Fld := ⟨0x41008, 4, 0x100, 1, 0x0, 0, 12, .rwl⟩
-- 03: TIM_GRAINn_LOOP, offset 0x100C + 0x100 × n, tracking loop.
def TIM_GRAINn_LOOP.MIN_MAG : Fld := ⟨0x4100C, 4, 0x100, 1, 0x0, 24, 8, .rwl⟩
def TIM_GRAINn_LOOP.GAP : Fld := ⟨0x4100C, 4, 0x100, 1, 0x0, 16, 8, .rwl⟩
def TIM_GRAINn_LOOP.MAX_FILL : Fld := ⟨0x4100C, 4, 0x100, 1, 0x0, 8, 8, .rwl⟩
def TIM_GRAINn_LOOP.BW : Fld := ⟨0x4100C, 4, 0x100, 1, 0x0, 0, 4, .rwl⟩
-- 03: TIM_GRAINn_COAST, offset 0x1010 + 0x100 × n, coasting timeout.
def TIM_GRAINn_COAST.TIMEOUT : Fld := ⟨0x41010, 4, 0x100, 1, 0x0, 0, 16, .rwl⟩
-- 03: TIM_GRAINn_STATUS, offset 0x1014 + 0x100 × n, instance state.
def TIM_GRAINn_STATUS.COASTING : Fld := ⟨0x41014, 4, 0x100, 1, 0x0, 7, 1, .ro⟩
def TIM_GRAINn_STATUS.ON_ALT : Fld := ⟨0x41014, 4, 0x100, 1, 0x0, 6, 1, .ro⟩
def TIM_GRAINn_STATUS.REF_OK : Fld := ⟨0x41014, 4, 0x100, 1, 0x0, 5, 1, .ro⟩
def TIM_GRAINn_STATUS.STATE : Fld := ⟨0x41014, 4, 0x100, 1, 0x0, 0, 3, .ro⟩
-- 03: TIM_GRAINn_ANGLE, offset 0x1018 + 0x100 × n, live angle.
def TIM_GRAINn_ANGLE.ANGLE : Fld := ⟨0x41018, 4, 0x100, 1, 0x0, 0, 32, .ro⟩
-- 03: TIM_GRAINn_CYCLE, offset 0x101C + 0x100 × n, latched cycle count.
def TIM_GRAINn_CYCLE.CYCLE : Fld := ⟨0x4101C, 4, 0x100, 1, 0x0, 0, 32, .ro⟩
-- 03: TIM_GRAINn_FREQ, offset 0x1020 + 0x100 × n, frequency estimate.
def TIM_GRAINn_FREQ.HZ : Fld := ⟨0x41020, 4, 0x100, 1, 0x0, 0, 32, .ro⟩
-- 03: TIM_GRAINn_OFFSET, offset 0x1024 + 0x100 × n, angle offset.
def TIM_GRAINn_OFFSET.OFFSET : Fld := ⟨0x41024, 4, 0x100, 1, 0x0, 0, 32, .rwl⟩
-- 03: TIM_GRAINn_ALT_DELTA, offset 0x1028 + 0x100 × n, primary-to-alternate angle.
def TIM_GRAINn_ALT_DELTA.DELTA : Fld := ⟨0x41028, 4, 0x100, 1, 0x0, 0, 32, .ro⟩
-- 03: TIM_MARKn_CFG, offset 0x2000 + 8 × n, n = 0 to 255, mark control.
def TIM_MARKn_CFG.DIV : Fld := ⟨0x42000, 256, 0x8, 1, 0x0, 16, 16, .rwl⟩
def TIM_MARKn_CFG.PHASE : Fld := ⟨0x42000, 256, 0x8, 1, 0x0, 8, 8, .rwl⟩
def TIM_MARKn_CFG.EVT : Fld := ⟨0x42000, 256, 0x8, 1, 0x0, 3, 1, .rwl⟩
def TIM_MARKn_CFG.INSTANCE : Fld := ⟨0x42000, 256, 0x8, 1, 0x0, 1, 2, .rwl⟩
def TIM_MARKn_CFG.ENABLE : Fld := ⟨0x42000, 256, 0x8, 1, 0x0, 0, 1, .rwl⟩
-- 03: TIM_MARKn_ANGLE, offset 0x2004 + 8 × n, mark angle.
def TIM_MARKn_ANGLE.ANGLE : Fld := ⟨0x42004, 256, 0x8, 1, 0x0, 0, 32, .rwl⟩
-- 03: TIM_QWn, offset 0x2800 + 4 × n, n = 0 to 7, quiet window.
def TIM_QWn.ENABLE : Fld := ⟨0x42800, 8, 0x4, 1, 0x0, 31, 1, .rwl⟩
def TIM_QWn.CLOSE : Fld := ⟨0x42800, 8, 0x4, 1, 0x0, 8, 8, .rwl⟩
def TIM_QWn.OPEN : Fld := ⟨0x42800, 8, 0x4, 1, 0x0, 0, 8, .rwl⟩
-- 03: TIM_QW_STATUS, offset 0x2820, open windows.
def TIM_QW_STATUS.OPEN : Fld := ⟨0x42820, 1, 0x0, 1, 0x0, 0, 8, .ro⟩
-- 03: TIM_MARK_SEENk, offset 0x2840 + 4 × k, k = 0 to 7, marks fired.
def TIM_MARK_SEENk.SEEN : Fld := ⟨0x42840, 8, 0x4, 1, 0x0, 0, 32, .w1c⟩
-- 04: FPT_PORTn_CFG, offset 0x1000 + 0x100 × n, port mode.
def FPT_PORTn_CFG.ENABLE : Fld := ⟨0x81000, 24, 0x100, 1, 0x0, 31, 1, .rwl⟩
def FPT_PORTn_CFG.MAX_FRAME : Fld := ⟨0x81000, 24, 0x100, 1, 0x0, 16, 14, .rwl⟩
def FPT_PORTn_CFG.AN : Fld := ⟨0x81000, 24, 0x100, 1, 0x0, 7, 1, .rwl⟩
def FPT_PORTn_CFG.MODE : Fld := ⟨0x81000, 24, 0x100, 1, 0x0, 0, 4, .rwl⟩
-- 04: FPT_PORTn_STATUS, offset 0x1004 + 0x100 × n, link state.
def FPT_PORTn_STATUS.SPEED : Fld := ⟨0x81004, 24, 0x100, 1, 0x0, 6, 2, .ro⟩
def FPT_PORTn_STATUS.RFAULT : Fld := ⟨0x81004, 24, 0x100, 1, 0x0, 5, 1, .ro⟩
def FPT_PORTn_STATUS.SIG : Fld := ⟨0x81004, 24, 0x100, 1, 0x0, 4, 1, .ro⟩
def FPT_PORTn_STATUS.LSTATE : Fld := ⟨0x81004, 24, 0x100, 1, 0x0, 0, 3, .ro⟩
-- 04: FPT_PORTn_VLAN, offset 0x1008 + 0x100 × n, VLAN handling.
def FPT_PORTn_VLAN.ACCEPT : Fld := ⟨0x81008, 24, 0x100, 1, 0x0, 16, 2, .rwl⟩
def FPT_PORTn_VLAN.PCP : Fld := ⟨0x81008, 24, 0x100, 1, 0x0, 13, 3, .rwl⟩
def FPT_PORTn_VLAN.UNTAG : Fld := ⟨0x81008, 24, 0x100, 1, 0x0, 12, 1, .rwl⟩
def FPT_PORTn_VLAN.PVID : Fld := ⟨0x81008, 24, 0x100, 1, 0x0, 0, 12, .rwl⟩
-- 04: FPT_PORTn_MAC_LO, offset 0x100C + 0x100 × n, and FPT_PORTn_MAC_HI, offset 0x1010 + 0x100 × n, port MAC address.
def FPT_PORTn_MAC_LO.MAC : Fld := ⟨0x8100C, 24, 0x100, 1, 0x0, 0, 32, .rwl⟩
def FPT_PORTn_MAC_HI.MAC : Fld := ⟨0x81010, 24, 0x100, 1, 0x0, 0, 16, .rwl⟩
-- 04: FPT_PORTn_ERR, offset 0x1014 + 0x100 × n, error threshold.
def FPT_PORTn_ERR.FCS_THRESH : Fld := ⟨0x81014, 24, 0x100, 1, 0x0, 0, 16, .rwl⟩
-- 04: FPT_XPORTm_CFG, offset 0x3000 + 0x100 × m, fabric mode.
def FPT_XPORTm_CFG.ENABLE : Fld := ⟨0x83000, 4, 0x100, 1, 0x0, 31, 1, .rwl⟩
def FPT_XPORTm_CFG.PFC_EN : Fld := ⟨0x83000, 4, 0x100, 1, 0x0, 16, 8, .rwl⟩
def FPT_XPORTm_CFG.AN : Fld := ⟨0x83000, 4, 0x100, 1, 0x0, 12, 1, .rwl⟩
def FPT_XPORTm_CFG.FEC : Fld := ⟨0x83000, 4, 0x100, 1, 0x0, 10, 2, .rwl⟩
def FPT_XPORTm_CFG.MEDIA : Fld := ⟨0x83000, 4, 0x100, 1, 0x0, 8, 2, .rwl⟩
def FPT_XPORTm_CFG.AUTO_DEGRADE : Fld := ⟨0x83000, 4, 0x100, 1, 0x0, 1, 1, .rwl⟩
def FPT_XPORTm_CFG.SPLIT : Fld := ⟨0x83000, 4, 0x100, 1, 0x0, 0, 1, .rwl⟩
-- 04: FPT_XPORTm_LANEMAP, offset 0x3004 + 0x100 × m, lane order and polarity.
def FPT_XPORTm_LANEMAP.RX_INV : Fld := ⟨0x83004, 4, 0x100, 1, 0x0, 12, 4, .rwl⟩
def FPT_XPORTm_LANEMAP.TX_INV : Fld := ⟨0x83004, 4, 0x100, 1, 0x0, 8, 4, .rwl⟩
def FPT_XPORTm_LANEMAP.MAP : Fld := ⟨0x83004, 4, 0x100, 1, 0x0, 0, 8, .rwl⟩
-- 04: FPT_XPORTm_STATUS, offset 0x3008 + 0x100 × m, fabric state.
def FPT_XPORTm_STATUS.LANE_OK : Fld := ⟨0x83008, 4, 0x100, 1, 0x0, 12, 4, .ro⟩
def FPT_XPORTm_STATUS.SUB_UP : Fld := ⟨0x83008, 4, 0x100, 1, 0x0, 8, 4, .ro⟩
def FPT_XPORTm_STATUS.WIDTH : Fld := ⟨0x83008, 4, 0x100, 1, 0x0, 4, 2, .ro⟩
def FPT_XPORTm_STATUS.DLANE : Fld := ⟨0x83008, 4, 0x100, 1, 0x0, 2, 2, .ro⟩
-- 04: FPT_XPORTm_DEGRADE, offset 0x300C + 0x100 × m, width commands.
def FPT_XPORTm_DEGRADE.RESTORE : Fld := ⟨0x8300C, 4, 0x100, 1, 0x0, 3, 1, .wo⟩
def FPT_XPORTm_DEGRADE.LANE : Fld := ⟨0x8300C, 4, 0x100, 1, 0x0, 1, 2, .rw⟩
def FPT_XPORTm_DEGRADE.GO : Fld := ⟨0x8300C, 4, 0x100, 1, 0x0, 0, 1, .wo⟩
-- 04: FPT_XPORTm_FEC_UNC, offset 0x3010 + 0x100 × m, and FPT_XPORTm_FEC_CORR, offset 0x3014 + 0x100 × m, FEC counts.
def FPT_XPORTm_FEC_UNC.COUNT : Fld := ⟨0x83010, 4, 0x100, 1, 0x0, 0, 32, .rc⟩
def FPT_XPORTm_FEC_CORR.COUNT : Fld := ⟨0x83014, 4, 0x100, 1, 0x0, 0, 32, .rc⟩
-- 04: FPT_XPORTm_PFC_WD, offset 0x3018 + 0x100 × m, PFC watchdog.
def FPT_XPORTm_PFC_WD.WD_MS : Fld := ⟨0x83018, 4, 0x100, 1, 0x0, 0, 16, .rwl⟩
-- 04: FPT_PAIRp_CFG, offset 0x4000 + 0x40 × p, pair mode.
def FPT_PAIRp_CFG.INTERLINK : Fld := ⟨0x84000, 12, 0x40, 1, 0x0, 24, 5, .rwl⟩
def FPT_PAIRp_CFG.HSR_MODE : Fld := ⟨0x84000, 12, 0x40, 1, 0x0, 8, 4, .rwl⟩
def FPT_PAIRp_CFG.MODE : Fld := ⟨0x84000, 12, 0x40, 1, 0x0, 0, 2, .rwl⟩
-- 04: FPT_PAIRp_SUP, offset 0x4004 + 0x40 × p, supervision.
def FPT_PAIRp_SUP.INTERVAL_MS : Fld := ⟨0x84004, 12, 0x40, 1, 0x0, 0, 16, .rwl⟩
-- 04: FPT_PAIRp_DD, offset 0x4008 + 0x40 × p, duplicate-discard window.
def FPT_PAIRp_DD.WINDOW : Fld := ⟨0x84008, 12, 0x40, 1, 0x0, 0, 16, .rwl⟩
-- 04: FPT_PAIRp_BYP, offset 0x400C + 0x40 × p, by-pass timing.
def FPT_PAIRp_BYP.BYP_EN : Fld := ⟨0x8400C, 12, 0x40, 1, 0x0, 31, 1, .rwl⟩
def FPT_PAIRp_BYP.SWITCH_MS : Fld := ⟨0x8400C, 12, 0x40, 1, 0x0, 16, 15, .rwl⟩
def FPT_PAIRp_BYP.SETTLE_MS : Fld := ⟨0x8400C, 12, 0x40, 1, 0x0, 0, 16, .rwl⟩
-- 04: FPT_PAIRp_KEEPER, offset 0x4010 + 0x40 × p, keeper timeout.
def FPT_PAIRp_KEEPER.TIMEOUT_MS : Fld := ⟨0x84010, 12, 0x40, 1, 0x0, 0, 16, .rwl⟩
-- 04: FPT_PAIRp_CTRL, offset 0x4014 + 0x40 × p, pair commands.
def FPT_PAIRp_CTRL.KICK : Fld := ⟨0x84014, 12, 0x40, 1, 0x0, 2, 1, .wo⟩
def FPT_PAIRp_CTRL.RESET : Fld := ⟨0x84014, 12, 0x40, 1, 0x0, 1, 1, .wo⟩
def FPT_PAIRp_CTRL.FORCE_REL : Fld := ⟨0x84014, 12, 0x40, 1, 0x0, 0, 1, .rw⟩
-- 04: FPT_PAIRp_STATUS, offset 0x4018 + 0x40 × p, pair state.
def FPT_PAIRp_STATUS.DD_USED : Fld := ⟨0x84018, 12, 0x40, 1, 0x0, 12, 13, .ro⟩
def FPT_PAIRp_STATUS.REASON : Fld := ⟨0x84018, 12, 0x40, 1, 0x0, 8, 4, .ro⟩
def FPT_PAIRp_STATUS.DRIVE : Fld := ⟨0x84018, 12, 0x40, 1, 0x0, 7, 1, .ro⟩
def FPT_PAIRp_STATUS.FWD_READY : Fld := ⟨0x84018, 12, 0x40, 1, 0x0, 3, 1, .ro⟩
def FPT_PAIRp_STATUS.BSTATE : Fld := ⟨0x84018, 12, 0x40, 1, 0x0, 0, 3, .ro⟩
-- 04: FPT_PAIRp_DDCNT, offset 0x401C + 0x40 × p, duplicate-discard exceptions.
def FPT_PAIRp_DDCNT.DD_OLD : Fld := ⟨0x8401C, 12, 0x40, 1, 0x0, 16, 16, .rc⟩
def FPT_PAIRp_DDCNT.DD_OVF : Fld := ⟨0x8401C, 12, 0x40, 1, 0x0, 0, 16, .rc⟩
-- 05: PPL_PORTn_CFG, offset 0x1000 + 0x80 × n, selection and exception choice.
def PPL_PORTn_CFG.TRAP_RING : Fld := ⟨0x101000, 40, 0x80, 1, 0x0, 20, 3, .rwl⟩
def PPL_PORTn_CFG.EXC_BADLEN : Fld := ⟨0x101000, 40, 0x80, 1, 0x0, 19, 1, .rwl⟩
def PPL_PORTn_CFG.EXC_PARSE : Fld := ⟨0x101000, 40, 0x80, 1, 0x0, 18, 1, .rwl⟩
def PPL_PORTn_CFG.EXC_MISS : Fld := ⟨0x101000, 40, 0x80, 1, 0x0, 17, 1, .rwl⟩
def PPL_PORTn_CFG.DEF_PROF_EN : Fld := ⟨0x101000, 40, 0x80, 1, 0x0, 15, 1, .rwl⟩
def PPL_PORTn_CFG.DEF_PROFILE : Fld := ⟨0x101000, 40, 0x80, 1, 0x0, 8, 6, .rwl⟩
def PPL_PORTn_CFG.PSET : Fld := ⟨0x101000, 40, 0x80, 1, 0x0, 0, 3, .rwl⟩
-- 05: PPL_PORTn_DEFACT, offset 0x1004 + 0x80 × n, default action.
def PPL_PORTn_DEFACT.ACTION : Fld := ⟨0x101004, 40, 0x80, 1, 0x0, 0, 32, .rwl⟩
-- 05: PPL_PORTn_LIMr, offset 0x1010 + 0x80 × n + 4 × r, r = 0 to 3 (rule, miss, parse failure, bad length), trap limiter.
def PPL_PORTn_LIMr.RATE : Fld := ⟨0x101010, 40, 0x80, 4, 0x4, 16, 16, .rwl⟩
def PPL_PORTn_LIMr.BURST : Fld := ⟨0x101010, 40, 0x80, 4, 0x4, 0, 8, .rwl⟩
-- 05: PPL_PORTn_cnt_LO and _HI, offset 0x1040 + 0x80 × n + 8 × i, port counters. Each counter is 64 bits, RO, resets to 0, wraps, and is read _LO first (R36
def PPL_PORTn_cnt_LO.COUNT : Fld := ⟨0x101040, 40, 0x80, 7, 0x8, 0, 32, .ro⟩
def PPL_PORTn_cnt_HI.COUNT : Fld := ⟨0x101044, 40, 0x80, 7, 0x8, 0, 32, .ro⟩
-- 05: PPL_SELk_MATCH, offset 0x3000 + 8 × k, selection condition.
def PPL_SELk_MATCH.VALID : Fld := ⟨0x103000, 128, 0x8, 1, 0x0, 31, 1, .rwl⟩
def PPL_SELk_MATCH.TAG : Fld := ⟨0x103000, 128, 0x8, 1, 0x0, 29, 2, .rwl⟩
def PPL_SELk_MATCH.PSET_MASK : Fld := ⟨0x103000, 128, 0x8, 1, 0x0, 16, 8, .rwl⟩
def PPL_SELk_MATCH.ETYPE : Fld := ⟨0x103000, 128, 0x8, 1, 0x0, 0, 16, .rwl⟩
-- 05: PPL_SELk_PROF, offset 0x3004 + 8 × k, selected profile.
def PPL_SELk_PROF.PROFILE : Fld := ⟨0x103004, 128, 0x8, 1, 0x0, 0, 6, .rwl⟩
-- 05: PPL_TRAPr_BASE_LO, offset 0x4000 + 0x20 × r, and PPL_TRAPr_BASE_HI, offset 0x4004 + 0x20 × r, ring base.
def PPL_TRAPr_BASE_LO.BASE : Fld := ⟨0x104000, 8, 0x20, 1, 0x0, 0, 32, .rwl⟩
def PPL_TRAPr_BASE_HI.BASE : Fld := ⟨0x104004, 8, 0x20, 1, 0x0, 0, 32, .rwl⟩
-- 05: PPL_TRAPr_SIZE, offset 0x4008 + 0x20 × r, ring size.
def PPL_TRAPr_SIZE.ENABLE : Fld := ⟨0x104008, 8, 0x20, 1, 0x0, 31, 1, .rwl⟩
def PPL_TRAPr_SIZE.LOG2 : Fld := ⟨0x104008, 8, 0x20, 1, 0x0, 0, 5, .rwl⟩
-- 05: PPL_TRAPr_PROD, offset 0x400C + 0x20 × r, producer index.
def PPL_TRAPr_PROD.PROD : Fld := ⟨0x10400C, 8, 0x20, 1, 0x0, 0, 32, .ro⟩
-- 05: PPL_TRAPr_CONS, offset 0x4010 + 0x20 × r, consumer index.
def PPL_TRAPr_CONS.CONS : Fld := ⟨0x104010, 8, 0x20, 1, 0x0, 0, 32, .rw⟩
-- 05: PPL_TRAPr_DROP, offset 0x4014 + 0x20 × r, ring discards.
def PPL_TRAPr_DROP.COUNT : Fld := ⟨0x104014, 8, 0x20, 1, 0x0, 0, 32, .rc⟩
-- 06: FWT_CFG, offset 0x0000, ageing.
def FWT_CFG.AGE_S : Fld := ⟨0x140000, 1, 0x0, 1, 0x0, 0, 16, .rwl⟩
-- 06: FWT_PERR, offset 0x0010, parity error FIFO.
def FWT_PERR.VALID : Fld := ⟨0x140010, 1, 0x0, 1, 0x0, 31, 1, .rc⟩
def FWT_PERR.TABLE : Fld := ⟨0x140010, 1, 0x0, 1, 0x0, 29, 2, .rc⟩
def FWT_PERR.BANK : Fld := ⟨0x140010, 1, 0x0, 1, 0x0, 28, 1, .rc⟩
def FWT_PERR.INDEX : Fld := ⟨0x140010, 1, 0x0, 1, 0x0, 0, 18, .rc⟩
-- 06: FWT_PERR_LOST, offset 0x0014, FIFO overflows.
def FWT_PERR_LOST.COUNT : Fld := ⟨0x140014, 1, 0x0, 1, 0x0, 0, 32, .rc⟩
-- 06: FWT_L2_cnt_LO and _HI, offset 0x0100 + 8 × i, L2 counters: 0 LEARNED, 1 LEARN_DROP, 2 STATION_MOVE, 3 STATIC_VIOL, 4 AGED, 5 FLOOD, 6 INGRESS_FILTER,
def FWT_L2_cnt_LO.COUNT : Fld := ⟨0x140100, 8, 0x8, 1, 0x0, 0, 32, .ro⟩
def FWT_L2_cnt_HI.COUNT : Fld := ⟨0x140104, 8, 0x8, 1, 0x0, 0, 32, .ro⟩
-- 06: FWT_PORTn_CFG, offset 0x0400 + 4 × n, n = 0 to 39, learning.
def FWT_PORTn_CFG.LEARN : Fld := ⟨0x140400, 40, 0x4, 1, 0x0, 0, 1, .rwl⟩
-- 06: FWT_Tt_CTRL, offset 0x1000 + 0x100 × t, table commands.
def FWT_Tt_CTRL.INJECT : Fld := ⟨0x141000, 3, 0x100, 1, 0x0, 3, 1, .w1s⟩
def FWT_Tt_CTRL.SWAP : Fld := ⟨0x141000, 3, 0x100, 1, 0x0, 2, 1, .wo⟩
def FWT_Tt_CTRL.ABORT_REBUILD : Fld := ⟨0x141000, 3, 0x100, 1, 0x0, 1, 1, .wo⟩
def FWT_Tt_CTRL.REBUILD : Fld := ⟨0x141000, 3, 0x100, 1, 0x0, 0, 1, .wo⟩
-- 06: FWT_Tt_STATUS, offset 0x1004 + 0x100 × t, table state.
def FWT_Tt_STATUS.USED : Fld := ⟨0x141004, 3, 0x100, 1, 0x0, 8, 19, .ro⟩
def FWT_Tt_STATUS.SH_FAIL : Fld := ⟨0x141004, 3, 0x100, 1, 0x0, 3, 1, .w1c⟩
def FWT_Tt_STATUS.CLEARING : Fld := ⟨0x141004, 3, 0x100, 1, 0x0, 2, 1, .ro⟩
def FWT_Tt_STATUS.REBUILD_OPEN : Fld := ⟨0x141004, 3, 0x100, 1, 0x0, 1, 1, .ro⟩
def FWT_Tt_STATUS.REHASH_REQ : Fld := ⟨0x141004, 3, 0x100, 1, 0x0, 0, 1, .w1c⟩
-- 06: FWT_Tt_SEED0, offset 0x1008 + 0x100 × t, and FWT_Tt_SEED1, offset 0x100C + 0x100 × t, live seeds.
def FWT_Tt_SEED0.SEED : Fld := ⟨0x141008, 3, 0x100, 1, 0x0, 0, 32, .ro⟩
def FWT_Tt_SEED1.SEED : Fld := ⟨0x14100C, 3, 0x100, 1, 0x0, 0, 32, .ro⟩
-- 06: FWT_Tt_SH_SEED0, offset 0x1010 + 0x100 × t, and FWT_Tt_SH_SEED1, offset 0x1014 + 0x100 × t, shadow seeds.
def FWT_Tt_SH_SEED0.SEED : Fld := ⟨0x141010, 3, 0x100, 1, 0x0, 0, 32, .rw⟩
def FWT_Tt_SH_SEED1.SEED : Fld := ⟨0x141014, 3, 0x100, 1, 0x0, 0, 32, .rw⟩
-- 06: FWT_Tt_cnt_LO and _HI, offset 0x1040 + 0x100 × t + 8 × i, table counters: 0 INSERTED, 1 INSERT_FAIL, 2 RELOCATIONS, 3 PARITY_ERR, 4 MISPLACED, 5 REMOV
def FWT_Tt_cnt_LO.COUNT : Fld := ⟨0x141040, 3, 0x100, 6, 0x8, 0, 32, .ro⟩
def FWT_Tt_cnt_HI.COUNT : Fld := ⟨0x141044, 3, 0x100, 6, 0x8, 0, 32, .ro⟩
-- 06: FWT_Tt_CMD_ENTRYw, offset 0x2000 + 0x40 × t + 4 × w, w = 0 to 7, entry image.
def FWT_Tt_CMD_ENTRYw.DATA : Fld := ⟨0x142000, 3, 0x40, 8, 0x4, 0, 32, .rw⟩
-- 06: FWT_Tt_CMD, offset 0x2020 + 0x40 × t, command.
def FWT_Tt_CMD.BANK : Fld := ⟨0x142020, 3, 0x40, 1, 0x0, 4, 1, .wo⟩
def FWT_Tt_CMD.OP : Fld := ⟨0x142020, 3, 0x40, 1, 0x0, 0, 2, .wo⟩
-- 06: FWT_Tt_CMD_STATUS, offset 0x2024 + 0x40 × t, command result.
def FWT_Tt_CMD_STATUS.BUSY : Fld := ⟨0x142024, 3, 0x40, 1, 0x0, 31, 1, .ro⟩
def FWT_Tt_CMD_STATUS.RESULT : Fld := ⟨0x142024, 3, 0x40, 1, 0x0, 27, 4, .ro⟩
def FWT_Tt_CMD_STATUS.INDEX : Fld := ⟨0x142024, 3, 0x40, 1, 0x0, 0, 18, .ro⟩
-- 06: FWT_VLANv_LO, offset 0x8000 + 8 × v, and FWT_VLANv_HI, offset 0x8004 + 8 × v, v = 0 to 4,095, VLAN membership, read and written _LO first (R36).
def FWT_VLANv_LO.MEMBERS : Fld := ⟨0x148000, 4096, 0x8, 1, 0x0, 0, 32, .rwl⟩
def FWT_VLANv_HI.HOSTQ : Fld := ⟨0x148004, 4096, 0x8, 1, 0x0, 10, 12, .rwl⟩
def FWT_VLANv_HI.HOSTQ_EN : Fld := ⟨0x148004, 4096, 0x8, 1, 0x0, 9, 1, .rwl⟩
def FWT_VLANv_HI.LEARN : Fld := ⟨0x148004, 4096, 0x8, 1, 0x0, 8, 1, .rwl⟩
def FWT_VLANv_HI.MEMBERS : Fld := ⟨0x148004, 4096, 0x8, 1, 0x0, 0, 8, .rwl⟩
-- 07: SVI_CFG, offset 0x0000, unit control.
def SVI_CFG.SIM_ACCEPT : Fld := ⟨0x180000, 1, 0x0, 1, 0x0, 1, 1, .rwl⟩
def SVI_CFG.ENABLE : Fld := ⟨0x180000, 1, 0x0, 1, 0x0, 0, 1, .rwl⟩
-- 07: SVI_BUDGET, offset 0x0008, committed ingest load.
def SVI_BUDGET.CHSAMP : Fld := ⟨0x180008, 1, 0x0, 1, 0x0, 0, 27, .ro⟩
-- 07: SVI_MACLOAD, offset 0x000C, committed MAC load.
def SVI_MACLOAD.APDUS : Fld := ⟨0x18000C, 1, 0x0, 1, 0x0, 0, 23, .ro⟩
-- 07: SVI_STATES_A, offset 0x0010, and SVI_STATES_B, offset 0x0014, subscriptions per state.
def SVI_STATES_A.COUNT_HI : Fld := ⟨0x180010, 1, 0x0, 1, 0x0, 16, 11, .ro⟩
def SVI_STATES_A.COUNT_LO : Fld := ⟨0x180010, 1, 0x0, 1, 0x0, 0, 11, .ro⟩
def SVI_STATES_B.COUNT_HI : Fld := ⟨0x180014, 1, 0x0, 1, 0x0, 16, 11, .ro⟩
def SVI_STATES_B.COUNT_LO : Fld := ⟨0x180014, 1, 0x0, 1, 0x0, 0, 11, .ro⟩
-- 07: SVI_FIFO, offset 0x0018, input FIFO.
def SVI_FIFO.HIGH : Fld := ⟨0x180018, 1, 0x0, 1, 0x0, 16, 9, .rc⟩
def SVI_FIFO.LEVEL : Fld := ⟨0x180018, 1, 0x0, 1, 0x0, 0, 9, .ro⟩
-- 07: SVI_cnt_LO and _HI, offset 0x0100 + 8 × i, unit counters: 0 FRAMES_IN, 1 WRONG_QUEUE, 2 DECODE_ERR, 3 NO_SUB, 4 SIM_DISCARD, 5 OVERFLOW, 6 UNKNOWN_TAG
def SVI_cnt_LO.COUNT : Fld := ⟨0x180100, 8, 0x8, 1, 0x0, 0, 32, .ro⟩
def SVI_cnt_HI.COUNT : Fld := ⟨0x180104, 8, 0x8, 1, 0x0, 0, 32, .ro⟩
-- 07: SVI_NOSUB_LO, offset 0x0200, and SVI_NOSUB_HI, offset 0x0204, last unmatched key.
def SVI_NOSUB_LO.KEY : Fld := ⟨0x180200, 1, 0x0, 1, 0x0, 0, 32, .ro⟩
def SVI_NOSUB_HI.KEY : Fld := ⟨0x180204, 1, 0x0, 1, 0x0, 0, 32, .ro⟩
-- 07: SVI_NOSUB_PORT, offset 0x0208, last unmatched port.
def SVI_NOSUB_PORT.VALID : Fld := ⟨0x180208, 1, 0x0, 1, 0x0, 31, 1, .w1c⟩
def SVI_NOSUB_PORT.PORT : Fld := ⟨0x180208, 1, 0x0, 1, 0x0, 0, 6, .ro⟩
-- 07: SVI_SUBs_STATE, offset 0x1_0000 + 0x20 × s, stream state.
def SVI_SUBs_STATE.STATE : Fld := ⟨0x190000, 1024, 0x20, 1, 0x0, 29, 3, .ro⟩
def SVI_SUBs_STATE.NOT_SYNC : Fld := ⟨0x190000, 1024, 0x20, 1, 0x0, 28, 1, .ro⟩
def SVI_SUBs_STATE.SMPSYNCH : Fld := ⟨0x190000, 1024, 0x20, 1, 0x0, 16, 8, .ro⟩
def SVI_SUBs_STATE.H : Fld := ⟨0x190000, 1024, 0x20, 1, 0x0, 0, 16, .ro⟩
-- 07: SVI_SUBs_OK, offset 0x1_0004 + 0x20 × s, frames accepted.
def SVI_SUBs_OK.COUNT : Fld := ⟨0x190004, 1024, 0x20, 1, 0x0, 0, 32, .ro⟩
-- 07: SVI_SUBs_SEQ, offset 0x1_0008 + 0x20 × s, loss and reorder.
def SVI_SUBs_SEQ.LOST : Fld := ⟨0x190008, 1024, 0x20, 1, 0x0, 16, 16, .rc⟩
def SVI_SUBs_SEQ.REORDER : Fld := ⟨0x190008, 1024, 0x20, 1, 0x0, 0, 16, .rc⟩
-- 07: SVI_SUBs_DUP, offset 0x1_000C + 0x20 × s, duplicates and stale counts.
def SVI_SUBs_DUP.DUP : Fld := ⟨0x19000C, 1024, 0x20, 1, 0x0, 16, 16, .rc⟩
def SVI_SUBs_DUP.STALE : Fld := ⟨0x19000C, 1024, 0x20, 1, 0x0, 0, 16, .rc⟩
-- 07: SVI_SUBs_ERR, offset 0x1_0010 + 0x20 × s, rejected frames.
def SVI_SUBs_ERR.AUTH_FAIL : Fld := ⟨0x190010, 1024, 0x20, 1, 0x0, 16, 16, .rc⟩
def SVI_SUBs_ERR.CONFREV_ERR : Fld := ⟨0x190010, 1024, 0x20, 1, 0x0, 0, 16, .rc⟩
-- 07: SVI_SUBs_ERR2, offset 0x1_0014 + 0x20 × s, further rejections.
def SVI_SUBs_ERR2.FORMAT_ERR : Fld := ⟨0x190014, 1024, 0x20, 1, 0x0, 16, 16, .rc⟩
def SVI_SUBs_ERR2.OVERRATE : Fld := ⟨0x190014, 1024, 0x20, 1, 0x0, 0, 16, .rc⟩
-- 07: SVI_SUBs_LAST, offset 0x1_0018 + 0x20 × s, last arrival.
def SVI_SUBs_LAST.NS : Fld := ⟨0x190018, 1024, 0x20, 1, 0x0, 0, 30, .ro⟩
-- 07: SVI_SUBs_RESYNC, offset 0x1_001C + 0x20 × s, restarts.
def SVI_SUBs_RESYNC.RESYNC : Fld := ⟨0x19001C, 1024, 0x20, 1, 0x0, 0, 16, .rc⟩
-- 07: SVI_KEYk_CTRL, offset 0x4_0000 + 0x80 × k, slot control.
def SVI_KEYk_CTRL.VALID_CUR : Fld := ⟨0x1C0000, 256, 0x80, 1, 0x0, 31, 1, .rw⟩
def SVI_KEYk_CTRL.VALID_NEXT : Fld := ⟨0x1C0000, 256, 0x80, 1, 0x0, 30, 1, .rw⟩
def SVI_KEYk_CTRL.PROMOTE : Fld := ⟨0x1C0000, 256, 0x80, 1, 0x0, 29, 1, .wo⟩
def SVI_KEYk_CTRL.AUTO : Fld := ⟨0x1C0000, 256, 0x80, 1, 0x0, 28, 1, .rw⟩
-- 07: SVI_KEYk_ID_CUR, offset 0x4_0004 + 0x80 × k, and SVI_KEYk_ID_NEXT, offset 0x4_0008 + 0x80 × k, key identifiers.
def SVI_KEYk_ID_CUR.ID : Fld := ⟨0x1C0004, 256, 0x80, 1, 0x0, 0, 32, .rw⟩
def SVI_KEYk_ID_NEXT.ID : Fld := ⟨0x1C0008, 256, 0x80, 1, 0x0, 0, 32, .rw⟩
-- 07: SVI_KEYk_NEXT_FROM_LO, offset 0x4_0010 + 0x80 × k, and SVI_KEYk_NEXT_FROM_HI, offset 0x4_0014 + 0x80 × k, promotion time.
def SVI_KEYk_NEXT_FROM_LO.SEC : Fld := ⟨0x1C0010, 256, 0x80, 1, 0x0, 0, 32, .rw⟩
def SVI_KEYk_NEXT_FROM_HI.SEC : Fld := ⟨0x1C0014, 256, 0x80, 1, 0x0, 0, 32, .rw⟩
-- 07: SVI_KEYk_CURw, offset 0x4_0020 + 0x80 × k + 4 × w, and SVI_KEYk_NEXTw, offset 0x4_0040 + 0x80 × k + 4 × w, w = 0 to 7, key material.
def SVI_KEYk_CURw.KEY : Fld := ⟨0x1C0020, 256, 0x80, 8, 0x4, 0, 32, .wo⟩
def SVI_KEYk_NEXTw.KEY : Fld := ⟨0x1C0040, 256, 0x80, 8, 0x4, 0, 32, .wo⟩
-- 08: ALN_CFG, offset 0x0000, fabric control.
def ALN_CFG.ENABLE : Fld := ⟨0x200000, 1, 0x0, 1, 0x0, 0, 1, .rwl⟩
-- 08: ALN_HOLD_TIME, offset 0x0004, default hold time.
def ALN_HOLD_TIME.US : Fld := ⟨0x200004, 1, 0x0, 1, 0x0, 0, 16, .rwl⟩
-- 08: ALN_STATUS, offset 0x0008, fabric state.
def ALN_STATUS.RUNNING : Fld := ⟨0x200008, 1, 0x0, 1, 0x0, 0, 8, .ro⟩
-- 08: ALN_cnt_LO and _HI, offset 0x0100 + 8 × i, fabric counters: 0 RECORDS, 1 PLACED, 2 ROWS_SEALED, 3 EARLY_SEALS, 4 FRAMES_CLOSED, 5 DELIVERED, 6 LATE, 7
def ALN_cnt_LO.COUNT : Fld := ⟨0x200100, 13, 0x8, 1, 0x0, 0, 32, .ro⟩
def ALN_cnt_HI.COUNT : Fld := ⟨0x200104, 13, 0x8, 1, 0x0, 0, 32, .ro⟩
-- 08: ALN_BAYb_STATE, offset 0x1_0000 + 0x40 × b, bay state.
def ALN_BAYb_STATE.RUNNING : Fld := ⟨0x210000, 128, 0x40, 1, 0x0, 31, 1, .ro⟩
def ALN_BAYb_STATE.OPEN : Fld := ⟨0x210000, 128, 0x40, 1, 0x0, 0, 8, .ro⟩
-- 08: ALN_BAYb_SEALED_LO, offset 0x1_0004 + 0x40 × b, and ALN_BAYb_SEALED_HI, offset 0x1_0008 + 0x40 × b, last sealed row.
def ALN_BAYb_SEALED_LO.N : Fld := ⟨0x210004, 128, 0x40, 1, 0x0, 0, 32, .ro⟩
def ALN_BAYb_SEALED_HI.N : Fld := ⟨0x210008, 128, 0x40, 1, 0x0, 0, 32, .ro⟩
-- 08: ALN_BAYb_FRAME_SEQ, offset 0x1_000C + 0x40 × b, frames closed.
def ALN_BAYb_FRAME_SEQ.SEQ : Fld := ⟨0x21000C, 128, 0x40, 1, 0x0, 0, 32, .ro⟩
-- 08: ALN_BAYb_LATE, offset 0x1_0010 + 0x40 × b, late samples.
def ALN_BAYb_LATE.LATE : Fld := ⟨0x210010, 128, 0x40, 1, 0x0, 16, 16, .rc⟩
def ALN_BAYb_LATE.STALE_LATE : Fld := ⟨0x210010, 128, 0x40, 1, 0x0, 0, 16, .rc⟩
-- 08: ALN_BAYb_FILL, offset 0x1_0014 + 0x40 × b, filled cells.
def ALN_BAYb_FILL.HELD : Fld := ⟨0x210014, 128, 0x40, 1, 0x0, 16, 16, .rc⟩
def ALN_BAYb_FILL.PREDICTED : Fld := ⟨0x210014, 128, 0x40, 1, 0x0, 0, 16, .rc⟩
-- 08: ALN_BAYb_MISS, offset 0x1_0018 + 0x40 × b, missing and colliding cells.
def ALN_BAYb_MISS.MISSING : Fld := ⟨0x210018, 128, 0x40, 1, 0x0, 16, 16, .rc⟩
def ALN_BAYb_MISS.COLLIDE : Fld := ⟨0x210018, 128, 0x40, 1, 0x0, 0, 16, .rc⟩
-- 08: ALN_BAYb_RING0, offset 0x1_001C + 0x40 × b, and ALN_BAYb_RING1, offset 0x1_0020 + 0x40 × b, undelivered frames.
def ALN_BAYb_RING0.UNAVAIL : Fld := ⟨0x21001C, 128, 0x40, 1, 0x0, 16, 16, .rc⟩
def ALN_BAYb_RING0.NO_BUF : Fld := ⟨0x21001C, 128, 0x40, 1, 0x0, 0, 16, .rc⟩
def ALN_BAYb_RING1.UNAVAIL : Fld := ⟨0x210020, 128, 0x40, 1, 0x0, 16, 16, .rc⟩
def ALN_BAYb_RING1.NO_BUF : Fld := ⟨0x210020, 128, 0x40, 1, 0x0, 0, 16, .rc⟩
-- 08: ALN_BAYb_SHORT, offset 0x1_0024 + 0x40 × b, short buffers.
def ALN_BAYb_SHORT.SHORT0 : Fld := ⟨0x210024, 128, 0x40, 1, 0x0, 16, 16, .rc⟩
def ALN_BAYb_SHORT.SHORT1 : Fld := ⟨0x210024, 128, 0x40, 1, 0x0, 0, 16, .rc⟩
-- 08: ALN_BAYb_DROP, offset 0x1_0028 + 0x40 × b, discarded records.
def ALN_BAYb_DROP.MISFIT : Fld := ⟨0x210028, 128, 0x40, 1, 0x0, 16, 16, .rc⟩
def ALN_BAYb_DROP.STEP_DISCARD : Fld := ⟨0x210028, 128, 0x40, 1, 0x0, 0, 16, .rc⟩
-- 08: ALN_BAYb_SEAL_MAX, offset 0x1_002C + 0x40 × b, worst seal delay.
def ALN_BAYb_SEAL_MAX.US : Fld := ⟨0x21002C, 128, 0x40, 1, 0x0, 0, 16, .rc⟩
-- 09: PHE_CFG, offset 0x0000, engine control.
def PHE_CFG.PRED_CYC : Fld := ⟨0x280000, 1, 0x0, 1, 0x0, 28, 4, .rwl⟩
def PHE_CFG.FMIN_PCT : Fld := ⟨0x280000, 1, 0x0, 1, 0x0, 16, 8, .rwl⟩
def PHE_CFG.MAX_FILL : Fld := ⟨0x280000, 1, 0x0, 1, 0x0, 8, 8, .rwl⟩
def PHE_CFG.ENABLE : Fld := ⟨0x280000, 1, 0x0, 1, 0x0, 0, 1, .rwl⟩
-- 09: PHE_LOAD, offset 0x0004, committed update load.
def PHE_LOAD.UPDATES : Fld := ⟨0x280004, 1, 0x0, 1, 0x0, 0, 25, .ro⟩
-- 09: PHE_USED, offset 0x0008, entries in use.
def PHE_USED.CHANNELS : Fld := ⟨0x280008, 1, 0x0, 1, 0x0, 16, 13, .ro⟩
def PHE_USED.GROUPS : Fld := ⟨0x280008, 1, 0x0, 1, 0x0, 0, 11, .ro⟩
-- 09: PHE_TBL_BASE_LO, offset 0x0010, and PHE_TBL_BASE_HI, offset 0x0014, table base.
def PHE_TBL_BASE_LO.BASE : Fld := ⟨0x280010, 1, 0x0, 1, 0x0, 0, 32, .rwl⟩
def PHE_TBL_BASE_HI.BASE : Fld := ⟨0x280014, 1, 0x0, 1, 0x0, 0, 32, .rwl⟩
-- 09: PHE_HIST_BASE_LO, offset 0x0018, and PHE_HIST_BASE_HI, offset 0x001C, history area base.
def PHE_HIST_BASE_LO.BASE : Fld := ⟨0x280018, 1, 0x0, 1, 0x0, 0, 32, .rwl⟩
def PHE_HIST_BASE_HI.BASE : Fld := ⟨0x28001C, 1, 0x0, 1, 0x0, 0, 32, .rwl⟩
-- 09: PHE_HIST_SIZE, offset 0x0020, history area size.
def PHE_HIST_SIZE.UNITS : Fld := ⟨0x280020, 1, 0x0, 1, 0x0, 0, 17, .rwl⟩
-- 09: PHE_cnt_LO and _HI, offset 0x0100 + 8 × i, engine counters: 0 PLACE_RESULTS, 1 REPORT_RESULTS, 2 GROUP_RESULTS, 3 HARM_RECORDS, 4 OUT_OF_ORDER, 5 SATU
def PHE_cnt_LO.COUNT : Fld := ⟨0x280100, 11, 0x8, 1, 0x0, 0, 32, .ro⟩
def PHE_cnt_HI.COUNT : Fld := ⟨0x280104, 11, 0x8, 1, 0x0, 0, 32, .ro⟩
-- 09: PHE_GRPg_PH, offset 0x1_0000 + 8 × g, phases A and B.
def PHE_GRPg_PH.VALID : Fld := ⟨0x290000, 1024, 0x8, 1, 0x0, 31, 1, .rwl⟩
def PHE_GRPg_PH.CH_B : Fld := ⟨0x290000, 1024, 0x8, 1, 0x0, 12, 12, .rwl⟩
def PHE_GRPg_PH.CH_A : Fld := ⟨0x290000, 1024, 0x8, 1, 0x0, 0, 12, .rwl⟩
-- 09: PHE_GRPg_CFG, offset 0x1_0004 + 8 × g, phase C and options.
def PHE_GRPg_CFG.RPT : Fld := ⟨0x290004, 1024, 0x8, 1, 0x0, 28, 4, .rwl⟩
def PHE_GRPg_CFG.ROC_CYC : Fld := ⟨0x290004, 1024, 0x8, 1, 0x0, 16, 4, .rwl⟩
def PHE_GRPg_CFG.CH_C : Fld := ⟨0x290004, 1024, 0x8, 1, 0x0, 0, 12, .rwl⟩
-- 09: PHE_RPTi_CFG, offset 0x2000 + 0x10 × i, report set.
def PHE_RPTi_CFG.ENABLE : Fld := ⟨0x282000, 4, 0x10, 1, 0x0, 31, 1, .rwl⟩
def PHE_RPTi_CFG.MARK : Fld := ⟨0x282000, 4, 0x10, 1, 0x0, 22, 8, .rwl⟩
def PHE_RPTi_CFG.RING : Fld := ⟨0x282000, 4, 0x10, 1, 0x0, 8, 14, .rwl⟩
def PHE_RPTi_CFG.RING_FN : Fld := ⟨0x282000, 4, 0x10, 1, 0x0, 0, 8, .rwl⟩
-- 09: PHE_RPTi_SEQ, offset 0x2004 + 0x10 × i, reports produced.
def PHE_RPTi_SEQ.SEQ : Fld := ⟨0x282004, 4, 0x10, 1, 0x0, 0, 32, .ro⟩
-- 09: PHE_RPTi_CNT, offset 0x2008 + 0x10 × i, undelivered reports.
def PHE_RPTi_CNT.UNAVAIL : Fld := ⟨0x282008, 4, 0x10, 1, 0x0, 16, 16, .rc⟩
def PHE_RPTi_CNT.NO_BUF : Fld := ⟨0x282008, 4, 0x10, 1, 0x0, 0, 16, .rc⟩
-- 09: PHE_RPTi_SHORT, offset 0x200C + 0x10 × i, short buffers.
def PHE_RPTi_SHORT.SHORT : Fld := ⟨0x28200C, 4, 0x10, 1, 0x0, 0, 16, .rc⟩
-- 10: TRP_CFG, offset 0x0000, path control.
def TRP_CFG.ENABLE : Fld := ⟨0x300000, 1, 0x0, 1, 0x0, 0, 1, .rwl⟩
-- 10: TRP_STATUS, offset 0x0004, term summary.
def TRP_STATUS.BLOCKED : Fld := ⟨0x300004, 1, 0x0, 1, 0x0, 16, 9, .ro⟩
def TRP_STATUS.OPERATED : Fld := ⟨0x300004, 1, 0x0, 1, 0x0, 0, 9, .ro⟩
-- 10: TRP_cnt_LO and _HI, offset 0x0100 + 8 × i, path counters. The counters by i are: 0 EVALS, 1 FIRES, 2 RESETS, 3 WIN_CLOSED, 4 PUB_FRAMES, 5 NOKEY, 6 PO
def TRP_cnt_LO.COUNT : Fld := ⟨0x300100, 18, 0x8, 1, 0x0, 0, 32, .ro⟩
def TRP_cnt_HI.COUNT : Fld := ⟨0x300104, 18, 0x8, 1, 0x0, 0, 32, .ro⟩
-- 10: TRP_ARM_SETk, offset 0x0400 + 4 × k, and TRP_ARM_CLRk, offset 0x0420 + 4 × k, k = 0 to 7, arm bits.
def TRP_ARM_SETk.ARM : Fld := ⟨0x300400, 8, 0x4, 1, 0x0, 0, 32, .w1s⟩
def TRP_ARM_CLRk.ARM : Fld := ⟨0x300420, 8, 0x4, 1, 0x0, 0, 32, .w1c⟩
-- 10: TRP_UNLATCHk, offset 0x0440 + 4 × k, k = 0 to 7, unlatch requests.
def TRP_UNLATCHk.UNLATCH : Fld := ⟨0x300440, 8, 0x4, 1, 0x0, 0, 32, .wo⟩
-- 10: TRP_GRING_BASE_LO, offset 0x0800, and TRP_GRING_BASE_HI, offset 0x0804, GOOSE ring base.
def TRP_GRING_BASE_LO.BASE : Fld := ⟨0x300800, 1, 0x0, 1, 0x0, 0, 32, .rwl⟩
def TRP_GRING_BASE_HI.BASE : Fld := ⟨0x300804, 1, 0x0, 1, 0x0, 0, 32, .rwl⟩
-- 10: TRP_GRING_SIZE, offset 0x0808, ring size.
def TRP_GRING_SIZE.ENABLE : Fld := ⟨0x300808, 1, 0x0, 1, 0x0, 31, 1, .rwl⟩
def TRP_GRING_SIZE.LOG2 : Fld := ⟨0x300808, 1, 0x0, 1, 0x0, 0, 5, .rwl⟩
-- 10: TRP_GRING_PROD, offset 0x080C, and TRP_GRING_CONS, offset 0x0810, ring indices.
def TRP_GRING_PROD.INDEX : Fld := ⟨0x30080C, 1, 0x0, 1, 0x0, 0, 32, .ro⟩
def TRP_GRING_CONS.INDEX : Fld := ⟨0x300810, 1, 0x0, 1, 0x0, 0, 32, .rw⟩
-- 10: TRP_GRING_DROP, offset 0x0814, ring discards.
def TRP_GRING_DROP.COUNT : Fld := ⟨0x300814, 1, 0x0, 1, 0x0, 0, 32, .rc⟩
-- 10: TRP_PUBp_CFG, offset 0x1000 + 0x40 × p, publication control.
def TRP_PUBp_CFG.ENABLE : Fld := ⟨0x301000, 256, 0x40, 1, 0x0, 31, 1, .rwl⟩
def TRP_PUBp_CFG.VTYPE : Fld := ⟨0x301000, 256, 0x40, 1, 0x0, 28, 3, .rwl⟩
def TRP_PUBp_CFG.TAL_MULT : Fld := ⟨0x301000, 256, 0x40, 1, 0x0, 24, 4, .rwl⟩
def TRP_PUBp_CFG.LEN : Fld := ⟨0x301000, 256, 0x40, 1, 0x0, 0, 10, .rwl⟩
-- 10: TRP_PUBp_OFS_A, offset 0x1004 + 0x40 × p, TRP_PUBp_OFS_B, offset 0x1008 + 0x40 × p, and TRP_PUBp_OFS_C, offset 0x100C + 0x40 × p, field offsets.
def TRP_PUBp_OFS_A.OFS_HI : Fld := ⟨0x301004, 256, 0x40, 1, 0x0, 16, 10, .rwl⟩
def TRP_PUBp_OFS_A.OFS_LO : Fld := ⟨0x301004, 256, 0x40, 1, 0x0, 0, 10, .rwl⟩
def TRP_PUBp_OFS_B.OFS_HI : Fld := ⟨0x301008, 256, 0x40, 1, 0x0, 16, 10, .rwl⟩
def TRP_PUBp_OFS_B.OFS_LO : Fld := ⟨0x301008, 256, 0x40, 1, 0x0, 0, 10, .rwl⟩
def TRP_PUBp_OFS_C.OFS_HI : Fld := ⟨0x30100C, 256, 0x40, 1, 0x0, 16, 10, .rwl⟩
def TRP_PUBp_OFS_C.OFS_LO : Fld := ⟨0x30100C, 256, 0x40, 1, 0x0, 0, 10, .rwl⟩
-- 10: TRP_PUBp_SEC, offset 0x1010 + 0x40 × p, security.
def TRP_PUBp_SEC.KEY_SLOT : Fld := ⟨0x301010, 256, 0x40, 1, 0x0, 24, 8, .rwl⟩
def TRP_PUBp_SEC.MAC_ALG : Fld := ⟨0x301010, 256, 0x40, 1, 0x0, 16, 3, .rwl⟩
def TRP_PUBp_SEC.OFS_KID : Fld := ⟨0x301010, 256, 0x40, 1, 0x0, 0, 10, .rwl⟩
-- 10: TRP_PUBp_PORTS, offset 0x1014 + 0x40 × p, ports.
def TRP_PUBp_PORTS.PORT_MASK : Fld := ⟨0x301014, 256, 0x40, 1, 0x0, 0, 24, .rwl⟩
-- 10: TRP_PUBp_SCHED, offset 0x1018 + 0x40 × p, schedule.
def TRP_PUBp_SCHED.MAX_MS : Fld := ⟨0x301018, 256, 0x40, 1, 0x0, 16, 16, .rwl⟩
def TRP_PUBp_SCHED.FIRST_US : Fld := ⟨0x301018, 256, 0x40, 1, 0x0, 0, 16, .rwl⟩
-- 10: TRP_PUBp_VAL_ON, offset 0x101C + 0x40 × p, and TRP_PUBp_VAL_OFF, offset 0x1020 + 0x40 × p, values.
def TRP_PUBp_VAL_ON.VALUE : Fld := ⟨0x30101C, 256, 0x40, 1, 0x0, 0, 32, .rwl⟩
def TRP_PUBp_VAL_OFF.VALUE : Fld := ⟨0x301020, 256, 0x40, 1, 0x0, 0, 32, .rwl⟩
-- 10: TRP_PUBp_STNUM, offset 0x1024 + 0x40 × p, and TRP_PUBp_SQNUM, offset 0x1028 + 0x40 × p, last numbers sent.
def TRP_PUBp_STNUM.NUM : Fld := ⟨0x301024, 256, 0x40, 1, 0x0, 0, 32, .ro⟩
def TRP_PUBp_SQNUM.NUM : Fld := ⟨0x301028, 256, 0x40, 1, 0x0, 0, 32, .ro⟩
-- 10: TRP_PUBp_STATUS, offset 0x102C + 0x40 × p, publication state.
def TRP_PUBp_STATUS.STEP : Fld := ⟨0x30102C, 256, 0x40, 1, 0x0, 1, 4, .ro⟩
def TRP_PUBp_STATUS.ON : Fld := ⟨0x30102C, 256, 0x40, 1, 0x0, 0, 1, .ro⟩
-- 10: TRP_TERMt_STATUS, offset 0x5000 + 4 × t, t = 0 to 255, term state.
def TRP_TERMt_STATUS.STATE : Fld := ⟨0x305000, 256, 0x4, 1, 0x0, 29, 3, .ro⟩
def TRP_TERMt_STATUS.UNLATCH : Fld := ⟨0x305000, 256, 0x4, 1, 0x0, 28, 1, .ro⟩
def TRP_TERMt_STATUS.DECIDER : Fld := ⟨0x305000, 256, 0x4, 1, 0x0, 8, 11, .ro⟩
def TRP_TERMt_STATUS.OUT : Fld := ⟨0x305000, 256, 0x4, 1, 0x0, 0, 8, .ro⟩
-- 10: TRP_CMPc_STATUS, offset 0x6000 + 4 × c, c = 0 to 2,047, comparator state.
def TRP_CMPc_STATUS.STATE : Fld := ⟨0x306000, 2048, 0x4, 1, 0x0, 29, 3, .ro⟩
def TRP_CMPc_STATUS.COUNT : Fld := ⟨0x306000, 2048, 0x4, 1, 0x0, 0, 16, .ro⟩
-- 10: TRP_GSUBs_STATE, offset 0x8000 + 0x10 × s, intake state.
def TRP_GSUBs_STATE.STATE : Fld := ⟨0x308000, 2048, 0x10, 1, 0x0, 30, 2, .ro⟩
def TRP_GSUBs_STATE.NDSCOM : Fld := ⟨0x308000, 2048, 0x10, 1, 0x0, 29, 1, .ro⟩
def TRP_GSUBs_STATE.SIM : Fld := ⟨0x308000, 2048, 0x10, 1, 0x0, 28, 1, .ro⟩
def TRP_GSUBs_STATE.AUTH_OK : Fld := ⟨0x308000, 2048, 0x10, 1, 0x0, 27, 1, .ro⟩
def TRP_GSUBs_STATE.VTYPE : Fld := ⟨0x308000, 2048, 0x10, 1, 0x0, 24, 3, .ro⟩
def TRP_GSUBs_STATE.TAL : Fld := ⟨0x308000, 2048, 0x10, 1, 0x0, 0, 24, .ro⟩
-- 10: TRP_GSUBs_VALUE, offset 0x8004 + 0x10 × s, kept value.
def TRP_GSUBs_VALUE.VALUE : Fld := ⟨0x308004, 2048, 0x10, 1, 0x0, 0, 32, .ro⟩
-- 10: TRP_GSUBs_STNUM, offset 0x8008 + 0x10 × s, and TRP_GSUBs_SQNUM, offset 0x800C + 0x10 × s, last numbers accepted.
def TRP_GSUBs_STNUM.NUM : Fld := ⟨0x308008, 2048, 0x10, 1, 0x0, 0, 32, .ro⟩
def TRP_GSUBs_SQNUM.NUM : Fld := ⟨0x30800C, 2048, 0x10, 1, 0x0, 0, 32, .ro⟩
-- 11: REC_CFG, offset 0x0000, recorder control.
def REC_CFG.EDGE : Fld := ⟨0x340000, 1, 0x0, 1, 0x0, 24, 8, .rwl⟩
def REC_CFG.DEBOUNCE_US : Fld := ⟨0x340000, 1, 0x0, 1, 0x0, 8, 16, .rwl⟩
def REC_CFG.ENABLE : Fld := ⟨0x340000, 1, 0x0, 1, 0x0, 0, 1, .rwl⟩
-- 11: REC_FLUSH, offset 0x0004, burst age.
def REC_FLUSH.FLUSH_US : Fld := ⟨0x340004, 1, 0x0, 1, 0x0, 0, 16, .rwl⟩
-- 11: REC_SEQ_LO, offset 0x0008, and REC_SEQ_HI, offset 0x000C, next SEG_SEQ.
def REC_SEQ_LO.SEQ : Fld := ⟨0x340008, 1, 0x0, 1, 0x0, 0, 32, .ro⟩
def REC_SEQ_HI.SEQ : Fld := ⟨0x34000C, 1, 0x0, 1, 0x0, 0, 32, .ro⟩
-- 11: REC_cnt_LO and _HI, offset 0x0100 + 8 × i, recorder counters: 0 RECORDS, 1 TRIGGERS, 2 TRIG_SKIP, 3 SEGMENTS, 4 EXPORT_FAIL, 5 NS_OVERWRITE. Each coun
def REC_cnt_LO.COUNT : Fld := ⟨0x340100, 6, 0x8, 1, 0x0, 0, 32, .ro⟩
def REC_cnt_HI.COUNT : Fld := ⟨0x340104, 6, 0x8, 1, 0x0, 0, 32, .ro⟩
-- 11: REC_CMD, offset 0x0200, host trigger. REC_CMD_TIME_NS, REC_CMD_TIME_SEC_LO and REC_CMD_TIME_SEC_HI, at 0x0204 to 0x020C, hold T in the layout of the T
def REC_CMD.GO : Fld := ⟨0x340200, 1, 0x0, 1, 0x0, 4, 1, .wo⟩
def REC_CMD.SET : Fld := ⟨0x340200, 1, 0x0, 1, 0x0, 0, 4, .rw⟩
-- 11: REC_SETc_BAYw, offset 0x1000 + 0x20 × c + 4 × w, w = 0 to 3, bay mask.
def REC_SETc_BAYw.BAYS : Fld := ⟨0x341000, 16, 0x20, 4, 0x4, 0, 32, .rwl⟩
-- 11: REC_SETc_TIME, offset 0x1010 + 0x20 × c, set times.
def REC_SETc_TIME.POST_MS : Fld := ⟨0x341010, 16, 0x20, 1, 0x0, 16, 16, .rwl⟩
def REC_SETc_TIME.PRE_MS : Fld := ⟨0x341010, 16, 0x20, 1, 0x0, 0, 16, .rwl⟩
-- 11: REC_SETc_MAX, offset 0x1014 + 0x20 × c, cap and namespace.
def REC_SETc_MAX.MAX_MS : Fld := ⟨0x341014, 16, 0x20, 1, 0x0, 16, 16, .rwl⟩
def REC_SETc_MAX.NS : Fld := ⟨0x341014, 16, 0x20, 1, 0x0, 0, 3, .rwl⟩
-- 11: REC_TRGi, offset 0x2000 + 4 × i, i = 0 to 255, trigger slot.
def REC_TRGi.KIND : Fld := ⟨0x342000, 256, 0x4, 1, 0x0, 28, 4, .rwl⟩
def REC_TRGi.SET : Fld := ⟨0x342000, 256, 0x4, 1, 0x0, 24, 4, .rwl⟩
def REC_TRGi.ANY : Fld := ⟨0x342000, 256, 0x4, 1, 0x0, 11, 1, .rwl⟩
def REC_TRGi.INDEX : Fld := ⟨0x342000, 256, 0x4, 1, 0x0, 0, 11, .rwl⟩
-- 11: REC_BAYb_BASE_LO, offset 0x4000 + 0x40 × b, and REC_BAYb_BASE_HI, offset 0x4004 + 0x40 × b, ring base.
def REC_BAYb_BASE_LO.BASE : Fld := ⟨0x344000, 128, 0x40, 1, 0x0, 0, 32, .rwl⟩
def REC_BAYb_BASE_HI.BASE : Fld := ⟨0x344004, 128, 0x40, 1, 0x0, 0, 32, .rwl⟩
-- 11: REC_BAYb_CFG, offset 0x4008 + 0x40 × b, ring control.
def REC_BAYb_CFG.ENABLE : Fld := ⟨0x344008, 128, 0x40, 1, 0x0, 31, 1, .rwl⟩
def REC_BAYb_CFG.PIN_POLICY : Fld := ⟨0x344008, 128, 0x40, 1, 0x0, 30, 1, .rwl⟩
def REC_BAYb_CFG.SKIP_MISSING : Fld := ⟨0x344008, 128, 0x40, 1, 0x0, 29, 1, .rwl⟩
def REC_BAYb_CFG.SIZE : Fld := ⟨0x344008, 128, 0x40, 1, 0x0, 0, 21, .rwl⟩
-- 11: REC_BAYb_WPOS_LO, offset 0x400C + 0x40 × b, and REC_BAYb_WPOS_HI, offset 0x4010 + 0x40 × b, write position.
def REC_BAYb_WPOS_LO.WPOS : Fld := ⟨0x34400C, 128, 0x40, 1, 0x0, 0, 32, .ro⟩
def REC_BAYb_WPOS_HI.WPOS : Fld := ⟨0x344010, 128, 0x40, 1, 0x0, 0, 32, .ro⟩
-- 11: REC_BAYb_LOSS, offset 0x4014 + 0x40 × b, lost data.
def REC_BAYb_LOSS.PIN_LOST : Fld := ⟨0x344014, 128, 0x40, 1, 0x0, 16, 16, .rc⟩
def REC_BAYb_LOSS.BUF_LOST : Fld := ⟨0x344014, 128, 0x40, 1, 0x0, 0, 16, .rc⟩
-- 11: REC_BAYb_BLOCKED, offset 0x4018 + 0x40 × b, blocked records.
def REC_BAYb_BLOCKED.RING_BLOCKED : Fld := ⟨0x344018, 128, 0x40, 1, 0x0, 0, 32, .rc⟩
-- 11: REC_NSr_HEAD, offset 0x6000 + 0x10 × r, r = 0 to 7, namespace log.
def REC_NSr_HEAD.BUSY : Fld := ⟨0x346000, 8, 0x10, 1, 0x0, 31, 1, .ro⟩
def REC_NSr_HEAD.PENDING : Fld := ⟨0x346000, 8, 0x10, 1, 0x0, 24, 7, .ro⟩
def REC_NSr_HEAD.NS_HEAD : Fld := ⟨0x346000, 8, 0x10, 1, 0x0, 0, 24, .ro⟩
-- 12: HIF_LINK_STATUS, offset 0x0000, link state.
def HIF_LINK_STATUS.LTSSM : Fld := ⟨0x600000, 1, 0x0, 1, 0x0, 16, 4, .ro⟩
def HIF_LINK_STATUS.REVERSED : Fld := ⟨0x600000, 1, 0x0, 1, 0x0, 12, 1, .ro⟩
def HIF_LINK_STATUS.EQ_DONE : Fld := ⟨0x600000, 1, 0x0, 1, 0x0, 8, 3, .ro⟩
def HIF_LINK_STATUS.RATE : Fld := ⟨0x600000, 1, 0x0, 1, 0x0, 5, 3, .ro⟩
def HIF_LINK_STATUS.WIDTH : Fld := ⟨0x600000, 1, 0x0, 1, 0x0, 0, 5, .ro⟩
-- 12: HIF_LINK_CFG, offset 0x0004, training limits.
def HIF_LINK_CFG.MAX_WIDTH : Fld := ⟨0x600004, 1, 0x0, 1, 0x0, 8, 5, .rwl⟩
def HIF_LINK_CFG.MAX_RATE : Fld := ⟨0x600004, 1, 0x0, 1, 0x0, 0, 3, .rwl⟩
-- 12: HIF_LINK_CMD, offset 0x0008, link command.
def HIF_LINK_CMD.RETRAIN : Fld := ⟨0x600008, 1, 0x0, 1, 0x0, 0, 1, .wo⟩
-- 12: HIF_PF_VFS, offset 0x000C, TotalVFs per PF.
def HIF_PF_VFS.PF4 : Fld := ⟨0x60000C, 1, 0x0, 1, 0x0, 24, 8, .ro⟩
def HIF_PF_VFS.PF3 : Fld := ⟨0x60000C, 1, 0x0, 1, 0x0, 16, 8, .ro⟩
def HIF_PF_VFS.PF2 : Fld := ⟨0x60000C, 1, 0x0, 1, 0x0, 8, 8, .ro⟩
def HIF_PF_VFS.PF1 : Fld := ⟨0x60000C, 1, 0x0, 1, 0x0, 0, 8, .ro⟩
-- 12: HIF_QUAR, offset 0x0010, tag quarantine.
def HIF_QUAR.QUAR_MS : Fld := ⟨0x600010, 1, 0x0, 1, 0x0, 0, 16, .rw⟩
-- 12: HIF_TAGS, offset 0x0014, read contexts.
def HIF_TAGS.QUARANTINED : Fld := ⟨0x600014, 1, 0x0, 1, 0x0, 16, 10, .ro⟩
def HIF_TAGS.IN_USE : Fld := ⟨0x600014, 1, 0x0, 1, 0x0, 0, 10, .ro⟩
-- 12: HIF_VF_ROUTE, offset 0x0018, VF placement.
def HIF_VF_ROUTE.NEXT_BUS : Fld := ⟨0x600018, 1, 0x0, 1, 0x0, 0, 1, .ro⟩
-- 12: HIF_WAKEk, offset 0x0040 + 4 × k, k = 0 to 15, wake sources.
def HIF_WAKEk.WAKE : Fld := ⟨0x600040, 16, 0x4, 1, 0x0, 0, 32, .rw⟩
-- 12: HIF_cnt_LO and _HI, offset 0x0100 + 8 × i, interface counters: 0 TLP_RX, 1 TLP_TX, 2 CPL_TIMEOUT, 3 LATE_CPL, 4 UNEXP_CPL, 5 POISONED, 6 DISCARDED_CPL
def HIF_cnt_LO.COUNT : Fld := ⟨0x600100, 10, 0x8, 1, 0x0, 0, 32, .ro⟩
def HIF_cnt_HI.COUNT : Fld := ⟨0x600104, 10, 0x8, 1, 0x0, 0, 32, .ro⟩
-- 12: HIF_FNf_STATE, offset 0x1000 + 0x20 × f, function state.
def HIF_FNf_STATE.PRESENT : Fld := ⟨0x601000, 256, 0x20, 1, 0x0, 31, 1, .ro⟩
def HIF_FNf_STATE.READY : Fld := ⟨0x601000, 256, 0x20, 1, 0x0, 30, 1, .ro⟩
def HIF_FNf_STATE.BME : Fld := ⟨0x601000, 256, 0x20, 1, 0x0, 29, 1, .ro⟩
def HIF_FNf_STATE.MSE : Fld := ⟨0x601000, 256, 0x20, 1, 0x0, 28, 1, .ro⟩
def HIF_FNf_STATE.DSTATE : Fld := ⟨0x601000, 256, 0x20, 1, 0x0, 26, 2, .ro⟩
def HIF_FNf_STATE.FLR_BUSY : Fld := ⟨0x601000, 256, 0x20, 1, 0x0, 25, 1, .ro⟩
def HIF_FNf_STATE.QUIESCED : Fld := ⟨0x601000, 256, 0x20, 1, 0x0, 24, 1, .ro⟩
def HIF_FNf_STATE.FAULT : Fld := ⟨0x601000, 256, 0x20, 1, 0x0, 23, 1, .ro⟩
def HIF_FNf_STATE.OUT_TAGS : Fld := ⟨0x601000, 256, 0x20, 1, 0x0, 0, 10, .ro⟩
-- 12: HIF_FNf_CPL, offset 0x1004 + 0x20 × f, timeouts.
def HIF_FNf_CPL.CTO : Fld := ⟨0x601004, 256, 0x20, 1, 0x0, 16, 16, .rc⟩
def HIF_FNf_CPL.LATE : Fld := ⟨0x601004, 256, 0x20, 1, 0x0, 0, 16, .rc⟩
-- 12: HIF_FNf_DROP, offset 0x1008 + 0x20 × f, discarded completions.
def HIF_FNf_DROP.DISCARDED : Fld := ⟨0x601008, 256, 0x20, 1, 0x0, 16, 16, .rc⟩
def HIF_FNf_DROP.UNEXP : Fld := ⟨0x601008, 256, 0x20, 1, 0x0, 0, 16, .rc⟩
-- 12: HIF_FNf_POISON, offset 0x100C + 0x20 × f, failed work.
def HIF_FNf_POISON.POISONED : Fld := ⟨0x60100C, 256, 0x20, 1, 0x0, 16, 16, .rc⟩
def HIF_FNf_POISON.ABORTED : Fld := ⟨0x60100C, 256, 0x20, 1, 0x0, 0, 16, .rc⟩
-- 12: HIF_FNf_MSIX, offset 0x1010 + 0x20 × f, vector range.
def HIF_FNf_MSIX.FIRST : Fld := ⟨0x601010, 256, 0x20, 1, 0x0, 16, 12, .ro⟩
def HIF_FNf_MSIX.SIZE : Fld := ⟨0x601010, 256, 0x20, 1, 0x0, 0, 12, .ro⟩
-- 13: QMG_CFG, offset 0x0000, ownership wait.
def QMG_CFG.OWN_WAIT_US : Fld := ⟨0x380000, 1, 0x0, 1, 0x0, 0, 16, .rwl⟩
-- 13: QMG_RINGS, offset 0x0004, rings present.
def QMG_RINGS.USED : Fld := ⟨0x380004, 1, 0x0, 1, 0x0, 0, 15, .ro⟩
-- 13: QMG_cnt_LO and _HI, offset 0x0100 + 8 × i, queue counters: 0 ENTRIES, 1 COMPLETIONS, 2 REFETCH, 3 MALFORMED, 4 DB_ABSENT, 5 CUT, 6 HELD_DISCARDED, 7 C
def QMG_cnt_LO.COUNT : Fld := ⟨0x380100, 8, 0x8, 1, 0x0, 0, 32, .ro⟩
def QMG_cnt_HI.COUNT : Fld := ⟨0x380104, 8, 0x8, 1, 0x0, 0, 32, .ro⟩
-- 13: QMG_FNf_FAULT, offset 0x1000 + 8 × f, and QMG_FNf_FAULT_IDX, offset 0x1004 + 8 × f, f = 0 to 255 as in the HIF per-function registers, fault record.
def QMG_FNf_FAULT.FAULT : Fld := ⟨0x381000, 256, 0x8, 1, 0x0, 0, 32, .ro⟩
def QMG_FNf_FAULT_IDX.FAULT : Fld := ⟨0x381004, 256, 0x8, 1, 0x0, 0, 32, .ro⟩
-- 13: QMG_RINGg_DESC, offset 0x2_0000 + 8 × g, g = 0 to 16,383, ring descriptor.
def QMG_RINGg_DESC.STATE : Fld := ⟨0x3A0000, 16384, 0x8, 1, 0x0, 29, 3, .ro⟩
def QMG_RINGg_DESC.TYPE : Fld := ⟨0x3A0000, 16384, 0x8, 1, 0x0, 27, 2, .ro⟩
def QMG_RINGg_DESC.LOG2 : Fld := ⟨0x3A0000, 16384, 0x8, 1, 0x0, 22, 5, .ro⟩
def QMG_RINGg_DESC.FN : Fld := ⟨0x3A0000, 16384, 0x8, 1, 0x0, 14, 8, .ro⟩
def QMG_RINGg_DESC.RING : Fld := ⟨0x3A0000, 16384, 0x8, 1, 0x0, 0, 14, .ro⟩
-- 13: QMG_RINGg_CONS, offset 0x2_0004 + 8 × g, consumer count.
def QMG_RINGg_CONS.CONS : Fld := ⟨0x3A0004, 16384, 0x8, 1, 0x0, 0, 32, .ro⟩
-- 13: QMG_ADM_BASE_LO, offset 0x00, and QMG_ADM_BASE_HI, offset 0x04, admin ring base.
def QMG_ADM_BASE_LO.BASE : Fld := ⟨0x8010000, 256, 0x100000, 1, 0x0, 0, 32, .rw⟩
def QMG_ADM_BASE_HI.BASE : Fld := ⟨0x8010004, 256, 0x100000, 1, 0x0, 0, 32, .rw⟩
-- 13: QMG_ADM_CFG, offset 0x08, admin ring control.
def QMG_ADM_CFG.ENABLE : Fld := ⟨0x8010008, 256, 0x100000, 1, 0x0, 31, 1, .rw⟩
def QMG_ADM_CFG.LOG2 : Fld := ⟨0x8010008, 256, 0x100000, 1, 0x0, 16, 5, .rw⟩
def QMG_ADM_CFG.VECTOR : Fld := ⟨0x8010008, 256, 0x100000, 1, 0x0, 0, 11, .rw⟩
-- 13: QMG_ADM_STATUS, offset 0x0C, admin ring and function state.
def QMG_ADM_STATUS.STATE : Fld := ⟨0x801000C, 256, 0x100000, 1, 0x0, 29, 3, .ro⟩
def QMG_ADM_STATUS.FAULT : Fld := ⟨0x801000C, 256, 0x100000, 1, 0x0, 28, 1, .ro⟩
def QMG_ADM_STATUS.CODE : Fld := ⟨0x801000C, 256, 0x100000, 1, 0x0, 16, 8, .ro⟩
def QMG_ADM_STATUS.FAULT_RING : Fld := ⟨0x801000C, 256, 0x100000, 1, 0x0, 0, 14, .ro⟩
-- 13: QMG_ADM_CONS, offset 0x10, admin consumer count.
def QMG_ADM_CONS.CONS : Fld := ⟨0x8010010, 256, 0x100000, 1, 0x0, 0, 32, .ro⟩
-- 13: QMG_ADM_FAULT_IDX, offset 0x14, fault entry.
def QMG_ADM_FAULT_IDX.INDEX : Fld := ⟨0x8010014, 256, 0x100000, 1, 0x0, 0, 16, .ro⟩
-- 13: QMG_ADM_ALLOW, offset 0x18, ring allowance.
def QMG_ADM_ALLOW.ALLOW : Fld := ⟨0x8010018, 256, 0x100000, 1, 0x0, 0, 14, .ro⟩
-- 14: STG_JOURNAL, offset 0x0000, journal state.
def STG_JOURNAL.HELD : Fld := ⟨0x3C0000, 1, 0x0, 1, 0x0, 31, 1, .ro⟩
def STG_JOURNAL.USED : Fld := ⟨0x3C0000, 1, 0x0, 1, 0x0, 0, 13, .ro⟩
-- 14: STG_CTRLf_WEIGHT, offset 0x0400 + 4 × f, f = 0 to 255 as in the HIF per-function registers, controller share.
def STG_CTRLf_WEIGHT.CTRL_WEIGHT : Fld := ⟨0x3C0400, 256, 0x4, 1, 0x0, 0, 8, .rwl⟩
-- 14: STG_DSn_CFG, offset 0x1000 + 0x40 × n, slot control.
def STG_DSn_CFG.ENABLE : Fld := ⟨0x3C1000, 4, 0x40, 1, 0x0, 31, 1, .rwl⟩
def STG_DSn_CFG.AUTO_ON : Fld := ⟨0x3C1000, 4, 0x40, 1, 0x0, 30, 1, .rwl⟩
def STG_DSn_CFG.MAX_RATE : Fld := ⟨0x3C1000, 4, 0x40, 1, 0x0, 16, 3, .rwl⟩
def STG_DSn_CFG.MAX_WIDTH : Fld := ⟨0x3C1000, 4, 0x40, 1, 0x0, 10, 3, .rwl⟩
def STG_DSn_CFG.PWR_DELAY_MS : Fld := ⟨0x3C1000, 4, 0x40, 1, 0x0, 0, 10, .rwl⟩
-- 14: STG_DSn_CTRL, offset 0x1004 + 0x40 × n, slot commands.
def STG_DSn_CTRL.FAULT_CLR : Fld := ⟨0x3C1004, 4, 0x40, 1, 0x0, 3, 1, .wo⟩
def STG_DSn_CTRL.POWER_OFF : Fld := ⟨0x3C1004, 4, 0x40, 1, 0x0, 2, 1, .wo⟩
def STG_DSn_CTRL.POWER_ON : Fld := ⟨0x3C1004, 4, 0x40, 1, 0x0, 1, 1, .wo⟩
def STG_DSn_CTRL.ATTN_LED : Fld := ⟨0x3C1004, 4, 0x40, 1, 0x0, 0, 1, .rw⟩
-- 14: STG_DSn_STATUS, offset 0x1008 + 0x40 × n, slot state.
def STG_DSn_STATUS.RATE : Fld := ⟨0x3C1008, 4, 0x40, 1, 0x0, 21, 3, .ro⟩
def STG_DSn_STATUS.WIDTH : Fld := ⟨0x3C1008, 4, 0x40, 1, 0x0, 18, 3, .ro⟩
def STG_DSn_STATUS.PRSNT : Fld := ⟨0x3C1008, 4, 0x40, 1, 0x0, 3, 1, .ro⟩
def STG_DSn_STATUS.SSTATE : Fld := ⟨0x3C1008, 4, 0x40, 1, 0x0, 0, 3, .ro⟩
-- 14: STG_DSn_SHADOW, offset 0x100C + 0x40 × n, shadow area.
def STG_DSn_SHADOW.START : Fld := ⟨0x3C100C, 4, 0x40, 1, 0x0, 0, 32, .rwl⟩
-- 14: STG_NSs_CFG, offset 0x2000 + 0x40 × s, namespace layout.
def STG_NSs_CFG.VALID : Fld := ⟨0x3C2000, 64, 0x40, 1, 0x0, 31, 1, .rwl⟩
def STG_NSs_CFG.KIND : Fld := ⟨0x3C2000, 64, 0x40, 1, 0x0, 29, 2, .rwl⟩
def STG_NSs_CFG.DRIVE_B_EN : Fld := ⟨0x3C2000, 64, 0x40, 1, 0x0, 28, 1, .rwl⟩
def STG_NSs_CFG.AUTO_REBUILD : Fld := ⟨0x3C2000, 64, 0x40, 1, 0x0, 27, 1, .rwl⟩
def STG_NSs_CFG.RNS : Fld := ⟨0x3C2000, 64, 0x40, 1, 0x0, 5, 3, .rwl⟩
def STG_NSs_CFG.DRIVE_B : Fld := ⟨0x3C2000, 64, 0x40, 1, 0x0, 2, 2, .rwl⟩
def STG_NSs_CFG.DRIVE_A : Fld := ⟨0x3C2000, 64, 0x40, 1, 0x0, 0, 2, .rwl⟩
-- 14: STG_NSs_BASE_LO, offset 0x2004 + 0x40 × s, STG_NSs_BASE_HI, offset 0x2008 + 0x40 × s, STG_NSs_SIZE_LO, offset 0x200C + 0x40 × s, and STG_NSs_SIZE_HI,
def STG_NSs_BASE_LO.BLOCKS : Fld := ⟨0x3C2004, 64, 0x40, 1, 0x0, 0, 32, .rwl⟩
def STG_NSs_BASE_HI.BLOCKS : Fld := ⟨0x3C2008, 64, 0x40, 1, 0x0, 0, 32, .rwl⟩
def STG_NSs_SIZE_LO.BLOCKS : Fld := ⟨0x3C200C, 64, 0x40, 1, 0x0, 0, 32, .rwl⟩
def STG_NSs_SIZE_HI.BLOCKS : Fld := ⟨0x3C2010, 64, 0x40, 1, 0x0, 0, 32, .rwl⟩
-- 14: STG_NSs_STATE, offset 0x2014 + 0x40 × s, namespace state.
def STG_NSs_STATE.ONLINE : Fld := ⟨0x3C2014, 64, 0x40, 1, 0x0, 31, 1, .ro⟩
def STG_NSs_STATE.MIRROR : Fld := ⟨0x3C2014, 64, 0x40, 1, 0x0, 29, 2, .ro⟩
def STG_NSs_STATE.SYNC_A : Fld := ⟨0x3C2014, 64, 0x40, 1, 0x0, 28, 1, .ro⟩
def STG_NSs_STATE.SYNC_B : Fld := ⟨0x3C2014, 64, 0x40, 1, 0x0, 27, 1, .ro⟩
-- 14: STG_NSs_REBUILD, offset 0x2018 + 0x40 × s, copy point.
def STG_NSs_REBUILD.MIB : Fld := ⟨0x3C2018, 64, 0x40, 1, 0x0, 0, 32, .ro⟩
-- 14: STG_NSs_CMD, offset 0x201C + 0x40 × s, namespace commands.
def STG_NSs_CMD.REBUILD : Fld := ⟨0x3C201C, 64, 0x40, 1, 0x0, 0, 1, .wo⟩
-- 14: STG_NSs_ATTACHw, offset 0x2020 + 0x40 × s + 4 × w, w = 0 to 7, attachments.
def STG_NSs_ATTACHw.CTRL : Fld := ⟨0x3C2020, 64, 0x40, 8, 0x4, 0, 32, .ro⟩
-- 15: RMA_CFG, offset 0x0000, transport control.
def RMA_CFG.ENABLE : Fld := ⟨0x400000, 1, 0x0, 1, 0x0, 31, 1, .rwl⟩
def RMA_CFG.SR_PRIO : Fld := ⟨0x400000, 1, 0x0, 1, 0x0, 8, 3, .rwl⟩
def RMA_CFG.PRIO : Fld := ⟨0x400000, 1, 0x0, 1, 0x0, 0, 3, .rwl⟩
-- 15: RMA_BS_BASE_LO, offset 0x0004, and RMA_BS_BASE_HI, offset 0x0008, backing store.
def RMA_BS_BASE_LO.BASE : Fld := ⟨0x400004, 1, 0x0, 1, 0x0, 0, 32, .rw⟩
def RMA_BS_BASE_HI.BASE : Fld := ⟨0x400008, 1, 0x0, 1, 0x0, 0, 32, .rw⟩
-- 15: RMA_BS_CTRL, offset 0x000C, backing store control.
def RMA_BS_CTRL.ENABLE : Fld := ⟨0x40000C, 1, 0x0, 1, 0x0, 31, 1, .rw⟩
-- 15: RMA_MISS, offset 0x0010, miss buffer.
def RMA_MISS.HIGH : Fld := ⟨0x400010, 1, 0x0, 1, 0x0, 26, 6, .rwl⟩
def RMA_MISS.LOW : Fld := ⟨0x400010, 1, 0x0, 1, 0x0, 20, 6, .rwl⟩
def RMA_MISS.MISS_TO : Fld := ⟨0x400010, 1, 0x0, 1, 0x0, 0, 16, .rwl⟩
-- 15: RMA_ACK, offset 0x0014, acknowledgement and congestion.
def RMA_ACK.ACK_N : Fld := ⟨0x400014, 1, 0x0, 1, 0x0, 24, 8, .rwl⟩
def RMA_ACK.ACK_US : Fld := ⟨0x400014, 1, 0x0, 1, 0x0, 16, 8, .rwl⟩
def RMA_ACK.CNP_US : Fld := ⟨0x400014, 1, 0x0, 1, 0x0, 8, 8, .rwl⟩
def RMA_ACK.SR_NAK_US : Fld := ⟨0x400014, 1, 0x0, 1, 0x0, 0, 8, .rwl⟩
-- 15: RMA_RATE, offset 0x0018, rate control.
def RMA_RATE.AI_US : Fld := ⟨0x400018, 1, 0x0, 1, 0x0, 24, 8, .rwl⟩
def RMA_RATE.AI_STEP : Fld := ⟨0x400018, 1, 0x0, 1, 0x0, 12, 12, .rwl⟩
def RMA_RATE.MIN_RATE : Fld := ⟨0x400018, 1, 0x0, 1, 0x0, 0, 12, .rwl⟩
-- 15: RMA_GIDi_w, offset 0x0100 + 0x10 × i + 4 × w, i = 0 to 15, w = 0 to 3, source addresses.
def RMA_GIDi_w.ADDR : Fld := ⟨0x400100, 16, 0x10, 4, 0x4, 0, 32, .rwl⟩
-- 15: RMA_STATUS, offset 0x0020, cache and buffer.
def RMA_STATUS.PAUSING : Fld := ⟨0x400020, 1, 0x0, 1, 0x0, 31, 1, .ro⟩
def RMA_STATUS.CACHED : Fld := ⟨0x400020, 1, 0x0, 1, 0x0, 13, 13, .ro⟩
def RMA_STATUS.LEVEL : Fld := ⟨0x400020, 1, 0x0, 1, 0x0, 0, 6, .ro⟩
-- 15: RMA_cnt_LO and _HI, offset 0x0200 + 8 × i, link counters: 0 BAD_QPN, 1 OOS, 2 DUP, 3 MISS_DROP, 4 REVIVE, 5 FETCHES, 6 WRITEBACKS, 7 AUTH_FAIL, 8 SR_W
def RMA_cnt_LO.COUNT : Fld := ⟨0x400200, 12, 0x8, 1, 0x0, 0, 32, .ro⟩
def RMA_cnt_HI.COUNT : Fld := ⟨0x400204, 12, 0x8, 1, 0x0, 0, 32, .ro⟩
-- 15: RMA_TWIN_CFG, offset 0x1000, twin control.
def RMA_TWIN_CFG.TWIN_EN : Fld := ⟨0x401000, 1, 0x0, 1, 0x0, 31, 1, .rwl⟩
def RMA_TWIN_CFG.PRIO : Fld := ⟨0x401000, 1, 0x0, 1, 0x0, 24, 7, .rwl⟩
def RMA_TWIN_CFG.HB_PORT : Fld := ⟨0x401000, 1, 0x0, 1, 0x0, 16, 6, .rwl⟩
def RMA_TWIN_CFG.TWIN_QP : Fld := ⟨0x401000, 1, 0x0, 1, 0x0, 0, 16, .rwl⟩
-- 15: RMA_TWIN_HB, offset 0x1004, heartbeat timing.
def RMA_TWIN_HB.HB_MISS : Fld := ⟨0x401004, 1, 0x0, 1, 0x0, 28, 4, .rwl⟩
def RMA_TWIN_HB.TAKE_US : Fld := ⟨0x401004, 1, 0x0, 1, 0x0, 16, 12, .rwl⟩
def RMA_TWIN_HB.HB_US : Fld := ⟨0x401004, 1, 0x0, 1, 0x0, 0, 16, .rwl⟩
-- 15: RMA_TWIN_SEEK, offset 0x1008, seek and snapshot.
def RMA_TWIN_SEEK.SEEK_MS : Fld := ⟨0x401008, 1, 0x0, 1, 0x0, 16, 16, .rwl⟩
def RMA_TWIN_SEEK.SNAP_MARK : Fld := ⟨0x401008, 1, 0x0, 1, 0x0, 0, 8, .rwl⟩
-- 15: RMA_TWIN_STATUS, offset 0x100C, role.
def RMA_TWIN_STATUS.ROLE : Fld := ⟨0x40100C, 1, 0x0, 1, 0x0, 29, 3, .ro⟩
def RMA_TWIN_STATUS.QP_PATH : Fld := ⟨0x40100C, 1, 0x0, 1, 0x0, 28, 1, .ro⟩
def RMA_TWIN_STATUS.RAW_PATH : Fld := ⟨0x40100C, 1, 0x0, 1, 0x0, 27, 1, .ro⟩
def RMA_TWIN_STATUS.CRC_MISMATCH : Fld := ⟨0x40100C, 1, 0x0, 1, 0x0, 26, 1, .ro⟩
def RMA_TWIN_STATUS.SNAP_SEQ : Fld := ⟨0x40100C, 1, 0x0, 1, 0x0, 0, 26, .ro⟩
-- 15: RMA_MIR_BASE_LO, offset 0x1010, and RMA_MIR_BASE_HI, offset 0x1014, mirror area.
def RMA_MIR_BASE_LO.BASE : Fld := ⟨0x401010, 1, 0x0, 1, 0x0, 0, 32, .rwl⟩
def RMA_MIR_BASE_HI.BASE : Fld := ⟨0x401014, 1, 0x0, 1, 0x0, 0, 32, .rwl⟩
-- 15: RMA_MIR_ROWS, offset 0x1018, row slots.
def RMA_MIR_ROWS.MIR_BAY_STRIDE : Fld := ⟨0x401018, 1, 0x0, 1, 0x0, 8, 24, .rwl⟩
def RMA_MIR_ROWS.MIR_LOG2 : Fld := ⟨0x401018, 1, 0x0, 1, 0x0, 0, 5, .rwl⟩
-- 15: RMA_TWIN_TERMk, offset 0x1040 + 4 × k, k = 0 to 7, gated terms.
def RMA_TWIN_TERMk.GATE : Fld := ⟨0x401040, 8, 0x4, 1, 0x0, 0, 32, .rwl⟩
-- 15: RMA_ARM_WANTk, offset 0x1060 + 4 × k, k = 0 to 7, wanted arm bits.
def RMA_ARM_WANTk.WANT : Fld := ⟨0x401060, 8, 0x4, 1, 0x0, 0, 32, .ro⟩
-- 16: SCH_CFG, offset 0x0000, buffer thresholds.
def SCH_CFG.ALARM_PCT : Fld := ⟨0x440000, 1, 0x0, 1, 0x0, 24, 8, .rwl⟩
def SCH_CFG.YELLOW_PCT : Fld := ⟨0x440000, 1, 0x0, 1, 0x0, 16, 8, .rwl⟩
def SCH_CFG.RED_PCT : Fld := ⟨0x440000, 1, 0x0, 1, 0x0, 8, 8, .rwl⟩
def SCH_CFG.OVH : Fld := ⟨0x440000, 1, 0x0, 1, 0x0, 0, 6, .rwl⟩
-- 16: SCH_PFC, offset 0x0004, fabric pause thresholds.
def SCH_PFC.XOFF_KIB : Fld := ⟨0x440004, 1, 0x0, 1, 0x0, 16, 16, .rwl⟩
def SCH_PFC.XON_KIB : Fld := ⟨0x440004, 1, 0x0, 1, 0x0, 0, 16, .rwl⟩
-- 16: SCH_BUF, offset 0x0008, buffer use.
def SCH_BUF.USED : Fld := ⟨0x440008, 1, 0x0, 1, 0x0, 0, 18, .ro⟩
-- 16: SCH_cnt_LO and _HI, offset 0x0100 + 8 × i, block counters: 0 ENQUEUED, 1 DEQUEUED, 2 QUOTA_DROP, 3 RED_DROP, 4 LINK_DROP, 5 NO_RING, 6 UNBOUND. Each c
def SCH_cnt_LO.COUNT : Fld := ⟨0x440100, 7, 0x8, 1, 0x0, 0, 32, .ro⟩
def SCH_cnt_HI.COUNT : Fld := ⟨0x440104, 7, 0x8, 1, 0x0, 0, 32, .ro⟩
-- 16: SCH_PORTn_RATE, offset 0x1000 + 0x100 × n, SCH_CLSn_c_RATE, offset 0x1044 + 0x100 × n + 0x10 × c, and SCH_Qq_RATE, offset 0x2_0004 + 0x20 × q, shaper
def SCH_PORTn_RATE.EN : Fld := ⟨0x441000, 41, 0x100, 1, 0x0, 31, 1, .rwl⟩
def SCH_PORTn_RATE.RATE : Fld := ⟨0x441000, 41, 0x100, 1, 0x0, 0, 17, .rwl⟩
def SCH_CLSn_c_RATE.EN : Fld := ⟨0x441044, 41, 0x100, 8, 0x10, 31, 1, .rwl⟩
def SCH_CLSn_c_RATE.RATE : Fld := ⟨0x441044, 41, 0x100, 8, 0x10, 0, 17, .rwl⟩
def SCH_Qq_RATE.EN : Fld := ⟨0x460004, 4091, 0x20, 1, 0x0, 31, 1, .rwl⟩
def SCH_Qq_RATE.RATE : Fld := ⟨0x460004, 4091, 0x20, 1, 0x0, 0, 17, .rwl⟩
-- 16: SCH_PORTn_BURST, offset 0x1004 + 0x100 × n, SCH_CLSn_c_BURST, offset 0x1048 + 0x100 × n + 0x10 × c, and SCH_Qq_BURST, offset 0x2_0008 + 0x20 × q, shap
def SCH_PORTn_BURST.BURST : Fld := ⟨0x441004, 41, 0x100, 1, 0x0, 0, 24, .rwl⟩
def SCH_CLSn_c_BURST.BURST : Fld := ⟨0x441048, 41, 0x100, 8, 0x10, 0, 24, .rwl⟩
def SCH_Qq_BURST.BURST : Fld := ⟨0x460008, 4091, 0x20, 1, 0x0, 0, 24, .rwl⟩
-- 16: SCH_PORTn_QUOTA, offset 0x1008 + 0x100 × n, and SCH_Qq_QUOTA, offset 0x2_000C + 0x20 × q, quotas.
def SCH_PORTn_QUOTA.QUOTA : Fld := ⟨0x441008, 41, 0x100, 1, 0x0, 0, 18, .rwl⟩
def SCH_Qq_QUOTA.QUOTA : Fld := ⟨0x46000C, 4091, 0x20, 1, 0x0, 0, 18, .rwl⟩
-- 16: SCH_PORTn_USE, offset 0x100C + 0x100 × n, and SCH_Qq_USE, offset 0x2_0010 + 0x20 × q, use.
def SCH_PORTn_USE.USE : Fld := ⟨0x44100C, 41, 0x100, 1, 0x0, 0, 18, .ro⟩
def SCH_Qq_USE.USE : Fld := ⟨0x460010, 4091, 0x20, 1, 0x0, 0, 18, .ro⟩
-- 16: SCH_CLSn_c_CFG, offset 0x1040 + 0x100 × n + 0x10 × c, class.
def SCH_CLSn_c_CFG.STRICT : Fld := ⟨0x441040, 41, 0x100, 8, 0x10, 31, 1, .rwl⟩
def SCH_CLSn_c_CFG.WEIGHT : Fld := ⟨0x441040, 41, 0x100, 8, 0x10, 0, 8, .rwl⟩
-- 16: SCH_Qq_CFG, offset 0x2_0000 + 0x20 × q, binding.
def SCH_Qq_CFG.KIND : Fld := ⟨0x460000, 4091, 0x20, 1, 0x0, 30, 2, .rwl⟩
def SCH_Qq_CFG.POL_EN : Fld := ⟨0x460000, 4091, 0x20, 1, 0x0, 29, 1, .rwl⟩
def SCH_Qq_CFG.POLICER : Fld := ⟨0x460000, 4091, 0x20, 1, 0x0, 19, 10, .rwl⟩
def SCH_Qq_CFG.CLASS : Fld := ⟨0x460000, 4091, 0x20, 1, 0x0, 16, 3, .rwl⟩
def SCH_Qq_CFG.PORT : Fld := ⟨0x460000, 4091, 0x20, 1, 0x0, 8, 6, .rwl⟩
def SCH_Qq_CFG.WEIGHT : Fld := ⟨0x460000, 4091, 0x20, 1, 0x0, 0, 8, .rwl⟩
-- 16: SCH_Qq_DROP, offset 0x2_0014 + 0x20 × q, queue discards.
def SCH_Qq_DROP.QUOTA_DROP : Fld := ⟨0x460014, 4091, 0x20, 1, 0x0, 16, 16, .rc⟩
def SCH_Qq_DROP.HEAD_DROP : Fld := ⟨0x460014, 4091, 0x20, 1, 0x0, 0, 16, .rc⟩
-- 16: SCH_POLp_CFG, offset 0x4000 + 0x20 × p, policer mode.
def SCH_POLp_CFG.RED_ACT : Fld := ⟨0x444000, 1024, 0x20, 1, 0x0, 1, 1, .rwl⟩
def SCH_POLp_CFG.AWARE : Fld := ⟨0x444000, 1024, 0x20, 1, 0x0, 0, 1, .rwl⟩
-- 16: SCH_POLp_CIR, offset 0x4004 + 0x20 × p, and SCH_POLp_PIR, offset 0x4008 + 0x20 × p, rates.
def SCH_POLp_CIR.RATE : Fld := ⟨0x444004, 1024, 0x20, 1, 0x0, 0, 17, .rwl⟩
def SCH_POLp_PIR.RATE : Fld := ⟨0x444008, 1024, 0x20, 1, 0x0, 0, 17, .rwl⟩
-- 16: SCH_POLp_CBS, offset 0x400C + 0x20 × p, and SCH_POLp_PBS, offset 0x4010 + 0x20 × p, bucket caps.
def SCH_POLp_CBS.BYTES : Fld := ⟨0x44400C, 1024, 0x20, 1, 0x0, 0, 24, .rwl⟩
def SCH_POLp_PBS.BYTES : Fld := ⟨0x444010, 1024, 0x20, 1, 0x0, 0, 24, .rwl⟩
-- 16: SCH_POLp_YELLOW, offset 0x4014 + 0x20 × p, and SCH_POLp_RED, offset 0x4018 + 0x20 × p, colour counts.
def SCH_POLp_YELLOW.COUNT : Fld := ⟨0x444014, 1024, 0x20, 1, 0x0, 0, 32, .rc⟩
def SCH_POLp_RED.COUNT : Fld := ⟨0x444018, 1024, 0x20, 1, 0x0, 0, 32, .rc⟩
-- 17: CPU_cnt_LO and _HI, offset 0x0100 + 8 × i, counters: 0 FAULTS, 1 RETIREMENTS, 2 RELOADS, 3 DEADLOCKS, 4 CH_COMMITS, 5 CH_DISCARDED, 6 TS_LOST. Each co
def CPU_cnt_LO.COUNT : Fld := ⟨0x480100, 7, 0x8, 1, 0x0, 0, 32, .ro⟩
def CPU_cnt_HI.COUNT : Fld := ⟨0x480104, 7, 0x8, 1, 0x0, 0, 32, .ro⟩
-- 17: CPU_CLk_CFG, offset 0x1000 + 0x100 × k, cluster policy.
def CPU_CLk_CFG.PROT : Fld := ⟨0x481000, 8, 0x100, 1, 0x0, 31, 1, .ro⟩
def CPU_CLk_CFG.DL_US : Fld := ⟨0x481000, 8, 0x100, 1, 0x0, 8, 8, .rwl⟩
def CPU_CLk_CFG.DL_ACT : Fld := ⟨0x481000, 8, 0x100, 1, 0x0, 4, 1, .rwl⟩
def CPU_CLk_CFG.RETIRE_POLICY : Fld := ⟨0x481000, 8, 0x100, 1, 0x0, 0, 2, .rwl⟩
-- 17: CPU_CLk_STATUS, offset 0x1004 + 0x100 × k, cluster state.
def CPU_CLk_STATUS.STATE : Fld := ⟨0x481004, 8, 0x100, 1, 0x0, 30, 2, .ro⟩
def CPU_CLk_STATUS.SPARE : Fld := ⟨0x481004, 8, 0x100, 1, 0x0, 12, 3, .ro⟩
def CPU_CLk_STATUS.MAP : Fld := ⟨0x481004, 8, 0x100, 1, 0x0, 0, 12, .ro⟩
-- 17: CPU_CLk_CTRL, offset 0x1008 + 0x100 × k, cluster commands.
def CPU_CLk_CTRL.CORE : Fld := ⟨0x481008, 8, 0x100, 1, 0x0, 4, 3, .rw⟩
def CPU_CLk_CTRL.RESTORE : Fld := ⟨0x481008, 8, 0x100, 1, 0x0, 3, 1, .wo⟩
def CPU_CLk_CTRL.RESTART : Fld := ⟨0x481008, 8, 0x100, 1, 0x0, 2, 1, .wo⟩
def CPU_CLk_CTRL.RETIRE : Fld := ⟨0x481008, 8, 0x100, 1, 0x0, 1, 1, .wo⟩
def CPU_CLk_CTRL.RELOAD : Fld := ⟨0x481008, 8, 0x100, 1, 0x0, 0, 1, .wo⟩
-- 17: CPU_CLk_TXBASE_LO, offset 0x100C + 0x100 × k, and CPU_CLk_TXBASE_HI, offset 0x1010 + 0x100 × k, transmit ring base.
def CPU_CLk_TXBASE_LO.BASE : Fld := ⟨0x48100C, 8, 0x100, 1, 0x0, 0, 32, .rwl⟩
def CPU_CLk_TXBASE_HI.BASE : Fld := ⟨0x481010, 8, 0x100, 1, 0x0, 0, 32, .rwl⟩
-- 17: CPU_CLk_TXCFG, offset 0x1014 + 0x100 × k, transmit ring.
def CPU_CLk_TXCFG.TS_CHAN : Fld := ⟨0x481014, 8, 0x100, 1, 0x0, 16, 10, .rwl⟩
def CPU_CLk_TXCFG.LOG2 : Fld := ⟨0x481014, 8, 0x100, 1, 0x0, 0, 5, .rwl⟩
-- 17: CPU_CLk_TXTAIL, offset 0x1018 + 0x100 × k, transmit doorbell.
def CPU_CLk_TXTAIL.TAIL : Fld := ⟨0x481018, 8, 0x100, 1, 0x0, 0, 32, .rw⟩
-- 17: CPU_CLk_COREc_STATUS, offset 0x1040 + 0x100 × k + 0x10 × c, core state.
def CPU_CLk_COREc_STATUS.CSTATE : Fld := ⟨0x481040, 8, 0x100, 5, 0x10, 29, 3, .ro⟩
def CPU_CLk_COREc_STATUS.LOGICAL : Fld := ⟨0x481040, 8, 0x100, 5, 0x10, 27, 2, .ro⟩
def CPU_CLk_COREc_STATUS.FCODE : Fld := ⟨0x481040, 8, 0x100, 5, 0x10, 16, 8, .ro⟩
def CPU_CLk_COREc_STATUS.FTHREAD : Fld := ⟨0x481040, 8, 0x100, 5, 0x10, 8, 2, .ro⟩
def CPU_CLk_COREc_STATUS.PARKED : Fld := ⟨0x481040, 8, 0x100, 5, 0x10, 4, 4, .ro⟩
def CPU_CLk_COREc_STATUS.WAITING : Fld := ⟨0x481040, 8, 0x100, 5, 0x10, 0, 4, .ro⟩
-- 17: CPU_CLk_COREc_FPC_LO, offset 0x1044 + 0x100 × k + 0x10 × c, and CPU_CLk_COREc_FPC_HI, offset 0x1048 + 0x100 × k + 0x10 × c, fault address.
def CPU_CLk_COREc_FPC_LO.PC : Fld := ⟨0x481044, 8, 0x100, 5, 0x10, 0, 32, .ro⟩
def CPU_CLk_COREc_FPC_HI.PC : Fld := ⟨0x481048, 8, 0x100, 5, 0x10, 0, 32, .ro⟩
-- 17: CPU_CHch_CFG, offset 0x1_0000 + 0x20 × ch, channel setup.
def CPU_CHch_CFG.VALID : Fld := ⟨0x490000, 1024, 0x20, 1, 0x0, 31, 1, .rwl⟩
def CPU_CHch_CFG.LOCAL : Fld := ⟨0x490000, 1024, 0x20, 1, 0x0, 30, 1, .rwl⟩
def CPU_CHch_CFG.CLUSTER : Fld := ⟨0x490000, 1024, 0x20, 1, 0x0, 27, 3, .rwl⟩
def CPU_CHch_CFG.LCORE : Fld := ⟨0x490000, 1024, 0x20, 1, 0x0, 25, 2, .rwl⟩
def CPU_CHch_CFG.HOLD_US : Fld := ⟨0x490000, 1024, 0x20, 1, 0x0, 5, 16, .rwl⟩
def CPU_CHch_CFG.DEPTH : Fld := ⟨0x490000, 1024, 0x20, 1, 0x0, 0, 5, .rwl⟩
-- 17: CPU_CHch_STATUS, offset 0x1_0004 + 0x20 × ch, channel state.
def CPU_CHch_STATUS.BUSY : Fld := ⟨0x490004, 1024, 0x20, 1, 0x0, 31, 1, .ro⟩
def CPU_CHch_STATUS.HELD : Fld := ⟨0x490004, 1024, 0x20, 1, 0x0, 30, 1, .ro⟩
def CPU_CHch_STATUS.HOLDER : Fld := ⟨0x490004, 1024, 0x20, 1, 0x0, 22, 8, .ro⟩
def CPU_CHch_STATUS.COUNT : Fld := ⟨0x490004, 1024, 0x20, 1, 0x0, 0, 5, .ro⟩
-- 17: CPU_CHch_ABORT, offset 0x1_0008 + 0x20 × ch, channel contention.
def CPU_CHch_ABORT.BUSY_SEEN : Fld := ⟨0x490008, 1024, 0x20, 1, 0x0, 16, 16, .rc⟩
def CPU_CHch_ABORT.ABORTS : Fld := ⟨0x490008, 1024, 0x20, 1, 0x0, 0, 16, .rc⟩
-- 17: CPU_CHch_RESV, offset 0x1_000C + 0x20 × ch, PF0 reservation port.
def CPU_CHch_RESV.CODE : Fld := ⟨0x49000C, 1024, 0x20, 1, 0x0, 0, 2, .ro⟩
-- 17: CPU_CHch_POP, offset 0x1_0010 + 0x20 × ch, head release.
def CPU_CHch_POP.POP : Fld := ⟨0x490010, 1024, 0x20, 1, 0x0, 0, 1, .wo⟩
-- 17: CPU_CHch_WRw, offset 0x2_0000 + 0x40 × ch + 4 × w, and CPU_CHch_RDw, offset 0x3_0000 + 0x40 × ch + 4 × w, w = 0 to 15, PF0 message words.
def CPU_CHch_WRw.WORD : Fld := ⟨0x4A0000, 1024, 0x40, 16, 0x4, 0, 32, .wo⟩
def CPU_CHch_RDw.WORD : Fld := ⟨0x4B0000, 1024, 0x40, 16, 0x4, 0, 32, .ro⟩
-- 18: DMA_cnt_LO and _HI, offset 0x0100 + 8 × i, engine counters: 0 DESCRIPTORS, 1 BYTES, 2 ERRORS, 3 MISMATCHES. Each counter is 64 bits, wraps, and is rea
def DMA_cnt_LO.COUNT : Fld := ⟨0x4C0100, 4, 0x8, 1, 0x0, 0, 32, .ro⟩
def DMA_cnt_HI.COUNT : Fld := ⟨0x4C0104, 4, 0x8, 1, 0x0, 0, 32, .ro⟩
-- 18: DMA_CHn_DESC_LO, offset 0x1000 + 0x40 × n, and DMA_CHn_DESC_HI, offset 0x1004 + 0x40 × n, first descriptor.
def DMA_CHn_DESC_LO.DESC : Fld := ⟨0x4C1000, 32, 0x40, 1, 0x0, 0, 32, .rw⟩
def DMA_CHn_DESC_HI.DESC : Fld := ⟨0x4C1004, 32, 0x40, 1, 0x0, 0, 32, .rw⟩
-- 18: DMA_CHn_CTRL, offset 0x1008 + 0x40 × n, channel commands.
def DMA_CHn_CTRL.ABORT : Fld := ⟨0x4C1008, 32, 0x40, 1, 0x0, 2, 1, .wo⟩
def DMA_CHn_CTRL.PAUSE : Fld := ⟨0x4C1008, 32, 0x40, 1, 0x0, 1, 1, .rw⟩
def DMA_CHn_CTRL.START : Fld := ⟨0x4C1008, 32, 0x40, 1, 0x0, 0, 1, .wo⟩
-- 18: DMA_CHn_STATUS, offset 0x100C + 0x40 × n, channel state.
def DMA_CHn_STATUS.STATE : Fld := ⟨0x4C100C, 32, 0x40, 1, 0x0, 29, 3, .ro⟩
def DMA_CHn_STATUS.MISM : Fld := ⟨0x4C100C, 32, 0x40, 1, 0x0, 28, 1, .ro⟩
def DMA_CHn_STATUS.ERR : Fld := ⟨0x4C100C, 32, 0x40, 1, 0x0, 16, 3, .ro⟩
def DMA_CHn_STATUS.OWNER : Fld := ⟨0x4C100C, 32, 0x40, 1, 0x0, 0, 8, .ro⟩
-- 18: DMA_CHn_CUR_LO, offset 0x1010 + 0x40 × n, and DMA_CHn_CUR_HI, offset 0x1014 + 0x40 × n, current descriptor.
def DMA_CHn_CUR_LO.ADDR : Fld := ⟨0x4C1010, 32, 0x40, 1, 0x0, 0, 32, .ro⟩
def DMA_CHn_CUR_HI.ADDR : Fld := ⟨0x4C1014, 32, 0x40, 1, 0x0, 0, 32, .ro⟩
-- 18: DMA_CHn_SRC_CUR_LO, offset 0x1018 + 0x40 × n, DMA_CHn_SRC_CUR_HI, offset 0x101C + 0x40 × n, DMA_CHn_DST_CUR_LO, offset 0x1020 + 0x40 × n, and DMA_CHn_
def DMA_CHn_SRC_CUR_LO.ADDR : Fld := ⟨0x4C1018, 32, 0x40, 1, 0x0, 0, 32, .ro⟩
def DMA_CHn_SRC_CUR_HI.ADDR : Fld := ⟨0x4C101C, 32, 0x40, 1, 0x0, 0, 32, .ro⟩
def DMA_CHn_DST_CUR_LO.ADDR : Fld := ⟨0x4C1020, 32, 0x40, 1, 0x0, 0, 32, .ro⟩
def DMA_CHn_DST_CUR_HI.ADDR : Fld := ⟨0x4C1024, 32, 0x40, 1, 0x0, 0, 32, .ro⟩
-- 18: DMA_CHn_REMAIN, offset 0x1028 + 0x40 × n, bytes left.
def DMA_CHn_REMAIN.BYTES : Fld := ⟨0x4C1028, 32, 0x40, 1, 0x0, 0, 32, .ro⟩
-- 18: DMA_CHn_MISMATCH, offset 0x102C + 0x40 × n, compare result.
def DMA_CHn_MISMATCH.OFFSET : Fld := ⟨0x4C102C, 32, 0x40, 1, 0x0, 0, 32, .ro⟩
-- 19: MEM_CLc_STATUS, offset 0x0000 + 4 × c, c = 0 real-time and 1 bulk, class state.
def MEM_CLc_STATUS.TRAINED : Fld := ⟨0x500000, 2, 0x4, 1, 0x0, 31, 1, .ro⟩
def MEM_CLc_STATUS.MULT4 : Fld := ⟨0x500000, 2, 0x4, 1, 0x0, 30, 1, .ro⟩
def MEM_CLc_STATUS.IN_SR : Fld := ⟨0x500000, 2, 0x4, 1, 0x0, 29, 1, .ro⟩
def MEM_CLc_STATUS.CHANNELS : Fld := ⟨0x500000, 2, 0x4, 1, 0x0, 24, 3, .ro⟩
def MEM_CLc_STATUS.SEG_USE : Fld := ⟨0x500000, 2, 0x4, 1, 0x0, 16, 8, .ro⟩
def MEM_CLc_STATUS.SEG_MASKED : Fld := ⟨0x500000, 2, 0x4, 1, 0x0, 8, 8, .ro⟩
def MEM_CLc_STATUS.GIB : Fld := ⟨0x500000, 2, 0x4, 1, 0x0, 0, 8, .ro⟩
-- 19: MEM_CFG, offset 0x0008, repair and scrub policy.
def MEM_CFG.AUTO_REPAIR : Fld := ⟨0x500008, 1, 0x0, 1, 0x0, 31, 1, .rwl⟩
def MEM_CFG.SCRUB_H : Fld := ⟨0x500008, 1, 0x0, 1, 0x0, 24, 7, .rwl⟩
def MEM_CFG.CE_REPAIR : Fld := ⟨0x500008, 1, 0x0, 1, 0x0, 16, 8, .rwl⟩
def MEM_CFG.REPAIR_WAIT_MS : Fld := ⟨0x500008, 1, 0x0, 1, 0x0, 0, 16, .rwl⟩
-- 19: MEM_ALN, offset 0x000C, alignment share.
def MEM_ALN.SIZE : Fld := ⟨0x50000C, 1, 0x0, 1, 0x0, 16, 16, .rwl⟩
def MEM_ALN.BASE : Fld := ⟨0x50000C, 1, 0x0, 1, 0x0, 0, 16, .rwl⟩
-- 19: MEM_SR, offset 0x0010, bulk idle entry and kept segments.
def MEM_SR.SEG_KEEP : Fld := ⟨0x500010, 1, 0x0, 1, 0x0, 16, 8, .rwl⟩
def MEM_SR.IDLE_US : Fld := ⟨0x500010, 1, 0x0, 1, 0x0, 0, 16, .rwl⟩
-- 19: MEM_RD, offset 0x0014, row-disturbance control.
def MEM_RD.THR_NS : Fld := ⟨0x500014, 1, 0x0, 1, 0x0, 24, 8, .rwl⟩
def MEM_RD.ALN_ACT_NS : Fld := ⟨0x500014, 1, 0x0, 1, 0x0, 16, 8, .rwl⟩
def MEM_RD.TRACK_THRESH : Fld := ⟨0x500014, 1, 0x0, 1, 0x0, 0, 16, .rwl⟩
-- 19: MEM_THROTTLE, offset 0x0018, throttled requesters.
def MEM_THROTTLE.REQ : Fld := ⟨0x500018, 1, 0x0, 1, 0x0, 0, 19, .ro⟩
-- 19: MEM_TRAIN, offset 0x001C, retraining schedule.
def MEM_TRAIN.DEADLINE_MS : Fld := ⟨0x50001C, 1, 0x0, 1, 0x0, 16, 16, .rwl⟩
def MEM_TRAIN.RETRAIN_MS : Fld := ⟨0x50001C, 1, 0x0, 1, 0x0, 0, 16, .rwl⟩
-- 19: MEM_TRAIN_CMD, offset 0x0020, retraining request.
def MEM_TRAIN_CMD.GO : Fld := ⟨0x500020, 1, 0x0, 1, 0x0, 4, 1, .wo⟩
def MEM_TRAIN_CMD.CLASS : Fld := ⟨0x500020, 1, 0x0, 1, 0x0, 3, 1, .rw⟩
def MEM_TRAIN_CMD.CHANNEL : Fld := ⟨0x500020, 1, 0x0, 1, 0x0, 0, 3, .rw⟩
-- 19: MEM_ECC_LO, offset 0x0024, and MEM_ECC_HI, offset 0x0028, error FIFO of 16 entries.
def MEM_ECC_LO.ENTRY : Fld := ⟨0x500024, 1, 0x0, 1, 0x0, 0, 32, .rc⟩
def MEM_ECC_HI.ENTRY : Fld := ⟨0x500028, 1, 0x0, 1, 0x0, 0, 32, .rc⟩
-- 19: MEM_REPAIR_ADDR_LO, offset 0x0030, and MEM_REPAIR_ADDR_HI, offset 0x0034, row to repair.
def MEM_REPAIR_ADDR_LO.OFFSET : Fld := ⟨0x500030, 1, 0x0, 1, 0x0, 0, 32, .rw⟩
def MEM_REPAIR_ADDR_HI.OFFSET : Fld := ⟨0x500034, 1, 0x0, 1, 0x0, 0, 32, .rw⟩
-- 19: MEM_REPAIR_CMD, offset 0x0038, repair control and state.
def MEM_REPAIR_CMD.STATE : Fld := ⟨0x500038, 1, 0x0, 1, 0x0, 29, 3, .ro⟩
def MEM_REPAIR_CMD.LOG_USED : Fld := ⟨0x500038, 1, 0x0, 1, 0x0, 16, 11, .ro⟩
def MEM_REPAIR_CMD.GO : Fld := ⟨0x500038, 1, 0x0, 1, 0x0, 2, 1, .wo⟩
def MEM_REPAIR_CMD.MODE : Fld := ⟨0x500038, 1, 0x0, 1, 0x0, 1, 1, .rw⟩
def MEM_REPAIR_CMD.CLASS : Fld := ⟨0x500038, 1, 0x0, 1, 0x0, 0, 1, .rw⟩
-- 19: MEM_TEST_BASE_LO, offset 0x0040, MEM_TEST_BASE_HI, offset 0x0044, MEM_TEST_LEN_LO, offset 0x0048, and MEM_TEST_LEN_HI, offset 0x004C, test range.
def MEM_TEST_BASE_LO.BYTES : Fld := ⟨0x500040, 1, 0x0, 1, 0x0, 0, 32, .rw⟩
def MEM_TEST_BASE_HI.BYTES : Fld := ⟨0x500044, 1, 0x0, 1, 0x0, 0, 32, .rw⟩
def MEM_TEST_LEN_LO.BYTES : Fld := ⟨0x500048, 1, 0x0, 1, 0x0, 0, 32, .rw⟩
def MEM_TEST_LEN_HI.BYTES : Fld := ⟨0x50004C, 1, 0x0, 1, 0x0, 0, 32, .rw⟩
-- 19: MEM_TEST, offset 0x0050, self-test control and state.
def MEM_TEST.STATE : Fld := ⟨0x500050, 1, 0x0, 1, 0x0, 29, 3, .ro⟩
def MEM_TEST.ABORT : Fld := ⟨0x500050, 1, 0x0, 1, 0x0, 1, 1, .wo⟩
def MEM_TEST.GO : Fld := ⟨0x500050, 1, 0x0, 1, 0x0, 0, 1, .wo⟩
-- 19: MEM_TEMPd, offset 0x0060 + 4 × d, d = 0 to 3 real-time dies and 4 to 7 bulk channels, die temperature.
def MEM_TEMPd.DEGC : Fld := ⟨0x500060, 8, 0x4, 1, 0x0, 0, 8, .ro⟩
-- 19: MEM_cnt_LO and _HI, offset 0x0100 + 8 × i, counters: 0 CE, 1 UE, 2 FORCED_REF, 3 RFM, 4 THROTTLED, 5 REPAIRS, 6 SR_ENTRIES, 7 MRAM_REFUSED, 8 SCRUB_PA
def MEM_cnt_LO.COUNT : Fld := ⟨0x500100, 9, 0x8, 1, 0x0, 0, 32, .ro⟩
def MEM_cnt_HI.COUNT : Fld := ⟨0x500104, 9, 0x8, 1, 0x0, 0, 32, .ro⟩
-- 19: MEM_MRAM_ADDR, offset 0x0200, PF0 MRAM access.
def MEM_MRAM_ADDR.OFFSET : Fld := ⟨0x500200, 1, 0x0, 1, 0x0, 3, 20, .rw⟩
-- 19: MEM_MRAM_DATA_LO, offset 0x0204, and MEM_MRAM_DATA_HI, offset 0x0208, MRAM word.
def MEM_MRAM_DATA_LO.DATA : Fld := ⟨0x500204, 1, 0x0, 1, 0x0, 0, 32, .rw⟩
def MEM_MRAM_DATA_HI.DATA : Fld := ⟨0x500208, 1, 0x0, 1, 0x0, 0, 32, .rw⟩
-- 20: BOOT_STATUS, offset 0x0000, start record.
def BOOT_STATUS.ROM_LOCKED : Fld := ⟨0x540000, 1, 0x0, 1, 0x0, 31, 1, .ro⟩
def BOOT_STATUS.FALLBACK : Fld := ⟨0x540000, 1, 0x0, 1, 0x0, 30, 1, .ro⟩
def BOOT_STATUS.RECOVERY : Fld := ⟨0x540000, 1, 0x0, 1, 0x0, 29, 1, .ro⟩
def BOOT_STATUS.RB_EN : Fld := ⟨0x540000, 1, 0x0, 1, 0x0, 28, 1, .ro⟩
def BOOT_STATUS.KEY_SET : Fld := ⟨0x540000, 1, 0x0, 1, 0x0, 27, 1, .ro⟩
def BOOT_STATUS.OCTAL : Fld := ⟨0x540000, 1, 0x0, 1, 0x0, 26, 1, .ro⟩
def BOOT_STATUS.RUN_SLOT : Fld := ⟨0x540000, 1, 0x0, 1, 0x0, 16, 1, .ro⟩
def BOOT_STATUS.FLOOR_USED : Fld := ⟨0x540000, 1, 0x0, 1, 0x0, 0, 5, .ro⟩
-- 20: BOOT_RUN_SEQ, offset 0x0004, running sequence number.
def BOOT_RUN_SEQ.SEQ : Fld := ⟨0x540004, 1, 0x0, 1, 0x0, 0, 32, .ro⟩
-- 20: BOOT_SLOTn_STATUS, offset 0x0010 + 8 × n, n = 0 or 1, slot check.
def BOOT_SLOTn_STATUS.VALID : Fld := ⟨0x540010, 2, 0x8, 1, 0x0, 31, 1, .ro⟩
def BOOT_SLOTn_STATUS.REASON : Fld := ⟨0x540010, 2, 0x8, 1, 0x0, 0, 8, .ro⟩
-- 20: BOOT_SLOTn_SEQ, offset 0x0014 + 8 × n, slot sequence number.
def BOOT_SLOTn_SEQ.SEQ : Fld := ⟨0x540014, 2, 0x8, 1, 0x0, 0, 32, .ro⟩
-- 20: BOOT_FLOOR, offset 0x0020, effective floor.
def BOOT_FLOOR.FLOOR : Fld := ⟨0x540020, 1, 0x0, 1, 0x0, 0, 32, .ro⟩
-- 20: BOOT_FLOOR_NEW, offset 0x0024, floor value.
def BOOT_FLOOR_NEW.VALUE : Fld := ⟨0x540024, 1, 0x0, 1, 0x0, 0, 32, .rw⟩
-- 20: BOOT_FLOOR_CMD, offset 0x0028, floor programming.
def BOOT_FLOOR_CMD.STATE : Fld := ⟨0x540028, 1, 0x0, 1, 0x0, 29, 3, .ro⟩
def BOOT_FLOOR_CMD.GO : Fld := ⟨0x540028, 1, 0x0, 1, 0x0, 0, 1, .wo⟩
-- 20: BOOT_CTRL, offset 0x0030, restarts.
def BOOT_CTRL.REBOOT_ALT : Fld := ⟨0x540030, 1, 0x0, 1, 0x0, 1, 1, .wo⟩
def BOOT_CTRL.REBOOT : Fld := ⟨0x540030, 1, 0x0, 1, 0x0, 0, 1, .wo⟩
-- 20: BOOT_UPD_STATUS, offset 0x0040, update engine.
def BOOT_UPD_STATUS.PHASE : Fld := ⟨0x540040, 1, 0x0, 1, 0x0, 29, 3, .ro⟩
def BOOT_UPD_STATUS.HELD : Fld := ⟨0x540040, 1, 0x0, 1, 0x0, 28, 1, .ro⟩
def BOOT_UPD_STATUS.SLOT : Fld := ⟨0x540040, 1, 0x0, 1, 0x0, 27, 1, .ro⟩
def BOOT_UPD_STATUS.REASON : Fld := ⟨0x540040, 1, 0x0, 1, 0x0, 0, 8, .ro⟩
-- 20: BOOT_UPD_PROGRESS, offset 0x0044, work done.
def BOOT_UPD_PROGRESS.SECTORS : Fld := ⟨0x540044, 1, 0x0, 1, 0x0, 16, 16, .ro⟩
def BOOT_UPD_PROGRESS.MIB : Fld := ⟨0x540044, 1, 0x0, 1, 0x0, 0, 16, .ro⟩
-- 20: BOOT_CFG_SEQ, offset 0x0050, configuration in force.
def BOOT_CFG_SEQ.SEQ : Fld := ⟨0x540050, 1, 0x0, 1, 0x0, 0, 32, .ro⟩
-- 20: BOOT_CFG_COPY_LO, offset 0x0054, and BOOT_CFG_COPY_HI, offset 0x0058, checked copy.
def BOOT_CFG_COPY_LO.BASE : Fld := ⟨0x540054, 1, 0x0, 1, 0x0, 0, 32, .ro⟩
def BOOT_CFG_COPY_HI.BASE : Fld := ⟨0x540058, 1, 0x0, 1, 0x0, 0, 32, .ro⟩
-- 20: BOOT_CFG_LEN, offset 0x005C, copy length.
def BOOT_CFG_LEN.BYTES : Fld := ⟨0x54005C, 1, 0x0, 1, 0x0, 0, 32, .ro⟩
-- 20: BOOT_PARTp_STATUS, offset 0x1000 + 8 × p, p = 0 to 63, partition state.
def BOOT_PARTp_STATUS.PSTATE : Fld := ⟨0x541000, 64, 0x8, 1, 0x0, 29, 3, .ro⟩
def BOOT_PARTp_STATUS.CLUSTER : Fld := ⟨0x541000, 64, 0x8, 1, 0x0, 26, 3, .ro⟩
def BOOT_PARTp_STATUS.PROT : Fld := ⟨0x541000, 64, 0x8, 1, 0x0, 25, 1, .ro⟩
def BOOT_PARTp_STATUS.SWAPPED : Fld := ⟨0x541000, 64, 0x8, 1, 0x0, 24, 1, .ro⟩
-- 20: BOOT_PARTp_CTRL, offset 0x1004 + 8 × p, partition activation.
def BOOT_PARTp_CTRL.ACTIVATE : Fld := ⟨0x541004, 64, 0x8, 1, 0x0, 0, 1, .wo⟩
-- 21: CAL_CHAINk, offset 0x0200 + 4 × k, k = 0 to 47, chaining.
def CAL_CHAINk.CHAIN : Fld := ⟨0x580200, 48, 0x4, 1, 0x0, 0, 32, .rwl⟩
-- 21: CAL_OVF_EVTk, offset 0x0300 + 4 × k, k = 0 to 47, overflow event enables.
def CAL_OVF_EVTk.EN : Fld := ⟨0x580300, 48, 0x4, 1, 0x0, 0, 32, .rwl⟩
-- 21: CAL_OVFk, offset 0x0400 + 4 × k, k = 0 to 47, overflow flags.
def CAL_OVFk.OVF : Fld := ⟨0x580400, 48, 0x4, 1, 0x0, 0, 32, .w1c⟩
-- 21: CAL_FCj_SEL, offset 0x1000 + 0x20 × j, j = 0 to 127, filtered counter selection.
def CAL_FCj_SEL.SAMPLE_EN : Fld := ⟨0x581000, 128, 0x20, 1, 0x0, 31, 1, .rwl⟩
def CAL_FCj_SEL.ADDR_EN : Fld := ⟨0x581000, 128, 0x20, 1, 0x0, 30, 1, .rwl⟩
def CAL_FCj_SEL.REQ_EN : Fld := ⟨0x581000, 128, 0x20, 1, 0x0, 29, 1, .rwl⟩
def CAL_FCj_SEL.TC_EN : Fld := ⟨0x581000, 128, 0x20, 1, 0x0, 28, 1, .rwl⟩
def CAL_FCj_SEL.PRIV_EN : Fld := ⟨0x581000, 128, 0x20, 1, 0x0, 27, 1, .rwl⟩
def CAL_FCj_SEL.PRIV : Fld := ⟨0x581000, 128, 0x20, 1, 0x0, 20, 4, .rwl⟩
def CAL_FCj_SEL.TC : Fld := ⟨0x581000, 128, 0x20, 1, 0x0, 12, 8, .rwl⟩
def CAL_FCj_SEL.EVENT : Fld := ⟨0x581000, 128, 0x20, 1, 0x0, 0, 11, .rwl⟩
-- 21: CAL_FCj_REQ, offset 0x1004 + 0x20 × j, requester.
def CAL_FCj_REQ.REQ : Fld := ⟨0x581004, 128, 0x20, 1, 0x0, 0, 8, .rwl⟩
-- 21: CAL_FCj_BASE_LO, offset 0x1008 + 0x20 × j, CAL_FCj_BASE_HI, offset 0x100C + 0x20 × j, CAL_FCj_LIMIT_LO, offset 0x1010 + 0x20 × j, and CAL_FCj_LIMIT_HI
def CAL_FCj_BASE_LO.ADDR : Fld := ⟨0x581008, 128, 0x20, 1, 0x0, 0, 32, .rwl⟩
def CAL_FCj_BASE_HI.ADDR : Fld := ⟨0x58100C, 128, 0x20, 1, 0x0, 0, 32, .rwl⟩
def CAL_FCj_LIMIT_LO.ADDR : Fld := ⟨0x581010, 128, 0x20, 1, 0x0, 0, 32, .rwl⟩
def CAL_FCj_LIMIT_HI.ADDR : Fld := ⟨0x581014, 128, 0x20, 1, 0x0, 0, 32, .rwl⟩
-- 21: CAL_FCj_PERIOD, offset 0x1018 + 0x20 × j, sampling period.
def CAL_FCj_PERIOD.PERIOD : Fld := ⟨0x581018, 128, 0x20, 1, 0x0, 0, 32, .rwl⟩
-- 21: CAL_HUu_CFG, offset 0x4000 + 0x40 × u, u = 0 to 63, histogram unit.
def CAL_HUu_CFG.PROBE : Fld := ⟨0x584000, 64, 0x40, 1, 0x0, 28, 4, .rwl⟩
def CAL_HUu_CFG.MODE : Fld := ⟨0x584000, 64, 0x40, 1, 0x0, 27, 1, .rwl⟩
def CAL_HUu_CFG.ANY : Fld := ⟨0x584000, 64, 0x40, 1, 0x0, 26, 1, .rwl⟩
def CAL_HUu_CFG.INDEX : Fld := ⟨0x584000, 64, 0x40, 1, 0x0, 0, 16, .rwl⟩
-- 21: CAL_HUu_UNIT, offset 0x4004 + 0x40 × u, bin scale.
def CAL_HUu_UNIT.NS : Fld := ⟨0x584004, 64, 0x40, 1, 0x0, 0, 32, .rwl⟩
-- 21: CAL_HUu_CTRL, offset 0x4008 + 0x40 × u, unit commands.
def CAL_HUu_CTRL.FREEZE : Fld := ⟨0x584008, 64, 0x40, 1, 0x0, 1, 1, .rw⟩
def CAL_HUu_CTRL.CLEAR : Fld := ⟨0x584008, 64, 0x40, 1, 0x0, 0, 1, .wo⟩
-- 21: CAL_HUu_MAX, offset 0x400C + 0x40 × u, and CAL_HUu_MISSED, offset 0x4010 + 0x40 × u, extremes.
def CAL_HUu_MAX.VALUE : Fld := ⟨0x58400C, 64, 0x40, 1, 0x0, 0, 32, .ro⟩
def CAL_HUu_MISSED.VALUE : Fld := ⟨0x584010, 64, 0x40, 1, 0x0, 0, 32, .rc⟩
-- 21: CAL_CNTe_LO, offset 0x1_0000 + 8 × e, and CAL_CNTe_HI, offset 0x1_0004 + 8 × e, e = 0 to 1,535, counters.
def CAL_CNTe_LO.COUNT : Fld := ⟨0x590000, 1536, 0x8, 1, 0x0, 0, 32, .ro⟩
def CAL_CNTe_HI.COUNT : Fld := ⟨0x590004, 1536, 0x8, 1, 0x0, 0, 16, .ro⟩
-- 21: CAL_HUu_BINi_LO, offset 0x2_0000 + 0x100 × u + 8 × i, and CAL_HUu_BINi_HI, offset 0x2_0004 + 0x100 × u + 8 × i, i = 0 to 31, bins.
def CAL_HUu_BINi_LO.COUNT : Fld := ⟨0x5A0000, 64, 0x100, 32, 0x8, 0, 32, .ro⟩
def CAL_HUu_BINi_HI.COUNT : Fld := ⟨0x5A0004, 64, 0x100, 32, 0x8, 0, 32, .ro⟩
-- 22: EVT_CFG, offset 0x0000, output control.
def EVT_CFG.OUT_MODE : Fld := ⟨0x20000, 1, 0x0, 1, 0x0, 16, 1, .rwl⟩
def EVT_CFG.OUT_PULSE_US : Fld := ⟨0x20000, 1, 0x0, 1, 0x0, 0, 16, .rwl⟩
-- 22: EVT_STATUS, offset 0x0004, journal state.
def EVT_STATUS.HELD : Fld := ⟨0x20004, 1, 0x0, 1, 0x0, 31, 1, .ro⟩
def EVT_STATUS.QUEUE : Fld := ⟨0x20004, 1, 0x0, 1, 0x0, 0, 7, .ro⟩
-- 22: EVT_JSEQ_LO, offset 0x0008, and EVT_JSEQ_HI, offset 0x000C, next JSEQ.
def EVT_JSEQ_LO.JSEQ : Fld := ⟨0x20008, 1, 0x0, 1, 0x0, 0, 32, .ro⟩
def EVT_JSEQ_HI.JSEQ : Fld := ⟨0x2000C, 1, 0x0, 1, 0x0, 0, 16, .ro⟩
-- 22: EVT_WDOG, offset 0x0010, device watchdog.
def EVT_WDOG.TIMEOUT_MS : Fld := ⟨0x20010, 1, 0x0, 1, 0x0, 0, 16, .rwl⟩
-- 22: EVT_WDOG_KICK, offset 0x0014, watchdog restart.
def EVT_WDOG_KICK.KICK : Fld := ⟨0x20014, 1, 0x0, 1, 0x0, 0, 1, .wo⟩
-- 22: EVT_RAM_ERR, offset 0x0018, last internal RAM error.
def EVT_RAM_ERR.UE : Fld := ⟨0x20018, 1, 0x0, 1, 0x0, 31, 1, .ro⟩
def EVT_RAM_ERR.BLOCK : Fld := ⟨0x20018, 1, 0x0, 1, 0x0, 22, 5, .ro⟩
def EVT_RAM_ERR.INDEX : Fld := ⟨0x20018, 1, 0x0, 1, 0x0, 0, 22, .ro⟩
-- 22: EVT_cnt_LO and _HI, offset 0x0100 + 8 × i, unit counters: 0 RAISED, 1 JOURNALLED, 2 SUPPRESSED, 3 JRNL_LOST, 4 DISPATCHED, 5 MERGED, 6 RING_DROP. Each
def EVT_cnt_LO.COUNT : Fld := ⟨0x20100, 7, 0x8, 1, 0x0, 0, 32, .ro⟩
def EVT_cnt_HI.COUNT : Fld := ⟨0x20104, 7, 0x8, 1, 0x0, 0, 32, .ro⟩
-- 22: EVT_OUT_PENDk, offset 0x0200 + 4 × k, and EVT_HOST_PENDk, offset 0x0240 + 4 × k, k = 0 to 15, pending sources.
def EVT_OUT_PENDk.PEND : Fld := ⟨0x20200, 16, 0x4, 1, 0x0, 0, 32, .w1c⟩
def EVT_HOST_PENDk.PEND : Fld := ⟨0x20240, 16, 0x4, 1, 0x0, 0, 32, .w1c⟩
-- 22: EVT_CLk_PENDw, offset 0x0400 + 0x40 × k + 4 × w, k = 0 to 7, w = 0 to 15, cluster pending sources.
def EVT_CLk_PENDw.PEND : Fld := ⟨0x20400, 8, 0x40, 16, 0x4, 0, 32, .w1c⟩
-- 22: EVT_SRCs_ROUTE, offset 0x1000 + 8 × s, s = 0 to 511, routes.
def EVT_SRCs_ROUTE.JRNL_EN : Fld := ⟨0x21000, 512, 0x8, 1, 0x0, 31, 1, .rwl⟩
def EVT_SRCs_ROUTE.RING_EN : Fld := ⟨0x21000, 512, 0x8, 1, 0x0, 30, 1, .rwl⟩
def EVT_SRCs_ROUTE.VEC_EN : Fld := ⟨0x21000, 512, 0x8, 1, 0x0, 29, 1, .rwl⟩
def EVT_SRCs_ROUTE.OUT_EN : Fld := ⟨0x21000, 512, 0x8, 1, 0x0, 28, 1, .rwl⟩
def EVT_SRCs_ROUTE.CLUSTER : Fld := ⟨0x21000, 512, 0x8, 1, 0x0, 20, 8, .rwl⟩
def EVT_SRCs_ROUTE.VECTOR : Fld := ⟨0x21000, 512, 0x8, 1, 0x0, 0, 11, .rwl⟩
-- 22: EVT_SRCs_CTL, offset 0x1004 + 8 × s, masking and limits.
def EVT_SRCs_CTL.MASK : Fld := ⟨0x21004, 512, 0x8, 1, 0x0, 31, 1, .rw⟩
def EVT_SRCs_CTL.SUPPRESSED : Fld := ⟨0x21004, 512, 0x8, 1, 0x0, 0, 16, .rc⟩
-- 23: PWR_STATUS, offset 0x0000, supply and power state.
def PWR_STATUS.NV_REFUSED : Fld := ⟨0x10000, 1, 0x0, 1, 0x0, 31, 1, .ro⟩
def PWR_STATUS.PWRFAIL : Fld := ⟨0x10000, 1, 0x0, 1, 0x0, 30, 1, .ro⟩
def PWR_STATUS.VIN_LOW : Fld := ⟨0x10000, 1, 0x0, 1, 0x0, 29, 1, .ro⟩
def PWR_STATUS.STBY_PIN : Fld := ⟨0x10000, 1, 0x0, 1, 0x0, 28, 1, .ro⟩
def PWR_STATUS.PSTATE : Fld := ⟨0x10000, 1, 0x0, 1, 0x0, 26, 2, .ro⟩
def PWR_STATUS.RESET_CAUSE : Fld := ⟨0x10000, 1, 0x0, 1, 0x0, 0, 8, .ro⟩
-- 23: PWR_VIN, offset 0x0004, and PWR_VAUX, offset 0x0008, measured inputs.
def PWR_VIN.LEVEL : Fld := ⟨0x10004, 1, 0x0, 1, 0x0, 0, 16, .ro⟩
def PWR_VAUX.LEVEL : Fld := ⟨0x10008, 1, 0x0, 1, 0x0, 0, 16, .ro⟩
-- 23: PWR_TEMP, offset 0x000C, junction temperature.
def PWR_TEMP.DEGC : Fld := ⟨0x1000C, 1, 0x0, 1, 0x0, 0, 16, .ro⟩
-- 23: PWR_VNV, offset 0x0010, non-volatile lock.
def PWR_VNV.HYST_MV : Fld := ⟨0x10010, 1, 0x0, 1, 0x0, 16, 16, .rwl⟩
def PWR_VNV.LOCK_MV : Fld := ⟨0x10010, 1, 0x0, 1, 0x0, 0, 16, .rwl⟩
-- 23: PWR_THERM, offset 0x0014, thermal warning.
def PWR_THERM.WARN_C : Fld := ⟨0x10014, 1, 0x0, 1, 0x0, 0, 8, .rwl⟩
-- 23: PWR_STBY, offset 0x0018, Standby request.
def PWR_STBY.ENTER : Fld := ⟨0x10018, 1, 0x0, 1, 0x0, 1, 1, .wo⟩
def PWR_STBY.SOFT : Fld := ⟨0x10018, 1, 0x0, 1, 0x0, 0, 1, .ro⟩
-- 23: PWR_WAKE, offset 0x001C, wake sources, always-on domain.
def PWR_WAKE.TIMER : Fld := ⟨0x1001C, 1, 0x0, 1, 0x0, 2, 1, .rw⟩
def PWR_WAKE.TRIG_IN : Fld := ⟨0x1001C, 1, 0x0, 1, 0x0, 1, 1, .rw⟩
def PWR_WAKE.PERST : Fld := ⟨0x1001C, 1, 0x0, 1, 0x0, 0, 1, .rw⟩
-- 23: PWR_WAKE_TIMER, offset 0x0020, timer wake, always-on domain.
def PWR_WAKE_TIMER.S : Fld := ⟨0x10020, 1, 0x0, 1, 0x0, 0, 32, .rw⟩
-- 23: PWR_STBY_TIME, offset 0x0024, last Standby.
def PWR_STBY_TIME.MS : Fld := ⟨0x10024, 1, 0x0, 1, 0x0, 0, 32, .ro⟩
-- 23: PWR_BYP, offset 0x0028, by-pass outputs.
def PWR_BYP.DRIVE : Fld := ⟨0x10028, 1, 0x0, 1, 0x0, 0, 12, .ro⟩
-- 23: PWR_cnt_LO and _HI, offset 0x0100 + 8 × i, counters: 0 NV_REFUSALS, 1 STBY_ENTRIES, 2 WAKES, 3 VIN_RANGE, 4 THERM_WARN. Each counter is 64 bits, wraps
def PWR_cnt_LO.COUNT : Fld := ⟨0x10100, 5, 0x8, 1, 0x0, 0, 32, .ro⟩
def PWR_cnt_HI.COUNT : Fld := ⟨0x10104, 5, 0x8, 1, 0x0, 0, 32, .ro⟩
-- 11: REC_CMD_TIME at 0x0204 to 0x020C, host trigger time (layout of the TIM_GTC registers)
def REC_CMD_TIME_NS.T : Fld := ⟨0x340204, 1, 0x0, 1, 0x0, 0, 30, .rw⟩
-- 11: REC_CMD_TIME at 0x0204 to 0x020C, host trigger time (layout of the TIM_GTC registers)
def REC_CMD_TIME_SEC_LO.T : Fld := ⟨0x340208, 1, 0x0, 1, 0x0, 0, 32, .rw⟩
-- 11: REC_CMD_TIME at 0x0204 to 0x020C, host trigger time (layout of the TIM_GTC registers)
def REC_CMD_TIME_SEC_HI.T : Fld := ⟨0x34020C, 1, 0x0, 1, 0x0, 0, 16, .rw⟩
-- 04: FPT_STATn_MAC: the statistics counters of R104 at 0x1_0000 + 0x400 x n + 8 x i, from offset 0x0
def FPT_STATn_MAC_LO.COUNT : Fld := ⟨0x90000, 24, 0x400, 14, 0x8, 0, 32, .ro⟩
-- 04: FPT_XSTATs_MAC: the statistics counters of fabric sub-port s (R104)
def FPT_XSTATs_MAC_LO.COUNT : Fld := ⟨0x98000, 16, 0x400, 14, 0x8, 0, 32, .ro⟩
def FPT_STATn_MAC_HI.COUNT : Fld := ⟨0x90004, 24, 0x400, 14, 0x8, 0, 32, .ro⟩
def FPT_XSTATs_MAC_HI.COUNT : Fld := ⟨0x98004, 16, 0x400, 14, 0x8, 0, 32, .ro⟩
-- 04: FPT_STATn_LRE: the statistics counters of R104 at 0x1_0000 + 0x400 x n + 8 x i, from offset 0x80
def FPT_STATn_LRE_LO.COUNT : Fld := ⟨0x90080, 24, 0x400, 7, 0x8, 0, 32, .ro⟩
-- 04: FPT_XSTATs_LRE: the statistics counters of fabric sub-port s (R104)
def FPT_XSTATs_LRE_LO.COUNT : Fld := ⟨0x98080, 16, 0x400, 7, 0x8, 0, 32, .ro⟩
def FPT_STATn_LRE_HI.COUNT : Fld := ⟨0x90084, 24, 0x400, 7, 0x8, 0, 32, .ro⟩
def FPT_XSTATs_LRE_HI.COUNT : Fld := ⟨0x98084, 16, 0x400, 7, 0x8, 0, 32, .ro⟩
-- 04: FPT_STATn_HSR: the statistics counters of R104 at 0x1_0000 + 0x400 x n + 8 x i, from offset 0xC0
def FPT_STATn_HSR_LO.COUNT : Fld := ⟨0x900C0, 24, 0x400, 4, 0x8, 0, 32, .ro⟩
-- 04: FPT_XSTATs_HSR: the statistics counters of fabric sub-port s (R104)
def FPT_XSTATs_HSR_LO.COUNT : Fld := ⟨0x980C0, 16, 0x400, 4, 0x8, 0, 32, .ro⟩
def FPT_STATn_HSR_HI.COUNT : Fld := ⟨0x900C4, 24, 0x400, 4, 0x8, 0, 32, .ro⟩
def FPT_XSTATs_HSR_HI.COUNT : Fld := ⟨0x980C4, 16, 0x400, 4, 0x8, 0, 32, .ro⟩

-- The staging registers of R39, at 0x0FF0 to 0x0FF8 of every block that has RWL fields. Instance `i` is the block's base.
def STAGE_CTRL.ARM : Fld := ⟨0xFF0, 0, 1, 1, 0, 3, 1, .wo⟩
def STAGE_CTRL.COMMIT_NOW : Fld := ⟨0xFF0, 0, 1, 1, 0, 2, 1, .wo⟩
def STAGE_CTRL.ABORT : Fld := ⟨0xFF0, 0, 1, 1, 0, 1, 1, .wo⟩
def STAGE_CTRL.OPEN : Fld := ⟨0xFF0, 0, 1, 1, 0, 0, 1, .wo⟩
def STAGE_STATUS.COMMITS : Fld := ⟨0xFF4, 0, 1, 1, 0, 24, 8, .ro⟩
def STAGE_STATUS.OWNER : Fld := ⟨0xFF4, 0, 1, 1, 0, 16, 8, .ro⟩
def STAGE_STATUS.DETAIL : Fld := ⟨0xFF4, 0, 1, 1, 0, 8, 8, .ro⟩
def STAGE_STATUS.RESULT : Fld := ⟨0xFF4, 0, 1, 1, 0, 4, 4, .ro⟩
def STAGE_STATUS.STATE : Fld := ⟨0xFF4, 0, 1, 1, 0, 0, 2, .ro⟩
def COMMIT_MARK.VIEW : Fld := ⟨0xFF8, 0, 1, 1, 0, 31, 1, .rw⟩
def COMMIT_MARK.TIMEOUT : Fld := ⟨0xFF8, 0, 1, 1, 0, 8, 16, .rw⟩
def COMMIT_MARK.MARK : Fld := ⟨0xFF8, 0, 1, 1, 0, 0, 8, .rw⟩

/-- The blocks of R12, in the order of the readiness bits (R38). -/
inductive Blk where
  | glb | pwr | evt | tim | fpt | ppl | fwt | svi | aln | phe | trp | recd | qmg | stg | rma | sch | cpu | dma | mem | boot | cal | hif
  deriving DecidableEq, Repr

/-- Readiness bit number of a block (R38). -/
def Blk.bit : Blk → Nat
  | .glb => 0
  | .pwr => 1
  | .evt => 2
  | .tim => 3
  | .fpt => 4
  | .ppl => 5
  | .fwt => 6
  | .svi => 7
  | .aln => 8
  | .phe => 9
  | .trp => 10
  | .recd => 11
  | .qmg => 12
  | .stg => 13
  | .rma => 14
  | .sch => 15
  | .cpu => 16
  | .dma => 17
  | .mem => 18
  | .boot => 19
  | .cal => 20
  | .hif => 21

/-- Base of a block in PF0 BAR0 (R33). -/
def Blk.base : Blk → Nat
  | .glb => 0x0
  | .pwr => 0x10000
  | .evt => 0x20000
  | .tim => 0x40000
  | .fpt => 0x80000
  | .ppl => 0x100000
  | .fwt => 0x140000
  | .svi => 0x180000
  | .aln => 0x200000
  | .phe => 0x280000
  | .trp => 0x300000
  | .recd => 0x340000
  | .qmg => 0x380000
  | .stg => 0x3C0000
  | .rma => 0x400000
  | .sch => 0x440000
  | .cpu => 0x480000
  | .dma => 0x4C0000
  | .mem => 0x500000
  | .boot => 0x540000
  | .cal => 0x580000
  | .hif => 0x600000

/-- Every block, in the order of R12. -/
def Blk.all : List Blk := [.glb, .pwr, .evt, .tim, .fpt, .ppl, .fwt, .svi, .aln, .phe, .trp, .recd, .qmg, .stg, .rma, .sch, .cpu, .dma, .mem, .boot, .cal, .hif]

/-- The blocks with RWL fields, which carry the three staging registers (R39). -/
def Blk.staged : Blk → Bool
  | .glb => false | .dma => false | .boot => false | _ => true

/-- The registers of block GLB, each as the list of its fields. -/
def regRowsGLB : List (List Fld) :=
  [[GLB_ID.PART, GLB_ID.VENDOR],
   [GLB_STEPPING.LETTER, GLB_STEPPING.NUMBER],
   [GLB_UID_LO.UID],
   [GLB_UID_HI.UID],
   [GLB_READY_BLK.READY],
   [GLB_READY_FN.VF_READY, GLB_READY_FN.PF_READY],
   [GLB_FAIL_BLK.FAIL],
   [GLB_BAD_ACCESS.COUNT],
   [GLB_SYNC.NONE],
   [GLB_WIN_PAGEn.PAGE],
   [GLB_WIN_STATUSn.CONFLICT, GLB_WIN_STATUSn.PARTIAL]]

/-- The registers of block PWR, each as the list of its fields. -/
def regRowsPWR : List (List Fld) :=
  [[PWR_STATUS.NV_REFUSED, PWR_STATUS.PWRFAIL, PWR_STATUS.VIN_LOW, PWR_STATUS.STBY_PIN, PWR_STATUS.PSTATE, PWR_STATUS.RESET_CAUSE],
   [PWR_VIN.LEVEL],
   [PWR_VAUX.LEVEL],
   [PWR_TEMP.DEGC],
   [PWR_VNV.HYST_MV, PWR_VNV.LOCK_MV],
   [PWR_THERM.WARN_C],
   [PWR_STBY.ENTER, PWR_STBY.SOFT],
   [PWR_WAKE.TIMER, PWR_WAKE.TRIG_IN, PWR_WAKE.PERST],
   [PWR_WAKE_TIMER.S],
   [PWR_STBY_TIME.MS],
   [PWR_BYP.DRIVE],
   [PWR_cnt_LO.COUNT],
   [PWR_cnt_HI.COUNT]]

/-- The registers of block EVT, each as the list of its fields. -/
def regRowsEVT : List (List Fld) :=
  [[EVT_CFG.OUT_MODE, EVT_CFG.OUT_PULSE_US],
   [EVT_STATUS.HELD, EVT_STATUS.QUEUE],
   [EVT_JSEQ_LO.JSEQ],
   [EVT_JSEQ_HI.JSEQ],
   [EVT_WDOG.TIMEOUT_MS],
   [EVT_WDOG_KICK.KICK],
   [EVT_RAM_ERR.UE, EVT_RAM_ERR.BLOCK, EVT_RAM_ERR.INDEX],
   [EVT_cnt_LO.COUNT],
   [EVT_cnt_HI.COUNT],
   [EVT_OUT_PENDk.PEND],
   [EVT_HOST_PENDk.PEND],
   [EVT_CLk_PENDw.PEND],
   [EVT_SRCs_ROUTE.JRNL_EN, EVT_SRCs_ROUTE.RING_EN, EVT_SRCs_ROUTE.VEC_EN, EVT_SRCs_ROUTE.OUT_EN, EVT_SRCs_ROUTE.CLUSTER, EVT_SRCs_ROUTE.VECTOR],
   [EVT_SRCs_CTL.MASK, EVT_SRCs_CTL.SUPPRESSED]]

/-- The registers of block TIM, each as the list of its fields. -/
def regRowsTIM : List (List Fld) :=
  [[TIM_GTC_NS.NS],
   [TIM_GTC_SEC_LO.SEC],
   [TIM_GTC_SEC_HI.SEC],
   [TIM_STATUS.STEPS, TIM_STATUS.TIME_UNKNOWN, TIM_STATUS.LEAP_PENDING, TIM_STATUS.SOURCE, TIM_STATUS.CLK10M_OK, TIM_STATUS.OCXO_OK, TIM_STATUS.IRIG_OK, TIM_STATUS.PPS_OK, TIM_STATUS.STATE, TIM_STATUS.QUALITY],
   [TIM_SRC_CTRL.OSC, TIM_SRC_CTRL.STEP_EN, TIM_SRC_CTRL.PRIO2, TIM_SRC_CTRL.PRIO1, TIM_SRC_CTRL.PRIO0],
   [TIM_LOCK_CFG.COUNT, TIM_LOCK_CFG.THRESH_NS],
   [TIM_STEP_THRESH.NS],
   [TIM_HOLDOVER.LIMIT_S],
   [TIM_LOSS_CFG.PTP_TO, TIM_LOSS_CFG.IRIG_MISS, TIM_LOSS_CFG.PPS_MISS],
   [TIM_FREQ_ADJ_LO.ADJ],
   [TIM_FREQ_ADJ_HI.ADJ],
   [TIM_PTP_OFS_SEC.SEC],
   [TIM_PTP_OFS_NS.NS],
   [TIM_OFFSET.NS],
   [TIM_SLEW_MAX.PPB],
   [TIM_UTC.LEAP61, TIM_UTC.LEAP59, TIM_UTC.UTC_OFFSET],
   [TIM_PPS_OUT_CFG.WIDTH_US, TIM_PPS_OUT_CFG.GATE, TIM_PPS_OUT_CFG.ENABLE],
   [TIM_PPS_OUT_OFS.NS],
   [TIM_PPS_IN_CFG.EDGE, TIM_PPS_IN_CFG.CABLE_NS],
   [TIM_IRIG_CFG.CABLE_NS, TIM_IRIG_CFG.AM_THRESH, TIM_IRIG_CFG.EXT_1344, TIM_IRIG_CFG.LOCAL, TIM_IRIG_CFG.MOD, TIM_IRIG_CFG.EXPR]] ++
  [[TIM_IRIG_STATUS.FRAME_ERR, TIM_IRIG_STATUS.LSP, TIM_IRIG_STATUS.TQ],
   [TIM_PTP_CFG.MAX_CLASS, TIM_PTP_CFG.DOMAIN, TIM_PTP_CFG.PROFILE],
   [TIM_PTP_PORTn.ONE_STEP, TIM_PTP_PORTn.P2P, TIM_PTP_PORTn.MODE],
   [TIM_TSCOMPn.EGR, TIM_TSCOMPn.ING],
   [TIM_GRAINn_CTRL.ENABLE, TIM_GRAINn_CTRL.NOMINAL_MHZ],
   [TIM_GRAINn_REF.KIND, TIM_GRAINn_REF.INDEX],
   [TIM_GRAINn_ALT.KIND, TIM_GRAINn_ALT.ALT_EN, TIM_GRAINn_ALT.INDEX],
   [TIM_GRAINn_LOOP.MIN_MAG, TIM_GRAINn_LOOP.GAP, TIM_GRAINn_LOOP.MAX_FILL, TIM_GRAINn_LOOP.BW],
   [TIM_GRAINn_COAST.TIMEOUT],
   [TIM_GRAINn_STATUS.COASTING, TIM_GRAINn_STATUS.ON_ALT, TIM_GRAINn_STATUS.REF_OK, TIM_GRAINn_STATUS.STATE],
   [TIM_GRAINn_ANGLE.ANGLE],
   [TIM_GRAINn_CYCLE.CYCLE],
   [TIM_GRAINn_FREQ.HZ],
   [TIM_GRAINn_OFFSET.OFFSET],
   [TIM_GRAINn_ALT_DELTA.DELTA],
   [TIM_MARKn_CFG.DIV, TIM_MARKn_CFG.PHASE, TIM_MARKn_CFG.EVT, TIM_MARKn_CFG.INSTANCE, TIM_MARKn_CFG.ENABLE],
   [TIM_MARKn_ANGLE.ANGLE],
   [TIM_QWn.ENABLE, TIM_QWn.CLOSE, TIM_QWn.OPEN],
   [TIM_QW_STATUS.OPEN],
   [TIM_MARK_SEENk.SEEN]]

/-- The registers of block FPT, each as the list of its fields. -/
def regRowsFPT : List (List Fld) :=
  [[FPT_PORTn_CFG.ENABLE, FPT_PORTn_CFG.MAX_FRAME, FPT_PORTn_CFG.AN, FPT_PORTn_CFG.MODE],
   [FPT_PORTn_STATUS.SPEED, FPT_PORTn_STATUS.RFAULT, FPT_PORTn_STATUS.SIG, FPT_PORTn_STATUS.LSTATE],
   [FPT_PORTn_VLAN.ACCEPT, FPT_PORTn_VLAN.PCP, FPT_PORTn_VLAN.UNTAG, FPT_PORTn_VLAN.PVID],
   [FPT_PORTn_MAC_LO.MAC],
   [FPT_PORTn_MAC_HI.MAC],
   [FPT_PORTn_ERR.FCS_THRESH],
   [FPT_XPORTm_CFG.ENABLE, FPT_XPORTm_CFG.PFC_EN, FPT_XPORTm_CFG.AN, FPT_XPORTm_CFG.FEC, FPT_XPORTm_CFG.MEDIA, FPT_XPORTm_CFG.AUTO_DEGRADE, FPT_XPORTm_CFG.SPLIT],
   [FPT_XPORTm_LANEMAP.RX_INV, FPT_XPORTm_LANEMAP.TX_INV, FPT_XPORTm_LANEMAP.MAP],
   [FPT_XPORTm_STATUS.LANE_OK, FPT_XPORTm_STATUS.SUB_UP, FPT_XPORTm_STATUS.WIDTH, FPT_XPORTm_STATUS.DLANE],
   [FPT_XPORTm_DEGRADE.RESTORE, FPT_XPORTm_DEGRADE.LANE, FPT_XPORTm_DEGRADE.GO],
   [FPT_XPORTm_FEC_UNC.COUNT],
   [FPT_XPORTm_FEC_CORR.COUNT],
   [FPT_XPORTm_PFC_WD.WD_MS],
   [FPT_PAIRp_CFG.INTERLINK, FPT_PAIRp_CFG.HSR_MODE, FPT_PAIRp_CFG.MODE],
   [FPT_PAIRp_SUP.INTERVAL_MS],
   [FPT_PAIRp_DD.WINDOW],
   [FPT_PAIRp_BYP.BYP_EN, FPT_PAIRp_BYP.SWITCH_MS, FPT_PAIRp_BYP.SETTLE_MS],
   [FPT_PAIRp_KEEPER.TIMEOUT_MS],
   [FPT_PAIRp_CTRL.KICK, FPT_PAIRp_CTRL.RESET, FPT_PAIRp_CTRL.FORCE_REL],
   [FPT_PAIRp_STATUS.DD_USED, FPT_PAIRp_STATUS.REASON, FPT_PAIRp_STATUS.DRIVE, FPT_PAIRp_STATUS.FWD_READY, FPT_PAIRp_STATUS.BSTATE]] ++
  [[FPT_PAIRp_DDCNT.DD_OLD, FPT_PAIRp_DDCNT.DD_OVF],
   [FPT_STATn_MAC_LO.COUNT],
   [FPT_XSTATs_MAC_LO.COUNT],
   [FPT_STATn_MAC_HI.COUNT],
   [FPT_XSTATs_MAC_HI.COUNT],
   [FPT_STATn_LRE_LO.COUNT],
   [FPT_XSTATs_LRE_LO.COUNT],
   [FPT_STATn_LRE_HI.COUNT],
   [FPT_XSTATs_LRE_HI.COUNT],
   [FPT_STATn_HSR_LO.COUNT],
   [FPT_XSTATs_HSR_LO.COUNT],
   [FPT_STATn_HSR_HI.COUNT],
   [FPT_XSTATs_HSR_HI.COUNT]]

/-- The registers of block PPL, each as the list of its fields. -/
def regRowsPPL : List (List Fld) :=
  [[PPL_PORTn_CFG.TRAP_RING, PPL_PORTn_CFG.EXC_BADLEN, PPL_PORTn_CFG.EXC_PARSE, PPL_PORTn_CFG.EXC_MISS, PPL_PORTn_CFG.DEF_PROF_EN, PPL_PORTn_CFG.DEF_PROFILE, PPL_PORTn_CFG.PSET],
   [PPL_PORTn_DEFACT.ACTION],
   [PPL_PORTn_LIMr.RATE, PPL_PORTn_LIMr.BURST],
   [PPL_PORTn_cnt_LO.COUNT],
   [PPL_PORTn_cnt_HI.COUNT],
   [PPL_SELk_MATCH.VALID, PPL_SELk_MATCH.TAG, PPL_SELk_MATCH.PSET_MASK, PPL_SELk_MATCH.ETYPE],
   [PPL_SELk_PROF.PROFILE],
   [PPL_TRAPr_BASE_LO.BASE],
   [PPL_TRAPr_BASE_HI.BASE],
   [PPL_TRAPr_SIZE.ENABLE, PPL_TRAPr_SIZE.LOG2],
   [PPL_TRAPr_PROD.PROD],
   [PPL_TRAPr_CONS.CONS],
   [PPL_TRAPr_DROP.COUNT]]

/-- The registers of block FWT, each as the list of its fields. -/
def regRowsFWT : List (List Fld) :=
  [[FWT_CFG.AGE_S],
   [FWT_PERR.VALID, FWT_PERR.TABLE, FWT_PERR.BANK, FWT_PERR.INDEX],
   [FWT_PERR_LOST.COUNT],
   [FWT_L2_cnt_LO.COUNT],
   [FWT_L2_cnt_HI.COUNT],
   [FWT_PORTn_CFG.LEARN],
   [FWT_Tt_CTRL.INJECT, FWT_Tt_CTRL.SWAP, FWT_Tt_CTRL.ABORT_REBUILD, FWT_Tt_CTRL.REBUILD],
   [FWT_Tt_STATUS.USED, FWT_Tt_STATUS.SH_FAIL, FWT_Tt_STATUS.CLEARING, FWT_Tt_STATUS.REBUILD_OPEN, FWT_Tt_STATUS.REHASH_REQ],
   [FWT_Tt_SEED0.SEED],
   [FWT_Tt_SEED1.SEED],
   [FWT_Tt_SH_SEED0.SEED],
   [FWT_Tt_SH_SEED1.SEED],
   [FWT_Tt_cnt_LO.COUNT],
   [FWT_Tt_cnt_HI.COUNT],
   [FWT_Tt_CMD_ENTRYw.DATA],
   [FWT_Tt_CMD.BANK, FWT_Tt_CMD.OP],
   [FWT_Tt_CMD_STATUS.BUSY, FWT_Tt_CMD_STATUS.RESULT, FWT_Tt_CMD_STATUS.INDEX],
   [FWT_VLANv_LO.MEMBERS],
   [FWT_VLANv_HI.HOSTQ, FWT_VLANv_HI.HOSTQ_EN, FWT_VLANv_HI.LEARN, FWT_VLANv_HI.MEMBERS]]

/-- The registers of block SVI, each as the list of its fields. -/
def regRowsSVI : List (List Fld) :=
  [[SVI_CFG.SIM_ACCEPT, SVI_CFG.ENABLE],
   [SVI_BUDGET.CHSAMP],
   [SVI_MACLOAD.APDUS],
   [SVI_STATES_A.COUNT_HI, SVI_STATES_A.COUNT_LO],
   [SVI_STATES_B.COUNT_HI, SVI_STATES_B.COUNT_LO],
   [SVI_FIFO.HIGH, SVI_FIFO.LEVEL],
   [SVI_cnt_LO.COUNT],
   [SVI_cnt_HI.COUNT],
   [SVI_NOSUB_LO.KEY],
   [SVI_NOSUB_HI.KEY],
   [SVI_NOSUB_PORT.VALID, SVI_NOSUB_PORT.PORT],
   [SVI_SUBs_STATE.STATE, SVI_SUBs_STATE.NOT_SYNC, SVI_SUBs_STATE.SMPSYNCH, SVI_SUBs_STATE.H],
   [SVI_SUBs_OK.COUNT],
   [SVI_SUBs_SEQ.LOST, SVI_SUBs_SEQ.REORDER],
   [SVI_SUBs_DUP.DUP, SVI_SUBs_DUP.STALE],
   [SVI_SUBs_ERR.AUTH_FAIL, SVI_SUBs_ERR.CONFREV_ERR],
   [SVI_SUBs_ERR2.FORMAT_ERR, SVI_SUBs_ERR2.OVERRATE],
   [SVI_SUBs_LAST.NS],
   [SVI_SUBs_RESYNC.RESYNC],
   [SVI_KEYk_CTRL.VALID_CUR, SVI_KEYk_CTRL.VALID_NEXT, SVI_KEYk_CTRL.PROMOTE, SVI_KEYk_CTRL.AUTO]] ++
  [[SVI_KEYk_ID_CUR.ID],
   [SVI_KEYk_ID_NEXT.ID],
   [SVI_KEYk_NEXT_FROM_LO.SEC],
   [SVI_KEYk_NEXT_FROM_HI.SEC],
   [SVI_KEYk_CURw.KEY],
   [SVI_KEYk_NEXTw.KEY]]

/-- The registers of block ALN, each as the list of its fields. -/
def regRowsALN : List (List Fld) :=
  [[ALN_CFG.ENABLE],
   [ALN_HOLD_TIME.US],
   [ALN_STATUS.RUNNING],
   [ALN_cnt_LO.COUNT],
   [ALN_cnt_HI.COUNT],
   [ALN_BAYb_STATE.RUNNING, ALN_BAYb_STATE.OPEN],
   [ALN_BAYb_SEALED_LO.N],
   [ALN_BAYb_SEALED_HI.N],
   [ALN_BAYb_FRAME_SEQ.SEQ],
   [ALN_BAYb_LATE.LATE, ALN_BAYb_LATE.STALE_LATE],
   [ALN_BAYb_FILL.HELD, ALN_BAYb_FILL.PREDICTED],
   [ALN_BAYb_MISS.MISSING, ALN_BAYb_MISS.COLLIDE],
   [ALN_BAYb_RING0.UNAVAIL, ALN_BAYb_RING0.NO_BUF],
   [ALN_BAYb_RING1.UNAVAIL, ALN_BAYb_RING1.NO_BUF],
   [ALN_BAYb_SHORT.SHORT0, ALN_BAYb_SHORT.SHORT1],
   [ALN_BAYb_DROP.MISFIT, ALN_BAYb_DROP.STEP_DISCARD],
   [ALN_BAYb_SEAL_MAX.US]]

/-- The registers of block PHE, each as the list of its fields. -/
def regRowsPHE : List (List Fld) :=
  [[PHE_CFG.PRED_CYC, PHE_CFG.FMIN_PCT, PHE_CFG.MAX_FILL, PHE_CFG.ENABLE],
   [PHE_LOAD.UPDATES],
   [PHE_USED.CHANNELS, PHE_USED.GROUPS],
   [PHE_TBL_BASE_LO.BASE],
   [PHE_TBL_BASE_HI.BASE],
   [PHE_HIST_BASE_LO.BASE],
   [PHE_HIST_BASE_HI.BASE],
   [PHE_HIST_SIZE.UNITS],
   [PHE_cnt_LO.COUNT],
   [PHE_cnt_HI.COUNT],
   [PHE_GRPg_PH.VALID, PHE_GRPg_PH.CH_B, PHE_GRPg_PH.CH_A],
   [PHE_GRPg_CFG.RPT, PHE_GRPg_CFG.ROC_CYC, PHE_GRPg_CFG.CH_C],
   [PHE_RPTi_CFG.ENABLE, PHE_RPTi_CFG.MARK, PHE_RPTi_CFG.RING, PHE_RPTi_CFG.RING_FN],
   [PHE_RPTi_SEQ.SEQ],
   [PHE_RPTi_CNT.UNAVAIL, PHE_RPTi_CNT.NO_BUF],
   [PHE_RPTi_SHORT.SHORT]]

/-- The registers of block TRP, each as the list of its fields. -/
def regRowsTRP : List (List Fld) :=
  [[TRP_CFG.ENABLE],
   [TRP_STATUS.BLOCKED, TRP_STATUS.OPERATED],
   [TRP_cnt_LO.COUNT],
   [TRP_cnt_HI.COUNT],
   [TRP_ARM_SETk.ARM],
   [TRP_ARM_CLRk.ARM],
   [TRP_UNLATCHk.UNLATCH],
   [TRP_GRING_BASE_LO.BASE],
   [TRP_GRING_BASE_HI.BASE],
   [TRP_GRING_SIZE.ENABLE, TRP_GRING_SIZE.LOG2],
   [TRP_GRING_PROD.INDEX],
   [TRP_GRING_CONS.INDEX],
   [TRP_GRING_DROP.COUNT],
   [TRP_PUBp_CFG.ENABLE, TRP_PUBp_CFG.VTYPE, TRP_PUBp_CFG.TAL_MULT, TRP_PUBp_CFG.LEN],
   [TRP_PUBp_OFS_A.OFS_HI, TRP_PUBp_OFS_A.OFS_LO],
   [TRP_PUBp_OFS_B.OFS_HI, TRP_PUBp_OFS_B.OFS_LO],
   [TRP_PUBp_OFS_C.OFS_HI, TRP_PUBp_OFS_C.OFS_LO],
   [TRP_PUBp_SEC.KEY_SLOT, TRP_PUBp_SEC.MAC_ALG, TRP_PUBp_SEC.OFS_KID],
   [TRP_PUBp_PORTS.PORT_MASK],
   [TRP_PUBp_SCHED.MAX_MS, TRP_PUBp_SCHED.FIRST_US]] ++
  [[TRP_PUBp_VAL_ON.VALUE],
   [TRP_PUBp_VAL_OFF.VALUE],
   [TRP_PUBp_STNUM.NUM],
   [TRP_PUBp_SQNUM.NUM],
   [TRP_PUBp_STATUS.STEP, TRP_PUBp_STATUS.ON],
   [TRP_TERMt_STATUS.STATE, TRP_TERMt_STATUS.UNLATCH, TRP_TERMt_STATUS.DECIDER, TRP_TERMt_STATUS.OUT],
   [TRP_CMPc_STATUS.STATE, TRP_CMPc_STATUS.COUNT],
   [TRP_GSUBs_STATE.STATE, TRP_GSUBs_STATE.NDSCOM, TRP_GSUBs_STATE.SIM, TRP_GSUBs_STATE.AUTH_OK, TRP_GSUBs_STATE.VTYPE, TRP_GSUBs_STATE.TAL],
   [TRP_GSUBs_VALUE.VALUE],
   [TRP_GSUBs_STNUM.NUM],
   [TRP_GSUBs_SQNUM.NUM]]

/-- The registers of block REC, each as the list of its fields. -/
def regRowsREC : List (List Fld) :=
  [[REC_CFG.EDGE, REC_CFG.DEBOUNCE_US, REC_CFG.ENABLE],
   [REC_FLUSH.FLUSH_US],
   [REC_SEQ_LO.SEQ],
   [REC_SEQ_HI.SEQ],
   [REC_cnt_LO.COUNT],
   [REC_cnt_HI.COUNT],
   [REC_CMD.GO, REC_CMD.SET],
   [REC_SETc_BAYw.BAYS],
   [REC_SETc_TIME.POST_MS, REC_SETc_TIME.PRE_MS],
   [REC_SETc_MAX.MAX_MS, REC_SETc_MAX.NS],
   [REC_TRGi.KIND, REC_TRGi.SET, REC_TRGi.ANY, REC_TRGi.INDEX],
   [REC_BAYb_BASE_LO.BASE],
   [REC_BAYb_BASE_HI.BASE],
   [REC_BAYb_CFG.ENABLE, REC_BAYb_CFG.PIN_POLICY, REC_BAYb_CFG.SKIP_MISSING, REC_BAYb_CFG.SIZE],
   [REC_BAYb_WPOS_LO.WPOS],
   [REC_BAYb_WPOS_HI.WPOS],
   [REC_BAYb_LOSS.PIN_LOST, REC_BAYb_LOSS.BUF_LOST],
   [REC_BAYb_BLOCKED.RING_BLOCKED],
   [REC_NSr_HEAD.BUSY, REC_NSr_HEAD.PENDING, REC_NSr_HEAD.NS_HEAD],
   [REC_CMD_TIME_NS.T]] ++
  [[REC_CMD_TIME_SEC_LO.T],
   [REC_CMD_TIME_SEC_HI.T]]

/-- The registers of block QMG, each as the list of its fields. -/
def regRowsQMG : List (List Fld) :=
  [[QMG_CFG.OWN_WAIT_US],
   [QMG_RINGS.USED],
   [QMG_cnt_LO.COUNT],
   [QMG_cnt_HI.COUNT],
   [QMG_FNf_FAULT.FAULT],
   [QMG_FNf_FAULT_IDX.FAULT],
   [QMG_RINGg_DESC.STATE, QMG_RINGg_DESC.TYPE, QMG_RINGg_DESC.LOG2, QMG_RINGg_DESC.FN, QMG_RINGg_DESC.RING],
   [QMG_RINGg_CONS.CONS],
   [QMG_ADM_BASE_LO.BASE],
   [QMG_ADM_BASE_HI.BASE],
   [QMG_ADM_CFG.ENABLE, QMG_ADM_CFG.LOG2, QMG_ADM_CFG.VECTOR],
   [QMG_ADM_STATUS.STATE, QMG_ADM_STATUS.FAULT, QMG_ADM_STATUS.CODE, QMG_ADM_STATUS.FAULT_RING],
   [QMG_ADM_CONS.CONS],
   [QMG_ADM_FAULT_IDX.INDEX],
   [QMG_ADM_ALLOW.ALLOW]]

/-- The registers of block STG, each as the list of its fields. -/
def regRowsSTG : List (List Fld) :=
  [[STG_JOURNAL.HELD, STG_JOURNAL.USED],
   [STG_CTRLf_WEIGHT.CTRL_WEIGHT],
   [STG_DSn_CFG.ENABLE, STG_DSn_CFG.AUTO_ON, STG_DSn_CFG.MAX_RATE, STG_DSn_CFG.MAX_WIDTH, STG_DSn_CFG.PWR_DELAY_MS],
   [STG_DSn_CTRL.FAULT_CLR, STG_DSn_CTRL.POWER_OFF, STG_DSn_CTRL.POWER_ON, STG_DSn_CTRL.ATTN_LED],
   [STG_DSn_STATUS.RATE, STG_DSn_STATUS.WIDTH, STG_DSn_STATUS.PRSNT, STG_DSn_STATUS.SSTATE],
   [STG_DSn_SHADOW.START],
   [STG_NSs_CFG.VALID, STG_NSs_CFG.KIND, STG_NSs_CFG.DRIVE_B_EN, STG_NSs_CFG.AUTO_REBUILD, STG_NSs_CFG.RNS, STG_NSs_CFG.DRIVE_B, STG_NSs_CFG.DRIVE_A],
   [STG_NSs_BASE_LO.BLOCKS],
   [STG_NSs_BASE_HI.BLOCKS],
   [STG_NSs_SIZE_LO.BLOCKS],
   [STG_NSs_SIZE_HI.BLOCKS],
   [STG_NSs_STATE.ONLINE, STG_NSs_STATE.MIRROR, STG_NSs_STATE.SYNC_A, STG_NSs_STATE.SYNC_B],
   [STG_NSs_REBUILD.MIB],
   [STG_NSs_CMD.REBUILD],
   [STG_NSs_ATTACHw.CTRL]]

/-- The registers of block RMA, each as the list of its fields. -/
def regRowsRMA : List (List Fld) :=
  [[RMA_CFG.ENABLE, RMA_CFG.SR_PRIO, RMA_CFG.PRIO],
   [RMA_BS_BASE_LO.BASE],
   [RMA_BS_BASE_HI.BASE],
   [RMA_BS_CTRL.ENABLE],
   [RMA_MISS.HIGH, RMA_MISS.LOW, RMA_MISS.MISS_TO],
   [RMA_ACK.ACK_N, RMA_ACK.ACK_US, RMA_ACK.CNP_US, RMA_ACK.SR_NAK_US],
   [RMA_RATE.AI_US, RMA_RATE.AI_STEP, RMA_RATE.MIN_RATE],
   [RMA_GIDi_w.ADDR],
   [RMA_STATUS.PAUSING, RMA_STATUS.CACHED, RMA_STATUS.LEVEL],
   [RMA_cnt_LO.COUNT],
   [RMA_cnt_HI.COUNT],
   [RMA_TWIN_CFG.TWIN_EN, RMA_TWIN_CFG.PRIO, RMA_TWIN_CFG.HB_PORT, RMA_TWIN_CFG.TWIN_QP],
   [RMA_TWIN_HB.HB_MISS, RMA_TWIN_HB.TAKE_US, RMA_TWIN_HB.HB_US],
   [RMA_TWIN_SEEK.SEEK_MS, RMA_TWIN_SEEK.SNAP_MARK],
   [RMA_TWIN_STATUS.ROLE, RMA_TWIN_STATUS.QP_PATH, RMA_TWIN_STATUS.RAW_PATH, RMA_TWIN_STATUS.CRC_MISMATCH, RMA_TWIN_STATUS.SNAP_SEQ],
   [RMA_MIR_BASE_LO.BASE],
   [RMA_MIR_BASE_HI.BASE],
   [RMA_MIR_ROWS.MIR_BAY_STRIDE, RMA_MIR_ROWS.MIR_LOG2],
   [RMA_TWIN_TERMk.GATE],
   [RMA_ARM_WANTk.WANT]]

/-- The registers of block SCH, each as the list of its fields. -/
def regRowsSCH : List (List Fld) :=
  [[SCH_CFG.ALARM_PCT, SCH_CFG.YELLOW_PCT, SCH_CFG.RED_PCT, SCH_CFG.OVH],
   [SCH_PFC.XOFF_KIB, SCH_PFC.XON_KIB],
   [SCH_BUF.USED],
   [SCH_cnt_LO.COUNT],
   [SCH_cnt_HI.COUNT],
   [SCH_PORTn_RATE.EN, SCH_PORTn_RATE.RATE],
   [SCH_CLSn_c_RATE.EN, SCH_CLSn_c_RATE.RATE],
   [SCH_Qq_RATE.EN, SCH_Qq_RATE.RATE],
   [SCH_PORTn_BURST.BURST],
   [SCH_CLSn_c_BURST.BURST],
   [SCH_Qq_BURST.BURST],
   [SCH_PORTn_QUOTA.QUOTA],
   [SCH_Qq_QUOTA.QUOTA],
   [SCH_PORTn_USE.USE],
   [SCH_Qq_USE.USE],
   [SCH_CLSn_c_CFG.STRICT, SCH_CLSn_c_CFG.WEIGHT],
   [SCH_Qq_CFG.KIND, SCH_Qq_CFG.POL_EN, SCH_Qq_CFG.POLICER, SCH_Qq_CFG.CLASS, SCH_Qq_CFG.PORT, SCH_Qq_CFG.WEIGHT],
   [SCH_Qq_DROP.QUOTA_DROP, SCH_Qq_DROP.HEAD_DROP],
   [SCH_POLp_CFG.RED_ACT, SCH_POLp_CFG.AWARE],
   [SCH_POLp_CIR.RATE]] ++
  [[SCH_POLp_PIR.RATE],
   [SCH_POLp_CBS.BYTES],
   [SCH_POLp_PBS.BYTES],
   [SCH_POLp_YELLOW.COUNT],
   [SCH_POLp_RED.COUNT]]

/-- The registers of block CPU, each as the list of its fields. -/
def regRowsCPU : List (List Fld) :=
  [[CPU_cnt_LO.COUNT],
   [CPU_cnt_HI.COUNT],
   [CPU_CLk_CFG.PROT, CPU_CLk_CFG.DL_US, CPU_CLk_CFG.DL_ACT, CPU_CLk_CFG.RETIRE_POLICY],
   [CPU_CLk_STATUS.STATE, CPU_CLk_STATUS.SPARE, CPU_CLk_STATUS.MAP],
   [CPU_CLk_CTRL.CORE, CPU_CLk_CTRL.RESTORE, CPU_CLk_CTRL.RESTART, CPU_CLk_CTRL.RETIRE, CPU_CLk_CTRL.RELOAD],
   [CPU_CLk_TXBASE_LO.BASE],
   [CPU_CLk_TXBASE_HI.BASE],
   [CPU_CLk_TXCFG.TS_CHAN, CPU_CLk_TXCFG.LOG2],
   [CPU_CLk_TXTAIL.TAIL],
   [CPU_CLk_COREc_STATUS.CSTATE, CPU_CLk_COREc_STATUS.LOGICAL, CPU_CLk_COREc_STATUS.FCODE, CPU_CLk_COREc_STATUS.FTHREAD, CPU_CLk_COREc_STATUS.PARKED, CPU_CLk_COREc_STATUS.WAITING],
   [CPU_CLk_COREc_FPC_LO.PC],
   [CPU_CLk_COREc_FPC_HI.PC],
   [CPU_CHch_CFG.VALID, CPU_CHch_CFG.LOCAL, CPU_CHch_CFG.CLUSTER, CPU_CHch_CFG.LCORE, CPU_CHch_CFG.HOLD_US, CPU_CHch_CFG.DEPTH],
   [CPU_CHch_STATUS.BUSY, CPU_CHch_STATUS.HELD, CPU_CHch_STATUS.HOLDER, CPU_CHch_STATUS.COUNT],
   [CPU_CHch_ABORT.BUSY_SEEN, CPU_CHch_ABORT.ABORTS],
   [CPU_CHch_RESV.CODE],
   [CPU_CHch_POP.POP],
   [CPU_CHch_WRw.WORD],
   [CPU_CHch_RDw.WORD]]

/-- The registers of block DMA, each as the list of its fields. -/
def regRowsDMA : List (List Fld) :=
  [[DMA_cnt_LO.COUNT],
   [DMA_cnt_HI.COUNT],
   [DMA_CHn_DESC_LO.DESC],
   [DMA_CHn_DESC_HI.DESC],
   [DMA_CHn_CTRL.ABORT, DMA_CHn_CTRL.PAUSE, DMA_CHn_CTRL.START],
   [DMA_CHn_STATUS.STATE, DMA_CHn_STATUS.MISM, DMA_CHn_STATUS.ERR, DMA_CHn_STATUS.OWNER],
   [DMA_CHn_CUR_LO.ADDR],
   [DMA_CHn_CUR_HI.ADDR],
   [DMA_CHn_SRC_CUR_LO.ADDR],
   [DMA_CHn_SRC_CUR_HI.ADDR],
   [DMA_CHn_DST_CUR_LO.ADDR],
   [DMA_CHn_DST_CUR_HI.ADDR],
   [DMA_CHn_REMAIN.BYTES],
   [DMA_CHn_MISMATCH.OFFSET]]

/-- The registers of block MEM, each as the list of its fields. -/
def regRowsMEM : List (List Fld) :=
  [[MEM_CLc_STATUS.TRAINED, MEM_CLc_STATUS.MULT4, MEM_CLc_STATUS.IN_SR, MEM_CLc_STATUS.CHANNELS, MEM_CLc_STATUS.SEG_USE, MEM_CLc_STATUS.SEG_MASKED, MEM_CLc_STATUS.GIB],
   [MEM_CFG.AUTO_REPAIR, MEM_CFG.SCRUB_H, MEM_CFG.CE_REPAIR, MEM_CFG.REPAIR_WAIT_MS],
   [MEM_ALN.SIZE, MEM_ALN.BASE],
   [MEM_SR.SEG_KEEP, MEM_SR.IDLE_US],
   [MEM_RD.THR_NS, MEM_RD.ALN_ACT_NS, MEM_RD.TRACK_THRESH],
   [MEM_THROTTLE.REQ],
   [MEM_TRAIN.DEADLINE_MS, MEM_TRAIN.RETRAIN_MS],
   [MEM_TRAIN_CMD.GO, MEM_TRAIN_CMD.CLASS, MEM_TRAIN_CMD.CHANNEL],
   [MEM_ECC_LO.ENTRY],
   [MEM_ECC_HI.ENTRY],
   [MEM_REPAIR_ADDR_LO.OFFSET],
   [MEM_REPAIR_ADDR_HI.OFFSET],
   [MEM_REPAIR_CMD.STATE, MEM_REPAIR_CMD.LOG_USED, MEM_REPAIR_CMD.GO, MEM_REPAIR_CMD.MODE, MEM_REPAIR_CMD.CLASS],
   [MEM_TEST_BASE_LO.BYTES],
   [MEM_TEST_BASE_HI.BYTES],
   [MEM_TEST_LEN_LO.BYTES],
   [MEM_TEST_LEN_HI.BYTES],
   [MEM_TEST.STATE, MEM_TEST.ABORT, MEM_TEST.GO],
   [MEM_TEMPd.DEGC],
   [MEM_cnt_LO.COUNT]] ++
  [[MEM_cnt_HI.COUNT],
   [MEM_MRAM_ADDR.OFFSET],
   [MEM_MRAM_DATA_LO.DATA],
   [MEM_MRAM_DATA_HI.DATA]]

/-- The registers of block BOOT, each as the list of its fields. -/
def regRowsBOOT : List (List Fld) :=
  [[BOOT_STATUS.ROM_LOCKED, BOOT_STATUS.FALLBACK, BOOT_STATUS.RECOVERY, BOOT_STATUS.RB_EN, BOOT_STATUS.KEY_SET, BOOT_STATUS.OCTAL, BOOT_STATUS.RUN_SLOT, BOOT_STATUS.FLOOR_USED],
   [BOOT_RUN_SEQ.SEQ],
   [BOOT_SLOTn_STATUS.VALID, BOOT_SLOTn_STATUS.REASON],
   [BOOT_SLOTn_SEQ.SEQ],
   [BOOT_FLOOR.FLOOR],
   [BOOT_FLOOR_NEW.VALUE],
   [BOOT_FLOOR_CMD.STATE, BOOT_FLOOR_CMD.GO],
   [BOOT_CTRL.REBOOT_ALT, BOOT_CTRL.REBOOT],
   [BOOT_UPD_STATUS.PHASE, BOOT_UPD_STATUS.HELD, BOOT_UPD_STATUS.SLOT, BOOT_UPD_STATUS.REASON],
   [BOOT_UPD_PROGRESS.SECTORS, BOOT_UPD_PROGRESS.MIB],
   [BOOT_CFG_SEQ.SEQ],
   [BOOT_CFG_COPY_LO.BASE],
   [BOOT_CFG_COPY_HI.BASE],
   [BOOT_CFG_LEN.BYTES],
   [BOOT_PARTp_STATUS.PSTATE, BOOT_PARTp_STATUS.CLUSTER, BOOT_PARTp_STATUS.PROT, BOOT_PARTp_STATUS.SWAPPED],
   [BOOT_PARTp_CTRL.ACTIVATE]]

/-- The registers of block CAL, each as the list of its fields. -/
def regRowsCAL : List (List Fld) :=
  [[CAL_CHAINk.CHAIN],
   [CAL_OVF_EVTk.EN],
   [CAL_OVFk.OVF],
   [CAL_FCj_SEL.SAMPLE_EN, CAL_FCj_SEL.ADDR_EN, CAL_FCj_SEL.REQ_EN, CAL_FCj_SEL.TC_EN, CAL_FCj_SEL.PRIV_EN, CAL_FCj_SEL.PRIV, CAL_FCj_SEL.TC, CAL_FCj_SEL.EVENT],
   [CAL_FCj_REQ.REQ],
   [CAL_FCj_BASE_LO.ADDR],
   [CAL_FCj_BASE_HI.ADDR],
   [CAL_FCj_LIMIT_LO.ADDR],
   [CAL_FCj_LIMIT_HI.ADDR],
   [CAL_FCj_PERIOD.PERIOD],
   [CAL_HUu_CFG.PROBE, CAL_HUu_CFG.MODE, CAL_HUu_CFG.ANY, CAL_HUu_CFG.INDEX],
   [CAL_HUu_UNIT.NS],
   [CAL_HUu_CTRL.FREEZE, CAL_HUu_CTRL.CLEAR],
   [CAL_HUu_MAX.VALUE],
   [CAL_HUu_MISSED.VALUE],
   [CAL_CNTe_LO.COUNT],
   [CAL_CNTe_HI.COUNT],
   [CAL_HUu_BINi_LO.COUNT],
   [CAL_HUu_BINi_HI.COUNT]]

/-- The registers of block HIF, each as the list of its fields. -/
def regRowsHIF : List (List Fld) :=
  [[HIF_LINK_STATUS.LTSSM, HIF_LINK_STATUS.REVERSED, HIF_LINK_STATUS.EQ_DONE, HIF_LINK_STATUS.RATE, HIF_LINK_STATUS.WIDTH],
   [HIF_LINK_CFG.MAX_WIDTH, HIF_LINK_CFG.MAX_RATE],
   [HIF_LINK_CMD.RETRAIN],
   [HIF_PF_VFS.PF4, HIF_PF_VFS.PF3, HIF_PF_VFS.PF2, HIF_PF_VFS.PF1],
   [HIF_QUAR.QUAR_MS],
   [HIF_TAGS.QUARANTINED, HIF_TAGS.IN_USE],
   [HIF_VF_ROUTE.NEXT_BUS],
   [HIF_WAKEk.WAKE],
   [HIF_cnt_LO.COUNT],
   [HIF_cnt_HI.COUNT],
   [HIF_FNf_STATE.PRESENT, HIF_FNf_STATE.READY, HIF_FNf_STATE.BME, HIF_FNf_STATE.MSE, HIF_FNf_STATE.DSTATE, HIF_FNf_STATE.FLR_BUSY, HIF_FNf_STATE.QUIESCED, HIF_FNf_STATE.FAULT, HIF_FNf_STATE.OUT_TAGS],
   [HIF_FNf_CPL.CTO, HIF_FNf_CPL.LATE],
   [HIF_FNf_DROP.DISCARDED, HIF_FNf_DROP.UNEXP],
   [HIF_FNf_POISON.POISONED, HIF_FNf_POISON.ABORTED],
   [HIF_FNf_MSIX.FIRST, HIF_FNf_MSIX.SIZE]]

/-- The register rows of a block. -/
def Blk.rows : Blk → List (List Fld)
  | .glb => regRowsGLB
  | .pwr => regRowsPWR
  | .evt => regRowsEVT
  | .tim => regRowsTIM
  | .fpt => regRowsFPT
  | .ppl => regRowsPPL
  | .fwt => regRowsFWT
  | .svi => regRowsSVI
  | .aln => regRowsALN
  | .phe => regRowsPHE
  | .trp => regRowsTRP
  | .recd => regRowsREC
  | .qmg => regRowsQMG
  | .stg => regRowsSTG
  | .rma => regRowsRMA
  | .sch => regRowsSCH
  | .cpu => regRowsCPU
  | .dma => regRowsDMA
  | .mem => regRowsMEM
  | .boot => regRowsBOOT
  | .cal => regRowsCAL
  | .hif => regRowsHIF

/-- Does address `a` lie at an instance of the field's register? -/
def Fld.covers (f : Fld) (a : Nat) : Bool :=
  if a < f.base then false else
  let d := a - f.base
  let i := if f.s1 = 0 then 0 else d / f.s1
  let r := if f.s1 = 0 then d else d % f.s1
  let j := if f.s2 = 0 then 0 else r / f.s2
  let q := if f.s2 = 0 then r else r % f.s2
  i < f.n1 && j < f.n2 && q == 0

/-- Repeat index pair of the instance at address `a`. -/
def Fld.index (f : Fld) (a : Nat) : Nat × Nat :=
  let d := a - f.base
  let i := if f.s1 = 0 then 0 else d / f.s1
  let r := if f.s1 = 0 then d else d % f.s1
  (i, if f.s2 = 0 then 0 else r / f.s2)

/-- The block whose PF0 extent holds an address (R33). -/
def blkOfAddr (a : Nat) : Option Blk :=
  if 0x700000 ≤ a then none else
  Blk.all.foldl (fun acc b => if b.base ≤ a then some b else acc) none

/-- The fields of the register at a store key, or none where no register is assigned (R34). -/
def regFields (a : Nat) : Option (List Fld) :=
  if fnBase 0 ≤ a then
    (regRowsQMG.find? (fun row => row.any (fun f => fnBase 0 ≤ f.base && f.covers a)))
  else
    match blkOfAddr a with
    | none => none
    | some b =>
      let off := a - b.base
      if b.staged && off == 0xFF0 then some [STAGE_CTRL.ARM, STAGE_CTRL.COMMIT_NOW, STAGE_CTRL.ABORT, STAGE_CTRL.OPEN]
      else if b.staged && off == 0xFF4 then
        some [STAGE_STATUS.COMMITS, STAGE_STATUS.OWNER, STAGE_STATUS.DETAIL, STAGE_STATUS.RESULT, STAGE_STATUS.STATE]
      else if b.staged && off == 0xFF8 then some [COMMIT_MARK.VIEW, COMMIT_MARK.TIMEOUT, COMMIT_MARK.MARK]
      else b.rows.find? (fun row => row.any (fun f => f.covers a))

/-- Registers whose stated reset value is not 0 (R10), with that value. -/
def resetRows : List (Fld × BitVec 32) :=
  [
   (GLB_ID.PART, 0x51281CE7#32),
   (GLB_STEPPING.LETTER, 0x10#32),
   (TIM_STATUS.STEPS, 0x8003#32),
   (HIF_QUAR.QUAR_MS, 0x3E8#32),
   (CPU_CLk_STATUS.STATE, 0x4688#32),
   (CPU_CLk_COREc_STATUS.CSTATE, 0xF0#32),
   (CPU_CHch_STATUS.BUSY, 0x3FC00000#32),
   (DMA_CHn_STATUS.STATE, 0xFF#32)]

/-- The binding bits of the registers of queues 0 to 319, which are bound for good: KIND, CLASS and PORT (R349). -/
def fixedQueueBits (a : Nat) : Nat :=
  if 0x460000 ≤ a && a < 0x460000 + 0x20 * 320 && a % 0x20 == 0 then 3 * 2 ^ 30 + 7 * 2 ^ 16 + 63 * 2 ^ 8 else 0

/-- The value an unlisted register holds: its stated reset value (R10). The MSI-X tables of every function are kept at
`fnBase f + 0xF0000`; each Vector Control word resets to 1 (masked), as the PCI Express base specification has it (PRESUMED, log 13).
The die identifier GLB_UID is a free value (log 6). -/
def resetOf (a : Nat) : BitVec 32 :=
  if fnBase 0 ≤ a then
    (if 0xF0000 ≤ (a - fnBase 0) % 0x100000 && (a - fnBase 0) % 0x100000 < 0xF8000 && a % 16 == 12 then 1#32 else 0#32) else
  if fixedQueueBits a != 0 then BitVec.ofNat 32 (2 ^ 30 + (a - 0x460000) / 32 % 8 * 2 ^ 16 + (a - 0x460000) / 256 * 2 ^ 8) else
  if a = 8 then BitVec.ofNat 32 Config.uid else if a = 12 then BitVec.ofNat 32 (Config.uid / 2 ^ 32) else
  match resetRows.find? (fun p => p.1.covers a) with
  | some p => p.2
  | none => 0#32

/-- The _LO registers of R36; the matching _HI register is the next word. The three GTC registers follow R48 instead. -/
def splitLo : List Fld :=
  [GLB_UID_LO.UID, TIM_FREQ_ADJ_LO.ADJ, FPT_PORTn_MAC_LO.MAC, PPL_PORTn_cnt_LO.COUNT, PPL_TRAPr_BASE_LO.BASE, FWT_L2_cnt_LO.COUNT, FWT_Tt_cnt_LO.COUNT, FWT_VLANv_LO.MEMBERS, SVI_cnt_LO.COUNT, SVI_NOSUB_LO.KEY, SVI_KEYk_NEXT_FROM_LO.SEC, ALN_cnt_LO.COUNT] ++
  [ALN_BAYb_SEALED_LO.N, PHE_TBL_BASE_LO.BASE, PHE_HIST_BASE_LO.BASE, PHE_cnt_LO.COUNT, TRP_cnt_LO.COUNT, TRP_GRING_BASE_LO.BASE, REC_SEQ_LO.SEQ, REC_cnt_LO.COUNT, REC_BAYb_BASE_LO.BASE, REC_BAYb_WPOS_LO.WPOS, HIF_cnt_LO.COUNT, QMG_cnt_LO.COUNT] ++
  [QMG_ADM_BASE_LO.BASE, STG_NSs_BASE_LO.BLOCKS, STG_NSs_SIZE_LO.BLOCKS, RMA_BS_BASE_LO.BASE, RMA_cnt_LO.COUNT, RMA_MIR_BASE_LO.BASE, SCH_cnt_LO.COUNT, CPU_cnt_LO.COUNT, CPU_CLk_TXBASE_LO.BASE, CPU_CLk_COREc_FPC_LO.PC, DMA_cnt_LO.COUNT, DMA_CHn_DESC_LO.DESC] ++
  [DMA_CHn_CUR_LO.ADDR, DMA_CHn_SRC_CUR_LO.ADDR, DMA_CHn_DST_CUR_LO.ADDR, MEM_ECC_LO.ENTRY, MEM_REPAIR_ADDR_LO.OFFSET, MEM_TEST_BASE_LO.BYTES, MEM_TEST_LEN_LO.BYTES, MEM_cnt_LO.COUNT, MEM_MRAM_DATA_LO.DATA, BOOT_CFG_COPY_LO.BASE, CAL_FCj_BASE_LO.ADDR, CAL_FCj_LIMIT_LO.ADDR] ++
  [CAL_CNTe_LO.COUNT, CAL_HUu_BINi_LO.COUNT, EVT_JSEQ_LO.JSEQ, EVT_cnt_LO.COUNT, PWR_cnt_LO.COUNT, REC_CMD_TIME_SEC_LO.T, FPT_STATn_MAC_LO.COUNT, FPT_XSTATs_MAC_LO.COUNT, FPT_STATn_LRE_LO.COUNT, FPT_XSTATs_LRE_LO.COUNT, FPT_STATn_HSR_LO.COUNT, FPT_XSTATs_HSR_LO.COUNT]

/-- Is the register at `a` a _LO register of R36? -/
def isLo (a : Nat) : Bool := splitLo.any (fun f => f.covers a)

/-- Is the register at `a` a _HI register of R36? -/
def isHi (a : Nat) : Bool := 4 ≤ a && isLo (a - 4)

end Sys2Proof.Machine
end

