-- ==== Sys2Proof/Machine/State.lean ====
section
/-!
DEFINITION. The state of the device: every register in one store, every table bank and memory, what each block holds beyond its
registers, the queue of waiting commands, and the state right after reset.
-/
namespace Sys2Proof.Machine

/-- Why the machine stops with a fault. No command of this block ends so: what the spec calls refused, discarded or ignored is
a next state. The type has no constructor, which says exactly that. Safe. -/
inductive Fault where
  deriving DecidableEq, Repr

/-- Why a command has no meaning. -/
inductive Refusal where
  /-- The dispatch of a row that has no meaning yet; the row's mnemonic. Safe: nothing can be proved of such a step. -/
  | notModelled (mnemonic : String)
  deriving DecidableEq, Repr

/-- What an MRAM byte that nothing has written reads as: the journal region ships at 0xFF (R455); elsewhere the spec states no
value, and the model has 0 (DESIGN CHOICE, log 3). -/
def mramShip (a : Nat) : Byte := if a < 0x100000 then 0xFF#8 else 0#8

/-- The state. -/
structure State where
  /-- Commands waiting, first in, first out. -/
  pending : List Instr := []
  /-- Every register, by address (RegMap); unlisted ones hold their stated reset value (R10). -/
  regs : Tab Word := []
  /-- GTC ticks since the device was powered; the model's clock (R47, R50). -/
  tick : Nat := 0
  /-- The model's own: how many free values have been drawn. -/
  free : Nat := 0
  /-- The model's own: what the last register read returned. -/
  reply : Nat := 0
  /-- The model's own: what the device has given out, newest first. -/
  sent : List Out := []
  /-- Read and write holding registers for each requester (R36). -/
  rdHold : Tab Hold := []
  wrHold : Tab Hold := []
  /-- Indirect tables (R45): key = window × 2^24 + word index; live and shadow banks. -/
  winLive : Tab Word := []
  winShadow : Tab Word := []
  /-- The partly written entry and the read copy of each window (R46). -/
  winWr : Tab WinCopy := []
  winRd : Tab WinCopy := []
  /-- Staging windows by block number (R39) and the block number + 1 that reserves each mark (R40). -/
  stage : Tab StageSt := []
  markOwner : Tab Nat := []
  /-- Tick from which the Calipers counters of cycles run, and, by counter, the tick + 1 up to which the stored value stands (R430,
  R441). -/
  calFrom : Nat := 0
  calFcFrom : Tab Nat := []
  pins : Pins := {}
  evt : EvtSt := {}
  tim : TimSt := {}
  hif : HifSt := {}
  /-- Rings by global index g (R285). -/
  rings : Tab RingSt := []
  /-- MRAM bytes (R405); unlisted bytes read `mramShip`. -/
  mram : Tab Byte := []
  /-- Bytes of the real-time and bulk memory classes (R389); unlisted bytes read 0 (DESIGN CHOICE, log 3). -/
  rt : Tab Byte := []
  bulk : Tab Byte := []
  fpt : FptSt := {}
  ppl : PplSt := {}
  fwt : FwtSt := {}
  sch : SchSt := {}
  cpu : CpuSt := {}
  svi : SviSt := {}
  aln : AlnSt := {}
  phe : PheSt := {}
  trp : TrpSt := {}
  rec_ : RecSt := {}
  rma : RmaSt := {}
  stg : StgSt := {}
  dma : DmaSt := {}
  mem : MemSt := {}
  pwr : PwrSt := {}
  boot : BootSt := {}
  deriving DecidableEq, Repr

/-- The device right after reset. -/
def State.reset : State := {}

end Sys2Proof.Machine
end

