-- ==== Sys2Proof/Machine/Ops.lean ====
section
/-!
DEFINITION. The named operations of the model over registers, the clock, counters, Calipers, events and MSI-X.
-/
namespace Sys2Proof.Machine

/-- A next state: every meaning of this model ends in one. -/
abbrev ok (s : State) : Host.Outcome State Fault Refusal := .next s

/-! ## Registers -/

/-- The word a register holds. -/
def State.reg (s : State) (a : Nat) : Word := cellGet resetOf s.regs a

/-- Set a register's word. -/
def State.setReg (s : State) (a : Nat) (v : Word) : State := { s with regs := cellSet resetOf s.regs a v }

/-- The value of a field, instance `(i, j)`. -/
def State.rd (s : State) (f : Fld) (i : Nat := 0) (j : Nat := 0) : Nat := bitsOf (s.reg (f.addr i j)).toNat f.lo f.w

/-- `w` with the field `f` replaced by `v` modulo its width. -/
def Fld.put (f : Fld) (w : Word) (v : Nat) : Word :=
  BitVec.ofNat 32 (w.toNat - bitsOf w.toNat f.lo f.w * 2 ^ f.lo + v % 2 ^ f.w * 2 ^ f.lo)

/-- Has the field an instance `(i, j)`? The staging registers have one for each block base (R39). -/
def Fld.fits (f : Fld) (i j : Nat) : Bool := (f.n1 == 0 || decide (i < f.n1)) && decide (j < f.n2)

/-- Set a field, instance `(i, j)`; one that does not exist holds nothing. -/
def State.wr (s : State) (f : Fld) (v : Nat) (i : Nat := 0) (j : Nat := 0) : State :=
  if f.fits i j then s.setReg (f.addr i j) (f.put (s.reg (f.addr i j)) v) else s

/-- Set the whole word of the register that holds a field, instance `(i, j)`. -/
def State.setWord (s : State) (f : Fld) (v : Word) (i : Nat := 0) (j : Nat := 0) : State :=
  if f.fits i j then s.setReg (f.addr i j) v else s

/-- Every register whose key meets `p` returns to its reset value. -/
def State.dropRegs (s : State) (p : Nat → Bool) : State := { s with regs := cellDrop p s.regs }

/-- Is a field not 0? -/
def State.on (s : State) (f : Fld) (i : Nat := 0) (j : Nat := 0) : Bool := s.rd f i j != 0

/-- Add to a counting field that saturates at its largest value. -/
def State.bump (s : State) (f : Fld) (i : Nat := 0) (j : Nat := 0) (n : Nat := 1) : State :=
  s.wr f (satAdd f.w (s.rd f i j) n) i j

/-- The 64-bit value of a _LO/_HI pair. -/
def State.rd64 (s : State) (lo : Fld) (i : Nat := 0) (j : Nat := 0) : Nat :=
  (s.reg (lo.addr i j)).toNat + (s.reg (lo.addr i j + 4)).toNat * 2 ^ 32

/-- Set a _LO/_HI pair. -/
def State.wr64 (s : State) (lo : Fld) (v : Nat) (i : Nat := 0) (j : Nat := 0) : State :=
  if lo.fits i j then (s.setReg (lo.addr i j) (BitVec.ofNat 32 v)).setReg (lo.addr i j + 4) (BitVec.ofNat 32 (v / 2 ^ 32)) else s

/-- Add to a 64-bit counter, which wraps. -/
def State.count (s : State) (lo : Fld) (i : Nat := 0) (j : Nat := 0) (n : Nat := 1) : State :=
  s.wr64 lo ((s.rd64 lo i j + n) % 2 ^ 64) i j

/-- Bit `k` of an array of 32-bit words. -/
def State.bitAt (s : State) (f : Fld) (k : Nat) : Bool := bitOf (s.rd f (k / 32)) (k % 32)

/-- Set or clear bit `k` of an array of 32-bit words. -/
def State.setBitAt (s : State) (f : Fld) (k : Nat) (b : Bool) : State :=
  s.wr f (setBit (s.rd f (k / 32)) (k % 32) b) (k / 32)

/-- Record what the device gives out. -/
def State.out (s : State) (o : Out) : State := { s with sent := o :: s.sent }

/-- The value a register read returns. -/
def State.answer (s : State) (v : Nat) : State := { s with reply := v }

/-- Draw a fresh number for a free value. -/
def State.draw (s : State) : State := { s with free := s.free + 1 }

/-- `n` bytes whose values the spec leaves open. -/
def State.freeBytes (s : State) (n : Nat) : State × List Byte :=
  ({ s with free := s.free + n }, (List.range n).map (fun i => BitVec.ofNat 8 (Config.freeNat (s.free + i))))

/-! ## The clock -/

/-- Nanoseconds in a second. -/
def nsPerSec : Nat := 1000000000

/-- The range of the GTC: 48-bit seconds (R47). -/
def gtcRange : Nat := 2 ^ 48 * nsPerSec

/-- What is left of the offset that is being slewed out after `dt` ticks (R54). -/
def TimSt.slewed (t : TimSt) (dt : Nat) : Int :=
  let gone : Int := t.slewPpb * dt
  if 0 ≤ t.slew then max 0 (t.slew - gone) else min 0 (t.slew + gone)

/-- `dt` GTC ticks pass: the GTC and the Grain accumulators advance, and a slew runs down (R47, R50, R54, R70). -/
def State.elapse (s : State) (dt : Nat) : State :=
  { s with
    tick := s.tick + dt
    tim := { s.tim with
      gtc := if s.tim.carried then s.tim.gtc else (s.tim.gtc + dt) % gtcRange
      slew := if s.tim.carried then s.tim.slew else s.tim.slewed dt
      grains := s.tim.grains.map (fun p => (p.1, { p.2 with acc := p.2.acc + p.2.inc * dt })) } }

/-- Time passes up to tick `t`; a tick already past changes nothing. -/
def State.advanceTo (s : State) (t : Nat) : State := if t ≤ s.tick then s else s.elapse (t - s.tick)

/-- Seconds of the GTC. -/
def State.sec (s : State) : Nat := s.tim.gtc / nsPerSec

/-- Nanoseconds of the GTC. -/
def State.ns (s : State) : Nat := s.tim.gtc % nsPerSec

/-- The steps of the GTC that were taken after tick `t`. -/
def TimSt.stepsSince (m : TimSt) (t : Nat) : List Int := (m.stepLog.filter (fun p => decide (t < p.1))).map (fun p => p.2)

/-- The GTC as it was at a tick already reached (R49, R62). -/
def State.gtcAt (s : State) (t : Nat) : Int := (s.tim.gtc : Int) - ((s.tick : Int) - t) - (s.tim.stepsSince t).sum

/-- TIM_STATUS.STEPS as it was at a tick already reached. -/
def State.stepsAt (s : State) (t : Nat) : Nat := (s.rd TIM_STATUS.STEPS + 2 ^ 16 - (s.tim.stepsSince t).length) % 2 ^ 16

/-- The tick of GTC value `g`, under the present relation of the two. -/
def State.tickAt (s : State) (g : Nat) : Int := (s.tick : Int) + ((g : Int) - (s.tim.gtc : Int))

/-- The tick of the next multiple of `p` of the clock, strictly after now: the next periodic scan. -/
def State.nextScan (s : State) (p : Nat) : Nat := (s.tick / p + 1) * p

/-- The tick at which the GTC next reaches a whole multiple of `p` ns. -/
def State.nextGtc (s : State) (p : Nat) : Nat := s.tick + (p - s.tim.gtc % p)

/-- The tick at which the GTC next reaches `g`, or now when it already has. -/
def State.tickOfGtc (s : State) (g : Nat) : Nat := s.tick + (g - s.tim.gtc)

/-- A Grain instance. -/
def State.grain (s : State) (n : Nat) : GrainSt := tabGet s.tim.grains n

/-- Angle of a Grain instance: the upper 32 bits of the accumulator. -/
def GrainSt.angle (g : GrainSt) : Nat := g.acc / 2 ^ 32 % 2 ^ 32

/-- The accumulator `acc`, which holds at tick `now`, as it was at tick `t`: `inc` has been in force since the newest entry of the log. -/
def accBack : List (Nat × Nat) → (acc inc now t : Int) → Int
  | [], acc, inc, now, t => acc - inc * (now - t)
  | p :: l, acc, inc, now, t =>
    if (p.1 : Int) ≤ t then acc - inc * (now - t) else accBack l (acc - inc * (now - (p.1 : Int))) (p.2 : Int) (p.1 : Int) t

/-- The accumulator of Grain instance `n` at tick `t` (R69): the increments that were in force till then. -/
def State.accAt (s : State) (n : Nat) (t : Int) : Int := let g := s.grain n; accBack g.incLog g.acc g.inc s.tick t

/-- Cycle count of a Grain instance. -/
def GrainSt.cycle (g : GrainSt) : Nat := g.acc / 2 ^ 64 % 2 ^ 32

/-! ## Calipers (chapter 21) -/

/-- What a filter may test of an occurrence (R434). -/
structure CalAttr where
  tc : Option Nat := none
  req : Option Nat := none
  addr : Option Nat := none
  priv : Option Nat := none
  /-- the thread of a CPU event, which a sampling counter interrupts (R436). -/
  agent : Option Nat := none

/-- Add occurrences to counter `e`, with what a wrap does (R430, R435); also the counters whose wrap raises source 480. `fuel`
bounds the chain. -/
def State.calBump (s : State) (fuel e n : Nat) : State × List Nat :=
  match fuel with
  | 0 => (s, [])
  | fuel + 1 =>
    let v := s.rd64 CAL_CNTe_LO.COUNT e
    let s' := s.wr64 CAL_CNTe_LO.COUNT ((v + n) % 2 ^ 48) e
    if v + n < 2 ^ 48 then (s', []) else
    let hit := s.bitAt CAL_OVF_EVTk.EN e
    let s' := if hit then s'.setBitAt CAL_OVFk.OVF e true else s'
    let p := if e < 1535 && s.bitAt CAL_CHAINk.CHAIN e then s'.calBump fuel (e + 1) ((v + n) / 2 ^ 48) else (s', [])
    (p.1, if hit then e :: p.2 else p.2)

/-- Is counter `e` fed by a chained wrap instead of its own event (R435)? -/
def State.calFed (s : State) (e : Nat) : Bool := e != 0 && s.bitAt CAL_CHAINk.CHAIN (e - 1)

/-- Does every enabled filter of filtered counter `j` hold (R434)? -/
def State.calMatch (s : State) (j : Nat) (a : CalAttr) : Bool :=
  (!s.on CAL_FCj_SEL.TC_EN j || (match a.tc with | some c => bitOf (s.rd CAL_FCj_SEL.TC j) c | none => false)) &&
  (!s.on CAL_FCj_SEL.REQ_EN j || (a.req == some (s.rd CAL_FCj_REQ.REQ j))) &&
  (!s.on CAL_FCj_SEL.PRIV_EN j || (match a.priv with | some p => bitOf (s.rd CAL_FCj_SEL.PRIV j) p | none => false)) &&
  (!s.on CAL_FCj_SEL.ADDR_EN j || (match a.addr with
    | some x => s.rd64 CAL_FCj_BASE_LO.ADDR j ≤ x && x ≤ s.rd64 CAL_FCj_LIMIT_LO.ADDR j | none => false))

/-! ## Events: raising (chapter 22) -/

/-- The sources that raise at most once in 100 ms for each instance, as the owning chapters list them (R448). -/
def limitedSource (n : Nat) : Bool :=
  [3, 497, 12, 13, 15, 168, 169, 170, 179, 180, 181, 182, 183, 225, 226, 227, 228, 229, 230, 232, 233, 240, 241, 242, 243, 244,
   245, 291, 292, 293, 294, 295, 296, 297, 306, 307, 308, 309, 316, 321, 324, 339, 343, 346, 353, 356, 358, 361, 384, 385,
   386, 387, 433, 434, 448, 452, 456, 458, 460, 480, 481, 482].contains n ||
  (48 ≤ n && n < 144 && (n - 48) % 4 == 2) || (144 ≤ n && n < 160 && (n - 144) % 4 == 2) ||
  (193 ≤ n && n < 224) ||
  (256 ≤ n && n < 288 && n != 257 && n != 259 && n != 260 && n != 263)

/-- The instance of a record for rate limiting: its first item (R447). Items of different sizes name different kinds of thing.
Source 460 raises at most once per 100 ms whatever its offset (R407). -/
def instanceOf (src : Nat) (items : List Item) : Nat := if src = 460 then 0 else match items with | [] => 0 | x :: _ => x.val + x.bits * 2 ^ 64

/-- The record of a cause detected now (R68, R445). In Standby the GTC stands at its value of the entry, and a record carries that
(DESIGN CHOICE, log 70). -/
def State.mkRec (s : State) (src : Nat) (items : List Item) (grain : Option Nat) : EvRec :=
  let r : EvRec := { src := src, steps := s.rd TIM_STATUS.STEPS, gtc := s.tim.gtc, tick := s.tick,
                     quality := s.rd TIM_STATUS.QUALITY, items := items }
  match grain with
  | some n => { r with grainV := true, inst := n, angle := (s.grain n).angle, cycle := (s.grain n).cycle }
  | none => r

/-- Hand a record to the event unit's hold (R447). -/
def State.holdRec (s : State) (r : EvRec) : State :=
  { (s.count EVT_cnt_LO.COUNT 0) with evt := { s.evt with held := s.evt.held ++ [r] } }

/-- 100 ms in ticks, the rate-limit window of R448. -/
def rateTicks : Nat := 100000000

/-- Raise an event source with its items, under the rate limit of R448. `at_` names the instance where the owning chapter limits by
something that is not the first item. -/
def State.raise (s : State) (src : Nat) (items : List Item := []) (grain : Option Nat := none) (at_ : Option Nat := none) : State :=
  let key := at_.getD (instanceOf src items)
  if limitedSource src then
    match s.evt.wins.find? (fun w => w.src == src && w.inst == key) with
    | some _ =>
      let s := (s.count EVT_cnt_LO.COUNT 2).bump EVT_SRCs_CTL.SUPPRESSED src
      let s := (s.calBump 1536 97 1).1
      { s with evt := { s.evt with wins := s.evt.wins.map (fun w =>
          if w.src == src && w.inst == key then { w with count := w.count + 1, last := items } else w) } }
    | none =>
      let s := s.holdRec (s.mkRec src items grain)
      { s with evt := { s.evt with wins := s.evt.wins ++
          [{ src := src, inst := key, endTick := s.tick + rateTicks, count := 0, last := items }] } }
  else s.holdRec (s.mkRec src items grain)

/-- An 8-bit item. -/
def i8 (v : Nat) : Item := ⟨8, v⟩
/-- A 16-bit item. -/
def i16 (v : Nat) : Item := ⟨16, v⟩
/-- A 32-bit item. -/
def i32 (v : Nat) : Item := ⟨32, v⟩
/-- A 64-bit item. -/
def i64 (v : Nat) : Item := ⟨64, v⟩

/-! ## Calipers: counting -/

/-- The filtered counters whose selection register has been set. -/
def State.calListed (s : State) : List Nat :=
  s.regs.filterMap (fun p =>
    if CAL_FCj_SEL.EVENT.covers p.1 then some (CAL_FCj_SEL.EVENT.index p.1).1 else none)

/-- Add occurrences to counter `e`; each wrap with OVF_EVT set raises source 480 (R435, R442). -/
def State.calAdd (s : State) (e n : Nat) : State :=
  let p := s.calBump 1536 e n
  forEach p.2 (fun e s => s.raise 480 [i16 e]) p.1

/-- Filtered counter `j` counts one occurrence, and fires at PERIOD when it samples (R436). `agent` is the thread of a CPU event. -/
def State.calFilteredOne (s : State) (j n : Nat) (agent : Option Nat) : State :=
  if s.calFed (1408 + j) then s else
  if s.on CAL_FCj_SEL.SAMPLE_EN j then
    let v := s.rd64 CAL_CNTe_LO.COUNT (1408 + j) + n
    if v < s.rd CAL_FCj_PERIOD.PERIOD j then s.wr64 CAL_CNTe_LO.COUNT v (1408 + j)
    else
      let s := (s.wr64 CAL_CNTe_LO.COUNT 0 (1408 + j)).calAdd 1312 1
      match agent with
      | some a => s.out (.threadIrq a)
      | none => s.raise 481 [i16 (1408 + j)]
  else s.calAdd (1408 + j) n

/-- Fixed event `e` occurs `n` times (R431), in its counter and in every filtered counter that selects it. -/
def State.cal (s : State) (e : Nat) (n : Nat := 1) (a : CalAttr := {}) : State :=
  let s := if s.calFed e then s else s.calAdd e n
  forEach (s.calListed.filter (fun j => s.rd CAL_FCj_SEL.EVENT j == e && s.calMatch j a))
    (fun j s => s.calFilteredOne j n a.agent) s

/-- A frame whose event `e` is counted already is given class `c`: it counts in the filtered counters that test the class (R114, R434). -/
def State.calClass (s : State) (e c : Nat) : State :=
  forEach (s.calListed.filter (fun j => s.rd CAL_FCj_SEL.EVENT j == e && s.on CAL_FCj_SEL.TC_EN j && s.calMatch j { tc := some c }))
    (fun j s => s.calFilteredOne j 1 none) s

/-- Count an access in GLB_BAD_ACCESS (R34, R35), which is event 2 (R431). -/
def State.bad (s : State) : State := (s.bump GLB_BAD_ACCESS.COUNT).cal 2

/-! ## TLPs (R283's counters, events 1,360 and 1,361 of R431) -/

/-- A TLP for function `f` is received. -/
def State.tlpIn (s : State) (f : Nat) : State := (s.count HIF_cnt_LO.COUNT 0).cal 1360 1 { req := some f }

/-- A TLP of function `f` is sent. -/
def State.tlpOut (s : State) (f : Nat) (o : Out) : State := ((s.out o).count HIF_cnt_LO.COUNT 1).cal 1361 1 { req := some f }

/-! ## AER reports and refused memory requests (R278, R282) -/

/-- The message of an error, by the default severities of the base specification (PRESUMED, log 69). -/
def AerErr.message : AerErr → ErrMsg
  | .receiver | .badTlp | .badDllp | .replayTimeout | .replayRollover | .correctedInternal | .unexpectedCompletion => .cor
  | .completionTimeout | .poisoned | .ecrc | .unsupportedRequest => .nonfatal
  | .malformed | .uncorrectableInternal => .fatal

/-- The code of an uncorrectable error in source 317: its bit in the base specification's status register (PRESUMED, log 69). -/
def AerErr.code : AerErr → Nat
  | .poisoned => 12 | .completionTimeout => 14 | .malformed => 18 | .ecrc => 19 | .unsupportedRequest => 20
  | .uncorrectableInternal => 22 | _ => 0

/-- The function that reports an error of function `f`: PF0 where `f` does not exist (R282). -/
def State.reporter (s : State) (f : Nat) : Nat := if s.on HIF_FNf_STATE.PRESENT f then f else 0

/-- An AER report of function `f`; an uncorrectable message raises source 317 (R282, R283). -/
def State.aer (s : State) (f : Nat) (err : AerErr) : State :=
  let r := s.reporter f
  let s := s.tlpOut r (.aer r err err.message)
  if err.message = .cor then s else s.raise 317 [i8 r, i8 err.code]

/-- Is a memory request to function `f` accepted: Memory Space Enable set and not in D3hot (R278, R282)? -/
def State.memOpen (s : State) (f : Nat) : Bool := s.on HIF_FNf_STATE.MSE f && s.rd HIF_FNf_STATE.DSTATE f == 0

/-- The function whose BARs a requester's accesses go through: none for a Spindle thread. -/
def reqFn (who : Nat) : Option Nat := if who = 0 then some 0 else if 256 ≤ who then some (who - 256) else none

/-- Are the memory requests of `who` Unsupported Requests now (R278)? -/
def State.shut (s : State) (who : Nat) : Bool := match reqFn who with | some f => !s.memOpen f | none => false

/-- A write of `who` that is an Unsupported Request: reported, and lost (R278, R282). -/
def State.refuseWrite (s : State) (who : Nat) : State := s.aer ((reqFn who).getD 0) .unsupportedRequest

/-- A read of `who` that is an Unsupported Request: its completion says so, and it returns nothing. -/
def State.refuseRead (s : State) (who : Nat) : State :=
  let f := (reqFn who).getD 0
  (s.refuseWrite who).tlpOut f (.urReply f)

/-! ## MSI-X (R268) -/

/-- Key of word `w` of entry `e` of function `f`'s MSI-X table. -/
def msixAddr (f e w : Nat) : Nat := fnBase f + 0xF0000 + 16 * e + 4 * w

/-- Is entry `e` of function `f` masked? -/
def State.msixMasked (s : State) (f e : Nat) : Bool := bitOf (s.reg (msixAddr f e 3)).toNat 0

/-- Key of the word of function `f`'s pending-bit array that holds entry `e`. -/
def pbaAddr (f e : Nat) : Nat := fnBase f + 0xF8000 + 4 * (e / 32)

/-- The pending bit of an entry. -/
def State.msixPending (s : State) (f e : Nat) : Bool := bitOf (s.reg (pbaAddr f e)).toNat (e % 32)

/-- Set or clear the pending bit of an entry. -/
def State.setMsixPending (s : State) (f e : Nat) (b : Bool) : State :=
  s.setReg (pbaAddr f e) (BitVec.ofNat 32 (setBit (s.reg (pbaAddr f e)).toNat (e % 32) b))

/-- May function `f` send a vector that is not masked (R268)? A function in Fault writes nothing (R300). -/
def State.msixOpen (s : State) (f : Nat) : Bool :=
  s.on HIF_FNf_STATE.BME f && s.rd HIF_FNf_STATE.DSTATE f == 0 && !s.on HIF_FNf_STATE.FAULT f

/-- Entry `e` of function `f` fires: it is sent, or its pending bit is set (R268). -/
def State.msixFire (s : State) (f e : Nat) : State :=
  if s.msixMasked f e || !s.msixOpen f then s.setMsixPending f e true
  else s.tlpOut f (.msix f e)

/-- Send every pending, unmasked vector of function `f` once the conditions of R268 clear. -/
def State.msixFlush (s : State) (f : Nat) : State :=
  if !s.msixOpen f then s else
  forEach (List.range (s.rd HIF_FNf_MSIX.SIZE f + 1)) (fun e s =>
    if s.msixPending f e && !s.msixMasked f e then (s.setMsixPending f e false).tlpOut f (.msix f e)
    else s) s

/-- The present function whose range holds a device vector (R450). -/
def State.fnOfVector (s : State) (v : Nat) : Option Nat :=
  (List.range 256).find? (fun f => s.on HIF_FNf_STATE.PRESENT f &&
    s.rd HIF_FNf_MSIX.FIRST f ≤ v && v ≤ s.rd HIF_FNf_MSIX.FIRST f + s.rd HIF_FNf_MSIX.SIZE f)

/-- Is a DMA channel other than Idle, Done or Error (R386)? -/
def State.dmaBusy (s : State) (ch : Nat) : Bool := !([0, 4, 5].contains (s.rd DMA_CHn_STATUS.STATE ch))

end Sys2Proof.Machine
end

