-- ==== Sys2Proof/Machine/Num.lean ====
section
/-!
DEFINITION. IEEE 754 binary32 numbers: reading a word as a rational and rounding a rational to a word (to nearest, ties to even).
-/
namespace Sys2Proof.Machine

/-- A power of two with an integer exponent. -/
def pow2 (e : Int) : Rat := if 0 ≤ e then ((2 ^ e.toNat : Nat) : Rat) else 1 / ((2 ^ (-e).toNat : Nat) : Rat)

/-- Is a word an infinity or a NaN? -/
def f32Special (w : Nat) : Bool := bitsOf w 23 8 == 255

/-- Is a word a NaN? -/
def f32Nan (w : Nat) : Bool := f32Special w && bitsOf w 0 23 != 0

/-- The magnitude that a finite word spells. -/
def f32Mag (w : Nat) : Rat :=
  let e := bitsOf w 23 8
  let m := bitsOf w 0 23
  if e = 0 then (m : Rat) * pow2 (-149) else ((2 ^ 23 + m : Nat) : Rat) * pow2 ((e : Int) - 150)

/-- The value of a finite binary32 word; an infinity or a NaN reads as 0 here, and callers test for them first. -/
def f32Val (w : Nat) : Rat :=
  if f32Special w then 0 else if bitOf w 31 then - f32Mag w else f32Mag w

/-- Round a non-negative rational to an integer, to nearest with ties to even. -/
def roundEven (q : Rat) : Nat :=
  let f := q.floor.toNat
  let r := q - (f : Rat)
  if r < 1 / 2 then f else if 1 / 2 < r then f + 1 else f + f % 2

/-- The exponent of the largest power of two that is at most a positive rational. -/
def expOf (q : Rat) : Int :=
  let e := (Nat.log2 q.num.toNat : Int) - (Nat.log2 q.den : Int)
  if pow2 e ≤ q then e else e - 1

/-- The binary32 word nearest a rational; a magnitude beyond the format gives an infinity. -/
def f32Of (q : Rat) : Nat :=
  if q = 0 then 0 else
  let a := if q < 0 then -q else q
  let e := max (expOf a) (-126)
  let m := roundEven (a * pow2 (23 - e))
  let b := min (((e + 126) * 2 ^ 23).toNat + m) 0x7F800000
  b + b2n (decide (q < 0)) * 2 ^ 31

/-- The exponent of the largest power of two at most the magnitude of `q`, with the value the binary32 nearest to it has. -/
def f32Round (q : Rat) : Rat := f32Val (f32Of q)

end Sys2Proof.Machine
end

