-- ==== Sys2Proof/Machine/Grain.lean ====
section
/-!
DEFINITION. The Grain tracker (R69 to R76): reference updates, loss, coasting and the once-per-cycle measurement.
-/
namespace Sys2Proof.Machine

/-- Set Grain instance `n`; the increment that a change of it ends is kept with the tick. -/
def State.setGrain (s : State) (n : Nat) (g : GrainSt) : State :=
  let was := (s.grain n).inc
  let g := if g.inc = was then g else { g with incLog := (s.tick, was) :: g.incLog }
  { s with tim := { s.tim with grains := tabSet s.tim.grains n g } }

/-- The increment for each tick of a frequency in mHz: 2^64 × f / 10^12. -/
def incOfMhz (m : Nat) : Nat := 2 ^ 64 * m / 1000000000000

/-- The frequency in Hz that an increment is. -/
def hzOfInc (i : Nat) : Rat := (i : Rat) * 1000000000 / ((2 ^ 64 : Nat) : Rat)

/-- Publish the estimate of instance `n`. -/
def State.showFreq (s : State) (n : Nat) : State := s.wr TIM_GRAINn_FREQ.HZ (f32Of (hzOfInc (s.grain n).est)) n

/-- The state code of instance `n`: 0 Off, 1 Acquiring, 2 Locked, 3 Coasting, 4 Nominal. -/
def State.gstate (s : State) (n : Nat) : Nat := s.rd TIM_GRAINn_STATUS.STATE n

/-- Enter a state; every change raises source 41 with the instance and, at a loss of reference, the time of the last valid update
(R73, R82). -/
def State.setGstate (s : State) (n v : Nat) (loss : Bool := false) : State :=
  if s.gstate n = v then s else
  let g := s.grain n
  let t := match g.lastValid with | some (_, t, _) => if loss then t else 0 | none => 0
  let s := s.wr TIM_GRAINn_STATUS.STATE v n
  let s := if v = 1 then s.setGrain n { g with goodFrom := none, badFrom := none, validSince := false }
    else s.setGrain n { g with goodFrom := none, badFrom := none }
  s.raise 41 [i8 n, i64 (t / nsPerSec), i32 (t % nsPerSec)] (some n)

/-- The loss gap in ticks (R71). -/
def State.gapTicks (s : State) (n : Nat) : Nat := 100000 * max 1 (s.rd TIM_GRAINn_LOOP.GAP n)

/-- Is the alternate enabled and valid? -/
def State.altUsable (s : State) (n : Nat) : Bool :=
  s.on TIM_GRAINn_ALT.ALT_EN n && (s.grain n).altOk && decide (s.tick ≤ (s.grain n).altTick + s.gapTicks n)

/-- The reference in use is lost (R73): the instance switches to a valid alternate, or coasts on the estimate. -/
def State.grainLost (s : State) (n : Nat) : State :=
  let s := s.wr TIM_GRAINn_STATUS.REF_OK 0 n
  if !s.on TIM_GRAINn_STATUS.ON_ALT n && s.altUsable n then
    let g := s.grain n
    let s := s.setGrain n { g with gapFrom := g.altTick }
    ((s.wr TIM_GRAINn_STATUS.ON_ALT 1 n).wr TIM_GRAINn_STATUS.REF_OK 1 n).raise 42 [i8 n] (some n)
  else
    let g := s.grain n
    let hold := s.gstate n == 2 || g.validSince
    let i := if hold then g.est else g.inc
    (s.setGrain n { g with inc := i, integ := i }).setGstate n 3 true

/-- The bounds of R70: 40 Hz, 70 Hz and 5 Hz as increments. -/
def inc40 : Nat := incOfMhz 40000
def inc70 : Nat := incOfMhz 70000
def inc5 : Nat := incOfMhz 5000

/-- The noise bandwidth of the loop in half hertz, by BW code (R70). -/
def bwHalf (c : Nat) : Nat := match c with | 0 => 1 | 1 => 2 | 3 => 10 | _ => 4

/-- A free deviation of at most `b` either way. -/
def devWithin (b x : Nat) : Int := ((x % (2 * b + 1) : Nat) : Int) - b

/-- The deviations that the device's own arithmetic may show against the loop of R70, as increments: 0.3 mHz of the estimate and 0.1 mHz
of the frequency, which leave the figures of R72 (log 22). -/
def estDev : Nat := 3 * 2 ^ 64 / 10000000000000000
def incDev : Nat := 2 ^ 64 / 10000000000000000

/-- An increment inside the bounds `lo` and `hi`. -/
def incWithin (lo hi : Nat) (x : Int) : Nat := min hi (max lo x.toNat)

/-- The loop's answer to a phase error `err`, `dt` ticks after the update before (R70): second order, type 2. With noise bandwidth B and
damping 1/√2 the proportional gain is 8B/3 a second and the integral gain 32B²/9 a second squared. The frequency is the integral term plus
the proportional one, and the estimate is the integral term, each with a free deviation of the device's arithmetic and within the bounds
of R70. -/
def State.grainLoop (s : State) (n err dt : Nat) : State :=
  let b := bwHalf (s.rd TIM_GRAINn_LOOP.BW n)
  let e := sgn 32 err * ((2 ^ 32 : Nat) : Int)
  let g := s.grain n
  let integ := incWithin inc40 inc70 (g.integ + e * (8 * b * b * dt : Nat) / ((9 * 10 ^ 18 : Nat) : Int))
  let est := incWithin inc40 inc70 (integ + devWithin estDev (Config.grainEst s.free))
  let prop := e * (4 * b : Nat) / ((3 * 10 ^ 9 : Nat) : Int)
  let inc := incWithin (max inc40 (est - inc5)) (min inc70 (est + inc5)) (integ + prop + devWithin incDev (Config.grainInc s.free))
  (s.draw.setGrain n { g with inc := inc, est := est, integ := integ }).showFreq n

/-- Ticks since the last valid update, none before the first, and no more than the loss gap. -/
def State.sinceValid (s : State) (n : Nat) : Nat :=
  match (s.grain n).lastValid with | some (t, _, _) => min (s.tick - t) (s.gapTicks n) | none => 0

/-- Is a phase error (two's complement of 32 bits) within `deg` degrees? -/
def withinDeg (e deg : Nat) : Bool := decide ((sgn 32 e).natAbs * 360 ≤ deg * 2 ^ 32)

/-- A valid update of the reference in use: the loop runs, and the lock criteria of R73 are tested. -/
def State.grainTrack (s : State) (n err : Nat) : State :=
  let g := s.grain n
  let good := withinDeg err 2
  let bad := !withinDeg err 10
  let g : GrainSt := { g with
    goodFrom := if good then some (g.goodFrom.getD g.acc) else none
    badFrom := if bad then some (g.badFrom.getD g.acc) else none
    lastValid := some (s.tick, s.tim.gtc, g.acc / 2 ^ 64), gapFrom := s.tick, validSince := true }
  let dt := s.sinceValid n
  let s := ((s.setGrain n g).wr TIM_GRAINn_STATUS.REF_OK 1 n).grainLoop n err dt
  let ran := fun (o : Option Nat) (k : Nat) => match o with | some a => decide (a + k * 2 ^ 64 ≤ g.acc) | none => false
  if s.gstate n = 1 && ran g.goodFrom 4 then s.setGstate n 2
  else if s.gstate n = 2 && ran g.badFrom 1 then s.setGstate n 1
  else s

/-- The angle of the reference ahead of the tracker at the instant of the update: the reference's fundamental angle, counted from
its positive-going zero crossing, plus OFFSET, less the tracker's own angle at that instant (R69, R70). -/
def State.aheadBy (s : State) (n ang instant : Nat) : Nat :=
  let own := s.accAt n (s.tickAt instant) / ((2 ^ 32 : Nat) : Int)
  unsgn 32 (((ang + s.rd TIM_GRAINn_OFFSET.OFFSET n : Nat) : Int) - own)

/-- Coasting or Nominal ends when a reference is valid again (R73). -/
def State.grainRegain (s : State) (n : Nat) (alt : Bool) : State :=
  (((s.wr TIM_GRAINn_STATUS.COASTING 0 n).wr TIM_GRAINn_STATUS.ON_ALT (b2n alt) n).setGstate n 1)

/-- GRAIN_REF_UPDATE (R70, R71, R73, R74): an update of the primary or of the alternate, valid or not. `ang` is the reference's
angle, `instant` the GTC value of its sample. -/
def State.grainUpdate (s : State) (n : Nat) (alt valid : Bool) (ang instant : Nat) : State :=
  let st := s.gstate n
  if st = 0 || (alt && !s.on TIM_GRAINn_ALT.ALT_EN n) then s else
  let a := s.aheadBy n ang instant
  let g := s.grain n
  let s := s.setGrain n (if alt then { g with altOk := valid, altTick := if valid then s.tick else g.altTick, altAngle := a }
    else { g with priOk := valid, priTick := if valid then s.tick else g.priTick, priAngle := a })
  let using_ := s.on TIM_GRAINn_STATUS.ON_ALT n == alt
  let err := if alt then (a + s.rd TIM_GRAINn_ALT_DELTA.DELTA n) % 2 ^ 32 else a
  if 3 ≤ st then (if valid then (s.grainRegain n alt).grainTrack n err else s)
  else if using_ then (if valid then s.grainTrack n err else s.grainLost n)
  else if !alt && valid then ((s.wr TIM_GRAINn_STATUS.ON_ALT 0 n).setGstate n 1).grainTrack n err
  else s

/-- Time passes until the cycle count of instance `n`, unwrapped, reaches `c`. -/
def State.advanceCycle (s : State) (n c : Nat) : State :=
  let g := s.grain n
  if g.inc = 0 || c * 2 ^ 64 ≤ g.acc then s else s.elapse ((c * 2 ^ 64 - g.acc + g.inc - 1) / g.inc)

/-- Cycle count of instance `n` before it is taken modulo 2^32. -/
def State.cyc (s : State) (n : Nat) : Nat := (s.grain n).acc / 2 ^ 64

/-- The cycle from which increments of a coasting instance are counted: that of the last valid update, or 0 when there was none
since it left Off. -/
def State.coastFrom (s : State) (n : Nat) : Nat := match (s.grain n).lastValid with | some (_, _, c) => c | none => 0

/-- Set COASTING and raise source 43. -/
def State.flagCoast (s : State) (n : Nat) : State :=
  if s.on TIM_GRAINn_STATUS.COASTING n then s else (s.wr TIM_GRAINn_STATUS.COASTING 1 n).raise 43 [i8 n] (some n)

/-- Reversion to nominal: the angle is continuous (R73). -/
def State.grainRevert (s : State) (n : Nat) : State :=
  let i := incOfMhz (s.rd TIM_GRAINn_CTRL.NOMINAL_MHZ n)
  ((s.setGrain n { s.grain n with inc := i, est := i, integ := i }).showFreq n).setGstate n 4

/-- GRAIN_REF_GAP (R71): the gap since the last valid update, or since entry or the commit, runs out. -/
def execGrainRefGap (n : Nat) (s : State) : Host.Outcome State Fault Refusal :=
  if 4 ≤ n || !(s.gstate n == 1 || s.gstate n == 2) then ok s else
  let s := s.advanceTo ((s.grain n).gapFrom + s.gapTicks n)
  let g := s.grain n
  let s := s.setGrain n (if s.on TIM_GRAINn_STATUS.ON_ALT n then { g with altOk := false } else { g with priOk := false })
  ok (s.grainLost n)

/-- The mean of 32-bit angle differences: of their signed distances from the newest, rounded down. -/
def meanAngle (l : List Nat) : Nat :=
  match l with
  | [] => 0
  | x :: _ =>
    let d := (l.map (fun y => sgn 32 (y + 2 ^ 32 - x))).foldl (fun a b => a + b) 0
    unsgn 32 ((x : Int) + d / (l.length : Int))

/-- GRAIN_CYCLE_WRAP (R73, R74): the cycle count increments; with primary and alternate both valid their difference is measured,
and ALT_DELTA holds the mean of 16 measurements. -/
def execGrainCycleWrap (n : Nat) (s : State) : Host.Outcome State Fault Refusal :=
  if 4 ≤ n || s.gstate n = 0 then ok s else
  let s := if s.cyc n ≤ (s.grain n).wrapCycle then s.advanceCycle n (s.cyc n + 1) else s
  let g := s.grain n
  let g : GrainSt := { g with wrapCycle := g.acc / 2 ^ 64 }
  if g.priOk && s.altUsable n then
    let d := ((g.priAngle + 2 ^ 32 - g.altAngle) % 2 ^ 32 :: g.deltas).take 16
    let s := s.setGrain n { g with deltas := d }
    ok (if d.length = 16 then s.wr TIM_GRAINn_ALT_DELTA.DELTA (meanAngle d) n else s)
  else ok (s.setGrain n { g with deltas := [] })

/-- Does TIMEOUT ask for reversion together with the flag? -/
def State.revertsAtFlag (s : State) (n : Nat) : Bool :=
  s.rd TIM_GRAINn_COAST.TIMEOUT n == 1 || s.rd TIM_GRAINn_COAST.TIMEOUT n == 2

/-- GRAIN_COAST_FLAG (R73): the 2nd increment after the last valid update; with TIMEOUT 1 or 2 the reversion comes with it. -/
def execGrainCoastFlag (n : Nat) (s : State) : Host.Outcome State Fault Refusal :=
  if 4 ≤ n || s.gstate n != 3 then ok s else
  let s := (s.advanceCycle n (s.coastFrom n + 2)).flagCoast n
  ok (if s.revertsAtFlag n then s.grainRevert n else s)

/-- GRAIN_NOMINAL_REVERT (R73): the TIMEOUT-th increment, or the next one when a commit set a count that had passed. -/
def execGrainNominalRevert (n : Nat) (s : State) : Host.Outcome State Fault Refusal :=
  let k := max 2 (s.rd TIM_GRAINn_COAST.TIMEOUT n)
  if 4 ≤ n || s.gstate n != 3 || !s.on TIM_GRAINn_COAST.TIMEOUT n then ok s else
  let g := s.grain n
  let due := s.coastFrom n + k
  let t := if s.cyc n < due then due else if s.cyc n = due && g.acc % 2 ^ 64 < g.inc then due else s.cyc n + 1
  ok (((s.advanceCycle n t).flagCoast n).grainRevert n)

/-! ## Effects of a TIM commit on the instances (R73) -/

/-- ENABLE set at a commit: angle 0, cycle 0, nominal frequency, Acquiring. -/
def State.grainStart (s : State) (n : Nat) : State :=
  let i := incOfMhz (s.rd TIM_GRAINn_CTRL.NOMINAL_MHZ n)
  let s := s.setGrain n { inc := i, est := i, integ := i, gapFrom := s.tick }
  (s.showFreq n).setGstate n 1

/-- ENABLE cleared at a commit: the instance stops. Its quiet windows are shut by the commit of TIM (R80). -/
def State.grainStop (s : State) (n : Nat) : State :=
  let g := s.grain n
  let s := s.setGrain n { g with inc := 0 }
  let s := ((s.wr TIM_GRAINn_STATUS.COASTING 0 n).wr TIM_GRAINn_STATUS.ON_ALT 0 n).wr TIM_GRAINn_STATUS.REF_OK 0 n
  s.setGstate n 0

/-- REF, ALT, NOMINAL or OFFSET changed at a commit: back to the primary, Acquiring, the loss gap counted afresh. -/
def State.grainRestart (s : State) (n : Nat) : State :=
  let s := s.setGrain n { s.grain n with gapFrom := s.tick, priOk := false, altOk := false, deltas := []
                                         goodFrom := none, badFrom := none, validSince := false }
  ((s.wr TIM_GRAINn_STATUS.ON_ALT 0 n).wr TIM_GRAINn_STATUS.COASTING 0 n).setGstate n 1

end Sys2Proof.Machine
end

