-- ==== Sys2Proof/Machine/Rings.lean ====
section
/-!
DEFINITION. Shared operations over PCIe reads, rings, jobs and completions (chapters 12 and 13).
-/
namespace Sys2Proof.Machine

/-! ## Functions -/

/-- The configuration-space state of function `f`. -/
def State.cfg (s : State) (f : Nat) : FnCfg := tabGet s.hif.cfg f

/-- Set the configuration-space state of function `f`. -/
def State.setCfg (s : State) (f : Nat) (c : FnCfg) : State := { s with hif := { s.hif with cfg := tabSet s.hif.cfg f c } }

/-- TotalVFs of PF `n` (R265). -/
def State.totalVfs (s : State) (n : Nat) : Nat :=
  if n = 1 then s.rd HIF_PF_VFS.PF1 else if n = 2 then s.rd HIF_PF_VFS.PF2
  else if n = 3 then s.rd HIF_PF_VFS.PF3 else if n = 4 then s.rd HIF_PF_VFS.PF4 else 0

/-- Function index of the first VF of PF `n`: 8 plus the VFs of the PFs before it (R265). -/
def State.vfBase (s : State) (n : Nat) : Nat := 8 + ((List.range n).map s.totalVfs).sum

/-- The PF that function `f` is, or belongs to. -/
def State.pfOf (s : State) (f : Nat) : Nat :=
  if f < 8 then f
  else if f < s.vfBase 2 then 1 else if f < s.vfBase 3 then 2 else if f < s.vfBase 4 then 3 else 4

/-- The function indexes of the VFs of PF `n` that NumVFs enables. -/
def State.vfsOf (s : State) (n : Nat) : List Nat :=
  if n = 0 || !(s.cfg n).vfEnable then [] else (List.range (min (s.cfg n).numVfs (s.totalVfs n))).map (fun k => s.vfBase n + k)

/-- "Can master" of R295. -/
def State.canMaster (s : State) (f : Nat) : Bool :=
  s.on HIF_FNf_STATE.BME f && s.rd HIF_FNf_STATE.DSTATE f == 0 && s.on HIF_FNf_STATE.READY f &&
  !s.on HIF_FNf_STATE.FLR_BUSY f && !s.on HIF_FNf_STATE.FAULT f

/-- May function `f` send requests and held completions (R278, R296, R300)? -/
def State.canComplete (s : State) (f : Nat) : Bool :=
  s.on HIF_FNf_STATE.BME f && s.rd HIF_FNf_STATE.DSTATE f == 0 && !s.on HIF_FNf_STATE.FAULT f

/-- Recompute GLB_READY_FN; a change raises source 4 (R38). A function in Fault is not shown ready. VF_READY of a PF that has no enabled
VF reads 0 (DESIGN CHOICE, log 70). -/
def State.showReady (s : State) : State :=
  let up := fun f => s.on HIF_FNf_STATE.READY f && !s.on HIF_FNf_STATE.FAULT f
  let pf := ((List.range 5).map (fun n => b2n (up n) * 2 ^ n)).sum
  let vf := ((List.range 5).map (fun n => b2n (!(s.vfsOf n).isEmpty && (s.vfsOf n).all up) * 2 ^ n)).sum
  if pf = s.rd GLB_READY_FN.PF_READY && vf = s.rd GLB_READY_FN.VF_READY then s else
  let s := (s.wr GLB_READY_FN.PF_READY pf).wr GLB_READY_FN.VF_READY vf
  s.raise 4 [i32 (s.reg 0x10).toNat, i32 (s.reg 0x14).toNat]

/-! ## Reads and tags (R272 to R276) -/

/-- Tags in the tag space of function `f` (R272). -/
def State.tagSpace (s : State) (f : Nat) : Nat :=
  if (s.cfg f).tag10 then 1024 else if (s.cfg f).extTag then 256 else 32

/-- Is tag `t` of function `f` outstanding or quarantined? -/
def State.tagBusy (s : State) (f t : Nat) : Bool :=
  s.hif.reads.any (fun r => r.fn == f && r.tag == t) || s.hif.quar.any (fun q => q.1 == f && q.2.1 == t)

/-- A free tag of function `f`, while a read context is free: the lowest (DESIGN CHOICE, log 12). -/
def State.freeTag (s : State) (f : Nat) : Option Nat :=
  if 768 ≤ s.hif.reads.length + s.hif.quar.length then none
  else (List.range (s.tagSpace f)).find? (fun t => !s.tagBusy f t)

/-- Reads owed to function `f`. -/
def State.owedTo (s : State) (f : Nat) : Nat := (s.hif.reads.filter (fun r => r.fn == f)).length

/-- Publish the tag counts in HIF_TAGS and HIF_FNf_STATE.OUT_TAGS. -/
def State.showTags (s : State) (f : Nat) : State :=
  ((s.wr HIF_TAGS.IN_USE s.hif.reads.length).wr HIF_TAGS.QUARANTINED s.hif.quar.length).wr HIF_FNf_STATE.OUT_TAGS (s.owedTo f) f

/-- A tag with which function `f` may send a read now. -/
def State.openTag (s : State) (f : Nat) : Option Nat := if s.canComplete f then s.freeTag f else none

/-- Issue one read request, or leave it waiting for a tag, or until its function may send requests (R272, R278). -/
def State.issueRead (s : State) (r : ReadReq) : State :=
  match s.openTag r.fn with
  | none => { s with hif := { s.hif with waiting := s.hif.waiting ++ [r] } }
  | some t =>
    let r := { r with tag := t, issue := s.tick }
    let s := { s with hif := { s.hif with reads := s.hif.reads ++ [r] } }
    let s := s.cal 1362 1 { req := some r.fn }
    (s.tlpOut r.fn (.dmaRead r.fn t r.addr r.len)).showTags r.fn

/-- The pieces of a read of `len` bytes at `addr`: cut at `mrrs` and at every 4 KiB boundary (R272). `fuel` bounds them. -/
def splitRead (mrrs : Nat) : Nat → Nat → Nat → Nat → List (Nat × Nat × Nat)
  | 0, _, _, _ => []
  | fuel + 1, addr, len, off =>
    if len = 0 then [] else
    let n := min len (min mrrs (4096 - addr % 4096))
    (addr, n, off) :: splitRead mrrs fuel (addr + n) (len - n) (off + n)

/-- Max Read Request Size of function `f` in bytes. -/
def State.mrrsBytes (s : State) (f : Nat) : Nat := 128 * 2 ^ (s.cfg f).mrrs

/-- Issue a DMA read of `len` bytes at `addr` for purpose `why`; `off` is where it lies in its data. -/
def State.dmaRead (s : State) (f addr len : Nat) (why : Purpose) (off : Nat := 0) : State :=
  forEach (splitRead (s.mrrsBytes f) (len / 128 + len / 4096 + 2) addr len off)
    (fun p s => s.issueRead { fn := f, addr := p.1, len := p.2.1, off := p.2.2, why := why }) s

/-- A write TLP of function `f`; while its requests are stopped none goes out (R278, R300). -/
def State.dmaWrite (s : State) (f addr : Nat) (bytes : List Byte) (relaxed : Bool := false) : State :=
  if !s.canComplete f then s else s.tlpOut f (.dmaWrite f addr bytes (relaxed && (s.cfg f).relaxed))

/-- The first of the waiting reads that meets `p`, and the others in order. -/
def takeFirst (p : ReadReq → Bool) : List ReadReq → Option (ReadReq × List ReadReq)
  | [] => none
  | r :: t => if p r then some (r, t) else (takeFirst p t).map (fun x => (x.1, r :: x.2))

/-- A free tag lets the oldest waiting read whose function has one go out. -/
def State.retryWaiting (s : State) : State :=
  match takeFirst (fun r => (s.openTag r.fn).isSome) s.hif.waiting with
  | none => s
  | some (r, t) => ({ s with hif := { s.hif with waiting := t } }).issueRead r

/-- The reads that wait go out, as far as they may. -/
def State.retryAll (s : State) : State := forEach s.hif.waiting (fun _ s => s.retryWaiting) s

/-! ## Rings -/

/-- The ring record g. -/
def State.ring (s : State) (g : Nat) : RingSt := tabGet s.rings g

/-- Set the ring record g. -/
def State.setRing (s : State) (g : Nat) (r : RingSt) : State := { s with rings := tabSet s.rings g r }

/-- The global indexes of the rings that are not Absent. -/
def State.ringsPresent (s : State) : List Nat :=
  (s.regs.filterMap (fun p => if QMG_RINGg_DESC.STATE.covers p.1 then some (QMG_RINGg_DESC.STATE.index p.1).1 else none)).filter
    (fun g => s.on QMG_RINGg_DESC.STATE g)

/-- The rings of function `f`. -/
def State.ringsOf (s : State) (f : Nat) : List Nat := s.ringsPresent.filter (fun g => s.rd QMG_RINGg_DESC.FN g == f)

/-- Ring `n` of function `f`, when present. -/
def State.findRing (s : State) (f n : Nat) : Option Nat := (s.ringsOf f).find? (fun g => s.rd QMG_RINGg_DESC.RING g == n)

/-- A global index that no ring uses: the lowest (DESIGN CHOICE, log 12). -/
def State.freeRing (s : State) : Option Nat :=
  let used := s.ringsPresent
  if 16384 ≤ used.length then none else (List.range (used.length + 1)).find? (fun g => !used.contains g)

/-- Entries of ring g: 2^LOG2 (R285). -/
def State.ringSize (s : State) (g : Nat) : Nat := 2 ^ s.rd QMG_RINGg_DESC.LOG2 g

/-- Move ring g to a state (R295); every change but those between Idle and Running raises source 322. -/
def State.setRingState (s : State) (g st : Nat) : State :=
  let old := s.rd QMG_RINGg_DESC.STATE g
  if old = st then s else
  let f := s.rd QMG_RINGg_DESC.FN g
  let n := s.rd QMG_RINGg_DESC.RING g
  let s := s.wr QMG_RINGg_DESC.STATE st g
  let s := if n = 0 then s.wr QMG_ADM_STATUS.STATE st f else s
  if (old = 1 && st = 2) || (old = 2 && st = 1) then s
  else s.raise 322 [i8 f, i16 n, i16 g, i8 st]

/-- Set the consumer count of ring g, in both places that show it. -/
def State.setCons (s : State) (g v : Nat) : State :=
  let s := s.wr QMG_RINGg_CONS.CONS v g
  if s.rd QMG_RINGg_DESC.RING g = 0 then s.wr QMG_ADM_CONS.CONS v (s.rd QMG_RINGg_DESC.FN g) else s

/-- Add to counter `i` of ring g (R299). -/
def State.ringCount (s : State) (g i n : Nat) : State :=
  let r := s.ring g
  s.setRing g { r with cnt := r.cnt.set i ((r.cnt.getD i 0 + n) % 2 ^ 64) }

/-- Host address of entry `k` (a count) of ring g. -/
def State.entryAddr (s : State) (g k : Nat) : Nat := (s.ring g).base + 64 * (k % s.ringSize g)

/-- Entries submitted and not taken: (TAIL - CONS) modulo 2^32 (R291). -/
def State.ringDue (s : State) (g : Nat) : Nat := ((s.ring g).tail + 2 ^ 32 - s.rd QMG_RINGg_CONS.CONS g) % 2 ^ 32

/-- Read the entries that are due or may be prefetched and have not been read (R290). -/
def State.fetchEntries (s : State) (g : Nat) : State :=
  if s.rd QMG_RINGg_DESC.STATE g != 2 then s else
  let r := s.ring g
  let f := s.rd QMG_RINGg_DESC.FN g
  let cons := s.rd QMG_RINGg_CONS.CONS g
  let want := min (s.ringDue g + r.prefetch) (s.ringSize g)
  let have_ := (r.fetched + 2 ^ 32 - cons) % 2 ^ 32
  let have_ := if have_ ≤ s.ringSize g then have_ else 0
  let s := s.setRing g { r with fetched := (cons + max want have_) % 2 ^ 32 }
  forEach (List.range (want - have_)) (fun k s =>
    let idx := (cons + have_ + k) % 2 ^ 32
    (s.ringCount g 4 64).dmaRead f (s.entryAddr g idx) 64 (.entry g idx)) s

/-- Recount QMG_RINGS.USED. -/
def State.showRings (s : State) : State := s.wr QMG_RINGS.USED s.ringsPresent.length

/-- Does a read belong to ring g? -/
def Purpose.ofRing (g : Nat) : Purpose → Bool
  | .entry x _ => x == g
  | .frag x _ => x == g
  | .table x _ => x == g
  | _ => false

/-- Reads of ring g that are outstanding: their data is discarded, and those that wait are dropped. -/
def State.dropRingReads (s : State) (g : Nat) : State :=
  { s with hif := { s.hif with
      reads := s.hif.reads.map (fun (r : ReadReq) => if r.why.ofRing g then { r with owed := true } else r)
      waiting := s.hif.waiting.filter (fun r => !r.why.ofRing g) } }

/-- Destroy ring g (R295): held completions are discarded and counted (R296), and so is the data of its reads (DESIGN CHOICE, log 12). -/
def State.destroyRing (s : State) (g : Nat) : State :=
  let f := s.rd QMG_RINGg_DESC.FN g
  let n := (s.ring g).heldDone.length
  let s := if n = 0 then s else (s.count QMG_cnt_LO.COUNT 6 0 n).raise 325 [i8 f, i16 n]
  let s := (s.setRingState g 0).dropRingReads g
  let s := (s.setRing g {}).setCons g 0
  let u := s.boot.upd
  let off := fun (x : Option (Nat × Nat)) => match x with | some p => if p.1 = g then none else x | none => none
  let s : State := { s with boot := { s.boot with upd := { u with job := off u.job, abort := off u.abort } } }
  ((s.setWord QMG_RINGg_DESC.STATE 0#32 g).setWord QMG_RINGg_CONS.CONS 0#32 g).showRings

/-! ## Completions (R292 to R294, R296) -/

/-- The interrupt of ring g fires. -/
def State.ringSignal (s : State) (g : Nat) : State :=
  let r := s.ring g
  let s := (s.setRing g { r with unsig := 0, unsigFrom := 0 }).ringCount g 6 1
  s.msixFire (s.rd QMG_RINGg_DESC.FN g) r.vector

/-- A counted completion was written: signal after ICOUNT, or start the timer (R294). -/
def State.countCompletion (s : State) (g : Nat) : State :=
  let r := s.ring g
  if !r.ien then s else
  let r := { r with unsig := r.unsig + 1, unsigFrom := if r.unsig = 0 then s.tick else r.unsigFrom }
  let s := s.setRing g r
  if max r.icount 1 ≤ r.unsig then s.ringSignal g else s

/-- Quadword 0 and 1 of a completion (R292). -/
def completionQw (tag status detail len result : Nat) : Nat × Nat :=
  (status % 2 ^ 16 + tag % 2 ^ 16 * 2 ^ 16 + detail % 2 ^ 16 * 2 ^ 32, len % 2 ^ 32 + result % 2 ^ 32 * 2 ^ 32)

/-- Overwrite an entry with its completion: quadword 1, then quadword 0, never relaxed (R270, R292). -/
def State.writeCompletion (s : State) (g : Nat) (j : Job) (o : Nat × Nat × Nat × Nat) : State :=
  let f := s.rd QMG_RINGg_DESC.FN g
  let q := completionQw (bitsOf (j.qw.getD 0 0) 16 16) o.1 o.2.1 o.2.2.1 o.2.2.2
  let a := s.entryAddr g j.idx
  let s := (s.dmaWrite f (a + 8) (leBytes 8 q.2)).dmaWrite f a (leBytes 8 q.1)
  let s := ((s.ringCount g 1 1).count QMG_cnt_LO.COUNT 1).cal 577 1 { req := some f }
  if bitOf (j.qw.getD 0 0) 11 then s else s.countCompletion g

/-- Write a completion now, or hold it while the function cannot (R296). -/
def State.completeOrHold (s : State) (g : Nat) (j : Job) (o : Nat × Nat × Nat × Nat) : State :=
  if s.canComplete (s.rd QMG_RINGg_DESC.FN g) then s.writeCompletion g j o
  else let r := s.ring g; s.setRing g { r with heldDone := r.heldDone ++ [{ j with done := some o }] }

/-- The ended jobs at the front of a job list, and the rest: completions go out in ring order (R294). -/
def spanDone : List Job → List Job × List Job
  | [] => ([], [])
  | j :: t => if j.done.isSome then let p := spanDone t; (j :: p.1, p.2) else ([], j :: t)

/-- Complete the ended jobs at the front of ring g. -/
def State.flushPlain (s : State) (g : Nat) : State :=
  let r := s.ring g
  let p := spanDone r.jobs
  let s := s.setRing g { r with jobs := p.2 }
  forEach p.1 (fun j s => match j.done with | some o => s.completeOrHold g j o | none => s) s

/-- Has ring g no started job left? A posted buffer that nothing is being written to is not one (R297). -/
def State.ringDrained (s : State) (g : Nat) : Bool :=
  (s.ring g).jobs.all (fun j => j.posted && j.done.isNone && s.rd QMG_RINGg_DESC.TYPE g == 2)

/-- A Destroy Ring that waited for the started jobs of ring g ends: the ring is Absent and the command completes (R295, R299). -/
def State.endDestroy (s : State) (g : Nat) : State :=
  if !(s.ring g).destroying || !s.ringDrained g || s.rd QMG_RINGg_DESC.STATE g = 3 || s.rd QMG_RINGg_DESC.STATE g = 4 then s else
  let f := s.rd QMG_RINGg_DESC.FN g
  let n := s.rd QMG_RINGg_DESC.RING g
  let cons := s.rd QMG_RINGg_CONS.CONS g
  let s := s.destroyRing g
  match s.findRing f 0 with
  | none => s
  | some a =>
    let r := s.ring a
    match r.jobs.find? (fun j => j.done.isNone && bitsOf (j.qw.getD 0 0) 0 8 == 3 && bitsOf (j.qw.getD 1 0) 0 14 == n) with
    | none => s
    | some j => (s.setRing a { r with jobs := r.jobs.map (fun x => if x.idx == j.idx then { x with done := some (0, 0, cons, 0) } else x) }).flushPlain a

/-- Complete the ended jobs at the front of ring g, and end a Destroy Ring that waited for them. -/
def State.flushJobs (s : State) (g : Nat) : State := (s.flushPlain g).endDestroy g

/-- Job `idx` of ring g ends with an outcome; completions follow in ring order. -/
def State.finishJob (s : State) (g idx : Nat) (status : Nat) (detail : Nat := 0) (len : Nat := 0) (result : Nat := 0) : State :=
  let r := s.ring g
  (s.setRing g { r with jobs := r.jobs.map (fun j =>
    if j.idx == idx then { j with done := some (status, detail, len, result) } else j) }).flushJobs g

/-- Job `idx` of ring g fails by a read error: it completes out of ring order (R294, R296). -/
def State.failJob (s : State) (g idx detail : Nat) : State :=
  let r := s.ring g
  match r.jobs.find? (fun j => j.idx == idx) with
  | none => s
  | some j =>
    ((s.setRing g { r with jobs := r.jobs.filter (fun j => j.idx != idx) }).completeOrHold g j (2, detail, 0, 0)).flushJobs g

/-- Write held completions of function `f`, in the order they were held (R296). -/
def State.releaseHeld (s : State) (f : Nat) : State :=
  if !s.canComplete f then s else
  forEach (s.ringsOf f) (fun g s =>
    let r := s.ring g
    forEach r.heldDone (fun j s => match j.done with | some o => s.writeCompletion g j o | none => s)
      (s.setRing g { r with heldDone := [] })) s

/-- The first started job of ring g that has not ended. -/
def State.headJob (s : State) (g : Nat) : Option Job := (s.ring g).jobs.find? (fun j => j.done.isNone)

/-- The data read for a job, in order. -/
def Job.bytes (j : Job) : List Byte :=
  (j.data.mergeSort (fun a b => decide (a.1 ≤ b.1))).flatMap (fun p => p.2)

/-- Has everything that job `j` reads arrived? -/
def Job.ready (j : Job) : Bool := !j.indirect && j.owed == 0 && !j.cut

/-- Opcode of a job (R287). -/
def Job.opcode (j : Job) : Nat := bitsOf (j.qw.getD 0 0) 0 8

/-- The length of a job's buffer: the sum of its fragments (R288). -/
def Job.room (j : Job) : Nat := (j.frags.map (fun p => p.2)).sum

/-- Write data into fragments in order (R299); `relaxed` is the ring's hint, which the first `hdr` bytes, a header, never take (R270). -/
def State.writeFrags (s : State) (f : Nat) (relaxed : Bool) : List (Nat × Nat) → List Byte → (hdr : Nat := 0) → State
  | [], _, _ => s
  | (a, n) :: t, d, hdr =>
    if d.isEmpty then s else
    let h := min n hdr
    let s := if h = 0 then s else s.dmaWrite f a (d.take h)
    let b := (d.take n).drop h
    (if b.isEmpty then s else s.dmaWrite f (a + h) b relaxed).writeFrags f relaxed t (d.drop n) (hdr - h)

/-- Outcome of a delivery into a receive ring (R187). -/
inductive Delivery where
  | done | unavail | noBuf | short
  deriving DecidableEq, Repr

/-- Deliver `data` into the oldest posted buffer of ring `n` of function `f`, with RESULT `result`. Its first `hdr` bytes are a header,
which is never relaxed (R270). -/
def State.deliver (s : State) (f n : Nat) (data : List Byte) (result : Nat) (hdr : Nat := 0) : State × Delivery :=
  match s.findRing f n with
  | none => (s, if s.canMaster f then .noBuf else .unavail)
  | some g =>
    if !s.canMaster f then (s, .unavail) else
    match (s.ring g).jobs.find? (fun j => j.done.isNone && j.posted) with
    | none => (s, .noBuf)
    | some j =>
      if (s.ring g).destroying then (s, .noBuf)
      else if j.room < data.length then (s.finishJob g j.idx 1 0 data.length 0, .short)
      else
        let s := s.writeFrags f (s.ring g).ro j.frags data hdr
        ((s.ringCount g 5 data.length).finishJob g j.idx 0 0 data.length result, .done)

/-! ## Function fault (R300) -/

/-- A job that is cut when its function's requests stop: not ended, and no posted buffer, which has no request. -/
def Job.cuttable (j : Job) : Bool := j.done.isNone && !j.posted

/-- The requests of ring g stop: jobs that no read is owed to are cut now; the others wait for their reads. -/
def State.cutRing (s : State) (g : Nat) : State :=
  let r := s.ring g
  let gone := r.jobs.filter (fun j => j.cuttable && j.owed == 0)
  let left := (r.jobs.filter (fun j => !(j.cuttable && j.owed == 0))).map (fun j => if j.cuttable then { j with cut := true } else j)
  s.setRing g { r with jobs := left, copies := [], fetched := s.rd QMG_RINGg_CONS.CONS g, ownFrom := none
                       cutCount := r.cutCount + gone.length }

/-- Is a read one that goes on when its function may send requests again: a context fetch, which is the Tailstock link's own (R328)? -/
def Purpose.again : Purpose → Bool
  | .context _ => true
  | _ => false

/-- The requests of function `f` stop at once: no new read goes out, and the completions owed will be discarded. -/
def State.stopRequests (s : State) (f : Nat) : State :=
  { s with hif := { s.hif with
      reads := s.hif.reads.map (fun (r : ReadReq) => if r.fn == f then { r with owed := true } else r)
      waiting := s.hif.waiting.filter (fun r => !(r.fn == f) || r.why.again) } }

/-- A malformed entry or doorbell of ring g: the function halts, and its started jobs are cut as under R278. `job` is the malformed entry.
An entry that is not owned (code 6) is never written (R286). A function already in Fault writes nothing more. -/
def State.functionFault (s : State) (f g code : Nat) (job : Option Job) : State :=
  if s.on HIF_FNf_STATE.FAULT f then s else
  let n := s.rd QMG_RINGg_DESC.RING g
  let e := match job with | some j => j.idx % s.ringSize g | none => 0
  let s := s.count QMG_cnt_LO.COUNT 3
  let s := match job with
    | some j => if code = 6 then s else s.writeCompletion g j (0xFF, code, 0, 0)
    | none => s
  let s := s.stopRequests f
  let s := forEach (s.ringsOf f) (fun g s =>
    if s.rd QMG_RINGg_DESC.STATE g = 1 || s.rd QMG_RINGg_DESC.STATE g = 2 then (s.cutRing g).setRingState g 4 else s) s
  let s := ((((s.wr QMG_ADM_STATUS.FAULT 1 f).wr QMG_ADM_STATUS.CODE code f).wr QMG_ADM_STATUS.FAULT_RING n f).wr
    QMG_ADM_FAULT_IDX.INDEX e f)
  let s := (s.wr QMG_FNf_FAULT.FAULT (2 ^ 31 + code * 2 ^ 16 + n) f).wr QMG_FNf_FAULT_IDX.FAULT e f
  let s := match s.findRing f 0 with
    | some a => s.msixFire f (s.ring a).vector
    | none => s.msixFire f (s.rd QMG_ADM_CFG.VECTOR f)
  ((s.wr HIF_FNf_STATE.FAULT 1 f).showReady).raise 320 [i8 f, i16 n, i16 e, i8 code]

/-- Idle rings of a function that can master run (R295). -/
def State.kickRings (s : State) (f : Nat) : State :=
  if s.canMaster f then
    forEach (s.ringsOf f) (fun g s =>
      if s.rd QMG_RINGg_DESC.STATE g = 1 && !(s.ring g).destroying then (s.setRingState g 2).fetchEntries g else s) s
  else s

end Sys2Proof.Machine
end

