-- ==== Sys2Proof/Machine/Frames.lean ====
section
/-!
DEFINITION. Reading Ethernet frames: tags, EtherTypes, PRP trailers and HSR tags, and the CRC-32C of the forwarding tables.
A frame is its bytes from the destination address to before the FCS.
-/
namespace Sys2Proof.Machine

/-- Length on the wire, FCS included (R86). -/
def wireLen (b : List Byte) : Nat := b.length + 4

/-- Destination address. -/
def dstMac (b : List Byte) : Nat := beAt b 0 6

/-- Source address. -/
def srcMac (b : List Byte) : Nat := beAt b 6 6

/-- Is an address a group address? -/
def isGroup (m : Nat) : Bool := bitOf m 40

/-- R108: a frame is tagged when the two bytes at offset 12 are 0x8100. -/
def isTagged (b : List Byte) : Bool := beAt b 12 2 == 0x8100

/-- The type/length value (R108). -/
def typeLen (b : List Byte) : Nat := if isTagged b then beAt b 16 2 else beAt b 12 2

/-- The EtherType of R108: a length counts as 0x0000. -/
def etherType (b : List Byte) : Nat := if typeLen b < 0x600 then 0 else typeLen b

/-- VID of the tag. -/
def tagVid (b : List Byte) : Nat := beAt b 14 2 % 4096

/-- PCP of the tag. -/
def tagPcp (b : List Byte) : Nat := beAt b 14 2 / 8192

/-- Offset of the payload after the EtherType. -/
def payloadAt (b : List Byte) : Nat := if isTagged b then 18 else 14

/-- A PTP frame, EtherType 0x88F7 (R61, R63). -/
def isPtp (b : List Byte) : Bool := etherType b == 0x88F7

/-- A MAC control frame (PAUSE and PFC). -/
def isMacControl (b : List Byte) : Bool := etherType b == 0x8808

/-- The PRP trailer of IEC 62439-3: sequence number, LAN identifier and size of the frame's payload, suffix 0x88FB. None when the
frame ends in no valid trailer. -/
def rctOf (b : List Byte) : Option (Nat × Nat) :=
  let n := b.length
  if n < payloadAt b + 6 then none else
  let lan := beAt b (n - 4) 2 / 4096
  let size := beAt b (n - 4) 2 % 4096
  if beAt b (n - 2) 2 == 0x88FB && (lan == 0xA || lan == 0xB) && size == n - payloadAt b then some (beAt b (n - 6) 2, lan) else none

/-- The frame with a PRP trailer: sequence number, LAN 0xA or 0xB. -/
def addRct (b : List Byte) (seq lan : Nat) : List Byte :=
  b ++ beBytes 2 seq ++ beBytes 2 (lan * 4096 + (b.length + 6 - payloadAt b) % 4096) ++ beBytes 2 0x88FB

/-- The HSR tag of IEC 62439-3, EtherType 0x892F after the addresses (and tag): (offset, path, sequence number). -/
def hsrOf (b : List Byte) : Option (Nat × Nat × Nat) :=
  let o := if isTagged b then 16 else 12
  if beAt b o 2 == 0x892F then some (o, beAt b (o + 2) 2 / 4096, beAt b (o + 4) 2) else none

/-- The frame without its HSR tag at offset `o`. -/
def stripHsr (b : List Byte) (o : Nat) : List Byte := b.take o ++ b.drop (o + 6)

/-- The frame with an HSR tag. -/
def addHsr (b : List Byte) (seq path : Nat) : List Byte :=
  let o := if isTagged b then 16 else 12
  b.take o ++ beBytes 2 0x892F ++ beBytes 2 (path * 4096 + (b.length + 6 - o - 2) % 4096) ++ beBytes 2 seq ++ b.drop o

/-- One byte of CRC-32C, bit by bit, with the reflected polynomial 0x82F6_3B78 (R126). -/
def crcBits : Nat → BitVec 32 → BitVec 32
  | 0, c => c
  | n + 1, c => crcBits n (if c.getLsbD 0 then (c >>> 1) ^^^ 0x82F63B78#32 else c >>> 1)

/-- CRC-32C of bytes from a seed, with the final inversion (R126). -/
def crc32c (seed : BitVec 32) (b : List Byte) : BitVec 32 :=
  (b.foldl (fun c x => crcBits 8 (c ^^^ (x.setWidth 32))) seed) ^^^ 0xFFFFFFFF#32

end Sys2Proof.Machine
end

