-- ==== Sys2Proof/Machine/Scheduler.lean ====
section
/-!
DEFINITION. The scheduler (chapter 16): admission, policers, shapers, selection.
-/
namespace Sys2Proof.Machine

/-- Cells of 256 bytes that a frame takes, FCS included. -/
def cellsOf (b : List Byte) : Nat := (wireLen b + 255) / 256

/-- KIND of a queue; queues 0 to 319 are bound for good (R349); 3 is treated as 0. -/
def State.qKind (s : State) (q : Nat) : Nat :=
  if q < 320 then 1 else let k := s.rd SCH_Qq_CFG.KIND q; if k = 3 then 0 else k

/-- The scheduler port of a queue: its port, 40 for the host, or 41 for none (R349). -/
def State.qPort (s : State) (q : Nat) : Nat :=
  if q < 320 then q / 8 else if s.qKind q = 2 then 40 else if s.qKind q = 1 then s.rd SCH_Qq_CFG.PORT q else 41

/-- The class of a queue. -/
def State.qClass (s : State) (q : Nat) : Nat := if q < 320 then q % 8 else s.rd SCH_Qq_CFG.CLASS q

/-- The frames of a queue. -/
def State.schQ (s : State) (q : Nat) : List QFrame := tabGet s.sch.queues q

/-- Set the frames of a queue. -/
def State.setSchQ (s : State) (q : Nat) (l : List QFrame) : State :=
  { s with sch := { s.sch with queues := tabSet s.sch.queues q l } }

/-- The policer of a queue colours a frame of `b` bits (R355): the colour and the buckets after it. -/
def policeColour (aware : Bool) (pre tc tp b : Nat) : Nat × Nat × Nat :=
  if aware && pre ≥ 2 then (2, tc, tp)
  else if aware && pre = 1 then (if tp < b then (2, tc, tp) else (1, tc, tp - b))
  else if tp < b then (2, tc, tp)
  else if tc < b then (1, tc, tp - b)
  else (0, tc - b, tp - b)

/-- Cap of policer `p`'s committed and peak buckets in bits. -/
def State.tcCap (s : State) (p : Nat) : Nat := 8 * s.rd SCH_POLp_CBS.BYTES p
def State.tpCap (s : State) (p : Nat) : Nat := 8 * s.rd SCH_POLp_PBS.BYTES p

/-- Police a frame for queue `q`: its colour, or none when it is discarded as red. -/
def State.police (s : State) (q pre : Nat) (bits : Nat) : State × Option Nat :=
  if !s.on SCH_Qq_CFG.POL_EN q then (s, some pre) else
  let p := s.rd SCH_Qq_CFG.POLICER q
  let tc := (tabGet s.sch.tc p).getD (s.tcCap p)
  let tp := (tabGet s.sch.tp p).getD (s.tpCap p)
  let r := policeColour (s.on SCH_POLp_CFG.AWARE p) pre tc tp bits
  let s := { s with sch := { s.sch with tc := tabSet s.sch.tc p (some r.2.1), tp := tabSet s.sch.tp p (some r.2.2) } }
  let s := if r.1 = 1 then s.bump SCH_POLp_YELLOW.COUNT p else if r.1 = 2 then s.bump SCH_POLp_RED.COUNT p else s
  if r.1 = 2 && !s.on SCH_POLp_CFG.RED_ACT p then
    let at_ := tabGet s.sch.redAt p
    let quiet : Bool := at_ == 0 || decide (at_ - 1 + rateTicks ≤ s.tick)
    let s := { s with sch := { s.sch with redAt := tabSet s.sch.redAt p (s.tick + 1) } }
    let s := (s.count SCH_cnt_LO.COUNT 3)
    (if quiet then s.raise 385 [i16 p] else s, none)
  else (s, some r.1)

/-- Cells in the whole buffer. -/
def bufferCells : Nat := 131072

/-- The limit of queue `q` for a colour (R352). -/
def State.quotaFor (s : State) (q colour : Nat) : Nat :=
  let v := s.rd SCH_Qq_QUOTA.QUOTA q
  if colour = 1 then v * s.rd SCH_CFG.YELLOW_PCT / 100 else if colour = 2 then v * s.rd SCH_CFG.RED_PCT / 100 else v

/-- The buffer alarm of R354. -/
def State.bufAlarm (s : State) : State :=
  let low := (bufferCells - s.rd SCH_BUF.USED) * 100 < s.rd SCH_CFG.ALARM_PCT * bufferCells
  if low && !s.sch.alarmed then ({ s with sch := { s.sch with alarmed := true } }).raise 388
  else if (bufferCells - s.rd SCH_BUF.USED) * 100 > s.rd SCH_CFG.ALARM_PCT * bufferCells then
    { s with sch := { s.sch with alarmed := false } }
  else s

/-- Is a priority of a fabric sub-port paused towards its peer, by the scheduler or by another cause (R359)? -/
def State.pfcOff (s : State) (key : Nat) : Bool := tabGet s.sch.xoff key == 1 || tabGet s.sch.xoffElse key == 1

/-- Set the scheduler's cause and the other cause of pause of a priority: the causes are ORed, and each episode raises 389 (R359).
`key` is sub-port × 8 + priority. -/
def State.pfcTo (s : State) (key own other : Nat) : State :=
  let was := s.pfcOff key
  let s := { s with sch := { s.sch with xoff := tabSet s.sch.xoff key own, xoffElse := tabSet s.sch.xoffElse key other } }
  if s.pfcOff key == was then s else
  let s := s.out (.pfc (key / 8) (key % 8) (!was))
  if was then s else s.raise 389 [i8 (key / 8), i8 (key % 8)]

/-- Change the cells that a fabric sub-port holds at a priority, and send PFC as R359 gives. `key` is sub-port × 8 + priority. -/
def State.pfcUseTo (s : State) (key use : Nat) : State :=
  let s := { s with sch := { s.sch with pfcUse := tabSet s.sch.pfcUse key use } }
  let m := (key / 8 - 24) / 4
  if !bitOf (s.rd FPT_XPORTm_CFG.PFC_EN m) (key % 8) then s else
  let off := tabGet s.sch.xoff key = 1
  if !off && s.rd SCH_PFC.XOFF_KIB * 1024 < use * 256 then s.pfcTo key 1 (tabGet s.sch.xoffElse key)
  else if off && use * 256 < s.rd SCH_PFC.XON_KIB * 1024 then s.pfcTo key 0 (tabGet s.sch.xoffElse key)
  else s

/-- Publish the cells that a scheduler port holds; there are ports 0 to 40. -/
def State.portUse (s : State) (p v : Nat) : State := if 40 < p then s else s.wr SCH_PORTn_USE.USE v p

/-- Cells are taken by, or given back from, a queue and its port. -/
def State.addCells (s : State) (q pfc n : Nat) : State :=
  let s := ((s.wr SCH_Qq_USE.USE (s.rd SCH_Qq_USE.USE q + n) q).portUse (s.qPort q) (s.rd SCH_PORTn_USE.USE (s.qPort q) + n)).wr
    SCH_BUF.USED (s.rd SCH_BUF.USED + n)
  let s := if pfc = 0 then s else s.pfcUseTo (pfc - 1) (tabGet s.sch.pfcUse (pfc - 1) + n)
  s.bufAlarm

/-- Cells are freed when the frame's last byte has left, or its receive entry completed. -/
def State.freeCells (s : State) (q pfc n : Nat) : State :=
  let s := ((s.wr SCH_Qq_USE.USE (s.rd SCH_Qq_USE.USE q - n) q).portUse (s.qPort q) (s.rd SCH_PORTn_USE.USE (s.qPort q) - n)).wr
    SCH_BUF.USED (s.rd SCH_BUF.USED - n)
  let s := if pfc = 0 then s else s.pfcUseTo (pfc - 1) (tabGet s.sch.pfcUse (pfc - 1) - n)
  s.bufAlarm

/-- A frame to a scheduler queue is policed and admitted under the quotas, or discarded (R352). True when it was admitted. -/
def State.schEnqueue (s : State) (q : Nat) (f : QFrame) : State × Bool :=
  if 4090 < q then (s, false) else
  if s.qKind q = 0 then
    (((s.count SCH_cnt_LO.COUNT 6).bump SCH_Qq_DROP.HEAD_DROP q).raise 387 [i16 q], false)
  else
    match s.police q f.colour (8 * wireLen f.bytes) with
    | (s, none) => (s, false)
    | (s, some c) =>
      let n := cellsOf f.bytes
      if s.quotaFor q c < s.rd SCH_Qq_USE.USE q + n ||
          s.rd SCH_PORTn_QUOTA.QUOTA (s.qPort q) < s.rd SCH_PORTn_USE.USE (s.qPort q) + n ||
          bufferCells < s.rd SCH_BUF.USED + n then
        let s := ((s.count SCH_cnt_LO.COUNT 2).bump SCH_Qq_DROP.QUOTA_DROP q).cal 722 1 { tc := some f.cls }
        (s.raise 384 [i16 q], false)
      else
        let f := { f with colour := c }
        let s := (s.setSchQ q (s.schQ q ++ [f])).addCells q f.pfc n
        ((s.count SCH_cnt_LO.COUNT 0).cal 720 1 { tc := some f.cls }, true)

/-! ## Shapers (R356, R357) -/

/-- One bucket at a refill: gains RATE bits to its cap; a bucket newly in force starts full; one not in force keeps nothing. -/
def refillOne (en : Bool) (rate burst : Nat) (c : Option Int) : Option Int :=
  if !en then none else
  match c with
  | none => some (8 * burst : Nat)
  | some c => some (min (c + rate) (8 * burst : Nat))

/-- Is a shaper's node eligible: not in force, or its credit above 0? A change of EN applies at the next refill (R357). -/
def shaperOpen (c : Option Int) : Bool := match c with | some c => decide (0 < c) | none => true

/-- Sending takes tokens from a shaper in force. -/
def takeTokens (bits : Nat) (c : Option Int) : Option Int := c.map (fun c => c - bits)

/-- Every listed or enabled queue shaper, class shaper, port shaper and policer refills at once. -/
def State.refillAll (s : State) : State :=
  let ports := List.range 41
  let qs := (s.regs.filterMap (fun p => if SCH_Qq_RATE.EN.covers p.1 then some (SCH_Qq_RATE.EN.index p.1).1 else none))
  let pols := (s.regs.filterMap (fun p => if SCH_POLp_PIR.RATE.covers p.1 then some (SCH_POLp_PIR.RATE.index p.1).1 else none))
  let s := forEach ports (fun n s =>
    let v := refillOne (s.on SCH_PORTn_RATE.EN n) (s.rd SCH_PORTn_RATE.RATE n) (s.rd SCH_PORTn_BURST.BURST n) (tabGet s.sch.portCr n)
    let s := { s with sch := { s.sch with portCr := tabSet s.sch.portCr n v } }
    forEach (List.range 8) (fun c s =>
      let v := refillOne (s.on SCH_CLSn_c_RATE.EN n c) (s.rd SCH_CLSn_c_RATE.RATE n c) (s.rd SCH_CLSn_c_BURST.BURST n c)
        (tabGet s.sch.clsCr (8 * n + c))
      { s with sch := { s.sch with clsCr := tabSet s.sch.clsCr (8 * n + c) v } }) s) s
  let s := forEach qs (fun q s =>
    let v := refillOne (s.on SCH_Qq_RATE.EN q) (s.rd SCH_Qq_RATE.RATE q) (s.rd SCH_Qq_BURST.BURST q) (tabGet s.sch.qCr q)
    { s with sch := { s.sch with qCr := tabSet s.sch.qCr q v } }) s
  forEach pols (fun p s =>
    let up := fun (c : Option Nat) (gain cap : Nat) => match c with | none => some cap | some v => some (min (v + gain) cap)
    { s with sch := { s.sch with
      tc := tabSet s.sch.tc p (up (tabGet s.sch.tc p) (s.rd SCH_POLp_CIR.RATE p) (s.tcCap p))
      tp := tabSet s.sch.tp p (up (tabGet s.sch.tp p) (s.rd SCH_POLp_PIR.RATE p) (s.tpCap p)) } }) s

/-! ## Selection (R358) -/

/-- The receive ring that names queue `q` (R350). -/
def State.ringOfQueue (s : State) (q : Nat) : Option Nat :=
  s.ringsPresent.find? (fun g => s.rd QMG_RINGg_DESC.TYPE g == 2 && s.pfOf (s.rd QMG_RINGg_DESC.FN g) == 1 && (s.ring g).bind == q)

/-- A KIND 2 queue whose ring is Running but holds no device-owned entry waits (R351). -/
def State.queueWaits (s : State) (q : Nat) : Bool :=
  s.qKind q == 2 && (match s.ringOfQueue q with
    | some g => s.rd QMG_RINGg_DESC.STATE g == 2 && !(s.ring g).destroying &&
        !(s.ring g).jobs.any (fun j => j.done.isNone && j.posted)
    | none => false)

/-- Is queue `q` eligible: a head frame, shaper credit above 0, not waiting (R358)? -/
def State.queueEligible (s : State) (q : Nat) : Bool :=
  !(s.schQ q).isEmpty && shaperOpen (tabGet s.sch.qCr q) && !s.queueWaits q

/-- The eligible queues of a port's class, ascending. -/
def State.classQueues (s : State) (n c : Nat) : List Nat :=
  (s.sch.queues.map (fun p => p.1)).filter (fun q => s.qPort q == n && s.qClass q == c && s.queueEligible q)

/-- Quantum of queue `q` in bytes. A fixed queue's WEIGHT is its register's. -/
def State.qQuantum (s : State) (q : Nat) : Nat := 256 * s.rd SCH_Qq_CFG.WEIGHT q

/-- Length in bytes of the head frame of queue `q`. -/
def State.headLen (s : State) (q : Nat) : Nat := match s.schQ q with | f :: _ => wireLen f.bytes | [] => 0

/-- The element after `x` in a list taken as a circle. -/
def nextIn (l : List Nat) (x : Nat) : Nat :=
  match l.find? (fun y => decide (x < y)) with
  | some y => y
  | none => l.headD 0

/-- Deficit round robin among `l`: stay where it stands while the deficit covers the head, else go on, adding each quantum. The
result is the choice and the deficits after it. -/
def drrPick (quantum len : Nat → Nat) (l : List Nat) : Nat → Nat → Tab Nat → Nat × Tab Nat
  | 0, at_, d => (at_, d)
  | fuel + 1, at_, d =>
    if l.contains at_ && len at_ ≤ tabGet d at_ then (at_, tabSet d at_ (tabGet d at_ - len at_))
    else
      let n := nextIn l at_
      let d := tabSet d n (tabGet d n + quantum n)
      if len n ≤ tabGet d n then (n, tabSet d n (tabGet d n - len n)) else drrPick quantum len l fuel n d

/-- Is class `c` of port `n` paused by PFC (R101, R358)? -/
def State.classPaused (s : State) (n c : Nat) : Bool := 24 ≤ n && n < 40 && (tabGet s.fpt.pfc (8 * n + c)).paused

/-- The queue of class `c` of port `n` that goes next. -/
def State.pickQueue (s : State) (n c : Nat) : State × Nat :=
  let r := drrPick s.qQuantum s.headLen (s.classQueues n c) 40000 (tabGet s.sch.qAt (8 * n + c)) s.sch.qDef
  ({ s with sch := { s.sch with qDef := r.2, qAt := tabSet s.sch.qAt (8 * n + c) r.1 } }, r.1)

/-- The class that goes next at port `n`, with its eligible queues, or none. Round-robin state is advanced. -/
def State.pickClass (s : State) (n : Nat) : State × Option Nat :=
  let cs := (List.range 8).filter (fun c => !(s.classQueues n c).isEmpty && !s.classPaused n c &&
    shaperOpen (tabGet s.sch.clsCr (8 * n + c)))
  match (cs.filter (fun c => s.on SCH_CLSn_c_CFG.STRICT n c)).getLast? with
  | some c => (s, some c)
  | none =>
    if cs.isEmpty then (s, none) else
    let keys := cs.map (fun c => 8 * n + c)
    let len := fun k => s.headLen (s.pickQueue n (k % 8)).2
    let r := drrPick (fun k => 256 * s.rd SCH_CLSn_c_CFG.WEIGHT n (k % 8)) len keys 400 (tabGet s.sch.clsAt n) s.sch.clsDef
    ({ s with sch := { s.sch with clsDef := r.2, clsAt := tabSet s.sch.clsAt n r.1 } }, some (r.1 % 8))

/-- Take the head frame of queue `q`; an emptied queue's deficit resets (R358). -/
def State.popQueue (s : State) (q : Nat) : State × Option QFrame :=
  match s.schQ q with
  | [] => (s, none)
  | f :: t =>
    let s := s.setSchQ q t
    (if t.isEmpty then { s with sch := { s.sch with qDef := tabSet s.sch.qDef q 0 } } else s, some f)

/-- Sending a frame takes (length + OVH) × 8 bits from every shaper on its path (R356). -/
def State.chargeShapers (s : State) (q : Nat) (b : List Byte) : State :=
  let n := s.qPort q
  let c := s.qClass q
  let bits := 8 * (wireLen b + s.rd SCH_CFG.OVH)
  let v := takeTokens bits (tabGet s.sch.portCr n)
  let w := takeTokens bits (tabGet s.sch.clsCr (8 * n + c))
  let x := takeTokens bits (tabGet s.sch.qCr q)
  { s with sch := { s.sch with
      portCr := tabSet s.sch.portCr n v, clsCr := tabSet s.sch.clsCr (8 * n + c) w, qCr := tabSet s.sch.qCr q x } }

/-- The scheduler's choice at port `n`: a queue and its head frame, taken and charged (R358). -/
def State.schSelect (s : State) (n : Nat) : State × Option (Nat × QFrame) :=
  if !shaperOpen (tabGet s.sch.portCr n) then (s, none) else
  match s.pickClass n with
  | (s, none) => (s, none)
  | (s, some c) =>
    let p := s.pickQueue n c
    match p.1.popQueue p.2 with
    | (s, none) => (s, none)
    | (s, some f) =>
      let s := (s.chargeShapers p.2 f.bytes).count SCH_cnt_LO.COUNT 1
      (s.cal 721 1 { tc := some f.cls }, some (p.2, f))

/-- Discard a chosen head frame: LINK_DROP for a port that is not Up, NO_RING for a ring that is not Running (R351). -/
def State.headDrop (s : State) (q : Nat) (f : QFrame) (noRing : Bool) : State :=
  let s := (s.count SCH_cnt_LO.COUNT (if noRing then 5 else 4)).bump SCH_Qq_DROP.HEAD_DROP q
  (s.raise (if noRing then 386 else 387) [i16 q]).freeCells q f.pfc (cellsOf f.bytes)

/-- The host port's choice: the head frame of a KIND 2 queue goes into its ring's oldest posted buffer (R299, R351). -/
def State.hostBoundary (s : State) : State :=
  match s.schSelect 40 with
  | (s, none) => s
  | (s, some (q, f)) =>
    match s.ringOfQueue q with
    | none => s.headDrop q f true
    | some g =>
      if s.rd QMG_RINGg_DESC.STATE g != 2 then s.headDrop q f true else
      let r := s.deliver (s.rd QMG_RINGg_DESC.FN g) (s.rd QMG_RINGg_DESC.RING g) f.bytes (f.port + f.cls * 64 + f.colour * 512)
      r.1.freeCells q f.pfc (cellsOf f.bytes)

end Sys2Proof.Machine
end

