-- ==== Sys2Proof/Machine/Tables.lean ====
section
/-!
DEFINITION. The forwarding tables (chapter 6): hashing, entries, lookup, the table engine, L2 forwarding, and the table commands.
Entries are held as numbers, their bytes little-endian as R128 and R129 lay them out. Bank 0 is live, bank 1 is the shadow.
-/
namespace Sys2Proof.Machine

/-! ## Table banks -/

/-- Key of a word of window `w`. -/
def winKey (w word : Nat) : Nat := w * 2 ^ 24 + word

/-- A word of a bank of an indirect table. -/
def State.winWord (s : State) (w : Nat) (shadow : Bool) (word : Nat) : Word :=
  cellGet (fun _ => 0#32) (if shadow then s.winShadow else s.winLive) (winKey w word)

/-- Set a word of a bank. -/
def State.setWinWord (s : State) (w : Nat) (shadow : Bool) (word : Nat) (v : Word) : State :=
  if shadow then { s with winShadow := cellSet (fun _ => 0#32) s.winShadow (winKey w word) v }
  else { s with winLive := cellSet (fun _ => 0#32) s.winLive (winKey w word) v }

/-- The number that `n` words from `word` on spell, lowest word first. -/
def State.winNat (s : State) (w : Nat) (shadow : Bool) (word : Nat) : Nat → Nat
  | 0 => 0
  | n + 1 => (s.winWord w shadow word).toNat + 2 ^ 32 * s.winNat w shadow (word + 1) n

/-- Store a number in `n` words from `word` on. -/
def State.setWinNat (s : State) (w : Nat) (shadow : Bool) (word : Nat) : Nat → Nat → State
  | 0, _ => s
  | n + 1, v => (s.setWinWord w shadow word (BitVec.ofNat 32 v)).setWinNat w shadow (word + 1) n (v / 2 ^ 32)

/-- The part of a bank that belongs to window `w`, and what lies before and after it. -/
def winPart (w : Nat) (t : Tab Word) : Tab Word := t.filter (fun p => p.1 / 2 ^ 24 == w)
def winBefore (w : Nat) (t : Tab Word) : Tab Word := t.filter (fun p => decide (p.1 / 2 ^ 24 < w))
def winAfter (w : Nat) (t : Tab Word) : Tab Word := t.filter (fun p => decide (w < p.1 / 2 ^ 24))

/-- The banks of window `w` changed: a partly written entry of it is now in conflict (R46). -/
def State.touchWindow (s : State) (w : Nat) : State :=
  let c := tabGet s.winWr w
  if c.valid then { s with winWr := tabSet s.winWr w { c with changed := true } } else s

/-- Clear the shadow bank of window `w`. -/
def State.clearShadow (s : State) (w : Nat) : State := { s with winShadow := winBefore w s.winShadow ++ winAfter w s.winShadow }

/-- Exchange the live and shadow banks of window `w`. -/
def State.swapBanks (s : State) (w : Nat) : State :=
  { s with
    winLive := winBefore w s.winLive ++ winPart w s.winShadow ++ winAfter w s.winLive
    winShadow := winBefore w s.winShadow ++ winPart w s.winLive ++ winAfter w s.winShadow }

/-- Exchange the banks of window `w`, which its partly written entry sees (R46). -/
def State.swapWindow (s : State) (w : Nat) : State := (s.swapBanks w).touchWindow w

/-- Hardware changed entry `e` of window `w`: a partly written copy of it is now in conflict (R46). -/
def State.touchEntry (s : State) (w e : Nat) (shadow : Bool) : State :=
  let c := tabGet s.winWr w
  if c.valid && c.entry == e && c.shadow == shadow then { s with winWr := tabSet s.winWr w { c with changed := true } } else s

/-! ## Geometry and entries (R125, R128, R129) -/

/-- Words of an entry of table t. -/
def fwtWords (t : Nat) : Nat := if t = 0 then 4 else 8

/-- Bucket index bits of table t. -/
def fwtBits (t : Nat) : Nat := if t = 0 then 16 else 14

/-- Position of VALID, and width, of an entry of table t. -/
def fwtValidBit (t : Nat) : Nat := if t = 0 then 60 else 144
def fwtWidth (t : Nat) : Nat := 32 * fwtWords t

/-- Is VALID set? -/
def fwtValid (t v : Nat) : Bool := bitOf v (fwtValidBit t)

/-- The bits of an entry added modulo 2. -/
def parityOf : Nat → Nat → Bool
  | 0, _ => false
  | n + 1, v => xor (v % 2 == 1) (parityOf n (v / 2))

/-- Is the parity of an entry even? -/
def fwtGood (t v : Nat) : Bool := !parityOf (fwtWidth t) v

/-- An entry with its PARITY bit computed; `bad` inverts it. -/
def fwtSeal (t v : Nat) (bad : Bool) : Nat :=
  let u := v % 2 ^ (fwtWidth t - 1)
  u + b2n (xor (parityOf (fwtWidth t) u) bad) * 2 ^ (fwtWidth t - 1)

/-- The key part of an entry: what two entries with the same key share. -/
def fwtKey (t v : Nat) : Nat := if t = 0 then bitsOf v 0 60 else bitsOf v 0 134 + bitsOf v 136 6 * 2 ^ 136

/-- The key of an L2 entry: {VID, MAC}. -/
def l2Key (vid mac : Nat) : Nat := mac % 2 ^ 48 + vid % 2 ^ 12 * 2 ^ 48

/-- The key of a classification entry: key bytes, profile, port. -/
def clsKey (profile port : Nat) (key : List Byte) : Nat := leNat (key.take 16) + profile % 64 * 2 ^ 128 + port % 64 * 2 ^ 136

/-- The bytes hashed for a key (R126). -/
def fwtHashed (t k : Nat) : List Byte :=
  if t = 0 then beBytes 2 (bitsOf k 48 12) ++ beBytes 6 (bitsOf k 0 48)
  else [BitVec.ofNat 8 (bitsOf k 128 6), BitVec.ofNat 8 (bitsOf k 136 6)] ++ leBytes 16 (bitsOf k 0 128)

/-- Seed i of a bank. -/
def State.fwtSeed (s : State) (t : Nat) (shadow : Bool) (i : Nat) : Nat :=
  match shadow, i with
  | false, 0 => s.rd FWT_Tt_SEED0.SEED t
  | false, _ => s.rd FWT_Tt_SEED1.SEED t
  | true, 0 => s.rd FWT_Tt_SH_SEED0.SEED t
  | true, _ => s.rd FWT_Tt_SH_SEED1.SEED t

/-- Candidate bucket i of a key in a bank (R126). -/
def State.fwtBucket (s : State) (t : Nat) (shadow : Bool) (i k : Nat) : Nat :=
  (crc32c (BitVec.ofNat 32 (s.fwtSeed t shadow i)) (fwtHashed t k)).toNat % 2 ^ fwtBits t

/-- The four slots of a bucket. -/
def bucketSlots (b : Nat) : List Nat := [4 * b, 4 * b + 1, 4 * b + 2, 4 * b + 3]

/-- The candidate slots of a key: eight, or four when both hashes give one bucket (R126). -/
def State.fwtSlots (s : State) (t : Nat) (shadow : Bool) (k : Nat) : List Nat :=
  let a := s.fwtBucket t shadow 0 k
  let b := s.fwtBucket t shadow 1 k
  bucketSlots a ++ (if a = b then [] else bucketSlots b)

/-- An entry as stored. -/
def State.fwtEntry (s : State) (t : Nat) (shadow : Bool) (i : Nat) : Nat := s.winNat t shadow (i * fwtWords t) (fwtWords t)

/-- Store an entry, keeping USED and any held window copy right. -/
def State.fwtStore (s : State) (t : Nat) (shadow : Bool) (i v : Nat) : State :=
  let old := fwtValid t (s.fwtEntry t shadow i)
  let s := (s.setWinNat t shadow (i * fwtWords t) (fwtWords t) v).touchEntry t i shadow
  if shadow then s else
  s.wr FWT_Tt_STATUS.USED (s.rd FWT_Tt_STATUS.USED t + b2n (fwtValid t v) - b2n old) t

/-- An apply: PARITY is computed, or inverted once after INJECT (R130). -/
def State.fwtApply (s : State) (t : Nat) (shadow : Bool) (i v : Nat) : State :=
  let inj := s.on FWT_Tt_CTRL.INJECT t
  (s.fwtStore t shadow i (fwtSeal t v inj)).wr FWT_Tt_CTRL.INJECT 0 t

/-- Clear a slot: an empty slot with good parity, not an apply (R130). -/
def State.fwtClear (s : State) (t : Nat) (shadow : Bool) (i : Nat) : State := s.fwtStore t shadow i 0

/-- FWT_PERR shows the oldest address of the error FIFO. -/
def State.showPerr (s : State) : State :=
  match s.fwt.perr with
  | [] => s.setWord FWT_PERR.VALID 0#32
  | (t, b, i) :: _ => (((s.wr FWT_PERR.VALID 1).wr FWT_PERR.TABLE t).wr FWT_PERR.BANK b).wr FWT_PERR.INDEX i

/-- The engine meets a slot with bad parity (R137). -/
def State.fwtParity (s : State) (t : Nat) (shadow : Bool) (i : Nat) : State :=
  let s := ((s.fwtClear t shadow i).count FWT_Tt_cnt_LO.COUNT t 3).cal 290
  let s := if 16 ≤ s.fwt.perr.length then s.bump FWT_PERR_LOST.COUNT
    else ({ s with fwt := { s.fwt with perr := s.fwt.perr ++ [(t, b2n shadow, i)] } }).showPerr
  s.raise 179 [i8 t, i8 (b2n shadow), i32 i]

/-- Clear every slot with bad parity among `l`; true when there was one. -/
def State.fwtScrub (s : State) (t : Nat) (shadow : Bool) (l : List Nat) : State × Bool :=
  let bad := l.filter (fun i => !fwtGood t (s.fwtEntry t shadow i))
  (forEach bad (fun i s => s.fwtParity t shadow i) s, !bad.isEmpty)

/-- The slot that holds a key, parity good. -/
def State.fwtFind (s : State) (t : Nat) (shadow : Bool) (k : Nat) : Option Nat :=
  (s.fwtSlots t shadow k).find? (fun i =>
    let v := s.fwtEntry t shadow i
    fwtValid t v && fwtGood t v && fwtKey t v == k)

/-- A lookup in a bank: the slot found, and whether a slot with bad parity was met (R127). -/
def State.fwtLookup (s : State) (t : Nat) (shadow : Bool) (k : Nat) : State × Option Nat × Bool :=
  let p := s.fwtScrub t shadow (s.fwtSlots t shadow k)
  (p.1, p.1.fwtFind t shadow k, p.2)

/-! ## Insertion (R136 to R138) -/

/-- The slots an occupant of slot `i` may be moved to: its other candidate bucket. -/
def State.otherSlots (s : State) (t : Nat) (shadow : Bool) (i : Nat) : List Nat :=
  let k := fwtKey t (s.fwtEntry t shadow i)
  let a := s.fwtBucket t shadow 0 k
  let b := s.fwtBucket t shadow 1 k
  if a = b then [] else if a = i / 4 then bucketSlots b else bucketSlots a

/-- Is a slot free to an insertion: not VALID, or of bad parity, which the engine clears when it meets it (R137)? -/
def State.slotFree (s : State) (t : Nat) (shadow : Bool) (i : Nat) : Bool :=
  let v := s.fwtEntry t shadow i
  !fwtValid t v || !fwtGood t v

/-- Search level by level for a chain of relocations that ends at a free slot. Each path lists slots, last first. -/
def State.chainSearch (s : State) (t : Nat) (shadow : Bool) : Nat → List (List Nat) → List Nat → List (List Nat)
  | 0, _, _ => []
  | fuel + 1, front, seen =>
    let steps := front.flatMap (fun p => ((s.otherSlots t shadow (p.headD 0)).filter (fun j => !seen.contains j)).map (fun j => j :: p))
    let hits := steps.filter (fun p => s.slotFree t shadow (p.headD 0))
    if !hits.isEmpty then hits
    else if steps.isEmpty then []
    else s.chainSearch t shadow fuel steps (seen ++ steps.map (fun p => p.headD 0))

/-- Clear and report the slot when its parity is bad. -/
def State.fwtParityIf (s : State) (t : Nat) (shadow : Bool) (i : Nat) : State :=
  if fwtGood t (s.fwtEntry t shadow i) then s else s.fwtParity t shadow i

/-- Move along a chain, last move first (R136). The path lists the free slot first and the slot to be freed last. -/
def State.moveChain (s : State) (t : Nat) (shadow : Bool) : List Nat → State
  | dst :: src :: rest =>
    let s := s.fwtParityIf t shadow dst
    let s := (s.fwtApply t shadow dst (s.fwtEntry t shadow src)).fwtClear t shadow src
    ((s.count FWT_Tt_cnt_LO.COUNT t 2).cal 289).moveChain t shadow (src :: rest)
  | _ => s

/-- Insert an entry whose key is not in the bank: the slot used, or none when no chain is found; and the entries that were moved. Which of
several free slots, or of several shortest chains, is used is a free value. -/
def State.fwtPlace (s : State) (t : Nat) (shadow : Bool) (v : Nat) : State × Option Nat × List Nat :=
  let slots := s.fwtSlots t shadow (fwtKey t v)
  let s := (s.fwtScrub t shadow slots).1
  let pick := Config.freeNat s.free
  let free := slots.filter (fun i => !fwtValid t (s.fwtEntry t shadow i))
  let s := s.draw
  if !free.isEmpty then
    let i := free.getD (pick % free.length) 0
    (s.fwtApply t shadow i v, some i, [])
  else
    let chains := s.chainSearch t shadow 32 (slots.map (fun i => [i])) slots
    if chains.isEmpty then (s, none, []) else
    let c := chains.getD (pick % chains.length) []
    let moved := (c.drop 1).map (fun j => s.fwtEntry t shadow j)
    let s := s.moveChain t shadow c
    let i := c.getLastD 0
    (s.fwtApply t shadow i v, some i, moved)

/-- Insert or replace by key in one bank: (slot, replaced), or none when full, and the entries that were moved (R136, R138, R140). A failed
insertion into the shadow bank also sets SH_FAIL (R141). -/
def State.fwtPutIn (s : State) (t : Nat) (shadow : Bool) (v : Nat) : State × Option (Nat × Bool) × List Nat :=
  let p := s.fwtLookup t shadow (fwtKey t v)
  match p.2.1 with
  | some i => (p.1.fwtApply t shadow i v, some (i, true), [])
  | none =>
    match p.1.fwtPlace t shadow v with
    | (s, some i, l) => (s.count FWT_Tt_cnt_LO.COUNT t 0, some (i, false), l)
    | (s, none, _) =>
      let s := ((s.count FWT_Tt_cnt_LO.COUNT t 1).wr FWT_Tt_STATUS.REHASH_REQ 1 t).raise (176 + t)
      (if shadow then s.wr FWT_Tt_STATUS.SH_FAIL 1 t else s, none, [])

/-- Insert or replace by key. While a rebuild is open, each entry that the insertion moved in the live bank is repeated in the shadow bank,
under the shadow seeds (R141). -/
def State.fwtPut (s : State) (t : Nat) (shadow : Bool) (v : Nat) : State × Option (Nat × Bool) :=
  let p := s.fwtPutIn t shadow v
  (if !shadow && p.1.on FWT_Tt_STATUS.REBUILD_OPEN t then forEach p.2.2 (fun e s => (s.fwtPutIn t true e).1) p.1 else p.1, p.2.1)

/-- Repeat an insertion or change in the shadow bank while a rebuild is open (R141). -/
def State.fwtMirrorPut (s : State) (t v : Nat) : State :=
  if s.on FWT_Tt_STATUS.REBUILD_OPEN t then (s.fwtPut t true v).1 else s

/-- Delete by key: the slot cleared. -/
def State.fwtDelete (s : State) (t : Nat) (shadow : Bool) (k : Nat) : State × Option Nat :=
  let p := s.fwtLookup t shadow k
  match p.2.1 with
  | some i => ((p.1.fwtClear t shadow i).count FWT_Tt_cnt_LO.COUNT t 5, some i)
  | none => (p.1, none)

/-- Repeat a removal in the shadow bank while a rebuild is open. -/
def State.fwtMirrorDelete (s : State) (t k : Nat) : State :=
  if s.on FWT_Tt_STATUS.REBUILD_OPEN t then (s.fwtDelete t true k).1 else s

/-! ## L2 fields -/

def l2Static (v : Nat) : Bool := bitOf v 61
def l2Type (v : Nat) : Nat := bitsOf v 62 2
def l2Dest (v : Nat) : Nat := bitsOf v 64 40
def l2Age (v : Nat) : Nat := bitsOf v 104 2

/-- A dynamic or static port entry. -/
def l2Entry (vid mac port : Nat) : Nat := l2Key vid mac + 2 ^ 60 + port * 2 ^ 64

/-- An entry with AGE set. -/
def l2SetAge (v a : Nat) : Nat := v - l2Age v * 2 ^ 104 + a * 2 ^ 104

/-- An entry with HIT set. -/
def l2SetHit (v : Nat) : Nat := setBit v 106 true

/-! ## L2 forwarding (R131, R132) -/

/-- MODE of a pair. -/
def State.pairMode (s : State) (p : Nat) : Nat := s.rd FPT_PAIRp_CFG.MODE p

/-- Is port `n` part of a redundant pair (mode 1, 2 or 3)? -/
def State.redundant (s : State) (n : Nat) : Bool := n < 24 && s.pairMode (n / 2) != 0

/-- The L2 port of a pipeline port (R132). -/
def State.l2Port (s : State) (n : Nat) : Nat :=
  if s.redundant n then n / 2 * 2
  else if 24 ≤ n && n < 40 && !s.on FPT_XPORTm_CFG.SPLIT ((n - 24) / 4) then 24 + (n - 24) / 4 * 4 else n

/-- The members of a VLAN, less the ports whose bits are ignored (R132). -/
def State.vlanMembers (s : State) (v : Nat) : List Nat :=
  let m := s.rd FWT_VLANv_LO.MEMBERS v + s.rd FWT_VLANv_HI.MEMBERS v * 2 ^ 32
  (List.range 40).filter (fun n => bitOf m n && s.l2Port n == n)

/-- Where a frame with L2 = 1 goes: the list of queues (R131). -/
def State.l2Forward (s : State) (ingress vid cls dst : Nat) : State × List Nat :=
  let mem := s.vlanMembers vid
  let inp := s.l2Port ingress
  if !mem.contains inp then (s.count FWT_L2_cnt_LO.COUNT 6, []) else
  match s.fwtLookup 0 false (l2Key vid dst) with
  | (s, some i, _) =>
    let v := s.fwtEntry 0 false i
    let s := if bitOf v 106 then s else s.fwtStore 0 false i (fwtSeal 0 (l2SetHit v) false)
    if l2Type v = 0 then
      let d := l2Dest v % 64
      if d = inp then (s.count FWT_L2_cnt_LO.COUNT 7, [])
      else if !mem.contains d then (s.count FWT_L2_cnt_LO.COUNT 6, [])
      else (s, [8 * d + cls])
    else if l2Type v = 1 then (s, ((mem.filter (fun n => bitOf (l2Dest v) n && n != inp)).map (fun n => 8 * n + cls)))
    else (s, [l2Dest v % 4096])
  | (s, none, _) =>
    let s := s.count FWT_L2_cnt_LO.COUNT 5
    let host := if s.on FWT_VLANv_HI.HOSTQ_EN vid then [s.rd FWT_VLANv_HI.HOSTQ vid] else []
    (s, ((mem.filter (fun n => n != inp)).map (fun n => 8 * n + cls)) ++ host)

/-- Learning looks at every frame that enters (R133, R134). -/
def State.learn (s : State) (ingress vid src : Nat) : State :=
  let n := s.l2Port ingress
  if s.on FWT_PORTn_CFG.LEARN n && s.on FWT_VLANv_HI.LEARN vid && !isGroup src && src != 0 then
    let s := s.cal 288
    if 256 ≤ s.fwt.learn.length then (s.count FWT_L2_cnt_LO.COUNT 1).raise 181
    else { s with fwt := { s.fwt with learn := s.fwt.learn ++ [{ vid := vid, mac := src, port := n }] } }
  else s

/-! ## Commands -/

/-- A learn request is processed against the table as it is now (R133). -/
def State.learnOne (s : State) (r : LearnReq) : State :=
  let p := s.fwtLookup 0 false (l2Key r.vid r.mac)
  let s := p.1
  match p.2.1 with
  | some i =>
    let v := s.fwtEntry 0 false i
    let same := l2Type v == 0 && l2Dest v % 64 == r.port
    if l2Static v then
      (if same then s else (s.count FWT_L2_cnt_LO.COUNT 3).raise 182)
    else if same then
      let u := l2SetAge v 0
      (s.fwtApply 0 false i u).fwtMirrorPut 0 u
    else
      let u := l2Entry r.vid r.mac r.port + b2n (bitOf v 106) * 2 ^ 106
      (((s.fwtApply 0 false i u).fwtMirrorPut 0 u).count FWT_L2_cnt_LO.COUNT 2).raise 180
  | none =>
    let u := l2Entry r.vid r.mac r.port
    match s.fwtPut 0 false u with
    | (s, some _) => (s.count FWT_L2_cnt_LO.COUNT 0).fwtMirrorPut 0 u
    | (s, none) => s

/-- The entry image of a table's command registers (R140). -/
def State.cmdImage (s : State) (t : Nat) : Nat :=
  ((List.range (fwtWords t)).map (fun w => s.rd FWT_Tt_CMD_ENTRYw.DATA t w * 2 ^ (32 * w))).sum

/-- Is an image invalid for OP 1 (R140)? -/
def imageBad (t v : Nat) : Bool :=
  !fwtValid t v ||
  (if t = 0 then bitsOf v 107 20 != 0 || l2Type v == 3 || (l2Type v == 0 && decide (39 < l2Dest v % 64))
   else bitsOf v 134 2 != 0 || bitsOf v 142 2 != 0 || bitsOf v 145 15 != 0 || bitsOf v 192 63 != 0 || decide (39 < bitsOf v 136 6))

/-- Report a command's result (R140). -/
def State.cmdResult (s : State) (t r i : Nat) : State := (s.wr FWT_Tt_CMD_STATUS.RESULT r t).wr FWT_Tt_CMD_STATUS.INDEX i t

/-- OP 1: insert the image, or replace the entry with its key. -/
def State.fwtInsert (s : State) (t bank v : Nat) : State :=
  if imageBad t v then s.cmdResult t 4 0 else
  match s.fwtPut t (bank != 0) v with
  | (s, some (i, rep)) => (if bank = 0 then s.fwtMirrorPut t v else s).cmdResult t (b2n rep) i
  | (s, none) => s.cmdResult t 3 0

/-- OP 2: delete by key. -/
def State.fwtRemove (s : State) (t bank v : Nat) : State :=
  let k := fwtKey t v
  match s.fwtDelete t (bank != 0) k with
  | (s, some i) => (if bank = 0 then s.fwtMirrorDelete t k else s).cmdResult t 0 i
  | (s, none) => s.cmdResult t 2 0

/-- OP 3: look up by key; the entry found is copied back to the image words. -/
def State.fwtCopyBack (s : State) (t bank v : Nat) : State :=
  match s.fwtLookup t (bank != 0) (fwtKey t v) with
  | (s, some i, _) =>
    let v := s.fwtEntry t (bank != 0) i
    (forEach (List.range (fwtWords t)) (fun w s => s.wr FWT_Tt_CMD_ENTRYw.DATA (bitsOf v (32 * w) 32) t w) s).cmdResult t 0 i
  | (s, none, _) => s.cmdResult t 2 0

/-- Is an operation on `bank` refused with RESULT 5: bank 1 without an open rebuild (R140)? -/
def State.bankShut (s : State) (t bank : Nat) : Bool := bank != 0 && !s.on FWT_Tt_STATUS.REBUILD_OPEN t

/-- A command on table `t` is carried out with image `v`; on bank 1 without an open rebuild it returns RESULT 5 (R140). -/
def State.fwtRun (s : State) (t op bank v : Nat) : State :=
  if s.bankShut t bank then s.cmdResult t 5 0
  else match op with
    | 1 => s.fwtInsert t bank v
    | 2 => s.fwtRemove t bank v
    | _ => s.fwtCopyBack t bank v

/-- A command on table `t`: it is served after the learn requests that came before it, and BUSY is 1 until then; another one meanwhile is
ignored and counted (R140). -/
def State.fwtCmd (s : State) (t op bank : Nat) : State :=
  if 2 < t then s
  else if s.on FWT_Tt_CMD_STATUS.BUSY t then s.bad
  else if t = 0 && !s.fwt.learn.isEmpty then
    State.wr { s with fwt := { s.fwt with cmd := some (op, bank, s.cmdImage 0, s.fwt.learn.length) } } FWT_Tt_CMD_STATUS.BUSY 1 0
  else s.fwtRun t op bank (s.cmdImage t)

/-- The command that waits has one request fewer before it; with none left it is carried out. -/
def State.cmdTurn (s : State) : State :=
  match s.fwt.cmd with
  | none => s
  | some (op, bank, v, k) =>
    if 1 < k then { s with fwt := { s.fwt with cmd := some (op, bank, v, k - 1) } }
    else (State.wr { s with fwt := { s.fwt with cmd := none } } FWT_Tt_CMD_STATUS.BUSY 0 0).fwtRun 0 op bank v

/-- The engine processes the oldest learn request, and a command whose turn that makes it. -/
def State.learnNext (s : State) : State :=
  match s.fwt.learn with
  | [] => s
  | r :: rest => (State.learnOne { s with fwt := { s.fwt with learn := rest } } r).cmdTurn

/-- LEARN_REQUEST (R133, R140): the engine processes the oldest request. -/
def execLearnRequest (s : State) : Host.Outcome State Fault Refusal := ok s.learnNext

/-- The indexes of the entries of a table's bank that hold anything. -/
def State.fwtListed (s : State) (t : Nat) (shadow : Bool) : List Nat :=
  ((winPart t (if shadow then s.winShadow else s.winLive)).map (fun p => p.1 % 2 ^ 24 / fwtWords t)).eraseDups

/-- One entry in an ager pass: AGE + 1, or removal at 3 (R135). -/
def State.ageOne (s : State) (i : Nat) : State :=
  let s := (s.fwtScrub 0 false [i]).1
  let v := s.fwtEntry 0 false i
  if !fwtValid 0 v || l2Static v then s
  else if l2Age v = 3 then
    (((s.fwtClear 0 false i).count FWT_L2_cnt_LO.COUNT 4).count FWT_Tt_cnt_LO.COUNT 0 5).fwtMirrorDelete 0 (fwtKey 0 v)
  else
    let u := l2SetAge v (l2Age v + 1)
    (s.fwtApply 0 false i u).fwtMirrorPut 0 u

/-- AGER_PASS (R135, R140): one pass over the live table, every AGE_S / 3 seconds, after the requests that came before it. -/
def execAgerPass (s : State) : Host.Outcome State Fault Refusal :=
  let a := s.rd FWT_CFG.AGE_S
  if a = 0 then ok s else
  let s := forEach s.fwt.learn (fun _ s => s.learnNext) (s.advanceTo (s.nextScan (a * nsPerSec / 3)))
  ok (forEach (s.fwtListed 0 false) (fun i s => s.ageOne i) s)

/-- FWT_CMD_INSERT (R140, OP 1). -/
def execFwtCmdInsert (t bank : Nat) (s : State) : Host.Outcome State Fault Refusal := ok (s.fwtCmd t 1 bank)

/-- FWT_CMD_DELETE (R140, OP 2). -/
def execFwtCmdDelete (t bank : Nat) (s : State) : Host.Outcome State Fault Refusal := ok (s.fwtCmd t 2 bank)

/-- FWT_CMD_LOOKUP (R140, OP 3). -/
def execFwtCmdLookup (t bank : Nat) (s : State) : Host.Outcome State Fault Refusal := ok (s.fwtCmd t 3 bank)

/-- FWT_INJECT (R130): the next apply to the table stores inverted parity. -/
def execFwtInject (t : Nat) (s : State) : Host.Outcome State Fault Refusal :=
  if 2 < t then ok s else ok (s.wr FWT_Tt_CTRL.INJECT 1 t)

/-- FWT_REBUILD (R141): opens a rebuild and starts clearing the shadow bank; refused while the shadow seeds are equal. -/
def execFwtRebuild (t : Nat) (s : State) : Host.Outcome State Fault Refusal :=
  if 2 < t then ok s else
  if s.rd FWT_Tt_SH_SEED0.SEED t = s.rd FWT_Tt_SH_SEED1.SEED t then ok s.bad else
  let s := s.clearShadow t
  let c := tabGet s.winWr t
  let s := if c.valid && c.shadow then { s with winWr := tabSet s.winWr t { c with changed := true } } else s
  ok ((s.wr FWT_Tt_STATUS.REBUILD_OPEN 1 t).wr FWT_Tt_STATUS.CLEARING 1 t)

/-- FWT_SHADOW_CLEARED (R141): CLEARING falls and source 184 is raised. -/
def execFwtShadowCleared (t : Nat) (s : State) : Host.Outcome State Fault Refusal :=
  if s.on FWT_Tt_STATUS.CLEARING t && t < 3 then ok ((s.wr FWT_Tt_STATUS.CLEARING 0 t).raise 184) else ok s

/-- FWT_SWAP (R142): banks and seeds are exchanged and the rebuild closes; at any other time it is ignored and counted. -/
def execFwtSwap (t : Nat) (s : State) : Host.Outcome State Fault Refusal :=
  if 2 < t then ok s else
  if !s.on FWT_Tt_STATUS.REBUILD_OPEN t || s.on FWT_Tt_STATUS.CLEARING t then ok s.bad else
  let a := s.rd FWT_Tt_SEED0.SEED t
  let b := s.rd FWT_Tt_SEED1.SEED t
  let s := (s.wr FWT_Tt_SEED0.SEED (s.rd FWT_Tt_SH_SEED0.SEED t) t).wr FWT_Tt_SEED1.SEED (s.rd FWT_Tt_SH_SEED1.SEED t) t
  let s := (s.wr FWT_Tt_SH_SEED0.SEED a t).wr FWT_Tt_SH_SEED1.SEED b t
  let s := s.swapWindow t
  let used := ((s.fwtListed t false).filter (fun i => fwtValid t (s.fwtEntry t false i))).length
  ok (((s.wr FWT_Tt_STATUS.USED used t).wr FWT_Tt_STATUS.REBUILD_OPEN 0 t).raise 185)

/-- FWT_ABORT_REBUILD (R141): closes the rebuild and leaves the shadow bank as it is. -/
def execFwtAbortRebuild (t : Nat) (s : State) : Host.Outcome State Fault Refusal :=
  if 2 < t then ok s else ok ((s.wr FWT_Tt_STATUS.REBUILD_OPEN 0 t).wr FWT_Tt_STATUS.CLEARING 0 t)

/-- A read of FWT_PERR returns the oldest address of the error FIFO and pops it (R137). -/
def State.perrPop (s : State) : State :=
  let s := s.answer (s.reg (FWT_PERR.VALID.addr 0 0)).toNat
  ({ s with fwt := { s.fwt with perr := s.fwt.perr.tail } }).showPerr

/-- FWT_PERR_POP (R137). -/
def execFwtPerrPop (s : State) : Host.Outcome State Fault Refusal := ok s.perrPop

/-- A window apply to a forwarding table: a VALID entry outside its candidate buckets is refused (R139). -/
def State.fwtWindowApply (s : State) (t : Nat) (shadow : Bool) (i v : Nat) : State :=
  if fwtValid t v && !(s.fwtSlots t shadow (fwtKey t v)).contains i then
    (s.count FWT_Tt_cnt_LO.COUNT t 4).raise 183 [i8 t]
  else if t = 0 && l2Type v = 3 then s
  else s.fwtApply t shadow i v

end Sys2Proof.Machine
end

