-- ==== Sys2Proof/Machine/Entries.lean ====
section
/-!
DEFINITION. The entries of the indirect tables of chapters 7 to 10 (windows 4 to 8 and 10) by field, and the row grid of R171.
An entry is one number, lowest byte first; each function below is a field of the layout its rule gives.
-/
namespace Sys2Proof.Machine

/-- Words of an entry of windows 3 to 11 (R45). -/
def winEntryWords (w : Nat) : Nat :=
  if w = 3 then 64 else if w = 4 then 32 else if w = 5 then 256 else if w = 6 then 4 else if w = 7 then 8 else if w = 8 then 8
  else if w = 9 then 128 else if w = 10 then 16 else if w = 11 then 64 else fwtWords w

/-- Entries of a window (R45). -/
def winEntries (w : Nat) : Nat :=
  if w = 0 then 262144 else if w < 3 then 65536 else if w = 3 then 64 else if w = 4 then 1024 else if w = 5 then 128
  else if w = 6 then 4096 else if w = 7 then 2048 else if w = 8 then 256 else if w = 9 then 256 else if w = 10 then 2048 else 4096

/-- A number whose set bits are those of the fields (first bit, width) given. -/
def fieldMask (l : List (Nat × Nat)) : Nat := l.foldl (fun m p => m ||| ((2 ^ p.2 - 1) * 2 ^ p.1)) 0

/-- The fields of an entry of window `w`, as (first bit, width): what lies between them is reserved and keeps 0 (R9, R110, R128, R129, R150,
R169, R198, R216, R221, R237). -/
def winFields (w : Nat) : List (Nat × Nat) :=
  match w with
  | 0 => [(0, 64), (64, 43), (127, 1)]
  | 1 | 2 => [(0, 128), (128, 6), (136, 6), (144, 1), (160, 32), (255, 1)]
  | 3 => ((List.range 16).flatMap (fun f => [(32 * f, 14), (32 * f + 16, 16)])) ++ [(512, 2)]
  | 4 => [(0, 64), (64, 1), (66, 2), (68, 4), (72, 5), (80, 2), (88, 8), (96, 32), (128, 17), (160, 16), (176, 7), (184, 8), (192, 40),
      (232, 8), (240, 16), (256, 8), (264, 2), (266, 3), (272, 7), (320, 512)]
  | 5 => [(0, 7), (8, 8), (16, 17), (48, 16), (64, 64), (128, 40), (168, 5), (176, 16), (192, 2), (200, 32), (232, 4), (256, 8), (264, 14),
      (278, 1), (288, 8), (296, 14), (310, 1), (512, 384)]
  | 6 => [(0, 6), (8, 7), (16, 8), (24, 4), (32, 32), (64, 32), (96, 10), (106, 4), (112, 16)]
  | 7 => [(0, 20), (32, 9), (64, 64), (128, 48)]
  | 8 => [(0, 9), (16, 16)] ++ (List.range 8).map (fun i => (64 + 16 * i, 11)) ++ [(192, 64)]
  | 10 => [(0, 64), (64, 24), (96, 32), (128, 40), (192, 40)]
  | _ => [(0, 32 * winEntryWords w)]

/-- An entry of window `w` with its reserved bits 0. -/
def winClean (w v : Nat) : Nat := v &&& fieldMask (winFields w)

/-- An entry of a bank. -/
def State.went (s : State) (w : Nat) (shadow : Bool) (e : Nat) : Nat := s.winNat w shadow (e * winEntryWords w) (winEntryWords w)

/-- The entries of a bank that hold anything, ascending. -/
def State.winListed (s : State) (w : Nat) (shadow : Bool) : List Nat :=
  ((winPart w (if shadow then s.winShadow else s.winLive)).map (fun p => p.1 % 2 ^ 24 / winEntryWords w)).eraseDups

/-! ## Subscriptions (R150) -/

def subDmac (v : Nat) : Nat := bitsOf v 0 48
def subAppid (v : Nat) : Nat := bitsOf v 48 16
def subValid (v : Nat) : Bool := bitOf v 64
def subProfile (v : Nat) : Nat := bitsOf v 66 2
def subAsdus (v : Nat) : Nat := bitsOf v 68 4 + 1
def subChannels (v : Nat) : Nat := bitsOf v 72 5
def subSyncReq (v : Nat) : Nat := bitsOf v 80 2
def subSyncId (v : Nat) : Nat := bitsOf v 88 8
def subConfRev (v : Nat) : Nat := bitsOf v 96 32
def subRate (v : Nat) : Nat := bitsOf v 128 17
def subWrap (v : Nat) : Nat := bitsOf v 160 16 + 1
def subBay (v : Nat) : Nat := bitsOf v 176 7
def subCol (v : Nat) : Nat := bitsOf v 184 8
def subPorts (v : Nat) : Nat := bitsOf v 192 40
def subAcqN (v : Nat) : Nat := max 1 (bitsOf v 232 8)
def subLoss (v : Nat) : Nat := max 1 (bitsOf v 240 16)
def subKeySlot (v : Nat) : Nat := bitsOf v 256 8
def subAuth (v : Nat) : Nat := min 2 (bitsOf v 264 2)
def subMacAlg (v : Nat) : Nat := bitsOf v 266 3
def subSvidLen (v : Nat) : Nat := bitsOf v 272 7
def subSvid (v : Nat) : List Byte := leBytes 64 (bitsOf v 320 512)

/-- A live subscription. -/
def State.subE (s : State) (i : Nat) : Nat := s.went 4 false i

/-- The live VALID subscriptions. -/
def State.validSubs (s : State) : List Nat := (s.winListed 4 false).filter (fun i => subValid (s.subE i))

/-! ## Bays (R169) -/

def bayValid (v : Nat) : Bool := bitOf v 0
def bayRecEn (v : Nat) : Bool := bitOf v 1
def bayMirror (v : Nat) : Bool := bitOf v 2
def bayPhe (v : Nat) : Bool := bitOf v 3
def bayFill (v : Nat) : Nat := bitsOf v 4 2 % 3
def bayNsPolicy (v : Nat) : Bool := bitOf v 6
def bayWidth (v : Nat) : Nat := bitsOf v 8 8
def bayRowHz (v : Nat) : Nat := bitsOf v 16 17
def bayHoldUs (v : Nat) : Nat := bitsOf v 48 16
def bayAdvUs (v : Nat) : Nat := max 1 (bitsOf v 64 16)
def bayFillMax (v : Nat) : Nat := max 1 (bitsOf v 80 16)
def bayLateMax (v : Nat) : Nat := bitsOf v 96 32
def bayBase (v : Nat) : Nat := bitsOf v 128 40
def bayLog2 (v : Nat) : Nat := bitsOf v 168 5
def bayMaxRows (v : Nat) : Nat := max 1 (bitsOf v 176 16)
def bayGrain (v : Nat) : Nat := bitsOf v 192 2
def bayMark (v i : Nat) : Nat := bitsOf v (200 + 8 * i) 8
def bayMarkEn (v i : Nat) : Bool := bitOf v (232 + i)
def bayRingFn (v i : Nat) : Nat := bitsOf v (256 + 32 * i) 8
def bayRing (v i : Nat) : Nat := bitsOf v (264 + 32 * i) 14
def bayRingEn (v i : Nat) : Bool := bitOf v (278 + 32 * i)
def bayCellFill (v i : Nat) : Nat := bitsOf v (512 + 2 * i) 2

/-- A live bay. -/
def State.bayE (s : State) (b : Nat) : Nat := s.went 5 false b

/-- Row stride: the cells rounded up to 64 bytes (R183). -/
def rowStride (width : Nat) : Nat := (8 * width + 63) / 64 * 64

/-- Hold time of a bay entry in µs: its own, or the default (R169). -/
def State.holdUs (s : State) (v : Nat) : Nat := if bayHoldUs v = 0 then s.rd ALN_HOLD_TIME.US else bayHoldUs v

/-- Is a bay Running? -/
def State.bayRuns (s : State) (b : Nat) : Bool := s.on ALN_BAYb_STATE.RUNNING b

/-- Is a subscription a misfit of its bay (R189)? -/
def misfit (sub bay : Nat) : Bool := subRate sub != bayRowHz bay || decide (bayWidth bay < subCol sub + subChannels sub)

/-- The live VALID subscriptions of a bay in ascending COL. -/
def State.baySubs (s : State) (b : Nat) : List Nat :=
  (s.validSubs.filter (fun i => subBay (s.subE i) == b)).mergeSort (fun i j => decide (subCol (s.subE i) ≤ subCol (s.subE j)))

/-! ## The row grid (R171) -/

/-- The row instant of sample number `n` at rate `r` in ns: n × 10^9 / r rounded up. -/
def rowInst (r n : Nat) : Nat := (n * nsPerSec + r - 1) / r

/-- The largest sample number whose exact instant is no later than `g`. -/
def lastSample (r g : Nat) : Nat := g * r / nsPerSec

/-- The first sample number whose instant is at or after `g` (R185). -/
def firstSample (r g : Nat) : Nat := (g * r + nsPerSec - 1) / nsPerSec

/-! ## Cells (R170) -/

def cellValue (c : Nat) : Int := sgn 32 (bitsOf c 0 32)
def cellQual (c : Nat) : Nat := bitsOf c 32 16
def cellProv (c : Nat) : Nat := bitsOf c 48 8

/-- A cell. -/
def mkCell (value qual prov late : Nat) : Nat := value % 2 ^ 32 + qual % 2 ^ 16 * 2 ^ 32 + prov % 256 * 2 ^ 48 + late % 256 * 2 ^ 56

/-! ## Channels (R198) and groups -/

def chValid (v : Nat) : Bool := bitOf v 0
def chHarm (v : Nat) : Bool := bitOf v 1
def chPredEn (v : Nat) : Bool := bitOf v 2
def chAref (v : Nat) : Bool := bitOf v 3
def chWin (v : Nat) : Nat := bitsOf v 4 2 % 3
def chBay (v : Nat) : Nat := bitsOf v 8 7
def chCell (v : Nat) : Nat := bitsOf v 16 8
def chRpt (v : Nat) : Nat := bitsOf v 24 4
def chScale (v : Nat) : Nat := bitsOf v 32 32
def chRated (v : Nat) : Nat := bitsOf v 64 32
def chHslot (v : Nat) : Nat := bitsOf v 96 10
def chHlog2 (v : Nat) : Nat := bitsOf v 106 4
def chHist (v : Nat) : Nat := bitsOf v 112 16

/-- A live channel. -/
def State.chE (s : State) (c : Nat) : Nat := s.went 6 false c

/-- The live VALID channels, ascending. -/
def State.validChans (s : State) : List Nat := (s.winListed 6 false).filter (fun c => chValid (s.chE c))

/-- The live VALID groups, ascending. -/
def State.validGrps (s : State) : List Nat :=
  (s.regs.filterMap (fun p => if PHE_GRPg_PH.VALID.covers p.1 then some (PHE_GRPg_PH.VALID.index p.1).1 else none)).filter
    (fun g => s.on PHE_GRPg_PH.VALID g)

/-- The channels of a group: phases A, B, C. -/
def State.grpChans (s : State) (g : Nat) : List Nat := [s.rd PHE_GRPg_PH.CH_A g, s.rd PHE_GRPg_PH.CH_B g, s.rd PHE_GRPg_CFG.CH_C g]

/-! ## Comparators (R216), terms (R221), GOOSE subscriptions (R237) -/

def cmpValid (v : Nat) : Bool := bitOf v 0
def cmpKind (v : Nat) : Bool := bitOf v 1
def cmpQty (v : Nat) : Nat := bitsOf v 2 4
def cmpDir (v : Nat) : Bool := bitOf v 6
def cmpAbs (v : Nat) : Bool := bitOf v 7
def cmpIndex (v : Nat) : Nat := bitsOf v 8 12
def cmpBlk (v : Nat) : Nat := bitsOf v 32 9
def cmpPick (v : Nat) : Nat := bitsOf v 64 32
def cmpDrop (v : Nat) : Nat := bitsOf v 96 32
def cmpPu (v : Nat) : Nat := max 1 (bitsOf v 128 16)
def cmpDo (v : Nat) : Nat := max 1 (bitsOf v 144 16)
def cmpStale (v : Nat) : Nat := max 1 (bitsOf v 160 16)

def termValid (v : Nat) : Bool := bitOf v 0
def termArmInit (v : Nat) : Bool := bitOf v 1
def termWinEn (v : Nat) : Bool := bitOf v 2
def termWinLock (v : Nat) : Bool := bitOf v 3
def termInst (v : Nat) : Nat := bitsOf v 4 2
def termResetPub (v : Nat) : Bool := bitOf v 6
def termLatch (v : Nat) : Bool := bitOf v 7
def termTsrc (v : Nat) : Bool := bitOf v 8
def termPub (v : Nat) : Nat := bitsOf v 16 8
def termMemberEn (v i : Nat) : Bool := bitOf v (24 + i)
def termMember (v i : Nat) : Nat := bitsOf v (64 + 16 * i) 11
def termLo (v : Nat) : Nat := bitsOf v 192 32
def termHi (v : Nat) : Nat := bitsOf v 224 32

def gsubDmac (v : Nat) : Nat := bitsOf v 0 48
def gsubAppid (v : Nat) : Nat := bitsOf v 48 16
def gsubValid (v : Nat) : Bool := bitOf v 64
def gsubAuth (v : Nat) : Nat := min 2 (bitsOf v 65 2)
def gsubMacAlg (v : Nat) : Nat := bitsOf v 67 3
def gsubSimAccept (v : Nat) : Bool := bitOf v 70
def gsubRecTrig (v : Nat) : Bool := bitOf v 71
def gsubKeySlot (v : Nat) : Nat := bitsOf v 72 8
def gsubDidx (v : Nat) : Nat := bitsOf v 80 8
def gsubConfRev (v : Nat) : Nat := bitsOf v 96 32
def gsubRefCrc (v : Nat) : Nat := bitsOf v 128 32
def gsubRefLen (v : Nat) : Nat := bitsOf v 160 8
def gsubPorts (v : Nat) : Nat := bitsOf v 192 40

def State.cmpE (s : State) (c : Nat) : Nat := s.went 7 false c
def State.termE (s : State) (t : Nat) : Nat := s.went 8 false t
def State.gsubE (s : State) (g : Nat) : Nat := s.went 10 false g

def State.validCmps (s : State) : List Nat := (s.winListed 7 false).filter (fun c => cmpValid (s.cmpE c))
def State.validTerms (s : State) : List Nat := (s.winListed 8 false).filter (fun t => termValid (s.termE t))
def State.validGsubs (s : State) : List Nat := (s.winListed 10 false).filter (fun g => gsubValid (s.gsubE g))

/-- The members in use of a term: (position, comparator). -/
def termMembers (v : Nat) : List (Nat × Nat) := ((List.range 8).filter (termMemberEn v)).map (fun i => (i, termMember v i))

/-- Function index of a RING_FN field: 0 is PF2, n is VF n - 1 of PF2 (R169). -/
def State.ringFn (s : State) (n : Nat) : Nat := if n = 0 then 2 else s.vfBase 2 + (n - 1)

end Sys2Proof.Machine
end

