-- ==== Sys2Proof/Machine/Auth.lean ====
section
/-!
DEFINITION. What the ingest front end and GOOSE intake share: elements in the length forms of R147, the application header, and
the check of the security extension (R152, R153). The layout of the extension inside its bytes is that of IEC 62351-6, which the
spec does not give: its fields and the MAC are free functions of its bytes (Config).
-/
namespace Sys2Proof.Machine

/-- One element: tag, content and what follows. Only the length forms of R147 are taken. -/
def berNext : List Byte → Option (Nat × List Byte × List Byte)
  | t :: l :: r =>
    let one := fun (n : Nat) (r : List Byte) => if n ≤ r.length then some (t.toNat, r.take n, r.drop n) else none
    if l.toNat < 128 then one l.toNat r
    else if l.toNat = 0x81 then (match r with | a :: r => one a.toNat r | _ => none)
    else if l.toNat = 0x82 then (match r with | a :: b :: r => one (a.toNat * 256 + b.toNat) r | _ => none)
    else none
  | _ => none

/-- The elements that fill a content exactly; none where one overruns it or has another length form. -/
def berAll : Nat → List Byte → Option (List (Nat × List Byte))
  | _, [] => some []
  | 0, _ => none
  | f + 1, l => match berNext l with
    | none => none
    | some (t, c, r) => (berAll f r).map (fun x => (t, c) :: x)

/-- The elements of a content. -/
def berList (l : List Byte) : Option (List (Nat × List Byte)) := berAll l.length l

/-- The application part of a frame: what R147 reads after the EtherType. -/
structure App where
  appid : Nat := 0
  length : Nat := 0
  res1 : Nat := 0
  /-- from APPID on. -/
  all : List Byte := []
  /-- tag and content of the PDU, and the security extension after it (empty when none). -/
  tag : Nat := 0
  pdu : List Byte := []
  ext : List Byte := []
  deriving DecidableEq, Repr

/-- Read the application part; none when it is cut short, or its Length field is not the byte count to the end (R148). Padding of
a short frame is not counted. -/
def readApp (b : List Byte) : Option App :=
  let a := b.drop (payloadAt b)
  let len := beAt a 2 2
  if a.length < 8 || len < 8 || a.length < len || (a.length != len && 60 < b.length) then none else
  let a := a.take len
  match berNext (a.drop 8) with
  | none => none
  | some (t, c, r) => some { appid := beAt a 0 2, length := len, res1 := beAt a 4 2, all := a, tag := t, pdu := c, ext := r }

/-- The key words of a slot's current or next half. -/
def State.keyWords (s : State) (k : Nat) (next : Bool) : List Nat :=
  (List.range 8).map (fun w => if next then s.rd SVI_KEYk_NEXTw.KEY k w else s.rd SVI_KEYk_CURw.KEY k w)

/-- Octets of a MAC (R152). -/
def macLen (alg : Nat) : Nat := if alg = 0 then 10 else if alg = 1 then 16 else if alg = 2 then 32 else if alg = 3 then 8 else 16

/-- A MAC of the bytes with a key. -/
def macOf (alg : Nat) (key : List Nat) (bytes : List Byte) : List Byte :=
  ((Config.mac alg key bytes) ++ List.replicate (macLen alg) 0#8).take (macLen alg)

/-- The result of R153: passed with or without a verified MAC, or failed with the key identifier seen. -/
inductive AuthResult where
  | pass (verified : Bool)
  | fail (keyId : Nat)
  deriving DecidableEq, Repr

/-- Check a frame's extension under AUTH, MAC_ALG and a key slot (R153). -/
def State.authCheck (s : State) (slot auth alg : Nat) (a : App) : AuthResult :=
  if auth = 0 then .pass false
  else if a.ext.isEmpty then (if auth = 2 then .fail 0 else .pass false)
  else
    let id := Config.secKeyId a.ext % 2 ^ 32
    let cur := s.on SVI_KEYk_CTRL.VALID_CUR slot && id == s.rd SVI_KEYk_ID_CUR.ID slot
    let nxt := s.on SVI_KEYk_CTRL.VALID_NEXT slot && id == s.rd SVI_KEYk_ID_NEXT.ID slot
    if Config.secAlg a.ext != alg || !(cur || nxt) then .fail id
    else if Config.secMac a.ext == macOf alg (s.keyWords slot (!cur)) (a.all.take (a.all.length - a.ext.length)) then .pass true
    else .fail id

end Sys2Proof.Machine
end

