-- ==== Sys2Proof/Machine/Channels.lean ====
section
/-!
DEFINITION. Message channels (chapter 17): reservation, words, commit, abort, pop and the debug hold.
-/
namespace Sys2Proof.Machine

/-- The record of channel `ch`. -/
def State.chan (s : State) (ch : Nat) : ChanSt := tabGet s.cpu.chans ch

/-- Set the record of channel `ch`. -/
def State.setChan (s : State) (ch : Nat) (c : ChanSt) : State :=
  { s with cpu := { s.cpu with chans := tabSet s.cpu.chans ch c } }

/-- Show the head slot in the RD words, and COUNT (R374). -/
def State.showChan (s : State) (ch : Nat) : State :=
  let c := s.chan ch
  let s := s.wr CPU_CHch_STATUS.COUNT c.msgs.length ch
  forEach (List.range 16) (fun w s => s.wr CPU_CHch_RDw.WORD ((c.msgs.headD []).getD w 0) ch w) s

/-- Cluster, logical core and thread of a Spindle agent code (R363). -/
def agentCluster (a : Nat) : Nat := (a - 1) / 16
def agentCore (a : Nat) : Nat := (a - 1) / 4 % 4

/-- The hardware thread of an agent code. -/
def agentThread (a : Nat) : Nat := (a - 1) % 4

/-- Is `a` the code of a Spindle thread? -/
def isThread (a : Nat) : Bool := 1 ≤ a && a ≤ 128

/-- The physical core at logical position `g` of cluster `k` (R362). -/
def State.physCore (s : State) (k g : Nat) : Nat := bitsOf (s.rd CPU_CLk_STATUS.MAP k) (3 * g) 3

/-- The counted event `i` of the core that agent `a` runs on (R431). The privilege of a thread is not the spec's, so a free value
meets a privilege filter. -/
def State.calCore (s : State) (a i : Nat) : State :=
  if isThread a then
    s.draw.cal (768 + 10 * (5 * agentCluster a + s.physCore (agentCluster a) (agentCore a)) + i) 1
      { priv := some (Config.freeNat s.free % 4), agent := some a }
  else s

/-- Is the agent outside the scope of a LOCAL channel (R374)? -/
def State.outOfScope (s : State) (ch a : Nat) : Bool :=
  s.on CPU_CHch_CFG.LOCAL ch &&
    !(isThread a && agentCluster a == s.rd CPU_CHch_CFG.CLUSTER ch && agentCore a == s.rd CPU_CHch_CFG.LCORE ch)

/-- A Busy answer is counted (R371). -/
def State.chanBusy (s : State) (ch a : Nat) : State := ((s.bump CPU_CHch_ABORT.BUSY_SEEN ch).calCore a 8).answer 1

/-- Free the reservation of a channel: no holder. -/
def State.chanFree (s : State) (ch : Nat) : State :=
  let s := ((s.wr CPU_CHch_STATUS.BUSY 0 ch).wr CPU_CHch_STATUS.HELD 0 ch).wr CPU_CHch_STATUS.HOLDER 0xFF ch
  let c := s.chan ch
  s.setChan ch { c with words := [], header := false, holdFrom := 0 }

/-- Put a message in a channel (R372). -/
def State.chanPush (s : State) (ch : Nat) (words : List Nat) : State :=
  let c := s.chan ch
  ((s.setChan ch { c with msgs := c.msgs ++ [words] }).count CPU_cnt_LO.COUNT 4).showChan ch

/-- Abort the reservation of a channel (R372): the slot is freed unread, and its holder reads Aborted once. -/
def State.chanAbort (s : State) (ch : Nat) : State :=
  if !s.on CPU_CHch_STATUS.BUSY ch then s else
  let h := s.rd CPU_CHch_STATUS.HOLDER ch
  let s := (s.bump CPU_CHch_ABORT.ABORTS ch).chanFree ch
  let c := s.chan ch
  s.setChan ch { c with aborted := if c.aborted.contains h then c.aborted else c.aborted ++ [h] }

/-- The channels that hold anything. -/
def State.chanListed (s : State) : List Nat := s.cpu.chans.map (fun p => p.1)

/-- Abort every reservation whose holder meets `p` (R367, R369, R372). -/
def State.abortHolders (s : State) (p : Nat → Bool) : State :=
  forEach (s.chanListed.filter (fun ch => s.on CPU_CHch_STATUS.BUSY ch && p (s.rd CPU_CHch_STATUS.HOLDER ch)))
    (fun ch s => s.chanAbort ch) s

/-- A message from the device itself on a channel, when it has a free slot (R376). -/
def State.chanPost (s : State) (ch : Nat) (words : List Nat) : State × Bool :=
  if 1024 ≤ ch || !s.on CPU_CHch_CFG.VALID ch then (s, false) else
  let used := (s.chan ch).msgs.length + b2n (s.on CPU_CHch_STATUS.BUSY ch)
  if s.rd CPU_CHch_CFG.DEPTH ch ≤ used then (s, false)
  else (s.chanPush ch (words ++ List.replicate (16 - words.length) 0), true)

/-- CHANNEL_RESERVE (R371): a read of a channel's RESV port by agent `who`. On a channel that is not VALID the spec states no
code: the answer is a free value and nothing is reserved. -/
def execChannelReserve (who ch : Nat) (s : State) : Host.Outcome State Fault Refusal :=
  if s.shut who then ok (s.refuseRead who) else
  if 1024 ≤ ch then ok s else
  if !s.on CPU_CHch_CFG.VALID ch then ok (s.draw.answer (Config.freeNat s.free % 4)) else
  let c := s.chan ch
  if c.aborted.contains who then
    ok ((s.setChan ch { c with aborted := c.aborted.filter (fun a => a != who) }).answer 3)
  else if s.outOfScope ch who then ok ((s.count CPU_cnt_LO.COUNT 5).chanBusy ch who)
  else if s.on CPU_CHch_STATUS.BUSY ch then
    if s.rd CPU_CHch_STATUS.HOLDER ch = who then ok (s.answer 0) else ok (s.chanBusy ch who)
  else if s.rd CPU_CHch_CFG.DEPTH ch ≤ c.msgs.length then ok (s.answer 2)
  else
    let s := (s.wr CPU_CHch_STATUS.BUSY 1 ch).wr CPU_CHch_STATUS.HOLDER who ch
    ok ((s.setChan ch { c with words := List.replicate 16 0, header := false }).answer 0)

/-- CHANNEL_WORD_WRITE (R372): word `w` of the reserved message. -/
def execChannelWordWrite (who ch w : Nat) (val : Word) (s : State) : Host.Outcome State Fault Refusal :=
  if s.shut who then ok (s.refuseWrite who) else
  if 1024 ≤ ch || 16 ≤ w then ok s else
  let c := s.chan ch
  let mine := s.on CPU_CHch_STATUS.BUSY ch && s.rd CPU_CHch_STATUS.HOLDER ch == who
  if !mine || (w != 0 && !c.header) then ok (s.count CPU_cnt_LO.COUNT 5) else
  let v := if w = 0 then val.toNat - bitsOf val.toNat 8 8 * 256 + who % 256 * 256 else val.toNat
  let c := { c with words := c.words.set w v, header := true }
  let s := s.setChan ch c
  if w = bitsOf (c.words.getD 0 0) 0 4 then ok ((s.chanFree ch).chanPush ch c.words) else ok s

/-- CHANNEL_POP (R374): a write of POP frees the head slot. -/
def execChannelPop (ch : Nat) (s : State) : Host.Outcome State Fault Refusal :=
  if 1024 ≤ ch then ok s else
  let c := s.chan ch
  ok ((s.setChan ch { c with msgs := c.msgs.tail }).showChan ch)

/-- DEBUG_HALT (R373, R444): the debugger, while attached, halts a thread, which keeps its reservation; the hold counts. Source 497
carries the agent and 1, and 0 when it is resumed. -/
def execDebugHalt (agent : Nat) (s : State) : Host.Outcome State Fault Refusal :=
  if !isThread agent || s.cpu.halted.contains agent || !s.pins.jtagMode then ok s else
  let s := State.raise { s with cpu := { s.cpu with halted := s.cpu.halted ++ [agent] } } 497 [i8 agent, i8 1]
  ok (forEach (s.chanListed.filter (fun ch => s.on CPU_CHch_STATUS.BUSY ch && s.rd CPU_CHch_STATUS.HOLDER ch == agent))
    (fun ch s =>
      let c := s.chan ch
      (s.wr CPU_CHch_STATUS.HELD 1 ch).setChan ch { c with holdFrom := s.tick }) s)

/-- A halted thread goes on: its channels' hold counts restart at its next halt (R373). -/
def State.debugResume (s : State) (agent : Nat) : State :=
  if !s.cpu.halted.contains agent then s else
  let s := State.raise { s with cpu := { s.cpu with halted := s.cpu.halted.filter (fun a => a != agent) } } 497 [i8 agent, i8 0]
  forEach (s.chanListed.filter (fun ch => s.on CPU_CHch_STATUS.BUSY ch && s.rd CPU_CHch_STATUS.HOLDER ch == agent))
    (fun ch s => s.wr CPU_CHch_STATUS.HELD 0 ch) s

/-- DEBUG_RESUME (R373, R444): source 497. -/
def execDebugResume (agent : Nat) (s : State) : Host.Outcome State Fault Refusal := ok (s.debugResume agent)

/-- CHANNEL_HOLD_TIMEOUT (R373): the holder stays halted for HOLD_US, so its reservation is aborted; the event carries the
channel and the holder (R378). -/
def execChannelHoldTimeout (ch : Nat) (s : State) : Host.Outcome State Fault Refusal :=
  if 1024 ≤ ch || !s.on CPU_CHch_STATUS.HELD ch || s.rd CPU_CHch_CFG.HOLD_US ch = 0 then ok s else
  let h := s.rd CPU_CHch_STATUS.HOLDER ch
  let s := s.advanceTo ((s.chan ch).holdFrom + 1000 * s.rd CPU_CHch_CFG.HOLD_US ch)
  ok ((s.chanAbort ch).raise (400 + 4 * agentCluster h + 3) [i16 ch, i8 h])

end Sys2Proof.Machine
end

