-- ==== Sys2Proof/Machine/Ports.lean ====
section
/-!
DEFINITION. Field and fabric ports (chapter 4): link states, transmission, redundancy, ring by-pass, and their events.
Pipeline ports 0 to 23 are F0 to F23 and 24 + 4m + j are the sub-ports of Xm (R107).
-/
namespace Sys2Proof.Machine

/-! ## Records and counters -/

def State.port (s : State) (n : Nat) : PortSt := tabGet s.fpt.ports n
def State.setPort (s : State) (n : Nat) (p : PortSt) : State := { s with fpt := { s.fpt with ports := tabSet s.fpt.ports n p } }
def State.pair (s : State) (p : Nat) : PairSt := tabGet s.fpt.pairs p
def State.setPair (s : State) (p : Nat) (v : PairSt) : State := { s with fpt := { s.fpt with pairs := tabSet s.fpt.pairs p v } }
def State.xport (s : State) (m : Nat) : XportSt := tabGet s.fpt.xports m
def State.setXport (s : State) (m : Nat) (v : XportSt) : State := { s with fpt := { s.fpt with xports := tabSet s.fpt.xports m v } }

/-- Add to counter `j` of offsets 0x00 to 0x68 of a port's statistics (R104). -/
def State.macCount (s : State) (n j : Nat) (k : Nat := 1) : State :=
  if n < 24 then s.count FPT_STATn_MAC_LO.COUNT n j k else s.count FPT_XSTATs_MAC_LO.COUNT (n - 24) j k

/-- Add to counter `j` of offsets 0x80 to 0xB0. -/
def State.lreCount (s : State) (n j : Nat) : State := s.count FPT_STATn_LRE_LO.COUNT n j

/-- Add to counter `j` of offsets 0xC0 to 0xD8. -/
def State.hsrCount (s : State) (n j : Nat) : State :=
  if n < 24 then s.count FPT_STATn_HSR_LO.COUNT n j else s.count FPT_XSTATs_HSR_LO.COUNT (n - 24) j

/-- Source number of cause `k` at a port (R105). -/
def portSource (n k : Nat) : Nat := if n < 24 then 48 + 4 * n + k else 144 + 4 * ((n - 24) / 4) + k

/-! ## Link state (R88) -/

/-- LSTATE of a pipeline port. -/
def State.lstate (s : State) (n : Nat) : Nat := if n < 24 then s.rd FPT_PORTn_STATUS.LSTATE n else (s.port n).xstate

/-- Is a port Up? -/
def State.portUp (s : State) (n : Nat) : Bool := s.lstate n == 3

/-- Is a port enabled: a field port by ENABLE, a sub-port by ENABLE of its fabric port and SPLIT? -/
def State.portEnabled (s : State) (n : Nat) : Bool :=
  if n < 24 then s.on FPT_PORTn_CFG.ENABLE n
  else s.on FPT_XPORTm_CFG.ENABLE ((n - 24) / 4) && (s.on FPT_XPORTm_CFG.SPLIT ((n - 24) / 4) || (n - 24) % 4 == 0)

/-- Code of SPEED for a field port's MODE and last in-band status. -/
def speedCode (mode inband : Nat) : Nat :=
  if mode = 1 then 1 else if mode = 2 then (if inband = 0 then 1 else inband - 1) else if mode = 4 then 2 else if mode = 5 then 3 else 0

/-- Publish SPEED of a field port. -/
def State.showSpeed (s : State) (n : Nat) : State :=
  s.wr FPT_PORTn_STATUS.SPEED (speedCode (s.rd FPT_PORTn_CFG.MODE n) (s.port n).inband) n

/-- Publish SUB_UP and WIDTH of a fabric port; a change between x4 and x1 raises its k = 1 source. -/
def State.showFabric (s : State) (m : Nat) : State :=
  let ups := (List.range 4).filter (fun j => (s.port (24 + 4 * m + j)).xstate == 3)
  let s := s.wr FPT_XPORTm_STATUS.SUB_UP ((ups.map (fun j => 2 ^ j)).sum) m
  s.wr FPT_XPORTm_STATUS.WIDTH (if ups.isEmpty then 2 else b2n (s.xport m).x1) m

/-- Set LSTATE; a change raises the link event. -/
def State.setLstate (s : State) (n v : Nat) : State :=
  if s.lstate n = v then s else
  if n < 24 then ((s.wr FPT_PORTn_STATUS.LSTATE v n).showSpeed n).raise (portSource n 0)
  else ((s.setPort n { s.port n with xstate := v }).showFabric ((n - 24) / 4)).raise (portSource n 0) [i8 ((n - 24) % 4)]

/-! ## Frames handed to a port -/

/-- A frame gives back its scheduler cells. -/
def State.dropCells (s : State) (f : TxFrame) : State :=
  if f.queue = 0 then s else s.freeCells (f.queue - 1) f.pfc (cellsOf f.bytes)

/-- Frames handed to a port that leaves Up, enters Reset or is disabled are discarded and counted; the frame on the wire ends
with an inverted FCS (R88, R103). -/
def State.cutFrames (s : State) (n : Nat) : State :=
  let p := s.port n
  let s := s.setPort n { p with onWire := none, pubs := [], ring := [], handed := [] }
  let s := match p.onWire with | some f => s.out (.frame n f.bytes true) | none => s
  forEach (p.onWire.toList ++ p.pubs ++ p.ring ++ p.handed) (fun f s => (s.dropCells f).macCount n 9) s

/-- What an Up port is receiving now is lost with it (R103); its last bit counts it. -/
def State.cutReceive (s : State) (n : Nat) : State := if s.portUp n then s.setPort n { s.port n with cutTick := s.tick } else s

/-- A port or pair reset takes a port that is not Disabled to Reset. -/
def State.resetPort (s : State) (n : Nat) : State :=
  if s.lstate n = 0 then s else
  let s := ((s.cutReceive n).cutFrames n).setLstate n 4
  s.setPort n { s.port n with since := s.tick }

/-! ## Sending through a pair (R90, R91) -/

/-- Pad a frame to the least length of Ethernet, FCS apart. -/
def padTo (n : Nat) (b : List Byte) : List Byte := b ++ List.replicate (n - b.length) 0#8

/-- MAC address of field port n. -/
def State.portMac (s : State) (n : Nat) : Nat := s.rd FPT_PORTn_MAC_LO.MAC n + s.rd FPT_PORTn_MAC_HI.MAC n * 2 ^ 32

/-- MAC address that field port n sends with: in modes 1 to 3 that of its pair's even port (R89). -/
def State.ownAddr (s : State) (n : Nat) : Nat := s.portMac (if s.redundant n then n / 2 * 2 else n)

/-- The bytes of a frame as it leaves port n: untagged when its VLAN equals PVID and UNTAG is 1 (R87). The VLAN is the one of its ingress
port, else that of its tag. A publication goes as it is held (R226). -/
def State.egressTag (s : State) (n : Nat) (f : TxFrame) : List Byte :=
  let b := f.bytes
  if f.kind != 1 && n < 24 && s.on FPT_PORTn_VLAN.UNTAG n && isTagged b && f.vlan.getD (tagVid b) == s.rd FPT_PORTn_VLAN.PVID n then
    b.take 12 ++ b.drop 16
  else b

/-- The ports that a frame for port n is sent on: both of a redundant pair, else n itself. -/
def State.pairPorts (s : State) (n : Nat) : List Nat := if s.redundant n then [n / 2 * 2, n / 2 * 2 + 1] else [n]

/-- Is the L2 port of n Up: a pair's while either of its ports is (R90)? -/
def State.anyUp (s : State) (n : Nat) : Bool := (s.pairPorts n).any s.portUp

/-- The copy of a frame for port n of a redundant pair, with its RCT or HSR tag. -/
def State.pairCopy (s : State) (n seq : Nat) (b : List Byte) : List Byte :=
  if s.pairMode (n / 2) = 1 then addRct b seq (if n % 2 = 0 then 0xA else 0xB) else addHsr b seq (n % 2)

/-- A frame for port n with a way to place it at each port: copies for the Up ports of a pair, one sequence number for both
(R90). Nothing is sent, and no number taken, when no port is Up. -/
def State.sendVia (s : State) (n : Nat) (f : TxFrame) (place : PortSt → TxFrame → PortSt) : State :=
  if !s.anyUp n then s else
  if !s.redundant n then s.setPort n (place (s.port n) { f with bytes := s.egressTag n f }) else
  let q := s.pair (n / 2)
  let s := s.setPair (n / 2) { q with seq := (q.seq + 1) % 2 ^ 16 }
  forEach ((s.pairPorts n).filter s.portUp) (fun k s =>
    let f : TxFrame := { f with bytes := s.pairCopy k q.seq (s.egressTag k f), lre := true
                                queue := if k % 2 = 0 || !s.portUp (k / 2 * 2) then f.queue else 0 }
    s.setPort k (place (s.port k) f)) s

/-- Put a frame among the handed ones. -/
def placeHanded (p : PortSt) (f : TxFrame) : PortSt := { p with handed := p.handed ++ [f] }

/-- Put a frame among the publications: a fired one before the retransmissions that wait (R232). -/
def placePub (p : PortSt) (f : TxFrame) : PortSt :=
  { p with pubs := if f.again then p.pubs ++ [f] else p.pubs.filter (fun x => !x.again) ++ f :: p.pubs.filter (fun x => x.again) }

/-! ## PTP in frames (R62 to R64) -/

/-- Is PTP over UDP over IPv4 supported at port n: on fabric ports, for the default profile (R61)? -/
def State.ptpUdp (s : State) (n : Nat) : Bool := decide (24 ≤ n) && (s.rd TIM_PTP_CFG.PROFILE == 0 || s.rd TIM_PTP_CFG.PROFILE == 3)

/-- Where the PTP header of a frame begins, and for PTP over UDP over IPv4 (port 319), where `udp` allows it, where the UDP checksum
stands (R61). -/
def ptpAt (udp : Bool) (b : List Byte) : Option (Nat × Option Nat) :=
  if isPtp b then some (payloadAt b, none) else
  let u := payloadAt b + 4 * (beAt b (payloadAt b) 1 % 16)
  if udp && etherType b = 0x0800 && beAt b (payloadAt b + 9) 1 == 17 && beAt b (u + 2) 2 == 319 then some (u + 8, some (u + 6)) else
  match hsrOf b with
  | some (o, _, _) => if beAt b (o + 6) 2 = 0x88F7 then some (o + 8, none) else none
  | none => none

/-- messageType of a PTP event message (0 to 3). -/
def ptpEvent (udp : Bool) (b : List Byte) : Option Nat :=
  match ptpAt udp b with
  | some (o, _) => let t := (b.getD o 0).toNat % 16; if t < 4 then some t else none
  | none => none

/-- The egress stamp of a frame whose start-of-frame delimiter left port n at a GTC value: with the path beyond the reference plane, in
whole nanoseconds, rounded down (R62, log 33). -/
def State.egressStamp (s : State) (n gtc : Nat) : Nat := ((gtc : Int) + sgn 16 (s.rd TIM_TSCOMPn.EGR n) / 4).toNat

/-- Add a number of nanoseconds to the correctionField of the PTP header at `o`, which holds nanoseconds × 2^16. -/
def addCorrection (b : List Byte) (o : Nat) (ns : Int) : List Byte :=
  patch b (o + 8) (beBytes 8 (unsgn 64 (sgn 64 (beAt b (o + 8) 8) + ns * 65536)))

/-- A one-step Sync takes its egress stamp, and a Pdelay_Resp, which is always one-step, the turnaround in its correctionField, as it
leaves (R61, R64). The turnaround is a free value: the spec does not say where the device holds the request's stamp. A UDP checksum that
the change spoils is sent as 0 (PRESUMED, log 33). -/
def State.oneStep (s : State) (n : Nat) (b : List Byte) : List Byte :=
  if s.rd TIM_PTP_PORTn.MODE n != 1 then b else
  match ptpAt (s.ptpUdp n) b with
  | none => b
  | some (o, ck) =>
    let clear := fun (b : List Byte) => match ck with | some k => patch b k [0#8, 0#8] | none => b
    let g := s.egressStamp n s.tim.gtc
    match ptpEvent (s.ptpUdp n) b with
    | some 0 => if s.on TIM_PTP_PORTn.ONE_STEP n then clear (patch b (o + 34) (beBytes 6 (g / nsPerSec) ++ beBytes 4 (g % nsPerSec))) else b
    | some 3 => clear (addCorrection b o (Config.freeNat s.free : Nat))
    | _ => b

/-- The other port of a pair. -/
def otherPort (n : Nat) : Nat := if n % 2 = 0 then n + 1 else n - 1

/-- A transparent clock's correction of an event message that port n forwards from its pair's other port (R63): its residence time and the
ingress link delay, a free value, are added to the correctionField. -/
def State.tcCorrect (s : State) (n : Nat) (b : List Byte) (residence : Int) : List Byte :=
  let o := match hsrOf b with | some h => h.1 + 6 | none => payloadAt b - 2
  if s.rd TIM_PTP_PORTn.MODE n == 2 && beAt b o 2 == 0x88F7 && decide ((b.getD (o + 2) 0).toNat % 16 < 4) then
    addCorrection b (o + 2) (residence + (Config.linkDelay (otherPort n) s.free : Nat)) else b

/-- Line rate of a field port in Mb/s, by SPEED. -/
def State.mbps (s : State) (n : Nat) : Nat :=
  match s.rd FPT_PORTn_STATUS.SPEED n with | 0 => 100 | 1 => 1000 | 2 => 2500 | _ => 10000

/-- The residence of a frame that is cut through: a free value within the bound of R91, 2 µs after the last bit of its HSR tag. -/
def State.cutResidence (s : State) (n : Nat) (b : List Byte) : Nat :=
  let o := match hsrOf b with | some h => h.1 + 6 | none => 0
  Config.freeNat s.free % (2001 + o * 8000 / s.mbps (otherPort n))

/-! ## Frame boundaries (R94) -/

/-- The last byte of a frame has left a port: statistics, cells, and the timestamp of a firmware frame (R376). -/
def State.frameSent (s : State) (n : Nat) (f : TxFrame) : State :=
  let s := (s.out (.frame n f.bytes f.stomp)).cal 193 1 { tc := f.cls }
  let s := if f.stomp then s else (s.macCount n 0).macCount n 1 (f.bytes.length - 14)
  let s := if f.lre then s.lreCount n 0 else s
  let s := if f.kind = 1 then s.hsrCount n 2 else if f.kind = 2 then s.hsrCount n 0 else if f.kind = 4 then s.hsrCount n 3 else s
  let s := s.dropCells f
  match f.fw with
  | none => s
  | some (k, tag, flags) =>
    if !bitOf flags 0 || (ptpEvent (s.ptpUdp n) f.bytes).isNone || !s.on CPU_CHch_CFG.VALID (s.rd CPU_CLk_TXCFG.TS_CHAN k) then s else
    let g := s.egressStamp n f.sofGtc
    let words := [4 + 0xFF * 256, g % nsPerSec, g / nsPerSec % 2 ^ 32, g / nsPerSec / 2 ^ 32 % 2 ^ 16 + f.sofSteps % 2 ^ 16 * 2 ^ 16,
      n + tag % 2 ^ 16 * 2 ^ 16]
    match s.chanPost (s.rd CPU_CLk_TXCFG.TS_CHAN k) words with
    | (s, true) => s
    | (s, false) => s.count CPU_cnt_LO.COUNT 6

/-- PFC of the priority that a frame of the Tailstock link is sent with (R101); the default for a frame without one. -/
def State.framePfc (s : State) (n : Nat) (f : TxFrame) : PfcSt := if f.prio = 0 || n < 24 then {} else tabGet s.fpt.pfc (8 * n + (f.prio - 1))

/-- A port under a PFC watchdog discards the paused priority's frames (R101). -/
def State.drainPaused (s : State) (n : Nat) : State :=
  if n < 24 then s else
  let lost := (s.port n).handed.filter (fun f => (s.framePfc n f).discard)
  let s := forEach lost (fun _ s => s.macCount n 9)
    (s.setPort n { s.port n with handed := (s.port n).handed.filter (fun f => !(s.framePfc n f).discard) })
  let qs := (s.sch.queues.map (fun p => p.1)).filter (fun q => s.qKind q == 1 && s.qPort q == n &&
    (tabGet s.fpt.pfc (8 * n + s.qClass q)).discard)
  forEach qs (fun q s =>
    forEach (s.schQ q) (fun f s => (s.freeCells q f.pfc (cellsOf f.bytes)).macCount n 9) (s.setSchQ q [])) s

/-- The scheduler's choice at a boundary of port n. The second port of a pair has fixed queues of its own (R349), which go before those
of its L2 port (DESIGN CHOICE, log 14). -/
def State.portSelect (s : State) (n : Nat) : State × Option (Nat × QFrame) :=
  match (if s.l2Port n = n then (s, none) else s.schSelect n) with
  | (s, some x) => (s, some x)
  | (s, none) => s.schSelect (s.l2Port n)

/-- A PTP message on a PRP pair goes unchanged on the one port that its sender names, by its queue (R63, R90). -/
def State.prpPtp (s : State) (n : Nat) (b : List Byte) : Bool := n < 24 && s.pairMode (n / 2) == 1 && isPtp b

/-- The scheduler hands its next choice to port n, or discards it when the port is not Up (R351, R358). -/
def State.takeScheduled (s : State) (n : Nat) : State :=
  match (s.drainPaused n).portSelect n with
  | (s, none) => s
  | (s, some (q, f)) =>
    let m := s.qPort q
    let t : TxFrame := { bytes := f.bytes, queue := q + 1, pfc := f.pfc, fw := f.fw, vlan := f.vlan, cls := some f.cls }
    if s.prpPtp m f.bytes then
      (if !s.portUp m then s.headDrop q f false
       else s.setPort m (placeHanded (s.port m) { t with bytes := s.egressTag m t }))
    else if !s.anyUp n then s.headDrop q f false
    else s.sendVia n t placeHanded

/-- The next frame that waits at a port, and the port without it: publication, ring-forwarded, handed and not paused by PFC. -/
def State.nextFrame (s : State) (n : Nat) : Option (TxFrame × PortSt) :=
  let p := s.port n
  match p.pubs, p.ring with
  | f :: t, _ => some (f, { p with pubs := t })
  | [], f :: t => some (f, { p with ring := t })
  | [], [] => (p.handed.find? (fun f => !(s.framePfc n f).paused)).map (fun f => (f, { p with handed := p.handed.erase f }))

/-- Begin the next waiting frame of an Up port that is not sending. -/
def State.startFrame (s : State) (n : Nat) : State :=
  if !s.portUp n || (s.port n).onWire.isSome then s else
  match s.nextFrame n with
  | none => s
  | some (f, p) =>
    let b := if f.kind = 2 then s.tcCorrect n f.bytes ((s.egressStamp n s.tim.gtc : Int) - f.rxStart) else s.oneStep n f.bytes
    let f : TxFrame := { f with bytes := b, sofGtc := s.tim.gtc, sofSteps := s.rd TIM_STATUS.STEPS }
    s.draw.setPort n { p with onWire := some f }

/-- The frame boundary of port n: the frame on the wire ends, and the next is chosen (R94). -/
def State.txBoundary (s : State) (n : Nat) : State :=
  let p := s.port n
  let s := match p.onWire with
    | some f => (s.setPort n { p with onWire := none }).frameSent n f
    | none => s
  let s := if (s.nextFrame n).isNone then s.takeScheduled n else s
  s.startFrame n

/-- PORT_TX_BOUNDARY (R94): `port` 0 to 39, or 40 for the host port of R349. -/
def execPortTxBoundary (port : Nat) (s : State) : Host.Outcome State Fault Refusal :=
  if port < 40 then ok (s.txBoundary port) else if port = 40 then ok s.hostBoundary else ok s

/-- SHAPER_REFILL (R356): at the next whole µs every bucket refills; a port that sent nothing for want of credit tries again. -/
def execShaperRefill (s : State) : Host.Outcome State Fault Refusal :=
  let s := (s.advanceTo (s.nextScan 1000)).refillAll
  let due := (s.sch.queues.map (fun p => s.qPort p.1)).eraseDups
  ok (forEach due (fun n s =>
    if n = 40 then s.hostBoundary
    else if (s.pairPorts n).any (fun k => (s.port k).onWire.isSome) then s
    else forEach (s.pairPorts n) (fun k s => s.startFrame k) (s.takeScheduled n)) s)

/-! ## Publications at the ports (R230) -/

/-- A publication goes to the ports of a mask, each pair once; the result lists the selected ports that were not Up. -/
def State.handPub (s : State) (mask : Nat) (bytes : List Byte) (pub : Nat) (again : Bool) : State × List Nat :=
  let sel := ((List.range 24).filter (fun n => bitOf mask n)).map (fun n => (s.pairPorts n).headD n)
  let sel := sel.eraseDups
  let skipped := sel.flatMap (fun n => (s.pairPorts n).filter (fun k => !s.portUp k))
  let s := forEach sel (fun n s => s.sendVia n { bytes := bytes, kind := 1, pub := pub + 1, again := again } placePub) s
  (forEach (sel.flatMap s.pairPorts) (fun k s => s.startFrame k) s, skipped)

/-! ## Ring by-pass (R95 to R98) -/

/-- Publish FWD_READY (R96): the redundancy unit, or in Plain mode the L2 path, is initialised and not in reset. -/
def State.showFwd (s : State) (p : Nat) : State :=
  let up := bitOf (s.rd GLB_READY_BLK.READY) (Blk.bit .fpt) && (s.pairMode p != 0 || bitOf (s.rd GLB_READY_BLK.READY) (Blk.bit .fwt))
  s.wr FPT_PAIRp_STATUS.FWD_READY (b2n (up && !(s.pair p).inReset)) p

/-- The conditions of R96 that are present, as REASON codes. An expired keeper stays one until the next kick (R98). -/
def State.bypCauses (s : State) (p : Nat) : List Nat :=
  (if s.fpt.powerHold != 0 then [s.fpt.powerHold] else []) ++ (if (s.pair p).inReset then [9] else []) ++
  (if !s.on FPT_PAIRp_BYP.BYP_EN p || !s.on FPT_PORTn_CFG.ENABLE (2 * p) || !s.on FPT_PORTn_CFG.ENABLE (2 * p + 1) then [4] else []) ++
  (if s.on FPT_PAIRp_CTRL.FORCE_REL p then [8] else []) ++ (if !s.on FPT_PAIRp_STATUS.FWD_READY p then [5] else []) ++
  (if (s.pair p).keeperExpired then [6] else [])

/-- The first of them. -/
def State.bypCause (s : State) (p : Nat) : Option Nat := (s.bypCauses p).head?

/-- Set BSTATE; a change raises the pair's by-pass event, on its even port. REASON has a code for releases only: a change without one
(a loop check that fails, a link that drops in Settling) leaves it as it is (DESIGN CHOICE, log 34). -/
def State.setBstate (s : State) (p v : Nat) : State :=
  if s.rd FPT_PAIRp_STATUS.BSTATE p = v then s else
  let s := s.wr FPT_PAIRp_STATUS.BSTATE v p
  (s.setPair p { s.pair p with since := s.tick }).raise (portSource (2 * p) 3)

/-- A by-pass output takes a level, which PWR_BYP mirrors (R470). -/
def State.setDrive (s : State) (p : Nat) (v : Bool) : State :=
  (s.wr FPT_PAIRp_STATUS.DRIVE (b2n v) p).wr PWR_BYP.DRIVE (setBit (s.rd PWR_BYP.DRIVE) p v)

/-- Release the drive with a REASON and enter a state. -/
def State.bypRelease (s : State) (p reason st : Nat) : State :=
  let s := if s.on FPT_PAIRp_STATUS.DRIVE p then (s.setDrive p false).cal 49 else s
  (s.wr FPT_PAIRp_STATUS.REASON reason p).setBstate p st

/-- The loop-check frame of port n (R97): EtherType 0x88B5 to the port's own MAC address, with the pair's nonce; sent with the address
that the port sends with (R89). -/
def State.loopFrame (s : State) (n nonce : Nat) : List Byte :=
  padTo 60 (beBytes 6 (s.portMac n) ++ beBytes 6 (s.ownAddr n) ++ beBytes 2 0x88B5 ++ beBytes 4 nonce)

/-- Send one loop-check frame on each port and enter Checking. The nonce is a free value. -/
def State.loopCheck (s : State) (p : Nat) : State :=
  let nonce := Config.freeNat s.free % 2 ^ 32
  let s := s.draw
  let s := (s.setPair p { s.pair p with nonce := nonce, backA := false, backB := false }).setBstate p 1
  forEach [2 * p, 2 * p + 1] (fun n s =>
    (s.setPort n (placeHanded (s.port n) { bytes := s.loopFrame n nonce, kind := 4 })).startFrame n) s

/-- Let the by-pass table of a pair act on the conditions as they now are (R97): one that has come sets REASON, the first in the order of
`bypCauses` when several have, also where the drive was released already. -/
def State.bypCheck (s : State) (p : Nat) : State :=
  let s := s.showFwd p
  let both := s.portUp (2 * p) && s.portUp (2 * p + 1)
  let cs := s.bypCauses p
  let new := cs.filter (fun c => !(s.pair p).causes.contains c)
  let s := s.setPair p { s.pair p with causes := cs }
  match cs with
  | r :: _ =>
    if s.on FPT_PAIRp_STATUS.DRIVE p || s.on FPT_PAIRp_STATUS.BSTATE p then s.bypRelease p (new.headD r) 0
    else match new with
      | c :: _ => s.wr FPT_PAIRp_STATUS.REASON c p
      | [] => s
  | [] =>
    let st := s.rd FPT_PAIRp_STATUS.BSTATE p
    if st = 0 && both && (s.pair p).retryFrom.isNone then s.loopCheck p
    else if st = 2 && !both then s.setBstate p 0
    else s

/-- A pair neither of whose ports is in Reset leaves its reset: ports that a commit enabled meanwhile start (R99). -/
def State.pairSettle (s : State) (p : Nat) : State :=
  if s.lstate (2 * p) = 4 || s.lstate (2 * p + 1) = 4 then s else
  let was := (s.pair p).inReset
  let s := s.setPair p { s.pair p with inReset := false }
  let s := if was then forEach [2 * p, 2 * p + 1] (fun n s => if s.portEnabled n && s.lstate n = 0 then s.setLstate n 1 else s) s else s
  s.bypCheck p

/-- A link of a pair came Up: a Switching pair with both links Up is Driven. -/
def State.bypLinkUp (s : State) (p : Nat) : State :=
  if s.rd FPT_PAIRp_STATUS.BSTATE p = 3 && s.portUp (2 * p) && s.portUp (2 * p + 1) && (s.bypCause p).isNone then
    (s.setPair p { s.pair p with fails := 0 }).setBstate p 4
  else s.bypCheck p

/-- What follows a change of link state at port n. -/
def State.linkMoved (s : State) (n : Nat) : State := if n < 24 then s.bypLinkUp (n / 2) else s

/-! ## Link commands -/

/-- Does a port auto-negotiate: field modes 1 and 2, fabric media other than C2M, not while a lane is being tried (R83, R84,
R100)? -/
def State.negotiates (s : State) (n : Nat) : Bool :=
  if n < 24 then s.on FPT_PORTn_CFG.AN n && (s.rd FPT_PORTn_CFG.MODE n == 1 || s.rd FPT_PORTn_CFG.MODE n == 2)
  else
    let m := (n - 24) / 4
    s.on FPT_XPORTm_CFG.AN m && s.rd FPT_XPORTm_CFG.MEDIA m != 2 && (s.xport m).tryLane == 0

/-- Physical lanes that a fabric sub-port uses. -/
def State.lanesOf (s : State) (n : Nat) : List Nat :=
  let m := (n - 24) / 4
  if s.on FPT_XPORTm_CFG.SPLIT m then [bitsOf (s.rd FPT_XPORTm_LANEMAP.MAP m) (2 * ((n - 24) % 4)) 2]
  else if (s.xport m).x1 then [s.rd FPT_XPORTm_STATUS.DLANE m] else [0, 1, 2, 3]

/-- A port comes Up. -/
def State.comeUp (s : State) (n : Nat) : State :=
  let s := if n < 24 then s.wr FPT_PORTn_STATUS.RFAULT 0 n
    else s.setXport ((n - 24) / 4) { s.xport ((n - 24) / 4) with tryLane := 0 }
  (s.setLstate n 3).linkMoved n

/-- PORT_LOCK_ACQUIRED (R88): signal and lock held for 1 ms. -/
def execPortLockAcquired (port : Nat) (s : State) : Host.Outcome State Fault Refusal :=
  if 40 ≤ port || s.lstate port != 1 then ok s else
  let s := if port < 24 then s.wr FPT_PORTn_STATUS.SIG 1 port
    else
      let m := (port - 24) / 4
      s.wr FPT_XPORTm_STATUS.LANE_OK ((s.lanesOf port).foldl (fun v l => setBit v l true) (s.rd FPT_XPORTm_STATUS.LANE_OK m)) m
  if s.negotiates port then ok ((s.setPort port { s.port port with since := s.tick }).setLstate port 2)
  else ok (s.comeUp port)

/-- PORT_AN_COMPLETE (R88): auto-negotiation completes; `speed` is the in-band status of MODE 2, 0 or 1. -/
def execPortAnComplete (port speed : Nat) (s : State) : Host.Outcome State Fault Refusal :=
  if 40 ≤ port || s.lstate port != 2 then ok s else
  let s := if port < 24 && s.rd FPT_PORTn_CFG.MODE port = 2 then s.setPort port { s.port port with inband := speed % 2 + 1 } else s
  ok (s.comeUp port)

/-- PORT_AN_TIMEOUT (R88): no completion within 500 ms. -/
def execPortAnTimeout (port : Nat) (s : State) : Host.Outcome State Fault Refusal :=
  if 40 ≤ port || s.lstate port != 2 then ok s else
  let s := s.advanceTo ((s.port port).since + 500000000)
  ok ((s.setLstate port 1).linkMoved port)

/-- A port goes Down: transmit of new frames stops. -/
def State.goDown (s : State) (n : Nat) : State := ((s.cutFrames n).setLstate n 1).linkMoved n

/-- PORT_LINK_LOST (R88): lock lost (cause 0), hi_ber of 10GBASE-R (1), or remote fault (2). Negotiating ends by lock loss only. -/
def execPortLinkLost (port cause : Nat) (s : State) : Host.Outcome State Fault Refusal :=
  let st := s.lstate port
  let seen : Bool := decide (port < 40) && ((st == 3 && (cause == 0 || cause == 2 ||
    (cause == 1 && decide (port < 24) && s.rd FPT_PORTn_CFG.MODE port == 5))) || (st == 2 && cause == 0))
  if !seen then ok s else
  let s := if port < 24 then
      (if cause = 0 then s.wr FPT_PORTn_STATUS.SIG 0 port
       else if cause = 1 then s.raise (portSource port 1) else s.wr FPT_PORTn_STATUS.RFAULT 1 port)
    else s
  ok (s.goDown port)

/-- PORT_RESET_COMPLETE (R88, R99): a port's reset ends, within 100 µs; its pair leaves reset when neither port is in Reset. -/
def execPortResetComplete (port : Nat) (s : State) : Host.Outcome State Fault Refusal :=
  if 40 ≤ port || s.lstate port != 4 then ok s else
  let s := s.setLstate port (if s.portEnabled port then 1 else 0)
  ok (if port < 24 then (s.bypCheck (port / 2)).pairSettle (port / 2) else s)

/-! ## Pair commands -/

/-- Reset a pair (R99). What R99 does not name stays: FORCE_REL, which is a setting, and the counts of DDCNT are kept (DESIGN CHOICE, log 34). -/
def State.pairReset (s : State) (p : Nat) : State :=
  let q := s.pair p
  let s := s.setPair p { q with dd := [], seq := 0, supFrom := s.tick, inReset := true, retryFrom := none, fails := 0 }
  let s := s.wr FPT_PAIRp_STATUS.DD_USED 0 p
  let s := (s.resetPort (2 * p)).resetPort (2 * p + 1)
  ((s.bypRelease p 9 0).bypCheck p).pairSettle p

/-- PAIR_RESET (R99). -/
def execPairReset (p : Nat) (s : State) : Host.Outcome State Fault Refusal := if p < 12 then ok (s.pairReset p) else ok s

/-- FORCE_REL_WRITE (R96, R97): 1 holds the drive released; 0 leaves Locked-out. -/
def execForceRelWrite (p : Nat) (val : Bool) (s : State) : Host.Outcome State Fault Refusal :=
  if 12 ≤ p then ok s else
  let s := s.wr FPT_PAIRp_CTRL.FORCE_REL (b2n val) p
  let s := if !val && s.rd FPT_PAIRp_STATUS.BSTATE p = 5 then (s.setPair p { s.pair p with fails := 0 }).setBstate p 0 else s
  ok (s.bypCheck p)

/-- KEEPER_KICK (R98): restarts the keeper; after an expiry the drive may be asserted again. -/
def execKeeperKick (p : Nat) (s : State) : Host.Outcome State Fault Refusal :=
  if 12 ≤ p then ok s else
  ok ((s.setPair p { s.pair p with keeperFrom := s.tick, keeperExpired := false }).bypCheck p)

/-- KEEPER_EXPIRE (R98): TIMEOUT_MS after the last kick the drive is released; the odd port's source is raised. -/
def execKeeperExpire (p : Nat) (s : State) : Host.Outcome State Fault Refusal :=
  if 12 ≤ p || !s.on FPT_PAIRp_KEEPER.TIMEOUT_MS p || (s.pair p).keeperExpired then ok s else
  let s := s.advanceTo ((s.pair p).keeperFrom + 1000000 * s.rd FPT_PAIRp_KEEPER.TIMEOUT_MS p)
  let s := (s.setPair p { s.pair p with keeperExpired := true }).raise (portSource (2 * p + 1) 3)
  ok (s.bypCheck p)

/-- LOOP_CHECK_TIMEOUT (R97): no return within 10 ms; a retry waits 100 ms. -/
def execLoopCheckTimeout (p : Nat) (s : State) : Host.Outcome State Fault Refusal :=
  if 12 ≤ p || s.rd FPT_PAIRp_STATUS.BSTATE p != 1 then ok s else
  let s := s.advanceTo ((s.pair p).since + 10000000)
  ok ((s.setPair p { s.pair p with retryFrom := some s.tick }).setBstate p 0)

/-- LOOP_CHECK_RETRY (R97): the 100 ms end. -/
def execLoopCheckRetry (p : Nat) (s : State) : Host.Outcome State Fault Refusal :=
  match (s.pair p).retryFrom with
  | none => ok s
  | some t =>
    let s := s.advanceTo (t + 100000000)
    ok ((s.setPair p { s.pair p with retryFrom := none }).bypCheck p)

/-- BYPASS_SETTLE_EXPIRE (R97): the links stayed Up for SETTLE_MS; the drive is asserted. -/
def execBypassSettleExpire (p : Nat) (s : State) : Host.Outcome State Fault Refusal :=
  if 12 ≤ p || s.rd FPT_PAIRp_STATUS.BSTATE p != 2 then ok s else
  let s := s.advanceTo ((s.pair p).since + 1000000 * s.rd FPT_PAIRp_BYP.SETTLE_MS p)
  ok ((s.setDrive p true).setBstate p 3)

/-- BYPASS_SWITCH_TIMEOUT (R97): SWITCH_MS runs out; with both links Up the pair is Driven, else the drive is released with
REASON 7, and the third consecutive failure locks the pair out. -/
def execBypassSwitchTimeout (p : Nat) (s : State) : Host.Outcome State Fault Refusal :=
  if 12 ≤ p || s.rd FPT_PAIRp_STATUS.BSTATE p != 3 then ok s else
  let s := s.advanceTo ((s.pair p).since + 1000000 * max 1 (s.rd FPT_PAIRp_BYP.SWITCH_MS p))
  if s.portUp (2 * p) && s.portUp (2 * p + 1) then ok ((s.setPair p { s.pair p with fails := 0 }).setBstate p 4) else
  let n := (s.pair p).fails + 1
  let s := s.setPair p { s.pair p with fails := n }
  ok ((s.bypRelease p 7 (if 3 ≤ n then 5 else 0)).bypCheck p)

/-! ## Supervision (R93) -/

/-- A supervision frame of IEC 62439-3 (PRESUMED layout, log 33): PRP or HSR life-check of the node, with a RedBox TLV in mode 3. -/
def State.supFrame (s : State) (p : Nat) : List Byte :=
  let mac := beBytes 6 (s.portMac (2 * p))
  let prp := s.pairMode p == 1
  let tlv1 := beBytes 1 (if prp then 20 else 23) ++ beBytes 1 6 ++ mac
  let tlv2 := if s.pairMode p == 3 then beBytes 1 30 ++ beBytes 1 6 ++ mac else []
  padTo (if prp then 60 else 54) (beBytes 6 0x01154E000100 ++ mac ++ beBytes 2 0x88FB ++ beBytes 2 1 ++ beBytes 2 (s.pair p).supSeq ++
    tlv1 ++ tlv2 ++ beBytes 2 0)

/-- SUPERVISION_TX (R93): every INTERVAL_MS on both ports, in modes 1 to 3. -/
def execSupervisionTx (p : Nat) (s : State) : Host.Outcome State Fault Refusal :=
  if 12 ≤ p || s.pairMode p = 0 || !s.on FPT_PAIRp_SUP.INTERVAL_MS p then ok s else
  let s := s.advanceTo ((s.pair p).supFrom + 1000000 * s.rd FPT_PAIRp_SUP.INTERVAL_MS p)
  let b := s.supFrame p
  let s := s.setPair p { s.pair p with supFrom := s.tick, supSeq := ((s.pair p).supSeq + 1) % 2 ^ 16 }
  let s := s.sendVia (2 * p) { bytes := b } placeHanded
  ok (forEach [2 * p, 2 * p + 1] (fun n s => s.startFrame n) s)

/-! ## Fabric width (R100) and PFC (R101) -/

/-- The fabric port stops and comes back at x1 on a lane; a change of its width raises k = 1 (R105). A port in Reset takes the width when
the reset ends. -/
def State.goX1 (s : State) (m lane try_ : Nat) : State :=
  let was := (s.xport m).x1
  let s := s.setXport m { s.xport m with x1 := true, tryLane := try_, trySince := s.tick }
  let s := s.wr FPT_XPORTm_STATUS.DLANE lane m
  let s := if s.lstate (24 + 4 * m) = 4 then s.showFabric m else s.goDown (24 + 4 * m)
  if was then s else s.raise (portSource (24 + 4 * m) 1)

/-- FABRIC_DEGRADE (R100): DEGRADE.GO with its LANE; ignored when SPLIT is 1. -/
def execFabricDegrade (m lane : Nat) (s : State) : Host.Outcome State Fault Refusal :=
  if 4 ≤ m then ok s else
  let s := s.wr FPT_XPORTm_DEGRADE.LANE lane m
  if s.on FPT_XPORTm_CFG.SPLIT m || s.lstate (24 + 4 * m) = 0 then ok s else ok (s.goX1 m (lane % 4) 0)

/-- FABRIC_RESTORE (R100): retrains at x4; the port returns to x1 if that fails. -/
def execFabricRestore (m : Nat) (success : Bool) (s : State) : Host.Outcome State Fault Refusal :=
  if 4 ≤ m || s.on FPT_XPORTm_CFG.SPLIT m || s.lstate (24 + 4 * m) = 0 || !(s.xport m).x1 then ok s else
  if success then
    let s := s.setXport m { s.xport m with x1 := false, tryLane := 0 }
    ok ((s.goDown (24 + 4 * m)).raise (portSource (24 + 4 * m) 1))
  else ok (s.goDown (24 + 4 * m))

/-- The healthy physical lanes of a fabric port. -/
def State.healthy (s : State) (m : Nat) : List Nat := (List.range 4).filter (fun l => bitOf (s.rd FPT_XPORTm_STATUS.LANE_OK m) l)

/-- FABRIC_LANE_LOST (R100): a lane is lost for 10 ms. The loss of a lane that the enabled port uses degrades it, whatever its link state,
when AUTO_DEGRADE is 1. -/
def execFabricLaneLost (m lane : Nat) (s : State) : Host.Outcome State Fault Refusal :=
  if 4 ≤ m || 4 ≤ lane then ok s else
  let s := s.wr FPT_XPORTm_STATUS.LANE_OK (setBit (s.rd FPT_XPORTm_STATUS.LANE_OK m) lane false) m
  let s := s.raise (portSource (24 + 4 * m) 1)
  let hit := (List.range 4).filter (fun j => s.lstate (24 + 4 * m + j) != 0 && s.lstate (24 + 4 * m + j) != 1 &&
    (s.lanesOf (24 + 4 * m + j)).contains lane)
  let s := forEach hit (fun j s => s.goDown (24 + 4 * m + j)) s
  if s.on FPT_XPORTm_CFG.SPLIT m || !s.on FPT_XPORTm_CFG.AUTO_DEGRADE m || s.lstate (24 + 4 * m) = 0 ||
    !(s.lanesOf (24 + 4 * m)).contains lane then ok s else
  match s.healthy m with
  | [] => ok s
  | l :: _ => ok (s.goX1 m l (l + 1))

/-- FABRIC_DEGRADE_DWELL (R100): 100 ms on one lane end without link; the next healthy lane is tried. -/
def execFabricDegradeDwell (m : Nat) (s : State) : Host.Outcome State Fault Refusal :=
  let x := s.xport m
  if 4 ≤ m || x.tryLane = 0 || s.portUp (24 + 4 * m) then ok s else
  let s := s.advanceTo (x.trySince + 100000000)
  let l := nextIn (s.healthy m) (x.tryLane - 1)
  ok ((s.setXport m { x with tryLane := l + 1, trySince := s.tick }).wr FPT_XPORTm_STATUS.DLANE l m)

/-- Set one priority of a fabric sub-port under PFC. -/
def State.setPfc (s : State) (n c : Nat) (v : PfcSt) : State := { s with fpt := { s.fpt with pfc := tabSet s.fpt.pfc (8 * n + c) v } }

/-- Ticks of `q` pause quanta of 512 bit times at a sub-port's speed. -/
def State.pauseTicks (s : State) (n q : Nat) : Nat :=
  let m := (n - 24) / 4
  let gbps := if s.on FPT_XPORTm_CFG.SPLIT m || (s.xport m).x1 then 25 else 100
  (q * 512 + gbps - 1) / gbps

/-- A PFC frame is honoured on the priorities of PFC_EN (R101). -/
def State.pfcReceived (s : State) (n : Nat) (b : List Byte) : State :=
  let en := beAt b 16 2
  State.startFrame (n := n) <| forEach (List.range 8) (fun c s =>
    if !bitOf en c || !bitOf (s.rd FPT_XPORTm_CFG.PFC_EN ((n - 24) / 4)) c then s else
    let q := beAt b (18 + 2 * c) 2
    let v := tabGet s.fpt.pfc (8 * n + c)
    if q = 0 then s.setPfc n c {}
    else s.setPfc n c { v with paused := true, until_ := s.tick + s.pauseTicks n q, since := if v.paused then v.since else s.tick }) s

/-- PFC_PAUSE_TIME_EXPIRE (R101): the pause time runs out and the priority may send again. -/
def execPfcPauseTimeExpire (port prio : Nat) (s : State) : Host.Outcome State Fault Refusal :=
  let v := tabGet s.fpt.pfc (8 * port + prio)
  if port < 24 || 40 ≤ port || 8 ≤ prio || !v.paused then ok s else
  ok (((s.advanceTo v.until_).setPfc port prio {}).startFrame port)

/-- PFC_WATCHDOG_EXPIRE (R101): a priority stays paused for WD_MS; its egress frames are discarded until the pause ends. -/
def execPfcWatchdogExpire (port prio : Nat) (s : State) : Host.Outcome State Fault Refusal :=
  let v := tabGet s.fpt.pfc (8 * port + prio)
  let wd := s.rd FPT_XPORTm_PFC_WD.WD_MS ((port - 24) / 4)
  if port < 24 || 40 ≤ port || 8 ≤ prio || !v.paused || v.discard || wd = 0 then ok s else
  let t := v.since + 1000000 * wd
  if v.until_ < t then ok s else
  let s := (s.advanceTo t).setPfc port prio { v with discard := true }
  ok ((s.drainPaused port).raise (portSource port 3) [i8 ((port - 24) % 4), i8 prio])

/-! ## Duplicate discard (R92) -/

/-- Verdict of a sequence test. -/
inductive SeqRes where
  | pass | old | dup (again : Bool)
  deriving DecidableEq, Repr

/-- Test sequence number `q` and mark it. Bit i of `twice` is H − i. -/
def seqTest (m : SeqMap) (q : Nat) : SeqRes × SeqMap :=
  if !m.valid then (.pass, { valid := true, h := q, map := 0, twice := 0 }) else
  let d := (q + 2 ^ 16 - m.h) % 2 ^ 16
  if d = 0 then (.dup (bitOf m.twice 0), { m with twice := setBit m.twice 0 true })
  else if d ≤ 2 ^ 15 then
    if 64 < d then (.pass, { m with h := q, map := 0, twice := 0 })
    else (.pass, { m with h := q, map := (m.map * 2 ^ d + 2 ^ (d - 1)) % 2 ^ 64, twice := m.twice * 2 ^ d % 2 ^ 65 })
  else
    let k := 2 ^ 16 - d
    if 64 < k then (.old, m)
    else if bitOf m.map (k - 1) then (.dup (bitOf m.twice k), { m with twice := setBit m.twice k true })
    else (.pass, { m with map := setBit m.map (k - 1) true })

/-- Publish DD_USED. -/
def State.showDd (s : State) (p : Nat) : State := s.wr FPT_PAIRp_STATUS.DD_USED ((s.pair p).dd.filter (fun e => e.2.used)).length p

/-- The entry for a source, created when it has none; in a full table the entry with the oldest last use is overwritten. -/
def State.ddEntry (s : State) (p mac : Nat) : State × DdEntry :=
  let q := s.pair p
  let e := tabGet q.dd mac
  if e.used then (s, e) else
  let used := q.dd.filter (fun e => e.2.used)
  if used.length < 4096 then (s, { used := true }) else
  let oldest := used.foldl (fun (a : Nat × DdEntry) b => if b.2.last < a.2.last then b else a) (used.headD (0, {}))
  let s := s.setPair p { q with dd := tabSet q.dd oldest.1 {} }
  ((s.bump FPT_PAIRp_DDCNT.DD_OVF p).raise (portSource (2 * p) 2), { used := true })

/-- Store an entry used now. -/
def State.ddStore (s : State) (p mac : Nat) (e : DdEntry) : State :=
  let q := s.pair p
  (s.setPair p { q with dd := tabSet q.dd mac { e with last := s.tick } }).showDd p

/-- The delivery test of a frame from `mac` with number `q` at port n: may it be delivered? -/
def State.ddDeliver (s : State) (n mac q : Nat) : State × Bool :=
  let p := n / 2
  let r := s.ddEntry p mac
  let t := seqTest r.2.dl q
  let s := r.1.ddStore p mac { r.2 with dl := t.2 }
  match t.1 with
  | .pass => (s.lreCount n 3, true)
  | .old => ((s.bump FPT_PAIRp_DDCNT.DD_OLD p).raise (portSource (2 * p) 2), true)
  | .dup again =>
    let s := (if again then (s.lreCount n 5).raise (portSource n 2) else s.lreCount n 4).cal 195
    (s, false)

/-- The forwarding test for the port the frame would leave by. -/
def State.ddForward (s : State) (egress mac q : Nat) : State × Bool :=
  let p := egress / 2
  let r := s.ddEntry p mac
  let t := seqTest (if egress % 2 = 0 then r.2.fwA else r.2.fwB) q
  let s := r.1.ddStore p mac (if egress % 2 = 0 then { r.2 with fwA := t.2 } else { r.2 with fwB := t.2 })
  (s, match t.1 with | .dup _ => false | _ => true)

/-- DD_ENTRY_EXPIRE (R92): an entry unused for WINDOW × 10 µs is freed. -/
def execDdEntryExpire (p mac : Nat) (s : State) : Host.Outcome State Fault Refusal :=
  let q := s.pair p
  let e := tabGet q.dd mac
  if 12 ≤ p || !e.used then ok s else
  let s := s.advanceTo (e.last + 10000 * max 1 (s.rd FPT_PAIRp_DD.WINDOW p))
  ok ((s.setPair p { q with dd := tabSet q.dd mac {} }).showDd p)

end Sys2Proof.Machine
end

