-- ==== Sys2Proof/Machine/Pipeline.lean ====
section
/-!
DEFINITION. The ingress pipelines (chapter 5) and the reception of frames (R86, R87, R90 to R92, R106).
-/
namespace Sys2Proof.Machine

/-! ## Traps (R118 to R120) -/

/-- Real-time class bytes: an unlisted byte reads 0 (DESIGN CHOICE, log 3). -/
def rtShip (_ : Nat) : Byte := 0#8

/-- Write real-time class memory. -/
def State.rtWrite (s : State) (a : Nat) (b : List Byte) : State := { s with rt := memWrite rtShip s.rt a b }

/-- Read real-time class memory. -/
def State.rtRead (s : State) (a n : Nat) : List Byte := memRead rtShip s.rt a n

/-- Base of trap ring r. -/
def State.trapBase (s : State) (r : Nat) : Nat := s.rd PPL_TRAPr_BASE_LO.BASE r + s.rd PPL_TRAPr_BASE_HI.BASE r * 2 ^ 32

/-- What the pipeline knows of a frame when it traps it. -/
structure TrapInfo where
  reason : Nat := 0
  profile : Nat := 0
  parity : Bool := false
  vid : Nat := 0
  pcp : Nat := 0
  key : List Byte := []
  metad : List Byte := []

/-- The trap record of R120, 128 bytes. -/
def trapRecord (f : RxFrame) (i : TrapInfo) (seq : Nat) : List Byte :=
  let sec := f.startGtc / nsPerSec
  let len := f.bytes.length
  let q0 := f.startGtc % nsPerSec + sec % 2 ^ 32 * 2 ^ 32
  let q1 := sec / 2 ^ 32 % 2 ^ 16 + f.port % 64 * 2 ^ 16 + i.reason * 2 ^ 22 + i.profile * 2 ^ 24 + b2n i.parity * 2 ^ 30 +
    b2n (decide (1920 < len)) * 2 ^ 31 + len % 2 ^ 14 * 2 ^ 32 + f.startSteps % 2 ^ 16 * 2 ^ 48
  let q2 := i.vid + i.pcp * 2 ^ 12 + b2n (isTagged f.bytes) * 2 ^ 15 + (if i.reason = 0 then 4091 else 0) * 2 ^ 16 +
    seq % 2 ^ 32 * 2 ^ 32
  leBytes 8 q0 ++ leBytes 8 q1 ++ leBytes 8 q2 ++ (padTo 16 i.key) ++ (padTo 48 i.metad) ++ List.replicate 40 0#8

/-- An admitted trap goes to its ring, or is dropped when the ring is full or disabled (R119). -/
def State.trapWrite (s : State) (f : RxFrame) (i : TrapInfo) : State :=
  let r := s.rd PPL_PORTn_CFG.TRAP_RING f.port
  let s := (s.count PPL_PORTn_cnt_LO.COUNT f.port 4).cal 243 1 { tc := f.cls }
  let prod := s.rd PPL_TRAPr_PROD.PROD r
  let used := (prod + 2 ^ 32 - s.rd PPL_TRAPr_CONS.CONS r) % 2 ^ 32
  let slots := 2 ^ s.rd PPL_TRAPr_SIZE.LOG2 r
  if !s.on PPL_TRAPr_SIZE.ENABLE r || slots ≤ used then (s.bump PPL_TRAPr_DROP.COUNT r).raise 168 [i8 r]
  else
    let seq := tabGet s.ppl.trapSeq r
    let a := s.trapBase r + 2048 * (prod % slots)
    let s := s.rtWrite a (trapRecord f i seq ++ f.bytes.take 1920)
    let s := { s with ppl := { s.ppl with trapSeq := tabSet s.ppl.trapSeq r ((seq + 1) % 2 ^ 32) } }
    let s := s.wr PPL_TRAPr_PROD.PROD ((prod + 1) % 2 ^ 32) r
    if used = 0 then s.raise (160 + r) else s

/-- Every trap passes the limiter of its port and reason (R118). -/
def State.trap (s : State) (f : RxFrame) (i : TrapInfo) : State :=
  let k := 4 * f.port + i.reason
  let c := tabGet s.ppl.credit k
  if c < 1000 then (s.count PPL_PORTn_cnt_LO.COUNT f.port 5).raise 169 [i8 f.port, i8 i.reason]
  else State.trapWrite { s with ppl := { s.ppl with credit := tabSet s.ppl.credit k (c - 1000) } } f i

/-- TRAP_LIMITER_REFILL (R118): every 1 ms each credit rises by RATE, to at most BURST × 1,000. -/
def execTrapLimiterRefill (s : State) : Host.Outcome State Fault Refusal :=
  let s := s.advanceTo (s.nextScan 1000000)
  ok (forEach (List.range 160) (fun k s =>
    let cap := 1000 * max 1 (s.rd PPL_PORTn_LIMr.BURST (k / 4) (k % 4))
    let c := min (tabGet s.ppl.credit k + s.rd PPL_PORTn_LIMr.RATE (k / 4) (k % 4)) cap
    { s with ppl := { s.ppl with credit := tabSet s.ppl.credit k c } }) s)

/-- TRAP_CONS_WRITE (PPL_TRAPr_CONS): frees slots; a value above PROD (ahead of it by less than 2^31) is discarded and counted. -/
def execTrapConsWrite (r : Nat) (val : Word) (s : State) : Host.Outcome State Fault Refusal :=
  if 8 ≤ r then ok s else
  let ahead := (val.toNat + 2 ^ 32 - s.rd PPL_TRAPr_PROD.PROD r) % 2 ^ 32
  if ahead != 0 && ahead < 2 ^ 31 then ok s.bad else ok (s.wr PPL_TRAPr_CONS.CONS val.toNat r)

/-! ## Profiles (R109 to R112) -/

/-- Word `w` of the live profile `p` (window 3). -/
def State.profWord (s : State) (p w : Nat) : Nat := (s.winWord 3 false (64 * p + w)).toNat

/-- The masked bytes of a field; bytes beyond the frame read 0. -/
def fieldBytes (b : List Byte) (v : Nat) : List Byte :=
  let n := bitsOf v 8 4 + 1
  let raw := padTo n (slice b (bitsOf v 0 8) n)
  let raw := match raw with | x :: t => (x &&& BitVec.ofNat 8 (bitsOf v 16 8)) :: t | [] => []
  raw.take (n - 1) ++ (raw.drop (n - 1)).map (fun x => x &&& BitVec.ofNat 8 (bitsOf v 24 8))

/-- The VALID fields of a profile, as words. -/
def State.profFields (s : State) (p : Nat) : List Nat :=
  ((List.range 16).map (fun f => s.profWord p f)).filter (fun v => bitOf v 13)

/-- The profile of a frame (R109). -/
def State.selectProfile (s : State) (n : Nat) (b : List Byte) : Option Nat :=
  let pset := s.rd PPL_PORTn_CFG.PSET n
  let hit := (List.range 128).find? (fun k => s.on PPL_SELk_MATCH.VALID k && bitOf (s.rd PPL_SELk_MATCH.PSET_MASK k) pset &&
    (match s.rd PPL_SELk_MATCH.TAG k with | 1 => !isTagged b | 2 => isTagged b | _ => true) &&
    s.rd PPL_SELk_MATCH.ETYPE k == etherType b)
  match hit with
  | some k => some (s.rd PPL_SELk_PROF.PROFILE k)
  | none => if s.on PPL_PORTn_CFG.DEF_PROF_EN n then some (s.rd PPL_PORTn_CFG.DEF_PROFILE n) else none

/-- The bad length of R112. -/
def State.badLength (s : State) (p : Nat) (b : List Byte) : Bool :=
  (s.profFields p).any (fun v => decide (b.length < bitsOf v 0 8 + bitsOf v 8 4 + 1)) ||
  (decide (typeLen b < 0x600) && decide (b.length < typeLen b + payloadAt b))

/-! ## Actions (R114 to R117) -/

/-- Publish the ingest FIFO's level (SVI_FIFO). -/
def State.showSvFifo (s : State) : State :=
  let n := s.ppl.svIn.length
  (s.wr SVI_FIFO.LEVEL n).wr SVI_FIFO.HIGH (max n (s.rd SVI_FIFO.HIGH))

/-- Hand a frame to the ingest unit's input FIFO (R165). Source 200 is limited for each port (R168). -/
def State.toIngest (s : State) (f : RxFrame) : State :=
  let s := s.count SVI_cnt_LO.COUNT 0
  if 256 ≤ s.ppl.svIn.length then (s.count SVI_cnt_LO.COUNT 5).raise 200 [i16 s.ppl.svIn.length] none (some f.port)
  else State.showSvFifo { s with ppl := { s.ppl with svIn := s.ppl.svIn ++ [f] } }

/-- The key of the PFC use of a frame's ingress sub-port and priority, plus 1 (R359). -/
def pfcKey (port pcp : Nat) : Nat := if port < 24 then 0 else 8 * port + pcp + 1

/-- Send a frame to a queue (R115). -/
def State.toQueue (s : State) (f : RxFrame) (i : TrapInfo) (q cls colour : Nat) : State :=
  if q ≤ 4090 then
    (s.schEnqueue q { bytes := f.bytes, port := f.port, cls := cls, colour := colour, prio := i.pcp
                      pfc := pfcKey f.port i.pcp, vlan := some i.vid }).1
  else if q = 4091 then s.trap f { i with reason := 0 }
  else if q = 4092 then s.toIngest { f with metad := i.metad }
  else if q = 4093 then s.toIngest { f with metad := i.metad, goose := true }
  else if q = 4094 then { s with ppl := { s.ppl with rmaIn := s.ppl.rmaIn ++ [{ f with metad := i.metad }] } }
  else s.count PPL_PORTn_cnt_LO.COUNT f.port 6

/-- COLOUR 3 is red. -/
def preColour (a : Nat) : Nat := min 2 (bitsOf a 27 2)

/-- The events of a frame that its class belongs to: received, looked up, hit or missed, by the reason of its record (R431). -/
def classEvents (reason : Nat) : List Nat :=
  if reason = 0 then [192, 240, 241] else if reason = 1 then [192, 240, 242] else [192]

/-- Apply an action word (R114), which gives the frame its class. -/
def State.applyAction (s : State) (f : RxFrame) (i : TrapInfo) (a : Nat) : State :=
  let cls := bitsOf a 29 3
  let f := { f with cls := some cls }
  let s := forEach (classEvents i.reason) (fun e s => s.calClass e cls) s
  if bitOf a 26 then
    let r := s.l2Forward f.port i.vid cls (dstMac f.bytes)
    forEach r.2 (fun q s => s.toQueue f i q cls (preColour a)) r.1
  else s.toQueue f i (bitsOf a 0 12) cls (preColour a)

/-- A frame with an exception is trapped or takes the default action (R117). -/
def State.exception (s : State) (f : RxFrame) (i : TrapInfo) (trap : Bool) : State :=
  if trap then s.trap f i
  else
    let s := if i.reason = 3 then s.raise 170 [i8 f.port] else s
    s.applyAction f i (s.rd PPL_PORTn_DEFACT.ACTION f.port)

/-- Pipeline of a port (R85). -/
def pipeOf (n : Nat) : Nat := if n < 12 || (24 ≤ n && n < 32) then 0 else 1

/-- PVID and PCP of a port; a fabric sub-port has no register for them and is given 0. -/
def State.pvid (s : State) (n : Nat) : Nat := if n < 24 then s.rd FPT_PORTn_VLAN.PVID n else 0
def State.pcpOf (s : State) (n : Nat) : Nat := if n < 24 then s.rd FPT_PORTn_VLAN.PCP n else 0

/-- A frame passes its pipeline: selection, length, lookup, action (R113). -/
def State.classify (s : State) (f : RxFrame) : State :=
  let b := f.bytes
  let vlan := isTagged b && tagVid b != 0
  let i : TrapInfo := { vid := if vlan then tagVid b else s.pvid f.port, pcp := if vlan then tagPcp b else s.pcpOf f.port }
  let s := s.learn f.port i.vid (srcMac b)
  match s.selectProfile f.port b with
  | none =>
    (s.count PPL_PORTn_cnt_LO.COUNT f.port 2).exception f { i with reason := 2 } (s.on PPL_PORTn_CFG.EXC_PARSE f.port)
  | some p =>
    let flds := s.profFields p
    let key := padTo 16 (((flds.filter (fun v => bitOf v 12)).flatMap (fieldBytes b)).take 16)
    let metad := ((flds.filter (fun v => !bitOf v 12)).flatMap (fieldBytes b)).take 48
    let i := { i with profile := p, key := key, metad := metad }
    if s.badLength p b then
      (s.count PPL_PORTn_cnt_LO.COUNT f.port 3).exception f { i with reason := 3 } (s.on PPL_PORTn_CFG.EXC_BADLEN f.port)
    else
      let t := 1 + pipeOf f.port
      let port := if bitOf (s.profWord p 16) 1 then f.port else 0
      match (s.cal 240).fwtLookup t false (clsKey p port key) with
      | (s, some e, _) =>
        let a := bitsOf (s.fwtEntry t false e) 160 32
        ((s.count PPL_PORTn_cnt_LO.COUNT f.port 0).cal 241).applyAction f i a
      | (s, none, par) =>
        ((s.count PPL_PORTn_cnt_LO.COUNT f.port 1).cal 242).exception f { i with reason := 1, parity := par }
          (s.on PPL_PORTn_CFG.EXC_MISS f.port)

/-! ## Reception -/

/-- Is a frame refused by ACCEPT (R87)? A priority-tagged frame is not tagged in this sense. -/
def State.refusedByAccept (s : State) (n : Nat) (b : List Byte) : Bool :=
  let tagged := isTagged b && tagVid b != 0
  n < 24 && (match s.rd FPT_PORTn_VLAN.ACCEPT n with | 1 => !tagged | 2 => tagged | _ => false)

/-- A frame that the redundancy unit delivers enters its pipeline, unless ACCEPT refuses it (R106). -/
def State.enter (s : State) (f : RxFrame) : State :=
  if s.refusedByAccept f.port f.bytes then s.macCount f.port 8 else s.classify f

/-- Is `mac` this node's: the pair's address, or in a RedBox that of a SAN learned on the interlink port (R89, R91)? -/
def State.ownMac (s : State) (p vid mac : Nat) : Bool :=
  mac == s.portMac (2 * p) ||
  (s.pairMode p == 3 && (match s.fwtFind 0 false (l2Key vid mac) with
    | some i =>
      let v := s.fwtEntry 0 false i
      l2Type v == 0 && l2Dest v % 64 == s.l2Port (s.rd FPT_PAIRp_CFG.INTERLINK p)
    | none => false))

/-- Is an HSR port idle, so that a frame is cut through on it (R91)? -/
def State.hsrIdle (s : State) (n : Nat) : Bool :=
  s.portUp n && (s.port n).onWire.isNone && (s.port n).pubs.isEmpty && (s.port n).ring.isEmpty

/-- Forward an HSR frame on the other port: cut through when that port is idle, else stored when its FCS is good (R91). -/
def State.hsrForward (s : State) (egress : Nat) (f : RxFrame) (good : Bool) : State :=
  let p := s.port egress
  let b := f.bytes
  if !s.portUp egress then s else
  if s.hsrIdle egress then
    let s := (s.out (.frame egress (s.tcCorrect egress b (s.cutResidence egress b : Nat)) (!good))).draw
    let s := (s.hsrCount egress 0).cal 194
    if good then ((s.macCount egress 0).macCount egress 1 (b.length - 14)).lreCount egress 0
    else s.hsrCount egress 1
  else if good then s.setPort egress { p with ring := p.ring ++ [{ bytes := b, kind := 2, lre := true, rxStart := f.startGtc }] }
  else s

/-- The loop-check frame of a Checking pair returns on its own port (R97). -/
def State.loopReturned (s : State) (n : Nat) : State :=
  let p := n / 2
  let q := s.pair p
  let q : PairSt := if n % 2 = 0 then { q with backA := true } else { q with backB := true }
  let s := s.setPair p q
  if q.backA && q.backB then s.setBstate p 2 else s

/-- Is a frame the loop-check frame that port n sent and its pair waits for? -/
def State.isLoopCheck (s : State) (n : Nat) (b : List Byte) : Bool :=
  n < 24 && s.rd FPT_PAIRp_STATUS.BSTATE (n / 2) == 1 && beAt b 12 2 == 0x88B5 && dstMac b == s.portMac n &&
    beAt b 14 4 == (s.pair (n / 2)).nonce

/-- A frame at a port of a PRP pair (R90, R92). A PTP message bypasses duplicate discard, and loses its RCT like any other frame (R63). -/
def State.prpReceive (s : State) (f : RxFrame) : State :=
  let n := f.port
  match rctOf f.bytes with
  | none => s.enter f
  | some (seq, lan) =>
    let s := s.lreCount n 1
    let s := if lan = (if n % 2 = 0 then 0xA else 0xB) then s else (s.lreCount n 2).raise (portSource n 2)
    let bare : RxFrame := { f with bytes := f.bytes.take (f.bytes.length - 6) }
    if isPtp f.bytes then s.enter bare else
    let r := s.ddDeliver n (srcMac f.bytes) seq
    if r.2 then r.1.enter bare else r.1

/-- A frame at a port of an HSR pair (R91, R92). A frame without an HSR tag is delivered and not forwarded. One with a bad FCS is tested
and marked for the port it is cut through on, and one that would be stored is dropped unmarked. -/
def State.hsrReceive (s : State) (f : RxFrame) (good : Bool) : State :=
  let n := f.port
  let p := n / 2
  let egress := otherPort n
  match hsrOf f.bytes with
  | none => if good then s.enter f else s
  | some (o, _, seq) =>
    let s := if good then s.lreCount n 1 else s
    let vid := if isTagged f.bytes then tagVid f.bytes else s.pvid n
    let src := srcMac f.bytes
    let dst := dstMac f.bytes
    if s.ownMac p vid src then (if good then s.lreCount n 6 else s) else
    let mine := s.ownMac p vid dst
    let r := if (mine && !s.on FPT_PAIRp_CFG.HSR_MODE p) || (!good && !s.hsrIdle egress) then (s, false)
      else s.ddForward egress src seq
    let s := if r.2 then r.1.hsrForward egress f good else r.1
    if !good || !(mine || isGroup dst) then s else
    let d := s.ddDeliver n src seq
    if d.2 then d.1.enter { f with bytes := stripHsr f.bytes o } else d.1

/-- A frame with a bad FCS (R105). -/
def State.fcsError (s : State) (n : Nat) : State :=
  let s := s.macCount n 4
  if 24 ≤ n then s else
  let p := s.port n
  let p : PortSt := if p.fcsSec = s.sec then p else { p with fcsSec := s.sec, fcsCount := 0, fcsTold := false }
  let th := s.rd FPT_PORTn_ERR.FCS_THRESH n
  let p := { p with fcsCount := p.fcsCount + 1 }
  if th != 0 && th ≤ p.fcsCount && !p.fcsTold then (s.setPort n { p with fcsTold := true }).raise (portSource n 1)
  else s.setPort n p

/-- The longest frame a port accepts, FCS included (R86); a fabric sub-port has no MAX_FRAME and takes 9,216. -/
def State.maxFrame (s : State) (n : Nat) : Nat :=
  if n < 24 then min 9216 (s.rd FPT_PORTn_CFG.MAX_FRAME n) + (if s.redundant n then 6 else 0) else 9216

/-- Is a length field out of range: it states other than the number of data bytes, padding apart? -/
def inRangeError (b : List Byte) : Bool :=
  let n := b.length - payloadAt b
  typeLen b < 0x600 && (if typeLen b < 46 then decide (46 < n) || decide (n < typeLen b) else decide (n ≠ typeLen b))

/-- What the receiver found on the way counts: invalid symbols, and on a fabric port its FEC codewords (R104, R105). -/
def State.rxMarks (s : State) (n : Nat) (m : RxMarks) : State :=
  let s := if m.symbol then s.macCount n 13 else s
  if n < 24 then s else
  let x := (n - 24) / 4
  let s := (s.bump FPT_XPORTm_FEC_CORR.COUNT x 0 m.corrected).bump FPT_XPORTm_FEC_UNC.COUNT x 0 m.uncorrected
  if m.uncorrected = 0 then s else s.raise (portSource n 2)

/-- The stamps of a received frame, with the path before the reference plane taken off, in whole nanoseconds, rounded down (R62; DESIGN CHOICE, log 33). -/
def State.stamped (s : State) (port : Nat) (bytes : List Byte) (startTick endTick : Nat) : RxFrame :=
  let ing := sgn 16 (s.rd TIM_TSCOMPn.ING port) / 4
  { bytes := bytes, port := port, startGtc := (s.gtcAt startTick - ing).toNat, endGtc := (s.gtcAt endTick - ing).toNat
    endTick := endTick, steps := s.stepsAt endTick, startSteps := s.stepsAt startTick }

/-- A frame whose FCS is bad: on a field port at 100 Mb/s one that does not end on an octet boundary is an alignment error (R104). -/
def State.badFrame (s : State) (n : Nat) (m : RxMarks) : State :=
  if m.dribble && n < 24 && s.rd FPT_PORTn_STATUS.SPEED n == 0 then s.macCount n 5 else s.fcsError n

/-- FRAME_RECEIVE (R62, R86, R103, R106): the last bit of a frame arrives at a port. `bytes` run from the destination address to before
the FCS; `startTick` and `endTick` are the ticks of its start-of-frame delimiter and last bit. -/
def execFrameReceive (port : Nat) (bytes : List Byte) (m : RxMarks) (startTick endTick : Nat) (s : State) :
    Host.Outcome State Fault Refusal :=
  let s := s.advanceTo endTick
  if 40 ≤ port then ok s else
  let cut := (s.port port).cutTick
  if startTick < cut && cut ≤ endTick then ok ((s.setPort port { s.port port with cutTick := 0 }).macCount port 8) else
  if !s.portUp port then ok s else
  let f := s.stamped port bytes startTick endTick
  let s := s.rxMarks port m
  let hsr := port < 24 && 2 ≤ s.pairMode (port / 2)
  if s.maxFrame port < wireLen bytes then ok (s.macCount port 6)
  else if !m.fcsOk then
    let s := s.badFrame port m
    ok (if hsr then s.hsrReceive f false else s)
  else
    let s := ((s.macCount port 2).macCount port 3 (bytes.length - 14)).cal 192
    let s := if dstMac bytes = 0xFFFFFFFFFFFF then s.macCount port 11 else if isGroup (dstMac bytes) then s.macCount port 10 else s
    let s := if inRangeError bytes then s.macCount port 7 else s
    if isMacControl bytes && (beAt bytes 14 2 == 1 || beAt bytes 14 2 == 0x101) then
      let s := s.macCount port 12
      ok (if 24 ≤ port && beAt bytes 14 2 == 0x101 then s.pfcReceived port bytes else s)
    else if s.isLoopCheck port bytes then ok (s.loopReturned port)
    else if hsr then ok (s.hsrReceive f true)
    else if port < 24 && s.pairMode (port / 2) = 1 then ok (s.prpReceive f)
    else ok (s.enter f)

end Sys2Proof.Machine
end

