-- ==== Sys2Proof/Machine/Recorder.lean ====
section
/-!
DEFINITION. The continuous recorder (chapter 11): records of sealed rows, triggers, segments, and the rings.
-/
namespace Sys2Proof.Machine

/-- What an unlisted bulk-class byte reads as: 0 (DESIGN CHOICE, log 3). -/
def bulkShip (_ : Nat) : Byte := 0#8

/-- A request reaches the bulk class, which leaves self-refresh (R397). -/
def State.bulkTouch (s : State) : State :=
  let s := if s.on MEM_CLc_STATUS.IN_SR 1 then s.wr MEM_CLc_STATUS.IN_SR 0 1 else s
  { s with mem := { s.mem with bulkAt := s.tick } }

def State.bulkWrite (s : State) (a : Nat) (b : List Byte) : State := { s.bulkTouch with bulk := memWrite bulkShip s.bulk a b }
/-- Every byte of the bulk class whose address meets `p` is lost. -/
def State.dropBulk (s : State) (p : Nat → Bool) : State := { s with bulk := cellDrop p s.bulk }
def State.bulkRead (s : State) (a n : Nat) : List Byte := memRead bulkShip s.bulk a n

def State.recBay (s : State) (b : Nat) : RecBay := tabGet s.rec_.bays b
def State.setRecBay (s : State) (b : Nat) (v : RecBay) : State := { s with rec_ := { s.rec_ with bays := tabSet s.rec_.bays b v } }
def State.setSegs (s : State) (l : List Seg) : State := { s with rec_ := { s.rec_ with segs := l } }

/-- Change the segments that meet `p`. -/
def State.updSegs (s : State) (p : Seg → Bool) (f : Seg → Seg) : State :=
  s.setSegs (s.rec_.segs.map (fun g => if p g then f g else g))

/-- Base, size in bytes and write position of a bay's ring (R246). -/
def State.recBase (s : State) (b : Nat) : Nat := s.rd REC_BAYb_BASE_LO.BASE b + s.rd REC_BAYb_BASE_HI.BASE b * 2 ^ 32
def State.recSize (s : State) (b : Nat) : Nat := 65536 * s.rd REC_BAYb_CFG.SIZE b
def State.recWpos (s : State) (b : Nat) : Nat := s.rd64 REC_BAYb_WPOS_LO.WPOS b

/-- Is a bay's ring in use? -/
def State.recRuns (s : State) (b : Nat) : Bool := s.on REC_CFG.ENABLE && s.on REC_BAYb_CFG.ENABLE b

/-- A device-level restart of a bay's ring: it is empty (R246). -/
def State.recRestart (s : State) (b : Nat) : State :=
  (s.setRecBay b { fromTick := s.tick }).wr64 REC_BAYb_WPOS_LO.WPOS 0 b

/-! ## Records (R244, R245) -/

/-- A record: header and cells. -/
def recBytes (n bay : Nat) (discont : Bool) (type sub channels steps smpcnt col received : Nat) (cells : List Nat) : List Byte :=
  leBytes 8 (n % 2 ^ 52 + bay * 2 ^ 52 + b2n discont * 2 ^ 59 + type * 2 ^ 60) ++
  leBytes 8 (sub + channels * 2 ^ 10 + steps % 2 ^ 16 * 2 ^ 16 + smpcnt % 2 ^ 16 * 2 ^ 32 + col * 2 ^ 48 + received * 2 ^ 56) ++
  cells.flatMap (leBytes 8)

/-- A pad of `len` bytes; the bytes after its header are 0. -/
def padBytes (len bay : Nat) : List Byte :=
  (leBytes 8 (len % 2 ^ 32 + bay * 2 ^ 52 + 15 * 2 ^ 60) ++ leBytes 8 0 ++ List.replicate (len - 16) 0#8).take len

/-- The size of the write-combining buffer (R247). -/
def recBufBytes : Nat := 4194304

/-- Bytes in the buffer, of all bays or of one. -/
def bufBytes (l : List BufRow) : Nat := (l.map (fun r => r.bytes.length)).sum
def State.bufOf (s : State) (b : Nat) : List BufRow := s.rec_.buf.filter (fun r => r.bay == b)

/-- A record arrives at the buffer, or is lost in a full one (R247). -/
def State.recPut (s : State) (b : Nat) (row : RecRow) (bytes : List Byte) : State :=
  if recBufBytes < bufBytes s.rec_.buf + bytes.length then (s.bump REC_BAYb_LOSS.BUF_LOST b).raise 294 [i8 b]
  else
    let r : BufRow := { bay := b, row := { row with len := bytes.length }, arrived := s.tick, bytes := bytes }
    (State.count { s with rec_ := { s.rec_ with buf := s.rec_.buf ++ [r] } } REC_cnt_LO.COUNT 0).cal 528

/-- A row whose instant lies in an open segment belongs to it. -/
def segTakes (b tick n steps : Nat) (g : Seg) : Seg :=
  if g.bay == b && g.close.isNone && decide (g.from_ ≤ (tick : Int)) && decide ((tick : Int) ≤ g.to_) then
    (match g.firstN with
     | none => { g with firstN := some n, firstTick := tick, firstSteps := steps, lastN := n, lastTick := tick, lastSteps := steps }
     | some _ => { g with lastN := n, lastTick := tick, lastSteps := steps })
  else g

/-- A segment takes those of the sealed rows `l`, oldest first, that belong to it. -/
def takeRows (b : Nat) (l : List RecRow) (g : Seg) : Seg := l.foldl (fun g x => segTakes b x.tick x.n x.steps g) g

/-- The end of an open segment moves to tick `v` (R249): its last row is the last of the sealed rows `l` up to there. -/
def moveEnd (l : List RecRow) (v : Int) (g : Seg) : Seg :=
  let g := { g with to_ := v }
  if g.firstN.isNone then takeRows g.bay l g else
  match (l.filter (fun x => decide (g.firstTick ≤ x.tick) && decide ((x.tick : Int) ≤ v))).getLast? with
  | some x => { g with lastN := x.n, lastTick := x.tick, lastSteps := x.steps }
  | none => g

/-- REC_ROW_RECORD (R244): the records of a sealed row of bay `b`. `cell` gives the row's cells. -/
def State.recRow (s : State) (b : Nat) (r : Row) (discont : Bool) (cell : Nat → Nat) : State :=
  if !s.recRuns b then s else
  let e := s.bayE b
  let y := s.recBay b
  let s := s.setRecBay b { y with rows := y.rows ++ [{ n := r.n, steps := r.steps, tick := r.tick }] }
  let s := s.setSegs (s.rec_.segs.map (segTakes b r.tick r.n r.steps))
  forEach ((s.baySubs b).filter (fun i => !misfit (s.subE i) e)) (fun i s =>
    let v := s.subE i
    let cells := (List.range (subChannels v)).map (fun k => cell (subCol v + k))
    if s.on REC_BAYb_CFG.SKIP_MISSING b && cells.all (fun c => cellProv c == 3) then s else
    s.recPut b { n := r.n, steps := r.steps, tick := r.tick }
      (recBytes r.n b discont 0 i (subChannels v) r.steps (r.n % subWrap v) (subCol v)
        (cells.filter (fun c => cellProv c == 0)).length cells)) s

/-- A late-corrected record (R181, R245): needs the ring only, not REC_EN. The row's DISCONT was set when it was the first one after a
start, a commit restart or a step (R184), which is the row N0. -/
def State.recLate (s : State) (b n inst : Nat) (x : SvRec) (cells : List Nat) : State :=
  if !s.recRuns b then s else
  let v := s.subE x.sub
  s.recPut b { n := n, steps := x.steps, tick := (s.tickAt inst).toNat, late := true }
    (recBytes n b (decide (n = (tabGet s.aln.bays b).n0)) 1 x.sub x.cells.length x.steps x.smpCnt (subCol v) 0 cells)

/-! ## The ring (R246, R247, R252) -/

/-- The segments that pin bytes of bay `b` below position `p`. -/
def State.pinners (s : State) (b p : Nat) : List Seg :=
  s.rec_.segs.filter (fun g => g.bay == b && (match g.pos with | some q => decide (q < p) && decide (q < g.close.getD (p + 1)) | none => false))

/-- Bytes up to position `p` of bay `b` are overwritten: older index entries go, and segments that start below lose them. -/
def State.overwrite (s : State) (b p : Nat) : State :=
  let r := s.recBay b
  let lost := r.idx.filter (fun x => decide (x.pos < p))
  let kept := r.idx.filter (fun x => !decide (x.pos < p))
  let gone := (lost.filter (fun x => !x.late)).foldl (fun m x => max m (x.tick + 1)) r.gone
  let s := s.setRecBay b { r with idx := kept, gone := gone, rows := r.rows.filter (fun x => decide (gone ≤ x.tick)) }
  let hit := s.pinners b p
  if hit.isEmpty then s else
  let from_ := match kept with | x :: _ => x.pos | [] => p
  let fresh := hit.filter (fun g => !g.lost)
  let s := s.updSegs (fun g => hit.any (fun h => h.id == g.id)) (fun g => { g with truncated := true, lost := true, pos := some (max p from_) })
  (s.bump REC_BAYb_LOSS.PIN_LOST b 0 fresh.length).raise 292 [i8 b]

/-- Usable bytes of a class (R389, R390): fitted bytes less 1/16. -/
def State.usable (s : State) (c : Nat) : Nat := s.rd MEM_CLc_STATUS.CHANNELS c * s.rd MEM_CLc_STATUS.GIB c * 2 ^ 30 / 16 * 15

/-- Bulk segments that are masked lose their contents in self-refresh (R397 to R399). -/
def State.dropMasked (s : State) : State :=
  let n := s.usable 1 / 8
  let m := s.rd MEM_CLc_STATUS.SEG_MASKED 1
  s.dropBulk (fun a => decide (a < 8 * n) && bitOf m (a / max 1 n))

/-- Do two byte ranges overlap? -/
def spansMeet (a n b m : Nat) : Bool := decide (a < b + m) && decide (b < a + n)

/-- The ring bytes that a segment pins, whether or not its ring still runs: one range, or two around the ring's end (R252). -/
def State.pinned (s : State) (g : Seg) : List (Nat × Nat) :=
  let size := s.recSize g.bay
  match g.pos with
  | none => []
  | some a =>
    if size = 0 then [] else
    let len := min size (g.close.getD (s.recWpos g.bay) - a)
    let here := min len (size - a % size)
    [(s.recBase g.bay + a % size, here), (s.recBase g.bay, len - here)]

/-- Bytes of the bulk class that the recorder marks in use (R259): what has been written of an enabled ring, the pinned ranges, and the
target of the next burst. -/
def State.recMarks (s : State) : List (Nat × Nat) :=
  s.rec_.segs.flatMap s.pinned ++ ((List.range 128).filter s.recRuns).flatMap (fun b =>
    let w := s.recWpos b
    let size := s.recSize b
    [(s.recBase b, min w size)] ++ (if size = 0 || (s.bufOf b).isEmpty then [] else [(s.recBase b + w % size, min 65536 (size - w % size))]))

/-- Bulk segments in use, one bit each (R398). -/
def State.segUse (s : State) : Nat :=
  let n := s.usable 1 / 8
  ((List.range 8).map (fun i => b2n (bitOf s.mem.written i || bitOf (s.rd MEM_SR.SEG_KEEP) i ||
    s.recMarks.any (fun p => spansMeet p.1 p.2 (i * n) n)) * 2 ^ i)).sum

/-- Publish the segments in use; only the others are masked, and a change of the mask raises source 458 (R398). -/
def State.showSegs (s : State) : State :=
  if !s.on MEM_CLc_STATUS.TRAINED 1 then s else
  let s := s.wr MEM_CLc_STATUS.SEG_USE s.segUse 1
  let mask := 255 - s.rd MEM_CLc_STATUS.SEG_USE 1
  if mask = s.rd MEM_CLc_STATUS.SEG_MASKED 1 || s.on MEM_CLc_STATUS.IN_SR 1 then s
  else (s.wr MEM_CLc_STATUS.SEG_MASKED mask 1).raise 458 [i8 mask]

/-- Write `len` bytes at the write position. -/
def State.ringBytes (s : State) (b : Nat) (bytes : List Byte) : State :=
  let w := s.recWpos b
  let size := s.recSize b
  let s := s.overwrite b (w + bytes.length - size)
  (s.bulkWrite (s.recBase b + w % size) bytes).wr64 REC_BAYb_WPOS_LO.WPOS ((w + bytes.length) % 2 ^ 64) b

/-- A buffered record reaches its ring, padded when it does not fit before the end, or is discarded under PIN_POLICY 1. -/
def State.ringPut (s : State) (x : BufRow) : State :=
  let b := x.bay
  let w := s.recWpos b
  let size := s.recSize b
  if size = 0 then s else
  let left := size - w % size
  let pad := if left < x.bytes.length then left else 0
  if s.on REC_BAYb_CFG.PIN_POLICY b && !(s.pinners b (w + pad + x.bytes.length - size)).isEmpty then
    let s := s.updSegs (fun g => g.bay == b && g.close.isNone) (fun g => { g with blocked := true })
    (s.bump REC_BAYb_BLOCKED.RING_BLOCKED b).raise 293 [i8 b]
  else
    let s := if pad = 0 then s else s.ringBytes b (padBytes pad b)
    let pos := s.recWpos b
    let s := s.ringBytes b x.bytes
    let r := s.recBay b
    let s := s.setRecBay b { r with idx := r.idx ++ [{ x.row with pos := pos }] }
    if x.row.late then s
    else s.updSegs (fun g => g.bay == b && g.pos.isNone && g.close.isNone && g.firstN.isSome && decide (g.firstTick ≤ x.row.tick) &&
        decide ((x.row.tick : Int) ≤ g.to_))
      (fun g => { g with pos := some pos })

/-- Write all of a bay's buffered records. -/
def State.flushBay (s : State) (b : Nat) : State :=
  let l := s.bufOf b
  let s := if l.isEmpty then s else s.bulkTouch.showSegs
  let s := { s with rec_ := { s.rec_ with buf := s.rec_.buf.filter (fun r => !(r.bay == b)) } }
  if l.isEmpty then s else (forEach l (fun x s => s.ringPut x) s).showSegs

/-- REC_BURST_WRITE (R247): at 64 KiB gathered, or when the oldest record is FLUSH_US old. -/
def execRecBurstWrite (b : Nat) (s : State) : Host.Outcome State Fault Refusal :=
  match s.bufOf b with
  | [] => ok s
  | x :: t =>
    if 65536 ≤ bufBytes (x :: t) then ok (s.flushBay b)
    else ok ((s.advanceTo (x.arrived + 1000 * max 1 (s.rd REC_FLUSH.FLUSH_US))).flushBay b)

/-! ## Triggers (R248 to R251) -/

/-- A trigger: its time, and what fired. -/
structure Trigger where
  tick : Int := 0
  gtc : Nat := 0
  slot : Nat := 255
  kind : Nat := 0

/-- Bays named in a set. -/
def State.setBays (s : State) (c : Nat) : List Nat :=
  (List.range 128).filter (fun b => bitOf (s.rd REC_SETc_BAYw.BAYS c (b / 32)) (b % 32))

/-- A segment of set `c` on bay `b` opens. -/
def State.openSeg (s : State) (c b : Nat) (t : Trigger) (from_ to_ : Int) (cont : Bool) : State :=
  let acc := s.accAt (bayGrain (s.bayE b)) t.tick
  let r := s.recBay b
  let id := s.rec_.nextId
  let seg : Seg := { id := id, bay := b, set := c, slot := t.slot, kind := t.kind, fire := s.rec_.fires, tTick := t.tick
                     tGtc := t.gtc, tSteps := s.rd TIM_STATUS.STEPS, tQual := s.rd TIM_STATUS.QUALITY
                     tAngle := unsgn 32 (acc / ((2 ^ 32 : Nat) : Int)), tCycle := unsgn 32 (acc / ((2 ^ 64 : Nat) : Int))
                     from_ := from_, to_ := to_, cont := cont
                     shortPre := !cont && (decide (from_ < (r.gone : Int)) || decide (from_ < (r.fromTick : Int))) }
  let seg := takeRows b r.rows seg
  let seg : Seg := if seg.firstN.isNone then seg else
    { seg with pos := (r.idx.find? (fun x => !x.late && decide (seg.firstTick ≤ x.tick) && decide ((x.tick : Int) ≤ to_))).map (fun x => x.pos) }
  let first := tabGet s.rec_.fireSeg seg.fire
  let s := { s with rec_ := { s.rec_ with nextId := id + 1, segs := s.rec_.segs ++ [seg]
                                          fireSeg := if first = 0 then tabSet s.rec_.fireSeg seg.fire (id + 1) else s.rec_.fireSeg } }
  s.raise 288 [i8 b, i8 c, i8 t.slot]

/-- A firing of set `c` acts on one bay (R249). -/
def State.fireBay (s : State) (c : Nat) (t : Trigger) (b : Nat) : State :=
  if !s.bayRuns b then (s.count REC_cnt_LO.COUNT 2).raise 295 [i8 b] else
  let post := t.tick + 1000000 * (s.rd REC_SETc_TIME.POST_MS c : Int)
  let isOpen := fun (g : Seg) => g.bay == b && g.set == c && g.close.isNone
  match (s.rec_.segs.filter isOpen).getLast? with
  | none => s.openSeg c b t (t.tick - 1000000 * (s.rd REC_SETc_TIME.PRE_MS c : Int)) post false
  | some g =>
    let start : Int := match g.firstN with | some _ => (g.firstTick : Int) | none => g.from_
    let cap := start + 1000000 * (s.rd REC_SETc_MAX.MAX_MS c : Int)
    let l := (s.recBay b).rows
    if post ≤ cap then s.updSegs (fun h => h.id == g.id) (moveEnd l post)
    else (s.updSegs (fun h => h.id == g.id) (moveEnd l cap)).openSeg c b t (cap + 1) post true

/-- A capture set fires. -/
def State.fireSet (s : State) (c : Nat) (t : Trigger) : State :=
  let s := s.count REC_cnt_LO.COUNT 1
  let s := forEach (s.setBays c) (fun b s => s.fireBay c t b) s
  { s with rec_ := { s.rec_ with fires := s.rec_.fires + 1 } }

/-- A happening of a KIND and INDEX is noted for the trigger slots. -/
def State.recNote (s : State) (kind index : Nat) (tick : Int) (gtc : Nat) : State :=
  if !s.on REC_CFG.ENABLE then s else { s with rec_ := { s.rec_ with happened := s.rec_.happened ++ [(kind, index, tick, gtc)] } }

/-- Does slot `i` watch a KIND and INDEX (R248)? -/
def State.slotWatches (s : State) (i kind index : Nat) : Bool :=
  s.rd REC_TRGi.KIND i == kind && (s.on REC_TRGi.ANY i || kind == 5 || s.rd REC_TRGi.INDEX i == index)

/-- The happenings of a tick fire the slots that watch them, in ascending slot number (R248). -/
def State.recHandle (s : State) : State :=
  let l := s.rec_.happened
  let s := { s with rec_ := { s.rec_ with happened := [] } }
  if l.isEmpty then s else
  forEach (List.range 256) (fun i s =>
    forEach (l.filter (fun h => s.slotWatches i h.1 h.2.1)) (fun h s =>
      s.fireSet (s.rd REC_TRGi.SET i) { tick := h.2.2.1, gtc := h.2.2.2, slot := i, kind := h.1 }) s) s

/-- A happening that is alone in its tick. -/
def State.recTrigger (s : State) (kind index : Nat) (tick : Int) (gtc : Nat) : State := (s.recNote kind index tick gtc).recHandle

/-- REC_CMD_TRIGGER (R248): a write of REC_CMD with GO; a REC_CMD_TIME of 0 is the tick of the write. -/
def execRecCmdTrigger (val : Word) (s : State) : Host.Outcome State Fault Refusal :=
  let s := s.wr REC_CMD.SET (bitsOf val.toNat 0 4)
  if !bitOf val.toNat 4 || !s.on REC_CFG.ENABLE then ok s else
  let g := s.rd REC_CMD_TIME_NS.T % 2 ^ 30 + (s.rd REC_CMD_TIME_SEC_LO.T + s.rd REC_CMD_TIME_SEC_HI.T % 2 ^ 16 * 2 ^ 32) * nsPerSec
  let t : Trigger := if g = 0 then { tick := s.tick, gtc := s.tim.gtc } else { tick := s.tickAt g, gtc := g }
  ok (s.fireSet (bitsOf val.toNat 0 4) t)

/-- An edge of TRIG_IN to level `lvl` (R250): it fires when its polarity is EDGE's and the previous level was held DEBOUNCE_US.
True when it fired. -/
def State.trigEdge (s : State) (lvl : Bool) : State × Bool :=
  if s.pins.trigIn == lvl then (s, false) else
  let held := s.tick - s.rec_.trigFrom
  let s := { s with pins := { s.pins with trigIn := lvl }, rec_ := { s.rec_ with trigFrom := s.tick } }
  if lvl == (s.rd REC_CFG.EDGE == 1) || held < 1000 * s.rd REC_CFG.DEBOUNCE_US then (s, false)
  else ((s.raise 297).recTrigger 5 0 s.tick s.tim.gtc, true)

/-! ## Closing (R253, R254, R258) -/

/-- Segments that wait for export in a namespace. -/
def State.showPending (s : State) (r : Nat) : State :=
  s.wr REC_NSr_HEAD.PENDING (min 127 ((s.rec_.segs.filter (fun g => g.close.isSome && s.rd REC_SETc_MAX.NS g.set == r)).length)) r

/-- A segment closes at the write position, and takes the next SEG_SEQ. -/
def State.closeSeg (s : State) (g : Seg) (truncated : Bool) : State :=
  let s := s.flushBay g.bay
  let g := (s.rec_.segs.find? (fun h => h.id == g.id)).getD g
  let w := s.recWpos g.bay
  let seq := s.rd64 REC_SEQ_LO.SEQ
  let g : Seg := { g with pos := some (g.pos.getD w), close := some w, seq := seq, truncated := g.truncated || truncated }
  let s := s.setSegs (s.rec_.segs.filter (fun h => h.id != g.id) ++ [g])
  let s := if tabGet s.rec_.fireSeg g.fire = g.id + 1 then
      { s with rec_ := { s.rec_ with fireSeq := tabSet s.rec_.fireSeq g.fire (seq + 1) } } else s
  let s := (s.wr64 REC_SEQ_LO.SEQ ((seq + 1) % 2 ^ 64)).count REC_cnt_LO.COUNT 3
  (s.showPending (s.rd REC_SETc_MAX.NS g.set)).raise 289

/-- Open segments that meet `p` close at the last row already sealed, TRUNCATED (R254). -/
def State.truncateSegs (s : State) (p : Seg → Bool) : State :=
  forEach (s.rec_.segs.filter (fun g => g.close.isNone && p g)) (fun g s => s.closeSeg g true) s

/-- The tick of a segment's last row: that of the last row sealed or reached up to its end, or, while a later row can still come, that
of the last instant up to its end. -/
def State.lastRowTick (s : State) (g : Seg) : Int :=
  let y := tabGet s.aln.bays g.bay
  let rate := bayRowHz (s.bayE g.bay)
  if s.tickAt (rowInst rate y.due) ≤ g.to_ then
    s.tickAt (rowInst rate (lastSample rate ((s.tim.gtc : Int) + (g.to_ - (s.tick : Int))).toNat))
  else
    ((y.rows.filter (fun r => r.reached && decide ((r.tick : Int) ≤ g.to_))).map (fun r => r.tick)).foldl max g.lastTick

/-- The tick at which a segment may close: max(HOLD, LATE_MAX_US) after the instant of its last row (R253). -/
def State.segDue (s : State) (g : Seg) : Nat :=
  let e := s.bayE g.bay
  (s.lastRowTick g + 1000 * (max (s.holdUs e) (bayLateMax e) : Nat)).toNat

/-- SEGMENT_CLOSE (R253): the oldest open segment of set `c` on bay `b` closes. -/
def execSegmentClose (b c : Nat) (s : State) : Host.Outcome State Fault Refusal :=
  match s.rec_.segs.find? (fun g => g.bay == b && g.set == c && g.close.isNone) with
  | none => ok s
  | some g => ok ((s.advanceTo (s.segDue g)).closeSeg g false)

end Sys2Proof.Machine
end

