-- ==== Sys2Proof/Machine/Trip.lean ====
section
/-!
DEFINITION. The Parting path (chapter 10): comparators, trip terms, publications and GOOSE intake.
-/
namespace Sys2Proof.Machine

def State.cmp (s : State) (c : Nat) : CmpSt := tabGet s.trp.cmps c
def State.setCmp (s : State) (c : Nat) (v : CmpSt) : State := { s with trp := { s.trp with cmps := tabSet s.trp.cmps c v } }
def State.pub (s : State) (p : Nat) : PubSt := tabGet s.trp.pubs p
def State.setPub (s : State) (p : Nat) (v : PubSt) : State := { s with trp := { s.trp with pubs := tabSet s.trp.pubs p v } }
def State.gsub (s : State) (g : Nat) : GsubSt := tabGet s.trp.gsubs g
def State.setGsub (s : State) (g : Nat) (v : GsubSt) : State := { s with trp := { s.trp with gsubs := tabSet s.trp.gsubs g v } }

/-- State codes of a comparator and of a term. -/
def State.cmpState (s : State) (c : Nat) : Nat := s.rd TRP_CMPc_STATUS.STATE c
def State.termState (s : State) (t : Nat) : Nat := s.rd TRP_TERMt_STATUS.STATE t

/-- The output of a comparator: 1 in Operated and Releasing (R219). -/
def State.cmpOut (s : State) (c : Nat) : Bool := s.cmpState c == 4 || s.cmpState c == 5

/-- Recount TRP_STATUS. -/
def State.showTrp (s : State) : State :=
  let l := s.validTerms
  (s.wr TRP_STATUS.BLOCKED ((l.filter (fun t => s.termState t == 3)).length)).wr TRP_STATUS.OPERATED
    ((l.filter (fun t => s.termState t == 4)).length)

/-- Enter a term state. -/
def State.setTerm (s : State) (t v : Nat) : State := (s.wr TRP_TERMt_STATUS.STATE v t).showTrp

/-! ## Publications (R226 to R231) -/

/-- Is term `t` gated by a Standby twin (R344)? -/
def State.gatedTerm (s : State) (t : Nat) : Bool := s.rd RMA_TWIN_STATUS.ROLE == 3 && s.bitAt RMA_TWIN_TERMk.GATE t

/-- Does publication `p` belong to a term that is gated? -/
def State.gatedPub (s : State) (p : Nat) : Bool := s.validTerms.any (fun t => termPub (s.termE t) == p && s.gatedTerm t)

/-- The interval I_k in µs (R231). -/
def State.pubInterval (s : State) (p k : Nat) : Nat :=
  min (s.rd TRP_PUBp_SCHED.FIRST_US p * 2 ^ k) (1000 * s.rd TRP_PUBp_SCHED.MAX_MS p)

/-- The eight octets of t for GTC value `g` (R228). -/
def State.utcTime (s : State) (g : Nat) : List Byte :=
  let sec := unsgn 32 (((g / nsPerSec : Nat) : Int) - sgn 16 (s.rd TIM_UTC.UTC_OFFSET))
  let u := s.rd TIM_STATUS.TIME_UNKNOWN
  let q := s.rd TIM_STATUS.QUALITY
  let acc := if q ≤ 1 then 20 else if q = 2 then 17 else 31
  beBytes 4 sec ++ beBytes 3 (g % nsPerSec * 2 ^ 24 / nsPerSec) ++ beBytes 1 ((1 - u) * 128 + u * 64 + b2n (q == 3) * 32 + acc)

/-- The template of a publication. -/
def State.template (s : State) (p : Nat) : List Byte := leBytes (s.rd TRP_PUBp_CFG.LEN p) (s.went 9 false p)

/-- The value octets (R227). -/
def State.pubValue (s : State) (p : Nat) : List Byte :=
  let v := if s.on TRP_PUBp_STATUS.ON p then s.rd TRP_PUBp_VAL_ON.VALUE p else s.rd TRP_PUBp_VAL_OFF.VALUE p
  let y := s.rd TRP_PUBp_CFG.VTYPE p
  if y = 1 || y = 2 then beBytes 4 v else beBytes 1 (v % 256)

/-- The patched frame before its MAC (R227). -/
def State.pubFrame (s : State) (p : Nat) : List Byte :=
  let b := patch (s.template p) (s.rd TRP_PUBp_OFS_A.OFS_HI p) (beBytes 4 (s.rd TRP_PUBp_STNUM.NUM p))
  let b := patch b (s.rd TRP_PUBp_OFS_A.OFS_LO p) (beBytes 4 (s.rd TRP_PUBp_SQNUM.NUM p))
  let b := patch b (s.rd TRP_PUBp_OFS_B.OFS_HI p) (s.pub p).t
  let mult := if s.on TRP_PUBp_CFG.TAL_MULT p then s.rd TRP_PUBp_CFG.TAL_MULT p else 2
  let b := patch b (s.rd TRP_PUBp_OFS_C.OFS_HI p) (beBytes 4 ((mult * s.pubInterval p (s.pub p).k + 999) / 1000))
  patch b (s.rd TRP_PUBp_OFS_B.OFS_LO p) (s.pubValue p)

/-- Add key identifier and MAC (R227, R229); an offset of 0 leaves its field unpatched (log 38). -/
def State.pubSign (s : State) (p : Nat) (b : List Byte) : State × List Byte :=
  let o := s.rd TRP_PUBp_OFS_C.OFS_LO p
  let kid := s.rd TRP_PUBp_SEC.OFS_KID p
  let slot := s.rd TRP_PUBp_SEC.KEY_SLOT p
  let alg := s.rd TRP_PUBp_SEC.MAC_ALG p
  let b := if kid = 0 then b else patch b kid (beBytes 4 (s.rd SVI_KEYk_ID_CUR.ID slot))
  if o = 0 then (s, b)
  else if s.on SVI_KEYk_CTRL.VALID_CUR slot then (s, patch b o (macOf alg (s.keyWords slot false) b))
  else ((s.count TRP_cnt_LO.COUNT 5).raise 261 [i8 p], patch b o (List.replicate (macLen alg) 0#8))

/-- GOOSE_PUBLISH (R227, R229, R230): one transmission with the numbers in force; the next is scheduled (R231). `again` marks a
retransmission. -/
def State.pubSend (s : State) (p : Nat) (again : Bool := false) : State :=
  let u := s.pub p
  let s := s.setPub p { u with running := true, next := s.tick + 1000 * s.pubInterval p u.k }
  let s := s.wr TRP_PUBp_STATUS.STEP (min 15 u.k) p
  let r := s.pubSign p (s.pubFrame p)
  let h := r.1.handPub (s.rd TRP_PUBp_PORTS.PORT_MASK p) r.2 p again
  let s := forEach h.2 (fun n s => (s.count TRP_cnt_LO.COUNT 6).raise 262 [i8 p, i8 n]) h.1
  (s.count TRP_cnt_LO.COUNT 4).cal 482

/-- May publication `p` send: the path and the publication enabled, not held by a Standby twin? -/
def State.pubOpen (s : State) (p : Nat) : Bool := s.on TRP_CFG.ENABLE && s.on TRP_PUBp_CFG.ENABLE p && !s.gatedPub p

/-- The next stNum or sqNum: after 0xFFFF_FFFF comes 1. -/
def nextNum (n : Nat) : Nat := if n = 0xFFFFFFFF then 1 else n + 1

/-- A state change of a publication, at GTC value `g` for t (R227, R228, R231). -/
def State.pubChange (s : State) (p : Nat) (on_ : Bool) (g : Nat) : State :=
  if !s.pubOpen p then s else
  let s := (s.wr TRP_PUBp_STNUM.NUM (nextNum (s.rd TRP_PUBp_STNUM.NUM p)) p).wr TRP_PUBp_SQNUM.NUM 0 p
  let s := s.wr TRP_PUBp_STATUS.ON (b2n on_) p
  (s.setPub p { s.pub p with k := 0, t := s.utcTime g }).pubSend p

/-- A publication whose ENABLE became 1: stNum 1, sqNum 0, VAL_OFF, the schedule from k = 0 (R231). -/
def State.pubStart (s : State) (p : Nat) : State :=
  let s := (((s.wr TRP_PUBp_STNUM.NUM 1 p).wr TRP_PUBp_SQNUM.NUM 0 p).wr TRP_PUBp_STATUS.ON 0 p).wr TRP_PUBp_STATUS.STEP 0 p
  let s := s.setPub p { k := 0, t := s.utcTime s.tim.gtc }
  if s.pubOpen p then s.pubSend p else s

/-- A retransmission: sqNum + 1 and the next interval. -/
def State.pubAgain (s : State) (p : Nat) : State :=
  let s := s.wr TRP_PUBp_SQNUM.NUM (nextNum (s.rd TRP_PUBp_SQNUM.NUM p)) p
  (s.setPub p { s.pub p with k := (s.pub p).k + 1 }).pubSend p true

/-- Is a port that publication `p` goes to Up? -/
def State.pubPortUp (s : State) (p : Nat) : Bool :=
  ((List.range 24).filter (fun n => bitOf (s.rd TRP_PUBp_PORTS.PORT_MASK p) n)).any s.anyUp

/-- GOOSE_RETRANSMIT (R231). The first after a wake waits until a selected port is Up (R475). -/
def execGooseRetransmit (p : Nat) (s : State) : Host.Outcome State Fault Refusal :=
  if !(s.pub p).running || !s.pubOpen p || ((s.pub p).woken && !s.pubPortUp p) then ok s else
  let s := s.advanceTo (s.pub p).next
  ok (State.pubAgain (s.setPub p { s.pub p with woken := false }) p)

/-! ## Terms (R221 to R225) -/

/-- The angle of Grain instance `g` at the tick of an instant. -/
def State.angleAt (s : State) (g inst : Nat) : Nat := unsgn 32 (s.accAt g (s.tickAt inst) / ((2 ^ 32 : Nat) : Int))

/-- Is a term's angle window open at an instant (R224)? -/
def State.windowOpen (s : State) (v inst : Nat) : Bool :=
  if !termWinEn v then true else
  let g := termInst v
  if s.gstate g = 0 || (termWinLock v && s.gstate g != 2) then false
  else decide ((s.angleAt g inst + 2 ^ 32 - termLo v) % 2 ^ 32 < (termHi v + 2 ^ 32 - termLo v) % 2 ^ 32)

/-- Is a member Blocked? Do all members output 1? -/
def State.termBlocked (s : State) (v : Nat) : Bool := (termMembers v).any (fun m => s.cmpState m.2 == 1)
def State.termAnd (s : State) (v : Nat) : Bool := (termMembers v).all (fun m => s.cmpOut m.2)

/-- The outputs of a term's members, one bit each. -/
def State.termOuts (s : State) (v : Nat) : Nat := ((termMembers v).map (fun m => b2n (s.cmpOut m.2) * 2 ^ m.1)).sum

/-- Show the outputs of a term's members. -/
def State.showOut (s : State) (t v : Nat) : State := s.wr TRP_TERMt_STATUS.OUT (s.termOuts v) t

/-- TERM_FIRE (R225). -/
def State.termFire (s : State) (t v : Nat) (d : Decider) : State :=
  let s := (s.wr TRP_TERMt_STATUS.DECIDER d.cmp t).setTerm t 4
  let s := (s.count TRP_cnt_LO.COUNT 1).cal 481
  let s := s.raise 257 [i8 t, i8 (termPub v), i16 d.cmp, i64 d.n, i32 (s.tim.gtc - d.stamp)]
  let s := s.recNote 1 t s.tick s.tim.gtc
  s.pubChange (termPub v) true (if termTsrc v then d.inst else s.tim.gtc)

/-- TERM_RESET (R225): Operated, unblocked, AND 0, and no latch in the way. -/
def State.termReset (s : State) (t v : Nat) : State :=
  let s := (s.wr TRP_TERMt_STATUS.UNLATCH 0 t).setTerm t 2
  let s := (s.count TRP_cnt_LO.COUNT 2).raise 259 [i8 t]
  let s := s.recNote 2 t s.tick s.tim.gtc
  if termResetPub v then s.pubChange (termPub v) false s.tim.gtc else s

/-- An evaluation of term `t` with its members as they stand: `d` is the evaluation of a member, none for the other happenings;
`blocked` lists the comparators that have just become Blocked. -/
def State.termEv (s : State) (t : Nat) (d : Option Decider) (blocked : List Nat) : TermEv :=
  let v := s.termE t
  { term := t, decider := d, out := s.termOuts v, all_ := s.termAnd v, block := s.termBlocked v
    newly := ((termMembers v).map (fun m => m.2)).filter (fun c => blocked.contains c) }

/-- A term handles one evaluation (R225). -/
def State.termAct (s : State) (e : TermEv) : State :=
  let t := e.term
  let v := s.termE t
  let s := s.wr TRP_TERMt_STATUS.OUT e.out t
  let st := s.termState t
  if st < 2 then s else
  let s := if st = 2 || st = 4 then forEach e.newly (fun c s => s.raise 258 [i8 t, i16 c]) s else s
  if e.block then (if st = 2 then s.setTerm t 3 else s) else
  let s := if st = 3 then s.setTerm t 2 else s
  if s.termState t = 2 then
    match e.decider with
    | none => s
    | some d =>
      if !e.all_ then s
      else if s.windowOpen v d.inst then s.termFire t v d
      else s.count TRP_cnt_LO.COUNT 3
  else if !e.all_ && (!termLatch v || s.on TRP_TERMt_STATUS.UNLATCH t) then s.termReset t v
  else s

/-- A term is evaluated and handles it at once (R222, R225). -/
def State.termEval (s : State) (t : Nat) (d : Option Decider) (blocked : List Nat) : State := s.termAct (s.termEv t d blocked)

/-- Every VALID term that has one of the comparators as a member is evaluated; the terms handle that when the tick's evaluations are
done (R222). `d` gives the deciding evaluation. -/
def State.noteTerms (s : State) (cs : List Nat) (d : List Nat → Option Decider) (blocked : List Nat) : State :=
  let l := s.validTerms.filterMap (fun t =>
    let ms := ((termMembers (s.termE t)).map (fun m => m.2)).filter (fun c => cs.contains c)
    if ms.isEmpty then none else some (s.termEv t (d ms) blocked))
  { s with trp := { s.trp with evals := s.trp.evals ++ l } }

/-- The terms handle the evaluations of a tick, in ascending term number (R222); then the trigger slots handle what happened. -/
def State.handleTerms (s : State) : State :=
  let l := s.trp.evals
  let s := { s with trp := { s.trp with evals := [] } }
  (forEach s.validTerms (fun t s => forEach (l.filter (fun e => e.term == t)) (fun e s => s.termAct e) s) s).recHandle

/-- Evaluate and handle the terms that have one of the comparators as a member (R222). -/
def State.evalTerms (s : State) (cs : List Nat) (d : List Nat → Option Decider) (blocked : List Nat) : State :=
  (s.noteTerms cs d blocked).handleTerms

/-- Set a term's arm bit; a change raises source 260 and moves its state (R223, R225). A pending unlatch goes with Operated only. -/
def State.armTo (s : State) (t : Nat) (b : Bool) : State :=
  if s.bitAt TRP_ARM_SETk.ARM t == b then s else
  let s := ((s.setBitAt TRP_ARM_SETk.ARM t b).setBitAt TRP_ARM_CLRk.ARM t b).raise 260 [i8 t, i8 (b2n b)]
  let v := s.termE t
  let st := s.termState t
  if b then (if st = 1 then s.setTerm t (if s.termBlocked v then 3 else 2) else s)
  else if st < 2 then s
  else
    let s := (if st = 4 then s.wr TRP_TERMt_STATUS.UNLATCH 0 t else s).setTerm t 1
    if st = 4 && termResetPub v then s.pubChange (termPub v) false s.tim.gtc else s

/-- A write to an arm register: a gated term of a Standby device changes ARM_WANT only (R344). -/
def State.armWrite (s : State) (k val : Nat) (b : Bool) : State :=
  forEach ((List.range 32).filter (bitOf val)) (fun j s =>
    let t := 32 * k + j
    if s.gatedTerm t then s.setBitAt RMA_ARM_WANTk.WANT t b else s.armTo t b) s

/-- TERM_ARM_SET (R223). -/
def execTermArmSet (k : Nat) (val : Word) (s : State) : Host.Outcome State Fault Refusal :=
  if 8 ≤ k then ok s else ok (s.armWrite k val.toNat true)

/-- TERM_ARM_CLEAR (R225). -/
def execTermArmClear (k : Nat) (val : Word) (s : State) : Host.Outcome State Fault Refusal :=
  if 8 ≤ k then ok s else ok (s.armWrite k val.toNat false)

/-- TERM_UNLATCH (R225): the request stays pending until it is used or the term is disarmed; a term that can reset does. -/
def execTermUnlatch (k : Nat) (val : Word) (s : State) : Host.Outcome State Fault Refusal :=
  if 8 ≤ k then ok s else
  ok (State.recHandle (forEach ((List.range 32).filter (bitOf val.toNat)) (fun j s =>
    let t := 32 * k + j
    if s.termState t = 0 then s else (s.wr TRP_TERMt_STATUS.UNLATCH 1 t).termEval t none []) s))

/-! ## Comparators (R217 to R220) -/

/-- A placement-stage result offered to the path (R204): quantities by QTY code as binary32 words. -/
structure Offer where
  group : Bool := false
  index : Nat := 0
  n : Nat := 0
  status : Nat := 0
  qs : List (Nat × Nat) := []
  /-- provenance and quality summary of the cell at N. -/
  prov : Nat := 0
  qual : Nat := 0
  inst : Nat := 0
  stamp : Nat := 0

/-- The STATUS bit that a quantity needs (R217): VALID, FVALID, RVALID; none for INST. -/
def qtyBit (q : Nat) : Option Nat := if q = 0 then none else if q = 6 || q = 11 then some 1 else if q = 12 then some 2 else some 0

/-- The value that comparator entry `v` compares, when the evaluation is valid (R218). -/
def offerValue (v : Nat) (o : Offer) : Option Rat :=
  match o.qs.find? (fun x => x.1 == cmpQty v) with
  | none => none
  | some (q, w) =>
    if (match qtyBit q with | some b => !bitOf o.status b | none => false) then none
    else if bitsOf o.status 4 9 &&& cmpBlk v != 0 then none
    else if f32Special w then none
    else if q == 0 && (o.prov != 0 || o.qual % 4 == 1) then none
    else some (if cmpAbs v && f32Val w < 0 then - f32Val w else f32Val w)

/-- The next state and count of a comparator (R219): `r` is none for an invalid evaluation, else whether it is met and holds. -/
def cmpNext (st cnt pu do_ : Nat) (next : Bool) (r : Option (Bool × Bool)) : Nat × Nat :=
  match r with
  | none => if st ≤ 1 then (st, cnt) else (1, 0)
  | some (met, holds) =>
    if st = 1 || st = 2 then (if met then (if pu ≤ 1 then (4, 1) else (3, 1)) else (2, cnt))
    else if st = 3 then
      (if !met then (2, 0) else if next then (if pu ≤ cnt + 1 then (4, cnt + 1) else (3, cnt + 1)) else (3, 1))
    else if st = 4 then (if holds then (4, cnt) else if do_ ≤ 1 then (2, 1) else (5, 1))
    else if st = 5 then (if holds then (4, 0) else if do_ ≤ cnt + 1 then (2, cnt + 1) else (5, cnt + 1))
    else (st, cnt)

/-- Enter a comparator state; source 256 is raised on Blocked, and on Blocked to Idle. The code of the cause is a free value. -/
def State.setCmpState (s : State) (c n : Nat) (p : Nat × Nat) : State :=
  let st := s.cmpState c
  let s := (s.wr TRP_CMPc_STATUS.STATE p.1 c).wr TRP_CMPc_STATUS.COUNT p.2 c
  let s := if (p.1 = 1 && 2 ≤ st) || (p.1 = 2 && st = 1) then s.draw.raise 256 [i16 c, i8 (Config.freeNat s.free % 256), i64 n] else s
  if p.1 = 4 && st != 4 && st != 5 then s.recNote 3 c s.tick s.tim.gtc else s

/-- COMPARATOR_EVAL (R219): one comparator on an offer. -/
def State.cmpEval (s : State) (c : Nat) (o : Offer) : State :=
  let v := s.cmpE c
  let x := s.cmp c
  let r := (offerValue v o).map (fun q =>
    (if cmpDir v then decide (q ≤ f32Val (cmpPick v)) else decide (f32Val (cmpPick v) ≤ q),
     if cmpDir v then decide (q ≤ f32Val (cmpDrop v)) else decide (f32Val (cmpDrop v) ≤ q)))
  let p := cmpNext (s.cmpState c) (s.rd TRP_CMPc_STATUS.COUNT c) (cmpPu v) (cmpDo v) (x.lastN == o.n) r
  let s := (s.count TRP_cnt_LO.COUNT 0).cal 480
  (s.setCmpState c o.n p).setCmp c { lastN := o.n + 1, lastTick := s.tick }

/-- A result is offered: its comparators in ascending number, then an evaluation of the terms they belong to (R222). -/
def State.offer (s : State) (o : Offer) : State :=
  if !s.on TRP_CFG.ENABLE then s else
  let cs := s.validCmps.filter (fun c => cmpKind (s.cmpE c) == o.group && cmpIndex (s.cmpE c) == o.index && s.cmpState c != 0)
  let before := cs.map (fun c => (c, s.cmpState c, s.cmpOut c))
  let s := forEach cs (fun c s => s.cmpEval c o) s
  let blocked := (before.filter (fun b => b.2.1 != 1 && s.cmpState b.1 == 1)).map (fun b => b.1)
  let rose := (before.filter (fun b => !b.2.2 && s.cmpOut b.1)).map (fun b => b.1)
  s.noteTerms cs (fun ms => some { cmp := (ms.filter (fun c => rose.contains c)).getLastD (ms.headD 0), n := o.n, inst := o.inst
                                   stamp := o.stamp }) blocked

/-- COMPARATOR_STALE_SCAN (R220): at a whole multiple of 100 µs of GTC time. -/
def execComparatorStaleScan (s : State) : Host.Outcome State Fault Refusal :=
  let s := s.advanceTo (s.nextGtc 100000)
  let stale := s.validCmps.filter (fun c => 2 ≤ s.cmpState c && decide ((s.cmp c).lastTick + 100000 * cmpStale (s.cmpE c) < s.tick))
  let s := forEach stale (fun c s => s.setCmpState c ((s.cmp c).lastN - 1) (1, 0)) s
  ok (s.evalTerms stale (fun _ => none) stale)

/-! ## GOOSE intake (R237 to R241) -/

/-- Enter a GOOSE subscription state. -/
def State.setGsubState (s : State) (g v : Nat) : State :=
  let st := s.rd TRP_GSUBs_STATE.STATE g
  if st = v then s else (s.wr TRP_GSUBs_STATE.STATE v g).raise 263 [i16 g, i8 st, i8 v]

/-- What the decoder reads of a goosePdu. -/
structure Goose where
  ref : List Byte := []
  tal : Nat := 0
  st : Nat := 0
  sq : Nat := 0
  sim : Bool := false
  conf : Nat := 0
  nds : Bool := false
  data : List (Nat × List Byte) := []

/-- The content of the first element with a tag. -/
def elem (l : List (Nat × List Byte)) (tag : Nat) : Option (List Byte) := (l.find? (fun x => x.1 == tag)).map (fun x => x.2)

/-- The goosePdu of IEC 61850-8-1: gocbRef, timeAllowedtoLive, datSet, goID, t, stNum, sqNum, simulation, confRev, ndsCom,
numDatSetEntries, allData, with context tags 0x80 to 0x8A and 0xAB. -/
def readGoose (l : List (Nat × List Byte)) : Option Goose :=
  match elem l 0x80, elem l 0x81, elem l 0x85, elem l 0x86, elem l 0x88, (elem l 0xAB).bind berList with
  | some ref, some tal, some st, some sq, some conf, some data =>
    some { ref := ref, tal := beNat tal, st := beNat st % 2 ^ 32, sq := beNat sq % 2 ^ 32
           sim := ((elem l 0x87).map (fun b => decide (beNat b ≠ 0))).getD false, conf := beNat conf % 2 ^ 32
           nds := ((elem l 0x89).map (fun b => decide (beNat b ≠ 0))).getD false, data := data }
  | _, _, _, _, _, _ => none

/-- The elements of a content up to the first that does not decode. -/
def berPrefix : Nat → List Byte → List (Nat × List Byte)
  | 0, _ => []
  | f + 1, l => match berNext l with | none => [] | some (t, c, r) => (t, c) :: berPrefix f r

/-- Decode as far as gocbRef: the first element of the PDU. -/
def readRef (pdu : List Byte) : Option (List Byte) :=
  match berNext pdu with | some (0x80, c, _) => some c | _ => none

/-- VTYPE and value of an allData element (R238). -/
def gooseValue (e : Option (Nat × List Byte)) : Nat × Nat :=
  match e with
  | some (0x83, c) => (0, b2n (decide (beNat c ≠ 0)))
  | some (0x85, c) => if c.isEmpty || 4 < c.length then (7, 0) else (1, unsgn 32 (sgn (8 * c.length) (beNat c)))
  | some (0x86, c) => if c.isEmpty || 4 < c.length then (7, 0) else (1, beNat c)
  | some (0x84, c) => if c.isEmpty || 5 < c.length then (7, 0) else (2, beNat ((c.drop 1) ++ List.replicate (5 - c.length) 0#8))
  | some (0x87, c) => if c.length = 5 && c.head? = some 8#8 then (3, beNat (c.drop 1)) else (7, 0)
  | some (0x91, c) => if c.length = 8 then (4, beNat (c.take 4)) else (7, 0)
  | _ => (7, 0)

/-- The outcome of the sequence test (R239). -/
inductive GooseSeq where
  | again | new | dup | stale
  deriving DecidableEq, Repr

def gooseSeq (S Q st sq : Nat) : GooseSeq :=
  let d := (st + 2 ^ 32 - S) % 2 ^ 32
  let e := (sq + 2 ^ 32 - Q) % 2 ^ 32
  if d = 0 then (if 1 ≤ e && e ≤ 2 ^ 31 then .again else .dup) else if d ≤ 2 ^ 31 then .new else .stale

/-- A slot of the GOOSE ring (R241). -/
def State.gooseSlot (s : State) (g : Nat) (f : RxFrame) (a : App) (first : Bool) : State :=
  let prod := s.rd TRP_GRING_PROD.INDEX
  let used := (prod + 2 ^ 32 - s.rd TRP_GRING_CONS.INDEX) % 2 ^ 32
  let slots := 2 ^ s.rd TRP_GRING_SIZE.LOG2
  if !s.on TRP_GRING_SIZE.ENABLE || slots ≤ used then (s.bump TRP_GRING_DROP.COUNT).raise 267 else
  let sec := f.endGtc / nsPerSec
  let q0 := f.endGtc % nsPerSec + sec % 2 ^ 32 * 2 ^ 32
  let q1 := sec / 2 ^ 32 % 2 ^ 16 + f.steps % 2 ^ 16 * 2 ^ 16 + g * 2 ^ 32 + b2n first * 2 ^ 43 + b2n (decide (448 < a.all.length)) * 2 ^ 44 +
    s.rd TRP_GSUBs_STATE.AUTH_OK g * 2 ^ 45 + s.rd TRP_GSUBs_STATE.NDSCOM g * 2 ^ 46 + s.rd TRP_GSUBs_STATE.SIM g * 2 ^ 47
  let q2 := s.rd TRP_GSUBs_STNUM.NUM g + s.rd TRP_GSUBs_SQNUM.NUM g * 2 ^ 32
  let q3 := (s.gsub g).tal % 2 ^ 32 + a.all.length % 2 ^ 11 * 2 ^ 32
  let q4 := s.trp.ringSeq % 2 ^ 32 + s.rd TRP_GSUBs_VALUE.VALUE g * 2 ^ 32
  let b := leBytes 8 q0 ++ leBytes 8 q1 ++ leBytes 8 q2 ++ leBytes 8 q3 ++ leBytes 8 q4 ++ leBytes 8 (s.rd TRP_GSUBs_STATE.VTYPE g) ++
    List.replicate 16 0#8 ++ a.all.take 448
  let base := s.rd TRP_GRING_BASE_LO.BASE + s.rd TRP_GRING_BASE_HI.BASE * 2 ^ 32
  let s := (s.rtWrite (base + 512 * (prod % slots)) b).wr TRP_GRING_PROD.INDEX ((prod + 1) % 2 ^ 32)
  let s := { s with trp := { s.trp with ringSeq := s.trp.ringSeq + 1 } }
  if used = 0 then s.raise 266 else s

/-- A GOOSE frame is accepted (R238 to R240). -/
def State.gooseAccept (s : State) (g : Nat) (f : RxFrame) (a : App) (x : Goose) (auth : Bool) (new : Bool) : State :=
  let first := s.rd TRP_GSUBs_STATE.STATE g != 1
  let s := s.cal 483
  let s := s.setGsub g { s.gsub g with lastTick := f.endTick, staleRun := 0, tal := x.tal }
  let s := s.wr TRP_GSUBs_SQNUM.NUM x.sq g
  if !(first || new) then (s.wr TRP_GSUBs_STATE.TAL x.tal g) else
  let v := gooseValue (x.data[gsubDidx (s.gsubE g)]?)
  let s := ((s.wr TRP_GSUBs_STATE.NDSCOM (b2n x.nds) g).wr TRP_GSUBs_STATE.SIM (b2n x.sim) g).wr TRP_GSUBs_STATE.AUTH_OK (b2n auth) g
  let s := ((s.wr TRP_GSUBs_STATE.VTYPE v.1 g).wr TRP_GSUBs_STATE.TAL x.tal g).wr TRP_GSUBs_VALUE.VALUE v.2 g
  let s := ((s.wr TRP_GSUBs_STNUM.NUM x.st g).setGsubState g 1).gooseSlot g f a first
  if gsubRecTrig (s.gsubE g) then s.recTrigger 4 g (s.tickAt f.endGtc) f.endGtc else s

/-- The sequence step of R238 and R239. -/
def State.gooseSequence (s : State) (g : Nat) (f : RxFrame) (a : App) (x : Goose) (auth : Bool) : State :=
  if s.rd TRP_GSUBs_STATE.STATE g != 1 then s.gooseAccept g f a x auth true else
  match gooseSeq (s.rd TRP_GSUBs_STNUM.NUM g) (s.rd TRP_GSUBs_SQNUM.NUM g) x.st x.sq with
  | .again => s.gooseAccept g f a x auth false
  | .new => s.gooseAccept g f a x auth true
  | .dup => (s.setGsub g { s.gsub g with staleRun := 0 }).count TRP_cnt_LO.COUNT 12
  | .stale =>
    let y := s.gsub g
    let run := if y.staleRun != 0 && y.staleSt == x.st && decide (y.staleSq < x.sq) then y.staleRun + 1 else 1
    if 3 ≤ run then (s.raise 265 [i16 g, i16 a.appid, i32 x.st]).gooseAccept g f a x auth true
    else
      let s := s.setGsub g { y with staleRun := run, staleSt := x.st, staleSq := x.sq }
      (s.count TRP_cnt_LO.COUNT 17).raise 265 [i16 g, i16 a.appid]

/-- A frame the parser refuses: a format error, with source 265 naming the subscription or the port (R243). -/
def State.gooseMalformed (s : State) (who : Item) (a : App) : State := (s.count TRP_cnt_LO.COUNT 10).raise 265 [who, i16 a.appid]

/-- The steps of R238 for a frame whose application part is read. -/
def State.gooseChecks (s : State) (f : RxFrame) (a : App) : State :=
  match if a.tag == 0x61 then readRef a.pdu else none with
  | none => s.gooseMalformed (i8 f.port) a
  | some ref =>
    let hit := s.validGsubs.find? (fun g => let v := s.gsubE g
      gsubDmac v == dstMac f.bytes && gsubAppid v == a.appid && gsubRefLen v == ref.length &&
      gsubRefCrc v == (crc32c 0xFFFFFFFF#32 ref).toNat && bitOf (gsubPorts v) f.port)
    match hit with
    | none => (s.count TRP_cnt_LO.COUNT 8).raise 265 [i8 f.port, i16 a.appid]
    | some g =>
      let v := s.gsubE g
      let sim := ((elem (berPrefix a.pdu.length a.pdu) 0x87).map (fun b => decide (beNat b ≠ 0))).getD false
      if sim && !gsubSimAccept v then s.count TRP_cnt_LO.COUNT 14 else
      let y := s.gsub g
      let w := s.tim.gtc / 10000000 + 1
      let y : GsubSt := if y.win = w then y else { y with win := w, admitted := 0 }
      if 64 ≤ y.admitted then (s.setGsub g y).count TRP_cnt_LO.COUNT 13 else
      let s := s.setGsub g { y with admitted := y.admitted + 1 }
      match s.authCheck (gsubKeySlot v) (gsubAuth v) (gsubMacAlg v) a with
      | .fail id => (s.count TRP_cnt_LO.COUNT 9).raise 264 [i16 g, i32 id]
      | .pass auth =>
        match (berList a.pdu).bind readGoose with
        | none => s.gooseMalformed (i16 g) a
        | some x =>
          if x.conf != gsubConfRev v then (s.count TRP_cnt_LO.COUNT 11).raise 265 [i16 g, i16 a.appid]
          else s.gooseSequence g f a x auth

/-- GOOSE_FRAME_INTAKE (R238): the oldest frame of the intake FIFO. -/
def execGooseFrameIntake (s : State) : Host.Outcome State Fault Refusal :=
  match s.ppl.gooseIn with
  | [] => ok s
  | f :: t =>
    let s := State.count { s with ppl := { s.ppl with gooseIn := t } } TRP_cnt_LO.COUNT 7
    match readApp f.bytes with
    | none => ok ((s.count TRP_cnt_LO.COUNT 10).raise 265 [i8 f.port, i16 (beAt f.bytes (payloadAt f.bytes) 2)])
    | some a => ok (s.gooseChecks f a)

/-- GOOSE_LOSS_SCAN (R240): at a whole millisecond of GTC time. -/
def execGooseLossScan (s : State) : Host.Outcome State Fault Refusal :=
  let s := s.advanceTo (s.nextGtc 1000000)
  let lost := s.validGsubs.filter (fun g => s.rd TRP_GSUBs_STATE.STATE g == 1 &&
    decide ((s.gsub g).lastTick + 1000000 * (s.gsub g).tal < s.tick))
  ok (forEach lost (fun g s => (s.count TRP_cnt_LO.COUNT 15).setGsubState g 2) s)

end Sys2Proof.Machine
end

