-- ==== Sys2Proof/Machine/Phasor.lean ====
section
/-!
DEFINITION. The phasor engine (chapter 9): history, the computation of R199 to R203, the two stages, harmonics, prediction, the
phasor tables and reports. Angles are turns inside the formulas. The real functions, and the direction in which a term or a sum is
rounded into the number formats of R202, are free functions (Config), since the spec states their accuracy and not their bits.
-/
namespace Sys2Proof.Machine

def State.pch (s : State) (c : Nat) : PheCh := tabGet s.phe.chans c
def State.setPch (s : State) (c : Nat) (v : PheCh) : State := { s with phe := { s.phe with chans := tabSet s.phe.chans c v } }
def State.pgrp (s : State) (g : Nat) : PheGrp := tabGet s.phe.grps g
def State.setPgrp (s : State) (g : Nat) (v : PheGrp) : State := { s with phe := { s.phe with grps := tabSet s.phe.grps g v } }

/-! ## History (R194) -/

/-- Address of channel `c`'s slot for sample number `n`. -/
def State.histAddr (s : State) (c n : Nat) : Nat :=
  let v := s.chE c
  s.rd PHE_HIST_BASE_LO.BASE + s.rd PHE_HIST_BASE_HI.BASE * 2 ^ 32 + 2048 * chHist v + 8 * (n % 2 ^ chHlog2 v)

/-- A sample found in the history. -/
structure Sample where
  value : Rat := 0
  prov : Nat := 0
  qual : Nat := 0
  est : Bool := false
  absent : Bool := false

/-- The sample of channel `c` at `n`, when its slot holds it since the last start. -/
def State.histGet (s : State) (c n : Nat) : Option Sample :=
  let q := tabGet (s.pch c).qual (n % 2 ^ chHlog2 (s.chE c))
  let w := leNat (s.rtRead (s.histAddr c n) 8)
  if q != 0 && bitsOf w 40 24 == n % 2 ^ 24 then
    some { value := (sgn 32 (bitsOf w 0 32) : Rat), prov := bitsOf w 32 8, qual := q - 1 } else none

/-- A cell enters the history; a newer tag in its slot is a conflict, which is counted (R215). -/
def State.histPut (s : State) (c n cell : Nat) : State :=
  let k := n % 2 ^ chHlog2 (s.chE c)
  let p := s.pch c
  let old := bitsOf (leNat (s.rtRead (s.histAddr c n) 8)) 40 24
  let ahead := (old + 2 ^ 24 - n % 2 ^ 24) % 2 ^ 24
  let s := if tabGet p.qual k != 0 && ahead != 0 && decide (ahead < 2 ^ 23) then
      (s.count PHE_cnt_LO.COUNT 9).raise 245 [i16 c, i64 n] else s
  let s := s.rtWrite (s.histAddr c n) (leBytes 8 (bitsOf cell 0 32 + cellProv cell * 2 ^ 32 + n % 2 ^ 24 * 2 ^ 40))
  s.setPch c { p with qual := tabSet p.qual k (cellQual cell + 1) }

/-! ## Prediction (R208) -/

/-- The instant of sample number `n` at `rate`, in seconds. -/
def sampleTime (rate n : Nat) : Rat := (n : Rat) / (rate : Rat)

/-- theta0 in turns at sample number `n`: f0 × (t modulo 1 s) (R199). -/
def theta0 (f0 : Rat) (rate n : Nat) : Rat := f0 * sampleTime rate (n % rate)

/-- The prediction of a channel in counts for instant `t`, in seconds; none when none is valid. -/
def State.predict (s : State) (c : Nat) (t : Rat) : Option Rat :=
  let v := s.chE c
  if !(chValid v && chPredEn v) || !s.on PHE_CFG.ENABLE then none else
  match (s.pch c).anchor with
  | none => none
  | some a =>
    let dt := t - a.t
    if ((max 1 (s.rd PHE_CFG.PRED_CYC) : Nat) : Rat) / a.fe < dt then none else
    let f := if a.fvalid then a.freq else a.fe
    let turns := a.theta + f * dt
    some ((a.dc + Config.sqrtR 2 * (a.re * Config.cosTurn turns - a.im * Config.sinTurn turns)) / f32Val (chScale v))

/-- A prediction asked for by the engine or the fabric: PRED_GIVEN or PRED_REFUSED counts it. -/
def State.askPrediction (s : State) (c : Nat) (t : Rat) : State × Option Rat :=
  match s.predict c t with
  | some x => (s.count PHE_cnt_LO.COUNT 6, some x)
  | none => (s.count PHE_cnt_LO.COUNT 7, none)

/-! ## The computation (R199 to R203) -/

/-- What a computation at sample number n needs of the Grain instance and the row. -/
structure PheIn where
  n : Nat := 0
  inst : Nat := 0
  rate : Nat := 1
  f0 : Rat := 0
  fe : Rat := 0
  angle : Nat := 0
  locked : Bool := false
  gOff : Bool := false
  steps : Nat := 0
  cycle : Nat := 0
  /-- the reporting stage, which estimates nothing. -/
  final : Bool := false

/-- theta0 at the sample number of a computation. -/
def PheIn.theta (i : PheIn) : Rat := theta0 i.f0 i.rate i.n

/-- The turns by which theta0 lags the continuous phase f0 × t between the samples n - `mf` and n: f0 for each whole second between
them (R199: the difference in freq is taken against the continuous phase). -/
def PheIn.lap (i : PheIn) (mf : Nat) : Rat := i.f0 * ((i.n / i.rate - (i.n - mf) / i.rate : Nat) : Rat)

/-- Cycles of a window by WIN. -/
def winCycles (v : Nat) : Rat := if chWin v = 1 then 1 / 2 else if chWin v = 2 then 2 else 1

/-- The window of a computation: its samples from n backwards with their weights, and w. -/
structure Win where
  n : Nat := 0
  w : Rat := 0
  nw : Nat := 0
  tw : Rat := 0
  samples : List (Rat × Sample) := []

/-- Samples of the window at sample number `n` of `m` cycles (R199); an absent one is predicted in the placement stage (R195), and
its value is free when no prediction is valid. -/
def State.window (s : State) (c : Nat) (i : PheIn) (m : Rat) (n : Nat) : Win :=
  let tw := m / i.fe
  let w := tw * (i.rate : Rat)
  let nw := w.floor.toNat
  let r := w - (nw : Rat)
  let ks := List.range (if r = 0 then nw else nw + 1)
  let smp := fun (k : Nat) => match s.histGet c (n - k) with
    | some x => x
    | none =>
      match if i.final then none else s.predict c (sampleTime i.rate (n - k)) with
      | some x => ({ value := x, est := true } : Sample)
      | none => { value := (Config.freeNat (s.free + k) : Rat), est := !i.final, absent := true }
  { n := n, w := w, nw := nw, tw := tw, samples := ks.map (fun k => (if k < nw then 1 else r, smp k)) }

/-- The bounds of the fixed-point sums of R202: 48 bits signed with 15 fraction bits. -/
def sumMax : Rat := ((2 ^ 32 : Nat) : Rat) - 1 / ((2 ^ 15 : Nat) : Rat)
def sumMin : Rat := - ((2 ^ 32 : Nat) : Rat)

/-- Does a sum overflow (R202)? -/
def tooBig (q : Rat) : Bool := decide (sumMax < q) || decide (q < sumMin)

/-- `q` at a grid of `step`: itself on the grid, else one of its two neighbours, by the free choice of Config. -/
def onGrid (step q : Rat) : Rat :=
  let n := (q / step).floor
  let n := if (n : Rat) * step = q then n else if Config.roundUp q then n + 1 else n
  (n : Rat) * step

/-- A term in fixed point with 15 fraction bits (R202). -/
def fixTerm (q : Rat) : Rat := onGrid (pow2 (-15)) q

/-- A window sum of weighted terms in fixed point, saturated, and whether it overflowed (R202). -/
def winSum (l : List Rat) : Rat × Bool :=
  let q := (l.map fixTerm).foldl (fun a b => a + b) 0
  (max sumMin (min q sumMax), tooBig q)

/-- A number of at least 0 with a 48-bit significand (R202). -/
def sqTerm (q : Rat) : Rat := if q ≤ 0 then 0 else onGrid (pow2 (max (expOf q - 47) Config.sqExpMin)) q

/-- A sum of squares: each term and each partial sum has a 48-bit significand (R202). -/
def sqSum (l : List Rat) : Rat := l.foldl (fun a b => sqTerm (a + sqTerm b)) 0

/-- The uncorrected phasor of harmonic h over a window (R199, R205): real and imaginary parts, in counts, and SAT. -/
def winPhasor (i : PheIn) (x : Win) (h : Nat) : (Rat × Rat) × Bool :=
  let th := theta0 i.f0 i.rate x.n
  let turn := fun (k : Nat) => (h : Rat) * (th - i.fe * (k : Rat) / (i.rate : Rat))
  let l := x.samples.zipIdx
  let r2 := Config.sqrtR 2
  let re := winSum (l.map (fun p => r2 * p.1.1 * p.1.2.value * Config.cosTurn (turn p.2) / x.w))
  let im := winSum (l.map (fun p => - r2 * p.1.1 * p.1.2.value * Config.sinTurn (turn p.2) / x.w))
  ((re.1, im.1), re.2 || im.2)

/-- The window bits of STATUS (R203): MISSING, QINVALID, FILLED, EST, NOT_SYNC, SIMULATED, WARM, and NFILL, with what makes the
result not VALID. `sat` is SAT. -/
def State.winStatus (s : State) (c : Nat) (x : Win) (sat : Bool) : Nat × Bool :=
  let any := fun (p : Sample → Bool) => x.samples.any (fun y => p y.2)
  let warm := decide (x.n < (s.pch c).start + (x.samples.length - 1))
  let missing := any (fun y => y.prov == 3)
  let qinv := any (fun y => y.qual % 4 == 1)
  let nfill := min 255 ((x.samples.filter (fun y => y.2.prov != 0 || y.2.est)).length)
  let bits := b2n warm * 8 + b2n (any (fun y => y.est)) * 16 + b2n (any (fun y => y.prov == 1 || y.prov == 2)) * 32 +
    b2n missing * 64 + b2n qinv * 128 + b2n sat * 256 + b2n (any (fun y => bitOf y.qual 14)) * 2048 +
    b2n (any (fun y => bitOf y.qual 15)) * 4096 + nfill * 2 ^ 16
  (bits, !warm && !missing && !qinv && !sat && decide (nfill ≤ s.rd PHE_CFG.MAX_FILL) && !any (fun y => y.absent))

/-- A difference of angles in turns, wrapped to (-1/2, 1/2]. -/
def wrapTurn (q : Rat) : Rat := q - ((q - 1 / 2).ceil : Rat)

/-- Is a number within 40 to 70 Hz? -/
def in4070 (f : Rat) : Bool := decide (40 ≤ f) && decide (f ≤ 70)

/-- The magnitude and argument (turns) of a complex number. -/
def absC (re im : Rat) : Rat := Config.sqrtR (re * re + im * im)

/-- R199 to R203 for channel `c`. -/
def State.pheCompute (s : State) (c : Nat) (i : PheIn) : ChRes :=
  let v := s.chE c
  let sc := f32Val (chScale v)
  let x := s.window c i (winCycles v) i.n
  let p2 := winPhasor i x 1
  let p := p2.1
  let dc2 := winSum (x.samples.map (fun y => y.1 * y.2.value / x.w))
  let dcc := dc2.1
  let sq := sqSum (x.samples.map (fun y => y.1 * y.2.value * y.2.value / x.w))
  let mf := roundEven x.w
  let y := s.window c i (winCycles v) (i.n - mf)
  let q2 := winPhasor i y 1
  let q := q2.1
  let arg0 := Config.atan2Turn p.2 p.1
  let freq := i.f0 + wrapTurn (arg0 - Config.atan2Turn q.2 q.1 - i.lap mf) / ((mf : Rat) / (i.rate : Rat))
  let st := s.winStatus c x (p2.2 || dc2.2)
  let pre := s.winStatus c y q2.2
  let d := freq - i.fe
  let half := d * x.tw / 2
  let sinc := if half = 0 then 1 else Config.sinTurn half / (2 * Config.piR * half)
  let magU := sc * absC p.1 p.2
  let base := st.2 && pre.2 && in4070 freq
  let fmin := f32Val (chRated v) * (s.rd PHE_CFG.FMIN_PCT : Rat) / 100
  let corr := base && decide (fmin ≤ magU) && decide (-5 ≤ d) && decide (d ≤ 5)
  let re := if corr then (p.1 * Config.cosTurn half - p.2 * Config.sinTurn half) / sinc else p.1
  let im := if corr then (p.1 * Config.sinTurn half + p.2 * Config.cosTurn half) / sinc else p.2
  let mag := sc * absC re im
  let fvalid := base && decide (fmin ≤ mag)
  let arg := wrapTurn (Config.atan2Turn im re)
  let a := if i.gOff then 0 else i.angle
  let ang := if chAref v then wrapTurn (arg + i.theta - ((a : Rat) / ((2 ^ 32 : Nat) : Rat) - 1 / 4)) else arg
  let last := match x.samples with | (_, z) :: _ => z | [] => {}
  { n := i.n
    status := st.1 + b2n st.2 + b2n fvalid * 2 + b2n (!corr) * 512 + b2n (!i.locked) * 1024 + last.prov * 2 ^ 24
    re := sc * re, im := sc * im, ure := sc * p.1, uim := sc * p.2, pre := sc * q.1, pim := sc * q.2, preOk := pre.2
    mag := mag, arg := arg, ang := ang, rms := sc * Config.sqrtR sq, dc := sc * dcc, freq := freq, inst := sc * last.value, w := x.w
    mf := mf, prov := last.prov, qual := last.qual }

/-- The offers of a channel result (R204). -/
def chOffer (c : Nat) (i : PheIn) (r : ChRes) (stamp : Nat) : Offer :=
  { group := false, index := c, n := i.n, status := r.status, prov := r.prov, qual := r.qual, inst := i.inst, stamp := stamp
    qs := [(0, f32Of r.inst), (1, f32Of r.mag), (2, f32Of (2 * Config.piR * r.ang)), (3, f32Of (r.mag * Config.cosTurn r.ang)),
           (4, f32Of (r.mag * Config.sinTurn r.ang)), (5, f32Of r.rms), (6, f32Of r.freq)] }

/-! ## Groups (R201, R203) -/

/-- A group result. -/
structure GrpRes where
  status : Nat := 0
  x0 : Rat × Rat := (0, 0)
  x1 : Rat × Rat := (0, 0)
  x2 : Rat × Rat := (0, 0)
  freq : Rat := 0
  rocof : Rat := 0
  /-- argument of x1 in turns, AREF 0. -/
  arg : Rat := 0
  deriving Inhabited

/-- (a + rot·b + rot²·c) / 3 with rot a third of a turn (`k` = 1), back (2) or none (0). -/
def seqSum (k : Nat) (a b c : Rat × Rat) : Rat × Rat :=
  let h := Config.sqrtR 3 / 2
  let turn := fun (k : Nat) (z : Rat × Rat) =>
    if k % 3 = 0 then z else if k % 3 = 1 then (- z.1 / 2 - h * z.2, h * z.1 - z.2 / 2) else (- z.1 / 2 + h * z.2, - h * z.1 - z.2 / 2)
  let b := turn k b
  let c := turn (2 * k) c
  ((a.1 + b.1 + c.1) / 3, (a.2 + b.2 + c.2) / 3)

/-- A group result from its three channel results and the FREQ history of its stage. -/
def State.grpCompute (s : State) (g : Nat) (i : PheIn) (a b c : ChRes) (hist : List (Nat × Rat × Bool)) : GrpRes :=
  let u := seqSum 1 (a.ure, a.uim) (b.ure, b.uim) (c.ure, c.uim)
  let q := seqSum 1 (a.pre, a.pim) (b.pre, b.pim) (c.pre, c.pim)
  let freq := i.f0 + wrapTurn (Config.atan2Turn u.2 u.1 - Config.atan2Turn q.2 q.1 - i.lap a.mf) / ((a.mf : Rat) / (i.rate : Rat))
  let z := fun (x : ChRes) => (x.re, x.im)
  let x0 := seqSum 0 (z a) (z b) (z c)
  let x1 := seqSum 1 (z a) (z b) (z c)
  let x2 := seqSum 2 (z a) (z b) (z c)
  let all := fun (k : Nat) => bitOf a.status k && bitOf b.status k && bitOf c.status k
  let any := fun (k : Nat) => bitOf a.status k || bitOf b.status k || bitOf c.status k
  let hi := fun (lo w : Nat) => max (bitsOf a.status lo w) (max (bitsOf b.status lo w) (bitsOf c.status lo w))
  let rated := f32Val (chRated (s.chE (s.rd PHE_GRPg_PH.CH_A g)))
  let fv := all 0 && a.preOk && b.preOk && c.preOk && in4070 freq && decide (rated * (s.rd PHE_CFG.FMIN_PCT : Rat) / 100 ≤ absC x1.1 x1.2)
  let mr := roundEven ((s.rd PHE_GRPg_CFG.ROC_CYC g : Rat) * (i.rate : Rat) / i.fe)
  let old := hist.find? (fun h => h.1 + mr == i.n)
  let rv := fv && (match old with | some (_, _, b) => b | none => false)
  let rocof := match old with | some (_, f, _) => (freq - f) / ((mr : Rat) / (i.rate : Rat)) | none => 0
  let mid := ((List.range 10).map (fun k => b2n (any (k + 3)) * 2 ^ (k + 3))).sum
  { status := b2n (all 0) + b2n fv * 2 + b2n rv * 4 + mid + hi 16 8 * 2 ^ 16 + hi 24 8 * 2 ^ 24
    x0 := x0, x1 := x1, x2 := x2, freq := freq, rocof := rocof, arg := wrapTurn (Config.atan2Turn x1.2 x1.1) }

/-- The offers of a group result (R204). -/
def grpOffer (g : Nat) (i : PheIn) (r : GrpRes) (stamp : Nat) : Offer :=
  { group := true, index := g, n := i.n, status := r.status, inst := i.inst, stamp := stamp
    qs := [(8, f32Of (absC r.x1.1 r.x1.2)), (9, f32Of (absC r.x2.1 r.x2.2)), (10, f32Of (absC r.x0.1 r.x0.2)), (11, f32Of r.freq),
           (12, f32Of r.rocof)] }

/-- FREQ history kept for the longest ROCOF span: 15 cycles at 40 Hz. -/
def keepHist (i : PheIn) (l : List (Nat × Rat × Bool)) : List (Nat × Rat × Bool) :=
  l.filter (fun h => decide (i.n ≤ h.1 + (15 * i.rate / 40 + 1)))

/-! ## Placement stage (R195, R197) -/

/-- SAT counts and raises 241 (R202). -/
def State.pheSat (s : State) (c : Nat) (st : Nat) : State :=
  if bitOf st 8 then (s.count PHE_cnt_LO.COUNT 5).raise 241 [i16 c] else s

/-- Estimates of a placement window are counted as given or refused (R195, R208). -/
def State.countEstimates (s : State) (c : Nat) (i : PheIn) : State :=
  let x := s.window c i (winCycles (s.chE c)) i.n
  let given := (x.samples.filter (fun y => y.2.est && !y.2.absent)).length
  let refused := (x.samples.filter (fun y => y.2.absent)).length
  { ((s.count PHE_cnt_LO.COUNT 6 0 given).count PHE_cnt_LO.COUNT 7 0 refused) with free := s.free + x.samples.length }

/-- The lowest unsealed row of the bay of channel `c`: the first row that seals from now on. -/
def State.nextRow (s : State) (c : Nat) : Nat := (tabGet s.aln.bays (chBay (s.chE c))).next

/-- The groups that have channel `c`. -/
def State.grpsOf (s : State) (c : Nat) : List Nat := s.validGrps.filter (fun g => (s.grpChans g).contains c)

/-- PHE_PLACEMENT_RESULT (R195): a received cell of channel `c` at N has entered the history; its channel result, and the group
results that it completes, are offered to the Parting path. The results of rows still unsealed are kept for the groups (R197):
a row that has sealed takes no further cell. -/
def State.phePlace (s : State) (c : Nat) (i : PheIn) (stamp : Nat) : State :=
  let p := s.pch c
  if i.n < p.placed then (s.count PHE_cnt_LO.COUNT 4).raise 242 [i16 c, i64 i.n]
  else
    let r := s.pheCompute c i
    let s := s.countEstimates c i
    let p := s.pch c
    let s := (s.setPch c { p with placed := i.n + 1, place := r :: p.place.filter (fun q => decide (s.nextRow c ≤ q.n)) }).pheSat c r.status
    let s := ((s.count PHE_cnt_LO.COUNT 0).cal 432).offer (chOffer c i r stamp)
    forEach (s.grpsOf c) (fun g s =>
      let cs := s.grpChans g
      match cs.filterMap (fun k => (s.pch k).place.find? (fun q => q.n == i.n)) with
      | [a, b, d] =>
        let h := (s.pgrp g).place
        let x := s.grpCompute g i a b d h
        let s := s.setPgrp g { s.pgrp g with place := (i.n, x.freq, bitOf x.status 1) :: keepHist i h }
        (s.count PHE_cnt_LO.COUNT 2).offer (grpOffer g i x stamp)
      | _ => s) s

/-! ## Phasor tables (R207) -/

/-- Base of the tables. -/
def State.tblBase (s : State) : Nat := s.rd PHE_TBL_BASE_LO.BASE + s.rd PHE_TBL_BASE_HI.BASE * 2 ^ 32
def State.chRecAddr (s : State) (c : Nat) : Nat := s.tblBase + 64 * c
def State.grpRecAddr (s : State) (g : Nat) : Nat := s.tblBase + 0x40000 + 64 * g
def State.harmAddr (s : State) (h : Nat) : Nat := s.tblBase + 0x100000 + 1024 * h

/-- Quadwords 0 to 2 of a record: N, instant, STEPS, STATUS. -/
def recHead (n inst steps status : Nat) : List Byte :=
  let sec := inst / nsPerSec
  leBytes 8 n ++ leBytes 8 (inst % nsPerSec + sec % 2 ^ 32 * 2 ^ 32) ++
  leBytes 8 (sec / 2 ^ 32 % 2 ^ 16 + steps % 2 ^ 16 * 2 ^ 16 + status * 2 ^ 32)

/-- Two binary32 numbers as a quadword. -/
def twoF (a b : Rat) : List Byte := leBytes 4 (f32Of a) ++ leBytes 4 (f32Of b)

/-- Write a record's bytes: SEQ, in the last four bytes of its first 64, rises before and after. -/
def State.putRecord (s : State) (a : Nat) (b : List Byte) : State :=
  let seq := leNat (s.rtRead (a + 60) 4)
  (s.rtWrite a (b.take 60)).rtWrite (a + 60) (leBytes 4 ((seq + 2) % 2 ^ 32) ++ b.drop 64)

/-- A stopped or restarted record: VALID 0 and WARM 1, the rest kept (R207). -/
def State.stopRecord (s : State) (a : Nat) : State :=
  let b := s.rtRead a 64
  let st := leAt b 20 4
  s.putRecord a (patch b 20 (leBytes 4 (setBit (setBit st 0 false) 3 true)))

/-! ## Reporting stage (R196) -/

/-- A change of VALID raises source 240; the item is the channel or group number. -/
def State.validChange (s : State) (was now : Bool) (id : Item) (status : Nat) : State :=
  if was == now then s else s.raise 240 [id, i32 status]

/-- A reporting result feeds the Grain instances that name the channel or group (R70, R71). `turns` is its AREF 0 argument. -/
def State.feedGrain (s : State) (group : Bool) (k : Nat) (i : PheIn) (turns mag rated freq : Rat) (prov nfill : Nat) : State :=
  let a := ((wrapTurn (turns + i.theta + 1 / 4)) * ((2 ^ 32 : Nat) : Rat)).floor
  let ang := unsgn 32 a
  forEach (List.range 4) (fun n s =>
    let valid := prov == 0 && decide (nfill ≤ s.rd TIM_GRAINn_LOOP.MAX_FILL n) &&
      decide (rated * (s.rd TIM_GRAINn_LOOP.MIN_MAG n : Rat) / 100 ≤ mag) && in4070 freq
    let s := if s.on TIM_GRAINn_REF.KIND n == group && s.rd TIM_GRAINn_REF.INDEX n == k then s.grainUpdate n false valid ang i.inst else s
    if s.on TIM_GRAINn_ALT.KIND n == group && s.rd TIM_GRAINn_ALT.INDEX n == k then s.grainUpdate n true valid ang i.inst else s) s

/-- HARMONIC_COMPUTE (R205): at the first row of a new cycle of the bay's instance. A saturated sum of it shows in the record's STATUS
and counts (R202). -/
def State.harmonics (s : State) (c : Nat) (i : PheIn) (r : ChRes) : State :=
  let v := s.chE c
  let p := s.pch c
  let s := s.setPch c { p with cycle := i.cycle + 1 }
  if !chHarm v || i.gOff || p.cycle = 0 || p.cycle = i.cycle + 1 then s
  else if p.harm.isSome then (s.count PHE_cnt_LO.COUNT 8).raise 244 [i16 c]
  else
    let sc := f32Val (chScale v)
    let x := s.window c i 1 i.n
    let hmax := min 63 (((i.rate : Rat) / (2 * i.fe)).ceil.toNat - 1)
    let one2 := winPhasor i x 1
    let one := one2.1
    let sat := one2.2 || (List.range (hmax - 1)).any (fun k => (winPhasor i x (k + 2)).2)
    let s := s.pheSat c (b2n sat * 256)
    let status := if sat then setBit (setBit (setBit r.status 0 false) 1 false) 8 true else r.status
    let arg1 := Config.atan2Turn one.2 one.1
    let hs := (List.range 62).map (fun k =>
      let h := k + 2
      if hmax < h then (0x7FC00000, 0x7FC00000, (0 : Rat))
      else
        let z := (winPhasor i x h).1
        let m := sc * absC z.1 z.2
        (f32Of m, f32Of (2 * Config.piR * wrapTurn (Config.atan2Turn z.2 z.1 - (h : Rat) * arg1)), m))
    let fund := sc * absC one.1 one.2
    let sum2 := (hs.map (fun z => z.2.2 * z.2.2)).foldl (fun a b => a + b) 0
    let b := recHead i.n i.inst i.steps status ++ leBytes 8 (i.cycle + hmax * 2 ^ 32) ++
      twoF fund (Config.sqrtR sum2 / fund) ++ leBytes 8 (f32Of i.fe) ++ leBytes 8 0 ++ leBytes 8 0 ++
      hs.flatMap (fun z => leBytes 4 z.1 ++ leBytes 4 z.2.1) ++ List.replicate 464 0#8
    s.setPch c { s.pch c with harm := some { slot := chHslot v, bytes := b } }

/-- HARMONIC_RECORD_WRITTEN (R205): the computation ends and its record is written. -/
def execHarmonicRecordWritten (c : Nat) (s : State) : Host.Outcome State Fault Refusal :=
  match (s.pch c).harm with
  | none => ok s
  | some j =>
    let s := s.setPch c { s.pch c with harm := none }
    ok (((s.putRecord (s.harmAddr j.slot) j.bytes).count PHE_cnt_LO.COUNT 3).cal 434)

/-- The channel record of R207. -/
def chRecord (i : PheIn) (r : ChRes) : List Byte :=
  recHead i.n i.inst i.steps r.status ++ twoF (r.mag * Config.cosTurn r.ang) (r.mag * Config.sinTurn r.ang) ++
  twoF r.mag (2 * Config.piR * r.ang) ++ twoF r.rms r.dc ++ twoF r.freq r.inst ++ leBytes 4 (f32Of r.w) ++ leBytes 4 0

/-- The group record of R207: its components follow AREF of phase A. -/
def grpRecord (i : PheIn) (a : ChRes) (r : GrpRes) : List Byte :=
  let t := a.ang - a.arg
  let rot := fun (z : Rat × Rat) => twoF (z.1 * Config.cosTurn t - z.2 * Config.sinTurn t) (z.1 * Config.sinTurn t + z.2 * Config.cosTurn t)
  recHead i.n i.inst i.steps r.status ++ rot r.x1 ++ rot r.x2 ++ rot r.x0 ++ twoF r.freq r.rocof ++ leBytes 8 0

/-- A reporting channel result at a sealed row. -/
def State.reportChan (s : State) (c : Nat) (i : PheIn) : State :=
  let r := s.pheCompute c i
  let v := s.chE c
  let s := { s with free := s.free + (s.window c i (winCycles v) i.n).samples.length }
  let s := ((s.putRecord (s.chRecAddr c) (chRecord i r)).count PHE_cnt_LO.COUNT 1).cal 433
  let p := s.pch c
  let s := (s.validChange p.valid (bitOf r.status 0) (i16 c) r.status).pheSat c r.status
  let anchor := if bitOf r.status 0 && r.prov == 0 then
      some ({ t := sampleTime i.rate i.n, theta := i.theta, re := r.re, im := r.im, dc := r.dc, freq := r.freq, fe := i.fe, fvalid := bitOf r.status 1 } : Anchor)
    else p.anchor
  let s := s.setPch c { s.pch c with valid := bitOf r.status 0, anchor := anchor }
  let s := s.feedGrain false c i r.arg r.mag (f32Val (chRated v)) r.freq r.prov (bitsOf r.status 16 8)
  s.harmonics c i r

/-- A reporting group result. -/
def State.reportGrp (s : State) (g : Nat) (i : PheIn) : State :=
  match (s.grpChans g).map (fun k => s.pheCompute k i) with
  | [a, b, c] =>
    let h := (s.pgrp g).report
    let r := s.grpCompute g i a b c h
    let s := (s.putRecord (s.grpRecAddr g) (grpRecord i a r)).count PHE_cnt_LO.COUNT 2
    let p := s.pgrp g
    let s := s.validChange p.valid (bitOf r.status 0) (i32 g) r.status
    let s := s.setPgrp g { s.pgrp g with valid := bitOf r.status 0, report := (i.n, r.freq, bitOf r.status 1) :: keepHist i h }
    s.feedGrain true g i r.arg (absC r.x1.1 r.x1.2) (f32Val (chRated (s.chE (s.rd PHE_GRPg_PH.CH_A g)))) r.freq
      (bitsOf r.status 24 8) (bitsOf r.status 16 8)
  | _ => s

/-- May channel `c` produce results: VALID in a bay that runs, and its cell inside the row (R210)? -/
def State.chActive (s : State) (c : Nat) : Bool :=
  let v := s.chE c
  s.on PHE_CFG.ENABLE && chValid v && s.bayRuns (chBay v) && decide (chCell v < bayWidth (s.bayE (chBay v)))

/-- The record at `a` shows VALID 0 and WARM 1; a VALID that was set has changed (R203, R207). -/
def State.recordStops (s : State) (was : Bool) (id : Item) (a : Nat) : State :=
  let s := s.stopRecord a
  s.validChange was false id (leNat (s.rtRead (a + 20) 4))

/-- A channel's state becomes `p`, with nothing held from before, and its record is rewritten. -/
def State.chBecomes (s : State) (c : Nat) (p : PheCh) : State :=
  let was := (s.pch c).valid
  (s.setPch c p).recordStops was (i16 c) (s.chRecAddr c)

/-- A channel starts or restarts at sample number `n` (R210). -/
def State.chRestart (s : State) (c n : Nat) : State :=
  (s.chBecomes c { start := n, running := true }).count PHE_cnt_LO.COUNT 10

/-- A channel stops: no results, its record rewritten. -/
def State.chStop (s : State) (c : Nat) : State := if !(s.pch c).running then s else s.chBecomes c {}

/-- A VALID channel restarts at once, WARM from the first row sealed from now on (R210); while its bay is Off it gives no results, and
starts with the bay. -/
def State.chRestartNow (s : State) (c : Nat) : State :=
  if s.chActive c then s.chRestart c (s.nextRow c) else s.chBecomes c {}

/-- A group restarts: its histories are cleared and its record rewritten. -/
def State.grpRestart (s : State) (g : Nat) : State :=
  let was := (s.pgrp g).valid
  (s.setPgrp g {}).recordStops was (i32 g) (s.grpRecAddr g)

/-- Every channel of bay `b` restarts at `n`, and the groups that have them (R210). -/
def State.bayRestartPhe (s : State) (b n : Nat) : State :=
  let cs := s.validChans.filter (fun c => chBay (s.chE c) == b)
  let s := forEach cs (fun c s => if s.chActive c then s.chRestart c n else s.chStop c) s
  forEach (s.validGrps.filter (fun g => (s.grpChans g).any (fun c => cs.contains c))) (fun g s => s.grpRestart g) s

/-- PHE_LOAD.UPDATES: the sum of ROW_HZ of the live bays over the live VALID channels (R213). -/
def State.showPheLoad (s : State) : State :=
  s.wr PHE_LOAD.UPDATES (s.validChans.map (fun c => bayRowHz (s.bayE (chBay (s.chE c))))).sum

/-- PHE_REPORT_ROW (R196): a sealed row of bay `b`. Filled cells enter the history now; received ones did at placement, and enter
again when a restart has cleared them since (a reporting result depends only on the cells of rows up to N). -/
def State.pheRow (s : State) (b : Nat) (i : PheIn) (cells : Nat → Nat) : State :=
  let cs := s.validChans.filter (fun c => chBay (s.chE c) == b && s.chActive c)
  let s := forEach cs (fun c s =>
    let s := if (s.pch c).running then s else s.chRestart c i.n
    let cell := cells (chCell (s.chE c))
    if cellProv cell = 0 && (s.histGet c i.n).isSome then s else s.histPut c i.n cell) s
  let s := forEach cs (fun c s => s.reportChan c i) s
  forEach (s.validGrps.filter (fun g => (s.grpChans g).all (fun c => cs.contains c))) (fun g s => s.reportGrp g i) s

/-! ## Reports (R209) -/

/-- The outcome of a delivery into a ring: counts and event. -/
def State.deliverOutcome (s : State) (d : Delivery) (unavail nobuf short : State → State) (ev : Nat → State → State) : State :=
  match d with
  | .done => s
  | .unavail => ev 0 (unavail s)
  | .noBuf => ev 1 (nobuf s)
  | .short => ev 2 (short s)

/-- PHASOR_REPORT (R209): report set `i` at the firing of its mark, on instance `n`. -/
def State.report (s : State) (i n : Nat) : State :=
  let chs := s.validChans.filter (fun c => bitOf (chRpt (s.chE c)) i)
  let grs := s.validGrps.filter (fun g => bitOf (s.rd PHE_GRPg_CFG.RPT g) i)
  let sec := s.sec
  let g := s.grain n
  let h := leBytes 8 (chs.length + grs.length * 2 ^ 16 + i * 2 ^ 32) ++ leBytes 8 (s.ns + sec % 2 ^ 32 * 2 ^ 32) ++
    leBytes 8 (sec / 2 ^ 32 % 2 ^ 16 + s.rd TIM_STATUS.STEPS * 2 ^ 16 + s.rd TIM_STATUS.QUALITY * 2 ^ 32 + s.gstate n * 2 ^ 36) ++
    leBytes 8 (g.angle + g.cycle * 2 ^ 32) ++ leBytes 8 (s.rd PHE_RPTi_SEQ.SEQ i) ++ List.replicate 24 0#8
  let body := chs.flatMap (fun c => s.rtRead (s.chRecAddr c) 64) ++ grs.flatMap (fun g => s.rtRead (s.grpRecAddr g) 64)
  let r := s.deliver (s.ringFn (s.rd PHE_RPTi_CFG.RING_FN i)) (s.rd PHE_RPTi_CFG.RING i) (h ++ body) (1 + 2 * i) h.length
  let s := r.1.deliverOutcome r.2 (fun s => s.bump PHE_RPTi_CNT.UNAVAIL i) (fun s => s.bump PHE_RPTi_CNT.NO_BUF i)
    (fun s => s.bump PHE_RPTi_SHORT.SHORT i) (fun k s => s.raise 243 [i8 i, i8 k])
  s.wr PHE_RPTi_SEQ.SEQ ((s.rd PHE_RPTi_SEQ.SEQ i + 1) % 2 ^ 32) i

end Sys2Proof.Machine
end

