-- ==== Sys2Proof/Machine/Events.lean ====
section
/-!
DEFINITION. The event unit and the journal (chapter 22) and Calipers (chapter 21): release of records to their routes, the
journal, rate-limit windows, and the commands of PF0 on them.
-/
namespace Sys2Proof.Machine

/-! ## Record layout (R445, R446) -/

/-- Pack items from DATA0 bit 0 upward, each aligned to its own size: (next free bit, value so far). -/
def packFrom : List Item → Nat → Nat → Nat
  | [], _, acc => acc
  | i :: t, p, acc =>
    let p' := (p + i.bits - 1) / i.bits * i.bits
    packFrom t (p' + i.bits) (acc + i.val % 2 ^ i.bits * 2 ^ p')

/-- DATA0 to DATA3 as one 256-bit number. -/
def packItems (l : List Item) : Nat := packFrom l 0 0 % 2 ^ 256

/-- The eight quadwords of a record whose quadword 0 is given. -/
def EvRec.bytesWith (r : EvRec) (q0 : Nat) : List Byte :=
  let sec := r.gtc / nsPerSec
  let q1 := r.gtc % nsPerSec + sec % 2 ^ 32 * 2 ^ 32
  let q2 := sec / 2 ^ 32 % 2 ^ 16 + r.steps % 2 ^ 16 * 2 ^ 16 + r.quality % 16 * 2 ^ 32 + b2n r.grainV * 2 ^ 36 +
    (if r.grainV then r.inst % 4 else 0) * 2 ^ 37 + b2n r.summary * 2 ^ 39 + min r.suppressed 0xFFFF * 2 ^ 40
  let q3 := if r.grainV then r.angle + r.cycle * 2 ^ 32 else 0
  leBytes 8 q0 ++ leBytes 8 q1 ++ leBytes 8 q2 ++ leBytes 8 q3 ++ leBytes 32 (packItems r.items)

/-- A record with its JSEQ, as 64 bytes. -/
def EvRec.bytes (r : EvRec) (jseq : Nat) : List Byte := r.bytesWith (jseq % 2 ^ 48 + r.src % 2 ^ 16 * 2 ^ 48)

/-- The order of R68: STEPS, GTC value, source; equal records keep the order in which they were raised. -/
def EvRec.before (a b : EvRec) : Bool :=
  a.steps < b.steps || (a.steps == b.steps && (a.gtc < b.gtc || (a.gtc == b.gtc && a.src < b.src)))

/-- The first record of a list in R68 order, and the rest. -/
def firstRec : List EvRec → Option (EvRec × List EvRec)
  | [] => none
  | r :: t =>
    match firstRec t with
    | none => some (r, [])
    | some (m, rest) => if m.before r then some (m, r :: rest) else some (r, m :: rest)

/-! ## The journal (R453 to R455) -/

/-- Read MRAM bytes. -/
def State.mramRead (s : State) (a n : Nat) : List Byte := memRead mramShip s.mram a n

/-- Write MRAM bytes. -/
def State.mramWrite (s : State) (a : Nat) (b : List Byte) : State := { s with mram := memWrite mramShip s.mram a b }

/-- The next JSEQ. -/
def State.jseq (s : State) : Nat := s.rd64 EVT_JSEQ_LO.JSEQ % 2 ^ 48

/-- Publish the journal queue in EVT_STATUS. -/
def State.showJournal (s : State) : State :=
  (s.wr EVT_STATUS.QUEUE s.evt.jq.length).wr EVT_STATUS.HELD (b2n (s.on PWR_STATUS.NV_REFUSED && !s.evt.jq.isEmpty))

/-- Start the slot of the record at the head of the queue: quadword 0 is made invalid first (R453). -/
def State.startJournal (s : State) : State :=
  if s.evt.jq.isEmpty || s.evt.jwriting || s.on PWR_STATUS.NV_REFUSED then s.showJournal
  else
    let s := s.mramWrite (64 * (s.jseq % 16384)) (leBytes 8 (2 ^ 64 - 1))
    ({ s with evt := { s.evt with jwriting := true, jstart := s.tick } }).showJournal

/-- Queue a record for the journal, or lose it in a full queue (R454). -/
def State.journal (s : State) (r : EvRec) : State :=
  if 64 ≤ s.evt.jq.length then
    let s := s.count EVT_cnt_LO.COUNT 3
    { s with evt := { s.evt with jlost := s.evt.jlost + 1 } }
  else ({ s with evt := { s.evt with jq := s.evt.jq ++ [r] } }).startJournal

/-- JSEQ of journal slot `i`, when the slot is valid (R453). -/
def State.slotJseq (s : State) (i : Nat) : Option Nat :=
  let j := leNat (s.mramRead (64 * i) 6)
  if j != 2 ^ 48 - 1 && j % 16384 == i then some j else none

/-- Every valid JSEQ in the journal. -/
def State.validJseqs (s : State) : List Nat := (List.range 16384).filterMap s.slotJseq

/-- The scan at a start: JSEQ resumes after the highest valid one (R455). -/
def State.scanJournal (s : State) : State :=
  let l := s.validJseqs
  s.wr64 EVT_JSEQ_LO.JSEQ (if l.isEmpty then 0 else (l.foldl max 0 + 1) % 2 ^ 48)

/-! ## Routes (R449 to R452, R281) -/

/-- EVT_OUT follows the pending bits in OUT_MODE 0; it is low in Standby (R451). -/
def State.showEvtOut (s : State) : State :=
  let lvl := if s.on EVT_CFG.OUT_MODE then decide (s.tick < s.evt.outPulseEnd)
    else (List.range 16).any (fun k => s.on EVT_OUT_PENDk.PEND k)
  { s with pins := { s.pins with evtOut := lvl && s.rd PWR_STATUS.PSTATE == 0 } }

/-- A record goes to EVT_OUT. -/
def State.routeOut (s : State) (src : Nat) : State :=
  let s := s.setBitAt EVT_OUT_PENDk.PEND src true
  let s := if s.on EVT_CFG.OUT_MODE then
    { s with evt := { s.evt with outPulseEnd := s.tick + 1000 * s.rd EVT_CFG.OUT_PULSE_US } } else s
  s.showEvtOut

/-- A record goes to its vector (R450). -/
def State.routeVector (s : State) (src v : Nat) : State :=
  match s.fnOfVector v with
  | none => s
  | some f =>
    let e := v - s.rd HIF_FNf_MSIX.FIRST f
    let s := s.setBitAt EVT_HOST_PENDk.PEND src true
    if s.msixPending f e then s.count EVT_cnt_LO.COUNT 5 else s.msixFire f e

/-- The PF0 event ring: the TYPE 2 ring of PF0 (R456). -/
def State.eventRing (s : State) : Option Nat :=
  (s.ringsOf 0).find? (fun g => s.rd QMG_RINGg_DESC.TYPE g == 2)

/-- A record goes to the PF0 event ring (R456). -/
def State.routeRing (s : State) (b : List Byte) : State :=
  match s.eventRing with
  | none => s.count EVT_cnt_LO.COUNT 6
  | some g =>
    match s.deliver 0 (s.rd QMG_RINGg_DESC.RING g) b 0 with
    | (s', .done) => s'
    | (s', _) => s'.count EVT_cnt_LO.COUNT 6

/-- A record's source wakes the host, while PF0 has PME_En set (R281). -/
def State.routeWake (s : State) (src : Nat) : State :=
  if !s.hif.pmeEn || !s.bitAt HIF_WAKEk.WAKE src then s else
  if !s.pins.perstN || s.rd HIF_LINK_STATUS.LTSSM = 6 then
    ({ s with pins := { s.pins with wakeN := false } }).raise 318
  else if s.rd HIF_LINK_STATUS.RATE = 0 then s
  else (State.tlpOut { s with hif := { s.hif with pmeStatus := true } } 0 .pme).raise 318

/-- The set of clusters of a record. -/
def State.routeClusters (s : State) (src mask : Nat) : State :=
  forEach (List.range 8) (fun k s =>
    if bitOf mask k then s.wr EVT_CLk_PENDw.PEND (setBit (s.rd EVT_CLk_PENDw.PEND k (src / 32)) (src % 32) true) k (src / 32)
    else s) s

/-- Is a source journalled (R449)? -/
def State.journalled (s : State) (src : Nat) : Bool :=
  src == 0 || src == 1 || src == 20 || src == 257 || s.on EVT_SRCs_ROUTE.JRNL_EN src

/-- Release a record to its routes: journal, event ring, then vector, EVT_OUT, clusters and wake (R449, R450). -/
def State.release (s : State) (r : EvRec) : State :=
  let jnum := if s.journalled r.src then (s.jseq + s.evt.jq.length) % 2 ^ 48 else Config.freeNat s.free % 2 ^ 48
  let s := s.draw
  let s := if s.journalled r.src then s.journal r else s
  if s.on EVT_SRCs_CTL.MASK r.src then s else
  let s := s.count EVT_cnt_LO.COUNT 4
  let s := if s.on EVT_SRCs_ROUTE.RING_EN r.src then s.routeRing (r.bytes jnum) else s
  let s := if s.on EVT_SRCs_ROUTE.VEC_EN r.src then s.routeVector r.src (s.rd EVT_SRCs_ROUTE.VECTOR r.src) else s
  let s := if s.on EVT_SRCs_ROUTE.OUT_EN r.src then s.routeOut r.src else s
  let s := s.routeClusters r.src (s.rd EVT_SRCs_ROUTE.CLUSTER r.src)
  s.routeWake r.src

/-- EVENT_RELEASE (R447): the first held record in R68 order ends its hold of 2,000 ticks and is released; in Standby too (DESIGN CHOICE,
log 70). -/
def execEventRelease (s : State) : Host.Outcome State Fault Refusal :=
  match firstRec s.evt.held with
  | none => ok s
  | some (r, rest) =>
    let s := s.advanceTo (r.tick + 2000)
    ok (({ s with evt := { s.evt with held := rest } }).release r)

/-- RATE_LIMIT_WINDOW_END (R448): the window of a source and instance ends; causes counted in it give a summary record, which
opens the next window. -/
def execRateLimitWindowEnd (src inst : Nat) (s : State) : Host.Outcome State Fault Refusal :=
  match s.evt.wins.find? (fun w => w.src == src && w.inst == inst) with
  | none => ok s
  | some w =>
    let s := s.advanceTo w.endTick
    let rest := s.evt.wins.filter (fun v => !(v.src == src && v.inst == inst))
    if w.count = 0 then ok { s with evt := { s.evt with wins := rest } } else
    let r : EvRec := { s.mkRec src w.last none with summary := true, suppressed := w.count }
    let w' : RateWin := { src := src, inst := inst, endTick := s.tick + rateTicks, last := w.last }
    ok (State.holdRec { s with evt := { s.evt with wins := rest ++ [w'] } } r)

/-- JOURNAL_SLOT_WRITTEN (R453): 540 ns after it was begun the slot is complete, JSEQ advances and the next record's slot is
begun. -/
def execJournalSlotWritten (s : State) : Host.Outcome State Fault Refusal :=
  if !s.evt.jwriting then ok s else
  match s.evt.jq with
  | [] => ok s
  | r :: rest =>
    let s := s.advanceTo (s.evt.jstart + 540)
    let j := s.jseq
    let s := s.mramWrite (64 * (j % 16384)) (r.bytes j)
    let s := s.wr64 EVT_JSEQ_LO.JSEQ ((j + 1) % 2 ^ 48)
    let s := (s.count EVT_cnt_LO.COUNT 1).cal 96
    let s := { s with evt := { s.evt with jq := rest, jwriting := false } }
    let s := if j % 16384 = 0 && j != 0 then s.raise 5 [i64 j] else s
    ok s.startJournal

/-- EVT_OUT_PULSE_END (R451): the pulse of OUT_MODE 1 ends. -/
def execEvtOutPulseEnd (s : State) : Host.Outcome State Fault Refusal :=
  ok (s.advanceTo s.evt.outPulseEnd).showEvtOut

/-! ## PF0 commands (R456) -/

/-- The first job of ring g that has not ended, when it has the given opcode. -/
def State.jobOf (s : State) (g op : Nat) : Option Job :=
  match s.headJob g with
  | some j => if j.opcode == op && j.ready then some j else none
  | none => none

/-- Post the first unposted buffer entry of ring g that has opcode `op`. -/
def State.postBuffer (s : State) (g op : Nat) : State :=
  let r := s.ring g
  match r.jobs.find? (fun j => j.done.isNone && !j.posted && j.ready && j.opcode == op) with
  | none => s
  | some j => s.setRing g { r with jobs := r.jobs.map (fun x => if x.idx == j.idx then { x with posted := true } else x) }

/-- EVENT_BUFFER (R456): the entry of PF0's TYPE 2 ring is posted to receive one record. -/
def execEventBuffer (g : Nat) (s : State) : Host.Outcome State Fault Refusal :=
  if s.eventRing = some g then ok (s.postBuffer g 0x80) else ok s

/-- The records a Journal Read copies: `n` consecutive valid records from JSEQ `j`. -/
def State.journalFrom (s : State) : Nat → Nat → List Byte
  | 0, _ => []
  | n + 1, j =>
    if s.slotJseq (j % 16384) = some j then s.mramRead (64 * (j % 16384)) 64 ++ s.journalFrom n (j + 1) else []

/-- JOURNAL_READ (R456): PARAM1 [47:0] is the first JSEQ; the fragment is filled with consecutive valid records; a first JSEQ no
longer held starts at the oldest record, with status 0x0120. -/
def execJournalRead (g : Nat) (s : State) : Host.Outcome State Fault Refusal :=
  if s.rd QMG_RINGg_DESC.FN g != 0 then ok s else
  match s.jobOf g 0x81 with
  | none => ok s
  | some j =>
    let room := j.room
    if room < 64 || 1048576 < room then ok (s.finishJob g j.idx 4 24) else
    let want := bitsOf (j.qw.getD 1 0) 0 48
    let valid := s.validJseqs
    let oldest := valid.foldl min (2 ^ 48)
    let gap := !valid.isEmpty && want < oldest
    let data := s.journalFrom (room / 64) (if gap then oldest else want)
    let s := (s.writeFrags (s.rd QMG_RINGg_DESC.FN g) (s.ring g).ro j.frags data).ringCount g 5 data.length
    ok (s.finishJob g j.idx (if gap then 0x120 else 0) 0 data.length (data.length / 64))

/-- RAISE_TEST (R456): source 498 with PARAM2 as DATA0. -/
def execRaiseTest (g : Nat) (s : State) : Host.Outcome State Fault Refusal :=
  if s.rd QMG_RINGg_DESC.FN g != 0 then ok s else
  match s.jobOf g 0x82 with
  | none => ok s
  | some j => ok ((s.raise 498 [i64 (j.qw.getD 6 0)]).finishJob g j.idx 0)

/-! ## Calipers -/

/-- Does counter `e` count cycles, that is, fixed event 0 or 1, which is one each tick (R431, R437)? -/
def State.calCyc (s : State) (e : Nat) : Bool :=
  !s.calFed e && (decide (e < 2) || (decide (1408 ≤ e) && decide (e < 1536) && decide (s.rd CAL_FCj_SEL.EVENT (e - 1408) < 2)))

/-- The tick up to which the stored value of such a counter stands. -/
def State.calBase (s : State) (e : Nat) : Nat := let t := tabGet s.calFcFrom e; if t = 0 then s.calFrom else t - 1

/-- Bring one counter of cycles up to the present tick. -/
def State.calSyncOne (s : State) (e : Nat) : State :=
  if !s.calCyc e then s else
  let n := s.tick - s.calBase e
  let s := { s with calFcFrom := tabSet s.calFcFrom e (s.tick + 1) }
  let p := s.rd CAL_FCj_PERIOD.PERIOD (e - 1408)
  if 1408 ≤ e && s.on CAL_FCj_SEL.SAMPLE_EN (e - 1408) && p != 0 then
    let v := s.rd64 CAL_CNTe_LO.COUNT e + n
    let s := s.wr64 CAL_CNTe_LO.COUNT (v % p) e
    if p ≤ v then (s.calAdd 1312 (v / p)).raise 481 [i16 e] else s
  else s.calAdd e n

/-- Bring every counter of cycles up to the present tick. -/
def State.calSync (s : State) : State := forEach ([0, 1] ++ (List.range 128).map (fun j => 1408 + j)) (fun e s => s.calSyncOne e) s

/-- COUNTER_WRAP (R435): counter `e` takes the occurrence that wraps it, feeding its chained counter and setting OVF. -/
def execCounterWrap (e : Nat) (s : State) : Host.Outcome State Fault Refusal :=
  if s.calCyc e then ok ((s.advanceTo (s.calBase e + (2 ^ 48 - s.rd64 CAL_CNTe_LO.COUNT e))).calSyncOne e)
  else if e < 1536 && s.rd64 CAL_CNTe_LO.COUNT e == 2 ^ 48 - 1 then ok (s.calAdd e 1) else ok s

/-- CAL_SAMPLE_PERIOD (R436): filtered counter `j` counts the occurrence that completes PERIOD and fires; a CPU event interrupts
the thread `agent`, any other raises source 481. -/
def execCalSamplePeriod (j agent : Nat) (s : State) : Host.Outcome State Fault Refusal :=
  if 128 ≤ j || !s.on CAL_FCj_SEL.SAMPLE_EN j || s.calFed (1408 + j) then ok s else
  let e := s.rd CAL_FCj_SEL.EVENT j
  let v := s.rd64 CAL_CNTe_LO.COUNT (1408 + j)
  let p := s.rd CAL_FCj_PERIOD.PERIOD j
  if s.calCyc (1408 + j) then ok ((s.advanceTo (s.calBase (1408 + j) + (p - v))).calSyncOne (1408 + j))
  else if p ≤ v + 1 then ok (s.calFilteredOne j 1 (if 768 ≤ e && e < 1168 then some agent else none))
  else ok s

/-- Bins and MAX of unit `u` are zeroed. -/
def State.histClear (s : State) (u : Nat) : State :=
  let s := forEach (List.range 32) (fun i s => s.wr64 CAL_HUu_BINi_LO.COUNT 0 u i) s
  s.wr CAL_HUu_MAX.VALUE 0 u

/-- HISTOGRAM_CLEAR (R440): bins and MAX of unit `u` are zeroed in one cycle. -/
def execHistogramClear (u : Nat) (s : State) : Host.Outcome State Fault Refusal := if u < 64 then ok (s.histClear u) else ok s

/-- The bin of a sample (R439). -/
def histBin (log2 : Bool) (unit v : Nat) : Nat :=
  if log2 then (if v < unit then 0 else min 31 (Nat.log2 (v / unit) + 1)) else min 31 (v / unit)

/-- One unit takes a sample (R438 to R440). -/
def State.histOne (s : State) (u v : Nat) : State :=
  if s.on CAL_HUu_CTRL.FREEZE u then s.bump CAL_HUu_MISSED.VALUE u else
  let i := histBin (s.on CAL_HUu_CFG.MODE u) (s.rd CAL_HUu_UNIT.NS u) v
  let c := s.rd64 CAL_HUu_BINi_LO.COUNT u i
  let s := s.wr64 CAL_HUu_BINi_LO.COUNT (satAdd 48 c 1) u i
  let s := s.wr CAL_HUu_MAX.VALUE (max (s.rd CAL_HUu_MAX.VALUE u) (min v 0xFFFFFFFF)) u
  let s := s.cal 1313
  if c + 1 = 2 ^ 48 - 1 then s.raise 482 [i8 u] else s

/-- HISTOGRAM_SAMPLE (R438): every unit at `probe` whose INDEX matches, or with ANY, takes the sample. -/
def execHistogramSample (probe index v : Nat) (s : State) : Host.Outcome State Fault Refusal :=
  if probe = 0 then ok s else
  ok (forEach (List.range 64) (fun u s =>
    if s.rd CAL_HUu_CFG.PROBE u == probe && (s.on CAL_HUu_CFG.ANY u || s.rd CAL_HUu_CFG.INDEX u == index) then s.histOne u v
    else s) s)

end Sys2Proof.Machine
end

