-- ==== Sys2Proof/Machine/Jobs.lean ====
section
/-!
DEFINITION. Entries and jobs (R287 to R291, R298 to R300): which opcodes a ring takes, the checks of an entry and of a fragment
table, and the start of a job.
-/
namespace Sys2Proof.Machine

/-- The least and greatest number of fragments that an opcode takes on a ring of TYPE `type` of a function of role `role` (0
management, 1 network, 2 measurement, 3 storage, 4 remote memory); none where the ring does not take the opcode. -/
def opFrags (role type op : Nat) : Option (Nat × Nat) :=
  if type = 0 && op < 0x80 then
    (match op with | 0 => some (0, 0) | 1 => some (1, 1) | 2 => some (0, 0) | 3 => some (0, 0) | 4 => some (0, 0)
                   | 5 => some (0, 0) | 6 => some (1, 1) | _ => none)
  else match role, type, op with
    | 0, 2, 0x80 => some (1, 4096)
    | 0, 0, 0x81 => some (1, 1)
    | 0, 0, 0x82 => some (0, 0)
    | 0, 0, 0xA0 => some (0, 0)
    | 0, 0, 0xA1 => some (1, 4096)
    | 0, 0, 0xA2 => some (0, 0)
    | 0, 0, 0xA3 => some (0, 0)
    | 0, 0, 0xA8 => some (1, 4096)
    | 0, 0, 0xA9 => some (0, 0)
    | 1, 1, 0x80 => some (1, 4096)
    | 1, 2, 0x81 => some (1, 4096)
    | 2, 2, 0x80 => some (1, 4096)
    | 4, 0, 0x80 => some (1, 1)
    | 4, 0, 0x81 => some (1, 1)
    | 4, 0, 0x82 => some (1, 1)
    | 4, 0, 0x83 => some (0, 0)
    | 4, 0, 0x84 => some (0, 0)
    | 4, 0, 0x85 => some (0, 0)
    | 4, 1, 0x90 => some (1, 4096)
    | 4, 2, 0x91 => some (1, 4096)
    | _, _, _ => none

/-- Does the device read the job's data from the host before it carries the job out? A READ (PARAM0 4) of PF4 receives instead. -/
def opReads (role type op param0 : Nat) : Bool :=
  match role, type, op with
  | 0, 0, 0xA1 => true
  | 0, 0, 0xA8 => true
  | 1, 1, 0x80 => true
  | 4, 0, 0x80 => true
  | 4, 0, 0x81 => true
  | 4, 1, 0x90 => param0 % 8 != 4
  | _, _, _ => false

/-- Quadword `i` of an entry. -/
def qwAt (q : List Nat) (i : Nat) : Nat := q.getD i 0

/-- Fragment count of an entry: COUNT of its table, or NFRAG. -/
def fragCount (q : List Nat) : Nat := if bitOf (qwAt q 0) 8 then bitsOf (qwAt q 3) 0 13 else bitsOf (qwAt q 0) 9 2

/-- The inline fragments of an entry, as (address, quadword 1). -/
def inlineFrags (q : List Nat) : List (Nat × Nat) :=
  if bitOf (qwAt q 0) 8 then [] else
  (List.range (min 2 (bitsOf (qwAt q 0) 9 2))).map (fun i => (qwAt q (2 + 2 * i), qwAt q (3 + 2 * i)))

/-- Does a list of fragments set a reserved bit? -/
def fragsReserved (l : List (Nat × Nat)) : Bool := l.any (fun p => p.2 / 2 ^ 32 != 0)

/-- Does a list of fragments hold one of LEN 0, or come to more than 0xFFFF_FFFF bytes? -/
def fragsBad (l : List (Nat × Nat)) : Bool :=
  l.any (fun p => p.2 % 2 ^ 32 == 0) || decide (0xFFFFFFFF < (l.map (fun p => p.2 % 2 ^ 32)).sum)

/-- The code of R300 of an entry, 0 when it is well formed: codes are tried in ascending order. -/
def entryCode (role type : Nat) (q : List Nat) : Nat :=
  let q0 := qwAt q 0
  let ind := bitOf q0 8
  let n := fragCount q
  if bitsOf q0 12 4 != 0 || bitsOf q0 56 7 != 0 || (ind && qwAt q 3 / 2 ^ 13 != 0) || fragsReserved (inlineFrags q) then 1 else
  match opFrags role type (bitsOf q0 0 8) with
  | none => 2
  | some (lo, hi) =>
    if (!ind && bitsOf q0 9 2 == 3) || (ind && (n == 0 || decide (4096 < n))) || n < lo || hi < n then 3
    else if fragsBad (inlineFrags q) then 4
    else if ind && qwAt q 2 % 16 != 0 then 5
    else 0

/-- Change job `idx` of ring g. -/
def State.updJob (s : State) (g idx : Nat) (h : Job → Job) : State :=
  let r := s.ring g
  s.setRing g { r with jobs := r.jobs.map (fun j => if j.idx == idx then h j else j) }

/-- Read the pieces of a list of (address, length), laid end to end, for job `idx` of ring g. -/
def State.readPieces (s : State) (f g idx : Nat) (why : Purpose) : List (Nat × Nat) → Nat → State
  | [], _ => s
  | (a, n) :: t, off =>
    let k := (splitRead (s.mrrsBytes f) (n / 128 + n / 4096 + 2) a n off).length
    let s := s.updJob g idx (fun j => { j with owed := j.owed + k })
    ((s.ringCount g 4 n).dmaRead f a n why off).readPieces f g idx why t (off + n)

/-- The fragments of job `idx` of ring g are known: read its data, where its opcode takes any. -/
def State.startData (s : State) (g idx : Nat) : State :=
  match (s.ring g).jobs.find? (fun j => j.idx == idx) with
  | none => s
  | some j =>
    let f := s.rd QMG_RINGg_DESC.FN g
    if opReads (s.pfOf f) (s.rd QMG_RINGg_DESC.TYPE g) j.opcode (bitsOf (qwAt j.qw 0) 32 24) then
      s.readPieces f g idx (.frag g idx) j.frags 0
    else s

/-- An entry that has been taken starts (R288): its fragment table is read first, where it has one. -/
def State.startJob (s : State) (g idx : Nat) (q : List Nat) : State :=
  let ind := bitOf (qwAt q 0) 8
  let r := s.ring g
  let s := s.setRing g { r with jobs := r.jobs ++
    [{ idx := idx, qw := q, frags := (inlineFrags q).map (fun p => (p.1, p.2 % 2 ^ 32)), indirect := ind }] }
  if ind then s.readPieces (s.rd QMG_RINGg_DESC.FN g) g idx (.table g idx) [(qwAt q 2, 16 * fragCount q)] 0
  else s.startData g idx

/-- The fragments of a fragment table. -/
def tableFrags (b : List Byte) : List (Nat × Nat) :=
  (List.range (b.length / 16)).map (fun i => (leAt b (16 * i) 8, leAt b (16 * i + 8) 8))

/-- A fragment table has been read whole: it is checked (R291), and the job's data is read. -/
def State.tableReady (s : State) (g idx : Nat) : State :=
  match (s.ring g).jobs.find? (fun j => j.idx == idx) with
  | none => s
  | some j =>
    if !j.indirect || j.owed != 0 || j.cut then s else
    let l := tableFrags j.bytes
    let f := s.rd QMG_RINGg_DESC.FN g
    let code := if fragsReserved l then 1 else if fragsBad l then 4 else 0
    if code != 0 then
      let r := s.ring g
      (s.setRing g { r with jobs := r.jobs.filter (fun x => x.idx != idx) }).functionFault f g code (some j)
    else
      (s.updJob g idx (fun j => { j with frags := l.map (fun p => (p.1, p.2 % 2 ^ 32)), indirect := false, data := [] })).startData g idx

end Sys2Proof.Machine
end

