-- ==== Sys2Proof/Machine/Rdma.lean ====
section
/-!
DEFINITION. The Tailstock link's transport (chapter 15): contexts and their cache, packets, go-back-N and selective repeat,
placement, and the miss buffer. Packet layouts are those of RoCEv2 over Ethernet, which R322 names.
-/
namespace Sys2Proof.Machine

/-! ## Contexts (R326) -/

/-- A field of a context: bit offset and width. -/
structure CtxFld where
  off : Nat
  w : Nat

def CtxFld.get (f : CtxFld) (v : Nat) : Nat := bitsOf v f.off f.w
def CtxFld.set (f : CtxFld) (v x : Nat) : Nat := v - bitsOf v f.off f.w * 2 ^ f.off + x % 2 ^ f.w * 2 ^ f.off

def ctxValid : CtxFld := ⟨0, 1⟩
def ctxState : CtxFld := ⟨1, 3⟩
def ctxMode : CtxFld := ⟨4, 1⟩
def ctxEnc : CtxFld := ⟨5, 1⟩
def ctxPin : CtxFld := ⟨6, 1⟩
def ctxNextTx : CtxFld := ⟨7, 1⟩
def ctxMtu : CtxFld := ⟨8, 2⟩
def ctxNextRx : CtxFld := ⟨10, 1⟩
def ctxFn : CtxFld := ⟨16, 8⟩
def ctxSq : CtxFld := ⟨32, 14⟩
def ctxRq : CtxFld := ⟨48, 14⟩
def ctxDest : CtxFld := ⟨64, 24⟩
def ctxPort : CtxFld := ⟨88, 6⟩
def ctxGid : CtxFld := ⟨96, 4⟩
def ctxRetry : CtxFld := ⟨100, 3⟩
def ctxRnrRetry : CtxFld := ⟨103, 3⟩
def ctxTimeout : CtxFld := ⟨108, 4⟩
def ctxSport : CtxFld := ⟨112, 16⟩
def ctxDmac : CtxFld := ⟨128, 48⟩
def ctxDscp : CtxFld := ⟨176, 6⟩
def ctxDestIp : CtxFld := ⟨192, 128⟩
def ctxNpsn : CtxFld := ⟨320, 24⟩
def ctxTxEpoch : CtxFld := ⟨344, 40⟩
def ctxEpsn : CtxFld := ⟨384, 24⟩
def ctxRxEpoch : CtxFld := ⟨408, 40⟩
def ctxUna : CtxFld := ⟨448, 24⟩
def ctxRetryLeft : CtxFld := ⟨472, 3⟩
def ctxRnrLeft : CtxFld := ⟨475, 3⟩
def ctxRdOut : CtxFld := ⟨480, 8⟩
def ctxRate : CtxFld := ⟨488, 24⟩
def ctxSrMap : CtxFld := ⟨512, 256⟩
def ctxKeyTx : CtxFld := ⟨768, 320⟩
def ctxKeyRx : CtxFld := ⟨1088, 320⟩
def ctxKeyTxNext : CtxFld := ⟨1408, 320⟩
def ctxKeyRxNext : CtxFld := ⟨1728, 320⟩

/-- Path MTU in bytes. -/
def ctxMtuBytes (v : Nat) : Nat := match ctxMtu.get v with | 0 => 1024 | 1 => 2048 | _ => 4096

def State.qp (s : State) (q : Nat) : QpSt := tabGet s.rma.qps q
def State.setQp (s : State) (q : Nat) (v : QpSt) : State := { s with rma := { s.rma with qps := tabSet s.rma.qps q v } }

/-- The cache slot bound to a QP, in whatever state (R330). -/
def State.slotBound (s : State) (q : Nat) : Option Nat :=
  (s.rma.slots.find? (fun p => p.2.st != 0 && p.2.qp == q)).map (fun p => p.1)

/-- The slot in which a QP is Valid. -/
def State.slotOf (s : State) (q : Nat) : Option Nat :=
  (s.rma.slots.find? (fun p => p.2.st == 2 && p.2.qp == q)).map (fun p => p.1)

/-- The cached context of a QP; 0 where it is not cached. -/
def State.ctx (s : State) (q : Nat) : Nat := match s.slotBound q with | some i => s.winNat 11 false (64 * i) 64 | none => 0

/-- Change the cached context of a QP. -/
def State.setCtx (s : State) (q v : Nat) : State :=
  match s.slotBound q with
  | some i => s.setWinNat 11 false (64 * i) 64 (v % 2 ^ 2048)
  | none => s

/-- Set one field of a cached context. -/
def State.putCtx (s : State) (q : Nat) (f : CtxFld) (x : Nat) : State := s.setCtx q (f.set (s.ctx q) x)

/-- Publish the number of Valid slots. -/
def State.showCache (s : State) : State :=
  s.wr RMA_STATUS.CACHED ((s.rma.slots.filter (fun p => p.2.st == 2)).length)

def State.setSlot (s : State) (i : Nat) (v : SlotSt) : State :=
  State.showCache { s with rma := { s.rma with slots := tabSet s.rma.slots i v } }

/-- Mark a QP as used now. -/
def State.touchQp (s : State) (q : Nat) : State :=
  match s.slotOf q with
  | some i => s.setSlot i { tabGet s.rma.slots i with last := s.tick }
  | none => s

/-! ## Miss buffer level (R329) -/

/-- Bytes of the miss buffer. -/
def missBytes : Nat := 2097152

/-- Bytes held in the miss buffer. -/
def State.missUse (s : State) : Nat := (s.rma.held.map (fun h => h.frame.bytes.length)).sum

/-- Fabric sub-ports on which the link may pause its priority; a port that is not split has one. -/
def State.missPorts (s : State) : List Nat :=
  (List.range 16).filterMap (fun i =>
    if (i % 4 == 0 || s.on FPT_XPORTm_CFG.SPLIT (i / 4)) && bitOf (s.rd FPT_XPORTm_CFG.PFC_EN (i / 4)) (s.rd RMA_CFG.PRIO) then some (24 + i)
    else none)

/-- Assert or release the link's cause of pause, which is ORed with the scheduler's (R359). -/
def State.missPause (s : State) (on_ : Bool) : State :=
  forEach s.missPorts (fun n s => s.pfcTo (8 * n + s.rd RMA_CFG.PRIO) (tabGet s.sch.xoff (8 * n + s.rd RMA_CFG.PRIO)) (b2n on_)) s

/-- Publish LEVEL, and pause at HIGH or resume at LOW. -/
def State.showMiss (s : State) : State :=
  let use := s.missUse
  let s := s.wr RMA_STATUS.LEVEL (min 63 (use / 65536))
  if !s.on RMA_STATUS.PAUSING && s.rd RMA_MISS.HIGH * 65536 ≤ use && use != 0 then
    ((s.wr RMA_STATUS.PAUSING 1).missPause true).raise 354 [i32 use]
  else if s.on RMA_STATUS.PAUSING && use ≤ s.rd RMA_MISS.LOW * 65536 then
    ((s.wr RMA_STATUS.PAUSING 0).missPause false).raise 355 [i32 use]
  else s

def State.setHeld (s : State) (l : List HeldPkt) : State := State.showMiss { s with rma := { s.rma with held := l } }

/-! ## The cache (R328, R330) -/

/-- Address of a context, and of a region, in the backing store (R327). -/
def State.bsBase (s : State) : Nat := s.rd RMA_BS_BASE_LO.BASE + s.rd RMA_BS_BASE_HI.BASE * 2 ^ 32
def State.ctxAddr (s : State) (q : Nat) : Nat := s.bsBase + 256 * q
def State.regionAddr (s : State) (r : Nat) : Nat := s.bsBase + 0x1000000 + 32 * r

/-- The rings of a QP: of the function that owns it, naming it in BIND. -/
def State.qpRings (s : State) (q : Nat) : List Nat :=
  let o := tabGet s.rma.owner q
  if o = 0 then [] else (s.ringsOf (o - 1)).filter (fun g => (s.ring g).bind == q && s.rd QMG_RINGg_DESC.TYPE g != 0)

/-- Has a QP a command that has not started: a posted send, or an admin command that names it? -/
def State.qpWaits (s : State) (q : Nat) : Bool :=
  let o := tabGet s.rma.owner q
  (s.qpRings q).any (fun g => s.rd QMG_RINGg_DESC.TYPE g == 1 && (s.ring g).jobs.any (fun j => j.done.isNone && !j.posted)) ||
  (o != 0 && (s.ringsOf (o - 1)).any (fun g => s.rd QMG_RINGg_DESC.TYPE g == 0 && (s.ring g).jobs.any (fun j =>
    j.done.isNone && decide (0x81 ≤ j.opcode) && decide (j.opcode ≤ 0x83) && bitsOf (qwAt j.qw 1) 0 16 == q)))

/-- Has a QP a command, a transmission or a held packet in progress (R328)? An acknowledgement it owes is a transmission. -/
def State.qpBusy (s : State) (q : Nat) : Bool :=
  let p := s.qp q
  !p.sends.isEmpty || !p.unacked.isEmpty || p.recv.active || !p.reads.isEmpty || p.ackFrom != 0 || s.rma.held.any (fun h => h.qp == q) ||
    s.qpWaits q

/-- The least recently used Valid, unpinned context that has nothing in progress. -/
def State.victim (s : State) : Option Nat :=
  let l := s.rma.slots.filter (fun p => p.2.st == 2 && !s.qpBusy p.2.qp && !bitOf (s.winNat 11 false (64 * p.1) 1) 6)
  match l with
  | [] => none
  | p :: t => some (t.foldl (fun (m : Nat × SlotSt) x => if x.2.last < m.2.last then x else m) p).1

/-- A free cache slot: the lowest. -/
def State.freeSlot (s : State) : Option Nat := (List.range 4096).find? (fun i => (tabGet s.rma.slots i).st == 0)

/-- Start to write a victim back (R328), one at a time. -/
def State.evict (s : State) : State :=
  if s.rma.slots.any (fun p => p.2.st == 3) then s else
  match s.victim with
  | none => s
  | some i =>
    let v := tabGet s.rma.slots i
    let s := (s.setSlot i { v with st := 3 }).count RMA_cnt_LO.COUNT 6
    s.dmaWrite 0 (s.ctxAddr v.qp) (leBytes 256 (s.winNat 11 false (64 * i) 64))

/-- Fetch the context of a QP that is not cached, into a free slot, or wait for one. -/
def State.fetchCtx (s : State) (q : Nat) : State :=
  if (s.slotBound q).isSome then s else
  match s.freeSlot with
  | some i =>
    let s := ((s.setSlot i { st := 1, qp := q, last := s.tick }).count RMA_cnt_LO.COUNT 5).cal 674
    s.dmaRead 0 (s.ctxAddr q) 256 (.context q)
  | none => State.evict (if s.rma.want.contains q then s else { s with rma := { s.rma with want := s.rma.want ++ [q] } })

def State.region (s : State) (r : Nat) : RegSt := tabGet s.rma.regs r
def State.setRegion (s : State) (r : Nat) (v : RegSt) : State := { s with rma := { s.rma with regs := tabSet s.rma.regs r v } }

/-- A region entry as the backing store holds it (layout of the model, log 40). -/
def regionBytes (v : RegSt) : List Byte := leBytes 8 v.iova ++ leBytes 8 v.len ++ leBytes 1 v.tag ++ leBytes 1 v.acc ++ leBytes 14 0

/-- Mark a region as used now. -/
def State.touchRegion (s : State) (r : Nat) : State :=
  if (s.region r).st = 2 then s.setRegion r { s.region r with last := s.tick } else s

/-- Write to the backing store, while it is in use (R327). -/
def State.storeWrite (s : State) (a : Nat) (b : List Byte) : State := if s.on RMA_BS_CTRL.ENABLE then s.dmaWrite 0 a b else s

/-- Room for one more region entry: with 1,024 cached, the least recently used goes back to the store. -/
def State.roomForRegion (s : State) : State :=
  let l := s.rma.regs.filter (fun p => p.2.st != 0)
  if l.length < 1024 || !s.on RMA_BS_CTRL.ENABLE then s else
  match l.filter (fun p => p.2.st == 2) with
  | [] => s
  | p :: t =>
    let m := t.foldl (fun (m : Nat × RegSt) x => if x.2.last < m.2.last then x else m) p
    (s.setRegion m.1 {}).storeWrite (s.regionAddr m.1) (regionBytes m.2)

/-- Fetch a region entry. -/
def State.fetchRegion (s : State) (r : Nat) : State :=
  if (s.region r).st != 0 then s else
  ((s.roomForRegion.setRegion r { st := 1, last := s.tick }).count RMA_cnt_LO.COUNT 5).dmaRead 0 (s.regionAddr r) 32 (.context (65536 + r))

/-! ## Packets (R322, R323, R335) -/

def psnMod : Nat := 2 ^ 24
def psnAdd (p k : Nat) : Nat := (p + k) % psnMod
/-- How far `p` lies ahead of `e`, modulo 2^24; the upper half lies behind it (R331). -/
def psnAhead (p e : Nat) : Nat := (p + psnMod - e % psnMod) % psnMod
def psnBehind (p e : Nat) : Bool := decide (2 ^ 23 ≤ psnAhead p e)

/-- The source address of a GID. -/
def State.gid (s : State) (i : Nat) : List Byte := (List.range 4).flatMap (fun w => beBytes 4 (s.rd RMA_GIDi_w.ADDR i w))

/-- Is a 16-byte address an IPv4 one, ::ffff:a.b.c.d? -/
def isV4 (a : List Byte) : Bool := beNat (a.take 12) == 0xFFFF

/-- A received RoCEv2 packet. -/
structure Roce where
  op : Nat := 0
  pad : Nat := 0
  dqp : Nat := 0
  ackReq : Bool := false
  psn : Nat := 0
  ce : Bool := false
  bth : List Byte := []
  /-- everything between the BTH and the ICRC. -/
  body : List Byte := []

/-- Read a RoCEv2 packet whose ICRC agrees; none where the frame is not one. -/
def parseRoce (b : List Byte) : Option Roce :=
  let o := payloadAt b
  let v6 := etherType b == 0x86DD
  if etherType b != 0x0800 && !v6 then none else
  let ipLen := if v6 then 40 else 4 * (beAt b o 1 % 16)
  let proto := if v6 then beAt b (o + 6) 1 else beAt b (o + 9) 1
  let tos := if v6 then beAt b o 2 / 16 % 256 else beAt b (o + 1) 1
  let u := o + ipLen
  let n := beAt b (u + 4) 2
  if proto != 17 || beAt b (u + 2) 2 != 4791 || n < 24 || b.length < u + n then none else
  let t := u + 8
  let body := slice b (t + 12) (n - 24)
  if leAt b (u + n - 4) 4 != Config.icrc (slice b o (ipLen + n - 4)) % 2 ^ 32 then none else
  some { op := beAt b t 1, pad := bitsOf (beAt b (t + 1) 1) 4 2, dqp := beAt b (t + 5) 3, ackReq := bitOf (beAt b (t + 8) 1) 7
         psn := beAt b (t + 9) 3, ce := tos % 4 == 3, bth := slice b t 12, body := body }

/-- Put a frame of the link on a fabric sub-port that is Up (R322); `prio` is its lossless priority plus 1, or 0. -/
def State.linkSend (s : State) (n : Nat) (b : List Byte) (prio : Nat := 0) : State :=
  if n < 24 || 40 ≤ n || !s.portUp n then s else
  (s.setPort n (placeHanded (s.port n) { bytes := b, prio := prio })).startFrame n

/-- The IV of R335. -/
def gcmIv (qpn txc epoch psn : Nat) : Nat := ((qpn * 2 ^ 8 + txc) * 2 ^ 40 + epoch) * 2 ^ 24 + psn

/-- Send one packet of QP `q`. Acknowledgements and CNPs carry no entry in `unacked`. -/
def State.sendPkt (s : State) (q : Nat) (p : TxPkt) : State :=
  let c := s.ctx q
  let pad := (4 - p.data.length % 4) % 4
  let bth := beBytes 1 p.op ++ beBytes 1 (0x40 + pad * 16) ++ beBytes 2 0xFFFF ++ beBytes 4 (ctxDest.get c) ++
    beBytes 4 (b2n p.ackReq * 2 ^ 31 + p.psn)
  let text := p.ext ++ p.data ++ List.replicate pad 0#8
  let sec := beBytes 8 (p.epoch * 2 ^ 24 + p.txc * 2 ^ 16)
  let body := if ctxEnc.get c = 1 then
      bth ++ sec ++ Config.gcmSeal p.key (gcmIv (ctxDest.get c) p.txc p.epoch p.psn) (bth ++ sec) text
    else bth ++ text
  let udp := beBytes 2 (ctxSport.get c) ++ beBytes 2 4791 ++ beBytes 2 (8 + body.length + 4) ++ beBytes 2 0
  let dst := leBytes 16 (ctxDestIp.get c)
  let ip := Config.ipHeader (s.gid (ctxGid.get c)) dst (ctxDscp.get c) (udp.length + body.length + 4)
  let frame := beBytes 6 (ctxDmac.get c) ++ beBytes 6 (Config.fabricMac (ctxPort.get c)) ++
    beBytes 2 (if isV4 dst then 0x0800 else 0x86DD) ++ ip ++ udp ++ body ++ leBytes 4 (Config.icrc (ip ++ udp ++ body))
  (s.cal 673).linkSend (ctxPort.get c) frame (if ctxMode.get c = 1 then 0 else s.rd RMA_CFG.PRIO + 1)

/-- The plaintext send key in force. -/
def State.txKey (s : State) (q : Nat) : List Byte := Config.unwrapKey s.rma.kek (leBytes 40 (ctxKeyTx.get (s.ctx q)))

/-- The send PSN advances by `n`; past the wrap the epoch rises and the next key comes into force (R323, R336). -/
def State.advanceNpsn (s : State) (q n : Nat) : State :=
  let c := s.ctx q
  let p := ctxNpsn.get c + n
  if p < psnMod then s.putCtx q ctxNpsn p else
  let c := ctxTxEpoch.set (ctxNpsn.set c (p - psnMod)) (ctxTxEpoch.get c + 1)
  let c := if ctxNextTx.get c = 1 then ctxNextTx.set (ctxKeyTx.set c (ctxKeyTxNext.get c)) 0 else c
  s.setCtx q c

/-- Send a new packet with the next PSN, taking `n` PSNs, and keep it until it is acknowledged. -/
def State.sendNew (s : State) (q op : Nat) (ackReq : Bool) (ext data : List Byte) (n : Nat) : State :=
  let c := s.ctx q
  let p : TxPkt := { psn := ctxNpsn.get c, epoch := ctxTxEpoch.get c, key := s.txKey q, op := op, ackReq := ackReq, ext := ext, data := data }
  let u := s.qp q
  let s := s.setQp q { u with unacked := u.unacked ++ [p], timerFrom := if u.timerFrom = 0 then s.tick + 1 else u.timerFrom }
  (s.sendPkt q p).advanceNpsn q n

/-- Send an acknowledgement: AETH syndrome and PSN. -/
def State.sendAeth (s : State) (q syndrome psn : Nat) : State :=
  s.sendPkt q { psn := psn, epoch := ctxTxEpoch.get (s.ctx q), key := s.txKey q, op := 0x11, ext := beBytes 1 syndrome ++ beBytes 3 (s.qp q).msn }

/-- Send the ACK that names e - 1 (R331). -/
def State.sendAck (s : State) (q : Nat) : State :=
  let s := s.setQp q { s.qp q with ackCount := 0, ackFrom := 0 }
  s.sendAeth q 0x1F (psnAdd (ctxEpsn.get (s.ctx q)) (psnMod - 1))

/-- Send a NAK (0 PSN Sequence Error, 1 Invalid Request, 2 Remote Access Error, 3 Remote Operational Error). -/
def State.sendNak (s : State) (q code psn : Nat) : State := s.sendAeth q (0x60 + code) psn

/-! ## Completion of sends, and Error (R325, R332, R339) -/

/-- End a ring job of the link. -/
def State.endJob (s : State) (j : Option (Nat × Nat)) (status len : Nat) : State :=
  match j with | some (g, i) => s.finishJob g i status 0 len | none => s

/-- Complete, in order, the messages at the front that are acknowledged and, for a READ, whole. -/
def State.endSends (s : State) (q : Nat) : Nat → State
  | 0 => s
  | fuel + 1 =>
    let u := s.qp q
    match u.sends with
    | [] => s
    | m :: t =>
      if m.read then
        if (m.got.map (fun p => p.2.length)).sum < m.len then s else
        let s := s.setQp q { u with sends := t }
        let s := s.putCtx q ctxRdOut (ctxRdOut.get (s.ctx q) - 1)
        (s.endJob m.job 0 m.len).endSends q fuel
      else if m.acked then ((s.setQp q { u with sends := t }).endJob m.job 0 0).endSends q fuel
      else s

/-- Post every entry of a ring as Flushed: those not ended, in ring order (R325). -/
def State.flushRing (s : State) (g : Nat) : State :=
  forEach ((s.ring g).jobs.filter (fun j => j.done.isNone)) (fun j s => s.finishJob g j.idx 0x104) s

/-- Is `q` the mirror QP of a twin? -/
def State.isMirrorQp (s : State) (q : Nat) : Bool := s.on RMA_TWIN_CFG.TWIN_EN && s.rd RMA_TWIN_CFG.TWIN_QP == q

/-- The QP enters Error: the oldest message gets `status`, everything else posted is Flushed. `cause`: 0 retry, 1 RNR, 2 fatal NAK,
3 TXC wrap (coding of the model). -/
def State.qpError (s : State) (q cause status : Nat) : State :=
  let u := s.qp q
  let s := (s.putCtx q ctxState 4).raise 352 [i16 q, i8 cause]
  let s := if s.isMirrorQp q then s.raise 366 [i8 4] else s
  let s := s.setQp q { u with sends := [], unacked := [], timerFrom := 0, rnrUntil := 0, recv := {} }
  let s := match u.sends with
    | [] => s
    | m :: t => forEach t (fun m s => s.endJob m.job 0x104 0) (s.endJob m.job status 0)
  forEach (s.qpRings q) (fun g s => s.flushRing g) s

/-- Retransmit a packet (R335): TXC rises, and past 255 the QP enters Error. -/
def State.resend (s : State) (q : Nat) (p : TxPkt) : State :=
  if ctxState.get (s.ctx q) != 3 then s else
  if ctxEnc.get (s.ctx q) = 1 && 255 ≤ p.txc then (s.raise 359 [i16 q]).qpError q 3 0x104 else
  let p' : TxPkt := { p with txc := (p.txc + 1) % 256 }
  let u := s.qp q
  let s := s.setQp q { u with unacked := u.unacked.map (fun x => if x.psn == p.psn then p' else x) }
  ((s.count RMA_cnt_LO.COUNT 11).cal 675).sendPkt q p'

/-- Retransmit from PSN `p` on; in selective repeat, that PSN alone (R332, R333). -/
def State.resendFrom (s : State) (q p : Nat) : State :=
  let sr := ctxMode.get (s.ctx q) == 1
  let l := (s.qp q).unacked.filter (fun x => if sr then x.psn == p else !psnBehind x.psn p)
  let s := s.setQp q { s.qp q with timerFrom := s.tick + 1 }
  forEach l (fun x s => s.resend q x) s

/-- The ack timer: runs while packets are unacknowledged. -/
def State.restartTimer (s : State) (q : Nat) : State :=
  let u := s.qp q
  s.setQp q { u with timerFrom := if u.unacked.isEmpty then 0 else s.tick + 1 }

/-- Everything before PSN `p` (not included) is acknowledged (R332); a PSN that has not been sent acknowledges nothing. A READ request
stays until its responses are whole, and holds UNA_PSN. RETRY_LEFT is refilled where UNA_PSN advances. -/
def State.ackBefore (s : State) (q p : Nat) : State :=
  let u := s.qp q
  let c := s.ctx q
  let una := ctxUna.get c
  if psnAhead p una = 0 || psnBehind p una || psnAhead (ctxNpsn.get c) una < psnAhead p una then s else
  let l := u.unacked.filter (fun x => !psnBehind x.psn p || x.op == 0x0C)
  let oldest := match l with | x :: _ => x.psn | [] => ctxNpsn.get c
  let s := s.setQp q { u with
    unacked := l
    sends := u.sends.map (fun m => if psnBehind (psnAdd m.first (m.n - 1)) p then { m with acked := true } else m) }
  let s := if oldest = una then s else s.setCtx q (ctxRetryLeft.set (ctxUna.set c oldest) (ctxRetry.get c))
  (s.restartTimer q).endSends q ((s.qp q).sends.length)

/-! ## Sending messages (R322, R338) -/

/-- Packets of a message of `len` bytes. -/
def pktCount (len mtu : Nat) : Nat := max 1 ((len + mtu - 1) / mtu)

/-- RDMA extended header: address, rkey, length. -/
def reth (va rkey len : Nat) : List Byte := beBytes 8 va ++ beBytes 4 rkey ++ beBytes 4 len

/-- Opcode of packet `i` of `n` of a SEND or WRITE; `imm` with immediate. -/
def dataOp (write imm : Bool) (i n : Nat) : Nat :=
  let b := if write then 6 else 0
  if n = 1 then b + (if imm then 5 else 4)
  else if i = 0 then b else if i + 1 < n then b + 1 else b + (if imm then 3 else 2)

/-- Send the packets of a SEND or WRITE from number `i` on. -/
def State.sendData (s : State) (q : Nat) (write imm : Bool) (va rkey immV len mtu n : Nat) : Nat → List Byte → Nat → State
  | 0, _, _ => s
  | fuel + 1, d, i =>
    let last := i + 1 = n
    let ext := (if write && i = 0 then reth va rkey len else []) ++ (if imm && last then beBytes 4 immV else [])
    let s := s.sendNew q (dataOp write imm i n) (decide last) ext (d.take mtu) 1
    if last then s else s.sendData q write imm va rkey immV len mtu n fuel (d.drop mtu) (i + 1)

/-- Send a SEND or WRITE message. -/
def State.sendMsg (s : State) (q : Nat) (job : Option (Nat × Nat)) (write imm : Bool) (va rkey immV : Nat) (d : List Byte) : State :=
  let c := s.ctx q
  let mtu := ctxMtuBytes c
  let n := pktCount d.length mtu
  let u := s.qp q
  let s := s.setQp q { u with sends := u.sends ++ [{ job := job, first := ctxNpsn.get c, n := n, len := d.length }] }
  s.sendData q write imm va rkey immV d.length mtu n n d 0

/-- Send a READ request for `len` bytes: it takes the PSNs of its responses. -/
def State.sendRead (s : State) (q : Nat) (job : Option (Nat × Nat)) (va rkey len : Nat) : State :=
  let c := s.ctx q
  let n := pktCount len (ctxMtuBytes c)
  let u := s.qp q
  let s := s.setQp q { u with sends := u.sends ++ [{ job := job, read := true, first := ctxNpsn.get c, n := n, len := len }] }
  (s.putCtx q ctxRdOut (ctxRdOut.get c + 1)).sendNew q 0x0C true (reth va rkey len) [] n

/-- Start the posted sends of a QP in RTS whose data has arrived, in ring order, up to 16 READs outstanding. -/
def State.startSends (s : State) (q g : Nat) : Nat → State
  | 0 => s
  | fuel + 1 =>
    match (s.ring g).jobs.find? (fun j => j.done.isNone && !j.posted) with
    | none => s
    | some j =>
      let c := s.ctx q
      let op := bitsOf (qwAt j.qw 0) 32 3
      if !j.ready || ctxState.get c != 3 || (s.qp q).rnrUntil != 0 || (op = 4 && 16 ≤ ctxRdOut.get c) then s else
      let s := s.updJob g j.idx (fun j => { j with posted := true })
      let va := qwAt j.qw 1
      let rkey := bitsOf (qwAt j.qw 6) 0 32
      let imm := bitsOf (qwAt j.qw 6) 32 32
      let s := if 2 ^ 31 < j.room || 4 < op then s.finishJob g j.idx 4 (if 4 < op then 4 else 24)
        else if op = 4 then s.sendRead q (some (g, j.idx)) va rkey j.room
        else s.sendMsg q (some (g, j.idx)) (op = 2 || op = 3) (op = 1 || op = 3) va rkey imm j.bytes
      s.startSends q g fuel

/-- Work posted on the send rings of a QP goes out, where the QP is Valid and in RTS; in Error it is Flushed. -/
def State.pumpQp (s : State) (q : Nat) : State :=
  if (s.slotOf q).isNone then s else
  forEach ((s.qpRings q).filter (fun g => s.rd QMG_RINGg_DESC.TYPE g == 1)) (fun g s =>
    if ctxState.get (s.ctx q) = 4 then s.flushRing g else s.startSends q g ((s.ring g).jobs.length)) (s.touchQp q)

/-! ## Receiving: acknowledgements and READ responses -/

/-- RNR timer codes in units of 10 µs (InfiniBand, which R322 names). -/
def rnrUnits : List Nat :=
  [65536, 1, 2, 3, 4, 6, 8, 12, 16, 24, 32, 48, 64, 96, 128, 192] ++
  [256, 384, 512, 768, 1024, 1536, 2048, 3072, 4096, 6144, 8192, 12288, 16384, 24576, 32768, 49152]

/-- A received Acknowledge packet (R332, R333, R339). -/
def State.gotAck (s : State) (q : Nat) (syn p : Nat) : State :=
  let kind := syn / 32
  if kind = 0 then (s.ackBefore q (psnAdd p 1)).pumpQp q
  else if kind = 1 then
    let s := s.ackBefore q p
    let c := s.ctx q
    if ctxRnrRetry.get c != 7 && ctxRnrLeft.get c = 0 then (s.raise 353 [i16 q]).qpError q 1 0x102
    else
      let s := if ctxRnrRetry.get c = 7 then s else s.putCtx q ctxRnrLeft (ctxRnrLeft.get c - 1)
      s.setQp q { s.qp q with rnrUntil := s.tick + 10000 * rnrUnits.getD (syn % 32) 1 + 1, rnrPsn := p, timerFrom := 0 }
  else if kind = 3 && syn % 32 = 0 then
    -- a selective NAK names one gap, and says nothing of the packets before it (R333)
    (if ctxMode.get (s.ctx q) = 1 then s else s.ackBefore q p).resendFrom q p
  else if kind = 3 then
    (s.ackBefore q p).qpError q 2 (if syn % 32 = 1 then 0x105 else if syn % 32 = 2 then 0x103 else 3)
  else s

/-- The part of a fragment list from byte `off` on. -/
def fragsFrom (l : List (Nat × Nat)) (off : Nat) : List (Nat × Nat) :=
  (l.foldl (fun (acc : List (Nat × Nat) × Nat) x =>
    if acc.2 < x.2 then (acc.1 ++ [(x.1 + acc.2, x.2 - acc.2)], 0) else (acc.1, acc.2 - x.2)) ([], off)).1

/-- Write data at byte `off` of the buffer of job `i` of ring g. -/
def State.placeJob (s : State) (g i off : Nat) (d : List Byte) : State :=
  match (s.ring g).jobs.find? (fun (j : Job) => j.idx == i && j.done.isNone) with
  | none => s
  | some j =>
    (s.writeFrags (s.rd QMG_RINGg_DESC.FN g) (s.ring g).ro (fragsFrom j.frags off) d).ringCount g 5 d.length

/-- Change the READ message whose first PSN is `first`. -/
def State.updRead (s : State) (q first : Nat) (h : SendMsg → SendMsg) : State :=
  s.setQp q { s.qp q with sends := (s.qp q).sends.map (fun (x : SendMsg) => if x.first == first && x.read then h x else x) }

/-- A received READ response (R334): its data is placed at once, at its place in the job's buffer. -/
def State.gotReadResp (s : State) (q p : Nat) (d : List Byte) : State :=
  match (s.qp q).sends.find? (fun m => m.read && decide (psnAhead p m.first < m.n)) with
  | none => s
  | some m =>
    let off := psnAhead p m.first * ctxMtuBytes (s.ctx q)
    let s := match m.job with | some (g, i) => s.placeJob g i off d | none => s
    let got := if m.got.any (fun x => x.1 == off) then m.got else m.got ++ [(off, d)]
    let s := s.updRead q m.first (fun x => { x with got := got })
    let s := if m.len ≤ (got.map (fun x => x.2.length)).sum then
        (s.setQp q { s.qp q with unacked := (s.qp q).unacked.filter (fun x => x.psn != m.first) }).ackBefore q (psnAdd m.first m.n)
      else s
    ((s.restartTimer q).endSends q ((s.qp q).sends.length)).pumpQp q

/-! ## Receiving: requests (R331 to R334, R338, R340) -/

/-- The reserved rkey of the mirror area (R340). -/
def mirrorKey : Nat := 0xFFFFFF00

/-- May QP `q` use an rkey for `len` bytes at `va` with access bit `acc` (0 remote write, 1 remote read)? -/
def State.rkeyOk (s : State) (q rkey va len acc : Nat) : Bool :=
  if rkey = mirrorKey then
    s.isMirrorQp q && acc == 0 && decide (va + len ≤ 0x100000 + 128 * (65536 * s.rd RMA_MIR_ROWS.MIR_BAY_STRIDE)) else
  let r := rkey / 256
  let v := s.region r
  decide (r < 65536) && tabGet s.rma.regOwner r == ctxFn.get (s.ctx q) + 1 && v.st == 2 && v.tag == rkey % 256 && bitOf v.acc acc &&
    decide (v.iova ≤ va) && decide (va + len ≤ v.iova + v.len)

/-- Base of the mirror area in real-time class memory. -/
def State.mirBase (s : State) : Nat := s.rd RMA_MIR_BASE_LO.BASE + s.rd RMA_MIR_BASE_HI.BASE * 2 ^ 32

/-- SEQ of snapshot copy `k` of the mirror area, when START equals END and it has been written. -/
def State.snapAt (s : State) (bodyLen k : Nat) : Option Nat :=
  let a := s.mirBase + 0x10000 * (k + 1)
  let x := leNat (s.rtRead a 8)
  if x != 0 && leNat (s.rtRead (a + 8 + bodyLen) 8) == x then some x else none

/-- Body length of a snapshot (R340): subscriptions, comparators, terms, publications, GTC and angle. -/
def snapBody : Nat := 1024 * 16 + 2048 * 8 + 256 * 8 + 256 * 16 + 16

/-- The newer valid snapshot copy: (SEQ, copy). -/
def State.snapNewest (s : State) : Option (Nat × Nat) :=
  match s.snapAt snapBody 0, s.snapAt snapBody 1 with
  | some a, some b => if a < b then some (b, 1) else some (a, 0)
  | some a, none => some (a, 0)
  | none, some b => some (b, 1)
  | none, none => none

/-- Data of a WRITE is placed: in the mirror area, or in the region's function. While the twin's CFG_CRC differs only its heartbeat
is taken (R342). -/
def State.placeWrite (s : State) (q rkey va : Nat) (d : List Byte) : State :=
  if rkey = mirrorKey then
    if s.on RMA_TWIN_STATUS.CRC_MISMATCH && 64 ≤ va then s else
    let s := s.rtWrite (s.mirBase + va) d
    let s := if va < 64 then { s with rma := { s.rma with hbNew := true } } else s
    if 0x10000 ≤ va && va < 0x30000 then
      match s.snapNewest with | some (n, _) => s.wr RMA_TWIN_STATUS.SNAP_SEQ n | none => s
    else s
  else s.dmaWrite (ctxFn.get (s.ctx q)) va d

/-- The posted entries of the receive ring of a QP, in ring order. -/
def State.recvEntries (s : State) (q : Nat) : List (Nat × Job) :=
  match (s.qpRings q).find? (fun g => s.rd QMG_RINGg_DESC.TYPE g == 2 && !(s.ring g).destroying) with
  | none => []
  | some g => ((s.ring g).jobs.filter (fun j => j.done.isNone && j.posted)).map (fun j => (g, j))

/-- The receive ring of a QP, and its oldest posted entry. -/
def State.recvEntry (s : State) (q : Nat) : Option (Nat × Job) := (s.recvEntries q).head?

/-- What a request packet is: (write, first, last, immediate). -/
def reqKind (op : Nat) : Option (Bool × Bool × Bool × Bool) :=
  if 12 ≤ op then none else
  let w := decide (6 ≤ op)
  match op % 6 with
  | 0 => some (w, true, false, false)
  | 1 => some (w, false, false, false)
  | 2 => some (w, false, true, false)
  | 3 => some (w, false, true, true)
  | 4 => some (w, true, true, false)
  | _ => some (w, true, true, true)

/-- The extended headers and data of a request packet: (RETH fields, immediate, data). -/
def splitReq (w first imm : Bool) (b : List Byte) : Nat × Nat × Nat × Nat × List Byte :=
  let r := if w && first then 16 else 0
  let m := if imm then 4 else 0
  (if r = 0 then 0 else beAt b 0 8, if r = 0 then 0 else beAt b 8 4, if r = 0 then 0 else beAt b 12 4,
   if m = 0 then 0 else beAt b r 4, b.drop (r + m))

/-- Answers to a request that is not taken: RNR NAK, or a NAK code. -/
inductive Taken where
  | done | rnr | nak (code : Nat)
  deriving DecidableEq, Repr

/-- Carry out the request packet with the expected PSN: place its data, and complete its message with its last packet. `placed`
says that its data has been placed already. -/
def State.takeReq (s : State) (q : Nat) (r : Roce) (placed : Bool) : State × Taken :=
  match reqKind r.op with
  | none => (s, .nak 1)
  | some (w, first, last, imm) =>
    let u := s.qp q
    let x := splitReq w first imm (r.body.take (r.body.length - r.pad))
    let d := x.2.2.2.2
    let mtu := ctxMtuBytes (s.ctx q)
    -- every packet but the last of a message is a whole path MTU (InfiniBand, which R322 names)
    if mtu < d.length || (!last && d.length != mtu) then (s, .nak 1)
    else if w then
      let m : RecvMsg := if first then { active := true, write := true, first := r.psn, va := x.1, rkey := x.2.1, len := x.2.2.1 } else u.recv
      if !m.active || !m.write || (first && u.recv.active) || m.len < m.got + d.length || (last && m.len != m.got + d.length) ||
        2 ^ 31 < m.len then (s, .nak 1)
      else if !s.rkeyOk q m.rkey m.va m.len 0 then (s, .nak 2)
      else if imm && (s.recvEntry q).isNone then (s, .rnr)
      else
        let s := (if placed then s else s.placeWrite q m.rkey (m.va + m.got) d).touchRegion (m.rkey / 256)
        let m : RecvMsg := { m with got := m.got + d.length }
        let s := s.setQp q { u with recv := if last then {} else m, msn := if last then (u.msn + 1) % psnMod else u.msn }
        if last && imm then
          match s.recvEntry q with
          | some (g, j) => (s.finishJob g j.idx 0 0 m.got x.2.2.2.1, .done)
          | none => (s, .done)
        else (s, .done)
    else
      let m : Option RecvMsg := if first then
          (if u.recv.active then none else (s.recvEntry q).map (fun e => { active := true, first := r.psn, job := some (e.1, e.2.idx) }))
        else if u.recv.active && !u.recv.write then some u.recv else none
      match m with
      | none => (s, if first && !u.recv.active then .rnr else .nak 1)
      | some m =>
        match m.job with
        | none => (s, .nak 1)
        | some (g, i) =>
          match (s.ring g).jobs.find? (fun j => j.idx == i && j.done.isNone) with
          | none => (s, .rnr)
          | some j =>
            if j.room < m.got + d.length then (s, .nak 1) else
            let s := if placed then s else
              (s.writeFrags (s.rd QMG_RINGg_DESC.FN g) (s.ring g).ro (fragsFrom j.frags m.got) d).ringCount g 5 d.length
            let m : RecvMsg := { m with got := m.got + d.length }
            let s := s.setQp q { u with recv := if last then {} else m, msn := if last then (u.msn + 1) % psnMod else u.msn }
            (if last then s.finishJob g i 0 0 m.got x.2.2.2.1 else s, .done)

/-- Read the data of a READ request from the region's function; its responses follow when it has arrived. -/
def State.startReadResp (s : State) (q psn va len : Nat) : State :=
  let u := s.qp q
  let s := s.setQp q { u with reads := u.reads.filter (fun x => x.1 != psn) ++ [(psn, len, [])] }
  s.dmaRead (ctxFn.get (s.ctx q)) va len (.rdma q psn)

/-- Send the responses of a READ whose data is whole: packets from `psn` on. A READ that is executed again retransmits its responses, and
their TXC rises (R335). -/
def State.sendResponses (s : State) (q mtu n : Nat) : Nat → Nat → Nat → List Byte → State
  | 0, _, _, _ => s
  | fuel + 1, i, psn, d =>
    let op := if n = 1 then 0x10 else if i = 0 then 0x0D else if i + 1 < n then 0x0E else 0x0F
    let ext := if op = 0x0E then [] else beBytes 1 0x1F ++ beBytes 3 (s.qp q).msn
    let epoch := ctxTxEpoch.get (s.ctx q)
    let enc := ctxEnc.get (s.ctx q) == 1
    let u := s.qp q
    let txc := if enc then tabGet u.respTxc (epoch * psnMod + psn) else 0
    if 255 < txc then (s.raise 359 [i16 q]).qpError q 3 0x104 else
    let s := if enc then s.setQp q { u with respTxc := tabSet u.respTxc (epoch * psnMod + psn) (txc + 1) } else s
    let s := s.sendPkt q { psn := psn, epoch := epoch, txc := txc, key := s.txKey q, op := op, ext := ext, data := d.take mtu }
    if i + 1 < n then s.sendResponses q mtu n fuel (i + 1) (psnAdd psn 1) (d.drop mtu) else s

/-- A piece of a READ's data has arrived from the host, or has failed (answered with a Remote Operational Error). -/
def State.readRespData (s : State) (q psn off : Nat) (d : List Byte) (err : Nat) : State :=
  let u := s.qp q
  match u.reads.find? (fun x => x.1 == psn) with
  | none => s
  | some x =>
    if err != 0 then (s.setQp q { u with reads := u.reads.filter (fun y => y.1 != psn) }).sendNak q 3 psn else
    if x.2.2.any (fun y => y.1 == off) then s else
    let l := x.2.2 ++ [(off, d)]
    if (l.map (fun p => p.2.length)).sum < x.2.1 then
      s.setQp q { u with reads := u.reads.map (fun y => if y.1 == psn then (y.1, y.2.1, l) else y) }
    else
      let bytes := (l.mergeSort (fun a b => decide (a.1 ≤ b.1))).flatMap (fun p => p.2)
      let mtu := ctxMtuBytes (s.ctx q)
      let n := pktCount bytes.length mtu
      (s.setQp q { u with reads := u.reads.filter (fun y => y.1 != psn) }).sendResponses q mtu n n 0 psn bytes

/-- The expected PSN advances; past its wrap the receive epoch rises and the next key comes into force (R323, R336). -/
def State.advanceEpsn (s : State) (q n : Nat) : State :=
  let c := s.ctx q
  let p := ctxEpsn.get c + n
  let c := ctxSrMap.set c (ctxSrMap.get c / 2 ^ n)
  let s := s.setQp q { s.qp q with nakked := false }
  if p < psnMod then s.setCtx q (ctxEpsn.set c p) else
  let c := ctxRxEpoch.set (ctxEpsn.set c (p - psnMod)) (ctxRxEpoch.get c + 1)
  let c := if ctxNextRx.get c = 1 then ctxNextRx.set (ctxKeyRx.set c (ctxKeyRxNext.get c)) 0 else c
  s.setCtx q c

/-- Acknowledge as R331 gives: after ACK_N packets, at AckReq, or after ACK_US. -/
def State.ackLater (s : State) (q : Nat) (ackReq : Bool) : State :=
  let u := s.qp q
  let s := s.setQp q { u with ackCount := u.ackCount + 1, ackFrom := if u.ackFrom = 0 then s.tick + 1 else u.ackFrom }
  if ackReq || max 1 (s.rd RMA_ACK.ACK_N) ≤ u.ackCount + 1 then s.sendAck q else s

/-- The request with the expected PSN. True when it was taken and the PSN advanced. -/
def State.inOrder (s : State) (q : Nat) (r : Roce) (placed : Bool) : State × Bool :=
  if r.op = 0x0C then
    let va := beAt r.body 0 8
    let len := beAt r.body 12 4
    if 2 ^ 31 < len || 16 ≤ (s.qp q).reads.length then (s.sendNak q 1 r.psn, false)
    else if !s.rkeyOk q (beAt r.body 8 4) va len 1 then (s.sendNak q 2 r.psn, false)
    else
      let s := s.touchRegion (beAt r.body 8 4 / 256)
      let s := s.setQp q { s.qp q with msn := ((s.qp q).msn + 1) % psnMod }
      ((s.advanceEpsn q (pktCount len (ctxMtuBytes (s.ctx q)))).startReadResp q r.psn va len, true)
  else
    match s.takeReq q r placed with
    | (s, .done) => ((s.advanceEpsn q 1).ackLater q r.ackReq, true)
    | (s, .rnr) => (s.sendAeth q (0x20 + Config.rnrCode % 32) r.psn, false)
    | (s, .nak c) => (s.sendNak q c r.psn, false)

/-! ## Decryption (R335 to R337) -/

/-- Open a packet of an encrypted QP: the security header is read, and the text is opened with the key of its epoch. -/
def State.openPkt (s : State) (q : Nat) (r : Roce) : Option Roce :=
  let c := s.ctx q
  if ctxEnc.get c = 0 then some r else
  let sec := beAt r.body 0 8
  let epoch := sec / 2 ^ 24
  let txc := sec / 2 ^ 16 % 256
  let e := ctxRxEpoch.get c
  if epoch != e && epoch != e + 1 then none else
  let w := if epoch = e + 1 && ctxNextRx.get c = 1 then ctxKeyRxNext.get c else ctxKeyRx.get c
  (Config.gcmOpen (Config.unwrapKey s.rma.kek (leBytes 40 w)) (gcmIv r.dqp txc epoch r.psn) (r.bth ++ r.body.take 8) (r.body.drop 8)).map
    (fun t => { r with body := t })

/-! ## Congestion (R324) -/

/-- Line rate of a sub-port in 10 Mb/s units: 25 Gb/s when split or at x1, else 100 Gb/s. -/
def State.lineRate (s : State) (n : Nat) : Nat :=
  let m := (n - 24) / 4
  if s.on FPT_XPORTm_CFG.SPLIT m || s.rd FPT_XPORTm_STATUS.WIDTH m = 1 then 2500 else 10000

/-- A CE-marked packet causes one CNP, at most once per CNP_US. -/
def State.answerCe (s : State) (q : Nat) : State :=
  let u := s.qp q
  if u.cnpTx != 0 && s.tick < u.cnpTx - 1 + 1000 * s.rd RMA_ACK.CNP_US then s else
  let s := s.setQp q { u with cnpTx := s.tick + 1 }
  (s.count RMA_cnt_LO.COUNT 9).sendPkt q { op := 0x81, epoch := ctxTxEpoch.get (s.ctx q), key := s.txKey q, data := List.replicate 16 0#8 }

/-- A received CNP halves the send rate. -/
def State.gotCnp (s : State) (q : Nat) : State :=
  let c := s.ctx q
  let s := (s.count RMA_cnt_LO.COUNT 10).putCtx q ctxRate (max (s.rd RMA_RATE.MIN_RATE) (ctxRate.get c / 2))
  s.setQp q { s.qp q with rateFrom := s.tick + 1 }

/-! ## Selective repeat (R333, R334) -/

/-- The held packets of a QP that wait for a gap. -/
def State.gapHeld (s : State) (q : Nat) : List HeldPkt := s.rma.held.filter (fun h => h.qp == q && h.psn != 0)

/-- Where the data of a held WRITE packet goes: its own RETH, or the First of its message among the held ones or in progress. -/
def State.writePlace (s : State) (q : Nat) (r : Roce) (first : Bool) : Option (Nat × Nat) :=
  let mtu := ctxMtuBytes (s.ctx q)
  if first then some (beAt r.body 8 4, beAt r.body 0 8) else
  let u := (s.qp q).recv
  if u.active && u.write && psnAhead r.psn u.first < pktCount u.len mtu then
    some (u.rkey, u.va + psnAhead r.psn u.first * mtu)
  else
    (s.gapHeld q).findSome? (fun h =>
      match (parseRoce h.frame.bytes).bind (s.openPkt q) with
      | some f => if f.op = 6 && psnAhead r.psn f.psn < pktCount (beAt f.body 12 4) mtu then
          some (beAt f.body 8 4, beAt f.body 0 8 + psnAhead r.psn f.psn * mtu) else none
      | none => none)

/-- A held packet, read and opened. -/
def State.heldReq (s : State) (q : Nat) (h : HeldPkt) : Option Roce := (parseRoce h.frame.bytes).bind (s.openPkt q)

/-- The held request of a PSN. -/
def State.heldAt (s : State) (q p : Nat) : Option Roce := ((s.gapHeld q).find? (fun h => h.psn == p + 1)).bind (s.heldReq q)

/-- PSNs that a request takes: a READ takes those of its responses. -/
def State.spanOf (s : State) (q : Nat) (r : Roce) : Nat := if r.op = 0x0C then pktCount (beAt r.body 12 4) (ctxMtuBytes (s.ctx q)) else 1

/-- What is known of the messages from PSN `t` up to `p`, going through the held packets: the first PSN of the message that `p` lies in,
none at a message's start, and how many receive entries the messages before it take. A missing packet is known to start or to go on with
its message where the packet after it goes on with one; any other leaves the rest unknown. -/
def State.sendWalk (s : State) (q p : Nat) : Nat → Nat → Option Nat → Nat → Option (Option Nat × Nat)
  | 0, _, _, _ => none
  | fuel + 1, t, cur, k =>
    if t = p then some (cur, k) else
    match s.heldAt q t with
    | none =>
      (match (s.heldAt q (psnAdd t 1)).bind (fun r => reqKind r.op) with
       | some (_, false, _, _) => s.sendWalk q p fuel (psnAdd t 1) (some (cur.getD t)) k
       | _ => none)
    | some r =>
      if r.op = 0x0C then (if cur.isSome then none else s.sendWalk q p fuel (psnAdd t (s.spanOf q r)) none k) else
      match reqKind r.op with
      | none => none
      | some (w, first, last, imm) =>
        if first != cur.isNone then none else
        s.sendWalk q p fuel (psnAdd t 1) (if last then none else some (cur.getD t)) (if last && (!w || imm) then k + 1 else k)

/-- Place the data of a held packet whose address is known (R334). True when it was placed. -/
def State.placeHeld (s : State) (q : Nat) (r : Roce) : State × Bool :=
  match reqKind r.op with
  | some (true, first, _, imm) =>
    let d := (splitReq true first imm (r.body.take (r.body.length - r.pad))).2.2.2.2
    (match s.writePlace q r first with
     | some (rkey, va) => if s.rkeyOk q rkey va d.length 0 then (s.placeWrite q rkey va d, true) else (s, false)
     | none => (s, false))
  | some (false, first, _, imm) =>
    let u := (s.qp q).recv
    let d := (splitReq false first imm (r.body.take (r.body.length - r.pad))).2.2.2.2
    (match s.sendWalk q r.psn 258 (ctxEpsn.get (s.ctx q)) (if u.active then some u.first else none) 0 with
     | none => (s, false)
     | some (cur, k) =>
       if first != cur.isNone then (s, false) else
       let off := psnAhead r.psn (cur.getD r.psn) * ctxMtuBytes (s.ctx q)
       (match (s.recvEntries q)[k]? with
        | some (g, j) => if off + d.length ≤ j.room then (s.placeJob g j.idx off d, true) else (s, false)
        | none => (s, false)))
  | none => (s, false)

/-- Try again to place the held packets of a QP that have not been placed. -/
def State.replaceHeld (s : State) (q : Nat) : State :=
  forEach ((s.gapHeld q).filter (fun h => !h.placed)) (fun h s =>
    match s.heldReq q h with
    | none => s
    | some r =>
      let p := s.placeHeld q r
      if p.2 then
        { p.1 with rma := { p.1.rma with held := p.1.rma.held.map (fun x => if x.qp == q && x.psn == h.psn then { x with placed := true } else x) } }
      else p.1) s

/-- Missing PSNs below the highest held one. -/
def State.gaps (s : State) (q : Nat) : List Nat :=
  let e := ctxEpsn.get (s.ctx q)
  let l := (s.gapHeld q).map (fun h => (psnAhead (h.psn - 1) e, match s.heldReq q h with | some r => s.spanOf q r | none => 1))
  (List.range ((l.map (fun x => x.1)).foldl max 0)).filterMap (fun i =>
    if l.any (fun x => decide (x.1 ≤ i) && decide (i < x.1 + x.2)) then none else some (psnAdd e i))

/-- The selective NAKs whose gaps are still open. -/
def State.openNaks (s : State) (q : Nat) : List (Nat × Nat) := (s.qp q).naks.filter (fun x => (s.gaps q).contains x.1)

/-- Send a selective NAK for each gap given, and note when. -/
def State.nakGaps (s : State) (q : Nat) (l : List Nat) : State :=
  let s := forEach l (fun p s => s.sendNak q 0 p) s
  s.setQp q { s.qp q with naks := (s.openNaks q).filter (fun x => !l.contains x.1) ++ l.map (fun p => (p, s.tick)) }

/-- Held packets that have become the expected ones are taken. -/
def State.drainGap (s : State) (q : Nat) : Nat → State
  | 0 => s
  | fuel + 1 =>
    let e := ctxEpsn.get (s.ctx q)
    match (s.gapHeld q).find? (fun h => h.psn == e + 1) with
    | none => s
    | some h =>
      let s := s.setHeld (s.rma.held.filter (fun x => !(x.qp == q && x.psn == e + 1)))
      match s.heldReq q h with
      | none => s
      | some r => match s.inOrder q r h.placed with | (s, true) => s.drainGap q fuel | (s, false) => s

/-- A request out of order on a selective-repeat QP. -/
def State.srAhead (s : State) (q : Nat) (r : Roce) (f : RxFrame) : State :=
  let e := ctxEpsn.get (s.ctx q)
  let k := psnAhead r.psn e
  if 256 < k then (s.count RMA_cnt_LO.COUNT 8).raise 361 [i16 q, i32 r.psn]
  else if (s.gapHeld q).any (fun h => h.psn == r.psn + 1) then s.count RMA_cnt_LO.COUNT 2
  else if s.on RMA_STATUS.PAUSING then s.sendNak q 0 r.psn
  else if missBytes < s.missUse + f.bytes.length then s.count RMA_cnt_LO.COUNT 3
  else
    let old := s.gaps q
    let s := s.putCtx q ctxSrMap (setBit (ctxSrMap.get (s.ctx q)) (k - 1) true)
    let s := s.setHeld (s.rma.held ++ [{ qp := q, frame := f, tick := s.tick, psn := r.psn + 1 }])
    let s := s.replaceHeld q
    s.nakGaps q ((s.gaps q).filter (fun p => !old.contains p))

/-! ## A packet for a Valid QP (R323, R331, R333) -/

/-- A request packet against the expected PSN. -/
def State.gotRequest (s : State) (q : Nat) (r : Roce) (f : RxFrame) : State :=
  let e := ctxEpsn.get (s.ctx q)
  let sr := ctxMode.get (s.ctx q) == 1
  if r.psn = e then
    match s.inOrder q r false with
    | (s, true) => if sr then ((s.replaceHeld q).drainGap q 257).replaceHeld q else s
    | (s, false) => s
  else if psnBehind r.psn e then
    let s := s.count RMA_cnt_LO.COUNT 2
    if r.op = 0x0C then
      let va := beAt r.body 0 8
      let len := beAt r.body 12 4
      if s.rkeyOk q (beAt r.body 8 4) va len 1 then s.startReadResp q r.psn va len else s.sendNak q 2 r.psn
    else s.sendAck q
  else if sr then s.srAhead q r f
  else
    let s := s.count RMA_cnt_LO.COUNT 1
    if (s.qp q).nakked then s else (s.setQp q { s.qp q with nakked := true }).sendNak q 0 e

/-- The region that a request needs and that is not in the cache: it exists, as far as its owner goes. -/
def State.regionMiss (s : State) (r : Roce) : Option Nat :=
  let rkey := if r.op = 6 || r.op = 10 || r.op = 11 || r.op = 0x0C then beAt r.body 8 4 else mirrorKey
  let g := rkey / 256
  if rkey = mirrorKey || 65536 ≤ g || tabGet s.rma.regOwner g = 0 || (s.region g).st = 2 then none else some g

/-- Hold a packet in the miss buffer, or discard it (R329). -/
def State.hold (s : State) (h : HeldPkt) (psn : Nat) : State :=
  let sr := ctxMode.get (s.ctx h.qp) == 1 && s.rma.slots.any (fun p => decide (2 ≤ p.2.st) && p.2.qp == h.qp)
  if sr && s.on RMA_STATUS.PAUSING then s.sendNak h.qp 0 psn
  else if missBytes < s.missUse + h.frame.bytes.length then s.count RMA_cnt_LO.COUNT 3
  else s.setHeld (s.rma.held ++ [h])

/-- A packet for a QP that is Valid in the cache. -/
def State.gotPacket (s : State) (q : Nat) (r : Roce) (f : RxFrame) : State :=
  let st := ctxState.get (s.ctx q)
  if ctxValid.get (s.ctx q) = 0 || (st != 2 && st != 3) then s.count RMA_cnt_LO.COUNT 0 else
  match s.openPkt q r with
  | none => (s.count RMA_cnt_LO.COUNT 7).raise 358 [i16 q]
  | some r =>
    let s := s.touchQp q
    let s := if r.ce then s.answerCe q else s
    if r.op = 0x81 then s.gotCnp q
    else if r.op = 0x11 then s.gotAck q (beAt r.body 0 1) r.psn
    else if 0x0D ≤ r.op && r.op ≤ 0x10 then
      s.gotReadResp q r.psn ((r.body.take (r.body.length - r.pad)).drop (if r.op = 0x0E then 0 else 4))
    else if r.op < 12 || r.op = 0x0C then
      match s.regionMiss r with
      | some g => (s.fetchRegion g).hold { qp := q, frame := f, tick := s.tick, region := g + 1 } r.psn
      | none => s.gotRequest q r f
    else s

/-- A packet of the link: to its QP, to the miss buffer, or discarded (R323, R329, R330). Field ports carry none (R322). -/
def State.roceFrame (s : State) (f : RxFrame) : State :=
  if f.port < 24 then s else
  match parseRoce f.bytes with
  | none => s
  | some r =>
    let s := s.cal 672 1 { tc := f.cls }
    if r.dqp < 0x10000 || 0x20000 ≤ r.dqp then s.count RMA_cnt_LO.COUNT 0 else
    let q := r.dqp - 0x10000
    let waits := s.rma.held.any (fun h => h.qp == q && h.psn == 0)
    if (s.slotOf q).isSome && !waits then s.gotPacket q r f
    else if (s.slotBound q).isNone && !s.on RMA_BS_CTRL.ENABLE then s.count RMA_cnt_LO.COUNT 0
    else (s.fetchCtx q).hold { qp := q, frame := f, tick := s.tick } r.psn

/-- The packets held for the context or a region of a QP are processed in arrival order while nothing is missing. -/
def State.drainHeld (s : State) (q : Nat) : Nat → State
  | 0 => s
  | fuel + 1 =>
    if (s.slotOf q).isNone then s else
    match s.rma.held.find? (fun h => h.qp == q && h.psn == 0) with
    | none => s
    | some h =>
      if h.region != 0 && (s.region (h.region - 1)).st = 1 then s else
      let s := s.setHeld (s.rma.held.eraseP (fun x => x.qp == q && x.psn == 0))
      match parseRoce h.frame.bytes with
      | none => s.drainHeld q fuel
      | some r => (s.gotPacket q r h.frame).drainHeld q fuel

/-- A QP has become Valid: its held packets and its posted work go on. -/
def State.qpReady (s : State) (q : Nat) : State := (s.drainHeld q (s.rma.held.length + 1)).pumpQp q

/-- QPs that wait for a slot try again: the first takes a free one, or another victim is chosen. -/
def State.serveWant (s : State) : State :=
  match s.rma.want with
  | [] => s
  | q :: t => if s.freeSlot.isSome then ({ s with rma := { s.rma with want := t } }).fetchCtx q else s.evict

/-- A QP that has reached RTS starts to count time without a CNP (R324). -/
def State.rateStart (s : State) (q : Nat) : State :=
  if ctxState.get (s.ctx q) = 3 && (s.qp q).rateFrom = 0 then s.setQp q { s.qp q with rateFrom := s.tick + 1 } else s

end Sys2Proof.Machine
end

