-- ==== Sys2Proof/Machine/Twin.lean ====
section
/-!
DEFINITION. Twin mirroring (R340 to R346) and the commands of the Tailstock link (chapter 15).
-/
namespace Sys2Proof.Machine

/-! ## Mirror writes (R340, R341) -/

/-- The mirror QP. -/
def State.mirrorQp (s : State) : Nat := s.rd RMA_TWIN_CFG.TWIN_QP

/-- May the mirror QP send: twin mirroring on, and the QP Valid and in RTS? -/
def State.mirrorUp (s : State) : Bool :=
  s.on RMA_TWIN_CFG.TWIN_EN && (s.slotOf s.mirrorQp).isSome && ctxState.get (s.ctx s.mirrorQp) == 3

/-- A WRITE on the mirror QP at an offset of the peer's mirror area. -/
def State.mirrorWrite (s : State) (off : Nat) (d : List Byte) : State :=
  if s.mirrorUp then s.sendMsg s.mirrorQp none true false off mirrorKey 0 d else s

/-- Is this device the Active twin, mirroring to a twin of the same configuration? -/
def State.mirrors (s : State) : Bool := s.rd RMA_TWIN_STATUS.ROLE == 2 && !s.on RMA_TWIN_STATUS.CRC_MISMATCH

/-- The body of a snapshot (R340); bytes the spec does not place are 0 (layout of the model, log 41). -/
def State.snapshot (s : State) : List Byte :=
  (List.range 1024).flatMap (fun i => leBytes 1 (s.rd SVI_SUBs_STATE.STATE i) ++ leBytes 1 0 ++ leBytes 2 (s.rd SVI_SUBs_STATE.H i) ++
    leBytes 4 0 ++ leBytes 8 (tabGet s.svi.subs i).map) ++
  (List.range 2048).flatMap (fun c => leBytes 4 (s.rd TRP_CMPc_STATUS.STATE c) ++ leBytes 4 (s.rd TRP_CMPc_STATUS.COUNT c)) ++
  (List.range 256).flatMap (fun t => leBytes 1 (s.termState t) ++ leBytes 1 (b2n (s.bitAt TRP_ARM_SETk.ARM t)) ++
    leBytes 6 (s.rd TRP_TERMt_STATUS.UNLATCH t)) ++
  (List.range 256).flatMap (fun p => leBytes 4 (s.rd TRP_PUBp_STNUM.NUM p) ++ leBytes 4 (s.rd TRP_PUBp_SQNUM.NUM p) ++
    leBytes 1 (s.rd TRP_PUBp_STATUS.ON p) ++ leBytes 7 (s.rd TRP_PUBp_STATUS.STEP p)) ++
  leBytes 12 s.tim.gtc ++ leBytes 4 (s.grain 0).angle

/-- SNAPSHOT_WRITE (R341): to the copy not written last: START, the body, END. -/
def State.snapshotWrite (s : State) : State :=
  if !s.mirrors || !s.mirrorUp then s else
  let n := s.rma.snapSeq + 1
  let a := 0x10000 * (n % 2 + 1)
  let s := { s with rma := { s.rma with snapSeq := n, snapOwed := false } }
  ((s.mirrorWrite a (leBytes 8 n)).mirrorWrite (a + 8) s.snapshot).mirrorWrite (a + 8 + snapBody) (leBytes 8 n)

/-- MIRROR_ROW_SEND (R341): a sealed row of a mirrored bay as two WRITEs, cells then header. -/
def State.mirrorRow (s : State) (b n : Nat) (header cells : List Byte) : State :=
  if !s.mirrors || !s.mirrorUp then s else
  let s := if s.rma.snapOwed then s.snapshotWrite else s
  let a := 0x100000 + b * (s.rd RMA_MIR_ROWS.MIR_BAY_STRIDE * 65536) + n % 2 ^ s.rd RMA_MIR_ROWS.MIR_LOG2 * (64 + cells.length)
  (s.mirrorWrite (a + 64) cells).mirrorWrite a header

/-! ## Roles (R343 to R345) -/

/-- The gated terms that are VALID, ascending. -/
def State.gatedTerms (s : State) : List Nat := s.validTerms.filter (fun t => s.bitAt RMA_TWIN_TERMk.GATE t)

/-- Show an arm bit in both registers that hold it. -/
def State.showArm (s : State) (t : Nat) (b : Bool) : State := (s.setBitAt TRP_ARM_SETk.ARM t b).setBitAt TRP_ARM_CLRk.ARM t b

/-- Entry to Standby clears the arm bits of gated terms; nothing is published for it (R344). ARM_WANT takes what was armed. -/
def State.gateTerms (s : State) : State :=
  forEach s.gatedTerms (fun t s =>
    let was := s.bitAt TRP_ARM_SETk.ARM t
    let s := s.setBitAt RMA_ARM_WANTk.WANT t was
    if !was then s else
    let s := (s.showArm t false).raise 260 [i8 t, i8 0]
    if s.termState t < 2 then s else
    (if s.termState t = 4 then s.wr TRP_TERMt_STATUS.UNLATCH 0 t else s).setTerm t 1) s

/-- Ungate: arm bits from ARM_WANT (R343). -/
def State.ungateTerms (s : State) : State := forEach s.gatedTerms (fun t s => s.armTo t (s.bitAt RMA_ARM_WANTk.WANT t)) s

/-- A change of role. -/
def State.setRole (s : State) (v : Nat) : State :=
  let old := s.rd RMA_TWIN_STATUS.ROLE
  if old = v then s else (s.wr RMA_TWIN_STATUS.ROLE v).raise 362 [i8 old, i8 v]

/-- Enter Standby. -/
def State.toStandby (s : State) : State := (s.gateTerms).setRole 3

/-- A publication goes on with its schedule. -/
def State.pubResume (s : State) (p : Nat) : State :=
  let u := s.pub p
  if !s.pubOpen p || u.running then s else s.setPub p { u with running := true, next := s.tick + 1000 * s.pubInterval p u.k }

/-- TWIN_TAKEOVER (R345). -/
def State.takeover (s : State) : State :=
  let snap := s.snapNewest
  let ts := s.gatedTerms
  let at_ := match snap with | some (_, k) => s.mirBase + 0x10000 * (k + 1) + 8 | none => 0
  let termAt := fun (s : State) (t i : Nat) => leNat (s.rtRead (at_ + 1024 * 16 + 2048 * 8 + 8 * t + i) 1)
  let pubAt := at_ + 1024 * 16 + 2048 * 8 + 256 * 8
  let seq := match snap with | some (n, _) => n | none => 0
  let s := (s.setRole 2).raise 364 [i64 seq]
  let s := match snap with
    | none => s.raise 368
    | some _ => forEach ((ts.map (fun t => termPub (s.termE t))).eraseDups) (fun p s =>
        let b := s.rtRead (pubAt + 16 * p) 16
        let s := ((s.wr TRP_PUBp_STNUM.NUM (leAt b 0 4) p).wr TRP_PUBp_SQNUM.NUM (leAt b 4 4) p).wr TRP_PUBp_STATUS.ON (leAt b 8 1 % 2) p
        (s.wr TRP_PUBp_STATUS.STEP (leAt b 9 1) p).setPub p { s.pub p with k := leAt b 9 1 }) s
  forEach ts (fun t s =>
    let v := s.termE t
    let p := termPub v
    let arm := match snap with | some _ => termAt s t 1 % 2 == 1 | none => s.bitAt RMA_ARM_WANTk.WANT t
    let s := s.armTo t arm
    let s :=
      if s.on TRP_PUBp_STATUS.ON p && s.termAnd v && 1 ≤ s.termState t then
        let s := s.setTerm t 4
        if s.pubOpen p then s.pubAgain p else s
      else if s.on TRP_PUBp_STATUS.ON p && termResetPub v then s.pubChange p false s.tim.gtc
      else s
    s.pubResume p) s

/-! ## Heartbeats (R342, R343, R346) -/

/-- HB_MISS × HB_US in ticks. -/
def State.hbUs (s : State) : Nat := let v := s.rd RMA_TWIN_HB.HB_US; 1000 * (if v = 0 then 1000 else v)
def State.silentTicks (s : State) : Nat := let v := s.rd RMA_TWIN_HB.HB_MISS; (if v = 0 then 3 else v) * s.hbUs

/-- The 64 bytes of the heartbeat block; the order of the fields is R340's, their places the model's (log 41). -/
def State.hbBlock (s : State) : List Byte :=
  leBytes 8 s.rma.hbSeq ++ leBytes 8 (s.rd64 GLB_UID_LO.UID) ++ leBytes 1 (s.rd RMA_TWIN_STATUS.ROLE) ++ leBytes 1 (s.rd RMA_TWIN_CFG.PRIO) ++
  leBytes 2 0 ++ leBytes 4 s.rma.cfgCrc ++ leBytes 12 s.tim.gtc ++ List.replicate 28 0#8

/-- HEARTBEAT_SEND (R342): every HB_US on the mirror QP and as a raw frame. -/
def execHeartbeatSend (s : State) : Host.Outcome State Fault Refusal :=
  if s.rd RMA_TWIN_STATUS.ROLE = 0 then ok s else
  let s := s.advanceTo (s.rma.hbFrom + s.hbUs)
  let s := { s with rma := { s.rma with hbFrom := s.tick, hbSeq := s.rma.hbSeq + 1 } }
  let b := s.hbBlock
  let n := s.rd RMA_TWIN_CFG.HB_PORT
  ok ((s.mirrorWrite 0 b).linkSend n (beBytes 6 Config.heartbeatMac ++ beBytes 6 (Config.fabricMac n) ++ beBytes 2 0x88B6 ++ b))

/-- Does this device win against the twin: a higher PRIO, or an equal PRIO with the lower GLB_UID? -/
def State.wins (s : State) (prio uid : Nat) : Bool :=
  let p := s.rd RMA_TWIN_CFG.PRIO
  decide (prio < p) || (prio == p && decide (s.rd64 GLB_UID_LO.UID < uid))

/-- The mirror QP returns from Error to RTS when the twin is heard again; a full snapshot goes before the next row (R346). -/
def State.mirrorResume (s : State) : State :=
  let q := s.mirrorQp
  if (s.slotOf q).isNone || ctxState.get (s.ctx q) != 4 then s else
  let c := s.ctx q
  let s := s.setCtx q (ctxUna.set (ctxRetryLeft.set (ctxState.set c 3) (ctxRetry.get c)) (ctxNpsn.get c))
  State.rateStart { (s.raise 366 [i8 3]) with rma := { s.rma with snapOwed := true } } q

/-- What a heartbeat block does (R342, R343). -/
def State.gotHeartbeat (s : State) (b : List Byte) : State :=
  let uid := leAt b 8 8
  let role := leAt b 16 1
  let prio := leAt b 17 1
  let crc := leAt b 20 4
  let s := if crc != s.rma.cfgCrc then (s.wr RMA_TWIN_STATUS.CRC_MISMATCH 1).raise 365 [i32 crc] else s.wr RMA_TWIN_STATUS.CRC_MISMATCH 0
  let s := s.mirrorResume
  let s := { s with rma := { s.rma with seekFrom := s.tick } }
  let me := s.rd RMA_TWIN_STATUS.ROLE
  if me = 1 && role = 2 then s.toStandby
  else if me = 1 && role = 1 then (if s.wins prio uid then s.setRole 2 else s.toStandby)
  else if me = 2 && role = 2 && !s.wins prio uid then (s.raise 367 [i32 uid]).toStandby
  else s

/-- HEARTBEAT_RECEIVE (R343): the block that has arrived on the mirror QP, or the raw frame at the head of the link's queue. -/
def execHeartbeatReceive (raw : Bool) (s : State) : Host.Outcome State Fault Refusal :=
  let on_ := s.rd RMA_TWIN_STATUS.ROLE != 0
  if raw then
    match s.ppl.rmaIn with
    | [] => ok s
    | f :: t =>
      if etherType f.bytes != 0x88B6 then ok s else
      let s := { s with ppl := { s.ppl with rmaIn := t } }
      if !on_ || f.port != s.rd RMA_TWIN_CFG.HB_PORT then ok s else
      let s := { (s.wr RMA_TWIN_STATUS.RAW_PATH 1) with rma := { s.rma with hbRaw := s.tick + 1 } }
      ok (s.gotHeartbeat (slice f.bytes (payloadAt f.bytes) 64))
  else if !s.rma.hbNew then ok s
  else
    let s := { s with rma := { s.rma with hbNew := false } }
    if !on_ then ok s else
    let s := { (s.wr RMA_TWIN_STATUS.QP_PATH 1) with rma := { s.rma with hbQp := s.tick + 1 } }
    ok (s.gotHeartbeat (s.rtRead s.mirBase 64))

/-- HEARTBEAT_PATH_SILENT (R342): one path has delivered nothing for HB_MISS × HB_US. `raw` names the path. -/
def execHeartbeatPathSilent (raw : Bool) (s : State) : Host.Outcome State Fault Refusal :=
  if raw then
    if !s.on RMA_TWIN_STATUS.RAW_PATH then ok s else
    ok (((s.advanceTo (s.rma.hbRaw - 1 + s.silentTicks)).wr RMA_TWIN_STATUS.RAW_PATH 0).raise 363 [i8 1])
  else if !s.on RMA_TWIN_STATUS.QP_PATH then ok s
  else ok (((s.advanceTo (s.rma.hbQp - 1 + s.silentTicks)).wr RMA_TWIN_STATUS.QP_PATH 0).raise 363 [i8 0])

/-- A path has been silent for HB_MISS × HB_US (R342, source 363). `raw` names it. -/
def State.pathSilent (s : State) (raw : Bool) : State :=
  if raw then (if s.on RMA_TWIN_STATUS.RAW_PATH then (s.wr RMA_TWIN_STATUS.RAW_PATH 0).raise 363 [i8 1] else s)
  else if s.on RMA_TWIN_STATUS.QP_PATH then (s.wr RMA_TWIN_STATUS.QP_PATH 0).raise 363 [i8 0] else s

/-- TWIN_SILENT (R342, R345): neither path has delivered a heartbeat for HB_MISS × HB_US, so both are silent; a Standby device takes
over. -/
def execTwinSilent (s : State) : Host.Outcome State Fault Refusal :=
  let last := max s.rma.hbQp s.rma.hbRaw
  if last = 0 then ok s else
  let s := ((s.advanceTo (last - 1 + s.silentTicks)).pathSilent false).pathSilent true
  if s.rd RMA_TWIN_STATUS.ROLE = 3 then ok s.takeover else ok s

/-- TWIN_SEEK_EXPIRE (R343): SEEK_MS without a twin heartbeat. -/
def execTwinSeekExpire (s : State) : Host.Outcome State Fault Refusal :=
  if s.rd RMA_TWIN_STATUS.ROLE != 1 then ok s
  else ok ((s.advanceTo (s.rma.seekFrom + 1000000 * s.rd RMA_TWIN_SEEK.SEEK_MS)).setRole 2)

/-- TWIN_EN takes a new value at a commit (R343). -/
def State.twinCommit (s : State) (was : Bool) : State :=
  let now := s.on RMA_TWIN_CFG.TWIN_EN
  if now && !was then
    State.setRole { s with rma := { s.rma with seekFrom := s.tick, hbFrom := s.tick } } 1
  else if !now && s.rd RMA_TWIN_STATUS.ROLE != 0 then
    let gated := s.rd RMA_TWIN_STATUS.ROLE == 3
    let s := s.setRole 0
    if gated then s.ungateTerms else s
  else s

/-! ## Packets and timers -/

/-- ROCE_PACKET_RECEIVE (R323, R331): the oldest packet that the pipeline handed to the link. -/
def execRocePacketReceive (s : State) : Host.Outcome State Fault Refusal :=
  match s.ppl.rmaIn with
  | [] => ok s
  | f :: t =>
    if etherType f.bytes = 0x88B6 then ok s else
    let s := { s with ppl := { s.ppl with rmaIn := t } }
    if s.on RMA_CFG.ENABLE then ok (s.roceFrame f).serveWant else ok s

/-- ROCE_ACK_TIMER (R331): ACK_US after the first unacknowledged packet an ACK is sent. -/
def execRoceAckTimer (q : Nat) (s : State) : Host.Outcome State Fault Refusal :=
  let u := s.qp q
  if u.ackFrom = 0 || (s.slotOf q).isNone then ok s
  else ok ((s.advanceTo (u.ackFrom - 1 + 1000 * s.rd RMA_ACK.ACK_US)).sendAck q)

/-- ROCE_ACK_TIMEOUT (R332, R333): the ack timeout expires; the sender retransmits, or the QP enters Error at exhaustion. -/
def execRoceAckTimeout (q : Nat) (s : State) : Host.Outcome State Fault Refusal :=
  let u := s.qp q
  let c := s.ctx q
  if u.timerFrom = 0 || ctxTimeout.get c = 0 || ctxState.get c != 3 then ok s else
  let s := s.advanceTo (u.timerFrom - 1 + 4096 * 2 ^ ctxTimeout.get c)
  if ctxRetryLeft.get c = 0 then ok ((s.raise 353 [i16 q]).qpError q 0 0x101)
  else ok ((s.putCtx q ctxRetryLeft (ctxRetryLeft.get c - 1)).resendFrom q (ctxUna.get c))

/-- ROCE_RNR_WAIT_EXPIRE (R332): the peer's stated time ends, and the send is retried. -/
def execRoceRnrWaitExpire (q : Nat) (s : State) : Host.Outcome State Fault Refusal :=
  let u := s.qp q
  if u.rnrUntil = 0 then ok s else
  let s := (s.advanceTo (u.rnrUntil - 1)).setQp q { u with rnrUntil := 0 }
  ok ((s.resendFrom q u.rnrPsn).pumpQp q)

/-- ROCE_RATE_INCREASE (R324): AI_US without a CNP adds AI_STEP, up to the line rate. -/
def execRoceRateIncrease (q : Nat) (s : State) : Host.Outcome State Fault Refusal :=
  let u := s.qp q
  if (s.slotOf q).isNone || u.rateFrom = 0 then ok s else
  let s := s.advanceTo (u.rateFrom - 1 + 1000 * s.rd RMA_RATE.AI_US)
  let c := s.ctx q
  let s := s.putCtx q ctxRate (min (ctxRate.get c + s.rd RMA_RATE.AI_STEP) (s.lineRate (ctxPort.get c)))
  ok (s.setQp q { s.qp q with rateFrom := s.tick + 1 })

/-- SR_NAK_REPEAT (R333): SR_NAK_US after its last one, the selective NAK of an unfilled gap is sent again. -/
def execSrNakRepeat (q : Nat) (s : State) : Host.Outcome State Fault Refusal :=
  match s.openNaks q with
  | [] => ok s
  | x :: t =>
    let every := 10000 * s.rd RMA_ACK.SR_NAK_US
    let s := s.advanceTo ((t.map (fun y => y.2)).foldl min x.2 + every)
    ok (s.nakGaps q (((x :: t).filter (fun y => decide (y.2 + every ≤ s.tick))).map (fun y => y.1)))

/-- MISS_HOLD_TIMEOUT (R329): packets held longer than MISS_TO are discarded; it acts on the oldest one. -/
def execMissHoldTimeout (s : State) : Host.Outcome State Fault Refusal :=
  match s.rma.held.filter (fun h => h.psn == 0) with
  | [] => ok s
  | h :: _ =>
    let v := s.rd RMA_MISS.MISS_TO
    let lim := 1000 * (if v = 0 then 1000 else v)
    let s := s.advanceTo (h.tick + lim)
    let old := fun (x : HeldPkt) => x.psn == 0 && decide (x.tick + lim ≤ s.tick)
    let n := (s.rma.held.filter old).length
    ok ((s.count RMA_cnt_LO.COUNT 3 0 n).setHeld (s.rma.held.filter (fun x => !old x)))

/-! ## The context cache (R328, R330) -/

/-- The pieces of a fetch that have arrived for `why`, in order, and the rest. -/
def State.takeArrived (s : State) (why : Purpose) : State × List Arrived :=
  let l := s.hif.arrived.filter (fun a => a.why == why)
  ({ s with hif := { s.hif with arrived := s.hif.arrived.filter (fun a => !(a.why == why)) } }, l)

/-- The bytes of pieces, in order of their place. -/
def arrivedBytes (l : List Arrived) : List Byte := (l.mergeSort (fun a b => decide (a.off ≤ b.off))).flatMap (fun a => a.bytes)

/-- CONTEXT_FETCH_DONE (R328): the fetch of a context (`x` below 65,536) or of region `x` - 65,536 completes, or fails. -/
def execContextFetchDone (x : Nat) (s : State) : Host.Outcome State Fault Refusal :=
  let t := s.takeArrived (.context x)
  let need := if x < 65536 then 256 else 32
  let failed := t.2.any (fun a => a.err != 0)
  if !failed && (arrivedBytes t.2).length < need then ok s else
  let s := t.1
  if x < 65536 then
    match s.slotBound x with
    | none => ok s
    | some i =>
      if (tabGet s.rma.slots i).st != 1 then ok s else
      if failed then
        let n := (s.rma.held.filter (fun h => h.qp == x)).length
        let s := (s.setSlot i {}).raise 356 [i16 x]
        ok (((s.count RMA_cnt_LO.COUNT 3 0 n).setHeld (s.rma.held.filter (fun h => !(h.qp == x)))).serveWant)
      else
        let s := s.setSlot i { st := 2, qp := x, last := s.tick }
        ok ((s.setWinNat 11 false (64 * i) 64 (leNat (arrivedBytes t.2))).qpReady x)
  else
    let r := x - 65536
    if (s.region r).st != 1 then ok s else
    let qs := ((s.rma.held.filter (fun h => h.region == r + 1)).map (fun h => h.qp)).eraseDups
    if failed then
      let n := (s.rma.held.filter (fun h => h.region == r + 1)).length
      let s := (s.setRegion r {}).raise 356 [i16 r]
      ok ((s.count RMA_cnt_LO.COUNT 3 0 n).setHeld (s.rma.held.filter (fun h => !(h.region == r + 1))))
    else
      let b := arrivedBytes t.2
      let s := s.setRegion r { st := 2, iova := leAt b 0 8, len := leAt b 8 8, tag := leAt b 16 1, acc := leAt b 17 1, last := s.tick }
      ok (forEach qs (fun q s => s.qpReady q) s)

/-- CONTEXT_WRITEBACK_DONE (R328, R330): the write-back of cache slot `i` completes, or fails. -/
def execContextWritebackDone (i : Nat) (success : Bool) (s : State) : Host.Outcome State Fault Refusal :=
  let v := tabGet s.rma.slots i
  if v.st != 3 then ok s else
  let work := s.rma.held.any (fun h => h.qp == v.qp) || s.qpWaits v.qp
  if !success then ok (((s.setSlot i { v with st := 2, last := s.tick }).raise 356 [i16 v.qp]).serveWant)
  else if work then
    let s := (s.setSlot i { v with st := 2 }).count RMA_cnt_LO.COUNT 4
    let s := s.qpReady v.qp
    ok (if s.rma.want.isEmpty then s else s.evict)
  else ok ((s.setSlot i {}).serveWant)

/-! ## Commands (R338) -/

/-- A queue pair that a command of function `f` may name: not pinned, and not another function's. -/
def State.qpNamable (s : State) (f q : Nat) : Bool :=
  let o := tabGet s.rma.owner q
  (o == 0 || o == f + 1) && !s.rma.pinned.any (fun p => p.1 == q)

/-- Wrap the key whose plaintext stands in the first 32 bytes of a key field. -/
def State.wrapField (s : State) (v : Nat) : Nat := leNat (Config.wrapKey s.rma.kek (leBytes 32 v))

/-- An image with its keys wrapped. -/
def State.sealImage (s : State) (v : Nat) : Nat :=
  [ctxKeyTx, ctxKeyRx, ctxKeyTxNext, ctxKeyRxNext].foldl (fun v k => k.set v (s.wrapField (k.get v))) v

/-- CREATE_QP (R338). It waits while no cache slot is free. -/
def execCreateQp (g : Nat) (s : State) : Host.Outcome State Fault Refusal :=
  if s.pfOf (s.rd QMG_RINGg_DESC.FN g) != 4 then ok s else
  match s.jobOf g 0x80 with
  | none => ok s
  | some j =>
    let f := s.rd QMG_RINGg_DESC.FN g
    let q := bitsOf (qwAt j.qw 1) 0 16
    let v := leNat (j.bytes.take 256)
    if j.bytes.length < 256 then ok (s.finishJob g j.idx 4 24)
    else if !s.qpNamable f q || tabGet s.rma.owner q != 0 || !s.on RMA_BS_CTRL.ENABLE then ok (s.finishJob g j.idx 4 8)
    else if ctxMode.get v = 1 && ctxEnc.get v = 1 then ok (s.finishJob g j.idx 4 16)
    else
      match s.freeSlot with
      | none => ok s.evict
      | some i =>
        let v := ctxFn.set (ctxPin.set (ctxValid.set (s.sealImage v) 1) 0) f
        let s := (s.setSlot i { st := 2, qp := q, last := s.tick }).setWinNat 11 false (64 * i) 64 v
        let s := { s with rma := { s.rma with owner := tabSet s.rma.owner q (f + 1) } }
        ok (((s.setQp q {}).rateStart q).finishJob g j.idx 0 0 0 (0x10000 + q))

/-- May a QP go from one state to another (InfiniBand, which R325 names)? -/
def qpStep (a b : Nat) : Bool := a == b || b == 0 || b == 4 || (a == 0 && b == 1) || (a == 1 && b == 2) || (a == 2 && b == 3)

/-- Apply the masked quadwords of an image to a context; a set key quadword brings the whole send key, and quadword 0 brings the
next keys that it flags (DEDUCED, log 42). -/
def State.maskImage (s : State) (old new mask : Nat) : Nat :=
  let v := (List.range 12).foldl (fun v i => if bitOf mask i then (CtxFld.mk (64 * i) 64).set v (bitsOf new (64 * i) 64) else v) old
  let v := if bitsOf mask 12 4 != 0 then ctxKeyTx.set v (s.wrapField (ctxKeyTx.get new)) else v
  let v := if bitOf mask 0 && ctxNextTx.get new = 1 then ctxKeyTxNext.set v (s.wrapField (ctxKeyTxNext.get new)) else v
  let v := if bitOf mask 0 && ctxNextRx.get new = 1 then ctxKeyRxNext.set v (s.wrapField (ctxKeyRxNext.get new)) else v
  ctxFn.set (ctxPin.set (ctxValid.set v 1) (ctxPin.get old)) (ctxFn.get old)

/-- A command on an existing QP of function `f` runs `act` once its context is Valid; it is refused for one it may not name, and
waits for a fetch. -/
def State.onQp (s : State) (g : Nat) (j : Job) (act : Nat → State) : State :=
  let f := s.rd QMG_RINGg_DESC.FN g
  let q := bitsOf (qwAt j.qw 1) 0 16
  if !s.qpNamable f q || tabGet s.rma.owner q = 0 then s.finishJob g j.idx 4 8
  else if (s.slotOf q).isNone then s.fetchCtx q
  else act q

/-- MODIFY_QP (R336, R338). -/
def execModifyQp (g : Nat) (s : State) : Host.Outcome State Fault Refusal :=
  if s.pfOf (s.rd QMG_RINGg_DESC.FN g) != 4 then ok s else
  match s.jobOf g 0x81 with
  | none => ok s
  | some j =>
    ok (s.onQp g j (fun q =>
      if j.bytes.length < 256 then s.finishJob g j.idx 4 24 else
      let old := s.ctx q
      let v := s.maskImage old (leNat (j.bytes.take 256)) (bitsOf (qwAt j.qw 1) 32 16)
      if !qpStep (ctxState.get old) (ctxState.get v) || (ctxMode.get v = 1 && ctxEnc.get v = 1) then s.finishJob g j.idx 4 16 else
      let s := s.setCtx q v
      let s := if ctxState.get v = 4 && ctxState.get old != 4 then s.qpError q 2 0x104
        else if ctxState.get v = 0 then s.setQp q {} else s.rateStart q
      (s.finishJob g j.idx 0).pumpQp q))

/-- QUERY_QP (R336, R338): the image with key fields 0. -/
def execQueryQp (g : Nat) (s : State) : Host.Outcome State Fault Refusal :=
  if s.pfOf (s.rd QMG_RINGg_DESC.FN g) != 4 then ok s else
  match s.jobOf g 0x82 with
  | none => ok s
  | some j =>
    ok (s.onQp g j (fun q =>
      let b := leBytes 256 (s.ctx q % 2 ^ 768)
      if j.room < 256 then s.finishJob g j.idx 1 0 256
      else ((s.writeFrags (s.rd QMG_RINGg_DESC.FN g) (s.ring g).ro j.frags b).ringCount g 5 256).finishJob g j.idx 0 0 256))

/-- A QP is destroyed: posted entries are Flushed, its packets are dropped, and the store no longer holds it as VALID. -/
def State.dropQp (s : State) (q : Nat) : State :=
  let s := forEach (s.qpRings q) (fun g s => s.flushRing g) s
  let s := match s.slotBound q with
    | some i => (s.setSlot i {}).setWinNat 11 false (64 * i) 64 0
    | none => s
  let s := s.setHeld (s.rma.held.filter (fun h => !(h.qp == q)))
  let s := { s with rma := { s.rma with owner := tabSet s.rma.owner q 0, want := s.rma.want.filter (fun x => x != q) } }
  (s.setQp q {}).storeWrite (s.ctxAddr q) (List.replicate 256 0#8)

/-- DESTROY_QP (R338, R339). -/
def execDestroyQp (g : Nat) (s : State) : Host.Outcome State Fault Refusal :=
  if s.pfOf (s.rd QMG_RINGg_DESC.FN g) != 4 then ok s else
  match s.jobOf g 0x83 with
  | none => ok s
  | some j => ok (s.onQp g j (fun q => (s.dropQp q).finishJob g j.idx 0))

/-- At the end of a function-level reset every QP of the function is destroyed (R325), and its regions. -/
def State.dropQps (s : State) (f : Nat) : State :=
  let s := forEach ((s.rma.owner.filter (fun p => p.2 == f + 1)).map (fun p => p.1)) (fun q s => s.dropQp q) s
  forEach ((s.rma.regOwner.filter (fun p => p.2 == f + 1)).map (fun p => p.1)) (fun r s =>
    State.setRegion { s with rma := { s.rma with regOwner := tabSet s.rma.regOwner r 0 } } r {}) s

/-- REGISTER_REGION (R338): RESULT is the rkey, region × 256 + key tag. -/
def execRegisterRegion (g : Nat) (s : State) : Host.Outcome State Fault Refusal :=
  if s.pfOf (s.rd QMG_RINGg_DESC.FN g) != 4 then ok s else
  match s.jobOf g 0x84 with
  | none => ok s
  | some j =>
    let f := s.rd QMG_RINGg_DESC.FN g
    let p := qwAt j.qw 1
    let r := bitsOf p 0 16
    let o := tabGet s.rma.regOwner r
    if o != 0 && o != f + 1 then ok (s.finishJob g j.idx 4 8) else
    let v : RegSt := { st := 2, iova := qwAt j.qw 6, len := qwAt j.qw 7, tag := bitsOf p 16 8, acc := bitsOf p 24 3, last := s.tick }
    let s := (s.roomForRegion.setRegion r v).storeWrite (s.regionAddr r) (regionBytes v)
    let s := { s with rma := { s.rma with regOwner := tabSet s.rma.regOwner r (f + 1) } }
    ok (s.finishJob g j.idx 0 0 0 (r * 256 + v.tag))

/-- DEREGISTER_REGION (R338). -/
def execDeregisterRegion (g : Nat) (s : State) : Host.Outcome State Fault Refusal :=
  if s.pfOf (s.rd QMG_RINGg_DESC.FN g) != 4 then ok s else
  match s.jobOf g 0x85 with
  | none => ok s
  | some j =>
    let r := bitsOf (qwAt j.qw 1) 0 16
    if tabGet s.rma.regOwner r != s.rd QMG_RINGg_DESC.FN g + 1 then ok (s.finishJob g j.idx 4 8) else
    let s := (s.setRegion r {}).storeWrite (s.regionAddr r) (List.replicate 32 0#8)
    let s := { s with rma := { s.rma with regOwner := tabSet s.rma.regOwner r 0 } }
    ok (s.finishJob g j.idx 0)

/-- POST_SEND (R338): the entries of a send ring go out on the QP that its BIND names; a QP that is not cached is fetched. -/
def execPostSend (g : Nat) (s : State) : Host.Outcome State Fault Refusal :=
  if s.pfOf (s.rd QMG_RINGg_DESC.FN g) != 4 || s.rd QMG_RINGg_DESC.TYPE g != 1 then ok s else
  let q := (s.ring g).bind
  if !(s.ring g).jobs.any (fun j => j.done.isNone && !j.posted) then ok s
  else if (s.slotOf q).isSome then ok (s.pumpQp q) else ok (s.fetchCtx q)

/-- POST_RECEIVE (R338): the entry is posted for an incoming SEND; in Error it is Flushed (R325). -/
def execPostReceive (g : Nat) (s : State) : Host.Outcome State Fault Refusal :=
  if s.pfOf (s.rd QMG_RINGg_DESC.FN g) != 4 || s.rd QMG_RINGg_DESC.TYPE g != 2 then ok s else
  let s := s.postBuffer g 0x91
  ok (if ctxState.get (s.ctx (s.ring g).bind) = 4 then s.flushRing g else s)

end Sys2Proof.Machine
end

