-- ==== Sys2Proof/Machine/Align.lean ====
section
/-!
DEFINITION. The sample alignment fabric (chapter 8): placement of stream-sample records, rows and their sealing, cycle frames, and
the starts, stops and restarts of bays.
-/
namespace Sys2Proof.Machine

def State.bay (s : State) (b : Nat) : BaySt := tabGet s.aln.bays b
def State.setBay (s : State) (b : Nat) (x : BaySt) : State := { s with aln := { s.aln with bays := tabSet s.aln.bays b x } }

/-- Publish OPEN: rows whose instant has passed and that are not sealed. -/
def State.showBay (s : State) (b : Nat) : State :=
  let x := s.bay b
  s.wr ALN_BAYb_STATE.OPEN (min 255 (x.due - x.next)) b

/-! ## Cycle frames (R185 to R187) -/

/-- The settings of a frame that opens now. -/
def State.frameCfg (s : State) (b : Nat) : FrameCfg :=
  let e := s.bayE b
  { grain := bayGrain e, marks := ((List.range 4).filter (bayMarkEn e)).map (bayMark e), maxRows := bayMaxRows e
    rings := [0, 1].map (fun i => if bayRingEn e i then some (s.ringFn (bayRingFn e i), bayRing e i) else none) }

/-- The open frame of bay `b` ends with row `last`; the next one opens. A frame with no rows is not made (R185). -/
def State.cutFrame (s : State) (b last close mark gtc : Nat) : State :=
  let x := s.bay b
  if last < x.first then s else
  let c : FrameCut := { first := x.first, last := last, close := close, mark := mark, gtc := gtc, discont := x.discont, cfg := x.cfg }
  s.setBay b { x with cuts := x.cuts ++ [c], first := last + 1, discont := false, cfg := s.frameCfg b }

/-- Address of the slot of row `n` in real-time class memory (R183). -/
def State.rowAddr (s : State) (b n : Nat) : Nat :=
  let e := s.bayE b
  bayBase e + n % 2 ^ bayLog2 e * (64 + rowStride (bayWidth e))

/-- The words of a GTC value as in row-header quadwords 1 and 2: NS and SEC_LO; SEC_HI. -/
def timeQ1 (g : Nat) : Nat := g % nsPerSec + g / nsPerSec % 2 ^ 32 * 2 ^ 32
def timeQ2 (g : Nat) : Nat := g / nsPerSec / 2 ^ 32 % 2 ^ 16

/-- Cells of provenance 1 or 2 in row bytes. -/
def filledIn (width : Nat) (b : List Byte) : Nat :=
  ((List.range width).filter (fun i => let p := cellProv (leAt b (8 * i) 8); p == 1 || p == 2)).length

/-- A frame goes to one ring (R187). -/
def State.frameTo (s : State) (b i : Nat) (data : List Byte) : Option (Nat × Nat) → State
  | none => s
  | some (f, n) =>
    let r := s.deliver f n data (2 * b) 64
    let s := if r.2 = .done then r.1.count ALN_cnt_LO.COUNT 5 else r.1
    s.deliverOutcome r.2
      (fun s => if i = 0 then s.bump ALN_BAYb_RING0.UNAVAIL b else s.bump ALN_BAYb_RING1.UNAVAIL b)
      (fun s => if i = 0 then s.bump ALN_BAYb_RING0.NO_BUF b else s.bump ALN_BAYb_RING1.NO_BUF b)
      (fun s => if i = 0 then s.bump ALN_BAYb_SHORT.SHORT0 b else s.bump ALN_BAYb_SHORT.SHORT1 b)
      (fun o s => s.raise 229 [i8 b, i8 i, i8 o])

/-- CYCLE_FRAME_CLOSE (R185 to R187): the frame is built from its sealed rows and delivered to each enabled ring. -/
def State.closeFrame (s : State) (b : Nat) (c : FrameCut) : State :=
  let e := s.bayE b
  let stride := rowStride (bayWidth e)
  let n := c.last + 1 - c.first
  let head := s.rtRead (s.rowAddr b c.first) 64
  let rows := (List.range n).map (fun i => s.rtRead (s.rowAddr b (c.first + i) + 64) stride)
  let inst := rowInst (bayRowHz e) c.first
  let x := s.bay b
  let late := (x.lates.filter (fun k => c.first ≤ k && k ≤ c.last)).length
  let seq := s.rd ALN_BAYb_FRAME_SEQ.SEQ b
  let q0 := n % 2 ^ 16 + bayWidth e * 2 ^ 16 + b * 2 ^ 24 + b2n c.discont * 2 ^ 31 + c.close * 2 ^ 32 +
    (if c.close = 0 then c.mark else 0) * 2 ^ 40 + stride * 2 ^ 48
  let q3 := timeQ2 inst + leAt head 18 2 * 2 ^ 16 + s.rd TIM_STATUS.QUALITY * 2 ^ 32 + s.gstate c.cfg.grain * 2 ^ 36 + bayRowHz e * 2 ^ 40
  let header := [q0, c.first, timeQ1 inst, q3, timeQ1 c.gtc, timeQ2 c.gtc + leAt head 20 4 * 2 ^ 32, leAt head 24 4 + seq * 2 ^ 32,
    (rows.map (filledIn (bayWidth e))).sum + late * 2 ^ 32].flatMap (leBytes 8)
  let s := s.setBay b { x with lates := x.lates.filter (fun k => c.last < k) }
  let s := (s.wr ALN_BAYb_FRAME_SEQ.SEQ (seq + 1) b).count ALN_cnt_LO.COUNT 4
  let data := header ++ rows.flatten
  let s := s.cal 387
  (s.frameTo b 0 data (c.cfg.rings.getD 0 none)).frameTo b 1 data (c.cfg.rings.getD 1 none)

/-- Close every cut frame whose last row is sealed, oldest first. -/
def State.closeFrames : Nat → State → Nat → State
  | 0, s, _ => s
  | fuel + 1, s, b =>
    let x := s.bay b
    match x.cuts with
    | [] => s
    | c :: t =>
      if x.next ≤ c.last then s else
      ((s.closeFrame b c).setBay b { (s.closeFrame b c).bay b with cuts := t }).closeFrames fuel b

/-- Close what can be closed. -/
def State.pumpFrames (s : State) (b : Nat) : State := s.closeFrames (s.bay b).cuts.length b

/-- A mark fires at GTC value `g`: every Running bay whose open frame has it ends the frame at the last row before (R185). -/
def State.frameMark (s : State) (m g : Nat) : State :=
  forEach (List.range 128) (fun b s =>
    let n := firstSample (bayRowHz (s.bayE b)) g
    if s.bayRuns b && (s.bay b).cfg.marks.contains m && n != 0 then (s.cutFrame b (n - 1) 0 m g).pumpFrames b
    else s) s

/-! ## Rows (R176 to R184) -/

/-- The row `n` of a bay, as far as it exists. -/
def rowOf (x : BaySt) (n : Nat) : Row :=
  match x.rows.find? (fun r => r.n == n) with | some r => r | none => { n := n }

/-- Keep a row. -/
def putRow (x : BaySt) (r : Row) : BaySt := { x with rows := r :: x.rows.filter (fun y => y.n != r.n) }

/-- The Grain instance that applies to row `n`: that of the frame which holds it (R191). -/
def grainOfRow (x : BaySt) (n : Nat) : Nat :=
  match x.cuts.find? (fun c => decide (c.first ≤ n) && decide (n ≤ c.last)) with | some c => c.cfg.grain | none => x.cfg.grain

/-- The cycle count of a Grain instance at an instant. -/
def State.cycleAt (s : State) (g inst : Nat) : Nat :=
  unsgn 32 (s.accAt g (s.tickAt inst) / ((2 ^ 64 : Nat) : Int))

/-- The subscriptions of a bay that are no misfits (R189). -/
def State.fitSubs (s : State) (b : Nat) : List Nat := (s.baySubs b).filter (fun i => !misfit (s.subE i) (s.bayE b))

/-- The subscriptions whose cells a row expects when its instant is reached (R176), misfits among them. -/
def State.expectedSubs (s : State) (b : Nat) : List Nat :=
  (s.baySubs b).filter (fun i =>
    let st := s.rd SVI_SUBs_STATE.STATE i
    (st == 1 || st == 2 || st == 3) && (!bayNsPolicy (s.bayE b) || !s.on SVI_SUBs_STATE.NOT_SYNC i))

/-- A row whose instant the GTC has reached: what is fixed at that tick (R176, R177, R184). -/
def State.reachRow (s : State) (b : Nat) (r : Row) : Row :=
  if r.reached then r else
  let e := s.bayE b
  let inst := rowInst (bayRowHz e) r.n
  let g := grainOfRow (s.bay b) r.n
  let off := s.gstate g == 0
  { r with reached := true, inst := inst, tick := (s.tickAt inst).toNat, steps := s.rd TIM_STATUS.STEPS
           angle := if off then 0 else s.angleAt g inst, cycle := if off then 0 else s.cycleAt g inst
           fe := s.rd TIM_GRAINn_FREQ.HZ g, locked := s.gstate g == 2, gOff := off
           expected := s.expectedSubs b, hold := 1000 * s.holdUs e }

/-- What the phasor engine needs of a row. -/
def State.pheIn (s : State) (b : Nat) (r : Row) (final : Bool) : PheIn :=
  let e := s.bayE b
  let f0 : Rat := (s.rd TIM_GRAINn_CTRL.NOMINAL_MHZ (grainOfRow (s.bay b) r.n) : Rat) / 1000
  { n := r.n, inst := r.inst, rate := bayRowHz e, f0 := f0, fe := if r.gOff then f0 else f32Val r.fe, angle := r.angle
    locked := r.locked, gOff := r.gOff, steps := r.steps, cycle := r.cycle, final := final }

/-- A cell marked missing (R178). -/
def missCell : Nat := mkCell 0 1 3 0

/-- The fill mode of a cell as a provenance: 1 hold, 2 predict, 3 missing (R169, R178). -/
def fillMode (e i : Nat) : Nat :=
  match bayCellFill e i with
  | 1 => 3
  | 2 => 1
  | 3 => 2
  | _ => if bayFill e = 0 then 3 else bayFill e

/-- A cell's count of consecutive filled rows once the limit has been told: above every FILL_MAX. -/
def fillTold : Nat := 2 ^ 16

/-- Set the count of consecutive filled rows of cell `i`. -/
def State.setFillRun (s : State) (b i v : Nat) : State :=
  let x := s.bay b
  s.setBay b { x with fillRun := tabSet x.fillRun i v }

/-- The engine's prediction of cell `i` of row `n`: of the lowest channel that is set to predict the cell (R208). -/
def State.predictCell (s : State) (b i n : Nat) : State × Option Rat :=
  match (s.validChans.filter (fun c => chBay (s.chE c) == b && chCell (s.chE c) == i && chPredEn (s.chE c))) with
  | c :: _ => s.askPrediction c (sampleTime (bayRowHz (s.bayE b)) n)
  | [] => (s.count PHE_cnt_LO.COUNT 7, none)

/-- A predicted value as INT32: to nearest and saturated. -/
def satI32 (q : Rat) : Int :=
  let a : Int := if q < 0 then - (roundEven (-q) : Int) else (roundEven q : Int)
  max (- (2 ^ 31 : Nat)) (min a ((2 ^ 31 : Nat) - 1))

/-- Hold of cell `i` (R178, R179): the last received cell, or missing when none counts. -/
def State.holdCell (s : State) (b i j : Nat) : State × Nat :=
  let x := s.bay b
  let l := tabGet x.last i
  if l.2 = 0 || l.2 - 1 < (tabGet s.svi.subs j).acqTick then (s.setFillRun b i 0, missCell)
  else (s.setFillRun b i (tabGet x.fillRun i + 1), mkCell (bitsOf l.1 0 32) (cellQual l.1 / 4 * 4 + 3 + (if bitOf (cellQual l.1) 7 then 0 else 128)) 1 0)

/-- ROW_FILL (R178, R179): the cell for an unplaced cell `i` of row `n`; `sub` covers it. -/
def State.fillCell (s : State) (b n i : Nat) (sub : Option Nat) : State × Nat :=
  match sub with
  | none => (s, missCell)
  | some j =>
    let e := s.bayE b
    let m := fillMode e i
    let run := tabGet (s.bay b).fillRun i
    if m = 3 then (if run = fillTold then s else s.setFillRun b i 0, missCell)
    else if bayFillMax e ≤ run then
      (if run = fillTold then s else (s.raise 230 [i8 b, i8 i]).setFillRun b i fillTold, missCell)
    else if m = 2 then
      match s.predictCell b i n with
      | (s, some q) =>
        let w := cellQual (tabGet (s.bay b).last i).1
        (s.setFillRun b i (run + 1), mkCell (unsgn 32 (satI32 q)) (w / 4 * 4 + 3 + (if bitOf w 13 then 0 else 2 ^ 13)) 2 0)
      | (s, none) => (s.raise 232 [i8 b, i8 i]).holdCell b i j
    else s.holdCell b i j

/-- The subscription that covers a cell. -/
def State.coverOf (s : State) (subs : List Nat) (i : Nat) : Option Nat :=
  subs.find? (fun j => let v := s.subE j; decide (subCol v ≤ i) && decide (i < subCol v + subChannels v))

/-- Settle the cells of row `r` from cell `i` on: placed ones become the last received, others are filled. An expected cell that is missing
is counted. -/
def State.settleCells (s : State) (b : Nat) (subs : List Nat) (r : Row) : Nat → Nat → State × List Nat
  | 0, _ => (s, [])
  | k + 1, i =>
    let sub := s.coverOf subs i
    let w := tabGet r.cells i
    if w.2 != 0 then
      let x := s.bay b
      let s := s.setBay b { x with last := tabSet x.last i w, fillRun := tabSet x.fillRun i 0 }
      let t := s.settleCells b subs r k (i + 1)
      (t.1, w.1 :: t.2)
    else
      let f := s.fillCell b r.n i sub
      let s := f.1
      let s := if cellProv f.2 = 1 then s.bump ALN_BAYb_FILL.HELD b else if cellProv f.2 = 2 then s.bump ALN_BAYb_FILL.PREDICTED b
        else if (match s.coverOf (s.baySubs b) i with | some j => r.expected.contains j | none => false) then s.bump ALN_BAYb_MISS.MISSING b else s
      let t := s.settleCells b subs r k (i + 1)
      (t.1, f.2 :: t.2)

/-- Is every expected cell of a row placed? -/
def Row.complete (r : Row) : Bool := r.expected.all (fun j => r.placed.any (fun q => q.1 == j))

/-- The row header of R184. -/
def rowHeader (r : Row) (cells : List Nat) (early discont : Bool) (sealNs : Nat) : List Byte :=
  let cnt := fun (p : Nat → Bool) => (cells.filter (fun c => p (cellProv c))).length
  [r.n, timeQ1 r.inst, timeQ2 r.inst + r.steps % 2 ^ 16 * 2 ^ 16 + r.angle * 2 ^ 32,
   r.cycle + cnt (fun p => p == 0) * 2 ^ 32 + cnt (fun p => p == 1 || p == 2) * 2 ^ 40 + cnt (fun p => p == 3) * 2 ^ 48 +
     2 ^ 56 + b2n early * 2 ^ 57 + b2n discont * 2 ^ 58,
   min sealNs 0xFFFFFFFF, 0, 0, 0].flatMap (leBytes 8)

/-- Seal the lowest unsealed row of bay `b` (R177 to R180). `forced` when no condition of R177 holds: an overrun, or a stop of the
bay. -/
def State.sealRow (s : State) (b : Nat) (forced : Bool) : State :=
  let x := s.bay b
  let r := s.reachRow b (rowOf x x.next)
  let e := s.bayE b
  let early := !forced && r.complete
  let discont := x.fresh
  let g := s.settleCells b (s.fitSubs b) r (bayWidth e) 0
  let s := g.1
  let cells := g.2
  let delay := s.tim.gtc - r.inst
  let header := rowHeader r cells early discont delay
  let stride := rowStride (bayWidth e)
  let body := cells.flatMap (leBytes 8) ++ List.replicate (stride - 8 * bayWidth e) 0#8
  let s := s.rtWrite (s.rowAddr b r.n) (header ++ body)
  let y := s.bay b
  let s := s.setBay b { y with next := r.n + 1, due := max y.due (r.n + 1), fresh := false, rows := y.rows.filter (fun q => q.n != r.n) }
  let s := (s.wr ALN_BAYb_SEALED_LO.N r.n b).wr ALN_BAYb_SEALED_HI.N (r.n / 2 ^ 32) b
  let s := ((s.showBay b).count ALN_cnt_LO.COUNT 2).cal 385
  let s := if early then (s.count ALN_cnt_LO.COUNT 3).cal 386 else s
  let s := s.wr ALN_BAYb_SEAL_MAX.US (max (s.rd ALN_BAYb_SEAL_MAX.US b) (min 0xFFFF (delay / 1000))) b
  let s := if bayPhe e then
    s.pheRow b (s.pheIn b r true) (fun i => cells.getD i missCell) else s
  let s := if bayRecEn e then s.recRow b r discont (fun i => cells.getD i missCell) else s
  let s := if bayMirror e then s.mirrorRow b r.n header body else s
  s.pumpFrames b

/-- Seal rows in order while the lowest one meets a condition of R177. -/
def State.sealReady : Nat → State → Nat → State
  | 0, s, _ => s
  | fuel + 1, s, b =>
    let x := s.bay b
    if x.due ≤ x.next then s else
    let r := rowOf x x.next
    if r.complete || r.inst + r.hold ≤ s.tim.gtc then (s.sealRow b false).sealReady fuel b else s

/-- Seal what is ready in bay `b`. -/
def State.sealAll (s : State) (b : Nat) : State := let x := s.bay b; s.sealReady (x.due - x.next) b

/-- A row takes its slot (R183). A row still in the slot, unsealed or of an undelivered frame, is an overrun (R191). -/
def State.openRow (s : State) (b n : Nat) : State :=
  let x := s.bay b
  if x.rows.any (fun r => r.n == n) then s else
  let size := 2 ^ bayLog2 (s.bayE b)
  let kept := match x.cuts with | c :: _ => c.first | [] => x.first
  let s := if n < size || n - size < min kept x.next then s else
    let s := (s.count ALN_cnt_LO.COUNT 12).raise 233 [i8 b, i64 (n - size)]
    forEach (List.range (n - size + 1 - x.next)) (fun _ s => s.sealRow b true) s
  let s := s.setBay b (putRow (s.bay b) { n := n })
  s.rtWrite (s.rowAddr b n) (leBytes 8 n ++ List.replicate (56 + rowStride (bayWidth (s.bayE b))) 0#8)

/-- The GTC has reached the instant of the lowest row not yet reached: its expected set and hold time are fixed, and the frame that
it fills to MAX_ROWS ends (R176, R185). -/
def State.reachDue (s : State) (b : Nat) : State :=
  let n := (s.bay b).due
  let s := s.openRow b n
  let x := s.bay b
  if n < x.due then s else
  let r := s.reachRow b (rowOf x n)
  let s := (s.setBay b { putRow x r with due := n + 1 }).showBay b
  let y := s.bay b
  if y.cfg.maxRows ≤ n + 1 - y.first then s.cutFrame b n 1 0 r.inst else s

/-- ROW_INSTANT (R176): the GTC reaches the next row's instant; a row with no expected cells seals. -/
def execRowInstant (b : Nat) (s : State) : Host.Outcome State Fault Refusal :=
  if 128 ≤ b || !s.bayRuns b then ok s else
  let s := s.advanceTo (s.tickOfGtc (rowInst (bayRowHz (s.bayE b)) (s.bay b).due))
  ok ((s.reachDue b).sealAll b)

/-- ROW_HOLD_EXPIRE (R177): the GTC reaches I + HOLD of the lowest unsealed row, which seals. -/
def execRowHoldExpire (b : Nat) (s : State) : Host.Outcome State Fault Refusal :=
  let x := s.bay b
  if 128 ≤ b || !s.bayRuns b || x.due ≤ x.next then ok s else
  let r := rowOf x x.next
  let s := s.advanceTo (s.tickOfGtc (r.inst + r.hold))
  ok ((s.sealRow b false).sealAll b)

/-! ## Placement (R171 to R175, R181) -/

/-- The sample number of a record (R171): the largest q × W + c no later than `g`; none where it would be negative. -/
def sampleNumber (rate wrap c g : Nat) : Option Nat :=
  let m := lastSample rate g
  let d := (m + wrap - c % wrap) % wrap
  if m < d then none else some (m - d)

/-- The lateness field (R173). -/
def lateness (rate n stamp : Nat) : Nat := min 255 ((stamp * rate - n * nsPerSec) / (8000 * rate))

/-- Put a cell's provenance and lateness. -/
def cellLate (c prov late : Nat) : Nat := mkCell (bitsOf c 0 32) (cellQual c) prov late

/-- A placed cell `i` of row `r` goes to the phasor engine (R175, R195). -/
def State.handCell (s : State) (b : Nat) (r : Row) (i cell stamp : Nat) : State :=
  forEach (s.validChans.filter (fun c => chBay (s.chE c) == b && chCell (s.chE c) == i && s.chActive c)) (fun c s =>
    let s := if (s.pch c).running then s else s.chRestart c (s.nextRow c)
    (s.histPut c r.n cell).phePlace c (s.pheIn b (s.reachRow b r) false) stamp) s

/-- Place the cells of a record in row `n` (R174, R175). -/
def State.placeCells (s : State) (b n : Nat) (x : SvRec) : State :=
  let v := s.subE x.sub
  let e := s.bayE b
  let s := s.openRow b n
  let y := s.bay b
  let late := lateness (bayRowHz e) n x.stamp
  let cells := x.cells.map (fun c => cellLate c 0 late)
  let r := rowOf y n
  let put := (cells.zip (List.range cells.length)).foldl (fun t p => tabSet t (subCol v + p.2) (p.1, s.tick + 1)) r.cells
  let r : Row := { r with placed := (x.sub, s.tick) :: r.placed, cells := put }
  let s := s.setBay b (putRow y r)
  let s := s.rtWrite (s.rowAddr b n + 64 + 8 * subCol v) (cells.flatMap (leBytes 8))
  let s := (s.count ALN_cnt_LO.COUNT 1 0 cells.length).cal 384 cells.length
  let s := if bayPhe e then
    (forEach (cells.zip (List.range cells.length)) (fun p s => s.handCell b r (subCol v + p.2) p.1 x.stamp) s).handleTerms else s
  s.sealAll b

/-- A sample discarded as STALE_LATE (R174). -/
def State.staleLate (s : State) (b sub : Nat) : State :=
  ((s.count ALN_cnt_LO.COUNT 7).bump ALN_BAYb_LATE.STALE_LATE b).raise 226 [i8 b, i16 sub]

/-- The rows of R174 for a record of sample number `n`. -/
def State.placeAt (s : State) (b n : Nat) (x : SvRec) : State :=
  let e := s.bayE b
  let y := s.bay b
  if n < y.n0 then s.staleLate b x.sub
  else if n < y.next then
    if (s.tim.gtc - 1000 * bayLateMax e) * bayRowHz e ≤ n * nsPerSec then
      let s := ((s.count ALN_cnt_LO.COUNT 6).bump ALN_BAYb_LATE.LATE b).raise 225 [i8 b, i16 x.sub, i64 n]
      let s := s.setBay b { y with lates := y.lates ++ (if (match y.cuts with | c :: _ => c.first | [] => y.first) ≤ n then [n] else []) }
      let late := lateness (bayRowHz e) n x.stamp
      s.recLate b n (rowInst (bayRowHz e) n) x (x.cells.map (fun c => cellLate c 4 late))
    else s.staleLate b x.sub
  else if (rowOf y n).placed.any (fun q => q.1 == x.sub) then
    ((s.count ALN_cnt_LO.COUNT 8).bump ALN_BAYb_MISS.COLLIDE b).raise 227 [i8 b, i8 (subCol (s.subE x.sub))]
  else s.placeCells b n x

/-- SAMPLE_RECORD_PLACE (R174): the oldest record on its way from the ingest unit reaches the fabric. -/
def execSampleRecordPlace (s : State) : Host.Outcome State Fault Refusal :=
  match s.svi.recs with
  | [] => ok s
  | x :: rest =>
    let s := State.count { s with svi := { s.svi with recs := rest } } ALN_cnt_LO.COUNT 0
    let v := s.subE x.sub
    let b := subBay v
    let e := s.bayE b
    let bad := misfit v e
    if !s.bayRuns b || bad then
      let s := (s.count ALN_cnt_LO.COUNT 9).bump ALN_BAYb_DROP.MISFIT b
      ok (if bad && s.bayRuns b then s.raise 228 [i8 b, i16 x.sub] else s)
    else if x.steps != s.rd TIM_STATUS.STEPS then
      ok (((s.count ALN_cnt_LO.COUNT 10).bump ALN_BAYb_DROP.STEP_DISCARD b).raise 226 [i8 b, i16 x.sub])
    else if bayNsPolicy e && x.cells.any (fun c => bitOf (cellQual c) 14) then ok (s.count ALN_cnt_LO.COUNT 11)
    else
      match sampleNumber (subRate v) (subWrap v) x.smpCnt (x.stamp + 1000 * bayAdvUs e) with
      | none => ok (s.staleLate b x.sub)
      | some n => ok (s.placeAt b n x)

/-! ## Starts, stops and steps (R188, R190) -/

/-- The number of Running bays. -/
def State.showRunning (s : State) : State := s.wr ALN_STATUS.RUNNING ((List.range 128).filter s.bayRuns).length

/-- Bay `b` starts at the present tick with a new N0 (R185). -/
def State.beginBay (s : State) (b : Nat) : State :=
  let n := firstSample (bayRowHz (s.bayE b)) s.tim.gtc
  let s := s.setBay b { n0 := n, next := n, due := n, first := n, cfg := s.frameCfg b }
  (((s.wr ALN_BAYb_STATE.RUNNING 1 b).showBay b).showRunning).bayRestartPhe b n

/-- Off to Running (R188). The CLOSE item of its record has no stated value. -/
def State.startBay (s : State) (b : Nat) : State :=
  let s := s.beginBay b
  s.draw.raise 224 [i8 b, i8 0, i8 1, i8 (Config.freeNat s.free % 256)]

/-- Rows whose instants the GTC has reached, when they have not been seen yet. -/
def State.catchUp (s : State) (b : Nat) : State :=
  let x := s.bay b
  let hi := lastSample (bayRowHz (s.bayE b)) s.tim.gtc
  forEach (List.range (hi + 1 - x.due)) (fun _ s => s.reachDue b) s

/-- Seal every reached row of a bay and close its frame with CLOSE `c`; rows above are not created (R188). -/
def State.endBay (s : State) (b c : Nat) : State :=
  let s := s.catchUp b
  let x := s.bay b
  let s := forEach (List.range (x.due - x.next)) (fun _ s => s.sealRow b true) s
  let s := if (s.bay b).next = 0 then s else s.cutFrame b ((s.bay b).next - 1) c 0 s.tim.gtc
  let s := s.pumpFrames b
  s.setBay b { s.bay b with rows := [], cuts := [] }

/-- Running to Off (R188). -/
def State.stopBay (s : State) (b : Nat) : State :=
  let s := s.endBay b 4
  let s := ((s.wr ALN_BAYb_STATE.RUNNING 0 b).wr ALN_BAYb_STATE.OPEN 0 b).showRunning
  (s.setBay b {}).raise 224 [i8 b, i8 1, i8 0, i8 4]

/-- The GTC steps (R190): before the step every Running bay seals and closes. -/
def State.baysBeforeStep (s : State) : State :=
  forEach ((List.range 128).filter s.bayRuns) (fun b s => s.endBay b 3) s

/-- After the step every Running bay takes a new N0 from the new GTC value. -/
def State.baysAfterStep (s : State) : State :=
  forEach ((List.range 128).filter s.bayRuns) (fun b s =>
    let s := (s.beginBay b).raise 224 [i8 b, i8 1, i8 1, i8 3]
    s.raise 231 [i8 b, i64 (s.bay b).n0]) s

end Sys2Proof.Machine
end

