-- ==== Sys2Proof/Machine/Drives.lean ====
section
/-!
DEFINITION. The storage block below the host commands (chapter 14): MRAM writes, namespaces, the queue of drive commands, mirror
states, and the journal.
-/
namespace Sys2Proof.Machine

/-! ## MRAM writes (R406, R407) -/

/-- A refused write of MRAM leaves MRAM unchanged; it is counted and raises source 460 with its offset and its cause, whose code the
spec does not give. -/
def State.mramRefused (s : State) (a : Nat) : State :=
  (s.count MEM_cnt_LO.COUNT 7).draw.raise 460 [i32 a, i8 (Config.freeNat s.free)]

/-- A block stores bytes in its MRAM region, or is refused. -/
def State.mramStore (s : State) (a : Nat) (b : List Byte) : State :=
  if s.on PWR_STATUS.NV_REFUSED then forEach (List.range ((b.length + 7) / 8)) (fun i s => s.mramRefused (a + 8 * i)) s
  else s.mramWrite a b

/-- A write of the storage block, which waits while writes are refused (R310). -/
def State.stgStore (s : State) (a : Nat) (b : List Byte) : State :=
  if s.on PWR_STATUS.NV_REFUSED then { s with stg := { s.stg with nvWait := s.stg.nvWait ++ [(a, b)] } } else s.mramWrite a b

/-! ## Accessors -/

def State.ds (s : State) (d : Nat) : DsSt := tabGet s.stg.slots d
def State.setDs (s : State) (d : Nat) (x : DsSt) : State := { s with stg := { s.stg with slots := tabSet s.stg.slots d x } }
def State.nss (s : State) (n : Nat) : NsSt := tabGet s.stg.nss n
def State.setNss (s : State) (n : Nat) (x : NsSt) : State := { s with stg := { s.stg with nss := tabSet s.stg.nss n x } }
def State.ctl (s : State) (f : Nat) : CtlSt := tabGet s.stg.ctls f
def State.setCtl (s : State) (f : Nat) (x : CtlSt) : State := { s with stg := { s.stg with ctls := tabSet s.stg.ctls f x } }
def State.ent (s : State) (e : Nat) : JEnt := tabGet s.stg.ents e
def State.setEnt (s : State) (e : Nat) (x : JEnt) : State := { s with stg := { s.stg with ents := tabSet s.stg.ents e x } }

def State.hostCmd (s : State) (h : Nat) : Option HostCmd := s.stg.cmds.find? (fun c => c.id == h)
def State.updHost (s : State) (h : Nat) (g : HostCmd → HostCmd) : State :=
  { s with stg := { s.stg with cmds := s.stg.cmds.map (fun c => if c.id == h then g c else c) } }

/-! ## Namespaces (R304, R306, R307) -/

/-- Is drive `d` Up, in Up or Attention? -/
def State.drvUp (s : State) (d : Nat) : Bool := s.rd STG_DSn_STATUS.SSTATE d == 4 || s.rd STG_DSn_STATUS.SSTATE d == 5

def State.nsValid (s : State) (n : Nat) : Bool := n < 64 && s.on STG_NSs_CFG.VALID n
def State.nsMirrored (s : State) (n : Nat) : Bool :=
  s.rd STG_NSs_CFG.KIND n == 1 || (s.rd STG_NSs_CFG.KIND n == 2 && s.on STG_NSs_CFG.DRIVE_B_EN n)
/-- The sides of a namespace: 0 is DRIVE_A, 1 DRIVE_B. -/
def State.nsSides (s : State) (n : Nat) : List Nat := if s.nsMirrored n then [0, 1] else [0]
def State.nsDrive (s : State) (n i : Nat) : Nat := if i = 0 then s.rd STG_NSs_CFG.DRIVE_A n else s.rd STG_NSs_CFG.DRIVE_B n
def State.nsBase (s : State) (n : Nat) : Nat := s.rd64 STG_NSs_BASE_LO.BLOCKS n
def State.nsSize (s : State) (n : Nat) : Nat := s.rd64 STG_NSs_SIZE_LO.BLOCKS n
def State.nsSyncBit (s : State) (n i : Nat) : Bool := if i = 0 then s.on STG_NSs_STATE.SYNC_A n else s.on STG_NSs_STATE.SYNC_B n
/-- A side holds the namespace's data: the one member, or a mirror member in sync. -/
def State.nsSync (s : State) (n i : Nat) : Bool := !s.nsMirrored n || s.nsSyncBit n i
def State.nsReady (s : State) (n i : Nat) : Bool := s.nsSync n i && s.drvUp (s.nsDrive n i)
def State.nsOnlineBit (s : State) (n : Nat) : Bool := s.on STG_NSs_STATE.ONLINE n

/-- The journal entries of namespace slot `n` that hold a committed write. -/
def State.nsEnts (s : State) (n : Nat) : List (Nat × JEnt) := s.stg.ents.filter (fun p => p.2.s == n && decide (2 ≤ p.2.st))

/-- Is a namespace Online (R306, R309, R320)? -/
def State.nsOnline (s : State) (n : Nat) : Bool :=
  s.nsValid n && !(s.nss n).failed && !(s.nss n).draining && (s.nsSides n).any (s.nsReady n) &&
  !(s.nsEnts n).any (fun p => p.2.replay != 0)

/-- Publish ONLINE; a change raises source 340. -/
def State.updOnline (s : State) (n : Nat) : State :=
  let v := s.nsOnline n
  if v == s.nsOnlineBit n then s else (s.wr STG_NSs_STATE.ONLINE (b2n v) n).raise 340 [i8 (n + 1), i8 (b2n v)]

/-- Set the mirror state; a change raises source 341. -/
def State.setMirror (s : State) (n v : Nat) : State :=
  let old := s.rd STG_NSs_STATE.MIRROR n
  if old = v then s else (s.wr STG_NSs_STATE.MIRROR v n).raise 341 [i8 (n + 1), i8 old, i8 v]

/-- MRAM offset of the sync marks of a slot: bits 0 and 1 mark the members that are out of sync. -/
def markAddr (n : Nat) : Nat := 0x141000 + 8 * n

/-- Set a sync bit, and store the marks. -/
def State.setSync (s : State) (n i : Nat) (v : Bool) : State :=
  let s := if i = 0 then s.wr STG_NSs_STATE.SYNC_A (b2n v) n else s.wr STG_NSs_STATE.SYNC_B (b2n v) n
  s.stgStore (markAddr n) (leBytes 8 (b2n (!s.nsSyncBit n 0) + 2 * b2n (!s.nsSyncBit n 1)))

/-- A rebuild of slot `n` stops; the results of its commands under way are discarded. -/
def State.stopRebuild (s : State) (n : Nat) : State :=
  let mine := fun (c : DrvCmd) => c.why == .rebuildRead n || c.why == .rebuildWrite n
  let s := s.setNss n { s.nss n with rebuilding := false, chunk := false, redo := false }
  { s with stg := { s.stg with
      drives := s.stg.drives.map (fun (c : DrvCmd) => if mine c then { c with why := .power } else c)
      wait := s.stg.wait.filter (fun c => !mine c) } }

/-- A rebuild of a Degraded mirror starts when both members are Up (R307). -/
def State.startRebuild (s : State) (n : Nat) : State :=
  if s.nsMirrored n && s.rd STG_NSs_STATE.MIRROR n == 1 && !(s.nss n).failed && [0, 1].all (fun i => s.drvUp (s.nsDrive n i)) then
    let s := s.setNss n { s.nss n with rebuilding := true, point := 0, chunk := false, redo := false }
    (s.wr STG_NSs_REBUILD.MIB 0 n).setMirror n 2
  else s

/-- What a Degraded mirror does when its out-of-sync member is Up (R307): in sync again when no write has reached it since it
left, else a rebuild under AUTO_REBUILD. -/
def State.mirrorNext (s : State) (n : Nat) : State :=
  if !s.nsMirrored n || s.rd STG_NSs_STATE.MIRROR n != 1 then s else
  match [0, 1].find? (fun i => !s.nsSyncBit n i) with
  | none => s
  | some i =>
    if !s.drvUp (s.nsDrive n i) then s
    else if (s.nss n).left && !(s.nss n).dirty then (s.setSync n i true).setMirror n 0
    else if s.on STG_NSs_CFG.AUTO_REBUILD n then s.startRebuild n
    else s

/-- A member of a mirror fails a command, or leaves (R307). -/
def State.dropSide (s : State) (n i : Nat) (left : Bool) : State :=
  if !s.nsMirrored n then s else
  let j := 1 - i
  let s :=
    if !s.nsSyncBit n i then
      let x := s.nss n
      let s := s.setNss n { x with left := x.left || left }
      if x.rebuilding then (s.stopRebuild n).setMirror n 1 else s
    else if s.nsSyncBit n j then
      (s.setNss n { s.nss n with dirty := false, left := left, failed := false }).setSync n i false |>.setMirror n 1
    else
      let x := s.nss n
      let s := s.setNss n { x with failed := x.failed || !left }
      if x.rebuilding then (s.stopRebuild n).setMirror n 1 else s
  (if left then s else s.mirrorNext n).updOnline n

/-! ## The queue of drive commands (R314, R315, R316) -/

/-- Does a command serve host commands? -/
def DrvWhy.isHost : DrvWhy → Bool
  | .host _ _ => true
  | .shadow _ => true
  | .home _ => true
  | .replay _ => true
  | _ => false

/-- The order of R314 among drive commands: urgent, weighted, exports, rebuild copies, self-test. -/
def DrvCmd.cls (c : DrvCmd) : Nat :=
  match c.why with
  | .host _ _ => if c.prio = 0 then 0 else 1
  | .shadow _ => if c.prio = 0 then 0 else 1
  | .home _ => 1
  | .replay _ => 1
  | .exports => 2
  | .rebuildRead _ => 3
  | .rebuildWrite _ => 3
  | .test => 4
  | .shutdown => 0
  | .power => 0

/-- A new drive command joins the commands that are not issued yet. -/
def State.submit (s : State) (c : DrvCmd) : State :=
  { s with stg := { s.stg with wait := s.stg.wait ++ [{ c with id := s.stg.nextId }], nextId := s.stg.nextId + 1 } }

/-- Is a host command outstanding or waiting on drive `d`? -/
def State.hostBusy (s : State) (d : Nat) : Bool :=
  s.stg.drives.any (fun c => c.d == d && c.why.isHost) || s.stg.wait.any (fun c => c.d == d && c.why.isHost)

/-- Commands outstanding or waiting on drive `d`. -/
def State.drvLoad (s : State) (d : Nat) : Nat :=
  (s.stg.drives.filter (fun c => c.d == d)).length + (s.stg.wait.filter (fun c => c.d == d)).length

/-- May a waiting command be issued: its drive is Up and takes commands, and PS1's limit of 4 for each drive holds (R315)? -/
def State.canIssue (s : State) (c : DrvCmd) : Bool :=
  s.drvUp c.d && (s.ds c.d).removing == 0 &&
  !(c.why.isHost && (s.ctl c.f).ps == 1 && decide (4 ≤ (s.stg.drives.filter (fun x => x.d == c.d && x.f == c.f && x.why.isHost)).length))

/-- The credit of a weighted class. -/
def CtlSt.creditOf (x : CtlSt) (p : Nat) : Nat := if p = 1 then x.credit.1 else if p = 2 then x.credit.2.1 else x.credit.2.2

/-- One credit of a weighted class is used. -/
def CtlSt.useCredit (x : CtlSt) (p : Nat) : CtlSt :=
  if p = 1 then { x with credit := (x.credit.1 - 1, x.credit.2) }
  else if p = 2 then { x with credit := (x.credit.1, x.credit.2.1 - 1, x.credit.2.2) }
  else { x with credit := (x.credit.1, x.credit.2.1, x.credit.2.2 - 1) }

/-- A new round: the weights of Set Features Arbitration, which are 0's based. -/
def CtlSt.newRound (x : CtlSt) : CtlSt :=
  let v := cellGet (fun _ => 0) x.features 1
  { x with credit := (bitsOf v 24 8 + 1, bitsOf v 16 8 + 1, bitsOf v 8 8 + 1) }

/-- Does a drive command belong to a queue of a controller, and so to its turns (R314)? -/
def DrvWhy.queued : DrvWhy → Bool
  | .host _ _ => true
  | .shadow _ => true
  | _ => false

/-- The controllers, ascending, that have a queued command of class `k` among the commands `l`. -/
def turnsOf (l : List DrvCmd) (k : Nat) : List Nat := (List.range 256).filter (fun f => l.any (fun c => c.cls == k && c.why.queued && c.f == f))

/-- The controller whose turn it is in class `k`: the one in turn while its burst lasts, else the next one that has bursts left in the
round, or in a new round the next one. -/
def State.inTurn (s : State) (k : Nat) (fs : List Nat) : Option Nat :=
  let t := tabGet s.stg.turns k
  if t.2 != 0 && fs.any (fun f => f + 1 == t.1) then some (t.1 - 1) else
  let rich := fs.filter (fun f => tabGet s.stg.shares (256 * k + f) != 0)
  let l := if rich.isEmpty then fs else rich
  match l.find? (fun f => decide (t.1 ≤ f)) with | some f => some f | none => l.head?

/-- The Arbitration Burst of controller `f`: 2^AB commands, without limit at AB 7. -/
def State.arbBurst (s : State) (f : Nat) : Nat :=
  let ab := cellGet (fun _ => 0) (s.ctl f).features 1 % 8
  if ab = 7 then 2 ^ 32 else 2 ^ ab

/-- Controller `f` is in turn in class `k`, with `left` commands of its burst to come. -/
def State.setTurn (s : State) (k f left : Nat) : State := { s with stg := { s.stg with turns := tabSet s.stg.turns k (f + 1, left) } }

/-- Controller `f` of `fs` uses one command of its turn in class `k` (R314): a new burst takes one of its CTRL_WEIGHT bursts of the
round, and where it had none left a new round begins for all. -/
def State.takeTurn (s : State) (k f : Nat) (fs : List Nat) : State :=
  let t := tabGet s.stg.turns k
  if t.2 != 0 && t.1 == f + 1 then s.setTurn k f (t.2 - 1) else
  let shares := if tabGet s.stg.shares (256 * k + f) != 0 then s.stg.shares
    else fs.foldl (fun m g => tabSet m (256 * k + g) (s.rd STG_CTRLf_WEIGHT.CTRL_WEIGHT g)) s.stg.shares
  let s := { s with stg := { s.stg with shares := tabSet shares (256 * k + f) (tabGet shares (256 * k + f) - 1) } }
  s.setTurn k f (s.arbBurst f - 1)

/-- The waiting command that is issued next (R314): an export whose drive has had 15 others since its last one, then by class; of a
class of queues that of the controller in turn, and of its weighted classes one that has credit in the round, where one has. -/
def State.nextIssue (s : State) : Option DrvCmd :=
  let l := s.stg.wait.filter s.canIssue
  let queued := fun (k : Nat) =>
    match s.inTurn k (turnsOf l k) with
    | none => none
    | some f =>
      let mine := l.filter (fun c => c.cls == k && c.why.queued && c.f == f)
      match mine.find? (fun c => k == 0 || !(s.ctl f).wrr || (s.ctl f).creditOf c.prio != 0) with
      | some c => some c
      | none => mine.head?
  match l.find? (fun c => c.why == .exports && decide (15 ≤ (s.ds c.d).since)) with
  | some c => some c
  | none =>
    [0, 1, 2, 3, 4].findSome? (fun k =>
      match l.find? (fun c => c.cls == k && !c.why.queued) with
      | some c => some c
      | none => queued k)

/-- What the choice of `c` uses up: its controller's turn and credit, and the count of commands since an export (R314). -/
def State.noteIssue (s : State) (c : DrvCmd) : State :=
  let l := s.stg.wait.filter s.canIssue
  let x := s.ctl c.f
  let s := if c.why.queued then s.takeTurn c.cls c.f (turnsOf l c.cls) else s
  let s := if c.cls = 1 && x.wrr && c.why.queued then
    s.setCtl c.f ((if x.creditOf c.prio = 0 then x.newRound else x).useCredit c.prio) else s
  let owes := l.any (fun y => y.why == .exports && y.d == c.d)
  s.setDs c.d { s.ds c.d with since := if c.why == .exports || !owes then 0 else (s.ds c.d).since + 1 }

/-- Issue a command (R316). -/
def State.issue (s : State) (c : DrvCmd) : State :=
  let s := s.noteIssue c
  let s := { s with stg := { s.stg with
    wait := s.stg.wait.filter (fun y => y.id != c.id), drives := s.stg.drives ++ [{ c with issue := s.tick }] } }
  (s.out (.drive c.d c.id c.op c.lba c.n c.fua c.bytes)).cal 625

/-- Issue every waiting command that may be. -/
def State.issueAll (s : State) : Nat → State
  | 0 => s
  | k + 1 => match s.nextIssue with | none => s | some c => (s.issue c).issueAll k

/-! ## Writes to namespaces -/

/-- The sides that a write of `n` blocks at `lba` goes to, with how many of its blocks (R307): members in sync take all, and the
rebuilding member what lies below the copy point. -/
def State.writeTargets (s : State) (sl lba n : Nat) : List (Nat × Nat) :=
  (s.nsSides sl).filterMap (fun i =>
    if !s.drvUp (s.nsDrive sl i) then none
    else if s.nsSync sl i then some (i, n)
    else if (s.nss sl).rebuilding && lba < (s.nss sl).point then some (i, min n ((s.nss sl).point - lba))
    else none)

/-- A write reaches the namespace: members in sync that are absent are dropped, a Degraded mirror is dirty, and a chunk under way
that it touches is copied again. -/
def State.noteWrite (s : State) (sl lba n : Nat) : State :=
  if !s.nsMirrored sl then s else
  let s := forEach [0, 1] (fun i s => if s.nsSyncBit sl i && s.nsReady sl (1 - i) && !s.drvUp (s.nsDrive sl i) then s.dropSide sl i true else s) s
  let x := s.nss sl
  let touch := x.chunk && decide (x.point < lba + n) && decide (lba < x.point + 256)
  if s.rd STG_NSs_STATE.MIRROR sl = 0 then s else s.setNss sl { x with dirty := true, redo := x.redo || touch }

/-! ## The journal (R308, R309) -/

/-- MRAM offset of an entry. -/
def entAddr (e : Nat) : Nat := 0x100000 + 64 * e

/-- The body of entry `e` (R308): namespace, members, length, block, shadow location; its layout is the model's. -/
def JEnt.body (x : JEnt) (e : Nat) : List Byte :=
  leBytes 1 x.s ++ leBytes 1 ((x.members.map (fun i => 2 ^ i)).sum) ++ leBytes 2 x.n ++ leBytes 4 0 ++ leBytes 8 x.lba ++
  leBytes 8 (16 * e) ++ leBytes 32 0

/-- Does MRAM hold every committed entry of slot `sl` as it was written (R312)? -/
def State.entsSound (s : State) (sl : Nat) : Bool :=
  (s.nsEnts sl).all (fun p => s.mramRead (entAddr p.1) 64 == p.2.body p.1 ++ leBytes 8 p.2.seq)

/-- First shadow block of entry `e` on drive `d`. -/
def State.shadowLba (s : State) (d e : Nat) : Nat := s.rd STG_DSn_SHADOW.START d + 16 * e

/-- Do two block ranges share a block? -/
def rangesMeet (a n b m : Nat) : Bool := decide (a < b + m) && decide (b < a + n)

/-- The youngest committed entry of a slot that covers a block. -/
def State.coverEnt (s : State) (sl b : Nat) : Option (Nat × JEnt) :=
  ((s.nsEnts sl).filter (fun p => decide (p.2.lba ≤ b) && decide (b < p.2.lba + p.2.n))).foldl
    (fun (m : Option (Nat × JEnt)) p => match m with | none => some p | some q => if q.2.seq < p.2.seq then some p else m) none

/-- Does a committed entry touch a range of a slot? -/
def State.entMeets (s : State) (sl lba n : Nat) : Bool := (s.nsEnts sl).any (fun p => rangesMeet p.2.lba p.2.n lba n)

/-- Publish USED and HELD. -/
def State.showJrnl (s : State) : State :=
  (s.wr STG_JOURNAL.USED ((s.stg.ents.filter (fun p => 2 ≤ p.2.st)).length)).wr STG_JOURNAL.HELD
    (b2n (s.on PWR_STATUS.NV_REFUSED && s.stg.cmds.any (fun c => c.phase == 2)))

/-- An entry is retired: its commit word is cleared. -/
def State.retire (s : State) (e : Nat) : State := (s.setEnt e {}).stgStore (entAddr e + 56) (leBytes 8 0)

/-- Source 347, once no entry of this start's replay is being copied. -/
def State.replayTold (s : State) : State :=
  if s.stg.replayed = 0 || s.stg.ents.any (fun p => p.2.replay == 1 && p.2.st == 3) then s else
  State.raise { s with stg := { s.stg with replayed := 0 } } 347 [i16 s.stg.replayed]

/-- The data of entry `e` is copied home (R308 step 5), or its shadow is read first when the device no longer holds it. -/
def State.copyEnt (s : State) (e : Nat) : State :=
  let x := s.ent e
  let t := s.writeTargets x.s x.lba x.n
  if x.replay != 0 && x.data.isEmpty && !x.zero then
    match t.find? (fun p => x.members.contains p.1) with
    | none => s
    | some p =>
      let d := s.nsDrive x.s p.1
      (s.setEnt e { x with st := 3 }).submit { d := d, op := 0, lba := s.shadowLba d e, n := x.n, why := .replay e, ns := x.s }
  else if t.isEmpty then s
  else
    let s := (s.setEnt e { x with st := 3, owed := t.length, took := 0 }).noteWrite x.s x.lba x.n
    forEach t (fun p s => s.submit { d := s.nsDrive x.s p.1, op := if x.zero then 2 else 1, lba := s.nsBase x.s + x.lba, n := p.2
                                     bytes := x.data.take (4096 * p.2), why := .home e, ns := x.s, fua := true }) s

/-- Is drive `d` still coming up: Powering, Training, or Present and about to be powered (R317)? -/
def State.drvComing (s : State) (d : Nat) : Bool :=
  let v := s.rd STG_DSn_STATUS.SSTATE d
  v == 2 || v == 3 || (v == 1 && s.on STG_DSn_CFG.ENABLE d && s.on STG_DSn_CFG.AUTO_ON d)

/-- Is entry `e` free to be copied: committed, every member it needs present or absent for good, and no older entry of the same
blocks? At a replay a mirror waits for a member that is still coming up (R309). -/
def State.copyReady (s : State) (e : Nat) (x : JEnt) : Bool :=
  x.st == 2 && !(s.nsEnts x.s).any (fun p => p.1 != e && decide (p.2.seq < x.seq) && rangesMeet p.2.lba p.2.n x.lba x.n) &&
  !(x.replay == 1 && (s.nsSides x.s).any (fun i => s.nsSync x.s i && s.drvComing (s.nsDrive x.s i)))

/-- Start every copy that may start. -/
def State.kickEnts (s : State) : State :=
  forEach (s.stg.ents.filter (fun p => p.2.st == 2)) (fun p s => if s.copyReady p.1 (s.ent p.1) then s.copyEnt p.1 else s) s

/-- A home copy of entry `e` has ended on one member. -/
def State.homeDone (s : State) (e : Nat) (good : Bool) : State :=
  let x := s.ent e
  let x : JEnt := { x with owed := x.owed - 1, took := x.took + b2n good }
  let s := s.setEnt e x
  if x.owed != 0 then s
  else if x.took != 0 then
    let s := s.retire e
    let s := if x.replay = 1 then { s with stg := { s.stg with replayed := s.stg.replayed + 1 } } else s
    s.kickEnts.replayTold.updOnline x.s
  else s.setEnt e { x with st := 2, replay := if (s.nsSides x.s).any (s.nsReady x.s) then x.replay else if x.replay = 0 then 2 else x.replay
                           data := if (s.nsSides x.s).any (s.nsReady x.s) then x.data else [] }

end Sys2Proof.Machine
end

