-- ==== Sys2Proof/Machine/Storage.lean ====
section
/-!
DEFINITION. Host commands of the NVMe controllers (chapter 14): their completions, the data path of R307 and R308, rebuilds and
self-tests, and the end of a drive command. An NVMe status is its status code type × 256 plus its status code.
-/
namespace Sys2Proof.Machine

/-! ## Completions -/

/-- A completion is written to its queue, and the queue's vector fires. -/
def State.postNvme (s : State) (f qid cid status result : Nat) (bytes : List Byte) : State :=
  let s := s.out (.nvme f qid cid status result bytes)
  if qid = 0 then s.msixFire f 0 else
  match (s.ctl f).sqs.find? (fun q => q.qid == qid) with
  | none => s
  | some q => match (s.ctl f).cqs.find? (fun c => c.qid == q.cq) with
    | none => s
    | some c => if c.ien then s.msixFire f c.vector else s

/-- A completion of a function that cannot master is held until it can (R278, R296). -/
def State.answerNvme (s : State) (f qid cid status : Nat) (result : Nat := 0) (bytes : List Byte := []) : State :=
  if s.canComplete f then s.postNvme f qid cid status result bytes
  else s.setCtl f { s.ctl f with held := (s.ctl f).held ++ [(qid, cid, status, result, bytes)] }

/-- Held completions of a function that can master again are written. -/
def State.flushNvme (s : State) (f : Nat) : State :=
  if !s.canComplete f then s else
  let l := (s.ctl f).held
  forEach l (fun p s => s.postNvme f p.1 p.2.1 p.2.2.1 p.2.2.2.1 p.2.2.2.2) (s.setCtl f { s.ctl f with held := [] })

/-- A host command is over, with or without a completion; a Flush that waited only for it is over too. -/
def State.dropHost (s : State) (h : Nat) : State :=
  let s := { s with stg := { s.stg with cmds := (s.stg.cmds.filter (fun (c : HostCmd) => c.id != h)).map (fun (c : HostCmd) =>
    if c.op == 3 then { c with wrote := c.wrote.filter (fun k => k != h) } else c) } }
  let doneCmds := s.stg.cmds.filter (fun c => c.op == 3 && c.wrote.isEmpty)
  let s := { s with stg := { s.stg with cmds := s.stg.cmds.filter (fun (c : HostCmd) => !(c.op == 3 && c.wrote.isEmpty)) } }
  forEach doneCmds (fun c s => if c.dead then s else s.answerNvme c.f c.qid c.cid 0) s

/-- Complete host command `h`. -/
def State.endHost (s : State) (h status : Nat) (bytes : List Byte := []) : State :=
  match s.hostCmd h with
  | none => s
  | some c => (if c.dead then s else s.answerNvme c.f c.qid c.cid status 0 bytes).dropHost h

/-- An event of `type` with result `r` (R302): it completes an outstanding Asynchronous Event Request, or waits for one; its type is
masked until the host reads the log. -/
def State.ctlEvent (s : State) (f type r : Nat) : State :=
  let x := s.ctl f
  if x.masked.contains type then s else
  let x := { x with masked := x.masked ++ [type] }
  match x.aers with
  | [] => s.setCtl f { x with events := x.events ++ [r] }
  | cid :: t => (s.setCtl f { x with aers := t }).answerNvme f 0 cid 0 r

/-! ## Reads (R307, R308) -/

/-- The side that serves a read: in sync and Up, with fewer commands outstanding, DRIVE_A on a tie; `only` limits the sides. -/
def State.readSide (s : State) (sl : Nat) (only : Nat → Bool) : Option Nat :=
  ((s.nsSides sl).filter (fun i => only i && s.nsReady sl i)).foldl
    (fun (m : Option Nat) i => match m with
      | none => some i
      | some j => if s.drvLoad (s.nsDrive sl i) < s.drvLoad (s.nsDrive sl j) then some i else m) none

/-- The runs of a range that one place serves: (offset, blocks, covering entry + 1). -/
def State.runs (s : State) (sl lba : Nat) : Nat → List (Nat × Nat × Nat) → List (Nat × Nat × Nat)
  | 0, acc => acc
  | n + 1, acc =>
    let off := n
    let k := match s.coverEnt sl (lba + off) with | some p => p.1 + 1 | none => 0
    s.runs sl lba n (match acc with
      | (o, m, k') :: t => if k = k' then (o - 1, m + 1, k) :: t else (off, 1, k) :: (o, m, k') :: t
      | [] => [(off, 1, k)])

/-- Send the drive reads of host command `c`; false when no member can serve one. -/
def State.beginRead (s : State) (c : HostCmd) : State :=
  let rs := s.runs c.s c.lba c.n []
  let s := s.updHost c.id (fun (x : HostCmd) => { x with phase := 1, owed := rs.length })
  forEach rs (fun r s =>
    let only := fun i => r.2.2 == 0 || (s.ent (r.2.2 - 1)).members.contains i
    match s.readSide c.s only with
    | none => s.updHost c.id (fun (x : HostCmd) => { x with owed := x.owed - 1, status := 0x82 })
    | some i =>
      let d := s.nsDrive c.s i
      let a := if r.2.2 = 0 then s.nsBase c.s + c.lba + r.1 else s.shadowLba d (r.2.2 - 1) + (c.lba + r.1 - (s.ent (r.2.2 - 1)).lba)
      s.submit { d := d, op := 0, lba := a, n := r.2.1, why := .host c.id r.1, ns := c.s, f := c.f, prio := c.prio }) s

/-- The data of a read, in block order. -/
def HostCmd.readBytes (c : HostCmd) : List Byte :=
  ((c.got.mergeSort (fun a b => decide (a.1 ≤ b.1))).flatMap (fun p => p.2)).take (4096 * c.n)

/-- A read or a Compare whose drive commands are over completes (R302). -/
def State.readOverH (s : State) (h : Nat) : State :=
  match s.hostCmd h with
  | none => s
  | some c =>
    if c.owed != 0 then s
    else if c.status != 0 then s.endHost h c.status
    else if c.op = 4 then s.endHost h (if c.readBytes == c.data then 0 else 0x285)
    else s.endHost h 0 c.readBytes

/-! ## Writes (R307, R308, R310, R311) -/

/-- The commit of a journalled write (R308 steps 2 to 4); older entries of the same blocks that wait for their copy are retired. -/
def State.commitWrite (s : State) (c : HostCmd) : State :=
  let e := c.entry - 1
  let x := s.ent e
  let seq := s.stg.nextSeq
  let s := (s.mramWrite (entAddr e) (x.body e)).mramWrite (entAddr e + 56) (leBytes 8 seq)
  let old := (s.nsEnts c.s).filter (fun p => p.2.st == 2 && decide (c.lba ≤ p.2.lba) && decide (p.2.lba + p.2.n ≤ c.lba + c.n))
  let s := { s with stg := { s.stg with nextSeq := seq + 1 } }
  let s := s.setEnt e { x with st := 2, seq := seq }
  let s := forEach old (fun p s => s.retire p.1) s
  ((s.endHost c.id 0).cal 626).kickEnts

/-- A journalled write whose shadow is written commits, or waits for the refusal to lift (R310). -/
def State.tryCommit (s : State) (h : Nat) : State :=
  match s.hostCmd h with
  | none => s
  | some c =>
    if s.on PWR_STATUS.NV_REFUSED then
      let s := s.updHost h (fun (x : HostCmd) => { x with phase := 2 })
      if s.stg.heldTold then s.showJrnl else (State.raise { s with stg := { s.stg with heldTold := true } } 344).showJrnl
    else s.commitWrite c

/-- A write's drive commands are over: a shadow is committed; any other write completes, on the members that took it. -/
def State.writeOver (s : State) (h : Nat) : State :=
  match s.hostCmd h with
  | none => s
  | some c =>
    let took := c.wrote.filter (s.nsSync c.s)
    if c.owed != 0 then s
    else if c.entry = 0 then s.endHost h (if took.isEmpty then c.status else 0)
    else if c.dead || took.isEmpty then (s.setEnt (c.entry - 1) {}).endHost h c.status
    else (s.setEnt (c.entry - 1) { s.ent (c.entry - 1) with members := took }).tryCommit h

/-- Is a write journalled (R308)? -/
def HostCmd.journalled (c : HostCmd) : Bool := (c.op == 1 || c.op == 2) && decide (c.n ≤ 16)

/-- Blocks of data from `off` for `n` blocks. -/
def blocksOf (b : List Byte) (off n : Nat) : List Byte := slice b (4096 * off) (4096 * n)

/-- Begin a write, a Write Zeroes or a Deallocate, unless it must wait: a journalled one for a free entry (R311), any other for
committed entries of its blocks. -/
def State.beginWrite (s : State) (c : HostCmd) : State :=
  if !s.nsOnlineBit c.s then s.endHost c.id 0x82
  else if c.journalled then
    match (List.range 4096).find? (fun e => (s.ent e).st == 0) with
    | none => s
    | some e =>
      let s := s.noteWrite c.s c.lba c.n
      let t := s.writeTargets c.s c.lba c.n
      if t.isEmpty then s.endHost c.id 0x82 else
      let s := s.setEnt e { st := 1, s := c.s, lba := c.lba, n := c.n, data := c.data, zero := c.op == 2 }
      let s := s.updHost c.id (fun (x : HostCmd) => { x with phase := 1, entry := e + 1, owed := t.length })
      forEach t (fun p s =>
        let d := s.nsDrive c.s p.1
        s.submit { d := d, op := if c.op = 2 then 2 else 1, lba := s.shadowLba d e, n := c.n, bytes := c.data, why := .shadow c.id
                   ns := c.s, f := c.f, prio := c.prio, fua := true }) s
  else if c.ranges.any (fun r => s.entMeets c.s r.1 r.2) then s
  else
    let s := forEach c.ranges (fun r s => s.noteWrite c.s r.1 r.2) s
    let l := c.ranges.flatMap (fun r => (s.writeTargets c.s r.1 r.2).map (fun t => (r.1, t)))
    let s := s.updHost c.id (fun (x : HostCmd) => { x with phase := 1, owed := l.length })
    let s := forEach l (fun p s =>
      s.submit { d := s.nsDrive c.s p.2.1, op := if c.op = 1 then 1 else if c.op = 2 then 2 else 3, lba := s.nsBase c.s + p.1
                 n := p.2.2, bytes := if c.op = 1 then blocksOf c.data (p.1 - c.lba) p.2.2 else [], why := .host c.id 0, ns := c.s
                 f := c.f, prio := c.prio, fua := c.op != 5 }) s
    if l.isEmpty then s.endHost c.id 0x82 else s

/-- Begin the writes that wait. -/
def State.kickWrites (s : State) : State :=
  forEach (s.stg.cmds.filter (fun c => c.phase == 0 && c.op != 3)) (fun c s => s.beginWrite c) s

/-! ## Rebuilds (R307) and self-tests (R312, R313) -/

/-- The next chunk of a rebuild is read, when none is outstanding and no host command waits for either member. -/
def State.kickRebuild (s : State) (n : Nat) : State :=
  let x := s.nss n
  match [0, 1].find? (fun i => s.nsSyncBit n i) with
  | none => s
  | some i =>
    if !x.rebuilding || x.chunk || s.hostBusy (s.nsDrive n 0) || s.hostBusy (s.nsDrive n 1) then s else
    (s.setNss n { x with chunk := true, redo := false }).submit
      { d := s.nsDrive n i, op := 0, lba := s.nsBase n + x.point, n := min 256 (s.nsSize n - x.point), why := .rebuildRead n, ns := n }

/-- A chunk has been written: the copy point moves on, or the chunk is copied again; at SIZE the mirror is Optimal. -/
def State.chunkDone (s : State) (n : Nat) : State :=
  let x := s.nss n
  if x.redo then s.setNss n { x with chunk := false, redo := false } else
  let p := min (s.nsSize n) (x.point + 256)
  let s := (s.setNss n { x with chunk := false, point := p }).wr STG_NSs_REBUILD.MIB (p / 256) n
  if p < s.nsSize n then s else
  match [0, 1].find? (fun i => !s.nsSyncBit n i) with
  | none => s
  | some i =>
    let s := (s.setNss n { s.nss n with rebuilding := false, dirty := false, left := false }).setSync n i true
    (s.raise 342 [i8 (n + 1)]).setMirror n 0

/-- Reads that a test makes of an extent. -/
def TestExt.total (x : TestExt) (extended : Bool) : Nat := if extended then (x.size + 255) / 256 else min 1024 x.size

/-- Read `k` of an extent: its first block and its blocks. -/
def TestExt.read (x : TestExt) (extended : Bool) : Nat × Nat :=
  if extended then (x.base + 256 * x.pos, min 256 (x.size - 256 * x.pos)) else (x.base + x.pos * x.size / min 1024 x.size, 1)

/-- Is a test command outstanding on drive `d`? -/
def State.testBusy (s : State) (d : Nat) : Bool :=
  s.stg.drives.any (fun c => c.d == d && c.why == .test) || s.stg.wait.any (fun c => c.d == d && c.why == .test)

/-- A segment of the test has failed; the first one is kept. -/
def TestSt.fail (t : TestSt) (seg nsid : Nat) : TestSt := if t.bad.isSome then t else { t with bad := some (seg, nsid) }

def State.setTest (s : State) (t : Option TestSt) : State := { s with stg := { s.stg with test := t } }

/-- The test ends (source 345): result 0 passed, 7 a segment failed. -/
def State.endTest (s : State) (t : TestSt) (result : Nat) : State :=
  let s := s.setCtl t.f { s.ctl t.f with test :=
    (if t.extended then 2 else 1, result, (t.bad.getD (0, 0)).1, (t.bad.getD (0, 0)).2) }
  (s.setTest none).raise 345 [i8 t.f, i8 result]

/-- The test goes on on drive `d`: the next read, or at the end of the short test a check of the journal entries of its extents there,
and the drive's SMART log. Segments: 1 reads, 2 journal, 3 SMART. -/
def State.kickTest (s : State) (d : Nat) : State :=
  match s.stg.test with
  | none => s
  | some t =>
    if s.testBusy d || s.hostBusy d then s else
    match t.exts.find? (fun x => x.d == d && decide (x.pos < x.total t.extended)) with
    | some x =>
      let upd := fun (v : TestExt) (y : TestExt) => if y = x then v else y
      if !s.drvUp d then
        s.setTest (some ({ t with exts := t.exts.map (upd { x with pos := x.total t.extended }) }.fail 1 (x.s + 1)))
      else
        let r := x.read t.extended
        (s.setTest (some { t with exts := t.exts.map (upd { x with pos := x.pos + 1 }) })).submit
          { d := d, op := 0, lba := r.1, n := r.2, why := .test, ns := x.s, f := t.f }
    | none =>
      if !t.smart.contains d then s else
      let t := { t with smart := t.smart.filter (fun k => k != d) }
      let t := match t.exts.find? (fun x => x.d == d && !s.entsSound x.s) with | some x => t.fail 2 (x.s + 1) | none => t
      let s := s.setTest (some t)
      if s.drvUp d then s.submit { d := d, op := 4, why := .test, ns := ((t.exts.find? (fun x => x.d == d)).getD {}).s, f := t.f } else s

/-- The test is over when nothing is left to read and nothing is outstanding. -/
def State.testOver (s : State) : State :=
  match s.stg.test with
  | none => s
  | some t =>
    if t.smart.isEmpty && t.exts.all (fun x => decide (x.total t.extended ≤ x.pos)) && [0, 1, 2, 3].all (fun d => !s.testBusy d) then
      s.endTest t (if t.bad.isSome then 7 else 0)
    else s

/-! ## Slots: orderly removal (R318, R319) -/

/-- Set a slot's state; a change raises source 336. -/
def State.setSstate (s : State) (d v : Nat) : State :=
  let old := s.rd STG_DSn_STATUS.SSTATE d
  if old = v then s else
  let s := (s.wr STG_DSn_STATUS.SSTATE v d).setDs d { s.ds d with from_ := s.tick }
  s.raise 336 [i8 d, i8 old, i8 v]

/-- "Remove power" (R317): DSn_PERST_N asserted, DSn_PWREN off, the power LED off. -/
def State.powerOffSlot (s : State) (d : Nat) : State :=
  ((s.setDs d { s.ds d with pwren := false, perst := true, led := 0, removing := 0, low := false }).wr STG_DSn_STATUS.RATE 0 d).wr
    STG_DSn_STATUS.WIDTH 0 d

/-- Slots attached to controller `f`. -/
def State.attachedTo (s : State) (f n : Nat) : Bool := s.nsValid n && bitOf (s.rd STG_NSs_ATTACHw.CTRL n (f / 32)) (f % 32)

/-- Namespace slots with a member on drive `d`, with the side. -/
def State.onDrive (s : State) (d : Nat) : List (Nat × Nat) :=
  ((List.range 64).filter s.nsValid).flatMap (fun n => (s.nsSides n).filterMap (fun i => if s.nsDrive n i == d then some (n, i) else none))

/-- The side of slot `n` that is on drive `d`. -/
def State.sideOf (s : State) (n d : Nat) : Nat := if s.nsMirrored n && s.nsDrive n 1 == d then 1 else 0

/-- The end of one host drive read: its data, or another member, or an error with status `code`. -/
def State.hostReadEnd (s : State) (c : DrvCmd) (h off : Nat) (good : Bool) (bytes : List Byte) (code : Nat) (lost : Bool) : State :=
  if good then
    let data := (bytes ++ List.replicate (4096 * c.n - bytes.length) 0#8).take (4096 * c.n)
    (s.updHost h (fun (x : HostCmd) => { x with owed := x.owed - 1, got := x.got ++ [(off, data)] })).readOverH h
  else
    let i := s.sideOf c.ns c.d
    match s.hostCmd h with
    | none => s
    | some x =>
      let home := decide (s.nsBase c.ns ≤ c.lba) && decide (c.lba < s.nsBase c.ns + s.nsSize c.ns)
      let others := s.readSide c.ns (fun j => j != i)
      match if c.again && !lost then none else others with
      | some j =>
        let d := s.nsDrive c.ns j
        let a := if home then c.lba else c.lba - s.rd STG_DSn_SHADOW.START c.d + s.rd STG_DSn_SHADOW.START d
        s.submit { c with d := d, lba := a, again := c.again || !lost }
      | none => (s.updHost x.id (fun (y : HostCmd) => { y with owed := y.owed - 1, status := code })).readOverH x.id

/-- The end of one drive write of a host command. -/
def State.hostWriteEnd (s : State) (c : DrvCmd) (h : Nat) (good : Bool) (code : Nat) : State :=
  let i := s.sideOf c.ns c.d
  (s.updHost h (fun (x : HostCmd) => { x with owed := x.owed - 1, status := if good then x.status else code
                                              wrote := if good then (x.wrote.filter (fun k => k != i)) ++ [i] else x.wrote })).writeOver h

/-- What is done for the owner of a drive command that has ended: `good`, or failed (`lost`: the drive has gone). -/
def State.driveEnd (s : State) (c : DrvCmd) (good lost : Bool) (bytes : List Byte) : State :=
  let code := if lost then 0x82 else if c.op = 0 then 0x281 else 0x280
  match c.why with
  | .host h off => if c.op = 0 then s.hostReadEnd c h off good bytes code lost else s.hostWriteEnd c h good code
  | .shadow h => s.hostWriteEnd c h good code
  | .home e => s.homeDone e good
  | .replay e =>
    let x := s.ent e
    if good then (s.setEnt e { x with data := bytes, st := 2 }).copyEnt e
    else s.setEnt e { x with st := 2, members := x.members.filter (fun i => lost || i != s.sideOf c.ns c.d) }
  | .rebuildRead n =>
    if !good || !(s.nss n).rebuilding then s else
    match [0, 1].find? (fun i => !s.nsSyncBit n i) with
    | none => s
    | some i => s.submit { d := s.nsDrive n i, op := 1, lba := c.lba, n := c.n, bytes := bytes, why := .rebuildWrite n, ns := n }
  | .rebuildWrite n => if good && (s.nss n).rebuilding then s.chunkDone n else s
  | .test =>
    match s.stg.test with
    | some t => if good || c.f != t.f then s else s.setTest (some (t.fail (if c.op = 4 then 3 else 1) (c.ns + 1)))
    | none => s
  | .exports =>
    match s.rec_.exp with
    | none => s
    | some x =>
      let other := s.nsMirrored c.ns && s.nsSyncBit c.ns (1 - s.sideOf c.ns c.d)
      let x : Export := { x with owed := x.owed - 1, bad := x.bad || (!good && !other) }
      { s with rec_ := { s.rec_ with exp := some { x with done := if x.owed = 0 then some (!x.bad) else none } } }
  | .shutdown => s
  | .power => s

/-- The drive commands outstanding on a slot are abandoned (R319), with source 338 when the drive was removed by surprise. -/
def State.abandon (s : State) (d : Nat) (surprise : Bool) : State :=
  let out := s.stg.drives.filter (fun c => c.d == d)
  let late := s.stg.wait.filter (fun c => c.d == d)
  let s := { s with stg := { s.stg with drives := s.stg.drives.filter (fun c => c.d != d), wait := s.stg.wait.filter (fun c => c.d != d) } }
  let s := if surprise then s.raise 338 [i8 d, i32 out.length] else s
  let s := forEach (s.onDrive d) (fun p s => s.dropSide p.1 p.2 true) s
  let s := forEach (out ++ late) (fun c s => s.driveEnd c false true []) s
  let s := forEach (s.onDrive d) (fun p s =>
    forEach (s.nsEnts p.1) (fun e s =>
      if e.2.st == 2 && e.2.replay == 0 && !(s.nsSides p.1).any (s.nsReady p.1) then
        s.setEnt e.1 { e.2 with replay := 2, data := [] } else s) s) s
  forEach (s.onDrive d) (fun p s => s.updOnline p.1) s

/-- Normal shutdown of the drive (R318): its command is issued at once. -/
def State.shutdownSlot (s : State) (d : Nat) : State :=
  let s := s.setDs d { s.ds d with removing := 2, from_ := s.tick }
  let c : DrvCmd := { id := s.stg.nextId, d := d, op := 5, why := .shutdown, issue := s.tick }
  ({ s with stg := { s.stg with nextId := s.stg.nextId + 1, drives := s.stg.drives ++ [c] } }).out (.drive d c.id 5 0 0 false [])

/-- POWER_ON, or AUTO_ON in Present (R317): slot power is asserted and its LED blinks. -/
def State.slotPower (s : State) (d : Nat) : State :=
  if s.rd STG_DSn_STATUS.SSTATE d != 1 || !s.on STG_DSn_CFG.ENABLE d then s else
  (s.setDs d { s.ds d with pwren := true, led := 2 }).setSstate d 2

/-- A slot enters Present; under AUTO_ON it is powered at once, outside Standby. -/
def State.enterPresent (s : State) (d : Nat) : State :=
  let s := s.setSstate d 1
  if s.on STG_DSn_CFG.AUTO_ON d && s.rd PWR_STATUS.PSTATE == 0 then s.slotPower d else s

/-- The end of an orderly removal: power is removed and the slot is Present. -/
def State.removed (s : State) (d : Nat) : State :=
  let s := ((s.powerOffSlot d).setSstate d 1).abandon d false
  if s.on STG_DSn_CFG.AUTO_ON d && s.rd PWR_STATUS.PSTATE == 0 then s.slotPower d else s

/-- An orderly removal with nothing outstanding goes on to the shutdown. -/
def State.kickRemoval (s : State) (d : Nat) : State :=
  if (s.ds d).removing == 1 && s.stg.drives.all (fun c => c.d != d) then s.shutdownSlot d else s

/-! ## What follows any change -/

/-- Detaches whose commands are done complete (R305). -/
def State.kickDetach (s : State) : State :=
  let doneOnes := s.stg.detach.filter (fun x => s.stg.cmds.all (fun c => !(c.s == x.2.1 && x.2.2.contains c.f)))
  let s := { s with stg := { s.stg with detach := s.stg.detach.filter (fun x => !doneOnes.contains x) } }
  forEach doneOnes (fun x s => s.answerNvme 3 0 x.1 0) s

/-- A namespace under a layout change comes back when its commands are done (R320). -/
def State.kickDrain (s : State) : State :=
  forEach (s.stg.nss.filter (fun p => p.2.draining && s.stg.cmds.all (fun c => c.s != p.1)))
    (fun p s => (s.setNss p.1 { p.2 with draining := false }).updOnline p.1) s

/-- Everything that may go on goes on. -/
def State.stgSettle (s : State) : State :=
  let s := s.kickEnts.kickWrites
  let s := s.issueAll (s.stg.wait.length)
  let s := forEach ((List.range 64).filter (fun n => (s.nss n).rebuilding)) (fun n s => s.kickRebuild n) s
  let s := forEach [0, 1, 2, 3] (fun d s => s.kickTest d) s
  let s := s.issueAll (s.stg.wait.length)
  let s := forEach [0, 1, 2, 3] (fun d s => s.kickRemoval d) s
  s.testOver.kickDetach.kickDrain.showJrnl

/-- The controllers that have a namespace on drive `d`. -/
def State.ctlsOf (s : State) (d : Nat) : List Nat :=
  (s.stg.ctls.map (fun p => p.1)).filter (fun f => (s.onDrive d).any (fun p => s.attachedTo f p.1))

/-- The event information of a SMART / Health event for a critical warning byte: spare, temperature, else reliability. -/
def warnInfo (warn : Nat) : Nat := if bitOf warn 0 then 2 else if bitOf warn 1 then 1 else 0

/-- A drive's critical warning (R313): source 346, and a SMART / Health event at every enabled controller with a namespace on it whose
Asynchronous Event Configuration asks for one of its bits. -/
def State.smartWarning (s : State) (d warn : Nat) : State :=
  forEach ((s.ctlsOf d).filter (fun f => (s.ctl f).en && (cellGet (fun _ => 0) (s.ctl f).features 0x0B % 256 &&& warn) != 0))
    (fun f s => s.ctlEvent f 1 (1 + warnInfo warn * 2 ^ 8 + 2 * 2 ^ 16)) (s.raise 346 [i8 d, i8 warn])

/-- Drive command `id` ends, good or not; `warn` is the critical warning of a SMART log (R307, R308, R313, R318). -/
def State.driveDone (s : State) (id : Nat) (good : Bool) (bytes : List Byte) (warn : Nat) : State :=
  match s.stg.drives.find? (fun c => c.id == id) with
  | none => s
  | some c =>
    let s := { s with stg := { s.stg with drives := s.stg.drives.filter (fun x => x.id != id) } }
    let bad := c.op == 4 && warn != 0
    let s := if bad then s.smartWarning c.d warn else s
    let s := if !good && s.nsMirrored c.ns && (c.why.isHost || c.why == .exports || c.why == .rebuildRead c.ns || c.why == .rebuildWrite c.ns) then
      s.dropSide c.ns (s.sideOf c.ns c.d) false else s
    let s := s.driveEnd c (good && !bad) false bytes
    let s := if c.why == .shutdown && (s.ds c.d).removing == 2 then s.removed c.d else s
    s.stgSettle

/-- DRIVE_CMD_COMPLETE (R307, R308, R313, R318): the drive completes command `id`. -/
def execDriveCmdComplete (id : Nat) (good : Bool) (bytes : List Byte) (warn : Nat) (s : State) : Host.Outcome State Fault Refusal :=
  ok (s.driveDone id good bytes warn)

/-- DRIVE_CMD_TIMEOUT (R316): 30 s without a completion; the drive's controller is reset and the command fails as a drive error. -/
def execDriveCmdTimeout (id : Nat) (s : State) : Host.Outcome State Fault Refusal :=
  match s.stg.drives.find? (fun c => c.id == id) with
  | none => ok s
  | some c =>
    let s := (((s.advanceTo (c.issue + 30000000000)).out (.driveReset c.d))).raise 339 [i8 c.d]
    ok (s.driveDone id false [] 0)

/-- NS_REBUILD (R307): REBUILD written to slot `n`; ignored outside Degraded. -/
def execNsRebuild (n : Nat) (s : State) : Host.Outcome State Fault Refusal :=
  if n < 64 && s.nsValid n then ok (s.startRebuild n).stgSettle else ok s

end Sys2Proof.Machine
end

