-- ==== Sys2Proof/Machine/Nvme.lean ====
section
/-!
DEFINITION. The NVMe controllers (R302 to R305, R312, R315): each row is a command that the device has fetched from a queue, with
its fields. A command that a controller does not fetch, because it is not in service, has no effect.
-/
namespace Sys2Proof.Machine

/-! ## Controllers -/

/-- Is function `f` an NVMe controller that fetches commands? -/
def State.ctlRuns (s : State) (f : Nat) : Bool :=
  f < 256 && s.pfOf f == 3 && s.on HIF_FNf_STATE.PRESENT f && (s.ctl f).en && s.canMaster f && s.rd PWR_STATUS.PSTATE == 0

/-- I/O queue pairs of controller `f`. -/
def ioQueues (f : Nat) : Nat := if f = 3 then 64 else 8

/-- Drives follow the power states of their controllers (R315): all in PS2 is the lowest non-operational state. -/
def State.drivePower (s : State) : State :=
  forEach [0, 1, 2, 3] (fun d s =>
    let l := s.ctlsOf d
    let low := !l.isEmpty && l.all (fun f => (s.ctl f).ps == 2) && s.drvUp d
    if low == (s.ds d).low then s else
    (s.setDs d { s.ds d with low := low }).submit { d := d, op := 6, n := b2n low, why := .power }) s

/-- A command that arrives in PS2 waits for the entry to complete and for the exit (R315). -/
def State.wakeCtl (s : State) (f : Nat) : State :=
  let x := s.ctl f
  if x.ps != 2 then s else
  ((s.advanceTo (max s.tick x.psEnd + 20000000)).setCtl f { x with ps := x.lastOp }).drivePower

/-- NVME_CONTROLLER_ENABLE (R302): CC.EN set, with the arbitration that CC.AMS selects. -/
def execNvmeControllerEnable (f : Nat) (wrr : Bool) (s : State) : Host.Outcome State Fault Refusal :=
  if f < 256 && s.pfOf f == 3 && s.on HIF_FNf_STATE.PRESENT f && s.on HIF_FNf_STATE.READY f && !(s.ctl f).en then
    ok (s.setCtl f { en := true, wrr := wrr, test := (s.ctl f).test, stampFrom := s.tick })
  else ok s

/-- A controller reset (R303): completions stop at once; what was issued runs to its end and its result is discarded. -/
def State.resetCtl (s : State) (f : Nat) : State :=
  let gone := fun (c : HostCmd) => c.f == f && (c.phase == 0 || c.phase == 2)
  let free := (s.stg.cmds.filter (fun c => gone c && c.entry != 0)).map (fun c => c.entry - 1)
  let late := fun (c : DrvCmd) => c.f == f && c.why.isHost
  let lost := s.stg.wait.filter late
  let s := forEach free (fun e s => s.setEnt e {}) s
  let s := { s with stg := { s.stg with
    wait := s.stg.wait.filter (fun c => !late c)
    cmds := s.stg.cmds.map (fun (c : HostCmd) => if c.f == f then { c with dead := true } else c)
    detach := s.stg.detach.filter (fun _ => f != 3) } }
  let s := forEach (s.stg.cmds.filter gone) (fun c s => s.dropHost c.id) s
  let s := forEach lost (fun c s => s.driveEnd { c with again := true } false false []) s
  let s := match s.stg.test with
    | some t => if t.f = f then s.endTest t 2 else s
    | none => s
  (s.setCtl f { test := (s.ctl f).test, stampFrom := s.tick }).drivePower.stgSettle

/-- NVME_CONTROLLER_RESET (R303): CC.EN cleared. -/
def execNvmeControllerReset (f : Nat) (s : State) : Host.Outcome State Fault Refusal :=
  if f < 256 && s.pfOf f == 3 && (s.ctl f).en then ok (s.resetCtl f) else ok s

/-! ## Admin commands (R302) -/

/-- Take an admin command: the controller runs and any power state is left. -/
def State.admin (s : State) (f : Nat) (g : State → State) : Host.Outcome State Fault Refusal :=
  if s.ctlRuns f then ok (g ((s.wakeCtl f).cal 624)) else ok s

/-- Minutes of the extended test over the namespaces of a controller (R312). -/
def State.edstt (s : State) (f : Nat) : Nat :=
  let l := (List.range 64).filter (s.attachedTo f)
  let bytes := (l.map (fun n => 4096 * s.nsSize n * (s.nsSides n).length)).sum
  (bytes + 24000000000 - 1) / 24000000000

/-- What the NVMe specifications leave to the device, as 4,096 bytes. -/
def nvmeFree (k f n : Nat) : List Byte := (Config.nvmeBytes k f n ++ List.replicate 4096 0#8).take 4096

/-- The limit of outstanding Asynchronous Event Requests, 0's based: a byte that the device chooses. -/
def aerl (f : Nat) : Nat := ((nvmeFree 1 f 0).getD 259 0#8).toNat

/-- Identify Controller: the fields that chapter 14 gives, at their places in NVM Express 2.0 (PRESUMED, log 50). OACS names Device Self-test only;
its bit 3, which the standard gives to Namespace Management and Attachment together, is the device's. -/
def State.identifyCtl (s : State) (f : Nat) : List Byte :=
  let b := nvmeFree 1 f 0
  let mgmt := beAt b 256 1 / 8 % 2
  let b := patch b 77 ([9#8] ++ leBytes 2 f)                       -- MDTS, CNTLID
  let b := patch b 256 (leBytes 2 (16 + 8 * mgmt))                 -- OACS
  let b := patch b 261 [2#8]                                       -- LPA: Commands Supported and Effects
  let b := patch b 263 [2#8]                                       -- NPSS
  let b := patch b 265 [0#8]                                       -- APSTA
  let b := patch b 272 (leBytes 8 0)                               -- HMPRE, HMMIN
  let b := patch b 312 (leBytes 4 0)                               -- RPMBS
  let b := patch b 316 (leBytes 2 (s.edstt f) ++ leBytes 1 1)      -- EDSTT; DSTO: one test at a time
  let b := patch b 320 (leBytes 2 0)                               -- KAS
  let b := patch b 328 (leBytes 4 0 ++ leBytes 4 0 ++ leBytes 2 0) -- SANICAP, HMMINDS, HMMAXD
  let b := patch b 512 [0x66#8, 0x44#8]                            -- SQES, CQES
  let b := patch b 516 (leBytes 4 64)                              -- NN
  let b := patch b 520 (leBytes 2 0x4D ++ leBytes 2 0 ++ leBytes 1 0) -- ONCS: Compare, DSM, Write Zeroes, Timestamp; FUSES; FNA
  let b := patch b 525 (leBytes 1 0 ++ leBytes 2 15 ++ leBytes 2 15) -- VWC, AWUN, AWUPF
  let b := patch b 532 (leBytes 2 0)                               -- ACWU
  let b := patch b 536 (leBytes 4 0)                               -- SGLS
  let b := patch b 2048 (leBytes 4 0)
  let b := patch (patch (patch b 2052 (leBytes 8 0)) 2083 [0#8]) 2084 (leBytes 8 0)
  patch b 2115 ([2#8] ++ leBytes 4 10000 ++ leBytes 4 20000)       -- PS2: NOPS, ENLAT, EXLAT

/-- Identify Namespace: the fields that chapter 14 gives. -/
def State.identifyNs (s : State) (n : Nat) : List Byte :=
  let b := nvmeFree 0 (n + 1) 0
  let z := s.nsSize n
  let b := patch b 0 (leBytes 8 z ++ leBytes 8 z ++ leBytes 8 z)
  let b := patch b 25 (leBytes 2 0)
  let b := patch b 28 (leBytes 2 0)
  let b := patch b 34 (leBytes 2 15 ++ leBytes 2 15 ++ leBytes 2 0 ++ leBytes 2 0 ++ leBytes 2 0 ++ leBytes 2 0)
  patch b 128 (leBytes 4 (12 * 2 ^ 16))

/-- A list structure of `k`-byte numbers in 4,096 bytes. -/
def idList (k : Nat) (l : List Nat) : List Byte := (l.flatMap (leBytes k) ++ List.replicate 4096 0#8).take 4096

/-- NVME_IDENTIFY (R302). -/
def execNvmeIdentify (f cid cns nsid cntid : Nat) (s : State) : Host.Outcome State Fault Refusal :=
  s.admin f (fun s =>
    let n := nsid - 1
    if cns = 1 then s.answerNvme f 0 cid 0 0 (s.identifyCtl f)
    else if cns = 0 then
      if nsid = 0 || 64 < nsid then s.answerNvme f 0 cid 0x0B
      else s.answerNvme f 0 cid 0 0 (if s.attachedTo f n then s.identifyNs n else List.replicate 4096 0#8)
    else if cns = 2 then s.answerNvme f 0 cid 0 0
      (idList 4 (((List.range 64).filter (fun k => decide (nsid ≤ k) && s.attachedTo f k)).map (fun k => k + 1)))
    else if cns = 3 then
      if nsid = 0 || !s.attachedTo f n then s.answerNvme f 0 cid 0x0B
      else s.answerNvme f 0 cid 0 0 (nvmeFree 3 nsid 0)
    else if cns = 0x10 then s.answerNvme f 0 cid 0 0
      (idList 4 (((List.range 64).filter (fun k => decide (nsid ≤ k) && s.nsValid k)).map (fun k => k + 1)))
    else if cns = 0x12 then
      let l := (List.range 256).filter (fun k => decide (cntid ≤ k) && nsid != 0 && s.attachedTo k n)
      s.answerNvme f 0 cid 0 0 (idList 2 (l.length :: l))
    else s.answerNvme f 0 cid 0x02)

/-- The admin commands of R302 with their effects: supported, and for Namespace Attachment, on PF3 only, the namespace inventory. -/
def adminEffect (f op : Nat) : Nat :=
  if [0x00, 0x01, 0x02, 0x04, 0x05, 0x06, 0x08, 0x09, 0x0A, 0x0C, 0x14].contains op then 1 else if op = 0x15 && f = 3 then 1 + 8 else 0

/-- The I/O commands of R302 with their effects: supported, and for those that change blocks, the block content. -/
def ioEffect (op : Nat) : Nat := if [0x00, 0x02, 0x05].contains op then 1 else if [0x01, 0x08, 0x09].contains op then 1 + 2 else 0

/-- The Commands Supported and Effects log (R302): a dword for each admin and each I/O opcode. -/
def effectsLog (f : Nat) : List Byte :=
  (List.range 256).flatMap (fun k => leBytes 4 (adminEffect f k)) ++ (List.range 256).flatMap (fun k => leBytes 4 (ioEffect k)) ++
  List.replicate 2048 0#8

/-- The Device Self-test log of controller `f` (R313): the test under way, and the newest result with, where one failed, its segment and
namespace. -/
def State.testLog (s : State) (f : Nat) (b : List Byte) : List Byte :=
  let x := (s.ctl f).test
  let now := match s.stg.test with | some t => if t.f = f then (if t.extended then 2 else 1) else 0 | none => 0
  let b := patch (patch b 0 (leBytes 1 now)) 4 (leBytes 1 (x.2.1 + x.1 * 16) ++ leBytes 1 x.2.2.1 ++ leBytes 1 (b2n (x.2.1 == 7)))
  if x.2.1 = 7 then patch b 20 (leBytes 4 x.2.2.2) else b

/-- NVME_GET_LOG_PAGE (R302): Error Information, SMART / Health, Commands Supported and Effects, Device Self-test. Reading a log unmasks
the events that name it. -/
def execNvmeGetLogPage (f cid lid len : Nat) (s : State) : Host.Outcome State Fault Refusal :=
  s.admin f (fun s =>
    if !([1, 2, 5, 6].contains lid) then s.answerNvme f 0 cid 0x109 else
    let b := nvmeFree (0x100 + lid) f s.free
    let b := if lid = 5 then effectsLog f else if lid = 6 then s.testLog f b else b
    let s := if lid = 2 then s.setCtl f { s.ctl f with masked := (s.ctl f).masked.filter (fun t => t != 1) } else s
    s.draw.answerNvme f 0 cid 0 0 (b.take len))

/-- The supported features (R302). -/
def featureOk (fid : Nat) : Bool := [1, 2, 7, 8, 9, 0x0B, 0x0E].contains fid

/-- NVME_SET_FEATURES (R302, R315): `v` is command dword 11 or the data. -/
def execNvmeSetFeatures (f cid fid v : Nat) (s : State) : Host.Outcome State Fault Refusal :=
  s.admin f (fun s =>
    let x := s.ctl f
    if !featureOk fid then s.answerNvme f 0 cid 0x02
    else if fid = 2 then
      let ps := v % 32
      if 2 < ps then s.answerNvme f 0 cid 0x02 else
      let x : CtlSt := if ps = 2 then { x with psEnd := s.tick + 10000000 } else { x with lastOp := ps }
      ((s.setCtl f { x with ps := ps, features := cellSet (fun _ => 0) x.features 2 v }).drivePower.answerNvme f 0 cid 0).stgSettle
    else if fid = 7 then
      if !(x.sqs.isEmpty && x.cqs.isEmpty) then s.answerNvme f 0 cid 0x0C else
      let k := ioQueues f - 1
      let r := min (v % 2 ^ 16) k + min (v / 2 ^ 16 % 2 ^ 16) k * 2 ^ 16
      (s.setCtl f { x with features := cellSet (fun _ => 0) x.features 7 r }).answerNvme f 0 cid 0 r
    else if fid = 9 then
      (s.setCtl f { x with features := cellSet (fun _ => 0) x.features (0x90000 + v % 2 ^ 16) v }).answerNvme f 0 cid 0
    else if fid = 0x0E then
      (s.setCtl f { x with stamp := v % 2 ^ 48, stampFrom := s.tick, stampSet := true }).answerNvme f 0 cid 0
    else (s.setCtl f { x with features := cellSet (fun _ => 0) x.features fid v }).answerNvme f 0 cid 0)

/-- The Timestamp feature of controller `f` (R302): the milliseconds since the value that was set, or since the controller's reset, with
its origin. -/
def State.timestamp (s : State) (f : Nat) : Nat :=
  let x := s.ctl f
  (x.stamp + (s.tick - x.stampFrom) / 1000000) % 2 ^ 48 + b2n x.stampSet * 2 ^ 49

/-- NVME_GET_FEATURES (R302); `v` names the vector of feature 9. -/
def execNvmeGetFeatures (f cid fid v : Nat) (s : State) : Host.Outcome State Fault Refusal :=
  s.admin f (fun s =>
    let x := (s.ctl f).features
    let k := ioQueues f - 1
    if !featureOk fid then s.answerNvme f 0 cid 0x02
    else if fid = 2 then s.answerNvme f 0 cid 0 (s.ctl f).ps
    else if fid = 7 then s.answerNvme f 0 cid 0 (cellGet (fun _ => k + k * 2 ^ 16) x 7)
    else if fid = 9 then s.answerNvme f 0 cid 0 (cellGet (fun _ => v % 2 ^ 16) x (0x90000 + v % 2 ^ 16))
    else if fid = 0x0E then s.answerNvme f 0 cid 0 0 (leBytes 8 (s.timestamp f))
    else s.answerNvme f 0 cid 0 (cellGet (fun _ => 0) x fid))

/-- NVME_CREATE_IO_CQ (R302): a queue of `size` entries on vector `vec`. -/
def execNvmeCreateIoCq (f cid qid size vec : Nat) (ien : Bool) (s : State) : Host.Outcome State Fault Refusal :=
  s.admin f (fun s =>
    let x := s.ctl f
    if qid = 0 || ioQueues f < qid || x.cqs.any (fun q => q.qid == qid) then s.answerNvme f 0 cid 0x101
    else if size < 2 || 4096 < size then s.answerNvme f 0 cid 0x102
    else if s.rd HIF_FNf_MSIX.SIZE f < vec then s.answerNvme f 0 cid 0x108
    else (s.setCtl f { x with cqs := x.cqs ++ [{ qid := qid, vector := vec, ien := ien }] }).answerNvme f 0 cid 0)

/-- NVME_CREATE_IO_SQ (R302): a queue of `size` entries and class `prio` whose completions go to `cq`. -/
def execNvmeCreateIoSq (f cid qid size cq prio : Nat) (s : State) : Host.Outcome State Fault Refusal :=
  s.admin f (fun s =>
    let x := s.ctl f
    if !x.cqs.any (fun q => q.qid == cq) then s.answerNvme f 0 cid 0x100
    else if qid = 0 || ioQueues f < qid || x.sqs.any (fun q => q.qid == qid) then s.answerNvme f 0 cid 0x101
    else if size < 2 || 4096 < size then s.answerNvme f 0 cid 0x102
    else (s.setCtl f { x with sqs := x.sqs ++ [{ qid := qid, cq := cq, prio := if x.wrr then prio % 4 else 2 }] }).answerNvme f 0 cid 0)

/-- NVME_DELETE_IO_SQ (R302): commands of the queue that have not completed are aborted. -/
def execNvmeDeleteIoSq (f cid qid : Nat) (s : State) : Host.Outcome State Fault Refusal :=
  s.admin f (fun s =>
    let x := s.ctl f
    if qid = 0 || !x.sqs.any (fun q => q.qid == qid) then s.answerNvme f 0 cid 0x101 else
    let mine := fun (c : HostCmd) => c.f == f && c.qid == qid && !c.dead
    let l := s.stg.cmds.filter mine
    let s := forEach l (fun c s => s.answerNvme f qid c.cid 0x08) s
    let s := { s with stg := { s.stg with cmds := s.stg.cmds.map (fun (c : HostCmd) => if mine c then { c with dead := true } else c) } }
    (s.setCtl f { s.ctl f with sqs := x.sqs.filter (fun q => q.qid != qid) }).answerNvme f 0 cid 0)

/-- NVME_DELETE_IO_CQ (R302). -/
def execNvmeDeleteIoCq (f cid qid : Nat) (s : State) : Host.Outcome State Fault Refusal :=
  s.admin f (fun s =>
    let x := s.ctl f
    if qid = 0 || !x.cqs.any (fun q => q.qid == qid) then s.answerNvme f 0 cid 0x101
    else if x.sqs.any (fun q => q.cq == qid) then s.answerNvme f 0 cid 0x10C
    else (s.setCtl f { x with cqs := x.cqs.filter (fun q => q.qid != qid) }).answerNvme f 0 cid 0)

/-- NVME_ABORT (R302): a command that has issued nothing is aborted; any other runs on, and the result says so. -/
def execNvmeAbort (f cid sqid acid : Nat) (s : State) : Host.Outcome State Fault Refusal :=
  s.admin f (fun s =>
    match s.stg.cmds.find? (fun c => c.f == f && c.qid == sqid && c.cid == acid && c.phase == 0 && c.op != 3) with
    | some c => (s.endHost c.id 0x07).answerNvme f 0 cid 0 0
    | none => s.answerNvme f 0 cid 0 1)

/-- NVME_ASYNC_EVENT_REQUEST (R302): an event that waits completes it, else a later event will; one beyond the limit is refused. -/
def execNvmeAsyncEventRequest (f cid : Nat) (s : State) : Host.Outcome State Fault Refusal :=
  s.admin f (fun s =>
    let x := s.ctl f
    match x.events with
    | r :: t => (s.setCtl f { x with events := t }).answerNvme f 0 cid 0 r
    | [] => if aerl f < x.aers.length then s.answerNvme f 0 cid 0x105 else s.setCtl f { x with aers := x.aers ++ [cid] })

/-- The controller registers of NVM Express 2.0 that chapter 14 settles: CAP (MQES 4,095, AMS 0b01), VS, CC and CSTS; the rest of the
64 bytes is the device's. -/
def State.nvmeRegs (s : State) (f : Nat) : List Byte :=
  let x := s.ctl f
  let b := nvmeFree 4 f 0
  let b := patch b 0 (leBytes 4 (4095 + beAt b 2 1 / 2 % 2 * 2 ^ 16 + 2 ^ 17 + beAt b 3 1 * 2 ^ 24))
  let b := patch b 8 (leBytes 4 0x00020000)
  patch (patch b 0x14 (leBytes 4 (b2n x.en + b2n x.wrr * 2 ^ 11 + b2n x.en * 0x460000))) 0x1C (leBytes 4 (b2n x.en))

/-- Is `c` a controller of PF3 that an attach may name (R305)? -/
def State.ctlListed (s : State) (c : Nat) (enabled : Bool) : Bool :=
  c < 256 && s.pfOf c == 3 && (c == 3 || !enabled || (s.vfsOf 3).contains c)

/-- MRAM offset of the attachments of a slot. -/
def attachAddr (n : Nat) : Nat := 0x142000 + 32 * n

/-- Set or clear the attachment of slot `n` to controller `c`, in the register and in MRAM. -/
def State.setAttach (s : State) (n c : Nat) (v : Bool) : State :=
  let w := c / 32
  let s := s.wr STG_NSs_ATTACHw.CTRL (setBit (s.rd STG_NSs_ATTACHw.CTRL n w) (c % 32) v) n w
  s.stgStore (attachAddr n + 8 * (w / 2))
    (leBytes 4 (s.rd STG_NSs_ATTACHw.CTRL n (w / 2 * 2)) ++ leBytes 4 (s.rd STG_NSs_ATTACHw.CTRL n (w / 2 * 2 + 1)))

/-- NAMESPACE_ATTACHMENT (R305): attach, or detach, a namespace for each controller of a list. -/
def execNamespaceAttachment (f cid nsid : Nat) (detach : Bool) (ctrls : List Nat) (s : State) : Host.Outcome State Fault Refusal :=
  s.admin f (fun s =>
    let n := nsid - 1
    if f != 3 then s.answerNvme f 0 cid 0x01
    else if nsid = 0 || !s.nsValid n then s.answerNvme f 0 cid 0x0B
    else if ctrls.isEmpty || ctrls.any (fun c => !s.ctlListed c !detach) then s.answerNvme f 0 cid 0x11C
    else if !detach && ctrls.any (fun c => s.attachedTo c n) then s.answerNvme f 0 cid 0x118
    else if detach && ctrls.any (fun c => !s.attachedTo c n) then s.answerNvme f 0 cid 0x11A
    else
      let s := forEach ctrls (fun c s => s.setAttach n c !detach) s
      if detach then State.stgSettle { s with stg := { s.stg with detach := s.stg.detach ++ [(cid, n, ctrls)] } }
      else s.answerNvme f 0 cid 0)

/-- DEVICE_SELF_TEST (R312, R313): `stc` 1 short, 2 extended, 15 abort. -/
def execDeviceSelfTest (f cid nsid stc : Nat) (s : State) : Host.Outcome State Fault Refusal :=
  s.admin f (fun s =>
    if stc = 15 then
      match s.stg.test with
      | some t => if t.f = f then ((s.endTest t 1).answerNvme f 0 cid 0).stgSettle else s.answerNvme f 0 cid 0
      | none => s.answerNvme f 0 cid 0
    else if stc != 1 && stc != 2 then s.answerNvme f 0 cid 0x02
    else if s.stg.test.isSome then s.answerNvme f 0 cid 0x11D
    else if nsid != 0 && nsid != 0xFFFFFFFF && !s.attachedTo f (nsid - 1) then s.answerNvme f 0 cid 0x0B
    else
      let l := (List.range 64).filter (fun n => s.attachedTo f n && (nsid == 0xFFFFFFFF || nsid == n + 1))
      let exts := l.flatMap (fun n => (s.nsSides n).map (fun i =>
        ({ s := n, d := s.nsDrive n i, base := s.nsBase n, size := s.nsSize n } : TestExt)))
      let t : TestSt := { f := f, extended := stc == 2, nsid := nsid, exts := exts
                          smart := if stc = 1 then (exts.map (fun x => x.d)).eraseDups else [] }
      ((s.setTest (some t)).answerNvme f 0 cid 0).stgSettle)

/-! ## I/O commands (R302, R304, R306) -/

/-- The status with which an I/O command is refused, if it is. `limit` is MDTS in blocks, where it applies. -/
def State.ioStatus (s : State) (f nsid : Nat) (write : Bool) (limit : Nat) (ranges : List (Nat × Nat)) : Option Nat :=
  let n := nsid - 1
  if nsid = 0 || !s.attachedTo f n then some 0x0B
  else if write && s.rd STG_NSs_CFG.KIND n == 2 then some 0x20
  else if ranges.any (fun r => decide (limit < r.2)) then some 0x02
  else if ranges.any (fun r => decide (s.nsSize n < r.1 + r.2)) then some 0x80
  else if !s.nsOnlineBit n then some 0x82
  else none

/-- Take an I/O command from submission queue `qid`: it is refused with a status, or becomes a host command and begins. -/
def State.ioCommand (s : State) (f qid cid nsid op : Nat) (limit : Nat) (ranges : List (Nat × Nat)) (data : List Byte)
    (begin_ : HostCmd → State → State) : Host.Outcome State Fault Refusal :=
  if !s.ctlRuns f then ok s else
  match (s.ctl f).sqs.find? (fun q => q.qid == qid) with
  | none => ok s
  | some q =>
    let s := (s.wakeCtl f).cal 624
    match s.ioStatus f nsid (op == 1 || op == 2 || op == 5) limit ranges with
    | some e => ok (s.answerNvme f qid cid e)
    | none =>
      let r := ranges.headD (0, 0)
      let c : HostCmd := { id := s.stg.nextId, f := f, qid := qid, cid := cid, op := op, s := nsid - 1, lba := r.1, n := r.2
                           prio := q.prio, ranges := ranges, data := data }
      let s := { s with stg := { s.stg with nextId := s.stg.nextId + 1, cmds := s.stg.cmds ++ [c] } }
      ok ((begin_ c s).stgSettle)

/-- The data of `n` blocks. -/
def blockData (n : Nat) (b : List Byte) : List Byte := (b ++ List.replicate (4096 * n - b.length) 0#8).take (4096 * n)

/-- NVME_READ (R307, R308): `n` blocks from `lba`. -/
def execNvmeRead (f qid cid nsid lba n : Nat) (s : State) : Host.Outcome State Fault Refusal :=
  s.ioCommand f qid cid nsid 0 512 [(lba, n)] [] (fun c s => (s.beginRead c).readOverH c.id)

/-- A write that takes no entry because all are committed raises source 343 (R311). -/
def State.journalFull (s : State) (c : HostCmd) : State :=
  if c.journalled && (s.stg.cmds.any (fun x => x.id == c.id && x.phase == 0)) then s.raise 343 else s

/-- NVME_WRITE (R308): `n` blocks from `lba`, with their data. -/
def execNvmeWrite (f qid cid nsid lba n : Nat) (data : List Byte) (s : State) : Host.Outcome State Fault Refusal :=
  s.ioCommand f qid cid nsid 1 512 [(lba, n)] (blockData n data) (fun c s => (s.beginWrite c).journalFull c)

/-- NVME_WRITE_ZEROES (R308). -/
def execNvmeWriteZeroes (f qid cid nsid lba n : Nat) (s : State) : Host.Outcome State Fault Refusal :=
  s.ioCommand f qid cid nsid 2 65536 [(lba, n)] [] (fun c s => (s.beginWrite c).journalFull c)

/-- NVME_FLUSH (R302): it completes once the writes before it have. -/
def execNvmeFlush (f qid cid nsid : Nat) (s : State) : Host.Outcome State Fault Refusal :=
  s.ioCommand f qid cid nsid 3 0 [] [] (fun c s =>
    let l := (s.stg.cmds.filter (fun x => x.s == c.s && x.id != c.id && (x.op == 1 || x.op == 2) && !x.dead)).map (fun x => x.id)
    if l.isEmpty then s.endHost c.id 0 else s.updHost c.id (fun (x : HostCmd) => { x with wrote := l }))

/-- NVME_COMPARE (R302): the blocks are read and compared with `data`. -/
def execNvmeCompare (f qid cid nsid lba n : Nat) (data : List Byte) (s : State) : Host.Outcome State Fault Refusal :=
  s.ioCommand f qid cid nsid 4 512 [(lba, n)] (blockData n data) (fun c s => (s.beginRead c).readOverH c.id)

/-- NVME_DATASET_MANAGEMENT (R302): Deallocate of each range is passed to the drives; any other attribute has no effect. -/
def execNvmeDatasetManagement (f qid cid nsid : Nat) (deallocate : Bool) (ranges : List (Nat × Nat)) (s : State) :
    Host.Outcome State Fault Refusal :=
  s.ioCommand f qid cid nsid 5 (2 ^ 32) ranges [] (fun c s =>
    if deallocate && !ranges.isEmpty then s.beginWrite c else s.endHost c.id 0)

end Sys2Proof.Machine
end

