-- ==== Sys2Proof/Machine/Slots.lean ====
section
/-!
DEFINITION. The drive slots DS0 to DS3 (R316 to R319).
-/
namespace Sys2Proof.Machine

/-- The state of a slot. -/
def State.sstate (s : State) (d : Nat) : Nat := s.rd STG_DSn_STATUS.SSTATE d

/-- SLOT_PRESENT_DEBOUNCE (R317): DSn_PRSNT_N asserted for 100 ms. -/
def execSlotPresentDebounce (d : Nat) (s : State) : Host.Outcome State Fault Refusal :=
  if 4 ≤ d then ok s else
  let s := s.wr STG_DSn_STATUS.PRSNT 1 d
  if s.sstate d = 0 then ok (s.enterPresent d) else ok s

/-- SLOT_POWER_ON (R317): POWER_ON written, or AUTO_ON. -/
def execSlotPowerOn (d : Nat) (s : State) : Host.Outcome State Fault Refusal := if 4 ≤ d then ok s else ok (s.slotPower d)

/-- A drive in Training, Up or Attention is lost (R317, R319); `gone`: its presence. -/
def State.slotLost (s : State) (d : Nat) (gone : Bool) : State :=
  let s := s.powerOffSlot d
  let s := if gone then s.setSstate d 0 else s.setSstate d 1
  let s := s.abandon d true
  if gone then s.stgSettle else (s.enterPresent d).stgSettle

/-- A commit turns slots off, which are then held in Present with power off, and powers Present ones under AUTO_ON (R317). -/
def State.slotsCommit (s : State) : State :=
  forEach [0, 1, 2, 3] (fun d s =>
    let st := s.sstate d
    if !s.on STG_DSn_CFG.ENABLE d then
      (if (st = 4 || st = 5) && (s.ds d).removing == 0 then s.setDs d { s.ds d with removing := 1, from_ := s.tick }
       else if st = 2 || st = 3 then (s.powerOffSlot d).setSstate d 1 else s)
    else if st = 1 && s.on STG_DSn_CFG.AUTO_ON d && s.rd PWR_STATUS.PSTATE == 0 then s.slotPower d
    else s) s

/-- SLOT_POWER_DELAY_EXPIRE (R317): PWR_DELAY_MS after power, DSn_PERST_N is deasserted; a drive whose presence is gone by then is
lost at once. -/
def execSlotPowerDelayExpire (d : Nat) (s : State) : Host.Outcome State Fault Refusal :=
  if 4 ≤ d || s.sstate d != 2 then ok s else
  let ms := s.rd STG_DSn_CFG.PWR_DELAY_MS d
  let s := s.advanceTo ((s.ds d).from_ + 1000000 * (if ms = 0 then 100 else ms))
  let s := (s.setDs d { s.ds d with perst := false }).setSstate d 3
  ok (if s.on STG_DSn_STATUS.PRSNT d then s else s.slotLost d true)

/-- SLOT_DRIVE_READY (R317): the link is in L0 at `rate` and `width` and the drive is ready: it is Up, and the namespaces on it
follow R306, R307 and R309. -/
def execSlotDriveReady (d rate width : Nat) (s : State) : Host.Outcome State Fault Refusal :=
  if 4 ≤ d || s.sstate d != 3 then ok s else
  let s := s.wr STG_DSn_STATUS.RATE (min rate (s.rd STG_DSn_CFG.MAX_RATE d)) d
  let s := s.wr STG_DSn_STATUS.WIDTH (min width (s.rd STG_DSn_CFG.MAX_WIDTH d)) d
  let s := (s.setDs d { s.ds d with led := 1 }).setSstate d 4
  let s := forEach (s.onDrive d) (fun p s =>
    let s := if s.nsSync p.1 p.2 then s.setNss p.1 { s.nss p.1 with failed := false } else s
    let s := forEach (s.nsSides p.1) (fun i s =>
      if (s.nsEnts p.1).any (fun e => e.2.replay == 1) && s.nsSyncBit p.1 i && s.nsMirrored p.1 && s.nsReady p.1 (1 - i) &&
          [0, 6].contains (s.sstate (s.nsDrive p.1 i)) then s.dropSide p.1 i true else s) s
    (s.mirrorNext p.1).updOnline p.1) s
  ok s.stgSettle

/-- SLOT_TRAIN_TIMEOUT (R317): 10 s without a ready drive. -/
def execSlotTrainTimeout (d : Nat) (s : State) : Host.Outcome State Fault Refusal :=
  if 4 ≤ d || s.sstate d != 3 then ok s else
  let s := s.advanceTo ((s.ds d).from_ + 10000000000)
  ok (((s.powerOffSlot d).setSstate d 6).stgSettle)

/-- SLOT_ATTN_PRESS (R317): the first press starts the 5 s timer, the second cancels it. -/
def execSlotAttnPress (d : Nat) (s : State) : Host.Outcome State Fault Refusal :=
  if 4 ≤ d || (s.ds d).removing != 0 then ok s
  else if s.sstate d = 4 then ok ((s.setDs d { s.ds d with led := 2 }).setSstate d 5)
  else if s.sstate d = 5 then ok ((s.setDs d { s.ds d with led := 1 }).setSstate d 4)
  else ok s

/-- Orderly removal starts (R318): no command is issued to the drive any more. -/
def State.startRemoval (s : State) (d : Nat) : State :=
  if (s.sstate d = 4 || s.sstate d = 5) && (s.ds d).removing == 0 then
    (s.setDs d { s.ds d with removing := 1, from_ := s.tick }).stgSettle
  else s

/-- SLOT_ATTN_TIMEOUT (R317): the 5 s timer ends. -/
def execSlotAttnTimeout (d : Nat) (s : State) : Host.Outcome State Fault Refusal :=
  if 4 ≤ d || s.sstate d != 5 || (s.ds d).removing != 0 then ok s
  else ok ((s.advanceTo ((s.ds d).from_ + 5000000000)).startRemoval d)

/-- SLOT_POWER_OFF (R318): POWER_OFF written. -/
def execSlotPowerOff (d : Nat) (s : State) : Host.Outcome State Fault Refusal :=
  if 4 ≤ d then ok s else ok (s.startRemoval d)

/-- SLOT_REMOVAL_WAIT_EXPIRE (R318): a 5 s wait ends: what is still outstanding is settled as at a surprise removal and the drive is
shut down; or the shutdown is given up and power is removed. -/
def execSlotRemovalWaitExpire (d : Nat) (s : State) : Host.Outcome State Fault Refusal :=
  if 4 ≤ d || (s.ds d).removing == 0 then ok s else
  let s := s.advanceTo ((s.ds d).from_ + 5000000000)
  if (s.ds d).removing = 1 then ok ((s.abandon d true).shutdownSlot d).stgSettle
  else
    let s := { s with stg := { s.stg with drives := s.stg.drives.filter (fun c => !(c.d == d && c.why == DrvWhy.shutdown)) } }
    ok (s.removed d).stgSettle

/-- SLOT_POWER_FAULT (R317): DSn_PWRFLT_N asserted: power is removed at once. -/
def execSlotPowerFault (d : Nat) (s : State) : Host.Outcome State Fault Refusal :=
  if 4 ≤ d || !(2 ≤ s.sstate d && s.sstate d ≤ 5) then ok s else
  let s := (s.powerOffSlot d).setSstate d 6
  let s := (s.setDs d { s.ds d with attn := true }).raise 337 [i8 d]
  ok (s.abandon d true).stgSettle

/-- SLOT_LOST (R317, R319): presence lost for 10 µs (`gone`), or the link out of L0 for 1 ms; a Present slot empties. -/
def execSlotLost (d : Nat) (gone : Bool) (s : State) : Host.Outcome State Fault Refusal :=
  if 4 ≤ d then ok s else
  let st := s.sstate d
  let s := if gone then s.wr STG_DSn_STATUS.PRSNT 0 d else s
  if 3 ≤ st && st ≤ 5 then ok (s.slotLost d gone)
  else if st = 1 && gone then ok (s.setSstate d 0)
  else ok s

/-- SLOT_FAULT_CLEAR (R317): FAULT_CLR written, or presence deasserted (`gone`). -/
def execSlotFaultClear (d : Nat) (gone : Bool) (s : State) : Host.Outcome State Fault Refusal :=
  if 4 ≤ d || s.sstate d != 6 then ok s else
  let s := if gone then s.wr STG_DSn_STATUS.PRSNT 0 d else s
  let s := s.setDs d { s.ds d with attn := s.on STG_DSn_CTRL.ATTN_LED d }
  ok (if s.on STG_DSn_STATUS.PRSNT d then s.enterPresent d else s.setSstate d 0)

end Sys2Proof.Machine
end

