-- ==== Sys2Proof/Machine/Exports.lean ====
section
/-!
DEFINITION. Export of closed segments to the recorder namespaces (R255 to R258).
-/
namespace Sys2Proof.Machine

/-- The export unit of R255 in bytes, and in blocks. -/
def unitBytes : Nat := 65536

/-- The VALID recorder namespace slot of number `r` (R304). -/
def State.recSlot (s : State) (r : Nat) : Option Nat :=
  (List.range 64).find? (fun n => s.nsValid n && s.rd STG_NSs_CFG.KIND n == 2 && s.rd STG_NSs_CFG.RNS n == r)

/-- The data of a closed segment: the records from its start to its closing position, pads removed. -/
def State.segData (s : State) (g : Seg) : List Byte :=
  let a := g.pos.getD 0
  let z := g.close.getD 0
  let size := s.recSize g.bay
  ((s.recBay g.bay).idx.filter (fun x => decide (a ≤ x.pos) && decide (x.pos < z))).flatMap
    (fun x => s.bulkRead (s.recBase g.bay + x.pos % size) x.len)

/-- One stream entry of R257, 80 bytes. -/
def State.streamEntry (s : State) (i : Nat) : List Byte :=
  let v := s.subE i
  leBytes 2 i ++ leBytes 1 (subCol v) ++ leBytes 1 (subChannels v) ++ leBytes 4 (subRate v) ++ leBytes 4 (subConfRev v) ++
  leBytes 2 (subAppid v) ++ beBytes 6 (subDmac v) ++ leBytes 1 (subSvidLen v) ++ List.replicate 11 0#8 ++
  ((subSvid v).take (min 48 (subSvidLen v)) ++ List.replicate 48 0#8).take 48

/-- The header length of R257 for `k` streams. -/
def hdrLen (k : Nat) : Nat := 4096 + (80 * (k - 24) + 4095) / 4096 * 4096

/-- SCALE of the VALID phasor channel on a cell of bay `b`, or 0. -/
def State.cellScale (s : State) (b cell : Nat) : Nat :=
  match s.validChans.find? (fun c => chBay (s.chE c) == b && chCell (s.chE c) == cell) with
  | some c => chScale (s.chE c)
  | none => 0

/-- CRC-32C as in R126 with start value 0. -/
def crcOf (b : List Byte) : Nat := (crc32c 0 b).toNat

/-- The stream extension of a segment (R257). -/
def State.segExt (s : State) (g : Seg) : List Byte := ((s.baySubs g.bay).drop 24).flatMap s.streamEntry

/-- The header of a segment (R257), with the length and CRC of its data as step 2 wrote it. -/
def State.segHeader (s : State) (g : Seg) (len crc : Nat) : List Byte :=
  let subs := s.baySubs g.bay
  let e := s.bayE g.bay
  let event := match cellGet (fun _ => 0) s.rec_.fireSeq g.fire with | 0 => Config.freeNat s.free | v + 1 => v
  let flags := b2n g.shortPre + 2 * b2n g.truncated + 4 * b2n g.cont + 8 * b2n (g.firstSteps != g.lastSteps) + 16 * b2n g.blocked
  let ext := s.segExt g
  let h := List.replicate 4096 0#8
  let h := patch h 0x000 (leBytes 4 0x54524C53 ++ leBytes 4 1 ++ leBytes 8 g.seq ++ leBytes 8 event ++
    leBytes 1 g.bay ++ leBytes 1 g.set ++ leBytes 1 g.slot ++ leBytes 1 g.kind ++ leBytes 4 flags ++
    leBytes 8 (g.tGtc / nsPerSec % 2 ^ 48) ++ leBytes 4 (g.tGtc % nsPerSec) ++ leBytes 2 g.tSteps ++ leBytes 2 g.tQual ++
    leBytes 4 g.tAngle ++ leBytes 4 g.tCycle ++ leBytes 8 (g.firstN.getD 0) ++ leBytes 8 g.lastN ++
    leBytes 4 (bayRowHz e) ++ leBytes 2 (bayWidth e) ++ leBytes 2 subs.length ++ leBytes 8 len ++ leBytes 4 crc)
  let h := patch h 0x060 (leBytes 4 (hdrLen subs.length) ++ leBytes 4 (if subs.length ≤ 24 then 0 else crcOf ext))
  let h := patch h 0x100 ((subs.take 24).flatMap s.streamEntry)
  let h := patch h 0x880 ((List.range 192).flatMap (fun c => leBytes 4 (s.cellScale g.bay c)))
  patch h 0x05C (leBytes 4 (crcOf h))

/-- Put the export under way. -/
def State.setExp (s : State) (x : Option Export) : State := { s with rec_ := { s.rec_ with exp := x } }

/-- Write bytes at block `lba` of a recorder namespace with Force Unit Access, in commands of at most 256 blocks to each member that takes writes; the
number of commands. -/
def State.exportWrite (s : State) (sl : Nat) : Nat → Nat → List Byte → State × Nat
  | 0, _, _ => (s, 0)
  | k + 1, lba, b =>
    if b.isEmpty then (s, 0) else
    let n := min 256 ((b.length + 4095) / 4096)
    let s := s.noteWrite sl lba n
    let t := s.writeTargets sl lba n
    let s := forEach t (fun p s => s.submit { d := s.nsDrive sl p.1, op := 1, lba := s.nsBase sl + lba, n := p.2
                                              bytes := (blockData n b).take (4096 * p.2), why := .exports, ns := sl, fua := true }) s
    let r := s.exportWrite sl k (lba + n) (b.drop (4096 * n))
    (r.1, r.2 + t.length)

/-- A failed export (R256): it is tried again from step 1 a second later. -/
def State.exportFail (s : State) (r : Nat) (x : Export) : State :=
  let s := ((s.setExp (some { x with step := 1, owed := 0, bad := false, done := none })).wr REC_NSr_HEAD.BUSY 0 r).count REC_cnt_LO.COUNT 4
  State.raise { s with rec_ := { s.rec_ with failedAt := s.tick + 1 } } 291 [i8 r]

/-- Send the writes of the export's step. -/
def State.exportStep (s : State) (g : Seg) (x : Export) : State :=
  let r := s.rd REC_SETc_MAX.NS g.set
  match s.recSlot r with
  | none => s.exportFail r x
  | some sl =>
    if !s.nsOnlineBit sl || s.nsSize sl < 16 * (x.unit + x.units) then s.exportFail r x else
    let data := s.segData g
    let ext := s.segExt g
    let b0 := 16 * x.unit
    let p :=
      if x.step = 1 then s.exportWrite sl 1 b0 (List.replicate 4096 0#8)
      else if x.step = 2 then
        let head := (ext ++ List.replicate (hdrLen (s.baySubs g.bay).length - 4096 - ext.length) 0#8)
        s.exportWrite sl (head.length + data.length + 1) (b0 + 1) (head ++ data)
      else s.exportWrite sl 1 b0 (s.segHeader g x.len x.crc)
    let x : Export := if x.step = 2 then { x with len := data.length, crc := crcOf data } else x
    let s := p.1.draw.setExp (some { x with owed := p.2, bad := false, done := if p.2 = 0 then some true else none })
    (s.wr REC_NSr_HEAD.BUSY 1 r).stgSettle

/-- The segment whose export comes first: the closed one with the lowest SEG_SEQ. -/
def State.firstClosed (s : State) : Option Seg :=
  (s.rec_.segs.filter (fun g => g.close.isSome)).foldl
    (fun (m : Option Seg) g => match m with | none => some g | some h => if g.seq < h.seq then some g else m) none

/-- Begin an export at its namespace's head. -/
def State.exportBegin (s : State) (g : Seg) : State :=
  let r := s.rd REC_SETc_MAX.NS g.set
  let units := (hdrLen (s.baySubs g.bay).length + (s.segData g).length + unitBytes - 1) / unitBytes
  let total := match s.recSlot r with | some sl => s.nsSize sl / 16 | none => 0
  let h := s.rd REC_NSr_HEAD.NS_HEAD r
  s.exportStep g { seg := g.id, step := 1, unit := if total < h + units then 0 else h, units := units }

/-- SEGMENT_EXPORT_START (R255). -/
def execSegmentExportStart (s : State) : Host.Outcome State Fault Refusal :=
  if s.rec_.exp.isSome || s.rd PWR_STATUS.PSTATE != 0 then ok s else
  match s.firstClosed with
  | none => ok s
  | some g => ok (s.bulkTouch.exportBegin g)

/-- MRAM offsets of SEG_SEQ and of the namespace heads (R405). -/
def segSeqAddr : Nat := 0x140000
def nsHeadAddr (r : Nat) : Nat := 0x140008 + 8 * r

/-- The export of a segment is complete: NS_HEAD moves on, overwritten segments are counted, the pin goes, SEG_SEQ is stored. -/
def State.exportDone (s : State) (g : Seg) (x : Export) : State :=
  let r := s.rd REC_SETc_MAX.NS g.set
  let total := match s.recSlot r with | some sl => s.nsSize sl / 16 | none => 0
  let head := if total = 0 then x.unit + x.units else (x.unit + x.units) % total
  let log := cellGet (fun _ => []) s.rec_.logs r
  let hit := log.filter (fun p => rangesMeet p.1 p.2 x.unit x.units)
  let bytes := x.len + hdrLen (s.baySubs g.bay).length
  let s := { s with rec_ := { s.rec_ with
    logs := cellSet (fun _ => []) s.rec_.logs r (log.filter (fun (p : Nat × Nat) => !rangesMeet p.1 p.2 x.unit x.units) ++ [(x.unit, x.units)])
    segs := s.rec_.segs.filter (fun h => h.id != g.id), exp := none, failedAt := 0 } }
  let s := if hit.isEmpty then s else (s.count REC_cnt_LO.COUNT 5 0 hit.length).raise 296 [i8 r]
  let s := (s.wr REC_NSr_HEAD.NS_HEAD head r).wr REC_NSr_HEAD.BUSY 0 r
  let s := (s.mramStore segSeqAddr (leBytes 8 (s.rd64 REC_SEQ_LO.SEQ))).mramStore (nsHeadAddr r) (leBytes 8 head)
  ((s.showPending r).cal 529 bytes).raise 290 [i64 g.seq]

/-- SEGMENT_EXPORT_STEP_DONE (R255, R256): the writes of a step have ended: the next step, the release of the segment, or a retry. -/
def execSegmentExportStepDone (s : State) : Host.Outcome State Fault Refusal :=
  match s.rec_.exp with
  | none => ok s
  | some x =>
    match x.done, s.rec_.segs.find? (fun g => g.id == x.seg) with
    | some good, some g =>
      if !good then ok (s.exportFail (s.rd REC_SETc_MAX.NS g.set) x)
      else if x.step < 3 then ok (s.exportStep g { x with step := x.step + 1, done := none })
      else ok (s.exportDone g x)
    | _, _ => ok s

/-- SEGMENT_EXPORT_RETRY (R256): a second after a failure the whole segment is tried again. -/
def execSegmentExportRetry (s : State) : Host.Outcome State Fault Refusal :=
  match s.rec_.exp with
  | none => ok s
  | some x =>
    if s.rec_.failedAt = 0 || s.rd PWR_STATUS.PSTATE != 0 then ok s else
    match s.rec_.segs.find? (fun g => g.id == x.seg) with
    | none => ok s
    | some g =>
      let s := s.advanceTo (s.rec_.failedAt - 1 + nsPerSec)
      ok (State.exportBegin { s with rec_ := { s.rec_ with failedAt := 0 } } g)

end Sys2Proof.Machine
end

