-- ==== Sys2Proof/Machine/Stage.lean ====
section
/-!
DEFINITION. The staging window of a block: its state, and how it closes (R39 to R43).
-/
namespace Sys2Proof.Machine

/-- State of a block's window: 0 Closed, 1 Open, 2 Armed. -/
def State.stState (s : State) (b : Blk) : Nat := s.rd STAGE_STATUS.STATE b.base

def State.stageOf (s : State) (b : Blk) : StageSt := tabGet s.stage b.bit
def State.setStage (s : State) (b : Blk) (x : StageSt) : State := { s with stage := tabSet s.stage b.bit x }

/-- A window ends with a RESULT; the staged values are dropped and VIEW clears when it closes (R41). -/
def State.endStage (s : State) (b : Blk) (result st : Nat) : State :=
  let s := (s.wr STAGE_STATUS.RESULT result b.base).wr STAGE_STATUS.STATE st b.base
  if st = 0 then (s.wr COMMIT_MARK.VIEW 0 b.base).setStage b {} else s

/-- Release the mark that a block has reserved (R40). -/
def State.freeMark (s : State) (b : Blk) : State :=
  { s with markOwner := s.markOwner.filter (fun p => p.2 != b.bit + 1) }

/-- ABORT: the staged set is dropped (R39). -/
def State.abortStage (s : State) (b : Blk) : State := (s.freeMark b).endStage b 5 0

/-- The instance whose angle a commit record holds when no mark gives it: G0, unless it is Off (R43). -/
def State.g0 (s : State) : Option Nat := if s.gstate 0 = 0 then none else some 0

/-- Source 20: a commit (result 1) or a forced abort (result 5) of a block. -/
def State.stageTold (s : State) (b : Blk) (result : Nat) (grain : Option Nat) : State := s.raise 20 [i8 b.bit, i8 result] grain

/-- Forced abort (R42): every Open window of one of these owners is aborted. -/
def State.forceAbort (s : State) (owner : Nat → Bool) : State :=
  forEach (Blk.all.filter (fun b => b.staged && s.stState b == 1 && owner (s.rd STAGE_STATUS.OWNER b.base)))
    (fun b s => (s.abortStage b).stageTold b 5 s.g0) s

/-- The staging owner of logical core `g` of cluster `k` (R363). -/
def coreOwner (k g : Nat) : Nat := 1 + 4 * k + g

end Sys2Proof.Machine
end

