-- ==== Sys2Proof/Machine/Cores.lean ====
section
/-!
DEFINITION. The Spindle cores and clusters (chapter 17): faults, retirement, reload, partitions' threads, and the firmware transmit
rings. What a core does between its commands is the programmer's reference's, so the rows below carry what the cluster supervisor
sees: the thread, its PC, and since when.
-/
namespace Sys2Proof.Machine

/-! ## Partitions and threads (R362, R365, R366) -/

def State.part (s : State) (p : Nat) : PartSt := tabGet s.boot.parts p
def State.setPart (s : State) (p : Nat) (x : PartSt) : State := { s with boot := { s.boot with parts := tabSet s.boot.parts p x } }

/-- The partitions of cluster `k` that have a checked copy. -/
def State.partsOf (s : State) (k : Nat) : List Nat :=
  (List.range 64).filter (fun p => s.rd BOOT_PARTp_STATUS.PSTATE p != 0 && (s.part p).cluster == k)

/-- The threads that partitions use on logical core `g` of cluster `k`. -/
def State.coreThreads (s : State) (k g : Nat) : Nat :=
  ((List.range 4).map (fun t => b2n ((s.partsOf k).any (fun p => bitOf (s.part p).cores g && bitOf (s.part p).threads (4 * g + t))) *
    2 ^ t)).sum

/-- State of a physical core: 0 Active, 1 Spare, 2 Stopped, 3 Retired, 4 Testing. -/
def State.coreState (s : State) (k c : Nat) : Nat := s.rd CPU_CLk_COREc_STATUS.CSTATE k c

/-- Set a core's state; every change raises the cluster's state-change source (R378). -/
def State.setCore (s : State) (k c v : Nat) : State :=
  if s.coreState k c = v then s else (s.wr CPU_CLk_COREc_STATUS.CSTATE v k c).raise (400 + 4 * k + 1) [i8 c]

/-- The logical position of physical core `c`, where it has one. -/
def State.logical (s : State) (k c : Nat) : Option Nat := (List.range 4).find? (fun g => s.physCore k g == c)

/-- Is `a` the code of a thread of logical core `g` of cluster `k` (R363)? -/
def onCore (k g a : Nat) : Bool := isThread a && agentCluster a == k && agentCore a == g

/-- Show whether each partition of cluster `k` runs: it is Stopped while one of its cores is not Active. -/
def State.showParts (s : State) (k : Nat) : State :=
  forEach ((s.partsOf k).filter (fun p => s.rd BOOT_PARTp_STATUS.PSTATE p < 3)) (fun p s =>
    let up := (List.range 4).all (fun g => !bitOf (s.part p).cores g || s.coreState k (s.physCore k g) == 0)
    s.wr BOOT_PARTp_STATUS.PSTATE (if up then 1 else 2) p) s

/-- The region of partition `p` is loaded again from the checked copy (R366). -/
def State.coldLoad (s : State) (p : Nat) : State := s.rtWrite (s.part p).base ((s.part p).checked.take (s.part p).size)

/-- The threads of logical core `g` stop: nothing waits, nothing is halted, reservations are aborted. Which threads are parked does not
change (R365). -/
def State.stopThreads (s : State) (k g c : Nat) : State :=
  let s := s.wr CPU_CLk_COREc_STATUS.WAITING 0 k c
  let s := s.abortHolders (onCore k g)
  { s with cpu := { s.cpu with halted := s.cpu.halted.filter (fun a => !onCore k g a) } }

/-- The partitions of a logical core start on its threads (R365, R366); each start raises the partition event (R378). A partition
that the image marks COLD has its region loaded again. -/
def State.warmStart (s : State) (k g c : Nat) : State :=
  let l := (s.partsOf k).filter (fun p => bitOf (s.part p).cores g)
  let s := forEach l (fun p s => if (s.part p).cold then s.coldLoad p else s) s
  let s := (s.wr CPU_CLk_COREc_STATUS.PARKED (15 - s.coreThreads k g) k c).wr CPU_CLk_COREc_STATUS.LOGICAL g k c
  let s := s.setCore k c 0
  (forEach l (fun _ s => s.raise (400 + 4 * k + 1) [i8 c]) s).showParts k

/-! ## Faults and retirement (R367, R368) -/

/-- The spare takes the logical position of core `c`, which is Retired, and the partition starts there; without a spare the
cluster's event is raised and a stopped partition stays stopped. -/
def State.retireCore (s : State) (k c : Nat) : State :=
  let sp := s.rd CPU_CLk_STATUS.SPARE k
  match s.logical k c with
  | none => s
  | some g =>
    if sp = 7 then (if s.coreState k c = 2 then s.raise (400 + 4 * k + 1) [i8 c] else s) else
    let s := (s.stopThreads k g c).setCore k c 3
    let m := s.rd CPU_CLk_STATUS.MAP k
    let s := (s.wr CPU_CLk_STATUS.MAP (m - bitsOf m (3 * g) 3 * 2 ^ (3 * g) + sp * 2 ^ (3 * g)) k).wr CPU_CLk_STATUS.SPARE 7 k
    (s.count CPU_cnt_LO.COUNT 1).warmStart k g sp

/-- Was an automatic restart made on this core less than 1 s ago? -/
def State.restartBarred (s : State) (k c : Nat) : Bool :=
  let t := tabGet s.cpu.autoAt (5 * k + c)
  t != 0 && decide (s.tick < t - 1 + nsPerSec)

/-- An automatic warm restart (R368). -/
def State.autoRestart (s : State) (k g c : Nat) : State :=
  if s.restartBarred k c then s else
  State.warmStart { s with cpu := { s.cpu with autoAt := tabSet s.cpu.autoAt (5 * k + c) (s.tick + 1) } } k g c

/-- A fault of a thread of core `c` (R367): the whole core stops, the fault is recorded, its reservations are aborted, and the
policy of R368 is applied. -/
def State.coreFault (s : State) (k c fcode thread pc : Nat) : State :=
  match s.logical k c with
  | none => s
  | some g =>
    let s := ((s.wr CPU_CLk_COREc_STATUS.FCODE fcode k c).wr CPU_CLk_COREc_STATUS.FTHREAD thread k c).wr64 CPU_CLk_COREc_FPC_LO.PC pc k c
    let s := (s.count CPU_cnt_LO.COUNT 0).raise (400 + 4 * k) [i8 c, i8 fcode]
    let s := (((s.setCore k c 2).stopThreads k g c).forceAbort (fun o => o == coreOwner k g)).showParts k
    match s.rd CPU_CLk_CFG.RETIRE_POLICY k, fcode == 3 with
    | 1, false => s.autoRestart k g c
    | 2, false => s.autoRestart k g c
    | 2, true => s.retireCore k c
    | 3, _ => s.retireCore k c
    | _, _ => s

/-- Does core `c` of cluster `k` run, outside a reload and Standby, with thread `t` unparked? -/
def State.coreRuns (s : State) (k c t : Nat) : Bool :=
  k < 8 && c < 5 && t < 4 && s.coreState k c == 0 && (s.logical k c).isSome && s.rd CPU_CLk_STATUS.STATE k == 0 &&
  !bitOf (s.rd CPU_CLk_COREc_STATUS.PARKED k c) t && s.rd PWR_STATUS.PSTATE == 0

/-- CORE_FAULT (R367): thread `t` of physical core `c` takes fault `fcode`, 1 to 5, at `pc`. A parked thread cannot fault. -/
def execCoreFault (k c fcode t pc : Nat) (s : State) : Host.Outcome State Fault Refusal :=
  if s.coreRuns k c t && 1 ≤ fcode && fcode ≤ 5 then ok (s.coreFault k c fcode t pc) else ok s

/-- CORE_WATCHDOG_EXPIRE (R367): since tick `since` no thread of the core has retired an instruction. -/
def execCoreWatchdogExpire (k c t pc since : Nat) (s : State) : Host.Outcome State Fault Refusal :=
  if s.coreRuns k c t && !bitOf (s.rd CPU_CLk_COREc_STATUS.WAITING k c) t then
    ok ((s.advanceTo (since + 10000000)).coreFault k c 7 t pc)
  else ok s

/-- May requester `who` command cluster `k` (R370)? -/
def State.mayCommand (s : State) (who k : Nat) : Bool :=
  !s.on CPU_CLk_CFG.PROT k || (isThread who && agentCluster who != k)

/-- A command of a cluster: it records CORE, and is counted and ignored where R370 refuses it. -/
def State.clusterCmd (s : State) (who k c : Nat) (f : State → State) : Host.Outcome State Fault Refusal :=
  if 8 ≤ k then ok s
  else if !s.mayCommand who k then ok s.bad
  else ok (f (s.wr CPU_CLk_CTRL.CORE c k))

/-- CORE_RESTART (R368): RESTART written for a Stopped core. -/
def execCoreRestart (who k c : Nat) (s : State) : Host.Outcome State Fault Refusal :=
  if s.shut who then ok (s.refuseWrite who) else
  s.clusterCmd who k c (fun s =>
    match s.logical k c with
    | some g => if c < 5 && s.coreState k c == 2 && s.rd CPU_CLk_STATUS.STATE k == 0 then s.warmStart k g c else s
    | none => s)

/-- CORE_RETIRE (R368): RETIRE written for a Stopped or an Active core. -/
def execCoreRetire (who k c : Nat) (s : State) : Host.Outcome State Fault Refusal :=
  if s.shut who then ok (s.refuseWrite who) else
  s.clusterCmd who k c (fun s =>
    if c < 5 && (s.coreState k c == 2 || s.coreState k c == 0) && s.rd CPU_CLk_STATUS.STATE k == 0 then s.retireCore k c else s)

/-- CORE_RESTORE (R368): RESTORE written for a Retired core starts its self-test. R370 does not name this command. -/
def execCoreRestore (k c : Nat) (s : State) : Host.Outcome State Fault Refusal :=
  if 8 ≤ k then ok s else
  let s := s.wr CPU_CLk_CTRL.CORE c k
  if c < 5 && s.coreState k c == 3 then ok (s.setCore k c 4) else ok s

/-- CORE_SELF_TEST_DONE (R368): a passed core is the spare; a failed one is Retired again, with an event. -/
def execCoreSelfTestDone (k c : Nat) (pass : Bool) (s : State) : Host.Outcome State Fault Refusal :=
  if 8 ≤ k || 5 ≤ c || s.coreState k c != 4 then ok s
  else if pass then ok ((s.setCore k c 1).wr CPU_CLk_STATUS.SPARE c k)
  else ok (s.setCore k c 3)

/-! ## Reload (R369) -/

/-- CLUSTER_RELOAD (R369): every core at a logical position stops. FCODE, FTHREAD, FPC and the transmit tails keep their values (DESIGN
CHOICE, log 70: the spec resets cores and L2 and names no register). -/
def execClusterReload (who k : Nat) (s : State) : Host.Outcome State Fault Refusal :=
  if s.shut who then ok (s.refuseWrite who) else
  if 8 ≤ k then ok s
  else if !s.mayCommand who k then ok s.bad
  else if s.rd CPU_CLk_STATUS.STATE k != 0 then ok s
  else
    let s := (s.count CPU_cnt_LO.COUNT 2).wr CPU_CLk_STATUS.STATE 1 k
    let s := forEach (List.range 4) (fun g s =>
      ((s.setCore k (s.physCore k g) 2).stopThreads k g (s.physCore k g)).wr CPU_CLk_COREc_STATUS.PARKED 15 k (s.physCore k g)) s
    ok ((s.forceAbort (fun o => decide (coreOwner k 0 ≤ o) && decide (o ≤ coreOwner k 3))).showParts k)

/-- CLUSTER_RELOAD_DONE (R369): the L2 is invalid and every partition cold-starts. -/
def execClusterReloadDone (k : Nat) (s : State) : Host.Outcome State Fault Refusal :=
  if 8 ≤ k || s.rd CPU_CLk_STATUS.STATE k != 1 then ok s else
  let s := forEach (s.partsOf k) (fun p s => s.coldLoad p) s
  let s := s.wr CPU_CLk_STATUS.STATE 0 k
  let s := forEach (List.range 4) (fun g s => s.warmStart k g (s.physCore k g)) s
  ok (s.raise (400 + 4 * k + 1) [i8 7])

/-- CORE_DEADLOCK (R375): since tick `since` every unparked thread of the core waits, none with an external condition. Under
DL_ACT the core faults, in thread `t` at `pc`. -/
def execCoreDeadlock (k c t pc since : Nat) (s : State) : Host.Outcome State Fault Refusal :=
  match s.logical k c with
  | none => ok s
  | some g =>
    if !s.coreRuns k c t || s.cpu.halted.any (onCore k g) then ok s else
    let s := s.advanceTo (since + 1000 * max 1 (s.rd CPU_CLk_CFG.DL_US k))
    let s := s.wr CPU_CLk_COREc_STATUS.WAITING (15 - s.rd CPU_CLk_COREc_STATUS.PARKED k c) k c
    let s := (s.count CPU_cnt_LO.COUNT 3).raise (400 + 4 * k + 2) [i8 c]
    if s.on CPU_CLk_CFG.DL_ACT k then ok (s.coreFault k c 6 t pc) else ok s

/-! ## Firmware transmit (R376) -/

/-- Bytes of the entry at count `i` of cluster `k`'s ring. -/
def State.fwEntryAt (s : State) (k i : Nat) : Nat :=
  s.rd64 CPU_CLk_TXBASE_LO.BASE k + 64 * (i % 2 ^ s.rd CPU_CLk_TXCFG.LOG2 k)

/-- Complete the entry at `a`: quadword 1, then quadword 0 (R292). -/
def State.fwComplete (s : State) (a q0 status detail : Nat) : State :=
  let q := completionQw (bitsOf q0 16 16) status detail 0 0
  (s.rtWrite (a + 8) (leBytes 8 q.2)).rtWrite a (leBytes 8 q.1)

/-- Take the entry at CONS of cluster `k`'s ring, if CONS has not reached TAIL and the entry is owned; was one taken? -/
def State.fwTakeOne (s : State) (k tail : Nat) : State × Bool :=
  let i := (tabGet s.cpu.tx k).cons
  if i = tail then (s, false) else
  let a := s.fwEntryAt k i
  let q := (List.range 8).map (fun j => leNat (s.rtRead (a + 8 * j) 8))
  if !bitOf (qwAt q 0) 63 then (s, false) else
  let s := { s with cpu := { s.cpu with tx := tabSet s.cpu.tx k { cons := (i + 1) % 2 ^ 32 } } }
  let l := if bitOf (qwAt q 0) 8 then tableFrags (s.rtRead (qwAt q 2) (16 * fragCount q)) else inlineFrags q
  let code := match entryCode 1 1 q with
    | 0 => if fragsReserved l then 1 else if fragsBad l then 4 else 0
    | c => c
  if code != 0 then (s.fwComplete a (qwAt q 0) 0xFF code, true)
  else
    let b := l.flatMap (fun p => s.rtRead p.1 (p.2 % 2 ^ 32))
    let e := qwAt q 1 / 2 ^ 32
    let s := (s.schEnqueue e { bytes := b, port := 40, cls := s.qClass e
                               fw := some (k, bitsOf (qwAt q 0) 16 16, bitsOf (qwAt q 0) 32 24) }).1
    (s.fwComplete a (qwAt q 0) 0 0, true)

/-- Take the entries of cluster `k`'s ring from CONS up to TAIL, as far as they are owned. -/
def State.fwTake (s : State) (k tail : Nat) : Nat → State
  | 0 => s
  | n + 1 => let r := s.fwTakeOne k tail; if r.2 then r.1.fwTake k tail n else r.1

/-- FW_TX_DOORBELL (R376): TXTAIL of cluster `k` written; a TAIL more than the ring's size ahead of what was taken submits
nothing (R291). -/
def execFwTxDoorbell (k : Nat) (val : Word) (s : State) : Host.Outcome State Fault Refusal :=
  if 8 ≤ k then ok s else
  let s := s.wr CPU_CLk_TXTAIL.TAIL val.toNat k
  let due := (val.toNat + 2 ^ 32 - (tabGet s.cpu.tx k).cons) % 2 ^ 32
  if 2 ^ s.rd CPU_CLk_TXCFG.LOG2 k < due then ok s else ok (s.fwTake k val.toNat due)

end Sys2Proof.Machine
end

