-- ==== Sys2Proof/Machine/Ingest.lean ====
section
/-!
DEFINITION. Sampled-value ingest (chapter 7): decoding, the order of checks, sequence and stream states, records, and key slots.
-/
namespace Sys2Proof.Machine

def State.sub (s : State) (i : Nat) : SubSt := tabGet s.svi.subs i
def State.setSub (s : State) (i : Nat) (x : SubSt) : State := { s with svi := { s.svi with subs := tabSet s.svi.subs i x } }

/-! ## The decoder (R147, R148) -/

/-- An ASDU as far as it is used. -/
structure Asdu where
  svid : List Byte := []
  smpCnt : Option Nat := none
  confRev : Option Nat := none
  smpSynch : Option Nat := none
  smpRate : Option Nat := none
  data : Option (List Byte) := none
  smpMod : Option Nat := none
  gm : Option (List Byte) := none

/-- A big-endian number of exactly `n` octets. -/
def sizedNat (n : Nat) (c : List Byte) : Option Nat := if c.length = n then some (beNat c) else none

/-- Take one field of an ASDU: none on a format error. -/
def asduField (a : Asdu) (tag : Nat) (c : List Byte) : Option Asdu :=
  match tag with
  | 0x80 => if 64 < c.length then none else some { a with svid := c }
  | 0x81 => if 64 < c.length then none else some a
  | 0x82 => (sizedNat 2 c).map (fun v => { a with smpCnt := some v })
  | 0x83 => (sizedNat 4 c).map (fun v => { a with confRev := some v })
  | 0x84 => some a
  | 0x85 => (sizedNat 1 c).map (fun v => { a with smpSynch := some v })
  | 0x86 => (sizedNat 2 c).map (fun v => { a with smpRate := some v })
  | 0x87 => some { a with data := some c }
  | 0x88 => (sizedNat 2 c).map (fun v => { a with smpMod := some v })
  | _ => some { a with gm := some c }

/-- What the decoder has met: unknown tags, and the ASDU, or none on a format error. -/
structure AsduRead where
  unknown : Nat := 0
  asdu : Option Asdu := none

/-- Read the fields of an ASDU in their order; `last` is the last field's tag. The mandatory fields must all be there. -/
def readAsdu : Nat → List Byte → Nat → Asdu → Nat → AsduRead
  | 0, _, _, _, u => { unknown := u }
  | fuel + 1, l, last, a, u =>
    if l.isEmpty then
      { unknown := u
        asdu := if a.svid.isEmpty || a.smpCnt.isNone || a.confRev.isNone || a.smpSynch.isNone || a.data.isNone then none else some a }
    else match berNext l with
      | none => { unknown := u }
      | some (t, c, r) =>
        if t / 64 != 2 then { unknown := u }
        else if t < 0x80 || 0x89 < t then readAsdu fuel r last a (u + 1)
        else if t ≤ last then { unknown := u }
        else match asduField a t c with
          | none => { unknown := u }
          | some a => readAsdu fuel r t a u

/-- Read the ASDUs of a seqASDU: unknown tags met, and the ASDUs or none. -/
def readAsdus : Nat → List Byte → Nat × Option (List Asdu)
  | 0, l => (0, if l.isEmpty then some [] else none)
  | fuel + 1, l =>
    if l.isEmpty then (0, some []) else
    match berNext l with
    | some (0x30, c, r) =>
      let x := readAsdu (c.length + 1) c 0 {} 0
      match x.asdu with
      | none => (x.unknown, none)
      | some a => let t := readAsdus fuel r; (x.unknown + t.1, t.2.map (fun m => a :: m))
    | _ => (0, none)

/-- The svID of the first ASDU, which is as far as step 2 of R155 decodes, with the unknown tags met before it. -/
def svidOf : Nat → List Byte → Nat → Nat × Option (List Byte)
  | 0, _, u => (u, none)
  | fuel + 1, l, u =>
    match berNext l with
    | none => (u, none)
    | some (t, c, r) =>
      if t = 0x80 then (u, if 64 < c.length then none else some c)
      else if t / 64 = 2 && 0x89 < t then svidOf fuel r (u + 1) else (u, none)

/-- A savPdu split into noASDU, the content of seqASDU and what follows it. -/
def savParts (pdu : List Byte) : Option (Nat × List Byte × List Byte) :=
  match berNext pdu with
  | some (0x80, [n], r) => (match berNext r with | some (0xA2, q, r) => some (n.toNat, q, r) | _ => none)
  | _ => none

/-- The checks of R148 that need the subscription. -/
def asdusFit (v : Nat) (l : List Asdu) : Bool :=
  let cs := l.map (fun a => a.smpCnt.getD 0)
  let cycle := if subProfile v = 0 then 80 else if subProfile v = 1 then 256 else subRate v
  let mod := if subProfile v = 2 then 1 else 0
  cs.all (fun c => decide (c < subWrap v)) &&
  (cs.zip (cs.drop 1)).all (fun p => p.2 == (p.1 + 1) % subWrap v) &&
  l.all (fun a => (a.data.getD []).length == 8 * subChannels v && (a.smpRate.getD cycle == cycle) && (a.smpMod.getD mod == mod))

/-! ## Sequence (R157, R158) and states (R161) -/

/-- Bits set below bit `n`. -/
def popCount : Nat → Nat → Nat
  | 0, _ => 0
  | n + 1, v => v % 2 + popCount n (v / 2)

/-- The case of R157. -/
inductive SeqCase where
  | dup | ahead | reorder | stale
  deriving DecidableEq, Repr

/-- The case of count `c` against H and the map. -/
def seqCase (wrap h map c : Nat) : SeqCase :=
  let d := (c + wrap - h % wrap) % wrap
  let below := wrap - d
  if d = 0 then .dup
  else if below ≤ 64 && bitOf map (below - 1) then .dup
  else if d ≤ wrap / 2 then .ahead
  else if below ≤ 64 then .reorder else .stale

/-- H, the map and the depth after an accepted count, and how many counts left the map unmarked. -/
def seqMove (wrap h : Nat) (x : SubSt) (c : Nat) : SubSt × Nat × Nat :=
  let d := (c + wrap - h % wrap) % wrap
  match seqCase wrap h x.map c with
  | .ahead =>
    let full := x.map * 2 ^ d + 2 ^ (d - 1)
    let n := x.depth + d
    let lost := (n - 64) - popCount (n - 64) (full / 2 ^ 64)
    ({ x with map := full % 2 ^ 64, depth := min 64 n }, c, lost)
  | .reorder => ({ x with map := setBit x.map (wrap - d - 1) true }, h, 0)
  | _ => (x, h, 0)

/-- Publish the numbers of subscriptions by state. -/
def State.showSubs (s : State) : State :=
  let n := fun (k : Nat) => (s.validSubs.filter (fun i => s.rd SVI_SUBs_STATE.STATE i == k)).length
  (((s.wr SVI_STATES_A.COUNT_HI (n 3)).wr SVI_STATES_A.COUNT_LO (n 2)).wr SVI_STATES_B.COUNT_HI (n 4)).wr SVI_STATES_B.COUNT_LO (n 1)

/-- Enter a stream state; every change raises source 192. -/
def State.setSubState (s : State) (i v : Nat) : State :=
  let st := s.rd SVI_SUBs_STATE.STATE i
  if st = v then s else ((s.wr SVI_SUBs_STATE.STATE v i).showSubs).raise 192 [i16 i, i8 st, i8 v]

/-- An entry cleared or restarted: Idle, with H, map and run count cleared (R161, R166). The admissions of the present 10 ms window
(R156) and the tick of the last entry to Acquiring (R179) stay. -/
def State.idleSub (s : State) (i : Nat) : State :=
  let x := s.sub i
  (((s.setSub i { win := x.win, admitted := x.admitted, acqTick := x.acqTick }).wr SVI_SUBs_STATE.H 0 i).wr SVI_SUBs_STATE.NOT_SYNC 0 i).setSubState i 0

/-- The first accepted count of a stream (R157, R158). -/
def State.startSub (s : State) (i c : Nat) : State :=
  let x := s.sub i
  let s := s.setSub i { x with map := 0, depth := 0, run := 1, acqTick := s.tick, gm := none, staleRun := 0 }
  (s.wr SVI_SUBs_STATE.H c i).setSubState i 1

/-- The state table of R161 for an accepted ASDU. -/
def State.subAdvance (s : State) (i : Nat) (next lost sync : Bool) : State :=
  let x := s.sub i
  let n := subAcqN (s.subE i)
  match s.rd SVI_SUBs_STATE.STATE i with
  | 1 =>
    if next && sync then
      let s := s.setSub i { x with run := x.run + 1 }
      if n ≤ x.run + 1 then s.setSubState i 2 else s
    else s.setSub i { x with run := 1 }
  | 2 => if lost || !sync then (s.setSub i { x with run := 0 }).setSubState i 3 else s
  | 3 =>
    if lost || !sync then s.setSub i { x with run := 0 }
    else if next then
      let s := s.setSub i { x with run := x.run + 1 }
      if n ≤ x.run + 1 then s.setSubState i 2 else s
    else s
  | _ => s

/-- Take one ASDU through step 9; the indices and reorder marks of those accepted. `first` starts the stream. -/
def State.takeAsdu (s : State) (i c : Nat) (sync first : Bool) : State × Option Bool :=
  if first then (s.startSub i c, some false) else
  let h := s.rd SVI_SUBs_STATE.H i
  let w := subWrap (s.subE i)
  match seqCase w h (s.sub i).map c with
  | .dup => (s.bump SVI_SUBs_DUP.DUP i, none)
  | .stale => (s.bump SVI_SUBs_DUP.STALE i, none)
  | k =>
    let m := seqMove w h (s.sub i) c
    let s := ((s.setSub i m.1).wr SVI_SUBs_STATE.H m.2.1 i).bump SVI_SUBs_SEQ.LOST i 0 m.2.2
    let s := if k = .reorder then s.bump SVI_SUBs_SEQ.REORDER i else s
    (s.subAdvance i (k == .ahead && (c + w - h % w) % w == 1) (m.2.2 != 0) sync, some (k == .reorder))

/-- Step 9 for the ASDUs of a frame, in order: (index, reorder) of each accepted. -/
def State.takeAsdus (s : State) (i : Nat) (sync : Bool) : List Asdu → Nat → Bool → State × List (Nat × Bool × Asdu)
  | [], _, _ => (s, [])
  | a :: t, k, first =>
    let r := s.takeAsdu i (a.smpCnt.getD 0) sync first
    let u := r.1.takeAsdus i sync t (k + 1) false
    (u.1, match r.2 with | some o => (k, o, a) :: u.2 | none => u.2)

/-- Would every ASDU of the frame be stale (R158)? -/
def allStale (w h map : Nat) (l : List Asdu) : Bool := l.all (fun a => seqCase w h map (a.smpCnt.getD 0) == .stale)

/-- A frame meets SYNC_REQ when every ASDU does (R159). -/
def meetsSync (v : Nat) (l : List Asdu) : Bool :=
  l.all (fun a =>
    let y := a.smpSynch.getD 0
    match subSyncReq v with | 0 => true | 2 => y == subSyncId v | _ => y != 0)

/-- The cells of an ASDU (R162, R163). -/
def asduCells (sync sim : Bool) (a : Asdu) : List Nat :=
  let d := a.data.getD []
  (List.range (d.length / 8)).map (fun k =>
    mkCell (beAt d (8 * k) 4) (beAt d (8 * k + 4) 4 % 2 ^ 14 + b2n (!sync) * 2 ^ 14 + b2n sim * 2 ^ 15) 0 0)

/-- smpSynch and gmIdentity of an accepted frame (R159, R160). -/
def State.noteAsdu (s : State) (i : Nat) (a : Asdu) : State :=
  let y := a.smpSynch.getD 0
  let old := s.rd SVI_SUBs_STATE.SMPSYNCH i
  let s := if (s.sub i).synched && old != y then s.raise 197 [i16 i, i8 old, i8 y] else s
  let s := (s.setSub i { s.sub i with synched := true }).wr SVI_SUBs_STATE.SMPSYNCH y i
  match a.gm with
  | none => s
  | some g =>
    let s := match (s.sub i).gm with
      | some o => if o = g then s else s.raise 203 [i16 i, i32 (beNat (g.take 4))]
      | none => s
    s.setSub i { s.sub i with gm := some g }

/-- Steps 9 and 10 and the records of a frame that has passed step 8. -/
def State.sequence (s : State) (i : Nat) (f : RxFrame) (l : List Asdu) (auth sim : Bool) : State :=
  let v := s.subE i
  let x := s.sub i
  let st := s.rd SVI_SUBs_STATE.STATE i
  let c0 := match l with | a :: _ => a.smpCnt.getD 0 | [] => 0
  let idle := st == 0 || st == 4
  let stale := !idle && allStale (subWrap v) (s.rd SVI_SUBs_STATE.H i) x.map l
  let run := if x.staleRun != 0 && x.staleCnt == c0 then x.staleRun + 1 else 1
  let s := s.setSub i { x with staleRun := if stale then run else 0, staleCnt := (c0 + l.length) % subWrap v }
  let again := stale && decide (4 ≤ run)
  let s := if again then (s.bump SVI_SUBs_RESYNC.RESYNC i).raise 199 [i16 i, i16 c0] else s
  let sync := meetsSync v l
  let r := s.takeAsdus i sync l 0 (idle || again)
  if r.2.isEmpty then r.1 else
  let s := r.1.setSub i { r.1.sub i with lastTick := f.endTick }
  let s := (s.wr SVI_SUBs_OK.COUNT (s.rd SVI_SUBs_OK.COUNT i + 1) i).wr SVI_SUBs_LAST.NS (f.endGtc % nsPerSec) i
  let s := forEach l (fun a s => s.noteAsdu i a) s
  let s := s.wr SVI_SUBs_STATE.NOT_SYNC (b2n (!sync)) i
  let recs := r.2.map (fun (p : Nat × Bool × Asdu) =>
    ({ stamp := f.endGtc, sub := i, asdu := p.1, authOk := auth, reorder := p.2.1, smpCnt := p.2.2.smpCnt.getD 0
       smpSynch := p.2.2.smpSynch.getD 0, steps := f.steps, cells := asduCells sync sim p.2.2 } : SvRec))
  let s := (s.count SVI_cnt_LO.COUNT 7 0 recs.length).cal 338 recs.length
  { s with svi := { s.svi with recs := s.svi.recs ++ recs } }

/-! ## The order of checks (R155) -/

/-- Steps 4 to 8 for a frame of subscription `i`. -/
def State.subChecks (s : State) (i : Nat) (f : RxFrame) (a : App) (p : Nat × List Byte × List Byte) (early : Nat) : State :=
  let v := s.subE i
  let sim := bitOf a.res1 15
  if sim && !s.on SVI_CFG.SIM_ACCEPT then s.count SVI_cnt_LO.COUNT 4 else
  let w := s.tim.gtc / 10000000 + 1
  let x := s.sub i
  let x : SubSt := if x.win = w then x else { x with win := w, admitted := 0 }
  let most := (5 * subRate v + 400 * subAsdus v - 1) / (400 * subAsdus v) + 1
  if most ≤ x.admitted then ((s.setSub i x).bump SVI_SUBs_ERR2.OVERRATE i).raise 198 [i16 i] else
  let s := s.setSub i { x with admitted := x.admitted + 1 }
  match s.authCheck (subKeySlot v) (subAuth v) (subMacAlg v) a with
  | .fail id => (s.bump SVI_SUBs_ERR.AUTH_FAIL i).raise 193 [i16 i, i32 id]
  | .pass auth =>
    let s := if auth then s.cal 337 else s
    let r := readAsdus p.2.1.length p.2.1
    let s := s.count SVI_cnt_LO.COUNT 6 0 (r.1 - early)
    match r.2 with
    | none => (s.bump SVI_SUBs_ERR2.FORMAT_ERR i).raise 195 [i16 i]
    | some l =>
      if !p.2.2.isEmpty || p.1 != subAsdus v || l.length != p.1 || !asdusFit v l then
        (s.bump SVI_SUBs_ERR2.FORMAT_ERR i).raise 195 [i16 i]
      else
        let s := s.cal 336
        match l.find? (fun y => y.confRev.getD 0 != subConfRev v) with
        | some y => (s.bump SVI_SUBs_ERR.CONFREV_ERR i).raise 194 [i16 i, i32 (y.confRev.getD 0)]
        | none => s.sequence i f l auth sim

/-- A frame that cannot be decoded as far as svID, or that meets a unit not enabled. -/
def State.decodeErr (s : State) (f : RxFrame) : State := (s.count SVI_cnt_LO.COUNT 2).raise 195 [i8 f.port]

/-- The subscription of a frame (R151). -/
def State.findSub (s : State) (f : RxFrame) (a : App) (svid : List Byte) : Option Nat :=
  s.validSubs.find? (fun i =>
    let v := s.subE i
    subDmac v == dstMac f.bytes && subAppid v == a.appid && subSvidLen v == svid.length &&
    (subSvid v).take (subSvidLen v) == svid && bitOf (subPorts v) f.port)

/-- Steps 2 and 3 for a sampled-value frame. -/
def State.ingest (s : State) (f : RxFrame) : State :=
  match readApp f.bytes with
  | none => s.decodeErr f
  | some a =>
    if a.tag != 0x60 then s.decodeErr f else
    match savParts a.pdu with
    | none => s.decodeErr f
    | some p =>
      match berNext p.2.1 with
      | some (0x30, c, _) =>
        let q := svidOf (c.length + 1) c 0
        let s := s.count SVI_cnt_LO.COUNT 6 0 q.1
        match q.2 with
        | none => s.decodeErr f
        | some svid =>
          match s.findSub f a svid with
          | some i => s.subChecks i f a p q.1
          | none =>
            let d := dstMac f.bytes
            let s := ((s.count SVI_cnt_LO.COUNT 3).wr SVI_NOSUB_LO.KEY d).wr SVI_NOSUB_HI.KEY (d / 2 ^ 32 + a.appid * 2 ^ 16)
            ((s.wr SVI_NOSUB_PORT.VALID 1).wr SVI_NOSUB_PORT.PORT f.port).raise 196 [i8 f.port, i16 a.appid]
      | _ => s.decodeErr f

/-- SV_FRAME_INGEST (R155): the oldest frame of the input FIFO is taken through the checks. A GOOSE frame leaves for its intake,
whose FIFO holds 64 (R149, R242). -/
def execSvFrameIngest (s : State) : Host.Outcome State Fault Refusal :=
  match s.ppl.svIn with
  | [] => ok s
  | f :: t =>
    let s := State.showSvFifo { s with ppl := { s.ppl with svIn := t } }
    if !s.on SVI_CFG.ENABLE then ok (s.decodeErr f) else
    let e := etherType f.bytes
    if e != (if f.goose then 0x88B8 else 0x88BA) then ok ((s.count SVI_cnt_LO.COUNT 1).raise 201 [i8 f.port, i16 e])
    else if f.goose then
      if 64 ≤ s.ppl.gooseIn.length then ok (s.count TRP_cnt_LO.COUNT 16)
      else ok { s with ppl := { s.ppl with gooseIn := s.ppl.gooseIn ++ [f] } }
    else ok (s.ingest f)

/-- SV_LOSS_SCAN (R161): at a whole multiple of 100 µs of GTC time, streams without an accepted frame within LOSS are Lost. -/
def execSvLossScan (s : State) : Host.Outcome State Fault Refusal :=
  let s := s.advanceTo (s.nextGtc 100000)
  let gone := s.validSubs.filter (fun i =>
    let st := s.rd SVI_SUBs_STATE.STATE i
    (st == 1 || st == 2 || st == 3) && decide ((s.sub i).lastTick + 100000 * subLoss (s.subE i) ≤ s.tick))
  ok (forEach gone (fun i s =>
    let x := s.sub i
    (s.bump SVI_SUBs_SEQ.LOST i 0 (x.depth - popCount x.depth x.map)).setSubState i 4) s)

/-! ## Key slots (R154) -/

/-- The next key of slot `k` becomes current. Without a next key nothing happens. -/
def State.promoteKey (s : State) (k : Nat) : State :=
  if !s.on SVI_KEYk_CTRL.VALID_NEXT k then s else
  let s := forEach (List.range 8) (fun w s => s.wr SVI_KEYk_CURw.KEY (s.rd SVI_KEYk_NEXTw.KEY k w) k w) s
  let id := s.rd SVI_KEYk_ID_NEXT.ID k
  let s := ((s.wr SVI_KEYk_ID_CUR.ID id k).wr SVI_KEYk_CTRL.VALID_CUR 1 k).wr SVI_KEYk_CTRL.VALID_NEXT 0 k
  s.raise 202 [i8 k, i32 id]

/-- KEY_PROMOTE (R154): a write of 1 to PROMOTE of slot `k`. -/
def execKeyPromote (k : Nat) (s : State) : Host.Outcome State Fault Refusal :=
  if k < 256 then ok (s.promoteKey k) else ok s

/-- KEY_AUTO_PROMOTE (R154): with AUTO set, at the first GTC second that reaches NEXT_FROM. -/
def execKeyAutoPromote (k : Nat) (s : State) : Host.Outcome State Fault Refusal :=
  if 256 ≤ k || !s.on SVI_KEYk_CTRL.AUTO k || !s.on SVI_KEYk_CTRL.VALID_NEXT k then ok s else
  let sec := s.rd SVI_KEYk_NEXT_FROM_LO.SEC k + s.rd SVI_KEYk_NEXT_FROM_HI.SEC k % 2 ^ 16 * 2 ^ 32
  ok ((s.advanceTo (s.tickOfGtc (sec * nsPerSec))).promoteKey k)

end Sys2Proof.Machine
end

