-- ==== Sys2Proof/Machine/Holding.lean ====
section
/-!
DEFINITION. The holding registers of each requester (R36).
-/
namespace Sys2Proof.Machine

/-- A _LO value written is held for the requester; `lo` is the address of the _LO register. -/
def State.holdLo (s : State) (who lo v : Nat) : State :=
  { s with wrHold := tabSet s.wrHold who { valid := true, addr := lo, val := v } }

/-- A _HI write: the 64-bit value that takes effect and the state with the held half used up. With no _LO value of the pair held
the _HI half alone is applied and GLB_BAD_ACCESS counts it. -/
def State.takeHi (s : State) (who lo hi : Nat) : State × Nat :=
  let h := tabGet s.wrHold who
  if h.valid && h.addr == lo then ({ s with wrHold := tabSet s.wrHold who {} }, h.val + hi * 2 ^ 32)
  else (s.bad, (s.reg lo).toNat + hi * 2 ^ 32)

/-- A _LO read copies the _HI register for the requester. -/
def State.copyHi (s : State) (who lo hi : Nat) : State :=
  { s with rdHold := tabSet s.rdHold who { valid := true, addr := lo, val := hi } }

/-- What a read of the _HI register of the pair at `lo` returns, and the copy is used up: `live` when no copy of the pair is held. -/
def State.readHi (s : State) (who lo live : Nat) : State × Nat :=
  let h := tabGet s.rdHold who
  if h.valid && h.addr == lo then ({ s with rdHold := tabSet s.rdHold who {} }, h.val) else (s, live)

end Sys2Proof.Machine
end

