-- ==== Sys2Proof/Machine/Memory.lean ====
section
/-!
DEFINITION. The DRAM controllers and the register access to MRAM (chapter 19). Class 0 is real-time and class 1 bulk; a key of a
channel is class × 4 + channel.
-/
namespace Sys2Proof.Machine

def State.setMem (s : State) (m : MemSt) : State := { s with mem := m }

/-- Is any TIM quiet window open? -/
def State.quiet (s : State) : Bool := s.on TIM_QW_STATUS.OPEN

/-- Channels fitted. -/
def State.chansOf (s : State) (c : Nat) : Nat := s.rd MEM_CLc_STATUS.CHANNELS c

/-- The channel that holds a class offset (R390). -/
def State.chanAt (s : State) (c off : Nat) : Nat := off / (if c = 0 then 256 else 4096) % max 1 (s.chansOf c)

/-- The Calipers event `i` of a class (R431). -/
def State.calMem (s : State) (c i n : Nat) : State := if n = 0 then s else s.cal (1216 + 24 * c + i) n

/-! ## Refresh (R396, R397) -/

/-- 4 ms, the period of temperature readings and row-tracking epochs. -/
def epochTicks : Nat := 4000000

/-- Refresh interval of a bank of a die, in ticks: 488 ns, or a quarter of it when the die is hot. -/
def State.refInterval (s : State) (c ch : Nat) : Nat := if s.mem.hot.contains (4 * c + ch) then 122 else 488

/-- Key of a bank. -/
def bankKey (c ch bank : Nat) : Nat := c * 65536 + ch * 256 + bank

/-- Set the refreshes that a bank owes. -/
def State.setOwed (s : State) (k : Nat) (v : Int) : State := s.setMem { s.mem with owed := cellSet (fun _ => 0) s.mem.owed k v }

/-- `n` refreshes of a bank are paid or pulled in. -/
def State.payRefresh (s : State) (c ch bank n : Nat) : State :=
  (s.setOwed (bankKey c ch bank) (cellGet (fun _ => 0) s.mem.owed (bankKey c ch bank) - n)).calMem c 3 n

/-- A requester's row reached TRACK_THRESH on a channel: targeted refresh, throttle, and source 456; requester 0 is never throttled
(R394, R395). -/
def State.throttle (s : State) (c ch bank req : Nat) : State :=
  if req = 0 || 18 < req then s else
  let s := s.wr MEM_THROTTLE.REQ (setBit (s.rd MEM_THROTTLE.REQ) req true)
  (s.count MEM_cnt_LO.COUNT 4).raise 456 [i8 c, i8 bank, i8 req] none (some (4 * c + ch))

/-- MEM_REFRESH_DUE (R396, R397). `idle`: no request waits for the bank. `rfm`: refresh-management commands that the bank has issued
since its last interval, and `hit`: requesters whose most activated row has reached TRACK_THRESH in it (R394). -/
def execMemRefreshDue (c ch bank : Nat) (idle : Bool) (rfm : Nat) (hit : List Nat) (s : State) :
    Host.Outcome State Fault Refusal :=
  if !s.on MEM_CLc_STATUS.TRAINED c || s.chansOf c ≤ ch || s.on MEM_CLc_STATUS.IN_SR c then ok s else
  let k := bankKey c ch bank
  let s := s.advanceTo (cellGet (fun _ => 0) s.mem.refAt k + s.refInterval c ch)
  let s := s.setMem { s.mem with refAt := cellSet (fun _ => 0) s.mem.refAt k s.tick }
  let s := if rfm = 0 then s else s.count MEM_cnt_LO.COUNT 3 0 rfm
  let s := forEach hit (fun r s => s.throttle c ch bank r) s
  let owes : Int := cellGet (fun _ => 0) s.mem.owed k + 1
  let s := s.setOwed k owes
  let free := Config.freeNat s.free
  if c = 0 && s.quiet then
    -- what is owed is paid, and a free number of refreshes is pulled in, up to 8 ahead
    ok (s.draw.payRefresh c ch bank ((owes + 8).toNat - free % 9))
  else if idle then
    -- a free number of the refreshes owed, at least one, is paid; a bank that is ahead needs none
    if owes ≤ 0 then ok s else ok (s.draw.payRefresh c ch bank (1 + free % owes.toNat))
  else if owes < 8 then ok s
  else
    let s := (s.count MEM_cnt_LO.COUNT 2).payRefresh c ch bank 1
    if s.mem.forcedAt = 0 || s.mem.forcedAt - 1 + rateTicks ≤ s.tick then
      ok ((s.setMem { s.mem with forcedAt := s.tick + 1 }).raise 450 [i8 c, i8 ch, i8 bank])
    else ok s

/-! ## Updates and retraining (R400, R401) -/

/-- A channel's update is done: it is no longer due, and an asked-for retraining of a real-time channel is complete. -/
def State.updateDone (s : State) (c ch : Nat) : State :=
  let k := 4 * c + ch
  let asked := c == 0 && s.mem.asked.contains ch
  let s := s.setMem { s.mem with last := cellSet (fun _ => 0) s.mem.last k s.tick, due := cellSet (fun _ => 0) s.mem.due k 0
                                 atTemp := cellSet (fun _ => 0) s.mem.atTemp k (sgn 8 (s.rd MEM_TEMPd.DEGC k))
                                 asked := if asked then s.mem.asked.filter (fun x => x != ch) else s.mem.asked }
  if asked then s.raise 453 [i8 0, i8 ch] else s

/-- A channel's update falls due: a bulk channel does it, a real-time channel only inside an open quiet window. -/
def State.updateDue (s : State) (c ch : Nat) : State :=
  if c = 1 || s.quiet then s.updateDone c ch
  else if cellGet (fun _ => 0) s.mem.due (4 * c + ch) = 0 then
    s.setMem { s.mem with due := cellSet (fun _ => 0) s.mem.due (4 * c + ch) (s.tick + 1) }
  else s

/-- MEM_TEMP_READ (R396, R400): every 4 ms. `temps` are the readings of the real-time dies and the bulk channels, in °C. -/
def execMemTempRead (temps : List Int) (s : State) : Host.Outcome State Fault Refusal :=
  let s := s.advanceTo (s.nextScan epochTicks)
  let s := forEach (List.range 8) (fun d s =>
    if s.chansOf (d / 4) ≤ d % 4 then s else
    let t := temps.getD d 0
    let was := s.mem.hot.contains d
    let now := if was then decide (120 < t) else decide (125 < t)
    let s := s.wr MEM_TEMPd.DEGC (unsgn 8 t) d
    let s := s.setMem { s.mem with hot := if now = was then s.mem.hot else if now then d :: s.mem.hot else s.mem.hot.filter (fun x => x != d) }
    let s := if now = was then s else s.raise 451 [i8 (d / 4), i8 (d % 4), i8 (if now then 4 else 1)]
    if 10 ≤ (t - cellGet (fun _ => 0) s.mem.atTemp d).natAbs then s.updateDue (d / 4) (d % 4) else s) s
  let any := fun (c : Nat) => b2n (s.mem.hot.any (fun d => d / 4 == c))
  ok ((s.wr MEM_CLc_STATUS.MULT4 (any 0) 0).wr MEM_CLc_STATUS.MULT4 (any 1) 1)

/-- MEM_RETRAIN_DUE (R400): RETRAIN_MS since the last update of a channel. -/
def execMemRetrainDue (c ch : Nat) (s : State) : Host.Outcome State Fault Refusal :=
  if !s.on MEM_CLc_STATUS.TRAINED c || s.chansOf c ≤ ch then ok s else
  let ms := if s.on MEM_TRAIN.RETRAIN_MS then s.rd MEM_TRAIN.RETRAIN_MS else 100
  ok ((s.advanceTo (cellGet (fun _ => 0) s.mem.last (4 * c + ch) + 1000000 * ms)).updateDue c ch)

/-- MEM_RETRAIN_DEADLINE (R400): an update still due DEADLINE_MS after it fell due is done at the next idle gap. -/
def execMemRetrainDeadline (c ch : Nat) (s : State) : Host.Outcome State Fault Refusal :=
  match cellGet (fun _ => 0) s.mem.due (4 * c + ch) with
  | 0 => ok s
  | t + 1 => ok (((s.advanceTo (t + 1000000 * s.rd MEM_TRAIN.DEADLINE_MS)).updateDone c ch).raise 452 [i8 c, i8 ch] none (some (4 * c + ch)))

/-- MEM_RETRAIN_REQUEST (R401): a write of MEM_TRAIN_CMD with GO. -/
def execMemRetrainRequest (val : Word) (s : State) : Host.Outcome State Fault Refusal :=
  let c := bitsOf val.toNat 3 1
  let ch := bitsOf val.toNat 0 3
  let s := (s.wr MEM_TRAIN_CMD.CLASS c).wr MEM_TRAIN_CMD.CHANNEL ch
  if s.chansOf c ≤ ch then ok s
  else if c = 1 then ok (s.setMem { s.mem with training := if s.mem.training.contains ch then s.mem.training else s.mem.training ++ [ch] })
  else ok (State.setMem s { s.mem with asked := if s.mem.asked.contains ch then s.mem.asked else s.mem.asked ++ [ch]
                                       due := if cellGet (fun _ => 0) s.mem.due ch = 0 then cellSet (fun _ => 0) s.mem.due ch (s.tick + 1) else s.mem.due })

/-- MEM_RETRAIN_DONE (R401): full retraining of a bulk channel ends. -/
def execMemRetrainDone (ch : Nat) (s : State) : Host.Outcome State Fault Refusal :=
  if !s.mem.training.contains ch then ok s else
  ok ((s.setMem { s.mem with training := s.mem.training.filter (fun x => x != ch)
                             last := cellSet (fun _ => 0) s.mem.last (4 + ch) s.tick }).raise 453 [i8 1, i8 ch])

/-! ## Repair (R403, R404) -/

/-- A repair starts: its row is read to the hold buffer and source 454 raised. -/
def State.startRepair (s : State) (r : Repair) : State :=
  let s := s.setMem { s.mem with repairs := s.mem.repairs.map (fun x => if x = r then { x with running := true } else x) }
  let s := if r.cmd then s.wr MEM_REPAIR_CMD.STATE 2 else s
  s.raise 454 [i8 r.cls, i64 r.off]

/-- A repair is queued; a bulk repair starts at once. -/
def State.queueRepair (s : State) (r : Repair) : State :=
  let s := s.setMem { s.mem with repairs := s.mem.repairs ++ [r] }
  let s := if r.cmd then s.wr MEM_REPAIR_CMD.STATE 1 else s
  if r.cls = 1 then s.startRepair r else s

/-- A repair fails or is dropped. -/
def State.failRepair (s : State) (r : Repair) : State :=
  let s := s.setMem { s.mem with repairs := s.mem.repairs.filter (fun x => x != r) }
  let s := if r.cmd then s.wr MEM_REPAIR_CMD.STATE 4 else s
  s.raise 455 [i8 r.cls, i64 r.off]

/-- MEM_REPAIR_REQUEST (R403): a write of MEM_REPAIR_CMD with GO, ignored unless STATE is 0, 3 or 4. An offset outside the class fails. -/
def execMemRepairRequest (val : Word) (s : State) : Host.Outcome State Fault Refusal :=
  let c := bitsOf val.toNat 0 1
  let m := bitsOf val.toNat 1 1
  let s := (s.wr MEM_REPAIR_CMD.CLASS c).wr MEM_REPAIR_CMD.MODE m
  if s.rd MEM_REPAIR_CMD.STATE = 1 || s.rd MEM_REPAIR_CMD.STATE = 2 then ok s else
  let r : Repair := { cls := c, off := s.rd64 MEM_REPAIR_ADDR_LO.OFFSET, mode := m, from_ := s.tick }
  if s.usable c ≤ r.off then ok (s.failRepair r) else ok (s.queueRepair r)

/-- Real-time repairs that have not started. -/
def State.waitingRepairs (s : State) : List Repair := s.mem.repairs.filter (fun r => !r.running)

/-- MEM_REPAIR_WAIT_EXPIRE (R403): no quiet window within REPAIR_WAIT_MS. -/
def execMemRepairWaitExpire (s : State) : Host.Outcome State Fault Refusal :=
  match s.waitingRepairs with
  | [] => ok s
  | r :: _ => ok ((s.advanceTo (r.from_ + 1000000 * s.rd MEM_CFG.REPAIR_WAIT_MS)).startRepair r)

/-- Entries of the repair log. -/
def repairLogSize : Nat := 1024

/-- Place of a repair log entry in MRAM. -/
def repairLogAt (n : Nat) : Nat := 0x150000 + 64 * n

/-- MEM_REPAIR_DONE (R403): the repair of the oldest running row of a class ends. `remapped`: the die had no soft repair left.
A full log, or a log write that is refused, fails it. -/
def execMemRepairDone (c : Nat) (success remapped : Bool) (die bank row : Nat) (s : State) : Host.Outcome State Fault Refusal :=
  match s.mem.repairs.find? (fun r => r.cls == c && r.running) with
  | none => ok s
  | some r =>
    let n := s.rd MEM_REPAIR_CMD.LOG_USED
    let mode := if remapped then 1 else r.mode
    if !success || repairLogSize ≤ n then ok (s.failRepair r)
    else if s.on PWR_STATUS.NV_REFUSED then ok ((s.mramRefused (repairLogAt n)).failRepair r)
    else
      let s := s.mramWrite (repairLogAt n) (leBytes 8 (c + die % 2 ^ 8 * 2 ^ 8 + bank % 2 ^ 8 * 2 ^ 16 + row % 2 ^ 32 * 2 ^ 32))
      let s := s.mramWrite (repairLogAt n + 56) (leBytes 8 (1 + mode))
      let s := (s.wr MEM_REPAIR_CMD.LOG_USED (n + 1)).count MEM_cnt_LO.COUNT 5
      let s := s.setMem { s.mem with repairs := s.mem.repairs.filter (fun x => x != r) }
      let s := if r.cmd then s.wr MEM_REPAIR_CMD.STATE 3 else s
      ok (s.raise 454 [i8 r.cls, i64 r.off])

/-- Entry of Standby drops the repairs that have not started (R404). -/
def State.dropRepairs (s : State) : State := forEach s.waitingRepairs (fun r s => s.failRepair r) s

/-- What the opening of a quiet window lets the controllers do: owed refreshes of the real-time class are paid, its due updates are
done, and its waiting repairs start (R396, R400, R401, R403). -/
def State.memWindow (s : State) : State :=
  let s := forEach s.mem.owed (fun p s =>
    if p.1 < 65536 && decide (0 < p.2) then s.payRefresh 0 (p.1 / 256) (p.1 % 256) p.2.toNat else s) s
  let s := forEach (List.range 4) (fun ch s => if cellGet (fun _ => 0) s.mem.due ch = 0 then s else s.updateDone 0 ch) s
  forEach s.waitingRepairs (fun r s => s.startRepair r) s

/-! ## Errors and scrubbing (R391, R404) -/

/-- 24 hours in ticks. -/
def dayTicks : Nat := 86400000000000

/-- Entries of the error FIFO. -/
def eccFifo : Nat := 16

/-- A corrected sector of row `row` of a class counts towards AUTO_REPAIR. -/
def State.noteCorrected (s : State) (c off row : Nat) : State :=
  let k := c * 2 ^ 40 + row
  let old := (tabGet s.mem.ceRows k).filter (fun x => x.1 != off / 32 && decide (s.tick < x.2 + dayTicks))
  let l := (off / 32, s.tick) :: old
  if s.on MEM_CFG.AUTO_REPAIR && max 1 (s.rd MEM_CFG.CE_REPAIR) ≤ l.length then
    State.queueRepair (s.setMem { s.mem with ceRows := tabSet s.mem.ceRows k [] }) { cls := c, off := off, mode := 0, from_ := s.tick, cmd := false }
  else s.setMem { s.mem with ceRows := tabSet s.mem.ceRows k l }

/-- DRAM_ECC_ERROR (R391): an access of requester `req` finds an error in the sector at `off`; `row` numbers the DRAM row that holds it. -/
def execDramEccError (c off : Nat) (ue : Bool) (req row : Nat) (s : State) : Host.Outcome State Fault Refusal :=
  let lo := off % 2 ^ 32
  let hi := off / 2 ^ 32 % 256 + req % 32 * 2 ^ 24 + c % 2 * 2 ^ 29 + b2n ue * 2 ^ 30 + 2 ^ 31
  let s := if s.mem.ecc.length < eccFifo then s.setMem { s.mem with ecc := s.mem.ecc ++ [(lo, hi)] } else s
  if ue then ok ((s.count MEM_cnt_LO.COUNT 1).raise 449 [i8 c, i64 off, i8 req])
  else
    let s := (s.count MEM_cnt_LO.COUNT 0).calMem c 4 1
    ok ((s.raise 448 [i8 c, i64 off] none (some (4 * c + s.chanAt c off))).noteCorrected c off row)

/-- A read of MEM_ECC_LO returns and pops the oldest entry, and its other half is kept for the requester (R391). -/
def State.eccPop (s : State) (who : Nat) : State :=
  let e := s.mem.ecc.headD (0, 0)
  ((s.setMem { s.mem with ecc := s.mem.ecc.drop 1 }).copyHi who (MEM_ECC_LO.ENTRY.addr 0 0) e.2).answer e.1

/-- MEM_ECC_POP (R391). -/
def execMemEccPop (who : Nat) (s : State) : Host.Outcome State Fault Refusal :=
  if s.shut who then ok (s.refuseRead who) else
  ok (s.eccPop who)

/-- MEM_SCRUB_PASS (R391): one pass over every sector in each SCRUB_H hours. -/
def execMemScrubPass (s : State) : Host.Outcome State Fault Refusal :=
  let h := if s.on MEM_CFG.SCRUB_H then s.rd MEM_CFG.SCRUB_H else 24
  let s := s.advanceTo (s.mem.scrubFrom + 3600000000000 * h)
  ok ((s.setMem { s.mem with scrubFrom := s.tick }).count MEM_cnt_LO.COUNT 8)

/-- MEM_RD_EPOCH_END (R394): throttles last until the 4 ms epoch ends. -/
def execMemRdEpochEnd (s : State) : Host.Outcome State Fault Refusal :=
  ok ((s.advanceTo (s.nextScan epochTicks)).wr MEM_THROTTLE.REQ 0)

/-! ## Self-refresh of the bulk class (R397, R398) -/

/-- BULK_IDLE_SELF_REFRESH: no request for IDLE_US. -/
def execBulkIdleSelfRefresh (s : State) : Host.Outcome State Fault Refusal :=
  if !s.on MEM_CLc_STATUS.TRAINED 1 || s.on MEM_CLc_STATUS.IN_SR 1 then ok s else
  let us := if s.on MEM_SR.IDLE_US then s.rd MEM_SR.IDLE_US else 20
  let s := (s.advanceTo (s.mem.bulkAt + 1000 * us)).showSegs.dropMasked
  ok ((s.wr MEM_CLc_STATUS.IN_SR 1 1).count MEM_cnt_LO.COUNT 6)

/-! ## Self-test of a bulk range (R402) -/

/-- Does a bulk range meet an enabled recorder ring? -/
def State.meetsRing (s : State) (a n : Nat) : Bool :=
  (List.range 128).any (fun b => s.recRuns b && spansMeet a n (s.recBase b) (s.recSize b))

/-- MEM_TEST_START: GO while a test runs is ignored. The march test destroys what the range held. -/
def execMemTestStart (s : State) : Host.Outcome State Fault Refusal :=
  let a := s.rd64 MEM_TEST_BASE_LO.BYTES
  let n := s.rd64 MEM_TEST_LEN_LO.BYTES
  if s.rd MEM_TEST.STATE = 1 then ok s
  else if a % 65536 != 0 || n % 65536 != 0 || s.usable 1 < a + n || s.meetsRing a n then ok (s.wr MEM_TEST.STATE 4)
  else
    let s := State.bulkTouch (s.setMem { s.mem with testBase := a, testLen := n })
    ok ((s.dropBulk (fun k => decide (a ≤ k) && decide (k < a + n))).wr MEM_TEST.STATE 1)

/-- The test ends: its range reads zeros. -/
def State.testEnds (s : State) (st : Nat) : State :=
  let a := s.mem.testBase
  let n := s.mem.testLen
  let s := s.bulkTouch
  (s.dropBulk (fun k => decide (a ≤ k) && decide (k < a + n))).wr MEM_TEST.STATE st

/-- MEM_TEST_ABORT: the test stops at the next 64 KiB boundary. -/
def execMemTestAbort (s : State) : Host.Outcome State Fault Refusal :=
  if s.rd MEM_TEST.STATE = 1 then ok (s.testEnds 0) else ok s

/-- MEM_TEST_DONE: the test passes or fails, and source 459 carries the state it leaves. -/
def execMemTestDone (pass : Bool) (s : State) : Host.Outcome State Fault Refusal :=
  if s.rd MEM_TEST.STATE = 1 then ok ((s.testEnds (if pass then 2 else 3)).raise 459 [i8 (if pass then 2 else 3)]) else ok s

/-! ## Access to MRAM (R405 to R407) -/

/-- A read of MEM_MRAM_DATA_LO: the 8 bytes at OFFSET; the upper half is kept for the requester (R405). -/
def State.mramDataRead (s : State) (who : Nat) : State :=
  let v := leNat (s.mramRead (8 * s.rd MEM_MRAM_ADDR.OFFSET) 8)
  (s.copyHi who (MEM_MRAM_DATA_LO.DATA.addr 0 0) (v / 2 ^ 32)).answer (v % 2 ^ 32)

/-- MRAM_DATA_READ (R405). -/
def execMramDataRead (who : Nat) (s : State) : Host.Outcome State Fault Refusal :=
  if s.shut who then ok (s.refuseRead who) else
  ok (s.mramDataRead who)

/-- MRAM_DATA_WRITE: the write of MEM_MRAM_DATA_HI writes 8 bytes of the customer area, or is refused. -/
def execMramDataWrite (who : Nat) (val : Word) (s : State) : Host.Outcome State Fault Refusal :=
  if s.shut who then ok (s.refuseWrite who) else
  let r := s.takeHi who (MEM_MRAM_DATA_LO.DATA.addr 0 0) val.toNat
  let s := r.1.wr64 MEM_MRAM_DATA_LO.DATA r.2
  let a := 8 * s.rd MEM_MRAM_ADDR.OFFSET
  if a < 0x200000 then ok (s.mramRefused a) else ok (s.mramStore a (leBytes 8 r.2))

end Sys2Proof.Machine
end

