-- ==== Sys2Proof/Machine/Supply.lean ====
section
/-!
DEFINITION. The refusal of non-volatile writes (R464): its causes, its start, and since when they are clear.
-/
namespace Sys2Proof.Machine

def State.setPwr (s : State) (p : PwrSt) : State := { s with pwr := p }

/-- The cause of a refusal that is present: 0 VIN, 1 PWRFAIL_N. -/
def State.nvCause (s : State) : Option Nat :=
  if s.on PWR_STATUS.VIN_LOW then some 0 else if s.on PWR_STATUS.PWRFAIL then some 1 else none

/-- SPI_WP_N is low while writes are refused, once the flash operation in flight ends; otherwise it is high while the update engine
erases, writes or programs the SEQ page (R424, R465). -/
def State.showSpiWp (s : State) : State :=
  let ph := s.rd BOOT_UPD_STATUS.PHASE
  let work := ph == 1 || ph == 2 || (ph == 3 && s.boot.upd.seq.isSome)
  { s with pins := { s.pins with spiWpN := if s.on PWR_STATUS.NV_REFUSED then s.boot.upd.busy && s.pins.spiWpN else work } }

/-- A refusal begins: source 8 (R464, R477). The journal slot under way is begun again after it (R454). -/
def State.nvBegin (s : State) (cause : Nat) : State :=
  if s.on PWR_STATUS.NV_REFUSED then s else
  let s := (s.wr PWR_STATUS.NV_REFUSED 1).setPwr { s.pwr with nvFrom := s.tick, clearFrom := none }
  let s := ((s.count PWR_cnt_LO.COUNT 0).cal 48).raise 8 [i8 cause, i16 (s.rd PWR_VIN.LEVEL)]
  let s := { s with evt := { s.evt with jwriting := false } }
  s.showJournal.showSpiWp

/-- Are the conditions of R464 for the end of a refusal met at this instant? -/
def State.nvClear (s : State) : Bool :=
  !s.on PWR_STATUS.PWRFAIL && match s.pwr.vin with
    | some v => decide (s.rd PWR_VNV.LOCK_MV + s.rd PWR_VNV.HYST_MV ≤ v)
    | none => true

/-- Act on the causes as they now are. -/
def State.nvCheck (s : State) : State :=
  match s.nvCause with
  | some c => let s := s.nvBegin c; s.setPwr { s.pwr with clearFrom := none }
  | none =>
    if !s.on PWR_STATUS.NV_REFUSED then s
    else s.setPwr { s.pwr with clearFrom := if s.nvClear then some (s.pwr.clearFrom.getD s.tick) else none }

/-- VIN is below VNV_LOCK, as last told (R464). -/
def State.showVinLow (s : State) : State :=
  s.wr PWR_STATUS.VIN_LOW (match s.pwr.vin with | some v => b2n (decide (v < s.rd PWR_VNV.LOCK_MV)) | none => 0)

/-- VIN is at `mv`. -/
def State.setVin (s : State) (mv : Nat) : State :=
  let s := (s.setPwr { s.pwr with vin := some mv }).wr PWR_VIN.LEVEL (min 0xFFFF (mv / 10))
  s.showVinLow.nvCheck

end Sys2Proof.Machine
end

