-- ==== Sys2Proof/Machine/Time.lean ====
section
/-!
DEFINITION. The timebase (chapter 3): sources and the quality state machine, steps, the DPLL correction, the always-on counter,
1PPS output and the clock inputs.
-/
namespace Sys2Proof.Machine

/-! ## Sources (R56) -/

def State.src (s : State) (n : Nat) : SrcSt := tabGet s.tim.srcs n
def State.setSrc (s : State) (n : Nat) (x : SrcSt) : State := { s with tim := { s.tim with srcs := tabSet s.tim.srcs n x } }
def State.setTim (s : State) (t : TimSt) : State := { s with tim := t }

/-- The PTP timeout in ticks. -/
def State.ptpTimeout (s : State) : Nat := 250000000 * max 1 (s.rd TIM_LOSS_CFG.PTP_TO)

/-- Is IRIG-B valid (R56)? -/
def State.irigOk (s : State) : Bool := (s.src 3).seen && decide ((s.src 3).misses ≤ s.rd TIM_LOSS_CFG.IRIG_MISS)

/-- Is source `n` valid under R56? 1 PTP, 2 1PPS, 3 IRIG-B. -/
def State.srcOk (s : State) (n : Nat) : Bool :=
  let x := s.src n
  match n with
  | 1 => x.seen && decide (s.tick < x.lastTick + s.ptpTimeout)
  | 2 => x.seen && decide (x.misses ≤ s.rd TIM_LOSS_CFG.PPS_MISS) && (!s.on TIM_STATUS.TIME_UNKNOWN || s.irigOk)
  | 3 => s.irigOk
  | _ => false

/-- The priority list without unused slots. -/
def State.prios (s : State) : List Nat :=
  [s.rd TIM_SRC_CTRL.PRIO0, s.rd TIM_SRC_CTRL.PRIO1, s.rd TIM_SRC_CTRL.PRIO2].filter (fun c => c != 0)

/-- Valid and in the list (R57). -/
def State.srcUsable (s : State) (n : Nat) : Bool := s.prios.contains n && s.srcOk n

/-- The best source (R57). -/
def State.bestSrc (s : State) : Option Nat := s.prios.find? s.srcUsable

/-- Publish PPS_OK and IRIG_OK; a change of PPS_OK raises source 38. -/
def State.showSources (s : State) : State :=
  let s := s.wr TIM_STATUS.IRIG_OK (b2n s.irigOk)
  let p := s.srcOk 2
  if s.on TIM_STATUS.PPS_OK == p then s else (s.wr TIM_STATUS.PPS_OK (b2n p)).raise 38

/-! ## The DPLL correction (R53) -/

/-- The clamp of R53. -/
def adjClamp : Int := 56294995342

/-- 1,024 s in ticks. -/
def meanTicks : Nat := 1024000000000

/-- The most recent spans of a list of (ticks, correction), up to `n` ticks. -/
def recentSegs : Nat → List (Nat × Int) → List (Nat × Int)
  | _, [] => []
  | n, (d, c) :: t => if n ≤ d then [(n, c)] else (d, c) :: recentSegs (n - d) t

/-- The correction applied up to now in Locked enters the spans of R53. -/
def State.noteApplied (s : State) : State :=
  let t := s.tim
  let d := s.tick - t.appliedFrom
  let segs := if s.rd TIM_STATUS.STATE = 2 && d != 0 then recentSegs meanTicks ((d, t.applied) :: t.lockedSegs) else t.lockedSegs
  s.setTim { t with lockedSegs := segs, appliedFrom := s.tick }

/-- The rate in ppb that a slew of an offset adds: TIM_SLEW_MAX, with the correction inside the clamp of R53 (R54). A positive offset is
slewed out by a lower frequency. -/
def State.slewRate (s : State) (ofs applied : Int) : Nat :=
  let room := adjClamp + (if 0 ≤ ofs then applied else -applied)
  min (room * 1000000000 / ((2 ^ 48 : Nat) : Int)).toNat (min 100000 (s.rd TIM_SLEW_MAX.PPB))

/-- Apply a correction; a slew under way stays within the clamp with it (R53, R54). -/
def State.applyAdj (s : State) (v : Int) : State :=
  let s := s.noteApplied
  s.setTim { s.tim with applied := v, slewPpb := s.slewRate s.tim.slew v }

/-- The mean of R53, rounded down; with no time spent in Locked, the correction in force (DEDUCED, log 19). -/
def State.meanAdj (s : State) : Int :=
  let l := s.tim.lockedSegs
  let n := (l.map (fun p => p.1)).sum
  if n = 0 then s.tim.applied else (l.map (fun p => (p.1 : Int) * p.2)).sum / n

/-- FREQ_ADJ_WRITE (R53): the _HI write that completes a write of TIM_FREQ_ADJ. In Holdover it is only stored; otherwise it is
clamped and applied. -/
def execFreqAdjWrite (who : Nat) (val : Word) (s : State) : Host.Outcome State Fault Refusal :=
  if s.shut who then ok (s.refuseWrite who) else
  let r := s.takeHi who (TIM_FREQ_ADJ_LO.ADJ.addr 0 0) val.toNat
  let s := r.1.wr64 TIM_FREQ_ADJ_LO.ADJ r.2
  if s.rd TIM_STATUS.STATE = 3 then ok s else
  let v := sgn 64 r.2
  let c := max (-adjClamp) (min v adjClamp)
  let s := if c = v then s else s.raise 45
  ok (s.applyAdj c)

/-! ## The state of time (R57, R58) -/

/-- The quality code of a state (R58). -/
def qualityOf (state src : Nat) (fromHold : Bool) : Nat :=
  match state with
  | 2 => if src = 1 then 0 else 1
  | 3 => 2
  | 1 => if fromHold then 2 else 3
  | _ => 3

/-- Does the quality code let 1PPS_OUT be driven (R67)? -/
def State.gateOk (s : State) : Bool := decide (s.rd TIM_STATUS.QUALITY ≤ s.rd TIM_PPS_OUT_CFG.GATE)

/-- The tick of the last whole GTC second. -/
def State.secTick (s : State) : Nat := s.tick - s.tim.gtc % nsPerSec

/-- The gate status of 1PPS_OUT was `was`, and may have changed: it takes effect at the next whole second (R67). -/
def State.noteGate (s : State) (was : Bool) : State :=
  if s.gateOk == was || s.secTick < s.tim.gateTick then s else s.setTim { s.tim with gateTick := s.tick + 1, gateWas := was }

/-- The gate status in force: that of the last whole second. -/
def State.gateAt (s : State) : Bool := if s.secTick < s.tim.gateTick then s.tim.gateWas else s.gateOk

/-- Publish the quality code; a change raises source 32. -/
def State.showQuality (s : State) : State :=
  let q := qualityOf (s.rd TIM_STATUS.STATE) (s.rd TIM_STATUS.SOURCE) s.tim.fromHold
  if s.rd TIM_STATUS.QUALITY = q then s else ((s.wr TIM_STATUS.QUALITY q).noteGate s.gateOk).raise 32

/-- The counts of disagreeing updates of R57 start afresh. -/
def TimSt.noWorse (t : TimSt) : TimSt :=
  { t with srcs := t.srcs.map (fun (p : Nat × SrcSt) => (p.1, { p.2 with worse := 0 })) }

/-- Change the selected source: source 33. -/
def State.selectSrc (s : State) (n : Nat) : State :=
  if s.rd TIM_STATUS.SOURCE = n then s else
  let s := s.setTim { s.tim.noWorse with lockRun := 0 }
  (s.wr TIM_STATUS.SOURCE n).raise 33

/-- Enter a state of time. -/
def State.setTimeState (s : State) (st : Nat) (fromHold : Bool) : State :=
  let old := s.rd TIM_STATUS.STATE
  let s := s.noteApplied
  let t := if st = old then s.tim else s.tim.noWorse
  let s := s.setTim { t with fromHold := fromHold, lockRun := if st = old then t.lockRun else 0
                             disagreed := t.disagreed && st == 2 }
  let s := (s.wr TIM_STATUS.STATE st).showQuality
  let s := if st = 3 && old != 3 then s.raise 35 else s
  if st = 0 && old != 0 then s.raise 36 else s

/-- GTC_STEP (R49, R50, R190): the GTC takes the step in one tick. -/
def State.gtcStep (s : State) (a : Int) : State :=
  let was := s.tim.gtc
  let s := s.baysBeforeStep
  let s := s.setTim { s.tim with gtc := (((was : Int) + a) % (gtcRange : Int)).toNat, stepLog := ((s.tick, a) :: s.tim.stepLog).take 16
                                 srcs := s.tim.srcs.map (fun (p : Nat × SrcSt) => (p.1, { p.2 with ofs := p.2.ofs + a })) }
  let s := (s.wr TIM_STATUS.STEPS (s.rd TIM_STATUS.STEPS + 1)).raise 34 [i64 was, i64 (unsgn 64 a)]
  s.baysAfterStep

/-- Is a step allowed (R59)? With STEP_EN 1 one step alone is taken while time is unknown. -/
def State.stepAllowed (s : State) : Bool :=
  match s.rd TIM_SRC_CTRL.STEP_EN with
  | 0 => false
  | 2 => true
  | _ => s.on TIM_STATUS.TIME_UNKNOWN && !s.tim.stepped

/-- The offset of the selected source is removed: a step where one is allowed, else a slew (R54). -/
def State.removeOffset (s : State) (ofs : Int) (stepOk : Bool) : State :=
  if stepOk && s.rd TIM_STATUS.STATE == 1 && s.stepAllowed && decide (s.rd TIM_STEP_THRESH.NS < ofs.natAbs) then
    (s.setTim { s.tim with slew := 0, stepped := s.on TIM_STATUS.TIME_UNKNOWN }).gtcStep (-ofs)
  else s.setTim { s.tim with slew := ofs * 1000000000, slewPpb := s.slewRate ofs s.tim.applied }

/-- Publish the last offset of the selected source. -/
def State.showOffset (s : State) (ofs : Int) : State :=
  s.wr TIM_OFFSET.NS (unsgn 32 (max (-0x7FFFFFFF) (min ofs 0x7FFFFFFF)))

/-- Select a source and enter Acquiring; from Holdover the offset is slewed only (R57). -/
def State.acquire (s : State) (n : Nat) (fromHold stepOk : Bool) : State :=
  let s := (s.selectSrc n).setTimeState 1 fromHold
  let ofs := (s.src n).ofs
  (s.showOffset ofs).removeOffset ofs stepOk

/-- Is an offset within the threshold? -/
def State.within (s : State) (ofs : Int) : Bool := decide (ofs.natAbs < s.rd TIM_LOCK_CFG.THRESH_NS)

/-- The updates that the lock criterion needs. -/
def State.lockCount (s : State) : Nat := max 1 (s.rd TIM_LOCK_CFG.COUNT)

/-- TIME_LOCK (R57). Time is known from here, which may make 1PPS_IN valid (R56). -/
def State.lock (s : State) : State :=
  let s := s.setTim { s.tim with holdFrom := none }
  ((s.wr TIM_STATUS.TIME_UNKNOWN 0).setTimeState 2 false).showSources

/-- HOLDOVER_ENTRY (R57): the mean correction is applied, and the timer starts unless it runs already. -/
def State.holdover (s : State) : State :=
  let s := s.noteApplied
  let m := s.meanAdj
  let s := s.setTim { s.tim with holdFrom := some (s.tim.gtc, s.tick), mean := m }
  ((s.applyAdj m).selectSrc 0).setTimeState 3 false

/-- The selected source is lost in Acquiring (R57): back to the state it was entered from. In Holdover the mean is applied again
(R53). -/
def State.fallBack (s : State) : State :=
  if s.tim.fromHold then ((s.applyAdj s.tim.mean).selectSrc 0).setTimeState 3 false
  else (s.selectSrc 0).setTimeState 0 false

/-- A source better than the selected one, in Locked (R57): it is taken, or told once after 64 updates without COUNT consecutive ones
below the threshold; once in a stay in Locked, whichever source it is (DESIGN CHOICE, log 68). -/
def State.betterLocked (s : State) (n : Nat) : State :=
  let x := s.src n
  if s.lockCount ≤ x.run then (s.selectSrc n).showQuality
  else
    let s := s.setSrc n { x with worse := x.worse + 1 }
    if 64 ≤ x.worse + 1 && !s.tim.disagreed then (s.setTim { s.tim with disagreed := true }).raise 33 else s

/-- An update of the selected source (R54, R57). -/
def State.trackSelected (s : State) (ofs : Int) : State :=
  let s := s.showOffset ofs
  let near := s.within ofs
  let s := s.removeOffset ofs true
  if s.rd TIM_STATUS.STATE != 1 then s else
  let run := if near then s.tim.lockRun + 1 else 0
  let s := s.setTim { s.tim with lockRun := run }
  if s.lockCount ≤ run then s.lock else s

/-- The rows of R57, applied until none holds. `upd` is the source that has just given an update. -/
def State.timeEval : Nat → State → Option Nat → State
  | 0, s, _ => s
  | fuel + 1, s, upd =>
    let st := s.rd TIM_STATUS.STATE
    let sel := s.rd TIM_STATUS.SOURCE
    match st with
    | 1 =>
      if !s.srcUsable sel then
        s.fallBack.timeEval fuel none
      else match s.bestSrc with
        | some b =>
          if b != sel then s.acquire b s.tim.fromHold true
          else if upd = some sel then
            let s := s.trackSelected (s.src sel).ofs
            if s.rd TIM_STATUS.STATE = 2 then s.timeEval fuel none else s
          else s
        | none => s
    | 2 =>
      if !s.srcUsable sel then
        match s.prios.find? (fun n => s.srcUsable n && decide (s.lockCount ≤ (s.src n).run)) with
        | some n => (s.selectSrc n).showQuality
        | none => s.holdover.timeEval fuel none
      else
        let better := s.prios.takeWhile (fun n => n != sel)
        let s := match upd with
          | some n => if better.contains n && s.srcUsable n then s.betterLocked n else s
          | none => match better.find? (fun n => s.srcUsable n && decide (s.lockCount ≤ (s.src n).run)) with
            | some n => (s.selectSrc n).showQuality
            | none => s
        if upd = some sel then s.trackSelected (s.src sel).ofs else s
    | _ =>
      match s.bestSrc with
      | some b => s.acquire b (st == 3) (st != 3)
      | none => s

/-- The rows of R57 after a change of a source's validity, or after a commit of TIM. -/
def State.timeCheck (s : State) : State := s.showSources.timeEval 4 none

/-- A source gives an update with its offset. -/
def State.timeUpdate (s : State) (n : Nat) (ofs : Int) : State :=
  let x := s.src n
  let near := s.within ofs
  let s := s.setSrc n { ofs := ofs, run := if near then x.run + 1 else 0, worse := x.worse, misses := 0
                        seen := true, lastTick := s.tick }
  s.showSources.timeEval 4 (some n)

/-- A source misses an update (R56): its run of updates below the threshold ends, but the count of the selected source since its
selection, which R57 keeps by updates alone, stays (DESIGN CHOICE, log 68). One that it makes invalid counts its disagreement afresh. -/
def State.timeMiss (s : State) (n : Nat) : State :=
  let x := s.src n
  let s := s.setSrc n { x with misses := x.misses + 1, run := 0 }
  (if s.srcOk n then s else s.setSrc n { s.src n with worse := 0 }).timeCheck

/-! ## Updates (R56, R65, R66) -/

/-- PTP_OFS_SEC_WRITE (R56): the seconds are held for the writer. -/
def execPtpOfsSecWrite (who : Nat) (val : Word) (s : State) : Host.Outcome State Fault Refusal :=
  if s.shut who then ok (s.refuseWrite who) else
  ok (s.setTim { s.tim with ofsSec := tabSet s.tim.ofsSec who { valid := true, val := val.toNat } })

/-- PTP_OFS_UPDATE (R56): a write of TIM_PTP_OFS_NS submits SEC × 10^9 + NS. -/
def execPtpOfsUpdate (who : Nat) (val : Word) (s : State) : Host.Outcome State Fault Refusal :=
  if s.shut who then ok (s.refuseWrite who) else
  let ns := sgn 32 val.toNat
  if 999999999 < ns.natAbs then ok s.bad else
  let h := tabGet s.tim.ofsSec who
  let sec : Int := if h.valid then sgn 32 h.val else 0
  let s := s.setTim { s.tim with ofsSec := tabSet s.tim.ofsSec who {} }
  ok ((s.cal 144).timeUpdate 1 (sec * 1000000000 + ns))

/-- PTP_UPDATE_TIMEOUT (R56): PTP_TO after the last update PTP is invalid. -/
def execPtpUpdateTimeout (s : State) : Host.Outcome State Fault Refusal :=
  let x := s.src 1
  if !x.seen then ok s else
  let s := s.advanceTo (x.lastTick + s.ptpTimeout)
  if s.tick < (s.src 1).lastTick + s.ptpTimeout then ok s else
  ok ((s.setSrc 1 { s.src 1 with seen := false, run := 0, worse := 0 }).timeCheck)

/-- The signed distance of a GTC value from the nearest whole second. -/
def fromSecond (g : Int) : Int :=
  let r := g % 1000000000
  if r < 500000000 then r else r - 1000000000

/-- PPS_IN_EDGE (R65): an edge, rising or falling, at tick `t`. A pulse more than 100 ms from a whole second counts as missed. The
second that it marks is IRIG-B's while IRIG-B is valid (R56). -/
def execPpsInEdge (rising : Bool) (t : Nat) (s : State) : Host.Outcome State Fault Refusal :=
  if rising == s.on TIM_PPS_IN_CFG.EDGE then ok s else
  let s := s.cal 145
  let stamp := s.gtcAt t - sgn 24 (s.rd TIM_PPS_IN_CFG.CABLE_NS)
  let d := fromSecond stamp
  if 100000000 < d.natAbs then ok (s.timeMiss 2) else
  let shift := if s.irigOk then (s.src 3).ofs - fromSecond (s.src 3).ofs else 0
  ok (s.timeUpdate 2 (d + shift))

/-- PPS_PULSE_MISSED (R56): no pulse up to 100 ms past a whole GTC second. -/
def execPpsPulseMissed (s : State) : Host.Outcome State Fault Refusal :=
  let s := s.advanceTo (s.tick + (nsPerSec - (s.tim.gtc + 900000000) % nsPerSec))
  ok (s.timeMiss 2)

/-- Days from 1970-01-01 to the first day of a year. -/
def daysTo (y : Nat) : Int :=
  let p := (y : Int) - 1
  365 * ((y : Int) - 1970) + (p / 4 - 492) - (p / 100 - 19) + (p / 400 - 4)

/-- The year that holds a day counted from 1970-01-01. -/
def yearOf (day : Int) : Nat :=
  let y := (1970 + day / 366).toNat
  match (List.range 3000).find? (fun k => decide (day < daysTo (y + k + 1))) with | some k => y + k | none => y

/-- The TAI time in ns of an IRIG-B frame (R66): day of year from 1, second of day, two-digit year when the format carries one,
and the local offset in seconds of the extension, which is added to the coded time. -/
def State.irigTai (s : State) (doy sod yy : Nat) (ofs : Int) : Int :=
  let tai := sgn 16 (s.rd TIM_UTC.UTC_OFFSET)
  let year := if 4 ≤ s.rd TIM_IRIG_CFG.EXPR then 2000 + yy % 100
    else yearOf (((s.tim.gtc / nsPerSec : Nat) : Int) - tai |> (· / 86400))
  let lcl := if s.on TIM_IRIG_CFG.EXT_1344 && s.on TIM_IRIG_CFG.LOCAL then ofs else 0
  ((daysTo year + (doy : Int) - 1) * 86400 + sod + lcl + tai) * 1000000000

/-- IRIG_FRAME (R66): a frame whose on-time marker is at tick `t`: good parity and markers or not; the coded time; and, where the
control functions carry the extension, the local offset in half hours, leap-second pending and time quality. -/
def execIrigFrame (good : Bool) (t doy sod yy halfHours : Nat) (lsp : Bool) (tq : Nat) (s : State) : Host.Outcome State Fault Refusal :=
  if !good then ok (((s.bump TIM_IRIG_STATUS.FRAME_ERR).raise 39).timeMiss 3) else
  let s := s.cal 146
  let s := if s.on TIM_IRIG_CFG.EXT_1344 then (s.wr TIM_IRIG_STATUS.LSP (b2n lsp)).wr TIM_IRIG_STATUS.TQ tq else s
  let stamp := s.gtcAt t - sgn 16 (s.rd TIM_IRIG_CFG.CABLE_NS)
  ok (s.timeUpdate 3 (stamp - s.irigTai doy sod yy (sgn 8 halfHours * 1800)))

/-- IRIG_FRAME_MISSED (R56). -/
def execIrigFrameMissed (s : State) : Host.Outcome State Fault Refusal := ok (s.timeMiss 3)

/-- HOLDOVER_EXPIRE (R57): LIMIT_S after the entry to Holdover. -/
def execHoldoverExpire (s : State) : Host.Outcome State Fault Refusal :=
  match s.tim.holdFrom with
  | none => ok s
  | some (_, t) =>
    let st := s.rd TIM_STATUS.STATE
    if st != 3 && !(st == 1 && s.tim.fromHold) then ok s else
    let s := s.advanceTo (t + nsPerSec * s.rd TIM_HOLDOVER.LIMIT_S)
    ok (s.setTimeState (if st = 3 then 0 else 1) false)

/-! ## The always-on counter (R51, R52) -/

/-- AO_COUNTER_CORRECT (R51): once per second of the GTC the counter is corrected and the ratio stored. -/
def execAoCounterCorrect (s : State) : Host.Outcome State Fault Refusal :=
  if s.tim.carried then ok s else
  let s := s.advanceTo (s.tim.aoTick + nsPerSec)
  let r := Config.aoRatio s.free
  ok (s.draw.setTim { s.tim with aoGtc := s.tim.gtc, aoTick := s.tick, aoRatio := r })

/-- The GTC stops and the always-on counter carries time; it holds the entry to Holdover that counts, or still holds that of an earlier
reset whose start TIM's initial commit has not settled (R51). -/
def State.timCarry (s : State) : State :=
  if s.tim.carried then s else
  let st := s.rd TIM_STATUS.STATE
  let h := if s.tim.aoHold.isSome then s.tim.aoHold
    else if st = 3 || (st = 1 && s.tim.fromHold) then s.tim.holdFrom
    else if st = 2 then some (s.tim.gtc, s.tick) else none
  s.setTim { s.tim with carried := true, aoHold := h }

/-- The GTC is loaded from the always-on counter, which counts 25 MHz (R51). -/
def State.timReturn (s : State) : State :=
  if !s.tim.carried then s else
  let counts := (s.tick - s.tim.aoTick) / 40
  s.setTim { s.tim with carried := false, gtc := (s.tim.aoGtc + counts * s.tim.aoRatio / 2 ^ 32) % gtcRange }

/-- The state of time at a start, once LIMIT_S is known: Holdover while the limit has not run out (R51). -/
def State.timSettle (s : State) : State :=
  match s.tim.aoHold with
  | none => s
  | some (g, t) =>
    let s := s.setTim { s.tim with aoHold := none }
    if t + nsPerSec * s.rd TIM_HOLDOVER.LIMIT_S ≤ s.tick then s
    else (s.setTim { s.tim with holdFrom := some (g, t) }).setTimeState 3 false

/-! ## Reads, 1PPS_OUT and the clock inputs -/

/-- A read of TIM_GTC_NS: the whole GTC is latched for the requester (R48). -/
def State.gtcNsRead (s : State) (who : Nat) : State :=
  (s.setTim { s.tim with gtcLatch := tabSet s.tim.gtcLatch who s.sec }).answer s.ns

/-- GTC_NS_READ (R48). -/
def execGtcNsRead (who : Nat) (s : State) : Host.Outcome State Fault Refusal :=
  if s.shut who then ok (s.refuseRead who) else
  ok (s.gtcNsRead who)

/-- A read of an angle returns it and latches the cycle count of the same tick (R48). -/
def State.grainAngleRead (s : State) (who inst : Nat) : State :=
  let g := s.grain inst
  (s.setTim { s.tim with cycLatch := tabSet s.tim.cycLatch (4 * who + inst) g.cycle }).answer g.angle

/-- GRAIN_ANGLE_READ (R48). -/
def execGrainAngleRead (who inst : Nat) (s : State) : Host.Outcome State Fault Refusal :=
  if s.shut who then ok (s.refuseRead who) else
  if 4 ≤ inst then ok s else ok (s.grainAngleRead who inst)

/-- PPS_OUT rises for its width (R67). -/
def State.ppsRise (s : State) : State :=
  { s with pins := { s.pins with ppsOut := true }
           tim := { s.tim with ppsEnd := s.tick + 1000 * max 1 (s.rd TIM_PPS_OUT_CFG.WIDTH_US) } }

/-- PPS_OUT_PULSE (R67): at the next whole GTC second plus the offset, under the gate status of the last whole second. -/
def execPpsOutPulse (s : State) : Host.Outcome State Fault Refusal :=
  let at_ := unsgn 64 (sgn 32 (s.rd TIM_PPS_OUT_OFS.NS) % 1000000000)
  let s := s.advanceTo (s.tick + (nsPerSec - (s.tim.gtc + nsPerSec - at_) % nsPerSec))
  if s.on TIM_PPS_OUT_CFG.ENABLE && s.gateAt then
    ok s.ppsRise
  else ok s

/-- PPS_OUT_PULSE_END (R67). -/
def execPpsOutPulseEnd (s : State) : Host.Outcome State Fault Refusal :=
  if !s.pins.ppsOut then ok s else
  let s := s.advanceTo s.tim.ppsEnd
  ok { s with pins := { s.pins with ppsOut := false }, tim := { s.tim with ppsEnd := 0 } }

/-- OSC_CLOCK_LOST (R487): no edge for 1 µs on OCXO_IN or CLK10M_IN; source 46 when OSC selects it. -/
def execOscClockLost (ocxo : Bool) (s : State) : Host.Outcome State Fault Refusal :=
  if !(if ocxo then s.on TIM_STATUS.OCXO_OK else s.on TIM_STATUS.CLK10M_OK) then ok s else
  let s := if ocxo then s.wr TIM_STATUS.OCXO_OK 0 else s.wr TIM_STATUS.CLK10M_OK 0
  ok (if s.rd TIM_SRC_CTRL.OSC = (if ocxo then 1 else 2) then s.raise 46 else s)

/-- OSC_CLOCK_DETECTED (R487). -/
def execOscClockDetected (ocxo : Bool) (s : State) : Host.Outcome State Fault Refusal :=
  ok (if ocxo then s.wr TIM_STATUS.OCXO_OK 1 else s.wr TIM_STATUS.CLK10M_OK 1)

end Sys2Proof.Machine
end

