-- ==== Sys2Proof/Machine/Validate.lean ====
section
/-!
DEFINITION. What each block's commit is refused for. A check reads the state as it would be after the swap (`n`), and the state before it
(`o`) where a rule names a change; each cause has its DETAIL code, and the lowest code whose cause holds is the answer (R39).
-/
namespace Sys2Proof.Machine

/-- Refusal causes: DETAIL code, and whether it holds. -/
abbrev Causes := List (Nat × Bool)

/-- The lowest DETAIL code whose cause holds (R39). -/
def firstCause : Causes → Option Nat
  | [] => none
  | (d, b) :: t => if b then some d else firstCause t

/-- Do two elements at different places of a list relate? -/
def anyPair {α : Type} (r : α → α → Bool) : List α → Bool
  | [] => false
  | a :: t => t.any (r a) || anyPair r t

/-- Does any of the first `n` indexes meet `p`? -/
def anyUpTo (n : Nat) (p : Nat → Bool) : Bool := (List.range n).any p

/-- TIM (R81). -/
def causesTim (n : State) : Causes :=
  let gOn := fun (g : Nat) => n.on TIM_GRAINn_CTRL.ENABLE g
  let mOn := fun (m : Nat) => n.on TIM_MARKn_CFG.ENABLE m
  let beyond := fun (group : Bool) (i : Nat) => group && decide (1023 < i)
  let slots := ([n.rd TIM_SRC_CTRL.PRIO0, n.rd TIM_SRC_CTRL.PRIO1, n.rd TIM_SRC_CTRL.PRIO2]).filter (fun x => x != 0)
  [(1, anyUpTo 4 (fun g => gOn g && (decide (n.rd TIM_GRAINn_CTRL.NOMINAL_MHZ g < 40000) || decide (70000 < n.rd TIM_GRAINn_CTRL.NOMINAL_MHZ g)))),
   (2, anyUpTo 256 (fun m => mOn m && decide (max 1 (n.rd TIM_MARKn_CFG.DIV m) ≤ n.rd TIM_MARKn_CFG.PHASE m))),
   (3, anyUpTo 4 (fun g => gOn g && (beyond (n.on TIM_GRAINn_REF.KIND g) (n.rd TIM_GRAINn_REF.INDEX g) ||
      (n.on TIM_GRAINn_ALT.ALT_EN g && beyond (n.on TIM_GRAINn_ALT.KIND g) (n.rd TIM_GRAINn_ALT.INDEX g))))),
   (4, anyUpTo 8 (fun w => n.on TIM_QWn.ENABLE w && (n.rd TIM_QWn.OPEN w == n.rd TIM_QWn.CLOSE w ||
      n.rd TIM_MARKn_CFG.INSTANCE (n.rd TIM_QWn.OPEN w) != n.rd TIM_MARKn_CFG.INSTANCE (n.rd TIM_QWn.CLOSE w)))),
   (5, anyPair (fun a b => a == b) slots)]

/-- FPT (R102). -/
def causesFpt (n : State) : Causes :=
  let hsr := fun (p : Nat) => n.pairMode p == 2 || n.pairMode p == 3
  let lanes := fun (m : Nat) => let v := n.rd FPT_XPORTm_LANEMAP.MAP m; [v % 4, v / 4 % 4, v / 16 % 4, v / 64 % 4]
  [(1, anyUpTo 24 (fun p => decide (6 ≤ n.rd FPT_PORTn_CFG.MODE p))),
   (2, anyUpTo 12 (fun p => hsr p && (!n.on FPT_PORTn_CFG.ENABLE (2 * p) || !n.on FPT_PORTn_CFG.ENABLE (2 * p + 1) ||
      n.rd FPT_PORTn_CFG.MODE (2 * p) != n.rd FPT_PORTn_CFG.MODE (2 * p + 1)))),
   (3, anyUpTo 12 (fun p => n.pairMode p == 3 && (let i := n.rd FPT_PAIRp_CFG.INTERLINK p
      decide (23 < i) || i / 2 == p || n.pairMode (i / 2) != 0))),
   (4, anyUpTo 12 (fun p => n.pairMode p == 1 && n.on FPT_PAIRp_BYP.BYP_EN p)),
   (5, anyUpTo 4 (fun m => anyPair (fun a b => a == b) (lanes m))),
   (6, anyUpTo 12 (fun p => hsr p && decide (1 < n.rd FPT_PAIRp_CFG.HSR_MODE p))),
   (7, anyUpTo 4 (fun m => n.on FPT_XPORTm_CFG.ENABLE m &&
      ((n.rd FPT_XPORTm_CFG.FEC m == 1 && !n.on FPT_XPORTm_CFG.SPLIT m) ||
       (n.rd FPT_XPORTm_CFG.FEC m == 2 && n.rd FPT_XPORTm_CFG.MEDIA m != 2))))]

/-- Is profile `p` VALID (R110)? -/
def State.profValid (s : State) (p : Nat) : Bool := bitOf (s.profWord p 16) 0

/-- PPL (R122). -/
def causesPpl (n : State) : Causes :=
  let total := fun (p : Nat) (key : Bool) => (((n.profFields p).filter (fun v => bitOf v 12 == key)).map (fun v => bitsOf v 8 4 + 1)).sum
  let profs := (List.range 64).filter n.profValid
  [(1, anyUpTo 64 (fun p => (n.profFields p).any (fun v => decide (256 < bitsOf v 0 8 + bitsOf v 8 4 + 1)))),
   (2, profs.any (fun p => total p true == 0 || decide (16 < total p true))),
   (3, anyUpTo 128 (fun k => n.on PPL_SELk_MATCH.VALID k && !n.profValid (n.rd PPL_SELk_PROF.PROFILE k)) ||
       anyUpTo 40 (fun p => n.on PPL_PORTn_CFG.DEF_PROF_EN p && !n.profValid (n.rd PPL_PORTn_CFG.DEF_PROFILE p))),
   (4, anyUpTo 8 (fun r => n.on PPL_TRAPr_SIZE.ENABLE r && (decide (n.rd PPL_TRAPr_SIZE.LOG2 r < 6) || decide (16 < n.rd PPL_TRAPr_SIZE.LOG2 r) ||
      n.trapBase r % 2048 != 0))),
   (5, profs.any (fun p => decide (48 < total p false)))]

/-- FWT (R143). -/
def causesFwt (n : State) : Causes :=
  [(1, n.rd FWT_CFG.AGE_S != 0 && decide (n.rd FWT_CFG.AGE_S < 10)),
   (2, anyUpTo 4096 (fun v => n.on FWT_VLANv_HI.HOSTQ_EN v && decide (4090 < n.rd FWT_VLANv_HI.HOSTQ v)))]

/-- Channel-samples per second and APDUs per second of the VALID subscriptions (R27, R165). -/
def State.sviBudget (s : State) : Nat := (s.validSubs.map (fun i => subChannels (s.subE i) * subRate (s.subE i))).sum
def State.sviMacLoad (s : State) : Nat :=
  ((s.validSubs.filter (fun i => subAuth (s.subE i) != 0)).map (fun i => (subRate (s.subE i) : Rat) / (subAsdus (s.subE i) : Rat))).foldl
    (fun a b => a + b) 0 |>.floor.toNat
def State.sviMacOver (s : State) : Bool :=
  decide ((8000000 : Rat) < ((s.validSubs.filter (fun i => subAuth (s.subE i) != 0)).map
    (fun i => (subRate (s.subE i) : Rat) / (subAsdus (s.subE i) : Rat))).foldl (fun a b => a + b) 0)

/-- Rates, ASDU counts and channels of a profile (R145). -/
def rateListed (profile rate : Nat) : Bool :=
  (match profile with | 0 => [4000, 4800] | 1 => [12800, 15360] | _ => [4800, 14400, 96000]).contains rate
def shapeListed (v : Nat) : Bool :=
  match subProfile v with
  | 0 => subChannels v == 8 && subAsdus v == 1
  | 1 => subChannels v == 8 && subAsdus v == 8
  | 2 => decide (1 ≤ subChannels v) && decide (subChannels v ≤ 24)
  | _ => false

/-- SVI (R167). -/
def causesSvi (n : State) : Causes :=
  let l := n.validSubs.map n.subE
  [(1, decide (120000000 < n.sviBudget)),
   (2, anyPair (fun a b => subDmac a == subDmac b && subAppid a == subAppid b && subSvidLen a == subSvidLen b &&
      (subSvid a).take (subSvidLen a) == (subSvid b).take (subSvidLen b)) l),
   (3, l.any (fun v => !shapeListed v)),
   (4, l.any (fun v => !rateListed (subProfile v) (subRate v) || subRate v % subWrap v != 0 ||
      (decide (subRate v ≤ 15360) && subWrap v != subRate v))),
   (5, l.any (fun v => decide (192 < subCol v + subChannels v)) ||
       anyPair (fun a b => subBay a == subBay b && spansMeet (subCol a) (subChannels a) (subCol b) (subChannels b)) l),
   (6, l.any (fun v => subAuth v != 0 && decide (5 ≤ subMacAlg v))),
   (7, l.any (fun v => subSvidLen v == 0 || decide (64 < subSvidLen v) || ((subSvid v).drop (subSvidLen v)).any (fun b => b != 0#8))),
   (8, n.sviMacOver),
   (9, l.any (fun v => subPorts v == 0))]

/-- The VALID bays. -/
def State.validBays (s : State) : List Nat := (List.range 128).filter (fun b => bayValid (s.bayE b))

/-- Bytes of a bay's row ring (R183). -/
def bayRingBytes (v : Nat) : Nat := 2 ^ bayLog2 v * (64 + rowStride (bayWidth v))

/-- A frame or report ring that names no function it may, or a ring number beyond the function's allowance (R191, DETAIL 8). `k` is
the code of the function: 0 is PF2, and i + 1 its VF i. The allowance is that of the image (R420). -/
def State.badRing (s : State) (k ring : Nat) : Bool :=
  (k != 0 && !(s.vfsOf 2).contains (s.ringFn k)) || decide ((tabGet s.boot.fns (s.ringFn k)).1 ≤ ring)

/-- Samples that `us` microseconds hold at a rate, rounded up. -/
def samplesIn (us rate : Nat) : Nat := (us * rate + 999999) / 1000000

/-- ALN (R191). -/
def causesAln (n : State) : Causes :=
  let l := n.validBays
  let share := n.rd MEM_ALN.BASE * 2 ^ 26
  let shareEnd := share + n.rd MEM_ALN.SIZE * 2 ^ 26
  let e := n.bayE
  [(1, l.any (fun b => !([4000, 4800, 12800, 14400, 15360, 96000].contains (bayRowHz (e b))))),
   (2, l.any (fun b => bayWidth (e b) == 0 || decide (192 < bayWidth (e b)))),
   (3, l.any (fun b => (n.baySubs b).any (fun i => misfit (n.subE i) (e b)))),
   (4, l.any (fun b => decide (bayLog2 (e b) < 6) || decide (16 < bayLog2 (e b)) || bayBase (e b) % 64 != 0 ||
        decide (bayBase (e b) < share) || decide (shareEnd < bayBase (e b) + bayRingBytes (e b))) ||
       anyPair (fun a b => spansMeet (bayBase (e a)) (bayRingBytes (e a)) (bayBase (e b)) (bayRingBytes (e b))) l),
   (5, l.any (fun b => decide (2 ^ bayLog2 (e b) < samplesIn (n.holdUs (e b) + bayAdvUs (e b) + 50000) (bayRowHz (e b))) ||
      decide (2 ^ (bayLog2 (e b) - 1) < bayMaxRows (e b)))),
   (6, l.any (fun b => decide (n.holdUs (e b) < 10) || decide (20000 < n.holdUs (e b)) || decide (1000 < bayAdvUs (e b)) ||
      decide (1000000 < bayLateMax (e b)))),
   (7, l.any (fun b => anyUpTo 4 (fun i => bayMarkEn (e b) i && n.rd TIM_MARKn_CFG.INSTANCE (bayMark (e b) i) != bayGrain (e b)))),
   (8, l.any (fun b => anyUpTo 2 (fun i => bayRingEn (e b) i && n.badRing (bayRingFn (e b) i) (bayRing (e b) i))))]

/-- Bytes of a channel's history ring (R194). -/
def chHistBytes (v : Nat) : Nat := 8 * 2 ^ chHlog2 v

/-- Rows that a channel's history must hold: ⌈(2m ÷ 40 Hz + HOLD + ADV_US) × ROW_HZ⌉, m the WIN cycles. -/
def State.histNeed (s : State) (c : Nat) : Nat :=
  let v := s.chE c
  let e := s.bayE (chBay v)
  let halfCycles := if chWin v = 1 then 1 else if chWin v = 2 then 4 else 2
  samplesIn (halfCycles * 25000 + s.holdUs e + bayAdvUs e) (bayRowHz e)

/-- Is a word a finite binary32 greater than 0? -/
def f32Positive (w : Nat) : Bool := !f32Special w && decide (0 < f32Val w)

/-- PHE (R211). -/
def causesPhe (n : State) : Causes :=
  let l := n.validChans
  let e := n.chE
  let g := n.validGrps
  let histBase := n.rd PHE_HIST_BASE_LO.BASE + n.rd PHE_HIST_BASE_HI.BASE * 2 ^ 32
  let histSize := 2048 * n.rd PHE_HIST_SIZE.UNITS
  let harm := l.filter (fun c => chHarm (e c))
  [(1, decide (19660800 < (l.map (fun c => bayRowHz (n.bayE (chBay (e c))))).sum)),
   (2, l.any (fun c => !bayValid (n.bayE (chBay (e c))) || decide (bayWidth (n.bayE (chBay (e c))) ≤ chCell (e c)))),
   (3, anyPair (fun a b => chBay (e a) == chBay (e b) && chCell (e a) == chCell (e b)) l),
   (4, decide (1024 < harm.length) || anyPair (fun a b => chHslot (e a) == chHslot (e b)) harm),
   (5, l.any (fun c => decide (chHlog2 (e c) < 8) || decide (13 < chHlog2 (e c)) || decide (2 ^ chHlog2 (e c) < n.histNeed c) ||
        2048 * chHist (e c) % chHistBytes (e c) != 0 || decide (histSize < 2048 * chHist (e c) + chHistBytes (e c))) ||
       anyPair (fun a b => spansMeet (2048 * chHist (e a)) (chHistBytes (e a)) (2048 * chHist (e b)) (chHistBytes (e b))) l),
   (6, g.any (fun k => (n.grpChans k).any (fun c => !l.contains c) ||
        anyPair (fun a b => chBay (e a) != chBay (e b) || chWin (e a) != chWin (e b) || chAref (e a) != chAref (e b)) (n.grpChans k) ||
        n.rd PHE_GRPg_CFG.ROC_CYC k == 0)),
   (7, l.any (fun c => !f32Positive (chScale (e c)) || !f32Positive (chRated (e c)))),
   (8, anyUpTo 4 (fun i => n.on PHE_RPTi_CFG.ENABLE i && n.badRing (n.rd PHE_RPTi_CFG.RING_FN i) (n.rd PHE_RPTi_CFG.RING i))),
   (9, n.tblBase % 2 ^ 21 != 0 || decide (n.usable 0 < n.tblBase + 2 ^ 21) || decide (n.usable 0 < histBase + histSize))]

/-- Is a QTY listed for its KIND (R217)? -/
def qtyListed (v : Nat) : Bool := if cmpKind v then decide (8 ≤ cmpQty v) && decide (cmpQty v ≤ 12) else decide (cmpQty v ≤ 6)

/-- The fields that publication `p` patches: offset and length (R227). -/
def State.patches (s : State) (p : Nat) : List (Nat × Nat) :=
  let mac := s.rd TRP_PUBp_OFS_C.OFS_LO p
  [(s.rd TRP_PUBp_OFS_A.OFS_HI p, 4), (s.rd TRP_PUBp_OFS_A.OFS_LO p, 4), (s.rd TRP_PUBp_OFS_B.OFS_HI p, 8),
   (s.rd TRP_PUBp_OFS_C.OFS_HI p, 4), (s.rd TRP_PUBp_OFS_B.OFS_LO p, (s.pubValue p).length)] ++
  (if s.on TRP_PUBp_SEC.OFS_KID p then [(s.rd TRP_PUBp_SEC.OFS_KID p, 4)] else []) ++
  (if mac = 0 then [] else [(mac, macLen (s.rd TRP_PUBp_SEC.MAC_ALG p))])

/-- TRP (R236). The causes of publications are tested on those with ENABLE set. -/
def causesTrp (n : State) : Causes :=
  let cs := n.validCmps
  let ts := n.validTerms
  let gs := n.validGsubs.map n.gsubE
  let ps := (List.range 256).filter (fun p => n.on TRP_PUBp_CFG.ENABLE p)
  let rate := fun (c : Nat) =>
    let v := n.cmpE c
    let ch := if cmpKind v then n.rd PHE_GRPg_PH.CH_A (cmpIndex v) else cmpIndex v
    bayRowHz (n.bayE (chBay (n.chE ch)))
  [(1, cs.any (fun c => !qtyListed (n.cmpE c) ||
      !(if cmpKind (n.cmpE c) then n.validGrps else n.validChans).contains (cmpIndex (n.cmpE c)))),
   (2, cs.any (fun c => let v := n.cmpE c
      f32Special (cmpPick v) || f32Special (cmpDrop v) ||
      (if cmpDir v then decide (f32Val (cmpDrop v) < f32Val (cmpPick v)) else decide (f32Val (cmpPick v) < f32Val (cmpDrop v))))),
   (3, ts.any (fun t => let v := n.termE t
      (termMembers v).isEmpty || (termMembers v).any (fun m => !cs.contains m.2) || (termWinEn v && termLo v == termHi v))),
   (4, anyPair (fun a b => termPub (n.termE a) == termPub (n.termE b)) ts || ts.any (fun t => !n.on TRP_PUBp_CFG.ENABLE (termPub (n.termE t)))),
   (5, ps.any (fun p => let len := n.rd TRP_PUBp_CFG.LEN p
      decide (len < 60) || decide (512 < len) || (n.patches p).any (fun x => decide (len < x.1 + x.2)) ||
      anyPair (fun a b => spansMeet a.1 a.2 b.1 b.2) (n.patches p))),
   (6, ps.any (fun p => !n.on TRP_PUBp_PORTS.PORT_MASK p)),
   (7, ps.any (fun p => n.on TRP_PUBp_OFS_C.OFS_LO p && decide (5 ≤ n.rd TRP_PUBp_SEC.MAC_ALG p))),
   (8, ps.any (fun p => !n.on TRP_PUBp_SCHED.FIRST_US p || decide (1000 * n.rd TRP_PUBp_SCHED.MAX_MS p < n.rd TRP_PUBp_SCHED.FIRST_US p))),
   (9, anyPair (fun a b => gsubDmac a == gsubDmac b && gsubAppid a == gsubAppid b && gsubRefCrc a == gsubRefCrc b && gsubRefLen a == gsubRefLen b) gs ||
       gs.any (fun v => gsubPorts v == 0 || gsubRefLen v == 0)),
   (10, decide (40000000 < (cs.map rate).sum))]

/-- Bytes per second that a bay records (R244, R252): each recorded subscription writes 16 + 8 × CHANNELS bytes a row. -/
def State.recRate (s : State) (b : Nat) : Nat :=
  if !bayRecEn (s.bayE b) then 0 else
  (((s.baySubs b).filter (fun i => !misfit (s.subE i) (s.bayE b))).map (fun i => (16 + 8 * subChannels (s.subE i)) * bayRowHz (s.bayE b))).sum

/-- REC (R260). -/
def causesRec (o n : State) : Causes :=
  let rings := (List.range 128).filter (fun b => n.on REC_BAYb_CFG.ENABLE b)
  let used := (List.range 16).filter (fun c => !(n.setBays c).isEmpty)
  let slots := (List.range 256).filter (fun i => n.rd REC_TRGi.KIND i != 0)
  let range := fun (k : Nat) => match k with | 1 => 256 | 2 => 256 | _ => 2048
  [(1, rings.any (fun b => n.recBase b % 65536 != 0 || decide (n.usable 1 < n.recBase b + n.recSize b)) ||
       anyPair (fun a b => spansMeet (n.recBase a) (n.recSize a) (n.recBase b) (n.recSize b)) rings),
   (2, o.rec_.segs.any (fun g => o.recBase g.bay != n.recBase g.bay || o.recSize g.bay != n.recSize g.bay)),
   (3, used.any (fun c => (n.setBays c).any (fun b =>
      decide (1000 * n.recSize b < 2 * (n.rd REC_SETc_TIME.PRE_MS c + n.rd REC_SETc_MAX.MAX_MS c) * n.recRate b)))),
   (4, slots.any (fun i => let k := n.rd REC_TRGi.KIND i
      decide (5 < k) || (k != 5 && !n.on REC_TRGi.ANY i && decide (range k ≤ n.rd REC_TRGi.INDEX i)) || (n.setBays (n.rd REC_TRGi.SET i)).isEmpty)),
   (5, (List.range 16).any (fun c => decide (n.rd REC_SETc_MAX.MAX_MS c < n.rd REC_SETc_TIME.POST_MS c) ||
      !anyUpTo 64 (fun sl => n.nsValid sl && n.rd STG_NSs_CFG.KIND sl == 2 && n.rd STG_NSs_CFG.RNS sl == n.rd REC_SETc_MAX.NS c)))]

/-- HIF (R284). -/
def causesHif (n : State) : Causes :=
  [(1, n.rd HIF_LINK_CFG.MAX_RATE == 0 || decide (5 < n.rd HIF_LINK_CFG.MAX_RATE)),
   (2, !([1, 2, 4, 8, 16].contains (n.rd HIF_LINK_CFG.MAX_WIDTH)))]

/-- The fields of a namespace's layout (R320). -/
def State.layout (s : State) (sl : Nat) : Nat × Nat × Nat × Nat × Nat :=
  (s.rd STG_NSs_CFG.KIND sl, s.rd STG_NSs_CFG.DRIVE_A sl, s.rd STG_NSs_CFG.DRIVE_B sl, s.nsBase sl, s.nsSize sl)

/-- The blocks of a shadow area (R308). -/
def shadowBlocks : Nat := 65536

/-- STG (R320). A shadow area always has 4,096 × 16 blocks, so DETAIL 5 never holds. -/
def causesStg (o n : State) : Causes :=
  let l := (List.range 64).filter n.nsValid
  let exts := l.flatMap (fun sl => (n.nsSides sl).map (fun i => (n.nsDrive sl i, n.nsBase sl, n.nsSize sl)))
  let shadow := fun (d : Nat) => n.rd STG_DSn_SHADOW.START d
  [(1, anyPair (fun a b => a.1 == b.1 && spansMeet a.2.1 a.2.2 b.2.1 b.2.2) exts ||
       exts.any (fun x => spansMeet x.2.1 x.2.2 (shadow x.1) shadowBlocks)),
   (2, l.any (fun sl => n.nsMirrored sl && n.nsDrive sl 0 == n.nsDrive sl 1)),
   (3, anyPair (fun a b => n.rd STG_NSs_CFG.RNS a == n.rd STG_NSs_CFG.RNS b) (l.filter (fun sl => n.rd STG_NSs_CFG.KIND sl == 2))),
   (4, anyUpTo 64 (fun sl => o.nsValid sl && o.layout sl != n.layout sl &&
      (!(o.nsEnts sl).isEmpty || (o.rd STG_NSs_CFG.KIND sl == 2 &&
        o.rec_.segs.any (fun g => o.rd REC_SETc_MAX.NS g.set == o.rd STG_NSs_CFG.RNS sl))))),
   (6, anyUpTo 256 (fun f => n.on HIF_FNf_STATE.PRESENT f && n.pfOf f == 3 && !n.on STG_CTRLf_WEIGHT.CTRL_WEIGHT f))]

/-- The contexts that an RMA commit checks: those cached, and the pinned ones of the image. -/
def State.ctxList (s : State) : List Nat :=
  (s.rma.pinned.map (fun p => p.2)) ++ ((s.winListed 11 false).map (fun i => s.winNat 11 false (64 * i) 64)).filter (fun v => ctxValid.get v == 1)

/-- RMA (R347). -/
def causesRma (n : State) : Causes :=
  let l := n.ctxList
  let pin := n.rma.pinned.find? (fun p => p.1 == n.mirrorQp)
  let hb := n.rd RMA_TWIN_HB.HB_MISS
  [(1, (l.filter (fun v => ctxMode.get v == 0)).any (fun v =>
      !bitOf (n.rd FPT_XPORTm_CFG.PFC_EN ((ctxPort.get v - 24) / 4)) (n.rd RMA_CFG.PRIO))),
   (2, decide (n.rd RMA_MISS.HIGH ≤ n.rd RMA_MISS.LOW) || decide (32 < n.rd RMA_MISS.HIGH)),
   (3, decide (14285 < (if hb = 0 then 3 else hb) * (n.hbUs / 1000) + n.rd RMA_TWIN_HB.TAKE_US)),
   (4, match pin with | none => true | some p => n.rd RMA_TWIN_CFG.HB_PORT == ctxPort.get p.2),
   (5, n.validBays.any (fun b => bayMirror (n.bayE b) &&
      decide (65536 * n.rd RMA_MIR_ROWS.MIR_BAY_STRIDE < 2 ^ n.rd RMA_MIR_ROWS.MIR_LOG2 * (64 + rowStride (bayWidth (n.bayE b)))))),
   (6, decide (256 < n.rma.pinned.length) || l.any (fun v => ctxMode.get v == 1 && ctxEnc.get v == 1))]

/-- SCH (R360). -/
def causesSch (o n : State) : Causes :=
  let free := (List.range 4091).drop 320
  let second := fun (p : Nat) => p % 2 == 1 && n.redundant p
  let pols := ((List.range 4091).filter (fun q => n.on SCH_Qq_CFG.POL_EN q)).map (fun q => n.rd SCH_Qq_CFG.POLICER q)
  [(1, free.any (fun q => n.qKind q == 1 && (decide (39 < n.rd SCH_Qq_CFG.PORT q) || second (n.rd SCH_Qq_CFG.PORT q)))),
   (2, free.any (fun q => (o.qKind q == 2) != (n.qKind q == 2) && (o.ringOfQueue q).isSome)),
   (3, pols.any (fun p => decide (1023 < p) || decide (n.rd SCH_POLp_PIR.RATE p < n.rd SCH_POLp_CIR.RATE p) ||
      decide (n.rd SCH_POLp_CBS.BYTES p < 1536) || decide (n.rd SCH_POLp_PBS.BYTES p < 1536))),
   (4, anyUpTo 4091 (fun q => decide (131072 < n.rd SCH_Qq_QUOTA.QUOTA q)) || anyUpTo 41 (fun p => decide (131072 < n.rd SCH_PORTn_QUOTA.QUOTA p)) ||
       decide (n.rd SCH_CFG.YELLOW_PCT < n.rd SCH_CFG.RED_PCT)),
   (5, anyUpTo 41 (fun p => anyUpTo 8 (fun c => !n.on SCH_CLSn_c_CFG.STRICT p c && !n.on SCH_CLSn_c_CFG.WEIGHT p c)) ||
       anyUpTo 4091 (fun q => n.qKind q != 0 && !n.on SCH_Qq_CFG.WEIGHT q)),
   (6, decide (n.rd SCH_PFC.XOFF_KIB ≤ n.rd SCH_PFC.XON_KIB))]

/-- CPU (R377). -/
def causesCpu (n : State) : Causes :=
  let l := (List.range 1024).filter (fun c => n.on CPU_CHch_CFG.VALID c)
  [(1, decide (16384 < (l.map (fun c => n.rd CPU_CHch_CFG.DEPTH c)).sum)),
   (2, l.any (fun c => !n.on CPU_CHch_CFG.DEPTH c || decide (16 < n.rd CPU_CHch_CFG.DEPTH c)))]

/-- MEM (R408). -/
def causesMem (n : State) : Causes :=
  let a := n.rd MEM_ALN.BASE * 2 ^ 26
  let size := n.rd MEM_ALN.SIZE * 2 ^ 26
  [(1, size == 0 || decide (n.usable 0 < a + size)),
   (2, ((List.range 128).filter n.bayRuns).any (fun b => let e := n.bayE b
      decide (bayBase e < a) || decide (a + size < bayBase e + bayRingBytes e))),
   (3, !n.on MEM_RD.TRACK_THRESH || decide (n.rd MEM_RD.ALN_ACT_NS < 40))]

/-- First event number and number of the events of each block, where not reserved (R431). -/
def calBlocks : List (Nat × Nat) :=
  [(0, 3), (48, 2), (96, 2), (144, 4), (192, 4), (240, 4), (288, 3), (336, 3), (384, 4), (432, 3), (480, 4), (528, 2), (576, 3), (624, 3),
   (672, 4), (720, 3), (768, 400), (1168, 2), (1216, 5), (1240, 5), (1264, 1), (1312, 2), (1360, 4)]

/-- Does a fixed event exist? -/
def calListedEvent (e : Nat) : Bool := calBlocks.any (fun p => decide (p.1 ≤ e) && decide (e < p.1 + p.2))

/-- Is `e` an event of the block whose first number is `a`, of `n` numbers? -/
def calIn (e a n : Nat) : Bool := decide (a ≤ e) && decide (e < a + n)

/-- The attributes that an event's block offers: traffic class, requester, address, privilege (R431). -/
def calTc (e : Nat) : Bool := calIn e 192 48 || calIn e 240 48 || calIn e 672 48 || calIn e 720 48
def calReq (e : Nat) : Bool := calIn e 576 48 || calIn e 1216 48 || calIn e 1360 48
def calPriv (e : Nat) : Bool := calIn e 768 400
def calAddr (e : Nat) : Bool := calIn e 1168 48 || calIn e 1216 48 || (calPriv e && [3, 4, 5, 9].contains ((e - 768) % 10))

/-- INDEX values of a probe (R438). -/
def probeRange (p : Nat) : Nat :=
  match p with
  | 1 => 1024 | 2 => 128 | 3 => 128 | 4 => 256 | 5 => 19 | 6 => 19 | 7 => 256 | 8 => 256 | 9 => 256 | 11 => 32 | 12 => 40 | 13 => 128
  | _ => 65536

/-- CAL (R441). -/
def causesCal (n : State) : Causes :=
  let js := List.range 128
  let ev := fun (j : Nat) => n.rd CAL_FCj_SEL.EVENT j
  [(1, js.any (fun j => !calListedEvent (ev j))),
   (2, js.any (fun j => (n.on CAL_FCj_SEL.TC_EN j && !calTc (ev j)) || (n.on CAL_FCj_SEL.REQ_EN j && !calReq (ev j)) ||
      (n.on CAL_FCj_SEL.PRIV_EN j && !calPriv (ev j)) || (n.on CAL_FCj_SEL.ADDR_EN j && !calAddr (ev j)))),
   (3, js.any (fun j => decide (n.rd64 CAL_FCj_LIMIT_LO.ADDR j < n.rd64 CAL_FCj_BASE_LO.ADDR j))),
   (4, anyUpTo 64 (fun u => let p := n.rd CAL_HUu_CFG.PROBE u
      decide (13 < p) || (p != 0 && !n.on CAL_HUu_UNIT.NS u) || decide (probeRange p ≤ n.rd CAL_HUu_CFG.INDEX u))),
   (5, js.any (fun j => n.on CAL_FCj_SEL.SAMPLE_EN j && !n.on CAL_FCj_PERIOD.PERIOD j))]

/-- EVT (R460): ranges and PF0's allowance are those that the image gives. -/
def causesEvt (n : State) : Causes :=
  let held := fun (v : Nat) => n.boot.fns.any (fun p => decide (p.2.2.1 ≤ v) && decide (v < p.2.2.1 + p.2.2.2))
  [(1, anyUpTo 512 (fun k => n.on EVT_SRCs_ROUTE.VEC_EN k && !held (n.rd EVT_SRCs_ROUTE.VECTOR k))),
   (2, anyUpTo 512 (fun k => n.on EVT_SRCs_ROUTE.RING_EN k) && (tabGet n.boot.fns 0).1 == 1),
   (3, n.on EVT_CFG.OUT_MODE && !n.on EVT_CFG.OUT_PULSE_US)]

/-- PWR (R478). -/
def causesPwr (n : State) : Causes :=
  [(1, decide (n.rd PWR_VNV.LOCK_MV < 5800) || decide (56000 < n.rd PWR_VNV.LOCK_MV)),
   (2, decide (n.rd PWR_VNV.HYST_MV < 100) || decide (5000 < n.rd PWR_VNV.HYST_MV)),
   (3, decide (150 < n.rd PWR_THERM.WARN_C))]

/-- The refusal causes of a block. QMG, GLB, DMA and BOOT have none. -/
def causesOf (b : Blk) (o n : State) : Causes :=
  match b with
  | .tim => causesTim n | .fpt => causesFpt n | .ppl => causesPpl n | .fwt => causesFwt n | .svi => causesSvi n | .aln => causesAln n
  | .phe => causesPhe n | .trp => causesTrp n | .recd => causesRec o n | .hif => causesHif n | .stg => causesStg o n | .rma => causesRma n
  | .sch => causesSch o n | .cpu => causesCpu n | .mem => causesMem n | .cal => causesCal n | .evt => causesEvt n | .pwr => causesPwr n
  | .qmg => [] | .glb => [] | .dma => [] | .boot => []

end Sys2Proof.Machine
end

