-- ==== Sys2Proof/Machine/Commit.lean ====
section
/-!
DEFINITION. The commit of a block: the set it stages, its check, the swap, and what each block does with its work at the swap
(R39 to R43, and the commit rule of each chapter).
-/
namespace Sys2Proof.Machine

/-! ## The staged set -/

/-- The RWL bits of the register at `a` (R8), less those that are fixed (R349). -/
def rwlMask (a : Nat) : Nat :=
  match regFields a with
  | some l => ((l.filter (fun f => f.acc == .rwl)).map (fun f => (2 ^ f.w - 1) * 2 ^ f.lo)).sum - fixedQueueBits a
  | none => 0

/-- A word with its RWL bits from `staged` and its other bits from `live`. -/
def mergeWord (mask : Nat) (live staged : Word) : Word :=
  BitVec.ofNat 32 ((live.toNat &&& (2 ^ 32 - 1 - mask % 2 ^ 32)) ||| (staged.toNat &&& mask))

/-- The indirect windows whose banks swap with a block (R45, R493). -/
def Blk.windows : Blk → List Nat
  | .ppl => [3] | .svi => [4] | .aln => [5] | .phe => [6] | .trp => [7, 8, 9, 10] | _ => []

/-- The state as the swap of a block leaves its registers and table banks (R39, R493). -/
def State.candidate (s : State) (b : Blk) : State :=
  let s := forEach (s.stageOf b).staged (fun p s =>
    match p.2 with
    | some v => s.setReg p.1 (mergeWord (rwlMask p.1) (s.reg p.1) (BitVec.ofNat 32 v))
    | none => s) s
  forEach b.windows (fun w s => s.swapWindow w) s

/-- The refusal of the staged set of a block: the lowest DETAIL whose cause holds (R39). -/
def State.refusal (s : State) (b : Blk) : Option Nat := firstCause (causesOf b s (s.candidate b))

/-! ## What differs -/

/-- Does any of the fields differ, instance `(i, j)`? -/
def differs (o n : State) (l : List Fld) (i : Nat := 0) (j : Nat := 0) : Bool := l.any (fun f => o.rd f i j != n.rd f i j)

/-- The entries of a window that hold anything in the live bank of either state. -/
def listedIn (o n : State) (w : Nat) : List Nat := (o.winListed w false ++ n.winListed w false).eraseDups

/-! ## Before the swap: work that ends under the old values -/

/-- Bays that stop, and bays whose layout changes (R188). -/
def State.bayOn (s : State) (b : Nat) : Bool := s.on ALN_CFG.ENABLE && bayValid (s.bayE b)
def bayMoved (o n : State) (b : Nat) : Bool :=
  bayRowHz (o.bayE b) != bayRowHz (n.bayE b) || bayWidth (o.bayE b) != bayWidth (n.bayE b) ||
  bayBase (o.bayE b) != bayBase (n.bayE b) || bayLog2 (o.bayE b) != bayLog2 (n.bayE b)

def State.alnBefore (s n : State) : State :=
  forEach ((List.range 128).filter s.bayRuns) (fun b s =>
    if !n.bayOn b then s.stopBay b else if bayMoved s n b then s.endBay b 2 else s) s

/-- Is a term in use, a comparator in use, a publication enabled, with TRP_CFG.ENABLE? -/
def State.termOn (s : State) (t : Nat) : Bool := s.on TRP_CFG.ENABLE && termValid (s.termE t)
def State.cmpOn (s : State) (c : Nat) : Bool := s.on TRP_CFG.ENABLE && cmpValid (s.cmpE c)
def State.pubOn (s : State) (p : Nat) : Bool := s.on TRP_CFG.ENABLE && s.on TRP_PUBp_CFG.ENABLE p

/-- Terms that leave: as if the arm bit were cleared (R225). -/
def State.trpBefore (s n : State) : State :=
  forEach (s.validTerms.filter s.termOn) (fun t s => if n.termOn t then s else (s.armTo t false).setTerm t 0) s

/-- The fields of a capture set. -/
def setFields : List Fld := [REC_SETc_TIME.POST_MS, REC_SETc_TIME.PRE_MS, REC_SETc_MAX.MAX_MS, REC_SETc_MAX.NS]

/-- Open segments of a set or a bay that the commit touches close (R254). -/
def State.recBefore (s n : State) : State :=
  let sets := (List.range 16).filter (fun c => differs s n setFields c || anyUpTo 4 (fun w => differs s n [REC_SETc_BAYw.BAYS] c w))
  let bays := (List.range 128).filter (fun b => differs s n [REC_BAYb_CFG.ENABLE] b)
  s.truncateSegs (fun g => sets.contains g.set || bays.contains g.bay)

def State.beforeSwap (s : State) (b : Blk) (n : State) : State :=
  match b with
  | .aln => s.alnBefore n
  | .trp => s.trpBefore n
  | .recd => s.recBefore n
  | .cal => s.calSync
  | _ => s

/-! ## After the swap, block by block; `o` is the state before it -/

/-- PWR (R464). -/
def State.pwrAfter (s : State) : State := s.showVinLow.nvCheck

/-- EVT (R451, R459). -/
def State.evtAfter (s o : State) : State :=
  let s := if differs o s [EVT_WDOG.TIMEOUT_MS] then { s with evt := { s.evt with wdogFrom := s.tick, wdogHalf := false } } else s
  s.showEvtOut

/-- The marks of Grain instance `g`. -/
def State.marksOf (s : State) (g : Nat) : List Nat := (List.range 256).filter (fun m => s.rd TIM_MARKn_CFG.INSTANCE m == g)

/-- Fields of a mark that make it new when they change (R77). -/
def markFields : List Fld :=
  [TIM_MARKn_CFG.DIV, TIM_MARKn_CFG.PHASE, TIM_MARKn_CFG.EVT, TIM_MARKn_CFG.INSTANCE, TIM_MARKn_CFG.ENABLE, TIM_MARKn_ANGLE.ANGLE]

/-- One Grain instance at a TIM commit (R73). -/
def State.grainCommit (s o : State) (g : Nat) : State :=
  let was := s.gstate g != 0
  let now := s.on TIM_GRAINn_CTRL.ENABLE g
  if now && !was then
    let s := s.grainStart g
    { s with tim := { s.tim with markCycle := (s.marksOf g).foldl (fun t m => tabSet t m 0) s.tim.markCycle } }
  else if !now && was then s.grainStop g
  else if now && differs o s [TIM_GRAINn_REF.KIND, TIM_GRAINn_REF.INDEX, TIM_GRAINn_ALT.KIND, TIM_GRAINn_ALT.ALT_EN, TIM_GRAINn_ALT.INDEX,
      TIM_GRAINn_CTRL.NOMINAL_MHZ, TIM_GRAINn_OFFSET.OFFSET] g then s.grainRestart g
  else s

/-- The PTP state of a port as the device holds it: its MODE, other codes as 0. -/
def State.ptpState (s : State) (n : Nat) : Nat := let m := s.rd TIM_PTP_PORTn.MODE n; if m < 3 then m else 0

/-- TIM (R55, R57, R73, R77, R79, R80, R82). -/
def State.timAfter (s o : State) : State :=
  let s := forEach (List.range 4) (fun g s => s.grainCommit o g) s
  let moved := (List.range 256).filter (fun m => differs o s markFields m)
  let s := { s with tim := { s.tim with
    markFrom := moved.foldl (fun t m => tabSet t m (s.grain (s.rd TIM_MARKn_CFG.INSTANCE m)).acc) s.tim.markFrom
    markCycle := (moved.filter (fun m => differs o s [TIM_MARKn_CFG.INSTANCE] m)).foldl (fun t m => tabSet t m 0) s.tim.markCycle } }
  let started := (List.range 4).filter (fun g => o.gstate g == 0 && s.gstate g != 0)
  let s := { s with tim := { s.tim with markFrom := (started.flatMap s.marksOf).foldl (fun t m => tabSet t m 0) s.tim.markFrom } }
  let shut := (List.range 8).filter (fun w => !s.on TIM_QWn.ENABLE w || s.gstate (s.rd TIM_MARKn_CFG.INSTANCE (s.rd TIM_QWn.OPEN w)) == 0)
  let s := s.wr TIM_QW_STATUS.OPEN (shut.foldl (fun v w => setBit v w false) (s.rd TIM_QW_STATUS.OPEN))
  let s := forEach ((List.range 40).filter (fun n => o.ptpState n != s.ptpState n)) (fun n s => s.raise 37 [i8 n]) s
  let s := s.setTim { s.tim with slewPpb := s.slewRate s.tim.slew s.tim.applied }
  (s.noteGate o.gateOk).timeCheck

/-- A field port at an FPT commit (R88, R103). One that is enabled while its pair is in Reset starts when the reset ends (R99). -/
def State.portCommit (s o : State) (n : Nat) : State :=
  let s := s.showSpeed n
  let was := o.on FPT_PORTn_CFG.ENABLE n
  let now := s.on FPT_PORTn_CFG.ENABLE n
  if now && !was then
    let s := s.setPort n { s.port n with inband := 0, since := s.tick }
    if (s.pair (n / 2)).inReset || s.lstate n = 4 then s else s.setLstate n 1
  else if was && !now then (((s.cutReceive n).cutFrames n).setLstate n 0).linkMoved n
  else if now && differs o s [FPT_PORTn_CFG.MODE, FPT_PORTn_CFG.AN] n then (s.resetPort n).linkMoved n
  else s

/-- A fabric sub-port at an FPT commit. -/
def State.subCommit (s o : State) (n : Nat) : State :=
  let m := (n - 24) / 4
  let was := o.portEnabled n
  let now := s.portEnabled n
  if now && !was then (s.setPort n { s.port n with since := s.tick }).setLstate n 1
  else if was && !now then ((s.cutReceive n).cutFrames n).setLstate n 0
  else if now && differs o s [FPT_XPORTm_CFG.AN, FPT_XPORTm_CFG.SPLIT, FPT_XPORTm_CFG.MEDIA, FPT_XPORTm_CFG.FEC, FPT_XPORTm_LANEMAP.MAP] m then
    s.resetPort n
  else s

/-- FPT (R103). A pair that is reset releases its drive (R99). A keeper that the commit starts counts from it (DESIGN CHOICE, log 34). A fabric port leaves x1
only where a field that resets it changes, so x1 lasts through ENABLE 0 and back (DESIGN CHOICE, log 34). -/
def State.fptAfter (s o : State) : State :=
  let s := forEach (List.range 24) (fun n s => s.portCommit o n) s
  let s := forEach (List.range 4) (fun m s =>
    let moved := differs o s [FPT_XPORTm_CFG.SPLIT, FPT_XPORTm_CFG.MEDIA, FPT_XPORTm_CFG.FEC, FPT_XPORTm_LANEMAP.MAP] m
    let s := if moved && (s.xport m).x1 then s.raise (portSource (24 + 4 * m) 1) else s
    let s := if moved then s.setXport m {} else s
    (forEach [0, 1, 2, 3] (fun j s => s.subCommit o (24 + 4 * m + j)) s).showFabric m) s
  let s := forEach (List.range 12) (fun p s =>
    if differs o s [FPT_PAIRp_CFG.MODE, FPT_PAIRp_CFG.HSR_MODE, FPT_PAIRp_CFG.INTERLINK] p then s.pairReset p else s) s
  forEach (List.range 12) (fun p s =>
    let s := if s.on FPT_PAIRp_KEEPER.TIMEOUT_MS p && !o.on FPT_PAIRp_KEEPER.TIMEOUT_MS p then
      s.setPair p { s.pair p with keeperFrom := s.tick } else s
    (s.bypCheck p).pairSettle p) s

/-- PPL (R123). -/
def State.pplAfter (s o : State) : State :=
  forEach (List.range 8) (fun r s =>
    if differs o s [PPL_TRAPr_BASE_LO.BASE, PPL_TRAPr_BASE_HI.BASE, PPL_TRAPr_SIZE.LOG2] r then
      (s.wr PPL_TRAPr_PROD.PROD 0 r).wr PPL_TRAPr_CONS.CONS 0 r else s) s

/-- The fields of a subscription whose change restarts it (R166). -/
def subKey (v : Nat) : List Nat :=
  [subDmac v, subAppid v, bitsOf v 320 512, subSvidLen v, subProfile v, subAsdus v, subChannels v, subConfRev v, subRate v, subWrap v,
   subBay v, subCol v]

/-- Publish the committed ingest loads (R165). -/
def State.showLoads (s : State) : State := (s.wr SVI_BUDGET.CHSAMP s.sviBudget).wr SVI_MACLOAD.APDUS s.sviMacLoad

/-- SVI (R166). -/
def State.sviAfter (s o : State) : State :=
  let s := forEach (listedIn o s 4) (fun i s =>
    let a := o.subE i
    let b := s.subE i
    if (subValid a || subValid b) && (subValid a != subValid b || subKey a != subKey b) then s.idleSub i else s) s
  s.showSubs.showLoads

/-- ALN (R188). -/
def State.alnAfter (s o : State) : State :=
  State.showPheLoad <| forEach (List.range 128) (fun b s =>
    if s.bayRuns b then
      if bayMoved o s b then (s.beginBay b).raise 224 [i8 b, i8 1, i8 1, i8 2] else s
    else if s.bayOn b then s.startBay b
    else if o.bayOn b then s.bayRestartPhe b 0
    else s) s

/-- The fields of a channel whose change restarts it (R210). -/
def chKey (v : Nat) : List Nat := [b2n (chValid v), chBay v, chCell v, chWin v, b2n (chAref v), chHlog2 v, chHist v]

/-- PHE (R210). -/
def State.pheAfter (s o : State) : State :=
  let moved := (listedIn o s 6).filter (fun c => o.on PHE_CFG.ENABLE != s.on PHE_CFG.ENABLE || chKey (o.chE c) != chKey (s.chE c))
  let s := forEach moved (fun c s =>
    if s.on PHE_CFG.ENABLE && chValid (s.chE c) then s.chRestartNow c else s.chStop c) s
  let grps := (o.validGrps ++ s.validGrps).eraseDups.filter (fun g =>
    differs o s [PHE_GRPg_PH.VALID, PHE_GRPg_PH.CH_A, PHE_GRPg_PH.CH_B, PHE_GRPg_CFG.CH_C, PHE_GRPg_CFG.ROC_CYC] g ||
    (s.grpChans g).any moved.contains)
  let s := forEach grps (fun g s => s.grpRestart g) s
  (s.showPheLoad.wr PHE_USED.CHANNELS s.validChans.length).wr PHE_USED.GROUPS s.validGrps.length

/-- The fields of a comparator whose change restarts it, and of a GOOSE subscription (R235, R240). -/
def cmpKey (v : Nat) : List Nat := [b2n (cmpKind v), cmpQty v, cmpIndex v, b2n (cmpDir v), b2n (cmpAbs v)]
def gsubKey (v : Nat) : List Nat := [gsubDmac v, gsubAppid v, gsubRefCrc v, gsubRefLen v]

/-- A comparator enters Blocked, as after a restart (R219, R235). -/
def State.cmpRestart (s : State) (c : Nat) : State :=
  (s.setCmpState c ((s.cmp c).lastN - 1) (1, 0)).setCmp c { lastTick := s.tick }

/-- A GOOSE subscription is cleared (R240). -/
def State.gsubRestart (s : State) (g : Nat) : State :=
  let s := (s.setGsub g {}).setGsubState g 0
  (((s.setWord TRP_GSUBs_STATE.STATE 0#32 g).setWord TRP_GSUBs_VALUE.VALUE 0#32 g).setWord TRP_GSUBs_STNUM.NUM 0#32 g).setWord
    TRP_GSUBs_SQNUM.NUM 0#32 g

/-- A term whose VALID is set takes ARM_INIT (R225). -/
def State.termStart (s : State) (t : Nat) : State :=
  let v := s.termE t
  let s := s.armTo t (termArmInit v)
  (s.setTerm t (if !termArmInit v then 1 else if s.termBlocked v then 3 else 2)).showOut t v

/-- TRP (R219, R225, R231, R235, R240, R241). -/
def State.trpAfter (s o : State) : State :=
  let cmps := listedIn o s 7
  let fresh := cmps.filter (fun c => s.cmpOn c && (!o.cmpOn c || cmpKey (o.cmpE c) != cmpKey (s.cmpE c)))
  let gone := cmps.filter (fun c => o.cmpOn c && !s.cmpOn c)
  let s := forEach gone (fun c s => (s.setCmpState c 0 (0, 0)).setCmp c {}) s
  let blocked := fresh.filter (fun c => s.cmpState c != 1)
  let s := forEach fresh (fun c s => s.cmpRestart c) s
  let s := s.evalTerms blocked (fun _ => none) blocked
  let s := forEach (s.validTerms.filter (fun t => s.termOn t && !o.termOn t)) (fun t s => s.termStart t) s
  let s := forEach (List.range 256) (fun p s =>
    if s.pubOn p && !o.pubOn p then s.pubStart p else if o.pubOn p && !s.pubOn p then s.setPub p { s.pub p with running := false } else s) s
  let s := forEach (listedIn o s 10) (fun g s =>
    let a := o.gsubE g
    let b := s.gsubE g
    if gsubValid a && (!gsubValid b || gsubKey a != gsubKey b) then s.gsubRestart g else s) s
  let s := if differs o s [TRP_GRING_BASE_LO.BASE, TRP_GRING_BASE_HI.BASE, TRP_GRING_SIZE.LOG2] then
    (s.wr TRP_GRING_PROD.INDEX 0).wr TRP_GRING_CONS.INDEX 0 else s
  s.showTrp

/-- REC (R246). -/
def State.recAfter (s o : State) : State :=
  let moved := (List.range 128).filter (fun b => differs o s [REC_BAYb_BASE_LO.BASE, REC_BAYb_BASE_HI.BASE, REC_BAYb_CFG.SIZE] b)
  (forEach moved (fun b s => s.recRestart b) s).showSegs

/-- Mirror state and sync bits of a namespace from the marks in MRAM: at a start, and under a new layout (R306, R307). -/
def State.loadMirror (s : State) (n : Nat) : State :=
  let m := leNat (s.mramRead (markAddr n) 8)
  let a := !bitOf m 0
  let b := !bitOf m 1
  let s := (s.wr STG_NSs_STATE.SYNC_A (b2n a) n).wr STG_NSs_STATE.SYNC_B (b2n b) n
  let s := s.setNss n { s.nss n with dirty := !(a && b), failed := false, rebuilding := false, chunk := false, redo := false, left := false }
  s.setMirror n (if !s.nsValid n || !s.nsMirrored n then 3 else if a && b then 0 else 1)

/-- STG (R320): a namespace whose layout changes is Offline until its commands already fetched are done. An AUTO_REBUILD that the
commit sets starts the rebuild of a Degraded mirror whose members are Up (R307). -/
def State.stgAfter (s o : State) : State :=
  let moved := (List.range 64).filter (fun n => o.nsValid n != s.nsValid n || (s.nsValid n && o.layout n != s.layout n))
  let s := forEach moved (fun n s =>
    let s := (s.stopRebuild n).loadMirror n
    let s := s.setNss n { s.nss n with draining := true }
    s.updOnline n) s
  let s := forEach ((List.range 64).filter s.nsValid) (fun n s => s.mirrorNext n) s
  s.slotsCommit.stgSettle

/-- A pinned context takes the image's value (R347): its slot is Valid and its queue pair starts afresh. -/
def State.pinReset (s : State) (i q v : Nat) : State :=
  let s := (s.setQp q {}).setWinNat 11 false (64 * i) 64 v
  let s := s.setHeld (s.rma.held.filter (fun h => !(h.qp == q)))
  (s.setSlot i { st := 2, qp := q, last := s.tick }).rateStart q

/-- RMA (R343, R347). The pinned context of queue pair q lies in cache slot q (log 44). -/
def State.rmaAfter (s o : State) : State :=
  let s := forEach s.rma.pinned (fun p s => s.pinReset p.1 p.1 p.2) s
  s.twinCommit (o.on RMA_TWIN_CFG.TWIN_EN)

/-- CPU (R377): a channel whose depth or scope changes is emptied, its reservation aborted. -/
def State.cpuAfter (s o : State) : State :=
  forEach (List.range 1024) (fun c s =>
    if differs o s [CPU_CHch_CFG.DEPTH, CPU_CHch_CFG.LOCAL, CPU_CHch_CFG.CLUSTER, CPU_CHch_CFG.LCORE] c then
      let s := s.chanAbort c
      (s.setChan c { s.chan c with msgs := [] }).showChan c
    else s) s

/-- CAL (R441). -/
def State.calAfter (s o : State) : State :=
  let s := { s with calFcFrom := (List.range 128).foldl (fun t j => tabSet t (1408 + j) (s.tick + 1)) s.calFcFrom }
  forEach (List.range 64) (fun u s =>
    if differs o s [CAL_HUu_CFG.PROBE, CAL_HUu_CFG.MODE, CAL_HUu_UNIT.NS] u then s.histClear u else s) s

/-- The frames of a queue whose binding has become KIND 0 are discarded as they reach the head, which is at once (R349, R360). -/
def State.unbindQueue (s : State) (q : Nat) : State :=
  forEach (s.schQ q) (fun f s =>
    (((s.count SCH_cnt_LO.COUNT 6).bump SCH_Qq_DROP.HEAD_DROP q).raise 387 [i16 q]).freeCells q f.pfc (cellsOf f.bytes)) (s.setSchQ q [])

/-- SCH (R352, R360): the cells of a queue that moves to another port are held by that port. -/
def State.schAfter (s o : State) : State :=
  let s := forEach ((List.range 4091).filter (fun q => o.qPort q != s.qPort q)) (fun q s =>
    let n := s.rd SCH_Qq_USE.USE q
    let s := s.portUse (o.qPort q) (s.rd SCH_PORTn_USE.USE (o.qPort q) - n)
    s.portUse (s.qPort q) (s.rd SCH_PORTn_USE.USE (s.qPort q) + n)) s
  forEach ((s.sch.queues.map (fun p => p.1)).filter (fun q => s.qKind q == 0)) (fun q s => s.unbindQueue q) s

def State.afterSwap (s : State) (b : Blk) (o : State) : State :=
  match b with
  | .pwr => s.pwrAfter | .evt => s.evtAfter o | .tim => s.timAfter o | .fpt => s.fptAfter o | .ppl => s.pplAfter o
  | .svi => s.sviAfter o | .aln => s.alnAfter o | .phe => s.pheAfter o | .trp => s.trpAfter o | .recd => s.recAfter o
  | .stg => s.stgAfter o | .rma => s.rmaAfter o | .cpu => s.cpuAfter o | .cal => s.calAfter o | .mem => s.showSegs
  | .glb => s | .fwt => s | .qmg => s | .sch => s.schAfter o | .dma => s | .boot => s | .hif => s

/-! ## The commit -/

/-- The swap of a block: RESULT 1, COMMITS + 1, source 20 with the Grain angle of `grain` (R39, R43). -/
def State.commitBlk (s : State) (b : Blk) (grain : Option Nat) : State :=
  let o := s
  let s := s.beforeSwap b (s.candidate b)
  let s := (s.candidate b).afterSwap b o
  let s := (s.freeMark b).endStage b 1 0
  let s := s.wr STAGE_STATUS.COMMITS ((s.rd STAGE_STATUS.COMMITS b.base + 1) % 256) b.base
  s.stageTold b 1 grain

/-- A refused set: RESULT 2 and DETAIL; the staged set is kept. -/
def State.refuseStage (s : State) (b : Blk) (d : Nat) : State :=
  (s.endStage b 2 1).wr STAGE_STATUS.DETAIL d b.base

end Sys2Proof.Machine
end

