-- ==== Sys2Proof/Machine/Dma.lean ====
section
/-!
DEFINITION. The DMA engine (chapter 18). A burst is read whole when its data arrives and is then written or compared; the write's
response comes later.
-/
namespace Sys2Proof.Machine

def State.dmaCh (s : State) (ch : Nat) : DmaCh := tabGet s.dma.chans ch
def State.setDmaCh (s : State) (ch : Nat) (c : DmaCh) : State := { s with dma := { s.dma with chans := tabSet s.dma.chans ch c } }
def State.dmaState (s : State) (ch : Nat) : Nat := s.rd DMA_CHn_STATUS.STATE ch


/-! ## Descriptors (R379 to R381) -/

def DmaCh.src (c : DmaCh) : Nat := c.desc.getD 0 0
def DmaCh.dst (c : DmaCh) : Nat := c.desc.getD 1 0
def DmaCh.q2 (c : DmaCh) : Nat := c.desc.getD 2 0
def DmaCh.next (c : DmaCh) : Nat := c.desc.getD 3 0
def DmaCh.len (c : DmaCh) : Nat := bitsOf c.q2 0 32
/-- 0 copy, 1 fill, 2 compare. -/
def DmaCh.op (c : DmaCh) : Nat := bitsOf c.q2 32 2
def DmaCh.sspace (c : DmaCh) : Nat := bitsOf c.q2 34 2
def DmaCh.dspace (c : DmaCh) : Nat := bitsOf c.q2 36 2
def DmaCh.evt (c : DmaCh) : Bool := bitOf c.q2 38
def DmaCh.last (c : DmaCh) : Bool := bitOf c.q2 39
/-- Is it a copy whose ranges overlap in one space? Its result is undefined (R382). -/
def DmaCh.overlaps (c : DmaCh) : Bool := c.op == 0 && c.sspace == c.dspace && spansMeet c.src c.len c.dst c.len
/-- Does the descriptor use host memory? -/
def DmaCh.usesHost (c : DmaCh) : Bool := (c.op != 1 && c.sspace == 2) || c.dspace == 2

/-- Does a range lie in its space (R379)? -/
def State.inSpace (s : State) (space a n : Nat) : Bool := space == 2 || decide (a + n ≤ s.usable space)

/-- The ERR with which a descriptor is refused at its load, 0 when it is taken (R380, R381). -/
def State.dmaCheck (s : State) (c : DmaCh) : Nat :=
  if c.op = 3 || c.dspace = 3 || (c.op != 1 && c.sspace == 3) || c.q2 / 2 ^ 40 != 0 || c.len = 0 || (!c.last && c.next % 32 != 0) then 5
  else if (c.op != 1 && !s.inSpace c.sspace c.src c.len) || !s.inSpace c.dspace c.dst c.len then 5
  else if c.dspace = 0 && spansMeet c.dst c.len (s.rd MEM_ALN.BASE * 2 ^ 26) (s.rd MEM_ALN.SIZE * 2 ^ 26) then 4
  else 0

/-! ## Registers and states (R384, R386) -/

/-- Publish SRC_CUR, DST_CUR and REMAIN. -/
def State.showDma (s : State) (ch : Nat) : State :=
  let c := s.dmaCh ch
  ((s.wr64 DMA_CHn_SRC_CUR_LO.ADDR ((c.src + c.p) % 2 ^ 64) ch).wr64 DMA_CHn_DST_CUR_LO.ADDR ((c.dst + c.p) % 2 ^ 64) ch).wr
    DMA_CHn_REMAIN.BYTES (c.len - c.p) ch

/-- Data on its way from host memory for channel `ch` is no longer wanted. -/
def State.dropDmaReads (s : State) (ch : Nat) : State :=
  { s with hif := { s.hif with
      reads := s.hif.reads.map (fun (r : ReadReq) => if r.why == .dmaData ch then { r with why := .dmaData 32 } else r)
      waiting := s.hif.waiting.filter (fun r => r.why != .dmaData ch)
      arrived := s.hif.arrived.filter (fun (x : Arrived) => x.why != .dmaData ch) } }

/-- The channel enters Error (source 433). -/
def State.dmaError (s : State) (ch err : Nat) : State :=
  let s := (s.dropDmaReads ch).setDmaCh ch { s.dmaCh ch with reads := [], writes := [], err := 0 }
  let s := ((s.wr DMA_CHn_STATUS.STATE 5 ch).wr DMA_CHn_STATUS.ERR err ch).showDma ch
  (s.count DMA_cnt_LO.COUNT 2).raise 433 [i8 ch, i8 err]

/-- The channel is to end with an error: nothing more is issued, and unwritten data is discarded; it ends when its write responses
are in. -/
def State.dmaFail (s : State) (ch err : Nat) : State :=
  let s := s.dropDmaReads ch
  let c := s.dmaCh ch
  if c.writes.isEmpty then s.dmaError ch err
  else s.setDmaCh ch { c with reads := [], err := if c.err = 0 then err else c.err }

/-- The channel is Paused (source 435). -/
def State.dmaPaused (s : State) (ch : Nat) : State := ((s.wr DMA_CHn_STATUS.STATE 3 ch).showDma ch).raise 435 [i8 ch]

/-! ## Bursts (R383, R385) -/

/-- The next burst of a descriptor: its offset and length. Bursts end at multiples of 256 from where reading began. -/
def DmaCh.burst (c : DmaCh) : Nat × Nat :=
  let a := (if c.op = 1 then c.dst else c.src) + c.issued
  (c.issued, min (c.len - c.issued) (c.start + ((a - c.start) / 256 + 1) * 256 - a))

/-- Key of host data of a side: an address, apart for the two sides of a compare. -/
def hostKey (dst : Bool) (a : Nat) : Nat := a + (if dst then 2 ^ 70 else 0)

/-- Ask host memory for a range, rounded outward to 64 bytes. -/
def State.dmaAsk (s : State) (ch : Nat) (dst : Bool) (a n : Nat) : State :=
  let lo := a / 64 * 64
  s.dmaRead 0 lo ((a + n + 63) / 64 * 64 - lo) (.dmaData ch) (hostKey dst lo)

/-- Byte `i` of a fill: the pattern's byte (DST + i) mod 8 (R382). -/
def fillBytes (pattern a n : Nat) : List Byte := (List.range n).map (fun i => BitVec.ofNat 8 (bitsOf pattern (8 * ((a + i) % 8)) 8))

/-- Posted writes to host memory, none across a 4 KiB boundary. -/
def State.dmaHostWrite (s : State) (a : Nat) (b : List Byte) : State :=
  forEach (splitRead 4096 (b.length / 4096 + 2) a b.length 0) (fun p s => s.dmaWrite 0 p.1 (slice b p.2.2 p.2.1)) s

/-- Write data at the destination. A bulk segment that is written is in use before the write (R398). -/
def State.dmaPut (s : State) (space a : Nat) (b : List Byte) : State :=
  match space with
  | 0 => s.rtWrite a b
  | 1 =>
    let n := max 1 (s.usable 1 / 8)
    let w := (List.range 8).foldl (fun m i => if spansMeet a b.length (i * n) n then setBit m i true else m) s.mem.written
    let s := s.bulkTouch
    (State.showSegs { s with mem := { s.mem with written := w } }).bulkWrite a b
  | _ => s.dmaHostWrite a b

/-- Issue a burst: its reads, or the write of a fill. -/
def State.dmaBurst (s : State) (ch : Nat) : State :=
  let c := s.dmaCh ch
  let b := c.burst
  let c' := { c with issued := c.issued + b.2 }
  if c.op = 1 then
    (s.setDmaCh ch { c' with writes := c.writes ++ [b.2] }).dmaPut c.dspace (c.dst + b.1) (fillBytes c.src (c.dst + b.1) b.2)
  else
    let s := s.setDmaCh ch { c' with reads := c.reads ++ [b] }
    let s := if c.sspace = 2 then s.dmaAsk ch false (c.src + b.1) b.2 else s
    if c.op = 2 && c.dspace = 2 then s.dmaAsk ch true (c.dst + b.1) b.2 else s

/-- Issue bursts while the channel runs, up to 16 outstanding. -/
def State.dmaIssue (s : State) (ch : Nat) : Nat → State
  | 0 => s
  | k + 1 =>
    let c := s.dmaCh ch
    if s.dmaState ch != 1 || c.err != 0 || c.len ≤ c.issued || 16 ≤ c.reads.length + (if c.op = 1 then c.writes.length else 0) then s
    else (s.dmaBurst ch).dmaIssue ch k

/-- Begin, or begin again, at the progress point. -/
def State.dmaGo (s : State) (ch : Nat) : State :=
  let c := s.dmaCh ch
  let a := (if c.op = 1 then c.dst else c.src) + c.p
  (s.setDmaCh ch { c with issued := c.p, start := a / 64 * 64 }).dmaIssue ch 16

/-- Load the descriptor at real-time offset `a`: it is refused, or the channel goes on with it; `go` issues its bursts. -/
def State.dmaLoad (s : State) (ch a : Nat) (go : Bool) : State :=
  let s := s.wr64 DMA_CHn_CUR_LO.ADDR (a % 2 ^ 64) ch
  let c : DmaCh := { desc := (List.range 4).map (fun i => leNat (s.rtRead (a + 8 * i) 8)) }
  let s := (s.setDmaCh ch c).showDma ch
  let code := if a % 32 != 0 || !s.inSpace 0 a 32 then 5 else s.dmaCheck c
  if code != 0 then s.dmaError ch code else if go then s.dmaGo ch else s

/-- P reaches LEN: the descriptor completes; the next one is loaded, or the channel is Done (R385). -/
def State.dmaComplete (s : State) (ch : Nat) : State :=
  let c := s.dmaCh ch
  let s := (s.count DMA_cnt_LO.COUNT 0).count DMA_cnt_LO.COUNT 1 0 c.len
  let s := (s.cal 1168 1 { addr := some c.dst }).cal 1169 c.len { addr := some c.dst }
  let s := if c.evt then s.raise 432 [i8 ch] else s
  if c.last then (s.wr DMA_CHn_STATUS.STATE 4 ch).showDma ch else s.dmaLoad ch c.next (s.dmaState ch == 1)

/-- What follows an advance of a channel: its end with an error, its pause, the end of its descriptor, or more bursts. -/
def State.dmaNext (s : State) (ch : Nat) : State :=
  let c := s.dmaCh ch
  if c.err != 0 then (if c.writes.isEmpty then s.dmaError ch c.err else s)
  else if c.len ≤ c.p && s.dmaState ch = 1 then s.dmaComplete ch
  else if s.dmaState ch = 2 && c.reads.isEmpty && c.writes.isEmpty then
    if c.len ≤ c.p then
      let s := s.dmaComplete ch
      if s.dmaState ch = 2 then s.dmaPaused ch else s
    else s.dmaPaused ch
  else s.dmaIssue ch 16

/-! ## Commands (R386) -/

/-- PAUSE written 1: a Running channel issues no new read (R386). -/
def State.dmaHold (s : State) (ch : Nat) : State :=
  let s := s.wr DMA_CHn_CTRL.PAUSE 1 ch
  if s.dmaState ch = 1 && (s.dmaCh ch).err = 0 then (s.wr DMA_CHn_STATUS.STATE 2 ch).dmaNext ch else s

/-- PAUSE written 0: a Paused channel resumes at SRC_CUR (R386). -/
def State.dmaGoOn (s : State) (ch : Nat) : State :=
  let s := s.wr DMA_CHn_CTRL.PAUSE 0 ch
  if s.dmaState ch = 3 && (s.dmaCh ch).err = 0 then (s.wr DMA_CHn_STATUS.STATE 1 ch).dmaGo ch else s

/-- DMA_START (R386): START written by agent `who`, with PAUSE in the same write. Where START is ignored, PAUSE still acts. -/
def execDmaStart (who ch : Nat) (pause : Bool) (s : State) : Host.Outcome State Fault Refusal :=
  if s.shut who then ok (s.refuseWrite who) else
  if 32 ≤ ch then ok s else
  if s.dmaBusy ch then ok (if pause then s.bad.dmaHold ch else s.bad.dmaGoOn ch) else
  let s := s.wr DMA_CHn_CTRL.PAUSE (b2n pause) ch
  let s := ((s.wr DMA_CHn_STATUS.OWNER who ch).wr DMA_CHn_STATUS.MISM 0 ch).wr DMA_CHn_STATUS.ERR 0 ch
  let s := (s.wr DMA_CHn_STATUS.STATE (if pause then 3 else 1) ch).dmaLoad ch (s.rd64 DMA_CHn_DESC_LO.DESC ch) (!pause)
  if pause && s.dmaState ch = 3 then ok (s.dmaPaused ch) else ok s

/-- DMA_PAUSE (R386): PAUSE written 1. -/
def execDmaPause (ch : Nat) (s : State) : Host.Outcome State Fault Refusal :=
  if 32 ≤ ch then ok s else ok (s.dmaHold ch)

/-- DMA_RESUME (R386): PAUSE written 0 resumes a Paused channel at SRC_CUR. -/
def execDmaResume (ch : Nat) (s : State) : Host.Outcome State Fault Refusal :=
  if 32 ≤ ch then ok s else ok (s.dmaGoOn ch)

/-- DMA_ABORT (R386): the channel ends in Error with ERR 1. -/
def execDmaAbort (ch : Nat) (s : State) : Host.Outcome State Fault Refusal :=
  if ch < 32 && [1, 2, 3].contains (s.dmaState ch) then ok (s.dmaFail ch 1) else ok s

/-! ## Data (R382, R383) -/

/-- Bytes of a range of a space; those of host memory once all have arrived. The second part says that a read failed. -/
def State.dmaGet (s : State) (ch : Nat) (dst : Bool) (space a n : Nat) : Option (List Byte) × Bool :=
  match space with
  | 0 => (some (s.rtRead a n), false)
  | 1 => (some (s.bulkRead a n), false)
  | _ =>
    let lo := a / 64 * 64
    let len := (a + n + 63) / 64 * 64 - lo
    let mine := (s.hif.arrived.filter (fun (x : Arrived) => x.why == .dmaData ch && decide (hostKey dst lo ≤ x.off) &&
      decide (x.off < hostKey dst lo + len))).mergeSort (fun x y => decide (x.off ≤ y.off))
    let b := mine.flatMap (fun x => x.bytes)
    if mine.any (fun x => x.err != 0) then (none, true)
    else if b.length < len then (none, false)
    else (some (slice b (a - lo) n), false)

/-- Host data of a burst has been used. -/
def State.dmaUsed (s : State) (ch : Nat) (dst : Bool) (a n : Nat) : State :=
  let lo := a / 64 * 64
  let len := (a + n + 63) / 64 * 64 - lo
  { s with hif := { s.hif with arrived := s.hif.arrived.filter (fun (x : Arrived) => !(x.why == .dmaData ch &&
      decide (hostKey dst lo ≤ x.off) && decide (x.off < hostKey dst lo + len))) } }

/-- The first index at which two lists differ. -/
def firstDiff : List Byte → List Byte → Nat → Option Nat
  | a :: s, b :: t, i => if a = b then firstDiff s t (i + 1) else some i
  | _, _, _ => none

/-- DMA_READ_DATA (R382, R383): the data of the oldest burst of channel `ch` arrives; `ecc`: it holds an uncorrectable error. -/
def execDmaReadData (ch : Nat) (ecc : Bool) (s : State) : Host.Outcome State Fault Refusal :=
  if 32 ≤ ch then ok s else
  let c := s.dmaCh ch
  match c.reads with
  | [] => ok s
  | (o, n) :: t =>
    let x := s.dmaGet ch false c.sspace (c.src + o) n
    let y := if c.op = 2 then s.dmaGet ch true c.dspace (c.dst + o) n else (some [], false)
    if ecc || x.2 || y.2 then ok (s.dmaFail ch 2) else
    match x.1, y.1 with
    | some b, some d =>
      let s := (if c.sspace = 1 || (c.op = 2 && c.dspace = 1) then s.bulkTouch else s).dmaUsed ch false (c.src + o) n
      if c.op = 2 then
        let s := s.dmaUsed ch true (c.dst + o) n
        match firstDiff b d 0 with
        | some i =>
          let s := (s.dropDmaReads ch).setDmaCh ch { c with p := o + i, reads := [] }
          let s := ((s.wr DMA_CHn_MISMATCH.OFFSET (o + i) ch).wr DMA_CHn_STATUS.MISM 1 ch).wr DMA_CHn_STATUS.STATE 4 ch
          ok (((s.showDma ch).count DMA_cnt_LO.COUNT 3).raise 434 [i8 ch, i32 (o + i)])
        | none => ok (((s.setDmaCh ch { c with p := o + n, reads := t }).showDma ch).dmaNext ch)
      else
        let s := s.setDmaCh ch { c with reads := t, writes := c.writes ++ [n] }
        let f := if c.overlaps then s.freeBytes n else (s, b)
        ok ((f.1.dmaPut c.dspace (c.dst + o) f.2).dmaNext ch)
    | _, _ => ok s

/-- DMA_WRITE_RESPONSE (R384 to R386): the response of the oldest write of channel `ch`; not `good`: an uncorrectable error at the
destination. -/
def execDmaWriteResponse (ch : Nat) (good : Bool) (s : State) : Host.Outcome State Fault Refusal :=
  if 32 ≤ ch then ok s else
  let c := s.dmaCh ch
  match c.writes with
  | [] => ok s
  | n :: t =>
    if good then ok (((s.setDmaCh ch { c with p := c.p + n, writes := t }).showDma ch).dmaNext ch)
    else ok (((s.setDmaCh ch { c with writes := t }).dmaFail ch 6))

/-! ## What stops channels (R387) -/

/-- PF0 can no longer master: channels with host traffic stop issuing, to end with ERR 3. -/
def State.dmaStopHost (s : State) : State :=
  forEach (List.range 32) (fun ch s =>
    let c := s.dmaCh ch
    if [1, 2, 3].contains (s.dmaState ch) && c.usesHost && c.err = 0 then s.setDmaCh ch { c with reads := [], err := 3 } else s) s

/-- A channel so stopped enters Error once the last of its tags is retired and its write responses are in. -/
def State.dmaStopped (s : State) : State :=
  forEach (List.range 32) (fun ch s =>
    let c := s.dmaCh ch
    if c.err = 3 && c.writes.isEmpty && [1, 2, 3].contains (s.dmaState ch) && s.hif.reads.all (fun r => r.why != .dmaData ch) then
      s.dmaError ch 3
    else s) s

/-- A device reset or Standby returns every channel to Idle. -/
def State.dmaIdle (s : State) : State :=
  forEach (List.range 32) (fun ch s =>
    (s.dropDmaReads ch).wr DMA_CHn_STATUS.STATE 0 ch) { s with dma := {} }

end Sys2Proof.Machine
end

