-- ==== Sys2Proof/Machine/Host.lean ====
section
/-!
DEFINITION. The PCIe host interface (chapter 12): the link, configuration requests, quiescing of functions
and readiness. The commands that also reach other blocks are in HostReset.lean.
-/
namespace Sys2Proof.Machine

/-! ## Quiescing (R278, R279, R295, R296) -/

/-- Put QUIESCED of function `f`. -/
def State.setQuiesced (s : State) (f : Nat) (b : Bool) : State := s.wr HIF_FNf_STATE.QUIESCED (b2n b) f

/-- The episode of ring g ends: what is still cut never completes; the cut entries are counted and told (R296). -/
def State.endCut (s : State) (g : Nat) : State :=
  let r := s.ring g
  let n := r.cutCount + (r.jobs.filter (fun j => j.cut && j.done.isNone)).length
  let f := s.rd QMG_RINGg_DESC.FN g
  let s := s.setRing g { r with jobs := r.jobs.filter (fun j => !(j.cut && j.done.isNone)), cutCount := 0 }
  if n = 0 then s else
  let s := ((s.ringCount g 3 n).count QMG_cnt_LO.COUNT 5 0 n).count HIF_cnt_LO.COUNT 9 0 n
  (s.bump HIF_FNf_POISON.ABORTED f 0 n).raise 323 [i8 f, i16 (s.rd QMG_RINGg_DESC.RING g), i16 n]

/-- A ring that a reset or a Destroy Ring of its function leaves no use for: its jobs are counted as cut, and it is Absent. -/
def State.dropRing (s : State) (g : Nat) : State := ((s.cutRing g).endCut g).destroyRing g

/-- The admin registers of function `f` return to reset; ALLOW keeps its image value (R295). -/
def State.resetAdmin (s : State) (f : Nat) : State :=
  let a := QMG_ADM_ALLOW.ALLOW.addr f 0
  s.dropRegs (fun k => decide (fnBase f + 0x10000 ≤ k) && decide (k < fnBase f + 0x10100) && k != a)

/-- The rings of function `f` are destroyed and its admin registers reset. -/
def State.dropRings (s : State) (f : Nat) : State :=
  (forEach (s.ringsOf f) (fun g s => s.dropRing g) s).resetAdmin f

/-- A Quiesced ring is Idle: a Destroy Ring that was waiting ends, and a TAIL beyond the ring, written meanwhile, is a malformed
doorbell (R291, R295). -/
def State.idleRing (s : State) (f g : Nat) : State :=
  let s := s.setRingState g 1
  if (s.ring g).destroying then s.endDestroy g
  else if s.ringSize g < s.ringDue g then s.functionFault f g 7 none else s

/-- A function whose last owed tag is retired leaves Quiesced (R279); at the end of a function-level reset its rings go. A VF that has
been removed is then over. -/
def State.settle (s : State) (f : Nat) : State :=
  if !s.on HIF_FNf_STATE.QUIESCED f || s.owedTo f != 0 then s else
  let s := forEach ((s.ringsOf f).filter (fun g => s.rd QMG_RINGg_DESC.STATE g == 3)) (fun g s => s.endCut g) s
  let s := s.setQuiesced f false
  let s := if s.on HIF_FNf_STATE.FLR_BUSY f then s.dropRings f
    else forEach ((s.ringsOf f).filter (fun g => s.rd QMG_RINGg_DESC.STATE g == 3)) (fun g s => s.idleRing f g) s
  let s := if s.on HIF_FNf_STATE.PRESENT f then s else s.wr HIF_FNf_STATE.FLR_BUSY 0 f
  (s.raise 312 [i8 f]).kickRings f

/-- Requests of function `f` stop and its Running rings are Quiesced; with no tag owed they are Idle at once. `all` also takes
rings in Fault (function-level reset). -/
def State.quiesce (s : State) (f : Nat) (all : Bool) : State :=
  let s := s.stopRequests f
  let s := forEach (s.ringsOf f) (fun g s =>
    let st := s.rd QMG_RINGg_DESC.STATE g
    if st = 2 || (all && st = 4) then (s.cutRing g).setRingState g 3 else s) s
  (s.setQuiesced f true).settle f

/-! ## Readiness (R280, R38) -/

/-- The upstream port sends DRS when the link is in L0 with PF0 ready for the first time (R280). -/
def State.sendDrs (s : State) : State :=
  if !s.hif.drsSent && s.rd HIF_LINK_STATUS.LTSSM == 3 && s.on HIF_FNf_STATE.READY 0 then
    State.tlpOut { s with hif := { s.hif with drsSent := true } } 0 .drs
  else s

/-- A function starts a reset or initialisation: it is not ready until FUNCTION_INIT_DONE. -/
def State.startInit (s : State) (f : Nat) : State :=
  let c := s.cfg f
  ((s.setCfg f { c with initializing := true }).wr HIF_FNf_STATE.READY 0 f).showReady

/-- A function becomes ready and sends FRS (R280); its rings may run. -/
def State.becomeReady (s : State) (f : Nat) : State :=
  let c := s.cfg f
  let s := s.setCfg f { c with initializing := false }
  if s.on HIF_FNf_STATE.READY f then s else
  let s := ((s.wr HIF_FNf_STATE.READY 1 f).wr HIF_FNf_STATE.FLR_BUSY 0 f).showReady
  ((s.tlpOut f (.frs f)).sendDrs).kickRings f

/-- The own register space of function `f` and its MSI-X table return to reset; image fields keep their values. -/
def State.resetFnSpace (s : State) (f : Nat) : State :=
  let allow := QMG_ADM_ALLOW.ALLOW.addr f 0
  s.dropRegs (fun k => decide (fnBase f ≤ k) && decide (k < fnBase f + 0x100000) && k != allow)

/-- Registers and configuration of function `f` are reset (R278): Bus Master and Memory Space Enable, the D-state, which of a VF is that of
its PF (R281), the fault record, and its configuration space. -/
def State.resetFn (s : State) (f : Nat) : State :=
  let d := if f < 8 then 0 else s.rd HIF_FNf_STATE.DSTATE (s.pfOf f)
  let s := if s.rd HIF_FNf_STATE.DSTATE f = d then s else (s.wr HIF_FNf_STATE.DSTATE d f).raise 313 [i8 f, i8 d]
  let s := ((s.wr HIF_FNf_STATE.BME 0 f).wr HIF_FNf_STATE.MSE 0 f).wr HIF_FNf_STATE.FAULT 0 f
  let s := (s.wr QMG_FNf_FAULT.FAULT 0 f).wr QMG_FNf_FAULT_IDX.FAULT 0 f
  s.setCfg f { flrTick := s.tick, initializing := true }

/-! ## Link commands (R262, R263) -/

/-- The equalization bits of a rate: 8, 16 and 32 GT/s. -/
def eqDone (rate : Nat) : Nat := b2n (decide (3 ≤ rate)) + 2 * b2n (decide (4 ≤ rate)) + 4 * b2n (decide (5 ≤ rate))

/-- The widest link of at most `n` lanes (R262). -/
def linkWidth (n : Nat) : Nat := if n < 1 then 0 else if n < 2 then 1 else if n < 4 then 2 else if n < 8 then 4 else if n < 16 then 8 else 16

/-- LINK_UP (R262, R263): the link reaches L0 at the highest rate and width that the far end's `rate` and `width` and the limits allow.
Out of L2 the link first goes down (LINK_DOWN). -/
def execLinkUp (rate width : Nat) (reversed : Bool) (s : State) : Host.Outcome State Fault Refusal :=
  let r := min rate (s.rd HIF_LINK_CFG.MAX_RATE)
  let w := linkWidth (min width (s.rd HIF_LINK_CFG.MAX_WIDTH))
  if !s.pins.perstN || r = 0 || w = 0 || s.rd HIF_LINK_STATUS.LTSSM = 3 || s.rd HIF_LINK_STATUS.LTSSM = 6 then ok s else
  let s := ((((s.wr HIF_LINK_STATUS.LTSSM 3).wr HIF_LINK_STATUS.RATE r).wr HIF_LINK_STATUS.WIDTH w).wr
    HIF_LINK_STATUS.REVERSED (b2n reversed)).wr HIF_LINK_STATUS.EQ_DONE (eqDone r)
  let s := s.raise 304 [i8 3]
  let s := if r < s.rd HIF_LINK_CFG.MAX_RATE || w < s.rd HIF_LINK_CFG.MAX_WIDTH then s.raise 305 [i8 r, i8 w] else s
  ok s.sendDrs

/-- LINK_RETRAIN (R263): RETRAIN takes the link from L0 or L1 through Recovery; LINK_UP follows within the present limits. -/
def execLinkRetrain (s : State) : Host.Outcome State Fault Refusal :=
  if s.rd HIF_LINK_STATUS.LTSSM = 3 || s.rd HIF_LINK_STATUS.LTSSM = 5 then
    ok (((s.wr HIF_LINK_STATUS.LTSSM 4).count HIF_cnt_LO.COUNT 8).raise 304 [i8 4])
  else ok s

/-! ## Configuration requests (R264, R265, R272, R274, R280, R281) -/

/-- Device ID of function `f` (R264). A VF's own Device ID register reads 0xFFFF; its PF's VF Device ID gives it. -/
def State.deviceId (s : State) (f : Nat) : Nat := (if f < 8 then 0x5128 else 0x5228) + s.pfOf f

/-- Class code of function `f` (R264). -/
def State.classCode (s : State) (f : Nat) : Nat :=
  match s.pfOf f with | 0 => 0x088000 | 1 => 0x020000 | 2 => 0x118000 | 3 => 0x010802 | _ => 0x020000

/-- First VF Offset of PF `n` (R265). -/
def State.firstVfOffset (s : State) (n : Nat) : Nat := s.vfBase n - n + (if s.hif.ariHier then 0 else 256)

/-- The least power of two that is at least `n`, among 2^k to 2^(k + fuel). -/
def ceilPow2 : Nat → Nat → Nat → Nat
  | 0, k, _ => 2 ^ k
  | fuel + 1, k, n => if n ≤ 2 ^ k then 2 ^ k else ceilPow2 fuel (k + 1) n

/-- Size of the doorbell BAR that an allowance of `allow` rings gives: at least 16 KiB (R31). -/
def doorbellSize (allow : Nat) : Nat := ceilPow2 13 14 (4096 * allow)

/-- System Page Size of PF `n` in bytes. -/
def State.sysPageBytes (s : State) (n : Nat) : Nat := 4096 * (s.cfg n).sysPage

/-- The largest ring allowance of the VFs of PF `n`: all of them have one VF BAR size (DESIGN CHOICE, log 71). -/
def State.vfAllow (s : State) (n : Nat) : Nat :=
  ((List.range (s.totalVfs n)).map (fun k => s.rd QMG_ADM_ALLOW.ALLOW (s.vfBase n + k))).foldl max 0

/-- Sizes of the register and doorbell BARs of function `f` (R30, R31, R266). -/
def regBar (f : Nat) : Nat := if f = 0 then 0x4000000 else 0x100000
def State.bellBar (s : State) (f : Nat) : Nat :=
  if f < 8 then doorbellSize (s.rd QMG_ADM_ALLOW.ALLOW f)
  else max (doorbellSize (s.vfAllow (s.pfOf f))) (s.sysPageBytes (s.pfOf f))

/-- What a base address register shows: the address bits above the size, and its type: 64-bit memory, BAR2/3 prefetchable. -/
def barShow (regs bells i v : Nat) : Nat :=
  match i with
  | 0 => v % 2 ^ 32 / regs * regs + 4
  | 1 => v % 2 ^ 32
  | 2 => v % 2 ^ 32 / bells * bells + 12
  | 3 => v % 2 ^ 32
  | _ => 0

/-- The capabilities of each function (R267). -/
def hasCap (f : Nat) : Capability → Bool
  | .pciExpress | .msix | .aer | .ari => true
  | .powerMgmt => decide (f < 8)
  | .sriov => decide (1 ≤ f) && decide (f < 8)
  | .serialNumber | .readinessTime | .secondaryPcie | .physical16 | .physical32 | .dataLinkFeature => f == 0

/-- The bounds that PF0's Readiness Time Reporting capability reports, in ns (R280). -/
def readinessNs (i : Nat) : Nat := ([1000000, 50000000, 100000000, 1000000, 10000000] : List Nat).getD i 0

/-- Has function `f` an SR-IOV capability? -/
def hasVfs (f : Nat) : Bool := decide (1 ≤ f) && decide (f ≤ 4)

/-- What a read of a configuration register returns. -/
def State.cfgRead (s : State) (f : Nat) : CfgReg → Nat
  | .bar i => if f < 8 then barShow (regBar f) (s.bellBar f) i (tabGet (s.cfg f).bars i) else 0
  | .vfBar i => if hasVfs f then barShow 0x100000 (s.bellBar (s.vfBase f)) i (tabGet (s.cfg f).bars (8 + i)) else 0
  | .romBar => if f = 0 then (let v := tabGet (s.cfg f).bars 16; v % 2 ^ 32 / 0x100000 * 0x100000 + v % 2) else 0
  | .cap c => b2n (hasCap f c)
  | .serial hi => if f = 0 then (s.reg (if hi then 0xC else 8)).toNat else 0
  | .readiness i => if f = 0 then readinessNs i else 0
  | .mpsSupported => 2
  | .ecrcCheck => b2n (s.cfg f).ecrcCheck
  | .ecrcGen => b2n (s.cfg f).ecrcGen
  | .vfDeviceId => if hasVfs f then 0x5228 + f else 0
  | .vfStride => b2n (hasVfs f)
  | .supPages => if hasVfs f then 0x1FF else 0
  | .sysPage => if hasVfs f then (s.cfg f).sysPage else 0
  | .ids => (if f < 8 then 0x1CE7 else 0xFFFF) + (if f < 8 then s.deviceId f else 0xFFFF) * 2 ^ 16
  | .classRev => 0x10 + s.classCode f * 2 ^ 8
  | .subsystem => s.hif.subsystem
  | .maxReadReq => (s.cfg f).mrrs
  | .extTag => b2n (s.cfg f).extTag
  | .relaxed => b2n (s.cfg f).relaxed
  | .tag10 => b2n (s.cfg f).tag10
  | .ctoValue => (s.cfg f).ctoValue
  | .ctoDisable => b2n (s.cfg f).ctoDisable
  | .pmeEn => b2n s.hif.pmeEn
  | .pmeStatus => b2n s.hif.pmeStatus
  | .numVfs => (s.cfg f).numVfs
  | .totalVfs => s.totalVfs f
  | .vfOffset => s.firstVfOffset f
  | .ariHier => b2n s.hif.ariHier
  | .other off => cellGet (Config.cfgReset f) (s.cfg f).other off

/-- A write of a configuration register. Read-only ones are unchanged. -/
def State.cfgWrite (s : State) (f v : Nat) : CfgReg → State
  | .ids | .classRev | .subsystem | .totalVfs | .vfOffset | .cap _ | .serial _ | .readiness _ | .mpsSupported | .vfDeviceId
  | .vfStride | .supPages => s
  | .bar i => if f < 8 && i < 4 then s.setCfg f { s.cfg f with bars := tabSet (s.cfg f).bars i (v % 2 ^ 32) } else s
  | .vfBar i => if hasVfs f && i < 4 then s.setCfg f { s.cfg f with bars := tabSet (s.cfg f).bars (8 + i) (v % 2 ^ 32) } else s
  | .romBar => if f = 0 then s.setCfg f { s.cfg f with bars := tabSet (s.cfg f).bars 16 (v % 2 ^ 32) } else s
  | .ecrcCheck => s.setCfg f { s.cfg f with ecrcCheck := v % 2 == 1 }
  | .ecrcGen => s.setCfg f { s.cfg f with ecrcGen := v % 2 == 1 }
  | .sysPage => if hasVfs f && (List.range 9).any (fun k => v == 2 ^ k) && !(s.cfg f).vfEnable then s.setCfg f { s.cfg f with sysPage := v } else s
  | .maxReadReq => s.setCfg f { s.cfg f with mrrs := min v 5 }
  | .extTag => s.setCfg f { s.cfg f with extTag := v % 2 == 1 }
  | .relaxed => s.setCfg f { s.cfg f with relaxed := v % 2 == 1 }
  | .tag10 => s.setCfg f { s.cfg f with tag10 := v % 2 == 1 }
  | .ctoValue => s.setCfg f { s.cfg f with ctoValue := v % 16 }
  | .ctoDisable => s.setCfg f { s.cfg f with ctoDisable := v % 2 == 1 }
  | .pmeEn => if f = 0 then { s with hif := { s.hif with pmeEn := v % 2 == 1 } } else s
  | .pmeStatus => if f = 0 && v % 2 = 1 then { s with hif := { s.hif with pmeStatus := false } } else s
  | .numVfs =>
    if f = 0 || 4 < f || (s.cfg f).vfEnable || s.totalVfs f < v || (s.cfg f).numVfs = v then s
    else (s.setCfg f { s.cfg f with numVfs := v }).raise 315 [i8 f, i16 v]
  | .ariHier =>
    if f = 0 then ({ s with hif := { s.hif with ariHier := v % 2 == 1 } }).wr HIF_VF_ROUTE.NEXT_BUS (1 - v % 2) else s
  | .other off => s.setCfg f { s.cfg f with other := cellSet (Config.cfgReset f) (s.cfg f).other off v }

/-- CONFIG_REQUEST (R280): a function that is not ready answers with Configuration Request Retry Status. -/
def execConfigRequest (f : Nat) (reg : CfgReg) (write : Bool) (val : Word) (s : State) : Host.Outcome State Fault Refusal :=
  let s := s.tlpIn f
  if !s.on HIF_FNf_STATE.PRESENT f then ok (s.tlpOut f (.urReply f))
  else if !s.on HIF_FNf_STATE.READY f then ok (s.tlpOut f (.crs f))
  else if write then ok ((s.cfgWrite f val.toNat reg).tlpOut f (.cfgReply f 0))
  else ok (s.tlpOut f (.cfgReply f (s.cfgRead f reg)))

/-- MEMORY_SPACE_DISABLE (R278): later register and doorbell accesses are Unsupported Requests. -/
def execMemorySpaceDisable (f : Nat) (s : State) : Host.Outcome State Fault Refusal :=
  if s.on HIF_FNf_STATE.PRESENT f then ok (s.wr HIF_FNf_STATE.MSE 0 f) else ok s

/-- MEMORY_SPACE_ENABLE (R278). -/
def execMemorySpaceEnable (f : Nat) (s : State) : Host.Outcome State Fault Refusal :=
  if s.on HIF_FNf_STATE.PRESENT f then ok (s.wr HIF_FNf_STATE.MSE 1 f) else ok s

/-- MSIX_VECTOR_UNMASK (R268): the mask of entry `e` is cleared and a pending vector is sent. -/
def execMsixVectorUnmask (f e : Nat) (s : State) : Host.Outcome State Fault Refusal :=
  if 256 ≤ f || s.rd HIF_FNf_MSIX.SIZE f < e then ok s else
  ok ((s.setReg (msixAddr f e 3) (BitVec.ofNat 32 (setBit (s.reg (msixAddr f e 3)).toNat 0 false))).msixFlush f)

end Sys2Proof.Machine
end

