-- ==== Sys2Proof/Machine/HostReset.lean ====
section
/-!
DEFINITION. What takes functions out of service and brings them back (R278 to R281): Bus Master Enable, function-level reset, D-states,
VF Enable, and the resets of the whole HIF domain (R467).
-/
namespace Sys2Proof.Machine

/-- The blocks that function `f` needs ready (R422): HIF, QMG and those of its role. -/
def State.fnBlocks (s : State) (f : Nat) : List Blk :=
  [.hif, .qmg] ++ match s.pfOf f with | 1 => [.sch] | 2 => [.aln, .phe] | 3 => [.stg] | 4 => [.rma] | _ => []

/-- Are they? -/
def State.fnReady (s : State) (f : Nat) : Bool := (s.fnBlocks f).all (fun b => bitOf (s.rd GLB_READY_BLK.READY) b.bit)

/-- FUNCTION_INIT_DONE (R280): the reset or initialisation of function `f` ends; not while reads are owed to it, nor before its blocks
are ready, nor while its domain is held in reset. A function-level reset destroys the function's QPs as it ends (R325). -/
def execFunctionInitDone (f : Nat) (s : State) : Host.Outcome State Fault Refusal :=
  if s.on HIF_FNf_STATE.PRESENT f && (s.cfg f).initializing && !s.on HIF_FNf_STATE.QUIESCED f && s.pins.perstN &&
      s.rd PWR_STATUS.PSTATE == 0 && s.fnReady f then
    ok ((if s.on HIF_FNf_STATE.FLR_BUSY f then s.dropQps f else s).becomeReady f)
  else ok s

/-- Function `f` may master again: held completions are written, pending vectors sent, and Idle rings run (R268, R295, R296). -/
def State.resumeFn (s : State) (f : Nat) : State := ((((s.releaseHeld f).flushNvme f).msixFlush f).retryAll).kickRings f

/-- BUS_MASTER_ENABLE. A function still Quiesced stays so (R278). -/
def execBusMasterEnable (f : Nat) (s : State) : Host.Outcome State Fault Refusal :=
  if s.on HIF_FNf_STATE.PRESENT f then ok ((s.wr HIF_FNf_STATE.BME 1 f).resumeFn f) else ok s

/-- The requests of function `f` stop (R278), with source 311 when reads are owed; PF0's stop also reaches the DMA engine (R387). -/
def State.stopFn (s : State) (f : Nat) (all told : Bool) : State :=
  let s := if told && s.owedTo f != 0 then s.raise 311 [i8 f, i16 (s.owedTo f)] else s
  let s := s.quiesce f all
  if f = 0 then s.dmaStopHost.dmaStopped else s

/-- BUS_MASTER_DISABLE (R278). -/
def execBusMasterDisable (f : Nat) (s : State) : Host.Outcome State Fault Refusal :=
  if s.on HIF_FNf_STATE.PRESENT f && s.on HIF_FNf_STATE.BME f then ok ((s.wr HIF_FNf_STATE.BME 0 f).stopFn f false true) else ok s

/-- VF Enable and NumVFs of PF `n` return to reset: a change of either raises source 315 (R283). -/
def State.vfsGone (s : State) (n : Nat) : State :=
  if (s.cfg n).vfEnable || (s.cfg n).numVfs != 0 then s.raise 315 [i8 n, i16 0] else s

/-- A function is reset (R278): requests stop, registers and configuration return to reset, an NVMe controller is reset (R303), and
PF0's staging windows and channel reservations end (R42, R372). -/
def State.fnReset (s : State) (f : Nat) : State :=
  let s := (s.wr HIF_FNf_STATE.READY 0 f).wr HIF_FNf_STATE.FLR_BUSY 1 f
  let s := if s.pfOf f = 3 then s.resetCtl f else s
  let s := ((s.resetFn f).resetFnSpace f).stopFn f true false
  if f = 0 then (s.forceAbort (fun o => o == 0)).abortHolders (fun a => a == 0) else s

/-- The VFs of PF `n` are removed: each is reset, and its rings and QPs are destroyed at once (R295, R325). -/
def State.dropVfs (s : State) (n : Nat) : State :=
  let l := s.vfsOf n
  let s := forEach l (fun f s =>
    let s := ((s.fnReset f).dropRings f).dropQps f
    let s := s.setCfg f { s.cfg f with initializing := false }
    let s := s.wr HIF_FNf_STATE.PRESENT 0 f
    if s.on HIF_FNf_STATE.QUIESCED f then s else s.wr HIF_FNf_STATE.FLR_BUSY 0 f) s
  s.setCfg n { s.cfg n with vfEnable := false }

/-- FUNCTION_LEVEL_RESET (R278, R279). A PF's reset clears its VF Enable. -/
def execFunctionLevelReset (f : Nat) (s : State) : Host.Outcome State Fault Refusal :=
  if !s.on HIF_FNf_STATE.PRESENT f || !s.on HIF_FNf_STATE.READY f then ok s else
  let s := s.raise 310 [i8 f]
  let s := if f < 8 then (s.vfsGone f).dropVfs f else s
  ok ((s.fnReset f).showReady)

/-- A PF and its enabled VFs. -/
def State.withVfs (s : State) (f : Nat) : List Nat := f :: s.vfsOf f

/-- The link enters L1 while every physical function is in D3hot (R262), which source 304 tells; a request to a function takes it back to
L0 (DEDUCED, log 69). -/
def State.linkPower (s : State) : State :=
  let low := (List.range 5).all (fun f => !s.on HIF_FNf_STATE.PRESENT f || s.rd HIF_FNf_STATE.DSTATE f == 3)
  if low && s.rd HIF_LINK_STATUS.LTSSM == 3 then (s.wr HIF_LINK_STATUS.LTSSM 5).raise 304 [i8 5]
  else if !low && s.rd HIF_LINK_STATUS.LTSSM == 5 then (s.wr HIF_LINK_STATUS.LTSSM 3).raise 304 [i8 3]
  else s

/-- D3HOT_ENTRY (R278, R281): the PF and each of its VFs. -/
def execD3hotEntry (f : Nat) (s : State) : Host.Outcome State Fault Refusal :=
  if 8 ≤ f || !s.on HIF_FNf_STATE.PRESENT f || s.rd HIF_FNf_STATE.DSTATE f = 3 then ok s else
  ok (forEach (s.withVfs f) (fun f s => ((s.wr HIF_FNf_STATE.DSTATE 3 f).raise 313 [i8 f, i8 3]).stopFn f false true) s).linkPower

/-- D0_ENTRY (R281): the PF and its VFs return to D0; their registers were kept. -/
def execD0Entry (f : Nat) (s : State) : Host.Outcome State Fault Refusal :=
  if 8 ≤ f || !s.on HIF_FNf_STATE.PRESENT f || s.rd HIF_FNf_STATE.DSTATE f = 0 then ok s else
  ok (forEach (s.withVfs f) (fun f s => ((s.wr HIF_FNf_STATE.DSTATE 0 f).raise 313 [i8 f, i8 0]).resumeFn f) s).linkPower

/-- VF_ENABLE (R280, R283): VF Enable of PF `f` is set; its VFs exist and initialise. -/
def execVfEnable (f : Nat) (s : State) : Host.Outcome State Fault Refusal :=
  if f = 0 || 4 < f || !s.on HIF_FNf_STATE.READY f || (s.cfg f).vfEnable then ok s else
  let s := s.setCfg f { s.cfg f with vfEnable := true }
  let d := s.rd HIF_FNf_STATE.DSTATE f
  let s := forEach (s.vfsOf f) (fun v s =>
    (s.setCfg v { initializing := true }).setWord HIF_FNf_STATE.PRESENT
      (HIF_FNf_STATE.DSTATE.put (HIF_FNf_STATE.PRESENT.put (s.reg (HIF_FNf_STATE.PRESENT.addr v 0)) 1) d) v) s
  ok (s.showReady.raise 315 [i8 f, i16 (s.cfg f).numVfs])

/-- VF_DISABLE (R278): as a function-level reset of each VF, which is removed. -/
def execVfDisable (f : Nat) (s : State) : Host.Outcome State Fault Refusal :=
  if f = 0 || 4 < f || !(s.cfg f).vfEnable then ok s else
  ok (((s.dropVfs f).showReady).raise 315 [i8 f, i16 (s.cfg f).numVfs])

/-! ## Resets of the HIF domain (R278, R467) -/

/-- Registers of HIF that hold image values, which a reset of the domain keeps. -/
def hifImage (a : Nat) : Bool := HIF_LINK_CFG.MAX_RATE.covers a || HIF_PF_VFS.PF1.covers a || HIF_FNf_MSIX.SIZE.covers a

/-- Does a register belong to the HIF domain: HIF itself, its staging window apart (R42), the fault records of the functions, or the own
register space of a function? -/
def hifReg (a : Nat) : Bool :=
  (decide (0x600000 ≤ a) && decide (a < 0x700000) && !hifImage a && !(decide (0x600FF0 ≤ a) && decide (a < 0x600FFC))) ||
  QMG_FNf_FAULT.FAULT.covers a || QMG_FNf_FAULT_IDX.FAULT.covers a ||
  (decide (fnBase 0 ≤ a) && !QMG_ADM_ALLOW.ALLOW.covers ((a - fnBase 0) % 0x100000 + fnBase 0))

/-- The registers of the HIF domain return to reset. -/
def State.clearHif (s : State) : State := s.dropRegs hifReg

/-- Every function and the HIF block are reset: every tag is retired, every ring and QP destroyed, the VFs removed, and the PFs
initialise. What is always-on stays (R281). An Armed window stays, HIF's own among them, and so does what the staging registers of HIF hold
(R42). -/
def State.hifReset (s : State) (ltssm : Nat) : State :=
  let was := s.rd HIF_LINK_STATUS.LTSSM
  let pfs := (List.range 5).filter (fun f => s.on HIF_FNf_STATE.PRESENT f)
  let fns := (List.range 256).filter (fun f => s.on HIF_FNf_STATE.PRESENT f)
  let s := { s with hif := { s.hif with reads := [], waiting := [], quar := [], arrived := [] } }
  let s := s.dmaStopHost.dmaStopped
  let s := forEach s.ringsPresent (fun g s => s.dropRing g) s
  let s := forEach fns (fun f s => (if s.pfOf f = 3 then s.resetCtl f else s).dropQps f) s
  let s := (s.forceAbort (fun o => o == 0)).abortHolders (fun a => a == 0)
  let s := forEach pfs (fun f s => s.vfsGone f) s
  let s := forEach fns (fun f s => if s.rd HIF_FNf_STATE.DSTATE f = 0 then s else s.raise 313 [i8 f, i8 0]) s
  let s := s.clearHif
  let s := { s with hif := { s.hif with cfg := [], ariHier := false, drsSent := false } }
  let s := forEach pfs (fun f s => (s.setCfg f { initializing := true }).wr HIF_FNf_STATE.PRESENT 1 f) s
  let s := s.wr HIF_LINK_STATUS.LTSSM ltssm
  (if was = 3 || was = 5 then s.raise 304 [i8 ltssm] else s).showReady

/-- HOT_RESET (R278). -/
def execHotReset (s : State) : Host.Outcome State Fault Refusal := ok (s.hifReset 8)

/-- LINK_DOWN (R263, R278): the link goes down, to Detect, and every function is reset. -/
def execLinkDown (s : State) : Host.Outcome State Fault Refusal := ok (s.hifReset 0)

/-- PERST_ASSERT (R278, R283): the HIF domain is reset, and nothing else (R21). -/
def execPerstAssert (s : State) : Host.Outcome State Fault Refusal :=
  if !s.pins.perstN then ok s else
  ok (State.hifReset ({ s with pins := { s.pins with perstN := false } }.raise 314 [i8 0]) 0)

end Sys2Proof.Machine
end

