-- ==== Sys2Proof/Machine/Registers.lean ====
section
/-!
DEFINITION. Register accesses (R8, R34 to R37), the staging window's commands (R39 to R43) and the indirect table windows (R45, R46,
R493).
-/
namespace Sys2Proof.Machine

/-! ## Addresses -/

/-- The store key of address `a` in the register space of requester `who`: PF0 BAR0 for PF0 and the Spindle threads, the function's own
BAR0 for any other function (code 256 + f). PF0's admin ring registers and its MSI-X table have their own places (R32, R268). -/
def regKey (who a : Nat) : Nat :=
  if 256 ≤ who then (if a < 0x100000 then fnBase (who - 256) + a else 0x7FFFFFC)
  else if 0x380040 ≤ a && a < 0x380060 then fnBase 0 + 0x10000 + (a - 0x380040)
  else if 0x6F0000 ≤ a && a < 0x700000 then fnBase 0 + (a - 0x600000)
  else if a < 0x700000 then a else 0x7FFFFFC

/-- Does key `a` lie in the MSI-X table of its function, or in its pending-bit array? -/
def State.msixKey (s : State) (a : Nat) : Bool :=
  decide (fnBase 0 ≤ a) &&
  (let f := (a - fnBase 0) / 0x100000
   let o := (a - fnBase 0) % 0x100000
   let n := s.rd HIF_FNf_MSIX.SIZE f + 1
   (decide (0xF0000 ≤ o) && decide (o < 0xF0000 + 16 * n)) || (decide (0xF8000 ≤ o) && decide (o < 0xF8000 + 4 * ((n + 31) / 32))))

/-- The fields of the register at a key; MSI-X tables are plain words and pending-bit arrays are read-only. -/
def State.fieldsAt (s : State) (a : Nat) : Option (List Fld) :=
  if a % 4 != 0 then none
  else if s.msixKey a then some [⟨a, 1, 0, 1, 0, 0, 32, if (a - fnBase 0) % 0x100000 < 0xF8000 then .rw else .ro⟩]
  else regFields a

/-- The block in whose PF0 extent a key lies, with its staging window. -/
def stagedAt (a : Nat) : Option Blk := match blkOfAddr a with | some b => if b.staged then some b else none | none => none

/-- The staging owner code of a requester (R39, R363): none for a function other than PF0. -/
def ownerOf (who : Nat) : Option Nat :=
  if who = 0 then some 0 else if isThread who then some (coreOwner (agentCluster who) (agentCore who)) else none

/-- Is `who` the owner of block `b`'s window? -/
def State.owns (s : State) (b : Blk) (who : Nat) : Bool := ownerOf who == some (s.rd STAGE_STATUS.OWNER b.base)

/-! ## Reads (R8, R36, R41) -/

/-- Is the register a redundancy counter of a field port whose pair is in Plain mode (R104)? -/
def State.lreHidden (s : State) (a : Nat) : Bool :=
  (FPT_STATn_LRE_LO.COUNT.covers a && s.pairMode ((FPT_STATn_LRE_LO.COUNT.index a).1 / 2) == 0) ||
  (FPT_STATn_LRE_HI.COUNT.covers a && s.pairMode ((FPT_STATn_LRE_HI.COUNT.index a).1 / 2) == 0)

/-- The live word that a read of key `a` by `who` returns, before the rules of R36. Write-only fields read 0, and so do redundancy counters
in Plain mode. -/
def State.liveWord (s : State) (who a : Nat) (l : List Fld) : Nat :=
  if TIM_GTC_SEC_LO.SEC.covers a then tabGet s.tim.gtcLatch who % 2 ^ 32
  else if TIM_GTC_SEC_HI.SEC.covers a then tabGet s.tim.gtcLatch who / 2 ^ 32 % 2 ^ 16
  else if TIM_GRAINn_CYCLE.CYCLE.covers a then tabGet s.tim.cycLatch (4 * who + (TIM_GRAINn_CYCLE.CYCLE.index a).1)
  else if s.lreHidden a then 0
  else if MEM_ECC_HI.ENTRY.covers a then (s.mem.ecc.headD (0, 0)).2
  else if MEM_MRAM_DATA_HI.DATA.covers a then leNat (s.mramRead (8 * s.rd MEM_MRAM_ADDR.OFFSET) 8) / 2 ^ 32
  else (l.filter (fun f => f.acc == .wo)).foldl (fun w f => w - bitsOf w f.lo f.w * 2 ^ f.lo) (s.reg a).toNat

/-- The word with staged RWL bits for the owner of an Open or Armed window while VIEW is 1 (R41). -/
def State.viewWord (s : State) (who a v : Nat) : Nat :=
  match stagedAt a with
  | none => v
  | some b =>
    if s.stState b != 0 && s.on COMMIT_MARK.VIEW b.base && s.owns b who then
      match tabGet (s.stageOf b).staged a with
      | some x => (mergeWord (rwlMask a) (BitVec.ofNat 32 v) (BitVec.ofNat 32 x)).toNat
      | none => v
    else v

/-- Clear the read-to-clear fields of a register. -/
def State.clearRc (s : State) (a : Nat) (l : List Fld) : State :=
  forEach (l.filter (fun f => f.acc == .rc)) (fun f s => s.setReg a (f.put (s.reg a) 0)) s

/-- What a function sees in its identity area: the readiness words, its own bit only in PF_READY (R38). Of GLB the area holds GLB_ID,
GLB_STEPPING, GLB_UID and the readiness words, and no other register (DESIGN CHOICE, log 70). -/
def State.identityWord (s : State) (f o : Nat) : Nat :=
  if o = 0x14 then b2n (s.on HIF_FNf_STATE.READY f && !s.on HIF_FNf_STATE.FAULT f) else (s.reg o).toNat

/-- A read in the identity area of function `who` - 256; GLB_UID is a pair (R36). -/
def State.identityRead (s : State) (who a : Nat) : State :=
  if a = 0xC then
    let r := s.readHi who 8 (s.reg 0xC).toNat
    r.1.answer r.2
  else (if a = 8 then s.copyHi who 8 (s.reg 0xC).toNat else s).answer (s.identityWord (who - 256) a)

/-- Where the operand of a read names another place of the function than its register space: its doorbells (BAR2/3), PF0's expansion
ROM, and the NVMe controller registers of PF3 and its VFs, whose place in their BAR the spec does not give (log 71). -/
def bellSpace : Nat := 2 ^ 32
def romSpace : Nat := 2 ^ 33
def nvmeSpace : Nat := 2 ^ 34

/-- A read of the doorbell BAR of function `f` (R266, R289): the last TAIL written; the pages that a System Page Size adds read 0. -/
def State.bellRead (s : State) (f o : Nat) : State :=
  let n := o / 4096
  if 8 ≤ f && doorbellSize (s.vfAllow (s.pfOf f)) ≤ o then s.answer 0
  else if o % 4096 != 0 || s.rd QMG_ADM_ALLOW.ALLOW f ≤ n then s.bad.answer 0
  else s.answer (match s.findRing f n with | some g => (s.ring g).tail | none => 0)

/-- A read of PF0's expansion ROM (R269): the image that the boot flow checked, 0xFF where there is none. -/
def State.romRead (s : State) (o : Nat) : State :=
  s.answer (leNat ((List.range 4).map (fun i => s.hif.rom.getD (o + i) 0xFF#8)))

/-- A 32-bit read of address `a` by `who` (R35: at a 32-bit aligned address). -/
def State.regRead (s : State) (who a : Nat) : State :=
  if a % 4 != 0 then s.bad.answer 0xFFFFFFFF
  else if 256 ≤ who && a < 0x18 then s.identityRead who a
  else if romSpace ≤ a && a < romSpace + 0x100000 && who = 0 then s.romRead (a - romSpace)
  else if nvmeSpace ≤ a && a < nvmeSpace + 0x40 && 256 ≤ who && s.pfOf (who - 256) == 3 then
    s.answer (leAt (s.nvmeRegs (who - 256)) (a - nvmeSpace) 4)
  else if bellSpace ≤ a && a < bellSpace + s.bellBar ((reqFn who).getD 0) && (reqFn who).isSome then s.bellRead ((reqFn who).getD 0) (a - bellSpace)
  else
  let k := regKey who a
  match s.fieldsAt k with
  | none => s.bad.answer 0
  | some l =>
    if FWT_PERR.VALID.covers k then s.perrPop else
    if MEM_ECC_LO.ENTRY.covers k then s.eccPop who else
    if MEM_MRAM_DATA_LO.DATA.covers k then s.mramDataRead who else
    if TIM_GTC_NS.NS.covers k then s.gtcNsRead who else
    if TIM_GRAINn_ANGLE.ANGLE.covers k then s.grainAngleRead who (TIM_GRAINn_ANGLE.ANGLE.index k).1 else
    let s := if blkOfAddr k == some .cal then s.calSync else s
    if isHi k then
      let r := s.readHi who (k - 4) (s.viewWord who k (s.liveWord who k l))
      r.1.answer r.2
    else
      let v := s.viewWord who k (s.liveWord who k l)
      let s := if isLo k then s.copyHi who k (s.viewWord who (k + 4) (s.liveWord who (k + 4) ((s.fieldsAt (k + 4)).getD []))) else s
      (s.clearRc k l).answer v

/-- REGISTER_READ_CLEAR (R8): a read of a register, which clears its RC fields; also of a doorbell, from `bellSpace` on, of the
expansion ROM, from `romSpace` on, and of NVMe controller registers, from `nvmeSpace` on. -/
def execRegisterReadClear (who a : Nat) (s : State) : Host.Outcome State Fault Refusal :=
  if s.shut who then ok (s.refuseRead who) else ok (s.regRead who a)

/-- SPLIT_LO_READ (R36). -/
def execSplitLoRead (who a : Nat) (s : State) : Host.Outcome State Fault Refusal :=
  if s.shut who then ok (s.refuseRead who) else
  if isLo (regKey who a) then ok (s.regRead who a) else ok s

/-- UNASSIGNED_ACCESS (R34): no register lies at `a`. An address that is not 32-bit aligned is refused (R35). -/
def execUnassignedAccess (who a : Nat) (read : Bool) (s : State) : Host.Outcome State Fault Refusal :=
  if s.shut who then ok (if read then s.refuseRead who else s.refuseWrite who)
  else if (s.fieldsAt (regKey who a)).isSome || (256 ≤ who && a < 0x18 && a % 4 = 0) then ok s
  else ok (if read then s.bad.answer (if a % 4 = 0 then 0 else 0xFFFFFFFF) else s.bad)

/-- REFUSED_SIZE_ACCESS (R35). -/
def execRefusedSizeAccess (read : Bool) (s : State) : Host.Outcome State Fault Refusal :=
  ok (if read then s.bad.answer 0xFFFFFFFF else s.bad)

/-- GLB_SYNC_READ (R37): earlier writes have taken effect already, because the model takes commands one at a time. -/
def execGlbSyncRead (s : State) : Host.Outcome State Fault Refusal := ok (s.answer 0)

/-! ## Writes (R8, R36, R39) -/

/-- Fields whose write is a command of its own row: a plain register write leaves them. -/
def ownRow : List Fld :=
  [TIM_FREQ_ADJ_HI.ADJ, PPL_TRAPr_CONS.CONS, FPT_PAIRp_CTRL.FORCE_REL, GLB_WIN_PAGEn.PAGE, QMG_ADM_CFG.ENABLE, QMG_ADM_CFG.LOG2,
   QMG_ADM_CFG.VECTOR, CPU_CLk_TXTAIL.TAIL, DMA_CHn_CTRL.PAUSE, MEM_MRAM_DATA_LO.DATA, MEM_MRAM_DATA_HI.DATA, TRP_ARM_SETk.ARM,
   TRP_ARM_CLRk.ARM, FWT_Tt_CTRL.INJECT]

/-- Is a write of this register refused? Key words of a half whose VALID bit is 1 (R154); a consumer index above its PROD (R241);
a key identifier of a half in use; ENABLE of the backing store cleared while a queue pair exists: counted where the spec says so. -/
def State.guardKey (s : State) (a : Nat) : Bool :=
  (SVI_KEYk_CURw.KEY.covers a && s.on SVI_KEYk_CTRL.VALID_CUR (SVI_KEYk_CURw.KEY.index a).1) ||
  (SVI_KEYk_NEXTw.KEY.covers a && s.on SVI_KEYk_CTRL.VALID_NEXT (SVI_KEYk_NEXTw.KEY.index a).1)
/-- A shadow seed while a rebuild is open (R141). -/
def State.guardSeed (s : State) (a : Nat) : Bool :=
  (FWT_Tt_SH_SEED0.SEED.covers a && s.on FWT_Tt_STATUS.REBUILD_OPEN (FWT_Tt_SH_SEED0.SEED.index a).1) ||
  (FWT_Tt_SH_SEED1.SEED.covers a && s.on FWT_Tt_STATUS.REBUILD_OPEN (FWT_Tt_SH_SEED1.SEED.index a).1)
/-- The base of an admin ring that is enabled (QMG_ADM_BASE); the pair is counted once, at its _HI half. -/
def State.guardAdm (s : State) (a : Nat) : Bool :=
  QMG_ADM_BASE_HI.BASE.covers a && s.on QMG_ADM_CFG.ENABLE (QMG_ADM_BASE_HI.BASE.index a).1
/-- The first descriptor of a DMA channel that is busy (R386); the pair is counted once, at its _HI half. -/
def State.guardDesc (s : State) (a : Nat) : Bool :=
  DMA_CHn_DESC_HI.DESC.covers a && s.dmaBusy (DMA_CHn_DESC_HI.DESC.index a).1
def State.guardCons (s : State) (a v : Nat) : Bool :=
  TRP_GRING_CONS.INDEX.covers a &&
  (let ahead := (v + 2 ^ 32 - s.rd TRP_GRING_PROD.INDEX) % 2 ^ 32
   ahead != 0 && decide (ahead < 2 ^ 31))
def State.guardStore (s : State) (a v : Nat) : Bool :=
  (SVI_KEYk_ID_CUR.ID.covers a && s.on SVI_KEYk_CTRL.VALID_CUR (SVI_KEYk_ID_CUR.ID.index a).1) ||
  (SVI_KEYk_ID_NEXT.ID.covers a && s.on SVI_KEYk_CTRL.VALID_NEXT (SVI_KEYk_ID_NEXT.ID.index a).1) ||
  (QMG_ADM_BASE_LO.BASE.covers a && s.on QMG_ADM_CFG.ENABLE (QMG_ADM_BASE_LO.BASE.index a).1) ||
  (DMA_CHn_DESC_LO.DESC.covers a && s.dmaBusy (DMA_CHn_DESC_LO.DESC.index a).1) ||
  ((RMA_BS_BASE_LO.BASE.covers a || RMA_BS_BASE_HI.BASE.covers a) && s.on RMA_BS_CTRL.ENABLE) ||
  (RMA_BS_CTRL.ENABLE.covers a && s.on RMA_BS_CTRL.ENABLE && !bitOf v 31 && s.rma.owner.any (fun p => p.2 != 0))

/-- What a plain write does to one field of the register at `a` (R8). -/
def State.writeField (s : State) (a v : Nat) (f : Fld) : State :=
  let x := bitsOf v f.lo f.w
  let old := bitsOf (s.reg a).toNat f.lo f.w
  match f.acc with
  | .rw => s.setReg a (f.put (s.reg a) x)
  | .w1c => s.setReg a (f.put (s.reg a) (old &&& (2 ^ f.w - 1 - x)))
  | .w1s => s.setReg a (f.put (s.reg a) (old ||| x))
  | .wo => if SVI_KEYk_CURw.KEY.covers a || SVI_KEYk_NEXTw.KEY.covers a then s.setReg a (f.put (s.reg a) x) else s
  | .ro => s
  | .rc => s
  | .rwl => s

/-- What follows a plain write. The record of source 40 carries LEAP61 and LEAP59 as two 8-bit items, for the spec lists none (DESIGN CHOICE,
log 70). What follows: EVT_OUT, the UTC leap flags, the attention LEDs, MSI-X vectors no longer masked. -/
def State.afterWrite (s o : State) (a : Nat) : State :=
  if EVT_OUT_PENDk.PEND.covers a then s.showEvtOut
  else if TIM_UTC.LEAP61.covers a then
    let s := s.wr TIM_STATUS.LEAP_PENDING (b2n (s.on TIM_UTC.LEAP61 || s.on TIM_UTC.LEAP59))
    if differs o s [TIM_UTC.LEAP61, TIM_UTC.LEAP59] then s.raise 40 [i8 (b2n (s.on TIM_UTC.LEAP61)), i8 (b2n (s.on TIM_UTC.LEAP59))] else s
  else if STG_DSn_CTRL.ATTN_LED.covers a then
    let d := (STG_DSn_CTRL.ATTN_LED.index a).1
    if s.sstate d = 6 then s else s.setDs d { s.ds d with attn := s.on STG_DSn_CTRL.ATTN_LED d }
  else if s.msixKey a then s.msixFlush ((a - fnBase 0) / 0x100000)
  else s

/-- Stage the RWL bits of a word for the owner of an Open window; from anyone else, and in any other state, it is ignored and counted
(R8, R39, R40). -/
def State.stageWord (s : State) (who a v : Nat) : State :=
  match stagedAt a with
  | none => s.bad
  | some b =>
    if s.stState b = 1 && s.owns b who then
      let x := s.stageOf b
      s.setStage b { x with staged := tabSet x.staged a (some v) }
    else s.bad

/-- A word takes effect on the register at key `a`. -/
def State.putWord (s : State) (who a v : Nat) (l : List Fld) : State :=
  let o := s
  if s.guardKey a || s.guardSeed a || s.guardAdm a || s.guardDesc a || s.guardCons a v then s.bad
  else if s.guardStore a v then s
  else
    let s := if l.any (fun f => f.acc == .rwl) then s.stageWord who a v else s
    let s := forEach (l.filter (fun f => !ownRow.any (fun g => g.covers a && g.lo == f.lo))) (fun f s => s.writeField a v f) s
    s.afterWrite o a

/-- A 32-bit write of address `a` by `who`. A _LO half is held; a _HI half takes the held one with it (R36). -/
def State.regWrite (s : State) (who a v : Nat) : State :=
  if 256 ≤ who && a < 0x18 && a % 4 = 0 then s else
  let k := regKey who a
  match s.fieldsAt k with
  | none => s.bad
  | some l =>
    if l.all (fun f => f.acc == .ro || f.acc == .rc) then s
    else if isLo k then s.holdLo who k v
    else if isHi k then
      let r := s.takeHi who (k - 4) v
      if TIM_FREQ_ADJ_HI.ADJ.covers k || MEM_MRAM_DATA_HI.DATA.covers k then s
      else if (tabGet s.wrHold who).valid && (tabGet s.wrHold who).addr == k - 4 then
        (r.1.putWord who (k - 4) (r.2 % 2 ^ 32) ((s.fieldsAt (k - 4)).getD [])).putWord who k v l
      else r.1.putWord who k v l
    else s.putWord who k v l

/-! ## The staging window (R39 to R42) -/

/-- OPEN. -/
def State.stageOpen (s : State) (who : Nat) (b : Blk) : State :=
  match ownerOf who with
  | none => s.bad
  | some w =>
    if s.stState b != 0 then s.bad
    else (((s.wr STAGE_STATUS.STATE 1 b.base).wr STAGE_STATUS.OWNER w b.base).setStage b {})

/-- ABORT: from the owner, or from PF0. -/
def State.stageAbort (s : State) (who : Nat) (b : Blk) : State :=
  if s.stState b = 0 || !(s.owns b who || who == 0) then s.bad else s.abortStage b

/-- COMMIT_NOW: from the owner of an Open window. -/
def State.stageCommit (s : State) (who : Nat) (b : Blk) : State :=
  if s.stState b != 1 || !s.owns b who then s.bad else
  match s.refusal b with
  | some d => s.refuseStage b d
  | none => s.commitBlk b s.g0

/-- ARM: from the owner of an Open window; a mark that another block has reserved gives RESULT 3. -/
def State.stageArm (s : State) (who : Nat) (b : Blk) : State :=
  if s.stState b != 1 || !s.owns b who then s.bad else
  match s.refusal b with
  | some d => s.refuseStage b d
  | none =>
    let m := s.rd COMMIT_MARK.MARK b.base
    if tabGet s.markOwner m != 0 then s.endStage b 3 1
    else
      let s := { s with markOwner := tabSet s.markOwner m (b.bit + 1) }
      (s.setStage b { s.stageOf b with armTick := s.tick }).wr STAGE_STATUS.STATE 2 b.base

/-- One write of BLOCK_STAGE_CTRL: exactly one command bit acts; more are ignored whole and counted; none does nothing. -/
def State.stageCmd (s : State) (who : Nat) (b : Blk) (v : Nat) : State :=
  match bitsOf v 0 4 with
  | 0 => s
  | 1 => s.stageOpen who b
  | 2 => s.stageAbort who b
  | 4 => s.stageCommit who b
  | 8 => s.stageArm who b
  | _ => s.bad

/-- The block with a readiness bit number, when it has a staging window. -/
def stagedBlk (n : Nat) : Option Blk := Blk.all.find? (fun b => b.staged && b.bit == n)

/-- A staging command of `who` on the block with readiness bit `n`; offsets 0x0FF0 to 0x0FF8 of a block without RWL fields are reserved. -/
def State.stageBy (s : State) (who n : Nat) (f : Blk → State) : Host.Outcome State Fault Refusal :=
  if s.shut who then ok (s.refuseWrite who) else
  match stagedBlk n with | some b => ok (f b) | none => ok s

/-- What happens to the window of the block with readiness bit `n`. -/
def State.onStaged (s : State) (n : Nat) (f : Blk → State) : Host.Outcome State Fault Refusal :=
  match stagedBlk n with | some b => ok (f b) | none => ok s

/-- STAGE_OPEN (R39). -/
def execStageOpen (who blk : Nat) (s : State) : Host.Outcome State Fault Refusal := s.stageBy who blk (fun b => s.stageOpen who b)
/-- STAGE_ABORT (R39, R42). -/
def execStageAbort (who blk : Nat) (s : State) : Host.Outcome State Fault Refusal := s.stageBy who blk (fun b => s.stageAbort who b)
/-- STAGE_COMMIT_NOW (R39, R43). -/
def execStageCommitNow (who blk : Nat) (s : State) : Host.Outcome State Fault Refusal := s.stageBy who blk (fun b => s.stageCommit who b)
/-- STAGE_ARM (R39, R40). -/
def execStageArm (who blk : Nat) (s : State) : Host.Outcome State Fault Refusal := s.stageBy who blk (fun b => s.stageArm who b)

/-- STAGE_TIMEOUT (R39): TIMEOUT milliseconds after ARM the mark is released and the window is Open again with RESULT 4. -/
def execStageTimeout (blk : Nat) (s : State) : Host.Outcome State Fault Refusal :=
  s.onStaged blk (fun b =>
    if s.stState b != 2 || !s.on COMMIT_MARK.TIMEOUT b.base then s else
    let s := s.advanceTo ((s.stageOf b).armTick + 1000000 * s.rd COMMIT_MARK.TIMEOUT b.base)
    (s.freeMark b).endStage b 4 1)

/-! ## The write rows -/

/-- REGISTER_WRITE (R8): a write of a register; a word of BLOCK_STAGE_CTRL is the command that it spells. -/
def execRegisterWrite (who a : Nat) (val : Word) (s : State) : Host.Outcome State Fault Refusal :=
  if s.shut who then ok (s.refuseWrite who) else
  match stagedAt (regKey who a) with
  | some b => if regKey who a == b.base + 0xFF0 then ok (s.stageCmd who b val.toNat) else ok (s.regWrite who a val.toNat)
  | none => ok (s.regWrite who a val.toNat)

/-- RWL_WRITE (R39): a write of a word with RWL fields. -/
def execRwlWrite (who a : Nat) (val : Word) (s : State) : Host.Outcome State Fault Refusal :=
  if s.shut who then ok (s.refuseWrite who) else
  if rwlMask (regKey who a) = 0 then ok s else ok (s.regWrite who a val.toNat)

/-- SPLIT_LO_WRITE (R36). -/
def execSplitLoWrite (who a : Nat) (val : Word) (s : State) : Host.Outcome State Fault Refusal :=
  if s.shut who then ok (s.refuseWrite who) else
  if isLo (regKey who a) then ok (s.regWrite who a val.toNat) else ok s

/-- SPLIT_HI_WRITE (R36). The _HI registers of TIM_FREQ_ADJ and MEM_MRAM_DATA have rows of their own. -/
def execSplitHiWrite (who a : Nat) (val : Word) (s : State) : Host.Outcome State Fault Refusal :=
  if s.shut who then ok (s.refuseWrite who) else
  if isHi (regKey who a) then ok (s.regWrite who a val.toNat) else ok s

/-! ## Indirect windows (R45, R46, R493) -/

/-- WINDOW_PAGE_SELECT (R45): a partly written entry is discarded. -/
def execWindowPageSelect (w page : Nat) (s : State) : Host.Outcome State Fault Refusal :=
  if 12 ≤ w then ok s else
  let s := { s with winWr := tabSet s.winWr w {} }
  ok ((s.wr GLB_WIN_PAGEn.PAGE page w).wr GLB_WIN_STATUSn.PARTIAL 0 w)

/-- What an offset in the window region names: window, shadow half, entry, word of the entry. -/
def State.winAt (s : State) (off : Nat) : Nat × Bool × Nat × Nat :=
  let w := off / 0x400000
  let word := (s.rd GLB_WIN_PAGEn.PAGE w * 0x200000 + off % 0x200000) / 4
  (w, decide (0x200000 ≤ off % 0x400000), word / winEntryWords w, word % winEntryWords w)

/-- The block of windows 3 to 10. -/
def winBlk (w : Nat) : Option Blk := Blk.all.find? (fun b => b.windows.contains w)

/-- May this half of a window be written now? -/
def State.winWritable (s : State) (w : Nat) (shadow : Bool) : Bool :=
  if w < 3 then true
  else match winBlk w with
    | some b => shadow && s.stState b != 2
    | none => false

/-- An entry with one of its words replaced. -/
def putAt (l : List Nat) (k v : Nat) : List Nat := l.take k ++ v :: l.drop (k + 1)

/-- Apply a whole entry; its reserved bits stay 0 (R9). -/
def State.winApply (s : State) (w : Nat) (shadow : Bool) (e : Nat) (words : List Nat) : State :=
  let v := winClean w (words.foldr (fun x acc => x % 2 ^ 32 + 2 ^ 32 * acc) 0)
  if w < 3 then s.fwtWindowApply w shadow e v else s.setWinNat w shadow (e * winEntryWords w) (winEntryWords w) v

/-- The words of an entry of a bank. -/
def State.entryWords (s : State) (w : Nat) (shadow : Bool) (e : Nat) : List Nat :=
  (List.range (winEntryWords w)).map (fun k => (s.winWord w shadow (e * winEntryWords w + k)).toNat)

/-- WINDOW_WORD_WRITE (R46): `off` is the offset in the window region at 0x100_0000. -/
def execWindowWordWrite (who off : Nat) (val : Word) (s : State) : Host.Outcome State Fault Refusal :=
  if s.shut who then ok (s.refuseWrite who) else
  let (w, shadow, e, k) := s.winAt off
  if 256 ≤ who || 12 ≤ w || off % 4 != 0 || winEntries w ≤ e || !s.winWritable w shadow then ok s.bad else
  let c := tabGet s.winWr w
  let c : WinCopy := if c.valid && c.entry == e && c.shadow == shadow then c
    else { valid := true, entry := e, shadow := shadow, words := s.entryWords w shadow e }
  let c : WinCopy := { c with words := putAt c.words k val.toNat }
  if k + 1 < winEntryWords w then
    ok (State.wr { s with winWr := tabSet s.winWr w c } GLB_WIN_STATUSn.PARTIAL 1 w)
  else
    let s := State.wr { s with winWr := tabSet s.winWr w {} } GLB_WIN_STATUSn.PARTIAL 0 w
    ok (if c.changed then s.wr GLB_WIN_STATUSn.CONFLICT 1 w else s.winApply w shadow e c.words)

/-- WINDOW_FIRST_WORD_READ (R46): a read of an entry's first word copies the entry; later words come from the copy. The shadow half of
window 11 reads 0. -/
def execWindowFirstWordRead (who off : Nat) (s : State) : Host.Outcome State Fault Refusal :=
  if s.shut who then ok (s.refuseRead who) else
  let (w, shadow, e, k) := s.winAt off
  if 256 ≤ who || 12 ≤ w || off % 4 != 0 || winEntries w ≤ e then ok (s.bad.answer (if off % 4 = 0 then 0 else 0xFFFFFFFF))
  else if w = 11 && shadow then ok (s.answer 0)
  else
    let c := tabGet s.winRd w
    if k = 0 then
      let c : WinCopy := { valid := true, entry := e, shadow := shadow, words := s.entryWords w shadow e }
      ok (State.answer { s with winRd := tabSet s.winRd w c } (c.words.getD 0 0))
    else if c.valid && c.entry == e && c.shadow == shadow then ok (s.answer (c.words.getD k 0))
    else ok (s.answer (s.winWord w shadow (e * winEntryWords w + k)).toNat)

end Sys2Proof.Machine
end

