-- ==== Sys2Proof/Machine/Restart.lean ====
section
/-!
DEFINITION. The device reset and the device fault (R459, R467 to R470), and what the flash does with an operation under way.
-/
namespace Sys2Proof.Machine

/-! ## The boot flash (R410, R424) -/

/-- What a flash byte that nothing has programmed reads as. -/
def flashShip (_ : Nat) : Byte := 0xFF#8

def State.setBoot (s : State) (b : BootSt) : State := { s with boot := b }
def State.setUpd (s : State) (u : UpdSt) : State := { s with boot := { s.boot with upd := u } }
def State.flashRead (s : State) (a n : Nat) : List Byte := memRead flashShip s.boot.flash a n
def State.flashPut (s : State) (a : Nat) (b : List Byte) : State := s.setBoot { s.boot with flash := memWrite flashShip s.boot.flash a b }

/-- The phase of the update engine, and its target slot. -/
def State.updPhase (s : State) : Nat := s.rd BOOT_UPD_STATUS.PHASE
def State.updSlot (s : State) : Nat := s.rd BOOT_UPD_STATUS.SLOT

/-- Flash address and bytes of the page that is being programmed: of an Update Write, or the SEQ page (R411). -/
def State.updPage (s : State) : Nat × List Byte :=
  let u := s.boot.upd
  match u.seq with
  | some q => (s.updSlot * s.boot.half + 0xF00, leBytes 4 q ++ leBytes 4 (2 ^ 32 - 1 - q) ++ List.replicate 248 0xFF#8)
  | none => (s.updSlot * s.boot.half + u.off + 256 * u.page, slice u.data (256 * u.page) 256)

/-- Flash address of the sector that is being erased. -/
def State.updSector (s : State) : Nat := s.updSlot * s.boot.half + 65536 * s.boot.upd.sector

/-- A sector is erased. -/
def State.flashErase (s : State) (a : Nat) : State :=
  s.setBoot { s.boot with flash := cellDrop (fun k => decide (a ≤ k) && decide (k < a + 65536)) s.boot.flash }

/-- What becomes of the flash operation under way when the device stops: it finishes, or with its supply `lost` leaves its sector or
page undefined (R465, R466). -/
def State.flashStops (s : State) (lost : Bool) : State :=
  if !s.boot.upd.busy then s
  else if s.updPhase = 1 then
    let s := s.flashErase s.updSector
    if lost then (s.freeBytes 65536).1.flashPut s.updSector (s.freeBytes 65536).2 else s
  else if lost then (s.freeBytes 256).1.flashPut s.updPage.1 (s.freeBytes 256).2
  else s.flashPut s.updPage.1 s.updPage.2

/-- The OTP as the BOOT registers show it (R419). -/
def State.showOtp (s : State) : State :=
  let n := s.boot.floors.length
  (((s.wr BOOT_STATUS.RB_EN (b2n (n != 0))).wr BOOT_STATUS.KEY_SET (b2n (s.boot.digest.length == 48))).wr BOOT_STATUS.FLOOR_USED n).wr
    BOOT_FLOOR.FLOOR (s.boot.floors.getLastD 0)

/-- MRAM offset of the update record: phase, target slot, REASON (layout of the model, log 61). -/
def updRecAddr : Nat := 0x160010

/-- BOOT_UPD_STATUS as the update record of MRAM gives it. -/
def State.showUpdRec (s : State) : State :=
  let b := s.mramRead updRecAddr 3
  ((s.wr BOOT_UPD_STATUS.PHASE (leAt b 0 1) ).wr BOOT_UPD_STATUS.SLOT (leAt b 1 1)).wr BOOT_UPD_STATUS.REASON (leAt b 2 1)

/-! ## The device reset -/

/-- The registers of the always-on domain (R467): the supply monitor, the wake enables and the journal controller. -/
def alwaysOn (a : Nat) : Bool :=
  PWR_STATUS.PSTATE.covers a || PWR_VIN.LEVEL.covers a || PWR_VAUX.LEVEL.covers a || PWR_TEMP.DEGC.covers a ||
  PWR_VNV.LOCK_MV.covers a || PWR_WAKE.PERST.covers a || PWR_WAKE_TIMER.S.covers a || EVT_STATUS.QUEUE.covers a ||
  EVT_JSEQ_LO.JSEQ.covers a || EVT_JSEQ_HI.JSEQ.covers a

/-- What a device reset keeps of time (R51). -/
def TimSt.kept (t : TimSt) : TimSt :=
  { gtc := t.gtc, aoGtc := t.aoGtc, aoTick := t.aoTick, aoRatio := t.aoRatio, carried := t.carried, aoHold := t.aoHold
    stepped := t.stepped }

/-- What a device reset keeps of the ports: the keeper timers. Every drive is released (R470). -/
def FptSt.kept (f : FptSt) (hold : Nat) : FptSt :=
  { powerHold := hold
    pairs := f.pairs.foldl (fun t p => tabSet t p.1 { keeperFrom := p.2.keeperFrom, keeperExpired := p.2.keeperExpired }) [] }

/-- Pins at a device reset: inputs as they are, outputs as R483 gives them. -/
def Pins.inReset (p : Pins) : Pins :=
  { p with wakeN := true, evtOut := false, ppsOut := false, thermN := true, rstoutN := false, stbyInd := false, spiWpN := false
           bulkResetN := false }

/-- What a reset of the device domain leaves: the always-on domain, MRAM, flash and OTP (R467). -/
def State.clearDevice (s : State) (cause : Nat) (lost : Bool) : State :=
  let b := s.boot
  { pending := s.pending, regs := cellDrop (fun k => !alwaysOn k) s.regs, tick := s.tick, free := s.free, reply := s.reply, sent := s.sent
    calFrom := s.tick, pins := s.pins.inReset, mram := s.mram, rt := if lost then [] else s.rt, bulk := if lost then [] else s.bulk
    evt := { jq := s.evt.jq, jwriting := s.evt.jwriting, jstart := s.evt.jstart, jlost := s.evt.jlost }
    tim := s.tim.kept, fpt := s.fpt.kept (if cause ≤ 2 then 1 else 2)
    hif := { pmeEn := s.hif.pmeEn, pmeStatus := s.hif.pmeStatus }
    rma := { kek := s.rma.kek + 1 }, rec_ := { logs := s.rec_.logs }
    pwr := { s.pwr with cause := cause, warned := false, from_ := 0, source := 0, draining := false, ready := [] }
    boot := { flash := b.flash, digest := b.digest, alt := b.alt, phase := 0
              floors := if b.floorVal = 0 then b.floors else b.floors ++ [b.floorVal - 1] } }

/-- A reset of the device domain with a cause of R468, the lowest when several meet; `lost` when VIN has gone. -/
def State.deviceReset (s : State) (cause : Nat) (lost : Bool := false) : State :=
  let s := s.timCarry.flashStops lost
  let cause := if s.boot.phase ≤ 1 then min s.pwr.cause cause else cause
  let unknown := s.rd TIM_STATUS.TIME_UNKNOWN
  let n := s.clearDevice cause lost
  let n := ((n.wr PWR_STATUS.PSTATE 0).wr PWR_STATUS.RESET_CAUSE 0).wr TIM_STATUS.TIME_UNKNOWN unknown
  n.showOtp.showUpdRec

/-- May the device leave reset (R462, R463, R469)? -/
def State.mayRun (s : State) : Bool := s.pwr.powered && s.pwr.vaux && !s.pwr.hot && s.pins.pwrOk && s.pins.resetN

/-- The device leaves reset when it may; RSTOUT_N goes high and FAULT_N is released (R483). -/
def State.leaveReset (s : State) : State :=
  if s.boot.phase = 0 && s.mayRun then
    State.setBoot { s with pins := { s.pins with rstoutN := true, faultN := true } } { s.boot with phase := 1 }
  else s

/-- A device fault (R459): the record of source 1 goes to the head of the journal queue, behind a record whose slot is being written
only, and the device is reset. In a full queue the youngest record makes room. -/
def State.deviceFault (s : State) (cause blk : Nat) : State :=
  let r := s.mkRec 1 [i8 cause, i8 blk] none
  let q := match s.evt.jwriting, s.evt.jq with | true, h :: t => h :: r :: t | _, q => r :: q
  let excess := q.length - 64
  let s := { s with evt := { s.evt with jq := q.take 64, jlost := s.evt.jlost + excess } }
  let s := s.deviceReset cause
  State.startJournal { s with pins := { s.pins with faultN := false } }

/-! ## The device watchdog (R459) -/

/-- Does the device watchdog run? -/
def State.wdogRuns (s : State) : Bool := s.on EVT_WDOG.TIMEOUT_MS && s.rd PWR_STATUS.PSTATE == 0 && s.boot.phase != 0

/-- WATCHDOG_KICK (R459). -/
def execWatchdogKick (s : State) : Host.Outcome State Fault Refusal :=
  ok { s with evt := { s.evt with wdogFrom := s.tick, wdogHalf := false } }

/-- WATCHDOG_HALF (R459): half the timeout has passed: source 7. -/
def execWatchdogHalf (s : State) : Host.Outcome State Fault Refusal :=
  if !s.wdogRuns || s.evt.wdogHalf then ok s else
  let s := s.advanceTo (s.evt.wdogFrom + 500000 * s.rd EVT_WDOG.TIMEOUT_MS)
  ok (State.raise { s with evt := { s.evt with wdogHalf := true } } 7)

/-- WATCHDOG_EXPIRE (R459): a device fault with cause 5, in EVT. -/
def execWatchdogExpire (s : State) : Host.Outcome State Fault Refusal :=
  if !s.wdogRuns then ok s else
  ok ((s.advanceTo (s.evt.wdogFrom + 1000000 * s.rd EVT_WDOG.TIMEOUT_MS)).deviceFault 5 2)

end Sys2Proof.Machine
end

