-- ==== Sys2Proof/Machine/Update.lean ====
section
/-!
DEFINITION. Slots and manifests (R411 to R413), the update engine (R424, R425), the roll-back floor (R419), and partitions in service
(R427, R428).
-/
namespace Sys2Proof.Machine

/-! ## Checks (R411 to R413) -/

/-- A component entry of a manifest (R412). -/
structure Comp where
  typ : Nat
  index : Nat
  off : Nat
  len : Nat
  crcIdx : Nat
  sha : List Byte

def manSeq (m : List Byte) : Nat := leAt m 8 4
def manKey (m : List Byte) : List Byte := slice m 0x10 96
def manComp (m : List Byte) (i : Nat) : Comp :=
  let a := 0x100 + 80 * i
  ⟨leAt m a 1, leAt m (a + 1) 1, leAt m (a + 4) 4, leAt m (a + 8) 4, leAt m (a + 12) 4, slice m (a + 16) 48⟩
def manComps (m : List Byte) : List Comp := (List.range (leAt m 4 4)).map (manComp m)

/-- Start and final XOR of R412 and R420. -/
def crcFull (b : List Byte) : Nat := (crc32c 0xFFFFFFFF#32 b).toNat

/-- A component in a slot of `room` bytes: its REASON 8 causes by itself. -/
def Comp.bad (c : Comp) (room : Nat) : Bool :=
  decide (room < c.off + c.len) || c.typ == 0 || decide (4 < c.typ) || (c.typ == 1 && decide (1835008 < c.len))

def pairsMeet : List Comp → Bool
  | [] => false
  | c :: t => t.any (fun d => decide (c.off < d.off + d.len) && decide (d.off < c.off + c.len)) || pairsMeet t

/-- Components outside the slot, overlapping, oversized or unlisted (R413 test 6); a set without a stage 2 fails it too (log 60). -/
def compsBad (m : List Byte) (room : Nat) : Bool :=
  (manComps m).any (fun c => c.bad room) || pairsMeet (manComps m) || !(manComps m).any (fun c => c.typ == 1)

/-- Tests 2 and 3 of R413, after the manifest's own form: REASON 3, 4, 5, or 0. -/
def manReason (m : List Byte) (len : Nat) (digest : List Byte) : Nat :=
  if leAt m 0 4 != 0x54524C4D || leAt m 4 4 == 0 || decide (32 < leAt m 4 4) || m.length != len || len < 512 || 131072 < len then 3
  else if digest.length != 48 || Config.sha (manKey m) != digest then 4
  else if !Config.sigOk (manKey m) (slice m (len - 96) 96) (m.take (len - 96)) then 5
  else 0

/-- Test 7 of R413 of one component, whose bytes are `b`: REASON 9, 10 or 0. -/
def compReason (m : List Byte) (c : Comp) (b : List Byte) : Nat :=
  if Config.sha b != c.sha then 9
  else if (List.range ((c.len + 4095) / 4096)).all (fun j =>
      leAt m (0x100 + 80 * leAt m 4 4 + 4 * (c.crcIdx + j)) 4 == crcFull (slice b (4096 * j) 4096)) then 0
  else 10

/-- Bytes of slot `n`. -/
def State.slotRead (s : State) (n off len : Nat) : List Byte := s.flashRead (n * s.boot.half + off) len

/-- Test 1 of R413: REASON 1, 2 or 0. -/
def headReason (h : List Byte) (seqTest : Bool) : Nat :=
  let seq := leAt h 0xF00 4
  if leAt h 0 4 != 0x54524C49 || leAt h 4 4 != 1 then 1
  else if seqTest && (seq == 2 ^ 32 - 1 || seq + leAt h 0xF04 4 != 2 ^ 32 - 1) then 2
  else 0

/-- The manifest that a header names; it must lie in its slot, at a multiple of 4 KiB. -/
def manOf (h : List Byte) (room : Nat) (rd : Nat → Nat → List Byte) : List Byte :=
  let off := leAt h 8 4
  let len := leAt h 12 4
  if off % 4096 != 0 || len < 512 || 131072 < len || room < off + len then [] else rd off len

/-- The floor test, where roll-back protection is enabled (R413 test 5, R419). -/
def State.belowFloor (s : State) (seq : Nat) : Bool := !s.boot.floors.isEmpty && decide (seq < s.boot.floors.getLastD 0)

/-- Tests 2 to 6 of R413 on a slot image that `rd` reads; `seq` is the header's SEQ where it is tested. -/
def State.manCheck (s : State) (rd : Nat → Nat → List Byte) (seq : Option Nat) (floor : Bool) : Nat :=
  let h := rd 0 4096
  let m := manOf h s.boot.half rd
  let r := manReason m (leAt h 12 4) s.boot.digest
  if r != 0 then r
  else if seq.any (fun q => q != manSeq m) then 6
  else if floor && s.belowFloor (manSeq m) then 7
  else if compsBad m s.boot.half then 8
  else 0

/-- The first REASON among components of a manifest. -/
def firstReason (m : List Byte) (rd : Nat → Nat → List Byte) : List Comp → Nat
  | [] => 0
  | c :: t => let r := compReason m c (rd c.off c.len); if r != 0 then r else firstReason m rd t

/-- Test 7 of R413 on the components of a slot image that `p` picks. -/
def State.compCheck (s : State) (rd : Nat → Nat → List Byte) (p : Comp → Bool) : Nat :=
  let m := manOf (rd 0 4096) s.boot.half rd
  firstReason m rd ((manComps m).filter p)

/-! ## The update engine (R424, R425) -/

/-- Enter a phase: recorded in MRAM, source 21, and source 22 for a failure. -/
def State.setPhase (s : State) (ph reason : Nat) : State :=
  let s := (s.wr BOOT_UPD_STATUS.PHASE ph).wr BOOT_UPD_STATUS.REASON reason
  let s := s.mramStore updRecAddr (leBytes 1 ph ++ leBytes 1 s.updSlot ++ leBytes 6 reason)
  let s := s.raise 21
  (if ph = 5 then s.raise 22 [i8 reason] else s).showSpiWp

/-- Complete a command of the engine, if its ring still holds it. -/
def State.updDone (s : State) (j : Option (Nat × Nat)) (status : Nat) (detail : Nat := 0) : State :=
  match j with | some p => s.finishJob p.1 p.2 status detail | none => s

/-- The status codes of R424 that the commands use. -/
def updStateBad : Nat := 0x110
def updFlashError : Nat := 0x111

/-- A flash operation is issued. -/
def State.updIssue (s : State) : State := (s.setUpd { s.boot.upd with busy := true }).showSpiWp

/-- Has the engine something to do? -/
def State.updWork (s : State) : Bool :=
  let u := s.boot.upd
  u.stop || u.want != 0 || s.updPhase == 1 || (s.updPhase == 2 && !u.data.isEmpty) ||
  (s.updPhase == 3 && (u.seq.isSome || u.fail.isSome))

/-- One thing that the engine does when writes are allowed and no flash operation is in progress. -/
def State.updStep (s : State) : State :=
  let u := s.boot.upd
  let ph := s.updPhase
  if u.stop then
    let s := (s.setPhase 0 0).setUpd { told := u.told }
    (s.updDone u.job updStateBad).updDone u.abort 0
  else if u.want = 1 then
    let s := (s.wr BOOT_UPD_STATUS.SLOT (1 - s.rd BOOT_STATUS.RUN_SLOT)).setUpd { job := u.job, told := u.told }
    let s := ((s.setPhase 1 0).wr BOOT_UPD_PROGRESS.SECTORS 0).wr BOOT_UPD_PROGRESS.MIB 0
    s.updIssue
  else if u.want = 3 then (s.setUpd { u with want := 0 }).setPhase 3 0
  else if ph = 1 then
    if 65536 * u.sector < s.boot.half then s.updIssue
    else ((s.setUpd { u with job := none }).setPhase 2 0).updDone u.job 0
  else if ph = 2 then
    if 256 * u.page < u.data.length then s.updIssue
    else (s.setUpd { u with job := none, data := [], page := 0 }).updDone u.job 0
  else
    match u.fail, u.seqOk with
    | some (st, r), _ => ((s.setUpd { told := u.told }).setPhase 5 r).updDone u.job st (if st = 0x112 then r else 0)
    | none, true =>
      let n := s.updSlot
      let s := ((s.wr BOOT_SLOTn_STATUS.VALID 1 n).wr BOOT_SLOTn_STATUS.REASON 0 n).wr BOOT_SLOTn_SEQ.SEQ (u.seq.getD 0) n
      ((s.setUpd { told := u.told }).setPhase 4 0).updDone u.job 0
    | none, false => s.updIssue

/-- The engine goes on, or waits while writes are refused, with source 26 at the first wait of a refusal (R425). -/
def State.updGo (s : State) : State :=
  let u := s.boot.upd
  if u.busy || !s.updWork then s
  else if s.on PWR_STATUS.NV_REFUSED then
    let s := s.wr BOOT_UPD_STATUS.HELD 1
    if u.told then s else (s.setUpd { u with told := true }).raise 26
  else (s.wr BOOT_UPD_STATUS.HELD 0).updStep

/-- Abort the update, with or without a command (R424, R472). -/
def State.updAbort (s : State) (j : Option (Nat × Nat)) : State := (s.setUpd { s.boot.upd with stop := true, abort := j }).updGo

/-- May an engine command run: its ring is PF0's? -/
def State.pf0Job (s : State) (g op : Nat) : Option Job := if s.rd QMG_RINGg_DESC.FN g = 0 then s.jobOf g op else none

/-- UPDATE_BEGIN (R424). -/
def execUpdateBegin (g : Nat) (s : State) : Host.Outcome State Fault Refusal :=
  match s.pf0Job g 0xA0 with
  | none => ok s
  | some j =>
    if s.boot.upd.job.isSome || s.boot.upd.want != 0 then ok s
    else if s.updPhase == 0 || s.updPhase == 4 || s.updPhase == 5 then
      ok (s.setUpd { want := 1, job := some (g, j.idx), told := s.boot.upd.told }).updGo
    else ok (s.finishJob g j.idx updStateBad)

/-- UPDATE_WRITE (R424): PARAM1 is the offset in the slot. -/
def execUpdateWrite (g : Nat) (s : State) : Host.Outcome State Fault Refusal :=
  match s.pf0Job g 0xA1 with
  | none => ok s
  | some j =>
    let u := s.boot.upd
    let off := qwAt j.qw 1
    let b := j.bytes
    if u.job.isSome then ok s
    else if s.updPhase != 2 || !u.data.isEmpty || u.want != 0 then ok (s.finishJob g j.idx updStateBad)
    else if off % 256 != 0 || s.boot.half < off + b.length || (off ≤ 0xF00 && 0xF00 < off + b.length) then ok (s.finishJob g j.idx 4 8)
    else if b.length % 256 != 0 || b.length < 256 || 1048576 < b.length then ok (s.finishJob g j.idx 4 24)
    else ok (s.setUpd { u with job := some (g, j.idx), off := off, data := b, page := 0 }).updGo

/-- UPDATE_FINISH (R424): the slot is read back; UPDATE_CHECK_DONE follows. -/
def execUpdateFinish (g : Nat) (s : State) : Host.Outcome State Fault Refusal :=
  match s.pf0Job g 0xA2 with
  | none => ok s
  | some j =>
    let u := s.boot.upd
    if u.job.isSome then ok s
    else if s.updPhase != 2 || !u.data.isEmpty || u.want != 0 then ok (s.finishJob g j.idx updStateBad)
    else ok (s.setUpd { u with job := some (g, j.idx), want := 3 }).updGo

/-- UPDATE_ABORT (R424): taken while the command that it stops has not completed. -/
def execUpdateAbort (g : Nat) (s : State) : Host.Outcome State Fault Refusal :=
  if s.rd QMG_RINGg_DESC.FN g != 0 then ok s else
  match (s.ring g).jobs.find? (fun j => j.done.isNone && j.ready && j.opcode == 0xA3) with
  | none => ok s
  | some j =>
    if 1 ≤ s.updPhase && s.updPhase ≤ 3 || s.boot.upd.want != 0 then ok (s.updAbort (some (g, j.idx)))
    else ok (s.finishJob g j.idx updStateBad)

/-- FLASH_ERASE_DONE (R424): the sector reads 0xFF; the next one is erased, or the engine enters Writing. -/
def execFlashEraseDone (s : State) : Host.Outcome State Fault Refusal :=
  let u := s.boot.upd
  if !u.busy || s.updPhase != 1 then ok s else
  let s := s.flashErase s.updSector
  let s := (s.setUpd { u with busy := false, sector := u.sector + 1 }).wr BOOT_UPD_PROGRESS.SECTORS (u.sector + 1)
  ok s.updGo.showSpiWp

/-- FLASH_PROGRAM_DONE (R424): a page is programmed; `got` is what it reads back. A mismatch ends an Update Write with Flash Error; of
the SEQ page it is a failure whose REASON the spec does not give. -/
def execFlashProgramDone (got : List Byte) (s : State) : Host.Outcome State Fault Refusal :=
  let u := s.boot.upd
  if !u.busy || s.updPhase < 2 then ok s else
  let p := s.updPage
  let s := (s.flashPut p.1 (got.take 256)).cal 1264
  let s := s.wr BOOT_UPD_PROGRESS.MIB ((u.pages + 1) / 4096)
  let u := { u with busy := false, pages := u.pages + 1 }
  if u.seq.isSome then
    if got = p.2 then ok (s.setUpd { u with seqOk := true }).updGo.showSpiWp
    else ok (s.draw.setUpd { u with fail := some (updFlashError, Config.freeNat s.free % 256) }).updGo.showSpiWp
  else if got = p.2 then ok (s.setUpd { u with page := u.page + 1 }).updGo.showSpiWp
  else ok (((s.setUpd { u with job := none, data := [], page := 0 }).updDone u.job updFlashError).updGo.showSpiWp)

/-- UPDATE_CHECK_DONE (R424): the Finish check: R413 with SEQ from the manifest, then SEQ above the running one. -/
def execUpdateCheckDone (s : State) : Host.Outcome State Fault Refusal :=
  let u := s.boot.upd
  if s.updPhase != 3 || u.seq.isSome || u.fail.isSome || u.stop || u.want != 0 then ok s else
  let rd := s.slotRead s.updSlot
  let r := headReason (rd 0 4096) false
  let r := if r != 0 then r else s.manCheck rd none true
  let r := if r != 0 then r else s.compCheck rd (fun _ => true)
  let q := manSeq (manOf (rd 0 4096) s.boot.half rd)
  let u := if r != 0 then { u with fail := some (0x112, r) }
    else if q ≤ s.rd BOOT_RUN_SEQ.SEQ then { u with fail := some (0x113, 0) }
    else { u with seq := some q, seqOk := false }
  ok (s.setUpd u).updGo

/-! ## The roll-back floor (R419) -/

/-- FLOOR_PROGRAM (R419). -/
def execFloorProgram (s : State) : Host.Outcome State Fault Refusal :=
  if s.rd BOOT_FLOOR_CMD.STATE = 1 then ok s else
  let v := s.rd BOOT_FLOOR_NEW.VALUE
  if v ≤ s.boot.floors.getLastD 0 || s.rd BOOT_RUN_SEQ.SEQ < v || 16 ≤ s.boot.floors.length || s.on PWR_STATUS.NV_REFUSED then
    ok ((s.wr BOOT_FLOOR_CMD.STATE 3).raise 25)
  else ok ((s.setBoot { s.boot with floorVal := v + 1 }).wr BOOT_FLOOR_CMD.STATE 1)

/-- FLOOR_PROGRAM_DONE (R419): the word is programmed, in a refusal too (R465). -/
def execFloorProgramDone (s : State) : Host.Outcome State Fault Refusal :=
  if s.boot.floorVal = 0 then ok s else
  let v := s.boot.floorVal - 1
  let s := (s.setBoot { s.boot with floors := s.boot.floors ++ [v], floorVal := 0 }).showOtp
  ok ((s.wr BOOT_FLOOR_CMD.STATE 2).raise 24 [i32 v])

/-! ## Partitions in service (R427, R428) -/

/-- The component bytes of a partition package: they follow its manifest, whose length its one component gives. -/
def pkgManLen (m : List Byte) : Nat :=
  let c := manComp m 0
  0x100 + 80 * leAt m 4 4 + 4 * (c.crcIdx + (c.len + 4095) / 4096) + 96

/-- The REASON of a partition package for partition `p`: R413 tests 2, 3 and 7, its one TYPE 2 component, and the fit in its region. -/
def State.pkgReason (s : State) (p : Nat) (b : List Byte) : Nat :=
  let len := pkgManLen b
  let m := b.take len
  let c := manComp m 0
  let r := manReason m len s.boot.digest
  if r != 0 then r
  else if leAt m 4 4 != 1 then 3
  else if c.typ != 2 || c.index != p || (s.part p).size < c.len || b.length < len + c.len then 8
  else compReason m c (slice b len c.len)

/-- LOAD_PARTITION (R427): PARAM1 [5:0] is the partition. -/
def execLoadPartition (g : Nat) (s : State) : Host.Outcome State Fault Refusal :=
  match s.pf0Job g 0xA8 with
  | none => ok s
  | some j =>
    let p := bitsOf (qwAt j.qw 1) 0 6
    if s.rd BOOT_PARTp_STATUS.PSTATE p = 0 then ok (s.finishJob g j.idx 4 8) else
    let r := s.pkgReason p j.bytes
    if r != 0 then ok (s.finishJob g j.idx 0x112 r) else
    let b := slice j.bytes (pkgManLen j.bytes) (manComp j.bytes 0).len
    let s := (s.setPart p { s.part p with pending := b }).rtWrite (s.part p).pend b
    ok (((s.wr BOOT_PARTp_STATUS.PSTATE 3 p).raise 23 [i8 p]).finishJob g j.idx 0)

/-- The partition's threads stop, its pending copy becomes the checked copy, and it is cold-started on the same threads (R428). -/
def State.activate (s : State) (p : Nat) : State :=
  let x := s.part p
  let k := x.cluster
  let l := (List.range 4).filter (fun g => bitOf x.cores g)
  let mine := fun (a : Nat) => l.any (fun g => onCore k g a && bitOf x.threads (4 * g + agentThread a))
  let s := (s.wr BOOT_PARTp_STATUS.PSTATE 4 p).abortHolders mine
  let s := s.forceAbort (fun o => l.any (fun g => o == coreOwner k g))
  let s := { s with cpu := { s.cpu with halted := s.cpu.halted.filter (fun a => !mine a) } }
  let s := (s.setPart p { x with checked := x.pending, pending := [] }).coldLoad p
  let s := (s.wr BOOT_PARTp_STATUS.SWAPPED 1 p).wr BOOT_PARTp_STATUS.PSTATE 1 p
  let s := forEach l (fun g s =>
    let c := s.physCore k g
    if s.coreState k c = 0 then
      let w := s.rd CPU_CLk_COREc_STATUS.WAITING k c
      (s.wr CPU_CLk_COREc_STATUS.WAITING (w - (w &&& bitsOf x.threads (4 * g) 4)) k c).raise (400 + 4 * k + 1) [i8 c]
    else s) s
  (s.showParts k).raise 23 [i8 p]

/-- ACTIVATE_PARTITION (R428): PARAM1 [5:0] is the partition. One without a pending copy is refused. -/
def execActivatePartition (g : Nat) (s : State) : Host.Outcome State Fault Refusal :=
  match s.pf0Job g 0xA9 with
  | none => ok s
  | some j =>
    let p := bitsOf (qwAt j.qw 1) 0 6
    if s.on BOOT_PARTp_STATUS.PROT p then ok (s.finishJob g j.idx 0x114)
    else if s.rd BOOT_PARTp_STATUS.PSTATE p != 3 then ok (s.finishJob g j.idx 4 8)
    else ok ((s.activate p).finishJob g j.idx 0)

/-- PARTITION_ACTIVATE_REG (R428): a write of ACTIVATE by `who`; taken only from a thread of another cluster while PROT is 1. -/
def execPartitionActivateReg (who p : Nat) (s : State) : Host.Outcome State Fault Refusal :=
  if s.shut who then ok (s.refuseWrite who) else
  if 64 ≤ p then ok s
  else if !s.on BOOT_PARTp_STATUS.PROT p || !isThread who || agentCluster who == s.rd BOOT_PARTp_STATUS.CLUSTER p then ok s.bad
  else if s.rd BOOT_PARTp_STATUS.PSTATE p != 3 then ok s
  else ok (s.activate p)

end Sys2Proof.Machine
end

