-- ==== Sys2Proof/Machine/Standby.lean ====
section
/-!
DEFINITION. Standby: its holds, entry, what it keeps and loses, and the wake (R471 to R476).
-/
namespace Sys2Proof.Machine

/-- PSTATE: 0 Running, 1 Entering, 2 Standby. Waking is over within one command. -/
def State.pstate (s : State) : Nat := s.rd PWR_STATUS.PSTATE

/-- Is Standby held (R471)? -/
def State.held (s : State) : Bool := s.on PWR_STATUS.STBY_PIN || s.on PWR_STBY.SOFT

/-! ## Entry (R472) -/

/-- Step 1: every by-pass drive is released with REASON 3, and the HIF domain is reset; the port behaves as in L2. -/
def State.standbyHost (s : State) : State :=
  let ready := (List.range 256).filter (fun f => s.on HIF_FNf_STATE.READY f)
  let s : State := { s with fpt := { s.fpt with powerHold := 3 }, pwr := { s.pwr with ready := ready } }
  let s := forEach (List.range 12) (fun p s => (s.bypCheck p).wr FPT_PAIRp_STATUS.REASON 3 p) s
  s.hifReset 6

/-- Step 2: ports and pipelines stop with their frames, the Tailstock role is Off, an update is aborted; pulses and publications
end. -/
def State.standbyPorts (s : State) : State :=
  let s := forEach (List.range 40) (fun n s => if s.lstate n = 0 then s else (s.cutFrames n).setLstate n 1) s
  let s := forEach (List.range 12) (fun p s => s.pairSettle p) s
  let s := forEach s.sch.queues (fun p s => forEach p.2 (fun f s => s.freeCells p.1 f.pfc (cellsOf f.bytes)) (s.setSchQ p.1 [])) s
  let s := { s with ppl := { s.ppl with svIn := [], gooseIn := [], rmaIn := [] } }
  let s := s.setRole 0
  let s := if 1 ≤ s.updPhase && s.updPhase ≤ 3 || s.boot.upd.want != 0 then s.updAbort none else s
  let s := forEach (List.range 256) (fun p s =>
    if (s.pub p).running then s.setPub p { s.pub p with running := false, woken := true } else s) s
  { s with pins := { s.pins with evtOut := false, ppsOut := false } }

/-- Step 3: open segments close (R254), DMA channels return to Idle (R387), waiting repairs are dropped (R404). -/
def State.standbyStores (s : State) : State := (s.truncateSegs (fun _ => true)).dmaIdle.dropRepairs

/-- Step 4: drives that are Up are shut down once their commands are done; a slot without a drive Up loses its power. -/
def State.standbyDrives (s : State) : State :=
  let s := forEach [0, 1, 2, 3] (fun d s =>
    let st := s.sstate d
    if st = 4 || st = 5 then (if (s.ds d).removing = 0 then s.setDs d { s.ds d with removing := 1, from_ := s.tick } else s)
    else if st = 2 || st = 3 then (s.powerOffSlot d).setSstate d 1
    else s) s
  s.stgSettle

/-- Is a drive still waited for? -/
def State.drivesWaited (s : State) : Bool := [0, 1, 2, 3].any (fun d => s.sstate d == 4 || s.sstate d == 5)

/-- The threads of every core stop at an instruction boundary; the core keeps its state (R472 step 5). -/
def State.standbyCores (s : State) : State :=
  let s := forEach (List.range 8) (fun k s => forEach (List.range 4) (fun g s => s.stopThreads k g (s.physCore k g)) s) s
  forEach (List.range 64) (fun p s => if s.rd BOOT_PARTp_STATUS.PSTATE p = 1 then s.wr BOOT_PARTp_STATUS.PSTATE 2 p else s) s

/-- Time stops: the always-on counter carries it (R51), and its quality is lost (R473). -/
def State.standbyTime (s : State) : State :=
  let s := s.timCarry
  let s := { s with tim := { s.tim with srcs := [] } }
  (((s.wr TIM_STATUS.STATE 0).wr TIM_STATUS.QUALITY 3).wr TIM_STATUS.SOURCE 0).wr TIM_QW_STATUS.OPEN 0

/-- Steps 5 and 6: Standby is reached, its rails off. -/
def State.standbyEnd (s : State) : State :=
  let s := s.standbyCores.standbyTime
  let s := (s.wr MEM_CLc_STATUS.IN_SR 1 0).wr MEM_CLc_STATUS.IN_SR 1 1
  let s := (s.count PWR_cnt_LO.COUNT 1).wr PWR_STATUS.PSTATE 2
  { s with pins := { s.pins with pwrOk := false }, pwr := { s.pwr with draining := false, from_ := s.tick } }

/-! ## Wake (R474, R475) -/

/-- Step 3: both classes leave self-refresh with one update of each channel. -/
def State.wakeMemory (s : State) : State :=
  let s := s.dropMasked
  let s := (s.wr MEM_CLc_STATUS.IN_SR 0 0).wr MEM_CLc_STATUS.IN_SR 0 1
  forEach [0, 1] (fun c s => forEach (List.range (s.chansOf c)) (fun ch s => s.updateDone c ch) s) s

/-- Step 4: time, Grain instances, bays and publications resume. -/
def State.wakeBlocks (s : State) : State :=
  let s := s.timReturn.timSettle
  let on_ := (List.range 4).filter (fun g => s.gstate g != 0)
  let s := forEach on_ (fun g s => s.grainStart g) s
  let ms := on_.flatMap s.marksOf
  let s := { s with tim := { s.tim with markFrom := ms.foldl (fun t m => tabSet t m 0) s.tim.markFrom
                                        markCycle := ms.foldl (fun t m => tabSet t m 0) s.tim.markCycle } }
  let s := forEach ((List.range 128).filter s.bayRuns) (fun b s =>
    (s.beginBay b).draw.raise 224 [i8 b, i8 1, i8 1, i8 (Config.freeNat s.free % 256)]) s
  forEach (List.range 256) (fun p s =>
    if (s.pub p).woken then s.setPub p { s.pub p with running := true, next := s.tick } else s) s

/-- Step 5: the partitions of every Active core warm-start. -/
def State.wakeCores (s : State) : State :=
  forEach (List.range 8) (fun k s =>
    (forEach (List.range 4) (fun g s =>
      if s.coreState k (s.physCore k g) = 0 then s.warmStart k g (s.physCore k g) else s) s).showParts k) s

/-- Step 6: HIF leaves reset, the functions that were ready are ready again, and slots follow R317 from Present. -/
def State.wakeHost (s : State) : State :=
  let s := s.wr HIF_LINK_STATUS.LTSSM 0
  let s := if s.pins.perstN then forEach s.pwr.ready (fun f s => if s.on HIF_FNf_STATE.PRESENT f then s.becomeReady f else s) s else s
  let s := forEach [0, 1, 2, 3] (fun d s => if s.sstate d = 1 then s.enterPresent d else s) s
  (s.twinCommit false).stgSettle

/-- The device wakes: it is Running, PWR_OK is high, and source 11 carries the wake source (a release of the pin has no stated code)
and the time in Standby. -/
def State.wake (s : State) : State :=
  let ms := (s.tick - s.pwr.from_) / 1000000
  let src := s.pwr.source
  let s : State := { s with pins := { s.pins with pwrOk := true, stbyInd := false }, calFrom := s.tick, calFcFrom := [] }
  let s := s.wakeMemory.wr PWR_STATUS.PSTATE 0
  let s := s.wakeBlocks.wakeCores
  let s := { s with fpt := { s.fpt with powerHold := 0 }, evt := { s.evt with wdogFrom := s.tick, wdogHalf := false } }
  let s := forEach (List.range 12) (fun p s => s.bypCheck p) s
  let s := (s.wakeHost.count PWR_cnt_LO.COUNT 2).wr PWR_STBY_TIME.MS (min (2 ^ 32 - 1) ms)
  let code := if src = 0 then Config.freeNat s.free % 256 else src - 1
  let s := s.draw.raise 11 [i8 code, i32 (min (2 ^ 32 - 1) ms)]
  (s.setPwr { s.pwr with source := 0, ready := [] }).showEvtOut

/-- The device signals that it enters Standby. -/
def State.standbySign (s : State) : State :=
  { s with pins := { s.pins with stbyInd := true }, pwr := { s.pwr with from_ := s.tick, source := 0, draining := true } }

/-- Entry up to its wait for drives; a hold from now on is only kept. Source 10: 0 pin, 1 SOFT. -/
def State.standbyBegin (s : State) : State :=
  let s := (s.calSync.raise 10 [i8 (b2n (!s.on PWR_STATUS.STBY_PIN))]).wr PWR_STATUS.PSTATE 1
  s.standbySign.standbyHost.standbyPorts.standbyStores.standbyDrives

/-- Entry goes on to Standby when no drive is waited for; it is left again at once when no hold remains (R476). -/
def State.standbyGo (s : State) : State :=
  if s.pstate != 1 || s.drivesWaited then s else
  let s := s.standbyEnd
  if s.held then s else s.wake

/-- A held device that runs enters Standby (R471), and not during the boot flow. -/
def State.standbyCheck (s : State) : State :=
  if s.held && s.pstate == 0 && s.boot.phase == 4 then s.standbyBegin.standbyGo else s

/-- The wake, and entry again at once when a hold has come meanwhile (R476). -/
def State.wakeCheck (s : State) : State := if s.pstate == 2 && !s.held then s.wake else s

/-- A wake source of PWR_WAKE, by its bit: it clears SOFT (R471). -/
def State.wakeSource (s : State) (k : Nat) : State :=
  let en := if k = 0 then s.on PWR_WAKE.PERST else if k = 1 then s.on PWR_WAKE.TRIG_IN else s.on PWR_WAKE.TIMER
  if !en || !s.on PWR_STBY.SOFT then s
  else ((s.wr PWR_STBY.SOFT 0).setPwr { s.pwr with source := k + 1 }).wakeCheck

/-! ## The commands -/

/-- STANDBY_HOLD_ASSERT (R471): STBY_REQ_N asserted for 10 µs, or ENTER written (`soft`). -/
def execStandbyHoldAssert (soft : Bool) (s : State) : Host.Outcome State Fault Refusal :=
  let s := if soft then s.wr PWR_STBY.SOFT 1
    else State.wr { s with pins := { s.pins with stbyReqN := false } } PWR_STATUS.STBY_PIN 1
  ok s.standbyCheck

/-- STANDBY_HOLD_RELEASE (R471): STBY_REQ_N is released. -/
def execStandbyHoldRelease (s : State) : Host.Outcome State Fault Refusal :=
  ok ({ s with pins := { s.pins with stbyReqN := true } }.wr PWR_STATUS.STBY_PIN 0).wakeCheck

/-- STANDBY_DRIVE_WAIT_DONE (R472 step 4): the drives are done, or at 70 ms what is still outstanding is abandoned as at a surprise
removal. -/
def execStandbyDriveWaitDone (s : State) : Host.Outcome State Fault Refusal :=
  if s.pstate != 1 || !s.pwr.draining then ok s else
  let late := [0, 1, 2, 3].filter (fun d => s.sstate d == 4 || s.sstate d == 5)
  let s := if late.isEmpty then s else s.advanceTo (s.pwr.from_ + 70000000)
  let s := forEach late (fun d s => (((s.powerOffSlot d).setSstate d 1).abandon d true)) s
  ok s.stgSettle.standbyGo

/-- WAKE_TIMER_EXPIRE (R471): PWR_WAKE_TIMER seconds in Standby. -/
def execWakeTimerExpire (s : State) : Host.Outcome State Fault Refusal :=
  if s.pstate != 2 || !s.on PWR_WAKE.TIMER then ok s
  else ok ((s.advanceTo (s.pwr.from_ + nsPerSec * s.rd PWR_WAKE_TIMER.S)).wakeSource 2)

/-- TRIG_IN_EDGE (R250, R471): TRIG_IN goes to `lvl` at tick `t`. An edge of the EDGE polarity is also a wake source; in Standby the
recorder does not run. -/
def execTrigInEdge (lvl : Bool) (t : Nat) (s : State) : Host.Outcome State Fault Refusal :=
  let s := s.advanceTo t
  if s.pstate = 0 then
    let r := s.trigEdge lvl
    ok (if r.2 then r.1.wakeSource 1 else r.1)
  else if s.pins.trigIn == lvl then ok s
  else
    let fits := lvl != (s.rd REC_CFG.EDGE == 1) && decide (1000 * s.rd REC_CFG.DEBOUNCE_US ≤ s.tick - s.rec_.trigFrom)
    let s : State := { s with pins := { s.pins with trigIn := lvl }, rec_ := { s.rec_ with trigFrom := s.tick } }
    ok (if fits then s.wakeSource 1 else s)

/-- PERST_DEASSERT (R280, R281, R471): WAKE_N is released and training may begin; a rising edge is a wake source. -/
def execPerstDeassert (s : State) : Host.Outcome State Fault Refusal :=
  if s.pins.perstN then ok s else
  ok ((State.raise { s with pins := { s.pins with perstN := true, wakeN := true } } 314 [i8 1]).wakeSource 0)

end Sys2Proof.Machine
end

