-- ==== Sys2Proof/Machine/Boot.lean ====
section
/-!
DEFINITION. The start: the ROM, stage 2, the configuration image and the initial commits (R414 to R417, R420 to R422), the recovery
loader (R418), and the restarts of BOOT_CTRL.
-/
namespace Sys2Proof.Machine

/-! ## The ROM (R414) -/

/-- MRAM offset of the boot record of a slot: the REASON with which stage 2 rejected it, or 0 (log 61). -/
def bootRecAddr (n : Nat) : Nat := 0x160000 + 8 * n

/-- A slot is rejected (R413, R417). -/
def State.rejectSlot (s : State) (n reason : Nat) : State := (s.wr BOOT_SLOTn_STATUS.REASON reason n).raise 17 [i8 n, i8 reason]

/-- Tests 1 to 6 of R413 on a slot, and test 7 on its stage 2; 11 for a slot that cannot be read. -/
def State.romCheck (s : State) (bad : Nat) (n : Nat) : Nat :=
  let rd := s.slotRead n
  let h := rd 0 4096
  let r := if bitOf bad n then 11 else headReason h true
  let r := if r != 0 then r else s.manCheck rd (some (leAt h 0xF00 4)) true
  if r != 0 then r else s.compCheck rd (fun c => c.typ == 1)

/-- The slots that pass test 1, the higher SEQ first, and the excluded one last (R414, R417). -/
def State.slotOrder (s : State) (bad : Nat) : List Nat :=
  let seq := fun (n : Nat) => leAt (s.slotRead n 0 4096) 0xF00 4
  let l := [0, 1].filter (fun n => !bitOf bad n && headReason (s.slotRead n 0 4096) true == 0)
  let l := if l == [0, 1] && seq 0 < seq 1 then [1, 0] else l
  let x := s.boot.alt
  if x = 0 then l else l.filter (fun n => n + 1 != x) ++ l.filter (fun n => n + 1 == x)

/-- The ROM takes the first slot that passes and starts its stage 2; with none it enters the recovery loader. -/
def State.romTry (s : State) (bad : Nat) : List Nat → State
  | [] => s.setBoot { s.boot with phase := 2, alt := 0 }
  | n :: t =>
    let r := s.romCheck bad n
    if r != 0 then (s.rejectSlot n r).romTry bad t else
    let seq := leAt (s.slotRead n 0 4096) 0xF00 4
    let other := leAt (s.slotRead (1 - n) 0 4096) 0xF00 4
    let fall := !bitOf bad (1 - n) && headReason (s.slotRead (1 - n) 0 4096) true == 0 && decide (seq < other)
    let s := (((s.wr BOOT_STATUS.RUN_SLOT n).wr BOOT_RUN_SEQ.SEQ seq).wr BOOT_STATUS.FALLBACK (b2n fall)).wr BOOT_STATUS.ROM_LOCKED 1
    s.setBoot { s.boot with phase := 3, alt := 0 }

/-- Both headers are read: SLOTn_SEQ, and the slots that fail test 1 are rejected. -/
def State.romHeaders (s : State) (bad : Nat) : State :=
  forEach [0, 1] (fun n s =>
    let h := s.slotRead n 0 4096
    let r := if bitOf bad n then 11 else headReason h true
    let s := s.wr BOOT_SLOTn_SEQ.SEQ (if r = 2 then 2 ^ 32 - 1 else leAt h 0xF00 4) n
    let rec_ := leAt (s.mramRead (bootRecAddr n) 1) 0 1
    if r != 0 then s.rejectSlot n r
    else if s.boot.alt = n + 1 && rec_ != 0 then s.rejectSlot n rec_
    else s) s

/-- ROM_BOOT (R414, R415, R417): device reset is released. The straps are sampled (R484), time returns (R51, R52), the journal is scanned
(R455) and source 0 is raised; then the ROM chooses. `mib` is the size of the fitted flash, and bit n of `bad` says that slot n
cannot be read. -/
def execRomBoot (straps mib bad : Nat) (s : State) : Host.Outcome State Fault Refusal :=
  let s := s.leaveReset
  if s.boot.phase != 1 then ok s else
  let half := max 16 (min 256 mib) * 2 ^ 20 / 2
  let s := if s.pwr.cause = 1 then s.setTim { aoTick := s.tick } else s.timReturn
  let s := State.setBoot { s with pins := { s.pins with straps := straps % 256 } } { s.boot with half := half }
  let why := if s.pwr.cause ≤ 2 then 1 else 2
  let s := forEach (List.range 12) (fun p s => (s.wr FPT_PAIRp_STATUS.REASON why p).setPair p { s.pair p with causes := s.bypCauses p })
    { s with fpt := { s.fpt with powerHold := 0 } }
  let s := (s.wr PWR_STATUS.RESET_CAUSE s.pwr.cause).scanJournal.raise 0 [i8 s.pwr.cause]
  let s := (s.showOtp.wr BOOT_STATUS.OCTAL (b2n (bitOf straps 0 && bitOf straps 1)))
  if s.boot.digest.length != 48 || !bitOf straps 6 then ok (s.setBoot { s.boot with phase := 2, alt := 0 })
  else
    let s := s.romHeaders bad
    ok (s.romTry bad (s.slotOrder bad))

/-! ## The configuration image (R420) -/

/-- A TLV: its type, block, the offset at which it starts, and its value. -/
structure Tlv where
  typ : Nat := 0
  blk : Nat := 0
  off : Nat := 0
  val : List Byte := []
  deriving DecidableEq, Repr, Inhabited

/-- The TLVs from an offset on, which must end with the image. -/
def tlvsFrom : Nat → List Byte → Nat → Option (List Tlv)
  | 0, b, off => if off = b.length then some [] else none
  | k + 1, b, off =>
    let len := leAt b (off + 4) 4
    let next := off + 8 + (len + 7) / 8 * 8
    if b.length < next then none
    else (tlvsFrom k b next).map (fun l => { typ := leAt b off 2, blk := leAt b (off + 2) 1, off := off, val := slice b (off + 8) len } :: l)

/-- The register values of a TLV: (offset in the block, value). -/
def Tlv.pairs (x : Tlv) : List (Nat × Nat) :=
  (List.range (x.val.length / 8)).map (fun i => (leAt x.val (8 * i) 4, leAt x.val (8 * i + 4) 4))

/-- Window, first entry, and entries of a table TLV. -/
def Tlv.window (x : Tlv) : Nat := leAt x.val 0 1
def Tlv.first (x : Tlv) : Nat := leAt x.val 4 4
def Tlv.entries (x : Tlv) : List Nat :=
  let n := 4 * winEntryWords x.window
  (List.range ((x.val.length - 8) / n)).map (fun i => leAt x.val (8 + n * i) n)

/-- Image fields that are not RWL. -/
def imageFields : List Fld :=
  [TIM_UTC.UTC_OFFSET, TIM_TSCOMPn.EGR, TIM_TSCOMPn.ING, FWT_Tt_SEED0.SEED, FWT_Tt_SEED1.SEED, FWT_Tt_SH_SEED0.SEED, FWT_Tt_SH_SEED1.SEED,
   TRP_ARM_SETk.ARM, TRP_ARM_CLRk.ARM, HIF_PF_VFS.PF1, HIF_PF_VFS.PF2, HIF_PF_VFS.PF3, HIF_PF_VFS.PF4, HIF_FNf_MSIX.FIRST,
   HIF_FNf_MSIX.SIZE, QMG_ADM_ALLOW.ALLOW, RMA_ARM_WANTk.WANT, CPU_CLk_CFG.PROT]

/-- The block that a TLV names. -/
def tlvBlk (x : Tlv) : Option Blk := Blk.all.find? (fun b => b.bit == x.blk)

/-- The store key of an offset in a block. -/
def imageKey (b : Blk) (o : Nat) : Nat := regKey 0 (b.base + o)

/-- Is the register a word with image fields? -/
def hasImage (a : Nat) : Bool := a % 4 == 0 && (rwlMask a != 0 || imageFields.any (fun f => f.covers a))

/-- Is a TLV before the trailer badly formed? -/
def Tlv.bad (x : Tlv) : Bool :=
  match x.typ with
  | 1 => x.val.length % 8 != 0 ||
    (match tlvBlk x with | some b => x.pairs.any (fun p => !hasImage (imageKey b p.1)) | none => !x.pairs.isEmpty)
  | 2 => decide (x.val.length < 8) || decide (11 < x.window) || (x.val.length - 8) % (4 * winEntryWords x.window) != 0 ||
    decide (winEntries x.window < x.first + x.entries.length)
  | 3 => false
  | 4 => false
  | _ => true

/-- The TLVs of a well-formed image: REASON 12 otherwise. The last two are the trailer. -/
def imageTlvs (b : List Byte) : Option (List Tlv) :=
  if leAt b 0 4 != 0x54524C43 || leAt b 4 4 != 1 || leAt b 8 4 != b.length then none else
  match tlvsFrom (leAt b 16 4) b 32 with
  | none => none
  | some l =>
    let body := l.take (l.length - 2)
    let sets := body.flatMap (fun x => if x.typ = 1 then x.pairs.map (fun p => (x.blk, p.1)) else [])
    if (l.drop (l.length - 2)).map (fun x => x.typ) != [0xFFFE, 0xFFFF] || body.any Tlv.bad || sets.eraseDups.length != sets.length then none
    else some l

/-- The REASON of an image by itself: 12, 13 or 0. -/
def imageReason (b key : List Byte) : Nat :=
  match imageTlvs b with
  | none => 12
  | some l =>
    let ok := l.all (fun x =>
      if x.typ = 0xFFFE then leAt x.val 0 4 == crcFull (b.take x.off)
      else if x.typ = 0xFFFF then Config.sigOk key x.val (b.take x.off) else true)
    if ok then 0 else 13

/-! ## Initial commits (R422) -/

/-- An image field that is not RWL takes its value; arm bits show in both registers. -/
def State.setImageField (s : State) (a v : Nat) (f : Fld) : State :=
  let x := bitsOf v f.lo f.w
  if TRP_ARM_SETk.ARM.covers a then s.setReg a (f.put (s.reg a) x) |>.wr TRP_ARM_CLRk.ARM x (TRP_ARM_SETk.ARM.index a).1
  else if TRP_ARM_CLRk.ARM.covers a then s.setReg a (f.put (s.reg a) x) |>.wr TRP_ARM_SETk.ARM x (TRP_ARM_CLRk.ARM.index a).1
  else s.setReg a (f.put (s.reg a) x)

/-- A register value of the image: its RWL fields are staged, its other image fields take it. -/
def State.imagePair (s : State) (b : Blk) (o v : Nat) : State :=
  let a := imageKey b o
  let s := forEach (imageFields.filter (fun f => f.covers a)) (fun f s => s.setImageField a v f) s
  if rwlMask a = 0 then s else
  let x := s.stageOf b
  s.setStage b { x with staged := tabSet x.staged a (some v) }

/-- An entry of the image for window 11: a pinned context is kept for the commit of RMA, its keys wrapped (R327, R347). -/
def State.imageContext (s : State) (i v : Nat) : State :=
  if ctxPin.get v = 1 then { s with rma := { s.rma with pinned := s.rma.pinned ++ [(i, s.sealImage v)] } }
  else s.setWinNat 11 false (64 * i) 64 (s.sealImage v)

/-- The table entries of the image for a block's windows. -/
def State.imageTables (s : State) (b : Blk) (l : List Tlv) : State :=
  forEach (l.filter (fun x => x.typ == 2)) (fun x s =>
    forEach ((List.range x.entries.length).zip x.entries) (fun p s =>
      let e := x.first + p.1
      if b.windows.contains x.window then s.setWinNat x.window true (e * winEntryWords x.window) (winEntryWords x.window) (winClean x.window p.2)
      else if x.window = 11 && b == .rma then s.imageContext e p.2
      else s) s) s

/-- The table entries of windows 0 to 2, loaded at the initial FWT commit. -/
def State.imageFwt (s : State) (l : List Tlv) : State :=
  forEach (l.filter (fun x => x.typ == 2 && decide (x.window < 3))) (fun x s =>
    forEach ((List.range x.entries.length).zip x.entries) (fun p s => s.fwtWindowApply x.window false (x.first + p.1) (winClean x.window p.2)) s) s

/-- The blocks that a block's commit checks name (R191, R211, R236, R260). -/
def Blk.needs : Blk → List Blk
  | .aln => [.svi]
  | .phe => [.aln]
  | .trp => [.phe]
  | .recd => [.aln, .stg]
  | _ => []

/-- Is a block ready? -/
def State.blkReady (s : State) (b : Blk) : Bool := bitOf (s.rd GLB_READY_BLK.READY) b.bit

/-- A block reports ready: source 4 (R38). -/
def State.blkUp (s : State) (b : Blk) : State :=
  let s := s.wr GLB_READY_BLK.READY (setBit (s.rd GLB_READY_BLK.READY) b.bit true)
  s.raise 4 [i32 (s.reg 0x10).toNat, i32 (s.reg 0x14).toNat]

/-- What stage 2 has the storage block read from MRAM before its commit: attachments (R305) and the journal (R309). -/
def State.loadStorage (s : State) : State :=
  let s := forEach (List.range 64) (fun n s =>
    forEach (List.range 8) (fun w s => s.wr STG_NSs_ATTACHw.CTRL (leNat (s.mramRead (attachAddr n + 4 * w) 4)) n w) s) s
  let ents := (List.range 4096).filter (fun e => leNat (s.mramRead (entAddr e + 56) 8) != 0)
  let s := forEach ents (fun e s =>
    let b := s.mramRead (entAddr e) 64
    s.setEnt e { st := 2, s := leAt b 0 1, lba := leAt b 8 8, n := leAt b 2 2, seq := leAt b 56 8, replay := 1
                 members := [0, 1].filter (fun i => bitOf (leAt b 1 1) i) }) s
  { s with stg := { s.stg with nextSeq := 1 + (s.stg.ents.map (fun p => p.2.seq)).foldl max 0 } }

/-- What the recorder reads from MRAM: SEG_SEQ, 65,536 ahead of what was stored, and the namespace heads (R405). -/
def State.loadRecorder (s : State) : State :=
  let s := s.wr64 REC_SEQ_LO.SEQ ((leNat (s.mramRead segSeqAddr 8) + 65536) % 2 ^ 64)
  forEach (List.range 8) (fun r s => s.wr REC_NSr_HEAD.NS_HEAD (leNat (s.mramRead (nsHeadAddr r) 8)) r) s

/-- The partitions start, each cold (R366), with the spare core of every cluster idle. -/
def State.startParts (s : State) : State :=
  let ps := (List.range 64).filter (fun p => !(s.part p).checked.isEmpty)
  let s := forEach ps (fun p s =>
    let k := (s.part p).cluster
    let s := (s.wr BOOT_PARTp_STATUS.CLUSTER k p).wr BOOT_PARTp_STATUS.PROT (s.rd CPU_CLk_CFG.PROT k) p
    (s.coldLoad p).wr BOOT_PARTp_STATUS.PSTATE 1 p) s
  forEach (List.range 8) (fun k s =>
    let s := s.wr CPU_CLk_COREc_STATUS.CSTATE 1 k 4
    forEach (List.range 4) (fun g s => s.warmStart k g (s.physCore k g)) s) s

/-- What comes with the initial commit of a block. -/
def State.blkStarted (s : State) (b : Blk) (l : List Tlv) (image : List Byte) : State :=
  match b with
  | .tim => s.timSettle
  | .fwt => forEach (List.range 12) (fun p s => s.bypCheck p) (s.imageFwt l)
  | .fpt => forEach (List.range 12) (fun p s => s.bypCheck p) s
  | .rma => { s with rma := { s.rma with cfgCrc := Config.cfgCrc image } }
  | .cpu => s.startParts
  | .hif => forEach (List.range 5) (fun f s => (s.setCfg f { initializing := true }).wr HIF_FNf_STATE.PRESENT 1 f) s
  | _ => s

/-- The initial commit of a block: staging is opened as owner 0x01, the TLVs are written, COMMIT_NOW. A refused commit sets the fail
bit with source 19. A block whose checks name a block that is not ready is left alone. -/
def State.initBlk (s : State) (l : List Tlv) (image : List Byte) (b : Blk) : State :=
  if !b.needs.all s.blkReady then s else
  let s := match b with | .stg => s.loadStorage | .recd => s.loadRecorder | _ => s
  let s := if b.staged then (s.wr STAGE_STATUS.STATE 1 b.base).wr STAGE_STATUS.OWNER 1 b.base else s
  let s := forEach (l.filter (fun x => x.typ == 1 && tlvBlk x == some b)) (fun x s => forEach x.pairs (fun p s => s.imagePair b p.1 p.2) s) s
  let s := s.imageTables b l
  if !b.staged then (s.blkUp b).blkStarted b l image
  else
    match s.refusal b with
    | some d => ((s.refuseStage b d).wr GLB_FAIL_BLK.FAIL (setBit (s.rd GLB_FAIL_BLK.FAIL) b.bit true)).raise 19 [i8 b.bit, i8 d]
    | none => ((s.commitBlk b s.g0).blkUp b).blkStarted b l image

/-- The order of R422. -/
def bootOrder : List Blk :=
  [.glb, .pwr, .evt, .mem, .boot, .tim, .fpt, .ppl, .fwt, .sch, .svi, .aln, .phe, .trp, .stg, .recd, .rma, .cpu, .dma, .cal, .qmg, .hif]

/-- The function layout of the image (TLV 4). -/
def State.imageFns (s : State) (val : List Byte) : State :=
  let x := Config.fnLayout val
  let vfs := fun (i : Nat) => x.1.getD i 0
  let s := (((s.wr HIF_PF_VFS.PF1 (vfs 0)).wr HIF_PF_VFS.PF2 (vfs 1)).wr HIF_PF_VFS.PF3 (vfs 2)).wr HIF_PF_VFS.PF4 (vfs 3)
  let s := forEach x.2.1 (fun p s =>
    let s := ((s.wr HIF_FNf_MSIX.FIRST p.2.1 p.1).wr HIF_FNf_MSIX.SIZE p.2.2.1 p.1).wr QMG_ADM_ALLOW.ALLOW p.2.2.2 p.1
    s.setBoot { s.boot with fns := tabSet s.boot.fns p.1 (p.2.2.2, p.2.1, p.2.2.1 + 1) }) s
  { s with hif := { s.hif with subsystem := x.2.2 } }

/-- The partition table of the image (TLV 3), with the checked copies. -/
def State.imageParts (s : State) (val : List Byte) (copy : Nat → List Byte) : State :=
  forEach (Config.partTable val) (fun r s =>
    let p := r.getD 0 0 % 64
    s.setPart p { cluster := r.getD 1 0 % 8, cold := r.getD 2 0 != 0, cores := r.getD 3 0 % 16, threads := r.getD 4 0 % 65536
                  base := r.getD 5 0, size := r.getD 6 0, entry := r.getD 7 0, pend := r.getD 8 0, checked := copy p }) s

/-! ## Stage 2 (R416, R417) -/

/-- The memory classes are trained: the real-time class, and the bulk class as the straps give it (R389, R400, R404, R484). -/
def State.trainMemory (s : State) : State :=
  let c := s.pins.straps / 4 % 4
  let g := s.pins.straps / 16 % 4
  let s := ((s.wr MEM_CLc_STATUS.CHANNELS 4 0).wr MEM_CLc_STATUS.GIB 8 0).wr MEM_CLc_STATUS.TRAINED 1 0
  let s := ((s.wr MEM_CLc_STATUS.CHANNELS (if c = 0 then 1 else if c = 1 then 2 else 4) 1).wr MEM_CLc_STATUS.GIB
    (if g = 0 then 8 else if g = 1 then 16 else 32) 1).wr MEM_CLc_STATUS.TRAINED 1 1
  let used := ((List.range repairLogSize).filter (fun n => leNat (s.mramRead (repairLogAt n + 56) 8) != 0)).length
  let s := s.wr MEM_REPAIR_CMD.LOG_USED used
  let s := s.setMem { s.mem with last := [0, 1, 2, 3, 4, 5, 6, 7].foldl (fun t k => cellSet (fun _ => 0) t k s.tick) s.mem.last }
  { s with pins := { s.pins with bulkResetN := true } }

/-- A component other than stage 2 fails: its REASON goes to the boot record, and the device is reset to try the other slot first. -/
def State.stage2Fails (s : State) (n reason : Nat) : State :=
  let s := (s.wr BOOT_SLOTn_STATUS.REASON reason n).mramStore (bootRecAddr n) (leBytes 8 reason)
  (s.setBoot { s.boot with alt := n + 1 }).deviceReset 4

/-- The update record that an interrupted update left becomes Failed; one that is Failed already takes the slot's REASON, without a
change of PHASE (R424). -/
def State.updAtStart (s : State) : State :=
  let ph := s.updPhase
  let reason := s.rd BOOT_SLOTn_STATUS.REASON s.updSlot
  if ph = 0 || ph = 4 then s
  else if ph = 5 then
    (s.wr BOOT_UPD_STATUS.REASON reason).mramStore updRecAddr (leBytes 1 ph ++ leBytes 1 s.updSlot ++ leBytes 6 reason)
  else s.setPhase 5 reason

/-- The components pass: the copies are kept and the image is applied. -/
def State.stage2Runs (s : State) (n : Nat) (image : List Byte) (l : List Tlv) (parts : Nat → List Byte) (rom : List Byte) : State :=
  let s := ((s.wr BOOT_SLOTn_STATUS.VALID 1 n).mramStore (bootRecAddr n) (leBytes 8 0)).raise 16
    [i8 n, i32 (s.rd BOOT_RUN_SEQ.SEQ), i8 (s.rd BOOT_STATUS.FALLBACK)]
  let s := (s.rtWrite Config.cfgCopyBase image).wr64 BOOT_CFG_COPY_LO.BASE Config.cfgCopyBase
  let s := (s.wr BOOT_CFG_LEN.BYTES image.length).wr BOOT_CFG_SEQ.SEQ (leAt image 12 4)
  let s := { s with hif := { s.hif with rom := rom } }
  let s := s.updAtStart
  let s := forEach l (fun x s => if x.typ = 4 then s.imageFns x.val else if x.typ = 3 then s.imageParts x.val parts else s) s
  let s := forEach bootOrder (fun b s => s.initBlk l image b) s
  (s.setBoot { s.boot with phase := 4 }).standbyCheck

/-- STAGE2_BOOT (R416, R417, R420 to R422). `bad`: a component cannot be read. -/
def execStage2Boot (bad : Bool) (s : State) : Host.Outcome State Fault Refusal :=
  if s.boot.phase != 3 then ok s else
  let s := s.trainMemory
  let n := s.rd BOOT_STATUS.RUN_SLOT
  let rd := s.slotRead n
  let m := manOf (rd 0 4096) s.boot.half rd
  let part := fun (t : Nat) (p : Comp → Bool) =>
    match (manComps m).find? (fun c => c.typ == t && p c) with | some c => rd c.off c.len | none => []
  let image := part 3 (fun _ => true)
  let r := if bad then 11 else s.compCheck rd (fun c => c.typ != 1)
  let r := if r != 0 then r else imageReason image (manKey m)
  if r != 0 then ok (s.stage2Fails n r)
  else match imageTlvs image with
    | none => ok (s.stage2Fails n 12)
    | some l => ok (s.stage2Runs n image l (fun p => part 2 (fun c => c.index == p)) (part 4 (fun _ => true)))

/-! ## The recovery loader (R418) -/

/-- Bytes of the loader area. -/
def loaderSize : Nat := 1966080

/-- The answer to an accepted command. -/
def State.recAnswer (s : State) (cmd : Nat) (payload : List Nat) : State :=
  let body := (cmd + 0x80) :: payload.length / 256 :: payload.length % 256 :: payload
  let crc := crcFull (body.map (fun x => BitVec.ofNat 8 x))
  s.out (.recovery (0x7E :: body ++ (beBytes 4 crc).map (fun b => b.toNat)))

/-- A frame reaches the loader: `good` when its CRC holds and its LEN is at most 4,104; others are ignored. -/
def State.recFrame (s : State) (good : Bool) (f : State → State) : Host.Outcome State Fault Refusal :=
  if s.boot.phase = 2 && good then ok (f s) else ok s

/-- RECOVERY_PING. -/
def execRecoveryPing (good : Bool) (s : State) : Host.Outcome State Fault Refusal := s.recFrame good (fun s => s.recAnswer 1 [0])

/-- RECOVERY_PROVISION: the OTP digest is programmed when it is blank and writes are allowed. -/
def execRecoveryProvision (good : Bool) (digest : List Byte) (s : State) : Host.Outcome State Fault Refusal :=
  s.recFrame good (fun s =>
    if digest.length != 48 || s.boot.digest.length == 48 || s.on PWR_STATUS.NV_REFUSED then s.recAnswer 2 [1]
    else (s.setBoot { s.boot with digest := digest }).showOtp.recAnswer 2 [0])

/-- Bytes enter the loader area. -/
def State.loaderPut (s : State) (off : Nat) (data : List Byte) : State :=
  { s with boot := { s.boot with loader := memWrite rtShip s.boot.loader off data } }

/-- RECOVERY_LOAD: bytes go to an offset of the loader area. -/
def execRecoveryLoad (good : Bool) (off : Nat) (data : List Byte) (s : State) : Host.Outcome State Fault Refusal :=
  s.recFrame (good && decide (data.length ≤ 4100)) (fun s =>
    if data.isEmpty || 4096 < data.length || loaderSize < off + data.length then s.recAnswer 3 [1]
    else (s.loaderPut off data).recAnswer 3 [0])

/-- The loader area as a slot: its REASON, every test of a sequence number left out. -/
def State.loaderReason (s : State) : Nat :=
  let s := s.setBoot { s.boot with half := loaderSize }
  let rd := fun (a n : Nat) => memRead rtShip s.boot.loader a n
  let r := headReason (rd 0 4096) false
  let r := if r != 0 then r else s.manCheck rd none false
  if r != 0 then r else s.compCheck rd (fun _ => true)

/-- RECOVERY_RUN: a loaded image that passes runs under R415. -/
def execRecoveryRun (good : Bool) (s : State) : Host.Outcome State Fault Refusal :=
  s.recFrame good (fun s =>
    let r := s.loaderReason
    if r != 0 then s.recAnswer 4 [2, r] else
    let s := (s.recAnswer 4 [0]).setBoot { s.boot with phase := 5 }
    (((s.wr BOOT_STATUS.RECOVERY 1).wr BOOT_STATUS.ROM_LOCKED 1).wr BOOT_RUN_SEQ.SEQ 0).raise 18)

/-- RECOVERY_STATUS: done, REASON of both slots, and the OTP state (bit 7 KEY_SET, bits 4:0 FLOOR_USED: the model's layout, log 61). -/
def execRecoveryStatus (good : Bool) (s : State) : Host.Outcome State Fault Refusal :=
  s.recFrame good (fun s =>
    s.recAnswer 5 [0, s.rd BOOT_SLOTn_STATUS.REASON 0, s.rd BOOT_SLOTn_STATUS.REASON 1,
      128 * s.rd BOOT_STATUS.KEY_SET + s.rd BOOT_STATUS.FLOOR_USED])

/-! ## Restarts (R417, R467) -/

/-- DEVICE_REBOOT: REBOOT written. -/
def execDeviceReboot (s : State) : Host.Outcome State Fault Refusal := ok (s.deviceReset 4)

/-- DEVICE_REBOOT_ALT: the running slot is tried last at the next start. -/
def execDeviceRebootAlt (s : State) : Host.Outcome State Fault Refusal :=
  ok ((s.setBoot { s.boot with alt := s.rd BOOT_STATUS.RUN_SLOT + 1 }).deviceReset 4)

end Sys2Proof.Machine
end

