-- ==== Sys2Proof/Machine/Completions.lean ====
section
/-!
DEFINITION. Completions of the device's PCIe reads: delivery to rings, jobs and the Tailstock link, timeouts, quarantine and the
deadline of a function-level reset (chapter 12).
-/
namespace Sys2Proof.Machine

/-! ## Completions (R273 to R277, R282) -/

/-- Read contexts of the device. -/
def readContexts : Nat := 768

/-- Remove the read with tag `t` of function `f`. -/
def State.dropRead (s : State) (f t : Nat) : State :=
  { s with hif := { s.hif with reads := s.hif.reads.filter (fun r => !(r.fn == f && r.tag == t)) } }

/-- A tag enters quarantine; more than half the contexts there raise source 316 (R276). -/
def State.quarantine (s : State) (f t : Nat) : State :=
  let n := s.hif.quar.length
  let s := { s with hif := { s.hif with quar := s.hif.quar ++ [(f, t, s.tick)] } }
  if n * 2 ≤ readContexts && readContexts < (n + 1) * 2 then s.raise 316 [i16 (n + 1)] else s

/-- One read fewer is owed to a job. -/
def State.paidJob (s : State) (g idx : Nat) : State := s.updJob g idx (fun j => { j with owed := j.owed - 1 })

/-- What the failure of a read does to its owner (R275, R293). A failed entry read leaves no copy: the device has no tag to
complete, and it fetches the entry again (R290). -/
def State.readFailed (s : State) (r : ReadReq) (err : Nat) : State :=
  match r.why with
  | .entry g idx =>
    if r.owed then s else
    let x := s.ring g
    s.setRing g { x with copies := x.copies ++ [(idx, [0, 0, 0, 0, 0, 0, 0, 0])] }
  | .frag g idx => s.failJob g idx err
  | .table g idx => s.failJob g idx err
  | .rdma q psn => s.readRespData q psn r.off [] err
  | .dmaData ch => if 32 ≤ ch then s else
    { s with hif := { s.hif with arrived := s.hif.arrived ++ [{ why := .dmaData ch, off := r.off, err := err }] } }
  | w => { s with hif := { s.hif with arrived := s.hif.arrived ++ [{ why := w, off := r.off, err := err }] } }

/-- The eight quadwords of an entry. -/
def entryQws (b : List Byte) : List Nat := (List.range 8).map (fun i => leAt b (8 * i) 8)

/-- Whole data of a read reaches its destination (R273). -/
def State.readDone (s : State) (r : ReadReq) : State :=
  match r.why with
  | .entry g idx => let x := s.ring g; s.setRing g { x with copies := x.copies ++ [(idx, entryQws r.got)] }
  | .frag g idx => s.updJob g idx (fun j => { j with data := j.data ++ [(r.off, r.got)] })
  | .table g idx => s.updJob g idx (fun j => { j with data := j.data ++ [(r.off, r.got)] })
  | .rdma q psn => s.readRespData q psn r.off r.got 0
  | .dmaData ch => if 32 ≤ ch then s else
    { s with hif := { s.hif with arrived := s.hif.arrived ++ [{ why := .dmaData ch, off := r.off, bytes := r.got }] } }
  | w => { s with hif := { s.hif with arrived := s.hif.arrived ++ [{ why := w, off := r.off, bytes := r.got }] } }

/-- The job that a read belongs to. -/
def Purpose.job : Purpose → Option (Nat × Nat)
  | .frag g idx => some (g, idx)
  | .table g idx => some (g, idx)
  | _ => none

/-- A read is over: one read fewer is owed to its job, tags are counted, and a Quiesced function may settle. -/
def State.readOver (s : State) (r : ReadReq) : State :=
  let s := match r.why.job with | some p => (s.paidJob p.1 p.2).tableReady p.1 p.2 | none => s
  (((s.showTags r.fn).retryWaiting).settle r.fn).dmaStopped

/-- An Unexpected Completion for function `f` (R282); PF0 answers for one that no function issued. -/
def State.unexpected (s : State) (f : Nat) : State :=
  let f := s.reporter f
  ((((s.count HIF_cnt_LO.COUNT 4).bump HIF_FNf_DROP.UNEXP f).aer f .unexpectedCompletion).raise 308 [i8 f])

/-- The error of the link, or of a TLP that cannot be attributed, which PF0 reports (R282); none where the completion is to be looked at. -/
def linkError : TlpCheck → Option AerErr
  | .good | .ecrc | .turnOff => none
  | .receiver => some .receiver
  | .badTlp => some .badTlp
  | .badDllp => some .badDllp
  | .replayTimeout => some .replayTimeout
  | .replayRollover => some .replayRollover
  | .malformed => some .malformed
  | .badMessage => some .unsupportedRequest

/-- The link goes from L0 or L1 to L2, where the functions keep their state and WAKE_N wakes (R262, R281). -/
def State.enterL2 (s : State) : State :=
  if s.rd HIF_LINK_STATUS.LTSSM = 3 || s.rd HIF_LINK_STATUS.LTSSM = 5 then (s.wr HIF_LINK_STATUS.LTSSM 6).raise 304 [i8 6] else s

/-- The completions owed to a function that has stopped are discarded and counted (R278). -/
def State.countOwed (s : State) (r : ReadReq) : State :=
  if r.owed then (s.count HIF_cnt_LO.COUNT 6).bump HIF_FNf_DROP.DISCARDED r.fn else s

/-- The Read Completion Boundary (R273): 64 bytes. A boundary of 128 bytes is one too (PRESUMED, log 69). -/
def rcb : Nat := 64

/-- Does a piece of a completion carry the expected Lower Address and Byte Count, and end where R273 lets it? -/
def ReadReq.fits (r : ReadReq) (lower count n : Nat) : Bool :=
  lower == (r.addr + r.got.length) % 128 && count == r.len - r.got.length && decide (n ≤ r.len - r.got.length) &&
  (n == r.len - r.got.length || (r.addr + r.got.length + n) % rcb == 0)

/-- The data of a read whose function has stopped is discarded; a context fetch goes out again when it may. -/
def State.discardRead (s : State) (r : ReadReq) : State :=
  if r.why.again then { s with hif := { s.hif with waiting := s.hif.waiting ++ [{ r with owed := false, got := [] }] } } else s

/-- COMPLETION_RECEIVE (R262, R273, R276, R278, R282): a completion of function `f` and tag `t`, with its Lower Address, Byte Count and
status (0 success, else UR or CA). One that the link layer rejects, or that is malformed, does not reach the reads: PF0 reports it. ECRC is
checked while PF0's ECRC Check Enable is 1. -/
def execCompletionReceive (f tag lower count status : Nat) (bytes : List Byte) (poisoned : Bool) (check : TlpCheck) (s : State) :
    Host.Outcome State Fault Refusal :=
  match linkError check with
  | some e => ok (s.aer 0 e)
  | none =>
  if check = .turnOff then ok s.enterL2 else
  let s := s.tlpIn f
  let ecrcOk := check != .ecrc || !(s.cfg 0).ecrcCheck
  let s := if ecrcOk then s else (s.count HIF_cnt_LO.COUNT 7).aer 0 .ecrc
  match s.hif.reads.find? (fun r => r.fn == f && r.tag == tag) with
  | none =>
    if ecrcOk && s.hif.quar.any (fun q => q.1 == f && q.2.1 == tag) then
      let s := { s with hif := { s.hif with quar := s.hif.quar.filter (fun q => !(q.1 == f && q.2.1 == tag)) } }
      let s := ((s.count HIF_cnt_LO.COUNT 3).bump HIF_FNf_CPL.LATE f).raise 307 [i8 f, i16 tag]
      ok ((s.showTags f).retryWaiting)
    else ok (s.unexpected f)
  | some r =>
    if !ecrcOk || (status = 0 && !r.fits lower count bytes.length) then
      let s := ((s.unexpected f).dropRead f tag).quarantine f tag
      ok ((s.readFailed r 3).readOver r)
    else if poisoned then
      let s := (((s.count HIF_cnt_LO.COUNT 5).bump HIF_FNf_POISON.POISONED f).aer f .poisoned).raise 309 [i8 f]
      ok ((((s.countOwed r).dropRead f tag).readFailed r 2).readOver r)
    else if status != 0 then
      let s := (s.countOwed r).dropRead f tag
      ok ((if r.owed then s.discardRead r else s.readFailed r 4).readOver r)
    else
      let s := s.countOwed r
      let r' : ReadReq := { r with got := r.got ++ bytes }
      if r'.got.length < r.len then
        ok { s with hif := { s.hif with reads := s.hif.reads.map (fun x => if x.fn == f && x.tag == tag then r' else x) } }
      else
        let s := s.dropRead f tag
        ok ((if r.owed then s.discardRead r else s.readDone r').readOver r)

/-- The completion timeout of function `f` in ticks (R274). -/
def State.cplTimeout (s : State) (f : Nat) : Nat :=
  let us := match (s.cfg f).ctoValue with
    | 1 => 90 | 2 => 9000 | 5 => 50000 | 6 => 200000 | 9 => 850000 | 10 => 3200000 | 13 => 12000000 | 14 => 60000000 | _ => 40000
  1000 * us

/-- COMPLETION_TIMEOUT (R275 to R277): the read with tag `t` of function `f` times out. -/
def execCompletionTimeout (f tag : Nat) (s : State) : Host.Outcome State Fault Refusal :=
  match s.hif.reads.find? (fun r => r.fn == f && r.tag == tag) with
  | none => ok s
  | some r =>
    if (s.cfg f).ctoDisable then ok s else
    let s := s.advanceTo (r.issue + s.cplTimeout f)
    let s := ((s.count HIF_cnt_LO.COUNT 2).bump HIF_FNf_CPL.CTO f).cal 1363 1 { req := some f }
    let s := (s.aer f .completionTimeout).raise 306 [i8 f, i16 tag]
    let s := (s.dropRead f tag).quarantine f tag
    ok ((s.readFailed r 1).readOver r)

/-- TAG_QUARANTINE_EXPIRE (R276): QUAR_MS after its timeout the tag is free. -/
def execTagQuarantineExpire (f tag : Nat) (s : State) : Host.Outcome State Fault Refusal :=
  match s.hif.quar.find? (fun q => q.1 == f && q.2.1 == tag) with
  | none => ok s
  | some q =>
    let s := s.advanceTo (q.2.2 + 1000000 * max 1 (s.rd HIF_QUAR.QUAR_MS))
    let s := { s with hif := { s.hif with quar := s.hif.quar.filter (fun q => !(q.1 == f && q.2.1 == tag)) } }
    ok ((s.showTags f).retryWaiting)

/-- FLR_DEADLINE (R279): 100 ms after a function-level reset every tag still owed enters quarantine, and the function settles. -/
def execFlrDeadline (f : Nat) (s : State) : Host.Outcome State Fault Refusal :=
  if !s.on HIF_FNf_STATE.FLR_BUSY f || !s.on HIF_FNf_STATE.QUIESCED f then ok s else
  let s := s.advanceTo ((s.cfg f).flrTick + 100000000)
  let l := s.hif.reads.filter (fun r => r.fn == f)
  let s := forEach l (fun r s => (s.dropRead f r.tag).quarantine f r.tag) s
  ok ((((s.showTags f).retryWaiting).settle f).dmaStopped)

end Sys2Proof.Machine
end

