-- ==== Sys2Proof/Machine/Marks.lean ====
section
/-!
DEFINITION. The firing of angle marks (R77 to R80) and what hangs on it: quiet windows, frames, reports, snapshots and armed commits.
-/
namespace Sys2Proof.Machine

/-- The first cycle from `c0` on, before wrapping, whose count modulo `d` is `p` (R77). -/
def qualCycle (c0 d p : Nat) : Nat :=
  let c := c0 + (p + d - c0 % 2 ^ 32 % d) % d
  if c / 2 ^ 32 = c0 / 2 ^ 32 then c else (c0 / 2 ^ 32 + 1) * 2 ^ 32 + p

/-- The next crossing at which mark `m` fires: its cycle, and the unwrapped accumulator there (R77, R79). A mark that is not enabled,
or whose instance is Off, has none. -/
def State.markNext (s : State) (m : Nat) : Option (Nat × Nat) :=
  let n := s.rd TIM_MARKn_CFG.INSTANCE m
  let d := max 1 (s.rd TIM_MARKn_CFG.DIV m)
  let p := s.rd TIM_MARKn_CFG.PHASE m
  let off := s.rd TIM_MARKn_ANGLE.ANGLE m * 2 ^ 32
  let seen := tabGet s.tim.markFrom m
  if !s.on TIM_MARKn_CFG.ENABLE m || s.gstate n == 0 || decide (d ≤ p) then none else
  let c := if seen < seen / 2 ^ 64 * 2 ^ 64 + off then seen / 2 ^ 64 else seen / 2 ^ 64 + 1
  let c := qualCycle (max c (tabGet s.tim.markCycle m)) d p
  some (c, c * 2 ^ 64 + off)

/-- The quiet windows that a firing of mark `m` opens or shuts; an opening starts the memory work of the window (R80). -/
def State.markWindows (s : State) (m : Nat) : State :=
  forEach (List.range 8) (fun w s =>
    let isOpen := bitOf (s.rd TIM_QW_STATUS.OPEN) w
    if !s.on TIM_QWn.ENABLE w then s
    else if s.rd TIM_QWn.OPEN w = m && !isOpen then (s.wr TIM_QW_STATUS.OPEN (setBit (s.rd TIM_QW_STATUS.OPEN) w true)).memWindow
    else if s.rd TIM_QWn.CLOSE w = m && isOpen then s.wr TIM_QW_STATUS.OPEN (setBit (s.rd TIM_QW_STATUS.OPEN) w false)
    else s) s

/-- Mark `m` fires in cycle `c` of its instance (R78, R80, R185, R209, R341). -/
def State.fireMark (s : State) (m c : Nat) : State :=
  let n := s.rd TIM_MARKn_CFG.INSTANCE m
  let s : State := { s with tim := { s.tim with markCycle := tabSet s.tim.markCycle m (c + 1) } }
  let s := (s.setBitAt TIM_MARK_SEENk.SEEN m true).cal 147
  let s := if s.on TIM_MARKn_CFG.EVT m then s.raise 44 [i8 m] (some n) else s
  let s := (s.markWindows m).frameMark m s.tim.gtc
  let s := forEach (List.range 4) (fun i s =>
    if s.on PHE_RPTi_CFG.ENABLE i && s.rd PHE_RPTi_CFG.MARK i == m then s.report i n else s) s
  if s.rd RMA_TWIN_SEEK.SNAP_MARK = m then s.snapshotWrite else s

/-- The marks other than `m` that cross in the present tick and have not fired. -/
def State.sameTick (s : State) (m : Nat) : List Nat :=
  (List.range 256).filter (fun k => k != m && (match s.markNext k with
    | some (_, t) =>
      let g := s.grain (s.rd TIM_MARKn_CFG.INSTANCE k)
      decide (t ≤ g.acc) && decide (g.acc < t + g.inc)
    | none => false))

/-- The block that is Armed on mark `m`. -/
def State.armedOn (s : State) (m : Nat) : Option Blk :=
  let o := tabGet s.markOwner m
  if o = 0 then none else stagedBlk (o - 1)

/-- Mark `k` fires at a crossing of this tick, and a block other than TIM that is Armed on it commits (R39, R43). -/
def State.fireArmed (s : State) (k : Nat) : State :=
  match s.markNext k with
  | none => s
  | some (c, _) =>
    let armed := s.armedOn k
    let n := s.rd TIM_MARKn_CFG.INSTANCE k
    let s := s.fireMark k c
    match armed with
    | some b => if b = .tim then s else s.commitBlk b (some n)
    | none => s

/-- ANGLE_MARK_FIRE (R77 to R79, R39, R43): the mark fires at its crossing under the values in force, after the lower marks of the same
tick that have not fired; their own rows in that tick then find it done. When one of them carries TIM's armed set, every mark of the tick
fires under the old values, in ascending number, before TIM commits. -/
def execAngleMarkFire (m : Nat) (s : State) : Host.Outcome State Fault Refusal :=
  if 256 ≤ m then ok s else
  if s.tim.markTick = s.tick && s.tim.markDone.contains m then
    ok { s with tim := { s.tim with markDone := s.tim.markDone.filter (fun k => k != m) } }
  else
  match s.markNext m with
  | none => ok s
  | some (_, t) =>
    let g := s.grain (s.rd TIM_MARKn_CFG.INSTANCE m)
    if g.acc < t && g.inc = 0 then ok s else
    let s := if g.acc < t then s.elapse ((t - g.acc + g.inc - 1) / g.inc) else s
    let others := s.sameTick m
    let lower := others.filter (fun k => decide (k < m))
    let tim := (m :: lower).find? (fun k => s.armedOn k == some .tim)
    let early := if tim.isSome then others else lower
    let s : State := { s with tim := { s.tim with
      markTick := s.tick, markDone := (if s.tim.markTick = s.tick then s.tim.markDone else []) ++ early } }
    let s := forEach (m :: early).mergeSort (fun k s => s.fireArmed k) s
    match tim with
    | some k => ok (s.commitBlk .tim (some (s.rd TIM_MARKn_CFG.INSTANCE k)))
    | none => ok s

end Sys2Proof.Machine
end

