-- ==== Sys2Proof/Machine/Power.lean ====
section
/-!
DEFINITION. Supplies, reset pins, temperature, non-volatile refusals, and internal RAM errors (R15, R444, R458, R461 to R470, R477).
-/
namespace Sys2Proof.Machine

/-! ## Supplies (R461, R462, R467, R477) -/

/-- PWR_VAUX takes a level in mV. -/
def State.setVaux (s : State) (mv : Nat) : State := s.wr PWR_VAUX.LEVEL (min 0xFFFF mv)

/-- What a reset of the always-on domain leaves: MRAM, flash, OTP and the input levels (R467). -/
def State.clearAux (s : State) : State :=
  let b := s.boot
  { pending := s.pending, tick := s.tick, free := s.free, reply := s.reply, sent := s.sent, calFrom := s.tick
    pins := s.pins, mram := s.mram, rt := s.rt, bulk := s.bulk, fpt := { powerHold := 1 }, rma := { kek := s.rma.kek }
    tim := { aoTick := s.tick }
    pwr := { vin := s.pwr.vin, powered := s.pwr.powered, vaux := s.pwr.vaux, hot := s.pwr.hot, cause := 1 }
    boot := { b with alt := 0 } }

/-- The always-on domain is reset, and every domain below it (R467). -/
def State.auxReset (s : State) : State :=
  let n := (s.deviceReset 1).clearAux
  let n := (n.wr PWR_STATUS.STBY_PIN (b2n (!n.pins.stbyReqN))).wr PWR_STATUS.PWRFAIL (b2n (!n.pins.pwrfailN))
  let n := n.showOtp.showUpdRec
  match n.pwr.vin with | some v => n.setVin v | none => n.nvCheck

/-- VAUX_POWER_ON (R467): VAUX rises past VAUX_LOW. -/
def execVauxPowerOn (mv : Nat) (s : State) : Host.Outcome State Fault Refusal :=
  if s.pwr.vaux then ok (s.setVaux mv) else
  ok (State.setVaux ({ s with pwr := { s.pwr with vaux := true } }).auxReset mv).leaveReset

/-- VAUX_LOW (R461, R470): the always-on island is reset and every by-pass drive released. -/
def execVauxLow (mv : Nat) (s : State) : Host.Outcome State Fault Refusal :=
  if !s.pwr.vaux then ok (s.setVaux mv) else
  ok (State.setVaux ({ s with pwr := { s.pwr with vaux := false } }).auxReset mv)

/-- VIN_ON (R461, R462): the input stage runs, and the rails come into regulation. -/
def execVinOn (mv : Nat) (s : State) : Host.Outcome State Fault Refusal :=
  let s := s.setVin mv
  if s.pwr.powered && s.pstate == 2 then ok s
  else ok (State.leaveReset { s with pwr := { s.pwr with powered := true }, pins := { s.pins with pwrOk := true } })

/-- VIN_OFF (R461, R470): the device is unpowered, and every by-pass drive is released. -/
def execVinOff (mv : Nat) (s : State) : Host.Outcome State Fault Refusal :=
  let s := s.setVin mv
  if !s.pwr.powered then ok s else
  let s := s.deviceReset 2 true
  ok { s with pwr := { s.pwr with powered := false }, pins := { s.pins with pwrOk := false } }

/-- SUPPLY_TRIP (R462): rail `rail` is out of regulation for 10 µs while the device runs. `back`: it is in regulation again, so that
PWR_OK is high. -/
def execSupplyTrip (rail : Nat) (back : Bool) (s : State) : Host.Outcome State Fault Refusal :=
  if 12 ≤ rail then ok s else
  let s := if s.boot.phase != 0 && s.pstate == 0 then s.deviceFault 7 1 else s
  ok { s with pins := { s.pins with pwrOk := back } }

/-- PWR_OK_GLITCH (R477): PWR_OK was low for under 10 µs, for rail `rail`: source 15. -/
def execPwrOkGlitch (rail : Nat) (s : State) : Host.Outcome State Fault Refusal := ok (s.raise 15 [i8 rail])

/-- VIN_OUT_OF_RANGE (R477): VIN outside 6.0 V to 60 V: source 12. -/
def execVinOutOfRange (mv : Nat) (s : State) : Host.Outcome State Fault Refusal :=
  let s := s.setVin mv
  if 6000 ≤ mv && mv ≤ 60000 then ok s else ok ((s.count PWR_cnt_LO.COUNT 3).raise 12 [i16 (min 0xFFFF (mv / 10))])

/-- VAUX_WARNING (R477): VAUX below 3.1 V: source 14. -/
def execVauxWarning (mv : Nat) (s : State) : Host.Outcome State Fault Refusal :=
  let s := s.setVaux mv
  ok (if mv < 3100 then s.raise 14 [i16 mv] else s)

/-- CLK25M_IN_ABSENT (R15): the clock input is absent, or `present` again; the always-on domain runs on. The spec states
only that domain's oscillator; the model lets every other domain and the GTC run on too (DESIGN CHOICE, log 70). -/
def execClk25mInAbsent (present : Bool) (s : State) : Host.Outcome State Fault Refusal :=
  ok { s with pins := { s.pins with clk25 := present } }

/-! ## RESET_N and temperature (R463, R469) -/

/-- RESET_N_ASSERT (R469): RESET_N is low for at least 1 µs. -/
def execResetNAssert (s : State) : Host.Outcome State Fault Refusal :=
  if !s.pins.resetN then ok s else ok (State.deviceReset { s with pins := { s.pins with resetN := false } } 3)

/-- RESET_N_RELEASE (R469): the ROM may start. -/
def execResetNRelease (s : State) : Host.Outcome State Fault Refusal :=
  ok (State.leaveReset { s with pins := { s.pins with resetN := true } })

/-- PWR_TEMP takes a junction reading in 1/16 °C. -/
def State.setTemp (s : State) (t : Int) : State := s.wr PWR_TEMP.DEGC (unsgn 16 t)

/-- WARN_C in 1/16 °C, once PWR has its image value. -/
def State.warnAt (s : State) : Option Int := if s.blkReady .pwr then some (16 * (s.rd PWR_THERM.WARN_C : Int)) else none

/-- THERMAL_WARNING (R463): a junction reading; at or above WARN_C, source 13 and THERM_N. -/
def execThermalWarning (t : Int) (s : State) : Host.Outcome State Fault Refusal :=
  let s := s.setTemp t
  match s.warnAt with
  | none => ok s
  | some w =>
    if t < w then ok s else
    let s := { s with pins := { s.pins with thermN := false } }
    if s.pwr.warned then ok s
    else ok (((s.setPwr { s.pwr with warned := true }).count PWR_cnt_LO.COUNT 4).raise 13 [i16 (unsgn 16 (t / 16))])

/-- THERMAL_WARNING_END (R463): a reading below WARN_C releases THERM_N; 5 °C below, the warning may be raised again. -/
def execThermalWarningEnd (t : Int) (s : State) : Host.Outcome State Fault Refusal :=
  let s := s.setTemp t
  match s.warnAt with
  | none => ok s
  | some w =>
    let s := if t < w then { s with pins := { s.pins with thermN := true } } else s
    ok (if t ≤ w - 80 then s.setPwr { s.pwr with warned := false } else s)

/-- THERMAL_TRIP (R463): a reading of 165 °C is a device fault, and holds the device in reset. -/
def execThermalTrip (t : Int) (s : State) : Host.Outcome State Fault Refusal :=
  let s := s.setTemp t
  if t < 16 * 165 then ok s else
  let s := if s.boot.phase != 0 then s.deviceFault 8 1 else s
  ok (s.setPwr { s.pwr with hot := true })

/-- THERMAL_TRIP_CLEAR (R463): at 140 °C the hold ends. -/
def execThermalTripClear (t : Int) (s : State) : Host.Outcome State Fault Refusal :=
  let s := s.setTemp t
  if 16 * 140 < t then ok s else ok (s.setPwr { s.pwr with hot := false }).leaveReset

/-! ## Refusals of non-volatile writes (R464, R465) -/

/-- NV_REFUSAL_START (R464): PWRFAIL_N is asserted (`pin`), or VIN falls to `mv`. -/
def execNvRefusalStart (pin : Bool) (mv : Nat) (s : State) : Host.Outcome State Fault Refusal :=
  if pin then ok (State.wr { s with pins := { s.pins with pwrfailN := false } } PWR_STATUS.PWRFAIL 1).nvCheck
  else ok (s.setVin mv)

/-- What waited for the end of a refusal goes on: MRAM writes and commits of STG (R310), the journal with source 6 (R454), the update
engine (R425). -/
def State.nvResume (s : State) : State :=
  let s := s.showSpiWp
  let l := s.stg.nvWait
  let s : State := { s with stg := { s.stg with nvWait := [], heldTold := false } }
  let s := forEach l (fun p s => s.mramWrite p.1 p.2) s
  let s := forEach (s.stg.cmds.filter (fun c => c.phase == 2)) (fun c s => s.tryCommit c.id) s
  let s := s.stgSettle.startJournal
  let n := s.evt.jlost
  let s := if n = 0 then s else State.raise { s with evt := { s.evt with jlost := 0 } } 6 [i32 n]
  ((s.setUpd { s.boot.upd with told := false }).wr BOOT_UPD_STATUS.HELD 0).updGo.showSpiWp

/-- NV_REFUSAL_END (R464): from tick `since` VIN has been `mv` and PWRFAIL_N deasserted; 10 ms without a break end the refusal,
with source 9. -/
def execNvRefusalEnd (mv since : Nat) (s : State) : Host.Outcome State Fault Refusal :=
  let s := s.advanceTo since
  let s := State.setVin (State.wr { s with pins := { s.pins with pwrfailN := true } } PWR_STATUS.PWRFAIL 0) mv
  match s.pwr.clearFrom with
  | none => ok s
  | some t =>
    let s := s.advanceTo (t + 10000000)
    let us := (s.tick - s.pwr.nvFrom) / 1000
    let s := (s.wr PWR_STATUS.NV_REFUSED 0).setPwr { s.pwr with clearFrom := none }
    ok (s.raise 9 [i32 (min (2 ^ 32 - 1) us)]).nvResume

/-! ## Internal RAM errors (R458) -/

/-- The last error in EVT_RAM_ERR. -/
def State.noteRam (s : State) (ue : Bool) (blk idx : Nat) : State :=
  ((s.wr EVT_RAM_ERR.UE (b2n ue)).wr EVT_RAM_ERR.BLOCK blk).wr EVT_RAM_ERR.INDEX idx

/-- An item restarts as a commit that changes its key fields would have it: R166, R188, R210, R235, R240, R295, R328. A queue keeps
nothing that a commit would clear (R360). -/
def State.restartItem (s : State) (x : RamState) : State :=
  match x with
  | .corrected _ => s
  | .blockWide => s
  | .subscription i => s.idleSub i
  | .bay b => if s.bayRuns b then ((s.endBay b 2).beginBay b).raise 224 [i8 b, i8 1, i8 1, i8 2] else s
  | .channel c => if chValid (s.chE c) then forEach (s.grpsOf c) (fun g s => s.grpRestart g) (s.chRestartNow c) else s
  | .group g => s.grpRestart g
  | .comparator c =>
    if !cmpValid (s.cmpE c) then s else
    let fresh := if s.cmpState c = 1 then [] else [c]
    (s.cmpRestart c).evalTerms fresh (fun _ => none) fresh
  | .term t => if termValid (s.termE t) then s.termStart t else s
  | .publication p => if s.on TRP_PUBp_CFG.ENABLE p then s.pubStart p else s
  | .gooseSub g => s.gsubRestart g
  | .queue _ => s
  | .ring g => ((s.cutRing g).endCut g).kickRings (s.rd QMG_RINGg_DESC.FN g)
  | .context i =>
    match s.rma.pinned.find? (fun p => p.1 == (tabGet s.rma.slots i).qp) with
    | some p => s.pinReset p.1 p.1 p.2
    | none => s.setSlot i {}

/-- Index of the item, as source 2 carries it. -/
def ramIndex : RamState → Nat
  | .corrected i => i | .blockWide => 0 | .subscription i => i | .bay i => i | .channel i => i | .group i => i | .comparator i => i
  | .term i => i | .publication i => i | .gooseSub i => i | .queue i => i | .ring i => i | .context i => i

/-- An ECC error in a HIF buffer is also an internal error under AER (R282), which PF0 reports. -/
def State.hifRamError (s : State) (blk : Nat) (what : RamState) : State :=
  if blk != Blk.hif.bit then s else
  match what with
  | .corrected _ => s.aer 0 .correctedInternal
  | _ => s.aer 0 .uncorrectableInternal

/-- The item that an error makes invalid restarts; a job whose data a HIF buffer held fails with Internal Error (R282, R293). -/
def State.ramRestart (s : State) (blk : Nat) (x : RamState) : State :=
  match x with
  | .ring g =>
    if blk != Blk.hif.bit then s.restartItem x else
    (match s.headJob g with | some j => s.finishJob g j.idx 3 | none => s)
  | x => s.restartItem x

/-- INTERNAL_RAM_ERROR (R282, R458): an error in an internal RAM of the block with readiness bit `blk`. -/
def execInternalRamError (blk : Nat) (what : RamState) (s : State) : Host.Outcome State Fault Refusal :=
  if 22 ≤ blk then ok s else
  let s := s.hifRamError blk what
  match what with
  | .corrected i => ok ((s.noteRam false blk i).raise 3 [i8 blk])
  | .blockWide => ok ((s.noteRam true blk 0).deviceFault 6 blk)
  | x => ok (((s.noteRam true blk (ramIndex x)).ramRestart blk x).raise 2 [i8 blk, i16 (ramIndex x)])

end Sys2Proof.Machine
end

