-- ==== Sys2Proof/Machine/Queues.lean ====
section
/-!
DEFINITION. Rings (chapter 13): doorbells, taking entries, interrupts, the admin ring and its commands, and the jobs of the network
and measurement functions.
-/
namespace Sys2Proof.Machine

/-! ## Doorbells and fetching (R289 to R291) -/

/-- Fetch entry `idx` of ring g again; its old copy goes (R290). -/
def State.refetch (s : State) (g idx : Nat) : State :=
  let r := s.ring g
  let s := s.setRing g { r with copies := r.copies.filter (fun c => c.1 != idx) }
  let s := (((s.ringCount g 2 1).ringCount g 4 64).count QMG_cnt_LO.COUNT 2).cal 578 1 { req := some (s.rd QMG_RINGg_DESC.FN g) }
  s.dmaRead (s.rd QMG_RINGg_DESC.FN g) (s.entryAddr g idx) 64 (.entry g idx)

/-- Does a copy of an entry show OWN = 1? -/
def copyOwned (c : Nat × List Nat) : Bool := bitOf (qwAt c.2 0) 63

/-- Does entry count `idx` lie below TAIL of ring g, and not yet taken? -/
def State.belowTail (s : State) (g idx : Nat) : Bool :=
  decide ((idx + 2 ^ 32 - s.rd QMG_RINGg_CONS.CONS g) % 2 ^ 32 < s.ringDue g)

/-- DOORBELL_WRITE (R266, R289, R291): a write at offset `off` of doorbell page `n` of function `f`; `full` when all four bytes are
written. In the pages that a System Page Size adds to a VF's doorbell BAR it is discarded. -/
def execDoorbellWrite (f n off : Nat) (full : Bool) (val : Word) (s : State) : Host.Outcome State Fault Refusal :=
  let s := s.tlpIn f
  if !s.memOpen f then ok (s.aer f .unsupportedRequest)
  else if 8 ≤ f && doorbellSize (s.vfAllow (s.pfOf f)) ≤ 4096 * n then ok s
  else if off != 0 || !full || s.rd QMG_ADM_ALLOW.ALLOW f ≤ n then ok s.bad else
  match s.findRing f n with
  | none => ok ((s.count QMG_cnt_LO.COUNT 4).raise 321 [i8 f, i16 n])
  | some g =>
    if (s.ring g).destroying then ok ((s.count QMG_cnt_LO.COUNT 4).raise 321 [i8 f, i16 n]) else
    let r := s.ring g
    let old := r.copies
    let s := s.setRing g { r with tail := val.toNat }
    let st := s.rd QMG_RINGg_DESC.STATE g
    if s.ringSize g < s.ringDue g && (st = 1 || st = 2) then ok (s.functionFault f g 7 none)
    else if st != 2 then ok s
    else
      let again := old.filter (fun c => !copyOwned c && s.belowTail g c.1 && r.ownFrom.isNone)
      let s := forEach again (fun c s => s.refetch g c.1) s
      ok (s.fetchEntries g)

/-- Take owned entries in ring order while they lie below TAIL (R290, R291). -/
def State.takeEntries (s : State) (g : Nat) : Nat → State
  | 0 => s
  | fuel + 1 =>
    let r := s.ring g
    let cons := s.rd QMG_RINGg_CONS.CONS g
    if s.rd QMG_RINGg_DESC.STATE g != 2 || r.destroying || s.ringDue g = 0 then s else
    match r.copies.find? (fun c => c.1 == cons) with
    | none => s
    | some c =>
      if !copyOwned c then
        if r.ownFrom.isSome then s else
        (s.setRing g { r with ownFrom := some s.tick, ownEnd := s.tick + 1000 * max 1 (s.rd QMG_CFG.OWN_WAIT_US) }).refetch g cons
      else
        let f := s.rd QMG_RINGg_DESC.FN g
        let s := s.setRing g { r with copies := r.copies.filter (fun c => c.1 != cons), ownFrom := none }
        let s := s.setCons g ((cons + 1) % 2 ^ 32)
        let s := ((s.ringCount g 0 1).count QMG_cnt_LO.COUNT 0).cal 576 1 { req := some f }
        let code := entryCode (s.pfOf f) (s.rd QMG_RINGg_DESC.TYPE g) c.2
        if code != 0 then s.functionFault f g code (some { idx := cons, qw := c.2 })
        else (s.startJob g cons c.2).takeEntries g fuel

/-- ENTRY_FETCH (R290, R291, R300): the entry copies of ring g that have arrived are checked and taken. -/
def execEntryFetch (g : Nat) (s : State) : Host.Outcome State Fault Refusal :=
  let s := s.takeEntries g ((s.ring g).copies.length + 1)
  ok (s.fetchEntries g)

/-- ENTRY_REFETCH (R290): every 1 µs an entry below TAIL that showed OWN = 0 is fetched again. -/
def execEntryRefetch (g : Nat) (s : State) : Host.Outcome State Fault Refusal :=
  let r := s.ring g
  match r.ownFrom with
  | none => ok s
  | some t =>
    let cons := s.rd QMG_RINGg_CONS.CONS g
    if s.rd QMG_RINGg_DESC.STATE g = 2 && r.copies.any (fun c => c.1 == cons && !copyOwned c) then
      ok ((s.advanceTo (t + ((s.tick - t) / 1000 + 1) * 1000)).refetch g cons)
    else ok s

/-- OWN_WAIT_EXPIRE (R290, R300): the entry at CONS is still not owned after OWN_WAIT_US, so it is malformed. -/
def execOwnWaitExpire (g : Nat) (s : State) : Host.Outcome State Fault Refusal :=
  let r := s.ring g
  if r.ownFrom.isNone || s.rd QMG_RINGg_DESC.STATE g != 2 then ok s else
  let s := s.advanceTo r.ownEnd
  ok (s.functionFault (s.rd QMG_RINGg_DESC.FN g) g 6 (some { idx := s.rd QMG_RINGg_CONS.CONS g }))

/-- JOB_COMPLETE (R292, R294): the oldest started job of ring g that has all its data ends with an outcome. -/
def execJobComplete (g status detail len result : Nat) (s : State) : Host.Outcome State Fault Refusal :=
  match s.headJob g with
  | none => ok s
  | some j => if j.ready then ok (s.finishJob g j.idx status detail len result) else ok s

/-- RING_INTERRUPT_TIMER (R294): ITIME_US after the first completion not yet signalled the vector is sent. -/
def execRingInterruptTimer (g : Nat) (s : State) : Host.Outcome State Fault Refusal :=
  let r := s.ring g
  if r.unsig = 0 || r.itime = 0 || !r.ien || s.on HIF_FNf_STATE.FAULT (s.rd QMG_RINGg_DESC.FN g) then ok s
  else ok ((s.advanceTo (r.unsigFrom + 1000 * r.itime)).ringSignal g)

/-! ## The admin ring (R298) -/

/-- Begin to destroy ring g: it takes no more entries, and it is Absent once its started jobs have completed (R295, R297); a Quiesced ring
first becomes Idle, and a ring in Fault stays until the function-level reset. -/
def State.beginDestroy (s : State) (g : Nat) : State :=
  if s.rd QMG_RINGg_DESC.STATE g = 4 then s else
  let r := s.ring g
  (s.setRing g { r with destroying := true, copies := [] }).endDestroy g

/-- A ring comes into being, Idle, and runs when its function can master (R295). -/
def State.makeRing (s : State) (g f n type log2 : Nat) (r : RingSt) : State :=
  let s := s.setWord QMG_RINGg_DESC.STATE (BitVec.ofNat 32 (type * 2 ^ 27 + log2 * 2 ^ 22 + f * 2 ^ 14 + n)) g
  let s := (s.setCons g 0).setRing g r
  ((s.setRingState g 1).showRings).kickRings f

/-- ADMIN_RING_ENABLE (R295, R298): a write of QMG_ADM_CFG of function `f`. The admin ring reads nothing ahead and interrupts at
every counted completion (DEDUCED, log 28: it has no fields for either). -/
def execAdminRingEnable (f : Nat) (val : Word) (s : State) : Host.Outcome State Fault Refusal :=
  let v := val.toNat
  let log2 := bitsOf v 16 5
  let vector := bitsOf v 0 11
  let was := s.on QMG_ADM_CFG.ENABLE f
  if was then
    let s := if log2 != s.rd QMG_ADM_CFG.LOG2 f || vector != s.rd QMG_ADM_CFG.VECTOR f then s.bad else s
    if bitOf v 31 then ok s else
    let s := s.wr QMG_ADM_CFG.ENABLE 0 f
    match s.findRing f 0 with
    | some g => ok (s.beginDestroy g)
    | none => ok s
  else if !bitOf v 31 then ok ((s.wr QMG_ADM_CFG.LOG2 log2 f).wr QMG_ADM_CFG.VECTOR vector f)
  else
    let base := s.rd QMG_ADM_BASE_LO.BASE f + s.rd QMG_ADM_BASE_HI.BASE f * 2 ^ 32
    if log2 < 6 || 16 < log2 || base % 4096 != 0 then ok s.bad else
    match s.freeRing, s.findRing f 0 with
    | some g, none =>
      let s := ((s.wr QMG_ADM_CFG.LOG2 log2 f).wr QMG_ADM_CFG.VECTOR vector f).wr QMG_ADM_CFG.ENABLE 1 f
      ok (s.makeRing g f 0 0 log2 { base := base, vector := vector, ien := true, icount := 1 })
    | _, _ => ok s.bad

/-! ## Common admin commands (R299) -/

/-- NO_OP (R299). -/
def execNoOp (g : Nat) (s : State) : Host.Outcome State Fault Refusal :=
  match s.jobOf g 0 with
  | none => ok s
  | some j => ok (s.finishJob g j.idx 0)

/-- The opcodes that function `f` takes on any ring, as a number. -/
def opBitmap (role : Nat) : Nat :=
  ((List.range 256).map (fun op => b2n ([0, 1, 2].any (fun t => (opFrags role t op).isSome)) * 2 ^ op)).sum

/-- The identity block of function `f` (R299). -/
def State.identity (s : State) (f : Nat) : List Byte :=
  let b := leBytes 2 f ++ leBytes 1 (s.pfOf f) ++ leBytes 1 0x10 ++ leBytes 2 (s.rd QMG_ADM_ALLOW.ALLOW f) ++
    leBytes 2 (s.ringsOf f).length ++ leBytes 2 (s.rd HIF_FNf_MSIX.FIRST f) ++ leBytes 2 (s.rd HIF_FNf_MSIX.SIZE f + 1) ++
    leBytes 2 4096 ++ leBytes 1 16 ++ leBytes 1 0 ++ leBytes 32 (opBitmap (s.pfOf f))
  b ++ List.replicate (4096 - b.length) 0#8

/-- A command that writes `data` into its buffer: Buffer Short where it does not fit (R293). -/
def State.answerJob (s : State) (g : Nat) (j : Job) (data : List Byte) (result : Nat := 0) : State :=
  if j.room < data.length then s.finishJob g j.idx 1 0 data.length else
  let s := s.writeFrags (s.rd QMG_RINGg_DESC.FN g) (s.ring g).ro j.frags data
  (s.ringCount g 5 data.length).finishJob g j.idx 0 0 data.length result

/-- IDENTIFY (R299). -/
def execIdentify (g : Nat) (s : State) : Host.Outcome State Fault Refusal :=
  match s.jobOf g 1 with
  | none => ok s
  | some j => ok (s.answerJob g j (s.identity (s.rd QMG_RINGg_DESC.FN g)))

/-- Does role `role` take rings of TYPE `type`? -/
def roleTakes (role type : Nat) : Bool :=
  match role, type with
  | 0, 2 => true | 1, 1 => true | 1, 2 => true | 2, 2 => true | 4, 1 => true | 4, 2 => true | _, _ => false

/-- Does the role of function `f` accept a BIND (R299, R338, R350, R456)? PF0's event ring is at most one per device. -/
def State.bindOk (s : State) (f type bind : Nat) : Bool :=
  match s.pfOf f with
  | 0 => bind == 0 && s.eventRing.isNone
  | 1 => if type = 1 then decide (bind ≤ 4090) && s.qKind bind == 1
         else decide (bind ≤ 4090) && s.qKind bind == 2 && (s.ringOfQueue bind).isNone
  | 2 => bind == 0
  | 4 => decide (bind < 65536) && tabGet s.rma.owner bind == f + 1
  | _ => false

/-- The byte offset of the first field that Create Ring refuses with Invalid Field, 0 when none (R299). -/
def State.createRefused (s : State) (f : Nat) (q : List Nat) : Nat :=
  let p := qwAt q 1
  let n := bitsOf p 0 14
  if n = 0 || s.rd QMG_ADM_ALLOW.ALLOW f ≤ n then 8
  else if bitsOf p 16 5 < 6 || 16 < bitsOf p 16 5 then 10
  else if !roleTakes (s.pfOf f) (bitsOf p 22 2) then 10
  else if 16 < bitsOf p 25 5 then 11
  else if !s.bindOk f (bitsOf p 22 2) (bitsOf p 32 32) then 12
  else if qwAt q 6 % 4096 != 0 then 48
  else 0

/-- A refused Create Ring is counted (R299). -/
def State.createFail (s : State) : State := s.count QMG_cnt_LO.COUNT 7

/-- CREATE_RING (R285, R299, R350). -/
def execCreateRing (g : Nat) (s : State) : Host.Outcome State Fault Refusal :=
  match s.jobOf g 2 with
  | none => ok s
  | some j =>
    let f := s.rd QMG_RINGg_DESC.FN g
    let p := qwAt j.qw 1
    let q7 := qwAt j.qw 7
    let n := bitsOf p 0 14
    let off := s.createRefused f j.qw
    if off != 0 then ok (s.createFail.finishJob g j.idx 4 off)
    else if (s.findRing f n).isSome then ok (s.createFail.finishJob g j.idx 5)
    else
      match s.freeRing with
      | none => ok ((s.createFail.raise 324 [i8 f]).finishJob g j.idx 6 1)
      | some h =>
        if s.rd HIF_FNf_MSIX.SIZE f < bitsOf q7 0 11 then ok ((s.createFail.raise 324 [i8 f]).finishJob g j.idx 6 2)
        else
          let s := s.makeRing h f n (bitsOf p 22 2) (bitsOf p 16 5)
            { base := qwAt j.qw 6, ro := bitOf p 24, prefetch := bitsOf p 25 5, bind := bitsOf p 32 32, vector := bitsOf q7 0 11
              ien := bitOf q7 11, icount := bitsOf q7 16 12, itime := bitsOf q7 32 16 }
          ok (s.finishJob g j.idx 0 0 0 h)

/-- DESTROY_RING (R295, R297, R299): the ring takes no more entries; the command completes once its started jobs have. -/
def execDestroyRing (g : Nat) (s : State) : Host.Outcome State Fault Refusal :=
  match s.jobOf g 3 with
  | none => ok s
  | some j =>
    let n := bitsOf (qwAt j.qw 1) 0 14
    if n = 0 then ok (s.finishJob g j.idx 4 8) else
    match s.findRing (s.rd QMG_RINGg_DESC.FN g) n with
    | none => ok (s.finishJob g j.idx 5)
    | some h => ok (s.beginDestroy h)

/-- MODIFY_RING (R299). -/
def execModifyRing (g : Nat) (s : State) : Host.Outcome State Fault Refusal :=
  match s.jobOf g 4 with
  | none => ok s
  | some j =>
    let f := s.rd QMG_RINGg_DESC.FN g
    let q7 := qwAt j.qw 7
    match s.findRing f (bitsOf (qwAt j.qw 1) 0 14) with
    | none => ok (s.finishJob g j.idx 5)
    | some h =>
      if s.rd HIF_FNf_MSIX.SIZE f < bitsOf q7 0 11 then ok (s.finishJob g j.idx 6 2) else
      let r := s.ring h
      let s := s.setRing h { r with ro := bitOf (qwAt j.qw 1) 24, vector := bitsOf q7 0 11, ien := bitOf q7 11
                                    icount := bitsOf q7 16 12, itime := bitsOf q7 32 16 }
      ok (s.finishJob g j.idx 0)

/-- QUERY_RING (R299). -/
def execQueryRing (g : Nat) (s : State) : Host.Outcome State Fault Refusal :=
  match s.jobOf g 5 with
  | none => ok s
  | some j =>
    match s.findRing (s.rd QMG_RINGg_DESC.FN g) (bitsOf (qwAt j.qw 1) 0 14) with
    | none => ok (s.finishJob g j.idx 5)
    | some h =>
      let res := s.rd QMG_RINGg_DESC.STATE h + s.rd QMG_RINGg_DESC.LOG2 h * 2 ^ 3 + s.rd QMG_RINGg_DESC.TYPE h * 2 ^ 8
      ok (s.finishJob g j.idx 0 0 (s.rd QMG_RINGg_CONS.CONS h) res)

/-- RING_COUNTERS (R299). -/
def execRingCounters (g : Nat) (s : State) : Host.Outcome State Fault Refusal :=
  match s.jobOf g 6 with
  | none => ok s
  | some j =>
    match s.findRing (s.rd QMG_RINGg_DESC.FN g) (bitsOf (qwAt j.qw 1) 0 14) with
    | none => ok (s.finishJob g j.idx 5)
    | some h => ok (s.answerJob g j ((s.ring h).cnt.flatMap (leBytes 8) ++ leBytes 8 0))

/-! ## Jobs of PF1 and PF2 (R299, R351) -/

/-- TRANSMIT (R299): the frame of the oldest job of ring g goes to the egress queue of its BIND. -/
def execTransmit (g : Nat) (s : State) : Host.Outcome State Fault Refusal :=
  if s.rd QMG_RINGg_DESC.TYPE g != 1 || s.pfOf (s.rd QMG_RINGg_DESC.FN g) != 1 then ok s else
  match s.jobOf g 0x80 with
  | none => ok s
  | some j =>
    let q := (s.ring g).bind
    let s := (s.schEnqueue q { bytes := j.bytes, port := 40, cls := s.qClass q }).1
    ok (s.finishJob g j.idx 0)

/-- RECEIVE_BUFFER (R299, R351): the entry is posted to receive one frame. -/
def execReceiveBuffer (g : Nat) (s : State) : Host.Outcome State Fault Refusal :=
  if s.rd QMG_RINGg_DESC.TYPE g = 2 && s.pfOf (s.rd QMG_RINGg_DESC.FN g) = 1 then ok (s.postBuffer g 0x81) else ok s

/-- MEASUREMENT_BUFFER (R299, R187): the entry is posted to receive a cycle frame or a report. -/
def execMeasurementBuffer (g : Nat) (s : State) : Host.Outcome State Fault Refusal :=
  if s.rd QMG_RINGg_DESC.TYPE g = 2 && s.pfOf (s.rd QMG_RINGg_DESC.FN g) = 2 then ok (s.postBuffer g 0x80) else ok s

end Sys2Proof.Machine
end

