-- ==== Sys2Proof/Machine/Tap.lean ====
section
/-!
DEFINITION. The JTAG port: JTAG_MODE, and the TAP of IEEE 1149.1 with its instruction register (R488).
-/
namespace Sys2Proof.Machine

/-- The state that follows a rising edge of TCK with level `tms`. -/
def TapState.next (t : TapState) (tms : Bool) : TapState :=
  match t, tms with
  | .testLogicReset, true => .testLogicReset
  | .testLogicReset, false => .runTest
  | .runTest, true => .selectDr
  | .runTest, false => .runTest
  | .selectDr, true => .selectIr
  | .selectDr, false => .captureDr
  | .captureDr, true => .exit1Dr
  | .captureDr, false => .shiftDr
  | .shiftDr, true => .exit1Dr
  | .shiftDr, false => .shiftDr
  | .exit1Dr, true => .updateDr
  | .exit1Dr, false => .pauseDr
  | .pauseDr, true => .exit2Dr
  | .pauseDr, false => .pauseDr
  | .exit2Dr, true => .updateDr
  | .exit2Dr, false => .shiftDr
  | .updateDr, true => .selectDr
  | .updateDr, false => .runTest
  | .selectIr, true => .testLogicReset
  | .selectIr, false => .captureIr
  | .captureIr, true => .exit1Ir
  | .captureIr, false => .shiftIr
  | .shiftIr, true => .exit1Ir
  | .shiftIr, false => .shiftIr
  | .exit1Ir, true => .updateIr
  | .exit1Ir, false => .pauseIr
  | .pauseIr, true => .exit2Ir
  | .pauseIr, false => .pauseIr
  | .exit2Ir, true => .updateIr
  | .exit2Ir, false => .shiftIr
  | .updateIr, true => .selectDr
  | .updateIr, false => .runTest

/-- The codes of the instructions (R488); any other selects the bypass register (PRESUMED, log 72). -/
def tapExtest : Nat := 0x00
def tapIdcode : Nat := 0x01
def tapSample : Nat := 0x02

/-- The IDCODE: version 1, part 0x5128, manufacturer all ones (R488). -/
def tapId : Nat := 0x15128FFF

/-- `n` bits of a number, lowest first. -/
def bitList (n v : Nat) : List Bool := (List.range n).map (bitOf v)

/-- One shift: TDI enters at the far end, and the lowest bit leaves. -/
def shiftIn (l : List Bool) (tdi : Bool) : List Bool := l.drop 1 ++ [tdi]

/-- What Capture-DR loads into the selected data register; the cells of the boundary-scan register take what stands on the balls, which
the model leaves free. -/
def State.tapCapture (s : State) : State × List Bool :=
  let i := s.pins.tap.ir
  if i = tapIdcode then (s, bitList 32 tapId)
  else if i = tapExtest || i = tapSample then
    ({ s with free := s.free + Config.boundaryCells }, (List.range Config.boundaryCells).map (fun k => bitOf (Config.freeNat (s.free + k)) 0))
  else (s, [false])

/-- Put the TAP. -/
def State.setTap (s : State) (t : TapSt) : State := { s with pins := { s.pins with tap := t } }

/-- The TAP is reset: the instruction is IDCODE, and TDO is not driven. -/
def TapSt.reset (t : TapSt) : TapSt := { t with st := .testLogicReset, ir := tapIdcode, tdo := none }

/-- What the rising edge of TCK does in the present state: capture or shift. -/
def State.tapRise (s : State) (tdi : Bool) : State :=
  let t := s.pins.tap
  match t.st with
  | .captureDr => let p := s.tapCapture; p.1.setTap { t with dr := p.2 }
  | .shiftDr => s.setTap { t with dr := shiftIn t.dr tdi }
  | .captureIr => s.setTap { t with irShift := bitList 8 1 }
  | .shiftIr => s.setTap { t with irShift := shiftIn t.irShift tdi }
  | _ => s

/-- The number that a list of bits spells, lowest first. -/
def bitNat : List Bool → Nat
  | [] => 0
  | b :: t => b2n b + 2 * bitNat t

/-- What the falling edge does in the new state: update, reset, and TDO in the Shift states. -/
def TapSt.fall (t : TapSt) : TapSt :=
  match t.st with
  | .updateIr => { t with ir := bitNat t.irShift, tdo := none }
  | .updateDr => if t.ir = tapExtest || t.ir = tapSample then { t with cells := t.dr, tdo := none } else { t with tdo := none }
  | .testLogicReset => t.reset
  | .shiftDr => { t with tdo := t.dr.head? }
  | .shiftIr => { t with tdo := t.irShift.head? }
  | _ => { t with tdo := none }

/-- One cycle of TCK. JTAG_TRST_N low holds the TAP in reset; with JTAG_MODE 1 the pins serve Spindle debug access instead. -/
def State.tapClock (s : State) (tms tdi : Bool) : State :=
  if !s.pins.trstN || s.pins.jtagMode then s else
  let s := s.tapRise tdi
  let t := s.pins.tap
  s.setTap (TapSt.fall { t with st := t.st.next tms })

/-- DEBUG_PORT_ATTACH (R444, R488): what happens at the JTAG pins. A change of JTAG_MODE raises source 496. -/
def execDebugPortAttach (op : JtagOp) (s : State) : Host.Outcome State Fault Refusal :=
  match op with
  | .mode b =>
    if s.pins.jtagMode == b then ok s
    else ok (State.raise { s with pins := { s.pins with jtagMode := b } } 496 [i8 (b2n b)])
  | .trst high =>
    let s : State := { s with pins := { s.pins with trstN := high } }
    ok (if high then s else s.setTap s.pins.tap.reset)
  | .tck tms tdi => ok (s.tapClock tms tdi)

end Sys2Proof.Machine
end

