-- ==== Sys2Proof/Machine/Dispatch.lean ====
section
/-!
DEFINITION. One arm per command: each calls its own meaning, or is rejected by name.
-/
namespace Sys2Proof.Machine

/-- What a command does to everything but the queue of waiting commands. -/
def exec (i : Instr) (s : State) : Host.Outcome State Fault Refusal :=
  match i with
  | .registerWrite who addr val => Sys2Proof.Machine.execRegisterWrite who addr val s
  | .unassignedAccess who addr read => Sys2Proof.Machine.execUnassignedAccess who addr read s
  | .refusedSizeAccess read => Sys2Proof.Machine.execRefusedSizeAccess read s
  | .splitLoRead who addr => Sys2Proof.Machine.execSplitLoRead who addr s
  | .splitLoWrite who addr val => Sys2Proof.Machine.execSplitLoWrite who addr val s
  | .splitHiWrite who addr val => Sys2Proof.Machine.execSplitHiWrite who addr val s
  | .glbSyncRead => Sys2Proof.Machine.execGlbSyncRead s
  | .stageOpen who blk => Sys2Proof.Machine.execStageOpen who blk s
  | .stageAbort who blk => Sys2Proof.Machine.execStageAbort who blk s
  | .stageCommitNow who blk => Sys2Proof.Machine.execStageCommitNow who blk s
  | .stageArm who blk => Sys2Proof.Machine.execStageArm who blk s
  | .rwlWrite who addr val => Sys2Proof.Machine.execRwlWrite who addr val s
  | .stageTimeout blk => Sys2Proof.Machine.execStageTimeout blk s
  | .windowPageSelect win page => Sys2Proof.Machine.execWindowPageSelect win page s
  | .windowWordWrite who off val => Sys2Proof.Machine.execWindowWordWrite who off val s
  | .windowFirstWordRead who off => Sys2Proof.Machine.execWindowFirstWordRead who off s
  | .gtcNsRead who => Sys2Proof.Machine.execGtcNsRead who s
  | .grainAngleRead who inst => Sys2Proof.Machine.execGrainAngleRead who inst s
  | .ptpOfsSecWrite who val => Sys2Proof.Machine.execPtpOfsSecWrite who val s
  | .ptpOfsUpdate who val => Sys2Proof.Machine.execPtpOfsUpdate who val s
  | .ppsInEdge rising t => Sys2Proof.Machine.execPpsInEdge rising t s
  | .ppsPulseMissed => Sys2Proof.Machine.execPpsPulseMissed s
  | .irigFrame good t doy sod yy halfHours lsp tq => Sys2Proof.Machine.execIrigFrame good t doy sod yy halfHours lsp tq s
  | .irigFrameMissed => Sys2Proof.Machine.execIrigFrameMissed s
  | .ptpUpdateTimeout => Sys2Proof.Machine.execPtpUpdateTimeout s
  | .holdoverExpire => Sys2Proof.Machine.execHoldoverExpire s
  | .freqAdjWrite who val => Sys2Proof.Machine.execFreqAdjWrite who val s
  | .aoCounterCorrect => Sys2Proof.Machine.execAoCounterCorrect s
  | .ppsOutPulse => Sys2Proof.Machine.execPpsOutPulse s
  | .ppsOutPulseEnd => Sys2Proof.Machine.execPpsOutPulseEnd s
  | .oscClockLost ocxo => Sys2Proof.Machine.execOscClockLost ocxo s
  | .grainRefGap n => Sys2Proof.Machine.execGrainRefGap n s
  | .grainCycleWrap n => Sys2Proof.Machine.execGrainCycleWrap n s
  | .grainCoastFlag n => Sys2Proof.Machine.execGrainCoastFlag n s
  | .grainNominalRevert n => Sys2Proof.Machine.execGrainNominalRevert n s
  | .angleMarkFire mark => Sys2Proof.Machine.execAngleMarkFire mark s
  | .portLockAcquired port => Sys2Proof.Machine.execPortLockAcquired port s
  | .portAnComplete port speed => Sys2Proof.Machine.execPortAnComplete port speed s
  | .portAnTimeout port => Sys2Proof.Machine.execPortAnTimeout port s
  | .portLinkLost port cause => Sys2Proof.Machine.execPortLinkLost port cause s
  | .portResetComplete port => Sys2Proof.Machine.execPortResetComplete port s
  | .frameReceive port bytes marks startTick endTick => Sys2Proof.Machine.execFrameReceive port bytes marks startTick endTick s
  | .portTxBoundary port => Sys2Proof.Machine.execPortTxBoundary port s
  | .ddEntryExpire p mac => Sys2Proof.Machine.execDdEntryExpire p mac s
  | .supervisionTx p => Sys2Proof.Machine.execSupervisionTx p s
  | .loopCheckTimeout p => Sys2Proof.Machine.execLoopCheckTimeout p s
  | .loopCheckRetry p => Sys2Proof.Machine.execLoopCheckRetry p s
  | .bypassSettleExpire p => Sys2Proof.Machine.execBypassSettleExpire p s
  | .bypassSwitchTimeout p => Sys2Proof.Machine.execBypassSwitchTimeout p s
  | .keeperKick p => Sys2Proof.Machine.execKeeperKick p s
  | .keeperExpire p => Sys2Proof.Machine.execKeeperExpire p s
  | .pairReset p => Sys2Proof.Machine.execPairReset p s
  | .forceRelWrite p val => Sys2Proof.Machine.execForceRelWrite p val s
  | .fabricDegrade m lane => Sys2Proof.Machine.execFabricDegrade m lane s
  | .fabricRestore m success => Sys2Proof.Machine.execFabricRestore m success s
  | .fabricLaneLost m lane => Sys2Proof.Machine.execFabricLaneLost m lane s
  | .fabricDegradeDwell m => Sys2Proof.Machine.execFabricDegradeDwell m s
  | .pfcWatchdogExpire port prio => Sys2Proof.Machine.execPfcWatchdogExpire port prio s
  | .trapLimiterRefill => Sys2Proof.Machine.execTrapLimiterRefill s
  | .trapConsWrite r val => Sys2Proof.Machine.execTrapConsWrite r val s
  | .learnRequest => Sys2Proof.Machine.execLearnRequest s
  | .agerPass => Sys2Proof.Machine.execAgerPass s
  | .fwtCmdInsert t bank => Sys2Proof.Machine.execFwtCmdInsert t bank s
  | .fwtCmdDelete t bank => Sys2Proof.Machine.execFwtCmdDelete t bank s
  | .fwtCmdLookup t bank => Sys2Proof.Machine.execFwtCmdLookup t bank s
  | .fwtInject t => Sys2Proof.Machine.execFwtInject t s
  | .fwtRebuild t => Sys2Proof.Machine.execFwtRebuild t s
  | .fwtShadowCleared t => Sys2Proof.Machine.execFwtShadowCleared t s
  | .fwtSwap t => Sys2Proof.Machine.execFwtSwap t s
  | .fwtAbortRebuild t => Sys2Proof.Machine.execFwtAbortRebuild t s
  | .fwtPerrPop => Sys2Proof.Machine.execFwtPerrPop s
  | .svFrameIngest => Sys2Proof.Machine.execSvFrameIngest s
  | .svLossScan => Sys2Proof.Machine.execSvLossScan s
  | .keyPromote k => Sys2Proof.Machine.execKeyPromote k s
  | .keyAutoPromote k => Sys2Proof.Machine.execKeyAutoPromote k s
  | .sampleRecordPlace => Sys2Proof.Machine.execSampleRecordPlace s
  | .rowInstant b => Sys2Proof.Machine.execRowInstant b s
  | .rowHoldExpire b => Sys2Proof.Machine.execRowHoldExpire b s
  | .comparatorStaleScan => Sys2Proof.Machine.execComparatorStaleScan s
  | .termArmSet k val => Sys2Proof.Machine.execTermArmSet k val s
  | .termArmClear k val => Sys2Proof.Machine.execTermArmClear k val s
  | .termUnlatch k val => Sys2Proof.Machine.execTermUnlatch k val s
  | .gooseRetransmit p => Sys2Proof.Machine.execGooseRetransmit p s
  | .gooseFrameIntake => Sys2Proof.Machine.execGooseFrameIntake s
  | .gooseLossScan => Sys2Proof.Machine.execGooseLossScan s
  | .recCmdTrigger val => Sys2Proof.Machine.execRecCmdTrigger val s
  | .trigInEdge lvl t => Sys2Proof.Machine.execTrigInEdge lvl t s
  | .recBurstWrite b => Sys2Proof.Machine.execRecBurstWrite b s
  | .segmentClose b c => Sys2Proof.Machine.execSegmentClose b c s
  | .segmentExportStart => Sys2Proof.Machine.execSegmentExportStart s
  | .segmentExportStepDone => Sys2Proof.Machine.execSegmentExportStepDone s
  | .segmentExportRetry => Sys2Proof.Machine.execSegmentExportRetry s
  | .perstAssert => Sys2Proof.Machine.execPerstAssert s
  | .perstDeassert => Sys2Proof.Machine.execPerstDeassert s
  | .linkUp rate width reversed => Sys2Proof.Machine.execLinkUp rate width reversed s
  | .linkDown => Sys2Proof.Machine.execLinkDown s
  | .hotReset => Sys2Proof.Machine.execHotReset s
  | .linkRetrain => Sys2Proof.Machine.execLinkRetrain s
  | .configRequest f reg write val => Sys2Proof.Machine.execConfigRequest f reg write val s
  | .busMasterDisable f => Sys2Proof.Machine.execBusMasterDisable f s
  | .busMasterEnable f => Sys2Proof.Machine.execBusMasterEnable f s
  | .memorySpaceDisable f => Sys2Proof.Machine.execMemorySpaceDisable f s
  | .functionLevelReset f => Sys2Proof.Machine.execFunctionLevelReset f s
  | .flrDeadline f => Sys2Proof.Machine.execFlrDeadline f s
  | .d3hotEntry f => Sys2Proof.Machine.execD3hotEntry f s
  | .d0Entry f => Sys2Proof.Machine.execD0Entry f s
  | .vfEnable f => Sys2Proof.Machine.execVfEnable f s
  | .vfDisable f => Sys2Proof.Machine.execVfDisable f s
  | .completionReceive f tag lower count status bytes poisoned check => Sys2Proof.Machine.execCompletionReceive f tag lower count status bytes poisoned check s
  | .completionTimeout f tag => Sys2Proof.Machine.execCompletionTimeout f tag s
  | .tagQuarantineExpire f tag => Sys2Proof.Machine.execTagQuarantineExpire f tag s
  | .doorbellWrite f n off full val => Sys2Proof.Machine.execDoorbellWrite f n off full val s
  | .entryFetch g => Sys2Proof.Machine.execEntryFetch g s
  | .entryRefetch g => Sys2Proof.Machine.execEntryRefetch g s
  | .ownWaitExpire g => Sys2Proof.Machine.execOwnWaitExpire g s
  | .jobComplete g status detail len result => Sys2Proof.Machine.execJobComplete g status detail len result s
  | .ringInterruptTimer g => Sys2Proof.Machine.execRingInterruptTimer g s
  | .adminRingEnable f val => Sys2Proof.Machine.execAdminRingEnable f val s
  | .noOp g => Sys2Proof.Machine.execNoOp g s
  | .identify g => Sys2Proof.Machine.execIdentify g s
  | .createRing g => Sys2Proof.Machine.execCreateRing g s
  | .destroyRing g => Sys2Proof.Machine.execDestroyRing g s
  | .modifyRing g => Sys2Proof.Machine.execModifyRing g s
  | .queryRing g => Sys2Proof.Machine.execQueryRing g s
  | .ringCounters g => Sys2Proof.Machine.execRingCounters g s
  | .transmit g => Sys2Proof.Machine.execTransmit g s
  | .receiveBuffer g => Sys2Proof.Machine.execReceiveBuffer g s
  | .measurementBuffer g => Sys2Proof.Machine.execMeasurementBuffer g s
  | .nvmeControllerEnable f wrr => Sys2Proof.Machine.execNvmeControllerEnable f wrr s
  | .nvmeControllerReset f => Sys2Proof.Machine.execNvmeControllerReset f s
  | .nvmeIdentify f cid cns nsid cntid => Sys2Proof.Machine.execNvmeIdentify f cid cns nsid cntid s
  | .nvmeGetLogPage f cid lid len => Sys2Proof.Machine.execNvmeGetLogPage f cid lid len s
  | .nvmeSetFeatures f cid fid v => Sys2Proof.Machine.execNvmeSetFeatures f cid fid v s
  | .nvmeGetFeatures f cid fid v => Sys2Proof.Machine.execNvmeGetFeatures f cid fid v s
  | .nvmeCreateIoSq f cid qid size cq prio => Sys2Proof.Machine.execNvmeCreateIoSq f cid qid size cq prio s
  | .nvmeCreateIoCq f cid qid size vec ien => Sys2Proof.Machine.execNvmeCreateIoCq f cid qid size vec ien s
  | .nvmeDeleteIoSq f cid qid => Sys2Proof.Machine.execNvmeDeleteIoSq f cid qid s
  | .nvmeDeleteIoCq f cid qid => Sys2Proof.Machine.execNvmeDeleteIoCq f cid qid s
  | .nvmeAbort f cid sqid acid => Sys2Proof.Machine.execNvmeAbort f cid sqid acid s
  | .nvmeAsyncEventRequest f cid => Sys2Proof.Machine.execNvmeAsyncEventRequest f cid s
  | .namespaceAttachment f cid nsid detach ctrls => Sys2Proof.Machine.execNamespaceAttachment f cid nsid detach ctrls s
  | .deviceSelfTest f cid nsid stc => Sys2Proof.Machine.execDeviceSelfTest f cid nsid stc s
  | .nvmeRead f qid cid nsid lba n => Sys2Proof.Machine.execNvmeRead f qid cid nsid lba n s
  | .nvmeWrite f qid cid nsid lba n data => Sys2Proof.Machine.execNvmeWrite f qid cid nsid lba n data s
  | .nvmeWriteZeroes f qid cid nsid lba n => Sys2Proof.Machine.execNvmeWriteZeroes f qid cid nsid lba n s
  | .nvmeFlush f qid cid nsid => Sys2Proof.Machine.execNvmeFlush f qid cid nsid s
  | .nvmeCompare f qid cid nsid lba n data => Sys2Proof.Machine.execNvmeCompare f qid cid nsid lba n data s
  | .nvmeDatasetManagement f qid cid nsid deallocate ranges => Sys2Proof.Machine.execNvmeDatasetManagement f qid cid nsid deallocate ranges s
  | .driveCmdComplete id good bytes warn => Sys2Proof.Machine.execDriveCmdComplete id good bytes warn s
  | .driveCmdTimeout id => Sys2Proof.Machine.execDriveCmdTimeout id s
  | .nsRebuild n => Sys2Proof.Machine.execNsRebuild n s
  | .slotPresentDebounce d => Sys2Proof.Machine.execSlotPresentDebounce d s
  | .slotPowerOn d => Sys2Proof.Machine.execSlotPowerOn d s
  | .slotPowerDelayExpire d => Sys2Proof.Machine.execSlotPowerDelayExpire d s
  | .slotDriveReady d rate width => Sys2Proof.Machine.execSlotDriveReady d rate width s
  | .slotTrainTimeout d => Sys2Proof.Machine.execSlotTrainTimeout d s
  | .slotAttnPress d => Sys2Proof.Machine.execSlotAttnPress d s
  | .slotAttnTimeout d => Sys2Proof.Machine.execSlotAttnTimeout d s
  | .slotPowerOff d => Sys2Proof.Machine.execSlotPowerOff d s
  | .slotRemovalWaitExpire d => Sys2Proof.Machine.execSlotRemovalWaitExpire d s
  | .slotPowerFault d => Sys2Proof.Machine.execSlotPowerFault d s
  | .slotLost d gone => Sys2Proof.Machine.execSlotLost d gone s
  | .slotFaultClear d gone => Sys2Proof.Machine.execSlotFaultClear d gone s
  | .rocePacketReceive => Sys2Proof.Machine.execRocePacketReceive s
  | .roceAckTimer q => Sys2Proof.Machine.execRoceAckTimer q s
  | .roceAckTimeout q => Sys2Proof.Machine.execRoceAckTimeout q s
  | .roceRnrWaitExpire q => Sys2Proof.Machine.execRoceRnrWaitExpire q s
  | .roceRateIncrease q => Sys2Proof.Machine.execRoceRateIncrease q s
  | .srNakRepeat q => Sys2Proof.Machine.execSrNakRepeat q s
  | .missHoldTimeout => Sys2Proof.Machine.execMissHoldTimeout s
  | .contextFetchDone x => Sys2Proof.Machine.execContextFetchDone x s
  | .contextWritebackDone x success => Sys2Proof.Machine.execContextWritebackDone x success s
  | .createQp g => Sys2Proof.Machine.execCreateQp g s
  | .modifyQp g => Sys2Proof.Machine.execModifyQp g s
  | .queryQp g => Sys2Proof.Machine.execQueryQp g s
  | .destroyQp g => Sys2Proof.Machine.execDestroyQp g s
  | .registerRegion g => Sys2Proof.Machine.execRegisterRegion g s
  | .deregisterRegion g => Sys2Proof.Machine.execDeregisterRegion g s
  | .postSend g => Sys2Proof.Machine.execPostSend g s
  | .postReceive g => Sys2Proof.Machine.execPostReceive g s
  | .heartbeatSend => Sys2Proof.Machine.execHeartbeatSend s
  | .heartbeatReceive raw => Sys2Proof.Machine.execHeartbeatReceive raw s
  | .twinSilent => Sys2Proof.Machine.execTwinSilent s
  | .twinSeekExpire => Sys2Proof.Machine.execTwinSeekExpire s
  | .shaperRefill => Sys2Proof.Machine.execShaperRefill s
  | .coreFault k c fcode t pc => Sys2Proof.Machine.execCoreFault k c fcode t pc s
  | .coreWatchdogExpire k c t pc since => Sys2Proof.Machine.execCoreWatchdogExpire k c t pc since s
  | .coreRestart who k c => Sys2Proof.Machine.execCoreRestart who k c s
  | .coreRetire who k c => Sys2Proof.Machine.execCoreRetire who k c s
  | .coreRestore k c => Sys2Proof.Machine.execCoreRestore k c s
  | .coreSelfTestDone k c pass => Sys2Proof.Machine.execCoreSelfTestDone k c pass s
  | .clusterReload who k => Sys2Proof.Machine.execClusterReload who k s
  | .clusterReloadDone k => Sys2Proof.Machine.execClusterReloadDone k s
  | .channelReserve who ch => Sys2Proof.Machine.execChannelReserve who ch s
  | .channelWordWrite who ch w val => Sys2Proof.Machine.execChannelWordWrite who ch w val s
  | .channelPop ch => Sys2Proof.Machine.execChannelPop ch s
  | .debugHalt agent => Sys2Proof.Machine.execDebugHalt agent s
  | .debugResume agent => Sys2Proof.Machine.execDebugResume agent s
  | .channelHoldTimeout ch => Sys2Proof.Machine.execChannelHoldTimeout ch s
  | .coreDeadlock k c t pc since => Sys2Proof.Machine.execCoreDeadlock k c t pc since s
  | .fwTxDoorbell k val => Sys2Proof.Machine.execFwTxDoorbell k val s
  | .dmaStart who ch pause => Sys2Proof.Machine.execDmaStart who ch pause s
  | .dmaPause ch => Sys2Proof.Machine.execDmaPause ch s
  | .dmaResume ch => Sys2Proof.Machine.execDmaResume ch s
  | .dmaAbort ch => Sys2Proof.Machine.execDmaAbort ch s
  | .dmaReadData ch ecc => Sys2Proof.Machine.execDmaReadData ch ecc s
  | .dmaWriteResponse ch good => Sys2Proof.Machine.execDmaWriteResponse ch good s
  | .memRefreshDue c ch bank idle rfm hit => Sys2Proof.Machine.execMemRefreshDue c ch bank idle rfm hit s
  | .memTempRead temps => Sys2Proof.Machine.execMemTempRead temps s
  | .bulkIdleSelfRefresh => Sys2Proof.Machine.execBulkIdleSelfRefresh s
  | .memRetrainDue c ch => Sys2Proof.Machine.execMemRetrainDue c ch s
  | .memRetrainDeadline c ch => Sys2Proof.Machine.execMemRetrainDeadline c ch s
  | .memRetrainRequest val => Sys2Proof.Machine.execMemRetrainRequest val s
  | .memTestStart => Sys2Proof.Machine.execMemTestStart s
  | .memTestAbort => Sys2Proof.Machine.execMemTestAbort s
  | .memTestDone pass => Sys2Proof.Machine.execMemTestDone pass s
  | .memRepairRequest val => Sys2Proof.Machine.execMemRepairRequest val s
  | .memRepairWaitExpire => Sys2Proof.Machine.execMemRepairWaitExpire s
  | .memRepairDone c success remapped die bank row => Sys2Proof.Machine.execMemRepairDone c success remapped die bank row s
  | .memScrubPass => Sys2Proof.Machine.execMemScrubPass s
  | .memRdEpochEnd => Sys2Proof.Machine.execMemRdEpochEnd s
  | .dramEccError c off ue req row => Sys2Proof.Machine.execDramEccError c off ue req row s
  | .memEccPop who => Sys2Proof.Machine.execMemEccPop who s
  | .mramDataRead who => Sys2Proof.Machine.execMramDataRead who s
  | .mramDataWrite who val => Sys2Proof.Machine.execMramDataWrite who val s
  | .romBoot straps mib bad => Sys2Proof.Machine.execRomBoot straps mib bad s
  | .stage2Boot bad => Sys2Proof.Machine.execStage2Boot bad s
  | .recoveryPing good => Sys2Proof.Machine.execRecoveryPing good s
  | .recoveryProvision good digest => Sys2Proof.Machine.execRecoveryProvision good digest s
  | .recoveryLoad good off data => Sys2Proof.Machine.execRecoveryLoad good off data s
  | .recoveryRun good => Sys2Proof.Machine.execRecoveryRun good s
  | .recoveryStatus good => Sys2Proof.Machine.execRecoveryStatus good s
  | .floorProgram => Sys2Proof.Machine.execFloorProgram s
  | .deviceReboot => Sys2Proof.Machine.execDeviceReboot s
  | .deviceRebootAlt => Sys2Proof.Machine.execDeviceRebootAlt s
  | .updateBegin g => Sys2Proof.Machine.execUpdateBegin g s
  | .updateWrite g => Sys2Proof.Machine.execUpdateWrite g s
  | .updateFinish g => Sys2Proof.Machine.execUpdateFinish g s
  | .updateAbort g => Sys2Proof.Machine.execUpdateAbort g s
  | .flashEraseDone => Sys2Proof.Machine.execFlashEraseDone s
  | .flashProgramDone got => Sys2Proof.Machine.execFlashProgramDone got s
  | .updateCheckDone => Sys2Proof.Machine.execUpdateCheckDone s
  | .loadPartition g => Sys2Proof.Machine.execLoadPartition g s
  | .activatePartition g => Sys2Proof.Machine.execActivatePartition g s
  | .partitionActivateReg who p => Sys2Proof.Machine.execPartitionActivateReg who p s
  | .calSamplePeriod j agent => Sys2Proof.Machine.execCalSamplePeriod j agent s
  | .counterWrap e => Sys2Proof.Machine.execCounterWrap e s
  | .histogramClear u => Sys2Proof.Machine.execHistogramClear u s
  | .histogramSample probe index v => Sys2Proof.Machine.execHistogramSample probe index v s
  | .eventRelease => Sys2Proof.Machine.execEventRelease s
  | .rateLimitWindowEnd src inst => Sys2Proof.Machine.execRateLimitWindowEnd src inst s
  | .journalSlotWritten => Sys2Proof.Machine.execJournalSlotWritten s
  | .evtOutPulseEnd => Sys2Proof.Machine.execEvtOutPulseEnd s
  | .eventBuffer g => Sys2Proof.Machine.execEventBuffer g s
  | .journalRead g => Sys2Proof.Machine.execJournalRead g s
  | .raiseTest g => Sys2Proof.Machine.execRaiseTest g s
  | .internalRamError blk what => Sys2Proof.Machine.execInternalRamError blk what s
  | .watchdogKick => Sys2Proof.Machine.execWatchdogKick s
  | .watchdogHalf => Sys2Proof.Machine.execWatchdogHalf s
  | .watchdogExpire => Sys2Proof.Machine.execWatchdogExpire s
  | .vauxPowerOn mv => Sys2Proof.Machine.execVauxPowerOn mv s
  | .vauxLow mv => Sys2Proof.Machine.execVauxLow mv s
  | .vinOn mv => Sys2Proof.Machine.execVinOn mv s
  | .vinOff mv => Sys2Proof.Machine.execVinOff mv s
  | .supplyTrip rail back => Sys2Proof.Machine.execSupplyTrip rail back s
  | .pwrOkGlitch rail => Sys2Proof.Machine.execPwrOkGlitch rail s
  | .resetNAssert => Sys2Proof.Machine.execResetNAssert s
  | .resetNRelease => Sys2Proof.Machine.execResetNRelease s
  | .thermalWarning t => Sys2Proof.Machine.execThermalWarning t s
  | .thermalTrip t => Sys2Proof.Machine.execThermalTrip t s
  | .thermalTripClear t => Sys2Proof.Machine.execThermalTripClear t s
  | .nvRefusalStart pin mv => Sys2Proof.Machine.execNvRefusalStart pin mv s
  | .nvRefusalEnd mv since => Sys2Proof.Machine.execNvRefusalEnd mv since s
  | .standbyHoldAssert soft => Sys2Proof.Machine.execStandbyHoldAssert soft s
  | .standbyDriveWaitDone => Sys2Proof.Machine.execStandbyDriveWaitDone s
  | .wakeTimerExpire => Sys2Proof.Machine.execWakeTimerExpire s
  | .standbyHoldRelease => Sys2Proof.Machine.execStandbyHoldRelease s
  | .registerReadClear who addr => Sys2Proof.Machine.execRegisterReadClear who addr s
  | .memorySpaceEnable f => Sys2Proof.Machine.execMemorySpaceEnable f s
  | .msixVectorUnmask f e => Sys2Proof.Machine.execMsixVectorUnmask f e s
  | .pfcPauseTimeExpire port prio => Sys2Proof.Machine.execPfcPauseTimeExpire port prio s
  | .harmonicRecordWritten c => Sys2Proof.Machine.execHarmonicRecordWritten c s
  | .heartbeatPathSilent raw => Sys2Proof.Machine.execHeartbeatPathSilent raw s
  | .memRetrainDone ch => Sys2Proof.Machine.execMemRetrainDone ch s
  | .floorProgramDone => Sys2Proof.Machine.execFloorProgramDone s
  | .vinOutOfRange mv => Sys2Proof.Machine.execVinOutOfRange mv s
  | .vauxWarning mv => Sys2Proof.Machine.execVauxWarning mv s
  | .thermalWarningEnd t => Sys2Proof.Machine.execThermalWarningEnd t s
  | .clk25mInAbsent present => Sys2Proof.Machine.execClk25mInAbsent present s
  | .oscClockDetected ocxo => Sys2Proof.Machine.execOscClockDetected ocxo s
  | .functionInitDone f => Sys2Proof.Machine.execFunctionInitDone f s
  | .debugPortAttach op => Sys2Proof.Machine.execDebugPortAttach op s

end Sys2Proof.Machine
end

