-- ==== Sys2Proof/Safety.lean ====
section
/-!
DEFINITION. What the statements speak of: the canonical form of every store, the zones of the register space, the parts of the
state, and a state that one command leaves within a set of them.
-/
namespace Sys2Proof.Machine

/-- The canonical form of a byte memory (R389, R405, R410): keys rise strictly, no listed byte equals what an unlisted one reads as. -/
abbrev Memory.wf (ship : Nat → Byte) (m : Tab Byte) : Bool := cellsWf ship m

/-- Every store of the state is in canonical form: the registers, both banks of the windows, MRAM, both memory classes, the flash and
the loader area. -/
def State.wf (s : State) : Bool :=
  cellsWf resetOf s.regs && cellsWf (fun _ => 0#32) s.winLive && cellsWf (fun _ => 0#32) s.winShadow &&
  Memory.wf mramShip s.mram && Memory.wf rtShip s.rt && Memory.wf bulkShip s.bulk && Memory.wf flashShip s.boot.flash &&
  Memory.wf rtShip s.boot.loader

/-- Base of the block after `b` in the map of R33, which is the end of `b`. -/
def Blk.top : Blk → Nat
  | .glb => 0x10000
  | .pwr => 0x20000
  | .evt => 0x40000
  | .tim => 0x80000
  | .fpt => 0x100000
  | .ppl => 0x140000
  | .fwt => 0x180000
  | .svi => 0x200000
  | .aln => 0x280000
  | .phe => 0x300000
  | .trp => 0x340000
  | .recd => 0x380000
  | .qmg => 0x3C0000
  | .stg => 0x400000
  | .rma => 0x440000
  | .sch => 0x480000
  | .cpu => 0x4C0000
  | .dma => 0x500000
  | .mem => 0x540000
  | .boot => 0x580000
  | .cal => 0x600000
  | .hif => 0x700000

/-- The zone of a register key: the readiness bit of the block whose registers hold it, or 22 (a function's own space). -/
def zoneNo (a : Nat) : Nat := match blkOfAddr a with | some b => b.bit | none => 22

/-- The parts of the state beyond the registers. -/
inductive Part where
  | rdHold | wrHold | winLive | winShadow | winWr | winRd | stage | markOwner | calFrom | calFcFrom | pins | evt | tim | hif | rings
  | mram | rt | bulk | fpt | ppl | fwt | sch | cpu | svi | aln | phe | trp | recd | rma | stg | dma | mem | pwr
  | flash | otp | loader | boot | sent | reply | free | tick
  deriving DecidableEq, Repr

/-- Number of a part, after the 23 zones of the registers. -/
def Part.bit : Part → Nat
  | .rdHold => 23 | .wrHold => 24 | .winLive => 25 | .winShadow => 26 | .winWr => 27 | .winRd => 28 | .stage => 29 | .markOwner => 30
  | .calFrom => 31 | .calFcFrom => 32 | .pins => 33 | .evt => 34 | .tim => 35 | .hif => 36 | .rings => 37 | .mram => 38 | .rt => 39
  | .bulk => 40 | .fpt => 41 | .ppl => 42 | .fwt => 43 | .sch => 44 | .cpu => 45 | .svi => 46 | .aln => 47 | .phe => 48 | .trp => 49
  | .recd => 50 | .rma => 51 | .stg => 52 | .dma => 53 | .mem => 54 | .pwr => 55 | .flash => 56 | .otp => 57 | .loader => 58
  | .boot => 59 | .sent => 60 | .reply => 61 | .free => 62 | .tick => 63

/-- Have two states the same value of a part? `otp` is the key digest, the floor words and the word being programmed; `boot` what is
left of the boot block. -/
def Part.same (s t : State) : Part → Prop
  | .rdHold => t.rdHold = s.rdHold | .wrHold => t.wrHold = s.wrHold
  | .winLive => t.winLive = s.winLive | .winShadow => t.winShadow = s.winShadow
  | .winWr => t.winWr = s.winWr | .winRd => t.winRd = s.winRd
  | .stage => t.stage = s.stage | .markOwner => t.markOwner = s.markOwner
  | .calFrom => t.calFrom = s.calFrom | .calFcFrom => t.calFcFrom = s.calFcFrom
  | .pins => t.pins = s.pins | .evt => t.evt = s.evt | .tim => t.tim = s.tim | .hif => t.hif = s.hif | .rings => t.rings = s.rings
  | .mram => t.mram = s.mram | .rt => t.rt = s.rt | .bulk => t.bulk = s.bulk
  | .fpt => t.fpt = s.fpt | .ppl => t.ppl = s.ppl | .fwt => t.fwt = s.fwt | .sch => t.sch = s.sch | .cpu => t.cpu = s.cpu
  | .svi => t.svi = s.svi | .aln => t.aln = s.aln | .phe => t.phe = s.phe | .trp => t.trp = s.trp | .recd => t.rec_ = s.rec_
  | .rma => t.rma = s.rma | .stg => t.stg = s.stg | .dma => t.dma = s.dma | .mem => t.mem = s.mem | .pwr => t.pwr = s.pwr
  | .flash => t.boot.flash = s.boot.flash
  | .otp => t.boot.digest = s.boot.digest ∧ t.boot.floors = s.boot.floors ∧ t.boot.floorVal = s.boot.floorVal
  | .loader => t.boot.loader = s.boot.loader
  | .boot => t.boot.alt = s.boot.alt ∧ t.boot.phase = s.boot.phase ∧ t.boot.half = s.boot.half ∧ t.boot.parts = s.boot.parts ∧
      t.boot.fns = s.boot.fns ∧ t.boot.upd = s.boot.upd
  | .sent => t.sent = s.sent | .reply => t.reply = s.reply | .free => t.free = s.free | .tick => t.tick = s.tick

/-- The command completes: it answers a next state, of which `P` holds. -/
def Does (c : Instr) (s : State) (P : State → Prop) : Prop := ∃ t, Sys2Proof.Machine.exec c s = .next t ∧ P t

/-- How often event source `n` shows as raised: records that the event unit holds, and occurrences a rate-limit window has
suppressed (R447, R448). -/
def State.told (s : State) (n : Nat) : Nat :=
  (s.evt.held.filter (fun r => r.src == n)).length + ((s.evt.wins.filter (fun w => w.src == n)).map (fun w => w.count)).sum

/-- Every register outside these zones (a block, or none for the functions' own spaces) and every part outside `ps` is as it was. -/
def Only (zs : List (Option Blk)) (ps : List Part) (s t : State) : Prop :=
  (s.wf = true → ∀ a, blkOfAddr a ∉ zs → t.reg a = s.reg a) ∧ ∀ p, p ∉ ps → p.same s t

/-- The host command that an accepted I/O command of queue `q` becomes, and the state that holds it (R302). -/
def State.hostTaken (s : State) (q : SqSt) (f qid cid nsid op : Nat) (ranges : List (Nat × Nat)) (data : List Byte) : HostCmd × State :=
  let c : HostCmd := { id := s.stg.nextId, f := f, qid := qid, cid := cid, op := op, s := nsid - 1, lba := (ranges.headD (0, 0)).1
                       n := (ranges.headD (0, 0)).2, prio := q.prio, ranges := ranges, data := data }
  (c, { s with stg := { s.stg with nextId := s.stg.nextId + 1, cmds := s.stg.cmds ++ [c] } })

/-- What every reset of the device domain leaves, with the always-on domain, BOOT and TIM left out of its registers (R467 to R469). -/
def Restarted (s t : State) : Prop :=
  t.boot.phase = 0 ∧ t.pins.rstoutN = false ∧ t.rings = [] ∧ t.hif.reads = [] ∧ t.evt.held = [] ∧ t.stage = [] ∧ t.winLive = [] ∧
  (s.wf = true → t.rd PWR_STATUS.PSTATE = 0 ∧
    ∀ a, alwaysOn a = false → blkOfAddr a ≠ some .boot → blkOfAddr a ≠ some .tim → t.reg a = resetOf a)

/-- Commands at which the device domain can be reset (R467 to R470, R417). -/
def Instr.resets : Instr → Bool
  | .stage2Boot _ | .deviceReboot | .deviceRebootAlt | .internalRamError _ _ | .watchdogExpire | .vauxPowerOn _ | .vauxLow _ | .vinOff _
  | .supplyTrip _ _ | .resetNAssert | .thermalTrip _ => true
  | _ => false

/-- An access that reaches a register, a window or a data port and commits nothing (R34 to R38, R45, R46, R48, R65, R70, R137). -/
def Instr.accesses : Instr → Bool
  | .unassignedAccess .. | .refusedSizeAccess .. | .glbSyncRead .. | .windowPageSelect .. | .windowWordWrite ..
    | .windowFirstWordRead .. | .gtcNsRead .. | .grainAngleRead .. | .ptpOfsSecWrite .. | .memEccPop .. | .mramDataRead ..
    | .fwtPerrPop .. => true
  | _ => false

/-- The clock, its outputs and inputs, and the Grain (R47 to R54, R66 to R74). -/
def Instr.clocks : Instr → Bool
  | .holdoverExpire .. | .freqAdjWrite .. | .aoCounterCorrect .. | .ppsOutPulse .. | .ppsOutPulseEnd .. | .oscClockLost ..
    | .oscClockDetected .. | .grainRefGap .. | .grainCycleWrap .. | .grainCoastFlag .. | .grainNominalRevert ..
    | .clk25mInAbsent .. => true
  | _ => false

/-- A time source, whose step of the clock may close rows (R55 to R68), and the rows of the bays (R169 to R215). -/
def Instr.sampling : Instr → Bool
  | .ptpOfsUpdate .. | .ppsInEdge .. | .ppsPulseMissed .. | .irigFrame .. | .irigFrameMissed .. | .ptpUpdateTimeout ..
    | .sampleRecordPlace .. | .rowInstant .. | .rowHoldExpire .. | .harmonicRecordWritten .. => true
  | _ => false

/-- Ports, pairs, by-passes and the fabric (R83 to R101). -/
def Instr.ports : Instr → Bool
  | .portLockAcquired .. | .portAnComplete .. | .portAnTimeout .. | .portLinkLost .. | .portResetComplete .. | .ddEntryExpire ..
    | .supervisionTx .. | .loopCheckTimeout .. | .loopCheckRetry .. | .bypassSettleExpire .. | .bypassSwitchTimeout ..
    | .keeperKick .. | .keeperExpire .. | .pairReset .. | .forceRelWrite .. | .fabricDegrade .. | .fabricRestore ..
    | .fabricLaneLost .. | .fabricDegradeDwell .. | .pfcPauseTimeExpire .. | .pfcWatchdogExpire .. => true
  | _ => false

/-- Frames, trap rings, limiters, shapers and the firmware transmit rings (R102 to R124, R349 to R361). -/
def Instr.frames : Instr → Bool
  | .frameReceive .. | .portTxBoundary .. | .trapLimiterRefill .. | .trapConsWrite .. | .shaperRefill .. | .fwTxDoorbell .. => true
  | _ => false

/-- The forwarding tables (R125 to R144). -/
def Instr.tables : Instr → Bool
  | .learnRequest .. | .agerPass .. | .fwtCmdInsert .. | .fwtCmdDelete .. | .fwtCmdLookup .. | .fwtInject .. | .fwtRebuild ..
    | .fwtShadowCleared .. | .fwtSwap .. | .fwtAbortRebuild .. | .fwtPerrPop .. => true
  | _ => false

/-- Sampled values and their keys (R145 to R168). -/
def Instr.ingest : Instr → Bool
  | .svFrameIngest .. | .svLossScan .. | .keyPromote .. | .keyAutoPromote .. => true
  | _ => false

/-- Comparators, terms, publications and GOOSE (R216 to R243). -/
def Instr.trips : Instr → Bool
  | .comparatorStaleScan .. | .termArmSet .. | .termArmClear .. | .termUnlatch .. | .gooseRetransmit .. | .gooseFrameIntake ..
    | .gooseLossScan .. => true
  | _ => false

/-- The recorder and its exports (R244 to R261). -/
def Instr.recording : Instr → Bool
  | .recCmdTrigger .. | .recBurstWrite .. | .segmentClose .. | .segmentExportStart .. | .segmentExportStepDone ..
    | .segmentExportRetry .. => true
  | _ => false

/-- Link, configuration requests, completions, rings and admin commands (R262 to R301). -/
def Instr.hosting : Instr → Bool
  | .linkUp .. | .linkRetrain .. | .configRequest .. | .busMasterDisable .. | .busMasterEnable .. | .memorySpaceDisable ..
    | .memorySpaceEnable .. | .flrDeadline .. | .d3hotEntry .. | .d0Entry .. | .vfEnable .. | .completionReceive ..
    | .completionTimeout .. | .tagQuarantineExpire .. | .doorbellWrite .. | .entryFetch .. | .entryRefetch ..
    | .ownWaitExpire .. | .jobComplete .. | .ringInterruptTimer .. | .msixVectorUnmask .. | .adminRingEnable .. | .noOp ..
    | .identify .. | .createRing .. | .destroyRing .. | .modifyRing .. | .queryRing .. | .ringCounters .. | .transmit ..
    | .receiveBuffer .. | .measurementBuffer .. | .eventBuffer .. | .journalRead .. | .raiseTest .. => true
  | _ => false

/-- The NVMe function, drives, namespaces and slots (R302 to R321). -/
def Instr.storing : Instr → Bool
  | .nvmeControllerEnable .. | .nvmeControllerReset .. | .nvmeIdentify .. | .nvmeGetLogPage .. | .nvmeSetFeatures ..
    | .nvmeGetFeatures .. | .nvmeCreateIoSq .. | .nvmeCreateIoCq .. | .nvmeDeleteIoSq .. | .nvmeDeleteIoCq .. | .nvmeAbort ..
    | .nvmeAsyncEventRequest .. | .namespaceAttachment .. | .deviceSelfTest .. | .nvmeRead .. | .nvmeWrite ..
    | .nvmeWriteZeroes .. | .nvmeFlush .. | .nvmeCompare .. | .nvmeDatasetManagement .. | .driveCmdComplete ..
    | .driveCmdTimeout .. | .nsRebuild .. | .slotPresentDebounce .. | .slotPowerOn .. | .slotPowerDelayExpire ..
    | .slotDriveReady .. | .slotTrainTimeout .. | .slotAttnPress .. | .slotAttnTimeout .. | .slotPowerOff ..
    | .slotRemovalWaitExpire .. | .slotPowerFault .. | .slotLost .. | .slotFaultClear .. => true
  | _ => false

/-- The link, its queue pairs and the twin (R322 to R348). -/
def Instr.linking : Instr → Bool
  | .rocePacketReceive .. | .roceAckTimer .. | .roceAckTimeout .. | .roceRnrWaitExpire .. | .roceRateIncrease ..
    | .srNakRepeat .. | .missHoldTimeout .. | .contextFetchDone .. | .contextWritebackDone .. | .createQp .. | .modifyQp ..
    | .queryQp .. | .destroyQp .. | .registerRegion .. | .deregisterRegion .. | .postSend .. | .postReceive ..
    | .heartbeatSend .. | .heartbeatReceive .. | .heartbeatPathSilent .. | .twinSilent .. | .twinSeekExpire .. => true
  | _ => false

/-- Cores, their restart and their channels (R362 to R378). -/
def Instr.spindles : Instr → Bool
  | .coreRestart .. | .coreRetire .. | .coreRestore .. | .coreSelfTestDone .. | .clusterReloadDone .. | .channelReserve ..
    | .channelWordWrite .. | .channelPop .. | .channelHoldTimeout .. | .debugHalt .. | .debugResume .. | .debugPortAttach .. => true
  | _ => false

/-- The DMA engine and the memories (R379 to R409). -/
def Instr.moving : Instr → Bool
  | .dmaStart .. | .dmaPause .. | .dmaResume .. | .dmaAbort .. | .dmaReadData .. | .dmaWriteResponse .. | .memRefreshDue ..
    | .memTempRead .. | .bulkIdleSelfRefresh .. | .memRetrainDue .. | .memRetrainDone .. | .memRetrainDeadline ..
    | .memRetrainRequest .. | .memTestStart .. | .memTestAbort .. | .memTestDone .. | .memRepairRequest ..
    | .memRepairWaitExpire .. | .memRepairDone .. | .memScrubPass .. | .memRdEpochEnd .. | .dramEccError .. | .memEccPop ..
    | .mramDataRead .. | .mramDataWrite .. => true
  | _ => false

/-- Recovery, the floor and the update engine (R410 to R429). -/
def Instr.updating : Instr → Bool
  | .recoveryPing .. | .recoveryProvision .. | .recoveryLoad .. | .recoveryRun .. | .recoveryStatus .. | .floorProgram ..
    | .floorProgramDone .. | .updateBegin .. | .updateWrite .. | .updateFinish .. | .updateAbort .. | .flashEraseDone ..
    | .flashProgramDone .. | .updateCheckDone .. | .loadPartition .. | .romBoot .. => true
  | _ => false

/-- Calipers, the journal, the release of events and the watchdog before it expires (R430 to R460). -/
def Instr.counting : Instr → Bool
  | .calSamplePeriod .. | .counterWrap .. | .histogramClear .. | .histogramSample .. | .eventRelease .. | .rateLimitWindowEnd ..
    | .journalSlotWritten .. | .evtOutPulseEnd .. | .watchdogKick .. | .watchdogHalf .. => true
  | _ => false

/-- Supply levels, temperatures and refusals that reset nothing (R461 to R478). -/
def Instr.supplying : Instr → Bool
  | .vinOn .. | .pwrOkGlitch .. | .resetNRelease .. | .thermalWarning .. | .thermalWarningEnd .. | .thermalTripClear ..
    | .nvRefusalStart .. | .nvRefusalEnd .. | .vinOutOfRange .. | .vauxWarning .. => true
  | _ => false

/-- `t` follows from `s` within the zones and parts whose bits are set in `m`: the queue is as it was, the clock has not run back,
the stores that were canonical are, and every register and every part outside `m` is as it was. -/
structure Keep (m : Nat) (s t : State) : Prop where
  pending : t.pending = s.pending
  tick : s.tick ≤ t.tick
  wf : s.wf = true → t.wf = true
  regs : s.wf = true → ∀ a, m.testBit (zoneNo a) = false → t.reg a = s.reg a
  parts : ∀ p : Part, m.testBit p.bit = false → p.same s t

end Sys2Proof.Machine
end

