-- ==== Sys2Proof/Certificates/Slice0/Obligations.lean ====
section
/-!
DEFINITION. The statements about the model, one per obligation.
-/
section
open Sys2Proof Sys2Proof.Machine

/-- R8: what a plain write does to a field of each access type, and to everything else of its register. -/
def Obligations.FieldWriteByAccessType : Prop :=
  ∀ (s : State) (a v : Nat) (f : Fld), s.wf = true → f.lo + f.w ≤ 32 →
    (f.acc = .rw → bitsOf ((s.writeField a v f).reg a).toNat f.lo f.w = bitsOf v f.lo f.w) ∧
    (f.acc = .w1c → ∀ k, k < f.w →
      bitOf ((s.writeField a v f).reg a).toNat (f.lo + k) = (bitOf (s.reg a).toNat (f.lo + k) && !bitOf v (f.lo + k))) ∧
    (f.acc = .w1s → ∀ k, k < f.w →
      bitOf ((s.writeField a v f).reg a).toNat (f.lo + k) = (bitOf (s.reg a).toNat (f.lo + k) || bitOf v (f.lo + k))) ∧
    (f.acc = .ro ∨ f.acc = .rc ∨ f.acc = .rwl → s.writeField a v f = s) ∧
    (∀ k, k < f.lo ∨ f.lo + f.w ≤ k → bitOf ((s.writeField a v f).reg a).toNat k = bitOf (s.reg a).toNat k) ∧
    (∀ b, b ≠ a → (s.writeField a v f).reg b = s.reg b) ∧ (s.writeField a v f).winLive = s.winLive ∧ (s.writeField a v f).evt = s.evt

/-- R34, R35: an access to an address where no register lies; one that is not 32-bit aligned is a refused one. -/
def Obligations.UnassignedAccess : Prop :=
  ∀ (s : State) (who a : Nat) (read : Bool), s.wf = true → s.shut who = false → s.fieldsAt (regKey who a) = none →
    (who < 256 ∨ 0x18 ≤ a) → Does (.unassignedAccess who a read) s (fun t =>
      t.reply = (if read then (if a % 4 = 0 then 0 else 0xFFFFFFFF) else s.reply) ∧
      t.rd GLB_BAD_ACCESS.COUNT = min (s.rd GLB_BAD_ACCESS.COUNT + 1) (2 ^ 32 - 1) ∧
      ∀ b, b ≠ GLB_BAD_ACCESS.COUNT.base → blkOfAddr b ≠ some .evt → blkOfAddr b ≠ some .cal → t.reg b = s.reg b)

/-- R35, R37 and R36: an access of a refused size, the synchronising read, and the two halves of a pair. -/
def Obligations.SplitAccesses : Prop :=
  (∀ (s : State) (read : Bool), s.wf = true → Does (.refusedSizeAccess read) s (fun t =>
    t.reply = (if read then 0xFFFFFFFF else s.reply) ∧ t.rd GLB_BAD_ACCESS.COUNT = min (s.rd GLB_BAD_ACCESS.COUNT + 1) (2 ^ 32 - 1) ∧
    ∀ b, b ≠ GLB_BAD_ACCESS.COUNT.base → blkOfAddr b ≠ some .evt → blkOfAddr b ≠ some .cal → t.reg b = s.reg b)) ∧
  (∀ s : State, Does .glbSyncRead s (fun t => t = s.answer 0)) ∧
  (∀ (s : State) (who a : Nat) (l : List Fld), s.shut who = false → s.fieldsAt (regKey who a) = some l →
    isLo (regKey who a) = true → isHi (regKey who a) = false → blkOfAddr (regKey who a) ≠ some .cal →
    MEM_ECC_LO.ENTRY.covers (regKey who a) = false → MEM_MRAM_DATA_LO.DATA.covers (regKey who a) = false → (who < 256 ∨ 0x18 ≤ a) →
    Does (.splitLoRead who a) s (fun t =>
      t.reply = s.viewWord who (regKey who a) (s.liveWord who (regKey who a) l) ∧
      tabGet t.rdHold who = { valid := true, addr := regKey who a,
                              val := s.viewWord who (regKey who a + 4)
                                (s.liveWord who (regKey who a + 4) ((s.fieldsAt (regKey who a + 4)).getD [])) })) ∧
  (∀ (s : State) (who a : Nat) (val : Word) (l : List Fld), s.shut who = false → s.fieldsAt (regKey who a) = some l → isLo (regKey who a) = true →
    l.all (fun f => f.acc == .ro || f.acc == .rc) = false → (who < 256 ∨ 0x18 ≤ a) →
    Does (.splitLoWrite who a val) s (fun t =>
      t.regs = s.regs ∧ tabGet t.wrHold who = { valid := true, addr := regKey who a, val := val.toNat })) ∧
  (∀ (s : State) (who a : Nat) (val : Word) (l : List Fld), s.shut who = false → s.fieldsAt (regKey who a) = some l → isLo (regKey who a) = false →
    isHi (regKey who a) = true → l.all (fun f => f.acc == .ro || f.acc == .rc) = false → (who < 256 ∨ 0x18 ≤ a) →
    TIM_FREQ_ADJ_HI.ADJ.covers (regKey who a) = false → MEM_MRAM_DATA_HI.DATA.covers (regKey who a) = false →
    (tabGet s.wrHold who).valid = true → (tabGet s.wrHold who).addr = regKey who a - 4 →
    Does (.splitHiWrite who a val) s (fun t =>
      t = (State.putWord { s with wrHold := tabSet s.wrHold who {} } who (regKey who a - 4)
        (((tabGet s.wrHold who).val + val.toNat * 2 ^ 32) % 2 ^ 32) ((s.fieldsAt (regKey who a - 4)).getD [])).putWord
          who (regKey who a) val.toNat l))

/-- R8, R39, R278: plain writes, reads that clear, the staging of a word, and an access that is an Unsupported Request. -/
def Obligations.PlainAccesses : Prop :=
  (∀ (s : State) (who a : Nat) (val : Word) (l : List Fld), s.shut who = false → s.fieldsAt (regKey who a) = some l → (who < 256 ∨ 0x18 ≤ a) →
    (∀ b, stagedAt (regKey who a) = some b → regKey who a ≠ b.base + 0xFF0) → l.any (fun f => f.acc == .rwl) = false →
    l.all (fun f => f.acc == .ro || f.acc == .rc) = false → isLo (regKey who a) = false → isHi (regKey who a) = false →
    s.guardKey (regKey who a) = false → s.guardSeed (regKey who a) = false → s.guardCons (regKey who a) val.toNat = false →
    s.guardStore (regKey who a) val.toNat = false → s.guardAdm (regKey who a) = false → s.guardDesc (regKey who a) = false →
    Does (.registerWrite who a val) s (fun t => t =
      (forEach (l.filter (fun f => !ownRow.any (fun g => g.covers (regKey who a) && g.lo == f.lo)))
        (fun f u => u.writeField (regKey who a) val.toNat f) s).afterWrite s (regKey who a))) ∧
  (∀ (s : State) (who a : Nat) (l : List Fld), s.wf = true → s.shut who = false → s.fieldsAt (regKey who a) = some l →
    (who < 256 ∨ 0x18 ≤ a) → FWT_PERR.VALID.covers (regKey who a) = false → TIM_GTC_NS.NS.covers (regKey who a) = false →
    TIM_GRAINn_ANGLE.ANGLE.covers (regKey who a) = false → blkOfAddr (regKey who a) ≠ some .cal → isLo (regKey who a) = false → isHi (regKey who a) = false →
    (∀ f ∈ l, f.lo + f.w ≤ 32) →
    Does (.registerReadClear who a) s (fun t =>
      t.reply = s.viewWord who (regKey who a) (s.liveWord who (regKey who a) l) ∧
      (∀ f ∈ l, f.acc = .rc → bitsOf (t.reg (regKey who a)).toNat f.lo f.w = 0) ∧
      ∀ b, b ≠ regKey who a → t.reg b = s.reg b)) ∧
  (∀ (s : State) (who a : Nat) (val : Word) (b : Blk) (l : List Fld), s.shut who = false → s.fieldsAt (regKey who a) = some l → (who < 256 ∨ 0x18 ≤ a) →
    rwlMask (regKey who a) ≠ 0 → l.any (fun f => f.acc == .rwl) = true → l.all (fun f => f.acc == .rwl) = true →
    isLo (regKey who a) = false → isHi (regKey who a) = false →
    s.guardKey (regKey who a) = false → s.guardSeed (regKey who a) = false → s.guardCons (regKey who a) val.toNat = false →
    s.guardStore (regKey who a) val.toNat = false → s.guardAdm (regKey who a) = false → s.guardDesc (regKey who a) = false → stagedAt (regKey who a) = some b → s.stState b = 1 → s.owns b who = true →
    Does (.rwlWrite who a val) s (fun t =>
      tabGet (t.stageOf b).staged (regKey who a) = some val.toNat ∧ t.reg (regKey who a) = s.reg (regKey who a))) ∧
  (∀ (s : State) (who a : Nat), s.shut who = false → FWT_PERR.VALID.covers (regKey who a) = true → a % 4 = 0 → a < 0x700000 → who < 256 →
    Does (.registerReadClear who a) s (fun t => t = s.perrPop)) ∧
  (∀ (s : State) (who a : Nat) (val : Word) (read : Bool) (c : Instr), s.wf = true → s.shut who = true →
    c ∈ [Instr.registerWrite who a val, .rwlWrite who a val, .splitLoWrite who a val, .splitHiWrite who a val, .unassignedAccess who a false,
      .registerReadClear who a, .splitLoRead who a, .unassignedAccess who a true, .windowWordWrite who a val, .windowFirstWordRead who a] →
    Does c s (fun t => Out.aer (s.reporter ((reqFn who).getD 0)) .unsupportedRequest .nonfatal ∈ t.sent ∧ t.reply = s.reply ∧
      t.rd GLB_BAD_ACCESS.COUNT = s.rd GLB_BAD_ACCESS.COUNT ∧ t.winLive = s.winLive ∧ t.winShadow = s.winShadow ∧ t.stage = s.stage))

/-- R39, R42, R43: the commands of a staging window. -/
def Obligations.StagingCommands : Prop :=
  (∀ (s : State) (who blk w : Nat) (b : Blk), s.wf = true → s.shut who = false → stagedBlk blk = some b → ownerOf who = some w → s.stState b = 0 →
    Does (.stageOpen who blk) s (fun t => t.stState b = 1 ∧ t.rd STAGE_STATUS.OWNER b.base = w % 256)) ∧
  (∀ (s : State) (who blk : Nat) (b : Blk), s.wf = true → s.shut who = false → stagedBlk blk = some b → s.stState b ≠ 0 → (s.owns b who = true ∨ who = 0) →
    Does (.stageAbort who blk) s (fun t => t.stState b = 0 ∧ t.rd STAGE_STATUS.RESULT b.base = 5 ∧ ∀ m, tabGet t.markOwner m ≠ b.bit + 1)) ∧
  (∀ (s : State) (who blk : Nat) (b : Blk), s.wf = true → s.shut who = false → stagedBlk blk = some b → s.stState b = 1 → s.owns b who = true →
    s.refusal b = none →
    Does (.stageCommitNow who blk) s (fun t => t.stState b = 0 ∧ t.rd STAGE_STATUS.RESULT b.base = 1 ∧ t = s.commitBlk b s.g0)) ∧
  (∀ (s : State) (who blk d : Nat) (b : Blk), s.wf = true → s.shut who = false → stagedBlk blk = some b → s.stState b = 1 → s.owns b who = true →
    s.refusal b = some d →
    Does (.stageCommitNow who blk) s (fun t => t.stState b = 1 ∧ t.rd STAGE_STATUS.RESULT b.base = 2 ∧
      t.rd STAGE_STATUS.DETAIL b.base = d % 256 ∧ t.stage = s.stage)) ∧
  (∀ (s : State) (who blk : Nat) (b : Blk), s.wf = true → s.shut who = false → stagedBlk blk = some b → s.stState b = 1 → s.owns b who = true →
    s.refusal b = none → tabGet s.markOwner (s.rd COMMIT_MARK.MARK b.base) = 0 →
    Does (.stageArm who blk) s (fun t => t.stState b = 2 ∧ tabGet t.markOwner (s.rd COMMIT_MARK.MARK b.base) = b.bit + 1)) ∧
  (∀ (s : State) (who blk : Nat) (b : Blk), s.wf = true → s.shut who = false → stagedBlk blk = some b → s.stState b = 1 → s.owns b who = true →
    s.refusal b = none → tabGet s.markOwner (s.rd COMMIT_MARK.MARK b.base) ≠ 0 →
    Does (.stageArm who blk) s (fun t => t.stState b = 1 ∧ t.rd STAGE_STATUS.RESULT b.base = 3)) ∧
  (∀ (s : State) (blk : Nat) (b : Blk), s.wf = true → stagedBlk blk = some b → s.stState b = 2 → s.on COMMIT_MARK.TIMEOUT b.base = true →
    Does (.stageTimeout blk) s (fun t => t.stState b = 1 ∧ t.rd STAGE_STATUS.RESULT b.base = 4 ∧
      (s.stageOf b).armTick + 1000000 * s.rd COMMIT_MARK.TIMEOUT b.base ≤ t.tick))

/-- R45, R46: the indirect table windows. -/
def Obligations.IndirectWindows : Prop :=
  (∀ (s : State) (win page : Nat), s.wf = true → win < 12 →
    Does (.windowPageSelect win page) s (fun t => t.rd GLB_WIN_PAGEn.PAGE win = page % 16 ∧ t.rd GLB_WIN_STATUSn.PARTIAL win = 0)) ∧
  (∀ (s : State) (who off w e k : Nat) (shadow : Bool) (val : Word), s.wf = true → s.shut who = false → s.winAt off = (w, shadow, e, k) → who < 256 → w < 12 →
    off % 4 = 0 → e < winEntries w → s.winWritable w shadow = true → k + 1 < winEntryWords w →
    Does (.windowWordWrite who off val) s (fun t =>
      (tabGet t.winWr w).valid = true ∧ (tabGet t.winWr w).entry = e ∧ (tabGet t.winWr w).shadow = shadow ∧
      t.rd GLB_WIN_STATUSn.PARTIAL w = 1 ∧ t.winLive = s.winLive ∧ t.winShadow = s.winShadow)) ∧
  (∀ (s : State) (who off w e : Nat) (shadow : Bool) (val : Word), s.wf = true → s.shut who = false →
    s.winAt off = (w, shadow, e, winEntryWords w - 1) → 1 < winEntryWords w → who < 256 → 3 ≤ w → w < 12 → off % 4 = 0 → e < winEntries w →
    s.winWritable w shadow = true → (tabGet s.winWr w).valid = true → (tabGet s.winWr w).entry = e → (tabGet s.winWr w).shadow = shadow →
    (tabGet s.winWr w).changed = false →
    Does (.windowWordWrite who off val) s (fun t => t.rd GLB_WIN_STATUSn.PARTIAL w = 0 ∧
      t.winNat w shadow (e * winEntryWords w) (winEntryWords w) =
        winClean w ((putAt (tabGet s.winWr w).words (winEntryWords w - 1) val.toNat).foldr (fun x acc => x % 2 ^ 32 + 2 ^ 32 * acc) 0)
          % 2 ^ (32 * winEntryWords w))) ∧
  (∀ (s : State) (who off w e : Nat) (shadow : Bool), s.shut who = false → s.winAt off = (w, shadow, e, 0) → who < 256 → w < 12 → off % 4 = 0 →
    e < winEntries w → (w = 11 → shadow = false) →
    Does (.windowFirstWordRead who off) s (fun t => t.reply = ((s.entryWords w shadow e).getD 0 0) ∧
      tabGet t.winRd w = { valid := true, entry := e, shadow := shadow, words := s.entryWords w shadow e }))

/-- R56, R65, R66: what an update, a missed update and a timeout leave of a time source. -/
def Obligations.TimeSourceUpdates : Prop :=
  (∀ (s : State) (who : Nat) (val : Word), s.shut who = false → Does (.ptpOfsSecWrite who val) s (fun t =>
    tabGet t.tim.ofsSec who = { valid := true, addr := 0, val := val.toNat } ∧ t.regs = s.regs)) ∧
  (∀ (s : State) (who : Nat) (val : Word), s.shut who = false → (sgn 32 val.toNat).natAbs ≤ 999999999 →
    Does (.ptpOfsUpdate who val) s (fun t => (t.src 1).seen = true ∧ (t.src 1).misses = 0 ∧ (t.src 1).lastTick = s.tick)) ∧
  (∀ (s : State) (who : Nat) (val : Word), s.shut who = false → 999999999 < (sgn 32 val.toNat).natAbs →
    Does (.ptpOfsUpdate who val) s (fun t => t.tim = s.tim ∧ t = s.bad)) ∧
  (∀ s : State, (s.src 1).seen = true → Does .ptpUpdateTimeout s (fun t =>
    (s.src 1).lastTick + s.ptpTimeout ≤ t.tick ∧ t.srcOk 1 = false)) ∧
  (∀ (s : State) (rising : Bool) (t0 : Nat), s.wf = true → (rising == s.on TIM_PPS_IN_CFG.EDGE) = false →
    (fromSecond (s.gtcAt t0 - sgn 24 (s.rd TIM_PPS_IN_CFG.CABLE_NS))).natAbs ≤ 100000000 →
    Does (.ppsInEdge rising t0) s (fun t => (t.src 2).seen = true ∧ (t.src 2).misses = 0 ∧ (t.src 2).lastTick = s.tick)) ∧
  (∀ (s : State) (rising : Bool) (t0 : Nat), s.wf = true → (rising == s.on TIM_PPS_IN_CFG.EDGE) = false →
    100000000 < (fromSecond (s.gtcAt t0 - sgn 24 (s.rd TIM_PPS_IN_CFG.CABLE_NS))).natAbs →
    Does (.ppsInEdge rising t0) s (fun t => (t.src 2).misses = (s.src 2).misses + 1 ∧ (t.src 2).run = 0)) ∧
  (∀ s : State, Does .ppsPulseMissed s (fun t => s.tick < t.tick ∧ (t.src 2).misses = (s.src 2).misses + 1 ∧ (t.src 2).run = 0)) ∧
  (∀ (s : State) (t0 doy sod yy hh tq : Nat) (lsp : Bool), Does (.irigFrame true t0 doy sod yy hh lsp tq) s (fun t =>
    (t.src 3).seen = true ∧ (t.src 3).misses = 0 ∧ (t.src 3).lastTick = s.tick)) ∧
  (∀ (s : State) (t0 doy sod yy hh tq : Nat) (lsp : Bool), s.wf = true → Does (.irigFrame false t0 doy sod yy hh lsp tq) s (fun t =>
    t.rd TIM_IRIG_STATUS.FRAME_ERR = min (s.rd TIM_IRIG_STATUS.FRAME_ERR + 1) (2 ^ TIM_IRIG_STATUS.FRAME_ERR.w - 1) ∧
    (t.src 3).misses = (s.src 3).misses + 1)) ∧
  (∀ s : State, Does .irigFrameMissed s (fun t => (t.src 3).misses = (s.src 3).misses + 1 ∧ (t.src 3).run = 0))

/-- R48, R51, R53, R57, R67, R487: the correction, the Holdover limit, the always-on counter, the latched reads, 1PPS_OUT and the clock
inputs. The ratio of the always-on counter is a free value. -/
def Obligations.TimebaseCommands : Prop :=
  (∀ (s : State) (who : Nat) (val : Word), s.wf = true → s.shut who = false → Does (.freqAdjWrite who val) s (fun t =>
    let v := (s.takeHi who (TIM_FREQ_ADJ_LO.ADJ.addr 0 0) val.toNat).2
    t.rd64 TIM_FREQ_ADJ_LO.ADJ = v % 2 ^ 64 ∧
    t.tim.applied = if s.rd TIM_STATUS.STATE = 3 then s.tim.applied else max (-adjClamp) (min (sgn 64 v) adjClamp))) ∧
  (∀ (s : State) (g t0 : Nat), s.wf = true → s.tim.holdFrom = some (g, t0) → s.rd TIM_STATUS.STATE = 3 →
    Does .holdoverExpire s (fun t => t.rd TIM_STATUS.STATE = 0 ∧ t.rd TIM_STATUS.QUALITY = 3 ∧ s.told 36 < t.told 36 ∧
      t0 + nsPerSec * s.rd TIM_HOLDOVER.LIMIT_S ≤ t.tick)) ∧
  (∀ (s : State) (g t0 : Nat), s.wf = true → s.tim.holdFrom = some (g, t0) → s.rd TIM_STATUS.STATE = 1 → s.tim.fromHold = true →
    Does .holdoverExpire s (fun t => t.rd TIM_STATUS.STATE = 1 ∧ t.rd TIM_STATUS.QUALITY = 3 ∧ t.tim.fromHold = false)) ∧
  (∀ s : State, s.tim.carried = false → Does .aoCounterCorrect s (fun t =>
    t.tim.aoGtc = t.tim.gtc ∧ t.tim.aoTick = t.tick ∧ s.tim.aoTick + nsPerSec ≤ t.tick ∧ t.tim.aoRatio = Config.aoRatio s.free)) ∧
  (∀ (s : State) (who : Nat), s.shut who = false → Does (.gtcNsRead who) s (fun t =>
    t.reply = s.tim.gtc % 1000000000 ∧ t.tim.gtcLatch = tabSet s.tim.gtcLatch who (s.tim.gtc / 1000000000) ∧ t.regs = s.regs)) ∧
  (∀ (s : State) (who inst : Nat), s.shut who = false → inst < 4 → Does (.grainAngleRead who inst) s (fun t =>
    t.reply = (s.grain inst).acc / 2 ^ 32 % 2 ^ 32 ∧
    t.tim.cycLatch = tabSet s.tim.cycLatch (4 * who + inst) ((s.grain inst).acc / 2 ^ 64 % 2 ^ 32) ∧ t.regs = s.regs)) ∧
  (∀ (s : State) (at_ : Nat), at_ = unsgn 64 (sgn 32 (s.rd TIM_PPS_OUT_OFS.NS) % 1000000000) → s.on TIM_PPS_OUT_CFG.ENABLE = true →
    (s.advanceTo (s.tick + (nsPerSec - (s.tim.gtc + nsPerSec - at_) % nsPerSec))).gateAt = true →
    Does .ppsOutPulse s (fun t => t.pins.ppsOut = true ∧ s.tick < t.tick ∧
      t.tim.ppsEnd = t.tick + 1000 * max 1 (s.rd TIM_PPS_OUT_CFG.WIDTH_US) ∧
      (s.tim.carried = false → ((t.tim.gtc % nsPerSec : Nat) : Int) = sgn 32 (s.rd TIM_PPS_OUT_OFS.NS) % 1000000000))) ∧
  (∀ (s : State) (at_ : Nat), at_ = unsgn 64 (sgn 32 (s.rd TIM_PPS_OUT_OFS.NS) % 1000000000) →
    (s.on TIM_PPS_OUT_CFG.ENABLE = false ∨
      (s.advanceTo (s.tick + (nsPerSec - (s.tim.gtc + nsPerSec - at_) % nsPerSec))).gateAt = false) →
    Does .ppsOutPulse s (fun t => t.pins = s.pins)) ∧
  (∀ s : State, s.pins.ppsOut = true → Does .ppsOutPulseEnd s (fun t => t.pins.ppsOut = false ∧ s.tim.ppsEnd ≤ t.tick)) ∧
  (∀ (s : State) (ocxo : Bool), s.wf = true → s.on (if ocxo then TIM_STATUS.OCXO_OK else TIM_STATUS.CLK10M_OK) = true →
    Does (.oscClockLost ocxo) s (fun t => t.on (if ocxo then TIM_STATUS.OCXO_OK else TIM_STATUS.CLK10M_OK) = false ∧
      (s.rd TIM_SRC_CTRL.OSC = (if ocxo then 1 else 2) → s.told 46 < t.told 46))) ∧
  (∀ (s : State) (ocxo : Bool), s.wf = true →
    Does (.oscClockDetected ocxo) s (fun t => t.on (if ocxo then TIM_STATUS.OCXO_OK else TIM_STATUS.CLK10M_OK) = true))

/-- R70 to R74, R77, R78: Grain loss, the measurement of a cycle, coasting and reversion, and the firing of a mark. -/
def Obligations.GrainAndMarks : Prop :=
  (∀ (s : State) (n : Nat), s.wf = true → n < 4 → (s.gstate n = 1 ∨ s.gstate n = 2) →
    Does (.grainRefGap n) s (fun t => (s.grain n).gapFrom + s.gapTicks n ≤ t.tick ∧
      ((t.gstate n = 3 ∧ t.on TIM_GRAINn_STATUS.REF_OK n = false) ∨
       (t.gstate n = s.gstate n ∧ t.on TIM_GRAINn_STATUS.ON_ALT n = true ∧ t.on TIM_GRAINn_STATUS.REF_OK n = true ∧ s.told 42 < t.told 42)))) ∧
  (∀ (s : State) (n : Nat), s.wf = true → n < 4 → s.gstate n ≠ 0 → (s.grain n).inc ≠ 0 → s.cyc n ≤ (s.grain n).wrapCycle →
    Does (.grainCycleWrap n) s (fun t => s.cyc n + 1 ≤ t.cyc n ∧ (t.grain n).wrapCycle = t.cyc n ∧ (t.grain n).deltas.length ≤ 16)) ∧
  (∀ (s : State) (n : Nat), s.wf = true → n < 4 → s.gstate n = 3 → s.revertsAtFlag n = false → (s.grain n).inc ≠ 0 →
    Does (.grainCoastFlag n) s (fun t => t.on TIM_GRAINn_STATUS.COASTING n = true ∧ t.gstate n = 3 ∧ s.coastFrom n + 2 ≤ t.cyc n)) ∧
  (∀ (s : State) (n : Nat), s.wf = true → n < 4 → s.gstate n = 3 → s.revertsAtFlag n = true → (s.grain n).inc ≠ 0 →
    Does (.grainCoastFlag n) s (fun t => t.on TIM_GRAINn_STATUS.COASTING n = true ∧ t.gstate n = 4)) ∧
  (∀ (s : State) (n : Nat), s.wf = true → n < 4 → s.gstate n = 3 → s.on TIM_GRAINn_COAST.TIMEOUT n = true → (s.grain n).inc ≠ 0 →
    s.rd TIM_GRAINn_CTRL.NOMINAL_MHZ n ≠ 0 →
    Does (.grainNominalRevert n) s (fun t => t.gstate n = 4 ∧ t.on TIM_GRAINn_STATUS.COASTING n = true ∧
      (t.grain n).inc = 2 ^ 64 * s.rd TIM_GRAINn_CTRL.NOMINAL_MHZ n / 1000000000000 ∧
      s.coastFrom n + max 2 (s.rd TIM_GRAINn_COAST.TIMEOUT n) ≤ t.cyc n)) ∧
  (∀ (s : State) (m c x : Nat), s.wf = true → m < 256 → s.markNext m = some (c, x) →
    (s.tim.markTick = s.tick && s.tim.markDone.contains m) = false → s.markOwner.any (fun p => p.2 == Blk.bit .tim + 1) = false →
    (s.grain (s.rd TIM_MARKn_CFG.INSTANCE m)).inc ≠ 0 →
    Does (.angleMarkFire m) s (fun t => t.bitAt TIM_MARK_SEENk.SEEN m = true ∧ tabGet t.tim.markCycle m = c + 1)) ∧
  (∀ (s : State) (m : Nat), m < 256 → s.tim.markTick = s.tick → s.tim.markDone.contains m = true → Does (.angleMarkFire m) s (fun t =>
    t = { s with tim := { s.tim with markDone := s.tim.markDone.filter (fun k => k != m) } }))

/-- R263, R278, R268: the link, Memory Space Enable and the unmasking of a vector. -/
def Obligations.LinkAndFunctionSwitches : Prop :=
  (∀ (s : State) (rate width : Nat) (rev : Bool), s.wf = true → s.pins.perstN = true → s.rd HIF_LINK_STATUS.LTSSM ∉ [3, 6] →
    min rate (s.rd HIF_LINK_CFG.MAX_RATE) ≠ 0 → linkWidth (min width (s.rd HIF_LINK_CFG.MAX_WIDTH)) ≠ 0 →
    Does (.linkUp rate width rev) s (fun t => t.rd HIF_LINK_STATUS.LTSSM = 3 ∧
      t.rd HIF_LINK_STATUS.RATE = min rate (s.rd HIF_LINK_CFG.MAX_RATE) ∧
      t.rd HIF_LINK_STATUS.WIDTH = linkWidth (min width (s.rd HIF_LINK_CFG.MAX_WIDTH)) ∧ t.rd HIF_LINK_STATUS.REVERSED = b2n rev ∧
      s.told 304 < t.told 304 ∧
      (rate < s.rd HIF_LINK_CFG.MAX_RATE ∨ linkWidth (min width (s.rd HIF_LINK_CFG.MAX_WIDTH)) < s.rd HIF_LINK_CFG.MAX_WIDTH → s.told 305 < t.told 305))) ∧
  (∀ s : State, s.wf = true → (s.rd HIF_LINK_STATUS.LTSSM = 3 ∨ s.rd HIF_LINK_STATUS.LTSSM = 5) → Does .linkRetrain s (fun t =>
    t.rd HIF_LINK_STATUS.LTSSM = 4 ∧ t.rd64 HIF_cnt_LO.COUNT 8 = (s.rd64 HIF_cnt_LO.COUNT 8 + 1) % 2 ^ 64 ∧ s.told 304 < t.told 304)) ∧
  (∀ (s : State) (f : Nat), s.wf = true → f < 256 → s.on HIF_FNf_STATE.PRESENT f = true →
    Does (.memorySpaceDisable f) s (fun t => t.on HIF_FNf_STATE.MSE f = false ∧ t.on HIF_FNf_STATE.PRESENT f = true ∧
      ∀ a, a ≠ HIF_FNf_STATE.MSE.addr f 0 → t.reg a = s.reg a)) ∧
  (∀ (s : State) (f : Nat), s.wf = true → f < 256 → s.on HIF_FNf_STATE.PRESENT f = true →
    Does (.memorySpaceEnable f) s (fun t => t.on HIF_FNf_STATE.MSE f = true ∧ t.on HIF_FNf_STATE.PRESENT f = true ∧
      ∀ a, a ≠ HIF_FNf_STATE.MSE.addr f 0 → t.reg a = s.reg a)) ∧
  (∀ (s : State) (f e : Nat), s.wf = true → f < 256 → e ≤ s.rd HIF_FNf_MSIX.SIZE f → s.msixOpen f = true → s.msixPending f e = true →
    Does (.msixVectorUnmask f e) s (fun t => t.msixMasked f e = false ∧ t.msixPending f e = false ∧ Out.msix f e ∈ t.sent)) ∧
  (∀ (s : State) (f e : Nat), s.wf = true → f < 256 → e ≤ s.rd HIF_FNf_MSIX.SIZE f → s.msixOpen f = false →
    Does (.msixVectorUnmask f e) s (fun t => t.msixMasked f e = false ∧ t.sent = s.sent ∧ ∀ x, t.msixPending f x = s.msixPending f x))

/-- R280, R265: the answer to a configuration request, by the state of the function. -/
def Obligations.ConfigurationRequests : Prop :=
  (∀ (s : State) (f : Nat) (reg : CfgReg) (write : Bool) (val : Word), s.wf = true → f < 256 → s.on HIF_FNf_STATE.PRESENT f = false →
    Does (.configRequest f reg write val) s (fun t => Out.urReply f ∈ t.sent ∧ t.hif = s.hif)) ∧
  (∀ (s : State) (f : Nat) (reg : CfgReg) (write : Bool) (val : Word), s.wf = true → f < 256 → s.on HIF_FNf_STATE.PRESENT f = true →
    s.on HIF_FNf_STATE.READY f = false →
    Does (.configRequest f reg write val) s (fun t => Out.crs f ∈ t.sent ∧ t.hif = s.hif)) ∧
  (∀ (s : State) (f : Nat) (reg : CfgReg) (val : Word), s.wf = true → f < 256 → s.on HIF_FNf_STATE.PRESENT f = true →
    s.on HIF_FNf_STATE.READY f = true →
    Does (.configRequest f reg false val) s (fun t => Out.cfgReply f (s.cfgRead f reg) ∈ t.sent ∧ t.hif = s.hif)) ∧
  (∀ (s : State) (f : Nat) (reg : CfgReg) (val : Word), s.wf = true → f < 256 → s.on HIF_FNf_STATE.PRESENT f = true →
    s.on HIF_FNf_STATE.READY f = true →
    Does (.configRequest f reg true val) s (fun t => Out.cfgReply f 0 ∈ t.sent ∧ t.hif = (s.cfgWrite f val.toNat reg).hif)) ∧
  (∀ (s : State) (val : Word), s.wf = true → s.on HIF_FNf_STATE.PRESENT 0 = true → s.on HIF_FNf_STATE.READY 0 = true →
    Does (.configRequest 0 .ariHier true val) s (fun t =>
      t.hif.ariHier = (val.toNat % 2 == 1) ∧ t.rd HIF_VF_ROUTE.NEXT_BUS = 1 - val.toNat % 2))

/-- R278 to R281, R283: what takes a function out of service and what brings it back. -/
def Obligations.FunctionService : Prop :=
  (∀ (s : State) (f : Nat), s.on HIF_FNf_STATE.PRESENT f = true → Does (.busMasterEnable f) s (fun t =>
    t = (((((s.wr HIF_FNf_STATE.BME 1 f).releaseHeld f).flushNvme f).msixFlush f).retryAll).kickRings f)) ∧
  (∀ (s : State) (f : Nat), s.on HIF_FNf_STATE.PRESENT f = true → s.on HIF_FNf_STATE.BME f = true →
    Does (.busMasterDisable f) s (fun t => t = (s.wr HIF_FNf_STATE.BME 0 f).stopFn f false true)) ∧
  (∀ (s : State) (f : Nat), s.on HIF_FNf_STATE.PRESENT f = true → s.on HIF_FNf_STATE.READY f = true →
    Does (.functionLevelReset f) s (fun t =>
      t = (((if f < 8 then ((s.raise 310 [i8 f]).vfsGone f).dropVfs f else s.raise 310 [i8 f])).fnReset f).showReady)) ∧
  (∀ (s : State) (f : Nat), s.on HIF_FNf_STATE.PRESENT f = true → (s.cfg f).initializing = true →
    s.on HIF_FNf_STATE.QUIESCED f = false → s.pins.perstN = true → s.rd PWR_STATUS.PSTATE = 0 → s.fnReady f = true →
    Does (.functionInitDone f) s (fun t => t = (if s.on HIF_FNf_STATE.FLR_BUSY f then s.dropQps f else s).becomeReady f)) ∧
  (∀ (s : State) (f : Nat), f < 8 → s.on HIF_FNf_STATE.PRESENT f = true → s.rd HIF_FNf_STATE.DSTATE f ≠ 3 →
    Does (.d3hotEntry f) s (fun t => t = (forEach (f :: s.vfsOf f)
      (fun f s => ((s.wr HIF_FNf_STATE.DSTATE 3 f).raise 313 [i8 f, i8 3]).stopFn f false true) s).linkPower)) ∧
  (∀ (s : State) (f : Nat), f < 8 → s.on HIF_FNf_STATE.PRESENT f = true → s.rd HIF_FNf_STATE.DSTATE f ≠ 0 →
    Does (.d0Entry f) s (fun t => t = (forEach (f :: s.vfsOf f)
      (fun f s => ((s.wr HIF_FNf_STATE.DSTATE 0 f).raise 313 [i8 f, i8 0]).resumeFn f) s).linkPower)) ∧
  (∀ (s : State) (f : Nat), s.wf = true → f ≠ 0 → f ≤ 4 → s.on HIF_FNf_STATE.READY f = true → (s.cfg f).vfEnable = false →
    Does (.vfEnable f) s (fun t => (t.cfg f).vfEnable = true ∧ s.told 315 < t.told 315 ∧
      ∀ v ∈ t.vfsOf f, v < 256 → t.on HIF_FNf_STATE.PRESENT v = true)) ∧
  (∀ (s : State) (f : Nat), f ≠ 0 → f ≤ 4 → (s.cfg f).vfEnable = true →
    Does (.vfDisable f) s (fun t => t = ((s.dropVfs f).showReady).raise 315 [i8 f, i16 (s.cfg f).numVfs])) ∧
  (∀ s : State, s.wf = true → Does .hotReset s (fun t => t.rd HIF_LINK_STATUS.LTSSM = 8 ∧ t = s.hifReset 8)) ∧
  (∀ s : State, s.wf = true → Does .linkDown s (fun t => t.rd HIF_LINK_STATUS.LTSSM = 0 ∧ t = s.hifReset 0)) ∧
  (∀ s : State, s.wf = true → s.pins.perstN = true → Does .perstAssert s (fun t => t.rd HIF_LINK_STATUS.LTSSM = 0 ∧
    t = State.hifReset ({ s with pins := { s.pins with perstN := false } }.raise 314 [i8 0]) 0))

/-- R262, R273, R276 to R279, R282: completions, timeouts and quarantined tags, and the message that takes the link to L2. -/
def Obligations.CompletionsAndTags : Prop :=
  (∀ (s : State) (f tag lower count status : Nat) (bytes : List Byte) (poisoned : Bool) (check : TlpCheck) (e : AerErr),
    linkError check = some e → Does (.completionReceive f tag lower count status bytes poisoned check) s (fun t =>
      t = s.aer 0 e ∧ t.hif = s.hif ∧ Out.aer (s.reporter 0) e e.message ∈ t.sent)) ∧
  (∀ (s : State) (f tag lower count status : Nat) (bytes : List Byte) (r : ReadReq), s.hif.reads.find? (fun r => r.fn == f && r.tag == tag) = some r →
    r.owed = false → status ≠ 0 → Does (.completionReceive f tag lower count status bytes false .good) s (fun t =>
      t = (((s.tlpIn f).dropRead f tag).readFailed r 4).readOver r)) ∧
  (∀ (s : State) (f tag lower count status : Nat) (bytes : List Byte) (poisoned : Bool) (check : TlpCheck),
    (check = .good ∨ (check = .ecrc ∧ (s.cfg 0).ecrcCheck = false)) →
    s.hif.reads.find? (fun r => r.fn == f && r.tag == tag) = none → s.hif.quar.any (fun q => q.1 == f && q.2.1 == tag) = true →
    Does (.completionReceive f tag lower count status bytes poisoned check) s (fun t =>
      t.hif.quar.any (fun q => q.1 == f && q.2.1 == tag) = false)) ∧
  (∀ (s : State) (f tag lower count status : Nat) (bytes : List Byte) (poisoned : Bool) (check : TlpCheck),
    (check = .good ∨ (check = .ecrc ∧ (s.cfg 0).ecrcCheck = false)) →
    s.hif.reads.find? (fun r => r.fn == f && r.tag == tag) = none → s.hif.quar.any (fun q => q.1 == f && q.2.1 == tag) = false →
    Does (.completionReceive f tag lower count status bytes poisoned check) s (fun t => t = (s.tlpIn f).unexpected f ∧ t.hif = s.hif)) ∧
  (∀ (s : State) (f tag : Nat) (bytes : List Byte) (r : ReadReq), s.hif.reads.find? (fun r => r.fn == f && r.tag == tag) = some r →
    r.owed = false → r.got.length + bytes.length < r.len → (r.addr + r.got.length + bytes.length) % 64 = 0 →
    Does (.completionReceive f tag ((r.addr + r.got.length) % 128) (r.len - r.got.length) 0 bytes false .good) s (fun t =>
      t.hif.reads.find? (fun r => r.fn == f && r.tag == tag) = some { r with got := r.got ++ bytes })) ∧
  (∀ (s : State) (f tag : Nat) (bytes : List Byte) (r : ReadReq), s.hif.reads.find? (fun r => r.fn == f && r.tag == tag) = some r →
    r.owed = false → r.got.length + bytes.length = r.len →
    Does (.completionReceive f tag ((r.addr + r.got.length) % 128) (r.len - r.got.length) 0 bytes false .good) s (fun t =>
      t = ((((s.tlpIn f).dropRead f tag).readDone { r with got := r.got ++ bytes }).readOver r))) ∧
  (∀ (s : State) (f tag : Nat) (r : ReadReq), s.hif.reads.find? (fun r => r.fn == f && r.tag == tag) = some r →
    (s.cfg f).ctoDisable = false → Does (.completionTimeout f tag) s (fun t => r.issue + s.cplTimeout f ≤ t.tick ∧
      ∃ u : State, t = (((u.dropRead f tag).quarantine f tag).readFailed r 1).readOver r ∧
        u = ((((((s.advanceTo (r.issue + s.cplTimeout f)).count HIF_cnt_LO.COUNT 2).bump HIF_FNf_CPL.CTO f).cal 1363 1 { req := some f })
          ).aer f .completionTimeout).raise 306 [i8 f, i16 tag])) ∧
  (∀ (s : State) (f tag : Nat) (q : Nat × Nat × Nat), s.hif.quar.find? (fun q => q.1 == f && q.2.1 == tag) = some q →
    Does (.tagQuarantineExpire f tag) s (fun t => q.2.2 + 1000000 * max 1 (s.rd HIF_QUAR.QUAR_MS) ≤ t.tick ∧
      t.hif.quar = s.hif.quar.filter (fun q => !(q.1 == f && q.2.1 == tag)))) ∧
  (∀ (s : State) (f : Nat), s.wf = true → s.on HIF_FNf_STATE.FLR_BUSY f = true → s.on HIF_FNf_STATE.QUIESCED f = true →
    Does (.flrDeadline f) s (fun t => (s.cfg f).flrTick + 100000000 ≤ t.tick ∧
      ∃ u : State, t = (((u.showTags f).retryWaiting).settle f).dmaStopped ∧ ∀ r ∈ u.hif.reads, r.fn ≠ f)) ∧
  (∀ (s : State) (f tag lower count status : Nat) (bytes : List Byte) (poisoned : Bool), s.wf = true →
    (s.rd HIF_LINK_STATUS.LTSSM = 3 ∨ s.rd HIF_LINK_STATUS.LTSSM = 5) →
    Does (.completionReceive f tag lower count status bytes poisoned .turnOff) s (fun t => t.rd HIF_LINK_STATUS.LTSSM = 6 ∧
      t.hif = s.hif ∧ t.rings = s.rings ∧ s.told 304 < t.told 304))

/-- R266, R289 to R291, R294, R300: doorbells, the taking of entries and ring interrupts. -/
def Obligations.RingService : Prop :=
  (∀ (s : State) (f n off : Nat) (full : Bool) (val : Word), s.wf = true → f < 256 → s.memOpen f = false →
    Does (.doorbellWrite f n off full val) s (fun t => Out.aer (s.reporter f) .unsupportedRequest .nonfatal ∈ t.sent ∧ t.rings = s.rings)) ∧
  (∀ (s : State) (f n off : Nat) (full : Bool) (val : Word), s.wf = true → f < 256 → s.memOpen f = true →
    (8 ≤ f → 4096 * n < doorbellSize (s.vfAllow (s.pfOf f))) → (off ≠ 0 ∨ full = false ∨ s.rd QMG_ADM_ALLOW.ALLOW f ≤ n) →
    Does (.doorbellWrite f n off full val) s (fun t => t = (s.tlpIn f).bad ∧ t.rings = s.rings)) ∧
  (∀ (s : State) (f n : Nat) (val : Word), s.wf = true → f < 256 → s.memOpen f = true → n < s.rd QMG_ADM_ALLOW.ALLOW f →
    (8 ≤ f → 4096 * n < doorbellSize (s.vfAllow (s.pfOf f))) →
    s.findRing f n = none →
    Does (.doorbellWrite f n 0 true val) s (fun t => t = ((s.tlpIn f).count QMG_cnt_LO.COUNT 4).raise 321 [i8 f, i16 n])) ∧
  (∀ (s : State) (f n g : Nat) (val : Word), s.wf = true → f < 256 → s.memOpen f = true → n < s.rd QMG_ADM_ALLOW.ALLOW f →
    (8 ≤ f → 4096 * n < doorbellSize (s.vfAllow (s.pfOf f))) →
    s.findRing f n = some g → (s.ring g).destroying = false → s.rd QMG_RINGg_DESC.STATE g = 1 →
    { s.ring g with tail := val.toNat } ≠ ({} : RingSt) →
    (val.toNat + 2 ^ 32 - s.rd QMG_RINGg_CONS.CONS g) % 2 ^ 32 ≤ s.ringSize g →
    Does (.doorbellWrite f n 0 true val) s (fun t => t.rings = tabSet s.rings g { s.ring g with tail := val.toNat })) ∧
  (∀ (s : State) (f n g : Nat) (val : Word), s.wf = true → f < 256 → s.memOpen f = true → n < s.rd QMG_ADM_ALLOW.ALLOW f →
    (8 ≤ f → 4096 * n < doorbellSize (s.vfAllow (s.pfOf f))) →
    s.findRing f n = some g → (s.ring g).destroying = false → s.rd QMG_RINGg_DESC.STATE g = 2 →
    { s.ring g with tail := val.toNat } ≠ ({} : RingSt) →
    s.ringSize g < (val.toNat + 2 ^ 32 - s.rd QMG_RINGg_CONS.CONS g) % 2 ^ 32 →
    Does (.doorbellWrite f n 0 true val) s (fun t =>
      t = ((s.tlpIn f).setRing g { s.ring g with tail := val.toNat }).functionFault f g 7 none)) ∧
  (∀ (s : State) (f n g : Nat) (val : Word), s.wf = true → f < 256 → s.memOpen f = true → n < s.rd QMG_ADM_ALLOW.ALLOW f →
    (8 ≤ f → 4096 * n < doorbellSize (s.vfAllow (s.pfOf f))) →
    s.findRing f n = some g → (s.ring g).destroying = false → s.rd QMG_RINGg_DESC.STATE g = 2 → (s.ring g).copies = [] →
    (val.toNat + 2 ^ 32 - s.rd QMG_RINGg_CONS.CONS g) % 2 ^ 32 ≤ s.ringSize g → { s.ring g with tail := val.toNat } ≠ ({} : RingSt) →
    Does (.doorbellWrite f n 0 true val) s (fun t =>
      t = ((s.tlpIn f).setRing g { s.ring g with tail := val.toNat }).fetchEntries g)) ∧
  (∀ (s : State) (g : Nat), Does (.entryFetch g) s (fun t => t = (s.takeEntries g ((s.ring g).copies.length + 1)).fetchEntries g)) ∧
  (∀ (s : State) (g t0 : Nat), (s.ring g).ownFrom = some t0 → s.rd QMG_RINGg_DESC.STATE g = 2 →
    (s.ring g).copies.any (fun c => c.1 == s.rd QMG_RINGg_CONS.CONS g && !copyOwned c) = true →
    Does (.entryRefetch g) s (fun t => s.tick < t.tick ∧
      t = (s.advanceTo (t0 + ((s.tick - t0) / 1000 + 1) * 1000)).refetch g (s.rd QMG_RINGg_CONS.CONS g))) ∧
  (∀ (s : State) (g t0 : Nat), (s.ring g).ownFrom = some t0 → s.rd QMG_RINGg_DESC.STATE g = 2 →
    Does (.ownWaitExpire g) s (fun t => (s.ring g).ownEnd ≤ t.tick ∧
      t = (s.advanceTo (s.ring g).ownEnd).functionFault (s.rd QMG_RINGg_DESC.FN g) g 6 (some { idx := s.rd QMG_RINGg_CONS.CONS g }))) ∧
  (∀ (s : State) (g status detail len result : Nat) (j : Job), s.headJob g = some j → j.ready = true →
    Does (.jobComplete g status detail len result) s (fun t => t = s.finishJob g j.idx status detail len result)) ∧
  (∀ (s : State) (g : Nat), (s.ring g).unsig ≠ 0 → (s.ring g).itime ≠ 0 → (s.ring g).ien = true →
    s.on HIF_FNf_STATE.FAULT (s.rd QMG_RINGg_DESC.FN g) = false →
    Does (.ringInterruptTimer g) s (fun t => (s.ring g).unsigFrom + 1000 * (s.ring g).itime ≤ t.tick ∧
      t = (s.advanceTo ((s.ring g).unsigFrom + 1000 * (s.ring g).itime)).ringSignal g)) ∧
  (∀ (s : State) (f n off : Nat) (full : Bool) (val : Word), s.memOpen f = true → 8 ≤ f → doorbellSize (s.vfAllow (s.pfOf f)) ≤ 4096 * n →
    Does (.doorbellWrite f n off full val) s (fun t => t = s.tlpIn f))

/-- R285, R295 to R299: the admin ring and its commands. -/
def Obligations.AdminCommands : Prop :=
  (∀ (s : State) (f : Nat) (val : Word), s.wf = true → f < 256 → s.on QMG_ADM_CFG.ENABLE f = false → bitOf val.toNat 31 = false →
    Does (.adminRingEnable f val) s (fun t => t.rd QMG_ADM_CFG.LOG2 f = bitsOf val.toNat 16 5 ∧
      t.rd QMG_ADM_CFG.VECTOR f = bitsOf val.toNat 0 11 ∧ t.on QMG_ADM_CFG.ENABLE f = false ∧ t.rings = s.rings)) ∧
  (∀ (s : State) (f g : Nat) (val : Word), s.wf = true → f < 256 → s.on QMG_ADM_CFG.ENABLE f = false → bitOf val.toNat 31 = true →
    6 ≤ bitsOf val.toNat 16 5 → bitsOf val.toNat 16 5 ≤ 16 →
    (s.rd QMG_ADM_BASE_LO.BASE f + s.rd QMG_ADM_BASE_HI.BASE f * 2 ^ 32) % 4096 = 0 → s.freeRing = some g → s.findRing f 0 = none →
    Does (.adminRingEnable f val) s (fun t =>
      t = (((s.wr QMG_ADM_CFG.LOG2 (bitsOf val.toNat 16 5) f).wr QMG_ADM_CFG.VECTOR (bitsOf val.toNat 0 11) f).wr QMG_ADM_CFG.ENABLE 1 f
        ).makeRing g f 0 0 (bitsOf val.toNat 16 5)
          { base := s.rd QMG_ADM_BASE_LO.BASE f + s.rd QMG_ADM_BASE_HI.BASE f * 2 ^ 32, vector := bitsOf val.toNat 0 11, ien := true,
            icount := 1 })) ∧
  (∀ (s : State) (f g : Nat) (val : Word), s.wf = true → f < 256 → s.on QMG_ADM_CFG.ENABLE f = true → bitOf val.toNat 31 = false →
    bitsOf val.toNat 16 5 = s.rd QMG_ADM_CFG.LOG2 f → bitsOf val.toNat 0 11 = s.rd QMG_ADM_CFG.VECTOR f → s.findRing f 0 = some g →
    Does (.adminRingEnable f val) s (fun t => t = (s.wr QMG_ADM_CFG.ENABLE 0 f).beginDestroy g)) ∧
  (∀ (s : State) (g : Nat) (j : Job), s.jobOf g 0 = some j → Does (.noOp g) s (fun t => t = s.finishJob g j.idx 0)) ∧
  (∀ (s : State) (g : Nat) (j : Job), s.jobOf g 1 = some j → Does (.identify g) s (fun t =>
    t = s.answerJob g j (s.identity (s.rd QMG_RINGg_DESC.FN g)))) ∧
  (∀ (s : State) (g h : Nat) (j : Job), s.jobOf g 2 = some j → s.createRefused (s.rd QMG_RINGg_DESC.FN g) j.qw = 0 →
    s.findRing (s.rd QMG_RINGg_DESC.FN g) (bitsOf (qwAt j.qw 1) 0 14) = none → s.freeRing = some h →
    bitsOf (qwAt j.qw 7) 0 11 ≤ s.rd HIF_FNf_MSIX.SIZE (s.rd QMG_RINGg_DESC.FN g) →
    Does (.createRing g) s (fun t => t =
      (s.makeRing h (s.rd QMG_RINGg_DESC.FN g) (bitsOf (qwAt j.qw 1) 0 14) (bitsOf (qwAt j.qw 1) 22 2) (bitsOf (qwAt j.qw 1) 16 5)
        { base := qwAt j.qw 6, ro := bitOf (qwAt j.qw 1) 24, prefetch := bitsOf (qwAt j.qw 1) 25 5, bind := bitsOf (qwAt j.qw 1) 32 32,
          vector := bitsOf (qwAt j.qw 7) 0 11, ien := bitOf (qwAt j.qw 7) 11, icount := bitsOf (qwAt j.qw 7) 16 12,
          itime := bitsOf (qwAt j.qw 7) 32 16 }).finishJob g j.idx 0 0 0 h)) ∧
  (∀ (s : State) (g : Nat) (j : Job), s.jobOf g 2 = some j → s.createRefused (s.rd QMG_RINGg_DESC.FN g) j.qw ≠ 0 →
    Does (.createRing g) s (fun t => t = s.createFail.finishJob g j.idx 4 (s.createRefused (s.rd QMG_RINGg_DESC.FN g) j.qw))) ∧
  (∀ (s : State) (g h : Nat) (j : Job), s.jobOf g 3 = some j → bitsOf (qwAt j.qw 1) 0 14 ≠ 0 →
    s.findRing (s.rd QMG_RINGg_DESC.FN g) (bitsOf (qwAt j.qw 1) 0 14) = some h →
    Does (.destroyRing g) s (fun t => t = s.beginDestroy h)) ∧
  (∀ (s : State) (g h : Nat) (j : Job), s.jobOf g 4 = some j → s.findRing (s.rd QMG_RINGg_DESC.FN g) (bitsOf (qwAt j.qw 1) 0 14) = some h →
    bitsOf (qwAt j.qw 7) 0 11 ≤ s.rd HIF_FNf_MSIX.SIZE (s.rd QMG_RINGg_DESC.FN g) →
    Does (.modifyRing g) s (fun t => t = (s.setRing h { s.ring h with
      ro := bitOf (qwAt j.qw 1) 24, vector := bitsOf (qwAt j.qw 7) 0 11, ien := bitOf (qwAt j.qw 7) 11,
      icount := bitsOf (qwAt j.qw 7) 16 12, itime := bitsOf (qwAt j.qw 7) 32 16 }).finishJob g j.idx 0)) ∧
  (∀ (s : State) (g h : Nat) (j : Job), s.jobOf g 5 = some j → s.findRing (s.rd QMG_RINGg_DESC.FN g) (bitsOf (qwAt j.qw 1) 0 14) = some h →
    Does (.queryRing g) s (fun t => t = s.finishJob g j.idx 0 0 (s.rd QMG_RINGg_CONS.CONS h)
      (s.rd QMG_RINGg_DESC.STATE h + s.rd QMG_RINGg_DESC.LOG2 h * 2 ^ 3 + s.rd QMG_RINGg_DESC.TYPE h * 2 ^ 8))) ∧
  (∀ (s : State) (g h : Nat) (j : Job), s.jobOf g 6 = some j → s.findRing (s.rd QMG_RINGg_DESC.FN g) (bitsOf (qwAt j.qw 1) 0 14) = some h →
    Does (.ringCounters g) s (fun t => t = s.answerJob g j ((s.ring h).cnt.flatMap (leBytes 8) ++ leBytes 8 0))) ∧
  (∀ (s : State) (g : Nat) (c : Instr) (op : Nat) (j : Job), s.jobOf g op = some j →
    ((c = .destroyRing g ∧ op = 3 ∧ bitsOf (qwAt j.qw 1) 0 14 ≠ 0) ∨ (c = .modifyRing g ∧ op = 4) ∨ (c = .queryRing g ∧ op = 5) ∨
      (c = .ringCounters g ∧ op = 6)) →
    s.findRing (s.rd QMG_RINGg_DESC.FN g) (bitsOf (qwAt j.qw 1) 0 14) = none → Does c s (fun t => t = s.finishJob g j.idx 5))

/-- R187, R299, R351, R456: the jobs and the posted buffers of the network, measurement and management functions. -/
def Obligations.FunctionJobs : Prop :=
  (∀ (s : State) (g : Nat) (j : Job), s.rd QMG_RINGg_DESC.TYPE g = 1 → s.pfOf (s.rd QMG_RINGg_DESC.FN g) = 1 → s.jobOf g 0x80 = some j →
    Does (.transmit g) s (fun t => t = ((s.schEnqueue (s.ring g).bind { bytes := j.bytes, port := 40, cls := s.qClass (s.ring g).bind }).1
      ).finishJob g j.idx 0)) ∧
  (∀ (s : State) (g : Nat) (c : Instr) (op : Nat) (j : Job),
    ((c = .receiveBuffer g ∧ op = 0x81 ∧ s.rd QMG_RINGg_DESC.TYPE g = 2 ∧ s.pfOf (s.rd QMG_RINGg_DESC.FN g) = 1) ∨
     (c = .measurementBuffer g ∧ op = 0x80 ∧ s.rd QMG_RINGg_DESC.TYPE g = 2 ∧ s.pfOf (s.rd QMG_RINGg_DESC.FN g) = 2) ∨
     (c = .eventBuffer g ∧ op = 0x80 ∧ s.eventRing = some g)) →
    (s.ring g).jobs.find? (fun j => j.done.isNone && !j.posted && j.ready && j.opcode == op) = some j →
    Does c s (fun t => (∃ x ∈ (t.ring g).jobs, x.idx = j.idx ∧ x.posted = true) ∧ t.regs = s.regs ∧ t.sent = s.sent)) ∧
  (∀ (s : State) (g : Nat) (j : Job), s.rd QMG_RINGg_DESC.FN g = 0 → s.jobOf g 0x81 = some j → 64 ≤ j.room → j.room ≤ 1048576 →
    let valid := s.validJseqs
    let want := bitsOf (j.qw.getD 1 0) 0 48
    let gap := !valid.isEmpty && decide (want < valid.foldl min (2 ^ 48))
    let data := s.journalFrom (j.room / 64) (if gap then valid.foldl min (2 ^ 48) else want)
    Does (.journalRead g) s (fun t =>
      t = ((s.writeFrags 0 (s.ring g).ro j.frags data).ringCount g 5 data.length).finishJob g j.idx (if gap then 0x120 else 0) 0 data.length (data.length / 64))) ∧
  (∀ (s : State) (g : Nat) (j : Job), s.rd QMG_RINGg_DESC.FN g = 0 → s.jobOf g 0x81 = some j → j.room < 64 ∨ 1048576 < j.room →
    Does (.journalRead g) s (fun t => t = s.finishJob g j.idx 4 24)) ∧
  (∀ (s : State) (g : Nat) (j : Job), s.rd QMG_RINGg_DESC.FN g = 0 → s.jobOf g 0x82 = some j →
    Does (.raiseTest g) s (fun t => t = (s.raise 498 [i64 (j.qw.getD 6 0)]).finishJob g j.idx 0))

/-- R447, R448, R451, R453: release of records, the journal, rate-limit windows and the EVT_OUT pulse. -/
def Obligations.EventCommands : Prop :=
  (∀ (s : State) (r : EvRec) (rest : List EvRec), firstRec s.evt.held = some (r, rest) → Does .eventRelease s (fun t =>
    r.tick + 2000 ≤ t.tick ∧ (∀ x ∈ s.evt.held, x.before r = false) ∧
    t = ({ s.advanceTo (r.tick + 2000) with evt := { s.evt with held := rest } }).release r)) ∧
  (∀ (s : State) (src inst : Nat) (w : RateWin), s.evt.wins.find? (fun w => w.src == src && w.inst == inst) = some w → w.count = 0 →
    Does (.rateLimitWindowEnd src inst) s (fun t => w.endTick ≤ t.tick ∧ t.evt.held = s.evt.held ∧
      t.evt.wins.find? (fun w => w.src == src && w.inst == inst) = none)) ∧
  (∀ (s : State) (src inst : Nat) (w : RateWin), s.evt.wins.find? (fun w => w.src == src && w.inst == inst) = some w → w.count ≠ 0 →
    Does (.rateLimitWindowEnd src inst) s (fun t => w.endTick ≤ t.tick ∧
      t.evt.wins.find? (fun w => w.src == src && w.inst == inst) =
        some { src := src, inst := inst, endTick := t.tick + 100000000, count := 0, last := w.last } ∧
      ∃ r, t.evt.held = s.evt.held ++ [r] ∧ r.src = src ∧ r.summary = true ∧ r.suppressed = w.count ∧ r.items = w.last)) ∧
  (∀ (s : State) (r : EvRec) (rest : List EvRec), s.wf = true → s.evt.jwriting = true → s.evt.jq = r :: rest → rest ≠ [] →
    s.on PWR_STATUS.NV_REFUSED = false →
    Does .journalSlotWritten s (fun t => s.evt.jstart + 540 ≤ t.tick ∧ t.rd64 EVT_JSEQ_LO.JSEQ = (s.jseq + 1) % 2 ^ 48 ∧
      t.evt.jq = rest ∧ t.evt.jwriting = true ∧ t.mramRead (64 * (s.jseq % 16384)) 64 = r.bytes s.jseq)) ∧
  (∀ (s : State) (r : EvRec), s.wf = true → s.evt.jwriting = true → s.evt.jq = [r] →
    Does .journalSlotWritten s (fun t => s.evt.jstart + 540 ≤ t.tick ∧ t.rd64 EVT_JSEQ_LO.JSEQ = (s.jseq + 1) % 2 ^ 48 ∧
      t.evt.jq = [] ∧ t.evt.jwriting = false ∧ t.mramRead (64 * (s.jseq % 16384)) 64 = r.bytes s.jseq)) ∧
  (∀ s : State, s.on EVT_CFG.OUT_MODE = true → Does .evtOutPulseEnd s (fun t => s.evt.outPulseEnd ≤ t.tick ∧ t.pins.evtOut = false))

/-- R435, R436, R438 to R440: counters that wrap or sample, and histograms. -/
def Obligations.CalipersCommands : Prop :=
  (∀ (s : State) (e : Nat), s.wf = true → e < 1535 → s.calCyc e = false → s.rd64 CAL_CNTe_LO.COUNT e = 2 ^ 48 - 1 →
    s.bitAt CAL_CHAINk.CHAIN e = false → s.bitAt CAL_OVF_EVTk.EN e = false →
    Does (.counterWrap e) s (fun t => t.rd64 CAL_CNTe_LO.COUNT e = 0)) ∧
  (∀ (s : State) (e : Nat), s.wf = true → e < 1535 → s.calCyc e = false → s.rd64 CAL_CNTe_LO.COUNT e = 2 ^ 48 - 1 →
    s.bitAt CAL_CHAINk.CHAIN e = false → s.bitAt CAL_OVF_EVTk.EN e = true →
    Does (.counterWrap e) s (fun t => t = (s.calAdd e 1) ∧ t.bitAt CAL_OVFk.OVF e = true ∧ s.told 480 < t.told 480)) ∧
  (∀ (s : State) (j agent : Nat), j < 128 → s.on CAL_FCj_SEL.SAMPLE_EN j = true → s.calFed (1408 + j) = false →
    s.calCyc (1408 + j) = false → s.rd CAL_FCj_PERIOD.PERIOD j ≤ s.rd64 CAL_CNTe_LO.COUNT (1408 + j) + 1 →
    Does (.calSamplePeriod j agent) s (fun t =>
      let u := (s.wr64 CAL_CNTe_LO.COUNT 0 (1408 + j)).calAdd 1312 1
      t = if 768 ≤ s.rd CAL_FCj_SEL.EVENT j ∧ s.rd CAL_FCj_SEL.EVENT j < 1168 then u.out (.threadIrq agent)
        else u.raise 481 [i16 (1408 + j)])) ∧
  (∀ (s : State) (u i : Nat), s.wf = true → u < 64 → i < 32 → Does (.histogramClear u) s (fun t =>
    t.rd64 CAL_HUu_BINi_LO.COUNT u i = 0 ∧ t.rd CAL_HUu_MAX.VALUE u = 0)) ∧
  (∀ (s : State) (u probe index v : Nat), s.wf = true → u < 64 → probe ≠ 0 → s.rd CAL_HUu_CFG.PROBE u = probe →
    (s.on CAL_HUu_CFG.ANY u = true ∨ s.rd CAL_HUu_CFG.INDEX u = index) → s.on CAL_HUu_CTRL.FREEZE u = true →
    Does (.histogramSample probe index v) s (fun t =>
      t.rd CAL_HUu_MISSED.VALUE u = min (s.rd CAL_HUu_MISSED.VALUE u + 1) (2 ^ CAL_HUu_MISSED.VALUE.w - 1) ∧
      ∀ i, i < 32 → t.rd64 CAL_HUu_BINi_LO.COUNT u i = s.rd64 CAL_HUu_BINi_LO.COUNT u i)) ∧
  (∀ (s : State) (u probe index v : Nat), s.wf = true → u < 64 → probe ≠ 0 → s.rd CAL_HUu_CFG.PROBE u = probe →
    (s.on CAL_HUu_CFG.ANY u = true ∨ s.rd CAL_HUu_CFG.INDEX u = index) → s.on CAL_HUu_CTRL.FREEZE u = false →
    Does (.histogramSample probe index v) s (fun t =>
      t.rd CAL_HUu_MAX.VALUE u = max (s.rd CAL_HUu_MAX.VALUE u) (min v 0xFFFFFFFF) ∧
      let i := histBin (s.on CAL_HUu_CFG.MODE u) (s.rd CAL_HUu_UNIT.NS u) v
      t.rd64 CAL_HUu_BINi_LO.COUNT u i = min (s.rd64 CAL_HUu_BINi_LO.COUNT u i + 1) (2 ^ 48 - 1)))

/-- R174, R176, R177: rows of a bay come due and seal, and sample records reach the fabric. -/
def Obligations.AlignmentCommands : Prop :=
  (∀ (s : State) (b : Nat), b < 128 → s.bayRuns b = true → Does (.rowInstant b) s (fun t =>
    t = ((s.advanceTo (s.tickOfGtc (rowInst (bayRowHz (s.bayE b)) (s.bay b).due))).reachDue b).sealAll b)) ∧
  (∀ (s : State) (b : Nat), b < 128 → s.bayRuns b = true → (s.bay b).next < (s.bay b).due → Does (.rowHoldExpire b) s (fun t =>
    t = ((s.advanceTo (s.tickOfGtc ((rowOf (s.bay b) (s.bay b).next).inst + (rowOf (s.bay b) (s.bay b).next).hold))).sealRow b false
      ).sealAll b)) ∧
  (∀ (s : State) (x : SvRec) (rest : List SvRec), s.svi.recs = x :: rest → Does .sampleRecordPlace s (fun t => t.svi.recs = rest)) ∧
  (∀ (s : State) (x : SvRec) (rest : List SvRec), s.wf = true → s.svi.recs = x :: rest →
    (s.bayRuns (subBay (s.subE x.sub)) = false ∨ misfit (s.subE x.sub) (s.bayE (subBay (s.subE x.sub))) = true) →
    Does .sampleRecordPlace s (fun t => t.aln = s.aln ∧
      t.rd64 ALN_cnt_LO.COUNT 9 = (s.rd64 ALN_cnt_LO.COUNT 9 + 1) % 2 ^ 64)) ∧
  (∀ (s : State) (x : SvRec) (rest : List SvRec), s.wf = true → s.svi.recs = x :: rest →
    s.bayRuns (subBay (s.subE x.sub)) = true → misfit (s.subE x.sub) (s.bayE (subBay (s.subE x.sub))) = false →
    x.steps ≠ s.rd TIM_STATUS.STEPS →
    Does .sampleRecordPlace s (fun t => t.aln = s.aln ∧ s.told 226 < t.told 226 ∧
      t.rd64 ALN_cnt_LO.COUNT 10 = (s.rd64 ALN_cnt_LO.COUNT 10 + 1) % 2 ^ 64)) ∧
  (∀ (s : State) (x : SvRec) (rest : List SvRec) (n : Nat), s.wf = true → s.svi.recs = x :: rest →
    s.bayRuns (subBay (s.subE x.sub)) = true → misfit (s.subE x.sub) (s.bayE (subBay (s.subE x.sub))) = false →
    x.steps = s.rd TIM_STATUS.STEPS →
    (bayNsPolicy (s.bayE (subBay (s.subE x.sub))) && x.cells.any (fun c => bitOf (cellQual c) 14)) = false →
    sampleNumber (subRate (s.subE x.sub)) (subWrap (s.subE x.sub)) x.smpCnt (x.stamp + 1000 * bayAdvUs (s.bayE (subBay (s.subE x.sub)))) = some n →
    Does .sampleRecordPlace s (fun t =>
      t = (State.count { s with svi := { s.svi with recs := rest } } ALN_cnt_LO.COUNT 0).placeAt (subBay (s.subE x.sub)) n x))

/-- R414 to R423: the ROM, stage 2, the recovery loader and the two reboots. -/
def Obligations.BootCommands : Prop :=
  (∀ (s : State) (straps mib bad : Nat), s.wf = true → s.boot.phase = 0 → s.mayRun = true →
    (s.boot.digest.length ≠ 48 ∨ bitOf straps 6 = false) →
    Does (.romBoot straps mib bad) s (fun t => t.boot.phase = 2 ∧ t.boot.alt = 0 ∧ t.pins.rstoutN = true ∧ t.pins.faultN = true ∧
      t.pins.straps = straps % 256 ∧ t.boot.half = max 16 (min 256 mib) * 2 ^ 20 / 2 ∧ t.rd PWR_STATUS.RESET_CAUSE = s.pwr.cause % 256)) ∧
  (∀ (s : State) (straps mib bad : Nat), s.boot.phase = 0 → s.mayRun = true → s.boot.digest.length = 48 → bitOf straps 6 = true →
    Does (.romBoot straps mib bad) s (fun t => t.boot.alt = 0 ∧ (t.boot.phase = 2 ∨ t.boot.phase = 3))) ∧
  (∀ s : State, s.boot.phase = 3 → Does (.stage2Boot true) s (fun t =>
    t = s.trainMemory.stage2Fails (s.trainMemory.rd BOOT_STATUS.RUN_SLOT) 11)) ∧
  (∀ s : State, s.boot.phase = 3 →
    let u := s.trainMemory
    let n := u.rd BOOT_STATUS.RUN_SLOT
    let m := manOf (u.slotRead n 0 4096) u.boot.half (u.slotRead n)
    let part := fun (k : Nat) (p : Comp → Bool) =>
      match (manComps m).find? (fun c => c.typ == k && p c) with | some c => u.slotRead n c.off c.len | none => []
    let image := part 3 (fun _ => true)
    let why := if u.compCheck (u.slotRead n) (fun c => c.typ != 1) ≠ 0 then u.compCheck (u.slotRead n) (fun c => c.typ != 1)
      else imageReason image (manKey m)
    Does (.stage2Boot false) s (fun t => t = if why ≠ 0 then u.stage2Fails n why else
      match imageTlvs image with
      | none => u.stage2Fails n 12
      | some l => u.stage2Runs n image l (fun p => part 2 (fun c => c.index == p)) (part 4 (fun _ => true)))) ∧
  (∀ s : State, s.boot.phase = 2 → Does (.recoveryPing true) s (fun t => t = s.recAnswer 1 [0])) ∧
  (∀ (s : State) (digest : List Byte), s.boot.phase = 2 → digest.length = 48 → s.boot.digest.length ≠ 48 → s.on PWR_STATUS.NV_REFUSED = false →
    Does (.recoveryProvision true digest) s (fun t => t.boot.digest = digest ∧ t.sent = (s.recAnswer 2 [0]).sent)) ∧
  (∀ (s : State) (digest : List Byte), s.boot.phase = 2 →
    (digest.length ≠ 48 ∨ s.boot.digest.length = 48 ∨ s.on PWR_STATUS.NV_REFUSED = true) →
    Does (.recoveryProvision true digest) s (fun t => t = s.recAnswer 2 [1])) ∧
  (∀ (s : State) (off : Nat) (data : List Byte), s.wf = true → s.boot.phase = 2 → data ≠ [] → data.length ≤ 4096 → off + data.length ≤ loaderSize →
    Does (.recoveryLoad true off data) s (fun t => memRead rtShip t.boot.loader off data.length = data ∧
      t.sent = (s.recAnswer 3 [0]).sent)) ∧
  (∀ s : State, s.wf = true → s.boot.phase = 2 → Does (.recoveryRun true) s (fun t =>
    if s.loaderReason = 0 then
      t.boot.phase = 5 ∧ t.on BOOT_STATUS.RECOVERY = true ∧ t.on BOOT_STATUS.ROM_LOCKED = true ∧ t.rd BOOT_RUN_SEQ.SEQ = 0 ∧
        s.told 18 < t.told 18 ∧ t.sent = (s.recAnswer 4 [0]).sent
    else t = s.recAnswer 4 [2, s.loaderReason])) ∧
  (∀ s : State, s.boot.phase = 2 → Does (.recoveryStatus true) s (fun t =>
    t = s.recAnswer 5 [0, s.rd BOOT_SLOTn_STATUS.REASON 0, s.rd BOOT_SLOTn_STATUS.REASON 1,
      128 * s.rd BOOT_STATUS.KEY_SET + s.rd BOOT_STATUS.FLOOR_USED])) ∧
  (∀ s : State, Does .deviceReboot s (fun t => Restarted s t ∧ t.mram = s.mram ∧ (2 ≤ s.boot.phase → t.pwr.cause = 4))) ∧
  (∀ s : State, Does .deviceRebootAlt s (fun t => Restarted s t ∧ t.mram = s.mram ∧ t.boot.alt = s.rd BOOT_STATUS.RUN_SLOT + 1))

/-- R371 to R374, R444: channels and the halting of threads. -/
def Obligations.ChannelCommands : Prop :=
  (∀ (s : State) (who ch : Nat), s.shut who = false → s.wf = true → ch < 1024 → s.on CPU_CHch_CFG.VALID ch = true → (s.chan ch).aborted.contains who = false →
    s.outOfScope ch who = false → s.on CPU_CHch_STATUS.BUSY ch = false → (s.chan ch).msgs.length < s.rd CPU_CHch_CFG.DEPTH ch → who < 256 →
    Does (.channelReserve who ch) s (fun t => t.reply = 0 ∧ t.on CPU_CHch_STATUS.BUSY ch = true ∧ t.rd CPU_CHch_STATUS.HOLDER ch = who)) ∧
  (∀ (s : State) (who ch : Nat), s.shut who = false → ch < 1024 → s.on CPU_CHch_CFG.VALID ch = true → (s.chan ch).aborted.contains who = false →
    s.outOfScope ch who = false → s.on CPU_CHch_STATUS.BUSY ch = false → s.rd CPU_CHch_CFG.DEPTH ch ≤ (s.chan ch).msgs.length →
    Does (.channelReserve who ch) s (fun t => t.reply = 2 ∧ t.regs = s.regs)) ∧
  (∀ (s : State) (who ch : Nat), s.shut who = false → s.wf = true → ch < 1024 → s.on CPU_CHch_CFG.VALID ch = true → (s.chan ch).aborted.contains who = false →
    s.outOfScope ch who = false → s.on CPU_CHch_STATUS.BUSY ch = true → s.rd CPU_CHch_STATUS.HOLDER ch ≠ who →
    Does (.channelReserve who ch) s (fun t => t.reply = 1 ∧
      t.rd CPU_CHch_ABORT.BUSY_SEEN ch = min (s.rd CPU_CHch_ABORT.BUSY_SEEN ch + 1) (2 ^ CPU_CHch_ABORT.BUSY_SEEN.w - 1) ∧
      t.rd CPU_CHch_STATUS.HOLDER ch = s.rd CPU_CHch_STATUS.HOLDER ch)) ∧
  (∀ (s : State) (who ch : Nat), s.shut who = false → ch < 1024 → s.on CPU_CHch_CFG.VALID ch = true → (s.chan ch).aborted.contains who = true →
    Does (.channelReserve who ch) s (fun t => t.reply = 3 ∧ t.regs = s.regs)) ∧
  (∀ (s : State) (who ch : Nat) (val : Word), s.shut who = false → ch < 1024 → s.on CPU_CHch_STATUS.BUSY ch = true → s.rd CPU_CHch_STATUS.HOLDER ch = who →
    (s.chan ch).words.length = 16 → bitsOf val.toNat 0 4 ≠ 0 →
    Does (.channelWordWrite who ch 0 val) s (fun t => (t.chan ch).header = true ∧
      (t.chan ch).words.getD 0 0 = val.toNat - bitsOf val.toNat 8 8 * 256 + who % 256 * 256 ∧ t.regs = s.regs)) ∧
  (∀ (s : State) (who ch w : Nat) (val : Word), s.shut who = false → s.wf = true → ch < 1024 → 0 < w → w < 16 → s.on CPU_CHch_STATUS.BUSY ch = true →
    s.rd CPU_CHch_STATUS.HOLDER ch = who → (s.chan ch).words.length = 16 → (s.chan ch).header = true →
    w = bitsOf ((s.chan ch).words.getD 0 0) 0 4 →
    Does (.channelWordWrite who ch w val) s (fun t => t.on CPU_CHch_STATUS.BUSY ch = false ∧ t.rd CPU_CHch_STATUS.HOLDER ch = 0xFF ∧
      t = ((s.setChan ch { s.chan ch with words := (s.chan ch).words.set w val.toNat, header := true }).chanFree ch).chanPush ch
        ((s.chan ch).words.set w val.toNat))) ∧
  (∀ (s : State) (who ch w : Nat) (val : Word), s.shut who = false → s.wf = true → ch < 1024 → w < 16 →
    (s.on CPU_CHch_STATUS.BUSY ch = false ∨ s.rd CPU_CHch_STATUS.HOLDER ch ≠ who) →
    Does (.channelWordWrite who ch w val) s (fun t => t.cpu = s.cpu ∧
      t.rd64 CPU_cnt_LO.COUNT 5 = (s.rd64 CPU_cnt_LO.COUNT 5 + 1) % 2 ^ 64)) ∧
  (∀ (s : State) (ch : Nat), ch < 1024 → Does (.channelPop ch) s (fun t =>
    t = (s.setChan ch { s.chan ch with msgs := (s.chan ch).msgs.tail }).showChan ch)) ∧
  (∀ (s : State) (ch : Nat) (m x : List Nat) (l : List (List Nat)), s.wf = true → ch < 1024 → (s.chan ch).msgs = m :: x :: l →
    Does (.channelPop ch) s (fun t => (t.chan ch).msgs = x :: l ∧ t.rd CPU_CHch_RDw.WORD ch 0 = x.getD 0 0 % 2 ^ 32)) ∧
  (∀ (s : State) (agent : Nat), isThread agent = true → s.cpu.halted.contains agent = false → s.pins.jtagMode = true →
    Does (.debugHalt agent) s (fun t => t.cpu.halted = s.cpu.halted ++ [agent])) ∧
  (∀ (s : State) (agent : Nat), s.cpu.halted.contains agent = true →
    Does (.debugResume agent) s (fun t => t.cpu.halted = s.cpu.halted.filter (fun a => a != agent) ∧ s.told 497 < t.told 497)) ∧
  (∀ (s : State) (ch : Nat), ch < 1024 → s.on CPU_CHch_STATUS.HELD ch = true → s.rd CPU_CHch_CFG.HOLD_US ch ≠ 0 →
    Does (.channelHoldTimeout ch) s (fun t => (s.chan ch).holdFrom + 1000 * s.rd CPU_CHch_CFG.HOLD_US ch ≤ t.tick ∧
      t = ((s.advanceTo ((s.chan ch).holdFrom + 1000 * s.rd CPU_CHch_CFG.HOLD_US ch)).chanAbort ch).raise
        (400 + 4 * agentCluster (s.rd CPU_CHch_STATUS.HOLDER ch) + 3) [i16 ch, i8 (s.rd CPU_CHch_STATUS.HOLDER ch)]))

/-- R367 to R370, R375, R376: faults, commands and deadlocks of the Spindle cores. -/
def Obligations.CoreCommands : Prop :=
  (∀ (s : State) (k c fcode th pc : Nat), s.coreRuns k c th = true → 1 ≤ fcode → fcode ≤ 5 →
    Does (.coreFault k c fcode th pc) s (fun t => t = s.coreFault k c fcode th pc)) ∧
  (∀ (s : State) (k c fcode th pc : Nat), s.wf = true → s.coreRuns k c th = true → 1 ≤ fcode → fcode ≤ 5 →
    s.rd CPU_CLk_CFG.RETIRE_POLICY k = 0 →
    Does (.coreFault k c fcode th pc) s (fun t => t.coreState k c = 2 ∧ t.rd CPU_CLk_COREc_STATUS.FCODE k c = fcode ∧
      t.rd CPU_CLk_COREc_STATUS.FTHREAD k c = th)) ∧
  (∀ (s : State) (k c th pc since : Nat), s.coreRuns k c th = true → bitOf (s.rd CPU_CLk_COREc_STATUS.WAITING k c) th = false →
    Does (.coreWatchdogExpire k c th pc since) s (fun t => since + 10000000 ≤ t.tick ∧
      t = (s.advanceTo (since + 10000000)).coreFault k c 7 th pc)) ∧
  (∀ (s : State) (who k c g : Nat), s.shut who = false → s.wf = true → k < 8 → c < 5 → s.mayCommand who k = true → s.logical k c = some g → s.coreState k c = 2 →
    s.rd CPU_CLk_STATUS.STATE k = 0 →
    Does (.coreRestart who k c) s (fun t => t.coreState k c = 0 ∧ t.rd CPU_CLk_COREc_STATUS.LOGICAL k c = g ∧
      t = (s.wr CPU_CLk_CTRL.CORE c k).warmStart k g c)) ∧
  (∀ (s : State) (who k c : Nat), s.shut who = false → s.wf = true → k < 8 → c < 5 → s.mayCommand who k = true → (s.coreState k c = 2 ∨ s.coreState k c = 0) →
    s.rd CPU_CLk_STATUS.STATE k = 0 →
    Does (.coreRetire who k c) s (fun t => t = (s.wr CPU_CLk_CTRL.CORE c k).retireCore k c)) ∧
  (∀ (s : State) (c : Instr) (who k x : Nat), s.shut who = false → (c = .coreRestart who k x ∨ c = .coreRetire who k x ∨ c = .clusterReload who k) → k < 8 →
    s.mayCommand who k = false → Does c s (fun t => t = s.bad)) ∧
  (∀ (s : State) (k c : Nat), s.wf = true → k < 8 → c < 5 → s.coreState k c = 3 →
    Does (.coreRestore k c) s (fun t => t.coreState k c = 4 ∧ s.told (400 + 4 * k + 1) < t.told (400 + 4 * k + 1))) ∧
  (∀ (s : State) (k c : Nat), s.wf = true → k < 8 → c < 5 → s.coreState k c = 4 →
    Does (.coreSelfTestDone k c true) s (fun t => t.coreState k c = 1 ∧ t.rd CPU_CLk_STATUS.SPARE k = c)) ∧
  (∀ (s : State) (k c : Nat), s.wf = true → k < 8 → c < 5 → s.coreState k c = 4 →
    Does (.coreSelfTestDone k c false) s (fun t => t.coreState k c = 3)) ∧
  (∀ (s : State) (who k : Nat), s.shut who = false → s.wf = true → k < 8 → s.mayCommand who k = true → s.rd CPU_CLk_STATUS.STATE k = 0 →
    (∀ g, g < 4 → s.physCore k g < 5) →
    Does (.clusterReload who k) s (fun t => t.rd CPU_CLk_STATUS.STATE k = 1 ∧
      t.rd64 CPU_cnt_LO.COUNT 2 = (s.rd64 CPU_cnt_LO.COUNT 2 + 1) % 2 ^ 64 ∧ ∀ g, g < 4 → t.coreState k (s.physCore k g) = 2)) ∧
  (∀ (s : State) (k : Nat), s.wf = true → k < 8 → s.rd CPU_CLk_STATUS.STATE k = 1 → (∀ g, g < 4 → s.physCore k g < 5) →
    Does (.clusterReloadDone k) s (fun t => t.rd CPU_CLk_STATUS.STATE k = 0 ∧ ∀ g, g < 4 → t.coreState k (s.physCore k g) = 0)) ∧
  (∀ (s : State) (k c th pc since g : Nat), s.logical k c = some g → s.coreRuns k c th = true → s.cpu.halted.any (onCore k g) = false →
    s.on CPU_CLk_CFG.DL_ACT k = true →
    Does (.coreDeadlock k c th pc since) s (fun t => since + 1000 * max 1 (s.rd CPU_CLk_CFG.DL_US k) ≤ t.tick ∧
      t = ((((s.advanceTo (since + 1000 * max 1 (s.rd CPU_CLk_CFG.DL_US k))).wr CPU_CLk_COREc_STATUS.WAITING
        (15 - s.rd CPU_CLk_COREc_STATUS.PARKED k c) k c).count CPU_cnt_LO.COUNT 3).raise (400 + 4 * k + 2) [i8 c]).coreFault k c 6 th pc)) ∧
  (∀ (s : State) (k : Nat) (val : Word), s.wf = true → k < 8 →
    2 ^ s.rd CPU_CLk_TXCFG.LOG2 k < (val.toNat + 2 ^ 32 - (tabGet s.cpu.tx k).cons) % 2 ^ 32 →
    Does (.fwTxDoorbell k val) s (fun t => t.rd CPU_CLk_TXTAIL.TAIL k = val.toNat ∧ t.cpu = s.cpu)) ∧
  (∀ (s : State) (k : Nat) (val : Word), s.wf = true → k < 8 →
    (val.toNat + 2 ^ 32 - (tabGet s.cpu.tx k).cons) % 2 ^ 32 ≤ 2 ^ s.rd CPU_CLk_TXCFG.LOG2 k →
    Does (.fwTxDoorbell k val) s (fun t => t = (s.wr CPU_CLk_TXTAIL.TAIL val.toNat k).fwTake k val.toNat
      ((val.toNat + 2 ^ 32 - (tabGet s.cpu.tx k).cons) % 2 ^ 32)))

/-- R459, R461 to R463, R467 to R470, R458, R282: what resets the device, and what the reset leaves. -/
def Obligations.DeviceResets : Prop :=
  (∀ s : State, s.wdogRuns = true → Does .watchdogExpire s (fun t => Restarted s t ∧ t.pins.faultN = false ∧
    s.evt.wdogFrom + 1000000 * s.rd EVT_WDOG.TIMEOUT_MS ≤ t.tick ∧ (2 ≤ s.boot.phase → t.pwr.cause = 5))) ∧
  (∀ (s : State) (blk : Nat), blk < 22 → Does (.internalRamError blk .blockWide) s (fun t =>
    Restarted s t ∧ t.pins.faultN = false ∧ (2 ≤ s.boot.phase → t.pwr.cause = 6))) ∧
  (∀ (s : State) (rail : Nat) (back : Bool), s.wf = true → rail < 12 → s.boot.phase ≠ 0 → s.pstate = 0 →
    Does (.supplyTrip rail back) s (fun t => Restarted s t ∧ t.pins.faultN = false ∧ t.pins.pwrOk = back ∧
      (2 ≤ s.boot.phase → t.pwr.cause = 7))) ∧
  (∀ (s : State) (c : Int), 16 * 165 ≤ c → s.boot.phase ≠ 0 → Does (.thermalTrip c) s (fun t =>
    Restarted s t ∧ t.pins.faultN = false ∧ t.pwr.hot = true ∧ (2 ≤ s.boot.phase → t.pwr.cause = 8))) ∧
  (∀ s : State, s.pins.resetN = true → Does .resetNAssert s (fun t => Restarted s t ∧ t.pins.resetN = false ∧
    (2 ≤ s.boot.phase → t.pwr.cause = 3))) ∧
  (∀ (s : State) (mv : Nat), s.pwr.powered = true → Does (.vinOff mv) s (fun t => Restarted s t ∧ t.pwr.powered = false ∧
    t.pins.pwrOk = false ∧ t.rt = [] ∧ t.bulk = [] ∧ t.pwr.vin = some mv)) ∧
  (∀ (s : State) (mv : Nat), s.pwr.vaux = true → Does (.vauxLow mv) s (fun t => t.pwr.vaux = false ∧ t.pwr.cause = 1 ∧
    t.boot.phase = 0 ∧ t.rings = [] ∧ t.hif.reads = [] ∧ t.mram = s.mram ∧ t.boot.digest = s.boot.digest)) ∧
  (∀ (s : State) (mv : Nat), s.pwr.vaux = false → Does (.vauxPowerOn mv) s (fun t => t.pwr.vaux = true ∧ t.pwr.cause = 1 ∧
    t.mram = s.mram ∧ t.rings = [] ∧ t.boot.phase ≤ 1)) ∧
  (∀ (s : State) (rail : Nat) (back : Bool), rail < 12 → s.boot.phase = 0 → Does (.supplyTrip rail back) s (fun t =>
    t = { s with pins := { s.pins with pwrOk := back } })) ∧
  (∀ (s : State) (blk i : Nat), s.wf = true → blk < 22 → Does (.internalRamError blk (.corrected i)) s (fun t =>
    t.on EVT_RAM_ERR.UE = false ∧ t.rd EVT_RAM_ERR.BLOCK = blk ∧ s.told 3 < t.told 3)) ∧
  (∀ (s : State) (blk g : Nat), blk < 22 → blk ≠ Blk.hif.bit → Does (.internalRamError blk (.ring g)) s (fun t =>
    t = (((s.noteRam true blk (ramIndex (.ring g))).restartItem (.ring g)).raise 2 [i8 blk, i16 (ramIndex (.ring g))]))) ∧
  (∀ (s : State) (g : Nat) (j : Job), s.headJob g = some j → Does (.internalRamError Blk.hif.bit (.ring g)) s (fun t =>
    t = ((((s.aer 0 .uncorrectableInternal).noteRam true Blk.hif.bit g).finishJob g j.idx 3).raise 2 [i8 Blk.hif.bit, i16 g])))

/-- R15, R444, R459, R461 to R464, R469, R477, R488: supplies, pins, temperature and the refusal of non-volatile writes. -/
def Obligations.SupplyAndThermal : Prop :=
  (∀ s : State, Does .watchdogKick s (fun t => t.evt.wdogFrom = s.tick ∧ t.evt.wdogHalf = false ∧ t.regs = s.regs ∧ t.evt.held = s.evt.held)) ∧
  (∀ s : State, s.wdogRuns = true → s.evt.wdogHalf = false → Does .watchdogHalf s (fun t => t.evt.wdogHalf = true ∧ s.told 7 < t.told 7 ∧
    s.evt.wdogFrom + 500000 * s.rd EVT_WDOG.TIMEOUT_MS ≤ t.tick)) ∧
  (∀ (s : State) (mv : Nat), s.wf = true → (s.pwr.powered = false ∨ s.pstate ≠ 2) → Does (.vinOn mv) s (fun t =>
    t.pwr.powered = true ∧ t.pins.pwrOk = true ∧ t.pwr.vin = some mv ∧ t.rd PWR_VIN.LEVEL = min 0xFFFF (mv / 10))) ∧
  (∀ (s : State) (rail : Nat), Does (.pwrOkGlitch rail) s (fun t => s.told 15 < t.told 15 ∧ t.pins = s.pins ∧ t.pwr = s.pwr)) ∧
  (∀ (s : State) (mv : Nat), s.wf = true → (mv < 6000 ∨ 60000 < mv) → Does (.vinOutOfRange mv) s (fun t => s.told 12 < t.told 12 ∧
    t.rd PWR_VIN.LEVEL = min 0xFFFF (mv / 10) ∧ t.rd64 PWR_cnt_LO.COUNT 3 = (s.rd64 PWR_cnt_LO.COUNT 3 + 1) % 2 ^ 64)) ∧
  (∀ (s : State) (mv : Nat), s.wf = true → mv < 3100 → Does (.vauxWarning mv) s (fun t => s.told 14 < t.told 14 ∧ t.rd PWR_VAUX.LEVEL = mv)) ∧
  (∀ (s : State) (p : Bool), Does (.clk25mInAbsent p) s (fun t => t = { s with pins := { s.pins with clk25 := p } })) ∧
  (∀ s : State, s.boot.phase = 0 → s.pwr.powered = true → s.pwr.vaux = true → s.pwr.hot = false → s.pins.pwrOk = true →
    Does .resetNRelease s (fun t => t.pins.resetN = true ∧ t.boot.phase = 1 ∧ t.pins.rstoutN = true ∧ t.pins.faultN = true)) ∧
  (∀ (s : State) (c : Int), s.wf = true → s.blkReady .pwr = true → 16 * (s.rd PWR_THERM.WARN_C : Int) ≤ c → s.pwr.warned = false →
    Does (.thermalWarning c) s (fun t => t.pins.thermN = false ∧ t.pwr.warned = true ∧ s.told 13 < t.told 13 ∧
      t.rd PWR_TEMP.DEGC = unsgn 16 c)) ∧
  (∀ (s : State) (c : Int), s.wf = true → s.blkReady .pwr = true → c ≤ 16 * (s.rd PWR_THERM.WARN_C : Int) - 80 →
    Does (.thermalWarningEnd c) s (fun t => t.pins.thermN = true ∧ t.pwr.warned = false ∧ t.rd PWR_TEMP.DEGC = unsgn 16 c)) ∧
  (∀ (s : State) (c : Int), s.wf = true → c ≤ 16 * 140 → Does (.thermalTripClear c) s (fun t =>
    t.pwr.hot = false ∧ t.rd PWR_TEMP.DEGC = unsgn 16 c)) ∧
  (∀ (s : State) (mv : Nat), s.wf = true → s.on PWR_STATUS.NV_REFUSED = false → Does (.nvRefusalStart true mv) s (fun t =>
    t.pins.pwrfailN = false ∧ t.on PWR_STATUS.PWRFAIL = true ∧ t.on PWR_STATUS.NV_REFUSED = true ∧ s.told 8 < t.told 8 ∧
    t.evt.jwriting = false)) ∧
  (∀ (s : State) (mv : Nat), s.wf = true → s.on PWR_STATUS.NV_REFUSED = false → mv < s.rd PWR_VNV.LOCK_MV →
    Does (.nvRefusalStart false mv) s (fun t => t.on PWR_STATUS.VIN_LOW = true ∧ t.on PWR_STATUS.NV_REFUSED = true ∧
      s.told 8 < t.told 8 ∧ t.pwr.vin = some mv)) ∧
  (∀ (s : State) (mv since : Nat), s.wf = true → s.on PWR_STATUS.NV_REFUSED = true →
    s.rd PWR_VNV.LOCK_MV + s.rd PWR_VNV.HYST_MV ≤ mv → s.pwr.clearFrom = none →
    Does (.nvRefusalEnd mv since) s (fun t => max since s.tick + 10000000 ≤ t.tick ∧ t.on PWR_STATUS.NV_REFUSED = false ∧
      t.on PWR_STATUS.PWRFAIL = false ∧ t.on PWR_STATUS.VIN_LOW = false)) ∧
  (∀ (s : State) (mode : Bool), s.pins.jtagMode ≠ mode → Does (.debugPortAttach (.mode mode)) s (fun t =>
    t.pins = { s.pins with jtagMode := mode } ∧ s.told 496 < t.told 496)) ∧
  (∀ s : State, Does (.debugPortAttach (.trst false)) s (fun t => t.pins.trstN = false ∧ t.pins.tap.st = .testLogicReset ∧ t.pins.tap.ir = 0x01 ∧
    t.regs = s.regs)) ∧
  (∀ (s : State) (tms tdi : Bool), s.pins.trstN = true → s.pins.jtagMode = false → Does (.debugPortAttach (.tck tms tdi)) s (fun t =>
    t.pins.tap.st = s.pins.tap.st.next tms ∧ t.regs = s.regs ∧ t.evt = s.evt)) ∧
  (∀ (s : State) (tms tdi : Bool), s.pins.trstN = true → s.pins.jtagMode = false → s.pins.tap.st = .captureDr → s.pins.tap.ir = 0x01 →
    Does (.debugPortAttach (.tck tms tdi)) s (fun t => t.pins.tap.dr.length = 32 ∧ bitNat t.pins.tap.dr = 0x15128FFF)) ∧
  (∀ (s : State) (tms tdi : Bool), s.pins.trstN = true → s.pins.jtagMode = false → s.pins.tap.st = .captureDr → s.pins.tap.ir = 0xFF →
    Does (.debugPortAttach (.tck tms tdi)) s (fun t => t.pins.tap.dr = [false])) ∧
  (∀ (s : State) (tdi : Bool) (l : List Bool), s.pins.trstN = true → s.pins.jtagMode = false → s.pins.tap.st = .exit1Ir →
    s.pins.tap.irShift = l → Does (.debugPortAttach (.tck true tdi)) s (fun t => t.pins.tap.ir = bitNat l)) ∧
  (∀ (s : State) (tms tdi : Bool), (s.pins.trstN = false ∨ s.pins.jtagMode = true) → Does (.debugPortAttach (.tck tms tdi)) s (fun t => t = s))

/-- R471, R472, R476, R250, R281: entry to Standby and its ends. -/
def Obligations.StandbyCommands : Prop :=
  (∀ (s : State) (soft : Bool), s.wf = true → s.boot.phase = 4 → s.pstate = 0 → Does (.standbyHoldAssert soft) s (fun t =>
    t = ((if soft then s.wr PWR_STBY.SOFT 1 else State.wr { s with pins := { s.pins with stbyReqN := false } } PWR_STATUS.STBY_PIN 1
      ).standbyBegin).standbyGo)) ∧
  (∀ (s : State), s.wf = true → s.pstate = 1 → Does (.standbyHoldAssert true) s (fun t => t = s.wr PWR_STBY.SOFT 1 ∧
    t.on PWR_STBY.SOFT = true ∧ t.pstate = 1)) ∧
  (∀ s : State, s.wf = true → s.pstate = 2 → s.on PWR_STBY.SOFT = false → Does .standbyHoldRelease s (fun t =>
    t = (({ s with pins := { s.pins with stbyReqN := true } }).wr PWR_STATUS.STBY_PIN 0).wake)) ∧
  (∀ s : State, s.wf = true → s.pstate ≠ 2 → Does .standbyHoldRelease s (fun t => t.pins.stbyReqN = true ∧
    t.on PWR_STATUS.STBY_PIN = false ∧ t.pstate = s.pstate)) ∧
  (∀ s : State, s.pstate = 1 → s.pwr.draining = true → s.drivesWaited = false → Does .standbyDriveWaitDone s (fun t =>
    t = s.stgSettle.standbyGo)) ∧
  (∀ s : State, s.pstate = 1 → s.pwr.draining = true → s.drivesWaited = true → Does .standbyDriveWaitDone s (fun t =>
    s.pwr.from_ + 70000000 ≤ t.tick ∧ t =
      (forEach ([0, 1, 2, 3].filter (fun d => s.sstate d == 4 || s.sstate d == 5))
        (fun d s => (((s.powerOffSlot d).setSstate d 1).abandon d true)) (s.advanceTo (s.pwr.from_ + 70000000))).stgSettle.standbyGo)) ∧
  (∀ s : State, s.pstate = 2 → s.on PWR_WAKE.TIMER = true → Does .wakeTimerExpire s (fun t =>
    s.pwr.from_ + 1000000000 * s.rd PWR_WAKE_TIMER.S ≤ t.tick ∧
    t = (s.advanceTo (s.pwr.from_ + 1000000000 * s.rd PWR_WAKE_TIMER.S)).wakeSource 2)) ∧
  (∀ (s : State) (lvl : Bool) (x : Nat), s.pstate = 0 → s.pins.trigIn ≠ lvl → (lvl == (s.rd REC_CFG.EDGE == 1)) = false →
    s.rec_.trigFrom + 1000 * s.rd REC_CFG.DEBOUNCE_US ≤ max x s.tick →
    Does (.trigInEdge lvl x) s (fun t => ∃ u : State, u.pins.trigIn = lvl ∧ u.rec_.trigFrom = max x s.tick ∧
      t = ((u.raise 297).recTrigger 5 0 (max x s.tick) u.tim.gtc).wakeSource 1)) ∧
  (∀ (s : State) (lvl : Bool) (x : Nat), s.pstate = 2 → s.pins.trigIn ≠ lvl → (lvl == (s.rd REC_CFG.EDGE == 1)) = true →
    Does (.trigInEdge lvl x) s (fun t => t.pins.trigIn = lvl ∧ t.rec_.trigFrom = max x s.tick ∧ t.regs = s.regs)) ∧
  (∀ s : State, s.wf = true → s.pins.perstN = false → s.on PWR_WAKE.PERST = false → Does .perstDeassert s (fun t =>
    t.pins.perstN = true ∧ t.pins.wakeN = true ∧ s.told 314 < t.told 314)) ∧
  (∀ s : State, s.wf = true → s.pins.perstN = false → s.on PWR_WAKE.PERST = true → s.on PWR_STBY.SOFT = true → s.pstate = 2 →
    s.on PWR_STATUS.STBY_PIN = false → Does .perstDeassert s (fun t => ∃ u : State, u.pins.perstN = true ∧ u.on PWR_STBY.SOFT = false ∧
      u.pwr.source = 1 ∧ t = u.wake))

/-- R317 to R319: the states of a drive slot. -/
def Obligations.SlotCommands : Prop :=
  (∀ (s : State) (d : Nat), s.wf = true → d < 4 → s.sstate d = 0 → s.on STG_DSn_CFG.AUTO_ON d = false →
    Does (.slotPresentDebounce d) s (fun t => t.on STG_DSn_STATUS.PRSNT d = true ∧ t.sstate d = 1 ∧ s.told 336 < t.told 336)) ∧
  (∀ (s : State) (d : Nat), s.wf = true → d < 4 → s.sstate d = 1 → s.on STG_DSn_CFG.ENABLE d = true →
    Does (.slotPowerOn d) s (fun t => t.sstate d = 2 ∧ (t.ds d).pwren = true ∧ (t.ds d).led = 2 ∧ (t.ds d).from_ = s.tick ∧
      s.told 336 < t.told 336)) ∧
  (∀ (s : State) (d : Nat), s.wf = true → d < 4 → (s.sstate d ≠ 1 ∨ s.on STG_DSn_CFG.ENABLE d = false) →
    Does (.slotPowerOn d) s (fun t => t = s)) ∧
  (∀ (s : State) (d : Nat), s.wf = true → d < 4 → s.sstate d = 2 → s.on STG_DSn_STATUS.PRSNT d = true →
    s.rd STG_DSn_CFG.PWR_DELAY_MS d ≠ 0 →
    Does (.slotPowerDelayExpire d) s (fun t => t.sstate d = 3 ∧
      (s.ds d).from_ + 1000000 * s.rd STG_DSn_CFG.PWR_DELAY_MS d ≤ t.tick ∧ s.told 336 < t.told 336)) ∧
  (∀ (s : State) (d rate width : Nat), s.wf = true → d < 4 → s.sstate d = 3 → s.onDrive d = [] →
    Does (.slotDriveReady d rate width) s (fun t => ∃ u : State, t = u.stgSettle ∧ u.sstate d = 4 ∧ (u.ds d).led = 1 ∧
      u.rd STG_DSn_STATUS.RATE d = min rate (s.rd STG_DSn_CFG.MAX_RATE d) ∧
      u.rd STG_DSn_STATUS.WIDTH d = min width (s.rd STG_DSn_CFG.MAX_WIDTH d))) ∧
  (∀ (s : State) (d : Nat), d < 4 → s.sstate d = 3 → Does (.slotTrainTimeout d) s (fun t => (s.ds d).from_ + 10000000000 ≤ t.tick ∧
    t = (((s.advanceTo ((s.ds d).from_ + 10000000000)).powerOffSlot d).setSstate d 6).stgSettle)) ∧
  (∀ (s : State) (d : Nat), s.wf = true → d < 4 → (s.ds d).removing = 0 → s.sstate d = 4 →
    Does (.slotAttnPress d) s (fun t => t.sstate d = 5 ∧ (t.ds d).led = 2 ∧ s.told 336 < t.told 336)) ∧
  (∀ (s : State) (d : Nat), s.wf = true → d < 4 → (s.ds d).removing = 0 → s.sstate d = 5 →
    Does (.slotAttnPress d) s (fun t => t.sstate d = 4 ∧ (t.ds d).led = 1 ∧ s.told 336 < t.told 336)) ∧
  (∀ (s : State) (d : Nat), d < 4 → s.sstate d = 5 → (s.ds d).removing = 0 → Does (.slotAttnTimeout d) s (fun t =>
    (s.ds d).from_ + 5000000000 ≤ t.tick ∧ t = ((s.advanceTo ((s.ds d).from_ + 5000000000)).startRemoval d))) ∧
  (∀ (s : State) (d : Nat), d < 4 → (s.sstate d = 4 ∨ s.sstate d = 5) → (s.ds d).removing = 0 →
    Does (.slotPowerOff d) s (fun t => t = (s.setDs d { s.ds d with removing := 1, from_ := s.tick }).stgSettle)) ∧
  (∀ (s : State) (d : Nat), d < 4 → (s.ds d).removing = 1 → Does (.slotRemovalWaitExpire d) s (fun t =>
    (s.ds d).from_ + 5000000000 ≤ t.tick ∧
    t = (((s.advanceTo ((s.ds d).from_ + 5000000000)).abandon d true).shutdownSlot d).stgSettle)) ∧
  (∀ (s : State) (d : Nat), d < 4 → 2 ≤ s.sstate d → s.sstate d ≤ 5 → Does (.slotPowerFault d) s (fun t =>
    let u := (s.powerOffSlot d).setSstate d 6
    t = (((u.setDs d { u.ds d with attn := true }).raise 337 [i8 d]).abandon d true).stgSettle)) ∧
  (∀ (s : State) (d : Nat) (gone : Bool), s.wf = true → d < 4 → 3 ≤ s.sstate d → s.sstate d ≤ 5 → Does (.slotLost d gone) s (fun t =>
    t = (if gone then s.wr STG_DSn_STATUS.PRSNT 0 d else s).slotLost d gone)) ∧
  (∀ (s : State) (d : Nat), s.wf = true → d < 4 → s.sstate d = 1 → Does (.slotLost d true) s (fun t =>
    t.sstate d = 0 ∧ t.on STG_DSn_STATUS.PRSNT d = false ∧ s.told 336 < t.told 336)) ∧
  (∀ (s : State) (d : Nat), s.wf = true → d < 4 → s.sstate d = 6 → Does (.slotFaultClear d true) s (fun t =>
    t.sstate d = 0 ∧ t.on STG_DSn_STATUS.PRSNT d = false ∧ s.told 336 < t.told 336)) ∧
  (∀ (s : State) (d : Nat), s.wf = true → d < 4 → s.sstate d = 6 → s.on STG_DSn_STATUS.PRSNT d = true →
    s.on STG_DSn_CFG.AUTO_ON d = false → Does (.slotFaultClear d false) s (fun t => t.sstate d = 1 ∧ s.told 336 < t.told 336))

/-- R302, R303, R305, R312, R315: the controllers of PF3 and their admin commands, on a controller that is not in PS2. -/
def Obligations.NvmeAdminCommands : Prop :=
  (∀ (s : State) (f : Nat) (wrr : Bool), f < 256 → s.pfOf f = 3 → s.on HIF_FNf_STATE.PRESENT f = true → s.on HIF_FNf_STATE.READY f = true →
    (s.ctl f).en = false → Does (.nvmeControllerEnable f wrr) s (fun t => t.ctl f = { en := true, wrr := wrr, test := (s.ctl f).test, stampFrom := s.tick })) ∧
  (∀ (s : State) (f : Nat), f < 256 → s.pfOf f = 3 → (s.ctl f).en = true → Does (.nvmeControllerReset f) s (fun t => t = s.resetCtl f)) ∧
  (∀ (s : State) (f cid cntid : Nat), s.wf = true → s.ctlRuns f = true → (s.ctl f).ps ≠ 2 →
    Does (.nvmeIdentify f cid 1 0 cntid) s (fun t => Out.nvme f 0 cid 0 0 ((s.cal 624).identifyCtl f) ∈ t.sent)) ∧
  (∀ (s : State) (f cid cns nsid cntid : Nat), s.wf = true → s.ctlRuns f = true → (s.ctl f).ps ≠ 2 →
    cns ∉ [0, 1, 2, 3, 0x10, 0x12] → Does (.nvmeIdentify f cid cns nsid cntid) s (fun t => Out.nvme f 0 cid 2 0 [] ∈ t.sent)) ∧
  (∀ (s : State) (f cid lid len : Nat), s.wf = true → s.ctlRuns f = true → (s.ctl f).ps ≠ 2 → lid ∉ [1, 2, 5, 6] →
    Does (.nvmeGetLogPage f cid lid len) s (fun t => Out.nvme f 0 cid 0x109 0 [] ∈ t.sent)) ∧
  (∀ (s : State) (f cid lid len : Nat), s.wf = true → s.ctlRuns f = true → (s.ctl f).ps ≠ 2 → lid ∈ [1, 2, 5, 6] →
    Does (.nvmeGetLogPage f cid lid len) s (fun t => ∃ b, b.length ≤ len ∧ Out.nvme f 0 cid 0 0 b ∈ t.sent)) ∧
  (∀ (s : State) (f cid fid v : Nat), s.wf = true → s.ctlRuns f = true → (s.ctl f).ps ≠ 2 → fid ∈ [1, 8, 0x0B] →
    Does (.nvmeSetFeatures f cid fid v) s (fun t => Out.nvme f 0 cid 0 0 [] ∈ t.sent ∧
      (t.ctl f).features = cellSet (fun _ => 0) (s.ctl f).features fid v)) ∧
  (∀ (s : State) (f cid v : Nat), s.wf = true → s.ctlRuns f = true → (s.ctl f).ps ≠ 2 → (s.ctl f).sqs = [] → (s.ctl f).cqs = [] →
    Does (.nvmeSetFeatures f cid 7 v) s (fun t => Out.nvme f 0 cid 0
      (min (v % 2 ^ 16) (ioQueues f - 1) + min (v / 2 ^ 16 % 2 ^ 16) (ioQueues f - 1) * 2 ^ 16) [] ∈ t.sent)) ∧
  (∀ (s : State) (f cid v : Nat), s.wf = true → s.ctlRuns f = true → (s.ctl f).ps ≠ 2 →
    Does (.nvmeGetFeatures f cid 2 v) s (fun t => Out.nvme f 0 cid 0 (s.ctl f).ps [] ∈ t.sent ∧ t.stg = s.stg)) ∧
  (∀ (s : State) (f cid qid size vec : Nat) (ien : Bool), s.wf = true → s.ctlRuns f = true → (s.ctl f).ps ≠ 2 → qid ≠ 0 → qid ≤ ioQueues f →
    (s.ctl f).cqs.any (fun q => q.qid == qid) = false → 2 ≤ size → size ≤ 4096 → vec ≤ s.rd HIF_FNf_MSIX.SIZE f →
    Does (.nvmeCreateIoCq f cid qid size vec ien) s (fun t => Out.nvme f 0 cid 0 0 [] ∈ t.sent ∧
      (t.ctl f).cqs = (s.ctl f).cqs ++ [{ qid := qid, vector := vec, ien := ien }])) ∧
  (∀ (s : State) (f cid qid size cq prio : Nat), s.wf = true → s.ctlRuns f = true → (s.ctl f).ps ≠ 2 → qid ≠ 0 → qid ≤ ioQueues f →
    (s.ctl f).cqs.any (fun q => q.qid == cq) = true → (s.ctl f).sqs.any (fun q => q.qid == qid) = false → 2 ≤ size → size ≤ 4096 →
    Does (.nvmeCreateIoSq f cid qid size cq prio) s (fun t => Out.nvme f 0 cid 0 0 [] ∈ t.sent ∧
      (t.ctl f).sqs = (s.ctl f).sqs ++ [{ qid := qid, cq := cq, prio := if (s.ctl f).wrr then prio % 4 else 2 }])) ∧
  (∀ (s : State) (f cid qid : Nat), s.wf = true → s.ctlRuns f = true → (s.ctl f).ps ≠ 2 → qid ≠ 0 →
    (s.ctl f).sqs.any (fun q => q.qid == qid) = true → Does (.nvmeDeleteIoSq f cid qid) s (fun t =>
      Out.nvme f 0 cid 0 0 [] ∈ t.sent ∧ (t.ctl f).sqs = (s.ctl f).sqs.filter (fun q => q.qid != qid) ∧
      ∀ c ∈ t.stg.cmds, c.f = f → c.qid = qid → c.dead = true)) ∧
  (∀ (s : State) (f cid qid : Nat), s.wf = true → s.ctlRuns f = true → (s.ctl f).ps ≠ 2 → qid ≠ 0 →
    (s.ctl f).cqs.any (fun q => q.qid == qid) = true → (s.ctl f).sqs.any (fun q => q.cq == qid) = false →
    Does (.nvmeDeleteIoCq f cid qid) s (fun t => Out.nvme f 0 cid 0 0 [] ∈ t.sent ∧
      (t.ctl f).cqs = (s.ctl f).cqs.filter (fun q => q.qid != qid))) ∧
  (∀ (s : State) (f cid sqid acid : Nat), s.wf = true → s.ctlRuns f = true → (s.ctl f).ps ≠ 2 →
    s.stg.cmds.find? (fun c => c.f == f && c.qid == sqid && c.cid == acid && c.phase == 0 && c.op != 3) = none →
    Does (.nvmeAbort f cid sqid acid) s (fun t => Out.nvme f 0 cid 0 1 [] ∈ t.sent ∧ t.stg = s.stg)) ∧
  (∀ (s : State) (f cid : Nat), s.wf = true → s.ctlRuns f = true → (s.ctl f).ps ≠ 2 → (s.ctl f).events = [] →
    (s.ctl f).aers.length ≤ aerl f → Does (.nvmeAsyncEventRequest f cid) s (fun t =>
    (t.ctl f).aers = (s.ctl f).aers ++ [cid] ∧ t.sent = s.sent)) ∧
  (∀ (s : State) (cid nsid : Nat) (ctrls : List Nat), s.wf = true → s.ctlRuns 3 = true → (s.ctl 3).ps ≠ 2 → nsid ≠ 0 →
    s.nsValid (nsid - 1) = true → ctrls ≠ [] → ctrls.any (fun c => !s.ctlListed c true) = false →
    ctrls.any (fun c => s.attachedTo c (nsid - 1)) = false →
    Does (.namespaceAttachment 3 cid nsid false ctrls) s (fun t => Out.nvme 3 0 cid 0 0 [] ∈ t.sent ∧
      ∀ c ∈ ctrls, t.attachedTo c (nsid - 1) = true)) ∧
  (∀ (s : State) (f cid nsid stc : Nat), s.wf = true → s.ctlRuns f = true → (s.ctl f).ps ≠ 2 → (stc = 1 ∨ stc = 2) → s.stg.test.isSome = true →
    Does (.deviceSelfTest f cid nsid stc) s (fun t => Out.nvme f 0 cid 0x11D 0 [] ∈ t.sent ∧ t.stg = s.stg)) ∧
  (∀ (s : State) (f cid : Nat) (x : TestSt), s.wf = true → s.ctlRuns f = true → (s.ctl f).ps ≠ 2 → s.stg.test = some x → x.f = f →
    Does (.deviceSelfTest f cid 0 15) s (fun t => t = (((s.cal 624).endTest x 1).answerNvme f 0 cid 0).stgSettle)) ∧
  (∀ (s : State) (f cid nsid stc : Nat), s.wf = true → s.ctlRuns f = true → (s.ctl f).ps ≠ 2 → (stc = 1 ∨ stc = 2) → s.stg.test = none →
    (nsid = 0 ∨ nsid = 0xFFFFFFFF ∨ s.attachedTo f (nsid - 1) = true) → Does (.deviceSelfTest f cid nsid stc) s (fun t => ∃ x : TestSt,
      x.f = f ∧ x.extended = (stc == 2) ∧ x.nsid = nsid ∧ t = (((s.cal 624).setTest (some x)).answerNvme f 0 cid 0).stgSettle)) ∧
  (∀ (s : State) (f cid r : Nat) (l : List Nat), s.wf = true → s.ctlRuns f = true → (s.ctl f).ps ≠ 2 → (s.ctl f).events = r :: l →
    Does (.nvmeAsyncEventRequest f cid) s (fun t => Out.nvme f 0 cid 0 r [] ∈ t.sent ∧ (t.ctl f).events = l ∧ (t.ctl f).aers = (s.ctl f).aers)) ∧
  (∀ (s : State) (f cid : Nat), s.wf = true → s.ctlRuns f = true → (s.ctl f).ps ≠ 2 → (s.ctl f).events = [] → aerl f < (s.ctl f).aers.length →
    Does (.nvmeAsyncEventRequest f cid) s (fun t => Out.nvme f 0 cid 0x105 0 [] ∈ t.sent ∧ t.stg = s.stg)) ∧
  (∀ (s : State) (f cid v : Nat), s.wf = true → s.ctlRuns f = true → (s.ctl f).ps ≠ 2 → Does (.nvmeSetFeatures f cid 0x0E v) s (fun t =>
    Out.nvme f 0 cid 0 0 [] ∈ t.sent ∧ (t.ctl f).stamp = v % 2 ^ 48 ∧ (t.ctl f).stampFrom = s.tick)) ∧
  (∀ (s : State) (f cid v : Nat), s.wf = true → s.ctlRuns f = true → (s.ctl f).ps ≠ 2 → Does (.nvmeGetFeatures f cid 0x0E v) s (fun t =>
    ∃ ms b, ms = ((s.ctl f).stamp + (s.tick - (s.ctl f).stampFrom) / 1000000) % 2 ^ 48 ∧ leNat (b.take 6) = ms ∧ b.length = 8 ∧
      Out.nvme f 0 cid 0 0 b ∈ t.sent ∧ t.stg = s.stg)) ∧
  (∀ (s : State) (f cid len : Nat), s.wf = true → s.ctlRuns f = true → (s.ctl f).ps ≠ 2 → Does (.nvmeGetLogPage f cid 5 len) s (fun t =>
    Out.nvme f 0 cid 0 0 ((effectsLog f).take len) ∈ t.sent)) ∧
  (∀ (s : State) (f cid sqid acid : Nat) (c : HostCmd), s.wf = true → s.ctlRuns f = true → (s.ctl f).ps ≠ 2 →
    s.stg.cmds.find? (fun c => c.f == f && c.qid == sqid && c.cid == acid && c.phase == 0 && c.op != 3) = some c →
    Does (.nvmeAbort f cid sqid acid) s (fun t => t = ((s.cal 624).endHost c.id 0x07).answerNvme f 0 cid 0 0 ∧
      Out.nvme f 0 cid 0 0 [] ∈ t.sent ∧ ∀ x ∈ t.stg.cmds, x.id ≠ c.id))

/-- R302, R307, R308, R311, R316: the I/O commands, the completions of the drives, and a rebuild. -/
def Obligations.NvmeIoCommands : Prop :=
  (∀ (s : State) (f qid cid nsid lba n : Nat) (q : SqSt), s.wf = true → s.ctlRuns f = true → (s.ctl f).ps ≠ 2 →
    (s.ctl f).sqs.find? (fun q => q.qid == qid) = some q → s.ioStatus f nsid false 512 [(lba, n)] = none →
    Does (.nvmeRead f qid cid nsid lba n) s (fun t =>
      let p := (s.cal 624).hostTaken q f qid cid nsid 0 [(lba, n)] []
      t = ((p.2.beginRead p.1).readOverH p.1.id).stgSettle)) ∧
  (∀ (s : State) (f qid cid nsid lba n : Nat) (data : List Byte) (q : SqSt), s.wf = true → s.ctlRuns f = true → (s.ctl f).ps ≠ 2 →
    (s.ctl f).sqs.find? (fun q => q.qid == qid) = some q → s.ioStatus f nsid true 512 [(lba, n)] = none →
    Does (.nvmeWrite f qid cid nsid lba n data) s (fun t =>
      let p := (s.cal 624).hostTaken q f qid cid nsid 1 [(lba, n)] (blockData n data)
      t = ((p.2.beginWrite p.1).journalFull p.1).stgSettle)) ∧
  (∀ (s : State) (f qid cid nsid lba n : Nat) (q : SqSt), s.wf = true → s.ctlRuns f = true → (s.ctl f).ps ≠ 2 →
    (s.ctl f).sqs.find? (fun q => q.qid == qid) = some q → s.ioStatus f nsid true 65536 [(lba, n)] = none →
    Does (.nvmeWriteZeroes f qid cid nsid lba n) s (fun t =>
      let p := (s.cal 624).hostTaken q f qid cid nsid 2 [(lba, n)] []
      t = ((p.2.beginWrite p.1).journalFull p.1).stgSettle)) ∧
  (∀ (s : State) (f qid cid nsid : Nat) (q : SqSt), s.wf = true → s.ctlRuns f = true → (s.ctl f).ps ≠ 2 →
    (s.ctl f).sqs.find? (fun q => q.qid == qid) = some q → s.ioStatus f nsid false 0 [] = none → s.stg.cmds = [] →
    Does (.nvmeFlush f qid cid nsid) s (fun t =>
      let p := (s.cal 624).hostTaken q f qid cid nsid 3 [] []
      t = (p.2.endHost p.1.id 0).stgSettle)) ∧
  (∀ (s : State) (f qid cid nsid lba n : Nat) (data : List Byte) (q : SqSt), s.wf = true → s.ctlRuns f = true → (s.ctl f).ps ≠ 2 →
    (s.ctl f).sqs.find? (fun q => q.qid == qid) = some q → s.ioStatus f nsid false 512 [(lba, n)] = none →
    Does (.nvmeCompare f qid cid nsid lba n data) s (fun t =>
      let p := (s.cal 624).hostTaken q f qid cid nsid 4 [(lba, n)] (blockData n data)
      t = ((p.2.beginRead p.1).readOverH p.1.id).stgSettle)) ∧
  (∀ (s : State) (f qid cid nsid : Nat) (dealloc : Bool) (ranges : List (Nat × Nat)) (q : SqSt), s.wf = true → s.ctlRuns f = true →
    (s.ctl f).ps ≠ 2 → (s.ctl f).sqs.find? (fun q => q.qid == qid) = some q → s.ioStatus f nsid true (2 ^ 32) ranges = none →
    Does (.nvmeDatasetManagement f qid cid nsid dealloc ranges) s (fun t =>
      let p := (s.cal 624).hostTaken q f qid cid nsid 5 ranges []
      t = (if dealloc && !ranges.isEmpty then p.2.beginWrite p.1 else p.2.endHost p.1.id 0).stgSettle)) ∧
  (∀ (s : State) (f qid cid nsid lba n e : Nat) (q : SqSt), s.wf = true → s.ctlRuns f = true → (s.ctl f).ps ≠ 2 →
    (s.ctl f).sqs.find? (fun q => q.qid == qid) = some q → s.ioStatus f nsid false 512 [(lba, n)] = some e →
    Does (.nvmeRead f qid cid nsid lba n) s (fun t => Out.nvme f qid cid e 0 [] ∈ t.sent ∧ t.stg = s.stg)) ∧
  (∀ (s : State) (f qid cid nsid lba n e : Nat) (data : List Byte) (q : SqSt), s.wf = true → s.ctlRuns f = true → (s.ctl f).ps ≠ 2 →
    (s.ctl f).sqs.find? (fun q => q.qid == qid) = some q → s.ioStatus f nsid true 512 [(lba, n)] = some e →
    Does (.nvmeWrite f qid cid nsid lba n data) s (fun t => Out.nvme f qid cid e 0 [] ∈ t.sent ∧ t.stg = s.stg)) ∧
  (∀ (s : State) (id warn : Nat) (good : Bool) (bytes : List Byte) (c : DrvCmd), s.stg.drives.find? (fun c => c.id == id) = some c →
    Does (.driveCmdComplete id good bytes warn) s (fun t => t = s.driveDone id good bytes warn)) ∧
  (∀ (s : State) (id : Nat) (c : DrvCmd), s.stg.drives.find? (fun c => c.id == id) = some c →
    Does (.driveCmdTimeout id) s (fun t => c.issue + 30000000000 ≤ t.tick ∧
      t = (((s.advanceTo (c.issue + 30000000000)).out (.driveReset c.d)).raise 339 [i8 c.d]).driveDone id false [] 0 ∧
      Out.driveReset c.d ∈ t.sent)) ∧
  (∀ (s : State) (n : Nat), s.nsValid n = true → Does (.nsRebuild n) s (fun t => t = (s.startRebuild n).stgSettle))

/-- R379 to R387: the commands and the bursts of a DMA channel. -/
def Obligations.DmaCommands : Prop :=
  (∀ (s : State) (who ch : Nat), s.shut who = false → s.wf = true → ch < 32 → s.dmaState ch ∈ [0, 4, 5] →
    Does (.dmaStart who ch false) s (fun t =>
      t = ((((((s.wr DMA_CHn_CTRL.PAUSE 0 ch).wr DMA_CHn_STATUS.OWNER who ch).wr DMA_CHn_STATUS.MISM 0 ch).wr DMA_CHn_STATUS.ERR 0 ch).wr
        DMA_CHn_STATUS.STATE 1 ch).dmaLoad ch (s.rd64 DMA_CHn_DESC_LO.DESC ch) true))) ∧
  (∀ (s : State) (who ch : Nat) (p : Bool), s.shut who = false → s.wf = true → ch < 32 → s.dmaState ch ∉ [0, 4, 5] →
    Does (.dmaStart who ch p) s (fun t => t = if p then s.bad.dmaHold ch else s.bad.dmaGoOn ch)) ∧
  (∀ (s : State) (ch : Nat), s.wf = true → ch < 32 → s.dmaState ch = 1 → (s.dmaCh ch).err = 0 → (s.dmaCh ch).reads = [] →
    (s.dmaCh ch).writes = [] → (s.dmaCh ch).p < (s.dmaCh ch).len →
    Does (.dmaPause ch) s (fun t => t.dmaState ch = 3 ∧ t.on DMA_CHn_CTRL.PAUSE ch = true ∧ s.told 435 < t.told 435)) ∧
  (∀ (s : State) (ch : Nat), s.wf = true → ch < 32 → s.dmaState ch = 1 → (s.dmaCh ch).err = 0 → (s.dmaCh ch).reads ≠ [] →
    (s.dmaCh ch).p < (s.dmaCh ch).len →
    Does (.dmaPause ch) s (fun t => t.dmaState ch = 2 ∧ t.on DMA_CHn_CTRL.PAUSE ch = true ∧ t.dma = s.dma)) ∧
  (∀ (s : State) (ch : Nat), s.wf = true → ch < 32 → s.dmaState ch = 3 → (s.dmaCh ch).err = 0 → Does (.dmaResume ch) s (fun t =>
    t = ((s.wr DMA_CHn_CTRL.PAUSE 0 ch).wr DMA_CHn_STATUS.STATE 1 ch).dmaGo ch)) ∧
  (∀ (s : State) (ch : Nat), s.wf = true → ch < 32 → s.dmaState ch ∈ [1, 2, 3] → (s.dmaCh ch).writes = [] → Does (.dmaAbort ch) s (fun t =>
    t.dmaState ch = 5 ∧ t.rd DMA_CHn_STATUS.ERR ch = 1 ∧ s.told 433 < t.told 433)) ∧
  (∀ (s : State) (ch : Nat) (x : Nat × Nat) (l : List (Nat × Nat)), s.wf = true → ch < 32 → (s.dmaCh ch).reads = x :: l →
    (s.dmaCh ch).writes = [] → Does (.dmaReadData ch true) s (fun t => t.dmaState ch = 5 ∧ t.rd DMA_CHn_STATUS.ERR ch = 2 ∧
      s.told 433 < t.told 433)) ∧
  (∀ (s : State) (ch o n : Nat) (l : List (Nat × Nat)) (b : List Byte), ch < 32 → (s.dmaCh ch).reads = (o, n) :: l →
    (s.dmaCh ch).op ≠ 2 → (s.dmaCh ch).sspace ≠ 1 → (s.dmaCh ch).overlaps = false →
    s.dmaGet ch false (s.dmaCh ch).sspace ((s.dmaCh ch).src + o) n = (some b, false) →
    Does (.dmaReadData ch false) s (fun t =>
      t = (((s.dmaUsed ch false ((s.dmaCh ch).src + o) n).setDmaCh ch { s.dmaCh ch with reads := l, writes := (s.dmaCh ch).writes ++ [n] }
        ).dmaPut (s.dmaCh ch).dspace ((s.dmaCh ch).dst + o) b).dmaNext ch)) ∧
  (∀ (s : State) (ch n : Nat) (l : List Nat), ch < 32 → (s.dmaCh ch).writes = n :: l → Does (.dmaWriteResponse ch true) s (fun t =>
    t = ((s.setDmaCh ch { s.dmaCh ch with p := (s.dmaCh ch).p + n, writes := l }).showDma ch).dmaNext ch)) ∧
  (∀ (s : State) (ch n : Nat) (l : List Nat), ch < 32 → (s.dmaCh ch).writes = n :: l → Does (.dmaWriteResponse ch false) s (fun t =>
    t = (s.setDmaCh ch { s.dmaCh ch with writes := l }).dmaFail ch 6))

/-- R205, R247, R248, R253, R255, R256: the recorder's bursts, triggers, segments and exports, and a harmonic record. -/
def Obligations.RecorderCommands : Prop :=
  (∀ (s : State) (b : Nat) (x : BufRow) (l : List BufRow), s.bufOf b = x :: l → 65536 ≤ bufBytes (x :: l) →
    Does (.recBurstWrite b) s (fun t => t = s.flushBay b)) ∧
  (∀ (s : State) (b : Nat) (x : BufRow) (l : List BufRow), s.bufOf b = x :: l → bufBytes (x :: l) < 65536 →
    Does (.recBurstWrite b) s (fun t => x.arrived + 1000 * max 1 (s.rd REC_FLUSH.FLUSH_US) ≤ t.tick ∧
      t = (s.advanceTo (x.arrived + 1000 * max 1 (s.rd REC_FLUSH.FLUSH_US))).flushBay b)) ∧
  (∀ (s : State) (val : Word), s.wf = true → bitOf val.toNat 4 = true → s.on REC_CFG.ENABLE = true → s.rd REC_CMD_TIME_NS.T = 0 →
    s.rd REC_CMD_TIME_SEC_LO.T = 0 → s.rd REC_CMD_TIME_SEC_HI.T = 0 → Does (.recCmdTrigger val) s (fun t =>
      t = (s.wr REC_CMD.SET (bitsOf val.toNat 0 4)).fireSet (bitsOf val.toNat 0 4) { tick := s.tick, gtc := s.tim.gtc })) ∧
  (∀ (s : State) (val : Word), s.wf = true → (bitOf val.toNat 4 = false ∨ s.on REC_CFG.ENABLE = false) →
    Does (.recCmdTrigger val) s (fun t => t.rd REC_CMD.SET = bitsOf val.toNat 0 4 ∧ t.rec_ = s.rec_)) ∧
  (∀ (s : State) (b c : Nat) (g : Seg), s.rec_.segs.find? (fun g => g.bay == b && g.set == c && g.close.isNone) = some g →
    Does (.segmentClose b c) s (fun t => s.segDue g ≤ t.tick ∧ t = (s.advanceTo (s.segDue g)).closeSeg g false)) ∧
  (∀ (s : State) (g : Seg), s.rec_.exp = none → s.rd PWR_STATUS.PSTATE = 0 → s.firstClosed = some g →
    Does .segmentExportStart s (fun t => t = s.bulkTouch.exportBegin g ∧ g ∈ s.rec_.segs)) ∧
  (∀ (s : State) (x : Export) (g : Seg), s.rec_.exp = some x → x.done = some true → s.rec_.segs.find? (fun g => g.id == x.seg) = some g →
    x.step < 3 → Does .segmentExportStepDone s (fun t => t = s.exportStep g { x with step := x.step + 1, done := none })) ∧
  (∀ (s : State) (x : Export) (g : Seg), s.rec_.exp = some x → x.done = some true → s.rec_.segs.find? (fun g => g.id == x.seg) = some g →
    3 ≤ x.step → Does .segmentExportStepDone s (fun t => t = s.exportDone g x)) ∧
  (∀ (s : State) (x : Export) (g : Seg), s.rec_.exp = some x → x.done = some false → s.rec_.segs.find? (fun g => g.id == x.seg) = some g →
    Does .segmentExportStepDone s (fun t => t.rec_.failedAt = s.tick + 1 ∧ s.told 291 < t.told 291 ∧
      ∃ y, t.rec_.exp = some y ∧ y.step = 1 ∧ y.seg = x.seg)) ∧
  (∀ (s : State) (x : Export) (g : Seg), s.rec_.exp = some x → s.rec_.failedAt ≠ 0 → s.rd PWR_STATUS.PSTATE = 0 →
    s.rec_.segs.find? (fun g => g.id == x.seg) = some g → Does .segmentExportRetry s (fun t =>
      s.rec_.failedAt + 999999999 ≤ t.tick ∧ ∃ u : State, u.rec_.failedAt = 0 ∧ u.rec_.segs = s.rec_.segs ∧ t = u.exportBegin g)) ∧
  (∀ (s : State) (c : Nat) (j : HarmJob), s.wf = true → (s.pch c).harm = some j → Does (.harmonicRecordWritten c) s (fun t =>
    t = (((s.setPch c { s.pch c with harm := none }).putRecord (s.harmAddr j.slot) j.bytes).count PHE_cnt_LO.COUNT 3).cal 434))

/-- R391, R394, R396, R397, R400, R401, R403 to R407: the memory controllers. How many refreshes an idle bank pays is a free value. -/
def Obligations.MemoryCommands : Prop :=
  (∀ (s : State) (c ch bank : Nat), s.wf = true → s.on MEM_CLc_STATUS.TRAINED c = true → c < 2 → ch < s.chansOf c →
    s.on MEM_CLc_STATUS.IN_SR c = false → (c = 1 ∨ s.quiet = false) → cellGet (fun _ => 0) s.mem.owed (bankKey c ch bank) + 1 < 8 →
    Does (.memRefreshDue c ch bank false 0 []) s (fun t => cellGet (fun _ => 0) s.mem.refAt (bankKey c ch bank) + s.refInterval c ch ≤ t.tick ∧
      t.mem.owed = cellSet (fun _ => 0) s.mem.owed (bankKey c ch bank) (cellGet (fun _ => 0) s.mem.owed (bankKey c ch bank) + 1))) ∧
  (∀ (s : State) (temps : List Int), s.wf = true → Does (.memTempRead temps) s (fun t => s.tick < t.tick ∧
    t.tick % 4000000 = 0 ∧ ∀ d, d < 8 → d % 4 < s.chansOf (d / 4) → t.rd MEM_TEMPd.DEGC d = unsgn 8 (temps.getD d 0))) ∧
  (∀ (s : State) (ch : Nat), s.on MEM_CLc_STATUS.TRAINED 1 = true → ch < s.chansOf 1 → s.on MEM_TRAIN.RETRAIN_MS = true →
    Does (.memRetrainDue 1 ch) s (fun t => cellGet (fun _ => 0) s.mem.last (4 + ch) + 1000000 * s.rd MEM_TRAIN.RETRAIN_MS ≤ t.tick ∧
      t.mem.last = cellSet (fun _ => 0) s.mem.last (4 + ch) t.tick)) ∧
  (∀ (s : State) (c ch x : Nat), cellGet (fun _ => 0) s.mem.due (4 * c + ch) = x + 1 → Does (.memRetrainDeadline c ch) s (fun t =>
    x + 1000000 * s.rd MEM_TRAIN.DEADLINE_MS ≤ t.tick ∧ s.told 452 < t.told 452 ∧
    t.mem.last = cellSet (fun _ => 0) s.mem.last (4 * c + ch) t.tick)) ∧
  (∀ (s : State) (val : Word), s.wf = true → bitsOf val.toNat 3 1 = 1 → bitsOf val.toNat 0 3 < s.chansOf 1 → Does (.memRetrainRequest val) s (fun t =>
    bitsOf val.toNat 0 3 ∈ t.mem.training ∧ t.rd MEM_TRAIN_CMD.CLASS = 1 ∧ t.rd MEM_TRAIN_CMD.CHANNEL = bitsOf val.toNat 0 3)) ∧
  (∀ (s : State) (val : Word), s.wf = true → bitsOf val.toNat 3 1 = 0 → bitsOf val.toNat 0 3 < s.chansOf 0 → Does (.memRetrainRequest val) s (fun t =>
    bitsOf val.toNat 0 3 ∈ t.mem.asked ∧ t.rd MEM_TRAIN_CMD.CLASS = 0)) ∧
  (∀ (s : State) (ch : Nat), s.mem.training.contains ch = true → Does (.memRetrainDone ch) s (fun t =>
    t.mem.training.contains ch = false ∧ s.told 453 < t.told 453)) ∧
  (∀ (s : State) (val : Word), s.wf = true → s.rd MEM_REPAIR_CMD.STATE ∉ [1, 2] → s.usable (bitsOf val.toNat 0 1) ≤ s.rd64 MEM_REPAIR_ADDR_LO.OFFSET →
    Does (.memRepairRequest val) s (fun t => t.rd MEM_REPAIR_CMD.STATE = 4 ∧ s.told 455 < t.told 455)) ∧
  (∀ (s : State) (val : Word), s.wf = true → s.rd MEM_REPAIR_CMD.STATE ∉ [1, 2] → s.rd64 MEM_REPAIR_ADDR_LO.OFFSET < s.usable (bitsOf val.toNat 0 1) →
    bitsOf val.toNat 0 1 = 0 → Does (.memRepairRequest val) s (fun t => t.rd MEM_REPAIR_CMD.STATE = 1 ∧ ∃ r, t.mem.repairs = s.mem.repairs ++ [r] ∧
      r.cls = 0 ∧ r.off = s.rd64 MEM_REPAIR_ADDR_LO.OFFSET ∧ r.mode = bitsOf val.toNat 1 1)) ∧
  (∀ (s : State) (r : Repair) (l : List Repair), s.wf = true → s.waitingRepairs = r :: l → r.cmd = true → Does .memRepairWaitExpire s (fun t =>
    r.from_ + 1000000 * s.rd MEM_CFG.REPAIR_WAIT_MS ≤ t.tick ∧ t.rd MEM_REPAIR_CMD.STATE = 2 ∧ s.told 454 < t.told 454)) ∧
  (∀ (s : State) (c die bank row : Nat) (remapped : Bool) (r : Repair), s.wf = true → s.mem.repairs.find? (fun r => r.cls == c && r.running) = some r →
    r.cmd = true → Does (.memRepairDone c false remapped die bank row) s (fun t => t.rd MEM_REPAIR_CMD.STATE = 4 ∧ r ∉ t.mem.repairs ∧
      s.told 455 < t.told 455)) ∧
  (∀ (s : State) (c die bank row : Nat) (remapped : Bool) (r : Repair), s.wf = true → s.mem.repairs.find? (fun r => r.cls == c && r.running) = some r →
    s.rd MEM_REPAIR_CMD.LOG_USED < repairLogSize → s.on PWR_STATUS.NV_REFUSED = false → Does (.memRepairDone c true remapped die bank row) s (fun t =>
      t.rd MEM_REPAIR_CMD.LOG_USED = s.rd MEM_REPAIR_CMD.LOG_USED + 1 ∧ r ∉ t.mem.repairs ∧ s.told 454 < t.told 454)) ∧
  (∀ (s : State) (c off req row : Nat), s.wf = true → Does (.dramEccError c off true req row) s (fun t => s.told 449 < t.told 449 ∧
    t.rd64 MEM_cnt_LO.COUNT 1 = (s.rd64 MEM_cnt_LO.COUNT 1 + 1) % 2 ^ 64 ∧ t.mem.ecc.length = min (s.mem.ecc.length + 1) (max eccFifo s.mem.ecc.length))) ∧
  (∀ (s : State) (who : Nat), s.shut who = false → Does (.memEccPop who) s (fun t => t.reply = (s.mem.ecc.headD (0, 0)).1 ∧ t.mem.ecc = s.mem.ecc.drop 1 ∧
    tabGet t.rdHold who = { valid := true, addr := MEM_ECC_LO.ENTRY.addr 0 0, val := (s.mem.ecc.headD (0, 0)).2 })) ∧
  (∀ s : State, s.wf = true → s.on MEM_CFG.SCRUB_H = true → Does .memScrubPass s (fun t => t.mem.scrubFrom = t.tick ∧
    s.mem.scrubFrom + 3600000000000 * s.rd MEM_CFG.SCRUB_H ≤ t.tick ∧ t.rd64 MEM_cnt_LO.COUNT 8 = (s.rd64 MEM_cnt_LO.COUNT 8 + 1) % 2 ^ 64)) ∧
  (∀ s : State, s.wf = true → Does .memRdEpochEnd s (fun t => t.rd MEM_THROTTLE.REQ = 0 ∧ s.tick < t.tick ∧ t.tick % 4000000 = 0)) ∧
  (∀ s : State, s.wf = true → s.on MEM_CLc_STATUS.TRAINED 1 = true → s.on MEM_CLc_STATUS.IN_SR 1 = false → s.on MEM_SR.IDLE_US = true →
    Does .bulkIdleSelfRefresh s (fun t => t.on MEM_CLc_STATUS.IN_SR 1 = true ∧ s.mem.bulkAt + 1000 * s.rd MEM_SR.IDLE_US ≤ t.tick)) ∧
  (∀ s : State, s.wf = true → s.rd MEM_TEST.STATE ≠ 1 → s.rd64 MEM_TEST_BASE_LO.BYTES % 65536 ≠ 0 → Does .memTestStart s (fun t =>
    t.rd MEM_TEST.STATE = 4 ∧ t.bulk = s.bulk)) ∧
  (∀ s : State, s.wf = true → s.rd MEM_TEST.STATE ≠ 1 → s.rd64 MEM_TEST_BASE_LO.BYTES % 65536 = 0 → s.rd64 MEM_TEST_LEN_LO.BYTES % 65536 = 0 →
    s.rd64 MEM_TEST_BASE_LO.BYTES + s.rd64 MEM_TEST_LEN_LO.BYTES ≤ s.usable 1 →
    s.meetsRing (s.rd64 MEM_TEST_BASE_LO.BYTES) (s.rd64 MEM_TEST_LEN_LO.BYTES) = false → Does .memTestStart s (fun t => t.rd MEM_TEST.STATE = 1 ∧
      t.mem.testBase = s.rd64 MEM_TEST_BASE_LO.BYTES ∧ t.mem.testLen = s.rd64 MEM_TEST_LEN_LO.BYTES)) ∧
  (∀ s : State, s.wf = true → s.rd MEM_TEST.STATE = 1 → Does .memTestAbort s (fun t => t.rd MEM_TEST.STATE = 0 ∧
    ∀ a, s.mem.testBase ≤ a → a < s.mem.testBase + s.mem.testLen → cellGet bulkShip t.bulk a = 0#8)) ∧
  (∀ (s : State) (pass : Bool), s.wf = true → s.rd MEM_TEST.STATE = 1 → Does (.memTestDone pass) s (fun t =>
    t.rd MEM_TEST.STATE = (if pass then 2 else 3) ∧ s.told 459 < t.told 459)) ∧
  (∀ (s : State) (who : Nat), s.shut who = false → Does (.mramDataRead who) s (fun t =>
    t.reply = leNat (s.mramRead (8 * s.rd MEM_MRAM_ADDR.OFFSET) 8) % 2 ^ 32 ∧ (tabGet t.rdHold who).valid = true ∧
    (tabGet t.rdHold who).val = leNat (s.mramRead (8 * s.rd MEM_MRAM_ADDR.OFFSET) 8) / 2 ^ 32)) ∧
  (∀ (s : State) (who : Nat) (val : Word), s.shut who = false → s.wf = true → 0x200000 ≤ 8 * s.rd MEM_MRAM_ADDR.OFFSET → s.on PWR_STATUS.NV_REFUSED = false →
    Does (.mramDataWrite who val) s (fun t => t.mramRead (8 * s.rd MEM_MRAM_ADDR.OFFSET) 8 =
      leBytes 8 (s.takeHi who (MEM_MRAM_DATA_LO.DATA.addr 0 0) val.toNat).2)) ∧
  (∀ (s : State) (who : Nat) (val : Word), s.shut who = false → s.wf = true → (8 * s.rd MEM_MRAM_ADDR.OFFSET < 0x200000 ∨ s.on PWR_STATUS.NV_REFUSED = true) →
    Does (.mramDataWrite who val) s (fun t => t.mram = s.mram ∧ s.told 460 < t.told 460))

/-- R419, R424, R427, R428: the update engine, the floor word and the partitions. -/
def Obligations.UpdateCommands : Prop :=
  (∀ (s : State) (g : Nat) (j : Job), s.pf0Job g 0xA0 = some j → s.boot.upd.job = none → s.boot.upd.want = 0 → s.updPhase ∈ [0, 4, 5] →
    Does (.updateBegin g) s (fun t => t = (s.setUpd { want := 1, job := some (g, j.idx), told := s.boot.upd.told }).updGo)) ∧
  (∀ (s : State) (g : Nat) (j : Job), s.pf0Job g 0xA0 = some j → s.boot.upd.job = none → s.boot.upd.want = 0 → s.updPhase ∉ [0, 4, 5] →
    Does (.updateBegin g) s (fun t => t = s.finishJob g j.idx 0x110)) ∧
  (∀ (s : State) (g : Nat) (j : Job), s.pf0Job g 0xA1 = some j → s.boot.upd.job = none → s.boot.upd.want = 0 → s.updPhase = 2 →
    s.boot.upd.data = [] → qwAt j.qw 1 % 256 = 0 → qwAt j.qw 1 + j.bytes.length ≤ s.boot.half →
    (0xF00 < qwAt j.qw 1 ∨ qwAt j.qw 1 + j.bytes.length ≤ 0xF00) → j.bytes.length % 256 = 0 → 256 ≤ j.bytes.length → j.bytes.length ≤ 1048576 →
    Does (.updateWrite g) s (fun t =>
      t = (s.setUpd { s.boot.upd with job := some (g, j.idx), off := qwAt j.qw 1, data := j.bytes, page := 0 }).updGo)) ∧
  (∀ (s : State) (g : Nat) (j : Job), s.pf0Job g 0xA1 = some j → s.boot.upd.job = none → s.updPhase ≠ 2 →
    Does (.updateWrite g) s (fun t => t = s.finishJob g j.idx 0x110)) ∧
  (∀ (s : State) (g : Nat) (j : Job), s.pf0Job g 0xA2 = some j → s.boot.upd.job = none → s.boot.upd.want = 0 → s.updPhase = 2 →
    s.boot.upd.data = [] → Does (.updateFinish g) s (fun t => t = (s.setUpd { s.boot.upd with job := some (g, j.idx), want := 3 }).updGo)) ∧
  (∀ (s : State) (g : Nat) (j : Job), s.rd QMG_RINGg_DESC.FN g = 0 →
    (s.ring g).jobs.find? (fun j => j.done.isNone && j.ready && j.opcode == 0xA3) = some j → 1 ≤ s.updPhase → s.updPhase ≤ 3 →
    Does (.updateAbort g) s (fun t => t = s.updAbort (some (g, j.idx)))) ∧
  (∀ s : State, s.wf = true → s.boot.upd.busy = true → s.updPhase = 1 → Does .flashEraseDone s (fun t =>
    t = (((s.flashErase s.updSector).setUpd { s.boot.upd with busy := false, sector := s.boot.upd.sector + 1 }).wr
      BOOT_UPD_PROGRESS.SECTORS (s.boot.upd.sector + 1)).updGo.showSpiWp ∧
    ∀ a, s.updSector ≤ a → a < s.updSector + 65536 → cellGet flashShip t.boot.flash a = 0xFF#8)) ∧
  (∀ s : State, s.wf = true → s.boot.upd.busy = true → 2 ≤ s.updPhase → s.boot.upd.seq = none → s.updPage.2.length = 256 →
    Does (.flashProgramDone s.updPage.2) s (fun t => t.flashRead s.updPage.1 256 = s.updPage.2)) ∧
  (∀ (s : State) (got : List Byte), s.wf = true → s.boot.upd.busy = true → 2 ≤ s.updPhase → s.boot.upd.seq = none → got ≠ s.updPage.2 →
    Does (.flashProgramDone got) s (fun t => ∃ u : State, u.boot.upd.job = none ∧ u.boot.upd.data = [] ∧
      t = ((u.updDone s.boot.upd.job 0x111).updGo).showSpiWp)) ∧
  (∀ s : State, s.updPhase = 3 → s.boot.upd.seq = none → s.boot.upd.fail = none → s.boot.upd.stop = false → s.boot.upd.want = 0 →
    Does .updateCheckDone s (fun t => ∃ u : UpdSt, t = (s.setUpd u).updGo ∧ (u.seq = none ↔ u.fail ≠ none) ∧ u.job = s.boot.upd.job)) ∧
  (∀ s : State, s.wf = true → s.rd BOOT_FLOOR_CMD.STATE ≠ 1 → s.boot.floors.getLastD 0 < s.rd BOOT_FLOOR_NEW.VALUE →
    s.rd BOOT_FLOOR_NEW.VALUE ≤ s.rd BOOT_RUN_SEQ.SEQ → s.boot.floors.length < 16 → s.on PWR_STATUS.NV_REFUSED = false →
    Does .floorProgram s (fun t => t.rd BOOT_FLOOR_CMD.STATE = 1 ∧ t.boot.floorVal = s.rd BOOT_FLOOR_NEW.VALUE + 1 ∧ t.boot.floors = s.boot.floors)) ∧
  (∀ s : State, s.wf = true → s.rd BOOT_FLOOR_CMD.STATE ≠ 1 → s.rd BOOT_FLOOR_NEW.VALUE ≤ s.boot.floors.getLastD 0 →
    Does .floorProgram s (fun t => t.rd BOOT_FLOOR_CMD.STATE = 3 ∧ t.boot = s.boot ∧ s.told 25 < t.told 25)) ∧
  (∀ (s : State) (v : Nat), s.wf = true → s.boot.floorVal = v + 1 → Does .floorProgramDone s (fun t => t.boot.floors = s.boot.floors ++ [v] ∧
    t.boot.floorVal = 0 ∧ t.rd BOOT_FLOOR_CMD.STATE = 2 ∧ t.rd BOOT_FLOOR.FLOOR = v % 2 ^ 32 ∧ s.told 24 < t.told 24)) ∧
  (∀ (s : State) (g : Nat) (j : Job), s.pf0Job g 0xA8 = some j → s.rd BOOT_PARTp_STATUS.PSTATE (bitsOf (qwAt j.qw 1) 0 6) ≠ 0 →
    let p := bitsOf (qwAt j.qw 1) 0 6
    let b := slice j.bytes (pkgManLen j.bytes) (manComp j.bytes 0).len
    Does (.loadPartition g) s (fun t => t = if s.pkgReason p j.bytes ≠ 0 then s.finishJob g j.idx 0x112 (s.pkgReason p j.bytes) else
      (((((s.setPart p { s.part p with pending := b }).rtWrite (s.part p).pend b).wr BOOT_PARTp_STATUS.PSTATE 3 p).raise 23 [i8 p]
        ).finishJob g j.idx 0))) ∧
  (∀ (s : State) (g : Nat) (j : Job), s.pf0Job g 0xA9 = some j → s.on BOOT_PARTp_STATUS.PROT (bitsOf (qwAt j.qw 1) 0 6) = false →
    s.rd BOOT_PARTp_STATUS.PSTATE (bitsOf (qwAt j.qw 1) 0 6) = 3 → Does (.activatePartition g) s (fun t =>
      t = (s.activate (bitsOf (qwAt j.qw 1) 0 6)).finishJob g j.idx 0)) ∧
  (∀ (s : State) (g : Nat) (j : Job), s.pf0Job g 0xA9 = some j → s.on BOOT_PARTp_STATUS.PROT (bitsOf (qwAt j.qw 1) 0 6) = true →
    Does (.activatePartition g) s (fun t => t = s.finishJob g j.idx 0x114)) ∧
  (∀ (s : State) (who p : Nat), s.shut who = false → p < 64 → s.on BOOT_PARTp_STATUS.PROT p = true → isThread who = true →
    agentCluster who ≠ s.rd BOOT_PARTp_STATUS.CLUSTER p → s.rd BOOT_PARTp_STATUS.PSTATE p = 3 →
    Does (.partitionActivateReg who p) s (fun t => t = s.activate p)) ∧
  (∀ (s : State) (who p : Nat), s.shut who = false → p < 64 → (s.on BOOT_PARTp_STATUS.PROT p = false ∨ isThread who = false ∨
    agentCluster who = s.rd BOOT_PARTp_STATUS.CLUSTER p) → Does (.partitionActivateReg who p) s (fun t => t = s.bad))

/-- R147 to R155, R161, R154: the frames of the ingest FIFO, the loss scan and the keys. -/
def Obligations.IngestCommands : Prop :=
  (∀ (s : State) (f : RxFrame) (l : List RxFrame), s.ppl.svIn = f :: l → Does .svFrameIngest s (fun t => t.ppl.svIn = l)) ∧
  (∀ (s : State) (f : RxFrame) (l : List RxFrame), s.wf = true → s.ppl.svIn = f :: l → s.on SVI_CFG.ENABLE = false →
    Does .svFrameIngest s (fun t => t.svi = s.svi ∧ s.told 195 < t.told 195 ∧
      t.rd64 SVI_cnt_LO.COUNT 2 = (s.rd64 SVI_cnt_LO.COUNT 2 + 1) % 2 ^ 64)) ∧
  (∀ (s : State) (f : RxFrame) (l : List RxFrame), s.wf = true → s.ppl.svIn = f :: l → s.on SVI_CFG.ENABLE = true →
    etherType f.bytes ≠ (if f.goose then 0x88B8 else 0x88BA) → Does .svFrameIngest s (fun t => t.svi = s.svi ∧ s.told 201 < t.told 201 ∧
      t.rd64 SVI_cnt_LO.COUNT 1 = (s.rd64 SVI_cnt_LO.COUNT 1 + 1) % 2 ^ 64)) ∧
  (∀ (s : State) (f : RxFrame) (l : List RxFrame), s.wf = true → s.ppl.svIn = f :: l → s.on SVI_CFG.ENABLE = true → f.goose = true →
    etherType f.bytes = 0x88B8 → s.ppl.gooseIn.length < 64 → Does .svFrameIngest s (fun t => t.ppl.gooseIn = s.ppl.gooseIn ++ [f])) ∧
  (∀ (s : State) (f : RxFrame) (l : List RxFrame), s.wf = true → s.ppl.svIn = f :: l → s.on SVI_CFG.ENABLE = true → f.goose = true →
    etherType f.bytes = 0x88B8 → 64 ≤ s.ppl.gooseIn.length → Does .svFrameIngest s (fun t => t.ppl.gooseIn = s.ppl.gooseIn ∧
      t.rd64 TRP_cnt_LO.COUNT 16 = (s.rd64 TRP_cnt_LO.COUNT 16 + 1) % 2 ^ 64)) ∧
  (∀ (s : State) (f : RxFrame) (l : List RxFrame), s.wf = true → s.ppl.svIn = f :: l → s.on SVI_CFG.ENABLE = true → f.goose = false →
    etherType f.bytes = 0x88BA → Does .svFrameIngest s (fun t => t = (State.showSvFifo { s with ppl := { s.ppl with svIn := l } }).ingest f)) ∧
  (∀ s : State, s.wf = true → s.tim.carried = false → Does .svLossScan s (fun t => s.tick < t.tick ∧ t.tim.gtc % 100000 = 0 ∧
    ∀ i, i ∈ s.validSubs → i < 1024 → s.rd SVI_SUBs_STATE.STATE i ∈ [1, 2, 3] → (s.sub i).lastTick + 100000 * subLoss (s.subE i) ≤ s.tick →
      t.rd SVI_SUBs_STATE.STATE i = 4)) ∧
  (∀ (s : State) (k : Nat), s.wf = true → k < 256 → s.on SVI_KEYk_CTRL.VALID_NEXT k = true → Does (.keyPromote k) s (fun t =>
    t.on SVI_KEYk_CTRL.VALID_CUR k = true ∧ t.on SVI_KEYk_CTRL.VALID_NEXT k = false ∧
    t.rd SVI_KEYk_ID_CUR.ID k = s.rd SVI_KEYk_ID_NEXT.ID k ∧ (∀ w, w < 8 → t.rd SVI_KEYk_CURw.KEY k w = s.rd SVI_KEYk_NEXTw.KEY k w) ∧
    s.told 202 < t.told 202)) ∧
  (∀ (s : State) (k : Nat), s.wf = true → k < 256 → s.on SVI_KEYk_CTRL.AUTO k = true → s.on SVI_KEYk_CTRL.VALID_NEXT k = true →
    Does (.keyAutoPromote k) s (fun t => s.tickOfGtc ((s.rd SVI_KEYk_NEXT_FROM_LO.SEC k + s.rd SVI_KEYk_NEXT_FROM_HI.SEC k % 2 ^ 16 * 2 ^ 32)
      * 1000000000) ≤ t.tick ∧ t.on SVI_KEYk_CTRL.VALID_NEXT k = false ∧ t.rd SVI_KEYk_ID_CUR.ID k = s.rd SVI_KEYk_ID_NEXT.ID k))

/-- R220, R223, R225, R231, R238, R240: publications, arm registers, comparators and GOOSE subscriptions. -/
def Obligations.TripCommands : Prop :=
  (∀ (s : State) (p : Nat), (s.pub p).running = true → s.pubOpen p = true → (s.pub p).woken = false → Does (.gooseRetransmit p) s (fun t =>
    (s.pub p).next ≤ t.tick ∧ t = ((s.advanceTo (s.pub p).next).setPub p { s.pub p with woken := false }).pubAgain p)) ∧
  (∀ (s : State) (k : Nat) (val : Word), k < 8 → Does (.termArmSet k val) s (fun t => t = s.armWrite k val.toNat true)) ∧
  (∀ (s : State) (k : Nat) (val : Word), k < 8 → Does (.termArmClear k val) s (fun t => t = s.armWrite k val.toNat false)) ∧
  (∀ (s : State) (k j : Nat) (set : Bool), s.wf = true → k < 8 → j < 32 → s.gatedTerm (32 * k + j) = true →
    Does (if set then .termArmSet k (BitVec.ofNat 32 (2 ^ j)) else .termArmClear k (BitVec.ofNat 32 (2 ^ j))) s (fun t =>
      t.bitAt RMA_ARM_WANTk.WANT (32 * k + j) = set ∧ t.trp = s.trp ∧ t.termState (32 * k + j) = s.termState (32 * k + j))) ∧
  (∀ (s : State) (k j : Nat), s.wf = true → k < 8 → j < 32 → s.termState (32 * k + j) ≠ 0 →
    Does (.termUnlatch k (BitVec.ofNat 32 (2 ^ j))) s (fun t =>
      t = ((s.wr TRP_TERMt_STATUS.UNLATCH 1 (32 * k + j)).termEval (32 * k + j) none []).recHandle)) ∧
  (∀ s : State, s.tim.carried = false → Does .comparatorStaleScan s (fun t => s.tick < t.tick ∧ t.tim.gtc % 100000 = 0)) ∧
  (∀ (s : State) (f : RxFrame) (l : List RxFrame), s.wf = true → s.ppl.gooseIn = f :: l → Does .gooseFrameIntake s (fun t =>
    t.ppl.gooseIn = l ∧ t.rd64 TRP_cnt_LO.COUNT 7 = (s.rd64 TRP_cnt_LO.COUNT 7 + 1) % 2 ^ 64)) ∧
  (∀ (s : State) (f : RxFrame) (l : List RxFrame), s.wf = true → s.ppl.gooseIn = f :: l → readApp f.bytes = none →
    Does .gooseFrameIntake s (fun t => s.told 265 < t.told 265 ∧ t.trp = s.trp ∧
      t.rd64 TRP_cnt_LO.COUNT 10 = (s.rd64 TRP_cnt_LO.COUNT 10 + 1) % 2 ^ 64)) ∧
  (∀ (s : State) (f : RxFrame) (l : List RxFrame) (a : App), s.ppl.gooseIn = f :: l → readApp f.bytes = some a →
    Does .gooseFrameIntake s (fun t => t = (State.count { s with ppl := { s.ppl with gooseIn := l } } TRP_cnt_LO.COUNT 7).gooseChecks f a)) ∧
  (∀ s : State, s.wf = true → s.tim.carried = false → Does .gooseLossScan s (fun t => s.tick < t.tick ∧ t.tim.gtc % 1000000 = 0 ∧
    ∀ g, g ∈ s.validGsubs → g < 2048 → s.rd TRP_GSUBs_STATE.STATE g = 1 → (s.gsub g).lastTick + 1000000 * (s.gsub g).tal < s.tick →
      t.rd TRP_GSUBs_STATE.STATE g = 2))

/-- R88, R92 to R94, R99, R100: the link states of a port, its frame boundary, a pair's duplicate discard entries and supervision frames,
the reset of a pair, and a fabric port on one lane. -/
def Obligations.PortLinkCommands : Prop :=
  (∀ (s : State) (n : Nat), s.wf = true → n < 40 → s.lstate n = 1 → s.negotiates n = true → Does (.portLockAcquired n) s (fun t =>
    t.lstate n = 2 ∧ (s.tick ≠ 0 → (t.port n).since = s.tick) ∧ (n < 24 → t.on FPT_PORTn_STATUS.SIG n = true))) ∧
  (∀ (s : State) (n : Nat), s.wf = true → n < 40 → s.lstate n = 1 → s.negotiates n = false → Does (.portLockAcquired n) s (fun t => t.lstate n = 3)) ∧
  (∀ (s : State) (n speed : Nat), s.wf = true → n < 40 → s.lstate n = 2 → Does (.portAnComplete n speed) s (fun t => t.lstate n = 3)) ∧
  (∀ (s : State) (n : Nat), s.wf = true → n < 40 → s.lstate n = 2 → Does (.portAnTimeout n) s (fun t =>
    t.lstate n = 1 ∧ (s.port n).since + 500000000 ≤ t.tick)) ∧
  (∀ (s : State) (n cause : Nat), s.wf = true → n < 40 →
    (s.lstate n = 3 ∧ (cause = 0 ∨ cause = 2 ∨ (cause = 1 ∧ n < 24 ∧ s.rd FPT_PORTn_CFG.MODE n = 5)) ∨ (s.lstate n = 2 ∧ cause = 0)) →
    Does (.portLinkLost n cause) s (fun t => t.lstate n = 1)) ∧
  (∀ (s : State) (n : Nat), s.wf = true → n < 24 → s.lstate n = 4 → Does (.portResetComplete n) s (fun t =>
    t.lstate n = (if s.portEnabled n = true then 1 else 0))) ∧
  (∀ (s : State) (n : Nat), 24 ≤ n → n < 40 → s.lstate n = 4 → Does (.portResetComplete n) s (fun t =>
    t = s.setLstate n (if s.portEnabled n = true then 1 else 0))) ∧
  (∀ (s : State) (n : Nat), n < 40 → Does (.portTxBoundary n) s (fun t => t = s.txBoundary n)) ∧
  (∀ s : State, Does (.portTxBoundary 40) s (fun t => t = s.hostBoundary)) ∧
  (∀ (s : State) (p mac : Nat), s.wf = true → p < 12 → (tabGet (s.pair p).dd mac).used = true → Does (.ddEntryExpire p mac) s (fun t =>
    let d := tabSet (s.pair p).dd mac {}
    (tabGet (s.pair p).dd mac).last + 10000 * max 1 (s.rd FPT_PAIRp_DD.WINDOW p) ≤ t.tick ∧
    t = ((s.advanceTo ((tabGet (s.pair p).dd mac).last + 10000 * max 1 (s.rd FPT_PAIRp_DD.WINDOW p))).setPair p
      { s.pair p with dd := d }).showDd p)) ∧
  (∀ (s : State) (p : Nat), s.wf = true → p < 12 → s.pairMode p ≠ 0 → s.on FPT_PAIRp_SUP.INTERVAL_MS p = true →
    Does (.supervisionTx p) s (fun t => (s.pair p).supFrom + 1000000 * s.rd FPT_PAIRp_SUP.INTERVAL_MS p ≤ t.tick ∧
      t.pins = s.pins ∧ t.fwt = s.fwt ∧ t.trp = s.trp)) ∧
  (∀ (s : State) (p : Nat), s.wf = true → p < 12 → (s.lstate (2 * p) ≠ 0 ∨ s.lstate (2 * p + 1) ≠ 0) → Does (.pairReset p) s (fun t =>
    t.lstate (2 * p) = (if s.lstate (2 * p) = 0 then 0 else 4) ∧ t.lstate (2 * p + 1) = (if s.lstate (2 * p + 1) = 0 then 0 else 4) ∧
    t.rd FPT_PAIRp_STATUS.DD_USED p = 0 ∧ t.on FPT_PAIRp_STATUS.DRIVE p = false ∧ t.rd FPT_PAIRp_STATUS.BSTATE p = 0 ∧
    (s.fpt.powerHold = 0 → 9 ∉ (s.pair p).causes → t.rd FPT_PAIRp_STATUS.REASON p = 9))) ∧
  (∀ (s : State) (m lane : Nat), s.wf = true → m < 4 → s.on FPT_XPORTm_CFG.SPLIT m = false → s.lstate (24 + 4 * m) ≠ 0 →
    s.lstate (24 + 4 * m) ≠ 4 → Does (.fabricDegrade m lane) s (fun t => t.lstate (24 + 4 * m) = 1 ∧ (t.xport m).x1 = true ∧
      t.rd FPT_XPORTm_STATUS.DLANE m = lane % 4)) ∧
  (∀ (s : State) (m lane : Nat), m < 4 → s.on FPT_XPORTm_CFG.SPLIT m = true → s.wf = true →
    Does (.fabricDegrade m lane) s (fun t => t.fpt = s.fpt ∧ t.rd FPT_XPORTm_STATUS.DLANE m = s.rd FPT_XPORTm_STATUS.DLANE m)) ∧
  (∀ (s : State) (m : Nat), s.wf = true → m < 4 → s.on FPT_XPORTm_CFG.SPLIT m = false → s.lstate (24 + 4 * m) ≠ 0 → (s.xport m).x1 = true →
    Does (.fabricRestore m false) s (fun t => t.lstate (24 + 4 * m) = 1 ∧ (t.xport m).x1 = true)) ∧
  (∀ (s : State) (m : Nat), s.wf = true → m < 4 → s.on FPT_XPORTm_CFG.SPLIT m = false → s.lstate (24 + 4 * m) ≠ 0 → (s.xport m).x1 = true →
    Does (.fabricRestore m true) s (fun t => t = ((s.setXport m { s.xport m with x1 := false, tryLane := 0 }).goDown (24 + 4 * m)).raise
      (portSource (24 + 4 * m) 1))) ∧
  (∀ (s : State) (m lane : Nat), s.wf = true → m < 4 → lane < 4 → s.rd FPT_XPORTm_STATUS.LANE_OK m = 15 → s.lstate (24 + 4 * m) = 3 →
    s.on FPT_XPORTm_CFG.SPLIT m = false → (s.xport m).x1 = false → s.on FPT_XPORTm_CFG.AUTO_DEGRADE m = true →
    Does (.fabricLaneLost m lane) s (fun t => bitOf (t.rd FPT_XPORTm_STATUS.LANE_OK m) lane = false ∧ t.lstate (24 + 4 * m) = 1 ∧
      (t.xport m).x1 = true ∧ t.rd FPT_XPORTm_STATUS.DLANE m = (if lane = 0 then 1 else 0))) ∧
  (∀ (s : State) (m lane : Nat), s.wf = true → m < 4 → lane < 4 → s.on FPT_XPORTm_CFG.AUTO_DEGRADE m = false →
    Does (.fabricLaneLost m lane) s (fun t => bitOf (t.rd FPT_XPORTm_STATUS.LANE_OK m) lane = false ∧ (t.xport m) = s.xport m)) ∧
  (∀ (s : State) (m : Nat), s.wf = true → m < 4 → (s.xport m).tryLane ≠ 0 → s.portUp (24 + 4 * m) = false →
    Does (.fabricDegradeDwell m) s (fun t => (s.xport m).trySince + 100000000 ≤ t.tick ∧
      (t.xport m).tryLane = nextIn (s.healthy m) ((s.xport m).tryLane - 1) + 1 ∧
      t.rd FPT_XPORTm_STATUS.DLANE m = nextIn (s.healthy m) ((s.xport m).tryLane - 1) % 4)) ∧
  (∀ (s : State) (p : Nat), s.wf = true → p < 12 → s.lstate (2 * p) = 0 → s.lstate (2 * p + 1) = 0 → Does (.pairReset p) s (fun t =>
    (∀ n, n = 2 * p ∨ n = 2 * p + 1 → t.lstate n = (if s.portEnabled n = true then 1 else 0)) ∧
    t.rd FPT_PAIRp_STATUS.DD_USED p = 0 ∧ t.on FPT_PAIRp_STATUS.DRIVE p = false ∧ t.rd FPT_PAIRp_STATUS.BSTATE p = 0)) ∧
  (∀ (s : State) (m lane : Nat), s.wf = true → m < 4 → s.on FPT_XPORTm_CFG.SPLIT m = false → s.lstate (24 + 4 * m) = 4 →
    Does (.fabricDegrade m lane) s (fun t => t.lstate (24 + 4 * m) = 4 ∧ (t.xport m).x1 = true ∧
      t.rd FPT_XPORTm_STATUS.DLANE m = lane % 4))

/-- R96 to R98: the by-pass of a pair: its keeper, the loop check, the settling and the switching. -/
def Obligations.BypassCommands : Prop :=
  (∀ (s : State) (p : Nat), p < 12 → Does (.keeperKick p) s (fun t =>
    t = (s.setPair p { s.pair p with keeperFrom := s.tick, keeperExpired := false }).bypCheck p)) ∧
  (∀ (s : State) (p : Nat), s.wf = true → p < 12 → s.on FPT_PAIRp_KEEPER.TIMEOUT_MS p = true → (s.pair p).keeperExpired = false →
    Does (.keeperExpire p) s (fun t => (s.pair p).keeperFrom + 1000000 * s.rd FPT_PAIRp_KEEPER.TIMEOUT_MS p ≤ t.tick ∧
      (t.pair p).keeperExpired = true ∧ t.on FPT_PAIRp_STATUS.DRIVE p = false ∧ t.rd FPT_PAIRp_STATUS.BSTATE p = 0)) ∧
  (∀ (s : State) (p : Nat), s.wf = true → p < 12 → s.rd FPT_PAIRp_STATUS.BSTATE p = 1 → Does (.loopCheckTimeout p) s (fun t =>
    (s.pair p).since + 10000000 ≤ t.tick ∧ t.rd FPT_PAIRp_STATUS.BSTATE p = 0 ∧ (t.pair p).retryFrom = some t.tick)) ∧
  (∀ (s : State) (p t0 : Nat), s.wf = true → (s.pair p).retryFrom = some t0 → Does (.loopCheckRetry p) s (fun t => t0 + 100000000 ≤ t.tick ∧
    t = ((s.advanceTo (t0 + 100000000)).setPair p { s.pair p with retryFrom := none }).bypCheck p)) ∧
  (∀ (s : State) (p : Nat), s.wf = true → p < 12 → s.rd FPT_PAIRp_STATUS.BSTATE p = 2 → Does (.bypassSettleExpire p) s (fun t =>
    (s.pair p).since + 1000000 * s.rd FPT_PAIRp_BYP.SETTLE_MS p ≤ t.tick ∧ t.rd FPT_PAIRp_STATUS.BSTATE p = 3 ∧
    t.on FPT_PAIRp_STATUS.DRIVE p = true ∧ bitOf (t.rd PWR_BYP.DRIVE) p = true)) ∧
  (∀ (s : State) (p : Nat), s.wf = true → p < 12 → s.rd FPT_PAIRp_STATUS.BSTATE p = 3 → s.portUp (2 * p) = true → s.portUp (2 * p + 1) = true →
    Does (.bypassSwitchTimeout p) s (fun t => t.rd FPT_PAIRp_STATUS.BSTATE p = 4 ∧
      t.on FPT_PAIRp_STATUS.DRIVE p = s.on FPT_PAIRp_STATUS.DRIVE p)) ∧
  (∀ (s : State) (p : Nat), s.wf = true → p < 12 → s.rd FPT_PAIRp_STATUS.BSTATE p = 3 → (s.portUp (2 * p) && s.portUp (2 * p + 1)) = false →
    (s.pair p).fails < 2 → Does (.bypassSwitchTimeout p) s (fun t =>
      (s.pair p).since + 1000000 * max 1 (s.rd FPT_PAIRp_BYP.SWITCH_MS p) ≤ t.tick ∧ (t.pair p).fails = (s.pair p).fails + 1 ∧
      t.on FPT_PAIRp_STATUS.DRIVE p = false ∧ t.rd FPT_PAIRp_STATUS.BSTATE p = 0 ∧
      (t.bypCauses p = [] → t.rd FPT_PAIRp_STATUS.REASON p = 7))) ∧
  (∀ (s : State) (p : Nat), s.wf = true → p < 12 → s.rd FPT_PAIRp_STATUS.BSTATE p = 3 → (s.portUp (2 * p) && s.portUp (2 * p + 1)) = false →
    2 ≤ (s.pair p).fails → Does (.bypassSwitchTimeout p) s (fun t => t.on FPT_PAIRp_STATUS.DRIVE p = false ∧
      ((t.rd FPT_PAIRp_STATUS.BSTATE p = 5 ∧ t.rd FPT_PAIRp_STATUS.REASON p = 7) ∨
       (t.rd FPT_PAIRp_STATUS.BSTATE p = 0 ∧ (t.bypCause p).isSome = true)))) ∧
  (∀ (s : State) (p : Nat), s.wf = true → p < 12 → Does (.forceRelWrite p true) s (fun t =>
    t.on FPT_PAIRp_CTRL.FORCE_REL p = true ∧ t.on FPT_PAIRp_STATUS.DRIVE p = false ∧ t.rd FPT_PAIRp_STATUS.BSTATE p = 0)) ∧
  (∀ (s : State) (p : Nat), s.wf = true → p < 12 → s.rd FPT_PAIRp_STATUS.BSTATE p = 5 → Does (.forceRelWrite p false) s (fun t =>
    t.on FPT_PAIRp_CTRL.FORCE_REL p = false ∧ t.rd FPT_PAIRp_STATUS.BSTATE p ≤ 1))

/-- R62, R86, R90, R91, R97, R101, R104 to R106: what a frame does that arrives at a port, and PFC's pause time and watchdog. -/
def Obligations.FrameCommands : Prop :=
  (∀ (s : State) (n a b : Nat) (x : List Byte) (m : RxMarks),
    (40 ≤ n ∨ (s.portUp n = false ∧ ((s.port n).cutTick ≤ a ∨ b < (s.port n).cutTick))) →
    Does (.frameReceive n x m a b) s (fun t => t = s.advanceTo b)) ∧
  (∀ (s : State) (n a b : Nat) (x : List Byte) (m : RxMarks), s.wf = true → n < 24 → s.portUp n = true → s.pairMode (n / 2) < 2 →
    ((s.port n).cutTick ≤ a ∨ b < (s.port n).cutTick) → wireLen x ≤ s.maxFrame n → m.fcsOk = false → Does (.frameReceive n x m a b) s (fun t =>
      t = ((s.advanceTo b).rxMarks n m).badFrame n m ∧
      (m.dribble = false → t.rd64 FPT_STATn_MAC_LO.COUNT n 4 = (s.rd64 FPT_STATn_MAC_LO.COUNT n 4 + 1) % 2 ^ 64) ∧
      (m.dribble = true → s.rd FPT_PORTn_STATUS.SPEED n = 0 →
        t.rd64 FPT_STATn_MAC_LO.COUNT n 5 = (s.rd64 FPT_STATn_MAC_LO.COUNT n 5 + 1) % 2 ^ 64) ∧
      (m.symbol = true → t.rd64 FPT_STATn_MAC_LO.COUNT n 13 = (s.rd64 FPT_STATn_MAC_LO.COUNT n 13 + 1) % 2 ^ 64))) ∧
  (∀ (s : State) (n a b : Nat) (x : List Byte) (m : RxMarks), s.wf = true → n < 24 → s.portUp n = true →
    ((s.port n).cutTick ≤ a ∨ b < (s.port n).cutTick) → s.maxFrame n < wireLen x → Does (.frameReceive n x m a b) s (fun t =>
      t = ((s.advanceTo b).rxMarks n m).macCount n 6 ∧
      t.rd64 FPT_STATn_MAC_LO.COUNT n 6 = (s.rd64 FPT_STATn_MAC_LO.COUNT n 6 + 1) % 2 ^ 64)) ∧
  (∀ (s : State) (n a b : Nat) (x : List Byte) (m : RxMarks), s.wf = true → n < 40 → s.portUp n = true → wireLen x ≤ s.maxFrame n →
    ((s.port n).cutTick ≤ a ∨ b < (s.port n).cutTick) → m.fcsOk = true → Does (.frameReceive n x m a b) s (fun t => ∃ (u : State) (f : RxFrame),
      Only [some .fpt, some .cal, some .evt] [.tim, .tick, .evt, .sent] s u ∧ s.tick ≤ u.tick ∧
      f.bytes = x ∧ f.port = n ∧ f.endTick = b ∧
      (f.endGtc : Int) = max 0 ((s.advanceTo b).gtcAt b - sgn 16 (s.rd TIM_TSCOMPn.ING n) / 4) ∧
      (f.startGtc : Int) = max 0 ((s.advanceTo b).gtcAt a - sgn 16 (s.rd TIM_TSCOMPn.ING n) / 4) ∧
      f.steps = (s.advanceTo b).stepsAt b ∧ f.startSteps = (s.advanceTo b).stepsAt a ∧
      t = if isMacControl x && (beAt x 14 2 == 1 || beAt x 14 2 == 0x101) then
            (if 24 ≤ n && beAt x 14 2 == 0x101 then u.pfcReceived n x else u)
          else if s.isLoopCheck n x then u.loopReturned n
          else if n < 24 && 2 ≤ s.pairMode (n / 2) then u.hsrReceive f true
          else if n < 24 && s.pairMode (n / 2) = 1 then u.prpReceive f
          else u.enter f)) ∧
  (∀ (s : State) (n a b : Nat) (x : List Byte) (m : RxMarks), s.wf = true → n < 40 → a < (s.port n).cutTick →
    (s.port n).cutTick ≤ b → Does (.frameReceive n x m a b) s (fun t => (t.port n).cutTick = 0 ∧ t.ppl = s.ppl ∧
      (n < 24 → t.rd64 FPT_STATn_MAC_LO.COUNT n 8 = (s.rd64 FPT_STATn_MAC_LO.COUNT n 8 + 1) % 2 ^ 64) ∧
      (24 ≤ n → t.rd64 FPT_XSTATs_MAC_LO.COUNT (n - 24) 8 = (s.rd64 FPT_XSTATs_MAC_LO.COUNT (n - 24) 8 + 1) % 2 ^ 64))) ∧
  (∀ (s : State) (n a b : Nat) (x : List Byte) (m : RxMarks), n < 24 → s.portUp n = true → 2 ≤ s.pairMode (n / 2) →
    ((s.port n).cutTick ≤ a ∨ b < (s.port n).cutTick) → wireLen x ≤ s.maxFrame n → m.fcsOk = false → Does (.frameReceive n x m a b) s (fun t =>
      t = (((s.advanceTo b).rxMarks n m).badFrame n m).hsrReceive ((s.advanceTo b).stamped n x a b) false)) ∧
  (∀ (s : State) (n c : Nat), 24 ≤ n → n < 40 → c < 8 → (tabGet s.fpt.pfc (8 * n + c)).paused = true →
    Does (.pfcPauseTimeExpire n c) s (fun t => (tabGet s.fpt.pfc (8 * n + c)).until_ ≤ t.tick ∧
      t = ((s.advanceTo (tabGet s.fpt.pfc (8 * n + c)).until_).setPfc n c {}).startFrame n)) ∧
  (∀ (s : State) (n c : Nat), s.wf = true → 24 ≤ n → n < 40 → c < 8 → (tabGet s.fpt.pfc (8 * n + c)).paused = true →
    (tabGet s.fpt.pfc (8 * n + c)).discard = false → s.rd FPT_XPORTm_PFC_WD.WD_MS ((n - 24) / 4) ≠ 0 →
    (tabGet s.fpt.pfc (8 * n + c)).since + 1000000 * s.rd FPT_XPORTm_PFC_WD.WD_MS ((n - 24) / 4) ≤ (tabGet s.fpt.pfc (8 * n + c)).until_ →
    Does (.pfcWatchdogExpire n c) s (fun t => (tabGet t.fpt.pfc (8 * n + c)).discard = true ∧
      (tabGet s.fpt.pfc (8 * n + c)).since + 1000000 * s.rd FPT_XPORTm_PFC_WD.WD_MS ((n - 24) / 4) ≤ t.tick))

/-- R118, R120, R356: trap limiters, a trap ring's consumer index, and the shapers. -/
def Obligations.LimiterCommands : Prop :=
  (∀ s : State, Does .trapLimiterRefill s (fun t => s.tick < t.tick ∧ t.tick = (s.tick / 1000000 + 1) * 1000000 ∧
    t.regs = s.regs ∧ t.sch = s.sch ∧ ∀ k v, k < 160 →
      v = min (tabGet s.ppl.credit k + s.rd PPL_PORTn_LIMr.RATE (k / 4) (k % 4)) (1000 * max 1 (s.rd PPL_PORTn_LIMr.BURST (k / 4) (k % 4))) →
      v ≠ 0 → tabGet t.ppl.credit k = v)) ∧
  (∀ (s : State) (r : Nat) (val : Word), s.wf = true → r < 8 →
    ((val.toNat + 2 ^ 32 - s.rd PPL_TRAPr_PROD.PROD r) % 2 ^ 32 = 0 ∨
      2 ^ 31 ≤ (val.toNat + 2 ^ 32 - s.rd PPL_TRAPr_PROD.PROD r) % 2 ^ 32) →
    Does (.trapConsWrite r val) s (fun t => t.rd PPL_TRAPr_CONS.CONS r = val.toNat ∧ t.ppl = s.ppl)) ∧
  (∀ (s : State) (r : Nat) (val : Word), s.wf = true → r < 8 → (val.toNat + 2 ^ 32 - s.rd PPL_TRAPr_PROD.PROD r) % 2 ^ 32 ≠ 0 →
    (val.toNat + 2 ^ 32 - s.rd PPL_TRAPr_PROD.PROD r) % 2 ^ 32 < 2 ^ 31 →
    Does (.trapConsWrite r val) s (fun t => t.rd PPL_TRAPr_CONS.CONS r = s.rd PPL_TRAPr_CONS.CONS r ∧
      t.rd GLB_BAD_ACCESS.COUNT = min (s.rd GLB_BAD_ACCESS.COUNT + 1) (2 ^ 32 - 1))) ∧
  (∀ s : State, Does .shaperRefill s (fun t => s.tick < t.tick ∧ t.tick % 1000 = 0 ∧
    t = (let u := (s.advanceTo (s.nextScan 1000)).refillAll;
      forEach ((u.sch.queues.map (fun p => u.qPort p.1)).eraseDups) (fun n v =>
        if n = 40 then v.hostBoundary
        else if (v.pairPorts n).any (fun k => (v.port k).onWire.isSome) then v
        else forEach (v.pairPorts n) (fun k w => w.startFrame k) (v.takeScheduled n)) u)))

/-- R127, R130, R133, R135 to R137: learning, ageing, and the error FIFO of the forwarding tables. -/
def Obligations.LearnAndAge : Prop :=
  (∀ (s : State) (r : LearnReq) (l : List LearnReq), s.fwt.learn = r :: l → Does .learnRequest s (fun t => t.fwt.learn = l)) ∧
  (∀ (s : State) (r : LearnReq) (l : List LearnReq) (u : State) (i : Nat), s.fwt.cmd = none → s.wf = true → s.fwt.learn = r :: l →
    u = (State.fwtLookup { s with fwt := { s.fwt with learn := l } } 0 false (l2Key r.vid r.mac)).1 →
    (State.fwtLookup { s with fwt := { s.fwt with learn := l } } 0 false (l2Key r.vid r.mac)).2.1 = some i →
    Does .learnRequest s (fun t =>
      let v := u.fwtEntry 0 false i
      let same := l2Type v == 0 && l2Dest v % 64 == r.port
      (l2Static v = true → same = true → t = u) ∧
      (l2Static v = true → same = false → u.told 182 < t.told 182 ∧
        t.rd64 FWT_L2_cnt_LO.COUNT 3 = (u.rd64 FWT_L2_cnt_LO.COUNT 3 + 1) % 2 ^ 64 ∧ t.winLive = u.winLive) ∧
      (l2Static v = false → same = true → t = (u.fwtApply 0 false i (l2SetAge v 0)).fwtMirrorPut 0 (l2SetAge v 0)) ∧
      (l2Static v = false → same = false → ∃ w, w = l2Entry r.vid r.mac r.port + b2n (bitOf v 106) * 2 ^ 106 ∧
        t = ((((u.fwtApply 0 false i w).fwtMirrorPut 0 w).count FWT_L2_cnt_LO.COUNT 2).raise 180)))) ∧
  (∀ (s : State) (r : LearnReq) (l : List LearnReq) (u : State), s.fwt.cmd = none → s.fwt.learn = r :: l →
    u = (State.fwtLookup { s with fwt := { s.fwt with learn := l } } 0 false (l2Key r.vid r.mac)).1 →
    (State.fwtLookup { s with fwt := { s.fwt with learn := l } } 0 false (l2Key r.vid r.mac)).2.1 = none →
    Does .learnRequest s (fun t => t = match u.fwtPut 0 false (l2Entry r.vid r.mac r.port) with
      | (w, some _) => (w.count FWT_L2_cnt_LO.COUNT 0).fwtMirrorPut 0 (l2Entry r.vid r.mac r.port)
      | (w, none) => w)) ∧
  (∀ s : State, s.rd FWT_CFG.AGE_S ≠ 0 → Does .agerPass s (fun t => s.tick < t.tick ∧
    ∃ u : State, u = forEach s.fwt.learn (fun _ v => v.learnNext) (s.advanceTo (s.nextScan (s.rd FWT_CFG.AGE_S * nsPerSec / 3))) ∧
      u.fwt.learn = [] ∧ t = forEach (u.fwtListed 0 false) (fun i v => v.ageOne i) u)) ∧
  (∀ s : State, s.rd FWT_CFG.AGE_S = 0 → Does .agerPass s (fun t => t = s)) ∧
  (∀ s : State, Does .fwtPerrPop s (fun t => t.reply = (s.reg FWT_PERR.VALID.base).toNat ∧ t.fwt.perr = s.fwt.perr.tail ∧
    t.fwt.learn = s.fwt.learn)) ∧
  (∀ (s : State) (r : LearnReq) (l : List LearnReq) (op b v k : Nat), s.fwt.learn = r :: l → s.fwt.cmd = some (op, b, v, k) →
    Does .learnRequest s (fun t => ∃ u, u = State.learnOne { s with fwt := { s.fwt with learn := l } } r ∧
      (1 < k → t = { u with fwt := { u.fwt with cmd := some (op, b, v, k - 1) } }) ∧
      (k ≤ 1 → t = (State.wr { u with fwt := { u.fwt with cmd := none } } FWT_Tt_CMD_STATUS.BUSY 0 0).fwtRun 0 op b v)))

/-- R130, R140 to R142: the command registers of a forwarding table and its rebuild. -/
def Obligations.TableCommands : Prop :=
  (∀ (s : State) (k b : Nat), s.on FWT_Tt_CMD_STATUS.BUSY k = false → (k = 0 → s.fwt.learn = []) → s.wf = true → k < 3 → s.bankShut k b = true → ∀ c ∈ [Instr.fwtCmdInsert k b, .fwtCmdDelete k b, .fwtCmdLookup k b],
    Does c s (fun t => t.rd FWT_Tt_CMD_STATUS.RESULT k = 5 ∧ t.winLive = s.winLive ∧ t.winShadow = s.winShadow)) ∧
  (∀ (s : State) (k b : Nat), s.on FWT_Tt_CMD_STATUS.BUSY k = false → (k = 0 → s.fwt.learn = []) → s.wf = true → k < 3 → s.bankShut k b = false → imageBad k (s.cmdImage k) = true →
    Does (.fwtCmdInsert k b) s (fun t => t.rd FWT_Tt_CMD_STATUS.RESULT k = 4 ∧ t.winLive = s.winLive ∧ t.winShadow = s.winShadow)) ∧
  (∀ (s : State) (k b : Nat), s.on FWT_Tt_CMD_STATUS.BUSY k = false → (k = 0 → s.fwt.learn = []) → k < 3 → s.bankShut k b = false → imageBad k (s.cmdImage k) = false →
    Does (.fwtCmdInsert k b) s (fun t => t = match s.fwtPut k (b != 0) (s.cmdImage k) with
      | (u, some (i, rep)) => (if b = 0 then u.fwtMirrorPut k (s.cmdImage k) else u).cmdResult k (b2n rep) i
      | (u, none) => u.cmdResult k 3 0)) ∧
  (∀ (s : State) (k b : Nat), s.on FWT_Tt_CMD_STATUS.BUSY k = false → (k = 0 → s.fwt.learn = []) → k < 3 → s.bankShut k b = false → Does (.fwtCmdDelete k b) s (fun t =>
    t = match s.fwtDelete k (b != 0) (fwtKey k (s.cmdImage k)) with
      | (u, some i) => (if b = 0 then u.fwtMirrorDelete k (fwtKey k (s.cmdImage k)) else u).cmdResult k 0 i
      | (u, none) => u.cmdResult k 2 0)) ∧
  (∀ (s : State) (k b : Nat) (u : State) (i : Nat), s.on FWT_Tt_CMD_STATUS.BUSY k = false → (k = 0 → s.fwt.learn = []) → s.wf = true → k < 3 → s.bankShut k b = false →
    u = (s.fwtLookup k (b != 0) (fwtKey k (s.cmdImage k))).1 → (s.fwtLookup k (b != 0) (fwtKey k (s.cmdImage k))).2.1 = some i →
    Does (.fwtCmdLookup k b) s (fun t => t.rd FWT_Tt_CMD_STATUS.RESULT k = 0 ∧ t.winLive = u.winLive ∧ ∀ w, w < fwtWords k →
      t.rd FWT_Tt_CMD_ENTRYw.DATA k w = bitsOf (u.fwtEntry k (b != 0) i) (32 * w) 32)) ∧
  (∀ (s : State) (k b : Nat), s.on FWT_Tt_CMD_STATUS.BUSY k = false → (k = 0 → s.fwt.learn = []) → s.wf = true → k < 3 → s.bankShut k b = false →
    (s.fwtLookup k (b != 0) (fwtKey k (s.cmdImage k))).2.1 = none →
    Does (.fwtCmdLookup k b) s (fun t => t.rd FWT_Tt_CMD_STATUS.RESULT k = 2)) ∧
  (∀ (s : State) (k : Nat), s.wf = true → k < 3 → Does (.fwtInject k) s (fun t => t.on FWT_Tt_CTRL.INJECT k = true ∧ t.winLive = s.winLive)) ∧
  (∀ (s : State) (k : Nat), s.wf = true → k < 3 → s.rd FWT_Tt_SH_SEED0.SEED k ≠ s.rd FWT_Tt_SH_SEED1.SEED k → Does (.fwtRebuild k) s (fun t =>
    t.on FWT_Tt_STATUS.REBUILD_OPEN k = true ∧ t.on FWT_Tt_STATUS.CLEARING k = true ∧ t.winLive = s.winLive ∧
    t.winShadow = (s.clearShadow k).winShadow)) ∧
  (∀ (s : State) (k : Nat), k < 3 → s.rd FWT_Tt_SH_SEED0.SEED k = s.rd FWT_Tt_SH_SEED1.SEED k → Does (.fwtRebuild k) s (fun t => t = s.bad)) ∧
  (∀ (s : State) (k : Nat), s.wf = true → k < 3 → s.on FWT_Tt_STATUS.CLEARING k = true → Does (.fwtShadowCleared k) s (fun t =>
    t.on FWT_Tt_STATUS.CLEARING k = false ∧ s.told 184 < t.told 184)) ∧
  (∀ (s : State) (k : Nat), s.wf = true → k < 3 → s.on FWT_Tt_STATUS.REBUILD_OPEN k = true → s.on FWT_Tt_STATUS.CLEARING k = false →
    Does (.fwtSwap k) s (fun t => t.rd FWT_Tt_SEED0.SEED k = s.rd FWT_Tt_SH_SEED0.SEED k ∧
      t.rd FWT_Tt_SEED1.SEED k = s.rd FWT_Tt_SH_SEED1.SEED k ∧ t.rd FWT_Tt_SH_SEED0.SEED k = s.rd FWT_Tt_SEED0.SEED k ∧
      t.rd FWT_Tt_SH_SEED1.SEED k = s.rd FWT_Tt_SEED1.SEED k ∧ t.on FWT_Tt_STATUS.REBUILD_OPEN k = false ∧ s.told 185 < t.told 185 ∧
      t.winLive = (s.swapBanks k).winLive ∧ t.winShadow = (s.swapBanks k).winShadow)) ∧
  (∀ (s : State) (k : Nat), k < 3 → (s.on FWT_Tt_STATUS.REBUILD_OPEN k = false ∨ s.on FWT_Tt_STATUS.CLEARING k = true) →
    Does (.fwtSwap k) s (fun t => t = s.bad)) ∧
  (∀ (s : State) (k : Nat), s.wf = true → k < 3 → Does (.fwtAbortRebuild k) s (fun t => t.on FWT_Tt_STATUS.REBUILD_OPEN k = false ∧
    t.on FWT_Tt_STATUS.CLEARING k = false ∧ t.winLive = s.winLive ∧ t.winShadow = s.winShadow)) ∧
  (∀ (s : State) (k b : Nat), k < 3 → s.on FWT_Tt_CMD_STATUS.BUSY k = true →
    ∀ c ∈ [Instr.fwtCmdInsert k b, .fwtCmdDelete k b, .fwtCmdLookup k b], Does c s (fun t => t = s.bad)) ∧
  (∀ (s : State) (b op : Nat) (c : Instr), s.wf = true → s.on FWT_Tt_CMD_STATUS.BUSY 0 = false → s.fwt.learn ≠ [] →
    (op = 1 ∧ c = .fwtCmdInsert 0 b ∨ op = 2 ∧ c = .fwtCmdDelete 0 b ∨ op = 3 ∧ c = .fwtCmdLookup 0 b) → Does c s (fun t =>
      t.on FWT_Tt_CMD_STATUS.BUSY 0 = true ∧ t.fwt = { s.fwt with cmd := some (op, b, s.cmdImage 0, s.fwt.learn.length) } ∧
      t.winLive = s.winLive ∧ t.winShadow = s.winShadow))

/-- R323 to R325, R328 to R333: packets, timers and retries of the RDMA link, its miss buffer and its context cache. -/
def Obligations.LinkTransport : Prop :=
  (∀ (s : State) (f : RxFrame) (l : List RxFrame), s.ppl.rmaIn = f :: l → etherType f.bytes ≠ 0x88B6 → Does .rocePacketReceive s (fun t =>
    let u : State := { s with ppl := { s.ppl with rmaIn := l } }
    t = if s.on RMA_CFG.ENABLE then (u.roceFrame f).serveWant else u)) ∧
  (∀ (s : State) (q : Nat), (s.qp q).ackFrom ≠ 0 → (s.slotOf q).isSome = true → Does (.roceAckTimer q) s (fun t =>
    t = (s.advanceTo ((s.qp q).ackFrom - 1 + 1000 * s.rd RMA_ACK.ACK_US)).sendAck q)) ∧
  (∀ (s : State) (q : Nat), (s.qp q).timerFrom ≠ 0 → ctxTimeout.get (s.ctx q) ≠ 0 → ctxState.get (s.ctx q) = 3 →
    Does (.roceAckTimeout q) s (fun t =>
      let u := s.advanceTo ((s.qp q).timerFrom - 1 + 4096 * 2 ^ ctxTimeout.get (s.ctx q))
      t = if ctxRetryLeft.get (s.ctx q) = 0 then (u.raise 353 [i16 q]).qpError q 0 0x101
        else (u.putCtx q ctxRetryLeft (ctxRetryLeft.get (s.ctx q) - 1)).resendFrom q (ctxUna.get (s.ctx q)))) ∧
  (∀ (s : State) (q : Nat), (s.qp q).rnrUntil ≠ 0 → Does (.roceRnrWaitExpire q) s (fun t =>
    t = ((((s.advanceTo ((s.qp q).rnrUntil - 1)).setQp q { s.qp q with rnrUntil := 0 }).resendFrom q (s.qp q).rnrPsn).pumpQp q))) ∧
  (∀ (s : State) (q : Nat), s.wf = true → (s.slotOf q).isSome = true → (s.qp q).rateFrom ≠ 0 → Does (.roceRateIncrease q) s (fun t =>
    (s.qp q).rateFrom - 1 + 1000 * s.rd RMA_RATE.AI_US ≤ t.tick ∧ (t.qp q).rateFrom = t.tick + 1 ∧
    ctxRate.get (t.ctx q) = min (ctxRate.get (s.ctx q) + s.rd RMA_RATE.AI_STEP) (s.lineRate (ctxPort.get (s.ctx q))))) ∧
  (∀ (s : State) (q m : Nat), (∃ x ∈ s.openNaks q, x.2 = m) → (∀ x ∈ s.openNaks q, m ≤ x.2) → Does (.srNakRepeat q) s (fun t =>
    ∃ u, u = s.advanceTo (m + 10000 * s.rd RMA_ACK.SR_NAK_US) ∧
      t = u.nakGaps q (((s.openNaks q).filter (fun x => decide (x.2 + 10000 * s.rd RMA_ACK.SR_NAK_US ≤ u.tick))).map (fun x => x.1)))) ∧
  (∀ (s : State) (h : HeldPkt) (l : List HeldPkt) (w : Nat), s.wf = true → s.rma.held.filter (fun h => h.psn == 0) = h :: l →
    w = 1000 * (if s.rd RMA_MISS.MISS_TO = 0 then 1000 else s.rd RMA_MISS.MISS_TO) → Does .missHoldTimeout s (fun t => h.tick + w ≤ t.tick ∧
      t.rma.held = s.rma.held.filter (fun x => !(x.psn == 0 && decide (x.tick + w ≤ t.tick))) ∧
      t.rd64 RMA_cnt_LO.COUNT 3 = (s.rd64 RMA_cnt_LO.COUNT 3 +
        (s.rma.held.filter (fun x => x.psn == 0 && decide (x.tick + w ≤ t.tick))).length) % 2 ^ 64)) ∧
  (∀ (s : State) (x i : Nat), x < 65536 → s.slotBound x = some i → (tabGet s.rma.slots i).st = 1 →
    (s.takeArrived (.context x)).2.any (fun a => a.err != 0) = true → Does (.contextFetchDone x) s (fun t =>
      let u := ((s.takeArrived (.context x)).1.setSlot i {}).raise 356 [i16 x]
      t = ((u.count RMA_cnt_LO.COUNT 3 0 (u.rma.held.filter (fun h => h.qp == x)).length).setHeld
        (u.rma.held.filter (fun h => !(h.qp == x)))).serveWant)) ∧
  (∀ (s : State) (x i : Nat), x < 65536 → s.slotBound x = some i → (tabGet s.rma.slots i).st = 1 →
    (s.takeArrived (.context x)).2.any (fun a => a.err != 0) = false → 256 ≤ (arrivedBytes (s.takeArrived (.context x)).2).length →
    Does (.contextFetchDone x) s (fun t =>
      t = (((s.takeArrived (.context x)).1.setSlot i { st := 2, qp := x, last := s.tick }).setWinNat 11 false (64 * i) 64
        (leNat (arrivedBytes (s.takeArrived (.context x)).2))).qpReady x)) ∧
  (∀ (s : State) (r : Nat), (s.region r).st = 1 → (s.takeArrived (.context (65536 + r))).2.any (fun a => a.err != 0) = true →
    Does (.contextFetchDone (65536 + r)) s (fun t => ∃ n, t.rma.held = s.rma.held.filter (fun h => !(h.region == r + 1)) ∧
      n = (s.rma.held.filter (fun h => h.region == r + 1)).length ∧
      t = ((((s.takeArrived (.context (65536 + r))).1.setRegion r {}).raise 356 [i16 r]).count RMA_cnt_LO.COUNT 3 0 n).setHeld
        (s.rma.held.filter (fun h => !(h.region == r + 1))))) ∧
  (∀ (s : State) (r : Nat) (b : List Byte), (s.region r).st = 1 → (s.takeArrived (.context (65536 + r))).2.any (fun a => a.err != 0) = false →
    b = arrivedBytes (s.takeArrived (.context (65536 + r))).2 → 32 ≤ b.length → Does (.contextFetchDone (65536 + r)) s (fun t =>
      t = forEach (((s.rma.held.filter (fun h => h.region == r + 1)).map (fun h => h.qp)).eraseDups) (fun q u => u.qpReady q)
        ((s.takeArrived (.context (65536 + r))).1.setRegion r
          { st := 2, iova := leAt b 0 8, len := leAt b 8 8, tag := leAt b 16 1, acc := leAt b 17 1, last := s.tick }))) ∧
  (∀ (s : State) (i : Nat), (tabGet s.rma.slots i).st = 3 → Does (.contextWritebackDone i false) s (fun t => s.told 356 < t.told 356 ∧
    t = ((s.setSlot i { tabGet s.rma.slots i with st := 2, last := s.tick }).raise 356 [i16 (tabGet s.rma.slots i).qp]).serveWant)) ∧
  (∀ (s : State) (i : Nat), (tabGet s.rma.slots i).st = 3 → (s.rma.held.any (fun h => h.qp == (tabGet s.rma.slots i).qp) = true ∨
    s.qpWaits (tabGet s.rma.slots i).qp = true) →
    Does (.contextWritebackDone i true) s (fun t => ∃ u : State, t = (if u.rma.want.isEmpty then u else u.evict) ∧
      u = ((s.setSlot i { tabGet s.rma.slots i with st := 2 }).count RMA_cnt_LO.COUNT 4).qpReady (tabGet s.rma.slots i).qp)) ∧
  (∀ (s : State) (i : Nat), (tabGet s.rma.slots i).st = 3 → s.rma.held.any (fun h => h.qp == (tabGet s.rma.slots i).qp) = false →
    s.qpWaits (tabGet s.rma.slots i).qp = false → Does (.contextWritebackDone i true) s (fun t => t = (s.setSlot i {}).serveWant))

/-- R325, R327, R336, R338: the commands on queue pairs and regions, and the entries posted on their rings. -/
def Obligations.QueuePairCommands : Prop :=
  (∀ (s : State) (g : Nat) (j : Job), s.pfOf (s.rd QMG_RINGg_DESC.FN g) = 4 → s.jobOf g 0x80 = some j → 256 ≤ j.bytes.length →
    s.qpNamable (s.rd QMG_RINGg_DESC.FN g) (bitsOf (qwAt j.qw 1) 0 16) = true → tabGet s.rma.owner (bitsOf (qwAt j.qw 1) 0 16) = 0 →
    s.on RMA_BS_CTRL.ENABLE = true → ¬(ctxMode.get (leNat (j.bytes.take 256)) = 1 ∧ ctxEnc.get (leNat (j.bytes.take 256)) = 1) →
    Does (.createQp g) s (fun t =>
      let f := s.rd QMG_RINGg_DESC.FN g
      let q := bitsOf (qwAt j.qw 1) 0 16
      (s.freeSlot = none → t = s.evict) ∧
      ∀ i, s.freeSlot = some i → tabGet t.rma.owner q = f + 1 ∧ tabGet t.rma.slots i = { st := 2, qp := q, last := s.tick } ∧
        ∃ u : State, t = u.finishJob g j.idx 0 0 0 (0x10000 + q) ∧ u.rings = s.rings)) ∧
  (∀ (s : State) (g : Nat) (j : Job), s.pfOf (s.rd QMG_RINGg_DESC.FN g) = 4 → s.jobOf g 0x80 = some j → 256 ≤ j.bytes.length →
    (s.qpNamable (s.rd QMG_RINGg_DESC.FN g) (bitsOf (qwAt j.qw 1) 0 16) = false ∨ tabGet s.rma.owner (bitsOf (qwAt j.qw 1) 0 16) ≠ 0 ∨
      s.on RMA_BS_CTRL.ENABLE = false) → Does (.createQp g) s (fun t => t = s.finishJob g j.idx 4 8)) ∧
  (∀ (s : State) (g : Nat) (j : Job) (q : Nat), s.pfOf (s.rd QMG_RINGg_DESC.FN g) = 4 → s.jobOf g 0x81 = some j →
    q = bitsOf (qwAt j.qw 1) 0 16 → s.qpNamable (s.rd QMG_RINGg_DESC.FN g) q = true → tabGet s.rma.owner q ≠ 0 →
    (s.slotOf q).isSome = true → 256 ≤ j.bytes.length → Does (.modifyQp g) s (fun t =>
      let v := s.maskImage (s.ctx q) (leNat (j.bytes.take 256)) (bitsOf (qwAt j.qw 1) 32 16)
      let u := s.setCtx q v
      let w := if ctxState.get v = 4 && ctxState.get (s.ctx q) != 4 then u.qpError q 2 0x104
        else if ctxState.get v = 0 then u.setQp q {} else u.rateStart q
      t = if !qpStep (ctxState.get (s.ctx q)) (ctxState.get v) || (ctxMode.get v = 1 && ctxEnc.get v = 1) then s.finishJob g j.idx 4 16
        else (w.finishJob g j.idx 0).pumpQp q)) ∧
  (∀ (s : State) (g : Nat) (j : Job) (c : Instr), s.pfOf (s.rd QMG_RINGg_DESC.FN g) = 4 →
    ((s.jobOf g 0x81 = some j ∧ c = .modifyQp g) ∨ (s.jobOf g 0x82 = some j ∧ c = .queryQp g) ∨ (s.jobOf g 0x83 = some j ∧ c = .destroyQp g)) →
    s.qpNamable (s.rd QMG_RINGg_DESC.FN g) (bitsOf (qwAt j.qw 1) 0 16) = true → tabGet s.rma.owner (bitsOf (qwAt j.qw 1) 0 16) ≠ 0 →
    s.slotOf (bitsOf (qwAt j.qw 1) 0 16) = none → Does c s (fun t => t = s.fetchCtx (bitsOf (qwAt j.qw 1) 0 16))) ∧
  (∀ (s : State) (g : Nat) (j : Job) (c : Instr), s.pfOf (s.rd QMG_RINGg_DESC.FN g) = 4 →
    ((s.jobOf g 0x81 = some j ∧ c = .modifyQp g) ∨ (s.jobOf g 0x82 = some j ∧ c = .queryQp g) ∨ (s.jobOf g 0x83 = some j ∧ c = .destroyQp g)) →
    (s.qpNamable (s.rd QMG_RINGg_DESC.FN g) (bitsOf (qwAt j.qw 1) 0 16) = false ∨ tabGet s.rma.owner (bitsOf (qwAt j.qw 1) 0 16) = 0) →
    Does c s (fun t => t = s.finishJob g j.idx 4 8)) ∧
  (∀ (s : State) (g : Nat) (j : Job) (q : Nat), s.pfOf (s.rd QMG_RINGg_DESC.FN g) = 4 → s.jobOf g 0x82 = some j →
    q = bitsOf (qwAt j.qw 1) 0 16 → s.qpNamable (s.rd QMG_RINGg_DESC.FN g) q = true → tabGet s.rma.owner q ≠ 0 →
    (s.slotOf q).isSome = true → Does (.queryQp g) s (fun t =>
      t = if j.room < 256 then s.finishJob g j.idx 1 0 256
        else ((s.writeFrags (s.rd QMG_RINGg_DESC.FN g) (s.ring g).ro j.frags (leBytes 256 (s.ctx q % 2 ^ 768))).ringCount g 5 256).finishJob
          g j.idx 0 0 256)) ∧
  (∀ (s : State) (g : Nat) (j : Job) (q : Nat), s.pfOf (s.rd QMG_RINGg_DESC.FN g) = 4 → s.jobOf g 0x83 = some j →
    q = bitsOf (qwAt j.qw 1) 0 16 → s.qpNamable (s.rd QMG_RINGg_DESC.FN g) q = true → tabGet s.rma.owner q ≠ 0 →
    (s.slotOf q).isSome = true → Does (.destroyQp g) s (fun t => t = (s.dropQp q).finishJob g j.idx 0 ∧ t.rma.want = s.rma.want.filter (fun x => x != q) ∧
      t.rma.held = s.rma.held.filter (fun h => !(h.qp == q)))) ∧
  (∀ (s : State) (g : Nat) (j : Job) (r : Nat), s.pfOf (s.rd QMG_RINGg_DESC.FN g) = 4 → s.jobOf g 0x84 = some j → r = bitsOf (qwAt j.qw 1) 0 16 →
    (tabGet s.rma.regOwner r = 0 ∨ tabGet s.rma.regOwner r = s.rd QMG_RINGg_DESC.FN g + 1) → Does (.registerRegion g) s (fun t =>
      tabGet t.rma.regOwner r = s.rd QMG_RINGg_DESC.FN g + 1 ∧
      t.region r = { st := 2, iova := qwAt j.qw 6, len := qwAt j.qw 7, tag := bitsOf (qwAt j.qw 1) 16 8, acc := bitsOf (qwAt j.qw 1) 24 3, last := s.tick } ∧
      ∃ u : State, t = u.finishJob g j.idx 0 0 0 (r * 256 + bitsOf (qwAt j.qw 1) 16 8) ∧ u.rings = s.rings)) ∧
  (∀ (s : State) (g : Nat) (j : Job) (r : Nat), s.pfOf (s.rd QMG_RINGg_DESC.FN g) = 4 → s.jobOf g 0x84 = some j → r = bitsOf (qwAt j.qw 1) 0 16 →
    tabGet s.rma.regOwner r ≠ 0 → tabGet s.rma.regOwner r ≠ s.rd QMG_RINGg_DESC.FN g + 1 →
    Does (.registerRegion g) s (fun t => t = s.finishJob g j.idx 4 8)) ∧
  (∀ (s : State) (g : Nat) (j : Job) (r : Nat), s.pfOf (s.rd QMG_RINGg_DESC.FN g) = 4 → s.jobOf g 0x85 = some j → r = bitsOf (qwAt j.qw 1) 0 16 →
    tabGet s.rma.regOwner r = s.rd QMG_RINGg_DESC.FN g + 1 → Does (.deregisterRegion g) s (fun t => ∃ u : State, t = u.finishJob g j.idx 0 ∧
      u.rma.regs = tabSet s.rma.regs r {} ∧ u.rma.regOwner = tabSet s.rma.regOwner r 0 ∧ u.rings = s.rings)) ∧
  (∀ (s : State) (g : Nat) (j : Job) (r : Nat), s.pfOf (s.rd QMG_RINGg_DESC.FN g) = 4 → s.jobOf g 0x85 = some j → r = bitsOf (qwAt j.qw 1) 0 16 →
    tabGet s.rma.regOwner r ≠ s.rd QMG_RINGg_DESC.FN g + 1 → Does (.deregisterRegion g) s (fun t => t = s.finishJob g j.idx 4 8)) ∧
  (∀ (s : State) (g : Nat), s.pfOf (s.rd QMG_RINGg_DESC.FN g) = 4 → s.rd QMG_RINGg_DESC.TYPE g = 1 →
    (s.ring g).jobs.any (fun j => j.done.isNone && !j.posted) = true → Does (.postSend g) s (fun t =>
      t = if (s.slotOf (s.ring g).bind).isSome then s.pumpQp (s.ring g).bind else s.fetchCtx (s.ring g).bind)) ∧
  (∀ (s : State) (g : Nat), s.pfOf (s.rd QMG_RINGg_DESC.FN g) = 4 → s.rd QMG_RINGg_DESC.TYPE g = 2 → Does (.postReceive g) s (fun t =>
    let u := s.postBuffer g 0x91
    t = if ctxState.get (u.ctx (u.ring g).bind) = 4 then u.flushRing g else u))

/-- R342, R343, R345: heartbeats, their silence, and the roles of the twin. -/
def Obligations.TwinCommands : Prop :=
  (∀ s : State, s.rd RMA_TWIN_STATUS.ROLE ≠ 0 → Does .heartbeatSend s (fun t => s.rma.hbFrom + s.hbUs ≤ t.tick ∧ t.rma.hbFrom = t.tick ∧
    t.rma.hbSeq = s.rma.hbSeq + 1)) ∧
  (∀ (s : State) (f : RxFrame) (l : List RxFrame) (b : List Byte), s.wf = true → s.ppl.rmaIn = f :: l → etherType f.bytes = 0x88B6 →
    s.rd RMA_TWIN_STATUS.ROLE ≠ 0 → f.port = s.rd RMA_TWIN_CFG.HB_PORT → b = slice f.bytes (payloadAt f.bytes) 64 →
    Does (.heartbeatReceive true) s (fun t => t.ppl.rmaIn = l ∧ t.on RMA_TWIN_STATUS.RAW_PATH = true ∧ t.rma.hbRaw = s.tick + 1 ∧
      t.on RMA_TWIN_STATUS.CRC_MISMATCH = (leAt b 20 4 != s.rma.cfgCrc) ∧
      t.rd RMA_TWIN_STATUS.ROLE =
        if s.rd RMA_TWIN_STATUS.ROLE = 1 ∧ leAt b 16 1 = 2 then 3
        else if s.rd RMA_TWIN_STATUS.ROLE = 1 ∧ leAt b 16 1 = 1 then (if s.wins (leAt b 17 1) (leAt b 8 8) then 2 else 3)
        else if s.rd RMA_TWIN_STATUS.ROLE = 2 ∧ leAt b 16 1 = 2 ∧ s.wins (leAt b 17 1) (leAt b 8 8) = false then 3
        else s.rd RMA_TWIN_STATUS.ROLE)) ∧
  (∀ (s : State) (f : RxFrame) (l : List RxFrame), s.ppl.rmaIn = f :: l → etherType f.bytes = 0x88B6 →
    (s.rd RMA_TWIN_STATUS.ROLE = 0 ∨ f.port ≠ s.rd RMA_TWIN_CFG.HB_PORT) → Does (.heartbeatReceive true) s (fun t => t.ppl.rmaIn = l ∧
      t.regs = s.regs ∧ t.rma = s.rma)) ∧
  (∀ s : State, s.wf = true → s.rma.hbNew = true → s.rd RMA_TWIN_STATUS.ROLE ≠ 0 → Does (.heartbeatReceive false) s (fun t =>
    t.rma.hbNew = false ∧ t.on RMA_TWIN_STATUS.QP_PATH = true ∧ t.rma.hbQp = s.tick + 1 ∧
    t.on RMA_TWIN_STATUS.CRC_MISMATCH = (leAt (s.rtRead s.mirBase 64) 20 4 != s.rma.cfgCrc))) ∧
  (∀ s : State, s.wf = true → s.on RMA_TWIN_STATUS.RAW_PATH = true → Does (.heartbeatPathSilent true) s (fun t =>
    s.rma.hbRaw - 1 + s.silentTicks ≤ t.tick ∧ t.on RMA_TWIN_STATUS.RAW_PATH = false ∧ s.told 363 < t.told 363)) ∧
  (∀ s : State, s.wf = true → s.on RMA_TWIN_STATUS.QP_PATH = true → Does (.heartbeatPathSilent false) s (fun t =>
    s.rma.hbQp - 1 + s.silentTicks ≤ t.tick ∧ t.on RMA_TWIN_STATUS.QP_PATH = false ∧ s.told 363 < t.told 363)) ∧
  (∀ s : State, s.wf = true → max s.rma.hbQp s.rma.hbRaw ≠ 0 → s.rd RMA_TWIN_STATUS.ROLE = 3 → Does .twinSilent s (fun t =>
    max s.rma.hbQp s.rma.hbRaw - 1 + s.silentTicks ≤ t.tick ∧ t.rd RMA_TWIN_STATUS.ROLE = 2)) ∧
  (∀ s : State, s.wf = true → max s.rma.hbQp s.rma.hbRaw ≠ 0 → s.rd RMA_TWIN_STATUS.ROLE ≠ 3 → Does .twinSilent s (fun t =>
    max s.rma.hbQp s.rma.hbRaw - 1 + s.silentTicks ≤ t.tick ∧ t.rd RMA_TWIN_STATUS.ROLE = s.rd RMA_TWIN_STATUS.ROLE ∧
    t.on RMA_TWIN_STATUS.RAW_PATH = false ∧ t.on RMA_TWIN_STATUS.QP_PATH = false ∧
    ((s.on RMA_TWIN_STATUS.RAW_PATH = true ∨ s.on RMA_TWIN_STATUS.QP_PATH = true) → s.told 363 < t.told 363) ∧ t.rma = s.rma)) ∧
  (∀ s : State, s.wf = true → s.rd RMA_TWIN_STATUS.ROLE = 1 → Does .twinSeekExpire s (fun t =>
    s.rma.seekFrom + 1000000 * s.rd RMA_TWIN_SEEK.SEEK_MS ≤ t.tick ∧ t.rd RMA_TWIN_STATUS.ROLE = 2 ∧ s.told 362 < t.told 362))

/-- A step takes the command at the front of the queue and runs exactly it, with the queue's rest. -/
def Obligations.StepRunsTheFrontCommand : Prop :=
  ∀ (s : State) (c : Instr) (l : List Instr), s.pending = c :: l →
    Sys2Proof.Machine.step s = Sys2Proof.Machine.exec c { s with pending := l } ∧
    ∃ t, Sys2Proof.Machine.step s = .next t ∧ t.pending = l

/-- With no command waiting a step is one tick of the clock and nothing else (the model's choice, log 2). -/
def Obligations.IdleStepIsOneTick : Prop :=
  ∀ s : State, s.pending = [] → ∃ t, Sys2Proof.Machine.step s = .next t ∧ t.tick = s.tick + 1 ∧
    t.tim.gtc = (if s.tim.carried = true then s.tim.gtc else (s.tim.gtc + 1) % gtcRange) ∧ t.regs = s.regs ∧ t.evt = s.evt ∧
    t.mram = s.mram ∧ t.rt = s.rt ∧ t.bulk = s.bulk ∧ t.boot = s.boot ∧ t.pending = [] ∧ t.sent = s.sent ∧ t.reply = s.reply

/-- Every command of the table runs to a next state from every state: no fault and no refusal; the queue is left to the step and the
clock does not run back. -/
def Obligations.EveryCommandCompletes : Prop :=
  ∀ (c : Instr) (s : State), ∃ t, Sys2Proof.Machine.exec c s = .next t ∧ t.pending = s.pending ∧ s.tick ≤ t.tick

/-- After a reset every register reads its stated reset value, nothing is listed in a memory, and no command waits. -/
def Obligations.ResetState : Prop :=
  State.reset.wf = true ∧ State.reset.pending = [] ∧ (∀ a, State.reset.reg a = resetOf a) ∧
  (∀ a, cellGet mramShip State.reset.mram a = mramShip a) ∧ State.reset.rings = [] ∧ State.reset.evt.held = [] ∧ State.reset.stage = [] ∧
  State.reset.rd PWR_STATUS.PSTATE = 0 ∧ State.reset.rd TIM_STATUS.STATE = 0 ∧ State.reset.tim.gtc = 0

/-- Every step keeps every store in its canonical form: keys rise strictly, and no entry equals what an unlisted key reads as. -/
def Obligations.EveryStepKeepsStoresCanonical : Prop :=
  ∀ s t : State, s.wf = true → Sys2Proof.Machine.step s = .next t → t.wf = true

/-- R410 to R429: the boot flash changes only when the update engine's own operation on it ends; the OTP, only by a provision or a floor
word; the loader area, only by a load. A reset, where a supply loss may cut an operation, is the one other cause. -/
def Obligations.OnlyTheirCommandsChangeFlashAndOtp : Prop :=
  ∀ (c : Instr) (s t : State), Sys2Proof.Machine.exec c s = .next t → Instr.resets c = false →
    ((∀ d, c ≠ .flashProgramDone d) → c ≠ .flashEraseDone → t.boot.flash = s.boot.flash) ∧
    ((∀ a d, c ≠ .recoveryProvision a d) → c ≠ .floorProgram → c ≠ .floorProgramDone →
      t.boot.digest = s.boot.digest ∧ t.boot.floors = s.boot.floors ∧ t.boot.floorVal = s.boot.floorVal) ∧
    ((∀ a n d, c ≠ .recoveryLoad a n d) → t.boot.loader = s.boot.loader)

/-- R35 to R37: only a command that is a read answers; every other command leaves the last answer as it was. -/
def Obligations.OnlyReadsAnswer : Prop :=
  ∀ (c : Instr) (s t : State), Sys2Proof.Machine.exec c s = .next t → Instr.resets c = false →
    (match c with
      | .unassignedAccess .. | .refusedSizeAccess .. | .splitLoRead .. | .glbSyncRead | .windowFirstWordRead .. | .gtcNsRead ..
      | .grainAngleRead .. | .fwtPerrPop | .channelReserve .. | .memEccPop .. | .mramDataRead .. | .registerReadClear .. => True
      | _ => t.reply = s.reply)

/-- R39: a command of a staging window that its state does not list is ignored and counted, and no command of a window but a commit
reaches a register of its block. -/
def Obligations.StagingFrame : Prop :=
  (∀ (s : State) (who blk : Nat) (b : Blk), s.shut who = false → stagedBlk blk = some b → s.stState b ≠ 0 → Does (.stageOpen who blk) s (fun t => t = s.bad)) ∧
  (∀ (s : State) (who blk : Nat) (b : Blk), s.shut who = false → stagedBlk blk = some b → s.stState b = 0 → Does (.stageAbort who blk) s (fun t => t = s.bad)) ∧
  (∀ (s : State) (who blk : Nat) (b : Blk), s.shut who = false → stagedBlk blk = some b → (s.stState b ≠ 1 ∨ s.owns b who = false) →
    Does (.stageArm who blk) s (fun t => t = s.bad) ∧ Does (.stageCommitNow who blk) s (fun t => t = s.bad)) ∧
  (∀ (c : Instr) (s t : State) (who blk : Nat) (b : Blk), s.wf = true → stagedBlk blk = some b →
    (c = .stageOpen who blk ∨ c = .stageAbort who blk ∨ c = .stageArm who blk ∨ c = .stageTimeout blk) →
    Sys2Proof.Machine.exec c s = .next t → ∀ a, a ≠ STAGE_STATUS.STATE.addr b.base 0 → a ≠ COMMIT_MARK.VIEW.addr b.base 0 →
      a ≠ GLB_BAD_ACCESS.COUNT.base → blkOfAddr a ≠ some .evt → blkOfAddr a ≠ some .cal → (s.shut who = false ∨ blkOfAddr a ≠ some .hif) →
      t.reg a = s.reg a)

/-- What accesses that commit nothing, the clock, the Grain, the time sources and the rows of samples leave as it was: every register
outside the blocks named, and every part of the state outside the parts named, reads as before. -/
def Obligations.AccessAndTimebaseFrame : Prop :=
  (∀ (c : Instr) (s t : State), Instr.accesses c = true → Sys2Proof.Machine.exec c s = .next t →
    Only [some .glb, some .evt, some .fwt, some .cal, some .hif]
      [.rdHold, .winLive, .winShadow, .winWr, .winRd, .evt, .tim, .fwt, .mem, .sent, .reply] s t) ∧
  (∀ (c : Instr) (s t : State), Instr.clocks c = true → Sys2Proof.Machine.exec c s = .next t →
    Only [some .glb, some .evt, some .tim, some .cal, some .hif]
      [.wrHold, .pins, .evt, .tim, .sent, .free, .tick] s t) ∧
  (∀ (c : Instr) (s t : State), Instr.sampling c = true → Sys2Proof.Machine.exec c s = .next t →
    Only [some .glb, some .evt, some .tim, some .aln, some .phe, some .trp, some .recd, some .qmg, some .cal, some .hif, none]
      [.winLive, .winShadow, .evt, .tim, .hif, .rings, .rt, .fpt, .svi, .aln, .phe, .trp, .recd, .rma, .boot, .sent, .free, .tick] s t)

/-- What ports, frames and forwarding tables leave as it was: every register outside the blocks named, and every part of the state outside
the parts named, reads as before. -/
def Obligations.NetworkFrame : Prop :=
  (∀ (c : Instr) (s t : State), Instr.ports c = true → Sys2Proof.Machine.exec c s = .next t →
    Only [some .pwr, some .evt, some .fpt, some .sch, some .cal]
      [.evt, .tim, .fpt, .sch, .sent, .free, .tick] s t) ∧
  (∀ (c : Instr) (s t : State), Instr.frames c = true → Sys2Proof.Machine.exec c s = .next t →
    Only [some .glb, some .evt, some .fpt, some .ppl, some .fwt, some .svi, some .qmg, some .sch, some .cpu, some .cal, some .hif, none]
      [.winLive, .winShadow, .winWr, .evt, .tim, .hif, .rings, .rt, .fpt, .ppl, .fwt, .sch, .cpu, .boot, .sent, .free, .tick] s t) ∧
  (∀ (c : Instr) (s t : State), Instr.tables c = true → Sys2Proof.Machine.exec c s = .next t →
    Only [some .glb, some .evt, some .fwt, some .cal]
      [.winLive, .winShadow, .winWr, .evt, .tim, .fwt, .sent, .reply, .free, .tick] s t)

/-- What sampled values, terms, GOOSE and the recorder leave as it was: every register outside the blocks named, and every part of the
state outside the parts named, reads as before. -/
def Obligations.ProtectionFrame : Prop :=
  (∀ (c : Instr) (s t : State), Instr.ingest c = true → Sys2Proof.Machine.exec c s = .next t →
    Only [some .evt, some .svi, some .trp, some .cal]
      [.evt, .tim, .ppl, .svi, .sent, .tick] s t) ∧
  (∀ (c : Instr) (s t : State), Instr.trips c = true → Sys2Proof.Machine.exec c s = .next t →
    Only [some .evt, some .trp, some .recd, some .rma, some .cal]
      [.evt, .tim, .rt, .fpt, .ppl, .trp, .recd, .sent, .free, .tick] s t) ∧
  (∀ (c : Instr) (s t : State), Instr.recording c = true → Sys2Proof.Machine.exec c s = .next t →
    Only [some .evt, some .recd, some .stg, some .mem, some .cal, some .hif, none]
      [.evt, .tim, .mram, .bulk, .recd, .stg, .mem, .sent, .free, .tick] s t)

/-- What the host interface, the rings, the storage block and the link leave as it was: every register outside the blocks named, and every
part of the state outside the parts named, reads as before. -/
def Obligations.HostFrame : Prop :=
  (∀ (c : Instr) (s t : State), Instr.hosting c = true → Sys2Proof.Machine.exec c s = .next t →
    Only [some .glb, some .evt, some .qmg, some .sch, some .dma, some .cal, some .hif, none]
      [.winLive, .winShadow, .evt, .tim, .hif, .rings, .fpt, .sch, .rma, .stg, .dma, .boot, .sent, .free, .tick] s t) ∧
  (∀ (c : Instr) (s t : State), Instr.storing c = true → Sys2Proof.Machine.exec c s = .next t →
    Only [some .evt, some .stg, some .cal, some .hif, none]
      [.evt, .tim, .mram, .recd, .stg, .sent, .free, .tick] s t) ∧
  (∀ (c : Instr) (s t : State), Instr.linking c = true → Sys2Proof.Machine.exec c s = .next t →
    Only [some .evt, some .trp, some .qmg, some .rma, some .cal, some .hif, none]
      [.winLive, .winShadow, .evt, .tim, .hif, .rings, .rt, .fpt, .ppl, .sch, .trp, .rma, .boot, .sent, .free, .tick] s t)

/-- What cores, channels, the DMA engine and the memories leave as it was: every register outside the blocks named, and every part of the
state outside the parts named, reads as before. -/
def Obligations.CoreAndEngineFrame : Prop :=
  (∀ (c : Instr) (s t : State), Instr.spindles c = true → Sys2Proof.Machine.exec c s = .next t →
    Only [some .glb, some .evt, some .cpu, some .boot, some .cal, some .hif]
      [.pins, .evt, .tim, .rt, .cpu, .sent, .reply, .free, .tick] s t) ∧
  (∀ (c : Instr) (s t : State), Instr.moving c = true → Sys2Proof.Machine.exec c s = .next t →
    Only [some .glb, some .evt, some .dma, some .mem, some .cal, some .hif]
      [.rdHold, .wrHold, .evt, .tim, .hif, .mram, .rt, .bulk, .dma, .mem, .sent, .reply, .free, .tick] s t)

/-- What recovery, updates, Calipers, the journal and the supply levels leave as it was: every register outside the blocks named, and
every part of the state outside the parts named, reads as before. -/
def Obligations.UpdateAndReportFrame : Prop :=
  (∀ (c : Instr) (s t : State), Instr.updating c = true → Sys2Proof.Machine.exec c s = .next t →
    Only [some .pwr, some .evt, some .fpt, some .qmg, some .mem, some .boot, some .cal, some .hif, none]
      [.pins, .evt, .tim, .hif, .rings, .mram, .rt, .fpt, .flash, .otp, .loader, .boot, .sent, .free] s t) ∧
  (∀ (c : Instr) (s t : State), Instr.counting c = true → Sys2Proof.Machine.exec c s = .next t →
    Only [some .evt, some .qmg, some .cal, some .hif, none]
      [.calFcFrom, .pins, .evt, .tim, .hif, .rings, .mram, .boot, .sent, .free, .tick] s t) ∧
  (∀ (c : Instr) (s t : State), Instr.supplying c = true → Sys2Proof.Machine.exec c s = .next t →
    Only [some .pwr, some .evt, some .qmg, some .stg, some .mem, some .boot, some .cal, some .hif, none]
      [.pins, .evt, .tim, .hif, .rings, .mram, .stg, .pwr, .boot, .sent, .free, .tick] s t)

/-- R370: on a cluster that runs protection firmware the three commands are taken only from a Spindle thread of another cluster; every
other requester's are ignored and counted. -/
def Obligations.ProtectedClusterCommands : Prop :=
  (∀ (s : State) (c : Instr) (who k x : Nat), s.shut who = false → s.wf = true → k < 8 → s.on CPU_CLk_CFG.PROT k = true →
    (isThread who = false ∨ agentCluster who = k) →
    (c = .coreRestart who k x ∨ c = .coreRetire who k x ∨ c = .clusterReload who k) →
    Does c s (fun t => t.rd GLB_BAD_ACCESS.COUNT = min (s.rd GLB_BAD_ACCESS.COUNT + 1) (2 ^ 32 - 1) ∧ t.cpu = s.cpu ∧ t.stage = s.stage ∧
      ∀ a, blkOfAddr a = some .cpu → t.reg a = s.reg a)) ∧
  (∀ (s : State) (who k x g : Nat), s.shut who = false → s.wf = true → k < 8 → x < 5 → s.on CPU_CLk_CFG.PROT k = true → isThread who = true → agentCluster who ≠ k →
    s.rd CPU_CLk_STATUS.STATE k = 0 → s.logical k x = some g → s.coreState k x = 2 → (∀ g, g < 4 → s.physCore k g < 5) →
    Does (.coreRestart who k x) s (fun t => t.coreState k x = 0) ∧
    Does (.coreRetire who k x) s (fun t => t = (s.wr CPU_CLk_CTRL.CORE x k).retireCore k x) ∧
    Does (.clusterReload who k) s (fun t => t.rd CPU_CLk_STATUS.STATE k = 1))

/-- R440: a clear zeroes the bins and MAX of a unit, a later sample counts on the cleared bins, and a frozen unit counts samples in
MISSED alone. -/
def Obligations.HistogramClearAndFreeze : Prop :=
  (∀ (s : State) (u probe index v : Nat), s.wf = true → u < 64 → probe ≠ 0 → s.rd CAL_HUu_CFG.PROBE u = probe →
    (s.on CAL_HUu_CFG.ANY u = true ∨ s.rd CAL_HUu_CFG.INDEX u = index) →
    Does (.histogramClear u) s (fun t =>
      (∀ i, i < 32 → t.rd64 CAL_HUu_BINi_LO.COUNT u i = 0) ∧ t.rd CAL_HUu_MAX.VALUE u = 0 ∧
      t.rd CAL_HUu_MISSED.VALUE u = s.rd CAL_HUu_MISSED.VALUE u ∧
      (s.on CAL_HUu_CTRL.FREEZE u = false → Does (.histogramSample probe index v) t (fun w =>
        w.rd64 CAL_HUu_BINi_LO.COUNT u (histBin (s.on CAL_HUu_CFG.MODE u) (s.rd CAL_HUu_UNIT.NS u) v) = 1 ∧
        w.rd CAL_HUu_MAX.VALUE u = min v 0xFFFFFFFF)))) ∧
  (∀ (s : State) (u probe index v : Nat), s.wf = true → u < 64 → probe ≠ 0 → s.rd CAL_HUu_CFG.PROBE u = probe →
    (s.on CAL_HUu_CFG.ANY u = true ∨ s.rd CAL_HUu_CFG.INDEX u = index) → s.on CAL_HUu_CTRL.FREEZE u = true →
    Does (.histogramSample probe index v) s (fun t => t.rd CAL_HUu_MAX.VALUE u = s.rd CAL_HUu_MAX.VALUE u ∧
      t.rd CAL_HUu_MISSED.VALUE u = min (s.rd CAL_HUu_MISSED.VALUE u + 1) (2 ^ CAL_HUu_MISSED.VALUE.w - 1) ∧
      ∀ i, i < 32 → t.rd64 CAL_HUu_BINi_LO.COUNT u i = s.rd64 CAL_HUu_BINi_LO.COUNT u i))

/-- R302, R380 to R386: where the DMA engine's commands, its data and its write responses, and an Abort, have their own effect. -/
def Obligations.DmaAndAbortComplete : Prop :=
  (∀ (s : State) (who ch a : Nat) (p : Bool) (c : DmaCh), s.wf = true → s.shut who = false → ch < 32 → s.dmaState ch ∈ [0, 4, 5] →
    a = s.rd64 DMA_CHn_DESC_LO.DESC ch → a % 32 = 0 → s.inSpace 0 a 32 = true →
    c = { desc := (List.range 4).map (fun i => leNat (s.rtRead (a + 8 * i) 8)) } → s.dmaCheck c = 0 →
    ∃ t, Sys2Proof.Machine.exec (.dmaStart who ch p) s = .next t ∧ t.dmaState ch = (if p then 3 else 1) ∧
      t.on DMA_CHn_CTRL.PAUSE ch = p ∧ t.rd DMA_CHn_STATUS.OWNER ch = who % 256 ∧ t.rd DMA_CHn_STATUS.MISM ch = 0 ∧
      t.rd DMA_CHn_STATUS.ERR ch = 0 ∧ t.rd64 DMA_CHn_CUR_LO.ADDR ch = a ∧ t.rd64 DMA_CHn_SRC_CUR_LO.ADDR ch = c.src ∧
      t.rd64 DMA_CHn_DST_CUR_LO.ADDR ch = c.dst ∧ t.rd DMA_CHn_REMAIN.BYTES ch = c.len ∧ (t.dmaCh ch).desc = c.desc) ∧
  (∀ (s : State) (ch : Nat), s.wf = true → ch < 32 → s.dmaState ch = 1 → (s.dmaCh ch).err = 0 → (s.dmaCh ch).p < (s.dmaCh ch).len →
    ∃ t, Sys2Proof.Machine.exec (.dmaPause ch) s = .next t ∧ t.on DMA_CHn_CTRL.PAUSE ch = true ∧
      t.dmaState ch = (if (s.dmaCh ch).reads = [] ∧ (s.dmaCh ch).writes = [] then 3 else 2) ∧ t.dma = s.dma ∧ t.rt = s.rt ∧ t.bulk = s.bulk) ∧
  (∀ (s : State) (ch : Nat), s.wf = true → ch < 32 → s.dmaState ch = 3 → (s.dmaCh ch).err = 0 →
    ∃ t, Sys2Proof.Machine.exec (.dmaResume ch) s = .next t ∧ t.on DMA_CHn_CTRL.PAUSE ch = false ∧ t.dmaState ch = 1 ∧
      (t.dmaCh ch).p = (s.dmaCh ch).p ∧ (t.dmaCh ch).desc = (s.dmaCh ch).desc ∧ (s.dmaCh ch).p ≤ (t.dmaCh ch).issued) ∧
  (∀ (s : State) (ch : Nat), s.wf = true → ch < 32 → s.dmaState ch ∈ [1, 2, 3] → (s.dmaCh ch).writes = [] →
    ∃ t, Sys2Proof.Machine.exec (.dmaAbort ch) s = .next t ∧ t.dmaState ch = 5 ∧ t.rd DMA_CHn_STATUS.ERR ch = 1 ∧
      s.told 433 < t.told 433 ∧ (t.dmaCh ch).p = (s.dmaCh ch).p ∧ t.rt = s.rt ∧ t.bulk = s.bulk) ∧
  (∀ (s : State) (ch : Nat), ch < 32 → s.dmaState ch ∈ [1, 2, 3] → (s.dmaCh ch).writes ≠ [] →
    ∃ t, Sys2Proof.Machine.exec (.dmaAbort ch) s = .next t ∧ t.regs = s.regs ∧ (t.dmaCh ch).reads = [] ∧
      (t.dmaCh ch).writes = (s.dmaCh ch).writes ∧ (t.dmaCh ch).err = (if (s.dmaCh ch).err = 0 then 1 else (s.dmaCh ch).err)) ∧
  (∀ (s : State) (ch o n : Nat) (l : List (Nat × Nat)), s.wf = true → ch < 32 → (s.dmaCh ch).reads = (o, n) :: l → (s.dmaCh ch).err = 0 →
    (s.dmaCh ch).op = 0 → (s.dmaCh ch).sspace = 0 → (s.dmaCh ch).dspace = 0 → (s.dmaCh ch).overlaps = false →
    (s.dmaCh ch).p < (s.dmaCh ch).len → ∃ t, Sys2Proof.Machine.exec (.dmaReadData ch false) s = .next t ∧
      t.dmaState ch = s.dmaState ch ∧ (t.dmaCh ch).writes = (s.dmaCh ch).writes ++ [n] ∧
      t.rtRead ((s.dmaCh ch).dst + o) n = s.rtRead ((s.dmaCh ch).src + o) n) ∧
  (∀ (s : State) (ch o n i : Nat) (l : List (Nat × Nat)), s.wf = true → ch < 32 → (s.dmaCh ch).reads = (o, n) :: l →
    (s.dmaCh ch).op = 2 → (s.dmaCh ch).sspace = 0 → (s.dmaCh ch).dspace = 0 →
    firstDiff (s.rtRead ((s.dmaCh ch).src + o) n) (s.rtRead ((s.dmaCh ch).dst + o) n) 0 = some i →
    ∃ t, Sys2Proof.Machine.exec (.dmaReadData ch false) s = .next t ∧ t.dmaState ch = 4 ∧ t.rd DMA_CHn_STATUS.MISM ch = 1 ∧
      t.rd DMA_CHn_MISMATCH.OFFSET ch = (o + i) % 2 ^ 32 ∧ s.told 434 < t.told 434 ∧ t.rt = s.rt) ∧
  (∀ (s : State) (ch n : Nat) (l : List Nat), s.wf = true → ch < 32 → (s.dmaCh ch).writes = n :: l → (s.dmaCh ch).err = 0 →
    s.dmaState ch = 1 → (s.dmaCh ch).p + n < (s.dmaCh ch).len → ∃ t, Sys2Proof.Machine.exec (.dmaWriteResponse ch true) s = .next t ∧
      t.dmaState ch = 1 ∧ (t.dmaCh ch).p = (s.dmaCh ch).p + n ∧ t.rd DMA_CHn_REMAIN.BYTES ch = (s.dmaCh ch).len - ((s.dmaCh ch).p + n)) ∧
  (∀ (s : State) (ch n : Nat) (l : List Nat), s.wf = true → ch < 32 → (s.dmaCh ch).writes = n :: l → (s.dmaCh ch).err = 0 →
    s.dmaState ch = 1 → (s.dmaCh ch).p + n = (s.dmaCh ch).len → (s.dmaCh ch).last = true →
    ∃ t, Sys2Proof.Machine.exec (.dmaWriteResponse ch true) s = .next t ∧ t.dmaState ch = 4 ∧ t.rd DMA_CHn_REMAIN.BYTES ch = 0 ∧
      t.rd64 DMA_cnt_LO.COUNT 0 = (s.rd64 DMA_cnt_LO.COUNT 0 + 1) % 2 ^ 64) ∧
  (∀ (s : State) (ch n : Nat), s.wf = true → ch < 32 → (s.dmaCh ch).writes = [n] →
    ∃ t, Sys2Proof.Machine.exec (.dmaWriteResponse ch false) s = .next t ∧ t.dmaState ch = 5 ∧ t.rd DMA_CHn_STATUS.ERR ch = 6 ∧
      s.told 433 < t.told 433) ∧
  (∀ (s : State) (f cid sqid acid : Nat) (c : HostCmd), s.wf = true → s.ctlRuns f = true → (s.ctl f).ps ≠ 2 →
    s.stg.cmds.find? (fun c => c.f == f && c.qid == sqid && c.cid == acid && c.phase == 0 && c.op != 3) = some c →
    s.hostCmd c.id = some c → c.dead = false → ∃ t, Sys2Proof.Machine.exec (.nvmeAbort f cid sqid acid) s = .next t ∧
      Out.nvme f 0 cid 0 0 [] ∈ t.sent ∧ Out.nvme f sqid acid 0x07 0 [] ∈ t.sent ∧ ∀ x ∈ t.stg.cmds, x.id ≠ c.id) ∧
  (∀ (s : State) (f cid sqid acid : Nat), s.wf = true → s.ctlRuns f = true → (s.ctl f).ps ≠ 2 →
    s.stg.cmds.find? (fun c => c.f == f && c.qid == sqid && c.cid == acid && c.phase == 0 && c.op != 3) = none →
    ∃ t, Sys2Proof.Machine.exec (.nvmeAbort f cid sqid acid) s = .next t ∧ Out.nvme f 0 cid 0 1 [] ∈ t.sent ∧ t.stg = s.stg)

end
end

