-- ==== Sys2Proof/Laws/Store.lean ====
section
/-!
SUPPORT. The laws of the sparse store: read after write, and that every operation keeps the canonical form.
-/
namespace Sys2Proof.Machine

variable {α : Type} {d : Nat → α}

/-- A key below every key of a canonical table reads as unlisted. -/
theorem cellGet_below [DecidableEq α] {lo a : Nat} {t : Tab α} (h : cellsWfFrom d lo t = true) (ha : a < lo) : cellGet d t a = d a := by
  cases t with
  | nil => rfl
  | cons p t =>
    simp only [cellsWfFrom, Bool.and_eq_true, decide_eq_true_eq] at h
    have : a < p.1 := by omega
    simp [cellGet, this]

theorem cellsWfFrom_mono [DecidableEq α] {lo lo' : Nat} {t : Tab α} (h : cellsWfFrom d lo t = true) (hl : lo' ≤ lo) : cellsWfFrom d lo' t = true := by
  cases t with
  | nil => rfl
  | cons p t =>
    simp only [cellsWfFrom, Bool.and_eq_true, decide_eq_true_eq] at h ⊢
    exact ⟨⟨by omega, h.1.2⟩, h.2⟩

/-- A read of the key written gives the value written. -/
theorem cellGet_cellSet_same [DecidableEq α] {lo : Nat} {t : Tab α} (h : cellsWfFrom d lo t = true) (a : Nat) (v : α) :
    cellGet d (cellSet d t a v) a = v := by
  induction t generalizing lo with
  | nil => by_cases hv : v = d a <;> simp [cellSet, cellGet, hv]
  | cons p t ih =>
    obtain ⟨k, w⟩ := p
    simp only [cellsWfFrom, Bool.and_eq_true, decide_eq_true_eq] at h
    simp only [cellSet]
    split
    · rename_i hk; split
      · rename_i hv; simp [cellGet, hk, hv]
      · simp [cellGet]
    · split
      · rename_i hk hak; subst hak; split
        · rename_i hv; rw [hv]; exact cellGet_below h.2 (by omega)
        · simp [cellGet]
      · rename_i hk hak; simp [cellGet, hk, hak, ih h.2]

/-- In any table, canonical or not, a read of the key written gives a value that is not the unlisted one. -/
theorem cellGet_cellSet_ne [DecidableEq α] (t : Tab α) (a : Nat) {v : α} (hv : v ≠ d a) : cellGet d (cellSet d t a v) a = v := by
  induction t with
  | nil => simp [cellSet, cellGet, hv]
  | cons p t ih =>
    obtain ⟨k, w⟩ := p
    simp only [cellSet, hv, if_false]
    split
    · simp [cellGet]
    · split
      · rename_i hak; subst hak; simp [cellGet]
      · rename_i hk hak; simp [cellGet, hk, hak, ih]

/-- A write leaves every other key as it was. -/
theorem cellGet_cellSet_other [DecidableEq α] {lo : Nat} {t : Tab α} (h : cellsWfFrom d lo t = true) {a b : Nat} (v : α) (hb : b ≠ a) :
    cellGet d (cellSet d t a v) b = cellGet d t b := by
  induction t generalizing lo with
  | nil => by_cases hv : v = d a <;> simp [cellSet, cellGet, hv, hb]
  | cons p t ih =>
    obtain ⟨k, w⟩ := p
    simp only [cellsWfFrom, Bool.and_eq_true, decide_eq_true_eq] at h
    simp only [cellSet]
    split
    · rename_i hk; split
      · rfl
      · simp only [cellGet, hb, if_false]
        split
        · rename_i hba; have : b < k := by omega
          simp [this]
        · rfl
    · split
      · rename_i hk hak; subst hak; split
        · simp only [cellGet, hb, if_false]
          split
          · exact cellGet_below h.2 (by omega)
          · rfl
        · simp [cellGet, hb]
      · rename_i hk hak
        simp only [cellGet, ih h.2]

theorem cellSet_wfFrom [DecidableEq α] {lo : Nat} {t : Tab α} (h : cellsWfFrom d lo t = true) (a : Nat) (v : α) :
    cellsWfFrom d (min lo a) (cellSet d t a v) = true := by
  induction t generalizing lo with
  | nil =>
    by_cases hv : v = d a
    · simp [cellSet, cellsWfFrom, hv]
    · simp [cellSet, cellsWfFrom, hv] <;> omega
  | cons p t ih =>
    obtain ⟨k, w⟩ := p
    have h0 := h
    simp only [cellsWfFrom, Bool.and_eq_true, decide_eq_true_eq] at h
    simp only [cellSet]
    split
    · rename_i hk; split
      · exact cellsWfFrom_mono h0 (by omega)
      · rename_i hv
        simp only [cellsWfFrom, Bool.and_eq_true, decide_eq_true_eq, Bool.not_eq_true', decide_eq_false_iff_not]
        have h1 := h.1.2
        simp only [Bool.not_eq_true', decide_eq_false_iff_not] at h1
        exact ⟨⟨by omega, hv⟩, ⟨by omega, h1⟩, h.2⟩
    · split
      · rename_i hk hak; split
        · exact cellsWfFrom_mono h.2 (by omega)
        · rename_i hv
          simp only [cellsWfFrom, Bool.and_eq_true, decide_eq_true_eq, Bool.not_eq_true', decide_eq_false_iff_not]
          exact ⟨⟨by omega, hv⟩, hak ▸ h.2⟩
      · rename_i hk hak
        have h2 := ih h.2
        simp only [cellsWfFrom, Bool.and_eq_true, decide_eq_true_eq]
        exact ⟨⟨by omega, h.1.2⟩, cellsWfFrom_mono h2 (by omega)⟩

/-- A write keeps the canonical form. -/
theorem cellSet_wf [DecidableEq α] {t : Tab α} (h : cellsWf d t = true) (a : Nat) (v : α) : cellsWf d (cellSet d t a v) = true := by
  have := cellSet_wfFrom h a v
  simpa [cellsWf] using this

theorem cellDrop_wfFrom [DecidableEq α] (p : Nat → Bool) {lo : Nat} {t : Tab α} (h : cellsWfFrom d lo t = true) :
    cellsWfFrom d lo (cellDrop p t) = true := by
  induction t generalizing lo with
  | nil => rfl
  | cons q t ih =>
    simp only [cellsWfFrom, Bool.and_eq_true, decide_eq_true_eq] at h
    simp only [cellDrop]
    split
    · exact cellsWfFrom_mono (ih h.2) (by omega)
    · simp only [cellsWfFrom, Bool.and_eq_true, decide_eq_true_eq]
      exact ⟨h.1, ih h.2⟩

/-- Dropping keys keeps the canonical form. -/
theorem cellDrop_wf [DecidableEq α] (p : Nat → Bool) {t : Tab α} (h : cellsWf d t = true) : cellsWf d (cellDrop p t) = true :=
  cellDrop_wfFrom p h

/-- Dropped keys read as unlisted. -/
theorem cellGet_cellDrop_hit [DecidableEq α] (p : Nat → Bool) {lo : Nat} {t : Tab α} (h : cellsWfFrom d lo t = true) {a : Nat} (ha : p a = true) :
    cellGet d (cellDrop p t) a = d a := by
  induction t generalizing lo with
  | nil => rfl
  | cons q t ih =>
    obtain ⟨k, v⟩ := q
    simp only [cellsWfFrom, Bool.and_eq_true, decide_eq_true_eq] at h
    simp only [cellDrop]
    split
    · exact ih h.2
    · rename_i hk
      have : a ≠ k := fun e => hk (e ▸ ha)
      simp [cellGet, this, ih h.2]

/-- Keys that are not dropped read as before. -/
theorem cellGet_cellDrop_miss [DecidableEq α] (p : Nat → Bool) {lo : Nat} {t : Tab α} (h : cellsWfFrom d lo t = true) {a : Nat} (ha : p a = false) :
    cellGet d (cellDrop p t) a = cellGet d t a := by
  induction t generalizing lo with
  | nil => rfl
  | cons q t ih =>
    obtain ⟨k, v⟩ := q
    simp only [cellsWfFrom, Bool.and_eq_true, decide_eq_true_eq] at h
    simp only [cellDrop]
    split
    · rename_i hk
      have : a ≠ k := fun e => by rw [e, hk] at ha; cases ha
      simp only [cellGet, this, if_false]
      split
      · rw [ih h.2, cellGet_below h.2 (by omega)]
      · exact ih h.2
    · simp [cellGet, ih h.2]

/-- Writing bytes keeps the canonical form of a byte memory. -/
theorem memWrite_wf {d : Nat → Byte} {m : Tab Byte} (h : cellsWf d m = true) (a : Nat) (b : List Byte) : cellsWf d (memWrite d m a b) = true := by
  induction b generalizing m a with
  | nil => exact h
  | cons x t ih => exact ih (cellSet_wf h a x) (a + 1)

/-- Writing bytes leaves every byte outside them as it was. -/
theorem memWrite_other {d : Nat → Byte} {m : Tab Byte} (h : cellsWf d m = true) (a : Nat) (b : List Byte) {k : Nat}
    (hk : k < a ∨ a + b.length ≤ k) : cellGet d (memWrite d m a b) k = cellGet d m k := by
  induction b generalizing m a with
  | nil => rfl
  | cons x t ih =>
    simp only [List.length_cons] at hk
    rw [memWrite, ih (cellSet_wf h a x) (a + 1) (by omega)]
    exact cellGet_cellSet_other h x (by omega)

theorem memRead_write_before {d : Nat → Byte} {m : Tab Byte} (h : cellsWf d m = true) (a : Nat) (b : List Byte) (n k : Nat) (hk : k + n ≤ a) :
    memRead d (memWrite d m a b) k n = memRead d m k n := by
  induction n generalizing k with
  | zero => rfl
  | succ n ih => rw [memRead, memRead, ih (k + 1) (by omega), memWrite_other h a b (.inl (by omega))]

/-- Reading the bytes that were written gives them back. -/
theorem memRead_memWrite {d : Nat → Byte} {m : Tab Byte} (h : cellsWf d m = true) (a : Nat) (b : List Byte) :
    memRead d (memWrite d m a b) a b.length = b := by
  induction b generalizing m a with
  | nil => rfl
  | cons x t ih =>
    simp only [List.length_cons, memRead, memWrite]
    rw [ih (cellSet_wf h a x) (a + 1), memWrite_other (cellSet_wf h a x) (a + 1) t (.inl (by omega)), cellGet_cellSet_same h]

theorem tabGet_tabSet_same [Inhabited α] [DecidableEq α] {t : Tab α} (h : cellsWf (fun _ => (default : α)) t = true) (a : Nat) (v : α) :
    tabGet (tabSet t a v) a = v := cellGet_cellSet_same h a v

theorem tabGet_tabSet_other [Inhabited α] [DecidableEq α] {t : Tab α} (h : cellsWf (fun _ => (default : α)) t = true) {a b : Nat} (v : α)
    (hb : b ≠ a) : tabGet (tabSet t a v) b = tabGet t b := cellGet_cellSet_other h v hb

theorem filter_wfFrom [DecidableEq α] (p : Nat × α → Bool) {lo : Nat} {t : Tab α} (h : cellsWfFrom d lo t = true) :
    cellsWfFrom d lo (t.filter p) = true := by
  induction t generalizing lo with
  | nil => rfl
  | cons q t ih =>
    simp only [cellsWfFrom, Bool.and_eq_true, decide_eq_true_eq] at h
    rw [List.filter_cons]
    split
    · simp only [cellsWfFrom, Bool.and_eq_true, decide_eq_true_eq]
      exact ⟨h.1, ih h.2⟩
    · exact cellsWfFrom_mono (ih h.2) (by omega)

/-- Two canonical tables, every key of the first below `m` and every key of the second at least `m`, join to one. -/
theorem append_wfFrom [DecidableEq α] {lo m : Nat} {t u : Tab α} (ht : cellsWfFrom d lo t = true) (hu : cellsWfFrom d m u = true)
    (hlo : lo ≤ m) (hk : ∀ p ∈ t, p.1 < m) : cellsWfFrom d lo (t ++ u) = true := by
  induction t generalizing lo with
  | nil => exact cellsWfFrom_mono hu hlo
  | cons q t ih =>
    simp only [cellsWfFrom, Bool.and_eq_true, decide_eq_true_eq] at ht
    simp only [List.cons_append, cellsWfFrom, Bool.and_eq_true, decide_eq_true_eq]
    exact ⟨ht.1, ih ht.2 (by have := hk q (by simp); omega) (fun p hp => hk p (by simp [hp]))⟩

/-- A canonical table whose keys are all at least `m` is canonical from `m`. -/
theorem wfFrom_of_keys [DecidableEq α] {lo m : Nat} {t : Tab α} (ht : cellsWfFrom d lo t = true) (hk : ∀ p ∈ t, m ≤ p.1) :
    cellsWfFrom d m t = true := by
  cases t with
  | nil => rfl
  | cons q t =>
    simp only [cellsWfFrom, Bool.and_eq_true, decide_eq_true_eq] at ht ⊢
    exact ⟨⟨hk q (by simp), ht.1.2⟩, ht.2⟩

end Sys2Proof.Machine
end

