-- ==== Sys2Proof/Laws/Keep.lean ====
section
/-!
SUPPORT. The relation `Keep`, which says what an operation can do to a state: it is a preorder, and holds of every primitive change.
-/
namespace Sys2Proof.Machine

/-! ## Zones -/

theorem blkOfAddr_eq {b : Blk} {a : Nat} (h1 : b.base ≤ a) (h2 : a < b.top) : blkOfAddr a = some b := by
  have h3 : a < 0x700000 := Nat.lt_of_lt_of_le h2 (by cases b <;> decide)
  unfold blkOfAddr
  rw [if_neg (by omega)]
  cases b <;> simp only [Blk.base, Blk.top] at h1 h2 <;> simp [Blk.all, Blk.base] <;> grind

theorem zoneNo_blk {b : Blk} {a : Nat} (h1 : b.base ≤ a) (h2 : a < b.top) : zoneNo a = b.bit := by
  rw [zoneNo, blkOfAddr_eq h1 h2]

theorem zoneNo_high {a : Nat} (h : 0x700000 ≤ a) : zoneNo a = 22 := by
  rw [zoneNo, blkOfAddr, if_pos h]

/-- Every instance of a field lies in the block `b`, `n` bytes before its end. -/
def Fld.inBlk (f : Fld) (b : Blk) (n : Nat := 0) : Bool :=
  f.n1 != 0 && decide (b.base ≤ f.base) && decide (f.base + f.s1 * (f.n1 - 1) + f.s2 * (f.n2 - 1) + n < b.top)

theorem Fld.addr_in {f : Fld} {b : Blk} {n : Nat} (hb : f.inBlk b n = true) {i j : Nat} (hf : f.fits i j = true) :
    b.base ≤ f.addr i j ∧ f.addr i j + n < b.top := by
  simp only [Fld.inBlk, Bool.and_eq_true, decide_eq_true_eq, bne_iff_ne] at hb
  simp only [Fld.fits, Bool.and_eq_true, Bool.or_eq_true, beq_iff_eq, decide_eq_true_eq] at hf
  have h1 : i ≤ f.n1 - 1 := by omega
  have h2 : j ≤ f.n2 - 1 := by omega
  have h3 := Nat.mul_le_mul_left f.s1 h1
  have h4 := Nat.mul_le_mul_left f.s2 h2
  simp only [Fld.addr]
  omega

/-! ## The preorder -/

theorem Keep.refl (m : Nat) (s : State) : Keep m s s :=
  ⟨rfl, Nat.le_refl _, id, fun _ _ _ => rfl, fun p _ => by cases p <;> simp [Part.same]⟩

theorem Part.same_trans {p : Part} {s t u : State} (h1 : p.same s t) (h2 : p.same t u) : p.same s u := by
  cases p <;> simp only [Part.same] at * <;> simp [*]

theorem Keep.trans {m : Nat} {s t u : State} (h1 : Keep m s t) (h2 : Keep m t u) : Keep m s u :=
  ⟨h2.pending.trans h1.pending, Nat.le_trans h1.tick h2.tick, fun h => h2.wf (h1.wf h),
   fun h a ha => (h2.regs (h1.wf h) a ha).trans (h1.regs h a ha), fun p hp => Part.same_trans (h1.parts p hp) (h2.parts p hp)⟩

theorem testBit_of_or {m m' i : Nat} (h : m ||| m' = m') (hi : m'.testBit i = false) : m.testBit i = false := by
  rw [← h, Nat.testBit_or] at hi
  simp only [Bool.or_eq_false_iff] at hi
  exact hi.1

/-- A larger set of parts. -/
theorem Keep.mono {m m' : Nat} {s t : State} (h : Keep m s t) (hm : m ||| m' = m') : Keep m' s t :=
  ⟨h.pending, h.tick, h.wf, fun hw a ha => h.regs hw a (testBit_of_or hm ha), fun p hp => h.parts p (testBit_of_or hm hp)⟩

/-- One operation after others. -/
theorem Keep.step {m m' : Nat} {s t u : State} (h : Keep m' t u) (h1 : Keep m s t) (hle : m' ||| m = m) : Keep m s u :=
  h1.trans (h.mono hle)

theorem Keep.ite {m : Nat} {s a b : State} {c : Prop} [Decidable c] (ha : Keep m s a) (hb : Keep m s b) : Keep m s (if c then a else b) := by
  split
  · exact ha
  · exact hb

/-- A fact about a named intermediate state. -/
theorem Keep.cut {m : Nat} {s x y : State} (h : Keep m s x) (k : Keep m s x → Keep m s y) : Keep m s y := k h

/-- The relation for an operation that answers a value beside the state. -/
def KeepP {α : Type} (m : Nat) (s : State) (p : State × α) : Prop := Keep m s p.1

/-- A fact about a named intermediate result that carries a state. -/
theorem Keep.cutP {m : Nat} {s y : State} {α : Type} {x : State × α} (h : KeepP m s x) (k : Keep m s x.1 → Keep m s y) : Keep m s y := k h

theorem KeepP.mk {m : Nat} {s t : State} {α : Type} {a : α} (h : Keep m s t) : KeepP m s (t, a) := h

theorem KeepP.of {m : Nat} {s : State} {α : Type} {p : State × α} (h : Keep m s p.1) : KeepP m s p := h

theorem KeepP.ite {m : Nat} {s : State} {α : Type} {a b : State × α} {c : Prop} [Decidable c] (ha : KeepP m s a) (hb : KeepP m s b) :
    KeepP m s (if c then a else b) := by
  split
  · exact ha
  · exact hb

theorem KeepP.cut {m : Nat} {s x : State} {α : Type} {y : State × α} (h : Keep m s x) (k : Keep m s x → KeepP m s y) : KeepP m s y := k h

theorem KeepP.cutP {m : Nat} {s : State} {α β : Type} {y : State × β} {x : State × α} (h : KeepP m s x) (k : Keep m s x.1 → KeepP m s y) :
    KeepP m s y := k h

theorem Keep.fst {m : Nat} {s t : State} {α : Type} {a : α} (h : Keep m s t) : Keep m s (t, a).1 := h

theorem Keep.ofPair {m : Nat} {s t : State} {α : Type} {p : State × α} {a : α} (hq : p = (t, a)) (h : Keep m s p.1) : Keep m s t := by
  subst hq; exact h

theorem Keep.iteP {m : Nat} {s : State} {α : Type} {a b : State × α} {c : Prop} [Decidable c] (ha : Keep m s a.1) (hb : Keep m s b.1) :
    Keep m s (if c then a else b).1 := by
  split
  · exact ha
  · exact hb

theorem Keep.forEach {m : Nat} {s t : State} {α : Type} {l : List α} {f : α → State → State} (h0 : Keep m s t)
    (h : ∀ a u, Keep m u (f a u)) : Keep m s (forEach l f t) := by
  induction l generalizing t with
  | nil => exact h0
  | cons a l ih => exact ih (h0.trans (h a t))

theorem Keep.foldl {m : Nat} {s t : State} {α : Type} {l : List α} {f : State → α → State} (h0 : Keep m s t)
    (h : ∀ u a, Keep m u (f u a)) : Keep m s (l.foldl f t) := by
  induction l generalizing t with
  | nil => exact h0
  | cons a l ih => exact ih (h0.trans (h t a))

/-- Several parts change at once, none of them a store. -/
theorem Keep.fields {m : Nat} {s t u : State} (h : Keep m s t) (hq : u.pending = t.pending) (hc : t.tick ≤ u.tick)
    (hs : u.regs = t.regs ∧ u.winLive = t.winLive ∧ u.winShadow = t.winShadow ∧ u.mram = t.mram ∧ u.rt = t.rt ∧ u.bulk = t.bulk ∧
      u.boot.flash = t.boot.flash ∧ u.boot.loader = t.boot.loader)
    (hp : ∀ p : Part, m.testBit p.bit = false → p.same t u) : Keep m s u := by
  obtain ⟨h1, h2, h3, h4, h5, h6, h7, h8⟩ := hs
  refine ⟨hq.trans h.pending, Nat.le_trans h.tick hc, fun hw => ?_, fun hw a ha => ?_, fun p hm => Part.same_trans (h.parts p hm) (hp p hm)⟩
  · have := h.wf hw
    simp only [State.wf, h1, h2, h3, h4, h5, h6, h7, h8] at this ⊢
    exact this
  · have := h.regs hw a ha
    simp only [State.reg, h1] at this ⊢
    exact this

/-! ## Primitive changes: parts that are no store -/

theorem Keep.rdHold {m : Nat} {s t : State} (h : Keep m s t) (v) (hm : m.testBit 23 = true) : Keep m s { t with rdHold := v } :=
  ⟨h.pending, h.tick, h.wf, h.regs, fun p hp => by
    cases p with
    | rdHold => simp [Part.bit, hm] at hp
    | _ => exact h.parts _ hp⟩

theorem Keep.wrHold {m : Nat} {s t : State} (h : Keep m s t) (v) (hm : m.testBit 24 = true) : Keep m s { t with wrHold := v } :=
  ⟨h.pending, h.tick, h.wf, h.regs, fun p hp => by
    cases p with
    | wrHold => simp [Part.bit, hm] at hp
    | _ => exact h.parts _ hp⟩

theorem Keep.winWr {m : Nat} {s t : State} (h : Keep m s t) (v) (hm : m.testBit 27 = true) : Keep m s { t with winWr := v } :=
  ⟨h.pending, h.tick, h.wf, h.regs, fun p hp => by
    cases p with
    | winWr => simp [Part.bit, hm] at hp
    | _ => exact h.parts _ hp⟩

theorem Keep.winRd {m : Nat} {s t : State} (h : Keep m s t) (v) (hm : m.testBit 28 = true) : Keep m s { t with winRd := v } :=
  ⟨h.pending, h.tick, h.wf, h.regs, fun p hp => by
    cases p with
    | winRd => simp [Part.bit, hm] at hp
    | _ => exact h.parts _ hp⟩

theorem Keep.stage {m : Nat} {s t : State} (h : Keep m s t) (v) (hm : m.testBit 29 = true) : Keep m s { t with stage := v } :=
  ⟨h.pending, h.tick, h.wf, h.regs, fun p hp => by
    cases p with
    | stage => simp [Part.bit, hm] at hp
    | _ => exact h.parts _ hp⟩

theorem Keep.markOwner {m : Nat} {s t : State} (h : Keep m s t) (v) (hm : m.testBit 30 = true) : Keep m s { t with markOwner := v } :=
  ⟨h.pending, h.tick, h.wf, h.regs, fun p hp => by
    cases p with
    | markOwner => simp [Part.bit, hm] at hp
    | _ => exact h.parts _ hp⟩

theorem Keep.calFrom {m : Nat} {s t : State} (h : Keep m s t) (v) (hm : m.testBit 31 = true) : Keep m s { t with calFrom := v } :=
  ⟨h.pending, h.tick, h.wf, h.regs, fun p hp => by
    cases p with
    | calFrom => simp [Part.bit, hm] at hp
    | _ => exact h.parts _ hp⟩

theorem Keep.calFcFrom {m : Nat} {s t : State} (h : Keep m s t) (v) (hm : m.testBit 32 = true) : Keep m s { t with calFcFrom := v } :=
  ⟨h.pending, h.tick, h.wf, h.regs, fun p hp => by
    cases p with
    | calFcFrom => simp [Part.bit, hm] at hp
    | _ => exact h.parts _ hp⟩

theorem Keep.pins {m : Nat} {s t : State} (h : Keep m s t) (v) (hm : m.testBit 33 = true) : Keep m s { t with pins := v } :=
  ⟨h.pending, h.tick, h.wf, h.regs, fun p hp => by
    cases p with
    | pins => simp [Part.bit, hm] at hp
    | _ => exact h.parts _ hp⟩

theorem Keep.evt {m : Nat} {s t : State} (h : Keep m s t) (v) (hm : m.testBit 34 = true) : Keep m s { t with evt := v } :=
  ⟨h.pending, h.tick, h.wf, h.regs, fun p hp => by
    cases p with
    | evt => simp [Part.bit, hm] at hp
    | _ => exact h.parts _ hp⟩

theorem Keep.tim {m : Nat} {s t : State} (h : Keep m s t) (v) (hm : m.testBit 35 = true) : Keep m s { t with tim := v } :=
  ⟨h.pending, h.tick, h.wf, h.regs, fun p hp => by
    cases p with
    | tim => simp [Part.bit, hm] at hp
    | _ => exact h.parts _ hp⟩

theorem Keep.hif {m : Nat} {s t : State} (h : Keep m s t) (v) (hm : m.testBit 36 = true) : Keep m s { t with hif := v } :=
  ⟨h.pending, h.tick, h.wf, h.regs, fun p hp => by
    cases p with
    | hif => simp [Part.bit, hm] at hp
    | _ => exact h.parts _ hp⟩

theorem Keep.rings {m : Nat} {s t : State} (h : Keep m s t) (v) (hm : m.testBit 37 = true) : Keep m s { t with rings := v } :=
  ⟨h.pending, h.tick, h.wf, h.regs, fun p hp => by
    cases p with
    | rings => simp [Part.bit, hm] at hp
    | _ => exact h.parts _ hp⟩

theorem Keep.fpt {m : Nat} {s t : State} (h : Keep m s t) (v) (hm : m.testBit 41 = true) : Keep m s { t with fpt := v } :=
  ⟨h.pending, h.tick, h.wf, h.regs, fun p hp => by
    cases p with
    | fpt => simp [Part.bit, hm] at hp
    | _ => exact h.parts _ hp⟩

theorem Keep.ppl {m : Nat} {s t : State} (h : Keep m s t) (v) (hm : m.testBit 42 = true) : Keep m s { t with ppl := v } :=
  ⟨h.pending, h.tick, h.wf, h.regs, fun p hp => by
    cases p with
    | ppl => simp [Part.bit, hm] at hp
    | _ => exact h.parts _ hp⟩

theorem Keep.fwt {m : Nat} {s t : State} (h : Keep m s t) (v) (hm : m.testBit 43 = true) : Keep m s { t with fwt := v } :=
  ⟨h.pending, h.tick, h.wf, h.regs, fun p hp => by
    cases p with
    | fwt => simp [Part.bit, hm] at hp
    | _ => exact h.parts _ hp⟩

theorem Keep.sch {m : Nat} {s t : State} (h : Keep m s t) (v) (hm : m.testBit 44 = true) : Keep m s { t with sch := v } :=
  ⟨h.pending, h.tick, h.wf, h.regs, fun p hp => by
    cases p with
    | sch => simp [Part.bit, hm] at hp
    | _ => exact h.parts _ hp⟩

theorem Keep.cpu {m : Nat} {s t : State} (h : Keep m s t) (v) (hm : m.testBit 45 = true) : Keep m s { t with cpu := v } :=
  ⟨h.pending, h.tick, h.wf, h.regs, fun p hp => by
    cases p with
    | cpu => simp [Part.bit, hm] at hp
    | _ => exact h.parts _ hp⟩

theorem Keep.svi {m : Nat} {s t : State} (h : Keep m s t) (v) (hm : m.testBit 46 = true) : Keep m s { t with svi := v } :=
  ⟨h.pending, h.tick, h.wf, h.regs, fun p hp => by
    cases p with
    | svi => simp [Part.bit, hm] at hp
    | _ => exact h.parts _ hp⟩

theorem Keep.aln {m : Nat} {s t : State} (h : Keep m s t) (v) (hm : m.testBit 47 = true) : Keep m s { t with aln := v } :=
  ⟨h.pending, h.tick, h.wf, h.regs, fun p hp => by
    cases p with
    | aln => simp [Part.bit, hm] at hp
    | _ => exact h.parts _ hp⟩

theorem Keep.phe {m : Nat} {s t : State} (h : Keep m s t) (v) (hm : m.testBit 48 = true) : Keep m s { t with phe := v } :=
  ⟨h.pending, h.tick, h.wf, h.regs, fun p hp => by
    cases p with
    | phe => simp [Part.bit, hm] at hp
    | _ => exact h.parts _ hp⟩

theorem Keep.trp {m : Nat} {s t : State} (h : Keep m s t) (v) (hm : m.testBit 49 = true) : Keep m s { t with trp := v } :=
  ⟨h.pending, h.tick, h.wf, h.regs, fun p hp => by
    cases p with
    | trp => simp [Part.bit, hm] at hp
    | _ => exact h.parts _ hp⟩

theorem Keep.recd {m : Nat} {s t : State} (h : Keep m s t) (v) (hm : m.testBit 50 = true) : Keep m s { t with rec_ := v } :=
  ⟨h.pending, h.tick, h.wf, h.regs, fun p hp => by
    cases p with
    | recd => simp [Part.bit, hm] at hp
    | _ => exact h.parts _ hp⟩

theorem Keep.rma {m : Nat} {s t : State} (h : Keep m s t) (v) (hm : m.testBit 51 = true) : Keep m s { t with rma := v } :=
  ⟨h.pending, h.tick, h.wf, h.regs, fun p hp => by
    cases p with
    | rma => simp [Part.bit, hm] at hp
    | _ => exact h.parts _ hp⟩

theorem Keep.stg {m : Nat} {s t : State} (h : Keep m s t) (v) (hm : m.testBit 52 = true) : Keep m s { t with stg := v } :=
  ⟨h.pending, h.tick, h.wf, h.regs, fun p hp => by
    cases p with
    | stg => simp [Part.bit, hm] at hp
    | _ => exact h.parts _ hp⟩

theorem Keep.dma {m : Nat} {s t : State} (h : Keep m s t) (v) (hm : m.testBit 53 = true) : Keep m s { t with dma := v } :=
  ⟨h.pending, h.tick, h.wf, h.regs, fun p hp => by
    cases p with
    | dma => simp [Part.bit, hm] at hp
    | _ => exact h.parts _ hp⟩

theorem Keep.mem {m : Nat} {s t : State} (h : Keep m s t) (v) (hm : m.testBit 54 = true) : Keep m s { t with mem := v } :=
  ⟨h.pending, h.tick, h.wf, h.regs, fun p hp => by
    cases p with
    | mem => simp [Part.bit, hm] at hp
    | _ => exact h.parts _ hp⟩

theorem Keep.pwr {m : Nat} {s t : State} (h : Keep m s t) (v) (hm : m.testBit 55 = true) : Keep m s { t with pwr := v } :=
  ⟨h.pending, h.tick, h.wf, h.regs, fun p hp => by
    cases p with
    | pwr => simp [Part.bit, hm] at hp
    | _ => exact h.parts _ hp⟩

theorem Keep.sent {m : Nat} {s t : State} (h : Keep m s t) (v) (hm : m.testBit 60 = true) : Keep m s { t with sent := v } :=
  ⟨h.pending, h.tick, h.wf, h.regs, fun p hp => by
    cases p with
    | sent => simp [Part.bit, hm] at hp
    | _ => exact h.parts _ hp⟩

theorem Keep.reply {m : Nat} {s t : State} (h : Keep m s t) (v) (hm : m.testBit 61 = true) : Keep m s { t with reply := v } :=
  ⟨h.pending, h.tick, h.wf, h.regs, fun p hp => by
    cases p with
    | reply => simp [Part.bit, hm] at hp
    | _ => exact h.parts _ hp⟩

theorem Keep.free {m : Nat} {s t : State} (h : Keep m s t) (v) (hm : m.testBit 62 = true) : Keep m s { t with free := v } :=
  ⟨h.pending, h.tick, h.wf, h.regs, fun p hp => by
    cases p with
    | free => simp [Part.bit, hm] at hp
    | _ => exact h.parts _ hp⟩

theorem Keep.clock {m : Nat} {s t : State} (h : Keep m s t) {v : Nat} (hv : t.tick ≤ v) (hm : m.testBit 63 = true) : Keep m s { t with tick := v } :=
  ⟨h.pending, Nat.le_trans h.tick hv, h.wf, h.regs, fun p hp => by
    cases p with
    | tick => simp [Part.bit, hm] at hp
    | _ => exact h.parts _ hp⟩

/-! ## Primitive changes: the stores -/

theorem State.wf_iff {s : State} : s.wf = true ↔ cellsWf resetOf s.regs = true ∧ cellsWf (fun _ => 0#32) s.winLive = true ∧
    cellsWf (fun _ => 0#32) s.winShadow = true ∧ cellsWf mramShip s.mram = true ∧ cellsWf rtShip s.rt = true ∧
    cellsWf bulkShip s.bulk = true ∧ cellsWf flashShip s.boot.flash = true ∧ cellsWf rtShip s.boot.loader = true := by
  simp only [State.wf, Memory.wf, Bool.and_eq_true, and_assoc]

theorem State.wf_regs {s : State} (h : s.wf = true) : cellsWf resetOf s.regs = true := (State.wf_iff.1 h).1

/-- A register change: canonical again, and no register outside the set is touched. -/
theorem Keep.regsTo {m : Nat} {s t : State} (h : Keep m s t) {v : Tab Word} (hw : t.wf = true → cellsWf resetOf v = true)
    (hz : t.wf = true → ∀ a, m.testBit (zoneNo a) = false → cellGet resetOf v a = t.reg a) : Keep m s { t with regs := v } :=
  ⟨h.pending, h.tick, fun hs => State.wf_iff.2 ⟨hw (h.wf hs), (State.wf_iff.1 (h.wf hs)).2⟩,
   fun hs a ha => (hz (h.wf hs) a ha).trans (h.regs hs a ha), fun p hp => by cases p <;> exact h.parts _ hp⟩

/-- A register of the set is set. -/
theorem Keep.setReg {m : Nat} {s t : State} (h : Keep m s t) {a : Nat} {v : Word} (hz : m.testBit (zoneNo a) = true) : Keep m s (t.setReg a v) :=
  h.regsTo (fun hw => cellSet_wf (State.wf_regs hw) a v) (fun hw b hb => by
    refine cellGet_cellSet_other (State.wf_regs hw) v ?_
    rintro rfl; rw [hz] at hb; cases hb)

/-- Registers of the set are dropped to their reset values. -/
theorem Keep.dropRegs {m : Nat} {s t : State} (h : Keep m s t) {p : Nat → Bool} (hz : ∀ a, p a = true → m.testBit (zoneNo a) = true) :
    Keep m s { t with regs := cellDrop p t.regs } :=
  h.regsTo (fun hw => cellDrop_wf p (State.wf_regs hw)) (fun hw b hb => by
    refine cellGet_cellDrop_miss p (State.wf_regs hw) ?_
    cases hp : p b with
    | false => rfl
    | true => rw [hz b hp] at hb; cases hb)

theorem zoneNo_le (a : Nat) : zoneNo a ≤ 22 := by
  unfold zoneNo
  cases blkOfAddr a with
  | none => exact Nat.le_refl _
  | some b => cases b <;> decide

/-- Every zone of the registers. -/
def allZones : Nat := 2 ^ 23 - 1

theorem allZones_hit (a : Nat) {m : Nat} (hm : allZones ||| m = m) : m.testBit (zoneNo a) = true := by
  rw [← hm, Nat.testBit_or, allZones, Nat.testBit_two_pow_sub_one]
  simp [Nat.lt_succ_of_le (zoneNo_le a)]

/-! ### Fields of a block -/

theorem Keep.wr {m : Nat} {s t : State} (b : Blk) (h : Keep m s t) {f : Fld} {v i j : Nat} (hf : f.inBlk b = true)
    (hm : m.testBit b.bit = true) : Keep m s (t.wr f v i j) := by
  unfold State.wr
  split
  · rename_i hi
    have := Fld.addr_in hf hi
    exact h.setReg (by rw [zoneNo_blk this.1 (by omega)]; exact hm)
  · exact h

theorem Keep.wr64 {m : Nat} {s t : State} (b : Blk) (h : Keep m s t) {f : Fld} {v i j : Nat} (hf : f.inBlk b 4 = true)
    (hm : m.testBit b.bit = true) : Keep m s (t.wr64 f v i j) := by
  unfold State.wr64
  split
  · rename_i hi
    have := Fld.addr_in hf hi
    exact (h.setReg (by rw [zoneNo_blk this.1 (by omega)]; exact hm)).setReg (by rw [zoneNo_blk (by omega) this.2]; exact hm)
  · exact h

theorem Keep.setWord {m : Nat} {s t : State} (b : Blk) (h : Keep m s t) {f : Fld} {v : Word} {i j : Nat} (hf : f.inBlk b = true)
    (hm : m.testBit b.bit = true) : Keep m s (t.setWord f v i j) := by
  unfold State.setWord
  split
  · rename_i hi
    have := Fld.addr_in hf hi
    exact h.setReg (by rw [zoneNo_blk this.1 (by omega)]; exact hm)
  · exact h

theorem Keep.bump {m : Nat} {s t : State} (b : Blk) (h : Keep m s t) {f : Fld} {n i j : Nat} (hf : f.inBlk b = true)
    (hm : m.testBit b.bit = true) : Keep m s (t.bump f i j n) := h.wr b hf hm

theorem Keep.count {m : Nat} {s t : State} (b : Blk) (h : Keep m s t) {f : Fld} {n i j : Nat} (hf : f.inBlk b 4 = true)
    (hm : m.testBit b.bit = true) : Keep m s (t.count f i j n) := h.wr64 b hf hm

theorem Keep.setBitAt {m : Nat} {s t : State} (b : Blk) (h : Keep m s t) {f : Fld} {k : Nat} {v : Bool} (hf : f.inBlk b = true)
    (hm : m.testBit b.bit = true) : Keep m s (t.setBitAt f k v) := h.wr b hf hm

/-! ### Fields of a function's own space -/

theorem Keep.wrFn {m : Nat} {s t : State} (h : Keep m s t) {f : Fld} {v i j : Nat} (hf : 0x700000 ≤ f.base)
    (hm : m.testBit 22 = true) : Keep m s (t.wr f v i j) := by
  unfold State.wr
  split
  · exact (h.setReg (by rw [zoneNo_high (Nat.le_trans hf (by unfold Fld.addr; omega))]; exact hm))
  · exact h

theorem Keep.wr64Fn {m : Nat} {s t : State} (h : Keep m s t) {f : Fld} {v i j : Nat} (hf : 0x700000 ≤ f.base)
    (hm : m.testBit 22 = true) : Keep m s (t.wr64 f v i j) := by
  unfold State.wr64
  split
  · exact (h.setReg (by rw [zoneNo_high (Nat.le_trans hf (by unfold Fld.addr; omega))]; exact hm)).setReg (by rw [zoneNo_high (Nat.le_trans hf (by unfold Fld.addr; omega))]; exact hm)
  · exact h

theorem Keep.setWordFn {m : Nat} {s t : State} (h : Keep m s t) {f : Fld} {v : Word} {i j : Nat} (hf : 0x700000 ≤ f.base)
    (hm : m.testBit 22 = true) : Keep m s (t.setWord f v i j) := by
  unfold State.setWord
  split
  · exact (h.setReg (by rw [zoneNo_high (Nat.le_trans hf (by unfold Fld.addr; omega))]; exact hm))
  · exact h

theorem Keep.bumpFn {m : Nat} {s t : State} (h : Keep m s t) {f : Fld} {n i j : Nat} (hf : 0x700000 ≤ f.base)
    (hm : m.testBit 22 = true) : Keep m s (t.bump f i j n) := h.wrFn hf hm

theorem Keep.countFn {m : Nat} {s t : State} (h : Keep m s t) {f : Fld} {n i j : Nat} (hf : 0x700000 ≤ f.base)
    (hm : m.testBit 22 = true) : Keep m s (t.count f i j n) := h.wr64Fn hf hm

theorem Keep.setBitAtFn {m : Nat} {s t : State} (h : Keep m s t) {f : Fld} {k : Nat} {v : Bool} (hf : 0x700000 ≤ f.base)
    (hm : m.testBit 22 = true) : Keep m s (t.setBitAt f k v) := h.wrFn hf hm

theorem Keep.msixReg {m : Nat} {s t : State} (h : Keep m s t) {f e w : Nat} {v : Word} (hm : m.testBit 22 = true) :
    Keep m s (t.setReg (msixAddr f e w) v) :=
  h.setReg (by rw [zoneNo_high (by unfold msixAddr fnBase; omega)]; exact hm)

theorem Keep.pbaReg {m : Nat} {s t : State} (h : Keep m s t) {f e : Nat} {v : Word} (hm : m.testBit 22 = true) :
    Keep m s (t.setReg (pbaAddr f e) v) :=
  h.setReg (by rw [zoneNo_high (by unfold pbaAddr fnBase; omega)]; exact hm)

theorem Keep.setRegAny {m : Nat} {s t : State} (h : Keep m s t) {a : Nat} {v : Word} (hm : allZones ||| m = m) : Keep m s (t.setReg a v) :=
  h.setReg (allZones_hit a hm)

theorem Keep.wrAny {m : Nat} {s t : State} (h : Keep m s t) {f : Fld} {v i j : Nat} (hm : allZones ||| m = m) : Keep m s (t.wr f v i j) := by
  unfold State.wr
  split
  · exact h.setRegAny hm
  · exact h

theorem Keep.wr64Any {m : Nat} {s t : State} (h : Keep m s t) {f : Fld} {v i j : Nat} (hm : allZones ||| m = m) : Keep m s (t.wr64 f v i j) := by
  unfold State.wr64
  split
  · exact (h.setRegAny hm).setRegAny hm
  · exact h

theorem Keep.winLiveTo {m : Nat} {s t : State} (h : Keep m s t) {v : Tab Word} (hw : t.wf = true → cellsWf (fun _ => 0#32) v = true)
    (hm : m.testBit 25 = true) : Keep m s { t with winLive := v } :=
  ⟨h.pending, h.tick, fun hs => by
     have h0 := State.wf_iff.1 (h.wf hs); have h1 := hw (h.wf hs); exact State.wf_iff.2 (by simp_all), h.regs, fun p hp => by
    cases p with
    | winLive => simp [Part.bit, hm] at hp
    | _ => exact h.parts _ hp⟩

theorem Keep.winShadowTo {m : Nat} {s t : State} (h : Keep m s t) {v : Tab Word} (hw : t.wf = true → cellsWf (fun _ => 0#32) v = true)
    (hm : m.testBit 26 = true) : Keep m s { t with winShadow := v } :=
  ⟨h.pending, h.tick, fun hs => by
     have h0 := State.wf_iff.1 (h.wf hs); have h1 := hw (h.wf hs); exact State.wf_iff.2 (by simp_all), h.regs, fun p hp => by
    cases p with
    | winShadow => simp [Part.bit, hm] at hp
    | _ => exact h.parts _ hp⟩

theorem Keep.mramTo {m : Nat} {s t : State} (h : Keep m s t) {v : Tab Byte} (hw : t.wf = true → cellsWf mramShip v = true)
    (hm : m.testBit 38 = true) : Keep m s { t with mram := v } :=
  ⟨h.pending, h.tick, fun hs => by
     have h0 := State.wf_iff.1 (h.wf hs); have h1 := hw (h.wf hs); exact State.wf_iff.2 (by simp_all), h.regs, fun p hp => by
    cases p with
    | mram => simp [Part.bit, hm] at hp
    | _ => exact h.parts _ hp⟩

theorem Keep.rtTo {m : Nat} {s t : State} (h : Keep m s t) {v : Tab Byte} (hw : t.wf = true → cellsWf rtShip v = true)
    (hm : m.testBit 39 = true) : Keep m s { t with rt := v } :=
  ⟨h.pending, h.tick, fun hs => by
     have h0 := State.wf_iff.1 (h.wf hs); have h1 := hw (h.wf hs); exact State.wf_iff.2 (by simp_all), h.regs, fun p hp => by
    cases p with
    | rt => simp [Part.bit, hm] at hp
    | _ => exact h.parts _ hp⟩

theorem Keep.bulkTo {m : Nat} {s t : State} (h : Keep m s t) {v : Tab Byte} (hw : t.wf = true → cellsWf bulkShip v = true)
    (hm : m.testBit 40 = true) : Keep m s { t with bulk := v } :=
  ⟨h.pending, h.tick, fun hs => by
     have h0 := State.wf_iff.1 (h.wf hs); have h1 := hw (h.wf hs); exact State.wf_iff.2 (by simp_all), h.regs, fun p hp => by
    cases p with
    | bulk => simp [Part.bit, hm] at hp
    | _ => exact h.parts _ hp⟩

/-- The boot block changes: the flash and the loader area stay canonical, and what lies outside the set stays as it was. -/
theorem Keep.bootTo {m : Nat} {s t : State} (h : Keep m s t) {v : BootSt}
    (hf : t.wf = true → cellsWf flashShip v.flash = true) (hl : t.wf = true → cellsWf rtShip v.loader = true)
    (hp : ∀ p : Part, m.testBit p.bit = false → p.same t { t with boot := v }) : Keep m s { t with boot := v } :=
  ⟨h.pending, h.tick, fun hs => by
     have h0 := State.wf_iff.1 (h.wf hs); have h1 := hf (h.wf hs); have h2 := hl (h.wf hs); exact State.wf_iff.2 (by simp_all), h.regs,
   fun p hq => Part.same_trans (h.parts p hq) (hp p hq)⟩

/-- The boot block changes only in what is neither flash, OTP nor loader area. -/
theorem Keep.bootRest {m : Nat} {s t : State} (h : Keep m s t) {v : BootSt} (hf : v.flash = t.boot.flash) (hl : v.loader = t.boot.loader)
    (ho : v.digest = t.boot.digest ∧ v.floors = t.boot.floors ∧ v.floorVal = t.boot.floorVal) (hm : m.testBit 59 = true) :
    Keep m s { t with boot := v } :=
  h.bootTo (fun hw => hf ▸ (State.wf_iff.1 hw).2.2.2.2.2.2.1) (fun hw => hl ▸ (State.wf_iff.1 hw).2.2.2.2.2.2.2) (fun p hp => by
    cases p with
    | flash => exact hf
    | loader => exact hl
    | otp => exact ho
    | boot => simp [Part.bit, hm] at hp
    | _ => rfl)

/-- The boot block changes only in what is neither flash nor loader area. -/
theorem Keep.bootOtp {m : Nat} {s t : State} (h : Keep m s t) {v : BootSt} (hf : v.flash = t.boot.flash) (hl : v.loader = t.boot.loader)
    (hm : 10 * 2 ^ 56 ||| m = m) : Keep m s { t with boot := v } :=
  h.bootTo (fun hw => hf ▸ (State.wf_iff.1 hw).2.2.2.2.2.2.1) (fun hw => hl ▸ (State.wf_iff.1 hw).2.2.2.2.2.2.2) (fun p hp => by
    have h0 := testBit_of_or hm hp
    cases p <;> first | rfl | exact hf | exact hl | (exfalso; revert h0; decide))

/-- The boot block changes in any part of it; its flash and loader area stay canonical. -/
theorem Keep.bootAny {m : Nat} {s t : State} (h : Keep m s t) {v : BootSt}
    (hf : t.wf = true → cellsWf flashShip v.flash = true) (hl : t.wf = true → cellsWf rtShip v.loader = true)
    (hm : 15 * 2 ^ 56 ||| m = m) : Keep m s { t with boot := v } :=
  h.bootTo hf hl (fun p hp => by
    have h0 := testBit_of_or hm hp
    cases p <;> first | rfl | (exfalso; revert h0; decide))

theorem Keep.bumpAny {m : Nat} {s t : State} (h : Keep m s t) {f : Fld} {n i j : Nat} (hm : allZones ||| m = m) : Keep m s (t.bump f i j n) :=
  h.wrAny hm

/-! ## Outcomes -/

/-- The command answers a next state, which follows from `s` within `m`. -/
def Gives (m : Nat) (s : State) (o : Host.Outcome State Fault Refusal) : Prop := ∃ t, o = .next t ∧ Keep m s t

theorem Gives.ok {m : Nat} {s t : State} (h : Keep m s t) : Gives m s (ok t) := ⟨t, rfl, h⟩

theorem Gives.step {m m' : Nat} {s t : State} {o : Host.Outcome State Fault Refusal} (h : Gives m' t o) (h1 : Keep m s t) (hle : m' ||| m = m) :
    Gives m s o := by
  obtain ⟨u, e, h⟩ := h
  exact ⟨u, e, h.step h1 hle⟩

theorem Gives.ite {m : Nat} {s : State} {a b : Host.Outcome State Fault Refusal} {c : Prop} [Decidable c] (ha : Gives m s a) (hb : Gives m s b) :
    Gives m s (if c then a else b) := by
  split
  · exact ha
  · exact hb

theorem Gives.cut {m : Nat} {s x : State} {o : Host.Outcome State Fault Refusal} (h : Keep m s x) (k : Keep m s x → Gives m s o) : Gives m s o := k h

theorem Gives.cutP {m : Nat} {s : State} {α : Type} {x : State × α} {o : Host.Outcome State Fault Refusal} (h : KeepP m s x)
    (k : Keep m s x.1 → Gives m s o) : Gives m s o := k h

end Sys2Proof.Machine
end

