-- ==== Sys2Proof/Laws/KeepHand.lean ====
section
/-!
SUPPORT. What each operation that changes a store directly can do: it stays within its zone or memory and keeps the canonical form.
-/
namespace Sys2Proof.Machine

theorem State.elapse_keep (s : State) (dt : Nat) : Keep 0x8000000800000000 s (s.elapse dt) := by
  have h := (Keep.refl 0x8000000800000000 s).clock (v := s.tick + dt) (Nat.le_add_right _ _) rfl
  exact h.tim _ rfl

theorem fnBase_high (f : Nat) : 0x700000 ≤ fnBase f := by unfold fnBase; omega

/-- Registers that lie in a function's own space are dropped. -/
theorem State.dropFn_keep (s : State) (p : Nat → Bool) (h : ∀ a, p a = true → 0x700000 ≤ a) : Keep 0x400000 s (s.dropRegs p) :=
  Keep.dropRegs (Keep.refl _ s) (fun a ha => by rw [zoneNo_high (h a ha)]; rfl)

theorem State.resetAdmin_keep (s : State) (f : Nat) : Keep 0x400000 s (s.resetAdmin f) := by
  unfold State.resetAdmin
  refine s.dropFn_keep _ (fun a ha => ?_)
  have := fnBase_high f
  simp only [Bool.and_eq_true, decide_eq_true_eq] at ha
  omega

theorem State.resetFnSpace_keep (s : State) (f : Nat) : Keep 0x400000 s (s.resetFnSpace f) := by
  unfold State.resetFnSpace
  refine s.dropFn_keep _ (fun a ha => ?_)
  have := fnBase_high f
  simp only [Bool.and_eq_true, decide_eq_true_eq] at ha
  omega

/-- The fault record of a function lies in the block of the rings. -/
theorem faultReg_in {a : Nat} (h : QMG_FNf_FAULT.FAULT.covers a = true ∨ QMG_FNf_FAULT_IDX.FAULT.covers a = true) :
    0x381000 ≤ a ∧ a < 0x381804 := by
  rcases h with h | h <;> simp only [Fld.covers, QMG_FNf_FAULT.FAULT, QMG_FNf_FAULT_IDX.FAULT] at h <;> split at h <;>
    simp at h <;> omega

theorem State.clearHif_keep (s : State) : Keep 0x601000 s s.clearHif := by
  refine Keep.dropRegs (Keep.refl _ s) (fun a ha => ?_)
  simp only [hifReg, Bool.or_eq_true, Bool.and_eq_true, decide_eq_true_eq] at ha
  rcases ha with ((ha | ha) | ha) | ha
  · rw [zoneNo_blk (b := .hif) ha.1.1.1 ha.1.1.2]; rfl
  · have := faultReg_in (.inl ha)
    rw [zoneNo_blk (b := .qmg) (by simp only [Blk.base]; omega) (by simp only [Blk.top]; omega)]; rfl
  · have := faultReg_in (.inr ha)
    rw [zoneNo_blk (b := .qmg) (by simp only [Blk.base]; omega) (by simp only [Blk.top]; omega)]; rfl
  · rw [zoneNo_high (Nat.le_trans (fnBase_high 0) ha.1)]; rfl

theorem State.setWinWord_keep (s : State) (w : Nat) (shadow : Bool) (word : Nat) (v : Word) :
    Keep 0x6000000 s (s.setWinWord w shadow word v) := by
  unfold State.setWinWord
  refine Keep.ite ?_ ?_
  · exact (Keep.refl _ s).winShadowTo (fun hw => cellSet_wf (State.wf_iff.1 hw).2.2.1 _ _) rfl
  · exact (Keep.refl _ s).winLiveTo (fun hw => cellSet_wf (State.wf_iff.1 hw).2.1 _ _) rfl

theorem winJoin_wf {w : Nat} {t u : Tab Word} (ht : cellsWf (fun _ => 0#32) t = true) (hu : cellsWf (fun _ => 0#32) u = true) :
    cellsWf (fun _ => 0#32) (winBefore w t ++ winPart w u ++ winAfter w t) = true := by
  have hb := filter_wfFrom (fun p => decide (p.1 / 2 ^ 24 < w)) ht
  have hp := filter_wfFrom (fun p => p.1 / 2 ^ 24 == w) hu
  have ha := filter_wfFrom (fun p => decide (w < p.1 / 2 ^ 24)) ht
  have hp' := wfFrom_of_keys (m := w * 2 ^ 24) hp (fun p hm => by
    have := (List.mem_filter.1 hm).2
    simp only [beq_iff_eq] at this
    omega)
  have ha' := wfFrom_of_keys (m := (w + 1) * 2 ^ 24) ha (fun p hm => by
    have := (List.mem_filter.1 hm).2
    simp only [decide_eq_true_eq] at this
    omega)
  refine append_wfFrom (m := (w + 1) * 2 ^ 24) (append_wfFrom (m := w * 2 ^ 24) hb hp' (Nat.zero_le _) ?_) ha' (Nat.zero_le _) ?_
  · intro p hm
    have := (List.mem_filter.1 hm).2
    simp only [decide_eq_true_eq] at this
    omega
  · intro p hm
    rcases List.mem_append.1 hm with h | h
    · have := (List.mem_filter.1 h).2
      simp only [decide_eq_true_eq] at this
      omega
    · have := (List.mem_filter.1 h).2
      simp only [beq_iff_eq] at this
      omega

theorem winDrop_wf {w : Nat} {t : Tab Word} (ht : cellsWf (fun _ => 0#32) t = true) :
    cellsWf (fun _ => 0#32) (winBefore w t ++ winAfter w t) = true := by
  have := winJoin_wf (w := w) (u := []) ht rfl
  simpa [winPart] using this

theorem State.clearShadow_keep (s : State) (w : Nat) : Keep 0x4000000 s (s.clearShadow w) :=
  (Keep.refl _ s).winShadowTo (fun hw => winDrop_wf (State.wf_iff.1 hw).2.2.1) rfl

theorem State.swapBanks_keep (s : State) (w : Nat) : Keep 0x6000000 s (s.swapBanks w) :=
  ⟨rfl, Nat.le_refl _, fun hw => by
    have h := State.wf_iff.1 hw
    exact State.wf_iff.2 ⟨h.1, winJoin_wf h.2.1 h.2.2.1, winJoin_wf h.2.2.1 h.2.1, h.2.2.2⟩,
   fun _ _ _ => rfl, fun p hp => by
    (cases p <;> first | rfl | exact ⟨rfl, rfl, rfl⟩ | exact ⟨rfl, rfl, rfl, rfl, rfl, rfl⟩ | exact absurd hp (by decide))⟩

theorem State.mramWrite_keep (s : State) (a : Nat) (b : List Byte) : Keep 0x4000000000 s (s.mramWrite a b) :=
  (Keep.refl _ s).mramTo (fun hw => memWrite_wf (State.wf_iff.1 hw).2.2.2.1 a b) rfl

theorem State.rtWrite_keep (s : State) (a : Nat) (b : List Byte) : Keep 0x8000000000 s (s.rtWrite a b) :=
  (Keep.refl _ s).rtTo (fun hw => memWrite_wf (State.wf_iff.1 hw).2.2.2.2.1 a b) rfl

theorem State.dropBulk_keep (s : State) (p : Nat → Bool) : Keep 0x10000000000 s (s.dropBulk p) :=
  (Keep.refl _ s).bulkTo (fun hw => cellDrop_wf p (State.wf_iff.1 hw).2.2.2.2.2.1) rfl

theorem Keep.setBootRest {m : Nat} {s t : State} (h : Keep m s t) {v : BootSt} (hf : v.flash = t.boot.flash) (hl : v.loader = t.boot.loader)
    (ho : v.digest = t.boot.digest ∧ v.floors = t.boot.floors ∧ v.floorVal = t.boot.floorVal) (hm : m.testBit 59 = true) :
    Keep m s (t.setBoot v) := h.bootRest hf hl ho hm

theorem Keep.setBootOtp {m : Nat} {s t : State} (h : Keep m s t) {v : BootSt} (hf : v.flash = t.boot.flash) (hl : v.loader = t.boot.loader)
    (hm : 10 * 2 ^ 56 ||| m = m) : Keep m s (t.setBoot v) := h.bootOtp hf hl hm

theorem State.flashPut_keep (s : State) (a : Nat) (b : List Byte) : Keep 0x100000000000000 s (s.flashPut a b) :=
  (Keep.refl _ s).bootTo (fun hw => memWrite_wf (State.wf_iff.1 hw).2.2.2.2.2.2.1 a b) (fun hw => (State.wf_iff.1 hw).2.2.2.2.2.2.2)
    (fun p hp => by cases p <;> first | rfl | exact ⟨rfl, rfl, rfl⟩ | exact ⟨rfl, rfl, rfl, rfl, rfl, rfl⟩ | exact absurd hp (by decide))

theorem State.flashErase_keep (s : State) (a : Nat) : Keep 0x100000000000000 s (s.flashErase a) :=
  (Keep.refl _ s).bootTo (fun hw => cellDrop_wf _ (State.wf_iff.1 hw).2.2.2.2.2.2.1) (fun hw => (State.wf_iff.1 hw).2.2.2.2.2.2.2)
    (fun p hp => by cases p <;> first | rfl | exact ⟨rfl, rfl, rfl⟩ | exact ⟨rfl, rfl, rfl, rfl, rfl, rfl⟩ | exact absurd hp (by decide))

theorem State.loaderPut_keep (s : State) (off : Nat) (data : List Byte) : Keep 0x400000000000000 s (s.loaderPut off data) :=
  (Keep.refl _ s).bootTo (fun hw => (State.wf_iff.1 hw).2.2.2.2.2.2.1) (fun hw => memWrite_wf (State.wf_iff.1 hw).2.2.2.2.2.2.2 off data)
    (fun p hp => by cases p <;> first | rfl | exact ⟨rfl, rfl, rfl⟩ | exact ⟨rfl, rfl, rfl, rfl, rfl, rfl⟩ | exact absurd hp (by decide))

/-- Parts that a reset of the device domain leaves: MRAM, flash, the queue, the clock, what was given out. -/
theorem State.clearDevice_keep (s : State) (cause : Nat) (lost : Bool) : Keep 0xeffffbfffffffff s (s.clearDevice cause lost) :=
  ⟨rfl, Nat.le_refl _, fun hw => by
    have h := State.wf_iff.1 hw
    refine State.wf_iff.2 ⟨cellDrop_wf _ h.1, rfl, rfl, h.2.2.2.1, ?_, ?_, h.2.2.2.2.2.2.1, rfl⟩
    · show cellsWf rtShip (if lost then [] else s.rt) = true
      split
      · rfl
      · exact h.2.2.2.2.1
    · show cellsWf bulkShip (if lost then [] else s.bulk) = true
      split
      · rfl
      · exact h.2.2.2.2.2.1,
   fun _ a ha => (by rw [allZones_hit a (m := 0xeffffbfffffffff) (by decide)] at ha; exact absurd ha (by decide)),
   fun p hp => by (cases p <;> first | rfl | exact absurd hp (by decide))⟩

theorem State.clearAux_keep (s : State) : Keep 0x8fffe3dffffffff s s.clearAux :=
  ⟨rfl, Nat.le_refl _, fun hw => by
    have h := State.wf_iff.1 hw
    exact State.wf_iff.2 ⟨rfl, rfl, rfl, h.2.2.2.1, h.2.2.2.2.1, h.2.2.2.2.2.1, h.2.2.2.2.2.2.1, h.2.2.2.2.2.2.2⟩,
   fun _ a ha => (by rw [allZones_hit a (m := 0x8fffe3dffffffff) (by decide)] at ha; exact absurd ha (by decide)),
   fun p hp => by (cases p <;> first | rfl | exact ⟨rfl, rfl, rfl⟩ | exact absurd hp (by decide))⟩

end Sys2Proof.Machine
end

