-- ==== Sys2Proof/Laws/KeepOps.lean ====
section
/-!
SUPPORT. What each operation and each command of Machine/Ops.lean can do to the state: the zones and parts it stays within.
-/
namespace Sys2Proof.Machine

theorem State.dropRegs_keep (s : State) (p : Nat → Bool) : Keep 0x7fffff s (State.dropRegs s p) := by
  exact (Keep.refl _ s).dropRegs (fun a _ => allZones_hit a rfl)

theorem State.out_keep (s : State) (o : Out) : Keep 0x1000000000000000 s (State.out s o) := by
  have h0 := Keep.refl 0x1000000000000000 s
  unfold State.out
  exact (Keep.sent h0 _ rfl)

theorem State.answer_keep (s : State) (v : Nat) : Keep 0x2000000000000000 s (State.answer s v) := by
  have h0 := Keep.refl 0x2000000000000000 s
  unfold State.answer
  exact (Keep.reply h0 _ rfl)

theorem State.draw_keep (s : State) : Keep 0x4000000000000000 s (State.draw s) := by
  have h0 := Keep.refl 0x4000000000000000 s
  unfold State.draw
  exact (Keep.free h0 _ rfl)

theorem State.freeBytes_keep (s : State) (n : Nat) : Keep 0x4000000000000000 s (State.freeBytes s n).1 := by
  have h0 := Keep.refl 0x4000000000000000 s
  show KeepP 0x4000000000000000 s (State.freeBytes s n)
  unfold State.freeBytes
  exact KeepP.mk (Keep.free h0 _ rfl)

theorem State.advanceTo_keep (s : State) (t : Nat) : Keep 0x8000000800000000 s (State.advanceTo s t) := by
  have h0 := Keep.refl 0x8000000800000000 s
  unfold State.advanceTo
  exact (Keep.ite h0 (Keep.step (State.elapse_keep ..) h0 rfl))

theorem State.calBump_keep (s : State) (fuel : Nat) (e : Nat) (n : Nat) : Keep 0x100000 s (State.calBump s fuel e n).1 := by
  induction fuel generalizing s e n
  · have h0 := Keep.refl 0x100000 s
    show KeepP _ _ _
    unfold State.calBump
    exact KeepP.mk h0
  · rename_i fuel ih
    have h0 := Keep.refl 0x100000 s
    show KeepP _ _ _
    unfold State.calBump
    extract_lets +onlyGivenNames x1
    generalize x1 = y2 at *
    extract_lets +onlyGivenNames x3
    refine KeepP.cut (x := x3) (Keep.wr64 .cal h0 rfl rfl) (fun h4 => ?_)
    generalize x3 = y5 at *
    refine KeepP.ite ?_ ?_
    · exact KeepP.mk h4
    · extract_lets +onlyGivenNames x6
      generalize x6 = y7 at *
      extract_lets +onlyGivenNames x8
      refine KeepP.cut (x := x8) (Keep.ite (Keep.setBitAt .cal h4 rfl rfl) h4) (fun h9 => ?_)
      generalize x8 = y10 at *
      extract_lets +onlyGivenNames x11
      refine KeepP.cutP (x := x11) ?_ (fun h12 => ?_)
      · unfold x11
        clear x11
        refine KeepP.ite ?_ ?_
        · exact KeepP.of (Keep.step (ih ..) h9 rfl)
        · exact KeepP.mk h9
      generalize x11 = y13 at *
      exact KeepP.mk h12

theorem State.holdRec_keep (s : State) (r : EvRec) : Keep 0x400000004 s (State.holdRec s r) := by
  have h0 := Keep.refl 0x400000004 s
  unfold State.holdRec
  extract_lets +onlyGivenNames x1
  refine Keep.cut (x := x1) (Keep.count .evt h0 rfl rfl) (fun h2 => ?_)
  generalize x1 = y3 at *
  exact (Keep.evt h2 _ rfl)

theorem State.raise_keep (s : State) (src : Nat) (items : List Item) (grain : Option Nat) (at_ : Option Nat) : Keep 0x400100004 s (State.raise s src items grain at_) := by
  have h0 := Keep.refl 0x400100004 s
  unfold State.raise
  extract_lets +onlyGivenNames x1
  generalize x1 = y2 at *
  refine Keep.ite ?_ (Keep.step (State.holdRec_keep ..) h0 rfl)
  split
  · extract_lets +onlyGivenNames x3
    refine Keep.cut (x := x3) (Keep.bump .evt (Keep.count .evt h0 rfl rfl) rfl rfl) (fun h4 => ?_)
    generalize x3 = y5 at *
    extract_lets +onlyGivenNames x6
    refine Keep.cut (x := x6) (Keep.step (State.calBump_keep ..) h4 rfl) (fun h7 => ?_)
    generalize x6 = y8 at *
    exact (Keep.evt h7 _ rfl)
  · extract_lets +onlyGivenNames x9
    refine Keep.cut (x := x9) (Keep.step (State.holdRec_keep ..) h0 rfl) (fun h10 => ?_)
    generalize x9 = y11 at *
    exact (Keep.evt h10 _ rfl)

theorem State.calAdd_keep (s : State) (e : Nat) (n : Nat) : Keep 0x400100004 s (State.calAdd s e n) := by
  have h0 := Keep.refl 0x400100004 s
  unfold State.calAdd
  extract_lets +onlyGivenNames x1
  refine Keep.cutP (x := x1) ?_ (fun h2 => ?_)
  · unfold x1
    clear x1
    exact KeepP.of (Keep.step (State.calBump_keep ..) h0 rfl)
  generalize x1 = y3 at *
  refine Keep.forEach ?_ (fun a5 u4 => ?_)
  · exact h2
  have h6 := Keep.refl 0x400100004 u4
  exact (Keep.step (State.raise_keep ..) h6 rfl)

theorem State.calFilteredOne_keep (s : State) (j : Nat) (n : Nat) (agent : Option Nat) : Keep 0x1000000400100004 s (State.calFilteredOne s j n agent) := by
  have h0 := Keep.refl 0x1000000400100004 s
  unfold State.calFilteredOne
  refine Keep.ite h0 ?_
  refine Keep.ite ?_ (Keep.step (State.calAdd_keep ..) h0 rfl)
  extract_lets +onlyGivenNames x1
  generalize x1 = y2 at *
  refine Keep.ite (Keep.wr64 .cal h0 rfl rfl) ?_
  extract_lets +onlyGivenNames x3
  refine Keep.cut (x := x3) (Keep.step (State.calAdd_keep ..) (Keep.wr64 .cal h0 rfl rfl) rfl) (fun h4 => ?_)
  generalize x3 = y5 at *
  split
  · exact (Keep.step (State.out_keep ..) h4 rfl)
  · exact (Keep.step (State.raise_keep ..) h4 rfl)

theorem State.cal_keep (s : State) (e : Nat) (n : Nat) (a : CalAttr) : Keep 0x1000000400100004 s (State.cal s e n a) := by
  have h0 := Keep.refl 0x1000000400100004 s
  unfold State.cal
  extract_lets +onlyGivenNames x1
  refine Keep.cut (x := x1) (Keep.ite h0 (Keep.step (State.calAdd_keep ..) h0 rfl)) (fun h2 => ?_)
  generalize x1 = y3 at *
  refine Keep.forEach ?_ (fun a5 u4 => ?_)
  · exact h2
  have h6 := Keep.refl 0x1000000400100004 u4
  exact (Keep.step (State.calFilteredOne_keep ..) h6 rfl)

theorem State.calClass_keep (s : State) (e : Nat) (c : Nat) : Keep 0x1000000400100004 s (State.calClass s e c) := by
  have h0 := Keep.refl 0x1000000400100004 s
  unfold State.calClass
  refine Keep.forEach ?_ (fun a2 u1 => ?_)
  · exact h0
  have h3 := Keep.refl 0x1000000400100004 u1
  exact (Keep.step (State.calFilteredOne_keep ..) h3 rfl)

theorem State.bad_keep (s : State) : Keep 0x1000000400100005 s (State.bad s) := by
  have h0 := Keep.refl 0x1000000400100005 s
  unfold State.bad
  exact (Keep.step (State.cal_keep ..) (Keep.bump .glb h0 rfl rfl) rfl)

theorem State.tlpIn_keep (s : State) (f : Nat) : Keep 0x1000000400300004 s (State.tlpIn s f) := by
  have h0 := Keep.refl 0x1000000400300004 s
  unfold State.tlpIn
  exact (Keep.step (State.cal_keep ..) (Keep.count .hif h0 rfl rfl) rfl)

theorem State.tlpOut_keep (s : State) (f : Nat) (o : Out) : Keep 0x1000000400300004 s (State.tlpOut s f o) := by
  have h0 := Keep.refl 0x1000000400300004 s
  unfold State.tlpOut
  exact (Keep.step (State.cal_keep ..) (Keep.count .hif (Keep.step (State.out_keep ..) h0 rfl) rfl rfl) rfl)

theorem State.aer_keep (s : State) (f : Nat) (err : AerErr) : Keep 0x1000000400300004 s (State.aer s f err) := by
  have h0 := Keep.refl 0x1000000400300004 s
  unfold State.aer
  extract_lets +onlyGivenNames x1
  generalize x1 = y2 at *
  extract_lets +onlyGivenNames x3
  refine Keep.cut (x := x3) (Keep.step (State.tlpOut_keep ..) h0 rfl) (fun h4 => ?_)
  generalize x3 = y5 at *
  exact (Keep.ite h4 (Keep.step (State.raise_keep ..) h4 rfl))

theorem State.refuseWrite_keep (s : State) (who : Nat) : Keep 0x1000000400300004 s (State.refuseWrite s who) := by
  have h0 := Keep.refl 0x1000000400300004 s
  unfold State.refuseWrite
  exact (Keep.step (State.aer_keep ..) h0 rfl)

theorem State.refuseRead_keep (s : State) (who : Nat) : Keep 0x1000000400300004 s (State.refuseRead s who) := by
  have h0 := Keep.refl 0x1000000400300004 s
  unfold State.refuseRead
  extract_lets +onlyGivenNames x1
  generalize x1 = y2 at *
  exact (Keep.step (State.tlpOut_keep ..) (Keep.step (State.refuseWrite_keep ..) h0 rfl) rfl)

theorem State.setMsixPending_keep (s : State) (f : Nat) (e : Nat) (b : Bool) : Keep 0x400000 s (State.setMsixPending s f e b) := by
  have h0 := Keep.refl 0x400000 s
  unfold State.setMsixPending
  exact (Keep.pbaReg h0 rfl)

theorem State.msixFire_keep (s : State) (f : Nat) (e : Nat) : Keep 0x1000000400700004 s (State.msixFire s f e) := by
  have h0 := Keep.refl 0x1000000400700004 s
  unfold State.msixFire
  exact (Keep.ite (Keep.step (State.setMsixPending_keep ..) h0 rfl) (Keep.step (State.tlpOut_keep ..) h0 rfl))

theorem State.msixFlush_keep (s : State) (f : Nat) : Keep 0x1000000400700004 s (State.msixFlush s f) := by
  have h0 := Keep.refl 0x1000000400700004 s
  unfold State.msixFlush
  refine Keep.ite h0 ?_
  refine Keep.forEach ?_ (fun a2 u1 => ?_)
  · exact h0
  have h3 := Keep.refl 0x1000000400700004 u1
  exact (Keep.ite (Keep.step (State.tlpOut_keep ..) (Keep.step (State.setMsixPending_keep ..) h3 rfl) rfl) h3)

end Sys2Proof.Machine
end

