-- ==== Sys2Proof/Laws/KeepGrain.lean ====
section
/-!
SUPPORT. What each operation and each command of Machine/Grain.lean can do to the state: the zones and parts it stays within.
-/
namespace Sys2Proof.Machine

theorem State.setGrain_keep (s : State) (n : Nat) (g : GrainSt) : Keep 0x800000000 s (State.setGrain s n g) := by
  have h0 := Keep.refl 0x800000000 s
  unfold State.setGrain
  extract_lets +onlyGivenNames x1
  generalize x1 = y2 at *
  extract_lets +onlyGivenNames x3
  generalize x3 = y4 at *
  exact (Keep.tim h0 _ rfl)

theorem State.showFreq_keep (s : State) (n : Nat) : Keep 0x8 s (State.showFreq s n) := by
  have h0 := Keep.refl 0x8 s
  unfold State.showFreq
  exact (Keep.wr .tim h0 rfl rfl)

theorem State.setGstate_keep (s : State) (n : Nat) (v : Nat) (loss : Bool) : Keep 0xc0010000c s (State.setGstate s n v loss) := by
  have h0 := Keep.refl 0xc0010000c s
  unfold State.setGstate
  refine Keep.ite h0 ?_
  extract_lets +onlyGivenNames x1
  generalize x1 = y2 at *
  extract_lets +onlyGivenNames x3
  generalize x3 = y4 at *
  extract_lets +onlyGivenNames x5
  refine Keep.cut (x := x5) (Keep.wr .tim h0 rfl rfl) (fun h6 => ?_)
  generalize x5 = y7 at *
  extract_lets +onlyGivenNames x8
  refine Keep.cut (x := x8) (Keep.ite (Keep.step (State.setGrain_keep ..) h6 rfl) (Keep.step (State.setGrain_keep ..) h6 rfl)) (fun h9 => ?_)
  generalize x8 = y10 at *
  exact (Keep.step (State.raise_keep ..) h9 rfl)

theorem State.grainLost_keep (s : State) (n : Nat) : Keep 0xc0010000c s (State.grainLost s n) := by
  have h0 := Keep.refl 0xc0010000c s
  unfold State.grainLost
  extract_lets +onlyGivenNames x1
  refine Keep.cut (x := x1) (Keep.wr .tim h0 rfl rfl) (fun h2 => ?_)
  generalize x1 = y3 at *
  refine Keep.ite ?_ ?_
  · extract_lets +onlyGivenNames x4
    generalize x4 = y5 at *
    extract_lets +onlyGivenNames x6
    refine Keep.cut (x := x6) (Keep.step (State.setGrain_keep ..) h2 rfl) (fun h7 => ?_)
    generalize x6 = y8 at *
    exact (Keep.step (State.raise_keep ..) (Keep.wr .tim (Keep.wr .tim h7 rfl rfl) rfl rfl) rfl)
  · extract_lets +onlyGivenNames x9
    generalize x9 = y10 at *
    extract_lets +onlyGivenNames x11
    generalize x11 = y12 at *
    extract_lets +onlyGivenNames x13
    generalize x13 = y14 at *
    exact (Keep.step (State.setGstate_keep ..) (Keep.step (State.setGrain_keep ..) h2 rfl) rfl)

theorem State.grainLoop_keep (s : State) (n : Nat) (err : Nat) (dt : Nat) : Keep 0x4000000800000008 s (State.grainLoop s n err dt) := by
  have h0 := Keep.refl 0x4000000800000008 s
  unfold State.grainLoop
  extract_lets +onlyGivenNames x1
  generalize x1 = y2 at *
  extract_lets +onlyGivenNames x3
  generalize x3 = y4 at *
  extract_lets +onlyGivenNames x5
  generalize x5 = y6 at *
  extract_lets +onlyGivenNames x7
  generalize x7 = y8 at *
  extract_lets +onlyGivenNames x9
  generalize x9 = y10 at *
  extract_lets +onlyGivenNames x11
  generalize x11 = y12 at *
  extract_lets +onlyGivenNames x13
  generalize x13 = y14 at *
  exact (Keep.step (State.showFreq_keep ..) (Keep.step (State.setGrain_keep ..) (Keep.step (State.draw_keep ..) h0 rfl) rfl) rfl)

theorem State.grainTrack_keep (s : State) (n : Nat) (err : Nat) : Keep 0x4000000c0010000c s (State.grainTrack s n err) := by
  have h0 := Keep.refl 0x4000000c0010000c s
  unfold State.grainTrack
  extract_lets +onlyGivenNames x1
  generalize x1 = y2 at *
  extract_lets +onlyGivenNames x3
  generalize x3 = y4 at *
  extract_lets +onlyGivenNames x5
  generalize x5 = y6 at *
  extract_lets +onlyGivenNames x7
  generalize x7 = y8 at *
  extract_lets +onlyGivenNames x9
  generalize x9 = y10 at *
  extract_lets +onlyGivenNames x11
  refine Keep.cut (x := x11) (Keep.step (State.grainLoop_keep ..) (Keep.wr .tim (Keep.step (State.setGrain_keep ..) h0 rfl) rfl rfl) rfl) (fun h12 => ?_)
  generalize x11 = y13 at *
  extract_lets +onlyGivenNames x14
  generalize x14 = y15 at *
  exact (Keep.ite (Keep.step (State.setGstate_keep ..) h12 rfl) (Keep.ite (Keep.step (State.setGstate_keep ..) h12 rfl) h12))

theorem State.grainRegain_keep (s : State) (n : Nat) (alt : Bool) : Keep 0xc0010000c s (State.grainRegain s n alt) := by
  have h0 := Keep.refl 0xc0010000c s
  unfold State.grainRegain
  exact (Keep.step (State.setGstate_keep ..) (Keep.wr .tim (Keep.wr .tim h0 rfl rfl) rfl rfl) rfl)

theorem State.grainUpdate_keep (s : State) (n : Nat) (alt : Bool) (valid : Bool) (ang : Nat) (instant : Nat) : Keep 0x4000000c0010000c s (State.grainUpdate s n alt valid ang instant) := by
  have h0 := Keep.refl 0x4000000c0010000c s
  unfold State.grainUpdate
  extract_lets +onlyGivenNames x1
  generalize x1 = y2 at *
  refine Keep.ite h0 ?_
  extract_lets +onlyGivenNames x3
  generalize x3 = y4 at *
  extract_lets +onlyGivenNames x5
  generalize x5 = y6 at *
  extract_lets +onlyGivenNames x7
  refine Keep.cut (x := x7) (Keep.step (State.setGrain_keep ..) h0 rfl) (fun h8 => ?_)
  generalize x7 = y9 at *
  extract_lets +onlyGivenNames x10
  generalize x10 = y11 at *
  extract_lets +onlyGivenNames x12
  generalize x12 = y13 at *
  exact (Keep.ite (Keep.ite (Keep.step (State.grainTrack_keep ..) (Keep.step (State.grainRegain_keep ..) h8 rfl) rfl) h8) (Keep.ite (Keep.ite (Keep.step (State.grainTrack_keep ..) h8 rfl) (Keep.step (State.grainLost_keep ..) h8 rfl)) (Keep.ite (Keep.step (State.grainTrack_keep ..) (Keep.step (State.setGstate_keep ..) (Keep.wr .tim h8 rfl rfl) rfl) rfl) h8)))

theorem State.advanceCycle_keep (s : State) (n : Nat) (c : Nat) : Keep 0x8000000800000000 s (State.advanceCycle s n c) := by
  have h0 := Keep.refl 0x8000000800000000 s
  unfold State.advanceCycle
  extract_lets +onlyGivenNames x1
  generalize x1 = y2 at *
  exact (Keep.ite h0 (Keep.step (State.elapse_keep ..) h0 rfl))

theorem State.flagCoast_keep (s : State) (n : Nat) : Keep 0x40010000c s (State.flagCoast s n) := by
  have h0 := Keep.refl 0x40010000c s
  unfold State.flagCoast
  exact (Keep.ite h0 (Keep.step (State.raise_keep ..) (Keep.wr .tim h0 rfl rfl) rfl))

theorem State.grainRevert_keep (s : State) (n : Nat) : Keep 0xc0010000c s (State.grainRevert s n) := by
  have h0 := Keep.refl 0xc0010000c s
  unfold State.grainRevert
  extract_lets +onlyGivenNames x1
  generalize x1 = y2 at *
  exact (Keep.step (State.setGstate_keep ..) (Keep.step (State.showFreq_keep ..) (Keep.step (State.setGrain_keep ..) h0 rfl) rfl) rfl)

theorem execGrainRefGap_gives (n : Nat) (s : State) : Gives 0x8000000c0010000c s (execGrainRefGap n s) := by
  have h0 := Keep.refl 0x8000000c0010000c s
  unfold execGrainRefGap
  refine Gives.ite ?_ ?_
  · exact Gives.ok h0
  · extract_lets +onlyGivenNames x1
    refine Gives.cut (x := x1) (Keep.step (State.advanceTo_keep ..) h0 rfl) (fun h2 => ?_)
    generalize x1 = y3 at *
    extract_lets +onlyGivenNames x4
    generalize x4 = y5 at *
    extract_lets +onlyGivenNames x6
    refine Gives.cut (x := x6) (Keep.step (State.setGrain_keep ..) h2 rfl) (fun h7 => ?_)
    generalize x6 = y8 at *
    exact Gives.ok (Keep.step (State.grainLost_keep ..) h7 rfl)

theorem execGrainCycleWrap_gives (n : Nat) (s : State) : Gives 0x8000000800000008 s (execGrainCycleWrap n s) := by
  have h0 := Keep.refl 0x8000000800000008 s
  unfold execGrainCycleWrap
  refine Gives.ite ?_ ?_
  · exact Gives.ok h0
  · extract_lets +onlyGivenNames x1
    refine Gives.cut (x := x1) (Keep.ite (Keep.step (State.advanceCycle_keep ..) h0 rfl) h0) (fun h2 => ?_)
    generalize x1 = y3 at *
    extract_lets +onlyGivenNames x4
    generalize x4 = y5 at *
    extract_lets +onlyGivenNames x6
    generalize x6 = y7 at *
    refine Gives.ite ?_ ?_
    · extract_lets +onlyGivenNames x8
      generalize x8 = y9 at *
      extract_lets +onlyGivenNames x10
      refine Gives.cut (x := x10) (Keep.step (State.setGrain_keep ..) h2 rfl) (fun h11 => ?_)
      generalize x10 = y12 at *
      exact Gives.ok (Keep.ite (Keep.wr .tim h11 rfl rfl) h11)
    · exact Gives.ok (Keep.step (State.setGrain_keep ..) h2 rfl)

theorem execGrainCoastFlag_gives (n : Nat) (s : State) : Gives 0x8000000c0010000c s (execGrainCoastFlag n s) := by
  have h0 := Keep.refl 0x8000000c0010000c s
  unfold execGrainCoastFlag
  refine Gives.ite ?_ ?_
  · exact Gives.ok h0
  · extract_lets +onlyGivenNames x1
    refine Gives.cut (x := x1) (Keep.step (State.flagCoast_keep ..) (Keep.step (State.advanceCycle_keep ..) h0 rfl) rfl) (fun h2 => ?_)
    generalize x1 = y3 at *
    exact Gives.ok (Keep.ite (Keep.step (State.grainRevert_keep ..) h2 rfl) h2)

theorem execGrainNominalRevert_gives (n : Nat) (s : State) : Gives 0x8000000c0010000c s (execGrainNominalRevert n s) := by
  have h0 := Keep.refl 0x8000000c0010000c s
  unfold execGrainNominalRevert
  extract_lets +onlyGivenNames x1
  generalize x1 = y2 at *
  refine Gives.ite ?_ ?_
  · exact Gives.ok h0
  · extract_lets +onlyGivenNames x3
    generalize x3 = y4 at *
    extract_lets +onlyGivenNames x5
    generalize x5 = y6 at *
    extract_lets +onlyGivenNames x7
    generalize x7 = y8 at *
    exact Gives.ok (Keep.step (State.grainRevert_keep ..) (Keep.step (State.flagCoast_keep ..) (Keep.step (State.advanceCycle_keep ..) h0 rfl) rfl) rfl)

theorem State.grainStart_keep (s : State) (n : Nat) : Keep 0xc0010000c s (State.grainStart s n) := by
  have h0 := Keep.refl 0xc0010000c s
  unfold State.grainStart
  extract_lets +onlyGivenNames x1
  generalize x1 = y2 at *
  extract_lets +onlyGivenNames x3
  refine Keep.cut (x := x3) (Keep.step (State.setGrain_keep ..) h0 rfl) (fun h4 => ?_)
  generalize x3 = y5 at *
  exact (Keep.step (State.setGstate_keep ..) (Keep.step (State.showFreq_keep ..) h4 rfl) rfl)

theorem State.grainStop_keep (s : State) (n : Nat) : Keep 0xc0010000c s (State.grainStop s n) := by
  have h0 := Keep.refl 0xc0010000c s
  unfold State.grainStop
  extract_lets +onlyGivenNames x1
  generalize x1 = y2 at *
  extract_lets +onlyGivenNames x3
  refine Keep.cut (x := x3) (Keep.step (State.setGrain_keep ..) h0 rfl) (fun h4 => ?_)
  generalize x3 = y5 at *
  extract_lets +onlyGivenNames x6
  refine Keep.cut (x := x6) (Keep.wr .tim (Keep.wr .tim (Keep.wr .tim h4 rfl rfl) rfl rfl) rfl rfl) (fun h7 => ?_)
  generalize x6 = y8 at *
  exact (Keep.step (State.setGstate_keep ..) h7 rfl)

theorem State.grainRestart_keep (s : State) (n : Nat) : Keep 0xc0010000c s (State.grainRestart s n) := by
  have h0 := Keep.refl 0xc0010000c s
  unfold State.grainRestart
  extract_lets +onlyGivenNames x1
  generalize x1 = y2 at *
  extract_lets +onlyGivenNames x3
  refine Keep.cut (x := x3) (Keep.step (State.setGrain_keep ..) h0 rfl) (fun h4 => ?_)
  generalize x3 = y5 at *
  exact (Keep.step (State.setGstate_keep ..) (Keep.wr .tim (Keep.wr .tim h4 rfl rfl) rfl rfl) rfl)

end Sys2Proof.Machine
end

