-- ==== Sys2Proof/Laws/KeepChannels.lean ====
section
/-!
SUPPORT. What each operation and each command of Machine/Channels.lean can do to the state: the zones and parts it stays within.
-/
namespace Sys2Proof.Machine

theorem State.setChan_keep (s : State) (ch : Nat) (c : ChanSt) : Keep 0x200000000000 s (State.setChan s ch c) := by
  have h0 := Keep.refl 0x200000000000 s
  unfold State.setChan
  exact (Keep.cpu h0 _ rfl)

theorem State.showChan_keep (s : State) (ch : Nat) : Keep 0x10000 s (State.showChan s ch) := by
  have h0 := Keep.refl 0x10000 s
  unfold State.showChan
  extract_lets +onlyGivenNames x1
  generalize x1 = y2 at *
  extract_lets +onlyGivenNames x3
  refine Keep.cut (x := x3) (Keep.wr .cpu h0 rfl rfl) (fun h4 => ?_)
  generalize x3 = y5 at *
  refine Keep.forEach ?_ (fun a7 u6 => ?_)
  · exact h4
  have h8 := Keep.refl 0x10000 u6
  exact (Keep.wr .cpu h8 rfl rfl)

theorem State.calCore_keep (s : State) (a : Nat) (i : Nat) : Keep 0x5000000400100004 s (State.calCore s a i) := by
  have h0 := Keep.refl 0x5000000400100004 s
  unfold State.calCore
  exact (Keep.ite (Keep.step (State.cal_keep ..) (Keep.step (State.draw_keep ..) h0 rfl) rfl) h0)

theorem State.chanBusy_keep (s : State) (ch : Nat) (a : Nat) : Keep 0x7000000400110004 s (State.chanBusy s ch a) := by
  have h0 := Keep.refl 0x7000000400110004 s
  unfold State.chanBusy
  exact (Keep.step (State.answer_keep ..) (Keep.step (State.calCore_keep ..) (Keep.bump .cpu h0 rfl rfl) rfl) rfl)

theorem State.chanFree_keep (s : State) (ch : Nat) : Keep 0x200000010000 s (State.chanFree s ch) := by
  have h0 := Keep.refl 0x200000010000 s
  unfold State.chanFree
  extract_lets +onlyGivenNames x1
  refine Keep.cut (x := x1) (Keep.wr .cpu (Keep.wr .cpu (Keep.wr .cpu h0 rfl rfl) rfl rfl) rfl rfl) (fun h2 => ?_)
  generalize x1 = y3 at *
  extract_lets +onlyGivenNames x4
  generalize x4 = y5 at *
  exact (Keep.step (State.setChan_keep ..) h2 rfl)

theorem State.chanPush_keep (s : State) (ch : Nat) (words : List Nat) : Keep 0x200000010000 s (State.chanPush s ch words) := by
  have h0 := Keep.refl 0x200000010000 s
  unfold State.chanPush
  extract_lets +onlyGivenNames x1
  generalize x1 = y2 at *
  exact (Keep.step (State.showChan_keep ..) (Keep.count .cpu (Keep.step (State.setChan_keep ..) h0 rfl) rfl rfl) rfl)

theorem State.chanAbort_keep (s : State) (ch : Nat) : Keep 0x200000010000 s (State.chanAbort s ch) := by
  have h0 := Keep.refl 0x200000010000 s
  unfold State.chanAbort
  refine Keep.ite h0 ?_
  extract_lets +onlyGivenNames x1
  generalize x1 = y2 at *
  extract_lets +onlyGivenNames x3
  refine Keep.cut (x := x3) (Keep.step (State.chanFree_keep ..) (Keep.bump .cpu h0 rfl rfl) rfl) (fun h4 => ?_)
  generalize x3 = y5 at *
  extract_lets +onlyGivenNames x6
  generalize x6 = y7 at *
  exact (Keep.step (State.setChan_keep ..) h4 rfl)

theorem State.abortHolders_keep (s : State) (p : Nat → Bool) : Keep 0x200000010000 s (State.abortHolders s p) := by
  have h0 := Keep.refl 0x200000010000 s
  unfold State.abortHolders
  refine Keep.forEach ?_ (fun a2 u1 => ?_)
  · exact h0
  have h3 := Keep.refl 0x200000010000 u1
  exact (Keep.step (State.chanAbort_keep ..) h3 rfl)

theorem State.chanPost_keep (s : State) (ch : Nat) (words : List Nat) : Keep 0x200000010000 s (State.chanPost s ch words).1 := by
  have h0 := Keep.refl 0x200000010000 s
  show KeepP 0x200000010000 s (State.chanPost s ch words)
  unfold State.chanPost
  refine KeepP.ite ?_ ?_
  · exact KeepP.mk h0
  · extract_lets +onlyGivenNames x1
    generalize x1 = y2 at *
    refine KeepP.ite ?_ ?_
    · exact KeepP.mk h0
    · exact KeepP.mk (Keep.step (State.chanPush_keep ..) h0 rfl)

theorem execChannelReserve_gives (who : Nat) (ch : Nat) (s : State) : Gives 0x7000200400310004 s (execChannelReserve who ch s) := by
  have h0 := Keep.refl 0x7000200400310004 s
  unfold execChannelReserve
  refine Gives.ite ?_ ?_
  · exact Gives.ok (Keep.step (State.refuseRead_keep ..) h0 rfl)
  · refine Gives.ite ?_ ?_
    · exact Gives.ok h0
    · refine Gives.ite ?_ ?_
      · exact Gives.ok (Keep.step (State.answer_keep ..) (Keep.step (State.draw_keep ..) h0 rfl) rfl)
      · extract_lets +onlyGivenNames x1
        generalize x1 = y2 at *
        refine Gives.ite ?_ ?_
        · exact Gives.ok (Keep.step (State.answer_keep ..) (Keep.step (State.setChan_keep ..) h0 rfl) rfl)
        · refine Gives.ite ?_ ?_
          · exact Gives.ok (Keep.step (State.chanBusy_keep ..) (Keep.count .cpu h0 rfl rfl) rfl)
          · refine Gives.ite ?_ ?_
            · refine Gives.ite ?_ ?_
              · exact Gives.ok (Keep.step (State.answer_keep ..) h0 rfl)
              · exact Gives.ok (Keep.step (State.chanBusy_keep ..) h0 rfl)
            · refine Gives.ite ?_ ?_
              · exact Gives.ok (Keep.step (State.answer_keep ..) h0 rfl)
              · extract_lets +onlyGivenNames x3
                refine Gives.cut (x := x3) (Keep.wr .cpu (Keep.wr .cpu h0 rfl rfl) rfl rfl) (fun h4 => ?_)
                generalize x3 = y5 at *
                exact Gives.ok (Keep.step (State.answer_keep ..) (Keep.step (State.setChan_keep ..) h4 rfl) rfl)

theorem execChannelWordWrite_gives (who : Nat) (ch : Nat) (w : Nat) (val : Word) (s : State) : Gives 0x1000200400310004 s (execChannelWordWrite who ch w val s) := by
  have h0 := Keep.refl 0x1000200400310004 s
  unfold execChannelWordWrite
  refine Gives.ite ?_ ?_
  · exact Gives.ok (Keep.step (State.refuseWrite_keep ..) h0 rfl)
  · refine Gives.ite ?_ ?_
    · exact Gives.ok h0
    · extract_lets +onlyGivenNames x1
      generalize x1 = y2 at *
      extract_lets +onlyGivenNames x3
      generalize x3 = y4 at *
      refine Gives.ite ?_ ?_
      · exact Gives.ok (Keep.count .cpu h0 rfl rfl)
      · extract_lets +onlyGivenNames x5
        generalize x5 = y6 at *
        extract_lets +onlyGivenNames x7
        generalize x7 = y8 at *
        extract_lets +onlyGivenNames x9
        refine Gives.cut (x := x9) (Keep.step (State.setChan_keep ..) h0 rfl) (fun h10 => ?_)
        generalize x9 = y11 at *
        refine Gives.ite ?_ ?_
        · exact Gives.ok (Keep.step (State.chanPush_keep ..) (Keep.step (State.chanFree_keep ..) h10 rfl) rfl)
        · exact Gives.ok h10

theorem execChannelPop_gives (ch : Nat) (s : State) : Gives 0x200000010000 s (execChannelPop ch s) := by
  have h0 := Keep.refl 0x200000010000 s
  unfold execChannelPop
  refine Gives.ite ?_ ?_
  · exact Gives.ok h0
  · extract_lets +onlyGivenNames x1
    generalize x1 = y2 at *
    exact Gives.ok (Keep.step (State.showChan_keep ..) (Keep.step (State.setChan_keep ..) h0 rfl) rfl)

theorem execDebugHalt_gives (agent : Nat) (s : State) : Gives 0x200400110004 s (execDebugHalt agent s) := by
  have h0 := Keep.refl 0x200400110004 s
  unfold execDebugHalt
  refine Gives.ite ?_ ?_
  · exact Gives.ok h0
  · extract_lets +onlyGivenNames x1
    generalize x1 = y2 at *
    extract_lets +onlyGivenNames x3
    refine Gives.cut (x := x3) (Keep.step (State.raise_keep ..) (Keep.cpu h0 _ rfl) rfl) (fun h4 => ?_)
    generalize x3 = y5 at *
    refine Gives.ok ?_
    refine Keep.forEach ?_ (fun a7 u6 => ?_)
    · exact h4
    have h8 := Keep.refl 0x200400110004 u6
    extract_lets +onlyGivenNames x9
    generalize x9 = y10 at *
    exact (Keep.step (State.setChan_keep ..) (Keep.wr .cpu h8 rfl rfl) rfl)

theorem State.debugResume_keep (s : State) (agent : Nat) : Keep 0x200400110004 s (State.debugResume s agent) := by
  have h0 := Keep.refl 0x200400110004 s
  unfold State.debugResume
  refine Keep.ite h0 ?_
  extract_lets +onlyGivenNames x1
  generalize x1 = y2 at *
  extract_lets +onlyGivenNames x3
  refine Keep.cut (x := x3) (Keep.step (State.raise_keep ..) (Keep.cpu h0 _ rfl) rfl) (fun h4 => ?_)
  generalize x3 = y5 at *
  refine Keep.forEach ?_ (fun a7 u6 => ?_)
  · exact h4
  have h8 := Keep.refl 0x200400110004 u6
  exact (Keep.wr .cpu h8 rfl rfl)

theorem execDebugResume_gives (agent : Nat) (s : State) : Gives 0x200400110004 s (execDebugResume agent s) := by
  have h0 := Keep.refl 0x200400110004 s
  unfold execDebugResume
  exact Gives.ok (Keep.step (State.debugResume_keep ..) h0 rfl)

theorem execChannelHoldTimeout_gives (ch : Nat) (s : State) : Gives 0x8000200c00110004 s (execChannelHoldTimeout ch s) := by
  have h0 := Keep.refl 0x8000200c00110004 s
  unfold execChannelHoldTimeout
  refine Gives.ite ?_ ?_
  · exact Gives.ok h0
  · extract_lets +onlyGivenNames x1
    generalize x1 = y2 at *
    extract_lets +onlyGivenNames x3
    refine Gives.cut (x := x3) (Keep.step (State.advanceTo_keep ..) h0 rfl) (fun h4 => ?_)
    generalize x3 = y5 at *
    exact Gives.ok (Keep.step (State.raise_keep ..) (Keep.step (State.chanAbort_keep ..) h4 rfl) rfl)

end Sys2Proof.Machine
end

