-- ==== Sys2Proof/Laws/KeepRings.lean ====
section
/-!
SUPPORT. What each operation and each command of Machine/Rings.lean can do to the state: the zones and parts it stays within.
-/
namespace Sys2Proof.Machine

theorem State.setCfg_keep (s : State) (f : Nat) (c : FnCfg) : Keep 0x1000000000 s (State.setCfg s f c) := by
  have h0 := Keep.refl 0x1000000000 s
  unfold State.setCfg
  exact (Keep.hif h0 _ rfl)

theorem State.showReady_keep (s : State) : Keep 0x400100005 s (State.showReady s) := by
  have h0 := Keep.refl 0x400100005 s
  unfold State.showReady
  extract_lets +onlyGivenNames x1
  generalize x1 = y2 at *
  extract_lets +onlyGivenNames x3
  generalize x3 = y4 at *
  extract_lets +onlyGivenNames x5
  generalize x5 = y6 at *
  refine Keep.ite h0 ?_
  extract_lets +onlyGivenNames x7
  refine Keep.cut (x := x7) (Keep.wr .glb (Keep.wr .glb h0 rfl rfl) rfl rfl) (fun h8 => ?_)
  generalize x7 = y9 at *
  exact (Keep.step (State.raise_keep ..) h8 rfl)

theorem State.showTags_keep (s : State) (f : Nat) : Keep 0x200000 s (State.showTags s f) := by
  have h0 := Keep.refl 0x200000 s
  unfold State.showTags
  exact (Keep.wr .hif (Keep.wr .hif (Keep.wr .hif h0 rfl rfl) rfl rfl) rfl rfl)

theorem State.issueRead_keep (s : State) (r : ReadReq) : Keep 0x1000001400300004 s (State.issueRead s r) := by
  have h0 := Keep.refl 0x1000001400300004 s
  unfold State.issueRead
  split
  · exact (Keep.hif h0 _ rfl)
  · extract_lets +onlyGivenNames x1
    generalize x1 = y2 at *
    extract_lets +onlyGivenNames x3
    generalize x3 = y4 at *
    extract_lets +onlyGivenNames x5
    refine Keep.cut (x := x5) (Keep.hif h0 _ rfl) (fun h6 => ?_)
    generalize x5 = y7 at *
    extract_lets +onlyGivenNames x8
    refine Keep.cut (x := x8) (Keep.step (State.cal_keep ..) h6 rfl) (fun h9 => ?_)
    generalize x8 = y10 at *
    exact (Keep.step (State.showTags_keep ..) (Keep.step (State.tlpOut_keep ..) h9 rfl) rfl)

theorem State.dmaRead_keep (s : State) (f : Nat) (addr : Nat) (len : Nat) (why : Purpose) (off : Nat) : Keep 0x1000001400300004 s (State.dmaRead s f addr len why off) := by
  have h0 := Keep.refl 0x1000001400300004 s
  unfold State.dmaRead
  refine Keep.forEach ?_ (fun a2 u1 => ?_)
  · exact h0
  have h3 := Keep.refl 0x1000001400300004 u1
  exact (Keep.step (State.issueRead_keep ..) h3 rfl)

theorem State.dmaWrite_keep (s : State) (f : Nat) (addr : Nat) (bytes : List Byte) (relaxed : Bool) : Keep 0x1000000400300004 s (State.dmaWrite s f addr bytes relaxed) := by
  have h0 := Keep.refl 0x1000000400300004 s
  unfold State.dmaWrite
  exact (Keep.ite h0 (Keep.step (State.tlpOut_keep ..) h0 rfl))

theorem State.retryWaiting_keep (s : State) : Keep 0x1000001400300004 s (State.retryWaiting s) := by
  have h0 := Keep.refl 0x1000001400300004 s
  unfold State.retryWaiting
  split
  · exact h0
  · exact (Keep.step (State.issueRead_keep ..) (Keep.hif h0 _ rfl) rfl)

theorem State.retryAll_keep (s : State) : Keep 0x1000001400300004 s (State.retryAll s) := by
  have h0 := Keep.refl 0x1000001400300004 s
  unfold State.retryAll
  refine Keep.forEach ?_ (fun a2 u1 => ?_)
  · exact h0
  have h3 := Keep.refl 0x1000001400300004 u1
  exact (Keep.step (State.retryWaiting_keep ..) h3 rfl)

theorem State.setRing_keep (s : State) (g : Nat) (r : RingSt) : Keep 0x2000000000 s (State.setRing s g r) := by
  have h0 := Keep.refl 0x2000000000 s
  unfold State.setRing
  exact (Keep.rings h0 _ rfl)

theorem State.setRingState_keep (s : State) (g : Nat) (st : Nat) : Keep 0x400501004 s (State.setRingState s g st) := by
  have h0 := Keep.refl 0x400501004 s
  unfold State.setRingState
  extract_lets +onlyGivenNames x1
  generalize x1 = y2 at *
  refine Keep.ite h0 ?_
  extract_lets +onlyGivenNames x3
  generalize x3 = y4 at *
  extract_lets +onlyGivenNames x5
  generalize x5 = y6 at *
  extract_lets +onlyGivenNames x7
  refine Keep.cut (x := x7) (Keep.wr .qmg h0 rfl rfl) (fun h8 => ?_)
  generalize x7 = y9 at *
  extract_lets +onlyGivenNames x10
  refine Keep.cut (x := x10) (Keep.ite (Keep.wrFn h8 (by decide) rfl) h8) (fun h11 => ?_)
  generalize x10 = y12 at *
  exact (Keep.ite h11 (Keep.step (State.raise_keep ..) h11 rfl))

theorem State.setCons_keep (s : State) (g : Nat) (v : Nat) : Keep 0x401000 s (State.setCons s g v) := by
  have h0 := Keep.refl 0x401000 s
  unfold State.setCons
  extract_lets +onlyGivenNames x1
  refine Keep.cut (x := x1) (Keep.wr .qmg h0 rfl rfl) (fun h2 => ?_)
  generalize x1 = y3 at *
  exact (Keep.ite (Keep.wrFn h2 (by decide) rfl) h2)

theorem State.ringCount_keep (s : State) (g : Nat) (i : Nat) (n : Nat) : Keep 0x2000000000 s (State.ringCount s g i n) := by
  have h0 := Keep.refl 0x2000000000 s
  unfold State.ringCount
  extract_lets +onlyGivenNames x1
  generalize x1 = y2 at *
  exact (Keep.step (State.setRing_keep ..) h0 rfl)

theorem State.fetchEntries_keep (s : State) (g : Nat) : Keep 0x1000003400300004 s (State.fetchEntries s g) := by
  have h0 := Keep.refl 0x1000003400300004 s
  unfold State.fetchEntries
  refine Keep.ite h0 ?_
  extract_lets +onlyGivenNames x1
  generalize x1 = y2 at *
  extract_lets +onlyGivenNames x3
  generalize x3 = y4 at *
  extract_lets +onlyGivenNames x5
  generalize x5 = y6 at *
  extract_lets +onlyGivenNames x7
  generalize x7 = y8 at *
  extract_lets +onlyGivenNames x9
  generalize x9 = y10 at *
  extract_lets +onlyGivenNames x11
  generalize x11 = y12 at *
  extract_lets +onlyGivenNames x13
  refine Keep.cut (x := x13) (Keep.step (State.setRing_keep ..) h0 rfl) (fun h14 => ?_)
  generalize x13 = y15 at *
  refine Keep.forEach ?_ (fun a17 u16 => ?_)
  · exact h14
  have h18 := Keep.refl 0x1000003400300004 u16
  extract_lets +onlyGivenNames x19
  generalize x19 = y20 at *
  exact (Keep.step (State.dmaRead_keep ..) (Keep.step (State.ringCount_keep ..) h18 rfl) rfl)

theorem State.showRings_keep (s : State) : Keep 0x1000 s (State.showRings s) := by
  have h0 := Keep.refl 0x1000 s
  unfold State.showRings
  exact (Keep.wr .qmg h0 rfl rfl)

theorem State.dropRingReads_keep (s : State) (g : Nat) : Keep 0x1000000000 s (State.dropRingReads s g) := by
  have h0 := Keep.refl 0x1000000000 s
  unfold State.dropRingReads
  exact (Keep.hif h0 _ rfl)

theorem State.destroyRing_keep (s : State) (g : Nat) : Keep 0x800003400501004 s (State.destroyRing s g) := by
  have h0 := Keep.refl 0x800003400501004 s
  unfold State.destroyRing
  extract_lets +onlyGivenNames x1
  generalize x1 = y2 at *
  extract_lets +onlyGivenNames x3
  generalize x3 = y4 at *
  extract_lets +onlyGivenNames x5
  refine Keep.cut (x := x5) (Keep.ite h0 (Keep.step (State.raise_keep ..) (Keep.count .qmg h0 rfl rfl) rfl)) (fun h6 => ?_)
  generalize x5 = y7 at *
  extract_lets +onlyGivenNames x8
  refine Keep.cut (x := x8) (Keep.step (State.dropRingReads_keep ..) (Keep.step (State.setRingState_keep ..) h6 rfl) rfl) (fun h9 => ?_)
  generalize x8 = y10 at *
  extract_lets +onlyGivenNames x11
  refine Keep.cut (x := x11) (Keep.step (State.setCons_keep ..) (Keep.step (State.setRing_keep ..) h9 rfl) rfl) (fun h12 => ?_)
  generalize x11 = y13 at *
  extract_lets +onlyGivenNames x14
  generalize x14 = y15 at *
  extract_lets +onlyGivenNames x16
  generalize x16 = y17 at *
  extract_lets +onlyGivenNames x18
  extract_lets +onlyGivenNames x19
  refine Keep.cut (x := x19) (Keep.bootRest h12 rfl rfl ⟨rfl, rfl, rfl⟩ rfl) (fun h20 => ?_)
  generalize x19 = y21 at *
  exact (Keep.step (State.showRings_keep ..) (Keep.setWord .qmg (Keep.setWord .qmg h20 rfl rfl) rfl rfl) rfl)

theorem State.ringSignal_keep (s : State) (g : Nat) : Keep 0x1000002400700004 s (State.ringSignal s g) := by
  have h0 := Keep.refl 0x1000002400700004 s
  unfold State.ringSignal
  extract_lets +onlyGivenNames x1
  generalize x1 = y2 at *
  extract_lets +onlyGivenNames x3
  refine Keep.cut (x := x3) (Keep.step (State.ringCount_keep ..) (Keep.step (State.setRing_keep ..) h0 rfl) rfl) (fun h4 => ?_)
  generalize x3 = y5 at *
  exact (Keep.step (State.msixFire_keep ..) h4 rfl)

theorem State.countCompletion_keep (s : State) (g : Nat) : Keep 0x1000002400700004 s (State.countCompletion s g) := by
  have h0 := Keep.refl 0x1000002400700004 s
  unfold State.countCompletion
  extract_lets +onlyGivenNames x1
  generalize x1 = y2 at *
  refine Keep.ite h0 ?_
  extract_lets +onlyGivenNames x3
  generalize x3 = y4 at *
  extract_lets +onlyGivenNames x5
  refine Keep.cut (x := x5) (Keep.step (State.setRing_keep ..) h0 rfl) (fun h6 => ?_)
  generalize x5 = y7 at *
  exact (Keep.ite (Keep.step (State.ringSignal_keep ..) h6 rfl) h6)

theorem State.writeCompletion_keep (s : State) (g : Nat) (j : Job) (o : Nat × Nat × Nat × Nat) : Keep 0x1000002400701004 s (State.writeCompletion s g j o) := by
  have h0 := Keep.refl 0x1000002400701004 s
  unfold State.writeCompletion
  extract_lets +onlyGivenNames x1
  generalize x1 = y2 at *
  extract_lets +onlyGivenNames x3
  generalize x3 = y4 at *
  extract_lets +onlyGivenNames x5
  generalize x5 = y6 at *
  extract_lets +onlyGivenNames x7
  refine Keep.cut (x := x7) (Keep.step (State.dmaWrite_keep ..) (Keep.step (State.dmaWrite_keep ..) h0 rfl) rfl) (fun h8 => ?_)
  generalize x7 = y9 at *
  extract_lets +onlyGivenNames x10
  refine Keep.cut (x := x10) (Keep.step (State.cal_keep ..) (Keep.count .qmg (Keep.step (State.ringCount_keep ..) h8 rfl) rfl rfl) rfl) (fun h11 => ?_)
  generalize x10 = y12 at *
  exact (Keep.ite h11 (Keep.step (State.countCompletion_keep ..) h11 rfl))

theorem State.completeOrHold_keep (s : State) (g : Nat) (j : Job) (o : Nat × Nat × Nat × Nat) : Keep 0x1000002400701004 s (State.completeOrHold s g j o) := by
  have h0 := Keep.refl 0x1000002400701004 s
  unfold State.completeOrHold
  refine Keep.ite (Keep.step (State.writeCompletion_keep ..) h0 rfl) ?_
  extract_lets +onlyGivenNames x1
  generalize x1 = y2 at *
  exact (Keep.step (State.setRing_keep ..) h0 rfl)

theorem State.flushPlain_keep (s : State) (g : Nat) : Keep 0x1000002400701004 s (State.flushPlain s g) := by
  have h0 := Keep.refl 0x1000002400701004 s
  unfold State.flushPlain
  extract_lets +onlyGivenNames x1
  generalize x1 = y2 at *
  extract_lets +onlyGivenNames x3
  generalize x3 = y4 at *
  extract_lets +onlyGivenNames x5
  refine Keep.cut (x := x5) (Keep.step (State.setRing_keep ..) h0 rfl) (fun h6 => ?_)
  generalize x5 = y7 at *
  refine Keep.forEach ?_ (fun a9 u8 => ?_)
  · exact h6
  have h10 := Keep.refl 0x1000002400701004 u8
  split
  · exact (Keep.step (State.completeOrHold_keep ..) h10 rfl)
  · exact h10

theorem State.endDestroy_keep (s : State) (g : Nat) : Keep 0x1800003400701004 s (State.endDestroy s g) := by
  have h0 := Keep.refl 0x1800003400701004 s
  unfold State.endDestroy
  refine Keep.ite h0 ?_
  extract_lets +onlyGivenNames x1
  generalize x1 = y2 at *
  extract_lets +onlyGivenNames x3
  generalize x3 = y4 at *
  extract_lets +onlyGivenNames x5
  generalize x5 = y6 at *
  extract_lets +onlyGivenNames x7
  refine Keep.cut (x := x7) (Keep.step (State.destroyRing_keep ..) h0 rfl) (fun h8 => ?_)
  generalize x7 = y9 at *
  split
  · exact h8
  · extract_lets +onlyGivenNames x10
    generalize x10 = y11 at *
    split
    · exact h8
    · exact (Keep.step (State.flushPlain_keep ..) (Keep.step (State.setRing_keep ..) h8 rfl) rfl)

theorem State.flushJobs_keep (s : State) (g : Nat) : Keep 0x1800003400701004 s (State.flushJobs s g) := by
  have h0 := Keep.refl 0x1800003400701004 s
  unfold State.flushJobs
  exact (Keep.step (State.endDestroy_keep ..) (Keep.step (State.flushPlain_keep ..) h0 rfl) rfl)

theorem State.finishJob_keep (s : State) (g : Nat) (idx : Nat) (status : Nat) (detail : Nat) (len : Nat) (result : Nat) : Keep 0x1800003400701004 s (State.finishJob s g idx status detail len result) := by
  have h0 := Keep.refl 0x1800003400701004 s
  unfold State.finishJob
  extract_lets +onlyGivenNames x1
  generalize x1 = y2 at *
  exact (Keep.step (State.flushJobs_keep ..) (Keep.step (State.setRing_keep ..) h0 rfl) rfl)

theorem State.failJob_keep (s : State) (g : Nat) (idx : Nat) (detail : Nat) : Keep 0x1800003400701004 s (State.failJob s g idx detail) := by
  have h0 := Keep.refl 0x1800003400701004 s
  unfold State.failJob
  extract_lets +onlyGivenNames x1
  generalize x1 = y2 at *
  split
  · exact h0
  · exact (Keep.step (State.flushJobs_keep ..) (Keep.step (State.completeOrHold_keep ..) (Keep.step (State.setRing_keep ..) h0 rfl) rfl) rfl)

theorem State.releaseHeld_keep (s : State) (f : Nat) : Keep 0x1000002400701004 s (State.releaseHeld s f) := by
  have h0 := Keep.refl 0x1000002400701004 s
  unfold State.releaseHeld
  refine Keep.ite h0 ?_
  refine Keep.forEach ?_ (fun a2 u1 => ?_)
  · exact h0
  have h3 := Keep.refl 0x1000002400701004 u1
  extract_lets +onlyGivenNames x4
  generalize x4 = y5 at *
  refine Keep.forEach ?_ (fun a7 u6 => ?_)
  · exact (Keep.step (State.setRing_keep ..) h3 rfl)
  have h8 := Keep.refl 0x1000002400701004 u6
  split
  · exact (Keep.step (State.writeCompletion_keep ..) h8 rfl)
  · exact h8

theorem State.writeFrags_keep (s : State) (f : Nat) (relaxed : Bool) (y3 : List (Nat × Nat)) (y4 : List Byte) (hdr : Nat) : Keep 0x1000000400300004 s (State.writeFrags s f relaxed y3 y4 hdr) := by
  induction y3 generalizing s f relaxed y4 hdr
  · have h0 := Keep.refl 0x1000000400300004 s
    unfold State.writeFrags
    exact h0
  · rename_i a0 y3 ih
    have h0 := Keep.refl 0x1000000400300004 s
    unfold State.writeFrags
    refine Keep.ite h0 ?_
    extract_lets +onlyGivenNames x1
    generalize x1 = y2 at *
    extract_lets +onlyGivenNames x3
    refine Keep.cut (x := x3) (Keep.ite h0 (Keep.step (State.dmaWrite_keep ..) h0 rfl)) (fun h4 => ?_)
    generalize x3 = y5 at *
    extract_lets +onlyGivenNames x6
    generalize x6 = y7 at *
    exact (Keep.step (ih ..) (Keep.ite h4 (Keep.step (State.dmaWrite_keep ..) h4 rfl)) rfl)

theorem State.deliver_keep (s : State) (f : Nat) (n : Nat) (data : List Byte) (result : Nat) (hdr : Nat) : Keep 0x1800003400701004 s (State.deliver s f n data result hdr).1 := by
  have h0 := Keep.refl 0x1800003400701004 s
  show KeepP 0x1800003400701004 s (State.deliver s f n data result hdr)
  unfold State.deliver
  split
  · exact KeepP.mk h0
  · refine KeepP.ite ?_ ?_
    · exact KeepP.mk h0
    · split
      · exact KeepP.mk h0
      · refine KeepP.ite ?_ ?_
        · exact KeepP.mk h0
        · refine KeepP.ite ?_ ?_
          · exact KeepP.mk (Keep.step (State.finishJob_keep ..) h0 rfl)
          · extract_lets +onlyGivenNames x1
            refine KeepP.cut (x := x1) (Keep.step (State.writeFrags_keep ..) h0 rfl) (fun h2 => ?_)
            generalize x1 = y3 at *
            exact KeepP.mk (Keep.step (State.finishJob_keep ..) (Keep.step (State.ringCount_keep ..) h2 rfl) rfl)

theorem State.cutRing_keep (s : State) (g : Nat) : Keep 0x2000000000 s (State.cutRing s g) := by
  have h0 := Keep.refl 0x2000000000 s
  unfold State.cutRing
  extract_lets +onlyGivenNames x1
  generalize x1 = y2 at *
  extract_lets +onlyGivenNames x3
  generalize x3 = y4 at *
  extract_lets +onlyGivenNames x5
  generalize x5 = y6 at *
  exact (Keep.step (State.setRing_keep ..) h0 rfl)

theorem State.stopRequests_keep (s : State) (f : Nat) : Keep 0x1000000000 s (State.stopRequests s f) := by
  have h0 := Keep.refl 0x1000000000 s
  unfold State.stopRequests
  exact (Keep.hif h0 _ rfl)

theorem State.functionFault_keep (s : State) (f : Nat) (g : Nat) (code : Nat) (job : Option Job) : Keep 0x1000003400701005 s (State.functionFault s f g code job) := by
  have h0 := Keep.refl 0x1000003400701005 s
  unfold State.functionFault
  refine Keep.ite h0 ?_
  extract_lets +onlyGivenNames x1
  generalize x1 = y2 at *
  extract_lets +onlyGivenNames x3
  generalize x3 = y4 at *
  extract_lets +onlyGivenNames x5
  refine Keep.cut (x := x5) (Keep.count .qmg h0 rfl rfl) (fun h6 => ?_)
  generalize x5 = y7 at *
  extract_lets +onlyGivenNames x8
  refine Keep.cut (x := x8) ?_ (fun h9 => ?_)
  · unfold x8
    clear x8
    split
    · exact (Keep.ite h6 (Keep.step (State.writeCompletion_keep ..) h6 rfl))
    · exact h6
  generalize x8 = y10 at *
  extract_lets +onlyGivenNames x11
  refine Keep.cut (x := x11) (Keep.step (State.stopRequests_keep ..) h9 rfl) (fun h12 => ?_)
  generalize x11 = y13 at *
  extract_lets +onlyGivenNames x14
  refine Keep.cut (x := x14) ?_ (fun h15 => ?_)
  · unfold x14
    clear x14
    refine Keep.forEach ?_ (fun a17 u16 => ?_)
    · exact h12
    have h18 := Keep.refl 0x1000003400701005 u16
    exact (Keep.ite (Keep.step (State.setRingState_keep ..) (Keep.step (State.cutRing_keep ..) h18 rfl) rfl) h18)
  generalize x14 = y19 at *
  extract_lets +onlyGivenNames x20
  refine Keep.cut (x := x20) (Keep.wrFn (Keep.wrFn (Keep.wrFn (Keep.wrFn h15 (by decide) rfl) (by decide) rfl) (by decide) rfl) (by decide) rfl) (fun h21 => ?_)
  generalize x20 = y22 at *
  extract_lets +onlyGivenNames x23
  refine Keep.cut (x := x23) (Keep.wr .qmg (Keep.wr .qmg h21 rfl rfl) rfl rfl) (fun h24 => ?_)
  generalize x23 = y25 at *
  extract_lets +onlyGivenNames x26
  refine Keep.cut (x := x26) ?_ (fun h27 => ?_)
  · unfold x26
    clear x26
    split
    · exact (Keep.step (State.msixFire_keep ..) h24 rfl)
    · exact (Keep.step (State.msixFire_keep ..) h24 rfl)
  generalize x26 = y28 at *
  exact (Keep.step (State.raise_keep ..) (Keep.step (State.showReady_keep ..) (Keep.wr .hif h27 rfl rfl) rfl) rfl)

theorem State.kickRings_keep (s : State) (f : Nat) : Keep 0x1000003400701004 s (State.kickRings s f) := by
  have h0 := Keep.refl 0x1000003400701004 s
  unfold State.kickRings
  refine Keep.ite ?_ h0
  refine Keep.forEach ?_ (fun a2 u1 => ?_)
  · exact h0
  have h3 := Keep.refl 0x1000003400701004 u1
  exact (Keep.ite (Keep.step (State.fetchEntries_keep ..) (Keep.step (State.setRingState_keep ..) h3 rfl) rfl) h3)

end Sys2Proof.Machine
end

