-- ==== Sys2Proof/Laws/KeepScheduler.lean ====
section
/-!
SUPPORT. What each operation and each command of Machine/Scheduler.lean can do to the state: the zones and parts it stays within.
-/
namespace Sys2Proof.Machine

theorem State.setSchQ_keep (s : State) (q : Nat) (l : List QFrame) : Keep 0x100000000000 s (State.setSchQ s q l) := by
  have h0 := Keep.refl 0x100000000000 s
  unfold State.setSchQ
  exact (Keep.sch h0 _ rfl)

theorem State.police_keep (s : State) (q : Nat) (pre : Nat) (bits : Nat) : Keep 0x100400108004 s (State.police s q pre bits).1 := by
  have h0 := Keep.refl 0x100400108004 s
  show KeepP 0x100400108004 s (State.police s q pre bits)
  unfold State.police
  refine KeepP.ite ?_ ?_
  · exact KeepP.mk h0
  · extract_lets +onlyGivenNames x1
    generalize x1 = y2 at *
    extract_lets +onlyGivenNames x3
    generalize x3 = y4 at *
    extract_lets +onlyGivenNames x5
    generalize x5 = y6 at *
    extract_lets +onlyGivenNames x7
    generalize x7 = y8 at *
    extract_lets +onlyGivenNames x9
    generalize x9 = y10 at *
    extract_lets +onlyGivenNames x11
    refine KeepP.cut (x := x11) (Keep.sch h0 _ rfl) (fun h12 => ?_)
    generalize x11 = y13 at *
    extract_lets +onlyGivenNames x14
    refine KeepP.cut (x := x14) (Keep.ite (Keep.bump .sch h12 rfl rfl) (Keep.ite (Keep.bump .sch h12 rfl rfl) h12)) (fun h15 => ?_)
    generalize x14 = y16 at *
    refine KeepP.ite ?_ ?_
    · extract_lets +onlyGivenNames x17
      generalize x17 = y18 at *
      extract_lets +onlyGivenNames x19
      generalize x19 = y20 at *
      extract_lets +onlyGivenNames x21
      generalize x21 = y22 at *
      extract_lets +onlyGivenNames x23
      refine KeepP.cut (x := x23) (Keep.sch h15 _ rfl) (fun h24 => ?_)
      generalize x23 = y25 at *
      extract_lets +onlyGivenNames x26
      refine KeepP.cut (x := x26) (Keep.count .sch h24 rfl rfl) (fun h27 => ?_)
      generalize x26 = y28 at *
      exact KeepP.mk (Keep.ite (Keep.step (State.raise_keep ..) h27 rfl) h27)
    · exact KeepP.mk h15

theorem State.bufAlarm_keep (s : State) : Keep 0x100400100004 s (State.bufAlarm s) := by
  have h0 := Keep.refl 0x100400100004 s
  unfold State.bufAlarm
  extract_lets +onlyGivenNames x1
  exact (Keep.ite (Keep.step (State.raise_keep ..) (Keep.sch h0 _ rfl) rfl) (Keep.ite (Keep.sch h0 _ rfl) h0))

theorem State.pfcTo_keep (s : State) (key : Nat) (own : Nat) (other : Nat) : Keep 0x1000100400100004 s (State.pfcTo s key own other) := by
  have h0 := Keep.refl 0x1000100400100004 s
  unfold State.pfcTo
  extract_lets +onlyGivenNames x1
  generalize x1 = y2 at *
  extract_lets +onlyGivenNames x3
  generalize x3 = y4 at *
  extract_lets +onlyGivenNames x5
  refine Keep.cut (x := x5) (Keep.sch h0 _ rfl) (fun h6 => ?_)
  generalize x5 = y7 at *
  refine Keep.ite h6 ?_
  extract_lets +onlyGivenNames x8
  refine Keep.cut (x := x8) (Keep.step (State.out_keep ..) h6 rfl) (fun h9 => ?_)
  generalize x8 = y10 at *
  exact (Keep.ite h9 (Keep.step (State.raise_keep ..) h9 rfl))

theorem State.pfcUseTo_keep (s : State) (key : Nat) (use : Nat) : Keep 0x1000100400100004 s (State.pfcUseTo s key use) := by
  have h0 := Keep.refl 0x1000100400100004 s
  unfold State.pfcUseTo
  extract_lets +onlyGivenNames x1
  generalize x1 = y2 at *
  extract_lets +onlyGivenNames x3
  refine Keep.cut (x := x3) (Keep.sch h0 _ rfl) (fun h4 => ?_)
  generalize x3 = y5 at *
  extract_lets +onlyGivenNames x6
  generalize x6 = y7 at *
  refine Keep.ite h4 ?_
  extract_lets +onlyGivenNames x8
  exact (Keep.ite (Keep.step (State.pfcTo_keep ..) h4 rfl) (Keep.ite (Keep.step (State.pfcTo_keep ..) h4 rfl) h4))

theorem State.portUse_keep (s : State) (p : Nat) (v : Nat) : Keep 0x8000 s (State.portUse s p v) := by
  have h0 := Keep.refl 0x8000 s
  unfold State.portUse
  exact (Keep.ite h0 (Keep.wr .sch h0 rfl rfl))

theorem State.addCells_keep (s : State) (q : Nat) (pfc : Nat) (n : Nat) : Keep 0x1000100400108004 s (State.addCells s q pfc n) := by
  have h0 := Keep.refl 0x1000100400108004 s
  unfold State.addCells
  extract_lets +onlyGivenNames x1
  refine Keep.cut (x := x1) (Keep.wr .sch (Keep.step (State.portUse_keep ..) (Keep.wr .sch h0 rfl rfl) rfl) rfl rfl) (fun h2 => ?_)
  generalize x1 = y3 at *
  extract_lets +onlyGivenNames x4
  refine Keep.cut (x := x4) (Keep.ite h2 (Keep.step (State.pfcUseTo_keep ..) h2 rfl)) (fun h5 => ?_)
  generalize x4 = y6 at *
  exact (Keep.step (State.bufAlarm_keep ..) h5 rfl)

theorem State.freeCells_keep (s : State) (q : Nat) (pfc : Nat) (n : Nat) : Keep 0x1000100400108004 s (State.freeCells s q pfc n) := by
  have h0 := Keep.refl 0x1000100400108004 s
  unfold State.freeCells
  extract_lets +onlyGivenNames x1
  refine Keep.cut (x := x1) (Keep.wr .sch (Keep.step (State.portUse_keep ..) (Keep.wr .sch h0 rfl rfl) rfl) rfl rfl) (fun h2 => ?_)
  generalize x1 = y3 at *
  extract_lets +onlyGivenNames x4
  refine Keep.cut (x := x4) (Keep.ite h2 (Keep.step (State.pfcUseTo_keep ..) h2 rfl)) (fun h5 => ?_)
  generalize x4 = y6 at *
  exact (Keep.step (State.bufAlarm_keep ..) h5 rfl)

theorem State.schEnqueue_keep (s : State) (q : Nat) (f : QFrame) : Keep 0x1000100400108004 s (State.schEnqueue s q f).1 := by
  have h0 := Keep.refl 0x1000100400108004 s
  show KeepP 0x1000100400108004 s (State.schEnqueue s q f)
  unfold State.schEnqueue
  refine KeepP.ite ?_ ?_
  · exact KeepP.mk h0
  · refine KeepP.ite ?_ ?_
    · exact KeepP.mk (Keep.step (State.raise_keep ..) (Keep.bump .sch (Keep.count .sch h0 rfl rfl) rfl rfl) rfl)
    · split
      · refine KeepP.mk ?_
        rename_i q1
        refine Keep.ofPair q1 ?_
        exact (Keep.step (State.police_keep ..) h0 rfl)
      · extract_lets +onlyGivenNames x2
        generalize x2 = y3 at *
        refine KeepP.ite ?_ ?_
        · extract_lets +onlyGivenNames x4
          refine KeepP.cut (x := x4) ?_ (fun h5 => ?_)
          · unfold x4
            clear x4
            refine Keep.step (State.cal_keep ..) ?_ rfl
            refine Keep.bump .sch ?_ rfl rfl
            refine Keep.count .sch ?_ rfl rfl
            rename_i q6
            refine Keep.ofPair q6 ?_
            exact (Keep.step (State.police_keep ..) h0 rfl)
          generalize x4 = y7 at *
          exact KeepP.mk (Keep.step (State.raise_keep ..) h5 rfl)
        · extract_lets +onlyGivenNames x8
          generalize x8 = y9 at *
          extract_lets +onlyGivenNames x10
          refine KeepP.cut (x := x10) ?_ (fun h11 => ?_)
          · unfold x10
            clear x10
            refine Keep.step (State.addCells_keep ..) ?_ rfl
            refine Keep.step (State.setSchQ_keep ..) ?_ rfl
            rename_i q12
            refine Keep.ofPair q12 ?_
            exact (Keep.step (State.police_keep ..) h0 rfl)
          generalize x10 = y13 at *
          exact KeepP.mk (Keep.step (State.cal_keep ..) (Keep.count .sch h11 rfl rfl) rfl)

theorem State.refillAll_keep (s : State) : Keep 0x100000000000 s (State.refillAll s) := by
  have h0 := Keep.refl 0x100000000000 s
  unfold State.refillAll
  extract_lets +onlyGivenNames x1
  generalize x1 = y2 at *
  extract_lets +onlyGivenNames x3
  generalize x3 = y4 at *
  extract_lets +onlyGivenNames x5
  generalize x5 = y6 at *
  extract_lets +onlyGivenNames x7
  refine Keep.cut (x := x7) ?_ (fun h8 => ?_)
  · unfold x7
    clear x7
    refine Keep.forEach ?_ (fun a10 u9 => ?_)
    · exact h0
    have h11 := Keep.refl 0x100000000000 u9
    extract_lets +onlyGivenNames x12
    generalize x12 = y13 at *
    extract_lets +onlyGivenNames x14
    generalize x14 = y15 at *
    extract_lets +onlyGivenNames x16
    refine Keep.cut (x := x16) (Keep.sch h11 _ rfl) (fun h17 => ?_)
    generalize x16 = y18 at *
    refine Keep.forEach ?_ (fun a20 u19 => ?_)
    · exact h17
    have h21 := Keep.refl 0x100000000000 u19
    extract_lets +onlyGivenNames x22
    generalize x22 = y23 at *
    exact (Keep.sch h21 _ rfl)
  generalize x7 = y24 at *
  extract_lets +onlyGivenNames x25
  refine Keep.cut (x := x25) ?_ (fun h26 => ?_)
  · unfold x25
    clear x25
    refine Keep.forEach ?_ (fun a28 u27 => ?_)
    · exact h8
    have h29 := Keep.refl 0x100000000000 u27
    extract_lets +onlyGivenNames x30
    generalize x30 = y31 at *
    exact (Keep.sch h29 _ rfl)
  generalize x25 = y32 at *
  refine Keep.forEach ?_ (fun a34 u33 => ?_)
  · exact h26
  have h35 := Keep.refl 0x100000000000 u33
  extract_lets +onlyGivenNames x36
  generalize x36 = y37 at *
  exact (Keep.sch h35 _ rfl)

theorem State.pickQueue_keep (s : State) (n : Nat) (c : Nat) : Keep 0x100000000000 s (State.pickQueue s n c).1 := by
  have h0 := Keep.refl 0x100000000000 s
  show KeepP 0x100000000000 s (State.pickQueue s n c)
  unfold State.pickQueue
  extract_lets +onlyGivenNames x1
  generalize x1 = y2 at *
  exact KeepP.mk (Keep.sch h0 _ rfl)

theorem State.pickClass_keep (s : State) (n : Nat) : Keep 0x100000000000 s (State.pickClass s n).1 := by
  have h0 := Keep.refl 0x100000000000 s
  show KeepP 0x100000000000 s (State.pickClass s n)
  unfold State.pickClass
  extract_lets +onlyGivenNames x1
  generalize x1 = y2 at *
  split
  · exact KeepP.mk h0
  · refine KeepP.ite ?_ ?_
    · exact KeepP.mk h0
    · extract_lets +onlyGivenNames x3
      generalize x3 = y4 at *
      extract_lets +onlyGivenNames x5
      generalize x5 = y6 at *
      extract_lets +onlyGivenNames x7
      generalize x7 = y8 at *
      exact KeepP.mk (Keep.sch h0 _ rfl)

theorem State.popQueue_keep (s : State) (q : Nat) : Keep 0x100000000000 s (State.popQueue s q).1 := by
  have h0 := Keep.refl 0x100000000000 s
  show KeepP 0x100000000000 s (State.popQueue s q)
  unfold State.popQueue
  split
  · exact KeepP.mk h0
  · extract_lets +onlyGivenNames x1
    refine KeepP.cut (x := x1) (Keep.step (State.setSchQ_keep ..) h0 rfl) (fun h2 => ?_)
    generalize x1 = y3 at *
    exact KeepP.mk (Keep.ite (Keep.sch h2 _ rfl) h2)

theorem State.chargeShapers_keep (s : State) (q : Nat) (b : List Byte) : Keep 0x100000000000 s (State.chargeShapers s q b) := by
  have h0 := Keep.refl 0x100000000000 s
  unfold State.chargeShapers
  extract_lets +onlyGivenNames x1
  generalize x1 = y2 at *
  extract_lets +onlyGivenNames x3
  generalize x3 = y4 at *
  extract_lets +onlyGivenNames x5
  generalize x5 = y6 at *
  extract_lets +onlyGivenNames x7
  generalize x7 = y8 at *
  extract_lets +onlyGivenNames x9
  generalize x9 = y10 at *
  extract_lets +onlyGivenNames x11
  generalize x11 = y12 at *
  exact (Keep.sch h0 _ rfl)

theorem State.schSelect_keep (s : State) (n : Nat) : Keep 0x1000100400108004 s (State.schSelect s n).1 := by
  have h0 := Keep.refl 0x1000100400108004 s
  show KeepP 0x1000100400108004 s (State.schSelect s n)
  unfold State.schSelect
  refine KeepP.ite ?_ ?_
  · exact KeepP.mk h0
  · split
    · refine KeepP.mk ?_
      rename_i q1
      refine Keep.ofPair q1 ?_
      exact (Keep.step (State.pickClass_keep ..) h0 rfl)
    · extract_lets +onlyGivenNames x2
      refine KeepP.cutP (x := x2) ?_ (fun h3 => ?_)
      · unfold x2
        clear x2
        refine KeepP.of (Keep.step (State.pickQueue_keep ..) ?_ rfl)
        rename_i q4
        refine Keep.ofPair q4 ?_
        exact (Keep.step (State.pickClass_keep ..) h0 rfl)
      generalize x2 = y5 at *
      split
      · refine KeepP.mk ?_
        rename_i q6
        refine Keep.ofPair q6 ?_
        exact (Keep.step (State.popQueue_keep ..) h3 rfl)
      · extract_lets +onlyGivenNames x7
        refine KeepP.cut (x := x7) ?_ (fun h8 => ?_)
        · unfold x7
          clear x7
          refine Keep.count .sch ?_ rfl rfl
          refine Keep.step (State.chargeShapers_keep ..) ?_ rfl
          rename_i q9
          refine Keep.ofPair q9 ?_
          exact (Keep.step (State.popQueue_keep ..) h3 rfl)
        generalize x7 = y10 at *
        exact KeepP.mk (Keep.step (State.cal_keep ..) h8 rfl)

theorem State.headDrop_keep (s : State) (q : Nat) (f : QFrame) (noRing : Bool) : Keep 0x1000100400108004 s (State.headDrop s q f noRing) := by
  have h0 := Keep.refl 0x1000100400108004 s
  unfold State.headDrop
  extract_lets +onlyGivenNames x1
  refine Keep.cut (x := x1) (Keep.bump .sch (Keep.count .sch h0 rfl rfl) rfl rfl) (fun h2 => ?_)
  generalize x1 = y3 at *
  exact (Keep.step (State.freeCells_keep ..) (Keep.step (State.raise_keep ..) h2 rfl) rfl)

theorem State.hostBoundary_keep (s : State) : Keep 0x1800103400709004 s (State.hostBoundary s) := by
  have h0 := Keep.refl 0x1800103400709004 s
  unfold State.hostBoundary
  split
  · rename_i q1
    refine Keep.ofPair q1 ?_
    exact (Keep.step (State.schSelect_keep ..) h0 rfl)
  · split
    · refine Keep.step (State.headDrop_keep ..) ?_ rfl
      rename_i q2 _ _
      refine Keep.ofPair q2 ?_
      exact (Keep.step (State.schSelect_keep ..) h0 rfl)
    · refine Keep.ite ?_ ?_
      · refine Keep.step (State.headDrop_keep ..) ?_ rfl
        rename_i q3 _ _ _
        refine Keep.ofPair q3 ?_
        exact (Keep.step (State.schSelect_keep ..) h0 rfl)
      · extract_lets +onlyGivenNames x4
        refine Keep.cutP (x := x4) ?_ (fun h5 => ?_)
        · unfold x4
          clear x4
          refine KeepP.of (Keep.step (State.deliver_keep ..) ?_ rfl)
          rename_i q6 _ _ _
          refine Keep.ofPair q6 ?_
          exact (Keep.step (State.schSelect_keep ..) h0 rfl)
        generalize x4 = y7 at *
        exact (Keep.step (State.freeCells_keep ..) h5 rfl)

end Sys2Proof.Machine
end

