-- ==== Sys2Proof/Laws/KeepTables.lean ====
section
/-!
SUPPORT. What each operation and each command of Machine/Tables.lean can do to the state: the zones and parts it stays within.
-/
namespace Sys2Proof.Machine

theorem State.setWinNat_keep (s : State) (w : Nat) (shadow : Bool) (word : Nat) (y4 : Nat) (y5 : Nat) : Keep 0x6000000 s (State.setWinNat s w shadow word y4 y5) := by
  induction y4 generalizing s w shadow word y5
  · have h0 := Keep.refl 0x6000000 s
    unfold State.setWinNat
    exact h0
  · rename_i y4 ih
    have h0 := Keep.refl 0x6000000 s
    unfold State.setWinNat
    exact (Keep.step (ih ..) (Keep.step (State.setWinWord_keep ..) h0 rfl) rfl)

theorem State.touchWindow_keep (s : State) (w : Nat) : Keep 0x8000000 s (State.touchWindow s w) := by
  have h0 := Keep.refl 0x8000000 s
  unfold State.touchWindow
  extract_lets +onlyGivenNames x1
  generalize x1 = y2 at *
  exact (Keep.ite (Keep.winWr h0 _ rfl) h0)

theorem State.swapWindow_keep (s : State) (w : Nat) : Keep 0xe000000 s (State.swapWindow s w) := by
  have h0 := Keep.refl 0xe000000 s
  unfold State.swapWindow
  exact (Keep.step (State.touchWindow_keep ..) (Keep.step (State.swapBanks_keep ..) h0 rfl) rfl)

theorem State.touchEntry_keep (s : State) (w : Nat) (e : Nat) (shadow : Bool) : Keep 0x8000000 s (State.touchEntry s w e shadow) := by
  have h0 := Keep.refl 0x8000000 s
  unfold State.touchEntry
  extract_lets +onlyGivenNames x1
  generalize x1 = y2 at *
  exact (Keep.ite (Keep.winWr h0 _ rfl) h0)

theorem State.fwtStore_keep (s : State) (t : Nat) (shadow : Bool) (i : Nat) (v : Nat) : Keep 0xe000040 s (State.fwtStore s t shadow i v) := by
  have h0 := Keep.refl 0xe000040 s
  unfold State.fwtStore
  extract_lets +onlyGivenNames x1
  generalize x1 = y2 at *
  extract_lets +onlyGivenNames x3
  refine Keep.cut (x := x3) (Keep.step (State.touchEntry_keep ..) (Keep.step (State.setWinNat_keep ..) h0 rfl) rfl) (fun h4 => ?_)
  generalize x3 = y5 at *
  exact (Keep.ite h4 (Keep.wr .fwt h4 rfl rfl))

theorem State.fwtApply_keep (s : State) (t : Nat) (shadow : Bool) (i : Nat) (v : Nat) : Keep 0xe000040 s (State.fwtApply s t shadow i v) := by
  have h0 := Keep.refl 0xe000040 s
  unfold State.fwtApply
  extract_lets +onlyGivenNames x1
  generalize x1 = y2 at *
  exact (Keep.wr .fwt (Keep.step (State.fwtStore_keep ..) h0 rfl) rfl rfl)

theorem State.fwtClear_keep (s : State) (t : Nat) (shadow : Bool) (i : Nat) : Keep 0xe000040 s (State.fwtClear s t shadow i) := by
  have h0 := Keep.refl 0xe000040 s
  unfold State.fwtClear
  exact (Keep.step (State.fwtStore_keep ..) h0 rfl)

theorem State.showPerr_keep (s : State) : Keep 0x40 s (State.showPerr s) := by
  have h0 := Keep.refl 0x40 s
  unfold State.showPerr
  split
  · exact (Keep.setWord .fwt h0 rfl rfl)
  · exact (Keep.wr .fwt (Keep.wr .fwt (Keep.wr .fwt (Keep.wr .fwt h0 rfl rfl) rfl rfl) rfl rfl) rfl rfl)

theorem State.fwtParity_keep (s : State) (t : Nat) (shadow : Bool) (i : Nat) : Keep 0x100008040e100044 s (State.fwtParity s t shadow i) := by
  have h0 := Keep.refl 0x100008040e100044 s
  unfold State.fwtParity
  extract_lets +onlyGivenNames x1
  refine Keep.cut (x := x1) (Keep.step (State.cal_keep ..) (Keep.count .fwt (Keep.step (State.fwtClear_keep ..) h0 rfl) rfl rfl) rfl) (fun h2 => ?_)
  generalize x1 = y3 at *
  extract_lets +onlyGivenNames x4
  generalize x4 = y5 at *
  extract_lets +onlyGivenNames x6
  refine Keep.cut (x := x6) (Keep.ite (Keep.bump .fwt h2 rfl rfl) (Keep.step (State.showPerr_keep ..) (Keep.fwt h2 _ rfl) rfl)) (fun h7 => ?_)
  generalize x6 = y8 at *
  exact (Keep.step (State.raise_keep ..) h7 rfl)

theorem State.fwtScrub_keep (s : State) (t : Nat) (shadow : Bool) (l : List Nat) : Keep 0x100008040e100044 s (State.fwtScrub s t shadow l).1 := by
  have h0 := Keep.refl 0x100008040e100044 s
  show KeepP 0x100008040e100044 s (State.fwtScrub s t shadow l)
  unfold State.fwtScrub
  extract_lets +onlyGivenNames x1
  generalize x1 = y2 at *
  refine KeepP.mk ?_
  refine Keep.forEach ?_ (fun a4 u3 => ?_)
  · exact h0
  have h5 := Keep.refl 0x100008040e100044 u3
  exact (Keep.step (State.fwtParity_keep ..) h5 rfl)

theorem State.fwtLookup_keep (s : State) (t : Nat) (shadow : Bool) (k : Nat) : Keep 0x100008040e100044 s (State.fwtLookup s t shadow k).1 := by
  have h0 := Keep.refl 0x100008040e100044 s
  show KeepP 0x100008040e100044 s (State.fwtLookup s t shadow k)
  unfold State.fwtLookup
  extract_lets +onlyGivenNames x1
  refine KeepP.cutP (x := x1) ?_ (fun h2 => ?_)
  · unfold x1
    clear x1
    exact KeepP.of (Keep.step (State.fwtScrub_keep ..) h0 rfl)
  generalize x1 = y3 at *
  exact KeepP.mk h2

theorem State.fwtParityIf_keep (s : State) (t : Nat) (shadow : Bool) (i : Nat) : Keep 0x100008040e100044 s (State.fwtParityIf s t shadow i) := by
  have h0 := Keep.refl 0x100008040e100044 s
  unfold State.fwtParityIf
  exact (Keep.ite h0 (Keep.step (State.fwtParity_keep ..) h0 rfl))

theorem State.moveChain_keep (s : State) (t : Nat) (shadow : Bool) (y3 : List Nat) : Keep 0x100008040e100044 s (State.moveChain s t shadow y3) := by
  induction y3 generalizing s t shadow with
  | nil => exact Keep.refl _ s
  | cons dst l ih =>
    cases l with
    | nil => exact Keep.refl _ s
    | cons src rest =>
      have h0 := Keep.refl 0x100008040e100044 s
      unfold State.moveChain
      exact Keep.step (ih ..) (Keep.step (State.cal_keep ..) (Keep.count .fwt (Keep.step (State.fwtClear_keep ..) (Keep.step
        (State.fwtApply_keep ..) (Keep.step (State.fwtParityIf_keep ..) h0 rfl) rfl) rfl) rfl rfl) rfl) rfl

theorem State.fwtPlace_keep (s : State) (t : Nat) (shadow : Bool) (v : Nat) : Keep 0x500008040e100044 s (State.fwtPlace s t shadow v).1 := by
  have h0 := Keep.refl 0x500008040e100044 s
  show KeepP 0x500008040e100044 s (State.fwtPlace s t shadow v)
  unfold State.fwtPlace
  extract_lets +onlyGivenNames x1
  generalize x1 = y2 at *
  extract_lets +onlyGivenNames x3
  refine KeepP.cut (x := x3) (Keep.step (State.fwtScrub_keep ..) h0 rfl) (fun h4 => ?_)
  generalize x3 = y5 at *
  extract_lets +onlyGivenNames x6
  generalize x6 = y7 at *
  extract_lets +onlyGivenNames x8
  generalize x8 = y9 at *
  extract_lets +onlyGivenNames x10
  refine KeepP.cut (x := x10) (Keep.step (State.draw_keep ..) h4 rfl) (fun h11 => ?_)
  generalize x10 = y12 at *
  refine KeepP.ite ?_ ?_
  · extract_lets +onlyGivenNames x13
    generalize x13 = y14 at *
    exact KeepP.mk (Keep.step (State.fwtApply_keep ..) h11 rfl)
  · extract_lets +onlyGivenNames x15
    generalize x15 = y16 at *
    refine KeepP.ite ?_ ?_
    · exact KeepP.mk h11
    · extract_lets +onlyGivenNames x17
      generalize x17 = y18 at *
      extract_lets +onlyGivenNames x19
      generalize x19 = y20 at *
      extract_lets +onlyGivenNames x21
      refine KeepP.cut (x := x21) (Keep.step (State.moveChain_keep ..) h11 rfl) (fun h22 => ?_)
      generalize x21 = y23 at *
      extract_lets +onlyGivenNames x24
      generalize x24 = y25 at *
      exact KeepP.mk (Keep.step (State.fwtApply_keep ..) h22 rfl)

theorem State.fwtPutIn_keep (s : State) (t : Nat) (shadow : Bool) (v : Nat) : Keep 0x500008040e100044 s (State.fwtPutIn s t shadow v).1 := by
  have h0 := Keep.refl 0x500008040e100044 s
  show KeepP 0x500008040e100044 s (State.fwtPutIn s t shadow v)
  unfold State.fwtPutIn
  extract_lets +onlyGivenNames x1
  refine KeepP.cutP (x := x1) ?_ (fun h2 => ?_)
  · unfold x1
    clear x1
    exact KeepP.of (Keep.step (State.fwtLookup_keep ..) h0 rfl)
  generalize x1 = y3 at *
  split
  · exact KeepP.mk (Keep.step (State.fwtApply_keep ..) h2 rfl)
  · split
    · refine KeepP.mk ?_
      refine Keep.count .fwt ?_ rfl rfl
      rename_i q4
      refine Keep.ofPair q4 ?_
      exact (Keep.step (State.fwtPlace_keep ..) h2 rfl)
    · extract_lets +onlyGivenNames x5
      refine KeepP.cut (x := x5) ?_ (fun h6 => ?_)
      · unfold x5
        clear x5
        refine Keep.step (State.raise_keep ..) ?_ rfl
        refine Keep.wr .fwt ?_ rfl rfl
        refine Keep.count .fwt ?_ rfl rfl
        rename_i q7
        refine Keep.ofPair q7 ?_
        exact (Keep.step (State.fwtPlace_keep ..) h2 rfl)
      generalize x5 = y8 at *
      exact KeepP.mk (Keep.ite (Keep.wr .fwt h6 rfl rfl) h6)

theorem State.fwtPut_keep (s : State) (t : Nat) (shadow : Bool) (v : Nat) : Keep 0x500008040e100044 s (State.fwtPut s t shadow v).1 := by
  have h0 := Keep.refl 0x500008040e100044 s
  show KeepP 0x500008040e100044 s (State.fwtPut s t shadow v)
  unfold State.fwtPut
  extract_lets +onlyGivenNames x1
  refine KeepP.cutP (x := x1) ?_ (fun h2 => ?_)
  · unfold x1
    clear x1
    exact KeepP.of (Keep.step (State.fwtPutIn_keep ..) h0 rfl)
  generalize x1 = y3 at *
  refine KeepP.mk ?_
  refine Keep.ite ?_ h2
  refine Keep.forEach ?_ (fun a5 u4 => ?_)
  · exact h2
  have h6 := Keep.refl 0x500008040e100044 u4
  exact (Keep.step (State.fwtPutIn_keep ..) h6 rfl)

theorem State.fwtMirrorPut_keep (s : State) (t : Nat) (v : Nat) : Keep 0x500008040e100044 s (State.fwtMirrorPut s t v) := by
  have h0 := Keep.refl 0x500008040e100044 s
  unfold State.fwtMirrorPut
  exact (Keep.ite (Keep.step (State.fwtPut_keep ..) h0 rfl) h0)

theorem State.fwtDelete_keep (s : State) (t : Nat) (shadow : Bool) (k : Nat) : Keep 0x100008040e100044 s (State.fwtDelete s t shadow k).1 := by
  have h0 := Keep.refl 0x100008040e100044 s
  show KeepP 0x100008040e100044 s (State.fwtDelete s t shadow k)
  unfold State.fwtDelete
  extract_lets +onlyGivenNames x1
  refine KeepP.cutP (x := x1) ?_ (fun h2 => ?_)
  · unfold x1
    clear x1
    exact KeepP.of (Keep.step (State.fwtLookup_keep ..) h0 rfl)
  generalize x1 = y3 at *
  split
  · exact KeepP.mk (Keep.count .fwt (Keep.step (State.fwtClear_keep ..) h2 rfl) rfl rfl)
  · exact KeepP.mk h2

theorem State.fwtMirrorDelete_keep (s : State) (t : Nat) (k : Nat) : Keep 0x100008040e100044 s (State.fwtMirrorDelete s t k) := by
  have h0 := Keep.refl 0x100008040e100044 s
  unfold State.fwtMirrorDelete
  exact (Keep.ite (Keep.step (State.fwtDelete_keep ..) h0 rfl) h0)

theorem State.l2Forward_keep (s : State) (ingress : Nat) (vid : Nat) (cls : Nat) (dst : Nat) : Keep 0x100008040e100044 s (State.l2Forward s ingress vid cls dst).1 := by
  have h0 := Keep.refl 0x100008040e100044 s
  show KeepP 0x100008040e100044 s (State.l2Forward s ingress vid cls dst)
  unfold State.l2Forward
  extract_lets +onlyGivenNames x1
  generalize x1 = y2 at *
  extract_lets +onlyGivenNames x3
  generalize x3 = y4 at *
  refine KeepP.ite ?_ ?_
  · exact KeepP.mk (Keep.count .fwt h0 rfl rfl)
  · split
    · extract_lets +onlyGivenNames x5
      generalize x5 = y6 at *
      extract_lets +onlyGivenNames x7
      refine KeepP.cut (x := x7) ?_ (fun h8 => ?_)
      · unfold x7
        clear x7
        refine Keep.ite ?_ ?_
        · rename_i q9
          refine Keep.ofPair q9 ?_
          exact (Keep.step (State.fwtLookup_keep ..) h0 rfl)
        · refine Keep.step (State.fwtStore_keep ..) ?_ rfl
          rename_i q10
          refine Keep.ofPair q10 ?_
          exact (Keep.step (State.fwtLookup_keep ..) h0 rfl)
      generalize x7 = y11 at *
      refine KeepP.ite ?_ ?_
      · extract_lets +onlyGivenNames x12
        generalize x12 = y13 at *
        refine KeepP.ite ?_ ?_
        · exact KeepP.mk (Keep.count .fwt h8 rfl rfl)
        · refine KeepP.ite ?_ ?_
          · exact KeepP.mk (Keep.count .fwt h8 rfl rfl)
          · exact KeepP.mk h8
      · refine KeepP.ite ?_ ?_
        · exact KeepP.mk h8
        · exact KeepP.mk h8
    · extract_lets +onlyGivenNames x14
      refine KeepP.cut (x := x14) ?_ (fun h15 => ?_)
      · unfold x14
        clear x14
        refine Keep.count .fwt ?_ rfl rfl
        rename_i q16
        refine Keep.ofPair q16 ?_
        exact (Keep.step (State.fwtLookup_keep ..) h0 rfl)
      generalize x14 = y17 at *
      extract_lets +onlyGivenNames x18
      generalize x18 = y19 at *
      exact KeepP.mk h15

theorem State.learn_keep (s : State) (ingress : Nat) (vid : Nat) (src : Nat) : Keep 0x1000080400100044 s (State.learn s ingress vid src) := by
  have h0 := Keep.refl 0x1000080400100044 s
  unfold State.learn
  extract_lets +onlyGivenNames x1
  generalize x1 = y2 at *
  refine Keep.ite ?_ h0
  extract_lets +onlyGivenNames x3
  refine Keep.cut (x := x3) (Keep.step (State.cal_keep ..) h0 rfl) (fun h4 => ?_)
  generalize x3 = y5 at *
  exact (Keep.ite (Keep.step (State.raise_keep ..) (Keep.count .fwt h4 rfl rfl) rfl) (Keep.fwt h4 _ rfl))

theorem State.learnOne_keep (s : State) (r : LearnReq) : Keep 0x500008040e100044 s (State.learnOne s r) := by
  have h0 := Keep.refl 0x500008040e100044 s
  unfold State.learnOne
  extract_lets +onlyGivenNames x1
  refine Keep.cutP (x := x1) ?_ (fun h2 => ?_)
  · unfold x1
    clear x1
    exact KeepP.of (Keep.step (State.fwtLookup_keep ..) h0 rfl)
  generalize x1 = y3 at *
  extract_lets +onlyGivenNames x4
  refine Keep.cut (x := x4) h2 (fun h5 => ?_)
  generalize x4 = y6 at *
  split
  · extract_lets +onlyGivenNames x7
    generalize x7 = y8 at *
    extract_lets +onlyGivenNames x9
    generalize x9 = y10 at *
    refine Keep.ite (Keep.ite h5 (Keep.step (State.raise_keep ..) (Keep.count .fwt h5 rfl rfl) rfl)) ?_
    refine Keep.ite ?_ ?_
    · extract_lets +onlyGivenNames x11
      generalize x11 = y12 at *
      exact (Keep.step (State.fwtMirrorPut_keep ..) (Keep.step (State.fwtApply_keep ..) h5 rfl) rfl)
    · extract_lets +onlyGivenNames x13
      generalize x13 = y14 at *
      exact (Keep.step (State.raise_keep ..) (Keep.count .fwt (Keep.step (State.fwtMirrorPut_keep ..) (Keep.step (State.fwtApply_keep ..) h5 rfl) rfl) rfl rfl) rfl)
  · extract_lets +onlyGivenNames x15
    generalize x15 = y16 at *
    split
    · refine Keep.step (State.fwtMirrorPut_keep ..) ?_ rfl
      refine Keep.count .fwt ?_ rfl rfl
      rename_i q17
      refine Keep.ofPair q17 ?_
      exact (Keep.step (State.fwtPut_keep ..) h5 rfl)
    · rename_i q18
      refine Keep.ofPair q18 ?_
      exact (Keep.step (State.fwtPut_keep ..) h5 rfl)

theorem State.cmdResult_keep (s : State) (t : Nat) (r : Nat) (i : Nat) : Keep 0x40 s (State.cmdResult s t r i) := by
  have h0 := Keep.refl 0x40 s
  unfold State.cmdResult
  exact (Keep.wr .fwt (Keep.wr .fwt h0 rfl rfl) rfl rfl)

theorem State.fwtInsert_keep (s : State) (t : Nat) (bank : Nat) (v : Nat) : Keep 0x500008040e100044 s (State.fwtInsert s t bank v) := by
  have h0 := Keep.refl 0x500008040e100044 s
  unfold State.fwtInsert
  refine Keep.ite (Keep.step (State.cmdResult_keep ..) h0 rfl) ?_
  split
  · refine Keep.step (State.cmdResult_keep ..) ?_ rfl
    refine Keep.ite ?_ ?_
    · refine Keep.step (State.fwtMirrorPut_keep ..) ?_ rfl
      rename_i q1
      refine Keep.ofPair q1 ?_
      exact (Keep.step (State.fwtPut_keep ..) h0 rfl)
    · rename_i q2
      refine Keep.ofPair q2 ?_
      exact (Keep.step (State.fwtPut_keep ..) h0 rfl)
  · refine Keep.step (State.cmdResult_keep ..) ?_ rfl
    rename_i q3
    refine Keep.ofPair q3 ?_
    exact (Keep.step (State.fwtPut_keep ..) h0 rfl)

theorem State.fwtRemove_keep (s : State) (t : Nat) (bank : Nat) (v : Nat) : Keep 0x100008040e100044 s (State.fwtRemove s t bank v) := by
  have h0 := Keep.refl 0x100008040e100044 s
  unfold State.fwtRemove
  extract_lets +onlyGivenNames x1
  generalize x1 = y2 at *
  split
  · refine Keep.step (State.cmdResult_keep ..) ?_ rfl
    refine Keep.ite ?_ ?_
    · refine Keep.step (State.fwtMirrorDelete_keep ..) ?_ rfl
      rename_i q3
      refine Keep.ofPair q3 ?_
      exact (Keep.step (State.fwtDelete_keep ..) h0 rfl)
    · rename_i q4
      refine Keep.ofPair q4 ?_
      exact (Keep.step (State.fwtDelete_keep ..) h0 rfl)
  · refine Keep.step (State.cmdResult_keep ..) ?_ rfl
    rename_i q5
    refine Keep.ofPair q5 ?_
    exact (Keep.step (State.fwtDelete_keep ..) h0 rfl)

theorem State.fwtCopyBack_keep (s : State) (t : Nat) (bank : Nat) (v : Nat) : Keep 0x100008040e100044 s (State.fwtCopyBack s t bank v) := by
  have h0 := Keep.refl 0x100008040e100044 s
  unfold State.fwtCopyBack
  split
  · extract_lets +onlyGivenNames x1
    generalize x1 = y2 at *
    refine Keep.step (State.cmdResult_keep ..) ?_ rfl
    refine Keep.forEach ?_ (fun a4 u3 => ?_)
    · rename_i q5
      refine Keep.ofPair q5 ?_
      exact (Keep.step (State.fwtLookup_keep ..) h0 rfl)
    have h6 := Keep.refl 0x100008040e100044 u3
    exact (Keep.wr .fwt h6 rfl rfl)
  · refine Keep.step (State.cmdResult_keep ..) ?_ rfl
    rename_i q7
    refine Keep.ofPair q7 ?_
    exact (Keep.step (State.fwtLookup_keep ..) h0 rfl)

theorem State.fwtRun_keep (s : State) (t : Nat) (op : Nat) (bank : Nat) (v : Nat) : Keep 0x500008040e100044 s (State.fwtRun s t op bank v) := by
  have h0 := Keep.refl 0x500008040e100044 s
  unfold State.fwtRun
  refine Keep.ite (Keep.step (State.cmdResult_keep ..) h0 rfl) ?_
  split
  · exact (Keep.step (State.fwtInsert_keep ..) h0 rfl)
  · exact (Keep.step (State.fwtRemove_keep ..) h0 rfl)
  · exact (Keep.step (State.fwtCopyBack_keep ..) h0 rfl)

theorem State.fwtCmd_keep (s : State) (t : Nat) (op : Nat) (bank : Nat) : Keep 0x500008040e100045 s (State.fwtCmd s t op bank) := by
  have h0 := Keep.refl 0x500008040e100045 s
  unfold State.fwtCmd
  exact (Keep.ite h0 (Keep.ite (Keep.step (State.bad_keep ..) h0 rfl) (Keep.ite (Keep.wr .fwt (Keep.fwt h0 _ rfl) rfl rfl) (Keep.step (State.fwtRun_keep ..) h0 rfl))))

theorem State.cmdTurn_keep (s : State) : Keep 0x500008040e100044 s (State.cmdTurn s) := by
  have h0 := Keep.refl 0x500008040e100044 s
  unfold State.cmdTurn
  split
  · exact h0
  · exact (Keep.ite (Keep.fwt h0 _ rfl) (Keep.step (State.fwtRun_keep ..) (Keep.wr .fwt (Keep.fwt h0 _ rfl) rfl rfl) rfl))

theorem State.learnNext_keep (s : State) : Keep 0x500008040e100044 s (State.learnNext s) := by
  have h0 := Keep.refl 0x500008040e100044 s
  unfold State.learnNext
  split
  · exact h0
  · exact (Keep.step (State.cmdTurn_keep ..) (Keep.step (State.learnOne_keep ..) (Keep.fwt h0 _ rfl) rfl) rfl)

theorem execLearnRequest_gives (s : State) : Gives 0x500008040e100044 s (execLearnRequest s) := by
  have h0 := Keep.refl 0x500008040e100044 s
  unfold execLearnRequest
  exact Gives.ok (Keep.step (State.learnNext_keep ..) h0 rfl)

theorem State.ageOne_keep (s : State) (i : Nat) : Keep 0x500008040e100044 s (State.ageOne s i) := by
  have h0 := Keep.refl 0x500008040e100044 s
  unfold State.ageOne
  extract_lets +onlyGivenNames x1
  refine Keep.cut (x := x1) (Keep.step (State.fwtScrub_keep ..) h0 rfl) (fun h2 => ?_)
  generalize x1 = y3 at *
  extract_lets +onlyGivenNames x4
  generalize x4 = y5 at *
  refine Keep.ite h2 ?_
  refine Keep.ite (Keep.step (State.fwtMirrorDelete_keep ..) (Keep.count .fwt (Keep.count .fwt (Keep.step (State.fwtClear_keep ..) h2 rfl) rfl rfl) rfl rfl) rfl) ?_
  extract_lets +onlyGivenNames x6
  generalize x6 = y7 at *
  exact (Keep.step (State.fwtMirrorPut_keep ..) (Keep.step (State.fwtApply_keep ..) h2 rfl) rfl)

theorem execAgerPass_gives (s : State) : Gives 0xd000080c0e100044 s (execAgerPass s) := by
  have h0 := Keep.refl 0xd000080c0e100044 s
  unfold execAgerPass
  extract_lets +onlyGivenNames x1
  generalize x1 = y2 at *
  refine Gives.ite ?_ ?_
  · exact Gives.ok h0
  · extract_lets +onlyGivenNames x3
    refine Gives.cut (x := x3) ?_ (fun h4 => ?_)
    · unfold x3
      clear x3
      refine Keep.forEach ?_ (fun a6 u5 => ?_)
      · exact (Keep.step (State.advanceTo_keep ..) h0 rfl)
      have h7 := Keep.refl 0xd000080c0e100044 u5
      exact (Keep.step (State.learnNext_keep ..) h7 rfl)
    generalize x3 = y8 at *
    refine Gives.ok ?_
    refine Keep.forEach ?_ (fun a10 u9 => ?_)
    · exact h4
    have h11 := Keep.refl 0xd000080c0e100044 u9
    exact (Keep.step (State.ageOne_keep ..) h11 rfl)

theorem execFwtCmdInsert_gives (t : Nat) (bank : Nat) (s : State) : Gives 0x500008040e100045 s (execFwtCmdInsert t bank s) := by
  have h0 := Keep.refl 0x500008040e100045 s
  unfold execFwtCmdInsert
  exact Gives.ok (Keep.step (State.fwtCmd_keep ..) h0 rfl)

theorem execFwtCmdDelete_gives (t : Nat) (bank : Nat) (s : State) : Gives 0x500008040e100045 s (execFwtCmdDelete t bank s) := by
  have h0 := Keep.refl 0x500008040e100045 s
  unfold execFwtCmdDelete
  exact Gives.ok (Keep.step (State.fwtCmd_keep ..) h0 rfl)

theorem execFwtCmdLookup_gives (t : Nat) (bank : Nat) (s : State) : Gives 0x500008040e100045 s (execFwtCmdLookup t bank s) := by
  have h0 := Keep.refl 0x500008040e100045 s
  unfold execFwtCmdLookup
  exact Gives.ok (Keep.step (State.fwtCmd_keep ..) h0 rfl)

theorem execFwtInject_gives (t : Nat) (s : State) : Gives 0x40 s (execFwtInject t s) := by
  have h0 := Keep.refl 0x40 s
  unfold execFwtInject
  refine Gives.ite ?_ ?_
  · exact Gives.ok h0
  · exact Gives.ok (Keep.wr .fwt h0 rfl rfl)

theorem execFwtRebuild_gives (t : Nat) (s : State) : Gives 0x100000040c100045 s (execFwtRebuild t s) := by
  have h0 := Keep.refl 0x100000040c100045 s
  unfold execFwtRebuild
  refine Gives.ite ?_ ?_
  · exact Gives.ok h0
  · refine Gives.ite ?_ ?_
    · exact Gives.ok (Keep.step (State.bad_keep ..) h0 rfl)
    · extract_lets +onlyGivenNames x1
      refine Gives.cut (x := x1) (Keep.step (State.clearShadow_keep ..) h0 rfl) (fun h2 => ?_)
      generalize x1 = y3 at *
      extract_lets +onlyGivenNames x4
      generalize x4 = y5 at *
      extract_lets +onlyGivenNames x6
      refine Gives.cut (x := x6) (Keep.ite (Keep.winWr h2 _ rfl) h2) (fun h7 => ?_)
      generalize x6 = y8 at *
      exact Gives.ok (Keep.wr .fwt (Keep.wr .fwt h7 rfl rfl) rfl rfl)

theorem execFwtShadowCleared_gives (t : Nat) (s : State) : Gives 0x400100044 s (execFwtShadowCleared t s) := by
  have h0 := Keep.refl 0x400100044 s
  unfold execFwtShadowCleared
  refine Gives.ite ?_ ?_
  · exact Gives.ok (Keep.step (State.raise_keep ..) (Keep.wr .fwt h0 rfl rfl) rfl)
  · exact Gives.ok h0

theorem execFwtSwap_gives (t : Nat) (s : State) : Gives 0x100000040e100045 s (execFwtSwap t s) := by
  have h0 := Keep.refl 0x100000040e100045 s
  unfold execFwtSwap
  refine Gives.ite ?_ ?_
  · exact Gives.ok h0
  · refine Gives.ite ?_ ?_
    · exact Gives.ok (Keep.step (State.bad_keep ..) h0 rfl)
    · extract_lets +onlyGivenNames x1
      generalize x1 = y2 at *
      extract_lets +onlyGivenNames x3
      generalize x3 = y4 at *
      extract_lets +onlyGivenNames x5
      refine Gives.cut (x := x5) (Keep.wr .fwt (Keep.wr .fwt h0 rfl rfl) rfl rfl) (fun h6 => ?_)
      generalize x5 = y7 at *
      extract_lets +onlyGivenNames x8
      refine Gives.cut (x := x8) (Keep.wr .fwt (Keep.wr .fwt h6 rfl rfl) rfl rfl) (fun h9 => ?_)
      generalize x8 = y10 at *
      extract_lets +onlyGivenNames x11
      refine Gives.cut (x := x11) (Keep.step (State.swapWindow_keep ..) h9 rfl) (fun h12 => ?_)
      generalize x11 = y13 at *
      extract_lets +onlyGivenNames x14
      generalize x14 = y15 at *
      exact Gives.ok (Keep.step (State.raise_keep ..) (Keep.wr .fwt (Keep.wr .fwt h12 rfl rfl) rfl rfl) rfl)

theorem execFwtAbortRebuild_gives (t : Nat) (s : State) : Gives 0x40 s (execFwtAbortRebuild t s) := by
  have h0 := Keep.refl 0x40 s
  unfold execFwtAbortRebuild
  refine Gives.ite ?_ ?_
  · exact Gives.ok h0
  · exact Gives.ok (Keep.wr .fwt (Keep.wr .fwt h0 rfl rfl) rfl rfl)

theorem State.perrPop_keep (s : State) : Keep 0x2000080000000040 s (State.perrPop s) := by
  have h0 := Keep.refl 0x2000080000000040 s
  unfold State.perrPop
  extract_lets +onlyGivenNames x1
  refine Keep.cut (x := x1) (Keep.step (State.answer_keep ..) h0 rfl) (fun h2 => ?_)
  generalize x1 = y3 at *
  exact (Keep.step (State.showPerr_keep ..) (Keep.fwt h2 _ rfl) rfl)

theorem execFwtPerrPop_gives (s : State) : Gives 0x2000080000000040 s (execFwtPerrPop s) := by
  have h0 := Keep.refl 0x2000080000000040 s
  unfold execFwtPerrPop
  exact Gives.ok (Keep.step (State.perrPop_keep ..) h0 rfl)

theorem State.fwtWindowApply_keep (s : State) (t : Nat) (shadow : Bool) (i : Nat) (v : Nat) : Keep 0x40e100044 s (State.fwtWindowApply s t shadow i v) := by
  have h0 := Keep.refl 0x40e100044 s
  unfold State.fwtWindowApply
  exact (Keep.ite (Keep.step (State.raise_keep ..) (Keep.count .fwt h0 rfl rfl) rfl) (Keep.ite h0 (Keep.step (State.fwtApply_keep ..) h0 rfl)))

end Sys2Proof.Machine
end

