-- ==== Sys2Proof/Laws/KeepPorts.lean ====
section
/-!
SUPPORT. What each operation and each command of Machine/Ports.lean can do to the state: the zones and parts it stays within.
-/
namespace Sys2Proof.Machine

theorem State.setPort_keep (s : State) (n : Nat) (p : PortSt) : Keep 0x20000000000 s (State.setPort s n p) := by
  have h0 := Keep.refl 0x20000000000 s
  unfold State.setPort
  exact (Keep.fpt h0 _ rfl)

theorem State.setPair_keep (s : State) (p : Nat) (v : PairSt) : Keep 0x20000000000 s (State.setPair s p v) := by
  have h0 := Keep.refl 0x20000000000 s
  unfold State.setPair
  exact (Keep.fpt h0 _ rfl)

theorem State.setXport_keep (s : State) (m : Nat) (v : XportSt) : Keep 0x20000000000 s (State.setXport s m v) := by
  have h0 := Keep.refl 0x20000000000 s
  unfold State.setXport
  exact (Keep.fpt h0 _ rfl)

theorem State.macCount_keep (s : State) (n : Nat) (j : Nat) (k : Nat) : Keep 0x10 s (State.macCount s n j k) := by
  have h0 := Keep.refl 0x10 s
  unfold State.macCount
  exact (Keep.ite (Keep.count .fpt h0 rfl rfl) (Keep.count .fpt h0 rfl rfl))

theorem State.lreCount_keep (s : State) (n : Nat) (j : Nat) : Keep 0x10 s (State.lreCount s n j) := by
  have h0 := Keep.refl 0x10 s
  unfold State.lreCount
  exact (Keep.count .fpt h0 rfl rfl)

theorem State.hsrCount_keep (s : State) (n : Nat) (j : Nat) : Keep 0x10 s (State.hsrCount s n j) := by
  have h0 := Keep.refl 0x10 s
  unfold State.hsrCount
  exact (Keep.ite (Keep.count .fpt h0 rfl rfl) (Keep.count .fpt h0 rfl rfl))

theorem State.showSpeed_keep (s : State) (n : Nat) : Keep 0x10 s (State.showSpeed s n) := by
  have h0 := Keep.refl 0x10 s
  unfold State.showSpeed
  exact (Keep.wr .fpt h0 rfl rfl)

theorem State.showFabric_keep (s : State) (m : Nat) : Keep 0x10 s (State.showFabric s m) := by
  have h0 := Keep.refl 0x10 s
  unfold State.showFabric
  extract_lets +onlyGivenNames x1
  generalize x1 = y2 at *
  extract_lets +onlyGivenNames x3
  refine Keep.cut (x := x3) (Keep.wr .fpt h0 rfl rfl) (fun h4 => ?_)
  generalize x3 = y5 at *
  exact (Keep.wr .fpt h4 rfl rfl)

theorem State.setLstate_keep (s : State) (n : Nat) (v : Nat) : Keep 0x20400100014 s (State.setLstate s n v) := by
  have h0 := Keep.refl 0x20400100014 s
  unfold State.setLstate
  exact (Keep.ite h0 (Keep.ite (Keep.step (State.raise_keep ..) (Keep.step (State.showSpeed_keep ..) (Keep.wr .fpt h0 rfl rfl) rfl) rfl) (Keep.step (State.raise_keep ..) (Keep.step (State.showFabric_keep ..) (Keep.step (State.setPort_keep ..) h0 rfl) rfl) rfl)))

theorem State.dropCells_keep (s : State) (f : TxFrame) : Keep 0x1000100400108004 s (State.dropCells s f) := by
  have h0 := Keep.refl 0x1000100400108004 s
  unfold State.dropCells
  exact (Keep.ite h0 (Keep.step (State.freeCells_keep ..) h0 rfl))

theorem State.cutFrames_keep (s : State) (n : Nat) : Keep 0x1000120400108014 s (State.cutFrames s n) := by
  have h0 := Keep.refl 0x1000120400108014 s
  unfold State.cutFrames
  extract_lets +onlyGivenNames x1
  generalize x1 = y2 at *
  extract_lets +onlyGivenNames x3
  refine Keep.cut (x := x3) (Keep.step (State.setPort_keep ..) h0 rfl) (fun h4 => ?_)
  generalize x3 = y5 at *
  extract_lets +onlyGivenNames x6
  refine Keep.cut (x := x6) ?_ (fun h7 => ?_)
  · unfold x6
    clear x6
    split
    · exact (Keep.step (State.out_keep ..) h4 rfl)
    · exact h4
  generalize x6 = y8 at *
  refine Keep.forEach ?_ (fun a10 u9 => ?_)
  · exact h7
  have h11 := Keep.refl 0x1000120400108014 u9
  exact (Keep.step (State.macCount_keep ..) (Keep.step (State.dropCells_keep ..) h11 rfl) rfl)

theorem State.cutReceive_keep (s : State) (n : Nat) : Keep 0x20000000000 s (State.cutReceive s n) := by
  have h0 := Keep.refl 0x20000000000 s
  unfold State.cutReceive
  exact (Keep.ite (Keep.step (State.setPort_keep ..) h0 rfl) h0)

theorem State.resetPort_keep (s : State) (n : Nat) : Keep 0x1000120400108014 s (State.resetPort s n) := by
  have h0 := Keep.refl 0x1000120400108014 s
  unfold State.resetPort
  refine Keep.ite h0 ?_
  extract_lets +onlyGivenNames x1
  refine Keep.cut (x := x1) (Keep.step (State.setLstate_keep ..) (Keep.step (State.cutFrames_keep ..) (Keep.step (State.cutReceive_keep ..) h0 rfl) rfl) rfl) (fun h2 => ?_)
  generalize x1 = y3 at *
  exact (Keep.step (State.setPort_keep ..) h2 rfl)

theorem State.sendVia_keep (s : State) (n : Nat) (f : TxFrame) (place : PortSt → TxFrame → PortSt) : Keep 0x20000000000 s (State.sendVia s n f place) := by
  have h0 := Keep.refl 0x20000000000 s
  unfold State.sendVia
  refine Keep.ite h0 ?_
  refine Keep.ite (Keep.step (State.setPort_keep ..) h0 rfl) ?_
  extract_lets +onlyGivenNames x1
  generalize x1 = y2 at *
  extract_lets +onlyGivenNames x3
  refine Keep.cut (x := x3) (Keep.step (State.setPair_keep ..) h0 rfl) (fun h4 => ?_)
  generalize x3 = y5 at *
  refine Keep.forEach ?_ (fun a7 u6 => ?_)
  · exact h4
  have h8 := Keep.refl 0x20000000000 u6
  extract_lets +onlyGivenNames x9
  generalize x9 = y10 at *
  exact (Keep.step (State.setPort_keep ..) h8 rfl)

theorem State.frameSent_keep (s : State) (n : Nat) (f : TxFrame) : Keep 0x1000300400118014 s (State.frameSent s n f) := by
  have h0 := Keep.refl 0x1000300400118014 s
  unfold State.frameSent
  extract_lets +onlyGivenNames x1
  refine Keep.cut (x := x1) (Keep.step (State.cal_keep ..) (Keep.step (State.out_keep ..) h0 rfl) rfl) (fun h2 => ?_)
  generalize x1 = y3 at *
  extract_lets +onlyGivenNames x4
  refine Keep.cut (x := x4) (Keep.ite h2 (Keep.step (State.macCount_keep ..) (Keep.step (State.macCount_keep ..) h2 rfl) rfl)) (fun h5 => ?_)
  generalize x4 = y6 at *
  extract_lets +onlyGivenNames x7
  refine Keep.cut (x := x7) (Keep.ite (Keep.step (State.lreCount_keep ..) h5 rfl) h5) (fun h8 => ?_)
  generalize x7 = y9 at *
  extract_lets +onlyGivenNames x10
  refine Keep.cut (x := x10) (Keep.ite (Keep.step (State.hsrCount_keep ..) h8 rfl) (Keep.ite (Keep.step (State.hsrCount_keep ..) h8 rfl) (Keep.ite (Keep.step (State.hsrCount_keep ..) h8 rfl) h8))) (fun h11 => ?_)
  generalize x10 = y12 at *
  extract_lets +onlyGivenNames x13
  refine Keep.cut (x := x13) (Keep.step (State.dropCells_keep ..) h11 rfl) (fun h14 => ?_)
  generalize x13 = y15 at *
  split
  · exact h14
  · refine Keep.ite h14 ?_
    extract_lets +onlyGivenNames x16
    generalize x16 = y17 at *
    extract_lets +onlyGivenNames x18
    generalize x18 = y19 at *
    split
    · rename_i q20
      refine Keep.ofPair q20 ?_
      exact (Keep.step (State.chanPost_keep ..) h14 rfl)
    · refine Keep.count .cpu ?_ rfl rfl
      rename_i q21
      refine Keep.ofPair q21 ?_
      exact (Keep.step (State.chanPost_keep ..) h14 rfl)

theorem State.drainPaused_keep (s : State) (n : Nat) : Keep 0x1000120400108014 s (State.drainPaused s n) := by
  have h0 := Keep.refl 0x1000120400108014 s
  unfold State.drainPaused
  refine Keep.ite h0 ?_
  extract_lets +onlyGivenNames x1
  generalize x1 = y2 at *
  extract_lets +onlyGivenNames x3
  generalize x3 = y4 at *
  extract_lets +onlyGivenNames x5
  refine Keep.cut (x := x5) ?_ (fun h6 => ?_)
  · unfold x5
    clear x5
    refine Keep.forEach ?_ (fun a8 u7 => ?_)
    · exact (Keep.step (State.setPort_keep ..) h0 rfl)
    have h9 := Keep.refl 0x1000120400108014 u7
    exact (Keep.step (State.macCount_keep ..) h9 rfl)
  generalize x5 = y10 at *
  extract_lets +onlyGivenNames x11
  generalize x11 = y12 at *
  refine Keep.forEach ?_ (fun a14 u13 => ?_)
  · exact h6
  have h15 := Keep.refl 0x1000120400108014 u13
  refine Keep.forEach ?_ (fun a17 u16 => ?_)
  · exact (Keep.step (State.setSchQ_keep ..) h15 rfl)
  have h18 := Keep.refl 0x1000120400108014 u16
  exact (Keep.step (State.macCount_keep ..) (Keep.step (State.freeCells_keep ..) h18 rfl) rfl)

theorem State.portSelect_keep (s : State) (n : Nat) : Keep 0x1000100400108004 s (State.portSelect s n).1 := by
  have h0 := Keep.refl 0x1000100400108004 s
  show KeepP 0x1000100400108004 s (State.portSelect s n)
  unfold State.portSelect
  split
  · refine KeepP.mk ?_
    rename_i q1
    refine Keep.ofPair q1 ?_
    exact (Keep.iteP h0 (Keep.step (State.schSelect_keep ..) h0 rfl))
  · refine KeepP.of (Keep.step (State.schSelect_keep ..) ?_ rfl)
    rename_i q2
    refine Keep.ofPair q2 ?_
    exact (Keep.iteP h0 (Keep.step (State.schSelect_keep ..) h0 rfl))

theorem State.takeScheduled_keep (s : State) (n : Nat) : Keep 0x1000120400108014 s (State.takeScheduled s n) := by
  have h0 := Keep.refl 0x1000120400108014 s
  unfold State.takeScheduled
  split
  · rename_i q1
    refine Keep.ofPair q1 ?_
    exact (Keep.step (State.portSelect_keep ..) (Keep.step (State.drainPaused_keep ..) h0 rfl) rfl)
  · extract_lets +onlyGivenNames x2
    generalize x2 = y3 at *
    extract_lets +onlyGivenNames x4
    generalize x4 = y5 at *
    refine Keep.ite ?_ ?_
    · refine Keep.ite ?_ ?_
      · refine Keep.step (State.headDrop_keep ..) ?_ rfl
        rename_i q6
        refine Keep.ofPair q6 ?_
        exact (Keep.step (State.portSelect_keep ..) (Keep.step (State.drainPaused_keep ..) h0 rfl) rfl)
      · refine Keep.step (State.setPort_keep ..) ?_ rfl
        rename_i q7
        refine Keep.ofPair q7 ?_
        exact (Keep.step (State.portSelect_keep ..) (Keep.step (State.drainPaused_keep ..) h0 rfl) rfl)
    · refine Keep.ite ?_ ?_
      · refine Keep.step (State.headDrop_keep ..) ?_ rfl
        rename_i q8
        refine Keep.ofPair q8 ?_
        exact (Keep.step (State.portSelect_keep ..) (Keep.step (State.drainPaused_keep ..) h0 rfl) rfl)
      · refine Keep.step (State.sendVia_keep ..) ?_ rfl
        rename_i q9
        refine Keep.ofPair q9 ?_
        exact (Keep.step (State.portSelect_keep ..) (Keep.step (State.drainPaused_keep ..) h0 rfl) rfl)

theorem State.startFrame_keep (s : State) (n : Nat) : Keep 0x4000020000000000 s (State.startFrame s n) := by
  have h0 := Keep.refl 0x4000020000000000 s
  unfold State.startFrame
  refine Keep.ite h0 ?_
  split
  · exact h0
  · extract_lets +onlyGivenNames x1
    generalize x1 = y2 at *
    extract_lets +onlyGivenNames x3
    generalize x3 = y4 at *
    exact (Keep.step (State.setPort_keep ..) (Keep.step (State.draw_keep ..) h0 rfl) rfl)

theorem State.txBoundary_keep (s : State) (n : Nat) : Keep 0x5000320400118014 s (State.txBoundary s n) := by
  have h0 := Keep.refl 0x5000320400118014 s
  unfold State.txBoundary
  extract_lets +onlyGivenNames x1
  generalize x1 = y2 at *
  extract_lets +onlyGivenNames x3
  refine Keep.cut (x := x3) ?_ (fun h4 => ?_)
  · unfold x3
    clear x3
    split
    · exact (Keep.step (State.frameSent_keep ..) (Keep.step (State.setPort_keep ..) h0 rfl) rfl)
    · exact h0
  generalize x3 = y5 at *
  extract_lets +onlyGivenNames x6
  refine Keep.cut (x := x6) (Keep.ite (Keep.step (State.takeScheduled_keep ..) h4 rfl) h4) (fun h7 => ?_)
  generalize x6 = y8 at *
  exact (Keep.step (State.startFrame_keep ..) h7 rfl)

theorem execPortTxBoundary_gives (port : Nat) (s : State) : Gives 0x5800323400719014 s (execPortTxBoundary port s) := by
  have h0 := Keep.refl 0x5800323400719014 s
  unfold execPortTxBoundary
  refine Gives.ite ?_ ?_
  · exact Gives.ok (Keep.step (State.txBoundary_keep ..) h0 rfl)
  · refine Gives.ite ?_ ?_
    · exact Gives.ok (Keep.step (State.hostBoundary_keep ..) h0 rfl)
    · exact Gives.ok h0

theorem execShaperRefill_gives (s : State) : Gives 0xd800123c00709014 s (execShaperRefill s) := by
  have h0 := Keep.refl 0xd800123c00709014 s
  unfold execShaperRefill
  extract_lets +onlyGivenNames x1
  refine Gives.cut (x := x1) (Keep.step (State.refillAll_keep ..) (Keep.step (State.advanceTo_keep ..) h0 rfl) rfl) (fun h2 => ?_)
  generalize x1 = y3 at *
  extract_lets +onlyGivenNames x4
  generalize x4 = y5 at *
  refine Gives.ok ?_
  refine Keep.forEach ?_ (fun a7 u6 => ?_)
  · exact h2
  have h8 := Keep.refl 0xd800123c00709014 u6
  refine Keep.ite (Keep.step (State.hostBoundary_keep ..) h8 rfl) ?_
  refine Keep.ite h8 ?_
  refine Keep.forEach ?_ (fun a10 u9 => ?_)
  · exact (Keep.step (State.takeScheduled_keep ..) h8 rfl)
  have h11 := Keep.refl 0xd800123c00709014 u9
  exact (Keep.step (State.startFrame_keep ..) h11 rfl)

theorem State.handPub_keep (s : State) (mask : Nat) (bytes : List Byte) (pub : Nat) (again : Bool) : Keep 0x4000020000000000 s (State.handPub s mask bytes pub again).1 := by
  have h0 := Keep.refl 0x4000020000000000 s
  show KeepP 0x4000020000000000 s (State.handPub s mask bytes pub again)
  unfold State.handPub
  extract_lets +onlyGivenNames x1
  generalize x1 = y2 at *
  extract_lets +onlyGivenNames x3
  generalize x3 = y4 at *
  extract_lets +onlyGivenNames x5
  generalize x5 = y6 at *
  extract_lets +onlyGivenNames x7
  refine KeepP.cut (x := x7) ?_ (fun h8 => ?_)
  · unfold x7
    clear x7
    refine Keep.forEach ?_ (fun a10 u9 => ?_)
    · exact h0
    have h11 := Keep.refl 0x4000020000000000 u9
    exact (Keep.step (State.sendVia_keep ..) h11 rfl)
  generalize x7 = y12 at *
  refine KeepP.mk ?_
  refine Keep.forEach ?_ (fun a14 u13 => ?_)
  · exact h8
  have h15 := Keep.refl 0x4000020000000000 u13
  exact (Keep.step (State.startFrame_keep ..) h15 rfl)

theorem State.showFwd_keep (s : State) (p : Nat) : Keep 0x10 s (State.showFwd s p) := by
  have h0 := Keep.refl 0x10 s
  unfold State.showFwd
  extract_lets +onlyGivenNames x1
  generalize x1 = y2 at *
  exact (Keep.wr .fpt h0 rfl rfl)

theorem State.setBstate_keep (s : State) (p : Nat) (v : Nat) : Keep 0x20400100014 s (State.setBstate s p v) := by
  have h0 := Keep.refl 0x20400100014 s
  unfold State.setBstate
  refine Keep.ite h0 ?_
  extract_lets +onlyGivenNames x1
  refine Keep.cut (x := x1) (Keep.wr .fpt h0 rfl rfl) (fun h2 => ?_)
  generalize x1 = y3 at *
  exact (Keep.step (State.raise_keep ..) (Keep.step (State.setPair_keep ..) h2 rfl) rfl)

theorem State.setDrive_keep (s : State) (p : Nat) (v : Bool) : Keep 0x12 s (State.setDrive s p v) := by
  have h0 := Keep.refl 0x12 s
  unfold State.setDrive
  exact (Keep.wr .pwr (Keep.wr .fpt h0 rfl rfl) rfl rfl)

theorem State.bypRelease_keep (s : State) (p : Nat) (reason : Nat) (st : Nat) : Keep 0x1000020400100016 s (State.bypRelease s p reason st) := by
  have h0 := Keep.refl 0x1000020400100016 s
  unfold State.bypRelease
  extract_lets +onlyGivenNames x1
  refine Keep.cut (x := x1) (Keep.ite (Keep.step (State.cal_keep ..) (Keep.step (State.setDrive_keep ..) h0 rfl) rfl) h0) (fun h2 => ?_)
  generalize x1 = y3 at *
  exact (Keep.step (State.setBstate_keep ..) (Keep.wr .fpt h2 rfl rfl) rfl)

theorem State.loopCheck_keep (s : State) (p : Nat) : Keep 0x4000020400100014 s (State.loopCheck s p) := by
  have h0 := Keep.refl 0x4000020400100014 s
  unfold State.loopCheck
  extract_lets +onlyGivenNames x1
  generalize x1 = y2 at *
  extract_lets +onlyGivenNames x3
  refine Keep.cut (x := x3) (Keep.step (State.draw_keep ..) h0 rfl) (fun h4 => ?_)
  generalize x3 = y5 at *
  extract_lets +onlyGivenNames x6
  generalize x6 = y7 at *
  extract_lets +onlyGivenNames x8
  refine Keep.cut (x := x8) (Keep.step (State.setBstate_keep ..) (Keep.step (State.setPair_keep ..) h4 rfl) rfl) (fun h9 => ?_)
  generalize x8 = y10 at *
  refine Keep.forEach ?_ (fun a12 u11 => ?_)
  · exact h9
  have h13 := Keep.refl 0x4000020400100014 u11
  exact (Keep.step (State.startFrame_keep ..) (Keep.step (State.setPort_keep ..) h13 rfl) rfl)

theorem State.bypCheck_keep (s : State) (p : Nat) : Keep 0x5000020400100016 s (State.bypCheck s p) := by
  have h0 := Keep.refl 0x5000020400100016 s
  unfold State.bypCheck
  extract_lets +onlyGivenNames x1
  refine Keep.cut (x := x1) (Keep.step (State.showFwd_keep ..) h0 rfl) (fun h2 => ?_)
  generalize x1 = y3 at *
  extract_lets +onlyGivenNames x4
  generalize x4 = y5 at *
  extract_lets +onlyGivenNames x6
  generalize x6 = y7 at *
  extract_lets +onlyGivenNames x8
  generalize x8 = y9 at *
  extract_lets +onlyGivenNames x10
  generalize x10 = y11 at *
  extract_lets +onlyGivenNames x12
  refine Keep.cut (x := x12) (Keep.step (State.setPair_keep ..) h2 rfl) (fun h13 => ?_)
  generalize x12 = y14 at *
  split
  · refine Keep.ite (Keep.step (State.bypRelease_keep ..) h13 rfl) ?_
    split
    · exact (Keep.wr .fpt h13 rfl rfl)
    · exact h13
  · extract_lets +onlyGivenNames x15
    generalize x15 = y16 at *
    exact (Keep.ite (Keep.step (State.loopCheck_keep ..) h13 rfl) (Keep.ite (Keep.step (State.setBstate_keep ..) h13 rfl) h13))

theorem State.pairSettle_keep (s : State) (p : Nat) : Keep 0x5000020400100016 s (State.pairSettle s p) := by
  have h0 := Keep.refl 0x5000020400100016 s
  unfold State.pairSettle
  refine Keep.ite h0 ?_
  extract_lets +onlyGivenNames x1
  generalize x1 = y2 at *
  extract_lets +onlyGivenNames x3
  generalize x3 = y4 at *
  extract_lets +onlyGivenNames x5
  refine Keep.cut (x := x5) (Keep.step (State.setPair_keep ..) h0 rfl) (fun h6 => ?_)
  generalize x5 = y7 at *
  extract_lets +onlyGivenNames x8
  refine Keep.cut (x := x8) ?_ (fun h9 => ?_)
  · unfold x8
    clear x8
    refine Keep.ite ?_ h6
    refine Keep.forEach ?_ (fun a11 u10 => ?_)
    · exact h6
    have h12 := Keep.refl 0x5000020400100016 u10
    exact (Keep.ite (Keep.step (State.setLstate_keep ..) h12 rfl) h12)
  generalize x8 = y13 at *
  exact (Keep.step (State.bypCheck_keep ..) h9 rfl)

theorem State.bypLinkUp_keep (s : State) (p : Nat) : Keep 0x5000020400100016 s (State.bypLinkUp s p) := by
  have h0 := Keep.refl 0x5000020400100016 s
  unfold State.bypLinkUp
  exact (Keep.ite (Keep.step (State.setBstate_keep ..) (Keep.step (State.setPair_keep ..) h0 rfl) rfl) (Keep.step (State.bypCheck_keep ..) h0 rfl))

theorem State.linkMoved_keep (s : State) (n : Nat) : Keep 0x5000020400100016 s (State.linkMoved s n) := by
  have h0 := Keep.refl 0x5000020400100016 s
  unfold State.linkMoved
  exact (Keep.ite (Keep.step (State.bypLinkUp_keep ..) h0 rfl) h0)

theorem State.comeUp_keep (s : State) (n : Nat) : Keep 0x5000020400100016 s (State.comeUp s n) := by
  have h0 := Keep.refl 0x5000020400100016 s
  unfold State.comeUp
  extract_lets +onlyGivenNames x1
  generalize x1 = y2 at *
  extract_lets +onlyGivenNames x3
  refine Keep.cut (x := x3) (Keep.ite (Keep.wr .fpt h0 rfl rfl) (Keep.step (State.setXport_keep ..) h0 rfl)) (fun h4 => ?_)
  generalize x3 = y5 at *
  exact (Keep.step (State.linkMoved_keep ..) (Keep.step (State.setLstate_keep ..) h4 rfl) rfl)

theorem execPortLockAcquired_gives (port : Nat) (s : State) : Gives 0x5000020400100016 s (execPortLockAcquired port s) := by
  have h0 := Keep.refl 0x5000020400100016 s
  unfold execPortLockAcquired
  refine Gives.ite ?_ ?_
  · exact Gives.ok h0
  · extract_lets +onlyGivenNames x1
    generalize x1 = y2 at *
    extract_lets +onlyGivenNames x3
    refine Gives.cut (x := x3) (Keep.ite (Keep.wr .fpt h0 rfl rfl) (Keep.wr .fpt h0 rfl rfl)) (fun h4 => ?_)
    generalize x3 = y5 at *
    refine Gives.ite ?_ ?_
    · exact Gives.ok (Keep.step (State.setLstate_keep ..) (Keep.step (State.setPort_keep ..) h4 rfl) rfl)
    · exact Gives.ok (Keep.step (State.comeUp_keep ..) h4 rfl)

theorem execPortAnComplete_gives (port : Nat) (speed : Nat) (s : State) : Gives 0x5000020400100016 s (execPortAnComplete port speed s) := by
  have h0 := Keep.refl 0x5000020400100016 s
  unfold execPortAnComplete
  refine Gives.ite ?_ ?_
  · exact Gives.ok h0
  · extract_lets +onlyGivenNames x1
    generalize x1 = y2 at *
    extract_lets +onlyGivenNames x3
    refine Gives.cut (x := x3) (Keep.ite (Keep.step (State.setPort_keep ..) h0 rfl) h0) (fun h4 => ?_)
    generalize x3 = y5 at *
    exact Gives.ok (Keep.step (State.comeUp_keep ..) h4 rfl)

theorem execPortAnTimeout_gives (port : Nat) (s : State) : Gives 0xd000020c00100016 s (execPortAnTimeout port s) := by
  have h0 := Keep.refl 0xd000020c00100016 s
  unfold execPortAnTimeout
  refine Gives.ite ?_ ?_
  · exact Gives.ok h0
  · extract_lets +onlyGivenNames x1
    refine Gives.cut (x := x1) (Keep.step (State.advanceTo_keep ..) h0 rfl) (fun h2 => ?_)
    generalize x1 = y3 at *
    exact Gives.ok (Keep.step (State.linkMoved_keep ..) (Keep.step (State.setLstate_keep ..) h2 rfl) rfl)

theorem State.goDown_keep (s : State) (n : Nat) : Keep 0x5000120400108016 s (State.goDown s n) := by
  have h0 := Keep.refl 0x5000120400108016 s
  unfold State.goDown
  exact (Keep.step (State.linkMoved_keep ..) (Keep.step (State.setLstate_keep ..) (Keep.step (State.cutFrames_keep ..) h0 rfl) rfl) rfl)

theorem execPortLinkLost_gives (port : Nat) (cause : Nat) (s : State) : Gives 0x5000120400108016 s (execPortLinkLost port cause s) := by
  have h0 := Keep.refl 0x5000120400108016 s
  unfold execPortLinkLost
  extract_lets +onlyGivenNames x1
  generalize x1 = y2 at *
  extract_lets +onlyGivenNames x3
  generalize x3 = y4 at *
  refine Gives.ite ?_ ?_
  · exact Gives.ok h0
  · extract_lets +onlyGivenNames x5
    refine Gives.cut (x := x5) (Keep.ite (Keep.ite (Keep.wr .fpt h0 rfl rfl) (Keep.ite (Keep.step (State.raise_keep ..) h0 rfl) (Keep.wr .fpt h0 rfl rfl))) h0) (fun h6 => ?_)
    generalize x5 = y7 at *
    exact Gives.ok (Keep.step (State.goDown_keep ..) h6 rfl)

theorem execPortResetComplete_gives (port : Nat) (s : State) : Gives 0x5000020400100016 s (execPortResetComplete port s) := by
  have h0 := Keep.refl 0x5000020400100016 s
  unfold execPortResetComplete
  refine Gives.ite ?_ ?_
  · exact Gives.ok h0
  · extract_lets +onlyGivenNames x1
    refine Gives.cut (x := x1) (Keep.step (State.setLstate_keep ..) h0 rfl) (fun h2 => ?_)
    generalize x1 = y3 at *
    exact Gives.ok (Keep.ite (Keep.step (State.pairSettle_keep ..) (Keep.step (State.bypCheck_keep ..) h2 rfl) rfl) h2)

theorem State.pairReset_keep (s : State) (p : Nat) : Keep 0x5000120400108016 s (State.pairReset s p) := by
  have h0 := Keep.refl 0x5000120400108016 s
  unfold State.pairReset
  extract_lets +onlyGivenNames x1
  generalize x1 = y2 at *
  extract_lets +onlyGivenNames x3
  refine Keep.cut (x := x3) (Keep.step (State.setPair_keep ..) h0 rfl) (fun h4 => ?_)
  generalize x3 = y5 at *
  extract_lets +onlyGivenNames x6
  refine Keep.cut (x := x6) (Keep.wr .fpt h4 rfl rfl) (fun h7 => ?_)
  generalize x6 = y8 at *
  extract_lets +onlyGivenNames x9
  refine Keep.cut (x := x9) (Keep.step (State.resetPort_keep ..) (Keep.step (State.resetPort_keep ..) h7 rfl) rfl) (fun h10 => ?_)
  generalize x9 = y11 at *
  exact (Keep.step (State.pairSettle_keep ..) (Keep.step (State.bypCheck_keep ..) (Keep.step (State.bypRelease_keep ..) h10 rfl) rfl) rfl)

theorem execPairReset_gives (p : Nat) (s : State) : Gives 0x5000120400108016 s (execPairReset p s) := by
  have h0 := Keep.refl 0x5000120400108016 s
  unfold execPairReset
  refine Gives.ite ?_ ?_
  · exact Gives.ok (Keep.step (State.pairReset_keep ..) h0 rfl)
  · exact Gives.ok h0

theorem execForceRelWrite_gives (p : Nat) (val : Bool) (s : State) : Gives 0x5000020400100016 s (execForceRelWrite p val s) := by
  have h0 := Keep.refl 0x5000020400100016 s
  unfold execForceRelWrite
  refine Gives.ite ?_ ?_
  · exact Gives.ok h0
  · extract_lets +onlyGivenNames x1
    refine Gives.cut (x := x1) (Keep.wr .fpt h0 rfl rfl) (fun h2 => ?_)
    generalize x1 = y3 at *
    extract_lets +onlyGivenNames x4
    generalize x4 = y5 at *
    extract_lets +onlyGivenNames x6
    refine Gives.cut (x := x6) (Keep.ite (Keep.step (State.setBstate_keep ..) (Keep.step (State.setPair_keep ..) h2 rfl) rfl) h2) (fun h7 => ?_)
    generalize x6 = y8 at *
    exact Gives.ok (Keep.step (State.bypCheck_keep ..) h7 rfl)

theorem execKeeperKick_gives (p : Nat) (s : State) : Gives 0x5000020400100016 s (execKeeperKick p s) := by
  have h0 := Keep.refl 0x5000020400100016 s
  unfold execKeeperKick
  refine Gives.ite ?_ ?_
  · exact Gives.ok h0
  · exact Gives.ok (Keep.step (State.bypCheck_keep ..) (Keep.step (State.setPair_keep ..) h0 rfl) rfl)

theorem execKeeperExpire_gives (p : Nat) (s : State) : Gives 0xd000020c00100016 s (execKeeperExpire p s) := by
  have h0 := Keep.refl 0xd000020c00100016 s
  unfold execKeeperExpire
  refine Gives.ite ?_ ?_
  · exact Gives.ok h0
  · extract_lets +onlyGivenNames x1
    refine Gives.cut (x := x1) (Keep.step (State.advanceTo_keep ..) h0 rfl) (fun h2 => ?_)
    generalize x1 = y3 at *
    extract_lets +onlyGivenNames x4
    generalize x4 = y5 at *
    extract_lets +onlyGivenNames x6
    refine Gives.cut (x := x6) (Keep.step (State.raise_keep ..) (Keep.step (State.setPair_keep ..) h2 rfl) rfl) (fun h7 => ?_)
    generalize x6 = y8 at *
    exact Gives.ok (Keep.step (State.bypCheck_keep ..) h7 rfl)

theorem execLoopCheckTimeout_gives (p : Nat) (s : State) : Gives 0x8000020c00100014 s (execLoopCheckTimeout p s) := by
  have h0 := Keep.refl 0x8000020c00100014 s
  unfold execLoopCheckTimeout
  refine Gives.ite ?_ ?_
  · exact Gives.ok h0
  · extract_lets +onlyGivenNames x1
    refine Gives.cut (x := x1) (Keep.step (State.advanceTo_keep ..) h0 rfl) (fun h2 => ?_)
    generalize x1 = y3 at *
    exact Gives.ok (Keep.step (State.setBstate_keep ..) (Keep.step (State.setPair_keep ..) h2 rfl) rfl)

theorem execLoopCheckRetry_gives (p : Nat) (s : State) : Gives 0xd000020c00100016 s (execLoopCheckRetry p s) := by
  have h0 := Keep.refl 0xd000020c00100016 s
  unfold execLoopCheckRetry
  split
  · exact Gives.ok h0
  · extract_lets +onlyGivenNames x1
    refine Gives.cut (x := x1) (Keep.step (State.advanceTo_keep ..) h0 rfl) (fun h2 => ?_)
    generalize x1 = y3 at *
    exact Gives.ok (Keep.step (State.bypCheck_keep ..) (Keep.step (State.setPair_keep ..) h2 rfl) rfl)

theorem execBypassSettleExpire_gives (p : Nat) (s : State) : Gives 0x8000020c00100016 s (execBypassSettleExpire p s) := by
  have h0 := Keep.refl 0x8000020c00100016 s
  unfold execBypassSettleExpire
  refine Gives.ite ?_ ?_
  · exact Gives.ok h0
  · extract_lets +onlyGivenNames x1
    refine Gives.cut (x := x1) (Keep.step (State.advanceTo_keep ..) h0 rfl) (fun h2 => ?_)
    generalize x1 = y3 at *
    exact Gives.ok (Keep.step (State.setBstate_keep ..) (Keep.step (State.setDrive_keep ..) h2 rfl) rfl)

theorem execBypassSwitchTimeout_gives (p : Nat) (s : State) : Gives 0xd000020c00100016 s (execBypassSwitchTimeout p s) := by
  have h0 := Keep.refl 0xd000020c00100016 s
  unfold execBypassSwitchTimeout
  refine Gives.ite ?_ ?_
  · exact Gives.ok h0
  · extract_lets +onlyGivenNames x1
    refine Gives.cut (x := x1) (Keep.step (State.advanceTo_keep ..) h0 rfl) (fun h2 => ?_)
    generalize x1 = y3 at *
    refine Gives.ite ?_ ?_
    · exact Gives.ok (Keep.step (State.setBstate_keep ..) (Keep.step (State.setPair_keep ..) h2 rfl) rfl)
    · extract_lets +onlyGivenNames x4
      generalize x4 = y5 at *
      extract_lets +onlyGivenNames x6
      generalize x6 = y7 at *
      extract_lets +onlyGivenNames x8
      refine Gives.cut (x := x8) (Keep.step (State.setPair_keep ..) h2 rfl) (fun h9 => ?_)
      generalize x8 = y10 at *
      exact Gives.ok (Keep.step (State.bypCheck_keep ..) (Keep.step (State.bypRelease_keep ..) h9 rfl) rfl)

theorem execSupervisionTx_gives (p : Nat) (s : State) : Gives 0xc000020800000000 s (execSupervisionTx p s) := by
  have h0 := Keep.refl 0xc000020800000000 s
  unfold execSupervisionTx
  refine Gives.ite ?_ ?_
  · exact Gives.ok h0
  · extract_lets +onlyGivenNames x1
    refine Gives.cut (x := x1) (Keep.step (State.advanceTo_keep ..) h0 rfl) (fun h2 => ?_)
    generalize x1 = y3 at *
    extract_lets +onlyGivenNames x4
    generalize x4 = y5 at *
    extract_lets +onlyGivenNames x6
    generalize x6 = y7 at *
    extract_lets +onlyGivenNames x8
    refine Gives.cut (x := x8) (Keep.step (State.setPair_keep ..) h2 rfl) (fun h9 => ?_)
    generalize x8 = y10 at *
    extract_lets +onlyGivenNames x11
    refine Gives.cut (x := x11) (Keep.step (State.sendVia_keep ..) h9 rfl) (fun h12 => ?_)
    generalize x11 = y13 at *
    refine Gives.ok ?_
    refine Keep.forEach ?_ (fun a15 u14 => ?_)
    · exact h12
    have h16 := Keep.refl 0xc000020800000000 u14
    exact (Keep.step (State.startFrame_keep ..) h16 rfl)

theorem State.goX1_keep (s : State) (m : Nat) (lane : Nat) (try_ : Nat) : Keep 0x5000120400108016 s (State.goX1 s m lane try_) := by
  have h0 := Keep.refl 0x5000120400108016 s
  unfold State.goX1
  extract_lets +onlyGivenNames x1
  generalize x1 = y2 at *
  extract_lets +onlyGivenNames x3
  generalize x3 = y4 at *
  extract_lets +onlyGivenNames x5
  refine Keep.cut (x := x5) (Keep.step (State.setXport_keep ..) h0 rfl) (fun h6 => ?_)
  generalize x5 = y7 at *
  extract_lets +onlyGivenNames x8
  refine Keep.cut (x := x8) (Keep.wr .fpt h6 rfl rfl) (fun h9 => ?_)
  generalize x8 = y10 at *
  extract_lets +onlyGivenNames x11
  refine Keep.cut (x := x11) (Keep.ite (Keep.step (State.showFabric_keep ..) h9 rfl) (Keep.step (State.goDown_keep ..) h9 rfl)) (fun h12 => ?_)
  generalize x11 = y13 at *
  exact (Keep.ite h12 (Keep.step (State.raise_keep ..) h12 rfl))

theorem execFabricDegrade_gives (m : Nat) (lane : Nat) (s : State) : Gives 0x5000120400108016 s (execFabricDegrade m lane s) := by
  have h0 := Keep.refl 0x5000120400108016 s
  unfold execFabricDegrade
  refine Gives.ite ?_ ?_
  · exact Gives.ok h0
  · extract_lets +onlyGivenNames x1
    refine Gives.cut (x := x1) (Keep.wr .fpt h0 rfl rfl) (fun h2 => ?_)
    generalize x1 = y3 at *
    refine Gives.ite ?_ ?_
    · exact Gives.ok h2
    · exact Gives.ok (Keep.step (State.goX1_keep ..) h2 rfl)

theorem execFabricRestore_gives (m : Nat) (success : Bool) (s : State) : Gives 0x5000120400108016 s (execFabricRestore m success s) := by
  have h0 := Keep.refl 0x5000120400108016 s
  unfold execFabricRestore
  refine Gives.ite ?_ ?_
  · exact Gives.ok h0
  · refine Gives.ite ?_ ?_
    · extract_lets +onlyGivenNames x1
      generalize x1 = y2 at *
      extract_lets +onlyGivenNames x3
      refine Gives.cut (x := x3) (Keep.step (State.setXport_keep ..) h0 rfl) (fun h4 => ?_)
      generalize x3 = y5 at *
      exact Gives.ok (Keep.step (State.raise_keep ..) (Keep.step (State.goDown_keep ..) h4 rfl) rfl)
    · exact Gives.ok (Keep.step (State.goDown_keep ..) h0 rfl)

theorem execFabricLaneLost_gives (m : Nat) (lane : Nat) (s : State) : Gives 0x5000120400108016 s (execFabricLaneLost m lane s) := by
  have h0 := Keep.refl 0x5000120400108016 s
  unfold execFabricLaneLost
  refine Gives.ite ?_ ?_
  · exact Gives.ok h0
  · extract_lets +onlyGivenNames x1
    refine Gives.cut (x := x1) (Keep.wr .fpt h0 rfl rfl) (fun h2 => ?_)
    generalize x1 = y3 at *
    extract_lets +onlyGivenNames x4
    refine Gives.cut (x := x4) (Keep.step (State.raise_keep ..) h2 rfl) (fun h5 => ?_)
    generalize x4 = y6 at *
    extract_lets +onlyGivenNames x7
    generalize x7 = y8 at *
    extract_lets +onlyGivenNames x9
    refine Gives.cut (x := x9) ?_ (fun h10 => ?_)
    · unfold x9
      clear x9
      refine Keep.forEach ?_ (fun a12 u11 => ?_)
      · exact h5
      have h13 := Keep.refl 0x5000120400108016 u11
      exact (Keep.step (State.goDown_keep ..) h13 rfl)
    generalize x9 = y14 at *
    refine Gives.ite ?_ ?_
    · exact Gives.ok h10
    · split
      · exact Gives.ok h10
      · exact Gives.ok (Keep.step (State.goX1_keep ..) h10 rfl)

theorem execFabricDegradeDwell_gives (m : Nat) (s : State) : Gives 0x8000020800000010 s (execFabricDegradeDwell m s) := by
  have h0 := Keep.refl 0x8000020800000010 s
  unfold execFabricDegradeDwell
  extract_lets +onlyGivenNames x1
  generalize x1 = y2 at *
  refine Gives.ite ?_ ?_
  · exact Gives.ok h0
  · extract_lets +onlyGivenNames x3
    refine Gives.cut (x := x3) (Keep.step (State.advanceTo_keep ..) h0 rfl) (fun h4 => ?_)
    generalize x3 = y5 at *
    extract_lets +onlyGivenNames x6
    generalize x6 = y7 at *
    exact Gives.ok (Keep.wr .fpt (Keep.step (State.setXport_keep ..) h4 rfl) rfl rfl)

theorem State.setPfc_keep (s : State) (n : Nat) (c : Nat) (v : PfcSt) : Keep 0x20000000000 s (State.setPfc s n c v) := by
  have h0 := Keep.refl 0x20000000000 s
  unfold State.setPfc
  exact (Keep.fpt h0 _ rfl)

theorem State.pfcReceived_keep (s : State) (n : Nat) (b : List Byte) : Keep 0x4000020000000000 s (State.pfcReceived s n b) := by
  have h0 := Keep.refl 0x4000020000000000 s
  unfold State.pfcReceived
  extract_lets +onlyGivenNames x1
  generalize x1 = y2 at *
  refine Keep.step (State.startFrame_keep ..) ?_ rfl
  refine Keep.forEach ?_ (fun a4 u3 => ?_)
  · exact h0
  have h5 := Keep.refl 0x4000020000000000 u3
  refine Keep.ite h5 ?_
  extract_lets +onlyGivenNames x6
  generalize x6 = y7 at *
  extract_lets +onlyGivenNames x8
  generalize x8 = y9 at *
  exact (Keep.ite (Keep.step (State.setPfc_keep ..) h5 rfl) (Keep.step (State.setPfc_keep ..) h5 rfl))

theorem execPfcPauseTimeExpire_gives (port : Nat) (prio : Nat) (s : State) : Gives 0xc000020800000000 s (execPfcPauseTimeExpire port prio s) := by
  have h0 := Keep.refl 0xc000020800000000 s
  unfold execPfcPauseTimeExpire
  extract_lets +onlyGivenNames x1
  generalize x1 = y2 at *
  refine Gives.ite ?_ ?_
  · exact Gives.ok h0
  · exact Gives.ok (Keep.step (State.startFrame_keep ..) (Keep.step (State.setPfc_keep ..) (Keep.step (State.advanceTo_keep ..) h0 rfl) rfl) rfl)

theorem execPfcWatchdogExpire_gives (port : Nat) (prio : Nat) (s : State) : Gives 0x9000120c00108014 s (execPfcWatchdogExpire port prio s) := by
  have h0 := Keep.refl 0x9000120c00108014 s
  unfold execPfcWatchdogExpire
  extract_lets +onlyGivenNames x1
  generalize x1 = y2 at *
  extract_lets +onlyGivenNames x3
  generalize x3 = y4 at *
  refine Gives.ite ?_ ?_
  · exact Gives.ok h0
  · extract_lets +onlyGivenNames x5
    generalize x5 = y6 at *
    refine Gives.ite ?_ ?_
    · exact Gives.ok h0
    · extract_lets +onlyGivenNames x7
      refine Gives.cut (x := x7) (Keep.step (State.setPfc_keep ..) (Keep.step (State.advanceTo_keep ..) h0 rfl) rfl) (fun h8 => ?_)
      generalize x7 = y9 at *
      exact Gives.ok (Keep.step (State.raise_keep ..) (Keep.step (State.drainPaused_keep ..) h8 rfl) rfl)

theorem State.showDd_keep (s : State) (p : Nat) : Keep 0x10 s (State.showDd s p) := by
  have h0 := Keep.refl 0x10 s
  unfold State.showDd
  exact (Keep.wr .fpt h0 rfl rfl)

theorem State.ddEntry_keep (s : State) (p : Nat) (mac : Nat) : Keep 0x20400100014 s (State.ddEntry s p mac).1 := by
  have h0 := Keep.refl 0x20400100014 s
  show KeepP 0x20400100014 s (State.ddEntry s p mac)
  unfold State.ddEntry
  extract_lets +onlyGivenNames x1
  generalize x1 = y2 at *
  extract_lets +onlyGivenNames x3
  generalize x3 = y4 at *
  refine KeepP.ite ?_ ?_
  · exact KeepP.mk h0
  · extract_lets +onlyGivenNames x5
    generalize x5 = y6 at *
    refine KeepP.ite ?_ ?_
    · exact KeepP.mk h0
    · extract_lets +onlyGivenNames x7
      generalize x7 = y8 at *
      extract_lets +onlyGivenNames x9
      refine KeepP.cut (x := x9) (Keep.step (State.setPair_keep ..) h0 rfl) (fun h10 => ?_)
      generalize x9 = y11 at *
      exact KeepP.mk (Keep.step (State.raise_keep ..) (Keep.bump .fpt h10 rfl rfl) rfl)

theorem State.ddStore_keep (s : State) (p : Nat) (mac : Nat) (e : DdEntry) : Keep 0x20000000010 s (State.ddStore s p mac e) := by
  have h0 := Keep.refl 0x20000000010 s
  unfold State.ddStore
  extract_lets +onlyGivenNames x1
  generalize x1 = y2 at *
  exact (Keep.step (State.showDd_keep ..) (Keep.step (State.setPair_keep ..) h0 rfl) rfl)

theorem State.ddDeliver_keep (s : State) (n : Nat) (mac : Nat) (q : Nat) : Keep 0x1000020400100014 s (State.ddDeliver s n mac q).1 := by
  have h0 := Keep.refl 0x1000020400100014 s
  show KeepP 0x1000020400100014 s (State.ddDeliver s n mac q)
  unfold State.ddDeliver
  extract_lets +onlyGivenNames x1
  generalize x1 = y2 at *
  extract_lets +onlyGivenNames x3
  refine KeepP.cutP (x := x3) ?_ (fun h4 => ?_)
  · unfold x3
    clear x3
    exact KeepP.of (Keep.step (State.ddEntry_keep ..) h0 rfl)
  generalize x3 = y5 at *
  extract_lets +onlyGivenNames x6
  generalize x6 = y7 at *
  extract_lets +onlyGivenNames x8
  generalize x8 = y9 at *
  extract_lets +onlyGivenNames x10
  refine KeepP.cut (x := x10) (Keep.step (State.ddStore_keep ..) h4 rfl) (fun h11 => ?_)
  generalize x10 = y12 at *
  split
  · exact KeepP.mk (Keep.step (State.lreCount_keep ..) h11 rfl)
  · exact KeepP.mk (Keep.step (State.raise_keep ..) (Keep.bump .fpt h11 rfl rfl) rfl)
  · extract_lets +onlyGivenNames x13
    refine KeepP.cut (x := x13) (Keep.step (State.cal_keep ..) (Keep.ite (Keep.step (State.raise_keep ..) (Keep.step (State.lreCount_keep ..) h11 rfl) rfl) (Keep.step (State.lreCount_keep ..) h11 rfl)) rfl) (fun h14 => ?_)
    generalize x13 = y15 at *
    exact KeepP.mk h14

theorem State.ddForward_keep (s : State) (egress : Nat) (mac : Nat) (q : Nat) : Keep 0x20400100014 s (State.ddForward s egress mac q).1 := by
  have h0 := Keep.refl 0x20400100014 s
  show KeepP 0x20400100014 s (State.ddForward s egress mac q)
  unfold State.ddForward
  extract_lets +onlyGivenNames x1
  generalize x1 = y2 at *
  extract_lets +onlyGivenNames x3
  refine KeepP.cutP (x := x3) ?_ (fun h4 => ?_)
  · unfold x3
    clear x3
    exact KeepP.of (Keep.step (State.ddEntry_keep ..) h0 rfl)
  generalize x3 = y5 at *
  extract_lets +onlyGivenNames x6
  generalize x6 = y7 at *
  extract_lets +onlyGivenNames x8
  generalize x8 = y9 at *
  extract_lets +onlyGivenNames x10
  refine KeepP.cut (x := x10) (Keep.step (State.ddStore_keep ..) h4 rfl) (fun h11 => ?_)
  generalize x10 = y12 at *
  exact KeepP.mk h11

theorem execDdEntryExpire_gives (p : Nat) (mac : Nat) (s : State) : Gives 0x8000020800000010 s (execDdEntryExpire p mac s) := by
  have h0 := Keep.refl 0x8000020800000010 s
  unfold execDdEntryExpire
  extract_lets +onlyGivenNames x1
  generalize x1 = y2 at *
  extract_lets +onlyGivenNames x3
  generalize x3 = y4 at *
  refine Gives.ite ?_ ?_
  · exact Gives.ok h0
  · extract_lets +onlyGivenNames x5
    refine Gives.cut (x := x5) (Keep.step (State.advanceTo_keep ..) h0 rfl) (fun h6 => ?_)
    generalize x5 = y7 at *
    exact Gives.ok (Keep.step (State.showDd_keep ..) (Keep.step (State.setPair_keep ..) h6 rfl) rfl)

end Sys2Proof.Machine
end

