-- ==== Sys2Proof/Laws/KeepPipeline.lean ====
section
/-!
SUPPORT. What each operation and each command of Machine/Pipeline.lean can do to the state: the zones and parts it stays within.
-/
namespace Sys2Proof.Machine

theorem State.trapWrite_keep (s : State) (f : RxFrame) (i : TrapInfo) : Keep 0x1000048400100024 s (State.trapWrite s f i) := by
  have h0 := Keep.refl 0x1000048400100024 s
  unfold State.trapWrite
  extract_lets +onlyGivenNames x1
  generalize x1 = y2 at *
  extract_lets +onlyGivenNames x3
  refine Keep.cut (x := x3) (Keep.step (State.cal_keep ..) (Keep.count .ppl h0 rfl rfl) rfl) (fun h4 => ?_)
  generalize x3 = y5 at *
  extract_lets +onlyGivenNames x6
  generalize x6 = y7 at *
  extract_lets +onlyGivenNames x8
  generalize x8 = y9 at *
  extract_lets +onlyGivenNames x10
  generalize x10 = y11 at *
  refine Keep.ite (Keep.step (State.raise_keep ..) (Keep.bump .ppl h4 rfl rfl) rfl) ?_
  extract_lets +onlyGivenNames x12
  generalize x12 = y13 at *
  extract_lets +onlyGivenNames x14
  generalize x14 = y15 at *
  extract_lets +onlyGivenNames x16
  refine Keep.cut (x := x16) (Keep.step (State.rtWrite_keep ..) h4 rfl) (fun h17 => ?_)
  generalize x16 = y18 at *
  extract_lets +onlyGivenNames x19
  generalize x19 = y20 at *
  extract_lets +onlyGivenNames x21
  refine Keep.cut (x := x21) (Keep.ppl h17 _ rfl) (fun h22 => ?_)
  generalize x21 = y23 at *
  extract_lets +onlyGivenNames x24
  refine Keep.cut (x := x24) (Keep.wr .ppl h22 rfl rfl) (fun h25 => ?_)
  generalize x24 = y26 at *
  exact (Keep.ite (Keep.step (State.raise_keep ..) h25 rfl) h25)

theorem State.trap_keep (s : State) (f : RxFrame) (i : TrapInfo) : Keep 0x1000048400100024 s (State.trap s f i) := by
  have h0 := Keep.refl 0x1000048400100024 s
  unfold State.trap
  extract_lets +onlyGivenNames x1
  generalize x1 = y2 at *
  extract_lets +onlyGivenNames x3
  generalize x3 = y4 at *
  exact (Keep.ite (Keep.step (State.raise_keep ..) (Keep.count .ppl h0 rfl rfl) rfl) (Keep.step (State.trapWrite_keep ..) (Keep.ppl h0 _ rfl) rfl))

theorem execTrapLimiterRefill_gives (s : State) : Gives 0x8000040800000000 s (execTrapLimiterRefill s) := by
  have h0 := Keep.refl 0x8000040800000000 s
  unfold execTrapLimiterRefill
  extract_lets +onlyGivenNames x1
  refine Gives.cut (x := x1) (Keep.step (State.advanceTo_keep ..) h0 rfl) (fun h2 => ?_)
  generalize x1 = y3 at *
  refine Gives.ok ?_
  refine Keep.forEach ?_ (fun a5 u4 => ?_)
  · exact h2
  have h6 := Keep.refl 0x8000040800000000 u4
  extract_lets +onlyGivenNames x7
  generalize x7 = y8 at *
  extract_lets +onlyGivenNames x9
  generalize x9 = y10 at *
  exact (Keep.ppl h6 _ rfl)

theorem execTrapConsWrite_gives (r : Nat) (val : Word) (s : State) : Gives 0x1000000400100025 s (execTrapConsWrite r val s) := by
  have h0 := Keep.refl 0x1000000400100025 s
  unfold execTrapConsWrite
  refine Gives.ite ?_ ?_
  · exact Gives.ok h0
  · extract_lets +onlyGivenNames x1
    generalize x1 = y2 at *
    refine Gives.ite ?_ ?_
    · exact Gives.ok (Keep.step (State.bad_keep ..) h0 rfl)
    · exact Gives.ok (Keep.wr .ppl h0 rfl rfl)

theorem State.showSvFifo_keep (s : State) : Keep 0x80 s (State.showSvFifo s) := by
  have h0 := Keep.refl 0x80 s
  unfold State.showSvFifo
  extract_lets +onlyGivenNames x1
  generalize x1 = y2 at *
  exact (Keep.wr .svi (Keep.wr .svi h0 rfl rfl) rfl rfl)

theorem State.toIngest_keep (s : State) (f : RxFrame) : Keep 0x40400100084 s (State.toIngest s f) := by
  have h0 := Keep.refl 0x40400100084 s
  unfold State.toIngest
  extract_lets +onlyGivenNames x1
  refine Keep.cut (x := x1) (Keep.count .svi h0 rfl rfl) (fun h2 => ?_)
  generalize x1 = y3 at *
  exact (Keep.ite (Keep.step (State.raise_keep ..) (Keep.count .svi h2 rfl rfl) rfl) (Keep.step (State.showSvFifo_keep ..) (Keep.ppl h2 _ rfl) rfl))

theorem State.toQueue_keep (s : State) (f : RxFrame) (i : TrapInfo) (q : Nat) (cls : Nat) (colour : Nat) : Keep 0x10001484001080a4 s (State.toQueue s f i q cls colour) := by
  have h0 := Keep.refl 0x10001484001080a4 s
  unfold State.toQueue
  exact (Keep.ite (Keep.step (State.schEnqueue_keep ..) h0 rfl) (Keep.ite (Keep.step (State.trap_keep ..) h0 rfl) (Keep.ite (Keep.step (State.toIngest_keep ..) h0 rfl) (Keep.ite (Keep.step (State.toIngest_keep ..) h0 rfl) (Keep.ite (Keep.ppl h0 _ rfl) (Keep.count .ppl h0 rfl rfl))))))

theorem State.applyAction_keep (s : State) (f : RxFrame) (i : TrapInfo) (a : Nat) : Keep 0x10001c840e1080e4 s (State.applyAction s f i a) := by
  have h0 := Keep.refl 0x10001c840e1080e4 s
  unfold State.applyAction
  extract_lets +onlyGivenNames x1
  generalize x1 = y2 at *
  extract_lets +onlyGivenNames x3
  generalize x3 = y4 at *
  extract_lets +onlyGivenNames x5
  refine Keep.cut (x := x5) ?_ (fun h6 => ?_)
  · unfold x5
    clear x5
    refine Keep.forEach ?_ (fun a8 u7 => ?_)
    · exact h0
    have h9 := Keep.refl 0x10001c840e1080e4 u7
    exact (Keep.step (State.calClass_keep ..) h9 rfl)
  generalize x5 = y10 at *
  refine Keep.ite ?_ (Keep.step (State.toQueue_keep ..) h6 rfl)
  extract_lets +onlyGivenNames x11
  refine Keep.cutP (x := x11) ?_ (fun h12 => ?_)
  · unfold x11
    clear x11
    exact KeepP.of (Keep.step (State.l2Forward_keep ..) h6 rfl)
  generalize x11 = y13 at *
  refine Keep.forEach ?_ (fun a15 u14 => ?_)
  · exact h12
  have h16 := Keep.refl 0x10001c840e1080e4 u14
  exact (Keep.step (State.toQueue_keep ..) h16 rfl)

theorem State.exception_keep (s : State) (f : RxFrame) (i : TrapInfo) (trap : Bool) : Keep 0x10001c840e1080e4 s (State.exception s f i trap) := by
  have h0 := Keep.refl 0x10001c840e1080e4 s
  unfold State.exception
  refine Keep.ite (Keep.step (State.trap_keep ..) h0 rfl) ?_
  extract_lets +onlyGivenNames x1
  refine Keep.cut (x := x1) (Keep.ite (Keep.step (State.raise_keep ..) h0 rfl) h0) (fun h2 => ?_)
  generalize x1 = y3 at *
  exact (Keep.step (State.applyAction_keep ..) h2 rfl)

theorem State.classify_keep (s : State) (f : RxFrame) : Keep 0x10001c840e1080e4 s (State.classify s f) := by
  have h0 := Keep.refl 0x10001c840e1080e4 s
  unfold State.classify
  extract_lets +onlyGivenNames x1
  generalize x1 = y2 at *
  extract_lets +onlyGivenNames x3
  generalize x3 = y4 at *
  extract_lets +onlyGivenNames x5
  generalize x5 = y6 at *
  extract_lets +onlyGivenNames x7
  refine Keep.cut (x := x7) (Keep.step (State.learn_keep ..) h0 rfl) (fun h8 => ?_)
  generalize x7 = y9 at *
  split
  · exact (Keep.step (State.exception_keep ..) (Keep.count .ppl h8 rfl rfl) rfl)
  · extract_lets +onlyGivenNames x10
    generalize x10 = y11 at *
    extract_lets +onlyGivenNames x12
    generalize x12 = y13 at *
    extract_lets +onlyGivenNames x14
    generalize x14 = y15 at *
    extract_lets +onlyGivenNames x16
    generalize x16 = y17 at *
    refine Keep.ite (Keep.step (State.exception_keep ..) (Keep.count .ppl h8 rfl rfl) rfl) ?_
    extract_lets +onlyGivenNames x18
    generalize x18 = y19 at *
    extract_lets +onlyGivenNames x20
    generalize x20 = y21 at *
    split
    · extract_lets +onlyGivenNames x22
      generalize x22 = y23 at *
      refine Keep.step (State.applyAction_keep ..) ?_ rfl
      refine Keep.step (State.cal_keep ..) ?_ rfl
      refine Keep.count .ppl ?_ rfl rfl
      rename_i q24
      refine Keep.ofPair q24 ?_
      exact (Keep.step (State.fwtLookup_keep ..) (Keep.step (State.cal_keep ..) h8 rfl) rfl)
    · refine Keep.step (State.exception_keep ..) ?_ rfl
      refine Keep.step (State.cal_keep ..) ?_ rfl
      refine Keep.count .ppl ?_ rfl rfl
      rename_i q25
      refine Keep.ofPair q25 ?_
      exact (Keep.step (State.fwtLookup_keep ..) (Keep.step (State.cal_keep ..) h8 rfl) rfl)

theorem State.enter_keep (s : State) (f : RxFrame) : Keep 0x10001c840e1080f4 s (State.enter s f) := by
  have h0 := Keep.refl 0x10001c840e1080f4 s
  unfold State.enter
  exact (Keep.ite (Keep.step (State.macCount_keep ..) h0 rfl) (Keep.step (State.classify_keep ..) h0 rfl))

theorem State.hsrForward_keep (s : State) (egress : Nat) (f : RxFrame) (good : Bool) : Keep 0x5000020400100014 s (State.hsrForward s egress f good) := by
  have h0 := Keep.refl 0x5000020400100014 s
  unfold State.hsrForward
  extract_lets +onlyGivenNames x1
  generalize x1 = y2 at *
  extract_lets +onlyGivenNames x3
  generalize x3 = y4 at *
  refine Keep.ite h0 ?_
  refine Keep.ite ?_ (Keep.ite (Keep.step (State.setPort_keep ..) h0 rfl) h0)
  extract_lets +onlyGivenNames x5
  refine Keep.cut (x := x5) (Keep.step (State.draw_keep ..) (Keep.step (State.out_keep ..) h0 rfl) rfl) (fun h6 => ?_)
  generalize x5 = y7 at *
  extract_lets +onlyGivenNames x8
  refine Keep.cut (x := x8) (Keep.step (State.cal_keep ..) (Keep.step (State.hsrCount_keep ..) h6 rfl) rfl) (fun h9 => ?_)
  generalize x8 = y10 at *
  exact (Keep.ite (Keep.step (State.lreCount_keep ..) (Keep.step (State.macCount_keep ..) (Keep.step (State.macCount_keep ..) h9 rfl) rfl) rfl) (Keep.step (State.hsrCount_keep ..) h9 rfl))

theorem State.loopReturned_keep (s : State) (n : Nat) : Keep 0x20400100014 s (State.loopReturned s n) := by
  have h0 := Keep.refl 0x20400100014 s
  unfold State.loopReturned
  extract_lets +onlyGivenNames x1
  generalize x1 = y2 at *
  extract_lets +onlyGivenNames x3
  generalize x3 = y4 at *
  extract_lets +onlyGivenNames x5
  generalize x5 = y6 at *
  extract_lets +onlyGivenNames x7
  refine Keep.cut (x := x7) (Keep.step (State.setPair_keep ..) h0 rfl) (fun h8 => ?_)
  generalize x7 = y9 at *
  exact (Keep.ite (Keep.step (State.setBstate_keep ..) h8 rfl) h8)

theorem State.prpReceive_keep (s : State) (f : RxFrame) : Keep 0x10001e840e1080f4 s (State.prpReceive s f) := by
  have h0 := Keep.refl 0x10001e840e1080f4 s
  unfold State.prpReceive
  extract_lets +onlyGivenNames x1
  generalize x1 = y2 at *
  split
  · exact (Keep.step (State.enter_keep ..) h0 rfl)
  · extract_lets +onlyGivenNames x3
    refine Keep.cut (x := x3) (Keep.step (State.lreCount_keep ..) h0 rfl) (fun h4 => ?_)
    generalize x3 = y5 at *
    extract_lets +onlyGivenNames x6
    refine Keep.cut (x := x6) (Keep.ite h4 (Keep.step (State.raise_keep ..) (Keep.step (State.lreCount_keep ..) h4 rfl) rfl)) (fun h7 => ?_)
    generalize x6 = y8 at *
    extract_lets +onlyGivenNames x9
    generalize x9 = y10 at *
    refine Keep.ite (Keep.step (State.enter_keep ..) h7 rfl) ?_
    extract_lets +onlyGivenNames x11
    refine Keep.cutP (x := x11) ?_ (fun h12 => ?_)
    · unfold x11
      clear x11
      exact KeepP.of (Keep.step (State.ddDeliver_keep ..) h7 rfl)
    generalize x11 = y13 at *
    exact (Keep.ite (Keep.step (State.enter_keep ..) h12 rfl) h12)

theorem State.hsrReceive_keep (s : State) (f : RxFrame) (good : Bool) : Keep 0x50001e840e1080f4 s (State.hsrReceive s f good) := by
  have h0 := Keep.refl 0x50001e840e1080f4 s
  unfold State.hsrReceive
  extract_lets +onlyGivenNames x1
  generalize x1 = y2 at *
  extract_lets +onlyGivenNames x3
  generalize x3 = y4 at *
  extract_lets +onlyGivenNames x5
  generalize x5 = y6 at *
  split
  · exact (Keep.ite (Keep.step (State.enter_keep ..) h0 rfl) h0)
  · extract_lets +onlyGivenNames x7
    refine Keep.cut (x := x7) (Keep.ite (Keep.step (State.lreCount_keep ..) h0 rfl) h0) (fun h8 => ?_)
    generalize x7 = y9 at *
    extract_lets +onlyGivenNames x10
    generalize x10 = y11 at *
    extract_lets +onlyGivenNames x12
    generalize x12 = y13 at *
    extract_lets +onlyGivenNames x14
    generalize x14 = y15 at *
    refine Keep.ite (Keep.ite (Keep.step (State.lreCount_keep ..) h8 rfl) h8) ?_
    extract_lets +onlyGivenNames x16
    generalize x16 = y17 at *
    extract_lets +onlyGivenNames x18
    refine Keep.cutP (x := x18) ?_ (fun h19 => ?_)
    · unfold x18
      clear x18
      refine KeepP.ite ?_ ?_
      · exact KeepP.mk h8
      · exact KeepP.of (Keep.step (State.ddForward_keep ..) h8 rfl)
    generalize x18 = y20 at *
    extract_lets +onlyGivenNames x21
    refine Keep.cut (x := x21) (Keep.ite (Keep.step (State.hsrForward_keep ..) h19 rfl) h19) (fun h22 => ?_)
    generalize x21 = y23 at *
    refine Keep.ite h22 ?_
    extract_lets +onlyGivenNames x24
    refine Keep.cutP (x := x24) ?_ (fun h25 => ?_)
    · unfold x24
      clear x24
      exact KeepP.of (Keep.step (State.ddDeliver_keep ..) h22 rfl)
    generalize x24 = y26 at *
    exact (Keep.ite (Keep.step (State.enter_keep ..) h25 rfl) h25)

theorem State.fcsError_keep (s : State) (n : Nat) : Keep 0x20400100014 s (State.fcsError s n) := by
  have h0 := Keep.refl 0x20400100014 s
  unfold State.fcsError
  extract_lets +onlyGivenNames x1
  refine Keep.cut (x := x1) (Keep.step (State.macCount_keep ..) h0 rfl) (fun h2 => ?_)
  generalize x1 = y3 at *
  refine Keep.ite h2 ?_
  extract_lets +onlyGivenNames x4
  generalize x4 = y5 at *
  extract_lets +onlyGivenNames x6
  generalize x6 = y7 at *
  extract_lets +onlyGivenNames x8
  generalize x8 = y9 at *
  extract_lets +onlyGivenNames x10
  generalize x10 = y11 at *
  exact (Keep.ite (Keep.step (State.raise_keep ..) (Keep.step (State.setPort_keep ..) h2 rfl) rfl) (Keep.step (State.setPort_keep ..) h2 rfl))

theorem State.rxMarks_keep (s : State) (n : Nat) (m : Sys2Proof.RxMarks) : Keep 0x400100014 s (State.rxMarks s n m) := by
  have h0 := Keep.refl 0x400100014 s
  unfold State.rxMarks
  extract_lets +onlyGivenNames x1
  refine Keep.cut (x := x1) (Keep.ite (Keep.step (State.macCount_keep ..) h0 rfl) h0) (fun h2 => ?_)
  generalize x1 = y3 at *
  refine Keep.ite h2 ?_
  extract_lets +onlyGivenNames x4
  generalize x4 = y5 at *
  extract_lets +onlyGivenNames x6
  refine Keep.cut (x := x6) (Keep.bump .fpt (Keep.bump .fpt h2 rfl rfl) rfl rfl) (fun h7 => ?_)
  generalize x6 = y8 at *
  exact (Keep.ite h7 (Keep.step (State.raise_keep ..) h7 rfl))

theorem State.badFrame_keep (s : State) (n : Nat) (m : Sys2Proof.RxMarks) : Keep 0x20400100014 s (State.badFrame s n m) := by
  have h0 := Keep.refl 0x20400100014 s
  unfold State.badFrame
  exact (Keep.ite (Keep.step (State.macCount_keep ..) h0 rfl) (Keep.step (State.fcsError_keep ..) h0 rfl))

theorem execFrameReceive_gives (port : Nat) (bytes : List Byte) (m : Sys2Proof.RxMarks) (startTick : Nat) (endTick : Nat) (s : State) : Gives 0xd0001e8c0e1080f4 s (execFrameReceive port bytes m startTick endTick s) := by
  have h0 := Keep.refl 0xd0001e8c0e1080f4 s
  unfold execFrameReceive
  extract_lets +onlyGivenNames x1
  refine Gives.cut (x := x1) (Keep.step (State.advanceTo_keep ..) h0 rfl) (fun h2 => ?_)
  generalize x1 = y3 at *
  refine Gives.ite ?_ ?_
  · exact Gives.ok h2
  · extract_lets +onlyGivenNames x4
    generalize x4 = y5 at *
    refine Gives.ite ?_ ?_
    · exact Gives.ok (Keep.step (State.macCount_keep ..) (Keep.step (State.setPort_keep ..) h2 rfl) rfl)
    · refine Gives.ite ?_ ?_
      · exact Gives.ok h2
      · extract_lets +onlyGivenNames x6
        generalize x6 = y7 at *
        extract_lets +onlyGivenNames x8
        refine Gives.cut (x := x8) (Keep.step (State.rxMarks_keep ..) h2 rfl) (fun h9 => ?_)
        generalize x8 = y10 at *
        extract_lets +onlyGivenNames x11
        generalize x11 = y12 at *
        refine Gives.ite ?_ ?_
        · exact Gives.ok (Keep.step (State.macCount_keep ..) h9 rfl)
        · refine Gives.ite ?_ ?_
          · extract_lets +onlyGivenNames x13
            refine Gives.cut (x := x13) (Keep.step (State.badFrame_keep ..) h9 rfl) (fun h14 => ?_)
            generalize x13 = y15 at *
            exact Gives.ok (Keep.ite (Keep.step (State.hsrReceive_keep ..) h14 rfl) h14)
          · extract_lets +onlyGivenNames x16
            refine Gives.cut (x := x16) (Keep.step (State.cal_keep ..) (Keep.step (State.macCount_keep ..) (Keep.step (State.macCount_keep ..) h9 rfl) rfl) rfl) (fun h17 => ?_)
            generalize x16 = y18 at *
            extract_lets +onlyGivenNames x19
            refine Gives.cut (x := x19) (Keep.ite (Keep.step (State.macCount_keep ..) h17 rfl) (Keep.ite (Keep.step (State.macCount_keep ..) h17 rfl) h17)) (fun h20 => ?_)
            generalize x19 = y21 at *
            extract_lets +onlyGivenNames x22
            refine Gives.cut (x := x22) (Keep.ite (Keep.step (State.macCount_keep ..) h20 rfl) h20) (fun h23 => ?_)
            generalize x22 = y24 at *
            refine Gives.ite ?_ ?_
            · extract_lets +onlyGivenNames x25
              refine Gives.cut (x := x25) (Keep.step (State.macCount_keep ..) h23 rfl) (fun h26 => ?_)
              generalize x25 = y27 at *
              exact Gives.ok (Keep.ite (Keep.step (State.pfcReceived_keep ..) h26 rfl) h26)
            · refine Gives.ite ?_ ?_
              · exact Gives.ok (Keep.step (State.loopReturned_keep ..) h23 rfl)
              · refine Gives.ite ?_ ?_
                · exact Gives.ok (Keep.step (State.hsrReceive_keep ..) h23 rfl)
                · refine Gives.ite ?_ ?_
                  · exact Gives.ok (Keep.step (State.prpReceive_keep ..) h23 rfl)
                  · exact Gives.ok (Keep.step (State.enter_keep ..) h23 rfl)

end Sys2Proof.Machine
end

