-- ==== Sys2Proof/Laws/KeepRecorder.lean ====
section
/-!
SUPPORT. What each operation and each command of Machine/Recorder.lean can do to the state: the zones and parts it stays within.
-/
namespace Sys2Proof.Machine

theorem State.bulkTouch_keep (s : State) : Keep 0x40000000040000 s (State.bulkTouch s) := by
  have h0 := Keep.refl 0x40000000040000 s
  unfold State.bulkTouch
  extract_lets +onlyGivenNames x1
  refine Keep.cut (x := x1) (Keep.ite (Keep.wr .mem h0 rfl rfl) h0) (fun h2 => ?_)
  generalize x1 = y3 at *
  exact (Keep.mem h2 _ rfl)

theorem State.bulkWrite_keep (s : State) (a : Nat) (b : List Byte) : Keep 0x40010000040000 s (State.bulkWrite s a b) := by
  have h := Keep.step (State.bulkTouch_keep s) (Keep.refl 0x40010000040000 s) rfl
  have e : s.bulkTouch.bulk = s.bulk := (State.bulkTouch_keep s).parts .bulk rfl
  exact h.bulkTo (fun hw => memWrite_wf (e ▸ (State.wf_iff.1 hw).2.2.2.2.2.1) a b) rfl

theorem State.setRecBay_keep (s : State) (b : Nat) (v : RecBay) : Keep 0x4000000000000 s (State.setRecBay s b v) := by
  have h0 := Keep.refl 0x4000000000000 s
  unfold State.setRecBay
  exact (Keep.recd h0 _ rfl)

theorem State.setSegs_keep (s : State) (l : List Seg) : Keep 0x4000000000000 s (State.setSegs s l) := by
  have h0 := Keep.refl 0x4000000000000 s
  unfold State.setSegs
  exact (Keep.recd h0 _ rfl)

theorem State.updSegs_keep (s : State) (p : Seg → Bool) (f : Seg → Seg) : Keep 0x4000000000000 s (State.updSegs s p f) := by
  have h0 := Keep.refl 0x4000000000000 s
  unfold State.updSegs
  exact (Keep.step (State.setSegs_keep ..) h0 rfl)

theorem State.recRestart_keep (s : State) (b : Nat) : Keep 0x4000000000800 s (State.recRestart s b) := by
  have h0 := Keep.refl 0x4000000000800 s
  unfold State.recRestart
  exact (Keep.wr64 .recd (Keep.step (State.setRecBay_keep ..) h0 rfl) rfl rfl)

theorem State.recPut_keep (s : State) (b : Nat) (row : RecRow) (bytes : List Byte) : Keep 0x1004000400100804 s (State.recPut s b row bytes) := by
  have h0 := Keep.refl 0x1004000400100804 s
  unfold State.recPut
  refine Keep.ite (Keep.step (State.raise_keep ..) (Keep.bump .recd h0 rfl rfl) rfl) ?_
  extract_lets +onlyGivenNames x1
  generalize x1 = y2 at *
  exact (Keep.step (State.cal_keep ..) (Keep.count .recd (Keep.recd h0 _ rfl) rfl rfl) rfl)

theorem State.recRow_keep (s : State) (b : Nat) (r : Row) (discont : Bool) (cell : Nat → Nat) : Keep 0x1004000400100804 s (State.recRow s b r discont cell) := by
  have h0 := Keep.refl 0x1004000400100804 s
  unfold State.recRow
  refine Keep.ite h0 ?_
  extract_lets +onlyGivenNames x1
  generalize x1 = y2 at *
  extract_lets +onlyGivenNames x3
  generalize x3 = y4 at *
  extract_lets +onlyGivenNames x5
  refine Keep.cut (x := x5) (Keep.step (State.setRecBay_keep ..) h0 rfl) (fun h6 => ?_)
  generalize x5 = y7 at *
  extract_lets +onlyGivenNames x8
  refine Keep.cut (x := x8) (Keep.step (State.setSegs_keep ..) h6 rfl) (fun h9 => ?_)
  generalize x8 = y10 at *
  refine Keep.forEach ?_ (fun a12 u11 => ?_)
  · exact h9
  have h13 := Keep.refl 0x1004000400100804 u11
  extract_lets +onlyGivenNames x14
  generalize x14 = y15 at *
  extract_lets +onlyGivenNames x16
  generalize x16 = y17 at *
  exact (Keep.ite h13 (Keep.step (State.recPut_keep ..) h13 rfl))

theorem State.recLate_keep (s : State) (b : Nat) (n : Nat) (inst : Nat) (x : SvRec) (cells : List Nat) : Keep 0x1004000400100804 s (State.recLate s b n inst x cells) := by
  have h0 := Keep.refl 0x1004000400100804 s
  unfold State.recLate
  refine Keep.ite h0 ?_
  extract_lets +onlyGivenNames x1
  generalize x1 = y2 at *
  exact (Keep.step (State.recPut_keep ..) h0 rfl)

theorem State.overwrite_keep (s : State) (b : Nat) (p : Nat) : Keep 0x4000400100804 s (State.overwrite s b p) := by
  have h0 := Keep.refl 0x4000400100804 s
  unfold State.overwrite
  extract_lets +onlyGivenNames x1
  generalize x1 = y2 at *
  extract_lets +onlyGivenNames x3
  generalize x3 = y4 at *
  extract_lets +onlyGivenNames x5
  generalize x5 = y6 at *
  extract_lets +onlyGivenNames x7
  generalize x7 = y8 at *
  extract_lets +onlyGivenNames x9
  refine Keep.cut (x := x9) (Keep.step (State.setRecBay_keep ..) h0 rfl) (fun h10 => ?_)
  generalize x9 = y11 at *
  extract_lets +onlyGivenNames x12
  generalize x12 = y13 at *
  refine Keep.ite h10 ?_
  extract_lets +onlyGivenNames x14
  generalize x14 = y15 at *
  extract_lets +onlyGivenNames x16
  generalize x16 = y17 at *
  extract_lets +onlyGivenNames x18
  refine Keep.cut (x := x18) (Keep.step (State.updSegs_keep ..) h10 rfl) (fun h19 => ?_)
  generalize x18 = y20 at *
  exact (Keep.step (State.raise_keep ..) (Keep.bump .recd h19 rfl rfl) rfl)

theorem State.dropMasked_keep (s : State) : Keep 0x10000000000 s (State.dropMasked s) := by
  have h0 := Keep.refl 0x10000000000 s
  unfold State.dropMasked
  extract_lets +onlyGivenNames x1
  generalize x1 = y2 at *
  extract_lets +onlyGivenNames x3
  generalize x3 = y4 at *
  exact (Keep.step (State.dropBulk_keep ..) h0 rfl)

theorem State.showSegs_keep (s : State) : Keep 0x400140004 s (State.showSegs s) := by
  have h0 := Keep.refl 0x400140004 s
  unfold State.showSegs
  refine Keep.ite h0 ?_
  extract_lets +onlyGivenNames x1
  refine Keep.cut (x := x1) (Keep.wr .mem h0 rfl rfl) (fun h2 => ?_)
  generalize x1 = y3 at *
  extract_lets +onlyGivenNames x4
  generalize x4 = y5 at *
  exact (Keep.ite h2 (Keep.step (State.raise_keep ..) (Keep.wr .mem h2 rfl rfl) rfl))

theorem State.ringBytes_keep (s : State) (b : Nat) (bytes : List Byte) : Keep 0x44010400140804 s (State.ringBytes s b bytes) := by
  have h0 := Keep.refl 0x44010400140804 s
  unfold State.ringBytes
  extract_lets +onlyGivenNames x1
  generalize x1 = y2 at *
  extract_lets +onlyGivenNames x3
  generalize x3 = y4 at *
  extract_lets +onlyGivenNames x5
  refine Keep.cut (x := x5) (Keep.step (State.overwrite_keep ..) h0 rfl) (fun h6 => ?_)
  generalize x5 = y7 at *
  exact (Keep.wr64 .recd (Keep.step (State.bulkWrite_keep ..) h6 rfl) rfl rfl)

theorem State.ringPut_keep (s : State) (x : BufRow) : Keep 0x44010400140804 s (State.ringPut s x) := by
  have h0 := Keep.refl 0x44010400140804 s
  unfold State.ringPut
  extract_lets +onlyGivenNames x1
  generalize x1 = y2 at *
  extract_lets +onlyGivenNames x3
  generalize x3 = y4 at *
  extract_lets +onlyGivenNames x5
  generalize x5 = y6 at *
  refine Keep.ite h0 ?_
  extract_lets +onlyGivenNames x7
  generalize x7 = y8 at *
  extract_lets +onlyGivenNames x9
  generalize x9 = y10 at *
  refine Keep.ite ?_ ?_
  · extract_lets +onlyGivenNames x11
    refine Keep.cut (x := x11) (Keep.step (State.updSegs_keep ..) h0 rfl) (fun h12 => ?_)
    generalize x11 = y13 at *
    exact (Keep.step (State.raise_keep ..) (Keep.bump .recd h12 rfl rfl) rfl)
  · extract_lets +onlyGivenNames x14
    refine Keep.cut (x := x14) (Keep.ite h0 (Keep.step (State.ringBytes_keep ..) h0 rfl)) (fun h15 => ?_)
    generalize x14 = y16 at *
    extract_lets +onlyGivenNames x17
    generalize x17 = y18 at *
    extract_lets +onlyGivenNames x19
    refine Keep.cut (x := x19) (Keep.step (State.ringBytes_keep ..) h15 rfl) (fun h20 => ?_)
    generalize x19 = y21 at *
    extract_lets +onlyGivenNames x22
    generalize x22 = y23 at *
    extract_lets +onlyGivenNames x24
    generalize x24 = y25 at *
    extract_lets +onlyGivenNames x26
    refine Keep.cut (x := x26) (Keep.step (State.setRecBay_keep ..) h20 rfl) (fun h27 => ?_)
    generalize x26 = y28 at *
    exact (Keep.ite h27 (Keep.step (State.updSegs_keep ..) h27 rfl))

theorem State.flushBay_keep (s : State) (b : Nat) : Keep 0x44010400140804 s (State.flushBay s b) := by
  have h0 := Keep.refl 0x44010400140804 s
  unfold State.flushBay
  extract_lets +onlyGivenNames x1
  generalize x1 = y2 at *
  extract_lets +onlyGivenNames x3
  refine Keep.cut (x := x3) (Keep.ite h0 (Keep.step (State.showSegs_keep ..) (Keep.step (State.bulkTouch_keep ..) h0 rfl) rfl)) (fun h4 => ?_)
  generalize x3 = y5 at *
  extract_lets +onlyGivenNames x6
  generalize x6 = y7 at *
  extract_lets +onlyGivenNames x8
  refine Keep.cut (x := x8) (Keep.recd h4 _ rfl) (fun h9 => ?_)
  generalize x8 = y10 at *
  refine Keep.ite h9 ?_
  refine Keep.step (State.showSegs_keep ..) ?_ rfl
  refine Keep.forEach ?_ (fun a12 u11 => ?_)
  · exact h9
  have h13 := Keep.refl 0x44010400140804 u11
  exact (Keep.step (State.ringPut_keep ..) h13 rfl)

theorem execRecBurstWrite_gives (b : Nat) (s : State) : Gives 0x8044010c00140804 s (execRecBurstWrite b s) := by
  have h0 := Keep.refl 0x8044010c00140804 s
  unfold execRecBurstWrite
  split
  · exact Gives.ok h0
  · refine Gives.ite ?_ ?_
    · exact Gives.ok (Keep.step (State.flushBay_keep ..) h0 rfl)
    · exact Gives.ok (Keep.step (State.flushBay_keep ..) (Keep.step (State.advanceTo_keep ..) h0 rfl) rfl)

theorem State.openSeg_keep (s : State) (c : Nat) (b : Nat) (t : Trigger) (from_ : Int) (to_ : Int) (cont : Bool) : Keep 0x4000400100004 s (State.openSeg s c b t from_ to_ cont) := by
  have h0 := Keep.refl 0x4000400100004 s
  unfold State.openSeg
  extract_lets +onlyGivenNames x1
  generalize x1 = y2 at *
  extract_lets +onlyGivenNames x3
  generalize x3 = y4 at *
  extract_lets +onlyGivenNames x5
  generalize x5 = y6 at *
  extract_lets +onlyGivenNames x7
  generalize x7 = y8 at *
  extract_lets +onlyGivenNames x9
  generalize x9 = y10 at *
  extract_lets +onlyGivenNames x11
  generalize x11 = y12 at *
  extract_lets +onlyGivenNames x13
  generalize x13 = y14 at *
  extract_lets +onlyGivenNames x15
  generalize x15 = y16 at *
  extract_lets +onlyGivenNames x17
  refine Keep.cut (x := x17) (Keep.recd h0 _ rfl) (fun h18 => ?_)
  generalize x17 = y19 at *
  exact (Keep.step (State.raise_keep ..) h18 rfl)

theorem State.fireBay_keep (s : State) (c : Nat) (t : Trigger) (b : Nat) : Keep 0x4000400100804 s (State.fireBay s c t b) := by
  have h0 := Keep.refl 0x4000400100804 s
  unfold State.fireBay
  refine Keep.ite (Keep.step (State.raise_keep ..) (Keep.count .recd h0 rfl rfl) rfl) ?_
  extract_lets +onlyGivenNames x1
  generalize x1 = y2 at *
  extract_lets +onlyGivenNames x3
  generalize x3 = y4 at *
  split
  · exact (Keep.step (State.openSeg_keep ..) h0 rfl)
  · extract_lets +onlyGivenNames x5
    generalize x5 = y6 at *
    extract_lets +onlyGivenNames x7
    generalize x7 = y8 at *
    extract_lets +onlyGivenNames x9
    generalize x9 = y10 at *
    exact (Keep.ite (Keep.step (State.updSegs_keep ..) h0 rfl) (Keep.step (State.openSeg_keep ..) (Keep.step (State.updSegs_keep ..) h0 rfl) rfl))

theorem State.fireSet_keep (s : State) (c : Nat) (t : Trigger) : Keep 0x4000400100804 s (State.fireSet s c t) := by
  have h0 := Keep.refl 0x4000400100804 s
  unfold State.fireSet
  extract_lets +onlyGivenNames x1
  refine Keep.cut (x := x1) (Keep.count .recd h0 rfl rfl) (fun h2 => ?_)
  generalize x1 = y3 at *
  extract_lets +onlyGivenNames x4
  refine Keep.cut (x := x4) ?_ (fun h5 => ?_)
  · unfold x4
    clear x4
    refine Keep.forEach ?_ (fun a7 u6 => ?_)
    · exact h2
    have h8 := Keep.refl 0x4000400100804 u6
    exact (Keep.step (State.fireBay_keep ..) h8 rfl)
  generalize x4 = y9 at *
  exact (Keep.recd h5 _ rfl)

theorem State.recNote_keep (s : State) (kind : Nat) (index : Nat) (tick : Int) (gtc : Nat) : Keep 0x4000000000000 s (State.recNote s kind index tick gtc) := by
  have h0 := Keep.refl 0x4000000000000 s
  unfold State.recNote
  exact (Keep.ite h0 (Keep.recd h0 _ rfl))

theorem State.recHandle_keep (s : State) : Keep 0x4000400100804 s (State.recHandle s) := by
  have h0 := Keep.refl 0x4000400100804 s
  unfold State.recHandle
  extract_lets +onlyGivenNames x1
  generalize x1 = y2 at *
  extract_lets +onlyGivenNames x3
  generalize x3 = y4 at *
  extract_lets +onlyGivenNames x5
  refine Keep.cut (x := x5) (Keep.recd h0 _ rfl) (fun h6 => ?_)
  generalize x5 = y7 at *
  refine Keep.ite h6 ?_
  refine Keep.forEach ?_ (fun a9 u8 => ?_)
  · exact h6
  have h10 := Keep.refl 0x4000400100804 u8
  refine Keep.forEach ?_ (fun a12 u11 => ?_)
  · exact h10
  have h13 := Keep.refl 0x4000400100804 u11
  exact (Keep.step (State.fireSet_keep ..) h13 rfl)

theorem State.recTrigger_keep (s : State) (kind : Nat) (index : Nat) (tick : Int) (gtc : Nat) : Keep 0x4000400100804 s (State.recTrigger s kind index tick gtc) := by
  have h0 := Keep.refl 0x4000400100804 s
  unfold State.recTrigger
  exact (Keep.step (State.recHandle_keep ..) (Keep.step (State.recNote_keep ..) h0 rfl) rfl)

theorem execRecCmdTrigger_gives (val : Word) (s : State) : Gives 0x4000400100804 s (execRecCmdTrigger val s) := by
  have h0 := Keep.refl 0x4000400100804 s
  unfold execRecCmdTrigger
  extract_lets +onlyGivenNames x1
  refine Gives.cut (x := x1) (Keep.wr .recd h0 rfl rfl) (fun h2 => ?_)
  generalize x1 = y3 at *
  refine Gives.ite ?_ ?_
  · exact Gives.ok h2
  · extract_lets +onlyGivenNames x4
    generalize x4 = y5 at *
    extract_lets +onlyGivenNames x6
    generalize x6 = y7 at *
    exact Gives.ok (Keep.step (State.fireSet_keep ..) h2 rfl)

theorem State.trigEdge_keep (s : State) (lvl : Bool) : Keep 0x4000600100804 s (State.trigEdge s lvl).1 := by
  have h0 := Keep.refl 0x4000600100804 s
  show KeepP 0x4000600100804 s (State.trigEdge s lvl)
  unfold State.trigEdge
  refine KeepP.ite ?_ ?_
  · exact KeepP.mk h0
  · extract_lets +onlyGivenNames x1
    generalize x1 = y2 at *
    extract_lets +onlyGivenNames x3
    generalize x3 = y4 at *
    extract_lets +onlyGivenNames x5
    generalize x5 = y6 at *
    extract_lets +onlyGivenNames x7
    refine KeepP.cut (x := x7) (Keep.fields h0 rfl (Nat.le_refl _) ⟨rfl, rfl, rfl, rfl, rfl, rfl, rfl, rfl⟩ (fun p hp => by cases p <;> first | rfl | exact ⟨rfl, rfl, rfl⟩ | exact ⟨rfl, rfl, rfl, rfl, rfl, rfl⟩ | exact absurd hp (by decide))) (fun h8 => ?_)
    generalize x7 = y9 at *
    refine KeepP.ite ?_ ?_
    · exact KeepP.mk h8
    · exact KeepP.mk (Keep.step (State.recTrigger_keep ..) (Keep.step (State.raise_keep ..) h8 rfl) rfl)

theorem State.showPending_keep (s : State) (r : Nat) : Keep 0x800 s (State.showPending s r) := by
  have h0 := Keep.refl 0x800 s
  unfold State.showPending
  exact (Keep.wr .recd h0 rfl rfl)

theorem State.closeSeg_keep (s : State) (g : Seg) (truncated : Bool) : Keep 0x44010400140804 s (State.closeSeg s g truncated) := by
  have h0 := Keep.refl 0x44010400140804 s
  unfold State.closeSeg
  extract_lets +onlyGivenNames x1
  refine Keep.cut (x := x1) (Keep.step (State.flushBay_keep ..) h0 rfl) (fun h2 => ?_)
  generalize x1 = y3 at *
  extract_lets +onlyGivenNames x4
  generalize x4 = y5 at *
  extract_lets +onlyGivenNames x6
  generalize x6 = y7 at *
  extract_lets +onlyGivenNames x8
  generalize x8 = y9 at *
  extract_lets +onlyGivenNames x10
  generalize x10 = y11 at *
  extract_lets +onlyGivenNames x12
  refine Keep.cut (x := x12) (Keep.step (State.setSegs_keep ..) h2 rfl) (fun h13 => ?_)
  generalize x12 = y14 at *
  extract_lets +onlyGivenNames x15
  generalize x15 = y16 at *
  extract_lets +onlyGivenNames x17
  refine Keep.cut (x := x17) (Keep.ite (Keep.recd h13 _ rfl) h13) (fun h18 => ?_)
  generalize x17 = y19 at *
  extract_lets +onlyGivenNames x20
  refine Keep.cut (x := x20) (Keep.count .recd (Keep.wr64 .recd h18 rfl rfl) rfl rfl) (fun h21 => ?_)
  generalize x20 = y22 at *
  exact (Keep.step (State.raise_keep ..) (Keep.step (State.showPending_keep ..) h21 rfl) rfl)

theorem State.truncateSegs_keep (s : State) (p : Seg → Bool) : Keep 0x44010400140804 s (State.truncateSegs s p) := by
  have h0 := Keep.refl 0x44010400140804 s
  unfold State.truncateSegs
  refine Keep.forEach ?_ (fun a2 u1 => ?_)
  · exact h0
  have h3 := Keep.refl 0x44010400140804 u1
  exact (Keep.step (State.closeSeg_keep ..) h3 rfl)

theorem execSegmentClose_gives (b : Nat) (c : Nat) (s : State) : Gives 0x8044010c00140804 s (execSegmentClose b c s) := by
  have h0 := Keep.refl 0x8044010c00140804 s
  unfold execSegmentClose
  split
  · exact Gives.ok h0
  · exact Gives.ok (Keep.step (State.closeSeg_keep ..) (Keep.step (State.advanceTo_keep ..) h0 rfl) rfl)

end Sys2Proof.Machine
end

