-- ==== Sys2Proof/Laws/KeepTrip.lean ====
section
/-!
SUPPORT. What each operation and each command of Machine/Trip.lean can do to the state: the zones and parts it stays within.
-/
namespace Sys2Proof.Machine

theorem State.setCmp_keep (s : State) (c : Nat) (v : CmpSt) : Keep 0x2000000000000 s (State.setCmp s c v) := by
  have h0 := Keep.refl 0x2000000000000 s
  unfold State.setCmp
  exact (Keep.trp h0 _ rfl)

theorem State.setPub_keep (s : State) (p : Nat) (v : PubSt) : Keep 0x2000000000000 s (State.setPub s p v) := by
  have h0 := Keep.refl 0x2000000000000 s
  unfold State.setPub
  exact (Keep.trp h0 _ rfl)

theorem State.setGsub_keep (s : State) (g : Nat) (v : GsubSt) : Keep 0x2000000000000 s (State.setGsub s g v) := by
  have h0 := Keep.refl 0x2000000000000 s
  unfold State.setGsub
  exact (Keep.trp h0 _ rfl)

theorem State.showTrp_keep (s : State) : Keep 0x400 s (State.showTrp s) := by
  have h0 := Keep.refl 0x400 s
  unfold State.showTrp
  extract_lets +onlyGivenNames x1
  generalize x1 = y2 at *
  exact (Keep.wr .trp (Keep.wr .trp h0 rfl rfl) rfl rfl)

theorem State.setTerm_keep (s : State) (t : Nat) (v : Nat) : Keep 0x400 s (State.setTerm s t v) := by
  have h0 := Keep.refl 0x400 s
  unfold State.setTerm
  exact (Keep.step (State.showTrp_keep ..) (Keep.wr .trp h0 rfl rfl) rfl)

theorem State.pubSign_keep (s : State) (p : Nat) (b : List Byte) : Keep 0x400100404 s (State.pubSign s p b).1 := by
  have h0 := Keep.refl 0x400100404 s
  show KeepP 0x400100404 s (State.pubSign s p b)
  unfold State.pubSign
  extract_lets +onlyGivenNames x1
  generalize x1 = y2 at *
  extract_lets +onlyGivenNames x3
  generalize x3 = y4 at *
  extract_lets +onlyGivenNames x5
  generalize x5 = y6 at *
  extract_lets +onlyGivenNames x7
  generalize x7 = y8 at *
  extract_lets +onlyGivenNames x9
  generalize x9 = y10 at *
  refine KeepP.ite ?_ ?_
  · exact KeepP.mk h0
  · refine KeepP.ite ?_ ?_
    · exact KeepP.mk h0
    · exact KeepP.mk (Keep.step (State.raise_keep ..) (Keep.count .trp h0 rfl rfl) rfl)

theorem State.pubSend_keep (s : State) (p : Nat) (again : Bool) : Keep 0x5002020400100404 s (State.pubSend s p again) := by
  have h0 := Keep.refl 0x5002020400100404 s
  unfold State.pubSend
  extract_lets +onlyGivenNames x1
  generalize x1 = y2 at *
  extract_lets +onlyGivenNames x3
  refine Keep.cut (x := x3) (Keep.step (State.setPub_keep ..) h0 rfl) (fun h4 => ?_)
  generalize x3 = y5 at *
  extract_lets +onlyGivenNames x6
  refine Keep.cut (x := x6) (Keep.wr .trp h4 rfl rfl) (fun h7 => ?_)
  generalize x6 = y8 at *
  extract_lets +onlyGivenNames x9
  refine Keep.cutP (x := x9) ?_ (fun h10 => ?_)
  · unfold x9
    clear x9
    exact KeepP.of (Keep.step (State.pubSign_keep ..) h7 rfl)
  generalize x9 = y11 at *
  extract_lets +onlyGivenNames x12
  refine Keep.cutP (x := x12) ?_ (fun h13 => ?_)
  · unfold x12
    clear x12
    exact KeepP.of (Keep.step (State.handPub_keep ..) h10 rfl)
  generalize x12 = y14 at *
  extract_lets +onlyGivenNames x15
  refine Keep.cut (x := x15) ?_ (fun h16 => ?_)
  · unfold x15
    clear x15
    refine Keep.forEach ?_ (fun a18 u17 => ?_)
    · exact h13
    have h19 := Keep.refl 0x5002020400100404 u17
    exact (Keep.step (State.raise_keep ..) (Keep.count .trp h19 rfl rfl) rfl)
  generalize x15 = y20 at *
  exact (Keep.step (State.cal_keep ..) (Keep.count .trp h16 rfl rfl) rfl)

theorem State.pubChange_keep (s : State) (p : Nat) (on_ : Bool) (g : Nat) : Keep 0x5002020400100404 s (State.pubChange s p on_ g) := by
  have h0 := Keep.refl 0x5002020400100404 s
  unfold State.pubChange
  refine Keep.ite h0 ?_
  extract_lets +onlyGivenNames x1
  refine Keep.cut (x := x1) (Keep.wr .trp (Keep.wr .trp h0 rfl rfl) rfl rfl) (fun h2 => ?_)
  generalize x1 = y3 at *
  extract_lets +onlyGivenNames x4
  refine Keep.cut (x := x4) (Keep.wr .trp h2 rfl rfl) (fun h5 => ?_)
  generalize x4 = y6 at *
  exact (Keep.step (State.pubSend_keep ..) (Keep.step (State.setPub_keep ..) h5 rfl) rfl)

theorem State.pubStart_keep (s : State) (p : Nat) : Keep 0x5002020400100404 s (State.pubStart s p) := by
  have h0 := Keep.refl 0x5002020400100404 s
  unfold State.pubStart
  extract_lets +onlyGivenNames x1
  refine Keep.cut (x := x1) (Keep.wr .trp (Keep.wr .trp (Keep.wr .trp (Keep.wr .trp h0 rfl rfl) rfl rfl) rfl rfl) rfl rfl) (fun h2 => ?_)
  generalize x1 = y3 at *
  extract_lets +onlyGivenNames x4
  refine Keep.cut (x := x4) (Keep.step (State.setPub_keep ..) h2 rfl) (fun h5 => ?_)
  generalize x4 = y6 at *
  exact (Keep.ite (Keep.step (State.pubSend_keep ..) h5 rfl) h5)

theorem State.pubAgain_keep (s : State) (p : Nat) : Keep 0x5002020400100404 s (State.pubAgain s p) := by
  have h0 := Keep.refl 0x5002020400100404 s
  unfold State.pubAgain
  extract_lets +onlyGivenNames x1
  refine Keep.cut (x := x1) (Keep.wr .trp h0 rfl rfl) (fun h2 => ?_)
  generalize x1 = y3 at *
  exact (Keep.step (State.pubSend_keep ..) (Keep.step (State.setPub_keep ..) h2 rfl) rfl)

theorem execGooseRetransmit_gives (p : Nat) (s : State) : Gives 0xd002020c00100404 s (execGooseRetransmit p s) := by
  have h0 := Keep.refl 0xd002020c00100404 s
  unfold execGooseRetransmit
  refine Gives.ite ?_ ?_
  · exact Gives.ok h0
  · extract_lets +onlyGivenNames x1
    refine Gives.cut (x := x1) (Keep.step (State.advanceTo_keep ..) h0 rfl) (fun h2 => ?_)
    generalize x1 = y3 at *
    exact Gives.ok (Keep.step (State.pubAgain_keep ..) (Keep.step (State.setPub_keep ..) h2 rfl) rfl)

theorem State.showOut_keep (s : State) (t : Nat) (v : Nat) : Keep 0x400 s (State.showOut s t v) := by
  have h0 := Keep.refl 0x400 s
  unfold State.showOut
  exact (Keep.wr .trp h0 rfl rfl)

theorem State.termFire_keep (s : State) (t : Nat) (v : Nat) (d : Decider) : Keep 0x5006020400100404 s (State.termFire s t v d) := by
  have h0 := Keep.refl 0x5006020400100404 s
  unfold State.termFire
  extract_lets +onlyGivenNames x1
  refine Keep.cut (x := x1) (Keep.step (State.setTerm_keep ..) (Keep.wr .trp h0 rfl rfl) rfl) (fun h2 => ?_)
  generalize x1 = y3 at *
  extract_lets +onlyGivenNames x4
  refine Keep.cut (x := x4) (Keep.step (State.cal_keep ..) (Keep.count .trp h2 rfl rfl) rfl) (fun h5 => ?_)
  generalize x4 = y6 at *
  extract_lets +onlyGivenNames x7
  refine Keep.cut (x := x7) (Keep.step (State.raise_keep ..) h5 rfl) (fun h8 => ?_)
  generalize x7 = y9 at *
  extract_lets +onlyGivenNames x10
  refine Keep.cut (x := x10) (Keep.step (State.recNote_keep ..) h8 rfl) (fun h11 => ?_)
  generalize x10 = y12 at *
  exact (Keep.step (State.pubChange_keep ..) h11 rfl)

theorem State.termReset_keep (s : State) (t : Nat) (v : Nat) : Keep 0x5006020400100404 s (State.termReset s t v) := by
  have h0 := Keep.refl 0x5006020400100404 s
  unfold State.termReset
  extract_lets +onlyGivenNames x1
  refine Keep.cut (x := x1) (Keep.step (State.setTerm_keep ..) (Keep.wr .trp h0 rfl rfl) rfl) (fun h2 => ?_)
  generalize x1 = y3 at *
  extract_lets +onlyGivenNames x4
  refine Keep.cut (x := x4) (Keep.step (State.raise_keep ..) (Keep.count .trp h2 rfl rfl) rfl) (fun h5 => ?_)
  generalize x4 = y6 at *
  extract_lets +onlyGivenNames x7
  refine Keep.cut (x := x7) (Keep.step (State.recNote_keep ..) h5 rfl) (fun h8 => ?_)
  generalize x7 = y9 at *
  exact (Keep.ite (Keep.step (State.pubChange_keep ..) h8 rfl) h8)

theorem State.termAct_keep (s : State) (e : TermEv) : Keep 0x5006020400100404 s (State.termAct s e) := by
  have h0 := Keep.refl 0x5006020400100404 s
  unfold State.termAct
  extract_lets +onlyGivenNames x1
  generalize x1 = y2 at *
  extract_lets +onlyGivenNames x3
  generalize x3 = y4 at *
  extract_lets +onlyGivenNames x5
  refine Keep.cut (x := x5) (Keep.wr .trp h0 rfl rfl) (fun h6 => ?_)
  generalize x5 = y7 at *
  extract_lets +onlyGivenNames x8
  generalize x8 = y9 at *
  refine Keep.ite h6 ?_
  extract_lets +onlyGivenNames x10
  refine Keep.cut (x := x10) ?_ (fun h11 => ?_)
  · unfold x10
    clear x10
    refine Keep.ite ?_ h6
    refine Keep.forEach ?_ (fun a13 u12 => ?_)
    · exact h6
    have h14 := Keep.refl 0x5006020400100404 u12
    exact (Keep.step (State.raise_keep ..) h14 rfl)
  generalize x10 = y15 at *
  refine Keep.ite (Keep.ite (Keep.step (State.setTerm_keep ..) h11 rfl) h11) ?_
  extract_lets +onlyGivenNames x16
  refine Keep.cut (x := x16) (Keep.ite (Keep.step (State.setTerm_keep ..) h11 rfl) h11) (fun h17 => ?_)
  generalize x16 = y18 at *
  refine Keep.ite ?_ (Keep.ite (Keep.step (State.termReset_keep ..) h17 rfl) h17)
  split
  · exact h17
  · exact (Keep.ite h17 (Keep.ite (Keep.step (State.termFire_keep ..) h17 rfl) (Keep.count .trp h17 rfl rfl)))

theorem State.termEval_keep (s : State) (t : Nat) (d : Option Decider) (blocked : List Nat) : Keep 0x5006020400100404 s (State.termEval s t d blocked) := by
  have h0 := Keep.refl 0x5006020400100404 s
  unfold State.termEval
  exact (Keep.step (State.termAct_keep ..) h0 rfl)

theorem State.noteTerms_keep (s : State) (cs : List Nat) (d : List Nat → Option Decider) (blocked : List Nat) : Keep 0x2000000000000 s (State.noteTerms s cs d blocked) := by
  have h0 := Keep.refl 0x2000000000000 s
  unfold State.noteTerms
  extract_lets +onlyGivenNames x1
  generalize x1 = y2 at *
  exact (Keep.trp h0 _ rfl)

theorem State.handleTerms_keep (s : State) : Keep 0x5006020400100c04 s (State.handleTerms s) := by
  have h0 := Keep.refl 0x5006020400100c04 s
  unfold State.handleTerms
  extract_lets +onlyGivenNames x1
  generalize x1 = y2 at *
  extract_lets +onlyGivenNames x3
  generalize x3 = y4 at *
  extract_lets +onlyGivenNames x5
  refine Keep.cut (x := x5) (Keep.trp h0 _ rfl) (fun h6 => ?_)
  generalize x5 = y7 at *
  refine Keep.step (State.recHandle_keep ..) ?_ rfl
  refine Keep.forEach ?_ (fun a9 u8 => ?_)
  · exact h6
  have h10 := Keep.refl 0x5006020400100c04 u8
  refine Keep.forEach ?_ (fun a12 u11 => ?_)
  · exact h10
  have h13 := Keep.refl 0x5006020400100c04 u11
  exact (Keep.step (State.termAct_keep ..) h13 rfl)

theorem State.evalTerms_keep (s : State) (cs : List Nat) (d : List Nat → Option Decider) (blocked : List Nat) : Keep 0x5006020400100c04 s (State.evalTerms s cs d blocked) := by
  have h0 := Keep.refl 0x5006020400100c04 s
  unfold State.evalTerms
  exact (Keep.step (State.handleTerms_keep ..) (Keep.step (State.noteTerms_keep ..) h0 rfl) rfl)

theorem State.armTo_keep (s : State) (t : Nat) (b : Bool) : Keep 0x5002020400100404 s (State.armTo s t b) := by
  have h0 := Keep.refl 0x5002020400100404 s
  unfold State.armTo
  refine Keep.ite h0 ?_
  extract_lets +onlyGivenNames x1
  refine Keep.cut (x := x1) (Keep.step (State.raise_keep ..) (Keep.setBitAt .trp (Keep.setBitAt .trp h0 rfl rfl) rfl rfl) rfl) (fun h2 => ?_)
  generalize x1 = y3 at *
  extract_lets +onlyGivenNames x4
  generalize x4 = y5 at *
  extract_lets +onlyGivenNames x6
  generalize x6 = y7 at *
  refine Keep.ite (Keep.ite (Keep.step (State.setTerm_keep ..) h2 rfl) h2) ?_
  refine Keep.ite h2 ?_
  extract_lets +onlyGivenNames x8
  refine Keep.cut (x := x8) (Keep.step (State.setTerm_keep ..) (Keep.ite (Keep.wr .trp h2 rfl rfl) h2) rfl) (fun h9 => ?_)
  generalize x8 = y10 at *
  exact (Keep.ite (Keep.step (State.pubChange_keep ..) h9 rfl) h9)

theorem State.armWrite_keep (s : State) (k : Nat) (val : Nat) (b : Bool) : Keep 0x5002020400104404 s (State.armWrite s k val b) := by
  have h0 := Keep.refl 0x5002020400104404 s
  unfold State.armWrite
  refine Keep.forEach ?_ (fun a2 u1 => ?_)
  · exact h0
  have h3 := Keep.refl 0x5002020400104404 u1
  extract_lets +onlyGivenNames x4
  generalize x4 = y5 at *
  exact (Keep.ite (Keep.setBitAt .rma h3 rfl rfl) (Keep.step (State.armTo_keep ..) h3 rfl))

theorem execTermArmSet_gives (k : Nat) (val : Word) (s : State) : Gives 0x5002020400104404 s (execTermArmSet k val s) := by
  have h0 := Keep.refl 0x5002020400104404 s
  unfold execTermArmSet
  refine Gives.ite ?_ ?_
  · exact Gives.ok h0
  · exact Gives.ok (Keep.step (State.armWrite_keep ..) h0 rfl)

theorem execTermArmClear_gives (k : Nat) (val : Word) (s : State) : Gives 0x5002020400104404 s (execTermArmClear k val s) := by
  have h0 := Keep.refl 0x5002020400104404 s
  unfold execTermArmClear
  refine Gives.ite ?_ ?_
  · exact Gives.ok h0
  · exact Gives.ok (Keep.step (State.armWrite_keep ..) h0 rfl)

theorem execTermUnlatch_gives (k : Nat) (val : Word) (s : State) : Gives 0x5006020400100c04 s (execTermUnlatch k val s) := by
  have h0 := Keep.refl 0x5006020400100c04 s
  unfold execTermUnlatch
  refine Gives.ite ?_ ?_
  · exact Gives.ok h0
  · refine Gives.ok ?_
    refine Keep.step (State.recHandle_keep ..) ?_ rfl
    refine Keep.forEach ?_ (fun a2 u1 => ?_)
    · exact h0
    have h3 := Keep.refl 0x5006020400100c04 u1
    extract_lets +onlyGivenNames x4
    generalize x4 = y5 at *
    exact (Keep.ite h3 (Keep.step (State.termEval_keep ..) (Keep.wr .trp h3 rfl rfl) rfl))

theorem State.setCmpState_keep (s : State) (c : Nat) (n : Nat) (p : Nat × Nat) : Keep 0x4004000400100404 s (State.setCmpState s c n p) := by
  have h0 := Keep.refl 0x4004000400100404 s
  unfold State.setCmpState
  extract_lets +onlyGivenNames x1
  generalize x1 = y2 at *
  extract_lets +onlyGivenNames x3
  refine Keep.cut (x := x3) (Keep.wr .trp (Keep.wr .trp h0 rfl rfl) rfl rfl) (fun h4 => ?_)
  generalize x3 = y5 at *
  extract_lets +onlyGivenNames x6
  refine Keep.cut (x := x6) (Keep.ite (Keep.step (State.raise_keep ..) (Keep.step (State.draw_keep ..) h4 rfl) rfl) h4) (fun h7 => ?_)
  generalize x6 = y8 at *
  exact (Keep.ite (Keep.step (State.recNote_keep ..) h7 rfl) h7)

theorem State.cmpEval_keep (s : State) (c : Nat) (o : Offer) : Keep 0x5006000400100404 s (State.cmpEval s c o) := by
  have h0 := Keep.refl 0x5006000400100404 s
  unfold State.cmpEval
  extract_lets +onlyGivenNames x1
  generalize x1 = y2 at *
  extract_lets +onlyGivenNames x3
  generalize x3 = y4 at *
  extract_lets +onlyGivenNames x5
  generalize x5 = y6 at *
  extract_lets +onlyGivenNames x7
  generalize x7 = y8 at *
  extract_lets +onlyGivenNames x9
  refine Keep.cut (x := x9) (Keep.step (State.cal_keep ..) (Keep.count .trp h0 rfl rfl) rfl) (fun h10 => ?_)
  generalize x9 = y11 at *
  exact (Keep.step (State.setCmp_keep ..) (Keep.step (State.setCmpState_keep ..) h10 rfl) rfl)

theorem State.offer_keep (s : State) (o : Offer) : Keep 0x5006000400100404 s (State.offer s o) := by
  have h0 := Keep.refl 0x5006000400100404 s
  unfold State.offer
  refine Keep.ite h0 ?_
  extract_lets +onlyGivenNames x1
  generalize x1 = y2 at *
  extract_lets +onlyGivenNames x3
  generalize x3 = y4 at *
  extract_lets +onlyGivenNames x5
  refine Keep.cut (x := x5) ?_ (fun h6 => ?_)
  · unfold x5
    clear x5
    refine Keep.forEach ?_ (fun a8 u7 => ?_)
    · exact h0
    have h9 := Keep.refl 0x5006000400100404 u7
    exact (Keep.step (State.cmpEval_keep ..) h9 rfl)
  generalize x5 = y10 at *
  extract_lets +onlyGivenNames x11
  generalize x11 = y12 at *
  extract_lets +onlyGivenNames x13
  generalize x13 = y14 at *
  exact (Keep.step (State.noteTerms_keep ..) h6 rfl)

theorem execComparatorStaleScan_gives (s : State) : Gives 0xd006020c00100c04 s (execComparatorStaleScan s) := by
  have h0 := Keep.refl 0xd006020c00100c04 s
  unfold execComparatorStaleScan
  extract_lets +onlyGivenNames x1
  refine Gives.cut (x := x1) (Keep.step (State.advanceTo_keep ..) h0 rfl) (fun h2 => ?_)
  generalize x1 = y3 at *
  extract_lets +onlyGivenNames x4
  generalize x4 = y5 at *
  extract_lets +onlyGivenNames x6
  refine Gives.cut (x := x6) ?_ (fun h7 => ?_)
  · unfold x6
    clear x6
    refine Keep.forEach ?_ (fun a9 u8 => ?_)
    · exact h2
    have h10 := Keep.refl 0xd006020c00100c04 u8
    exact (Keep.step (State.setCmpState_keep ..) h10 rfl)
  generalize x6 = y11 at *
  exact Gives.ok (Keep.step (State.evalTerms_keep ..) h7 rfl)

theorem State.setGsubState_keep (s : State) (g : Nat) (v : Nat) : Keep 0x400100404 s (State.setGsubState s g v) := by
  have h0 := Keep.refl 0x400100404 s
  unfold State.setGsubState
  extract_lets +onlyGivenNames x1
  generalize x1 = y2 at *
  exact (Keep.ite h0 (Keep.step (State.raise_keep ..) (Keep.wr .trp h0 rfl rfl) rfl))

theorem State.gooseSlot_keep (s : State) (g : Nat) (f : RxFrame) (a : App) (first : Bool) : Keep 0x2008400100404 s (State.gooseSlot s g f a first) := by
  have h0 := Keep.refl 0x2008400100404 s
  unfold State.gooseSlot
  extract_lets +onlyGivenNames x1
  generalize x1 = y2 at *
  extract_lets +onlyGivenNames x3
  generalize x3 = y4 at *
  extract_lets +onlyGivenNames x5
  generalize x5 = y6 at *
  refine Keep.ite (Keep.step (State.raise_keep ..) (Keep.bump .trp h0 rfl rfl) rfl) ?_
  extract_lets +onlyGivenNames x7
  generalize x7 = y8 at *
  extract_lets +onlyGivenNames x9
  generalize x9 = y10 at *
  extract_lets +onlyGivenNames x11
  generalize x11 = y12 at *
  extract_lets +onlyGivenNames x13
  generalize x13 = y14 at *
  extract_lets +onlyGivenNames x15
  generalize x15 = y16 at *
  extract_lets +onlyGivenNames x17
  generalize x17 = y18 at *
  extract_lets +onlyGivenNames x19
  generalize x19 = y20 at *
  extract_lets +onlyGivenNames x21
  generalize x21 = y22 at *
  extract_lets +onlyGivenNames x23
  refine Keep.cut (x := x23) (Keep.wr .trp (Keep.step (State.rtWrite_keep ..) h0 rfl) rfl rfl) (fun h24 => ?_)
  generalize x23 = y25 at *
  extract_lets +onlyGivenNames x26
  generalize x26 = y27 at *
  extract_lets +onlyGivenNames x28
  refine Keep.cut (x := x28) (Keep.trp h24 _ rfl) (fun h29 => ?_)
  generalize x28 = y30 at *
  exact (Keep.ite (Keep.step (State.raise_keep ..) h29 rfl) h29)

theorem State.gooseAccept_keep (s : State) (g : Nat) (f : RxFrame) (a : App) (x : Goose) (auth : Bool) (new : Bool) : Keep 0x1006008400100c04 s (State.gooseAccept s g f a x auth new) := by
  have h0 := Keep.refl 0x1006008400100c04 s
  unfold State.gooseAccept
  extract_lets +onlyGivenNames x1
  generalize x1 = y2 at *
  extract_lets +onlyGivenNames x3
  refine Keep.cut (x := x3) (Keep.step (State.cal_keep ..) h0 rfl) (fun h4 => ?_)
  generalize x3 = y5 at *
  extract_lets +onlyGivenNames x6
  generalize x6 = y7 at *
  extract_lets +onlyGivenNames x8
  refine Keep.cut (x := x8) (Keep.step (State.setGsub_keep ..) h4 rfl) (fun h9 => ?_)
  generalize x8 = y10 at *
  extract_lets +onlyGivenNames x11
  refine Keep.cut (x := x11) (Keep.wr .trp h9 rfl rfl) (fun h12 => ?_)
  generalize x11 = y13 at *
  refine Keep.ite (Keep.wr .trp h12 rfl rfl) ?_
  extract_lets +onlyGivenNames x14
  generalize x14 = y15 at *
  extract_lets +onlyGivenNames x16
  refine Keep.cut (x := x16) (Keep.wr .trp (Keep.wr .trp (Keep.wr .trp h12 rfl rfl) rfl rfl) rfl rfl) (fun h17 => ?_)
  generalize x16 = y18 at *
  extract_lets +onlyGivenNames x19
  refine Keep.cut (x := x19) (Keep.wr .trp (Keep.wr .trp (Keep.wr .trp h17 rfl rfl) rfl rfl) rfl rfl) (fun h20 => ?_)
  generalize x19 = y21 at *
  extract_lets +onlyGivenNames x22
  refine Keep.cut (x := x22) (Keep.step (State.gooseSlot_keep ..) (Keep.step (State.setGsubState_keep ..) (Keep.wr .trp h20 rfl rfl) rfl) rfl) (fun h23 => ?_)
  generalize x22 = y24 at *
  exact (Keep.ite (Keep.step (State.recTrigger_keep ..) h23 rfl) h23)

theorem State.gooseSequence_keep (s : State) (g : Nat) (f : RxFrame) (a : App) (x : Goose) (auth : Bool) : Keep 0x1006008400100c04 s (State.gooseSequence s g f a x auth) := by
  have h0 := Keep.refl 0x1006008400100c04 s
  unfold State.gooseSequence
  refine Keep.ite (Keep.step (State.gooseAccept_keep ..) h0 rfl) ?_
  split
  · exact (Keep.step (State.gooseAccept_keep ..) h0 rfl)
  · exact (Keep.step (State.gooseAccept_keep ..) h0 rfl)
  · exact (Keep.count .trp (Keep.step (State.setGsub_keep ..) h0 rfl) rfl rfl)
  · extract_lets +onlyGivenNames x1
    generalize x1 = y2 at *
    extract_lets +onlyGivenNames x3
    generalize x3 = y4 at *
    refine Keep.ite (Keep.step (State.gooseAccept_keep ..) (Keep.step (State.raise_keep ..) h0 rfl) rfl) ?_
    extract_lets +onlyGivenNames x5
    refine Keep.cut (x := x5) (Keep.step (State.setGsub_keep ..) h0 rfl) (fun h6 => ?_)
    generalize x5 = y7 at *
    exact (Keep.step (State.raise_keep ..) (Keep.count .trp h6 rfl rfl) rfl)

theorem State.gooseMalformed_keep (s : State) (who : Item) (a : App) : Keep 0x400100404 s (State.gooseMalformed s who a) := by
  have h0 := Keep.refl 0x400100404 s
  unfold State.gooseMalformed
  exact (Keep.step (State.raise_keep ..) (Keep.count .trp h0 rfl rfl) rfl)

theorem State.gooseChecks_keep (s : State) (f : RxFrame) (a : App) : Keep 0x1006008400100c04 s (State.gooseChecks s f a) := by
  have h0 := Keep.refl 0x1006008400100c04 s
  unfold State.gooseChecks
  split
  · exact (Keep.step (State.gooseMalformed_keep ..) h0 rfl)
  · extract_lets +onlyGivenNames x1
    generalize x1 = y2 at *
    split
    · exact (Keep.step (State.raise_keep ..) (Keep.count .trp h0 rfl rfl) rfl)
    · extract_lets +onlyGivenNames x3
      generalize x3 = y4 at *
      extract_lets +onlyGivenNames x5
      generalize x5 = y6 at *
      refine Keep.ite (Keep.count .trp h0 rfl rfl) ?_
      extract_lets +onlyGivenNames x7
      generalize x7 = y8 at *
      extract_lets +onlyGivenNames x9
      generalize x9 = y10 at *
      extract_lets +onlyGivenNames x11
      generalize x11 = y12 at *
      refine Keep.ite (Keep.count .trp (Keep.step (State.setGsub_keep ..) h0 rfl) rfl rfl) ?_
      extract_lets +onlyGivenNames x13
      refine Keep.cut (x := x13) (Keep.step (State.setGsub_keep ..) h0 rfl) (fun h14 => ?_)
      generalize x13 = y15 at *
      split
      · exact (Keep.step (State.raise_keep ..) (Keep.count .trp h14 rfl rfl) rfl)
      · split
        · exact (Keep.step (State.gooseMalformed_keep ..) h14 rfl)
        · exact (Keep.ite (Keep.step (State.raise_keep ..) (Keep.count .trp h14 rfl rfl) rfl) (Keep.step (State.gooseSequence_keep ..) h14 rfl))

theorem execGooseFrameIntake_gives (s : State) : Gives 0x1006048400100c04 s (execGooseFrameIntake s) := by
  have h0 := Keep.refl 0x1006048400100c04 s
  unfold execGooseFrameIntake
  split
  · exact Gives.ok h0
  · extract_lets +onlyGivenNames x1
    generalize x1 = y2 at *
    extract_lets +onlyGivenNames x3
    refine Gives.cut (x := x3) (Keep.count .trp (Keep.ppl h0 _ rfl) rfl rfl) (fun h4 => ?_)
    generalize x3 = y5 at *
    split
    · exact Gives.ok (Keep.step (State.raise_keep ..) (Keep.count .trp h4 rfl rfl) rfl)
    · exact Gives.ok (Keep.step (State.gooseChecks_keep ..) h4 rfl)

theorem execGooseLossScan_gives (s : State) : Gives 0x8000000c00100404 s (execGooseLossScan s) := by
  have h0 := Keep.refl 0x8000000c00100404 s
  unfold execGooseLossScan
  extract_lets +onlyGivenNames x1
  refine Gives.cut (x := x1) (Keep.step (State.advanceTo_keep ..) h0 rfl) (fun h2 => ?_)
  generalize x1 = y3 at *
  extract_lets +onlyGivenNames x4
  generalize x4 = y5 at *
  refine Gives.ok ?_
  refine Keep.forEach ?_ (fun a7 u6 => ?_)
  · exact h2
  have h8 := Keep.refl 0x8000000c00100404 u6
  exact (Keep.step (State.setGsubState_keep ..) (Keep.count .trp h8 rfl rfl) rfl)

end Sys2Proof.Machine
end

