-- ==== Sys2Proof/Laws/KeepPhasor.lean ====
section
/-!
SUPPORT. What each operation and each command of Machine/Phasor.lean can do to the state: the zones and parts it stays within.
-/
namespace Sys2Proof.Machine

theorem State.setPch_keep (s : State) (c : Nat) (v : PheCh) : Keep 0x1000000000000 s (State.setPch s c v) := by
  have h0 := Keep.refl 0x1000000000000 s
  unfold State.setPch
  exact (Keep.phe h0 _ rfl)

theorem State.setPgrp_keep (s : State) (g : Nat) (v : PheGrp) : Keep 0x1000000000000 s (State.setPgrp s g v) := by
  have h0 := Keep.refl 0x1000000000000 s
  unfold State.setPgrp
  exact (Keep.phe h0 _ rfl)

theorem State.histPut_keep (s : State) (c : Nat) (n : Nat) (cell : Nat) : Keep 0x1008400100204 s (State.histPut s c n cell) := by
  have h0 := Keep.refl 0x1008400100204 s
  unfold State.histPut
  refine Keep.step (State.setPch_keep ..) (Keep.step (State.rtWrite_keep ..) (Keep.ite ?_ h0) rfl) rfl
  exact Keep.step (State.raise_keep ..) (Keep.count .phe h0 rfl rfl) rfl

theorem State.askPrediction_keep (s : State) (c : Nat) (t : Rat) : Keep 0x200 s (State.askPrediction s c t).1 := by
  have h0 := Keep.refl 0x200 s
  show KeepP 0x200 s (State.askPrediction s c t)
  unfold State.askPrediction
  split
  · exact KeepP.mk (Keep.count .phe h0 rfl rfl)
  · exact KeepP.mk (Keep.count .phe h0 rfl rfl)

theorem State.pheSat_keep (s : State) (c : Nat) (st : Nat) : Keep 0x400100204 s (State.pheSat s c st) := by
  have h0 := Keep.refl 0x400100204 s
  unfold State.pheSat
  exact (Keep.ite (Keep.step (State.raise_keep ..) (Keep.count .phe h0 rfl rfl) rfl) h0)

theorem State.countEstimates_keep (s : State) (c : Nat) (i : PheIn) : Keep 0x4000000000000200 s (State.countEstimates s c i) := by
  have h0 := Keep.refl 0x4000000000000200 s
  unfold State.countEstimates
  extract_lets +onlyGivenNames x1
  generalize x1 = y2 at *
  extract_lets +onlyGivenNames x3
  generalize x3 = y4 at *
  extract_lets +onlyGivenNames x5
  generalize x5 = y6 at *
  extract_lets +onlyGivenNames x7
  refine Keep.cut (x := x7) (Keep.count .phe (Keep.count .phe h0 rfl rfl) rfl rfl) (fun h8 => ?_)
  generalize x7 = y9 at *
  exact (Keep.free h8 _ rfl)

theorem State.phePlace_keep (s : State) (c : Nat) (i : PheIn) (stamp : Nat) : Keep 0x5007000400100604 s (State.phePlace s c i stamp) := by
  have h0 := Keep.refl 0x5007000400100604 s
  unfold State.phePlace
  extract_lets +onlyGivenNames x1
  generalize x1 = y2 at *
  refine Keep.ite (Keep.step (State.raise_keep ..) (Keep.count .phe h0 rfl rfl) rfl) ?_
  extract_lets +onlyGivenNames x3
  generalize x3 = y4 at *
  extract_lets +onlyGivenNames x5
  refine Keep.cut (x := x5) (Keep.step (State.countEstimates_keep ..) h0 rfl) (fun h6 => ?_)
  generalize x5 = y7 at *
  extract_lets +onlyGivenNames x8
  generalize x8 = y9 at *
  extract_lets +onlyGivenNames x10
  refine Keep.cut (x := x10) (Keep.step (State.pheSat_keep ..) (Keep.step (State.setPch_keep ..) h6 rfl) rfl) (fun h11 => ?_)
  generalize x10 = y12 at *
  extract_lets +onlyGivenNames x13
  refine Keep.cut (x := x13) (Keep.step (State.offer_keep ..) (Keep.step (State.cal_keep ..) (Keep.count .phe h11 rfl rfl) rfl) rfl) (fun h14 => ?_)
  generalize x13 = y15 at *
  refine Keep.forEach ?_ (fun a17 u16 => ?_)
  · exact h14
  have h18 := Keep.refl 0x5007000400100604 u16
  extract_lets +onlyGivenNames x19
  generalize x19 = y20 at *
  split
  · extract_lets +onlyGivenNames x21
    generalize x21 = y22 at *
    extract_lets +onlyGivenNames x23
    generalize x23 = y24 at *
    extract_lets +onlyGivenNames x25
    generalize x25 = y26 at *
    extract_lets +onlyGivenNames x27
    refine Keep.cut (x := x27) (Keep.step (State.setPgrp_keep ..) h18 rfl) (fun h28 => ?_)
    generalize x27 = y29 at *
    exact (Keep.step (State.offer_keep ..) (Keep.count .phe h28 rfl rfl) rfl)
  · exact h18

theorem State.putRecord_keep (s : State) (a : Nat) (b : List Byte) : Keep 0x8000000000 s (State.putRecord s a b) := by
  have h0 := Keep.refl 0x8000000000 s
  unfold State.putRecord
  extract_lets +onlyGivenNames x1
  generalize x1 = y2 at *
  exact (Keep.step (State.rtWrite_keep ..) (Keep.step (State.rtWrite_keep ..) h0 rfl) rfl)

theorem State.stopRecord_keep (s : State) (a : Nat) : Keep 0x8000000000 s (State.stopRecord s a) := by
  have h0 := Keep.refl 0x8000000000 s
  unfold State.stopRecord
  extract_lets +onlyGivenNames x1
  generalize x1 = y2 at *
  extract_lets +onlyGivenNames x3
  generalize x3 = y4 at *
  exact (Keep.step (State.putRecord_keep ..) h0 rfl)

theorem State.validChange_keep (s : State) (was : Bool) (now : Bool) (id : Item) (status : Nat) : Keep 0x400100004 s (State.validChange s was now id status) := by
  have h0 := Keep.refl 0x400100004 s
  unfold State.validChange
  exact (Keep.ite h0 (Keep.step (State.raise_keep ..) h0 rfl))

theorem State.feedGrain_keep (s : State) (group : Bool) (k : Nat) (i : PheIn) (turns : Rat) (mag : Rat) (rated : Rat) (freq : Rat) (prov : Nat) (nfill : Nat) : Keep 0x4000000c0010000c s (State.feedGrain s group k i turns mag rated freq prov nfill) := by
  have h0 := Keep.refl 0x4000000c0010000c s
  unfold State.feedGrain
  extract_lets +onlyGivenNames x1
  generalize x1 = y2 at *
  extract_lets +onlyGivenNames x3
  generalize x3 = y4 at *
  refine Keep.forEach ?_ (fun a6 u5 => ?_)
  · exact h0
  have h7 := Keep.refl 0x4000000c0010000c u5
  extract_lets +onlyGivenNames x8
  generalize x8 = y9 at *
  extract_lets +onlyGivenNames x10
  refine Keep.cut (x := x10) (Keep.ite (Keep.step (State.grainUpdate_keep ..) h7 rfl) h7) (fun h11 => ?_)
  generalize x10 = y12 at *
  exact (Keep.ite (Keep.step (State.grainUpdate_keep ..) h11 rfl) h11)

theorem State.harmonics_keep (s : State) (c : Nat) (i : PheIn) (r : ChRes) : Keep 0x1000400100204 s (State.harmonics s c i r) := by
  have h0 := Keep.refl 0x1000400100204 s
  unfold State.harmonics
  extract_lets +onlyGivenNames x1
  generalize x1 = y2 at *
  extract_lets +onlyGivenNames x3
  generalize x3 = y4 at *
  extract_lets +onlyGivenNames x5
  refine Keep.cut (x := x5) (Keep.step (State.setPch_keep ..) h0 rfl) (fun h6 => ?_)
  generalize x5 = y7 at *
  refine Keep.ite h6 ?_
  refine Keep.ite (Keep.step (State.raise_keep ..) (Keep.count .phe h6 rfl rfl) rfl) ?_
  extract_lets +onlyGivenNames x8
  generalize x8 = y9 at *
  extract_lets +onlyGivenNames x10
  generalize x10 = y11 at *
  extract_lets +onlyGivenNames x12
  generalize x12 = y13 at *
  extract_lets +onlyGivenNames x14
  generalize x14 = y15 at *
  extract_lets +onlyGivenNames x16
  generalize x16 = y17 at *
  extract_lets +onlyGivenNames x18
  generalize x18 = y19 at *
  extract_lets +onlyGivenNames x20
  refine Keep.cut (x := x20) (Keep.step (State.pheSat_keep ..) h6 rfl) (fun h21 => ?_)
  generalize x20 = y22 at *
  extract_lets +onlyGivenNames x23
  generalize x23 = y24 at *
  extract_lets +onlyGivenNames x25
  generalize x25 = y26 at *
  extract_lets +onlyGivenNames x27
  generalize x27 = y28 at *
  extract_lets +onlyGivenNames x29
  generalize x29 = y30 at *
  extract_lets +onlyGivenNames x31
  generalize x31 = y32 at *
  extract_lets +onlyGivenNames x33
  generalize x33 = y34 at *
  exact (Keep.step (State.setPch_keep ..) h21 rfl)

theorem execHarmonicRecordWritten_gives (c : Nat) (s : State) : Gives 0x1001008400100204 s (execHarmonicRecordWritten c s) := by
  have h0 := Keep.refl 0x1001008400100204 s
  unfold execHarmonicRecordWritten
  split
  · exact Gives.ok h0
  · extract_lets +onlyGivenNames x1
    generalize x1 = y2 at *
    extract_lets +onlyGivenNames x3
    refine Gives.cut (x := x3) (Keep.step (State.setPch_keep ..) h0 rfl) (fun h4 => ?_)
    generalize x3 = y5 at *
    exact Gives.ok (Keep.step (State.cal_keep ..) (Keep.count .phe (Keep.step (State.putRecord_keep ..) h4 rfl) rfl rfl) rfl)

theorem State.reportChan_keep (s : State) (c : Nat) (i : PheIn) : Keep 0x5001008c0010020c s (State.reportChan s c i) := by
  have h0 := Keep.refl 0x5001008c0010020c s
  unfold State.reportChan
  extract_lets +onlyGivenNames x1
  generalize x1 = y2 at *
  extract_lets +onlyGivenNames x3
  generalize x3 = y4 at *
  extract_lets +onlyGivenNames x5
  refine Keep.cut (x := x5) (Keep.free h0 _ rfl) (fun h6 => ?_)
  generalize x5 = y7 at *
  extract_lets +onlyGivenNames x8
  refine Keep.cut (x := x8) (Keep.step (State.cal_keep ..) (Keep.count .phe (Keep.step (State.putRecord_keep ..) h6 rfl) rfl rfl) rfl) (fun h9 => ?_)
  generalize x8 = y10 at *
  extract_lets +onlyGivenNames x11
  generalize x11 = y12 at *
  extract_lets +onlyGivenNames x13
  refine Keep.cut (x := x13) (Keep.step (State.pheSat_keep ..) (Keep.step (State.validChange_keep ..) h9 rfl) rfl) (fun h14 => ?_)
  generalize x13 = y15 at *
  extract_lets +onlyGivenNames x16
  generalize x16 = y17 at *
  extract_lets +onlyGivenNames x18
  generalize x18 = y19 at *
  extract_lets +onlyGivenNames x20
  refine Keep.cut (x := x20) (Keep.step (State.setPch_keep ..) h14 rfl) (fun h21 => ?_)
  generalize x20 = y22 at *
  extract_lets +onlyGivenNames x23
  refine Keep.cut (x := x23) (Keep.step (State.feedGrain_keep ..) h21 rfl) (fun h24 => ?_)
  generalize x23 = y25 at *
  exact (Keep.step (State.harmonics_keep ..) h24 rfl)

theorem State.reportGrp_keep (s : State) (g : Nat) (i : PheIn) : Keep 0x4001008c0010020c s (State.reportGrp s g i) := by
  have h0 := Keep.refl 0x4001008c0010020c s
  unfold State.reportGrp
  split
  · extract_lets +onlyGivenNames x1
    generalize x1 = y2 at *
    extract_lets +onlyGivenNames x3
    generalize x3 = y4 at *
    extract_lets +onlyGivenNames x5
    refine Keep.cut (x := x5) (Keep.count .phe (Keep.step (State.putRecord_keep ..) h0 rfl) rfl rfl) (fun h6 => ?_)
    generalize x5 = y7 at *
    extract_lets +onlyGivenNames x8
    generalize x8 = y9 at *
    extract_lets +onlyGivenNames x10
    refine Keep.cut (x := x10) (Keep.step (State.validChange_keep ..) h6 rfl) (fun h11 => ?_)
    generalize x10 = y12 at *
    extract_lets +onlyGivenNames x13
    generalize x13 = y14 at *
    extract_lets +onlyGivenNames x15
    refine Keep.cut (x := x15) (Keep.step (State.setPgrp_keep ..) h11 rfl) (fun h16 => ?_)
    generalize x15 = y17 at *
    exact (Keep.step (State.feedGrain_keep ..) h16 rfl)
  · exact h0

theorem State.recordStops_keep (s : State) (was : Bool) (id : Item) (a : Nat) : Keep 0x8400100004 s (State.recordStops s was id a) := by
  have h0 := Keep.refl 0x8400100004 s
  unfold State.recordStops
  extract_lets +onlyGivenNames x1
  refine Keep.cut (x := x1) (Keep.step (State.stopRecord_keep ..) h0 rfl) (fun h2 => ?_)
  generalize x1 = y3 at *
  exact (Keep.step (State.validChange_keep ..) h2 rfl)

theorem State.chBecomes_keep (s : State) (c : Nat) (p : PheCh) : Keep 0x1008400100004 s (State.chBecomes s c p) := by
  have h0 := Keep.refl 0x1008400100004 s
  unfold State.chBecomes
  extract_lets +onlyGivenNames x1
  generalize x1 = y2 at *
  exact (Keep.step (State.recordStops_keep ..) (Keep.step (State.setPch_keep ..) h0 rfl) rfl)

theorem State.chRestart_keep (s : State) (c : Nat) (n : Nat) : Keep 0x1008400100204 s (State.chRestart s c n) := by
  have h0 := Keep.refl 0x1008400100204 s
  unfold State.chRestart
  exact (Keep.count .phe (Keep.step (State.chBecomes_keep ..) h0 rfl) rfl rfl)

theorem State.chStop_keep (s : State) (c : Nat) : Keep 0x1008400100004 s (State.chStop s c) := by
  have h0 := Keep.refl 0x1008400100004 s
  unfold State.chStop
  exact (Keep.ite h0 (Keep.step (State.chBecomes_keep ..) h0 rfl))

theorem State.chRestartNow_keep (s : State) (c : Nat) : Keep 0x1008400100204 s (State.chRestartNow s c) := by
  have h0 := Keep.refl 0x1008400100204 s
  unfold State.chRestartNow
  exact (Keep.ite (Keep.step (State.chRestart_keep ..) h0 rfl) (Keep.step (State.chBecomes_keep ..) h0 rfl))

theorem State.grpRestart_keep (s : State) (g : Nat) : Keep 0x1008400100004 s (State.grpRestart s g) := by
  have h0 := Keep.refl 0x1008400100004 s
  unfold State.grpRestart
  extract_lets +onlyGivenNames x1
  generalize x1 = y2 at *
  exact (Keep.step (State.recordStops_keep ..) (Keep.step (State.setPgrp_keep ..) h0 rfl) rfl)

theorem State.bayRestartPhe_keep (s : State) (b : Nat) (n : Nat) : Keep 0x1008400100204 s (State.bayRestartPhe s b n) := by
  have h0 := Keep.refl 0x1008400100204 s
  unfold State.bayRestartPhe
  extract_lets +onlyGivenNames x1
  generalize x1 = y2 at *
  extract_lets +onlyGivenNames x3
  refine Keep.cut (x := x3) ?_ (fun h4 => ?_)
  · unfold x3
    clear x3
    refine Keep.forEach ?_ (fun a6 u5 => ?_)
    · exact h0
    have h7 := Keep.refl 0x1008400100204 u5
    exact (Keep.ite (Keep.step (State.chRestart_keep ..) h7 rfl) (Keep.step (State.chStop_keep ..) h7 rfl))
  generalize x3 = y8 at *
  refine Keep.forEach ?_ (fun a10 u9 => ?_)
  · exact h4
  have h11 := Keep.refl 0x1008400100204 u9
  exact (Keep.step (State.grpRestart_keep ..) h11 rfl)

theorem State.showPheLoad_keep (s : State) : Keep 0x200 s (State.showPheLoad s) := by
  have h0 := Keep.refl 0x200 s
  unfold State.showPheLoad
  exact (Keep.wr .phe h0 rfl rfl)

theorem State.pheRow_keep (s : State) (b : Nat) (i : PheIn) (cells : Nat → Nat) : Keep 0x5001008c0010020c s (State.pheRow s b i cells) := by
  have h0 := Keep.refl 0x5001008c0010020c s
  unfold State.pheRow
  extract_lets +onlyGivenNames x1
  generalize x1 = y2 at *
  extract_lets +onlyGivenNames x3
  refine Keep.cut (x := x3) ?_ (fun h4 => ?_)
  · unfold x3
    clear x3
    refine Keep.forEach ?_ (fun a6 u5 => ?_)
    · exact h0
    have h7 := Keep.refl 0x5001008c0010020c u5
    extract_lets +onlyGivenNames x8
    refine Keep.cut (x := x8) (Keep.ite h7 (Keep.step (State.chRestart_keep ..) h7 rfl)) (fun h9 => ?_)
    generalize x8 = y10 at *
    extract_lets +onlyGivenNames x11
    generalize x11 = y12 at *
    exact (Keep.ite h9 (Keep.step (State.histPut_keep ..) h9 rfl))
  generalize x3 = y13 at *
  extract_lets +onlyGivenNames x14
  refine Keep.cut (x := x14) ?_ (fun h15 => ?_)
  · unfold x14
    clear x14
    refine Keep.forEach ?_ (fun a17 u16 => ?_)
    · exact h4
    have h18 := Keep.refl 0x5001008c0010020c u16
    exact (Keep.step (State.reportChan_keep ..) h18 rfl)
  generalize x14 = y19 at *
  refine Keep.forEach ?_ (fun a21 u20 => ?_)
  · exact h15
  have h22 := Keep.refl 0x5001008c0010020c u20
  exact (Keep.step (State.reportGrp_keep ..) h22 rfl)

theorem State.report_keep (s : State) (i : Nat) (n : Nat) : Keep 0x1800003400701204 s (State.report s i n) := by
  have h0 := Keep.refl 0x1800003400701204 s
  unfold State.report
  extract_lets +onlyGivenNames x1
  generalize x1 = y2 at *
  extract_lets +onlyGivenNames x3
  generalize x3 = y4 at *
  extract_lets +onlyGivenNames x5
  generalize x5 = y6 at *
  extract_lets +onlyGivenNames x7
  generalize x7 = y8 at *
  extract_lets +onlyGivenNames x9
  generalize x9 = y10 at *
  extract_lets +onlyGivenNames x11
  generalize x11 = y12 at *
  extract_lets +onlyGivenNames x13
  refine Keep.cutP (x := x13) ?_ (fun h14 => ?_)
  · unfold x13
    clear x13
    exact KeepP.of (Keep.step (State.deliver_keep ..) h0 rfl)
  generalize x13 = y15 at *
  extract_lets +onlyGivenNames x16
  refine Keep.cut (x := x16) ?_ (fun h17 => ?_)
  · unfold x16
    clear x16
    unfold State.deliverOutcome
    split
    · exact h14
    · dsimp -zeta only
      exact (Keep.step (State.raise_keep ..) (Keep.bump .phe h14 rfl rfl) rfl)
    · dsimp -zeta only
      exact (Keep.step (State.raise_keep ..) (Keep.bump .phe h14 rfl rfl) rfl)
    · dsimp -zeta only
      exact (Keep.step (State.raise_keep ..) (Keep.bump .phe h14 rfl rfl) rfl)
  generalize x16 = y18 at *
  exact (Keep.wr .phe h17 rfl rfl)

end Sys2Proof.Machine
end

