-- ==== Sys2Proof/Laws/KeepEvents.lean ====
section
/-!
SUPPORT. What each operation and each command of Machine/Events.lean can do to the state: the zones and parts it stays within.
-/
namespace Sys2Proof.Machine

theorem State.showJournal_keep (s : State) : Keep 0x4 s (State.showJournal s) := by
  have h0 := Keep.refl 0x4 s
  unfold State.showJournal
  exact (Keep.wr .evt (Keep.wr .evt h0 rfl rfl) rfl rfl)

theorem State.startJournal_keep (s : State) : Keep 0x4400000004 s (State.startJournal s) := by
  have h0 := Keep.refl 0x4400000004 s
  unfold State.startJournal
  refine Keep.ite (Keep.step (State.showJournal_keep ..) h0 rfl) ?_
  extract_lets +onlyGivenNames x1
  refine Keep.cut (x := x1) (Keep.step (State.mramWrite_keep ..) h0 rfl) (fun h2 => ?_)
  generalize x1 = y3 at *
  exact (Keep.step (State.showJournal_keep ..) (Keep.evt h2 _ rfl) rfl)

theorem State.journal_keep (s : State) (r : EvRec) : Keep 0x4400000004 s (State.journal s r) := by
  have h0 := Keep.refl 0x4400000004 s
  unfold State.journal
  refine Keep.ite ?_ (Keep.step (State.startJournal_keep ..) (Keep.evt h0 _ rfl) rfl)
  extract_lets +onlyGivenNames x1
  refine Keep.cut (x := x1) (Keep.count .evt h0 rfl rfl) (fun h2 => ?_)
  generalize x1 = y3 at *
  exact (Keep.evt h2 _ rfl)

theorem State.scanJournal_keep (s : State) : Keep 0x4 s (State.scanJournal s) := by
  have h0 := Keep.refl 0x4 s
  unfold State.scanJournal
  extract_lets +onlyGivenNames x1
  generalize x1 = y2 at *
  exact (Keep.wr64 .evt h0 rfl rfl)

theorem State.showEvtOut_keep (s : State) : Keep 0x200000000 s (State.showEvtOut s) := by
  have h0 := Keep.refl 0x200000000 s
  unfold State.showEvtOut
  extract_lets +onlyGivenNames x1
  generalize x1 = y2 at *
  exact (Keep.pins h0 _ rfl)

theorem State.routeOut_keep (s : State) (src : Nat) : Keep 0x600000004 s (State.routeOut s src) := by
  have h0 := Keep.refl 0x600000004 s
  unfold State.routeOut
  extract_lets +onlyGivenNames x1
  refine Keep.cut (x := x1) (Keep.setBitAt .evt h0 rfl rfl) (fun h2 => ?_)
  generalize x1 = y3 at *
  extract_lets +onlyGivenNames x4
  generalize x4 = y5 at *
  extract_lets +onlyGivenNames x6
  refine Keep.cut (x := x6) (Keep.ite (Keep.evt h2 _ rfl) h2) (fun h7 => ?_)
  generalize x6 = y8 at *
  exact (Keep.step (State.showEvtOut_keep ..) h7 rfl)

theorem State.routeVector_keep (s : State) (src : Nat) (v : Nat) : Keep 0x1000000400700004 s (State.routeVector s src v) := by
  have h0 := Keep.refl 0x1000000400700004 s
  unfold State.routeVector
  split
  · exact h0
  · extract_lets +onlyGivenNames x1
    generalize x1 = y2 at *
    extract_lets +onlyGivenNames x3
    refine Keep.cut (x := x3) (Keep.setBitAt .evt h0 rfl rfl) (fun h4 => ?_)
    generalize x3 = y5 at *
    exact (Keep.ite (Keep.count .evt h4 rfl rfl) (Keep.step (State.msixFire_keep ..) h4 rfl))

theorem State.routeRing_keep (s : State) (b : List Byte) : Keep 0x1800003400701004 s (State.routeRing s b) := by
  have h0 := Keep.refl 0x1800003400701004 s
  unfold State.routeRing
  split
  · exact (Keep.count .evt h0 rfl rfl)
  · split
    · rename_i q1
      refine Keep.ofPair q1 ?_
      exact (Keep.step (State.deliver_keep ..) h0 rfl)
    · refine Keep.count .evt ?_ rfl rfl
      rename_i q2
      refine Keep.ofPair q2 ?_
      exact (Keep.step (State.deliver_keep ..) h0 rfl)

theorem State.routeWake_keep (s : State) (src : Nat) : Keep 0x1000001600300004 s (State.routeWake s src) := by
  have h0 := Keep.refl 0x1000001600300004 s
  unfold State.routeWake
  exact (Keep.ite h0 (Keep.ite (Keep.step (State.raise_keep ..) (Keep.pins h0 _ rfl) rfl) (Keep.ite h0 (Keep.step (State.raise_keep ..) (Keep.step (State.tlpOut_keep ..) (Keep.hif h0 _ rfl) rfl) rfl))))

theorem State.routeClusters_keep (s : State) (src : Nat) (mask : Nat) : Keep 0x4 s (State.routeClusters s src mask) := by
  have h0 := Keep.refl 0x4 s
  unfold State.routeClusters
  refine Keep.forEach ?_ (fun a2 u1 => ?_)
  · exact h0
  have h3 := Keep.refl 0x4 u1
  exact (Keep.ite (Keep.wr .evt h3 rfl rfl) h3)

theorem State.release_keep (s : State) (r : EvRec) : Keep 0x5800007600701004 s (State.release s r) := by
  have h0 := Keep.refl 0x5800007600701004 s
  unfold State.release
  extract_lets +onlyGivenNames x1
  generalize x1 = y2 at *
  extract_lets +onlyGivenNames x3
  refine Keep.cut (x := x3) (Keep.step (State.draw_keep ..) h0 rfl) (fun h4 => ?_)
  generalize x3 = y5 at *
  extract_lets +onlyGivenNames x6
  refine Keep.cut (x := x6) (Keep.ite (Keep.step (State.journal_keep ..) h4 rfl) h4) (fun h7 => ?_)
  generalize x6 = y8 at *
  refine Keep.ite h7 ?_
  extract_lets +onlyGivenNames x9
  refine Keep.cut (x := x9) (Keep.count .evt h7 rfl rfl) (fun h10 => ?_)
  generalize x9 = y11 at *
  extract_lets +onlyGivenNames x12
  refine Keep.cut (x := x12) (Keep.ite (Keep.step (State.routeRing_keep ..) h10 rfl) h10) (fun h13 => ?_)
  generalize x12 = y14 at *
  extract_lets +onlyGivenNames x15
  refine Keep.cut (x := x15) (Keep.ite (Keep.step (State.routeVector_keep ..) h13 rfl) h13) (fun h16 => ?_)
  generalize x15 = y17 at *
  extract_lets +onlyGivenNames x18
  refine Keep.cut (x := x18) (Keep.ite (Keep.step (State.routeOut_keep ..) h16 rfl) h16) (fun h19 => ?_)
  generalize x18 = y20 at *
  extract_lets +onlyGivenNames x21
  refine Keep.cut (x := x21) (Keep.step (State.routeClusters_keep ..) h19 rfl) (fun h22 => ?_)
  generalize x21 = y23 at *
  exact (Keep.step (State.routeWake_keep ..) h22 rfl)

theorem execEventRelease_gives (s : State) : Gives 0xd800007e00701004 s (execEventRelease s) := by
  have h0 := Keep.refl 0xd800007e00701004 s
  unfold execEventRelease
  split
  · exact Gives.ok h0
  · extract_lets +onlyGivenNames x1
    refine Gives.cut (x := x1) (Keep.step (State.advanceTo_keep ..) h0 rfl) (fun h2 => ?_)
    generalize x1 = y3 at *
    exact Gives.ok (Keep.step (State.release_keep ..) (Keep.evt h2 _ rfl) rfl)

theorem execRateLimitWindowEnd_gives (src : Nat) (inst : Nat) (s : State) : Gives 0x8000000c00000004 s (execRateLimitWindowEnd src inst s) := by
  have h0 := Keep.refl 0x8000000c00000004 s
  unfold execRateLimitWindowEnd
  split
  · exact Gives.ok h0
  · extract_lets +onlyGivenNames x1
    refine Gives.cut (x := x1) (Keep.step (State.advanceTo_keep ..) h0 rfl) (fun h2 => ?_)
    generalize x1 = y3 at *
    extract_lets +onlyGivenNames x4
    generalize x4 = y5 at *
    refine Gives.ite ?_ ?_
    · exact Gives.ok (Keep.evt h2 _ rfl)
    · extract_lets +onlyGivenNames x6
      generalize x6 = y7 at *
      extract_lets +onlyGivenNames x8
      generalize x8 = y9 at *
      extract_lets +onlyGivenNames x10
      generalize x10 = y11 at *
      exact Gives.ok (Keep.step (State.holdRec_keep ..) (Keep.evt h2 _ rfl) rfl)

theorem execJournalSlotWritten_gives (s : State) : Gives 0x9000004c00100004 s (execJournalSlotWritten s) := by
  have h0 := Keep.refl 0x9000004c00100004 s
  unfold execJournalSlotWritten
  refine Gives.ite ?_ ?_
  · exact Gives.ok h0
  · split
    · exact Gives.ok h0
    · extract_lets +onlyGivenNames x1
      refine Gives.cut (x := x1) (Keep.step (State.advanceTo_keep ..) h0 rfl) (fun h2 => ?_)
      generalize x1 = y3 at *
      extract_lets +onlyGivenNames x4
      generalize x4 = y5 at *
      extract_lets +onlyGivenNames x6
      refine Gives.cut (x := x6) (Keep.step (State.mramWrite_keep ..) h2 rfl) (fun h7 => ?_)
      generalize x6 = y8 at *
      extract_lets +onlyGivenNames x9
      refine Gives.cut (x := x9) (Keep.wr64 .evt h7 rfl rfl) (fun h10 => ?_)
      generalize x9 = y11 at *
      extract_lets +onlyGivenNames x12
      refine Gives.cut (x := x12) (Keep.step (State.cal_keep ..) (Keep.count .evt h10 rfl rfl) rfl) (fun h13 => ?_)
      generalize x12 = y14 at *
      extract_lets +onlyGivenNames x15
      generalize x15 = y16 at *
      extract_lets +onlyGivenNames x17
      refine Gives.cut (x := x17) (Keep.evt h13 _ rfl) (fun h18 => ?_)
      generalize x17 = y19 at *
      extract_lets +onlyGivenNames x20
      refine Gives.cut (x := x20) (Keep.ite (Keep.step (State.raise_keep ..) h18 rfl) h18) (fun h21 => ?_)
      generalize x20 = y22 at *
      exact Gives.ok (Keep.step (State.startJournal_keep ..) h21 rfl)

theorem execEvtOutPulseEnd_gives (s : State) : Gives 0x8000000a00000000 s (execEvtOutPulseEnd s) := by
  have h0 := Keep.refl 0x8000000a00000000 s
  unfold execEvtOutPulseEnd
  exact Gives.ok (Keep.step (State.showEvtOut_keep ..) (Keep.step (State.advanceTo_keep ..) h0 rfl) rfl)

theorem State.postBuffer_keep (s : State) (g : Nat) (op : Nat) : Keep 0x2000000000 s (State.postBuffer s g op) := by
  have h0 := Keep.refl 0x2000000000 s
  unfold State.postBuffer
  extract_lets +onlyGivenNames x1
  generalize x1 = y2 at *
  split
  · exact h0
  · exact (Keep.step (State.setRing_keep ..) h0 rfl)

theorem execEventBuffer_gives (g : Nat) (s : State) : Gives 0x2000000000 s (execEventBuffer g s) := by
  have h0 := Keep.refl 0x2000000000 s
  unfold execEventBuffer
  refine Gives.ite ?_ ?_
  · exact Gives.ok (Keep.step (State.postBuffer_keep ..) h0 rfl)
  · exact Gives.ok h0

theorem execJournalRead_gives (g : Nat) (s : State) : Gives 0x1800003400701004 s (execJournalRead g s) := by
  have h0 := Keep.refl 0x1800003400701004 s
  unfold execJournalRead
  refine Gives.ite ?_ ?_
  · exact Gives.ok h0
  · split
    · exact Gives.ok h0
    · extract_lets +onlyGivenNames x1
      generalize x1 = y2 at *
      refine Gives.ite ?_ ?_
      · exact Gives.ok (Keep.step (State.finishJob_keep ..) h0 rfl)
      · extract_lets +onlyGivenNames x3
        generalize x3 = y4 at *
        extract_lets +onlyGivenNames x5
        generalize x5 = y6 at *
        extract_lets +onlyGivenNames x7
        generalize x7 = y8 at *
        extract_lets +onlyGivenNames x9
        generalize x9 = y10 at *
        extract_lets +onlyGivenNames x11
        generalize x11 = y12 at *
        extract_lets +onlyGivenNames x13
        refine Gives.cut (x := x13) (Keep.step (State.ringCount_keep ..) (Keep.step (State.writeFrags_keep ..) h0 rfl) rfl) (fun h14 => ?_)
        generalize x13 = y15 at *
        exact Gives.ok (Keep.step (State.finishJob_keep ..) h14 rfl)

theorem execRaiseTest_gives (g : Nat) (s : State) : Gives 0x1800003400701004 s (execRaiseTest g s) := by
  have h0 := Keep.refl 0x1800003400701004 s
  unfold execRaiseTest
  refine Gives.ite ?_ ?_
  · exact Gives.ok h0
  · split
    · exact Gives.ok h0
    · exact Gives.ok (Keep.step (State.finishJob_keep ..) (Keep.step (State.raise_keep ..) h0 rfl) rfl)

theorem State.calSyncOne_keep (s : State) (e : Nat) : Keep 0x500100004 s (State.calSyncOne s e) := by
  have h0 := Keep.refl 0x500100004 s
  unfold State.calSyncOne
  refine Keep.ite h0 ?_
  extract_lets +onlyGivenNames x1
  generalize x1 = y2 at *
  extract_lets +onlyGivenNames x3
  refine Keep.cut (x := x3) (Keep.calFcFrom h0 _ rfl) (fun h4 => ?_)
  generalize x3 = y5 at *
  extract_lets +onlyGivenNames x6
  generalize x6 = y7 at *
  refine Keep.ite ?_ (Keep.step (State.calAdd_keep ..) h4 rfl)
  extract_lets +onlyGivenNames x8
  generalize x8 = y9 at *
  extract_lets +onlyGivenNames x10
  refine Keep.cut (x := x10) (Keep.wr64 .cal h4 rfl rfl) (fun h11 => ?_)
  generalize x10 = y12 at *
  exact (Keep.ite (Keep.step (State.raise_keep ..) (Keep.step (State.calAdd_keep ..) h11 rfl) rfl) h11)

theorem State.calSync_keep (s : State) : Keep 0x500100004 s (State.calSync s) := by
  have h0 := Keep.refl 0x500100004 s
  unfold State.calSync
  refine Keep.forEach ?_ (fun a2 u1 => ?_)
  · exact h0
  have h3 := Keep.refl 0x500100004 u1
  exact (Keep.step (State.calSyncOne_keep ..) h3 rfl)

theorem execCounterWrap_gives (e : Nat) (s : State) : Gives 0x8000000d00100004 s (execCounterWrap e s) := by
  have h0 := Keep.refl 0x8000000d00100004 s
  unfold execCounterWrap
  refine Gives.ite ?_ ?_
  · exact Gives.ok (Keep.step (State.calSyncOne_keep ..) (Keep.step (State.advanceTo_keep ..) h0 rfl) rfl)
  · refine Gives.ite ?_ ?_
    · exact Gives.ok (Keep.step (State.calAdd_keep ..) h0 rfl)
    · exact Gives.ok h0

theorem execCalSamplePeriod_gives (j : Nat) (agent : Nat) (s : State) : Gives 0x9000000d00100004 s (execCalSamplePeriod j agent s) := by
  have h0 := Keep.refl 0x9000000d00100004 s
  unfold execCalSamplePeriod
  refine Gives.ite ?_ ?_
  · exact Gives.ok h0
  · extract_lets +onlyGivenNames x1
    generalize x1 = y2 at *
    extract_lets +onlyGivenNames x3
    generalize x3 = y4 at *
    extract_lets +onlyGivenNames x5
    generalize x5 = y6 at *
    refine Gives.ite ?_ ?_
    · exact Gives.ok (Keep.step (State.calSyncOne_keep ..) (Keep.step (State.advanceTo_keep ..) h0 rfl) rfl)
    · refine Gives.ite ?_ ?_
      · exact Gives.ok (Keep.step (State.calFilteredOne_keep ..) h0 rfl)
      · exact Gives.ok h0

theorem State.histClear_keep (s : State) (u : Nat) : Keep 0x100000 s (State.histClear s u) := by
  have h0 := Keep.refl 0x100000 s
  unfold State.histClear
  extract_lets +onlyGivenNames x1
  refine Keep.cut (x := x1) ?_ (fun h2 => ?_)
  · unfold x1
    clear x1
    refine Keep.forEach ?_ (fun a4 u3 => ?_)
    · exact h0
    have h5 := Keep.refl 0x100000 u3
    exact (Keep.wr64 .cal h5 rfl rfl)
  generalize x1 = y6 at *
  exact (Keep.wr .cal h2 rfl rfl)

theorem execHistogramClear_gives (u : Nat) (s : State) : Gives 0x100000 s (execHistogramClear u s) := by
  have h0 := Keep.refl 0x100000 s
  unfold execHistogramClear
  refine Gives.ite ?_ ?_
  · exact Gives.ok (Keep.step (State.histClear_keep ..) h0 rfl)
  · exact Gives.ok h0

theorem State.histOne_keep (s : State) (u : Nat) (v : Nat) : Keep 0x1000000400100004 s (State.histOne s u v) := by
  have h0 := Keep.refl 0x1000000400100004 s
  unfold State.histOne
  refine Keep.ite (Keep.bump .cal h0 rfl rfl) ?_
  extract_lets +onlyGivenNames x1
  generalize x1 = y2 at *
  extract_lets +onlyGivenNames x3
  generalize x3 = y4 at *
  extract_lets +onlyGivenNames x5
  refine Keep.cut (x := x5) (Keep.wr64 .cal h0 rfl rfl) (fun h6 => ?_)
  generalize x5 = y7 at *
  extract_lets +onlyGivenNames x8
  refine Keep.cut (x := x8) (Keep.wr .cal h6 rfl rfl) (fun h9 => ?_)
  generalize x8 = y10 at *
  extract_lets +onlyGivenNames x11
  refine Keep.cut (x := x11) (Keep.step (State.cal_keep ..) h9 rfl) (fun h12 => ?_)
  generalize x11 = y13 at *
  exact (Keep.ite (Keep.step (State.raise_keep ..) h12 rfl) h12)

theorem execHistogramSample_gives (probe : Nat) (index : Nat) (v : Nat) (s : State) : Gives 0x1000000400100004 s (execHistogramSample probe index v s) := by
  have h0 := Keep.refl 0x1000000400100004 s
  unfold execHistogramSample
  refine Gives.ite ?_ ?_
  · exact Gives.ok h0
  · refine Gives.ok ?_
    refine Keep.forEach ?_ (fun a2 u1 => ?_)
    · exact h0
    have h3 := Keep.refl 0x1000000400100004 u1
    exact (Keep.ite (Keep.step (State.histOne_keep ..) h3 rfl) h3)

end Sys2Proof.Machine
end

