-- ==== Sys2Proof/Laws/KeepJobs.lean ====
section
/-!
SUPPORT. What each operation and each command of Machine/Jobs.lean can do to the state: the zones and parts it stays within.
-/
namespace Sys2Proof.Machine

theorem State.updJob_keep (s : State) (g : Nat) (idx : Nat) (h : Job → Job) : Keep 0x2000000000 s (State.updJob s g idx h) := by
  have h0 := Keep.refl 0x2000000000 s
  unfold State.updJob
  extract_lets +onlyGivenNames x1
  generalize x1 = y2 at *
  exact (Keep.step (State.setRing_keep ..) h0 rfl)

theorem State.readPieces_keep (s : State) (f : Nat) (g : Nat) (idx : Nat) (why : Purpose) (y5 : List (Nat × Nat)) (y6 : Nat) : Keep 0x1000003400300004 s (State.readPieces s f g idx why y5 y6) := by
  induction y5 generalizing s f g idx why y6
  · have h0 := Keep.refl 0x1000003400300004 s
    unfold State.readPieces
    exact h0
  · rename_i a0 y5 ih
    have h0 := Keep.refl 0x1000003400300004 s
    unfold State.readPieces
    extract_lets +onlyGivenNames x1
    generalize x1 = y2 at *
    extract_lets +onlyGivenNames x3
    refine Keep.cut (x := x3) (Keep.step (State.updJob_keep ..) h0 rfl) (fun h4 => ?_)
    generalize x3 = y5 at *
    exact (Keep.step (ih ..) (Keep.step (State.dmaRead_keep ..) (Keep.step (State.ringCount_keep ..) h4 rfl) rfl) rfl)

theorem State.startData_keep (s : State) (g : Nat) (idx : Nat) : Keep 0x1000003400300004 s (State.startData s g idx) := by
  have h0 := Keep.refl 0x1000003400300004 s
  unfold State.startData
  split
  · exact h0
  · extract_lets +onlyGivenNames x1
    generalize x1 = y2 at *
    exact (Keep.ite (Keep.step (State.readPieces_keep ..) h0 rfl) h0)

theorem State.startJob_keep (s : State) (g : Nat) (idx : Nat) (q : List Nat) : Keep 0x1000003400300004 s (State.startJob s g idx q) := by
  have h0 := Keep.refl 0x1000003400300004 s
  unfold State.startJob
  extract_lets +onlyGivenNames x1
  generalize x1 = y2 at *
  extract_lets +onlyGivenNames x3
  generalize x3 = y4 at *
  extract_lets +onlyGivenNames x5
  refine Keep.cut (x := x5) (Keep.step (State.setRing_keep ..) h0 rfl) (fun h6 => ?_)
  generalize x5 = y7 at *
  exact (Keep.ite (Keep.step (State.readPieces_keep ..) h6 rfl) (Keep.step (State.startData_keep ..) h6 rfl))

theorem State.tableReady_keep (s : State) (g : Nat) (idx : Nat) : Keep 0x1000003400701005 s (State.tableReady s g idx) := by
  have h0 := Keep.refl 0x1000003400701005 s
  unfold State.tableReady
  split
  · exact h0
  · refine Keep.ite h0 ?_
    extract_lets +onlyGivenNames x1
    generalize x1 = y2 at *
    extract_lets +onlyGivenNames x3
    generalize x3 = y4 at *
    extract_lets +onlyGivenNames x5
    generalize x5 = y6 at *
    refine Keep.ite ?_ (Keep.step (State.startData_keep ..) (Keep.step (State.updJob_keep ..) h0 rfl) rfl)
    extract_lets +onlyGivenNames x7
    generalize x7 = y8 at *
    exact (Keep.step (State.functionFault_keep ..) (Keep.step (State.setRing_keep ..) h0 rfl) rfl)

end Sys2Proof.Machine
end

