-- ==== Sys2Proof/Laws/KeepRdma.lean ====
section
/-!
SUPPORT. What each operation and each command of Machine/Rdma.lean can do to the state: the zones and parts it stays within.
-/
namespace Sys2Proof.Machine

theorem State.setQp_keep (s : State) (q : Nat) (v : QpSt) : Keep 0x8000000000000 s (State.setQp s q v) := by
  have h0 := Keep.refl 0x8000000000000 s
  unfold State.setQp
  exact (Keep.rma h0 _ rfl)

theorem State.setCtx_keep (s : State) (q : Nat) (v : Nat) : Keep 0x6000000 s (State.setCtx s q v) := by
  have h0 := Keep.refl 0x6000000 s
  unfold State.setCtx
  split
  · exact (Keep.step (State.setWinNat_keep ..) h0 rfl)
  · exact h0

theorem State.putCtx_keep (s : State) (q : Nat) (f : CtxFld) (x : Nat) : Keep 0x6000000 s (State.putCtx s q f x) := by
  have h0 := Keep.refl 0x6000000 s
  unfold State.putCtx
  exact (Keep.step (State.setCtx_keep ..) h0 rfl)

theorem State.showCache_keep (s : State) : Keep 0x4000 s (State.showCache s) := by
  have h0 := Keep.refl 0x4000 s
  unfold State.showCache
  exact (Keep.wr .rma h0 rfl rfl)

theorem State.setSlot_keep (s : State) (i : Nat) (v : SlotSt) : Keep 0x8000000004000 s (State.setSlot s i v) := by
  have h0 := Keep.refl 0x8000000004000 s
  unfold State.setSlot
  exact (Keep.step (State.showCache_keep ..) (Keep.rma h0 _ rfl) rfl)

theorem State.touchQp_keep (s : State) (q : Nat) : Keep 0x8000000004000 s (State.touchQp s q) := by
  have h0 := Keep.refl 0x8000000004000 s
  unfold State.touchQp
  split
  · exact (Keep.step (State.setSlot_keep ..) h0 rfl)
  · exact h0

theorem State.missPause_keep (s : State) (on_ : Bool) : Keep 0x1000100400100004 s (State.missPause s on_) := by
  have h0 := Keep.refl 0x1000100400100004 s
  unfold State.missPause
  refine Keep.forEach ?_ (fun a2 u1 => ?_)
  · exact h0
  have h3 := Keep.refl 0x1000100400100004 u1
  exact (Keep.step (State.pfcTo_keep ..) h3 rfl)

theorem State.showMiss_keep (s : State) : Keep 0x1000100400104004 s (State.showMiss s) := by
  have h0 := Keep.refl 0x1000100400104004 s
  unfold State.showMiss
  extract_lets +onlyGivenNames x1
  generalize x1 = y2 at *
  extract_lets +onlyGivenNames x3
  refine Keep.cut (x := x3) (Keep.wr .rma h0 rfl rfl) (fun h4 => ?_)
  generalize x3 = y5 at *
  exact (Keep.ite (Keep.step (State.raise_keep ..) (Keep.step (State.missPause_keep ..) (Keep.wr .rma h4 rfl rfl) rfl) rfl) (Keep.ite (Keep.step (State.raise_keep ..) (Keep.step (State.missPause_keep ..) (Keep.wr .rma h4 rfl rfl) rfl) rfl) h4))

theorem State.setHeld_keep (s : State) (l : List HeldPkt) : Keep 0x1008100400104004 s (State.setHeld s l) := by
  have h0 := Keep.refl 0x1008100400104004 s
  unfold State.setHeld
  exact (Keep.step (State.showMiss_keep ..) (Keep.rma h0 _ rfl) rfl)

theorem State.evict_keep (s : State) : Keep 0x1008000400304004 s (State.evict s) := by
  have h0 := Keep.refl 0x1008000400304004 s
  unfold State.evict
  refine Keep.ite h0 ?_
  split
  · exact h0
  · extract_lets +onlyGivenNames x1
    generalize x1 = y2 at *
    extract_lets +onlyGivenNames x3
    refine Keep.cut (x := x3) (Keep.count .rma (Keep.step (State.setSlot_keep ..) h0 rfl) rfl rfl) (fun h4 => ?_)
    generalize x3 = y5 at *
    exact (Keep.step (State.dmaWrite_keep ..) h4 rfl)

theorem State.fetchCtx_keep (s : State) (q : Nat) : Keep 0x1008001400304004 s (State.fetchCtx s q) := by
  have h0 := Keep.refl 0x1008001400304004 s
  unfold State.fetchCtx
  refine Keep.ite h0 ?_
  split
  · extract_lets +onlyGivenNames x1
    refine Keep.cut (x := x1) (Keep.step (State.cal_keep ..) (Keep.count .rma (Keep.step (State.setSlot_keep ..) h0 rfl) rfl rfl) rfl) (fun h2 => ?_)
    generalize x1 = y3 at *
    exact (Keep.step (State.dmaRead_keep ..) h2 rfl)
  · exact (Keep.step (State.evict_keep ..) (Keep.ite h0 (Keep.rma h0 _ rfl)) rfl)

theorem State.setRegion_keep (s : State) (r : Nat) (v : RegSt) : Keep 0x8000000000000 s (State.setRegion s r v) := by
  have h0 := Keep.refl 0x8000000000000 s
  unfold State.setRegion
  exact (Keep.rma h0 _ rfl)

theorem State.touchRegion_keep (s : State) (r : Nat) : Keep 0x8000000000000 s (State.touchRegion s r) := by
  have h0 := Keep.refl 0x8000000000000 s
  unfold State.touchRegion
  exact (Keep.ite (Keep.step (State.setRegion_keep ..) h0 rfl) h0)

theorem State.storeWrite_keep (s : State) (a : Nat) (b : List Byte) : Keep 0x1000000400300004 s (State.storeWrite s a b) := by
  have h0 := Keep.refl 0x1000000400300004 s
  unfold State.storeWrite
  exact (Keep.ite (Keep.step (State.dmaWrite_keep ..) h0 rfl) h0)

theorem State.roomForRegion_keep (s : State) : Keep 0x1008000400300004 s (State.roomForRegion s) := by
  have h0 := Keep.refl 0x1008000400300004 s
  unfold State.roomForRegion
  extract_lets +onlyGivenNames x1
  generalize x1 = y2 at *
  refine Keep.ite h0 ?_
  split
  · exact h0
  · extract_lets +onlyGivenNames x3
    generalize x3 = y4 at *
    exact (Keep.step (State.storeWrite_keep ..) (Keep.step (State.setRegion_keep ..) h0 rfl) rfl)

theorem State.fetchRegion_keep (s : State) (r : Nat) : Keep 0x1008001400304004 s (State.fetchRegion s r) := by
  have h0 := Keep.refl 0x1008001400304004 s
  unfold State.fetchRegion
  exact (Keep.ite h0 (Keep.step (State.dmaRead_keep ..) (Keep.count .rma (Keep.step (State.setRegion_keep ..) (Keep.step (State.roomForRegion_keep ..) h0 rfl) rfl) rfl rfl) rfl))

theorem State.linkSend_keep (s : State) (n : Nat) (b : List Byte) (prio : Nat) : Keep 0x4000020000000000 s (State.linkSend s n b prio) := by
  have h0 := Keep.refl 0x4000020000000000 s
  unfold State.linkSend
  exact (Keep.ite h0 (Keep.step (State.startFrame_keep ..) (Keep.step (State.setPort_keep ..) h0 rfl) rfl))

theorem State.sendPkt_keep (s : State) (q : Nat) (p : TxPkt) : Keep 0x5000020400100004 s (State.sendPkt s q p) := by
  have h0 := Keep.refl 0x5000020400100004 s
  unfold State.sendPkt
  extract_lets +onlyGivenNames x1
  generalize x1 = y2 at *
  extract_lets +onlyGivenNames x3
  generalize x3 = y4 at *
  extract_lets +onlyGivenNames x5
  generalize x5 = y6 at *
  extract_lets +onlyGivenNames x7
  generalize x7 = y8 at *
  extract_lets +onlyGivenNames x9
  generalize x9 = y10 at *
  extract_lets +onlyGivenNames x11
  generalize x11 = y12 at *
  extract_lets +onlyGivenNames x13
  generalize x13 = y14 at *
  extract_lets +onlyGivenNames x15
  generalize x15 = y16 at *
  extract_lets +onlyGivenNames x17
  generalize x17 = y18 at *
  extract_lets +onlyGivenNames x19
  generalize x19 = y20 at *
  exact (Keep.step (State.linkSend_keep ..) (Keep.step (State.cal_keep ..) h0 rfl) rfl)

theorem State.advanceNpsn_keep (s : State) (q : Nat) (n : Nat) : Keep 0x6000000 s (State.advanceNpsn s q n) := by
  have h0 := Keep.refl 0x6000000 s
  unfold State.advanceNpsn
  extract_lets +onlyGivenNames x1
  generalize x1 = y2 at *
  extract_lets +onlyGivenNames x3
  generalize x3 = y4 at *
  refine Keep.ite (Keep.step (State.putCtx_keep ..) h0 rfl) ?_
  extract_lets +onlyGivenNames x5
  generalize x5 = y6 at *
  extract_lets +onlyGivenNames x7
  generalize x7 = y8 at *
  exact (Keep.step (State.setCtx_keep ..) h0 rfl)

theorem State.sendNew_keep (s : State) (q : Nat) (op : Nat) (ackReq : Bool) (ext : List Byte) (data : List Byte) (n : Nat) : Keep 0x5008020406100004 s (State.sendNew s q op ackReq ext data n) := by
  have h0 := Keep.refl 0x5008020406100004 s
  unfold State.sendNew
  extract_lets +onlyGivenNames x1
  generalize x1 = y2 at *
  extract_lets +onlyGivenNames x3
  generalize x3 = y4 at *
  extract_lets +onlyGivenNames x5
  generalize x5 = y6 at *
  extract_lets +onlyGivenNames x7
  refine Keep.cut (x := x7) (Keep.step (State.setQp_keep ..) h0 rfl) (fun h8 => ?_)
  generalize x7 = y9 at *
  exact (Keep.step (State.advanceNpsn_keep ..) (Keep.step (State.sendPkt_keep ..) h8 rfl) rfl)

theorem State.sendAeth_keep (s : State) (q : Nat) (syndrome : Nat) (psn : Nat) : Keep 0x5000020400100004 s (State.sendAeth s q syndrome psn) := by
  have h0 := Keep.refl 0x5000020400100004 s
  unfold State.sendAeth
  exact (Keep.step (State.sendPkt_keep ..) h0 rfl)

theorem State.sendAck_keep (s : State) (q : Nat) : Keep 0x5008020400100004 s (State.sendAck s q) := by
  have h0 := Keep.refl 0x5008020400100004 s
  unfold State.sendAck
  extract_lets +onlyGivenNames x1
  generalize x1 = y2 at *
  extract_lets +onlyGivenNames x3
  refine Keep.cut (x := x3) (Keep.step (State.setQp_keep ..) h0 rfl) (fun h4 => ?_)
  generalize x3 = y5 at *
  exact (Keep.step (State.sendAeth_keep ..) h4 rfl)

theorem State.sendNak_keep (s : State) (q : Nat) (code : Nat) (psn : Nat) : Keep 0x5000020400100004 s (State.sendNak s q code psn) := by
  have h0 := Keep.refl 0x5000020400100004 s
  unfold State.sendNak
  exact (Keep.step (State.sendAeth_keep ..) h0 rfl)

theorem State.endJob_keep (s : State) (j : Option (Nat × Nat)) (status : Nat) (len : Nat) : Keep 0x1800003400701004 s (State.endJob s j status len) := by
  have h0 := Keep.refl 0x1800003400701004 s
  unfold State.endJob
  split
  · exact (Keep.step (State.finishJob_keep ..) h0 rfl)
  · exact h0

theorem State.endSends_keep (s : State) (q : Nat) (y2 : Nat) : Keep 0x1808003406701004 s (State.endSends s q y2) := by
  induction y2 generalizing s q
  · have h0 := Keep.refl 0x1808003406701004 s
    unfold State.endSends
    exact h0
  · rename_i y2 ih
    have h0 := Keep.refl 0x1808003406701004 s
    unfold State.endSends
    extract_lets +onlyGivenNames x1
    generalize x1 = y2 at *
    split
    · exact h0
    · refine Keep.ite ?_ (Keep.ite (Keep.step (ih ..) (Keep.step (State.endJob_keep ..) (Keep.step (State.setQp_keep ..) h0 rfl) rfl) rfl) h0)
      refine Keep.ite h0 ?_
      extract_lets +onlyGivenNames x3
      refine Keep.cut (x := x3) (Keep.step (State.setQp_keep ..) h0 rfl) (fun h4 => ?_)
      generalize x3 = y5 at *
      extract_lets +onlyGivenNames x6
      refine Keep.cut (x := x6) (Keep.step (State.putCtx_keep ..) h4 rfl) (fun h7 => ?_)
      generalize x6 = y8 at *
      exact (Keep.step (ih ..) (Keep.step (State.endJob_keep ..) h7 rfl) rfl)

theorem State.flushRing_keep (s : State) (g : Nat) : Keep 0x1800003400701004 s (State.flushRing s g) := by
  have h0 := Keep.refl 0x1800003400701004 s
  unfold State.flushRing
  refine Keep.forEach ?_ (fun a2 u1 => ?_)
  · exact h0
  have h3 := Keep.refl 0x1800003400701004 u1
  exact (Keep.step (State.finishJob_keep ..) h3 rfl)

theorem State.qpError_keep (s : State) (q : Nat) (cause : Nat) (status : Nat) : Keep 0x1808003406701004 s (State.qpError s q cause status) := by
  have h0 := Keep.refl 0x1808003406701004 s
  unfold State.qpError
  extract_lets +onlyGivenNames x1
  generalize x1 = y2 at *
  extract_lets +onlyGivenNames x3
  refine Keep.cut (x := x3) (Keep.step (State.raise_keep ..) (Keep.step (State.putCtx_keep ..) h0 rfl) rfl) (fun h4 => ?_)
  generalize x3 = y5 at *
  extract_lets +onlyGivenNames x6
  refine Keep.cut (x := x6) (Keep.ite (Keep.step (State.raise_keep ..) h4 rfl) h4) (fun h7 => ?_)
  generalize x6 = y8 at *
  extract_lets +onlyGivenNames x9
  refine Keep.cut (x := x9) (Keep.step (State.setQp_keep ..) h7 rfl) (fun h10 => ?_)
  generalize x9 = y11 at *
  extract_lets +onlyGivenNames x12
  refine Keep.cut (x := x12) ?_ (fun h13 => ?_)
  · unfold x12
    clear x12
    split
    · exact h10
    · refine Keep.forEach ?_ (fun a15 u14 => ?_)
      · exact (Keep.step (State.endJob_keep ..) h10 rfl)
      have h16 := Keep.refl 0x1808003406701004 u14
      exact (Keep.step (State.endJob_keep ..) h16 rfl)
  generalize x12 = y17 at *
  refine Keep.forEach ?_ (fun a19 u18 => ?_)
  · exact h13
  have h20 := Keep.refl 0x1808003406701004 u18
  exact (Keep.step (State.flushRing_keep ..) h20 rfl)

theorem State.resend_keep (s : State) (q : Nat) (p : TxPkt) : Keep 0x5808023406705004 s (State.resend s q p) := by
  have h0 := Keep.refl 0x5808023406705004 s
  unfold State.resend
  refine Keep.ite h0 ?_
  refine Keep.ite (Keep.step (State.qpError_keep ..) (Keep.step (State.raise_keep ..) h0 rfl) rfl) ?_
  extract_lets +onlyGivenNames x1
  generalize x1 = y2 at *
  extract_lets +onlyGivenNames x3
  generalize x3 = y4 at *
  extract_lets +onlyGivenNames x5
  refine Keep.cut (x := x5) (Keep.step (State.setQp_keep ..) h0 rfl) (fun h6 => ?_)
  generalize x5 = y7 at *
  exact (Keep.step (State.sendPkt_keep ..) (Keep.step (State.cal_keep ..) (Keep.count .rma h6 rfl rfl) rfl) rfl)

theorem State.resendFrom_keep (s : State) (q : Nat) (p : Nat) : Keep 0x5808023406705004 s (State.resendFrom s q p) := by
  have h0 := Keep.refl 0x5808023406705004 s
  unfold State.resendFrom
  extract_lets +onlyGivenNames x1
  generalize x1 = y2 at *
  extract_lets +onlyGivenNames x3
  generalize x3 = y4 at *
  extract_lets +onlyGivenNames x5
  generalize x5 = y6 at *
  extract_lets +onlyGivenNames x7
  refine Keep.cut (x := x7) (Keep.step (State.setQp_keep ..) h0 rfl) (fun h8 => ?_)
  generalize x7 = y9 at *
  refine Keep.forEach ?_ (fun a11 u10 => ?_)
  · exact h8
  have h12 := Keep.refl 0x5808023406705004 u10
  exact (Keep.step (State.resend_keep ..) h12 rfl)

theorem State.restartTimer_keep (s : State) (q : Nat) : Keep 0x8000000000000 s (State.restartTimer s q) := by
  have h0 := Keep.refl 0x8000000000000 s
  unfold State.restartTimer
  extract_lets +onlyGivenNames x1
  generalize x1 = y2 at *
  exact (Keep.step (State.setQp_keep ..) h0 rfl)

theorem State.ackBefore_keep (s : State) (q : Nat) (p : Nat) : Keep 0x1808003406701004 s (State.ackBefore s q p) := by
  have h0 := Keep.refl 0x1808003406701004 s
  unfold State.ackBefore
  extract_lets +onlyGivenNames x1
  generalize x1 = y2 at *
  extract_lets +onlyGivenNames x3
  generalize x3 = y4 at *
  extract_lets +onlyGivenNames x5
  generalize x5 = y6 at *
  refine Keep.ite h0 ?_
  extract_lets +onlyGivenNames x7
  generalize x7 = y8 at *
  extract_lets +onlyGivenNames x9
  generalize x9 = y10 at *
  extract_lets +onlyGivenNames x11
  refine Keep.cut (x := x11) (Keep.step (State.setQp_keep ..) h0 rfl) (fun h12 => ?_)
  generalize x11 = y13 at *
  extract_lets +onlyGivenNames x14
  refine Keep.cut (x := x14) (Keep.ite h12 (Keep.step (State.setCtx_keep ..) h12 rfl)) (fun h15 => ?_)
  generalize x14 = y16 at *
  exact (Keep.step (State.endSends_keep ..) (Keep.step (State.restartTimer_keep ..) h15 rfl) rfl)

theorem State.sendData_keep (s : State) (q : Nat) (write : Bool) (imm : Bool) (va : Nat) (rkey : Nat) (immV : Nat) (len : Nat) (mtu : Nat) (n : Nat) (y10 : Nat) (y11 : List Byte) (y12 : Nat) : Keep 0x5008020406100004 s (State.sendData s q write imm va rkey immV len mtu n y10 y11 y12) := by
  induction y10 generalizing s q write imm va rkey immV len mtu n y11 y12
  · have h0 := Keep.refl 0x5008020406100004 s
    unfold State.sendData
    exact h0
  · rename_i y10 ih
    have h0 := Keep.refl 0x5008020406100004 s
    unfold State.sendData
    extract_lets +onlyGivenNames x1
    extract_lets +onlyGivenNames x3
    generalize x3 = y4 at *
    extract_lets +onlyGivenNames x5
    refine Keep.cut (x := x5) (Keep.step (State.sendNew_keep ..) h0 rfl) (fun h6 => ?_)
    generalize x5 = y7 at *
    exact (Keep.ite h6 (Keep.step (ih ..) h6 rfl))

theorem State.sendMsg_keep (s : State) (q : Nat) (job : Option (Nat × Nat)) (write : Bool) (imm : Bool) (va : Nat) (rkey : Nat) (immV : Nat) (d : List Byte) : Keep 0x5008020406100004 s (State.sendMsg s q job write imm va rkey immV d) := by
  have h0 := Keep.refl 0x5008020406100004 s
  unfold State.sendMsg
  extract_lets +onlyGivenNames x1
  generalize x1 = y2 at *
  extract_lets +onlyGivenNames x3
  generalize x3 = y4 at *
  extract_lets +onlyGivenNames x5
  generalize x5 = y6 at *
  extract_lets +onlyGivenNames x7
  generalize x7 = y8 at *
  extract_lets +onlyGivenNames x9
  refine Keep.cut (x := x9) (Keep.step (State.setQp_keep ..) h0 rfl) (fun h10 => ?_)
  generalize x9 = y11 at *
  exact (Keep.step (State.sendData_keep ..) h10 rfl)

theorem State.sendRead_keep (s : State) (q : Nat) (job : Option (Nat × Nat)) (va : Nat) (rkey : Nat) (len : Nat) : Keep 0x5008020406100004 s (State.sendRead s q job va rkey len) := by
  have h0 := Keep.refl 0x5008020406100004 s
  unfold State.sendRead
  extract_lets +onlyGivenNames x1
  generalize x1 = y2 at *
  extract_lets +onlyGivenNames x3
  generalize x3 = y4 at *
  extract_lets +onlyGivenNames x5
  generalize x5 = y6 at *
  extract_lets +onlyGivenNames x7
  refine Keep.cut (x := x7) (Keep.step (State.setQp_keep ..) h0 rfl) (fun h8 => ?_)
  generalize x7 = y9 at *
  exact (Keep.step (State.sendNew_keep ..) (Keep.step (State.putCtx_keep ..) h8 rfl) rfl)

theorem State.startSends_keep (s : State) (q : Nat) (g : Nat) (y3 : Nat) : Keep 0x5808023406701004 s (State.startSends s q g y3) := by
  induction y3 generalizing s q g
  · have h0 := Keep.refl 0x5808023406701004 s
    unfold State.startSends
    exact h0
  · rename_i y3 ih
    have h0 := Keep.refl 0x5808023406701004 s
    unfold State.startSends
    split
    · exact h0
    · extract_lets +onlyGivenNames x1
      generalize x1 = y2 at *
      extract_lets +onlyGivenNames x3
      generalize x3 = y4 at *
      refine Keep.ite h0 ?_
      extract_lets +onlyGivenNames x5
      refine Keep.cut (x := x5) (Keep.step (State.updJob_keep ..) h0 rfl) (fun h6 => ?_)
      generalize x5 = y7 at *
      extract_lets +onlyGivenNames x8
      generalize x8 = y9 at *
      extract_lets +onlyGivenNames x10
      generalize x10 = y11 at *
      extract_lets +onlyGivenNames x12
      generalize x12 = y13 at *
      extract_lets +onlyGivenNames x14
      refine Keep.cut (x := x14) (Keep.ite (Keep.step (State.finishJob_keep ..) h6 rfl) (Keep.ite (Keep.step (State.sendRead_keep ..) h6 rfl) (Keep.step (State.sendMsg_keep ..) h6 rfl))) (fun h15 => ?_)
      generalize x14 = y16 at *
      exact (Keep.step (ih ..) h15 rfl)

theorem State.pumpQp_keep (s : State) (q : Nat) : Keep 0x5808023406705004 s (State.pumpQp s q) := by
  have h0 := Keep.refl 0x5808023406705004 s
  unfold State.pumpQp
  refine Keep.ite h0 ?_
  refine Keep.forEach ?_ (fun a2 u1 => ?_)
  · exact (Keep.step (State.touchQp_keep ..) h0 rfl)
  have h3 := Keep.refl 0x5808023406705004 u1
  exact (Keep.ite (Keep.step (State.flushRing_keep ..) h3 rfl) (Keep.step (State.startSends_keep ..) h3 rfl))

theorem State.gotAck_keep (s : State) (q : Nat) (syn : Nat) (p : Nat) : Keep 0x5808023406705004 s (State.gotAck s q syn p) := by
  have h0 := Keep.refl 0x5808023406705004 s
  unfold State.gotAck
  extract_lets +onlyGivenNames x1
  generalize x1 = y2 at *
  refine Keep.ite (Keep.step (State.pumpQp_keep ..) (Keep.step (State.ackBefore_keep ..) h0 rfl) rfl) ?_
  refine Keep.ite ?_ (Keep.ite (Keep.step (State.resendFrom_keep ..) (Keep.ite h0 (Keep.step (State.ackBefore_keep ..) h0 rfl)) rfl) (Keep.ite (Keep.step (State.qpError_keep ..) (Keep.step (State.ackBefore_keep ..) h0 rfl) rfl) h0))
  extract_lets +onlyGivenNames x3
  refine Keep.cut (x := x3) (Keep.step (State.ackBefore_keep ..) h0 rfl) (fun h4 => ?_)
  generalize x3 = y5 at *
  extract_lets +onlyGivenNames x6
  generalize x6 = y7 at *
  refine Keep.ite (Keep.step (State.qpError_keep ..) (Keep.step (State.raise_keep ..) h4 rfl) rfl) ?_
  extract_lets +onlyGivenNames x8
  refine Keep.cut (x := x8) (Keep.ite h4 (Keep.step (State.putCtx_keep ..) h4 rfl)) (fun h9 => ?_)
  generalize x8 = y10 at *
  exact (Keep.step (State.setQp_keep ..) h9 rfl)

theorem State.placeJob_keep (s : State) (g : Nat) (i : Nat) (off : Nat) (d : List Byte) : Keep 0x1000002400300004 s (State.placeJob s g i off d) := by
  have h0 := Keep.refl 0x1000002400300004 s
  unfold State.placeJob
  split
  · exact h0
  · exact (Keep.step (State.ringCount_keep ..) (Keep.step (State.writeFrags_keep ..) h0 rfl) rfl)

theorem State.updRead_keep (s : State) (q : Nat) (first : Nat) (h : SendMsg → SendMsg) : Keep 0x8000000000000 s (State.updRead s q first h) := by
  have h0 := Keep.refl 0x8000000000000 s
  unfold State.updRead
  exact (Keep.step (State.setQp_keep ..) h0 rfl)

theorem State.gotReadResp_keep (s : State) (q : Nat) (p : Nat) (d : List Byte) : Keep 0x5808023406705004 s (State.gotReadResp s q p d) := by
  have h0 := Keep.refl 0x5808023406705004 s
  unfold State.gotReadResp
  split
  · exact h0
  · extract_lets +onlyGivenNames x1
    generalize x1 = y2 at *
    extract_lets +onlyGivenNames x3
    refine Keep.cut (x := x3) ?_ (fun h4 => ?_)
    · unfold x3
      clear x3
      split
      · exact (Keep.step (State.placeJob_keep ..) h0 rfl)
      · exact h0
    generalize x3 = y5 at *
    extract_lets +onlyGivenNames x6
    generalize x6 = y7 at *
    extract_lets +onlyGivenNames x8
    refine Keep.cut (x := x8) (Keep.step (State.updRead_keep ..) h4 rfl) (fun h9 => ?_)
    generalize x8 = y10 at *
    extract_lets +onlyGivenNames x11
    generalize x11 = y12 at *
    extract_lets +onlyGivenNames x13
    refine Keep.cut (x := x13) (Keep.ite (Keep.step (State.ackBefore_keep ..) (Keep.step (State.setQp_keep ..) h9 rfl) rfl) h9) (fun h14 => ?_)
    generalize x13 = y15 at *
    exact (Keep.step (State.pumpQp_keep ..) (Keep.step (State.endSends_keep ..) (Keep.step (State.restartTimer_keep ..) h14 rfl) rfl) rfl)

theorem State.placeWrite_keep (s : State) (q : Nat) (rkey : Nat) (va : Nat) (d : List Byte) : Keep 0x1008008400304004 s (State.placeWrite s q rkey va d) := by
  have h0 := Keep.refl 0x1008008400304004 s
  unfold State.placeWrite
  refine Keep.ite ?_ (Keep.step (State.dmaWrite_keep ..) h0 rfl)
  refine Keep.ite h0 ?_
  extract_lets +onlyGivenNames x1
  refine Keep.cut (x := x1) (Keep.step (State.rtWrite_keep ..) h0 rfl) (fun h2 => ?_)
  generalize x1 = y3 at *
  extract_lets +onlyGivenNames x4
  generalize x4 = y5 at *
  extract_lets +onlyGivenNames x6
  refine Keep.cut (x := x6) (Keep.ite (Keep.rma h2 _ rfl) h2) (fun h7 => ?_)
  generalize x6 = y8 at *
  refine Keep.ite ?_ h7
  split
  · exact (Keep.wr .rma h7 rfl rfl)
  · exact h7

theorem State.takeReq_keep (s : State) (q : Nat) (r : Roce) (placed : Bool) : Keep 0x180800b400705004 s (State.takeReq s q r placed).1 := by
  have h0 := Keep.refl 0x180800b400705004 s
  show KeepP 0x180800b400705004 s (State.takeReq s q r placed)
  unfold State.takeReq
  split
  · exact KeepP.mk h0
  · extract_lets +onlyGivenNames x1
    generalize x1 = y2 at *
    extract_lets +onlyGivenNames x3
    generalize x3 = y4 at *
    extract_lets +onlyGivenNames x5
    generalize x5 = y6 at *
    extract_lets +onlyGivenNames x7
    generalize x7 = y8 at *
    refine KeepP.ite ?_ ?_
    · exact KeepP.mk h0
    · refine KeepP.ite ?_ ?_
      · extract_lets +onlyGivenNames x9
        generalize x9 = y10 at *
        refine KeepP.ite ?_ ?_
        · exact KeepP.mk h0
        · refine KeepP.ite ?_ ?_
          · exact KeepP.mk h0
          · refine KeepP.ite ?_ ?_
            · exact KeepP.mk h0
            · extract_lets +onlyGivenNames x11
              refine KeepP.cut (x := x11) (Keep.step (State.touchRegion_keep ..) (Keep.ite h0 (Keep.step (State.placeWrite_keep ..) h0 rfl)) rfl) (fun h12 => ?_)
              generalize x11 = y13 at *
              extract_lets +onlyGivenNames x14
              generalize x14 = y15 at *
              extract_lets +onlyGivenNames x16
              refine KeepP.cut (x := x16) (Keep.step (State.setQp_keep ..) h12 rfl) (fun h17 => ?_)
              generalize x16 = y18 at *
              refine KeepP.ite ?_ ?_
              · split
                · exact KeepP.mk (Keep.step (State.finishJob_keep ..) h17 rfl)
                · exact KeepP.mk h17
              · exact KeepP.mk h17
      · extract_lets +onlyGivenNames x19
        generalize x19 = y20 at *
        split
        · exact KeepP.mk h0
        · split
          · exact KeepP.mk h0
          · split
            · exact KeepP.mk h0
            · refine KeepP.ite ?_ ?_
              · exact KeepP.mk h0
              · extract_lets +onlyGivenNames x21
                refine KeepP.cut (x := x21) (Keep.ite h0 (Keep.step (State.ringCount_keep ..) (Keep.step (State.writeFrags_keep ..) h0 rfl) rfl)) (fun h22 => ?_)
                generalize x21 = y23 at *
                extract_lets +onlyGivenNames x24
                generalize x24 = y25 at *
                extract_lets +onlyGivenNames x26
                refine KeepP.cut (x := x26) (Keep.step (State.setQp_keep ..) h22 rfl) (fun h27 => ?_)
                generalize x26 = y28 at *
                exact KeepP.mk (Keep.ite (Keep.step (State.finishJob_keep ..) h27 rfl) h27)

theorem State.startReadResp_keep (s : State) (q : Nat) (psn : Nat) (va : Nat) (len : Nat) : Keep 0x1008001400300004 s (State.startReadResp s q psn va len) := by
  have h0 := Keep.refl 0x1008001400300004 s
  unfold State.startReadResp
  extract_lets +onlyGivenNames x1
  generalize x1 = y2 at *
  extract_lets +onlyGivenNames x3
  refine Keep.cut (x := x3) (Keep.step (State.setQp_keep ..) h0 rfl) (fun h4 => ?_)
  generalize x3 = y5 at *
  exact (Keep.step (State.dmaRead_keep ..) h4 rfl)

theorem State.sendResponses_keep (s : State) (q : Nat) (mtu : Nat) (n : Nat) (y4 : Nat) (y5 : Nat) (y6 : Nat) (y7 : List Byte) : Keep 0x5808023406701004 s (State.sendResponses s q mtu n y4 y5 y6 y7) := by
  induction y4 generalizing s q mtu n y5 y6 y7
  · have h0 := Keep.refl 0x5808023406701004 s
    unfold State.sendResponses
    exact h0
  · rename_i y4 ih
    have h0 := Keep.refl 0x5808023406701004 s
    unfold State.sendResponses
    extract_lets +onlyGivenNames x1
    generalize x1 = y2 at *
    extract_lets +onlyGivenNames x3
    generalize x3 = y4 at *
    extract_lets +onlyGivenNames x5
    generalize x5 = y6 at *
    extract_lets +onlyGivenNames x7
    generalize x7 = y8 at *
    extract_lets +onlyGivenNames x9
    generalize x9 = y10 at *
    extract_lets +onlyGivenNames x11
    generalize x11 = y12 at *
    refine Keep.ite (Keep.step (State.qpError_keep ..) (Keep.step (State.raise_keep ..) h0 rfl) rfl) ?_
    extract_lets +onlyGivenNames x13
    refine Keep.cut (x := x13) (Keep.ite (Keep.step (State.setQp_keep ..) h0 rfl) h0) (fun h14 => ?_)
    generalize x13 = y15 at *
    extract_lets +onlyGivenNames x16
    refine Keep.cut (x := x16) (Keep.step (State.sendPkt_keep ..) h14 rfl) (fun h17 => ?_)
    generalize x16 = y18 at *
    exact (Keep.ite (Keep.step (ih ..) h17 rfl) h17)

theorem State.readRespData_keep (s : State) (q : Nat) (psn : Nat) (off : Nat) (d : List Byte) (err : Nat) : Keep 0x5808023406701004 s (State.readRespData s q psn off d err) := by
  have h0 := Keep.refl 0x5808023406701004 s
  unfold State.readRespData
  extract_lets +onlyGivenNames x1
  generalize x1 = y2 at *
  split
  · exact h0
  · refine Keep.ite (Keep.step (State.sendNak_keep ..) (Keep.step (State.setQp_keep ..) h0 rfl) rfl) ?_
    refine Keep.ite h0 ?_
    extract_lets +onlyGivenNames x3
    generalize x3 = y4 at *
    refine Keep.ite (Keep.step (State.setQp_keep ..) h0 rfl) ?_
    extract_lets +onlyGivenNames x5
    generalize x5 = y6 at *
    extract_lets +onlyGivenNames x7
    generalize x7 = y8 at *
    extract_lets +onlyGivenNames x9
    generalize x9 = y10 at *
    exact (Keep.step (State.sendResponses_keep ..) (Keep.step (State.setQp_keep ..) h0 rfl) rfl)

theorem State.advanceEpsn_keep (s : State) (q : Nat) (n : Nat) : Keep 0x8000006000000 s (State.advanceEpsn s q n) := by
  have h0 := Keep.refl 0x8000006000000 s
  unfold State.advanceEpsn
  extract_lets +onlyGivenNames x1
  generalize x1 = y2 at *
  extract_lets +onlyGivenNames x3
  generalize x3 = y4 at *
  extract_lets +onlyGivenNames x5
  generalize x5 = y6 at *
  extract_lets +onlyGivenNames x7
  generalize x7 = y8 at *
  extract_lets +onlyGivenNames x9
  refine Keep.cut (x := x9) (Keep.step (State.setQp_keep ..) h0 rfl) (fun h10 => ?_)
  generalize x9 = y11 at *
  refine Keep.ite (Keep.step (State.setCtx_keep ..) h10 rfl) ?_
  extract_lets +onlyGivenNames x12
  generalize x12 = y13 at *
  extract_lets +onlyGivenNames x14
  generalize x14 = y15 at *
  exact (Keep.step (State.setCtx_keep ..) h10 rfl)

theorem State.ackLater_keep (s : State) (q : Nat) (ackReq : Bool) : Keep 0x5008020400100004 s (State.ackLater s q ackReq) := by
  have h0 := Keep.refl 0x5008020400100004 s
  unfold State.ackLater
  extract_lets +onlyGivenNames x1
  generalize x1 = y2 at *
  extract_lets +onlyGivenNames x3
  refine Keep.cut (x := x3) (Keep.step (State.setQp_keep ..) h0 rfl) (fun h4 => ?_)
  generalize x3 = y5 at *
  exact (Keep.ite (Keep.step (State.sendAck_keep ..) h4 rfl) h4)

theorem State.inOrder_keep (s : State) (q : Nat) (r : Roce) (placed : Bool) : Keep 0x580802b406705004 s (State.inOrder s q r placed).1 := by
  have h0 := Keep.refl 0x580802b406705004 s
  show KeepP 0x580802b406705004 s (State.inOrder s q r placed)
  unfold State.inOrder
  refine KeepP.ite ?_ ?_
  · extract_lets +onlyGivenNames x1
    generalize x1 = y2 at *
    extract_lets +onlyGivenNames x3
    generalize x3 = y4 at *
    refine KeepP.ite ?_ ?_
    · exact KeepP.mk (Keep.step (State.sendNak_keep ..) h0 rfl)
    · refine KeepP.ite ?_ ?_
      · exact KeepP.mk (Keep.step (State.sendNak_keep ..) h0 rfl)
      · extract_lets +onlyGivenNames x5
        refine KeepP.cut (x := x5) (Keep.step (State.touchRegion_keep ..) h0 rfl) (fun h6 => ?_)
        generalize x5 = y7 at *
        extract_lets +onlyGivenNames x8
        generalize x8 = y9 at *
        extract_lets +onlyGivenNames x10
        refine KeepP.cut (x := x10) (Keep.step (State.setQp_keep ..) h6 rfl) (fun h11 => ?_)
        generalize x10 = y12 at *
        exact KeepP.mk (Keep.step (State.startReadResp_keep ..) (Keep.step (State.advanceEpsn_keep ..) h11 rfl) rfl)
  · split
    · refine KeepP.mk ?_
      refine Keep.step (State.ackLater_keep ..) ?_ rfl
      refine Keep.step (State.advanceEpsn_keep ..) ?_ rfl
      rename_i q13
      refine Keep.ofPair q13 ?_
      exact (Keep.step (State.takeReq_keep ..) h0 rfl)
    · refine KeepP.mk ?_
      refine Keep.step (State.sendAeth_keep ..) ?_ rfl
      rename_i q14
      refine Keep.ofPair q14 ?_
      exact (Keep.step (State.takeReq_keep ..) h0 rfl)
    · refine KeepP.mk ?_
      refine Keep.step (State.sendNak_keep ..) ?_ rfl
      rename_i q15
      refine Keep.ofPair q15 ?_
      exact (Keep.step (State.takeReq_keep ..) h0 rfl)

theorem State.answerCe_keep (s : State) (q : Nat) : Keep 0x5008020400104004 s (State.answerCe s q) := by
  have h0 := Keep.refl 0x5008020400104004 s
  unfold State.answerCe
  extract_lets +onlyGivenNames x1
  generalize x1 = y2 at *
  refine Keep.ite h0 ?_
  extract_lets +onlyGivenNames x3
  refine Keep.cut (x := x3) (Keep.step (State.setQp_keep ..) h0 rfl) (fun h4 => ?_)
  generalize x3 = y5 at *
  exact (Keep.step (State.sendPkt_keep ..) (Keep.count .rma h4 rfl rfl) rfl)

theorem State.gotCnp_keep (s : State) (q : Nat) : Keep 0x8000006004000 s (State.gotCnp s q) := by
  have h0 := Keep.refl 0x8000006004000 s
  unfold State.gotCnp
  extract_lets +onlyGivenNames x1
  generalize x1 = y2 at *
  extract_lets +onlyGivenNames x3
  refine Keep.cut (x := x3) (Keep.step (State.putCtx_keep ..) (Keep.count .rma h0 rfl rfl) rfl) (fun h4 => ?_)
  generalize x3 = y5 at *
  exact (Keep.step (State.setQp_keep ..) h4 rfl)

theorem State.placeHeld_keep (s : State) (q : Nat) (r : Roce) : Keep 0x100800a400304004 s (State.placeHeld s q r).1 := by
  have h0 := Keep.refl 0x100800a400304004 s
  show KeepP 0x100800a400304004 s (State.placeHeld s q r)
  unfold State.placeHeld
  split
  · extract_lets +onlyGivenNames x1
    generalize x1 = y2 at *
    split
    · refine KeepP.ite ?_ ?_
      · exact KeepP.mk (Keep.step (State.placeWrite_keep ..) h0 rfl)
      · exact KeepP.mk h0
    · exact KeepP.mk h0
  · extract_lets +onlyGivenNames x3
    generalize x3 = y4 at *
    extract_lets +onlyGivenNames x5
    generalize x5 = y6 at *
    split
    · exact KeepP.mk h0
    · refine KeepP.ite ?_ ?_
      · exact KeepP.mk h0
      · extract_lets +onlyGivenNames x7
        generalize x7 = y8 at *
        split
        · refine KeepP.ite ?_ ?_
          · exact KeepP.mk (Keep.step (State.placeJob_keep ..) h0 rfl)
          · exact KeepP.mk h0
        · exact KeepP.mk h0
  · exact KeepP.mk h0

theorem State.replaceHeld_keep (s : State) (q : Nat) : Keep 0x100800a400304004 s (State.replaceHeld s q) := by
  have h0 := Keep.refl 0x100800a400304004 s
  unfold State.replaceHeld
  refine Keep.forEach ?_ (fun a2 u1 => ?_)
  · exact h0
  have h3 := Keep.refl 0x100800a400304004 u1
  split
  · exact h3
  · extract_lets +onlyGivenNames x4
    refine Keep.cutP (x := x4) ?_ (fun h5 => ?_)
    · unfold x4
      clear x4
      exact KeepP.of (Keep.step (State.placeHeld_keep ..) h3 rfl)
    generalize x4 = y6 at *
    refine Keep.ite ?_ h5
    extract_lets +onlyGivenNames x7
    refine Keep.cut (x := x7) h5 (fun h8 => ?_)
    generalize x7 = y9 at *
    exact (Keep.rma h8 _ rfl)

theorem State.nakGaps_keep (s : State) (q : Nat) (l : List Nat) : Keep 0x5008020400100004 s (State.nakGaps s q l) := by
  have h0 := Keep.refl 0x5008020400100004 s
  unfold State.nakGaps
  extract_lets +onlyGivenNames x1
  refine Keep.cut (x := x1) ?_ (fun h2 => ?_)
  · unfold x1
    clear x1
    refine Keep.forEach ?_ (fun a4 u3 => ?_)
    · exact h0
    have h5 := Keep.refl 0x5008020400100004 u3
    exact (Keep.step (State.sendNak_keep ..) h5 rfl)
  generalize x1 = y6 at *
  exact (Keep.step (State.setQp_keep ..) h2 rfl)

theorem State.drainGap_keep (s : State) (q : Nat) (y2 : Nat) : Keep 0x580812b406705004 s (State.drainGap s q y2) := by
  induction y2 generalizing s q
  · have h0 := Keep.refl 0x580812b406705004 s
    unfold State.drainGap
    exact h0
  · rename_i y2 ih
    have h0 := Keep.refl 0x580812b406705004 s
    unfold State.drainGap
    extract_lets +onlyGivenNames x1
    generalize x1 = y2 at *
    split
    · exact h0
    · extract_lets +onlyGivenNames x3
      refine Keep.cut (x := x3) (Keep.step (State.setHeld_keep ..) h0 rfl) (fun h4 => ?_)
      generalize x3 = y5 at *
      split
      · exact h4
      · split
        · refine Keep.step (ih ..) ?_ rfl
          rename_i q6
          refine Keep.ofPair q6 ?_
          exact (Keep.step (State.inOrder_keep ..) h4 rfl)
        · rename_i q7
          refine Keep.ofPair q7 ?_
          exact (Keep.step (State.inOrder_keep ..) h4 rfl)

theorem State.srAhead_keep (s : State) (q : Nat) (r : Roce) (f : RxFrame) : Keep 0x500812a406304004 s (State.srAhead s q r f) := by
  have h0 := Keep.refl 0x500812a406304004 s
  unfold State.srAhead
  extract_lets +onlyGivenNames x1
  generalize x1 = y2 at *
  extract_lets +onlyGivenNames x3
  generalize x3 = y4 at *
  refine Keep.ite (Keep.step (State.raise_keep ..) (Keep.count .rma h0 rfl rfl) rfl) ?_
  refine Keep.ite (Keep.count .rma h0 rfl rfl) ?_
  refine Keep.ite (Keep.step (State.sendNak_keep ..) h0 rfl) ?_
  refine Keep.ite (Keep.count .rma h0 rfl rfl) ?_
  extract_lets +onlyGivenNames x5
  generalize x5 = y6 at *
  extract_lets +onlyGivenNames x7
  refine Keep.cut (x := x7) (Keep.step (State.putCtx_keep ..) h0 rfl) (fun h8 => ?_)
  generalize x7 = y9 at *
  extract_lets +onlyGivenNames x10
  refine Keep.cut (x := x10) (Keep.step (State.setHeld_keep ..) h8 rfl) (fun h11 => ?_)
  generalize x10 = y12 at *
  extract_lets +onlyGivenNames x13
  refine Keep.cut (x := x13) (Keep.step (State.replaceHeld_keep ..) h11 rfl) (fun h14 => ?_)
  generalize x13 = y15 at *
  exact (Keep.step (State.nakGaps_keep ..) h14 rfl)

theorem State.gotRequest_keep (s : State) (q : Nat) (r : Roce) (f : RxFrame) : Keep 0x580812b406705004 s (State.gotRequest s q r f) := by
  have h0 := Keep.refl 0x580812b406705004 s
  unfold State.gotRequest
  extract_lets +onlyGivenNames x1
  generalize x1 = y2 at *
  extract_lets +onlyGivenNames x3
  generalize x3 = y4 at *
  refine Keep.ite ?_ ?_
  · split
    · refine Keep.ite ?_ ?_
      · refine Keep.step (State.replaceHeld_keep ..) ?_ rfl
        refine Keep.step (State.drainGap_keep ..) ?_ rfl
        refine Keep.step (State.replaceHeld_keep ..) ?_ rfl
        rename_i q5
        refine Keep.ofPair q5 ?_
        exact (Keep.step (State.inOrder_keep ..) h0 rfl)
      · rename_i q6
        refine Keep.ofPair q6 ?_
        exact (Keep.step (State.inOrder_keep ..) h0 rfl)
    · rename_i q7
      refine Keep.ofPair q7 ?_
      exact (Keep.step (State.inOrder_keep ..) h0 rfl)
  · refine Keep.ite ?_ ?_
    · extract_lets +onlyGivenNames x8
      refine Keep.cut (x := x8) (Keep.count .rma h0 rfl rfl) (fun h9 => ?_)
      generalize x8 = y10 at *
      refine Keep.ite ?_ (Keep.step (State.sendAck_keep ..) h9 rfl)
      extract_lets +onlyGivenNames x11
      generalize x11 = y12 at *
      extract_lets +onlyGivenNames x13
      generalize x13 = y14 at *
      exact (Keep.ite (Keep.step (State.startReadResp_keep ..) h9 rfl) (Keep.step (State.sendNak_keep ..) h9 rfl))
    · refine Keep.ite (Keep.step (State.srAhead_keep ..) h0 rfl) ?_
      extract_lets +onlyGivenNames x15
      refine Keep.cut (x := x15) (Keep.count .rma h0 rfl rfl) (fun h16 => ?_)
      generalize x15 = y17 at *
      exact (Keep.ite h16 (Keep.step (State.sendNak_keep ..) (Keep.step (State.setQp_keep ..) h16 rfl) rfl))

theorem State.hold_keep (s : State) (h : HeldPkt) (psn : Nat) : Keep 0x5008120400104004 s (State.hold s h psn) := by
  have h0 := Keep.refl 0x5008120400104004 s
  unfold State.hold
  extract_lets +onlyGivenNames x1
  generalize x1 = y2 at *
  exact (Keep.ite (Keep.step (State.sendNak_keep ..) h0 rfl) (Keep.ite (Keep.count .rma h0 rfl rfl) (Keep.step (State.setHeld_keep ..) h0 rfl)))

theorem State.gotPacket_keep (s : State) (q : Nat) (r : Roce) (f : RxFrame) : Keep 0x580812b406705004 s (State.gotPacket s q r f) := by
  have h0 := Keep.refl 0x580812b406705004 s
  unfold State.gotPacket
  extract_lets +onlyGivenNames x1
  generalize x1 = y2 at *
  refine Keep.ite (Keep.count .rma h0 rfl rfl) ?_
  split
  · exact (Keep.step (State.raise_keep ..) (Keep.count .rma h0 rfl rfl) rfl)
  · extract_lets +onlyGivenNames x3
    refine Keep.cut (x := x3) (Keep.step (State.touchQp_keep ..) h0 rfl) (fun h4 => ?_)
    generalize x3 = y5 at *
    extract_lets +onlyGivenNames x6
    refine Keep.cut (x := x6) (Keep.ite (Keep.step (State.answerCe_keep ..) h4 rfl) h4) (fun h7 => ?_)
    generalize x6 = y8 at *
    refine Keep.ite (Keep.step (State.gotCnp_keep ..) h7 rfl) ?_
    refine Keep.ite (Keep.step (State.gotAck_keep ..) h7 rfl) ?_
    refine Keep.ite (Keep.step (State.gotReadResp_keep ..) h7 rfl) ?_
    refine Keep.ite ?_ h7
    split
    · exact (Keep.step (State.hold_keep ..) (Keep.step (State.fetchRegion_keep ..) h7 rfl) rfl)
    · exact (Keep.step (State.gotRequest_keep ..) h7 rfl)

theorem State.roceFrame_keep (s : State) (f : RxFrame) : Keep 0x580812b406705004 s (State.roceFrame s f) := by
  have h0 := Keep.refl 0x580812b406705004 s
  unfold State.roceFrame
  refine Keep.ite h0 ?_
  split
  · exact h0
  · extract_lets +onlyGivenNames x1
    refine Keep.cut (x := x1) (Keep.step (State.cal_keep ..) h0 rfl) (fun h2 => ?_)
    generalize x1 = y3 at *
    refine Keep.ite (Keep.count .rma h2 rfl rfl) ?_
    extract_lets +onlyGivenNames x4
    generalize x4 = y5 at *
    extract_lets +onlyGivenNames x6
    generalize x6 = y7 at *
    exact (Keep.ite (Keep.step (State.gotPacket_keep ..) h2 rfl) (Keep.ite (Keep.count .rma h2 rfl rfl) (Keep.step (State.hold_keep ..) (Keep.step (State.fetchCtx_keep ..) h2 rfl) rfl)))

theorem State.drainHeld_keep (s : State) (q : Nat) (y2 : Nat) : Keep 0x580812b406705004 s (State.drainHeld s q y2) := by
  induction y2 generalizing s q
  · have h0 := Keep.refl 0x580812b406705004 s
    unfold State.drainHeld
    exact h0
  · rename_i y2 ih
    have h0 := Keep.refl 0x580812b406705004 s
    unfold State.drainHeld
    refine Keep.ite h0 ?_
    split
    · exact h0
    · refine Keep.ite h0 ?_
      extract_lets +onlyGivenNames x1
      refine Keep.cut (x := x1) (Keep.step (State.setHeld_keep ..) h0 rfl) (fun h2 => ?_)
      generalize x1 = y3 at *
      split
      · exact (Keep.step (ih ..) h2 rfl)
      · exact (Keep.step (ih ..) (Keep.step (State.gotPacket_keep ..) h2 rfl) rfl)

theorem State.qpReady_keep (s : State) (q : Nat) : Keep 0x580812b406705004 s (State.qpReady s q) := by
  have h0 := Keep.refl 0x580812b406705004 s
  unfold State.qpReady
  exact (Keep.step (State.pumpQp_keep ..) (Keep.step (State.drainHeld_keep ..) h0 rfl) rfl)

theorem State.serveWant_keep (s : State) : Keep 0x1008001400304004 s (State.serveWant s) := by
  have h0 := Keep.refl 0x1008001400304004 s
  unfold State.serveWant
  split
  · exact h0
  · exact (Keep.ite (Keep.step (State.fetchCtx_keep ..) (Keep.rma h0 _ rfl) rfl) (Keep.step (State.evict_keep ..) h0 rfl))

theorem State.rateStart_keep (s : State) (q : Nat) : Keep 0x8000000000000 s (State.rateStart s q) := by
  have h0 := Keep.refl 0x8000000000000 s
  unfold State.rateStart
  exact (Keep.ite (Keep.step (State.setQp_keep ..) h0 rfl) h0)

end Sys2Proof.Machine
end

