-- ==== Sys2Proof/Laws/KeepTwin.lean ====
section
/-!
SUPPORT. What each operation and each command of Machine/Twin.lean can do to the state: the zones and parts it stays within.
-/
namespace Sys2Proof.Machine

theorem State.mirrorWrite_keep (s : State) (off : Nat) (d : List Byte) : Keep 0x5008020406100004 s (State.mirrorWrite s off d) := by
  have h0 := Keep.refl 0x5008020406100004 s
  unfold State.mirrorWrite
  exact (Keep.ite (Keep.step (State.sendMsg_keep ..) h0 rfl) h0)

theorem State.snapshotWrite_keep (s : State) : Keep 0x5008020406100004 s (State.snapshotWrite s) := by
  have h0 := Keep.refl 0x5008020406100004 s
  unfold State.snapshotWrite
  refine Keep.ite h0 ?_
  extract_lets +onlyGivenNames x1
  generalize x1 = y2 at *
  extract_lets +onlyGivenNames x3
  generalize x3 = y4 at *
  extract_lets +onlyGivenNames x5
  generalize x5 = y6 at *
  extract_lets +onlyGivenNames x7
  refine Keep.cut (x := x7) (Keep.rma h0 _ rfl) (fun h8 => ?_)
  generalize x7 = y9 at *
  exact (Keep.step (State.mirrorWrite_keep ..) (Keep.step (State.mirrorWrite_keep ..) (Keep.step (State.mirrorWrite_keep ..) h8 rfl) rfl) rfl)

theorem State.mirrorRow_keep (s : State) (b : Nat) (n : Nat) (header : List Byte) (cells : List Byte) : Keep 0x5008020406100004 s (State.mirrorRow s b n header cells) := by
  have h0 := Keep.refl 0x5008020406100004 s
  unfold State.mirrorRow
  refine Keep.ite h0 ?_
  extract_lets +onlyGivenNames x1
  refine Keep.cut (x := x1) (Keep.ite (Keep.step (State.snapshotWrite_keep ..) h0 rfl) h0) (fun h2 => ?_)
  generalize x1 = y3 at *
  extract_lets +onlyGivenNames x4
  generalize x4 = y5 at *
  exact (Keep.step (State.mirrorWrite_keep ..) (Keep.step (State.mirrorWrite_keep ..) h2 rfl) rfl)

theorem State.showArm_keep (s : State) (t : Nat) (b : Bool) : Keep 0x400 s (State.showArm s t b) := by
  have h0 := Keep.refl 0x400 s
  unfold State.showArm
  exact (Keep.setBitAt .trp (Keep.setBitAt .trp h0 rfl rfl) rfl rfl)

theorem State.gateTerms_keep (s : State) : Keep 0x400104404 s (State.gateTerms s) := by
  have h0 := Keep.refl 0x400104404 s
  unfold State.gateTerms
  refine Keep.forEach ?_ (fun a2 u1 => ?_)
  · exact h0
  have h3 := Keep.refl 0x400104404 u1
  extract_lets +onlyGivenNames x4
  generalize x4 = y5 at *
  extract_lets +onlyGivenNames x6
  refine Keep.cut (x := x6) (Keep.setBitAt .rma h3 rfl rfl) (fun h7 => ?_)
  generalize x6 = y8 at *
  refine Keep.ite h7 ?_
  extract_lets +onlyGivenNames x9
  refine Keep.cut (x := x9) (Keep.step (State.raise_keep ..) (Keep.step (State.showArm_keep ..) h7 rfl) rfl) (fun h10 => ?_)
  generalize x9 = y11 at *
  exact (Keep.ite h10 (Keep.step (State.setTerm_keep ..) (Keep.ite (Keep.wr .trp h10 rfl rfl) h10) rfl))

theorem State.ungateTerms_keep (s : State) : Keep 0x5002020400100404 s (State.ungateTerms s) := by
  have h0 := Keep.refl 0x5002020400100404 s
  unfold State.ungateTerms
  refine Keep.forEach ?_ (fun a2 u1 => ?_)
  · exact h0
  have h3 := Keep.refl 0x5002020400100404 u1
  exact (Keep.step (State.armTo_keep ..) h3 rfl)

theorem State.setRole_keep (s : State) (v : Nat) : Keep 0x400104004 s (State.setRole s v) := by
  have h0 := Keep.refl 0x400104004 s
  unfold State.setRole
  extract_lets +onlyGivenNames x1
  generalize x1 = y2 at *
  exact (Keep.ite h0 (Keep.step (State.raise_keep ..) (Keep.wr .rma h0 rfl rfl) rfl))

theorem State.toStandby_keep (s : State) : Keep 0x400104404 s (State.toStandby s) := by
  have h0 := Keep.refl 0x400104404 s
  unfold State.toStandby
  exact (Keep.step (State.setRole_keep ..) (Keep.step (State.gateTerms_keep ..) h0 rfl) rfl)

theorem State.pubResume_keep (s : State) (p : Nat) : Keep 0x2000000000000 s (State.pubResume s p) := by
  have h0 := Keep.refl 0x2000000000000 s
  unfold State.pubResume
  extract_lets +onlyGivenNames x1
  generalize x1 = y2 at *
  exact (Keep.ite h0 (Keep.step (State.setPub_keep ..) h0 rfl))

theorem State.takeover_keep (s : State) : Keep 0x5002020400104404 s (State.takeover s) := by
  have h0 := Keep.refl 0x5002020400104404 s
  unfold State.takeover
  extract_lets +onlyGivenNames x1
  generalize x1 = y2 at *
  extract_lets +onlyGivenNames x3
  generalize x3 = y4 at *
  extract_lets +onlyGivenNames x5
  generalize x5 = y6 at *
  extract_lets +onlyGivenNames x7
  generalize x7 = y8 at *
  extract_lets +onlyGivenNames x9
  generalize x9 = y10 at *
  extract_lets +onlyGivenNames x11
  generalize x11 = y12 at *
  extract_lets +onlyGivenNames x13
  refine Keep.cut (x := x13) (Keep.step (State.raise_keep ..) (Keep.step (State.setRole_keep ..) h0 rfl) rfl) (fun h14 => ?_)
  generalize x13 = y15 at *
  extract_lets +onlyGivenNames x16
  refine Keep.cut (x := x16) ?_ (fun h17 => ?_)
  · unfold x16
    clear x16
    split
    · exact (Keep.step (State.raise_keep ..) h14 rfl)
    · refine Keep.forEach ?_ (fun a19 u18 => ?_)
      · exact h14
      have h20 := Keep.refl 0x5002020400104404 u18
      extract_lets +onlyGivenNames x21
      generalize x21 = y22 at *
      extract_lets +onlyGivenNames x23
      refine Keep.cut (x := x23) (Keep.wr .trp (Keep.wr .trp (Keep.wr .trp h20 rfl rfl) rfl rfl) rfl rfl) (fun h24 => ?_)
      generalize x23 = y25 at *
      exact (Keep.step (State.setPub_keep ..) (Keep.wr .trp h24 rfl rfl) rfl)
  generalize x16 = y26 at *
  refine Keep.forEach ?_ (fun a28 u27 => ?_)
  · exact h17
  have h29 := Keep.refl 0x5002020400104404 u27
  extract_lets +onlyGivenNames x30
  generalize x30 = y31 at *
  extract_lets +onlyGivenNames x32
  generalize x32 = y33 at *
  extract_lets +onlyGivenNames x34
  generalize x34 = y35 at *
  extract_lets +onlyGivenNames x36
  refine Keep.cut (x := x36) (Keep.step (State.armTo_keep ..) h29 rfl) (fun h37 => ?_)
  generalize x36 = y38 at *
  extract_lets +onlyGivenNames x39
  refine Keep.cut (x := x39) (Keep.step (State.setTerm_keep ..) h37 rfl) (fun h40 => ?_)
  generalize x39 = y41 at *
  extract_lets +onlyGivenNames x42
  refine Keep.cut (x := x42) (Keep.ite (Keep.ite (Keep.step (State.pubAgain_keep ..) h40 rfl) h40) (Keep.ite (Keep.step (State.pubChange_keep ..) h37 rfl) h37)) (fun h43 => ?_)
  generalize x42 = y44 at *
  exact (Keep.step (State.pubResume_keep ..) h43 rfl)

theorem execHeartbeatSend_gives (s : State) : Gives 0xd008020c06100004 s (execHeartbeatSend s) := by
  have h0 := Keep.refl 0xd008020c06100004 s
  unfold execHeartbeatSend
  refine Gives.ite ?_ ?_
  · exact Gives.ok h0
  · extract_lets +onlyGivenNames x1
    refine Gives.cut (x := x1) (Keep.step (State.advanceTo_keep ..) h0 rfl) (fun h2 => ?_)
    generalize x1 = y3 at *
    extract_lets +onlyGivenNames x4
    generalize x4 = y5 at *
    extract_lets +onlyGivenNames x6
    refine Gives.cut (x := x6) (Keep.rma h2 _ rfl) (fun h7 => ?_)
    generalize x6 = y8 at *
    extract_lets +onlyGivenNames x9
    generalize x9 = y10 at *
    extract_lets +onlyGivenNames x11
    generalize x11 = y12 at *
    exact Gives.ok (Keep.step (State.linkSend_keep ..) (Keep.step (State.mirrorWrite_keep ..) h7 rfl) rfl)

theorem State.mirrorResume_keep (s : State) : Keep 0x8000406100004 s (State.mirrorResume s) := by
  have h0 := Keep.refl 0x8000406100004 s
  unfold State.mirrorResume
  extract_lets +onlyGivenNames x1
  generalize x1 = y2 at *
  refine Keep.ite h0 ?_
  extract_lets +onlyGivenNames x3
  generalize x3 = y4 at *
  extract_lets +onlyGivenNames x5
  refine Keep.cut (x := x5) (Keep.step (State.setCtx_keep ..) h0 rfl) (fun h6 => ?_)
  generalize x5 = y7 at *
  refine Keep.step (State.rateStart_keep ..) ?_ rfl
  extract_lets +onlyGivenNames x8
  refine Keep.cut (x := x8) (Keep.step (State.raise_keep ..) h6 rfl) (fun h9 => ?_)
  generalize x8 = y10 at *
  exact (Keep.rma h9 _ rfl)

theorem State.gotHeartbeat_keep (s : State) (b : List Byte) : Keep 0x8000406104404 s (State.gotHeartbeat s b) := by
  have h0 := Keep.refl 0x8000406104404 s
  unfold State.gotHeartbeat
  extract_lets +onlyGivenNames x1
  generalize x1 = y2 at *
  extract_lets +onlyGivenNames x3
  generalize x3 = y4 at *
  extract_lets +onlyGivenNames x5
  generalize x5 = y6 at *
  extract_lets +onlyGivenNames x7
  generalize x7 = y8 at *
  extract_lets +onlyGivenNames x9
  refine Keep.cut (x := x9) (Keep.ite (Keep.step (State.raise_keep ..) (Keep.wr .rma h0 rfl rfl) rfl) (Keep.wr .rma h0 rfl rfl)) (fun h10 => ?_)
  generalize x9 = y11 at *
  extract_lets +onlyGivenNames x12
  refine Keep.cut (x := x12) (Keep.step (State.mirrorResume_keep ..) h10 rfl) (fun h13 => ?_)
  generalize x12 = y14 at *
  extract_lets +onlyGivenNames x15
  generalize x15 = y16 at *
  extract_lets +onlyGivenNames x17
  refine Keep.cut (x := x17) (Keep.rma h13 _ rfl) (fun h18 => ?_)
  generalize x17 = y19 at *
  extract_lets +onlyGivenNames x20
  generalize x20 = y21 at *
  exact (Keep.ite (Keep.step (State.toStandby_keep ..) h18 rfl) (Keep.ite (Keep.ite (Keep.step (State.setRole_keep ..) h18 rfl) (Keep.step (State.toStandby_keep ..) h18 rfl)) (Keep.ite (Keep.step (State.toStandby_keep ..) (Keep.step (State.raise_keep ..) h18 rfl) rfl) h18)))

theorem execHeartbeatReceive_gives (raw : Bool) (s : State) : Gives 0x8040406104404 s (execHeartbeatReceive raw s) := by
  have h0 := Keep.refl 0x8040406104404 s
  unfold execHeartbeatReceive
  extract_lets +onlyGivenNames x1
  generalize x1 = y2 at *
  refine Gives.ite ?_ ?_
  · split
    · exact Gives.ok h0
    · refine Gives.ite ?_ ?_
      · exact Gives.ok h0
      · extract_lets +onlyGivenNames x3
        generalize x3 = y4 at *
        extract_lets +onlyGivenNames x5
        refine Gives.cut (x := x5) (Keep.ppl h0 _ rfl) (fun h6 => ?_)
        generalize x5 = y7 at *
        refine Gives.ite ?_ ?_
        · exact Gives.ok h6
        · extract_lets +onlyGivenNames x8
          refine Gives.cut (x := x8) (Keep.wr .rma h6 rfl rfl) (fun h9 => ?_)
          generalize x8 = y10 at *
          extract_lets +onlyGivenNames x11
          generalize x11 = y12 at *
          extract_lets +onlyGivenNames x13
          refine Gives.cut (x := x13) (Keep.rma h9 _ rfl) (fun h14 => ?_)
          generalize x13 = y15 at *
          exact Gives.ok (Keep.step (State.gotHeartbeat_keep ..) h14 rfl)
  · refine Gives.ite ?_ ?_
    · exact Gives.ok h0
    · extract_lets +onlyGivenNames x16
      generalize x16 = y17 at *
      extract_lets +onlyGivenNames x18
      refine Gives.cut (x := x18) (Keep.rma h0 _ rfl) (fun h19 => ?_)
      generalize x18 = y20 at *
      refine Gives.ite ?_ ?_
      · exact Gives.ok h19
      · extract_lets +onlyGivenNames x21
        refine Gives.cut (x := x21) (Keep.wr .rma h19 rfl rfl) (fun h22 => ?_)
        generalize x21 = y23 at *
        extract_lets +onlyGivenNames x24
        generalize x24 = y25 at *
        extract_lets +onlyGivenNames x26
        refine Gives.cut (x := x26) (Keep.rma h22 _ rfl) (fun h27 => ?_)
        generalize x26 = y28 at *
        exact Gives.ok (Keep.step (State.gotHeartbeat_keep ..) h27 rfl)

theorem execHeartbeatPathSilent_gives (raw : Bool) (s : State) : Gives 0x8000000c00104004 s (execHeartbeatPathSilent raw s) := by
  have h0 := Keep.refl 0x8000000c00104004 s
  unfold execHeartbeatPathSilent
  refine Gives.ite ?_ ?_
  · refine Gives.ite ?_ ?_
    · exact Gives.ok h0
    · exact Gives.ok (Keep.step (State.raise_keep ..) (Keep.wr .rma (Keep.step (State.advanceTo_keep ..) h0 rfl) rfl rfl) rfl)
  · refine Gives.ite ?_ ?_
    · exact Gives.ok h0
    · exact Gives.ok (Keep.step (State.raise_keep ..) (Keep.wr .rma (Keep.step (State.advanceTo_keep ..) h0 rfl) rfl rfl) rfl)

theorem State.pathSilent_keep (s : State) (raw : Bool) : Keep 0x400104004 s (State.pathSilent s raw) := by
  have h0 := Keep.refl 0x400104004 s
  unfold State.pathSilent
  exact (Keep.ite (Keep.ite (Keep.step (State.raise_keep ..) (Keep.wr .rma h0 rfl rfl) rfl) h0) (Keep.ite (Keep.step (State.raise_keep ..) (Keep.wr .rma h0 rfl rfl) rfl) h0))

theorem execTwinSilent_gives (s : State) : Gives 0xd002020c00104404 s (execTwinSilent s) := by
  have h0 := Keep.refl 0xd002020c00104404 s
  unfold execTwinSilent
  extract_lets +onlyGivenNames x1
  generalize x1 = y2 at *
  refine Gives.ite ?_ ?_
  · exact Gives.ok h0
  · extract_lets +onlyGivenNames x3
    refine Gives.cut (x := x3) (Keep.step (State.pathSilent_keep ..) (Keep.step (State.pathSilent_keep ..) (Keep.step (State.advanceTo_keep ..) h0 rfl) rfl) rfl) (fun h4 => ?_)
    generalize x3 = y5 at *
    refine Gives.ite ?_ ?_
    · exact Gives.ok (Keep.step (State.takeover_keep ..) h4 rfl)
    · exact Gives.ok h4

theorem execTwinSeekExpire_gives (s : State) : Gives 0x8000000c00104004 s (execTwinSeekExpire s) := by
  have h0 := Keep.refl 0x8000000c00104004 s
  unfold execTwinSeekExpire
  refine Gives.ite ?_ ?_
  · exact Gives.ok h0
  · exact Gives.ok (Keep.step (State.setRole_keep ..) (Keep.step (State.advanceTo_keep ..) h0 rfl) rfl)

theorem State.twinCommit_keep (s : State) (was : Bool) : Keep 0x500a020400104404 s (State.twinCommit s was) := by
  have h0 := Keep.refl 0x500a020400104404 s
  unfold State.twinCommit
  extract_lets +onlyGivenNames x1
  generalize x1 = y2 at *
  refine Keep.ite (Keep.step (State.setRole_keep ..) (Keep.rma h0 _ rfl) rfl) ?_
  refine Keep.ite ?_ h0
  extract_lets +onlyGivenNames x3
  generalize x3 = y4 at *
  extract_lets +onlyGivenNames x5
  refine Keep.cut (x := x5) (Keep.step (State.setRole_keep ..) h0 rfl) (fun h6 => ?_)
  generalize x5 = y7 at *
  exact (Keep.ite (Keep.step (State.ungateTerms_keep ..) h6 rfl) h6)

theorem execRocePacketReceive_gives (s : State) : Gives 0x580816b406705004 s (execRocePacketReceive s) := by
  have h0 := Keep.refl 0x580816b406705004 s
  unfold execRocePacketReceive
  split
  · exact Gives.ok h0
  · refine Gives.ite ?_ ?_
    · exact Gives.ok h0
    · extract_lets +onlyGivenNames x1
      generalize x1 = y2 at *
      extract_lets +onlyGivenNames x3
      refine Gives.cut (x := x3) (Keep.ppl h0 _ rfl) (fun h4 => ?_)
      generalize x3 = y5 at *
      refine Gives.ite ?_ ?_
      · exact Gives.ok (Keep.step (State.serveWant_keep ..) (Keep.step (State.roceFrame_keep ..) h4 rfl) rfl)
      · exact Gives.ok h4

theorem execRoceAckTimer_gives (q : Nat) (s : State) : Gives 0xd008020c00100004 s (execRoceAckTimer q s) := by
  have h0 := Keep.refl 0xd008020c00100004 s
  unfold execRoceAckTimer
  extract_lets +onlyGivenNames x1
  generalize x1 = y2 at *
  refine Gives.ite ?_ ?_
  · exact Gives.ok h0
  · exact Gives.ok (Keep.step (State.sendAck_keep ..) (Keep.step (State.advanceTo_keep ..) h0 rfl) rfl)

theorem execRoceAckTimeout_gives (q : Nat) (s : State) : Gives 0xd808023c06705004 s (execRoceAckTimeout q s) := by
  have h0 := Keep.refl 0xd808023c06705004 s
  unfold execRoceAckTimeout
  extract_lets +onlyGivenNames x1
  generalize x1 = y2 at *
  extract_lets +onlyGivenNames x3
  generalize x3 = y4 at *
  refine Gives.ite ?_ ?_
  · exact Gives.ok h0
  · extract_lets +onlyGivenNames x5
    refine Gives.cut (x := x5) (Keep.step (State.advanceTo_keep ..) h0 rfl) (fun h6 => ?_)
    generalize x5 = y7 at *
    refine Gives.ite ?_ ?_
    · exact Gives.ok (Keep.step (State.qpError_keep ..) (Keep.step (State.raise_keep ..) h6 rfl) rfl)
    · exact Gives.ok (Keep.step (State.resendFrom_keep ..) (Keep.step (State.putCtx_keep ..) h6 rfl) rfl)

theorem execRoceRnrWaitExpire_gives (q : Nat) (s : State) : Gives 0xd808023c06705004 s (execRoceRnrWaitExpire q s) := by
  have h0 := Keep.refl 0xd808023c06705004 s
  unfold execRoceRnrWaitExpire
  extract_lets +onlyGivenNames x1
  generalize x1 = y2 at *
  refine Gives.ite ?_ ?_
  · exact Gives.ok h0
  · extract_lets +onlyGivenNames x3
    refine Gives.cut (x := x3) (Keep.step (State.setQp_keep ..) (Keep.step (State.advanceTo_keep ..) h0 rfl) rfl) (fun h4 => ?_)
    generalize x3 = y5 at *
    exact Gives.ok (Keep.step (State.pumpQp_keep ..) (Keep.step (State.resendFrom_keep ..) h4 rfl) rfl)

theorem execRoceRateIncrease_gives (q : Nat) (s : State) : Gives 0x8008000806000000 s (execRoceRateIncrease q s) := by
  have h0 := Keep.refl 0x8008000806000000 s
  unfold execRoceRateIncrease
  extract_lets +onlyGivenNames x1
  generalize x1 = y2 at *
  refine Gives.ite ?_ ?_
  · exact Gives.ok h0
  · extract_lets +onlyGivenNames x3
    refine Gives.cut (x := x3) (Keep.step (State.advanceTo_keep ..) h0 rfl) (fun h4 => ?_)
    generalize x3 = y5 at *
    extract_lets +onlyGivenNames x6
    generalize x6 = y7 at *
    extract_lets +onlyGivenNames x8
    refine Gives.cut (x := x8) (Keep.step (State.putCtx_keep ..) h4 rfl) (fun h9 => ?_)
    generalize x8 = y10 at *
    exact Gives.ok (Keep.step (State.setQp_keep ..) h9 rfl)

theorem execSrNakRepeat_gives (q : Nat) (s : State) : Gives 0xd008020c00100004 s (execSrNakRepeat q s) := by
  have h0 := Keep.refl 0xd008020c00100004 s
  unfold execSrNakRepeat
  split
  · exact Gives.ok h0
  · extract_lets +onlyGivenNames x1
    generalize x1 = y2 at *
    extract_lets +onlyGivenNames x3
    refine Gives.cut (x := x3) (Keep.step (State.advanceTo_keep ..) h0 rfl) (fun h4 => ?_)
    generalize x3 = y5 at *
    exact Gives.ok (Keep.step (State.nakGaps_keep ..) h4 rfl)

theorem execMissHoldTimeout_gives (s : State) : Gives 0x9008100c00104004 s (execMissHoldTimeout s) := by
  have h0 := Keep.refl 0x9008100c00104004 s
  unfold execMissHoldTimeout
  split
  · exact Gives.ok h0
  · extract_lets +onlyGivenNames x1
    generalize x1 = y2 at *
    extract_lets +onlyGivenNames x3
    generalize x3 = y4 at *
    extract_lets +onlyGivenNames x5
    refine Gives.cut (x := x5) (Keep.step (State.advanceTo_keep ..) h0 rfl) (fun h6 => ?_)
    generalize x5 = y7 at *
    extract_lets +onlyGivenNames x8
    generalize x8 = y9 at *
    extract_lets +onlyGivenNames x10
    generalize x10 = y11 at *
    exact Gives.ok (Keep.step (State.setHeld_keep ..) (Keep.count .rma h6 rfl rfl) rfl)

theorem State.takeArrived_keep (s : State) (why : Purpose) : Keep 0x1000000000 s (State.takeArrived s why).1 := by
  have h0 := Keep.refl 0x1000000000 s
  show KeepP 0x1000000000 s (State.takeArrived s why)
  unfold State.takeArrived
  extract_lets +onlyGivenNames x1
  generalize x1 = y2 at *
  exact KeepP.mk (Keep.hif h0 _ rfl)

theorem execContextFetchDone_gives (x : Nat) (s : State) : Gives 0x580812b406705004 s (execContextFetchDone x s) := by
  have h0 := Keep.refl 0x580812b406705004 s
  unfold execContextFetchDone
  extract_lets +onlyGivenNames x1
  refine Gives.cutP (x := x1) ?_ (fun h2 => ?_)
  · unfold x1
    clear x1
    exact KeepP.of (Keep.step (State.takeArrived_keep ..) h0 rfl)
  generalize x1 = y3 at *
  extract_lets +onlyGivenNames x4
  generalize x4 = y5 at *
  extract_lets +onlyGivenNames x6
  generalize x6 = y7 at *
  refine Gives.ite ?_ ?_
  · exact Gives.ok h0
  · extract_lets +onlyGivenNames x8
    refine Gives.cut (x := x8) h2 (fun h9 => ?_)
    generalize x8 = y10 at *
    refine Gives.ite ?_ ?_
    · split
      · exact Gives.ok h9
      · refine Gives.ite ?_ ?_
        · exact Gives.ok h9
        · refine Gives.ite ?_ ?_
          · extract_lets +onlyGivenNames x11
            generalize x11 = y12 at *
            extract_lets +onlyGivenNames x13
            refine Gives.cut (x := x13) (Keep.step (State.raise_keep ..) (Keep.step (State.setSlot_keep ..) h9 rfl) rfl) (fun h14 => ?_)
            generalize x13 = y15 at *
            exact Gives.ok (Keep.step (State.serveWant_keep ..) (Keep.step (State.setHeld_keep ..) (Keep.count .rma h14 rfl rfl) rfl) rfl)
          · extract_lets +onlyGivenNames x16
            refine Gives.cut (x := x16) (Keep.step (State.setSlot_keep ..) h9 rfl) (fun h17 => ?_)
            generalize x16 = y18 at *
            exact Gives.ok (Keep.step (State.qpReady_keep ..) (Keep.step (State.setWinNat_keep ..) h17 rfl) rfl)
    · extract_lets +onlyGivenNames x19
      generalize x19 = y20 at *
      refine Gives.ite ?_ ?_
      · exact Gives.ok h9
      · extract_lets +onlyGivenNames x21
        generalize x21 = y22 at *
        refine Gives.ite ?_ ?_
        · extract_lets +onlyGivenNames x23
          generalize x23 = y24 at *
          extract_lets +onlyGivenNames x25
          refine Gives.cut (x := x25) (Keep.step (State.raise_keep ..) (Keep.step (State.setRegion_keep ..) h9 rfl) rfl) (fun h26 => ?_)
          generalize x25 = y27 at *
          exact Gives.ok (Keep.step (State.setHeld_keep ..) (Keep.count .rma h26 rfl rfl) rfl)
        · extract_lets +onlyGivenNames x28
          generalize x28 = y29 at *
          extract_lets +onlyGivenNames x30
          refine Gives.cut (x := x30) (Keep.step (State.setRegion_keep ..) h9 rfl) (fun h31 => ?_)
          generalize x30 = y32 at *
          refine Gives.ok ?_
          refine Keep.forEach ?_ (fun a34 u33 => ?_)
          · exact h31
          have h35 := Keep.refl 0x580812b406705004 u33
          exact (Keep.step (State.qpReady_keep ..) h35 rfl)

theorem execContextWritebackDone_gives (i : Nat) (success : Bool) (s : State) : Gives 0x580812b406705004 s (execContextWritebackDone i success s) := by
  have h0 := Keep.refl 0x580812b406705004 s
  unfold execContextWritebackDone
  extract_lets +onlyGivenNames x1
  generalize x1 = y2 at *
  refine Gives.ite ?_ ?_
  · exact Gives.ok h0
  · extract_lets +onlyGivenNames x3
    generalize x3 = y4 at *
    refine Gives.ite ?_ ?_
    · exact Gives.ok (Keep.step (State.serveWant_keep ..) (Keep.step (State.raise_keep ..) (Keep.step (State.setSlot_keep ..) h0 rfl) rfl) rfl)
    · refine Gives.ite ?_ ?_
      · extract_lets +onlyGivenNames x5
        refine Gives.cut (x := x5) (Keep.count .rma (Keep.step (State.setSlot_keep ..) h0 rfl) rfl rfl) (fun h6 => ?_)
        generalize x5 = y7 at *
        extract_lets +onlyGivenNames x8
        refine Gives.cut (x := x8) (Keep.step (State.qpReady_keep ..) h6 rfl) (fun h9 => ?_)
        generalize x8 = y10 at *
        exact Gives.ok (Keep.ite h9 (Keep.step (State.evict_keep ..) h9 rfl))
      · exact Gives.ok (Keep.step (State.serveWant_keep ..) (Keep.step (State.setSlot_keep ..) h0 rfl) rfl)

theorem execCreateQp_gives (g : Nat) (s : State) : Gives 0x1808003406705004 s (execCreateQp g s) := by
  have h0 := Keep.refl 0x1808003406705004 s
  unfold execCreateQp
  refine Gives.ite ?_ ?_
  · exact Gives.ok h0
  · split
    · exact Gives.ok h0
    · extract_lets +onlyGivenNames x1
      generalize x1 = y2 at *
      extract_lets +onlyGivenNames x3
      generalize x3 = y4 at *
      extract_lets +onlyGivenNames x5
      generalize x5 = y6 at *
      refine Gives.ite ?_ ?_
      · exact Gives.ok (Keep.step (State.finishJob_keep ..) h0 rfl)
      · refine Gives.ite ?_ ?_
        · exact Gives.ok (Keep.step (State.finishJob_keep ..) h0 rfl)
        · refine Gives.ite ?_ ?_
          · exact Gives.ok (Keep.step (State.finishJob_keep ..) h0 rfl)
          · split
            · exact Gives.ok (Keep.step (State.evict_keep ..) h0 rfl)
            · extract_lets +onlyGivenNames x7
              generalize x7 = y8 at *
              extract_lets +onlyGivenNames x9
              refine Gives.cut (x := x9) (Keep.step (State.setWinNat_keep ..) (Keep.step (State.setSlot_keep ..) h0 rfl) rfl) (fun h10 => ?_)
              generalize x9 = y11 at *
              extract_lets +onlyGivenNames x12
              generalize x12 = y13 at *
              extract_lets +onlyGivenNames x14
              refine Gives.cut (x := x14) (Keep.rma h10 _ rfl) (fun h15 => ?_)
              generalize x14 = y16 at *
              exact Gives.ok (Keep.step (State.finishJob_keep ..) (Keep.step (State.rateStart_keep ..) (Keep.step (State.setQp_keep ..) h15 rfl) rfl) rfl)

theorem execModifyQp_gives (g : Nat) (s : State) : Gives 0x5808023406705004 s (execModifyQp g s) := by
  have h0 := Keep.refl 0x5808023406705004 s
  unfold execModifyQp
  refine Gives.ite ?_ ?_
  · exact Gives.ok h0
  · split
    · exact Gives.ok h0
    · refine Gives.ok ?_
      unfold State.onQp
      extract_lets +onlyGivenNames x1
      generalize x1 = y2 at *
      extract_lets +onlyGivenNames x3
      generalize x3 = y4 at *
      refine Keep.ite (Keep.step (State.finishJob_keep ..) h0 rfl) ?_
      refine Keep.ite (Keep.step (State.fetchCtx_keep ..) h0 rfl) ?_
      dsimp -zeta only
      refine Keep.ite (Keep.step (State.finishJob_keep ..) h0 rfl) ?_
      extract_lets +onlyGivenNames x5
      generalize x5 = y6 at *
      extract_lets +onlyGivenNames x7
      generalize x7 = y8 at *
      refine Keep.ite (Keep.step (State.finishJob_keep ..) h0 rfl) ?_
      extract_lets +onlyGivenNames x9
      refine Keep.cut (x := x9) (Keep.step (State.setCtx_keep ..) h0 rfl) (fun h10 => ?_)
      generalize x9 = y11 at *
      extract_lets +onlyGivenNames x12
      refine Keep.cut (x := x12) (Keep.ite (Keep.step (State.qpError_keep ..) h10 rfl) (Keep.ite (Keep.step (State.setQp_keep ..) h10 rfl) (Keep.step (State.rateStart_keep ..) h10 rfl))) (fun h13 => ?_)
      generalize x12 = y14 at *
      exact (Keep.step (State.pumpQp_keep ..) (Keep.step (State.finishJob_keep ..) h13 rfl) rfl)

theorem execQueryQp_gives (g : Nat) (s : State) : Gives 0x1808003400705004 s (execQueryQp g s) := by
  have h0 := Keep.refl 0x1808003400705004 s
  unfold execQueryQp
  refine Gives.ite ?_ ?_
  · exact Gives.ok h0
  · split
    · exact Gives.ok h0
    · refine Gives.ok ?_
      unfold State.onQp
      extract_lets +onlyGivenNames x1
      generalize x1 = y2 at *
      extract_lets +onlyGivenNames x3
      generalize x3 = y4 at *
      refine Keep.ite (Keep.step (State.finishJob_keep ..) h0 rfl) ?_
      refine Keep.ite (Keep.step (State.fetchCtx_keep ..) h0 rfl) ?_
      dsimp -zeta only
      extract_lets +onlyGivenNames x5
      generalize x5 = y6 at *
      exact (Keep.ite (Keep.step (State.finishJob_keep ..) h0 rfl) (Keep.step (State.finishJob_keep ..) (Keep.step (State.ringCount_keep ..) (Keep.step (State.writeFrags_keep ..) h0 rfl) rfl) rfl))

theorem State.dropQp_keep (s : State) (q : Nat) : Keep 0x1808103406705004 s (State.dropQp s q) := by
  have h0 := Keep.refl 0x1808103406705004 s
  unfold State.dropQp
  extract_lets +onlyGivenNames x1
  refine Keep.cut (x := x1) ?_ (fun h2 => ?_)
  · unfold x1
    clear x1
    refine Keep.forEach ?_ (fun a4 u3 => ?_)
    · exact h0
    have h5 := Keep.refl 0x1808103406705004 u3
    exact (Keep.step (State.flushRing_keep ..) h5 rfl)
  generalize x1 = y6 at *
  extract_lets +onlyGivenNames x7
  refine Keep.cut (x := x7) ?_ (fun h8 => ?_)
  · unfold x7
    clear x7
    split
    · exact (Keep.step (State.setWinNat_keep ..) (Keep.step (State.setSlot_keep ..) h2 rfl) rfl)
    · exact h2
  generalize x7 = y9 at *
  extract_lets +onlyGivenNames x10
  refine Keep.cut (x := x10) (Keep.step (State.setHeld_keep ..) h8 rfl) (fun h11 => ?_)
  generalize x10 = y12 at *
  extract_lets +onlyGivenNames x13
  generalize x13 = y14 at *
  extract_lets +onlyGivenNames x15
  refine Keep.cut (x := x15) (Keep.rma h11 _ rfl) (fun h16 => ?_)
  generalize x15 = y17 at *
  exact (Keep.step (State.storeWrite_keep ..) (Keep.step (State.setQp_keep ..) h16 rfl) rfl)

theorem execDestroyQp_gives (g : Nat) (s : State) : Gives 0x1808103406705004 s (execDestroyQp g s) := by
  have h0 := Keep.refl 0x1808103406705004 s
  unfold execDestroyQp
  refine Gives.ite ?_ ?_
  · exact Gives.ok h0
  · split
    · exact Gives.ok h0
    · refine Gives.ok ?_
      unfold State.onQp
      extract_lets +onlyGivenNames x1
      generalize x1 = y2 at *
      extract_lets +onlyGivenNames x3
      generalize x3 = y4 at *
      exact (Keep.ite (Keep.step (State.finishJob_keep ..) h0 rfl) (Keep.ite (Keep.step (State.fetchCtx_keep ..) h0 rfl) (Keep.step (State.finishJob_keep ..) (Keep.step (State.dropQp_keep ..) h0 rfl) rfl)))

theorem State.dropQps_keep (s : State) (f : Nat) : Keep 0x1808103406705004 s (State.dropQps s f) := by
  have h0 := Keep.refl 0x1808103406705004 s
  unfold State.dropQps
  extract_lets +onlyGivenNames x1
  refine Keep.cut (x := x1) ?_ (fun h2 => ?_)
  · unfold x1
    clear x1
    refine Keep.forEach ?_ (fun a4 u3 => ?_)
    · exact h0
    have h5 := Keep.refl 0x1808103406705004 u3
    exact (Keep.step (State.dropQp_keep ..) h5 rfl)
  generalize x1 = y6 at *
  refine Keep.forEach ?_ (fun a8 u7 => ?_)
  · exact h2
  have h9 := Keep.refl 0x1808103406705004 u7
  exact (Keep.step (State.setRegion_keep ..) (Keep.rma h9 _ rfl) rfl)

theorem execRegisterRegion_gives (g : Nat) (s : State) : Gives 0x1808003400701004 s (execRegisterRegion g s) := by
  have h0 := Keep.refl 0x1808003400701004 s
  unfold execRegisterRegion
  refine Gives.ite ?_ ?_
  · exact Gives.ok h0
  · split
    · exact Gives.ok h0
    · extract_lets +onlyGivenNames x1
      generalize x1 = y2 at *
      extract_lets +onlyGivenNames x3
      generalize x3 = y4 at *
      extract_lets +onlyGivenNames x5
      generalize x5 = y6 at *
      extract_lets +onlyGivenNames x7
      generalize x7 = y8 at *
      refine Gives.ite ?_ ?_
      · exact Gives.ok (Keep.step (State.finishJob_keep ..) h0 rfl)
      · extract_lets +onlyGivenNames x9
        generalize x9 = y10 at *
        extract_lets +onlyGivenNames x11
        refine Gives.cut (x := x11) (Keep.step (State.storeWrite_keep ..) (Keep.step (State.setRegion_keep ..) (Keep.step (State.roomForRegion_keep ..) h0 rfl) rfl) rfl) (fun h12 => ?_)
        generalize x11 = y13 at *
        extract_lets +onlyGivenNames x14
        generalize x14 = y15 at *
        extract_lets +onlyGivenNames x16
        refine Gives.cut (x := x16) (Keep.rma h12 _ rfl) (fun h17 => ?_)
        generalize x16 = y18 at *
        exact Gives.ok (Keep.step (State.finishJob_keep ..) h17 rfl)

theorem execDeregisterRegion_gives (g : Nat) (s : State) : Gives 0x1808003400701004 s (execDeregisterRegion g s) := by
  have h0 := Keep.refl 0x1808003400701004 s
  unfold execDeregisterRegion
  refine Gives.ite ?_ ?_
  · exact Gives.ok h0
  · split
    · exact Gives.ok h0
    · extract_lets +onlyGivenNames x1
      generalize x1 = y2 at *
      refine Gives.ite ?_ ?_
      · exact Gives.ok (Keep.step (State.finishJob_keep ..) h0 rfl)
      · extract_lets +onlyGivenNames x3
        refine Gives.cut (x := x3) (Keep.step (State.storeWrite_keep ..) (Keep.step (State.setRegion_keep ..) h0 rfl) rfl) (fun h4 => ?_)
        generalize x3 = y5 at *
        extract_lets +onlyGivenNames x6
        generalize x6 = y7 at *
        extract_lets +onlyGivenNames x8
        refine Gives.cut (x := x8) (Keep.rma h4 _ rfl) (fun h9 => ?_)
        generalize x8 = y10 at *
        exact Gives.ok (Keep.step (State.finishJob_keep ..) h9 rfl)

theorem execPostSend_gives (g : Nat) (s : State) : Gives 0x5808023406705004 s (execPostSend g s) := by
  have h0 := Keep.refl 0x5808023406705004 s
  unfold execPostSend
  refine Gives.ite ?_ ?_
  · exact Gives.ok h0
  · extract_lets +onlyGivenNames x1
    generalize x1 = y2 at *
    refine Gives.ite ?_ ?_
    · exact Gives.ok h0
    · refine Gives.ite ?_ ?_
      · exact Gives.ok (Keep.step (State.pumpQp_keep ..) h0 rfl)
      · exact Gives.ok (Keep.step (State.fetchCtx_keep ..) h0 rfl)

theorem execPostReceive_gives (g : Nat) (s : State) : Gives 0x1800003400701004 s (execPostReceive g s) := by
  have h0 := Keep.refl 0x1800003400701004 s
  unfold execPostReceive
  refine Gives.ite ?_ ?_
  · exact Gives.ok h0
  · extract_lets +onlyGivenNames x1
    refine Gives.cut (x := x1) (Keep.step (State.postBuffer_keep ..) h0 rfl) (fun h2 => ?_)
    generalize x1 = y3 at *
    exact Gives.ok (Keep.ite (Keep.step (State.flushRing_keep ..) h2 rfl) h2)

end Sys2Proof.Machine
end

