-- ==== Sys2Proof/Laws/KeepAlign.lean ====
section
/-!
SUPPORT. What each operation and each command of Machine/Align.lean can do to the state: the zones and parts it stays within.
-/
namespace Sys2Proof.Machine

theorem State.setBay_keep (s : State) (b : Nat) (x : BaySt) : Keep 0x800000000000 s (State.setBay s b x) := by
  have h0 := Keep.refl 0x800000000000 s
  unfold State.setBay
  exact (Keep.aln h0 _ rfl)

theorem State.showBay_keep (s : State) (b : Nat) : Keep 0x100 s (State.showBay s b) := by
  have h0 := Keep.refl 0x100 s
  unfold State.showBay
  extract_lets +onlyGivenNames x1
  generalize x1 = y2 at *
  exact (Keep.wr .aln h0 rfl rfl)

theorem State.cutFrame_keep (s : State) (b : Nat) (last : Nat) (close : Nat) (mark : Nat) (gtc : Nat) : Keep 0x800000000000 s (State.cutFrame s b last close mark gtc) := by
  have h0 := Keep.refl 0x800000000000 s
  unfold State.cutFrame
  extract_lets +onlyGivenNames x1
  generalize x1 = y2 at *
  refine Keep.ite h0 ?_
  extract_lets +onlyGivenNames x3
  generalize x3 = y4 at *
  exact (Keep.step (State.setBay_keep ..) h0 rfl)

theorem State.frameTo_keep (s : State) (b : Nat) (i : Nat) (data : List Byte) (y4 : Option (Nat × Nat)) : Keep 0x1800003400701104 s (State.frameTo s b i data y4) := by
  have h0 := Keep.refl 0x1800003400701104 s
  unfold State.frameTo
  split
  · exact h0
  · extract_lets +onlyGivenNames x1
    refine Keep.cutP (x := x1) ?_ (fun h2 => ?_)
    · unfold x1
      clear x1
      exact KeepP.of (Keep.step (State.deliver_keep ..) h0 rfl)
    generalize x1 = y3 at *
    extract_lets +onlyGivenNames x4
    refine Keep.cut (x := x4) (Keep.ite (Keep.count .aln h2 rfl rfl) h2) (fun h5 => ?_)
    generalize x4 = y6 at *
    unfold State.deliverOutcome
    split
    · exact h5
    · dsimp -zeta only
      exact (Keep.step (State.raise_keep ..) (Keep.ite (Keep.bump .aln h5 rfl rfl) (Keep.bump .aln h5 rfl rfl)) rfl)
    · dsimp -zeta only
      exact (Keep.step (State.raise_keep ..) (Keep.ite (Keep.bump .aln h5 rfl rfl) (Keep.bump .aln h5 rfl rfl)) rfl)
    · dsimp -zeta only
      exact (Keep.step (State.raise_keep ..) (Keep.ite (Keep.bump .aln h5 rfl rfl) (Keep.bump .aln h5 rfl rfl)) rfl)

theorem State.closeFrame_keep (s : State) (b : Nat) (c : FrameCut) : Keep 0x1800803400701104 s (State.closeFrame s b c) := by
  have h0 := Keep.refl 0x1800803400701104 s
  unfold State.closeFrame
  extract_lets +onlyGivenNames x1
  generalize x1 = y2 at *
  extract_lets +onlyGivenNames x3
  generalize x3 = y4 at *
  extract_lets +onlyGivenNames x5
  generalize x5 = y6 at *
  extract_lets +onlyGivenNames x7
  generalize x7 = y8 at *
  extract_lets +onlyGivenNames x9
  generalize x9 = y10 at *
  extract_lets +onlyGivenNames x11
  generalize x11 = y12 at *
  extract_lets +onlyGivenNames x13
  generalize x13 = y14 at *
  extract_lets +onlyGivenNames x15
  generalize x15 = y16 at *
  extract_lets +onlyGivenNames x17
  generalize x17 = y18 at *
  extract_lets +onlyGivenNames x19
  generalize x19 = y20 at *
  extract_lets +onlyGivenNames x21
  generalize x21 = y22 at *
  extract_lets +onlyGivenNames x23
  generalize x23 = y24 at *
  extract_lets +onlyGivenNames x25
  refine Keep.cut (x := x25) (Keep.step (State.setBay_keep ..) h0 rfl) (fun h26 => ?_)
  generalize x25 = y27 at *
  extract_lets +onlyGivenNames x28
  refine Keep.cut (x := x28) (Keep.count .aln (Keep.wr .aln h26 rfl rfl) rfl rfl) (fun h29 => ?_)
  generalize x28 = y30 at *
  extract_lets +onlyGivenNames x31
  generalize x31 = y32 at *
  extract_lets +onlyGivenNames x33
  refine Keep.cut (x := x33) (Keep.step (State.cal_keep ..) h29 rfl) (fun h34 => ?_)
  generalize x33 = y35 at *
  exact (Keep.step (State.frameTo_keep ..) (Keep.step (State.frameTo_keep ..) h34 rfl) rfl)

theorem State.closeFrames_keep (y0 : Nat) (y1 : State) (y2 : Nat) : Keep 0x1800803400701104 y1 (State.closeFrames y0 y1 y2) := by
  induction y0 generalizing y1 y2
  · have h0 := Keep.refl 0x1800803400701104 y1
    unfold State.closeFrames
    exact h0
  · rename_i y0 ih
    have h0 := Keep.refl 0x1800803400701104 y1
    unfold State.closeFrames
    extract_lets +onlyGivenNames x1
    generalize x1 = y2 at *
    split
    · exact h0
    · exact (Keep.ite h0 (Keep.step (ih ..) (Keep.step (State.setBay_keep ..) (Keep.step (State.closeFrame_keep ..) h0 rfl) rfl) rfl))

theorem State.pumpFrames_keep (s : State) (b : Nat) : Keep 0x1800803400701104 s (State.pumpFrames s b) := by
  have h0 := Keep.refl 0x1800803400701104 s
  unfold State.pumpFrames
  exact (Keep.step (State.closeFrames_keep ..) h0 rfl)

theorem State.frameMark_keep (s : State) (m : Nat) (g : Nat) : Keep 0x1800803400701104 s (State.frameMark s m g) := by
  have h0 := Keep.refl 0x1800803400701104 s
  unfold State.frameMark
  refine Keep.forEach ?_ (fun a2 u1 => ?_)
  · exact h0
  have h3 := Keep.refl 0x1800803400701104 u1
  extract_lets +onlyGivenNames x4
  generalize x4 = y5 at *
  exact (Keep.ite (Keep.step (State.pumpFrames_keep ..) (Keep.step (State.cutFrame_keep ..) h3 rfl) rfl) h3)

theorem State.setFillRun_keep (s : State) (b : Nat) (i : Nat) (v : Nat) : Keep 0x800000000000 s (State.setFillRun s b i v) := by
  have h0 := Keep.refl 0x800000000000 s
  unfold State.setFillRun
  extract_lets +onlyGivenNames x1
  generalize x1 = y2 at *
  exact (Keep.step (State.setBay_keep ..) h0 rfl)

theorem State.predictCell_keep (s : State) (b : Nat) (i : Nat) (n : Nat) : Keep 0x200 s (State.predictCell s b i n).1 := by
  have h0 := Keep.refl 0x200 s
  show KeepP 0x200 s (State.predictCell s b i n)
  unfold State.predictCell
  split
  · exact KeepP.of (Keep.step (State.askPrediction_keep ..) h0 rfl)
  · exact KeepP.mk (Keep.count .phe h0 rfl rfl)

theorem State.holdCell_keep (s : State) (b : Nat) (i : Nat) (j : Nat) : Keep 0x800000000000 s (State.holdCell s b i j).1 := by
  have h0 := Keep.refl 0x800000000000 s
  show KeepP 0x800000000000 s (State.holdCell s b i j)
  unfold State.holdCell
  extract_lets +onlyGivenNames x1
  generalize x1 = y2 at *
  extract_lets +onlyGivenNames x3
  generalize x3 = y4 at *
  refine KeepP.ite ?_ ?_
  · exact KeepP.mk (Keep.step (State.setFillRun_keep ..) h0 rfl)
  · exact KeepP.mk (Keep.step (State.setFillRun_keep ..) h0 rfl)

theorem State.fillCell_keep (s : State) (b : Nat) (n : Nat) (i : Nat) (sub : Option Nat) : Keep 0x800400100204 s (State.fillCell s b n i sub).1 := by
  have h0 := Keep.refl 0x800400100204 s
  show KeepP 0x800400100204 s (State.fillCell s b n i sub)
  unfold State.fillCell
  split
  · exact KeepP.mk h0
  · extract_lets +onlyGivenNames x1
    generalize x1 = y2 at *
    extract_lets +onlyGivenNames x3
    generalize x3 = y4 at *
    extract_lets +onlyGivenNames x5
    generalize x5 = y6 at *
    refine KeepP.ite ?_ ?_
    · exact KeepP.mk (Keep.ite h0 (Keep.step (State.setFillRun_keep ..) h0 rfl))
    · refine KeepP.ite ?_ ?_
      · exact KeepP.mk (Keep.ite h0 (Keep.step (State.setFillRun_keep ..) (Keep.step (State.raise_keep ..) h0 rfl) rfl))
      · refine KeepP.ite ?_ ?_
        · split
          · extract_lets +onlyGivenNames x7
            generalize x7 = y8 at *
            refine KeepP.mk ?_
            refine Keep.step (State.setFillRun_keep ..) ?_ rfl
            rename_i q9
            refine Keep.ofPair q9 ?_
            exact (Keep.step (State.predictCell_keep ..) h0 rfl)
          · refine KeepP.of (Keep.step (State.holdCell_keep ..) ?_ rfl)
            refine Keep.step (State.raise_keep ..) ?_ rfl
            rename_i q10
            refine Keep.ofPair q10 ?_
            exact (Keep.step (State.predictCell_keep ..) h0 rfl)
        · exact KeepP.of (Keep.step (State.holdCell_keep ..) h0 rfl)

theorem State.settleCells_keep (s : State) (b : Nat) (subs : List Nat) (r : Row) (y4 : Nat) (y5 : Nat) : Keep 0x800400100304 s (State.settleCells s b subs r y4 y5).1 := by
  induction y4 generalizing s b subs r y5
  · have h0 := Keep.refl 0x800400100304 s
    show KeepP _ _ _
    unfold State.settleCells
    exact KeepP.mk h0
  · rename_i y4 ih
    have h0 := Keep.refl 0x800400100304 s
    show KeepP _ _ _
    unfold State.settleCells
    extract_lets +onlyGivenNames x1
    generalize x1 = y2 at *
    extract_lets +onlyGivenNames x3
    generalize x3 = y4 at *
    refine KeepP.ite ?_ ?_
    · extract_lets +onlyGivenNames x5
      generalize x5 = y6 at *
      extract_lets +onlyGivenNames x7
      refine KeepP.cut (x := x7) (Keep.step (State.setBay_keep ..) h0 rfl) (fun h8 => ?_)
      generalize x7 = y9 at *
      extract_lets +onlyGivenNames x10
      refine KeepP.cutP (x := x10) ?_ (fun h11 => ?_)
      · unfold x10
        clear x10
        exact KeepP.of (Keep.step (ih ..) h8 rfl)
      generalize x10 = y12 at *
      exact KeepP.mk h11
    · extract_lets +onlyGivenNames x13
      refine KeepP.cutP (x := x13) ?_ (fun h14 => ?_)
      · unfold x13
        clear x13
        exact KeepP.of (Keep.step (State.fillCell_keep ..) h0 rfl)
      generalize x13 = y15 at *
      extract_lets +onlyGivenNames x16
      refine KeepP.cut (x := x16) h14 (fun h17 => ?_)
      generalize x16 = y18 at *
      extract_lets +onlyGivenNames x19
      refine KeepP.cut (x := x19) (Keep.ite (Keep.bump .aln h17 rfl rfl) (Keep.ite (Keep.bump .aln h17 rfl rfl) (Keep.ite (Keep.bump .aln h17 rfl rfl) h17))) (fun h20 => ?_)
      generalize x19 = y21 at *
      extract_lets +onlyGivenNames x22
      refine KeepP.cutP (x := x22) ?_ (fun h23 => ?_)
      · unfold x22
        clear x22
        exact KeepP.of (Keep.step (ih ..) h20 rfl)
      generalize x22 = y24 at *
      exact KeepP.mk h23

theorem State.sealRow_keep (s : State) (b : Nat) (forced : Bool) : Keep 0x580d82bc06701b0c s (State.sealRow s b forced) := by
  have h0 := Keep.refl 0x580d82bc06701b0c s
  unfold State.sealRow
  extract_lets +onlyGivenNames x1
  generalize x1 = y2 at *
  extract_lets +onlyGivenNames x3
  generalize x3 = y4 at *
  extract_lets +onlyGivenNames x5
  generalize x5 = y6 at *
  extract_lets +onlyGivenNames x7
  generalize x7 = y8 at *
  extract_lets +onlyGivenNames x9
  generalize x9 = y10 at *
  extract_lets +onlyGivenNames x11
  refine Keep.cutP (x := x11) ?_ (fun h12 => ?_)
  · unfold x11
    clear x11
    exact KeepP.of (Keep.step (State.settleCells_keep ..) h0 rfl)
  generalize x11 = y13 at *
  extract_lets +onlyGivenNames x14
  refine Keep.cut (x := x14) h12 (fun h15 => ?_)
  generalize x14 = y16 at *
  extract_lets +onlyGivenNames x17
  generalize x17 = y18 at *
  extract_lets +onlyGivenNames x19
  generalize x19 = y20 at *
  extract_lets +onlyGivenNames x21
  generalize x21 = y22 at *
  extract_lets +onlyGivenNames x23
  generalize x23 = y24 at *
  extract_lets +onlyGivenNames x25
  generalize x25 = y26 at *
  extract_lets +onlyGivenNames x27
  refine Keep.cut (x := x27) (Keep.step (State.rtWrite_keep ..) h15 rfl) (fun h28 => ?_)
  generalize x27 = y29 at *
  extract_lets +onlyGivenNames x30
  generalize x30 = y31 at *
  extract_lets +onlyGivenNames x32
  refine Keep.cut (x := x32) (Keep.step (State.setBay_keep ..) h28 rfl) (fun h33 => ?_)
  generalize x32 = y34 at *
  extract_lets +onlyGivenNames x35
  refine Keep.cut (x := x35) (Keep.wr .aln (Keep.wr .aln h33 rfl rfl) rfl rfl) (fun h36 => ?_)
  generalize x35 = y37 at *
  extract_lets +onlyGivenNames x38
  refine Keep.cut (x := x38) (Keep.step (State.cal_keep ..) (Keep.count .aln (Keep.step (State.showBay_keep ..) h36 rfl) rfl rfl) rfl) (fun h39 => ?_)
  generalize x38 = y40 at *
  extract_lets +onlyGivenNames x41
  refine Keep.cut (x := x41) (Keep.ite (Keep.step (State.cal_keep ..) (Keep.count .aln h39 rfl rfl) rfl) h39) (fun h42 => ?_)
  generalize x41 = y43 at *
  extract_lets +onlyGivenNames x44
  refine Keep.cut (x := x44) (Keep.wr .aln h42 rfl rfl) (fun h45 => ?_)
  generalize x44 = y46 at *
  extract_lets +onlyGivenNames x47
  refine Keep.cut (x := x47) (Keep.ite (Keep.step (State.pheRow_keep ..) h45 rfl) h45) (fun h48 => ?_)
  generalize x47 = y49 at *
  extract_lets +onlyGivenNames x50
  refine Keep.cut (x := x50) (Keep.ite (Keep.step (State.recRow_keep ..) h48 rfl) h48) (fun h51 => ?_)
  generalize x50 = y52 at *
  extract_lets +onlyGivenNames x53
  refine Keep.cut (x := x53) (Keep.ite (Keep.step (State.mirrorRow_keep ..) h51 rfl) h51) (fun h54 => ?_)
  generalize x53 = y55 at *
  exact (Keep.step (State.pumpFrames_keep ..) h54 rfl)

theorem State.sealReady_keep (y0 : Nat) (y1 : State) (y2 : Nat) : Keep 0x580d82bc06701b0c y1 (State.sealReady y0 y1 y2) := by
  induction y0 generalizing y1 y2
  · have h0 := Keep.refl 0x580d82bc06701b0c y1
    unfold State.sealReady
    exact h0
  · rename_i y0 ih
    have h0 := Keep.refl 0x580d82bc06701b0c y1
    unfold State.sealReady
    extract_lets +onlyGivenNames x1
    generalize x1 = y2 at *
    refine Keep.ite h0 ?_
    extract_lets +onlyGivenNames x3
    generalize x3 = y4 at *
    exact (Keep.ite (Keep.step (ih ..) (Keep.step (State.sealRow_keep ..) h0 rfl) rfl) h0)

theorem State.sealAll_keep (s : State) (b : Nat) : Keep 0x580d82bc06701b0c s (State.sealAll s b) := by
  have h0 := Keep.refl 0x580d82bc06701b0c s
  unfold State.sealAll
  extract_lets +onlyGivenNames x1
  generalize x1 = y2 at *
  exact (Keep.step (State.sealReady_keep ..) h0 rfl)

theorem State.openRow_keep (s : State) (b : Nat) (n : Nat) : Keep 0x580d82bc06701b0c s (State.openRow s b n) := by
  have h0 := Keep.refl 0x580d82bc06701b0c s
  unfold State.openRow
  extract_lets +onlyGivenNames x1
  generalize x1 = y2 at *
  refine Keep.ite h0 ?_
  extract_lets +onlyGivenNames x3
  generalize x3 = y4 at *
  extract_lets +onlyGivenNames x5
  generalize x5 = y6 at *
  extract_lets +onlyGivenNames x7
  refine Keep.cut (x := x7) (Keep.step (State.raise_keep ..) (Keep.count .aln h0 rfl rfl) rfl) (fun h8 => ?_)
  generalize x7 = y9 at *
  extract_lets +onlyGivenNames x10
  refine Keep.cut (x := x10) ?_ (fun h11 => ?_)
  · unfold x10
    clear x10
    refine Keep.ite h0 ?_
    refine Keep.forEach ?_ (fun a13 u12 => ?_)
    · exact h8
    have h14 := Keep.refl 0x580d82bc06701b0c u12
    exact (Keep.step (State.sealRow_keep ..) h14 rfl)
  generalize x10 = y15 at *
  extract_lets +onlyGivenNames x16
  refine Keep.cut (x := x16) (Keep.step (State.setBay_keep ..) h11 rfl) (fun h17 => ?_)
  generalize x16 = y18 at *
  exact (Keep.step (State.rtWrite_keep ..) h17 rfl)

theorem State.reachDue_keep (s : State) (b : Nat) : Keep 0x580d82bc06701b0c s (State.reachDue s b) := by
  have h0 := Keep.refl 0x580d82bc06701b0c s
  unfold State.reachDue
  extract_lets +onlyGivenNames x1
  generalize x1 = y2 at *
  extract_lets +onlyGivenNames x3
  refine Keep.cut (x := x3) (Keep.step (State.openRow_keep ..) h0 rfl) (fun h4 => ?_)
  generalize x3 = y5 at *
  extract_lets +onlyGivenNames x6
  generalize x6 = y7 at *
  refine Keep.ite h4 ?_
  extract_lets +onlyGivenNames x8
  generalize x8 = y9 at *
  extract_lets +onlyGivenNames x10
  generalize x10 = y11 at *
  extract_lets +onlyGivenNames x12
  refine Keep.cut (x := x12) (Keep.step (State.showBay_keep ..) (Keep.step (State.setBay_keep ..) h4 rfl) rfl) (fun h13 => ?_)
  generalize x12 = y14 at *
  extract_lets +onlyGivenNames x15
  generalize x15 = y16 at *
  exact (Keep.ite (Keep.step (State.cutFrame_keep ..) h13 rfl) h13)

theorem execRowInstant_gives (b : Nat) (s : State) : Gives 0xd80d82bc06701b0c s (execRowInstant b s) := by
  have h0 := Keep.refl 0xd80d82bc06701b0c s
  unfold execRowInstant
  refine Gives.ite ?_ ?_
  · exact Gives.ok h0
  · extract_lets +onlyGivenNames x1
    refine Gives.cut (x := x1) (Keep.step (State.advanceTo_keep ..) h0 rfl) (fun h2 => ?_)
    generalize x1 = y3 at *
    exact Gives.ok (Keep.step (State.sealAll_keep ..) (Keep.step (State.reachDue_keep ..) h2 rfl) rfl)

theorem execRowHoldExpire_gives (b : Nat) (s : State) : Gives 0xd80d82bc06701b0c s (execRowHoldExpire b s) := by
  have h0 := Keep.refl 0xd80d82bc06701b0c s
  unfold execRowHoldExpire
  extract_lets +onlyGivenNames x1
  generalize x1 = y2 at *
  refine Gives.ite ?_ ?_
  · exact Gives.ok h0
  · extract_lets +onlyGivenNames x3
    generalize x3 = y4 at *
    extract_lets +onlyGivenNames x5
    refine Gives.cut (x := x5) (Keep.step (State.advanceTo_keep ..) h0 rfl) (fun h6 => ?_)
    generalize x5 = y7 at *
    exact Gives.ok (Keep.step (State.sealAll_keep ..) (Keep.step (State.sealRow_keep ..) h6 rfl) rfl)

theorem State.handCell_keep (s : State) (b : Nat) (r : Row) (i : Nat) (cell : Nat) (stamp : Nat) : Keep 0x5007008400100604 s (State.handCell s b r i cell stamp) := by
  have h0 := Keep.refl 0x5007008400100604 s
  unfold State.handCell
  refine Keep.forEach ?_ (fun a2 u1 => ?_)
  · exact h0
  have h3 := Keep.refl 0x5007008400100604 u1
  extract_lets +onlyGivenNames x4
  refine Keep.cut (x := x4) (Keep.ite h3 (Keep.step (State.chRestart_keep ..) h3 rfl)) (fun h5 => ?_)
  generalize x4 = y6 at *
  exact (Keep.step (State.phePlace_keep ..) (Keep.step (State.histPut_keep ..) h5 rfl) rfl)

theorem State.placeCells_keep (s : State) (b : Nat) (n : Nat) (x : SvRec) : Keep 0x580f82bc06701f0c s (State.placeCells s b n x) := by
  have h0 := Keep.refl 0x580f82bc06701f0c s
  unfold State.placeCells
  extract_lets +onlyGivenNames x1
  generalize x1 = y2 at *
  extract_lets +onlyGivenNames x3
  generalize x3 = y4 at *
  extract_lets +onlyGivenNames x5
  refine Keep.cut (x := x5) (Keep.step (State.openRow_keep ..) h0 rfl) (fun h6 => ?_)
  generalize x5 = y7 at *
  extract_lets +onlyGivenNames x8
  generalize x8 = y9 at *
  extract_lets +onlyGivenNames x10
  generalize x10 = y11 at *
  extract_lets +onlyGivenNames x12
  generalize x12 = y13 at *
  extract_lets +onlyGivenNames x14
  generalize x14 = y15 at *
  extract_lets +onlyGivenNames x16
  generalize x16 = y17 at *
  extract_lets +onlyGivenNames x18
  generalize x18 = y19 at *
  extract_lets +onlyGivenNames x20
  refine Keep.cut (x := x20) (Keep.step (State.setBay_keep ..) h6 rfl) (fun h21 => ?_)
  generalize x20 = y22 at *
  extract_lets +onlyGivenNames x23
  refine Keep.cut (x := x23) (Keep.step (State.rtWrite_keep ..) h21 rfl) (fun h24 => ?_)
  generalize x23 = y25 at *
  extract_lets +onlyGivenNames x26
  refine Keep.cut (x := x26) (Keep.step (State.cal_keep ..) (Keep.count .aln h24 rfl rfl) rfl) (fun h27 => ?_)
  generalize x26 = y28 at *
  extract_lets +onlyGivenNames x29
  refine Keep.cut (x := x29) ?_ (fun h30 => ?_)
  · unfold x29
    clear x29
    refine Keep.ite ?_ h27
    refine Keep.step (State.handleTerms_keep ..) ?_ rfl
    refine Keep.forEach ?_ (fun a32 u31 => ?_)
    · exact h27
    have h33 := Keep.refl 0x580f82bc06701f0c u31
    exact (Keep.step (State.handCell_keep ..) h33 rfl)
  generalize x29 = y34 at *
  exact (Keep.step (State.sealAll_keep ..) h30 rfl)

theorem State.staleLate_keep (s : State) (b : Nat) (sub : Nat) : Keep 0x400100104 s (State.staleLate s b sub) := by
  have h0 := Keep.refl 0x400100104 s
  unfold State.staleLate
  exact (Keep.step (State.raise_keep ..) (Keep.bump .aln (Keep.count .aln h0 rfl rfl) rfl rfl) rfl)

theorem State.placeAt_keep (s : State) (b : Nat) (n : Nat) (x : SvRec) : Keep 0x580f82bc06701f0c s (State.placeAt s b n x) := by
  have h0 := Keep.refl 0x580f82bc06701f0c s
  unfold State.placeAt
  extract_lets +onlyGivenNames x1
  generalize x1 = y2 at *
  extract_lets +onlyGivenNames x3
  generalize x3 = y4 at *
  refine Keep.ite (Keep.step (State.staleLate_keep ..) h0 rfl) ?_
  refine Keep.ite ?_ (Keep.ite (Keep.step (State.raise_keep ..) (Keep.bump .aln (Keep.count .aln h0 rfl rfl) rfl rfl) rfl) (Keep.step (State.placeCells_keep ..) h0 rfl))
  refine Keep.ite ?_ (Keep.step (State.staleLate_keep ..) h0 rfl)
  extract_lets +onlyGivenNames x5
  refine Keep.cut (x := x5) (Keep.step (State.raise_keep ..) (Keep.bump .aln (Keep.count .aln h0 rfl rfl) rfl rfl) rfl) (fun h6 => ?_)
  generalize x5 = y7 at *
  extract_lets +onlyGivenNames x8
  refine Keep.cut (x := x8) (Keep.step (State.setBay_keep ..) h6 rfl) (fun h9 => ?_)
  generalize x8 = y10 at *
  extract_lets +onlyGivenNames x11
  generalize x11 = y12 at *
  exact (Keep.step (State.recLate_keep ..) h9 rfl)

theorem execSampleRecordPlace_gives (s : State) : Gives 0x580fc2bc06701f0c s (execSampleRecordPlace s) := by
  have h0 := Keep.refl 0x580fc2bc06701f0c s
  unfold execSampleRecordPlace
  split
  · exact Gives.ok h0
  · extract_lets +onlyGivenNames x1
    generalize x1 = y2 at *
    extract_lets +onlyGivenNames x3
    refine Gives.cut (x := x3) (Keep.count .aln (Keep.svi h0 _ rfl) rfl rfl) (fun h4 => ?_)
    generalize x3 = y5 at *
    extract_lets +onlyGivenNames x6
    generalize x6 = y7 at *
    extract_lets +onlyGivenNames x8
    generalize x8 = y9 at *
    extract_lets +onlyGivenNames x10
    generalize x10 = y11 at *
    extract_lets +onlyGivenNames x12
    generalize x12 = y13 at *
    refine Gives.ite ?_ ?_
    · extract_lets +onlyGivenNames x14
      refine Gives.cut (x := x14) (Keep.bump .aln (Keep.count .aln h4 rfl rfl) rfl rfl) (fun h15 => ?_)
      generalize x14 = y16 at *
      exact Gives.ok (Keep.ite (Keep.step (State.raise_keep ..) h15 rfl) h15)
    · refine Gives.ite ?_ ?_
      · exact Gives.ok (Keep.step (State.raise_keep ..) (Keep.bump .aln (Keep.count .aln h4 rfl rfl) rfl rfl) rfl)
      · refine Gives.ite ?_ ?_
        · exact Gives.ok (Keep.count .aln h4 rfl rfl)
        · split
          · exact Gives.ok (Keep.step (State.staleLate_keep ..) h4 rfl)
          · exact Gives.ok (Keep.step (State.placeAt_keep ..) h4 rfl)

theorem State.showRunning_keep (s : State) : Keep 0x100 s (State.showRunning s) := by
  have h0 := Keep.refl 0x100 s
  unfold State.showRunning
  exact (Keep.wr .aln h0 rfl rfl)

theorem State.beginBay_keep (s : State) (b : Nat) : Keep 0x1808400100304 s (State.beginBay s b) := by
  have h0 := Keep.refl 0x1808400100304 s
  unfold State.beginBay
  extract_lets +onlyGivenNames x1
  generalize x1 = y2 at *
  extract_lets +onlyGivenNames x3
  refine Keep.cut (x := x3) (Keep.step (State.setBay_keep ..) h0 rfl) (fun h4 => ?_)
  generalize x3 = y5 at *
  exact (Keep.step (State.bayRestartPhe_keep ..) (Keep.step (State.showRunning_keep ..) (Keep.step (State.showBay_keep ..) (Keep.wr .aln h4 rfl rfl) rfl) rfl) rfl)

theorem State.startBay_keep (s : State) (b : Nat) : Keep 0x4001808400100304 s (State.startBay s b) := by
  have h0 := Keep.refl 0x4001808400100304 s
  unfold State.startBay
  extract_lets +onlyGivenNames x1
  refine Keep.cut (x := x1) (Keep.step (State.beginBay_keep ..) h0 rfl) (fun h2 => ?_)
  generalize x1 = y3 at *
  exact (Keep.step (State.raise_keep ..) (Keep.step (State.draw_keep ..) h2 rfl) rfl)

theorem State.catchUp_keep (s : State) (b : Nat) : Keep 0x580d82bc06701b0c s (State.catchUp s b) := by
  have h0 := Keep.refl 0x580d82bc06701b0c s
  unfold State.catchUp
  extract_lets +onlyGivenNames x1
  generalize x1 = y2 at *
  extract_lets +onlyGivenNames x3
  generalize x3 = y4 at *
  refine Keep.forEach ?_ (fun a6 u5 => ?_)
  · exact h0
  have h7 := Keep.refl 0x580d82bc06701b0c u5
  exact (Keep.step (State.reachDue_keep ..) h7 rfl)

theorem State.endBay_keep (s : State) (b : Nat) (c : Nat) : Keep 0x580d82bc06701b0c s (State.endBay s b c) := by
  have h0 := Keep.refl 0x580d82bc06701b0c s
  unfold State.endBay
  extract_lets +onlyGivenNames x1
  refine Keep.cut (x := x1) (Keep.step (State.catchUp_keep ..) h0 rfl) (fun h2 => ?_)
  generalize x1 = y3 at *
  extract_lets +onlyGivenNames x4
  generalize x4 = y5 at *
  extract_lets +onlyGivenNames x6
  refine Keep.cut (x := x6) ?_ (fun h7 => ?_)
  · unfold x6
    clear x6
    refine Keep.forEach ?_ (fun a9 u8 => ?_)
    · exact h2
    have h10 := Keep.refl 0x580d82bc06701b0c u8
    exact (Keep.step (State.sealRow_keep ..) h10 rfl)
  generalize x6 = y11 at *
  extract_lets +onlyGivenNames x12
  refine Keep.cut (x := x12) (Keep.ite h7 (Keep.step (State.cutFrame_keep ..) h7 rfl)) (fun h13 => ?_)
  generalize x12 = y14 at *
  extract_lets +onlyGivenNames x15
  refine Keep.cut (x := x15) (Keep.step (State.pumpFrames_keep ..) h13 rfl) (fun h16 => ?_)
  generalize x15 = y17 at *
  exact (Keep.step (State.setBay_keep ..) h16 rfl)

theorem State.stopBay_keep (s : State) (b : Nat) : Keep 0x580d82bc06701b0c s (State.stopBay s b) := by
  have h0 := Keep.refl 0x580d82bc06701b0c s
  unfold State.stopBay
  extract_lets +onlyGivenNames x1
  refine Keep.cut (x := x1) (Keep.step (State.endBay_keep ..) h0 rfl) (fun h2 => ?_)
  generalize x1 = y3 at *
  extract_lets +onlyGivenNames x4
  refine Keep.cut (x := x4) (Keep.step (State.showRunning_keep ..) (Keep.wr .aln (Keep.wr .aln h2 rfl rfl) rfl rfl) rfl) (fun h5 => ?_)
  generalize x4 = y6 at *
  exact (Keep.step (State.raise_keep ..) (Keep.step (State.setBay_keep ..) h5 rfl) rfl)

theorem State.baysBeforeStep_keep (s : State) : Keep 0x580d82bc06701b0c s (State.baysBeforeStep s) := by
  have h0 := Keep.refl 0x580d82bc06701b0c s
  unfold State.baysBeforeStep
  refine Keep.forEach ?_ (fun a2 u1 => ?_)
  · exact h0
  have h3 := Keep.refl 0x580d82bc06701b0c u1
  exact (Keep.step (State.endBay_keep ..) h3 rfl)

theorem State.baysAfterStep_keep (s : State) : Keep 0x1808400100304 s (State.baysAfterStep s) := by
  have h0 := Keep.refl 0x1808400100304 s
  unfold State.baysAfterStep
  refine Keep.forEach ?_ (fun a2 u1 => ?_)
  · exact h0
  have h3 := Keep.refl 0x1808400100304 u1
  extract_lets +onlyGivenNames x4
  refine Keep.cut (x := x4) (Keep.step (State.raise_keep ..) (Keep.step (State.beginBay_keep ..) h3 rfl) rfl) (fun h5 => ?_)
  generalize x4 = y6 at *
  exact (Keep.step (State.raise_keep ..) h5 rfl)

end Sys2Proof.Machine
end

