-- ==== Sys2Proof/Laws/KeepDrives.lean ====
section
/-!
SUPPORT. What each operation and each command of Machine/Drives.lean can do to the state: the zones and parts it stays within.
-/
namespace Sys2Proof.Machine

theorem State.mramRefused_keep (s : State) (a : Nat) : Keep 0x4000000400140004 s (State.mramRefused s a) := by
  have h0 := Keep.refl 0x4000000400140004 s
  unfold State.mramRefused
  exact (Keep.step (State.raise_keep ..) (Keep.step (State.draw_keep ..) (Keep.count .mem h0 rfl rfl) rfl) rfl)

theorem State.mramStore_keep (s : State) (a : Nat) (b : List Byte) : Keep 0x4000004400140004 s (State.mramStore s a b) := by
  have h0 := Keep.refl 0x4000004400140004 s
  unfold State.mramStore
  refine Keep.ite ?_ (Keep.step (State.mramWrite_keep ..) h0 rfl)
  refine Keep.forEach ?_ (fun a2 u1 => ?_)
  · exact h0
  have h3 := Keep.refl 0x4000004400140004 u1
  exact (Keep.step (State.mramRefused_keep ..) h3 rfl)

theorem State.stgStore_keep (s : State) (a : Nat) (b : List Byte) : Keep 0x10004000000000 s (State.stgStore s a b) := by
  have h0 := Keep.refl 0x10004000000000 s
  unfold State.stgStore
  exact (Keep.ite (Keep.stg h0 _ rfl) (Keep.step (State.mramWrite_keep ..) h0 rfl))

theorem State.setDs_keep (s : State) (d : Nat) (x : DsSt) : Keep 0x10000000000000 s (State.setDs s d x) := by
  have h0 := Keep.refl 0x10000000000000 s
  unfold State.setDs
  exact (Keep.stg h0 _ rfl)

theorem State.setNss_keep (s : State) (n : Nat) (x : NsSt) : Keep 0x10000000000000 s (State.setNss s n x) := by
  have h0 := Keep.refl 0x10000000000000 s
  unfold State.setNss
  exact (Keep.stg h0 _ rfl)

theorem State.setCtl_keep (s : State) (f : Nat) (x : CtlSt) : Keep 0x10000000000000 s (State.setCtl s f x) := by
  have h0 := Keep.refl 0x10000000000000 s
  unfold State.setCtl
  exact (Keep.stg h0 _ rfl)

theorem State.setEnt_keep (s : State) (e : Nat) (x : JEnt) : Keep 0x10000000000000 s (State.setEnt s e x) := by
  have h0 := Keep.refl 0x10000000000000 s
  unfold State.setEnt
  exact (Keep.stg h0 _ rfl)

theorem State.updHost_keep (s : State) (h : Nat) (g : HostCmd → HostCmd) : Keep 0x10000000000000 s (State.updHost s h g) := by
  have h0 := Keep.refl 0x10000000000000 s
  unfold State.updHost
  exact (Keep.stg h0 _ rfl)

theorem State.updOnline_keep (s : State) (n : Nat) : Keep 0x400102004 s (State.updOnline s n) := by
  have h0 := Keep.refl 0x400102004 s
  unfold State.updOnline
  extract_lets +onlyGivenNames x1
  generalize x1 = y2 at *
  exact (Keep.ite h0 (Keep.step (State.raise_keep ..) (Keep.wr .stg h0 rfl rfl) rfl))

theorem State.setMirror_keep (s : State) (n : Nat) (v : Nat) : Keep 0x400102004 s (State.setMirror s n v) := by
  have h0 := Keep.refl 0x400102004 s
  unfold State.setMirror
  extract_lets +onlyGivenNames x1
  generalize x1 = y2 at *
  exact (Keep.ite h0 (Keep.step (State.raise_keep ..) (Keep.wr .stg h0 rfl rfl) rfl))

theorem State.setSync_keep (s : State) (n : Nat) (i : Nat) (v : Bool) : Keep 0x10004000002000 s (State.setSync s n i v) := by
  have h0 := Keep.refl 0x10004000002000 s
  unfold State.setSync
  extract_lets +onlyGivenNames x1
  refine Keep.cut (x := x1) (Keep.ite (Keep.wr .stg h0 rfl rfl) (Keep.wr .stg h0 rfl rfl)) (fun h2 => ?_)
  generalize x1 = y3 at *
  exact (Keep.step (State.stgStore_keep ..) h2 rfl)

theorem State.stopRebuild_keep (s : State) (n : Nat) : Keep 0x10000000000000 s (State.stopRebuild s n) := by
  have h0 := Keep.refl 0x10000000000000 s
  unfold State.stopRebuild
  extract_lets +onlyGivenNames x1
  generalize x1 = y2 at *
  extract_lets +onlyGivenNames x3
  generalize x3 = y4 at *
  extract_lets +onlyGivenNames x5
  refine Keep.cut (x := x5) (Keep.step (State.setNss_keep ..) h0 rfl) (fun h6 => ?_)
  generalize x5 = y7 at *
  exact (Keep.stg h6 _ rfl)

theorem State.startRebuild_keep (s : State) (n : Nat) : Keep 0x10000400102004 s (State.startRebuild s n) := by
  have h0 := Keep.refl 0x10000400102004 s
  unfold State.startRebuild
  refine Keep.ite ?_ h0
  extract_lets +onlyGivenNames x1
  generalize x1 = y2 at *
  extract_lets +onlyGivenNames x3
  refine Keep.cut (x := x3) (Keep.step (State.setNss_keep ..) h0 rfl) (fun h4 => ?_)
  generalize x3 = y5 at *
  exact (Keep.step (State.setMirror_keep ..) (Keep.wr .stg h4 rfl rfl) rfl)

theorem State.mirrorNext_keep (s : State) (n : Nat) : Keep 0x10004400102004 s (State.mirrorNext s n) := by
  have h0 := Keep.refl 0x10004400102004 s
  unfold State.mirrorNext
  refine Keep.ite h0 ?_
  split
  · exact h0
  · exact (Keep.ite h0 (Keep.ite (Keep.step (State.setMirror_keep ..) (Keep.step (State.setSync_keep ..) h0 rfl) rfl) (Keep.ite (Keep.step (State.startRebuild_keep ..) h0 rfl) h0)))

theorem State.dropSide_keep (s : State) (n : Nat) (i : Nat) (left : Bool) : Keep 0x10004400102004 s (State.dropSide s n i left) := by
  have h0 := Keep.refl 0x10004400102004 s
  unfold State.dropSide
  refine Keep.ite h0 ?_
  extract_lets +onlyGivenNames x1
  generalize x1 = y2 at *
  extract_lets +onlyGivenNames x3
  generalize x3 = y4 at *
  extract_lets +onlyGivenNames x5
  refine Keep.cut (x := x5) (Keep.step (State.setNss_keep ..) h0 rfl) (fun h6 => ?_)
  generalize x5 = y7 at *
  extract_lets +onlyGivenNames x8
  refine Keep.cut (x := x8) (Keep.step (State.setNss_keep ..) h0 rfl) (fun h9 => ?_)
  generalize x8 = y10 at *
  extract_lets +onlyGivenNames x11
  refine Keep.cut (x := x11) (Keep.ite (Keep.ite (Keep.step (State.setMirror_keep ..) (Keep.step (State.stopRebuild_keep ..) h6 rfl) rfl) h6) (Keep.ite (Keep.step (State.setMirror_keep ..) (Keep.step (State.setSync_keep ..) (Keep.step (State.setNss_keep ..) h0 rfl) rfl) rfl) (Keep.ite (Keep.step (State.setMirror_keep ..) (Keep.step (State.stopRebuild_keep ..) h9 rfl) rfl) h9))) (fun h12 => ?_)
  generalize x11 = y13 at *
  exact (Keep.step (State.updOnline_keep ..) (Keep.ite h12 (Keep.step (State.mirrorNext_keep ..) h12 rfl)) rfl)

theorem State.submit_keep (s : State) (c : DrvCmd) : Keep 0x10000000000000 s (State.submit s c) := by
  have h0 := Keep.refl 0x10000000000000 s
  unfold State.submit
  exact (Keep.stg h0 _ rfl)

theorem State.setTurn_keep (s : State) (k : Nat) (f : Nat) (left : Nat) : Keep 0x10000000000000 s (State.setTurn s k f left) := by
  have h0 := Keep.refl 0x10000000000000 s
  unfold State.setTurn
  exact (Keep.stg h0 _ rfl)

theorem State.takeTurn_keep (s : State) (k : Nat) (f : Nat) (fs : List Nat) : Keep 0x10000000000000 s (State.takeTurn s k f fs) := by
  have h0 := Keep.refl 0x10000000000000 s
  unfold State.takeTurn
  extract_lets +onlyGivenNames x1
  generalize x1 = y2 at *
  refine Keep.ite (Keep.step (State.setTurn_keep ..) h0 rfl) ?_
  extract_lets +onlyGivenNames x3
  generalize x3 = y4 at *
  extract_lets +onlyGivenNames x5
  generalize x5 = y6 at *
  extract_lets +onlyGivenNames x7
  refine Keep.cut (x := x7) (Keep.stg h0 _ rfl) (fun h8 => ?_)
  generalize x7 = y9 at *
  exact (Keep.step (State.setTurn_keep ..) h8 rfl)

theorem State.noteIssue_keep (s : State) (c : DrvCmd) : Keep 0x10000000000000 s (State.noteIssue s c) := by
  have h0 := Keep.refl 0x10000000000000 s
  unfold State.noteIssue
  extract_lets +onlyGivenNames x1
  generalize x1 = y2 at *
  extract_lets +onlyGivenNames x3
  generalize x3 = y4 at *
  extract_lets +onlyGivenNames x5
  refine Keep.cut (x := x5) (Keep.ite (Keep.step (State.takeTurn_keep ..) h0 rfl) h0) (fun h6 => ?_)
  generalize x5 = y7 at *
  extract_lets +onlyGivenNames x8
  refine Keep.cut (x := x8) (Keep.ite (Keep.step (State.setCtl_keep ..) h6 rfl) h6) (fun h9 => ?_)
  generalize x8 = y10 at *
  extract_lets +onlyGivenNames x11
  generalize x11 = y12 at *
  exact (Keep.step (State.setDs_keep ..) h9 rfl)

theorem State.issue_keep (s : State) (c : DrvCmd) : Keep 0x1010000400100004 s (State.issue s c) := by
  have h0 := Keep.refl 0x1010000400100004 s
  unfold State.issue
  extract_lets +onlyGivenNames x1
  refine Keep.cut (x := x1) (Keep.step (State.noteIssue_keep ..) h0 rfl) (fun h2 => ?_)
  generalize x1 = y3 at *
  extract_lets +onlyGivenNames x4
  generalize x4 = y5 at *
  extract_lets +onlyGivenNames x6
  refine Keep.cut (x := x6) (Keep.stg h2 _ rfl) (fun h7 => ?_)
  generalize x6 = y8 at *
  exact (Keep.step (State.cal_keep ..) (Keep.step (State.out_keep ..) h7 rfl) rfl)

theorem State.issueAll_keep (s : State) (y1 : Nat) : Keep 0x1010000400100004 s (State.issueAll s y1) := by
  induction y1 generalizing s
  · have h0 := Keep.refl 0x1010000400100004 s
    unfold State.issueAll
    exact h0
  · rename_i y1 ih
    have h0 := Keep.refl 0x1010000400100004 s
    unfold State.issueAll
    split
    · exact h0
    · exact (Keep.step (ih ..) (Keep.step (State.issue_keep ..) h0 rfl) rfl)

theorem State.noteWrite_keep (s : State) (sl : Nat) (lba : Nat) (n : Nat) : Keep 0x10004400102004 s (State.noteWrite s sl lba n) := by
  have h0 := Keep.refl 0x10004400102004 s
  unfold State.noteWrite
  refine Keep.ite h0 ?_
  extract_lets +onlyGivenNames x1
  refine Keep.cut (x := x1) ?_ (fun h2 => ?_)
  · unfold x1
    clear x1
    refine Keep.forEach ?_ (fun a4 u3 => ?_)
    · exact h0
    have h5 := Keep.refl 0x10004400102004 u3
    exact (Keep.ite (Keep.step (State.dropSide_keep ..) h5 rfl) h5)
  generalize x1 = y6 at *
  extract_lets +onlyGivenNames x7
  generalize x7 = y8 at *
  extract_lets +onlyGivenNames x9
  generalize x9 = y10 at *
  exact (Keep.ite h2 (Keep.step (State.setNss_keep ..) h2 rfl))

theorem State.showJrnl_keep (s : State) : Keep 0x2000 s (State.showJrnl s) := by
  have h0 := Keep.refl 0x2000 s
  unfold State.showJrnl
  exact (Keep.wr .stg (Keep.wr .stg h0 rfl rfl) rfl rfl)

theorem State.retire_keep (s : State) (e : Nat) : Keep 0x10004000000000 s (State.retire s e) := by
  have h0 := Keep.refl 0x10004000000000 s
  unfold State.retire
  exact (Keep.step (State.stgStore_keep ..) (Keep.step (State.setEnt_keep ..) h0 rfl) rfl)

theorem State.replayTold_keep (s : State) : Keep 0x10000400100004 s (State.replayTold s) := by
  have h0 := Keep.refl 0x10000400100004 s
  unfold State.replayTold
  exact (Keep.ite h0 (Keep.step (State.raise_keep ..) (Keep.stg h0 _ rfl) rfl))

theorem State.copyEnt_keep (s : State) (e : Nat) : Keep 0x10004400102004 s (State.copyEnt s e) := by
  have h0 := Keep.refl 0x10004400102004 s
  unfold State.copyEnt
  extract_lets +onlyGivenNames x1
  generalize x1 = y2 at *
  extract_lets +onlyGivenNames x3
  generalize x3 = y4 at *
  refine Keep.ite ?_ ?_
  · split
    · exact h0
    · extract_lets +onlyGivenNames x5
      generalize x5 = y6 at *
      exact (Keep.step (State.submit_keep ..) (Keep.step (State.setEnt_keep ..) h0 rfl) rfl)
  · refine Keep.ite h0 ?_
    extract_lets +onlyGivenNames x7
    refine Keep.cut (x := x7) (Keep.step (State.noteWrite_keep ..) (Keep.step (State.setEnt_keep ..) h0 rfl) rfl) (fun h8 => ?_)
    generalize x7 = y9 at *
    refine Keep.forEach ?_ (fun a11 u10 => ?_)
    · exact h8
    have h12 := Keep.refl 0x10004400102004 u10
    exact (Keep.step (State.submit_keep ..) h12 rfl)

theorem State.kickEnts_keep (s : State) : Keep 0x10004400102004 s (State.kickEnts s) := by
  have h0 := Keep.refl 0x10004400102004 s
  unfold State.kickEnts
  refine Keep.forEach ?_ (fun a2 u1 => ?_)
  · exact h0
  have h3 := Keep.refl 0x10004400102004 u1
  exact (Keep.ite (Keep.step (State.copyEnt_keep ..) h3 rfl) h3)

theorem State.homeDone_keep (s : State) (e : Nat) (good : Bool) : Keep 0x10004400102004 s (State.homeDone s e good) := by
  have h0 := Keep.refl 0x10004400102004 s
  unfold State.homeDone
  extract_lets +onlyGivenNames x1
  generalize x1 = y2 at *
  extract_lets +onlyGivenNames x3
  generalize x3 = y4 at *
  extract_lets +onlyGivenNames x5
  refine Keep.cut (x := x5) (Keep.step (State.setEnt_keep ..) h0 rfl) (fun h6 => ?_)
  generalize x5 = y7 at *
  refine Keep.ite h6 ?_
  refine Keep.ite ?_ (Keep.step (State.setEnt_keep ..) h6 rfl)
  extract_lets +onlyGivenNames x8
  refine Keep.cut (x := x8) (Keep.step (State.retire_keep ..) h6 rfl) (fun h9 => ?_)
  generalize x8 = y10 at *
  extract_lets +onlyGivenNames x11
  generalize x11 = y12 at *
  extract_lets +onlyGivenNames x13
  refine Keep.cut (x := x13) (Keep.ite (Keep.stg h9 _ rfl) h9) (fun h14 => ?_)
  generalize x13 = y15 at *
  exact (Keep.step (State.updOnline_keep ..) (Keep.step (State.replayTold_keep ..) (Keep.step (State.kickEnts_keep ..) h14 rfl) rfl) rfl)

end Sys2Proof.Machine
end

