-- ==== Sys2Proof/Laws/KeepStorage.lean ====
section
/-!
SUPPORT. What each operation and each command of Machine/Storage.lean can do to the state: the zones and parts it stays within.
-/
namespace Sys2Proof.Machine

theorem State.postNvme_keep (s : State) (f : Nat) (qid : Nat) (cid : Nat) (status : Nat) (result : Nat) (bytes : List Byte) : Keep 0x1000000400700004 s (State.postNvme s f qid cid status result bytes) := by
  have h0 := Keep.refl 0x1000000400700004 s
  unfold State.postNvme
  extract_lets +onlyGivenNames x1
  refine Keep.cut (x := x1) (Keep.step (State.out_keep ..) h0 rfl) (fun h2 => ?_)
  generalize x1 = y3 at *
  refine Keep.ite (Keep.step (State.msixFire_keep ..) h2 rfl) ?_
  split
  · exact h2
  · split
    · exact h2
    · exact (Keep.ite (Keep.step (State.msixFire_keep ..) h2 rfl) h2)

theorem State.answerNvme_keep (s : State) (f : Nat) (qid : Nat) (cid : Nat) (status : Nat) (result : Nat) (bytes : List Byte) : Keep 0x1010000400700004 s (State.answerNvme s f qid cid status result bytes) := by
  have h0 := Keep.refl 0x1010000400700004 s
  unfold State.answerNvme
  exact (Keep.ite (Keep.step (State.postNvme_keep ..) h0 rfl) (Keep.step (State.setCtl_keep ..) h0 rfl))

theorem State.flushNvme_keep (s : State) (f : Nat) : Keep 0x1010000400700004 s (State.flushNvme s f) := by
  have h0 := Keep.refl 0x1010000400700004 s
  unfold State.flushNvme
  refine Keep.ite h0 ?_
  extract_lets +onlyGivenNames x1
  generalize x1 = y2 at *
  refine Keep.forEach ?_ (fun a4 u3 => ?_)
  · exact (Keep.step (State.setCtl_keep ..) h0 rfl)
  have h5 := Keep.refl 0x1010000400700004 u3
  exact (Keep.step (State.postNvme_keep ..) h5 rfl)

theorem State.dropHost_keep (s : State) (h : Nat) : Keep 0x1010000400700004 s (State.dropHost s h) := by
  have h0 := Keep.refl 0x1010000400700004 s
  unfold State.dropHost
  extract_lets +onlyGivenNames x1
  generalize x1 = y2 at *
  extract_lets +onlyGivenNames x3
  refine Keep.cut (x := x3) (Keep.stg h0 _ rfl) (fun h4 => ?_)
  generalize x3 = y5 at *
  extract_lets +onlyGivenNames x6
  generalize x6 = y7 at *
  extract_lets +onlyGivenNames x8
  generalize x8 = y9 at *
  extract_lets +onlyGivenNames x10
  refine Keep.cut (x := x10) (Keep.stg h4 _ rfl) (fun h11 => ?_)
  generalize x10 = y12 at *
  refine Keep.forEach ?_ (fun a14 u13 => ?_)
  · exact h11
  have h15 := Keep.refl 0x1010000400700004 u13
  exact (Keep.ite h15 (Keep.step (State.answerNvme_keep ..) h15 rfl))

theorem State.endHost_keep (s : State) (h : Nat) (status : Nat) (bytes : List Byte) : Keep 0x1010000400700004 s (State.endHost s h status bytes) := by
  have h0 := Keep.refl 0x1010000400700004 s
  unfold State.endHost
  split
  · exact h0
  · exact (Keep.step (State.dropHost_keep ..) (Keep.ite h0 (Keep.step (State.answerNvme_keep ..) h0 rfl)) rfl)

theorem State.ctlEvent_keep (s : State) (f : Nat) (type : Nat) (r : Nat) : Keep 0x1010000400700004 s (State.ctlEvent s f type r) := by
  have h0 := Keep.refl 0x1010000400700004 s
  unfold State.ctlEvent
  extract_lets +onlyGivenNames x1
  generalize x1 = y2 at *
  refine Keep.ite h0 ?_
  extract_lets +onlyGivenNames x3
  generalize x3 = y4 at *
  split
  · exact (Keep.step (State.setCtl_keep ..) h0 rfl)
  · exact (Keep.step (State.answerNvme_keep ..) (Keep.step (State.setCtl_keep ..) h0 rfl) rfl)

theorem State.beginRead_keep (s : State) (c : HostCmd) : Keep 0x10000000000000 s (State.beginRead s c) := by
  have h0 := Keep.refl 0x10000000000000 s
  unfold State.beginRead
  extract_lets +onlyGivenNames x1
  generalize x1 = y2 at *
  extract_lets +onlyGivenNames x3
  refine Keep.cut (x := x3) (Keep.step (State.updHost_keep ..) h0 rfl) (fun h4 => ?_)
  generalize x3 = y5 at *
  refine Keep.forEach ?_ (fun a7 u6 => ?_)
  · exact h4
  have h8 := Keep.refl 0x10000000000000 u6
  extract_lets +onlyGivenNames x9
  generalize x9 = y10 at *
  split
  · exact (Keep.step (State.updHost_keep ..) h8 rfl)
  · extract_lets +onlyGivenNames x11
    generalize x11 = y12 at *
    extract_lets +onlyGivenNames x13
    generalize x13 = y14 at *
    exact (Keep.step (State.submit_keep ..) h8 rfl)

theorem State.readOverH_keep (s : State) (h : Nat) : Keep 0x1010000400700004 s (State.readOverH s h) := by
  have h0 := Keep.refl 0x1010000400700004 s
  unfold State.readOverH
  split
  · exact h0
  · exact (Keep.ite h0 (Keep.ite (Keep.step (State.endHost_keep ..) h0 rfl) (Keep.ite (Keep.step (State.endHost_keep ..) h0 rfl) (Keep.step (State.endHost_keep ..) h0 rfl))))

theorem State.commitWrite_keep (s : State) (c : HostCmd) : Keep 0x1010004400702004 s (State.commitWrite s c) := by
  have h0 := Keep.refl 0x1010004400702004 s
  unfold State.commitWrite
  extract_lets +onlyGivenNames x1
  generalize x1 = y2 at *
  extract_lets +onlyGivenNames x3
  generalize x3 = y4 at *
  extract_lets +onlyGivenNames x5
  generalize x5 = y6 at *
  extract_lets +onlyGivenNames x7
  refine Keep.cut (x := x7) (Keep.step (State.mramWrite_keep ..) (Keep.step (State.mramWrite_keep ..) h0 rfl) rfl) (fun h8 => ?_)
  generalize x7 = y9 at *
  extract_lets +onlyGivenNames x10
  generalize x10 = y11 at *
  extract_lets +onlyGivenNames x12
  generalize x12 = y13 at *
  extract_lets +onlyGivenNames x14
  refine Keep.cut (x := x14) (Keep.stg h8 _ rfl) (fun h15 => ?_)
  generalize x14 = y16 at *
  extract_lets +onlyGivenNames x17
  refine Keep.cut (x := x17) (Keep.step (State.setEnt_keep ..) h15 rfl) (fun h18 => ?_)
  generalize x17 = y19 at *
  extract_lets +onlyGivenNames x20
  refine Keep.cut (x := x20) ?_ (fun h21 => ?_)
  · unfold x20
    clear x20
    refine Keep.forEach ?_ (fun a23 u22 => ?_)
    · exact h18
    have h24 := Keep.refl 0x1010004400702004 u22
    exact (Keep.step (State.retire_keep ..) h24 rfl)
  generalize x20 = y25 at *
  exact (Keep.step (State.kickEnts_keep ..) (Keep.step (State.cal_keep ..) (Keep.step (State.endHost_keep ..) h21 rfl) rfl) rfl)

theorem State.tryCommit_keep (s : State) (h : Nat) : Keep 0x1010004400702004 s (State.tryCommit s h) := by
  have h0 := Keep.refl 0x1010004400702004 s
  unfold State.tryCommit
  split
  · exact h0
  · refine Keep.ite ?_ (Keep.step (State.commitWrite_keep ..) h0 rfl)
    extract_lets +onlyGivenNames x1
    refine Keep.cut (x := x1) (Keep.step (State.updHost_keep ..) h0 rfl) (fun h2 => ?_)
    generalize x1 = y3 at *
    exact (Keep.ite (Keep.step (State.showJrnl_keep ..) h2 rfl) (Keep.step (State.showJrnl_keep ..) (Keep.step (State.raise_keep ..) (Keep.stg h2 _ rfl) rfl) rfl))

theorem State.writeOver_keep (s : State) (h : Nat) : Keep 0x1010004400702004 s (State.writeOver s h) := by
  have h0 := Keep.refl 0x1010004400702004 s
  unfold State.writeOver
  split
  · exact h0
  · extract_lets +onlyGivenNames x1
    generalize x1 = y2 at *
    exact (Keep.ite h0 (Keep.ite (Keep.step (State.endHost_keep ..) h0 rfl) (Keep.ite (Keep.step (State.endHost_keep ..) (Keep.step (State.setEnt_keep ..) h0 rfl) rfl) (Keep.step (State.tryCommit_keep ..) (Keep.step (State.setEnt_keep ..) h0 rfl) rfl))))

theorem State.beginWrite_keep (s : State) (c : HostCmd) : Keep 0x1010004400702004 s (State.beginWrite s c) := by
  have h0 := Keep.refl 0x1010004400702004 s
  unfold State.beginWrite
  refine Keep.ite (Keep.step (State.endHost_keep ..) h0 rfl) ?_
  refine Keep.ite ?_ ?_
  · split
    · exact h0
    · extract_lets +onlyGivenNames x1
      refine Keep.cut (x := x1) (Keep.step (State.noteWrite_keep ..) h0 rfl) (fun h2 => ?_)
      generalize x1 = y3 at *
      extract_lets +onlyGivenNames x4
      generalize x4 = y5 at *
      refine Keep.ite (Keep.step (State.endHost_keep ..) h2 rfl) ?_
      extract_lets +onlyGivenNames x6
      refine Keep.cut (x := x6) (Keep.step (State.setEnt_keep ..) h2 rfl) (fun h7 => ?_)
      generalize x6 = y8 at *
      extract_lets +onlyGivenNames x9
      refine Keep.cut (x := x9) (Keep.step (State.updHost_keep ..) h7 rfl) (fun h10 => ?_)
      generalize x9 = y11 at *
      refine Keep.forEach ?_ (fun a13 u12 => ?_)
      · exact h10
      have h14 := Keep.refl 0x1010004400702004 u12
      extract_lets +onlyGivenNames x15
      generalize x15 = y16 at *
      exact (Keep.step (State.submit_keep ..) h14 rfl)
  · refine Keep.ite h0 ?_
    extract_lets +onlyGivenNames x17
    refine Keep.cut (x := x17) ?_ (fun h18 => ?_)
    · unfold x17
      clear x17
      refine Keep.forEach ?_ (fun a20 u19 => ?_)
      · exact h0
      have h21 := Keep.refl 0x1010004400702004 u19
      exact (Keep.step (State.noteWrite_keep ..) h21 rfl)
    generalize x17 = y22 at *
    extract_lets +onlyGivenNames x23
    generalize x23 = y24 at *
    extract_lets +onlyGivenNames x25
    refine Keep.cut (x := x25) (Keep.step (State.updHost_keep ..) h18 rfl) (fun h26 => ?_)
    generalize x25 = y27 at *
    extract_lets +onlyGivenNames x28
    refine Keep.cut (x := x28) ?_ (fun h29 => ?_)
    · unfold x28
      clear x28
      refine Keep.forEach ?_ (fun a31 u30 => ?_)
      · exact h26
      have h32 := Keep.refl 0x1010004400702004 u30
      exact (Keep.step (State.submit_keep ..) h32 rfl)
    generalize x28 = y33 at *
    exact (Keep.ite (Keep.step (State.endHost_keep ..) h29 rfl) h29)

theorem State.kickWrites_keep (s : State) : Keep 0x1010004400702004 s (State.kickWrites s) := by
  have h0 := Keep.refl 0x1010004400702004 s
  unfold State.kickWrites
  refine Keep.forEach ?_ (fun a2 u1 => ?_)
  · exact h0
  have h3 := Keep.refl 0x1010004400702004 u1
  exact (Keep.step (State.beginWrite_keep ..) h3 rfl)

theorem State.kickRebuild_keep (s : State) (n : Nat) : Keep 0x10000000000000 s (State.kickRebuild s n) := by
  have h0 := Keep.refl 0x10000000000000 s
  unfold State.kickRebuild
  extract_lets +onlyGivenNames x1
  generalize x1 = y2 at *
  split
  · exact h0
  · exact (Keep.ite h0 (Keep.step (State.submit_keep ..) (Keep.step (State.setNss_keep ..) h0 rfl) rfl))

theorem State.chunkDone_keep (s : State) (n : Nat) : Keep 0x10004400102004 s (State.chunkDone s n) := by
  have h0 := Keep.refl 0x10004400102004 s
  unfold State.chunkDone
  extract_lets +onlyGivenNames x1
  generalize x1 = y2 at *
  refine Keep.ite (Keep.step (State.setNss_keep ..) h0 rfl) ?_
  extract_lets +onlyGivenNames x3
  generalize x3 = y4 at *
  extract_lets +onlyGivenNames x5
  refine Keep.cut (x := x5) (Keep.wr .stg (Keep.step (State.setNss_keep ..) h0 rfl) rfl rfl) (fun h6 => ?_)
  generalize x5 = y7 at *
  refine Keep.ite h6 ?_
  split
  · exact h6
  · extract_lets +onlyGivenNames x8
    generalize x8 = y9 at *
    extract_lets +onlyGivenNames x10
    refine Keep.cut (x := x10) (Keep.step (State.setSync_keep ..) (Keep.step (State.setNss_keep ..) h6 rfl) rfl) (fun h11 => ?_)
    generalize x10 = y12 at *
    exact (Keep.step (State.setMirror_keep ..) (Keep.step (State.raise_keep ..) h11 rfl) rfl)

theorem State.setTest_keep (s : State) (t : Option TestSt) : Keep 0x10000000000000 s (State.setTest s t) := by
  have h0 := Keep.refl 0x10000000000000 s
  unfold State.setTest
  exact (Keep.stg h0 _ rfl)

theorem State.endTest_keep (s : State) (t : TestSt) (result : Nat) : Keep 0x10000400100004 s (State.endTest s t result) := by
  have h0 := Keep.refl 0x10000400100004 s
  unfold State.endTest
  extract_lets +onlyGivenNames x1
  generalize x1 = y2 at *
  extract_lets +onlyGivenNames x3
  refine Keep.cut (x := x3) (Keep.step (State.setCtl_keep ..) h0 rfl) (fun h4 => ?_)
  generalize x3 = y5 at *
  exact (Keep.step (State.raise_keep ..) (Keep.step (State.setTest_keep ..) h4 rfl) rfl)

theorem State.kickTest_keep (s : State) (d : Nat) : Keep 0x10000000000000 s (State.kickTest s d) := by
  have h0 := Keep.refl 0x10000000000000 s
  unfold State.kickTest
  split
  · exact h0
  · refine Keep.ite h0 ?_
    split
    · extract_lets +onlyGivenNames x1
      generalize x1 = y2 at *
      refine Keep.ite (Keep.step (State.setTest_keep ..) h0 rfl) ?_
      extract_lets +onlyGivenNames x3
      generalize x3 = y4 at *
      exact (Keep.step (State.submit_keep ..) (Keep.step (State.setTest_keep ..) h0 rfl) rfl)
    · refine Keep.ite h0 ?_
      extract_lets +onlyGivenNames x5
      generalize x5 = y6 at *
      extract_lets +onlyGivenNames x7
      generalize x7 = y8 at *
      extract_lets +onlyGivenNames x9
      refine Keep.cut (x := x9) (Keep.step (State.setTest_keep ..) h0 rfl) (fun h10 => ?_)
      generalize x9 = y11 at *
      exact (Keep.ite (Keep.step (State.submit_keep ..) h10 rfl) h10)

theorem State.testOver_keep (s : State) : Keep 0x10000400100004 s (State.testOver s) := by
  have h0 := Keep.refl 0x10000400100004 s
  unfold State.testOver
  split
  · exact h0
  · exact (Keep.ite (Keep.step (State.endTest_keep ..) h0 rfl) h0)

theorem State.setSstate_keep (s : State) (d : Nat) (v : Nat) : Keep 0x10000400102004 s (State.setSstate s d v) := by
  have h0 := Keep.refl 0x10000400102004 s
  unfold State.setSstate
  extract_lets +onlyGivenNames x1
  generalize x1 = y2 at *
  refine Keep.ite h0 ?_
  extract_lets +onlyGivenNames x3
  generalize x3 = y4 at *
  extract_lets +onlyGivenNames x5
  refine Keep.cut (x := x5) (Keep.step (State.setDs_keep ..) (Keep.wr .stg h0 rfl rfl) rfl) (fun h6 => ?_)
  generalize x5 = y7 at *
  exact (Keep.step (State.raise_keep ..) h6 rfl)

theorem State.powerOffSlot_keep (s : State) (d : Nat) : Keep 0x10000000002000 s (State.powerOffSlot s d) := by
  have h0 := Keep.refl 0x10000000002000 s
  unfold State.powerOffSlot
  exact (Keep.wr .stg (Keep.wr .stg (Keep.step (State.setDs_keep ..) h0 rfl) rfl rfl) rfl rfl)

theorem State.hostReadEnd_keep (s : State) (c : DrvCmd) (h : Nat) (off : Nat) (good : Bool) (bytes : List Byte) (code : Nat) (lost : Bool) : Keep 0x1010000400700004 s (State.hostReadEnd s c h off good bytes code lost) := by
  have h0 := Keep.refl 0x1010000400700004 s
  unfold State.hostReadEnd
  refine Keep.ite ?_ ?_
  · extract_lets +onlyGivenNames x1
    generalize x1 = y2 at *
    exact (Keep.step (State.readOverH_keep ..) (Keep.step (State.updHost_keep ..) h0 rfl) rfl)
  · extract_lets +onlyGivenNames x3
    generalize x3 = y4 at *
    split
    · exact h0
    · extract_lets +onlyGivenNames x5
      generalize x5 = y6 at *
      extract_lets +onlyGivenNames x7
      generalize x7 = y8 at *
      split
      · extract_lets +onlyGivenNames x9
        generalize x9 = y10 at *
        extract_lets +onlyGivenNames x11
        generalize x11 = y12 at *
        exact (Keep.step (State.submit_keep ..) h0 rfl)
      · exact (Keep.step (State.readOverH_keep ..) (Keep.step (State.updHost_keep ..) h0 rfl) rfl)

theorem State.hostWriteEnd_keep (s : State) (c : DrvCmd) (h : Nat) (good : Bool) (code : Nat) : Keep 0x1010004400702004 s (State.hostWriteEnd s c h good code) := by
  have h0 := Keep.refl 0x1010004400702004 s
  unfold State.hostWriteEnd
  extract_lets +onlyGivenNames x1
  generalize x1 = y2 at *
  exact (Keep.step (State.writeOver_keep ..) (Keep.step (State.updHost_keep ..) h0 rfl) rfl)

theorem State.driveEnd_keep (s : State) (c : DrvCmd) (good : Bool) (lost : Bool) (bytes : List Byte) : Keep 0x1014004400702004 s (State.driveEnd s c good lost bytes) := by
  have h0 := Keep.refl 0x1014004400702004 s
  unfold State.driveEnd
  extract_lets +onlyGivenNames x1
  generalize x1 = y2 at *
  split
  · exact (Keep.ite (Keep.step (State.hostReadEnd_keep ..) h0 rfl) (Keep.step (State.hostWriteEnd_keep ..) h0 rfl))
  · exact (Keep.step (State.hostWriteEnd_keep ..) h0 rfl)
  · exact (Keep.step (State.homeDone_keep ..) h0 rfl)
  · extract_lets +onlyGivenNames x3
    generalize x3 = y4 at *
    exact (Keep.ite (Keep.step (State.copyEnt_keep ..) (Keep.step (State.setEnt_keep ..) h0 rfl) rfl) (Keep.step (State.setEnt_keep ..) h0 rfl))
  · refine Keep.ite h0 ?_
    split
    · exact h0
    · exact (Keep.step (State.submit_keep ..) h0 rfl)
  · exact (Keep.ite (Keep.step (State.chunkDone_keep ..) h0 rfl) h0)
  · split
    · exact (Keep.ite h0 (Keep.step (State.setTest_keep ..) h0 rfl))
    · exact h0
  · split
    · exact h0
    · extract_lets +onlyGivenNames x5
      generalize x5 = y6 at *
      extract_lets +onlyGivenNames x7
      generalize x7 = y8 at *
      exact (Keep.recd h0 _ rfl)
  · exact h0
  · exact h0

theorem State.abandon_keep (s : State) (d : Nat) (surprise : Bool) : Keep 0x1014004400702004 s (State.abandon s d surprise) := by
  have h0 := Keep.refl 0x1014004400702004 s
  unfold State.abandon
  extract_lets +onlyGivenNames x1
  generalize x1 = y2 at *
  extract_lets +onlyGivenNames x3
  generalize x3 = y4 at *
  extract_lets +onlyGivenNames x5
  generalize x5 = y6 at *
  extract_lets +onlyGivenNames x7
  refine Keep.cut (x := x7) (Keep.stg h0 _ rfl) (fun h8 => ?_)
  generalize x7 = y9 at *
  extract_lets +onlyGivenNames x10
  refine Keep.cut (x := x10) (Keep.ite (Keep.step (State.raise_keep ..) h8 rfl) h8) (fun h11 => ?_)
  generalize x10 = y12 at *
  extract_lets +onlyGivenNames x13
  refine Keep.cut (x := x13) ?_ (fun h14 => ?_)
  · unfold x13
    clear x13
    refine Keep.forEach ?_ (fun a16 u15 => ?_)
    · exact h11
    have h17 := Keep.refl 0x1014004400702004 u15
    exact (Keep.step (State.dropSide_keep ..) h17 rfl)
  generalize x13 = y18 at *
  extract_lets +onlyGivenNames x19
  refine Keep.cut (x := x19) ?_ (fun h20 => ?_)
  · unfold x19
    clear x19
    refine Keep.forEach ?_ (fun a22 u21 => ?_)
    · exact h14
    have h23 := Keep.refl 0x1014004400702004 u21
    exact (Keep.step (State.driveEnd_keep ..) h23 rfl)
  generalize x19 = y24 at *
  extract_lets +onlyGivenNames x25
  refine Keep.cut (x := x25) ?_ (fun h26 => ?_)
  · unfold x25
    clear x25
    refine Keep.forEach ?_ (fun a28 u27 => ?_)
    · exact h20
    have h29 := Keep.refl 0x1014004400702004 u27
    refine Keep.forEach ?_ (fun a31 u30 => ?_)
    · exact h29
    have h32 := Keep.refl 0x1014004400702004 u30
    exact (Keep.ite (Keep.step (State.setEnt_keep ..) h32 rfl) h32)
  generalize x25 = y33 at *
  refine Keep.forEach ?_ (fun a35 u34 => ?_)
  · exact h26
  have h36 := Keep.refl 0x1014004400702004 u34
  exact (Keep.step (State.updOnline_keep ..) h36 rfl)

theorem State.shutdownSlot_keep (s : State) (d : Nat) : Keep 0x1010000000000000 s (State.shutdownSlot s d) := by
  have h0 := Keep.refl 0x1010000000000000 s
  unfold State.shutdownSlot
  extract_lets +onlyGivenNames x1
  generalize x1 = y2 at *
  extract_lets +onlyGivenNames x3
  refine Keep.cut (x := x3) (Keep.step (State.setDs_keep ..) h0 rfl) (fun h4 => ?_)
  generalize x3 = y5 at *
  extract_lets +onlyGivenNames x6
  generalize x6 = y7 at *
  exact (Keep.step (State.out_keep ..) (Keep.stg h4 _ rfl) rfl)

theorem State.slotPower_keep (s : State) (d : Nat) : Keep 0x10000400102004 s (State.slotPower s d) := by
  have h0 := Keep.refl 0x10000400102004 s
  unfold State.slotPower
  exact (Keep.ite h0 (Keep.step (State.setSstate_keep ..) (Keep.step (State.setDs_keep ..) h0 rfl) rfl))

theorem State.enterPresent_keep (s : State) (d : Nat) : Keep 0x10000400102004 s (State.enterPresent s d) := by
  have h0 := Keep.refl 0x10000400102004 s
  unfold State.enterPresent
  extract_lets +onlyGivenNames x1
  refine Keep.cut (x := x1) (Keep.step (State.setSstate_keep ..) h0 rfl) (fun h2 => ?_)
  generalize x1 = y3 at *
  exact (Keep.ite (Keep.step (State.slotPower_keep ..) h2 rfl) h2)

theorem State.removed_keep (s : State) (d : Nat) : Keep 0x1014004400702004 s (State.removed s d) := by
  have h0 := Keep.refl 0x1014004400702004 s
  unfold State.removed
  extract_lets +onlyGivenNames x1
  refine Keep.cut (x := x1) (Keep.step (State.abandon_keep ..) (Keep.step (State.setSstate_keep ..) (Keep.step (State.powerOffSlot_keep ..) h0 rfl) rfl) rfl) (fun h2 => ?_)
  generalize x1 = y3 at *
  exact (Keep.ite (Keep.step (State.slotPower_keep ..) h2 rfl) h2)

theorem State.kickRemoval_keep (s : State) (d : Nat) : Keep 0x1010000000000000 s (State.kickRemoval s d) := by
  have h0 := Keep.refl 0x1010000000000000 s
  unfold State.kickRemoval
  exact (Keep.ite (Keep.step (State.shutdownSlot_keep ..) h0 rfl) h0)

theorem State.kickDetach_keep (s : State) : Keep 0x1010000400700004 s (State.kickDetach s) := by
  have h0 := Keep.refl 0x1010000400700004 s
  unfold State.kickDetach
  extract_lets +onlyGivenNames x1
  generalize x1 = y2 at *
  extract_lets +onlyGivenNames x3
  generalize x3 = y4 at *
  extract_lets +onlyGivenNames x5
  refine Keep.cut (x := x5) (Keep.stg h0 _ rfl) (fun h6 => ?_)
  generalize x5 = y7 at *
  refine Keep.forEach ?_ (fun a9 u8 => ?_)
  · exact h6
  have h10 := Keep.refl 0x1010000400700004 u8
  exact (Keep.step (State.answerNvme_keep ..) h10 rfl)

theorem State.kickDrain_keep (s : State) : Keep 0x10000400102004 s (State.kickDrain s) := by
  have h0 := Keep.refl 0x10000400102004 s
  unfold State.kickDrain
  refine Keep.forEach ?_ (fun a2 u1 => ?_)
  · exact h0
  have h3 := Keep.refl 0x10000400102004 u1
  exact (Keep.step (State.updOnline_keep ..) (Keep.step (State.setNss_keep ..) h3 rfl) rfl)

theorem State.stgSettle_keep (s : State) : Keep 0x1010004400702004 s (State.stgSettle s) := by
  have h0 := Keep.refl 0x1010004400702004 s
  unfold State.stgSettle
  extract_lets +onlyGivenNames x1
  refine Keep.cut (x := x1) (Keep.step (State.kickWrites_keep ..) (Keep.step (State.kickEnts_keep ..) h0 rfl) rfl) (fun h2 => ?_)
  generalize x1 = y3 at *
  extract_lets +onlyGivenNames x4
  refine Keep.cut (x := x4) (Keep.step (State.issueAll_keep ..) h2 rfl) (fun h5 => ?_)
  generalize x4 = y6 at *
  extract_lets +onlyGivenNames x7
  refine Keep.cut (x := x7) ?_ (fun h8 => ?_)
  · unfold x7
    clear x7
    refine Keep.forEach ?_ (fun a10 u9 => ?_)
    · exact h5
    have h11 := Keep.refl 0x1010004400702004 u9
    exact (Keep.step (State.kickRebuild_keep ..) h11 rfl)
  generalize x7 = y12 at *
  extract_lets +onlyGivenNames x13
  refine Keep.cut (x := x13) ?_ (fun h14 => ?_)
  · unfold x13
    clear x13
    refine Keep.forEach ?_ (fun a16 u15 => ?_)
    · exact h8
    have h17 := Keep.refl 0x1010004400702004 u15
    exact (Keep.step (State.kickTest_keep ..) h17 rfl)
  generalize x13 = y18 at *
  extract_lets +onlyGivenNames x19
  refine Keep.cut (x := x19) (Keep.step (State.issueAll_keep ..) h14 rfl) (fun h20 => ?_)
  generalize x19 = y21 at *
  extract_lets +onlyGivenNames x22
  refine Keep.cut (x := x22) ?_ (fun h23 => ?_)
  · unfold x22
    clear x22
    refine Keep.forEach ?_ (fun a25 u24 => ?_)
    · exact h20
    have h26 := Keep.refl 0x1010004400702004 u24
    exact (Keep.step (State.kickRemoval_keep ..) h26 rfl)
  generalize x22 = y27 at *
  exact (Keep.step (State.showJrnl_keep ..) (Keep.step (State.kickDrain_keep ..) (Keep.step (State.kickDetach_keep ..) (Keep.step (State.testOver_keep ..) h23 rfl) rfl) rfl) rfl)

theorem State.smartWarning_keep (s : State) (d : Nat) (warn : Nat) : Keep 0x1010000400700004 s (State.smartWarning s d warn) := by
  have h0 := Keep.refl 0x1010000400700004 s
  unfold State.smartWarning
  refine Keep.forEach ?_ (fun a2 u1 => ?_)
  · exact (Keep.step (State.raise_keep ..) h0 rfl)
  have h3 := Keep.refl 0x1010000400700004 u1
  exact (Keep.step (State.ctlEvent_keep ..) h3 rfl)

theorem State.driveDone_keep (s : State) (id : Nat) (good : Bool) (bytes : List Byte) (warn : Nat) : Keep 0x1014004400702004 s (State.driveDone s id good bytes warn) := by
  have h0 := Keep.refl 0x1014004400702004 s
  unfold State.driveDone
  split
  · exact h0
  · extract_lets +onlyGivenNames x1
    generalize x1 = y2 at *
    extract_lets +onlyGivenNames x3
    refine Keep.cut (x := x3) (Keep.stg h0 _ rfl) (fun h4 => ?_)
    generalize x3 = y5 at *
    extract_lets +onlyGivenNames x6
    generalize x6 = y7 at *
    extract_lets +onlyGivenNames x8
    refine Keep.cut (x := x8) (Keep.ite (Keep.step (State.smartWarning_keep ..) h4 rfl) h4) (fun h9 => ?_)
    generalize x8 = y10 at *
    extract_lets +onlyGivenNames x11
    refine Keep.cut (x := x11) (Keep.ite (Keep.step (State.dropSide_keep ..) h9 rfl) h9) (fun h12 => ?_)
    generalize x11 = y13 at *
    extract_lets +onlyGivenNames x14
    refine Keep.cut (x := x14) (Keep.step (State.driveEnd_keep ..) h12 rfl) (fun h15 => ?_)
    generalize x14 = y16 at *
    extract_lets +onlyGivenNames x17
    refine Keep.cut (x := x17) (Keep.ite (Keep.step (State.removed_keep ..) h15 rfl) h15) (fun h18 => ?_)
    generalize x17 = y19 at *
    exact (Keep.step (State.stgSettle_keep ..) h18 rfl)

theorem execDriveCmdComplete_gives (id : Nat) (good : Bool) (bytes : List Byte) (warn : Nat) (s : State) : Gives 0x1014004400702004 s (execDriveCmdComplete id good bytes warn s) := by
  have h0 := Keep.refl 0x1014004400702004 s
  unfold execDriveCmdComplete
  exact Gives.ok (Keep.step (State.driveDone_keep ..) h0 rfl)

theorem execDriveCmdTimeout_gives (id : Nat) (s : State) : Gives 0x9014004c00702004 s (execDriveCmdTimeout id s) := by
  have h0 := Keep.refl 0x9014004c00702004 s
  unfold execDriveCmdTimeout
  split
  · exact Gives.ok h0
  · extract_lets +onlyGivenNames x1
    refine Gives.cut (x := x1) (Keep.step (State.raise_keep ..) (Keep.step (State.out_keep ..) (Keep.step (State.advanceTo_keep ..) h0 rfl) rfl) rfl) (fun h2 => ?_)
    generalize x1 = y3 at *
    exact Gives.ok (Keep.step (State.driveDone_keep ..) h2 rfl)

theorem execNsRebuild_gives (n : Nat) (s : State) : Gives 0x1010004400702004 s (execNsRebuild n s) := by
  have h0 := Keep.refl 0x1010004400702004 s
  unfold execNsRebuild
  refine Gives.ite ?_ ?_
  · exact Gives.ok (Keep.step (State.stgSettle_keep ..) (Keep.step (State.startRebuild_keep ..) h0 rfl) rfl)
  · exact Gives.ok h0

end Sys2Proof.Machine
end

