-- ==== Sys2Proof/Laws/KeepNvme.lean ====
section
/-!
SUPPORT. What each operation and each command of Machine/Nvme.lean can do to the state: the zones and parts it stays within.
-/
namespace Sys2Proof.Machine

theorem State.drivePower_keep (s : State) : Keep 0x10000000000000 s (State.drivePower s) := by
  have h0 := Keep.refl 0x10000000000000 s
  unfold State.drivePower
  refine Keep.forEach ?_ (fun a2 u1 => ?_)
  · exact h0
  have h3 := Keep.refl 0x10000000000000 u1
  extract_lets +onlyGivenNames x4
  generalize x4 = y5 at *
  extract_lets +onlyGivenNames x6
  generalize x6 = y7 at *
  exact (Keep.ite h3 (Keep.step (State.submit_keep ..) (Keep.step (State.setDs_keep ..) h3 rfl) rfl))

theorem State.wakeCtl_keep (s : State) (f : Nat) : Keep 0x8010000800000000 s (State.wakeCtl s f) := by
  have h0 := Keep.refl 0x8010000800000000 s
  unfold State.wakeCtl
  extract_lets +onlyGivenNames x1
  generalize x1 = y2 at *
  exact (Keep.ite h0 (Keep.step (State.drivePower_keep ..) (Keep.step (State.setCtl_keep ..) (Keep.step (State.advanceTo_keep ..) h0 rfl) rfl) rfl))

theorem execNvmeControllerEnable_gives (f : Nat) (wrr : Bool) (s : State) : Gives 0x10000000000000 s (execNvmeControllerEnable f wrr s) := by
  have h0 := Keep.refl 0x10000000000000 s
  unfold execNvmeControllerEnable
  refine Gives.ite ?_ ?_
  · exact Gives.ok (Keep.step (State.setCtl_keep ..) h0 rfl)
  · exact Gives.ok h0

theorem State.resetCtl_keep (s : State) (f : Nat) : Keep 0x1014004400702004 s (State.resetCtl s f) := by
  have h0 := Keep.refl 0x1014004400702004 s
  unfold State.resetCtl
  extract_lets +onlyGivenNames x1
  generalize x1 = y2 at *
  extract_lets +onlyGivenNames x3
  generalize x3 = y4 at *
  extract_lets +onlyGivenNames x5
  generalize x5 = y6 at *
  extract_lets +onlyGivenNames x7
  generalize x7 = y8 at *
  extract_lets +onlyGivenNames x9
  refine Keep.cut (x := x9) ?_ (fun h10 => ?_)
  · unfold x9
    clear x9
    refine Keep.forEach ?_ (fun a12 u11 => ?_)
    · exact h0
    have h13 := Keep.refl 0x1014004400702004 u11
    exact (Keep.step (State.setEnt_keep ..) h13 rfl)
  generalize x9 = y14 at *
  extract_lets +onlyGivenNames x15
  generalize x15 = y16 at *
  extract_lets +onlyGivenNames x17
  refine Keep.cut (x := x17) (Keep.stg h10 _ rfl) (fun h18 => ?_)
  generalize x17 = y19 at *
  extract_lets +onlyGivenNames x20
  refine Keep.cut (x := x20) ?_ (fun h21 => ?_)
  · unfold x20
    clear x20
    refine Keep.forEach ?_ (fun a23 u22 => ?_)
    · exact h18
    have h24 := Keep.refl 0x1014004400702004 u22
    exact (Keep.step (State.dropHost_keep ..) h24 rfl)
  generalize x20 = y25 at *
  extract_lets +onlyGivenNames x26
  refine Keep.cut (x := x26) ?_ (fun h27 => ?_)
  · unfold x26
    clear x26
    refine Keep.forEach ?_ (fun a29 u28 => ?_)
    · exact h21
    have h30 := Keep.refl 0x1014004400702004 u28
    exact (Keep.step (State.driveEnd_keep ..) h30 rfl)
  generalize x26 = y31 at *
  extract_lets +onlyGivenNames x32
  refine Keep.cut (x := x32) ?_ (fun h33 => ?_)
  · unfold x32
    clear x32
    split
    · exact (Keep.ite (Keep.step (State.endTest_keep ..) h27 rfl) h27)
    · exact h27
  generalize x32 = y34 at *
  exact (Keep.step (State.stgSettle_keep ..) (Keep.step (State.drivePower_keep ..) (Keep.step (State.setCtl_keep ..) h33 rfl) rfl) rfl)

theorem execNvmeControllerReset_gives (f : Nat) (s : State) : Gives 0x1014004400702004 s (execNvmeControllerReset f s) := by
  have h0 := Keep.refl 0x1014004400702004 s
  unfold execNvmeControllerReset
  refine Gives.ite ?_ ?_
  · exact Gives.ok (Keep.step (State.resetCtl_keep ..) h0 rfl)
  · exact Gives.ok h0

theorem execNvmeIdentify_gives (f : Nat) (cid : Nat) (cns : Nat) (nsid : Nat) (cntid : Nat) (s : State) : Gives 0x9010000c00700004 s (execNvmeIdentify f cid cns nsid cntid s) := by
  have h0 := Keep.refl 0x9010000c00700004 s
  unfold execNvmeIdentify
  unfold State.admin
  refine Gives.ite ?_ ?_
  · refine Gives.ok ?_
    dsimp -zeta only
    extract_lets +onlyGivenNames x1
    generalize x1 = y2 at *
    refine Keep.ite (Keep.step (State.answerNvme_keep ..) (Keep.step (State.cal_keep ..) (Keep.step (State.wakeCtl_keep ..) h0 rfl) rfl) rfl) ?_
    refine Keep.ite (Keep.ite (Keep.step (State.answerNvme_keep ..) (Keep.step (State.cal_keep ..) (Keep.step (State.wakeCtl_keep ..) h0 rfl) rfl) rfl) (Keep.step (State.answerNvme_keep ..) (Keep.step (State.cal_keep ..) (Keep.step (State.wakeCtl_keep ..) h0 rfl) rfl) rfl)) ?_
    refine Keep.ite (Keep.step (State.answerNvme_keep ..) (Keep.step (State.cal_keep ..) (Keep.step (State.wakeCtl_keep ..) h0 rfl) rfl) rfl) ?_
    refine Keep.ite (Keep.ite (Keep.step (State.answerNvme_keep ..) (Keep.step (State.cal_keep ..) (Keep.step (State.wakeCtl_keep ..) h0 rfl) rfl) rfl) (Keep.step (State.answerNvme_keep ..) (Keep.step (State.cal_keep ..) (Keep.step (State.wakeCtl_keep ..) h0 rfl) rfl) rfl)) ?_
    refine Keep.ite (Keep.step (State.answerNvme_keep ..) (Keep.step (State.cal_keep ..) (Keep.step (State.wakeCtl_keep ..) h0 rfl) rfl) rfl) ?_
    refine Keep.ite ?_ (Keep.step (State.answerNvme_keep ..) (Keep.step (State.cal_keep ..) (Keep.step (State.wakeCtl_keep ..) h0 rfl) rfl) rfl)
    extract_lets +onlyGivenNames x3
    generalize x3 = y4 at *
    exact (Keep.step (State.answerNvme_keep ..) (Keep.step (State.cal_keep ..) (Keep.step (State.wakeCtl_keep ..) h0 rfl) rfl) rfl)
  · exact Gives.ok h0

theorem execNvmeGetLogPage_gives (f : Nat) (cid : Nat) (lid : Nat) (len : Nat) (s : State) : Gives 0xd010000c00700004 s (execNvmeGetLogPage f cid lid len s) := by
  have h0 := Keep.refl 0xd010000c00700004 s
  unfold execNvmeGetLogPage
  unfold State.admin
  refine Gives.ite ?_ ?_
  · refine Gives.ok ?_
    dsimp -zeta only
    refine Keep.ite (Keep.step (State.answerNvme_keep ..) (Keep.step (State.cal_keep ..) (Keep.step (State.wakeCtl_keep ..) h0 rfl) rfl) rfl) ?_
    extract_lets +onlyGivenNames x1
    generalize x1 = y2 at *
    extract_lets +onlyGivenNames x3
    generalize x3 = y4 at *
    extract_lets +onlyGivenNames x5
    generalize x5 = y6 at *
    extract_lets +onlyGivenNames x7
    refine Keep.cut (x := x7) (Keep.ite (Keep.step (State.setCtl_keep ..) (Keep.step (State.cal_keep ..) (Keep.step (State.wakeCtl_keep ..) h0 rfl) rfl) rfl) (Keep.step (State.cal_keep ..) (Keep.step (State.wakeCtl_keep ..) h0 rfl) rfl)) (fun h8 => ?_)
    generalize x7 = y9 at *
    exact (Keep.step (State.answerNvme_keep ..) (Keep.step (State.draw_keep ..) h8 rfl) rfl)
  · exact Gives.ok h0

theorem execNvmeSetFeatures_gives (f : Nat) (cid : Nat) (fid : Nat) (v : Nat) (s : State) : Gives 0x9010004c00702004 s (execNvmeSetFeatures f cid fid v s) := by
  have h0 := Keep.refl 0x9010004c00702004 s
  unfold execNvmeSetFeatures
  unfold State.admin
  refine Gives.ite ?_ ?_
  · refine Gives.ok ?_
    dsimp -zeta only
    extract_lets +onlyGivenNames x1
    generalize x1 = y2 at *
    refine Keep.ite (Keep.step (State.answerNvme_keep ..) (Keep.step (State.cal_keep ..) (Keep.step (State.wakeCtl_keep ..) h0 rfl) rfl) rfl) ?_
    refine Keep.ite ?_ ?_
    · extract_lets +onlyGivenNames x3
      generalize x3 = y4 at *
      refine Keep.ite (Keep.step (State.answerNvme_keep ..) (Keep.step (State.cal_keep ..) (Keep.step (State.wakeCtl_keep ..) h0 rfl) rfl) rfl) ?_
      extract_lets +onlyGivenNames x5
      generalize x5 = y6 at *
      exact (Keep.step (State.stgSettle_keep ..) (Keep.step (State.answerNvme_keep ..) (Keep.step (State.drivePower_keep ..) (Keep.step (State.setCtl_keep ..) (Keep.step (State.cal_keep ..) (Keep.step (State.wakeCtl_keep ..) h0 rfl) rfl) rfl) rfl) rfl) rfl)
    · refine Keep.ite ?_ (Keep.ite (Keep.step (State.answerNvme_keep ..) (Keep.step (State.setCtl_keep ..) (Keep.step (State.cal_keep ..) (Keep.step (State.wakeCtl_keep ..) h0 rfl) rfl) rfl) rfl) (Keep.ite (Keep.step (State.answerNvme_keep ..) (Keep.step (State.setCtl_keep ..) (Keep.step (State.cal_keep ..) (Keep.step (State.wakeCtl_keep ..) h0 rfl) rfl) rfl) rfl) (Keep.step (State.answerNvme_keep ..) (Keep.step (State.setCtl_keep ..) (Keep.step (State.cal_keep ..) (Keep.step (State.wakeCtl_keep ..) h0 rfl) rfl) rfl) rfl)))
      refine Keep.ite (Keep.step (State.answerNvme_keep ..) (Keep.step (State.cal_keep ..) (Keep.step (State.wakeCtl_keep ..) h0 rfl) rfl) rfl) ?_
      extract_lets +onlyGivenNames x7
      generalize x7 = y8 at *
      extract_lets +onlyGivenNames x9
      generalize x9 = y10 at *
      exact (Keep.step (State.answerNvme_keep ..) (Keep.step (State.setCtl_keep ..) (Keep.step (State.cal_keep ..) (Keep.step (State.wakeCtl_keep ..) h0 rfl) rfl) rfl) rfl)
  · exact Gives.ok h0

theorem execNvmeGetFeatures_gives (f : Nat) (cid : Nat) (fid : Nat) (v : Nat) (s : State) : Gives 0x9010000c00700004 s (execNvmeGetFeatures f cid fid v s) := by
  have h0 := Keep.refl 0x9010000c00700004 s
  unfold execNvmeGetFeatures
  unfold State.admin
  refine Gives.ite ?_ ?_
  · refine Gives.ok ?_
    dsimp -zeta only
    extract_lets +onlyGivenNames x1
    generalize x1 = y2 at *
    extract_lets +onlyGivenNames x3
    generalize x3 = y4 at *
    exact (Keep.ite (Keep.step (State.answerNvme_keep ..) (Keep.step (State.cal_keep ..) (Keep.step (State.wakeCtl_keep ..) h0 rfl) rfl) rfl) (Keep.ite (Keep.step (State.answerNvme_keep ..) (Keep.step (State.cal_keep ..) (Keep.step (State.wakeCtl_keep ..) h0 rfl) rfl) rfl) (Keep.ite (Keep.step (State.answerNvme_keep ..) (Keep.step (State.cal_keep ..) (Keep.step (State.wakeCtl_keep ..) h0 rfl) rfl) rfl) (Keep.ite (Keep.step (State.answerNvme_keep ..) (Keep.step (State.cal_keep ..) (Keep.step (State.wakeCtl_keep ..) h0 rfl) rfl) rfl) (Keep.ite (Keep.step (State.answerNvme_keep ..) (Keep.step (State.cal_keep ..) (Keep.step (State.wakeCtl_keep ..) h0 rfl) rfl) rfl) (Keep.step (State.answerNvme_keep ..) (Keep.step (State.cal_keep ..) (Keep.step (State.wakeCtl_keep ..) h0 rfl) rfl) rfl))))))
  · exact Gives.ok h0

theorem execNvmeCreateIoCq_gives (f : Nat) (cid : Nat) (qid : Nat) (size : Nat) (vec : Nat) (ien : Bool) (s : State) : Gives 0x9010000c00700004 s (execNvmeCreateIoCq f cid qid size vec ien s) := by
  have h0 := Keep.refl 0x9010000c00700004 s
  unfold execNvmeCreateIoCq
  unfold State.admin
  refine Gives.ite ?_ ?_
  · refine Gives.ok ?_
    dsimp -zeta only
    extract_lets +onlyGivenNames x1
    generalize x1 = y2 at *
    exact (Keep.ite (Keep.step (State.answerNvme_keep ..) (Keep.step (State.cal_keep ..) (Keep.step (State.wakeCtl_keep ..) h0 rfl) rfl) rfl) (Keep.ite (Keep.step (State.answerNvme_keep ..) (Keep.step (State.cal_keep ..) (Keep.step (State.wakeCtl_keep ..) h0 rfl) rfl) rfl) (Keep.ite (Keep.step (State.answerNvme_keep ..) (Keep.step (State.cal_keep ..) (Keep.step (State.wakeCtl_keep ..) h0 rfl) rfl) rfl) (Keep.step (State.answerNvme_keep ..) (Keep.step (State.setCtl_keep ..) (Keep.step (State.cal_keep ..) (Keep.step (State.wakeCtl_keep ..) h0 rfl) rfl) rfl) rfl))))
  · exact Gives.ok h0

theorem execNvmeCreateIoSq_gives (f : Nat) (cid : Nat) (qid : Nat) (size : Nat) (cq : Nat) (prio : Nat) (s : State) : Gives 0x9010000c00700004 s (execNvmeCreateIoSq f cid qid size cq prio s) := by
  have h0 := Keep.refl 0x9010000c00700004 s
  unfold execNvmeCreateIoSq
  unfold State.admin
  refine Gives.ite ?_ ?_
  · refine Gives.ok ?_
    dsimp -zeta only
    extract_lets +onlyGivenNames x1
    generalize x1 = y2 at *
    exact (Keep.ite (Keep.step (State.answerNvme_keep ..) (Keep.step (State.cal_keep ..) (Keep.step (State.wakeCtl_keep ..) h0 rfl) rfl) rfl) (Keep.ite (Keep.step (State.answerNvme_keep ..) (Keep.step (State.cal_keep ..) (Keep.step (State.wakeCtl_keep ..) h0 rfl) rfl) rfl) (Keep.ite (Keep.step (State.answerNvme_keep ..) (Keep.step (State.cal_keep ..) (Keep.step (State.wakeCtl_keep ..) h0 rfl) rfl) rfl) (Keep.step (State.answerNvme_keep ..) (Keep.step (State.setCtl_keep ..) (Keep.step (State.cal_keep ..) (Keep.step (State.wakeCtl_keep ..) h0 rfl) rfl) rfl) rfl))))
  · exact Gives.ok h0

theorem execNvmeDeleteIoSq_gives (f : Nat) (cid : Nat) (qid : Nat) (s : State) : Gives 0x9010000c00700004 s (execNvmeDeleteIoSq f cid qid s) := by
  have h0 := Keep.refl 0x9010000c00700004 s
  unfold execNvmeDeleteIoSq
  unfold State.admin
  refine Gives.ite ?_ ?_
  · refine Gives.ok ?_
    dsimp -zeta only
    extract_lets +onlyGivenNames x1
    generalize x1 = y2 at *
    refine Keep.ite (Keep.step (State.answerNvme_keep ..) (Keep.step (State.cal_keep ..) (Keep.step (State.wakeCtl_keep ..) h0 rfl) rfl) rfl) ?_
    extract_lets +onlyGivenNames x3
    generalize x3 = y4 at *
    extract_lets +onlyGivenNames x5
    generalize x5 = y6 at *
    extract_lets +onlyGivenNames x7
    refine Keep.cut (x := x7) ?_ (fun h8 => ?_)
    · unfold x7
      clear x7
      refine Keep.forEach ?_ (fun a10 u9 => ?_)
      · exact (Keep.step (State.cal_keep ..) (Keep.step (State.wakeCtl_keep ..) h0 rfl) rfl)
      have h11 := Keep.refl 0x9010000c00700004 u9
      exact (Keep.step (State.answerNvme_keep ..) h11 rfl)
    generalize x7 = y12 at *
    extract_lets +onlyGivenNames x13
    generalize x13 = y14 at *
    extract_lets +onlyGivenNames x15
    refine Keep.cut (x := x15) (Keep.stg h8 _ rfl) (fun h16 => ?_)
    generalize x15 = y17 at *
    exact (Keep.step (State.answerNvme_keep ..) (Keep.step (State.setCtl_keep ..) h16 rfl) rfl)
  · exact Gives.ok h0

theorem execNvmeDeleteIoCq_gives (f : Nat) (cid : Nat) (qid : Nat) (s : State) : Gives 0x9010000c00700004 s (execNvmeDeleteIoCq f cid qid s) := by
  have h0 := Keep.refl 0x9010000c00700004 s
  unfold execNvmeDeleteIoCq
  unfold State.admin
  refine Gives.ite ?_ ?_
  · refine Gives.ok ?_
    dsimp -zeta only
    extract_lets +onlyGivenNames x1
    generalize x1 = y2 at *
    exact (Keep.ite (Keep.step (State.answerNvme_keep ..) (Keep.step (State.cal_keep ..) (Keep.step (State.wakeCtl_keep ..) h0 rfl) rfl) rfl) (Keep.ite (Keep.step (State.answerNvme_keep ..) (Keep.step (State.cal_keep ..) (Keep.step (State.wakeCtl_keep ..) h0 rfl) rfl) rfl) (Keep.step (State.answerNvme_keep ..) (Keep.step (State.setCtl_keep ..) (Keep.step (State.cal_keep ..) (Keep.step (State.wakeCtl_keep ..) h0 rfl) rfl) rfl) rfl)))
  · exact Gives.ok h0

theorem execNvmeAbort_gives (f : Nat) (cid : Nat) (sqid : Nat) (acid : Nat) (s : State) : Gives 0x9010000c00700004 s (execNvmeAbort f cid sqid acid s) := by
  have h0 := Keep.refl 0x9010000c00700004 s
  unfold execNvmeAbort
  unfold State.admin
  refine Gives.ite ?_ ?_
  · refine Gives.ok ?_
    dsimp -zeta only
    split
    · exact (Keep.step (State.answerNvme_keep ..) (Keep.step (State.endHost_keep ..) (Keep.step (State.cal_keep ..) (Keep.step (State.wakeCtl_keep ..) h0 rfl) rfl) rfl) rfl)
    · exact (Keep.step (State.answerNvme_keep ..) (Keep.step (State.cal_keep ..) (Keep.step (State.wakeCtl_keep ..) h0 rfl) rfl) rfl)
  · exact Gives.ok h0

theorem execNvmeAsyncEventRequest_gives (f : Nat) (cid : Nat) (s : State) : Gives 0x9010000c00700004 s (execNvmeAsyncEventRequest f cid s) := by
  have h0 := Keep.refl 0x9010000c00700004 s
  unfold execNvmeAsyncEventRequest
  unfold State.admin
  refine Gives.ite ?_ ?_
  · refine Gives.ok ?_
    dsimp -zeta only
    extract_lets +onlyGivenNames x1
    generalize x1 = y2 at *
    split
    · exact (Keep.step (State.answerNvme_keep ..) (Keep.step (State.setCtl_keep ..) (Keep.step (State.cal_keep ..) (Keep.step (State.wakeCtl_keep ..) h0 rfl) rfl) rfl) rfl)
    · exact (Keep.ite (Keep.step (State.answerNvme_keep ..) (Keep.step (State.cal_keep ..) (Keep.step (State.wakeCtl_keep ..) h0 rfl) rfl) rfl) (Keep.step (State.setCtl_keep ..) (Keep.step (State.cal_keep ..) (Keep.step (State.wakeCtl_keep ..) h0 rfl) rfl) rfl))
  · exact Gives.ok h0

theorem State.setAttach_keep (s : State) (n : Nat) (c : Nat) (v : Bool) : Keep 0x10004000002000 s (State.setAttach s n c v) := by
  have h0 := Keep.refl 0x10004000002000 s
  unfold State.setAttach
  extract_lets +onlyGivenNames x1
  generalize x1 = y2 at *
  extract_lets +onlyGivenNames x3
  refine Keep.cut (x := x3) (Keep.wr .stg h0 rfl rfl) (fun h4 => ?_)
  generalize x3 = y5 at *
  exact (Keep.step (State.stgStore_keep ..) h4 rfl)

theorem execNamespaceAttachment_gives (f : Nat) (cid : Nat) (nsid : Nat) (detach : Bool) (ctrls : List Nat) (s : State) : Gives 0x9010004c00702004 s (execNamespaceAttachment f cid nsid detach ctrls s) := by
  have h0 := Keep.refl 0x9010004c00702004 s
  unfold execNamespaceAttachment
  unfold State.admin
  refine Gives.ite ?_ ?_
  · refine Gives.ok ?_
    dsimp -zeta only
    extract_lets +onlyGivenNames x1
    generalize x1 = y2 at *
    refine Keep.ite (Keep.step (State.answerNvme_keep ..) (Keep.step (State.cal_keep ..) (Keep.step (State.wakeCtl_keep ..) h0 rfl) rfl) rfl) ?_
    refine Keep.ite (Keep.step (State.answerNvme_keep ..) (Keep.step (State.cal_keep ..) (Keep.step (State.wakeCtl_keep ..) h0 rfl) rfl) rfl) ?_
    refine Keep.ite (Keep.step (State.answerNvme_keep ..) (Keep.step (State.cal_keep ..) (Keep.step (State.wakeCtl_keep ..) h0 rfl) rfl) rfl) ?_
    refine Keep.ite (Keep.step (State.answerNvme_keep ..) (Keep.step (State.cal_keep ..) (Keep.step (State.wakeCtl_keep ..) h0 rfl) rfl) rfl) ?_
    refine Keep.ite (Keep.step (State.answerNvme_keep ..) (Keep.step (State.cal_keep ..) (Keep.step (State.wakeCtl_keep ..) h0 rfl) rfl) rfl) ?_
    extract_lets +onlyGivenNames x3
    refine Keep.cut (x := x3) ?_ (fun h4 => ?_)
    · unfold x3
      clear x3
      refine Keep.forEach ?_ (fun a6 u5 => ?_)
      · exact (Keep.step (State.cal_keep ..) (Keep.step (State.wakeCtl_keep ..) h0 rfl) rfl)
      have h7 := Keep.refl 0x9010004c00702004 u5
      exact (Keep.step (State.setAttach_keep ..) h7 rfl)
    generalize x3 = y8 at *
    exact (Keep.ite (Keep.step (State.stgSettle_keep ..) (Keep.stg h4 _ rfl) rfl) (Keep.step (State.answerNvme_keep ..) h4 rfl))
  · exact Gives.ok h0

theorem execDeviceSelfTest_gives (f : Nat) (cid : Nat) (nsid : Nat) (stc : Nat) (s : State) : Gives 0x9010004c00702004 s (execDeviceSelfTest f cid nsid stc s) := by
  have h0 := Keep.refl 0x9010004c00702004 s
  unfold execDeviceSelfTest
  unfold State.admin
  refine Gives.ite ?_ ?_
  · refine Gives.ok ?_
    dsimp -zeta only
    refine Keep.ite ?_ ?_
    · split
      · exact (Keep.ite (Keep.step (State.stgSettle_keep ..) (Keep.step (State.answerNvme_keep ..) (Keep.step (State.endTest_keep ..) (Keep.step (State.cal_keep ..) (Keep.step (State.wakeCtl_keep ..) h0 rfl) rfl) rfl) rfl) rfl) (Keep.step (State.answerNvme_keep ..) (Keep.step (State.cal_keep ..) (Keep.step (State.wakeCtl_keep ..) h0 rfl) rfl) rfl))
      · exact (Keep.step (State.answerNvme_keep ..) (Keep.step (State.cal_keep ..) (Keep.step (State.wakeCtl_keep ..) h0 rfl) rfl) rfl)
    · refine Keep.ite (Keep.step (State.answerNvme_keep ..) (Keep.step (State.cal_keep ..) (Keep.step (State.wakeCtl_keep ..) h0 rfl) rfl) rfl) ?_
      refine Keep.ite (Keep.step (State.answerNvme_keep ..) (Keep.step (State.cal_keep ..) (Keep.step (State.wakeCtl_keep ..) h0 rfl) rfl) rfl) ?_
      refine Keep.ite (Keep.step (State.answerNvme_keep ..) (Keep.step (State.cal_keep ..) (Keep.step (State.wakeCtl_keep ..) h0 rfl) rfl) rfl) ?_
      extract_lets +onlyGivenNames x1
      generalize x1 = y2 at *
      extract_lets +onlyGivenNames x3
      generalize x3 = y4 at *
      extract_lets +onlyGivenNames x5
      generalize x5 = y6 at *
      exact (Keep.step (State.stgSettle_keep ..) (Keep.step (State.answerNvme_keep ..) (Keep.step (State.setTest_keep ..) (Keep.step (State.cal_keep ..) (Keep.step (State.wakeCtl_keep ..) h0 rfl) rfl) rfl) rfl) rfl)
  · exact Gives.ok h0

theorem execNvmeRead_gives (f : Nat) (qid : Nat) (cid : Nat) (nsid : Nat) (lba : Nat) (n : Nat) (s : State) : Gives 0x9010004c00702004 s (execNvmeRead f qid cid nsid lba n s) := by
  have h0 := Keep.refl 0x9010004c00702004 s
  unfold execNvmeRead
  unfold State.ioCommand
  refine Gives.ite ?_ ?_
  · exact Gives.ok h0
  · split
    · exact Gives.ok h0
    · extract_lets +onlyGivenNames x1
      refine Gives.cut (x := x1) (Keep.step (State.cal_keep ..) (Keep.step (State.wakeCtl_keep ..) h0 rfl) rfl) (fun h2 => ?_)
      generalize x1 = y3 at *
      split
      · exact Gives.ok (Keep.step (State.answerNvme_keep ..) h2 rfl)
      · extract_lets +onlyGivenNames x4
        generalize x4 = y5 at *
        extract_lets +onlyGivenNames x6
        generalize x6 = y7 at *
        extract_lets +onlyGivenNames x8
        generalize x8 = y9 at *
        extract_lets +onlyGivenNames x10
        refine Gives.cut (x := x10) (Keep.stg h2 _ rfl) (fun h11 => ?_)
        generalize x10 = y12 at *
        exact Gives.ok (Keep.step (State.stgSettle_keep ..) (Keep.step (State.readOverH_keep ..) (Keep.step (State.beginRead_keep ..) h11 rfl) rfl) rfl)

theorem State.journalFull_keep (s : State) (c : HostCmd) : Keep 0x400100004 s (State.journalFull s c) := by
  have h0 := Keep.refl 0x400100004 s
  unfold State.journalFull
  exact (Keep.ite (Keep.step (State.raise_keep ..) h0 rfl) h0)

theorem execNvmeWrite_gives (f : Nat) (qid : Nat) (cid : Nat) (nsid : Nat) (lba : Nat) (n : Nat) (data : List Byte) (s : State) : Gives 0x9010004c00702004 s (execNvmeWrite f qid cid nsid lba n data s) := by
  have h0 := Keep.refl 0x9010004c00702004 s
  unfold execNvmeWrite
  unfold State.ioCommand
  refine Gives.ite ?_ ?_
  · exact Gives.ok h0
  · split
    · exact Gives.ok h0
    · extract_lets +onlyGivenNames x1
      refine Gives.cut (x := x1) (Keep.step (State.cal_keep ..) (Keep.step (State.wakeCtl_keep ..) h0 rfl) rfl) (fun h2 => ?_)
      generalize x1 = y3 at *
      split
      · exact Gives.ok (Keep.step (State.answerNvme_keep ..) h2 rfl)
      · extract_lets +onlyGivenNames x4
        generalize x4 = y5 at *
        extract_lets +onlyGivenNames x6
        generalize x6 = y7 at *
        extract_lets +onlyGivenNames x8
        generalize x8 = y9 at *
        extract_lets +onlyGivenNames x10
        refine Gives.cut (x := x10) (Keep.stg h2 _ rfl) (fun h11 => ?_)
        generalize x10 = y12 at *
        exact Gives.ok (Keep.step (State.stgSettle_keep ..) (Keep.step (State.journalFull_keep ..) (Keep.step (State.beginWrite_keep ..) h11 rfl) rfl) rfl)

theorem execNvmeWriteZeroes_gives (f : Nat) (qid : Nat) (cid : Nat) (nsid : Nat) (lba : Nat) (n : Nat) (s : State) : Gives 0x9010004c00702004 s (execNvmeWriteZeroes f qid cid nsid lba n s) := by
  have h0 := Keep.refl 0x9010004c00702004 s
  unfold execNvmeWriteZeroes
  unfold State.ioCommand
  refine Gives.ite ?_ ?_
  · exact Gives.ok h0
  · split
    · exact Gives.ok h0
    · extract_lets +onlyGivenNames x1
      refine Gives.cut (x := x1) (Keep.step (State.cal_keep ..) (Keep.step (State.wakeCtl_keep ..) h0 rfl) rfl) (fun h2 => ?_)
      generalize x1 = y3 at *
      split
      · exact Gives.ok (Keep.step (State.answerNvme_keep ..) h2 rfl)
      · extract_lets +onlyGivenNames x4
        generalize x4 = y5 at *
        extract_lets +onlyGivenNames x6
        generalize x6 = y7 at *
        extract_lets +onlyGivenNames x8
        generalize x8 = y9 at *
        extract_lets +onlyGivenNames x10
        refine Gives.cut (x := x10) (Keep.stg h2 _ rfl) (fun h11 => ?_)
        generalize x10 = y12 at *
        exact Gives.ok (Keep.step (State.stgSettle_keep ..) (Keep.step (State.journalFull_keep ..) (Keep.step (State.beginWrite_keep ..) h11 rfl) rfl) rfl)

theorem execNvmeFlush_gives (f : Nat) (qid : Nat) (cid : Nat) (nsid : Nat) (s : State) : Gives 0x9010004c00702004 s (execNvmeFlush f qid cid nsid s) := by
  have h0 := Keep.refl 0x9010004c00702004 s
  unfold execNvmeFlush
  unfold State.ioCommand
  refine Gives.ite ?_ ?_
  · exact Gives.ok h0
  · split
    · exact Gives.ok h0
    · extract_lets +onlyGivenNames x1
      refine Gives.cut (x := x1) (Keep.step (State.cal_keep ..) (Keep.step (State.wakeCtl_keep ..) h0 rfl) rfl) (fun h2 => ?_)
      generalize x1 = y3 at *
      split
      · exact Gives.ok (Keep.step (State.answerNvme_keep ..) h2 rfl)
      · extract_lets +onlyGivenNames x4
        generalize x4 = y5 at *
        extract_lets +onlyGivenNames x6
        generalize x6 = y7 at *
        extract_lets +onlyGivenNames x8
        generalize x8 = y9 at *
        extract_lets +onlyGivenNames x10
        refine Gives.cut (x := x10) (Keep.stg h2 _ rfl) (fun h11 => ?_)
        generalize x10 = y12 at *
        refine Gives.ok ?_
        refine Keep.step (State.stgSettle_keep ..) ?_ rfl
        dsimp -zeta only
        extract_lets +onlyGivenNames x13
        generalize x13 = y14 at *
        exact (Keep.ite (Keep.step (State.endHost_keep ..) h11 rfl) (Keep.step (State.updHost_keep ..) h11 rfl))

theorem execNvmeCompare_gives (f : Nat) (qid : Nat) (cid : Nat) (nsid : Nat) (lba : Nat) (n : Nat) (data : List Byte) (s : State) : Gives 0x9010004c00702004 s (execNvmeCompare f qid cid nsid lba n data s) := by
  have h0 := Keep.refl 0x9010004c00702004 s
  unfold execNvmeCompare
  unfold State.ioCommand
  refine Gives.ite ?_ ?_
  · exact Gives.ok h0
  · split
    · exact Gives.ok h0
    · extract_lets +onlyGivenNames x1
      refine Gives.cut (x := x1) (Keep.step (State.cal_keep ..) (Keep.step (State.wakeCtl_keep ..) h0 rfl) rfl) (fun h2 => ?_)
      generalize x1 = y3 at *
      split
      · exact Gives.ok (Keep.step (State.answerNvme_keep ..) h2 rfl)
      · extract_lets +onlyGivenNames x4
        generalize x4 = y5 at *
        extract_lets +onlyGivenNames x6
        generalize x6 = y7 at *
        extract_lets +onlyGivenNames x8
        generalize x8 = y9 at *
        extract_lets +onlyGivenNames x10
        refine Gives.cut (x := x10) (Keep.stg h2 _ rfl) (fun h11 => ?_)
        generalize x10 = y12 at *
        exact Gives.ok (Keep.step (State.stgSettle_keep ..) (Keep.step (State.readOverH_keep ..) (Keep.step (State.beginRead_keep ..) h11 rfl) rfl) rfl)

theorem execNvmeDatasetManagement_gives (f : Nat) (qid : Nat) (cid : Nat) (nsid : Nat) (deallocate : Bool) (ranges : List (Nat × Nat)) (s : State) : Gives 0x9010004c00702004 s (execNvmeDatasetManagement f qid cid nsid deallocate ranges s) := by
  have h0 := Keep.refl 0x9010004c00702004 s
  unfold execNvmeDatasetManagement
  unfold State.ioCommand
  refine Gives.ite ?_ ?_
  · exact Gives.ok h0
  · split
    · exact Gives.ok h0
    · extract_lets +onlyGivenNames x1
      refine Gives.cut (x := x1) (Keep.step (State.cal_keep ..) (Keep.step (State.wakeCtl_keep ..) h0 rfl) rfl) (fun h2 => ?_)
      generalize x1 = y3 at *
      split
      · exact Gives.ok (Keep.step (State.answerNvme_keep ..) h2 rfl)
      · extract_lets +onlyGivenNames x4
        generalize x4 = y5 at *
        extract_lets +onlyGivenNames x6
        generalize x6 = y7 at *
        extract_lets +onlyGivenNames x8
        generalize x8 = y9 at *
        extract_lets +onlyGivenNames x10
        refine Gives.cut (x := x10) (Keep.stg h2 _ rfl) (fun h11 => ?_)
        generalize x10 = y12 at *
        exact Gives.ok (Keep.step (State.stgSettle_keep ..) (Keep.ite (Keep.step (State.beginWrite_keep ..) h11 rfl) (Keep.step (State.endHost_keep ..) h11 rfl)) rfl)

end Sys2Proof.Machine
end

