-- ==== Sys2Proof/Laws/KeepSlots.lean ====
section
/-!
SUPPORT. What each operation and each command of Machine/Slots.lean can do to the state: the zones and parts it stays within.
-/
namespace Sys2Proof.Machine

theorem execSlotPresentDebounce_gives (d : Nat) (s : State) : Gives 0x10000400102004 s (execSlotPresentDebounce d s) := by
  have h0 := Keep.refl 0x10000400102004 s
  unfold execSlotPresentDebounce
  refine Gives.ite ?_ ?_
  · exact Gives.ok h0
  · extract_lets +onlyGivenNames x1
    refine Gives.cut (x := x1) (Keep.wr .stg h0 rfl rfl) (fun h2 => ?_)
    generalize x1 = y3 at *
    refine Gives.ite ?_ ?_
    · exact Gives.ok (Keep.step (State.enterPresent_keep ..) h2 rfl)
    · exact Gives.ok h2

theorem execSlotPowerOn_gives (d : Nat) (s : State) : Gives 0x10000400102004 s (execSlotPowerOn d s) := by
  have h0 := Keep.refl 0x10000400102004 s
  unfold execSlotPowerOn
  refine Gives.ite ?_ ?_
  · exact Gives.ok h0
  · exact Gives.ok (Keep.step (State.slotPower_keep ..) h0 rfl)

theorem State.slotLost_keep (s : State) (d : Nat) (gone : Bool) : Keep 0x1014004400702004 s (State.slotLost s d gone) := by
  have h0 := Keep.refl 0x1014004400702004 s
  unfold State.slotLost
  extract_lets +onlyGivenNames x1
  refine Keep.cut (x := x1) (Keep.step (State.powerOffSlot_keep ..) h0 rfl) (fun h2 => ?_)
  generalize x1 = y3 at *
  extract_lets +onlyGivenNames x4
  refine Keep.cut (x := x4) (Keep.ite (Keep.step (State.setSstate_keep ..) h2 rfl) (Keep.step (State.setSstate_keep ..) h2 rfl)) (fun h5 => ?_)
  generalize x4 = y6 at *
  extract_lets +onlyGivenNames x7
  refine Keep.cut (x := x7) (Keep.step (State.abandon_keep ..) h5 rfl) (fun h8 => ?_)
  generalize x7 = y9 at *
  exact (Keep.ite (Keep.step (State.stgSettle_keep ..) h8 rfl) (Keep.step (State.stgSettle_keep ..) (Keep.step (State.enterPresent_keep ..) h8 rfl) rfl))

theorem State.slotsCommit_keep (s : State) : Keep 0x10000400102004 s (State.slotsCommit s) := by
  have h0 := Keep.refl 0x10000400102004 s
  unfold State.slotsCommit
  refine Keep.forEach ?_ (fun a2 u1 => ?_)
  · exact h0
  have h3 := Keep.refl 0x10000400102004 u1
  extract_lets +onlyGivenNames x4
  generalize x4 = y5 at *
  exact (Keep.ite (Keep.ite (Keep.step (State.setDs_keep ..) h3 rfl) (Keep.ite (Keep.step (State.setSstate_keep ..) (Keep.step (State.powerOffSlot_keep ..) h3 rfl) rfl) h3)) (Keep.ite (Keep.step (State.slotPower_keep ..) h3 rfl) h3))

theorem execSlotPowerDelayExpire_gives (d : Nat) (s : State) : Gives 0x9014004c00702004 s (execSlotPowerDelayExpire d s) := by
  have h0 := Keep.refl 0x9014004c00702004 s
  unfold execSlotPowerDelayExpire
  refine Gives.ite ?_ ?_
  · exact Gives.ok h0
  · extract_lets +onlyGivenNames x1
    generalize x1 = y2 at *
    extract_lets +onlyGivenNames x3
    refine Gives.cut (x := x3) (Keep.step (State.advanceTo_keep ..) h0 rfl) (fun h4 => ?_)
    generalize x3 = y5 at *
    extract_lets +onlyGivenNames x6
    generalize x6 = y7 at *
    extract_lets +onlyGivenNames x8
    refine Gives.cut (x := x8) (Keep.step (State.setSstate_keep ..) (Keep.step (State.setDs_keep ..) h4 rfl) rfl) (fun h9 => ?_)
    generalize x8 = y10 at *
    exact Gives.ok (Keep.ite h9 (Keep.step (State.slotLost_keep ..) h9 rfl))

theorem execSlotDriveReady_gives (d : Nat) (rate : Nat) (width : Nat) (s : State) : Gives 0x1010004400702004 s (execSlotDriveReady d rate width s) := by
  have h0 := Keep.refl 0x1010004400702004 s
  unfold execSlotDriveReady
  refine Gives.ite ?_ ?_
  · exact Gives.ok h0
  · extract_lets +onlyGivenNames x1
    refine Gives.cut (x := x1) (Keep.wr .stg h0 rfl rfl) (fun h2 => ?_)
    generalize x1 = y3 at *
    extract_lets +onlyGivenNames x4
    refine Gives.cut (x := x4) (Keep.wr .stg h2 rfl rfl) (fun h5 => ?_)
    generalize x4 = y6 at *
    extract_lets +onlyGivenNames x7
    generalize x7 = y8 at *
    extract_lets +onlyGivenNames x9
    refine Gives.cut (x := x9) (Keep.step (State.setSstate_keep ..) (Keep.step (State.setDs_keep ..) h5 rfl) rfl) (fun h10 => ?_)
    generalize x9 = y11 at *
    extract_lets +onlyGivenNames x12
    refine Gives.cut (x := x12) ?_ (fun h13 => ?_)
    · unfold x12
      clear x12
      refine Keep.forEach ?_ (fun a15 u14 => ?_)
      · exact h10
      have h16 := Keep.refl 0x1010004400702004 u14
      extract_lets +onlyGivenNames x17
      generalize x17 = y18 at *
      extract_lets +onlyGivenNames x19
      refine Keep.cut (x := x19) (Keep.ite (Keep.step (State.setNss_keep ..) h16 rfl) h16) (fun h20 => ?_)
      generalize x19 = y21 at *
      extract_lets +onlyGivenNames x22
      refine Keep.cut (x := x22) ?_ (fun h23 => ?_)
      · unfold x22
        clear x22
        refine Keep.forEach ?_ (fun a25 u24 => ?_)
        · exact h20
        have h26 := Keep.refl 0x1010004400702004 u24
        exact (Keep.ite (Keep.step (State.dropSide_keep ..) h26 rfl) h26)
      generalize x22 = y27 at *
      exact (Keep.step (State.updOnline_keep ..) (Keep.step (State.mirrorNext_keep ..) h23 rfl) rfl)
    generalize x12 = y28 at *
    exact Gives.ok (Keep.step (State.stgSettle_keep ..) h13 rfl)

theorem execSlotTrainTimeout_gives (d : Nat) (s : State) : Gives 0x9010004c00702004 s (execSlotTrainTimeout d s) := by
  have h0 := Keep.refl 0x9010004c00702004 s
  unfold execSlotTrainTimeout
  refine Gives.ite ?_ ?_
  · exact Gives.ok h0
  · extract_lets +onlyGivenNames x1
    refine Gives.cut (x := x1) (Keep.step (State.advanceTo_keep ..) h0 rfl) (fun h2 => ?_)
    generalize x1 = y3 at *
    exact Gives.ok (Keep.step (State.stgSettle_keep ..) (Keep.step (State.setSstate_keep ..) (Keep.step (State.powerOffSlot_keep ..) h2 rfl) rfl) rfl)

theorem execSlotAttnPress_gives (d : Nat) (s : State) : Gives 0x10000400102004 s (execSlotAttnPress d s) := by
  have h0 := Keep.refl 0x10000400102004 s
  unfold execSlotAttnPress
  refine Gives.ite ?_ ?_
  · exact Gives.ok h0
  · refine Gives.ite ?_ ?_
    · exact Gives.ok (Keep.step (State.setSstate_keep ..) (Keep.step (State.setDs_keep ..) h0 rfl) rfl)
    · refine Gives.ite ?_ ?_
      · exact Gives.ok (Keep.step (State.setSstate_keep ..) (Keep.step (State.setDs_keep ..) h0 rfl) rfl)
      · exact Gives.ok h0

theorem State.startRemoval_keep (s : State) (d : Nat) : Keep 0x1010004400702004 s (State.startRemoval s d) := by
  have h0 := Keep.refl 0x1010004400702004 s
  unfold State.startRemoval
  exact (Keep.ite (Keep.step (State.stgSettle_keep ..) (Keep.step (State.setDs_keep ..) h0 rfl) rfl) h0)

theorem execSlotAttnTimeout_gives (d : Nat) (s : State) : Gives 0x9010004c00702004 s (execSlotAttnTimeout d s) := by
  have h0 := Keep.refl 0x9010004c00702004 s
  unfold execSlotAttnTimeout
  refine Gives.ite ?_ ?_
  · exact Gives.ok h0
  · exact Gives.ok (Keep.step (State.startRemoval_keep ..) (Keep.step (State.advanceTo_keep ..) h0 rfl) rfl)

theorem execSlotPowerOff_gives (d : Nat) (s : State) : Gives 0x1010004400702004 s (execSlotPowerOff d s) := by
  have h0 := Keep.refl 0x1010004400702004 s
  unfold execSlotPowerOff
  refine Gives.ite ?_ ?_
  · exact Gives.ok h0
  · exact Gives.ok (Keep.step (State.startRemoval_keep ..) h0 rfl)

theorem execSlotRemovalWaitExpire_gives (d : Nat) (s : State) : Gives 0x9014004c00702004 s (execSlotRemovalWaitExpire d s) := by
  have h0 := Keep.refl 0x9014004c00702004 s
  unfold execSlotRemovalWaitExpire
  refine Gives.ite ?_ ?_
  · exact Gives.ok h0
  · extract_lets +onlyGivenNames x1
    refine Gives.cut (x := x1) (Keep.step (State.advanceTo_keep ..) h0 rfl) (fun h2 => ?_)
    generalize x1 = y3 at *
    refine Gives.ite ?_ ?_
    · exact Gives.ok (Keep.step (State.stgSettle_keep ..) (Keep.step (State.shutdownSlot_keep ..) (Keep.step (State.abandon_keep ..) h2 rfl) rfl) rfl)
    · extract_lets +onlyGivenNames x4
      generalize x4 = y5 at *
      extract_lets +onlyGivenNames x6
      refine Gives.cut (x := x6) (Keep.stg h2 _ rfl) (fun h7 => ?_)
      generalize x6 = y8 at *
      exact Gives.ok (Keep.step (State.stgSettle_keep ..) (Keep.step (State.removed_keep ..) h7 rfl) rfl)

theorem execSlotPowerFault_gives (d : Nat) (s : State) : Gives 0x1014004400702004 s (execSlotPowerFault d s) := by
  have h0 := Keep.refl 0x1014004400702004 s
  unfold execSlotPowerFault
  refine Gives.ite ?_ ?_
  · exact Gives.ok h0
  · extract_lets +onlyGivenNames x1
    refine Gives.cut (x := x1) (Keep.step (State.setSstate_keep ..) (Keep.step (State.powerOffSlot_keep ..) h0 rfl) rfl) (fun h2 => ?_)
    generalize x1 = y3 at *
    extract_lets +onlyGivenNames x4
    generalize x4 = y5 at *
    extract_lets +onlyGivenNames x6
    refine Gives.cut (x := x6) (Keep.step (State.raise_keep ..) (Keep.step (State.setDs_keep ..) h2 rfl) rfl) (fun h7 => ?_)
    generalize x6 = y8 at *
    exact Gives.ok (Keep.step (State.stgSettle_keep ..) (Keep.step (State.abandon_keep ..) h7 rfl) rfl)

theorem execSlotLost_gives (d : Nat) (gone : Bool) (s : State) : Gives 0x1014004400702004 s (execSlotLost d gone s) := by
  have h0 := Keep.refl 0x1014004400702004 s
  unfold execSlotLost
  refine Gives.ite ?_ ?_
  · exact Gives.ok h0
  · extract_lets +onlyGivenNames x1
    generalize x1 = y2 at *
    extract_lets +onlyGivenNames x3
    refine Gives.cut (x := x3) (Keep.ite (Keep.wr .stg h0 rfl rfl) h0) (fun h4 => ?_)
    generalize x3 = y5 at *
    refine Gives.ite ?_ ?_
    · exact Gives.ok (Keep.step (State.slotLost_keep ..) h4 rfl)
    · refine Gives.ite ?_ ?_
      · exact Gives.ok (Keep.step (State.setSstate_keep ..) h4 rfl)
      · exact Gives.ok h4

theorem execSlotFaultClear_gives (d : Nat) (gone : Bool) (s : State) : Gives 0x10000400102004 s (execSlotFaultClear d gone s) := by
  have h0 := Keep.refl 0x10000400102004 s
  unfold execSlotFaultClear
  refine Gives.ite ?_ ?_
  · exact Gives.ok h0
  · extract_lets +onlyGivenNames x1
    refine Gives.cut (x := x1) (Keep.ite (Keep.wr .stg h0 rfl rfl) h0) (fun h2 => ?_)
    generalize x1 = y3 at *
    extract_lets +onlyGivenNames x4
    generalize x4 = y5 at *
    extract_lets +onlyGivenNames x6
    refine Gives.cut (x := x6) (Keep.step (State.setDs_keep ..) h2 rfl) (fun h7 => ?_)
    generalize x6 = y8 at *
    exact Gives.ok (Keep.ite (Keep.step (State.enterPresent_keep ..) h7 rfl) (Keep.step (State.setSstate_keep ..) h7 rfl))

end Sys2Proof.Machine
end

