-- ==== Sys2Proof/Laws/KeepExports.lean ====
section
/-!
SUPPORT. What each operation and each command of Machine/Exports.lean can do to the state: the zones and parts it stays within.
-/
namespace Sys2Proof.Machine

theorem State.setExp_keep (s : State) (x : Option Export) : Keep 0x4000000000000 s (State.setExp s x) := by
  have h0 := Keep.refl 0x4000000000000 s
  unfold State.setExp
  exact (Keep.recd h0 _ rfl)

theorem State.exportWrite_keep (s : State) (sl : Nat) (y2 : Nat) (y3 : Nat) (y4 : List Byte) : Keep 0x10004400102004 s (State.exportWrite s sl y2 y3 y4).1 := by
  induction y2 generalizing s sl y3 y4
  · have h0 := Keep.refl 0x10004400102004 s
    show KeepP _ _ _
    unfold State.exportWrite
    exact KeepP.mk h0
  · rename_i y2 ih
    have h0 := Keep.refl 0x10004400102004 s
    show KeepP _ _ _
    unfold State.exportWrite
    refine KeepP.ite ?_ ?_
    · exact KeepP.mk h0
    · extract_lets +onlyGivenNames x1
      generalize x1 = y2 at *
      extract_lets +onlyGivenNames x3
      refine KeepP.cut (x := x3) (Keep.step (State.noteWrite_keep ..) h0 rfl) (fun h4 => ?_)
      generalize x3 = y5 at *
      extract_lets +onlyGivenNames x6
      generalize x6 = y7 at *
      extract_lets +onlyGivenNames x8
      refine KeepP.cut (x := x8) ?_ (fun h9 => ?_)
      · unfold x8
        clear x8
        refine Keep.forEach ?_ (fun a11 u10 => ?_)
        · exact h4
        have h12 := Keep.refl 0x10004400102004 u10
        exact (Keep.step (State.submit_keep ..) h12 rfl)
      generalize x8 = y13 at *
      extract_lets +onlyGivenNames x14
      refine KeepP.cutP (x := x14) ?_ (fun h15 => ?_)
      · unfold x14
        clear x14
        exact KeepP.of (Keep.step (ih ..) h9 rfl)
      generalize x14 = y16 at *
      exact KeepP.mk h15

theorem State.exportFail_keep (s : State) (r : Nat) (x : Export) : Keep 0x4000400100804 s (State.exportFail s r x) := by
  have h0 := Keep.refl 0x4000400100804 s
  unfold State.exportFail
  extract_lets +onlyGivenNames x1
  refine Keep.cut (x := x1) (Keep.count .recd (Keep.wr .recd (Keep.step (State.setExp_keep ..) h0 rfl) rfl rfl) rfl rfl) (fun h2 => ?_)
  generalize x1 = y3 at *
  exact (Keep.step (State.raise_keep ..) (Keep.recd h2 _ rfl) rfl)

theorem State.exportStep_keep (s : State) (g : Seg) (x : Export) : Keep 0x5014004400702804 s (State.exportStep s g x) := by
  have h0 := Keep.refl 0x5014004400702804 s
  unfold State.exportStep
  extract_lets +onlyGivenNames x1
  generalize x1 = y2 at *
  split
  · exact (Keep.step (State.exportFail_keep ..) h0 rfl)
  · refine Keep.ite (Keep.step (State.exportFail_keep ..) h0 rfl) ?_
    extract_lets +onlyGivenNames x3
    generalize x3 = y4 at *
    extract_lets +onlyGivenNames x5
    generalize x5 = y6 at *
    extract_lets +onlyGivenNames x7
    generalize x7 = y8 at *
    extract_lets +onlyGivenNames x9
    generalize x9 = y10 at *
    extract_lets +onlyGivenNames x11
    refine Keep.cutP (x := x11) ?_ (fun h12 => ?_)
    · unfold x11
      clear x11
      refine KeepP.ite ?_ ?_
      · exact KeepP.of (Keep.step (State.exportWrite_keep ..) h0 rfl)
      · refine KeepP.ite ?_ ?_
        · exact KeepP.of (Keep.step (State.exportWrite_keep ..) h0 rfl)
        · exact KeepP.of (Keep.step (State.exportWrite_keep ..) h0 rfl)
    generalize x11 = y13 at *
    extract_lets +onlyGivenNames x14
    generalize x14 = y15 at *
    extract_lets +onlyGivenNames x16
    refine Keep.cut (x := x16) (Keep.step (State.setExp_keep ..) (Keep.step (State.draw_keep ..) h12 rfl) rfl) (fun h17 => ?_)
    generalize x16 = y18 at *
    exact (Keep.step (State.stgSettle_keep ..) (Keep.wr .recd h17 rfl rfl) rfl)

theorem State.exportBegin_keep (s : State) (g : Seg) : Keep 0x5014004400702804 s (State.exportBegin s g) := by
  have h0 := Keep.refl 0x5014004400702804 s
  unfold State.exportBegin
  extract_lets +onlyGivenNames x1
  generalize x1 = y2 at *
  extract_lets +onlyGivenNames x3
  generalize x3 = y4 at *
  extract_lets +onlyGivenNames x5
  generalize x5 = y6 at *
  extract_lets +onlyGivenNames x7
  generalize x7 = y8 at *
  exact (Keep.step (State.exportStep_keep ..) h0 rfl)

theorem execSegmentExportStart_gives (s : State) : Gives 0x5054004400742804 s (execSegmentExportStart s) := by
  have h0 := Keep.refl 0x5054004400742804 s
  unfold execSegmentExportStart
  refine Gives.ite ?_ ?_
  · exact Gives.ok h0
  · split
    · exact Gives.ok h0
    · exact Gives.ok (Keep.step (State.exportBegin_keep ..) (Keep.step (State.bulkTouch_keep ..) h0 rfl) rfl)

theorem State.exportDone_keep (s : State) (g : Seg) (x : Export) : Keep 0x5004004400140804 s (State.exportDone s g x) := by
  have h0 := Keep.refl 0x5004004400140804 s
  unfold State.exportDone
  extract_lets +onlyGivenNames x1
  generalize x1 = y2 at *
  extract_lets +onlyGivenNames x3
  generalize x3 = y4 at *
  extract_lets +onlyGivenNames x5
  generalize x5 = y6 at *
  extract_lets +onlyGivenNames x7
  generalize x7 = y8 at *
  extract_lets +onlyGivenNames x9
  generalize x9 = y10 at *
  extract_lets +onlyGivenNames x11
  generalize x11 = y12 at *
  extract_lets +onlyGivenNames x13
  generalize x13 = y14 at *
  extract_lets +onlyGivenNames x15
  refine Keep.cut (x := x15) (Keep.recd h0 _ rfl) (fun h16 => ?_)
  generalize x15 = y17 at *
  extract_lets +onlyGivenNames x18
  refine Keep.cut (x := x18) (Keep.ite h16 (Keep.step (State.raise_keep ..) (Keep.count .recd h16 rfl rfl) rfl)) (fun h19 => ?_)
  generalize x18 = y20 at *
  extract_lets +onlyGivenNames x21
  refine Keep.cut (x := x21) (Keep.wr .recd (Keep.wr .recd h19 rfl rfl) rfl rfl) (fun h22 => ?_)
  generalize x21 = y23 at *
  extract_lets +onlyGivenNames x24
  refine Keep.cut (x := x24) (Keep.step (State.mramStore_keep ..) (Keep.step (State.mramStore_keep ..) h22 rfl) rfl) (fun h25 => ?_)
  generalize x24 = y26 at *
  exact (Keep.step (State.raise_keep ..) (Keep.step (State.cal_keep ..) (Keep.step (State.showPending_keep ..) h25 rfl) rfl) rfl)

theorem execSegmentExportStepDone_gives (s : State) : Gives 0x5014004400742804 s (execSegmentExportStepDone s) := by
  have h0 := Keep.refl 0x5014004400742804 s
  unfold execSegmentExportStepDone
  split
  · exact Gives.ok h0
  · split
    · refine Gives.ite ?_ ?_
      · exact Gives.ok (Keep.step (State.exportFail_keep ..) h0 rfl)
      · refine Gives.ite ?_ ?_
        · exact Gives.ok (Keep.step (State.exportStep_keep ..) h0 rfl)
        · exact Gives.ok (Keep.step (State.exportDone_keep ..) h0 rfl)
    · exact Gives.ok h0

theorem execSegmentExportRetry_gives (s : State) : Gives 0xd014004c00702804 s (execSegmentExportRetry s) := by
  have h0 := Keep.refl 0xd014004c00702804 s
  unfold execSegmentExportRetry
  split
  · exact Gives.ok h0
  · refine Gives.ite ?_ ?_
    · exact Gives.ok h0
    · split
      · exact Gives.ok h0
      · extract_lets +onlyGivenNames x1
        refine Gives.cut (x := x1) (Keep.step (State.advanceTo_keep ..) h0 rfl) (fun h2 => ?_)
        generalize x1 = y3 at *
        exact Gives.ok (Keep.step (State.exportBegin_keep ..) (Keep.recd h2 _ rfl) rfl)

end Sys2Proof.Machine
end

