-- ==== Sys2Proof/Laws/KeepStage.lean ====
section
/-!
SUPPORT. What each operation and each command of Machine/Stage.lean can do to the state: the zones and parts it stays within.
-/
namespace Sys2Proof.Machine

theorem State.setStage_keep (s : State) (b : Blk) (x : StageSt) : Keep 0x20000000 s (State.setStage s b x) := by
  have h0 := Keep.refl 0x20000000 s
  unfold State.setStage
  exact (Keep.stage h0 _ rfl)

theorem State.endStage_keep (s : State) (b : Blk) (result : Nat) (st : Nat) : Keep 0x207fffff s (State.endStage s b result st) := by
  have h0 := Keep.refl 0x207fffff s
  unfold State.endStage
  extract_lets +onlyGivenNames x1
  refine Keep.cut (x := x1) (Keep.wrAny (Keep.wrAny h0 rfl) rfl) (fun h2 => ?_)
  generalize x1 = y3 at *
  exact (Keep.ite (Keep.step (State.setStage_keep ..) (Keep.wrAny h2 rfl) rfl) h2)

theorem State.freeMark_keep (s : State) (b : Blk) : Keep 0x40000000 s (State.freeMark s b) := by
  have h0 := Keep.refl 0x40000000 s
  unfold State.freeMark
  exact (Keep.markOwner h0 _ rfl)

theorem State.abortStage_keep (s : State) (b : Blk) : Keep 0x607fffff s (State.abortStage s b) := by
  have h0 := Keep.refl 0x607fffff s
  unfold State.abortStage
  exact (Keep.step (State.endStage_keep ..) (Keep.step (State.freeMark_keep ..) h0 rfl) rfl)

theorem State.stageTold_keep (s : State) (b : Blk) (result : Nat) (grain : Option Nat) : Keep 0x400100004 s (State.stageTold s b result grain) := by
  have h0 := Keep.refl 0x400100004 s
  unfold State.stageTold
  exact (Keep.step (State.raise_keep ..) h0 rfl)

theorem State.forceAbort_keep (s : State) (owner : Nat → Bool) : Keep 0x4607fffff s (State.forceAbort s owner) := by
  have h0 := Keep.refl 0x4607fffff s
  unfold State.forceAbort
  refine Keep.forEach ?_ (fun a2 u1 => ?_)
  · exact h0
  have h3 := Keep.refl 0x4607fffff u1
  exact (Keep.step (State.stageTold_keep ..) (Keep.step (State.abortStage_keep ..) h3 rfl) rfl)

end Sys2Proof.Machine
end

