-- ==== Sys2Proof/Laws/KeepCores.lean ====
section
/-!
SUPPORT. What each operation and each command of Machine/Cores.lean can do to the state: the zones and parts it stays within.
-/
namespace Sys2Proof.Machine

theorem State.setPart_keep (s : State) (p : Nat) (x : PartSt) : Keep 0x800000000000000 s (State.setPart s p x) := by
  have h0 := Keep.refl 0x800000000000000 s
  unfold State.setPart
  exact (Keep.bootRest h0 rfl rfl ⟨rfl, rfl, rfl⟩ rfl)

theorem State.setCore_keep (s : State) (k : Nat) (c : Nat) (v : Nat) : Keep 0x400110004 s (State.setCore s k c v) := by
  have h0 := Keep.refl 0x400110004 s
  unfold State.setCore
  exact (Keep.ite h0 (Keep.step (State.raise_keep ..) (Keep.wr .cpu h0 rfl rfl) rfl))

theorem State.showParts_keep (s : State) (k : Nat) : Keep 0x80000 s (State.showParts s k) := by
  have h0 := Keep.refl 0x80000 s
  unfold State.showParts
  refine Keep.forEach ?_ (fun a2 u1 => ?_)
  · exact h0
  have h3 := Keep.refl 0x80000 u1
  extract_lets +onlyGivenNames x4
  generalize x4 = y5 at *
  exact (Keep.wr .boot h3 rfl rfl)

theorem State.coldLoad_keep (s : State) (p : Nat) : Keep 0x8000000000 s (State.coldLoad s p) := by
  have h0 := Keep.refl 0x8000000000 s
  unfold State.coldLoad
  exact (Keep.step (State.rtWrite_keep ..) h0 rfl)

theorem State.stopThreads_keep (s : State) (k : Nat) (g : Nat) (c : Nat) : Keep 0x200000010000 s (State.stopThreads s k g c) := by
  have h0 := Keep.refl 0x200000010000 s
  unfold State.stopThreads
  extract_lets +onlyGivenNames x1
  refine Keep.cut (x := x1) (Keep.wr .cpu h0 rfl rfl) (fun h2 => ?_)
  generalize x1 = y3 at *
  extract_lets +onlyGivenNames x4
  refine Keep.cut (x := x4) (Keep.step (State.abortHolders_keep ..) h2 rfl) (fun h5 => ?_)
  generalize x4 = y6 at *
  exact (Keep.cpu h5 _ rfl)

theorem State.warmStart_keep (s : State) (k : Nat) (g : Nat) (c : Nat) : Keep 0x8400190004 s (State.warmStart s k g c) := by
  have h0 := Keep.refl 0x8400190004 s
  unfold State.warmStart
  extract_lets +onlyGivenNames x1
  generalize x1 = y2 at *
  extract_lets +onlyGivenNames x3
  refine Keep.cut (x := x3) ?_ (fun h4 => ?_)
  · unfold x3
    clear x3
    refine Keep.forEach ?_ (fun a6 u5 => ?_)
    · exact h0
    have h7 := Keep.refl 0x8400190004 u5
    exact (Keep.ite (Keep.step (State.coldLoad_keep ..) h7 rfl) h7)
  generalize x3 = y8 at *
  extract_lets +onlyGivenNames x9
  refine Keep.cut (x := x9) (Keep.wr .cpu (Keep.wr .cpu h4 rfl rfl) rfl rfl) (fun h10 => ?_)
  generalize x9 = y11 at *
  extract_lets +onlyGivenNames x12
  refine Keep.cut (x := x12) (Keep.step (State.setCore_keep ..) h10 rfl) (fun h13 => ?_)
  generalize x12 = y14 at *
  refine Keep.step (State.showParts_keep ..) ?_ rfl
  refine Keep.forEach ?_ (fun a16 u15 => ?_)
  · exact h13
  have h17 := Keep.refl 0x8400190004 u15
  exact (Keep.step (State.raise_keep ..) h17 rfl)

theorem State.retireCore_keep (s : State) (k : Nat) (c : Nat) : Keep 0x208400190004 s (State.retireCore s k c) := by
  have h0 := Keep.refl 0x208400190004 s
  unfold State.retireCore
  extract_lets +onlyGivenNames x1
  generalize x1 = y2 at *
  split
  · exact h0
  · refine Keep.ite (Keep.ite (Keep.step (State.raise_keep ..) h0 rfl) h0) ?_
    extract_lets +onlyGivenNames x3
    refine Keep.cut (x := x3) (Keep.step (State.setCore_keep ..) (Keep.step (State.stopThreads_keep ..) h0 rfl) rfl) (fun h4 => ?_)
    generalize x3 = y5 at *
    extract_lets +onlyGivenNames x6
    generalize x6 = y7 at *
    extract_lets +onlyGivenNames x8
    refine Keep.cut (x := x8) (Keep.wr .cpu (Keep.wr .cpu h4 rfl rfl) rfl rfl) (fun h9 => ?_)
    generalize x8 = y10 at *
    exact (Keep.step (State.warmStart_keep ..) (Keep.count .cpu h9 rfl rfl) rfl)

theorem State.autoRestart_keep (s : State) (k : Nat) (g : Nat) (c : Nat) : Keep 0x208400190004 s (State.autoRestart s k g c) := by
  have h0 := Keep.refl 0x208400190004 s
  unfold State.autoRestart
  exact (Keep.ite h0 (Keep.step (State.warmStart_keep ..) (Keep.cpu h0 _ rfl) rfl))

theorem State.coreFault_keep (s : State) (k : Nat) (c : Nat) (fcode : Nat) (thread : Nat) (pc : Nat) : Keep 0x2084607fffff s (State.coreFault s k c fcode thread pc) := by
  have h0 := Keep.refl 0x2084607fffff s
  unfold State.coreFault
  split
  · exact h0
  · extract_lets +onlyGivenNames x1
    refine Keep.cut (x := x1) (Keep.wr64 .cpu (Keep.wr .cpu (Keep.wr .cpu h0 rfl rfl) rfl rfl) rfl rfl) (fun h2 => ?_)
    generalize x1 = y3 at *
    extract_lets +onlyGivenNames x4
    refine Keep.cut (x := x4) (Keep.step (State.raise_keep ..) (Keep.count .cpu h2 rfl rfl) rfl) (fun h5 => ?_)
    generalize x4 = y6 at *
    extract_lets +onlyGivenNames x7
    refine Keep.cut (x := x7) (Keep.step (State.showParts_keep ..) (Keep.step (State.forceAbort_keep ..) (Keep.step (State.stopThreads_keep ..) (Keep.step (State.setCore_keep ..) h5 rfl) rfl) rfl) rfl) (fun h8 => ?_)
    generalize x7 = y9 at *
    split
    · exact (Keep.step (State.autoRestart_keep ..) h8 rfl)
    · exact (Keep.step (State.autoRestart_keep ..) h8 rfl)
    · exact (Keep.step (State.retireCore_keep ..) h8 rfl)
    · exact (Keep.step (State.retireCore_keep ..) h8 rfl)
    · exact h8

theorem execCoreFault_gives (k : Nat) (c : Nat) (fcode : Nat) (t : Nat) (pc : Nat) (s : State) : Gives 0x2084607fffff s (execCoreFault k c fcode t pc s) := by
  have h0 := Keep.refl 0x2084607fffff s
  unfold execCoreFault
  refine Gives.ite ?_ ?_
  · exact Gives.ok (Keep.step (State.coreFault_keep ..) h0 rfl)
  · exact Gives.ok h0

theorem execCoreWatchdogExpire_gives (k : Nat) (c : Nat) (t : Nat) (pc : Nat) (since : Nat) (s : State) : Gives 0x8000208c607fffff s (execCoreWatchdogExpire k c t pc since s) := by
  have h0 := Keep.refl 0x8000208c607fffff s
  unfold execCoreWatchdogExpire
  refine Gives.ite ?_ ?_
  · exact Gives.ok (Keep.step (State.coreFault_keep ..) (Keep.step (State.advanceTo_keep ..) h0 rfl) rfl)
  · exact Gives.ok h0

theorem execCoreRestart_gives (who : Nat) (k : Nat) (c : Nat) (s : State) : Gives 0x1000008400390005 s (execCoreRestart who k c s) := by
  have h0 := Keep.refl 0x1000008400390005 s
  unfold execCoreRestart
  refine Gives.ite ?_ ?_
  · exact Gives.ok (Keep.step (State.refuseWrite_keep ..) h0 rfl)
  · unfold State.clusterCmd
    refine Gives.ite ?_ ?_
    · exact Gives.ok h0
    · refine Gives.ite ?_ ?_
      · exact Gives.ok (Keep.step (State.bad_keep ..) h0 rfl)
      · refine Gives.ok ?_
        dsimp -zeta only
        split
        · exact (Keep.ite (Keep.step (State.warmStart_keep ..) (Keep.wr .cpu h0 rfl rfl) rfl) (Keep.wr .cpu h0 rfl rfl))
        · exact (Keep.wr .cpu h0 rfl rfl)

theorem execCoreRetire_gives (who : Nat) (k : Nat) (c : Nat) (s : State) : Gives 0x1000208400390005 s (execCoreRetire who k c s) := by
  have h0 := Keep.refl 0x1000208400390005 s
  unfold execCoreRetire
  refine Gives.ite ?_ ?_
  · exact Gives.ok (Keep.step (State.refuseWrite_keep ..) h0 rfl)
  · unfold State.clusterCmd
    refine Gives.ite ?_ ?_
    · exact Gives.ok h0
    · refine Gives.ite ?_ ?_
      · exact Gives.ok (Keep.step (State.bad_keep ..) h0 rfl)
      · exact Gives.ok (Keep.ite (Keep.step (State.retireCore_keep ..) (Keep.wr .cpu h0 rfl rfl) rfl) (Keep.wr .cpu h0 rfl rfl))

theorem execCoreRestore_gives (k : Nat) (c : Nat) (s : State) : Gives 0x400110004 s (execCoreRestore k c s) := by
  have h0 := Keep.refl 0x400110004 s
  unfold execCoreRestore
  refine Gives.ite ?_ ?_
  · exact Gives.ok h0
  · extract_lets +onlyGivenNames x1
    refine Gives.cut (x := x1) (Keep.wr .cpu h0 rfl rfl) (fun h2 => ?_)
    generalize x1 = y3 at *
    refine Gives.ite ?_ ?_
    · exact Gives.ok (Keep.step (State.setCore_keep ..) h2 rfl)
    · exact Gives.ok h2

theorem execCoreSelfTestDone_gives (k : Nat) (c : Nat) (pass : Bool) (s : State) : Gives 0x400110004 s (execCoreSelfTestDone k c pass s) := by
  have h0 := Keep.refl 0x400110004 s
  unfold execCoreSelfTestDone
  refine Gives.ite ?_ ?_
  · exact Gives.ok h0
  · refine Gives.ite ?_ ?_
    · exact Gives.ok (Keep.wr .cpu (Keep.step (State.setCore_keep ..) h0 rfl) rfl rfl)
    · exact Gives.ok (Keep.step (State.setCore_keep ..) h0 rfl)

theorem execClusterReload_gives (who : Nat) (k : Nat) (s : State) : Gives 0x10002004607fffff s (execClusterReload who k s) := by
  have h0 := Keep.refl 0x10002004607fffff s
  unfold execClusterReload
  refine Gives.ite ?_ ?_
  · exact Gives.ok (Keep.step (State.refuseWrite_keep ..) h0 rfl)
  · refine Gives.ite ?_ ?_
    · exact Gives.ok h0
    · refine Gives.ite ?_ ?_
      · exact Gives.ok (Keep.step (State.bad_keep ..) h0 rfl)
      · refine Gives.ite ?_ ?_
        · exact Gives.ok h0
        · extract_lets +onlyGivenNames x1
          refine Gives.cut (x := x1) (Keep.wr .cpu (Keep.count .cpu h0 rfl rfl) rfl rfl) (fun h2 => ?_)
          generalize x1 = y3 at *
          extract_lets +onlyGivenNames x4
          refine Gives.cut (x := x4) ?_ (fun h5 => ?_)
          · unfold x4
            clear x4
            refine Keep.forEach ?_ (fun a7 u6 => ?_)
            · exact h2
            have h8 := Keep.refl 0x10002004607fffff u6
            exact (Keep.wr .cpu (Keep.step (State.stopThreads_keep ..) (Keep.step (State.setCore_keep ..) h8 rfl) rfl) rfl rfl)
          generalize x4 = y9 at *
          exact Gives.ok (Keep.step (State.showParts_keep ..) (Keep.step (State.forceAbort_keep ..) h5 rfl) rfl)

theorem execClusterReloadDone_gives (k : Nat) (s : State) : Gives 0x8400190004 s (execClusterReloadDone k s) := by
  have h0 := Keep.refl 0x8400190004 s
  unfold execClusterReloadDone
  refine Gives.ite ?_ ?_
  · exact Gives.ok h0
  · extract_lets +onlyGivenNames x1
    refine Gives.cut (x := x1) ?_ (fun h2 => ?_)
    · unfold x1
      clear x1
      refine Keep.forEach ?_ (fun a4 u3 => ?_)
      · exact h0
      have h5 := Keep.refl 0x8400190004 u3
      exact (Keep.step (State.coldLoad_keep ..) h5 rfl)
    generalize x1 = y6 at *
    extract_lets +onlyGivenNames x7
    refine Gives.cut (x := x7) (Keep.wr .cpu h2 rfl rfl) (fun h8 => ?_)
    generalize x7 = y9 at *
    extract_lets +onlyGivenNames x10
    refine Gives.cut (x := x10) ?_ (fun h11 => ?_)
    · unfold x10
      clear x10
      refine Keep.forEach ?_ (fun a13 u12 => ?_)
      · exact h8
      have h14 := Keep.refl 0x8400190004 u12
      exact (Keep.step (State.warmStart_keep ..) h14 rfl)
    generalize x10 = y15 at *
    exact Gives.ok (Keep.step (State.raise_keep ..) h11 rfl)

theorem execCoreDeadlock_gives (k : Nat) (c : Nat) (t : Nat) (pc : Nat) (since : Nat) (s : State) : Gives 0x8000208c607fffff s (execCoreDeadlock k c t pc since s) := by
  have h0 := Keep.refl 0x8000208c607fffff s
  unfold execCoreDeadlock
  split
  · exact Gives.ok h0
  · refine Gives.ite ?_ ?_
    · exact Gives.ok h0
    · extract_lets +onlyGivenNames x1
      refine Gives.cut (x := x1) (Keep.step (State.advanceTo_keep ..) h0 rfl) (fun h2 => ?_)
      generalize x1 = y3 at *
      extract_lets +onlyGivenNames x4
      refine Gives.cut (x := x4) (Keep.wr .cpu h2 rfl rfl) (fun h5 => ?_)
      generalize x4 = y6 at *
      extract_lets +onlyGivenNames x7
      refine Gives.cut (x := x7) (Keep.step (State.raise_keep ..) (Keep.count .cpu h5 rfl rfl) rfl) (fun h8 => ?_)
      generalize x7 = y9 at *
      refine Gives.ite ?_ ?_
      · exact Gives.ok (Keep.step (State.coreFault_keep ..) h8 rfl)
      · exact Gives.ok h8

theorem State.fwComplete_keep (s : State) (a : Nat) (q0 : Nat) (status : Nat) (detail : Nat) : Keep 0x8000000000 s (State.fwComplete s a q0 status detail) := by
  have h0 := Keep.refl 0x8000000000 s
  unfold State.fwComplete
  extract_lets +onlyGivenNames x1
  generalize x1 = y2 at *
  exact (Keep.step (State.rtWrite_keep ..) (Keep.step (State.rtWrite_keep ..) h0 rfl) rfl)

theorem State.fwTakeOne_keep (s : State) (k : Nat) (tail : Nat) : Keep 0x1000308400108004 s (State.fwTakeOne s k tail).1 := by
  have h0 := Keep.refl 0x1000308400108004 s
  show KeepP 0x1000308400108004 s (State.fwTakeOne s k tail)
  unfold State.fwTakeOne
  extract_lets +onlyGivenNames x1
  generalize x1 = y2 at *
  refine KeepP.ite ?_ ?_
  · exact KeepP.mk h0
  · extract_lets +onlyGivenNames x3
    generalize x3 = y4 at *
    extract_lets +onlyGivenNames x5
    generalize x5 = y6 at *
    refine KeepP.ite ?_ ?_
    · exact KeepP.mk h0
    · extract_lets +onlyGivenNames x7
      generalize x7 = y8 at *
      extract_lets +onlyGivenNames x9
      refine KeepP.cut (x := x9) (Keep.cpu h0 _ rfl) (fun h10 => ?_)
      generalize x9 = y11 at *
      extract_lets +onlyGivenNames x12
      generalize x12 = y13 at *
      extract_lets +onlyGivenNames x14
      generalize x14 = y15 at *
      refine KeepP.ite ?_ ?_
      · exact KeepP.mk (Keep.step (State.fwComplete_keep ..) h10 rfl)
      · extract_lets +onlyGivenNames x16
        generalize x16 = y17 at *
        extract_lets +onlyGivenNames x18
        generalize x18 = y19 at *
        extract_lets +onlyGivenNames x20
        refine KeepP.cut (x := x20) (Keep.step (State.schEnqueue_keep ..) h10 rfl) (fun h21 => ?_)
        generalize x20 = y22 at *
        exact KeepP.mk (Keep.step (State.fwComplete_keep ..) h21 rfl)

theorem State.fwTake_keep (s : State) (k : Nat) (tail : Nat) (y3 : Nat) : Keep 0x1000308400108004 s (State.fwTake s k tail y3) := by
  induction y3 generalizing s k tail
  · have h0 := Keep.refl 0x1000308400108004 s
    unfold State.fwTake
    exact h0
  · rename_i y3 ih
    have h0 := Keep.refl 0x1000308400108004 s
    unfold State.fwTake
    extract_lets +onlyGivenNames x1
    refine Keep.cutP (x := x1) ?_ (fun h2 => ?_)
    · unfold x1
      clear x1
      exact KeepP.of (Keep.step (State.fwTakeOne_keep ..) h0 rfl)
    generalize x1 = y3 at *
    exact (Keep.ite (Keep.step (ih ..) h2 rfl) h2)

theorem execFwTxDoorbell_gives (k : Nat) (val : Word) (s : State) : Gives 0x1000308400118004 s (execFwTxDoorbell k val s) := by
  have h0 := Keep.refl 0x1000308400118004 s
  unfold execFwTxDoorbell
  refine Gives.ite ?_ ?_
  · exact Gives.ok h0
  · extract_lets +onlyGivenNames x1
    refine Gives.cut (x := x1) (Keep.wr .cpu h0 rfl rfl) (fun h2 => ?_)
    generalize x1 = y3 at *
    extract_lets +onlyGivenNames x4
    generalize x4 = y5 at *
    refine Gives.ite ?_ ?_
    · exact Gives.ok h2
    · exact Gives.ok (Keep.step (State.fwTake_keep ..) h2 rfl)

end Sys2Proof.Machine
end

