-- ==== Sys2Proof/Laws/KeepIngest.lean ====
section
/-!
SUPPORT. What each operation and each command of Machine/Ingest.lean can do to the state: the zones and parts it stays within.
-/
namespace Sys2Proof.Machine

theorem State.setSub_keep (s : State) (i : Nat) (x : SubSt) : Keep 0x400000000000 s (State.setSub s i x) := by
  have h0 := Keep.refl 0x400000000000 s
  unfold State.setSub
  exact (Keep.svi h0 _ rfl)

theorem State.showSubs_keep (s : State) : Keep 0x80 s (State.showSubs s) := by
  have h0 := Keep.refl 0x80 s
  unfold State.showSubs
  extract_lets +onlyGivenNames x1
  generalize x1 = y2 at *
  exact (Keep.wr .svi (Keep.wr .svi (Keep.wr .svi (Keep.wr .svi h0 rfl rfl) rfl rfl) rfl rfl) rfl rfl)

theorem State.setSubState_keep (s : State) (i : Nat) (v : Nat) : Keep 0x400100084 s (State.setSubState s i v) := by
  have h0 := Keep.refl 0x400100084 s
  unfold State.setSubState
  extract_lets +onlyGivenNames x1
  generalize x1 = y2 at *
  exact (Keep.ite h0 (Keep.step (State.raise_keep ..) (Keep.step (State.showSubs_keep ..) (Keep.wr .svi h0 rfl rfl) rfl) rfl))

theorem State.idleSub_keep (s : State) (i : Nat) : Keep 0x400400100084 s (State.idleSub s i) := by
  have h0 := Keep.refl 0x400400100084 s
  unfold State.idleSub
  extract_lets +onlyGivenNames x1
  generalize x1 = y2 at *
  exact (Keep.step (State.setSubState_keep ..) (Keep.wr .svi (Keep.wr .svi (Keep.step (State.setSub_keep ..) h0 rfl) rfl rfl) rfl rfl) rfl)

theorem State.startSub_keep (s : State) (i : Nat) (c : Nat) : Keep 0x400400100084 s (State.startSub s i c) := by
  have h0 := Keep.refl 0x400400100084 s
  unfold State.startSub
  extract_lets +onlyGivenNames x1
  generalize x1 = y2 at *
  extract_lets +onlyGivenNames x3
  refine Keep.cut (x := x3) (Keep.step (State.setSub_keep ..) h0 rfl) (fun h4 => ?_)
  generalize x3 = y5 at *
  exact (Keep.step (State.setSubState_keep ..) (Keep.wr .svi h4 rfl rfl) rfl)

theorem State.subAdvance_keep (s : State) (i : Nat) (next : Bool) (lost : Bool) (sync : Bool) : Keep 0x400400100084 s (State.subAdvance s i next lost sync) := by
  have h0 := Keep.refl 0x400400100084 s
  unfold State.subAdvance
  extract_lets +onlyGivenNames x1
  generalize x1 = y2 at *
  extract_lets +onlyGivenNames x3
  generalize x3 = y4 at *
  split
  · refine Keep.ite ?_ (Keep.step (State.setSub_keep ..) h0 rfl)
    extract_lets +onlyGivenNames x5
    refine Keep.cut (x := x5) (Keep.step (State.setSub_keep ..) h0 rfl) (fun h6 => ?_)
    generalize x5 = y7 at *
    exact (Keep.ite (Keep.step (State.setSubState_keep ..) h6 rfl) h6)
  · exact (Keep.ite (Keep.step (State.setSubState_keep ..) (Keep.step (State.setSub_keep ..) h0 rfl) rfl) h0)
  · refine Keep.ite (Keep.step (State.setSub_keep ..) h0 rfl) ?_
    refine Keep.ite ?_ h0
    extract_lets +onlyGivenNames x8
    refine Keep.cut (x := x8) (Keep.step (State.setSub_keep ..) h0 rfl) (fun h9 => ?_)
    generalize x8 = y10 at *
    exact (Keep.ite (Keep.step (State.setSubState_keep ..) h9 rfl) h9)
  · exact h0

theorem State.takeAsdu_keep (s : State) (i : Nat) (c : Nat) (sync : Bool) (first : Bool) : Keep 0x400400100084 s (State.takeAsdu s i c sync first).1 := by
  have h0 := Keep.refl 0x400400100084 s
  show KeepP 0x400400100084 s (State.takeAsdu s i c sync first)
  unfold State.takeAsdu
  refine KeepP.ite ?_ ?_
  · exact KeepP.mk (Keep.step (State.startSub_keep ..) h0 rfl)
  · extract_lets +onlyGivenNames x1
    generalize x1 = y2 at *
    extract_lets +onlyGivenNames x3
    generalize x3 = y4 at *
    split
    · exact KeepP.mk (Keep.bump .svi h0 rfl rfl)
    · exact KeepP.mk (Keep.bump .svi h0 rfl rfl)
    · extract_lets +onlyGivenNames x5
      generalize x5 = y6 at *
      extract_lets +onlyGivenNames x7
      refine KeepP.cut (x := x7) (Keep.bump .svi (Keep.wr .svi (Keep.step (State.setSub_keep ..) h0 rfl) rfl rfl) rfl rfl) (fun h8 => ?_)
      generalize x7 = y9 at *
      extract_lets +onlyGivenNames x10
      refine KeepP.cut (x := x10) (Keep.ite (Keep.bump .svi h8 rfl rfl) h8) (fun h11 => ?_)
      generalize x10 = y12 at *
      exact KeepP.mk (Keep.step (State.subAdvance_keep ..) h11 rfl)

theorem State.takeAsdus_keep (s : State) (i : Nat) (sync : Bool) (y3 : List Asdu) (y4 : Nat) (y5 : Bool) : Keep 0x400400100084 s (State.takeAsdus s i sync y3 y4 y5).1 := by
  induction y3 generalizing s i sync y4 y5
  · have h0 := Keep.refl 0x400400100084 s
    show KeepP _ _ _
    unfold State.takeAsdus
    exact KeepP.mk h0
  · rename_i a0 y3 ih
    have h0 := Keep.refl 0x400400100084 s
    show KeepP _ _ _
    unfold State.takeAsdus
    extract_lets +onlyGivenNames x1
    refine KeepP.cutP (x := x1) ?_ (fun h2 => ?_)
    · unfold x1
      clear x1
      exact KeepP.of (Keep.step (State.takeAsdu_keep ..) h0 rfl)
    generalize x1 = y3 at *
    extract_lets +onlyGivenNames x4
    refine KeepP.cutP (x := x4) ?_ (fun h5 => ?_)
    · unfold x4
      clear x4
      exact KeepP.of (Keep.step (ih ..) h2 rfl)
    generalize x4 = y6 at *
    exact KeepP.mk h5

theorem State.noteAsdu_keep (s : State) (i : Nat) (a : Asdu) : Keep 0x400400100084 s (State.noteAsdu s i a) := by
  have h0 := Keep.refl 0x400400100084 s
  unfold State.noteAsdu
  extract_lets +onlyGivenNames x1
  generalize x1 = y2 at *
  extract_lets +onlyGivenNames x3
  generalize x3 = y4 at *
  extract_lets +onlyGivenNames x5
  refine Keep.cut (x := x5) (Keep.ite (Keep.step (State.raise_keep ..) h0 rfl) h0) (fun h6 => ?_)
  generalize x5 = y7 at *
  extract_lets +onlyGivenNames x8
  generalize x8 = y9 at *
  extract_lets +onlyGivenNames x10
  refine Keep.cut (x := x10) (Keep.wr .svi (Keep.step (State.setSub_keep ..) h6 rfl) rfl rfl) (fun h11 => ?_)
  generalize x10 = y12 at *
  split
  · exact h11
  · extract_lets +onlyGivenNames x13
    refine Keep.cut (x := x13) ?_ (fun h14 => ?_)
    · unfold x13
      clear x13
      split
      · exact (Keep.ite h11 (Keep.step (State.raise_keep ..) h11 rfl))
      · exact h11
    generalize x13 = y15 at *
    exact (Keep.step (State.setSub_keep ..) h14 rfl)

theorem State.sequence_keep (s : State) (i : Nat) (f : RxFrame) (l : List Asdu) (auth : Bool) (sim : Bool) : Keep 0x1000400400100084 s (State.sequence s i f l auth sim) := by
  have h0 := Keep.refl 0x1000400400100084 s
  unfold State.sequence
  extract_lets +onlyGivenNames x1
  generalize x1 = y2 at *
  extract_lets +onlyGivenNames x3
  generalize x3 = y4 at *
  extract_lets +onlyGivenNames x5
  generalize x5 = y6 at *
  extract_lets +onlyGivenNames x7
  generalize x7 = y8 at *
  extract_lets +onlyGivenNames x9
  generalize x9 = y10 at *
  extract_lets +onlyGivenNames x11
  generalize x11 = y12 at *
  extract_lets +onlyGivenNames x13
  generalize x13 = y14 at *
  extract_lets +onlyGivenNames x15
  refine Keep.cut (x := x15) (Keep.step (State.setSub_keep ..) h0 rfl) (fun h16 => ?_)
  generalize x15 = y17 at *
  extract_lets +onlyGivenNames x18
  generalize x18 = y19 at *
  extract_lets +onlyGivenNames x20
  refine Keep.cut (x := x20) (Keep.ite (Keep.step (State.raise_keep ..) (Keep.bump .svi h16 rfl rfl) rfl) h16) (fun h21 => ?_)
  generalize x20 = y22 at *
  extract_lets +onlyGivenNames x23
  generalize x23 = y24 at *
  extract_lets +onlyGivenNames x25
  refine Keep.cutP (x := x25) ?_ (fun h26 => ?_)
  · unfold x25
    clear x25
    exact KeepP.of (Keep.step (State.takeAsdus_keep ..) h21 rfl)
  generalize x25 = y27 at *
  refine Keep.ite h26 ?_
  extract_lets +onlyGivenNames x28
  generalize x28 = y29 at *
  extract_lets +onlyGivenNames x30
  refine Keep.cut (x := x30) (Keep.step (State.setSub_keep ..) h26 rfl) (fun h31 => ?_)
  generalize x30 = y32 at *
  extract_lets +onlyGivenNames x33
  refine Keep.cut (x := x33) (Keep.wr .svi (Keep.wr .svi h31 rfl rfl) rfl rfl) (fun h34 => ?_)
  generalize x33 = y35 at *
  extract_lets +onlyGivenNames x36
  refine Keep.cut (x := x36) ?_ (fun h37 => ?_)
  · unfold x36
    clear x36
    refine Keep.forEach ?_ (fun a39 u38 => ?_)
    · exact h34
    have h40 := Keep.refl 0x1000400400100084 u38
    exact (Keep.step (State.noteAsdu_keep ..) h40 rfl)
  generalize x36 = y41 at *
  extract_lets +onlyGivenNames x42
  refine Keep.cut (x := x42) (Keep.wr .svi h37 rfl rfl) (fun h43 => ?_)
  generalize x42 = y44 at *
  extract_lets +onlyGivenNames x45
  generalize x45 = y46 at *
  extract_lets +onlyGivenNames x47
  refine Keep.cut (x := x47) (Keep.step (State.cal_keep ..) (Keep.count .svi h43 rfl rfl) rfl) (fun h48 => ?_)
  generalize x47 = y49 at *
  exact (Keep.svi h48 _ rfl)

theorem State.subChecks_keep (s : State) (i : Nat) (f : RxFrame) (a : App) (p : Nat × List Byte × List Byte) (early : Nat) : Keep 0x1000400400100084 s (State.subChecks s i f a p early) := by
  have h0 := Keep.refl 0x1000400400100084 s
  unfold State.subChecks
  extract_lets +onlyGivenNames x1
  generalize x1 = y2 at *
  extract_lets +onlyGivenNames x3
  generalize x3 = y4 at *
  refine Keep.ite (Keep.count .svi h0 rfl rfl) ?_
  extract_lets +onlyGivenNames x5
  generalize x5 = y6 at *
  extract_lets +onlyGivenNames x7
  generalize x7 = y8 at *
  extract_lets +onlyGivenNames x9
  generalize x9 = y10 at *
  extract_lets +onlyGivenNames x11
  generalize x11 = y12 at *
  refine Keep.ite (Keep.step (State.raise_keep ..) (Keep.bump .svi (Keep.step (State.setSub_keep ..) h0 rfl) rfl rfl) rfl) ?_
  extract_lets +onlyGivenNames x13
  refine Keep.cut (x := x13) (Keep.step (State.setSub_keep ..) h0 rfl) (fun h14 => ?_)
  generalize x13 = y15 at *
  split
  · exact (Keep.step (State.raise_keep ..) (Keep.bump .svi h14 rfl rfl) rfl)
  · extract_lets +onlyGivenNames x16
    refine Keep.cut (x := x16) (Keep.ite (Keep.step (State.cal_keep ..) h14 rfl) h14) (fun h17 => ?_)
    generalize x16 = y18 at *
    extract_lets +onlyGivenNames x19
    generalize x19 = y20 at *
    extract_lets +onlyGivenNames x21
    refine Keep.cut (x := x21) (Keep.count .svi h17 rfl rfl) (fun h22 => ?_)
    generalize x21 = y23 at *
    split
    · exact (Keep.step (State.raise_keep ..) (Keep.bump .svi h22 rfl rfl) rfl)
    · refine Keep.ite (Keep.step (State.raise_keep ..) (Keep.bump .svi h22 rfl rfl) rfl) ?_
      extract_lets +onlyGivenNames x24
      refine Keep.cut (x := x24) (Keep.step (State.cal_keep ..) h22 rfl) (fun h25 => ?_)
      generalize x24 = y26 at *
      split
      · exact (Keep.step (State.raise_keep ..) (Keep.bump .svi h25 rfl rfl) rfl)
      · exact (Keep.step (State.sequence_keep ..) h25 rfl)

theorem State.decodeErr_keep (s : State) (f : RxFrame) : Keep 0x400100084 s (State.decodeErr s f) := by
  have h0 := Keep.refl 0x400100084 s
  unfold State.decodeErr
  exact (Keep.step (State.raise_keep ..) (Keep.count .svi h0 rfl rfl) rfl)

theorem State.ingest_keep (s : State) (f : RxFrame) : Keep 0x1000400400100084 s (State.ingest s f) := by
  have h0 := Keep.refl 0x1000400400100084 s
  unfold State.ingest
  split
  · exact (Keep.step (State.decodeErr_keep ..) h0 rfl)
  · refine Keep.ite (Keep.step (State.decodeErr_keep ..) h0 rfl) ?_
    split
    · exact (Keep.step (State.decodeErr_keep ..) h0 rfl)
    · split
      · extract_lets +onlyGivenNames x1
        generalize x1 = y2 at *
        extract_lets +onlyGivenNames x3
        refine Keep.cut (x := x3) (Keep.count .svi h0 rfl rfl) (fun h4 => ?_)
        generalize x3 = y5 at *
        split
        · exact (Keep.step (State.decodeErr_keep ..) h4 rfl)
        · split
          · exact (Keep.step (State.subChecks_keep ..) h4 rfl)
          · extract_lets +onlyGivenNames x6
            generalize x6 = y7 at *
            extract_lets +onlyGivenNames x8
            refine Keep.cut (x := x8) (Keep.wr .svi (Keep.wr .svi (Keep.count .svi h4 rfl rfl) rfl rfl) rfl rfl) (fun h9 => ?_)
            generalize x8 = y10 at *
            exact (Keep.step (State.raise_keep ..) (Keep.wr .svi (Keep.wr .svi h9 rfl rfl) rfl rfl) rfl)
      · exact (Keep.step (State.decodeErr_keep ..) h0 rfl)

theorem execSvFrameIngest_gives (s : State) : Gives 0x1000440400100484 s (execSvFrameIngest s) := by
  have h0 := Keep.refl 0x1000440400100484 s
  unfold execSvFrameIngest
  split
  · exact Gives.ok h0
  · extract_lets +onlyGivenNames x1
    generalize x1 = y2 at *
    extract_lets +onlyGivenNames x3
    refine Gives.cut (x := x3) (Keep.step (State.showSvFifo_keep ..) (Keep.ppl h0 _ rfl) rfl) (fun h4 => ?_)
    generalize x3 = y5 at *
    refine Gives.ite ?_ ?_
    · exact Gives.ok (Keep.step (State.decodeErr_keep ..) h4 rfl)
    · extract_lets +onlyGivenNames x6
      generalize x6 = y7 at *
      refine Gives.ite ?_ ?_
      · exact Gives.ok (Keep.step (State.raise_keep ..) (Keep.count .svi h4 rfl rfl) rfl)
      · refine Gives.ite ?_ ?_
        · refine Gives.ite ?_ ?_
          · exact Gives.ok (Keep.count .trp h4 rfl rfl)
          · exact Gives.ok (Keep.ppl h4 _ rfl)
        · exact Gives.ok (Keep.step (State.ingest_keep ..) h4 rfl)

theorem execSvLossScan_gives (s : State) : Gives 0x8000000c00100084 s (execSvLossScan s) := by
  have h0 := Keep.refl 0x8000000c00100084 s
  unfold execSvLossScan
  extract_lets +onlyGivenNames x1
  refine Gives.cut (x := x1) (Keep.step (State.advanceTo_keep ..) h0 rfl) (fun h2 => ?_)
  generalize x1 = y3 at *
  extract_lets +onlyGivenNames x4
  generalize x4 = y5 at *
  refine Gives.ok ?_
  refine Keep.forEach ?_ (fun a7 u6 => ?_)
  · exact h2
  have h8 := Keep.refl 0x8000000c00100084 u6
  extract_lets +onlyGivenNames x9
  generalize x9 = y10 at *
  exact (Keep.step (State.setSubState_keep ..) (Keep.bump .svi h8 rfl rfl) rfl)

theorem State.promoteKey_keep (s : State) (k : Nat) : Keep 0x400100084 s (State.promoteKey s k) := by
  have h0 := Keep.refl 0x400100084 s
  unfold State.promoteKey
  refine Keep.ite h0 ?_
  extract_lets +onlyGivenNames x1
  refine Keep.cut (x := x1) ?_ (fun h2 => ?_)
  · unfold x1
    clear x1
    refine Keep.forEach ?_ (fun a4 u3 => ?_)
    · exact h0
    have h5 := Keep.refl 0x400100084 u3
    exact (Keep.wr .svi h5 rfl rfl)
  generalize x1 = y6 at *
  extract_lets +onlyGivenNames x7
  generalize x7 = y8 at *
  extract_lets +onlyGivenNames x9
  refine Keep.cut (x := x9) (Keep.wr .svi (Keep.wr .svi (Keep.wr .svi h2 rfl rfl) rfl rfl) rfl rfl) (fun h10 => ?_)
  generalize x9 = y11 at *
  exact (Keep.step (State.raise_keep ..) h10 rfl)

theorem execKeyPromote_gives (k : Nat) (s : State) : Gives 0x400100084 s (execKeyPromote k s) := by
  have h0 := Keep.refl 0x400100084 s
  unfold execKeyPromote
  refine Gives.ite ?_ ?_
  · exact Gives.ok (Keep.step (State.promoteKey_keep ..) h0 rfl)
  · exact Gives.ok h0

theorem execKeyAutoPromote_gives (k : Nat) (s : State) : Gives 0x8000000c00100084 s (execKeyAutoPromote k s) := by
  have h0 := Keep.refl 0x8000000c00100084 s
  unfold execKeyAutoPromote
  refine Gives.ite ?_ ?_
  · exact Gives.ok h0
  · extract_lets +onlyGivenNames x1
    generalize x1 = y2 at *
    exact Gives.ok (Keep.step (State.promoteKey_keep ..) (Keep.step (State.advanceTo_keep ..) h0 rfl) rfl)

end Sys2Proof.Machine
end

