-- ==== Sys2Proof/Laws/KeepHolding.lean ====
section
/-!
SUPPORT. What each operation and each command of Machine/Holding.lean can do to the state: the zones and parts it stays within.
-/
namespace Sys2Proof.Machine

theorem State.holdLo_keep (s : State) (who : Nat) (lo : Nat) (v : Nat) : Keep 0x1000000 s (State.holdLo s who lo v) := by
  have h0 := Keep.refl 0x1000000 s
  unfold State.holdLo
  exact (Keep.wrHold h0 _ rfl)

theorem State.takeHi_keep (s : State) (who : Nat) (lo : Nat) (hi : Nat) : Keep 0x1000000401100005 s (State.takeHi s who lo hi).1 := by
  have h0 := Keep.refl 0x1000000401100005 s
  show KeepP 0x1000000401100005 s (State.takeHi s who lo hi)
  unfold State.takeHi
  extract_lets +onlyGivenNames x1
  generalize x1 = y2 at *
  refine KeepP.ite ?_ ?_
  · exact KeepP.mk (Keep.wrHold h0 _ rfl)
  · exact KeepP.mk (Keep.step (State.bad_keep ..) h0 rfl)

theorem State.copyHi_keep (s : State) (who : Nat) (lo : Nat) (hi : Nat) : Keep 0x800000 s (State.copyHi s who lo hi) := by
  have h0 := Keep.refl 0x800000 s
  unfold State.copyHi
  exact (Keep.rdHold h0 _ rfl)

theorem State.readHi_keep (s : State) (who : Nat) (lo : Nat) (live : Nat) : Keep 0x800000 s (State.readHi s who lo live).1 := by
  have h0 := Keep.refl 0x800000 s
  show KeepP 0x800000 s (State.readHi s who lo live)
  unfold State.readHi
  extract_lets +onlyGivenNames x1
  generalize x1 = y2 at *
  refine KeepP.ite ?_ ?_
  · exact KeepP.mk (Keep.rdHold h0 _ rfl)
  · exact KeepP.mk h0

end Sys2Proof.Machine
end

