-- ==== Sys2Proof/Laws/KeepMemory.lean ====
section
/-!
SUPPORT. What each operation and each command of Machine/Memory.lean can do to the state: the zones and parts it stays within.
-/
namespace Sys2Proof.Machine

theorem State.setMem_keep (s : State) (m : MemSt) : Keep 0x40000000000000 s (State.setMem s m) := by
  have h0 := Keep.refl 0x40000000000000 s
  unfold State.setMem
  exact (Keep.mem h0 _ rfl)

theorem State.calMem_keep (s : State) (c : Nat) (i : Nat) (n : Nat) : Keep 0x1000000400100004 s (State.calMem s c i n) := by
  have h0 := Keep.refl 0x1000000400100004 s
  unfold State.calMem
  exact (Keep.ite h0 (Keep.step (State.cal_keep ..) h0 rfl))

theorem State.setOwed_keep (s : State) (k : Nat) (v : Int) : Keep 0x40000000000000 s (State.setOwed s k v) := by
  have h0 := Keep.refl 0x40000000000000 s
  unfold State.setOwed
  exact (Keep.step (State.setMem_keep ..) h0 rfl)

theorem State.payRefresh_keep (s : State) (c : Nat) (ch : Nat) (bank : Nat) (n : Nat) : Keep 0x1040000400100004 s (State.payRefresh s c ch bank n) := by
  have h0 := Keep.refl 0x1040000400100004 s
  unfold State.payRefresh
  exact (Keep.step (State.calMem_keep ..) (Keep.step (State.setOwed_keep ..) h0 rfl) rfl)

theorem State.throttle_keep (s : State) (c : Nat) (ch : Nat) (bank : Nat) (req : Nat) : Keep 0x400140004 s (State.throttle s c ch bank req) := by
  have h0 := Keep.refl 0x400140004 s
  unfold State.throttle
  refine Keep.ite h0 ?_
  extract_lets +onlyGivenNames x1
  refine Keep.cut (x := x1) (Keep.wr .mem h0 rfl rfl) (fun h2 => ?_)
  generalize x1 = y3 at *
  exact (Keep.step (State.raise_keep ..) (Keep.count .mem h2 rfl rfl) rfl)

theorem execMemRefreshDue_gives (c : Nat) (ch : Nat) (bank : Nat) (idle : Bool) (rfm : Nat) (hit : List Nat) (s : State) : Gives 0xd040000c00140004 s (execMemRefreshDue c ch bank idle rfm hit s) := by
  have h0 := Keep.refl 0xd040000c00140004 s
  unfold execMemRefreshDue
  refine Gives.ite ?_ ?_
  · exact Gives.ok h0
  · extract_lets +onlyGivenNames x1
    generalize x1 = y2 at *
    extract_lets +onlyGivenNames x3
    refine Gives.cut (x := x3) (Keep.step (State.advanceTo_keep ..) h0 rfl) (fun h4 => ?_)
    generalize x3 = y5 at *
    extract_lets +onlyGivenNames x6
    generalize x6 = y7 at *
    extract_lets +onlyGivenNames x8
    refine Gives.cut (x := x8) (Keep.step (State.setMem_keep ..) h4 rfl) (fun h9 => ?_)
    generalize x8 = y10 at *
    extract_lets +onlyGivenNames x11
    refine Gives.cut (x := x11) (Keep.ite h9 (Keep.count .mem h9 rfl rfl)) (fun h12 => ?_)
    generalize x11 = y13 at *
    extract_lets +onlyGivenNames x14
    refine Gives.cut (x := x14) ?_ (fun h15 => ?_)
    · unfold x14
      clear x14
      refine Keep.forEach ?_ (fun a17 u16 => ?_)
      · exact h12
      have h18 := Keep.refl 0xd040000c00140004 u16
      exact (Keep.step (State.throttle_keep ..) h18 rfl)
    generalize x14 = y19 at *
    extract_lets +onlyGivenNames x20
    generalize x20 = y21 at *
    extract_lets +onlyGivenNames x22
    refine Gives.cut (x := x22) (Keep.step (State.setOwed_keep ..) h15 rfl) (fun h23 => ?_)
    generalize x22 = y24 at *
    extract_lets +onlyGivenNames x25
    generalize x25 = y26 at *
    refine Gives.ite ?_ ?_
    · exact Gives.ok (Keep.step (State.payRefresh_keep ..) (Keep.step (State.draw_keep ..) h23 rfl) rfl)
    · refine Gives.ite ?_ ?_
      · refine Gives.ite ?_ ?_
        · exact Gives.ok h23
        · exact Gives.ok (Keep.step (State.payRefresh_keep ..) (Keep.step (State.draw_keep ..) h23 rfl) rfl)
      · refine Gives.ite ?_ ?_
        · exact Gives.ok h23
        · extract_lets +onlyGivenNames x27
          refine Gives.cut (x := x27) (Keep.step (State.payRefresh_keep ..) (Keep.count .mem h23 rfl rfl) rfl) (fun h28 => ?_)
          generalize x27 = y29 at *
          refine Gives.ite ?_ ?_
          · exact Gives.ok (Keep.step (State.raise_keep ..) (Keep.step (State.setMem_keep ..) h28 rfl) rfl)
          · exact Gives.ok h28

theorem State.updateDone_keep (s : State) (c : Nat) (ch : Nat) : Keep 0x40000400100004 s (State.updateDone s c ch) := by
  have h0 := Keep.refl 0x40000400100004 s
  unfold State.updateDone
  extract_lets +onlyGivenNames x1
  generalize x1 = y2 at *
  extract_lets +onlyGivenNames x3
  generalize x3 = y4 at *
  extract_lets +onlyGivenNames x5
  generalize x5 = y6 at *
  extract_lets +onlyGivenNames x7
  refine Keep.cut (x := x7) (Keep.step (State.setMem_keep ..) h0 rfl) (fun h8 => ?_)
  generalize x7 = y9 at *
  exact (Keep.ite (Keep.step (State.raise_keep ..) h8 rfl) h8)

theorem State.updateDue_keep (s : State) (c : Nat) (ch : Nat) : Keep 0x40000400100004 s (State.updateDue s c ch) := by
  have h0 := Keep.refl 0x40000400100004 s
  unfold State.updateDue
  exact (Keep.ite (Keep.step (State.updateDone_keep ..) h0 rfl) (Keep.ite (Keep.step (State.setMem_keep ..) h0 rfl) h0))

theorem execMemTempRead_gives (temps : List Int) (s : State) : Gives 0x8040000c00140004 s (execMemTempRead temps s) := by
  have h0 := Keep.refl 0x8040000c00140004 s
  unfold execMemTempRead
  extract_lets +onlyGivenNames x1
  refine Gives.cut (x := x1) (Keep.step (State.advanceTo_keep ..) h0 rfl) (fun h2 => ?_)
  generalize x1 = y3 at *
  extract_lets +onlyGivenNames x4
  refine Gives.cut (x := x4) ?_ (fun h5 => ?_)
  · unfold x4
    clear x4
    refine Keep.forEach ?_ (fun a7 u6 => ?_)
    · exact h2
    have h8 := Keep.refl 0x8040000c00140004 u6
    refine Keep.ite h8 ?_
    extract_lets +onlyGivenNames x9
    extract_lets +onlyGivenNames x11
    extract_lets +onlyGivenNames x13
    extract_lets +onlyGivenNames x15
    refine Keep.cut (x := x15) (Keep.wr .mem h8 rfl rfl) (fun h16 => ?_)
    generalize x15 = y17 at *
    extract_lets +onlyGivenNames x18
    generalize x18 = y19 at *
    extract_lets +onlyGivenNames x20
    refine Keep.cut (x := x20) (Keep.step (State.setMem_keep ..) h16 rfl) (fun h21 => ?_)
    generalize x20 = y22 at *
    extract_lets +onlyGivenNames x23
    refine Keep.cut (x := x23) (Keep.ite h21 (Keep.step (State.raise_keep ..) h21 rfl)) (fun h24 => ?_)
    generalize x23 = y25 at *
    exact (Keep.ite (Keep.step (State.updateDue_keep ..) h24 rfl) h24)
  generalize x4 = y26 at *
  extract_lets +onlyGivenNames x27
  generalize x27 = y28 at *
  exact Gives.ok (Keep.wr .mem (Keep.wr .mem h5 rfl rfl) rfl rfl)

theorem execMemRetrainDue_gives (c : Nat) (ch : Nat) (s : State) : Gives 0x8040000c00100004 s (execMemRetrainDue c ch s) := by
  have h0 := Keep.refl 0x8040000c00100004 s
  unfold execMemRetrainDue
  refine Gives.ite ?_ ?_
  · exact Gives.ok h0
  · extract_lets +onlyGivenNames x1
    generalize x1 = y2 at *
    exact Gives.ok (Keep.step (State.updateDue_keep ..) (Keep.step (State.advanceTo_keep ..) h0 rfl) rfl)

theorem execMemRetrainDeadline_gives (c : Nat) (ch : Nat) (s : State) : Gives 0x8040000c00100004 s (execMemRetrainDeadline c ch s) := by
  have h0 := Keep.refl 0x8040000c00100004 s
  unfold execMemRetrainDeadline
  split
  · exact Gives.ok h0
  · exact Gives.ok (Keep.step (State.raise_keep ..) (Keep.step (State.updateDone_keep ..) (Keep.step (State.advanceTo_keep ..) h0 rfl) rfl) rfl)

theorem execMemRetrainRequest_gives (val : Word) (s : State) : Gives 0x40000000040000 s (execMemRetrainRequest val s) := by
  have h0 := Keep.refl 0x40000000040000 s
  unfold execMemRetrainRequest
  extract_lets +onlyGivenNames x1
  generalize x1 = y2 at *
  extract_lets +onlyGivenNames x3
  generalize x3 = y4 at *
  extract_lets +onlyGivenNames x5
  refine Gives.cut (x := x5) (Keep.wr .mem (Keep.wr .mem h0 rfl rfl) rfl rfl) (fun h6 => ?_)
  generalize x5 = y7 at *
  refine Gives.ite ?_ ?_
  · exact Gives.ok h6
  · refine Gives.ite ?_ ?_
    · exact Gives.ok (Keep.step (State.setMem_keep ..) h6 rfl)
    · exact Gives.ok (Keep.step (State.setMem_keep ..) h6 rfl)

theorem execMemRetrainDone_gives (ch : Nat) (s : State) : Gives 0x40000400100004 s (execMemRetrainDone ch s) := by
  have h0 := Keep.refl 0x40000400100004 s
  unfold execMemRetrainDone
  refine Gives.ite ?_ ?_
  · exact Gives.ok h0
  · exact Gives.ok (Keep.step (State.raise_keep ..) (Keep.step (State.setMem_keep ..) h0 rfl) rfl)

theorem State.startRepair_keep (s : State) (r : Repair) : Keep 0x40000400140004 s (State.startRepair s r) := by
  have h0 := Keep.refl 0x40000400140004 s
  unfold State.startRepair
  extract_lets +onlyGivenNames x1
  generalize x1 = y2 at *
  extract_lets +onlyGivenNames x3
  refine Keep.cut (x := x3) (Keep.step (State.setMem_keep ..) h0 rfl) (fun h4 => ?_)
  generalize x3 = y5 at *
  extract_lets +onlyGivenNames x6
  refine Keep.cut (x := x6) (Keep.ite (Keep.wr .mem h4 rfl rfl) h4) (fun h7 => ?_)
  generalize x6 = y8 at *
  exact (Keep.step (State.raise_keep ..) h7 rfl)

theorem State.queueRepair_keep (s : State) (r : Repair) : Keep 0x40000400140004 s (State.queueRepair s r) := by
  have h0 := Keep.refl 0x40000400140004 s
  unfold State.queueRepair
  extract_lets +onlyGivenNames x1
  generalize x1 = y2 at *
  extract_lets +onlyGivenNames x3
  refine Keep.cut (x := x3) (Keep.step (State.setMem_keep ..) h0 rfl) (fun h4 => ?_)
  generalize x3 = y5 at *
  extract_lets +onlyGivenNames x6
  refine Keep.cut (x := x6) (Keep.ite (Keep.wr .mem h4 rfl rfl) h4) (fun h7 => ?_)
  generalize x6 = y8 at *
  exact (Keep.ite (Keep.step (State.startRepair_keep ..) h7 rfl) h7)

theorem State.failRepair_keep (s : State) (r : Repair) : Keep 0x40000400140004 s (State.failRepair s r) := by
  have h0 := Keep.refl 0x40000400140004 s
  unfold State.failRepair
  extract_lets +onlyGivenNames x1
  generalize x1 = y2 at *
  extract_lets +onlyGivenNames x3
  refine Keep.cut (x := x3) (Keep.step (State.setMem_keep ..) h0 rfl) (fun h4 => ?_)
  generalize x3 = y5 at *
  extract_lets +onlyGivenNames x6
  refine Keep.cut (x := x6) (Keep.ite (Keep.wr .mem h4 rfl rfl) h4) (fun h7 => ?_)
  generalize x6 = y8 at *
  exact (Keep.step (State.raise_keep ..) h7 rfl)

theorem execMemRepairRequest_gives (val : Word) (s : State) : Gives 0x40000400140004 s (execMemRepairRequest val s) := by
  have h0 := Keep.refl 0x40000400140004 s
  unfold execMemRepairRequest
  extract_lets +onlyGivenNames x1
  generalize x1 = y2 at *
  extract_lets +onlyGivenNames x3
  generalize x3 = y4 at *
  extract_lets +onlyGivenNames x5
  refine Gives.cut (x := x5) (Keep.wr .mem (Keep.wr .mem h0 rfl rfl) rfl rfl) (fun h6 => ?_)
  generalize x5 = y7 at *
  refine Gives.ite ?_ ?_
  · exact Gives.ok h6
  · extract_lets +onlyGivenNames x8
    generalize x8 = y9 at *
    refine Gives.ite ?_ ?_
    · exact Gives.ok (Keep.step (State.failRepair_keep ..) h6 rfl)
    · exact Gives.ok (Keep.step (State.queueRepair_keep ..) h6 rfl)

theorem execMemRepairWaitExpire_gives (s : State) : Gives 0x8040000c00140004 s (execMemRepairWaitExpire s) := by
  have h0 := Keep.refl 0x8040000c00140004 s
  unfold execMemRepairWaitExpire
  split
  · exact Gives.ok h0
  · exact Gives.ok (Keep.step (State.startRepair_keep ..) (Keep.step (State.advanceTo_keep ..) h0 rfl) rfl)

theorem execMemRepairDone_gives (c : Nat) (success : Bool) (remapped : Bool) (die : Nat) (bank : Nat) (row : Nat) (s : State) : Gives 0x4040004400140004 s (execMemRepairDone c success remapped die bank row s) := by
  have h0 := Keep.refl 0x4040004400140004 s
  unfold execMemRepairDone
  split
  · exact Gives.ok h0
  · extract_lets +onlyGivenNames x1
    generalize x1 = y2 at *
    extract_lets +onlyGivenNames x3
    generalize x3 = y4 at *
    refine Gives.ite ?_ ?_
    · exact Gives.ok (Keep.step (State.failRepair_keep ..) h0 rfl)
    · refine Gives.ite ?_ ?_
      · exact Gives.ok (Keep.step (State.failRepair_keep ..) (Keep.step (State.mramRefused_keep ..) h0 rfl) rfl)
      · extract_lets +onlyGivenNames x5
        refine Gives.cut (x := x5) (Keep.step (State.mramWrite_keep ..) h0 rfl) (fun h6 => ?_)
        generalize x5 = y7 at *
        extract_lets +onlyGivenNames x8
        refine Gives.cut (x := x8) (Keep.step (State.mramWrite_keep ..) h6 rfl) (fun h9 => ?_)
        generalize x8 = y10 at *
        extract_lets +onlyGivenNames x11
        refine Gives.cut (x := x11) (Keep.count .mem (Keep.wr .mem h9 rfl rfl) rfl rfl) (fun h12 => ?_)
        generalize x11 = y13 at *
        extract_lets +onlyGivenNames x14
        generalize x14 = y15 at *
        extract_lets +onlyGivenNames x16
        refine Gives.cut (x := x16) (Keep.step (State.setMem_keep ..) h12 rfl) (fun h17 => ?_)
        generalize x16 = y18 at *
        extract_lets +onlyGivenNames x19
        refine Gives.cut (x := x19) (Keep.ite (Keep.wr .mem h17 rfl rfl) h17) (fun h20 => ?_)
        generalize x19 = y21 at *
        exact Gives.ok (Keep.step (State.raise_keep ..) h20 rfl)

theorem State.dropRepairs_keep (s : State) : Keep 0x40000400140004 s (State.dropRepairs s) := by
  have h0 := Keep.refl 0x40000400140004 s
  unfold State.dropRepairs
  refine Keep.forEach ?_ (fun a2 u1 => ?_)
  · exact h0
  have h3 := Keep.refl 0x40000400140004 u1
  exact (Keep.step (State.failRepair_keep ..) h3 rfl)

theorem State.memWindow_keep (s : State) : Keep 0x1040000400140004 s (State.memWindow s) := by
  have h0 := Keep.refl 0x1040000400140004 s
  unfold State.memWindow
  extract_lets +onlyGivenNames x1
  refine Keep.cut (x := x1) ?_ (fun h2 => ?_)
  · unfold x1
    clear x1
    refine Keep.forEach ?_ (fun a4 u3 => ?_)
    · exact h0
    have h5 := Keep.refl 0x1040000400140004 u3
    exact (Keep.ite (Keep.step (State.payRefresh_keep ..) h5 rfl) h5)
  generalize x1 = y6 at *
  extract_lets +onlyGivenNames x7
  refine Keep.cut (x := x7) ?_ (fun h8 => ?_)
  · unfold x7
    clear x7
    refine Keep.forEach ?_ (fun a10 u9 => ?_)
    · exact h2
    have h11 := Keep.refl 0x1040000400140004 u9
    exact (Keep.ite h11 (Keep.step (State.updateDone_keep ..) h11 rfl))
  generalize x7 = y12 at *
  refine Keep.forEach ?_ (fun a14 u13 => ?_)
  · exact h8
  have h15 := Keep.refl 0x1040000400140004 u13
  exact (Keep.step (State.startRepair_keep ..) h15 rfl)

theorem State.noteCorrected_keep (s : State) (c : Nat) (off : Nat) (row : Nat) : Keep 0x40000400140004 s (State.noteCorrected s c off row) := by
  have h0 := Keep.refl 0x40000400140004 s
  unfold State.noteCorrected
  extract_lets +onlyGivenNames x1
  generalize x1 = y2 at *
  extract_lets +onlyGivenNames x3
  generalize x3 = y4 at *
  extract_lets +onlyGivenNames x5
  generalize x5 = y6 at *
  exact (Keep.ite (Keep.step (State.queueRepair_keep ..) (Keep.step (State.setMem_keep ..) h0 rfl) rfl) (Keep.step (State.setMem_keep ..) h0 rfl))

theorem execDramEccError_gives (c : Nat) (off : Nat) (ue : Bool) (req : Nat) (row : Nat) (s : State) : Gives 0x1040000400140004 s (execDramEccError c off ue req row s) := by
  have h0 := Keep.refl 0x1040000400140004 s
  unfold execDramEccError
  extract_lets +onlyGivenNames x1
  generalize x1 = y2 at *
  extract_lets +onlyGivenNames x3
  generalize x3 = y4 at *
  extract_lets +onlyGivenNames x5
  generalize x5 = y6 at *
  extract_lets +onlyGivenNames x7
  refine Gives.cut (x := x7) (Keep.ite (Keep.step (State.setMem_keep ..) h0 rfl) h0) (fun h8 => ?_)
  generalize x7 = y9 at *
  refine Gives.ite ?_ ?_
  · exact Gives.ok (Keep.step (State.raise_keep ..) (Keep.count .mem h8 rfl rfl) rfl)
  · extract_lets +onlyGivenNames x10
    refine Gives.cut (x := x10) (Keep.step (State.calMem_keep ..) (Keep.count .mem h8 rfl rfl) rfl) (fun h11 => ?_)
    generalize x10 = y12 at *
    exact Gives.ok (Keep.step (State.noteCorrected_keep ..) (Keep.step (State.raise_keep ..) h11 rfl) rfl)

theorem State.eccPop_keep (s : State) (who : Nat) : Keep 0x2040000000800000 s (State.eccPop s who) := by
  have h0 := Keep.refl 0x2040000000800000 s
  unfold State.eccPop
  extract_lets +onlyGivenNames x1
  generalize x1 = y2 at *
  exact (Keep.step (State.answer_keep ..) (Keep.step (State.copyHi_keep ..) (Keep.step (State.setMem_keep ..) h0 rfl) rfl) rfl)

theorem execMemEccPop_gives (who : Nat) (s : State) : Gives 0x3040000400b00004 s (execMemEccPop who s) := by
  have h0 := Keep.refl 0x3040000400b00004 s
  unfold execMemEccPop
  refine Gives.ite ?_ ?_
  · exact Gives.ok (Keep.step (State.refuseRead_keep ..) h0 rfl)
  · exact Gives.ok (Keep.step (State.eccPop_keep ..) h0 rfl)

theorem execMemScrubPass_gives (s : State) : Gives 0x8040000800040000 s (execMemScrubPass s) := by
  have h0 := Keep.refl 0x8040000800040000 s
  unfold execMemScrubPass
  extract_lets +onlyGivenNames x1
  generalize x1 = y2 at *
  extract_lets +onlyGivenNames x3
  refine Gives.cut (x := x3) (Keep.step (State.advanceTo_keep ..) h0 rfl) (fun h4 => ?_)
  generalize x3 = y5 at *
  exact Gives.ok (Keep.count .mem (Keep.step (State.setMem_keep ..) h4 rfl) rfl rfl)

theorem execMemRdEpochEnd_gives (s : State) : Gives 0x8000000800040000 s (execMemRdEpochEnd s) := by
  have h0 := Keep.refl 0x8000000800040000 s
  unfold execMemRdEpochEnd
  exact Gives.ok (Keep.wr .mem (Keep.step (State.advanceTo_keep ..) h0 rfl) rfl rfl)

theorem execBulkIdleSelfRefresh_gives (s : State) : Gives 0x8000010c00140004 s (execBulkIdleSelfRefresh s) := by
  have h0 := Keep.refl 0x8000010c00140004 s
  unfold execBulkIdleSelfRefresh
  refine Gives.ite ?_ ?_
  · exact Gives.ok h0
  · extract_lets +onlyGivenNames x1
    generalize x1 = y2 at *
    extract_lets +onlyGivenNames x3
    refine Gives.cut (x := x3) (Keep.step (State.dropMasked_keep ..) (Keep.step (State.showSegs_keep ..) (Keep.step (State.advanceTo_keep ..) h0 rfl) rfl) rfl) (fun h4 => ?_)
    generalize x3 = y5 at *
    exact Gives.ok (Keep.count .mem (Keep.wr .mem h4 rfl rfl) rfl rfl)

theorem execMemTestStart_gives (s : State) : Gives 0x40010000040000 s (execMemTestStart s) := by
  have h0 := Keep.refl 0x40010000040000 s
  unfold execMemTestStart
  extract_lets +onlyGivenNames x1
  generalize x1 = y2 at *
  extract_lets +onlyGivenNames x3
  generalize x3 = y4 at *
  refine Gives.ite ?_ ?_
  · exact Gives.ok h0
  · refine Gives.ite ?_ ?_
    · exact Gives.ok (Keep.wr .mem h0 rfl rfl)
    · extract_lets +onlyGivenNames x5
      generalize x5 = y6 at *
      extract_lets +onlyGivenNames x7
      refine Gives.cut (x := x7) (Keep.step (State.bulkTouch_keep ..) (Keep.step (State.setMem_keep ..) h0 rfl) rfl) (fun h8 => ?_)
      generalize x7 = y9 at *
      exact Gives.ok (Keep.wr .mem (Keep.step (State.dropBulk_keep ..) h8 rfl) rfl rfl)

theorem State.testEnds_keep (s : State) (st : Nat) : Keep 0x40010000040000 s (State.testEnds s st) := by
  have h0 := Keep.refl 0x40010000040000 s
  unfold State.testEnds
  extract_lets +onlyGivenNames x1
  generalize x1 = y2 at *
  extract_lets +onlyGivenNames x3
  generalize x3 = y4 at *
  extract_lets +onlyGivenNames x5
  refine Keep.cut (x := x5) (Keep.step (State.bulkTouch_keep ..) h0 rfl) (fun h6 => ?_)
  generalize x5 = y7 at *
  exact (Keep.wr .mem (Keep.step (State.dropBulk_keep ..) h6 rfl) rfl rfl)

theorem execMemTestAbort_gives (s : State) : Gives 0x40010000040000 s (execMemTestAbort s) := by
  have h0 := Keep.refl 0x40010000040000 s
  unfold execMemTestAbort
  refine Gives.ite ?_ ?_
  · exact Gives.ok (Keep.step (State.testEnds_keep ..) h0 rfl)
  · exact Gives.ok h0

theorem execMemTestDone_gives (pass : Bool) (s : State) : Gives 0x40010400140004 s (execMemTestDone pass s) := by
  have h0 := Keep.refl 0x40010400140004 s
  unfold execMemTestDone
  refine Gives.ite ?_ ?_
  · exact Gives.ok (Keep.step (State.raise_keep ..) (Keep.step (State.testEnds_keep ..) h0 rfl) rfl)
  · exact Gives.ok h0

theorem State.mramDataRead_keep (s : State) (who : Nat) : Keep 0x2000000000800000 s (State.mramDataRead s who) := by
  have h0 := Keep.refl 0x2000000000800000 s
  unfold State.mramDataRead
  extract_lets +onlyGivenNames x1
  generalize x1 = y2 at *
  exact (Keep.step (State.answer_keep ..) (Keep.step (State.copyHi_keep ..) h0 rfl) rfl)

theorem execMramDataRead_gives (who : Nat) (s : State) : Gives 0x3000000400b00004 s (execMramDataRead who s) := by
  have h0 := Keep.refl 0x3000000400b00004 s
  unfold execMramDataRead
  refine Gives.ite ?_ ?_
  · exact Gives.ok (Keep.step (State.refuseRead_keep ..) h0 rfl)
  · exact Gives.ok (Keep.step (State.mramDataRead_keep ..) h0 rfl)

theorem execMramDataWrite_gives (who : Nat) (val : Word) (s : State) : Gives 0x5000004401340005 s (execMramDataWrite who val s) := by
  have h0 := Keep.refl 0x5000004401340005 s
  unfold execMramDataWrite
  refine Gives.ite ?_ ?_
  · exact Gives.ok (Keep.step (State.refuseWrite_keep ..) h0 rfl)
  · extract_lets +onlyGivenNames x1
    refine Gives.cutP (x := x1) ?_ (fun h2 => ?_)
    · unfold x1
      clear x1
      exact KeepP.of (Keep.step (State.takeHi_keep ..) h0 rfl)
    generalize x1 = y3 at *
    extract_lets +onlyGivenNames x4
    refine Gives.cut (x := x4) (Keep.wr64 .mem h2 rfl rfl) (fun h5 => ?_)
    generalize x4 = y6 at *
    extract_lets +onlyGivenNames x7
    generalize x7 = y8 at *
    refine Gives.ite ?_ ?_
    · exact Gives.ok (Keep.step (State.mramRefused_keep ..) h5 rfl)
    · exact Gives.ok (Keep.step (State.mramStore_keep ..) h5 rfl)

end Sys2Proof.Machine
end

