-- ==== Sys2Proof/Laws/KeepSupply.lean ====
section
/-!
SUPPORT. What each operation and each command of Machine/Supply.lean can do to the state: the zones and parts it stays within.
-/
namespace Sys2Proof.Machine

theorem State.setPwr_keep (s : State) (p : PwrSt) : Keep 0x80000000000000 s (State.setPwr s p) := by
  have h0 := Keep.refl 0x80000000000000 s
  unfold State.setPwr
  exact (Keep.pwr h0 _ rfl)

theorem State.showSpiWp_keep (s : State) : Keep 0x200000000 s (State.showSpiWp s) := by
  have h0 := Keep.refl 0x200000000 s
  unfold State.showSpiWp
  extract_lets +onlyGivenNames x1
  generalize x1 = y2 at *
  extract_lets +onlyGivenNames x3
  generalize x3 = y4 at *
  exact (Keep.pins h0 _ rfl)

theorem State.nvBegin_keep (s : State) (cause : Nat) : Keep 0x1080000600100006 s (State.nvBegin s cause) := by
  have h0 := Keep.refl 0x1080000600100006 s
  unfold State.nvBegin
  refine Keep.ite h0 ?_
  extract_lets +onlyGivenNames x1
  generalize x1 = y2 at *
  extract_lets +onlyGivenNames x3
  refine Keep.cut (x := x3) (Keep.step (State.setPwr_keep ..) (Keep.wr .pwr h0 rfl rfl) rfl) (fun h4 => ?_)
  generalize x3 = y5 at *
  extract_lets +onlyGivenNames x6
  refine Keep.cut (x := x6) (Keep.step (State.raise_keep ..) (Keep.step (State.cal_keep ..) (Keep.count .pwr h4 rfl rfl) rfl) rfl) (fun h7 => ?_)
  generalize x6 = y8 at *
  extract_lets +onlyGivenNames x9
  generalize x9 = y10 at *
  extract_lets +onlyGivenNames x11
  refine Keep.cut (x := x11) (Keep.evt h7 _ rfl) (fun h12 => ?_)
  generalize x11 = y13 at *
  exact (Keep.step (State.showSpiWp_keep ..) (Keep.step (State.showJournal_keep ..) h12 rfl) rfl)

theorem State.nvCheck_keep (s : State) : Keep 0x1080000600100006 s (State.nvCheck s) := by
  have h0 := Keep.refl 0x1080000600100006 s
  unfold State.nvCheck
  split
  · extract_lets +onlyGivenNames x1
    refine Keep.cut (x := x1) (Keep.step (State.nvBegin_keep ..) h0 rfl) (fun h2 => ?_)
    generalize x1 = y3 at *
    exact (Keep.step (State.setPwr_keep ..) h2 rfl)
  · exact (Keep.ite h0 (Keep.step (State.setPwr_keep ..) h0 rfl))

theorem State.showVinLow_keep (s : State) : Keep 0x2 s (State.showVinLow s) := by
  have h0 := Keep.refl 0x2 s
  unfold State.showVinLow
  exact (Keep.wr .pwr h0 rfl rfl)

theorem State.setVin_keep (s : State) (mv : Nat) : Keep 0x1080000600100006 s (State.setVin s mv) := by
  have h0 := Keep.refl 0x1080000600100006 s
  unfold State.setVin
  extract_lets +onlyGivenNames x1
  generalize x1 = y2 at *
  extract_lets +onlyGivenNames x3
  refine Keep.cut (x := x3) (Keep.wr .pwr (Keep.step (State.setPwr_keep ..) h0 rfl) rfl rfl) (fun h4 => ?_)
  generalize x3 = y5 at *
  exact (Keep.step (State.nvCheck_keep ..) (Keep.step (State.showVinLow_keep ..) h4 rfl) rfl)

end Sys2Proof.Machine
end

