-- ==== Sys2Proof/Laws/KeepTime.lean ====
section
/-!
SUPPORT. What each operation and each command of Machine/Time.lean can do to the state: the zones and parts it stays within.
-/
namespace Sys2Proof.Machine

theorem State.setSrc_keep (s : State) (n : Nat) (x : SrcSt) : Keep 0x800000000 s (State.setSrc s n x) := by
  have h0 := Keep.refl 0x800000000 s
  unfold State.setSrc
  exact (Keep.tim h0 _ rfl)

theorem State.setTim_keep (s : State) (t : TimSt) : Keep 0x800000000 s (State.setTim s t) := by
  have h0 := Keep.refl 0x800000000 s
  unfold State.setTim
  exact (Keep.tim h0 _ rfl)

theorem State.showSources_keep (s : State) : Keep 0x40010000c s (State.showSources s) := by
  have h0 := Keep.refl 0x40010000c s
  unfold State.showSources
  extract_lets +onlyGivenNames x1
  refine Keep.cut (x := x1) (Keep.wr .tim h0 rfl rfl) (fun h2 => ?_)
  generalize x1 = y3 at *
  extract_lets +onlyGivenNames x4
  generalize x4 = y5 at *
  exact (Keep.ite h2 (Keep.step (State.raise_keep ..) (Keep.wr .tim h2 rfl rfl) rfl))

theorem State.noteApplied_keep (s : State) : Keep 0x800000000 s (State.noteApplied s) := by
  have h0 := Keep.refl 0x800000000 s
  unfold State.noteApplied
  extract_lets +onlyGivenNames x1
  generalize x1 = y2 at *
  extract_lets +onlyGivenNames x3
  generalize x3 = y4 at *
  extract_lets +onlyGivenNames x5
  generalize x5 = y6 at *
  exact (Keep.step (State.setTim_keep ..) h0 rfl)

theorem State.applyAdj_keep (s : State) (v : Int) : Keep 0x800000000 s (State.applyAdj s v) := by
  have h0 := Keep.refl 0x800000000 s
  unfold State.applyAdj
  extract_lets +onlyGivenNames x1
  refine Keep.cut (x := x1) (Keep.step (State.noteApplied_keep ..) h0 rfl) (fun h2 => ?_)
  generalize x1 = y3 at *
  exact (Keep.step (State.setTim_keep ..) h2 rfl)

theorem execFreqAdjWrite_gives (who : Nat) (val : Word) (s : State) : Gives 0x1000000c0130000d s (execFreqAdjWrite who val s) := by
  have h0 := Keep.refl 0x1000000c0130000d s
  unfold execFreqAdjWrite
  refine Gives.ite ?_ ?_
  · exact Gives.ok (Keep.step (State.refuseWrite_keep ..) h0 rfl)
  · extract_lets +onlyGivenNames x1
    refine Gives.cutP (x := x1) ?_ (fun h2 => ?_)
    · unfold x1
      clear x1
      exact KeepP.of (Keep.step (State.takeHi_keep ..) h0 rfl)
    generalize x1 = y3 at *
    extract_lets +onlyGivenNames x4
    refine Gives.cut (x := x4) (Keep.wr64 .tim h2 rfl rfl) (fun h5 => ?_)
    generalize x4 = y6 at *
    refine Gives.ite ?_ ?_
    · exact Gives.ok h5
    · extract_lets +onlyGivenNames x7
      generalize x7 = y8 at *
      extract_lets +onlyGivenNames x9
      generalize x9 = y10 at *
      extract_lets +onlyGivenNames x11
      refine Gives.cut (x := x11) (Keep.ite h5 (Keep.step (State.raise_keep ..) h5 rfl)) (fun h12 => ?_)
      generalize x11 = y13 at *
      exact Gives.ok (Keep.step (State.applyAdj_keep ..) h12 rfl)

theorem State.noteGate_keep (s : State) (was : Bool) : Keep 0x800000000 s (State.noteGate s was) := by
  have h0 := Keep.refl 0x800000000 s
  unfold State.noteGate
  exact (Keep.ite h0 (Keep.step (State.setTim_keep ..) h0 rfl))

theorem State.showQuality_keep (s : State) : Keep 0xc0010000c s (State.showQuality s) := by
  have h0 := Keep.refl 0xc0010000c s
  unfold State.showQuality
  extract_lets +onlyGivenNames x1
  generalize x1 = y2 at *
  exact (Keep.ite h0 (Keep.step (State.raise_keep ..) (Keep.step (State.noteGate_keep ..) (Keep.wr .tim h0 rfl rfl) rfl) rfl))

theorem State.selectSrc_keep (s : State) (n : Nat) : Keep 0xc0010000c s (State.selectSrc s n) := by
  have h0 := Keep.refl 0xc0010000c s
  unfold State.selectSrc
  refine Keep.ite h0 ?_
  extract_lets +onlyGivenNames x1
  generalize x1 = y2 at *
  extract_lets +onlyGivenNames x3
  refine Keep.cut (x := x3) (Keep.step (State.setTim_keep ..) h0 rfl) (fun h4 => ?_)
  generalize x3 = y5 at *
  exact (Keep.step (State.raise_keep ..) (Keep.wr .tim h4 rfl rfl) rfl)

theorem State.setTimeState_keep (s : State) (st : Nat) (fromHold : Bool) : Keep 0xc0010000c s (State.setTimeState s st fromHold) := by
  have h0 := Keep.refl 0xc0010000c s
  unfold State.setTimeState
  extract_lets +onlyGivenNames x1
  generalize x1 = y2 at *
  extract_lets +onlyGivenNames x3
  refine Keep.cut (x := x3) (Keep.step (State.noteApplied_keep ..) h0 rfl) (fun h4 => ?_)
  generalize x3 = y5 at *
  extract_lets +onlyGivenNames x6
  generalize x6 = y7 at *
  extract_lets +onlyGivenNames x8
  refine Keep.cut (x := x8) (Keep.step (State.setTim_keep ..) h4 rfl) (fun h9 => ?_)
  generalize x8 = y10 at *
  extract_lets +onlyGivenNames x11
  refine Keep.cut (x := x11) (Keep.step (State.showQuality_keep ..) (Keep.wr .tim h9 rfl rfl) rfl) (fun h12 => ?_)
  generalize x11 = y13 at *
  extract_lets +onlyGivenNames x14
  refine Keep.cut (x := x14) (Keep.ite (Keep.step (State.raise_keep ..) h12 rfl) h12) (fun h15 => ?_)
  generalize x14 = y16 at *
  exact (Keep.ite (Keep.step (State.raise_keep ..) h15 rfl) h15)

theorem State.gtcStep_keep (s : State) (a : Int) : Keep 0x580d82bc06701b0c s (State.gtcStep s a) := by
  have h0 := Keep.refl 0x580d82bc06701b0c s
  unfold State.gtcStep
  extract_lets +onlyGivenNames x1
  generalize x1 = y2 at *
  extract_lets +onlyGivenNames x3
  refine Keep.cut (x := x3) (Keep.step (State.baysBeforeStep_keep ..) h0 rfl) (fun h4 => ?_)
  generalize x3 = y5 at *
  extract_lets +onlyGivenNames x6
  generalize x6 = y7 at *
  extract_lets +onlyGivenNames x8
  refine Keep.cut (x := x8) (Keep.step (State.setTim_keep ..) h4 rfl) (fun h9 => ?_)
  generalize x8 = y10 at *
  extract_lets +onlyGivenNames x11
  refine Keep.cut (x := x11) (Keep.step (State.raise_keep ..) (Keep.wr .tim h9 rfl rfl) rfl) (fun h12 => ?_)
  generalize x11 = y13 at *
  exact (Keep.step (State.baysAfterStep_keep ..) h12 rfl)

theorem State.removeOffset_keep (s : State) (ofs : Int) (stepOk : Bool) : Keep 0x580d82bc06701b0c s (State.removeOffset s ofs stepOk) := by
  have h0 := Keep.refl 0x580d82bc06701b0c s
  unfold State.removeOffset
  exact (Keep.ite (Keep.step (State.gtcStep_keep ..) (Keep.step (State.setTim_keep ..) h0 rfl) rfl) (Keep.step (State.setTim_keep ..) h0 rfl))

theorem State.showOffset_keep (s : State) (ofs : Int) : Keep 0x8 s (State.showOffset s ofs) := by
  have h0 := Keep.refl 0x8 s
  unfold State.showOffset
  exact (Keep.wr .tim h0 rfl rfl)

theorem State.acquire_keep (s : State) (n : Nat) (fromHold : Bool) (stepOk : Bool) : Keep 0x580d82bc06701b0c s (State.acquire s n fromHold stepOk) := by
  have h0 := Keep.refl 0x580d82bc06701b0c s
  unfold State.acquire
  extract_lets +onlyGivenNames x1
  refine Keep.cut (x := x1) (Keep.step (State.setTimeState_keep ..) (Keep.step (State.selectSrc_keep ..) h0 rfl) rfl) (fun h2 => ?_)
  generalize x1 = y3 at *
  extract_lets +onlyGivenNames x4
  generalize x4 = y5 at *
  exact (Keep.step (State.removeOffset_keep ..) (Keep.step (State.showOffset_keep ..) h2 rfl) rfl)

theorem State.lock_keep (s : State) : Keep 0xc0010000c s (State.lock s) := by
  have h0 := Keep.refl 0xc0010000c s
  unfold State.lock
  extract_lets +onlyGivenNames x1
  generalize x1 = y2 at *
  extract_lets +onlyGivenNames x3
  refine Keep.cut (x := x3) (Keep.step (State.setTim_keep ..) h0 rfl) (fun h4 => ?_)
  generalize x3 = y5 at *
  exact (Keep.step (State.showSources_keep ..) (Keep.step (State.setTimeState_keep ..) (Keep.wr .tim h4 rfl rfl) rfl) rfl)

theorem State.holdover_keep (s : State) : Keep 0xc0010000c s (State.holdover s) := by
  have h0 := Keep.refl 0xc0010000c s
  unfold State.holdover
  extract_lets +onlyGivenNames x1
  refine Keep.cut (x := x1) (Keep.step (State.noteApplied_keep ..) h0 rfl) (fun h2 => ?_)
  generalize x1 = y3 at *
  extract_lets +onlyGivenNames x4
  generalize x4 = y5 at *
  extract_lets +onlyGivenNames x6
  generalize x6 = y7 at *
  extract_lets +onlyGivenNames x8
  refine Keep.cut (x := x8) (Keep.step (State.setTim_keep ..) h2 rfl) (fun h9 => ?_)
  generalize x8 = y10 at *
  exact (Keep.step (State.setTimeState_keep ..) (Keep.step (State.selectSrc_keep ..) (Keep.step (State.applyAdj_keep ..) h9 rfl) rfl) rfl)

theorem State.fallBack_keep (s : State) : Keep 0xc0010000c s (State.fallBack s) := by
  have h0 := Keep.refl 0xc0010000c s
  unfold State.fallBack
  exact (Keep.ite (Keep.step (State.setTimeState_keep ..) (Keep.step (State.selectSrc_keep ..) (Keep.step (State.applyAdj_keep ..) h0 rfl) rfl) rfl) (Keep.step (State.setTimeState_keep ..) (Keep.step (State.selectSrc_keep ..) h0 rfl) rfl))

theorem State.betterLocked_keep (s : State) (n : Nat) : Keep 0xc0010000c s (State.betterLocked s n) := by
  have h0 := Keep.refl 0xc0010000c s
  unfold State.betterLocked
  extract_lets +onlyGivenNames x1
  generalize x1 = y2 at *
  refine Keep.ite (Keep.step (State.showQuality_keep ..) (Keep.step (State.selectSrc_keep ..) h0 rfl) rfl) ?_
  extract_lets +onlyGivenNames x3
  refine Keep.cut (x := x3) (Keep.step (State.setSrc_keep ..) h0 rfl) (fun h4 => ?_)
  generalize x3 = y5 at *
  exact (Keep.ite (Keep.step (State.raise_keep ..) (Keep.step (State.setTim_keep ..) h4 rfl) rfl) h4)

theorem State.trackSelected_keep (s : State) (ofs : Int) : Keep 0x580d82bc06701b0c s (State.trackSelected s ofs) := by
  have h0 := Keep.refl 0x580d82bc06701b0c s
  unfold State.trackSelected
  extract_lets +onlyGivenNames x1
  refine Keep.cut (x := x1) (Keep.step (State.showOffset_keep ..) h0 rfl) (fun h2 => ?_)
  generalize x1 = y3 at *
  extract_lets +onlyGivenNames x4
  generalize x4 = y5 at *
  extract_lets +onlyGivenNames x6
  refine Keep.cut (x := x6) (Keep.step (State.removeOffset_keep ..) h2 rfl) (fun h7 => ?_)
  generalize x6 = y8 at *
  refine Keep.ite h7 ?_
  extract_lets +onlyGivenNames x9
  generalize x9 = y10 at *
  extract_lets +onlyGivenNames x11
  generalize x11 = y12 at *
  extract_lets +onlyGivenNames x13
  refine Keep.cut (x := x13) (Keep.step (State.setTim_keep ..) h7 rfl) (fun h14 => ?_)
  generalize x13 = y15 at *
  exact (Keep.ite (Keep.step (State.lock_keep ..) h14 rfl) h14)

theorem State.timeEval_keep (y0 : Nat) (y1 : State) (y2 : Option Nat) : Keep 0x580d82bc06701b0c y1 (State.timeEval y0 y1 y2) := by
  induction y0 generalizing y1 y2
  · have h0 := Keep.refl 0x580d82bc06701b0c y1
    unfold State.timeEval
    exact h0
  · rename_i y0 ih
    have h0 := Keep.refl 0x580d82bc06701b0c y1
    unfold State.timeEval
    extract_lets +onlyGivenNames x1
    generalize x1 = y2 at *
    extract_lets +onlyGivenNames x3
    generalize x3 = y4 at *
    split
    · refine Keep.ite (Keep.step (ih ..) (Keep.step (State.fallBack_keep ..) h0 rfl) rfl) ?_
      split
      · refine Keep.ite (Keep.step (State.acquire_keep ..) h0 rfl) ?_
        refine Keep.ite ?_ h0
        extract_lets +onlyGivenNames x5
        refine Keep.cut (x := x5) (Keep.step (State.trackSelected_keep ..) h0 rfl) (fun h6 => ?_)
        generalize x5 = y7 at *
        exact (Keep.ite (Keep.step (ih ..) h6 rfl) h6)
      · exact h0
    · refine Keep.ite ?_ ?_
      · split
        · exact (Keep.step (State.showQuality_keep ..) (Keep.step (State.selectSrc_keep ..) h0 rfl) rfl)
        · exact (Keep.step (ih ..) (Keep.step (State.holdover_keep ..) h0 rfl) rfl)
      · extract_lets +onlyGivenNames x8
        generalize x8 = y9 at *
        extract_lets +onlyGivenNames x10
        refine Keep.cut (x := x10) ?_ (fun h11 => ?_)
        · unfold x10
          clear x10
          split
          · exact (Keep.ite (Keep.step (State.betterLocked_keep ..) h0 rfl) h0)
          · split
            · exact (Keep.step (State.showQuality_keep ..) (Keep.step (State.selectSrc_keep ..) h0 rfl) rfl)
            · exact h0
        generalize x10 = y12 at *
        exact (Keep.ite (Keep.step (State.trackSelected_keep ..) h11 rfl) h11)
    · split
      · exact (Keep.step (State.acquire_keep ..) h0 rfl)
      · exact h0

theorem State.timeCheck_keep (s : State) : Keep 0x580d82bc06701b0c s (State.timeCheck s) := by
  have h0 := Keep.refl 0x580d82bc06701b0c s
  unfold State.timeCheck
  exact (Keep.step (State.timeEval_keep ..) (Keep.step (State.showSources_keep ..) h0 rfl) rfl)

theorem State.timeUpdate_keep (s : State) (n : Nat) (ofs : Int) : Keep 0x580d82bc06701b0c s (State.timeUpdate s n ofs) := by
  have h0 := Keep.refl 0x580d82bc06701b0c s
  unfold State.timeUpdate
  extract_lets +onlyGivenNames x1
  generalize x1 = y2 at *
  extract_lets +onlyGivenNames x3
  generalize x3 = y4 at *
  extract_lets +onlyGivenNames x5
  refine Keep.cut (x := x5) (Keep.step (State.setSrc_keep ..) h0 rfl) (fun h6 => ?_)
  generalize x5 = y7 at *
  exact (Keep.step (State.timeEval_keep ..) (Keep.step (State.showSources_keep ..) h6 rfl) rfl)

theorem State.timeMiss_keep (s : State) (n : Nat) : Keep 0x580d82bc06701b0c s (State.timeMiss s n) := by
  have h0 := Keep.refl 0x580d82bc06701b0c s
  unfold State.timeMiss
  extract_lets +onlyGivenNames x1
  generalize x1 = y2 at *
  extract_lets +onlyGivenNames x3
  refine Keep.cut (x := x3) (Keep.step (State.setSrc_keep ..) h0 rfl) (fun h4 => ?_)
  generalize x3 = y5 at *
  exact (Keep.step (State.timeCheck_keep ..) (Keep.ite h4 (Keep.step (State.setSrc_keep ..) h4 rfl)) rfl)

theorem execPtpOfsSecWrite_gives (who : Nat) (val : Word) (s : State) : Gives 0x1000000c00300004 s (execPtpOfsSecWrite who val s) := by
  have h0 := Keep.refl 0x1000000c00300004 s
  unfold execPtpOfsSecWrite
  refine Gives.ite ?_ ?_
  · exact Gives.ok (Keep.step (State.refuseWrite_keep ..) h0 rfl)
  · exact Gives.ok (Keep.step (State.setTim_keep ..) h0 rfl)

theorem execPtpOfsUpdate_gives (who : Nat) (val : Word) (s : State) : Gives 0x580d82bc06701b0d s (execPtpOfsUpdate who val s) := by
  have h0 := Keep.refl 0x580d82bc06701b0d s
  unfold execPtpOfsUpdate
  refine Gives.ite ?_ ?_
  · exact Gives.ok (Keep.step (State.refuseWrite_keep ..) h0 rfl)
  · extract_lets +onlyGivenNames x1
    generalize x1 = y2 at *
    refine Gives.ite ?_ ?_
    · exact Gives.ok (Keep.step (State.bad_keep ..) h0 rfl)
    · extract_lets +onlyGivenNames x3
      generalize x3 = y4 at *
      extract_lets +onlyGivenNames x5
      generalize x5 = y6 at *
      extract_lets +onlyGivenNames x7
      generalize x7 = y8 at *
      extract_lets +onlyGivenNames x9
      refine Gives.cut (x := x9) (Keep.step (State.setTim_keep ..) h0 rfl) (fun h10 => ?_)
      generalize x9 = y11 at *
      exact Gives.ok (Keep.step (State.timeUpdate_keep ..) (Keep.step (State.cal_keep ..) h10 rfl) rfl)

theorem execPtpUpdateTimeout_gives (s : State) : Gives 0xd80d82bc06701b0c s (execPtpUpdateTimeout s) := by
  have h0 := Keep.refl 0xd80d82bc06701b0c s
  unfold execPtpUpdateTimeout
  extract_lets +onlyGivenNames x1
  generalize x1 = y2 at *
  refine Gives.ite ?_ ?_
  · exact Gives.ok h0
  · extract_lets +onlyGivenNames x3
    refine Gives.cut (x := x3) (Keep.step (State.advanceTo_keep ..) h0 rfl) (fun h4 => ?_)
    generalize x3 = y5 at *
    refine Gives.ite ?_ ?_
    · exact Gives.ok h4
    · exact Gives.ok (Keep.step (State.timeCheck_keep ..) (Keep.step (State.setSrc_keep ..) h4 rfl) rfl)

theorem execPpsInEdge_gives (rising : Bool) (t : Nat) (s : State) : Gives 0x580d82bc06701b0c s (execPpsInEdge rising t s) := by
  have h0 := Keep.refl 0x580d82bc06701b0c s
  unfold execPpsInEdge
  refine Gives.ite ?_ ?_
  · exact Gives.ok h0
  · extract_lets +onlyGivenNames x1
    refine Gives.cut (x := x1) (Keep.step (State.cal_keep ..) h0 rfl) (fun h2 => ?_)
    generalize x1 = y3 at *
    extract_lets +onlyGivenNames x4
    generalize x4 = y5 at *
    extract_lets +onlyGivenNames x6
    generalize x6 = y7 at *
    refine Gives.ite ?_ ?_
    · exact Gives.ok (Keep.step (State.timeMiss_keep ..) h2 rfl)
    · extract_lets +onlyGivenNames x8
      generalize x8 = y9 at *
      exact Gives.ok (Keep.step (State.timeUpdate_keep ..) h2 rfl)

theorem execPpsPulseMissed_gives (s : State) : Gives 0xd80d82bc06701b0c s (execPpsPulseMissed s) := by
  have h0 := Keep.refl 0xd80d82bc06701b0c s
  unfold execPpsPulseMissed
  extract_lets +onlyGivenNames x1
  refine Gives.cut (x := x1) (Keep.step (State.advanceTo_keep ..) h0 rfl) (fun h2 => ?_)
  generalize x1 = y3 at *
  exact Gives.ok (Keep.step (State.timeMiss_keep ..) h2 rfl)

theorem execIrigFrame_gives (good : Bool) (t : Nat) (doy : Nat) (sod : Nat) (yy : Nat) (halfHours : Nat) (lsp : Bool) (tq : Nat) (s : State) : Gives 0x580d82bc06701b0c s (execIrigFrame good t doy sod yy halfHours lsp tq s) := by
  have h0 := Keep.refl 0x580d82bc06701b0c s
  unfold execIrigFrame
  refine Gives.ite ?_ ?_
  · exact Gives.ok (Keep.step (State.timeMiss_keep ..) (Keep.step (State.raise_keep ..) (Keep.bump .tim h0 rfl rfl) rfl) rfl)
  · extract_lets +onlyGivenNames x1
    refine Gives.cut (x := x1) (Keep.step (State.cal_keep ..) h0 rfl) (fun h2 => ?_)
    generalize x1 = y3 at *
    extract_lets +onlyGivenNames x4
    refine Gives.cut (x := x4) (Keep.ite (Keep.wr .tim (Keep.wr .tim h2 rfl rfl) rfl rfl) h2) (fun h5 => ?_)
    generalize x4 = y6 at *
    extract_lets +onlyGivenNames x7
    generalize x7 = y8 at *
    exact Gives.ok (Keep.step (State.timeUpdate_keep ..) h5 rfl)

theorem execIrigFrameMissed_gives (s : State) : Gives 0x580d82bc06701b0c s (execIrigFrameMissed s) := by
  have h0 := Keep.refl 0x580d82bc06701b0c s
  unfold execIrigFrameMissed
  exact Gives.ok (Keep.step (State.timeMiss_keep ..) h0 rfl)

theorem execHoldoverExpire_gives (s : State) : Gives 0x8000000c0010000c s (execHoldoverExpire s) := by
  have h0 := Keep.refl 0x8000000c0010000c s
  unfold execHoldoverExpire
  split
  · exact Gives.ok h0
  · extract_lets +onlyGivenNames x1
    generalize x1 = y2 at *
    refine Gives.ite ?_ ?_
    · exact Gives.ok h0
    · extract_lets +onlyGivenNames x3
      refine Gives.cut (x := x3) (Keep.step (State.advanceTo_keep ..) h0 rfl) (fun h4 => ?_)
      generalize x3 = y5 at *
      exact Gives.ok (Keep.step (State.setTimeState_keep ..) h4 rfl)

theorem execAoCounterCorrect_gives (s : State) : Gives 0xc000000800000000 s (execAoCounterCorrect s) := by
  have h0 := Keep.refl 0xc000000800000000 s
  unfold execAoCounterCorrect
  refine Gives.ite ?_ ?_
  · exact Gives.ok h0
  · extract_lets +onlyGivenNames x1
    refine Gives.cut (x := x1) (Keep.step (State.advanceTo_keep ..) h0 rfl) (fun h2 => ?_)
    generalize x1 = y3 at *
    extract_lets +onlyGivenNames x4
    generalize x4 = y5 at *
    exact Gives.ok (Keep.step (State.setTim_keep ..) (Keep.step (State.draw_keep ..) h2 rfl) rfl)

theorem State.timCarry_keep (s : State) : Keep 0x800000000 s (State.timCarry s) := by
  have h0 := Keep.refl 0x800000000 s
  unfold State.timCarry
  refine Keep.ite h0 ?_
  extract_lets +onlyGivenNames x1
  generalize x1 = y2 at *
  extract_lets +onlyGivenNames x3
  generalize x3 = y4 at *
  exact (Keep.step (State.setTim_keep ..) h0 rfl)

theorem State.timReturn_keep (s : State) : Keep 0x800000000 s (State.timReturn s) := by
  have h0 := Keep.refl 0x800000000 s
  unfold State.timReturn
  refine Keep.ite h0 ?_
  extract_lets +onlyGivenNames x1
  generalize x1 = y2 at *
  exact (Keep.step (State.setTim_keep ..) h0 rfl)

theorem State.timSettle_keep (s : State) : Keep 0xc0010000c s (State.timSettle s) := by
  have h0 := Keep.refl 0xc0010000c s
  unfold State.timSettle
  split
  · exact h0
  · extract_lets +onlyGivenNames x1
    generalize x1 = y2 at *
    extract_lets +onlyGivenNames x3
    refine Keep.cut (x := x3) (Keep.step (State.setTim_keep ..) h0 rfl) (fun h4 => ?_)
    generalize x3 = y5 at *
    exact (Keep.ite h4 (Keep.step (State.setTimeState_keep ..) (Keep.step (State.setTim_keep ..) h4 rfl) rfl))

theorem State.gtcNsRead_keep (s : State) (who : Nat) : Keep 0x2000000800000000 s (State.gtcNsRead s who) := by
  have h0 := Keep.refl 0x2000000800000000 s
  unfold State.gtcNsRead
  exact (Keep.step (State.answer_keep ..) (Keep.step (State.setTim_keep ..) h0 rfl) rfl)

theorem execGtcNsRead_gives (who : Nat) (s : State) : Gives 0x3000000c00300004 s (execGtcNsRead who s) := by
  have h0 := Keep.refl 0x3000000c00300004 s
  unfold execGtcNsRead
  refine Gives.ite ?_ ?_
  · exact Gives.ok (Keep.step (State.refuseRead_keep ..) h0 rfl)
  · exact Gives.ok (Keep.step (State.gtcNsRead_keep ..) h0 rfl)

theorem State.grainAngleRead_keep (s : State) (who : Nat) (inst : Nat) : Keep 0x2000000800000000 s (State.grainAngleRead s who inst) := by
  have h0 := Keep.refl 0x2000000800000000 s
  unfold State.grainAngleRead
  extract_lets +onlyGivenNames x1
  generalize x1 = y2 at *
  exact (Keep.step (State.answer_keep ..) (Keep.step (State.setTim_keep ..) h0 rfl) rfl)

theorem execGrainAngleRead_gives (who : Nat) (inst : Nat) (s : State) : Gives 0x3000000c00300004 s (execGrainAngleRead who inst s) := by
  have h0 := Keep.refl 0x3000000c00300004 s
  unfold execGrainAngleRead
  refine Gives.ite ?_ ?_
  · exact Gives.ok (Keep.step (State.refuseRead_keep ..) h0 rfl)
  · refine Gives.ite ?_ ?_
    · exact Gives.ok h0
    · exact Gives.ok (Keep.step (State.grainAngleRead_keep ..) h0 rfl)

theorem State.ppsRise_keep (s : State) : Keep 0xa00000000 s (State.ppsRise s) := by
  have h0 := Keep.refl 0xa00000000 s
  unfold State.ppsRise
  exact (Keep.fields h0 rfl (Nat.le_refl _) ⟨rfl, rfl, rfl, rfl, rfl, rfl, rfl, rfl⟩ (fun p hp => by cases p <;> first | rfl | exact ⟨rfl, rfl, rfl⟩ | exact ⟨rfl, rfl, rfl, rfl, rfl, rfl⟩ | exact absurd hp (by decide)))

theorem execPpsOutPulse_gives (s : State) : Gives 0x8000000a00000000 s (execPpsOutPulse s) := by
  have h0 := Keep.refl 0x8000000a00000000 s
  unfold execPpsOutPulse
  extract_lets +onlyGivenNames x1
  generalize x1 = y2 at *
  extract_lets +onlyGivenNames x3
  refine Gives.cut (x := x3) (Keep.step (State.advanceTo_keep ..) h0 rfl) (fun h4 => ?_)
  generalize x3 = y5 at *
  refine Gives.ite ?_ ?_
  · exact Gives.ok (Keep.step (State.ppsRise_keep ..) h4 rfl)
  · exact Gives.ok h4

theorem execPpsOutPulseEnd_gives (s : State) : Gives 0x8000000a00000000 s (execPpsOutPulseEnd s) := by
  have h0 := Keep.refl 0x8000000a00000000 s
  unfold execPpsOutPulseEnd
  refine Gives.ite ?_ ?_
  · exact Gives.ok h0
  · extract_lets +onlyGivenNames x1
    refine Gives.cut (x := x1) (Keep.step (State.advanceTo_keep ..) h0 rfl) (fun h2 => ?_)
    generalize x1 = y3 at *
    exact Gives.ok (Keep.fields h2 rfl (Nat.le_refl _) ⟨rfl, rfl, rfl, rfl, rfl, rfl, rfl, rfl⟩ (fun p hp => by cases p <;> first | rfl | exact ⟨rfl, rfl, rfl⟩ | exact ⟨rfl, rfl, rfl, rfl, rfl, rfl⟩ | exact absurd hp (by decide)))

theorem execOscClockLost_gives (ocxo : Bool) (s : State) : Gives 0x40010000c s (execOscClockLost ocxo s) := by
  have h0 := Keep.refl 0x40010000c s
  unfold execOscClockLost
  refine Gives.ite ?_ ?_
  · exact Gives.ok h0
  · extract_lets +onlyGivenNames x1
    refine Gives.cut (x := x1) (Keep.ite (Keep.wr .tim h0 rfl rfl) (Keep.wr .tim h0 rfl rfl)) (fun h2 => ?_)
    generalize x1 = y3 at *
    exact Gives.ok (Keep.ite (Keep.step (State.raise_keep ..) h2 rfl) h2)

theorem execOscClockDetected_gives (ocxo : Bool) (s : State) : Gives 0x8 s (execOscClockDetected ocxo s) := by
  have h0 := Keep.refl 0x8 s
  unfold execOscClockDetected
  exact Gives.ok (Keep.ite (Keep.wr .tim h0 rfl rfl) (Keep.wr .tim h0 rfl rfl))

end Sys2Proof.Machine
end

