-- ==== Sys2Proof/Laws/KeepCommit.lean ====
section
/-!
SUPPORT. What each operation and each command of Machine/Commit.lean can do to the state: the zones and parts it stays within.
-/
namespace Sys2Proof.Machine

theorem State.candidate_keep (s : State) (b : Blk) : Keep 0xe7fffff s (State.candidate s b) := by
  have h0 := Keep.refl 0xe7fffff s
  unfold State.candidate
  extract_lets +onlyGivenNames x1
  refine Keep.cut (x := x1) ?_ (fun h2 => ?_)
  · unfold x1
    clear x1
    refine Keep.forEach ?_ (fun a4 u3 => ?_)
    · exact h0
    have h5 := Keep.refl 0xe7fffff u3
    split
    · exact (Keep.setRegAny h5 rfl)
    · exact h5
  generalize x1 = y6 at *
  refine Keep.forEach ?_ (fun a8 u7 => ?_)
  · exact h2
  have h9 := Keep.refl 0xe7fffff u7
  exact (Keep.step (State.swapWindow_keep ..) h9 rfl)

theorem State.alnBefore_keep (s : State) (n : State) : Keep 0x580d82bc06701b0c s (State.alnBefore s n) := by
  have h0 := Keep.refl 0x580d82bc06701b0c s
  unfold State.alnBefore
  refine Keep.forEach ?_ (fun a2 u1 => ?_)
  · exact h0
  have h3 := Keep.refl 0x580d82bc06701b0c u1
  exact (Keep.ite (Keep.step (State.stopBay_keep ..) h3 rfl) (Keep.ite (Keep.step (State.endBay_keep ..) h3 rfl) h3))

theorem State.trpBefore_keep (s : State) (n : State) : Keep 0x5002020400100404 s (State.trpBefore s n) := by
  have h0 := Keep.refl 0x5002020400100404 s
  unfold State.trpBefore
  refine Keep.forEach ?_ (fun a2 u1 => ?_)
  · exact h0
  have h3 := Keep.refl 0x5002020400100404 u1
  exact (Keep.ite h3 (Keep.step (State.setTerm_keep ..) (Keep.step (State.armTo_keep ..) h3 rfl) rfl))

theorem State.recBefore_keep (s : State) (n : State) : Keep 0x44010400140804 s (State.recBefore s n) := by
  have h0 := Keep.refl 0x44010400140804 s
  unfold State.recBefore
  extract_lets +onlyGivenNames x1
  generalize x1 = y2 at *
  extract_lets +onlyGivenNames x3
  generalize x3 = y4 at *
  exact (Keep.step (State.truncateSegs_keep ..) h0 rfl)

theorem State.beforeSwap_keep (s : State) (b : Blk) (n : State) : Keep 0x584f83bd06741f0c s (State.beforeSwap s b n) := by
  have h0 := Keep.refl 0x584f83bd06741f0c s
  unfold State.beforeSwap
  split
  · exact (Keep.step (State.alnBefore_keep ..) h0 rfl)
  · exact (Keep.step (State.trpBefore_keep ..) h0 rfl)
  · exact (Keep.step (State.recBefore_keep ..) h0 rfl)
  · exact (Keep.step (State.calSync_keep ..) h0 rfl)
  · exact h0

theorem State.pwrAfter_keep (s : State) : Keep 0x1080000600100006 s (State.pwrAfter s) := by
  have h0 := Keep.refl 0x1080000600100006 s
  unfold State.pwrAfter
  exact (Keep.step (State.nvCheck_keep ..) (Keep.step (State.showVinLow_keep ..) h0 rfl) rfl)

theorem State.evtAfter_keep (s : State) (o : State) : Keep 0x600000000 s (State.evtAfter s o) := by
  have h0 := Keep.refl 0x600000000 s
  unfold State.evtAfter
  extract_lets +onlyGivenNames x1
  generalize x1 = y2 at *
  extract_lets +onlyGivenNames x3
  refine Keep.cut (x := x3) (Keep.ite (Keep.evt h0 _ rfl) h0) (fun h4 => ?_)
  generalize x3 = y5 at *
  exact (Keep.step (State.showEvtOut_keep ..) h4 rfl)

theorem State.grainCommit_keep (s : State) (o : State) (g : Nat) : Keep 0xc0010000c s (State.grainCommit s o g) := by
  have h0 := Keep.refl 0xc0010000c s
  unfold State.grainCommit
  extract_lets +onlyGivenNames x1
  generalize x1 = y2 at *
  extract_lets +onlyGivenNames x3
  generalize x3 = y4 at *
  refine Keep.ite ?_ (Keep.ite (Keep.step (State.grainStop_keep ..) h0 rfl) (Keep.ite (Keep.step (State.grainRestart_keep ..) h0 rfl) h0))
  extract_lets +onlyGivenNames x5
  refine Keep.cut (x := x5) (Keep.step (State.grainStart_keep ..) h0 rfl) (fun h6 => ?_)
  generalize x5 = y7 at *
  exact (Keep.tim h6 _ rfl)

theorem State.timAfter_keep (s : State) (o : State) : Keep 0x580d82bc06701b0c s (State.timAfter s o) := by
  have h0 := Keep.refl 0x580d82bc06701b0c s
  unfold State.timAfter
  extract_lets +onlyGivenNames x1
  refine Keep.cut (x := x1) ?_ (fun h2 => ?_)
  · unfold x1
    clear x1
    refine Keep.forEach ?_ (fun a4 u3 => ?_)
    · exact h0
    have h5 := Keep.refl 0x580d82bc06701b0c u3
    exact (Keep.step (State.grainCommit_keep ..) h5 rfl)
  generalize x1 = y6 at *
  extract_lets +onlyGivenNames x7
  generalize x7 = y8 at *
  extract_lets +onlyGivenNames x9
  generalize x9 = y10 at *
  extract_lets +onlyGivenNames x11
  refine Keep.cut (x := x11) (Keep.tim h2 _ rfl) (fun h12 => ?_)
  generalize x11 = y13 at *
  extract_lets +onlyGivenNames x14
  generalize x14 = y15 at *
  extract_lets +onlyGivenNames x16
  generalize x16 = y17 at *
  extract_lets +onlyGivenNames x18
  refine Keep.cut (x := x18) (Keep.tim h12 _ rfl) (fun h19 => ?_)
  generalize x18 = y20 at *
  extract_lets +onlyGivenNames x21
  generalize x21 = y22 at *
  extract_lets +onlyGivenNames x23
  refine Keep.cut (x := x23) (Keep.wr .tim h19 rfl rfl) (fun h24 => ?_)
  generalize x23 = y25 at *
  extract_lets +onlyGivenNames x26
  refine Keep.cut (x := x26) ?_ (fun h27 => ?_)
  · unfold x26
    clear x26
    refine Keep.forEach ?_ (fun a29 u28 => ?_)
    · exact h24
    have h30 := Keep.refl 0x580d82bc06701b0c u28
    exact (Keep.step (State.raise_keep ..) h30 rfl)
  generalize x26 = y31 at *
  extract_lets +onlyGivenNames x32
  generalize x32 = y33 at *
  extract_lets +onlyGivenNames x34
  refine Keep.cut (x := x34) (Keep.step (State.setTim_keep ..) h27 rfl) (fun h35 => ?_)
  generalize x34 = y36 at *
  exact (Keep.step (State.timeCheck_keep ..) (Keep.step (State.noteGate_keep ..) h35 rfl) rfl)

theorem State.portCommit_keep (s : State) (o : State) (n : Nat) : Keep 0x5000120400108016 s (State.portCommit s o n) := by
  have h0 := Keep.refl 0x5000120400108016 s
  unfold State.portCommit
  extract_lets +onlyGivenNames x1
  refine Keep.cut (x := x1) (Keep.step (State.showSpeed_keep ..) h0 rfl) (fun h2 => ?_)
  generalize x1 = y3 at *
  extract_lets +onlyGivenNames x4
  generalize x4 = y5 at *
  extract_lets +onlyGivenNames x6
  generalize x6 = y7 at *
  refine Keep.ite ?_ (Keep.ite (Keep.step (State.linkMoved_keep ..) (Keep.step (State.setLstate_keep ..) (Keep.step (State.cutFrames_keep ..) (Keep.step (State.cutReceive_keep ..) h2 rfl) rfl) rfl) rfl) (Keep.ite (Keep.step (State.linkMoved_keep ..) (Keep.step (State.resetPort_keep ..) h2 rfl) rfl) h2))
  extract_lets +onlyGivenNames x8
  generalize x8 = y9 at *
  extract_lets +onlyGivenNames x10
  refine Keep.cut (x := x10) (Keep.step (State.setPort_keep ..) h2 rfl) (fun h11 => ?_)
  generalize x10 = y12 at *
  exact (Keep.ite h11 (Keep.step (State.setLstate_keep ..) h11 rfl))

theorem State.subCommit_keep (s : State) (o : State) (n : Nat) : Keep 0x1000120400108014 s (State.subCommit s o n) := by
  have h0 := Keep.refl 0x1000120400108014 s
  unfold State.subCommit
  extract_lets +onlyGivenNames x1
  generalize x1 = y2 at *
  extract_lets +onlyGivenNames x3
  generalize x3 = y4 at *
  extract_lets +onlyGivenNames x5
  generalize x5 = y6 at *
  exact (Keep.ite (Keep.step (State.setLstate_keep ..) (Keep.step (State.setPort_keep ..) h0 rfl) rfl) (Keep.ite (Keep.step (State.setLstate_keep ..) (Keep.step (State.cutFrames_keep ..) (Keep.step (State.cutReceive_keep ..) h0 rfl) rfl) rfl) (Keep.ite (Keep.step (State.resetPort_keep ..) h0 rfl) h0)))

theorem State.fptAfter_keep (s : State) (o : State) : Keep 0x5000120400108016 s (State.fptAfter s o) := by
  have h0 := Keep.refl 0x5000120400108016 s
  unfold State.fptAfter
  extract_lets +onlyGivenNames x1
  refine Keep.cut (x := x1) ?_ (fun h2 => ?_)
  · unfold x1
    clear x1
    refine Keep.forEach ?_ (fun a4 u3 => ?_)
    · exact h0
    have h5 := Keep.refl 0x5000120400108016 u3
    exact (Keep.step (State.portCommit_keep ..) h5 rfl)
  generalize x1 = y6 at *
  extract_lets +onlyGivenNames x7
  refine Keep.cut (x := x7) ?_ (fun h8 => ?_)
  · unfold x7
    clear x7
    refine Keep.forEach ?_ (fun a10 u9 => ?_)
    · exact h2
    have h11 := Keep.refl 0x5000120400108016 u9
    extract_lets +onlyGivenNames x12
    generalize x12 = y13 at *
    extract_lets +onlyGivenNames x14
    refine Keep.cut (x := x14) (Keep.ite (Keep.step (State.raise_keep ..) h11 rfl) h11) (fun h15 => ?_)
    generalize x14 = y16 at *
    extract_lets +onlyGivenNames x17
    refine Keep.cut (x := x17) (Keep.ite (Keep.step (State.setXport_keep ..) h15 rfl) h15) (fun h18 => ?_)
    generalize x17 = y19 at *
    refine Keep.step (State.showFabric_keep ..) ?_ rfl
    refine Keep.forEach ?_ (fun a21 u20 => ?_)
    · exact h18
    have h22 := Keep.refl 0x5000120400108016 u20
    exact (Keep.step (State.subCommit_keep ..) h22 rfl)
  generalize x7 = y23 at *
  extract_lets +onlyGivenNames x24
  refine Keep.cut (x := x24) ?_ (fun h25 => ?_)
  · unfold x24
    clear x24
    refine Keep.forEach ?_ (fun a27 u26 => ?_)
    · exact h8
    have h28 := Keep.refl 0x5000120400108016 u26
    exact (Keep.ite (Keep.step (State.pairReset_keep ..) h28 rfl) h28)
  generalize x24 = y29 at *
  refine Keep.forEach ?_ (fun a31 u30 => ?_)
  · exact h25
  have h32 := Keep.refl 0x5000120400108016 u30
  extract_lets +onlyGivenNames x33
  generalize x33 = y34 at *
  extract_lets +onlyGivenNames x35
  refine Keep.cut (x := x35) (Keep.ite (Keep.step (State.setPair_keep ..) h32 rfl) h32) (fun h36 => ?_)
  generalize x35 = y37 at *
  exact (Keep.step (State.pairSettle_keep ..) (Keep.step (State.bypCheck_keep ..) h36 rfl) rfl)

theorem State.pplAfter_keep (s : State) (o : State) : Keep 0x20 s (State.pplAfter s o) := by
  have h0 := Keep.refl 0x20 s
  unfold State.pplAfter
  refine Keep.forEach ?_ (fun a2 u1 => ?_)
  · exact h0
  have h3 := Keep.refl 0x20 u1
  exact (Keep.ite (Keep.wr .ppl (Keep.wr .ppl h3 rfl rfl) rfl rfl) h3)

theorem State.showLoads_keep (s : State) : Keep 0x80 s (State.showLoads s) := by
  have h0 := Keep.refl 0x80 s
  unfold State.showLoads
  exact (Keep.wr .svi (Keep.wr .svi h0 rfl rfl) rfl rfl)

theorem State.sviAfter_keep (s : State) (o : State) : Keep 0x400400100084 s (State.sviAfter s o) := by
  have h0 := Keep.refl 0x400400100084 s
  unfold State.sviAfter
  extract_lets +onlyGivenNames x1
  refine Keep.cut (x := x1) ?_ (fun h2 => ?_)
  · unfold x1
    clear x1
    refine Keep.forEach ?_ (fun a4 u3 => ?_)
    · exact h0
    have h5 := Keep.refl 0x400400100084 u3
    extract_lets +onlyGivenNames x6
    generalize x6 = y7 at *
    extract_lets +onlyGivenNames x8
    generalize x8 = y9 at *
    exact (Keep.ite (Keep.step (State.idleSub_keep ..) h5 rfl) h5)
  generalize x1 = y10 at *
  exact (Keep.step (State.showLoads_keep ..) (Keep.step (State.showSubs_keep ..) h2 rfl) rfl)

theorem State.alnAfter_keep (s : State) (o : State) : Keep 0x4001808400100304 s (State.alnAfter s o) := by
  have h0 := Keep.refl 0x4001808400100304 s
  unfold State.alnAfter
  refine Keep.step (State.showPheLoad_keep ..) ?_ rfl
  refine Keep.forEach ?_ (fun a2 u1 => ?_)
  · exact h0
  have h3 := Keep.refl 0x4001808400100304 u1
  exact (Keep.ite (Keep.ite (Keep.step (State.raise_keep ..) (Keep.step (State.beginBay_keep ..) h3 rfl) rfl) h3) (Keep.ite (Keep.step (State.startBay_keep ..) h3 rfl) (Keep.ite (Keep.step (State.bayRestartPhe_keep ..) h3 rfl) h3)))

theorem State.pheAfter_keep (s : State) (o : State) : Keep 0x1008400100204 s (State.pheAfter s o) := by
  have h0 := Keep.refl 0x1008400100204 s
  unfold State.pheAfter
  extract_lets +onlyGivenNames x1
  generalize x1 = y2 at *
  extract_lets +onlyGivenNames x3
  refine Keep.cut (x := x3) ?_ (fun h4 => ?_)
  · unfold x3
    clear x3
    refine Keep.forEach ?_ (fun a6 u5 => ?_)
    · exact h0
    have h7 := Keep.refl 0x1008400100204 u5
    exact (Keep.ite (Keep.step (State.chRestartNow_keep ..) h7 rfl) (Keep.step (State.chStop_keep ..) h7 rfl))
  generalize x3 = y8 at *
  extract_lets +onlyGivenNames x9
  generalize x9 = y10 at *
  extract_lets +onlyGivenNames x11
  refine Keep.cut (x := x11) ?_ (fun h12 => ?_)
  · unfold x11
    clear x11
    refine Keep.forEach ?_ (fun a14 u13 => ?_)
    · exact h4
    have h15 := Keep.refl 0x1008400100204 u13
    exact (Keep.step (State.grpRestart_keep ..) h15 rfl)
  generalize x11 = y16 at *
  exact (Keep.wr .phe (Keep.wr .phe (Keep.step (State.showPheLoad_keep ..) h12 rfl) rfl rfl) rfl rfl)

theorem State.cmpRestart_keep (s : State) (c : Nat) : Keep 0x4006000400100404 s (State.cmpRestart s c) := by
  have h0 := Keep.refl 0x4006000400100404 s
  unfold State.cmpRestart
  exact (Keep.step (State.setCmp_keep ..) (Keep.step (State.setCmpState_keep ..) h0 rfl) rfl)

theorem State.gsubRestart_keep (s : State) (g : Nat) : Keep 0x2000400100404 s (State.gsubRestart s g) := by
  have h0 := Keep.refl 0x2000400100404 s
  unfold State.gsubRestart
  extract_lets +onlyGivenNames x1
  refine Keep.cut (x := x1) (Keep.step (State.setGsubState_keep ..) (Keep.step (State.setGsub_keep ..) h0 rfl) rfl) (fun h2 => ?_)
  generalize x1 = y3 at *
  exact (Keep.setWord .trp (Keep.setWord .trp (Keep.setWord .trp (Keep.setWord .trp h2 rfl rfl) rfl rfl) rfl rfl) rfl rfl)

theorem State.termStart_keep (s : State) (t : Nat) : Keep 0x5002020400100404 s (State.termStart s t) := by
  have h0 := Keep.refl 0x5002020400100404 s
  unfold State.termStart
  extract_lets +onlyGivenNames x1
  generalize x1 = y2 at *
  extract_lets +onlyGivenNames x3
  refine Keep.cut (x := x3) (Keep.step (State.armTo_keep ..) h0 rfl) (fun h4 => ?_)
  generalize x3 = y5 at *
  exact (Keep.step (State.showOut_keep ..) (Keep.step (State.setTerm_keep ..) h4 rfl) rfl)

theorem State.trpAfter_keep (s : State) (o : State) : Keep 0x5006020400100c04 s (State.trpAfter s o) := by
  have h0 := Keep.refl 0x5006020400100c04 s
  unfold State.trpAfter
  extract_lets +onlyGivenNames x1
  generalize x1 = y2 at *
  extract_lets +onlyGivenNames x3
  generalize x3 = y4 at *
  extract_lets +onlyGivenNames x5
  generalize x5 = y6 at *
  extract_lets +onlyGivenNames x7
  refine Keep.cut (x := x7) ?_ (fun h8 => ?_)
  · unfold x7
    clear x7
    refine Keep.forEach ?_ (fun a10 u9 => ?_)
    · exact h0
    have h11 := Keep.refl 0x5006020400100c04 u9
    exact (Keep.step (State.setCmp_keep ..) (Keep.step (State.setCmpState_keep ..) h11 rfl) rfl)
  generalize x7 = y12 at *
  extract_lets +onlyGivenNames x13
  generalize x13 = y14 at *
  extract_lets +onlyGivenNames x15
  refine Keep.cut (x := x15) ?_ (fun h16 => ?_)
  · unfold x15
    clear x15
    refine Keep.forEach ?_ (fun a18 u17 => ?_)
    · exact h8
    have h19 := Keep.refl 0x5006020400100c04 u17
    exact (Keep.step (State.cmpRestart_keep ..) h19 rfl)
  generalize x15 = y20 at *
  extract_lets +onlyGivenNames x21
  refine Keep.cut (x := x21) (Keep.step (State.evalTerms_keep ..) h16 rfl) (fun h22 => ?_)
  generalize x21 = y23 at *
  extract_lets +onlyGivenNames x24
  refine Keep.cut (x := x24) ?_ (fun h25 => ?_)
  · unfold x24
    clear x24
    refine Keep.forEach ?_ (fun a27 u26 => ?_)
    · exact h22
    have h28 := Keep.refl 0x5006020400100c04 u26
    exact (Keep.step (State.termStart_keep ..) h28 rfl)
  generalize x24 = y29 at *
  extract_lets +onlyGivenNames x30
  refine Keep.cut (x := x30) ?_ (fun h31 => ?_)
  · unfold x30
    clear x30
    refine Keep.forEach ?_ (fun a33 u32 => ?_)
    · exact h25
    have h34 := Keep.refl 0x5006020400100c04 u32
    exact (Keep.ite (Keep.step (State.pubStart_keep ..) h34 rfl) (Keep.ite (Keep.step (State.setPub_keep ..) h34 rfl) h34))
  generalize x30 = y35 at *
  extract_lets +onlyGivenNames x36
  refine Keep.cut (x := x36) ?_ (fun h37 => ?_)
  · unfold x36
    clear x36
    refine Keep.forEach ?_ (fun a39 u38 => ?_)
    · exact h31
    have h40 := Keep.refl 0x5006020400100c04 u38
    extract_lets +onlyGivenNames x41
    generalize x41 = y42 at *
    extract_lets +onlyGivenNames x43
    generalize x43 = y44 at *
    exact (Keep.ite (Keep.step (State.gsubRestart_keep ..) h40 rfl) h40)
  generalize x36 = y45 at *
  extract_lets +onlyGivenNames x46
  refine Keep.cut (x := x46) (Keep.ite (Keep.wr .trp (Keep.wr .trp h37 rfl rfl) rfl rfl) h37) (fun h47 => ?_)
  generalize x46 = y48 at *
  exact (Keep.step (State.showTrp_keep ..) h47 rfl)

theorem State.recAfter_keep (s : State) (o : State) : Keep 0x4000400140804 s (State.recAfter s o) := by
  have h0 := Keep.refl 0x4000400140804 s
  unfold State.recAfter
  extract_lets +onlyGivenNames x1
  generalize x1 = y2 at *
  refine Keep.step (State.showSegs_keep ..) ?_ rfl
  refine Keep.forEach ?_ (fun a4 u3 => ?_)
  · exact h0
  have h5 := Keep.refl 0x4000400140804 u3
  exact (Keep.step (State.recRestart_keep ..) h5 rfl)

theorem State.loadMirror_keep (s : State) (n : Nat) : Keep 0x10000400102004 s (State.loadMirror s n) := by
  have h0 := Keep.refl 0x10000400102004 s
  unfold State.loadMirror
  extract_lets +onlyGivenNames x1
  generalize x1 = y2 at *
  extract_lets +onlyGivenNames x3
  generalize x3 = y4 at *
  extract_lets +onlyGivenNames x5
  generalize x5 = y6 at *
  extract_lets +onlyGivenNames x7
  refine Keep.cut (x := x7) (Keep.wr .stg (Keep.wr .stg h0 rfl rfl) rfl rfl) (fun h8 => ?_)
  generalize x7 = y9 at *
  extract_lets +onlyGivenNames x10
  generalize x10 = y11 at *
  extract_lets +onlyGivenNames x12
  refine Keep.cut (x := x12) (Keep.step (State.setNss_keep ..) h8 rfl) (fun h13 => ?_)
  generalize x12 = y14 at *
  exact (Keep.step (State.setMirror_keep ..) h13 rfl)

theorem State.stgAfter_keep (s : State) (o : State) : Keep 0x1010004400702004 s (State.stgAfter s o) := by
  have h0 := Keep.refl 0x1010004400702004 s
  unfold State.stgAfter
  extract_lets +onlyGivenNames x1
  generalize x1 = y2 at *
  extract_lets +onlyGivenNames x3
  refine Keep.cut (x := x3) ?_ (fun h4 => ?_)
  · unfold x3
    clear x3
    refine Keep.forEach ?_ (fun a6 u5 => ?_)
    · exact h0
    have h7 := Keep.refl 0x1010004400702004 u5
    extract_lets +onlyGivenNames x8
    refine Keep.cut (x := x8) (Keep.step (State.loadMirror_keep ..) (Keep.step (State.stopRebuild_keep ..) h7 rfl) rfl) (fun h9 => ?_)
    generalize x8 = y10 at *
    extract_lets +onlyGivenNames x11
    generalize x11 = y12 at *
    extract_lets +onlyGivenNames x13
    refine Keep.cut (x := x13) (Keep.step (State.setNss_keep ..) h9 rfl) (fun h14 => ?_)
    generalize x13 = y15 at *
    exact (Keep.step (State.updOnline_keep ..) h14 rfl)
  generalize x3 = y16 at *
  extract_lets +onlyGivenNames x17
  refine Keep.cut (x := x17) ?_ (fun h18 => ?_)
  · unfold x17
    clear x17
    refine Keep.forEach ?_ (fun a20 u19 => ?_)
    · exact h4
    have h21 := Keep.refl 0x1010004400702004 u19
    exact (Keep.step (State.mirrorNext_keep ..) h21 rfl)
  generalize x17 = y22 at *
  exact (Keep.step (State.stgSettle_keep ..) (Keep.step (State.slotsCommit_keep ..) h18 rfl) rfl)

theorem State.pinReset_keep (s : State) (i : Nat) (q : Nat) (v : Nat) : Keep 0x1008100406104004 s (State.pinReset s i q v) := by
  have h0 := Keep.refl 0x1008100406104004 s
  unfold State.pinReset
  extract_lets +onlyGivenNames x1
  refine Keep.cut (x := x1) (Keep.step (State.setWinNat_keep ..) (Keep.step (State.setQp_keep ..) h0 rfl) rfl) (fun h2 => ?_)
  generalize x1 = y3 at *
  extract_lets +onlyGivenNames x4
  refine Keep.cut (x := x4) (Keep.step (State.setHeld_keep ..) h2 rfl) (fun h5 => ?_)
  generalize x4 = y6 at *
  exact (Keep.step (State.rateStart_keep ..) (Keep.step (State.setSlot_keep ..) h5 rfl) rfl)

theorem State.rmaAfter_keep (s : State) (o : State) : Keep 0x500a120406104404 s (State.rmaAfter s o) := by
  have h0 := Keep.refl 0x500a120406104404 s
  unfold State.rmaAfter
  extract_lets +onlyGivenNames x1
  refine Keep.cut (x := x1) ?_ (fun h2 => ?_)
  · unfold x1
    clear x1
    refine Keep.forEach ?_ (fun a4 u3 => ?_)
    · exact h0
    have h5 := Keep.refl 0x500a120406104404 u3
    exact (Keep.step (State.pinReset_keep ..) h5 rfl)
  generalize x1 = y6 at *
  exact (Keep.step (State.twinCommit_keep ..) h2 rfl)

theorem State.cpuAfter_keep (s : State) (o : State) : Keep 0x200000010000 s (State.cpuAfter s o) := by
  have h0 := Keep.refl 0x200000010000 s
  unfold State.cpuAfter
  refine Keep.forEach ?_ (fun a2 u1 => ?_)
  · exact h0
  have h3 := Keep.refl 0x200000010000 u1
  refine Keep.ite ?_ h3
  extract_lets +onlyGivenNames x4
  refine Keep.cut (x := x4) (Keep.step (State.chanAbort_keep ..) h3 rfl) (fun h5 => ?_)
  generalize x4 = y6 at *
  exact (Keep.step (State.showChan_keep ..) (Keep.step (State.setChan_keep ..) h5 rfl) rfl)

theorem State.calAfter_keep (s : State) (o : State) : Keep 0x100100000 s (State.calAfter s o) := by
  have h0 := Keep.refl 0x100100000 s
  unfold State.calAfter
  extract_lets +onlyGivenNames x1
  refine Keep.cut (x := x1) (Keep.calFcFrom h0 _ rfl) (fun h2 => ?_)
  generalize x1 = y3 at *
  refine Keep.forEach ?_ (fun a5 u4 => ?_)
  · exact h2
  have h6 := Keep.refl 0x100100000 u4
  exact (Keep.ite (Keep.step (State.histClear_keep ..) h6 rfl) h6)

theorem State.unbindQueue_keep (s : State) (q : Nat) : Keep 0x1000100400108004 s (State.unbindQueue s q) := by
  have h0 := Keep.refl 0x1000100400108004 s
  unfold State.unbindQueue
  refine Keep.forEach ?_ (fun a2 u1 => ?_)
  · exact (Keep.step (State.setSchQ_keep ..) h0 rfl)
  have h3 := Keep.refl 0x1000100400108004 u1
  exact (Keep.step (State.freeCells_keep ..) (Keep.step (State.raise_keep ..) (Keep.bump .sch (Keep.count .sch h3 rfl rfl) rfl rfl) rfl) rfl)

theorem State.schAfter_keep (s : State) (o : State) : Keep 0x1000100400108004 s (State.schAfter s o) := by
  have h0 := Keep.refl 0x1000100400108004 s
  unfold State.schAfter
  extract_lets +onlyGivenNames x1
  refine Keep.cut (x := x1) ?_ (fun h2 => ?_)
  · unfold x1
    clear x1
    refine Keep.forEach ?_ (fun a4 u3 => ?_)
    · exact h0
    have h5 := Keep.refl 0x1000100400108004 u3
    extract_lets +onlyGivenNames x6
    generalize x6 = y7 at *
    extract_lets +onlyGivenNames x8
    refine Keep.cut (x := x8) (Keep.step (State.portUse_keep ..) h5 rfl) (fun h9 => ?_)
    generalize x8 = y10 at *
    exact (Keep.step (State.portUse_keep ..) h9 rfl)
  generalize x1 = y11 at *
  refine Keep.forEach ?_ (fun a13 u12 => ?_)
  · exact h2
  have h14 := Keep.refl 0x1000100400108004 u12
  exact (Keep.step (State.unbindQueue_keep ..) h14 rfl)

theorem State.afterSwap_keep (s : State) (b : Blk) (o : State) : Keep 0x589ff2ff0675ffbe s (State.afterSwap s b o) := by
  have h0 := Keep.refl 0x589ff2ff0675ffbe s
  unfold State.afterSwap
  split
  · exact (Keep.step (State.pwrAfter_keep ..) h0 rfl)
  · exact (Keep.step (State.evtAfter_keep ..) h0 rfl)
  · exact (Keep.step (State.timAfter_keep ..) h0 rfl)
  · exact (Keep.step (State.fptAfter_keep ..) h0 rfl)
  · exact (Keep.step (State.pplAfter_keep ..) h0 rfl)
  · exact (Keep.step (State.sviAfter_keep ..) h0 rfl)
  · exact (Keep.step (State.alnAfter_keep ..) h0 rfl)
  · exact (Keep.step (State.pheAfter_keep ..) h0 rfl)
  · exact (Keep.step (State.trpAfter_keep ..) h0 rfl)
  · exact (Keep.step (State.recAfter_keep ..) h0 rfl)
  · exact (Keep.step (State.stgAfter_keep ..) h0 rfl)
  · exact (Keep.step (State.rmaAfter_keep ..) h0 rfl)
  · exact (Keep.step (State.cpuAfter_keep ..) h0 rfl)
  · exact (Keep.step (State.calAfter_keep ..) h0 rfl)
  · exact (Keep.step (State.showSegs_keep ..) h0 rfl)
  · exact h0
  · exact h0
  · exact h0
  · exact (Keep.step (State.schAfter_keep ..) h0 rfl)
  · exact h0
  · exact h0
  · exact h0

theorem State.commitBlk_keep (s : State) (b : Blk) (grain : Option Nat) : Keep 0x58dff3ff6e7fffff s (State.commitBlk s b grain) := by
  have h0 := Keep.refl 0x58dff3ff6e7fffff s
  unfold State.commitBlk
  extract_lets +onlyGivenNames x1
  refine Keep.cut (x := x1) h0 (fun h2 => ?_)
  generalize x1 = y3 at *
  extract_lets +onlyGivenNames x4
  refine Keep.cut (x := x4) (Keep.step (State.beforeSwap_keep ..) h0 rfl) (fun h5 => ?_)
  generalize x4 = y6 at *
  extract_lets +onlyGivenNames x7
  refine Keep.cut (x := x7) (Keep.step (State.afterSwap_keep ..) (Keep.step (State.candidate_keep ..) h5 rfl) rfl) (fun h8 => ?_)
  generalize x7 = y9 at *
  extract_lets +onlyGivenNames x10
  refine Keep.cut (x := x10) (Keep.step (State.endStage_keep ..) (Keep.step (State.freeMark_keep ..) h8 rfl) rfl) (fun h11 => ?_)
  generalize x10 = y12 at *
  extract_lets +onlyGivenNames x13
  refine Keep.cut (x := x13) (Keep.wrAny h11 rfl) (fun h14 => ?_)
  generalize x13 = y15 at *
  exact (Keep.step (State.stageTold_keep ..) h14 rfl)

theorem State.refuseStage_keep (s : State) (b : Blk) (d : Nat) : Keep 0x207fffff s (State.refuseStage s b d) := by
  have h0 := Keep.refl 0x207fffff s
  unfold State.refuseStage
  exact (Keep.wrAny (Keep.step (State.endStage_keep ..) h0 rfl) rfl)

end Sys2Proof.Machine
end

