-- ==== Sys2Proof/Laws/KeepDma.lean ====
section
/-!
SUPPORT. What each operation and each command of Machine/Dma.lean can do to the state: the zones and parts it stays within.
-/
namespace Sys2Proof.Machine

theorem State.setDmaCh_keep (s : State) (ch : Nat) (c : DmaCh) : Keep 0x20000000000000 s (State.setDmaCh s ch c) := by
  have h0 := Keep.refl 0x20000000000000 s
  unfold State.setDmaCh
  exact (Keep.dma h0 _ rfl)

theorem State.showDma_keep (s : State) (ch : Nat) : Keep 0x20000 s (State.showDma s ch) := by
  have h0 := Keep.refl 0x20000 s
  unfold State.showDma
  extract_lets +onlyGivenNames x1
  generalize x1 = y2 at *
  exact (Keep.wr .dma (Keep.wr64 .dma (Keep.wr64 .dma h0 rfl rfl) rfl rfl) rfl rfl)

theorem State.dropDmaReads_keep (s : State) (ch : Nat) : Keep 0x1000000000 s (State.dropDmaReads s ch) := by
  have h0 := Keep.refl 0x1000000000 s
  unfold State.dropDmaReads
  exact (Keep.hif h0 _ rfl)

theorem State.dmaError_keep (s : State) (ch : Nat) (err : Nat) : Keep 0x20001400120004 s (State.dmaError s ch err) := by
  have h0 := Keep.refl 0x20001400120004 s
  unfold State.dmaError
  extract_lets +onlyGivenNames x1
  generalize x1 = y2 at *
  extract_lets +onlyGivenNames x3
  refine Keep.cut (x := x3) (Keep.step (State.setDmaCh_keep ..) (Keep.step (State.dropDmaReads_keep ..) h0 rfl) rfl) (fun h4 => ?_)
  generalize x3 = y5 at *
  extract_lets +onlyGivenNames x6
  refine Keep.cut (x := x6) (Keep.step (State.showDma_keep ..) (Keep.wr .dma (Keep.wr .dma h4 rfl rfl) rfl rfl) rfl) (fun h7 => ?_)
  generalize x6 = y8 at *
  exact (Keep.step (State.raise_keep ..) (Keep.count .dma h7 rfl rfl) rfl)

theorem State.dmaFail_keep (s : State) (ch : Nat) (err : Nat) : Keep 0x20001400120004 s (State.dmaFail s ch err) := by
  have h0 := Keep.refl 0x20001400120004 s
  unfold State.dmaFail
  extract_lets +onlyGivenNames x1
  refine Keep.cut (x := x1) (Keep.step (State.dropDmaReads_keep ..) h0 rfl) (fun h2 => ?_)
  generalize x1 = y3 at *
  extract_lets +onlyGivenNames x4
  generalize x4 = y5 at *
  exact (Keep.ite (Keep.step (State.dmaError_keep ..) h2 rfl) (Keep.step (State.setDmaCh_keep ..) h2 rfl))

theorem State.dmaPaused_keep (s : State) (ch : Nat) : Keep 0x400120004 s (State.dmaPaused s ch) := by
  have h0 := Keep.refl 0x400120004 s
  unfold State.dmaPaused
  exact (Keep.step (State.raise_keep ..) (Keep.step (State.showDma_keep ..) (Keep.wr .dma h0 rfl rfl) rfl) rfl)

theorem State.dmaAsk_keep (s : State) (ch : Nat) (dst : Bool) (a : Nat) (n : Nat) : Keep 0x1000001400300004 s (State.dmaAsk s ch dst a n) := by
  have h0 := Keep.refl 0x1000001400300004 s
  unfold State.dmaAsk
  extract_lets +onlyGivenNames x1
  generalize x1 = y2 at *
  exact (Keep.step (State.dmaRead_keep ..) h0 rfl)

theorem State.dmaHostWrite_keep (s : State) (a : Nat) (b : List Byte) : Keep 0x1000000400300004 s (State.dmaHostWrite s a b) := by
  have h0 := Keep.refl 0x1000000400300004 s
  unfold State.dmaHostWrite
  refine Keep.forEach ?_ (fun a2 u1 => ?_)
  · exact h0
  have h3 := Keep.refl 0x1000000400300004 u1
  exact (Keep.step (State.dmaWrite_keep ..) h3 rfl)

theorem State.dmaPut_keep (s : State) (space : Nat) (a : Nat) (b : List Byte) : Keep 0x1040018400340004 s (State.dmaPut s space a b) := by
  have h0 := Keep.refl 0x1040018400340004 s
  unfold State.dmaPut
  split
  · exact (Keep.step (State.rtWrite_keep ..) h0 rfl)
  · extract_lets +onlyGivenNames x1
    generalize x1 = y2 at *
    extract_lets +onlyGivenNames x3
    generalize x3 = y4 at *
    extract_lets +onlyGivenNames x5
    refine Keep.cut (x := x5) (Keep.step (State.bulkTouch_keep ..) h0 rfl) (fun h6 => ?_)
    generalize x5 = y7 at *
    exact (Keep.step (State.bulkWrite_keep ..) (Keep.step (State.showSegs_keep ..) (Keep.mem h6 _ rfl) rfl) rfl)
  · exact (Keep.step (State.dmaHostWrite_keep ..) h0 rfl)

theorem State.dmaBurst_keep (s : State) (ch : Nat) : Keep 0x1060019400340004 s (State.dmaBurst s ch) := by
  have h0 := Keep.refl 0x1060019400340004 s
  unfold State.dmaBurst
  extract_lets +onlyGivenNames x1
  generalize x1 = y2 at *
  extract_lets +onlyGivenNames x3
  generalize x3 = y4 at *
  extract_lets +onlyGivenNames x5
  generalize x5 = y6 at *
  refine Keep.ite (Keep.step (State.dmaPut_keep ..) (Keep.step (State.setDmaCh_keep ..) h0 rfl) rfl) ?_
  extract_lets +onlyGivenNames x7
  refine Keep.cut (x := x7) (Keep.step (State.setDmaCh_keep ..) h0 rfl) (fun h8 => ?_)
  generalize x7 = y9 at *
  extract_lets +onlyGivenNames x10
  refine Keep.cut (x := x10) (Keep.ite (Keep.step (State.dmaAsk_keep ..) h8 rfl) h8) (fun h11 => ?_)
  generalize x10 = y12 at *
  exact (Keep.ite (Keep.step (State.dmaAsk_keep ..) h11 rfl) h11)

theorem State.dmaIssue_keep (s : State) (ch : Nat) (y2 : Nat) : Keep 0x1060019400340004 s (State.dmaIssue s ch y2) := by
  induction y2 generalizing s ch
  · have h0 := Keep.refl 0x1060019400340004 s
    unfold State.dmaIssue
    exact h0
  · rename_i y2 ih
    have h0 := Keep.refl 0x1060019400340004 s
    unfold State.dmaIssue
    extract_lets +onlyGivenNames x1
    generalize x1 = y2 at *
    exact (Keep.ite h0 (Keep.step (ih ..) (Keep.step (State.dmaBurst_keep ..) h0 rfl) rfl))

theorem State.dmaGo_keep (s : State) (ch : Nat) : Keep 0x1060019400340004 s (State.dmaGo s ch) := by
  have h0 := Keep.refl 0x1060019400340004 s
  unfold State.dmaGo
  extract_lets +onlyGivenNames x1
  generalize x1 = y2 at *
  extract_lets +onlyGivenNames x3
  generalize x3 = y4 at *
  exact (Keep.step (State.dmaIssue_keep ..) (Keep.step (State.setDmaCh_keep ..) h0 rfl) rfl)

theorem State.dmaLoad_keep (s : State) (ch : Nat) (a : Nat) (go : Bool) : Keep 0x1060019400360004 s (State.dmaLoad s ch a go) := by
  have h0 := Keep.refl 0x1060019400360004 s
  unfold State.dmaLoad
  extract_lets +onlyGivenNames x1
  refine Keep.cut (x := x1) (Keep.wr64 .dma h0 rfl rfl) (fun h2 => ?_)
  generalize x1 = y3 at *
  extract_lets +onlyGivenNames x4
  generalize x4 = y5 at *
  extract_lets +onlyGivenNames x6
  refine Keep.cut (x := x6) (Keep.step (State.showDma_keep ..) (Keep.step (State.setDmaCh_keep ..) h2 rfl) rfl) (fun h7 => ?_)
  generalize x6 = y8 at *
  extract_lets +onlyGivenNames x9
  generalize x9 = y10 at *
  exact (Keep.ite (Keep.step (State.dmaError_keep ..) h7 rfl) (Keep.ite (Keep.step (State.dmaGo_keep ..) h7 rfl) h7))

theorem State.dmaComplete_keep (s : State) (ch : Nat) : Keep 0x1060019400360004 s (State.dmaComplete s ch) := by
  have h0 := Keep.refl 0x1060019400360004 s
  unfold State.dmaComplete
  extract_lets +onlyGivenNames x1
  generalize x1 = y2 at *
  extract_lets +onlyGivenNames x3
  refine Keep.cut (x := x3) (Keep.count .dma (Keep.count .dma h0 rfl rfl) rfl rfl) (fun h4 => ?_)
  generalize x3 = y5 at *
  extract_lets +onlyGivenNames x6
  refine Keep.cut (x := x6) (Keep.step (State.cal_keep ..) (Keep.step (State.cal_keep ..) h4 rfl) rfl) (fun h7 => ?_)
  generalize x6 = y8 at *
  extract_lets +onlyGivenNames x9
  refine Keep.cut (x := x9) (Keep.ite (Keep.step (State.raise_keep ..) h7 rfl) h7) (fun h10 => ?_)
  generalize x9 = y11 at *
  exact (Keep.ite (Keep.step (State.showDma_keep ..) (Keep.wr .dma h10 rfl rfl) rfl) (Keep.step (State.dmaLoad_keep ..) h10 rfl))

theorem State.dmaNext_keep (s : State) (ch : Nat) : Keep 0x1060019400360004 s (State.dmaNext s ch) := by
  have h0 := Keep.refl 0x1060019400360004 s
  unfold State.dmaNext
  extract_lets +onlyGivenNames x1
  generalize x1 = y2 at *
  refine Keep.ite (Keep.ite (Keep.step (State.dmaError_keep ..) h0 rfl) h0) ?_
  refine Keep.ite (Keep.step (State.dmaComplete_keep ..) h0 rfl) ?_
  refine Keep.ite ?_ (Keep.step (State.dmaIssue_keep ..) h0 rfl)
  refine Keep.ite ?_ (Keep.step (State.dmaPaused_keep ..) h0 rfl)
  extract_lets +onlyGivenNames x3
  refine Keep.cut (x := x3) (Keep.step (State.dmaComplete_keep ..) h0 rfl) (fun h4 => ?_)
  generalize x3 = y5 at *
  exact (Keep.ite (Keep.step (State.dmaPaused_keep ..) h4 rfl) h4)

theorem State.dmaHold_keep (s : State) (ch : Nat) : Keep 0x1060019400360004 s (State.dmaHold s ch) := by
  have h0 := Keep.refl 0x1060019400360004 s
  unfold State.dmaHold
  extract_lets +onlyGivenNames x1
  refine Keep.cut (x := x1) (Keep.wr .dma h0 rfl rfl) (fun h2 => ?_)
  generalize x1 = y3 at *
  exact (Keep.ite (Keep.step (State.dmaNext_keep ..) (Keep.wr .dma h2 rfl rfl) rfl) h2)

theorem State.dmaGoOn_keep (s : State) (ch : Nat) : Keep 0x1060019400360004 s (State.dmaGoOn s ch) := by
  have h0 := Keep.refl 0x1060019400360004 s
  unfold State.dmaGoOn
  extract_lets +onlyGivenNames x1
  refine Keep.cut (x := x1) (Keep.wr .dma h0 rfl rfl) (fun h2 => ?_)
  generalize x1 = y3 at *
  exact (Keep.ite (Keep.step (State.dmaGo_keep ..) (Keep.wr .dma h2 rfl rfl) rfl) h2)

theorem execDmaStart_gives (who : Nat) (ch : Nat) (pause : Bool) (s : State) : Gives 0x1060019400360005 s (execDmaStart who ch pause s) := by
  have h0 := Keep.refl 0x1060019400360005 s
  unfold execDmaStart
  refine Gives.ite ?_ ?_
  · exact Gives.ok (Keep.step (State.refuseWrite_keep ..) h0 rfl)
  · refine Gives.ite ?_ ?_
    · exact Gives.ok h0
    · refine Gives.ite ?_ ?_
      · exact Gives.ok (Keep.ite (Keep.step (State.dmaHold_keep ..) (Keep.step (State.bad_keep ..) h0 rfl) rfl) (Keep.step (State.dmaGoOn_keep ..) (Keep.step (State.bad_keep ..) h0 rfl) rfl))
      · extract_lets +onlyGivenNames x1
        refine Gives.cut (x := x1) (Keep.wr .dma h0 rfl rfl) (fun h2 => ?_)
        generalize x1 = y3 at *
        extract_lets +onlyGivenNames x4
        refine Gives.cut (x := x4) (Keep.wr .dma (Keep.wr .dma (Keep.wr .dma h2 rfl rfl) rfl rfl) rfl rfl) (fun h5 => ?_)
        generalize x4 = y6 at *
        extract_lets +onlyGivenNames x7
        refine Gives.cut (x := x7) (Keep.step (State.dmaLoad_keep ..) (Keep.wr .dma h5 rfl rfl) rfl) (fun h8 => ?_)
        generalize x7 = y9 at *
        refine Gives.ite ?_ ?_
        · exact Gives.ok (Keep.step (State.dmaPaused_keep ..) h8 rfl)
        · exact Gives.ok h8

theorem execDmaPause_gives (ch : Nat) (s : State) : Gives 0x1060019400360004 s (execDmaPause ch s) := by
  have h0 := Keep.refl 0x1060019400360004 s
  unfold execDmaPause
  refine Gives.ite ?_ ?_
  · exact Gives.ok h0
  · exact Gives.ok (Keep.step (State.dmaHold_keep ..) h0 rfl)

theorem execDmaResume_gives (ch : Nat) (s : State) : Gives 0x1060019400360004 s (execDmaResume ch s) := by
  have h0 := Keep.refl 0x1060019400360004 s
  unfold execDmaResume
  refine Gives.ite ?_ ?_
  · exact Gives.ok h0
  · exact Gives.ok (Keep.step (State.dmaGoOn_keep ..) h0 rfl)

theorem execDmaAbort_gives (ch : Nat) (s : State) : Gives 0x20001400120004 s (execDmaAbort ch s) := by
  have h0 := Keep.refl 0x20001400120004 s
  unfold execDmaAbort
  refine Gives.ite ?_ ?_
  · exact Gives.ok (Keep.step (State.dmaFail_keep ..) h0 rfl)
  · exact Gives.ok h0

theorem State.dmaUsed_keep (s : State) (ch : Nat) (dst : Bool) (a : Nat) (n : Nat) : Keep 0x1000000000 s (State.dmaUsed s ch dst a n) := by
  have h0 := Keep.refl 0x1000000000 s
  unfold State.dmaUsed
  extract_lets +onlyGivenNames x1
  generalize x1 = y2 at *
  extract_lets +onlyGivenNames x3
  generalize x3 = y4 at *
  exact (Keep.hif h0 _ rfl)

theorem execDmaReadData_gives (ch : Nat) (ecc : Bool) (s : State) : Gives 0x5060019400360004 s (execDmaReadData ch ecc s) := by
  have h0 := Keep.refl 0x5060019400360004 s
  unfold execDmaReadData
  refine Gives.ite ?_ ?_
  · exact Gives.ok h0
  · extract_lets +onlyGivenNames x1
    generalize x1 = y2 at *
    split
    · exact Gives.ok h0
    · extract_lets +onlyGivenNames x3
      generalize x3 = y4 at *
      extract_lets +onlyGivenNames x5
      generalize x5 = y6 at *
      refine Gives.ite ?_ ?_
      · exact Gives.ok (Keep.step (State.dmaFail_keep ..) h0 rfl)
      · split
        · extract_lets +onlyGivenNames x7
          refine Gives.cut (x := x7) (Keep.step (State.dmaUsed_keep ..) (Keep.ite (Keep.step (State.bulkTouch_keep ..) h0 rfl) h0) rfl) (fun h8 => ?_)
          generalize x7 = y9 at *
          refine Gives.ite ?_ ?_
          · extract_lets +onlyGivenNames x10
            refine Gives.cut (x := x10) (Keep.step (State.dmaUsed_keep ..) h8 rfl) (fun h11 => ?_)
            generalize x10 = y12 at *
            split
            · extract_lets +onlyGivenNames x13
              refine Gives.cut (x := x13) (Keep.step (State.setDmaCh_keep ..) (Keep.step (State.dropDmaReads_keep ..) h11 rfl) rfl) (fun h14 => ?_)
              generalize x13 = y15 at *
              extract_lets +onlyGivenNames x16
              refine Gives.cut (x := x16) (Keep.wr .dma (Keep.wr .dma (Keep.wr .dma h14 rfl rfl) rfl rfl) rfl rfl) (fun h17 => ?_)
              generalize x16 = y18 at *
              exact Gives.ok (Keep.step (State.raise_keep ..) (Keep.count .dma (Keep.step (State.showDma_keep ..) h17 rfl) rfl rfl) rfl)
            · exact Gives.ok (Keep.step (State.dmaNext_keep ..) (Keep.step (State.showDma_keep ..) (Keep.step (State.setDmaCh_keep ..) h11 rfl) rfl) rfl)
          · extract_lets +onlyGivenNames x19
            refine Gives.cut (x := x19) (Keep.step (State.setDmaCh_keep ..) h8 rfl) (fun h20 => ?_)
            generalize x19 = y21 at *
            extract_lets +onlyGivenNames x22
            refine Gives.cutP (x := x22) ?_ (fun h23 => ?_)
            · unfold x22
              clear x22
              refine KeepP.ite ?_ ?_
              · exact KeepP.of (Keep.step (State.freeBytes_keep ..) h20 rfl)
              · exact KeepP.mk h20
            generalize x22 = y24 at *
            exact Gives.ok (Keep.step (State.dmaNext_keep ..) (Keep.step (State.dmaPut_keep ..) h23 rfl) rfl)
        · exact Gives.ok h0

theorem execDmaWriteResponse_gives (ch : Nat) (good : Bool) (s : State) : Gives 0x1060019400360004 s (execDmaWriteResponse ch good s) := by
  have h0 := Keep.refl 0x1060019400360004 s
  unfold execDmaWriteResponse
  refine Gives.ite ?_ ?_
  · exact Gives.ok h0
  · extract_lets +onlyGivenNames x1
    generalize x1 = y2 at *
    split
    · exact Gives.ok h0
    · refine Gives.ite ?_ ?_
      · exact Gives.ok (Keep.step (State.dmaNext_keep ..) (Keep.step (State.showDma_keep ..) (Keep.step (State.setDmaCh_keep ..) h0 rfl) rfl) rfl)
      · exact Gives.ok (Keep.step (State.dmaFail_keep ..) (Keep.step (State.setDmaCh_keep ..) h0 rfl) rfl)

theorem State.dmaStopHost_keep (s : State) : Keep 0x20000000000000 s (State.dmaStopHost s) := by
  have h0 := Keep.refl 0x20000000000000 s
  unfold State.dmaStopHost
  refine Keep.forEach ?_ (fun a2 u1 => ?_)
  · exact h0
  have h3 := Keep.refl 0x20000000000000 u1
  extract_lets +onlyGivenNames x4
  generalize x4 = y5 at *
  exact (Keep.ite (Keep.step (State.setDmaCh_keep ..) h3 rfl) h3)

theorem State.dmaStopped_keep (s : State) : Keep 0x20001400120004 s (State.dmaStopped s) := by
  have h0 := Keep.refl 0x20001400120004 s
  unfold State.dmaStopped
  refine Keep.forEach ?_ (fun a2 u1 => ?_)
  · exact h0
  have h3 := Keep.refl 0x20001400120004 u1
  extract_lets +onlyGivenNames x4
  generalize x4 = y5 at *
  exact (Keep.ite (Keep.step (State.dmaError_keep ..) h3 rfl) h3)

theorem State.dmaIdle_keep (s : State) : Keep 0x20001000020000 s (State.dmaIdle s) := by
  have h0 := Keep.refl 0x20001000020000 s
  unfold State.dmaIdle
  refine Keep.forEach ?_ (fun a2 u1 => ?_)
  · exact (Keep.dma h0 _ rfl)
  have h3 := Keep.refl 0x20001000020000 u1
  exact (Keep.wr .dma (Keep.step (State.dropDmaReads_keep ..) h3 rfl) rfl rfl)

end Sys2Proof.Machine
end

