-- ==== Sys2Proof/Laws/KeepHost.lean ====
section
/-!
SUPPORT. What each operation and each command of Machine/Host.lean can do to the state: the zones and parts it stays within.
-/
namespace Sys2Proof.Machine

theorem State.setQuiesced_keep (s : State) (f : Nat) (b : Bool) : Keep 0x200000 s (State.setQuiesced s f b) := by
  have h0 := Keep.refl 0x200000 s
  unfold State.setQuiesced
  exact (Keep.wr .hif h0 rfl rfl)

theorem State.endCut_keep (s : State) (g : Nat) : Keep 0x2400301004 s (State.endCut s g) := by
  have h0 := Keep.refl 0x2400301004 s
  unfold State.endCut
  extract_lets +onlyGivenNames x1
  generalize x1 = y2 at *
  extract_lets +onlyGivenNames x3
  generalize x3 = y4 at *
  extract_lets +onlyGivenNames x5
  generalize x5 = y6 at *
  extract_lets +onlyGivenNames x7
  refine Keep.cut (x := x7) (Keep.step (State.setRing_keep ..) h0 rfl) (fun h8 => ?_)
  generalize x7 = y9 at *
  refine Keep.ite h8 ?_
  extract_lets +onlyGivenNames x10
  refine Keep.cut (x := x10) (Keep.count .hif (Keep.count .qmg (Keep.step (State.ringCount_keep ..) h8 rfl) rfl rfl) rfl rfl) (fun h11 => ?_)
  generalize x10 = y12 at *
  exact (Keep.step (State.raise_keep ..) (Keep.bump .hif h11 rfl rfl) rfl)

theorem State.dropRing_keep (s : State) (g : Nat) : Keep 0x800003400701004 s (State.dropRing s g) := by
  have h0 := Keep.refl 0x800003400701004 s
  unfold State.dropRing
  exact (Keep.step (State.destroyRing_keep ..) (Keep.step (State.endCut_keep ..) (Keep.step (State.cutRing_keep ..) h0 rfl) rfl) rfl)

theorem State.dropRings_keep (s : State) (f : Nat) : Keep 0x800003400701004 s (State.dropRings s f) := by
  have h0 := Keep.refl 0x800003400701004 s
  unfold State.dropRings
  refine Keep.step (State.resetAdmin_keep ..) ?_ rfl
  refine Keep.forEach ?_ (fun a2 u1 => ?_)
  · exact h0
  have h3 := Keep.refl 0x800003400701004 u1
  exact (Keep.step (State.dropRing_keep ..) h3 rfl)

theorem State.idleRing_keep (s : State) (f : Nat) (g : Nat) : Keep 0x1800003400701005 s (State.idleRing s f g) := by
  have h0 := Keep.refl 0x1800003400701005 s
  unfold State.idleRing
  extract_lets +onlyGivenNames x1
  refine Keep.cut (x := x1) (Keep.step (State.setRingState_keep ..) h0 rfl) (fun h2 => ?_)
  generalize x1 = y3 at *
  exact (Keep.ite (Keep.step (State.endDestroy_keep ..) h2 rfl) (Keep.ite (Keep.step (State.functionFault_keep ..) h2 rfl) h2))

theorem State.settle_keep (s : State) (f : Nat) : Keep 0x1800003400701005 s (State.settle s f) := by
  have h0 := Keep.refl 0x1800003400701005 s
  unfold State.settle
  refine Keep.ite h0 ?_
  extract_lets +onlyGivenNames x1
  refine Keep.cut (x := x1) ?_ (fun h2 => ?_)
  · unfold x1
    clear x1
    refine Keep.forEach ?_ (fun a4 u3 => ?_)
    · exact h0
    have h5 := Keep.refl 0x1800003400701005 u3
    exact (Keep.step (State.endCut_keep ..) h5 rfl)
  generalize x1 = y6 at *
  extract_lets +onlyGivenNames x7
  refine Keep.cut (x := x7) (Keep.step (State.setQuiesced_keep ..) h2 rfl) (fun h8 => ?_)
  generalize x7 = y9 at *
  extract_lets +onlyGivenNames x10
  refine Keep.cut (x := x10) ?_ (fun h11 => ?_)
  · unfold x10
    clear x10
    refine Keep.ite (Keep.step (State.dropRings_keep ..) h8 rfl) ?_
    refine Keep.forEach ?_ (fun a13 u12 => ?_)
    · exact h8
    have h14 := Keep.refl 0x1800003400701005 u12
    exact (Keep.step (State.idleRing_keep ..) h14 rfl)
  generalize x10 = y15 at *
  extract_lets +onlyGivenNames x16
  refine Keep.cut (x := x16) (Keep.ite h11 (Keep.wr .hif h11 rfl rfl)) (fun h17 => ?_)
  generalize x16 = y18 at *
  exact (Keep.step (State.kickRings_keep ..) (Keep.step (State.raise_keep ..) h17 rfl) rfl)

theorem State.quiesce_keep (s : State) (f : Nat) (all : Bool) : Keep 0x1800003400701005 s (State.quiesce s f all) := by
  have h0 := Keep.refl 0x1800003400701005 s
  unfold State.quiesce
  extract_lets +onlyGivenNames x1
  refine Keep.cut (x := x1) (Keep.step (State.stopRequests_keep ..) h0 rfl) (fun h2 => ?_)
  generalize x1 = y3 at *
  extract_lets +onlyGivenNames x4
  refine Keep.cut (x := x4) ?_ (fun h5 => ?_)
  · unfold x4
    clear x4
    refine Keep.forEach ?_ (fun a7 u6 => ?_)
    · exact h2
    have h8 := Keep.refl 0x1800003400701005 u6
    extract_lets +onlyGivenNames x9
    generalize x9 = y10 at *
    exact (Keep.ite (Keep.step (State.setRingState_keep ..) (Keep.step (State.cutRing_keep ..) h8 rfl) rfl) h8)
  generalize x4 = y11 at *
  exact (Keep.step (State.settle_keep ..) (Keep.step (State.setQuiesced_keep ..) h5 rfl) rfl)

theorem State.sendDrs_keep (s : State) : Keep 0x1000001400300004 s (State.sendDrs s) := by
  have h0 := Keep.refl 0x1000001400300004 s
  unfold State.sendDrs
  exact (Keep.ite (Keep.step (State.tlpOut_keep ..) (Keep.hif h0 _ rfl) rfl) h0)

theorem State.startInit_keep (s : State) (f : Nat) : Keep 0x1400300005 s (State.startInit s f) := by
  have h0 := Keep.refl 0x1400300005 s
  unfold State.startInit
  extract_lets +onlyGivenNames x1
  generalize x1 = y2 at *
  exact (Keep.step (State.showReady_keep ..) (Keep.wr .hif (Keep.step (State.setCfg_keep ..) h0 rfl) rfl rfl) rfl)

theorem State.becomeReady_keep (s : State) (f : Nat) : Keep 0x1000003400701005 s (State.becomeReady s f) := by
  have h0 := Keep.refl 0x1000003400701005 s
  unfold State.becomeReady
  extract_lets +onlyGivenNames x1
  generalize x1 = y2 at *
  extract_lets +onlyGivenNames x3
  refine Keep.cut (x := x3) (Keep.step (State.setCfg_keep ..) h0 rfl) (fun h4 => ?_)
  generalize x3 = y5 at *
  refine Keep.ite h4 ?_
  extract_lets +onlyGivenNames x6
  refine Keep.cut (x := x6) (Keep.step (State.showReady_keep ..) (Keep.wr .hif (Keep.wr .hif h4 rfl rfl) rfl rfl) rfl) (fun h7 => ?_)
  generalize x6 = y8 at *
  exact (Keep.step (State.kickRings_keep ..) (Keep.step (State.sendDrs_keep ..) (Keep.step (State.tlpOut_keep ..) h7 rfl) rfl) rfl)

theorem State.resetFn_keep (s : State) (f : Nat) : Keep 0x1400301004 s (State.resetFn s f) := by
  have h0 := Keep.refl 0x1400301004 s
  unfold State.resetFn
  extract_lets +onlyGivenNames x1
  generalize x1 = y2 at *
  extract_lets +onlyGivenNames x3
  refine Keep.cut (x := x3) (Keep.ite h0 (Keep.step (State.raise_keep ..) (Keep.wr .hif h0 rfl rfl) rfl)) (fun h4 => ?_)
  generalize x3 = y5 at *
  extract_lets +onlyGivenNames x6
  refine Keep.cut (x := x6) (Keep.wr .hif (Keep.wr .hif (Keep.wr .hif h4 rfl rfl) rfl rfl) rfl rfl) (fun h7 => ?_)
  generalize x6 = y8 at *
  extract_lets +onlyGivenNames x9
  refine Keep.cut (x := x9) (Keep.wr .qmg (Keep.wr .qmg h7 rfl rfl) rfl rfl) (fun h10 => ?_)
  generalize x9 = y11 at *
  exact (Keep.step (State.setCfg_keep ..) h10 rfl)

theorem execLinkUp_gives (rate : Nat) (width : Nat) (reversed : Bool) (s : State) : Gives 0x1000001400300004 s (execLinkUp rate width reversed s) := by
  have h0 := Keep.refl 0x1000001400300004 s
  unfold execLinkUp
  extract_lets +onlyGivenNames x1
  generalize x1 = y2 at *
  extract_lets +onlyGivenNames x3
  generalize x3 = y4 at *
  refine Gives.ite ?_ ?_
  · exact Gives.ok h0
  · extract_lets +onlyGivenNames x5
    refine Gives.cut (x := x5) (Keep.wr .hif (Keep.wr .hif (Keep.wr .hif (Keep.wr .hif (Keep.wr .hif h0 rfl rfl) rfl rfl) rfl rfl) rfl rfl) rfl rfl) (fun h6 => ?_)
    generalize x5 = y7 at *
    extract_lets +onlyGivenNames x8
    refine Gives.cut (x := x8) (Keep.step (State.raise_keep ..) h6 rfl) (fun h9 => ?_)
    generalize x8 = y10 at *
    extract_lets +onlyGivenNames x11
    refine Gives.cut (x := x11) (Keep.ite (Keep.step (State.raise_keep ..) h9 rfl) h9) (fun h12 => ?_)
    generalize x11 = y13 at *
    exact Gives.ok (Keep.step (State.sendDrs_keep ..) h12 rfl)

theorem execLinkRetrain_gives (s : State) : Gives 0x400300004 s (execLinkRetrain s) := by
  have h0 := Keep.refl 0x400300004 s
  unfold execLinkRetrain
  refine Gives.ite ?_ ?_
  · exact Gives.ok (Keep.step (State.raise_keep ..) (Keep.count .hif (Keep.wr .hif h0 rfl rfl) rfl rfl) rfl)
  · exact Gives.ok h0

theorem State.cfgWrite_keep (s : State) (f : Nat) (v : Nat) (y3 : Sys2Proof.CfgReg) : Keep 0x1400300004 s (State.cfgWrite s f v y3) := by
  have h0 := Keep.refl 0x1400300004 s
  unfold State.cfgWrite
  split
  · exact h0
  · exact h0
  · exact h0
  · exact h0
  · exact h0
  · exact h0
  · exact h0
  · exact h0
  · exact h0
  · exact h0
  · exact h0
  · exact h0
  · exact (Keep.ite (Keep.step (State.setCfg_keep ..) h0 rfl) h0)
  · exact (Keep.ite (Keep.step (State.setCfg_keep ..) h0 rfl) h0)
  · exact (Keep.ite (Keep.step (State.setCfg_keep ..) h0 rfl) h0)
  · exact (Keep.step (State.setCfg_keep ..) h0 rfl)
  · exact (Keep.step (State.setCfg_keep ..) h0 rfl)
  · exact (Keep.ite (Keep.step (State.setCfg_keep ..) h0 rfl) h0)
  · exact (Keep.step (State.setCfg_keep ..) h0 rfl)
  · exact (Keep.step (State.setCfg_keep ..) h0 rfl)
  · exact (Keep.step (State.setCfg_keep ..) h0 rfl)
  · exact (Keep.step (State.setCfg_keep ..) h0 rfl)
  · exact (Keep.step (State.setCfg_keep ..) h0 rfl)
  · exact (Keep.step (State.setCfg_keep ..) h0 rfl)
  · exact (Keep.ite (Keep.hif h0 _ rfl) h0)
  · exact (Keep.ite (Keep.hif h0 _ rfl) h0)
  · exact (Keep.ite h0 (Keep.step (State.raise_keep ..) (Keep.step (State.setCfg_keep ..) h0 rfl) rfl))
  · exact (Keep.ite (Keep.wr .hif (Keep.hif h0 _ rfl) rfl rfl) h0)
  · exact (Keep.step (State.setCfg_keep ..) h0 rfl)

theorem execConfigRequest_gives (f : Nat) (reg : Sys2Proof.CfgReg) (write : Bool) (val : Word) (s : State) : Gives 0x1000001400300004 s (execConfigRequest f reg write val s) := by
  have h0 := Keep.refl 0x1000001400300004 s
  unfold execConfigRequest
  extract_lets +onlyGivenNames x1
  refine Gives.cut (x := x1) (Keep.step (State.tlpIn_keep ..) h0 rfl) (fun h2 => ?_)
  generalize x1 = y3 at *
  refine Gives.ite ?_ ?_
  · exact Gives.ok (Keep.step (State.tlpOut_keep ..) h2 rfl)
  · refine Gives.ite ?_ ?_
    · exact Gives.ok (Keep.step (State.tlpOut_keep ..) h2 rfl)
    · refine Gives.ite ?_ ?_
      · exact Gives.ok (Keep.step (State.tlpOut_keep ..) (Keep.step (State.cfgWrite_keep ..) h2 rfl) rfl)
      · exact Gives.ok (Keep.step (State.tlpOut_keep ..) h2 rfl)

theorem execMemorySpaceDisable_gives (f : Nat) (s : State) : Gives 0x200000 s (execMemorySpaceDisable f s) := by
  have h0 := Keep.refl 0x200000 s
  unfold execMemorySpaceDisable
  refine Gives.ite ?_ ?_
  · exact Gives.ok (Keep.wr .hif h0 rfl rfl)
  · exact Gives.ok h0

theorem execMemorySpaceEnable_gives (f : Nat) (s : State) : Gives 0x200000 s (execMemorySpaceEnable f s) := by
  have h0 := Keep.refl 0x200000 s
  unfold execMemorySpaceEnable
  refine Gives.ite ?_ ?_
  · exact Gives.ok (Keep.wr .hif h0 rfl rfl)
  · exact Gives.ok h0

theorem execMsixVectorUnmask_gives (f : Nat) (e : Nat) (s : State) : Gives 0x1000000400700004 s (execMsixVectorUnmask f e s) := by
  have h0 := Keep.refl 0x1000000400700004 s
  unfold execMsixVectorUnmask
  refine Gives.ite ?_ ?_
  · exact Gives.ok h0
  · exact Gives.ok (Keep.step (State.msixFlush_keep ..) (Keep.msixReg h0 rfl) rfl)

end Sys2Proof.Machine
end

