-- ==== Sys2Proof/Laws/KeepHostReset.lean ====
section
/-!
SUPPORT. What each operation and each command of Machine/HostReset.lean can do to the state: the zones and parts it stays within.
-/
namespace Sys2Proof.Machine

theorem execFunctionInitDone_gives (f : Nat) (s : State) : Gives 0x1808103406705005 s (execFunctionInitDone f s) := by
  have h0 := Keep.refl 0x1808103406705005 s
  unfold execFunctionInitDone
  refine Gives.ite ?_ ?_
  · exact Gives.ok (Keep.step (State.becomeReady_keep ..) (Keep.ite (Keep.step (State.dropQps_keep ..) h0 rfl) h0) rfl)
  · exact Gives.ok h0

theorem State.resumeFn_keep (s : State) (f : Nat) : Keep 0x1010003400701004 s (State.resumeFn s f) := by
  have h0 := Keep.refl 0x1010003400701004 s
  unfold State.resumeFn
  exact (Keep.step (State.kickRings_keep ..) (Keep.step (State.retryAll_keep ..) (Keep.step (State.msixFlush_keep ..) (Keep.step (State.flushNvme_keep ..) (Keep.step (State.releaseHeld_keep ..) h0 rfl) rfl) rfl) rfl) rfl)

theorem execBusMasterEnable_gives (f : Nat) (s : State) : Gives 0x1010003400701004 s (execBusMasterEnable f s) := by
  have h0 := Keep.refl 0x1010003400701004 s
  unfold execBusMasterEnable
  refine Gives.ite ?_ ?_
  · exact Gives.ok (Keep.step (State.resumeFn_keep ..) (Keep.wr .hif h0 rfl rfl) rfl)
  · exact Gives.ok h0

theorem State.stopFn_keep (s : State) (f : Nat) (all : Bool) (told : Bool) : Keep 0x1820003400721005 s (State.stopFn s f all told) := by
  have h0 := Keep.refl 0x1820003400721005 s
  unfold State.stopFn
  extract_lets +onlyGivenNames x1
  refine Keep.cut (x := x1) (Keep.ite (Keep.step (State.raise_keep ..) h0 rfl) h0) (fun h2 => ?_)
  generalize x1 = y3 at *
  extract_lets +onlyGivenNames x4
  refine Keep.cut (x := x4) (Keep.step (State.quiesce_keep ..) h2 rfl) (fun h5 => ?_)
  generalize x4 = y6 at *
  exact (Keep.ite (Keep.step (State.dmaStopped_keep ..) (Keep.step (State.dmaStopHost_keep ..) h5 rfl) rfl) h5)

theorem execBusMasterDisable_gives (f : Nat) (s : State) : Gives 0x1820003400721005 s (execBusMasterDisable f s) := by
  have h0 := Keep.refl 0x1820003400721005 s
  unfold execBusMasterDisable
  refine Gives.ite ?_ ?_
  · exact Gives.ok (Keep.step (State.stopFn_keep ..) (Keep.wr .hif h0 rfl rfl) rfl)
  · exact Gives.ok h0

theorem State.vfsGone_keep (s : State) (n : Nat) : Keep 0x400100004 s (State.vfsGone s n) := by
  have h0 := Keep.refl 0x400100004 s
  unfold State.vfsGone
  exact (Keep.ite (Keep.step (State.raise_keep ..) h0 rfl) h0)

theorem State.fnReset_keep (s : State) (f : Nat) : Keep 0x18342074607fffff s (State.fnReset s f) := by
  have h0 := Keep.refl 0x18342074607fffff s
  unfold State.fnReset
  extract_lets +onlyGivenNames x1
  refine Keep.cut (x := x1) (Keep.wr .hif (Keep.wr .hif h0 rfl rfl) rfl rfl) (fun h2 => ?_)
  generalize x1 = y3 at *
  extract_lets +onlyGivenNames x4
  refine Keep.cut (x := x4) (Keep.ite (Keep.step (State.resetCtl_keep ..) h2 rfl) h2) (fun h5 => ?_)
  generalize x4 = y6 at *
  extract_lets +onlyGivenNames x7
  refine Keep.cut (x := x7) (Keep.step (State.stopFn_keep ..) (Keep.step (State.resetFnSpace_keep ..) (Keep.step (State.resetFn_keep ..) h5 rfl) rfl) rfl) (fun h8 => ?_)
  generalize x7 = y9 at *
  exact (Keep.ite (Keep.step (State.abortHolders_keep ..) (Keep.step (State.forceAbort_keep ..) h8 rfl) rfl) h8)

theorem State.dropVfs_keep (s : State) (n : Nat) : Keep 0x183c3074667fffff s (State.dropVfs s n) := by
  have h0 := Keep.refl 0x183c3074667fffff s
  unfold State.dropVfs
  extract_lets +onlyGivenNames x1
  generalize x1 = y2 at *
  extract_lets +onlyGivenNames x3
  refine Keep.cut (x := x3) ?_ (fun h4 => ?_)
  · unfold x3
    clear x3
    refine Keep.forEach ?_ (fun a6 u5 => ?_)
    · exact h0
    have h7 := Keep.refl 0x183c3074667fffff u5
    extract_lets +onlyGivenNames x8
    refine Keep.cut (x := x8) (Keep.step (State.dropQps_keep ..) (Keep.step (State.dropRings_keep ..) (Keep.step (State.fnReset_keep ..) h7 rfl) rfl) rfl) (fun h9 => ?_)
    generalize x8 = y10 at *
    extract_lets +onlyGivenNames x11
    generalize x11 = y12 at *
    extract_lets +onlyGivenNames x13
    refine Keep.cut (x := x13) (Keep.step (State.setCfg_keep ..) h9 rfl) (fun h14 => ?_)
    generalize x13 = y15 at *
    extract_lets +onlyGivenNames x16
    refine Keep.cut (x := x16) (Keep.wr .hif h14 rfl rfl) (fun h17 => ?_)
    generalize x16 = y18 at *
    exact (Keep.ite h17 (Keep.wr .hif h17 rfl rfl))
  generalize x3 = y19 at *
  exact (Keep.step (State.setCfg_keep ..) h4 rfl)

theorem execFunctionLevelReset_gives (f : Nat) (s : State) : Gives 0x183c3074667fffff s (execFunctionLevelReset f s) := by
  have h0 := Keep.refl 0x183c3074667fffff s
  unfold execFunctionLevelReset
  refine Gives.ite ?_ ?_
  · exact Gives.ok h0
  · extract_lets +onlyGivenNames x1
    refine Gives.cut (x := x1) (Keep.step (State.raise_keep ..) h0 rfl) (fun h2 => ?_)
    generalize x1 = y3 at *
    extract_lets +onlyGivenNames x4
    refine Gives.cut (x := x4) (Keep.ite (Keep.step (State.dropVfs_keep ..) (Keep.step (State.vfsGone_keep ..) h2 rfl) rfl) h2) (fun h5 => ?_)
    generalize x4 = y6 at *
    exact Gives.ok (Keep.step (State.showReady_keep ..) (Keep.step (State.fnReset_keep ..) h5 rfl) rfl)

theorem State.linkPower_keep (s : State) : Keep 0x400300004 s (State.linkPower s) := by
  have h0 := Keep.refl 0x400300004 s
  unfold State.linkPower
  extract_lets +onlyGivenNames x1
  generalize x1 = y2 at *
  exact (Keep.ite (Keep.step (State.raise_keep ..) (Keep.wr .hif h0 rfl rfl) rfl) (Keep.ite (Keep.step (State.raise_keep ..) (Keep.wr .hif h0 rfl rfl) rfl) h0))

theorem execD3hotEntry_gives (f : Nat) (s : State) : Gives 0x1820003400721005 s (execD3hotEntry f s) := by
  have h0 := Keep.refl 0x1820003400721005 s
  unfold execD3hotEntry
  refine Gives.ite ?_ ?_
  · exact Gives.ok h0
  · refine Gives.ok ?_
    refine Keep.step (State.linkPower_keep ..) ?_ rfl
    refine Keep.forEach ?_ (fun a2 u1 => ?_)
    · exact h0
    have h3 := Keep.refl 0x1820003400721005 u1
    exact (Keep.step (State.stopFn_keep ..) (Keep.step (State.raise_keep ..) (Keep.wr .hif h3 rfl rfl) rfl) rfl)

theorem execD0Entry_gives (f : Nat) (s : State) : Gives 0x1010003400701004 s (execD0Entry f s) := by
  have h0 := Keep.refl 0x1010003400701004 s
  unfold execD0Entry
  refine Gives.ite ?_ ?_
  · exact Gives.ok h0
  · refine Gives.ok ?_
    refine Keep.step (State.linkPower_keep ..) ?_ rfl
    refine Keep.forEach ?_ (fun a2 u1 => ?_)
    · exact h0
    have h3 := Keep.refl 0x1010003400701004 u1
    exact (Keep.step (State.resumeFn_keep ..) (Keep.step (State.raise_keep ..) (Keep.wr .hif h3 rfl rfl) rfl) rfl)

theorem execVfEnable_gives (f : Nat) (s : State) : Gives 0x1400300005 s (execVfEnable f s) := by
  have h0 := Keep.refl 0x1400300005 s
  unfold execVfEnable
  refine Gives.ite ?_ ?_
  · exact Gives.ok h0
  · extract_lets +onlyGivenNames x1
    generalize x1 = y2 at *
    extract_lets +onlyGivenNames x3
    refine Gives.cut (x := x3) (Keep.step (State.setCfg_keep ..) h0 rfl) (fun h4 => ?_)
    generalize x3 = y5 at *
    extract_lets +onlyGivenNames x6
    generalize x6 = y7 at *
    extract_lets +onlyGivenNames x8
    refine Gives.cut (x := x8) ?_ (fun h9 => ?_)
    · unfold x8
      clear x8
      refine Keep.forEach ?_ (fun a11 u10 => ?_)
      · exact h4
      have h12 := Keep.refl 0x1400300005 u10
      exact (Keep.setWord .hif (Keep.step (State.setCfg_keep ..) h12 rfl) rfl rfl)
    generalize x8 = y13 at *
    exact Gives.ok (Keep.step (State.raise_keep ..) (Keep.step (State.showReady_keep ..) h9 rfl) rfl)

theorem execVfDisable_gives (f : Nat) (s : State) : Gives 0x183c3074667fffff s (execVfDisable f s) := by
  have h0 := Keep.refl 0x183c3074667fffff s
  unfold execVfDisable
  refine Gives.ite ?_ ?_
  · exact Gives.ok h0
  · exact Gives.ok (Keep.step (State.raise_keep ..) (Keep.step (State.showReady_keep ..) (Keep.step (State.dropVfs_keep ..) h0 rfl) rfl) rfl)

theorem State.hifReset_keep (s : State) (ltssm : Nat) : Keep 0x183c3074667fffff s (State.hifReset s ltssm) := by
  have h0 := Keep.refl 0x183c3074667fffff s
  unfold State.hifReset
  extract_lets +onlyGivenNames x1
  generalize x1 = y2 at *
  extract_lets +onlyGivenNames x3
  generalize x3 = y4 at *
  extract_lets +onlyGivenNames x5
  generalize x5 = y6 at *
  extract_lets +onlyGivenNames x7
  generalize x7 = y8 at *
  extract_lets +onlyGivenNames x9
  refine Keep.cut (x := x9) (Keep.hif h0 _ rfl) (fun h10 => ?_)
  generalize x9 = y11 at *
  extract_lets +onlyGivenNames x12
  refine Keep.cut (x := x12) (Keep.step (State.dmaStopped_keep ..) (Keep.step (State.dmaStopHost_keep ..) h10 rfl) rfl) (fun h13 => ?_)
  generalize x12 = y14 at *
  extract_lets +onlyGivenNames x15
  refine Keep.cut (x := x15) ?_ (fun h16 => ?_)
  · unfold x15
    clear x15
    refine Keep.forEach ?_ (fun a18 u17 => ?_)
    · exact h13
    have h19 := Keep.refl 0x183c3074667fffff u17
    exact (Keep.step (State.dropRing_keep ..) h19 rfl)
  generalize x15 = y20 at *
  extract_lets +onlyGivenNames x21
  refine Keep.cut (x := x21) ?_ (fun h22 => ?_)
  · unfold x21
    clear x21
    refine Keep.forEach ?_ (fun a24 u23 => ?_)
    · exact h16
    have h25 := Keep.refl 0x183c3074667fffff u23
    exact (Keep.step (State.dropQps_keep ..) (Keep.ite (Keep.step (State.resetCtl_keep ..) h25 rfl) h25) rfl)
  generalize x21 = y26 at *
  extract_lets +onlyGivenNames x27
  refine Keep.cut (x := x27) (Keep.step (State.abortHolders_keep ..) (Keep.step (State.forceAbort_keep ..) h22 rfl) rfl) (fun h28 => ?_)
  generalize x27 = y29 at *
  extract_lets +onlyGivenNames x30
  refine Keep.cut (x := x30) ?_ (fun h31 => ?_)
  · unfold x30
    clear x30
    refine Keep.forEach ?_ (fun a33 u32 => ?_)
    · exact h28
    have h34 := Keep.refl 0x183c3074667fffff u32
    exact (Keep.step (State.vfsGone_keep ..) h34 rfl)
  generalize x30 = y35 at *
  extract_lets +onlyGivenNames x36
  refine Keep.cut (x := x36) ?_ (fun h37 => ?_)
  · unfold x36
    clear x36
    refine Keep.forEach ?_ (fun a39 u38 => ?_)
    · exact h31
    have h40 := Keep.refl 0x183c3074667fffff u38
    exact (Keep.ite h40 (Keep.step (State.raise_keep ..) h40 rfl))
  generalize x36 = y41 at *
  extract_lets +onlyGivenNames x42
  refine Keep.cut (x := x42) (Keep.step (State.clearHif_keep ..) h37 rfl) (fun h43 => ?_)
  generalize x42 = y44 at *
  extract_lets +onlyGivenNames x45
  generalize x45 = y46 at *
  extract_lets +onlyGivenNames x47
  refine Keep.cut (x := x47) (Keep.hif h43 _ rfl) (fun h48 => ?_)
  generalize x47 = y49 at *
  extract_lets +onlyGivenNames x50
  refine Keep.cut (x := x50) ?_ (fun h51 => ?_)
  · unfold x50
    clear x50
    refine Keep.forEach ?_ (fun a53 u52 => ?_)
    · exact h48
    have h54 := Keep.refl 0x183c3074667fffff u52
    exact (Keep.wr .hif (Keep.step (State.setCfg_keep ..) h54 rfl) rfl rfl)
  generalize x50 = y55 at *
  extract_lets +onlyGivenNames x56
  refine Keep.cut (x := x56) (Keep.wr .hif h51 rfl rfl) (fun h57 => ?_)
  generalize x56 = y58 at *
  exact (Keep.step (State.showReady_keep ..) (Keep.ite (Keep.step (State.raise_keep ..) h57 rfl) h57) rfl)

theorem execHotReset_gives (s : State) : Gives 0x183c3074667fffff s (execHotReset s) := by
  have h0 := Keep.refl 0x183c3074667fffff s
  unfold execHotReset
  exact Gives.ok (Keep.step (State.hifReset_keep ..) h0 rfl)

theorem execLinkDown_gives (s : State) : Gives 0x183c3074667fffff s (execLinkDown s) := by
  have h0 := Keep.refl 0x183c3074667fffff s
  unfold execLinkDown
  exact Gives.ok (Keep.step (State.hifReset_keep ..) h0 rfl)

theorem execPerstAssert_gives (s : State) : Gives 0x183c3076667fffff s (execPerstAssert s) := by
  have h0 := Keep.refl 0x183c3076667fffff s
  unfold execPerstAssert
  refine Gives.ite ?_ ?_
  · exact Gives.ok h0
  · exact Gives.ok (Keep.step (State.hifReset_keep ..) (Keep.step (State.raise_keep ..) (Keep.pins h0 _ rfl) rfl) rfl)

end Sys2Proof.Machine
end

