-- ==== Sys2Proof/Laws/KeepRegisters.lean ====
section
/-!
SUPPORT. What each operation and each command of Machine/Registers.lean can do to the state: the zones and parts it stays within.
-/
namespace Sys2Proof.Machine

theorem State.clearRc_keep (s : State) (a : Nat) (l : List Fld) : Keep 0x7fffff s (State.clearRc s a l) := by
  have h0 := Keep.refl 0x7fffff s
  unfold State.clearRc
  refine Keep.forEach ?_ (fun a2 u1 => ?_)
  · exact h0
  have h3 := Keep.refl 0x7fffff u1
  exact (Keep.setRegAny h3 rfl)

theorem State.identityRead_keep (s : State) (who : Nat) (a : Nat) : Keep 0x2000000000800000 s (State.identityRead s who a) := by
  have h0 := Keep.refl 0x2000000000800000 s
  unfold State.identityRead
  refine Keep.ite ?_ (Keep.step (State.answer_keep ..) (Keep.ite (Keep.step (State.copyHi_keep ..) h0 rfl) h0) rfl)
  extract_lets +onlyGivenNames x1
  refine Keep.cutP (x := x1) ?_ (fun h2 => ?_)
  · unfold x1
    clear x1
    exact KeepP.of (Keep.step (State.readHi_keep ..) h0 rfl)
  generalize x1 = y3 at *
  exact (Keep.step (State.answer_keep ..) h2 rfl)

theorem State.bellRead_keep (s : State) (f : Nat) (o : Nat) : Keep 0x3000000400100005 s (State.bellRead s f o) := by
  have h0 := Keep.refl 0x3000000400100005 s
  unfold State.bellRead
  extract_lets +onlyGivenNames x1
  generalize x1 = y2 at *
  exact (Keep.ite (Keep.step (State.answer_keep ..) h0 rfl) (Keep.ite (Keep.step (State.answer_keep ..) (Keep.step (State.bad_keep ..) h0 rfl) rfl) (Keep.step (State.answer_keep ..) h0 rfl)))

theorem State.romRead_keep (s : State) (o : Nat) : Keep 0x2000000000000000 s (State.romRead s o) := by
  have h0 := Keep.refl 0x2000000000000000 s
  unfold State.romRead
  exact (Keep.step (State.answer_keep ..) h0 rfl)

theorem State.regRead_keep (s : State) (who : Nat) (a : Nat) : Keep 0x3040080d00ffffff s (State.regRead s who a) := by
  have h0 := Keep.refl 0x3040080d00ffffff s
  unfold State.regRead
  refine Keep.ite (Keep.step (State.answer_keep ..) (Keep.step (State.bad_keep ..) h0 rfl) rfl) ?_
  refine Keep.ite (Keep.step (State.identityRead_keep ..) h0 rfl) ?_
  refine Keep.ite (Keep.step (State.romRead_keep ..) h0 rfl) ?_
  refine Keep.ite (Keep.step (State.answer_keep ..) h0 rfl) ?_
  refine Keep.ite (Keep.step (State.bellRead_keep ..) h0 rfl) ?_
  extract_lets +onlyGivenNames x1
  generalize x1 = y2 at *
  split
  · exact (Keep.step (State.answer_keep ..) (Keep.step (State.bad_keep ..) h0 rfl) rfl)
  · refine Keep.ite (Keep.step (State.perrPop_keep ..) h0 rfl) ?_
    refine Keep.ite (Keep.step (State.eccPop_keep ..) h0 rfl) ?_
    refine Keep.ite (Keep.step (State.mramDataRead_keep ..) h0 rfl) ?_
    refine Keep.ite (Keep.step (State.gtcNsRead_keep ..) h0 rfl) ?_
    refine Keep.ite (Keep.step (State.grainAngleRead_keep ..) h0 rfl) ?_
    extract_lets +onlyGivenNames x3
    refine Keep.cut (x := x3) (Keep.ite (Keep.step (State.calSync_keep ..) h0 rfl) h0) (fun h4 => ?_)
    generalize x3 = y5 at *
    refine Keep.ite ?_ ?_
    · extract_lets +onlyGivenNames x6
      refine Keep.cutP (x := x6) ?_ (fun h7 => ?_)
      · unfold x6
        clear x6
        exact KeepP.of (Keep.step (State.readHi_keep ..) h4 rfl)
      generalize x6 = y8 at *
      exact (Keep.step (State.answer_keep ..) h7 rfl)
    · extract_lets +onlyGivenNames x9
      generalize x9 = y10 at *
      extract_lets +onlyGivenNames x11
      refine Keep.cut (x := x11) (Keep.ite (Keep.step (State.copyHi_keep ..) h4 rfl) h4) (fun h12 => ?_)
      generalize x11 = y13 at *
      exact (Keep.step (State.answer_keep ..) (Keep.step (State.clearRc_keep ..) h12 rfl) rfl)

theorem execRegisterReadClear_gives (who : Nat) (a : Nat) (s : State) : Gives 0x3040080d00ffffff s (execRegisterReadClear who a s) := by
  have h0 := Keep.refl 0x3040080d00ffffff s
  unfold execRegisterReadClear
  refine Gives.ite ?_ ?_
  · exact Gives.ok (Keep.step (State.refuseRead_keep ..) h0 rfl)
  · exact Gives.ok (Keep.step (State.regRead_keep ..) h0 rfl)

theorem execSplitLoRead_gives (who : Nat) (a : Nat) (s : State) : Gives 0x3040080d00ffffff s (execSplitLoRead who a s) := by
  have h0 := Keep.refl 0x3040080d00ffffff s
  unfold execSplitLoRead
  refine Gives.ite ?_ ?_
  · exact Gives.ok (Keep.step (State.refuseRead_keep ..) h0 rfl)
  · refine Gives.ite ?_ ?_
    · exact Gives.ok (Keep.step (State.regRead_keep ..) h0 rfl)
    · exact Gives.ok h0

theorem execUnassignedAccess_gives (who : Nat) (a : Nat) (read : Bool) (s : State) : Gives 0x3000000400300005 s (execUnassignedAccess who a read s) := by
  have h0 := Keep.refl 0x3000000400300005 s
  unfold execUnassignedAccess
  refine Gives.ite ?_ ?_
  · exact Gives.ok (Keep.ite (Keep.step (State.refuseRead_keep ..) h0 rfl) (Keep.step (State.refuseWrite_keep ..) h0 rfl))
  · refine Gives.ite ?_ ?_
    · exact Gives.ok h0
    · exact Gives.ok (Keep.ite (Keep.step (State.answer_keep ..) (Keep.step (State.bad_keep ..) h0 rfl) rfl) (Keep.step (State.bad_keep ..) h0 rfl))

theorem execRefusedSizeAccess_gives (read : Bool) (s : State) : Gives 0x3000000400100005 s (execRefusedSizeAccess read s) := by
  have h0 := Keep.refl 0x3000000400100005 s
  unfold execRefusedSizeAccess
  exact Gives.ok (Keep.ite (Keep.step (State.answer_keep ..) (Keep.step (State.bad_keep ..) h0 rfl) rfl) (Keep.step (State.bad_keep ..) h0 rfl))

theorem execGlbSyncRead_gives (s : State) : Gives 0x2000000000000000 s (execGlbSyncRead s) := by
  have h0 := Keep.refl 0x2000000000000000 s
  unfold execGlbSyncRead
  exact Gives.ok (Keep.step (State.answer_keep ..) h0 rfl)

theorem State.writeField_keep (s : State) (a : Nat) (v : Nat) (f : Fld) : Keep 0x7fffff s (State.writeField s a v f) := by
  have h0 := Keep.refl 0x7fffff s
  unfold State.writeField
  extract_lets +onlyGivenNames x1
  generalize x1 = y2 at *
  extract_lets +onlyGivenNames x3
  generalize x3 = y4 at *
  split
  · exact (Keep.setRegAny h0 rfl)
  · exact (Keep.setRegAny h0 rfl)
  · exact (Keep.setRegAny h0 rfl)
  · exact (Keep.ite (Keep.setRegAny h0 rfl) h0)
  · exact h0
  · exact h0
  · exact h0

theorem State.afterWrite_keep (s : State) (o : State) (a : Nat) : Keep 0x101000060070000c s (State.afterWrite s o a) := by
  have h0 := Keep.refl 0x101000060070000c s
  unfold State.afterWrite
  refine Keep.ite (Keep.step (State.showEvtOut_keep ..) h0 rfl) ?_
  refine Keep.ite ?_ ?_
  · extract_lets +onlyGivenNames x1
    refine Keep.cut (x := x1) (Keep.wr .tim h0 rfl rfl) (fun h2 => ?_)
    generalize x1 = y3 at *
    exact (Keep.ite (Keep.step (State.raise_keep ..) h2 rfl) h2)
  · refine Keep.ite ?_ (Keep.ite (Keep.step (State.msixFlush_keep ..) h0 rfl) h0)
    extract_lets +onlyGivenNames x4
    generalize x4 = y5 at *
    exact (Keep.ite h0 (Keep.step (State.setDs_keep ..) h0 rfl))

theorem State.stageWord_keep (s : State) (who : Nat) (a : Nat) (v : Nat) : Keep 0x1000000420100005 s (State.stageWord s who a v) := by
  have h0 := Keep.refl 0x1000000420100005 s
  unfold State.stageWord
  split
  · exact (Keep.step (State.bad_keep ..) h0 rfl)
  · refine Keep.ite ?_ (Keep.step (State.bad_keep ..) h0 rfl)
    extract_lets +onlyGivenNames x1
    generalize x1 = y2 at *
    exact (Keep.step (State.setStage_keep ..) h0 rfl)

theorem State.putWord_keep (s : State) (who : Nat) (a : Nat) (v : Nat) (l : List Fld) : Keep 0x10100006207fffff s (State.putWord s who a v l) := by
  have h0 := Keep.refl 0x10100006207fffff s
  unfold State.putWord
  extract_lets +onlyGivenNames x1
  refine Keep.cut (x := x1) h0 (fun h2 => ?_)
  generalize x1 = y3 at *
  refine Keep.ite (Keep.step (State.bad_keep ..) h0 rfl) ?_
  refine Keep.ite h0 ?_
  extract_lets +onlyGivenNames x4
  refine Keep.cut (x := x4) (Keep.ite (Keep.step (State.stageWord_keep ..) h0 rfl) h0) (fun h5 => ?_)
  generalize x4 = y6 at *
  extract_lets +onlyGivenNames x7
  refine Keep.cut (x := x7) ?_ (fun h8 => ?_)
  · unfold x7
    clear x7
    refine Keep.forEach ?_ (fun a10 u9 => ?_)
    · exact h5
    have h11 := Keep.refl 0x10100006207fffff u9
    exact (Keep.step (State.writeField_keep ..) h11 rfl)
  generalize x7 = y12 at *
  exact (Keep.step (State.afterWrite_keep ..) h8 rfl)

theorem State.regWrite_keep (s : State) (who : Nat) (a : Nat) (v : Nat) : Keep 0x10100006217fffff s (State.regWrite s who a v) := by
  have h0 := Keep.refl 0x10100006217fffff s
  unfold State.regWrite
  refine Keep.ite h0 ?_
  extract_lets +onlyGivenNames x1
  generalize x1 = y2 at *
  split
  · exact (Keep.step (State.bad_keep ..) h0 rfl)
  · refine Keep.ite h0 ?_
    refine Keep.ite (Keep.step (State.holdLo_keep ..) h0 rfl) ?_
    refine Keep.ite ?_ (Keep.step (State.putWord_keep ..) h0 rfl)
    extract_lets +onlyGivenNames x3
    refine Keep.cutP (x := x3) ?_ (fun h4 => ?_)
    · unfold x3
      clear x3
      exact KeepP.of (Keep.step (State.takeHi_keep ..) h0 rfl)
    generalize x3 = y5 at *
    exact (Keep.ite h0 (Keep.ite (Keep.step (State.putWord_keep ..) (Keep.step (State.putWord_keep ..) h4 rfl) rfl) (Keep.step (State.putWord_keep ..) h4 rfl)))

theorem State.stageOpen_keep (s : State) (who : Nat) (b : Blk) : Keep 0x10000004207fffff s (State.stageOpen s who b) := by
  have h0 := Keep.refl 0x10000004207fffff s
  unfold State.stageOpen
  split
  · exact (Keep.step (State.bad_keep ..) h0 rfl)
  · exact (Keep.ite (Keep.step (State.bad_keep ..) h0 rfl) (Keep.step (State.setStage_keep ..) (Keep.wrAny (Keep.wrAny h0 rfl) rfl) rfl))

theorem State.stageAbort_keep (s : State) (who : Nat) (b : Blk) : Keep 0x10000004607fffff s (State.stageAbort s who b) := by
  have h0 := Keep.refl 0x10000004607fffff s
  unfold State.stageAbort
  exact (Keep.ite (Keep.step (State.bad_keep ..) h0 rfl) (Keep.step (State.abortStage_keep ..) h0 rfl))

theorem State.stageCommit_keep (s : State) (who : Nat) (b : Blk) : Keep 0x58dff3ff6e7fffff s (State.stageCommit s who b) := by
  have h0 := Keep.refl 0x58dff3ff6e7fffff s
  unfold State.stageCommit
  refine Keep.ite (Keep.step (State.bad_keep ..) h0 rfl) ?_
  split
  · exact (Keep.step (State.refuseStage_keep ..) h0 rfl)
  · exact (Keep.step (State.commitBlk_keep ..) h0 rfl)

theorem State.stageArm_keep (s : State) (who : Nat) (b : Blk) : Keep 0x100000046e7fffff s (State.stageArm s who b) := by
  have h0 := Keep.refl 0x100000046e7fffff s
  unfold State.stageArm
  refine Keep.ite (Keep.step (State.bad_keep ..) h0 rfl) ?_
  split
  · exact (Keep.step (State.refuseStage_keep ..) h0 rfl)
  · extract_lets +onlyGivenNames x1
    generalize x1 = y2 at *
    refine Keep.ite (Keep.step (State.endStage_keep ..) h0 rfl) ?_
    extract_lets +onlyGivenNames x3
    refine Keep.cut (x := x3) (Keep.markOwner h0 _ rfl) (fun h4 => ?_)
    generalize x3 = y5 at *
    exact (Keep.wrAny (Keep.step (State.setStage_keep ..) h4 rfl) rfl)

theorem State.stageCmd_keep (s : State) (who : Nat) (b : Blk) (v : Nat) : Keep 0x58dff3ff6e7fffff s (State.stageCmd s who b v) := by
  have h0 := Keep.refl 0x58dff3ff6e7fffff s
  unfold State.stageCmd
  split
  · exact h0
  · exact (Keep.step (State.stageOpen_keep ..) h0 rfl)
  · exact (Keep.step (State.stageAbort_keep ..) h0 rfl)
  · exact (Keep.step (State.stageCommit_keep ..) h0 rfl)
  · exact (Keep.step (State.stageArm_keep ..) h0 rfl)
  · exact (Keep.step (State.bad_keep ..) h0 rfl)

theorem execStageOpen_gives (who : Nat) (blk : Nat) (s : State) : Gives 0x10000004207fffff s (execStageOpen who blk s) := by
  have h0 := Keep.refl 0x10000004207fffff s
  unfold execStageOpen
  unfold State.stageBy
  refine Gives.ite ?_ ?_
  · exact Gives.ok (Keep.step (State.refuseWrite_keep ..) h0 rfl)
  · split
    · exact Gives.ok (Keep.step (State.stageOpen_keep ..) h0 rfl)
    · exact Gives.ok h0

theorem execStageAbort_gives (who : Nat) (blk : Nat) (s : State) : Gives 0x10000004607fffff s (execStageAbort who blk s) := by
  have h0 := Keep.refl 0x10000004607fffff s
  unfold execStageAbort
  unfold State.stageBy
  refine Gives.ite ?_ ?_
  · exact Gives.ok (Keep.step (State.refuseWrite_keep ..) h0 rfl)
  · split
    · exact Gives.ok (Keep.step (State.stageAbort_keep ..) h0 rfl)
    · exact Gives.ok h0

theorem execStageCommitNow_gives (who : Nat) (blk : Nat) (s : State) : Gives 0x58dff3ff6e7fffff s (execStageCommitNow who blk s) := by
  have h0 := Keep.refl 0x58dff3ff6e7fffff s
  unfold execStageCommitNow
  unfold State.stageBy
  refine Gives.ite ?_ ?_
  · exact Gives.ok (Keep.step (State.refuseWrite_keep ..) h0 rfl)
  · split
    · exact Gives.ok (Keep.step (State.stageCommit_keep ..) h0 rfl)
    · exact Gives.ok h0

theorem execStageArm_gives (who : Nat) (blk : Nat) (s : State) : Gives 0x100000046e7fffff s (execStageArm who blk s) := by
  have h0 := Keep.refl 0x100000046e7fffff s
  unfold execStageArm
  unfold State.stageBy
  refine Gives.ite ?_ ?_
  · exact Gives.ok (Keep.step (State.refuseWrite_keep ..) h0 rfl)
  · split
    · exact Gives.ok (Keep.step (State.stageArm_keep ..) h0 rfl)
    · exact Gives.ok h0

theorem execStageTimeout_gives (blk : Nat) (s : State) : Gives 0x80000008607fffff s (execStageTimeout blk s) := by
  have h0 := Keep.refl 0x80000008607fffff s
  unfold execStageTimeout
  unfold State.onStaged
  split
  · refine Gives.ok ?_
    dsimp -zeta only
    refine Keep.ite h0 ?_
    extract_lets +onlyGivenNames x1
    refine Keep.cut (x := x1) (Keep.step (State.advanceTo_keep ..) h0 rfl) (fun h2 => ?_)
    generalize x1 = y3 at *
    exact (Keep.step (State.endStage_keep ..) (Keep.step (State.freeMark_keep ..) h2 rfl) rfl)
  · exact Gives.ok h0

theorem execRegisterWrite_gives (who : Nat) (a : Nat) (val : Word) (s : State) : Gives 0x58dff3ff6f7fffff s (execRegisterWrite who a val s) := by
  have h0 := Keep.refl 0x58dff3ff6f7fffff s
  unfold execRegisterWrite
  refine Gives.ite ?_ ?_
  · exact Gives.ok (Keep.step (State.refuseWrite_keep ..) h0 rfl)
  · split
    · refine Gives.ite ?_ ?_
      · exact Gives.ok (Keep.step (State.stageCmd_keep ..) h0 rfl)
      · exact Gives.ok (Keep.step (State.regWrite_keep ..) h0 rfl)
    · exact Gives.ok (Keep.step (State.regWrite_keep ..) h0 rfl)

theorem execRwlWrite_gives (who : Nat) (a : Nat) (val : Word) (s : State) : Gives 0x10100006217fffff s (execRwlWrite who a val s) := by
  have h0 := Keep.refl 0x10100006217fffff s
  unfold execRwlWrite
  refine Gives.ite ?_ ?_
  · exact Gives.ok (Keep.step (State.refuseWrite_keep ..) h0 rfl)
  · refine Gives.ite ?_ ?_
    · exact Gives.ok h0
    · exact Gives.ok (Keep.step (State.regWrite_keep ..) h0 rfl)

theorem execSplitLoWrite_gives (who : Nat) (a : Nat) (val : Word) (s : State) : Gives 0x10100006217fffff s (execSplitLoWrite who a val s) := by
  have h0 := Keep.refl 0x10100006217fffff s
  unfold execSplitLoWrite
  refine Gives.ite ?_ ?_
  · exact Gives.ok (Keep.step (State.refuseWrite_keep ..) h0 rfl)
  · refine Gives.ite ?_ ?_
    · exact Gives.ok (Keep.step (State.regWrite_keep ..) h0 rfl)
    · exact Gives.ok h0

theorem execSplitHiWrite_gives (who : Nat) (a : Nat) (val : Word) (s : State) : Gives 0x10100006217fffff s (execSplitHiWrite who a val s) := by
  have h0 := Keep.refl 0x10100006217fffff s
  unfold execSplitHiWrite
  refine Gives.ite ?_ ?_
  · exact Gives.ok (Keep.step (State.refuseWrite_keep ..) h0 rfl)
  · refine Gives.ite ?_ ?_
    · exact Gives.ok (Keep.step (State.regWrite_keep ..) h0 rfl)
    · exact Gives.ok h0

theorem execWindowPageSelect_gives (w : Nat) (page : Nat) (s : State) : Gives 0x8000001 s (execWindowPageSelect w page s) := by
  have h0 := Keep.refl 0x8000001 s
  unfold execWindowPageSelect
  refine Gives.ite ?_ ?_
  · exact Gives.ok h0
  · extract_lets +onlyGivenNames x1
    refine Gives.cut (x := x1) (Keep.winWr h0 _ rfl) (fun h2 => ?_)
    generalize x1 = y3 at *
    exact Gives.ok (Keep.wr .glb (Keep.wr .glb h2 rfl rfl) rfl rfl)

theorem State.winApply_keep (s : State) (w : Nat) (shadow : Bool) (e : Nat) (words : List Nat) : Keep 0x40e100044 s (State.winApply s w shadow e words) := by
  have h0 := Keep.refl 0x40e100044 s
  unfold State.winApply
  extract_lets +onlyGivenNames x1
  generalize x1 = y2 at *
  exact (Keep.ite (Keep.step (State.fwtWindowApply_keep ..) h0 rfl) (Keep.step (State.setWinNat_keep ..) h0 rfl))

theorem execWindowWordWrite_gives (who : Nat) (off : Nat) (val : Word) (s : State) : Gives 0x100000040e300045 s (execWindowWordWrite who off val s) := by
  have h0 := Keep.refl 0x100000040e300045 s
  unfold execWindowWordWrite
  refine Gives.ite ?_ ?_
  · exact Gives.ok (Keep.step (State.refuseWrite_keep ..) h0 rfl)
  · split
    refine Gives.ite ?_ ?_
    · exact Gives.ok (Keep.step (State.bad_keep ..) h0 rfl)
    · extract_lets +onlyGivenNames x1
      generalize x1 = y2 at *
      extract_lets +onlyGivenNames x3
      generalize x3 = y4 at *
      extract_lets +onlyGivenNames x5
      generalize x5 = y6 at *
      refine Gives.ite ?_ ?_
      · exact Gives.ok (Keep.wr .glb (Keep.winWr h0 _ rfl) rfl rfl)
      · extract_lets +onlyGivenNames x7
        refine Gives.cut (x := x7) (Keep.wr .glb (Keep.winWr h0 _ rfl) rfl rfl) (fun h8 => ?_)
        generalize x7 = y9 at *
        exact Gives.ok (Keep.ite (Keep.wr .glb h8 rfl rfl) (Keep.step (State.winApply_keep ..) h8 rfl))

theorem execWindowFirstWordRead_gives (who : Nat) (off : Nat) (s : State) : Gives 0x3000000410300005 s (execWindowFirstWordRead who off s) := by
  have h0 := Keep.refl 0x3000000410300005 s
  unfold execWindowFirstWordRead
  refine Gives.ite ?_ ?_
  · exact Gives.ok (Keep.step (State.refuseRead_keep ..) h0 rfl)
  · split
    refine Gives.ite ?_ ?_
    · exact Gives.ok (Keep.step (State.answer_keep ..) (Keep.step (State.bad_keep ..) h0 rfl) rfl)
    · refine Gives.ite ?_ ?_
      · exact Gives.ok (Keep.step (State.answer_keep ..) h0 rfl)
      · extract_lets +onlyGivenNames x1
        generalize x1 = y2 at *
        refine Gives.ite ?_ ?_
        · extract_lets +onlyGivenNames x3
          generalize x3 = y4 at *
          exact Gives.ok (Keep.step (State.answer_keep ..) (Keep.winRd h0 _ rfl) rfl)
        · refine Gives.ite ?_ ?_
          · exact Gives.ok (Keep.step (State.answer_keep ..) h0 rfl)
          · exact Gives.ok (Keep.step (State.answer_keep ..) h0 rfl)

end Sys2Proof.Machine
end

