-- ==== Sys2Proof/Laws/KeepRestart.lean ====
section
/-!
SUPPORT. What each operation and each command of Machine/Restart.lean can do to the state: the zones and parts it stays within.
-/
namespace Sys2Proof.Machine

theorem State.setUpd_keep (s : State) (u : UpdSt) : Keep 0x800000000000000 s (State.setUpd s u) := by
  have h0 := Keep.refl 0x800000000000000 s
  unfold State.setUpd
  exact (Keep.bootRest h0 rfl rfl ⟨rfl, rfl, rfl⟩ rfl)

theorem State.flashStops_keep (s : State) (lost : Bool) : Keep 0x4100000000000000 s (State.flashStops s lost) := by
  have h0 := Keep.refl 0x4100000000000000 s
  unfold State.flashStops
  refine Keep.ite h0 ?_
  refine Keep.ite ?_ (Keep.ite (Keep.step (State.flashPut_keep ..) (Keep.step (State.freeBytes_keep ..) h0 rfl) rfl) (Keep.step (State.flashPut_keep ..) h0 rfl))
  extract_lets +onlyGivenNames x1
  refine Keep.cut (x := x1) (Keep.step (State.flashErase_keep ..) h0 rfl) (fun h2 => ?_)
  generalize x1 = y3 at *
  exact (Keep.ite (Keep.step (State.flashPut_keep ..) (Keep.step (State.freeBytes_keep ..) h2 rfl) rfl) h2)

theorem State.showOtp_keep (s : State) : Keep 0x80000 s (State.showOtp s) := by
  have h0 := Keep.refl 0x80000 s
  unfold State.showOtp
  extract_lets +onlyGivenNames x1
  generalize x1 = y2 at *
  exact (Keep.wr .boot (Keep.wr .boot (Keep.wr .boot (Keep.wr .boot h0 rfl rfl) rfl rfl) rfl rfl) rfl rfl)

theorem State.showUpdRec_keep (s : State) : Keep 0x80000 s (State.showUpdRec s) := by
  have h0 := Keep.refl 0x80000 s
  unfold State.showUpdRec
  extract_lets +onlyGivenNames x1
  generalize x1 = y2 at *
  exact (Keep.wr .boot (Keep.wr .boot (Keep.wr .boot h0 rfl rfl) rfl rfl) rfl rfl)

theorem State.deviceReset_keep (s : State) (cause : Nat) (lost : Bool) : Keep 0x4fffffbfffffffff s (State.deviceReset s cause lost) := by
  have h0 := Keep.refl 0x4fffffbfffffffff s
  unfold State.deviceReset
  extract_lets +onlyGivenNames x1
  refine Keep.cut (x := x1) (Keep.step (State.flashStops_keep ..) (Keep.step (State.timCarry_keep ..) h0 rfl) rfl) (fun h2 => ?_)
  generalize x1 = y3 at *
  extract_lets +onlyGivenNames x4
  generalize x4 = y5 at *
  extract_lets +onlyGivenNames x6
  generalize x6 = y7 at *
  extract_lets +onlyGivenNames x8
  refine Keep.cut (x := x8) (Keep.step (State.clearDevice_keep ..) h2 rfl) (fun h9 => ?_)
  generalize x8 = y10 at *
  extract_lets +onlyGivenNames x11
  refine Keep.cut (x := x11) (Keep.wr .tim (Keep.wr .pwr (Keep.wr .pwr h9 rfl rfl) rfl rfl) rfl rfl) (fun h12 => ?_)
  generalize x11 = y13 at *
  exact (Keep.step (State.showUpdRec_keep ..) (Keep.step (State.showOtp_keep ..) h12 rfl) rfl)

theorem State.leaveReset_keep (s : State) : Keep 0x800000200000000 s (State.leaveReset s) := by
  have h0 := Keep.refl 0x800000200000000 s
  unfold State.leaveReset
  exact (Keep.ite (Keep.setBootRest (Keep.pins h0 _ rfl) rfl rfl ⟨rfl, rfl, rfl⟩ rfl) h0)

theorem State.deviceFault_keep (s : State) (cause : Nat) (blk : Nat) : Keep 0x4fffffffffffffff s (State.deviceFault s cause blk) := by
  have h0 := Keep.refl 0x4fffffffffffffff s
  unfold State.deviceFault
  extract_lets +onlyGivenNames x1
  generalize x1 = y2 at *
  extract_lets +onlyGivenNames x3
  generalize x3 = y4 at *
  extract_lets +onlyGivenNames x5
  generalize x5 = y6 at *
  extract_lets +onlyGivenNames x7
  generalize x7 = y8 at *
  extract_lets +onlyGivenNames x9
  refine Keep.cut (x := x9) (Keep.evt h0 _ rfl) (fun h10 => ?_)
  generalize x9 = y11 at *
  extract_lets +onlyGivenNames x12
  refine Keep.cut (x := x12) (Keep.step (State.deviceReset_keep ..) h10 rfl) (fun h13 => ?_)
  generalize x12 = y14 at *
  exact (Keep.step (State.startJournal_keep ..) (Keep.pins h13 _ rfl) rfl)

theorem execWatchdogKick_gives (s : State) : Gives 0x400000000 s (execWatchdogKick s) := by
  have h0 := Keep.refl 0x400000000 s
  unfold execWatchdogKick
  exact Gives.ok (Keep.evt h0 _ rfl)

theorem execWatchdogHalf_gives (s : State) : Gives 0x8000000c00100004 s (execWatchdogHalf s) := by
  have h0 := Keep.refl 0x8000000c00100004 s
  unfold execWatchdogHalf
  refine Gives.ite ?_ ?_
  · exact Gives.ok h0
  · extract_lets +onlyGivenNames x1
    refine Gives.cut (x := x1) (Keep.step (State.advanceTo_keep ..) h0 rfl) (fun h2 => ?_)
    generalize x1 = y3 at *
    exact Gives.ok (Keep.step (State.raise_keep ..) (Keep.evt h2 _ rfl) rfl)

theorem execWatchdogExpire_gives (s : State) : Gives 0xcfffffffffffffff s (execWatchdogExpire s) := by
  have h0 := Keep.refl 0xcfffffffffffffff s
  unfold execWatchdogExpire
  refine Gives.ite ?_ ?_
  · exact Gives.ok h0
  · exact Gives.ok (Keep.step (State.deviceFault_keep ..) (Keep.step (State.advanceTo_keep ..) h0 rfl) rfl)

end Sys2Proof.Machine
end

