-- ==== Sys2Proof/Laws/KeepUpdate.lean ====
section
/-!
SUPPORT. What each operation and each command of Machine/Update.lean can do to the state: the zones and parts it stays within.
-/
namespace Sys2Proof.Machine

theorem State.setPhase_keep (s : State) (ph : Nat) (reason : Nat) : Keep 0x40000046001c0004 s (State.setPhase s ph reason) := by
  have h0 := Keep.refl 0x40000046001c0004 s
  unfold State.setPhase
  extract_lets +onlyGivenNames x1
  refine Keep.cut (x := x1) (Keep.wr .boot (Keep.wr .boot h0 rfl rfl) rfl rfl) (fun h2 => ?_)
  generalize x1 = y3 at *
  extract_lets +onlyGivenNames x4
  refine Keep.cut (x := x4) (Keep.step (State.mramStore_keep ..) h2 rfl) (fun h5 => ?_)
  generalize x4 = y6 at *
  extract_lets +onlyGivenNames x7
  refine Keep.cut (x := x7) (Keep.step (State.raise_keep ..) h5 rfl) (fun h8 => ?_)
  generalize x7 = y9 at *
  exact (Keep.step (State.showSpiWp_keep ..) (Keep.ite (Keep.step (State.raise_keep ..) h8 rfl) h8) rfl)

theorem State.updDone_keep (s : State) (j : Option (Nat × Nat)) (status : Nat) (detail : Nat) : Keep 0x1800003400701004 s (State.updDone s j status detail) := by
  have h0 := Keep.refl 0x1800003400701004 s
  unfold State.updDone
  split
  · exact (Keep.step (State.finishJob_keep ..) h0 rfl)
  · exact h0

theorem State.updIssue_keep (s : State) : Keep 0x800000200000000 s (State.updIssue s) := by
  have h0 := Keep.refl 0x800000200000000 s
  unfold State.updIssue
  exact (Keep.step (State.showSpiWp_keep ..) (Keep.step (State.setUpd_keep ..) h0 rfl) rfl)

theorem State.updStep_keep (s : State) : Keep 0x58000076007c1004 s (State.updStep s) := by
  have h0 := Keep.refl 0x58000076007c1004 s
  unfold State.updStep
  extract_lets +onlyGivenNames x1
  generalize x1 = y2 at *
  extract_lets +onlyGivenNames x3
  generalize x3 = y4 at *
  refine Keep.ite ?_ ?_
  · extract_lets +onlyGivenNames x5
    refine Keep.cut (x := x5) (Keep.step (State.setUpd_keep ..) (Keep.step (State.setPhase_keep ..) h0 rfl) rfl) (fun h6 => ?_)
    generalize x5 = y7 at *
    exact (Keep.step (State.updDone_keep ..) (Keep.step (State.updDone_keep ..) h6 rfl) rfl)
  · refine Keep.ite ?_ ?_
    · extract_lets +onlyGivenNames x8
      refine Keep.cut (x := x8) (Keep.step (State.setUpd_keep ..) (Keep.wr .boot h0 rfl rfl) rfl) (fun h9 => ?_)
      generalize x8 = y10 at *
      extract_lets +onlyGivenNames x11
      refine Keep.cut (x := x11) (Keep.wr .boot (Keep.wr .boot (Keep.step (State.setPhase_keep ..) h9 rfl) rfl rfl) rfl rfl) (fun h12 => ?_)
      generalize x11 = y13 at *
      exact (Keep.step (State.updIssue_keep ..) h12 rfl)
    · refine Keep.ite (Keep.step (State.setPhase_keep ..) (Keep.step (State.setUpd_keep ..) h0 rfl) rfl) ?_
      refine Keep.ite (Keep.ite (Keep.step (State.updIssue_keep ..) h0 rfl) (Keep.step (State.updDone_keep ..) (Keep.step (State.setPhase_keep ..) (Keep.step (State.setUpd_keep ..) h0 rfl) rfl) rfl)) ?_
      refine Keep.ite (Keep.ite (Keep.step (State.updIssue_keep ..) h0 rfl) (Keep.step (State.updDone_keep ..) (Keep.step (State.setUpd_keep ..) h0 rfl) rfl)) ?_
      split
      · exact (Keep.step (State.updDone_keep ..) (Keep.step (State.setPhase_keep ..) (Keep.step (State.setUpd_keep ..) h0 rfl) rfl) rfl)
      · extract_lets +onlyGivenNames x14
        generalize x14 = y15 at *
        extract_lets +onlyGivenNames x16
        refine Keep.cut (x := x16) (Keep.wr .boot (Keep.wr .boot (Keep.wr .boot h0 rfl rfl) rfl rfl) rfl rfl) (fun h17 => ?_)
        generalize x16 = y18 at *
        exact (Keep.step (State.updDone_keep ..) (Keep.step (State.setPhase_keep ..) (Keep.step (State.setUpd_keep ..) h17 rfl) rfl) rfl)
      · exact (Keep.step (State.updIssue_keep ..) h0 rfl)

theorem State.updGo_keep (s : State) : Keep 0x58000076007c1004 s (State.updGo s) := by
  have h0 := Keep.refl 0x58000076007c1004 s
  unfold State.updGo
  extract_lets +onlyGivenNames x1
  generalize x1 = y2 at *
  refine Keep.ite h0 ?_
  refine Keep.ite ?_ (Keep.step (State.updStep_keep ..) (Keep.wr .boot h0 rfl rfl) rfl)
  extract_lets +onlyGivenNames x3
  refine Keep.cut (x := x3) (Keep.wr .boot h0 rfl rfl) (fun h4 => ?_)
  generalize x3 = y5 at *
  exact (Keep.ite h4 (Keep.step (State.raise_keep ..) (Keep.step (State.setUpd_keep ..) h4 rfl) rfl))

theorem State.updAbort_keep (s : State) (j : Option (Nat × Nat)) : Keep 0x58000076007c1004 s (State.updAbort s j) := by
  have h0 := Keep.refl 0x58000076007c1004 s
  unfold State.updAbort
  exact (Keep.step (State.updGo_keep ..) (Keep.step (State.setUpd_keep ..) h0 rfl) rfl)

theorem execUpdateBegin_gives (g : Nat) (s : State) : Gives 0x58000076007c1004 s (execUpdateBegin g s) := by
  have h0 := Keep.refl 0x58000076007c1004 s
  unfold execUpdateBegin
  split
  · exact Gives.ok h0
  · refine Gives.ite ?_ ?_
    · exact Gives.ok h0
    · refine Gives.ite ?_ ?_
      · exact Gives.ok (Keep.step (State.updGo_keep ..) (Keep.step (State.setUpd_keep ..) h0 rfl) rfl)
      · exact Gives.ok (Keep.step (State.finishJob_keep ..) h0 rfl)

theorem execUpdateWrite_gives (g : Nat) (s : State) : Gives 0x58000076007c1004 s (execUpdateWrite g s) := by
  have h0 := Keep.refl 0x58000076007c1004 s
  unfold execUpdateWrite
  split
  · exact Gives.ok h0
  · extract_lets +onlyGivenNames x1
    generalize x1 = y2 at *
    extract_lets +onlyGivenNames x3
    generalize x3 = y4 at *
    extract_lets +onlyGivenNames x5
    generalize x5 = y6 at *
    refine Gives.ite ?_ ?_
    · exact Gives.ok h0
    · refine Gives.ite ?_ ?_
      · exact Gives.ok (Keep.step (State.finishJob_keep ..) h0 rfl)
      · refine Gives.ite ?_ ?_
        · exact Gives.ok (Keep.step (State.finishJob_keep ..) h0 rfl)
        · refine Gives.ite ?_ ?_
          · exact Gives.ok (Keep.step (State.finishJob_keep ..) h0 rfl)
          · exact Gives.ok (Keep.step (State.updGo_keep ..) (Keep.step (State.setUpd_keep ..) h0 rfl) rfl)

theorem execUpdateFinish_gives (g : Nat) (s : State) : Gives 0x58000076007c1004 s (execUpdateFinish g s) := by
  have h0 := Keep.refl 0x58000076007c1004 s
  unfold execUpdateFinish
  split
  · exact Gives.ok h0
  · extract_lets +onlyGivenNames x1
    generalize x1 = y2 at *
    refine Gives.ite ?_ ?_
    · exact Gives.ok h0
    · refine Gives.ite ?_ ?_
      · exact Gives.ok (Keep.step (State.finishJob_keep ..) h0 rfl)
      · exact Gives.ok (Keep.step (State.updGo_keep ..) (Keep.step (State.setUpd_keep ..) h0 rfl) rfl)

theorem execUpdateAbort_gives (g : Nat) (s : State) : Gives 0x58000076007c1004 s (execUpdateAbort g s) := by
  have h0 := Keep.refl 0x58000076007c1004 s
  unfold execUpdateAbort
  refine Gives.ite ?_ ?_
  · exact Gives.ok h0
  · split
    · exact Gives.ok h0
    · refine Gives.ite ?_ ?_
      · exact Gives.ok (Keep.step (State.updAbort_keep ..) h0 rfl)
      · exact Gives.ok (Keep.step (State.finishJob_keep ..) h0 rfl)

theorem execFlashEraseDone_gives (s : State) : Gives 0x59000076007c1004 s (execFlashEraseDone s) := by
  have h0 := Keep.refl 0x59000076007c1004 s
  unfold execFlashEraseDone
  extract_lets +onlyGivenNames x1
  generalize x1 = y2 at *
  refine Gives.ite ?_ ?_
  · exact Gives.ok h0
  · extract_lets +onlyGivenNames x3
    refine Gives.cut (x := x3) (Keep.step (State.flashErase_keep ..) h0 rfl) (fun h4 => ?_)
    generalize x3 = y5 at *
    extract_lets +onlyGivenNames x6
    refine Gives.cut (x := x6) (Keep.wr .boot (Keep.step (State.setUpd_keep ..) h4 rfl) rfl rfl) (fun h7 => ?_)
    generalize x6 = y8 at *
    exact Gives.ok (Keep.step (State.showSpiWp_keep ..) (Keep.step (State.updGo_keep ..) h7 rfl) rfl)

theorem execFlashProgramDone_gives (got : List Byte) (s : State) : Gives 0x59000076007c1004 s (execFlashProgramDone got s) := by
  have h0 := Keep.refl 0x59000076007c1004 s
  unfold execFlashProgramDone
  extract_lets +onlyGivenNames x1
  generalize x1 = y2 at *
  refine Gives.ite ?_ ?_
  · exact Gives.ok h0
  · extract_lets +onlyGivenNames x3
    generalize x3 = y4 at *
    extract_lets +onlyGivenNames x5
    refine Gives.cut (x := x5) (Keep.step (State.cal_keep ..) (Keep.step (State.flashPut_keep ..) h0 rfl) rfl) (fun h6 => ?_)
    generalize x5 = y7 at *
    extract_lets +onlyGivenNames x8
    refine Gives.cut (x := x8) (Keep.wr .boot h6 rfl rfl) (fun h9 => ?_)
    generalize x8 = y10 at *
    extract_lets +onlyGivenNames x11
    generalize x11 = y12 at *
    refine Gives.ite ?_ ?_
    · refine Gives.ite ?_ ?_
      · exact Gives.ok (Keep.step (State.showSpiWp_keep ..) (Keep.step (State.updGo_keep ..) (Keep.step (State.setUpd_keep ..) h9 rfl) rfl) rfl)
      · exact Gives.ok (Keep.step (State.showSpiWp_keep ..) (Keep.step (State.updGo_keep ..) (Keep.step (State.setUpd_keep ..) (Keep.step (State.draw_keep ..) h9 rfl) rfl) rfl) rfl)
    · refine Gives.ite ?_ ?_
      · exact Gives.ok (Keep.step (State.showSpiWp_keep ..) (Keep.step (State.updGo_keep ..) (Keep.step (State.setUpd_keep ..) h9 rfl) rfl) rfl)
      · exact Gives.ok (Keep.step (State.showSpiWp_keep ..) (Keep.step (State.updGo_keep ..) (Keep.step (State.updDone_keep ..) (Keep.step (State.setUpd_keep ..) h9 rfl) rfl) rfl) rfl)

theorem execUpdateCheckDone_gives (s : State) : Gives 0x58000076007c1004 s (execUpdateCheckDone s) := by
  have h0 := Keep.refl 0x58000076007c1004 s
  unfold execUpdateCheckDone
  extract_lets +onlyGivenNames x1
  generalize x1 = y2 at *
  refine Gives.ite ?_ ?_
  · exact Gives.ok h0
  · extract_lets +onlyGivenNames x3
    generalize x3 = y4 at *
    extract_lets +onlyGivenNames x5
    generalize x5 = y6 at *
    extract_lets +onlyGivenNames x7
    generalize x7 = y8 at *
    extract_lets +onlyGivenNames x9
    generalize x9 = y10 at *
    extract_lets +onlyGivenNames x11
    generalize x11 = y12 at *
    extract_lets +onlyGivenNames x13
    generalize x13 = y14 at *
    exact Gives.ok (Keep.step (State.updGo_keep ..) (Keep.step (State.setUpd_keep ..) h0 rfl) rfl)

theorem execFloorProgram_gives (s : State) : Gives 0xa00000400180004 s (execFloorProgram s) := by
  have h0 := Keep.refl 0xa00000400180004 s
  unfold execFloorProgram
  refine Gives.ite (Gives.ok h0) ?_
  extract_lets x1
  refine Gives.ite (Gives.ok (Keep.step (State.raise_keep ..) (Keep.wr .boot h0 rfl rfl) rfl)) (Gives.ok ?_)
  refine Keep.wr .boot ?_ rfl rfl
  exact Keep.setBootOtp h0 rfl rfl rfl

theorem execFloorProgramDone_gives (s : State) : Gives 0xa00000400180004 s (execFloorProgramDone s) := by
  have h0 := Keep.refl 0xa00000400180004 s
  unfold execFloorProgramDone
  refine Gives.ite ?_ ?_
  · exact Gives.ok h0
  · extract_lets +onlyGivenNames x1
    generalize x1 = y2 at *
    extract_lets +onlyGivenNames x3
    extract_lets +onlyGivenNames x4
    refine Gives.cut (x := x4) (Keep.step (State.showOtp_keep ..) (Keep.setBootOtp h0 rfl rfl rfl) rfl) (fun h5 => ?_)
    generalize x4 = y6 at *
    exact Gives.ok (Keep.step (State.raise_keep ..) (Keep.wr .boot h5 rfl rfl) rfl)

theorem execLoadPartition_gives (g : Nat) (s : State) : Gives 0x180000b400781004 s (execLoadPartition g s) := by
  have h0 := Keep.refl 0x180000b400781004 s
  unfold execLoadPartition
  split
  · exact Gives.ok h0
  · extract_lets +onlyGivenNames x1
    generalize x1 = y2 at *
    refine Gives.ite ?_ ?_
    · exact Gives.ok (Keep.step (State.finishJob_keep ..) h0 rfl)
    · extract_lets +onlyGivenNames x3
      generalize x3 = y4 at *
      refine Gives.ite ?_ ?_
      · exact Gives.ok (Keep.step (State.finishJob_keep ..) h0 rfl)
      · extract_lets +onlyGivenNames x5
        generalize x5 = y6 at *
        extract_lets +onlyGivenNames x7
        generalize x7 = y8 at *
        extract_lets +onlyGivenNames x9
        refine Gives.cut (x := x9) (Keep.step (State.rtWrite_keep ..) (Keep.step (State.setPart_keep ..) h0 rfl) rfl) (fun h10 => ?_)
        generalize x9 = y11 at *
        exact Gives.ok (Keep.step (State.finishJob_keep ..) (Keep.step (State.raise_keep ..) (Keep.wr .boot h10 rfl rfl) rfl) rfl)

theorem State.activate_keep (s : State) (p : Nat) : Keep 0x8002084607fffff s (State.activate s p) := by
  have h0 := Keep.refl 0x8002084607fffff s
  unfold State.activate
  extract_lets +onlyGivenNames x1
  extract_lets +onlyGivenNames x3
  extract_lets +onlyGivenNames x5
  generalize x5 = y6 at *
  extract_lets +onlyGivenNames x7
  generalize x7 = y8 at *
  extract_lets +onlyGivenNames x9
  refine Keep.cut (x := x9) (Keep.step (State.abortHolders_keep ..) (Keep.wr .boot h0 rfl rfl) rfl) (fun h10 => ?_)
  generalize x9 = y11 at *
  extract_lets +onlyGivenNames x12
  refine Keep.cut (x := x12) (Keep.step (State.forceAbort_keep ..) h10 rfl) (fun h13 => ?_)
  generalize x12 = y14 at *
  extract_lets +onlyGivenNames x15
  generalize x15 = y16 at *
  extract_lets +onlyGivenNames x17
  refine Keep.cut (x := x17) (Keep.cpu h13 _ rfl) (fun h18 => ?_)
  generalize x17 = y19 at *
  extract_lets +onlyGivenNames x20
  refine Keep.cut (x := x20) (Keep.step (State.coldLoad_keep ..) (Keep.step (State.setPart_keep ..) h18 rfl) rfl) (fun h21 => ?_)
  generalize x20 = y22 at *
  extract_lets +onlyGivenNames x23
  refine Keep.cut (x := x23) (Keep.wr .boot (Keep.wr .boot h21 rfl rfl) rfl rfl) (fun h24 => ?_)
  generalize x23 = y25 at *
  extract_lets +onlyGivenNames x26
  refine Keep.cut (x := x26) ?_ (fun h27 => ?_)
  · unfold x26
    clear x26
    refine Keep.forEach ?_ (fun a29 u28 => ?_)
    · exact h24
    have h30 := Keep.refl 0x8002084607fffff u28
    extract_lets +onlyGivenNames x31
    refine Keep.ite ?_ h30
    extract_lets +onlyGivenNames x33
    generalize x33 = y34 at *
    exact (Keep.step (State.raise_keep ..) (Keep.wr .cpu h30 rfl rfl) rfl)
  generalize x26 = y35 at *
  exact (Keep.step (State.raise_keep ..) (Keep.step (State.showParts_keep ..) h27 rfl) rfl)

theorem execActivatePartition_gives (g : Nat) (s : State) : Gives 0x180020b4607fffff s (execActivatePartition g s) := by
  have h0 := Keep.refl 0x180020b4607fffff s
  unfold execActivatePartition
  split
  · exact Gives.ok h0
  · extract_lets +onlyGivenNames x1
    generalize x1 = y2 at *
    refine Gives.ite ?_ ?_
    · exact Gives.ok (Keep.step (State.finishJob_keep ..) h0 rfl)
    · refine Gives.ite ?_ ?_
      · exact Gives.ok (Keep.step (State.finishJob_keep ..) h0 rfl)
      · exact Gives.ok (Keep.step (State.finishJob_keep ..) (Keep.step (State.activate_keep ..) h0 rfl) rfl)

theorem execPartitionActivateReg_gives (who : Nat) (p : Nat) (s : State) : Gives 0x18002084607fffff s (execPartitionActivateReg who p s) := by
  have h0 := Keep.refl 0x18002084607fffff s
  unfold execPartitionActivateReg
  refine Gives.ite ?_ ?_
  · exact Gives.ok (Keep.step (State.refuseWrite_keep ..) h0 rfl)
  · refine Gives.ite ?_ ?_
    · exact Gives.ok h0
    · refine Gives.ite ?_ ?_
      · exact Gives.ok (Keep.step (State.bad_keep ..) h0 rfl)
      · refine Gives.ite ?_ ?_
        · exact Gives.ok h0
        · exact Gives.ok (Keep.step (State.activate_keep ..) h0 rfl)

end Sys2Proof.Machine
end

