-- ==== Sys2Proof/Laws/KeepStandby.lean ====
section
/-!
SUPPORT. What each operation and each command of Machine/Standby.lean can do to the state: the zones and parts it stays within.
-/
namespace Sys2Proof.Machine

theorem State.standbyHost_keep (s : State) : Keep 0x58bc3274667fffff s (State.standbyHost s) := by
  have h0 := Keep.refl 0x58bc3274667fffff s
  unfold State.standbyHost
  extract_lets +onlyGivenNames x1
  generalize x1 = y2 at *
  extract_lets +onlyGivenNames x3
  generalize x3 = y4 at *
  extract_lets +onlyGivenNames x5
  generalize x5 = y6 at *
  extract_lets +onlyGivenNames x7
  refine Keep.cut (x := x7) (Keep.fields h0 rfl (Nat.le_refl _) ⟨rfl, rfl, rfl, rfl, rfl, rfl, rfl, rfl⟩ (fun p hp => by cases p <;> first | rfl | exact ⟨rfl, rfl, rfl⟩ | exact ⟨rfl, rfl, rfl, rfl, rfl, rfl⟩ | exact absurd hp (by decide))) (fun h8 => ?_)
  generalize x7 = y9 at *
  extract_lets +onlyGivenNames x10
  refine Keep.cut (x := x10) ?_ (fun h11 => ?_)
  · unfold x10
    clear x10
    refine Keep.forEach ?_ (fun a13 u12 => ?_)
    · exact h8
    have h14 := Keep.refl 0x58bc3274667fffff u12
    exact (Keep.wr .fpt (Keep.step (State.bypCheck_keep ..) h14 rfl) rfl rfl)
  generalize x10 = y15 at *
  exact (Keep.step (State.hifReset_keep ..) h11 rfl)

theorem State.standbyPorts_keep (s : State) : Keep 0x58021676007cd016 s (State.standbyPorts s) := by
  have h0 := Keep.refl 0x58021676007cd016 s
  unfold State.standbyPorts
  extract_lets +onlyGivenNames x1
  refine Keep.cut (x := x1) ?_ (fun h2 => ?_)
  · unfold x1
    clear x1
    refine Keep.forEach ?_ (fun a4 u3 => ?_)
    · exact h0
    have h5 := Keep.refl 0x58021676007cd016 u3
    exact (Keep.ite h5 (Keep.step (State.setLstate_keep ..) (Keep.step (State.cutFrames_keep ..) h5 rfl) rfl))
  generalize x1 = y6 at *
  extract_lets +onlyGivenNames x7
  refine Keep.cut (x := x7) ?_ (fun h8 => ?_)
  · unfold x7
    clear x7
    refine Keep.forEach ?_ (fun a10 u9 => ?_)
    · exact h2
    have h11 := Keep.refl 0x58021676007cd016 u9
    exact (Keep.step (State.pairSettle_keep ..) h11 rfl)
  generalize x7 = y12 at *
  extract_lets +onlyGivenNames x13
  refine Keep.cut (x := x13) ?_ (fun h14 => ?_)
  · unfold x13
    clear x13
    refine Keep.forEach ?_ (fun a16 u15 => ?_)
    · exact h8
    have h17 := Keep.refl 0x58021676007cd016 u15
    refine Keep.forEach ?_ (fun a19 u18 => ?_)
    · exact (Keep.step (State.setSchQ_keep ..) h17 rfl)
    have h20 := Keep.refl 0x58021676007cd016 u18
    exact (Keep.step (State.freeCells_keep ..) h20 rfl)
  generalize x13 = y21 at *
  extract_lets +onlyGivenNames x22
  generalize x22 = y23 at *
  extract_lets +onlyGivenNames x24
  refine Keep.cut (x := x24) (Keep.ppl h14 _ rfl) (fun h25 => ?_)
  generalize x24 = y26 at *
  extract_lets +onlyGivenNames x27
  refine Keep.cut (x := x27) (Keep.step (State.setRole_keep ..) h25 rfl) (fun h28 => ?_)
  generalize x27 = y29 at *
  extract_lets +onlyGivenNames x30
  refine Keep.cut (x := x30) (Keep.ite (Keep.step (State.updAbort_keep ..) h28 rfl) h28) (fun h31 => ?_)
  generalize x30 = y32 at *
  extract_lets +onlyGivenNames x33
  refine Keep.cut (x := x33) ?_ (fun h34 => ?_)
  · unfold x33
    clear x33
    refine Keep.forEach ?_ (fun a36 u35 => ?_)
    · exact h31
    have h37 := Keep.refl 0x58021676007cd016 u35
    exact (Keep.ite (Keep.step (State.setPub_keep ..) h37 rfl) h37)
  generalize x33 = y38 at *
  exact (Keep.pins h34 _ rfl)

theorem State.standbyStores_keep (s : State) : Keep 0x64011400160804 s (State.standbyStores s) := by
  have h0 := Keep.refl 0x64011400160804 s
  unfold State.standbyStores
  exact (Keep.step (State.dropRepairs_keep ..) (Keep.step (State.dmaIdle_keep ..) (Keep.step (State.truncateSegs_keep ..) h0 rfl) rfl) rfl)

theorem State.standbyDrives_keep (s : State) : Keep 0x1010004400702004 s (State.standbyDrives s) := by
  have h0 := Keep.refl 0x1010004400702004 s
  unfold State.standbyDrives
  extract_lets +onlyGivenNames x1
  refine Keep.cut (x := x1) ?_ (fun h2 => ?_)
  · unfold x1
    clear x1
    refine Keep.forEach ?_ (fun a4 u3 => ?_)
    · exact h0
    have h5 := Keep.refl 0x1010004400702004 u3
    extract_lets +onlyGivenNames x6
    generalize x6 = y7 at *
    exact (Keep.ite (Keep.ite (Keep.step (State.setDs_keep ..) h5 rfl) h5) (Keep.ite (Keep.step (State.setSstate_keep ..) (Keep.step (State.powerOffSlot_keep ..) h5 rfl) rfl) h5))
  generalize x1 = y8 at *
  exact (Keep.step (State.stgSettle_keep ..) h2 rfl)

theorem State.standbyCores_keep (s : State) : Keep 0x200000090000 s (State.standbyCores s) := by
  have h0 := Keep.refl 0x200000090000 s
  unfold State.standbyCores
  extract_lets +onlyGivenNames x1
  refine Keep.cut (x := x1) ?_ (fun h2 => ?_)
  · unfold x1
    clear x1
    refine Keep.forEach ?_ (fun a4 u3 => ?_)
    · exact h0
    have h5 := Keep.refl 0x200000090000 u3
    refine Keep.forEach ?_ (fun a7 u6 => ?_)
    · exact h5
    have h8 := Keep.refl 0x200000090000 u6
    exact (Keep.step (State.stopThreads_keep ..) h8 rfl)
  generalize x1 = y9 at *
  refine Keep.forEach ?_ (fun a11 u10 => ?_)
  · exact h2
  have h12 := Keep.refl 0x200000090000 u10
  exact (Keep.ite (Keep.wr .boot h12 rfl rfl) h12)

theorem State.standbyTime_keep (s : State) : Keep 0x800000008 s (State.standbyTime s) := by
  have h0 := Keep.refl 0x800000008 s
  unfold State.standbyTime
  extract_lets +onlyGivenNames x1
  refine Keep.cut (x := x1) (Keep.step (State.timCarry_keep ..) h0 rfl) (fun h2 => ?_)
  generalize x1 = y3 at *
  extract_lets +onlyGivenNames x4
  generalize x4 = y5 at *
  extract_lets +onlyGivenNames x6
  refine Keep.cut (x := x6) (Keep.tim h2 _ rfl) (fun h7 => ?_)
  generalize x6 = y8 at *
  exact (Keep.wr .tim (Keep.wr .tim (Keep.wr .tim (Keep.wr .tim h7 rfl rfl) rfl rfl) rfl rfl) rfl rfl)

theorem State.standbyEnd_keep (s : State) : Keep 0x80200a000d000a s (State.standbyEnd s) := by
  have h0 := Keep.refl 0x80200a000d000a s
  unfold State.standbyEnd
  extract_lets +onlyGivenNames x1
  refine Keep.cut (x := x1) (Keep.step (State.standbyTime_keep ..) (Keep.step (State.standbyCores_keep ..) h0 rfl) rfl) (fun h2 => ?_)
  generalize x1 = y3 at *
  extract_lets +onlyGivenNames x4
  refine Keep.cut (x := x4) (Keep.wr .mem (Keep.wr .mem h2 rfl rfl) rfl rfl) (fun h5 => ?_)
  generalize x4 = y6 at *
  extract_lets +onlyGivenNames x7
  refine Keep.cut (x := x7) (Keep.wr .pwr (Keep.count .pwr h5 rfl rfl) rfl rfl) (fun h8 => ?_)
  generalize x7 = y9 at *
  exact (Keep.fields h8 rfl (Nat.le_refl _) ⟨rfl, rfl, rfl, rfl, rfl, rfl, rfl, rfl⟩ (fun p hp => by cases p <;> first | rfl | exact ⟨rfl, rfl, rfl⟩ | exact ⟨rfl, rfl, rfl, rfl, rfl, rfl⟩ | exact absurd hp (by decide)))

theorem State.wakeMemory_keep (s : State) : Keep 0x40010400140004 s (State.wakeMemory s) := by
  have h0 := Keep.refl 0x40010400140004 s
  unfold State.wakeMemory
  extract_lets +onlyGivenNames x1
  refine Keep.cut (x := x1) (Keep.step (State.dropMasked_keep ..) h0 rfl) (fun h2 => ?_)
  generalize x1 = y3 at *
  extract_lets +onlyGivenNames x4
  refine Keep.cut (x := x4) (Keep.wr .mem (Keep.wr .mem h2 rfl rfl) rfl rfl) (fun h5 => ?_)
  generalize x4 = y6 at *
  refine Keep.forEach ?_ (fun a8 u7 => ?_)
  · exact h5
  have h9 := Keep.refl 0x40010400140004 u7
  refine Keep.forEach ?_ (fun a11 u10 => ?_)
  · exact h9
  have h12 := Keep.refl 0x40010400140004 u10
  exact (Keep.step (State.updateDone_keep ..) h12 rfl)

theorem State.wakeBlocks_keep (s : State) : Keep 0x4003808c0010030c s (State.wakeBlocks s) := by
  have h0 := Keep.refl 0x4003808c0010030c s
  unfold State.wakeBlocks
  extract_lets +onlyGivenNames x1
  refine Keep.cut (x := x1) (Keep.step (State.timSettle_keep ..) (Keep.step (State.timReturn_keep ..) h0 rfl) rfl) (fun h2 => ?_)
  generalize x1 = y3 at *
  extract_lets +onlyGivenNames x4
  generalize x4 = y5 at *
  extract_lets +onlyGivenNames x6
  refine Keep.cut (x := x6) ?_ (fun h7 => ?_)
  · unfold x6
    clear x6
    refine Keep.forEach ?_ (fun a9 u8 => ?_)
    · exact h2
    have h10 := Keep.refl 0x4003808c0010030c u8
    exact (Keep.step (State.grainStart_keep ..) h10 rfl)
  generalize x6 = y11 at *
  extract_lets +onlyGivenNames x12
  generalize x12 = y13 at *
  extract_lets +onlyGivenNames x14
  generalize x14 = y15 at *
  extract_lets +onlyGivenNames x16
  refine Keep.cut (x := x16) (Keep.tim h7 _ rfl) (fun h17 => ?_)
  generalize x16 = y18 at *
  extract_lets +onlyGivenNames x19
  refine Keep.cut (x := x19) ?_ (fun h20 => ?_)
  · unfold x19
    clear x19
    refine Keep.forEach ?_ (fun a22 u21 => ?_)
    · exact h17
    have h23 := Keep.refl 0x4003808c0010030c u21
    exact (Keep.step (State.raise_keep ..) (Keep.step (State.draw_keep ..) (Keep.step (State.beginBay_keep ..) h23 rfl) rfl) rfl)
  generalize x19 = y24 at *
  refine Keep.forEach ?_ (fun a26 u25 => ?_)
  · exact h20
  have h27 := Keep.refl 0x4003808c0010030c u25
  exact (Keep.ite (Keep.step (State.setPub_keep ..) h27 rfl) h27)

theorem State.wakeCores_keep (s : State) : Keep 0x8400190004 s (State.wakeCores s) := by
  have h0 := Keep.refl 0x8400190004 s
  unfold State.wakeCores
  refine Keep.forEach ?_ (fun a2 u1 => ?_)
  · exact h0
  have h3 := Keep.refl 0x8400190004 u1
  refine Keep.step (State.showParts_keep ..) ?_ rfl
  refine Keep.forEach ?_ (fun a5 u4 => ?_)
  · exact h3
  have h6 := Keep.refl 0x8400190004 u4
  exact (Keep.ite (Keep.step (State.warmStart_keep ..) h6 rfl) h6)

theorem State.wakeHost_keep (s : State) : Keep 0x501a027400707405 s (State.wakeHost s) := by
  have h0 := Keep.refl 0x501a027400707405 s
  unfold State.wakeHost
  extract_lets +onlyGivenNames x1
  refine Keep.cut (x := x1) (Keep.wr .hif h0 rfl rfl) (fun h2 => ?_)
  generalize x1 = y3 at *
  extract_lets +onlyGivenNames x4
  refine Keep.cut (x := x4) ?_ (fun h5 => ?_)
  · unfold x4
    clear x4
    refine Keep.ite ?_ h2
    refine Keep.forEach ?_ (fun a7 u6 => ?_)
    · exact h2
    have h8 := Keep.refl 0x501a027400707405 u6
    exact (Keep.ite (Keep.step (State.becomeReady_keep ..) h8 rfl) h8)
  generalize x4 = y9 at *
  extract_lets +onlyGivenNames x10
  refine Keep.cut (x := x10) ?_ (fun h11 => ?_)
  · unfold x10
    clear x10
    refine Keep.forEach ?_ (fun a13 u12 => ?_)
    · exact h5
    have h14 := Keep.refl 0x501a027400707405 u12
    exact (Keep.ite (Keep.step (State.enterPresent_keep ..) h14 rfl) h14)
  generalize x10 = y15 at *
  exact (Keep.step (State.stgSettle_keep ..) (Keep.step (State.twinCommit_keep ..) h11 rfl) rfl)

theorem State.wake_keep (s : State) : Keep 0x50db83ff807d771f s (State.wake s) := by
  have h0 := Keep.refl 0x50db83ff807d771f s
  unfold State.wake
  extract_lets +onlyGivenNames x1
  generalize x1 = y2 at *
  extract_lets +onlyGivenNames x3
  generalize x3 = y4 at *
  extract_lets +onlyGivenNames x5
  generalize x5 = y6 at *
  extract_lets +onlyGivenNames x7
  refine Keep.cut (x := x7) (Keep.fields h0 rfl (Nat.le_refl _) ⟨rfl, rfl, rfl, rfl, rfl, rfl, rfl, rfl⟩ (fun p hp => by cases p <;> first | rfl | exact ⟨rfl, rfl, rfl⟩ | exact ⟨rfl, rfl, rfl, rfl, rfl, rfl⟩ | exact absurd hp (by decide))) (fun h8 => ?_)
  generalize x7 = y9 at *
  extract_lets +onlyGivenNames x10
  refine Keep.cut (x := x10) (Keep.wr .pwr (Keep.step (State.wakeMemory_keep ..) h8 rfl) rfl rfl) (fun h11 => ?_)
  generalize x10 = y12 at *
  extract_lets +onlyGivenNames x13
  refine Keep.cut (x := x13) (Keep.step (State.wakeCores_keep ..) (Keep.step (State.wakeBlocks_keep ..) h11 rfl) rfl) (fun h14 => ?_)
  generalize x13 = y15 at *
  extract_lets +onlyGivenNames x16
  generalize x16 = y17 at *
  extract_lets +onlyGivenNames x18
  generalize x18 = y19 at *
  extract_lets +onlyGivenNames x20
  refine Keep.cut (x := x20) (Keep.fields h14 rfl (Nat.le_refl _) ⟨rfl, rfl, rfl, rfl, rfl, rfl, rfl, rfl⟩ (fun p hp => by cases p <;> first | rfl | exact ⟨rfl, rfl, rfl⟩ | exact ⟨rfl, rfl, rfl, rfl, rfl, rfl⟩ | exact absurd hp (by decide))) (fun h21 => ?_)
  generalize x20 = y22 at *
  extract_lets +onlyGivenNames x23
  refine Keep.cut (x := x23) ?_ (fun h24 => ?_)
  · unfold x23
    clear x23
    refine Keep.forEach ?_ (fun a26 u25 => ?_)
    · exact h21
    have h27 := Keep.refl 0x50db83ff807d771f u25
    exact (Keep.step (State.bypCheck_keep ..) h27 rfl)
  generalize x23 = y28 at *
  extract_lets +onlyGivenNames x29
  refine Keep.cut (x := x29) (Keep.wr .pwr (Keep.count .pwr (Keep.step (State.wakeHost_keep ..) h24 rfl) rfl rfl) rfl rfl) (fun h30 => ?_)
  generalize x29 = y31 at *
  extract_lets +onlyGivenNames x32
  generalize x32 = y33 at *
  extract_lets +onlyGivenNames x34
  refine Keep.cut (x := x34) (Keep.step (State.raise_keep ..) (Keep.step (State.draw_keep ..) h30 rfl) rfl) (fun h35 => ?_)
  generalize x34 = y36 at *
  exact (Keep.step (State.showEvtOut_keep ..) (Keep.step (State.setPwr_keep ..) h35 rfl) rfl)

theorem State.standbySign_keep (s : State) : Keep 0x80000200000000 s (State.standbySign s) := by
  have h0 := Keep.refl 0x80000200000000 s
  unfold State.standbySign
  exact (Keep.fields h0 rfl (Nat.le_refl _) ⟨rfl, rfl, rfl, rfl, rfl, rfl, rfl, rfl⟩ (fun p hp => by cases p <;> first | rfl | exact ⟨rfl, rfl, rfl⟩ | exact ⟨rfl, rfl, rfl, rfl, rfl, rfl⟩ | exact absurd hp (by decide)))

theorem State.standbyBegin_keep (s : State) : Keep 0x58fe3777667fffff s (State.standbyBegin s) := by
  have h0 := Keep.refl 0x58fe3777667fffff s
  unfold State.standbyBegin
  extract_lets +onlyGivenNames x1
  refine Keep.cut (x := x1) (Keep.wr .pwr (Keep.step (State.raise_keep ..) (Keep.step (State.calSync_keep ..) h0 rfl) rfl) rfl rfl) (fun h2 => ?_)
  generalize x1 = y3 at *
  exact (Keep.step (State.standbyDrives_keep ..) (Keep.step (State.standbyStores_keep ..) (Keep.step (State.standbyPorts_keep ..) (Keep.step (State.standbyHost_keep ..) (Keep.step (State.standbySign_keep ..) h2 rfl) rfl) rfl) rfl) rfl)

theorem State.standbyGo_keep (s : State) : Keep 0x50dba3ff807d771f s (State.standbyGo s) := by
  have h0 := Keep.refl 0x50dba3ff807d771f s
  unfold State.standbyGo
  refine Keep.ite h0 ?_
  extract_lets +onlyGivenNames x1
  refine Keep.cut (x := x1) (Keep.step (State.standbyEnd_keep ..) h0 rfl) (fun h2 => ?_)
  generalize x1 = y3 at *
  exact (Keep.ite h2 (Keep.step (State.wake_keep ..) h2 rfl))

theorem State.standbyCheck_keep (s : State) : Keep 0x58ffb7ffe67fffff s (State.standbyCheck s) := by
  have h0 := Keep.refl 0x58ffb7ffe67fffff s
  unfold State.standbyCheck
  exact (Keep.ite (Keep.step (State.standbyGo_keep ..) (Keep.step (State.standbyBegin_keep ..) h0 rfl) rfl) h0)

theorem State.wakeCheck_keep (s : State) : Keep 0x50db83ff807d771f s (State.wakeCheck s) := by
  have h0 := Keep.refl 0x50db83ff807d771f s
  unfold State.wakeCheck
  exact (Keep.ite (Keep.step (State.wake_keep ..) h0 rfl) h0)

theorem State.wakeSource_keep (s : State) (k : Nat) : Keep 0x50db83ff807d771f s (State.wakeSource s k) := by
  have h0 := Keep.refl 0x50db83ff807d771f s
  unfold State.wakeSource
  extract_lets +onlyGivenNames x1
  generalize x1 = y2 at *
  exact (Keep.ite h0 (Keep.step (State.wakeCheck_keep ..) (Keep.step (State.setPwr_keep ..) (Keep.wr .pwr h0 rfl rfl) rfl) rfl))

theorem execStandbyHoldAssert_gives (soft : Bool) (s : State) : Gives 0x58ffb7ffe67fffff s (execStandbyHoldAssert soft s) := by
  have h0 := Keep.refl 0x58ffb7ffe67fffff s
  unfold execStandbyHoldAssert
  extract_lets +onlyGivenNames x1
  generalize x1 = y2 at *
  extract_lets +onlyGivenNames x3
  refine Gives.cut (x := x3) (Keep.ite (Keep.wr .pwr h0 rfl rfl) (Keep.wr .pwr (Keep.pins h0 _ rfl) rfl rfl)) (fun h4 => ?_)
  generalize x3 = y5 at *
  exact Gives.ok (Keep.step (State.standbyCheck_keep ..) h4 rfl)

theorem execStandbyHoldRelease_gives (s : State) : Gives 0x50db83ff807d771f s (execStandbyHoldRelease s) := by
  have h0 := Keep.refl 0x50db83ff807d771f s
  unfold execStandbyHoldRelease
  exact Gives.ok (Keep.step (State.wakeCheck_keep ..) (Keep.wr .pwr (Keep.pins h0 _ rfl) rfl rfl) rfl)

theorem execStandbyDriveWaitDone_gives (s : State) : Gives 0xd0dfa3ff807d771f s (execStandbyDriveWaitDone s) := by
  have h0 := Keep.refl 0xd0dfa3ff807d771f s
  unfold execStandbyDriveWaitDone
  refine Gives.ite ?_ ?_
  · exact Gives.ok h0
  · extract_lets +onlyGivenNames x1
    generalize x1 = y2 at *
    extract_lets +onlyGivenNames x3
    refine Gives.cut (x := x3) (Keep.ite h0 (Keep.step (State.advanceTo_keep ..) h0 rfl)) (fun h4 => ?_)
    generalize x3 = y5 at *
    extract_lets +onlyGivenNames x6
    refine Gives.cut (x := x6) ?_ (fun h7 => ?_)
    · unfold x6
      clear x6
      refine Keep.forEach ?_ (fun a9 u8 => ?_)
      · exact h4
      have h10 := Keep.refl 0xd0dfa3ff807d771f u8
      exact (Keep.step (State.abandon_keep ..) (Keep.step (State.setSstate_keep ..) (Keep.step (State.powerOffSlot_keep ..) h10 rfl) rfl) rfl)
    generalize x6 = y11 at *
    exact Gives.ok (Keep.step (State.standbyGo_keep ..) (Keep.step (State.stgSettle_keep ..) h7 rfl) rfl)

theorem execWakeTimerExpire_gives (s : State) : Gives 0xd0db83ff807d771f s (execWakeTimerExpire s) := by
  have h0 := Keep.refl 0xd0db83ff807d771f s
  unfold execWakeTimerExpire
  refine Gives.ite ?_ ?_
  · exact Gives.ok h0
  · exact Gives.ok (Keep.step (State.wakeSource_keep ..) (Keep.step (State.advanceTo_keep ..) h0 rfl) rfl)

theorem execTrigInEdge_gives (lvl : Bool) (t : Nat) (s : State) : Gives 0xd0df83ff807d7f1f s (execTrigInEdge lvl t s) := by
  have h0 := Keep.refl 0xd0df83ff807d7f1f s
  unfold execTrigInEdge
  extract_lets +onlyGivenNames x1
  refine Gives.cut (x := x1) (Keep.step (State.advanceTo_keep ..) h0 rfl) (fun h2 => ?_)
  generalize x1 = y3 at *
  refine Gives.ite ?_ ?_
  · extract_lets +onlyGivenNames x4
    refine Gives.cutP (x := x4) ?_ (fun h5 => ?_)
    · unfold x4
      clear x4
      exact KeepP.of (Keep.step (State.trigEdge_keep ..) h2 rfl)
    generalize x4 = y6 at *
    exact Gives.ok (Keep.ite (Keep.step (State.wakeSource_keep ..) h5 rfl) h5)
  · refine Gives.ite ?_ ?_
    · exact Gives.ok h2
    · extract_lets +onlyGivenNames x7
      generalize x7 = y8 at *
      extract_lets +onlyGivenNames x9
      generalize x9 = y10 at *
      extract_lets +onlyGivenNames x11
      generalize x11 = y12 at *
      extract_lets +onlyGivenNames x13
      refine Gives.cut (x := x13) (Keep.fields h2 rfl (Nat.le_refl _) ⟨rfl, rfl, rfl, rfl, rfl, rfl, rfl, rfl⟩ (fun p hp => by cases p <;> first | rfl | exact ⟨rfl, rfl, rfl⟩ | exact ⟨rfl, rfl, rfl, rfl, rfl, rfl⟩ | exact absurd hp (by decide))) (fun h14 => ?_)
      generalize x13 = y15 at *
      exact Gives.ok (Keep.ite (Keep.step (State.wakeSource_keep ..) h14 rfl) h14)

theorem execPerstDeassert_gives (s : State) : Gives 0x50db83ff807d771f s (execPerstDeassert s) := by
  have h0 := Keep.refl 0x50db83ff807d771f s
  unfold execPerstDeassert
  refine Gives.ite ?_ ?_
  · exact Gives.ok h0
  · exact Gives.ok (Keep.step (State.wakeSource_keep ..) (Keep.step (State.raise_keep ..) (Keep.pins h0 _ rfl) rfl) rfl)

end Sys2Proof.Machine
end

