-- ==== Sys2Proof/Laws/KeepBoot.lean ====
section
/-!
SUPPORT. What each operation and each command of Machine/Boot.lean can do to the state: the zones and parts it stays within.
-/
namespace Sys2Proof.Machine

theorem State.rejectSlot_keep (s : State) (n : Nat) (reason : Nat) : Keep 0x400180004 s (State.rejectSlot s n reason) := by
  have h0 := Keep.refl 0x400180004 s
  unfold State.rejectSlot
  exact (Keep.step (State.raise_keep ..) (Keep.wr .boot h0 rfl rfl) rfl)

theorem State.romTry_keep (s : State) (bad : Nat) (y2 : List Nat) : Keep 0x800000400180004 s (State.romTry s bad y2) := by
  induction y2 generalizing s bad
  · have h0 := Keep.refl 0x800000400180004 s
    unfold State.romTry
    exact (Keep.setBootRest h0 rfl rfl ⟨rfl, rfl, rfl⟩ rfl)
  · rename_i a0 y2 ih
    have h0 := Keep.refl 0x800000400180004 s
    unfold State.romTry
    extract_lets +onlyGivenNames x1
    generalize x1 = y2 at *
    refine Keep.ite (Keep.step (ih ..) (Keep.step (State.rejectSlot_keep ..) h0 rfl) rfl) ?_
    extract_lets +onlyGivenNames x3
    generalize x3 = y4 at *
    extract_lets +onlyGivenNames x5
    generalize x5 = y6 at *
    extract_lets +onlyGivenNames x7
    generalize x7 = y8 at *
    extract_lets +onlyGivenNames x9
    refine Keep.cut (x := x9) (Keep.wr .boot (Keep.wr .boot (Keep.wr .boot (Keep.wr .boot h0 rfl rfl) rfl rfl) rfl rfl) rfl rfl) (fun h10 => ?_)
    generalize x9 = y11 at *
    exact (Keep.setBootRest h10 rfl rfl ⟨rfl, rfl, rfl⟩ rfl)

theorem State.romHeaders_keep (s : State) (bad : Nat) : Keep 0x400180004 s (State.romHeaders s bad) := by
  have h0 := Keep.refl 0x400180004 s
  unfold State.romHeaders
  refine Keep.forEach ?_ (fun a2 u1 => ?_)
  · exact h0
  have h3 := Keep.refl 0x400180004 u1
  extract_lets +onlyGivenNames x4
  generalize x4 = y5 at *
  extract_lets +onlyGivenNames x6
  generalize x6 = y7 at *
  extract_lets +onlyGivenNames x8
  refine Keep.cut (x := x8) (Keep.wr .boot h3 rfl rfl) (fun h9 => ?_)
  generalize x8 = y10 at *
  extract_lets +onlyGivenNames x11
  generalize x11 = y12 at *
  exact (Keep.ite (Keep.step (State.rejectSlot_keep ..) h9 rfl) (Keep.ite (Keep.step (State.rejectSlot_keep ..) h9 rfl) h9))

theorem execRomBoot_gives (straps : Nat) (mib : Nat) (bad : Nat) (s : State) : Gives 0x800020e00180016 s (execRomBoot straps mib bad s) := by
  have h0 := Keep.refl 0x800020e00180016 s
  unfold execRomBoot
  extract_lets +onlyGivenNames x1
  refine Gives.cut (x := x1) (Keep.step (State.leaveReset_keep ..) h0 rfl) (fun h2 => ?_)
  generalize x1 = y3 at *
  refine Gives.ite ?_ ?_
  · exact Gives.ok h2
  · extract_lets +onlyGivenNames x4
    generalize x4 = y5 at *
    extract_lets +onlyGivenNames x6
    refine Gives.cut (x := x6) (Keep.ite (Keep.step (State.setTim_keep ..) h2 rfl) (Keep.step (State.timReturn_keep ..) h2 rfl)) (fun h7 => ?_)
    generalize x6 = y8 at *
    extract_lets +onlyGivenNames x9
    generalize x9 = y10 at *
    extract_lets +onlyGivenNames x11
    extract_lets +onlyGivenNames x12
    refine Gives.cut (x := x12) (Keep.setBootRest (Keep.pins h7 _ rfl) rfl rfl ⟨rfl, rfl, rfl⟩ rfl) (fun h13 => ?_)
    generalize x12 = y14 at *
    extract_lets +onlyGivenNames x15
    generalize x15 = y16 at *
    extract_lets +onlyGivenNames x17
    generalize x17 = y18 at *
    extract_lets +onlyGivenNames x19
    refine Gives.cut (x := x19) ?_ (fun h20 => ?_)
    · unfold x19
      clear x19
      refine Keep.forEach ?_ (fun a22 u21 => ?_)
      · exact (Keep.fpt h13 _ rfl)
      have h23 := Keep.refl 0x800020e00180016 u21
      exact (Keep.step (State.setPair_keep ..) (Keep.wr .fpt h23 rfl rfl) rfl)
    generalize x19 = y24 at *
    extract_lets +onlyGivenNames x25
    refine Gives.cut (x := x25) (Keep.step (State.raise_keep ..) (Keep.step (State.scanJournal_keep ..) (Keep.wr .pwr h20 rfl rfl) rfl) rfl) (fun h26 => ?_)
    generalize x25 = y27 at *
    extract_lets +onlyGivenNames x28
    refine Gives.cut (x := x28) (Keep.wr .boot (Keep.step (State.showOtp_keep ..) h26 rfl) rfl rfl) (fun h29 => ?_)
    generalize x28 = y30 at *
    refine Gives.ite ?_ ?_
    · exact Gives.ok (Keep.setBootRest h29 rfl rfl ⟨rfl, rfl, rfl⟩ rfl)
    · extract_lets +onlyGivenNames x31
      refine Gives.cut (x := x31) (Keep.step (State.romHeaders_keep ..) h29 rfl) (fun h32 => ?_)
      generalize x31 = y33 at *
      exact Gives.ok (Keep.step (State.romTry_keep ..) h32 rfl)

theorem State.setImageField_keep (s : State) (a : Nat) (v : Nat) (f : Fld) : Keep 0x7fffff s (State.setImageField s a v f) := by
  have h0 := Keep.refl 0x7fffff s
  unfold State.setImageField
  extract_lets +onlyGivenNames x1
  generalize x1 = y2 at *
  exact (Keep.ite (Keep.wr .trp (Keep.setRegAny h0 rfl) rfl rfl) (Keep.ite (Keep.wr .trp (Keep.setRegAny h0 rfl) rfl rfl) (Keep.setRegAny h0 rfl)))

theorem State.imagePair_keep (s : State) (b : Blk) (o : Nat) (v : Nat) : Keep 0x207fffff s (State.imagePair s b o v) := by
  have h0 := Keep.refl 0x207fffff s
  unfold State.imagePair
  extract_lets +onlyGivenNames x1
  generalize x1 = y2 at *
  extract_lets +onlyGivenNames x3
  refine Keep.cut (x := x3) ?_ (fun h4 => ?_)
  · unfold x3
    clear x3
    refine Keep.forEach ?_ (fun a6 u5 => ?_)
    · exact h0
    have h7 := Keep.refl 0x207fffff u5
    exact (Keep.step (State.setImageField_keep ..) h7 rfl)
  generalize x3 = y8 at *
  refine Keep.ite h4 ?_
  extract_lets +onlyGivenNames x9
  generalize x9 = y10 at *
  exact (Keep.step (State.setStage_keep ..) h4 rfl)

theorem State.imageContext_keep (s : State) (i : Nat) (v : Nat) : Keep 0x8000006000000 s (State.imageContext s i v) := by
  have h0 := Keep.refl 0x8000006000000 s
  unfold State.imageContext
  exact (Keep.ite (Keep.rma h0 _ rfl) (Keep.step (State.setWinNat_keep ..) h0 rfl))

theorem State.imageTables_keep (s : State) (b : Blk) (l : List Tlv) : Keep 0x8000006000000 s (State.imageTables s b l) := by
  have h0 := Keep.refl 0x8000006000000 s
  unfold State.imageTables
  refine Keep.forEach ?_ (fun a2 u1 => ?_)
  · exact h0
  have h3 := Keep.refl 0x8000006000000 u1
  refine Keep.forEach ?_ (fun a5 u4 => ?_)
  · exact h3
  have h6 := Keep.refl 0x8000006000000 u4
  extract_lets +onlyGivenNames x7
  generalize x7 = y8 at *
  exact (Keep.ite (Keep.step (State.setWinNat_keep ..) h6 rfl) (Keep.ite (Keep.step (State.imageContext_keep ..) h6 rfl) h6))

theorem State.imageFwt_keep (s : State) (l : List Tlv) : Keep 0x40e100044 s (State.imageFwt s l) := by
  have h0 := Keep.refl 0x40e100044 s
  unfold State.imageFwt
  refine Keep.forEach ?_ (fun a2 u1 => ?_)
  · exact h0
  have h3 := Keep.refl 0x40e100044 u1
  refine Keep.forEach ?_ (fun a5 u4 => ?_)
  · exact h3
  have h6 := Keep.refl 0x40e100044 u4
  exact (Keep.step (State.fwtWindowApply_keep ..) h6 rfl)

theorem State.blkUp_keep (s : State) (b : Blk) : Keep 0x400100005 s (State.blkUp s b) := by
  have h0 := Keep.refl 0x400100005 s
  unfold State.blkUp
  extract_lets +onlyGivenNames x1
  refine Keep.cut (x := x1) (Keep.wr .glb h0 rfl rfl) (fun h2 => ?_)
  generalize x1 = y3 at *
  exact (Keep.step (State.raise_keep ..) h2 rfl)

theorem State.loadStorage_keep (s : State) : Keep 0x10000000002000 s (State.loadStorage s) := by
  have h0 := Keep.refl 0x10000000002000 s
  unfold State.loadStorage
  extract_lets +onlyGivenNames x1
  refine Keep.cut (x := x1) ?_ (fun h2 => ?_)
  · unfold x1
    clear x1
    refine Keep.forEach ?_ (fun a4 u3 => ?_)
    · exact h0
    have h5 := Keep.refl 0x10000000002000 u3
    refine Keep.forEach ?_ (fun a7 u6 => ?_)
    · exact h5
    have h8 := Keep.refl 0x10000000002000 u6
    exact (Keep.wr .stg h8 rfl rfl)
  generalize x1 = y9 at *
  extract_lets +onlyGivenNames x10
  generalize x10 = y11 at *
  extract_lets +onlyGivenNames x12
  refine Keep.cut (x := x12) ?_ (fun h13 => ?_)
  · unfold x12
    clear x12
    refine Keep.forEach ?_ (fun a15 u14 => ?_)
    · exact h2
    have h16 := Keep.refl 0x10000000002000 u14
    extract_lets +onlyGivenNames x17
    generalize x17 = y18 at *
    exact (Keep.step (State.setEnt_keep ..) h16 rfl)
  generalize x12 = y19 at *
  exact (Keep.stg h13 _ rfl)

theorem State.loadRecorder_keep (s : State) : Keep 0x800 s (State.loadRecorder s) := by
  have h0 := Keep.refl 0x800 s
  unfold State.loadRecorder
  extract_lets +onlyGivenNames x1
  refine Keep.cut (x := x1) (Keep.wr64 .recd h0 rfl rfl) (fun h2 => ?_)
  generalize x1 = y3 at *
  refine Keep.forEach ?_ (fun a5 u4 => ?_)
  · exact h2
  have h6 := Keep.refl 0x800 u4
  exact (Keep.wr .recd h6 rfl rfl)

theorem State.startParts_keep (s : State) : Keep 0x8400190004 s (State.startParts s) := by
  have h0 := Keep.refl 0x8400190004 s
  unfold State.startParts
  extract_lets +onlyGivenNames x1
  generalize x1 = y2 at *
  extract_lets +onlyGivenNames x3
  refine Keep.cut (x := x3) ?_ (fun h4 => ?_)
  · unfold x3
    clear x3
    refine Keep.forEach ?_ (fun a6 u5 => ?_)
    · exact h0
    have h7 := Keep.refl 0x8400190004 u5
    extract_lets +onlyGivenNames x8
    generalize x8 = y9 at *
    extract_lets +onlyGivenNames x10
    refine Keep.cut (x := x10) (Keep.wr .boot (Keep.wr .boot h7 rfl rfl) rfl rfl) (fun h11 => ?_)
    generalize x10 = y12 at *
    exact (Keep.wr .boot (Keep.step (State.coldLoad_keep ..) h11 rfl) rfl rfl)
  generalize x3 = y13 at *
  refine Keep.forEach ?_ (fun a15 u14 => ?_)
  · exact h4
  have h16 := Keep.refl 0x8400190004 u14
  extract_lets +onlyGivenNames x17
  refine Keep.cut (x := x17) (Keep.wr .cpu h16 rfl rfl) (fun h18 => ?_)
  generalize x17 = y19 at *
  refine Keep.forEach ?_ (fun a21 u20 => ?_)
  · exact h18
  have h22 := Keep.refl 0x8400190004 u20
  exact (Keep.step (State.warmStart_keep ..) h22 rfl)

theorem State.blkStarted_keep (s : State) (b : Blk) (l : List Tlv) (image : List Byte) : Keep 0x5008029c0e39005e s (State.blkStarted s b l image) := by
  have h0 := Keep.refl 0x5008029c0e39005e s
  unfold State.blkStarted
  split
  · exact (Keep.step (State.timSettle_keep ..) h0 rfl)
  · refine Keep.forEach ?_ (fun a2 u1 => ?_)
    · exact (Keep.step (State.imageFwt_keep ..) h0 rfl)
    have h3 := Keep.refl 0x5008029c0e39005e u1
    exact (Keep.step (State.bypCheck_keep ..) h3 rfl)
  · refine Keep.forEach ?_ (fun a5 u4 => ?_)
    · exact h0
    have h6 := Keep.refl 0x5008029c0e39005e u4
    exact (Keep.step (State.bypCheck_keep ..) h6 rfl)
  · exact (Keep.rma h0 _ rfl)
  · exact (Keep.step (State.startParts_keep ..) h0 rfl)
  · refine Keep.forEach ?_ (fun a8 u7 => ?_)
    · exact h0
    have h9 := Keep.refl 0x5008029c0e39005e u7
    exact (Keep.wr .hif (Keep.step (State.setCfg_keep ..) h9 rfl) rfl rfl)
  · exact h0

theorem State.initBlk_keep (s : State) (l : List Tlv) (image : List Byte) (b : Blk) : Keep 0x58dff3ff6e7fffff s (State.initBlk s l image b) := by
  have h0 := Keep.refl 0x58dff3ff6e7fffff s
  unfold State.initBlk
  refine Keep.ite h0 ?_
  extract_lets +onlyGivenNames x1
  refine Keep.cut (x := x1) ?_ (fun h2 => ?_)
  · unfold x1
    clear x1
    split
    · exact (Keep.step (State.loadStorage_keep ..) h0 rfl)
    · exact (Keep.step (State.loadRecorder_keep ..) h0 rfl)
    · exact h0
  generalize x1 = y3 at *
  extract_lets +onlyGivenNames x4
  refine Keep.cut (x := x4) (Keep.ite (Keep.wrAny (Keep.wrAny h2 rfl) rfl) h2) (fun h5 => ?_)
  generalize x4 = y6 at *
  extract_lets +onlyGivenNames x7
  refine Keep.cut (x := x7) ?_ (fun h8 => ?_)
  · unfold x7
    clear x7
    refine Keep.forEach ?_ (fun a10 u9 => ?_)
    · exact h5
    have h11 := Keep.refl 0x58dff3ff6e7fffff u9
    refine Keep.forEach ?_ (fun a13 u12 => ?_)
    · exact h11
    have h14 := Keep.refl 0x58dff3ff6e7fffff u12
    exact (Keep.step (State.imagePair_keep ..) h14 rfl)
  generalize x7 = y15 at *
  extract_lets +onlyGivenNames x16
  refine Keep.cut (x := x16) (Keep.step (State.imageTables_keep ..) h8 rfl) (fun h17 => ?_)
  generalize x16 = y18 at *
  refine Keep.ite (Keep.step (State.blkStarted_keep ..) (Keep.step (State.blkUp_keep ..) h17 rfl) rfl) ?_
  split
  · exact (Keep.step (State.raise_keep ..) (Keep.wr .glb (Keep.step (State.refuseStage_keep ..) h17 rfl) rfl rfl) rfl)
  · exact (Keep.step (State.blkStarted_keep ..) (Keep.step (State.blkUp_keep ..) (Keep.step (State.commitBlk_keep ..) h17 rfl) rfl) rfl)

theorem State.imageFns_keep (s : State) (val : List Byte) : Keep 0x800001000600000 s (State.imageFns s val) := by
  have h0 := Keep.refl 0x800001000600000 s
  unfold State.imageFns
  extract_lets +onlyGivenNames x1
  generalize x1 = y2 at *
  extract_lets +onlyGivenNames x3
  generalize x3 = y4 at *
  extract_lets +onlyGivenNames x5
  refine Keep.cut (x := x5) (Keep.wr .hif (Keep.wr .hif (Keep.wr .hif (Keep.wr .hif h0 rfl rfl) rfl rfl) rfl rfl) rfl rfl) (fun h6 => ?_)
  generalize x5 = y7 at *
  extract_lets +onlyGivenNames x8
  refine Keep.cut (x := x8) ?_ (fun h9 => ?_)
  · unfold x8
    clear x8
    refine Keep.forEach ?_ (fun a11 u10 => ?_)
    · exact h6
    have h12 := Keep.refl 0x800001000600000 u10
    extract_lets +onlyGivenNames x13
    refine Keep.cut (x := x13) (Keep.wrFn (Keep.wr .hif (Keep.wr .hif h12 rfl rfl) rfl rfl) (by decide) rfl) (fun h14 => ?_)
    generalize x13 = y15 at *
    exact (Keep.setBootRest h14 rfl rfl ⟨rfl, rfl, rfl⟩ rfl)
  generalize x8 = y16 at *
  exact (Keep.hif h9 _ rfl)

theorem State.imageParts_keep (s : State) (val : List Byte) (copy : Nat → List Byte) : Keep 0x800000000000000 s (State.imageParts s val copy) := by
  have h0 := Keep.refl 0x800000000000000 s
  unfold State.imageParts
  refine Keep.forEach ?_ (fun a2 u1 => ?_)
  · exact h0
  have h3 := Keep.refl 0x800000000000000 u1
  extract_lets +onlyGivenNames x4
  generalize x4 = y5 at *
  exact (Keep.step (State.setPart_keep ..) h3 rfl)

theorem State.trainMemory_keep (s : State) : Keep 0x40000200040000 s (State.trainMemory s) := by
  have h0 := Keep.refl 0x40000200040000 s
  unfold State.trainMemory
  extract_lets +onlyGivenNames x1
  generalize x1 = y2 at *
  extract_lets +onlyGivenNames x3
  generalize x3 = y4 at *
  extract_lets +onlyGivenNames x5
  refine Keep.cut (x := x5) (Keep.wr .mem (Keep.wr .mem (Keep.wr .mem h0 rfl rfl) rfl rfl) rfl rfl) (fun h6 => ?_)
  generalize x5 = y7 at *
  extract_lets +onlyGivenNames x8
  refine Keep.cut (x := x8) (Keep.wr .mem (Keep.wr .mem (Keep.wr .mem h6 rfl rfl) rfl rfl) rfl rfl) (fun h9 => ?_)
  generalize x8 = y10 at *
  extract_lets +onlyGivenNames x11
  generalize x11 = y12 at *
  extract_lets +onlyGivenNames x13
  refine Keep.cut (x := x13) (Keep.wr .mem h9 rfl rfl) (fun h14 => ?_)
  generalize x13 = y15 at *
  extract_lets +onlyGivenNames x16
  generalize x16 = y17 at *
  extract_lets +onlyGivenNames x18
  refine Keep.cut (x := x18) (Keep.step (State.setMem_keep ..) h14 rfl) (fun h19 => ?_)
  generalize x18 = y20 at *
  exact (Keep.pins h19 _ rfl)

theorem State.stage2Fails_keep (s : State) (n : Nat) (reason : Nat) : Keep 0x4fffffffffffffff s (State.stage2Fails s n reason) := by
  have h0 := Keep.refl 0x4fffffffffffffff s
  unfold State.stage2Fails
  extract_lets +onlyGivenNames x1
  refine Keep.cut (x := x1) (Keep.step (State.mramStore_keep ..) (Keep.wr .boot h0 rfl rfl) rfl) (fun h2 => ?_)
  generalize x1 = y3 at *
  exact (Keep.step (State.deviceReset_keep ..) (Keep.setBootRest h2 rfl rfl ⟨rfl, rfl, rfl⟩ rfl) rfl)

theorem State.updAtStart_keep (s : State) : Keep 0x40000046001c0004 s (State.updAtStart s) := by
  have h0 := Keep.refl 0x40000046001c0004 s
  unfold State.updAtStart
  extract_lets +onlyGivenNames x1
  generalize x1 = y2 at *
  extract_lets +onlyGivenNames x3
  generalize x3 = y4 at *
  exact (Keep.ite h0 (Keep.ite (Keep.step (State.mramStore_keep ..) (Keep.wr .boot h0 rfl rfl) rfl) (Keep.step (State.setPhase_keep ..) h0 rfl)))

theorem State.stage2Runs_keep (s : State) (n : Nat) (image : List Byte) (l : List Tlv) (parts : Nat → List Byte) (rom : List Byte) : Keep 0x58fff7ffee7fffff s (State.stage2Runs s n image l parts rom) := by
  have h0 := Keep.refl 0x58fff7ffee7fffff s
  unfold State.stage2Runs
  extract_lets +onlyGivenNames x1
  refine Keep.cut (x := x1) (Keep.step (State.raise_keep ..) (Keep.step (State.mramStore_keep ..) (Keep.wr .boot h0 rfl rfl) rfl) rfl) (fun h2 => ?_)
  generalize x1 = y3 at *
  extract_lets +onlyGivenNames x4
  refine Keep.cut (x := x4) (Keep.wr64 .boot (Keep.step (State.rtWrite_keep ..) h2 rfl) rfl rfl) (fun h5 => ?_)
  generalize x4 = y6 at *
  extract_lets +onlyGivenNames x7
  refine Keep.cut (x := x7) (Keep.wr .boot (Keep.wr .boot h5 rfl rfl) rfl rfl) (fun h8 => ?_)
  generalize x7 = y9 at *
  extract_lets +onlyGivenNames x10
  generalize x10 = y11 at *
  extract_lets +onlyGivenNames x12
  refine Keep.cut (x := x12) (Keep.hif h8 _ rfl) (fun h13 => ?_)
  generalize x12 = y14 at *
  extract_lets +onlyGivenNames x15
  refine Keep.cut (x := x15) (Keep.step (State.updAtStart_keep ..) h13 rfl) (fun h16 => ?_)
  generalize x15 = y17 at *
  extract_lets +onlyGivenNames x18
  refine Keep.cut (x := x18) ?_ (fun h19 => ?_)
  · unfold x18
    clear x18
    refine Keep.forEach ?_ (fun a21 u20 => ?_)
    · exact h16
    have h22 := Keep.refl 0x58fff7ffee7fffff u20
    exact (Keep.ite (Keep.step (State.imageFns_keep ..) h22 rfl) (Keep.ite (Keep.step (State.imageParts_keep ..) h22 rfl) h22))
  generalize x18 = y23 at *
  extract_lets +onlyGivenNames x24
  refine Keep.cut (x := x24) ?_ (fun h25 => ?_)
  · unfold x24
    clear x24
    refine Keep.forEach ?_ (fun a27 u26 => ?_)
    · exact h19
    have h28 := Keep.refl 0x58fff7ffee7fffff u26
    exact (Keep.step (State.initBlk_keep ..) h28 rfl)
  generalize x24 = y29 at *
  exact (Keep.step (State.standbyCheck_keep ..) (Keep.setBootRest h25 rfl rfl ⟨rfl, rfl, rfl⟩ rfl) rfl)

theorem execStage2Boot_gives (bad : Bool) (s : State) : Gives 0x5fffffffffffffff s (execStage2Boot bad s) := by
  have h0 := Keep.refl 0x5fffffffffffffff s
  unfold execStage2Boot
  refine Gives.ite ?_ ?_
  · exact Gives.ok h0
  · extract_lets +onlyGivenNames x1
    refine Gives.cut (x := x1) (Keep.step (State.trainMemory_keep ..) h0 rfl) (fun h2 => ?_)
    generalize x1 = y3 at *
    extract_lets +onlyGivenNames x4
    generalize x4 = y5 at *
    extract_lets +onlyGivenNames x6
    generalize x6 = y7 at *
    extract_lets +onlyGivenNames x8
    generalize x8 = y9 at *
    extract_lets +onlyGivenNames x10
    generalize x10 = y11 at *
    extract_lets +onlyGivenNames x12
    generalize x12 = y13 at *
    extract_lets +onlyGivenNames x14
    generalize x14 = y15 at *
    extract_lets +onlyGivenNames x16
    generalize x16 = y17 at *
    refine Gives.ite ?_ ?_
    · exact Gives.ok (Keep.step (State.stage2Fails_keep ..) h2 rfl)
    · split
      · exact Gives.ok (Keep.step (State.stage2Fails_keep ..) h2 rfl)
      · exact Gives.ok (Keep.step (State.stage2Runs_keep ..) h2 rfl)

theorem State.recAnswer_keep (s : State) (cmd : Nat) (payload : List Nat) : Keep 0x1000000000000000 s (State.recAnswer s cmd payload) := by
  have h0 := Keep.refl 0x1000000000000000 s
  unfold State.recAnswer
  extract_lets +onlyGivenNames x1
  generalize x1 = y2 at *
  extract_lets +onlyGivenNames x3
  generalize x3 = y4 at *
  exact (Keep.step (State.out_keep ..) h0 rfl)

theorem execRecoveryPing_gives (good : Bool) (s : State) : Gives 0x1000000000000000 s (execRecoveryPing good s) := by
  have h0 := Keep.refl 0x1000000000000000 s
  unfold execRecoveryPing
  unfold State.recFrame
  refine Gives.ite ?_ ?_
  · exact Gives.ok (Keep.step (State.recAnswer_keep ..) h0 rfl)
  · exact Gives.ok h0

theorem execRecoveryProvision_gives (good : Bool) (digest : List Byte) (s : State) : Gives 0x1a00000000080000 s (execRecoveryProvision good digest s) := by
  have h0 := Keep.refl 0x1a00000000080000 s
  unfold execRecoveryProvision
  unfold State.recFrame
  refine Gives.ite ?_ ?_
  · exact Gives.ok (Keep.ite (Keep.step (State.recAnswer_keep ..) h0 rfl) (Keep.step (State.recAnswer_keep ..) (Keep.step (State.showOtp_keep ..) (Keep.setBootOtp h0 rfl rfl rfl) rfl) rfl))
  · exact Gives.ok h0

theorem execRecoveryLoad_gives (good : Bool) (off : Nat) (data : List Byte) (s : State) : Gives 0x1400000000000000 s (execRecoveryLoad good off data s) := by
  have h0 := Keep.refl 0x1400000000000000 s
  unfold execRecoveryLoad
  unfold State.recFrame
  refine Gives.ite ?_ ?_
  · exact Gives.ok (Keep.ite (Keep.step (State.recAnswer_keep ..) h0 rfl) (Keep.step (State.recAnswer_keep ..) (Keep.step (State.loaderPut_keep ..) h0 rfl) rfl))
  · exact Gives.ok h0

theorem execRecoveryRun_gives (good : Bool) (s : State) : Gives 0x1800000400180004 s (execRecoveryRun good s) := by
  have h0 := Keep.refl 0x1800000400180004 s
  unfold execRecoveryRun
  unfold State.recFrame
  refine Gives.ite ?_ ?_
  · refine Gives.ok ?_
    dsimp -zeta only
    extract_lets +onlyGivenNames x1
    generalize x1 = y2 at *
    refine Keep.ite (Keep.step (State.recAnswer_keep ..) h0 rfl) ?_
    extract_lets +onlyGivenNames x3
    extract_lets +onlyGivenNames x4
    refine Keep.cut (x := x4) (Keep.setBootRest (Keep.step (State.recAnswer_keep ..) h0 rfl) rfl rfl ⟨rfl, rfl, rfl⟩ rfl) (fun h5 => ?_)
    generalize x4 = y6 at *
    exact (Keep.step (State.raise_keep ..) (Keep.wr .boot (Keep.wr .boot (Keep.wr .boot h5 rfl rfl) rfl rfl) rfl rfl) rfl)
  · exact Gives.ok h0

theorem execRecoveryStatus_gives (good : Bool) (s : State) : Gives 0x1000000000000000 s (execRecoveryStatus good s) := by
  have h0 := Keep.refl 0x1000000000000000 s
  unfold execRecoveryStatus
  unfold State.recFrame
  refine Gives.ite ?_ ?_
  · exact Gives.ok (Keep.step (State.recAnswer_keep ..) h0 rfl)
  · exact Gives.ok h0

theorem execDeviceReboot_gives (s : State) : Gives 0x4fffffbfffffffff s (execDeviceReboot s) := by
  have h0 := Keep.refl 0x4fffffbfffffffff s
  unfold execDeviceReboot
  exact Gives.ok (Keep.step (State.deviceReset_keep ..) h0 rfl)

theorem execDeviceRebootAlt_gives (s : State) : Gives 0x4fffffbfffffffff s (execDeviceRebootAlt s) := by
  have h0 := Keep.refl 0x4fffffbfffffffff s
  unfold execDeviceRebootAlt
  exact Gives.ok (Keep.step (State.deviceReset_keep ..) (Keep.setBootRest h0 rfl rfl ⟨rfl, rfl, rfl⟩ rfl) rfl)

end Sys2Proof.Machine
end

