-- ==== Sys2Proof/Laws/KeepCompletions.lean ====
section
/-!
SUPPORT. What each operation and each command of Machine/Completions.lean can do to the state: the zones and parts it stays within.
-/
namespace Sys2Proof.Machine

theorem State.dropRead_keep (s : State) (f : Nat) (t : Nat) : Keep 0x1000000000 s (State.dropRead s f t) := by
  have h0 := Keep.refl 0x1000000000 s
  unfold State.dropRead
  exact (Keep.hif h0 _ rfl)

theorem State.quarantine_keep (s : State) (f : Nat) (t : Nat) : Keep 0x1400100004 s (State.quarantine s f t) := by
  have h0 := Keep.refl 0x1400100004 s
  unfold State.quarantine
  extract_lets +onlyGivenNames x1
  generalize x1 = y2 at *
  extract_lets +onlyGivenNames x3
  generalize x3 = y4 at *
  extract_lets +onlyGivenNames x5
  refine Keep.cut (x := x5) (Keep.hif h0 _ rfl) (fun h6 => ?_)
  generalize x5 = y7 at *
  exact (Keep.ite (Keep.step (State.raise_keep ..) h6 rfl) h6)

theorem State.paidJob_keep (s : State) (g : Nat) (idx : Nat) : Keep 0x2000000000 s (State.paidJob s g idx) := by
  have h0 := Keep.refl 0x2000000000 s
  unfold State.paidJob
  exact (Keep.step (State.updJob_keep ..) h0 rfl)

theorem State.readFailed_keep (s : State) (r : ReadReq) (err : Nat) : Keep 0x5808023406701004 s (State.readFailed s r err) := by
  have h0 := Keep.refl 0x5808023406701004 s
  unfold State.readFailed
  split
  · refine Keep.ite h0 ?_
    extract_lets +onlyGivenNames x1
    generalize x1 = y2 at *
    exact (Keep.step (State.setRing_keep ..) h0 rfl)
  · exact (Keep.step (State.failJob_keep ..) h0 rfl)
  · exact (Keep.step (State.failJob_keep ..) h0 rfl)
  · exact (Keep.step (State.readRespData_keep ..) h0 rfl)
  · exact (Keep.ite h0 (Keep.hif h0 _ rfl))
  · exact (Keep.hif h0 _ rfl)

theorem State.readDone_keep (s : State) (r : ReadReq) : Keep 0x5808023406701004 s (State.readDone s r) := by
  have h0 := Keep.refl 0x5808023406701004 s
  unfold State.readDone
  split
  · extract_lets +onlyGivenNames x1
    generalize x1 = y2 at *
    exact (Keep.step (State.setRing_keep ..) h0 rfl)
  · exact (Keep.step (State.updJob_keep ..) h0 rfl)
  · exact (Keep.step (State.updJob_keep ..) h0 rfl)
  · exact (Keep.step (State.readRespData_keep ..) h0 rfl)
  · exact (Keep.ite h0 (Keep.hif h0 _ rfl))
  · exact (Keep.hif h0 _ rfl)

theorem State.readOver_keep (s : State) (r : ReadReq) : Keep 0x1820003400721005 s (State.readOver s r) := by
  have h0 := Keep.refl 0x1820003400721005 s
  unfold State.readOver
  extract_lets +onlyGivenNames x1
  refine Keep.cut (x := x1) ?_ (fun h2 => ?_)
  · unfold x1
    clear x1
    split
    · exact (Keep.step (State.tableReady_keep ..) (Keep.step (State.paidJob_keep ..) h0 rfl) rfl)
    · exact h0
  generalize x1 = y3 at *
  exact (Keep.step (State.dmaStopped_keep ..) (Keep.step (State.settle_keep ..) (Keep.step (State.retryWaiting_keep ..) (Keep.step (State.showTags_keep ..) h2 rfl) rfl) rfl) rfl)

theorem State.unexpected_keep (s : State) (f : Nat) : Keep 0x1000000400300004 s (State.unexpected s f) := by
  have h0 := Keep.refl 0x1000000400300004 s
  unfold State.unexpected
  extract_lets +onlyGivenNames x1
  generalize x1 = y2 at *
  exact (Keep.step (State.raise_keep ..) (Keep.step (State.aer_keep ..) (Keep.bump .hif (Keep.count .hif h0 rfl rfl) rfl rfl) rfl) rfl)

theorem State.enterL2_keep (s : State) : Keep 0x400300004 s (State.enterL2 s) := by
  have h0 := Keep.refl 0x400300004 s
  unfold State.enterL2
  exact (Keep.ite (Keep.step (State.raise_keep ..) (Keep.wr .hif h0 rfl rfl) rfl) h0)

theorem State.countOwed_keep (s : State) (r : ReadReq) : Keep 0x200000 s (State.countOwed s r) := by
  have h0 := Keep.refl 0x200000 s
  unfold State.countOwed
  exact (Keep.ite (Keep.bump .hif (Keep.count .hif h0 rfl rfl) rfl rfl) h0)

theorem State.discardRead_keep (s : State) (r : ReadReq) : Keep 0x1000000000 s (State.discardRead s r) := by
  have h0 := Keep.refl 0x1000000000 s
  unfold State.discardRead
  exact (Keep.ite (Keep.hif h0 _ rfl) h0)

theorem execCompletionReceive_gives (f : Nat) (tag : Nat) (lower : Nat) (count : Nat) (status : Nat) (bytes : List Byte) (poisoned : Bool) (check : Sys2Proof.TlpCheck) (s : State) : Gives 0x5828023406721005 s (execCompletionReceive f tag lower count status bytes poisoned check s) := by
  have h0 := Keep.refl 0x5828023406721005 s
  unfold execCompletionReceive
  split
  · exact Gives.ok (Keep.step (State.aer_keep ..) h0 rfl)
  · refine Gives.ite ?_ ?_
    · exact Gives.ok (Keep.step (State.enterL2_keep ..) h0 rfl)
    · extract_lets +onlyGivenNames x1
      refine Gives.cut (x := x1) (Keep.step (State.tlpIn_keep ..) h0 rfl) (fun h2 => ?_)
      generalize x1 = y3 at *
      extract_lets +onlyGivenNames x4
      generalize x4 = y5 at *
      extract_lets +onlyGivenNames x6
      refine Gives.cut (x := x6) (Keep.ite h2 (Keep.step (State.aer_keep ..) (Keep.count .hif h2 rfl rfl) rfl)) (fun h7 => ?_)
      generalize x6 = y8 at *
      split
      · refine Gives.ite ?_ ?_
        · extract_lets +onlyGivenNames x9
          generalize x9 = y10 at *
          extract_lets +onlyGivenNames x11
          refine Gives.cut (x := x11) (Keep.hif h7 _ rfl) (fun h12 => ?_)
          generalize x11 = y13 at *
          extract_lets +onlyGivenNames x14
          refine Gives.cut (x := x14) (Keep.step (State.raise_keep ..) (Keep.bump .hif (Keep.count .hif h12 rfl rfl) rfl rfl) rfl) (fun h15 => ?_)
          generalize x14 = y16 at *
          exact Gives.ok (Keep.step (State.retryWaiting_keep ..) (Keep.step (State.showTags_keep ..) h15 rfl) rfl)
        · exact Gives.ok (Keep.step (State.unexpected_keep ..) h7 rfl)
      · refine Gives.ite ?_ ?_
        · extract_lets +onlyGivenNames x17
          refine Gives.cut (x := x17) (Keep.step (State.quarantine_keep ..) (Keep.step (State.dropRead_keep ..) (Keep.step (State.unexpected_keep ..) h7 rfl) rfl) rfl) (fun h18 => ?_)
          generalize x17 = y19 at *
          exact Gives.ok (Keep.step (State.readOver_keep ..) (Keep.step (State.readFailed_keep ..) h18 rfl) rfl)
        · refine Gives.ite ?_ ?_
          · extract_lets +onlyGivenNames x20
            refine Gives.cut (x := x20) (Keep.step (State.raise_keep ..) (Keep.step (State.aer_keep ..) (Keep.bump .hif (Keep.count .hif h7 rfl rfl) rfl rfl) rfl) rfl) (fun h21 => ?_)
            generalize x20 = y22 at *
            exact Gives.ok (Keep.step (State.readOver_keep ..) (Keep.step (State.readFailed_keep ..) (Keep.step (State.dropRead_keep ..) (Keep.step (State.countOwed_keep ..) h21 rfl) rfl) rfl) rfl)
          · refine Gives.ite ?_ ?_
            · extract_lets +onlyGivenNames x23
              refine Gives.cut (x := x23) (Keep.step (State.dropRead_keep ..) (Keep.step (State.countOwed_keep ..) h7 rfl) rfl) (fun h24 => ?_)
              generalize x23 = y25 at *
              exact Gives.ok (Keep.step (State.readOver_keep ..) (Keep.ite (Keep.step (State.discardRead_keep ..) h24 rfl) (Keep.step (State.readFailed_keep ..) h24 rfl)) rfl)
            · extract_lets +onlyGivenNames x26
              refine Gives.cut (x := x26) (Keep.step (State.countOwed_keep ..) h7 rfl) (fun h27 => ?_)
              generalize x26 = y28 at *
              extract_lets +onlyGivenNames x29
              generalize x29 = y30 at *
              refine Gives.ite ?_ ?_
              · exact Gives.ok (Keep.hif h27 _ rfl)
              · extract_lets +onlyGivenNames x31
                refine Gives.cut (x := x31) (Keep.step (State.dropRead_keep ..) h27 rfl) (fun h32 => ?_)
                generalize x31 = y33 at *
                exact Gives.ok (Keep.step (State.readOver_keep ..) (Keep.ite (Keep.step (State.discardRead_keep ..) h32 rfl) (Keep.step (State.readDone_keep ..) h32 rfl)) rfl)

theorem execCompletionTimeout_gives (f : Nat) (tag : Nat) (s : State) : Gives 0xd828023c06721005 s (execCompletionTimeout f tag s) := by
  have h0 := Keep.refl 0xd828023c06721005 s
  unfold execCompletionTimeout
  split
  · exact Gives.ok h0
  · refine Gives.ite ?_ ?_
    · exact Gives.ok h0
    · extract_lets +onlyGivenNames x1
      refine Gives.cut (x := x1) (Keep.step (State.advanceTo_keep ..) h0 rfl) (fun h2 => ?_)
      generalize x1 = y3 at *
      extract_lets +onlyGivenNames x4
      refine Gives.cut (x := x4) (Keep.step (State.cal_keep ..) (Keep.bump .hif (Keep.count .hif h2 rfl rfl) rfl rfl) rfl) (fun h5 => ?_)
      generalize x4 = y6 at *
      extract_lets +onlyGivenNames x7
      refine Gives.cut (x := x7) (Keep.step (State.raise_keep ..) (Keep.step (State.aer_keep ..) h5 rfl) rfl) (fun h8 => ?_)
      generalize x7 = y9 at *
      extract_lets +onlyGivenNames x10
      refine Gives.cut (x := x10) (Keep.step (State.quarantine_keep ..) (Keep.step (State.dropRead_keep ..) h8 rfl) rfl) (fun h11 => ?_)
      generalize x10 = y12 at *
      exact Gives.ok (Keep.step (State.readOver_keep ..) (Keep.step (State.readFailed_keep ..) h11 rfl) rfl)

theorem execTagQuarantineExpire_gives (f : Nat) (tag : Nat) (s : State) : Gives 0x9000001c00300004 s (execTagQuarantineExpire f tag s) := by
  have h0 := Keep.refl 0x9000001c00300004 s
  unfold execTagQuarantineExpire
  split
  · exact Gives.ok h0
  · extract_lets +onlyGivenNames x1
    refine Gives.cut (x := x1) (Keep.step (State.advanceTo_keep ..) h0 rfl) (fun h2 => ?_)
    generalize x1 = y3 at *
    extract_lets +onlyGivenNames x4
    generalize x4 = y5 at *
    extract_lets +onlyGivenNames x6
    refine Gives.cut (x := x6) (Keep.hif h2 _ rfl) (fun h7 => ?_)
    generalize x6 = y8 at *
    exact Gives.ok (Keep.step (State.retryWaiting_keep ..) (Keep.step (State.showTags_keep ..) h7 rfl) rfl)

theorem execFlrDeadline_gives (f : Nat) (s : State) : Gives 0x9820003c00721005 s (execFlrDeadline f s) := by
  have h0 := Keep.refl 0x9820003c00721005 s
  unfold execFlrDeadline
  refine Gives.ite ?_ ?_
  · exact Gives.ok h0
  · extract_lets +onlyGivenNames x1
    refine Gives.cut (x := x1) (Keep.step (State.advanceTo_keep ..) h0 rfl) (fun h2 => ?_)
    generalize x1 = y3 at *
    extract_lets +onlyGivenNames x4
    generalize x4 = y5 at *
    extract_lets +onlyGivenNames x6
    refine Gives.cut (x := x6) ?_ (fun h7 => ?_)
    · unfold x6
      clear x6
      refine Keep.forEach ?_ (fun a9 u8 => ?_)
      · exact h2
      have h10 := Keep.refl 0x9820003c00721005 u8
      exact (Keep.step (State.quarantine_keep ..) (Keep.step (State.dropRead_keep ..) h10 rfl) rfl)
    generalize x6 = y11 at *
    exact Gives.ok (Keep.step (State.dmaStopped_keep ..) (Keep.step (State.settle_keep ..) (Keep.step (State.retryWaiting_keep ..) (Keep.step (State.showTags_keep ..) h7 rfl) rfl) rfl) rfl)

end Sys2Proof.Machine
end

