-- ==== Sys2Proof/Laws/KeepMarks.lean ====
section
/-!
SUPPORT. What each operation and each command of Machine/Marks.lean can do to the state: the zones and parts it stays within.
-/
namespace Sys2Proof.Machine

theorem State.markWindows_keep (s : State) (m : Nat) : Keep 0x104000040014000c s (State.markWindows s m) := by
  have h0 := Keep.refl 0x104000040014000c s
  unfold State.markWindows
  refine Keep.forEach ?_ (fun a2 u1 => ?_)
  · exact h0
  have h3 := Keep.refl 0x104000040014000c u1
  extract_lets +onlyGivenNames x4
  generalize x4 = y5 at *
  exact (Keep.ite h3 (Keep.ite (Keep.step (State.memWindow_keep ..) (Keep.wr .tim h3 rfl rfl) rfl) (Keep.ite (Keep.wr .tim h3 rfl rfl) h3)))

theorem State.fireMark_keep (s : State) (m : Nat) (c : Nat) : Keep 0x5848823c0674130c s (State.fireMark s m c) := by
  have h0 := Keep.refl 0x5848823c0674130c s
  unfold State.fireMark
  extract_lets +onlyGivenNames x1
  generalize x1 = y2 at *
  extract_lets +onlyGivenNames x3
  generalize x3 = y4 at *
  extract_lets +onlyGivenNames x5
  refine Keep.cut (x := x5) (Keep.tim h0 _ rfl) (fun h6 => ?_)
  generalize x5 = y7 at *
  extract_lets +onlyGivenNames x8
  refine Keep.cut (x := x8) (Keep.step (State.cal_keep ..) (Keep.setBitAt .tim h6 rfl rfl) rfl) (fun h9 => ?_)
  generalize x8 = y10 at *
  extract_lets +onlyGivenNames x11
  refine Keep.cut (x := x11) (Keep.ite (Keep.step (State.raise_keep ..) h9 rfl) h9) (fun h12 => ?_)
  generalize x11 = y13 at *
  extract_lets +onlyGivenNames x14
  refine Keep.cut (x := x14) (Keep.step (State.frameMark_keep ..) (Keep.step (State.markWindows_keep ..) h12 rfl) rfl) (fun h15 => ?_)
  generalize x14 = y16 at *
  extract_lets +onlyGivenNames x17
  refine Keep.cut (x := x17) ?_ (fun h18 => ?_)
  · unfold x17
    clear x17
    refine Keep.forEach ?_ (fun a20 u19 => ?_)
    · exact h15
    have h21 := Keep.refl 0x5848823c0674130c u19
    exact (Keep.ite (Keep.step (State.report_keep ..) h21 rfl) h21)
  generalize x17 = y22 at *
  exact (Keep.ite (Keep.step (State.snapshotWrite_keep ..) h18 rfl) h18)

theorem State.fireArmed_keep (s : State) (k : Nat) : Keep 0x58dff3ff6e7fffff s (State.fireArmed s k) := by
  have h0 := Keep.refl 0x58dff3ff6e7fffff s
  unfold State.fireArmed
  split
  · exact h0
  · extract_lets +onlyGivenNames x1
    generalize x1 = y2 at *
    extract_lets +onlyGivenNames x3
    generalize x3 = y4 at *
    extract_lets +onlyGivenNames x5
    refine Keep.cut (x := x5) (Keep.step (State.fireMark_keep ..) h0 rfl) (fun h6 => ?_)
    generalize x5 = y7 at *
    split
    · exact (Keep.ite h6 (Keep.step (State.commitBlk_keep ..) h6 rfl))
    · exact h6

theorem execAngleMarkFire_gives (m : Nat) (s : State) : Gives 0xd8dff3ff6e7fffff s (execAngleMarkFire m s) := by
  have h0 := Keep.refl 0xd8dff3ff6e7fffff s
  unfold execAngleMarkFire
  refine Gives.ite ?_ ?_
  · exact Gives.ok h0
  · refine Gives.ite ?_ ?_
    · exact Gives.ok (Keep.tim h0 _ rfl)
    · split
      · exact Gives.ok h0
      · extract_lets +onlyGivenNames x1
        generalize x1 = y2 at *
        refine Gives.ite ?_ ?_
        · exact Gives.ok h0
        · extract_lets +onlyGivenNames x3
          refine Gives.cut (x := x3) (Keep.ite (Keep.step (State.elapse_keep ..) h0 rfl) h0) (fun h4 => ?_)
          generalize x3 = y5 at *
          extract_lets +onlyGivenNames x6
          generalize x6 = y7 at *
          extract_lets +onlyGivenNames x8
          generalize x8 = y9 at *
          extract_lets +onlyGivenNames x10
          generalize x10 = y11 at *
          extract_lets +onlyGivenNames x12
          generalize x12 = y13 at *
          extract_lets +onlyGivenNames x14
          generalize x14 = y15 at *
          extract_lets +onlyGivenNames x16
          refine Gives.cut (x := x16) (Keep.tim h4 _ rfl) (fun h17 => ?_)
          generalize x16 = y18 at *
          extract_lets +onlyGivenNames x19
          refine Gives.cut (x := x19) ?_ (fun h20 => ?_)
          · unfold x19
            clear x19
            refine Keep.forEach ?_ (fun a22 u21 => ?_)
            · exact h17
            have h23 := Keep.refl 0xd8dff3ff6e7fffff u21
            exact (Keep.step (State.fireArmed_keep ..) h23 rfl)
          generalize x19 = y24 at *
          split
          · exact Gives.ok (Keep.step (State.commitBlk_keep ..) h20 rfl)
          · exact Gives.ok h20

end Sys2Proof.Machine
end

