-- ==== Sys2Proof/Laws/KeepPower.lean ====
section
/-!
SUPPORT. What each operation and each command of Machine/Power.lean can do to the state: the zones and parts it stays within.
-/
namespace Sys2Proof.Machine

theorem State.setVaux_keep (s : State) (mv : Nat) : Keep 0x2 s (State.setVaux s mv) := by
  have h0 := Keep.refl 0x2 s
  unfold State.setVaux
  exact (Keep.wr .pwr h0 rfl rfl)

theorem State.auxReset_keep (s : State) : Keep 0x5fffffbfffffffff s (State.auxReset s) := by
  have h0 := Keep.refl 0x5fffffbfffffffff s
  unfold State.auxReset
  extract_lets +onlyGivenNames x1
  refine Keep.cut (x := x1) (Keep.step (State.clearAux_keep ..) (Keep.step (State.deviceReset_keep ..) h0 rfl) rfl) (fun h2 => ?_)
  generalize x1 = y3 at *
  extract_lets +onlyGivenNames x4
  refine Keep.cut (x := x4) (Keep.wr .pwr (Keep.wr .pwr h2 rfl rfl) rfl rfl) (fun h5 => ?_)
  generalize x4 = y6 at *
  extract_lets +onlyGivenNames x7
  refine Keep.cut (x := x7) (Keep.step (State.showUpdRec_keep ..) (Keep.step (State.showOtp_keep ..) h5 rfl) rfl) (fun h8 => ?_)
  generalize x7 = y9 at *
  split
  · exact (Keep.step (State.setVin_keep ..) h8 rfl)
  · exact (Keep.step (State.nvCheck_keep ..) h8 rfl)

theorem execVauxPowerOn_gives (mv : Nat) (s : State) : Gives 0x5fffffbfffffffff s (execVauxPowerOn mv s) := by
  have h0 := Keep.refl 0x5fffffbfffffffff s
  unfold execVauxPowerOn
  refine Gives.ite ?_ ?_
  · exact Gives.ok (Keep.step (State.setVaux_keep ..) h0 rfl)
  · exact Gives.ok (Keep.step (State.leaveReset_keep ..) (Keep.step (State.setVaux_keep ..) (Keep.step (State.auxReset_keep ..) (Keep.pwr h0 _ rfl) rfl) rfl) rfl)

theorem execVauxLow_gives (mv : Nat) (s : State) : Gives 0x5fffffbfffffffff s (execVauxLow mv s) := by
  have h0 := Keep.refl 0x5fffffbfffffffff s
  unfold execVauxLow
  refine Gives.ite ?_ ?_
  · exact Gives.ok (Keep.step (State.setVaux_keep ..) h0 rfl)
  · exact Gives.ok (Keep.step (State.setVaux_keep ..) (Keep.step (State.auxReset_keep ..) (Keep.pwr h0 _ rfl) rfl) rfl)

theorem execVinOn_gives (mv : Nat) (s : State) : Gives 0x1880000600100006 s (execVinOn mv s) := by
  have h0 := Keep.refl 0x1880000600100006 s
  unfold execVinOn
  extract_lets +onlyGivenNames x1
  refine Gives.cut (x := x1) (Keep.step (State.setVin_keep ..) h0 rfl) (fun h2 => ?_)
  generalize x1 = y3 at *
  refine Gives.ite ?_ ?_
  · exact Gives.ok h2
  · exact Gives.ok (Keep.step (State.leaveReset_keep ..) (Keep.fields h2 rfl (Nat.le_refl _) ⟨rfl, rfl, rfl, rfl, rfl, rfl, rfl, rfl⟩ (fun p hp => by cases p <;> first | rfl | exact ⟨rfl, rfl, rfl⟩ | exact ⟨rfl, rfl, rfl, rfl, rfl, rfl⟩ | exact absurd hp (by decide))) rfl)

theorem execVinOff_gives (mv : Nat) (s : State) : Gives 0x5fffffbfffffffff s (execVinOff mv s) := by
  have h0 := Keep.refl 0x5fffffbfffffffff s
  unfold execVinOff
  extract_lets +onlyGivenNames x1
  refine Gives.cut (x := x1) (Keep.step (State.setVin_keep ..) h0 rfl) (fun h2 => ?_)
  generalize x1 = y3 at *
  refine Gives.ite ?_ ?_
  · exact Gives.ok h2
  · extract_lets +onlyGivenNames x4
    refine Gives.cut (x := x4) (Keep.step (State.deviceReset_keep ..) h2 rfl) (fun h5 => ?_)
    generalize x4 = y6 at *
    exact Gives.ok (Keep.fields h5 rfl (Nat.le_refl _) ⟨rfl, rfl, rfl, rfl, rfl, rfl, rfl, rfl⟩ (fun p hp => by cases p <;> first | rfl | exact ⟨rfl, rfl, rfl⟩ | exact ⟨rfl, rfl, rfl, rfl, rfl, rfl⟩ | exact absurd hp (by decide)))

theorem execSupplyTrip_gives (rail : Nat) (back : Bool) (s : State) : Gives 0x4fffffffffffffff s (execSupplyTrip rail back s) := by
  have h0 := Keep.refl 0x4fffffffffffffff s
  unfold execSupplyTrip
  refine Gives.ite ?_ ?_
  · exact Gives.ok h0
  · extract_lets +onlyGivenNames x1
    refine Gives.cut (x := x1) (Keep.ite (Keep.step (State.deviceFault_keep ..) h0 rfl) h0) (fun h2 => ?_)
    generalize x1 = y3 at *
    exact Gives.ok (Keep.pins h2 _ rfl)

theorem execPwrOkGlitch_gives (rail : Nat) (s : State) : Gives 0x400100004 s (execPwrOkGlitch rail s) := by
  have h0 := Keep.refl 0x400100004 s
  unfold execPwrOkGlitch
  exact Gives.ok (Keep.step (State.raise_keep ..) h0 rfl)

theorem execVinOutOfRange_gives (mv : Nat) (s : State) : Gives 0x1080000600100006 s (execVinOutOfRange mv s) := by
  have h0 := Keep.refl 0x1080000600100006 s
  unfold execVinOutOfRange
  extract_lets +onlyGivenNames x1
  refine Gives.cut (x := x1) (Keep.step (State.setVin_keep ..) h0 rfl) (fun h2 => ?_)
  generalize x1 = y3 at *
  refine Gives.ite ?_ ?_
  · exact Gives.ok h2
  · exact Gives.ok (Keep.step (State.raise_keep ..) (Keep.count .pwr h2 rfl rfl) rfl)

theorem execVauxWarning_gives (mv : Nat) (s : State) : Gives 0x400100006 s (execVauxWarning mv s) := by
  have h0 := Keep.refl 0x400100006 s
  unfold execVauxWarning
  extract_lets +onlyGivenNames x1
  refine Gives.cut (x := x1) (Keep.step (State.setVaux_keep ..) h0 rfl) (fun h2 => ?_)
  generalize x1 = y3 at *
  exact Gives.ok (Keep.ite (Keep.step (State.raise_keep ..) h2 rfl) h2)

theorem execClk25mInAbsent_gives (present : Bool) (s : State) : Gives 0x200000000 s (execClk25mInAbsent present s) := by
  have h0 := Keep.refl 0x200000000 s
  unfold execClk25mInAbsent
  exact Gives.ok (Keep.pins h0 _ rfl)

theorem execResetNAssert_gives (s : State) : Gives 0x4fffffbfffffffff s (execResetNAssert s) := by
  have h0 := Keep.refl 0x4fffffbfffffffff s
  unfold execResetNAssert
  refine Gives.ite ?_ ?_
  · exact Gives.ok h0
  · exact Gives.ok (Keep.step (State.deviceReset_keep ..) (Keep.pins h0 _ rfl) rfl)

theorem execResetNRelease_gives (s : State) : Gives 0x800000200000000 s (execResetNRelease s) := by
  have h0 := Keep.refl 0x800000200000000 s
  unfold execResetNRelease
  exact Gives.ok (Keep.step (State.leaveReset_keep ..) (Keep.pins h0 _ rfl) rfl)

theorem State.setTemp_keep (s : State) (t : Int) : Keep 0x2 s (State.setTemp s t) := by
  have h0 := Keep.refl 0x2 s
  unfold State.setTemp
  exact (Keep.wr .pwr h0 rfl rfl)

theorem execThermalWarning_gives (t : Int) (s : State) : Gives 0x80000600100006 s (execThermalWarning t s) := by
  have h0 := Keep.refl 0x80000600100006 s
  unfold execThermalWarning
  extract_lets +onlyGivenNames x1
  refine Gives.cut (x := x1) (Keep.step (State.setTemp_keep ..) h0 rfl) (fun h2 => ?_)
  generalize x1 = y3 at *
  split
  · exact Gives.ok h2
  · refine Gives.ite ?_ ?_
    · exact Gives.ok h2
    · extract_lets +onlyGivenNames x4
      generalize x4 = y5 at *
      extract_lets +onlyGivenNames x6
      refine Gives.cut (x := x6) (Keep.pins h2 _ rfl) (fun h7 => ?_)
      generalize x6 = y8 at *
      refine Gives.ite ?_ ?_
      · exact Gives.ok h7
      · exact Gives.ok (Keep.step (State.raise_keep ..) (Keep.count .pwr (Keep.step (State.setPwr_keep ..) h7 rfl) rfl rfl) rfl)

theorem execThermalWarningEnd_gives (t : Int) (s : State) : Gives 0x80000200000002 s (execThermalWarningEnd t s) := by
  have h0 := Keep.refl 0x80000200000002 s
  unfold execThermalWarningEnd
  extract_lets +onlyGivenNames x1
  refine Gives.cut (x := x1) (Keep.step (State.setTemp_keep ..) h0 rfl) (fun h2 => ?_)
  generalize x1 = y3 at *
  split
  · exact Gives.ok h2
  · extract_lets +onlyGivenNames x4
    generalize x4 = y5 at *
    extract_lets +onlyGivenNames x6
    refine Gives.cut (x := x6) (Keep.ite (Keep.pins h2 _ rfl) h2) (fun h7 => ?_)
    generalize x6 = y8 at *
    exact Gives.ok (Keep.ite (Keep.step (State.setPwr_keep ..) h7 rfl) h7)

theorem execThermalTrip_gives (t : Int) (s : State) : Gives 0x4fffffffffffffff s (execThermalTrip t s) := by
  have h0 := Keep.refl 0x4fffffffffffffff s
  unfold execThermalTrip
  extract_lets +onlyGivenNames x1
  refine Gives.cut (x := x1) (Keep.step (State.setTemp_keep ..) h0 rfl) (fun h2 => ?_)
  generalize x1 = y3 at *
  refine Gives.ite ?_ ?_
  · exact Gives.ok h2
  · extract_lets +onlyGivenNames x4
    refine Gives.cut (x := x4) (Keep.ite (Keep.step (State.deviceFault_keep ..) h2 rfl) h2) (fun h5 => ?_)
    generalize x4 = y6 at *
    exact Gives.ok (Keep.step (State.setPwr_keep ..) h5 rfl)

theorem execThermalTripClear_gives (t : Int) (s : State) : Gives 0x880000200000002 s (execThermalTripClear t s) := by
  have h0 := Keep.refl 0x880000200000002 s
  unfold execThermalTripClear
  extract_lets +onlyGivenNames x1
  refine Gives.cut (x := x1) (Keep.step (State.setTemp_keep ..) h0 rfl) (fun h2 => ?_)
  generalize x1 = y3 at *
  refine Gives.ite ?_ ?_
  · exact Gives.ok h2
  · exact Gives.ok (Keep.step (State.leaveReset_keep ..) (Keep.step (State.setPwr_keep ..) h2 rfl) rfl)

theorem execNvRefusalStart_gives (pin : Bool) (mv : Nat) (s : State) : Gives 0x1080000600100006 s (execNvRefusalStart pin mv s) := by
  have h0 := Keep.refl 0x1080000600100006 s
  unfold execNvRefusalStart
  refine Gives.ite ?_ ?_
  · exact Gives.ok (Keep.step (State.nvCheck_keep ..) (Keep.wr .pwr (Keep.pins h0 _ rfl) rfl rfl) rfl)
  · exact Gives.ok (Keep.step (State.setVin_keep ..) h0 rfl)

theorem State.nvResume_keep (s : State) : Keep 0x58100076007c3004 s (State.nvResume s) := by
  have h0 := Keep.refl 0x58100076007c3004 s
  unfold State.nvResume
  extract_lets +onlyGivenNames x1
  refine Keep.cut (x := x1) (Keep.step (State.showSpiWp_keep ..) h0 rfl) (fun h2 => ?_)
  generalize x1 = y3 at *
  extract_lets +onlyGivenNames x4
  generalize x4 = y5 at *
  extract_lets +onlyGivenNames x6
  generalize x6 = y7 at *
  extract_lets +onlyGivenNames x8
  refine Keep.cut (x := x8) (Keep.stg h2 _ rfl) (fun h9 => ?_)
  generalize x8 = y10 at *
  extract_lets +onlyGivenNames x11
  refine Keep.cut (x := x11) ?_ (fun h12 => ?_)
  · unfold x11
    clear x11
    refine Keep.forEach ?_ (fun a14 u13 => ?_)
    · exact h9
    have h15 := Keep.refl 0x58100076007c3004 u13
    exact (Keep.step (State.mramWrite_keep ..) h15 rfl)
  generalize x11 = y16 at *
  extract_lets +onlyGivenNames x17
  refine Keep.cut (x := x17) ?_ (fun h18 => ?_)
  · unfold x17
    clear x17
    refine Keep.forEach ?_ (fun a20 u19 => ?_)
    · exact h12
    have h21 := Keep.refl 0x58100076007c3004 u19
    exact (Keep.step (State.tryCommit_keep ..) h21 rfl)
  generalize x17 = y22 at *
  extract_lets +onlyGivenNames x23
  refine Keep.cut (x := x23) (Keep.step (State.startJournal_keep ..) (Keep.step (State.stgSettle_keep ..) h18 rfl) rfl) (fun h24 => ?_)
  generalize x23 = y25 at *
  extract_lets +onlyGivenNames x26
  generalize x26 = y27 at *
  extract_lets +onlyGivenNames x28
  generalize x28 = y29 at *
  extract_lets +onlyGivenNames x30
  refine Keep.cut (x := x30) (Keep.ite h24 (Keep.step (State.raise_keep ..) (Keep.evt h24 _ rfl) rfl)) (fun h31 => ?_)
  generalize x30 = y32 at *
  exact (Keep.step (State.showSpiWp_keep ..) (Keep.step (State.updGo_keep ..) (Keep.wr .boot (Keep.step (State.setUpd_keep ..) h31 rfl) rfl rfl) rfl) rfl)

theorem execNvRefusalEnd_gives (mv : Nat) (since : Nat) (s : State) : Gives 0xd890007e007c3006 s (execNvRefusalEnd mv since s) := by
  have h0 := Keep.refl 0xd890007e007c3006 s
  unfold execNvRefusalEnd
  extract_lets +onlyGivenNames x1
  refine Gives.cut (x := x1) (Keep.step (State.advanceTo_keep ..) h0 rfl) (fun h2 => ?_)
  generalize x1 = y3 at *
  extract_lets +onlyGivenNames x4
  generalize x4 = y5 at *
  extract_lets +onlyGivenNames x6
  refine Gives.cut (x := x6) (Keep.step (State.setVin_keep ..) (Keep.wr .pwr (Keep.pins h2 _ rfl) rfl rfl) rfl) (fun h7 => ?_)
  generalize x6 = y8 at *
  split
  · exact Gives.ok h7
  · extract_lets +onlyGivenNames x9
    refine Gives.cut (x := x9) (Keep.step (State.advanceTo_keep ..) h7 rfl) (fun h10 => ?_)
    generalize x9 = y11 at *
    extract_lets +onlyGivenNames x12
    generalize x12 = y13 at *
    extract_lets +onlyGivenNames x14
    generalize x14 = y15 at *
    extract_lets +onlyGivenNames x16
    refine Gives.cut (x := x16) (Keep.step (State.setPwr_keep ..) (Keep.wr .pwr h10 rfl rfl) rfl) (fun h17 => ?_)
    generalize x16 = y18 at *
    exact Gives.ok (Keep.step (State.nvResume_keep ..) (Keep.step (State.raise_keep ..) h17 rfl) rfl)

theorem State.noteRam_keep (s : State) (ue : Bool) (blk : Nat) (idx : Nat) : Keep 0x4 s (State.noteRam s ue blk idx) := by
  have h0 := Keep.refl 0x4 s
  unfold State.noteRam
  exact (Keep.wr .evt (Keep.wr .evt (Keep.wr .evt h0 rfl rfl) rfl rfl) rfl rfl)

theorem State.restartItem_keep (s : State) (x : Sys2Proof.RamState) : Keep 0x580fd2bc06705f8c s (State.restartItem s x) := by
  have h0 := Keep.refl 0x580fd2bc06705f8c s
  unfold State.restartItem
  split
  · exact h0
  · exact h0
  · exact (Keep.step (State.idleSub_keep ..) h0 rfl)
  · exact (Keep.ite (Keep.step (State.raise_keep ..) (Keep.step (State.beginBay_keep ..) (Keep.step (State.endBay_keep ..) h0 rfl) rfl) rfl) h0)
  · refine Keep.ite ?_ h0
    refine Keep.forEach ?_ (fun a2 u1 => ?_)
    · exact (Keep.step (State.chRestartNow_keep ..) h0 rfl)
    have h3 := Keep.refl 0x580fd2bc06705f8c u1
    exact (Keep.step (State.grpRestart_keep ..) h3 rfl)
  · exact (Keep.step (State.grpRestart_keep ..) h0 rfl)
  · refine Keep.ite h0 ?_
    extract_lets +onlyGivenNames x4
    generalize x4 = y5 at *
    exact (Keep.step (State.evalTerms_keep ..) (Keep.step (State.cmpRestart_keep ..) h0 rfl) rfl)
  · exact (Keep.ite (Keep.step (State.termStart_keep ..) h0 rfl) h0)
  · exact (Keep.ite (Keep.step (State.pubStart_keep ..) h0 rfl) h0)
  · exact (Keep.step (State.gsubRestart_keep ..) h0 rfl)
  · exact h0
  · exact (Keep.step (State.kickRings_keep ..) (Keep.step (State.endCut_keep ..) (Keep.step (State.cutRing_keep ..) h0 rfl) rfl) rfl)
  · split
    · exact (Keep.step (State.pinReset_keep ..) h0 rfl)
    · exact (Keep.step (State.setSlot_keep ..) h0 rfl)

theorem State.hifRamError_keep (s : State) (blk : Nat) (what : Sys2Proof.RamState) : Keep 0x1000000400300004 s (State.hifRamError s blk what) := by
  have h0 := Keep.refl 0x1000000400300004 s
  unfold State.hifRamError
  refine Keep.ite h0 ?_
  split
  · exact (Keep.step (State.aer_keep ..) h0 rfl)
  · exact (Keep.step (State.aer_keep ..) h0 rfl)

theorem State.ramRestart_keep (s : State) (blk : Nat) (x : Sys2Proof.RamState) : Keep 0x580fd2bc06705f8c s (State.ramRestart s blk x) := by
  have h0 := Keep.refl 0x580fd2bc06705f8c s
  unfold State.ramRestart
  split
  · refine Keep.ite (Keep.step (State.restartItem_keep ..) h0 rfl) ?_
    split
    · exact (Keep.step (State.finishJob_keep ..) h0 rfl)
    · exact h0
  · exact (Keep.step (State.restartItem_keep ..) h0 rfl)

theorem execInternalRamError_gives (blk : Nat) (what : Sys2Proof.RamState) (s : State) : Gives 0x5fffffffffffffff s (execInternalRamError blk what s) := by
  have h0 := Keep.refl 0x5fffffffffffffff s
  unfold execInternalRamError
  refine Gives.ite ?_ ?_
  · exact Gives.ok h0
  · extract_lets +onlyGivenNames x1
    refine Gives.cut (x := x1) (Keep.step (State.hifRamError_keep ..) h0 rfl) (fun h2 => ?_)
    generalize x1 = y3 at *
    split
    · exact Gives.ok (Keep.step (State.raise_keep ..) (Keep.step (State.noteRam_keep ..) h2 rfl) rfl)
    · exact Gives.ok (Keep.step (State.deviceFault_keep ..) (Keep.step (State.noteRam_keep ..) h2 rfl) rfl)
    · exact Gives.ok (Keep.step (State.raise_keep ..) (Keep.step (State.ramRestart_keep ..) (Keep.step (State.noteRam_keep ..) h2 rfl) rfl) rfl)

end Sys2Proof.Machine
end

