-- ==== Sys2Proof/Laws/KeepQueues.lean ====
section
/-!
SUPPORT. What each operation and each command of Machine/Queues.lean can do to the state: the zones and parts it stays within.
-/
namespace Sys2Proof.Machine

theorem State.refetch_keep (s : State) (g : Nat) (idx : Nat) : Keep 0x1000003400301004 s (State.refetch s g idx) := by
  have h0 := Keep.refl 0x1000003400301004 s
  unfold State.refetch
  extract_lets +onlyGivenNames x1
  generalize x1 = y2 at *
  extract_lets +onlyGivenNames x3
  refine Keep.cut (x := x3) (Keep.step (State.setRing_keep ..) h0 rfl) (fun h4 => ?_)
  generalize x3 = y5 at *
  extract_lets +onlyGivenNames x6
  refine Keep.cut (x := x6) (Keep.step (State.cal_keep ..) (Keep.count .qmg (Keep.step (State.ringCount_keep ..) (Keep.step (State.ringCount_keep ..) h4 rfl) rfl) rfl rfl) rfl) (fun h7 => ?_)
  generalize x6 = y8 at *
  exact (Keep.step (State.dmaRead_keep ..) h7 rfl)

theorem execDoorbellWrite_gives (f : Nat) (n : Nat) (off : Nat) (full : Bool) (val : Word) (s : State) : Gives 0x1000003400701005 s (execDoorbellWrite f n off full val s) := by
  have h0 := Keep.refl 0x1000003400701005 s
  unfold execDoorbellWrite
  extract_lets +onlyGivenNames x1
  refine Gives.cut (x := x1) (Keep.step (State.tlpIn_keep ..) h0 rfl) (fun h2 => ?_)
  generalize x1 = y3 at *
  refine Gives.ite ?_ ?_
  · exact Gives.ok (Keep.step (State.aer_keep ..) h2 rfl)
  · refine Gives.ite ?_ ?_
    · exact Gives.ok h2
    · refine Gives.ite ?_ ?_
      · exact Gives.ok (Keep.step (State.bad_keep ..) h2 rfl)
      · split
        · exact Gives.ok (Keep.step (State.raise_keep ..) (Keep.count .qmg h2 rfl rfl) rfl)
        · refine Gives.ite ?_ ?_
          · exact Gives.ok (Keep.step (State.raise_keep ..) (Keep.count .qmg h2 rfl rfl) rfl)
          · extract_lets +onlyGivenNames x4
            generalize x4 = y5 at *
            extract_lets +onlyGivenNames x6
            generalize x6 = y7 at *
            extract_lets +onlyGivenNames x8
            refine Gives.cut (x := x8) (Keep.step (State.setRing_keep ..) h2 rfl) (fun h9 => ?_)
            generalize x8 = y10 at *
            extract_lets +onlyGivenNames x11
            generalize x11 = y12 at *
            refine Gives.ite ?_ ?_
            · exact Gives.ok (Keep.step (State.functionFault_keep ..) h9 rfl)
            · refine Gives.ite ?_ ?_
              · exact Gives.ok h9
              · extract_lets +onlyGivenNames x13
                generalize x13 = y14 at *
                extract_lets +onlyGivenNames x15
                refine Gives.cut (x := x15) ?_ (fun h16 => ?_)
                · unfold x15
                  clear x15
                  refine Keep.forEach ?_ (fun a18 u17 => ?_)
                  · exact h9
                  have h19 := Keep.refl 0x1000003400701005 u17
                  exact (Keep.step (State.refetch_keep ..) h19 rfl)
                generalize x15 = y20 at *
                exact Gives.ok (Keep.step (State.fetchEntries_keep ..) h16 rfl)

theorem State.takeEntries_keep (s : State) (g : Nat) (y2 : Nat) : Keep 0x1000003400701005 s (State.takeEntries s g y2) := by
  induction y2 generalizing s g
  · have h0 := Keep.refl 0x1000003400701005 s
    unfold State.takeEntries
    exact h0
  · rename_i y2 ih
    have h0 := Keep.refl 0x1000003400701005 s
    unfold State.takeEntries
    extract_lets +onlyGivenNames x1
    generalize x1 = y2 at *
    extract_lets +onlyGivenNames x3
    generalize x3 = y4 at *
    refine Keep.ite h0 ?_
    split
    · exact h0
    · refine Keep.ite (Keep.ite h0 (Keep.step (State.refetch_keep ..) (Keep.step (State.setRing_keep ..) h0 rfl) rfl)) ?_
      extract_lets +onlyGivenNames x5
      generalize x5 = y6 at *
      extract_lets +onlyGivenNames x7
      refine Keep.cut (x := x7) (Keep.step (State.setRing_keep ..) h0 rfl) (fun h8 => ?_)
      generalize x7 = y9 at *
      extract_lets +onlyGivenNames x10
      refine Keep.cut (x := x10) (Keep.step (State.setCons_keep ..) h8 rfl) (fun h11 => ?_)
      generalize x10 = y12 at *
      extract_lets +onlyGivenNames x13
      refine Keep.cut (x := x13) (Keep.step (State.cal_keep ..) (Keep.count .qmg (Keep.step (State.ringCount_keep ..) h11 rfl) rfl rfl) rfl) (fun h14 => ?_)
      generalize x13 = y15 at *
      extract_lets +onlyGivenNames x16
      generalize x16 = y17 at *
      exact (Keep.ite (Keep.step (State.functionFault_keep ..) h14 rfl) (Keep.step (ih ..) (Keep.step (State.startJob_keep ..) h14 rfl) rfl))

theorem execEntryFetch_gives (g : Nat) (s : State) : Gives 0x1000003400701005 s (execEntryFetch g s) := by
  have h0 := Keep.refl 0x1000003400701005 s
  unfold execEntryFetch
  extract_lets +onlyGivenNames x1
  refine Gives.cut (x := x1) (Keep.step (State.takeEntries_keep ..) h0 rfl) (fun h2 => ?_)
  generalize x1 = y3 at *
  exact Gives.ok (Keep.step (State.fetchEntries_keep ..) h2 rfl)

theorem execEntryRefetch_gives (g : Nat) (s : State) : Gives 0x9000003c00301004 s (execEntryRefetch g s) := by
  have h0 := Keep.refl 0x9000003c00301004 s
  unfold execEntryRefetch
  extract_lets +onlyGivenNames x1
  generalize x1 = y2 at *
  split
  · exact Gives.ok h0
  · extract_lets +onlyGivenNames x3
    generalize x3 = y4 at *
    refine Gives.ite ?_ ?_
    · exact Gives.ok (Keep.step (State.refetch_keep ..) (Keep.step (State.advanceTo_keep ..) h0 rfl) rfl)
    · exact Gives.ok h0

theorem execOwnWaitExpire_gives (g : Nat) (s : State) : Gives 0x9000003c00701005 s (execOwnWaitExpire g s) := by
  have h0 := Keep.refl 0x9000003c00701005 s
  unfold execOwnWaitExpire
  extract_lets +onlyGivenNames x1
  generalize x1 = y2 at *
  refine Gives.ite ?_ ?_
  · exact Gives.ok h0
  · extract_lets +onlyGivenNames x3
    refine Gives.cut (x := x3) (Keep.step (State.advanceTo_keep ..) h0 rfl) (fun h4 => ?_)
    generalize x3 = y5 at *
    exact Gives.ok (Keep.step (State.functionFault_keep ..) h4 rfl)

theorem execJobComplete_gives (g : Nat) (status : Nat) (detail : Nat) (len : Nat) (result : Nat) (s : State) : Gives 0x1800003400701004 s (execJobComplete g status detail len result s) := by
  have h0 := Keep.refl 0x1800003400701004 s
  unfold execJobComplete
  split
  · exact Gives.ok h0
  · refine Gives.ite ?_ ?_
    · exact Gives.ok (Keep.step (State.finishJob_keep ..) h0 rfl)
    · exact Gives.ok h0

theorem execRingInterruptTimer_gives (g : Nat) (s : State) : Gives 0x9000002c00700004 s (execRingInterruptTimer g s) := by
  have h0 := Keep.refl 0x9000002c00700004 s
  unfold execRingInterruptTimer
  extract_lets +onlyGivenNames x1
  generalize x1 = y2 at *
  refine Gives.ite ?_ ?_
  · exact Gives.ok h0
  · exact Gives.ok (Keep.step (State.ringSignal_keep ..) (Keep.step (State.advanceTo_keep ..) h0 rfl) rfl)

theorem State.beginDestroy_keep (s : State) (g : Nat) : Keep 0x1800003400701004 s (State.beginDestroy s g) := by
  have h0 := Keep.refl 0x1800003400701004 s
  unfold State.beginDestroy
  refine Keep.ite h0 ?_
  extract_lets +onlyGivenNames x1
  generalize x1 = y2 at *
  exact (Keep.step (State.endDestroy_keep ..) (Keep.step (State.setRing_keep ..) h0 rfl) rfl)

theorem State.makeRing_keep (s : State) (g : Nat) (f : Nat) (n : Nat) (type : Nat) (log2 : Nat) (r : RingSt) : Keep 0x1000003400701004 s (State.makeRing s g f n type log2 r) := by
  have h0 := Keep.refl 0x1000003400701004 s
  unfold State.makeRing
  extract_lets +onlyGivenNames x1
  refine Keep.cut (x := x1) (Keep.setWord .qmg h0 rfl rfl) (fun h2 => ?_)
  generalize x1 = y3 at *
  extract_lets +onlyGivenNames x4
  refine Keep.cut (x := x4) (Keep.step (State.setRing_keep ..) (Keep.step (State.setCons_keep ..) h2 rfl) rfl) (fun h5 => ?_)
  generalize x4 = y6 at *
  exact (Keep.step (State.kickRings_keep ..) (Keep.step (State.showRings_keep ..) (Keep.step (State.setRingState_keep ..) h5 rfl) rfl) rfl)

theorem execAdminRingEnable_gives (f : Nat) (val : Word) (s : State) : Gives 0x1800003400701005 s (execAdminRingEnable f val s) := by
  have h0 := Keep.refl 0x1800003400701005 s
  unfold execAdminRingEnable
  extract_lets +onlyGivenNames x1
  generalize x1 = y2 at *
  extract_lets +onlyGivenNames x3
  generalize x3 = y4 at *
  extract_lets +onlyGivenNames x5
  generalize x5 = y6 at *
  extract_lets +onlyGivenNames x7
  generalize x7 = y8 at *
  refine Gives.ite ?_ ?_
  · extract_lets +onlyGivenNames x9
    refine Gives.cut (x := x9) (Keep.ite (Keep.step (State.bad_keep ..) h0 rfl) h0) (fun h10 => ?_)
    generalize x9 = y11 at *
    refine Gives.ite ?_ ?_
    · exact Gives.ok h10
    · extract_lets +onlyGivenNames x12
      refine Gives.cut (x := x12) (Keep.wrFn h10 (by decide) rfl) (fun h13 => ?_)
      generalize x12 = y14 at *
      split
      · exact Gives.ok (Keep.step (State.beginDestroy_keep ..) h13 rfl)
      · exact Gives.ok h13
  · refine Gives.ite ?_ ?_
    · exact Gives.ok (Keep.wrFn (Keep.wrFn h0 (by decide) rfl) (by decide) rfl)
    · extract_lets +onlyGivenNames x15
      generalize x15 = y16 at *
      refine Gives.ite ?_ ?_
      · exact Gives.ok (Keep.step (State.bad_keep ..) h0 rfl)
      · split
        · extract_lets +onlyGivenNames x17
          refine Gives.cut (x := x17) (Keep.wrFn (Keep.wrFn (Keep.wrFn h0 (by decide) rfl) (by decide) rfl) (by decide) rfl) (fun h18 => ?_)
          generalize x17 = y19 at *
          exact Gives.ok (Keep.step (State.makeRing_keep ..) h18 rfl)
        · exact Gives.ok (Keep.step (State.bad_keep ..) h0 rfl)

theorem execNoOp_gives (g : Nat) (s : State) : Gives 0x1800003400701004 s (execNoOp g s) := by
  have h0 := Keep.refl 0x1800003400701004 s
  unfold execNoOp
  split
  · exact Gives.ok h0
  · exact Gives.ok (Keep.step (State.finishJob_keep ..) h0 rfl)

theorem State.answerJob_keep (s : State) (g : Nat) (j : Job) (data : List Byte) (result : Nat) : Keep 0x1800003400701004 s (State.answerJob s g j data result) := by
  have h0 := Keep.refl 0x1800003400701004 s
  unfold State.answerJob
  refine Keep.ite (Keep.step (State.finishJob_keep ..) h0 rfl) ?_
  extract_lets +onlyGivenNames x1
  refine Keep.cut (x := x1) (Keep.step (State.writeFrags_keep ..) h0 rfl) (fun h2 => ?_)
  generalize x1 = y3 at *
  exact (Keep.step (State.finishJob_keep ..) (Keep.step (State.ringCount_keep ..) h2 rfl) rfl)

theorem execIdentify_gives (g : Nat) (s : State) : Gives 0x1800003400701004 s (execIdentify g s) := by
  have h0 := Keep.refl 0x1800003400701004 s
  unfold execIdentify
  split
  · exact Gives.ok h0
  · exact Gives.ok (Keep.step (State.answerJob_keep ..) h0 rfl)

theorem State.createFail_keep (s : State) : Keep 0x1000 s (State.createFail s) := by
  have h0 := Keep.refl 0x1000 s
  unfold State.createFail
  exact (Keep.count .qmg h0 rfl rfl)

theorem execCreateRing_gives (g : Nat) (s : State) : Gives 0x1800003400701004 s (execCreateRing g s) := by
  have h0 := Keep.refl 0x1800003400701004 s
  unfold execCreateRing
  split
  · exact Gives.ok h0
  · extract_lets +onlyGivenNames x1
    generalize x1 = y2 at *
    extract_lets +onlyGivenNames x3
    generalize x3 = y4 at *
    extract_lets +onlyGivenNames x5
    generalize x5 = y6 at *
    extract_lets +onlyGivenNames x7
    generalize x7 = y8 at *
    extract_lets +onlyGivenNames x9
    generalize x9 = y10 at *
    refine Gives.ite ?_ ?_
    · exact Gives.ok (Keep.step (State.finishJob_keep ..) (Keep.step (State.createFail_keep ..) h0 rfl) rfl)
    · refine Gives.ite ?_ ?_
      · exact Gives.ok (Keep.step (State.finishJob_keep ..) (Keep.step (State.createFail_keep ..) h0 rfl) rfl)
      · split
        · exact Gives.ok (Keep.step (State.finishJob_keep ..) (Keep.step (State.raise_keep ..) (Keep.step (State.createFail_keep ..) h0 rfl) rfl) rfl)
        · refine Gives.ite ?_ ?_
          · exact Gives.ok (Keep.step (State.finishJob_keep ..) (Keep.step (State.raise_keep ..) (Keep.step (State.createFail_keep ..) h0 rfl) rfl) rfl)
          · extract_lets +onlyGivenNames x11
            refine Gives.cut (x := x11) (Keep.step (State.makeRing_keep ..) h0 rfl) (fun h12 => ?_)
            generalize x11 = y13 at *
            exact Gives.ok (Keep.step (State.finishJob_keep ..) h12 rfl)

theorem execDestroyRing_gives (g : Nat) (s : State) : Gives 0x1800003400701004 s (execDestroyRing g s) := by
  have h0 := Keep.refl 0x1800003400701004 s
  unfold execDestroyRing
  split
  · exact Gives.ok h0
  · extract_lets +onlyGivenNames x1
    generalize x1 = y2 at *
    refine Gives.ite ?_ ?_
    · exact Gives.ok (Keep.step (State.finishJob_keep ..) h0 rfl)
    · split
      · exact Gives.ok (Keep.step (State.finishJob_keep ..) h0 rfl)
      · exact Gives.ok (Keep.step (State.beginDestroy_keep ..) h0 rfl)

theorem execModifyRing_gives (g : Nat) (s : State) : Gives 0x1800003400701004 s (execModifyRing g s) := by
  have h0 := Keep.refl 0x1800003400701004 s
  unfold execModifyRing
  split
  · exact Gives.ok h0
  · extract_lets +onlyGivenNames x1
    generalize x1 = y2 at *
    extract_lets +onlyGivenNames x3
    generalize x3 = y4 at *
    split
    · exact Gives.ok (Keep.step (State.finishJob_keep ..) h0 rfl)
    · refine Gives.ite ?_ ?_
      · exact Gives.ok (Keep.step (State.finishJob_keep ..) h0 rfl)
      · extract_lets +onlyGivenNames x5
        generalize x5 = y6 at *
        extract_lets +onlyGivenNames x7
        refine Gives.cut (x := x7) (Keep.step (State.setRing_keep ..) h0 rfl) (fun h8 => ?_)
        generalize x7 = y9 at *
        exact Gives.ok (Keep.step (State.finishJob_keep ..) h8 rfl)

theorem execQueryRing_gives (g : Nat) (s : State) : Gives 0x1800003400701004 s (execQueryRing g s) := by
  have h0 := Keep.refl 0x1800003400701004 s
  unfold execQueryRing
  split
  · exact Gives.ok h0
  · split
    · exact Gives.ok (Keep.step (State.finishJob_keep ..) h0 rfl)
    · extract_lets +onlyGivenNames x1
      generalize x1 = y2 at *
      exact Gives.ok (Keep.step (State.finishJob_keep ..) h0 rfl)

theorem execRingCounters_gives (g : Nat) (s : State) : Gives 0x1800003400701004 s (execRingCounters g s) := by
  have h0 := Keep.refl 0x1800003400701004 s
  unfold execRingCounters
  split
  · exact Gives.ok h0
  · split
    · exact Gives.ok (Keep.step (State.finishJob_keep ..) h0 rfl)
    · exact Gives.ok (Keep.step (State.answerJob_keep ..) h0 rfl)

theorem execTransmit_gives (g : Nat) (s : State) : Gives 0x1800103400709004 s (execTransmit g s) := by
  have h0 := Keep.refl 0x1800103400709004 s
  unfold execTransmit
  refine Gives.ite ?_ ?_
  · exact Gives.ok h0
  · split
    · exact Gives.ok h0
    · extract_lets +onlyGivenNames x1
      generalize x1 = y2 at *
      extract_lets +onlyGivenNames x3
      refine Gives.cut (x := x3) (Keep.step (State.schEnqueue_keep ..) h0 rfl) (fun h4 => ?_)
      generalize x3 = y5 at *
      exact Gives.ok (Keep.step (State.finishJob_keep ..) h4 rfl)

theorem execReceiveBuffer_gives (g : Nat) (s : State) : Gives 0x2000000000 s (execReceiveBuffer g s) := by
  have h0 := Keep.refl 0x2000000000 s
  unfold execReceiveBuffer
  refine Gives.ite ?_ ?_
  · exact Gives.ok (Keep.step (State.postBuffer_keep ..) h0 rfl)
  · exact Gives.ok h0

theorem execMeasurementBuffer_gives (g : Nat) (s : State) : Gives 0x2000000000 s (execMeasurementBuffer g s) := by
  have h0 := Keep.refl 0x2000000000 s
  unfold execMeasurementBuffer
  refine Gives.ite ?_ ?_
  · exact Gives.ok (Keep.step (State.postBuffer_keep ..) h0 rfl)
  · exact Gives.ok h0

end Sys2Proof.Machine
end

