-- ==== Sys2Proof/Laws/KeepTap.lean ====
section
/-!
SUPPORT. What each operation and each command of Machine/Tap.lean can do to the state: the zones and parts it stays within.
-/
namespace Sys2Proof.Machine

theorem State.tapCapture_keep (s : State) : Keep 0x4000000000000000 s (State.tapCapture s).1 := by
  have h0 := Keep.refl 0x4000000000000000 s
  show KeepP 0x4000000000000000 s (State.tapCapture s)
  unfold State.tapCapture
  extract_lets +onlyGivenNames x1
  generalize x1 = y2 at *
  refine KeepP.ite ?_ ?_
  · exact KeepP.mk h0
  · refine KeepP.ite ?_ ?_
    · exact KeepP.mk (Keep.free h0 _ rfl)
    · exact KeepP.mk h0

theorem State.setTap_keep (s : State) (t : TapSt) : Keep 0x200000000 s (State.setTap s t) := by
  have h0 := Keep.refl 0x200000000 s
  unfold State.setTap
  exact (Keep.pins h0 _ rfl)

theorem State.tapRise_keep (s : State) (tdi : Bool) : Keep 0x4000000200000000 s (State.tapRise s tdi) := by
  have h0 := Keep.refl 0x4000000200000000 s
  unfold State.tapRise
  extract_lets +onlyGivenNames x1
  generalize x1 = y2 at *
  split
  · extract_lets +onlyGivenNames x3
    refine Keep.cutP (x := x3) ?_ (fun h4 => ?_)
    · unfold x3
      clear x3
      exact KeepP.of (Keep.step (State.tapCapture_keep ..) h0 rfl)
    generalize x3 = y5 at *
    exact (Keep.step (State.setTap_keep ..) h4 rfl)
  · exact (Keep.step (State.setTap_keep ..) h0 rfl)
  · exact (Keep.step (State.setTap_keep ..) h0 rfl)
  · exact (Keep.step (State.setTap_keep ..) h0 rfl)
  · exact h0

theorem State.tapClock_keep (s : State) (tms : Bool) (tdi : Bool) : Keep 0x4000000200000000 s (State.tapClock s tms tdi) := by
  have h0 := Keep.refl 0x4000000200000000 s
  unfold State.tapClock
  refine Keep.ite h0 ?_
  extract_lets +onlyGivenNames x1
  refine Keep.cut (x := x1) (Keep.step (State.tapRise_keep ..) h0 rfl) (fun h2 => ?_)
  generalize x1 = y3 at *
  extract_lets +onlyGivenNames x4
  generalize x4 = y5 at *
  exact (Keep.step (State.setTap_keep ..) h2 rfl)

theorem execDebugPortAttach_gives (op : Sys2Proof.JtagOp) (s : State) : Gives 0x4000000600100004 s (execDebugPortAttach op s) := by
  have h0 := Keep.refl 0x4000000600100004 s
  unfold execDebugPortAttach
  split
  · refine Gives.ite ?_ ?_
    · exact Gives.ok h0
    · exact Gives.ok (Keep.step (State.raise_keep ..) (Keep.pins h0 _ rfl) rfl)
  · extract_lets +onlyGivenNames x1
    generalize x1 = y2 at *
    extract_lets +onlyGivenNames x3
    refine Gives.cut (x := x3) (Keep.pins h0 _ rfl) (fun h4 => ?_)
    generalize x3 = y5 at *
    exact Gives.ok (Keep.ite h4 (Keep.step (State.setTap_keep ..) h4 rfl))
  · exact Gives.ok (Keep.step (State.tapClock_keep ..) h0 rfl)

end Sys2Proof.Machine
end

