-- ==== Sys2Proof/Laws/KeepExec.lean ====
section
/-!
SUPPORT. What each command can do to the state, in one table, and what a step can do.
-/
namespace Sys2Proof.Machine

/-- The zones and parts each command stays within (the bits of `zoneNo` and `Part.bit`). -/
def touch : Instr → Nat
  | .registerWrite _ _ _ => 0x58dff3ff6f7fffff
  | .unassignedAccess _ _ _ => 0x3000000400300005
  | .refusedSizeAccess _ => 0x3000000400100005
  | .splitLoRead _ _ => 0x3040080d00ffffff
  | .splitLoWrite _ _ _ => 0x10100006217fffff
  | .splitHiWrite _ _ _ => 0x10100006217fffff
  | .glbSyncRead => 0x2000000000000000
  | .stageOpen _ _ => 0x10000004207fffff
  | .stageAbort _ _ => 0x10000004607fffff
  | .stageCommitNow _ _ => 0x58dff3ff6e7fffff
  | .stageArm _ _ => 0x100000046e7fffff
  | .rwlWrite _ _ _ => 0x10100006217fffff
  | .stageTimeout _ => 0x80000008607fffff
  | .windowPageSelect _ _ => 0x8000001
  | .windowWordWrite _ _ _ => 0x100000040e300045
  | .windowFirstWordRead _ _ => 0x3000000410300005
  | .gtcNsRead _ => 0x3000000c00300004
  | .grainAngleRead _ _ => 0x3000000c00300004
  | .ptpOfsSecWrite _ _ => 0x1000000c00300004
  | .ptpOfsUpdate _ _ => 0x580d82bc06701b0d
  | .ppsInEdge _ _ => 0x580d82bc06701b0c
  | .ppsPulseMissed => 0xd80d82bc06701b0c
  | .irigFrame _ _ _ _ _ _ _ _ => 0x580d82bc06701b0c
  | .irigFrameMissed => 0x580d82bc06701b0c
  | .ptpUpdateTimeout => 0xd80d82bc06701b0c
  | .holdoverExpire => 0x8000000c0010000c
  | .freqAdjWrite _ _ => 0x1000000c0130000d
  | .aoCounterCorrect => 0xc000000800000000
  | .ppsOutPulse => 0x8000000a00000000
  | .ppsOutPulseEnd => 0x8000000a00000000
  | .oscClockLost _ => 0x40010000c
  | .grainRefGap _ => 0x8000000c0010000c
  | .grainCycleWrap _ => 0x8000000800000008
  | .grainCoastFlag _ => 0x8000000c0010000c
  | .grainNominalRevert _ => 0x8000000c0010000c
  | .angleMarkFire _ => 0xd8dff3ff6e7fffff
  | .portLockAcquired _ => 0x5000020400100016
  | .portAnComplete _ _ => 0x5000020400100016
  | .portAnTimeout _ => 0xd000020c00100016
  | .portLinkLost _ _ => 0x5000120400108016
  | .portResetComplete _ => 0x5000020400100016
  | .frameReceive _ _ _ _ _ => 0xd0001e8c0e1080f4
  | .portTxBoundary _ => 0x5800323400719014
  | .ddEntryExpire _ _ => 0x8000020800000010
  | .supervisionTx _ => 0xc000020800000000
  | .loopCheckTimeout _ => 0x8000020c00100014
  | .loopCheckRetry _ => 0xd000020c00100016
  | .bypassSettleExpire _ => 0x8000020c00100016
  | .bypassSwitchTimeout _ => 0xd000020c00100016
  | .keeperKick _ => 0x5000020400100016
  | .keeperExpire _ => 0xd000020c00100016
  | .pairReset _ => 0x5000120400108016
  | .forceRelWrite _ _ => 0x5000020400100016
  | .fabricDegrade _ _ => 0x5000120400108016
  | .fabricRestore _ _ => 0x5000120400108016
  | .fabricLaneLost _ _ => 0x5000120400108016
  | .fabricDegradeDwell _ => 0x8000020800000010
  | .pfcWatchdogExpire _ _ => 0x9000120c00108014
  | .trapLimiterRefill => 0x8000040800000000
  | .trapConsWrite _ _ => 0x1000000400100025
  | .learnRequest => 0x500008040e100044
  | .agerPass => 0xd000080c0e100044
  | .fwtCmdInsert _ _ => 0x500008040e100045
  | .fwtCmdDelete _ _ => 0x500008040e100045
  | .fwtCmdLookup _ _ => 0x500008040e100045
  | .fwtInject _ => 0x40
  | .fwtRebuild _ => 0x100000040c100045
  | .fwtShadowCleared _ => 0x400100044
  | .fwtSwap _ => 0x100000040e100045
  | .fwtAbortRebuild _ => 0x40
  | .fwtPerrPop => 0x2000080000000040
  | .svFrameIngest => 0x1000440400100484
  | .svLossScan => 0x8000000c00100084
  | .keyPromote _ => 0x400100084
  | .keyAutoPromote _ => 0x8000000c00100084
  | .sampleRecordPlace => 0x580fc2bc06701f0c
  | .rowInstant _ => 0xd80d82bc06701b0c
  | .rowHoldExpire _ => 0xd80d82bc06701b0c
  | .comparatorStaleScan => 0xd006020c00100c04
  | .termArmSet _ _ => 0x5002020400104404
  | .termArmClear _ _ => 0x5002020400104404
  | .termUnlatch _ _ => 0x5006020400100c04
  | .gooseRetransmit _ => 0xd002020c00100404
  | .gooseFrameIntake => 0x1006048400100c04
  | .gooseLossScan => 0x8000000c00100404
  | .recCmdTrigger _ => 0x4000400100804
  | .trigInEdge _ _ => 0xd0df83ff807d7f1f
  | .recBurstWrite _ => 0x8044010c00140804
  | .segmentClose _ _ => 0x8044010c00140804
  | .segmentExportStart => 0x5054004400742804
  | .segmentExportStepDone => 0x5014004400742804
  | .segmentExportRetry => 0xd014004c00702804
  | .perstAssert => 0x183c3076667fffff
  | .perstDeassert => 0x50db83ff807d771f
  | .linkUp _ _ _ => 0x1000001400300004
  | .linkDown => 0x183c3074667fffff
  | .hotReset => 0x183c3074667fffff
  | .linkRetrain => 0x400300004
  | .configRequest _ _ _ _ => 0x1000001400300004
  | .busMasterDisable _ => 0x1820003400721005
  | .busMasterEnable _ => 0x1010003400701004
  | .memorySpaceDisable _ => 0x200000
  | .functionLevelReset _ => 0x183c3074667fffff
  | .flrDeadline _ => 0x9820003c00721005
  | .d3hotEntry _ => 0x1820003400721005
  | .d0Entry _ => 0x1010003400701004
  | .vfEnable _ => 0x1400300005
  | .vfDisable _ => 0x183c3074667fffff
  | .completionReceive _ _ _ _ _ _ _ _ => 0x5828023406721005
  | .completionTimeout _ _ => 0xd828023c06721005
  | .tagQuarantineExpire _ _ => 0x9000001c00300004
  | .doorbellWrite _ _ _ _ _ => 0x1000003400701005
  | .entryFetch _ => 0x1000003400701005
  | .entryRefetch _ => 0x9000003c00301004
  | .ownWaitExpire _ => 0x9000003c00701005
  | .jobComplete _ _ _ _ _ => 0x1800003400701004
  | .ringInterruptTimer _ => 0x9000002c00700004
  | .adminRingEnable _ _ => 0x1800003400701005
  | .noOp _ => 0x1800003400701004
  | .identify _ => 0x1800003400701004
  | .createRing _ => 0x1800003400701004
  | .destroyRing _ => 0x1800003400701004
  | .modifyRing _ => 0x1800003400701004
  | .queryRing _ => 0x1800003400701004
  | .ringCounters _ => 0x1800003400701004
  | .transmit _ => 0x1800103400709004
  | .receiveBuffer _ => 0x2000000000
  | .measurementBuffer _ => 0x2000000000
  | .nvmeControllerEnable _ _ => 0x10000000000000
  | .nvmeControllerReset _ => 0x1014004400702004
  | .nvmeIdentify _ _ _ _ _ => 0x9010000c00700004
  | .nvmeGetLogPage _ _ _ _ => 0xd010000c00700004
  | .nvmeSetFeatures _ _ _ _ => 0x9010004c00702004
  | .nvmeGetFeatures _ _ _ _ => 0x9010000c00700004
  | .nvmeCreateIoSq _ _ _ _ _ _ => 0x9010000c00700004
  | .nvmeCreateIoCq _ _ _ _ _ _ => 0x9010000c00700004
  | .nvmeDeleteIoSq _ _ _ => 0x9010000c00700004
  | .nvmeDeleteIoCq _ _ _ => 0x9010000c00700004
  | .nvmeAbort _ _ _ _ => 0x9010000c00700004
  | .nvmeAsyncEventRequest _ _ => 0x9010000c00700004
  | .namespaceAttachment _ _ _ _ _ => 0x9010004c00702004
  | .deviceSelfTest _ _ _ _ => 0x9010004c00702004
  | .nvmeRead _ _ _ _ _ _ => 0x9010004c00702004
  | .nvmeWrite _ _ _ _ _ _ _ => 0x9010004c00702004
  | .nvmeWriteZeroes _ _ _ _ _ _ => 0x9010004c00702004
  | .nvmeFlush _ _ _ _ => 0x9010004c00702004
  | .nvmeCompare _ _ _ _ _ _ _ => 0x9010004c00702004
  | .nvmeDatasetManagement _ _ _ _ _ _ => 0x9010004c00702004
  | .driveCmdComplete _ _ _ _ => 0x1014004400702004
  | .driveCmdTimeout _ => 0x9014004c00702004
  | .nsRebuild _ => 0x1010004400702004
  | .slotPresentDebounce _ => 0x10000400102004
  | .slotPowerOn _ => 0x10000400102004
  | .slotPowerDelayExpire _ => 0x9014004c00702004
  | .slotDriveReady _ _ _ => 0x1010004400702004
  | .slotTrainTimeout _ => 0x9010004c00702004
  | .slotAttnPress _ => 0x10000400102004
  | .slotAttnTimeout _ => 0x9010004c00702004
  | .slotPowerOff _ => 0x1010004400702004
  | .slotRemovalWaitExpire _ => 0x9014004c00702004
  | .slotPowerFault _ => 0x1014004400702004
  | .slotLost _ _ => 0x1014004400702004
  | .slotFaultClear _ _ => 0x10000400102004
  | .rocePacketReceive => 0x580816b406705004
  | .roceAckTimer _ => 0xd008020c00100004
  | .roceAckTimeout _ => 0xd808023c06705004
  | .roceRnrWaitExpire _ => 0xd808023c06705004
  | .roceRateIncrease _ => 0x8008000806000000
  | .srNakRepeat _ => 0xd008020c00100004
  | .missHoldTimeout => 0x9008100c00104004
  | .contextFetchDone _ => 0x580812b406705004
  | .contextWritebackDone _ _ => 0x580812b406705004
  | .createQp _ => 0x1808003406705004
  | .modifyQp _ => 0x5808023406705004
  | .queryQp _ => 0x1808003400705004
  | .destroyQp _ => 0x1808103406705004
  | .registerRegion _ => 0x1808003400701004
  | .deregisterRegion _ => 0x1808003400701004
  | .postSend _ => 0x5808023406705004
  | .postReceive _ => 0x1800003400701004
  | .heartbeatSend => 0xd008020c06100004
  | .heartbeatReceive _ => 0x8040406104404
  | .twinSilent => 0xd002020c00104404
  | .twinSeekExpire => 0x8000000c00104004
  | .shaperRefill => 0xd800123c00709014
  | .coreFault _ _ _ _ _ => 0x2084607fffff
  | .coreWatchdogExpire _ _ _ _ _ => 0x8000208c607fffff
  | .coreRestart _ _ _ => 0x1000008400390005
  | .coreRetire _ _ _ => 0x1000208400390005
  | .coreRestore _ _ => 0x400110004
  | .coreSelfTestDone _ _ _ => 0x400110004
  | .clusterReload _ _ => 0x10002004607fffff
  | .clusterReloadDone _ => 0x8400190004
  | .channelReserve _ _ => 0x7000200400310004
  | .channelWordWrite _ _ _ _ => 0x1000200400310004
  | .channelPop _ => 0x200000010000
  | .debugHalt _ => 0x200400110004
  | .debugResume _ => 0x200400110004
  | .channelHoldTimeout _ => 0x8000200c00110004
  | .coreDeadlock _ _ _ _ _ => 0x8000208c607fffff
  | .fwTxDoorbell _ _ => 0x1000308400118004
  | .dmaStart _ _ _ => 0x1060019400360005
  | .dmaPause _ => 0x1060019400360004
  | .dmaResume _ => 0x1060019400360004
  | .dmaAbort _ => 0x20001400120004
  | .dmaReadData _ _ => 0x5060019400360004
  | .dmaWriteResponse _ _ => 0x1060019400360004
  | .memRefreshDue _ _ _ _ _ _ => 0xd040000c00140004
  | .memTempRead _ => 0x8040000c00140004
  | .bulkIdleSelfRefresh => 0x8000010c00140004
  | .memRetrainDue _ _ => 0x8040000c00100004
  | .memRetrainDeadline _ _ => 0x8040000c00100004
  | .memRetrainRequest _ => 0x40000000040000
  | .memTestStart => 0x40010000040000
  | .memTestAbort => 0x40010000040000
  | .memTestDone _ => 0x40010400140004
  | .memRepairRequest _ => 0x40000400140004
  | .memRepairWaitExpire => 0x8040000c00140004
  | .memRepairDone _ _ _ _ _ _ => 0x4040004400140004
  | .memScrubPass => 0x8040000800040000
  | .memRdEpochEnd => 0x8000000800040000
  | .dramEccError _ _ _ _ _ => 0x1040000400140004
  | .memEccPop _ => 0x3040000400b00004
  | .mramDataRead _ => 0x3000000400b00004
  | .mramDataWrite _ _ => 0x5000004401340005
  | .romBoot _ _ _ => 0x800020e00180016
  | .stage2Boot _ => 0x5fffffffffffffff
  | .recoveryPing _ => 0x1000000000000000
  | .recoveryProvision _ _ => 0x1a00000000080000
  | .recoveryLoad _ _ _ => 0x1400000000000000
  | .recoveryRun _ => 0x1800000400180004
  | .recoveryStatus _ => 0x1000000000000000
  | .floorProgram => 0xa00000400180004
  | .deviceReboot => 0x4fffffbfffffffff
  | .deviceRebootAlt => 0x4fffffbfffffffff
  | .updateBegin _ => 0x58000076007c1004
  | .updateWrite _ => 0x58000076007c1004
  | .updateFinish _ => 0x58000076007c1004
  | .updateAbort _ => 0x58000076007c1004
  | .flashEraseDone => 0x59000076007c1004
  | .flashProgramDone _ => 0x59000076007c1004
  | .updateCheckDone => 0x58000076007c1004
  | .loadPartition _ => 0x180000b400781004
  | .activatePartition _ => 0x180020b4607fffff
  | .partitionActivateReg _ _ => 0x18002084607fffff
  | .calSamplePeriod _ _ => 0x9000000d00100004
  | .counterWrap _ => 0x8000000d00100004
  | .histogramClear _ => 0x100000
  | .histogramSample _ _ _ => 0x1000000400100004
  | .eventRelease => 0xd800007e00701004
  | .rateLimitWindowEnd _ _ => 0x8000000c00000004
  | .journalSlotWritten => 0x9000004c00100004
  | .evtOutPulseEnd => 0x8000000a00000000
  | .eventBuffer _ => 0x2000000000
  | .journalRead _ => 0x1800003400701004
  | .raiseTest _ => 0x1800003400701004
  | .internalRamError _ _ => 0x5fffffffffffffff
  | .watchdogKick => 0x400000000
  | .watchdogHalf => 0x8000000c00100004
  | .watchdogExpire => 0xcfffffffffffffff
  | .vauxPowerOn _ => 0x5fffffbfffffffff
  | .vauxLow _ => 0x5fffffbfffffffff
  | .vinOn _ => 0x1880000600100006
  | .vinOff _ => 0x5fffffbfffffffff
  | .supplyTrip _ _ => 0x4fffffffffffffff
  | .pwrOkGlitch _ => 0x400100004
  | .resetNAssert => 0x4fffffbfffffffff
  | .resetNRelease => 0x800000200000000
  | .thermalWarning _ => 0x80000600100006
  | .thermalTrip _ => 0x4fffffffffffffff
  | .thermalTripClear _ => 0x880000200000002
  | .nvRefusalStart _ _ => 0x1080000600100006
  | .nvRefusalEnd _ _ => 0xd890007e007c3006
  | .standbyHoldAssert _ => 0x58ffb7ffe67fffff
  | .standbyDriveWaitDone => 0xd0dfa3ff807d771f
  | .wakeTimerExpire => 0xd0db83ff807d771f
  | .standbyHoldRelease => 0x50db83ff807d771f
  | .registerReadClear _ _ => 0x3040080d00ffffff
  | .memorySpaceEnable _ => 0x200000
  | .msixVectorUnmask _ _ => 0x1000000400700004
  | .pfcPauseTimeExpire _ _ => 0xc000020800000000
  | .harmonicRecordWritten _ => 0x1001008400100204
  | .heartbeatPathSilent _ => 0x8000000c00104004
  | .memRetrainDone _ => 0x40000400100004
  | .floorProgramDone => 0xa00000400180004
  | .vinOutOfRange _ => 0x1080000600100006
  | .vauxWarning _ => 0x400100006
  | .thermalWarningEnd _ => 0x80000200000002
  | .clk25mInAbsent _ => 0x200000000
  | .oscClockDetected _ => 0x8
  | .functionInitDone _ => 0x1808103406705005
  | .debugPortAttach _ => 0x4000000600100004

/-- Every command answers a next state, which follows from the state within what the command touches. -/
theorem exec_gives (c : Instr) (s : State) : Gives (touch c) s (exec c s) := by
  cases c with
  | registerWrite who addr val => exact execRegisterWrite_gives who addr val s
  | unassignedAccess who addr read => exact execUnassignedAccess_gives who addr read s
  | refusedSizeAccess read => exact execRefusedSizeAccess_gives read s
  | splitLoRead who addr => exact execSplitLoRead_gives who addr s
  | splitLoWrite who addr val => exact execSplitLoWrite_gives who addr val s
  | splitHiWrite who addr val => exact execSplitHiWrite_gives who addr val s
  | glbSyncRead => exact execGlbSyncRead_gives s
  | stageOpen who blk => exact execStageOpen_gives who blk s
  | stageAbort who blk => exact execStageAbort_gives who blk s
  | stageCommitNow who blk => exact execStageCommitNow_gives who blk s
  | stageArm who blk => exact execStageArm_gives who blk s
  | rwlWrite who addr val => exact execRwlWrite_gives who addr val s
  | stageTimeout blk => exact execStageTimeout_gives blk s
  | windowPageSelect win page => exact execWindowPageSelect_gives win page s
  | windowWordWrite who off val => exact execWindowWordWrite_gives who off val s
  | windowFirstWordRead who off => exact execWindowFirstWordRead_gives who off s
  | gtcNsRead who => exact execGtcNsRead_gives who s
  | grainAngleRead who inst => exact execGrainAngleRead_gives who inst s
  | ptpOfsSecWrite who val => exact execPtpOfsSecWrite_gives who val s
  | ptpOfsUpdate who val => exact execPtpOfsUpdate_gives who val s
  | ppsInEdge rising t => exact execPpsInEdge_gives rising t s
  | ppsPulseMissed => exact execPpsPulseMissed_gives s
  | irigFrame good t doy sod yy halfHours lsp tq => exact execIrigFrame_gives good t doy sod yy halfHours lsp tq s
  | irigFrameMissed => exact execIrigFrameMissed_gives s
  | ptpUpdateTimeout => exact execPtpUpdateTimeout_gives s
  | holdoverExpire => exact execHoldoverExpire_gives s
  | freqAdjWrite who val => exact execFreqAdjWrite_gives who val s
  | aoCounterCorrect => exact execAoCounterCorrect_gives s
  | ppsOutPulse => exact execPpsOutPulse_gives s
  | ppsOutPulseEnd => exact execPpsOutPulseEnd_gives s
  | oscClockLost ocxo => exact execOscClockLost_gives ocxo s
  | grainRefGap n => exact execGrainRefGap_gives n s
  | grainCycleWrap n => exact execGrainCycleWrap_gives n s
  | grainCoastFlag n => exact execGrainCoastFlag_gives n s
  | grainNominalRevert n => exact execGrainNominalRevert_gives n s
  | angleMarkFire mark => exact execAngleMarkFire_gives mark s
  | portLockAcquired port => exact execPortLockAcquired_gives port s
  | portAnComplete port speed => exact execPortAnComplete_gives port speed s
  | portAnTimeout port => exact execPortAnTimeout_gives port s
  | portLinkLost port cause => exact execPortLinkLost_gives port cause s
  | portResetComplete port => exact execPortResetComplete_gives port s
  | frameReceive port bytes marks startTick endTick => exact execFrameReceive_gives port bytes marks startTick endTick s
  | portTxBoundary port => exact execPortTxBoundary_gives port s
  | ddEntryExpire p mac => exact execDdEntryExpire_gives p mac s
  | supervisionTx p => exact execSupervisionTx_gives p s
  | loopCheckTimeout p => exact execLoopCheckTimeout_gives p s
  | loopCheckRetry p => exact execLoopCheckRetry_gives p s
  | bypassSettleExpire p => exact execBypassSettleExpire_gives p s
  | bypassSwitchTimeout p => exact execBypassSwitchTimeout_gives p s
  | keeperKick p => exact execKeeperKick_gives p s
  | keeperExpire p => exact execKeeperExpire_gives p s
  | pairReset p => exact execPairReset_gives p s
  | forceRelWrite p val => exact execForceRelWrite_gives p val s
  | fabricDegrade m lane => exact execFabricDegrade_gives m lane s
  | fabricRestore m success => exact execFabricRestore_gives m success s
  | fabricLaneLost m lane => exact execFabricLaneLost_gives m lane s
  | fabricDegradeDwell m => exact execFabricDegradeDwell_gives m s
  | pfcWatchdogExpire port prio => exact execPfcWatchdogExpire_gives port prio s
  | trapLimiterRefill => exact execTrapLimiterRefill_gives s
  | trapConsWrite r val => exact execTrapConsWrite_gives r val s
  | learnRequest => exact execLearnRequest_gives s
  | agerPass => exact execAgerPass_gives s
  | fwtCmdInsert t bank => exact execFwtCmdInsert_gives t bank s
  | fwtCmdDelete t bank => exact execFwtCmdDelete_gives t bank s
  | fwtCmdLookup t bank => exact execFwtCmdLookup_gives t bank s
  | fwtInject t => exact execFwtInject_gives t s
  | fwtRebuild t => exact execFwtRebuild_gives t s
  | fwtShadowCleared t => exact execFwtShadowCleared_gives t s
  | fwtSwap t => exact execFwtSwap_gives t s
  | fwtAbortRebuild t => exact execFwtAbortRebuild_gives t s
  | fwtPerrPop => exact execFwtPerrPop_gives s
  | svFrameIngest => exact execSvFrameIngest_gives s
  | svLossScan => exact execSvLossScan_gives s
  | keyPromote k => exact execKeyPromote_gives k s
  | keyAutoPromote k => exact execKeyAutoPromote_gives k s
  | sampleRecordPlace => exact execSampleRecordPlace_gives s
  | rowInstant b => exact execRowInstant_gives b s
  | rowHoldExpire b => exact execRowHoldExpire_gives b s
  | comparatorStaleScan => exact execComparatorStaleScan_gives s
  | termArmSet k val => exact execTermArmSet_gives k val s
  | termArmClear k val => exact execTermArmClear_gives k val s
  | termUnlatch k val => exact execTermUnlatch_gives k val s
  | gooseRetransmit p => exact execGooseRetransmit_gives p s
  | gooseFrameIntake => exact execGooseFrameIntake_gives s
  | gooseLossScan => exact execGooseLossScan_gives s
  | recCmdTrigger val => exact execRecCmdTrigger_gives val s
  | trigInEdge lvl t => exact execTrigInEdge_gives lvl t s
  | recBurstWrite b => exact execRecBurstWrite_gives b s
  | segmentClose b c => exact execSegmentClose_gives b c s
  | segmentExportStart => exact execSegmentExportStart_gives s
  | segmentExportStepDone => exact execSegmentExportStepDone_gives s
  | segmentExportRetry => exact execSegmentExportRetry_gives s
  | perstAssert => exact execPerstAssert_gives s
  | perstDeassert => exact execPerstDeassert_gives s
  | linkUp rate width reversed => exact execLinkUp_gives rate width reversed s
  | linkDown => exact execLinkDown_gives s
  | hotReset => exact execHotReset_gives s
  | linkRetrain => exact execLinkRetrain_gives s
  | configRequest f reg write val => exact execConfigRequest_gives f reg write val s
  | busMasterDisable f => exact execBusMasterDisable_gives f s
  | busMasterEnable f => exact execBusMasterEnable_gives f s
  | memorySpaceDisable f => exact execMemorySpaceDisable_gives f s
  | functionLevelReset f => exact execFunctionLevelReset_gives f s
  | flrDeadline f => exact execFlrDeadline_gives f s
  | d3hotEntry f => exact execD3hotEntry_gives f s
  | d0Entry f => exact execD0Entry_gives f s
  | vfEnable f => exact execVfEnable_gives f s
  | vfDisable f => exact execVfDisable_gives f s
  | completionReceive f tag lower count status bytes poisoned check => exact execCompletionReceive_gives f tag lower count status bytes poisoned check s
  | completionTimeout f tag => exact execCompletionTimeout_gives f tag s
  | tagQuarantineExpire f tag => exact execTagQuarantineExpire_gives f tag s
  | doorbellWrite f n off full val => exact execDoorbellWrite_gives f n off full val s
  | entryFetch g => exact execEntryFetch_gives g s
  | entryRefetch g => exact execEntryRefetch_gives g s
  | ownWaitExpire g => exact execOwnWaitExpire_gives g s
  | jobComplete g status detail len result => exact execJobComplete_gives g status detail len result s
  | ringInterruptTimer g => exact execRingInterruptTimer_gives g s
  | adminRingEnable f val => exact execAdminRingEnable_gives f val s
  | noOp g => exact execNoOp_gives g s
  | identify g => exact execIdentify_gives g s
  | createRing g => exact execCreateRing_gives g s
  | destroyRing g => exact execDestroyRing_gives g s
  | modifyRing g => exact execModifyRing_gives g s
  | queryRing g => exact execQueryRing_gives g s
  | ringCounters g => exact execRingCounters_gives g s
  | transmit g => exact execTransmit_gives g s
  | receiveBuffer g => exact execReceiveBuffer_gives g s
  | measurementBuffer g => exact execMeasurementBuffer_gives g s
  | nvmeControllerEnable f wrr => exact execNvmeControllerEnable_gives f wrr s
  | nvmeControllerReset f => exact execNvmeControllerReset_gives f s
  | nvmeIdentify f cid cns nsid cntid => exact execNvmeIdentify_gives f cid cns nsid cntid s
  | nvmeGetLogPage f cid lid len => exact execNvmeGetLogPage_gives f cid lid len s
  | nvmeSetFeatures f cid fid v => exact execNvmeSetFeatures_gives f cid fid v s
  | nvmeGetFeatures f cid fid v => exact execNvmeGetFeatures_gives f cid fid v s
  | nvmeCreateIoSq f cid qid size cq prio => exact execNvmeCreateIoSq_gives f cid qid size cq prio s
  | nvmeCreateIoCq f cid qid size vec ien => exact execNvmeCreateIoCq_gives f cid qid size vec ien s
  | nvmeDeleteIoSq f cid qid => exact execNvmeDeleteIoSq_gives f cid qid s
  | nvmeDeleteIoCq f cid qid => exact execNvmeDeleteIoCq_gives f cid qid s
  | nvmeAbort f cid sqid acid => exact execNvmeAbort_gives f cid sqid acid s
  | nvmeAsyncEventRequest f cid => exact execNvmeAsyncEventRequest_gives f cid s
  | namespaceAttachment f cid nsid detach ctrls => exact execNamespaceAttachment_gives f cid nsid detach ctrls s
  | deviceSelfTest f cid nsid stc => exact execDeviceSelfTest_gives f cid nsid stc s
  | nvmeRead f qid cid nsid lba n => exact execNvmeRead_gives f qid cid nsid lba n s
  | nvmeWrite f qid cid nsid lba n data => exact execNvmeWrite_gives f qid cid nsid lba n data s
  | nvmeWriteZeroes f qid cid nsid lba n => exact execNvmeWriteZeroes_gives f qid cid nsid lba n s
  | nvmeFlush f qid cid nsid => exact execNvmeFlush_gives f qid cid nsid s
  | nvmeCompare f qid cid nsid lba n data => exact execNvmeCompare_gives f qid cid nsid lba n data s
  | nvmeDatasetManagement f qid cid nsid deallocate ranges => exact execNvmeDatasetManagement_gives f qid cid nsid deallocate ranges s
  | driveCmdComplete id good bytes warn => exact execDriveCmdComplete_gives id good bytes warn s
  | driveCmdTimeout id => exact execDriveCmdTimeout_gives id s
  | nsRebuild n => exact execNsRebuild_gives n s
  | slotPresentDebounce d => exact execSlotPresentDebounce_gives d s
  | slotPowerOn d => exact execSlotPowerOn_gives d s
  | slotPowerDelayExpire d => exact execSlotPowerDelayExpire_gives d s
  | slotDriveReady d rate width => exact execSlotDriveReady_gives d rate width s
  | slotTrainTimeout d => exact execSlotTrainTimeout_gives d s
  | slotAttnPress d => exact execSlotAttnPress_gives d s
  | slotAttnTimeout d => exact execSlotAttnTimeout_gives d s
  | slotPowerOff d => exact execSlotPowerOff_gives d s
  | slotRemovalWaitExpire d => exact execSlotRemovalWaitExpire_gives d s
  | slotPowerFault d => exact execSlotPowerFault_gives d s
  | slotLost d gone => exact execSlotLost_gives d gone s
  | slotFaultClear d gone => exact execSlotFaultClear_gives d gone s
  | rocePacketReceive => exact execRocePacketReceive_gives s
  | roceAckTimer q => exact execRoceAckTimer_gives q s
  | roceAckTimeout q => exact execRoceAckTimeout_gives q s
  | roceRnrWaitExpire q => exact execRoceRnrWaitExpire_gives q s
  | roceRateIncrease q => exact execRoceRateIncrease_gives q s
  | srNakRepeat q => exact execSrNakRepeat_gives q s
  | missHoldTimeout => exact execMissHoldTimeout_gives s
  | contextFetchDone x => exact execContextFetchDone_gives x s
  | contextWritebackDone x success => exact execContextWritebackDone_gives x success s
  | createQp g => exact execCreateQp_gives g s
  | modifyQp g => exact execModifyQp_gives g s
  | queryQp g => exact execQueryQp_gives g s
  | destroyQp g => exact execDestroyQp_gives g s
  | registerRegion g => exact execRegisterRegion_gives g s
  | deregisterRegion g => exact execDeregisterRegion_gives g s
  | postSend g => exact execPostSend_gives g s
  | postReceive g => exact execPostReceive_gives g s
  | heartbeatSend => exact execHeartbeatSend_gives s
  | heartbeatReceive raw => exact execHeartbeatReceive_gives raw s
  | twinSilent => exact execTwinSilent_gives s
  | twinSeekExpire => exact execTwinSeekExpire_gives s
  | shaperRefill => exact execShaperRefill_gives s
  | coreFault k c fcode t pc => exact execCoreFault_gives k c fcode t pc s
  | coreWatchdogExpire k c t pc since => exact execCoreWatchdogExpire_gives k c t pc since s
  | coreRestart who k c => exact execCoreRestart_gives who k c s
  | coreRetire who k c => exact execCoreRetire_gives who k c s
  | coreRestore k c => exact execCoreRestore_gives k c s
  | coreSelfTestDone k c pass => exact execCoreSelfTestDone_gives k c pass s
  | clusterReload who k => exact execClusterReload_gives who k s
  | clusterReloadDone k => exact execClusterReloadDone_gives k s
  | channelReserve who ch => exact execChannelReserve_gives who ch s
  | channelWordWrite who ch w val => exact execChannelWordWrite_gives who ch w val s
  | channelPop ch => exact execChannelPop_gives ch s
  | debugHalt agent => exact execDebugHalt_gives agent s
  | debugResume agent => exact execDebugResume_gives agent s
  | channelHoldTimeout ch => exact execChannelHoldTimeout_gives ch s
  | coreDeadlock k c t pc since => exact execCoreDeadlock_gives k c t pc since s
  | fwTxDoorbell k val => exact execFwTxDoorbell_gives k val s
  | dmaStart who ch pause => exact execDmaStart_gives who ch pause s
  | dmaPause ch => exact execDmaPause_gives ch s
  | dmaResume ch => exact execDmaResume_gives ch s
  | dmaAbort ch => exact execDmaAbort_gives ch s
  | dmaReadData ch ecc => exact execDmaReadData_gives ch ecc s
  | dmaWriteResponse ch good => exact execDmaWriteResponse_gives ch good s
  | memRefreshDue c ch bank idle rfm hit => exact execMemRefreshDue_gives c ch bank idle rfm hit s
  | memTempRead temps => exact execMemTempRead_gives temps s
  | bulkIdleSelfRefresh => exact execBulkIdleSelfRefresh_gives s
  | memRetrainDue c ch => exact execMemRetrainDue_gives c ch s
  | memRetrainDeadline c ch => exact execMemRetrainDeadline_gives c ch s
  | memRetrainRequest val => exact execMemRetrainRequest_gives val s
  | memTestStart => exact execMemTestStart_gives s
  | memTestAbort => exact execMemTestAbort_gives s
  | memTestDone pass => exact execMemTestDone_gives pass s
  | memRepairRequest val => exact execMemRepairRequest_gives val s
  | memRepairWaitExpire => exact execMemRepairWaitExpire_gives s
  | memRepairDone c success remapped die bank row => exact execMemRepairDone_gives c success remapped die bank row s
  | memScrubPass => exact execMemScrubPass_gives s
  | memRdEpochEnd => exact execMemRdEpochEnd_gives s
  | dramEccError c off ue req row => exact execDramEccError_gives c off ue req row s
  | memEccPop who => exact execMemEccPop_gives who s
  | mramDataRead who => exact execMramDataRead_gives who s
  | mramDataWrite who val => exact execMramDataWrite_gives who val s
  | romBoot straps mib bad => exact execRomBoot_gives straps mib bad s
  | stage2Boot bad => exact execStage2Boot_gives bad s
  | recoveryPing good => exact execRecoveryPing_gives good s
  | recoveryProvision good digest => exact execRecoveryProvision_gives good digest s
  | recoveryLoad good off data => exact execRecoveryLoad_gives good off data s
  | recoveryRun good => exact execRecoveryRun_gives good s
  | recoveryStatus good => exact execRecoveryStatus_gives good s
  | floorProgram => exact execFloorProgram_gives s
  | deviceReboot => exact execDeviceReboot_gives s
  | deviceRebootAlt => exact execDeviceRebootAlt_gives s
  | updateBegin g => exact execUpdateBegin_gives g s
  | updateWrite g => exact execUpdateWrite_gives g s
  | updateFinish g => exact execUpdateFinish_gives g s
  | updateAbort g => exact execUpdateAbort_gives g s
  | flashEraseDone => exact execFlashEraseDone_gives s
  | flashProgramDone got => exact execFlashProgramDone_gives got s
  | updateCheckDone => exact execUpdateCheckDone_gives s
  | loadPartition g => exact execLoadPartition_gives g s
  | activatePartition g => exact execActivatePartition_gives g s
  | partitionActivateReg who p => exact execPartitionActivateReg_gives who p s
  | calSamplePeriod j agent => exact execCalSamplePeriod_gives j agent s
  | counterWrap e => exact execCounterWrap_gives e s
  | histogramClear u => exact execHistogramClear_gives u s
  | histogramSample probe index v => exact execHistogramSample_gives probe index v s
  | eventRelease => exact execEventRelease_gives s
  | rateLimitWindowEnd src inst => exact execRateLimitWindowEnd_gives src inst s
  | journalSlotWritten => exact execJournalSlotWritten_gives s
  | evtOutPulseEnd => exact execEvtOutPulseEnd_gives s
  | eventBuffer g => exact execEventBuffer_gives g s
  | journalRead g => exact execJournalRead_gives g s
  | raiseTest g => exact execRaiseTest_gives g s
  | internalRamError blk what => exact execInternalRamError_gives blk what s
  | watchdogKick => exact execWatchdogKick_gives s
  | watchdogHalf => exact execWatchdogHalf_gives s
  | watchdogExpire => exact execWatchdogExpire_gives s
  | vauxPowerOn mv => exact execVauxPowerOn_gives mv s
  | vauxLow mv => exact execVauxLow_gives mv s
  | vinOn mv => exact execVinOn_gives mv s
  | vinOff mv => exact execVinOff_gives mv s
  | supplyTrip rail back => exact execSupplyTrip_gives rail back s
  | pwrOkGlitch rail => exact execPwrOkGlitch_gives rail s
  | resetNAssert => exact execResetNAssert_gives s
  | resetNRelease => exact execResetNRelease_gives s
  | thermalWarning t => exact execThermalWarning_gives t s
  | thermalTrip t => exact execThermalTrip_gives t s
  | thermalTripClear t => exact execThermalTripClear_gives t s
  | nvRefusalStart pin mv => exact execNvRefusalStart_gives pin mv s
  | nvRefusalEnd mv since => exact execNvRefusalEnd_gives mv since s
  | standbyHoldAssert soft => exact execStandbyHoldAssert_gives soft s
  | standbyDriveWaitDone => exact execStandbyDriveWaitDone_gives s
  | wakeTimerExpire => exact execWakeTimerExpire_gives s
  | standbyHoldRelease => exact execStandbyHoldRelease_gives s
  | registerReadClear who addr => exact execRegisterReadClear_gives who addr s
  | memorySpaceEnable f => exact execMemorySpaceEnable_gives f s
  | msixVectorUnmask f e => exact execMsixVectorUnmask_gives f e s
  | pfcPauseTimeExpire port prio => exact execPfcPauseTimeExpire_gives port prio s
  | harmonicRecordWritten c => exact execHarmonicRecordWritten_gives c s
  | heartbeatPathSilent raw => exact execHeartbeatPathSilent_gives raw s
  | memRetrainDone ch => exact execMemRetrainDone_gives ch s
  | floorProgramDone => exact execFloorProgramDone_gives s
  | vinOutOfRange mv => exact execVinOutOfRange_gives mv s
  | vauxWarning mv => exact execVauxWarning_gives mv s
  | thermalWarningEnd t => exact execThermalWarningEnd_gives t s
  | clk25mInAbsent present => exact execClk25mInAbsent_gives present s
  | oscClockDetected ocxo => exact execOscClockDetected_gives ocxo s
  | functionInitDone f => exact execFunctionInitDone_gives f s
  | debugPortAttach op => exact execDebugPortAttach_gives op s

/-- What a command does, from the equation of its outcome. -/
theorem exec_keep {c : Instr} {s t : State} (h : exec c s = .next t) : Keep (touch c) s t := by
  obtain ⟨u, e, k⟩ := exec_gives c s
  rw [h] at e
  cases e
  exact k

end Sys2Proof.Machine
end

