-- ==== Sys2Proof/Laws/PerInstr.lean ====
section
/-!
SUPPORT. Facts about every command as syntax, one lemma per constructor: no command of a frame group is a reset, so that a frame of a
group never has to except one.
-/
namespace Sys2Proof.Laws.Groups
set_option Elab.async false
open Sys2Proof Sys2Proof.Machine

/-- A command that restarts the device is of no frame group. -/
def Statement (c : Instr) : Prop :=
  Instr.resets c = true → Instr.accesses c = false ∧ Instr.clocks c = false ∧ Instr.sampling c = false ∧ Instr.ports c = false ∧
    Instr.frames c = false ∧ Instr.tables c = false ∧ Instr.ingest c = false ∧ Instr.trips c = false ∧
    Instr.recording c = false ∧ Instr.hosting c = false ∧ Instr.storing c = false ∧ Instr.linking c = false ∧
    Instr.spindles c = false ∧ Instr.moving c = false ∧ Instr.updating c = false ∧ Instr.counting c = false ∧
    Instr.supplying c = false

theorem registerWrite (who : Nat) (addr : Nat) (val : Word) : Statement (.registerWrite who addr val) := fun h => nomatch h
theorem unassignedAccess (who : Nat) (addr : Nat) (read : Bool) : Statement (.unassignedAccess who addr read) := fun h => nomatch h
theorem refusedSizeAccess (read : Bool) : Statement (.refusedSizeAccess read) := fun h => nomatch h
theorem splitLoRead (who : Nat) (addr : Nat) : Statement (.splitLoRead who addr) := fun h => nomatch h
theorem splitLoWrite (who : Nat) (addr : Nat) (val : Word) : Statement (.splitLoWrite who addr val) := fun h => nomatch h
theorem splitHiWrite (who : Nat) (addr : Nat) (val : Word) : Statement (.splitHiWrite who addr val) := fun h => nomatch h
theorem glbSyncRead : Statement .glbSyncRead := fun h => nomatch h
theorem stageOpen (who : Nat) (blk : Nat) : Statement (.stageOpen who blk) := fun h => nomatch h
theorem stageAbort (who : Nat) (blk : Nat) : Statement (.stageAbort who blk) := fun h => nomatch h
theorem stageCommitNow (who : Nat) (blk : Nat) : Statement (.stageCommitNow who blk) := fun h => nomatch h
theorem stageArm (who : Nat) (blk : Nat) : Statement (.stageArm who blk) := fun h => nomatch h
theorem rwlWrite (who : Nat) (addr : Nat) (val : Word) : Statement (.rwlWrite who addr val) := fun h => nomatch h
theorem stageTimeout (blk : Nat) : Statement (.stageTimeout blk) := fun h => nomatch h
theorem windowPageSelect (win : Nat) (page : Nat) : Statement (.windowPageSelect win page) := fun h => nomatch h
theorem windowWordWrite (who : Nat) (off : Nat) (val : Word) : Statement (.windowWordWrite who off val) := fun h => nomatch h
theorem windowFirstWordRead (who : Nat) (off : Nat) : Statement (.windowFirstWordRead who off) := fun h => nomatch h
theorem gtcNsRead (who : Nat) : Statement (.gtcNsRead who) := fun h => nomatch h
theorem grainAngleRead (who : Nat) (inst : Nat) : Statement (.grainAngleRead who inst) := fun h => nomatch h
theorem ptpOfsSecWrite (who : Nat) (val : Word) : Statement (.ptpOfsSecWrite who val) := fun h => nomatch h
theorem ptpOfsUpdate (who : Nat) (val : Word) : Statement (.ptpOfsUpdate who val) := fun h => nomatch h
theorem ppsInEdge (rising : Bool) (t : Nat) : Statement (.ppsInEdge rising t) := fun h => nomatch h
theorem ppsPulseMissed : Statement .ppsPulseMissed := fun h => nomatch h
theorem irigFrame (good : Bool) (t : Nat) (doy : Nat) (sod : Nat) (yy : Nat) (halfHours : Nat) (lsp : Bool) (tq : Nat) : Statement (.irigFrame good t doy sod yy halfHours lsp tq) := fun h => nomatch h
theorem irigFrameMissed : Statement .irigFrameMissed := fun h => nomatch h
theorem ptpUpdateTimeout : Statement .ptpUpdateTimeout := fun h => nomatch h
theorem holdoverExpire : Statement .holdoverExpire := fun h => nomatch h
theorem freqAdjWrite (who : Nat) (val : Word) : Statement (.freqAdjWrite who val) := fun h => nomatch h
theorem aoCounterCorrect : Statement .aoCounterCorrect := fun h => nomatch h
theorem ppsOutPulse : Statement .ppsOutPulse := fun h => nomatch h
theorem ppsOutPulseEnd : Statement .ppsOutPulseEnd := fun h => nomatch h
theorem oscClockLost (ocxo : Bool) : Statement (.oscClockLost ocxo) := fun h => nomatch h
theorem grainRefGap (n : Nat) : Statement (.grainRefGap n) := fun h => nomatch h
theorem grainCycleWrap (n : Nat) : Statement (.grainCycleWrap n) := fun h => nomatch h
theorem grainCoastFlag (n : Nat) : Statement (.grainCoastFlag n) := fun h => nomatch h
theorem grainNominalRevert (n : Nat) : Statement (.grainNominalRevert n) := fun h => nomatch h
theorem angleMarkFire (mark : Nat) : Statement (.angleMarkFire mark) := fun h => nomatch h
theorem portLockAcquired (port : Nat) : Statement (.portLockAcquired port) := fun h => nomatch h
theorem portAnComplete (port : Nat) (speed : Nat) : Statement (.portAnComplete port speed) := fun h => nomatch h
theorem portAnTimeout (port : Nat) : Statement (.portAnTimeout port) := fun h => nomatch h
theorem portLinkLost (port : Nat) (cause : Nat) : Statement (.portLinkLost port cause) := fun h => nomatch h
theorem portResetComplete (port : Nat) : Statement (.portResetComplete port) := fun h => nomatch h
theorem frameReceive (port : Nat) (bytes : List Byte) (marks : RxMarks) (startTick : Nat) (endTick : Nat) : Statement (.frameReceive port bytes marks startTick endTick) := fun h => nomatch h
theorem portTxBoundary (port : Nat) : Statement (.portTxBoundary port) := fun h => nomatch h
theorem ddEntryExpire (p : Nat) (mac : Nat) : Statement (.ddEntryExpire p mac) := fun h => nomatch h
theorem supervisionTx (p : Nat) : Statement (.supervisionTx p) := fun h => nomatch h
theorem loopCheckTimeout (p : Nat) : Statement (.loopCheckTimeout p) := fun h => nomatch h
theorem loopCheckRetry (p : Nat) : Statement (.loopCheckRetry p) := fun h => nomatch h
theorem bypassSettleExpire (p : Nat) : Statement (.bypassSettleExpire p) := fun h => nomatch h
theorem bypassSwitchTimeout (p : Nat) : Statement (.bypassSwitchTimeout p) := fun h => nomatch h
theorem keeperKick (p : Nat) : Statement (.keeperKick p) := fun h => nomatch h
theorem keeperExpire (p : Nat) : Statement (.keeperExpire p) := fun h => nomatch h
theorem pairReset (p : Nat) : Statement (.pairReset p) := fun h => nomatch h
theorem forceRelWrite (p : Nat) (val : Bool) : Statement (.forceRelWrite p val) := fun h => nomatch h
theorem fabricDegrade (m : Nat) (lane : Nat) : Statement (.fabricDegrade m lane) := fun h => nomatch h
theorem fabricRestore (m : Nat) (success : Bool) : Statement (.fabricRestore m success) := fun h => nomatch h
theorem fabricLaneLost (m : Nat) (lane : Nat) : Statement (.fabricLaneLost m lane) := fun h => nomatch h
theorem fabricDegradeDwell (m : Nat) : Statement (.fabricDegradeDwell m) := fun h => nomatch h
theorem pfcWatchdogExpire (port : Nat) (prio : Nat) : Statement (.pfcWatchdogExpire port prio) := fun h => nomatch h
theorem trapLimiterRefill : Statement .trapLimiterRefill := fun h => nomatch h
theorem trapConsWrite (r : Nat) (val : Word) : Statement (.trapConsWrite r val) := fun h => nomatch h
theorem learnRequest : Statement .learnRequest := fun h => nomatch h
theorem agerPass : Statement .agerPass := fun h => nomatch h
theorem fwtCmdInsert (t : Nat) (bank : Nat) : Statement (.fwtCmdInsert t bank) := fun h => nomatch h
theorem fwtCmdDelete (t : Nat) (bank : Nat) : Statement (.fwtCmdDelete t bank) := fun h => nomatch h
theorem fwtCmdLookup (t : Nat) (bank : Nat) : Statement (.fwtCmdLookup t bank) := fun h => nomatch h
theorem fwtInject (t : Nat) : Statement (.fwtInject t) := fun h => nomatch h
theorem fwtRebuild (t : Nat) : Statement (.fwtRebuild t) := fun h => nomatch h
theorem fwtShadowCleared (t : Nat) : Statement (.fwtShadowCleared t) := fun h => nomatch h
theorem fwtSwap (t : Nat) : Statement (.fwtSwap t) := fun h => nomatch h
theorem fwtAbortRebuild (t : Nat) : Statement (.fwtAbortRebuild t) := fun h => nomatch h
theorem fwtPerrPop : Statement .fwtPerrPop := fun h => nomatch h
theorem svFrameIngest : Statement .svFrameIngest := fun h => nomatch h
theorem svLossScan : Statement .svLossScan := fun h => nomatch h
theorem keyPromote (k : Nat) : Statement (.keyPromote k) := fun h => nomatch h
theorem keyAutoPromote (k : Nat) : Statement (.keyAutoPromote k) := fun h => nomatch h
theorem sampleRecordPlace : Statement .sampleRecordPlace := fun h => nomatch h
theorem rowInstant (b : Nat) : Statement (.rowInstant b) := fun h => nomatch h
theorem rowHoldExpire (b : Nat) : Statement (.rowHoldExpire b) := fun h => nomatch h
theorem comparatorStaleScan : Statement .comparatorStaleScan := fun h => nomatch h
theorem termArmSet (k : Nat) (val : Word) : Statement (.termArmSet k val) := fun h => nomatch h
theorem termArmClear (k : Nat) (val : Word) : Statement (.termArmClear k val) := fun h => nomatch h
theorem termUnlatch (k : Nat) (val : Word) : Statement (.termUnlatch k val) := fun h => nomatch h
theorem gooseRetransmit (p : Nat) : Statement (.gooseRetransmit p) := fun h => nomatch h
theorem gooseFrameIntake : Statement .gooseFrameIntake := fun h => nomatch h
theorem gooseLossScan : Statement .gooseLossScan := fun h => nomatch h
theorem recCmdTrigger (val : Word) : Statement (.recCmdTrigger val) := fun h => nomatch h
theorem trigInEdge (lvl : Bool) (t : Nat) : Statement (.trigInEdge lvl t) := fun h => nomatch h
theorem recBurstWrite (b : Nat) : Statement (.recBurstWrite b) := fun h => nomatch h
theorem segmentClose (b : Nat) (c : Nat) : Statement (.segmentClose b c) := fun h => nomatch h
theorem segmentExportStart : Statement .segmentExportStart := fun h => nomatch h
theorem segmentExportStepDone : Statement .segmentExportStepDone := fun h => nomatch h
theorem segmentExportRetry : Statement .segmentExportRetry := fun h => nomatch h
theorem perstAssert : Statement .perstAssert := fun h => nomatch h
theorem perstDeassert : Statement .perstDeassert := fun h => nomatch h
theorem linkUp (rate : Nat) (width : Nat) (reversed : Bool) : Statement (.linkUp rate width reversed) := fun h => nomatch h
theorem linkDown : Statement .linkDown := fun h => nomatch h
theorem hotReset : Statement .hotReset := fun h => nomatch h
theorem linkRetrain : Statement .linkRetrain := fun h => nomatch h
theorem configRequest (f : Nat) (reg : CfgReg) (write : Bool) (val : Word) : Statement (.configRequest f reg write val) := fun h => nomatch h
theorem busMasterDisable (f : Nat) : Statement (.busMasterDisable f) := fun h => nomatch h
theorem busMasterEnable (f : Nat) : Statement (.busMasterEnable f) := fun h => nomatch h
theorem memorySpaceDisable (f : Nat) : Statement (.memorySpaceDisable f) := fun h => nomatch h
theorem functionLevelReset (f : Nat) : Statement (.functionLevelReset f) := fun h => nomatch h
theorem flrDeadline (f : Nat) : Statement (.flrDeadline f) := fun h => nomatch h
theorem d3hotEntry (f : Nat) : Statement (.d3hotEntry f) := fun h => nomatch h
theorem d0Entry (f : Nat) : Statement (.d0Entry f) := fun h => nomatch h
theorem vfEnable (f : Nat) : Statement (.vfEnable f) := fun h => nomatch h
theorem vfDisable (f : Nat) : Statement (.vfDisable f) := fun h => nomatch h
theorem completionReceive (f : Nat) (tag : Nat) (lower : Nat) (count : Nat) (status : Nat) (bytes : List Byte) (poisoned : Bool) (check : TlpCheck) : Statement (.completionReceive f tag lower count status bytes poisoned check) := fun h => nomatch h
theorem completionTimeout (f : Nat) (tag : Nat) : Statement (.completionTimeout f tag) := fun h => nomatch h
theorem tagQuarantineExpire (f : Nat) (tag : Nat) : Statement (.tagQuarantineExpire f tag) := fun h => nomatch h
theorem doorbellWrite (f : Nat) (n : Nat) (off : Nat) (full : Bool) (val : Word) : Statement (.doorbellWrite f n off full val) := fun h => nomatch h
theorem entryFetch (g : Nat) : Statement (.entryFetch g) := fun h => nomatch h
theorem entryRefetch (g : Nat) : Statement (.entryRefetch g) := fun h => nomatch h
theorem ownWaitExpire (g : Nat) : Statement (.ownWaitExpire g) := fun h => nomatch h
theorem jobComplete (g : Nat) (status : Nat) (detail : Nat) (len : Nat) (result : Nat) : Statement (.jobComplete g status detail len result) := fun h => nomatch h
theorem ringInterruptTimer (g : Nat) : Statement (.ringInterruptTimer g) := fun h => nomatch h
theorem adminRingEnable (f : Nat) (val : Word) : Statement (.adminRingEnable f val) := fun h => nomatch h
theorem noOp (g : Nat) : Statement (.noOp g) := fun h => nomatch h
theorem identify (g : Nat) : Statement (.identify g) := fun h => nomatch h
theorem createRing (g : Nat) : Statement (.createRing g) := fun h => nomatch h
theorem destroyRing (g : Nat) : Statement (.destroyRing g) := fun h => nomatch h
theorem modifyRing (g : Nat) : Statement (.modifyRing g) := fun h => nomatch h
theorem queryRing (g : Nat) : Statement (.queryRing g) := fun h => nomatch h
theorem ringCounters (g : Nat) : Statement (.ringCounters g) := fun h => nomatch h
theorem transmit (g : Nat) : Statement (.transmit g) := fun h => nomatch h
theorem receiveBuffer (g : Nat) : Statement (.receiveBuffer g) := fun h => nomatch h
theorem measurementBuffer (g : Nat) : Statement (.measurementBuffer g) := fun h => nomatch h
theorem nvmeControllerEnable (f : Nat) (wrr : Bool) : Statement (.nvmeControllerEnable f wrr) := fun h => nomatch h
theorem nvmeControllerReset (f : Nat) : Statement (.nvmeControllerReset f) := fun h => nomatch h
theorem nvmeIdentify (f : Nat) (cid : Nat) (cns : Nat) (nsid : Nat) (cntid : Nat) : Statement (.nvmeIdentify f cid cns nsid cntid) := fun h => nomatch h
theorem nvmeGetLogPage (f : Nat) (cid : Nat) (lid : Nat) (len : Nat) : Statement (.nvmeGetLogPage f cid lid len) := fun h => nomatch h
theorem nvmeSetFeatures (f : Nat) (cid : Nat) (fid : Nat) (v : Nat) : Statement (.nvmeSetFeatures f cid fid v) := fun h => nomatch h
theorem nvmeGetFeatures (f : Nat) (cid : Nat) (fid : Nat) (v : Nat) : Statement (.nvmeGetFeatures f cid fid v) := fun h => nomatch h
theorem nvmeCreateIoSq (f : Nat) (cid : Nat) (qid : Nat) (size : Nat) (cq : Nat) (prio : Nat) : Statement (.nvmeCreateIoSq f cid qid size cq prio) := fun h => nomatch h
theorem nvmeCreateIoCq (f : Nat) (cid : Nat) (qid : Nat) (size : Nat) (vec : Nat) (ien : Bool) : Statement (.nvmeCreateIoCq f cid qid size vec ien) := fun h => nomatch h
theorem nvmeDeleteIoSq (f : Nat) (cid : Nat) (qid : Nat) : Statement (.nvmeDeleteIoSq f cid qid) := fun h => nomatch h
theorem nvmeDeleteIoCq (f : Nat) (cid : Nat) (qid : Nat) : Statement (.nvmeDeleteIoCq f cid qid) := fun h => nomatch h
theorem nvmeAbort (f : Nat) (cid : Nat) (sqid : Nat) (acid : Nat) : Statement (.nvmeAbort f cid sqid acid) := fun h => nomatch h
theorem nvmeAsyncEventRequest (f : Nat) (cid : Nat) : Statement (.nvmeAsyncEventRequest f cid) := fun h => nomatch h
theorem namespaceAttachment (f : Nat) (cid : Nat) (nsid : Nat) (detach : Bool) (ctrls : List Nat) : Statement (.namespaceAttachment f cid nsid detach ctrls) := fun h => nomatch h
theorem deviceSelfTest (f : Nat) (cid : Nat) (nsid : Nat) (stc : Nat) : Statement (.deviceSelfTest f cid nsid stc) := fun h => nomatch h
theorem nvmeRead (f : Nat) (qid : Nat) (cid : Nat) (nsid : Nat) (lba : Nat) (n : Nat) : Statement (.nvmeRead f qid cid nsid lba n) := fun h => nomatch h
theorem nvmeWrite (f : Nat) (qid : Nat) (cid : Nat) (nsid : Nat) (lba : Nat) (n : Nat) (data : List Byte) : Statement (.nvmeWrite f qid cid nsid lba n data) := fun h => nomatch h
theorem nvmeWriteZeroes (f : Nat) (qid : Nat) (cid : Nat) (nsid : Nat) (lba : Nat) (n : Nat) : Statement (.nvmeWriteZeroes f qid cid nsid lba n) := fun h => nomatch h
theorem nvmeFlush (f : Nat) (qid : Nat) (cid : Nat) (nsid : Nat) : Statement (.nvmeFlush f qid cid nsid) := fun h => nomatch h
theorem nvmeCompare (f : Nat) (qid : Nat) (cid : Nat) (nsid : Nat) (lba : Nat) (n : Nat) (data : List Byte) : Statement (.nvmeCompare f qid cid nsid lba n data) := fun h => nomatch h
theorem nvmeDatasetManagement (f : Nat) (qid : Nat) (cid : Nat) (nsid : Nat) (deallocate : Bool) (ranges : List (Nat × Nat)) : Statement (.nvmeDatasetManagement f qid cid nsid deallocate ranges) := fun h => nomatch h
theorem driveCmdComplete (id : Nat) (good : Bool) (bytes : List Byte) (warn : Nat) : Statement (.driveCmdComplete id good bytes warn) := fun h => nomatch h
theorem driveCmdTimeout (id : Nat) : Statement (.driveCmdTimeout id) := fun h => nomatch h
theorem nsRebuild (n : Nat) : Statement (.nsRebuild n) := fun h => nomatch h
theorem slotPresentDebounce (d : Nat) : Statement (.slotPresentDebounce d) := fun h => nomatch h
theorem slotPowerOn (d : Nat) : Statement (.slotPowerOn d) := fun h => nomatch h
theorem slotPowerDelayExpire (d : Nat) : Statement (.slotPowerDelayExpire d) := fun h => nomatch h
theorem slotDriveReady (d : Nat) (rate : Nat) (width : Nat) : Statement (.slotDriveReady d rate width) := fun h => nomatch h
theorem slotTrainTimeout (d : Nat) : Statement (.slotTrainTimeout d) := fun h => nomatch h
theorem slotAttnPress (d : Nat) : Statement (.slotAttnPress d) := fun h => nomatch h
theorem slotAttnTimeout (d : Nat) : Statement (.slotAttnTimeout d) := fun h => nomatch h
theorem slotPowerOff (d : Nat) : Statement (.slotPowerOff d) := fun h => nomatch h
theorem slotRemovalWaitExpire (d : Nat) : Statement (.slotRemovalWaitExpire d) := fun h => nomatch h
theorem slotPowerFault (d : Nat) : Statement (.slotPowerFault d) := fun h => nomatch h
theorem slotLost (d : Nat) (gone : Bool) : Statement (.slotLost d gone) := fun h => nomatch h
theorem slotFaultClear (d : Nat) (gone : Bool) : Statement (.slotFaultClear d gone) := fun h => nomatch h
theorem rocePacketReceive : Statement .rocePacketReceive := fun h => nomatch h
theorem roceAckTimer (q : Nat) : Statement (.roceAckTimer q) := fun h => nomatch h
theorem roceAckTimeout (q : Nat) : Statement (.roceAckTimeout q) := fun h => nomatch h
theorem roceRnrWaitExpire (q : Nat) : Statement (.roceRnrWaitExpire q) := fun h => nomatch h
theorem roceRateIncrease (q : Nat) : Statement (.roceRateIncrease q) := fun h => nomatch h
theorem srNakRepeat (q : Nat) : Statement (.srNakRepeat q) := fun h => nomatch h
theorem missHoldTimeout : Statement .missHoldTimeout := fun h => nomatch h
theorem contextFetchDone (x : Nat) : Statement (.contextFetchDone x) := fun h => nomatch h
theorem contextWritebackDone (x : Nat) (success : Bool) : Statement (.contextWritebackDone x success) := fun h => nomatch h
theorem createQp (g : Nat) : Statement (.createQp g) := fun h => nomatch h
theorem modifyQp (g : Nat) : Statement (.modifyQp g) := fun h => nomatch h
theorem queryQp (g : Nat) : Statement (.queryQp g) := fun h => nomatch h
theorem destroyQp (g : Nat) : Statement (.destroyQp g) := fun h => nomatch h
theorem registerRegion (g : Nat) : Statement (.registerRegion g) := fun h => nomatch h
theorem deregisterRegion (g : Nat) : Statement (.deregisterRegion g) := fun h => nomatch h
theorem postSend (g : Nat) : Statement (.postSend g) := fun h => nomatch h
theorem postReceive (g : Nat) : Statement (.postReceive g) := fun h => nomatch h
theorem heartbeatSend : Statement .heartbeatSend := fun h => nomatch h
theorem heartbeatReceive (raw : Bool) : Statement (.heartbeatReceive raw) := fun h => nomatch h
theorem twinSilent : Statement .twinSilent := fun h => nomatch h
theorem twinSeekExpire : Statement .twinSeekExpire := fun h => nomatch h
theorem shaperRefill : Statement .shaperRefill := fun h => nomatch h
theorem coreFault (k : Nat) (c : Nat) (fcode : Nat) (t : Nat) (pc : Nat) : Statement (.coreFault k c fcode t pc) := fun h => nomatch h
theorem coreWatchdogExpire (k : Nat) (c : Nat) (t : Nat) (pc : Nat) (since : Nat) : Statement (.coreWatchdogExpire k c t pc since) := fun h => nomatch h
theorem coreRestart (who : Nat) (k : Nat) (c : Nat) : Statement (.coreRestart who k c) := fun h => nomatch h
theorem coreRetire (who : Nat) (k : Nat) (c : Nat) : Statement (.coreRetire who k c) := fun h => nomatch h
theorem coreRestore (k : Nat) (c : Nat) : Statement (.coreRestore k c) := fun h => nomatch h
theorem coreSelfTestDone (k : Nat) (c : Nat) (pass : Bool) : Statement (.coreSelfTestDone k c pass) := fun h => nomatch h
theorem clusterReload (who : Nat) (k : Nat) : Statement (.clusterReload who k) := fun h => nomatch h
theorem clusterReloadDone (k : Nat) : Statement (.clusterReloadDone k) := fun h => nomatch h
theorem channelReserve (who : Nat) (ch : Nat) : Statement (.channelReserve who ch) := fun h => nomatch h
theorem channelWordWrite (who : Nat) (ch : Nat) (w : Nat) (val : Word) : Statement (.channelWordWrite who ch w val) := fun h => nomatch h
theorem channelPop (ch : Nat) : Statement (.channelPop ch) := fun h => nomatch h
theorem debugHalt (agent : Nat) : Statement (.debugHalt agent) := fun h => nomatch h
theorem debugResume (agent : Nat) : Statement (.debugResume agent) := fun h => nomatch h
theorem channelHoldTimeout (ch : Nat) : Statement (.channelHoldTimeout ch) := fun h => nomatch h
theorem coreDeadlock (k : Nat) (c : Nat) (t : Nat) (pc : Nat) (since : Nat) : Statement (.coreDeadlock k c t pc since) := fun h => nomatch h
theorem fwTxDoorbell (k : Nat) (val : Word) : Statement (.fwTxDoorbell k val) := fun h => nomatch h
theorem dmaStart (who : Nat) (ch : Nat) (pause : Bool) : Statement (.dmaStart who ch pause) := fun h => nomatch h
theorem dmaPause (ch : Nat) : Statement (.dmaPause ch) := fun h => nomatch h
theorem dmaResume (ch : Nat) : Statement (.dmaResume ch) := fun h => nomatch h
theorem dmaAbort (ch : Nat) : Statement (.dmaAbort ch) := fun h => nomatch h
theorem dmaReadData (ch : Nat) (ecc : Bool) : Statement (.dmaReadData ch ecc) := fun h => nomatch h
theorem dmaWriteResponse (ch : Nat) (good : Bool) : Statement (.dmaWriteResponse ch good) := fun h => nomatch h
theorem memRefreshDue (c : Nat) (ch : Nat) (bank : Nat) (idle : Bool) (rfm : Nat) (hit : List Nat) : Statement (.memRefreshDue c ch bank idle rfm hit) := fun h => nomatch h
theorem memTempRead (temps : List Int) : Statement (.memTempRead temps) := fun h => nomatch h
theorem bulkIdleSelfRefresh : Statement .bulkIdleSelfRefresh := fun h => nomatch h
theorem memRetrainDue (c : Nat) (ch : Nat) : Statement (.memRetrainDue c ch) := fun h => nomatch h
theorem memRetrainDeadline (c : Nat) (ch : Nat) : Statement (.memRetrainDeadline c ch) := fun h => nomatch h
theorem memRetrainRequest (val : Word) : Statement (.memRetrainRequest val) := fun h => nomatch h
theorem memTestStart : Statement .memTestStart := fun h => nomatch h
theorem memTestAbort : Statement .memTestAbort := fun h => nomatch h
theorem memTestDone (pass : Bool) : Statement (.memTestDone pass) := fun h => nomatch h
theorem memRepairRequest (val : Word) : Statement (.memRepairRequest val) := fun h => nomatch h
theorem memRepairWaitExpire : Statement .memRepairWaitExpire := fun h => nomatch h
theorem memRepairDone (c : Nat) (success : Bool) (remapped : Bool) (die : Nat) (bank : Nat) (row : Nat) : Statement (.memRepairDone c success remapped die bank row) := fun h => nomatch h
theorem memScrubPass : Statement .memScrubPass := fun h => nomatch h
theorem memRdEpochEnd : Statement .memRdEpochEnd := fun h => nomatch h
theorem dramEccError (c : Nat) (off : Nat) (ue : Bool) (req : Nat) (row : Nat) : Statement (.dramEccError c off ue req row) := fun h => nomatch h
theorem memEccPop (who : Nat) : Statement (.memEccPop who) := fun h => nomatch h
theorem mramDataRead (who : Nat) : Statement (.mramDataRead who) := fun h => nomatch h
theorem mramDataWrite (who : Nat) (val : Word) : Statement (.mramDataWrite who val) := fun h => nomatch h
theorem romBoot (straps : Nat) (mib : Nat) (bad : Nat) : Statement (.romBoot straps mib bad) := fun h => nomatch h
theorem stage2Boot (bad : Bool) : Statement (.stage2Boot bad) := fun _ => ⟨rfl, rfl, rfl, rfl, rfl, rfl, rfl, rfl, rfl, rfl, rfl, rfl, rfl, rfl, rfl, rfl, rfl⟩
theorem recoveryPing (good : Bool) : Statement (.recoveryPing good) := fun h => nomatch h
theorem recoveryProvision (good : Bool) (digest : List Byte) : Statement (.recoveryProvision good digest) := fun h => nomatch h
theorem recoveryLoad (good : Bool) (off : Nat) (data : List Byte) : Statement (.recoveryLoad good off data) := fun h => nomatch h
theorem recoveryRun (good : Bool) : Statement (.recoveryRun good) := fun h => nomatch h
theorem recoveryStatus (good : Bool) : Statement (.recoveryStatus good) := fun h => nomatch h
theorem floorProgram : Statement .floorProgram := fun h => nomatch h
theorem deviceReboot : Statement .deviceReboot := fun _ => ⟨rfl, rfl, rfl, rfl, rfl, rfl, rfl, rfl, rfl, rfl, rfl, rfl, rfl, rfl, rfl, rfl, rfl⟩
theorem deviceRebootAlt : Statement .deviceRebootAlt := fun _ => ⟨rfl, rfl, rfl, rfl, rfl, rfl, rfl, rfl, rfl, rfl, rfl, rfl, rfl, rfl, rfl, rfl, rfl⟩
theorem updateBegin (g : Nat) : Statement (.updateBegin g) := fun h => nomatch h
theorem updateWrite (g : Nat) : Statement (.updateWrite g) := fun h => nomatch h
theorem updateFinish (g : Nat) : Statement (.updateFinish g) := fun h => nomatch h
theorem updateAbort (g : Nat) : Statement (.updateAbort g) := fun h => nomatch h
theorem flashEraseDone : Statement .flashEraseDone := fun h => nomatch h
theorem flashProgramDone (got : List Byte) : Statement (.flashProgramDone got) := fun h => nomatch h
theorem updateCheckDone : Statement .updateCheckDone := fun h => nomatch h
theorem loadPartition (g : Nat) : Statement (.loadPartition g) := fun h => nomatch h
theorem activatePartition (g : Nat) : Statement (.activatePartition g) := fun h => nomatch h
theorem partitionActivateReg (who : Nat) (p : Nat) : Statement (.partitionActivateReg who p) := fun h => nomatch h
theorem calSamplePeriod (j : Nat) (agent : Nat) : Statement (.calSamplePeriod j agent) := fun h => nomatch h
theorem counterWrap (e : Nat) : Statement (.counterWrap e) := fun h => nomatch h
theorem histogramClear (u : Nat) : Statement (.histogramClear u) := fun h => nomatch h
theorem histogramSample (probe : Nat) (index : Nat) (v : Nat) : Statement (.histogramSample probe index v) := fun h => nomatch h
theorem eventRelease : Statement .eventRelease := fun h => nomatch h
theorem rateLimitWindowEnd (src : Nat) (inst : Nat) : Statement (.rateLimitWindowEnd src inst) := fun h => nomatch h
theorem journalSlotWritten : Statement .journalSlotWritten := fun h => nomatch h
theorem evtOutPulseEnd : Statement .evtOutPulseEnd := fun h => nomatch h
theorem eventBuffer (g : Nat) : Statement (.eventBuffer g) := fun h => nomatch h
theorem journalRead (g : Nat) : Statement (.journalRead g) := fun h => nomatch h
theorem raiseTest (g : Nat) : Statement (.raiseTest g) := fun h => nomatch h
theorem internalRamError (blk : Nat) (what : RamState) : Statement (.internalRamError blk what) := fun _ => ⟨rfl, rfl, rfl, rfl, rfl, rfl, rfl, rfl, rfl, rfl, rfl, rfl, rfl, rfl, rfl, rfl, rfl⟩
theorem watchdogKick : Statement .watchdogKick := fun h => nomatch h
theorem watchdogHalf : Statement .watchdogHalf := fun h => nomatch h
theorem watchdogExpire : Statement .watchdogExpire := fun _ => ⟨rfl, rfl, rfl, rfl, rfl, rfl, rfl, rfl, rfl, rfl, rfl, rfl, rfl, rfl, rfl, rfl, rfl⟩
theorem vauxPowerOn (mv : Nat) : Statement (.vauxPowerOn mv) := fun _ => ⟨rfl, rfl, rfl, rfl, rfl, rfl, rfl, rfl, rfl, rfl, rfl, rfl, rfl, rfl, rfl, rfl, rfl⟩
theorem vauxLow (mv : Nat) : Statement (.vauxLow mv) := fun _ => ⟨rfl, rfl, rfl, rfl, rfl, rfl, rfl, rfl, rfl, rfl, rfl, rfl, rfl, rfl, rfl, rfl, rfl⟩
theorem vinOn (mv : Nat) : Statement (.vinOn mv) := fun h => nomatch h
theorem vinOff (mv : Nat) : Statement (.vinOff mv) := fun _ => ⟨rfl, rfl, rfl, rfl, rfl, rfl, rfl, rfl, rfl, rfl, rfl, rfl, rfl, rfl, rfl, rfl, rfl⟩
theorem supplyTrip (rail : Nat) (back : Bool) : Statement (.supplyTrip rail back) := fun _ => ⟨rfl, rfl, rfl, rfl, rfl, rfl, rfl, rfl, rfl, rfl, rfl, rfl, rfl, rfl, rfl, rfl, rfl⟩
theorem pwrOkGlitch (rail : Nat) : Statement (.pwrOkGlitch rail) := fun h => nomatch h
theorem resetNAssert : Statement .resetNAssert := fun _ => ⟨rfl, rfl, rfl, rfl, rfl, rfl, rfl, rfl, rfl, rfl, rfl, rfl, rfl, rfl, rfl, rfl, rfl⟩
theorem resetNRelease : Statement .resetNRelease := fun h => nomatch h
theorem thermalWarning (t : Int) : Statement (.thermalWarning t) := fun h => nomatch h
theorem thermalTrip (t : Int) : Statement (.thermalTrip t) := fun _ => ⟨rfl, rfl, rfl, rfl, rfl, rfl, rfl, rfl, rfl, rfl, rfl, rfl, rfl, rfl, rfl, rfl, rfl⟩
theorem thermalTripClear (t : Int) : Statement (.thermalTripClear t) := fun h => nomatch h
theorem nvRefusalStart (pin : Bool) (mv : Nat) : Statement (.nvRefusalStart pin mv) := fun h => nomatch h
theorem nvRefusalEnd (mv : Nat) (since : Nat) : Statement (.nvRefusalEnd mv since) := fun h => nomatch h
theorem standbyHoldAssert (soft : Bool) : Statement (.standbyHoldAssert soft) := fun h => nomatch h
theorem standbyDriveWaitDone : Statement .standbyDriveWaitDone := fun h => nomatch h
theorem wakeTimerExpire : Statement .wakeTimerExpire := fun h => nomatch h
theorem standbyHoldRelease : Statement .standbyHoldRelease := fun h => nomatch h
theorem registerReadClear (who : Nat) (addr : Nat) : Statement (.registerReadClear who addr) := fun h => nomatch h
theorem memorySpaceEnable (f : Nat) : Statement (.memorySpaceEnable f) := fun h => nomatch h
theorem msixVectorUnmask (f : Nat) (e : Nat) : Statement (.msixVectorUnmask f e) := fun h => nomatch h
theorem pfcPauseTimeExpire (port : Nat) (prio : Nat) : Statement (.pfcPauseTimeExpire port prio) := fun h => nomatch h
theorem harmonicRecordWritten (c : Nat) : Statement (.harmonicRecordWritten c) := fun h => nomatch h
theorem heartbeatPathSilent (raw : Bool) : Statement (.heartbeatPathSilent raw) := fun h => nomatch h
theorem memRetrainDone (ch : Nat) : Statement (.memRetrainDone ch) := fun h => nomatch h
theorem floorProgramDone : Statement .floorProgramDone := fun h => nomatch h
theorem vinOutOfRange (mv : Nat) : Statement (.vinOutOfRange mv) := fun h => nomatch h
theorem vauxWarning (mv : Nat) : Statement (.vauxWarning mv) := fun h => nomatch h
theorem thermalWarningEnd (t : Int) : Statement (.thermalWarningEnd t) := fun h => nomatch h
theorem clk25mInAbsent (present : Bool) : Statement (.clk25mInAbsent present) := fun h => nomatch h
theorem oscClockDetected (ocxo : Bool) : Statement (.oscClockDetected ocxo) := fun h => nomatch h
theorem functionInitDone (f : Nat) : Statement (.functionInitDone f) := fun h => nomatch h
theorem debugPortAttach (op : JtagOp) : Statement (.debugPortAttach op) := fun h => nomatch h

end Sys2Proof.Laws.Groups
end

