-- ==== Sys2Proof/Laws/Regs.lean ====
section
/-!
SUPPORT. Reading a register field after a write of the same field, of another field of the register, and of another register.
-/
namespace Sys2Proof.Machine

/-! ## Bits of a word -/

theorem put_toNat {f : Fld} (hf : f.lo + f.w ≤ 32) (w : Word) (v : Nat) :
    (f.put w v).toNat = w.toNat - bitsOf w.toNat f.lo f.w * 2 ^ f.lo + v % 2 ^ f.w * 2 ^ f.lo := by
  unfold Fld.put
  rw [BitVec.toNat_ofNat, Nat.mod_eq_of_lt]
  have h1 : w.toNat < 2 ^ 32 := w.isLt
  have hw : 2 ^ f.lo * 2 ^ f.w ≤ 2 ^ 32 := by rw [← Nat.pow_add]; exact Nat.pow_le_pow_right (by decide) hf
  unfold bitsOf
  have e1 : w.toNat = 2 ^ f.lo * (w.toNat / 2 ^ f.lo) + w.toNat % 2 ^ f.lo := (Nat.div_add_mod _ _).symm
  have e2 := (Nat.div_add_mod (w.toNat / 2 ^ f.lo) (2 ^ f.w)).symm
  have l1 : w.toNat % 2 ^ f.lo < 2 ^ f.lo := Nat.mod_lt _ (Nat.two_pow_pos _)
  have l2 : v % 2 ^ f.w < 2 ^ f.w := Nat.mod_lt _ (Nat.two_pow_pos _)
  generalize w.toNat / 2 ^ f.lo / 2 ^ f.w = q at e2 ⊢
  generalize w.toNat / 2 ^ f.lo % 2 ^ f.w = r at e2 ⊢
  generalize w.toNat / 2 ^ f.lo = d at e1 e2 ⊢
  generalize w.toNat % 2 ^ f.lo = m at e1 l1
  generalize v % 2 ^ f.w = x at l2 ⊢
  subst e2
  have hpw : ∃ k, 2 ^ 32 = 2 ^ f.lo * 2 ^ f.w * k := ⟨2 ^ (32 - f.lo - f.w), by rw [← Nat.pow_add, ← Nat.pow_add]; congr 1; omega⟩
  obtain ⟨k, hk⟩ := hpw
  rw [hk] at h1 ⊢
  generalize 2 ^ f.lo = A at *
  generalize 2 ^ f.w = B at *
  rw [e1] at h1 ⊢
  have hA : 0 < A := by omega
  have h3 : A * (B * q) < A * (B * k) := by
    calc A * (B * q) ≤ A * (B * q + r) + m := by rw [Nat.mul_add]; omega
      _ < A * B * k := h1
      _ = A * (B * k) := by rw [Nat.mul_assoc]
  have h4 : B * q < B * k := Nat.lt_of_mul_lt_mul_left h3
  have h5 : q < k := Nat.lt_of_mul_lt_mul_left h4
  have h6 : B * (q + 1) ≤ B * k := Nat.mul_le_mul_left _ h5
  have h7 : A * (B * (q + 1)) ≤ A * (B * k) := Nat.mul_le_mul_left _ h6
  have h8 : A * (x + 1) ≤ A * B := Nat.mul_le_mul_left _ l2
  have e9 : A * (B * q + r) + m - r * A = A * (B * q) + m := by rw [Nat.mul_add, Nat.mul_comm r A]; omega
  rw [e9, Nat.mul_comm x A, Nat.mul_assoc]
  have e10 : A * (B * (q + 1)) = A * (B * q) + A * B := by rw [Nat.mul_add, Nat.mul_one, Nat.mul_add]
  have e11 : A * (x + 1) = A * x + A := by rw [Nat.mul_add, Nat.mul_one]
  omega

theorem bitsOf_put_same {f : Fld} (hf : f.lo + f.w ≤ 32) (w : Word) (v : Nat) : bitsOf (f.put w v).toNat f.lo f.w = v % 2 ^ f.w := by
  rw [put_toNat hf]
  unfold bitsOf
  have e1 : w.toNat = 2 ^ f.lo * (w.toNat / 2 ^ f.lo) + w.toNat % 2 ^ f.lo := (Nat.div_add_mod _ _).symm
  have e2 := (Nat.div_add_mod (w.toNat / 2 ^ f.lo) (2 ^ f.w)).symm
  have l1 : w.toNat % 2 ^ f.lo < 2 ^ f.lo := Nat.mod_lt _ (Nat.two_pow_pos _)
  have l2 : v % 2 ^ f.w < 2 ^ f.w := Nat.mod_lt _ (Nat.two_pow_pos _)
  generalize w.toNat / 2 ^ f.lo / 2 ^ f.w = q at e2
  generalize w.toNat / 2 ^ f.lo % 2 ^ f.w = r at e2 ⊢
  generalize w.toNat / 2 ^ f.lo = d at e1 e2
  generalize w.toNat % 2 ^ f.lo = m at e1 l1
  generalize v % 2 ^ f.w = x at l2 ⊢
  subst e2
  generalize 2 ^ f.lo = A at *
  generalize 2 ^ f.w = B at *
  rw [e1]
  have e9 : A * (B * q + r) + m - r * A + x * A = m + A * (x + B * q) := by
    rw [Nat.mul_add, Nat.mul_comm r A, Nat.mul_comm x A, Nat.mul_add]; omega
  rw [e9, Nat.add_mul_div_left _ _ (by omega), Nat.div_eq_of_lt l1, Nat.zero_add, Nat.add_mul_mod_self_left, Nat.mod_eq_of_lt l2]

theorem bitsOf_put_above {f : Fld} (hf : f.lo + f.w ≤ 32) (w : Word) (v : Nat) {lo n : Nat} (h : f.lo + f.w ≤ lo) :
    bitsOf (f.put w v).toNat lo n = bitsOf w.toNat lo n := by
  rw [put_toNat hf]
  unfold bitsOf
  congr 1
  obtain ⟨c, rfl⟩ := Nat.exists_eq_add_of_le h
  rw [Nat.pow_add, Nat.pow_add, ← Nat.div_div_eq_div_mul, ← Nat.div_div_eq_div_mul, ← Nat.div_div_eq_div_mul, ← Nat.div_div_eq_div_mul]
  congr 1
  have e1 : w.toNat = 2 ^ f.lo * (w.toNat / 2 ^ f.lo) + w.toNat % 2 ^ f.lo := (Nat.div_add_mod _ _).symm
  have e2 := (Nat.div_add_mod (w.toNat / 2 ^ f.lo) (2 ^ f.w)).symm
  have l1 : w.toNat % 2 ^ f.lo < 2 ^ f.lo := Nat.mod_lt _ (Nat.two_pow_pos _)
  have l2 : v % 2 ^ f.w < 2 ^ f.w := Nat.mod_lt _ (Nat.two_pow_pos _)
  have l3 : w.toNat / 2 ^ f.lo % 2 ^ f.w < 2 ^ f.w := Nat.mod_lt _ (Nat.two_pow_pos _)
  generalize w.toNat / 2 ^ f.lo / 2 ^ f.w = q at e2 ⊢
  generalize w.toNat / 2 ^ f.lo % 2 ^ f.w = r at e2 l3 ⊢
  generalize w.toNat / 2 ^ f.lo = d at e1 e2 ⊢
  generalize w.toNat % 2 ^ f.lo = m at e1 l1
  generalize v % 2 ^ f.w = x at l2 ⊢
  subst e2
  generalize 2 ^ f.lo = A at *
  generalize 2 ^ f.w = B at *
  rw [e1]
  have e9 : A * (B * q + r) + m - r * A + x * A = m + A * (x + B * q) := by
    rw [Nat.mul_add, Nat.mul_comm r A, Nat.mul_comm x A, Nat.mul_add]; omega
  rw [e9, Nat.add_mul_div_left _ _ (by omega), Nat.div_eq_of_lt l1, Nat.zero_add, Nat.add_mul_div_left _ _ (by omega), Nat.div_eq_of_lt l2]
  omega

theorem bitsOf_put_below {f : Fld} (hf : f.lo + f.w ≤ 32) (w : Word) (v : Nat) {lo n : Nat} (h : lo + n ≤ f.lo) :
    bitsOf (f.put w v).toNat lo n = bitsOf w.toNat lo n := by
  rw [put_toNat hf]
  unfold bitsOf
  obtain ⟨c, hc⟩ := Nat.exists_eq_add_of_le h
  have e1 : w.toNat = 2 ^ f.lo * (w.toNat / 2 ^ f.lo) + w.toNat % 2 ^ f.lo := (Nat.div_add_mod _ _).symm
  have hle : w.toNat / 2 ^ f.lo % 2 ^ f.w * 2 ^ f.lo ≤ w.toNat := by
    calc w.toNat / 2 ^ f.lo % 2 ^ f.w * 2 ^ f.lo ≤ w.toNat / 2 ^ f.lo * 2 ^ f.lo := Nat.mul_le_mul_right _ (Nat.mod_le _ _)
      _ ≤ w.toNat := Nat.div_mul_le_self _ _
  generalize w.toNat / 2 ^ f.lo % 2 ^ f.w = r at hle ⊢
  generalize v % 2 ^ f.w = x
  have hp : 2 ^ f.lo = 2 ^ lo * (2 ^ n * 2 ^ c) := by rw [hc, Nat.pow_add, Nat.pow_add, Nat.mul_assoc]
  have key : ∀ y k, (y + k * 2 ^ f.lo) / 2 ^ lo % 2 ^ n = y / 2 ^ lo % 2 ^ n := by
    intro y k
    have : k * 2 ^ f.lo = 2 ^ lo * (2 ^ n * (2 ^ c * k)) := by
      rw [hp, Nat.mul_comm k, Nat.mul_assoc, Nat.mul_assoc]
    rw [this, Nat.add_mul_div_left _ _ (Nat.two_pow_pos _), Nat.add_mul_mod_self_left]
  rw [key]
  have h2 := key (w.toNat - r * 2 ^ f.lo) r
  rw [Nat.sub_add_cancel hle] at h2
  exact h2.symm

/-! ## Registers -/

theorem reg_setReg_same {s : State} (h : s.wf = true) (a : Nat) (v : Word) : (s.setReg a v).reg a = v :=
  cellGet_cellSet_same (State.wf_regs h) a v

theorem reg_setReg_other {s : State} (h : s.wf = true) {a b : Nat} (v : Word) (hb : b ≠ a) : (s.setReg a v).reg b = s.reg b :=
  cellGet_cellSet_other (State.wf_regs h) v hb

theorem setReg_wf {s : State} (h : s.wf = true) (a : Nat) (v : Word) : (s.setReg a v).wf = true :=
  State.wf_iff.2 ⟨cellSet_wf (State.wf_regs h) a v, (State.wf_iff.1 h).2⟩

theorem wr_wf {s : State} (h : s.wf = true) (f : Fld) (v i j : Nat) : (s.wr f v i j).wf = true := by
  unfold State.wr
  split
  · exact setReg_wf h _ _
  · exact h

theorem wr64_wf {s : State} (h : s.wf = true) (f : Fld) (v i j : Nat) : (s.wr64 f v i j).wf = true := by
  unfold State.wr64
  split
  · exact setReg_wf (setReg_wf h _ _) _ _
  · exact h

/-- A field reads what was written to it. -/
theorem rd_wr_same {s : State} (h : s.wf = true) {f : Fld} {v i j : Nat} (hb : f.lo + f.w ≤ 32) (hf : f.fits i j = true) :
    (s.wr f v i j).rd f i j = v % 2 ^ f.w := by
  unfold State.wr State.rd
  rw [if_pos hf, reg_setReg_same h, bitsOf_put_same hb]

/-- A field of another register is as it was. -/
theorem rd_wr_addr {s : State} (h : s.wf = true) {f g : Fld} {v i j k l : Nat} (ha : g.addr k l ≠ f.addr i j) :
    (s.wr f v i j).rd g k l = s.rd g k l := by
  unfold State.wr State.rd
  split
  · rw [reg_setReg_other h _ ha]
  · rfl

/-- Another field of the same register is as it was. -/
theorem rd_wr_bits {s : State} (h : s.wf = true) {f g : Fld} {v i j k l : Nat} (hb : f.lo + f.w ≤ 32)
    (hd : f.lo + f.w ≤ g.lo ∨ g.lo + g.w ≤ f.lo) : (s.wr f v i j).rd g k l = s.rd g k l := by
  by_cases ha : g.addr k l = f.addr i j
  · unfold State.wr State.rd
    split
    · rw [ha, reg_setReg_same h]
      rcases hd with hd | hd
      · exact bitsOf_put_above hb _ _ hd
      · exact bitsOf_put_below hb _ _ hd
    · rfl
  · exact rd_wr_addr h ha

/-- A pair reads what was written to it. -/
theorem rd64_wr64_same {s : State} (h : s.wf = true) {f : Fld} {v i j : Nat} (hf : f.fits i j = true) :
    (s.wr64 f v i j).rd64 f i j = v % 2 ^ 64 := by
  unfold State.wr64 State.rd64
  rw [if_pos hf, reg_setReg_other (setReg_wf h _ _) _ (by omega), reg_setReg_same h, reg_setReg_same (setReg_wf h _ _)]
  simp only [BitVec.toNat_ofNat]
  omega

/-! ## Through other operations -/

theorem Keep.rd {m : Nat} {s t : State} (k : Keep m s t) (h : s.wf = true) (f : Fld) (i j : Nat)
    (hz : m.testBit (zoneNo (f.addr i j)) = false) : t.rd f i j = s.rd f i j := by
  unfold State.rd
  rw [k.regs h _ hz]

/-- An operation that leaves block `b` alone leaves its fields alone. -/
theorem Keep.rdIn {m : Nat} {s t : State} (b : Blk) (k : Keep m s t) (h : s.wf = true) {f : Fld} {i j : Nat} (hf : f.inBlk b = true)
    (hi : f.fits i j = true) (hz : m.testBit b.bit = false) : t.rd f i j = s.rd f i j := by
  have := Fld.addr_in hf hi
  exact k.rd h f i j (by rw [zoneNo_blk this.1 (by omega)]; exact hz)

/-- The same of a field in a function's own space. -/
theorem Keep.rdFn {m : Nat} {s t : State} (k : Keep m s t) (h : s.wf = true) {f : Fld} {i j : Nat} (hf : 0x700000 ≤ f.base)
    (hz : m.testBit 22 = false) : t.rd f i j = s.rd f i j :=
  k.rd h f i j (by rw [zoneNo_high (Nat.le_trans hf (by unfold Fld.addr; omega))]; exact hz)

end Sys2Proof.Machine
end

