-- ==== Sys2Proof/Laws/State.lean ====
section
/-!
SUPPORT. What each update of one part of the state leaves as it was, field by field.
-/
namespace Sys2Proof.Machine
set_option Elab.async false

/-! ## setBay -/

@[simp] theorem State.setBay_pending (s : State) (b : Nat) (x : BaySt) : (s.setBay b x).pending = s.pending := rfl
@[simp] theorem State.setBay_regs (s : State) (b : Nat) (x : BaySt) : (s.setBay b x).regs = s.regs := rfl
@[simp] theorem State.setBay_tick (s : State) (b : Nat) (x : BaySt) : (s.setBay b x).tick = s.tick := rfl
@[simp] theorem State.setBay_free (s : State) (b : Nat) (x : BaySt) : (s.setBay b x).free = s.free := rfl
@[simp] theorem State.setBay_reply (s : State) (b : Nat) (x : BaySt) : (s.setBay b x).reply = s.reply := rfl
@[simp] theorem State.setBay_sent (s : State) (b : Nat) (x : BaySt) : (s.setBay b x).sent = s.sent := rfl
@[simp] theorem State.setBay_rdHold (s : State) (b : Nat) (x : BaySt) : (s.setBay b x).rdHold = s.rdHold := rfl
@[simp] theorem State.setBay_wrHold (s : State) (b : Nat) (x : BaySt) : (s.setBay b x).wrHold = s.wrHold := rfl
@[simp] theorem State.setBay_winLive (s : State) (b : Nat) (x : BaySt) : (s.setBay b x).winLive = s.winLive := rfl
@[simp] theorem State.setBay_winShadow (s : State) (b : Nat) (x : BaySt) : (s.setBay b x).winShadow = s.winShadow := rfl
@[simp] theorem State.setBay_winWr (s : State) (b : Nat) (x : BaySt) : (s.setBay b x).winWr = s.winWr := rfl
@[simp] theorem State.setBay_winRd (s : State) (b : Nat) (x : BaySt) : (s.setBay b x).winRd = s.winRd := rfl
@[simp] theorem State.setBay_stage (s : State) (b : Nat) (x : BaySt) : (s.setBay b x).stage = s.stage := rfl
@[simp] theorem State.setBay_markOwner (s : State) (b : Nat) (x : BaySt) : (s.setBay b x).markOwner = s.markOwner := rfl
@[simp] theorem State.setBay_calFrom (s : State) (b : Nat) (x : BaySt) : (s.setBay b x).calFrom = s.calFrom := rfl
@[simp] theorem State.setBay_calFcFrom (s : State) (b : Nat) (x : BaySt) : (s.setBay b x).calFcFrom = s.calFcFrom := rfl
@[simp] theorem State.setBay_pins (s : State) (b : Nat) (x : BaySt) : (s.setBay b x).pins = s.pins := rfl
@[simp] theorem State.setBay_evt (s : State) (b : Nat) (x : BaySt) : (s.setBay b x).evt = s.evt := rfl
@[simp] theorem State.setBay_tim (s : State) (b : Nat) (x : BaySt) : (s.setBay b x).tim = s.tim := rfl
@[simp] theorem State.setBay_hif (s : State) (b : Nat) (x : BaySt) : (s.setBay b x).hif = s.hif := rfl
@[simp] theorem State.setBay_rings (s : State) (b : Nat) (x : BaySt) : (s.setBay b x).rings = s.rings := rfl
@[simp] theorem State.setBay_mram (s : State) (b : Nat) (x : BaySt) : (s.setBay b x).mram = s.mram := rfl
@[simp] theorem State.setBay_rt (s : State) (b : Nat) (x : BaySt) : (s.setBay b x).rt = s.rt := rfl
@[simp] theorem State.setBay_bulk (s : State) (b : Nat) (x : BaySt) : (s.setBay b x).bulk = s.bulk := rfl
@[simp] theorem State.setBay_fpt (s : State) (b : Nat) (x : BaySt) : (s.setBay b x).fpt = s.fpt := rfl
@[simp] theorem State.setBay_ppl (s : State) (b : Nat) (x : BaySt) : (s.setBay b x).ppl = s.ppl := rfl
@[simp] theorem State.setBay_fwt (s : State) (b : Nat) (x : BaySt) : (s.setBay b x).fwt = s.fwt := rfl
@[simp] theorem State.setBay_sch (s : State) (b : Nat) (x : BaySt) : (s.setBay b x).sch = s.sch := rfl
@[simp] theorem State.setBay_cpu (s : State) (b : Nat) (x : BaySt) : (s.setBay b x).cpu = s.cpu := rfl
@[simp] theorem State.setBay_svi (s : State) (b : Nat) (x : BaySt) : (s.setBay b x).svi = s.svi := rfl
@[simp] theorem State.setBay_phe (s : State) (b : Nat) (x : BaySt) : (s.setBay b x).phe = s.phe := rfl
@[simp] theorem State.setBay_trp (s : State) (b : Nat) (x : BaySt) : (s.setBay b x).trp = s.trp := rfl
@[simp] theorem State.setBay_rec_ (s : State) (b : Nat) (x : BaySt) : (s.setBay b x).rec_ = s.rec_ := rfl
@[simp] theorem State.setBay_rma (s : State) (b : Nat) (x : BaySt) : (s.setBay b x).rma = s.rma := rfl
@[simp] theorem State.setBay_stg (s : State) (b : Nat) (x : BaySt) : (s.setBay b x).stg = s.stg := rfl
@[simp] theorem State.setBay_dma (s : State) (b : Nat) (x : BaySt) : (s.setBay b x).dma = s.dma := rfl
@[simp] theorem State.setBay_mem (s : State) (b : Nat) (x : BaySt) : (s.setBay b x).mem = s.mem := rfl
@[simp] theorem State.setBay_pwr (s : State) (b : Nat) (x : BaySt) : (s.setBay b x).pwr = s.pwr := rfl
@[simp] theorem State.setBay_boot (s : State) (b : Nat) (x : BaySt) : (s.setBay b x).boot = s.boot := rfl

/-! ## setDmaCh -/

@[simp] theorem State.setDmaCh_pending (s : State) (ch : Nat) (c : DmaCh) : (s.setDmaCh ch c).pending = s.pending := rfl
@[simp] theorem State.setDmaCh_regs (s : State) (ch : Nat) (c : DmaCh) : (s.setDmaCh ch c).regs = s.regs := rfl
@[simp] theorem State.setDmaCh_tick (s : State) (ch : Nat) (c : DmaCh) : (s.setDmaCh ch c).tick = s.tick := rfl
@[simp] theorem State.setDmaCh_free (s : State) (ch : Nat) (c : DmaCh) : (s.setDmaCh ch c).free = s.free := rfl
@[simp] theorem State.setDmaCh_reply (s : State) (ch : Nat) (c : DmaCh) : (s.setDmaCh ch c).reply = s.reply := rfl
@[simp] theorem State.setDmaCh_sent (s : State) (ch : Nat) (c : DmaCh) : (s.setDmaCh ch c).sent = s.sent := rfl
@[simp] theorem State.setDmaCh_rdHold (s : State) (ch : Nat) (c : DmaCh) : (s.setDmaCh ch c).rdHold = s.rdHold := rfl
@[simp] theorem State.setDmaCh_wrHold (s : State) (ch : Nat) (c : DmaCh) : (s.setDmaCh ch c).wrHold = s.wrHold := rfl
@[simp] theorem State.setDmaCh_winLive (s : State) (ch : Nat) (c : DmaCh) : (s.setDmaCh ch c).winLive = s.winLive := rfl
@[simp] theorem State.setDmaCh_winShadow (s : State) (ch : Nat) (c : DmaCh) : (s.setDmaCh ch c).winShadow = s.winShadow := rfl
@[simp] theorem State.setDmaCh_winWr (s : State) (ch : Nat) (c : DmaCh) : (s.setDmaCh ch c).winWr = s.winWr := rfl
@[simp] theorem State.setDmaCh_winRd (s : State) (ch : Nat) (c : DmaCh) : (s.setDmaCh ch c).winRd = s.winRd := rfl
@[simp] theorem State.setDmaCh_stage (s : State) (ch : Nat) (c : DmaCh) : (s.setDmaCh ch c).stage = s.stage := rfl
@[simp] theorem State.setDmaCh_markOwner (s : State) (ch : Nat) (c : DmaCh) : (s.setDmaCh ch c).markOwner = s.markOwner := rfl
@[simp] theorem State.setDmaCh_calFrom (s : State) (ch : Nat) (c : DmaCh) : (s.setDmaCh ch c).calFrom = s.calFrom := rfl
@[simp] theorem State.setDmaCh_calFcFrom (s : State) (ch : Nat) (c : DmaCh) : (s.setDmaCh ch c).calFcFrom = s.calFcFrom := rfl
@[simp] theorem State.setDmaCh_pins (s : State) (ch : Nat) (c : DmaCh) : (s.setDmaCh ch c).pins = s.pins := rfl
@[simp] theorem State.setDmaCh_evt (s : State) (ch : Nat) (c : DmaCh) : (s.setDmaCh ch c).evt = s.evt := rfl
@[simp] theorem State.setDmaCh_tim (s : State) (ch : Nat) (c : DmaCh) : (s.setDmaCh ch c).tim = s.tim := rfl
@[simp] theorem State.setDmaCh_hif (s : State) (ch : Nat) (c : DmaCh) : (s.setDmaCh ch c).hif = s.hif := rfl
@[simp] theorem State.setDmaCh_rings (s : State) (ch : Nat) (c : DmaCh) : (s.setDmaCh ch c).rings = s.rings := rfl
@[simp] theorem State.setDmaCh_mram (s : State) (ch : Nat) (c : DmaCh) : (s.setDmaCh ch c).mram = s.mram := rfl
@[simp] theorem State.setDmaCh_rt (s : State) (ch : Nat) (c : DmaCh) : (s.setDmaCh ch c).rt = s.rt := rfl
@[simp] theorem State.setDmaCh_bulk (s : State) (ch : Nat) (c : DmaCh) : (s.setDmaCh ch c).bulk = s.bulk := rfl
@[simp] theorem State.setDmaCh_fpt (s : State) (ch : Nat) (c : DmaCh) : (s.setDmaCh ch c).fpt = s.fpt := rfl
@[simp] theorem State.setDmaCh_ppl (s : State) (ch : Nat) (c : DmaCh) : (s.setDmaCh ch c).ppl = s.ppl := rfl
@[simp] theorem State.setDmaCh_fwt (s : State) (ch : Nat) (c : DmaCh) : (s.setDmaCh ch c).fwt = s.fwt := rfl
@[simp] theorem State.setDmaCh_sch (s : State) (ch : Nat) (c : DmaCh) : (s.setDmaCh ch c).sch = s.sch := rfl
@[simp] theorem State.setDmaCh_cpu (s : State) (ch : Nat) (c : DmaCh) : (s.setDmaCh ch c).cpu = s.cpu := rfl
@[simp] theorem State.setDmaCh_svi (s : State) (ch : Nat) (c : DmaCh) : (s.setDmaCh ch c).svi = s.svi := rfl
@[simp] theorem State.setDmaCh_aln (s : State) (ch : Nat) (c : DmaCh) : (s.setDmaCh ch c).aln = s.aln := rfl
@[simp] theorem State.setDmaCh_phe (s : State) (ch : Nat) (c : DmaCh) : (s.setDmaCh ch c).phe = s.phe := rfl
@[simp] theorem State.setDmaCh_trp (s : State) (ch : Nat) (c : DmaCh) : (s.setDmaCh ch c).trp = s.trp := rfl
@[simp] theorem State.setDmaCh_rec_ (s : State) (ch : Nat) (c : DmaCh) : (s.setDmaCh ch c).rec_ = s.rec_ := rfl
@[simp] theorem State.setDmaCh_rma (s : State) (ch : Nat) (c : DmaCh) : (s.setDmaCh ch c).rma = s.rma := rfl
@[simp] theorem State.setDmaCh_stg (s : State) (ch : Nat) (c : DmaCh) : (s.setDmaCh ch c).stg = s.stg := rfl
@[simp] theorem State.setDmaCh_mem (s : State) (ch : Nat) (c : DmaCh) : (s.setDmaCh ch c).mem = s.mem := rfl
@[simp] theorem State.setDmaCh_pwr (s : State) (ch : Nat) (c : DmaCh) : (s.setDmaCh ch c).pwr = s.pwr := rfl
@[simp] theorem State.setDmaCh_boot (s : State) (ch : Nat) (c : DmaCh) : (s.setDmaCh ch c).boot = s.boot := rfl

/-! ## setDs -/

@[simp] theorem State.setDs_pending (s : State) (d : Nat) (x : DsSt) : (s.setDs d x).pending = s.pending := rfl
@[simp] theorem State.setDs_regs (s : State) (d : Nat) (x : DsSt) : (s.setDs d x).regs = s.regs := rfl
@[simp] theorem State.setDs_tick (s : State) (d : Nat) (x : DsSt) : (s.setDs d x).tick = s.tick := rfl
@[simp] theorem State.setDs_free (s : State) (d : Nat) (x : DsSt) : (s.setDs d x).free = s.free := rfl
@[simp] theorem State.setDs_reply (s : State) (d : Nat) (x : DsSt) : (s.setDs d x).reply = s.reply := rfl
@[simp] theorem State.setDs_sent (s : State) (d : Nat) (x : DsSt) : (s.setDs d x).sent = s.sent := rfl
@[simp] theorem State.setDs_rdHold (s : State) (d : Nat) (x : DsSt) : (s.setDs d x).rdHold = s.rdHold := rfl
@[simp] theorem State.setDs_wrHold (s : State) (d : Nat) (x : DsSt) : (s.setDs d x).wrHold = s.wrHold := rfl
@[simp] theorem State.setDs_winLive (s : State) (d : Nat) (x : DsSt) : (s.setDs d x).winLive = s.winLive := rfl
@[simp] theorem State.setDs_winShadow (s : State) (d : Nat) (x : DsSt) : (s.setDs d x).winShadow = s.winShadow := rfl
@[simp] theorem State.setDs_winWr (s : State) (d : Nat) (x : DsSt) : (s.setDs d x).winWr = s.winWr := rfl
@[simp] theorem State.setDs_winRd (s : State) (d : Nat) (x : DsSt) : (s.setDs d x).winRd = s.winRd := rfl
@[simp] theorem State.setDs_stage (s : State) (d : Nat) (x : DsSt) : (s.setDs d x).stage = s.stage := rfl
@[simp] theorem State.setDs_markOwner (s : State) (d : Nat) (x : DsSt) : (s.setDs d x).markOwner = s.markOwner := rfl
@[simp] theorem State.setDs_calFrom (s : State) (d : Nat) (x : DsSt) : (s.setDs d x).calFrom = s.calFrom := rfl
@[simp] theorem State.setDs_calFcFrom (s : State) (d : Nat) (x : DsSt) : (s.setDs d x).calFcFrom = s.calFcFrom := rfl
@[simp] theorem State.setDs_pins (s : State) (d : Nat) (x : DsSt) : (s.setDs d x).pins = s.pins := rfl
@[simp] theorem State.setDs_evt (s : State) (d : Nat) (x : DsSt) : (s.setDs d x).evt = s.evt := rfl
@[simp] theorem State.setDs_tim (s : State) (d : Nat) (x : DsSt) : (s.setDs d x).tim = s.tim := rfl
@[simp] theorem State.setDs_hif (s : State) (d : Nat) (x : DsSt) : (s.setDs d x).hif = s.hif := rfl
@[simp] theorem State.setDs_rings (s : State) (d : Nat) (x : DsSt) : (s.setDs d x).rings = s.rings := rfl
@[simp] theorem State.setDs_mram (s : State) (d : Nat) (x : DsSt) : (s.setDs d x).mram = s.mram := rfl
@[simp] theorem State.setDs_rt (s : State) (d : Nat) (x : DsSt) : (s.setDs d x).rt = s.rt := rfl
@[simp] theorem State.setDs_bulk (s : State) (d : Nat) (x : DsSt) : (s.setDs d x).bulk = s.bulk := rfl
@[simp] theorem State.setDs_fpt (s : State) (d : Nat) (x : DsSt) : (s.setDs d x).fpt = s.fpt := rfl
@[simp] theorem State.setDs_ppl (s : State) (d : Nat) (x : DsSt) : (s.setDs d x).ppl = s.ppl := rfl
@[simp] theorem State.setDs_fwt (s : State) (d : Nat) (x : DsSt) : (s.setDs d x).fwt = s.fwt := rfl
@[simp] theorem State.setDs_sch (s : State) (d : Nat) (x : DsSt) : (s.setDs d x).sch = s.sch := rfl
@[simp] theorem State.setDs_cpu (s : State) (d : Nat) (x : DsSt) : (s.setDs d x).cpu = s.cpu := rfl
@[simp] theorem State.setDs_svi (s : State) (d : Nat) (x : DsSt) : (s.setDs d x).svi = s.svi := rfl
@[simp] theorem State.setDs_aln (s : State) (d : Nat) (x : DsSt) : (s.setDs d x).aln = s.aln := rfl
@[simp] theorem State.setDs_phe (s : State) (d : Nat) (x : DsSt) : (s.setDs d x).phe = s.phe := rfl
@[simp] theorem State.setDs_trp (s : State) (d : Nat) (x : DsSt) : (s.setDs d x).trp = s.trp := rfl
@[simp] theorem State.setDs_rec_ (s : State) (d : Nat) (x : DsSt) : (s.setDs d x).rec_ = s.rec_ := rfl
@[simp] theorem State.setDs_rma (s : State) (d : Nat) (x : DsSt) : (s.setDs d x).rma = s.rma := rfl
@[simp] theorem State.setDs_dma (s : State) (d : Nat) (x : DsSt) : (s.setDs d x).dma = s.dma := rfl
@[simp] theorem State.setDs_mem (s : State) (d : Nat) (x : DsSt) : (s.setDs d x).mem = s.mem := rfl
@[simp] theorem State.setDs_pwr (s : State) (d : Nat) (x : DsSt) : (s.setDs d x).pwr = s.pwr := rfl
@[simp] theorem State.setDs_boot (s : State) (d : Nat) (x : DsSt) : (s.setDs d x).boot = s.boot := rfl

/-! ## setNss -/

@[simp] theorem State.setNss_pending (s : State) (n : Nat) (x : NsSt) : (s.setNss n x).pending = s.pending := rfl
@[simp] theorem State.setNss_regs (s : State) (n : Nat) (x : NsSt) : (s.setNss n x).regs = s.regs := rfl
@[simp] theorem State.setNss_tick (s : State) (n : Nat) (x : NsSt) : (s.setNss n x).tick = s.tick := rfl
@[simp] theorem State.setNss_free (s : State) (n : Nat) (x : NsSt) : (s.setNss n x).free = s.free := rfl
@[simp] theorem State.setNss_reply (s : State) (n : Nat) (x : NsSt) : (s.setNss n x).reply = s.reply := rfl
@[simp] theorem State.setNss_sent (s : State) (n : Nat) (x : NsSt) : (s.setNss n x).sent = s.sent := rfl
@[simp] theorem State.setNss_rdHold (s : State) (n : Nat) (x : NsSt) : (s.setNss n x).rdHold = s.rdHold := rfl
@[simp] theorem State.setNss_wrHold (s : State) (n : Nat) (x : NsSt) : (s.setNss n x).wrHold = s.wrHold := rfl
@[simp] theorem State.setNss_winLive (s : State) (n : Nat) (x : NsSt) : (s.setNss n x).winLive = s.winLive := rfl
@[simp] theorem State.setNss_winShadow (s : State) (n : Nat) (x : NsSt) : (s.setNss n x).winShadow = s.winShadow := rfl
@[simp] theorem State.setNss_winWr (s : State) (n : Nat) (x : NsSt) : (s.setNss n x).winWr = s.winWr := rfl
@[simp] theorem State.setNss_winRd (s : State) (n : Nat) (x : NsSt) : (s.setNss n x).winRd = s.winRd := rfl
@[simp] theorem State.setNss_stage (s : State) (n : Nat) (x : NsSt) : (s.setNss n x).stage = s.stage := rfl
@[simp] theorem State.setNss_markOwner (s : State) (n : Nat) (x : NsSt) : (s.setNss n x).markOwner = s.markOwner := rfl
@[simp] theorem State.setNss_calFrom (s : State) (n : Nat) (x : NsSt) : (s.setNss n x).calFrom = s.calFrom := rfl
@[simp] theorem State.setNss_calFcFrom (s : State) (n : Nat) (x : NsSt) : (s.setNss n x).calFcFrom = s.calFcFrom := rfl
@[simp] theorem State.setNss_pins (s : State) (n : Nat) (x : NsSt) : (s.setNss n x).pins = s.pins := rfl
@[simp] theorem State.setNss_evt (s : State) (n : Nat) (x : NsSt) : (s.setNss n x).evt = s.evt := rfl
@[simp] theorem State.setNss_tim (s : State) (n : Nat) (x : NsSt) : (s.setNss n x).tim = s.tim := rfl
@[simp] theorem State.setNss_hif (s : State) (n : Nat) (x : NsSt) : (s.setNss n x).hif = s.hif := rfl
@[simp] theorem State.setNss_rings (s : State) (n : Nat) (x : NsSt) : (s.setNss n x).rings = s.rings := rfl
@[simp] theorem State.setNss_mram (s : State) (n : Nat) (x : NsSt) : (s.setNss n x).mram = s.mram := rfl
@[simp] theorem State.setNss_rt (s : State) (n : Nat) (x : NsSt) : (s.setNss n x).rt = s.rt := rfl
@[simp] theorem State.setNss_bulk (s : State) (n : Nat) (x : NsSt) : (s.setNss n x).bulk = s.bulk := rfl
@[simp] theorem State.setNss_fpt (s : State) (n : Nat) (x : NsSt) : (s.setNss n x).fpt = s.fpt := rfl
@[simp] theorem State.setNss_ppl (s : State) (n : Nat) (x : NsSt) : (s.setNss n x).ppl = s.ppl := rfl
@[simp] theorem State.setNss_fwt (s : State) (n : Nat) (x : NsSt) : (s.setNss n x).fwt = s.fwt := rfl
@[simp] theorem State.setNss_sch (s : State) (n : Nat) (x : NsSt) : (s.setNss n x).sch = s.sch := rfl
@[simp] theorem State.setNss_cpu (s : State) (n : Nat) (x : NsSt) : (s.setNss n x).cpu = s.cpu := rfl
@[simp] theorem State.setNss_svi (s : State) (n : Nat) (x : NsSt) : (s.setNss n x).svi = s.svi := rfl
@[simp] theorem State.setNss_aln (s : State) (n : Nat) (x : NsSt) : (s.setNss n x).aln = s.aln := rfl
@[simp] theorem State.setNss_phe (s : State) (n : Nat) (x : NsSt) : (s.setNss n x).phe = s.phe := rfl
@[simp] theorem State.setNss_trp (s : State) (n : Nat) (x : NsSt) : (s.setNss n x).trp = s.trp := rfl
@[simp] theorem State.setNss_rec_ (s : State) (n : Nat) (x : NsSt) : (s.setNss n x).rec_ = s.rec_ := rfl
@[simp] theorem State.setNss_rma (s : State) (n : Nat) (x : NsSt) : (s.setNss n x).rma = s.rma := rfl
@[simp] theorem State.setNss_dma (s : State) (n : Nat) (x : NsSt) : (s.setNss n x).dma = s.dma := rfl
@[simp] theorem State.setNss_mem (s : State) (n : Nat) (x : NsSt) : (s.setNss n x).mem = s.mem := rfl
@[simp] theorem State.setNss_pwr (s : State) (n : Nat) (x : NsSt) : (s.setNss n x).pwr = s.pwr := rfl
@[simp] theorem State.setNss_boot (s : State) (n : Nat) (x : NsSt) : (s.setNss n x).boot = s.boot := rfl

/-! ## setCtl -/

@[simp] theorem State.setCtl_pending (s : State) (f : Nat) (x : CtlSt) : (s.setCtl f x).pending = s.pending := rfl
@[simp] theorem State.setCtl_regs (s : State) (f : Nat) (x : CtlSt) : (s.setCtl f x).regs = s.regs := rfl
@[simp] theorem State.setCtl_tick (s : State) (f : Nat) (x : CtlSt) : (s.setCtl f x).tick = s.tick := rfl
@[simp] theorem State.setCtl_free (s : State) (f : Nat) (x : CtlSt) : (s.setCtl f x).free = s.free := rfl
@[simp] theorem State.setCtl_reply (s : State) (f : Nat) (x : CtlSt) : (s.setCtl f x).reply = s.reply := rfl
@[simp] theorem State.setCtl_sent (s : State) (f : Nat) (x : CtlSt) : (s.setCtl f x).sent = s.sent := rfl
@[simp] theorem State.setCtl_rdHold (s : State) (f : Nat) (x : CtlSt) : (s.setCtl f x).rdHold = s.rdHold := rfl
@[simp] theorem State.setCtl_wrHold (s : State) (f : Nat) (x : CtlSt) : (s.setCtl f x).wrHold = s.wrHold := rfl
@[simp] theorem State.setCtl_winLive (s : State) (f : Nat) (x : CtlSt) : (s.setCtl f x).winLive = s.winLive := rfl
@[simp] theorem State.setCtl_winShadow (s : State) (f : Nat) (x : CtlSt) : (s.setCtl f x).winShadow = s.winShadow := rfl
@[simp] theorem State.setCtl_winWr (s : State) (f : Nat) (x : CtlSt) : (s.setCtl f x).winWr = s.winWr := rfl
@[simp] theorem State.setCtl_winRd (s : State) (f : Nat) (x : CtlSt) : (s.setCtl f x).winRd = s.winRd := rfl
@[simp] theorem State.setCtl_stage (s : State) (f : Nat) (x : CtlSt) : (s.setCtl f x).stage = s.stage := rfl
@[simp] theorem State.setCtl_markOwner (s : State) (f : Nat) (x : CtlSt) : (s.setCtl f x).markOwner = s.markOwner := rfl
@[simp] theorem State.setCtl_calFrom (s : State) (f : Nat) (x : CtlSt) : (s.setCtl f x).calFrom = s.calFrom := rfl
@[simp] theorem State.setCtl_calFcFrom (s : State) (f : Nat) (x : CtlSt) : (s.setCtl f x).calFcFrom = s.calFcFrom := rfl
@[simp] theorem State.setCtl_pins (s : State) (f : Nat) (x : CtlSt) : (s.setCtl f x).pins = s.pins := rfl
@[simp] theorem State.setCtl_evt (s : State) (f : Nat) (x : CtlSt) : (s.setCtl f x).evt = s.evt := rfl
@[simp] theorem State.setCtl_tim (s : State) (f : Nat) (x : CtlSt) : (s.setCtl f x).tim = s.tim := rfl
@[simp] theorem State.setCtl_hif (s : State) (f : Nat) (x : CtlSt) : (s.setCtl f x).hif = s.hif := rfl
@[simp] theorem State.setCtl_rings (s : State) (f : Nat) (x : CtlSt) : (s.setCtl f x).rings = s.rings := rfl
@[simp] theorem State.setCtl_mram (s : State) (f : Nat) (x : CtlSt) : (s.setCtl f x).mram = s.mram := rfl
@[simp] theorem State.setCtl_rt (s : State) (f : Nat) (x : CtlSt) : (s.setCtl f x).rt = s.rt := rfl
@[simp] theorem State.setCtl_bulk (s : State) (f : Nat) (x : CtlSt) : (s.setCtl f x).bulk = s.bulk := rfl
@[simp] theorem State.setCtl_fpt (s : State) (f : Nat) (x : CtlSt) : (s.setCtl f x).fpt = s.fpt := rfl
@[simp] theorem State.setCtl_ppl (s : State) (f : Nat) (x : CtlSt) : (s.setCtl f x).ppl = s.ppl := rfl
@[simp] theorem State.setCtl_fwt (s : State) (f : Nat) (x : CtlSt) : (s.setCtl f x).fwt = s.fwt := rfl
@[simp] theorem State.setCtl_sch (s : State) (f : Nat) (x : CtlSt) : (s.setCtl f x).sch = s.sch := rfl
@[simp] theorem State.setCtl_cpu (s : State) (f : Nat) (x : CtlSt) : (s.setCtl f x).cpu = s.cpu := rfl
@[simp] theorem State.setCtl_svi (s : State) (f : Nat) (x : CtlSt) : (s.setCtl f x).svi = s.svi := rfl
@[simp] theorem State.setCtl_aln (s : State) (f : Nat) (x : CtlSt) : (s.setCtl f x).aln = s.aln := rfl
@[simp] theorem State.setCtl_phe (s : State) (f : Nat) (x : CtlSt) : (s.setCtl f x).phe = s.phe := rfl
@[simp] theorem State.setCtl_trp (s : State) (f : Nat) (x : CtlSt) : (s.setCtl f x).trp = s.trp := rfl
@[simp] theorem State.setCtl_rec_ (s : State) (f : Nat) (x : CtlSt) : (s.setCtl f x).rec_ = s.rec_ := rfl
@[simp] theorem State.setCtl_rma (s : State) (f : Nat) (x : CtlSt) : (s.setCtl f x).rma = s.rma := rfl
@[simp] theorem State.setCtl_dma (s : State) (f : Nat) (x : CtlSt) : (s.setCtl f x).dma = s.dma := rfl
@[simp] theorem State.setCtl_mem (s : State) (f : Nat) (x : CtlSt) : (s.setCtl f x).mem = s.mem := rfl
@[simp] theorem State.setCtl_pwr (s : State) (f : Nat) (x : CtlSt) : (s.setCtl f x).pwr = s.pwr := rfl
@[simp] theorem State.setCtl_boot (s : State) (f : Nat) (x : CtlSt) : (s.setCtl f x).boot = s.boot := rfl

/-! ## setEnt -/

@[simp] theorem State.setEnt_pending (s : State) (e : Nat) (x : JEnt) : (s.setEnt e x).pending = s.pending := rfl
@[simp] theorem State.setEnt_regs (s : State) (e : Nat) (x : JEnt) : (s.setEnt e x).regs = s.regs := rfl
@[simp] theorem State.setEnt_tick (s : State) (e : Nat) (x : JEnt) : (s.setEnt e x).tick = s.tick := rfl
@[simp] theorem State.setEnt_free (s : State) (e : Nat) (x : JEnt) : (s.setEnt e x).free = s.free := rfl
@[simp] theorem State.setEnt_reply (s : State) (e : Nat) (x : JEnt) : (s.setEnt e x).reply = s.reply := rfl
@[simp] theorem State.setEnt_sent (s : State) (e : Nat) (x : JEnt) : (s.setEnt e x).sent = s.sent := rfl
@[simp] theorem State.setEnt_rdHold (s : State) (e : Nat) (x : JEnt) : (s.setEnt e x).rdHold = s.rdHold := rfl
@[simp] theorem State.setEnt_wrHold (s : State) (e : Nat) (x : JEnt) : (s.setEnt e x).wrHold = s.wrHold := rfl
@[simp] theorem State.setEnt_winLive (s : State) (e : Nat) (x : JEnt) : (s.setEnt e x).winLive = s.winLive := rfl
@[simp] theorem State.setEnt_winShadow (s : State) (e : Nat) (x : JEnt) : (s.setEnt e x).winShadow = s.winShadow := rfl
@[simp] theorem State.setEnt_winWr (s : State) (e : Nat) (x : JEnt) : (s.setEnt e x).winWr = s.winWr := rfl
@[simp] theorem State.setEnt_winRd (s : State) (e : Nat) (x : JEnt) : (s.setEnt e x).winRd = s.winRd := rfl
@[simp] theorem State.setEnt_stage (s : State) (e : Nat) (x : JEnt) : (s.setEnt e x).stage = s.stage := rfl
@[simp] theorem State.setEnt_markOwner (s : State) (e : Nat) (x : JEnt) : (s.setEnt e x).markOwner = s.markOwner := rfl
@[simp] theorem State.setEnt_calFrom (s : State) (e : Nat) (x : JEnt) : (s.setEnt e x).calFrom = s.calFrom := rfl
@[simp] theorem State.setEnt_calFcFrom (s : State) (e : Nat) (x : JEnt) : (s.setEnt e x).calFcFrom = s.calFcFrom := rfl
@[simp] theorem State.setEnt_pins (s : State) (e : Nat) (x : JEnt) : (s.setEnt e x).pins = s.pins := rfl
@[simp] theorem State.setEnt_evt (s : State) (e : Nat) (x : JEnt) : (s.setEnt e x).evt = s.evt := rfl
@[simp] theorem State.setEnt_tim (s : State) (e : Nat) (x : JEnt) : (s.setEnt e x).tim = s.tim := rfl
@[simp] theorem State.setEnt_hif (s : State) (e : Nat) (x : JEnt) : (s.setEnt e x).hif = s.hif := rfl
@[simp] theorem State.setEnt_rings (s : State) (e : Nat) (x : JEnt) : (s.setEnt e x).rings = s.rings := rfl
@[simp] theorem State.setEnt_mram (s : State) (e : Nat) (x : JEnt) : (s.setEnt e x).mram = s.mram := rfl
@[simp] theorem State.setEnt_rt (s : State) (e : Nat) (x : JEnt) : (s.setEnt e x).rt = s.rt := rfl
@[simp] theorem State.setEnt_bulk (s : State) (e : Nat) (x : JEnt) : (s.setEnt e x).bulk = s.bulk := rfl
@[simp] theorem State.setEnt_fpt (s : State) (e : Nat) (x : JEnt) : (s.setEnt e x).fpt = s.fpt := rfl
@[simp] theorem State.setEnt_ppl (s : State) (e : Nat) (x : JEnt) : (s.setEnt e x).ppl = s.ppl := rfl
@[simp] theorem State.setEnt_fwt (s : State) (e : Nat) (x : JEnt) : (s.setEnt e x).fwt = s.fwt := rfl
@[simp] theorem State.setEnt_sch (s : State) (e : Nat) (x : JEnt) : (s.setEnt e x).sch = s.sch := rfl
@[simp] theorem State.setEnt_cpu (s : State) (e : Nat) (x : JEnt) : (s.setEnt e x).cpu = s.cpu := rfl
@[simp] theorem State.setEnt_svi (s : State) (e : Nat) (x : JEnt) : (s.setEnt e x).svi = s.svi := rfl
@[simp] theorem State.setEnt_aln (s : State) (e : Nat) (x : JEnt) : (s.setEnt e x).aln = s.aln := rfl
@[simp] theorem State.setEnt_phe (s : State) (e : Nat) (x : JEnt) : (s.setEnt e x).phe = s.phe := rfl
@[simp] theorem State.setEnt_trp (s : State) (e : Nat) (x : JEnt) : (s.setEnt e x).trp = s.trp := rfl
@[simp] theorem State.setEnt_rec_ (s : State) (e : Nat) (x : JEnt) : (s.setEnt e x).rec_ = s.rec_ := rfl
@[simp] theorem State.setEnt_rma (s : State) (e : Nat) (x : JEnt) : (s.setEnt e x).rma = s.rma := rfl
@[simp] theorem State.setEnt_dma (s : State) (e : Nat) (x : JEnt) : (s.setEnt e x).dma = s.dma := rfl
@[simp] theorem State.setEnt_mem (s : State) (e : Nat) (x : JEnt) : (s.setEnt e x).mem = s.mem := rfl
@[simp] theorem State.setEnt_pwr (s : State) (e : Nat) (x : JEnt) : (s.setEnt e x).pwr = s.pwr := rfl
@[simp] theorem State.setEnt_boot (s : State) (e : Nat) (x : JEnt) : (s.setEnt e x).boot = s.boot := rfl

/-! ## mramWrite -/

@[simp] theorem State.mramWrite_pending (s : State) (a : Nat) (b : List Byte) : (s.mramWrite a b).pending = s.pending := rfl
@[simp] theorem State.mramWrite_regs (s : State) (a : Nat) (b : List Byte) : (s.mramWrite a b).regs = s.regs := rfl
@[simp] theorem State.mramWrite_tick (s : State) (a : Nat) (b : List Byte) : (s.mramWrite a b).tick = s.tick := rfl
@[simp] theorem State.mramWrite_free (s : State) (a : Nat) (b : List Byte) : (s.mramWrite a b).free = s.free := rfl
@[simp] theorem State.mramWrite_reply (s : State) (a : Nat) (b : List Byte) : (s.mramWrite a b).reply = s.reply := rfl
@[simp] theorem State.mramWrite_sent (s : State) (a : Nat) (b : List Byte) : (s.mramWrite a b).sent = s.sent := rfl
@[simp] theorem State.mramWrite_rdHold (s : State) (a : Nat) (b : List Byte) : (s.mramWrite a b).rdHold = s.rdHold := rfl
@[simp] theorem State.mramWrite_wrHold (s : State) (a : Nat) (b : List Byte) : (s.mramWrite a b).wrHold = s.wrHold := rfl
@[simp] theorem State.mramWrite_winLive (s : State) (a : Nat) (b : List Byte) : (s.mramWrite a b).winLive = s.winLive := rfl
@[simp] theorem State.mramWrite_winShadow (s : State) (a : Nat) (b : List Byte) : (s.mramWrite a b).winShadow = s.winShadow := rfl
@[simp] theorem State.mramWrite_winWr (s : State) (a : Nat) (b : List Byte) : (s.mramWrite a b).winWr = s.winWr := rfl
@[simp] theorem State.mramWrite_winRd (s : State) (a : Nat) (b : List Byte) : (s.mramWrite a b).winRd = s.winRd := rfl
@[simp] theorem State.mramWrite_stage (s : State) (a : Nat) (b : List Byte) : (s.mramWrite a b).stage = s.stage := rfl
@[simp] theorem State.mramWrite_markOwner (s : State) (a : Nat) (b : List Byte) : (s.mramWrite a b).markOwner = s.markOwner := rfl
@[simp] theorem State.mramWrite_calFrom (s : State) (a : Nat) (b : List Byte) : (s.mramWrite a b).calFrom = s.calFrom := rfl
@[simp] theorem State.mramWrite_calFcFrom (s : State) (a : Nat) (b : List Byte) : (s.mramWrite a b).calFcFrom = s.calFcFrom := rfl
@[simp] theorem State.mramWrite_pins (s : State) (a : Nat) (b : List Byte) : (s.mramWrite a b).pins = s.pins := rfl
@[simp] theorem State.mramWrite_evt (s : State) (a : Nat) (b : List Byte) : (s.mramWrite a b).evt = s.evt := rfl
@[simp] theorem State.mramWrite_tim (s : State) (a : Nat) (b : List Byte) : (s.mramWrite a b).tim = s.tim := rfl
@[simp] theorem State.mramWrite_hif (s : State) (a : Nat) (b : List Byte) : (s.mramWrite a b).hif = s.hif := rfl
@[simp] theorem State.mramWrite_rings (s : State) (a : Nat) (b : List Byte) : (s.mramWrite a b).rings = s.rings := rfl
@[simp] theorem State.mramWrite_rt (s : State) (a : Nat) (b : List Byte) : (s.mramWrite a b).rt = s.rt := rfl
@[simp] theorem State.mramWrite_bulk (s : State) (a : Nat) (b : List Byte) : (s.mramWrite a b).bulk = s.bulk := rfl
@[simp] theorem State.mramWrite_fpt (s : State) (a : Nat) (b : List Byte) : (s.mramWrite a b).fpt = s.fpt := rfl
@[simp] theorem State.mramWrite_ppl (s : State) (a : Nat) (b : List Byte) : (s.mramWrite a b).ppl = s.ppl := rfl
@[simp] theorem State.mramWrite_fwt (s : State) (a : Nat) (b : List Byte) : (s.mramWrite a b).fwt = s.fwt := rfl
@[simp] theorem State.mramWrite_sch (s : State) (a : Nat) (b : List Byte) : (s.mramWrite a b).sch = s.sch := rfl
@[simp] theorem State.mramWrite_cpu (s : State) (a : Nat) (b : List Byte) : (s.mramWrite a b).cpu = s.cpu := rfl
@[simp] theorem State.mramWrite_svi (s : State) (a : Nat) (b : List Byte) : (s.mramWrite a b).svi = s.svi := rfl
@[simp] theorem State.mramWrite_aln (s : State) (a : Nat) (b : List Byte) : (s.mramWrite a b).aln = s.aln := rfl
@[simp] theorem State.mramWrite_phe (s : State) (a : Nat) (b : List Byte) : (s.mramWrite a b).phe = s.phe := rfl
@[simp] theorem State.mramWrite_trp (s : State) (a : Nat) (b : List Byte) : (s.mramWrite a b).trp = s.trp := rfl
@[simp] theorem State.mramWrite_rec_ (s : State) (a : Nat) (b : List Byte) : (s.mramWrite a b).rec_ = s.rec_ := rfl
@[simp] theorem State.mramWrite_rma (s : State) (a : Nat) (b : List Byte) : (s.mramWrite a b).rma = s.rma := rfl
@[simp] theorem State.mramWrite_stg (s : State) (a : Nat) (b : List Byte) : (s.mramWrite a b).stg = s.stg := rfl
@[simp] theorem State.mramWrite_dma (s : State) (a : Nat) (b : List Byte) : (s.mramWrite a b).dma = s.dma := rfl
@[simp] theorem State.mramWrite_mem (s : State) (a : Nat) (b : List Byte) : (s.mramWrite a b).mem = s.mem := rfl
@[simp] theorem State.mramWrite_pwr (s : State) (a : Nat) (b : List Byte) : (s.mramWrite a b).pwr = s.pwr := rfl
@[simp] theorem State.mramWrite_boot (s : State) (a : Nat) (b : List Byte) : (s.mramWrite a b).boot = s.boot := rfl

/-! ## setSub -/

@[simp] theorem State.setSub_pending (s : State) (i : Nat) (x : SubSt) : (s.setSub i x).pending = s.pending := rfl
@[simp] theorem State.setSub_regs (s : State) (i : Nat) (x : SubSt) : (s.setSub i x).regs = s.regs := rfl
@[simp] theorem State.setSub_tick (s : State) (i : Nat) (x : SubSt) : (s.setSub i x).tick = s.tick := rfl
@[simp] theorem State.setSub_free (s : State) (i : Nat) (x : SubSt) : (s.setSub i x).free = s.free := rfl
@[simp] theorem State.setSub_reply (s : State) (i : Nat) (x : SubSt) : (s.setSub i x).reply = s.reply := rfl
@[simp] theorem State.setSub_sent (s : State) (i : Nat) (x : SubSt) : (s.setSub i x).sent = s.sent := rfl
@[simp] theorem State.setSub_rdHold (s : State) (i : Nat) (x : SubSt) : (s.setSub i x).rdHold = s.rdHold := rfl
@[simp] theorem State.setSub_wrHold (s : State) (i : Nat) (x : SubSt) : (s.setSub i x).wrHold = s.wrHold := rfl
@[simp] theorem State.setSub_winLive (s : State) (i : Nat) (x : SubSt) : (s.setSub i x).winLive = s.winLive := rfl
@[simp] theorem State.setSub_winShadow (s : State) (i : Nat) (x : SubSt) : (s.setSub i x).winShadow = s.winShadow := rfl
@[simp] theorem State.setSub_winWr (s : State) (i : Nat) (x : SubSt) : (s.setSub i x).winWr = s.winWr := rfl
@[simp] theorem State.setSub_winRd (s : State) (i : Nat) (x : SubSt) : (s.setSub i x).winRd = s.winRd := rfl
@[simp] theorem State.setSub_stage (s : State) (i : Nat) (x : SubSt) : (s.setSub i x).stage = s.stage := rfl
@[simp] theorem State.setSub_markOwner (s : State) (i : Nat) (x : SubSt) : (s.setSub i x).markOwner = s.markOwner := rfl
@[simp] theorem State.setSub_calFrom (s : State) (i : Nat) (x : SubSt) : (s.setSub i x).calFrom = s.calFrom := rfl
@[simp] theorem State.setSub_calFcFrom (s : State) (i : Nat) (x : SubSt) : (s.setSub i x).calFcFrom = s.calFcFrom := rfl
@[simp] theorem State.setSub_pins (s : State) (i : Nat) (x : SubSt) : (s.setSub i x).pins = s.pins := rfl
@[simp] theorem State.setSub_evt (s : State) (i : Nat) (x : SubSt) : (s.setSub i x).evt = s.evt := rfl
@[simp] theorem State.setSub_tim (s : State) (i : Nat) (x : SubSt) : (s.setSub i x).tim = s.tim := rfl
@[simp] theorem State.setSub_hif (s : State) (i : Nat) (x : SubSt) : (s.setSub i x).hif = s.hif := rfl
@[simp] theorem State.setSub_rings (s : State) (i : Nat) (x : SubSt) : (s.setSub i x).rings = s.rings := rfl
@[simp] theorem State.setSub_mram (s : State) (i : Nat) (x : SubSt) : (s.setSub i x).mram = s.mram := rfl
@[simp] theorem State.setSub_rt (s : State) (i : Nat) (x : SubSt) : (s.setSub i x).rt = s.rt := rfl
@[simp] theorem State.setSub_bulk (s : State) (i : Nat) (x : SubSt) : (s.setSub i x).bulk = s.bulk := rfl
@[simp] theorem State.setSub_fpt (s : State) (i : Nat) (x : SubSt) : (s.setSub i x).fpt = s.fpt := rfl
@[simp] theorem State.setSub_ppl (s : State) (i : Nat) (x : SubSt) : (s.setSub i x).ppl = s.ppl := rfl
@[simp] theorem State.setSub_fwt (s : State) (i : Nat) (x : SubSt) : (s.setSub i x).fwt = s.fwt := rfl
@[simp] theorem State.setSub_sch (s : State) (i : Nat) (x : SubSt) : (s.setSub i x).sch = s.sch := rfl
@[simp] theorem State.setSub_cpu (s : State) (i : Nat) (x : SubSt) : (s.setSub i x).cpu = s.cpu := rfl
@[simp] theorem State.setSub_aln (s : State) (i : Nat) (x : SubSt) : (s.setSub i x).aln = s.aln := rfl
@[simp] theorem State.setSub_phe (s : State) (i : Nat) (x : SubSt) : (s.setSub i x).phe = s.phe := rfl
@[simp] theorem State.setSub_trp (s : State) (i : Nat) (x : SubSt) : (s.setSub i x).trp = s.trp := rfl
@[simp] theorem State.setSub_rec_ (s : State) (i : Nat) (x : SubSt) : (s.setSub i x).rec_ = s.rec_ := rfl
@[simp] theorem State.setSub_rma (s : State) (i : Nat) (x : SubSt) : (s.setSub i x).rma = s.rma := rfl
@[simp] theorem State.setSub_stg (s : State) (i : Nat) (x : SubSt) : (s.setSub i x).stg = s.stg := rfl
@[simp] theorem State.setSub_dma (s : State) (i : Nat) (x : SubSt) : (s.setSub i x).dma = s.dma := rfl
@[simp] theorem State.setSub_mem (s : State) (i : Nat) (x : SubSt) : (s.setSub i x).mem = s.mem := rfl
@[simp] theorem State.setSub_pwr (s : State) (i : Nat) (x : SubSt) : (s.setSub i x).pwr = s.pwr := rfl
@[simp] theorem State.setSub_boot (s : State) (i : Nat) (x : SubSt) : (s.setSub i x).boot = s.boot := rfl

/-! ## setMem -/

@[simp] theorem State.setMem_pending (s : State) (m : MemSt) : (s.setMem m).pending = s.pending := rfl
@[simp] theorem State.setMem_regs (s : State) (m : MemSt) : (s.setMem m).regs = s.regs := rfl
@[simp] theorem State.setMem_tick (s : State) (m : MemSt) : (s.setMem m).tick = s.tick := rfl
@[simp] theorem State.setMem_free (s : State) (m : MemSt) : (s.setMem m).free = s.free := rfl
@[simp] theorem State.setMem_reply (s : State) (m : MemSt) : (s.setMem m).reply = s.reply := rfl
@[simp] theorem State.setMem_sent (s : State) (m : MemSt) : (s.setMem m).sent = s.sent := rfl
@[simp] theorem State.setMem_rdHold (s : State) (m : MemSt) : (s.setMem m).rdHold = s.rdHold := rfl
@[simp] theorem State.setMem_wrHold (s : State) (m : MemSt) : (s.setMem m).wrHold = s.wrHold := rfl
@[simp] theorem State.setMem_winLive (s : State) (m : MemSt) : (s.setMem m).winLive = s.winLive := rfl
@[simp] theorem State.setMem_winShadow (s : State) (m : MemSt) : (s.setMem m).winShadow = s.winShadow := rfl
@[simp] theorem State.setMem_winWr (s : State) (m : MemSt) : (s.setMem m).winWr = s.winWr := rfl
@[simp] theorem State.setMem_winRd (s : State) (m : MemSt) : (s.setMem m).winRd = s.winRd := rfl
@[simp] theorem State.setMem_stage (s : State) (m : MemSt) : (s.setMem m).stage = s.stage := rfl
@[simp] theorem State.setMem_markOwner (s : State) (m : MemSt) : (s.setMem m).markOwner = s.markOwner := rfl
@[simp] theorem State.setMem_calFrom (s : State) (m : MemSt) : (s.setMem m).calFrom = s.calFrom := rfl
@[simp] theorem State.setMem_calFcFrom (s : State) (m : MemSt) : (s.setMem m).calFcFrom = s.calFcFrom := rfl
@[simp] theorem State.setMem_pins (s : State) (m : MemSt) : (s.setMem m).pins = s.pins := rfl
@[simp] theorem State.setMem_evt (s : State) (m : MemSt) : (s.setMem m).evt = s.evt := rfl
@[simp] theorem State.setMem_tim (s : State) (m : MemSt) : (s.setMem m).tim = s.tim := rfl
@[simp] theorem State.setMem_hif (s : State) (m : MemSt) : (s.setMem m).hif = s.hif := rfl
@[simp] theorem State.setMem_rings (s : State) (m : MemSt) : (s.setMem m).rings = s.rings := rfl
@[simp] theorem State.setMem_mram (s : State) (m : MemSt) : (s.setMem m).mram = s.mram := rfl
@[simp] theorem State.setMem_rt (s : State) (m : MemSt) : (s.setMem m).rt = s.rt := rfl
@[simp] theorem State.setMem_bulk (s : State) (m : MemSt) : (s.setMem m).bulk = s.bulk := rfl
@[simp] theorem State.setMem_fpt (s : State) (m : MemSt) : (s.setMem m).fpt = s.fpt := rfl
@[simp] theorem State.setMem_ppl (s : State) (m : MemSt) : (s.setMem m).ppl = s.ppl := rfl
@[simp] theorem State.setMem_fwt (s : State) (m : MemSt) : (s.setMem m).fwt = s.fwt := rfl
@[simp] theorem State.setMem_sch (s : State) (m : MemSt) : (s.setMem m).sch = s.sch := rfl
@[simp] theorem State.setMem_cpu (s : State) (m : MemSt) : (s.setMem m).cpu = s.cpu := rfl
@[simp] theorem State.setMem_svi (s : State) (m : MemSt) : (s.setMem m).svi = s.svi := rfl
@[simp] theorem State.setMem_aln (s : State) (m : MemSt) : (s.setMem m).aln = s.aln := rfl
@[simp] theorem State.setMem_phe (s : State) (m : MemSt) : (s.setMem m).phe = s.phe := rfl
@[simp] theorem State.setMem_trp (s : State) (m : MemSt) : (s.setMem m).trp = s.trp := rfl
@[simp] theorem State.setMem_rec_ (s : State) (m : MemSt) : (s.setMem m).rec_ = s.rec_ := rfl
@[simp] theorem State.setMem_rma (s : State) (m : MemSt) : (s.setMem m).rma = s.rma := rfl
@[simp] theorem State.setMem_stg (s : State) (m : MemSt) : (s.setMem m).stg = s.stg := rfl
@[simp] theorem State.setMem_dma (s : State) (m : MemSt) : (s.setMem m).dma = s.dma := rfl
@[simp] theorem State.setMem_pwr (s : State) (m : MemSt) : (s.setMem m).pwr = s.pwr := rfl
@[simp] theorem State.setMem_boot (s : State) (m : MemSt) : (s.setMem m).boot = s.boot := rfl

/-! ## setReg -/

@[simp] theorem State.setReg_pending (s : State) (a : Nat) (v : Word) : (s.setReg a v).pending = s.pending := rfl
@[simp] theorem State.setReg_tick (s : State) (a : Nat) (v : Word) : (s.setReg a v).tick = s.tick := rfl
@[simp] theorem State.setReg_free (s : State) (a : Nat) (v : Word) : (s.setReg a v).free = s.free := rfl
@[simp] theorem State.setReg_reply (s : State) (a : Nat) (v : Word) : (s.setReg a v).reply = s.reply := rfl
@[simp] theorem State.setReg_sent (s : State) (a : Nat) (v : Word) : (s.setReg a v).sent = s.sent := rfl
@[simp] theorem State.setReg_rdHold (s : State) (a : Nat) (v : Word) : (s.setReg a v).rdHold = s.rdHold := rfl
@[simp] theorem State.setReg_wrHold (s : State) (a : Nat) (v : Word) : (s.setReg a v).wrHold = s.wrHold := rfl
@[simp] theorem State.setReg_winLive (s : State) (a : Nat) (v : Word) : (s.setReg a v).winLive = s.winLive := rfl
@[simp] theorem State.setReg_winShadow (s : State) (a : Nat) (v : Word) : (s.setReg a v).winShadow = s.winShadow := rfl
@[simp] theorem State.setReg_winWr (s : State) (a : Nat) (v : Word) : (s.setReg a v).winWr = s.winWr := rfl
@[simp] theorem State.setReg_winRd (s : State) (a : Nat) (v : Word) : (s.setReg a v).winRd = s.winRd := rfl
@[simp] theorem State.setReg_stage (s : State) (a : Nat) (v : Word) : (s.setReg a v).stage = s.stage := rfl
@[simp] theorem State.setReg_markOwner (s : State) (a : Nat) (v : Word) : (s.setReg a v).markOwner = s.markOwner := rfl
@[simp] theorem State.setReg_calFrom (s : State) (a : Nat) (v : Word) : (s.setReg a v).calFrom = s.calFrom := rfl
@[simp] theorem State.setReg_calFcFrom (s : State) (a : Nat) (v : Word) : (s.setReg a v).calFcFrom = s.calFcFrom := rfl
@[simp] theorem State.setReg_pins (s : State) (a : Nat) (v : Word) : (s.setReg a v).pins = s.pins := rfl
@[simp] theorem State.setReg_evt (s : State) (a : Nat) (v : Word) : (s.setReg a v).evt = s.evt := rfl
@[simp] theorem State.setReg_tim (s : State) (a : Nat) (v : Word) : (s.setReg a v).tim = s.tim := rfl
@[simp] theorem State.setReg_hif (s : State) (a : Nat) (v : Word) : (s.setReg a v).hif = s.hif := rfl
@[simp] theorem State.setReg_rings (s : State) (a : Nat) (v : Word) : (s.setReg a v).rings = s.rings := rfl
@[simp] theorem State.setReg_mram (s : State) (a : Nat) (v : Word) : (s.setReg a v).mram = s.mram := rfl
@[simp] theorem State.setReg_rt (s : State) (a : Nat) (v : Word) : (s.setReg a v).rt = s.rt := rfl
@[simp] theorem State.setReg_bulk (s : State) (a : Nat) (v : Word) : (s.setReg a v).bulk = s.bulk := rfl
@[simp] theorem State.setReg_fpt (s : State) (a : Nat) (v : Word) : (s.setReg a v).fpt = s.fpt := rfl
@[simp] theorem State.setReg_ppl (s : State) (a : Nat) (v : Word) : (s.setReg a v).ppl = s.ppl := rfl
@[simp] theorem State.setReg_fwt (s : State) (a : Nat) (v : Word) : (s.setReg a v).fwt = s.fwt := rfl
@[simp] theorem State.setReg_sch (s : State) (a : Nat) (v : Word) : (s.setReg a v).sch = s.sch := rfl
@[simp] theorem State.setReg_cpu (s : State) (a : Nat) (v : Word) : (s.setReg a v).cpu = s.cpu := rfl
@[simp] theorem State.setReg_svi (s : State) (a : Nat) (v : Word) : (s.setReg a v).svi = s.svi := rfl
@[simp] theorem State.setReg_aln (s : State) (a : Nat) (v : Word) : (s.setReg a v).aln = s.aln := rfl
@[simp] theorem State.setReg_phe (s : State) (a : Nat) (v : Word) : (s.setReg a v).phe = s.phe := rfl
@[simp] theorem State.setReg_trp (s : State) (a : Nat) (v : Word) : (s.setReg a v).trp = s.trp := rfl
@[simp] theorem State.setReg_rec_ (s : State) (a : Nat) (v : Word) : (s.setReg a v).rec_ = s.rec_ := rfl
@[simp] theorem State.setReg_rma (s : State) (a : Nat) (v : Word) : (s.setReg a v).rma = s.rma := rfl
@[simp] theorem State.setReg_stg (s : State) (a : Nat) (v : Word) : (s.setReg a v).stg = s.stg := rfl
@[simp] theorem State.setReg_dma (s : State) (a : Nat) (v : Word) : (s.setReg a v).dma = s.dma := rfl
@[simp] theorem State.setReg_mem (s : State) (a : Nat) (v : Word) : (s.setReg a v).mem = s.mem := rfl
@[simp] theorem State.setReg_pwr (s : State) (a : Nat) (v : Word) : (s.setReg a v).pwr = s.pwr := rfl
@[simp] theorem State.setReg_boot (s : State) (a : Nat) (v : Word) : (s.setReg a v).boot = s.boot := rfl

/-! ## out -/

@[simp] theorem State.out_pending (s : State) (o : Out) : (s.out o).pending = s.pending := rfl
@[simp] theorem State.out_regs (s : State) (o : Out) : (s.out o).regs = s.regs := rfl
@[simp] theorem State.out_tick (s : State) (o : Out) : (s.out o).tick = s.tick := rfl
@[simp] theorem State.out_free (s : State) (o : Out) : (s.out o).free = s.free := rfl
@[simp] theorem State.out_reply (s : State) (o : Out) : (s.out o).reply = s.reply := rfl
@[simp] theorem State.out_rdHold (s : State) (o : Out) : (s.out o).rdHold = s.rdHold := rfl
@[simp] theorem State.out_wrHold (s : State) (o : Out) : (s.out o).wrHold = s.wrHold := rfl
@[simp] theorem State.out_winLive (s : State) (o : Out) : (s.out o).winLive = s.winLive := rfl
@[simp] theorem State.out_winShadow (s : State) (o : Out) : (s.out o).winShadow = s.winShadow := rfl
@[simp] theorem State.out_winWr (s : State) (o : Out) : (s.out o).winWr = s.winWr := rfl
@[simp] theorem State.out_winRd (s : State) (o : Out) : (s.out o).winRd = s.winRd := rfl
@[simp] theorem State.out_stage (s : State) (o : Out) : (s.out o).stage = s.stage := rfl
@[simp] theorem State.out_markOwner (s : State) (o : Out) : (s.out o).markOwner = s.markOwner := rfl
@[simp] theorem State.out_calFrom (s : State) (o : Out) : (s.out o).calFrom = s.calFrom := rfl
@[simp] theorem State.out_calFcFrom (s : State) (o : Out) : (s.out o).calFcFrom = s.calFcFrom := rfl
@[simp] theorem State.out_pins (s : State) (o : Out) : (s.out o).pins = s.pins := rfl
@[simp] theorem State.out_evt (s : State) (o : Out) : (s.out o).evt = s.evt := rfl
@[simp] theorem State.out_tim (s : State) (o : Out) : (s.out o).tim = s.tim := rfl
@[simp] theorem State.out_hif (s : State) (o : Out) : (s.out o).hif = s.hif := rfl
@[simp] theorem State.out_rings (s : State) (o : Out) : (s.out o).rings = s.rings := rfl
@[simp] theorem State.out_mram (s : State) (o : Out) : (s.out o).mram = s.mram := rfl
@[simp] theorem State.out_rt (s : State) (o : Out) : (s.out o).rt = s.rt := rfl
@[simp] theorem State.out_bulk (s : State) (o : Out) : (s.out o).bulk = s.bulk := rfl
@[simp] theorem State.out_fpt (s : State) (o : Out) : (s.out o).fpt = s.fpt := rfl
@[simp] theorem State.out_ppl (s : State) (o : Out) : (s.out o).ppl = s.ppl := rfl
@[simp] theorem State.out_fwt (s : State) (o : Out) : (s.out o).fwt = s.fwt := rfl
@[simp] theorem State.out_sch (s : State) (o : Out) : (s.out o).sch = s.sch := rfl
@[simp] theorem State.out_cpu (s : State) (o : Out) : (s.out o).cpu = s.cpu := rfl
@[simp] theorem State.out_svi (s : State) (o : Out) : (s.out o).svi = s.svi := rfl
@[simp] theorem State.out_aln (s : State) (o : Out) : (s.out o).aln = s.aln := rfl
@[simp] theorem State.out_phe (s : State) (o : Out) : (s.out o).phe = s.phe := rfl
@[simp] theorem State.out_trp (s : State) (o : Out) : (s.out o).trp = s.trp := rfl
@[simp] theorem State.out_rec_ (s : State) (o : Out) : (s.out o).rec_ = s.rec_ := rfl
@[simp] theorem State.out_rma (s : State) (o : Out) : (s.out o).rma = s.rma := rfl
@[simp] theorem State.out_stg (s : State) (o : Out) : (s.out o).stg = s.stg := rfl
@[simp] theorem State.out_dma (s : State) (o : Out) : (s.out o).dma = s.dma := rfl
@[simp] theorem State.out_mem (s : State) (o : Out) : (s.out o).mem = s.mem := rfl
@[simp] theorem State.out_pwr (s : State) (o : Out) : (s.out o).pwr = s.pwr := rfl
@[simp] theorem State.out_boot (s : State) (o : Out) : (s.out o).boot = s.boot := rfl

/-! ## answer -/

@[simp] theorem State.answer_pending (s : State) (v : Nat) : (s.answer v).pending = s.pending := rfl
@[simp] theorem State.answer_regs (s : State) (v : Nat) : (s.answer v).regs = s.regs := rfl
@[simp] theorem State.answer_tick (s : State) (v : Nat) : (s.answer v).tick = s.tick := rfl
@[simp] theorem State.answer_free (s : State) (v : Nat) : (s.answer v).free = s.free := rfl
@[simp] theorem State.answer_sent (s : State) (v : Nat) : (s.answer v).sent = s.sent := rfl
@[simp] theorem State.answer_rdHold (s : State) (v : Nat) : (s.answer v).rdHold = s.rdHold := rfl
@[simp] theorem State.answer_wrHold (s : State) (v : Nat) : (s.answer v).wrHold = s.wrHold := rfl
@[simp] theorem State.answer_winLive (s : State) (v : Nat) : (s.answer v).winLive = s.winLive := rfl
@[simp] theorem State.answer_winShadow (s : State) (v : Nat) : (s.answer v).winShadow = s.winShadow := rfl
@[simp] theorem State.answer_winWr (s : State) (v : Nat) : (s.answer v).winWr = s.winWr := rfl
@[simp] theorem State.answer_winRd (s : State) (v : Nat) : (s.answer v).winRd = s.winRd := rfl
@[simp] theorem State.answer_stage (s : State) (v : Nat) : (s.answer v).stage = s.stage := rfl
@[simp] theorem State.answer_markOwner (s : State) (v : Nat) : (s.answer v).markOwner = s.markOwner := rfl
@[simp] theorem State.answer_calFrom (s : State) (v : Nat) : (s.answer v).calFrom = s.calFrom := rfl
@[simp] theorem State.answer_calFcFrom (s : State) (v : Nat) : (s.answer v).calFcFrom = s.calFcFrom := rfl
@[simp] theorem State.answer_pins (s : State) (v : Nat) : (s.answer v).pins = s.pins := rfl
@[simp] theorem State.answer_evt (s : State) (v : Nat) : (s.answer v).evt = s.evt := rfl
@[simp] theorem State.answer_tim (s : State) (v : Nat) : (s.answer v).tim = s.tim := rfl
@[simp] theorem State.answer_hif (s : State) (v : Nat) : (s.answer v).hif = s.hif := rfl
@[simp] theorem State.answer_rings (s : State) (v : Nat) : (s.answer v).rings = s.rings := rfl
@[simp] theorem State.answer_mram (s : State) (v : Nat) : (s.answer v).mram = s.mram := rfl
@[simp] theorem State.answer_rt (s : State) (v : Nat) : (s.answer v).rt = s.rt := rfl
@[simp] theorem State.answer_bulk (s : State) (v : Nat) : (s.answer v).bulk = s.bulk := rfl
@[simp] theorem State.answer_fpt (s : State) (v : Nat) : (s.answer v).fpt = s.fpt := rfl
@[simp] theorem State.answer_ppl (s : State) (v : Nat) : (s.answer v).ppl = s.ppl := rfl
@[simp] theorem State.answer_fwt (s : State) (v : Nat) : (s.answer v).fwt = s.fwt := rfl
@[simp] theorem State.answer_sch (s : State) (v : Nat) : (s.answer v).sch = s.sch := rfl
@[simp] theorem State.answer_cpu (s : State) (v : Nat) : (s.answer v).cpu = s.cpu := rfl
@[simp] theorem State.answer_svi (s : State) (v : Nat) : (s.answer v).svi = s.svi := rfl
@[simp] theorem State.answer_aln (s : State) (v : Nat) : (s.answer v).aln = s.aln := rfl
@[simp] theorem State.answer_phe (s : State) (v : Nat) : (s.answer v).phe = s.phe := rfl
@[simp] theorem State.answer_trp (s : State) (v : Nat) : (s.answer v).trp = s.trp := rfl
@[simp] theorem State.answer_rec_ (s : State) (v : Nat) : (s.answer v).rec_ = s.rec_ := rfl
@[simp] theorem State.answer_rma (s : State) (v : Nat) : (s.answer v).rma = s.rma := rfl
@[simp] theorem State.answer_stg (s : State) (v : Nat) : (s.answer v).stg = s.stg := rfl
@[simp] theorem State.answer_dma (s : State) (v : Nat) : (s.answer v).dma = s.dma := rfl
@[simp] theorem State.answer_mem (s : State) (v : Nat) : (s.answer v).mem = s.mem := rfl
@[simp] theorem State.answer_pwr (s : State) (v : Nat) : (s.answer v).pwr = s.pwr := rfl
@[simp] theorem State.answer_boot (s : State) (v : Nat) : (s.answer v).boot = s.boot := rfl

/-! ## draw -/

@[simp] theorem State.draw_pending (s : State) : (s.draw).pending = s.pending := rfl
@[simp] theorem State.draw_regs (s : State) : (s.draw).regs = s.regs := rfl
@[simp] theorem State.draw_tick (s : State) : (s.draw).tick = s.tick := rfl
@[simp] theorem State.draw_reply (s : State) : (s.draw).reply = s.reply := rfl
@[simp] theorem State.draw_sent (s : State) : (s.draw).sent = s.sent := rfl
@[simp] theorem State.draw_rdHold (s : State) : (s.draw).rdHold = s.rdHold := rfl
@[simp] theorem State.draw_wrHold (s : State) : (s.draw).wrHold = s.wrHold := rfl
@[simp] theorem State.draw_winLive (s : State) : (s.draw).winLive = s.winLive := rfl
@[simp] theorem State.draw_winShadow (s : State) : (s.draw).winShadow = s.winShadow := rfl
@[simp] theorem State.draw_winWr (s : State) : (s.draw).winWr = s.winWr := rfl
@[simp] theorem State.draw_winRd (s : State) : (s.draw).winRd = s.winRd := rfl
@[simp] theorem State.draw_stage (s : State) : (s.draw).stage = s.stage := rfl
@[simp] theorem State.draw_markOwner (s : State) : (s.draw).markOwner = s.markOwner := rfl
@[simp] theorem State.draw_calFrom (s : State) : (s.draw).calFrom = s.calFrom := rfl
@[simp] theorem State.draw_calFcFrom (s : State) : (s.draw).calFcFrom = s.calFcFrom := rfl
@[simp] theorem State.draw_pins (s : State) : (s.draw).pins = s.pins := rfl
@[simp] theorem State.draw_evt (s : State) : (s.draw).evt = s.evt := rfl
@[simp] theorem State.draw_tim (s : State) : (s.draw).tim = s.tim := rfl
@[simp] theorem State.draw_hif (s : State) : (s.draw).hif = s.hif := rfl
@[simp] theorem State.draw_rings (s : State) : (s.draw).rings = s.rings := rfl
@[simp] theorem State.draw_mram (s : State) : (s.draw).mram = s.mram := rfl
@[simp] theorem State.draw_rt (s : State) : (s.draw).rt = s.rt := rfl
@[simp] theorem State.draw_bulk (s : State) : (s.draw).bulk = s.bulk := rfl
@[simp] theorem State.draw_fpt (s : State) : (s.draw).fpt = s.fpt := rfl
@[simp] theorem State.draw_ppl (s : State) : (s.draw).ppl = s.ppl := rfl
@[simp] theorem State.draw_fwt (s : State) : (s.draw).fwt = s.fwt := rfl
@[simp] theorem State.draw_sch (s : State) : (s.draw).sch = s.sch := rfl
@[simp] theorem State.draw_cpu (s : State) : (s.draw).cpu = s.cpu := rfl
@[simp] theorem State.draw_svi (s : State) : (s.draw).svi = s.svi := rfl
@[simp] theorem State.draw_aln (s : State) : (s.draw).aln = s.aln := rfl
@[simp] theorem State.draw_phe (s : State) : (s.draw).phe = s.phe := rfl
@[simp] theorem State.draw_trp (s : State) : (s.draw).trp = s.trp := rfl
@[simp] theorem State.draw_rec_ (s : State) : (s.draw).rec_ = s.rec_ := rfl
@[simp] theorem State.draw_rma (s : State) : (s.draw).rma = s.rma := rfl
@[simp] theorem State.draw_stg (s : State) : (s.draw).stg = s.stg := rfl
@[simp] theorem State.draw_dma (s : State) : (s.draw).dma = s.dma := rfl
@[simp] theorem State.draw_mem (s : State) : (s.draw).mem = s.mem := rfl
@[simp] theorem State.draw_pwr (s : State) : (s.draw).pwr = s.pwr := rfl
@[simp] theorem State.draw_boot (s : State) : (s.draw).boot = s.boot := rfl

/-! ## setPch -/

@[simp] theorem State.setPch_pending (s : State) (c : Nat) (v : PheCh) : (s.setPch c v).pending = s.pending := rfl
@[simp] theorem State.setPch_regs (s : State) (c : Nat) (v : PheCh) : (s.setPch c v).regs = s.regs := rfl
@[simp] theorem State.setPch_tick (s : State) (c : Nat) (v : PheCh) : (s.setPch c v).tick = s.tick := rfl
@[simp] theorem State.setPch_free (s : State) (c : Nat) (v : PheCh) : (s.setPch c v).free = s.free := rfl
@[simp] theorem State.setPch_reply (s : State) (c : Nat) (v : PheCh) : (s.setPch c v).reply = s.reply := rfl
@[simp] theorem State.setPch_sent (s : State) (c : Nat) (v : PheCh) : (s.setPch c v).sent = s.sent := rfl
@[simp] theorem State.setPch_rdHold (s : State) (c : Nat) (v : PheCh) : (s.setPch c v).rdHold = s.rdHold := rfl
@[simp] theorem State.setPch_wrHold (s : State) (c : Nat) (v : PheCh) : (s.setPch c v).wrHold = s.wrHold := rfl
@[simp] theorem State.setPch_winLive (s : State) (c : Nat) (v : PheCh) : (s.setPch c v).winLive = s.winLive := rfl
@[simp] theorem State.setPch_winShadow (s : State) (c : Nat) (v : PheCh) : (s.setPch c v).winShadow = s.winShadow := rfl
@[simp] theorem State.setPch_winWr (s : State) (c : Nat) (v : PheCh) : (s.setPch c v).winWr = s.winWr := rfl
@[simp] theorem State.setPch_winRd (s : State) (c : Nat) (v : PheCh) : (s.setPch c v).winRd = s.winRd := rfl
@[simp] theorem State.setPch_stage (s : State) (c : Nat) (v : PheCh) : (s.setPch c v).stage = s.stage := rfl
@[simp] theorem State.setPch_markOwner (s : State) (c : Nat) (v : PheCh) : (s.setPch c v).markOwner = s.markOwner := rfl
@[simp] theorem State.setPch_calFrom (s : State) (c : Nat) (v : PheCh) : (s.setPch c v).calFrom = s.calFrom := rfl
@[simp] theorem State.setPch_calFcFrom (s : State) (c : Nat) (v : PheCh) : (s.setPch c v).calFcFrom = s.calFcFrom := rfl
@[simp] theorem State.setPch_pins (s : State) (c : Nat) (v : PheCh) : (s.setPch c v).pins = s.pins := rfl
@[simp] theorem State.setPch_evt (s : State) (c : Nat) (v : PheCh) : (s.setPch c v).evt = s.evt := rfl
@[simp] theorem State.setPch_tim (s : State) (c : Nat) (v : PheCh) : (s.setPch c v).tim = s.tim := rfl
@[simp] theorem State.setPch_hif (s : State) (c : Nat) (v : PheCh) : (s.setPch c v).hif = s.hif := rfl
@[simp] theorem State.setPch_rings (s : State) (c : Nat) (v : PheCh) : (s.setPch c v).rings = s.rings := rfl
@[simp] theorem State.setPch_mram (s : State) (c : Nat) (v : PheCh) : (s.setPch c v).mram = s.mram := rfl
@[simp] theorem State.setPch_rt (s : State) (c : Nat) (v : PheCh) : (s.setPch c v).rt = s.rt := rfl
@[simp] theorem State.setPch_bulk (s : State) (c : Nat) (v : PheCh) : (s.setPch c v).bulk = s.bulk := rfl
@[simp] theorem State.setPch_fpt (s : State) (c : Nat) (v : PheCh) : (s.setPch c v).fpt = s.fpt := rfl
@[simp] theorem State.setPch_ppl (s : State) (c : Nat) (v : PheCh) : (s.setPch c v).ppl = s.ppl := rfl
@[simp] theorem State.setPch_fwt (s : State) (c : Nat) (v : PheCh) : (s.setPch c v).fwt = s.fwt := rfl
@[simp] theorem State.setPch_sch (s : State) (c : Nat) (v : PheCh) : (s.setPch c v).sch = s.sch := rfl
@[simp] theorem State.setPch_cpu (s : State) (c : Nat) (v : PheCh) : (s.setPch c v).cpu = s.cpu := rfl
@[simp] theorem State.setPch_svi (s : State) (c : Nat) (v : PheCh) : (s.setPch c v).svi = s.svi := rfl
@[simp] theorem State.setPch_aln (s : State) (c : Nat) (v : PheCh) : (s.setPch c v).aln = s.aln := rfl
@[simp] theorem State.setPch_trp (s : State) (c : Nat) (v : PheCh) : (s.setPch c v).trp = s.trp := rfl
@[simp] theorem State.setPch_rec_ (s : State) (c : Nat) (v : PheCh) : (s.setPch c v).rec_ = s.rec_ := rfl
@[simp] theorem State.setPch_rma (s : State) (c : Nat) (v : PheCh) : (s.setPch c v).rma = s.rma := rfl
@[simp] theorem State.setPch_stg (s : State) (c : Nat) (v : PheCh) : (s.setPch c v).stg = s.stg := rfl
@[simp] theorem State.setPch_dma (s : State) (c : Nat) (v : PheCh) : (s.setPch c v).dma = s.dma := rfl
@[simp] theorem State.setPch_mem (s : State) (c : Nat) (v : PheCh) : (s.setPch c v).mem = s.mem := rfl
@[simp] theorem State.setPch_pwr (s : State) (c : Nat) (v : PheCh) : (s.setPch c v).pwr = s.pwr := rfl
@[simp] theorem State.setPch_boot (s : State) (c : Nat) (v : PheCh) : (s.setPch c v).boot = s.boot := rfl

/-! ## setPgrp -/

@[simp] theorem State.setPgrp_pending (s : State) (g : Nat) (v : PheGrp) : (s.setPgrp g v).pending = s.pending := rfl
@[simp] theorem State.setPgrp_regs (s : State) (g : Nat) (v : PheGrp) : (s.setPgrp g v).regs = s.regs := rfl
@[simp] theorem State.setPgrp_tick (s : State) (g : Nat) (v : PheGrp) : (s.setPgrp g v).tick = s.tick := rfl
@[simp] theorem State.setPgrp_free (s : State) (g : Nat) (v : PheGrp) : (s.setPgrp g v).free = s.free := rfl
@[simp] theorem State.setPgrp_reply (s : State) (g : Nat) (v : PheGrp) : (s.setPgrp g v).reply = s.reply := rfl
@[simp] theorem State.setPgrp_sent (s : State) (g : Nat) (v : PheGrp) : (s.setPgrp g v).sent = s.sent := rfl
@[simp] theorem State.setPgrp_rdHold (s : State) (g : Nat) (v : PheGrp) : (s.setPgrp g v).rdHold = s.rdHold := rfl
@[simp] theorem State.setPgrp_wrHold (s : State) (g : Nat) (v : PheGrp) : (s.setPgrp g v).wrHold = s.wrHold := rfl
@[simp] theorem State.setPgrp_winLive (s : State) (g : Nat) (v : PheGrp) : (s.setPgrp g v).winLive = s.winLive := rfl
@[simp] theorem State.setPgrp_winShadow (s : State) (g : Nat) (v : PheGrp) : (s.setPgrp g v).winShadow = s.winShadow := rfl
@[simp] theorem State.setPgrp_winWr (s : State) (g : Nat) (v : PheGrp) : (s.setPgrp g v).winWr = s.winWr := rfl
@[simp] theorem State.setPgrp_winRd (s : State) (g : Nat) (v : PheGrp) : (s.setPgrp g v).winRd = s.winRd := rfl
@[simp] theorem State.setPgrp_stage (s : State) (g : Nat) (v : PheGrp) : (s.setPgrp g v).stage = s.stage := rfl
@[simp] theorem State.setPgrp_markOwner (s : State) (g : Nat) (v : PheGrp) : (s.setPgrp g v).markOwner = s.markOwner := rfl
@[simp] theorem State.setPgrp_calFrom (s : State) (g : Nat) (v : PheGrp) : (s.setPgrp g v).calFrom = s.calFrom := rfl
@[simp] theorem State.setPgrp_calFcFrom (s : State) (g : Nat) (v : PheGrp) : (s.setPgrp g v).calFcFrom = s.calFcFrom := rfl
@[simp] theorem State.setPgrp_pins (s : State) (g : Nat) (v : PheGrp) : (s.setPgrp g v).pins = s.pins := rfl
@[simp] theorem State.setPgrp_evt (s : State) (g : Nat) (v : PheGrp) : (s.setPgrp g v).evt = s.evt := rfl
@[simp] theorem State.setPgrp_tim (s : State) (g : Nat) (v : PheGrp) : (s.setPgrp g v).tim = s.tim := rfl
@[simp] theorem State.setPgrp_hif (s : State) (g : Nat) (v : PheGrp) : (s.setPgrp g v).hif = s.hif := rfl
@[simp] theorem State.setPgrp_rings (s : State) (g : Nat) (v : PheGrp) : (s.setPgrp g v).rings = s.rings := rfl
@[simp] theorem State.setPgrp_mram (s : State) (g : Nat) (v : PheGrp) : (s.setPgrp g v).mram = s.mram := rfl
@[simp] theorem State.setPgrp_rt (s : State) (g : Nat) (v : PheGrp) : (s.setPgrp g v).rt = s.rt := rfl
@[simp] theorem State.setPgrp_bulk (s : State) (g : Nat) (v : PheGrp) : (s.setPgrp g v).bulk = s.bulk := rfl
@[simp] theorem State.setPgrp_fpt (s : State) (g : Nat) (v : PheGrp) : (s.setPgrp g v).fpt = s.fpt := rfl
@[simp] theorem State.setPgrp_ppl (s : State) (g : Nat) (v : PheGrp) : (s.setPgrp g v).ppl = s.ppl := rfl
@[simp] theorem State.setPgrp_fwt (s : State) (g : Nat) (v : PheGrp) : (s.setPgrp g v).fwt = s.fwt := rfl
@[simp] theorem State.setPgrp_sch (s : State) (g : Nat) (v : PheGrp) : (s.setPgrp g v).sch = s.sch := rfl
@[simp] theorem State.setPgrp_cpu (s : State) (g : Nat) (v : PheGrp) : (s.setPgrp g v).cpu = s.cpu := rfl
@[simp] theorem State.setPgrp_svi (s : State) (g : Nat) (v : PheGrp) : (s.setPgrp g v).svi = s.svi := rfl
@[simp] theorem State.setPgrp_aln (s : State) (g : Nat) (v : PheGrp) : (s.setPgrp g v).aln = s.aln := rfl
@[simp] theorem State.setPgrp_trp (s : State) (g : Nat) (v : PheGrp) : (s.setPgrp g v).trp = s.trp := rfl
@[simp] theorem State.setPgrp_rec_ (s : State) (g : Nat) (v : PheGrp) : (s.setPgrp g v).rec_ = s.rec_ := rfl
@[simp] theorem State.setPgrp_rma (s : State) (g : Nat) (v : PheGrp) : (s.setPgrp g v).rma = s.rma := rfl
@[simp] theorem State.setPgrp_stg (s : State) (g : Nat) (v : PheGrp) : (s.setPgrp g v).stg = s.stg := rfl
@[simp] theorem State.setPgrp_dma (s : State) (g : Nat) (v : PheGrp) : (s.setPgrp g v).dma = s.dma := rfl
@[simp] theorem State.setPgrp_mem (s : State) (g : Nat) (v : PheGrp) : (s.setPgrp g v).mem = s.mem := rfl
@[simp] theorem State.setPgrp_pwr (s : State) (g : Nat) (v : PheGrp) : (s.setPgrp g v).pwr = s.pwr := rfl
@[simp] theorem State.setPgrp_boot (s : State) (g : Nat) (v : PheGrp) : (s.setPgrp g v).boot = s.boot := rfl

/-! ## rtWrite -/

@[simp] theorem State.rtWrite_pending (s : State) (a : Nat) (b : List Byte) : (s.rtWrite a b).pending = s.pending := rfl
@[simp] theorem State.rtWrite_regs (s : State) (a : Nat) (b : List Byte) : (s.rtWrite a b).regs = s.regs := rfl
@[simp] theorem State.rtWrite_tick (s : State) (a : Nat) (b : List Byte) : (s.rtWrite a b).tick = s.tick := rfl
@[simp] theorem State.rtWrite_free (s : State) (a : Nat) (b : List Byte) : (s.rtWrite a b).free = s.free := rfl
@[simp] theorem State.rtWrite_reply (s : State) (a : Nat) (b : List Byte) : (s.rtWrite a b).reply = s.reply := rfl
@[simp] theorem State.rtWrite_sent (s : State) (a : Nat) (b : List Byte) : (s.rtWrite a b).sent = s.sent := rfl
@[simp] theorem State.rtWrite_rdHold (s : State) (a : Nat) (b : List Byte) : (s.rtWrite a b).rdHold = s.rdHold := rfl
@[simp] theorem State.rtWrite_wrHold (s : State) (a : Nat) (b : List Byte) : (s.rtWrite a b).wrHold = s.wrHold := rfl
@[simp] theorem State.rtWrite_winLive (s : State) (a : Nat) (b : List Byte) : (s.rtWrite a b).winLive = s.winLive := rfl
@[simp] theorem State.rtWrite_winShadow (s : State) (a : Nat) (b : List Byte) : (s.rtWrite a b).winShadow = s.winShadow := rfl
@[simp] theorem State.rtWrite_winWr (s : State) (a : Nat) (b : List Byte) : (s.rtWrite a b).winWr = s.winWr := rfl
@[simp] theorem State.rtWrite_winRd (s : State) (a : Nat) (b : List Byte) : (s.rtWrite a b).winRd = s.winRd := rfl
@[simp] theorem State.rtWrite_stage (s : State) (a : Nat) (b : List Byte) : (s.rtWrite a b).stage = s.stage := rfl
@[simp] theorem State.rtWrite_markOwner (s : State) (a : Nat) (b : List Byte) : (s.rtWrite a b).markOwner = s.markOwner := rfl
@[simp] theorem State.rtWrite_calFrom (s : State) (a : Nat) (b : List Byte) : (s.rtWrite a b).calFrom = s.calFrom := rfl
@[simp] theorem State.rtWrite_calFcFrom (s : State) (a : Nat) (b : List Byte) : (s.rtWrite a b).calFcFrom = s.calFcFrom := rfl
@[simp] theorem State.rtWrite_pins (s : State) (a : Nat) (b : List Byte) : (s.rtWrite a b).pins = s.pins := rfl
@[simp] theorem State.rtWrite_evt (s : State) (a : Nat) (b : List Byte) : (s.rtWrite a b).evt = s.evt := rfl
@[simp] theorem State.rtWrite_tim (s : State) (a : Nat) (b : List Byte) : (s.rtWrite a b).tim = s.tim := rfl
@[simp] theorem State.rtWrite_hif (s : State) (a : Nat) (b : List Byte) : (s.rtWrite a b).hif = s.hif := rfl
@[simp] theorem State.rtWrite_rings (s : State) (a : Nat) (b : List Byte) : (s.rtWrite a b).rings = s.rings := rfl
@[simp] theorem State.rtWrite_mram (s : State) (a : Nat) (b : List Byte) : (s.rtWrite a b).mram = s.mram := rfl
@[simp] theorem State.rtWrite_bulk (s : State) (a : Nat) (b : List Byte) : (s.rtWrite a b).bulk = s.bulk := rfl
@[simp] theorem State.rtWrite_fpt (s : State) (a : Nat) (b : List Byte) : (s.rtWrite a b).fpt = s.fpt := rfl
@[simp] theorem State.rtWrite_ppl (s : State) (a : Nat) (b : List Byte) : (s.rtWrite a b).ppl = s.ppl := rfl
@[simp] theorem State.rtWrite_fwt (s : State) (a : Nat) (b : List Byte) : (s.rtWrite a b).fwt = s.fwt := rfl
@[simp] theorem State.rtWrite_sch (s : State) (a : Nat) (b : List Byte) : (s.rtWrite a b).sch = s.sch := rfl
@[simp] theorem State.rtWrite_cpu (s : State) (a : Nat) (b : List Byte) : (s.rtWrite a b).cpu = s.cpu := rfl
@[simp] theorem State.rtWrite_svi (s : State) (a : Nat) (b : List Byte) : (s.rtWrite a b).svi = s.svi := rfl
@[simp] theorem State.rtWrite_aln (s : State) (a : Nat) (b : List Byte) : (s.rtWrite a b).aln = s.aln := rfl
@[simp] theorem State.rtWrite_phe (s : State) (a : Nat) (b : List Byte) : (s.rtWrite a b).phe = s.phe := rfl
@[simp] theorem State.rtWrite_trp (s : State) (a : Nat) (b : List Byte) : (s.rtWrite a b).trp = s.trp := rfl
@[simp] theorem State.rtWrite_rec_ (s : State) (a : Nat) (b : List Byte) : (s.rtWrite a b).rec_ = s.rec_ := rfl
@[simp] theorem State.rtWrite_rma (s : State) (a : Nat) (b : List Byte) : (s.rtWrite a b).rma = s.rma := rfl
@[simp] theorem State.rtWrite_stg (s : State) (a : Nat) (b : List Byte) : (s.rtWrite a b).stg = s.stg := rfl
@[simp] theorem State.rtWrite_dma (s : State) (a : Nat) (b : List Byte) : (s.rtWrite a b).dma = s.dma := rfl
@[simp] theorem State.rtWrite_mem (s : State) (a : Nat) (b : List Byte) : (s.rtWrite a b).mem = s.mem := rfl
@[simp] theorem State.rtWrite_pwr (s : State) (a : Nat) (b : List Byte) : (s.rtWrite a b).pwr = s.pwr := rfl
@[simp] theorem State.rtWrite_boot (s : State) (a : Nat) (b : List Byte) : (s.rtWrite a b).boot = s.boot := rfl

/-! ## setPort -/

@[simp] theorem State.setPort_pending (s : State) (n : Nat) (p : PortSt) : (s.setPort n p).pending = s.pending := rfl
@[simp] theorem State.setPort_regs (s : State) (n : Nat) (p : PortSt) : (s.setPort n p).regs = s.regs := rfl
@[simp] theorem State.setPort_tick (s : State) (n : Nat) (p : PortSt) : (s.setPort n p).tick = s.tick := rfl
@[simp] theorem State.setPort_free (s : State) (n : Nat) (p : PortSt) : (s.setPort n p).free = s.free := rfl
@[simp] theorem State.setPort_reply (s : State) (n : Nat) (p : PortSt) : (s.setPort n p).reply = s.reply := rfl
@[simp] theorem State.setPort_sent (s : State) (n : Nat) (p : PortSt) : (s.setPort n p).sent = s.sent := rfl
@[simp] theorem State.setPort_rdHold (s : State) (n : Nat) (p : PortSt) : (s.setPort n p).rdHold = s.rdHold := rfl
@[simp] theorem State.setPort_wrHold (s : State) (n : Nat) (p : PortSt) : (s.setPort n p).wrHold = s.wrHold := rfl
@[simp] theorem State.setPort_winLive (s : State) (n : Nat) (p : PortSt) : (s.setPort n p).winLive = s.winLive := rfl
@[simp] theorem State.setPort_winShadow (s : State) (n : Nat) (p : PortSt) : (s.setPort n p).winShadow = s.winShadow := rfl
@[simp] theorem State.setPort_winWr (s : State) (n : Nat) (p : PortSt) : (s.setPort n p).winWr = s.winWr := rfl
@[simp] theorem State.setPort_winRd (s : State) (n : Nat) (p : PortSt) : (s.setPort n p).winRd = s.winRd := rfl
@[simp] theorem State.setPort_stage (s : State) (n : Nat) (p : PortSt) : (s.setPort n p).stage = s.stage := rfl
@[simp] theorem State.setPort_markOwner (s : State) (n : Nat) (p : PortSt) : (s.setPort n p).markOwner = s.markOwner := rfl
@[simp] theorem State.setPort_calFrom (s : State) (n : Nat) (p : PortSt) : (s.setPort n p).calFrom = s.calFrom := rfl
@[simp] theorem State.setPort_calFcFrom (s : State) (n : Nat) (p : PortSt) : (s.setPort n p).calFcFrom = s.calFcFrom := rfl
@[simp] theorem State.setPort_pins (s : State) (n : Nat) (p : PortSt) : (s.setPort n p).pins = s.pins := rfl
@[simp] theorem State.setPort_evt (s : State) (n : Nat) (p : PortSt) : (s.setPort n p).evt = s.evt := rfl
@[simp] theorem State.setPort_tim (s : State) (n : Nat) (p : PortSt) : (s.setPort n p).tim = s.tim := rfl
@[simp] theorem State.setPort_hif (s : State) (n : Nat) (p : PortSt) : (s.setPort n p).hif = s.hif := rfl
@[simp] theorem State.setPort_rings (s : State) (n : Nat) (p : PortSt) : (s.setPort n p).rings = s.rings := rfl
@[simp] theorem State.setPort_mram (s : State) (n : Nat) (p : PortSt) : (s.setPort n p).mram = s.mram := rfl
@[simp] theorem State.setPort_rt (s : State) (n : Nat) (p : PortSt) : (s.setPort n p).rt = s.rt := rfl
@[simp] theorem State.setPort_bulk (s : State) (n : Nat) (p : PortSt) : (s.setPort n p).bulk = s.bulk := rfl
@[simp] theorem State.setPort_ppl (s : State) (n : Nat) (p : PortSt) : (s.setPort n p).ppl = s.ppl := rfl
@[simp] theorem State.setPort_fwt (s : State) (n : Nat) (p : PortSt) : (s.setPort n p).fwt = s.fwt := rfl
@[simp] theorem State.setPort_sch (s : State) (n : Nat) (p : PortSt) : (s.setPort n p).sch = s.sch := rfl
@[simp] theorem State.setPort_cpu (s : State) (n : Nat) (p : PortSt) : (s.setPort n p).cpu = s.cpu := rfl
@[simp] theorem State.setPort_svi (s : State) (n : Nat) (p : PortSt) : (s.setPort n p).svi = s.svi := rfl
@[simp] theorem State.setPort_aln (s : State) (n : Nat) (p : PortSt) : (s.setPort n p).aln = s.aln := rfl
@[simp] theorem State.setPort_phe (s : State) (n : Nat) (p : PortSt) : (s.setPort n p).phe = s.phe := rfl
@[simp] theorem State.setPort_trp (s : State) (n : Nat) (p : PortSt) : (s.setPort n p).trp = s.trp := rfl
@[simp] theorem State.setPort_rec_ (s : State) (n : Nat) (p : PortSt) : (s.setPort n p).rec_ = s.rec_ := rfl
@[simp] theorem State.setPort_rma (s : State) (n : Nat) (p : PortSt) : (s.setPort n p).rma = s.rma := rfl
@[simp] theorem State.setPort_stg (s : State) (n : Nat) (p : PortSt) : (s.setPort n p).stg = s.stg := rfl
@[simp] theorem State.setPort_dma (s : State) (n : Nat) (p : PortSt) : (s.setPort n p).dma = s.dma := rfl
@[simp] theorem State.setPort_mem (s : State) (n : Nat) (p : PortSt) : (s.setPort n p).mem = s.mem := rfl
@[simp] theorem State.setPort_pwr (s : State) (n : Nat) (p : PortSt) : (s.setPort n p).pwr = s.pwr := rfl
@[simp] theorem State.setPort_boot (s : State) (n : Nat) (p : PortSt) : (s.setPort n p).boot = s.boot := rfl

/-! ## setPair -/

@[simp] theorem State.setPair_pending (s : State) (p : Nat) (v : PairSt) : (s.setPair p v).pending = s.pending := rfl
@[simp] theorem State.setPair_regs (s : State) (p : Nat) (v : PairSt) : (s.setPair p v).regs = s.regs := rfl
@[simp] theorem State.setPair_tick (s : State) (p : Nat) (v : PairSt) : (s.setPair p v).tick = s.tick := rfl
@[simp] theorem State.setPair_free (s : State) (p : Nat) (v : PairSt) : (s.setPair p v).free = s.free := rfl
@[simp] theorem State.setPair_reply (s : State) (p : Nat) (v : PairSt) : (s.setPair p v).reply = s.reply := rfl
@[simp] theorem State.setPair_sent (s : State) (p : Nat) (v : PairSt) : (s.setPair p v).sent = s.sent := rfl
@[simp] theorem State.setPair_rdHold (s : State) (p : Nat) (v : PairSt) : (s.setPair p v).rdHold = s.rdHold := rfl
@[simp] theorem State.setPair_wrHold (s : State) (p : Nat) (v : PairSt) : (s.setPair p v).wrHold = s.wrHold := rfl
@[simp] theorem State.setPair_winLive (s : State) (p : Nat) (v : PairSt) : (s.setPair p v).winLive = s.winLive := rfl
@[simp] theorem State.setPair_winShadow (s : State) (p : Nat) (v : PairSt) : (s.setPair p v).winShadow = s.winShadow := rfl
@[simp] theorem State.setPair_winWr (s : State) (p : Nat) (v : PairSt) : (s.setPair p v).winWr = s.winWr := rfl
@[simp] theorem State.setPair_winRd (s : State) (p : Nat) (v : PairSt) : (s.setPair p v).winRd = s.winRd := rfl
@[simp] theorem State.setPair_stage (s : State) (p : Nat) (v : PairSt) : (s.setPair p v).stage = s.stage := rfl
@[simp] theorem State.setPair_markOwner (s : State) (p : Nat) (v : PairSt) : (s.setPair p v).markOwner = s.markOwner := rfl
@[simp] theorem State.setPair_calFrom (s : State) (p : Nat) (v : PairSt) : (s.setPair p v).calFrom = s.calFrom := rfl
@[simp] theorem State.setPair_calFcFrom (s : State) (p : Nat) (v : PairSt) : (s.setPair p v).calFcFrom = s.calFcFrom := rfl
@[simp] theorem State.setPair_pins (s : State) (p : Nat) (v : PairSt) : (s.setPair p v).pins = s.pins := rfl
@[simp] theorem State.setPair_evt (s : State) (p : Nat) (v : PairSt) : (s.setPair p v).evt = s.evt := rfl
@[simp] theorem State.setPair_tim (s : State) (p : Nat) (v : PairSt) : (s.setPair p v).tim = s.tim := rfl
@[simp] theorem State.setPair_hif (s : State) (p : Nat) (v : PairSt) : (s.setPair p v).hif = s.hif := rfl
@[simp] theorem State.setPair_rings (s : State) (p : Nat) (v : PairSt) : (s.setPair p v).rings = s.rings := rfl
@[simp] theorem State.setPair_mram (s : State) (p : Nat) (v : PairSt) : (s.setPair p v).mram = s.mram := rfl
@[simp] theorem State.setPair_rt (s : State) (p : Nat) (v : PairSt) : (s.setPair p v).rt = s.rt := rfl
@[simp] theorem State.setPair_bulk (s : State) (p : Nat) (v : PairSt) : (s.setPair p v).bulk = s.bulk := rfl
@[simp] theorem State.setPair_ppl (s : State) (p : Nat) (v : PairSt) : (s.setPair p v).ppl = s.ppl := rfl
@[simp] theorem State.setPair_fwt (s : State) (p : Nat) (v : PairSt) : (s.setPair p v).fwt = s.fwt := rfl
@[simp] theorem State.setPair_sch (s : State) (p : Nat) (v : PairSt) : (s.setPair p v).sch = s.sch := rfl
@[simp] theorem State.setPair_cpu (s : State) (p : Nat) (v : PairSt) : (s.setPair p v).cpu = s.cpu := rfl
@[simp] theorem State.setPair_svi (s : State) (p : Nat) (v : PairSt) : (s.setPair p v).svi = s.svi := rfl
@[simp] theorem State.setPair_aln (s : State) (p : Nat) (v : PairSt) : (s.setPair p v).aln = s.aln := rfl
@[simp] theorem State.setPair_phe (s : State) (p : Nat) (v : PairSt) : (s.setPair p v).phe = s.phe := rfl
@[simp] theorem State.setPair_trp (s : State) (p : Nat) (v : PairSt) : (s.setPair p v).trp = s.trp := rfl
@[simp] theorem State.setPair_rec_ (s : State) (p : Nat) (v : PairSt) : (s.setPair p v).rec_ = s.rec_ := rfl
@[simp] theorem State.setPair_rma (s : State) (p : Nat) (v : PairSt) : (s.setPair p v).rma = s.rma := rfl
@[simp] theorem State.setPair_stg (s : State) (p : Nat) (v : PairSt) : (s.setPair p v).stg = s.stg := rfl
@[simp] theorem State.setPair_dma (s : State) (p : Nat) (v : PairSt) : (s.setPair p v).dma = s.dma := rfl
@[simp] theorem State.setPair_mem (s : State) (p : Nat) (v : PairSt) : (s.setPair p v).mem = s.mem := rfl
@[simp] theorem State.setPair_pwr (s : State) (p : Nat) (v : PairSt) : (s.setPair p v).pwr = s.pwr := rfl
@[simp] theorem State.setPair_boot (s : State) (p : Nat) (v : PairSt) : (s.setPair p v).boot = s.boot := rfl

/-! ## setXport -/

@[simp] theorem State.setXport_pending (s : State) (m : Nat) (v : XportSt) : (s.setXport m v).pending = s.pending := rfl
@[simp] theorem State.setXport_regs (s : State) (m : Nat) (v : XportSt) : (s.setXport m v).regs = s.regs := rfl
@[simp] theorem State.setXport_tick (s : State) (m : Nat) (v : XportSt) : (s.setXport m v).tick = s.tick := rfl
@[simp] theorem State.setXport_free (s : State) (m : Nat) (v : XportSt) : (s.setXport m v).free = s.free := rfl
@[simp] theorem State.setXport_reply (s : State) (m : Nat) (v : XportSt) : (s.setXport m v).reply = s.reply := rfl
@[simp] theorem State.setXport_sent (s : State) (m : Nat) (v : XportSt) : (s.setXport m v).sent = s.sent := rfl
@[simp] theorem State.setXport_rdHold (s : State) (m : Nat) (v : XportSt) : (s.setXport m v).rdHold = s.rdHold := rfl
@[simp] theorem State.setXport_wrHold (s : State) (m : Nat) (v : XportSt) : (s.setXport m v).wrHold = s.wrHold := rfl
@[simp] theorem State.setXport_winLive (s : State) (m : Nat) (v : XportSt) : (s.setXport m v).winLive = s.winLive := rfl
@[simp] theorem State.setXport_winShadow (s : State) (m : Nat) (v : XportSt) : (s.setXport m v).winShadow = s.winShadow := rfl
@[simp] theorem State.setXport_winWr (s : State) (m : Nat) (v : XportSt) : (s.setXport m v).winWr = s.winWr := rfl
@[simp] theorem State.setXport_winRd (s : State) (m : Nat) (v : XportSt) : (s.setXport m v).winRd = s.winRd := rfl
@[simp] theorem State.setXport_stage (s : State) (m : Nat) (v : XportSt) : (s.setXport m v).stage = s.stage := rfl
@[simp] theorem State.setXport_markOwner (s : State) (m : Nat) (v : XportSt) : (s.setXport m v).markOwner = s.markOwner := rfl
@[simp] theorem State.setXport_calFrom (s : State) (m : Nat) (v : XportSt) : (s.setXport m v).calFrom = s.calFrom := rfl
@[simp] theorem State.setXport_calFcFrom (s : State) (m : Nat) (v : XportSt) : (s.setXport m v).calFcFrom = s.calFcFrom := rfl
@[simp] theorem State.setXport_pins (s : State) (m : Nat) (v : XportSt) : (s.setXport m v).pins = s.pins := rfl
@[simp] theorem State.setXport_evt (s : State) (m : Nat) (v : XportSt) : (s.setXport m v).evt = s.evt := rfl
@[simp] theorem State.setXport_tim (s : State) (m : Nat) (v : XportSt) : (s.setXport m v).tim = s.tim := rfl
@[simp] theorem State.setXport_hif (s : State) (m : Nat) (v : XportSt) : (s.setXport m v).hif = s.hif := rfl
@[simp] theorem State.setXport_rings (s : State) (m : Nat) (v : XportSt) : (s.setXport m v).rings = s.rings := rfl
@[simp] theorem State.setXport_mram (s : State) (m : Nat) (v : XportSt) : (s.setXport m v).mram = s.mram := rfl
@[simp] theorem State.setXport_rt (s : State) (m : Nat) (v : XportSt) : (s.setXport m v).rt = s.rt := rfl
@[simp] theorem State.setXport_bulk (s : State) (m : Nat) (v : XportSt) : (s.setXport m v).bulk = s.bulk := rfl
@[simp] theorem State.setXport_ppl (s : State) (m : Nat) (v : XportSt) : (s.setXport m v).ppl = s.ppl := rfl
@[simp] theorem State.setXport_fwt (s : State) (m : Nat) (v : XportSt) : (s.setXport m v).fwt = s.fwt := rfl
@[simp] theorem State.setXport_sch (s : State) (m : Nat) (v : XportSt) : (s.setXport m v).sch = s.sch := rfl
@[simp] theorem State.setXport_cpu (s : State) (m : Nat) (v : XportSt) : (s.setXport m v).cpu = s.cpu := rfl
@[simp] theorem State.setXport_svi (s : State) (m : Nat) (v : XportSt) : (s.setXport m v).svi = s.svi := rfl
@[simp] theorem State.setXport_aln (s : State) (m : Nat) (v : XportSt) : (s.setXport m v).aln = s.aln := rfl
@[simp] theorem State.setXport_phe (s : State) (m : Nat) (v : XportSt) : (s.setXport m v).phe = s.phe := rfl
@[simp] theorem State.setXport_trp (s : State) (m : Nat) (v : XportSt) : (s.setXport m v).trp = s.trp := rfl
@[simp] theorem State.setXport_rec_ (s : State) (m : Nat) (v : XportSt) : (s.setXport m v).rec_ = s.rec_ := rfl
@[simp] theorem State.setXport_rma (s : State) (m : Nat) (v : XportSt) : (s.setXport m v).rma = s.rma := rfl
@[simp] theorem State.setXport_stg (s : State) (m : Nat) (v : XportSt) : (s.setXport m v).stg = s.stg := rfl
@[simp] theorem State.setXport_dma (s : State) (m : Nat) (v : XportSt) : (s.setXport m v).dma = s.dma := rfl
@[simp] theorem State.setXport_mem (s : State) (m : Nat) (v : XportSt) : (s.setXport m v).mem = s.mem := rfl
@[simp] theorem State.setXport_pwr (s : State) (m : Nat) (v : XportSt) : (s.setXport m v).pwr = s.pwr := rfl
@[simp] theorem State.setXport_boot (s : State) (m : Nat) (v : XportSt) : (s.setXport m v).boot = s.boot := rfl

/-! ## setPfc -/

@[simp] theorem State.setPfc_pending (s : State) (n c : Nat) (v : PfcSt) : (s.setPfc n c v).pending = s.pending := rfl
@[simp] theorem State.setPfc_regs (s : State) (n c : Nat) (v : PfcSt) : (s.setPfc n c v).regs = s.regs := rfl
@[simp] theorem State.setPfc_tick (s : State) (n c : Nat) (v : PfcSt) : (s.setPfc n c v).tick = s.tick := rfl
@[simp] theorem State.setPfc_free (s : State) (n c : Nat) (v : PfcSt) : (s.setPfc n c v).free = s.free := rfl
@[simp] theorem State.setPfc_reply (s : State) (n c : Nat) (v : PfcSt) : (s.setPfc n c v).reply = s.reply := rfl
@[simp] theorem State.setPfc_sent (s : State) (n c : Nat) (v : PfcSt) : (s.setPfc n c v).sent = s.sent := rfl
@[simp] theorem State.setPfc_rdHold (s : State) (n c : Nat) (v : PfcSt) : (s.setPfc n c v).rdHold = s.rdHold := rfl
@[simp] theorem State.setPfc_wrHold (s : State) (n c : Nat) (v : PfcSt) : (s.setPfc n c v).wrHold = s.wrHold := rfl
@[simp] theorem State.setPfc_winLive (s : State) (n c : Nat) (v : PfcSt) : (s.setPfc n c v).winLive = s.winLive := rfl
@[simp] theorem State.setPfc_winShadow (s : State) (n c : Nat) (v : PfcSt) : (s.setPfc n c v).winShadow = s.winShadow := rfl
@[simp] theorem State.setPfc_winWr (s : State) (n c : Nat) (v : PfcSt) : (s.setPfc n c v).winWr = s.winWr := rfl
@[simp] theorem State.setPfc_winRd (s : State) (n c : Nat) (v : PfcSt) : (s.setPfc n c v).winRd = s.winRd := rfl
@[simp] theorem State.setPfc_stage (s : State) (n c : Nat) (v : PfcSt) : (s.setPfc n c v).stage = s.stage := rfl
@[simp] theorem State.setPfc_markOwner (s : State) (n c : Nat) (v : PfcSt) : (s.setPfc n c v).markOwner = s.markOwner := rfl
@[simp] theorem State.setPfc_calFrom (s : State) (n c : Nat) (v : PfcSt) : (s.setPfc n c v).calFrom = s.calFrom := rfl
@[simp] theorem State.setPfc_calFcFrom (s : State) (n c : Nat) (v : PfcSt) : (s.setPfc n c v).calFcFrom = s.calFcFrom := rfl
@[simp] theorem State.setPfc_pins (s : State) (n c : Nat) (v : PfcSt) : (s.setPfc n c v).pins = s.pins := rfl
@[simp] theorem State.setPfc_evt (s : State) (n c : Nat) (v : PfcSt) : (s.setPfc n c v).evt = s.evt := rfl
@[simp] theorem State.setPfc_tim (s : State) (n c : Nat) (v : PfcSt) : (s.setPfc n c v).tim = s.tim := rfl
@[simp] theorem State.setPfc_hif (s : State) (n c : Nat) (v : PfcSt) : (s.setPfc n c v).hif = s.hif := rfl
@[simp] theorem State.setPfc_rings (s : State) (n c : Nat) (v : PfcSt) : (s.setPfc n c v).rings = s.rings := rfl
@[simp] theorem State.setPfc_mram (s : State) (n c : Nat) (v : PfcSt) : (s.setPfc n c v).mram = s.mram := rfl
@[simp] theorem State.setPfc_rt (s : State) (n c : Nat) (v : PfcSt) : (s.setPfc n c v).rt = s.rt := rfl
@[simp] theorem State.setPfc_bulk (s : State) (n c : Nat) (v : PfcSt) : (s.setPfc n c v).bulk = s.bulk := rfl
@[simp] theorem State.setPfc_ppl (s : State) (n c : Nat) (v : PfcSt) : (s.setPfc n c v).ppl = s.ppl := rfl
@[simp] theorem State.setPfc_fwt (s : State) (n c : Nat) (v : PfcSt) : (s.setPfc n c v).fwt = s.fwt := rfl
@[simp] theorem State.setPfc_sch (s : State) (n c : Nat) (v : PfcSt) : (s.setPfc n c v).sch = s.sch := rfl
@[simp] theorem State.setPfc_cpu (s : State) (n c : Nat) (v : PfcSt) : (s.setPfc n c v).cpu = s.cpu := rfl
@[simp] theorem State.setPfc_svi (s : State) (n c : Nat) (v : PfcSt) : (s.setPfc n c v).svi = s.svi := rfl
@[simp] theorem State.setPfc_aln (s : State) (n c : Nat) (v : PfcSt) : (s.setPfc n c v).aln = s.aln := rfl
@[simp] theorem State.setPfc_phe (s : State) (n c : Nat) (v : PfcSt) : (s.setPfc n c v).phe = s.phe := rfl
@[simp] theorem State.setPfc_trp (s : State) (n c : Nat) (v : PfcSt) : (s.setPfc n c v).trp = s.trp := rfl
@[simp] theorem State.setPfc_rec_ (s : State) (n c : Nat) (v : PfcSt) : (s.setPfc n c v).rec_ = s.rec_ := rfl
@[simp] theorem State.setPfc_rma (s : State) (n c : Nat) (v : PfcSt) : (s.setPfc n c v).rma = s.rma := rfl
@[simp] theorem State.setPfc_stg (s : State) (n c : Nat) (v : PfcSt) : (s.setPfc n c v).stg = s.stg := rfl
@[simp] theorem State.setPfc_dma (s : State) (n c : Nat) (v : PfcSt) : (s.setPfc n c v).dma = s.dma := rfl
@[simp] theorem State.setPfc_mem (s : State) (n c : Nat) (v : PfcSt) : (s.setPfc n c v).mem = s.mem := rfl
@[simp] theorem State.setPfc_pwr (s : State) (n c : Nat) (v : PfcSt) : (s.setPfc n c v).pwr = s.pwr := rfl
@[simp] theorem State.setPfc_boot (s : State) (n c : Nat) (v : PfcSt) : (s.setPfc n c v).boot = s.boot := rfl

/-! ## setQp -/

@[simp] theorem State.setQp_pending (s : State) (q : Nat) (v : QpSt) : (s.setQp q v).pending = s.pending := rfl
@[simp] theorem State.setQp_regs (s : State) (q : Nat) (v : QpSt) : (s.setQp q v).regs = s.regs := rfl
@[simp] theorem State.setQp_tick (s : State) (q : Nat) (v : QpSt) : (s.setQp q v).tick = s.tick := rfl
@[simp] theorem State.setQp_free (s : State) (q : Nat) (v : QpSt) : (s.setQp q v).free = s.free := rfl
@[simp] theorem State.setQp_reply (s : State) (q : Nat) (v : QpSt) : (s.setQp q v).reply = s.reply := rfl
@[simp] theorem State.setQp_sent (s : State) (q : Nat) (v : QpSt) : (s.setQp q v).sent = s.sent := rfl
@[simp] theorem State.setQp_rdHold (s : State) (q : Nat) (v : QpSt) : (s.setQp q v).rdHold = s.rdHold := rfl
@[simp] theorem State.setQp_wrHold (s : State) (q : Nat) (v : QpSt) : (s.setQp q v).wrHold = s.wrHold := rfl
@[simp] theorem State.setQp_winLive (s : State) (q : Nat) (v : QpSt) : (s.setQp q v).winLive = s.winLive := rfl
@[simp] theorem State.setQp_winShadow (s : State) (q : Nat) (v : QpSt) : (s.setQp q v).winShadow = s.winShadow := rfl
@[simp] theorem State.setQp_winWr (s : State) (q : Nat) (v : QpSt) : (s.setQp q v).winWr = s.winWr := rfl
@[simp] theorem State.setQp_winRd (s : State) (q : Nat) (v : QpSt) : (s.setQp q v).winRd = s.winRd := rfl
@[simp] theorem State.setQp_stage (s : State) (q : Nat) (v : QpSt) : (s.setQp q v).stage = s.stage := rfl
@[simp] theorem State.setQp_markOwner (s : State) (q : Nat) (v : QpSt) : (s.setQp q v).markOwner = s.markOwner := rfl
@[simp] theorem State.setQp_calFrom (s : State) (q : Nat) (v : QpSt) : (s.setQp q v).calFrom = s.calFrom := rfl
@[simp] theorem State.setQp_calFcFrom (s : State) (q : Nat) (v : QpSt) : (s.setQp q v).calFcFrom = s.calFcFrom := rfl
@[simp] theorem State.setQp_pins (s : State) (q : Nat) (v : QpSt) : (s.setQp q v).pins = s.pins := rfl
@[simp] theorem State.setQp_evt (s : State) (q : Nat) (v : QpSt) : (s.setQp q v).evt = s.evt := rfl
@[simp] theorem State.setQp_tim (s : State) (q : Nat) (v : QpSt) : (s.setQp q v).tim = s.tim := rfl
@[simp] theorem State.setQp_hif (s : State) (q : Nat) (v : QpSt) : (s.setQp q v).hif = s.hif := rfl
@[simp] theorem State.setQp_rings (s : State) (q : Nat) (v : QpSt) : (s.setQp q v).rings = s.rings := rfl
@[simp] theorem State.setQp_mram (s : State) (q : Nat) (v : QpSt) : (s.setQp q v).mram = s.mram := rfl
@[simp] theorem State.setQp_rt (s : State) (q : Nat) (v : QpSt) : (s.setQp q v).rt = s.rt := rfl
@[simp] theorem State.setQp_bulk (s : State) (q : Nat) (v : QpSt) : (s.setQp q v).bulk = s.bulk := rfl
@[simp] theorem State.setQp_fpt (s : State) (q : Nat) (v : QpSt) : (s.setQp q v).fpt = s.fpt := rfl
@[simp] theorem State.setQp_ppl (s : State) (q : Nat) (v : QpSt) : (s.setQp q v).ppl = s.ppl := rfl
@[simp] theorem State.setQp_fwt (s : State) (q : Nat) (v : QpSt) : (s.setQp q v).fwt = s.fwt := rfl
@[simp] theorem State.setQp_sch (s : State) (q : Nat) (v : QpSt) : (s.setQp q v).sch = s.sch := rfl
@[simp] theorem State.setQp_cpu (s : State) (q : Nat) (v : QpSt) : (s.setQp q v).cpu = s.cpu := rfl
@[simp] theorem State.setQp_svi (s : State) (q : Nat) (v : QpSt) : (s.setQp q v).svi = s.svi := rfl
@[simp] theorem State.setQp_aln (s : State) (q : Nat) (v : QpSt) : (s.setQp q v).aln = s.aln := rfl
@[simp] theorem State.setQp_phe (s : State) (q : Nat) (v : QpSt) : (s.setQp q v).phe = s.phe := rfl
@[simp] theorem State.setQp_trp (s : State) (q : Nat) (v : QpSt) : (s.setQp q v).trp = s.trp := rfl
@[simp] theorem State.setQp_rec_ (s : State) (q : Nat) (v : QpSt) : (s.setQp q v).rec_ = s.rec_ := rfl
@[simp] theorem State.setQp_stg (s : State) (q : Nat) (v : QpSt) : (s.setQp q v).stg = s.stg := rfl
@[simp] theorem State.setQp_dma (s : State) (q : Nat) (v : QpSt) : (s.setQp q v).dma = s.dma := rfl
@[simp] theorem State.setQp_mem (s : State) (q : Nat) (v : QpSt) : (s.setQp q v).mem = s.mem := rfl
@[simp] theorem State.setQp_pwr (s : State) (q : Nat) (v : QpSt) : (s.setQp q v).pwr = s.pwr := rfl
@[simp] theorem State.setQp_boot (s : State) (q : Nat) (v : QpSt) : (s.setQp q v).boot = s.boot := rfl

/-! ## setRegion -/

@[simp] theorem State.setRegion_pending (s : State) (r : Nat) (v : RegSt) : (s.setRegion r v).pending = s.pending := rfl
@[simp] theorem State.setRegion_regs (s : State) (r : Nat) (v : RegSt) : (s.setRegion r v).regs = s.regs := rfl
@[simp] theorem State.setRegion_tick (s : State) (r : Nat) (v : RegSt) : (s.setRegion r v).tick = s.tick := rfl
@[simp] theorem State.setRegion_free (s : State) (r : Nat) (v : RegSt) : (s.setRegion r v).free = s.free := rfl
@[simp] theorem State.setRegion_reply (s : State) (r : Nat) (v : RegSt) : (s.setRegion r v).reply = s.reply := rfl
@[simp] theorem State.setRegion_sent (s : State) (r : Nat) (v : RegSt) : (s.setRegion r v).sent = s.sent := rfl
@[simp] theorem State.setRegion_rdHold (s : State) (r : Nat) (v : RegSt) : (s.setRegion r v).rdHold = s.rdHold := rfl
@[simp] theorem State.setRegion_wrHold (s : State) (r : Nat) (v : RegSt) : (s.setRegion r v).wrHold = s.wrHold := rfl
@[simp] theorem State.setRegion_winLive (s : State) (r : Nat) (v : RegSt) : (s.setRegion r v).winLive = s.winLive := rfl
@[simp] theorem State.setRegion_winShadow (s : State) (r : Nat) (v : RegSt) : (s.setRegion r v).winShadow = s.winShadow := rfl
@[simp] theorem State.setRegion_winWr (s : State) (r : Nat) (v : RegSt) : (s.setRegion r v).winWr = s.winWr := rfl
@[simp] theorem State.setRegion_winRd (s : State) (r : Nat) (v : RegSt) : (s.setRegion r v).winRd = s.winRd := rfl
@[simp] theorem State.setRegion_stage (s : State) (r : Nat) (v : RegSt) : (s.setRegion r v).stage = s.stage := rfl
@[simp] theorem State.setRegion_markOwner (s : State) (r : Nat) (v : RegSt) : (s.setRegion r v).markOwner = s.markOwner := rfl
@[simp] theorem State.setRegion_calFrom (s : State) (r : Nat) (v : RegSt) : (s.setRegion r v).calFrom = s.calFrom := rfl
@[simp] theorem State.setRegion_calFcFrom (s : State) (r : Nat) (v : RegSt) : (s.setRegion r v).calFcFrom = s.calFcFrom := rfl
@[simp] theorem State.setRegion_pins (s : State) (r : Nat) (v : RegSt) : (s.setRegion r v).pins = s.pins := rfl
@[simp] theorem State.setRegion_evt (s : State) (r : Nat) (v : RegSt) : (s.setRegion r v).evt = s.evt := rfl
@[simp] theorem State.setRegion_tim (s : State) (r : Nat) (v : RegSt) : (s.setRegion r v).tim = s.tim := rfl
@[simp] theorem State.setRegion_hif (s : State) (r : Nat) (v : RegSt) : (s.setRegion r v).hif = s.hif := rfl
@[simp] theorem State.setRegion_rings (s : State) (r : Nat) (v : RegSt) : (s.setRegion r v).rings = s.rings := rfl
@[simp] theorem State.setRegion_mram (s : State) (r : Nat) (v : RegSt) : (s.setRegion r v).mram = s.mram := rfl
@[simp] theorem State.setRegion_rt (s : State) (r : Nat) (v : RegSt) : (s.setRegion r v).rt = s.rt := rfl
@[simp] theorem State.setRegion_bulk (s : State) (r : Nat) (v : RegSt) : (s.setRegion r v).bulk = s.bulk := rfl
@[simp] theorem State.setRegion_fpt (s : State) (r : Nat) (v : RegSt) : (s.setRegion r v).fpt = s.fpt := rfl
@[simp] theorem State.setRegion_ppl (s : State) (r : Nat) (v : RegSt) : (s.setRegion r v).ppl = s.ppl := rfl
@[simp] theorem State.setRegion_fwt (s : State) (r : Nat) (v : RegSt) : (s.setRegion r v).fwt = s.fwt := rfl
@[simp] theorem State.setRegion_sch (s : State) (r : Nat) (v : RegSt) : (s.setRegion r v).sch = s.sch := rfl
@[simp] theorem State.setRegion_cpu (s : State) (r : Nat) (v : RegSt) : (s.setRegion r v).cpu = s.cpu := rfl
@[simp] theorem State.setRegion_svi (s : State) (r : Nat) (v : RegSt) : (s.setRegion r v).svi = s.svi := rfl
@[simp] theorem State.setRegion_aln (s : State) (r : Nat) (v : RegSt) : (s.setRegion r v).aln = s.aln := rfl
@[simp] theorem State.setRegion_phe (s : State) (r : Nat) (v : RegSt) : (s.setRegion r v).phe = s.phe := rfl
@[simp] theorem State.setRegion_trp (s : State) (r : Nat) (v : RegSt) : (s.setRegion r v).trp = s.trp := rfl
@[simp] theorem State.setRegion_rec_ (s : State) (r : Nat) (v : RegSt) : (s.setRegion r v).rec_ = s.rec_ := rfl
@[simp] theorem State.setRegion_stg (s : State) (r : Nat) (v : RegSt) : (s.setRegion r v).stg = s.stg := rfl
@[simp] theorem State.setRegion_dma (s : State) (r : Nat) (v : RegSt) : (s.setRegion r v).dma = s.dma := rfl
@[simp] theorem State.setRegion_mem (s : State) (r : Nat) (v : RegSt) : (s.setRegion r v).mem = s.mem := rfl
@[simp] theorem State.setRegion_pwr (s : State) (r : Nat) (v : RegSt) : (s.setRegion r v).pwr = s.pwr := rfl
@[simp] theorem State.setRegion_boot (s : State) (r : Nat) (v : RegSt) : (s.setRegion r v).boot = s.boot := rfl

/-! ## setRecBay -/

@[simp] theorem State.setRecBay_pending (s : State) (b : Nat) (v : RecBay) : (s.setRecBay b v).pending = s.pending := rfl
@[simp] theorem State.setRecBay_regs (s : State) (b : Nat) (v : RecBay) : (s.setRecBay b v).regs = s.regs := rfl
@[simp] theorem State.setRecBay_tick (s : State) (b : Nat) (v : RecBay) : (s.setRecBay b v).tick = s.tick := rfl
@[simp] theorem State.setRecBay_free (s : State) (b : Nat) (v : RecBay) : (s.setRecBay b v).free = s.free := rfl
@[simp] theorem State.setRecBay_reply (s : State) (b : Nat) (v : RecBay) : (s.setRecBay b v).reply = s.reply := rfl
@[simp] theorem State.setRecBay_sent (s : State) (b : Nat) (v : RecBay) : (s.setRecBay b v).sent = s.sent := rfl
@[simp] theorem State.setRecBay_rdHold (s : State) (b : Nat) (v : RecBay) : (s.setRecBay b v).rdHold = s.rdHold := rfl
@[simp] theorem State.setRecBay_wrHold (s : State) (b : Nat) (v : RecBay) : (s.setRecBay b v).wrHold = s.wrHold := rfl
@[simp] theorem State.setRecBay_winLive (s : State) (b : Nat) (v : RecBay) : (s.setRecBay b v).winLive = s.winLive := rfl
@[simp] theorem State.setRecBay_winShadow (s : State) (b : Nat) (v : RecBay) : (s.setRecBay b v).winShadow = s.winShadow := rfl
@[simp] theorem State.setRecBay_winWr (s : State) (b : Nat) (v : RecBay) : (s.setRecBay b v).winWr = s.winWr := rfl
@[simp] theorem State.setRecBay_winRd (s : State) (b : Nat) (v : RecBay) : (s.setRecBay b v).winRd = s.winRd := rfl
@[simp] theorem State.setRecBay_stage (s : State) (b : Nat) (v : RecBay) : (s.setRecBay b v).stage = s.stage := rfl
@[simp] theorem State.setRecBay_markOwner (s : State) (b : Nat) (v : RecBay) : (s.setRecBay b v).markOwner = s.markOwner := rfl
@[simp] theorem State.setRecBay_calFrom (s : State) (b : Nat) (v : RecBay) : (s.setRecBay b v).calFrom = s.calFrom := rfl
@[simp] theorem State.setRecBay_calFcFrom (s : State) (b : Nat) (v : RecBay) : (s.setRecBay b v).calFcFrom = s.calFcFrom := rfl
@[simp] theorem State.setRecBay_pins (s : State) (b : Nat) (v : RecBay) : (s.setRecBay b v).pins = s.pins := rfl
@[simp] theorem State.setRecBay_evt (s : State) (b : Nat) (v : RecBay) : (s.setRecBay b v).evt = s.evt := rfl
@[simp] theorem State.setRecBay_tim (s : State) (b : Nat) (v : RecBay) : (s.setRecBay b v).tim = s.tim := rfl
@[simp] theorem State.setRecBay_hif (s : State) (b : Nat) (v : RecBay) : (s.setRecBay b v).hif = s.hif := rfl
@[simp] theorem State.setRecBay_rings (s : State) (b : Nat) (v : RecBay) : (s.setRecBay b v).rings = s.rings := rfl
@[simp] theorem State.setRecBay_mram (s : State) (b : Nat) (v : RecBay) : (s.setRecBay b v).mram = s.mram := rfl
@[simp] theorem State.setRecBay_rt (s : State) (b : Nat) (v : RecBay) : (s.setRecBay b v).rt = s.rt := rfl
@[simp] theorem State.setRecBay_bulk (s : State) (b : Nat) (v : RecBay) : (s.setRecBay b v).bulk = s.bulk := rfl
@[simp] theorem State.setRecBay_fpt (s : State) (b : Nat) (v : RecBay) : (s.setRecBay b v).fpt = s.fpt := rfl
@[simp] theorem State.setRecBay_ppl (s : State) (b : Nat) (v : RecBay) : (s.setRecBay b v).ppl = s.ppl := rfl
@[simp] theorem State.setRecBay_fwt (s : State) (b : Nat) (v : RecBay) : (s.setRecBay b v).fwt = s.fwt := rfl
@[simp] theorem State.setRecBay_sch (s : State) (b : Nat) (v : RecBay) : (s.setRecBay b v).sch = s.sch := rfl
@[simp] theorem State.setRecBay_cpu (s : State) (b : Nat) (v : RecBay) : (s.setRecBay b v).cpu = s.cpu := rfl
@[simp] theorem State.setRecBay_svi (s : State) (b : Nat) (v : RecBay) : (s.setRecBay b v).svi = s.svi := rfl
@[simp] theorem State.setRecBay_aln (s : State) (b : Nat) (v : RecBay) : (s.setRecBay b v).aln = s.aln := rfl
@[simp] theorem State.setRecBay_phe (s : State) (b : Nat) (v : RecBay) : (s.setRecBay b v).phe = s.phe := rfl
@[simp] theorem State.setRecBay_trp (s : State) (b : Nat) (v : RecBay) : (s.setRecBay b v).trp = s.trp := rfl
@[simp] theorem State.setRecBay_rma (s : State) (b : Nat) (v : RecBay) : (s.setRecBay b v).rma = s.rma := rfl
@[simp] theorem State.setRecBay_stg (s : State) (b : Nat) (v : RecBay) : (s.setRecBay b v).stg = s.stg := rfl
@[simp] theorem State.setRecBay_dma (s : State) (b : Nat) (v : RecBay) : (s.setRecBay b v).dma = s.dma := rfl
@[simp] theorem State.setRecBay_mem (s : State) (b : Nat) (v : RecBay) : (s.setRecBay b v).mem = s.mem := rfl
@[simp] theorem State.setRecBay_pwr (s : State) (b : Nat) (v : RecBay) : (s.setRecBay b v).pwr = s.pwr := rfl
@[simp] theorem State.setRecBay_boot (s : State) (b : Nat) (v : RecBay) : (s.setRecBay b v).boot = s.boot := rfl

/-! ## setSegs -/

@[simp] theorem State.setSegs_pending (s : State) (l : List Seg) : (s.setSegs l).pending = s.pending := rfl
@[simp] theorem State.setSegs_regs (s : State) (l : List Seg) : (s.setSegs l).regs = s.regs := rfl
@[simp] theorem State.setSegs_tick (s : State) (l : List Seg) : (s.setSegs l).tick = s.tick := rfl
@[simp] theorem State.setSegs_free (s : State) (l : List Seg) : (s.setSegs l).free = s.free := rfl
@[simp] theorem State.setSegs_reply (s : State) (l : List Seg) : (s.setSegs l).reply = s.reply := rfl
@[simp] theorem State.setSegs_sent (s : State) (l : List Seg) : (s.setSegs l).sent = s.sent := rfl
@[simp] theorem State.setSegs_rdHold (s : State) (l : List Seg) : (s.setSegs l).rdHold = s.rdHold := rfl
@[simp] theorem State.setSegs_wrHold (s : State) (l : List Seg) : (s.setSegs l).wrHold = s.wrHold := rfl
@[simp] theorem State.setSegs_winLive (s : State) (l : List Seg) : (s.setSegs l).winLive = s.winLive := rfl
@[simp] theorem State.setSegs_winShadow (s : State) (l : List Seg) : (s.setSegs l).winShadow = s.winShadow := rfl
@[simp] theorem State.setSegs_winWr (s : State) (l : List Seg) : (s.setSegs l).winWr = s.winWr := rfl
@[simp] theorem State.setSegs_winRd (s : State) (l : List Seg) : (s.setSegs l).winRd = s.winRd := rfl
@[simp] theorem State.setSegs_stage (s : State) (l : List Seg) : (s.setSegs l).stage = s.stage := rfl
@[simp] theorem State.setSegs_markOwner (s : State) (l : List Seg) : (s.setSegs l).markOwner = s.markOwner := rfl
@[simp] theorem State.setSegs_calFrom (s : State) (l : List Seg) : (s.setSegs l).calFrom = s.calFrom := rfl
@[simp] theorem State.setSegs_calFcFrom (s : State) (l : List Seg) : (s.setSegs l).calFcFrom = s.calFcFrom := rfl
@[simp] theorem State.setSegs_pins (s : State) (l : List Seg) : (s.setSegs l).pins = s.pins := rfl
@[simp] theorem State.setSegs_evt (s : State) (l : List Seg) : (s.setSegs l).evt = s.evt := rfl
@[simp] theorem State.setSegs_tim (s : State) (l : List Seg) : (s.setSegs l).tim = s.tim := rfl
@[simp] theorem State.setSegs_hif (s : State) (l : List Seg) : (s.setSegs l).hif = s.hif := rfl
@[simp] theorem State.setSegs_rings (s : State) (l : List Seg) : (s.setSegs l).rings = s.rings := rfl
@[simp] theorem State.setSegs_mram (s : State) (l : List Seg) : (s.setSegs l).mram = s.mram := rfl
@[simp] theorem State.setSegs_rt (s : State) (l : List Seg) : (s.setSegs l).rt = s.rt := rfl
@[simp] theorem State.setSegs_bulk (s : State) (l : List Seg) : (s.setSegs l).bulk = s.bulk := rfl
@[simp] theorem State.setSegs_fpt (s : State) (l : List Seg) : (s.setSegs l).fpt = s.fpt := rfl
@[simp] theorem State.setSegs_ppl (s : State) (l : List Seg) : (s.setSegs l).ppl = s.ppl := rfl
@[simp] theorem State.setSegs_fwt (s : State) (l : List Seg) : (s.setSegs l).fwt = s.fwt := rfl
@[simp] theorem State.setSegs_sch (s : State) (l : List Seg) : (s.setSegs l).sch = s.sch := rfl
@[simp] theorem State.setSegs_cpu (s : State) (l : List Seg) : (s.setSegs l).cpu = s.cpu := rfl
@[simp] theorem State.setSegs_svi (s : State) (l : List Seg) : (s.setSegs l).svi = s.svi := rfl
@[simp] theorem State.setSegs_aln (s : State) (l : List Seg) : (s.setSegs l).aln = s.aln := rfl
@[simp] theorem State.setSegs_phe (s : State) (l : List Seg) : (s.setSegs l).phe = s.phe := rfl
@[simp] theorem State.setSegs_trp (s : State) (l : List Seg) : (s.setSegs l).trp = s.trp := rfl
@[simp] theorem State.setSegs_rma (s : State) (l : List Seg) : (s.setSegs l).rma = s.rma := rfl
@[simp] theorem State.setSegs_stg (s : State) (l : List Seg) : (s.setSegs l).stg = s.stg := rfl
@[simp] theorem State.setSegs_dma (s : State) (l : List Seg) : (s.setSegs l).dma = s.dma := rfl
@[simp] theorem State.setSegs_mem (s : State) (l : List Seg) : (s.setSegs l).mem = s.mem := rfl
@[simp] theorem State.setSegs_pwr (s : State) (l : List Seg) : (s.setSegs l).pwr = s.pwr := rfl
@[simp] theorem State.setSegs_boot (s : State) (l : List Seg) : (s.setSegs l).boot = s.boot := rfl

/-! ## setBoot -/

@[simp] theorem State.setBoot_pending (s : State) (b : BootSt) : (s.setBoot b).pending = s.pending := rfl
@[simp] theorem State.setBoot_regs (s : State) (b : BootSt) : (s.setBoot b).regs = s.regs := rfl
@[simp] theorem State.setBoot_tick (s : State) (b : BootSt) : (s.setBoot b).tick = s.tick := rfl
@[simp] theorem State.setBoot_free (s : State) (b : BootSt) : (s.setBoot b).free = s.free := rfl
@[simp] theorem State.setBoot_reply (s : State) (b : BootSt) : (s.setBoot b).reply = s.reply := rfl
@[simp] theorem State.setBoot_sent (s : State) (b : BootSt) : (s.setBoot b).sent = s.sent := rfl
@[simp] theorem State.setBoot_rdHold (s : State) (b : BootSt) : (s.setBoot b).rdHold = s.rdHold := rfl
@[simp] theorem State.setBoot_wrHold (s : State) (b : BootSt) : (s.setBoot b).wrHold = s.wrHold := rfl
@[simp] theorem State.setBoot_winLive (s : State) (b : BootSt) : (s.setBoot b).winLive = s.winLive := rfl
@[simp] theorem State.setBoot_winShadow (s : State) (b : BootSt) : (s.setBoot b).winShadow = s.winShadow := rfl
@[simp] theorem State.setBoot_winWr (s : State) (b : BootSt) : (s.setBoot b).winWr = s.winWr := rfl
@[simp] theorem State.setBoot_winRd (s : State) (b : BootSt) : (s.setBoot b).winRd = s.winRd := rfl
@[simp] theorem State.setBoot_stage (s : State) (b : BootSt) : (s.setBoot b).stage = s.stage := rfl
@[simp] theorem State.setBoot_markOwner (s : State) (b : BootSt) : (s.setBoot b).markOwner = s.markOwner := rfl
@[simp] theorem State.setBoot_calFrom (s : State) (b : BootSt) : (s.setBoot b).calFrom = s.calFrom := rfl
@[simp] theorem State.setBoot_calFcFrom (s : State) (b : BootSt) : (s.setBoot b).calFcFrom = s.calFcFrom := rfl
@[simp] theorem State.setBoot_pins (s : State) (b : BootSt) : (s.setBoot b).pins = s.pins := rfl
@[simp] theorem State.setBoot_evt (s : State) (b : BootSt) : (s.setBoot b).evt = s.evt := rfl
@[simp] theorem State.setBoot_tim (s : State) (b : BootSt) : (s.setBoot b).tim = s.tim := rfl
@[simp] theorem State.setBoot_hif (s : State) (b : BootSt) : (s.setBoot b).hif = s.hif := rfl
@[simp] theorem State.setBoot_rings (s : State) (b : BootSt) : (s.setBoot b).rings = s.rings := rfl
@[simp] theorem State.setBoot_mram (s : State) (b : BootSt) : (s.setBoot b).mram = s.mram := rfl
@[simp] theorem State.setBoot_rt (s : State) (b : BootSt) : (s.setBoot b).rt = s.rt := rfl
@[simp] theorem State.setBoot_bulk (s : State) (b : BootSt) : (s.setBoot b).bulk = s.bulk := rfl
@[simp] theorem State.setBoot_fpt (s : State) (b : BootSt) : (s.setBoot b).fpt = s.fpt := rfl
@[simp] theorem State.setBoot_ppl (s : State) (b : BootSt) : (s.setBoot b).ppl = s.ppl := rfl
@[simp] theorem State.setBoot_fwt (s : State) (b : BootSt) : (s.setBoot b).fwt = s.fwt := rfl
@[simp] theorem State.setBoot_sch (s : State) (b : BootSt) : (s.setBoot b).sch = s.sch := rfl
@[simp] theorem State.setBoot_cpu (s : State) (b : BootSt) : (s.setBoot b).cpu = s.cpu := rfl
@[simp] theorem State.setBoot_svi (s : State) (b : BootSt) : (s.setBoot b).svi = s.svi := rfl
@[simp] theorem State.setBoot_aln (s : State) (b : BootSt) : (s.setBoot b).aln = s.aln := rfl
@[simp] theorem State.setBoot_phe (s : State) (b : BootSt) : (s.setBoot b).phe = s.phe := rfl
@[simp] theorem State.setBoot_trp (s : State) (b : BootSt) : (s.setBoot b).trp = s.trp := rfl
@[simp] theorem State.setBoot_rec_ (s : State) (b : BootSt) : (s.setBoot b).rec_ = s.rec_ := rfl
@[simp] theorem State.setBoot_rma (s : State) (b : BootSt) : (s.setBoot b).rma = s.rma := rfl
@[simp] theorem State.setBoot_stg (s : State) (b : BootSt) : (s.setBoot b).stg = s.stg := rfl
@[simp] theorem State.setBoot_dma (s : State) (b : BootSt) : (s.setBoot b).dma = s.dma := rfl
@[simp] theorem State.setBoot_mem (s : State) (b : BootSt) : (s.setBoot b).mem = s.mem := rfl
@[simp] theorem State.setBoot_pwr (s : State) (b : BootSt) : (s.setBoot b).pwr = s.pwr := rfl

/-! ## setCfg -/

@[simp] theorem State.setCfg_pending (s : State) (f : Nat) (c : FnCfg) : (s.setCfg f c).pending = s.pending := rfl
@[simp] theorem State.setCfg_regs (s : State) (f : Nat) (c : FnCfg) : (s.setCfg f c).regs = s.regs := rfl
@[simp] theorem State.setCfg_tick (s : State) (f : Nat) (c : FnCfg) : (s.setCfg f c).tick = s.tick := rfl
@[simp] theorem State.setCfg_free (s : State) (f : Nat) (c : FnCfg) : (s.setCfg f c).free = s.free := rfl
@[simp] theorem State.setCfg_reply (s : State) (f : Nat) (c : FnCfg) : (s.setCfg f c).reply = s.reply := rfl
@[simp] theorem State.setCfg_sent (s : State) (f : Nat) (c : FnCfg) : (s.setCfg f c).sent = s.sent := rfl
@[simp] theorem State.setCfg_rdHold (s : State) (f : Nat) (c : FnCfg) : (s.setCfg f c).rdHold = s.rdHold := rfl
@[simp] theorem State.setCfg_wrHold (s : State) (f : Nat) (c : FnCfg) : (s.setCfg f c).wrHold = s.wrHold := rfl
@[simp] theorem State.setCfg_winLive (s : State) (f : Nat) (c : FnCfg) : (s.setCfg f c).winLive = s.winLive := rfl
@[simp] theorem State.setCfg_winShadow (s : State) (f : Nat) (c : FnCfg) : (s.setCfg f c).winShadow = s.winShadow := rfl
@[simp] theorem State.setCfg_winWr (s : State) (f : Nat) (c : FnCfg) : (s.setCfg f c).winWr = s.winWr := rfl
@[simp] theorem State.setCfg_winRd (s : State) (f : Nat) (c : FnCfg) : (s.setCfg f c).winRd = s.winRd := rfl
@[simp] theorem State.setCfg_stage (s : State) (f : Nat) (c : FnCfg) : (s.setCfg f c).stage = s.stage := rfl
@[simp] theorem State.setCfg_markOwner (s : State) (f : Nat) (c : FnCfg) : (s.setCfg f c).markOwner = s.markOwner := rfl
@[simp] theorem State.setCfg_calFrom (s : State) (f : Nat) (c : FnCfg) : (s.setCfg f c).calFrom = s.calFrom := rfl
@[simp] theorem State.setCfg_calFcFrom (s : State) (f : Nat) (c : FnCfg) : (s.setCfg f c).calFcFrom = s.calFcFrom := rfl
@[simp] theorem State.setCfg_pins (s : State) (f : Nat) (c : FnCfg) : (s.setCfg f c).pins = s.pins := rfl
@[simp] theorem State.setCfg_evt (s : State) (f : Nat) (c : FnCfg) : (s.setCfg f c).evt = s.evt := rfl
@[simp] theorem State.setCfg_tim (s : State) (f : Nat) (c : FnCfg) : (s.setCfg f c).tim = s.tim := rfl
@[simp] theorem State.setCfg_rings (s : State) (f : Nat) (c : FnCfg) : (s.setCfg f c).rings = s.rings := rfl
@[simp] theorem State.setCfg_mram (s : State) (f : Nat) (c : FnCfg) : (s.setCfg f c).mram = s.mram := rfl
@[simp] theorem State.setCfg_rt (s : State) (f : Nat) (c : FnCfg) : (s.setCfg f c).rt = s.rt := rfl
@[simp] theorem State.setCfg_bulk (s : State) (f : Nat) (c : FnCfg) : (s.setCfg f c).bulk = s.bulk := rfl
@[simp] theorem State.setCfg_fpt (s : State) (f : Nat) (c : FnCfg) : (s.setCfg f c).fpt = s.fpt := rfl
@[simp] theorem State.setCfg_ppl (s : State) (f : Nat) (c : FnCfg) : (s.setCfg f c).ppl = s.ppl := rfl
@[simp] theorem State.setCfg_fwt (s : State) (f : Nat) (c : FnCfg) : (s.setCfg f c).fwt = s.fwt := rfl
@[simp] theorem State.setCfg_sch (s : State) (f : Nat) (c : FnCfg) : (s.setCfg f c).sch = s.sch := rfl
@[simp] theorem State.setCfg_cpu (s : State) (f : Nat) (c : FnCfg) : (s.setCfg f c).cpu = s.cpu := rfl
@[simp] theorem State.setCfg_svi (s : State) (f : Nat) (c : FnCfg) : (s.setCfg f c).svi = s.svi := rfl
@[simp] theorem State.setCfg_aln (s : State) (f : Nat) (c : FnCfg) : (s.setCfg f c).aln = s.aln := rfl
@[simp] theorem State.setCfg_phe (s : State) (f : Nat) (c : FnCfg) : (s.setCfg f c).phe = s.phe := rfl
@[simp] theorem State.setCfg_trp (s : State) (f : Nat) (c : FnCfg) : (s.setCfg f c).trp = s.trp := rfl
@[simp] theorem State.setCfg_rec_ (s : State) (f : Nat) (c : FnCfg) : (s.setCfg f c).rec_ = s.rec_ := rfl
@[simp] theorem State.setCfg_rma (s : State) (f : Nat) (c : FnCfg) : (s.setCfg f c).rma = s.rma := rfl
@[simp] theorem State.setCfg_stg (s : State) (f : Nat) (c : FnCfg) : (s.setCfg f c).stg = s.stg := rfl
@[simp] theorem State.setCfg_dma (s : State) (f : Nat) (c : FnCfg) : (s.setCfg f c).dma = s.dma := rfl
@[simp] theorem State.setCfg_mem (s : State) (f : Nat) (c : FnCfg) : (s.setCfg f c).mem = s.mem := rfl
@[simp] theorem State.setCfg_pwr (s : State) (f : Nat) (c : FnCfg) : (s.setCfg f c).pwr = s.pwr := rfl
@[simp] theorem State.setCfg_boot (s : State) (f : Nat) (c : FnCfg) : (s.setCfg f c).boot = s.boot := rfl

/-! ## setRing -/

@[simp] theorem State.setRing_pending (s : State) (g : Nat) (r : RingSt) : (s.setRing g r).pending = s.pending := rfl
@[simp] theorem State.setRing_regs (s : State) (g : Nat) (r : RingSt) : (s.setRing g r).regs = s.regs := rfl
@[simp] theorem State.setRing_tick (s : State) (g : Nat) (r : RingSt) : (s.setRing g r).tick = s.tick := rfl
@[simp] theorem State.setRing_free (s : State) (g : Nat) (r : RingSt) : (s.setRing g r).free = s.free := rfl
@[simp] theorem State.setRing_reply (s : State) (g : Nat) (r : RingSt) : (s.setRing g r).reply = s.reply := rfl
@[simp] theorem State.setRing_sent (s : State) (g : Nat) (r : RingSt) : (s.setRing g r).sent = s.sent := rfl
@[simp] theorem State.setRing_rdHold (s : State) (g : Nat) (r : RingSt) : (s.setRing g r).rdHold = s.rdHold := rfl
@[simp] theorem State.setRing_wrHold (s : State) (g : Nat) (r : RingSt) : (s.setRing g r).wrHold = s.wrHold := rfl
@[simp] theorem State.setRing_winLive (s : State) (g : Nat) (r : RingSt) : (s.setRing g r).winLive = s.winLive := rfl
@[simp] theorem State.setRing_winShadow (s : State) (g : Nat) (r : RingSt) : (s.setRing g r).winShadow = s.winShadow := rfl
@[simp] theorem State.setRing_winWr (s : State) (g : Nat) (r : RingSt) : (s.setRing g r).winWr = s.winWr := rfl
@[simp] theorem State.setRing_winRd (s : State) (g : Nat) (r : RingSt) : (s.setRing g r).winRd = s.winRd := rfl
@[simp] theorem State.setRing_stage (s : State) (g : Nat) (r : RingSt) : (s.setRing g r).stage = s.stage := rfl
@[simp] theorem State.setRing_markOwner (s : State) (g : Nat) (r : RingSt) : (s.setRing g r).markOwner = s.markOwner := rfl
@[simp] theorem State.setRing_calFrom (s : State) (g : Nat) (r : RingSt) : (s.setRing g r).calFrom = s.calFrom := rfl
@[simp] theorem State.setRing_calFcFrom (s : State) (g : Nat) (r : RingSt) : (s.setRing g r).calFcFrom = s.calFcFrom := rfl
@[simp] theorem State.setRing_pins (s : State) (g : Nat) (r : RingSt) : (s.setRing g r).pins = s.pins := rfl
@[simp] theorem State.setRing_evt (s : State) (g : Nat) (r : RingSt) : (s.setRing g r).evt = s.evt := rfl
@[simp] theorem State.setRing_tim (s : State) (g : Nat) (r : RingSt) : (s.setRing g r).tim = s.tim := rfl
@[simp] theorem State.setRing_hif (s : State) (g : Nat) (r : RingSt) : (s.setRing g r).hif = s.hif := rfl
@[simp] theorem State.setRing_mram (s : State) (g : Nat) (r : RingSt) : (s.setRing g r).mram = s.mram := rfl
@[simp] theorem State.setRing_rt (s : State) (g : Nat) (r : RingSt) : (s.setRing g r).rt = s.rt := rfl
@[simp] theorem State.setRing_bulk (s : State) (g : Nat) (r : RingSt) : (s.setRing g r).bulk = s.bulk := rfl
@[simp] theorem State.setRing_fpt (s : State) (g : Nat) (r : RingSt) : (s.setRing g r).fpt = s.fpt := rfl
@[simp] theorem State.setRing_ppl (s : State) (g : Nat) (r : RingSt) : (s.setRing g r).ppl = s.ppl := rfl
@[simp] theorem State.setRing_fwt (s : State) (g : Nat) (r : RingSt) : (s.setRing g r).fwt = s.fwt := rfl
@[simp] theorem State.setRing_sch (s : State) (g : Nat) (r : RingSt) : (s.setRing g r).sch = s.sch := rfl
@[simp] theorem State.setRing_cpu (s : State) (g : Nat) (r : RingSt) : (s.setRing g r).cpu = s.cpu := rfl
@[simp] theorem State.setRing_svi (s : State) (g : Nat) (r : RingSt) : (s.setRing g r).svi = s.svi := rfl
@[simp] theorem State.setRing_aln (s : State) (g : Nat) (r : RingSt) : (s.setRing g r).aln = s.aln := rfl
@[simp] theorem State.setRing_phe (s : State) (g : Nat) (r : RingSt) : (s.setRing g r).phe = s.phe := rfl
@[simp] theorem State.setRing_trp (s : State) (g : Nat) (r : RingSt) : (s.setRing g r).trp = s.trp := rfl
@[simp] theorem State.setRing_rec_ (s : State) (g : Nat) (r : RingSt) : (s.setRing g r).rec_ = s.rec_ := rfl
@[simp] theorem State.setRing_rma (s : State) (g : Nat) (r : RingSt) : (s.setRing g r).rma = s.rma := rfl
@[simp] theorem State.setRing_stg (s : State) (g : Nat) (r : RingSt) : (s.setRing g r).stg = s.stg := rfl
@[simp] theorem State.setRing_dma (s : State) (g : Nat) (r : RingSt) : (s.setRing g r).dma = s.dma := rfl
@[simp] theorem State.setRing_mem (s : State) (g : Nat) (r : RingSt) : (s.setRing g r).mem = s.mem := rfl
@[simp] theorem State.setRing_pwr (s : State) (g : Nat) (r : RingSt) : (s.setRing g r).pwr = s.pwr := rfl
@[simp] theorem State.setRing_boot (s : State) (g : Nat) (r : RingSt) : (s.setRing g r).boot = s.boot := rfl

/-! ## setStage -/

@[simp] theorem State.setStage_pending (s : State) (b : Blk) (x : StageSt) : (s.setStage b x).pending = s.pending := rfl
@[simp] theorem State.setStage_regs (s : State) (b : Blk) (x : StageSt) : (s.setStage b x).regs = s.regs := rfl
@[simp] theorem State.setStage_tick (s : State) (b : Blk) (x : StageSt) : (s.setStage b x).tick = s.tick := rfl
@[simp] theorem State.setStage_free (s : State) (b : Blk) (x : StageSt) : (s.setStage b x).free = s.free := rfl
@[simp] theorem State.setStage_reply (s : State) (b : Blk) (x : StageSt) : (s.setStage b x).reply = s.reply := rfl
@[simp] theorem State.setStage_sent (s : State) (b : Blk) (x : StageSt) : (s.setStage b x).sent = s.sent := rfl
@[simp] theorem State.setStage_rdHold (s : State) (b : Blk) (x : StageSt) : (s.setStage b x).rdHold = s.rdHold := rfl
@[simp] theorem State.setStage_wrHold (s : State) (b : Blk) (x : StageSt) : (s.setStage b x).wrHold = s.wrHold := rfl
@[simp] theorem State.setStage_winLive (s : State) (b : Blk) (x : StageSt) : (s.setStage b x).winLive = s.winLive := rfl
@[simp] theorem State.setStage_winShadow (s : State) (b : Blk) (x : StageSt) : (s.setStage b x).winShadow = s.winShadow := rfl
@[simp] theorem State.setStage_winWr (s : State) (b : Blk) (x : StageSt) : (s.setStage b x).winWr = s.winWr := rfl
@[simp] theorem State.setStage_winRd (s : State) (b : Blk) (x : StageSt) : (s.setStage b x).winRd = s.winRd := rfl
@[simp] theorem State.setStage_markOwner (s : State) (b : Blk) (x : StageSt) : (s.setStage b x).markOwner = s.markOwner := rfl
@[simp] theorem State.setStage_calFrom (s : State) (b : Blk) (x : StageSt) : (s.setStage b x).calFrom = s.calFrom := rfl
@[simp] theorem State.setStage_calFcFrom (s : State) (b : Blk) (x : StageSt) : (s.setStage b x).calFcFrom = s.calFcFrom := rfl
@[simp] theorem State.setStage_pins (s : State) (b : Blk) (x : StageSt) : (s.setStage b x).pins = s.pins := rfl
@[simp] theorem State.setStage_evt (s : State) (b : Blk) (x : StageSt) : (s.setStage b x).evt = s.evt := rfl
@[simp] theorem State.setStage_tim (s : State) (b : Blk) (x : StageSt) : (s.setStage b x).tim = s.tim := rfl
@[simp] theorem State.setStage_hif (s : State) (b : Blk) (x : StageSt) : (s.setStage b x).hif = s.hif := rfl
@[simp] theorem State.setStage_rings (s : State) (b : Blk) (x : StageSt) : (s.setStage b x).rings = s.rings := rfl
@[simp] theorem State.setStage_mram (s : State) (b : Blk) (x : StageSt) : (s.setStage b x).mram = s.mram := rfl
@[simp] theorem State.setStage_rt (s : State) (b : Blk) (x : StageSt) : (s.setStage b x).rt = s.rt := rfl
@[simp] theorem State.setStage_bulk (s : State) (b : Blk) (x : StageSt) : (s.setStage b x).bulk = s.bulk := rfl
@[simp] theorem State.setStage_fpt (s : State) (b : Blk) (x : StageSt) : (s.setStage b x).fpt = s.fpt := rfl
@[simp] theorem State.setStage_ppl (s : State) (b : Blk) (x : StageSt) : (s.setStage b x).ppl = s.ppl := rfl
@[simp] theorem State.setStage_fwt (s : State) (b : Blk) (x : StageSt) : (s.setStage b x).fwt = s.fwt := rfl
@[simp] theorem State.setStage_sch (s : State) (b : Blk) (x : StageSt) : (s.setStage b x).sch = s.sch := rfl
@[simp] theorem State.setStage_cpu (s : State) (b : Blk) (x : StageSt) : (s.setStage b x).cpu = s.cpu := rfl
@[simp] theorem State.setStage_svi (s : State) (b : Blk) (x : StageSt) : (s.setStage b x).svi = s.svi := rfl
@[simp] theorem State.setStage_aln (s : State) (b : Blk) (x : StageSt) : (s.setStage b x).aln = s.aln := rfl
@[simp] theorem State.setStage_phe (s : State) (b : Blk) (x : StageSt) : (s.setStage b x).phe = s.phe := rfl
@[simp] theorem State.setStage_trp (s : State) (b : Blk) (x : StageSt) : (s.setStage b x).trp = s.trp := rfl
@[simp] theorem State.setStage_rec_ (s : State) (b : Blk) (x : StageSt) : (s.setStage b x).rec_ = s.rec_ := rfl
@[simp] theorem State.setStage_rma (s : State) (b : Blk) (x : StageSt) : (s.setStage b x).rma = s.rma := rfl
@[simp] theorem State.setStage_stg (s : State) (b : Blk) (x : StageSt) : (s.setStage b x).stg = s.stg := rfl
@[simp] theorem State.setStage_dma (s : State) (b : Blk) (x : StageSt) : (s.setStage b x).dma = s.dma := rfl
@[simp] theorem State.setStage_mem (s : State) (b : Blk) (x : StageSt) : (s.setStage b x).mem = s.mem := rfl
@[simp] theorem State.setStage_pwr (s : State) (b : Blk) (x : StageSt) : (s.setStage b x).pwr = s.pwr := rfl
@[simp] theorem State.setStage_boot (s : State) (b : Blk) (x : StageSt) : (s.setStage b x).boot = s.boot := rfl

/-! ## setPwr -/

@[simp] theorem State.setPwr_pending (s : State) (p : PwrSt) : (s.setPwr p).pending = s.pending := rfl
@[simp] theorem State.setPwr_regs (s : State) (p : PwrSt) : (s.setPwr p).regs = s.regs := rfl
@[simp] theorem State.setPwr_tick (s : State) (p : PwrSt) : (s.setPwr p).tick = s.tick := rfl
@[simp] theorem State.setPwr_free (s : State) (p : PwrSt) : (s.setPwr p).free = s.free := rfl
@[simp] theorem State.setPwr_reply (s : State) (p : PwrSt) : (s.setPwr p).reply = s.reply := rfl
@[simp] theorem State.setPwr_sent (s : State) (p : PwrSt) : (s.setPwr p).sent = s.sent := rfl
@[simp] theorem State.setPwr_rdHold (s : State) (p : PwrSt) : (s.setPwr p).rdHold = s.rdHold := rfl
@[simp] theorem State.setPwr_wrHold (s : State) (p : PwrSt) : (s.setPwr p).wrHold = s.wrHold := rfl
@[simp] theorem State.setPwr_winLive (s : State) (p : PwrSt) : (s.setPwr p).winLive = s.winLive := rfl
@[simp] theorem State.setPwr_winShadow (s : State) (p : PwrSt) : (s.setPwr p).winShadow = s.winShadow := rfl
@[simp] theorem State.setPwr_winWr (s : State) (p : PwrSt) : (s.setPwr p).winWr = s.winWr := rfl
@[simp] theorem State.setPwr_winRd (s : State) (p : PwrSt) : (s.setPwr p).winRd = s.winRd := rfl
@[simp] theorem State.setPwr_stage (s : State) (p : PwrSt) : (s.setPwr p).stage = s.stage := rfl
@[simp] theorem State.setPwr_markOwner (s : State) (p : PwrSt) : (s.setPwr p).markOwner = s.markOwner := rfl
@[simp] theorem State.setPwr_calFrom (s : State) (p : PwrSt) : (s.setPwr p).calFrom = s.calFrom := rfl
@[simp] theorem State.setPwr_calFcFrom (s : State) (p : PwrSt) : (s.setPwr p).calFcFrom = s.calFcFrom := rfl
@[simp] theorem State.setPwr_pins (s : State) (p : PwrSt) : (s.setPwr p).pins = s.pins := rfl
@[simp] theorem State.setPwr_evt (s : State) (p : PwrSt) : (s.setPwr p).evt = s.evt := rfl
@[simp] theorem State.setPwr_tim (s : State) (p : PwrSt) : (s.setPwr p).tim = s.tim := rfl
@[simp] theorem State.setPwr_hif (s : State) (p : PwrSt) : (s.setPwr p).hif = s.hif := rfl
@[simp] theorem State.setPwr_rings (s : State) (p : PwrSt) : (s.setPwr p).rings = s.rings := rfl
@[simp] theorem State.setPwr_mram (s : State) (p : PwrSt) : (s.setPwr p).mram = s.mram := rfl
@[simp] theorem State.setPwr_rt (s : State) (p : PwrSt) : (s.setPwr p).rt = s.rt := rfl
@[simp] theorem State.setPwr_bulk (s : State) (p : PwrSt) : (s.setPwr p).bulk = s.bulk := rfl
@[simp] theorem State.setPwr_fpt (s : State) (p : PwrSt) : (s.setPwr p).fpt = s.fpt := rfl
@[simp] theorem State.setPwr_ppl (s : State) (p : PwrSt) : (s.setPwr p).ppl = s.ppl := rfl
@[simp] theorem State.setPwr_fwt (s : State) (p : PwrSt) : (s.setPwr p).fwt = s.fwt := rfl
@[simp] theorem State.setPwr_sch (s : State) (p : PwrSt) : (s.setPwr p).sch = s.sch := rfl
@[simp] theorem State.setPwr_cpu (s : State) (p : PwrSt) : (s.setPwr p).cpu = s.cpu := rfl
@[simp] theorem State.setPwr_svi (s : State) (p : PwrSt) : (s.setPwr p).svi = s.svi := rfl
@[simp] theorem State.setPwr_aln (s : State) (p : PwrSt) : (s.setPwr p).aln = s.aln := rfl
@[simp] theorem State.setPwr_phe (s : State) (p : PwrSt) : (s.setPwr p).phe = s.phe := rfl
@[simp] theorem State.setPwr_trp (s : State) (p : PwrSt) : (s.setPwr p).trp = s.trp := rfl
@[simp] theorem State.setPwr_rec_ (s : State) (p : PwrSt) : (s.setPwr p).rec_ = s.rec_ := rfl
@[simp] theorem State.setPwr_rma (s : State) (p : PwrSt) : (s.setPwr p).rma = s.rma := rfl
@[simp] theorem State.setPwr_stg (s : State) (p : PwrSt) : (s.setPwr p).stg = s.stg := rfl
@[simp] theorem State.setPwr_dma (s : State) (p : PwrSt) : (s.setPwr p).dma = s.dma := rfl
@[simp] theorem State.setPwr_mem (s : State) (p : PwrSt) : (s.setPwr p).mem = s.mem := rfl
@[simp] theorem State.setPwr_boot (s : State) (p : PwrSt) : (s.setPwr p).boot = s.boot := rfl

/-! ## setSrc -/

@[simp] theorem State.setSrc_pending (s : State) (n : Nat) (x : SrcSt) : (s.setSrc n x).pending = s.pending := rfl
@[simp] theorem State.setSrc_regs (s : State) (n : Nat) (x : SrcSt) : (s.setSrc n x).regs = s.regs := rfl
@[simp] theorem State.setSrc_tick (s : State) (n : Nat) (x : SrcSt) : (s.setSrc n x).tick = s.tick := rfl
@[simp] theorem State.setSrc_free (s : State) (n : Nat) (x : SrcSt) : (s.setSrc n x).free = s.free := rfl
@[simp] theorem State.setSrc_reply (s : State) (n : Nat) (x : SrcSt) : (s.setSrc n x).reply = s.reply := rfl
@[simp] theorem State.setSrc_sent (s : State) (n : Nat) (x : SrcSt) : (s.setSrc n x).sent = s.sent := rfl
@[simp] theorem State.setSrc_rdHold (s : State) (n : Nat) (x : SrcSt) : (s.setSrc n x).rdHold = s.rdHold := rfl
@[simp] theorem State.setSrc_wrHold (s : State) (n : Nat) (x : SrcSt) : (s.setSrc n x).wrHold = s.wrHold := rfl
@[simp] theorem State.setSrc_winLive (s : State) (n : Nat) (x : SrcSt) : (s.setSrc n x).winLive = s.winLive := rfl
@[simp] theorem State.setSrc_winShadow (s : State) (n : Nat) (x : SrcSt) : (s.setSrc n x).winShadow = s.winShadow := rfl
@[simp] theorem State.setSrc_winWr (s : State) (n : Nat) (x : SrcSt) : (s.setSrc n x).winWr = s.winWr := rfl
@[simp] theorem State.setSrc_winRd (s : State) (n : Nat) (x : SrcSt) : (s.setSrc n x).winRd = s.winRd := rfl
@[simp] theorem State.setSrc_stage (s : State) (n : Nat) (x : SrcSt) : (s.setSrc n x).stage = s.stage := rfl
@[simp] theorem State.setSrc_markOwner (s : State) (n : Nat) (x : SrcSt) : (s.setSrc n x).markOwner = s.markOwner := rfl
@[simp] theorem State.setSrc_calFrom (s : State) (n : Nat) (x : SrcSt) : (s.setSrc n x).calFrom = s.calFrom := rfl
@[simp] theorem State.setSrc_calFcFrom (s : State) (n : Nat) (x : SrcSt) : (s.setSrc n x).calFcFrom = s.calFcFrom := rfl
@[simp] theorem State.setSrc_pins (s : State) (n : Nat) (x : SrcSt) : (s.setSrc n x).pins = s.pins := rfl
@[simp] theorem State.setSrc_evt (s : State) (n : Nat) (x : SrcSt) : (s.setSrc n x).evt = s.evt := rfl
@[simp] theorem State.setSrc_hif (s : State) (n : Nat) (x : SrcSt) : (s.setSrc n x).hif = s.hif := rfl
@[simp] theorem State.setSrc_rings (s : State) (n : Nat) (x : SrcSt) : (s.setSrc n x).rings = s.rings := rfl
@[simp] theorem State.setSrc_mram (s : State) (n : Nat) (x : SrcSt) : (s.setSrc n x).mram = s.mram := rfl
@[simp] theorem State.setSrc_rt (s : State) (n : Nat) (x : SrcSt) : (s.setSrc n x).rt = s.rt := rfl
@[simp] theorem State.setSrc_bulk (s : State) (n : Nat) (x : SrcSt) : (s.setSrc n x).bulk = s.bulk := rfl
@[simp] theorem State.setSrc_fpt (s : State) (n : Nat) (x : SrcSt) : (s.setSrc n x).fpt = s.fpt := rfl
@[simp] theorem State.setSrc_ppl (s : State) (n : Nat) (x : SrcSt) : (s.setSrc n x).ppl = s.ppl := rfl
@[simp] theorem State.setSrc_fwt (s : State) (n : Nat) (x : SrcSt) : (s.setSrc n x).fwt = s.fwt := rfl
@[simp] theorem State.setSrc_sch (s : State) (n : Nat) (x : SrcSt) : (s.setSrc n x).sch = s.sch := rfl
@[simp] theorem State.setSrc_cpu (s : State) (n : Nat) (x : SrcSt) : (s.setSrc n x).cpu = s.cpu := rfl
@[simp] theorem State.setSrc_svi (s : State) (n : Nat) (x : SrcSt) : (s.setSrc n x).svi = s.svi := rfl
@[simp] theorem State.setSrc_aln (s : State) (n : Nat) (x : SrcSt) : (s.setSrc n x).aln = s.aln := rfl
@[simp] theorem State.setSrc_phe (s : State) (n : Nat) (x : SrcSt) : (s.setSrc n x).phe = s.phe := rfl
@[simp] theorem State.setSrc_trp (s : State) (n : Nat) (x : SrcSt) : (s.setSrc n x).trp = s.trp := rfl
@[simp] theorem State.setSrc_rec_ (s : State) (n : Nat) (x : SrcSt) : (s.setSrc n x).rec_ = s.rec_ := rfl
@[simp] theorem State.setSrc_rma (s : State) (n : Nat) (x : SrcSt) : (s.setSrc n x).rma = s.rma := rfl
@[simp] theorem State.setSrc_stg (s : State) (n : Nat) (x : SrcSt) : (s.setSrc n x).stg = s.stg := rfl
@[simp] theorem State.setSrc_dma (s : State) (n : Nat) (x : SrcSt) : (s.setSrc n x).dma = s.dma := rfl
@[simp] theorem State.setSrc_mem (s : State) (n : Nat) (x : SrcSt) : (s.setSrc n x).mem = s.mem := rfl
@[simp] theorem State.setSrc_pwr (s : State) (n : Nat) (x : SrcSt) : (s.setSrc n x).pwr = s.pwr := rfl
@[simp] theorem State.setSrc_boot (s : State) (n : Nat) (x : SrcSt) : (s.setSrc n x).boot = s.boot := rfl

/-! ## setTim -/

@[simp] theorem State.setTim_pending (s : State) (t : TimSt) : (s.setTim t).pending = s.pending := rfl
@[simp] theorem State.setTim_regs (s : State) (t : TimSt) : (s.setTim t).regs = s.regs := rfl
@[simp] theorem State.setTim_tick (s : State) (t : TimSt) : (s.setTim t).tick = s.tick := rfl
@[simp] theorem State.setTim_free (s : State) (t : TimSt) : (s.setTim t).free = s.free := rfl
@[simp] theorem State.setTim_reply (s : State) (t : TimSt) : (s.setTim t).reply = s.reply := rfl
@[simp] theorem State.setTim_sent (s : State) (t : TimSt) : (s.setTim t).sent = s.sent := rfl
@[simp] theorem State.setTim_rdHold (s : State) (t : TimSt) : (s.setTim t).rdHold = s.rdHold := rfl
@[simp] theorem State.setTim_wrHold (s : State) (t : TimSt) : (s.setTim t).wrHold = s.wrHold := rfl
@[simp] theorem State.setTim_winLive (s : State) (t : TimSt) : (s.setTim t).winLive = s.winLive := rfl
@[simp] theorem State.setTim_winShadow (s : State) (t : TimSt) : (s.setTim t).winShadow = s.winShadow := rfl
@[simp] theorem State.setTim_winWr (s : State) (t : TimSt) : (s.setTim t).winWr = s.winWr := rfl
@[simp] theorem State.setTim_winRd (s : State) (t : TimSt) : (s.setTim t).winRd = s.winRd := rfl
@[simp] theorem State.setTim_stage (s : State) (t : TimSt) : (s.setTim t).stage = s.stage := rfl
@[simp] theorem State.setTim_markOwner (s : State) (t : TimSt) : (s.setTim t).markOwner = s.markOwner := rfl
@[simp] theorem State.setTim_calFrom (s : State) (t : TimSt) : (s.setTim t).calFrom = s.calFrom := rfl
@[simp] theorem State.setTim_calFcFrom (s : State) (t : TimSt) : (s.setTim t).calFcFrom = s.calFcFrom := rfl
@[simp] theorem State.setTim_pins (s : State) (t : TimSt) : (s.setTim t).pins = s.pins := rfl
@[simp] theorem State.setTim_evt (s : State) (t : TimSt) : (s.setTim t).evt = s.evt := rfl
@[simp] theorem State.setTim_hif (s : State) (t : TimSt) : (s.setTim t).hif = s.hif := rfl
@[simp] theorem State.setTim_rings (s : State) (t : TimSt) : (s.setTim t).rings = s.rings := rfl
@[simp] theorem State.setTim_mram (s : State) (t : TimSt) : (s.setTim t).mram = s.mram := rfl
@[simp] theorem State.setTim_rt (s : State) (t : TimSt) : (s.setTim t).rt = s.rt := rfl
@[simp] theorem State.setTim_bulk (s : State) (t : TimSt) : (s.setTim t).bulk = s.bulk := rfl
@[simp] theorem State.setTim_fpt (s : State) (t : TimSt) : (s.setTim t).fpt = s.fpt := rfl
@[simp] theorem State.setTim_ppl (s : State) (t : TimSt) : (s.setTim t).ppl = s.ppl := rfl
@[simp] theorem State.setTim_fwt (s : State) (t : TimSt) : (s.setTim t).fwt = s.fwt := rfl
@[simp] theorem State.setTim_sch (s : State) (t : TimSt) : (s.setTim t).sch = s.sch := rfl
@[simp] theorem State.setTim_cpu (s : State) (t : TimSt) : (s.setTim t).cpu = s.cpu := rfl
@[simp] theorem State.setTim_svi (s : State) (t : TimSt) : (s.setTim t).svi = s.svi := rfl
@[simp] theorem State.setTim_aln (s : State) (t : TimSt) : (s.setTim t).aln = s.aln := rfl
@[simp] theorem State.setTim_phe (s : State) (t : TimSt) : (s.setTim t).phe = s.phe := rfl
@[simp] theorem State.setTim_trp (s : State) (t : TimSt) : (s.setTim t).trp = s.trp := rfl
@[simp] theorem State.setTim_rec_ (s : State) (t : TimSt) : (s.setTim t).rec_ = s.rec_ := rfl
@[simp] theorem State.setTim_rma (s : State) (t : TimSt) : (s.setTim t).rma = s.rma := rfl
@[simp] theorem State.setTim_stg (s : State) (t : TimSt) : (s.setTim t).stg = s.stg := rfl
@[simp] theorem State.setTim_dma (s : State) (t : TimSt) : (s.setTim t).dma = s.dma := rfl
@[simp] theorem State.setTim_mem (s : State) (t : TimSt) : (s.setTim t).mem = s.mem := rfl
@[simp] theorem State.setTim_pwr (s : State) (t : TimSt) : (s.setTim t).pwr = s.pwr := rfl
@[simp] theorem State.setTim_boot (s : State) (t : TimSt) : (s.setTim t).boot = s.boot := rfl

/-! ## setCmp -/

@[simp] theorem State.setCmp_pending (s : State) (c : Nat) (v : CmpSt) : (s.setCmp c v).pending = s.pending := rfl
@[simp] theorem State.setCmp_regs (s : State) (c : Nat) (v : CmpSt) : (s.setCmp c v).regs = s.regs := rfl
@[simp] theorem State.setCmp_tick (s : State) (c : Nat) (v : CmpSt) : (s.setCmp c v).tick = s.tick := rfl
@[simp] theorem State.setCmp_free (s : State) (c : Nat) (v : CmpSt) : (s.setCmp c v).free = s.free := rfl
@[simp] theorem State.setCmp_reply (s : State) (c : Nat) (v : CmpSt) : (s.setCmp c v).reply = s.reply := rfl
@[simp] theorem State.setCmp_sent (s : State) (c : Nat) (v : CmpSt) : (s.setCmp c v).sent = s.sent := rfl
@[simp] theorem State.setCmp_rdHold (s : State) (c : Nat) (v : CmpSt) : (s.setCmp c v).rdHold = s.rdHold := rfl
@[simp] theorem State.setCmp_wrHold (s : State) (c : Nat) (v : CmpSt) : (s.setCmp c v).wrHold = s.wrHold := rfl
@[simp] theorem State.setCmp_winLive (s : State) (c : Nat) (v : CmpSt) : (s.setCmp c v).winLive = s.winLive := rfl
@[simp] theorem State.setCmp_winShadow (s : State) (c : Nat) (v : CmpSt) : (s.setCmp c v).winShadow = s.winShadow := rfl
@[simp] theorem State.setCmp_winWr (s : State) (c : Nat) (v : CmpSt) : (s.setCmp c v).winWr = s.winWr := rfl
@[simp] theorem State.setCmp_winRd (s : State) (c : Nat) (v : CmpSt) : (s.setCmp c v).winRd = s.winRd := rfl
@[simp] theorem State.setCmp_stage (s : State) (c : Nat) (v : CmpSt) : (s.setCmp c v).stage = s.stage := rfl
@[simp] theorem State.setCmp_markOwner (s : State) (c : Nat) (v : CmpSt) : (s.setCmp c v).markOwner = s.markOwner := rfl
@[simp] theorem State.setCmp_calFrom (s : State) (c : Nat) (v : CmpSt) : (s.setCmp c v).calFrom = s.calFrom := rfl
@[simp] theorem State.setCmp_calFcFrom (s : State) (c : Nat) (v : CmpSt) : (s.setCmp c v).calFcFrom = s.calFcFrom := rfl
@[simp] theorem State.setCmp_pins (s : State) (c : Nat) (v : CmpSt) : (s.setCmp c v).pins = s.pins := rfl
@[simp] theorem State.setCmp_evt (s : State) (c : Nat) (v : CmpSt) : (s.setCmp c v).evt = s.evt := rfl
@[simp] theorem State.setCmp_tim (s : State) (c : Nat) (v : CmpSt) : (s.setCmp c v).tim = s.tim := rfl
@[simp] theorem State.setCmp_hif (s : State) (c : Nat) (v : CmpSt) : (s.setCmp c v).hif = s.hif := rfl
@[simp] theorem State.setCmp_rings (s : State) (c : Nat) (v : CmpSt) : (s.setCmp c v).rings = s.rings := rfl
@[simp] theorem State.setCmp_mram (s : State) (c : Nat) (v : CmpSt) : (s.setCmp c v).mram = s.mram := rfl
@[simp] theorem State.setCmp_rt (s : State) (c : Nat) (v : CmpSt) : (s.setCmp c v).rt = s.rt := rfl
@[simp] theorem State.setCmp_bulk (s : State) (c : Nat) (v : CmpSt) : (s.setCmp c v).bulk = s.bulk := rfl
@[simp] theorem State.setCmp_fpt (s : State) (c : Nat) (v : CmpSt) : (s.setCmp c v).fpt = s.fpt := rfl
@[simp] theorem State.setCmp_ppl (s : State) (c : Nat) (v : CmpSt) : (s.setCmp c v).ppl = s.ppl := rfl
@[simp] theorem State.setCmp_fwt (s : State) (c : Nat) (v : CmpSt) : (s.setCmp c v).fwt = s.fwt := rfl
@[simp] theorem State.setCmp_sch (s : State) (c : Nat) (v : CmpSt) : (s.setCmp c v).sch = s.sch := rfl
@[simp] theorem State.setCmp_cpu (s : State) (c : Nat) (v : CmpSt) : (s.setCmp c v).cpu = s.cpu := rfl
@[simp] theorem State.setCmp_svi (s : State) (c : Nat) (v : CmpSt) : (s.setCmp c v).svi = s.svi := rfl
@[simp] theorem State.setCmp_aln (s : State) (c : Nat) (v : CmpSt) : (s.setCmp c v).aln = s.aln := rfl
@[simp] theorem State.setCmp_phe (s : State) (c : Nat) (v : CmpSt) : (s.setCmp c v).phe = s.phe := rfl
@[simp] theorem State.setCmp_rec_ (s : State) (c : Nat) (v : CmpSt) : (s.setCmp c v).rec_ = s.rec_ := rfl
@[simp] theorem State.setCmp_rma (s : State) (c : Nat) (v : CmpSt) : (s.setCmp c v).rma = s.rma := rfl
@[simp] theorem State.setCmp_stg (s : State) (c : Nat) (v : CmpSt) : (s.setCmp c v).stg = s.stg := rfl
@[simp] theorem State.setCmp_dma (s : State) (c : Nat) (v : CmpSt) : (s.setCmp c v).dma = s.dma := rfl
@[simp] theorem State.setCmp_mem (s : State) (c : Nat) (v : CmpSt) : (s.setCmp c v).mem = s.mem := rfl
@[simp] theorem State.setCmp_pwr (s : State) (c : Nat) (v : CmpSt) : (s.setCmp c v).pwr = s.pwr := rfl
@[simp] theorem State.setCmp_boot (s : State) (c : Nat) (v : CmpSt) : (s.setCmp c v).boot = s.boot := rfl

/-! ## setPub -/

@[simp] theorem State.setPub_pending (s : State) (p : Nat) (v : PubSt) : (s.setPub p v).pending = s.pending := rfl
@[simp] theorem State.setPub_regs (s : State) (p : Nat) (v : PubSt) : (s.setPub p v).regs = s.regs := rfl
@[simp] theorem State.setPub_tick (s : State) (p : Nat) (v : PubSt) : (s.setPub p v).tick = s.tick := rfl
@[simp] theorem State.setPub_free (s : State) (p : Nat) (v : PubSt) : (s.setPub p v).free = s.free := rfl
@[simp] theorem State.setPub_reply (s : State) (p : Nat) (v : PubSt) : (s.setPub p v).reply = s.reply := rfl
@[simp] theorem State.setPub_sent (s : State) (p : Nat) (v : PubSt) : (s.setPub p v).sent = s.sent := rfl
@[simp] theorem State.setPub_rdHold (s : State) (p : Nat) (v : PubSt) : (s.setPub p v).rdHold = s.rdHold := rfl
@[simp] theorem State.setPub_wrHold (s : State) (p : Nat) (v : PubSt) : (s.setPub p v).wrHold = s.wrHold := rfl
@[simp] theorem State.setPub_winLive (s : State) (p : Nat) (v : PubSt) : (s.setPub p v).winLive = s.winLive := rfl
@[simp] theorem State.setPub_winShadow (s : State) (p : Nat) (v : PubSt) : (s.setPub p v).winShadow = s.winShadow := rfl
@[simp] theorem State.setPub_winWr (s : State) (p : Nat) (v : PubSt) : (s.setPub p v).winWr = s.winWr := rfl
@[simp] theorem State.setPub_winRd (s : State) (p : Nat) (v : PubSt) : (s.setPub p v).winRd = s.winRd := rfl
@[simp] theorem State.setPub_stage (s : State) (p : Nat) (v : PubSt) : (s.setPub p v).stage = s.stage := rfl
@[simp] theorem State.setPub_markOwner (s : State) (p : Nat) (v : PubSt) : (s.setPub p v).markOwner = s.markOwner := rfl
@[simp] theorem State.setPub_calFrom (s : State) (p : Nat) (v : PubSt) : (s.setPub p v).calFrom = s.calFrom := rfl
@[simp] theorem State.setPub_calFcFrom (s : State) (p : Nat) (v : PubSt) : (s.setPub p v).calFcFrom = s.calFcFrom := rfl
@[simp] theorem State.setPub_pins (s : State) (p : Nat) (v : PubSt) : (s.setPub p v).pins = s.pins := rfl
@[simp] theorem State.setPub_evt (s : State) (p : Nat) (v : PubSt) : (s.setPub p v).evt = s.evt := rfl
@[simp] theorem State.setPub_tim (s : State) (p : Nat) (v : PubSt) : (s.setPub p v).tim = s.tim := rfl
@[simp] theorem State.setPub_hif (s : State) (p : Nat) (v : PubSt) : (s.setPub p v).hif = s.hif := rfl
@[simp] theorem State.setPub_rings (s : State) (p : Nat) (v : PubSt) : (s.setPub p v).rings = s.rings := rfl
@[simp] theorem State.setPub_mram (s : State) (p : Nat) (v : PubSt) : (s.setPub p v).mram = s.mram := rfl
@[simp] theorem State.setPub_rt (s : State) (p : Nat) (v : PubSt) : (s.setPub p v).rt = s.rt := rfl
@[simp] theorem State.setPub_bulk (s : State) (p : Nat) (v : PubSt) : (s.setPub p v).bulk = s.bulk := rfl
@[simp] theorem State.setPub_fpt (s : State) (p : Nat) (v : PubSt) : (s.setPub p v).fpt = s.fpt := rfl
@[simp] theorem State.setPub_ppl (s : State) (p : Nat) (v : PubSt) : (s.setPub p v).ppl = s.ppl := rfl
@[simp] theorem State.setPub_fwt (s : State) (p : Nat) (v : PubSt) : (s.setPub p v).fwt = s.fwt := rfl
@[simp] theorem State.setPub_sch (s : State) (p : Nat) (v : PubSt) : (s.setPub p v).sch = s.sch := rfl
@[simp] theorem State.setPub_cpu (s : State) (p : Nat) (v : PubSt) : (s.setPub p v).cpu = s.cpu := rfl
@[simp] theorem State.setPub_svi (s : State) (p : Nat) (v : PubSt) : (s.setPub p v).svi = s.svi := rfl
@[simp] theorem State.setPub_aln (s : State) (p : Nat) (v : PubSt) : (s.setPub p v).aln = s.aln := rfl
@[simp] theorem State.setPub_phe (s : State) (p : Nat) (v : PubSt) : (s.setPub p v).phe = s.phe := rfl
@[simp] theorem State.setPub_rec_ (s : State) (p : Nat) (v : PubSt) : (s.setPub p v).rec_ = s.rec_ := rfl
@[simp] theorem State.setPub_rma (s : State) (p : Nat) (v : PubSt) : (s.setPub p v).rma = s.rma := rfl
@[simp] theorem State.setPub_stg (s : State) (p : Nat) (v : PubSt) : (s.setPub p v).stg = s.stg := rfl
@[simp] theorem State.setPub_dma (s : State) (p : Nat) (v : PubSt) : (s.setPub p v).dma = s.dma := rfl
@[simp] theorem State.setPub_mem (s : State) (p : Nat) (v : PubSt) : (s.setPub p v).mem = s.mem := rfl
@[simp] theorem State.setPub_pwr (s : State) (p : Nat) (v : PubSt) : (s.setPub p v).pwr = s.pwr := rfl
@[simp] theorem State.setPub_boot (s : State) (p : Nat) (v : PubSt) : (s.setPub p v).boot = s.boot := rfl

/-! ## setGsub -/

@[simp] theorem State.setGsub_pending (s : State) (g : Nat) (v : GsubSt) : (s.setGsub g v).pending = s.pending := rfl
@[simp] theorem State.setGsub_regs (s : State) (g : Nat) (v : GsubSt) : (s.setGsub g v).regs = s.regs := rfl
@[simp] theorem State.setGsub_tick (s : State) (g : Nat) (v : GsubSt) : (s.setGsub g v).tick = s.tick := rfl
@[simp] theorem State.setGsub_free (s : State) (g : Nat) (v : GsubSt) : (s.setGsub g v).free = s.free := rfl
@[simp] theorem State.setGsub_reply (s : State) (g : Nat) (v : GsubSt) : (s.setGsub g v).reply = s.reply := rfl
@[simp] theorem State.setGsub_sent (s : State) (g : Nat) (v : GsubSt) : (s.setGsub g v).sent = s.sent := rfl
@[simp] theorem State.setGsub_rdHold (s : State) (g : Nat) (v : GsubSt) : (s.setGsub g v).rdHold = s.rdHold := rfl
@[simp] theorem State.setGsub_wrHold (s : State) (g : Nat) (v : GsubSt) : (s.setGsub g v).wrHold = s.wrHold := rfl
@[simp] theorem State.setGsub_winLive (s : State) (g : Nat) (v : GsubSt) : (s.setGsub g v).winLive = s.winLive := rfl
@[simp] theorem State.setGsub_winShadow (s : State) (g : Nat) (v : GsubSt) : (s.setGsub g v).winShadow = s.winShadow := rfl
@[simp] theorem State.setGsub_winWr (s : State) (g : Nat) (v : GsubSt) : (s.setGsub g v).winWr = s.winWr := rfl
@[simp] theorem State.setGsub_winRd (s : State) (g : Nat) (v : GsubSt) : (s.setGsub g v).winRd = s.winRd := rfl
@[simp] theorem State.setGsub_stage (s : State) (g : Nat) (v : GsubSt) : (s.setGsub g v).stage = s.stage := rfl
@[simp] theorem State.setGsub_markOwner (s : State) (g : Nat) (v : GsubSt) : (s.setGsub g v).markOwner = s.markOwner := rfl
@[simp] theorem State.setGsub_calFrom (s : State) (g : Nat) (v : GsubSt) : (s.setGsub g v).calFrom = s.calFrom := rfl
@[simp] theorem State.setGsub_calFcFrom (s : State) (g : Nat) (v : GsubSt) : (s.setGsub g v).calFcFrom = s.calFcFrom := rfl
@[simp] theorem State.setGsub_pins (s : State) (g : Nat) (v : GsubSt) : (s.setGsub g v).pins = s.pins := rfl
@[simp] theorem State.setGsub_evt (s : State) (g : Nat) (v : GsubSt) : (s.setGsub g v).evt = s.evt := rfl
@[simp] theorem State.setGsub_tim (s : State) (g : Nat) (v : GsubSt) : (s.setGsub g v).tim = s.tim := rfl
@[simp] theorem State.setGsub_hif (s : State) (g : Nat) (v : GsubSt) : (s.setGsub g v).hif = s.hif := rfl
@[simp] theorem State.setGsub_rings (s : State) (g : Nat) (v : GsubSt) : (s.setGsub g v).rings = s.rings := rfl
@[simp] theorem State.setGsub_mram (s : State) (g : Nat) (v : GsubSt) : (s.setGsub g v).mram = s.mram := rfl
@[simp] theorem State.setGsub_rt (s : State) (g : Nat) (v : GsubSt) : (s.setGsub g v).rt = s.rt := rfl
@[simp] theorem State.setGsub_bulk (s : State) (g : Nat) (v : GsubSt) : (s.setGsub g v).bulk = s.bulk := rfl
@[simp] theorem State.setGsub_fpt (s : State) (g : Nat) (v : GsubSt) : (s.setGsub g v).fpt = s.fpt := rfl
@[simp] theorem State.setGsub_ppl (s : State) (g : Nat) (v : GsubSt) : (s.setGsub g v).ppl = s.ppl := rfl
@[simp] theorem State.setGsub_fwt (s : State) (g : Nat) (v : GsubSt) : (s.setGsub g v).fwt = s.fwt := rfl
@[simp] theorem State.setGsub_sch (s : State) (g : Nat) (v : GsubSt) : (s.setGsub g v).sch = s.sch := rfl
@[simp] theorem State.setGsub_cpu (s : State) (g : Nat) (v : GsubSt) : (s.setGsub g v).cpu = s.cpu := rfl
@[simp] theorem State.setGsub_svi (s : State) (g : Nat) (v : GsubSt) : (s.setGsub g v).svi = s.svi := rfl
@[simp] theorem State.setGsub_aln (s : State) (g : Nat) (v : GsubSt) : (s.setGsub g v).aln = s.aln := rfl
@[simp] theorem State.setGsub_phe (s : State) (g : Nat) (v : GsubSt) : (s.setGsub g v).phe = s.phe := rfl
@[simp] theorem State.setGsub_rec_ (s : State) (g : Nat) (v : GsubSt) : (s.setGsub g v).rec_ = s.rec_ := rfl
@[simp] theorem State.setGsub_rma (s : State) (g : Nat) (v : GsubSt) : (s.setGsub g v).rma = s.rma := rfl
@[simp] theorem State.setGsub_stg (s : State) (g : Nat) (v : GsubSt) : (s.setGsub g v).stg = s.stg := rfl
@[simp] theorem State.setGsub_dma (s : State) (g : Nat) (v : GsubSt) : (s.setGsub g v).dma = s.dma := rfl
@[simp] theorem State.setGsub_mem (s : State) (g : Nat) (v : GsubSt) : (s.setGsub g v).mem = s.mem := rfl
@[simp] theorem State.setGsub_pwr (s : State) (g : Nat) (v : GsubSt) : (s.setGsub g v).pwr = s.pwr := rfl
@[simp] theorem State.setGsub_boot (s : State) (g : Nat) (v : GsubSt) : (s.setGsub g v).boot = s.boot := rfl

end Sys2Proof.Machine
end

