-- ==== Sys2Proof/WellFormed.lean ====
section
/-!
DEFINITION. Which commands are well formed: every number that selects an instance lies in the range that the spec gives it. A meaning
is total all the same: a command that names an instance the device does not have changes nothing, or is counted as its rule gives.
-/
namespace Sys2Proof

/-- A requester code of R36: PF0, a Spindle thread by its agent code (R363), or 256 + f for function f. -/
def requester (who : Nat) : Bool := decide (who ≤ 128) || (decide (256 ≤ who) && decide (who < 512))

/-- An agent code of a Spindle thread (R363). -/
def threadCode (a : Nat) : Bool := decide (1 ≤ a) && decide (a ≤ 128)

/-- Is the command well formed? -/
def Instr.wf (i : Instr) : Bool :=
  match i with
  | .registerWrite who _ _ => requester who
  | .unassignedAccess who _ _ => requester who
  | .refusedSizeAccess _ => true
  | .splitLoRead who _ => requester who
  | .splitLoWrite who _ _ => requester who
  | .splitHiWrite who _ _ => requester who
  | .glbSyncRead => true
  | .stageOpen who blk => requester who && decide (blk < 22)
  | .stageAbort who blk => requester who && decide (blk < 22)
  | .stageCommitNow who blk => requester who && decide (blk < 22)
  | .stageArm who blk => requester who && decide (blk < 22)
  | .rwlWrite who _ _ => requester who
  | .stageTimeout blk => decide (blk < 22)
  | .windowPageSelect win page => decide (win < 12) && decide (page < 16)
  | .windowWordWrite who _ _ => requester who
  | .windowFirstWordRead who _ => requester who
  | .gtcNsRead who => requester who
  | .grainAngleRead who inst => requester who && decide (inst < 4)
  | .ptpOfsSecWrite who _ => requester who
  | .ptpOfsUpdate who _ => requester who
  | .ppsInEdge _ _ => true
  | .ppsPulseMissed => true
  | .irigFrame _ _ _ _ _ _ _ _ => true
  | .irigFrameMissed => true
  | .ptpUpdateTimeout => true
  | .holdoverExpire => true
  | .freqAdjWrite who _ => requester who
  | .aoCounterCorrect => true
  | .ppsOutPulse => true
  | .ppsOutPulseEnd => true
  | .oscClockLost _ => true
  | .grainRefGap n => decide (n < 4)
  | .grainCycleWrap n => decide (n < 4)
  | .grainCoastFlag n => decide (n < 4)
  | .grainNominalRevert n => decide (n < 4)
  | .angleMarkFire mark => decide (mark < 256)
  | .portLockAcquired port => decide (port < 40)
  | .portAnComplete port _ => decide (port < 40)
  | .portAnTimeout port => decide (port < 40)
  | .portLinkLost port _ => decide (port < 40)
  | .portResetComplete port => decide (port < 40)
  | .frameReceive port _ _ _ _ => decide (port < 40)
  | .portTxBoundary port => decide (port < 40)
  | .ddEntryExpire p mac => decide (p < 12) && decide (mac < 2 ^ 48)
  | .supervisionTx p => decide (p < 12)
  | .loopCheckTimeout p => decide (p < 12)
  | .loopCheckRetry p => decide (p < 12)
  | .bypassSettleExpire p => decide (p < 12)
  | .bypassSwitchTimeout p => decide (p < 12)
  | .keeperKick p => decide (p < 12)
  | .keeperExpire p => decide (p < 12)
  | .pairReset p => decide (p < 12)
  | .forceRelWrite p _ => decide (p < 12)
  | .fabricDegrade m lane => decide (m < 4) && decide (lane < 4)
  | .fabricRestore m _ => decide (m < 4)
  | .fabricLaneLost m lane => decide (m < 4) && decide (lane < 4)
  | .fabricDegradeDwell m => decide (m < 4)
  | .pfcWatchdogExpire port prio => decide (port < 40) && decide (prio < 8)
  | .trapLimiterRefill => true
  | .trapConsWrite r _ => decide (r < 8)
  | .learnRequest => true
  | .agerPass => true
  | .fwtCmdInsert t bank => decide (t < 3) && decide (bank < 2)
  | .fwtCmdDelete t bank => decide (t < 3) && decide (bank < 2)
  | .fwtCmdLookup t bank => decide (t < 3) && decide (bank < 2)
  | .fwtInject t => decide (t < 3)
  | .fwtRebuild t => decide (t < 3)
  | .fwtShadowCleared t => decide (t < 3)
  | .fwtSwap t => decide (t < 3)
  | .fwtAbortRebuild t => decide (t < 3)
  | .fwtPerrPop => true
  | .svFrameIngest => true
  | .svLossScan => true
  | .keyPromote k => decide (k < 256)
  | .keyAutoPromote k => decide (k < 256)
  | .sampleRecordPlace => true
  | .rowInstant b => decide (b < 128)
  | .rowHoldExpire b => decide (b < 128)
  | .comparatorStaleScan => true
  | .termArmSet k _ => decide (k < 8)
  | .termArmClear k _ => decide (k < 8)
  | .termUnlatch k _ => decide (k < 8)
  | .gooseRetransmit p => decide (p < 256)
  | .gooseFrameIntake => true
  | .gooseLossScan => true
  | .recCmdTrigger _ => true
  | .trigInEdge _ _ => true
  | .recBurstWrite b => decide (b < 128)
  | .segmentClose b c => decide (b < 128) && decide (c < 16)
  | .segmentExportStart => true
  | .segmentExportStepDone => true
  | .segmentExportRetry => true
  | .perstAssert => true
  | .perstDeassert => true
  | .linkUp _ _ _ => true
  | .linkDown => true
  | .hotReset => true
  | .linkRetrain => true
  | .configRequest f _ _ _ => decide (f < 256)
  | .busMasterDisable f => decide (f < 256)
  | .busMasterEnable f => decide (f < 256)
  | .memorySpaceDisable f => decide (f < 256)
  | .functionLevelReset f => decide (f < 256)
  | .flrDeadline f => decide (f < 256)
  | .d3hotEntry f => decide (f < 256)
  | .d0Entry f => decide (f < 256)
  | .vfEnable f => decide (f < 256)
  | .vfDisable f => decide (f < 256)
  | .completionReceive f _ _ _ _ _ _ _ => decide (f < 256)
  | .completionTimeout f _ => decide (f < 256)
  | .tagQuarantineExpire f _ => decide (f < 256)
  | .doorbellWrite f n _ _ _ => decide (f < 256) && decide (n < 16384)
  | .entryFetch g => decide (g < 16384)
  | .entryRefetch g => decide (g < 16384)
  | .ownWaitExpire g => decide (g < 16384)
  | .jobComplete g _ _ _ _ => decide (g < 16384)
  | .ringInterruptTimer g => decide (g < 16384)
  | .adminRingEnable f _ => decide (f < 256)
  | .noOp g => decide (g < 16384)
  | .identify g => decide (g < 16384)
  | .createRing g => decide (g < 16384)
  | .destroyRing g => decide (g < 16384)
  | .modifyRing g => decide (g < 16384)
  | .queryRing g => decide (g < 16384)
  | .ringCounters g => decide (g < 16384)
  | .transmit g => decide (g < 16384)
  | .receiveBuffer g => decide (g < 16384)
  | .measurementBuffer g => decide (g < 16384)
  | .nvmeControllerEnable f _ => decide (f < 256)
  | .nvmeControllerReset f => decide (f < 256)
  | .nvmeIdentify f cid _ nsid _ => decide (f < 256) && decide (cid < 65536) && decide (nsid < 2 ^ 32)
  | .nvmeGetLogPage f cid _ _ => decide (f < 256) && decide (cid < 65536)
  | .nvmeSetFeatures f cid _ _ => decide (f < 256) && decide (cid < 65536)
  | .nvmeGetFeatures f cid _ _ => decide (f < 256) && decide (cid < 65536)
  | .nvmeCreateIoSq f cid qid _ _ prio => decide (f < 256) && decide (cid < 65536) && decide (qid < 65536) && decide (prio < 8)
  | .nvmeCreateIoCq f cid qid _ _ _ => decide (f < 256) && decide (cid < 65536) && decide (qid < 65536)
  | .nvmeDeleteIoSq f cid qid => decide (f < 256) && decide (cid < 65536) && decide (qid < 65536)
  | .nvmeDeleteIoCq f cid qid => decide (f < 256) && decide (cid < 65536) && decide (qid < 65536)
  | .nvmeAbort f cid _ _ => decide (f < 256) && decide (cid < 65536)
  | .nvmeAsyncEventRequest f cid => decide (f < 256) && decide (cid < 65536)
  | .namespaceAttachment f cid nsid _ _ => decide (f < 256) && decide (cid < 65536) && decide (nsid < 2 ^ 32)
  | .deviceSelfTest f cid nsid stc => decide (f < 256) && decide (cid < 65536) && decide (nsid < 2 ^ 32) && decide (stc < 16)
  | .nvmeRead f qid cid nsid _ n => decide (f < 256) && decide (qid < 65536) && decide (cid < 65536) && decide (nsid < 2 ^ 32) && decide (n < 65537)
  | .nvmeWrite f qid cid nsid _ n _ => decide (f < 256) && decide (qid < 65536) && decide (cid < 65536) && decide (nsid < 2 ^ 32) && decide (n < 65537)
  | .nvmeWriteZeroes f qid cid nsid _ n => decide (f < 256) && decide (qid < 65536) && decide (cid < 65536) && decide (nsid < 2 ^ 32) && decide (n < 65537)
  | .nvmeFlush f qid cid nsid => decide (f < 256) && decide (qid < 65536) && decide (cid < 65536) && decide (nsid < 2 ^ 32)
  | .nvmeCompare f qid cid nsid _ n _ => decide (f < 256) && decide (qid < 65536) && decide (cid < 65536) && decide (nsid < 2 ^ 32) && decide (n < 65537)
  | .nvmeDatasetManagement f qid cid nsid _ _ => decide (f < 256) && decide (qid < 65536) && decide (cid < 65536) && decide (nsid < 2 ^ 32)
  | .driveCmdComplete _ _ _ _ => true
  | .driveCmdTimeout _ => true
  | .nsRebuild n => decide (n < 64)
  | .slotPresentDebounce d => decide (d < 4)
  | .slotPowerOn d => decide (d < 4)
  | .slotPowerDelayExpire d => decide (d < 4)
  | .slotDriveReady d _ _ => decide (d < 4)
  | .slotTrainTimeout d => decide (d < 4)
  | .slotAttnPress d => decide (d < 4)
  | .slotAttnTimeout d => decide (d < 4)
  | .slotPowerOff d => decide (d < 4)
  | .slotRemovalWaitExpire d => decide (d < 4)
  | .slotPowerFault d => decide (d < 4)
  | .slotLost d _ => decide (d < 4)
  | .slotFaultClear d _ => decide (d < 4)
  | .rocePacketReceive => true
  | .roceAckTimer q => decide (q < 65536)
  | .roceAckTimeout q => decide (q < 65536)
  | .roceRnrWaitExpire q => decide (q < 65536)
  | .roceRateIncrease q => decide (q < 65536)
  | .srNakRepeat q => decide (q < 65536)
  | .missHoldTimeout => true
  | .contextFetchDone _ => true
  | .contextWritebackDone _ _ => true
  | .createQp g => decide (g < 16384)
  | .modifyQp g => decide (g < 16384)
  | .queryQp g => decide (g < 16384)
  | .destroyQp g => decide (g < 16384)
  | .registerRegion g => decide (g < 16384)
  | .deregisterRegion g => decide (g < 16384)
  | .postSend g => decide (g < 16384)
  | .postReceive g => decide (g < 16384)
  | .heartbeatSend => true
  | .heartbeatReceive _ => true
  | .twinSilent => true
  | .twinSeekExpire => true
  | .shaperRefill => true
  | .coreFault k c fcode t _ => decide (k < 8) && decide (c < 5) && (decide (1 ≤ fcode) && decide (fcode ≤ 5)) && decide (t < 4)
  | .coreWatchdogExpire k c t _ _ => decide (k < 8) && decide (c < 5) && decide (t < 4)
  | .coreRestart who k c => requester who && decide (k < 8) && decide (c < 5)
  | .coreRetire who k c => requester who && decide (k < 8) && decide (c < 5)
  | .coreRestore k c => decide (k < 8) && decide (c < 5)
  | .coreSelfTestDone k c _ => decide (k < 8) && decide (c < 5)
  | .clusterReload who k => requester who && decide (k < 8)
  | .clusterReloadDone k => decide (k < 8)
  | .channelReserve who ch => requester who && decide (ch < 1024)
  | .channelWordWrite who ch w _ => requester who && decide (ch < 1024) && decide (w < 16)
  | .channelPop ch => decide (ch < 1024)
  | .debugHalt agent => threadCode agent
  | .debugResume agent => threadCode agent
  | .channelHoldTimeout ch => decide (ch < 1024)
  | .coreDeadlock k c t _ _ => decide (k < 8) && decide (c < 5) && decide (t < 4)
  | .fwTxDoorbell k _ => decide (k < 8)
  | .dmaStart who ch _ => requester who && decide (ch < 32)
  | .dmaPause ch => decide (ch < 32)
  | .dmaResume ch => decide (ch < 32)
  | .dmaAbort ch => decide (ch < 32)
  | .dmaReadData ch _ => decide (ch < 32)
  | .dmaWriteResponse ch _ => decide (ch < 32)
  | .memRefreshDue c ch bank _ _ _ => decide (c < 2) && decide (ch < 4) && decide (bank < 256)
  | .memTempRead _ => true
  | .bulkIdleSelfRefresh => true
  | .memRetrainDue c ch => decide (c < 2) && decide (ch < 4)
  | .memRetrainDeadline c ch => decide (c < 2) && decide (ch < 4)
  | .memRetrainRequest _ => true
  | .memTestStart => true
  | .memTestAbort => true
  | .memTestDone _ => true
  | .memRepairRequest _ => true
  | .memRepairWaitExpire => true
  | .memRepairDone c _ _ _ bank _ => decide (c < 2) && decide (bank < 256)
  | .memScrubPass => true
  | .memRdEpochEnd => true
  | .dramEccError c _ _ _ _ => decide (c < 2)
  | .memEccPop who => requester who
  | .mramDataRead who => requester who
  | .mramDataWrite who _ => requester who
  | .romBoot straps mib bad => decide (straps < 256) && (decide (16 ≤ mib) && decide (mib ≤ 256)) && decide (bad < 4)
  | .stage2Boot _ => true
  | .recoveryPing _ => true
  | .recoveryProvision _ digest => digest.length == 48
  | .recoveryLoad _ _ _ => true
  | .recoveryRun _ => true
  | .recoveryStatus _ => true
  | .floorProgram => true
  | .deviceReboot => true
  | .deviceRebootAlt => true
  | .updateBegin g => decide (g < 16384)
  | .updateWrite g => decide (g < 16384)
  | .updateFinish g => decide (g < 16384)
  | .updateAbort g => decide (g < 16384)
  | .flashEraseDone => true
  | .flashProgramDone _ => true
  | .updateCheckDone => true
  | .loadPartition g => decide (g < 16384)
  | .activatePartition g => decide (g < 16384)
  | .partitionActivateReg who p => requester who && decide (p < 64)
  | .calSamplePeriod j _ => decide (j < 128)
  | .counterWrap e => decide (e < 1536)
  | .histogramClear u => decide (u < 64)
  | .histogramSample _ _ _ => true
  | .eventRelease => true
  | .rateLimitWindowEnd src _ => decide (src < 512)
  | .journalSlotWritten => true
  | .evtOutPulseEnd => true
  | .eventBuffer g => decide (g < 16384)
  | .journalRead g => decide (g < 16384)
  | .raiseTest g => decide (g < 16384)
  | .internalRamError blk _ => decide (blk < 22)
  | .watchdogKick => true
  | .watchdogHalf => true
  | .watchdogExpire => true
  | .vauxPowerOn mv => decide (mv < 65536)
  | .vauxLow mv => decide (mv < 65536)
  | .vinOn mv => decide (mv < 65536)
  | .vinOff mv => decide (mv < 65536)
  | .supplyTrip rail _ => decide (rail < 12)
  | .pwrOkGlitch rail => decide (rail < 12)
  | .resetNAssert => true
  | .resetNRelease => true
  | .thermalWarning _ => true
  | .thermalTrip _ => true
  | .thermalTripClear _ => true
  | .nvRefusalStart _ mv => decide (mv < 65536)
  | .nvRefusalEnd mv _ => decide (mv < 65536)
  | .standbyHoldAssert _ => true
  | .standbyDriveWaitDone => true
  | .wakeTimerExpire => true
  | .standbyHoldRelease => true
  | .registerReadClear who _ => requester who
  | .memorySpaceEnable f => decide (f < 256)
  | .msixVectorUnmask f e => decide (f < 256) && decide (e < 2048)
  | .pfcPauseTimeExpire port prio => decide (port < 40) && decide (prio < 8)
  | .harmonicRecordWritten c => decide (c < 4096)
  | .heartbeatPathSilent _ => true
  | .memRetrainDone ch => decide (ch < 4)
  | .floorProgramDone => true
  | .vinOutOfRange mv => decide (mv < 65536)
  | .vauxWarning mv => decide (mv < 65536)
  | .thermalWarningEnd _ => true
  | .clk25mInAbsent _ => true
  | .oscClockDetected _ => true
  | .functionInitDone f => decide (f < 256)
  | .debugPortAttach _ => true

end Sys2Proof
end

