-- ==== Sys2Proof/Tests/Slice0.lean ====
section
/-!
SUPPORT. The author's own tests: terms that well-formedness refuses, values from the worked examples of the chapters, single steps on
small states, and for each obligation that has hypotheses a state and operands that meet them, clause by clause.
-/
namespace Sys2Proof.Tests
set_option Elab.async false
open Sys2Proof Sys2Proof.Machine

/-- A state (the one after reset) with some register fields set: (field, instance, second instance, value). -/
def tw (l : List (Fld × Nat × Nat × Nat)) (s : State := State.reset) : State := l.foldl (fun s p => s.wr p.1 p.2.2.2 p.2.1 p.2.2.1) s
/-- Cluster 0 with its four logical cores mapped and physical core 0 running. -/
def CORE0 : State := tw [(CPU_CLk_STATUS.MAP, 0, 0, 1672), (CPU_CLk_COREc_STATUS.PARKED, 0, 0, 0)]
/-- The forwarding table's command entry holding an L2 entry. -/
def CMDIMG : State := forEach (List.range 4) (fun w s => s.wr FWT_Tt_CMD_ENTRYw.DATA (bitsOf (l2Entry 1 2 3) (32 * w) 32) 0 w) State.reset
/-- The same with that entry in the table. -/
def LEARNT : State := CMDIMG.fwtStore 0 false ((CMDIMG.fwtSlots 0 false (l2Key 1 2)).headD 0) (fwtSeal 0 (l2Entry 1 2 5) false)
/-- The state that an outcome answers. -/
def after (o : Host.Outcome State Fault Refusal) : State := match o with | .next t => t | _ => State.reset
/-- The limit of Asynchronous Event Requests is a byte. -/
theorem aerl_lt (f : Nat) : aerl f < 256 := BitVec.isLt _

/-! ## Well-formedness: one ill-formed command for each check -/

theorem test_ill_formed_refused_1 : ([
    .registerWrite 512 0 0#32, .unassignedAccess 512 0 false, .splitLoRead 512 0, .splitLoWrite 512 0 0#32,
    .splitHiWrite 512 0 0#32, .stageOpen 512 0, .stageOpen 0 22, .stageAbort 512 0,
    .stageAbort 0 22, .stageCommitNow 512 0, .stageCommitNow 0 22, .stageArm 512 0,
    .stageArm 0 22, .rwlWrite 512 0 0#32, .stageTimeout 22, .windowPageSelect 12 0,
    .windowPageSelect 0 16, .windowWordWrite 512 0 0#32, .windowFirstWordRead 512 0, .gtcNsRead 512,
    .grainAngleRead 512 0, .grainAngleRead 0 4, .ptpOfsSecWrite 512 0#32, .ptpOfsUpdate 512 0#32,
    .freqAdjWrite 512 0#32, .grainRefGap 4, .grainCycleWrap 4, .grainCoastFlag 4,
    .grainNominalRevert 4, .angleMarkFire 256, .portLockAcquired 40, .portAnComplete 40 0,
    .portAnTimeout 40, .portLinkLost 40 0, .portResetComplete 40, .frameReceive 40 [] {} 0 0,
    .portTxBoundary 40, .ddEntryExpire 12 0, .ddEntryExpire 0 (2 ^ 48), .supervisionTx 12,
    .loopCheckTimeout 12, .loopCheckRetry 12, .bypassSettleExpire 12, .bypassSwitchTimeout 12,
    .keeperKick 12, .keeperExpire 12, .pairReset 12, .forceRelWrite 12 false,
    .fabricDegrade 4 0, .fabricDegrade 0 4] : List Instr).all (fun c => !c.wf) = true := by decide +kernel

theorem test_ill_formed_refused_2 : ([
    .fabricRestore 4 false, .fabricLaneLost 4 0, .fabricLaneLost 0 4, .fabricDegradeDwell 4,
    .pfcWatchdogExpire 40 0, .pfcWatchdogExpire 0 8, .trapConsWrite 8 0#32, .fwtCmdInsert 3 0,
    .fwtCmdInsert 0 2, .fwtCmdDelete 3 0, .fwtCmdDelete 0 2, .fwtCmdLookup 3 0,
    .fwtCmdLookup 0 2, .fwtInject 3, .fwtRebuild 3, .fwtShadowCleared 3,
    .fwtSwap 3, .fwtAbortRebuild 3, .keyPromote 256, .keyAutoPromote 256,
    .rowInstant 128, .rowHoldExpire 128, .termArmSet 8 0#32, .termArmClear 8 0#32,
    .termUnlatch 8 0#32, .gooseRetransmit 256, .recBurstWrite 128, .segmentClose 128 0,
    .segmentClose 0 16, .configRequest 256 .ariHier false 0#32, .busMasterDisable 256, .busMasterEnable 256,
    .memorySpaceDisable 256, .functionLevelReset 256, .flrDeadline 256, .d3hotEntry 256,
    .d0Entry 256, .vfEnable 256, .vfDisable 256, .completionReceive 256 0 0 0 0 [] false .good,
    .completionTimeout 256 0, .tagQuarantineExpire 256 0, .doorbellWrite 256 0 0 false 0#32, .doorbellWrite 0 16384 0 false 0#32,
    .entryFetch 16384, .entryRefetch 16384, .ownWaitExpire 16384, .jobComplete 16384 0 0 0 0,
    .ringInterruptTimer 16384, .adminRingEnable 256 0#32] : List Instr).all (fun c => !c.wf) = true := by decide +kernel

theorem test_ill_formed_refused_3 : ([
    .noOp 16384, .identify 16384, .createRing 16384, .destroyRing 16384,
    .modifyRing 16384, .queryRing 16384, .ringCounters 16384, .transmit 16384,
    .receiveBuffer 16384, .measurementBuffer 16384, .nvmeControllerEnable 256 false, .nvmeControllerReset 256,
    .nvmeIdentify 256 0 0 0 0, .nvmeIdentify 0 65536 0 0 0, .nvmeIdentify 0 0 0 (2 ^ 32) 0, .nvmeGetLogPage 256 0 0 0,
    .nvmeGetLogPage 0 65536 0 0, .nvmeSetFeatures 256 0 0 0, .nvmeSetFeatures 0 65536 0 0, .nvmeGetFeatures 256 0 0 0,
    .nvmeGetFeatures 0 65536 0 0, .nvmeCreateIoSq 256 0 0 0 0 0, .nvmeCreateIoSq 0 65536 0 0 0 0, .nvmeCreateIoSq 0 0 65536 0 0 0,
    .nvmeCreateIoSq 0 0 0 0 0 8, .nvmeCreateIoCq 256 0 0 0 0 false, .nvmeCreateIoCq 0 65536 0 0 0 false, .nvmeCreateIoCq 0 0 65536 0 0 false,
    .nvmeDeleteIoSq 256 0 0, .nvmeDeleteIoSq 0 65536 0, .nvmeDeleteIoSq 0 0 65536, .nvmeDeleteIoCq 256 0 0,
    .nvmeDeleteIoCq 0 65536 0, .nvmeDeleteIoCq 0 0 65536, .nvmeAbort 256 0 0 0, .nvmeAbort 0 65536 0 0,
    .nvmeAsyncEventRequest 256 0, .nvmeAsyncEventRequest 0 65536, .namespaceAttachment 256 0 0 false [], .namespaceAttachment 0 65536 0 false [],
    .namespaceAttachment 0 0 (2 ^ 32) false [], .deviceSelfTest 256 0 0 0, .deviceSelfTest 0 65536 0 0, .deviceSelfTest 0 0 (2 ^ 32) 0,
    .deviceSelfTest 0 0 0 16, .nvmeRead 256 0 0 0 0 0, .nvmeRead 0 65536 0 0 0 0, .nvmeRead 0 0 65536 0 0 0,
    .nvmeRead 0 0 0 (2 ^ 32) 0 0, .nvmeRead 0 0 0 0 0 65537] : List Instr).all (fun c => !c.wf) = true := by decide +kernel

theorem test_ill_formed_refused_4 : ([
    .nvmeWrite 256 0 0 0 0 0 [], .nvmeWrite 0 65536 0 0 0 0 [], .nvmeWrite 0 0 65536 0 0 0 [], .nvmeWrite 0 0 0 (2 ^ 32) 0 0 [],
    .nvmeWrite 0 0 0 0 0 65537 [], .nvmeWriteZeroes 256 0 0 0 0 0, .nvmeWriteZeroes 0 65536 0 0 0 0, .nvmeWriteZeroes 0 0 65536 0 0 0,
    .nvmeWriteZeroes 0 0 0 (2 ^ 32) 0 0, .nvmeWriteZeroes 0 0 0 0 0 65537, .nvmeFlush 256 0 0 0, .nvmeFlush 0 65536 0 0,
    .nvmeFlush 0 0 65536 0, .nvmeFlush 0 0 0 (2 ^ 32), .nvmeCompare 256 0 0 0 0 0 [], .nvmeCompare 0 65536 0 0 0 0 [],
    .nvmeCompare 0 0 65536 0 0 0 [], .nvmeCompare 0 0 0 (2 ^ 32) 0 0 [], .nvmeCompare 0 0 0 0 0 65537 [], .nvmeDatasetManagement 256 0 0 0 false [],
    .nvmeDatasetManagement 0 65536 0 0 false [], .nvmeDatasetManagement 0 0 65536 0 false [], .nvmeDatasetManagement 0 0 0 (2 ^ 32) false [], .nsRebuild 64,
    .slotPresentDebounce 4, .slotPowerOn 4, .slotPowerDelayExpire 4, .slotDriveReady 4 0 0,
    .slotTrainTimeout 4, .slotAttnPress 4, .slotAttnTimeout 4, .slotPowerOff 4,
    .slotRemovalWaitExpire 4, .slotPowerFault 4, .slotLost 4 false, .slotFaultClear 4 false,
    .roceAckTimer 65536, .roceAckTimeout 65536, .roceRnrWaitExpire 65536, .roceRateIncrease 65536,
    .srNakRepeat 65536, .createQp 16384, .modifyQp 16384, .queryQp 16384,
    .destroyQp 16384, .registerRegion 16384, .deregisterRegion 16384, .postSend 16384,
    .postReceive 16384, .coreFault 8 0 0 0 0] : List Instr).all (fun c => !c.wf) = true := by decide +kernel

theorem test_ill_formed_refused_5 : ([
    .coreFault 0 5 0 0 0, .coreFault 0 0 (1 - 1) 0 0, .coreFault 0 0 (5 + 1) 0 0, .coreFault 0 0 0 4 0,
    .coreWatchdogExpire 8 0 0 0 0, .coreWatchdogExpire 0 5 0 0 0, .coreWatchdogExpire 0 0 4 0 0, .coreRestart 512 0 0,
    .coreRestart 0 8 0, .coreRestart 0 0 5, .coreRetire 512 0 0, .coreRetire 0 8 0,
    .coreRetire 0 0 5, .coreRestore 8 0, .coreRestore 0 5, .coreSelfTestDone 8 0 false,
    .coreSelfTestDone 0 5 false, .clusterReload 512 0, .clusterReload 0 8, .clusterReloadDone 8,
    .channelReserve 512 0, .channelReserve 0 1024, .channelWordWrite 512 0 0 0#32, .channelWordWrite 0 1024 0 0#32,
    .channelWordWrite 0 0 16 0#32, .channelPop 1024, .debugHalt 129, .debugResume 129,
    .channelHoldTimeout 1024, .coreDeadlock 8 0 0 0 0, .coreDeadlock 0 5 0 0 0, .coreDeadlock 0 0 4 0 0,
    .fwTxDoorbell 8 0#32, .dmaStart 512 0 false, .dmaStart 0 32 false, .dmaPause 32,
    .dmaResume 32, .dmaAbort 32, .dmaReadData 32 false, .dmaWriteResponse 32 false,
    .memRefreshDue 2 0 0 false 0 [], .memRefreshDue 0 4 0 false 0 [], .memRefreshDue 0 0 256 false 0 [], .memRetrainDue 2 0,
    .memRetrainDue 0 4, .memRetrainDeadline 2 0, .memRetrainDeadline 0 4, .memRepairDone 2 false false 0 0 0,
    .memRepairDone 0 false false 0 256 0, .dramEccError 2 0 false 0 0] : List Instr).all (fun c => !c.wf) = true := by decide +kernel

theorem test_ill_formed_refused_6 : ([
    .memEccPop 512, .mramDataRead 512, .mramDataWrite 512 0#32, .romBoot 256 0 0,
    .romBoot 0 (16 - 1) 0, .romBoot 0 (256 + 1) 0, .romBoot 0 0 4, .updateBegin 16384,
    .updateWrite 16384, .updateFinish 16384, .updateAbort 16384, .loadPartition 16384,
    .activatePartition 16384, .partitionActivateReg 512 0, .partitionActivateReg 0 64, .calSamplePeriod 128 0,
    .counterWrap 1536, .histogramClear 64, .rateLimitWindowEnd 512 0, .eventBuffer 16384,
    .journalRead 16384, .raiseTest 16384, .internalRamError 22 (.bay 0), .vauxPowerOn 65536,
    .vauxLow 65536, .vinOn 65536, .vinOff 65536, .supplyTrip 12 false,
    .pwrOkGlitch 12, .nvRefusalStart false 65536, .nvRefusalEnd 65536 0, .registerReadClear 512 0,
    .memorySpaceEnable 256, .msixVectorUnmask 256 0, .msixVectorUnmask 0 2048, .pfcPauseTimeExpire 40 0,
    .pfcPauseTimeExpire 0 8, .harmonicRecordWritten 4096, .memRetrainDone 4, .vinOutOfRange 65536,
    .vauxWarning 65536, .functionInitDone 256] : List Instr).all (fun c => !c.wf) = true := by decide +kernel

/-! ## Values of the chapters' worked examples -/

/-- Chapter 02, "reaching an L2 entry": page 1 brings entry 200,000 to 0x110_D400, whose last word lies at 0x110_D40C. -/
theorem test_window_reaches_entry_200000 :
    (tw [(GLB_WIN_PAGEn.PAGE, 0, 0, 1)]).winAt 0x10D400 = (0, false, 200000, 0) ∧
    (tw [(GLB_WIN_PAGEn.PAGE, 0, 0, 1)]).winAt 0x10D40C = (0, false, 200000, 3) := by decide +kernel

/-- Chapter 06, "parity error met while learning": slot 0x68AE lies at 0x106_8AE0. -/
theorem test_window_reaches_slot_68AE : State.reset.winAt 0x68AE0 = (0, false, 0x68AE, 0) := by decide +kernel

/-- Chapter 10, "an overcurrent trip": I_9 is 512 ms, half the TAL of the frame at 511 ms, and I_10 is capped at 1,000 ms. -/
theorem test_goose_intervals :
    (tw [(TRP_PUBp_SCHED.FIRST_US, 7, 0, 1000), (TRP_PUBp_SCHED.MAX_MS, 7, 0, 1000)]).pubInterval 7 9 = 512000 ∧
    (tw [(TRP_PUBp_SCHED.FIRST_US, 7, 0, 1000), (TRP_PUBp_SCHED.MAX_MS, 7, 0, 1000)]).pubInterval 7 10 = 1000000 := by decide +kernel

/-- Chapter 10: the third met row in succession operates comparator 12, whose PU is 3. -/
theorem test_pickup_counts_to_operated : cmpNext 3 2 3 96 true (some (true, true)) = (4, 3) := by decide +kernel

/-- Chapter 16, "a burst after idling": a bucket starts full at 24,000 bits, and gains 100 bits a refill from -220. -/
theorem test_bucket_refill : refillOne true 100 3000 none = some 24000 ∧ refillOne true 100 3000 (some (-220)) = some (-120) ∧
    refillOne true 100 3000 (some 23950) = some 24000 := by decide +kernel

/-- Chapter 18, "pausing an unaligned copy": with reads issued up to 0x27FF the next burst begins at offset 6,141, and the first burst
of the copy ends at a multiple of 256 bytes from where reading began. -/
theorem test_dma_bursts :
    ({ desc := [0x1003, 0x2000041, 10000], start := 0x1000, issued := 6141 } : DmaCh).burst = (6141, 256) ∧
    ({ desc := [0x1003, 0x2000041, 10000], start := 0x1000 } : DmaCh).burst = (0, 253) := by decide +kernel

/-- R77: marks with DIV 4 and PHASE 3 qualify in cycle 7 after cycle 4. -/
theorem test_mark_cycles : qualCycle 4 4 3 = 7 ∧ qualCycle 7 4 3 = 7 := by decide +kernel

/-- R446: items are packed from bit 0 in order, each aligned to its own size. -/
theorem test_items_align : packItems [i8 0xAB, i32 0x11223344] = 0x1122334400000000 + 0xAB := by decide +kernel

/-- Binary32: 1.0, -0.5 and the tie of 2^24 + 1 to even. -/
theorem test_binary32 : f32Of 1 = 0x3F800000 ∧ f32Of (-1 / 2) = 0xBF000000 ∧ f32Of 16777217 = 0x4B800000 := by decide +kernel

/-! ## Single steps -/

/-- R8: a write of a read-only register is ignored. -/
theorem test_write_to_read_only :
    (after (execRegisterWrite 1 PWR_STATUS.PSTATE.base 3#32 State.reset)).rd PWR_STATUS.PSTATE = 0 ∧
    (after (execRegisterWrite 1 PWR_STATUS.PSTATE.base 3#32 State.reset)).rd GLB_BAD_ACCESS.COUNT = 0 := by decide +kernel

/-- R34: a read where no register lies returns 0. -/
theorem test_unassigned_read : (after (execUnassignedAccess 1 0x100 true { State.reset with reply := 9 })).reply = 0 := by decide +kernel

/-- R39: a staging window opens from Closed, and a second open is counted as a bad access. -/
theorem test_stage_open :
    let s := after (execStageOpen 1 (Blk.bit .tim) State.reset)
    s.stState .tim = 1 ∧ (after (execStageOpen 17 (Blk.bit .tim) s)).rd GLB_BAD_ACCESS.COUNT = 1 := by decide +kernel

/-- R39: a commit of an enabled Grain instance whose NOMINAL_MHZ is 0 is refused with DETAIL 1, and the window stays open. -/
theorem test_commit_refused :
    let s := after (execStageCommitNow 0 (Blk.bit .tim) (tw [(HIF_FNf_STATE.MSE, 0, 0, 1), (STAGE_STATUS.STATE, Blk.tim.base, 0, 1), (TIM_GRAINn_CTRL.ENABLE, 0, 0, 1)]))
    s.stState .tim = 1 ∧ s.rd STAGE_STATUS.RESULT Blk.tim.base = 2 ∧ s.rd STAGE_STATUS.DETAIL Blk.tim.base = 1 := by decide +kernel

/-- R440: a sample of 5 in a unit of 2 is counted in bin 2. -/
theorem test_histogram_bin :
    (after (execHistogramSample 1 0 5 (tw [(CAL_HUu_CFG.PROBE, 63, 0, 1), (CAL_HUu_CFG.ANY, 63, 0, 1), (CAL_HUu_UNIT.NS, 63, 0, 2)]))).rd64
      CAL_HUu_BINi_LO.COUNT 63 2 = 1 := by decide +kernel

/-- R467: a step with no command is one tick (log 2); a step with one runs it. -/
theorem test_step_takes_the_front :
    (after (Sys2Proof.Machine.step State.reset)).tick = 1 ∧
    (after (Sys2Proof.Machine.step { State.reset with pending := [.glbSyncRead, .glbSyncRead] })).pending = [.glbSyncRead] := by
  decide +kernel

/-- R488: out of reset the TAP holds IDCODE, and Capture-DR loads 0x15128FFF. -/
theorem test_tap_idcode : bitNat ({ State.reset with pins := { State.reset.pins with tap := TapSt.reset {} } } : State).tapCapture.2 = 0x15128FFF := by
  decide +kernel

/-- R31: a doorbell BAR is the allowance rounded up to a power of two, and at least 16 KiB. -/
theorem test_doorbell_bar : doorbellSize 1 = 0x4000 ∧ doorbellSize 33 = 0x40000 := by decide +kernel

/-! ## Witnesses of the hypotheses of the obligations -/

/-- States that meet the hypotheses of FieldWriteByAccessType, with each access type and a field that ends its word. -/
theorem witness_FieldWriteByAccessType :
    (∃ (s : State) (f : Fld), s.wf = true ∧ f.lo + f.w ≤ 32 ∧ f.acc = .rw ∧ 0 < f.w) ∧
    (∃ (s : State) (f : Fld) (k : Nat), s.wf = true ∧ f.lo + f.w ≤ 32 ∧ f.acc = .w1c ∧ k < f.w) ∧
    (∃ (s : State) (f : Fld) (k : Nat), s.wf = true ∧ f.lo + f.w ≤ 32 ∧ f.acc = .w1s ∧ k < f.w) ∧
    (∃ (s : State) (f : Fld), s.wf = true ∧ f.lo + f.w ≤ 32 ∧ (f.acc = .ro ∨ f.acc = .rc ∨ f.acc = .rwl)) :=
  ⟨⟨State.reset, ⟨0, 1, 0, 1, 0, 31, 1, .rw⟩, by decide +kernel⟩, ⟨State.reset, ⟨0, 1, 0, 1, 0, 0, 32, .w1c⟩, 31, by decide +kernel⟩,
   ⟨State.reset, ⟨0, 1, 0, 1, 0, 31, 1, .w1s⟩, 0, by decide +kernel⟩, ⟨State.reset, ⟨0, 1, 0, 1, 0, 0, 32, .rwl⟩, by decide +kernel⟩⟩

/-- States that meet the hypotheses of UnassignedAccess, clause by clause. -/
theorem witness_UnassignedAccess :
    (∃ (s : State) (who : Nat) (a : Nat), s.wf = true ∧ s.shut who = false ∧ s.fieldsAt (regKey who a) = none ∧ (who < 256 ∨ 0x18 ≤ a)) :=
  ⟨(tw [(HIF_FNf_STATE.MSE, 0, 0, 1)]), 0, 0x100, by decide +kernel⟩

/-- States that meet the hypotheses of SplitAccesses, clause by clause. -/
theorem witness_SplitAccesses :
    (∃ (s : State), s.wf = true) ∧
    (∃ (s : State) (who : Nat) (a : Nat) (l : List Fld), s.shut who = false ∧ s.fieldsAt (regKey who a) = some l ∧ isLo (regKey who a) = true ∧ isHi (regKey who a) = false ∧ blkOfAddr (regKey who a) ≠ some .cal ∧ MEM_ECC_LO.ENTRY.covers (regKey who a) = false ∧ MEM_MRAM_DATA_LO.DATA.covers (regKey who a) = false ∧ (who < 256 ∨ 0x18 ≤ a)) ∧
    (∃ (s : State) (who : Nat) (a : Nat) (l : List Fld), s.shut who = false ∧ s.fieldsAt (regKey who a) = some l ∧ isLo (regKey who a) = true ∧ l.all (fun f => f.acc == .ro || f.acc == .rc) = false ∧ (who < 256 ∨ 0x18 ≤ a)) ∧
    (∃ (s : State) (who : Nat) (a : Nat) (l : List Fld), s.shut who = false ∧ s.fieldsAt (regKey who a) = some l ∧ isLo (regKey who a) = false ∧ isHi (regKey who a) = true ∧ l.all (fun f => f.acc == .ro || f.acc == .rc) = false ∧ (who < 256 ∨ 0x18 ≤ a) ∧ TIM_FREQ_ADJ_HI.ADJ.covers (regKey who a) = false ∧ MEM_MRAM_DATA_HI.DATA.covers (regKey who a) = false ∧ (tabGet s.wrHold who).valid = true ∧ (tabGet s.wrHold who).addr = regKey who a - 4) :=
  ⟨⟨State.reset, by decide +kernel⟩,
   ⟨(tw [(HIF_FNf_STATE.MSE, 0, 0, 1)]), 0, (TIM_FREQ_ADJ_LO.ADJ.base : Nat), (((tw [(HIF_FNf_STATE.MSE, 0, 0, 1)]).fieldsAt (regKey 0 (TIM_FREQ_ADJ_LO.ADJ.base : Nat))).getD [] : List Fld), by decide +kernel⟩,
   ⟨(tw [(HIF_FNf_STATE.MSE, 0, 0, 1)]), 0, (TIM_FREQ_ADJ_LO.ADJ.base : Nat), (((tw [(HIF_FNf_STATE.MSE, 0, 0, 1)]).fieldsAt (regKey 0 (TIM_FREQ_ADJ_LO.ADJ.base : Nat))).getD [] : List Fld), by decide +kernel⟩,
   ⟨({ tw [(HIF_FNf_STATE.MSE, 0, 0, 1)] with wrHold := [(0, { valid := true, addr := regKey 0 (REC_CMD_TIME_SEC_HI.T.base : Nat) - 4, val := 7 })] }), 0, (REC_CMD_TIME_SEC_HI.T.base : Nat), ((({ tw [(HIF_FNf_STATE.MSE, 0, 0, 1)] with wrHold := [(0, { valid := true, addr := regKey 0 (REC_CMD_TIME_SEC_HI.T.base : Nat) - 4, val := 7 })] }).fieldsAt (regKey 0 (REC_CMD_TIME_SEC_HI.T.base : Nat))).getD [] : List Fld), by decide +kernel⟩⟩

/-- States that meet the hypotheses of PlainAccesses, clause by clause. -/
theorem witness_PlainAccesses :
    (∃ (s : State) (who : Nat) (a : Nat) (val : Word) (l : List Fld), s.shut who = false ∧ s.fieldsAt (regKey who a) = some l ∧ (who < 256 ∨ 0x18 ≤ a) ∧ (∀ b, stagedAt (regKey who a) = some b → regKey who a ≠ b.base + 0xFF0) ∧ l.any (fun f => f.acc == .rwl) = false ∧ l.all (fun f => f.acc == .ro || f.acc == .rc) = false ∧ isLo (regKey who a) = false ∧ isHi (regKey who a) = false ∧ s.guardKey (regKey who a) = false ∧ s.guardSeed (regKey who a) = false ∧ s.guardCons (regKey who a) val.toNat = false ∧ s.guardStore (regKey who a) val.toNat = false ∧ s.guardAdm (regKey who a) = false ∧ s.guardDesc (regKey who a) = false) ∧
    (∃ (s : State) (who : Nat) (a : Nat) (l : List Fld), s.wf = true ∧ s.shut who = false ∧ s.fieldsAt (regKey who a) = some l ∧ (who < 256 ∨ 0x18 ≤ a) ∧ FWT_PERR.VALID.covers (regKey who a) = false ∧ TIM_GTC_NS.NS.covers (regKey who a) = false ∧ TIM_GRAINn_ANGLE.ANGLE.covers (regKey who a) = false ∧ blkOfAddr (regKey who a) ≠ some .cal ∧ isLo (regKey who a) = false ∧ isHi (regKey who a) = false ∧ (∀ f ∈ l, f.lo + f.w ≤ 32)) ∧
    (∃ (s : State) (who : Nat) (a : Nat) (val : Word) (b : Blk) (l : List Fld), s.shut who = false ∧ s.fieldsAt (regKey who a) = some l ∧ (who < 256 ∨ 0x18 ≤ a) ∧ rwlMask (regKey who a) ≠ 0 ∧ l.any (fun f => f.acc == .rwl) = true ∧ l.all (fun f => f.acc == .rwl) = true ∧ isLo (regKey who a) = false ∧ isHi (regKey who a) = false ∧ s.guardKey (regKey who a) = false ∧ s.guardSeed (regKey who a) = false ∧ s.guardCons (regKey who a) val.toNat = false ∧ s.guardStore (regKey who a) val.toNat = false ∧ s.guardAdm (regKey who a) = false ∧ s.guardDesc (regKey who a) = false ∧ stagedAt (regKey who a) = some b ∧ s.stState b = 1 ∧ s.owns b who = true) ∧
    (∃ (s : State) (who : Nat) (a : Nat), s.shut who = false ∧ FWT_PERR.VALID.covers (regKey who a) = true ∧ a % 4 = 0 ∧ a < 0x700000 ∧ who < 256) ∧
    (∃ (s : State) (who : Nat) (a : Nat) (val : Word) (c : Instr), s.wf = true ∧ s.shut who = true ∧ c ∈ [Instr.registerWrite who a val, .rwlWrite who a val, .splitLoWrite who a val, .splitHiWrite who a val, .unassignedAccess who a false, .registerReadClear who a, .splitLoRead who a, .unassignedAccess who a true, .windowWordWrite who a val, .windowFirstWordRead who a]) :=
  ⟨⟨(tw [(HIF_FNf_STATE.MSE, 0, 0, 1)]), 0, (TIM_UTC.LEAP61.base : Nat), (0#32 : Word), (((tw [(HIF_FNf_STATE.MSE, 0, 0, 1)]).fieldsAt (regKey 0 (TIM_UTC.LEAP61.base : Nat))).getD [] : List Fld), by decide +kernel⟩,
   ⟨(tw [(HIF_FNf_STATE.MSE, 0, 0, 1)]), 0, (GLB_BAD_ACCESS.COUNT.base : Nat), (((tw [(HIF_FNf_STATE.MSE, 0, 0, 1)]).fieldsAt (regKey 0 (GLB_BAD_ACCESS.COUNT.base : Nat))).getD [] : List Fld), by decide +kernel⟩,
   ⟨(tw [(STAGE_STATUS.STATE, (.recd : Blk).base, 0, 1), (HIF_FNf_STATE.MSE, 0, 0, 1)]), 0, (REC_FLUSH.FLUSH_US.base : Nat), (0#32 : Word), (.recd : Blk), (((tw [(STAGE_STATUS.STATE, (.recd : Blk).base, 0, 1), (HIF_FNf_STATE.MSE, 0, 0, 1)]).fieldsAt (regKey 0 (REC_FLUSH.FLUSH_US.base : Nat))).getD [] : List Fld), by decide +kernel⟩,
   ⟨(tw [(HIF_FNf_STATE.MSE, 0, 0, 1)]), 0, (FWT_PERR.VALID.base : Nat), by decide +kernel⟩,
   ⟨State.reset, 256, 4, (0#32 : Word), (.registerWrite 256 4 (0#32 : Word) : Instr), by decide +kernel⟩⟩

/-- States that meet the hypotheses of StagingCommands, clause by clause. -/
theorem witness_StagingCommands :
    (∃ (s : State) (who : Nat) (blk : Nat) (w : Nat) (b : Blk), s.wf = true ∧ s.shut who = false ∧ stagedBlk blk = some b ∧ ownerOf who = some w ∧ s.stState b = 0) ∧
    (∃ (s : State) (who : Nat) (blk : Nat) (b : Blk), s.wf = true ∧ s.shut who = false ∧ stagedBlk blk = some b ∧ s.stState b ≠ 0 ∧ (s.owns b who = true ∨ who = 0)) ∧
    (∃ (s : State) (who : Nat) (blk : Nat) (b : Blk), s.wf = true ∧ s.shut who = false ∧ stagedBlk blk = some b ∧ s.stState b = 1 ∧ s.owns b who = true ∧ s.refusal b = none) ∧
    (∃ (s : State) (who : Nat) (blk : Nat) (d : Nat) (b : Blk), s.wf = true ∧ s.shut who = false ∧ stagedBlk blk = some b ∧ s.stState b = 1 ∧ s.owns b who = true ∧ s.refusal b = some d) ∧
    (∃ (s : State) (who : Nat) (blk : Nat) (b : Blk), s.wf = true ∧ s.shut who = false ∧ stagedBlk blk = some b ∧ s.stState b = 1 ∧ s.owns b who = true ∧ s.refusal b = none ∧ tabGet s.markOwner (s.rd COMMIT_MARK.MARK b.base) = 0) ∧
    (∃ (s : State) (who : Nat) (blk : Nat) (b : Blk), s.wf = true ∧ s.shut who = false ∧ stagedBlk blk = some b ∧ s.stState b = 1 ∧ s.owns b who = true ∧ s.refusal b = none ∧ tabGet s.markOwner (s.rd COMMIT_MARK.MARK b.base) ≠ 0) ∧
    (∃ (s : State) (blk : Nat) (b : Blk), s.wf = true ∧ stagedBlk blk = some b ∧ s.stState b = 2 ∧ s.on COMMIT_MARK.TIMEOUT b.base = true) :=
  ⟨⟨(tw [(STAGE_STATUS.STATE, (.tim : Blk).base, 0, 0), (HIF_FNf_STATE.MSE, 0, 0, 1)]), 0, (Blk.bit .tim : Nat), 0, (.tim : Blk), by decide +kernel⟩,
   ⟨(tw [(STAGE_STATUS.STATE, (.tim : Blk).base, 0, 1), (HIF_FNf_STATE.MSE, 0, 0, 1)]), 0, (Blk.bit .tim : Nat), (.tim : Blk), by decide +kernel⟩,
   ⟨(tw [(STAGE_STATUS.STATE, (.tim : Blk).base, 0, 1), (HIF_FNf_STATE.MSE, 0, 0, 1)]), 0, (Blk.bit .tim : Nat), (.tim : Blk), by decide +kernel⟩,
   ⟨(tw [(STAGE_STATUS.STATE, (.tim : Blk).base, 0, 1), (HIF_FNf_STATE.MSE, 0, 0, 1), (TIM_GRAINn_CTRL.ENABLE, 0, 0, 1)]), 0, (Blk.bit .tim : Nat), 1, (.tim : Blk), by decide +kernel⟩,
   ⟨(tw [(STAGE_STATUS.STATE, (.tim : Blk).base, 0, 1), (HIF_FNf_STATE.MSE, 0, 0, 1)]), 0, (Blk.bit .tim : Nat), (.tim : Blk), by decide +kernel⟩,
   ⟨({ tw [(STAGE_STATUS.STATE, (.tim : Blk).base, 0, 1), (HIF_FNf_STATE.MSE, 0, 0, 1)] with markOwner := [(0, 1)] }), 0, (Blk.bit .tim : Nat), (.tim : Blk), by decide +kernel⟩,
   ⟨(tw [(STAGE_STATUS.STATE, (.tim : Blk).base, 0, 2), (COMMIT_MARK.TIMEOUT, (.tim : Blk).base, 0, 1)]), (Blk.bit .tim : Nat), (.tim : Blk), by decide +kernel⟩⟩

/-- States that meet the hypotheses of IndirectWindows, clause by clause. -/
theorem witness_IndirectWindows :
    (∃ (s : State) (win : Nat), s.wf = true ∧ win < 12) ∧
    (∃ (s : State) (who : Nat) (off : Nat) (w : Nat) (e : Nat) (k : Nat) (shadow : Bool), s.wf = true ∧ s.shut who = false ∧ s.winAt off = (w, shadow, e, k) ∧ who < 256 ∧ w < 12 ∧ off % 4 = 0 ∧ e < winEntries w ∧ s.winWritable w shadow = true ∧ k + 1 < winEntryWords w) ∧
    (∃ (s : State) (who : Nat) (off : Nat) (w : Nat) (e : Nat) (shadow : Bool), s.wf = true ∧ s.shut who = false ∧ s.winAt off = (w, shadow, e, winEntryWords w - 1) ∧ 1 < winEntryWords w ∧ who < 256 ∧ 3 ≤ w ∧ w < 12 ∧ off % 4 = 0 ∧ e < winEntries w ∧ s.winWritable w shadow = true ∧ (tabGet s.winWr w).valid = true ∧ (tabGet s.winWr w).entry = e ∧ (tabGet s.winWr w).shadow = shadow ∧ (tabGet s.winWr w).changed = false) ∧
    (∃ (s : State) (who : Nat) (off : Nat) (w : Nat) (e : Nat) (shadow : Bool), s.shut who = false ∧ s.winAt off = (w, shadow, e, 0) ∧ who < 256 ∧ w < 12 ∧ off % 4 = 0 ∧ e < winEntries w ∧ (w = 11 → shadow = false)) :=
  ⟨⟨State.reset, 0, by decide +kernel⟩,
   ⟨(tw [(HIF_FNf_STATE.MSE, 0, 0, 1)]), 0, 0, 0, 0, 0, (false : Bool), by decide +kernel⟩,
   ⟨({ tw [(HIF_FNf_STATE.MSE, 0, 0, 1)] with winWr := [(3, { valid := true, entry := 0, shadow := true, words := List.replicate 63 1 })] }), 0, (3 * 0x400000 + 0x200000 + 63 * 4 : Nat), 3, 0, (true : Bool), by decide +kernel⟩,
   ⟨(tw [(HIF_FNf_STATE.MSE, 0, 0, 1)]), 0, 0, 0, 0, (false : Bool), by decide +kernel⟩⟩

/-- States that meet the hypotheses of TimeSourceUpdates, clause by clause. -/
theorem witness_TimeSourceUpdates :
    (∃ (s : State) (who : Nat), s.shut who = false) ∧
    (∃ (s : State) (who : Nat) (val : Word), s.shut who = false ∧ (sgn 32 val.toNat).natAbs ≤ 999999999) ∧
    (∃ (s : State) (who : Nat) (val : Word), s.shut who = false ∧ 999999999 < (sgn 32 val.toNat).natAbs) ∧
    (∃ (s : State), (s.src 1).seen = true) ∧
    (∃ (s : State) (rising : Bool) (t0 : Nat), s.wf = true ∧ (rising == s.on TIM_PPS_IN_CFG.EDGE) = false ∧ (fromSecond (s.gtcAt t0 - sgn 24 (s.rd TIM_PPS_IN_CFG.CABLE_NS))).natAbs ≤ 100000000) ∧
    (∃ (s : State) (rising : Bool) (t0 : Nat), s.wf = true ∧ (rising == s.on TIM_PPS_IN_CFG.EDGE) = false ∧ 100000000 < (fromSecond (s.gtcAt t0 - sgn 24 (s.rd TIM_PPS_IN_CFG.CABLE_NS))).natAbs) ∧
    (∃ (s : State), s.wf = true) :=
  ⟨⟨(tw [(HIF_FNf_STATE.MSE, 0, 0, 1)]), 0, by decide +kernel⟩,
   ⟨(tw [(HIF_FNf_STATE.MSE, 0, 0, 1)]), 0, (0#32 : Word), by decide +kernel⟩,
   ⟨(tw [(HIF_FNf_STATE.MSE, 0, 0, 1)]), 0, (0x7FFFFFFF#32 : Word), by decide +kernel⟩,
   ⟨({ State.reset with tim.srcs := [(1, { seen := true })] }), by decide +kernel⟩,
   ⟨State.reset, (true : Bool), 0, by decide +kernel⟩,
   ⟨({ State.reset with tim.gtc := 500000000 }), (true : Bool), 0, by decide +kernel⟩,
   ⟨State.reset, by decide +kernel⟩⟩

/-- States that meet the hypotheses of TimebaseCommands, clause by clause. -/
theorem witness_TimebaseCommands :
    (∃ (s : State) (who : Nat), s.wf = true ∧ s.shut who = false) ∧
    (∃ (s : State) (g : Nat) (t0 : Nat), s.wf = true ∧ s.tim.holdFrom = some (g, t0) ∧ s.rd TIM_STATUS.STATE = 3) ∧
    (∃ (s : State) (g : Nat) (t0 : Nat), s.wf = true ∧ s.tim.holdFrom = some (g, t0) ∧ s.rd TIM_STATUS.STATE = 1 ∧ s.tim.fromHold = true) ∧
    (∃ (s : State), s.tim.carried = false) ∧
    (∃ (s : State) (who : Nat), s.shut who = false) ∧
    (∃ (s : State) (who : Nat) (inst : Nat), s.shut who = false ∧ inst < 4) ∧
    (∃ (s : State) (at_ : Nat), at_ = unsgn 64 (sgn 32 (s.rd TIM_PPS_OUT_OFS.NS) % 1000000000) ∧ s.on TIM_PPS_OUT_CFG.ENABLE = true ∧ (s.advanceTo (s.tick + (nsPerSec - (s.tim.gtc + nsPerSec - at_) % nsPerSec))).gateAt = true) ∧
    (∃ (s : State) (at_ : Nat), at_ = unsgn 64 (sgn 32 (s.rd TIM_PPS_OUT_OFS.NS) % 1000000000) ∧ (s.on TIM_PPS_OUT_CFG.ENABLE = false ∨ (s.advanceTo (s.tick + (nsPerSec - (s.tim.gtc + nsPerSec - at_) % nsPerSec))).gateAt = false)) ∧
    (∃ (s : State), s.pins.ppsOut = true) ∧
    (∃ (s : State) (ocxo : Bool), s.wf = true ∧ s.on (if ocxo then TIM_STATUS.OCXO_OK else TIM_STATUS.CLK10M_OK) = true) ∧
    (∃ (s : State), s.wf = true) :=
  ⟨⟨(tw [(HIF_FNf_STATE.MSE, 0, 0, 1)]), 0, by decide +kernel⟩,
   ⟨({ tw [(TIM_STATUS.STATE, 0, 0, 3)] with tim.holdFrom := some (0, 0) }), 0, 0, by decide +kernel⟩,
   ⟨({ tw [(TIM_STATUS.STATE, 0, 0, 1)] with tim.holdFrom := some (0, 0), tim.fromHold := true }), 0, 0, by decide +kernel⟩,
   ⟨State.reset, by decide +kernel⟩,
   ⟨(tw [(HIF_FNf_STATE.MSE, 0, 0, 1)]), 0, by decide +kernel⟩,
   ⟨(tw [(HIF_FNf_STATE.MSE, 0, 0, 1)]), 0, 0, by decide +kernel⟩,
   ⟨(tw [(TIM_PPS_OUT_CFG.ENABLE, 0, 0, 1), (TIM_STATUS.QUALITY, 0, 0, 0)]), 0, by decide +kernel⟩,
   ⟨State.reset, 0, by decide +kernel⟩,
   ⟨({ State.reset with pins.ppsOut := true }), by decide +kernel⟩,
   ⟨(tw [(TIM_STATUS.CLK10M_OK, 0, 0, 1)]), (false : Bool), by decide +kernel⟩,
   ⟨State.reset, by decide +kernel⟩⟩

/-- States that meet the hypotheses of GrainAndMarks, clause by clause. -/
theorem witness_GrainAndMarks :
    (∃ (s : State) (n : Nat), s.wf = true ∧ n < 4 ∧ (s.gstate n = 1 ∨ s.gstate n = 2)) ∧
    (∃ (s : State) (n : Nat), s.wf = true ∧ n < 4 ∧ s.gstate n ≠ 0 ∧ (s.grain n).inc ≠ 0 ∧ s.cyc n ≤ (s.grain n).wrapCycle) ∧
    (∃ (s : State) (n : Nat), s.wf = true ∧ n < 4 ∧ s.gstate n = 3 ∧ s.revertsAtFlag n = false ∧ (s.grain n).inc ≠ 0) ∧
    (∃ (s : State) (n : Nat), s.wf = true ∧ n < 4 ∧ s.gstate n = 3 ∧ s.revertsAtFlag n = true ∧ (s.grain n).inc ≠ 0) ∧
    (∃ (s : State) (n : Nat), s.wf = true ∧ n < 4 ∧ s.gstate n = 3 ∧ s.on TIM_GRAINn_COAST.TIMEOUT n = true ∧ (s.grain n).inc ≠ 0 ∧ s.rd TIM_GRAINn_CTRL.NOMINAL_MHZ n ≠ 0) ∧
    (∃ (s : State) (m : Nat) (c : Nat) (x : Nat), s.wf = true ∧ m < 256 ∧ s.markNext m = some (c, x) ∧ (s.tim.markTick = s.tick && s.tim.markDone.contains m) = false ∧ s.markOwner.any (fun p => p.2 == Blk.bit .tim + 1) = false ∧ (s.grain (s.rd TIM_MARKn_CFG.INSTANCE m)).inc ≠ 0) ∧
    (∃ (s : State) (m : Nat), m < 256 ∧ s.tim.markTick = s.tick ∧ s.tim.markDone.contains m = true) :=
  ⟨⟨(tw [(TIM_GRAINn_STATUS.STATE, 0, 0, 2)]), 0, by decide +kernel⟩,
   ⟨({ tw [(TIM_GRAINn_STATUS.STATE, 0, 0, 2)] with tim.grains := [(0, { inc := 2 ^ 32 })] }), 0, by decide +kernel⟩,
   ⟨({ tw [(TIM_GRAINn_STATUS.STATE, 0, 0, 3)] with tim.grains := [(0, { inc := 2 ^ 40 })] }), 0, by decide +kernel⟩,
   ⟨({ tw [(TIM_GRAINn_STATUS.STATE, 0, 0, 3), (TIM_GRAINn_STATUS.STATE, 0, 0, 3), (TIM_GRAINn_COAST.TIMEOUT, 0, 0, 2)] with tim.grains := [(0, { inc := 2 ^ 40 })] }), 0, by decide +kernel⟩,
   ⟨({ tw [(TIM_GRAINn_STATUS.STATE, 0, 0, 3), (TIM_GRAINn_COAST.TIMEOUT, 0, 0, 1), (TIM_GRAINn_CTRL.NOMINAL_MHZ, 0, 0, 1), (TIM_GRAINn_CTRL.NOMINAL_MHZ, 0, 0, 50000)] with tim.grains := [(0, { inc := 2 ^ 40 })] }), 0, by decide +kernel⟩,
   ⟨({ tw [(TIM_MARKn_CFG.ENABLE, 0, 0, 1), (TIM_GRAINn_STATUS.STATE, 0, 0, 2)] with tim.grains := [(0, { inc := 2 ^ 40 })] }), 0, 1, (2 ^ 64 : Nat), by decide +kernel⟩,
   ⟨({ State.reset with tim.markTick := 0, tim.markDone := [255] }), 255, by decide +kernel⟩⟩

/-- States that meet the hypotheses of LinkAndFunctionSwitches, clause by clause. -/
theorem witness_LinkAndFunctionSwitches :
    (∃ (s : State) (rate : Nat) (width : Nat), s.wf = true ∧ s.pins.perstN = true ∧ s.rd HIF_LINK_STATUS.LTSSM ∉ [3, 6] ∧ min rate (s.rd HIF_LINK_CFG.MAX_RATE) ≠ 0 ∧ linkWidth (min width (s.rd HIF_LINK_CFG.MAX_WIDTH)) ≠ 0) ∧
    (∃ (s : State), s.wf = true ∧ (s.rd HIF_LINK_STATUS.LTSSM = 3 ∨ s.rd HIF_LINK_STATUS.LTSSM = 5)) ∧
    (∃ (s : State) (f : Nat), s.wf = true ∧ f < 256 ∧ s.on HIF_FNf_STATE.PRESENT f = true) ∧
    (∃ (s : State) (f : Nat), s.wf = true ∧ f < 256 ∧ s.on HIF_FNf_STATE.PRESENT f = true) ∧
    (∃ (s : State) (f : Nat) (e : Nat), s.wf = true ∧ f < 256 ∧ e ≤ s.rd HIF_FNf_MSIX.SIZE f ∧ s.msixOpen f = true ∧ s.msixPending f e = true) ∧
    (∃ (s : State) (f : Nat) (e : Nat), s.wf = true ∧ f < 256 ∧ e ≤ s.rd HIF_FNf_MSIX.SIZE f ∧ s.msixOpen f = false) :=
  ⟨⟨(tw [(HIF_LINK_STATUS.LTSSM, 0, 0, 1), (HIF_LINK_CFG.MAX_RATE, 0, 0, 5), (HIF_LINK_CFG.MAX_WIDTH, 0, 0, 16)]), 5, 16, by decide +kernel⟩,
   ⟨(tw [(HIF_LINK_STATUS.LTSSM, 0, 0, 5)]), by decide +kernel⟩,
   ⟨(tw [(HIF_FNf_STATE.PRESENT, 0, 0, 1)]), 0, by decide +kernel⟩,
   ⟨(tw [(HIF_FNf_STATE.PRESENT, 0, 0, 1)]), 0, by decide +kernel⟩,
   ⟨((tw [(HIF_FNf_STATE.BME, 0, 0, 1)]).setReg (pbaAddr 0 0) 1#32), 0, 0, by decide +kernel⟩,
   ⟨State.reset, 0, 0, by decide +kernel⟩⟩

/-- States that meet the hypotheses of ConfigurationRequests, clause by clause. -/
theorem witness_ConfigurationRequests :
    (∃ (s : State) (f : Nat), s.wf = true ∧ f < 256 ∧ s.on HIF_FNf_STATE.PRESENT f = false) ∧
    (∃ (s : State) (f : Nat), s.wf = true ∧ f < 256 ∧ s.on HIF_FNf_STATE.PRESENT f = true ∧ s.on HIF_FNf_STATE.READY f = false) ∧
    (∃ (s : State) (f : Nat), s.wf = true ∧ f < 256 ∧ s.on HIF_FNf_STATE.PRESENT f = true ∧ s.on HIF_FNf_STATE.READY f = true) ∧
    (∃ (s : State) (f : Nat), s.wf = true ∧ f < 256 ∧ s.on HIF_FNf_STATE.PRESENT f = true ∧ s.on HIF_FNf_STATE.READY f = true) ∧
    (∃ (s : State), s.wf = true ∧ s.on HIF_FNf_STATE.PRESENT 0 = true ∧ s.on HIF_FNf_STATE.READY 0 = true) :=
  ⟨⟨(tw [(HIF_FNf_STATE.PRESENT, 0, 0, 0)]), 0, by decide +kernel⟩,
   ⟨(tw [(HIF_FNf_STATE.PRESENT, 0, 0, 1), (HIF_FNf_STATE.READY, 0, 0, 0)]), 0, by decide +kernel⟩,
   ⟨(tw [(HIF_FNf_STATE.PRESENT, 0, 0, 1), (HIF_FNf_STATE.READY, 0, 0, 1)]), 0, by decide +kernel⟩,
   ⟨(tw [(HIF_FNf_STATE.PRESENT, 0, 0, 1), (HIF_FNf_STATE.READY, 0, 0, 1)]), 0, by decide +kernel⟩,
   ⟨(tw [(HIF_FNf_STATE.PRESENT, 0, 0, 1), (HIF_FNf_STATE.READY, 0, 0, 1)]), by decide +kernel⟩⟩

/-- States that meet the hypotheses of FunctionService, clause by clause. -/
theorem witness_FunctionService :
    (∃ (s : State) (f : Nat), s.on HIF_FNf_STATE.PRESENT f = true) ∧
    (∃ (s : State) (f : Nat), s.on HIF_FNf_STATE.PRESENT f = true ∧ s.on HIF_FNf_STATE.BME f = true) ∧
    (∃ (s : State) (f : Nat), s.on HIF_FNf_STATE.PRESENT f = true ∧ s.on HIF_FNf_STATE.READY f = true) ∧
    (∃ (s : State) (f : Nat), s.on HIF_FNf_STATE.PRESENT f = true ∧ (s.cfg f).initializing = true ∧ s.on HIF_FNf_STATE.QUIESCED f = false ∧ s.pins.perstN = true ∧ s.rd PWR_STATUS.PSTATE = 0 ∧ s.fnReady f = true) ∧
    (∃ (s : State) (f : Nat), f < 8 ∧ s.on HIF_FNf_STATE.PRESENT f = true ∧ s.rd HIF_FNf_STATE.DSTATE f ≠ 3) ∧
    (∃ (s : State) (f : Nat), f < 8 ∧ s.on HIF_FNf_STATE.PRESENT f = true ∧ s.rd HIF_FNf_STATE.DSTATE f ≠ 0) ∧
    (∃ (s : State) (f : Nat), s.wf = true ∧ f ≠ 0 ∧ f ≤ 4 ∧ s.on HIF_FNf_STATE.READY f = true ∧ (s.cfg f).vfEnable = false) ∧
    (∃ (s : State) (f : Nat), f ≠ 0 ∧ f ≤ 4 ∧ (s.cfg f).vfEnable = true) ∧
    (∃ (s : State), s.wf = true) ∧
    (∃ (s : State), s.wf = true) ∧
    (∃ (s : State), s.wf = true ∧ s.pins.perstN = true) :=
  ⟨⟨(tw [(HIF_FNf_STATE.PRESENT, 0, 0, 1)]), 0, by decide +kernel⟩,
   ⟨(tw [(HIF_FNf_STATE.PRESENT, 0, 0, 1), (HIF_FNf_STATE.BME, 0, 0, 1)]), 0, by decide +kernel⟩,
   ⟨(tw [(HIF_FNf_STATE.PRESENT, 0, 0, 1), (HIF_FNf_STATE.READY, 0, 0, 1)]), 0, by decide +kernel⟩,
   ⟨({ (tw [(HIF_FNf_STATE.PRESENT, 0, 0, 1), (HIF_FNf_STATE.QUIESCED, 0, 0, 0), (PWR_STATUS.PSTATE, 0, 0, 0), (GLB_READY_BLK.READY, 0, 0, 0x3FFFFF)]) with hif.cfg := [(0, { initializing := true })] }), 0, by decide +kernel⟩,
   ⟨(tw [(HIF_FNf_STATE.PRESENT, 0, 0, 1), (HIF_FNf_STATE.DSTATE, 0, 0, 0)]), 0, by decide +kernel⟩,
   ⟨(tw [(HIF_FNf_STATE.PRESENT, 0, 0, 1), (HIF_FNf_STATE.DSTATE, 0, 0, 1)]), 0, by decide +kernel⟩,
   ⟨(tw [(HIF_FNf_STATE.READY, 1, 0, 1)]), 1, by decide +kernel⟩,
   ⟨({ State.reset with hif.cfg := [(1, { vfEnable := true })] }), 1, by decide +kernel⟩,
   ⟨State.reset, by decide +kernel⟩,
   ⟨State.reset, by decide +kernel⟩,
   ⟨State.reset, by decide +kernel⟩⟩

/-- States that meet the hypotheses of CompletionsAndTags, clause by clause. -/
theorem witness_CompletionsAndTags :
    (∃ (check : TlpCheck) (e : AerErr), linkError check = some e) ∧
    (∃ (s : State) (f : Nat) (tag : Nat) (status : Nat) (r : ReadReq), s.hif.reads.find? (fun r => r.fn == f && r.tag == tag) = some r ∧ r.owed = false ∧ status ≠ 0) ∧
    (∃ (s : State) (f : Nat) (tag : Nat) (check : TlpCheck), (check = .good ∨ (check = .ecrc ∧ (s.cfg 0).ecrcCheck = false)) ∧ s.hif.reads.find? (fun r => r.fn == f && r.tag == tag) = none ∧ s.hif.quar.any (fun q => q.1 == f && q.2.1 == tag) = true) ∧
    (∃ (s : State) (f : Nat) (tag : Nat) (check : TlpCheck), (check = .good ∨ (check = .ecrc ∧ (s.cfg 0).ecrcCheck = false)) ∧ s.hif.reads.find? (fun r => r.fn == f && r.tag == tag) = none ∧ s.hif.quar.any (fun q => q.1 == f && q.2.1 == tag) = false) ∧
    (∃ (s : State) (f : Nat) (tag : Nat) (bytes : List Byte) (r : ReadReq), s.hif.reads.find? (fun r => r.fn == f && r.tag == tag) = some r ∧ r.owed = false ∧ r.got.length + bytes.length < r.len ∧ (r.addr + r.got.length + bytes.length) % 64 = 0) ∧
    (∃ (s : State) (f : Nat) (tag : Nat) (bytes : List Byte) (r : ReadReq), s.hif.reads.find? (fun r => r.fn == f && r.tag == tag) = some r ∧ r.owed = false ∧ r.got.length + bytes.length = r.len) ∧
    (∃ (s : State) (f : Nat) (tag : Nat) (r : ReadReq), s.hif.reads.find? (fun r => r.fn == f && r.tag == tag) = some r ∧ (s.cfg f).ctoDisable = false) ∧
    (∃ (s : State) (f : Nat) (tag : Nat) (q : Nat × Nat × Nat), s.hif.quar.find? (fun q => q.1 == f && q.2.1 == tag) = some q) ∧
    (∃ (s : State) (f : Nat), s.wf = true ∧ s.on HIF_FNf_STATE.FLR_BUSY f = true ∧ s.on HIF_FNf_STATE.QUIESCED f = true) ∧
    (∃ (s : State), s.wf = true ∧ (s.rd HIF_LINK_STATUS.LTSSM = 3 ∨ s.rd HIF_LINK_STATUS.LTSSM = 5)) :=
  ⟨⟨(.badTlp : TlpCheck), (.badTlp : AerErr), by decide +kernel⟩,
   ⟨({ State.reset with hif.reads := [({ len := 8 } : ReadReq)] }), 0, 0, 1, ({ len := 8 } : ReadReq), by decide +kernel⟩,
   ⟨({ State.reset with hif.quar := [(0, 0, 0)] }), 0, 0, (.good : TlpCheck), by decide +kernel⟩,
   ⟨State.reset, 0, 0, (.good : TlpCheck), by decide +kernel⟩,
   ⟨({ State.reset with hif.reads := [({ len := 65 } : ReadReq)] }), 0, 0, (List.replicate 64 0#8 : List Byte), ({ len := 65 } : ReadReq), by decide +kernel⟩,
   ⟨({ State.reset with hif.reads := [({ len := 1 } : ReadReq)] }), 0, 0, ([0#8] : List Byte), ({ len := 1 } : ReadReq), by decide +kernel⟩,
   ⟨({ State.reset with hif.reads := [({ len := 8 } : ReadReq)] }), 0, 0, ({ len := 8 } : ReadReq), by decide +kernel⟩,
   ⟨({ State.reset with hif.quar := [(0, 0, 0)] }), 0, 0, ((0, 0, 0) : Nat × Nat × Nat), by decide +kernel⟩,
   ⟨(tw [(HIF_FNf_STATE.FLR_BUSY, 0, 0, 1), (HIF_FNf_STATE.QUIESCED, 0, 0, 1)]), 0, by decide +kernel⟩,
   ⟨(tw [(HIF_LINK_STATUS.LTSSM, 0, 0, 3)]), by decide +kernel⟩⟩

/-- States that meet the hypotheses of RingService, clause by clause. -/
theorem witness_RingService :
    (∃ (s : State) (f : Nat), s.wf = true ∧ f < 256 ∧ s.memOpen f = false) ∧
    (∃ (s : State) (f : Nat) (n : Nat) (off : Nat) (full : Bool), s.wf = true ∧ f < 256 ∧ s.memOpen f = true ∧ (8 ≤ f → 4096 * n < doorbellSize (s.vfAllow (s.pfOf f))) ∧ (off ≠ 0 ∨ full = false ∨ s.rd QMG_ADM_ALLOW.ALLOW f ≤ n)) ∧
    (∃ (s : State) (f : Nat) (n : Nat), s.wf = true ∧ f < 256 ∧ s.memOpen f = true ∧ n < s.rd QMG_ADM_ALLOW.ALLOW f ∧ (8 ≤ f → 4096 * n < doorbellSize (s.vfAllow (s.pfOf f))) ∧ s.findRing f n = none) ∧
    (∃ (s : State) (f : Nat) (n : Nat) (g : Nat) (val : Word), s.wf = true ∧ f < 256 ∧ s.memOpen f = true ∧ n < s.rd QMG_ADM_ALLOW.ALLOW f ∧ (8 ≤ f → 4096 * n < doorbellSize (s.vfAllow (s.pfOf f))) ∧ s.findRing f n = some g ∧ (s.ring g).destroying = false ∧ s.rd QMG_RINGg_DESC.STATE g = 1 ∧ { s.ring g with tail := val.toNat } ≠ ({} : RingSt) ∧ (val.toNat + 2 ^ 32 - s.rd QMG_RINGg_CONS.CONS g) % 2 ^ 32 ≤ s.ringSize g) ∧
    (∃ (s : State) (f : Nat) (n : Nat) (g : Nat) (val : Word), s.wf = true ∧ f < 256 ∧ s.memOpen f = true ∧ n < s.rd QMG_ADM_ALLOW.ALLOW f ∧ (8 ≤ f → 4096 * n < doorbellSize (s.vfAllow (s.pfOf f))) ∧ s.findRing f n = some g ∧ (s.ring g).destroying = false ∧ s.rd QMG_RINGg_DESC.STATE g = 2 ∧ { s.ring g with tail := val.toNat } ≠ ({} : RingSt) ∧ s.ringSize g < (val.toNat + 2 ^ 32 - s.rd QMG_RINGg_CONS.CONS g) % 2 ^ 32) ∧
    (∃ (s : State) (f : Nat) (n : Nat) (g : Nat) (val : Word), s.wf = true ∧ f < 256 ∧ s.memOpen f = true ∧ n < s.rd QMG_ADM_ALLOW.ALLOW f ∧ (8 ≤ f → 4096 * n < doorbellSize (s.vfAllow (s.pfOf f))) ∧ s.findRing f n = some g ∧ (s.ring g).destroying = false ∧ s.rd QMG_RINGg_DESC.STATE g = 2 ∧ (s.ring g).copies = [] ∧ (val.toNat + 2 ^ 32 - s.rd QMG_RINGg_CONS.CONS g) % 2 ^ 32 ≤ s.ringSize g ∧ { s.ring g with tail := val.toNat } ≠ ({} : RingSt)) ∧
    (∃ (s : State) (g : Nat) (t0 : Nat), (s.ring g).ownFrom = some t0 ∧ s.rd QMG_RINGg_DESC.STATE g = 2 ∧ (s.ring g).copies.any (fun c => c.1 == s.rd QMG_RINGg_CONS.CONS g && !copyOwned c) = true) ∧
    (∃ (s : State) (g : Nat) (t0 : Nat), (s.ring g).ownFrom = some t0 ∧ s.rd QMG_RINGg_DESC.STATE g = 2) ∧
    (∃ (s : State) (g : Nat) (j : Job), s.headJob g = some j ∧ j.ready = true) ∧
    (∃ (s : State) (g : Nat), (s.ring g).unsig ≠ 0 ∧ (s.ring g).itime ≠ 0 ∧ (s.ring g).ien = true ∧ s.on HIF_FNf_STATE.FAULT (s.rd QMG_RINGg_DESC.FN g) = false) ∧
    (∃ (s : State) (f : Nat) (n : Nat), s.memOpen f = true ∧ 8 ≤ f ∧ doorbellSize (s.vfAllow (s.pfOf f)) ≤ 4096 * n) :=
  ⟨⟨State.reset, 0, by decide +kernel⟩,
   ⟨(tw [(HIF_FNf_STATE.MSE, 0, 0, 1)]), 0, 0, 4, (false : Bool), by decide +kernel⟩,
   ⟨(tw [(HIF_FNf_STATE.MSE, 0, 0, 1), (QMG_ADM_ALLOW.ALLOW, 0, 0, 2)]), 0, 1, by decide +kernel⟩,
   ⟨(tw [(QMG_RINGg_DESC.STATE, 0, 0, 1), (HIF_FNf_STATE.MSE, 0, 0, 1), (QMG_ADM_ALLOW.ALLOW, 0, 0, 2)]), 0, 0, 0, (1#32 : Word), by decide +kernel⟩,
   ⟨(tw [(QMG_RINGg_DESC.STATE, 0, 0, 2), (HIF_FNf_STATE.MSE, 0, 0, 1), (QMG_ADM_ALLOW.ALLOW, 0, 0, 2)]), 0, 0, 0, (9#32 : Word), by decide +kernel⟩,
   ⟨(tw [(QMG_RINGg_DESC.STATE, 0, 0, 2), (HIF_FNf_STATE.MSE, 0, 0, 1), (QMG_ADM_ALLOW.ALLOW, 0, 0, 2)]), 0, 0, 0, (1#32 : Word), by decide +kernel⟩,
   ⟨({ tw [(QMG_RINGg_DESC.STATE, 0, 0, 2)] with rings := [(0, { ownFrom := some 0, copies := [(0, [0])] })] }), 0, 0, by decide +kernel⟩,
   ⟨({ tw [(QMG_RINGg_DESC.STATE, 0, 0, 2)] with rings := [(0, { ownFrom := some 0, ownEnd := 5 })] }), 0, 0, by decide +kernel⟩,
   ⟨({ State.reset with rings := [(0, { jobs := [({ qw := [0, 0, 0, 0, 0, 0, 0, 0], data := [(0, [])], frags := [] } : Job)] })] }), 0, ({ qw := [0, 0, 0, 0, 0, 0, 0, 0], data := [(0, [])], frags := [] } : Job), by decide +kernel⟩,
   ⟨({ State.reset with rings := [(0, { unsig := 1, itime := 3, ien := true })] }), 0, by decide +kernel⟩,
   ⟨(tw [(HIF_FNf_STATE.PRESENT, 8, 0, 1), (HIF_FNf_STATE.MSE, 8, 0, 1)]), 8, 4, by decide +kernel⟩⟩

/-- States that meet the hypotheses of AdminCommands, clause by clause. -/
theorem witness_AdminCommands :
    (∃ (s : State) (f : Nat) (val : Word), s.wf = true ∧ f < 256 ∧ s.on QMG_ADM_CFG.ENABLE f = false ∧ bitOf val.toNat 31 = false) ∧
    (∃ (s : State) (f : Nat) (g : Nat) (val : Word), s.wf = true ∧ f < 256 ∧ s.on QMG_ADM_CFG.ENABLE f = false ∧ bitOf val.toNat 31 = true ∧ 6 ≤ bitsOf val.toNat 16 5 ∧ bitsOf val.toNat 16 5 ≤ 16 ∧ (s.rd QMG_ADM_BASE_LO.BASE f + s.rd QMG_ADM_BASE_HI.BASE f * 2 ^ 32) % 4096 = 0 ∧ s.freeRing = some g ∧ s.findRing f 0 = none) ∧
    (∃ (s : State) (f : Nat) (g : Nat) (val : Word), s.wf = true ∧ f < 256 ∧ s.on QMG_ADM_CFG.ENABLE f = true ∧ bitOf val.toNat 31 = false ∧ bitsOf val.toNat 16 5 = s.rd QMG_ADM_CFG.LOG2 f ∧ bitsOf val.toNat 0 11 = s.rd QMG_ADM_CFG.VECTOR f ∧ s.findRing f 0 = some g) ∧
    (∃ (s : State) (g : Nat) (j : Job), s.jobOf g 0 = some j) ∧
    (∃ (s : State) (g : Nat) (j : Job), s.jobOf g 1 = some j) ∧
    (∃ (s : State) (g : Nat) (h : Nat) (j : Job), s.jobOf g 2 = some j ∧ s.createRefused (s.rd QMG_RINGg_DESC.FN g) j.qw = 0 ∧ s.findRing (s.rd QMG_RINGg_DESC.FN g) (bitsOf (qwAt j.qw 1) 0 14) = none ∧ s.freeRing = some h ∧ bitsOf (qwAt j.qw 7) 0 11 ≤ s.rd HIF_FNf_MSIX.SIZE (s.rd QMG_RINGg_DESC.FN g)) ∧
    (∃ (s : State) (g : Nat) (j : Job), s.jobOf g 2 = some j ∧ s.createRefused (s.rd QMG_RINGg_DESC.FN g) j.qw ≠ 0) ∧
    (∃ (s : State) (g : Nat) (h : Nat) (j : Job), s.jobOf g 3 = some j ∧ bitsOf (qwAt j.qw 1) 0 14 ≠ 0 ∧ s.findRing (s.rd QMG_RINGg_DESC.FN g) (bitsOf (qwAt j.qw 1) 0 14) = some h) ∧
    (∃ (s : State) (g : Nat) (h : Nat) (j : Job), s.jobOf g 4 = some j ∧ s.findRing (s.rd QMG_RINGg_DESC.FN g) (bitsOf (qwAt j.qw 1) 0 14) = some h ∧ bitsOf (qwAt j.qw 7) 0 11 ≤ s.rd HIF_FNf_MSIX.SIZE (s.rd QMG_RINGg_DESC.FN g)) ∧
    (∃ (s : State) (g : Nat) (h : Nat) (j : Job), s.jobOf g 5 = some j ∧ s.findRing (s.rd QMG_RINGg_DESC.FN g) (bitsOf (qwAt j.qw 1) 0 14) = some h) ∧
    (∃ (s : State) (g : Nat) (h : Nat) (j : Job), s.jobOf g 6 = some j ∧ s.findRing (s.rd QMG_RINGg_DESC.FN g) (bitsOf (qwAt j.qw 1) 0 14) = some h) ∧
    (∃ (s : State) (g : Nat) (c : Instr) (op : Nat) (j : Job), s.jobOf g op = some j ∧ ((c = .destroyRing g ∧ op = 3 ∧ bitsOf (qwAt j.qw 1) 0 14 ≠ 0) ∨ (c = .modifyRing g ∧ op = 4) ∨ (c = .queryRing g ∧ op = 5) ∨ (c = .ringCounters g ∧ op = 6)) ∧ s.findRing (s.rd QMG_RINGg_DESC.FN g) (bitsOf (qwAt j.qw 1) 0 14) = none) :=
  ⟨⟨(tw [(QMG_ADM_CFG.ENABLE, 0, 0, 0)]), 0, (0#32 : Word), by decide +kernel⟩,
   ⟨(tw [(QMG_ADM_CFG.ENABLE, 0, 0, 0)]), 0, 0, (0x80060000#32 : Word), by decide +kernel⟩,
   ⟨(tw [(QMG_ADM_CFG.ENABLE, 0, 0, 1), (QMG_ADM_CFG.LOG2, 0, 0, 6), (QMG_RINGg_DESC.STATE, 0, 0, 2)]), 0, 0, (0x00060000#32 : Word), by decide +kernel⟩,
   ⟨({ State.reset with rings := [(0, { jobs := [({ qw := [0, 0, 0, 0, 0, 0, 0, 0], data := [(0, [])], frags := [] } : Job)] })] }), 0, ({ qw := [0, 0, 0, 0, 0, 0, 0, 0], data := [(0, [])], frags := [] } : Job), by decide +kernel⟩,
   ⟨({ State.reset with rings := [(0, { jobs := [({ qw := [1, 0, 0, 0, 0, 0, 0, 0], data := [(0, [])], frags := [] } : Job)] })] }), 0, ({ qw := [1, 0, 0, 0, 0, 0, 0, 0], data := [(0, [])], frags := [] } : Job), by decide +kernel⟩,
   ⟨({ tw [(QMG_RINGg_DESC.STATE, 0, 0, 2), (QMG_ADM_ALLOW.ALLOW, 0, 0, 4), (QMG_RINGg_DESC.FN, 0, 0, 0)] with rings := [(0, { jobs := [({ qw := [2, 1 + 6 * 2 ^ 16 + 2 ^ 23, 0, 0, 0, 0, 0, 0], data := [(0, [])], frags := [] } : Job)] })] }), 0, 1, ({ qw := [2, 1 + 6 * 2 ^ 16 + 2 ^ 23, 0, 0, 0, 0, 0, 0], data := [(0, [])], frags := [] } : Job), by decide +kernel⟩,
   ⟨({ tw [(QMG_RINGg_DESC.STATE, 0, 0, 2)] with rings := [(0, { jobs := [({ qw := [2, 0, 0, 0, 0, 0, 0, 0], data := [(0, [])], frags := [] } : Job)] })] }), 0, ({ qw := [2, 0, 0, 0, 0, 0, 0, 0], data := [(0, [])], frags := [] } : Job), by decide +kernel⟩,
   ⟨({ tw [(QMG_RINGg_DESC.STATE, 0, 0, 2), (QMG_RINGg_DESC.STATE, 1, 0, 2), (QMG_RINGg_DESC.RING, 1, 0, 1)] with rings := [(0, { jobs := [({ qw := [3, 1, 0, 0, 0, 0, 0, 0], data := [(0, [])], frags := [] } : Job)] })] }), 0, 1, ({ qw := [3, 1, 0, 0, 0, 0, 0, 0], data := [(0, [])], frags := [] } : Job), by decide +kernel⟩,
   ⟨({ tw [(QMG_RINGg_DESC.STATE, 0, 0, 2), (QMG_RINGg_DESC.STATE, 1, 0, 2), (QMG_RINGg_DESC.RING, 1, 0, 1)] with rings := [(0, { jobs := [({ qw := [4, 1, 0, 0, 0, 0, 0, 0], data := [(0, [])], frags := [] } : Job)] })] }), 0, 1, ({ qw := [4, 1, 0, 0, 0, 0, 0, 0], data := [(0, [])], frags := [] } : Job), by decide +kernel⟩,
   ⟨({ tw [(QMG_RINGg_DESC.STATE, 0, 0, 2), (QMG_RINGg_DESC.STATE, 1, 0, 2), (QMG_RINGg_DESC.RING, 1, 0, 1)] with rings := [(0, { jobs := [({ qw := [5, 1, 0, 0, 0, 0, 0, 0], data := [(0, [])], frags := [] } : Job)] })] }), 0, 1, ({ qw := [5, 1, 0, 0, 0, 0, 0, 0], data := [(0, [])], frags := [] } : Job), by decide +kernel⟩,
   ⟨({ tw [(QMG_RINGg_DESC.STATE, 0, 0, 2), (QMG_RINGg_DESC.STATE, 1, 0, 2), (QMG_RINGg_DESC.RING, 1, 0, 1)] with rings := [(0, { jobs := [({ qw := [6, 1, 0, 0, 0, 0, 0, 0], data := [(0, [])], frags := [] } : Job)] })] }), 0, 1, ({ qw := [6, 1, 0, 0, 0, 0, 0, 0], data := [(0, [])], frags := [] } : Job), by decide +kernel⟩,
   ⟨({ tw [(QMG_RINGg_DESC.STATE, 0, 0, 2)] with rings := [(0, { jobs := [({ qw := [5, 1, 0, 0, 0, 0, 0, 0], data := [(0, [])], frags := [] } : Job)] })] }), 0, (.queryRing 0 : Instr), 5, ({ qw := [5, 1, 0, 0, 0, 0, 0, 0], data := [(0, [])], frags := [] } : Job), by decide +kernel⟩⟩

/-- States that meet the hypotheses of FunctionJobs, clause by clause. -/
theorem witness_FunctionJobs :
    (∃ (s : State) (g : Nat) (j : Job), s.rd QMG_RINGg_DESC.TYPE g = 1 ∧ s.pfOf (s.rd QMG_RINGg_DESC.FN g) = 1 ∧ s.jobOf g 0x80 = some j) ∧
    (∃ (s : State) (g : Nat) (c : Instr) (op : Nat) (j : Job), ((c = .receiveBuffer g ∧ op = 0x81 ∧ s.rd QMG_RINGg_DESC.TYPE g = 2 ∧ s.pfOf (s.rd QMG_RINGg_DESC.FN g) = 1) ∨ (c = .measurementBuffer g ∧ op = 0x80 ∧ s.rd QMG_RINGg_DESC.TYPE g = 2 ∧ s.pfOf (s.rd QMG_RINGg_DESC.FN g) = 2) ∨ (c = .eventBuffer g ∧ op = 0x80 ∧ s.eventRing = some g)) ∧ (s.ring g).jobs.find? (fun j => j.done.isNone && !j.posted && j.ready && j.opcode == op) = some j) ∧
    (∃ (s : State) (g : Nat) (j : Job), s.rd QMG_RINGg_DESC.FN g = 0 ∧ s.jobOf g 0x81 = some j ∧ 64 ≤ j.room ∧ j.room ≤ 1048576) ∧
    (∃ (s : State) (g : Nat) (j : Job), s.rd QMG_RINGg_DESC.FN g = 0 ∧ s.jobOf g 0x81 = some j ∧ j.room < 64 ∨ 1048576 < j.room) ∧
    (∃ (s : State) (g : Nat) (j : Job), s.rd QMG_RINGg_DESC.FN g = 0 ∧ s.jobOf g 0x82 = some j) :=
  ⟨⟨({ tw [(QMG_RINGg_DESC.TYPE, 0, 0, 1), (QMG_RINGg_DESC.FN, 0, 0, 1)] with rings := [(0, { jobs := [({ qw := [0x80, 0, 0, 0, 0, 0, 0, 0], data := [(0, [])], frags := [] } : Job)] })] }), 0, ({ qw := [0x80, 0, 0, 0, 0, 0, 0, 0], data := [(0, [])], frags := [] } : Job), by decide +kernel⟩,
   ⟨({ tw [(QMG_RINGg_DESC.FN, 0, 0, 2), (QMG_RINGg_DESC.TYPE, 0, 0, 2)] with rings := [(0, { jobs := [({ qw := [0x80, 0, 0, 0, 0, 0, 0, 0], data := [(0, [])], frags := [] } : Job)] })] }), 0, (.measurementBuffer 0 : Instr), 0x80, ({ qw := [0x80, 0, 0, 0, 0, 0, 0, 0], data := [(0, [])], frags := [] } : Job), by decide +kernel⟩,
   ⟨({ tw [(QMG_RINGg_DESC.FN, 0, 0, 0)] with rings := [(0, { jobs := [({ qw := [0x81, 0, 0, 0, 0, 0, 0, 0], data := [(0, [])], frags := [(0, 64)] } : Job)] })] }), 0, ({ qw := [0x81, 0, 0, 0, 0, 0, 0, 0], data := [(0, [])], frags := [(0, 64)] } : Job), by decide +kernel⟩,
   ⟨({ tw [(QMG_RINGg_DESC.FN, 0, 0, 0)] with rings := [(0, { jobs := [({ qw := [0x81, 0, 0, 0, 0, 0, 0, 0], data := [(0, [])], frags := [] } : Job)] })] }), 0, ({ qw := [0x81, 0, 0, 0, 0, 0, 0, 0], data := [(0, [])], frags := [] } : Job), by decide +kernel⟩,
   ⟨({ tw [(QMG_RINGg_DESC.FN, 0, 0, 0)] with rings := [(0, { jobs := [({ qw := [0x82, 0, 0, 0, 0, 0, 0, 0], data := [(0, [])], frags := [] } : Job)] })] }), 0, ({ qw := [0x82, 0, 0, 0, 0, 0, 0, 0], data := [(0, [])], frags := [] } : Job), by decide +kernel⟩⟩

/-- States that meet the hypotheses of EventCommands, clause by clause. -/
theorem witness_EventCommands :
    (∃ (s : State) (r : EvRec) (rest : List EvRec), firstRec s.evt.held = some (r, rest)) ∧
    (∃ (s : State) (src : Nat) (inst : Nat) (w : RateWin), s.evt.wins.find? (fun w => w.src == src && w.inst == inst) = some w ∧ w.count = 0) ∧
    (∃ (s : State) (src : Nat) (inst : Nat) (w : RateWin), s.evt.wins.find? (fun w => w.src == src && w.inst == inst) = some w ∧ w.count ≠ 0) ∧
    (∃ (s : State) (r : EvRec) (rest : List EvRec), s.wf = true ∧ s.evt.jwriting = true ∧ s.evt.jq = r :: rest ∧ rest ≠ [] ∧ s.on PWR_STATUS.NV_REFUSED = false) ∧
    (∃ (s : State) (r : EvRec), s.wf = true ∧ s.evt.jwriting = true ∧ s.evt.jq = [r]) ∧
    (∃ (s : State), s.on EVT_CFG.OUT_MODE = true) :=
  ⟨⟨({ State.reset with evt.held := [({ src := 3 } : EvRec)] }), ({ src := 3 } : EvRec), ([] : List EvRec), by decide +kernel⟩,
   ⟨({ State.reset with evt.wins := [({ src := 0 } : RateWin)] }), 0, 0, ({ src := 0 } : RateWin), by decide +kernel⟩,
   ⟨({ State.reset with evt.wins := [({ src := 0, count := 2 } : RateWin)] }), 0, 0, ({ src := 0, count := 2 } : RateWin), by decide +kernel⟩,
   ⟨({ tw [(PWR_STATUS.NV_REFUSED, 0, 0, 0)] with evt.jwriting := true, evt.jq := ({} : EvRec) :: ([{ src := 1 }] : List EvRec) }), ({} : EvRec), ([{ src := 1 }] : List EvRec), by decide +kernel⟩,
   ⟨({ State.reset with evt.jwriting := true, evt.jq := [({} : EvRec)] }), ({} : EvRec), by decide +kernel⟩,
   ⟨(tw [(EVT_CFG.OUT_MODE, 0, 0, 1)]), by decide +kernel⟩⟩

/-- States that meet the hypotheses of CalipersCommands, clause by clause. -/
theorem witness_CalipersCommands :
    (∃ (s : State) (e : Nat), s.wf = true ∧ e < 1535 ∧ s.calCyc e = false ∧ s.rd64 CAL_CNTe_LO.COUNT e = 2 ^ 48 - 1 ∧ s.bitAt CAL_CHAINk.CHAIN e = false ∧ s.bitAt CAL_OVF_EVTk.EN e = false) ∧
    (∃ (s : State) (e : Nat), s.wf = true ∧ e < 1535 ∧ s.calCyc e = false ∧ s.rd64 CAL_CNTe_LO.COUNT e = 2 ^ 48 - 1 ∧ s.bitAt CAL_CHAINk.CHAIN e = false ∧ s.bitAt CAL_OVF_EVTk.EN e = true) ∧
    (∃ (s : State) (j : Nat), j < 128 ∧ s.on CAL_FCj_SEL.SAMPLE_EN j = true ∧ s.calFed (1408 + j) = false ∧ s.calCyc (1408 + j) = false ∧ s.rd CAL_FCj_PERIOD.PERIOD j ≤ s.rd64 CAL_CNTe_LO.COUNT (1408 + j) + 1) ∧
    (∃ (s : State) (u : Nat) (i : Nat), s.wf = true ∧ u < 64 ∧ i < 32) ∧
    (∃ (s : State) (u : Nat) (probe : Nat) (index : Nat), s.wf = true ∧ u < 64 ∧ probe ≠ 0 ∧ s.rd CAL_HUu_CFG.PROBE u = probe ∧ (s.on CAL_HUu_CFG.ANY u = true ∨ s.rd CAL_HUu_CFG.INDEX u = index) ∧ s.on CAL_HUu_CTRL.FREEZE u = true) ∧
    (∃ (s : State) (u : Nat) (probe : Nat) (index : Nat), s.wf = true ∧ u < 64 ∧ probe ≠ 0 ∧ s.rd CAL_HUu_CFG.PROBE u = probe ∧ (s.on CAL_HUu_CFG.ANY u = true ∨ s.rd CAL_HUu_CFG.INDEX u = index) ∧ s.on CAL_HUu_CTRL.FREEZE u = false) :=
  ⟨⟨(((State.reset).wr64 CAL_CNTe_LO.COUNT (2 ^ 48 - 1) 2 0)), 2, by decide +kernel⟩,
   ⟨((((State.reset).wr64 CAL_CNTe_LO.COUNT (2 ^ 48 - 1) 2 0)).setBitAt CAL_OVF_EVTk.EN 2 true), 2, by decide +kernel⟩,
   ⟨(tw [(CAL_FCj_SEL.SAMPLE_EN, 0, 0, 1), (CAL_FCj_SEL.EVENT, 0, 0, 5)]), 0, by decide +kernel⟩,
   ⟨State.reset, 0, 0, by decide +kernel⟩,
   ⟨(tw [(CAL_HUu_CTRL.FREEZE, 63, 0, 1), (CAL_HUu_CFG.PROBE, 63, 0, 1)]), 63, 1, 0, by decide +kernel⟩,
   ⟨(tw [(CAL_HUu_CTRL.FREEZE, 63, 0, 0), (CAL_HUu_CFG.PROBE, 63, 0, 1)]), 63, 1, 0, by decide +kernel⟩⟩

/-- States that meet the hypotheses of AlignmentCommands, clause by clause. -/
theorem witness_AlignmentCommands :
    (∃ (s : State) (b : Nat), b < 128 ∧ s.bayRuns b = true) ∧
    (∃ (s : State) (b : Nat), b < 128 ∧ s.bayRuns b = true ∧ (s.bay b).next < (s.bay b).due) ∧
    (∃ (s : State) (x : SvRec) (rest : List SvRec), s.svi.recs = x :: rest) ∧
    (∃ (s : State) (x : SvRec) (rest : List SvRec), s.wf = true ∧ s.svi.recs = x :: rest ∧ (s.bayRuns (subBay (s.subE x.sub)) = false ∨ misfit (s.subE x.sub) (s.bayE (subBay (s.subE x.sub))) = true)) ∧
    (∃ (s : State) (x : SvRec) (rest : List SvRec), s.wf = true ∧ s.svi.recs = x :: rest ∧ s.bayRuns (subBay (s.subE x.sub)) = true ∧ misfit (s.subE x.sub) (s.bayE (subBay (s.subE x.sub))) = false ∧ x.steps ≠ s.rd TIM_STATUS.STEPS) ∧
    (∃ (s : State) (x : SvRec) (rest : List SvRec) (n : Nat), s.wf = true ∧ s.svi.recs = x :: rest ∧ s.bayRuns (subBay (s.subE x.sub)) = true ∧ misfit (s.subE x.sub) (s.bayE (subBay (s.subE x.sub))) = false ∧ x.steps = s.rd TIM_STATUS.STEPS ∧ (bayNsPolicy (s.bayE (subBay (s.subE x.sub))) && x.cells.any (fun c => bitOf (cellQual c) 14)) = false ∧ sampleNumber (subRate (s.subE x.sub)) (subWrap (s.subE x.sub)) x.smpCnt (x.stamp + 1000 * bayAdvUs (s.bayE (subBay (s.subE x.sub)))) = some n) :=
  ⟨⟨(tw [(ALN_BAYb_STATE.RUNNING, 0, 0, 1)]), 0, by decide +kernel⟩,
   ⟨({ tw [(ALN_BAYb_STATE.RUNNING, 0, 0, 1)] with aln.bays := [(0, { due := 1 })] }), 0, by decide +kernel⟩,
   ⟨({ State.reset with svi.recs := ({} : SvRec) :: ([] : List SvRec) }), ({} : SvRec), ([] : List SvRec), by decide +kernel⟩,
   ⟨({ State.reset with svi.recs := ({} : SvRec) :: ([] : List SvRec) }), ({} : SvRec), ([] : List SvRec), by decide +kernel⟩,
   ⟨({ tw [(ALN_BAYb_STATE.RUNNING, 0, 0, 1)] with svi.recs := ({ steps := 1 } : SvRec) :: ([] : List SvRec) }), ({ steps := 1 } : SvRec), ([] : List SvRec), by decide +kernel⟩,
   ⟨({ tw [(ALN_BAYb_STATE.RUNNING, 0, 0, 1)] with svi.recs := ({} : SvRec) :: ([] : List SvRec) }), ({} : SvRec), ([] : List SvRec), 0, by decide +kernel⟩⟩

/-- States that meet the hypotheses of BootCommands, clause by clause. -/
theorem witness_BootCommands :
    (∃ (s : State) (straps : Nat), s.wf = true ∧ s.boot.phase = 0 ∧ s.mayRun = true ∧ (s.boot.digest.length ≠ 48 ∨ bitOf straps 6 = false)) ∧
    (∃ (s : State) (straps : Nat), s.boot.phase = 0 ∧ s.mayRun = true ∧ s.boot.digest.length = 48 ∧ bitOf straps 6 = true) ∧
    (∃ (s : State), s.boot.phase = 3) ∧
    (∃ (s : State), s.boot.phase = 3) ∧
    (∃ (s : State), s.boot.phase = 2) ∧
    (∃ (s : State) (digest : List Byte), s.boot.phase = 2 ∧ digest.length = 48 ∧ s.boot.digest.length ≠ 48 ∧ s.on PWR_STATUS.NV_REFUSED = false) ∧
    (∃ (s : State) (digest : List Byte), s.boot.phase = 2 ∧ (digest.length ≠ 48 ∨ s.boot.digest.length = 48 ∨ s.on PWR_STATUS.NV_REFUSED = true)) ∧
    (∃ (s : State) (off : Nat) (data : List Byte), s.wf = true ∧ s.boot.phase = 2 ∧ data ≠ [] ∧ data.length ≤ 4096 ∧ off + data.length ≤ loaderSize) ∧
    (∃ (s : State), s.wf = true ∧ s.boot.phase = 2) ∧
    (∃ (s : State), s.boot.phase = 2) :=
  ⟨⟨({ State.reset with boot.phase := 0, pins.resetN := true }), 0, by decide +kernel⟩,
   ⟨({ State.reset with boot.phase := 0, boot.digest := List.replicate 48 0#8 }), 64, by decide +kernel⟩,
   ⟨({ State.reset with boot.phase := 3 }), by decide +kernel⟩,
   ⟨({ State.reset with boot.phase := 3 }), by decide +kernel⟩,
   ⟨({ State.reset with boot.phase := 2 }), by decide +kernel⟩,
   ⟨({ tw [(PWR_STATUS.NV_REFUSED, 0, 0, 0)] with boot.phase := 2 }), (List.replicate 48 1#8 : List Byte), by decide +kernel⟩,
   ⟨({ State.reset with boot.phase := 2 }), ([] : List Byte), by decide +kernel⟩,
   ⟨({ State.reset with boot.phase := 2 }), 1966079, ([1#8] : List Byte), by decide +kernel⟩,
   ⟨({ State.reset with boot.phase := 2 }), by decide +kernel⟩,
   ⟨({ State.reset with boot.phase := 2 }), by decide +kernel⟩⟩

/-- States that meet the hypotheses of ChannelCommands, clause by clause. -/
theorem witness_ChannelCommands :
    (∃ (s : State) (who : Nat) (ch : Nat), s.shut who = false ∧ s.wf = true ∧ ch < 1024 ∧ s.on CPU_CHch_CFG.VALID ch = true ∧ (s.chan ch).aborted.contains who = false ∧ s.outOfScope ch who = false ∧ s.on CPU_CHch_STATUS.BUSY ch = false ∧ (s.chan ch).msgs.length < s.rd CPU_CHch_CFG.DEPTH ch ∧ who < 256) ∧
    (∃ (s : State) (who : Nat) (ch : Nat), s.shut who = false ∧ ch < 1024 ∧ s.on CPU_CHch_CFG.VALID ch = true ∧ (s.chan ch).aborted.contains who = false ∧ s.outOfScope ch who = false ∧ s.on CPU_CHch_STATUS.BUSY ch = false ∧ s.rd CPU_CHch_CFG.DEPTH ch ≤ (s.chan ch).msgs.length) ∧
    (∃ (s : State) (who : Nat) (ch : Nat), s.shut who = false ∧ s.wf = true ∧ ch < 1024 ∧ s.on CPU_CHch_CFG.VALID ch = true ∧ (s.chan ch).aborted.contains who = false ∧ s.outOfScope ch who = false ∧ s.on CPU_CHch_STATUS.BUSY ch = true ∧ s.rd CPU_CHch_STATUS.HOLDER ch ≠ who) ∧
    (∃ (s : State) (who : Nat) (ch : Nat), s.shut who = false ∧ ch < 1024 ∧ s.on CPU_CHch_CFG.VALID ch = true ∧ (s.chan ch).aborted.contains who = true) ∧
    (∃ (s : State) (who : Nat) (ch : Nat) (val : Word), s.shut who = false ∧ ch < 1024 ∧ s.on CPU_CHch_STATUS.BUSY ch = true ∧ s.rd CPU_CHch_STATUS.HOLDER ch = who ∧ (s.chan ch).words.length = 16 ∧ bitsOf val.toNat 0 4 ≠ 0) ∧
    (∃ (s : State) (who : Nat) (ch : Nat) (w : Nat), s.shut who = false ∧ s.wf = true ∧ ch < 1024 ∧ 0 < w ∧ w < 16 ∧ s.on CPU_CHch_STATUS.BUSY ch = true ∧ s.rd CPU_CHch_STATUS.HOLDER ch = who ∧ (s.chan ch).words.length = 16 ∧ (s.chan ch).header = true ∧ w = bitsOf ((s.chan ch).words.getD 0 0) 0 4) ∧
    (∃ (s : State) (who : Nat) (ch : Nat) (w : Nat), s.shut who = false ∧ s.wf = true ∧ ch < 1024 ∧ w < 16 ∧ (s.on CPU_CHch_STATUS.BUSY ch = false ∨ s.rd CPU_CHch_STATUS.HOLDER ch ≠ who)) ∧
    (∃ (ch : Nat), ch < 1024) ∧
    (∃ (s : State) (ch : Nat) (m : List Nat) (x : List Nat) (l : List (List Nat)), s.wf = true ∧ ch < 1024 ∧ (s.chan ch).msgs = m :: x :: l) ∧
    (∃ (s : State) (agent : Nat), isThread agent = true ∧ s.cpu.halted.contains agent = false ∧ s.pins.jtagMode = true) ∧
    (∃ (s : State) (agent : Nat), s.cpu.halted.contains agent = true) ∧
    (∃ (s : State) (ch : Nat), ch < 1024 ∧ s.on CPU_CHch_STATUS.HELD ch = true ∧ s.rd CPU_CHch_CFG.HOLD_US ch ≠ 0) :=
  ⟨⟨(tw [(CPU_CHch_STATUS.BUSY, 1023, 0, 0), (HIF_FNf_STATE.MSE, 0, 0, 1), (CPU_CHch_CFG.VALID, 1023, 0, 1), (CPU_CHch_CFG.DEPTH, 1023, 0, 2)]), 0, 1023, by decide +kernel⟩,
   ⟨(tw [(CPU_CHch_CFG.VALID, 0, 0, 1), (CPU_CHch_STATUS.BUSY, 0, 0, 0), (HIF_FNf_STATE.MSE, 0, 0, 1)]), 0, 0, by decide +kernel⟩,
   ⟨(tw [(CPU_CHch_STATUS.BUSY, 0, 0, 1), (HIF_FNf_STATE.MSE, 0, 0, 1), (CPU_CHch_CFG.VALID, 0, 0, 1), (CPU_CHch_CFG.DEPTH, 0, 0, 2), (CPU_CHch_STATUS.HOLDER, 0, 0, 5)]), 0, 0, by decide +kernel⟩,
   ⟨({ tw [(CPU_CHch_CFG.VALID, 0, 0, 1), (HIF_FNf_STATE.MSE, 0, 0, 1)] with cpu.chans := [(0, { aborted := [0] })] }), 0, 0, by decide +kernel⟩,
   ⟨({ tw [(CPU_CHch_STATUS.BUSY, 0, 0, 1), (CPU_CHch_STATUS.HOLDER, 0, 0, 0), (HIF_FNf_STATE.MSE, 0, 0, 1)] with cpu.chans := [(0, { words := List.replicate 16 0 })] }), 0, 0, (1#32 : Word), by decide +kernel⟩,
   ⟨({ tw [(CPU_CHch_STATUS.BUSY, 0, 0, 1), (CPU_CHch_STATUS.HOLDER, 0, 0, 0), (HIF_FNf_STATE.MSE, 0, 0, 1)] with cpu.chans := [(0, { words := [1,0,0,0,0,0,0,0,0,0,0,0,0,0,0,0], header := true })] }), 0, 0, 1, by decide +kernel⟩,
   ⟨(tw [(HIF_FNf_STATE.MSE, 0, 0, 1)]), 0, 0, 0, by decide +kernel⟩,
   ⟨0, by decide +kernel⟩,
   ⟨({ State.reset with cpu.chans := [(0, { msgs := ([1] : List Nat) :: ([2] : List Nat) :: ([] : List (List Nat)) })] }), 0, ([1] : List Nat), ([2] : List Nat), ([] : List (List Nat)), by decide +kernel⟩,
   ⟨({ State.reset with pins.jtagMode := true }), 1, by decide +kernel⟩,
   ⟨({ State.reset with cpu.halted := [1] }), 1, by decide +kernel⟩,
   ⟨(tw [(CPU_CHch_STATUS.HELD, 0, 0, 1), (CPU_CHch_CFG.HOLD_US, 0, 0, 1)]), 0, by decide +kernel⟩⟩

/-- States that meet the hypotheses of CoreCommands, clause by clause. -/
theorem witness_CoreCommands :
    (∃ (s : State) (k : Nat) (c : Nat) (fcode : Nat) (th : Nat), s.coreRuns k c th = true ∧ 1 ≤ fcode ∧ fcode ≤ 5) ∧
    (∃ (s : State) (k : Nat) (c : Nat) (fcode : Nat) (th : Nat), s.wf = true ∧ s.coreRuns k c th = true ∧ 1 ≤ fcode ∧ fcode ≤ 5 ∧ s.rd CPU_CLk_CFG.RETIRE_POLICY k = 0) ∧
    (∃ (s : State) (k : Nat) (c : Nat) (th : Nat), s.coreRuns k c th = true ∧ bitOf (s.rd CPU_CLk_COREc_STATUS.WAITING k c) th = false) ∧
    (∃ (s : State) (who : Nat) (k : Nat) (c : Nat) (g : Nat), s.shut who = false ∧ s.wf = true ∧ k < 8 ∧ c < 5 ∧ s.mayCommand who k = true ∧ s.logical k c = some g ∧ s.coreState k c = 2 ∧ s.rd CPU_CLk_STATUS.STATE k = 0) ∧
    (∃ (s : State) (who : Nat) (k : Nat) (c : Nat), s.shut who = false ∧ s.wf = true ∧ k < 8 ∧ c < 5 ∧ s.mayCommand who k = true ∧ (s.coreState k c = 2 ∨ s.coreState k c = 0) ∧ s.rd CPU_CLk_STATUS.STATE k = 0) ∧
    (∃ (s : State) (c : Instr) (who : Nat) (k : Nat) (x : Nat), s.shut who = false ∧ (c = .coreRestart who k x ∨ c = .coreRetire who k x ∨ c = .clusterReload who k) ∧ k < 8 ∧ s.mayCommand who k = false) ∧
    (∃ (s : State) (k : Nat) (c : Nat), s.wf = true ∧ k < 8 ∧ c < 5 ∧ s.coreState k c = 3) ∧
    (∃ (s : State) (k : Nat) (c : Nat), s.wf = true ∧ k < 8 ∧ c < 5 ∧ s.coreState k c = 4) ∧
    (∃ (s : State) (k : Nat) (c : Nat), s.wf = true ∧ k < 8 ∧ c < 5 ∧ s.coreState k c = 4) ∧
    (∃ (s : State) (who : Nat) (k : Nat), s.shut who = false ∧ s.wf = true ∧ k < 8 ∧ s.mayCommand who k = true ∧ s.rd CPU_CLk_STATUS.STATE k = 0 ∧ (∀ g, g < 4 → s.physCore k g < 5)) ∧
    (∃ (s : State) (k : Nat), s.wf = true ∧ k < 8 ∧ s.rd CPU_CLk_STATUS.STATE k = 1 ∧ (∀ g, g < 4 → s.physCore k g < 5)) ∧
    (∃ (s : State) (k : Nat) (c : Nat) (th : Nat) (g : Nat), s.logical k c = some g ∧ s.coreRuns k c th = true ∧ s.cpu.halted.any (onCore k g) = false ∧ s.on CPU_CLk_CFG.DL_ACT k = true) ∧
    (∃ (s : State) (k : Nat) (val : Word), s.wf = true ∧ k < 8 ∧ 2 ^ s.rd CPU_CLk_TXCFG.LOG2 k < (val.toNat + 2 ^ 32 - (tabGet s.cpu.tx k).cons) % 2 ^ 32) ∧
    (∃ (s : State) (k : Nat) (val : Word), s.wf = true ∧ k < 8 ∧ (val.toNat + 2 ^ 32 - (tabGet s.cpu.tx k).cons) % 2 ^ 32 ≤ 2 ^ s.rd CPU_CLk_TXCFG.LOG2 k) :=
  ⟨⟨CORE0, 0, 0, 1, 0, by decide +kernel⟩,
   ⟨CORE0, 0, 0, 5, 0, by decide +kernel⟩,
   ⟨CORE0, 0, 0, 0, by decide +kernel⟩,
   ⟨((tw [(HIF_FNf_STATE.MSE, 0, 0, 1)] (CORE0.setCore 0 0 2))), 0, 0, 0, 0, by decide +kernel⟩,
   ⟨((tw [(HIF_FNf_STATE.MSE, 0, 0, 1)] (CORE0))), 0, 0, 0, by decide +kernel⟩,
   ⟨(tw [(HIF_FNf_STATE.MSE, 0, 0, 1), (CPU_CLk_CFG.PROT, 0, 0, 1)]), (.coreRetire 0 0 0 : Instr), 0, 0, 0, by decide +kernel⟩,
   ⟨(CORE0.setCore 0 4 3), 0, 4, by decide +kernel⟩,
   ⟨(CORE0.setCore 0 4 4), 0, 4, by decide +kernel⟩,
   ⟨(CORE0.setCore 0 4 4), 0, 4, by decide +kernel⟩,
   ⟨((tw [(HIF_FNf_STATE.MSE, 0, 0, 1)] (CORE0))), 0, 0, by decide +kernel⟩,
   ⟨(CORE0.wr CPU_CLk_STATUS.STATE 1 0), 0, by decide +kernel⟩,
   ⟨(CORE0.wr CPU_CLk_CFG.DL_ACT 1 0), 0, 0, 0, 0, by decide +kernel⟩,
   ⟨State.reset, 0, (2#32 : Word), by decide +kernel⟩,
   ⟨State.reset, 0, (0#32 : Word), by decide +kernel⟩⟩

/-- States that meet the hypotheses of DeviceResets, clause by clause. -/
theorem witness_DeviceResets :
    (∃ (s : State), s.wdogRuns = true) ∧
    (∃ (blk : Nat), blk < 22) ∧
    (∃ (s : State) (rail : Nat), s.wf = true ∧ rail < 12 ∧ s.boot.phase ≠ 0 ∧ s.pstate = 0) ∧
    (∃ (s : State) (c : Int), 16 * 165 ≤ c ∧ s.boot.phase ≠ 0) ∧
    (∃ (s : State), s.pins.resetN = true) ∧
    (∃ (s : State), s.pwr.powered = true) ∧
    (∃ (s : State), s.pwr.vaux = true) ∧
    (∃ (s : State), s.pwr.vaux = false) ∧
    (∃ (s : State) (rail : Nat), rail < 12 ∧ s.boot.phase = 0) ∧
    (∃ (s : State) (blk : Nat), s.wf = true ∧ blk < 22) ∧
    (∃ (blk : Nat), blk < 22 ∧ blk ≠ Blk.hif.bit) ∧
    (∃ (s : State) (g : Nat) (j : Job), s.headJob g = some j) :=
  ⟨⟨(tw [(EVT_WDOG.TIMEOUT_MS, 0, 0, 5)]), by decide +kernel⟩,
   ⟨0, by decide +kernel⟩,
   ⟨State.reset, 0, by decide +kernel⟩,
   ⟨State.reset, (2640 : Int), by decide +kernel⟩,
   ⟨State.reset, by decide +kernel⟩,
   ⟨State.reset, by decide +kernel⟩,
   ⟨State.reset, by decide +kernel⟩,
   ⟨({ State.reset with pwr.vaux := false }), by decide +kernel⟩,
   ⟨({ State.reset with boot.phase := 0 }), 0, by decide +kernel⟩,
   ⟨State.reset, 0, by decide +kernel⟩,
   ⟨20, by decide +kernel⟩,
   ⟨({ State.reset with rings := [(0, { jobs := [({} : Job)] })] }), 0, ({} : Job), by decide +kernel⟩⟩

/-- States that meet the hypotheses of SupplyAndThermal, clause by clause. -/
theorem witness_SupplyAndThermal :
    (∃ (s : State), s.wdogRuns = true ∧ s.evt.wdogHalf = false) ∧
    (∃ (s : State), s.wf = true ∧ (s.pwr.powered = false ∨ s.pstate ≠ 2)) ∧
    (∃ (s : State) (mv : Nat), s.wf = true ∧ (mv < 6000 ∨ 60000 < mv)) ∧
    (∃ (s : State) (mv : Nat), s.wf = true ∧ mv < 3100) ∧
    (∃ (s : State), s.boot.phase = 0 ∧ s.pwr.powered = true ∧ s.pwr.vaux = true ∧ s.pwr.hot = false ∧ s.pins.pwrOk = true) ∧
    (∃ (s : State) (c : Int), s.wf = true ∧ s.blkReady .pwr = true ∧ 16 * (s.rd PWR_THERM.WARN_C : Int) ≤ c ∧ s.pwr.warned = false) ∧
    (∃ (s : State) (c : Int), s.wf = true ∧ s.blkReady .pwr = true ∧ c ≤ 16 * (s.rd PWR_THERM.WARN_C : Int) - 80) ∧
    (∃ (s : State) (c : Int), s.wf = true ∧ c ≤ 16 * 140) ∧
    (∃ (s : State), s.wf = true ∧ s.on PWR_STATUS.NV_REFUSED = false) ∧
    (∃ (s : State) (mv : Nat), s.wf = true ∧ s.on PWR_STATUS.NV_REFUSED = false ∧ mv < s.rd PWR_VNV.LOCK_MV) ∧
    (∃ (s : State) (mv : Nat), s.wf = true ∧ s.on PWR_STATUS.NV_REFUSED = true ∧ s.rd PWR_VNV.LOCK_MV + s.rd PWR_VNV.HYST_MV ≤ mv ∧ s.pwr.clearFrom = none) ∧
    (∃ (s : State) (mode : Bool), s.pins.jtagMode ≠ mode) ∧
    (∃ (s : State), s.pins.trstN = true ∧ s.pins.jtagMode = false) ∧
    (∃ (s : State), s.pins.trstN = true ∧ s.pins.jtagMode = false ∧ s.pins.tap.st = .captureDr ∧ s.pins.tap.ir = 0x01) ∧
    (∃ (s : State), s.pins.trstN = true ∧ s.pins.jtagMode = false ∧ s.pins.tap.st = .captureDr ∧ s.pins.tap.ir = 0xFF) ∧
    (∃ (s : State) (l : List Bool), s.pins.trstN = true ∧ s.pins.jtagMode = false ∧ s.pins.tap.st = .exit1Ir ∧ s.pins.tap.irShift = l) ∧
    (∃ (s : State), (s.pins.trstN = false ∨ s.pins.jtagMode = true)) :=
  ⟨⟨(tw [(EVT_WDOG.TIMEOUT_MS, 0, 0, 5)]), by decide +kernel⟩,
   ⟨State.reset, by decide +kernel⟩,
   ⟨State.reset, 0, by decide +kernel⟩,
   ⟨State.reset, 0, by decide +kernel⟩,
   ⟨({ State.reset with boot.phase := 0 }), by decide +kernel⟩,
   ⟨(tw [(GLB_READY_BLK.READY, 0, 0, 0x3FFFFF), (PWR_THERM.WARN_C, 0, 0, 100)]), (3000 : Int), by decide +kernel⟩,
   ⟨(tw [(GLB_READY_BLK.READY, 0, 0, 0x3FFFFF), (PWR_THERM.WARN_C, 0, 0, 100)]), (-100 : Int), by decide +kernel⟩,
   ⟨State.reset, (0 : Int), by decide +kernel⟩,
   ⟨(tw [(PWR_STATUS.NV_REFUSED, 0, 0, 0)]), by decide +kernel⟩,
   ⟨(tw [(PWR_STATUS.NV_REFUSED, 0, 0, 0), (PWR_VNV.LOCK_MV, 0, 0, 6000)]), 0, by decide +kernel⟩,
   ⟨(tw [(PWR_STATUS.NV_REFUSED, 0, 0, 1)]), 0, by decide +kernel⟩,
   ⟨State.reset, (true : Bool), by decide +kernel⟩,
   ⟨({ State.reset with pins.trstN := true }), by decide +kernel⟩,
   ⟨({ State.reset with pins.trstN := true, pins.tap.st := .captureDr }), by decide +kernel⟩,
   ⟨({ State.reset with pins.trstN := true, pins.tap.st := .captureDr, pins.tap.ir := 0xFF }), by decide +kernel⟩,
   ⟨({ State.reset with pins.trstN := true, pins.tap.st := .exit1Ir, pins.tap.irShift := (List.replicate 8 true : List Bool) }), (List.replicate 8 true : List Bool), by decide +kernel⟩,
   ⟨({ State.reset with pins.trstN := false }), by decide +kernel⟩⟩

/-- States that meet the hypotheses of StandbyCommands, clause by clause. -/
theorem witness_StandbyCommands :
    (∃ (s : State), s.wf = true ∧ s.boot.phase = 4 ∧ s.pstate = 0) ∧
    (∃ (s : State), s.wf = true ∧ s.pstate = 1) ∧
    (∃ (s : State), s.wf = true ∧ s.pstate = 2 ∧ s.on PWR_STBY.SOFT = false) ∧
    (∃ (s : State), s.wf = true ∧ s.pstate ≠ 2) ∧
    (∃ (s : State), s.pstate = 1 ∧ s.pwr.draining = true ∧ s.drivesWaited = false) ∧
    (∃ (s : State), s.pstate = 1 ∧ s.pwr.draining = true ∧ s.drivesWaited = true) ∧
    (∃ (s : State), s.pstate = 2 ∧ s.on PWR_WAKE.TIMER = true) ∧
    (∃ (s : State) (lvl : Bool) (x : Nat), s.pstate = 0 ∧ s.pins.trigIn ≠ lvl ∧ (lvl == (s.rd REC_CFG.EDGE == 1)) = false ∧ s.rec_.trigFrom + 1000 * s.rd REC_CFG.DEBOUNCE_US ≤ max x s.tick) ∧
    (∃ (s : State) (lvl : Bool), s.pstate = 2 ∧ s.pins.trigIn ≠ lvl ∧ (lvl == (s.rd REC_CFG.EDGE == 1)) = true) ∧
    (∃ (s : State), s.wf = true ∧ s.pins.perstN = false ∧ s.on PWR_WAKE.PERST = false) ∧
    (∃ (s : State), s.wf = true ∧ s.pins.perstN = false ∧ s.on PWR_WAKE.PERST = true ∧ s.on PWR_STBY.SOFT = true ∧ s.pstate = 2 ∧ s.on PWR_STATUS.STBY_PIN = false) :=
  ⟨⟨({ State.reset with boot.phase := 4 }), by decide +kernel⟩,
   ⟨(tw [(PWR_STATUS.PSTATE, 0, 0, 1)]), by decide +kernel⟩,
   ⟨(tw [(PWR_STBY.SOFT, 0, 0, 0), (PWR_STATUS.PSTATE, 0, 0, 2)]), by decide +kernel⟩,
   ⟨State.reset, by decide +kernel⟩,
   ⟨({ tw [(PWR_STATUS.PSTATE, 0, 0, 1)] with pwr.draining := true }), by decide +kernel⟩,
   ⟨({ tw [(PWR_STATUS.PSTATE, 0, 0, 1), (STG_DSn_STATUS.SSTATE, 0, 0, 4)] with pwr.draining := true }), by decide +kernel⟩,
   ⟨(tw [(PWR_WAKE.TIMER, 0, 0, 1), (PWR_STATUS.PSTATE, 0, 0, 2)]), by decide +kernel⟩,
   ⟨State.reset, (true : Bool), 1000000000, by decide +kernel⟩,
   ⟨(tw [(PWR_STATUS.PSTATE, 0, 0, 2), (REC_CFG.EDGE, 0, 0, 1)]), (true : Bool), by decide +kernel⟩,
   ⟨({ tw [(PWR_WAKE.PERST, 0, 0, 0)] with pins.perstN := false }), by decide +kernel⟩,
   ⟨({ tw [(PWR_WAKE.PERST, 0, 0, 1), (PWR_STBY.SOFT, 0, 0, 1), (PWR_STATUS.STBY_PIN, 0, 0, 0), (PWR_STATUS.PSTATE, 0, 0, 2)] with pins.perstN := false }), by decide +kernel⟩⟩

/-- States that meet the hypotheses of SlotCommands, clause by clause. -/
theorem witness_SlotCommands :
    (∃ (s : State) (d : Nat), s.wf = true ∧ d < 4 ∧ s.sstate d = 0 ∧ s.on STG_DSn_CFG.AUTO_ON d = false) ∧
    (∃ (s : State) (d : Nat), s.wf = true ∧ d < 4 ∧ s.sstate d = 1 ∧ s.on STG_DSn_CFG.ENABLE d = true) ∧
    (∃ (s : State) (d : Nat), s.wf = true ∧ d < 4 ∧ (s.sstate d ≠ 1 ∨ s.on STG_DSn_CFG.ENABLE d = false)) ∧
    (∃ (s : State) (d : Nat), s.wf = true ∧ d < 4 ∧ s.sstate d = 2 ∧ s.on STG_DSn_STATUS.PRSNT d = true ∧ s.rd STG_DSn_CFG.PWR_DELAY_MS d ≠ 0) ∧
    (∃ (s : State) (d : Nat), s.wf = true ∧ d < 4 ∧ s.sstate d = 3 ∧ s.onDrive d = []) ∧
    (∃ (s : State) (d : Nat), d < 4 ∧ s.sstate d = 3) ∧
    (∃ (s : State) (d : Nat), s.wf = true ∧ d < 4 ∧ (s.ds d).removing = 0 ∧ s.sstate d = 4) ∧
    (∃ (s : State) (d : Nat), s.wf = true ∧ d < 4 ∧ (s.ds d).removing = 0 ∧ s.sstate d = 5) ∧
    (∃ (s : State) (d : Nat), d < 4 ∧ s.sstate d = 5 ∧ (s.ds d).removing = 0) ∧
    (∃ (s : State) (d : Nat), d < 4 ∧ (s.sstate d = 4 ∨ s.sstate d = 5) ∧ (s.ds d).removing = 0) ∧
    (∃ (s : State) (d : Nat), d < 4 ∧ (s.ds d).removing = 1) ∧
    (∃ (s : State) (d : Nat), d < 4 ∧ 2 ≤ s.sstate d ∧ s.sstate d ≤ 5) ∧
    (∃ (s : State) (d : Nat), s.wf = true ∧ d < 4 ∧ 3 ≤ s.sstate d ∧ s.sstate d ≤ 5) ∧
    (∃ (s : State) (d : Nat), s.wf = true ∧ d < 4 ∧ s.sstate d = 1) ∧
    (∃ (s : State) (d : Nat), s.wf = true ∧ d < 4 ∧ s.sstate d = 6) ∧
    (∃ (s : State) (d : Nat), s.wf = true ∧ d < 4 ∧ s.sstate d = 6 ∧ s.on STG_DSn_STATUS.PRSNT d = true ∧ s.on STG_DSn_CFG.AUTO_ON d = false) :=
  ⟨⟨(tw [(STG_DSn_STATUS.SSTATE, 0, 0, 0), (STG_DSn_CFG.AUTO_ON, 0, 0, 0)]), 0, by decide +kernel⟩,
   ⟨(tw [(STG_DSn_STATUS.SSTATE, 0, 0, 1), (STG_DSn_CFG.ENABLE, 0, 0, 1)]), 0, by decide +kernel⟩,
   ⟨State.reset, 0, by decide +kernel⟩,
   ⟨(tw [(STG_DSn_STATUS.SSTATE, 0, 0, 2), (STG_DSn_STATUS.PRSNT, 0, 0, 1), (STG_DSn_CFG.PWR_DELAY_MS, 0, 0, 1)]), 0, by decide +kernel⟩,
   ⟨(tw [(STG_DSn_STATUS.SSTATE, 0, 0, 3)]), 0, by decide +kernel⟩,
   ⟨(tw [(STG_DSn_STATUS.SSTATE, 0, 0, 3)]), 0, by decide +kernel⟩,
   ⟨(tw [(STG_DSn_STATUS.SSTATE, 0, 0, 4)]), 0, by decide +kernel⟩,
   ⟨(tw [(STG_DSn_STATUS.SSTATE, 0, 0, 5)]), 0, by decide +kernel⟩,
   ⟨(tw [(STG_DSn_STATUS.SSTATE, 0, 0, 5)]), 0, by decide +kernel⟩,
   ⟨(tw [(STG_DSn_STATUS.SSTATE, 0, 0, 4)]), 0, by decide +kernel⟩,
   ⟨({ State.reset with stg.slots := [(0, { removing := 1 })] }), 0, by decide +kernel⟩,
   ⟨(tw [(STG_DSn_STATUS.SSTATE, 0, 0, 2)]), 0, by decide +kernel⟩,
   ⟨(tw [(STG_DSn_STATUS.SSTATE, 0, 0, 5)]), 0, by decide +kernel⟩,
   ⟨(tw [(STG_DSn_STATUS.SSTATE, 0, 0, 1)]), 0, by decide +kernel⟩,
   ⟨(tw [(STG_DSn_STATUS.SSTATE, 0, 0, 6)]), 0, by decide +kernel⟩,
   ⟨(tw [(STG_DSn_STATUS.SSTATE, 0, 0, 6), (STG_DSn_STATUS.PRSNT, 0, 0, 1), (STG_DSn_CFG.AUTO_ON, 0, 0, 0)]), 0, by decide +kernel⟩⟩

/-- States that meet the hypotheses of NvmeAdminCommands, clause by clause. -/
theorem witness_NvmeAdminCommands :
    (∃ (s : State) (f : Nat), f < 256 ∧ s.pfOf f = 3 ∧ s.on HIF_FNf_STATE.PRESENT f = true ∧ s.on HIF_FNf_STATE.READY f = true ∧ (s.ctl f).en = false) ∧
    (∃ (s : State) (f : Nat), f < 256 ∧ s.pfOf f = 3 ∧ (s.ctl f).en = true) ∧
    (∃ (s : State) (f : Nat), s.wf = true ∧ s.ctlRuns f = true ∧ (s.ctl f).ps ≠ 2) ∧
    (∃ (s : State) (f : Nat) (cns : Nat), s.wf = true ∧ s.ctlRuns f = true ∧ (s.ctl f).ps ≠ 2 ∧ cns ∉ [0, 1, 2, 3, 0x10, 0x12]) ∧
    (∃ (s : State) (f : Nat) (lid : Nat), s.wf = true ∧ s.ctlRuns f = true ∧ (s.ctl f).ps ≠ 2 ∧ lid ∉ [1, 2, 5, 6]) ∧
    (∃ (s : State) (f : Nat) (lid : Nat), s.wf = true ∧ s.ctlRuns f = true ∧ (s.ctl f).ps ≠ 2 ∧ lid ∈ [1, 2, 5, 6]) ∧
    (∃ (s : State) (f : Nat) (fid : Nat), s.wf = true ∧ s.ctlRuns f = true ∧ (s.ctl f).ps ≠ 2 ∧ fid ∈ [1, 8, 0x0B]) ∧
    (∃ (s : State) (f : Nat), s.wf = true ∧ s.ctlRuns f = true ∧ (s.ctl f).ps ≠ 2 ∧ (s.ctl f).sqs = [] ∧ (s.ctl f).cqs = []) ∧
    (∃ (s : State) (f : Nat), s.wf = true ∧ s.ctlRuns f = true ∧ (s.ctl f).ps ≠ 2) ∧
    (∃ (s : State) (f : Nat) (qid : Nat) (size : Nat) (vec : Nat), s.wf = true ∧ s.ctlRuns f = true ∧ (s.ctl f).ps ≠ 2 ∧ qid ≠ 0 ∧ qid ≤ ioQueues f ∧ (s.ctl f).cqs.any (fun q => q.qid == qid) = false ∧ 2 ≤ size ∧ size ≤ 4096 ∧ vec ≤ s.rd HIF_FNf_MSIX.SIZE f) ∧
    (∃ (s : State) (f : Nat) (qid : Nat) (size : Nat) (cq : Nat), s.wf = true ∧ s.ctlRuns f = true ∧ (s.ctl f).ps ≠ 2 ∧ qid ≠ 0 ∧ qid ≤ ioQueues f ∧ (s.ctl f).cqs.any (fun q => q.qid == cq) = true ∧ (s.ctl f).sqs.any (fun q => q.qid == qid) = false ∧ 2 ≤ size ∧ size ≤ 4096) ∧
    (∃ (s : State) (f : Nat) (qid : Nat), s.wf = true ∧ s.ctlRuns f = true ∧ (s.ctl f).ps ≠ 2 ∧ qid ≠ 0 ∧ (s.ctl f).sqs.any (fun q => q.qid == qid) = true) ∧
    (∃ (s : State) (f : Nat) (qid : Nat), s.wf = true ∧ s.ctlRuns f = true ∧ (s.ctl f).ps ≠ 2 ∧ qid ≠ 0 ∧ (s.ctl f).cqs.any (fun q => q.qid == qid) = true ∧ (s.ctl f).sqs.any (fun q => q.cq == qid) = false) ∧
    (∃ (s : State) (f : Nat) (sqid : Nat) (acid : Nat), s.wf = true ∧ s.ctlRuns f = true ∧ (s.ctl f).ps ≠ 2 ∧ s.stg.cmds.find? (fun c => c.f == f && c.qid == sqid && c.cid == acid && c.phase == 0 && c.op != 3) = none) ∧
    (∃ (s : State) (f : Nat), s.wf = true ∧ s.ctlRuns f = true ∧ (s.ctl f).ps ≠ 2 ∧ (s.ctl f).events = [] ∧ (s.ctl f).aers.length ≤ aerl f) ∧
    (∃ (s : State) (nsid : Nat) (ctrls : List Nat), s.wf = true ∧ s.ctlRuns 3 = true ∧ (s.ctl 3).ps ≠ 2 ∧ nsid ≠ 0 ∧ s.nsValid (nsid - 1) = true ∧ ctrls ≠ [] ∧ ctrls.any (fun c => !s.ctlListed c true) = false ∧ ctrls.any (fun c => s.attachedTo c (nsid - 1)) = false) ∧
    (∃ (s : State) (f : Nat) (stc : Nat), s.wf = true ∧ s.ctlRuns f = true ∧ (s.ctl f).ps ≠ 2 ∧ (stc = 1 ∨ stc = 2) ∧ s.stg.test.isSome = true) ∧
    (∃ (s : State) (f : Nat) (x : TestSt), s.wf = true ∧ s.ctlRuns f = true ∧ (s.ctl f).ps ≠ 2 ∧ s.stg.test = some x ∧ x.f = f) ∧
    (∃ (s : State) (f : Nat) (nsid : Nat) (stc : Nat), s.wf = true ∧ s.ctlRuns f = true ∧ (s.ctl f).ps ≠ 2 ∧ (stc = 1 ∨ stc = 2) ∧ s.stg.test = none ∧ (nsid = 0 ∨ nsid = 0xFFFFFFFF ∨ s.attachedTo f (nsid - 1) = true)) ∧
    (∃ (s : State) (f : Nat) (r : Nat) (l : List Nat), s.wf = true ∧ s.ctlRuns f = true ∧ (s.ctl f).ps ≠ 2 ∧ (s.ctl f).events = r :: l) ∧
    (∃ (s : State) (f : Nat), s.wf = true ∧ s.ctlRuns f = true ∧ (s.ctl f).ps ≠ 2 ∧ (s.ctl f).events = [] ∧ aerl f < (s.ctl f).aers.length) ∧
    (∃ (s : State) (f : Nat), s.wf = true ∧ s.ctlRuns f = true ∧ (s.ctl f).ps ≠ 2) ∧
    (∃ (s : State) (f : Nat), s.wf = true ∧ s.ctlRuns f = true ∧ (s.ctl f).ps ≠ 2) ∧
    (∃ (s : State) (f : Nat), s.wf = true ∧ s.ctlRuns f = true ∧ (s.ctl f).ps ≠ 2) ∧
    (∃ (s : State) (f : Nat) (sqid : Nat) (acid : Nat) (c : HostCmd), s.wf = true ∧ s.ctlRuns f = true ∧ (s.ctl f).ps ≠ 2 ∧ s.stg.cmds.find? (fun c => c.f == f && c.qid == sqid && c.cid == acid && c.phase == 0 && c.op != 3) = some c) :=
  ⟨⟨({ tw [(HIF_FNf_STATE.PRESENT, 3, 0, 1), (HIF_FNf_STATE.READY, 3, 0, 1), (HIF_FNf_STATE.READY, 3, 0, 1)] with stg.ctls := [(3, {  })] }), 3, by decide +kernel⟩,
   ⟨({ tw [(HIF_FNf_STATE.PRESENT, 3, 0, 1), (HIF_FNf_STATE.BME, 3, 0, 1)] with stg.ctls := [(3, { en := true })] }), 3, by decide +kernel⟩,
   ⟨({ tw [(HIF_FNf_STATE.PRESENT, 3, 0, 1), (HIF_FNf_STATE.BME, 3, 0, 1), (HIF_FNf_STATE.READY, 3, 0, 1)] with stg.ctls := [(3, { en := true })] }), 3, by decide +kernel⟩,
   ⟨({ tw [(HIF_FNf_STATE.PRESENT, 3, 0, 1), (HIF_FNf_STATE.BME, 3, 0, 1), (HIF_FNf_STATE.READY, 3, 0, 1)] with stg.ctls := [(3, { en := true })] }), 3, 4, by decide +kernel⟩,
   ⟨({ tw [(HIF_FNf_STATE.PRESENT, 3, 0, 1), (HIF_FNf_STATE.BME, 3, 0, 1), (HIF_FNf_STATE.READY, 3, 0, 1)] with stg.ctls := [(3, { en := true })] }), 3, 0, by decide +kernel⟩,
   ⟨({ tw [(HIF_FNf_STATE.PRESENT, 3, 0, 1), (HIF_FNf_STATE.BME, 3, 0, 1), (HIF_FNf_STATE.READY, 3, 0, 1)] with stg.ctls := [(3, { en := true })] }), 3, 6, by decide +kernel⟩,
   ⟨({ tw [(HIF_FNf_STATE.PRESENT, 3, 0, 1), (HIF_FNf_STATE.BME, 3, 0, 1), (HIF_FNf_STATE.READY, 3, 0, 1)] with stg.ctls := [(3, { en := true })] }), 3, 0x0B, by decide +kernel⟩,
   ⟨({ tw [(HIF_FNf_STATE.PRESENT, 3, 0, 1), (HIF_FNf_STATE.BME, 3, 0, 1), (HIF_FNf_STATE.READY, 3, 0, 1)] with stg.ctls := [(3, { en := true })] }), 3, by decide +kernel⟩,
   ⟨({ tw [(HIF_FNf_STATE.PRESENT, 3, 0, 1), (HIF_FNf_STATE.BME, 3, 0, 1), (HIF_FNf_STATE.READY, 3, 0, 1)] with stg.ctls := [(3, { en := true })] }), 3, by decide +kernel⟩,
   ⟨({ tw [(HIF_FNf_STATE.PRESENT, 3, 0, 1), (HIF_FNf_STATE.BME, 3, 0, 1), (HIF_FNf_STATE.READY, 3, 0, 1)] with stg.ctls := [(3, { en := true })] }), 3, 64, 4096, 0, by decide +kernel⟩,
   ⟨({ tw [(HIF_FNf_STATE.PRESENT, 3, 0, 1), (HIF_FNf_STATE.BME, 3, 0, 1), (HIF_FNf_STATE.READY, 3, 0, 1)] with stg.ctls := [(3, { en := true, cqs := [{ qid := 1 }] })] }), 3, 64, 2, 1, by decide +kernel⟩,
   ⟨({ tw [(HIF_FNf_STATE.PRESENT, 3, 0, 1), (HIF_FNf_STATE.BME, 3, 0, 1), (HIF_FNf_STATE.READY, 3, 0, 1)] with stg.ctls := [(3, { en := true, sqs := [{ qid := 1 }] })] }), 3, 1, by decide +kernel⟩,
   ⟨({ tw [(HIF_FNf_STATE.PRESENT, 3, 0, 1), (HIF_FNf_STATE.BME, 3, 0, 1), (HIF_FNf_STATE.READY, 3, 0, 1)] with stg.ctls := [(3, { en := true, cqs := [{ qid := 1 }] })] }), 3, 1, by decide +kernel⟩,
   ⟨({ tw [(HIF_FNf_STATE.PRESENT, 3, 0, 1), (HIF_FNf_STATE.BME, 3, 0, 1), (HIF_FNf_STATE.READY, 3, 0, 1)] with stg.ctls := [(3, { en := true })] }), 3, 0, 0, by decide +kernel⟩,
   ⟨({ tw [(HIF_FNf_STATE.PRESENT, 3, 0, 1), (HIF_FNf_STATE.BME, 3, 0, 1), (HIF_FNf_STATE.READY, 3, 0, 1)] with stg.ctls := [(3, { en := true })] }), 3, by decide +kernel⟩,
   ⟨({ tw [(HIF_FNf_STATE.PRESENT, 3, 0, 1), (HIF_FNf_STATE.BME, 3, 0, 1), (HIF_FNf_STATE.READY, 3, 0, 1), (STG_NSs_CFG.VALID, 63, 0, 1)] with stg.ctls := [(3, { en := true })] }), 64, ([3] : List Nat), by decide +kernel⟩,
   ⟨({ tw [(HIF_FNf_STATE.PRESENT, 3, 0, 1), (HIF_FNf_STATE.BME, 3, 0, 1), (HIF_FNf_STATE.READY, 3, 0, 1)] with stg.ctls := [(3, { en := true })], stg.test := some {} }), 3, 2, by decide +kernel⟩,
   ⟨({ tw [(HIF_FNf_STATE.PRESENT, 3, 0, 1), (HIF_FNf_STATE.BME, 3, 0, 1), (HIF_FNf_STATE.READY, 3, 0, 1)] with stg.ctls := [(3, { en := true })], stg.test := some ({ f := 3 } : TestSt) }), 3, ({ f := 3 } : TestSt), by decide +kernel⟩,
   ⟨({ tw [(HIF_FNf_STATE.PRESENT, 3, 0, 1), (HIF_FNf_STATE.BME, 3, 0, 1), (HIF_FNf_STATE.READY, 3, 0, 1)] with stg.ctls := [(3, { en := true })] }), 3, 0, 1, by decide +kernel⟩,
   ⟨({ tw [(HIF_FNf_STATE.PRESENT, 3, 0, 1), (HIF_FNf_STATE.BME, 3, 0, 1), (HIF_FNf_STATE.READY, 3, 0, 1)] with stg.ctls := [(3, { en := true, events := [7] })] }), 3, 7, ([] : List Nat), by decide +kernel⟩,
   ⟨({ tw [(HIF_FNf_STATE.PRESENT, 3, 0, 1), (HIF_FNf_STATE.BME, 3, 0, 1), (HIF_FNf_STATE.READY, 3, 0, 1)] with stg.ctls := [(3, { en := true, aers := List.replicate 256 1 })] }), 3, by decide +kernel, by decide +kernel, by decide +kernel, by decide +kernel, lt_of_lt_of_eq (aerl_lt 3) (by decide +kernel)⟩,
   ⟨({ tw [(HIF_FNf_STATE.PRESENT, 3, 0, 1), (HIF_FNf_STATE.BME, 3, 0, 1), (HIF_FNf_STATE.READY, 3, 0, 1)] with stg.ctls := [(3, { en := true })] }), 3, by decide +kernel⟩,
   ⟨({ tw [(HIF_FNf_STATE.PRESENT, 3, 0, 1), (HIF_FNf_STATE.BME, 3, 0, 1), (HIF_FNf_STATE.READY, 3, 0, 1)] with stg.ctls := [(3, { en := true, stamp := 5 })] }), 3, by decide +kernel⟩,
   ⟨({ tw [(HIF_FNf_STATE.PRESENT, 3, 0, 1), (HIF_FNf_STATE.BME, 3, 0, 1), (HIF_FNf_STATE.READY, 3, 0, 1)] with stg.ctls := [(3, { en := true })] }), 3, by decide +kernel⟩,
   ⟨({ tw [(HIF_FNf_STATE.PRESENT, 3, 0, 1), (HIF_FNf_STATE.BME, 3, 0, 1), (HIF_FNf_STATE.READY, 3, 0, 1)] with stg.ctls := [(3, { en := true })], stg.cmds := [({ f := 3, qid := 1, cid := 9, id := 4 } : HostCmd)] }), 3, 1, 9, ({ f := 3, qid := 1, cid := 9, id := 4 } : HostCmd), by decide +kernel⟩⟩

/-- States that meet the hypotheses of NvmeIoCommands, clause by clause. -/
theorem witness_NvmeIoCommands :
    (∃ (s : State) (f : Nat) (qid : Nat) (nsid : Nat) (lba : Nat) (n : Nat) (q : SqSt), s.wf = true ∧ s.ctlRuns f = true ∧ (s.ctl f).ps ≠ 2 ∧ (s.ctl f).sqs.find? (fun q => q.qid == qid) = some q ∧ s.ioStatus f nsid false 512 [(lba, n)] = none) ∧
    (∃ (s : State) (f : Nat) (qid : Nat) (nsid : Nat) (lba : Nat) (n : Nat) (q : SqSt), s.wf = true ∧ s.ctlRuns f = true ∧ (s.ctl f).ps ≠ 2 ∧ (s.ctl f).sqs.find? (fun q => q.qid == qid) = some q ∧ s.ioStatus f nsid true 512 [(lba, n)] = none) ∧
    (∃ (s : State) (f : Nat) (qid : Nat) (nsid : Nat) (lba : Nat) (n : Nat) (q : SqSt), s.wf = true ∧ s.ctlRuns f = true ∧ (s.ctl f).ps ≠ 2 ∧ (s.ctl f).sqs.find? (fun q => q.qid == qid) = some q ∧ s.ioStatus f nsid true 65536 [(lba, n)] = none) ∧
    (∃ (s : State) (f : Nat) (qid : Nat) (nsid : Nat) (q : SqSt), s.wf = true ∧ s.ctlRuns f = true ∧ (s.ctl f).ps ≠ 2 ∧ (s.ctl f).sqs.find? (fun q => q.qid == qid) = some q ∧ s.ioStatus f nsid false 0 [] = none ∧ s.stg.cmds = []) ∧
    (∃ (s : State) (f : Nat) (qid : Nat) (nsid : Nat) (lba : Nat) (n : Nat) (q : SqSt), s.wf = true ∧ s.ctlRuns f = true ∧ (s.ctl f).ps ≠ 2 ∧ (s.ctl f).sqs.find? (fun q => q.qid == qid) = some q ∧ s.ioStatus f nsid false 512 [(lba, n)] = none) ∧
    (∃ (s : State) (f : Nat) (qid : Nat) (nsid : Nat) (ranges : List (Nat × Nat)) (q : SqSt), s.wf = true ∧ s.ctlRuns f = true ∧ (s.ctl f).ps ≠ 2 ∧ (s.ctl f).sqs.find? (fun q => q.qid == qid) = some q ∧ s.ioStatus f nsid true (2 ^ 32) ranges = none) ∧
    (∃ (s : State) (f : Nat) (qid : Nat) (nsid : Nat) (lba : Nat) (n : Nat) (e : Nat) (q : SqSt), s.wf = true ∧ s.ctlRuns f = true ∧ (s.ctl f).ps ≠ 2 ∧ (s.ctl f).sqs.find? (fun q => q.qid == qid) = some q ∧ s.ioStatus f nsid false 512 [(lba, n)] = some e) ∧
    (∃ (s : State) (f : Nat) (qid : Nat) (nsid : Nat) (lba : Nat) (n : Nat) (e : Nat) (q : SqSt), s.wf = true ∧ s.ctlRuns f = true ∧ (s.ctl f).ps ≠ 2 ∧ (s.ctl f).sqs.find? (fun q => q.qid == qid) = some q ∧ s.ioStatus f nsid true 512 [(lba, n)] = some e) ∧
    (∃ (s : State) (id : Nat) (c : DrvCmd), s.stg.drives.find? (fun c => c.id == id) = some c) ∧
    (∃ (s : State) (id : Nat) (c : DrvCmd), s.stg.drives.find? (fun c => c.id == id) = some c) ∧
    (∃ (s : State) (n : Nat), s.nsValid n = true) :=
  ⟨⟨({ tw [(HIF_FNf_STATE.PRESENT, 3, 0, 1), (HIF_FNf_STATE.BME, 3, 0, 1), (HIF_FNf_STATE.READY, 3, 0, 1), (STG_NSs_CFG.VALID, 0, 0, 1), (STG_NSs_ATTACHw.CTRL, 0, 0, 8), (STG_NSs_SIZE_LO.BLOCKS, 0, 0, 8), (STG_NSs_STATE.ONLINE, 0, 0, 1)] with stg.ctls := [(3, { en := true, sqs := [{ qid := 1, cq := 1 }], cqs := [{ qid := 1 }] })] }), 3, 1, 1, 7, 1, ({ qid := 1, cq := 1 } : SqSt), by decide +kernel⟩,
   ⟨({ tw [(HIF_FNf_STATE.PRESENT, 3, 0, 1), (HIF_FNf_STATE.BME, 3, 0, 1), (HIF_FNf_STATE.READY, 3, 0, 1), (STG_NSs_CFG.VALID, 0, 0, 1), (STG_NSs_ATTACHw.CTRL, 0, 0, 8), (STG_NSs_SIZE_LO.BLOCKS, 0, 0, 8), (STG_NSs_STATE.ONLINE, 0, 0, 1)] with stg.ctls := [(3, { en := true, sqs := [{ qid := 1, cq := 1 }], cqs := [{ qid := 1 }] })] }), 3, 1, 1, 7, 1, ({ qid := 1, cq := 1 } : SqSt), by decide +kernel⟩,
   ⟨({ tw [(HIF_FNf_STATE.PRESENT, 3, 0, 1), (HIF_FNf_STATE.BME, 3, 0, 1), (HIF_FNf_STATE.READY, 3, 0, 1), (STG_NSs_CFG.VALID, 0, 0, 1), (STG_NSs_ATTACHw.CTRL, 0, 0, 8), (STG_NSs_SIZE_LO.BLOCKS, 0, 0, 8), (STG_NSs_STATE.ONLINE, 0, 0, 1)] with stg.ctls := [(3, { en := true, sqs := [{ qid := 1, cq := 1 }], cqs := [{ qid := 1 }] })] }), 3, 1, 1, 7, 1, ({ qid := 1, cq := 1 } : SqSt), by decide +kernel⟩,
   ⟨({ tw [(HIF_FNf_STATE.PRESENT, 3, 0, 1), (HIF_FNf_STATE.BME, 3, 0, 1), (HIF_FNf_STATE.READY, 3, 0, 1), (STG_NSs_CFG.VALID, 0, 0, 1), (STG_NSs_ATTACHw.CTRL, 0, 0, 8), (STG_NSs_SIZE_LO.BLOCKS, 0, 0, 8), (STG_NSs_STATE.ONLINE, 0, 0, 1)] with stg.ctls := [(3, { en := true, sqs := [{ qid := 1, cq := 1 }], cqs := [{ qid := 1 }] })] }), 3, 1, 1, ({ qid := 1, cq := 1 } : SqSt), by decide +kernel⟩,
   ⟨({ tw [(HIF_FNf_STATE.PRESENT, 3, 0, 1), (HIF_FNf_STATE.BME, 3, 0, 1), (HIF_FNf_STATE.READY, 3, 0, 1), (STG_NSs_CFG.VALID, 0, 0, 1), (STG_NSs_ATTACHw.CTRL, 0, 0, 8), (STG_NSs_SIZE_LO.BLOCKS, 0, 0, 8), (STG_NSs_STATE.ONLINE, 0, 0, 1)] with stg.ctls := [(3, { en := true, sqs := [{ qid := 1, cq := 1 }], cqs := [{ qid := 1 }] })] }), 3, 1, 1, 7, 1, ({ qid := 1, cq := 1 } : SqSt), by decide +kernel⟩,
   ⟨({ tw [(HIF_FNf_STATE.PRESENT, 3, 0, 1), (HIF_FNf_STATE.BME, 3, 0, 1), (HIF_FNf_STATE.READY, 3, 0, 1), (STG_NSs_CFG.VALID, 0, 0, 1), (STG_NSs_ATTACHw.CTRL, 0, 0, 8), (STG_NSs_SIZE_LO.BLOCKS, 0, 0, 8), (STG_NSs_STATE.ONLINE, 0, 0, 1)] with stg.ctls := [(3, { en := true, sqs := [{ qid := 1, cq := 1 }], cqs := [{ qid := 1 }] })] }), 3, 1, 1, ([(0, 8)] : List (Nat × Nat)), ({ qid := 1, cq := 1 } : SqSt), by decide +kernel⟩,
   ⟨({ tw [(HIF_FNf_STATE.PRESENT, 3, 0, 1), (HIF_FNf_STATE.BME, 3, 0, 1), (HIF_FNf_STATE.READY, 3, 0, 1)] with stg.ctls := [(3, { en := true, sqs := [{ qid := 1, cq := 1 }], cqs := [{ qid := 1 }] })] }), 3, 1, 0, 0, 0, 0x0B, ({ qid := 1, cq := 1 } : SqSt), by decide +kernel⟩,
   ⟨({ tw [(HIF_FNf_STATE.PRESENT, 3, 0, 1), (HIF_FNf_STATE.BME, 3, 0, 1), (HIF_FNf_STATE.READY, 3, 0, 1)] with stg.ctls := [(3, { en := true, sqs := [{ qid := 1, cq := 1 }], cqs := [{ qid := 1 }] })] }), 3, 1, 0, 0, 0, 0x0B, ({ qid := 1, cq := 1 } : SqSt), by decide +kernel⟩,
   ⟨({ State.reset with stg.drives := [({ id := 0 } : DrvCmd)] }), 0, ({ id := 0 } : DrvCmd), by decide +kernel⟩,
   ⟨({ State.reset with stg.drives := [({ id := 0 } : DrvCmd)] }), 0, ({ id := 0 } : DrvCmd), by decide +kernel⟩,
   ⟨(tw [(STG_NSs_CFG.VALID, 63, 0, 1)]), 63, by decide +kernel⟩⟩

/-- States that meet the hypotheses of DmaCommands, clause by clause. -/
theorem witness_DmaCommands :
    (∃ (s : State) (who : Nat) (ch : Nat), s.shut who = false ∧ s.wf = true ∧ ch < 32 ∧ s.dmaState ch ∈ [0, 4, 5]) ∧
    (∃ (s : State) (who : Nat) (ch : Nat), s.shut who = false ∧ s.wf = true ∧ ch < 32 ∧ s.dmaState ch ∉ [0, 4, 5]) ∧
    (∃ (s : State) (ch : Nat), s.wf = true ∧ ch < 32 ∧ s.dmaState ch = 1 ∧ (s.dmaCh ch).err = 0 ∧ (s.dmaCh ch).reads = [] ∧ (s.dmaCh ch).writes = [] ∧ (s.dmaCh ch).p < (s.dmaCh ch).len) ∧
    (∃ (s : State) (ch : Nat), s.wf = true ∧ ch < 32 ∧ s.dmaState ch = 1 ∧ (s.dmaCh ch).err = 0 ∧ (s.dmaCh ch).reads ≠ [] ∧ (s.dmaCh ch).p < (s.dmaCh ch).len) ∧
    (∃ (s : State) (ch : Nat), s.wf = true ∧ ch < 32 ∧ s.dmaState ch = 3 ∧ (s.dmaCh ch).err = 0) ∧
    (∃ (s : State) (ch : Nat), s.wf = true ∧ ch < 32 ∧ s.dmaState ch ∈ [1, 2, 3] ∧ (s.dmaCh ch).writes = []) ∧
    (∃ (s : State) (ch : Nat) (x : Nat × Nat) (l : List (Nat × Nat)), s.wf = true ∧ ch < 32 ∧ (s.dmaCh ch).reads = x :: l ∧ (s.dmaCh ch).writes = []) ∧
    (∃ (s : State) (ch : Nat) (o : Nat) (n : Nat) (l : List (Nat × Nat)) (b : List Byte), ch < 32 ∧ (s.dmaCh ch).reads = (o, n) :: l ∧ (s.dmaCh ch).op ≠ 2 ∧ (s.dmaCh ch).sspace ≠ 1 ∧ (s.dmaCh ch).overlaps = false ∧ s.dmaGet ch false (s.dmaCh ch).sspace ((s.dmaCh ch).src + o) n = (some b, false)) ∧
    (∃ (s : State) (ch : Nat) (n : Nat) (l : List Nat), ch < 32 ∧ (s.dmaCh ch).writes = n :: l) ∧
    (∃ (s : State) (ch : Nat) (n : Nat) (l : List Nat), ch < 32 ∧ (s.dmaCh ch).writes = n :: l) :=
  ⟨⟨(tw [(HIF_FNf_STATE.MSE, 0, 0, 1)]), 0, 0, by decide +kernel⟩,
   ⟨(tw [(HIF_FNf_STATE.MSE, 0, 0, 1), (DMA_CHn_STATUS.STATE, 0, 0, 1)]), 0, 0, by decide +kernel⟩,
   ⟨({ tw [(DMA_CHn_STATUS.STATE, 0, 0, 1)] with dma.chans := [(0, { desc := [0, 0, 0x4000, 64] })] }), 0, by decide +kernel⟩,
   ⟨({ tw [(DMA_CHn_STATUS.STATE, 0, 0, 1)] with dma.chans := [(0, { desc := [0, 0, 0x4000, 64], reads := [(0, 64)] })] }), 0, by decide +kernel⟩,
   ⟨(tw [(DMA_CHn_STATUS.STATE, 0, 0, 3)]), 0, by decide +kernel⟩,
   ⟨(tw [(DMA_CHn_STATUS.STATE, 0, 0, 2)]), 0, by decide +kernel⟩,
   ⟨({ State.reset with dma.chans := [(0, { reads := [(0, 64)] })] }), 0, ((0, 64) : Nat × Nat), ([] : List (Nat × Nat)), by decide +kernel⟩,
   ⟨({ State.reset with dma.chans := [(0, { desc := [0, 0x8000, 64], reads := [(0, 64)] })] }), 0, 0, 64, ([] : List (Nat × Nat)), (({ State.reset with dma.chans := [(0, { desc := [0, 0x8000, 64], reads := [(0, 64)] })] }).rtRead ((({ State.reset with dma.chans := [(0, { desc := [0, 0x8000, 64], reads := [(0, 64)] })] }).dmaCh 0).src + 0) 64 : List Byte), by decide +kernel⟩,
   ⟨({ State.reset with dma.chans := [(0, { writes := [64] })] }), 0, 64, ([] : List Nat), by decide +kernel⟩,
   ⟨({ State.reset with dma.chans := [(0, { writes := [64] })] }), 0, 64, ([] : List Nat), by decide +kernel⟩⟩

/-- States that meet the hypotheses of RecorderCommands, clause by clause. -/
theorem witness_RecorderCommands :
    (∃ (s : State) (b : Nat) (x : BufRow) (l : List BufRow), s.bufOf b = x :: l ∧ 65536 ≤ bufBytes (x :: l)) ∧
    (∃ (s : State) (b : Nat) (x : BufRow) (l : List BufRow), s.bufOf b = x :: l ∧ bufBytes (x :: l) < 65536) ∧
    (∃ (s : State) (val : Word), s.wf = true ∧ bitOf val.toNat 4 = true ∧ s.on REC_CFG.ENABLE = true ∧ s.rd REC_CMD_TIME_NS.T = 0 ∧ s.rd REC_CMD_TIME_SEC_LO.T = 0 ∧ s.rd REC_CMD_TIME_SEC_HI.T = 0) ∧
    (∃ (s : State) (val : Word), s.wf = true ∧ (bitOf val.toNat 4 = false ∨ s.on REC_CFG.ENABLE = false)) ∧
    (∃ (s : State) (b : Nat) (c : Nat) (g : Seg), s.rec_.segs.find? (fun g => g.bay == b && g.set == c && g.close.isNone) = some g) ∧
    (∃ (s : State) (g : Seg), s.rec_.exp = none ∧ s.rd PWR_STATUS.PSTATE = 0 ∧ s.firstClosed = some g) ∧
    (∃ (s : State) (x : Export) (g : Seg), s.rec_.exp = some x ∧ x.done = some true ∧ s.rec_.segs.find? (fun g => g.id == x.seg) = some g ∧ x.step < 3) ∧
    (∃ (s : State) (x : Export) (g : Seg), s.rec_.exp = some x ∧ x.done = some true ∧ s.rec_.segs.find? (fun g => g.id == x.seg) = some g ∧ 3 ≤ x.step) ∧
    (∃ (s : State) (x : Export) (g : Seg), s.rec_.exp = some x ∧ x.done = some false ∧ s.rec_.segs.find? (fun g => g.id == x.seg) = some g) ∧
    (∃ (s : State) (x : Export) (g : Seg), s.rec_.exp = some x ∧ s.rec_.failedAt ≠ 0 ∧ s.rd PWR_STATUS.PSTATE = 0 ∧ s.rec_.segs.find? (fun g => g.id == x.seg) = some g) ∧
    (∃ (s : State) (c : Nat) (j : HarmJob), s.wf = true ∧ (s.pch c).harm = some j) :=
  ⟨⟨({ State.reset with rec_.buf := ({ bytes := List.replicate 256 0#8, row := { len := 256 } } : BufRow) :: (List.replicate 255 ({ bytes := List.replicate 256 0#8, row := { len := 256 } } : BufRow) : List BufRow) }), 0, ({ bytes := List.replicate 256 0#8, row := { len := 256 } } : BufRow), (List.replicate 255 ({ bytes := List.replicate 256 0#8, row := { len := 256 } } : BufRow) : List BufRow), by decide +kernel⟩,
   ⟨({ State.reset with rec_.buf := ({ bytes := [0#8] } : BufRow) :: ([] : List BufRow) }), 0, ({ bytes := [0#8] } : BufRow), ([] : List BufRow), by decide +kernel⟩,
   ⟨(tw [(REC_CFG.ENABLE, 0, 0, 1), (REC_CMD_TIME_NS.T, 0, 0, 0), (REC_CMD_TIME_SEC_LO.T, 0, 0, 0), (REC_CMD_TIME_SEC_HI.T, 0, 0, 0)]), (16#32 : Word), by decide +kernel⟩,
   ⟨State.reset, (0#32 : Word), by decide +kernel⟩,
   ⟨({ State.reset with rec_.segs := [({} : Seg)] }), 0, 0, ({} : Seg), by decide +kernel⟩,
   ⟨({ tw [(PWR_STATUS.PSTATE, 0, 0, 0)] with rec_.segs := [({ close := some 0 } : Seg)] }), ({ close := some 0 } : Seg), by decide +kernel⟩,
   ⟨({ State.reset with rec_.segs := [({} : Seg)], rec_.exp := some ({ done := some true } : Export) }), ({ done := some true } : Export), ({} : Seg), by decide +kernel⟩,
   ⟨({ State.reset with rec_.segs := [({} : Seg)], rec_.exp := some ({ done := some true, step := 3 } : Export) }), ({ done := some true, step := 3 } : Export), ({} : Seg), by decide +kernel⟩,
   ⟨({ State.reset with rec_.segs := [({} : Seg)], rec_.exp := some ({ done := some false } : Export) }), ({ done := some false } : Export), ({} : Seg), by decide +kernel⟩,
   ⟨({ tw [(PWR_STATUS.PSTATE, 0, 0, 0)] with rec_.segs := [({} : Seg)], rec_.exp := some ({} : Export), rec_.failedAt := 1 }), ({} : Export), ({} : Seg), by decide +kernel⟩,
   ⟨({ State.reset with phe.chans := [(511, { harm := some ({} : HarmJob) })] }), 511, ({} : HarmJob), by decide +kernel⟩⟩

/-- States that meet the hypotheses of MemoryCommands, clause by clause. -/
theorem witness_MemoryCommands :
    (∃ (s : State) (c : Nat) (ch : Nat) (bank : Nat), s.wf = true ∧ s.on MEM_CLc_STATUS.TRAINED c = true ∧ c < 2 ∧ ch < s.chansOf c ∧ s.on MEM_CLc_STATUS.IN_SR c = false ∧ (c = 1 ∨ s.quiet = false) ∧ cellGet (fun _ => 0) s.mem.owed (bankKey c ch bank) + 1 < 8) ∧
    (∃ (s : State), s.wf = true) ∧
    (∃ (s : State) (ch : Nat), s.on MEM_CLc_STATUS.TRAINED 1 = true ∧ ch < s.chansOf 1 ∧ s.on MEM_TRAIN.RETRAIN_MS = true) ∧
    (∃ (s : State) (c : Nat) (ch : Nat) (x : Nat), cellGet (fun _ => 0) s.mem.due (4 * c + ch) = x + 1) ∧
    (∃ (s : State) (val : Word), s.wf = true ∧ bitsOf val.toNat 3 1 = 1 ∧ bitsOf val.toNat 0 3 < s.chansOf 1) ∧
    (∃ (s : State) (val : Word), s.wf = true ∧ bitsOf val.toNat 3 1 = 0 ∧ bitsOf val.toNat 0 3 < s.chansOf 0) ∧
    (∃ (s : State) (ch : Nat), s.mem.training.contains ch = true) ∧
    (∃ (s : State) (val : Word), s.wf = true ∧ s.rd MEM_REPAIR_CMD.STATE ∉ [1, 2] ∧ s.usable (bitsOf val.toNat 0 1) ≤ s.rd64 MEM_REPAIR_ADDR_LO.OFFSET) ∧
    (∃ (s : State) (val : Word), s.wf = true ∧ s.rd MEM_REPAIR_CMD.STATE ∉ [1, 2] ∧ s.rd64 MEM_REPAIR_ADDR_LO.OFFSET < s.usable (bitsOf val.toNat 0 1) ∧ bitsOf val.toNat 0 1 = 0) ∧
    (∃ (s : State) (r : Repair) (l : List Repair), s.wf = true ∧ s.waitingRepairs = r :: l ∧ r.cmd = true) ∧
    (∃ (s : State) (c : Nat) (r : Repair), s.wf = true ∧ s.mem.repairs.find? (fun r => r.cls == c && r.running) = some r ∧ r.cmd = true) ∧
    (∃ (s : State) (c : Nat) (r : Repair), s.wf = true ∧ s.mem.repairs.find? (fun r => r.cls == c && r.running) = some r ∧ s.rd MEM_REPAIR_CMD.LOG_USED < repairLogSize ∧ s.on PWR_STATUS.NV_REFUSED = false) ∧
    (∃ (s : State), s.wf = true) ∧
    (∃ (s : State) (who : Nat), s.shut who = false) ∧
    (∃ (s : State), s.wf = true ∧ s.on MEM_CFG.SCRUB_H = true) ∧
    (∃ (s : State), s.wf = true) ∧
    (∃ (s : State), s.wf = true ∧ s.on MEM_CLc_STATUS.TRAINED 1 = true ∧ s.on MEM_CLc_STATUS.IN_SR 1 = false ∧ s.on MEM_SR.IDLE_US = true) ∧
    (∃ (s : State), s.wf = true ∧ s.rd MEM_TEST.STATE ≠ 1 ∧ s.rd64 MEM_TEST_BASE_LO.BYTES % 65536 ≠ 0) ∧
    (∃ (s : State), s.wf = true ∧ s.rd MEM_TEST.STATE ≠ 1 ∧ s.rd64 MEM_TEST_BASE_LO.BYTES % 65536 = 0 ∧ s.rd64 MEM_TEST_LEN_LO.BYTES % 65536 = 0 ∧ s.rd64 MEM_TEST_BASE_LO.BYTES + s.rd64 MEM_TEST_LEN_LO.BYTES ≤ s.usable 1 ∧ s.meetsRing (s.rd64 MEM_TEST_BASE_LO.BYTES) (s.rd64 MEM_TEST_LEN_LO.BYTES) = false) ∧
    (∃ (s : State), s.wf = true ∧ s.rd MEM_TEST.STATE = 1) ∧
    (∃ (s : State), s.wf = true ∧ s.rd MEM_TEST.STATE = 1) ∧
    (∃ (s : State) (who : Nat), s.shut who = false) ∧
    (∃ (s : State) (who : Nat), s.shut who = false ∧ s.wf = true ∧ 0x200000 ≤ 8 * s.rd MEM_MRAM_ADDR.OFFSET ∧ s.on PWR_STATUS.NV_REFUSED = false) ∧
    (∃ (s : State) (who : Nat), s.shut who = false ∧ s.wf = true ∧ (8 * s.rd MEM_MRAM_ADDR.OFFSET < 0x200000 ∨ s.on PWR_STATUS.NV_REFUSED = true)) :=
  ⟨⟨(tw [(MEM_CLc_STATUS.TRAINED, 0, 0, 1), (MEM_CLc_STATUS.IN_SR, 0, 0, 0), (MEM_CLc_STATUS.CHANNELS, 0, 0, 4)]), 0, 0, 0, by decide +kernel⟩,
   ⟨State.reset, by decide +kernel⟩,
   ⟨(tw [(MEM_CLc_STATUS.TRAINED, 1, 0, 1), (MEM_TRAIN.RETRAIN_MS, 0, 0, 1), (MEM_CLc_STATUS.CHANNELS, 1, 0, 4)]), 0, by decide +kernel⟩,
   ⟨({ State.reset with mem.due := [(0, 6)] }), 0, 0, 5, by decide +kernel⟩,
   ⟨(tw [(MEM_CLc_STATUS.CHANNELS, 1, 0, 4)]), (8#32 : Word), by decide +kernel⟩,
   ⟨(tw [(MEM_CLc_STATUS.CHANNELS, 0, 0, 4)]), (0#32 : Word), by decide +kernel⟩,
   ⟨({ State.reset with mem.training := [0] }), 0, by decide +kernel⟩,
   ⟨State.reset, (0#32 : Word), by decide +kernel⟩,
   ⟨(tw [(MEM_CLc_STATUS.CHANNELS, 0, 0, 4), (MEM_CLc_STATUS.GIB, 0, 0, 8)]), (0#32 : Word), by decide +kernel⟩,
   ⟨({ State.reset with mem.repairs := [({} : Repair)] }), ({} : Repair), ([] : List Repair), by decide +kernel⟩,
   ⟨({ State.reset with mem.repairs := [({ running := true } : Repair)] }), 0, ({ running := true } : Repair), by decide +kernel⟩,
   ⟨({ tw [(PWR_STATUS.NV_REFUSED, 0, 0, 0)] with mem.repairs := [({ running := true } : Repair)] }), 0, ({ running := true } : Repair), by decide +kernel⟩,
   ⟨State.reset, by decide +kernel⟩,
   ⟨(tw [(HIF_FNf_STATE.MSE, 0, 0, 1)]), 0, by decide +kernel⟩,
   ⟨(tw [(MEM_CFG.SCRUB_H, 0, 0, 1)]), by decide +kernel⟩,
   ⟨State.reset, by decide +kernel⟩,
   ⟨(tw [(MEM_CLc_STATUS.TRAINED, 1, 0, 1), (MEM_CLc_STATUS.IN_SR, 1, 0, 0), (MEM_SR.IDLE_US, 0, 0, 1)]), by decide +kernel⟩,
   ⟨(State.reset.wr64 MEM_TEST_BASE_LO.BYTES 1), by decide +kernel⟩,
   ⟨State.reset, by decide +kernel⟩,
   ⟨(tw [(MEM_TEST.STATE, 0, 0, 1)]), by decide +kernel⟩,
   ⟨(tw [(MEM_TEST.STATE, 0, 0, 1)]), by decide +kernel⟩,
   ⟨(tw [(HIF_FNf_STATE.MSE, 0, 0, 1)]), 0, by decide +kernel⟩,
   ⟨(tw [(PWR_STATUS.NV_REFUSED, 0, 0, 0), (HIF_FNf_STATE.MSE, 0, 0, 1), (MEM_MRAM_ADDR.OFFSET, 0, 0, 0x40000)]), 0, by decide +kernel⟩,
   ⟨(tw [(HIF_FNf_STATE.MSE, 0, 0, 1)]), 0, by decide +kernel⟩⟩

/-- States that meet the hypotheses of UpdateCommands, clause by clause. -/
theorem witness_UpdateCommands :
    (∃ (s : State) (g : Nat) (j : Job), s.pf0Job g 0xA0 = some j ∧ s.boot.upd.job = none ∧ s.boot.upd.want = 0 ∧ s.updPhase ∈ [0, 4, 5]) ∧
    (∃ (s : State) (g : Nat) (j : Job), s.pf0Job g 0xA0 = some j ∧ s.boot.upd.job = none ∧ s.boot.upd.want = 0 ∧ s.updPhase ∉ [0, 4, 5]) ∧
    (∃ (s : State) (g : Nat) (j : Job), s.pf0Job g 0xA1 = some j ∧ s.boot.upd.job = none ∧ s.boot.upd.want = 0 ∧ s.updPhase = 2 ∧ s.boot.upd.data = [] ∧ qwAt j.qw 1 % 256 = 0 ∧ qwAt j.qw 1 + j.bytes.length ≤ s.boot.half ∧ (0xF00 < qwAt j.qw 1 ∨ qwAt j.qw 1 + j.bytes.length ≤ 0xF00) ∧ j.bytes.length % 256 = 0 ∧ 256 ≤ j.bytes.length ∧ j.bytes.length ≤ 1048576) ∧
    (∃ (s : State) (g : Nat) (j : Job), s.pf0Job g 0xA1 = some j ∧ s.boot.upd.job = none ∧ s.updPhase ≠ 2) ∧
    (∃ (s : State) (g : Nat) (j : Job), s.pf0Job g 0xA2 = some j ∧ s.boot.upd.job = none ∧ s.boot.upd.want = 0 ∧ s.updPhase = 2 ∧ s.boot.upd.data = []) ∧
    (∃ (s : State) (g : Nat) (j : Job), s.rd QMG_RINGg_DESC.FN g = 0 ∧ (s.ring g).jobs.find? (fun j => j.done.isNone && j.ready && j.opcode == 0xA3) = some j ∧ 1 ≤ s.updPhase ∧ s.updPhase ≤ 3) ∧
    (∃ (s : State), s.wf = true ∧ s.boot.upd.busy = true ∧ s.updPhase = 1) ∧
    (∃ (s : State), s.wf = true ∧ s.boot.upd.busy = true ∧ 2 ≤ s.updPhase ∧ s.boot.upd.seq = none ∧ s.updPage.2.length = 256) ∧
    (∃ (s : State) (got : List Byte), s.wf = true ∧ s.boot.upd.busy = true ∧ 2 ≤ s.updPhase ∧ s.boot.upd.seq = none ∧ got ≠ s.updPage.2) ∧
    (∃ (s : State), s.updPhase = 3 ∧ s.boot.upd.seq = none ∧ s.boot.upd.fail = none ∧ s.boot.upd.stop = false ∧ s.boot.upd.want = 0) ∧
    (∃ (s : State), s.wf = true ∧ s.rd BOOT_FLOOR_CMD.STATE ≠ 1 ∧ s.boot.floors.getLastD 0 < s.rd BOOT_FLOOR_NEW.VALUE ∧ s.rd BOOT_FLOOR_NEW.VALUE ≤ s.rd BOOT_RUN_SEQ.SEQ ∧ s.boot.floors.length < 16 ∧ s.on PWR_STATUS.NV_REFUSED = false) ∧
    (∃ (s : State), s.wf = true ∧ s.rd BOOT_FLOOR_CMD.STATE ≠ 1 ∧ s.rd BOOT_FLOOR_NEW.VALUE ≤ s.boot.floors.getLastD 0) ∧
    (∃ (s : State) (v : Nat), s.wf = true ∧ s.boot.floorVal = v + 1) ∧
    (∃ (s : State) (g : Nat) (j : Job), s.pf0Job g 0xA8 = some j ∧ s.rd BOOT_PARTp_STATUS.PSTATE (bitsOf (qwAt j.qw 1) 0 6) ≠ 0) ∧
    (∃ (s : State) (g : Nat) (j : Job), s.pf0Job g 0xA9 = some j ∧ s.on BOOT_PARTp_STATUS.PROT (bitsOf (qwAt j.qw 1) 0 6) = false ∧ s.rd BOOT_PARTp_STATUS.PSTATE (bitsOf (qwAt j.qw 1) 0 6) = 3) ∧
    (∃ (s : State) (g : Nat) (j : Job), s.pf0Job g 0xA9 = some j ∧ s.on BOOT_PARTp_STATUS.PROT (bitsOf (qwAt j.qw 1) 0 6) = true) ∧
    (∃ (s : State) (who : Nat) (p : Nat), s.shut who = false ∧ p < 64 ∧ s.on BOOT_PARTp_STATUS.PROT p = true ∧ isThread who = true ∧ agentCluster who ≠ s.rd BOOT_PARTp_STATUS.CLUSTER p ∧ s.rd BOOT_PARTp_STATUS.PSTATE p = 3) ∧
    (∃ (s : State) (who : Nat) (p : Nat), s.shut who = false ∧ p < 64 ∧ (s.on BOOT_PARTp_STATUS.PROT p = false ∨ isThread who = false ∨ agentCluster who = s.rd BOOT_PARTp_STATUS.CLUSTER p)) :=
  ⟨⟨({ State.reset with rings := [(0, { jobs := [({ qw := [0xA0, 0, 0, 0, 0, 0, 0, 0], data := [(0, [])], frags := [] } : Job)] })] }), 0, ({ qw := [0xA0, 0, 0, 0, 0, 0, 0, 0], data := [(0, [])], frags := [] } : Job), by decide +kernel⟩,
   ⟨({ tw [(BOOT_UPD_STATUS.PHASE, 0, 0, 2)] with rings := [(0, { jobs := [({ qw := [0xA0, 0, 0, 0, 0, 0, 0, 0], data := [(0, [])], frags := [] } : Job)] })] }), 0, ({ qw := [0xA0, 0, 0, 0, 0, 0, 0, 0], data := [(0, [])], frags := [] } : Job), by decide +kernel⟩,
   ⟨({ tw [(BOOT_UPD_STATUS.PHASE, 0, 0, 2)] with rings := [(0, { jobs := [({ qw := [0xA1, 0, 0, 0, 0, 0, 0, 0], data := [(0, List.replicate 256 7#8)], frags := [] } : Job)] })], boot.half := 0x2000000 }), 0, ({ qw := [0xA1, 0, 0, 0, 0, 0, 0, 0], data := [(0, List.replicate 256 7#8)], frags := [] } : Job), by decide +kernel⟩,
   ⟨({ State.reset with rings := [(0, { jobs := [({ qw := [0xA1, 0, 0, 0, 0, 0, 0, 0], data := [(0, [])], frags := [] } : Job)] })] }), 0, ({ qw := [0xA1, 0, 0, 0, 0, 0, 0, 0], data := [(0, [])], frags := [] } : Job), by decide +kernel⟩,
   ⟨({ tw [(BOOT_UPD_STATUS.PHASE, 0, 0, 2)] with rings := [(0, { jobs := [({ qw := [0xA2, 0, 0, 0, 0, 0, 0, 0], data := [(0, [])], frags := [] } : Job)] })] }), 0, ({ qw := [0xA2, 0, 0, 0, 0, 0, 0, 0], data := [(0, [])], frags := [] } : Job), by decide +kernel⟩,
   ⟨({ tw [(QMG_RINGg_DESC.FN, 0, 0, 0), (BOOT_UPD_STATUS.PHASE, 0, 0, 3)] with rings := [(0, { jobs := [({ qw := [0xA3, 0, 0, 0, 0, 0, 0, 0], data := [(0, [])], frags := [] } : Job)] })] }), 0, ({ qw := [0xA3, 0, 0, 0, 0, 0, 0, 0], data := [(0, [])], frags := [] } : Job), by decide +kernel⟩,
   ⟨({ tw [(BOOT_UPD_STATUS.PHASE, 0, 0, 1)] with boot.upd.busy := true }), by decide +kernel⟩,
   ⟨({ tw [(BOOT_UPD_STATUS.PHASE, 0, 0, 2)] with boot.upd.busy := true, boot.upd.data := List.replicate 256 7#8 }), by decide +kernel⟩,
   ⟨({ tw [(BOOT_UPD_STATUS.PHASE, 0, 0, 2)] with boot.upd.busy := true, boot.upd.data := List.replicate 256 7#8 }), ([] : List Byte), by decide +kernel⟩,
   ⟨(tw [(BOOT_UPD_STATUS.PHASE, 0, 0, 3)]), by decide +kernel⟩,
   ⟨(tw [(BOOT_FLOOR_CMD.STATE, 0, 0, 0), (PWR_STATUS.NV_REFUSED, 0, 0, 0), (BOOT_FLOOR_NEW.VALUE, 0, 0, 3), (BOOT_RUN_SEQ.SEQ, 0, 0, 3)]), by decide +kernel⟩,
   ⟨(tw [(BOOT_FLOOR_CMD.STATE, 0, 0, 0)]), by decide +kernel⟩,
   ⟨({ State.reset with boot.floorVal := 4 }), 3, by decide +kernel⟩,
   ⟨({ tw [(BOOT_PARTp_STATUS.PSTATE, (bitsOf (qwAt ({ qw := [0xA8, 0, 0, 0, 0, 0, 0, 0], data := [(0, [])], frags := [] } : Job).qw 1) 0 6), 0, 1), (BOOT_PARTp_STATUS.PSTATE, 0, 0, 1)] with rings := [(0, { jobs := [({ qw := [0xA8, 0, 0, 0, 0, 0, 0, 0], data := [(0, [])], frags := [] } : Job)] })] }), 0, ({ qw := [0xA8, 0, 0, 0, 0, 0, 0, 0], data := [(0, [])], frags := [] } : Job), by decide +kernel⟩,
   ⟨({ tw [(BOOT_PARTp_STATUS.PROT, (bitsOf (qwAt ({ qw := [0xA9, 0, 0, 0, 0, 0, 0, 0], data := [(0, [])], frags := [] } : Job).qw 1) 0 6), 0, 0), (BOOT_PARTp_STATUS.PSTATE, (bitsOf (qwAt ({ qw := [0xA9, 0, 0, 0, 0, 0, 0, 0], data := [(0, [])], frags := [] } : Job).qw 1) 0 6), 0, 3), (BOOT_PARTp_STATUS.PSTATE, 0, 0, 3)] with rings := [(0, { jobs := [({ qw := [0xA9, 0, 0, 0, 0, 0, 0, 0], data := [(0, [])], frags := [] } : Job)] })] }), 0, ({ qw := [0xA9, 0, 0, 0, 0, 0, 0, 0], data := [(0, [])], frags := [] } : Job), by decide +kernel⟩,
   ⟨({ tw [(BOOT_PARTp_STATUS.PROT, (bitsOf (qwAt ({ qw := [0xA9, 0, 0, 0, 0, 0, 0, 0], data := [(0, [])], frags := [] } : Job).qw 1) 0 6), 0, 1), (BOOT_PARTp_STATUS.PROT, 0, 0, 1)] with rings := [(0, { jobs := [({ qw := [0xA9, 0, 0, 0, 0, 0, 0, 0], data := [(0, [])], frags := [] } : Job)] })] }), 0, ({ qw := [0xA9, 0, 0, 0, 0, 0, 0, 0], data := [(0, [])], frags := [] } : Job), by decide +kernel⟩,
   ⟨(tw [(BOOT_PARTp_STATUS.PROT, 0, 0, 1), (BOOT_PARTp_STATUS.PSTATE, 0, 0, 3)]), 17, 0, by decide +kernel⟩,
   ⟨(tw [(HIF_FNf_STATE.MSE, 0, 0, 1)]), 0, 0, by decide +kernel⟩⟩

/-- States that meet the hypotheses of IngestCommands, clause by clause. -/
theorem witness_IngestCommands :
    (∃ (s : State) (f : RxFrame) (l : List RxFrame), s.ppl.svIn = f :: l) ∧
    (∃ (s : State) (f : RxFrame) (l : List RxFrame), s.wf = true ∧ s.ppl.svIn = f :: l ∧ s.on SVI_CFG.ENABLE = false) ∧
    (∃ (s : State) (f : RxFrame) (l : List RxFrame), s.wf = true ∧ s.ppl.svIn = f :: l ∧ s.on SVI_CFG.ENABLE = true ∧ etherType f.bytes ≠ (if f.goose then 0x88B8 else 0x88BA)) ∧
    (∃ (s : State) (f : RxFrame) (l : List RxFrame), s.wf = true ∧ s.ppl.svIn = f :: l ∧ s.on SVI_CFG.ENABLE = true ∧ f.goose = true ∧ etherType f.bytes = 0x88B8 ∧ s.ppl.gooseIn.length < 64) ∧
    (∃ (s : State) (f : RxFrame) (l : List RxFrame), s.wf = true ∧ s.ppl.svIn = f :: l ∧ s.on SVI_CFG.ENABLE = true ∧ f.goose = true ∧ etherType f.bytes = 0x88B8 ∧ 64 ≤ s.ppl.gooseIn.length) ∧
    (∃ (s : State) (f : RxFrame) (l : List RxFrame), s.wf = true ∧ s.ppl.svIn = f :: l ∧ s.on SVI_CFG.ENABLE = true ∧ f.goose = false ∧ etherType f.bytes = 0x88BA) ∧
    (∃ (s : State), s.wf = true ∧ s.tim.carried = false) ∧
    (∃ (s : State) (k : Nat), s.wf = true ∧ k < 256 ∧ s.on SVI_KEYk_CTRL.VALID_NEXT k = true) ∧
    (∃ (s : State) (k : Nat), s.wf = true ∧ k < 256 ∧ s.on SVI_KEYk_CTRL.AUTO k = true ∧ s.on SVI_KEYk_CTRL.VALID_NEXT k = true) :=
  ⟨⟨({ State.reset with ppl.svIn := ({ bytes := beBytes 6 0x010CCD040000 ++ beBytes 6 0x020000000001 ++ beBytes 2 0x88BA ++ List.replicate 60 0#8 } : RxFrame) :: ([] : List RxFrame) }), ({ bytes := beBytes 6 0x010CCD040000 ++ beBytes 6 0x020000000001 ++ beBytes 2 0x88BA ++ List.replicate 60 0#8 } : RxFrame), ([] : List RxFrame), by decide +kernel⟩,
   ⟨({ tw [(SVI_CFG.ENABLE, 0, 0, 0)] with ppl.svIn := ({ bytes := beBytes 6 0x010CCD040000 ++ beBytes 6 0x020000000001 ++ beBytes 2 0x88BA ++ List.replicate 60 0#8 } : RxFrame) :: ([] : List RxFrame) }), ({ bytes := beBytes 6 0x010CCD040000 ++ beBytes 6 0x020000000001 ++ beBytes 2 0x88BA ++ List.replicate 60 0#8 } : RxFrame), ([] : List RxFrame), by decide +kernel⟩,
   ⟨({ tw [(SVI_CFG.ENABLE, 0, 0, 1)] with ppl.svIn := ({ bytes := beBytes 6 0x010CCD040000 ++ beBytes 6 0x020000000001 ++ beBytes 2 0x0800 ++ List.replicate 60 0#8 } : RxFrame) :: ([] : List RxFrame) }), ({ bytes := beBytes 6 0x010CCD040000 ++ beBytes 6 0x020000000001 ++ beBytes 2 0x0800 ++ List.replicate 60 0#8 } : RxFrame), ([] : List RxFrame), by decide +kernel⟩,
   ⟨({ tw [(SVI_CFG.ENABLE, 0, 0, 1)] with ppl.svIn := ({ bytes := beBytes 6 0x010CCD040000 ++ beBytes 6 0x020000000001 ++ beBytes 2 0x88B8 ++ List.replicate 60 0#8, goose := true } : RxFrame) :: ([] : List RxFrame) }), ({ bytes := beBytes 6 0x010CCD040000 ++ beBytes 6 0x020000000001 ++ beBytes 2 0x88B8 ++ List.replicate 60 0#8, goose := true } : RxFrame), ([] : List RxFrame), by decide +kernel⟩,
   ⟨({ tw [(SVI_CFG.ENABLE, 0, 0, 1)] with ppl.svIn := ({ bytes := beBytes 6 0x010CCD040000 ++ beBytes 6 0x020000000001 ++ beBytes 2 0x88B8 ++ List.replicate 60 0#8, goose := true } : RxFrame) :: ([] : List RxFrame), ppl.gooseIn := List.replicate 64 {} }), ({ bytes := beBytes 6 0x010CCD040000 ++ beBytes 6 0x020000000001 ++ beBytes 2 0x88B8 ++ List.replicate 60 0#8, goose := true } : RxFrame), ([] : List RxFrame), by decide +kernel⟩,
   ⟨({ tw [(SVI_CFG.ENABLE, 0, 0, 1)] with ppl.svIn := ({ bytes := beBytes 6 0x010CCD040000 ++ beBytes 6 0x020000000001 ++ beBytes 2 0x88BA ++ List.replicate 60 0#8 } : RxFrame) :: ([] : List RxFrame) }), ({ bytes := beBytes 6 0x010CCD040000 ++ beBytes 6 0x020000000001 ++ beBytes 2 0x88BA ++ List.replicate 60 0#8 } : RxFrame), ([] : List RxFrame), by decide +kernel⟩,
   ⟨State.reset, by decide +kernel⟩,
   ⟨(tw [(SVI_KEYk_CTRL.VALID_NEXT, 0, 0, 1)]), 0, by decide +kernel⟩,
   ⟨(tw [(SVI_KEYk_CTRL.AUTO, 0, 0, 1), (SVI_KEYk_CTRL.VALID_NEXT, 0, 0, 1)]), 0, by decide +kernel⟩⟩

/-- States that meet the hypotheses of TripCommands, clause by clause. -/
theorem witness_TripCommands :
    (∃ (s : State) (p : Nat), (s.pub p).running = true ∧ s.pubOpen p = true ∧ (s.pub p).woken = false) ∧
    (∃ (k : Nat), k < 8) ∧
    (∃ (k : Nat), k < 8) ∧
    (∃ (s : State) (k : Nat) (j : Nat), s.wf = true ∧ k < 8 ∧ j < 32 ∧ s.gatedTerm (32 * k + j) = true) ∧
    (∃ (s : State) (k : Nat) (j : Nat), s.wf = true ∧ k < 8 ∧ j < 32 ∧ s.termState (32 * k + j) ≠ 0) ∧
    (∃ (s : State), s.tim.carried = false) ∧
    (∃ (s : State) (f : RxFrame) (l : List RxFrame), s.wf = true ∧ s.ppl.gooseIn = f :: l) ∧
    (∃ (s : State) (f : RxFrame) (l : List RxFrame), s.wf = true ∧ s.ppl.gooseIn = f :: l ∧ readApp f.bytes = none) ∧
    (∃ (s : State) (f : RxFrame) (l : List RxFrame) (a : App), s.ppl.gooseIn = f :: l ∧ readApp f.bytes = some a) ∧
    (∃ (s : State), s.wf = true ∧ s.tim.carried = false) :=
  ⟨⟨({ tw [(TRP_CFG.ENABLE, 0, 0, 1), (TRP_PUBp_CFG.ENABLE, 0, 0, 1)] with trp.pubs := [(0, { running := true, next := 7 })] }), 0, by decide +kernel⟩,
   ⟨0, by decide +kernel⟩,
   ⟨0, by decide +kernel⟩,
   ⟨((tw [(RMA_TWIN_STATUS.ROLE, 0, 0, 3)]).setBitAt RMA_TWIN_TERMk.GATE 255 true), 7, 31, by decide +kernel⟩,
   ⟨(State.reset.setTerm 0 1), 0, 0, by decide +kernel⟩,
   ⟨State.reset, by decide +kernel⟩,
   ⟨({ State.reset with ppl.gooseIn := ({ bytes := beBytes 6 0x010CCD040000 ++ beBytes 6 0x020000000001 ++ beBytes 2 0x88B8 ++ List.replicate 60 0#8 } : RxFrame) :: ([] : List RxFrame) }), ({ bytes := beBytes 6 0x010CCD040000 ++ beBytes 6 0x020000000001 ++ beBytes 2 0x88B8 ++ List.replicate 60 0#8 } : RxFrame), ([] : List RxFrame), by decide +kernel⟩,
   ⟨({ State.reset with ppl.gooseIn := ({ bytes := beBytes 6 0x010CCD040000 ++ beBytes 6 0x020000000001 ++ beBytes 2 0x88B8 ++ List.replicate 60 0#8 } : RxFrame) :: ([] : List RxFrame) }), ({ bytes := beBytes 6 0x010CCD040000 ++ beBytes 6 0x020000000001 ++ beBytes 2 0x88B8 ++ List.replicate 60 0#8 } : RxFrame), ([] : List RxFrame), by decide +kernel⟩,
   ⟨({ State.reset with ppl.gooseIn := ({ bytes := beBytes 6 0x010CCD040000 ++ beBytes 6 0x020000000001 ++ beBytes 2 0x88B8 ++ [0#8, 1#8, 0#8, 10#8, 0#8, 0#8, 0#8, 0#8, 0x61#8, 0#8] } : RxFrame) :: ([] : List RxFrame) }), ({ bytes := beBytes 6 0x010CCD040000 ++ beBytes 6 0x020000000001 ++ beBytes 2 0x88B8 ++ [0#8, 1#8, 0#8, 10#8, 0#8, 0#8, 0#8, 0#8, 0x61#8, 0#8] } : RxFrame), ([] : List RxFrame), ({ appid := 1, length := 10, all := [0#8, 1#8, 0#8, 10#8, 0#8, 0#8, 0#8, 0#8, 0x61#8, 0#8], tag := 0x61 } : App), by decide +kernel⟩,
   ⟨State.reset, by decide +kernel⟩⟩

/-- States that meet the hypotheses of PortLinkCommands, clause by clause. -/
theorem witness_PortLinkCommands :
    (∃ (s : State) (n : Nat), s.wf = true ∧ n < 40 ∧ s.lstate n = 1 ∧ s.negotiates n = true) ∧
    (∃ (s : State) (n : Nat), s.wf = true ∧ n < 40 ∧ s.lstate n = 1 ∧ s.negotiates n = false) ∧
    (∃ (s : State) (n : Nat), s.wf = true ∧ n < 40 ∧ s.lstate n = 2) ∧
    (∃ (s : State) (n : Nat), s.wf = true ∧ n < 40 ∧ s.lstate n = 2) ∧
    (∃ (s : State) (n : Nat) (cause : Nat), s.wf = true ∧ n < 40 ∧ (s.lstate n = 3 ∧ (cause = 0 ∨ cause = 2 ∨ (cause = 1 ∧ n < 24 ∧ s.rd FPT_PORTn_CFG.MODE n = 5)) ∨ (s.lstate n = 2 ∧ cause = 0))) ∧
    (∃ (s : State) (n : Nat), s.wf = true ∧ n < 24 ∧ s.lstate n = 4) ∧
    (∃ (s : State) (n : Nat), 24 ≤ n ∧ n < 40 ∧ s.lstate n = 4) ∧
    (∃ (n : Nat), n < 40) ∧
    (∃ (s : State) (p : Nat) (mac : Nat), s.wf = true ∧ p < 12 ∧ (tabGet (s.pair p).dd mac).used = true) ∧
    (∃ (s : State) (p : Nat), s.wf = true ∧ p < 12 ∧ s.pairMode p ≠ 0 ∧ s.on FPT_PAIRp_SUP.INTERVAL_MS p = true) ∧
    (∃ (s : State) (p : Nat), s.wf = true ∧ p < 12 ∧ (s.lstate (2 * p) ≠ 0 ∨ s.lstate (2 * p + 1) ≠ 0)) ∧
    (∃ (s : State) (m : Nat), s.wf = true ∧ m < 4 ∧ s.on FPT_XPORTm_CFG.SPLIT m = false ∧ s.lstate (24 + 4 * m) ≠ 0 ∧ s.lstate (24 + 4 * m) ≠ 4) ∧
    (∃ (s : State) (m : Nat), m < 4 ∧ s.on FPT_XPORTm_CFG.SPLIT m = true ∧ s.wf = true) ∧
    (∃ (s : State) (m : Nat), s.wf = true ∧ m < 4 ∧ s.on FPT_XPORTm_CFG.SPLIT m = false ∧ s.lstate (24 + 4 * m) ≠ 0 ∧ (s.xport m).x1 = true) ∧
    (∃ (s : State) (m : Nat), s.wf = true ∧ m < 4 ∧ s.on FPT_XPORTm_CFG.SPLIT m = false ∧ s.lstate (24 + 4 * m) ≠ 0 ∧ (s.xport m).x1 = true) ∧
    (∃ (s : State) (m : Nat) (lane : Nat), s.wf = true ∧ m < 4 ∧ lane < 4 ∧ s.rd FPT_XPORTm_STATUS.LANE_OK m = 15 ∧ s.lstate (24 + 4 * m) = 3 ∧ s.on FPT_XPORTm_CFG.SPLIT m = false ∧ (s.xport m).x1 = false ∧ s.on FPT_XPORTm_CFG.AUTO_DEGRADE m = true) ∧
    (∃ (s : State) (m : Nat) (lane : Nat), s.wf = true ∧ m < 4 ∧ lane < 4 ∧ s.on FPT_XPORTm_CFG.AUTO_DEGRADE m = false) ∧
    (∃ (s : State) (m : Nat), s.wf = true ∧ m < 4 ∧ (s.xport m).tryLane ≠ 0 ∧ s.portUp (24 + 4 * m) = false) ∧
    (∃ (s : State) (p : Nat), s.wf = true ∧ p < 12 ∧ s.lstate (2 * p) = 0 ∧ s.lstate (2 * p + 1) = 0) ∧
    (∃ (s : State) (m : Nat), s.wf = true ∧ m < 4 ∧ s.on FPT_XPORTm_CFG.SPLIT m = false ∧ s.lstate (24 + 4 * m) = 4) :=
  ⟨⟨({ tw [(FPT_PORTn_STATUS.LSTATE, 23, 0, 1), (FPT_PORTn_CFG.AN, 23, 0, 1), (FPT_PORTn_CFG.MODE, 23, 0, 2)] with tick := 9 }), 23, by decide +kernel⟩,
   ⟨({ State.reset with fpt.ports := [(39, { xstate := 1 })] }), 39, by decide +kernel⟩,
   ⟨(tw [(FPT_PORTn_STATUS.LSTATE, 23, 0, 2)]), 23, by decide +kernel⟩,
   ⟨({ State.reset with fpt.ports := [(39, { xstate := 2 })] }), 39, by decide +kernel⟩,
   ⟨(tw [(FPT_PORTn_STATUS.LSTATE, 0, 0, 3), (FPT_PORTn_CFG.MODE, 0, 0, 5)]), 0, 1, by decide +kernel⟩,
   ⟨(tw [(FPT_PORTn_STATUS.LSTATE, 23, 0, 4)]), 23, by decide +kernel⟩,
   ⟨({ State.reset with fpt.ports := [(24, { xstate := 4 })] }), 24, by decide +kernel⟩,
   ⟨0, by decide +kernel⟩,
   ⟨({ State.reset with fpt.pairs := [(11, { dd := [(0, { used := true })] })] }), 11, 0, by decide +kernel⟩,
   ⟨(tw [(FPT_PAIRp_SUP.INTERVAL_MS, 11, 0, 1), (FPT_PAIRp_CFG.MODE, 11, 0, 1), (FPT_PAIRp_SUP.INTERVAL_MS, 11, 0, 2000)]), 11, by decide +kernel⟩,
   ⟨(tw [(FPT_PORTn_STATUS.LSTATE, 22, 0, 3)]), 11, by decide +kernel⟩,
   ⟨({ tw [(FPT_XPORTm_CFG.SPLIT, 3, 0, 0)] with fpt.ports := [(36, { xstate := 3 })] }), 3, by decide +kernel⟩,
   ⟨(tw [(FPT_XPORTm_CFG.SPLIT, 3, 0, 1)]), 3, by decide +kernel⟩,
   ⟨({ tw [(FPT_XPORTm_CFG.SPLIT, 3, 0, 0)] with fpt.ports := [(36, { xstate := 3 })], fpt.xports := [(3, { x1 := true })] }), 3, by decide +kernel⟩,
   ⟨({ tw [(FPT_XPORTm_CFG.SPLIT, 0, 0, 0)] with fpt.ports := [(24, { xstate := 3 })], fpt.xports := [(0, { x1 := true })] }), 0, by decide +kernel⟩,
   ⟨({ tw [(FPT_XPORTm_STATUS.LANE_OK, 0, 0, 15), (FPT_XPORTm_CFG.SPLIT, 0, 0, 0), (FPT_XPORTm_CFG.AUTO_DEGRADE, 0, 0, 1)] with fpt.ports := [(24, { xstate := 3 })] }), 0, 0, by decide +kernel⟩,
   ⟨(tw [(FPT_XPORTm_CFG.AUTO_DEGRADE, 3, 0, 0)]), 3, 3, by decide +kernel⟩,
   ⟨({ State.reset with fpt.xports := [(0, { tryLane := 1, x1 := true })] }), 0, by decide +kernel⟩,
   ⟨State.reset, 11, by decide +kernel⟩,
   ⟨({ tw [(FPT_XPORTm_CFG.SPLIT, 3, 0, 0)] with fpt.ports := [(36, { xstate := 4 })] }), 3, by decide +kernel⟩⟩

/-- States that meet the hypotheses of BypassCommands, clause by clause. -/
theorem witness_BypassCommands :
    (∃ (p : Nat), p < 12) ∧
    (∃ (s : State) (p : Nat), s.wf = true ∧ p < 12 ∧ s.on FPT_PAIRp_KEEPER.TIMEOUT_MS p = true ∧ (s.pair p).keeperExpired = false) ∧
    (∃ (s : State) (p : Nat), s.wf = true ∧ p < 12 ∧ s.rd FPT_PAIRp_STATUS.BSTATE p = 1) ∧
    (∃ (s : State) (p : Nat) (t0 : Nat), s.wf = true ∧ (s.pair p).retryFrom = some t0) ∧
    (∃ (s : State) (p : Nat), s.wf = true ∧ p < 12 ∧ s.rd FPT_PAIRp_STATUS.BSTATE p = 2) ∧
    (∃ (s : State) (p : Nat), s.wf = true ∧ p < 12 ∧ s.rd FPT_PAIRp_STATUS.BSTATE p = 3 ∧ s.portUp (2 * p) = true ∧ s.portUp (2 * p + 1) = true) ∧
    (∃ (s : State) (p : Nat), s.wf = true ∧ p < 12 ∧ s.rd FPT_PAIRp_STATUS.BSTATE p = 3 ∧ (s.portUp (2 * p) && s.portUp (2 * p + 1)) = false ∧ (s.pair p).fails < 2) ∧
    (∃ (s : State) (p : Nat), s.wf = true ∧ p < 12 ∧ s.rd FPT_PAIRp_STATUS.BSTATE p = 3 ∧ (s.portUp (2 * p) && s.portUp (2 * p + 1)) = false ∧ 2 ≤ (s.pair p).fails) ∧
    (∃ (s : State) (p : Nat), s.wf = true ∧ p < 12) ∧
    (∃ (s : State) (p : Nat), s.wf = true ∧ p < 12 ∧ s.rd FPT_PAIRp_STATUS.BSTATE p = 5) :=
  ⟨⟨0, by decide +kernel⟩,
   ⟨(tw [(FPT_PAIRp_KEEPER.TIMEOUT_MS, 11, 0, 1)]), 11, by decide +kernel⟩,
   ⟨(tw [(FPT_PAIRp_STATUS.BSTATE, 11, 0, 1)]), 11, by decide +kernel⟩,
   ⟨({ State.reset with fpt.pairs := [(0, { retryFrom := some 0 })] }), 0, 0, by decide +kernel⟩,
   ⟨(tw [(FPT_PAIRp_STATUS.BSTATE, 11, 0, 2)]), 11, by decide +kernel⟩,
   ⟨(tw [(FPT_PAIRp_STATUS.BSTATE, 0, 0, 3), (FPT_PORTn_STATUS.LSTATE, 0, 0, 3), (FPT_PORTn_STATUS.LSTATE, 1, 0, 3)]), 0, by decide +kernel⟩,
   ⟨(tw [(FPT_PAIRp_STATUS.BSTATE, 0, 0, 3)]), 0, by decide +kernel⟩,
   ⟨({ tw [(FPT_PAIRp_STATUS.BSTATE, 0, 0, 3)] with fpt.pairs := [(0, { fails := 2 })] }), 0, by decide +kernel⟩,
   ⟨State.reset, 0, by decide +kernel⟩,
   ⟨(tw [(FPT_PAIRp_STATUS.BSTATE, 0, 0, 5)]), 0, by decide +kernel⟩⟩

/-- States that meet the hypotheses of FrameCommands, clause by clause. -/
theorem witness_FrameCommands :
    (∃ (s : State) (n : Nat) (a : Nat) (b : Nat), (40 ≤ n ∨ (s.portUp n = false ∧ ((s.port n).cutTick ≤ a ∨ b < (s.port n).cutTick)))) ∧
    (∃ (s : State) (n : Nat) (a : Nat) (b : Nat) (x : List Byte) (m : RxMarks), s.wf = true ∧ n < 24 ∧ s.portUp n = true ∧ s.pairMode (n / 2) < 2 ∧ ((s.port n).cutTick ≤ a ∨ b < (s.port n).cutTick) ∧ wireLen x ≤ s.maxFrame n ∧ m.fcsOk = false) ∧
    (∃ (s : State) (n : Nat) (a : Nat) (b : Nat) (x : List Byte), s.wf = true ∧ n < 24 ∧ s.portUp n = true ∧ ((s.port n).cutTick ≤ a ∨ b < (s.port n).cutTick) ∧ s.maxFrame n < wireLen x) ∧
    (∃ (s : State) (n : Nat) (a : Nat) (b : Nat) (x : List Byte) (m : RxMarks), s.wf = true ∧ n < 40 ∧ s.portUp n = true ∧ wireLen x ≤ s.maxFrame n ∧ ((s.port n).cutTick ≤ a ∨ b < (s.port n).cutTick) ∧ m.fcsOk = true) ∧
    (∃ (s : State) (n : Nat) (a : Nat) (b : Nat), s.wf = true ∧ n < 40 ∧ a < (s.port n).cutTick ∧ (s.port n).cutTick ≤ b) ∧
    (∃ (s : State) (n : Nat) (a : Nat) (b : Nat) (x : List Byte) (m : RxMarks), n < 24 ∧ s.portUp n = true ∧ 2 ≤ s.pairMode (n / 2) ∧ ((s.port n).cutTick ≤ a ∨ b < (s.port n).cutTick) ∧ wireLen x ≤ s.maxFrame n ∧ m.fcsOk = false) ∧
    (∃ (s : State) (n : Nat) (c : Nat), 24 ≤ n ∧ n < 40 ∧ c < 8 ∧ (tabGet s.fpt.pfc (8 * n + c)).paused = true) ∧
    (∃ (s : State) (n : Nat) (c : Nat), s.wf = true ∧ 24 ≤ n ∧ n < 40 ∧ c < 8 ∧ (tabGet s.fpt.pfc (8 * n + c)).paused = true ∧ (tabGet s.fpt.pfc (8 * n + c)).discard = false ∧ s.rd FPT_XPORTm_PFC_WD.WD_MS ((n - 24) / 4) ≠ 0 ∧ (tabGet s.fpt.pfc (8 * n + c)).since + 1000000 * s.rd FPT_XPORTm_PFC_WD.WD_MS ((n - 24) / 4) ≤ (tabGet s.fpt.pfc (8 * n + c)).until_) :=
  ⟨⟨State.reset, 40, 0, 0, by decide +kernel⟩,
   ⟨(tw [(FPT_PORTn_STATUS.LSTATE, 23, 0, 3), (FPT_PORTn_CFG.MAX_FRAME, 23, 0, 1522)]), 23, 0, 0, (beBytes 6 0x010CCD040000 ++ beBytes 6 0x020000000001 ++ beBytes 2 0x0800 ++ List.replicate 60 0#8 : List Byte), ({ dribble := true, symbol := true } : RxMarks), by decide +kernel⟩,
   ⟨(tw [(FPT_PORTn_STATUS.LSTATE, 0, 0, 3)]), 0, 0, 0, (List.replicate 3000 0#8 : List Byte), by decide +kernel⟩,
   ⟨({ State.reset with fpt.ports := [(39, { xstate := 3 })] }), 39, 100, 600, (beBytes 6 0x010CCD040000 ++ beBytes 6 0x020000000001 ++ beBytes 2 0x0800 ++ List.replicate 60 0#8 : List Byte), ({ fcsOk := true } : RxMarks), by decide +kernel⟩,
   ⟨({ State.reset with fpt.ports := [(39, { cutTick := 300 })] }), 39, 100, 600, by decide +kernel⟩,
   ⟨(tw [(FPT_PORTn_STATUS.LSTATE, 0, 0, 3), (FPT_PORTn_CFG.MAX_FRAME, 0, 0, 1522), (FPT_PAIRp_CFG.MODE, 0, 0, 2)]), 0, 100, 600, (beBytes 6 0x010CCD040000 ++ beBytes 6 0x020000000001 ++ beBytes 2 0x0800 ++ List.replicate 60 0#8 : List Byte), ({} : RxMarks), by decide +kernel⟩,
   ⟨({ State.reset with fpt.pfc := [(192, { paused := true, until_ := 5 })] }), 24, 0, by decide +kernel⟩,
   ⟨({ tw [(FPT_XPORTm_PFC_WD.WD_MS, ((24 - 24) / 4), 0, 1), (FPT_XPORTm_PFC_WD.WD_MS, 0, 0, 1)] with fpt.pfc := [(199, { paused := true, until_ := 1000000 })] }), 24, 7, by decide +kernel⟩⟩

/-- States that meet the hypotheses of LimiterCommands, clause by clause. -/
theorem witness_LimiterCommands :
    (∃ (s : State) (r : Nat) (val : Word), s.wf = true ∧ r < 8 ∧ ((val.toNat + 2 ^ 32 - s.rd PPL_TRAPr_PROD.PROD r) % 2 ^ 32 = 0 ∨ 2 ^ 31 ≤ (val.toNat + 2 ^ 32 - s.rd PPL_TRAPr_PROD.PROD r) % 2 ^ 32)) ∧
    (∃ (s : State) (r : Nat) (val : Word), s.wf = true ∧ r < 8 ∧ (val.toNat + 2 ^ 32 - s.rd PPL_TRAPr_PROD.PROD r) % 2 ^ 32 ≠ 0 ∧ (val.toNat + 2 ^ 32 - s.rd PPL_TRAPr_PROD.PROD r) % 2 ^ 32 < 2 ^ 31) :=
  ⟨⟨State.reset, 0, (0#32 : Word), by decide +kernel⟩,
   ⟨State.reset, 0, (1#32 : Word), by decide +kernel⟩⟩

/-- States that meet the hypotheses of LearnAndAge, clause by clause. -/
theorem witness_LearnAndAge :
    (∃ (s : State) (r : LearnReq) (l : List LearnReq), s.fwt.learn = r :: l) ∧
    (∃ (s : State) (r : LearnReq) (l : List LearnReq) (u : State) (i : Nat), s.fwt.cmd = none ∧ s.wf = true ∧ s.fwt.learn = r :: l ∧ u = (State.fwtLookup { s with fwt := { s.fwt with learn := l } } 0 false (l2Key r.vid r.mac)).1 ∧ (State.fwtLookup { s with fwt := { s.fwt with learn := l } } 0 false (l2Key r.vid r.mac)).2.1 = some i) ∧
    (∃ (s : State) (r : LearnReq) (l : List LearnReq) (u : State), s.fwt.cmd = none ∧ s.fwt.learn = r :: l ∧ u = (State.fwtLookup { s with fwt := { s.fwt with learn := l } } 0 false (l2Key r.vid r.mac)).1 ∧ (State.fwtLookup { s with fwt := { s.fwt with learn := l } } 0 false (l2Key r.vid r.mac)).2.1 = none) ∧
    (∃ (s : State), s.rd FWT_CFG.AGE_S ≠ 0) ∧
    (∃ (s : State), s.rd FWT_CFG.AGE_S = 0) ∧
    (∃ (s : State) (r : LearnReq) (l : List LearnReq) (op : Nat) (b : Nat) (v : Nat) (k : Nat), s.fwt.learn = r :: l ∧ s.fwt.cmd = some (op, b, v, k)) :=
  ⟨⟨({ State.reset with fwt.learn := [({} : LearnReq)] }), ({} : LearnReq), ([] : List LearnReq), by decide +kernel⟩,
   ⟨({ LEARNT with fwt.learn := [({ vid := 1, mac := 2, port := 3 } : LearnReq)] }), ({ vid := 1, mac := 2, port := 3 } : LearnReq), ([] : List LearnReq), ((State.fwtLookup { ({ LEARNT with fwt.learn := [({ vid := 1, mac := 2, port := 3 } : LearnReq)] }) with fwt := { ({ LEARNT with fwt.learn := [({ vid := 1, mac := 2, port := 3 } : LearnReq)] }).fwt with learn := ([] : List LearnReq) } } 0 false (l2Key ({ vid := 1, mac := 2, port := 3 } : LearnReq).vid ({ vid := 1, mac := 2, port := 3 } : LearnReq).mac)).1), ((State.fwtLookup ({ LEARNT with fwt.learn := [({ vid := 1, mac := 2, port := 3 } : LearnReq)] }) 0 false (l2Key 1 2)).2.1.getD 0 : Nat), by decide +kernel⟩,
   ⟨({ State.reset with fwt.learn := [({ vid := 1, mac := 2, port := 3 } : LearnReq)] }), ({ vid := 1, mac := 2, port := 3 } : LearnReq), ([] : List LearnReq), ((State.fwtLookup { ({ State.reset with fwt.learn := [({ vid := 1, mac := 2, port := 3 } : LearnReq)] }) with fwt := { ({ State.reset with fwt.learn := [({ vid := 1, mac := 2, port := 3 } : LearnReq)] }).fwt with learn := ([] : List LearnReq) } } 0 false (l2Key ({ vid := 1, mac := 2, port := 3 } : LearnReq).vid ({ vid := 1, mac := 2, port := 3 } : LearnReq).mac)).1), by decide +kernel⟩,
   ⟨(tw [(FWT_CFG.AGE_S, 0, 0, 300)]), by decide +kernel⟩,
   ⟨(tw [(FWT_CFG.AGE_S, 0, 0, 0)]), by decide +kernel⟩,
   ⟨({ State.reset with fwt.learn := [({} : LearnReq)], fwt.cmd := some (2, 0, 0, 1) }), ({} : LearnReq), ([] : List LearnReq), 2, 0, 0, 1, by decide +kernel⟩⟩

/-- States that meet the hypotheses of TableCommands, clause by clause. -/
theorem witness_TableCommands :
    (∃ (s : State) (k : Nat) (b : Nat), s.on FWT_Tt_CMD_STATUS.BUSY k = false ∧ (k = 0 → s.fwt.learn = []) ∧ s.wf = true ∧ k < 3 ∧ s.bankShut k b = true) ∧
    (∃ (s : State) (k : Nat) (b : Nat), s.on FWT_Tt_CMD_STATUS.BUSY k = false ∧ (k = 0 → s.fwt.learn = []) ∧ s.wf = true ∧ k < 3 ∧ s.bankShut k b = false ∧ imageBad k (s.cmdImage k) = true) ∧
    (∃ (s : State) (k : Nat) (b : Nat), s.on FWT_Tt_CMD_STATUS.BUSY k = false ∧ (k = 0 → s.fwt.learn = []) ∧ k < 3 ∧ s.bankShut k b = false ∧ imageBad k (s.cmdImage k) = false) ∧
    (∃ (s : State) (k : Nat) (b : Nat), s.on FWT_Tt_CMD_STATUS.BUSY k = false ∧ (k = 0 → s.fwt.learn = []) ∧ k < 3 ∧ s.bankShut k b = false) ∧
    (∃ (s : State) (k : Nat) (b : Nat) (u : State) (i : Nat), s.on FWT_Tt_CMD_STATUS.BUSY k = false ∧ (k = 0 → s.fwt.learn = []) ∧ s.wf = true ∧ k < 3 ∧ s.bankShut k b = false ∧ u = (s.fwtLookup k (b != 0) (fwtKey k (s.cmdImage k))).1 ∧ (s.fwtLookup k (b != 0) (fwtKey k (s.cmdImage k))).2.1 = some i) ∧
    (∃ (s : State) (k : Nat) (b : Nat), s.on FWT_Tt_CMD_STATUS.BUSY k = false ∧ (k = 0 → s.fwt.learn = []) ∧ s.wf = true ∧ k < 3 ∧ s.bankShut k b = false ∧ (s.fwtLookup k (b != 0) (fwtKey k (s.cmdImage k))).2.1 = none) ∧
    (∃ (s : State) (k : Nat), s.wf = true ∧ k < 3) ∧
    (∃ (s : State) (k : Nat), s.wf = true ∧ k < 3 ∧ s.rd FWT_Tt_SH_SEED0.SEED k ≠ s.rd FWT_Tt_SH_SEED1.SEED k) ∧
    (∃ (s : State) (k : Nat), k < 3 ∧ s.rd FWT_Tt_SH_SEED0.SEED k = s.rd FWT_Tt_SH_SEED1.SEED k) ∧
    (∃ (s : State) (k : Nat), s.wf = true ∧ k < 3 ∧ s.on FWT_Tt_STATUS.CLEARING k = true) ∧
    (∃ (s : State) (k : Nat), s.wf = true ∧ k < 3 ∧ s.on FWT_Tt_STATUS.REBUILD_OPEN k = true ∧ s.on FWT_Tt_STATUS.CLEARING k = false) ∧
    (∃ (s : State) (k : Nat), k < 3 ∧ (s.on FWT_Tt_STATUS.REBUILD_OPEN k = false ∨ s.on FWT_Tt_STATUS.CLEARING k = true)) ∧
    (∃ (s : State) (k : Nat), s.wf = true ∧ k < 3) ∧
    (∃ (s : State) (k : Nat), k < 3 ∧ s.on FWT_Tt_CMD_STATUS.BUSY k = true) ∧
    (∃ (s : State) (b : Nat) (op : Nat) (c : Instr), s.wf = true ∧ s.on FWT_Tt_CMD_STATUS.BUSY 0 = false ∧ s.fwt.learn ≠ [] ∧ (op = 1 ∧ c = .fwtCmdInsert 0 b ∨ op = 2 ∧ c = .fwtCmdDelete 0 b ∨ op = 3 ∧ c = .fwtCmdLookup 0 b)) :=
  ⟨⟨(tw [(FWT_Tt_CMD_STATUS.BUSY, 0, 0, 0)]), 0, 1, by decide +kernel⟩,
   ⟨(tw [(FWT_Tt_CMD_STATUS.BUSY, 0, 0, 0)]), 0, 0, by decide +kernel⟩,
   ⟨CMDIMG, 0, 0, by decide +kernel⟩,
   ⟨(tw [(FWT_Tt_CMD_STATUS.BUSY, 0, 0, 0)]), 0, 0, by decide +kernel⟩,
   ⟨LEARNT, 0, 0, ((LEARNT.fwtLookup 0 (0 != 0) (fwtKey 0 (LEARNT.cmdImage 0))).1), ((LEARNT.fwtLookup 0 (0 != 0) (fwtKey 0 (LEARNT.cmdImage 0))).2.1.getD 0 : Nat), by decide +kernel⟩,
   ⟨(tw [(FWT_Tt_CMD_STATUS.BUSY, 0, 0, 0)]), 0, 0, by decide +kernel⟩,
   ⟨State.reset, 0, by decide +kernel⟩,
   ⟨(tw [(FWT_Tt_SH_SEED0.SEED, 0, 0, 1), (FWT_Tt_SH_SEED1.SEED, 0, 0, 2)]), 0, by decide +kernel⟩,
   ⟨(tw [(FWT_Tt_SH_SEED0.SEED, 0, 0, 1), (FWT_Tt_SH_SEED1.SEED, 0, 0, 1)]), 0, by decide +kernel⟩,
   ⟨(tw [(FWT_Tt_STATUS.CLEARING, 0, 0, 1)]), 0, by decide +kernel⟩,
   ⟨(tw [(FWT_Tt_STATUS.REBUILD_OPEN, 0, 0, 1), (FWT_Tt_STATUS.CLEARING, 0, 0, 0)]), 0, by decide +kernel⟩,
   ⟨State.reset, 0, by decide +kernel⟩,
   ⟨State.reset, 0, by decide +kernel⟩,
   ⟨(tw [(FWT_Tt_CMD_STATUS.BUSY, 2, 0, 1)]), 2, by decide +kernel⟩,
   ⟨({ tw [(FWT_Tt_CMD_STATUS.BUSY, 0, 0, 0)] with fwt.learn := [{}] }), 1, 3, (.fwtCmdLookup 0 1 : Instr), by decide +kernel⟩⟩

/-- States that meet the hypotheses of LinkTransport, clause by clause. -/
theorem witness_LinkTransport :
    (∃ (s : State) (f : RxFrame) (l : List RxFrame), s.ppl.rmaIn = f :: l ∧ etherType f.bytes ≠ 0x88B6) ∧
    (∃ (s : State) (q : Nat), (s.qp q).ackFrom ≠ 0 ∧ (s.slotOf q).isSome = true) ∧
    (∃ (s : State) (q : Nat), (s.qp q).timerFrom ≠ 0 ∧ ctxTimeout.get (s.ctx q) ≠ 0 ∧ ctxState.get (s.ctx q) = 3) ∧
    (∃ (s : State) (q : Nat), (s.qp q).rnrUntil ≠ 0) ∧
    (∃ (s : State) (q : Nat), s.wf = true ∧ (s.slotOf q).isSome = true ∧ (s.qp q).rateFrom ≠ 0) ∧
    (∃ (s : State) (q : Nat) (m : Nat), (∃ x ∈ s.openNaks q, x.2 = m) ∧ (∀ x ∈ s.openNaks q, m ≤ x.2)) ∧
    (∃ (s : State) (h : HeldPkt) (l : List HeldPkt) (w : Nat), s.wf = true ∧ s.rma.held.filter (fun h => h.psn == 0) = h :: l ∧ w = 1000 * (if s.rd RMA_MISS.MISS_TO = 0 then 1000 else s.rd RMA_MISS.MISS_TO)) ∧
    (∃ (s : State) (x : Nat) (i : Nat), x < 65536 ∧ s.slotBound x = some i ∧ (tabGet s.rma.slots i).st = 1 ∧ (s.takeArrived (.context x)).2.any (fun a => a.err != 0) = true) ∧
    (∃ (s : State) (x : Nat) (i : Nat), x < 65536 ∧ s.slotBound x = some i ∧ (tabGet s.rma.slots i).st = 1 ∧ (s.takeArrived (.context x)).2.any (fun a => a.err != 0) = false ∧ 256 ≤ (arrivedBytes (s.takeArrived (.context x)).2).length) ∧
    (∃ (s : State) (r : Nat), (s.region r).st = 1 ∧ (s.takeArrived (.context (65536 + r))).2.any (fun a => a.err != 0) = true) ∧
    (∃ (s : State) (r : Nat) (b : List Byte), (s.region r).st = 1 ∧ (s.takeArrived (.context (65536 + r))).2.any (fun a => a.err != 0) = false ∧ b = arrivedBytes (s.takeArrived (.context (65536 + r))).2 ∧ 32 ≤ b.length) ∧
    (∃ (s : State) (i : Nat), (tabGet s.rma.slots i).st = 3) ∧
    (∃ (s : State) (i : Nat), (tabGet s.rma.slots i).st = 3 ∧ (s.rma.held.any (fun h => h.qp == (tabGet s.rma.slots i).qp) = true ∨ s.qpWaits (tabGet s.rma.slots i).qp = true)) ∧
    (∃ (s : State) (i : Nat), (tabGet s.rma.slots i).st = 3 ∧ s.rma.held.any (fun h => h.qp == (tabGet s.rma.slots i).qp) = false ∧ s.qpWaits (tabGet s.rma.slots i).qp = false) :=
  ⟨⟨({ State.reset with ppl.rmaIn := ({ bytes := beBytes 6 0x010CCD040000 ++ beBytes 6 0x020000000001 ++ beBytes 2 0x0800 ++ List.replicate 60 0#8 } : RxFrame) :: ([] : List RxFrame) }), ({ bytes := beBytes 6 0x010CCD040000 ++ beBytes 6 0x020000000001 ++ beBytes 2 0x0800 ++ List.replicate 60 0#8 } : RxFrame), ([] : List RxFrame), by decide +kernel⟩,
   ⟨({ State.reset with rma.slots := [(0, { st := 2, qp := 5 })], rma.qps := [(5, { ackFrom := 1 })] }), 5, by decide +kernel⟩,
   ⟨({ ((State.reset).setWinNat 11 false 0 64 (ctxTimeout.set (ctxState.set 0 3) 1)) with rma.slots := [(0, { st := 2, qp := 5 })], rma.qps := [(5, { timerFrom := 1 })] }), 5, by decide +kernel⟩,
   ⟨({ State.reset with rma.slots := [(0, { st := 2, qp := 5 })], rma.qps := [(5, { rnrUntil := 9 })] }), 5, by decide +kernel⟩,
   ⟨({ State.reset with rma.slots := [(0, { st := 2, qp := 5 })], rma.qps := [(5, { rateFrom := 1 })] }), 5, by decide +kernel⟩,
   ⟨({ ((State.reset).setWinNat 11 false 0 64 0) with rma.qps := [(5, { naks := [(0, 7)] })], rma.held := [{ qp := 5, psn := 2 }] }), 5, 7, by decide +kernel⟩,
   ⟨({ State.reset with rma.held := [({ qp := 5 } : HeldPkt)] }), ({ qp := 5 } : HeldPkt), ([] : List HeldPkt), 1000000, by decide +kernel⟩,
   ⟨({ State.reset with rma.slots := [(0, { st := 1, qp := 5 })], hif.arrived := [{ why := .context 5, err := 1 }] }), 5, 0, by decide +kernel⟩,
   ⟨({ State.reset with rma.slots := [(0, { st := 1, qp := 5 })], hif.arrived := [{ why := .context 5, bytes := List.replicate 256 1#8 }] }), 5, 0, by decide +kernel⟩,
   ⟨({ State.reset with rma.regs := [(5, { st := 1 })], hif.arrived := [{ why := .context 65541, err := 1 }] }), 5, by decide +kernel⟩,
   ⟨({ State.reset with rma.regs := [(5, { st := 1 })], hif.arrived := [{ why := .context 65541, bytes := (List.replicate 32 1#8 : List Byte) }] }), 5, (List.replicate 32 1#8 : List Byte), by decide +kernel⟩,
   ⟨({ State.reset with rma.slots := [(4095, { st := 3, qp := 5 })] }), 4095, by decide +kernel⟩,
   ⟨({ State.reset with rma.slots := [(4095, { st := 3, qp := 5 })], rma.held := [{ qp := 5 }] }), 4095, by decide +kernel⟩,
   ⟨({ State.reset with rma.slots := [(4095, { st := 3, qp := 5 })] }), 4095, by decide +kernel⟩⟩

/-- States that meet the hypotheses of QueuePairCommands, clause by clause. -/
theorem witness_QueuePairCommands :
    (∃ (s : State) (g : Nat) (j : Job), s.pfOf (s.rd QMG_RINGg_DESC.FN g) = 4 ∧ s.jobOf g 0x80 = some j ∧ 256 ≤ j.bytes.length ∧ s.qpNamable (s.rd QMG_RINGg_DESC.FN g) (bitsOf (qwAt j.qw 1) 0 16) = true ∧ tabGet s.rma.owner (bitsOf (qwAt j.qw 1) 0 16) = 0 ∧ s.on RMA_BS_CTRL.ENABLE = true ∧ ¬(ctxMode.get (leNat (j.bytes.take 256)) = 1 ∧ ctxEnc.get (leNat (j.bytes.take 256)) = 1)) ∧
    (∃ (s : State) (g : Nat) (j : Job), s.pfOf (s.rd QMG_RINGg_DESC.FN g) = 4 ∧ s.jobOf g 0x80 = some j ∧ 256 ≤ j.bytes.length ∧ (s.qpNamable (s.rd QMG_RINGg_DESC.FN g) (bitsOf (qwAt j.qw 1) 0 16) = false ∨ tabGet s.rma.owner (bitsOf (qwAt j.qw 1) 0 16) ≠ 0 ∨ s.on RMA_BS_CTRL.ENABLE = false)) ∧
    (∃ (s : State) (g : Nat) (j : Job) (q : Nat), s.pfOf (s.rd QMG_RINGg_DESC.FN g) = 4 ∧ s.jobOf g 0x81 = some j ∧ q = bitsOf (qwAt j.qw 1) 0 16 ∧ s.qpNamable (s.rd QMG_RINGg_DESC.FN g) q = true ∧ tabGet s.rma.owner q ≠ 0 ∧ (s.slotOf q).isSome = true ∧ 256 ≤ j.bytes.length) ∧
    (∃ (s : State) (g : Nat) (j : Job) (c : Instr), s.pfOf (s.rd QMG_RINGg_DESC.FN g) = 4 ∧ ((s.jobOf g 0x81 = some j ∧ c = .modifyQp g) ∨ (s.jobOf g 0x82 = some j ∧ c = .queryQp g) ∨ (s.jobOf g 0x83 = some j ∧ c = .destroyQp g)) ∧ s.qpNamable (s.rd QMG_RINGg_DESC.FN g) (bitsOf (qwAt j.qw 1) 0 16) = true ∧ tabGet s.rma.owner (bitsOf (qwAt j.qw 1) 0 16) ≠ 0 ∧ s.slotOf (bitsOf (qwAt j.qw 1) 0 16) = none) ∧
    (∃ (s : State) (g : Nat) (j : Job) (c : Instr), s.pfOf (s.rd QMG_RINGg_DESC.FN g) = 4 ∧ ((s.jobOf g 0x81 = some j ∧ c = .modifyQp g) ∨ (s.jobOf g 0x82 = some j ∧ c = .queryQp g) ∨ (s.jobOf g 0x83 = some j ∧ c = .destroyQp g)) ∧ (s.qpNamable (s.rd QMG_RINGg_DESC.FN g) (bitsOf (qwAt j.qw 1) 0 16) = false ∨ tabGet s.rma.owner (bitsOf (qwAt j.qw 1) 0 16) = 0)) ∧
    (∃ (s : State) (g : Nat) (j : Job) (q : Nat), s.pfOf (s.rd QMG_RINGg_DESC.FN g) = 4 ∧ s.jobOf g 0x82 = some j ∧ q = bitsOf (qwAt j.qw 1) 0 16 ∧ s.qpNamable (s.rd QMG_RINGg_DESC.FN g) q = true ∧ tabGet s.rma.owner q ≠ 0 ∧ (s.slotOf q).isSome = true) ∧
    (∃ (s : State) (g : Nat) (j : Job) (q : Nat), s.pfOf (s.rd QMG_RINGg_DESC.FN g) = 4 ∧ s.jobOf g 0x83 = some j ∧ q = bitsOf (qwAt j.qw 1) 0 16 ∧ s.qpNamable (s.rd QMG_RINGg_DESC.FN g) q = true ∧ tabGet s.rma.owner q ≠ 0 ∧ (s.slotOf q).isSome = true) ∧
    (∃ (s : State) (g : Nat) (j : Job) (r : Nat), s.pfOf (s.rd QMG_RINGg_DESC.FN g) = 4 ∧ s.jobOf g 0x84 = some j ∧ r = bitsOf (qwAt j.qw 1) 0 16 ∧ (tabGet s.rma.regOwner r = 0 ∨ tabGet s.rma.regOwner r = s.rd QMG_RINGg_DESC.FN g + 1)) ∧
    (∃ (s : State) (g : Nat) (j : Job) (r : Nat), s.pfOf (s.rd QMG_RINGg_DESC.FN g) = 4 ∧ s.jobOf g 0x84 = some j ∧ r = bitsOf (qwAt j.qw 1) 0 16 ∧ tabGet s.rma.regOwner r ≠ 0 ∧ tabGet s.rma.regOwner r ≠ s.rd QMG_RINGg_DESC.FN g + 1) ∧
    (∃ (s : State) (g : Nat) (j : Job) (r : Nat), s.pfOf (s.rd QMG_RINGg_DESC.FN g) = 4 ∧ s.jobOf g 0x85 = some j ∧ r = bitsOf (qwAt j.qw 1) 0 16 ∧ tabGet s.rma.regOwner r = s.rd QMG_RINGg_DESC.FN g + 1) ∧
    (∃ (s : State) (g : Nat) (j : Job) (r : Nat), s.pfOf (s.rd QMG_RINGg_DESC.FN g) = 4 ∧ s.jobOf g 0x85 = some j ∧ r = bitsOf (qwAt j.qw 1) 0 16 ∧ tabGet s.rma.regOwner r ≠ s.rd QMG_RINGg_DESC.FN g + 1) ∧
    (∃ (s : State) (g : Nat), s.pfOf (s.rd QMG_RINGg_DESC.FN g) = 4 ∧ s.rd QMG_RINGg_DESC.TYPE g = 1 ∧ (s.ring g).jobs.any (fun j => j.done.isNone && !j.posted) = true) ∧
    (∃ (s : State) (g : Nat), s.pfOf (s.rd QMG_RINGg_DESC.FN g) = 4 ∧ s.rd QMG_RINGg_DESC.TYPE g = 2) :=
  ⟨⟨({ tw [(QMG_RINGg_DESC.FN, 0, 0, 4), (RMA_BS_CTRL.ENABLE, 0, 0, 1)] with rings := [(0, { jobs := [({ qw := [0x80, 5, 0, 0, 0, 0, 0, 0], data := [(0, List.replicate 256 0#8)], frags := [] } : Job)] })] }), 0, ({ qw := [0x80, 5, 0, 0, 0, 0, 0, 0], data := [(0, List.replicate 256 0#8)], frags := [] } : Job), by decide +kernel⟩,
   ⟨({ tw [(QMG_RINGg_DESC.FN, 0, 0, 4)] with rings := [(0, { jobs := [({ qw := [0x80, 5, 0, 0, 0, 0, 0, 0], data := [(0, List.replicate 256 0#8)], frags := [] } : Job)] })] }), 0, ({ qw := [0x80, 5, 0, 0, 0, 0, 0, 0], data := [(0, List.replicate 256 0#8)], frags := [] } : Job), by decide +kernel⟩,
   ⟨({ tw [(QMG_RINGg_DESC.FN, 0, 0, 4)] with rings := [(0, { jobs := [({ qw := [0x81, 5 + 2 ^ 32, 0, 0, 0, 0, 0, 0], data := [(0, List.replicate 256 0#8)], frags := [] } : Job)] })], rma.owner := [(5, 5)], rma.slots := [(0, { st := 2, qp := 5 })] }), 0, ({ qw := [0x81, 5 + 2 ^ 32, 0, 0, 0, 0, 0, 0], data := [(0, List.replicate 256 0#8)], frags := [] } : Job), 5, by decide +kernel⟩,
   ⟨({ tw [(QMG_RINGg_DESC.FN, 0, 0, 4)] with rings := [(0, { jobs := [({ qw := [0x82, 5, 0, 0, 0, 0, 0, 0], data := [(0, [])], frags := [] } : Job)] })], rma.owner := [(5, 5)] }), 0, ({ qw := [0x82, 5, 0, 0, 0, 0, 0, 0], data := [(0, [])], frags := [] } : Job), (.queryQp 0 : Instr), by decide +kernel⟩,
   ⟨({ tw [(QMG_RINGg_DESC.FN, 0, 0, 4)] with rings := [(0, { jobs := [({ qw := [0x83, 5, 0, 0, 0, 0, 0, 0], data := [(0, [])], frags := [] } : Job)] })] }), 0, ({ qw := [0x83, 5, 0, 0, 0, 0, 0, 0], data := [(0, [])], frags := [] } : Job), (.destroyQp 0 : Instr), by decide +kernel⟩,
   ⟨({ tw [(QMG_RINGg_DESC.FN, 0, 0, 4)] with rings := [(0, { jobs := [({ qw := [0x82, 5, 0, 0, 0, 0, 0, 0], data := [(0, [])], frags := [(0, 256)] } : Job)] })], rma.owner := [(5, 5)], rma.slots := [(0, { st := 2, qp := 5 })] }), 0, ({ qw := [0x82, 5, 0, 0, 0, 0, 0, 0], data := [(0, [])], frags := [(0, 256)] } : Job), 5, by decide +kernel⟩,
   ⟨({ tw [(QMG_RINGg_DESC.FN, 0, 0, 4)] with rings := [(0, { jobs := [({ qw := [0x83, 5, 0, 0, 0, 0, 0, 0], data := [(0, [])], frags := [] } : Job)] })], rma.owner := [(5, 5)], rma.slots := [(0, { st := 2, qp := 5 })] }), 0, ({ qw := [0x83, 5, 0, 0, 0, 0, 0, 0], data := [(0, [])], frags := [] } : Job), 5, by decide +kernel⟩,
   ⟨({ tw [(QMG_RINGg_DESC.FN, 0, 0, 4)] with rings := [(0, { jobs := [({ qw := [0x84, 5, 0, 0, 0, 0, 0, 64], data := [(0, [])], frags := [] } : Job)] })] }), 0, ({ qw := [0x84, 5, 0, 0, 0, 0, 0, 64], data := [(0, [])], frags := [] } : Job), 5, by decide +kernel⟩,
   ⟨({ tw [(QMG_RINGg_DESC.FN, 0, 0, 4)] with rings := [(0, { jobs := [({ qw := [0x84, 5, 0, 0, 0, 0, 0, 0], data := [(0, [])], frags := [] } : Job)] })], rma.regOwner := [(5, 9)] }), 0, ({ qw := [0x84, 5, 0, 0, 0, 0, 0, 0], data := [(0, [])], frags := [] } : Job), 5, by decide +kernel⟩,
   ⟨({ tw [(QMG_RINGg_DESC.FN, 0, 0, 4)] with rings := [(0, { jobs := [({ qw := [0x85, 5, 0, 0, 0, 0, 0, 0], data := [(0, [])], frags := [] } : Job)] })], rma.regOwner := [(5, 5)] }), 0, ({ qw := [0x85, 5, 0, 0, 0, 0, 0, 0], data := [(0, [])], frags := [] } : Job), 5, by decide +kernel⟩,
   ⟨({ tw [(QMG_RINGg_DESC.FN, 0, 0, 4)] with rings := [(0, { jobs := [({ qw := [0x85, 5, 0, 0, 0, 0, 0, 0], data := [(0, [])], frags := [] } : Job)] })] }), 0, ({ qw := [0x85, 5, 0, 0, 0, 0, 0, 0], data := [(0, [])], frags := [] } : Job), 5, by decide +kernel⟩,
   ⟨({ tw [(QMG_RINGg_DESC.TYPE, 0, 0, 1), (QMG_RINGg_DESC.FN, 0, 0, 4), (QMG_RINGg_DESC.TYPE, 0, 0, 1)] with rings := [(0, { jobs := [{}], bind := 5 })], rma.owner := [(5, 5)], rma.slots := [(0, { st := 2, qp := 5 })] }), 0, by decide +kernel⟩,
   ⟨({ tw [(QMG_RINGg_DESC.TYPE, 0, 0, 2), (QMG_RINGg_DESC.FN, 0, 0, 4), (QMG_RINGg_DESC.TYPE, 0, 0, 2)] with rings := [(0, { jobs := [{ qw := [0x91] }], bind := 5 })] }), 0, by decide +kernel⟩⟩

/-- States that meet the hypotheses of TwinCommands, clause by clause. -/
theorem witness_TwinCommands :
    (∃ (s : State), s.rd RMA_TWIN_STATUS.ROLE ≠ 0) ∧
    (∃ (s : State) (f : RxFrame) (l : List RxFrame) (b : List Byte), s.wf = true ∧ s.ppl.rmaIn = f :: l ∧ etherType f.bytes = 0x88B6 ∧ s.rd RMA_TWIN_STATUS.ROLE ≠ 0 ∧ f.port = s.rd RMA_TWIN_CFG.HB_PORT ∧ b = slice f.bytes (payloadAt f.bytes) 64) ∧
    (∃ (s : State) (f : RxFrame) (l : List RxFrame), s.ppl.rmaIn = f :: l ∧ etherType f.bytes = 0x88B6 ∧ (s.rd RMA_TWIN_STATUS.ROLE = 0 ∨ f.port ≠ s.rd RMA_TWIN_CFG.HB_PORT)) ∧
    (∃ (s : State), s.wf = true ∧ s.rma.hbNew = true ∧ s.rd RMA_TWIN_STATUS.ROLE ≠ 0) ∧
    (∃ (s : State), s.wf = true ∧ s.on RMA_TWIN_STATUS.RAW_PATH = true) ∧
    (∃ (s : State), s.wf = true ∧ s.on RMA_TWIN_STATUS.QP_PATH = true) ∧
    (∃ (s : State), s.wf = true ∧ max s.rma.hbQp s.rma.hbRaw ≠ 0 ∧ s.rd RMA_TWIN_STATUS.ROLE = 3) ∧
    (∃ (s : State), s.wf = true ∧ max s.rma.hbQp s.rma.hbRaw ≠ 0 ∧ s.rd RMA_TWIN_STATUS.ROLE ≠ 3) ∧
    (∃ (s : State), s.wf = true ∧ s.rd RMA_TWIN_STATUS.ROLE = 1) :=
  ⟨⟨(tw [(RMA_TWIN_STATUS.ROLE, 0, 0, 1)]), by decide +kernel⟩,
   ⟨({ tw [(RMA_TWIN_STATUS.ROLE, 0, 0, 1)] with ppl.rmaIn := ({ bytes := beBytes 6 0x010CCD040000 ++ beBytes 6 0x020000000001 ++ beBytes 2 0x88B6 ++ List.replicate 60 0#8 } : RxFrame) :: ([] : List RxFrame) }), ({ bytes := beBytes 6 0x010CCD040000 ++ beBytes 6 0x020000000001 ++ beBytes 2 0x88B6 ++ List.replicate 60 0#8 } : RxFrame), ([] : List RxFrame), (List.replicate 60 0#8 : List Byte), by decide +kernel⟩,
   ⟨({ State.reset with ppl.rmaIn := ({ bytes := beBytes 6 0x010CCD040000 ++ beBytes 6 0x020000000001 ++ beBytes 2 0x88B6 ++ List.replicate 60 0#8 } : RxFrame) :: ([] : List RxFrame) }), ({ bytes := beBytes 6 0x010CCD040000 ++ beBytes 6 0x020000000001 ++ beBytes 2 0x88B6 ++ List.replicate 60 0#8 } : RxFrame), ([] : List RxFrame), by decide +kernel⟩,
   ⟨({ tw [(RMA_TWIN_STATUS.ROLE, 0, 0, 1)] with rma.hbNew := true }), by decide +kernel⟩,
   ⟨(tw [(RMA_TWIN_STATUS.RAW_PATH, 0, 0, 1)]), by decide +kernel⟩,
   ⟨(tw [(RMA_TWIN_STATUS.QP_PATH, 0, 0, 1)]), by decide +kernel⟩,
   ⟨({ tw [(RMA_TWIN_STATUS.ROLE, 0, 0, 3)] with rma.hbQp := 5 }), by decide +kernel⟩,
   ⟨({ tw [(RMA_TWIN_STATUS.ROLE, 0, 0, 0)] with rma.hbQp := 5 }), by decide +kernel⟩,
   ⟨(tw [(RMA_TWIN_STATUS.ROLE, 0, 0, 1)]), by decide +kernel⟩⟩

/-- States that meet the hypotheses of ProtectedClusterCommands, clause by clause. -/
theorem witness_ProtectedClusterCommands :
    (∃ (s : State) (c : Instr) (who : Nat) (k : Nat) (x : Nat), s.shut who = false ∧ s.wf = true ∧ k < 8 ∧ s.on CPU_CLk_CFG.PROT k = true ∧ (isThread who = false ∨ agentCluster who = k) ∧ (c = .coreRestart who k x ∨ c = .coreRetire who k x ∨ c = .clusterReload who k)) ∧
    (∃ (s : State) (who : Nat) (k : Nat) (x : Nat) (g : Nat), s.shut who = false ∧ s.wf = true ∧ k < 8 ∧ x < 5 ∧ s.on CPU_CLk_CFG.PROT k = true ∧ isThread who = true ∧ agentCluster who ≠ k ∧ s.rd CPU_CLk_STATUS.STATE k = 0 ∧ s.logical k x = some g ∧ s.coreState k x = 2 ∧ (∀ g, g < 4 → s.physCore k g < 5)) :=
  ⟨⟨(tw [(CPU_CLk_CFG.PROT, 7, 0, 1), (HIF_FNf_STATE.MSE, 0, 0, 1)]), (.clusterReload 0 7 : Instr), 0, 7, 0, by decide +kernel⟩,
   ⟨(((CORE0.wr CPU_CLk_CFG.PROT 1 0).setCore 0 3 2)), 17, 0, 3, 3, by decide +kernel⟩⟩

/-- States that meet the hypotheses of HistogramClearAndFreeze, clause by clause. -/
theorem witness_HistogramClearAndFreeze :
    (∃ (s : State) (u : Nat) (probe : Nat) (index : Nat), s.wf = true ∧ u < 64 ∧ probe ≠ 0 ∧ s.rd CAL_HUu_CFG.PROBE u = probe ∧ (s.on CAL_HUu_CFG.ANY u = true ∨ s.rd CAL_HUu_CFG.INDEX u = index)) ∧
    (∃ (s : State) (u : Nat) (probe : Nat) (index : Nat), s.wf = true ∧ u < 64 ∧ probe ≠ 0 ∧ s.rd CAL_HUu_CFG.PROBE u = probe ∧ (s.on CAL_HUu_CFG.ANY u = true ∨ s.rd CAL_HUu_CFG.INDEX u = index) ∧ s.on CAL_HUu_CTRL.FREEZE u = true) :=
  ⟨⟨(tw [(CAL_HUu_CFG.PROBE, 63, 0, 1)]), 63, 1, 0, by decide +kernel⟩,
   ⟨(tw [(CAL_HUu_CFG.PROBE, 63, 0, 1), (CAL_HUu_CTRL.FREEZE, 63, 0, 1)]), 63, 1, 0, by decide +kernel⟩⟩

/-- States that meet the hypotheses of DmaAndAbortComplete, clause by clause. -/
theorem witness_DmaAndAbortComplete :
    (∃ (s : State) (who : Nat) (ch : Nat) (a : Nat) (c : DmaCh), s.wf = true ∧ s.shut who = false ∧ ch < 32 ∧ s.dmaState ch ∈ [0, 4, 5] ∧ a = s.rd64 DMA_CHn_DESC_LO.DESC ch ∧ a % 32 = 0 ∧ s.inSpace 0 a 32 = true ∧ c = { desc := (List.range 4).map (fun i => leNat (s.rtRead (a + 8 * i) 8)) } ∧ s.dmaCheck c = 0) ∧
    (∃ (s : State) (ch : Nat), s.wf = true ∧ ch < 32 ∧ s.dmaState ch = 1 ∧ (s.dmaCh ch).err = 0 ∧ (s.dmaCh ch).p < (s.dmaCh ch).len) ∧
    (∃ (s : State) (ch : Nat), s.wf = true ∧ ch < 32 ∧ s.dmaState ch = 3 ∧ (s.dmaCh ch).err = 0) ∧
    (∃ (s : State) (ch : Nat), s.wf = true ∧ ch < 32 ∧ s.dmaState ch ∈ [1, 2, 3] ∧ (s.dmaCh ch).writes = []) ∧
    (∃ (s : State) (ch : Nat), ch < 32 ∧ s.dmaState ch ∈ [1, 2, 3] ∧ (s.dmaCh ch).writes ≠ []) ∧
    (∃ (s : State) (ch : Nat) (o : Nat) (n : Nat) (l : List (Nat × Nat)), s.wf = true ∧ ch < 32 ∧ (s.dmaCh ch).reads = (o, n) :: l ∧ (s.dmaCh ch).err = 0 ∧ (s.dmaCh ch).op = 0 ∧ (s.dmaCh ch).sspace = 0 ∧ (s.dmaCh ch).dspace = 0 ∧ (s.dmaCh ch).overlaps = false ∧ (s.dmaCh ch).p < (s.dmaCh ch).len) ∧
    (∃ (s : State) (ch : Nat) (o : Nat) (n : Nat) (i : Nat) (l : List (Nat × Nat)), s.wf = true ∧ ch < 32 ∧ (s.dmaCh ch).reads = (o, n) :: l ∧ (s.dmaCh ch).op = 2 ∧ (s.dmaCh ch).sspace = 0 ∧ (s.dmaCh ch).dspace = 0 ∧ firstDiff (s.rtRead ((s.dmaCh ch).src + o) n) (s.rtRead ((s.dmaCh ch).dst + o) n) 0 = some i) ∧
    (∃ (s : State) (ch : Nat) (n : Nat) (l : List Nat), s.wf = true ∧ ch < 32 ∧ (s.dmaCh ch).writes = n :: l ∧ (s.dmaCh ch).err = 0 ∧ s.dmaState ch = 1 ∧ (s.dmaCh ch).p + n < (s.dmaCh ch).len) ∧
    (∃ (s : State) (ch : Nat) (n : Nat) (l : List Nat), s.wf = true ∧ ch < 32 ∧ (s.dmaCh ch).writes = n :: l ∧ (s.dmaCh ch).err = 0 ∧ s.dmaState ch = 1 ∧ (s.dmaCh ch).p + n = (s.dmaCh ch).len ∧ (s.dmaCh ch).last = true) ∧
    (∃ (s : State) (ch : Nat) (n : Nat), s.wf = true ∧ ch < 32 ∧ (s.dmaCh ch).writes = [n]) ∧
    (∃ (s : State) (f : Nat) (sqid : Nat) (acid : Nat) (c : HostCmd), s.wf = true ∧ s.ctlRuns f = true ∧ (s.ctl f).ps ≠ 2 ∧ s.stg.cmds.find? (fun c => c.f == f && c.qid == sqid && c.cid == acid && c.phase == 0 && c.op != 3) = some c ∧ s.hostCmd c.id = some c ∧ c.dead = false) ∧
    (∃ (s : State) (f : Nat) (sqid : Nat) (acid : Nat), s.wf = true ∧ s.ctlRuns f = true ∧ (s.ctl f).ps ≠ 2 ∧ s.stg.cmds.find? (fun c => c.f == f && c.qid == sqid && c.cid == acid && c.phase == 0 && c.op != 3) = none) :=
  ⟨⟨(((((tw [(MEM_CLc_STATUS.CHANNELS, 0, 0, 4), (MEM_CLc_STATUS.GIB, 0, 0, 8)]).wr64 DMA_CHn_DESC_LO.DESC (0x40) 31 0)).rtWrite 0x40 (leBytes 8 1 ++ leBytes 8 0x1000 ++ leBytes 8 (64 + 2 ^ 32 + 2 ^ 39) ++ leBytes 8 0))), 17, 31, 0x40, ({ desc := [1, 0x1000, 64 + 2 ^ 32 + 2 ^ 39, 0] } : DmaCh), by decide +kernel⟩,
   ⟨({ tw [(DMA_CHn_STATUS.STATE, 31, 0, 1)] with dma.chans := [(31, { desc := [0, 0x4000, 64, 0] })] }), 31, by decide +kernel⟩,
   ⟨({ tw [(DMA_CHn_STATUS.STATE, 31, 0, 3)] with dma.chans := [(31, { desc := [0, 0x4000, 64, 0] })] }), 31, by decide +kernel⟩,
   ⟨({ tw [(DMA_CHn_STATUS.STATE, 31, 0, 2)] with dma.chans := [(31, { desc := [0, 0x4000, 64, 0] })] }), 31, by decide +kernel⟩,
   ⟨({ tw [(DMA_CHn_STATUS.STATE, 31, 0, 1)] with dma.chans := [(31, { desc := [0, 0x4000, 64, 0], writes := [64] })] }), 31, by decide +kernel⟩,
   ⟨({ tw [(DMA_CHn_STATUS.STATE, 0, 0, 1)] with dma.chans := [(0, { desc := [0, 0x4000, 64, 0], reads := [(0, 64)] })] }), 0, 0, 64, ([] : List (Nat × Nat)), by decide +kernel⟩,
   ⟨({ ((tw [(DMA_CHn_STATUS.STATE, 0, 0, 1)]).rtWrite 0x4003 [1#8]) with dma.chans := [(0, { desc := [0, 0x4000, 64 + 2 ^ 33, 0], reads := [(0, 64)] })] }), 0, 0, 64, 3, ([] : List (Nat × Nat)), by decide +kernel⟩,
   ⟨({ tw [(DMA_CHn_STATUS.STATE, 0, 0, 1)] with dma.chans := [(0, { desc := [0, 0x4000, 64, 0], writes := [32] })] }), 0, 32, ([] : List Nat), by decide +kernel⟩,
   ⟨({ tw [(DMA_CHn_STATUS.STATE, 0, 0, 1)] with dma.chans := [(0, { desc := [0, 0x4000, 64 + 2 ^ 39, 0], writes := [64] })] }), 0, 64, ([] : List Nat), by decide +kernel⟩,
   ⟨({ tw [(DMA_CHn_STATUS.STATE, 0, 0, 1)] with dma.chans := [(0, { desc := [0, 0x4000, 64, 0], writes := [64] })] }), 0, 64, by decide +kernel⟩,
   ⟨({ tw [(HIF_FNf_STATE.PRESENT, 3, 0, 1), (HIF_FNf_STATE.BME, 3, 0, 1), (HIF_FNf_STATE.READY, 3, 0, 1)] with stg.ctls := [(3, { en := true })], stg.cmds := [({ f := 3, qid := 1, cid := 9, id := 4 } : HostCmd)] }), 3, 1, 9, ({ f := 3, qid := 1, cid := 9, id := 4 } : HostCmd), by decide +kernel⟩,
   ⟨({ tw [(HIF_FNf_STATE.PRESENT, 3, 0, 1), (HIF_FNf_STATE.BME, 3, 0, 1), (HIF_FNf_STATE.READY, 3, 0, 1)] with stg.ctls := [(3, { en := true })] }), 3, 1, 9, by decide +kernel⟩⟩

/-- A command with a property answers a next state from the state after reset. -/
theorem a_command_runs {p : Instr → Prop} (c : Instr) (h : p c) : ∃ (c : Instr) (s t : State), p c ∧ Sys2Proof.Machine.exec c s = .next t :=
  let ⟨t, e, _⟩ := exec_gives c State.reset
  ⟨c, State.reset, t, h, e⟩

/-- A state with a command at the front of its queue, and one whose queue is empty (StepRunsTheFrontCommand, IdleStepIsOneTick). -/
theorem witness_StepRunsTheFrontCommand : ∃ (s : State) (c : Instr) (l : List Instr), s.pending = c :: l :=
  ⟨{ State.reset with pending := [.glbSyncRead] }, .glbSyncRead, [], rfl⟩
theorem witness_IdleStepIsOneTick : ∃ s : State, s.pending = [] := ⟨State.reset, rfl⟩

/-- A canonical state from which a step answers a next state. -/
theorem witness_EveryStepKeepsStoresCanonical : ∃ s t : State, s.wf = true ∧ Sys2Proof.Machine.step s = .next t :=
  ⟨{ State.reset with pending := [.glbSyncRead] }, _, by decide +kernel, rfl⟩

/-- A command that is no reset and answers a next state, which is none of those that reach flash, OTP or loader area, and no read. -/
theorem witness_OnlyTheirCommandsChangeFlashAndOtp : ∃ (c : Instr) (s t : State), Sys2Proof.Machine.exec c s = .next t ∧
    Instr.resets c = false ∧ (∀ d, c ≠ .flashProgramDone d) ∧ c ≠ .flashEraseDone ∧ (∀ a d, c ≠ .recoveryProvision a d) ∧
    c ≠ .floorProgram ∧ c ≠ .floorProgramDone ∧ (∀ a n d, c ≠ .recoveryLoad a n d) :=
  ⟨.glbSyncRead, State.reset, _, rfl, rfl, by simp, by simp, by simp, by simp, by simp, by simp⟩
theorem witness_OnlyReadsAnswer : ∃ (c : Instr) (s t : State), Sys2Proof.Machine.exec c s = .next t ∧ Instr.resets c = false :=
  ⟨.glbSyncRead, State.reset, _, rfl, rfl⟩

/-- Windows in each state, with a requester who owns none of them. -/
theorem witness_StagingFrame :
    (∃ (s : State) (who blk : Nat) (b : Blk), s.shut who = false ∧ stagedBlk blk = some b ∧ s.stState b ≠ 0) ∧
    (∃ (s : State) (who blk : Nat) (b : Blk), s.shut who = false ∧ stagedBlk blk = some b ∧ s.stState b = 0) ∧
    (∃ (s : State) (who blk : Nat) (b : Blk), s.shut who = false ∧ stagedBlk blk = some b ∧ s.stState b = 1 ∧ s.owns b who = false) ∧
    (∃ (s : State) (who blk : Nat) (b : Blk), s.shut who = false ∧ stagedBlk blk = some b ∧ s.stState b ≠ 1) ∧
    (∃ (s t : State) (c : Instr) (who blk : Nat) (b : Blk), s.wf = true ∧ stagedBlk blk = some b ∧ c = .stageOpen who blk ∧
      Sys2Proof.Machine.exec c s = .next t) :=
  ⟨⟨tw [(STAGE_STATUS.STATE, Blk.tim.base, 0, 2)], 1, Blk.bit .tim, .tim, by decide +kernel⟩, ⟨State.reset, 1, Blk.bit .tim, .tim, by decide +kernel⟩,
   ⟨tw [(STAGE_STATUS.STATE, Blk.tim.base, 0, 1)], 17, Blk.bit .tim, .tim, by decide +kernel⟩, ⟨State.reset, 1, Blk.bit .tim, .tim, by decide +kernel⟩,
   (exec_gives (.stageOpen 0 (Blk.bit .tim)) State.reset).elim (fun t e => ⟨State.reset, t, .stageOpen 0 (Blk.bit .tim), 0, Blk.bit .tim, .tim,
     by decide +kernel, by decide +kernel, rfl, e.1⟩)⟩

/-- Commands of the groups of AccessAndTimebaseFrame that answer a next state. -/
theorem witness_AccessAndTimebaseFrame :
    (∃ (c : Instr) (s t : State), Instr.accesses c = true ∧ Sys2Proof.Machine.exec c s = .next t) ∧
    (∃ (c : Instr) (s t : State), Instr.clocks c = true ∧ Sys2Proof.Machine.exec c s = .next t) ∧
    (∃ (c : Instr) (s t : State), Instr.sampling c = true ∧ Sys2Proof.Machine.exec c s = .next t) :=
  ⟨a_command_runs (.glbSyncRead) rfl,
   a_command_runs (.grainCycleWrap 3) rfl,
   a_command_runs (.rowHoldExpire 31) rfl⟩

/-- Commands of the groups of NetworkFrame that answer a next state. -/
theorem witness_NetworkFrame :
    (∃ (c : Instr) (s t : State), Instr.ports c = true ∧ Sys2Proof.Machine.exec c s = .next t) ∧
    (∃ (c : Instr) (s t : State), Instr.frames c = true ∧ Sys2Proof.Machine.exec c s = .next t) ∧
    (∃ (c : Instr) (s t : State), Instr.tables c = true ∧ Sys2Proof.Machine.exec c s = .next t) :=
  ⟨a_command_runs (.portLockAcquired 39) rfl,
   a_command_runs (.portTxBoundary 39) rfl,
   a_command_runs (.agerPass) rfl⟩

/-- Commands of the groups of ProtectionFrame that answer a next state. -/
theorem witness_ProtectionFrame :
    (∃ (c : Instr) (s t : State), Instr.ingest c = true ∧ Sys2Proof.Machine.exec c s = .next t) ∧
    (∃ (c : Instr) (s t : State), Instr.trips c = true ∧ Sys2Proof.Machine.exec c s = .next t) ∧
    (∃ (c : Instr) (s t : State), Instr.recording c = true ∧ Sys2Proof.Machine.exec c s = .next t) :=
  ⟨a_command_runs (.svLossScan) rfl,
   a_command_runs (.termArmSet 7 1#32) rfl,
   a_command_runs (.recBurstWrite 0) rfl⟩

/-- Commands of the groups of HostFrame that answer a next state. -/
theorem witness_HostFrame :
    (∃ (c : Instr) (s t : State), Instr.hosting c = true ∧ Sys2Proof.Machine.exec c s = .next t) ∧
    (∃ (c : Instr) (s t : State), Instr.storing c = true ∧ Sys2Proof.Machine.exec c s = .next t) ∧
    (∃ (c : Instr) (s t : State), Instr.linking c = true ∧ Sys2Proof.Machine.exec c s = .next t) :=
  ⟨a_command_runs (.linkRetrain) rfl,
   a_command_runs (.nvmeControllerReset 255) rfl,
   a_command_runs (.roceAckTimer 65535) rfl⟩

/-- Commands of the groups of CoreAndEngineFrame that answer a next state. -/
theorem witness_CoreAndEngineFrame :
    (∃ (c : Instr) (s t : State), Instr.spindles c = true ∧ Sys2Proof.Machine.exec c s = .next t) ∧
    (∃ (c : Instr) (s t : State), Instr.moving c = true ∧ Sys2Proof.Machine.exec c s = .next t) :=
  ⟨a_command_runs (.channelPop 1023) rfl,
   a_command_runs (.dmaPause 31) rfl⟩

/-- Commands of the groups of UpdateAndReportFrame that answer a next state. -/
theorem witness_UpdateAndReportFrame :
    (∃ (c : Instr) (s t : State), Instr.updating c = true ∧ Sys2Proof.Machine.exec c s = .next t) ∧
    (∃ (c : Instr) (s t : State), Instr.counting c = true ∧ Sys2Proof.Machine.exec c s = .next t) ∧
    (∃ (c : Instr) (s t : State), Instr.supplying c = true ∧ Sys2Proof.Machine.exec c s = .next t) :=
  ⟨a_command_runs (.floorProgram) rfl,
   a_command_runs (.histogramClear 63) rfl,
   a_command_runs (.thermalWarningEnd 0) rfl⟩

end Sys2Proof.Tests
end

/-!
The scope of the model: its stores stay canonical, a plain write of a field follows the field's access type, and what the plain
register accesses do.
-/
namespace Sys2Proof.Machine

/-! ## Every store stays canonical (R9, R389, R405) -/

/-- Taking a command off the queue touches no store. -/
theorem wf_dequeue {s : State} (l : List Instr) (h : s.wf = true) : State.wf { s with pending := l } = true := h

/-- Settles O48: an idle step only moves the clock, and every command keeps the stores canonical (`exec_keep`). -/
theorem everyStepKeepsStoresCanonical : Obligations.EveryStepKeepsStoresCanonical := by
  unfold Obligations.EveryStepKeepsStoresCanonical
  intro s t hwf hstep
  unfold step at hstep
  split at hstep
  case h_1 =>
    cases hstep
    exact (State.elapse_keep s 1).wf hwf
  case h_2 c rest _ => exact (exec_keep hstep).wf (wf_dequeue rest hwf)

/-! ## The bits of a word and of a field (R8) -/

theorem bitOf_eq_testBit (v i : Nat) : bitOf v i = v.testBit i := by
  rw [Nat.testBit_eq_decide_div_mod_eq]
  rfl

theorem testBit_bitsOf (v lo w k : Nat) : (bitsOf v lo w).testBit k = (decide (k < w) && bitOf v (lo + k)) := by
  rw [bitsOf, Nat.testBit_mod_two_pow, Nat.testBit_div_two_pow, bitOf_eq_testBit, Nat.add_comm]

theorem bitOf_eq_bitsOf_one (v i : Nat) : bitOf v i = (bitsOf v i 1 == 1) := rfl

/-- Putting a value into a field gives the bits of the field those of the value, and leaves every other bit. -/
theorem bitOf_put {f : Fld} (hf : f.lo + f.w ≤ 32) (w : Word) (v k : Nat) :
    bitOf (f.put w v).toNat k = if f.lo ≤ k ∧ k < f.lo + f.w then v.testBit (k - f.lo) else bitOf w.toNat k := by
  split
  case isTrue h =>
    obtain ⟨j, rfl⟩ := Nat.exists_eq_add_of_le h.1
    have hj : j < f.w := by omega
    have hbit := testBit_bitsOf (f.put w v).toNat f.lo f.w j
    rw [bitsOf_put_same hf, Nat.testBit_mod_two_pow] at hbit
    simpa [hj] using hbit.symm
  case isFalse h =>
    rw [bitOf_eq_bitsOf_one, bitOf_eq_bitsOf_one]
    by_cases hlow : k < f.lo
    · rw [bitsOf_put_below hf w v (by omega)]
    · rw [bitsOf_put_above hf w v (by omega)]

/-- A field reads 0 exactly when each of its bits is 0. -/
theorem bitsOf_eq_zero_iff {v lo n : Nat} : bitsOf v lo n = 0 ↔ ∀ k, k < n → bitOf v (lo + k) = false := by
  constructor
  · intro h k hk
    have hbit := testBit_bitsOf v lo n k
    simpa [h, hk] using hbit.symm
  · intro h
    refine Nat.eq_of_testBit_eq fun k => ?_
    rw [testBit_bitsOf, Nat.zero_testBit]
    by_cases hk : k < n <;> simp [hk, h]

/-! ## A plain write of one field (R8) -/

/-- A plain write of a field leaves the state, or puts one value into that field. -/
theorem writeField_cases (s : State) (a v : Nat) (f : Fld) :
    s.writeField a v f = s ∨ ∃ x, s.writeField a v f = s.setReg a (f.put (s.reg a) x) := by
  unfold State.writeField
  split
  case h_1 => exact .inr ⟨_, rfl⟩
  case h_2 => exact .inr ⟨_, rfl⟩
  case h_3 => exact .inr ⟨_, rfl⟩
  case h_4 =>
    split
    · exact .inr ⟨_, rfl⟩
    · exact .inl rfl
  all_goals exact .inl rfl

theorem writeField_rw {s : State} (a v : Nat) {f : Fld} (hacc : f.acc = .rw) :
    s.writeField a v f = s.setReg a (f.put (s.reg a) (bitsOf v f.lo f.w)) := by
  simp [State.writeField, hacc]

theorem writeField_w1c {s : State} (a v : Nat) {f : Fld} (hacc : f.acc = .w1c) :
    s.writeField a v f =
      s.setReg a (f.put (s.reg a) (bitsOf (s.reg a).toNat f.lo f.w &&& (2 ^ f.w - 1 - bitsOf v f.lo f.w))) := by
  simp [State.writeField, hacc]

theorem writeField_w1s {s : State} (a v : Nat) {f : Fld} (hacc : f.acc = .w1s) :
    s.writeField a v f = s.setReg a (f.put (s.reg a) (bitsOf (s.reg a).toNat f.lo f.w ||| bitsOf v f.lo f.w)) := by
  simp [State.writeField, hacc]

/-- Read-only, read-to-clear and staged fields do not follow a plain write. -/
theorem writeField_inert {s : State} (a v : Nat) {f : Fld} (hacc : f.acc = .ro ∨ f.acc = .rc ∨ f.acc = .rwl) :
    s.writeField a v f = s := by
  rcases hacc with hacc | hacc | hacc <;> simp [State.writeField, hacc]

/-- A plain write of a field changes no bit of the register outside the field. -/
theorem bitOf_writeField_outside {s : State} (hwf : s.wf = true) (a v : Nat) {f : Fld} (hf : f.lo + f.w ≤ 32) {k : Nat}
    (hk : k < f.lo ∨ f.lo + f.w ≤ k) : bitOf ((s.writeField a v f).reg a).toNat k = bitOf (s.reg a).toNat k := by
  rcases writeField_cases s a v f with h | ⟨x, h⟩
  · rw [h]
  · rw [h, reg_setReg_same hwf, bitOf_put hf, if_neg (by omega)]

/-- A plain write of a field changes no other register. -/
theorem reg_writeField_other {s : State} (hwf : s.wf = true) {a b : Nat} (v : Nat) (f : Fld) (hb : b ≠ a) :
    (s.writeField a v f).reg b = s.reg b := by
  rcases writeField_cases s a v f with h | ⟨x, h⟩
  · rw [h]
  · rw [h, reg_setReg_other hwf _ hb]

/-- A plain write of a field touches nothing but the registers. -/
theorem writeField_regs_only (s : State) (a v : Nat) (f : Fld) :
    s.writeField a v f = { s with regs := (s.writeField a v f).regs } := by
  rcases writeField_cases s a v f with h | ⟨x, h⟩
  · rw [h]
  · rw [h]; rfl

/-- Settles O1: the bits of the field follow its access type (`bitOf_put`), the rest of the state stays (`writeField_cases`). -/
theorem fieldWriteByAccessType : Obligations.FieldWriteByAccessType := by
  unfold Obligations.FieldWriteByAccessType
  intro s a v f hwf hf
  refine ⟨fun hrw => ?_, fun hw1c k hk => ?_, fun hw1s k hk => ?_, writeField_inert a v,
    fun k hk => bitOf_writeField_outside hwf a v hf hk, fun b hb => reg_writeField_other hwf v f hb, ?_, ?_⟩
  · rw [writeField_rw a v hrw, reg_setReg_same hwf, bitsOf_put_same hf]
    exact Nat.mod_mod _ _
  · have hlt : bitsOf v f.lo f.w < 2 ^ f.w := Nat.mod_lt _ (Nat.two_pow_pos _)
    have hcompl : 2 ^ f.w - 1 - bitsOf v f.lo f.w = 2 ^ f.w - (bitsOf v f.lo f.w + 1) := by omega
    rw [writeField_w1c a v hw1c, reg_setReg_same hwf, bitOf_put hf, if_pos (by omega), Nat.add_sub_cancel_left, hcompl,
      Nat.testBit_and, Nat.testBit_two_pow_sub_succ hlt, testBit_bitsOf, testBit_bitsOf]
    simp [hk]
  · rw [writeField_w1s a v hw1s, reg_setReg_same hwf, bitOf_put hf, if_pos (by omega), Nat.add_sub_cancel_left,
      Nat.testBit_or, testBit_bitsOf, testBit_bitsOf]
    simp [hk]
  · rw [writeField_regs_only]
  · rw [writeField_regs_only]

/-! ## Keys and addresses of registers (R32 to R35) -/

/-- A field that is not repeated lies at its own address alone. -/
theorem covers_single {f : Fld} (h1 : f.n1 = 1) (hs1 : f.s1 = 0) (h2 : f.n2 = 1) (hs2 : f.s2 = 0) {a : Nat} :
    f.covers a = true ↔ a = f.base := by
  simp only [Fld.covers, h1, hs1, h2, hs2]
  split <;> simp <;> omega

theorem msixKey_low (s : State) {k : Nat} (h : k < fnBase 0) : s.msixKey k = false := by
  simp [State.msixKey, Nat.not_le.mpr h]

/-- No register lies at the key that an address outside a requester's space is given. -/
theorem fieldsAt_outside (s : State) : s.fieldsAt 0x7FFFFFC = none := by
  simp [State.fieldsAt, msixKey_low, fnBase, regFields, blkOfAddr]

/-- A register is reached at an aligned address within the register space of its requester. -/
theorem address_of_fieldsAt {s : State} {who a : Nat} {l : List Fld} (h : s.fieldsAt (regKey who a) = some l) :
    a % 4 = 0 ∧ a < 0x700000 := by
  have hout : regKey who a ≠ 0x7FFFFFC := fun e => by simp [e, fieldsAt_outside] at h
  have halign : regKey who a % 4 = 0 := by
    by_contra hne
    simp [State.fieldsAt, hne] at h
  unfold regKey fnBase at hout halign
  simp only [Bool.and_eq_true, decide_eq_true_eq] at hout halign
  split_ifs at hout halign <;> omega

/-- The registers of a block with a staging window lie below every function's own space. -/
theorem stagedAt_low {k : Nat} {b : Blk} (h : stagedAt k = some b) : k < 0x700000 := by
  by_contra hk
  simp [stagedAt, blkOfAddr, Nat.le_of_not_lt hk] at h

/-! ## Registers that clear on a read (R8) -/

theorem clearRc_cons (s : State) (a : Nat) (f : Fld) (l : List Fld) :
    s.clearRc a (f :: l) = if f.acc = .rc then (s.setReg a (f.put (s.reg a) 0)).clearRc a l else s.clearRc a l := by
  by_cases h : f.acc = .rc <;> simp [State.clearRc, forEach, h]

/-- Clearing fields changes no other register. -/
theorem reg_clearRc_other {a b : Nat} (hb : b ≠ a) (l : List Fld) {s : State} (hwf : s.wf = true) :
    (s.clearRc a l).reg b = s.reg b := by
  induction l generalizing s with
  | nil => rfl
  | cons f l ih =>
    rw [clearRc_cons]
    split
    · rw [ih (setReg_wf hwf _ _), reg_setReg_other hwf _ hb]
    · exact ih hwf

/-- A bit that is 0 stays 0 while fields of its register are cleared. -/
theorem bitOf_clearRc_zero {a k : Nat} {l : List Fld} (hl : ∀ f ∈ l, f.lo + f.w ≤ 32) {s : State} (hwf : s.wf = true)
    (h0 : bitOf (s.reg a).toNat k = false) : bitOf ((s.clearRc a l).reg a).toNat k = false := by
  induction l generalizing s with
  | nil => exact h0
  | cons f l ih =>
    obtain ⟨hf, hl⟩ := List.forall_mem_cons.1 hl
    rw [clearRc_cons]
    split
    · refine ih hl (setReg_wf hwf _ _) ?_
      rw [reg_setReg_same hwf, bitOf_put hf, h0, Nat.zero_testBit, ite_self]
    · exact ih hl hwf h0

/-- Every read-to-clear field of a register reads 0 once they are cleared. -/
theorem bitsOf_clearRc {a : Nat} {l : List Fld} (hl : ∀ f ∈ l, f.lo + f.w ≤ 32) {s : State} (hwf : s.wf = true) {f : Fld}
    (hf : f ∈ l) (hrc : f.acc = .rc) : bitsOf ((s.clearRc a l).reg a).toNat f.lo f.w = 0 := by
  induction l generalizing s with
  | nil => cases hf
  | cons g l ih =>
    obtain ⟨hg, htail⟩ := List.forall_mem_cons.1 hl
    rcases List.mem_cons.1 hf with rfl | hf
    · rw [clearRc_cons, if_pos hrc, bitsOf_eq_zero_iff]
      intro k hk
      refine bitOf_clearRc_zero htail (setReg_wf hwf _ _) ?_
      rw [reg_setReg_same hwf, bitOf_put hg, if_pos (by omega), Nat.zero_testBit]
    · rw [clearRc_cons]
      split
      · exact ih htail (setReg_wf hwf _ _) hf
      · exact ih htail hwf hf

/-! ## A register read -/

/-- Within the register space, a read of an address at which a register lies takes the register's live word, after the special reads. -/
theorem regRead_plain {s : State} {who a : Nat} {l : List Fld} (hl : s.fieldsAt (regKey who a) = some l) (hid : who < 256 ∨ 0x18 ≤ a)
    (hperr : FWT_PERR.VALID.covers (regKey who a) = false) (hgtc : TIM_GTC_NS.NS.covers (regKey who a) = false)
    (hangle : TIM_GRAINn_ANGLE.ANGLE.covers (regKey who a) = false) (hcal : blkOfAddr (regKey who a) ≠ some .cal)
    (hlo : isLo (regKey who a) = false) (hhi : isHi (regKey who a) = false) :
    s.regRead who a = (s.clearRc (regKey who a) l).answer (s.viewWord who (regKey who a) (s.liveWord who (regKey who a) l)) := by
  obtain ⟨halign, hspace⟩ := address_of_fieldsAt hl
  have hecc : MEM_ECC_LO.ENTRY.covers (regKey who a) = false := by
    simp only [isLo, List.any_eq_false, Bool.not_eq_true] at hlo
    exact hlo _ (by decide)
  have hmram : MEM_MRAM_DATA_LO.DATA.covers (regKey who a) = false := by
    simp only [isLo, List.any_eq_false, Bool.not_eq_true] at hlo
    exact hlo _ (by decide)
  have hident : ¬ (256 ≤ who ∧ a < 0x18) := by omega
  have hrom : ¬ romSpace ≤ a := by unfold romSpace; omega
  have hnvme : ¬ nvmeSpace ≤ a := by unfold nvmeSpace; omega
  have hbell : ¬ bellSpace ≤ a := by unfold bellSpace; omega
  simp [State.regRead, halign, hident, hrom, hnvme, hbell, hl, hperr, hecc, hmram, hgtc, hangle, hcal, hlo, hhi]

/-- A read of FWT_PERR pops the error FIFO (R137). -/
theorem regRead_perr {s : State} {who a : Nat} (hwho : who < 256) (hspace : a < 0x700000) (halign : a % 4 = 0)
    (hperr : FWT_PERR.VALID.covers (regKey who a) = true) : s.regRead who a = s.perrPop := by
  have hkey : regKey who a = FWT_PERR.VALID.base := (covers_single rfl rfl rfl rfl).1 hperr
  have hfields : regFields FWT_PERR.VALID.base = some [FWT_PERR.VALID, FWT_PERR.TABLE, FWT_PERR.BANK, FWT_PERR.INDEX] := by decide
  have hlow : s.msixKey FWT_PERR.VALID.base = false := msixKey_low s (by decide)
  have hl : s.fieldsAt (regKey who a) = some [FWT_PERR.VALID, FWT_PERR.TABLE, FWT_PERR.BANK, FWT_PERR.INDEX] := by
    rw [hkey, State.fieldsAt, hlow, hfields]
    rfl
  have hident : ¬ 256 ≤ who := by omega
  have hrom : ¬ romSpace ≤ a := by unfold romSpace; omega
  have hbell : ¬ bellSpace ≤ a := by unfold bellSpace; omega
  simp [State.regRead, halign, hident, hrom, hbell, hl, hperr]

/-! ## A register write -/

/-- A write of a register that is neither a half of a pair nor all read-only puts its word there. -/
theorem regWrite_plain {s : State} {who a v : Nat} {l : List Fld} (hl : s.fieldsAt (regKey who a) = some l) (hid : who < 256 ∨ 0x18 ≤ a)
    (hacc : l.all (fun f => f.acc == .ro || f.acc == .rc) = false) (hlo : isLo (regKey who a) = false)
    (hhi : isHi (regKey who a) = false) : s.regWrite who a v = s.putWord who (regKey who a) v l := by
  have hident : ¬ (256 ≤ who ∧ a < 0x18) := by omega
  simp [State.regWrite, hident, hl, hacc, hlo, hhi]

/-- The word of a write that no guard refuses. -/
theorem putWord_unguarded {s : State} {k v : Nat} (who : Nat) (l : List Fld) (hkey : s.guardKey k = false) (hseed : s.guardSeed k = false)
    (hcons : s.guardCons k v = false) (hstore : s.guardStore k v = false) (hadm : s.guardAdm k = false) (hdesc : s.guardDesc k = false) :
    s.putWord who k v l =
      (forEach (l.filter (fun f => !ownRow.any (fun g => g.covers k && g.lo == f.lo))) (fun f u => u.writeField k v f)
        (if l.any (fun f => f.acc == .rwl) then s.stageWord who k v else s)).afterWrite s k := by
  simp [State.putWord, hkey, hseed, hcons, hstore, hadm, hdesc]

theorem forEach_id {σ α : Type} {l : List α} {f : α → σ → σ} (h : ∀ x ∈ l, ∀ s, f x s = s) (s : σ) : forEach l f s = s := by
  induction l with
  | nil => rfl
  | cons x l ih =>
    obtain ⟨hx, hl⟩ := List.forall_mem_cons.1 h
    rw [forEach, hx, ih hl]

/-- What follows a write outside TIM_UTC and the MSI-X tables changes no register and no staging window. -/
theorem afterWrite_regs_stage {s : State} (o : State) {k : Nat} (hleap : TIM_UTC.LEAP61.covers k = false) (hmsix : s.msixKey k = false) :
    (s.afterWrite o k).regs = s.regs ∧ (s.afterWrite o k).stage = s.stage := by
  simp only [State.afterWrite, hleap, hmsix]
  split
  · exact ⟨rfl, rfl⟩
  · simp only [Bool.false_eq_true, if_false]
    split
    · split
      · exact ⟨rfl, rfl⟩
      · exact ⟨State.setDs_regs .., State.setDs_stage ..⟩
    · exact ⟨rfl, rfl⟩

/-! ## The staging of a word (R39) -/

theorem stageWord_open {s : State} {who k : Nat} {b : Blk} (v : Nat) (hb : stagedAt k = some b) (hopen : s.stState b = 1)
    (howns : s.owns b who = true) :
    s.stageWord who k v = s.setStage b { s.stageOf b with staged := tabSet (s.stageOf b).staged k (some v) } := by
  simp [State.stageWord, hb, hopen, howns]

/-- A window that holds a staged word is there to be read, whatever the table of windows was. -/
theorem stageOf_setStage (s : State) (b : Blk) {x : StageSt} {k v : Nat} (hx : tabGet x.staged k = some v) :
    (s.setStage b x).stageOf b = x := by
  have hne : x ≠ default := fun e => by
    rw [e] at hx
    cases hx
  exact cellGet_cellSet_ne s.stage b.bit hne

/-- TIM_UTC holds no staged field. -/
theorem leap_not_staged {s : State} {k : Nat} {l : List Fld} (hl : s.fieldsAt k = some l) (hrwl : l.all (fun f => f.acc == .rwl) = true) :
    TIM_UTC.LEAP61.covers k = false := by
  by_contra hne
  have hk : k = TIM_UTC.LEAP61.base := (covers_single rfl rfl rfl rfl).1 (by simpa using hne)
  have hfields : regFields TIM_UTC.LEAP61.base = some [TIM_UTC.LEAP61, TIM_UTC.LEAP59, TIM_UTC.UTC_OFFSET] := by decide
  have hlow : s.msixKey TIM_UTC.LEAP61.base = false := msixKey_low s (by decide)
  rw [hk, State.fieldsAt, hlow, hfields] at hl
  cases hl
  cases hrwl

/-- A write of a register of staged fields alone leaves the registers, and stages its word. -/
theorem putWord_staged {s : State} {who k v : Nat} {b : Blk} {l : List Fld} (hl : s.fieldsAt k = some l)
    (hany : l.any (fun f => f.acc == .rwl) = true) (hall : l.all (fun f => f.acc == .rwl) = true) (hb : stagedAt k = some b)
    (hopen : s.stState b = 1) (howns : s.owns b who = true) (hkey : s.guardKey k = false) (hseed : s.guardSeed k = false)
    (hcons : s.guardCons k v = false) (hstore : s.guardStore k v = false) (hadm : s.guardAdm k = false) (hdesc : s.guardDesc k = false) :
    tabGet ((s.putWord who k v l).stageOf b).staged k = some v ∧ (s.putWord who k v l).regs = s.regs := by
  have hinert : ∀ f ∈ l.filter (fun f => !ownRow.any (fun g => g.covers k && g.lo == f.lo)), ∀ u : State, u.writeField k v f = u := by
    intro f hf u
    have hf := List.all_eq_true.1 hall f (List.mem_of_mem_filter hf)
    exact writeField_inert k v (.inr (.inr (by simpa using hf)))
  have hlow : k < fnBase 0 := Nat.lt_trans (stagedAt_low hb) (by decide)
  rw [putWord_unguarded who l hkey hseed hcons hstore hadm hdesc, if_pos hany, forEach_id hinert, stageWord_open v hb hopen howns]
  have hword : tabGet (tabSet (s.stageOf b).staged k (some v)) k = some v := cellGet_cellSet_ne _ _ (Option.some_ne_none v)
  obtain ⟨hregs, hstage⟩ := afterWrite_regs_stage s (leap_not_staged hl hall) (msixKey_low (s.setStage b _) hlow)
  refine ⟨?_, hregs⟩
  rw [State.stageOf, hstage, ← State.stageOf, stageOf_setStage s b hword, hword]

/-! ## What the device gives out is never taken back -/

/-- All that `s` has given out, `t` has given out too, and before anything else. -/
def SentGrows (s t : State) : Prop := s.sent <:+ t.sent

theorem SentGrows.refl (s : State) : SentGrows s s := List.suffix_refl _

theorem SentGrows.trans {s t u : State} (h1 : SentGrows s t) (h2 : SentGrows t u) : SentGrows s u := List.IsSuffix.trans h1 h2

/-- An operation that leaves what was given out alone takes nothing of it back. -/
theorem SentGrows.of_keep {m : Nat} {s t : State} (k : Keep m s t) (hm : m.testBit 60 = false) : SentGrows s t := by
  have hsent : t.sent = s.sent := k.parts .sent hm
  rw [SentGrows, hsent]

theorem SentGrows.out (s : State) (o : Out) : SentGrows s (s.out o) := List.suffix_cons _ _

theorem SentGrows.ite {s t u : State} {c : Prop} [Decidable c] (ht : SentGrows s t) (hu : SentGrows s u) :
    SentGrows s (if c then t else u) := by
  split
  · exact ht
  · exact hu

theorem SentGrows.forEach {α : Type} {l : List α} {f : α → State → State} (h : ∀ x u, SentGrows u (f x u)) (s : State) :
    SentGrows s (forEach l f s) := by
  induction l generalizing s with
  | nil => exact .refl s
  | cons x l ih => exact (h x s).trans (ih (f x s))

/-- A filtered counter that fires may add an interrupt to what was given out. -/
theorem calFilteredOne_sent (s : State) (j n : Nat) (agent : Option Nat) : SentGrows s (s.calFilteredOne j n agent) := by
  have hset (v : Nat) : Keep 0x400100004 s (s.wr64 CAL_CNTe_LO.COUNT v (1408 + j)) := (Keep.refl _ s).wr64 .cal rfl rfl
  unfold State.calFilteredOne
  refine .ite (.refl s) (.ite ?_ (.of_keep (State.calAdd_keep ..) rfl))
  extract_lets v u
  refine .ite (.of_keep (hset v) rfl) (.trans (t := u) (.of_keep ((State.calAdd_keep ..).step (hset 0) rfl) rfl) ?_)
  split
  · exact .out u _
  · exact .of_keep (State.raise_keep ..) rfl

theorem cal_sent (s : State) (e n : Nat) (at_ : CalAttr) : SentGrows s (s.cal e n at_) := by
  unfold State.cal
  extract_lets u
  have hu : SentGrows s u := .ite (.refl s) (.of_keep (State.calAdd_keep ..) rfl)
  exact hu.trans (.forEach (fun j x => calFilteredOne_sent x j n at_.agent) u)

/-- A TLP is given out on top of what was given out before. -/
theorem tlpOut_sent (s : State) (f : Nat) (o : Out) : SentGrows (s.out o) (s.tlpOut f o) := by
  have hcount : Keep 0x200000 (s.out o) ((s.out o).count HIF_cnt_LO.COUNT 1) := (Keep.refl _ _).count .hif rfl rfl
  exact SentGrows.trans (.of_keep hcount rfl) (cal_sent ..)

/-- An AER report is given out. -/
theorem mem_sent_aer (s : State) (f : Nat) (err : AerErr) : Out.aer (s.reporter f) err err.message ∈ (s.aer f err).sent := by
  have htlp : Out.aer (s.reporter f) err err.message ∈ (s.tlpOut (s.reporter f) (.aer (s.reporter f) err err.message)).sent :=
    (tlpOut_sent ..).subset List.mem_cons_self
  have hraise : SentGrows (s.tlpOut (s.reporter f) (.aer (s.reporter f) err err.message)) (s.aer f err) :=
    .ite (.refl _) (.of_keep (State.raise_keep ..) rfl)
  exact hraise.subset htlp

/-! ## Accesses that are Unsupported Requests (R278, R282) -/

/-- The report that goes out for an Unsupported Request of `who`. -/
def urReport (s : State) (who : Nat) : Out := .aer (s.reporter ((reqFn who).getD 0)) .unsupportedRequest .nonfatal

theorem mem_sent_refuseWrite (s : State) (who : Nat) : urReport s who ∈ (s.refuseWrite who).sent := mem_sent_aer ..

theorem mem_sent_refuseRead (s : State) (who : Nat) : urReport s who ∈ (s.refuseRead who).sent :=
  (tlpOut_sent ..).subset (List.mem_cons_of_mem _ (mem_sent_refuseWrite s who))

/-- What an Unsupported Request leaves: the report goes out, and no reply, window, staging area or count of bad accesses changes. -/
def Refused (s : State) (who : Nat) (t : State) : Prop :=
  urReport s who ∈ t.sent ∧ t.reply = s.reply ∧ t.rd GLB_BAD_ACCESS.COUNT = s.rd GLB_BAD_ACCESS.COUNT ∧
    t.winLive = s.winLive ∧ t.winShadow = s.winShadow ∧ t.stage = s.stage

/-- A refusal stays within the zones EVT, CAL and HIF, the event unit and what is given out. -/
theorem refused_of_keep {s t : State} {who : Nat} (hwf : s.wf = true) (hsent : urReport s who ∈ t.sent)
    (k : Keep 0x1000000400300004 s t) : Refused s who t :=
  ⟨hsent, k.parts .reply rfl, k.rdIn .glb hwf rfl rfl rfl, k.parts .winLive rfl, k.parts .winShadow rfl, k.parts .stage rfl⟩

theorem refuseWrite_refused {s : State} (who : Nat) (hwf : s.wf = true) : Refused s who (s.refuseWrite who) :=
  refused_of_keep hwf (mem_sent_refuseWrite s who) (State.refuseWrite_keep s who)

theorem refuseRead_refused {s : State} (who : Nat) (hwf : s.wf = true) : Refused s who (s.refuseRead who) :=
  refused_of_keep hwf (mem_sent_refuseRead s who) (State.refuseRead_keep s who)

/-- An access that names no register is refused too while the memory space is shut. -/
theorem exec_unassignedAccess_shut {s : State} {who : Nat} (a : Nat) (read : Bool) (hshut : s.shut who = true) :
    exec (.unassignedAccess who a read) s = ok (if read then s.refuseRead who else s.refuseWrite who) := if_pos hshut

/-- A register access while the memory space of its requester is shut is a refused write or a refused read. -/
theorem exec_shut {s : State} {who a : Nat} {val : Word} {c : Instr} (hshut : s.shut who = true)
    (hc : c ∈ [Instr.registerWrite who a val, .rwlWrite who a val, .splitLoWrite who a val, .splitHiWrite who a val,
      .unassignedAccess who a false, .registerReadClear who a, .splitLoRead who a, .unassignedAccess who a true,
      .windowWordWrite who a val, .windowFirstWordRead who a]) :
    exec c s = ok (s.refuseWrite who) ∨ exec c s = ok (s.refuseRead who) := by
  simp only [List.mem_cons, List.not_mem_nil, or_false] at hc
  obtain rfl | rfl | rfl | rfl | rfl | rfl | rfl | rfl | rfl | rfl := hc
  · exact .inl (if_pos hshut)
  · exact .inl (if_pos hshut)
  · exact .inl (if_pos hshut)
  · exact .inl (if_pos hshut)
  · exact .inl (by simp [exec_unassignedAccess_shut a _ hshut])
  · exact .inr (if_pos hshut)
  · exact .inr (if_pos hshut)
  · exact .inr (by simp [exec_unassignedAccess_shut a _ hshut])
  · exact .inl (if_pos hshut)
  · exact .inr (if_pos hshut)

/-- A register write that is no staging command is a plain write of its register. -/
theorem exec_registerWrite_register {s : State} {who a : Nat} {val : Word} (hopen : s.shut who = false)
    (hctrl : ∀ b, stagedAt (regKey who a) = some b → regKey who a ≠ b.base + 0xFF0) :
    exec (.registerWrite who a val) s = .next (s.regWrite who a val.toNat) := by
  change execRegisterWrite who a val s = _
  rw [execRegisterWrite, if_neg (by simp [hopen])]
  split
  case h_1 b hb => rw [if_neg (by simpa using hctrl b hb)]
  case h_2 => rfl

theorem exec_rwlWrite_register {s : State} {who a : Nat} {val : Word} (hopen : s.shut who = false) (hmask : rwlMask (regKey who a) ≠ 0) :
    exec (.rwlWrite who a val) s = .next (s.regWrite who a val.toNat) := by
  change execRwlWrite who a val s = _
  rw [execRwlWrite, if_neg (by simp [hopen]), if_neg hmask]

theorem exec_registerReadClear_open {s : State} {who a : Nat} (hopen : s.shut who = false) :
    exec (.registerReadClear who a) s = .next (s.regRead who a) := if_neg (by simp [hopen])

/-- Settles O4: each access is one of `regWrite`, `regRead` and the refusals, whose effects are the lemmas above. -/
theorem plainAccesses : Obligations.PlainAccesses := by
  unfold Obligations.PlainAccesses
  refine ⟨?write, ?readClear, ?staged, ?perr, ?shut⟩
  case write =>
    intro s who a val l hopen hl hid hctrl hrwl hacc hlo hhi hkey hseed hcons hstore hadm hdesc
    refine ⟨_, exec_registerWrite_register hopen hctrl, ?_⟩
    rw [regWrite_plain hl hid hacc hlo hhi, putWord_unguarded who l hkey hseed hcons hstore hadm hdesc, if_neg (by simp [hrwl])]
  case readClear =>
    intro s who a l hwf hopen hl hid hperr hgtc hangle hcal hlo hhi hfits
    refine ⟨_, exec_registerReadClear_open hopen, ?_⟩
    rw [regRead_plain hl hid hperr hgtc hangle hcal hlo hhi]
    exact ⟨rfl, fun f hf hrc => bitsOf_clearRc hfits hwf hf hrc, fun b hb => reg_clearRc_other hb l hwf⟩
  case staged =>
    intro s who a val b l hopen hl hid hmask hany hall hlo hhi hkey hseed hcons hstore hadm hdesc hb hst howns
    have hacc : l.all (fun f => f.acc == .ro || f.acc == .rc) = false := by
      obtain ⟨f, hf, hrwl⟩ := List.any_eq_true.1 hany
      exact List.all_eq_false.2 ⟨f, hf, by simp [beq_iff_eq.1 hrwl]⟩
    obtain ⟨hword, hregs⟩ := putWord_staged hl hany hall hb hst howns hkey hseed hcons hstore hadm hdesc
    refine ⟨_, exec_rwlWrite_register hopen hmask, ?_⟩
    rw [regWrite_plain hl hid hacc hlo hhi]
    exact ⟨hword, by rw [State.reg, hregs, State.reg]⟩
  case perr =>
    intro s who a hopen hperr halign hspace hwho
    exact ⟨_, exec_registerReadClear_open hopen, regRead_perr hwho hspace halign hperr⟩
  case shut =>
    intro s who a val read c hwf hshut hc
    rcases exec_shut hshut hc with h | h
    · exact ⟨_, h, refuseWrite_refused who hwf⟩
    · exact ⟨_, h, refuseRead_refused who hwf⟩

end Sys2Proof.Machine

/-!
The frames of whole groups of commands: what a command touches, read from the table `touch`, lies within the zones and parts that the
frame of its group names.
-/
namespace Sys2Proof.Machine

/-! ## From what a command touches to the frame of its group (R20, R21, R24) -/

/-- The number of a zone: the readiness bit of its block, or 22 for the functions' own spaces. -/
def zoneBit : Option Blk → Nat
  | some b => b.bit
  | none => 22

theorem zoneNo_eq (a : Nat) : zoneNo a = zoneBit (blkOfAddr a) := by
  unfold zoneNo zoneBit
  cases blkOfAddr a <;> rfl

theorem zoneBit_le (z : Option Blk) : zoneBit z ≤ 22 := by
  cases z with
  | none => exact Nat.le_refl 22
  | some b => cases b <;> decide

theorem zoneBit_injective : Function.Injective zoneBit := by
  have hget (z : Option Blk) : Blk.all[zoneBit z]? = z := by
    cases z with
    | none => rfl
    | some b => cases b <;> rfl
  exact fun y z h => by rw [← hget y, h, hget z]

/-- Every part of the state beyond the registers, in the order of their numbers. -/
def allParts : List Part :=
  [.rdHold, .wrHold, .winLive, .winShadow, .winWr, .winRd, .stage, .markOwner, .calFrom, .calFcFrom, .pins, .evt, .tim, .hif, .rings,
   .mram, .rt, .bulk, .fpt, .ppl, .fwt, .sch, .cpu, .svi, .aln, .phe, .trp, .recd, .rma, .stg, .dma, .mem, .pwr, .flash, .otp, .loader,
   .boot, .sent, .reply, .free, .tick]

theorem Part.bit_ge (p : Part) : 23 ≤ p.bit := by cases p <;> decide

theorem Part.bit_injective : Function.Injective Part.bit := by
  have hget (p : Part) : allParts[p.bit - 23]? = some p := by cases p <;> rfl
  exact fun p q h => Option.some.inj (by rw [← hget p, h, hget q])

/-- The number whose bits are those of a list. -/
def bitSet : List Nat → Nat
  | [] => 0
  | i :: l => 2 ^ i ||| bitSet l

theorem testBit_bitSet (l : List Nat) (i : Nat) : (bitSet l).testBit i = decide (i ∈ l) := by
  induction l with
  | nil => simp [bitSet]
  | cons j l ih => simp [bitSet, ih, Nat.testBit_two_pow, eq_comm]

/-- The bits of zones and parts, as `Keep` and `touch` count them. -/
def maskOf (zs : List (Option Blk)) (ps : List Part) : Nat := bitSet (zs.map zoneBit ++ ps.map Part.bit)

theorem maskOf_zone {zs : List (Option Blk)} (ps : List Part) {z : Option Blk} (hz : z ∉ zs) :
    (maskOf zs ps).testBit (zoneBit z) = false := by
  have hzone : zoneBit z ∉ zs.map zoneBit := by rwa [List.mem_map_of_injective zoneBit_injective]
  have hpart : zoneBit z ∉ ps.map Part.bit := fun h => by
    obtain ⟨p, -, hp⟩ := List.mem_map.1 h
    have := zoneBit_le z
    have := p.bit_ge
    omega
  simp only [maskOf, testBit_bitSet, List.mem_append, hzone, hpart, or_self, decide_false]

theorem maskOf_part (zs : List (Option Blk)) {ps : List Part} {p : Part} (hp : p ∉ ps) : (maskOf zs ps).testBit p.bit = false := by
  have hpart : p.bit ∉ ps.map Part.bit := by rwa [List.mem_map_of_injective Part.bit_injective]
  have hzone : p.bit ∉ zs.map zoneBit := fun h => by
    obtain ⟨z, -, hz⟩ := List.mem_map.1 h
    have := zoneBit_le z
    have := p.bit_ge
    omega
  simp only [maskOf, testBit_bitSet, List.mem_append, hzone, hpart, or_self, decide_false]

/-- An operation that stays within a set of zones and parts leaves all the others as they were. -/
theorem only_of_keep {s t : State} {zs : List (Option Blk)} {ps : List Part} (k : Keep (maskOf zs ps) s t) : Only zs ps s t :=
  ⟨fun hwf a ha => k.regs hwf a (zoneNo_eq a ▸ maskOf_zone ps ha), fun p hp => k.parts p (maskOf_part zs hp)⟩

/-- The frame of a command, from its line in the table `touch`. -/
theorem only_of_exec {c : Instr} {s t : State} {zs : List (Option Blk)} {ps : List Part} (h : exec c s = .next t)
    (hc : touch c ||| maskOf zs ps = maskOf zs ps) : Only zs ps s t := only_of_keep ((exec_keep h).mono hc)

/-- Settles O53: the line in `touch` of each command of ports, frames and forwarding tables stays within the zones and parts named. -/
theorem networkFrame : Obligations.NetworkFrame := by
  unfold Obligations.NetworkFrame
  refine ⟨fun c s t hc h => only_of_exec h ?ports, fun c s t hc h => only_of_exec h ?frames, fun c s t hc h => only_of_exec h ?tables⟩
  all_goals
    cases c
    any_goals contradiction
    all_goals (rw [touch]; rfl)

/-- Settles O54: the line in `touch` of each command of ingest, terms and the recorder stays within the zones and parts named. -/
theorem protectionFrame : Obligations.ProtectionFrame := by
  unfold Obligations.ProtectionFrame
  refine ⟨fun c s t hc h => only_of_exec h ?ingest, fun c s t hc h => only_of_exec h ?trips,
    fun c s t hc h => only_of_exec h ?recording⟩
  all_goals
    cases c
    any_goals contradiction
    all_goals (rw [touch]; rfl)

/-- Settles O55: the line in `touch` of each command of the host interface, storage and the link stays within the zones and parts named. -/
theorem hostFrame : Obligations.HostFrame := by
  unfold Obligations.HostFrame
  refine ⟨fun c s t hc h => only_of_exec h ?hosting, fun c s t hc h => only_of_exec h ?storing,
    fun c s t hc h => only_of_exec h ?linking⟩
  all_goals
    cases c
    any_goals contradiction
    all_goals (rw [touch]; rfl)

/-- Settles O57: the line in `touch` of each command of updates, reports and supplies stays within the zones and parts named. -/
theorem updateAndReportFrame : Obligations.UpdateAndReportFrame := by
  unfold Obligations.UpdateAndReportFrame
  refine ⟨fun c s t hc h => only_of_exec h ?updating, fun c s t hc h => only_of_exec h ?counting,
    fun c s t hc h => only_of_exec h ?supplying⟩
  all_goals
    cases c
    any_goals contradiction
    all_goals (rw [touch]; rfl)

end Sys2Proof.Machine

/-!
Supplies, pins, temperature and the refusal of non-volatile writes: what an event adds to what shows as raised, what the refusal and a new
level of VIN leave of PWR's registers, and the commands one by one.
-/
namespace Sys2Proof.Machine

/-! ## What shows as raised only grows (R447, R448) -/

theorem told_of_evt {s t : State} (h : t.evt = s.evt) (n : Nat) : t.told n = s.told n := by
  simp only [State.told, h]

theorem suppressed_le_map {f : RateWin → RateWin} (hsrc : ∀ w, (f w).src = w.src) (hcount : ∀ w, w.count ≤ (f w).count)
    (l : List RateWin) (n : Nat) :
    ((l.filter (fun w => w.src == n)).map (fun w => w.count)).sum ≤
      (((l.map f).filter (fun w => w.src == n)).map (fun w => w.count)).sum := by
  simp only [List.filter_map, Function.comp_def, hsrc, List.map_map]
  exact List.sum_le_sum fun w _ => hcount w

theorem suppressed_lt_map {f : RateWin → RateWin} (hsrc : ∀ w, (f w).src = w.src) (hcount : ∀ w, w.count ≤ (f w).count)
    {l : List RateWin} {n : Nat} {v : RateWin} (hv : v ∈ l) (hn : v.src = n) (hlt : v.count < (f v).count) :
    ((l.filter (fun w => w.src == n)).map (fun w => w.count)).sum <
      (((l.map f).filter (fun w => w.src == n)).map (fun w => w.count)).sum := by
  simp only [List.filter_map, Function.comp_def, hsrc, List.map_map]
  exact List.sum_lt_sum _ _ (fun w _ => hcount w) ⟨v, List.mem_filter.2 ⟨hv, by simp [hn]⟩, hlt⟩

theorem told_lt_holdRec {s : State} {r : EvRec} {n : Nat} (hr : r.src = n) : s.told n < (s.holdRec r).told n := by
  simp [State.told, State.holdRec, hr]

theorem told_le_holdRec (s : State) (r : EvRec) (n : Nat) : s.told n ≤ (s.holdRec r).told n := by
  simp [State.told, State.holdRec]

theorem mkRec_src (s : State) (src : Nat) (items : List Item) (grain : Option Nat) : (s.mkRec src items grain).src = src := by
  cases grain <;> rfl

/-- Another occurrence in a running window: counted there, with its items as the last ones. -/
def RateWin.again (src key : Nat) (items : List Item) (w : RateWin) : RateWin :=
  if w.src == src && w.inst == key then { w with count := w.count + 1, last := items } else w

theorem RateWin.again_src (src key : Nat) (items : List Item) (w : RateWin) : (w.again src key items).src = w.src := by
  unfold RateWin.again
  split <;> rfl

theorem RateWin.count_le_again (src key : Nat) (items : List Item) (w : RateWin) : w.count ≤ (w.again src key items).count := by
  unfold RateWin.again
  split
  · exact Nat.le_succ _
  · exact Nat.le_refl _

/-- A raise holds a record of its source, with or without a new window, or counts in a running window of its source. -/
theorem raise_evt_cases (s : State) (src : Nat) (items : List Item) (grain at_ : Option Nat) :
    (∃ r, r.src = src ∧ (s.raise src items grain at_).evt = (s.holdRec r).evt) ∨
    (∃ r w, r.src = src ∧ w.count = 0 ∧ (s.raise src items grain at_).evt = { (s.holdRec r).evt with wins := s.evt.wins ++ [w] }) ∨
    (∃ v key, v ∈ s.evt.wins ∧ v.src = src ∧ v.inst = key ∧
      (s.raise src items grain at_).evt = { s.evt with wins := s.evt.wins.map (RateWin.again src key items) }) := by
  unfold State.raise
  extract_lets +onlyGivenNames key
  split
  · split
    case h_1 v hfind =>
      have hv := List.find?_some hfind
      simp only [Bool.and_eq_true, beq_iff_eq] at hv
      have hevt : ((((s.count EVT_cnt_LO.COUNT 2).bump EVT_SRCs_CTL.SUPPRESSED src).calBump 1536 97 1).1).evt = s.evt := by
        have hcount : Keep 0x100004 s ((s.count EVT_cnt_LO.COUNT 2).bump EVT_SRCs_CTL.SUPPRESSED src) :=
          ((Keep.refl _ s).count .evt rfl rfl).bump .evt rfl rfl
        exact ((State.calBump_keep ..).step hcount rfl).parts .evt rfl
      dsimp only
      generalize State.calBump _ 1536 97 1 = p at hevt ⊢
      exact .inr (.inr ⟨v, key, List.mem_of_find?_eq_some hfind, hv.1, hv.2,
        congrArg (fun e : EvtSt => { e with wins := e.wins.map (RateWin.again src key items) }) hevt⟩)
    case h_2 =>
      exact .inr (.inl ⟨_, _, mkRec_src .., rfl, rfl⟩)
  · exact .inl ⟨_, mkRec_src .., rfl⟩

/-- A raised source shows once more. -/
theorem told_lt_raise (s : State) (n : Nat) (items : List Item) (grain at_ : Option Nat) :
    s.told n < (s.raise n items grain at_).told n := by
  rcases raise_evt_cases s n items grain at_ with ⟨r, hr, h⟩ | ⟨r, w, hr, hw, h⟩ | ⟨v, key, hmem, hsrc, hinst, h⟩
  · rw [told_of_evt h]
    exact told_lt_holdRec hr
  · have hone : ([r].filter (fun r => r.src == n)).length = 1 := by simp [hr]
    simp only [State.told, h, State.holdRec, List.filter_append, List.map_append, List.sum_append, List.length_append]
    omega
  · have hlt : v.count < (v.again n key items).count := by simp [RateWin.again, hsrc, hinst]
    have := suppressed_lt_map (RateWin.again_src n key items) (RateWin.count_le_again n key items) hmem hsrc hlt
    simp only [State.told, h]
    omega

theorem told_le_raise (s : State) (src : Nat) (items : List Item) (grain at_ : Option Nat) (n : Nat) :
    s.told n ≤ (s.raise src items grain at_).told n := by
  rcases raise_evt_cases s src items grain at_ with ⟨r, -, h⟩ | ⟨r, w, -, -, h⟩ | ⟨v, key, -, -, -, h⟩
  · rw [told_of_evt h]
    exact told_le_holdRec s r n
  · simp only [State.told, h, State.holdRec, List.filter_append, List.map_append, List.sum_append, List.length_append]
    omega
  · have := suppressed_le_map (RateWin.again_src src key items) (RateWin.count_le_again src key items) s.evt.wins n
    simp only [State.told, h]
    omega

/-- A raise changes nothing of the event unit but its records and its windows. -/
theorem raise_evt_rest (s : State) (src : Nat) (items : List Item) (grain at_ : Option Nat) :
    (s.raise src items grain at_).evt.wdogHalf = s.evt.wdogHalf ∧ (s.raise src items grain at_).evt.jwriting = s.evt.jwriting := by
  rcases raise_evt_cases s src items grain at_ with ⟨r, -, h⟩ | ⟨r, w, -, -, h⟩ | ⟨v, key, -, -, -, h⟩
  all_goals
    rw [h]
    exact ⟨rfl, rfl⟩

/-- No source shows less often in `t` than in `s`. -/
def ToldGrows (s t : State) : Prop := ∀ n, s.told n ≤ t.told n

theorem ToldGrows.refl (s : State) : ToldGrows s s := fun _ => Nat.le_refl _

theorem ToldGrows.trans {s t u : State} (h1 : ToldGrows s t) (h2 : ToldGrows t u) : ToldGrows s u := fun n => Nat.le_trans (h1 n) (h2 n)

/-- An operation that leaves the event unit alone hides no event. -/
theorem ToldGrows.of_keep {m : Nat} {s t : State} (k : Keep m s t) (hm : m.testBit 34 = false) : ToldGrows s t :=
  fun n => (told_of_evt (k.parts .evt hm) n).ge

theorem ToldGrows.raise (s : State) (src : Nat) (items : List Item) (grain at_ : Option Nat) : ToldGrows s (s.raise src items grain at_) :=
  told_le_raise s src items grain at_

theorem ToldGrows.ite {s t u : State} {c : Prop} [Decidable c] (ht : ToldGrows s t) (hu : ToldGrows s u) :
    ToldGrows s (if c then t else u) := by
  split
  · exact ht
  · exact hu

theorem ToldGrows.forEach {α : Type} {l : List α} {f : α → State → State} (h : ∀ x u, ToldGrows u (f x u)) (s : State) :
    ToldGrows s (forEach l f s) := by
  induction l generalizing s with
  | nil => exact .refl s
  | cons x l ih => exact (h x s).trans (ih (f x s))

theorem ToldGrows.calAdd (s : State) (e n : Nat) : ToldGrows s (s.calAdd e n) := by
  have hbump : ToldGrows s (s.calBump 1536 e n).1 := .of_keep (State.calBump_keep ..) rfl
  unfold State.calAdd
  generalize s.calBump 1536 e n = p at hbump ⊢
  exact hbump.trans (.forEach (fun _ u => .raise u _ _ _ _) p.1)

theorem ToldGrows.calFilteredOne (s : State) (j n : Nat) (agent : Option Nat) : ToldGrows s (s.calFilteredOne j n agent) := by
  have hset (v : Nat) : Keep 0x100000 s (s.wr64 CAL_CNTe_LO.COUNT v (1408 + j)) := (Keep.refl _ s).wr64 .cal rfl rfl
  unfold State.calFilteredOne
  refine .ite (.refl s) (.ite ?_ (.calAdd _ _ _))
  extract_lets v u
  refine .ite (.of_keep (hset v) rfl) (.trans (t := u) (.trans (.of_keep (hset 0) rfl) (.calAdd _ _ _)) ?_)
  split
  · exact fun k => (told_of_evt (State.out_evt ..) k).ge
  · exact .raise u _ _ _ _

/-- Counting an occurrence hides no event; a wrap or a sample may raise one. -/
theorem ToldGrows.cal (s : State) (e n : Nat) (a : CalAttr) : ToldGrows s (s.cal e n a) :=
  .trans (.ite (.refl s) (.calAdd _ _ _)) (.forEach (fun j u => .calFilteredOne u j n a.agent) _)

/-! ## Registers after a write elsewhere -/

theorem on_wr_same {s : State} (h : s.wf = true) {f : Fld} {i j : Nat} (hb : f.lo + f.w ≤ 32) (hw : f.w = 1)
    (hf : f.fits i j = true) (b : Bool) :
    (s.wr f (b2n b) i j).on f i j = b := by
  rw [State.on, rd_wr_same h hb hf, hw]
  cases b <;> rfl

theorem reg_wr_other {s : State} (h : s.wf = true) {f : Fld} {v i j a : Nat} (ha : a ≠ f.addr i j) : (s.wr f v i j).reg a = s.reg a := by
  unfold State.wr
  split
  · exact reg_setReg_other h _ ha
  · rfl

theorem reg_wr64_other {s : State} (h : s.wf = true) {f : Fld} {v i j a : Nat} (hlo : a ≠ f.addr i j) (hhi : a ≠ f.addr i j + 4) :
    (s.wr64 f v i j).reg a = s.reg a := by
  unfold State.wr64
  split
  · rw [reg_setReg_other (setReg_wf h _ _) _ hhi, reg_setReg_other h _ hlo]
  · rfl

theorem rd_of_reg {s t : State} {f : Fld} {i j : Nat} (h : t.reg (f.addr i j) = s.reg (f.addr i j)) : t.rd f i j = s.rd f i j := by
  rw [State.rd, h, State.rd]

theorem on_of_rd {s t : State} {f : Fld} {i j : Nat} (h : t.rd f i j = s.rd f i j) : t.on f i j = s.on f i j := by
  rw [State.on, h, State.on]

theorem rd64_of_reg {s t : State} {f : Fld} {i j : Nat} (hlo : t.reg (f.addr i j) = s.reg (f.addr i j))
    (hhi : t.reg (f.addr i j + 4) = s.reg (f.addr i j + 4)) : t.rd64 f i j = s.rd64 f i j := by
  rw [State.rd64, hlo, hhi, State.rd64]

theorem rd64_count_same {s : State} (h : s.wf = true) {f : Fld} {i j : Nat} (hf : f.fits i j = true) :
    (s.count f i j).rd64 f i j = (s.rd64 f i j + 1) % 2 ^ 64 := by
  rw [State.count, rd64_wr64_same h hf, Nat.mod_mod]

/-! ## The start of a refusal (R464) -/

/-- Writes are refused from this tick on. -/
def State.nvRefused (s : State) : State :=
  (s.wr PWR_STATUS.NV_REFUSED 1).setPwr { s.pwr with nvFrom := s.tick, clearFrom := none }

theorem nvRefused_keep (s : State) : Keep 0x80000000000002 s s.nvRefused :=
  (State.setPwr_keep ..).step ((Keep.refl _ s).wr .pwr rfl rfl) rfl

/-- The refusal as PWR shows and counts it. -/
def State.nvMarked (s : State) : State := s.nvRefused.count PWR_cnt_LO.COUNT 0

theorem nvMarked_keep (s : State) : Keep 0x80000000000002 s s.nvMarked := (nvRefused_keep s).count .pwr rfl rfl

theorem nvMarked_pwr (s : State) : s.nvMarked.pwr = { s.pwr with nvFrom := s.tick, clearFrom := none } := rfl

/-- The refusal with its event, source 8. -/
def State.nvTold (s : State) (c : Nat) : State :=
  (s.nvMarked.cal 48).raise 8 [i8 c, i16 (s.nvRefused.rd PWR_VIN.LEVEL)]

theorem nvTold_keep (s : State) (c : Nat) : Keep 0x1000000400100004 s.nvMarked (s.nvTold c) :=
  (State.raise_keep ..).step (State.cal_keep ..) rfl

theorem nvBegin_eq {s : State} (c : Nat) (h : s.on PWR_STATUS.NV_REFUSED = false) :
    s.nvBegin c = (State.showJournal { s.nvTold c with evt := { (s.nvTold c).evt with jwriting := false } }).showSpiWp :=
  if_neg (by simp [h])

/-- Past its registers the start of a refusal touches the event unit, Calipers and SPI_WP_N only. -/
theorem nvBegin_keep_marked {s : State} (c : Nat) (h : s.on PWR_STATUS.NV_REFUSED = false) :
    Keep 0x1000000600100004 s.nvMarked (s.nvBegin c) := by
  have htold : Keep 0x1000000600100004 s.nvMarked (s.nvTold c) := (nvTold_keep s c).mono rfl
  rw [nvBegin_eq c h]
  exact (State.showSpiWp_keep ..).step ((State.showJournal_keep ..).step (htold.evt _ rfl) rfl) rfl

theorem nvBegin_evt {s : State} (c : Nat) (h : s.on PWR_STATUS.NV_REFUSED = false) :
    (s.nvBegin c).evt = { (s.nvTold c).evt with jwriting := false } := by
  rw [nvBegin_eq c h, (State.showSpiWp_keep _).parts .evt rfl, (State.showJournal_keep _).parts .evt rfl]

theorem told_nvBegin {s : State} (c : Nat) (h : s.on PWR_STATUS.NV_REFUSED = false) (n : Nat) :
    (s.nvBegin c).told n = (s.nvTold c).told n := by
  rw [State.told, nvBegin_evt c h, State.told]

theorem ToldGrows.nvMarked_cal (s : State) : ToldGrows s (s.nvMarked.cal 48) :=
  .trans (.of_keep (nvMarked_keep s) rfl) (.cal _ _ _ _)

/-- A refusal begins with source 8. -/
theorem nvBegin_told {s : State} (c : Nat) (h : s.on PWR_STATUS.NV_REFUSED = false) : s.told 8 < (s.nvBegin c).told 8 := by
  rw [told_nvBegin c h]
  exact Nat.lt_of_le_of_lt (ToldGrows.nvMarked_cal s 8) (told_lt_raise ..)

theorem ToldGrows.nvBegin {s : State} (c : Nat) (h : s.on PWR_STATUS.NV_REFUSED = false) : ToldGrows s (s.nvBegin c) := by
  intro n
  rw [told_nvBegin c h]
  exact Nat.le_trans (ToldGrows.nvMarked_cal s n) (told_le_raise ..)

theorem nvBegin_pwrfailN {s : State} (c : Nat) (h : s.on PWR_STATUS.NV_REFUSED = false) :
    (s.nvBegin c).pins.pwrfailN = s.pins.pwrfailN := by
  have hpins : (s.nvTold c).pins = s.pins := ((nvTold_keep s c).parts .pins rfl).trans ((nvMarked_keep s).parts .pins rfl)
  have hshow : ∀ u : State, u.showSpiWp.pins.pwrfailN = u.pins.pwrfailN := fun _ => rfl
  rw [nvBegin_eq c h, hshow, (State.showJournal_keep _).parts .pins rfl, hpins]

theorem nvBegin_pwr {s : State} (c : Nat) (h : s.on PWR_STATUS.NV_REFUSED = false) :
    (s.nvBegin c).pwr = { s.pwr with nvFrom := s.tick, clearFrom := none } :=
  ((nvBegin_keep_marked c h).parts .pwr rfl).trans (nvMarked_pwr s)

/-- The start of a refusal leaves every register of PWR but its status and its first counter. -/
theorem reg_nvBegin {s : State} (hwf : s.wf = true) (c : Nat) (h : s.on PWR_STATUS.NV_REFUSED = false) {a : Nat} (hz : zoneNo a = 1)
    (hst : a ≠ PWR_STATUS.NV_REFUSED.addr 0 0) (hlo : a ≠ PWR_cnt_LO.COUNT.addr 0 0) (hhi : a ≠ PWR_cnt_LO.COUNT.addr 0 0 + 4) :
    (s.nvBegin c).reg a = s.reg a := by
  rw [(nvBegin_keep_marked c h).regs ((nvMarked_keep s).wf hwf) a (by rw [hz]; rfl)]
  exact (reg_wr64_other ((nvRefused_keep s).wf hwf) hlo hhi).trans (reg_wr_other hwf hst)

theorem rd_nvMarked_status {s : State} (hwf : s.wf = true) {f : Fld} (hf : f.addr 0 0 = PWR_STATUS.NV_REFUSED.addr 0 0) :
    s.nvMarked.rd f = (s.wr PWR_STATUS.NV_REFUSED 1).rd f :=
  rd_of_reg (reg_wr64_other ((nvRefused_keep s).wf hwf) (by rw [hf]; decide) (by rw [hf]; decide))

/-- Of the status of PWR the start of a refusal changes NV_REFUSED alone. -/
theorem rd_nvBegin_status {s : State} (hwf : s.wf = true) (c : Nat) (h : s.on PWR_STATUS.NV_REFUSED = false) {f : Fld}
    (hf : f.addr 0 0 = PWR_STATUS.NV_REFUSED.addr 0 0) : (s.nvBegin c).rd f = (s.wr PWR_STATUS.NV_REFUSED 1).rd f := by
  rw [(nvBegin_keep_marked c h).rd ((nvMarked_keep s).wf hwf) f 0 0 (by rw [hf]; rfl), rd_nvMarked_status hwf hf]

theorem nvBegin_refuses {s : State} (hwf : s.wf = true) (c : Nat) (h : s.on PWR_STATUS.NV_REFUSED = false) :
    (s.nvBegin c).on PWR_STATUS.NV_REFUSED = true := by
  rw [State.on, rd_nvBegin_status hwf c h rfl, ← State.on]
  exact on_wr_same hwf (by decide) rfl rfl true

/-! ## Acting on the causes of a refusal -/

theorem nvCheck_of_cause {s : State} {c : Nat} (h : s.nvCause = some c) :
    s.nvCheck = (s.nvBegin c).setPwr { (s.nvBegin c).pwr with clearFrom := none } := by
  rw [State.nvCheck, h]

/-- Acting on the causes begins a refusal, or changes only since when they are clear. -/
theorem nvCheck_cases (s : State) :
    (∃ x, s.nvCheck = s.setPwr { s.pwr with clearFrom := x }) ∨
    (∃ c, s.on PWR_STATUS.NV_REFUSED = false ∧ s.nvCheck = s.nvBegin c) := by
  unfold State.nvCheck
  split
  case h_1 c hc =>
    cases h : s.on PWR_STATUS.NV_REFUSED with
    | true =>
      have hsame : s.nvBegin c = s := if_pos h
      exact .inl ⟨none, by rw [hsame]⟩
    | false =>
      have hpwr : { (s.nvBegin c).pwr with clearFrom := none } = (s.nvBegin c).pwr := by rw [nvBegin_pwr c h]
      exact .inr ⟨c, rfl, congrArg (s.nvBegin c).setPwr hpwr⟩
  case h_2 =>
    split
    · exact .inl ⟨s.pwr.clearFrom, rfl⟩
    · exact .inl ⟨_, rfl⟩

theorem nvCheck_pwr (s : State) : s.nvCheck.pwr.vin = s.pwr.vin ∧ s.nvCheck.pwr.powered = s.pwr.powered := by
  rcases nvCheck_cases s with ⟨x, h⟩ | ⟨c, hoff, h⟩
  · rw [h]
    exact ⟨rfl, rfl⟩
  · rw [h, nvBegin_pwr c hoff]
    exact ⟨rfl, rfl⟩

theorem reg_nvCheck {s : State} (hwf : s.wf = true) {a : Nat} (hz : zoneNo a = 1) (hst : a ≠ PWR_STATUS.NV_REFUSED.addr 0 0)
    (hlo : a ≠ PWR_cnt_LO.COUNT.addr 0 0) (hhi : a ≠ PWR_cnt_LO.COUNT.addr 0 0 + 4) : s.nvCheck.reg a = s.reg a := by
  rcases nvCheck_cases s with ⟨x, h⟩ | ⟨c, hoff, h⟩
  · rw [h]
    rfl
  · rw [h, reg_nvBegin hwf c hoff hz hst hlo hhi]

/-- Acting on the causes changes of the status of PWR at most NV_REFUSED. -/
theorem rd_nvCheck_status {s : State} (hwf : s.wf = true) {f : Fld} (hf : f.addr 0 0 = PWR_STATUS.NV_REFUSED.addr 0 0)
    (hbits : f.lo + f.w ≤ PWR_STATUS.NV_REFUSED.lo) : s.nvCheck.rd f = s.rd f := by
  rcases nvCheck_cases s with ⟨x, h⟩ | ⟨c, hoff, h⟩
  · rw [h]
    rfl
  · rw [h, rd_nvBegin_status hwf c hoff hf, rd_wr_bits hwf (by decide) (.inr hbits)]

theorem ToldGrows.nvCheck (s : State) : ToldGrows s s.nvCheck := by
  rcases nvCheck_cases s with ⟨x, h⟩ | ⟨c, hoff, h⟩
  · rw [h]
    exact .of_keep (State.setPwr_keep ..) rfl
  · rw [h]
    exact .nvBegin c hoff

/-- What begins where a cause is present and writes are not refused yet. -/
theorem nvCheck_begins {s : State} (hwf : s.wf = true) {c : Nat} (hcause : s.nvCause = some c)
    (hoff : s.on PWR_STATUS.NV_REFUSED = false) :
    s.nvCheck.on PWR_STATUS.NV_REFUSED = true ∧ s.told 8 < s.nvCheck.told 8 ∧ s.nvCheck.evt.jwriting = false ∧
      s.nvCheck.pins.pwrfailN = s.pins.pwrfailN := by
  rw [nvCheck_of_cause hcause]
  refine ⟨nvBegin_refuses hwf c hoff, nvBegin_told c hoff, ?_, nvBegin_pwrfailN c hoff⟩
  rw [State.setPwr_evt, nvBegin_evt c hoff]

/-! ## VIN (R461, R464, R477) -/

/-- VIN at `mv` as PWR_VIN shows it. -/
def State.vinLevel (s : State) (mv : Nat) : State :=
  (s.setPwr { s.pwr with vin := some mv }).wr PWR_VIN.LEVEL (min 0xFFFF (mv / 10))

theorem vinLevel_keep (s : State) (mv : Nat) : Keep 0x80000000000002 s (s.vinLevel mv) :=
  ((State.setPwr_keep s _).mono rfl).wr .pwr rfl rfl

theorem reg_vinLevel {s : State} (hwf : s.wf = true) (mv : Nat) {a : Nat} (ha : a ≠ PWR_VIN.LEVEL.addr 0 0) :
    (s.vinLevel mv).reg a = s.reg a :=
  reg_wr_other ((State.setPwr_keep s { s.pwr with vin := some mv }).wf hwf) ha

theorem rd_vinLevel {s : State} (hwf : s.wf = true) (mv : Nat) : (s.vinLevel mv).rd PWR_VIN.LEVEL = min 0xFFFF (mv / 10) := by
  have hset := rd_wr_same ((State.setPwr_keep s { s.pwr with vin := some mv }).wf hwf) (f := PWR_VIN.LEVEL) (v := min 0xFFFF (mv / 10))
    (i := 0) (j := 0) (by decide) rfl
  exact hset.trans (Nat.mod_eq_of_lt (Nat.lt_of_le_of_lt (Nat.min_le_left ..) (by decide)))

/-- VIN at `mv` as PWR shows it, before the refusals are looked at. -/
def State.vinShown (s : State) (mv : Nat) : State := (s.vinLevel mv).showVinLow

theorem setVin_eq (s : State) (mv : Nat) : s.setVin mv = (s.vinShown mv).nvCheck := rfl

theorem vinShown_keep (s : State) (mv : Nat) : Keep 0x80000000000002 s (s.vinShown mv) :=
  (State.showVinLow_keep _).step (vinLevel_keep s mv) rfl

theorem vinLevel_pwr (s : State) (mv : Nat) : (s.vinLevel mv).pwr = { s.pwr with vin := some mv } := rfl

theorem vinShown_pwr (s : State) (mv : Nat) : (s.vinShown mv).pwr = { s.pwr with vin := some mv } :=
  ((State.showVinLow_keep _).parts .pwr rfl).trans (vinLevel_pwr s mv)

theorem vinShown_eq {s : State} (hwf : s.wf = true) (mv : Nat) :
    s.vinShown mv = (s.vinLevel mv).wr PWR_STATUS.VIN_LOW (b2n (decide (mv < s.rd PWR_VNV.LOCK_MV))) := by
  have hlock : (s.vinLevel mv).rd PWR_VNV.LOCK_MV = s.rd PWR_VNV.LOCK_MV := rd_of_reg (reg_vinLevel hwf mv (by decide))
  rw [State.vinShown, State.showVinLow, vinLevel_pwr, hlock]

theorem reg_vinShown {s : State} (hwf : s.wf = true) (mv : Nat) {a : Nat} (hst : a ≠ PWR_STATUS.VIN_LOW.addr 0 0) :
    (s.vinShown mv).reg a = (s.vinLevel mv).reg a := by
  rw [vinShown_eq hwf, reg_wr_other ((vinLevel_keep s mv).wf hwf) hst]

/-- A new level of VIN changes of the status of PWR at most VIN_LOW. -/
theorem rd_vinShown_status {s : State} (hwf : s.wf = true) (mv : Nat) {f : Fld} (hf : f.addr 0 0 = PWR_STATUS.VIN_LOW.addr 0 0)
    (hbits : PWR_STATUS.VIN_LOW.lo + PWR_STATUS.VIN_LOW.w ≤ f.lo ∨ f.lo + f.w ≤ PWR_STATUS.VIN_LOW.lo) :
    (s.vinShown mv).rd f = s.rd f := by
  rw [vinShown_eq hwf, rd_wr_bits ((vinLevel_keep s mv).wf hwf) (by decide) hbits]
  exact rd_of_reg (reg_vinLevel hwf mv (by rw [hf]; decide))

theorem on_vinShown_vinLow {s : State} (hwf : s.wf = true) (mv : Nat) :
    (s.vinShown mv).on PWR_STATUS.VIN_LOW = decide (mv < s.rd PWR_VNV.LOCK_MV) := by
  rw [vinShown_eq hwf]
  exact on_wr_same ((vinLevel_keep s mv).wf hwf) (by decide) rfl rfl _

theorem setVin_pwr (s : State) (mv : Nat) : (s.setVin mv).pwr.vin = some mv ∧ (s.setVin mv).pwr.powered = s.pwr.powered := by
  obtain ⟨hvin, hpowered⟩ := nvCheck_pwr (s.vinShown mv)
  rw [setVin_eq, hvin, hpowered, vinShown_pwr]
  exact ⟨rfl, rfl⟩

theorem reg_setVin {s : State} (hwf : s.wf = true) (mv : Nat) {a : Nat} (hz : zoneNo a = 1) (hst : a ≠ PWR_STATUS.VIN_LOW.addr 0 0)
    (hlo : a ≠ PWR_cnt_LO.COUNT.addr 0 0) (hhi : a ≠ PWR_cnt_LO.COUNT.addr 0 0 + 4) : (s.setVin mv).reg a = (s.vinLevel mv).reg a := by
  rw [setVin_eq, reg_nvCheck ((vinShown_keep s mv).wf hwf) hz hst hlo hhi, reg_vinShown hwf mv hst]

theorem rd_setVin_level {s : State} (hwf : s.wf = true) (mv : Nat) : (s.setVin mv).rd PWR_VIN.LEVEL = min 0xFFFF (mv / 10) := by
  rw [rd_of_reg (reg_setVin hwf mv rfl (by decide) (by decide) (by decide)), rd_vinLevel hwf]

theorem setVin_pstate {s : State} (hwf : s.wf = true) (mv : Nat) : (s.setVin mv).pstate = s.pstate := by
  have hcheck := rd_nvCheck_status (f := PWR_STATUS.PSTATE) ((vinShown_keep s mv).wf hwf) rfl (by decide)
  exact hcheck.trans (rd_vinShown_status hwf mv rfl (.inr (by decide)))

theorem ToldGrows.setVin (s : State) (mv : Nat) : ToldGrows s (s.setVin mv) :=
  .trans (.of_keep (vinShown_keep s mv) rfl) (.nvCheck (s.vinShown mv))

/-! ## Leaving reset (R462, R463, R469) -/

theorem leaveReset_pwrOk (s : State) : s.leaveReset.pins.pwrOk = s.pins.pwrOk := by
  unfold State.leaveReset
  split <;> rfl

theorem leaveReset_of_mayRun {s : State} (hphase : s.boot.phase = 0) (hrun : s.mayRun = true) :
    s.leaveReset = State.setBoot { s with pins := { s.pins with rstoutN := true, faultN := true } } { s.boot with phase := 1 } :=
  if_pos (by simp [hphase, hrun])

/-! ## The watchdog and the supplies (R459, R461, R477) -/

theorem does_of_exec {c : Instr} {s t : State} {P : State → Prop} (h : exec c s = .next t) (hP : P t) : Does c s P := ⟨t, h, hP⟩

theorem advanceTo_le_tick (s : State) (t : Nat) : t ≤ (s.advanceTo t).tick := by
  unfold State.advanceTo
  split
  · assumption
  · exact Nat.le_of_eq (Nat.add_sub_cancel' (by omega)).symm

/-- Half the timeout of the watchdog is noted as told. -/
def State.wdogHalved (s : State) : State := { s with evt := { s.evt with wdogHalf := true } }

theorem exec_watchdogHalf {s : State} (hruns : s.wdogRuns = true) (hhalf : s.evt.wdogHalf = false) :
    exec .watchdogHalf s = .next ((s.advanceTo (s.evt.wdogFrom + 500000 * s.rd EVT_WDOG.TIMEOUT_MS)).wdogHalved.raise 7) :=
  if_neg (by simp [hruns, hhalf])

theorem watchdogHalf_does {s : State} (hruns : s.wdogRuns = true) (hhalf : s.evt.wdogHalf = false) :
    Does .watchdogHalf s (fun t => t.evt.wdogHalf = true ∧ s.told 7 < t.told 7 ∧
      s.evt.wdogFrom + 500000 * s.rd EVT_WDOG.TIMEOUT_MS ≤ t.tick) := by
  refine does_of_exec (exec_watchdogHalf hruns hhalf) ?_
  have hevt := (State.advanceTo_keep s (s.evt.wdogFrom + 500000 * s.rd EVT_WDOG.TIMEOUT_MS)).parts .evt rfl
  have htick := advanceTo_le_tick s (s.evt.wdogFrom + 500000 * s.rd EVT_WDOG.TIMEOUT_MS)
  generalize s.advanceTo (s.evt.wdogFrom + 500000 * s.rd EVT_WDOG.TIMEOUT_MS) = u at hevt htick ⊢
  refine ⟨(raise_evt_rest u.wdogHalved 7 [] none none).1, ?_, Nat.le_trans htick (State.raise_keep u.wdogHalved 7 [] none none).tick⟩
  calc s.told 7 = u.told 7 := (told_of_evt hevt 7).symm
    _ = u.wdogHalved.told 7 := rfl
    _ < (u.wdogHalved.raise 7).told 7 := told_lt_raise ..

theorem exec_vinOn {s : State} {mv : Nat} (hoff : ((s.setVin mv).pwr.powered && (s.setVin mv).pstate == 2) = false) :
    exec (.vinOn mv) s = .next (State.leaveReset { s.setVin mv with
      pwr := { (s.setVin mv).pwr with powered := true }, pins := { (s.setVin mv).pins with pwrOk := true } }) :=
  if_neg (by simp [hoff])

theorem vinOn_does {s : State} (mv : Nat) (hwf : s.wf = true) (hoff : s.pwr.powered = false ∨ s.pstate ≠ 2) :
    Does (.vinOn mv) s (fun t => t.pwr.powered = true ∧ t.pins.pwrOk = true ∧ t.pwr.vin = some mv ∧
      t.rd PWR_VIN.LEVEL = min 0xFFFF (mv / 10)) := by
  obtain ⟨hvin, hpowered⟩ := setVin_pwr s mv
  have hlevel := rd_setVin_level hwf mv
  have hwf' := (State.setVin_keep s mv).wf hwf
  have hrun : ((s.setVin mv).pwr.powered && (s.setVin mv).pstate == 2) = false := by
    rw [hpowered, setVin_pstate hwf]
    rcases hoff with h | h <;> simp [h]
  refine does_of_exec (exec_vinOn hrun) ?_
  generalize s.setVin mv = u at hvin hlevel hwf' ⊢
  rw [leaveReset_pwrOk, (State.leaveReset_keep _).parts .pwr rfl]
  exact ⟨rfl, rfl, hvin, ((State.leaveReset_keep _).rdIn .pwr (by exact hwf') rfl rfl rfl).trans hlevel⟩

theorem exec_vinOutOfRange {s : State} {mv : Nat} (hmv : mv < 6000 ∨ 60000 < mv) :
    exec (.vinOutOfRange mv) s = .next (((s.setVin mv).count PWR_cnt_LO.COUNT 3).raise 12 [i16 (min 0xFFFF (mv / 10))]) :=
  if_neg (by simp only [Bool.and_eq_true, decide_eq_true_eq]; omega)

theorem vinOutOfRange_does {s : State} (mv : Nat) (hwf : s.wf = true) (hmv : mv < 6000 ∨ 60000 < mv) :
    Does (.vinOutOfRange mv) s (fun t => s.told 12 < t.told 12 ∧ t.rd PWR_VIN.LEVEL = min 0xFFFF (mv / 10) ∧
      t.rd64 PWR_cnt_LO.COUNT 3 = (s.rd64 PWR_cnt_LO.COUNT 3 + 1) % 2 ^ 64) := by
  have hreg {a : Nat} (hz : zoneNo a = 1) (hst : a ≠ PWR_STATUS.VIN_LOW.addr 0 0) (hlevel : a ≠ PWR_VIN.LEVEL.addr 0 0)
      (hlo : a ≠ PWR_cnt_LO.COUNT.addr 0 0) (hhi : a ≠ PWR_cnt_LO.COUNT.addr 0 0 + 4) : (s.setVin mv).reg a = s.reg a :=
    (reg_setVin hwf mv hz hst hlo hhi).trans (reg_vinLevel hwf mv hlevel)
  have hcount : (s.setVin mv).rd64 PWR_cnt_LO.COUNT 3 = s.rd64 PWR_cnt_LO.COUNT 3 :=
    rd64_of_reg (hreg rfl (by decide) (by decide) (by decide) (by decide)) (hreg rfl (by decide) (by decide) (by decide) (by decide))
  have hlevel := rd_setVin_level hwf mv
  have htold := ToldGrows.setVin s mv 12
  have hwf' := (State.setVin_keep s mv).wf hwf
  refine does_of_exec (exec_vinOutOfRange hmv) ?_
  generalize s.setVin mv = u at hcount hlevel htold hwf' ⊢
  have k := State.raise_keep (u.count PWR_cnt_LO.COUNT 3) 12 [i16 (min 0xFFFF (mv / 10))] none none
  have hwf'' : (u.count PWR_cnt_LO.COUNT 3).wf = true := wr64_wf hwf' ..
  refine ⟨?told, ?level, ?count⟩
  case told =>
    calc s.told 12 ≤ u.told 12 := htold
      _ = (u.count PWR_cnt_LO.COUNT 3).told 12 := rfl
      _ < _ := told_lt_raise ..
  case level =>
    rw [k.rdIn .pwr hwf'' rfl rfl rfl, ← hlevel]
    exact rd_of_reg (reg_wr64_other hwf' (by decide) (by decide))
  case count =>
    rw [rd64_of_reg (k.regs hwf'' _ rfl) (k.regs hwf'' _ rfl), rd64_count_same hwf' rfl, hcount]

theorem rd_setVaux {s : State} (hwf : s.wf = true) (mv : Nat) : (s.setVaux mv).rd PWR_VAUX.LEVEL = min 0xFFFF mv := by
  rw [State.setVaux, rd_wr_same hwf (by decide) rfl]
  exact Nat.mod_eq_of_lt (Nat.lt_of_le_of_lt (Nat.min_le_left ..) (by decide))

theorem exec_vauxWarning {s : State} {mv : Nat} (hmv : mv < 3100) :
    exec (.vauxWarning mv) s = .next ((s.setVaux mv).raise 14 [i16 mv]) :=
  congrArg ok (if_pos hmv)

theorem vauxWarning_does {s : State} (mv : Nat) (hwf : s.wf = true) (hmv : mv < 3100) :
    Does (.vauxWarning mv) s (fun t => s.told 14 < t.told 14 ∧ t.rd PWR_VAUX.LEVEL = mv) := by
  have k := State.setVaux_keep s mv
  refine does_of_exec (exec_vauxWarning hmv) ⟨?_, ?_⟩
  · rw [← told_of_evt (k.parts .evt rfl) 14]
    exact told_lt_raise ..
  · rw [(State.raise_keep ..).rdIn .pwr (k.wf hwf) rfl rfl rfl, rd_setVaux hwf]
    omega

theorem resetNRelease_does {s : State} (hphase : s.boot.phase = 0) (hpowered : s.pwr.powered = true) (hvaux : s.pwr.vaux = true)
    (hhot : s.pwr.hot = false) (hok : s.pins.pwrOk = true) :
    Does .resetNRelease s (fun t => t.pins.resetN = true ∧ t.boot.phase = 1 ∧ t.pins.rstoutN = true ∧ t.pins.faultN = true) := by
  have hrun : State.mayRun { s with pins := { s.pins with resetN := true } } = true := by
    simp [State.mayRun, hpowered, hvaux, hhot, hok]
  exact does_of_exec (congrArg ok (leaveReset_of_mayRun hphase hrun)) ⟨rfl, rfl, rfl, rfl⟩

/-! ## Temperature (R463) -/

theorem unsgn_lt (w : Nat) (i : Int) : unsgn w i < 2 ^ w := by
  have := Int.emod_nonneg i (b := ((2 ^ w : Nat) : Int)) (by positivity)
  have := Int.emod_lt_of_pos i (b := ((2 ^ w : Nat) : Int)) (by positivity)
  unfold unsgn
  omega

theorem rd_setTemp {s : State} (hwf : s.wf = true) (c : Int) : (s.setTemp c).rd PWR_TEMP.DEGC = unsgn 16 c := by
  rw [State.setTemp, rd_wr_same hwf (by decide) rfl]
  exact Nat.mod_eq_of_lt (unsgn_lt 16 c)

/-- A reading does not move the threshold of the warning. -/
theorem warnAt_setTemp {s : State} (hwf : s.wf = true) (hready : s.blkReady .pwr = true) (c : Int) :
    (s.setTemp c).warnAt = some (16 * (s.rd PWR_THERM.WARN_C : Int)) := by
  have hwarn : (s.setTemp c).rd PWR_THERM.WARN_C = s.rd PWR_THERM.WARN_C := rd_wr_addr hwf (by decide)
  have hblk : (s.setTemp c).blkReady .pwr = true := by
    rw [State.blkReady, (State.setTemp_keep s c).rdIn .glb hwf rfl rfl rfl]
    exact hready
  rw [State.warnAt, hblk, hwarn, if_pos rfl]

/-- The pins at new levels. -/
def State.setPins (s : State) (p : Pins) : State := { s with pins := p }

theorem setPins_keep (s : State) (p : Pins) : Keep 0x200000000 s (s.setPins p) := (Keep.refl _ s).pins p rfl

/-- The warning on a state that has taken its reading, before source 13. -/
def State.thermalWarned (s : State) : State :=
  ((s.setPins { s.pins with thermN := false }).setPwr { s.pwr with warned := true }).count PWR_cnt_LO.COUNT 4

theorem thermalWarned_keep (s : State) : Keep 0x80000200000002 s s.thermalWarned :=
  ((State.setPwr_keep ..).step ((setPins_keep s _).mono rfl) rfl).count .pwr rfl rfl

theorem thermalWarned_pins (s : State) : s.thermalWarned.pins = { s.pins with thermN := false } := rfl

theorem thermalWarned_pwr (s : State) : s.thermalWarned.pwr = { s.pwr with warned := true } := rfl

theorem rd_thermalWarned_temp {s : State} (hwf : s.wf = true) : s.thermalWarned.rd PWR_TEMP.DEGC = s.rd PWR_TEMP.DEGC := by
  have k : Keep 0x80000200000000 s ((s.setPins { s.pins with thermN := false }).setPwr { s.pwr with warned := true }) :=
    (State.setPwr_keep ..).step ((setPins_keep s _).mono rfl) rfl
  exact (rd_of_reg (reg_wr64_other (k.wf hwf) (by decide) (by decide))).trans (k.rdIn .pwr hwf rfl rfl rfl)

theorem exec_thermalWarning {s : State} {c w : Int} (hwarn : (s.setTemp c).warnAt = some w) (hc : w ≤ c) (hnew : s.pwr.warned = false) :
    exec (.thermalWarning c) s = .next ((s.setTemp c).thermalWarned.raise 13 [i16 (unsgn 16 (c / 16))]) := by
  change execThermalWarning c s = _
  have hcold : ¬ c < w := by omega
  have hwarned : (s.setTemp c).pwr.warned = false := by rw [(State.setTemp_keep s c).parts .pwr rfl, hnew]
  simp only [execThermalWarning, hwarn, hcold, hwarned, if_false, Bool.false_eq_true]
  rfl

theorem thermalWarning_does {s : State} (c : Int) (hwf : s.wf = true) (hready : s.blkReady .pwr = true)
    (hc : 16 * (s.rd PWR_THERM.WARN_C : Int) ≤ c) (hnew : s.pwr.warned = false) :
    Does (.thermalWarning c) s (fun t => t.pins.thermN = false ∧ t.pwr.warned = true ∧ s.told 13 < t.told 13 ∧
      t.rd PWR_TEMP.DEGC = unsgn 16 c) := by
  refine does_of_exec (exec_thermalWarning (warnAt_setTemp hwf hready c) hc hnew) ?_
  have hevt := (State.setTemp_keep s c).parts .evt rfl
  have hwf' := (State.setTemp_keep s c).wf hwf
  have htemp := rd_setTemp hwf c
  generalize s.setTemp c = u at hevt hwf' htemp ⊢
  have k := State.raise_keep u.thermalWarned 13 [i16 (unsgn 16 (c / 16))] none none
  rw [k.parts .pins rfl, k.parts .pwr rfl, thermalWarned_pins, thermalWarned_pwr,
    k.rdIn .pwr ((thermalWarned_keep u).wf hwf') rfl rfl rfl, rd_thermalWarned_temp hwf', htemp]
  refine ⟨rfl, rfl, ?_, rfl⟩
  calc s.told 13 = u.told 13 := (told_of_evt hevt 13).symm
    _ = u.thermalWarned.told 13 := (told_of_evt ((thermalWarned_keep u).parts .evt rfl) 13).symm
    _ < (u.thermalWarned.raise 13 [i16 (unsgn 16 (c / 16))]).told 13 := told_lt_raise ..

/-- The end of the warning on a state that has taken its reading. -/
def State.thermalCooled (s : State) : State :=
  (s.setPins { s.pins with thermN := true }).setPwr { s.pwr with warned := false }

theorem exec_thermalWarningEnd {s : State} {c w : Int} (hwarn : (s.setTemp c).warnAt = some w) (hc : c ≤ w - 80) :
    exec (.thermalWarningEnd c) s = .next (s.setTemp c).thermalCooled := by
  change execThermalWarningEnd c s = _
  have hcold : c < w := by omega
  simp only [execThermalWarningEnd, hwarn, hcold, hc, if_true]
  rfl

theorem thermalWarningEnd_does {s : State} (c : Int) (hwf : s.wf = true) (hready : s.blkReady .pwr = true)
    (hc : c ≤ 16 * (s.rd PWR_THERM.WARN_C : Int) - 80) :
    Does (.thermalWarningEnd c) s (fun t => t.pins.thermN = true ∧ t.pwr.warned = false ∧ t.rd PWR_TEMP.DEGC = unsgn 16 c) :=
  does_of_exec (exec_thermalWarningEnd (warnAt_setTemp hwf hready c) hc) ⟨rfl, rfl, rd_setTemp hwf c⟩

theorem exec_thermalTripClear {s : State} {c : Int} (hc : c ≤ 16 * 140) :
    exec (.thermalTripClear c) s = .next ((s.setTemp c).setPwr { (s.setTemp c).pwr with hot := false }).leaveReset :=
  if_neg (by omega)

theorem thermalTripClear_does {s : State} (c : Int) (hwf : s.wf = true) (hc : c ≤ 16 * 140) :
    Does (.thermalTripClear c) s (fun t => t.pwr.hot = false ∧ t.rd PWR_TEMP.DEGC = unsgn 16 c) := by
  have k := State.leaveReset_keep ((s.setTemp c).setPwr { (s.setTemp c).pwr with hot := false })
  have hwf' := (State.setPwr_keep _ { (s.setTemp c).pwr with hot := false }).wf ((State.setTemp_keep s c).wf hwf)
  refine does_of_exec (exec_thermalTripClear hc) ⟨?_, ?_⟩
  · rw [k.parts .pwr rfl]
    rfl
  · exact (k.rdIn .pwr hwf' rfl rfl rfl).trans (rd_setTemp hwf c)

/-! ## Refusals begin and end (R464) -/

/-- PWRFAIL_N as the device sees it. -/
def State.pwrfailTo (s : State) (high : Bool) : State :=
  (s.setPins { s.pins with pwrfailN := high }).wr PWR_STATUS.PWRFAIL (b2n !high)

theorem pwrfailTo_keep (s : State) (high : Bool) : Keep 0x200000002 s (s.pwrfailTo high) :=
  ((setPins_keep s _).mono rfl).wr .pwr rfl rfl

theorem on_pwrfailTo {s : State} (hwf : s.wf = true) (high : Bool) : (s.pwrfailTo high).on PWR_STATUS.PWRFAIL = !high :=
  on_wr_same ((setPins_keep s _).wf hwf) (by decide) rfl rfl (!high)

/-- PWRFAIL_N changes of the registers its bit of the status alone. -/
theorem rd_pwrfailTo {s : State} (hwf : s.wf = true) (high : Bool) {f : Fld}
    (hbits : PWR_STATUS.PWRFAIL.lo + PWR_STATUS.PWRFAIL.w ≤ f.lo ∨ f.lo + f.w ≤ PWR_STATUS.PWRFAIL.lo ∨
      f.addr 0 0 ≠ PWR_STATUS.PWRFAIL.addr 0 0) : (s.pwrfailTo high).rd f = s.rd f := by
  have hwf' := (setPins_keep s { s.pins with pwrfailN := high }).wf hwf
  have hset : (s.setPins { s.pins with pwrfailN := high }).rd f = s.rd f := rfl
  rw [← hset]
  rcases hbits with h | h | h
  · exact rd_wr_bits hwf' (by decide) (.inl h)
  · exact rd_wr_bits hwf' (by decide) (.inr h)
  · exact rd_wr_addr hwf' h

theorem nvCause_of_pwrfail {s : State} (h : s.on PWR_STATUS.PWRFAIL = true) : ∃ c, s.nvCause = some c := by
  unfold State.nvCause
  rw [if_pos h]
  split
  · exact ⟨0, rfl⟩
  · exact ⟨1, rfl⟩

theorem nvCause_of_vinLow {s : State} (h : s.on PWR_STATUS.VIN_LOW = true) : s.nvCause = some 0 := if_pos h

theorem nvRefusalStart_pin_does {s : State} (mv : Nat) (hwf : s.wf = true) (hoff : s.on PWR_STATUS.NV_REFUSED = false) :
    Does (.nvRefusalStart true mv) s (fun t => t.pins.pwrfailN = false ∧ t.on PWR_STATUS.PWRFAIL = true ∧
      t.on PWR_STATUS.NV_REFUSED = true ∧ s.told 8 < t.told 8 ∧ t.evt.jwriting = false) := by
  have hwf' := (pwrfailTo_keep s false).wf hwf
  have hpf : (s.pwrfailTo false).on PWR_STATUS.PWRFAIL = true := on_pwrfailTo hwf false
  have hoff' : (s.pwrfailTo false).on PWR_STATUS.NV_REFUSED = false :=
    (on_of_rd (rd_pwrfailTo hwf false (.inl (by decide)))).trans hoff
  obtain ⟨c, hcause⟩ := nvCause_of_pwrfail hpf
  obtain ⟨hrefused, htold, hslot, hpin⟩ := nvCheck_begins hwf' hcause hoff'
  have hexec : exec (.nvRefusalStart true mv) s = .next (s.pwrfailTo false).nvCheck := rfl
  refine does_of_exec hexec ⟨hpin, ?_, hrefused, ?_, hslot⟩
  · exact (on_of_rd (rd_nvCheck_status (f := PWR_STATUS.PWRFAIL) hwf' rfl (by decide))).trans hpf
  · rwa [told_of_evt ((pwrfailTo_keep s false).parts .evt rfl)] at htold

theorem nvRefusalStart_vin_does {s : State} (mv : Nat) (hwf : s.wf = true) (hoff : s.on PWR_STATUS.NV_REFUSED = false)
    (hmv : mv < s.rd PWR_VNV.LOCK_MV) :
    Does (.nvRefusalStart false mv) s (fun t => t.on PWR_STATUS.VIN_LOW = true ∧ t.on PWR_STATUS.NV_REFUSED = true ∧
      s.told 8 < t.told 8 ∧ t.pwr.vin = some mv) := by
  have hwf' := (vinShown_keep s mv).wf hwf
  have hlow : (s.vinShown mv).on PWR_STATUS.VIN_LOW = true := by rw [on_vinShown_vinLow hwf, decide_eq_true hmv]
  have hoff' : (s.vinShown mv).on PWR_STATUS.NV_REFUSED = false :=
    (on_of_rd (rd_vinShown_status (f := PWR_STATUS.NV_REFUSED) hwf mv rfl (.inl (by decide)))).trans hoff
  obtain ⟨hrefused, htold, -, -⟩ := nvCheck_begins hwf' (nvCause_of_vinLow hlow) hoff'
  have hexec : exec (.nvRefusalStart false mv) s = .next (s.vinShown mv).nvCheck := rfl
  refine does_of_exec hexec ⟨?_, hrefused, ?_, (setVin_pwr s mv).1⟩
  · exact (on_of_rd (rd_nvCheck_status (f := PWR_STATUS.VIN_LOW) hwf' rfl (by decide))).trans hlow
  · rwa [told_of_evt ((vinShown_keep s mv).parts .evt rfl)] at htold

/-- Acting on the causes while none is present: their being clear counts from now, or from when it already did. -/
theorem nvCheck_of_clear {s : State} (hcause : s.nvCause = none) (hrefused : s.on PWR_STATUS.NV_REFUSED = true)
    (hclear : s.nvClear = true) :
    s.nvCheck = s.setPwr { s.pwr with clearFrom := some (s.pwr.clearFrom.getD s.tick) } := by
  simp [State.nvCheck, hcause, hrefused, hclear]

theorem on_setPwr (s : State) (p : PwrSt) (f : Fld) (i j : Nat) : (s.setPwr p).on f i j = s.on f i j := rfl

/-- VIN above the lock and its hysteresis, with PWRFAIL_N deasserted: the end of the refusal counts from now. -/
theorem setVin_clear {s : State} {mv : Nat} (hwf : s.wf = true) (hrefused : s.on PWR_STATUS.NV_REFUSED = true)
    (hpf : s.on PWR_STATUS.PWRFAIL = false) (hmv : s.rd PWR_VNV.LOCK_MV + s.rd PWR_VNV.HYST_MV ≤ mv) (hfrom : s.pwr.clearFrom = none) :
    (s.setVin mv).pwr.clearFrom = some s.tick ∧ (s.setVin mv).on PWR_STATUS.VIN_LOW = false ∧
      (s.setVin mv).on PWR_STATUS.PWRFAIL = false := by
  have hvnv {f : Fld} (hf : f.addr 0 0 = PWR_VNV.LOCK_MV.addr 0 0) : (s.vinShown mv).rd f = s.rd f :=
    rd_of_reg ((reg_vinShown hwf mv (by rw [hf]; decide)).trans (reg_vinLevel hwf mv (by rw [hf]; decide)))
  have hlow : (s.vinShown mv).on PWR_STATUS.VIN_LOW = false := by
    rw [on_vinShown_vinLow hwf, decide_eq_false (by omega)]
  have hpf' : (s.vinShown mv).on PWR_STATUS.PWRFAIL = false :=
    (on_of_rd (rd_vinShown_status (f := PWR_STATUS.PWRFAIL) hwf mv rfl (.inl (by decide)))).trans hpf
  have hrefused' : (s.vinShown mv).on PWR_STATUS.NV_REFUSED = true :=
    (on_of_rd (rd_vinShown_status (f := PWR_STATUS.NV_REFUSED) hwf mv rfl (.inl (by decide)))).trans hrefused
  have hcause : (s.vinShown mv).nvCause = none := by simp [State.nvCause, hlow, hpf']
  have hclear : (s.vinShown mv).nvClear = true := by
    simp [State.nvClear, hpf', vinShown_pwr, hvnv (f := PWR_VNV.LOCK_MV) rfl, hvnv (f := PWR_VNV.HYST_MV) rfl, hmv]
  have htick : (s.vinShown mv).tick = s.tick := (vinShown_keep s mv).parts .tick rfl
  rw [setVin_eq, nvCheck_of_clear hcause hrefused' hclear, vinShown_pwr, hfrom, htick]
  exact ⟨rfl, (on_setPwr ..).trans hlow, (on_setPwr ..).trans hpf'⟩

/-- The end of a refusal at this instant: source 9, and what waited goes on. -/
def State.nvEnded (s : State) : State :=
  (((s.wr PWR_STATUS.NV_REFUSED 0).setPwr { s.pwr with clearFrom := none }).raise 9
    [i32 (min (2 ^ 32 - 1) ((s.tick - s.pwr.nvFrom) / 1000))]).nvResume

/-- Past NV_REFUSED the end of a refusal touches no register of PWR. -/
theorem nvEnded_keep (s : State) :
    Keep 0x58100076007c3004 ((s.wr PWR_STATUS.NV_REFUSED 0).setPwr { s.pwr with clearFrom := none }) s.nvEnded :=
  (State.nvResume_keep _).step ((State.raise_keep ..).mono rfl) rfl

theorem tick_le_nvEnded (s : State) : s.tick ≤ s.nvEnded.tick :=
  Nat.le_trans ((State.setPwr_keep ..).step ((Keep.refl 0x80000000000002 s).wr .pwr rfl rfl) rfl).tick (nvEnded_keep s).tick

theorem rd_nvEnded {s : State} (hwf : s.wf = true) {f : Fld} (hf : f.inBlk .pwr = true) (hfits : f.fits 0 0 = true) :
    s.nvEnded.rd f = (s.wr PWR_STATUS.NV_REFUSED 0).rd f :=
  (nvEnded_keep s).rdIn .pwr ((State.setPwr_keep ..).wf (wr_wf hwf ..)) hf hfits rfl

/-- The end of a refusal clears NV_REFUSED and leaves the causes as the status shows them. -/
theorem nvEnded_status {s : State} (hwf : s.wf = true) :
    s.nvEnded.on PWR_STATUS.NV_REFUSED = false ∧ s.nvEnded.on PWR_STATUS.PWRFAIL = s.on PWR_STATUS.PWRFAIL ∧
      s.nvEnded.on PWR_STATUS.VIN_LOW = s.on PWR_STATUS.VIN_LOW :=
  ⟨(on_of_rd (rd_nvEnded hwf rfl rfl)).trans (on_wr_same hwf (by decide) rfl rfl false),
    on_of_rd ((rd_nvEnded hwf rfl rfl).trans (rd_wr_bits hwf (by decide) (.inr (by decide)))),
    on_of_rd ((rd_nvEnded hwf rfl rfl).trans (rd_wr_bits hwf (by decide) (.inr (by decide))))⟩

theorem exec_nvRefusalEnd {s : State} {mv since t : Nat}
    (h : (((s.advanceTo since).pwrfailTo true).setVin mv).pwr.clearFrom = some t) :
    exec (.nvRefusalEnd mv since) s = .next ((((s.advanceTo since).pwrfailTo true).setVin mv).advanceTo (t + 10000000)).nvEnded := by
  have hmatch : exec (.nvRefusalEnd mv since) s =
      match (((s.advanceTo since).pwrfailTo true).setVin mv).pwr.clearFrom with
      | none => ok (((s.advanceTo since).pwrfailTo true).setVin mv)
      | some t => ok ((((s.advanceTo since).pwrfailTo true).setVin mv).advanceTo (t + 10000000)).nvEnded := rfl
  rw [hmatch, h]

/-- What tick `since`, with PWRFAIL_N deasserted, changes of what the end of a refusal asks for. -/
theorem pwrfailN_since {s : State} (since : Nat) (hwf : s.wf = true) :
    ((s.advanceTo since).pwrfailTo true).on PWR_STATUS.PWRFAIL = false ∧
      ∀ f ∈ [PWR_STATUS.NV_REFUSED, PWR_VNV.LOCK_MV, PWR_VNV.HYST_MV], ((s.advanceTo since).pwrfailTo true).rd f = s.rd f := by
  have k := State.advanceTo_keep s since
  refine ⟨on_pwrfailTo (k.wf hwf) true, fun f hf => ?_⟩
  have hfld : f.inBlk .pwr = true ∧ f.fits 0 0 = true ∧ (PWR_STATUS.PWRFAIL.lo + PWR_STATUS.PWRFAIL.w ≤ f.lo ∨
      f.lo + f.w ≤ PWR_STATUS.PWRFAIL.lo ∨ f.addr 0 0 ≠ PWR_STATUS.PWRFAIL.addr 0 0) := by
    revert f
    decide
  obtain ⟨hblk, hfits, hbits⟩ := hfld
  exact (rd_pwrfailTo (k.wf hwf) true hbits).trans (k.rdIn .pwr hwf hblk hfits rfl)

theorem nvRefusalEnd_does {s : State} (mv since : Nat) (hwf : s.wf = true) (hrefused : s.on PWR_STATUS.NV_REFUSED = true)
    (hmv : s.rd PWR_VNV.LOCK_MV + s.rd PWR_VNV.HYST_MV ≤ mv) (hfrom : s.pwr.clearFrom = none) :
    Does (.nvRefusalEnd mv since) s (fun t => max since s.tick + 10000000 ≤ t.tick ∧ t.on PWR_STATUS.NV_REFUSED = false ∧
      t.on PWR_STATUS.PWRFAIL = false ∧ t.on PWR_STATUS.VIN_LOW = false) := by
  have k : Keep 0x8000000a00000002 s ((s.advanceTo since).pwrfailTo true) :=
    (pwrfailTo_keep ..).step ((State.advanceTo_keep s since).mono rfl) rfl
  have htick : max since s.tick ≤ ((s.advanceTo since).pwrfailTo true).tick :=
    Nat.max_le.2 ⟨Nat.le_trans (advanceTo_le_tick s since) (pwrfailTo_keep ..).tick, k.tick⟩
  obtain ⟨hpf, hrd⟩ := pwrfailN_since since hwf
  obtain ⟨hclear, hlow, hpf'⟩ := setVin_clear (mv := mv) (k.wf hwf)
    ((on_of_rd (hrd PWR_STATUS.NV_REFUSED (by decide))).trans hrefused) hpf
    (by rwa [hrd PWR_VNV.LOCK_MV (by decide), hrd PWR_VNV.HYST_MV (by decide)])
    ((congrArg PwrSt.clearFrom (k.parts .pwr rfl)).trans hfrom)
  have hwf' := (State.setVin_keep ((s.advanceTo since).pwrfailTo true) mv).wf (k.wf hwf)
  refine does_of_exec (exec_nvRefusalEnd hclear) ?_
  generalize ((s.advanceTo since).pwrfailTo true).tick = t at htick ⊢
  generalize ((s.advanceTo since).pwrfailTo true).setVin mv = u at hlow hpf' hwf' ⊢
  have kt := State.advanceTo_keep u (t + 10000000)
  obtain ⟨hdone, hpfEnd, hlowEnd⟩ := nvEnded_status (kt.wf hwf')
  refine ⟨?_, hdone, ?_, ?_⟩
  · calc max since s.tick + 10000000 ≤ t + 10000000 := by omega
      _ ≤ (u.advanceTo (t + 10000000)).tick := advanceTo_le_tick ..
      _ ≤ (u.advanceTo (t + 10000000)).nvEnded.tick := tick_le_nvEnded _
  · rw [hpfEnd, on_of_rd (kt.rdIn .pwr hwf' rfl rfl rfl), hpf']
  · rw [hlowEnd, on_of_rd (kt.rdIn .pwr hwf' rfl rfl rfl), hlow]

/-! ## The JTAG port (R444, R488) -/

theorem fall_st (t : TapSt) : t.fall.st = t.st := by
  unfold TapSt.fall
  split
  case h_3 h => exact h.symm
  case h_2 => split <;> rfl
  all_goals rfl

theorem fall_dr (t : TapSt) : t.fall.dr = t.dr := by
  unfold TapSt.fall
  split
  case h_2 => split <;> rfl
  all_goals rfl

theorem fall_ir_of_updateIr {t : TapSt} (h : t.st = .updateIr) : t.fall.ir = bitNat t.irShift := by
  simp only [TapSt.fall, h]

/-- Capture-DR draws free values at most. -/
theorem tapCapture_same (s : State) : s.tapCapture.1.pins = s.pins ∧ s.tapCapture.1.regs = s.regs ∧ s.tapCapture.1.evt = s.evt := by
  unfold State.tapCapture
  extract_lets i
  split
  · exact ⟨rfl, rfl, rfl⟩
  · split <;> exact ⟨rfl, rfl, rfl⟩

/-- The rising edge moves neither the TAP's state nor a register nor the event unit. -/
theorem tapRise_same (s : State) (tdi : Bool) :
    (s.tapRise tdi).pins.tap.st = s.pins.tap.st ∧ (s.tapRise tdi).regs = s.regs ∧ (s.tapRise tdi).evt = s.evt := by
  unfold State.tapRise
  extract_lets t
  split
  case h_1 =>
    obtain ⟨-, hregs, hevt⟩ := tapCapture_same s
    exact ⟨rfl, hregs, hevt⟩
  all_goals exact ⟨rfl, rfl, rfl⟩

theorem tapRise_captureDr {s : State} (tdi : Bool) (h : s.pins.tap.st = .captureDr) :
    (s.tapRise tdi).pins.tap = { s.pins.tap with dr := s.tapCapture.2 } := by
  simp only [State.tapRise, h]
  rfl

theorem tapRise_exit1Ir {s : State} (tdi : Bool) (h : s.pins.tap.st = .exit1Ir) : s.tapRise tdi = s := by
  simp only [State.tapRise, h]

/-- One cycle of TCK while the pins serve the TAP. -/
theorem exec_tck {s : State} (tms tdi : Bool) (htrst : s.pins.trstN = true) (hmode : s.pins.jtagMode = false) :
    exec (.debugPortAttach (.tck tms tdi)) s = .next ((s.tapRise tdi).setTap
      (TapSt.fall { (s.tapRise tdi).pins.tap with st := s.pins.tap.st.next tms })) := by
  change ok (s.tapClock tms tdi) = _
  rw [State.tapClock, if_neg (by simp [htrst, hmode]), ← (tapRise_same s tdi).1]

theorem tck_does {s : State} (tms tdi : Bool) (htrst : s.pins.trstN = true) (hmode : s.pins.jtagMode = false) :
    Does (.debugPortAttach (.tck tms tdi)) s (fun t =>
      t.pins.tap.st = s.pins.tap.st.next tms ∧ t.regs = s.regs ∧ t.evt = s.evt) := by
  obtain ⟨-, hregs, hevt⟩ := tapRise_same s tdi
  exact does_of_exec (exec_tck tms tdi htrst hmode) ⟨fall_st _, hregs, hevt⟩

/-- In Capture-DR a cycle of TCK leaves what the instruction captures in the data register. -/
theorem tck_captureDr {s : State} (tms tdi : Bool) (htrst : s.pins.trstN = true) (hmode : s.pins.jtagMode = false)
    (hst : s.pins.tap.st = .captureDr) {P : List Bool → Prop} (hP : P s.tapCapture.2) :
    Does (.debugPortAttach (.tck tms tdi)) s (fun t => P t.pins.tap.dr) := by
  refine does_of_exec (exec_tck tms tdi htrst hmode) ?_
  rw [State.setTap, fall_dr, tapRise_captureDr tdi hst]
  exact hP

theorem tapCapture_idcode {s : State} (h : s.pins.tap.ir = 0x01) : s.tapCapture.2 = bitList 32 tapId := by
  simp [State.tapCapture, h, tapIdcode]

theorem tapCapture_bypass {s : State} (h : s.pins.tap.ir = 0xFF) : s.tapCapture.2 = [false] := by
  simp [State.tapCapture, h, tapIdcode, tapExtest, tapSample]

theorem tck_updateIr_does {s : State} (tdi : Bool) {l : List Bool} (htrst : s.pins.trstN = true) (hmode : s.pins.jtagMode = false)
    (hst : s.pins.tap.st = .exit1Ir) (hl : s.pins.tap.irShift = l) :
    Does (.debugPortAttach (.tck true tdi)) s (fun t => t.pins.tap.ir = bitNat l) := by
  refine does_of_exec (exec_tck true tdi htrst hmode) ?_
  rw [tapRise_exit1Ir tdi hst, ← hl]
  exact fall_ir_of_updateIr (by rw [hst]; rfl)

theorem tck_idle_does {s : State} (tms tdi : Bool) (h : s.pins.trstN = false ∨ s.pins.jtagMode = true) :
    Does (.debugPortAttach (.tck tms tdi)) s (fun t => t = s) :=
  does_of_exec rfl (if_pos (by rcases h with h | h <;> simp [h]))

theorem exec_jtagMode {s : State} {mode : Bool} (h : s.pins.jtagMode ≠ mode) :
    exec (.debugPortAttach (.mode mode)) s = .next ((s.setPins { s.pins with jtagMode := mode }).raise 496 [i8 (b2n mode)]) :=
  if_neg (by simpa using h)

theorem jtagMode_does {s : State} {mode : Bool} (h : s.pins.jtagMode ≠ mode) :
    Does (.debugPortAttach (.mode mode)) s (fun t => t.pins = { s.pins with jtagMode := mode } ∧ s.told 496 < t.told 496) := by
  have htold : s.told 496 < ((s.setPins { s.pins with jtagMode := mode }).raise 496 [i8 (b2n mode)]).told 496 :=
    told_lt_raise (s.setPins { s.pins with jtagMode := mode }) ..
  exact does_of_exec (exec_jtagMode h) ⟨(State.raise_keep ..).parts .pins rfl, htold⟩

theorem pwrOkGlitch_does (s : State) (rail : Nat) :
    Does (.pwrOkGlitch rail) s (fun t => s.told 15 < t.told 15 ∧ t.pins = s.pins ∧ t.pwr = s.pwr) :=
  does_of_exec rfl ⟨told_lt_raise .., (State.raise_keep ..).parts .pins rfl, (State.raise_keep ..).parts .pwr rfl⟩

/-- Settles O24: clause by clause, each command from its `exec_` equation and what its operations leave and change. -/
theorem supplyAndThermal : Obligations.SupplyAndThermal := by
  unfold Obligations.SupplyAndThermal
  refine ⟨?kick, ?half, ?vinOn, ?glitch, ?range, ?vaux, ?clk25, ?release, ?warn, ?warnEnd, ?tripClear, ?refusePin, ?refuseVin, ?refuseEnd,
    ?mode, ?trst, ?tck, ?idcode, ?bypass, ?updateIr, ?idle⟩
  case kick => exact fun _ => does_of_exec rfl ⟨rfl, rfl, rfl, rfl⟩
  case half => exact fun _ => watchdogHalf_does
  case vinOn => exact fun _ => vinOn_does
  case glitch => exact pwrOkGlitch_does
  case range => exact fun _ => vinOutOfRange_does
  case vaux => exact fun _ => vauxWarning_does
  case clk25 => exact fun _ _ => does_of_exec rfl rfl
  case release => exact fun _ => resetNRelease_does
  case warn => exact fun _ => thermalWarning_does
  case warnEnd => exact fun _ => thermalWarningEnd_does
  case tripClear => exact fun _ => thermalTripClear_does
  case refusePin => exact fun _ => nvRefusalStart_pin_does
  case refuseVin => exact fun _ => nvRefusalStart_vin_does
  case refuseEnd => exact fun _ => nvRefusalEnd_does
  case mode => exact fun _ _ => jtagMode_does
  case trst => exact fun _ => does_of_exec rfl ⟨rfl, rfl, rfl, rfl⟩
  case tck => exact fun _ => tck_does
  case idcode =>
    intro s tms tdi htrst hmode hst hir
    exact tck_captureDr tms tdi htrst hmode hst (P := fun l => l.length = 32 ∧ bitNat l = 0x15128FFF)
      (by rw [tapCapture_idcode hir]; decide)
  case bypass =>
    intro s tms tdi htrst hmode hst hir
    exact tck_captureDr tms tdi htrst hmode hst (P := fun l => l = [false]) (tapCapture_bypass hir)
  case updateIr => exact fun _ tdi _ => tck_updateIr_does tdi
  case idle => exact fun _ => tck_idle_does

end Sys2Proof.Machine

/-!
A step takes the command at the front of the queue; only reads answer; what accesses, the clock and the rows of samples leave as it was.
-/
namespace Sys2Proof.Machine

theorem step_of_pending {s : State} {c : Instr} {l : List Instr} (h : s.pending = c :: l) :
    step s = exec c { s with pending := l } := by
  rw [step, h]

/-- Settles O44: a step is its front command on the rest of the queue, which every command leaves alone (`exec_gives`). -/
theorem stepRunsTheFrontCommand : Obligations.StepRunsTheFrontCommand := by
  unfold Obligations.StepRunsTheFrontCommand
  intro s c l hpending
  have hstep := step_of_pending hpending
  obtain ⟨t, hexec, k⟩ := exec_gives c { s with pending := l }
  exact ⟨hstep, t, hstep.trans hexec, k.pending⟩

/-- A command whose line in the table `touch` does not name the answer leaves the last answer as it was. -/
theorem reply_of_exec {c : Instr} {s t : State} (h : exec c s = .next t) (hc : (touch c).testBit Part.reply.bit = false) :
    t.reply = s.reply := (exec_keep h).parts .reply hc

/-- Settles O50: the commands named are the reads; the line in `touch` of every other command does not name the answer. -/
theorem onlyReadsAnswer : Obligations.OnlyReadsAnswer := by
  unfold Obligations.OnlyReadsAnswer
  intro c s t h _
  cases c
  case unassignedAccess | refusedSizeAccess | splitLoRead | glbSyncRead | windowFirstWordRead | gtcNsRead | grainAngleRead | fwtPerrPop
    | channelReserve | memEccPop | mramDataRead | registerReadClear => trivial
  all_goals exact reply_of_exec h (by rw [touch]; rfl)

/-- Settles O52: the line in `touch` of each access, clock command and command of the samples stays within the zones and parts named. -/
theorem accessAndTimebaseFrame : Obligations.AccessAndTimebaseFrame := by
  unfold Obligations.AccessAndTimebaseFrame
  refine ⟨fun c s t hc h => only_of_exec h ?accesses, fun c s t hc h => only_of_exec h ?clocks,
    fun c s t hc h => only_of_exec h ?sampling⟩
  all_goals
    cases c
    any_goals contradiction
    all_goals (rw [touch]; rfl)

end Sys2Proof.Machine

/-!
Accesses that reach no register or are of a refused size, the halves of a register pair, and the indirect windows.
-/
namespace Sys2Proof.Machine

/-! ## Accesses that are counted as bad (R34, R35) -/

theorem cal_only (s : State) (e n : Nat) (a : CalAttr) : Only [some .evt, some .cal] [.evt, .sent] s (s.cal e n a) :=
  only_of_keep (State.cal_keep ..)

/-- A bad access counts once, in the saturating count of bad accesses. -/
theorem rd_bad_count {s : State} (hwf : s.wf = true) :
    s.bad.rd GLB_BAD_ACCESS.COUNT = min (s.rd GLB_BAD_ACCESS.COUNT + 1) (2 ^ 32 - 1) := by
  have hbump : (s.bump GLB_BAD_ACCESS.COUNT).wf = true := wr_wf hwf ..
  have hlt : min (s.rd GLB_BAD_ACCESS.COUNT + 1) (2 ^ 32 - 1) < 2 ^ 32 := by omega
  have hcal : s.bad.rd GLB_BAD_ACCESS.COUNT = (s.bump GLB_BAD_ACCESS.COUNT).rd GLB_BAD_ACCESS.COUNT :=
    (State.cal_keep ..).rdIn .glb hbump rfl rfl rfl
  rw [hcal, State.bump, rd_wr_same hwf (by decide) rfl]
  exact Nat.mod_eq_of_lt hlt

/-- A bad access changes no register but its count and what EVT and Calipers count. -/
theorem reg_bad_other {s : State} (hwf : s.wf = true) {a : Nat} (ha : a ≠ GLB_BAD_ACCESS.COUNT.base) (hevt : blkOfAddr a ≠ some .evt)
    (hcal : blkOfAddr a ≠ some .cal) : s.bad.reg a = s.reg a := by
  obtain ⟨hregs, -⟩ := cal_only (s.bump GLB_BAD_ACCESS.COUNT) 2 1 {}
  have hzone : blkOfAddr a ∉ [some Blk.evt, some Blk.cal] := by simp [hevt, hcal]
  exact (hregs (wr_wf hwf ..) a hzone).trans (reg_wr_other hwf ha)

theorem bad_reply (s : State) : s.bad.reply = s.reply := (State.bad_keep s).parts .reply rfl

/-- A bad access: a read of it answers `v`, a write is lost, and either is counted. -/
def State.badAccess (s : State) (read : Bool) (v : Nat) : State := if read then s.bad.answer v else s.bad

theorem badAccess_reply (s : State) (read : Bool) (v : Nat) : (s.badAccess read v).reply = if read then v else s.reply := by
  cases read
  · exact bad_reply s
  · rfl

theorem badAccess_reg (s : State) (read : Bool) (v a : Nat) : (s.badAccess read v).reg a = s.bad.reg a := by
  cases read <;> rfl

/-- What a bad access answers, that it is counted, and the registers that it leaves. -/
theorem badAccess_effect {s : State} (hwf : s.wf = true) (read : Bool) (v : Nat) :
    (s.badAccess read v).reply = (if read then v else s.reply) ∧
    (s.badAccess read v).rd GLB_BAD_ACCESS.COUNT = min (s.rd GLB_BAD_ACCESS.COUNT + 1) (2 ^ 32 - 1) ∧
    ∀ b, b ≠ GLB_BAD_ACCESS.COUNT.base → blkOfAddr b ≠ some .evt → blkOfAddr b ≠ some .cal → (s.badAccess read v).reg b = s.reg b :=
  ⟨badAccess_reply s read v, (rd_of_reg (badAccess_reg ..)).trans (rd_bad_count hwf),
    fun _ hb hevt hcal => (badAccess_reg ..).trans (reg_bad_other hwf hb hevt hcal)⟩

theorem exec_unassignedAccess_open {s : State} {who a : Nat} (read : Bool) (hopen : s.shut who = false)
    (hnone : s.fieldsAt (regKey who a) = none) (hid : who < 256 ∨ 0x18 ≤ a) :
    exec (.unassignedAccess who a read) s = .next (s.badAccess read (if a % 4 = 0 then 0 else 0xFFFFFFFF)) := by
  change execUnassignedAccess who a read s = _
  have hident : ¬ (256 ≤ who ∧ a < 0x18) := by omega
  rw [execUnassignedAccess, if_neg (by simp [hopen]), if_neg (by simpa [hnone] using fun hf ha => absurd ⟨hf, ha⟩ hident)]
  rfl

/-- Settles O2: such an access is a bad access (`badAccess_effect`). -/
theorem unassignedAccess : Obligations.UnassignedAccess := by
  unfold Obligations.UnassignedAccess
  intro s who a read hwf hopen hnone hid
  exact does_of_exec (exec_unassignedAccess_open read hopen hnone hid) (badAccess_effect hwf read _)

/-! ## The halves of a register pair (R36) -/

/-- Where the registers of a row lie. -/
theorem addr_of_covers {f : Fld} (hs1 : f.s1 ≠ 0) (h2 : f.n2 = 1) (hs2 : f.s2 = 0) {a : Nat} (h : f.covers a = true) :
    ∃ i, i < f.n1 ∧ a = f.addr i 0 := by
  simp only [Fld.covers, hs1, h2, hs2, if_false, if_true] at h
  split at h
  · cases h
  · simp only [Bool.and_eq_true, decide_eq_true_eq, beq_iff_eq] at h
    obtain ⟨⟨hi, -⟩, hr⟩ := h
    refine ⟨_, hi, ?_⟩
    have := Nat.div_add_mod (a - f.base) f.s1
    simp only [Fld.addr, hs2]
    omega

/-- FWT_PERR, TIM_GTC_NS and the Grain angles, whose reads act in ways of their own, are no _LO halves. -/
theorem special_of_isLo {k : Nat} (h : isLo k = true) : FWT_PERR.VALID.covers k = false ∧ TIM_GTC_NS.NS.covers k = false ∧
    TIM_GRAINn_ANGLE.ANGLE.covers k = false := by
  refine ⟨Bool.eq_false_iff.2 fun hc => ?perr, Bool.eq_false_iff.2 fun hc => ?gtc, Bool.eq_false_iff.2 fun hc => ?angle⟩
  case perr =>
    rw [(covers_single rfl rfl rfl rfl).1 hc] at h
    exact absurd h (by decide)
  case gtc =>
    rw [(covers_single rfl rfl rfl rfl).1 hc] at h
    exact absurd h (by decide)
  case angle =>
    obtain ⟨i, hi, rfl⟩ := addr_of_covers (by decide) rfl rfl hc
    have hnot : ∀ i, i < 4 → isLo (TIM_GRAINn_ANGLE.ANGLE.addr i 0) = false := by decide
    rw [hnot i hi] at h
    cases h

/-- What a read of the register at key `k` gives, before it changes anything. -/
def State.shownWord (s : State) (who k : Nat) (l : List Fld) : Nat := s.viewWord who k (s.liveWord who k l)

/-- A read of a _LO half copies the _HI half. -/
theorem regRead_lo {s : State} {who a : Nat} {l : List Fld} (hl : s.fieldsAt (regKey who a) = some l) (hid : who < 256 ∨ 0x18 ≤ a)
    (hlo : isLo (regKey who a) = true) (hhi : isHi (regKey who a) = false) (hcal : blkOfAddr (regKey who a) ≠ some .cal)
    (hecc : MEM_ECC_LO.ENTRY.covers (regKey who a) = false) (hmram : MEM_MRAM_DATA_LO.DATA.covers (regKey who a) = false) :
    s.regRead who a = ((s.copyHi who (regKey who a) (s.shownWord who (regKey who a + 4) ((s.fieldsAt (regKey who a + 4)).getD []))).clearRc
      (regKey who a) l).answer (s.shownWord who (regKey who a) l) := by
  obtain ⟨halign, hspace⟩ := address_of_fieldsAt hl
  obtain ⟨hperr, hgtc, hangle⟩ := special_of_isLo hlo
  have hident : ¬ (256 ≤ who ∧ a < 0x18) := by omega
  have hrom : ¬ romSpace ≤ a := by unfold romSpace; omega
  have hnvme : ¬ nvmeSpace ≤ a := by unfold nvmeSpace; omega
  have hbell : ¬ bellSpace ≤ a := by unfold bellSpace; omega
  simp [State.regRead, State.shownWord, halign, hident, hrom, hnvme, hbell, hl, hperr, hecc, hmram, hgtc, hangle, hcal, hlo, hhi]

theorem clearRc_rdHold (s : State) (a : Nat) (l : List Fld) : (s.clearRc a l).rdHold = s.rdHold := (State.clearRc_keep ..).parts .rdHold rfl

theorem copyHi_hold (s : State) (who lo hi : Nat) : tabGet (s.copyHi who lo hi).rdHold who = { valid := true, addr := lo, val := hi } :=
  cellGet_cellSet_ne _ _ (ne_of_apply_ne Hold.valid nofun)

theorem holdLo_hold (s : State) (who lo v : Nat) : tabGet (s.holdLo who lo v).wrHold who = { valid := true, addr := lo, val := v } :=
  cellGet_cellSet_ne _ _ (ne_of_apply_ne Hold.valid nofun)

theorem exec_splitLoRead_half {s : State} {who a : Nat} (hopen : s.shut who = false) (hlo : isLo (regKey who a) = true) :
    exec (.splitLoRead who a) s = .next (s.regRead who a) := by
  change execSplitLoRead who a s = _
  rw [execSplitLoRead, if_neg (by simp [hopen]), if_pos hlo]

theorem exec_splitLoWrite_half {s : State} {who a : Nat} (val : Word) (hopen : s.shut who = false) (hlo : isLo (regKey who a) = true) :
    exec (.splitLoWrite who a val) s = .next (s.regWrite who a val.toNat) := by
  change execSplitLoWrite who a val s = _
  rw [execSplitLoWrite, if_neg (by simp [hopen]), if_pos hlo]

theorem exec_splitHiWrite_half {s : State} {who a : Nat} (val : Word) (hopen : s.shut who = false) (hhi : isHi (regKey who a) = true) :
    exec (.splitHiWrite who a val) s = .next (s.regWrite who a val.toNat) := by
  change execSplitHiWrite who a val s = _
  rw [execSplitHiWrite, if_neg (by simp [hopen]), if_pos hhi]

/-- A write of a _LO half is held. -/
theorem regWrite_lo {s : State} {who a : Nat} {l : List Fld} (v : Nat) (hl : s.fieldsAt (regKey who a) = some l)
    (hid : who < 256 ∨ 0x18 ≤ a) (hacc : l.all (fun f => f.acc == .ro || f.acc == .rc) = false) (hlo : isLo (regKey who a) = true) :
    s.regWrite who a v = s.holdLo who (regKey who a) v := by
  have hident : ¬ (256 ≤ who ∧ a < 0x18) := by omega
  simp [State.regWrite, hident, hl, hacc, hlo]

/-- A write of a _HI half whose _LO half is held puts both words, the lower first. -/
theorem regWrite_hi_held {s : State} {who a : Nat} {l : List Fld} (v : Nat) (hl : s.fieldsAt (regKey who a) = some l)
    (hid : who < 256 ∨ 0x18 ≤ a) (hacc : l.all (fun f => f.acc == .ro || f.acc == .rc) = false) (hlo : isLo (regKey who a) = false)
    (hhi : isHi (regKey who a) = true) (hfreq : TIM_FREQ_ADJ_HI.ADJ.covers (regKey who a) = false)
    (hmram : MEM_MRAM_DATA_HI.DATA.covers (regKey who a) = false) (hvalid : (tabGet s.wrHold who).valid = true)
    (haddr : (tabGet s.wrHold who).addr = regKey who a - 4) :
    s.regWrite who a v = (State.putWord { s with wrHold := tabSet s.wrHold who {} } who (regKey who a - 4)
      (((tabGet s.wrHold who).val + v * 2 ^ 32) % 2 ^ 32) ((s.fieldsAt (regKey who a - 4)).getD [])).putWord who (regKey who a) v l := by
  have hident : ¬ (256 ≤ who ∧ a < 0x18) := by omega
  simp [State.regWrite, State.takeHi, hident, hl, hacc, hlo, hhi, hfreq, hmram, hvalid, haddr]

/-- Settles O3: a refused size is a bad access; the halves are held, copied and put as `regRead` and `regWrite` say. -/
theorem splitAccesses : Obligations.SplitAccesses := by
  unfold Obligations.SplitAccesses
  refine ⟨?size, ?sync, ?loRead, ?loWrite, ?hiWrite⟩
  case size => exact fun s read hwf => does_of_exec rfl (badAccess_effect hwf read 0xFFFFFFFF)
  case sync => exact fun s => does_of_exec rfl rfl
  case loRead =>
    intro s who a l hopen hl hlo hhi hcal hecc hmram hid
    refine does_of_exec (exec_splitLoRead_half hopen hlo) ?_
    rw [regRead_lo hl hid hlo hhi hcal hecc hmram, State.answer, clearRc_rdHold, copyHi_hold]
    exact ⟨rfl, rfl⟩
  case loWrite =>
    intro s who a val l hopen hl hlo hacc hid
    refine does_of_exec (exec_splitLoWrite_half val hopen hlo) ?_
    rw [regWrite_lo val.toNat hl hid hacc hlo]
    exact ⟨rfl, holdLo_hold ..⟩
  case hiWrite =>
    intro s who a val l hopen hl hlo hhi hacc hid hfreq hmram hvalid haddr
    exact does_of_exec (exec_splitHiWrite_half val hopen hhi) (regWrite_hi_held val.toNat hl hid hacc hlo hhi hfreq hmram hvalid haddr)

/-! ## The words of an indirect window (R45) -/

theorem winWord_setWinWord_same {s : State} (hwf : s.wf = true) (w : Nat) (shadow : Bool) (word : Nat) (v : Word) :
    (s.setWinWord w shadow word v).winWord w shadow word = v := by
  obtain ⟨-, hlive, hshadow, -⟩ := State.wf_iff.1 hwf
  cases shadow
  · exact cellGet_cellSet_same hlive ..
  · exact cellGet_cellSet_same hshadow ..

theorem winWord_setWinWord_other {s : State} (hwf : s.wf = true) {w : Nat} {shadow : Bool} {word k : Nat} (v : Word) (hk : k ≠ word) :
    (s.setWinWord w shadow word v).winWord w shadow k = s.winWord w shadow k := by
  obtain ⟨-, hlive, hshadow, -⟩ := State.wf_iff.1 hwf
  have hkey : winKey w k ≠ winKey w word := fun h => hk (Nat.add_left_cancel h)
  cases shadow
  · exact cellGet_cellSet_other hlive v hkey
  · exact cellGet_cellSet_other hshadow v hkey

/-- Words below those written are as they were. -/
theorem winWord_setWinNat_below {w : Nat} {shadow : Bool} {k : Nat} (n : Nat) {s : State} (hwf : s.wf = true) {word : Nat} (v : Nat)
    (hk : k < word) : (s.setWinNat w shadow word n v).winWord w shadow k = s.winWord w shadow k := by
  induction n generalizing s word v with
  | zero => rfl
  | succ n ih =>
    rw [State.setWinNat, ih ((State.setWinWord_keep ..).wf hwf) _ (by omega), winWord_setWinWord_other hwf _ (by omega)]

/-- The number that was stored in words of a window is read back from them. -/
theorem winNat_setWinNat {w : Nat} {shadow : Bool} (n : Nat) {s : State} (hwf : s.wf = true) (word v : Nat) :
    (s.setWinNat w shadow word n v).winNat w shadow word n = v % 2 ^ (32 * n) := by
  induction n generalizing s word v with
  | zero => exact (Nat.mod_one v).symm
  | succ n ih =>
    have hwf' : (s.setWinWord w shadow word (BitVec.ofNat 32 v)).wf = true := (State.setWinWord_keep ..).wf hwf
    rw [State.setWinNat, State.winNat, ih hwf', winWord_setWinNat_below n hwf' _ (Nat.lt_succ_self word), winWord_setWinWord_same hwf,
      BitVec.toNat_ofNat, Nat.mul_succ, Nat.add_comm (32 * n), Nat.pow_add, Nat.mod_mul]

/-! ## The commands of the windows (R45, R46) -/

/-- A copy of an entry of a bank, of which nothing is written yet. -/
def State.entryCopy (s : State) (w : Nat) (shadow : Bool) (e : Nat) : WinCopy :=
  { valid := true, entry := e, shadow := shadow, words := s.entryWords w shadow e }

/-- The entry in work of window `w`: the partly written one where it is the entry named, or a copy of that entry. -/
def State.entryInWork (s : State) (w : Nat) (shadow : Bool) (e : Nat) : WinCopy :=
  if (tabGet s.winWr w).valid && (tabGet s.winWr w).entry == e && (tabGet s.winWr w).shadow == shadow then tabGet s.winWr w
  else s.entryCopy w shadow e

theorem entryInWork_names (s : State) (w : Nat) (shadow : Bool) (e : Nat) :
    (s.entryInWork w shadow e).valid = true ∧ (s.entryInWork w shadow e).entry = e ∧ (s.entryInWork w shadow e).shadow = shadow := by
  unfold State.entryInWork
  split
  case isTrue h => simpa [and_assoc] using h
  case isFalse => exact ⟨rfl, rfl, rfl⟩

theorem entryInWork_held {s : State} {w : Nat} {shadow : Bool} {e : Nat} (hvalid : (tabGet s.winWr w).valid = true)
    (hentry : (tabGet s.winWr w).entry = e) (hshadow : (tabGet s.winWr w).shadow = shadow) :
    s.entryInWork w shadow e = tabGet s.winWr w := if_pos (by simp [hvalid, hentry, hshadow])

/-- The entry in work with word `k` written. -/
def State.entryWritten (s : State) (w : Nat) (shadow : Bool) (e k v : Nat) : WinCopy :=
  { s.entryInWork w shadow e with words := putAt (s.entryInWork w shadow e).words k v }

/-- Window `w` has `c` in work, and its status says whether that is a part of an entry. -/
def State.setInWork (s : State) (w : Nat) (c : WinCopy) (part : Nat) : State :=
  State.wr { s with winWr := tabSet s.winWr w c } GLB_WIN_STATUSn.PARTIAL part w

theorem setInWork_keep (s : State) (w : Nat) (c : WinCopy) (part : Nat) : Keep 0x8000001 s (s.setInWork w c part) :=
  ((Keep.refl _ s).winWr _ rfl).wr .glb rfl rfl

theorem rd_setInWork_partial {s : State} (hwf : s.wf = true) {w : Nat} (hw : w < 12) (c : WinCopy) {part : Nat} (hpart : part < 2) :
    (s.setInWork w c part).rd GLB_WIN_STATUSn.PARTIAL w = part := by
  have hfits : GLB_WIN_STATUSn.PARTIAL.fits w 0 = true := by simp [Fld.fits, GLB_WIN_STATUSn.PARTIAL, hw]
  exact (rd_wr_same (by exact hwf) (by decide) hfits).trans (Nat.mod_eq_of_lt hpart)

theorem setInWork_winWr (s : State) (w : Nat) {c : WinCopy} (part : Nat) (hc : c.valid = true) :
    tabGet (s.setInWork w c part).winWr w = c := by
  have hwr : (s.setInWork w c part).winWr = tabSet s.winWr w c := ((Keep.refl 1 _).wr .glb rfl rfl).parts .winWr rfl
  rw [hwr]
  exact cellGet_cellSet_ne _ _ (ne_of_apply_ne WinCopy.valid (by rw [hc]; nofun))

/-- The word named is there, and may be written. -/
theorem windowWord_there {s : State} {who off w e : Nat} {shadow : Bool} (hwho : who < 256) (hw : w < 12) (halign : off % 4 = 0)
    (he : e < winEntries w) (hwr : s.winWritable w shadow = true) :
    ¬ (decide (256 ≤ who) || decide (12 ≤ w) || off % 4 != 0 || decide (winEntries w ≤ e) || !s.winWritable w shadow) = true := by
  simpa [halign, hwr] using And.intro (And.intro hwho hw) he

/-- A word other than the last stays in work. -/
theorem exec_windowWordWrite_part {s : State} {who off w e k : Nat} {shadow : Bool} (val : Word) (hopen : s.shut who = false)
    (hat : s.winAt off = (w, shadow, e, k)) (hwho : who < 256) (hw : w < 12) (halign : off % 4 = 0) (he : e < winEntries w)
    (hwr : s.winWritable w shadow = true) (hk : k + 1 < winEntryWords w) :
    exec (.windowWordWrite who off val) s = .next (s.setInWork w (s.entryWritten w shadow e k val.toNat) 1) := by
  change execWindowWordWrite who off val s = _
  rw [execWindowWordWrite, if_neg (by simp [hopen]), hat]
  exact (if_neg (windowWord_there hwho hw halign he hwr)).trans (if_pos hk)

/-- The last word applies the entry in work, unless the table changed under it. -/
theorem exec_windowWordWrite_last {s : State} {who off w e k : Nat} {shadow : Bool} (val : Word) (hopen : s.shut who = false)
    (hat : s.winAt off = (w, shadow, e, k)) (hwho : who < 256) (hw : w < 12) (halign : off % 4 = 0) (he : e < winEntries w)
    (hwr : s.winWritable w shadow = true) (hk : ¬ k + 1 < winEntryWords w) (hsame : (s.entryInWork w shadow e).changed = false) :
    exec (.windowWordWrite who off val) s =
      .next ((s.setInWork w {} 0).winApply w shadow e (s.entryWritten w shadow e k val.toNat).words) := by
  have hsame' : ¬ (s.entryWritten w shadow e k val.toNat).changed = true := by simp [State.entryWritten, hsame]
  change execWindowWordWrite who off val s = _
  rw [execWindowWordWrite, if_neg (by simp [hopen]), hat]
  exact (if_neg (windowWord_there hwho hw halign he hwr)).trans ((if_neg hk).trans (congrArg ok (if_neg hsame')))

theorem exec_windowFirstWordRead_first {s : State} {who off w e : Nat} {shadow : Bool} (hopen : s.shut who = false)
    (hat : s.winAt off = (w, shadow, e, 0)) (hwho : who < 256) (hw : w < 12) (halign : off % 4 = 0) (he : e < winEntries w)
    (hhalf : w = 11 → shadow = false) : exec (.windowFirstWordRead who off) s =
      .next (State.answer { s with winRd := tabSet s.winRd w (s.entryCopy w shadow e) } ((s.entryWords w shadow e).getD 0 0)) := by
  have hthere : ¬ (decide (256 ≤ who) || decide (12 ≤ w) || off % 4 != 0 || decide (winEntries w ≤ e)) = true := by
    simpa [halign] using And.intro (And.intro hwho hw) he
  have hread : ¬ (decide (w = 11) && shadow) = true := by simpa using hhalf
  change execWindowFirstWordRead who off s = _
  rw [execWindowFirstWordRead, if_neg (by simp [hopen]), hat]
  exact (if_neg hthere).trans ((if_neg hread).trans (if_pos rfl))

theorem exec_windowPageSelect {s : State} {w : Nat} (page : Nat) (hw : w < 12) :
    exec (.windowPageSelect w page) s =
      .next ((State.wr { s with winWr := tabSet s.winWr w {} } GLB_WIN_PAGEn.PAGE page w).wr GLB_WIN_STATUSn.PARTIAL 0 w) :=
  if_neg (by omega)

theorem windowPageSelect_does {s : State} {w : Nat} (page : Nat) (hwf : s.wf = true) (hw : w < 12) :
    Does (.windowPageSelect w page) s (fun t => t.rd GLB_WIN_PAGEn.PAGE w = page % 16 ∧ t.rd GLB_WIN_STATUSn.PARTIAL w = 0) := by
  have hpage : GLB_WIN_PAGEn.PAGE.fits w 0 = true := by simp [Fld.fits, GLB_WIN_PAGEn.PAGE, hw]
  have hpartial : GLB_WIN_STATUSn.PARTIAL.fits w 0 = true := by simp [Fld.fits, GLB_WIN_STATUSn.PARTIAL, hw]
  have haddr : GLB_WIN_PAGEn.PAGE.addr w 0 ≠ GLB_WIN_STATUSn.PARTIAL.addr w 0 := by
    simp only [Fld.addr, GLB_WIN_PAGEn.PAGE, GLB_WIN_STATUSn.PARTIAL]
    omega
  refine does_of_exec (exec_windowPageSelect page hw) ⟨?_, ?_⟩
  · exact (rd_wr_addr (wr_wf (by exact hwf) ..) haddr).trans (rd_wr_same (by exact hwf) (by decide) hpage)
  · exact rd_wr_same (wr_wf (by exact hwf) ..) (by decide) hpartial

/-- The last word of an entry of windows 3 to 11 stores the whole entry. -/
theorem winApply_stores {s : State} (hwf : s.wf = true) {w : Nat} (hw : 3 ≤ w) (shadow : Bool) (e : Nat) (words : List Nat) :
    (s.winApply w shadow e words).winNat w shadow (e * winEntryWords w) (winEntryWords w) =
      winClean w (words.foldr (fun x acc => x % 2 ^ 32 + 2 ^ 32 * acc) 0) % 2 ^ (32 * winEntryWords w) ∧
    ∀ (f : Fld) (i j : Nat), (s.winApply w shadow e words).rd f i j = s.rd f i j := by
  have happly : s.winApply w shadow e words = s.setWinNat w shadow (e * winEntryWords w) (winEntryWords w)
      (winClean w (words.foldr (fun x acc => x % 2 ^ 32 + 2 ^ 32 * acc) 0)) := if_neg (by omega)
  obtain ⟨hregs, -⟩ : Only [] [.winLive, .winShadow] s (s.winApply w shadow e words) := by
    rw [happly]
    exact only_of_keep (State.setWinNat_keep ..)
  exact ⟨happly ▸ winNat_setWinNat _ hwf .., fun f i j => rd_of_reg (hregs hwf _ List.not_mem_nil)⟩

/-- Settles O6: the page and the words of a window by the equations above; what the last word stores is read back (`winNat_setWinNat`). -/
theorem indirectWindows : Obligations.IndirectWindows := by
  unfold Obligations.IndirectWindows
  refine ⟨fun s win page hwf hw => windowPageSelect_does page hwf hw, ?part, ?last, ?first⟩
  case part =>
    intro s who off w e k shadow val hwf hopen hat hwho hw halign he hwr hk
    obtain ⟨hvalid, hentry, hshadow⟩ := entryInWork_names s w shadow e
    have hkeep := setInWork_keep s w (s.entryWritten w shadow e k val.toNat) 1
    refine does_of_exec (exec_windowWordWrite_part val hopen hat hwho hw halign he hwr hk) ?_
    rw [setInWork_winWr s w (c := s.entryWritten w shadow e k val.toNat) 1 hvalid]
    exact ⟨hvalid, hentry, hshadow, rd_setInWork_partial hwf hw _ (by decide), hkeep.parts .winLive rfl, hkeep.parts .winShadow rfl⟩
  case last =>
    intro s who off w e shadow val hwf hopen hat hmany hwho hw3 hw halign he hwr hvalid hentry hshadow hsame
    have hheld := entryInWork_held hvalid hentry hshadow
    have hwf' : (s.setInWork w {} 0).wf = true := (setInWork_keep ..).wf hwf
    obtain ⟨hstored, hrd⟩ := winApply_stores hwf' hw3 shadow e (s.entryWritten w shadow e (winEntryWords w - 1) val.toNat).words
    refine does_of_exec (exec_windowWordWrite_last val hopen hat hwho hw halign he hwr (by omega) (by rw [hheld, hsame])) ⟨?_, ?_⟩
    · rw [hrd, rd_setInWork_partial hwf hw _ (by decide)]
    · rw [hstored, State.entryWritten, hheld]
  case first =>
    intro s who off w e shadow hopen hat hwho hw halign he hhalf
    exact does_of_exec (exec_windowFirstWordRead_first hopen hat hwho hw halign he hhalf)
      ⟨rfl, cellGet_cellSet_ne _ _ (ne_of_apply_ne WinCopy.valid nofun)⟩

end Sys2Proof.Machine

/-!
The staging window of a block: how it shows in STAGE_STATUS, what each of its commands does in each state, and which registers a
command of a window other than a commit can reach.
-/
namespace Sys2Proof.Machine

/-! ## How a window ends (R39, R41) -/

/-- The fields of STAGE_STATUS. -/
def statusFields : List Fld := [STAGE_STATUS.COMMITS, STAGE_STATUS.OWNER, STAGE_STATUS.DETAIL, STAGE_STATUS.RESULT, STAGE_STATUS.STATE]

theorem status_addr (b : Blk) {f : Fld} (hf : f ∈ statusFields) : f.addr b.base 0 = b.base + 0xFF4 := by
  have hrow : ∀ f ∈ statusFields, f.base = 0xFF4 ∧ f.s1 = 1 ∧ f.s2 = 0 := by decide
  obtain ⟨hbase, hs1, hs2⟩ := hrow f hf
  rw [Fld.addr, hbase, hs1, hs2]
  omega

theorem view_addr (b : Blk) : COMMIT_MARK.VIEW.addr b.base 0 = b.base + 0xFF8 := by
  simp only [Fld.addr, COMMIT_MARK.VIEW]
  omega

/-- A write of STAGE_STATUS changes no other register. -/
theorem reg_wr_status {s : State} (hwf : s.wf = true) {b : Blk} {f : Fld} (hf : f ∈ statusFields) (v : Nat) {a : Nat}
    (ha : a ≠ b.base + 0xFF4) : (s.wr f v b.base).reg a = s.reg a := reg_wr_other hwf (by rwa [status_addr b hf])

theorem stState_wr {s : State} (hwf : s.wf = true) (b : Blk) {st : Nat} (hst : st < 4) :
    (s.wr STAGE_STATUS.STATE st b.base).stState b = st :=
  (rd_wr_same hwf (by decide) rfl).trans (Nat.mod_eq_of_lt hst)

/-- A window that ends shows its RESULT and its new STATE. -/
def State.markEnd (s : State) (b : Blk) (result st : Nat) : State :=
  (s.wr STAGE_STATUS.RESULT result b.base).wr STAGE_STATUS.STATE st b.base

theorem markEnd_keep (s : State) (b : Blk) (result st : Nat) : Keep 0x7fffff s (s.markEnd b result st) :=
  ((Keep.refl _ s).wrAny rfl).wrAny rfl

theorem reg_markEnd_other {s : State} (hwf : s.wf = true) {b : Blk} (result st : Nat) {a : Nat} (ha : a ≠ b.base + 0xFF4) :
    (s.markEnd b result st).reg a = s.reg a :=
  (reg_wr_status (wr_wf hwf ..) (by decide) st ha).trans (reg_wr_status hwf (by decide) result ha)

theorem markEnd_shows {s : State} (hwf : s.wf = true) (b : Blk) {result st : Nat} (hst : st < 4) (hresult : result < 16) :
    (s.markEnd b result st).stState b = st ∧ (s.markEnd b result st).rd STAGE_STATUS.RESULT b.base = result :=
  ⟨stState_wr (wr_wf hwf ..) b hst, (rd_wr_bits (wr_wf hwf ..) (by decide) (.inl (by decide))).trans
    ((rd_wr_same hwf (by decide) rfl).trans (Nat.mod_eq_of_lt hresult))⟩

/-- A window that closes also loses its VIEW and what was staged. -/
theorem endStage_closed (s : State) (b : Blk) (result : Nat) :
    s.endStage b result 0 = ((s.markEnd b result 0).wr COMMIT_MARK.VIEW 0 b.base).setStage b {} := by
  rw [State.endStage]
  exact if_pos rfl

theorem endStage_open (s : State) (b : Blk) (result : Nat) {st : Nat} (hst : st ≠ 0) :
    s.endStage b result st = s.markEnd b result st := by
  rw [State.endStage]
  exact if_neg hst

theorem reg_setStage (s : State) (b : Blk) (x : StageSt) (a : Nat) : (s.setStage b x).reg a = s.reg a := rfl

/-- Beside what `markEnd` writes, the end of a window changes COMMIT_MARK of its block only. -/
theorem reg_endStage {s : State} (hwf : s.wf = true) {b : Blk} (result st : Nat) {a : Nat} (hview : a ≠ b.base + 0xFF8) :
    (s.endStage b result st).reg a = (s.markEnd b result st).reg a := by
  by_cases h0 : st = 0
  · subst h0
    rw [endStage_closed, reg_setStage, reg_wr_other ((markEnd_keep ..).wf hwf) (by rwa [view_addr])]
  · rw [endStage_open s b result h0]

theorem reg_endStage_other {s : State} (hwf : s.wf = true) {b : Blk} (result st : Nat) {a : Nat} (hst : a ≠ b.base + 0xFF4)
    (hview : a ≠ b.base + 0xFF8) : (s.endStage b result st).reg a = s.reg a :=
  (reg_endStage hwf result st hview).trans (reg_markEnd_other hwf result st hst)

theorem rd_endStage {s : State} (hwf : s.wf = true) (b : Blk) (result st : Nat) {f : Fld} (hf : f ∈ statusFields) :
    (s.endStage b result st).rd f b.base = (s.markEnd b result st).rd f b.base :=
  rd_of_reg (reg_endStage hwf result st (by rw [status_addr b hf]; omega))

theorem endStage_shows {s : State} (hwf : s.wf = true) (b : Blk) {result st : Nat} (hst : st < 4) (hresult : result < 16) :
    (s.endStage b result st).stState b = st ∧ (s.endStage b result st).rd STAGE_STATUS.RESULT b.base = result := by
  obtain ⟨hstate, hres⟩ := markEnd_shows hwf b hst hresult
  exact ⟨(rd_endStage hwf b result st (by decide)).trans hstate, (rd_endStage hwf b result st (by decide)).trans hres⟩

/-- A refused set: RESULT 2 with its DETAIL, and the window stays Open with what was staged. -/
theorem refuseStage_shows {s : State} (hwf : s.wf = true) (b : Blk) (d : Nat) :
    (s.refuseStage b d).stState b = 1 ∧ (s.refuseStage b d).rd STAGE_STATUS.RESULT b.base = 2 ∧
      (s.refuseStage b d).rd STAGE_STATUS.DETAIL b.base = d % 256 ∧ (s.refuseStage b d).stage = s.stage := by
  have k := markEnd_keep s b 2 1
  obtain ⟨hst, hresult⟩ := markEnd_shows hwf b (result := 2) (st := 1) (by decide) (by decide)
  rw [State.refuseStage, endStage_open s b 2 (by decide)]
  refine ⟨?_, ?_, ?_, ?_⟩
  · exact (rd_wr_bits (k.wf hwf) (by decide) (.inr (by decide))).trans hst
  · exact (rd_wr_bits (k.wf hwf) (by decide) (.inr (by decide))).trans hresult
  · exact rd_wr_same (k.wf hwf) (by decide) rfl
  · exact (k.wrAny rfl).parts .stage rfl

/-! ## The commands of a window, state by state (R39, R40, R42) -/

theorem stageOpen_of_closed {s : State} {who w : Nat} {b : Blk} (hw : ownerOf who = some w) (h : s.stState b = 0) :
    s.stageOpen who b = ((s.wr STAGE_STATUS.STATE 1 b.base).wr STAGE_STATUS.OWNER w b.base).setStage b {} := by
  simp [State.stageOpen, hw, h]

theorem stageOpen_of_not_closed {s : State} {b : Blk} (who : Nat) (h : s.stState b ≠ 0) : s.stageOpen who b = s.bad := by
  unfold State.stageOpen
  split
  · rfl
  · exact if_pos (by simpa using h)

theorem stageAbort_of_held {s : State} {who : Nat} {b : Blk} (h : s.stState b ≠ 0) (hwho : s.owns b who = true ∨ who = 0) :
    s.stageAbort who b = s.abortStage b := if_neg (by rcases hwho with h' | h' <;> simp [h, h'])

theorem stageAbort_of_closed {s : State} {b : Blk} (who : Nat) (h : s.stState b = 0) : s.stageAbort who b = s.bad := if_pos (by simp [h])

/-- COMMIT_NOW and ARM are taken from the owner of an Open window only. -/
theorem stageCommit_of_not_owned {s : State} {who : Nat} {b : Blk} (h : s.stState b ≠ 1 ∨ s.owns b who = false) :
    s.stageCommit who b = s.bad := if_pos (by rcases h with h | h <;> simp [h])

theorem stageArm_of_not_owned {s : State} {who : Nat} {b : Blk} (h : s.stState b ≠ 1 ∨ s.owns b who = false) :
    s.stageArm who b = s.bad := if_pos (by rcases h with h | h <;> simp [h])

theorem stageCommit_of_refused {s : State} {who d : Nat} {b : Blk} (h : s.stState b = 1) (howns : s.owns b who = true)
    (hrefusal : s.refusal b = some d) : s.stageCommit who b = s.refuseStage b d := by
  rw [State.stageCommit, if_neg (by simp [h, howns]), hrefusal]

theorem stageCommit_of_accepted {s : State} {who : Nat} {b : Blk} (h : s.stState b = 1) (howns : s.owns b who = true)
    (hrefusal : s.refusal b = none) : s.stageCommit who b = s.commitBlk b s.g0 := by
  rw [State.stageCommit, if_neg (by simp [h, howns]), hrefusal]

/-- The window of block `b` is Armed from now on, and its mark is reserved. -/
def State.armed (s : State) (b : Blk) : State :=
  let u : State := { s with markOwner := tabSet s.markOwner (s.rd COMMIT_MARK.MARK b.base) (b.bit + 1) }
  (u.setStage b { u.stageOf b with armTick := u.tick }).wr STAGE_STATUS.STATE 2 b.base

theorem stageArm_of_refused {s : State} {who d : Nat} {b : Blk} (h : s.stState b = 1) (howns : s.owns b who = true)
    (hrefusal : s.refusal b = some d) : s.stageArm who b = s.refuseStage b d := by
  rw [State.stageArm, if_neg (by simp [h, howns]), hrefusal]

theorem stageArm_of_accepted {s : State} {who : Nat} {b : Blk} (h : s.stState b = 1) (howns : s.owns b who = true)
    (hrefusal : s.refusal b = none) : s.stageArm who b =
      if tabGet s.markOwner (s.rd COMMIT_MARK.MARK b.base) ≠ 0 then s.endStage b 3 1 else s.armed b := by
  rw [State.stageArm, if_neg (by simp [h, howns]), hrefusal]
  simp only [bne_iff_ne]
  rfl

theorem stageBy_open {s : State} {who n : Nat} {b : Blk} (f : Blk → State) (hopen : s.shut who = false) (hb : stagedBlk n = some b) :
    s.stageBy who n f = .next (f b) := by
  rw [State.stageBy, if_neg (by simp [hopen]), hb]

theorem stageBy_shut {s : State} {who : Nat} (n : Nat) (f : Blk → State) (hshut : s.shut who = true) :
    s.stageBy who n f = .next (s.refuseWrite who) := if_pos hshut

theorem does_stageBy {s t : State} {who n : Nat} {b : Blk} {f : Blk → State} {P : State → Prop} {c : Instr}
    (hc : exec c s = s.stageBy who n f) (hopen : s.shut who = false) (hb : stagedBlk n = some b) (hf : f b = t) (hP : P t) : Does c s P :=
  does_of_exec (hc.trans ((stageBy_open f hopen hb).trans (by rw [hf]))) hP

/-! ## The effect of the commands -/

/-- An Open window of owner `w`. -/
theorem opened_shows {s : State} (hwf : s.wf = true) (b : Blk) (w : Nat) :
    (((s.wr STAGE_STATUS.STATE 1 b.base).wr STAGE_STATUS.OWNER w b.base).setStage b {}).stState b = 1 ∧
    (((s.wr STAGE_STATUS.STATE 1 b.base).wr STAGE_STATUS.OWNER w b.base).setStage b {}).rd STAGE_STATUS.OWNER b.base = w % 256 := by
  constructor
  · exact (rd_wr_bits (wr_wf hwf ..) (by decide) (.inr (by decide))).trans (stState_wr hwf b (by decide))
  · exact rd_wr_same (wr_wf hwf ..) (by decide) rfl

/-- Once its entries are filtered out, a value is read at no key. -/
theorem tabGet_filter_ne {t : Tab Nat} {v : Nat} (hv : v ≠ 0) (m : Nat) : tabGet (t.filter (fun p => p.2 != v)) m ≠ v := by
  induction t with
  | nil => exact hv.symm
  | cons p t ih =>
    obtain ⟨k, x⟩ := p
    by_cases hx : x = v
    · rwa [List.filter_cons_of_neg (by simp [hx])]
    · rw [List.filter_cons_of_pos (by simpa using hx)]
      simp only [tabGet, cellGet] at ih ⊢
      split
      · exact hv.symm
      · split
        · exact hx
        · exact ih

theorem freeMark_free (s : State) (b : Blk) (m : Nat) : tabGet (s.freeMark b).markOwner m ≠ b.bit + 1 :=
  tabGet_filter_ne (Nat.succ_ne_zero _) m

theorem abortStage_shows {s : State} (hwf : s.wf = true) (b : Blk) :
    (s.abortStage b).stState b = 0 ∧ (s.abortStage b).rd STAGE_STATUS.RESULT b.base = 5 ∧
      ∀ m, tabGet (s.abortStage b).markOwner m ≠ b.bit + 1 := by
  obtain ⟨hst, hresult⟩ := endStage_shows ((State.freeMark_keep s b).wf hwf) b (result := 5) (st := 0) (by decide) (by decide)
  have hmark : (s.abortStage b).markOwner = (s.freeMark b).markOwner := (State.endStage_keep ..).parts .markOwner rfl
  exact ⟨hst, hresult, fun m => hmark ▸ freeMark_free s b m⟩

theorem armed_shows {s : State} (hwf : s.wf = true) (b : Blk) :
    (s.armed b).stState b = 2 ∧ tabGet (s.armed b).markOwner (s.rd COMMIT_MARK.MARK b.base) = b.bit + 1 := by
  constructor
  · exact stState_wr (by exact hwf) b (by decide)
  · rw [State.armed, ((Keep.refl 0x7fffff _).wrAny rfl).parts .markOwner rfl]
    exact cellGet_cellSet_ne _ _ (Nat.succ_ne_zero _)

/-! ## The commit (R39, R43) -/

/-- Source 20 is not limited: the record of a commit is held at once. -/
theorem stageTold_eq (s : State) (b : Blk) (result : Nat) (grain : Option Nat) :
    s.stageTold b result grain = s.holdRec (s.mkRec 20 [i8 b.bit, i8 result] grain) := by
  rw [State.stageTold, State.raise]
  exact if_neg (by decide)

/-- The record of a commit leaves STAGE_STATUS of every block. -/
theorem rd_stageTold {s : State} (hwf : s.wf = true) (b : Blk) (result : Nat) (grain : Option Nat) {f : Fld}
    (hf : f ∈ statusFields) : (s.stageTold b result grain).rd f b.base = s.rd f b.base := by
  have haddr : b.base + 0xFF4 ≠ EVT_cnt_LO.COUNT.addr 0 0 ∧ b.base + 0xFF4 ≠ EVT_cnt_LO.COUNT.addr 0 0 + 4 := by
    cases b <;> decide
  rw [← status_addr b hf] at haddr
  rw [stageTold_eq]
  exact rd_of_reg (reg_wr64_other hwf haddr.1 haddr.2)

/-- A commit ends with its RESULT, its count of commits and its record. -/
theorem commitBlk_ends {s : State} (hwf : s.wf = true) (b : Blk) (grain : Option Nat) : ∃ (u : State) (n : Nat), u.wf = true ∧
    s.commitBlk b grain = ((u.endStage b 1 0).wr STAGE_STATUS.COMMITS n b.base).stageTold b 1 grain := by
  have hbefore : (s.beforeSwap b (s.candidate b)).wf = true := (State.beforeSwap_keep ..).wf hwf
  have hswapped : ((s.beforeSwap b (s.candidate b)).candidate b).wf = true := (State.candidate_keep ..).wf hbefore
  have hafter : (((s.beforeSwap b (s.candidate b)).candidate b).afterSwap b s).wf = true := (State.afterSwap_keep ..).wf hswapped
  exact ⟨_, _, (State.freeMark_keep _ b).wf hafter, rfl⟩

theorem commitBlk_shows {s : State} (hwf : s.wf = true) (b : Blk) (grain : Option Nat) :
    (s.commitBlk b grain).stState b = 0 ∧ (s.commitBlk b grain).rd STAGE_STATUS.RESULT b.base = 1 := by
  obtain ⟨u, n, hu, h⟩ := commitBlk_ends hwf b grain
  obtain ⟨hst, hresult⟩ := endStage_shows hu b (result := 1) (st := 0) (by decide) (by decide)
  have hend : (u.endStage b 1 0).wf = true := (State.endStage_keep ..).wf hu
  have hcounted : ((u.endStage b 1 0).wr STAGE_STATUS.COMMITS n b.base).wf = true := wr_wf hend ..
  rw [h]
  constructor
  · exact (rd_stageTold hcounted b 1 grain (by decide)).trans ((rd_wr_bits hend (by decide) (.inr (by decide))).trans hst)
  · exact (rd_stageTold hcounted b 1 grain (by decide)).trans ((rd_wr_bits hend (by decide) (.inr (by decide))).trans hresult)

/-! ## The timeout of an Armed window (R39) -/

/-- The tick at which the timeout of block `b`'s Armed window is over. -/
def State.armOver (s : State) (b : Blk) : Nat := (s.stageOf b).armTick + 1000000 * s.rd COMMIT_MARK.TIMEOUT b.base

/-- The timeout of a window: its mark is released, and it is Open again with RESULT 4. -/
def State.timedOut (s : State) (b : Blk) : State := ((s.advanceTo (s.armOver b)).freeMark b).endStage b 4 1

theorem exec_stageTimeout {s : State} {blk : Nat} {b : Blk} (hb : stagedBlk blk = some b) :
    exec (.stageTimeout blk) s = .next (if s.stState b != 2 || !s.on COMMIT_MARK.TIMEOUT b.base then s else s.timedOut b) := by
  change execStageTimeout blk s = _
  rw [execStageTimeout, State.onStaged, hb]
  rfl

theorem timedOut_shows {s : State} (hwf : s.wf = true) (b : Blk) : (s.timedOut b).stState b = 1 ∧
    (s.timedOut b).rd STAGE_STATUS.RESULT b.base = 4 ∧ s.armOver b ≤ (s.timedOut b).tick := by
  have hfree := State.freeMark_keep (s.advanceTo (s.armOver b)) b
  have hend := State.endStage_keep ((s.advanceTo (s.armOver b)).freeMark b) b 4 1
  have hwf' := hfree.wf ((State.advanceTo_keep ..).wf hwf)
  obtain ⟨hst, hresult⟩ := endStage_shows hwf' b (result := 4) (st := 1) (by decide) (by decide)
  exact ⟨hst, hresult, Nat.le_trans (advanceTo_le_tick s (s.armOver b)) (Nat.le_trans hfree.tick hend.tick)⟩

/-- Settles O5: each command in each state by its equation, and what the state that it gives shows. -/
theorem stagingCommands : Obligations.StagingCommands := by
  unfold Obligations.StagingCommands
  refine ⟨?opened, ?aborted, ?committed, ?refused, ?armed, ?taken, ?timeout⟩
  case opened =>
    intro s who blk w b hwf hopen hb hw hst
    exact does_stageBy rfl hopen hb (stageOpen_of_closed hw hst) (opened_shows hwf b w)
  case aborted =>
    intro s who blk b hwf hopen hb hst hwho
    exact does_stageBy rfl hopen hb (stageAbort_of_held hst hwho) (abortStage_shows hwf b)
  case committed =>
    intro s who blk b hwf hopen hb hst howns hrefusal
    obtain ⟨hclosed, hresult⟩ := commitBlk_shows hwf b s.g0
    exact does_stageBy rfl hopen hb (stageCommit_of_accepted hst howns hrefusal) ⟨hclosed, hresult, rfl⟩
  case refused =>
    intro s who blk d b hwf hopen hb hst howns hrefusal
    exact does_stageBy rfl hopen hb (stageCommit_of_refused hst howns hrefusal) (refuseStage_shows hwf b d)
  case armed =>
    intro s who blk b hwf hopen hb hst howns hrefusal hmark
    exact does_stageBy rfl hopen hb ((stageArm_of_accepted hst howns hrefusal).trans (if_neg (by simp [hmark]))) (armed_shows hwf b)
  case taken =>
    intro s who blk b hwf hopen hb hst howns hrefusal hmark
    exact does_stageBy rfl hopen hb ((stageArm_of_accepted hst howns hrefusal).trans (if_pos hmark))
      (endStage_shows hwf b (by decide) (by decide))
  case timeout =>
    intro s blk b hwf hb hst hon
    exact does_of_exec ((exec_stageTimeout hb).trans (by rw [if_neg (by simp [hst, hon])])) (timedOut_shows hwf b)

/-! ## The registers that a command of a window reaches (R39) -/

/-- No register changes but the status words of block `b`'s window, and what a bad access counts. -/
def WindowOnly (b : Blk) (s t : State) : Prop :=
  ∀ a, a ≠ b.base + 0xFF4 → a ≠ b.base + 0xFF8 → a ≠ GLB_BAD_ACCESS.COUNT.base → blkOfAddr a ≠ some .evt →
    blkOfAddr a ≠ some .cal → t.reg a = s.reg a

theorem WindowOnly.bad {s : State} (hwf : s.wf = true) (b : Blk) : WindowOnly b s s.bad :=
  fun _ _ _ hbad hevt hcal => reg_bad_other hwf hbad hevt hcal

theorem WindowOnly.endStage {s t : State} (hwf : t.wf = true) (b : Blk) (result st : Nat) (h : t.regs = s.regs) :
    WindowOnly b s (t.endStage b result st) := by
  intro a hst hview _ _ _
  rw [reg_endStage_other hwf result st hst hview, State.reg, h, State.reg]

theorem WindowOnly.refuseStage {s : State} (hwf : s.wf = true) (b : Blk) (d : Nat) : WindowOnly b s (s.refuseStage b d) :=
  fun a hst hview hbad hevt hcal => (reg_wr_status ((State.endStage_keep ..).wf hwf) (by decide) d hst).trans
    (WindowOnly.endStage hwf b 2 1 rfl a hst hview hbad hevt hcal)

theorem WindowOnly.stageOpen {s : State} (hwf : s.wf = true) (who : Nat) (b : Blk) : WindowOnly b s (s.stageOpen who b) := by
  by_cases hst : s.stState b = 0
  · cases hw : ownerOf who with
    | none =>
      have hbad : s.stageOpen who b = s.bad := by simp [State.stageOpen, hw]
      rw [hbad]
      exact .bad hwf b
    | some w =>
      rw [stageOpen_of_closed hw hst]
      exact fun a ha _ _ _ _ => (reg_setStage ..).trans
        ((reg_wr_status (wr_wf hwf ..) (by decide) w ha).trans (reg_wr_status hwf (by decide) 1 ha))
  · rw [stageOpen_of_not_closed who hst]
    exact .bad hwf b

theorem WindowOnly.stageAbort {s : State} (hwf : s.wf = true) (who : Nat) (b : Blk) : WindowOnly b s (s.stageAbort who b) := by
  unfold State.stageAbort
  split
  · exact .bad hwf b
  · exact .endStage ((State.freeMark_keep s b).wf hwf) b 5 0 rfl

theorem WindowOnly.armed {s : State} (hwf : s.wf = true) (b : Blk) : WindowOnly b s (s.armed b) :=
  fun a ha _ _ _ _ => reg_wr_status (by exact hwf) (by decide) 2 ha

theorem WindowOnly.stageArm {s : State} (hwf : s.wf = true) (who : Nat) (b : Blk) : WindowOnly b s (s.stageArm who b) := by
  by_cases h : s.stState b ≠ 1 ∨ s.owns b who = false
  · rw [stageArm_of_not_owned h]
    exact .bad hwf b
  · obtain ⟨hst, howns⟩ : s.stState b = 1 ∧ s.owns b who = true := by simpa using h
    cases hrefusal : s.refusal b with
    | some d =>
      rw [stageArm_of_refused hst howns hrefusal]
      exact .refuseStage hwf b d
    | none =>
      rw [stageArm_of_accepted hst howns hrefusal]
      split
      · exact .endStage hwf b 3 1 rfl
      · exact .armed hwf b

theorem advanceTo_regs (s : State) (t : Nat) : (s.advanceTo t).regs = s.regs := by
  unfold State.advanceTo
  split <;> rfl

theorem WindowOnly.stageTimeout {s t : State} (hwf : s.wf = true) {blk : Nat} {b : Blk} (hb : stagedBlk blk = some b)
    (h : exec (.stageTimeout blk) s = .next t) : WindowOnly b s t := by
  rw [exec_stageTimeout hb] at h
  cases h
  split
  · exact fun _ _ _ _ _ _ => rfl
  · exact .endStage ((State.freeMark_keep ..).wf ((State.advanceTo_keep ..).wf hwf)) b 4 1 (advanceTo_regs ..)

/-- A staging command of a requester reaches the window's own words; while its memory space is shut, only what a refusal counts. -/
theorem reg_stageBy_other {s t : State} (hwf : s.wf = true) {who n : Nat} {b : Blk} {f : Blk → State} (hb : stagedBlk n = some b)
    (hf : WindowOnly b s (f b)) (h : s.stageBy who n f = .next t) {a : Nat} (hst : a ≠ b.base + 0xFF4) (hview : a ≠ b.base + 0xFF8)
    (hbad : a ≠ GLB_BAD_ACCESS.COUNT.base) (hevt : blkOfAddr a ≠ some .evt)
    (hcal : blkOfAddr a ≠ some .cal) (hhif : s.shut who = false ∨ blkOfAddr a ≠ some .hif) : t.reg a = s.reg a := by
  cases hshut : s.shut who with
  | false =>
    rw [stageBy_open f hshut hb] at h
    cases h
    exact hf a hst hview hbad hevt hcal
  | true =>
    rw [stageBy_shut n f hshut] at h
    cases h
    have honly : Only [some .evt, some .cal, some .hif] [.evt, .sent] s (s.refuseWrite who) := only_of_keep (State.refuseWrite_keep ..)
    refine honly.1 hwf a ?_
    simp [hevt, hcal, hhif.resolve_left (by simp [hshut])]

/-- Settles O51: commands that a window does not list are bad accesses, and the others reach the window's own words alone. -/
theorem stagingFrame : Obligations.StagingFrame := by
  unfold Obligations.StagingFrame
  refine ⟨?opened, ?aborted, ?owned, ?frame⟩
  case opened => exact fun s who blk b hopen hb hst => does_stageBy rfl hopen hb (stageOpen_of_not_closed who hst) rfl
  case aborted => exact fun s who blk b hopen hb hst => does_stageBy rfl hopen hb (stageAbort_of_closed who hst) rfl
  case owned =>
    exact fun s who blk b hopen hb h => ⟨does_stageBy rfl hopen hb (stageArm_of_not_owned h) rfl,
      does_stageBy rfl hopen hb (stageCommit_of_not_owned h) rfl⟩
  case frame =>
    intro c s t who blk b hwf hb hc h a hst hview hbad hevt hcal hhif
    rw [status_addr b (by decide)] at hst
    rw [view_addr] at hview
    rcases hc with rfl | rfl | rfl | rfl
    · exact reg_stageBy_other hwf hb (.stageOpen hwf who b) h hst hview hbad hevt hcal hhif
    · exact reg_stageBy_other hwf hb (.stageAbort hwf who b) h hst hview hbad hevt hcal hhif
    · exact reg_stageBy_other hwf hb (.stageArm hwf who b) h hst hview hbad hevt hcal hhif
    · exact WindowOnly.stageTimeout hwf hb h a hst hview hbad hevt hcal

end Sys2Proof.Machine

/-!
The timebase: the correction, the state of time and its quality code, the always-on counter, latched reads, 1PPS_OUT and the clock inputs.
-/
namespace Sys2Proof.Machine

/-! ## The correction (R53) -/

/-- A completed write of TIM_FREQ_ADJ: both words stored, before the correction is applied. -/
def State.adjStored (s : State) (who : Nat) (val : Word) : State :=
  (s.takeHi who (TIM_FREQ_ADJ_LO.ADJ.addr 0 0) val.toNat).1.wr64 TIM_FREQ_ADJ_LO.ADJ
    (s.takeHi who (TIM_FREQ_ADJ_LO.ADJ.addr 0 0) val.toNat).2

/-- The correction clamped and applied; source 45 when the clamp changes it. -/
def State.adjApplied (s : State) (v : Int) : State :=
  (if max (-adjClamp) (min v adjClamp) = v then s else s.raise 45).applyAdj (max (-adjClamp) (min v adjClamp))

theorem adjStored_keep (s : State) (who : Nat) (val : Word) : Keep 0x100000040110000d s (s.adjStored who val) :=
  Keep.wr64 .tim ((State.takeHi_keep ..).mono rfl) rfl rfl

theorem adjApplied_keep (s : State) (v : Int) : Keep 0xc00100004 s (s.adjApplied v) :=
  (State.applyAdj_keep ..).step (Keep.ite (Keep.refl _ s) ((State.raise_keep ..).mono rfl)) rfl

theorem adjApplied_applied (s : State) (v : Int) : (s.adjApplied v).tim.applied = max (-adjClamp) (min v adjClamp) := rfl

theorem exec_freqAdjWrite {s : State} {who : Nat} (val : Word) (hopen : s.shut who = false) :
    exec (.freqAdjWrite who val) s = if (s.adjStored who val).rd TIM_STATUS.STATE = 3 then .next (s.adjStored who val)
      else .next ((s.adjStored who val).adjApplied (sgn 64 (s.takeHi who (TIM_FREQ_ADJ_LO.ADJ.addr 0 0) val.toNat).2)) :=
  if_neg (by simp [hopen])

/-- A write of the correction leaves the state of time. -/
theorem adjStored_state {s : State} (hwf : s.wf = true) (who : Nat) (val : Word) :
    (s.adjStored who val).rd TIM_STATUS.STATE = s.rd TIM_STATUS.STATE := by
  have k := State.takeHi_keep s who (TIM_FREQ_ADJ_LO.ADJ.addr 0 0) val.toNat
  exact (rd_of_reg (reg_wr64_other (k.wf hwf) (by decide) (by decide))).trans (k.rdIn .tim hwf rfl rfl rfl)

theorem adjStored_rd64 {s : State} (hwf : s.wf = true) (who : Nat) (val : Word) :
    (s.adjStored who val).rd64 TIM_FREQ_ADJ_LO.ADJ = (s.takeHi who (TIM_FREQ_ADJ_LO.ADJ.addr 0 0) val.toNat).2 % 2 ^ 64 :=
  rd64_wr64_same ((State.takeHi_keep ..).wf hwf) rfl

theorem freqAdjWrite_does {s : State} {who : Nat} (val : Word) (hwf : s.wf = true) (hopen : s.shut who = false) :
    Does (.freqAdjWrite who val) s (fun t =>
      let v := (s.takeHi who (TIM_FREQ_ADJ_LO.ADJ.addr 0 0) val.toNat).2
      t.rd64 TIM_FREQ_ADJ_LO.ADJ = v % 2 ^ 64 ∧
      t.tim.applied = if s.rd TIM_STATUS.STATE = 3 then s.tim.applied else max (-adjClamp) (min (sgn 64 v) adjClamp)) := by
  have k := adjStored_keep s who val
  have hexec := exec_freqAdjWrite val hopen
  rw [adjStored_state hwf] at hexec
  by_cases hhold : s.rd TIM_STATUS.STATE = 3
  · rw [if_pos hhold] at hexec
    refine does_of_exec hexec ⟨adjStored_rd64 hwf who val, ?_⟩
    rw [if_pos hhold, k.parts .tim rfl]
  · rw [if_neg hhold] at hexec
    have ka := adjApplied_keep (s.adjStored who val) (sgn 64 (s.takeHi who (TIM_FREQ_ADJ_LO.ADJ.addr 0 0) val.toNat).2)
    refine does_of_exec hexec ⟨?_, ?_⟩
    · exact (rd64_of_reg (ka.regs (k.wf hwf) _ rfl) (ka.regs (k.wf hwf) _ rfl)).trans (adjStored_rd64 hwf who val)
    · rw [if_neg hhold, adjApplied_applied]

/-! ## The state of time and its quality code (R57, R58) -/

theorem qualityOf_lt (state src : Nat) (fromHold : Bool) : qualityOf state src fromHold < 16 := by
  unfold qualityOf
  split
  · split <;> decide
  · decide
  · split <;> decide
  · decide

theorem noteGate_fromHold (s : State) (was : Bool) : (s.noteGate was).tim.fromHold = s.tim.fromHold := by
  unfold State.noteGate
  split <;> rfl

/-- The quality code is that of the state of time, which stays. -/
theorem showQuality_shows {s : State} (hwf : s.wf = true) :
    s.showQuality.rd TIM_STATUS.QUALITY = qualityOf (s.rd TIM_STATUS.STATE) (s.rd TIM_STATUS.SOURCE) s.tim.fromHold ∧
    s.showQuality.rd TIM_STATUS.STATE = s.rd TIM_STATUS.STATE ∧ s.showQuality.tim.fromHold = s.tim.fromHold := by
  unfold State.showQuality
  extract_lets q
  split
  case isTrue h => exact ⟨h, rfl, rfl⟩
  case isFalse =>
    have hq : (s.wr TIM_STATUS.QUALITY q).rd TIM_STATUS.QUALITY = q :=
      (rd_wr_same hwf (by decide) rfl).trans (Nat.mod_eq_of_lt (qualityOf_lt ..))
    have hst : (s.wr TIM_STATUS.QUALITY q).rd TIM_STATUS.STATE = s.rd TIM_STATUS.STATE := rd_wr_bits hwf (by decide) (.inl (by decide))
    have k : Keep 0xc00100004 (s.wr TIM_STATUS.QUALITY q) (((s.wr TIM_STATUS.QUALITY q).noteGate s.gateOk).raise 32) :=
      (State.raise_keep ..).step ((State.noteGate_keep ..).mono rfl) rfl
    refine ⟨(k.rdIn .tim (wr_wf hwf ..) rfl rfl rfl).trans hq, (k.rdIn .tim (wr_wf hwf ..) rfl rfl rfl).trans hst, ?_⟩
    rw [(State.raise_keep ..).parts .tim rfl, noteGate_fromHold]
    rfl

theorem ToldGrows.showQuality (s : State) : ToldGrows s s.showQuality := by
  have k (q : Nat) : Keep 0x800000008 s ((s.wr TIM_STATUS.QUALITY q).noteGate s.gateOk) :=
    (State.noteGate_keep ..).step ((Keep.refl _ s).wr .tim rfl rfl) rfl
  exact .ite (.refl s) (.trans (.of_keep (k _) rfl) (.raise _ _ _ _ _))

/-- State `st` of time, before its quality code is shown and its events are raised. -/
def State.timeEntered (s : State) (st : Nat) (fromHold : Bool) : State :=
  let t := if st = s.rd TIM_STATUS.STATE then s.noteApplied.tim else s.noteApplied.tim.noWorse
  (s.noteApplied.setTim { t with fromHold := fromHold, lockRun := if st = s.rd TIM_STATUS.STATE then t.lockRun else 0
                                 disagreed := t.disagreed && st == 2 }).wr TIM_STATUS.STATE st

/-- The events of a change from state `old` of time to `st`: 35 for Holdover, 36 for Free-run. -/
def State.timeStateTold (s : State) (st old : Nat) : State :=
  let u := if st = 3 && old != 3 then s.raise 35 else s
  if st = 0 && old != 0 then u.raise 36 else u

theorem setTimeState_eq (s : State) (st : Nat) (fromHold : Bool) :
    s.setTimeState st fromHold = (s.timeEntered st fromHold).showQuality.timeStateTold st (s.rd TIM_STATUS.STATE) := rfl

theorem noteApplied_setTim_keep (s : State) (t : TimSt) : Keep 0x800000000 s (s.noteApplied.setTim t) :=
  (State.noteApplied_keep s).trans (State.setTim_keep ..)

theorem timeEntered_keep (s : State) (st : Nat) (fromHold : Bool) : Keep 0x800000008 s (s.timeEntered st fromHold) :=
  Keep.wr .tim ((noteApplied_setTim_keep ..).mono rfl) rfl rfl

theorem timeStateTold_keep (s : State) (st old : Nat) : Keep 0x400100004 s (s.timeStateTold st old) := by
  have k : Keep 0x400100004 s (if st = 3 && old != 3 then s.raise 35 else s) := .ite (State.raise_keep ..) (.refl _ s)
  exact .ite (k.trans (State.raise_keep ..)) k

theorem timeEntered_shows {s : State} (hwf : s.wf = true) {st : Nat} (hst : st < 8) (fromHold : Bool) :
    (s.timeEntered st fromHold).rd TIM_STATUS.STATE = st ∧
    (s.timeEntered st fromHold).rd TIM_STATUS.SOURCE = s.rd TIM_STATUS.SOURCE ∧ (s.timeEntered st fromHold).tim.fromHold = fromHold := by
  refine ⟨?_, ?_, rfl⟩
  · exact (rd_wr_same ((noteApplied_setTim_keep ..).wf hwf) (by decide) rfl).trans (Nat.mod_eq_of_lt hst)
  · exact (rd_wr_bits ((noteApplied_setTim_keep ..).wf hwf) (by decide) (.inl (by decide))).trans
      ((noteApplied_setTim_keep ..).rdIn .tim hwf rfl rfl rfl)

theorem setTimeState_shows {s : State} (hwf : s.wf = true) {st : Nat} (hst : st < 8) (fromHold : Bool) :
    (s.setTimeState st fromHold).rd TIM_STATUS.STATE = st ∧
    (s.setTimeState st fromHold).rd TIM_STATUS.QUALITY = qualityOf st (s.rd TIM_STATUS.SOURCE) fromHold ∧
    (s.setTimeState st fromHold).tim.fromHold = fromHold := by
  obtain ⟨hstate, hsource, hfrom⟩ := timeEntered_shows hwf hst fromHold
  have hwf' := (timeEntered_keep s st fromHold).wf hwf
  obtain ⟨hquality, hkept, hhold⟩ := showQuality_shows hwf'
  have hwfq := (State.showQuality_keep _).wf hwf'
  have k := timeStateTold_keep (s.timeEntered st fromHold).showQuality st (s.rd TIM_STATUS.STATE)
  rw [setTimeState_eq, k.rdIn .tim hwfq rfl rfl rfl, k.rdIn .tim hwfq rfl rfl rfl, k.parts .tim rfl, hquality, hkept, hhold, hstate,
    hsource, hfrom]
  exact ⟨rfl, rfl, rfl⟩

/-- The entry to Free-run is told by source 36. -/
theorem told_setTimeState_freeRun {s : State} (fromHold : Bool) (hold : s.rd TIM_STATUS.STATE ≠ 0) :
    s.told 36 < (s.setTimeState 0 fromHold).told 36 := by
  have hgrows : ToldGrows s (s.timeEntered 0 fromHold).showQuality :=
    .trans (.of_keep (timeEntered_keep ..) rfl) (.showQuality _)
  have htold : (s.timeEntered 0 fromHold).showQuality.timeStateTold 0 (s.rd TIM_STATUS.STATE) =
      (s.timeEntered 0 fromHold).showQuality.raise 36 := by simp [State.timeStateTold, hold]
  rw [setTimeState_eq, htold]
  exact Nat.lt_of_le_of_lt (hgrows 36) (told_lt_raise ..)

/-! ## The Holdover limit (R57) -/

/-- The tick at which the Holdover limit is over, for an entry to Holdover at tick `t`. -/
def State.holdOver (s : State) (t : Nat) : Nat := t + nsPerSec * s.rd TIM_HOLDOVER.LIMIT_S

theorem exec_holdoverExpire {s : State} {g t : Nat} (hfrom : s.tim.holdFrom = some (g, t))
    (hst : s.rd TIM_STATUS.STATE = 3 ∨ (s.rd TIM_STATUS.STATE = 1 ∧ s.tim.fromHold = true)) :
    exec .holdoverExpire s = .next ((s.advanceTo (s.holdOver t)).setTimeState (if s.rd TIM_STATUS.STATE = 3 then 0 else 1) false) := by
  change execHoldoverExpire s = _
  rw [execHoldoverExpire, hfrom]
  exact if_neg (by rcases hst with h | ⟨h, hh⟩ <;> simp [*])

theorem holdoverExpire_freeRun_does {s : State} {g t0 : Nat} (hwf : s.wf = true) (hfrom : s.tim.holdFrom = some (g, t0))
    (hst : s.rd TIM_STATUS.STATE = 3) :
    Does .holdoverExpire s (fun t => t.rd TIM_STATUS.STATE = 0 ∧ t.rd TIM_STATUS.QUALITY = 3 ∧ s.told 36 < t.told 36 ∧
      t0 + nsPerSec * s.rd TIM_HOLDOVER.LIMIT_S ≤ t.tick) := by
  have k := State.advanceTo_keep s (s.holdOver t0)
  obtain ⟨hstate, hquality, -⟩ := setTimeState_shows (k.wf hwf) (st := 0) (by decide) false
  have hold : (s.advanceTo (s.holdOver t0)).rd TIM_STATUS.STATE ≠ 0 := by
    rw [k.rdIn .tim hwf rfl rfl rfl, hst]
    decide
  have hexec := exec_holdoverExpire hfrom (.inl hst)
  rw [if_pos hst] at hexec
  refine does_of_exec hexec ⟨hstate, hquality, ?_, ?_⟩
  · exact Nat.lt_of_le_of_lt (ToldGrows.of_keep k rfl 36) (told_setTimeState_freeRun false hold)
  · exact Nat.le_trans (advanceTo_le_tick s (s.holdOver t0)) (State.setTimeState_keep ..).tick

theorem holdoverExpire_acquiring_does {s : State} {g t0 : Nat} (hwf : s.wf = true) (hfrom : s.tim.holdFrom = some (g, t0))
    (hst : s.rd TIM_STATUS.STATE = 1) (hhold : s.tim.fromHold = true) :
    Does .holdoverExpire s (fun t => t.rd TIM_STATUS.STATE = 1 ∧ t.rd TIM_STATUS.QUALITY = 3 ∧ t.tim.fromHold = false) := by
  have k := State.advanceTo_keep s (s.holdOver t0)
  have hexec := exec_holdoverExpire hfrom (.inr ⟨hst, hhold⟩)
  rw [if_neg (by rw [hst]; decide)] at hexec
  exact does_of_exec hexec (setTimeState_shows (k.wf hwf) (st := 1) (by decide) false)

/-! ## The always-on counter (R51) -/

/-- The correction of the always-on counter at this tick. -/
def State.aoCorrected (s : State) : State :=
  s.draw.setTim { s.tim with aoGtc := s.tim.gtc, aoTick := s.tick, aoRatio := Config.aoRatio s.free }

theorem aoCorrected_shows (s : State) : s.aoCorrected.tim.aoGtc = s.aoCorrected.tim.gtc ∧
    s.aoCorrected.tim.aoTick = s.aoCorrected.tick ∧ s.aoCorrected.tick = s.tick ∧
    s.aoCorrected.tim.aoRatio = Config.aoRatio s.free := ⟨rfl, rfl, rfl, rfl⟩

theorem exec_aoCounterCorrect {s : State} (h : s.tim.carried = false) :
    exec .aoCounterCorrect s = .next (s.advanceTo (s.tim.aoTick + nsPerSec)).aoCorrected := if_neg (by simp [h])

theorem aoCounterCorrect_does {s : State} (h : s.tim.carried = false) :
    Does .aoCounterCorrect s (fun t => t.tim.aoGtc = t.tim.gtc ∧ t.tim.aoTick = t.tick ∧ s.tim.aoTick + nsPerSec ≤ t.tick ∧
      t.tim.aoRatio = Config.aoRatio s.free) := by
  obtain ⟨hgtc, htick, hnow, hratio⟩ := aoCorrected_shows (s.advanceTo (s.tim.aoTick + nsPerSec))
  have hfree := (State.advanceTo_keep s (s.tim.aoTick + nsPerSec)).parts .free rfl
  exact does_of_exec (exec_aoCounterCorrect h)
    ⟨hgtc, htick, (advanceTo_le_tick ..).trans_eq hnow.symm, hratio.trans (congrArg Config.aoRatio hfree)⟩

/-! ## 1PPS_OUT (R67) -/

theorem advanceTo_of_lt {s : State} {t : Nat} (h : s.tick < t) : s.advanceTo t = s.elapse (t - s.tick) := if_neg (by omega)

theorem tick_advanceTo_of_lt {s : State} {t : Nat} (h : s.tick < t) : (s.advanceTo t).tick = t := by
  rw [advanceTo_of_lt h]
  exact Nat.add_sub_cancel' (by omega)

/-- A running GTC follows the clock. -/
theorem gtc_advanceTo_add {s : State} {d : Nat} (hd : 0 < d) (h : s.tim.carried = false) :
    (s.advanceTo (s.tick + d)).tim.gtc = (s.tim.gtc + d) % gtcRange := by
  rw [advanceTo_of_lt (by omega), Nat.add_sub_cancel_left]
  exact if_neg (by simp [h])

/-- Ticks from GTC value `g` to the next one whose place in its second is `a`. -/
def ticksTo (g a : Nat) : Nat := nsPerSec - (g + nsPerSec - a) % nsPerSec

theorem ticksTo_pos (g a : Nat) : 0 < ticksTo g a := by
  unfold ticksTo nsPerSec
  omega

theorem gtc_after_ticksTo {g a : Nat} (ha : a < nsPerSec) : (g + ticksTo g a) % gtcRange % nsPerSec = a := by
  unfold ticksTo gtcRange nsPerSec at *
  omega

/-- The offset of 1PPS_OUT as a place in the second. -/
theorem ppsPlace_eq (x : Int) : ((unsgn 64 (x % 1000000000) : Nat) : Int) = x % 1000000000 := by
  unfold unsgn
  omega

/-- The state in which a pulse of 1PPS_OUT is due next. -/
def State.ppsDue (s : State) : State :=
  s.advanceTo (s.tick + ticksTo s.tim.gtc (unsgn 64 (sgn 32 (s.rd TIM_PPS_OUT_OFS.NS) % 1000000000)))

theorem ppsDue_rd (s : State) (f : Fld) : s.ppsDue.rd f = s.rd f := rd_of_reg (by rw [State.reg, State.ppsDue, advanceTo_regs, State.reg])

theorem exec_ppsOutPulse (s : State) :
    exec .ppsOutPulse s = .next (if s.ppsDue.on TIM_PPS_OUT_CFG.ENABLE && s.ppsDue.gateAt then s.ppsDue.ppsRise else s.ppsDue) :=
  (apply_ite Host.Outcome.next ..).symm

theorem ppsRise_shows (s : State) : s.ppsRise.pins.ppsOut = true ∧ s.ppsRise.tick = s.tick ∧
    s.ppsRise.tim.ppsEnd = s.ppsRise.tick + 1000 * max 1 (s.rd TIM_PPS_OUT_CFG.WIDTH_US) ∧ s.ppsRise.tim.gtc = s.tim.gtc :=
  ⟨rfl, rfl, rfl, rfl⟩

theorem ppsDue_tick_lt (s : State) : s.tick < s.ppsDue.tick := by
  have hpos := ticksTo_pos s.tim.gtc (unsgn 64 (sgn 32 (s.rd TIM_PPS_OUT_OFS.NS) % 1000000000))
  rw [State.ppsDue, tick_advanceTo_of_lt (Nat.lt_add_of_pos_right hpos)]
  exact Nat.lt_add_of_pos_right hpos

/-- While the GTC runs, a pulse is due at its offset from a whole second. -/
theorem ppsDue_gtc {s : State} (hrun : s.tim.carried = false) :
    ((s.ppsDue.tim.gtc % nsPerSec : Nat) : Int) = sgn 32 (s.rd TIM_PPS_OUT_OFS.NS) % 1000000000 := by
  have hplace := ppsPlace_eq (sgn 32 (s.rd TIM_PPS_OUT_OFS.NS))
  rw [State.ppsDue, gtc_advanceTo_add (ticksTo_pos ..) hrun, gtc_after_ticksTo (by unfold nsPerSec; omega), hplace]

theorem ppsOutPulse_does {s : State} (hen : s.on TIM_PPS_OUT_CFG.ENABLE = true) (hgate : s.ppsDue.gateAt = true) :
    Does .ppsOutPulse s (fun t => t.pins.ppsOut = true ∧ s.tick < t.tick ∧
      t.tim.ppsEnd = t.tick + 1000 * max 1 (s.rd TIM_PPS_OUT_CFG.WIDTH_US) ∧
      (s.tim.carried = false → ((t.tim.gtc % nsPerSec : Nat) : Int) = sgn 32 (s.rd TIM_PPS_OUT_OFS.NS) % 1000000000)) := by
  obtain ⟨hpin, htick, hend, hgtc⟩ := ppsRise_shows s.ppsDue
  have hexec := exec_ppsOutPulse s
  rw [if_pos (by rw [on_of_rd (ppsDue_rd s _), hen, hgate]; rfl)] at hexec
  rw [ppsDue_rd] at hend
  exact does_of_exec hexec ⟨hpin, (ppsDue_tick_lt s).trans_eq htick.symm, hend, fun hrun => by rw [hgtc, ppsDue_gtc hrun]⟩

theorem ppsOutPulse_silent_does {s : State} (h : s.on TIM_PPS_OUT_CFG.ENABLE = false ∨ s.ppsDue.gateAt = false) :
    Does .ppsOutPulse s (fun t => t.pins = s.pins) := by
  have hexec := exec_ppsOutPulse s
  rw [if_neg (by rw [on_of_rd (ppsDue_rd s _)]; rcases h with h | h <;> simp [h])] at hexec
  exact does_of_exec hexec ((State.advanceTo_keep ..).parts .pins rfl)

theorem exec_ppsOutPulseEnd {s : State} (h : s.pins.ppsOut = true) :
    exec .ppsOutPulseEnd s = .next { s.advanceTo s.tim.ppsEnd with
      pins := { (s.advanceTo s.tim.ppsEnd).pins with ppsOut := false }, tim := { (s.advanceTo s.tim.ppsEnd).tim with ppsEnd := 0 } } :=
  if_neg (by simp [h])

/-! ## The clock inputs (R487) -/

/-- The bit of TIM_STATUS that shows a clock input. -/
def clockOk (ocxo : Bool) : Fld := if ocxo then TIM_STATUS.OCXO_OK else TIM_STATUS.CLK10M_OK

/-- A lost clock input: its bit is cleared, with source 46 where OSC selects it. -/
def State.clockLost (s : State) (ocxo : Bool) : State :=
  if (s.wr (clockOk ocxo) 0).rd TIM_SRC_CTRL.OSC = (if ocxo then 1 else 2) then (s.wr (clockOk ocxo) 0).raise 46 else s.wr (clockOk ocxo) 0

theorem exec_oscClockLost {s : State} {ocxo : Bool} (h : s.on (clockOk ocxo) = true) :
    exec (.oscClockLost ocxo) s = .next (s.clockLost ocxo) := by
  cases ocxo <;> exact if_neg (by simpa [clockOk] using h)

theorem exec_oscClockDetected (s : State) (ocxo : Bool) : exec (.oscClockDetected ocxo) s = .next (s.wr (clockOk ocxo) 1) := by
  cases ocxo <;> rfl

theorem on_wr_clockOk {s : State} (hwf : s.wf = true) (ocxo b : Bool) : (s.wr (clockOk ocxo) (b2n b)).on (clockOk ocxo) = b := by
  cases ocxo <;> exact on_wr_same hwf (by decide) rfl rfl b

theorem oscClockLost_does {s : State} {ocxo : Bool} (hwf : s.wf = true) (h : s.on (clockOk ocxo) = true) :
    Does (.oscClockLost ocxo) s (fun t => t.on (clockOk ocxo) = false ∧
      (s.rd TIM_SRC_CTRL.OSC = (if ocxo then 1 else 2) → s.told 46 < t.told 46)) := by
  have hblk : (clockOk ocxo).inBlk .tim = true ∧ (clockOk ocxo).fits 0 0 = true ∧
      TIM_SRC_CTRL.OSC.addr 0 0 ≠ (clockOk ocxo).addr 0 0 := by
    cases ocxo <;> decide
  obtain ⟨hin, hfits, haddr⟩ := hblk
  have hwf' : (s.wr (clockOk ocxo) 0).wf = true := wr_wf hwf ..
  have k : Keep 0x400100004 (s.wr (clockOk ocxo) 0) (s.clockLost ocxo) := .ite (State.raise_keep ..) (.refl _ _)
  refine does_of_exec (exec_oscClockLost h) ⟨?off, fun hosc => ?told⟩
  case off => exact (on_of_rd (k.rdIn .tim hwf' hin hfits rfl)).trans (on_wr_clockOk hwf ocxo false)
  case told =>
    have hsel : (s.wr (clockOk ocxo) 0).rd TIM_SRC_CTRL.OSC = (if ocxo then 1 else 2) := (rd_wr_addr hwf haddr).trans hosc
    have htold : (s.wr (clockOk ocxo) 0).told 46 = s.told 46 := told_of_evt (((Keep.refl 8 s).wr .tim hin rfl).parts .evt rfl) 46
    rw [State.clockLost, if_pos hsel, ← htold]
    exact told_lt_raise ..

/-- Settles O8: each command from its `exec_` equation, and what the operations it names show. -/
theorem timebaseCommands : Obligations.TimebaseCommands := by
  unfold Obligations.TimebaseCommands
  refine ⟨?adj, ?freeRun, ?acquiring, ?ao, ?gtcRead, ?angleRead, ?pulse, ?silent, ?pulseEnd, ?lost, ?detected⟩
  case adj => exact fun s who => freqAdjWrite_does
  case freeRun => exact fun s g t0 => holdoverExpire_freeRun_does
  case acquiring => exact fun s g t0 => holdoverExpire_acquiring_does
  case ao => exact fun s => aoCounterCorrect_does
  case gtcRead => exact fun s who hopen => does_of_exec (if_neg (by simp [hopen])) ⟨rfl, rfl, rfl⟩
  case angleRead =>
    intro s who inst hopen hinst
    exact does_of_exec ((if_neg (by simp [hopen])).trans (if_neg (by omega))) ⟨rfl, rfl, rfl⟩
  case pulse =>
    rintro s _ rfl hen hgate
    exact ppsOutPulse_does hen hgate
  case silent =>
    rintro s _ rfl h
    exact ppsOutPulse_silent_does h
  case pulseEnd => exact fun s h => does_of_exec (exec_ppsOutPulseEnd h) ⟨rfl, advanceTo_le_tick ..⟩
  case lost => exact fun s ocxo => oscClockLost_does
  case detected => exact fun s ocxo hwf => does_of_exec (exec_oscClockDetected s ocxo) (on_wr_clockOk hwf ocxo true)

end Sys2Proof.Machine

/-!
Three groups of statements about the timebase and the ports that fail, each in a state whose tables are not in the form that the
commands themselves keep: a key listed twice, or a word of another block in a staging window.
-/
namespace Sys2Proof.Machine

/-! ## The timeout of PTP (R56) -/

/-- PTP is silent at the end of its timeout: no longer seen, and its runs of updates end. -/
def State.ptpSilent (s : State) : State :=
  let u := s.advanceTo ((s.src 1).lastTick + s.ptpTimeout)
  u.setSrc 1 { u.src 1 with seen := false, run := 0, worse := 0 }

theorem exec_ptpUpdateTimeout {s : State} (hseen : (s.src 1).seen = true) :
    exec .ptpUpdateTimeout s = .next s.ptpSilent.timeCheck := by
  have hsrc : (s.advanceTo ((s.src 1).lastTick + s.ptpTimeout)).src 1 = s.src 1 := by
    unfold State.advanceTo
    split <;> rfl
  have hto : (s.advanceTo ((s.src 1).lastTick + s.ptpTimeout)).ptpTimeout = s.ptpTimeout := by
    unfold State.advanceTo
    split <;> rfl
  have hover := advanceTo_le_tick s ((s.src 1).lastTick + s.ptpTimeout)
  exact (if_neg (by simp [hseen])).trans (if_neg (by rw [hsrc, hto]; exact Nat.not_lt.2 hover))

/-- PTP is listed twice among the sources: an update at tick 0, and behind it one that the list never reaches. -/
def ptpListedTwice : State := { tim := { srcs := [(1, { seen := true }), (1, { seen := true, lastTick := 2 ^ 64 })] } }

/-- Once silent, the first entry is what an unlisted key reads as, so it is removed, and the one behind it is PTP's from then on. -/
theorem srcOk_after_timeout : ptpListedTwice.ptpSilent.timeCheck.srcOk 1 = true := by decide

/-- Refutes O7: the statement takes every state, and in one whose list of sources names PTP twice the timeout of PTP uncovers the
second entry, which is valid (`srcOk_after_timeout`). The clause asks for no canonical list of sources. -/
theorem not_timeSourceUpdates : ¬ Obligations.TimeSourceUpdates := by
  unfold Obligations.TimeSourceUpdates
  rintro ⟨-, -, -, htimeout, -⟩
  obtain ⟨t, hexec, -, hinvalid⟩ := htimeout ptpListedTwice rfl
  rw [exec_ptpUpdateTimeout rfl] at hexec
  cases hexec
  rw [srcOk_after_timeout] at hinvalid
  cases hinvalid

/-! ## A frame whose reception was cut (R103) -/

/-- The end of a frame whose reception a reset cut: the cut is used up, and the frame counts in counter 8. -/
def State.cutEnded (s : State) (n : Nat) : State := (s.setPort n { s.port n with cutTick := 0 }).macCount n 8

theorem exec_frameReceive_cut {s : State} {n a b : Nat} (x : List Byte) (m : RxMarks) (hn : n < 40) (ha : a < (s.port n).cutTick)
    (hb : (s.port n).cutTick ≤ b) : exec (.frameReceive n x m a b) s = .next ((s.advanceTo b).cutEnded n) := by
  have hport : (s.advanceTo b).port n = s.port n := by rw [State.port, (State.advanceTo_keep s b).parts .fpt rfl, State.port]
  exact (if_neg (by omega)).trans (if_pos (by simp [hport, ha, hb]))

/-- Port 0 is listed twice, with a cut at tick 1 and behind it one at tick 2. -/
def portListedTwice : State := { fpt := { ports := [(0, { cutTick := 1 }), (0, { cutTick := 2 })] } }

theorem cutTick_after_cut : (((portListedTwice.advanceTo 1).cutEnded 0).port 0).cutTick = 2 := by decide

/-- Refutes O37: `State.wf` asks nothing of the list of ports, and where it names a port twice the end of the frame that was cut at
the first entry uncovers the second, whose cut still stands (`cutTick_after_cut`). -/
theorem not_frameCommands : ¬ Obligations.FrameCommands := by
  unfold Obligations.FrameCommands
  rintro ⟨-, -, -, -, hcut, -⟩
  obtain ⟨t, hexec, hport, -⟩ := hcut portListedTwice 0 0 1 [] {} rfl (by decide) (by decide) (by decide)
  rw [exec_frameReceive_cut [] {} (by decide) (by decide) (by decide)] at hexec
  cases hexec
  rw [cutTick_after_cut] at hport
  cases hport

/-! ## Marks that fire in the same tick (R77, R78, R39, R43) -/

theorem fireArmed_of_none {s : State} {k : Nat} (h : s.markNext k = none) : s.fireArmed k = s := by
  rw [State.fireArmed, h]

/-- The marks of `l` are taken with the firing in this tick. -/
def State.marksTaken (s : State) (l : List Nat) : State :=
  { s with tim := { s.tim with markTick := s.tick, markDone := (if s.tim.markTick = s.tick then s.tim.markDone else []) ++ l } }

/-- The marks below `m` that fire in the present tick. -/
def State.lowerMarks (s : State) (m : Nat) : List Nat := (s.sameTick m).filter (fun k => decide (k < m))

/-- A mark at its crossing, with TIM armed on no mark of the tick: the lower marks and it fire in ascending order. -/
theorem exec_angleMarkFire_crossing {s : State} {m c x : Nat} (hm : m < 256)
    (hdone : (s.tim.markTick = s.tick && s.tim.markDone.contains m) = false) (hnext : s.markNext m = some (c, x))
    (hnow : x ≤ (s.grain (s.rd TIM_MARKn_CFG.INSTANCE m)).acc)
    (htim : (m :: s.lowerMarks m).find? (fun k => s.armedOn k == some .tim) = none) :
    exec (.angleMarkFire m) s = .next (forEach (m :: s.lowerMarks m).mergeSort (fun k u => u.fireArmed k) (s.marksTaken (s.lowerMarks m))) := by
  have hlt : ¬ (s.grain (s.rd TIM_MARKn_CFG.INSTANCE m)).acc < x := by omega
  change execAngleMarkFire m s = _
  rw [execAngleMarkFire, if_neg (by omega), if_neg (by simpa using hdone), hnext]
  simp only [hlt, decide_false, Bool.false_and, Bool.false_eq_true, if_false]
  rw [State.lowerMarks] at htim
  simp only [htim, Option.isSome_none, Bool.false_eq_true, if_false]
  rfl

/-- Marks 1 and 2 cross in the same tick, QMG is Armed on mark 1, and QMG's window holds a word that disables mark 2. -/
def markWordStagedByQmg : State :=
  { regs := [(TIM_GRAINn_STATUS.STATE.addr 0 0, 2#32), (TIM_MARKn_CFG.ENABLE.addr 1 0, 0x10001#32), (TIM_MARKn_CFG.ENABLE.addr 2 0, 0x10001#32)]
    stage := [(Blk.qmg.bit, { staged := [(TIM_MARKn_CFG.ENABLE.addr 2 0, some 0)] })]
    markOwner := [(1, Blk.qmg.bit + 1)]
    tim := { grains := [(0, { acc := 2 ^ 64, inc := 1 })] } }

theorem markNext_markWordStagedByQmg : markWordStagedByQmg.markNext 2 = some (1, 2 ^ 64) := by decide

theorem lowerMarks_markWordStagedByQmg : markWordStagedByQmg.lowerMarks 2 = [1] := by decide +kernel

/-- The state after mark 1 has fired and QMG has committed. -/
def qmgCommitted : State := (markWordStagedByQmg.marksTaken [1]).fireArmed 1

theorem markNext_qmgCommitted : qmgCommitted.markNext 2 = none := by decide +kernel

theorem seen_qmgCommitted : qmgCommitted.bitAt TIM_MARK_SEENk.SEEN 2 = false := by decide +kernel

/-- Mark 1 fires first and QMG commits the word, so mark 2 has no crossing left to fire at. -/
theorem exec_angleMarkFire_markWordStagedByQmg : exec (.angleMarkFire 2) markWordStagedByQmg = .next qmgCommitted := by
  have hsort : [2, 1].mergeSort = [1, 2] := by simp [List.mergeSort]
  rw [exec_angleMarkFire_crossing (by decide) rfl markNext_markWordStagedByQmg (by decide)
    (by rw [lowerMarks_markWordStagedByQmg]; decide), lowerMarks_markWordStagedByQmg, hsort]
  simp only [forEach]
  rw [← qmgCommitted, fireArmed_of_none markNext_qmgCommitted]

/-- Refutes O9: the statement keeps TIM from being Armed on a mark, but not another block from staging a word of TIM, and the commit of
such a block at a lower mark of the same tick disables the mark before it fires (`exec_angleMarkFire_markWordStagedByQmg`). -/
theorem not_grainAndMarks : ¬ Obligations.GrainAndMarks := by
  unfold Obligations.GrainAndMarks
  rintro ⟨-, -, -, -, -, hfire, -⟩
  obtain ⟨t, hexec, hseen, -⟩ := hfire markWordStagedByQmg 2 1 (2 ^ 64) (by decide) (by decide) markNext_markWordStagedByQmg rfl
    (by decide) (by decide)
  rw [exec_angleMarkFire_markWordStagedByQmg] at hexec
  obtain rfl := Host.Outcome.next.inj hexec
  rw [seen_qmgCommitted] at hseen
  cases hseen

end Sys2Proof.Machine

/-!
The by-pass of pairs: which register fields its operations write, what they leave in the entry of a pair, what they do by the
conditions of R96, and the commands of the by-pass.
-/
namespace Sys2Proof.Machine

/-! ## The fields that an operation of the ports writes -/

/-- Has field `f` at `i` no bit in common with another field at its index? -/
def Fld.apart (f : Fld) (i : Nat) (g : Fld × Nat) : Prop :=
  f.addr i 0 ≠ g.1.addr g.2 0 ∨ f.lo + f.w ≤ g.1.lo ∨ g.1.lo + g.1.w ≤ f.lo

/-- The registers of ports, fabric ports and pairs; the statistics of R104 stand above them. -/
def isPortReg (a : Nat) : Prop := 0x80000 ≤ a ∧ a < 0x90000

/-- From `s` to `t` the registers of ports, fabric ports and pairs change in the fields listed only. -/
structure Writes (l : List (Fld × Nat)) (s t : State) : Prop where
  wf : s.wf = true → t.wf = true
  rd : s.wf = true → ∀ {f : Fld} {i : Nat}, isPortReg (f.addr i 0) → (∀ g ∈ l, f.apart i g) → t.rd f i = s.rd f i

theorem Writes.refl (l : List (Fld × Nat)) (s : State) : Writes l s s := ⟨id, fun _ _ _ _ _ => rfl⟩

theorem Writes.trans {l : List (Fld × Nat)} {s t u : State} (h1 : Writes l s t) (h2 : Writes l t u) : Writes l s u :=
  ⟨fun h => h2.wf (h1.wf h), fun h _ _ hr ha => (h2.rd (h1.wf h) hr ha).trans (h1.rd h hr ha)⟩

theorem Writes.mono {l l' : List (Fld × Nat)} {s t : State} (h : Writes l s t) (hl : l ⊆ l') : Writes l' s t :=
  ⟨h.wf, fun hwf _ _ hr ha => h.rd hwf hr fun g hg => ha g (hl hg)⟩

/-- An operation that leaves the block of the ports alone. -/
theorem Writes.of_keep {m : Nat} {s t : State} (l : List (Fld × Nat)) (k : Keep m s t) (hm : m.testBit 4 = false) : Writes l s t := by
  refine ⟨k.wf, fun hwf f i hr _ => k.rd hwf f i 0 ?_⟩
  rw [zoneNo_blk (b := .fpt) hr.1 (Nat.lt_trans hr.2 (by decide))]
  exact hm

theorem Writes.ite {l : List (Fld × Nat)} {s t u : State} {c : Prop} [Decidable c] (ht : c → Writes l s t) (hu : ¬ c → Writes l s u) :
    Writes l s (if c then t else u) := by
  split
  case isTrue h => exact ht h
  case isFalse h => exact hu h

theorem Writes.forEach {α : Type} {l : List (Fld × Nat)} {xs : List α} {f : α → State → State}
    (h : ∀ x ∈ xs, ∀ u, Writes l u (f x u)) (s : State) : Writes l s (forEach xs f s) := by
  induction xs generalizing s with
  | nil => exact .refl l s
  | cons x xs ih => exact (h x (by simp) s).trans (ih (fun y hy => h y (by simp [hy])) _)

theorem Writes.wr {l : List (Fld × Nat)} (s : State) {f : Fld} (v i : Nat) (hb : f.lo + f.w ≤ 32) (hmem : (f, i) ∈ l) :
    Writes l s (s.wr f v i) := by
  refine ⟨fun h => wr_wf h .., fun h g k _ ha => ?_⟩
  rcases ha _ hmem with haddr | hbits
  · exact rd_wr_addr h haddr
  · exact rd_wr_bits h hb hbits.symm

/-- Statistics are counted above these registers. -/
theorem Writes.macCount (l : List (Fld × Nat)) (s : State) (n j k : Nat) : Writes l s (s.macCount n j k) := by
  refine ⟨(State.macCount_keep ..).wf, fun h f i hr _ => rd_of_reg ?_⟩
  obtain ⟨-, hlt⟩ := hr
  unfold State.macCount State.count
  split
  all_goals
    refine reg_wr64_other h ?_ ?_
    all_goals
      simp only [Fld.addr, FPT_STATn_MAC_LO.COUNT, FPT_XSTATs_MAC_LO.COUNT] at hlt ⊢
      omega

/-! ### By-pass operations -/

/-- The fields in which the by-pass of pair `p` shows its state, apart from FWD_READY. -/
def bypFields (p : Nat) : List (Fld × Nat) :=
  [(FPT_PAIRp_STATUS.DRIVE, p), (FPT_PAIRp_STATUS.REASON, p), (FPT_PAIRp_STATUS.BSTATE, p)]

/-- Those fields and FWD_READY. -/
def bypShown (p : Nat) : List (Fld × Nat) := (FPT_PAIRp_STATUS.FWD_READY, p) :: bypFields p

theorem bypFields_sub (p : Nat) : bypFields p ⊆ bypShown p := List.subset_cons_self ..

theorem raise_writes (l : List (Fld × Nat)) (s : State) (src : Nat) (items : List Item) (grain at_ : Option Nat) :
    Writes l s (s.raise src items grain at_) := .of_keep l (State.raise_keep ..) rfl

theorem setPair_writes (l : List (Fld × Nat)) (s : State) (p : Nat) (q : PairSt) : Writes l s (s.setPair p q) :=
  .of_keep l (State.setPair_keep ..) rfl

theorem setPort_writes (l : List (Fld × Nat)) (s : State) (n : Nat) (q : PortSt) : Writes l s (s.setPort n q) :=
  .of_keep l (State.setPort_keep ..) rfl

theorem showFwd_writes (s : State) (p : Nat) : Writes [(FPT_PAIRp_STATUS.FWD_READY, p)] s (s.showFwd p) :=
  .wr s _ p (by decide) (by simp)

theorem setBstate_writes (s : State) (p v : Nat) : Writes [(FPT_PAIRp_STATUS.BSTATE, p)] s (s.setBstate p v) := by
  have hwr : Writes [(FPT_PAIRp_STATUS.BSTATE, p)] s (s.wr FPT_PAIRp_STATUS.BSTATE v p) := .wr s v p (by decide) (by simp)
  unfold State.setBstate
  exact .ite (fun _ => .refl _ s) fun _ => (hwr.trans (setPair_writes ..)).trans (raise_writes ..)

theorem setDrive_writes (s : State) (p : Nat) (v : Bool) : Writes [(FPT_PAIRp_STATUS.DRIVE, p)] s (s.setDrive p v) := by
  have hwr : Writes [(FPT_PAIRp_STATUS.DRIVE, p)] s (s.wr FPT_PAIRp_STATUS.DRIVE (b2n v) p) := .wr s _ p (by decide) (by simp)
  exact hwr.trans (.of_keep (m := 2) _ ((Keep.refl 2 _).wr .pwr rfl rfl) rfl)

theorem setBstate_bypFields (s : State) (p v : Nat) : Writes (bypFields p) s (s.setBstate p v) :=
  (setBstate_writes s p v).mono (by simp [bypFields])

/-- Released, before the reason shows: the drive goes low where it was high. -/
def State.driveOff (s : State) (p : Nat) : State := if s.on FPT_PAIRp_STATUS.DRIVE p then (s.setDrive p false).cal 49 else s

theorem bypRelease_eq (s : State) (p reason st : Nat) :
    s.bypRelease p reason st = ((s.driveOff p).wr FPT_PAIRp_STATUS.REASON reason p).setBstate p st := rfl

theorem driveOff_writes (s : State) (p : Nat) : Writes [(FPT_PAIRp_STATUS.DRIVE, p)] s (s.driveOff p) := by
  unfold State.driveOff
  exact .ite (fun _ => (setDrive_writes ..).trans (.of_keep _ (State.cal_keep ..) rfl)) fun _ => .refl _ s

theorem bypRelease_writes (s : State) (p reason st : Nat) : Writes (bypFields p) s (s.bypRelease p reason st) := by
  have hoff : Writes (bypFields p) s (s.driveOff p) := (driveOff_writes s p).mono (by simp [bypFields])
  exact (hoff.trans (.wr _ reason p (by decide) (by simp [bypFields]))).trans (setBstate_bypFields ..)

/-- The by-pass of pair `p` is Checking, and no check frame with the pair's new nonce has come back. -/
def State.checkBegun (s : State) (p : Nat) : State :=
  (s.draw.setPair p { s.pair p with nonce := Config.freeNat s.free % 2 ^ 32, backA := false, backB := false }).setBstate p 1

/-- A loop-check frame with a nonce is handed to port `n`. -/
def State.sendCheck (s : State) (nonce n : Nat) : State :=
  (s.setPort n (placeHanded (s.port n) { bytes := s.loopFrame n nonce, kind := 4 })).startFrame n

theorem loopCheck_eq (s : State) (p : Nat) :
    s.loopCheck p = ((s.checkBegun p).sendCheck (Config.freeNat s.free % 2 ^ 32) (2 * p)).sendCheck (Config.freeNat s.free % 2 ^ 32)
      (2 * p + 1) := rfl

theorem sendCheck_writes (l : List (Fld × Nat)) (s : State) (nonce n : Nat) : Writes l s (s.sendCheck nonce n) :=
  (setPort_writes ..).trans (.of_keep _ (State.startFrame_keep ..) rfl)

theorem checkBegun_writes (s : State) (p : Nat) : Writes (bypFields p) s (s.checkBegun p) :=
  ((Writes.of_keep _ (State.draw_keep s) rfl).trans (setPair_writes ..)).trans (setBstate_bypFields ..)

theorem loopCheck_writes (s : State) (p : Nat) : Writes (bypFields p) s (s.loopCheck p) := by
  rw [loopCheck_eq]
  exact ((checkBegun_writes s p).trans (sendCheck_writes ..)).trans (sendCheck_writes ..)

/-- The conditions of R96 as the pair shows them now are the ones it has seen. -/
def State.noted (s : State) (p : Nat) : State := s.setPair p { s.pair p with causes := s.bypCauses p }

/-- The conditions of R96 that have come since they were last looked at. -/
def State.fresh (s : State) (p : Nat) : List Nat := (s.bypCauses p).filter (fun c => !(s.pair p).causes.contains c)

/-- Does the by-pass of pair `p` hold its drive, or is it on its way to it? -/
def State.engaged (s : State) (p : Nat) : Bool := s.on FPT_PAIRp_STATUS.DRIVE p || s.on FPT_PAIRp_STATUS.BSTATE p

/-- Are both links of pair `p` Up? -/
def State.bothUp (s : State) (p : Nat) : Bool := s.portUp (2 * p) && s.portUp (2 * p + 1)

/-- What the by-pass table of pair `p` does in state `u`, whose FWD_READY is as it should be (R97). -/
inductive BypActs (p : Nat) (u : State) : State → Prop
  | release {r : Nat} {l : List Nat} (hcause : u.bypCauses p = r :: l) (hon : u.engaged p = true) :
      BypActs p u ((u.noted p).bypRelease p ((u.fresh p).headD r) 0)
  | reason {c : Nat} {l : List Nat} (hcause : u.bypCauses p ≠ []) (hoff : u.engaged p = false) (hfresh : u.fresh p = c :: l) :
      BypActs p u ((u.noted p).wr FPT_PAIRp_STATUS.REASON c p)
  | hold (hcause : u.bypCauses p ≠ []) (hoff : u.engaged p = false) (hfresh : u.fresh p = []) : BypActs p u (u.noted p)
  | check (hclear : u.bypCauses p = []) (hst : u.rd FPT_PAIRp_STATUS.BSTATE p = 0) (hup : u.bothUp p = true) :
      BypActs p u ((u.noted p).loopCheck p)
  | unsettle (hclear : u.bypCauses p = []) (hst : u.rd FPT_PAIRp_STATUS.BSTATE p = 2) : BypActs p u ((u.noted p).setBstate p 0)
  | rest (hclear : u.bypCauses p = []) : BypActs p u (u.noted p)

theorem bypCheck_acts (s : State) (p : Nat) : BypActs p (s.showFwd p) (s.bypCheck p) := by
  unfold State.bypCheck
  dsimp only
  split
  case h_1 r l hcause =>
    have hne : (s.showFwd p).bypCauses p ≠ [] := by simp [hcause]
    split
    case isTrue hon => exact .release hcause hon
    case isFalse hoff =>
      split
      case h_1 c _ hnew => exact .reason hne (Bool.eq_false_iff.2 hoff) hnew
      case h_2 hnew => exact .hold hne (Bool.eq_false_iff.2 hoff) hnew
  case h_2 hclear =>
    split
    case isTrue h =>
      simp only [Bool.and_eq_true, decide_eq_true_eq] at h
      obtain ⟨⟨hst, hup⟩, -⟩ := h
      exact .check hclear hst (Bool.and_eq_true_iff.2 hup)
    case isFalse =>
      split
      case isTrue h =>
        simp only [Bool.and_eq_true, decide_eq_true_eq] at h
        exact .unsettle hclear h.1
      case isFalse => exact .rest hclear

theorem BypActs.writes {p : Nat} {u t : State} (h : BypActs p u t) : Writes (bypFields p) u t := by
  have hnoted : Writes (bypFields p) u (u.noted p) := setPair_writes ..
  cases h with
  | release => exact hnoted.trans (bypRelease_writes ..)
  | reason => exact hnoted.trans (.wr _ _ p (by decide) (by simp [bypFields]))
  | hold => exact hnoted
  | check => exact hnoted.trans (loopCheck_writes ..)
  | unsettle => exact hnoted.trans (setBstate_bypFields ..)
  | rest => exact hnoted

theorem bypCheck_writes (s : State) (p : Nat) : Writes (bypShown p) s (s.bypCheck p) :=
  .trans ((showFwd_writes s p).mono (by simp [bypShown])) ((bypCheck_acts s p).writes.mono (bypFields_sub p))

theorem bypLinkUp_writes (s : State) (p : Nat) : Writes (bypShown p) s (s.bypLinkUp p) := by
  unfold State.bypLinkUp
  exact .ite (fun _ => (setPair_writes ..).trans ((setBstate_bypFields ..).mono (bypFields_sub p))) fun _ => bypCheck_writes s p

/-! ### Fields that the by-pass leaves -/

/-- Does a field lie, at every index, among the registers of ports, fabric ports and pairs? -/
def Fld.inPorts (f : Fld) : Bool := decide (0x80000 ≤ f.base) && decide (f.base + f.s1 * (f.n1 - 1) < 0x90000)

theorem isPortReg_addr {f : Fld} {i : Nat} (hf : f.inPorts = true) (hi : i < f.n1) : isPortReg (f.addr i 0) := by
  simp only [Fld.inPorts, Bool.and_eq_true, decide_eq_true_eq] at hf
  have hle := Nat.mul_le_mul_left f.s1 (Nat.le_sub_one_of_lt hi)
  simp only [isPortReg, Fld.addr]
  omega

/-- The status of a pair is the only one of these registers at offset 0x18 modulo 0x40. -/
theorem apart_bypShown {f : Fld} (p i : Nat) (hs : f.s1 % 0x40 = 0) (hb : f.base % 0x40 ≠ 0x18) : ∀ g ∈ bypShown p, f.apart i g := by
  have hmul := Nat.mod_eq_zero_of_dvd ((Nat.dvd_of_mod_eq_zero hs).mul_right i)
  simp only [bypShown, bypFields, List.forall_mem_cons, List.not_mem_nil, false_implies, implies_true, and_true]
  refine ⟨.inl ?_, .inl ?_, .inl ?_, .inl ?_⟩
  all_goals
    simp only [Fld.addr, FPT_PAIRp_STATUS.FWD_READY, FPT_PAIRp_STATUS.DRIVE, FPT_PAIRp_STATUS.REASON, FPT_PAIRp_STATUS.BSTATE]
    omega

/-- The by-pass writes no register but the status of its pair. -/
theorem rd_of_bypShown {s t : State} {p : Nat} (w : Writes (bypShown p) s t) (hwf : s.wf = true) {f : Fld} {i : Nat}
    (hf : f.inPorts = true) (hi : i < f.n1) (hs : f.s1 % 0x40 = 0) (hb : f.base % 0x40 ≠ 0x18) : t.rd f i = s.rd f i :=
  w.rd hwf (isPortReg_addr hf hi) (apart_bypShown p i hs hb)

theorem rd_of_bypFields {s t : State} {p : Nat} (w : Writes (bypFields p) s t) (hwf : s.wf = true) {f : Fld} {i : Nat}
    (hf : f.inPorts = true) (hi : i < f.n1) (hs : f.s1 % 0x40 = 0) (hb : f.base % 0x40 ≠ 0x18) : t.rd f i = s.rd f i :=
  rd_of_bypShown (w.mono (bypFields_sub p)) hwf hf hi hs hb

/-- A write of one field of a pair's status leaves another. -/
theorem rd_status_of_writes {s t : State} {f g : Fld} {p : Nat} (w : Writes [(g, p)] s t) (hwf : s.wf = true) (hp : p < f.n1)
    (hf : f.inPorts = true) (hbits : f.lo + f.w ≤ g.lo ∨ g.lo + g.w ≤ f.lo) : t.rd f p = s.rd f p :=
  w.rd hwf (isPortReg_addr hf hp) (by simpa using .inr hbits)

/-! ### The entry of a pair -/

/-- What the entry of a pair says that its by-pass does not change. -/
def PairSt.marks (q : PairSt) : Bool × Bool × Nat × Option Nat := (q.inReset, q.keeperExpired, q.fails, q.retryFrom)

/-- Does the entry say any of it? Such an entry reads back from any table, canonical or not. -/
def PairSt.marked (q : PairSt) : Bool := decide (q.marks ≠ (false, false, 0, none))

theorem pair_setPair (s : State) (p : Nat) {q : PairSt} (h : q.marked = true) : (s.setPair p q).pair p = q :=
  cellGet_cellSet_ne _ _ (ne_of_apply_ne PairSt.marks (of_decide_eq_true h))

theorem marked_of_marks {q r : PairSt} (h : r.marks = q.marks) : r.marked = q.marked := by rw [PairSt.marked, h, PairSt.marked]

theorem inReset_of_marks {q r : PairSt} (h : r.marks = q.marks) : r.inReset = q.inReset := congrArg (·.1) h

theorem keeperExpired_of_marks {q r : PairSt} (h : r.marks = q.marks) : r.keeperExpired = q.keeperExpired := congrArg (·.2.1) h

theorem fails_of_marks {q r : PairSt} (h : r.marks = q.marks) : r.fails = q.fails := congrArg (·.2.2.1) h

theorem marked_of_inReset {q : PairSt} (h : q.inReset = true) : q.marked = true := by simp [PairSt.marked, PairSt.marks, h]

theorem marked_of_keeperExpired {q : PairSt} (h : q.keeperExpired = true) : q.marked = true := by
  simp [PairSt.marked, PairSt.marks, h]

theorem marked_of_fails {q : PairSt} (h : q.fails ≠ 0) : q.marked = true := by simp [PairSt.marked, PairSt.marks, h]

theorem marked_of_retryFrom {q : PairSt} {t : Nat} (h : q.retryFrom = some t) : q.marked = true := by
  simp [PairSt.marked, PairSt.marks, h]

theorem fpt_of_keep {m : Nat} {s t : State} (k : Keep m s t) (hm : m.testBit 41 = false) : t.fpt = s.fpt := k.parts .fpt hm

theorem fpt_wr (s : State) (f : Fld) (v i j : Nat) : (s.wr f v i j).fpt = s.fpt := by
  unfold State.wr
  split <;> rfl

theorem pair_of_fpt {s t : State} (h : t.fpt = s.fpt) (p : Nat) : t.pair p = s.pair p := by rw [State.pair, h, State.pair]

/-- A new BSTATE changes in the entry of its pair at most the time of entry. -/
theorem setBstate_pair {s : State} {p : Nat} (v : Nat) (h : (s.pair p).marked = true) :
    ∃ x, (s.setBstate p v).pair p = { s.pair p with since := x } := by
  have hwr := pair_of_fpt (fpt_wr s FPT_PAIRp_STATUS.BSTATE v p 0) p
  unfold State.setBstate
  split
  · exact ⟨(s.pair p).since, rfl⟩
  · refine ⟨s.tick, ?_⟩
    rw [pair_of_fpt (fpt_of_keep (State.raise_keep ..) rfl)]
    dsimp only
    rw [hwr, (show (s.wr FPT_PAIRp_STATUS.BSTATE v p).tick = s.tick from by unfold State.wr; split <;> rfl)]
    exact pair_setPair _ p h

theorem fpt_driveOff (s : State) (p : Nat) : (s.driveOff p).fpt = s.fpt := by
  unfold State.driveOff
  split
  · exact (fpt_of_keep (State.cal_keep ..) rfl).trans (fpt_of_keep (State.setDrive_keep ..) rfl)
  · rfl

theorem bypRelease_pair {s : State} {p : Nat} (reason st : Nat) (h : (s.pair p).marked = true) :
    ∃ x, (s.bypRelease p reason st).pair p = { s.pair p with since := x } := by
  have hpair : ((s.driveOff p).wr FPT_PAIRp_STATUS.REASON reason p).pair p = s.pair p :=
    pair_of_fpt ((fpt_wr ..).trans (fpt_driveOff s p)) p
  rw [bypRelease_eq, ← hpair]
  exact setBstate_pair st (hpair ▸ h)

/-- From `s` to `t` nothing is said otherwise of pair `p` that a condition of R96 or the by-pass commands go by. -/
structure Marks (p : Nat) (s t : State) : Prop where
  powerHold : t.fpt.powerHold = s.fpt.powerHold
  marks : (s.pair p).marked = true → (t.pair p).marks = (s.pair p).marks

theorem Marks.refl (p : Nat) (s : State) : Marks p s s := ⟨rfl, fun _ => rfl⟩

theorem Marks.marked {p : Nat} {s t : State} (h : Marks p s t) (hm : (s.pair p).marked = true) : (t.pair p).marked = true :=
  (marked_of_marks (h.marks hm)).trans hm

theorem Marks.trans {p : Nat} {s t u : State} (h1 : Marks p s t) (h2 : Marks p t u) : Marks p s u :=
  ⟨h2.powerHold.trans h1.powerHold, fun hm => (h2.marks (h1.marked hm)).trans (h1.marks hm)⟩

theorem Marks.of_pairs {p : Nat} {s t : State} (hpairs : t.fpt.pairs = s.fpt.pairs) (hhold : t.fpt.powerHold = s.fpt.powerHold) :
    Marks p s t := ⟨hhold, fun _ => by rw [State.pair, hpairs, State.pair]⟩

theorem Marks.of_fpt {s t : State} (p : Nat) (h : t.fpt = s.fpt) : Marks p s t := .of_pairs (by rw [h]) (by rw [h])

theorem Marks.setPair {p : Nat} {s : State} {q : PairSt} (h : q.marks = (s.pair p).marks) : Marks p s (s.setPair p q) :=
  ⟨rfl, fun hm => by rw [pair_setPair s p ((marked_of_marks h).trans hm), h]⟩

theorem setBstate_powerHold (s : State) (p v : Nat) : (s.setBstate p v).fpt.powerHold = s.fpt.powerHold := by
  have hwr := fpt_wr s FPT_PAIRp_STATUS.BSTATE v p 0
  unfold State.setBstate
  split
  · rfl
  · rw [fpt_of_keep (State.raise_keep ..) rfl]
    exact (show _ = (s.wr FPT_PAIRp_STATUS.BSTATE v p).fpt.powerHold from rfl).trans (congrArg FptSt.powerHold hwr)

theorem setBstate_marks (s : State) (p v : Nat) : Marks p s (s.setBstate p v) := by
  refine ⟨setBstate_powerHold s p v, fun hm => ?_⟩
  obtain ⟨x, hx⟩ := setBstate_pair v hm
  rw [hx]
  rfl

theorem bypRelease_marks (s : State) (p reason st : Nat) : Marks p s (s.bypRelease p reason st) := by
  rw [bypRelease_eq]
  exact (Marks.of_fpt p ((fpt_wr ..).trans (fpt_driveOff s p))).trans (setBstate_marks ..)

/-- A frame that starts changes its port alone. -/
theorem startFrame_fpt (s : State) (n : Nat) : ∃ l, (s.startFrame n).fpt = { s.fpt with ports := l } := by
  unfold State.startFrame
  split
  · exact ⟨_, rfl⟩
  · split
    · exact ⟨_, rfl⟩
    · exact ⟨_, rfl⟩

theorem startFrame_marks (p : Nat) (s : State) (n : Nat) : Marks p s (s.startFrame n) := by
  obtain ⟨l, hl⟩ := startFrame_fpt s n
  exact .of_pairs (by rw [hl]) (by rw [hl])

theorem sendCheck_marks (p : Nat) (s : State) (nonce n : Nat) : Marks p s (s.sendCheck nonce n) :=
  have hport : Marks p s (s.setPort n (placeHanded (s.port n) { bytes := s.loopFrame n nonce, kind := 4 })) := .of_pairs rfl rfl
  hport.trans (startFrame_marks ..)

theorem loopCheck_marks (s : State) (p : Nat) : Marks p s (s.loopCheck p) := by
  have hpair : Marks p s (s.draw.setPair p { s.pair p with nonce := Config.freeNat s.free % 2 ^ 32, backA := false, backB := false }) :=
    (Marks.of_fpt p (State.draw_fpt s)).trans (.setPair rfl)
  have hbegun : Marks p s (s.checkBegun p) := hpair.trans (setBstate_marks ..)
  rw [loopCheck_eq]
  exact (hbegun.trans (sendCheck_marks ..)).trans (sendCheck_marks ..)

theorem noted_marks (s : State) (p : Nat) : Marks p s (s.noted p) := .setPair rfl

theorem BypActs.marks {p : Nat} {u t : State} (h : BypActs p u t) : Marks p u t := by
  have hnoted := noted_marks u p
  cases h with
  | release => exact hnoted.trans (bypRelease_marks ..)
  | reason => exact hnoted.trans (.of_fpt p (fpt_wr ..))
  | hold => exact hnoted
  | check => exact hnoted.trans (loopCheck_marks ..)
  | unsettle => exact hnoted.trans (setBstate_marks ..)
  | rest => exact hnoted

theorem showFwd_fpt (s : State) (p : Nat) : (s.showFwd p).fpt = s.fpt := fpt_wr ..

theorem bypCheck_marks (s : State) (p : Nat) : Marks p s (s.bypCheck p) := .trans (.of_fpt p (showFwd_fpt s p)) (bypCheck_acts s p).marks

/-! ### The conditions of R96 -/

/-- The conditions present go by what `Marks` keeps and by fields that the by-pass does not write. -/
theorem bypCauses_congr {s t : State} {p : Nat} (hwf : s.wf = true) (hp : p < 12) (hm : (s.pair p).marked = true) (k : Marks p s t)
    (w : Writes (bypFields p) s t) : t.bypCauses p = s.bypCauses p := by
  have hreset : (t.pair p).inReset = (s.pair p).inReset := inReset_of_marks (k.marks hm)
  have hkeeper : (t.pair p).keeperExpired = (s.pair p).keeperExpired := keeperExpired_of_marks (k.marks hm)
  have hen : t.on FPT_PAIRp_BYP.BYP_EN p = s.on FPT_PAIRp_BYP.BYP_EN p := on_of_rd (rd_of_bypFields w hwf rfl hp rfl (by decide))
  have hforce : t.on FPT_PAIRp_CTRL.FORCE_REL p = s.on FPT_PAIRp_CTRL.FORCE_REL p :=
    on_of_rd (rd_of_bypFields w hwf rfl hp rfl (by decide))
  have hport {n : Nat} (hn : n < 24) : t.on FPT_PORTn_CFG.ENABLE n = s.on FPT_PORTn_CFG.ENABLE n :=
    on_of_rd (rd_of_bypFields w hwf rfl hn rfl (by decide))
  have hfwd : t.on FPT_PAIRp_STATUS.FWD_READY p = s.on FPT_PAIRp_STATUS.FWD_READY p := by
    refine on_of_rd (w.rd hwf (isPortReg_addr rfl hp) ?_)
    simp [bypFields, Fld.apart, FPT_PAIRp_STATUS.FWD_READY, FPT_PAIRp_STATUS.DRIVE, FPT_PAIRp_STATUS.REASON, FPT_PAIRp_STATUS.BSTATE]
  simp only [State.bypCauses, k.powerHold, hreset, hkeeper, hen, hforce, hfwd, hport (show 2 * p < 24 by omega),
    hport (show 2 * p + 1 < 24 by omega)]

theorem bypCauses_of_inReset {s : State} {p : Nat} (h : (s.pair p).inReset = true) : s.bypCauses p ≠ [] := by
  simp [State.bypCauses, h]

theorem bypCauses_of_keeper {s : State} {p : Nat} (h : (s.pair p).keeperExpired = true) : s.bypCauses p ≠ [] := by
  simp [State.bypCauses, h]

theorem bypCauses_of_force {s : State} {p : Nat} (h : s.on FPT_PAIRp_CTRL.FORCE_REL p = true) : s.bypCauses p ≠ [] := by
  simp [State.bypCauses, h]

/-- What the by-pass does leaves the conditions that it acted on. -/
theorem bypCheck_causes {s : State} {p : Nat} (hwf : s.wf = true) (hp : p < 12) (hm : (s.pair p).marked = true) :
    (s.bypCheck p).bypCauses p = (s.showFwd p).bypCauses p := by
  have hact := bypCheck_acts s p
  exact bypCauses_congr ((showFwd_writes s p).wf hwf) hp (by rw [pair_of_fpt (showFwd_fpt s p)]; exact hm) hact.marks hact.writes

/-! ### What the status of a pair shows -/

theorem setBstate_bstate {s : State} (hwf : s.wf = true) {p v : Nat} (hp : p < 12) (hv : v < 8) :
    (s.setBstate p v).rd FPT_PAIRp_STATUS.BSTATE p = v := by
  unfold State.setBstate
  split
  case isTrue h => exact h
  case isFalse =>
    have hset : (s.wr FPT_PAIRp_STATUS.BSTATE v p).rd FPT_PAIRp_STATUS.BSTATE p = v % 8 :=
      rd_wr_same hwf (by decide) (by simp [Fld.fits, FPT_PAIRp_STATUS.BSTATE, hp])
    have k := raise_writes [] ((s.wr FPT_PAIRp_STATUS.BSTATE v p).setPair p
      { (s.wr FPT_PAIRp_STATUS.BSTATE v p).pair p with since := (s.wr FPT_PAIRp_STATUS.BSTATE v p).tick })
      (portSource (2 * p) 3) [] none none
    rw [k.rd (wr_wf hwf ..) (isPortReg_addr rfl hp) (by simp)]
    exact hset.trans (Nat.mod_eq_of_lt hv)

theorem setDrive_drive {s : State} (hwf : s.wf = true) {p : Nat} (hp : p < 12) (v : Bool) :
    (s.setDrive p v).on FPT_PAIRp_STATUS.DRIVE p = v := by
  have hset : (s.wr FPT_PAIRp_STATUS.DRIVE (b2n v) p).on FPT_PAIRp_STATUS.DRIVE p = v :=
    on_wr_same hwf (by decide) rfl (by simp [Fld.fits, FPT_PAIRp_STATUS.DRIVE, hp]) v
  have haddr : FPT_PAIRp_STATUS.DRIVE.addr p 0 ≠ PWR_BYP.DRIVE.addr 0 0 := by
    simp only [Fld.addr, FPT_PAIRp_STATUS.DRIVE, PWR_BYP.DRIVE]
    omega
  rw [State.setDrive, on_of_rd (rd_wr_addr (wr_wf hwf ..) haddr)]
  exact hset

theorem driveOff_drive {s : State} (hwf : s.wf = true) {p : Nat} (hp : p < 12) : (s.driveOff p).on FPT_PAIRp_STATUS.DRIVE p = false := by
  unfold State.driveOff
  split
  case isTrue =>
    have k := State.cal_keep (s.setDrive p false) 49 1 {}
    rw [on_of_rd ((Writes.of_keep [] k rfl).rd ((setDrive_writes s p false).wf hwf) (isPortReg_addr rfl hp) (by simp))]
    exact setDrive_drive hwf hp false
  case isFalse h => exact Bool.eq_false_iff.2 h

theorem bypRelease_shows {s : State} (hwf : s.wf = true) {p : Nat} (hp : p < 12) (reason : Nat) {st : Nat} (hst : st < 8) :
    (s.bypRelease p reason st).on FPT_PAIRp_STATUS.DRIVE p = false ∧
    (s.bypRelease p reason st).rd FPT_PAIRp_STATUS.REASON p = reason % 16 ∧
    (s.bypRelease p reason st).rd FPT_PAIRp_STATUS.BSTATE p = st := by
  have hoff : (s.driveOff p).wf = true := (driveOff_writes s p).wf hwf
  have hreason := wr_wf hoff FPT_PAIRp_STATUS.REASON reason p 0
  have hb := setBstate_writes ((s.driveOff p).wr FPT_PAIRp_STATUS.REASON reason p) p st
  rw [bypRelease_eq]
  refine ⟨?_, ?_, setBstate_bstate hreason hp hst⟩
  · rw [on_of_rd (rd_status_of_writes hb hreason hp rfl (by decide)), on_of_rd (rd_wr_bits hoff (by decide) (by decide))]
    exact driveOff_drive hwf hp
  · rw [rd_status_of_writes hb hreason hp rfl (by decide)]
    exact rd_wr_same hoff (by decide) (by simp [Fld.fits, FPT_PAIRp_STATUS.REASON, hp])

/-- The by-pass of pair `p` is Released. -/
structure State.Released (s : State) (p : Nat) : Prop where
  drive : s.on FPT_PAIRp_STATUS.DRIVE p = false
  bstate : s.rd FPT_PAIRp_STATUS.BSTATE p = 0

theorem released_iff {s : State} {p : Nat} : s.Released p ↔ s.engaged p = false := by
  simp only [State.engaged, Bool.or_eq_false_iff]
  exact ⟨fun h => ⟨h.drive, by simp [State.on, h.bstate]⟩, fun h => ⟨h.1, by simpa [State.on] using h.2⟩⟩

theorem State.Released.of_writes {s t : State} {p : Nat} {g : Fld} (h : s.Released p) (w : Writes [(g, p)] s t)
    (hwf : s.wf = true) (hp : p < 12)
    (hdrive : FPT_PAIRp_STATUS.DRIVE.lo + FPT_PAIRp_STATUS.DRIVE.w ≤ g.lo ∨ g.lo + g.w ≤ FPT_PAIRp_STATUS.DRIVE.lo)
    (hst : FPT_PAIRp_STATUS.BSTATE.lo + FPT_PAIRp_STATUS.BSTATE.w ≤ g.lo ∨ g.lo + g.w ≤ FPT_PAIRp_STATUS.BSTATE.lo) :
    t.Released p := by
  refine ⟨?_, ?_⟩
  · rw [on_of_rd (rd_status_of_writes w hwf hp rfl hdrive)]
    exact h.drive
  · rw [rd_status_of_writes w hwf hp rfl hst]
    exact h.bstate

theorem lstate_of_bypShown {s t : State} {p n : Nat} (w : Writes (bypShown p) s t) (hwf : s.wf = true) (hn : n < 24) :
    t.lstate n = s.lstate n := by
  rw [State.lstate, if_pos hn, rd_of_bypShown w hwf rfl hn rfl (by decide), State.lstate, if_pos hn]

theorem bothUp_of_bypShown {s t : State} {p : Nat} (w : Writes (bypShown p) s t) (hwf : s.wf = true) (hp : p < 12) :
    t.bothUp p = s.bothUp p := by
  rw [State.bothUp, State.portUp, State.portUp, lstate_of_bypShown w hwf (by omega), lstate_of_bypShown w hwf (by omega)]
  rfl

theorem noted_wf {s : State} (hwf : s.wf = true) (p : Nat) : (s.noted p).wf = true := (State.setPair_keep ..).wf hwf

/-- While a condition of R96 is present the by-pass is Released. -/
theorem BypActs.released_of_cause {p : Nat} {u t : State} (h : BypActs p u t) (hwf : u.wf = true) (hp : p < 12)
    (hcause : u.bypCauses p ≠ []) : t.Released p := by
  cases h with
  | release =>
    obtain ⟨hdrive, -, hst⟩ := bypRelease_shows (noted_wf hwf p) hp ((u.fresh p).headD _) (st := 0) (by decide)
    exact ⟨hdrive, hst⟩
  | @reason c _ _ hoff =>
    have hnoted : (u.noted p).Released p := released_iff (s := u.noted p).2 hoff
    have hwr : Writes [(FPT_PAIRp_STATUS.REASON, p)] (u.noted p) ((u.noted p).wr FPT_PAIRp_STATUS.REASON c p) :=
      .wr _ c p (by decide) (by simp)
    exact hnoted.of_writes hwr (noted_wf hwf p) hp (by decide) (by decide)
  | hold _ hoff => exact released_iff (s := u.noted p).2 hoff
  | check hclear => exact absurd hclear hcause
  | unsettle hclear => exact absurd hclear hcause
  | rest hclear => exact absurd hclear hcause

theorem showFwd_released {s : State} {p : Nat} (h : s.Released p) (hwf : s.wf = true) (hp : p < 12) : (s.showFwd p).Released p :=
  h.of_writes (showFwd_writes s p) hwf hp (by decide) (by decide)

/-- A Released by-pass whose links are not both Up stays so, and with no condition of R96 its REASON stays. -/
theorem BypActs.released_of_linkless {p : Nat} {u t : State} (h : BypActs p u t) (hwf : u.wf = true) (hp : p < 12) (hoff : u.Released p)
    (hup : u.bothUp p = false) :
    t.Released p ∧ (u.bypCauses p = [] → t.rd FPT_PAIRp_STATUS.REASON p = u.rd FPT_PAIRp_STATUS.REASON p) := by
  by_cases hcause : u.bypCauses p = []
  · cases h with
    | release hc => simp [hc] at hcause
    | reason hc => exact absurd hcause hc
    | hold hc => exact absurd hcause hc
    | check _ _ hboth => simp [hup] at hboth
    | unsettle _ hst => simp [hoff.bstate] at hst
    | rest => exact ⟨⟨hoff.drive, hoff.bstate⟩, fun _ => rfl⟩
  · exact ⟨h.released_of_cause hwf hp hcause, fun hc => absurd hc hcause⟩

/-- The first condition, when it has just come, is the REASON that a Released by-pass shows. -/
theorem BypActs.reason_of_new {p : Nat} {u t : State} (h : BypActs p u t) (hwf : u.wf = true) (hp : p < 12) (hoff : u.Released p)
    {r : Nat} {l : List Nat} (hcause : u.bypCauses p = r :: l) (hnew : r ∉ (u.pair p).causes) :
    t.rd FPT_PAIRp_STATUS.REASON p = r % 16 := by
  have hfresh : ∃ l', u.fresh p = r :: l' := ⟨_, by rw [State.fresh, hcause, List.filter_cons_of_pos (by simpa using hnew)]⟩
  obtain ⟨l', hfresh⟩ := hfresh
  cases h with
  | release _ hon => simp [released_iff.1 hoff] at hon
  | reason _ _ hc =>
    obtain rfl : r = _ := by simpa [hfresh] using congrArg List.head? hc
    exact rd_wr_same (noted_wf hwf p) (by decide) (by simp [Fld.fits, FPT_PAIRp_STATUS.REASON, hp])
  | hold _ _ hc => simp [hfresh] at hc
  | check hclear => simp [hcause] at hclear
  | unsettle hclear => simp [hcause] at hclear
  | rest hclear => simp [hcause] at hclear

theorem loopCheck_bstate {s : State} (hwf : s.wf = true) {p : Nat} (hp : p < 12) : (s.loopCheck p).rd FPT_PAIRp_STATUS.BSTATE p = 1 := by
  have hpair : (s.draw.setPair p { s.pair p with nonce := Config.freeNat s.free % 2 ^ 32, backA := false, backB := false }).wf = true :=
    (State.setPair_keep ..).wf ((State.draw_keep s).wf hwf)
  have hsend := (sendCheck_writes [] (s.checkBegun p) (Config.freeNat s.free % 2 ^ 32) (2 * p)).trans (sendCheck_writes [] _
    (Config.freeNat s.free % 2 ^ 32) (2 * p + 1))
  rw [loopCheck_eq, hsend.rd ((checkBegun_writes s p).wf hwf) (isPortReg_addr rfl hp) (by simp)]
  exact setBstate_bstate hpair hp (by decide)

/-- A Released by-pass goes on to Checking at most. -/
theorem BypActs.bstate_le_one {p : Nat} {u t : State} (h : BypActs p u t) (hwf : u.wf = true) (hp : p < 12)
    (hst : u.rd FPT_PAIRp_STATUS.BSTATE p = 0) : t.rd FPT_PAIRp_STATUS.BSTATE p ≤ 1 := by
  by_cases hcause : u.bypCauses p = []
  · cases h with
    | release hc => simp [hc] at hcause
    | reason hc => exact absurd hcause hc
    | hold hc => exact absurd hcause hc
    | check => exact (loopCheck_bstate (noted_wf hwf p) hp).le
    | unsettle _ h2 => simp [hst] at h2
    | rest => exact hst.le.trans (Nat.zero_le 1)
  · exact (h.released_of_cause hwf hp hcause).bstate.le.trans (Nat.zero_le 1)

/-- A Locked-out by-pass stays as it is until a condition of R96 comes. -/
theorem BypActs.of_locked {p : Nat} {u t : State} (h : BypActs p u t) (hst : u.rd FPT_PAIRp_STATUS.BSTATE p = 5)
    (hclear : u.bypCauses p = []) : t = u.noted p := by
  cases h with
  | release hc => simp [hc] at hclear
  | reason hc => exact absurd hclear hc
  | hold hc => exact absurd hclear hc
  | check _ h0 => simp [hst] at h0
  | unsettle _ h2 => simp [hst] at h2
  | rest => rfl

/-! ## The by-pass commands (R96 to R98) -/

theorem advanceTo_fpt (s : State) (t : Nat) : (s.advanceTo t).fpt = s.fpt := fpt_of_keep (State.advanceTo_keep ..) rfl

theorem rd_advanceTo (s : State) (t : Nat) (f : Fld) (i j : Nat) : (s.advanceTo t).rd f i j = s.rd f i j :=
  rd_of_reg (by rw [State.reg, advanceTo_regs, State.reg])

theorem lstate_advanceTo (s : State) (t n : Nat) : (s.advanceTo t).lstate n = s.lstate n := by
  rw [State.lstate, State.lstate, rd_advanceTo, State.port, advanceTo_fpt, State.port]

theorem bothUp_advanceTo (s : State) (t p : Nat) : (s.advanceTo t).bothUp p = s.bothUp p := by
  rw [State.bothUp, State.portUp, State.portUp, lstate_advanceTo, lstate_advanceTo]
  rfl

theorem showFwd_wf {s : State} (hwf : s.wf = true) (p : Nat) : (s.showFwd p).wf = true := (showFwd_writes s p).wf hwf

/-- A by-pass that a condition of R96 concerns is Released. -/
theorem bypCheck_released_of_cause {s : State} (hwf : s.wf = true) {p : Nat} (hp : p < 12) (h : (s.showFwd p).bypCauses p ≠ []) :
    (s.bypCheck p).Released p := (bypCheck_acts s p).released_of_cause (showFwd_wf hwf p) hp h

/-! ### The keeper (R98) -/

theorem exec_keeperKick (s : State) {p : Nat} (hp : p < 12) : exec (.keeperKick p) s =
    .next ((s.setPair p { s.pair p with keeperFrom := s.tick, keeperExpired := false }).bypCheck p) := if_neg (by omega)

/-- When the keeper of pair `p` runs out. -/
def State.keeperOver (s : State) (p : Nat) : Nat := (s.pair p).keeperFrom + 1000000 * s.rd FPT_PAIRp_KEEPER.TIMEOUT_MS p

/-- The keeper has run out and its event is raised; the by-pass has not acted on it yet. -/
def State.keeperRunOut (s : State) (p : Nat) : State :=
  ((s.advanceTo (s.keeperOver p)).setPair p { (s.advanceTo (s.keeperOver p)).pair p with keeperExpired := true }).raise
    (portSource (2 * p + 1) 3)

theorem exec_keeperExpire {s : State} {p : Nat} (hp : p < 12) (hon : s.on FPT_PAIRp_KEEPER.TIMEOUT_MS p = true)
    (hruns : (s.pair p).keeperExpired = false) : exec (.keeperExpire p) s = .next ((s.keeperRunOut p).bypCheck p) :=
  if_neg (by simp [hon, hruns, hp])

theorem keeperRunOut_keep (s : State) (p : Nat) : Keep 0x20400100004 (s.advanceTo (s.keeperOver p)) (s.keeperRunOut p) :=
  (State.raise_keep ..).step ((State.setPair_keep ..).mono rfl) rfl

theorem keeperRunOut_expired (s : State) (p : Nat) : ((s.keeperRunOut p).pair p).keeperExpired = true := by
  rw [State.keeperRunOut, pair_of_fpt (fpt_of_keep (State.raise_keep ..) rfl), pair_setPair]
  exact marked_of_keeperExpired rfl

theorem keeperExpire_does {s : State} (hwf : s.wf = true) {p : Nat} (hp : p < 12) (hon : s.on FPT_PAIRp_KEEPER.TIMEOUT_MS p = true)
    (hruns : (s.pair p).keeperExpired = false) : Does (.keeperExpire p) s (fun t =>
      (s.pair p).keeperFrom + 1000000 * s.rd FPT_PAIRp_KEEPER.TIMEOUT_MS p ≤ t.tick ∧ (t.pair p).keeperExpired = true ∧
      t.on FPT_PAIRp_STATUS.DRIVE p = false ∧ t.rd FPT_PAIRp_STATUS.BSTATE p = 0) := by
  have hu : (s.keeperRunOut p).wf = true := (keeperRunOut_keep s p).wf ((State.advanceTo_keep ..).wf hwf)
  have hexp := keeperRunOut_expired s p
  have hmarks := (bypCheck_marks (s.keeperRunOut p) p).marks (marked_of_keeperExpired hexp)
  have hoff : ((s.keeperRunOut p).bypCheck p).Released p :=
    bypCheck_released_of_cause hu hp (bypCauses_of_keeper (by rw [pair_of_fpt (showFwd_fpt ..)]; exact hexp))
  have htick := (keeperRunOut_keep s p).tick.trans (State.bypCheck_keep (s.keeperRunOut p) p).tick
  refine does_of_exec (exec_keeperExpire hp hon hruns) ⟨(advanceTo_le_tick ..).trans htick, ?_, hoff.drive, hoff.bstate⟩
  exact (keeperExpired_of_marks hmarks).trans hexp

/-! ### The loop check and the settling (R97) -/

/-- At `t` the loop check of pair `p` has had its time, and a retry waits from then on. -/
def State.checkFailed (s : State) (p t : Nat) : State :=
  (s.advanceTo t).setPair p { (s.advanceTo t).pair p with retryFrom := some (s.advanceTo t).tick }

theorem exec_loopCheckTimeout {s : State} {p : Nat} (hp : p < 12) (hst : s.rd FPT_PAIRp_STATUS.BSTATE p = 1) :
    exec (.loopCheckTimeout p) s = .next ((s.checkFailed p ((s.pair p).since + 10000000)).setBstate p 0) := if_neg (by simp [hst, hp])

theorem checkFailed_shows {s : State} (hwf : s.wf = true) {p : Nat} (hp : p < 12) (t : Nat) :
    t ≤ ((s.checkFailed p t).setBstate p 0).tick ∧ ((s.checkFailed p t).setBstate p 0).rd FPT_PAIRp_STATUS.BSTATE p = 0 ∧
    (((s.checkFailed p t).setBstate p 0).pair p).retryFrom = some ((s.checkFailed p t).setBstate p 0).tick := by
  have hu : (s.checkFailed p t).wf = true := (State.setPair_keep ..).wf ((State.advanceTo_keep ..).wf hwf)
  have htick : ((s.checkFailed p t).setBstate p 0).tick = (s.advanceTo t).tick := (State.setBstate_keep ..).parts .tick rfl
  have hpair : (s.checkFailed p t).pair p = { (s.advanceTo t).pair p with retryFrom := some (s.advanceTo t).tick } :=
    pair_setPair _ p (marked_of_retryFrom rfl)
  obtain ⟨x, hx⟩ := setBstate_pair (s := s.checkFailed p t) (p := p) 0 (by rw [hpair]; exact marked_of_retryFrom rfl)
  refine ⟨?_, setBstate_bstate hu hp (by decide), ?_⟩
  · rw [htick]
    exact advanceTo_le_tick ..
  · rw [hx, hpair, htick]

theorem exec_loopCheckRetry {s : State} {p t0 : Nat} (h : (s.pair p).retryFrom = some t0) : exec (.loopCheckRetry p) s =
    .next (((s.advanceTo (t0 + 100000000)).setPair p { s.pair p with retryFrom := none }).bypCheck p) := by
  change execLoopCheckRetry p s = _
  rw [execLoopCheckRetry, h]
  dsimp only
  rw [pair_of_fpt (advanceTo_fpt ..)]

theorem le_tick_bypCheck (s : State) (t p : Nat) (q : PairSt) : t ≤ (((s.advanceTo t).setPair p q).bypCheck p).tick :=
  (advanceTo_le_tick s t).trans (State.bypCheck_keep ((s.advanceTo t).setPair p q) p).tick

theorem bitOf_setBit (v i : Nat) (b : Bool) : bitOf (setBit v i b) i = b := by
  unfold setBit
  split
  case isTrue h => exact h
  case isFalse h =>
    simp only [bitOf_eq_testBit] at h ⊢
    cases b with
    | true =>
      rw [if_pos rfl, Nat.add_comm, Nat.testBit_two_pow_add_eq]
      simpa using h
    | false =>
      have hset : v.testBit i = true := by simpa using h
      have hsplit := Nat.testBit_two_pow_add_eq (v - 2 ^ i) i
      rw [Nat.add_sub_cancel' (Nat.ge_two_pow_of_testBit hset), hset] at hsplit
      simpa using hsplit.symm

theorem bitOf_mod_two_pow {w i : Nat} (v : Nat) (hi : i < w) : bitOf (v % 2 ^ w) i = bitOf v i := by
  rw [bitOf_eq_testBit, Nat.testBit_mod_two_pow, bitOf_eq_testBit]
  simp [hi]

/-- PWR_BYP mirrors the level of the drive (R470). -/
theorem setDrive_mirrored {s : State} (hwf : s.wf = true) {p : Nat} (hp : p < 12) (v : Bool) :
    bitOf ((s.setDrive p v).rd PWR_BYP.DRIVE) p = v := by
  rw [State.setDrive, rd_wr_same (wr_wf hwf ..) (by decide) rfl]
  exact (bitOf_mod_two_pow (w := 12) _ hp).trans (bitOf_setBit ..)

/-- When the settling of pair `p` ends. -/
def State.settleOver (s : State) (p : Nat) : Nat := (s.pair p).since + 1000000 * s.rd FPT_PAIRp_BYP.SETTLE_MS p

theorem exec_bypassSettleExpire {s : State} {p : Nat} (hp : p < 12) (hst : s.rd FPT_PAIRp_STATUS.BSTATE p = 2) :
    exec (.bypassSettleExpire p) s = .next (((s.advanceTo (s.settleOver p)).setDrive p true).setBstate p 3) := if_neg (by simp [hst, hp])

theorem bypassSettleExpire_does {s : State} (hwf : s.wf = true) {p : Nat} (hp : p < 12) (hst : s.rd FPT_PAIRp_STATUS.BSTATE p = 2) :
    Does (.bypassSettleExpire p) s (fun t => (s.pair p).since + 1000000 * s.rd FPT_PAIRp_BYP.SETTLE_MS p ≤ t.tick ∧
      t.rd FPT_PAIRp_STATUS.BSTATE p = 3 ∧ t.on FPT_PAIRp_STATUS.DRIVE p = true ∧ bitOf (t.rd PWR_BYP.DRIVE) p = true) := by
  have hu : (s.advanceTo (s.settleOver p)).wf = true := (State.advanceTo_keep ..).wf hwf
  have hd := (setDrive_writes (s.advanceTo (s.settleOver p)) p true).wf hu
  have k := State.setBstate_keep ((s.advanceTo (s.settleOver p)).setDrive p true) p 3
  refine does_of_exec (exec_bypassSettleExpire hp hst) ⟨?_, setBstate_bstate hd hp (by decide), ?_, ?_⟩
  · exact (advanceTo_le_tick ..).trans ((State.setDrive_keep ..).tick.trans k.tick)
  · rw [on_of_rd (rd_status_of_writes (setBstate_writes ..) hd hp rfl (by decide))]
    exact setDrive_drive hu hp true
  · rw [k.rdIn .pwr hd rfl rfl rfl]
    exact setDrive_mirrored hu hp true

/-! ### The switching (R97) -/

/-- When the switching of pair `p` ends. -/
def State.switchOver (s : State) (p : Nat) : Nat := (s.pair p).since + 1000000 * max 1 (s.rd FPT_PAIRp_BYP.SWITCH_MS p)

/-- At the end of the switching the entry of the pair counts `n` failures in a row. -/
def State.switchEnded (s : State) (p n : Nat) : State :=
  (s.advanceTo (s.switchOver p)).setPair p { (s.advanceTo (s.switchOver p)).pair p with fails := n }

theorem exec_bypassSwitchTimeout {s : State} {p : Nat} (hp : p < 12) (hst : s.rd FPT_PAIRp_STATUS.BSTATE p = 3) :
    exec (.bypassSwitchTimeout p) s = .next (if s.bothUp p then (s.switchEnded p 0).setBstate p 4 else
      ((s.switchEnded p ((s.pair p).fails + 1)).bypRelease p 7 (if 3 ≤ (s.pair p).fails + 1 then 5 else 0)).bypCheck p) := by
  change execBypassSwitchTimeout p s = _
  have hup : ((s.advanceTo (s.switchOver p)).portUp (2 * p) && (s.advanceTo (s.switchOver p)).portUp (2 * p + 1)) = s.bothUp p :=
    bothUp_advanceTo ..
  have hpair : (s.advanceTo (s.switchOver p)).pair p = s.pair p := pair_of_fpt (advanceTo_fpt ..) p
  rw [execBypassSwitchTimeout, if_neg (by simp [hst, hp])]
  dsimp only
  rw [← State.switchOver, hup, ← hpair]
  split <;> rfl

theorem switchEnded_keep (s : State) (p n : Nat) : Keep 0x20000000000 (s.advanceTo (s.switchOver p)) (s.switchEnded p n) :=
  State.setPair_keep ..

theorem switchEnded_wf {s : State} (hwf : s.wf = true) (p n : Nat) : (s.switchEnded p n).wf = true :=
  (switchEnded_keep s p n).wf ((State.advanceTo_keep ..).wf hwf)

theorem rd_switchEnded {s : State} (hwf : s.wf = true) {p : Nat} (n : Nat) {f : Fld} (hf : f.inPorts = true) (hp : p < f.n1) :
    (s.switchEnded p n).rd f p = s.rd f p := by
  rw [State.switchEnded, (setPair_writes [] ..).rd ((State.advanceTo_keep ..).wf hwf) (isPortReg_addr hf hp) (by simp), rd_advanceTo]

theorem bypassSwitchTimeout_up_does {s : State} (hwf : s.wf = true) {p : Nat} (hp : p < 12) (hst : s.rd FPT_PAIRp_STATUS.BSTATE p = 3)
    (hup : s.bothUp p = true) : Does (.bypassSwitchTimeout p) s (fun t =>
      t.rd FPT_PAIRp_STATUS.BSTATE p = 4 ∧ t.on FPT_PAIRp_STATUS.DRIVE p = s.on FPT_PAIRp_STATUS.DRIVE p) := by
  have hu := switchEnded_wf hwf p 0
  refine does_of_exec ((exec_bypassSwitchTimeout hp hst).trans (congrArg _ (if_pos hup))) ⟨setBstate_bstate hu hp (by decide), ?_⟩
  rw [on_of_rd (rd_status_of_writes (setBstate_writes ..) hu hp rfl (by decide)), on_of_rd (rd_switchEnded hwf 0 rfl hp)]

/-- The switching of pair `p` has failed and the drive is released with REASON 7; the conditions of R96 have not been looked at. -/
def State.switchFailed (s : State) (p : Nat) : State :=
  (s.switchEnded p ((s.pair p).fails + 1)).bypRelease p 7 (if 3 ≤ (s.pair p).fails + 1 then 5 else 0)

theorem exec_bypassSwitchTimeout_failed {s : State} {p : Nat} (hp : p < 12) (hst : s.rd FPT_PAIRp_STATUS.BSTATE p = 3)
    (hup : s.bothUp p = false) : exec (.bypassSwitchTimeout p) s = .next ((s.switchFailed p).bypCheck p) :=
  (exec_bypassSwitchTimeout hp hst).trans (congrArg _ (if_neg (by simp [hup])))

theorem switchFailed_wf {s : State} (hwf : s.wf = true) (p : Nat) : (s.switchFailed p).wf = true :=
  (bypRelease_writes ..).wf (switchEnded_wf hwf ..)

theorem switchFailed_shows {s : State} (hwf : s.wf = true) {p : Nat} (hp : p < 12) :
    (s.switchFailed p).on FPT_PAIRp_STATUS.DRIVE p = false ∧ (s.switchFailed p).rd FPT_PAIRp_STATUS.REASON p = 7 ∧
    (s.switchFailed p).rd FPT_PAIRp_STATUS.BSTATE p = if 3 ≤ (s.pair p).fails + 1 then 5 else 0 :=
  bypRelease_shows (switchEnded_wf hwf ..) hp 7 (by split <;> decide)

theorem switchFailed_fails (s : State) (p : Nat) : ((s.switchFailed p).pair p).fails = (s.pair p).fails + 1 := by
  have hpair : (s.switchEnded p ((s.pair p).fails + 1)).pair p =
      { (s.advanceTo (s.switchOver p)).pair p with fails := (s.pair p).fails + 1 } :=
    pair_setPair _ p (marked_of_fails (Nat.succ_ne_zero _))
  obtain ⟨x, hx⟩ := bypRelease_pair (s := s.switchEnded p ((s.pair p).fails + 1)) (p := p) 7
    (if 3 ≤ (s.pair p).fails + 1 then 5 else 0) (by rw [hpair]; exact marked_of_fails (Nat.succ_ne_zero _))
  rw [State.switchFailed, hx, hpair]

theorem switchFailed_marked (s : State) (p : Nat) : ((s.switchFailed p).pair p).marked = true :=
  marked_of_fails (by rw [switchFailed_fails]; exact Nat.succ_ne_zero _)

theorem switchFailed_keep (s : State) (p : Nat) : Keep 0x1000020400100016 (s.advanceTo (s.switchOver p)) (s.switchFailed p) :=
  (State.bypRelease_keep ..).step ((switchEnded_keep ..).mono rfl) rfl

theorem bothUp_switchFailed {s : State} (hwf : s.wf = true) {p : Nat} (hp : p < 12) : (s.switchFailed p).bothUp p = s.bothUp p := by
  rw [State.switchFailed, bothUp_of_bypShown ((bypRelease_writes ..).mono (bypFields_sub p)) (switchEnded_wf hwf ..) hp, State.switchEnded,
    bothUp_of_bypShown (setPair_writes ..) ((State.advanceTo_keep ..).wf hwf) hp, bothUp_advanceTo]

/-- The first two failures in a row leave the by-pass Released, with REASON 7 unless a condition of R96 is present. -/
theorem bypassSwitchTimeout_failed_does {s : State} (hwf : s.wf = true) {p : Nat} (hp : p < 12)
    (hst : s.rd FPT_PAIRp_STATUS.BSTATE p = 3) (hup : s.bothUp p = false) (hfails : (s.pair p).fails < 2) :
    Does (.bypassSwitchTimeout p) s (fun t =>
      (s.pair p).since + 1000000 * max 1 (s.rd FPT_PAIRp_BYP.SWITCH_MS p) ≤ t.tick ∧ (t.pair p).fails = (s.pair p).fails + 1 ∧
      t.on FPT_PAIRp_STATUS.DRIVE p = false ∧ t.rd FPT_PAIRp_STATUS.BSTATE p = 0 ∧
      (t.bypCauses p = [] → t.rd FPT_PAIRp_STATUS.REASON p = 7)) := by
  have hu := switchFailed_wf hwf p
  obtain ⟨hdrive, hreason, hb⟩ := switchFailed_shows hwf hp
  rw [if_neg (by omega)] at hb
  have hshown := showFwd_writes (s.switchFailed p) p
  have hup' : ((s.switchFailed p).showFwd p).bothUp p = false := by
    rw [bothUp_of_bypShown (hshown.mono (by simp [bypShown])) hu hp, bothUp_switchFailed hwf hp, hup]
  obtain ⟨hoff, hkept⟩ := (bypCheck_acts (s.switchFailed p) p).released_of_linkless (showFwd_wf hu p) hp
    (showFwd_released ⟨hdrive, hb⟩ hu hp) hup'
  have hmarks := (bypCheck_marks (s.switchFailed p) p).marks (switchFailed_marked s p)
  have htick := (advanceTo_le_tick s (s.switchOver p)).trans ((switchFailed_keep s p).tick.trans (State.bypCheck_keep _ p).tick)
  refine does_of_exec (exec_bypassSwitchTimeout_failed hp hst hup)
    ⟨htick, ?_, hoff.drive, hoff.bstate, fun hclear => ?_⟩
  · exact (fails_of_marks hmarks).trans (switchFailed_fails s p)
  · rw [bypCheck_causes hu hp (switchFailed_marked s p)] at hclear
    rw [hkept hclear, rd_status_of_writes hshown hu hp rfl (by decide), hreason]

/-- The third failure in a row locks the pair out, unless a condition of R96 is present. -/
theorem bypassSwitchTimeout_locked_does {s : State} (hwf : s.wf = true) {p : Nat} (hp : p < 12)
    (hst : s.rd FPT_PAIRp_STATUS.BSTATE p = 3) (hup : s.bothUp p = false) (hfails : 2 ≤ (s.pair p).fails) :
    Does (.bypassSwitchTimeout p) s (fun t => t.on FPT_PAIRp_STATUS.DRIVE p = false ∧
      ((t.rd FPT_PAIRp_STATUS.BSTATE p = 5 ∧ t.rd FPT_PAIRp_STATUS.REASON p = 7) ∨
       (t.rd FPT_PAIRp_STATUS.BSTATE p = 0 ∧ (t.bypCause p).isSome = true))) := by
  have hu := switchFailed_wf hwf p
  obtain ⟨hdrive, hreason, hb⟩ := switchFailed_shows hwf hp
  rw [if_pos (by omega)] at hb
  have hshown := showFwd_writes (s.switchFailed p) p
  have hb' : ((s.switchFailed p).showFwd p).rd FPT_PAIRp_STATUS.BSTATE p = 5 := by
    rw [rd_status_of_writes hshown hu hp rfl (by decide), hb]
  refine does_of_exec (exec_bypassSwitchTimeout_failed hp hst hup) ?_
  by_cases hclear : ((s.switchFailed p).showFwd p).bypCauses p = []
  · rw [(bypCheck_acts (s.switchFailed p) p).of_locked hb' hclear]
    have hrd (f : Fld) (hf : f.inPorts = true) (hp' : p < f.n1)
        (hbits : f.lo + f.w ≤ FPT_PAIRp_STATUS.FWD_READY.lo ∨ FPT_PAIRp_STATUS.FWD_READY.lo + FPT_PAIRp_STATUS.FWD_READY.w ≤ f.lo) :
        (((s.switchFailed p).showFwd p).noted p).rd f p = (s.switchFailed p).rd f p :=
      (show _ = ((s.switchFailed p).showFwd p).rd f p from rfl).trans (rd_status_of_writes hshown hu hp' hf hbits)
    refine ⟨?_, .inl ⟨hb', ?_⟩⟩
    · rw [on_of_rd (hrd _ rfl hp (by decide)), hdrive]
    · rw [hrd _ rfl hp (by decide), hreason]
  · have hoff := bypCheck_released_of_cause hu hp hclear
    refine ⟨hoff.drive, .inr ⟨hoff.bstate, ?_⟩⟩
    rw [State.bypCause, bypCheck_causes hu hp (switchFailed_marked s p), List.isSome_head?]
    simpa using hclear

/-! ### FORCE_REL (R96, R97) -/

/-- FORCE_REL of pair `p` is written. -/
def State.forceSet (s : State) (p : Nat) (val : Bool) : State := s.wr FPT_PAIRp_CTRL.FORCE_REL (b2n val) p

theorem forceSet_on {s : State} (hwf : s.wf = true) {p : Nat} (hp : p < 12) (val : Bool) :
    (s.forceSet p val).on FPT_PAIRp_CTRL.FORCE_REL p = val :=
  on_wr_same hwf (by decide) rfl (by simp [Fld.fits, FPT_PAIRp_CTRL.FORCE_REL, hp]) val

/-- The by-pass does not write FORCE_REL. -/
theorem on_force_of_bypShown {s t : State} {p : Nat} (w : Writes (bypShown p) s t) (hwf : s.wf = true) (hp : p < 12) :
    t.on FPT_PAIRp_CTRL.FORCE_REL p = s.on FPT_PAIRp_CTRL.FORCE_REL p := on_of_rd (rd_of_bypShown w hwf rfl hp rfl (by decide))

theorem exec_forceRelWrite_true (s : State) {p : Nat} (hp : p < 12) :
    exec (.forceRelWrite p true) s = .next ((s.forceSet p true).bypCheck p) := if_neg (by omega)

theorem forceRelWrite_true_does {s : State} (hwf : s.wf = true) {p : Nat} (hp : p < 12) : Does (.forceRelWrite p true) s (fun t =>
    t.on FPT_PAIRp_CTRL.FORCE_REL p = true ∧ t.on FPT_PAIRp_STATUS.DRIVE p = false ∧ t.rd FPT_PAIRp_STATUS.BSTATE p = 0) := by
  have hu : (s.forceSet p true).wf = true := wr_wf hwf ..
  have hon := forceSet_on hwf hp true
  have hshown : Writes (bypShown p) (s.forceSet p true) ((s.forceSet p true).showFwd p) :=
    (showFwd_writes _ p).mono (by simp [bypShown])
  have hoff := bypCheck_released_of_cause hu hp (bypCauses_of_force ((on_force_of_bypShown hshown hu hp).trans hon))
  exact does_of_exec (exec_forceRelWrite_true s hp)
    ⟨(on_force_of_bypShown (bypCheck_writes ..) hu hp).trans hon, hoff.drive, hoff.bstate⟩

/-- FORCE_REL is 0 and pair `p`, which was Locked-out, is Released with no failures counted. -/
def State.unlocked (s : State) (p : Nat) : State :=
  ((s.forceSet p false).setPair p { (s.forceSet p false).pair p with fails := 0 }).setBstate p 0

theorem exec_forceRelWrite_locked {s : State} (hwf : s.wf = true) {p : Nat} (hp : p < 12) (hst : s.rd FPT_PAIRp_STATUS.BSTATE p = 5) :
    exec (.forceRelWrite p false) s = .next ((s.unlocked p).bypCheck p) := by
  have haddr : FPT_PAIRp_STATUS.BSTATE.addr p 0 ≠ FPT_PAIRp_CTRL.FORCE_REL.addr p 0 := by
    simp only [Fld.addr, FPT_PAIRp_STATUS.BSTATE, FPT_PAIRp_CTRL.FORCE_REL]
    omega
  have hst' : (s.wr FPT_PAIRp_CTRL.FORCE_REL (b2n false) p).rd FPT_PAIRp_STATUS.BSTATE p = 5 := (rd_wr_addr hwf haddr).trans hst
  change execForceRelWrite p false s = _
  rw [execForceRelWrite, if_neg (by omega)]
  dsimp only
  rw [if_pos (by simp [hst'])]
  rfl

theorem forceRelWrite_locked_does {s : State} (hwf : s.wf = true) {p : Nat} (hp : p < 12) (hst : s.rd FPT_PAIRp_STATUS.BSTATE p = 5) :
    Does (.forceRelWrite p false) s (fun t => t.on FPT_PAIRp_CTRL.FORCE_REL p = false ∧ t.rd FPT_PAIRp_STATUS.BSTATE p ≤ 1) := by
  have hset : (s.forceSet p false).wf = true := wr_wf hwf ..
  have hpair : ((s.forceSet p false).setPair p { (s.forceSet p false).pair p with fails := 0 }).wf = true := (State.setPair_keep ..).wf hset
  have hw : Writes (bypFields p) (s.forceSet p false) (s.unlocked p) := (setPair_writes ..).trans (setBstate_bypFields ..)
  have hu : (s.unlocked p).wf = true := hw.wf hset
  have hb : ((s.unlocked p).showFwd p).rd FPT_PAIRp_STATUS.BSTATE p = 0 := by
    rw [rd_status_of_writes (showFwd_writes ..) hu hp rfl (by decide)]
    exact setBstate_bstate hpair hp (by decide)
  refine does_of_exec (exec_forceRelWrite_locked hwf hp hst)
    ⟨?_, (bypCheck_acts (s.unlocked p) p).bstate_le_one (showFwd_wf hu p) hp hb⟩
  rw [on_force_of_bypShown (bypCheck_writes ..) hu hp, on_force_of_bypShown (hw.mono (bypFields_sub p)) hset hp]
  exact forceSet_on hwf hp false

/-- Settles O36: each command from its `exec_` equation, what `bypCheck_acts` says of the by-pass, and what its fields then show. -/
theorem bypassCommands : Obligations.BypassCommands := by
  unfold Obligations.BypassCommands
  refine ⟨?kick, ?expire, ?checkOver, ?retry, ?settled, ?driven, ?failed, ?locked, ?force, ?unforce⟩
  case kick => exact fun s p hp => does_of_exec (exec_keeperKick s hp) rfl
  case expire => exact fun s p hwf hp hon hruns => keeperExpire_does hwf hp hon hruns
  case checkOver => exact fun s p hwf hp hst => does_of_exec (exec_loopCheckTimeout hp hst) (checkFailed_shows hwf hp _)
  case retry => exact fun s p t0 _ h => does_of_exec (exec_loopCheckRetry h) ⟨le_tick_bypCheck s _ p _, rfl⟩
  case settled => exact fun s p hwf hp hst => bypassSettleExpire_does hwf hp hst
  case driven => exact fun s p hwf hp hst ha hb => bypassSwitchTimeout_up_does hwf hp hst (by rw [State.bothUp, ha, hb]; rfl)
  case failed => exact fun s p hwf hp hst hup hfails => bypassSwitchTimeout_failed_does hwf hp hst hup hfails
  case locked => exact fun s p hwf hp hst hup hfails => bypassSwitchTimeout_locked_does hwf hp hst hup hfails
  case force => exact fun s p hwf hp => forceRelWrite_true_does hwf hp
  case unforce => exact fun s p hwf hp hst => forceRelWrite_locked_does hwf hp hst

end Sys2Proof.Machine

/-!
The links of ports and fabric ports, the reset of a pair, a fabric port on one lane, and the duplicate discard and supervision of
pairs.
-/
namespace Sys2Proof.Machine

/-! ## The table of ports -/

/-- In any table a write of a value that is not the unlisted one leaves every other key as it was. -/
theorem cellGet_cellSet_ne_other {α : Type} [DecidableEq α] {d : Nat → α} (t : Tab α) {a b : Nat} {v : α}
    (hv : v ≠ d a) (hb : b ≠ a) : cellGet d (cellSet d t a v) b = cellGet d t b := by
  induction t with
  | nil => simp [cellSet, cellGet, hv, hb]
  | cons p t ih =>
    obtain ⟨k, w⟩ := p
    simp only [cellSet, hv, if_false]
    split
    case isTrue hak =>
      have hout : b < a → b < k := fun h => h.trans hak
      simp only [cellGet, hb, if_false]
      split
      case isTrue hba => rw [if_pos (hout hba)]
      case isFalse => rfl
    case isFalse =>
      split
      case isTrue hak =>
        subst hak
        simp [cellGet, hb]
      case isFalse => simp only [cellGet, ih]

theorem port_setPort (s : State) (n : Nat) {q : PortSt} (h : q ≠ default) : (s.setPort n q).port n = q := cellGet_cellSet_ne _ _ h

theorem port_setPort_other (s : State) {n k : Nat} {q : PortSt} (h : q ≠ default) (hk : k ≠ n) : (s.setPort n q).port k = s.port k :=
  cellGet_cellSet_ne_other _ h hk

theorem ne_default_of_xstate {q : PortSt} (h : q.xstate ≠ 0) : q ≠ default := ne_of_apply_ne PortSt.xstate h

theorem xport_setXport (s : State) (m : Nat) {x : XportSt} (h : x ≠ default) : (s.setXport m x).xport m = x := cellGet_cellSet_ne _ _ h

/-- Of chapter 4's own state only what is held for each port differs. -/
def PortsOnly (s t : State) : Prop := ∃ l, t.fpt = { s.fpt with ports := l }

theorem PortsOnly.of_fpt {s t : State} (h : t.fpt = s.fpt) : PortsOnly s t := ⟨s.fpt.ports, h⟩

theorem PortsOnly.trans {s t u : State} (h1 : PortsOnly s t) (h2 : PortsOnly t u) : PortsOnly s u := by
  obtain ⟨l1, h1⟩ := h1
  obtain ⟨l2, h2⟩ := h2
  exact ⟨l2, by rw [h2, h1]⟩

theorem PortsOnly.setPort (s : State) (n : Nat) (q : PortSt) : PortsOnly s (s.setPort n q) := ⟨_, rfl⟩

theorem PortsOnly.xport {s t : State} (h : PortsOnly s t) (m : Nat) : t.xport m = s.xport m := by
  obtain ⟨l, h⟩ := h
  rw [State.xport, h, State.xport]

theorem PortsOnly.pair {s t : State} (h : PortsOnly s t) (p : Nat) : t.pair p = s.pair p := by
  obtain ⟨l, h⟩ := h
  rw [State.pair, h, State.pair]

theorem PortsOnly.powerHold {s t : State} (h : PortsOnly s t) : t.fpt.powerHold = s.fpt.powerHold := by
  obtain ⟨l, h⟩ := h
  rw [h]

theorem PortsOnly.forEach {α : Type} {xs : List α} {f : α → State → State} (h : ∀ x u, PortsOnly u (f x u)) (s : State) :
    PortsOnly s (forEach xs f s) := by
  induction xs generalizing s with
  | nil => exact .of_fpt rfl
  | cons x xs ih => exact (h x s).trans (ih _)

theorem lstate_low {n : Nat} (s : State) (hn : n < 24) : s.lstate n = s.rd FPT_PORTn_STATUS.LSTATE n := if_pos hn

theorem lstate_high {n : Nat} (s : State) (hn : 24 ≤ n) : s.lstate n = (s.port n).xstate := if_neg (by omega)

theorem lstate_of_fpt {s t : State} (h : t.fpt = s.fpt) {n : Nat} (hn : 24 ≤ n) : t.lstate n = s.lstate n := by
  rw [lstate_high t hn, lstate_high s hn, State.port, h, State.port]

/-! ## Operations on a link (R88) -/

/-- The fields in which a fabric port shows its links. -/
def fabricFields (m : Nat) : List (Fld × Nat) := [(FPT_XPORTm_STATUS.SUB_UP, m), (FPT_XPORTm_STATUS.WIDTH, m)]

/-- The fields in which the link state of port `n` shows. -/
def linkFields (n : Nat) : List (Fld × Nat) :=
  if n < 24 then [(FPT_PORTn_STATUS.LSTATE, n), (FPT_PORTn_STATUS.SPEED, n)] else fabricFields ((n - 24) / 4)

theorem linkFields_low {n : Nat} (hn : n < 24) : linkFields n = [(FPT_PORTn_STATUS.LSTATE, n), (FPT_PORTn_STATUS.SPEED, n)] := if_pos hn

theorem linkFields_high {n : Nat} (hn : 24 ≤ n) : linkFields n = fabricFields ((n - 24) / 4) := if_neg (by omega)

/-- The status registers of ports and fabric ports are the ones at offsets 4 and 8 modulo 0x40. -/
theorem apart_linkFields {f : Fld} (n i : Nat) (hs : f.s1 % 0x40 = 0) (h4 : f.base % 0x40 ≠ 4) (h8 : f.base % 0x40 ≠ 8) :
    ∀ g ∈ linkFields n, f.apart i g := by
  have hmul := Nat.mod_eq_zero_of_dvd ((Nat.dvd_of_mod_eq_zero hs).mul_right i)
  unfold linkFields fabricFields
  split
  all_goals
    simp only [List.forall_mem_cons, List.not_mem_nil, false_implies, implies_true, and_true]
    refine ⟨.inl ?_, .inl ?_⟩
    all_goals
      simp only [Fld.addr, FPT_PORTn_STATUS.LSTATE, FPT_PORTn_STATUS.SPEED, FPT_XPORTm_STATUS.SUB_UP, FPT_XPORTm_STATUS.WIDTH]
      omega

/-- The link of a port writes no register but a status of ports. -/
theorem rd_of_linkFields {s t : State} {n : Nat} (w : Writes (linkFields n) s t) (hwf : s.wf = true) {f : Fld} {i : Nat}
    (hf : f.inPorts = true) (hi : i < f.n1) (hs : f.s1 % 0x40 = 0) (h4 : f.base % 0x40 ≠ 4) (h8 : f.base % 0x40 ≠ 8) :
    t.rd f i = s.rd f i := w.rd hwf (isPortReg_addr hf hi) (apart_linkFields n i hs h4 h8)

/-- The link of a port leaves the link state of another field port. -/
theorem lstate_of_linkFields {s t : State} {n k : Nat} (w : Writes (linkFields n) s t) (hwf : s.wf = true) (hk : k < 24) (hne : k ≠ n) :
    t.lstate k = s.lstate k := by
  rw [lstate_low t hk, lstate_low s hk]
  refine w.rd hwf (isPortReg_addr rfl hk) ?_
  unfold linkFields fabricFields
  split
  all_goals
    simp only [List.forall_mem_cons, List.not_mem_nil, false_implies, implies_true, and_true]
    refine ⟨.inl ?_, .inl ?_⟩
    all_goals
      simp only [Fld.addr, FPT_PORTn_STATUS.LSTATE, FPT_PORTn_STATUS.SPEED, FPT_XPORTm_STATUS.SUB_UP, FPT_XPORTm_STATUS.WIDTH]
      omega

theorem showSpeed_writes (s : State) (n : Nat) : Writes [(FPT_PORTn_STATUS.SPEED, n)] s (s.showSpeed n) :=
  .wr s _ n (by decide) (by simp)

theorem showFabric_writes (s : State) (m : Nat) : Writes (fabricFields m) s (s.showFabric m) := by
  unfold State.showFabric
  exact .trans (.wr s _ m (by decide) (by simp [fabricFields])) (.wr _ _ m (by decide) (by simp [fabricFields]))

theorem setLstate_writes (s : State) (n v : Nat) : Writes (linkFields n) s (s.setLstate n v) := by
  unfold State.setLstate
  refine .ite (fun _ => .refl _ s) fun _ => .ite (fun hn => ?_) fun hn => ?_
  · rw [linkFields_low hn]
    have hwr : Writes [(FPT_PORTn_STATUS.LSTATE, n), (FPT_PORTn_STATUS.SPEED, n)] s (s.wr FPT_PORTn_STATUS.LSTATE v n) :=
      .wr s v n (by decide) (by simp)
    exact (hwr.trans ((showSpeed_writes ..).mono (by simp))).trans (raise_writes ..)
  · rw [linkFields_high (by omega)]
    exact ((setPort_writes ..).trans (showFabric_writes ..)).trans (raise_writes ..)

theorem setLstate_low {s : State} {n : Nat} (v : Nat) (hn : n < 24) : (s.setLstate n v).fpt = s.fpt := by
  by_cases h : s.lstate n = v
  · rw [State.setLstate, if_pos h]
  · rw [State.setLstate, if_neg h, if_pos hn, fpt_of_keep (State.raise_keep ..) rfl, fpt_of_keep (State.showSpeed_keep ..) rfl, fpt_wr]

theorem setLstate_high {s : State} {n v : Nat} (hn : 24 ≤ n) (hv : s.lstate n ≠ v) :
    (s.setLstate n v).fpt = (s.setPort n { s.port n with xstate := v }).fpt := by
  rw [State.setLstate, if_neg hv, if_neg (by omega), fpt_of_keep (State.raise_keep ..) rfl, fpt_of_keep (State.showFabric_keep ..) rfl]

theorem setLstate_port_high {s : State} {n v : Nat} (hn : 24 ≤ n) (hv : v ≠ 0) :
    (s.setLstate n v).port n = { s.port n with xstate := v } := by
  by_cases h : s.lstate n = v
  · rw [State.setLstate, if_pos h, ← h, lstate_high s hn]
  · rw [State.port, setLstate_high hn h]
    exact port_setPort s n (ne_default_of_xstate hv)

theorem setLstate_ports (s : State) (n v : Nat) : PortsOnly s (s.setLstate n v) := by
  by_cases hn : n < 24
  · exact .of_fpt (setLstate_low v hn)
  · by_cases h : s.lstate n = v
    · exact .of_fpt (by rw [State.setLstate, if_pos h])
    · exact ⟨_, setLstate_high (by omega) h⟩

/-- A link state that is set reads back; of a fabric port, where it is not Disabled. -/
theorem setLstate_lstate {s : State} (hwf : s.wf = true) {n v : Nat} (hv : v < 8) (h : n < 24 ∨ v ≠ 0) :
    (s.setLstate n v).lstate n = v := by
  by_cases hn : n < 24
  · by_cases hsame : s.lstate n = v
    · rw [State.setLstate, if_pos hsame, hsame]
    · have hset := wr_wf hwf FPT_PORTn_STATUS.LSTATE v n 0
      have hspeed := showSpeed_writes (s.wr FPT_PORTn_STATUS.LSTATE v n) n
      rw [State.setLstate, if_neg hsame, if_pos hn, lstate_low _ hn,
        (raise_writes [] ..).rd (hspeed.wf hset) (isPortReg_addr rfl hn) (by simp),
        rd_status_of_writes hspeed hset hn rfl (by decide), rd_wr_same hwf (by decide) (by simp [Fld.fits, FPT_PORTn_STATUS.LSTATE, hn])]
      exact Nat.mod_eq_of_lt hv
  · rw [lstate_high _ (by omega), setLstate_port_high (by omega) (by omega)]

theorem setLstate_since {s : State} {n v : Nat} (hv : v ≠ 0) : ((s.setLstate n v).port n).since = (s.port n).since := by
  by_cases hn : n < 24
  · rw [State.port, setLstate_low v hn, State.port]
  · rw [setLstate_port_high (by omega) hv]

theorem setLstate_wf {s : State} (hwf : s.wf = true) (n v : Nat) : (s.setLstate n v).wf = true := (State.setLstate_keep ..).wf hwf

theorem linkMoved_high {n : Nat} (s : State) (hn : 24 ≤ n) : s.linkMoved n = s := if_neg (by omega)

/-- What follows a change of the link leaves the link state. -/
theorem linkMoved_lstate {s : State} (hwf : s.wf = true) (n : Nat) : (s.linkMoved n).lstate n = s.lstate n := by
  unfold State.linkMoved
  split
  case isTrue hn => exact lstate_of_bypShown (bypLinkUp_writes ..) hwf hn
  case isFalse => rfl

theorem setLstate_linkMoved_lstate {s : State} (hwf : s.wf = true) {n v : Nat} (hv : v < 8) (hv0 : v ≠ 0) :
    ((s.setLstate n v).linkMoved n).lstate n = v :=
  (linkMoved_lstate (setLstate_wf hwf n v) n).trans (setLstate_lstate hwf hv (.inr hv0))

/-- A port whose frames are cut. -/
def PortSt.emptied (q : PortSt) : PortSt := { q with onWire := none, pubs := [], ring := [], handed := [] }

theorem fpt_forEach {α : Type} {xs : List α} {f : α → State → State} (h : ∀ x u, (f x u).fpt = u.fpt) (s : State) :
    (forEach xs f s).fpt = s.fpt := by
  induction xs generalizing s with
  | nil => rfl
  | cons x xs ih => exact (ih _).trans (h x s)

theorem cutFrames_fpt (s : State) (n : Nat) : (s.cutFrames n).fpt = (s.setPort n (s.port n).emptied).fpt := by
  unfold State.cutFrames
  dsimp only
  rw [fpt_forEach fun f u => (fpt_of_keep (State.macCount_keep ..) rfl).trans (fpt_of_keep (State.dropCells_keep ..) rfl)]
  split <;> rfl

theorem cutFrames_ports (s : State) (n : Nat) : PortsOnly s (s.cutFrames n) := ⟨_, cutFrames_fpt s n⟩

theorem cutFrames_writes (l : List (Fld × Nat)) (s : State) (n : Nat) : Writes l s (s.cutFrames n) := by
  unfold State.cutFrames
  dsimp only
  refine .trans (.trans (setPort_writes l s n (s.port n).emptied) ?_) (.forEach (fun f _ u => ?_) _)
  · split
    · exact .of_keep l (State.out_keep ..) rfl
    · exact .refl l _
  · exact .trans (.of_keep l (State.dropCells_keep ..) rfl) (.macCount ..)

theorem cutFrames_wf {s : State} (hwf : s.wf = true) (n : Nat) : (s.cutFrames n).wf = true := (State.cutFrames_keep ..).wf hwf

theorem goDown_lstate {s : State} (hwf : s.wf = true) (n : Nat) : (s.goDown n).lstate n = 1 :=
  setLstate_linkMoved_lstate (cutFrames_wf hwf n) (by decide) (by decide)

theorem goDown_high {n : Nat} (s : State) (hn : 24 ≤ n) : s.goDown n = (s.cutFrames n).setLstate n 1 := linkMoved_high _ hn

theorem goDown_writes {s : State} {n : Nat} (hn : 24 ≤ n) : Writes (fabricFields ((n - 24) / 4)) s (s.goDown n) := by
  rw [goDown_high s hn, ← linkFields_high hn]
  exact (cutFrames_writes ..).trans (setLstate_writes ..)

theorem goDown_ports {s : State} {n : Nat} (hn : 24 ≤ n) : PortsOnly s (s.goDown n) := by
  rw [goDown_high s hn]
  exact (cutFrames_ports s n).trans (setLstate_ports ..)

/-- A sub-port that goes Down leaves the link state of every other. -/
theorem goDown_lstate_other {s : State} {n k : Nat} (hn : 24 ≤ n) (hk : 24 ≤ k) (hne : k ≠ n) (hst : s.lstate n ≠ 0) :
    (s.goDown n).lstate k = s.lstate k := by
  have hx : (s.port n).emptied.xstate ≠ 0 := by rwa [lstate_high s hn] at hst
  have hcut : (s.cutFrames n).lstate k = s.lstate k := by
    rw [lstate_of_fpt (cutFrames_fpt s n) hk, lstate_high _ hk, port_setPort_other s (ne_default_of_xstate hx) hne, lstate_high s hk]
  rw [goDown_high s hn, ← hcut]
  by_cases h : (s.cutFrames n).lstate n = 1
  · rw [State.setLstate, if_pos h]
  · rw [lstate_of_fpt (setLstate_high hn h) hk, lstate_high _ hk,
      port_setPort_other _ (ne_default_of_xstate (q := { (s.cutFrames n).port n with xstate := 1 }) Nat.one_ne_zero) hne, lstate_high _ hk]

/-! ## Lock, auto-negotiation and loss of a link (R88) -/

/-- Signal and lock show at port `n`. -/
def State.lockSeen (s : State) (n : Nat) : State :=
  if n < 24 then s.wr FPT_PORTn_STATUS.SIG 1 n
  else s.wr FPT_XPORTm_STATUS.LANE_OK ((s.lanesOf n).foldl (fun v l => setBit v l true) (s.rd FPT_XPORTm_STATUS.LANE_OK ((n - 24) / 4)))
    ((n - 24) / 4)

theorem lockSeen_keep (s : State) (n : Nat) : Keep 0x10 s (s.lockSeen n) :=
  .ite ((Keep.refl _ s).wr .fpt rfl rfl) ((Keep.refl _ s).wr .fpt rfl rfl)

theorem negotiates_lockSeen {s : State} (hwf : s.wf = true) (n : Nat) : (s.lockSeen n).negotiates n = s.negotiates n := by
  unfold State.lockSeen State.negotiates
  by_cases hn : n < 24
  · have haddr (f : Fld) (hs : f.s1 = 0x100) (hb : f.base % 0x100 = 0) : f.addr n 0 ≠ FPT_PORTn_STATUS.SIG.addr n 0 := by
      simp only [Fld.addr, hs, FPT_PORTn_STATUS.SIG]
      omega
    simp only [hn, if_true, State.on, rd_wr_addr hwf (haddr FPT_PORTn_CFG.AN rfl rfl), rd_wr_addr hwf (haddr FPT_PORTn_CFG.MODE rfl rfl)]
  · have haddr (f : Fld) (hs : f.s1 = 0x100) (hb : f.base % 0x100 = 0) :
        f.addr ((n - 24) / 4) 0 ≠ FPT_XPORTm_STATUS.LANE_OK.addr ((n - 24) / 4) 0 := by
      simp only [Fld.addr, hs, FPT_XPORTm_STATUS.LANE_OK]
      omega
    simp only [hn, if_false, State.on, State.xport, fpt_wr, rd_wr_addr hwf (haddr FPT_XPORTm_CFG.AN rfl rfl),
      rd_wr_addr hwf (haddr FPT_XPORTm_CFG.MEDIA rfl rfl)]

/-- Port `n` has lock and negotiates from now on. -/
def State.negotiating (s : State) (n : Nat) : State :=
  ((s.lockSeen n).setPort n { (s.lockSeen n).port n with since := (s.lockSeen n).tick }).setLstate n 2

theorem exec_portLockAcquired_an {s : State} (hwf : s.wf = true) {n : Nat} (hn : n < 40) (hst : s.lstate n = 1)
    (han : s.negotiates n = true) : exec (.portLockAcquired n) s = .next (s.negotiating n) :=
  (if_neg (by simp [hst, hn])).trans (if_pos ((negotiates_lockSeen hwf n).trans han))

theorem exec_portLockAcquired_up {s : State} (hwf : s.wf = true) {n : Nat} (hn : n < 40) (hst : s.lstate n = 1)
    (han : s.negotiates n = false) : exec (.portLockAcquired n) s = .next ((s.lockSeen n).comeUp n) :=
  (if_neg (by simp [hst, hn])).trans (if_neg (Bool.eq_false_iff.1 ((negotiates_lockSeen hwf n).trans han)))

theorem negotiating_since {s : State} {n : Nat} (ht : s.tick ≠ 0) : ((s.negotiating n).port n).since = s.tick := by
  have htick : (s.lockSeen n).tick = s.tick := (lockSeen_keep s n).parts .tick rfl
  have hne : ({ (s.lockSeen n).port n with since := (s.lockSeen n).tick } : PortSt) ≠ default :=
    ne_of_apply_ne PortSt.since (by rw [htick]; exact ht)
  rw [State.negotiating, setLstate_since (by decide), port_setPort _ n hne, htick]

theorem negotiating_sig {s : State} (hwf : s.wf = true) {n : Nat} (hn : n < 24) : (s.negotiating n).on FPT_PORTn_STATUS.SIG n = true := by
  have hsig : (s.wr FPT_PORTn_STATUS.SIG (b2n true) n).on FPT_PORTn_STATUS.SIG n = true :=
    on_wr_same hwf (by decide) rfl (by simp [Fld.fits, FPT_PORTn_STATUS.SIG, hn]) true
  have hseen : s.lockSeen n = s.wr FPT_PORTn_STATUS.SIG (b2n true) n := if_pos hn
  have hport := setPort_writes [] (s.lockSeen n) n { (s.lockSeen n).port n with since := (s.lockSeen n).tick }
  have hset := setLstate_writes ((s.lockSeen n).setPort n { (s.lockSeen n).port n with since := (s.lockSeen n).tick }) n 2
  have hwf' := (lockSeen_keep s n).wf hwf
  rw [linkFields_low hn] at hset
  rw [State.negotiating, on_of_rd (hset.rd (hport.wf hwf') (isPortReg_addr rfl hn)
      (by simp [Fld.apart, FPT_PORTn_STATUS.SIG, FPT_PORTn_STATUS.LSTATE, FPT_PORTn_STATUS.SPEED])),
    on_of_rd (hport.rd hwf' (isPortReg_addr rfl hn) (by simp)), hseen]
  exact hsig

theorem negotiating_lstate {s : State} (hwf : s.wf = true) (n : Nat) : (s.negotiating n).lstate n = 2 :=
  setLstate_lstate ((State.setPort_keep ..).wf ((lockSeen_keep s n).wf hwf)) (by decide) (.inr (by decide))

theorem comeUp_lstate {s : State} (hwf : s.wf = true) (n : Nat) : (s.comeUp n).lstate n = 3 := by
  unfold State.comeUp
  dsimp only
  refine setLstate_linkMoved_lstate ?_ (by decide) (by decide)
  split
  · exact wr_wf hwf ..
  · exact (State.setXport_keep ..).wf hwf

/-- The in-band status of a port of MODE 2 is taken up. -/
def State.inbandTaken (s : State) (n speed : Nat) : State :=
  if n < 24 && s.rd FPT_PORTn_CFG.MODE n = 2 then s.setPort n { s.port n with inband := speed % 2 + 1 } else s

theorem exec_portAnComplete {s : State} {n : Nat} (speed : Nat) (hn : n < 40) (hst : s.lstate n = 2) :
    exec (.portAnComplete n speed) s = .next ((s.inbandTaken n speed).comeUp n) := if_neg (by simp [hst, hn])

theorem inbandTaken_wf {s : State} (hwf : s.wf = true) (n speed : Nat) : (s.inbandTaken n speed).wf = true := by
  unfold State.inbandTaken
  split
  · exact (State.setPort_keep ..).wf hwf
  · exact hwf

theorem exec_portAnTimeout {s : State} {n : Nat} (hn : n < 40) (hst : s.lstate n = 2) : exec (.portAnTimeout n) s =
    .next (((s.advanceTo ((s.port n).since + 500000000)).setLstate n 1).linkMoved n) := if_neg (by simp [hst, hn])

/-- At `t` a port's auto-negotiation is given up. -/
theorem anTimeout_shows {s : State} (hwf : s.wf = true) (n t : Nat) :
    (((s.advanceTo t).setLstate n 1).linkMoved n).lstate n = 1 ∧ t ≤ (((s.advanceTo t).setLstate n 1).linkMoved n).tick :=
  ⟨setLstate_linkMoved_lstate ((State.advanceTo_keep ..).wf hwf) (by decide) (by decide),
    (advanceTo_le_tick s t).trans ((State.setLstate_keep (s.advanceTo t) n 1).tick.trans (State.linkMoved_keep ..).tick)⟩

/-- What a loss of the link shows at a field port, by its cause. -/
def State.lossShown (s : State) (n cause : Nat) : State :=
  if n < 24 then
    (if cause = 0 then s.wr FPT_PORTn_STATUS.SIG 0 n
     else if cause = 1 then s.raise (portSource n 1) else s.wr FPT_PORTn_STATUS.RFAULT 1 n)
  else s

theorem lossShown_wf {s : State} (hwf : s.wf = true) (n cause : Nat) : (s.lossShown n cause).wf = true := by
  unfold State.lossShown
  split
  · split
    · exact wr_wf hwf ..
    · split
      · exact (State.raise_keep ..).wf hwf
      · exact wr_wf hwf ..
  · exact hwf

theorem exec_portLinkLost {s : State} {n cause : Nat} (hn : n < 40)
    (hlost : (s.lstate n = 3 ∧ (cause = 0 ∨ cause = 2 ∨ (cause = 1 ∧ n < 24 ∧ s.rd FPT_PORTn_CFG.MODE n = 5))) ∨
      (s.lstate n = 2 ∧ cause = 0)) : exec (.portLinkLost n cause) s = .next ((s.lossShown n cause).goDown n) := by
  refine if_neg ?_
  rcases hlost with ⟨hst, rfl | rfl | ⟨rfl, hlow, hmode⟩⟩ | ⟨hst, rfl⟩
  · simp [hst, hn]
  · simp [hst, hn]
  · simp [hst, hn, hlow, hmode]
  · simp [hst, hn]

/-! ## Resets of ports and pairs (R88, R99) -/

theorem cutReceive_ports (s : State) (n : Nat) : PortsOnly s (s.cutReceive n) := by
  unfold State.cutReceive
  split
  · exact .setPort ..
  · exact .of_fpt rfl

theorem cutReceive_writes (l : List (Fld × Nat)) (s : State) (n : Nat) : Writes l s (s.cutReceive n) :=
  .of_keep l (State.cutReceive_keep ..) rfl

/-- Port `n` is in Reset, from now on. -/
def State.portInReset (s : State) (n : Nat) : State := ((s.cutReceive n).cutFrames n).setLstate n 4

theorem resetPort_of_enabled {s : State} {n : Nat} (h : s.lstate n ≠ 0) :
    s.resetPort n = (s.portInReset n).setPort n { (s.portInReset n).port n with since := (s.portInReset n).tick } := if_neg h

theorem resetPort_of_disabled {s : State} {n : Nat} (h : s.lstate n = 0) : s.resetPort n = s := if_pos h

theorem portInReset_ports (s : State) (n : Nat) : PortsOnly s (s.portInReset n) :=
  ((cutReceive_ports s n).trans (cutFrames_ports ..)).trans (setLstate_ports ..)

theorem resetPort_ports (s : State) (n : Nat) : PortsOnly s (s.resetPort n) := by
  by_cases h : s.lstate n = 0
  · exact .of_fpt (by rw [resetPort_of_disabled h])
  · rw [resetPort_of_enabled h]
    exact (portInReset_ports s n).trans (.setPort ..)

theorem portInReset_writes (s : State) (n : Nat) : Writes (linkFields n) s (s.portInReset n) :=
  ((cutReceive_writes _ s n).trans (cutFrames_writes ..)).trans (setLstate_writes ..)

theorem resetPort_writes (s : State) (n : Nat) : Writes (linkFields n) s (s.resetPort n) := by
  by_cases h : s.lstate n = 0
  · rw [resetPort_of_disabled h]
    exact .refl _ s
  · rw [resetPort_of_enabled h]
    exact (portInReset_writes s n).trans (setPort_writes ..)

/-- A reset takes a field port that is not Disabled to Reset. -/
theorem resetPort_lstate {s : State} (hwf : s.wf = true) {n : Nat} (hn : n < 24) :
    (s.resetPort n).lstate n = if s.lstate n = 0 then 0 else 4 := by
  by_cases h : s.lstate n = 0
  · rw [resetPort_of_disabled h, if_pos h, h]
  · have hcut : ((s.cutReceive n).cutFrames n).wf = true := cutFrames_wf ((State.cutReceive_keep ..).wf hwf) n
    have hset : (s.portInReset n).lstate n = 4 := setLstate_lstate hcut (by decide) (.inl hn)
    rw [resetPort_of_enabled h, if_neg h, ← hset, lstate_low _ hn, lstate_low _ hn]
    rfl

/-- A port that is Disabled and that a commit enabled meanwhile starts. -/
def State.startEnabled (s : State) (n : Nat) : State := if s.portEnabled n && s.lstate n = 0 then s.setLstate n 1 else s

/-- The link state that it then has. -/
def State.startsAs (s : State) (n : Nat) : Nat := if s.portEnabled n && s.lstate n = 0 then 1 else s.lstate n

theorem startEnabled_writes (s : State) (n : Nat) : Writes (linkFields n) s (s.startEnabled n) :=
  .ite (fun _ => setLstate_writes ..) fun _ => .refl _ s

theorem startEnabled_lstate {s : State} (hwf : s.wf = true) (n : Nat) : (s.startEnabled n).lstate n = s.startsAs n := by
  unfold State.startEnabled State.startsAs
  split
  case isTrue => exact setLstate_lstate hwf (by decide) (.inr (by decide))
  case isFalse => rfl

theorem portEnabled_of_on {s t : State} {n : Nat} (hn : n < 24) (h : t.rd FPT_PORTn_CFG.ENABLE n = s.rd FPT_PORTn_CFG.ENABLE n) :
    t.portEnabled n = s.portEnabled n := by
  rw [State.portEnabled, State.portEnabled, if_pos hn, if_pos hn, on_of_rd h]

theorem portEnabled_of_linkFields {s t : State} {n k : Nat} (w : Writes (linkFields n) s t) (hwf : s.wf = true) (hk : k < 24) :
    t.portEnabled k = s.portEnabled k := portEnabled_of_on hk (rd_of_linkFields w hwf rfl hk rfl (by decide) (by decide))

theorem portEnabled_of_bypShown {s t : State} {p k : Nat} (w : Writes (bypShown p) s t) (hwf : s.wf = true) (hk : k < 24) :
    t.portEnabled k = s.portEnabled k := portEnabled_of_on hk (rd_of_bypShown w hwf rfl hk rfl (by decide))

/-- Both ports of pair `p`, each where it has been enabled meanwhile, start. -/
def State.startBoth (s : State) (p : Nat) : State := (s.startEnabled (2 * p)).startEnabled (2 * p + 1)

theorem startBoth_lstate {s : State} (hwf : s.wf = true) {p n : Nat} (hp : p < 12) (hn : n = 2 * p ∨ n = 2 * p + 1) :
    (s.startBoth p).lstate n = s.startsAs n := by
  have heven := startEnabled_writes s (2 * p)
  have hodd := startEnabled_writes (s.startEnabled (2 * p)) (2 * p + 1)
  rcases hn with rfl | rfl
  · rw [State.startBoth, lstate_of_linkFields hodd (heven.wf hwf) (by omega) (by omega), startEnabled_lstate hwf]
  · rw [State.startBoth, startEnabled_lstate (heven.wf hwf), State.startsAs, portEnabled_of_linkFields heven hwf (by omega),
      lstate_of_linkFields heven hwf (by omega) (by omega), State.startsAs]

/-- Pair `p` has left its reset, where it was in one. -/
def State.outOfReset (s : State) (p : Nat) : State :=
  let u := s.setPair p { s.pair p with inReset := false }
  if (s.pair p).inReset then u.startBoth p else u

theorem pairSettle_of_reset {s : State} {p : Nat} (h : s.lstate (2 * p) = 4 ∨ s.lstate (2 * p + 1) = 4) : s.pairSettle p = s :=
  if_pos (by simpa using h)

theorem pairSettle_of_not_reset {s : State} {p : Nat} (h0 : s.lstate (2 * p) ≠ 4) (h1 : s.lstate (2 * p + 1) ≠ 4) :
    s.pairSettle p = (s.outOfReset p).bypCheck p := if_neg (by simp [h0, h1])

theorem outOfReset_wf {s : State} (hwf : s.wf = true) (p : Nat) : (s.outOfReset p).wf = true := by
  have hu : (s.setPair p { s.pair p with inReset := false }).wf = true := (State.setPair_keep ..).wf hwf
  unfold State.outOfReset
  dsimp only
  split
  · exact (startEnabled_writes ..).wf ((startEnabled_writes ..).wf hu)
  · exact hu

/-- A pair that leaves its reset keeps its status and the settings of its ports. -/
theorem outOfReset_rd {s : State} (hwf : s.wf = true) (p : Nat) {f : Fld} {i : Nat} (hf : f.inPorts = true) (hi : i < f.n1)
    (hs : f.s1 % 0x40 = 0) (h4 : f.base % 0x40 ≠ 4) (h8 : f.base % 0x40 ≠ 8) : (s.outOfReset p).rd f i = s.rd f i := by
  have hu : (s.setPair p { s.pair p with inReset := false }).wf = true := (State.setPair_keep ..).wf hwf
  have heven := startEnabled_writes (s.setPair p { s.pair p with inReset := false }) (2 * p)
  unfold State.outOfReset
  dsimp only
  split
  · rw [State.startBoth, rd_of_linkFields (startEnabled_writes ..) (heven.wf hu) hf hi hs h4 h8, rd_of_linkFields heven hu hf hi hs h4 h8]
    rfl
  · rfl

theorem outOfReset_lstate {s : State} (hwf : s.wf = true) {p n : Nat} (hp : p < 12) (hn : n = 2 * p ∨ n = 2 * p + 1) :
    (s.outOfReset p).lstate n = if (s.pair p).inReset then s.startsAs n else s.lstate n := by
  have hlow : n < 24 := by omega
  have hu : (s.setPair p { s.pair p with inReset := false }).wf = true := (State.setPair_keep ..).wf hwf
  have hlstate : (s.setPair p { s.pair p with inReset := false }).lstate n = s.lstate n := by
    rw [lstate_low _ hlow, lstate_low _ hlow]
    rfl
  have henabled : (s.setPair p { s.pair p with inReset := false }).portEnabled n = s.portEnabled n := portEnabled_of_on hlow rfl
  unfold State.outOfReset
  dsimp only
  split
  · rw [startBoth_lstate hu hp hn, State.startsAs, hlstate, henabled, State.startsAs]
  · exact hlstate

/-- A port of a pair that settles keeps its link state unless it is Disabled and enabled. -/
theorem pairSettle_lstate {s : State} (hwf : s.wf = true) {p n : Nat} (hp : p < 12) (hn : n = 2 * p ∨ n = 2 * p + 1)
    (h : s.lstate n ≠ 0 ∨ s.portEnabled n = false) : (s.pairSettle p).lstate n = s.lstate n := by
  by_cases hreset : s.lstate (2 * p) = 4 ∨ s.lstate (2 * p + 1) = 4
  · rw [pairSettle_of_reset hreset]
  · obtain ⟨h0, h1⟩ := not_or.1 hreset
    have hstays : s.startsAs n = s.lstate n := if_neg (by rcases h with h | h <;> simp [h])
    rw [pairSettle_of_not_reset h0 h1, lstate_of_bypShown (bypCheck_writes ..) (outOfReset_wf hwf p) (by omega),
      outOfReset_lstate hwf hp hn, hstays, ite_self]

/-- The link state of a port that leaves Reset. -/
def State.leavesTo (s : State) (n : Nat) : Nat := if s.portEnabled n then 1 else 0

theorem exec_portResetComplete_low {s : State} {n : Nat} (hn : n < 24) (hst : s.lstate n = 4) : exec (.portResetComplete n) s =
    .next (((s.setLstate n (s.leavesTo n)).bypCheck (n / 2)).pairSettle (n / 2)) :=
  (if_neg (by simp [hst]; omega)).trans (congrArg ok (if_pos hn))

theorem exec_portResetComplete_high {s : State} {n : Nat} (h24 : 24 ≤ n) (hn : n < 40) (hst : s.lstate n = 4) :
    exec (.portResetComplete n) s = .next (s.setLstate n (s.leavesTo n)) :=
  (if_neg (by simp [hst, hn])).trans (congrArg ok (if_neg (by omega)))

theorem portResetComplete_low_does {s : State} (hwf : s.wf = true) {n : Nat} (hn : n < 24) (hst : s.lstate n = 4) :
    Does (.portResetComplete n) s (fun t => t.lstate n = (if s.portEnabled n = true then 1 else 0)) := by
  have hset := setLstate_writes s n (s.leavesTo n)
  have hbyp := bypCheck_writes (s.setLstate n (s.leavesTo n)) (n / 2)
  have hleft : ((s.setLstate n (s.leavesTo n)).bypCheck (n / 2)).lstate n = s.leavesTo n := by
    rw [lstate_of_bypShown hbyp (hset.wf hwf) hn]
    exact setLstate_lstate hwf (by unfold State.leavesTo; split <;> decide) (.inl hn)
  have henabled : ((s.setLstate n (s.leavesTo n)).bypCheck (n / 2)).portEnabled n = s.portEnabled n := by
    rw [portEnabled_of_bypShown hbyp (hset.wf hwf) hn, portEnabled_of_linkFields hset hwf hn]
  refine does_of_exec (exec_portResetComplete_low hn hst) ?_
  rw [pairSettle_lstate (hbyp.wf (hset.wf hwf)) (by omega) (by omega) ?_, hleft]
  · rfl
  · rw [hleft, henabled, State.leavesTo]
    cases s.portEnabled n <;> simp

/-- Pair `p` is in reset: its duplicate discard is empty, its numbers start again, and no retry waits. -/
def State.pairCleared (s : State) (p : Nat) : State :=
  (s.setPair p { s.pair p with dd := [], seq := 0, supFrom := s.tick, inReset := true, retryFrom := none, fails := 0 }).wr
    FPT_PAIRp_STATUS.DD_USED 0 p

/-- Pair `p` is cleared, and its ports that are not Disabled are in Reset. -/
def State.pairPortsReset (s : State) (p : Nat) : State := ((s.pairCleared p).resetPort (2 * p)).resetPort (2 * p + 1)

/-- Pair `p` and its ports are in reset, and its by-pass is Released. -/
def State.pairHeld (s : State) (p : Nat) : State := ((s.pairPortsReset p).bypRelease p 9 0).bypCheck p

theorem exec_pairReset (s : State) {p : Nat} (hp : p < 12) : exec (.pairReset p) s = .next ((s.pairHeld p).pairSettle p) := if_pos hp

theorem pairCleared_wf {s : State} (hwf : s.wf = true) (p : Nat) : (s.pairCleared p).wf = true :=
  wr_wf ((State.setPair_keep ..).wf hwf) ..

theorem pairPortsReset_wf {s : State} (hwf : s.wf = true) (p : Nat) : (s.pairPortsReset p).wf = true :=
  (resetPort_writes ..).wf ((resetPort_writes ..).wf (pairCleared_wf hwf p))

theorem pairHeld_wf {s : State} (hwf : s.wf = true) (p : Nat) : (s.pairHeld p).wf = true :=
  (bypCheck_writes ..).wf ((bypRelease_writes ..).wf (pairPortsReset_wf hwf p))

theorem pairCleared_rd {s : State} (hwf : s.wf = true) (p : Nat) {f : Fld} {n : Nat} (hs : f.s1 % 0x40 = 0) (hb : f.base % 0x40 ≠ 0x18) :
    (s.pairCleared p).rd f n = s.rd f n := by
  have hmul := Nat.mod_eq_zero_of_dvd ((Nat.dvd_of_mod_eq_zero hs).mul_right n)
  refine (rd_wr_addr ((State.setPair_keep ..).wf hwf) ?_).trans rfl
  simp only [Fld.addr, FPT_PAIRp_STATUS.DD_USED]
  omega

/-- The resets of its ports leave the status of a pair and the settings of its ports. -/
theorem pairPortsReset_rd {s : State} (hwf : s.wf = true) (p : Nat) {f : Fld} {i : Nat} (hf : f.inPorts = true) (hi : i < f.n1)
    (hs : f.s1 % 0x40 = 0) (h4 : f.base % 0x40 ≠ 4) (h8 : f.base % 0x40 ≠ 8) :
    (s.pairPortsReset p).rd f i = (s.pairCleared p).rd f i := by
  have hc := pairCleared_wf hwf p
  have heven := resetPort_writes (s.pairCleared p) (2 * p)
  rw [State.pairPortsReset, rd_of_linkFields (resetPort_writes ..) (heven.wf hc) hf hi hs h4 h8,
    rd_of_linkFields heven hc hf hi hs h4 h8]

theorem pairPortsReset_lstate {s : State} (hwf : s.wf = true) {p n : Nat} (hp : p < 12) (hn : n = 2 * p ∨ n = 2 * p + 1) :
    (s.pairPortsReset p).lstate n = if s.lstate n = 0 then 0 else 4 := by
  have hc := pairCleared_wf hwf p
  have heven := resetPort_writes (s.pairCleared p) (2 * p)
  have hodd := resetPort_writes ((s.pairCleared p).resetPort (2 * p)) (2 * p + 1)
  have hsame : (s.pairCleared p).lstate n = s.lstate n := by
    rw [lstate_low _ (by omega), lstate_low _ (by omega), pairCleared_rd hwf p rfl (by decide)]
  rw [State.pairPortsReset]
  rcases hn with rfl | rfl
  · rw [lstate_of_linkFields hodd (heven.wf hc) (by omega) (by omega), resetPort_lstate hc (by omega), hsame]
  · rw [resetPort_lstate (heven.wf hc) (by omega), lstate_of_linkFields heven hc (by omega) (by omega), hsame]

theorem pairCleared_pair (s : State) (p : Nat) : (s.pairCleared p).pair p =
    { s.pair p with dd := [], seq := 0, supFrom := s.tick, inReset := true, retryFrom := none, fails := 0 } := by
  rw [State.pairCleared, pair_of_fpt (fpt_wr ..)]
  exact pair_setPair s p (marked_of_inReset rfl)

theorem pairPortsReset_pair (s : State) (p : Nat) : (s.pairPortsReset p).pair p = (s.pairCleared p).pair p :=
  ((resetPort_ports (s.pairCleared p) (2 * p)).trans (resetPort_ports ..)).pair p

theorem pairPortsReset_powerHold (s : State) (p : Nat) : (s.pairPortsReset p).fpt.powerHold = s.fpt.powerHold := by
  have hcleared : (s.pairCleared p).fpt.powerHold = s.fpt.powerHold := by
    rw [State.pairCleared, fpt_wr]
    rfl
  exact ((resetPort_ports (s.pairCleared p) (2 * p)).trans (resetPort_ports ..)).powerHold.trans hcleared

/-- The entry of a pair in reset: it keeps the conditions that it has seen. -/
theorem pairReleased_pair (s : State) (p : Nat) : (((s.pairPortsReset p).bypRelease p 9 0).pair p).inReset = true ∧
    (((s.pairPortsReset p).bypRelease p 9 0).pair p).causes = (s.pair p).causes := by
  have hpair := (pairPortsReset_pair s p).trans (pairCleared_pair s p)
  obtain ⟨x, hx⟩ := bypRelease_pair (s := s.pairPortsReset p) (p := p) 9 0 (by rw [hpair]; exact marked_of_inReset rfl)
  rw [hx, hpair]
  exact ⟨rfl, rfl⟩

theorem pairReleased_wf {s : State} (hwf : s.wf = true) (p : Nat) : ((s.pairPortsReset p).bypRelease p 9 0).wf = true :=
  (bypRelease_writes ..).wf (pairPortsReset_wf hwf p)

/-- The by-pass operations of a pair in reset leave what they do not write. -/
theorem pairHeld_writes (s : State) (p : Nat) : Writes (bypShown p) (s.pairPortsReset p) (s.pairHeld p) :=
  ((bypRelease_writes ..).mono (bypFields_sub p)).trans (bypCheck_writes ..)

theorem pairHeld_lstate {s : State} (hwf : s.wf = true) {p n : Nat} (hp : p < 12) (hn : n = 2 * p ∨ n = 2 * p + 1) :
    (s.pairHeld p).lstate n = if s.lstate n = 0 then 0 else 4 := by
  rw [lstate_of_bypShown (pairHeld_writes s p) (pairPortsReset_wf hwf p) (by omega), pairPortsReset_lstate hwf hp hn]

theorem pairHeld_portEnabled {s : State} (hwf : s.wf = true) (p : Nat) {n : Nat} (hn : n < 24) :
    (s.pairHeld p).portEnabled n = s.portEnabled n := by
  rw [portEnabled_of_bypShown (pairHeld_writes s p) (pairPortsReset_wf hwf p) hn]
  refine portEnabled_of_on hn ?_
  rw [pairPortsReset_rd hwf p rfl hn rfl (by decide) (by decide), pairCleared_rd hwf p rfl (by decide)]

theorem pairHeld_released {s : State} (hwf : s.wf = true) {p : Nat} (hp : p < 12) : (s.pairHeld p).Released p := by
  refine bypCheck_released_of_cause (pairReleased_wf hwf p) hp (bypCauses_of_inReset ?_)
  rw [pair_of_fpt (showFwd_fpt ..)]
  exact (pairReleased_pair s p).1

theorem pairHeld_inReset (s : State) (p : Nat) : ((s.pairHeld p).pair p).inReset = true :=
  (inReset_of_marks ((bypCheck_marks ((s.pairPortsReset p).bypRelease p 9 0) p).marks
    (marked_of_inReset (pairReleased_pair s p).1))).trans (pairReleased_pair s p).1

/-- No operation of the by-pass writes DD_USED. -/
theorem ddUsed_of_bypShown {s t : State} {p : Nat} (w : Writes (bypShown p) s t) (hwf : s.wf = true) (hp : p < 12) :
    t.rd FPT_PAIRp_STATUS.DD_USED p = s.rd FPT_PAIRp_STATUS.DD_USED p :=
  w.rd hwf (isPortReg_addr rfl hp) (by simp [bypShown, bypFields, Fld.apart, FPT_PAIRp_STATUS.DD_USED, FPT_PAIRp_STATUS.FWD_READY,
    FPT_PAIRp_STATUS.DRIVE, FPT_PAIRp_STATUS.REASON, FPT_PAIRp_STATUS.BSTATE])

theorem pairHeld_ddUsed {s : State} (hwf : s.wf = true) {p : Nat} (hp : p < 12) : (s.pairHeld p).rd FPT_PAIRp_STATUS.DD_USED p = 0 := by
  rw [ddUsed_of_bypShown (pairHeld_writes s p) (pairPortsReset_wf hwf p) hp, pairPortsReset_rd hwf p rfl hp rfl (by decide) (by decide)]
  exact rd_wr_same ((State.setPair_keep ..).wf hwf) (by decide) (by simp [Fld.fits, FPT_PAIRp_STATUS.DD_USED, hp])

/-- REASON 9, where power does not hold the drive and the reset is a new condition. -/
theorem pairHeld_reason {s : State} (hwf : s.wf = true) {p : Nat} (hp : p < 12) (hhold : s.fpt.powerHold = 0)
    (hnew : 9 ∉ (s.pair p).causes) : (s.pairHeld p).rd FPT_PAIRp_STATUS.REASON p = 9 := by
  have hr := pairReleased_wf hwf p
  have hfpt := showFwd_fpt ((s.pairPortsReset p).bypRelease p 9 0) p
  obtain ⟨hreset, hcauses⟩ := pairReleased_pair s p
  obtain ⟨hdrive, -, hst⟩ := bypRelease_shows (pairPortsReset_wf hwf p) hp 9 (st := 0) (by decide)
  have hpower : (((s.pairPortsReset p).bypRelease p 9 0).showFwd p).fpt.powerHold = 0 := by
    rw [hfpt, (bypRelease_marks ..).powerHold, pairPortsReset_powerHold, hhold]
  have hfirst : ∃ l, (((s.pairPortsReset p).bypRelease p 9 0).showFwd p).bypCauses p = 9 :: l := by
    have hshown : ((((s.pairPortsReset p).bypRelease p 9 0).showFwd p).pair p).inReset = true := by rw [pair_of_fpt hfpt, hreset]
    simp [State.bypCauses, hpower, hshown]
  obtain ⟨l, hfirst⟩ := hfirst
  exact (bypCheck_acts ((s.pairPortsReset p).bypRelease p 9 0) p).reason_of_new (showFwd_wf hr p) hp
    (showFwd_released ⟨hdrive, hst⟩ hr hp) hfirst (by rw [pair_of_fpt hfpt, hcauses]; exact hnew)

theorem pairReset_does {s : State} (hwf : s.wf = true) {p : Nat} (hp : p < 12) (h : s.lstate (2 * p) ≠ 0 ∨ s.lstate (2 * p + 1) ≠ 0) :
    Does (.pairReset p) s (fun t =>
      t.lstate (2 * p) = (if s.lstate (2 * p) = 0 then 0 else 4) ∧ t.lstate (2 * p + 1) = (if s.lstate (2 * p + 1) = 0 then 0 else 4) ∧
      t.rd FPT_PAIRp_STATUS.DD_USED p = 0 ∧ t.on FPT_PAIRp_STATUS.DRIVE p = false ∧ t.rd FPT_PAIRp_STATUS.BSTATE p = 0 ∧
      (s.fpt.powerHold = 0 → 9 ∉ (s.pair p).causes → t.rd FPT_PAIRp_STATUS.REASON p = 9)) := by
  have heven := pairHeld_lstate hwf hp (.inl rfl)
  have hodd := pairHeld_lstate hwf hp (.inr rfl)
  have hoff := pairHeld_released hwf hp
  have hstays : (s.pairHeld p).pairSettle p = s.pairHeld p := by
    refine pairSettle_of_reset ?_
    rw [heven, hodd]
    exact h.imp (fun h => if_neg h) fun h => if_neg h
  refine does_of_exec (exec_pairReset s hp) ?_
  rw [hstays]
  exact ⟨heven, hodd, pairHeld_ddUsed hwf hp, hoff.drive, hoff.bstate, pairHeld_reason hwf hp⟩

/-- A pair both of whose ports are Disabled leaves its reset at once. -/
theorem pairReset_disabled_does {s : State} (hwf : s.wf = true) {p : Nat} (hp : p < 12) (h0 : s.lstate (2 * p) = 0)
    (h1 : s.lstate (2 * p + 1) = 0) : Does (.pairReset p) s (fun t =>
      (∀ n, n = 2 * p ∨ n = 2 * p + 1 → t.lstate n = (if s.portEnabled n = true then 1 else 0)) ∧
      t.rd FPT_PAIRp_STATUS.DD_USED p = 0 ∧ t.on FPT_PAIRp_STATUS.DRIVE p = false ∧ t.rd FPT_PAIRp_STATUS.BSTATE p = 0) := by
  have hu := pairHeld_wf hwf p
  have hout := outOfReset_wf hu p
  have hbyp := bypCheck_writes ((s.pairHeld p).outOfReset p) p
  have hdown {n : Nat} (hn : n = 2 * p ∨ n = 2 * p + 1) : (s.pairHeld p).lstate n = 0 := by
    rw [pairHeld_lstate hwf hp hn]
    exact if_pos (hn.elim (fun h => h ▸ h0) fun h => h ▸ h1)
  have hlstate {n : Nat} (hn : n = 2 * p ∨ n = 2 * p + 1) :
      ((s.pairHeld p).outOfReset p).lstate n = if s.portEnabled n = true then 1 else 0 := by
    rw [outOfReset_lstate hu hp hn, if_pos (pairHeld_inReset s p), State.startsAs, hdown hn, pairHeld_portEnabled hwf p (by omega)]
    simp
  have hup : (((s.pairHeld p).outOfReset p).showFwd p).bothUp p = false := by
    rw [bothUp_of_bypShown ((showFwd_writes ..).mono (by simp [bypShown])) hout hp, State.bothUp, State.portUp, hlstate (.inl rfl)]
    cases s.portEnabled (2 * p) <;> rfl
  have hrd {f : Fld} (hf : f.inPorts = true) (hi : p < f.n1) (hs : f.s1 % 0x40 = 0) (h4 : f.base % 0x40 ≠ 4) (h8 : f.base % 0x40 ≠ 8) :
      ((s.pairHeld p).outOfReset p).rd f p = (s.pairHeld p).rd f p := outOfReset_rd hu p hf hi hs h4 h8
  have hheld := pairHeld_released hwf hp
  have hoff : ((s.pairHeld p).outOfReset p).Released p :=
    ⟨(on_of_rd (hrd rfl hp rfl (by decide) (by decide))).trans hheld.drive, (hrd rfl hp rfl (by decide) (by decide)).trans hheld.bstate⟩
  obtain ⟨hend, -⟩ := (bypCheck_acts ((s.pairHeld p).outOfReset p) p).released_of_linkless (showFwd_wf hout p) hp
    (showFwd_released hoff hout hp) hup
  refine does_of_exec (exec_pairReset s hp) ?_
  rw [pairSettle_of_not_reset (by simp [hdown]) (by simp [hdown])]
  refine ⟨fun n hn => ?_, ?_, hend.drive, hend.bstate⟩
  · rw [lstate_of_bypShown hbyp hout (by omega), hlstate hn]
  · rw [ddUsed_of_bypShown hbyp hout hp, hrd rfl hp rfl (by decide) (by decide), pairHeld_ddUsed hwf hp]

/-! ## Fabric ports on one lane (R100) -/

theorem rd_of_fabricFields {s t : State} {m : Nat} (w : Writes (fabricFields m) s t) (hwf : s.wf = true) {f : Fld} (hf : f.inPorts = true)
    (hm : m < f.n1) (hup : f.lo + f.w ≤ FPT_XPORTm_STATUS.SUB_UP.lo ∨ FPT_XPORTm_STATUS.SUB_UP.lo + FPT_XPORTm_STATUS.SUB_UP.w ≤ f.lo)
    (hwidth : f.lo + f.w ≤ FPT_XPORTm_STATUS.WIDTH.lo ∨ FPT_XPORTm_STATUS.WIDTH.lo + FPT_XPORTm_STATUS.WIDTH.w ≤ f.lo) :
    t.rd f m = s.rd f m := by
  refine w.rd hwf (isPortReg_addr hf hm) ?_
  simp only [fabricFields, List.forall_mem_cons, List.not_mem_nil, false_implies, implies_true, and_true]
  exact ⟨.inr hup, .inr hwidth⟩

/-- The fields of the settings of a fabric port stand in another register than its status. -/
theorem xport_cfg_addr {f g : Fld} (m : Nat) (hs : f.s1 = g.s1) (hb : f.base ≠ g.base) : f.addr m 0 ≠ g.addr m 0 := by
  simp only [Fld.addr, hs]
  omega

/-- Fabric port `m` is to run at x1 on a lane; its links have not moved yet. -/
def State.narrowed (s : State) (m lane try_ : Nat) : State :=
  (s.setXport m { s.xport m with x1 := true, tryLane := try_, trySince := s.tick }).wr FPT_XPORTm_STATUS.DLANE lane m

theorem narrowed_wf {s : State} (hwf : s.wf = true) (m lane try_ : Nat) : (s.narrowed m lane try_).wf = true :=
  wr_wf ((State.setXport_keep ..).wf hwf) ..

theorem narrowed_x1 (s : State) (m lane try_ : Nat) : ((s.narrowed m lane try_).xport m).x1 = true := by
  have hx : ({ s.xport m with x1 := true, tryLane := try_, trySince := s.tick } : XportSt) ≠ default :=
    ne_of_apply_ne XportSt.x1 Bool.noConfusion
  rw [State.narrowed, State.xport, fpt_wr]
  exact congrArg XportSt.x1 (xport_setXport s m hx)

theorem narrowed_lstate (s : State) (m lane try_ : Nat) {n : Nat} (hn : 24 ≤ n) : (s.narrowed m lane try_).lstate n = s.lstate n := by
  have hfpt : (s.narrowed m lane try_).fpt =
    (s.setXport m { s.xport m with x1 := true, tryLane := try_, trySince := s.tick }).fpt := fpt_wr ..
  rw [lstate_of_fpt hfpt hn, lstate_high _ hn, lstate_high _ hn]
  rfl

theorem narrowed_dlane {s : State} (hwf : s.wf = true) {m : Nat} (hm : m < 4) (lane try_ : Nat) :
    (s.narrowed m lane try_).rd FPT_XPORTm_STATUS.DLANE m = lane % 4 :=
  rd_wr_same ((State.setXport_keep ..).wf hwf) (by decide) (by simp [Fld.fits, FPT_XPORTm_STATUS.DLANE, hm])

/-- The links of a fabric port that is to run at x1 move, but in Reset. -/
def State.linkDropped (s : State) (m : Nat) : State := if s.lstate (24 + 4 * m) = 4 then s.showFabric m else s.goDown (24 + 4 * m)

/-- The event of a change of width, where there is one. -/
def State.widthTold (s : State) (m : Nat) (was : Bool) : State := if was then s else s.raise (portSource (24 + 4 * m) 1)

theorem goX1_eq (s : State) (m lane try_ : Nat) :
    s.goX1 m lane try_ = ((s.narrowed m lane try_).linkDropped m).widthTold m (s.xport m).x1 := rfl

theorem xportOf_subport (m : Nat) {j : Nat} (hj : j < 4) : (24 + 4 * m + j - 24) / 4 = m := by omega

theorem goDown_fabric_writes (s : State) (m : Nat) {j : Nat} (hj : j < 4) : Writes (fabricFields m) s (s.goDown (24 + 4 * m + j)) := by
  have h := goDown_writes (s := s) (n := 24 + 4 * m + j) (by omega)
  rwa [xportOf_subport m hj] at h

theorem linkDropped_writes (s : State) (m : Nat) : Writes (fabricFields m) s (s.linkDropped m) :=
  .ite (fun _ => showFabric_writes ..) fun _ => goDown_fabric_writes s m (j := 0) (by decide)

theorem linkDropped_ports (s : State) (m : Nat) : PortsOnly s (s.linkDropped m) := by
  unfold State.linkDropped
  split
  · exact .of_fpt (fpt_of_keep (State.showFabric_keep ..) rfl)
  · exact goDown_ports (by omega)

theorem linkDropped_lstate {s : State} (hwf : s.wf = true) (m : Nat) :
    (s.linkDropped m).lstate (24 + 4 * m) = if s.lstate (24 + 4 * m) = 4 then 4 else 1 := by
  unfold State.linkDropped
  split
  case isTrue h => rw [lstate_of_fpt (fpt_of_keep (State.showFabric_keep ..) rfl) (by omega), h]
  case isFalse => exact goDown_lstate hwf _

theorem widthTold_writes (l : List (Fld × Nat)) (s : State) (m : Nat) (was : Bool) : Writes l s (s.widthTold m was) :=
  .ite (fun _ => .refl l s) fun _ => raise_writes ..

theorem widthTold_fpt (s : State) (m : Nat) (was : Bool) : (s.widthTold m was).fpt = s.fpt := by
  unfold State.widthTold
  split
  · rfl
  · exact fpt_of_keep (State.raise_keep ..) rfl

/-- The links of a fabric port that goes to x1 change SUB_UP and WIDTH past its DLANE. -/
theorem goX1_writes (s : State) (m lane try_ : Nat) : Writes (fabricFields m) (s.narrowed m lane try_) (s.goX1 m lane try_) := by
  rw [goX1_eq]
  exact (linkDropped_writes ..).trans (widthTold_writes ..)

/-- A fabric port that goes to x1 on a lane goes Down, or stays in Reset. -/
theorem goX1_shows {s : State} (hwf : s.wf = true) {m lane : Nat} (try_ : Nat) (hm : m < 4) :
    (s.goX1 m lane try_).lstate (24 + 4 * m) = (if s.lstate (24 + 4 * m) = 4 then 4 else 1) ∧ ((s.goX1 m lane try_).xport m).x1 = true ∧
    (s.goX1 m lane try_).rd FPT_XPORTm_STATUS.DLANE m = lane % 4 := by
  have hn := narrowed_wf hwf m lane try_
  refine ⟨?_, ?_, ?_⟩
  · rw [goX1_eq, lstate_of_fpt (widthTold_fpt ..) (by omega), linkDropped_lstate hn, narrowed_lstate _ _ _ _ (by omega)]
  · rw [goX1_eq, State.xport, widthTold_fpt, ← State.xport, (linkDropped_ports ..).xport, narrowed_x1]
  · rw [rd_of_fabricFields (goX1_writes s m lane try_) hn rfl hm (by decide) (by decide), narrowed_dlane hwf hm]

/-- The lane of a degrade command is stored. -/
def State.laneStored (s : State) (m lane : Nat) : State := s.wr FPT_XPORTm_DEGRADE.LANE lane m

theorem laneStored_split {s : State} (hwf : s.wf = true) (m lane : Nat) :
    (s.laneStored m lane).on FPT_XPORTm_CFG.SPLIT m = s.on FPT_XPORTm_CFG.SPLIT m :=
  on_of_rd (rd_wr_addr hwf (xport_cfg_addr m rfl (by decide)))

theorem laneStored_lstate (s : State) (m lane : Nat) {n : Nat} (hn : 24 ≤ n) : (s.laneStored m lane).lstate n = s.lstate n :=
  lstate_of_fpt (fpt_wr ..) hn

theorem exec_fabricDegrade {s : State} (hwf : s.wf = true) {m : Nat} (lane : Nat) (hm : m < 4)
    (hsplit : s.on FPT_XPORTm_CFG.SPLIT m = false) (hst : s.lstate (24 + 4 * m) ≠ 0) :
    exec (.fabricDegrade m lane) s = .next ((s.laneStored m lane).goX1 m (lane % 4) 0) :=
  (if_neg (by omega)).trans (if_neg (by
    rw [← State.laneStored, laneStored_split hwf, hsplit, laneStored_lstate s m lane (by omega)]
    simpa using hst))

theorem exec_fabricDegrade_split {s : State} (hwf : s.wf = true) {m : Nat} (lane : Nat) (hm : m < 4)
    (hsplit : s.on FPT_XPORTm_CFG.SPLIT m = true) : exec (.fabricDegrade m lane) s = .next (s.laneStored m lane) :=
  (if_neg (by omega)).trans (if_pos (by
    rw [← State.laneStored, laneStored_split hwf, hsplit]
    simp))

theorem fabricDegrade_shows {s : State} (hwf : s.wf = true) {m : Nat} (lane : Nat) (hm : m < 4) :
    ((s.laneStored m lane).goX1 m (lane % 4) 0).lstate (24 + 4 * m) = (if s.lstate (24 + 4 * m) = 4 then 4 else 1) ∧
    (((s.laneStored m lane).goX1 m (lane % 4) 0).xport m).x1 = true ∧
    ((s.laneStored m lane).goX1 m (lane % 4) 0).rd FPT_XPORTm_STATUS.DLANE m = lane % 4 := by
  obtain ⟨hst, hx1, hlane⟩ := goX1_shows (s := s.laneStored m lane) (lane := lane % 4) (wr_wf hwf ..) 0 hm
  rw [laneStored_lstate s m lane (by omega)] at hst
  exact ⟨hst, hx1, hlane.trans (Nat.mod_mod ..)⟩

theorem exec_fabricRestore_failed {s : State} {m : Nat} (hm : m < 4) (hsplit : s.on FPT_XPORTm_CFG.SPLIT m = false)
    (hst : s.lstate (24 + 4 * m) ≠ 0) (hx1 : (s.xport m).x1 = true) :
    exec (.fabricRestore m false) s = .next (s.goDown (24 + 4 * m)) := if_neg (by simp [hm, hsplit, hst, hx1])

theorem exec_fabricRestore {s : State} {m : Nat} (hm : m < 4) (hsplit : s.on FPT_XPORTm_CFG.SPLIT m = false)
    (hst : s.lstate (24 + 4 * m) ≠ 0) (hx1 : (s.xport m).x1 = true) : exec (.fabricRestore m true) s =
      .next (((s.setXport m { s.xport m with x1 := false, tryLane := 0 }).goDown (24 + 4 * m)).raise (portSource (24 + 4 * m) 1)) :=
  if_neg (by simp [hm, hsplit, hst, hx1])

/-! ### The loss of a lane -/

/-- The loss of a lane shows and is told. -/
def State.laneGone (s : State) (m lane : Nat) : State :=
  (s.wr FPT_XPORTm_STATUS.LANE_OK (setBit (s.rd FPT_XPORTm_STATUS.LANE_OK m) lane false) m).raise (portSource (24 + 4 * m) 1)

/-- The sub-ports whose links the loss of a lane takes. -/
def State.laneHits (s : State) (m lane : Nat) : List Nat :=
  (List.range 4).filter (fun j => s.lstate (24 + 4 * m + j) != 0 && s.lstate (24 + 4 * m + j) != 1 &&
    (s.lanesOf (24 + 4 * m + j)).contains lane)

/-- Sub-ports of a fabric port go Down. -/
def State.subportsDown (s : State) (m : Nat) (js : List Nat) : State := forEach js (fun j u => u.goDown (24 + 4 * m + j)) s

/-- A lane is lost and the links on it are Down. -/
def State.laneLost (s : State) (m lane : Nat) : State := (s.laneGone m lane).subportsDown m ((s.laneGone m lane).laneHits m lane)

theorem laneHits_lt {s : State} {m lane j : Nat} (h : j ∈ s.laneHits m lane) : j < 4 := List.mem_range.1 (List.mem_filter.1 h).1

theorem subportsDown_writes (s : State) (m : Nat) {js : List Nat} (hjs : ∀ j ∈ js, j < 4) :
    Writes (fabricFields m) s (s.subportsDown m js) := .forEach (fun j hj u => goDown_fabric_writes u m (hjs j hj)) s

theorem subportsDown_ports (s : State) (m : Nat) (js : List Nat) : PortsOnly s (s.subportsDown m js) :=
  .forEach (fun _ _ => goDown_ports (by omega)) s

/-- Of the links that are not Disabled each stays as it was or is Down. -/
def Drops (s t : State) : Prop := ∀ k, 24 ≤ k → s.lstate k ≠ 0 → t.lstate k = s.lstate k ∨ t.lstate k = 1

theorem Drops.trans {s t u : State} (h1 : Drops s t) (h2 : Drops t u) : Drops s u := by
  intro k hk hst
  rcases h1 k hk hst with h | h
  · exact h ▸ h2 k hk (h ▸ hst)
  · exact .inr ((h2 k hk (by omega)).elim (·.trans h) id)

theorem goDown_drops {s : State} (hwf : s.wf = true) {n : Nat} (hn : 24 ≤ n) (hst : s.lstate n ≠ 0) : Drops s (s.goDown n) := by
  intro k hk _
  by_cases h : k = n
  · exact .inr (h ▸ goDown_lstate hwf k)
  · exact .inl (goDown_lstate_other hn hk h hst)

theorem subportsDown_drops {m : Nat} (js : List Nat) {s : State} (hwf : s.wf = true) (hjs : ∀ j ∈ js, s.lstate (24 + 4 * m + j) ≠ 0) :
    Drops s (s.subportsDown m js) := by
  induction js generalizing s with
  | nil => exact fun _ _ _ => .inl rfl
  | cons j js ih =>
    have hdrop : Drops s (s.goDown (24 + 4 * m + j)) := goDown_drops hwf (by omega) (hjs j (by simp))
    refine hdrop.trans (ih ((State.goDown_keep ..).wf hwf) fun i hi => ?_)
    have hi := hjs i (by simp [hi])
    rcases hdrop _ (by omega) hi with h | h
    · exact h ▸ hi
    · omega

theorem laneGone_wf {s : State} (hwf : s.wf = true) (m lane : Nat) : (s.laneGone m lane).wf = true :=
  (State.raise_keep ..).wf (wr_wf hwf ..)

theorem laneGone_fpt (s : State) (m lane : Nat) : (s.laneGone m lane).fpt = s.fpt :=
  (fpt_of_keep (State.raise_keep ..) rfl).trans (fpt_wr ..)

theorem laneGone_writes (s : State) (m lane : Nat) : Writes [(FPT_XPORTm_STATUS.LANE_OK, m)] s (s.laneGone m lane) :=
  (Writes.wr s _ m (by decide) (by simp)).trans (raise_writes ..)

theorem laneLost_wf {s : State} (hwf : s.wf = true) (m lane : Nat) : (s.laneLost m lane).wf = true :=
  (subportsDown_writes _ m fun _ => laneHits_lt).wf (laneGone_wf hwf m lane)

theorem laneLost_xport (s : State) (m lane : Nat) : (s.laneLost m lane).xport m = s.xport m := by
  rw [State.laneLost, (subportsDown_ports ..).xport, State.xport, laneGone_fpt, State.xport]

theorem laneLost_laneOk {s : State} (hwf : s.wf = true) {m : Nat} (lane : Nat) (hm : m < 4) :
    (s.laneLost m lane).rd FPT_XPORTm_STATUS.LANE_OK m = setBit (s.rd FPT_XPORTm_STATUS.LANE_OK m) lane false % 2 ^ 4 := by
  have hshown : (s.laneGone m lane).rd FPT_XPORTm_STATUS.LANE_OK m = setBit (s.rd FPT_XPORTm_STATUS.LANE_OK m) lane false % 2 ^ 4 := by
    rw [State.laneGone, (raise_writes [] ..).rd (wr_wf hwf ..) (isPortReg_addr rfl hm) (by simp)]
    exact rd_wr_same hwf (by decide) (by simp [Fld.fits, FPT_XPORTm_STATUS.LANE_OK, hm])
  rw [State.laneLost, rd_of_fabricFields (subportsDown_writes _ m fun _ => laneHits_lt) (laneGone_wf hwf m lane) rfl hm (by decide)
    (by decide), hshown]

/-- The settings of a fabric port are in no register that the loss of a lane writes. -/
theorem laneLost_cfg {s : State} (hwf : s.wf = true) {m : Nat} (lane : Nat) {f : Fld} (hf : f.inPorts = true) (hm : m < f.n1)
    (hs : f.s1 = 0x100) (hb : f.base = 0x83000) : (s.laneLost m lane).on f m = s.on f m := by
  have haddr (g : Fld) (hg : g.s1 = 0x100) (hgb : g.base ≠ 0x83000) : f.apart m (g, m) :=
    .inl (xport_cfg_addr m (hs.trans hg.symm) (by rw [hb]; exact hgb.symm))
  have hgone : (s.laneGone m lane).rd f m = s.rd f m :=
    (laneGone_writes s m lane).rd hwf (isPortReg_addr hf hm) (by simpa using haddr FPT_XPORTm_STATUS.LANE_OK rfl (by decide))
  refine on_of_rd (Eq.trans ?_ hgone)
  refine (subportsDown_writes _ m fun _ => laneHits_lt).rd (laneGone_wf hwf m lane) (isPortReg_addr hf hm) ?_
  simp only [fabricFields, List.forall_mem_cons, List.not_mem_nil, false_implies, implies_true, and_true]
  exact ⟨haddr _ rfl (by decide), haddr _ rfl (by decide)⟩

theorem exec_fabricLaneLost_stays {s : State} (hwf : s.wf = true) {m lane : Nat} (hm : m < 4) (hlane : lane < 4)
    (hauto : s.on FPT_XPORTm_CFG.AUTO_DEGRADE m = false) : exec (.fabricLaneLost m lane) s = .next (s.laneLost m lane) := by
  have hauto' := (laneLost_cfg hwf (f := FPT_XPORTm_CFG.AUTO_DEGRADE) lane rfl hm rfl rfl).trans hauto
  exact (if_neg (by simp; omega)).trans (if_pos (by
    change (_ || !(s.laneLost m lane).on FPT_XPORTm_CFG.AUTO_DEGRADE m || _ || _) = true
    simp [hauto']))

/-- The loss of lane 0 leaves lane 1 the first healthy one, and that of another leaves lane 0. -/
theorem laneLost_healthy {s : State} (hwf : s.wf = true) {m lane : Nat} (hm : m < 4) (hlane : lane < 4)
    (hok : s.rd FPT_XPORTm_STATUS.LANE_OK m = 15) : ∃ l, (s.laneLost m lane).healthy m = (if lane = 0 then 1 else 0) :: l := by
  rw [State.healthy, laneLost_laneOk hwf lane hm, hok]
  match lane, hlane with
  | 0, _ => exact ⟨[2, 3], by decide⟩
  | 1, _ => exact ⟨[2, 3], by decide⟩
  | 2, _ => exact ⟨[1, 3], by decide⟩
  | 3, _ => exact ⟨[1, 2], by decide⟩

theorem laneGone_lstate (s : State) (m lane : Nat) {n : Nat} (hn : 24 ≤ n) : (s.laneGone m lane).lstate n = s.lstate n :=
  lstate_of_fpt (laneGone_fpt s m lane) hn

theorem laneLost_lstate {s : State} (hwf : s.wf = true) {m : Nat} (lane : Nat) (hst : s.lstate (24 + 4 * m) = 3) :
    (s.laneLost m lane).lstate (24 + 4 * m) = 3 ∨ (s.laneLost m lane).lstate (24 + 4 * m) = 1 := by
  have hgone := (laneGone_lstate s m lane (n := 24 + 4 * m) (by omega)).trans hst
  have hhits : ∀ j ∈ (s.laneGone m lane).laneHits m lane, (s.laneGone m lane).lstate (24 + 4 * m + j) ≠ 0 := by
    intro j hj
    have hmet := (List.mem_filter.1 hj).2
    simp only [Bool.and_eq_true, bne_iff_ne] at hmet
    exact hmet.1.1
  have hdrop := subportsDown_drops _ (laneGone_wf hwf m lane) hhits (24 + 4 * m) (by omega) (by omega)
  rwa [hgone] at hdrop

/-- A fabric port that is not split and runs at x4 uses every lane. -/
theorem lanesOf_x4 {s : State} {m : Nat} (hsplit : s.on FPT_XPORTm_CFG.SPLIT m = false) (hx4 : (s.xport m).x1 = false) :
    s.lanesOf (24 + 4 * m) = [0, 1, 2, 3] := by
  have hm : (24 + 4 * m - 24) / 4 = m := by omega
  rw [State.lanesOf, hm, hsplit, hx4]
  rfl

theorem exec_fabricLaneLost_degrades {s : State} (hwf : s.wf = true) {m lane l : Nat} {ls : List Nat} (hm : m < 4) (hlane : lane < 4)
    (hst : s.lstate (24 + 4 * m) = 3) (hsplit : s.on FPT_XPORTm_CFG.SPLIT m = false) (hx4 : (s.xport m).x1 = false)
    (hauto : s.on FPT_XPORTm_CFG.AUTO_DEGRADE m = true) (hhealthy : (s.laneLost m lane).healthy m = l :: ls) :
    exec (.fabricLaneLost m lane) s = .next ((s.laneLost m lane).goX1 m l (l + 1)) := by
  have hauto' := (laneLost_cfg hwf (f := FPT_XPORTm_CFG.AUTO_DEGRADE) lane rfl hm rfl rfl).trans hauto
  have hsplit' := (laneLost_cfg hwf (f := FPT_XPORTm_CFG.SPLIT) lane rfl hm rfl rfl).trans hsplit
  have hlanes := lanesOf_x4 hsplit' ((congrArg XportSt.x1 (laneLost_xport s m lane)).trans hx4)
  have hused : [0, 1, 2, 3].contains lane = true := by
    simp only [List.contains_iff_mem, List.mem_cons, List.not_mem_nil, or_false]
    omega
  have hst' : (s.laneLost m lane).lstate (24 + 4 * m) ≠ 0 := by
    have := laneLost_lstate hwf lane hst
    omega
  have hgoes : ((s.laneLost m lane).on FPT_XPORTm_CFG.SPLIT m || !(s.laneLost m lane).on FPT_XPORTm_CFG.AUTO_DEGRADE m ||
      decide ((s.laneLost m lane).lstate (24 + 4 * m) = 0) || !((s.laneLost m lane).lanesOf (24 + 4 * m)).contains lane) = false := by
    rw [hsplit', hauto', hlanes, hused]
    simpa using hst'
  change execFabricLaneLost m lane s = _
  rw [execFabricLaneLost, if_neg (by simp; omega)]
  refine (if_neg (Bool.eq_false_iff.1 hgoes)).trans ?_
  split
  case h_1 hnone => cases hnone.symm.trans hhealthy
  case h_2 hsome =>
    cases hsome.symm.trans hhealthy
    rfl

theorem goX1_laneOk {s : State} (hwf : s.wf = true) {m : Nat} (lane try_ : Nat) (hm : m < 4) :
    (s.goX1 m lane try_).rd FPT_XPORTm_STATUS.LANE_OK m = s.rd FPT_XPORTm_STATUS.LANE_OK m := by
  rw [rd_of_fabricFields (goX1_writes s m lane try_) (narrowed_wf hwf m lane try_) rfl hm (by decide) (by decide)]
  exact rd_wr_bits ((State.setXport_keep ..).wf hwf) (by decide) (by decide)

theorem laneLost_bit {s : State} (hwf : s.wf = true) {m lane : Nat} (hm : m < 4) (hlane : lane < 4) :
    bitOf ((s.laneLost m lane).rd FPT_XPORTm_STATUS.LANE_OK m) lane = false := by
  rw [laneLost_laneOk hwf lane hm, bitOf_mod_two_pow _ hlane, bitOf_setBit]

theorem fabricLaneLost_does {s : State} (hwf : s.wf = true) {m lane : Nat} (hm : m < 4) (hlane : lane < 4)
    (hok : s.rd FPT_XPORTm_STATUS.LANE_OK m = 15) (hst : s.lstate (24 + 4 * m) = 3) (hsplit : s.on FPT_XPORTm_CFG.SPLIT m = false)
    (hx4 : (s.xport m).x1 = false) (hauto : s.on FPT_XPORTm_CFG.AUTO_DEGRADE m = true) :
    Does (.fabricLaneLost m lane) s (fun t => bitOf (t.rd FPT_XPORTm_STATUS.LANE_OK m) lane = false ∧ t.lstate (24 + 4 * m) = 1 ∧
      (t.xport m).x1 = true ∧ t.rd FPT_XPORTm_STATUS.DLANE m = (if lane = 0 then 1 else 0)) := by
  obtain ⟨ls, hhealthy⟩ := laneLost_healthy hwf hm hlane hok
  have hu := laneLost_wf hwf m lane
  obtain ⟨hdown, hx1, hdlane⟩ := goX1_shows hu (lane := if lane = 0 then 1 else 0) ((if lane = 0 then 1 else 0) + 1) hm
  have hst' := laneLost_lstate hwf lane hst
  refine does_of_exec (exec_fabricLaneLost_degrades hwf hm hlane hst hsplit hx4 hauto hhealthy) ⟨?_, ?_, hx1, ?_⟩
  · rw [goX1_laneOk hu _ _ hm, laneLost_bit hwf hm hlane]
  · rw [hdown, if_neg (by omega)]
  · rw [hdlane]
    split <;> rfl

/-! ### The next lane is tried -/

theorem healthy_advanceTo (s : State) (t m : Nat) : (s.advanceTo t).healthy m = s.healthy m := by
  rw [State.healthy, State.healthy, rd_advanceTo]

/-- At `t` fabric port `m` tries lane `l`. -/
def State.laneTried (s : State) (m l t : Nat) : State :=
  ((s.advanceTo t).setXport m { s.xport m with tryLane := l + 1, trySince := (s.advanceTo t).tick }).wr FPT_XPORTm_STATUS.DLANE l m

theorem exec_fabricDegradeDwell {s : State} {m : Nat} (hm : m < 4) (htry : (s.xport m).tryLane ≠ 0)
    (hup : s.portUp (24 + 4 * m) = false) : exec (.fabricDegradeDwell m) s =
      .next (s.laneTried m (nextIn (s.healthy m) ((s.xport m).tryLane - 1)) ((s.xport m).trySince + 100000000)) := by
  change execFabricDegradeDwell m s = _
  rw [execFabricDegradeDwell]
  dsimp only
  rw [if_neg (by simp [hm, htry, hup]), healthy_advanceTo]
  rfl

theorem laneTried_shows {s : State} (hwf : s.wf = true) {m : Nat} (hm : m < 4) (l t : Nat) : t ≤ (s.laneTried m l t).tick ∧
    ((s.laneTried m l t).xport m).tryLane = l + 1 ∧ (s.laneTried m l t).rd FPT_XPORTm_STATUS.DLANE m = l % 4 := by
  have ha : (s.advanceTo t).wf = true := (State.advanceTo_keep ..).wf hwf
  have hx : ({ s.xport m with tryLane := l + 1, trySince := (s.advanceTo t).tick } : XportSt) ≠ default :=
    ne_of_apply_ne XportSt.tryLane (Nat.succ_ne_zero l)
  have k : Keep 0x20000000010 (s.advanceTo t) (s.laneTried m l t) := ((State.setXport_keep ..).mono rfl).wr .fpt rfl rfl
  refine ⟨(advanceTo_le_tick s t).trans k.tick, ?_, ?_⟩
  · rw [State.laneTried, State.xport, fpt_wr]
    exact congrArg XportSt.tryLane (xport_setXport _ m hx)
  · exact rd_wr_same ((State.setXport_keep ..).wf ha) (by decide) (by simp [Fld.fits, FPT_XPORTm_STATUS.DLANE, hm])

/-! ## Duplicate discard and supervision (R92, R93) -/

/-- When the entry of a source is unused for the window of its pair. -/
def State.ddOver (s : State) (p mac : Nat) : Nat := (tabGet (s.pair p).dd mac).last + 10000 * max 1 (s.rd FPT_PAIRp_DD.WINDOW p)

/-- At `t` the entry of a source is freed. -/
def State.ddFreed (s : State) (p mac t : Nat) : State :=
  ((s.advanceTo t).setPair p { s.pair p with dd := tabSet (s.pair p).dd mac {} }).showDd p

theorem exec_ddEntryExpire {s : State} {p mac : Nat} (hp : p < 12) (hused : (tabGet (s.pair p).dd mac).used = true) :
    exec (.ddEntryExpire p mac) s = .next (s.ddFreed p mac (s.ddOver p mac)) := if_neg (by simp [hp, hused])

theorem ddFreed_tick (s : State) (p mac t : Nat) : t ≤ (s.ddFreed p mac t).tick :=
  (advanceTo_le_tick s t).trans (State.showDd_keep ((s.advanceTo t).setPair p { s.pair p with dd := tabSet (s.pair p).dd mac {} }) p).tick

/-- Pair `p` hands a supervision frame to its ports and starts its timer again. -/
def State.supSent (s : State) (p : Nat) : State :=
  forEach [2 * p, 2 * p + 1] (fun n u => u.startFrame n)
    ((s.setPair p { s.pair p with supFrom := s.tick, supSeq := ((s.pair p).supSeq + 1) % 2 ^ 16 }).sendVia (2 * p)
      { bytes := s.supFrame p } placeHanded)

theorem exec_supervisionTx {s : State} {p : Nat} (hp : p < 12) (hmode : s.pairMode p ≠ 0)
    (hon : s.on FPT_PAIRp_SUP.INTERVAL_MS p = true) : exec (.supervisionTx p) s =
      .next ((s.advanceTo ((s.pair p).supFrom + 1000000 * s.rd FPT_PAIRp_SUP.INTERVAL_MS p)).supSent p) :=
  if_neg (by simp [hp, hmode, hon])

theorem supSent_keep (s : State) (p : Nat) : Keep 0x4000020000000000 s (s.supSent p) := by
  have hsent : Keep 0x4000020000000000 s
      ((s.setPair p { s.pair p with supFrom := s.tick, supSeq := ((s.pair p).supSeq + 1) % 2 ^ 16 }).sendVia (2 * p)
        { bytes := s.supFrame p } placeHanded) := (State.sendVia_keep ..).step ((State.setPair_keep ..).mono rfl) rfl
  exact .forEach hsent fun n u => State.startFrame_keep u n

theorem supSent_shows (s : State) (p t : Nat) : t ≤ ((s.advanceTo t).supSent p).tick ∧ ((s.advanceTo t).supSent p).pins = s.pins ∧
    ((s.advanceTo t).supSent p).fwt = s.fwt ∧ ((s.advanceTo t).supSent p).trp = s.trp := by
  have ka := State.advanceTo_keep s t
  have k := supSent_keep (s.advanceTo t) p
  exact ⟨(advanceTo_le_tick s t).trans k.tick, (k.parts .pins rfl).trans (ka.parts .pins rfl),
    (k.parts .fwt rfl).trans (ka.parts .fwt rfl), (k.parts .trp rfl).trans (ka.parts .trp rfl)⟩

/-- Settles O35: each command from its `exec_` equation, and what the operations on links, pairs and lanes show. -/
theorem portLinkCommands : Obligations.PortLinkCommands := by
  unfold Obligations.PortLinkCommands
  refine ⟨?negotiate, ?lockUp, ?anDone, ?anOver, ?lost, ?resetLow, ?resetHigh, ?boundary, ?hostBoundary, ?ddExpire, ?supervision,
    ?pairReset, ?degrade, ?degradeSplit, ?restoreFailed, ?restored, ?laneLost, ?laneLostStays, ?dwell, ?pairResetDisabled, ?degradeInReset⟩
  case negotiate =>
    intro s n hwf hn hst han
    exact does_of_exec (exec_portLockAcquired_an hwf hn hst han)
      ⟨negotiating_lstate hwf n, negotiating_since, negotiating_sig hwf⟩
  case lockUp =>
    exact fun s n hwf hn hst han => does_of_exec (exec_portLockAcquired_up hwf hn hst han) (comeUp_lstate ((lockSeen_keep s n).wf hwf) n)
  case anDone =>
    exact fun s n speed hwf hn hst => does_of_exec (exec_portAnComplete speed hn hst) (comeUp_lstate (inbandTaken_wf hwf n speed) n)
  case anOver => exact fun s n hwf hn hst => does_of_exec (exec_portAnTimeout hn hst) (anTimeout_shows hwf n _)
  case lost =>
    exact fun s n cause hwf hn hlost => does_of_exec (exec_portLinkLost hn hlost) (goDown_lstate (lossShown_wf hwf n cause) n)
  case resetLow => exact fun s n hwf hn hst => portResetComplete_low_does hwf hn hst
  case resetHigh => exact fun s n h24 hn hst => does_of_exec (exec_portResetComplete_high h24 hn hst) rfl
  case boundary => exact fun s n hn => does_of_exec (if_pos hn) rfl
  case hostBoundary => exact fun s => does_of_exec rfl rfl
  case ddExpire => exact fun s p mac _ hp hused => does_of_exec (exec_ddEntryExpire hp hused) ⟨ddFreed_tick .., rfl⟩
  case supervision => exact fun s p _ hp hmode hon => does_of_exec (exec_supervisionTx hp hmode hon) (supSent_shows s p _)
  case pairReset => exact fun s p hwf hp h => pairReset_does hwf hp h
  case degrade =>
    intro s m lane hwf hm hsplit h0 h4
    have hshown := fabricDegrade_shows hwf lane hm
    rw [if_neg h4] at hshown
    exact does_of_exec (exec_fabricDegrade hwf lane hm hsplit h0) hshown
  case degradeSplit =>
    exact fun s m lane hm hsplit hwf => does_of_exec (exec_fabricDegrade_split hwf lane hm hsplit)
      ⟨fpt_wr .., rd_wr_addr hwf (xport_cfg_addr m rfl (by decide))⟩
  case restoreFailed =>
    exact fun s m hwf hm hsplit h0 hx1 => does_of_exec (exec_fabricRestore_failed hm hsplit h0 hx1)
      ⟨goDown_lstate hwf _, (congrArg XportSt.x1 ((goDown_ports (by omega)).xport m)).trans hx1⟩
  case restored => exact fun s m _ hm hsplit h0 hx1 => does_of_exec (exec_fabricRestore hm hsplit h0 hx1) rfl
  case laneLost =>
    exact fun s m lane hwf hm hlane hok hst hsplit hx4 hauto => fabricLaneLost_does hwf hm hlane hok hst hsplit hx4 hauto
  case laneLostStays =>
    exact fun s m lane hwf hm hlane hauto => does_of_exec (exec_fabricLaneLost_stays hwf hm hlane hauto)
      ⟨laneLost_bit hwf hm hlane, laneLost_xport s m lane⟩
  case dwell =>
    exact fun s m hwf hm htry hup => does_of_exec (exec_fabricDegradeDwell hm htry hup) (laneTried_shows hwf hm _ _)
  case pairResetDisabled => exact fun s p hwf hp h0 h1 => pairReset_disabled_does hwf hp h0 h1
  case degradeInReset =>
    intro s m lane hwf hm hsplit h4
    have hshown := fabricDegrade_shows hwf lane hm
    rw [if_pos h4] at hshown
    exact does_of_exec (exec_fabricDegrade hwf lane hm hsplit (by omega)) hshown

end Sys2Proof.Machine

/-!
The trap limiters, the consumer index of a trap ring, and the shapers.
-/
namespace Sys2Proof.Machine

/-! ## Tables and the clock -/

/-- In any table, canonical or not, a write leaves another key as it was if that key lies above the one written or
holds a value that is not the unlisted one. -/
theorem cellGet_cellSet_of_lt_or_ne {α : Type} [DecidableEq α] {d : Nat → α} (t : Tab α) {a b : Nat} (v : α) (hne : b ≠ a)
    (h : a < b ∨ cellGet d t b ≠ d b) : cellGet d (cellSet d t a v) b = cellGet d t b := by
  by_cases hv : v = d a
  case neg => exact cellGet_cellSet_ne_other t hv hne
  case pos =>
    induction t with
    | nil => rw [cellSet, if_pos hv]
    | cons p t ih =>
      obtain ⟨k, w⟩ := p
      rw [cellSet, if_pos hv, if_pos hv]
      rcases lt_trichotomy a k with hak | rfl | hka
      · rw [if_pos hak]
      · have hab : ¬ b < a := fun hba => h.elim (fun hab => absurd hab (by omega)) fun hlisted => hlisted (if_pos hba)
        rw [if_neg (lt_irrefl a), if_pos rfl, cellGet, if_neg hab, if_neg hne]
      · rw [if_neg (by omega), if_neg (by omega), cellGet, cellGet]
        split
        · rfl
        · split
          · rfl
          · next hbk hne' =>
            rw [cellGet, if_neg hbk, if_neg hne'] at h
            exact ih h

theorem tick_lt_nextScan (s : State) {p : Nat} (hp : 0 < p) : s.tick < s.nextScan p :=
  (Nat.lt_mul_div_succ s.tick hp).trans_eq (Nat.mul_comm ..)

theorem tick_advanceTo_nextScan (s : State) {p : Nat} (hp : 0 < p) : (s.advanceTo (s.nextScan p)).tick = s.nextScan p :=
  tick_advanceTo_of_lt (tick_lt_nextScan s hp)

/-! ## The trap limiters (R118) -/

/-- What limiter `k` holds after a refill: its credit and RATE, to at most BURST frames. -/
def State.limiterCredit (s : State) (k : Nat) : Nat :=
  min (tabGet s.ppl.credit k + s.rd PPL_PORTn_LIMr.RATE (k / 4) (k % 4)) (1000 * max 1 (s.rd PPL_PORTn_LIMr.BURST (k / 4) (k % 4)))

def State.refillLimiter (s : State) (k : Nat) : State :=
  { s with ppl := { s.ppl with credit := tabSet s.ppl.credit k (s.limiterCredit k) } }

/-- The limiters of a list refill, one after the other. -/
def State.refillLimiters (s : State) (l : List Nat) : State := forEach l (fun k u => u.refillLimiter k) s

theorem exec_trapLimiterRefill (s : State) : exec .trapLimiterRefill s =
    .next ((s.advanceTo (s.nextScan 1000000)).refillLimiters (List.range 160)) := rfl

/-- What the refill of each limiter leaves alone, the refill of all of them does. -/
theorem refillLimiters_keeps {β : Type} (g : State → β) (h : ∀ u k, g (State.refillLimiter u k) = g u) (s : State) (l : List Nat) :
    g (s.refillLimiters l) = g s := by
  induction l generalizing s with
  | nil => rfl
  | cons k l ih => exact (ih (s.refillLimiter k)).trans (h s k)

/-- A refill gives limiter `a` its new credit. -/
theorem refillLimiter_credit_same (s : State) {a : Nat} (hv : s.limiterCredit a ≠ 0) :
    tabGet (s.refillLimiter a).ppl.credit a = s.limiterCredit a := cellGet_cellSet_ne _ _ hv

/-- The refill of limiter `a` leaves a later limiter, and any that holds credit, as it was. -/
theorem refillLimiter_credit_other (s : State) {a k : Nat} (hne : k ≠ a) (h : a < k ∨ tabGet s.ppl.credit k ≠ 0) :
    tabGet (s.refillLimiter a).ppl.credit k = tabGet s.ppl.credit k := cellGet_cellSet_of_lt_or_ne _ _ hne h

theorem limiterCredit_refillLimiter (s : State) {a k : Nat} (h : a < k) : (s.refillLimiter a).limiterCredit k = s.limiterCredit k := by
  rw [State.limiterCredit, refillLimiter_credit_other s h.ne' (.inl h)]
  rfl

theorem limiterCredit_advanceTo (s : State) (t k : Nat) : (s.advanceTo t).limiterCredit k = s.limiterCredit k := by
  have hppl : (s.advanceTo t).ppl = s.ppl := (State.advanceTo_keep s t).parts .ppl rfl
  rw [State.limiterCredit, hppl, rd_advanceTo, rd_advanceTo, State.limiterCredit]

/-- Credit that a limiter holds stays while others refill. -/
theorem refillLimiters_credit_other {k : Nat} (l : List Nat) {s : State} (hk : k ∉ l) (h : tabGet s.ppl.credit k ≠ 0) :
    tabGet (s.refillLimiters l).ppl.credit k = tabGet s.ppl.credit k := by
  induction l generalizing s with
  | nil => rfl
  | cons a l ih =>
    obtain ⟨hka, hkl⟩ := not_or.1 (mt List.mem_cons.2 hk)
    have ha := refillLimiter_credit_other s hka (.inr h)
    exact (ih hkl (ha.trans_ne h)).trans ha

/-- Limiters that refill in ascending order each take their new credit; the ascending order makes this hold in any table, canonical or
not. -/
theorem refillLimiters_credit {k : Nat} {l : List Nat} (hl : l.Pairwise (· < ·)) {s : State} (hk : k ∈ l)
    (hv : s.limiterCredit k ≠ 0) :
    tabGet (s.refillLimiters l).ppl.credit k = s.limiterCredit k := by
  induction l generalizing s with
  | nil => cases hk
  | cons a l ih =>
    obtain ⟨habove, htail⟩ := List.pairwise_cons.1 hl
    rcases List.mem_cons.1 hk with rfl | hkl
    · have hsame := refillLimiter_credit_same s hv
      exact (refillLimiters_credit_other l (fun hkl => lt_irrefl k (habove k hkl)) (hsame.trans_ne hv)).trans hsame
    · have hcredit := limiterCredit_refillLimiter s (habove k hkl)
      exact (ih htail hkl (hcredit.trans_ne hv)).trans hcredit

theorem trapLimiterRefill_does (s : State) : Does .trapLimiterRefill s (fun t => s.tick < t.tick ∧ t.tick = s.nextScan 1000000 ∧
    t.regs = s.regs ∧ t.sch = s.sch ∧ ∀ k v, k < 160 → v = s.limiterCredit k → v ≠ 0 → tabGet t.ppl.credit k = v) := by
  have htick := (refillLimiters_keeps State.tick (fun _ _ => rfl) _ (List.range 160)).trans
    (tick_advanceTo_nextScan s (p := 1000000) (by decide))
  have hsch := (State.advanceTo_keep s (s.nextScan 1000000)).parts .sch rfl
  refine does_of_exec (exec_trapLimiterRefill s) ⟨(tick_lt_nextScan s (by decide)).trans_eq htick.symm, htick,
    (refillLimiters_keeps State.regs (fun _ _ => rfl) ..).trans (advanceTo_regs ..),
    (refillLimiters_keeps State.sch (fun _ _ => rfl) ..).trans hsch, ?_⟩
  intro k v hk hv h0
  have hcredit := limiterCredit_advanceTo s (s.nextScan 1000000) k
  rw [refillLimiters_credit List.pairwise_lt_range (List.mem_range.2 hk) (by rwa [hcredit, ← hv]), hcredit, hv]

/-! ## The consumer index of a trap ring (R120) -/

/-- How far `val` lies ahead of PROD of trap ring `r`, as 32-bit indices. -/
def State.aheadOfProd (s : State) (r : Nat) (val : Word) : Nat := (val.toNat + 2 ^ 32 - s.rd PPL_TRAPr_PROD.PROD r) % 2 ^ 32

theorem exec_trapConsWrite_taken {s : State} {r : Nat} {val : Word} (hr : r < 8)
    (h : s.aheadOfProd r val = 0 ∨ 2 ^ 31 ≤ s.aheadOfProd r val) :
    exec (.trapConsWrite r val) s = .next (s.wr PPL_TRAPr_CONS.CONS val.toNat r) := by
  have hfree : ¬ (s.aheadOfProd r val != 0 && s.aheadOfProd r val < 2 ^ 31) = true := by
    rw [Bool.and_eq_true, bne_iff_ne, decide_eq_true_eq]
    omega
  exact (if_neg (by omega)).trans (if_neg hfree)

theorem exec_trapConsWrite_above {s : State} {r : Nat} {val : Word} (hr : r < 8)
    (h0 : s.aheadOfProd r val ≠ 0) (h : s.aheadOfProd r val < 2 ^ 31) : exec (.trapConsWrite r val) s = .next s.bad := by
  have habove : (s.aheadOfProd r val != 0 && s.aheadOfProd r val < 2 ^ 31) = true := by
    rw [Bool.and_eq_true, bne_iff_ne, decide_eq_true_eq]
    omega
  exact (if_neg (by omega)).trans (if_pos habove)

theorem trapCons_fits {r : Nat} (hr : r < 8) : PPL_TRAPr_CONS.CONS.fits r 0 = true := by simp [Fld.fits, PPL_TRAPr_CONS.CONS, hr]

theorem ppl_wr (s : State) (f : Fld) (v i j : Nat) : (s.wr f v i j).ppl = s.ppl := by
  unfold State.wr
  split <;> rfl

theorem trapCons_written {s : State} (hwf : s.wf = true) {r : Nat} (hr : r < 8) (val : Word) :
    (s.wr PPL_TRAPr_CONS.CONS val.toNat r).rd PPL_TRAPr_CONS.CONS r = val.toNat :=
  (rd_wr_same hwf (by decide) (trapCons_fits hr)).trans (Nat.mod_eq_of_lt val.isLt)

theorem trapCons_bad {s : State} (hwf : s.wf = true) {r : Nat} (hr : r < 8) :
    s.bad.rd PPL_TRAPr_CONS.CONS r = s.rd PPL_TRAPr_CONS.CONS r :=
  (State.bad_keep s).rdIn .ppl hwf rfl (trapCons_fits hr) rfl

/-! ## The shapers (R356) -/

/-- Port `n`, or the host port 40, sends if its wire is free. -/
def State.trySend (s : State) (n : Nat) : State :=
  if n = 40 then s.hostBoundary
  else if (s.pairPorts n).any (fun k => (s.port k).onWire.isSome) then s
  else forEach (s.pairPorts n) (fun k u => u.startFrame k) (s.takeScheduled n)

/-- The ports that have a queue. -/
def State.queuedPorts (s : State) : List Nat := (s.sch.queues.map (fun p => s.qPort p.1)).eraseDups

/-- Every bucket refills, and the ports that have a queue try to send. -/
def State.shapersRefilled (s : State) : State := forEach s.refillAll.queuedPorts (fun n u => u.trySend n) s.refillAll

theorem exec_shaperRefill (s : State) : exec .shaperRefill s = .next (s.advanceTo (s.nextScan 1000)).shapersRefilled := rfl

theorem trySend_keep (s : State) (n : Nat) : Keep 0x5800123400709014 s (s.trySend n) := by
  have hsent : Keep 0x5800123400709014 s (forEach (s.pairPorts n) (fun k u => u.startFrame k) (s.takeScheduled n)) :=
    .forEach ((State.takeScheduled_keep s n).mono rfl) fun k u => (State.startFrame_keep u k).mono rfl
  exact .ite ((State.hostBoundary_keep s).mono rfl) (.ite (.refl _ s) hsent)

theorem shapersRefilled_keep (s : State) : Keep 0x5800123400709014 s s.shapersRefilled :=
  .forEach ((State.refillAll_keep s).mono rfl) fun n u => trySend_keep u n

theorem shapersRefilled_tick (s : State) : s.shapersRefilled.tick = s.tick := (shapersRefilled_keep s).parts .tick rfl

theorem shaperRefill_does (s : State) : Does .shaperRefill s (fun t => s.tick < t.tick ∧ t.tick % 1000 = 0 ∧
    t = (s.advanceTo (s.nextScan 1000)).shapersRefilled) := by
  have htick := (shapersRefilled_tick _).trans (tick_advanceTo_nextScan s (p := 1000) (by decide))
  refine does_of_exec (exec_shaperRefill s) ⟨(tick_lt_nextScan s (by decide)).trans_eq htick.symm, ?_, rfl⟩
  rw [htick]
  exact Nat.mul_mod_left ..

/-- Settles O38: each command from its `exec_` equation, the limiters by the order in which they refill. -/
theorem limiterCommands : Obligations.LimiterCommands := by
  unfold Obligations.LimiterCommands
  refine ⟨?limiters, ?taken, ?above, ?shapers⟩
  case limiters => exact fun s => trapLimiterRefill_does s
  case taken =>
    exact fun s r val hwf hr h => does_of_exec (exec_trapConsWrite_taken hr h) ⟨trapCons_written hwf hr val, ppl_wr ..⟩
  case above =>
    exact fun s r val hwf hr h0 h => does_of_exec (exec_trapConsWrite_above hr h0 h) ⟨trapCons_bad hwf hr, rd_bad_count hwf⟩
  case shapers => exact fun s => shaperRefill_does s

end Sys2Proof.Machine

/-!
The learn queue of the forwarding tables, the ager, and the error FIFO.
-/
namespace Sys2Proof.Machine

/-! ## What waits for the table engine (R133, R140) -/

/-- From `s` to `t` the learn requests that wait, and the command that waits its turn, stay as they are. -/
structure SameWaiting (s t : State) : Prop where
  learn : t.fwt.learn = s.fwt.learn
  cmd : t.fwt.cmd = s.fwt.cmd

theorem SameWaiting.refl (s : State) : SameWaiting s s := ⟨rfl, rfl⟩

theorem SameWaiting.trans {s t u : State} (h1 : SameWaiting s t) (h2 : SameWaiting t u) : SameWaiting s u :=
  ⟨h2.learn.trans h1.learn, h2.cmd.trans h1.cmd⟩

theorem SameWaiting.of_keep {m : Nat} {s t : State} (k : Keep m s t) (hm : m.testBit 43 = false) : SameWaiting s t := by
  have hfwt : t.fwt = s.fwt := k.parts .fwt hm
  exact ⟨by rw [hfwt], by rw [hfwt]⟩

theorem SameWaiting.ite {s t u : State} {c : Prop} [Decidable c] (ht : SameWaiting s t) (hu : SameWaiting s u) :
    SameWaiting s (if c then t else u) := by
  split
  · exact ht
  · exact hu

theorem SameWaiting.forEach {α : Type} {l : List α} {f : α → State → State} (h : ∀ x u, SameWaiting u (f x u)) (s : State) :
    SameWaiting s (forEach l f s) := by
  induction l generalizing s with
  | nil => exact .refl s
  | cons x l ih => exact (h x s).trans (ih (f x s))

/-! ## A slot with bad parity (R127, R137) -/

/-- The slot is cleared and counted. -/
def State.parityCleared (s : State) (t : Nat) (shadow : Bool) (i : Nat) : State :=
  ((s.fwtClear t shadow i).count FWT_Tt_cnt_LO.COUNT t 3).cal 290

/-- The error FIFO becomes `l`. -/
def State.setPerr (s : State) (l : List (Nat × Nat × Nat)) : State := { s with fwt := { s.fwt with perr := l } }

/-- The address of the slot enters the error FIFO, or is counted as lost where the FIFO is full. -/
def State.perrPut (s : State) (t : Nat) (shadow : Bool) (i : Nat) : State :=
  if 16 ≤ s.fwt.perr.length then s.bump FWT_PERR_LOST.COUNT
  else (s.setPerr (s.fwt.perr ++ [(t, b2n shadow, i)])).showPerr

theorem fwtParity_eq (s : State) (t : Nat) (shadow : Bool) (i : Nat) : s.fwtParity t shadow i =
    ((s.parityCleared t shadow i).perrPut t shadow i).raise 179 [i8 t, i8 (b2n shadow), i32 i] := rfl

theorem parityCleared_keep (s : State) (t : Nat) (shadow : Bool) (i : Nat) : Keep 0x100000040e100044 s (s.parityCleared t shadow i) :=
  (State.cal_keep ..).step (((State.fwtClear_keep ..).mono rfl).count .fwt rfl rfl) rfl

theorem SameWaiting.setPerr (s : State) (l : List (Nat × Nat × Nat)) : SameWaiting s (s.setPerr l) := ⟨rfl, rfl⟩

theorem SameWaiting.showPerr (s : State) : SameWaiting s s.showPerr := .of_keep (State.showPerr_keep s) rfl

theorem SameWaiting.perrPut (s : State) (t : Nat) (shadow : Bool) (i : Nat) : SameWaiting s (s.perrPut t shadow i) := by
  have hlost : Keep 0x40 s (s.bump FWT_PERR_LOST.COUNT) := (Keep.refl _ s).bump .fwt rfl rfl
  exact .ite (.of_keep hlost rfl) (.trans (.setPerr s _) (.showPerr _))

theorem SameWaiting.fwtParity (s : State) (t : Nat) (shadow : Bool) (i : Nat) : SameWaiting s (s.fwtParity t shadow i) := by
  rw [fwtParity_eq]
  exact (SameWaiting.of_keep (parityCleared_keep ..) rfl).trans ((SameWaiting.perrPut ..).trans (.of_keep (State.raise_keep ..) rfl))

theorem SameWaiting.fwtScrub (s : State) (t : Nat) (shadow : Bool) (l : List Nat) : SameWaiting s (s.fwtScrub t shadow l).1 :=
  .forEach (fun i u => .fwtParity u t shadow i) s

theorem SameWaiting.fwtLookup (s : State) (t : Nat) (shadow : Bool) (k : Nat) : SameWaiting s (s.fwtLookup t shadow k).1 :=
  .fwtScrub ..

/-! ## The table engine leaves what waits alone (R135, R136, R141) -/

theorem SameWaiting.fwtApply (s : State) (t : Nat) (shadow : Bool) (i v : Nat) : SameWaiting s (s.fwtApply t shadow i v) :=
  .of_keep (State.fwtApply_keep ..) rfl

theorem SameWaiting.fwtClear (s : State) (t : Nat) (shadow : Bool) (i : Nat) : SameWaiting s (s.fwtClear t shadow i) :=
  .of_keep (State.fwtClear_keep ..) rfl

theorem SameWaiting.count (s : State) (f : Fld) (i j n : Nat) : SameWaiting s (s.count f i j n) := by
  unfold State.count State.wr64
  exact .ite ⟨rfl, rfl⟩ (.refl s)

theorem SameWaiting.wr (s : State) (f : Fld) (v i j : Nat) : SameWaiting s (s.wr f v i j) := by
  unfold State.wr
  exact .ite ⟨rfl, rfl⟩ (.refl s)

theorem SameWaiting.raise (s : State) (src : Nat) (items : List Item) (grain at_ : Option Nat) :
    SameWaiting s (s.raise src items grain at_) :=
  .of_keep (State.raise_keep ..) rfl

theorem SameWaiting.cal (s : State) (e n : Nat) (a : CalAttr) : SameWaiting s (s.cal e n a) := .of_keep (State.cal_keep ..) rfl

theorem SameWaiting.moveChain (l : List Nat) (s : State) (t : Nat) (shadow : Bool) : SameWaiting s (s.moveChain t shadow l) := by
  induction l generalizing s with
  | nil => exact .refl s
  | cons dst l ih =>
    cases l with
    | nil => exact .refl s
    | cons src rest =>
      have hscrub : SameWaiting s (s.fwtParityIf t shadow dst) := .ite (.refl s) (.fwtParity ..)
      exact hscrub.trans (.trans (.fwtApply ..) (.trans (.fwtClear ..) (.trans (.count ..) (.trans (.cal ..) (ih _)))))

theorem SameWaiting.fwtPlace (s : State) (t : Nat) (shadow : Bool) (v : Nat) : SameWaiting s (s.fwtPlace t shadow v).1 := by
  unfold State.fwtPlace
  extract_lets slots u pick free w i chains c moved x j
  have hdraw : SameWaiting s w := (SameWaiting.fwtScrub s t shadow slots).trans ⟨rfl, rfl⟩
  split
  · exact hdraw.trans (.fwtApply ..)
  · split
    · exact hdraw
    · exact hdraw.trans ((SameWaiting.moveChain ..).trans (.fwtApply ..))

theorem SameWaiting.fwtPutIn (s : State) (t : Nat) (shadow : Bool) (v : Nat) : SameWaiting s (s.fwtPutIn t shadow v).1 := by
  have hlookup := SameWaiting.fwtLookup s t shadow (fwtKey t v)
  unfold State.fwtPutIn
  extract_lets p
  split
  case h_1 => exact hlookup.trans (.fwtApply ..)
  case h_2 =>
    have hplace := hlookup.trans (SameWaiting.fwtPlace p.1 t shadow v)
    split
    case h_1 u i l hput =>
      rw [hput] at hplace
      exact hplace.trans (.count ..)
    case h_2 u l hput =>
      rw [hput] at hplace
      have hfull := hplace.trans ((SameWaiting.count u FWT_Tt_cnt_LO.COUNT t 1 1).trans
        ((SameWaiting.wr _ FWT_Tt_STATUS.REHASH_REQ 1 t 0).trans (.raise _ (176 + t) [] none none)))
      exact .ite (hfull.trans (.wr ..)) hfull

theorem SameWaiting.fwtPut (s : State) (t : Nat) (shadow : Bool) (v : Nat) : SameWaiting s (s.fwtPut t shadow v).1 :=
  have hput := SameWaiting.fwtPutIn s t shadow v
  .ite (hput.trans (.forEach (fun e u => .fwtPutIn u t true e) _)) hput

theorem SameWaiting.fwtMirrorPut (s : State) (t v : Nat) : SameWaiting s (s.fwtMirrorPut t v) := .ite (.fwtPut ..) (.refl s)

theorem SameWaiting.fwtDelete (s : State) (t : Nat) (shadow : Bool) (k : Nat) : SameWaiting s (s.fwtDelete t shadow k).1 := by
  have hlookup := SameWaiting.fwtLookup s t shadow k
  unfold State.fwtDelete
  extract_lets p
  split
  · exact hlookup.trans ((SameWaiting.fwtClear ..).trans (.count ..))
  · exact hlookup

theorem SameWaiting.fwtMirrorDelete (s : State) (t k : Nat) : SameWaiting s (s.fwtMirrorDelete t k) := .ite (.fwtDelete ..) (.refl s)

theorem SameWaiting.cmdResult (s : State) (t r i : Nat) : SameWaiting s (s.cmdResult t r i) := .of_keep (State.cmdResult_keep ..) rfl

theorem SameWaiting.fwtInsert (s : State) (t bank v : Nat) : SameWaiting s (s.fwtInsert t bank v) := by
  have hput := SameWaiting.fwtPut s t (bank != 0) v
  unfold State.fwtInsert
  refine .ite (.cmdResult ..) ?_
  split
  case h_1 u i rep h =>
    rw [h] at hput
    exact hput.trans ((SameWaiting.ite (.fwtMirrorPut ..) (.refl u)).trans (.cmdResult ..))
  case h_2 u h =>
    rw [h] at hput
    exact hput.trans (.cmdResult ..)

theorem SameWaiting.fwtRemove (s : State) (t bank v : Nat) : SameWaiting s (s.fwtRemove t bank v) := by
  have hdelete := SameWaiting.fwtDelete s t (bank != 0) (fwtKey t v)
  unfold State.fwtRemove
  extract_lets k
  split
  case h_1 u i h =>
    rw [h] at hdelete
    exact hdelete.trans ((SameWaiting.ite (.fwtMirrorDelete ..) (.refl u)).trans (.cmdResult ..))
  case h_2 u h =>
    rw [h] at hdelete
    exact hdelete.trans (.cmdResult ..)

theorem SameWaiting.fwtCopyBack (s : State) (t bank v : Nat) : SameWaiting s (s.fwtCopyBack t bank v) := by
  have hlookup := SameWaiting.fwtLookup s t (bank != 0) (fwtKey t v)
  unfold State.fwtCopyBack
  split
  case h_1 u i bad h =>
    rw [h] at hlookup
    exact hlookup.trans ((SameWaiting.forEach (fun w x => .wr x ..) u).trans (.cmdResult ..))
  case h_2 u bad h =>
    rw [h] at hlookup
    exact hlookup.trans (.cmdResult ..)

theorem SameWaiting.fwtRun (s : State) (t op bank v : Nat) : SameWaiting s (s.fwtRun t op bank v) := by
  unfold State.fwtRun
  refine .ite (.cmdResult ..) ?_
  split
  · exact .fwtInsert ..
  · exact .fwtRemove ..
  · exact .fwtCopyBack ..

/-! ## One learn request (R133) -/

/-- Does an entry send to the port that the request names, and to that port alone? -/
def LearnReq.agrees (r : LearnReq) (v : Nat) : Bool := l2Type v == 0 && l2Dest v % 64 == r.port

/-- The entry that a request makes of entry `v` of another destination: HIT stays as it was. -/
def LearnReq.moved (r : LearnReq) (v : Nat) : Nat := l2Entry r.vid r.mac r.port + b2n (bitOf v 106) * 2 ^ 106

/-- Entry `i` of the live bank takes the value `v`, and so does the shadow bank while a rebuild is open. -/
def State.relearn (s : State) (i v : Nat) : State := (s.fwtApply 0 false i v).fwtMirrorPut 0 v

/-- A request whose source entry `i` holds. -/
def State.learnFound (s : State) (r : LearnReq) (i : Nat) : State :=
  let v := s.fwtEntry 0 false i
  if l2Static v then if r.agrees v then s else (s.count FWT_L2_cnt_LO.COUNT 3).raise 182
  else if r.agrees v then s.relearn i (l2SetAge v 0)
  else ((s.relearn i (r.moved v)).count FWT_L2_cnt_LO.COUNT 2).raise 180

/-- The lookup of a request's source in the live bank. -/
def State.sourceLookup (s : State) (r : LearnReq) : State × Option Nat × Bool := s.fwtLookup 0 false (l2Key r.vid r.mac)

theorem learnOne_found {s : State} {r : LearnReq} {i : Nat} (h : (s.sourceLookup r).2.1 = some i) :
    s.learnOne r = (s.sourceLookup r).1.learnFound r i := by
  unfold State.sourceLookup at h
  simp only [State.learnOne, h]
  rfl

/-- A request whose source no entry holds. -/
def State.learnNew (s : State) (r : LearnReq) : State :=
  match s.fwtPut 0 false (l2Entry r.vid r.mac r.port) with
  | (u, some _) => (u.count FWT_L2_cnt_LO.COUNT 0).fwtMirrorPut 0 (l2Entry r.vid r.mac r.port)
  | (u, none) => u

theorem learnOne_new {s : State} {r : LearnReq} (h : (s.sourceLookup r).2.1 = none) :
    s.learnOne r = (s.sourceLookup r).1.learnNew r := by
  unfold State.sourceLookup at h
  simp only [State.learnOne, h]
  rfl

theorem SameWaiting.relearn (s : State) (i v : Nat) : SameWaiting s (s.relearn i v) :=
  .trans (.fwtApply ..) (.fwtMirrorPut ..)

theorem SameWaiting.learnFound (s : State) (r : LearnReq) (i : Nat) : SameWaiting s (s.learnFound r i) :=
  .ite (.ite (.refl s) (.trans (.count ..) (.raise ..)))
    (.ite (.relearn ..) (.trans (.relearn ..) (.trans (.count ..) (.raise ..))))

theorem SameWaiting.learnNew (s : State) (r : LearnReq) : SameWaiting s (s.learnNew r) := by
  have hput := SameWaiting.fwtPut s 0 false (l2Entry r.vid r.mac r.port)
  unfold State.learnNew
  split
  case h_1 u x h =>
    rw [h] at hput
    exact hput.trans (.trans (.count ..) (.fwtMirrorPut ..))
  case h_2 u h =>
    rw [h] at hput
    exact hput

theorem SameWaiting.learnOne (s : State) (r : LearnReq) : SameWaiting s (s.learnOne r) := by
  have hlookup : SameWaiting s (s.sourceLookup r).1 := .fwtLookup ..
  cases h : (s.sourceLookup r).2.1 with
  | none => exact learnOne_new h ▸ hlookup.trans (.learnNew ..)
  | some i => exact learnOne_found h ▸ hlookup.trans (.learnFound ..)

/-! ## The turn of a request and of a command (R133, R140) -/

/-- The requests that wait become `l`. -/
def State.setLearn (s : State) (l : List LearnReq) : State := { s with fwt := { s.fwt with learn := l } }

/-- The command that waits becomes `c`. -/
def State.setCmd (s : State) (c : Option (Nat × Nat × Nat × Nat)) : State := { s with fwt := { s.fwt with cmd := c } }

theorem cmdTurn_idle {s : State} (h : s.fwt.cmd = none) : s.cmdTurn = s := by rw [State.cmdTurn, h]

theorem cmdTurn_waits {s : State} {op b v k : Nat} (h : s.fwt.cmd = some (op, b, v, k)) (hk : 1 < k) :
    s.cmdTurn = s.setCmd (some (op, b, v, k - 1)) := by
  rw [State.cmdTurn, h]
  exact if_pos hk

theorem cmdTurn_runs {s : State} {op b v k : Nat} (h : s.fwt.cmd = some (op, b, v, k)) (hk : k ≤ 1) :
    s.cmdTurn = ((s.setCmd none).wr FWT_Tt_CMD_STATUS.BUSY 0 0).fwtRun 0 op b v := by
  rw [State.cmdTurn, h]
  exact if_neg (by omega)

/-- The turn of a command takes no learn request. -/
theorem cmdTurn_learn (s : State) : s.cmdTurn.fwt.learn = s.fwt.learn := by
  rcases h : s.fwt.cmd with _ | ⟨op, b, v, k⟩
  · rw [cmdTurn_idle h]
  · rcases Nat.lt_or_ge 1 k with hk | hk
    · rw [cmdTurn_waits h hk]
      rfl
    · rw [cmdTurn_runs h hk]
      exact (SameWaiting.fwtRun ..).learn.trans (SameWaiting.wr ..).learn

theorem exec_learnRequest (s : State) : exec .learnRequest s = .next s.learnNext := rfl

theorem learnNext_cons {s : State} {r : LearnReq} {l : List LearnReq} (h : s.fwt.learn = r :: l) :
    s.learnNext = ((s.setLearn l).learnOne r).cmdTurn := by
  rw [State.learnNext, h]
  rfl

theorem learnNext_learn {s : State} {r : LearnReq} {l : List LearnReq} (h : s.fwt.learn = r :: l) : s.learnNext.fwt.learn = l := by
  rw [learnNext_cons h, cmdTurn_learn]
  exact (SameWaiting.learnOne ..).learn

/-- A request is served alone while no command waits. -/
theorem learnNext_idle {s : State} {r : LearnReq} {l : List LearnReq} (h : s.fwt.learn = r :: l) (hcmd : s.fwt.cmd = none) :
    s.learnNext = (s.setLearn l).learnOne r := by
  rw [learnNext_cons h]
  exact cmdTurn_idle ((SameWaiting.learnOne ..).cmd.trans hcmd)

theorem learnNext_cmd {s : State} {r : LearnReq} {l : List LearnReq} {c : Option (Nat × Nat × Nat × Nat)} (hcmd : s.fwt.cmd = c) :
    ((s.setLearn l).learnOne r).fwt.cmd = c :=
  (SameWaiting.learnOne ..).cmd.trans hcmd

/-! ## LEARN_REQUEST -/

/-- A source that a static entry gives another destination: counted and told, and no entry changes. -/
theorem learnRefused_shows {u : State} (hwf : u.wf = true) :
    u.told 182 < ((u.count FWT_L2_cnt_LO.COUNT 3).raise 182).told 182 ∧
    ((u.count FWT_L2_cnt_LO.COUNT 3).raise 182).rd64 FWT_L2_cnt_LO.COUNT 3 = (u.rd64 FWT_L2_cnt_LO.COUNT 3 + 1) % 2 ^ 64 ∧
    ((u.count FWT_L2_cnt_LO.COUNT 3).raise 182).winLive = u.winLive := by
  have hcount : Keep 0x40 u (u.count FWT_L2_cnt_LO.COUNT 3) := (Keep.refl _ u).count .fwt rfl rfl
  have hraise := State.raise_keep (u.count FWT_L2_cnt_LO.COUNT 3) 182 [] none none
  refine ⟨(told_of_evt (hcount.parts .evt rfl) 182).symm.trans_lt (told_lt_raise ..), ?_,
    (hraise.parts .winLive rfl).trans (hcount.parts .winLive rfl)⟩
  rw [rd64_of_reg (hraise.regs (hcount.wf hwf) _ rfl) (hraise.regs (hcount.wf hwf) _ rfl)]
  exact rd64_count_same hwf rfl

theorem learnRequest_found_does {s : State} {r : LearnReq} {l : List LearnReq} {u : State} {i : Nat} (hcmd : s.fwt.cmd = none)
    (hwf : s.wf = true) (hlearn : s.fwt.learn = r :: l) (hu : u = ((s.setLearn l).sourceLookup r).1)
    (hi : ((s.setLearn l).sourceLookup r).2.1 = some i) : Does .learnRequest s (fun t =>
      let v := u.fwtEntry 0 false i
      let same := r.agrees v
      (l2Static v = true → same = true → t = u) ∧
      (l2Static v = true → same = false → u.told 182 < t.told 182 ∧
        t.rd64 FWT_L2_cnt_LO.COUNT 3 = (u.rd64 FWT_L2_cnt_LO.COUNT 3 + 1) % 2 ^ 64 ∧ t.winLive = u.winLive) ∧
      (l2Static v = false → same = true → t = u.relearn i (l2SetAge v 0)) ∧
      (l2Static v = false → same = false → ∃ w, w = r.moved v ∧
        t = ((u.relearn i w).count FWT_L2_cnt_LO.COUNT 2).raise 180)) := by
  refine does_of_exec (exec_learnRequest s) ?_
  rw [learnNext_idle hlearn hcmd, learnOne_found hi, ← hu, State.learnFound]
  have huwf : u.wf = true := hu ▸ (State.fwtLookup_keep ..).wf hwf
  extract_lets v same
  refine ⟨fun hstatic hsame => ?_, fun hstatic hsame => ?_, fun hstatic hsame => ?_, fun hstatic hsame => ?_⟩
  · rw [if_pos hstatic, if_pos hsame]
  · rw [if_pos hstatic, if_neg (ne_true_of_eq_false hsame)]
    exact learnRefused_shows huwf
  · rw [if_neg (ne_true_of_eq_false hstatic), if_pos hsame]
  · rw [if_neg (ne_true_of_eq_false hstatic), if_neg (ne_true_of_eq_false hsame)]
    exact ⟨_, rfl, rfl⟩

theorem learnRequest_new_does {s : State} {r : LearnReq} {l : List LearnReq} (hcmd : s.fwt.cmd = none)
    (hlearn : s.fwt.learn = r :: l) (hnew : ((s.setLearn l).sourceLookup r).2.1 = none) :
    Does .learnRequest s (fun t => t = ((s.setLearn l).sourceLookup r).1.learnNew r) :=
  does_of_exec (exec_learnRequest s) ((learnNext_idle hlearn hcmd).trans (learnOne_new hnew))

theorem learnRequest_turn_does {s : State} {r : LearnReq} {l : List LearnReq} {op b v k : Nat} (hlearn : s.fwt.learn = r :: l)
    (hcmd : s.fwt.cmd = some (op, b, v, k)) : Does .learnRequest s (fun t => ∃ u, u = (s.setLearn l).learnOne r ∧
      (1 < k → t = u.setCmd (some (op, b, v, k - 1))) ∧
      (k ≤ 1 → t = ((u.setCmd none).wr FWT_Tt_CMD_STATUS.BUSY 0 0).fwtRun 0 op b v)) :=
  have hwaits := learnNext_cmd (r := r) (l := l) hcmd
  does_of_exec (exec_learnRequest s) ⟨_, rfl, fun hk => (learnNext_cons hlearn).trans (cmdTurn_waits hwaits hk),
    fun hk => (learnNext_cons hlearn).trans (cmdTurn_runs hwaits hk)⟩

/-! ## AGER_PASS (R135) -/

/-- The engine serves as many requests as `l` is long. -/
def State.served (s : State) (l : List LearnReq) : State := forEach l (fun _ u => u.learnNext) s

theorem served_all {s : State} {l : List LearnReq} (h : s.fwt.learn = l) : (s.served l).fwt.learn = [] := by
  induction l generalizing s with
  | nil => exact h
  | cons r l ih => exact ih (learnNext_learn h)

theorem served_tick (s : State) (l : List LearnReq) : s.tick ≤ (s.served l).tick :=
  (Keep.forEach (Keep.refl _ s) fun _ u => State.learnNext_keep u).tick

/-- Ticks between two passes of the ager. -/
def State.agePeriod (s : State) : Nat := s.rd FWT_CFG.AGE_S * nsPerSec / 3

theorem agePeriod_pos {s : State} (h : s.rd FWT_CFG.AGE_S ≠ 0) : 0 < s.agePeriod := by
  rw [State.agePeriod, nsPerSec]
  omega

/-- The state in which a pass begins: its time has come, and every request that came before it is served. -/
def State.beforePass (s : State) : State := (s.advanceTo (s.nextScan s.agePeriod)).served s.fwt.learn

/-- Each listed entry of the live L2 bank ages once. -/
def State.aged (s : State) : State := forEach (s.fwtListed 0 false) (fun i u => u.ageOne i) s

theorem exec_agerPass {s : State} (h : s.rd FWT_CFG.AGE_S ≠ 0) : exec .agerPass s = .next s.beforePass.aged := if_neg h

theorem exec_agerPass_off {s : State} (h : s.rd FWT_CFG.AGE_S = 0) : exec .agerPass s = .next s := if_pos h

theorem beforePass_learn (s : State) : s.beforePass.fwt.learn = [] :=
  served_all (SameWaiting.of_keep (State.advanceTo_keep ..) rfl).learn

theorem tick_lt_beforePass {s : State} (h : s.rd FWT_CFG.AGE_S ≠ 0) : s.tick < s.beforePass.tick := by
  have hscan := tick_advanceTo_nextScan s (agePeriod_pos h)
  exact (tick_lt_nextScan s (agePeriod_pos h)).trans_le (hscan.symm.trans_le (served_tick ..))

theorem aged_tick (s : State) : s.tick ≤ s.aged.tick := (Keep.forEach (Keep.refl _ s) fun i u => State.ageOne_keep u i).tick

theorem agerPass_does {s : State} (h : s.rd FWT_CFG.AGE_S ≠ 0) : Does .agerPass s (fun t => s.tick < t.tick ∧
    ∃ u, u = s.beforePass ∧ u.fwt.learn = [] ∧ t = u.aged) :=
  does_of_exec (exec_agerPass h) ⟨(tick_lt_beforePass h).trans_le (aged_tick _), _, rfl, beforePass_learn s, rfl⟩

/-! ## FWT_PERR_POP (R137) -/

/-- The oldest address of the error FIFO is answered and leaves it. -/
def State.perrTaken (s : State) : State := (s.answer (s.reg FWT_PERR.VALID.base).toNat).setPerr s.fwt.perr.tail

theorem exec_fwtPerrPop (s : State) : exec .fwtPerrPop s = .next s.perrTaken.showPerr := rfl

theorem fwtPerrPop_does (s : State) : Does .fwtPerrPop s (fun t => t.reply = (s.reg FWT_PERR.VALID.base).toNat ∧
    t.fwt.perr = s.fwt.perr.tail ∧ t.fwt.learn = s.fwt.learn) := by
  have hshow := State.showPerr_keep s.perrTaken
  have hfwt : s.perrTaken.showPerr.fwt = s.perrTaken.fwt := hshow.parts .fwt rfl
  exact does_of_exec (exec_fwtPerrPop s) ⟨hshow.parts .reply rfl, (congrArg FwtSt.perr hfwt).trans rfl, (congrArg FwtSt.learn hfwt).trans rfl⟩

/-- Settles O39: each command from its `exec_` equation; nothing that the engine does takes a request but its turn (`SameWaiting`). -/
theorem learnAndAge : Obligations.LearnAndAge := by
  unfold Obligations.LearnAndAge
  refine ⟨?taken, ?found, ?new, ?pass, ?off, ?pop, ?turn⟩
  case taken => exact fun s r l hlearn => does_of_exec (exec_learnRequest s) (learnNext_learn hlearn)
  case found => exact fun s r l u i hcmd hwf hlearn hu hi => learnRequest_found_does hcmd hwf hlearn hu hi
  case new =>
    intro s r l u hcmd hlearn hu hnew
    rw [hu]
    exact learnRequest_new_does hcmd hlearn hnew
  case pass => exact fun s h => agerPass_does h
  case off => exact fun s h => does_of_exec (exec_agerPass_off h) rfl
  case pop => exact fun s => fwtPerrPop_does s
  case turn => exact fun s r l op b v k hlearn hcmd => learnRequest_turn_does hlearn hcmd

end Sys2Proof.Machine

/-!
The command registers of a forwarding table, its rebuild and the exchange of its banks.
-/
namespace Sys2Proof.Machine

/-! ## The registers of a table -/

/-- A field that each of the three tables has once, in a register of their block. -/
def Fld.ofTable (f : Fld) : Bool := f.n1 == 3 && f.n2 == 1 && decide (f.lo + f.w ≤ 32) && f.inBlk .fwt

theorem ofTable_fits {f : Fld} (hf : f.ofTable = true) {k : Nat} (hk : k < 3) : f.fits k 0 = true := by
  simp only [Fld.ofTable, Bool.and_eq_true, beq_iff_eq] at hf
  obtain ⟨⟨⟨h1, h2⟩, -⟩, -⟩ := hf
  simp [Fld.fits, h1, h2, hk]

theorem ofTable_bits {f : Fld} (hf : f.ofTable = true) : f.lo + f.w ≤ 32 := by
  simp only [Fld.ofTable, Bool.and_eq_true, decide_eq_true_eq] at hf
  exact hf.1.2

theorem ofTable_blk {f : Fld} (hf : f.ofTable = true) : f.inBlk .fwt = true := by
  simp only [Fld.ofTable, Bool.and_eq_true] at hf
  exact hf.2

/-- A field of a table reads what was written to it. -/
theorem rd_wr_table {s : State} (hwf : s.wf = true) {f : Fld} (hf : f.ofTable = true) {k : Nat} (hk : k < 3) (v : Nat) :
    (s.wr f v k).rd f k = v % 2 ^ f.w := rd_wr_same hwf (ofTable_bits hf) (ofTable_fits hf hk)

theorem on_wr_table {s : State} (hwf : s.wf = true) {f : Fld} (hf : f.ofTable = true) (hw : f.w = 1) {k : Nat} (hk : k < 3) (b : Bool) :
    (s.wr f (b2n b) k).on f k = b := on_wr_same hwf (ofTable_bits hf) hw (ofTable_fits hf hk) b

/-- An operation that leaves the block of the tables alone leaves a table's fields alone. -/
theorem rd_table_of_keep {m : Nat} {s t : State} (h : Keep m s t) (hwf : s.wf = true) {f : Fld} (hf : f.ofTable = true) {k : Nat}
    (hk : k < 3) (hm : m.testBit Blk.fwt.bit = false) : t.rd f k = s.rd f k :=
  h.rdIn .fwt hwf (ofTable_blk hf) (ofTable_fits hf hk) hm

/-- A field of the same table in another register is as it was. -/
theorem rd_wr_register {s : State} (hwf : s.wf = true) (f g : Fld) {v k : Nat} (hs : g.s1 = f.s1) (hb : g.base ≠ f.base) :
    (s.wr f v k).rd g k = s.rd g k := rd_wr_addr hwf (xport_cfg_addr k hs hb)

theorem winLive_wr (s : State) (f : Fld) (v i j : Nat) : (s.wr f v i j).winLive = s.winLive := by
  unfold State.wr
  split <;> rfl

theorem winShadow_wr (s : State) (f : Fld) (v i j : Nat) : (s.wr f v i j).winShadow = s.winShadow := by
  unfold State.wr
  split <;> rfl

/-! ## When a command is carried out (R140) -/

/-- A command behind the learn requests that wait on table 0. -/
def State.cmdQueued (s : State) (op bank : Nat) : State :=
  (s.setCmd (some (op, bank, s.cmdImage 0, s.fwt.learn.length))).wr FWT_Tt_CMD_STATUS.BUSY 1 0

theorem fwtCmd_busy {s : State} {k : Nat} (op b : Nat) (hk : k < 3) (hbusy : s.on FWT_Tt_CMD_STATUS.BUSY k = true) :
    s.fwtCmd k op b = s.bad := by
  rw [State.fwtCmd, if_neg (by omega), if_pos hbusy]

theorem fwtCmd_queued {s : State} (op b : Nat) (hbusy : s.on FWT_Tt_CMD_STATUS.BUSY 0 = false) (hlearn : s.fwt.learn ≠ []) :
    s.fwtCmd 0 op b = s.cmdQueued op b := by
  rw [State.fwtCmd, if_neg (by omega), if_neg (ne_true_of_eq_false hbusy), if_pos (by simp [hlearn])]
  rfl

theorem fwtCmd_now {s : State} {k : Nat} (op b : Nat) (hk : k < 3) (hbusy : s.on FWT_Tt_CMD_STATUS.BUSY k = false)
    (hlearn : k = 0 → s.fwt.learn = []) : s.fwtCmd k op b = s.fwtRun k op b (s.cmdImage k) := by
  rw [State.fwtCmd, if_neg (by omega), if_neg (ne_true_of_eq_false hbusy), if_neg]
  rw [Bool.and_eq_true, decide_eq_true_eq, Bool.not_eq_true', List.isEmpty_eq_false_iff]
  exact fun h => h.2 (hlearn h.1)

theorem exec_fwtCmdInsert (s : State) (k b : Nat) : exec (.fwtCmdInsert k b) s = .next (s.fwtCmd k 1 b) := rfl

theorem exec_fwtCmdDelete (s : State) (k b : Nat) : exec (.fwtCmdDelete k b) s = .next (s.fwtCmd k 2 b) := rfl

theorem exec_fwtCmdLookup (s : State) (k b : Nat) : exec (.fwtCmdLookup k b) s = .next (s.fwtCmd k 3 b) := rfl

/-- The commands of a table are its three operations. -/
theorem exec_fwtCmd {s : State} {k b : Nat} {c : Instr} (hc : c ∈ [Instr.fwtCmdInsert k b, .fwtCmdDelete k b, .fwtCmdLookup k b]) :
    ∃ op, exec c s = .next (s.fwtCmd k op b) := by
  simp only [List.mem_cons, List.not_mem_nil, or_false] at hc
  rcases hc with rfl | rfl | rfl
  · exact ⟨1, rfl⟩
  · exact ⟨2, rfl⟩
  · exact ⟨3, rfl⟩

theorem fwtRun_shut {s : State} {k b : Nat} (op v : Nat) (h : s.bankShut k b = true) : s.fwtRun k op b v = s.cmdResult k 5 0 := if_pos h

theorem fwtRun_insert {s : State} {k b : Nat} (v : Nat) (h : s.bankShut k b = false) : s.fwtRun k 1 b v = s.fwtInsert k b v :=
  if_neg (ne_true_of_eq_false h)

theorem fwtRun_delete {s : State} {k b : Nat} (v : Nat) (h : s.bankShut k b = false) : s.fwtRun k 2 b v = s.fwtRemove k b v :=
  if_neg (ne_true_of_eq_false h)

theorem fwtRun_lookup {s : State} {k b : Nat} (v : Nat) (h : s.bankShut k b = false) : s.fwtRun k 3 b v = s.fwtCopyBack k b v :=
  if_neg (ne_true_of_eq_false h)

theorem cmdQueued_shows {s : State} (hwf : s.wf = true) (op b : Nat) :
    (s.cmdQueued op b).on FWT_Tt_CMD_STATUS.BUSY 0 = true ∧
    (s.cmdQueued op b).fwt = { s.fwt with cmd := some (op, b, s.cmdImage 0, s.fwt.learn.length) } ∧
    (s.cmdQueued op b).winLive = s.winLive ∧ (s.cmdQueued op b).winShadow = s.winShadow := by
  have hqueue : (s.setCmd (some (op, b, s.cmdImage 0, s.fwt.learn.length))).wf = true := hwf
  have hwr := (Keep.refl 0x40 (s.setCmd (some (op, b, s.cmdImage 0, s.fwt.learn.length)))).wr .fwt (f := FWT_Tt_CMD_STATUS.BUSY)
    (v := 1) (i := 0) (j := 0) rfl rfl
  exact ⟨on_wr_table hqueue rfl rfl (by decide) true, hwr.parts .fwt rfl, winLive_wr .., winShadow_wr ..⟩

/-! ## The result of a command (R140) -/

theorem cmdResult_shows {s : State} (hwf : s.wf = true) {k r : Nat} (hk : k < 3) (hr : r < 16) (i : Nat) :
    (s.cmdResult k r i).rd FWT_Tt_CMD_STATUS.RESULT k = r ∧ (s.cmdResult k r i).winLive = s.winLive ∧
    (s.cmdResult k r i).winShadow = s.winShadow := by
  have hkeep := State.cmdResult_keep s k r i
  refine ⟨?_, hkeep.parts .winLive rfl, hkeep.parts .winShadow rfl⟩
  rw [State.cmdResult, rd_wr_bits (wr_wf hwf ..) (by decide) (.inl (by decide)), rd_wr_table hwf rfl hk]
  exact Nat.mod_eq_of_lt hr

theorem fwtInsert_invalid {s : State} {k v : Nat} (b : Nat) (h : imageBad k v = true) : s.fwtInsert k b v = s.cmdResult k 4 0 := if_pos h

theorem fwtInsert_put {s t : State} {k b v i : Nat} {rep : Bool} (h : imageBad k v = false)
    (hput : s.fwtPut k (b != 0) v = (t, some (i, rep))) :
    s.fwtInsert k b v = (if b = 0 then t.fwtMirrorPut k v else t).cmdResult k (b2n rep) i := by
  rw [State.fwtInsert, if_neg (ne_true_of_eq_false h), hput]

theorem fwtInsert_full {s t : State} {k b v : Nat} (h : imageBad k v = false) (hput : s.fwtPut k (b != 0) v = (t, none)) :
    s.fwtInsert k b v = t.cmdResult k 3 0 := by
  rw [State.fwtInsert, if_neg (ne_true_of_eq_false h), hput]

theorem fwtRemove_deleted {s t : State} {k b v i : Nat} (hdel : s.fwtDelete k (b != 0) (fwtKey k v) = (t, some i)) :
    s.fwtRemove k b v = (if b = 0 then t.fwtMirrorDelete k (fwtKey k v) else t).cmdResult k 0 i := by
  rw [State.fwtRemove, hdel]

theorem fwtRemove_absent {s t : State} {k b v : Nat} (hdel : s.fwtDelete k (b != 0) (fwtKey k v) = (t, none)) :
    s.fwtRemove k b v = t.cmdResult k 2 0 := by
  rw [State.fwtRemove, hdel]

/-! ## The entry that a lookup copies back (R140) -/

/-- The listed image words of table `k` take the words of `v`. -/
def State.imageSet (s : State) (k v : Nat) (l : List Nat) : State :=
  forEach l (fun w u => u.wr FWT_Tt_CMD_ENTRYw.DATA (bitsOf v (32 * w) 32) k w) s

theorem imageSet_keep (s : State) (k v : Nat) (l : List Nat) : Keep 0x40 s (s.imageSet k v l) :=
  .forEach (.refl _ s) fun _ u => (Keep.refl _ u).wr .fwt rfl rfl

theorem cmdEntry_addr (k : Nat) {w x : Nat} (h : w ≠ x) : FWT_Tt_CMD_ENTRYw.DATA.addr k w ≠ FWT_Tt_CMD_ENTRYw.DATA.addr k x := by
  simp only [Fld.addr, FWT_Tt_CMD_ENTRYw.DATA]
  omega

theorem cmdEntry_fits {k w : Nat} (hk : k < 3) (hw : w < 8) : FWT_Tt_CMD_ENTRYw.DATA.fits k w = true := by
  simp [Fld.fits, FWT_Tt_CMD_ENTRYw.DATA, hk, hw]

/-- Image words outside the list stay. -/
theorem imageSet_other {k v w : Nat} (l : List Nat) {s : State} (hwf : s.wf = true) (hw : w ∉ l) :
    (s.imageSet k v l).rd FWT_Tt_CMD_ENTRYw.DATA k w = s.rd FWT_Tt_CMD_ENTRYw.DATA k w := by
  induction l generalizing s with
  | nil => rfl
  | cons x l ih =>
    obtain ⟨hwx, hwl⟩ := not_or.1 (mt List.mem_cons.2 hw)
    exact (ih (wr_wf hwf ..) hwl).trans (rd_wr_addr hwf (cmdEntry_addr k hwx))

/-- Each listed image word shows its word of the entry. -/
theorem imageSet_word {k v w : Nat} {l : List Nat} {s : State} (hwf : s.wf = true) (hk : k < 3) (hw : w < 8) (hmem : w ∈ l) :
    (s.imageSet k v l).rd FWT_Tt_CMD_ENTRYw.DATA k w = bitsOf v (32 * w) 32 := by
  induction l generalizing s with
  | nil => cases hmem
  | cons x l ih =>
    by_cases hl : w ∈ l
    · exact ih (wr_wf hwf ..) hl
    · obtain rfl := (List.mem_cons.1 hmem).resolve_right hl
      refine (imageSet_other l (wr_wf hwf ..) hl).trans ((rd_wr_same hwf (by decide) (cmdEntry_fits hk hw)).trans ?_)
      exact Nat.mod_mod ..

theorem fwtCopyBack_found {s u : State} {k b v i : Nat} (hu : u = (s.fwtLookup k (b != 0) (fwtKey k v)).1)
    (hi : (s.fwtLookup k (b != 0) (fwtKey k v)).2.1 = some i) :
    s.fwtCopyBack k b v = (u.imageSet k (u.fwtEntry k (b != 0) i) (List.range (fwtWords k))).cmdResult k 0 i := by
  unfold State.fwtCopyBack
  generalize s.fwtLookup k (b != 0) (fwtKey k v) = p at hu hi
  obtain ⟨w, o, bad⟩ := p
  subst hu hi
  rfl

theorem fwtCopyBack_absent {s : State} {k b v : Nat} (hnone : (s.fwtLookup k (b != 0) (fwtKey k v)).2.1 = none) :
    s.fwtCopyBack k b v = (s.fwtLookup k (b != 0) (fwtKey k v)).1.cmdResult k 2 0 := by
  unfold State.fwtCopyBack
  generalize s.fwtLookup k (b != 0) (fwtKey k v) = p at hnone ⊢
  obtain ⟨w, o, bad⟩ := p
  subst hnone
  rfl

theorem fwtWords_le (k : Nat) : fwtWords k ≤ 8 := by
  unfold fwtWords
  split <;> omega

theorem cmdEntry_cmdResult {s : State} (hwf : s.wf = true) (k r i : Nat) {w : Nat} (hw : w < 8) :
    (s.cmdResult k r i).rd FWT_Tt_CMD_ENTRYw.DATA k w = s.rd FWT_Tt_CMD_ENTRYw.DATA k w := by
  have hresult : FWT_Tt_CMD_ENTRYw.DATA.addr k w ≠ FWT_Tt_CMD_STATUS.RESULT.addr k 0 := by
    simp only [Fld.addr, FWT_Tt_CMD_ENTRYw.DATA, FWT_Tt_CMD_STATUS.RESULT]
    omega
  have hindex : FWT_Tt_CMD_ENTRYw.DATA.addr k w ≠ FWT_Tt_CMD_STATUS.INDEX.addr k 0 := hresult
  rw [State.cmdResult, rd_wr_addr (wr_wf hwf ..) hindex, rd_wr_addr hwf hresult]

/-! ## The commands -/

theorem fwtCmd_shut_does {s : State} {k b : Nat} (hbusy : s.on FWT_Tt_CMD_STATUS.BUSY k = false) (hlearn : k = 0 → s.fwt.learn = [])
    (hwf : s.wf = true) (hk : k < 3) (hshut : s.bankShut k b = true) {c : Instr}
    (hc : c ∈ [Instr.fwtCmdInsert k b, .fwtCmdDelete k b, .fwtCmdLookup k b]) : Does c s (fun t =>
      t.rd FWT_Tt_CMD_STATUS.RESULT k = 5 ∧ t.winLive = s.winLive ∧ t.winShadow = s.winShadow) := by
  obtain ⟨op, hexec⟩ := exec_fwtCmd (s := s) hc
  rw [fwtCmd_now op b hk hbusy hlearn, fwtRun_shut op _ hshut] at hexec
  exact does_of_exec hexec (cmdResult_shows hwf hk (by decide) 0)

theorem fwtCmd_busy_does {s : State} {k b : Nat} (hk : k < 3) (hbusy : s.on FWT_Tt_CMD_STATUS.BUSY k = true) {c : Instr}
    (hc : c ∈ [Instr.fwtCmdInsert k b, .fwtCmdDelete k b, .fwtCmdLookup k b]) : Does c s (fun t => t = s.bad) := by
  obtain ⟨op, hexec⟩ := exec_fwtCmd (s := s) hc
  exact does_of_exec hexec (fwtCmd_busy op b hk hbusy)

theorem fwtCmd_queued_does {s : State} {op b : Nat} {c : Instr} (hwf : s.wf = true) (hbusy : s.on FWT_Tt_CMD_STATUS.BUSY 0 = false)
    (hlearn : s.fwt.learn ≠ []) (hc : exec c s = .next (s.fwtCmd 0 op b)) : Does c s (fun t =>
      t.on FWT_Tt_CMD_STATUS.BUSY 0 = true ∧ t.fwt = { s.fwt with cmd := some (op, b, s.cmdImage 0, s.fwt.learn.length) } ∧
      t.winLive = s.winLive ∧ t.winShadow = s.winShadow) := by
  rw [fwtCmd_queued op b hbusy hlearn] at hc
  exact does_of_exec hc (cmdQueued_shows hwf op b)

section Carried

variable {s : State} {k b : Nat} (hbusy : s.on FWT_Tt_CMD_STATUS.BUSY k = false) (hlearn : k = 0 → s.fwt.learn = []) (hk : k < 3)
  (hopen : s.bankShut k b = false)

include hbusy hlearn hk hopen

theorem exec_fwtCmdInsert_now : exec (.fwtCmdInsert k b) s = .next (s.fwtInsert k b (s.cmdImage k)) := by
  rw [exec_fwtCmdInsert, fwtCmd_now 1 b hk hbusy hlearn, fwtRun_insert _ hopen]

theorem exec_fwtCmdDelete_now : exec (.fwtCmdDelete k b) s = .next (s.fwtRemove k b (s.cmdImage k)) := by
  rw [exec_fwtCmdDelete, fwtCmd_now 2 b hk hbusy hlearn, fwtRun_delete _ hopen]

theorem exec_fwtCmdLookup_now : exec (.fwtCmdLookup k b) s = .next (s.fwtCopyBack k b (s.cmdImage k)) := by
  rw [exec_fwtCmdLookup, fwtCmd_now 3 b hk hbusy hlearn, fwtRun_lookup _ hopen]

theorem fwtCmdInsert_invalid_does (hwf : s.wf = true) (hbad : imageBad k (s.cmdImage k) = true) : Does (.fwtCmdInsert k b) s (fun t =>
    t.rd FWT_Tt_CMD_STATUS.RESULT k = 4 ∧ t.winLive = s.winLive ∧ t.winShadow = s.winShadow) := by
  refine does_of_exec (exec_fwtCmdInsert_now hbusy hlearn hk hopen) ?_
  rw [fwtInsert_invalid b hbad]
  exact cmdResult_shows hwf hk (by decide) 0

theorem fwtCmdLookup_found_does {u : State} {i : Nat} (hwf : s.wf = true)
    (hu : u = (s.fwtLookup k (b != 0) (fwtKey k (s.cmdImage k))).1)
    (hi : (s.fwtLookup k (b != 0) (fwtKey k (s.cmdImage k))).2.1 = some i) : Does (.fwtCmdLookup k b) s (fun t =>
      t.rd FWT_Tt_CMD_STATUS.RESULT k = 0 ∧ t.winLive = u.winLive ∧ ∀ w, w < fwtWords k →
      t.rd FWT_Tt_CMD_ENTRYw.DATA k w = bitsOf (u.fwtEntry k (b != 0) i) (32 * w) 32) := by
  have huwf : u.wf = true := hu ▸ (State.fwtLookup_keep ..).wf hwf
  have hset := imageSet_keep u k (u.fwtEntry k (b != 0) i) (List.range (fwtWords k))
  obtain ⟨hresult, hlive, -⟩ := cmdResult_shows (hset.wf huwf) (r := 0) hk (by decide) i
  refine does_of_exec (exec_fwtCmdLookup_now hbusy hlearn hk hopen) ?_
  rw [fwtCopyBack_found hu hi]
  refine ⟨hresult, hlive.trans (hset.parts .winLive rfl), fun w hw => ?_⟩
  have hw8 := hw.trans_le (fwtWords_le k)
  rw [cmdEntry_cmdResult (hset.wf huwf) k 0 i hw8, imageSet_word huwf hk hw8 (List.mem_range.2 hw)]

theorem fwtCmdLookup_absent_does (hwf : s.wf = true) (hnone : (s.fwtLookup k (b != 0) (fwtKey k (s.cmdImage k))).2.1 = none) :
    Does (.fwtCmdLookup k b) s (fun t => t.rd FWT_Tt_CMD_STATUS.RESULT k = 2) := by
  refine does_of_exec (exec_fwtCmdLookup_now hbusy hlearn hk hopen) ?_
  rw [fwtCopyBack_absent hnone]
  exact (cmdResult_shows ((State.fwtLookup_keep ..).wf hwf) hk (by decide) 0).1

end Carried

/-! ## FWT_INJECT (R130) -/

theorem exec_fwtInject (s : State) {k : Nat} (hk : k < 3) : exec (.fwtInject k) s = .next (s.wr FWT_Tt_CTRL.INJECT 1 k) := if_neg (by omega)

theorem fwtInject_does {s : State} {k : Nat} (hwf : s.wf = true) (hk : k < 3) : Does (.fwtInject k) s (fun t =>
    t.on FWT_Tt_CTRL.INJECT k = true ∧ t.winLive = s.winLive) :=
  does_of_exec (exec_fwtInject s hk) ⟨on_wr_table hwf rfl rfl hk true, winLive_wr ..⟩

/-! ## A rebuild opens and closes (R141) -/

/-- A rebuild of table `k` is open, with its shadow bank being cleared, or not. -/
def State.setRebuild (s : State) (k : Nat) (val : Bool) : State :=
  (s.wr FWT_Tt_STATUS.REBUILD_OPEN (b2n val) k).wr FWT_Tt_STATUS.CLEARING (b2n val) k

/-- A partly written entry of the shadow bank of window `k` is now in conflict (R46). -/
def State.touchShadow (s : State) (k : Nat) : State :=
  let c := tabGet s.winWr k
  if c.valid && c.shadow then { s with winWr := tabSet s.winWr k { c with changed := true } } else s

theorem touchShadow_keep (s : State) (k : Nat) : Keep 0x8000000 s (s.touchShadow k) := .ite ((Keep.refl _ s).winWr _ rfl) (.refl _ s)

theorem setRebuild_keep (s : State) (k : Nat) (val : Bool) : Keep 0x40 s (s.setRebuild k val) :=
  ((Keep.refl _ s).wr .fwt rfl rfl).wr .fwt rfl rfl

theorem setRebuild_shows {s : State} (hwf : s.wf = true) {k : Nat} (hk : k < 3) (val : Bool) :
    (s.setRebuild k val).on FWT_Tt_STATUS.REBUILD_OPEN k = val ∧ (s.setRebuild k val).on FWT_Tt_STATUS.CLEARING k = val ∧
    (s.setRebuild k val).winLive = s.winLive ∧ (s.setRebuild k val).winShadow = s.winShadow := by
  have hkeep := setRebuild_keep s k val
  have hopen : (s.setRebuild k val).rd FWT_Tt_STATUS.REBUILD_OPEN k =
      (s.wr FWT_Tt_STATUS.REBUILD_OPEN (b2n val) k).rd FWT_Tt_STATUS.REBUILD_OPEN k :=
    rd_wr_bits (wr_wf hwf ..) (by decide) (.inr (by decide))
  exact ⟨(on_of_rd hopen).trans (on_wr_table hwf rfl rfl hk val), on_wr_table (wr_wf hwf ..) rfl rfl hk val,
    hkeep.parts .winLive rfl, hkeep.parts .winShadow rfl⟩

theorem exec_fwtRebuild {s : State} {k : Nat} (hk : k < 3) (h : s.rd FWT_Tt_SH_SEED0.SEED k ≠ s.rd FWT_Tt_SH_SEED1.SEED k) :
    exec (.fwtRebuild k) s = .next (((s.clearShadow k).touchShadow k).setRebuild k true) :=
  (if_neg (by omega)).trans (if_neg h)

theorem exec_fwtRebuild_refused {s : State} {k : Nat} (hk : k < 3) (h : s.rd FWT_Tt_SH_SEED0.SEED k = s.rd FWT_Tt_SH_SEED1.SEED k) :
    exec (.fwtRebuild k) s = .next s.bad :=
  (if_neg (by omega)).trans (if_pos h)

theorem fwtRebuild_does {s : State} {k : Nat} (hwf : s.wf = true) (hk : k < 3)
    (h : s.rd FWT_Tt_SH_SEED0.SEED k ≠ s.rd FWT_Tt_SH_SEED1.SEED k) : Does (.fwtRebuild k) s (fun t =>
      t.on FWT_Tt_STATUS.REBUILD_OPEN k = true ∧ t.on FWT_Tt_STATUS.CLEARING k = true ∧ t.winLive = s.winLive ∧
      t.winShadow = (s.clearShadow k).winShadow) := by
  have htouch := touchShadow_keep (s.clearShadow k) k
  have hclear := State.clearShadow_keep s k
  obtain ⟨hopen, hclearing, hlive, hshadow⟩ := setRebuild_shows (htouch.wf (hclear.wf hwf)) hk true
  exact does_of_exec (exec_fwtRebuild hk h) ⟨hopen, hclearing,
    hlive.trans ((htouch.parts .winLive rfl).trans (hclear.parts .winLive rfl)), hshadow.trans (htouch.parts .winShadow rfl)⟩

theorem exec_fwtShadowCleared {s : State} {k : Nat} (hk : k < 3) (h : s.on FWT_Tt_STATUS.CLEARING k = true) :
    exec (.fwtShadowCleared k) s = .next ((s.wr FWT_Tt_STATUS.CLEARING 0 k).raise 184) := if_pos (by simp [h, hk])

theorem fwtShadowCleared_does {s : State} {k : Nat} (hwf : s.wf = true) (hk : k < 3) (h : s.on FWT_Tt_STATUS.CLEARING k = true) :
    Does (.fwtShadowCleared k) s (fun t => t.on FWT_Tt_STATUS.CLEARING k = false ∧ s.told 184 < t.told 184) := by
  have hwr : Keep 0x40 s (s.wr FWT_Tt_STATUS.CLEARING 0 k) := (Keep.refl _ s).wr .fwt rfl rfl
  have hraise := rd_table_of_keep (State.raise_keep (s.wr FWT_Tt_STATUS.CLEARING 0 k) 184 [] none none) (hwr.wf hwf)
    (f := FWT_Tt_STATUS.CLEARING) rfl hk rfl
  exact does_of_exec (exec_fwtShadowCleared hk h) ⟨(on_of_rd hraise).trans (on_wr_table hwf rfl rfl hk false),
    (told_of_evt (hwr.parts .evt rfl) 184).symm.trans_lt (told_lt_raise ..)⟩

theorem exec_fwtAbortRebuild (s : State) {k : Nat} (hk : k < 3) : exec (.fwtAbortRebuild k) s = .next (s.setRebuild k false) :=
  if_neg (by omega)

/-! ## The exchange of the banks (R142) -/

/-- The seeds of the live and of the shadow bank change places. -/
def State.seedsSwapped (s : State) (k : Nat) : State :=
  (((s.wr FWT_Tt_SEED0.SEED (s.rd FWT_Tt_SH_SEED0.SEED k) k).wr FWT_Tt_SEED1.SEED (s.rd FWT_Tt_SH_SEED1.SEED k) k).wr
    FWT_Tt_SH_SEED0.SEED (s.rd FWT_Tt_SEED0.SEED k) k).wr FWT_Tt_SH_SEED1.SEED (s.rd FWT_Tt_SEED1.SEED k) k

/-- Entries of the live bank of table `k` that are VALID. -/
def State.validEntries (s : State) (k : Nat) : Nat :=
  ((s.fwtListed k false).filter (fun i => fwtValid k (s.fwtEntry k false i))).length

/-- The rebuild closes after a swap: USED is counted anew. -/
def State.rebuildClosed (s : State) (k : Nat) : State :=
  (s.wr FWT_Tt_STATUS.USED (s.validEntries k) k).wr FWT_Tt_STATUS.REBUILD_OPEN 0 k

theorem exec_fwtSwap {s : State} {k : Nat} (hk : k < 3) (hopen : s.on FWT_Tt_STATUS.REBUILD_OPEN k = true)
    (hclear : s.on FWT_Tt_STATUS.CLEARING k = false) :
    exec (.fwtSwap k) s = .next ((((s.seedsSwapped k).swapWindow k).rebuildClosed k).raise 185) :=
  (if_neg (by omega)).trans (if_neg (by simp [hopen, hclear]))

theorem exec_fwtSwap_refused {s : State} {k : Nat} (hk : k < 3)
    (h : s.on FWT_Tt_STATUS.REBUILD_OPEN k = false ∨ s.on FWT_Tt_STATUS.CLEARING k = true) : exec (.fwtSwap k) s = .next s.bad := by
  refine (if_neg (by omega)).trans (if_pos ?_)
  rcases h with h | h <;> simp [h]

theorem rd_mod (s : State) (f : Fld) (i j : Nat) : s.rd f i j % 2 ^ f.w = s.rd f i j := Nat.mod_mod ..

theorem seedsSwapped_keep (s : State) (k : Nat) : Keep 0x40 s (s.seedsSwapped k) :=
  ((((Keep.refl _ s).wr .fwt rfl rfl).wr .fwt rfl rfl).wr .fwt rfl rfl).wr .fwt rfl rfl

theorem seedsSwapped_shows {s : State} (hwf : s.wf = true) {k : Nat} (hk : k < 3) :
    (s.seedsSwapped k).rd FWT_Tt_SEED0.SEED k = s.rd FWT_Tt_SH_SEED0.SEED k ∧
    (s.seedsSwapped k).rd FWT_Tt_SEED1.SEED k = s.rd FWT_Tt_SH_SEED1.SEED k ∧
    (s.seedsSwapped k).rd FWT_Tt_SH_SEED0.SEED k = s.rd FWT_Tt_SEED0.SEED k ∧
    (s.seedsSwapped k).rd FWT_Tt_SH_SEED1.SEED k = s.rd FWT_Tt_SEED1.SEED k := by
  have h1 := wr_wf hwf FWT_Tt_SEED0.SEED (s.rd FWT_Tt_SH_SEED0.SEED k) k 0
  have h2 := wr_wf h1 FWT_Tt_SEED1.SEED (s.rd FWT_Tt_SH_SEED1.SEED k) k 0
  have h3 := wr_wf h2 FWT_Tt_SH_SEED0.SEED (s.rd FWT_Tt_SEED0.SEED k) k 0
  refine ⟨?_, ?_, ?_, ?_⟩
  · rw [State.seedsSwapped, rd_wr_register h3 FWT_Tt_SH_SEED1.SEED FWT_Tt_SEED0.SEED rfl (by decide),
      rd_wr_register h2 FWT_Tt_SH_SEED0.SEED FWT_Tt_SEED0.SEED rfl (by decide),
      rd_wr_register h1 FWT_Tt_SEED1.SEED FWT_Tt_SEED0.SEED rfl (by decide), rd_wr_table hwf rfl hk]
    exact rd_mod s FWT_Tt_SH_SEED0.SEED k 0
  · rw [State.seedsSwapped, rd_wr_register h3 FWT_Tt_SH_SEED1.SEED FWT_Tt_SEED1.SEED rfl (by decide),
      rd_wr_register h2 FWT_Tt_SH_SEED0.SEED FWT_Tt_SEED1.SEED rfl (by decide), rd_wr_table h1 rfl hk]
    exact rd_mod s FWT_Tt_SH_SEED1.SEED k 0
  · rw [State.seedsSwapped, rd_wr_register h3 FWT_Tt_SH_SEED1.SEED FWT_Tt_SH_SEED0.SEED rfl (by decide), rd_wr_table h2 rfl hk]
    exact rd_mod s FWT_Tt_SEED0.SEED k 0
  · rw [State.seedsSwapped, rd_wr_table h3 rfl hk]
    exact rd_mod s FWT_Tt_SEED1.SEED k 0

theorem rebuildClosed_keep (s : State) (k : Nat) : Keep 0x40 s (s.rebuildClosed k) :=
  ((Keep.refl _ s).wr .fwt rfl rfl).wr .fwt rfl rfl

/-- The exchange shows the seeds as they were exchanged. -/
theorem rd_seed_swapped {s : State} (hwf : s.wf = true) {k : Nat} (hk : k < 3) {f : Fld} (hf : f.ofTable = true) (hs : f.s1 = 0x100)
    (hb : f.base ≠ FWT_Tt_STATUS.USED.base) :
    ((((s.seedsSwapped k).swapWindow k).rebuildClosed k).raise 185).rd f k = (s.seedsSwapped k).rd f k := by
  have hseeds := (seedsSwapped_keep s k).wf hwf
  have hswap := State.swapWindow_keep (s.seedsSwapped k) k
  have hwindow := hswap.wf hseeds
  have hclosed := (rebuildClosed_keep ((s.seedsSwapped k).swapWindow k) k).wf hwindow
  rw [rd_table_of_keep (State.raise_keep ..) hclosed hf hk rfl, State.rebuildClosed,
    rd_wr_register (wr_wf hwindow ..) FWT_Tt_STATUS.REBUILD_OPEN f hs hb, rd_wr_register hwindow FWT_Tt_STATUS.USED f hs hb,
    rd_table_of_keep hswap hseeds hf hk rfl]

theorem swapWindow_banks (s : State) (k : Nat) :
    (s.swapWindow k).winLive = (s.swapBanks k).winLive ∧ (s.swapWindow k).winShadow = (s.swapBanks k).winShadow :=
  have h := State.touchWindow_keep (s.swapBanks k) k
  ⟨h.parts .winLive rfl, h.parts .winShadow rfl⟩

theorem fwtSwap_does {s : State} {k : Nat} (hwf : s.wf = true) (hk : k < 3) (hopen : s.on FWT_Tt_STATUS.REBUILD_OPEN k = true)
    (hclear : s.on FWT_Tt_STATUS.CLEARING k = false) : Does (.fwtSwap k) s (fun t =>
      t.rd FWT_Tt_SEED0.SEED k = s.rd FWT_Tt_SH_SEED0.SEED k ∧
      t.rd FWT_Tt_SEED1.SEED k = s.rd FWT_Tt_SH_SEED1.SEED k ∧ t.rd FWT_Tt_SH_SEED0.SEED k = s.rd FWT_Tt_SEED0.SEED k ∧
      t.rd FWT_Tt_SH_SEED1.SEED k = s.rd FWT_Tt_SEED1.SEED k ∧ t.on FWT_Tt_STATUS.REBUILD_OPEN k = false ∧ s.told 185 < t.told 185 ∧
      t.winLive = (s.swapBanks k).winLive ∧ t.winShadow = (s.swapBanks k).winShadow) := by
  obtain ⟨hseed0, hseed1, hshadow0, hshadow1⟩ := seedsSwapped_shows hwf hk
  have hseeds := seedsSwapped_keep s k
  have hswap := State.swapWindow_keep (s.seedsSwapped k) k
  have hclosed := rebuildClosed_keep ((s.seedsSwapped k).swapWindow k) k
  have hwindow := hswap.wf (hseeds.wf hwf)
  have hraise := State.raise_keep (((s.seedsSwapped k).swapWindow k).rebuildClosed k) 185 [] none none
  have hopened := rd_table_of_keep hraise (hclosed.wf hwindow) (f := FWT_Tt_STATUS.REBUILD_OPEN) rfl hk rfl
  have hevt : (((s.seedsSwapped k).swapWindow k).rebuildClosed k).evt = s.evt :=
    (hclosed.parts .evt rfl).trans ((hswap.parts .evt rfl).trans (hseeds.parts .evt rfl))
  obtain ⟨hlive, hshadow⟩ := swapWindow_banks (s.seedsSwapped k) k
  have hseedsLive : (s.seedsSwapped k).winLive = s.winLive := hseeds.parts .winLive rfl
  have hseedsShadow : (s.seedsSwapped k).winShadow = s.winShadow := hseeds.parts .winShadow rfl
  refine does_of_exec (exec_fwtSwap hk hopen hclear) ⟨(rd_seed_swapped hwf hk rfl rfl (by decide)).trans hseed0,
    (rd_seed_swapped hwf hk rfl rfl (by decide)).trans hseed1, (rd_seed_swapped hwf hk rfl rfl (by decide)).trans hshadow0,
    (rd_seed_swapped hwf hk rfl rfl (by decide)).trans hshadow1,
    (on_of_rd hopened).trans (on_wr_table (wr_wf hwindow ..) rfl rfl hk false), (told_of_evt hevt 185).symm.trans_lt (told_lt_raise ..),
    ?live, ?shadow⟩
  case live =>
    refine (hraise.parts .winLive rfl).trans ((hclosed.parts .winLive rfl).trans (hlive.trans ?_))
    simp only [State.swapBanks, hseedsLive, hseedsShadow]
  case shadow =>
    refine (hraise.parts .winShadow rfl).trans ((hclosed.parts .winShadow rfl).trans (hshadow.trans ?_))
    simp only [State.swapBanks, hseedsLive, hseedsShadow]

/-- Settles O40: each command from its `exec_` equation, and what the registers and banks of its table then show. -/
theorem tableCommands : Obligations.TableCommands := by
  unfold Obligations.TableCommands
  refine ⟨?shut, ?invalid, ?insert, ?delete, ?found, ?absent, ?inject, ?rebuild, ?equalSeeds, ?cleared, ?swap, ?noSwap, ?abort, ?busy,
    ?queued⟩
  case shut => exact fun s k b hbusy hlearn hwf hk hshut c hc => fwtCmd_shut_does hbusy hlearn hwf hk hshut hc
  case invalid => exact fun s k b hbusy hlearn hwf hk hopen hbad => fwtCmdInsert_invalid_does hbusy hlearn hk hopen hwf hbad
  case insert =>
    intro s k b hbusy hlearn hk hopen hgood
    refine does_of_exec (exec_fwtCmdInsert_now hbusy hlearn hk hopen) ?_
    split
    case h_1 u i rep hput => exact fwtInsert_put hgood hput
    case h_2 u hput => exact fwtInsert_full hgood hput
  case delete =>
    intro s k b hbusy hlearn hk hopen
    refine does_of_exec (exec_fwtCmdDelete_now hbusy hlearn hk hopen) ?_
    split
    case h_1 u i hdel => exact fwtRemove_deleted hdel
    case h_2 u hdel => exact fwtRemove_absent hdel
  case found =>
    exact fun s k b u i hbusy hlearn hwf hk hopen hu hi => fwtCmdLookup_found_does hbusy hlearn hk hopen hwf hu hi
  case absent => exact fun s k b hbusy hlearn hwf hk hopen hnone => fwtCmdLookup_absent_does hbusy hlearn hk hopen hwf hnone
  case inject => exact fun s k hwf hk => fwtInject_does hwf hk
  case rebuild => exact fun s k hwf hk h => fwtRebuild_does hwf hk h
  case equalSeeds => exact fun s k hk h => does_of_exec (exec_fwtRebuild_refused hk h) rfl
  case cleared => exact fun s k hwf hk h => fwtShadowCleared_does hwf hk h
  case swap => exact fun s k hwf hk hopen hclear => fwtSwap_does hwf hk hopen hclear
  case noSwap => exact fun s k hk h => does_of_exec (exec_fwtSwap_refused hk h) rfl
  case abort => exact fun s k hwf hk => does_of_exec (exec_fwtAbortRebuild s hk) (setRebuild_shows hwf hk false)
  case busy => exact fun s k b hk hbusy c hc => fwtCmd_busy_does hk hbusy hc
  case queued =>
    intro s b op c hwf hbusy hlearn hc
    refine fwtCmd_queued_does hwf hbusy hlearn ?_
    rcases hc with ⟨rfl, rfl⟩ | ⟨rfl, rfl⟩ | ⟨rfl, rfl⟩
    · exact exec_fwtCmdInsert s 0 b
    · exact exec_fwtCmdDelete s 0 b
    · exact exec_fwtCmdLookup s 0 b

end Sys2Proof.Machine

/-!
The ingest of the frames that wait in the input FIFO, the scan for lost streams, and the promotion of a slot's next key.
-/
namespace Sys2Proof.Machine

/-! ## A multiple of the GTC -/

theorem tick_lt_nextGtc (s : State) {p : Nat} (hp : 0 < p) : s.tick < s.nextGtc p :=
  Nat.lt_add_of_pos_right (Nat.sub_pos_of_lt (Nat.mod_lt _ hp))

theorem tick_advanceTo_nextGtc (s : State) {p : Nat} (hp : 0 < p) : (s.advanceTo (s.nextGtc p)).tick = s.nextGtc p :=
  tick_advanceTo_of_lt (tick_lt_nextGtc s hp)

/-- A running GTC stands at a whole multiple of `p` there, also where it wraps. -/
theorem gtc_advanceTo_nextGtc {s : State} {p : Nat} (hp : 0 < p) (hwrap : p ∣ gtcRange) (hrun : s.tim.carried = false) :
    (s.advanceTo (s.nextGtc p)).tim.gtc % p = 0 := by
  have hlt := Nat.mod_lt s.tim.gtc hp
  have hsum : s.tim.gtc + (p - s.tim.gtc % p) = p * (s.tim.gtc / p + 1) := by
    have := Nat.div_add_mod s.tim.gtc p
    rw [Nat.mul_succ]
    omega
  rw [State.nextGtc, gtc_advanceTo_add (Nat.sub_pos_of_lt hlt) hrun, Nat.mod_mod_of_dvd _ hwrap, hsum, Nat.mul_mod_right]

/-! ## A counter of the unit -/

/-- An operation that leaves block `b` alone leaves its counters alone. -/
theorem Keep.rd64In {m : Nat} {s t : State} (b : Blk) (k : Keep m s t) (hwf : s.wf = true) {f : Fld} {i j : Nat}
    (hf : f.inBlk b 4 = true) (hi : f.fits i j = true) (hz : m.testBit b.bit = false) : t.rd64 f i j = s.rd64 f i j := by
  obtain ⟨hbase, htop⟩ := Fld.addr_in hf hi
  exact rd64_of_reg (k.regs hwf _ (by rw [zoneNo_blk hbase (by omega)]; exact hz))
    (k.regs hwf _ (by rw [zoneNo_blk (by omega) htop]; exact hz))

theorem ingestCount_fits {i : Nat} (hi : i < 8) : SVI_cnt_LO.COUNT.fits i 0 = true := by
  simp [Fld.fits, SVI_cnt_LO.COUNT, hi]

/-- A frame that the unit counts and reports leaves the unit itself alone. -/
theorem countRaise_shows {s : State} (hwf : s.wf = true) {i : Nat} (hi : i < 8) (n : Nat) (items : List Item) :
    ((s.count SVI_cnt_LO.COUNT i).raise n items).svi = s.svi ∧ s.told n < ((s.count SVI_cnt_LO.COUNT i).raise n items).told n ∧
      ((s.count SVI_cnt_LO.COUNT i).raise n items).rd64 SVI_cnt_LO.COUNT i = (s.rd64 SVI_cnt_LO.COUNT i + 1) % 2 ^ 64 := by
  have hfits := ingestCount_fits hi
  have hcount : Keep 0x80 s (s.count SVI_cnt_LO.COUNT i) := (Keep.refl _ s).count .svi rfl rfl
  have hraise := State.raise_keep (s.count SVI_cnt_LO.COUNT i) n items none none
  refine ⟨(hraise.parts .svi rfl).trans (hcount.parts .svi rfl), ?_, ?_⟩
  · exact (told_of_evt (hcount.parts .evt rfl) n).symm.trans_lt (told_lt_raise ..)
  · rw [hraise.rd64In .svi (hcount.wf hwf) rfl hfits rfl, rd64_count_same hwf hfits]

/-! ## The oldest frame leaves the input FIFO (R149, R155) -/

/-- The input FIFO holds `l`, and its level shows. -/
def State.svQueued (s : State) (l : List RxFrame) : State := State.showSvFifo { s with ppl := { s.ppl with svIn := l } }

/-- The EtherType of the frames of queue 4,093, which are GOOSE, and of queue 4,092 (R149). -/
def RxFrame.queueType (f : RxFrame) : Nat := if f.goose then 0x88B8 else 0x88BA

/-- A GOOSE frame leaves for its intake, or is counted where that is full (R149, R242). -/
def State.gooseQueued (s : State) (f : RxFrame) : State :=
  if 64 ≤ s.ppl.gooseIn.length then s.count TRP_cnt_LO.COUNT 16
  else { s with ppl := { s.ppl with gooseIn := s.ppl.gooseIn ++ [f] } }

/-- What step 1 of R155 does with a frame. -/
def State.svSorted (s : State) (f : RxFrame) : State :=
  if s.on SVI_CFG.ENABLE = false then s.decodeErr f
  else if etherType f.bytes ≠ f.queueType then
    (s.count SVI_cnt_LO.COUNT 1).raise 201 [i8 f.port, i16 (etherType f.bytes)]
  else if f.goose then s.gooseQueued f else s.ingest f

theorem exec_svFrameIngest {s : State} {f : RxFrame} {l : List RxFrame} (h : s.ppl.svIn = f :: l) :
    exec .svFrameIngest s = .next ((s.svQueued l).svSorted f) := by
  change execSvFrameIngest s = _
  unfold execSvFrameIngest State.svSorted State.gooseQueued
  simp only [h, apply_ite Host.Outcome.next, Bool.not_eq_true', bne_iff_ne]
  rfl

theorem svQueued_keep (s : State) (l : List RxFrame) : Keep 0x40000000080 s (s.svQueued l) :=
  (State.showSvFifo_keep _).step ((Keep.refl _ s).ppl _ rfl) rfl

theorem svQueued_ppl (s : State) (l : List RxFrame) : (s.svQueued l).ppl = { s.ppl with svIn := l } :=
  (State.showSvFifo_keep _).parts .ppl rfl

/-- Of the registers, only SVI_FIFO follows the input FIFO. -/
theorem reg_svQueued {s : State} (hwf : s.wf = true) (l : List RxFrame) {a : Nat} (ha : a ≠ SVI_FIFO.LEVEL.addr 0 0) :
    (s.svQueued l).reg a = s.reg a := by
  let u : State := { s with ppl := { s.ppl with svIn := l } }
  exact (reg_wr_other (s := u.wr SVI_FIFO.LEVEL u.ppl.svIn.length) (wr_wf (s := u) hwf ..) (f := SVI_FIFO.HIGH) ha).trans
    (reg_wr_other (s := u) hwf ha)

theorem on_svQueued_enable {s : State} (hwf : s.wf = true) (l : List RxFrame) : (s.svQueued l).on SVI_CFG.ENABLE = s.on SVI_CFG.ENABLE :=
  on_of_rd (rd_of_reg (reg_svQueued hwf l (by decide)))

theorem svQueued_count {s : State} (hwf : s.wf = true) (l : List RxFrame) (i : Nat) :
    (s.svQueued l).rd64 SVI_cnt_LO.COUNT i = s.rd64 SVI_cnt_LO.COUNT i := by
  refine rd64_of_reg (reg_svQueued hwf l ?_) (reg_svQueued hwf l ?_) <;> simp only [Fld.addr, SVI_cnt_LO.COUNT, SVI_FIFO.LEVEL] <;> omega

theorem gooseFull_keep (s : State) : Keep 0x400 s (s.count TRP_cnt_LO.COUNT 16) := (Keep.refl _ s).count .trp rfl rfl

theorem gooseQueued_full {s : State} (f : RxFrame) (h : 64 ≤ s.ppl.gooseIn.length) : s.gooseQueued f = s.count TRP_cnt_LO.COUNT 16 :=
  if_pos h

theorem gooseQueued_room {s : State} (f : RxFrame) (h : s.ppl.gooseIn.length < 64) :
    (s.gooseQueued f).ppl = { s.ppl with gooseIn := s.ppl.gooseIn ++ [f] } := congrArg State.ppl (if_neg (Nat.not_le.2 h))

theorem gooseQueued_svIn (s : State) (f : RxFrame) : (s.gooseQueued f).ppl.svIn = s.ppl.svIn := by
  rcases Nat.lt_or_ge s.ppl.gooseIn.length 64 with h | h
  · rw [gooseQueued_room f h]
  · rw [gooseQueued_full f h, (gooseFull_keep s).parts .ppl rfl]

/-- No branch of step 1 touches the input FIFO. -/
theorem svSorted_svIn (s : State) (f : RxFrame) : (s.svSorted f).ppl.svIn = s.ppl.svIn := by
  unfold State.svSorted
  split
  case isTrue => rw [(State.decodeErr_keep s f).parts .ppl rfl]
  case isFalse =>
    split
    case isTrue =>
      have hcount : Keep 0x80 s (s.count SVI_cnt_LO.COUNT 1) := (Keep.refl _ s).count .svi rfl rfl
      rw [(State.raise_keep ..).parts .ppl rfl, hcount.parts .ppl rfl]
    case isFalse =>
      split
      case isTrue => exact gooseQueued_svIn s f
      case isFalse => rw [(State.ingest_keep s f).parts .ppl rfl]

theorem svSorted_disabled {s : State} (f : RxFrame) (hoff : s.on SVI_CFG.ENABLE = false) : s.svSorted f = s.decodeErr f := if_pos hoff

theorem svSorted_wrongType {s : State} {f : RxFrame} (hon : s.on SVI_CFG.ENABLE = true) (htype : etherType f.bytes ≠ f.queueType) :
    s.svSorted f = (s.count SVI_cnt_LO.COUNT 1).raise 201 [i8 f.port, i16 (etherType f.bytes)] :=
  (if_neg (by simp [hon])).trans (if_pos htype)

theorem svSorted_goose {s : State} {f : RxFrame} (hon : s.on SVI_CFG.ENABLE = true) (hgoose : f.goose = true)
    (htype : etherType f.bytes = 0x88B8) : s.svSorted f = s.gooseQueued f := by
  simp [State.svSorted, RxFrame.queueType, hon, hgoose, htype]

theorem svSorted_sampled {s : State} {f : RxFrame} (hon : s.on SVI_CFG.ENABLE = true) (hgoose : f.goose = false)
    (htype : etherType f.bytes = 0x88BA) : s.svSorted f = s.ingest f := by
  simp [State.svSorted, RxFrame.queueType, hon, hgoose, htype]

section

variable {s : State} {f : RxFrame} {l : List RxFrame} (hin : s.ppl.svIn = f :: l)
include hin

theorem svFrameIngest_taken_does : Does .svFrameIngest s (fun t => t.ppl.svIn = l) := by
  refine does_of_exec (exec_svFrameIngest hin) ?_
  rw [svSorted_svIn, svQueued_ppl]

variable (hwf : s.wf = true)
include hwf

/-- A frame that step 1 counts in counter `i` and reports as source `n`. -/
theorem svFrameIngest_refused_does {i n : Nat} {items : List Item} (hi : i < 8)
    (h : (s.svQueued l).svSorted f = ((s.svQueued l).count SVI_cnt_LO.COUNT i).raise n items) :
    Does .svFrameIngest s (fun t => t.svi = s.svi ∧ s.told n < t.told n ∧
      t.rd64 SVI_cnt_LO.COUNT i = (s.rd64 SVI_cnt_LO.COUNT i + 1) % 2 ^ 64) := by
  have hqueued := svQueued_keep s l
  obtain ⟨hsvi, htold, hcount⟩ := countRaise_shows (hqueued.wf hwf) hi n items
  rw [hqueued.parts .svi rfl] at hsvi
  rw [told_of_evt (hqueued.parts .evt rfl)] at htold
  rw [svQueued_count hwf] at hcount
  refine does_of_exec (exec_svFrameIngest hin) ?_
  rw [h]
  exact ⟨hsvi, htold, hcount⟩

theorem svFrameIngest_disabled_does (hoff : s.on SVI_CFG.ENABLE = false) : Does .svFrameIngest s (fun t => t.svi = s.svi ∧
    s.told 195 < t.told 195 ∧ t.rd64 SVI_cnt_LO.COUNT 2 = (s.rd64 SVI_cnt_LO.COUNT 2 + 1) % 2 ^ 64) :=
  svFrameIngest_refused_does hin hwf (by decide) (svSorted_disabled f ((on_svQueued_enable hwf l).trans hoff))

variable (hon : s.on SVI_CFG.ENABLE = true)
include hon

theorem svFrameIngest_wrongType_does (htype : etherType f.bytes ≠ f.queueType) : Does .svFrameIngest s (fun t => t.svi = s.svi ∧
    s.told 201 < t.told 201 ∧ t.rd64 SVI_cnt_LO.COUNT 1 = (s.rd64 SVI_cnt_LO.COUNT 1 + 1) % 2 ^ 64) :=
  svFrameIngest_refused_does hin hwf (by decide) (svSorted_wrongType ((on_svQueued_enable hwf l).trans hon) htype)

theorem exec_svFrameIngest_sampled (hgoose : f.goose = false) (htype : etherType f.bytes = 0x88BA) :
    exec .svFrameIngest s = .next ((s.svQueued l).ingest f) := by
  rw [exec_svFrameIngest hin, svSorted_sampled ((on_svQueued_enable hwf l).trans hon) hgoose htype]

variable (hgoose : f.goose = true) (htype : etherType f.bytes = 0x88B8)
include hgoose htype

theorem exec_svFrameIngest_goose : exec .svFrameIngest s = .next ((s.svQueued l).gooseQueued f) := by
  rw [exec_svFrameIngest hin, svSorted_goose ((on_svQueued_enable hwf l).trans hon) hgoose htype]

theorem svFrameIngest_gooseRoom_does (hroom : s.ppl.gooseIn.length < 64) :
    Does .svFrameIngest s (fun t => t.ppl.gooseIn = s.ppl.gooseIn ++ [f]) := by
  refine does_of_exec (exec_svFrameIngest_goose hin hwf hon hgoose htype) ?_
  rw [gooseQueued_room f (by rwa [svQueued_ppl]), svQueued_ppl]

theorem svFrameIngest_gooseFull_does (hfull : 64 ≤ s.ppl.gooseIn.length) : Does .svFrameIngest s (fun t =>
    t.ppl.gooseIn = s.ppl.gooseIn ∧ t.rd64 TRP_cnt_LO.COUNT 16 = (s.rd64 TRP_cnt_LO.COUNT 16 + 1) % 2 ^ 64) := by
  have hqueued := svQueued_keep s l
  refine does_of_exec (exec_svFrameIngest_goose hin hwf hon hgoose htype) ?_
  rw [gooseQueued_full f (by rwa [svQueued_ppl]), (gooseFull_keep _).parts .ppl rfl, svQueued_ppl, rd64_count_same (hqueued.wf hwf) rfl,
    hqueued.rd64In .trp hwf rfl rfl rfl]
  exact ⟨rfl, rfl⟩

end

/-! ## The scan for lost streams (R161) -/

theorem substate_fits {i : Nat} (hi : i < 1024) : SVI_SUBs_STATE.STATE.fits i 0 = true := by simp [Fld.fits, SVI_SUBs_STATE.STATE, hi]

/-- The register of a stream's state lies apart from those of the others and from those that the unit keeps beside them. -/
theorem substate_addr (i : Nat) : (∀ j, j ≠ i → SVI_SUBs_STATE.STATE.addr i 0 ≠ SVI_SUBs_STATE.STATE.addr j 0) ∧
    (∀ j, SVI_SUBs_STATE.STATE.addr i 0 ≠ SVI_SUBs_SEQ.LOST.addr j 0) ∧
    SVI_SUBs_STATE.STATE.addr i 0 ≠ SVI_STATES_A.COUNT_HI.addr 0 0 ∧ SVI_SUBs_STATE.STATE.addr i 0 ≠ SVI_STATES_B.COUNT_HI.addr 0 0 := by
  simp only [Fld.addr, SVI_SUBs_STATE.STATE, SVI_SUBs_SEQ.LOST, SVI_STATES_A.COUNT_HI, SVI_STATES_B.COUNT_HI]
  refine ⟨fun j hj => ?_, fun j => ?_, ?_, ?_⟩ <;> omega

theorem substate_showSubs {s : State} (hwf : s.wf = true) (i : Nat) :
    s.showSubs.rd SVI_SUBs_STATE.STATE i = s.rd SVI_SUBs_STATE.STATE i := by
  obtain ⟨-, -, hA, hB⟩ := substate_addr i
  unfold State.showSubs
  extract_lets n
  rw [rd_wr_addr (f := SVI_STATES_B.COUNT_LO) (wr_wf (wr_wf (wr_wf hwf ..) ..) ..) hB, rd_wr_addr (wr_wf (wr_wf hwf ..) ..) hB,
    rd_wr_addr (f := SVI_STATES_A.COUNT_LO) (wr_wf hwf ..) hA, rd_wr_addr hwf hA]

/-- A change of a stream's state is told and counted; of the states it changes that one alone. -/
theorem substate_setSubState {s : State} (hwf : s.wf = true) {i v : Nat} (hi : i < 1024) (hv : v < 8) (j : Nat) :
    (s.setSubState j v).rd SVI_SUBs_STATE.STATE i = if i = j then v else s.rd SVI_SUBs_STATE.STATE i := by
  have hw : (s.wr SVI_SUBs_STATE.STATE v j).wf = true := wr_wf hwf ..
  unfold State.setSubState
  extract_lets st
  split
  case isTrue hst =>
    split
    case isTrue hij => rw [hij]; exact hst
    case isFalse => rfl
  case isFalse =>
    rw [(State.raise_keep ..).rdIn .svi ((State.showSubs_keep _).wf hw) rfl (substate_fits hi) rfl, substate_showSubs hw]
    split
    case isTrue hij =>
      subst hij
      exact (rd_wr_same hwf (by decide) (substate_fits hi)).trans (Nat.mod_eq_of_lt hv)
    case isFalse hij => exact rd_wr_addr hwf ((substate_addr i).1 j (Ne.symm hij))

/-- The streams without an accepted frame within LOSS. -/
def State.silentSubs (s : State) : List Nat :=
  s.validSubs.filter (fun i =>
    (s.rd SVI_SUBs_STATE.STATE i == 1 || s.rd SVI_SUBs_STATE.STATE i == 2 || s.rd SVI_SUBs_STATE.STATE i == 3) &&
      decide ((s.sub i).lastTick + 100000 * subLoss (s.subE i) ≤ s.tick))

/-- A stream is Lost: the counts its map still misses are counted. -/
def State.loseSub (s : State) (i : Nat) : State :=
  (s.bump SVI_SUBs_SEQ.LOST i 0 ((s.sub i).depth - popCount (s.sub i).depth (s.sub i).map)).setSubState i 4

/-- The streams listed are Lost, one after another. -/
def State.loseSubs (s : State) (l : List Nat) : State := forEach l (fun i u => u.loseSub i) s

theorem exec_svLossScan (s : State) : exec .svLossScan s =
    .next ((s.advanceTo (s.nextGtc 100000)).loseSubs (s.advanceTo (s.nextGtc 100000)).silentSubs) := rfl

theorem loseSub_keep (s : State) (i : Nat) : Keep 0x400100084 s (s.loseSub i) :=
  (State.setSubState_keep ..).step ((Keep.refl _ s).bump .svi rfl rfl) rfl

theorem loseSubs_keep (s : State) (l : List Nat) : Keep 0x400100084 s (s.loseSubs l) :=
  .forEach (.refl _ s) fun i u => loseSub_keep u i

theorem substate_loseSub {s : State} (hwf : s.wf = true) {i : Nat} (hi : i < 1024) (j : Nat) :
    (s.loseSub j).rd SVI_SUBs_STATE.STATE i = if i = j then 4 else s.rd SVI_SUBs_STATE.STATE i := by
  have hbump (n : Nat) : (s.bump SVI_SUBs_SEQ.LOST j 0 n).rd SVI_SUBs_STATE.STATE i = s.rd SVI_SUBs_STATE.STATE i :=
    rd_wr_addr hwf ((substate_addr i).2.1 j)
  have hbumped (n : Nat) : (s.bump SVI_SUBs_SEQ.LOST j 0 n).wf = true := wr_wf hwf ..
  rw [State.loseSub, substate_setSubState (hbumped _) hi (by decide), hbump]

/-- Each stream listed is Lost, and stays so. -/
theorem substate_loseSubs {i : Nat} (hi : i < 1024) (l : List Nat) {s : State} (hwf : s.wf = true) :
    (s.loseSubs l).rd SVI_SUBs_STATE.STATE i = if i ∈ l then 4 else s.rd SVI_SUBs_STATE.STATE i := by
  induction l generalizing s with
  | nil => rfl
  | cons j l ih =>
    have htail := ih ((loseSub_keep s j).wf hwf)
    rw [substate_loseSub hwf hi] at htail
    refine htail.trans ?_
    by_cases hl : i ∈ l <;> by_cases hj : i = j <;> simp [hl, hj]

theorem subE_advanceTo (s : State) (t i : Nat) : (s.advanceTo t).subE i = s.subE i := by
  unfold State.advanceTo
  split <;> rfl

theorem validSubs_advanceTo (s : State) (t : Nat) : (s.advanceTo t).validSubs = s.validSubs := by
  unfold State.advanceTo
  split <;> rfl

theorem sub_advanceTo (s : State) (t i : Nat) : (s.advanceTo t).sub i = s.sub i := by
  rw [State.sub, (State.advanceTo_keep s t).parts .svi rfl, State.sub]

/-- A stream that is silent by now is found at any later tick too. -/
theorem mem_silentSubs_advanceTo {s : State} {t i : Nat} (hvalid : i ∈ s.validSubs) (hst : s.rd SVI_SUBs_STATE.STATE i ∈ [1, 2, 3])
    (hsilent : (s.sub i).lastTick + 100000 * subLoss (s.subE i) ≤ s.tick) : i ∈ (s.advanceTo t).silentSubs := by
  have htick : (s.sub i).lastTick + 100000 * subLoss (s.subE i) ≤ (s.advanceTo t).tick := hsilent.trans (State.advanceTo_keep s t).tick
  have hst' : s.rd SVI_SUBs_STATE.STATE i = 1 ∨ s.rd SVI_SUBs_STATE.STATE i = 2 ∨ s.rd SVI_SUBs_STATE.STATE i = 3 := by simpa using hst
  refine List.mem_filter.2 ⟨by rwa [validSubs_advanceTo], ?_⟩
  simp [rd_advanceTo, sub_advanceTo, subE_advanceTo, htick, hst', or_assoc]

theorem svLossScan_does {s : State} (hwf : s.wf = true) (hrun : s.tim.carried = false) : Does .svLossScan s (fun t =>
    s.tick < t.tick ∧ t.tim.gtc % 100000 = 0 ∧ ∀ i, i ∈ s.validSubs → i < 1024 → s.rd SVI_SUBs_STATE.STATE i ∈ [1, 2, 3] →
      (s.sub i).lastTick + 100000 * subLoss (s.subE i) ≤ s.tick → t.rd SVI_SUBs_STATE.STATE i = 4) := by
  have hnow := State.advanceTo_keep s (s.nextGtc 100000)
  have hlose := loseSubs_keep (s.advanceTo (s.nextGtc 100000)) (s.advanceTo (s.nextGtc 100000)).silentSubs
  refine does_of_exec (exec_svLossScan s) ⟨?_, ?_, fun i hvalid hi hst hsilent => ?_⟩
  · rw [hlose.parts .tick rfl, tick_advanceTo_nextGtc s (by decide)]
    exact tick_lt_nextGtc s (by decide)
  · rw [hlose.parts .tim rfl]
    exact gtc_advanceTo_nextGtc (by decide) (by decide) hrun
  · rw [substate_loseSubs hi _ (hnow.wf hwf), if_pos (mem_silentSubs_advanceTo hvalid hst hsilent)]

/-! ## The next key becomes current (R154) -/

/-- Key words `l` of slot `k` are copied from the next key to the current one. -/
def State.keyCopied (s : State) (k : Nat) (l : List Nat) : State :=
  forEach l (fun w u => u.wr SVI_KEYk_CURw.KEY (u.rd SVI_KEYk_NEXTw.KEY k w) k w) s

/-- Slot `k` has its next key, identifier `id`, as the current one, and no next key. -/
def State.keyMoved (s : State) (k id : Nat) : State :=
  (((s.keyCopied k (List.range 8)).wr SVI_KEYk_ID_CUR.ID id k).wr SVI_KEYk_CTRL.VALID_CUR (b2n true) k).wr
    SVI_KEYk_CTRL.VALID_NEXT (b2n false) k

theorem slot_fits {f : Fld} {k w : Nat} (hslots : f.n1 = 256) (hk : k < 256) (hw : w < f.n2) : f.fits k w = true := by
  simp [Fld.fits, hslots, hk, hw]

theorem keyCopied_keep (s : State) (k : Nat) (l : List Nat) : Keep 0x80 s (s.keyCopied k l) :=
  .forEach (.refl _ s) fun _ u => (Keep.refl _ u).wr .svi rfl rfl

theorem keyMoved_keep (s : State) (k id : Nat) : Keep 0x80 s (s.keyMoved k id) :=
  (((keyCopied_keep ..).wr .svi rfl rfl).wr .svi rfl rfl).wr .svi rfl rfl

/-- Copying a key changes no register but those of the words it copies. -/
theorem reg_keyCopied {k a : Nat} (l : List Nat) {s : State} (hwf : s.wf = true) (ha : ∀ w ∈ l, a ≠ SVI_KEYk_CURw.KEY.addr k w) :
    (s.keyCopied k l).reg a = s.reg a := by
  induction l generalizing s with
  | nil => rfl
  | cons w l ih =>
    obtain ⟨hw, hl⟩ := List.forall_mem_cons.1 ha
    exact (ih (wr_wf hwf ..) hl).trans (reg_wr_other hwf hw)

/-- Each word copied reads as the word of the next key. -/
theorem keyCopied_word {k w : Nat} (hk : k < 256) (hw : w < 8) {l : List Nat} (hl : ∀ x ∈ l, x < 8) (hmem : w ∈ l) {s : State}
    (hwf : s.wf = true) : (s.keyCopied k l).rd SVI_KEYk_CURw.KEY k w = s.rd SVI_KEYk_NEXTw.KEY k w := by
  induction l generalizing s with
  | nil => cases hmem
  | cons x l ih =>
    obtain ⟨hx, hl⟩ := List.forall_mem_cons.1 hl
    by_cases hwl : w ∈ l
    · refine (ih hl hwl (wr_wf hwf ..)).trans (rd_wr_addr hwf ?_)
      simp only [Fld.addr, SVI_KEYk_CURw.KEY, SVI_KEYk_NEXTw.KEY]
      omega
    · obtain rfl := (List.mem_cons.1 hmem).resolve_right hwl
      have hrest : ∀ y ∈ l, SVI_KEYk_CURw.KEY.addr k w ≠ SVI_KEYk_CURw.KEY.addr k y := by
        intro y hy heq
        simp only [Fld.addr, SVI_KEYk_CURw.KEY] at heq
        exact hwl ((show w = y by omega) ▸ hy)
      have hword := rd_wr_same (v := s.rd SVI_KEYk_NEXTw.KEY k w) hwf (f := SVI_KEYk_CURw.KEY) (by decide) (slot_fits rfl hk hw)
      exact (rd_of_reg (reg_keyCopied l (wr_wf hwf ..) hrest)).trans (hword.trans (rd_mod ..))

/-- What slot `k` shows once its next key, identifier `id`, has become current. -/
theorem keyMoved_shows {s : State} (hwf : s.wf = true) {k : Nat} (hk : k < 256) (id : Nat) :
    (s.keyMoved k id).on SVI_KEYk_CTRL.VALID_CUR k = true ∧ (s.keyMoved k id).on SVI_KEYk_CTRL.VALID_NEXT k = false ∧
    (s.keyMoved k id).rd SVI_KEYk_ID_CUR.ID k = id % 2 ^ 32 ∧
    ∀ w, w < 8 → (s.keyMoved k id).rd SVI_KEYk_CURw.KEY k w = s.rd SVI_KEYk_NEXTw.KEY k w := by
  have hcopied := (keyCopied_keep s k (List.range 8)).wf hwf
  have hid : ((s.keyCopied k (List.range 8)).wr SVI_KEYk_ID_CUR.ID id k).wf = true := wr_wf hcopied ..
  have hcur : (((s.keyCopied k (List.range 8)).wr SVI_KEYk_ID_CUR.ID id k).wr SVI_KEYk_CTRL.VALID_CUR (b2n true) k).wf = true :=
    wr_wf hid ..
  have hctrl {f : Fld} {w : Nat} (hf : f.addr k w ≠ SVI_KEYk_CTRL.VALID_CUR.addr k 0) :
      (s.keyMoved k id).rd f k w = ((s.keyCopied k (List.range 8)).wr SVI_KEYk_ID_CUR.ID id k).rd f k w :=
    (rd_wr_addr (f := SVI_KEYk_CTRL.VALID_NEXT) hcur hf).trans (rd_wr_addr hid hf)
  refine ⟨?_, on_wr_same hcur (by decide) rfl (slot_fits rfl hk (by decide)) false, ?_, fun w hw => ?_⟩
  · have hbits := rd_wr_bits (f := SVI_KEYk_CTRL.VALID_NEXT) (g := SVI_KEYk_CTRL.VALID_CUR) (v := b2n false) (i := k) (j := 0) (k := k)
      (l := 0) hcur (by decide) (by decide)
    exact (on_of_rd hbits).trans (on_wr_same hid (by decide) rfl (slot_fits rfl hk (by decide)) true)
  · refine (hctrl ?_).trans (rd_wr_same hcopied (by decide) (slot_fits rfl hk (by decide)))
    simp only [Fld.addr, SVI_KEYk_ID_CUR.ID, SVI_KEYk_CTRL.VALID_CUR]
    omega
  · have hword := keyCopied_word hk hw (fun x hx => List.mem_range.1 hx) (List.mem_range.2 hw) hwf
    refine (hctrl ?_).trans ((rd_wr_addr hcopied ?_).trans hword)
    · simp only [Fld.addr, SVI_KEYk_CURw.KEY, SVI_KEYk_CTRL.VALID_CUR]
      omega
    · simp only [Fld.addr, SVI_KEYk_CURw.KEY, SVI_KEYk_ID_CUR.ID]
      omega

theorem promoteKey_eq {s : State} (hwf : s.wf = true) {k : Nat} (h : s.on SVI_KEYk_CTRL.VALID_NEXT k = true) :
    s.promoteKey k = (s.keyMoved k (s.rd SVI_KEYk_ID_NEXT.ID k)).raise 202 [i8 k, i32 (s.rd SVI_KEYk_ID_NEXT.ID k)] := by
  have hid : (s.keyCopied k (List.range 8)).rd SVI_KEYk_ID_NEXT.ID k = s.rd SVI_KEYk_ID_NEXT.ID k := by
    refine rd_of_reg (reg_keyCopied _ hwf fun w _ => ?_)
    simp only [Fld.addr, SVI_KEYk_ID_NEXT.ID, SVI_KEYk_CURw.KEY]
    omega
  rw [← hid]
  exact if_neg (by simp [h])

/-- What a promotion of slot `k` does to it, and its event. -/
theorem promoteKey_shows {s : State} (hwf : s.wf = true) {k : Nat} (hk : k < 256) (h : s.on SVI_KEYk_CTRL.VALID_NEXT k = true) :
    (s.promoteKey k).on SVI_KEYk_CTRL.VALID_CUR k = true ∧ (s.promoteKey k).on SVI_KEYk_CTRL.VALID_NEXT k = false ∧
    (s.promoteKey k).rd SVI_KEYk_ID_CUR.ID k = s.rd SVI_KEYk_ID_NEXT.ID k ∧
    (∀ w, w < 8 → (s.promoteKey k).rd SVI_KEYk_CURw.KEY k w = s.rd SVI_KEYk_NEXTw.KEY k w) ∧
    s.told 202 < (s.promoteKey k).told 202 := by
  have hmoved := keyMoved_keep s k (s.rd SVI_KEYk_ID_NEXT.ID k)
  obtain ⟨hcur, hnext, hid, hwords⟩ := keyMoved_shows hwf hk (s.rd SVI_KEYk_ID_NEXT.ID k)
  have hraise {f : Fld} {w : Nat} (hf : f.inBlk .svi = true) (hfits : f.fits k w = true) :
      (s.promoteKey k).rd f k w = (s.keyMoved k (s.rd SVI_KEYk_ID_NEXT.ID k)).rd f k w := by
    rw [promoteKey_eq hwf h]
    exact (State.raise_keep ..).rdIn .svi (hmoved.wf hwf) hf hfits rfl
  refine ⟨?_, ?_, ?_, fun w hw => ?_, ?_⟩
  · exact (on_of_rd (hraise rfl (slot_fits rfl hk (by decide)))).trans hcur
  · exact (on_of_rd (hraise rfl (slot_fits rfl hk (by decide)))).trans hnext
  · exact (hraise rfl (slot_fits rfl hk (by decide))).trans (hid.trans (rd_mod ..))
  · exact (hraise rfl (slot_fits rfl hk hw)).trans (hwords w hw)
  · rw [promoteKey_eq hwf h, ← told_of_evt (hmoved.parts .evt rfl)]
    exact told_lt_raise ..

theorem exec_keyPromote (s : State) {k : Nat} (hk : k < 256) : exec (.keyPromote k) s = .next (s.promoteKey k) := if_pos hk

/-- The GTC at which the next key of slot `k` is due. -/
def State.keyDue (s : State) (k : Nat) : Nat :=
  (s.rd SVI_KEYk_NEXT_FROM_LO.SEC k + s.rd SVI_KEYk_NEXT_FROM_HI.SEC k % 2 ^ 16 * 2 ^ 32) * nsPerSec

theorem exec_keyAutoPromote {s : State} {k : Nat} (hk : k < 256) (hauto : s.on SVI_KEYk_CTRL.AUTO k = true)
    (hnext : s.on SVI_KEYk_CTRL.VALID_NEXT k = true) :
    exec (.keyAutoPromote k) s = .next ((s.advanceTo (s.tickOfGtc (s.keyDue k))).promoteKey k) :=
  if_neg (by simp [hauto, hnext, hk])

theorem keyAutoPromote_does {s : State} (hwf : s.wf = true) {k : Nat} (hk : k < 256) (hauto : s.on SVI_KEYk_CTRL.AUTO k = true)
    (hnext : s.on SVI_KEYk_CTRL.VALID_NEXT k = true) : Does (.keyAutoPromote k) s (fun t => s.tickOfGtc (s.keyDue k) ≤ t.tick ∧
      t.on SVI_KEYk_CTRL.VALID_NEXT k = false ∧ t.rd SVI_KEYk_ID_CUR.ID k = s.rd SVI_KEYk_ID_NEXT.ID k) := by
  have hnow := State.advanceTo_keep s (s.tickOfGtc (s.keyDue k))
  obtain ⟨-, hgone, hid, -, -⟩ := promoteKey_shows (hnow.wf hwf) hk ((on_of_rd (rd_advanceTo ..)).trans hnext)
  rw [rd_advanceTo] at hid
  exact does_of_exec (exec_keyAutoPromote hk hauto hnext)
    ⟨(advanceTo_le_tick ..).trans (State.promoteKey_keep ..).tick, hgone, hid⟩

/-- Settles O33: each frame by the branch of step 1 that takes it, the scan by the streams it finds, and a promotion by the registers of
its slot. -/
theorem ingestCommands : Obligations.IngestCommands := by
  unfold Obligations.IngestCommands
  refine ⟨?taken, ?disabled, ?wrongType, ?gooseRoom, ?gooseFull, ?sampled, ?scan, ?promote, ?autoPromote⟩
  case taken => exact fun s f l hin => svFrameIngest_taken_does hin
  case disabled => exact fun s f l hwf hin hoff => svFrameIngest_disabled_does hin hwf hoff
  case wrongType => exact fun s f l hwf hin hon htype => svFrameIngest_wrongType_does hin hwf hon htype
  case gooseRoom =>
    exact fun s f l hwf hin hon hgoose htype hroom => svFrameIngest_gooseRoom_does hin hwf hon hgoose htype hroom
  case gooseFull =>
    exact fun s f l hwf hin hon hgoose htype hfull => svFrameIngest_gooseFull_does hin hwf hon hgoose htype hfull
  case sampled =>
    exact fun s f l hwf hin hon hgoose htype => does_of_exec (exec_svFrameIngest_sampled hin hwf hon hgoose htype) rfl
  case scan => exact fun s hwf hrun => svLossScan_does hwf hrun
  case promote => exact fun s k hwf hk hnext => does_of_exec (exec_keyPromote s hk) (promoteKey_shows hwf hk hnext)
  case autoPromote => exact fun s k hwf hk hauto hnext => keyAutoPromote_does hwf hk hauto hnext

end Sys2Proof.Machine

/-!
The jobs and the posted buffers of the network, measurement and management functions: the job or the buffer entry that each command
takes, and what a posted entry leaves of its ring.
-/
namespace Sys2Proof.Machine

/-! ## Posting a buffer entry (R187, R299, R456) -/

/-- A ring record that is not the default one is read back, whatever the table of rings. -/
theorem ring_setRing_of_ne (s : State) (g : Nat) {r : RingSt} (hr : r ≠ default) : (s.setRing g r).ring g = r :=
  cellGet_cellSet_ne s.rings g hr

/-- A ring record that lists a job is not the default one. -/
theorem ringSt_ne_default {r : RingSt} (hjobs : r.jobs ≠ []) : r ≠ default := fun h => hjobs (h ▸ rfl)

/-- The oldest entry of ring `g` with opcode `op` that may be posted. -/
def State.postable (s : State) (g op : Nat) : Option Job :=
  (s.ring g).jobs.find? (fun j => j.done.isNone && !j.posted && j.ready && j.opcode == op)

/-- Posting marks that entry and leaves the registers and what the device has sent. -/
theorem postBuffer_posts {s : State} {g op : Nat} {j : Job} (h : s.postable g op = some j) :
    (∃ x ∈ ((s.postBuffer g op).ring g).jobs, x.idx = j.idx ∧ x.posted = true) ∧ (s.postBuffer g op).regs = s.regs ∧
      (s.postBuffer g op).sent = s.sent := by
  have hlisted : j ∈ (s.ring g).jobs := List.mem_of_find?_eq_some h
  have hpost : s.postBuffer g op = s.setRing g { s.ring g with
      jobs := (s.ring g).jobs.map (fun x => if x.idx == j.idx then { x with posted := true } else x) } := by
    rw [State.postable] at h
    rw [State.postBuffer, h]
  have hmarked : { j with posted := true } ∈
      (s.ring g).jobs.map (fun x => if x.idx == j.idx then { x with posted := true } else x) :=
    List.mem_map.2 ⟨j, hlisted, if_pos (beq_self_eq_true _)⟩
  rw [hpost, ring_setRing_of_ne _ _ (ringSt_ne_default (List.ne_nil_of_mem hmarked))]
  exact ⟨⟨_, hmarked, rfl, rfl⟩, rfl, rfl⟩

/-- Does the command post entries of ring `g` with opcode `op`, the ring being one that it serves? -/
def State.postsAs (s : State) (g : Nat) (c : Instr) (op : Nat) : Prop :=
  (c = .receiveBuffer g ∧ op = 0x81 ∧ s.rd QMG_RINGg_DESC.TYPE g = 2 ∧ s.pfOf (s.rd QMG_RINGg_DESC.FN g) = 1) ∨
  (c = .measurementBuffer g ∧ op = 0x80 ∧ s.rd QMG_RINGg_DESC.TYPE g = 2 ∧ s.pfOf (s.rd QMG_RINGg_DESC.FN g) = 2) ∨
  (c = .eventBuffer g ∧ op = 0x80 ∧ s.eventRing = some g)

theorem exec_postsAs {s : State} {g op : Nat} {c : Instr} (h : s.postsAs g c op) : exec c s = .next (s.postBuffer g op) := by
  rcases h with ⟨rfl, rfl, htype, hfn⟩ | ⟨rfl, rfl, htype, hfn⟩ | ⟨rfl, rfl, hring⟩
  · exact if_pos (by simp [htype, hfn])
  · exact if_pos (by simp [htype, hfn])
  · exact if_pos hring

/-! ## The jobs of the three functions (R299, R456) -/

theorem exec_transmit {s : State} {g : Nat} {j : Job} (htype : s.rd QMG_RINGg_DESC.TYPE g = 1)
    (hfn : s.pfOf (s.rd QMG_RINGg_DESC.FN g) = 1) (hjob : s.jobOf g 0x80 = some j) :
    exec (.transmit g) s = .next ((s.schEnqueue (s.ring g).bind
      { bytes := j.bytes, port := 40, cls := s.qClass (s.ring g).bind }).1.finishJob g j.idx 0) := by
  refine (if_neg (by simp [htype, hfn])).trans ?_
  rw [hjob]

/-- The JSEQ from which Journal Read is asked to copy. -/
def Job.wantedJseq (j : Job) : Nat := bitsOf (j.qw.getD 1 0) 0 48

/-- The lowest JSEQ that the journal holds. -/
def State.oldestJseq (s : State) : Nat := s.validJseqs.foldl min (2 ^ 48)

/-- The journal holds records, and none as old as the one asked for. -/
def State.jseqGone (s : State) (j : Job) : Bool := !s.validJseqs.isEmpty && decide (j.wantedJseq < s.oldestJseq)

/-- The records that Journal Read copies. -/
def State.journalCopied (s : State) (j : Job) : List Byte :=
  s.journalFrom (j.room / 64) (if s.jseqGone j then s.oldestJseq else j.wantedJseq)

theorem exec_journalRead {s : State} {g : Nat} {j : Job} (hfn : s.rd QMG_RINGg_DESC.FN g = 0) (hjob : s.jobOf g 0x81 = some j)
    (hlo : 64 ≤ j.room) (hhi : j.room ≤ 1048576) :
    exec (.journalRead g) s = .next (((s.writeFrags 0 (s.ring g).ro j.frags (s.journalCopied j)).ringCount g 5
      (s.journalCopied j).length).finishJob g j.idx (if s.jseqGone j then 0x120 else 0) 0 (s.journalCopied j).length
      ((s.journalCopied j).length / 64)) := by
  have hroom : ¬(j.room < 64 || 1048576 < j.room) = true := by simp [hlo, hhi]
  refine (if_neg (by simp [hfn])).trans ?_
  rw [hjob]
  refine (if_neg hroom).trans ?_
  rw [hfn]
  rfl

theorem exec_journalRead_refused {s : State} {g : Nat} {j : Job} (hfn : s.rd QMG_RINGg_DESC.FN g = 0)
    (hjob : s.jobOf g 0x81 = some j) (hroom : j.room < 64 ∨ 1048576 < j.room) :
    exec (.journalRead g) s = .next (s.finishJob g j.idx 4 24) := by
  refine (if_neg (by simp [hfn])).trans ?_
  rw [hjob]
  exact if_pos (by simpa using hroom)

theorem exec_raiseTest {s : State} {g : Nat} {j : Job} (hfn : s.rd QMG_RINGg_DESC.FN g = 0) (hjob : s.jobOf g 0x82 = some j) :
    exec (.raiseTest g) s = .next ((s.raise 498 [i64 (j.qw.getD 6 0)]).finishJob g j.idx 0) := by
  refine (if_neg (by simp [hfn])).trans ?_
  rw [hjob]

/-- Settles O16: each job by the equation of its command, and a buffer entry by what posting it leaves. -/
theorem functionJobs : Obligations.FunctionJobs := by
  unfold Obligations.FunctionJobs
  refine ⟨?transmit, ?posted, ?journal, ?journalRefused, ?raiseTest⟩
  case transmit => exact fun s g j htype hfn hjob => does_of_exec (exec_transmit htype hfn hjob) rfl
  case posted => exact fun s g c op j hc hj => does_of_exec (exec_postsAs hc) (postBuffer_posts hj)
  case journal => exact fun s g j hfn hjob hlo hhi => does_of_exec (exec_journalRead hfn hjob hlo hhi) rfl
  case journalRefused => exact fun s g j hfn hjob hroom => does_of_exec (exec_journalRead_refused hfn hjob hroom) rfl
  case raiseTest => exact fun s g j hfn hjob => does_of_exec (exec_raiseTest hfn hjob) rfl

end Sys2Proof.Machine

/-!
The alignment fabric: rows that come due, rows whose hold time ends, and the records that the ingest unit hands over, with what is
counted of those that the fabric discards.
-/
namespace Sys2Proof.Machine

/-! ## Rows (R176, R177) -/

theorem exec_rowInstant {s : State} {b : Nat} (hb : b < 128) (hrun : s.bayRuns b = true) : exec (.rowInstant b) s =
    .next (((s.advanceTo (s.tickOfGtc (rowInst (bayRowHz (s.bayE b)) (s.bay b).due))).reachDue b).sealAll b) :=
  if_neg (by simp [hb, hrun])

theorem exec_rowHoldExpire {s : State} {b : Nat} (hb : b < 128) (hrun : s.bayRuns b = true) (hdue : (s.bay b).next < (s.bay b).due) :
    exec (.rowHoldExpire b) s =
      .next (((s.advanceTo (s.tickOfGtc ((rowOf (s.bay b) (s.bay b).next).inst + (rowOf (s.bay b) (s.bay b).next).hold))).sealRow b
        false).sealAll b) :=
  if_neg (by simp [hb, hrun, hdue])

/-! ## The counters of the fabric -/

theorem fabricCount_fits {i : Nat} (hi : i < 13) : ALN_cnt_LO.COUNT.fits i 0 = true := by
  simp [Fld.fits, ALN_cnt_LO.COUNT, hi]

theorem fabricCount_keep (s : State) (i : Nat) : Keep 0x100 s (s.count ALN_cnt_LO.COUNT i) := (Keep.refl _ s).count .aln rfl rfl

theorem fabricCount_addr_inj {i k : Nat} (h : i ≠ k) : ALN_cnt_LO.COUNT.addr i 0 ≠ ALN_cnt_LO.COUNT.addr k 0 ∧
    ALN_cnt_LO.COUNT.addr i 0 ≠ ALN_cnt_LO.COUNT.addr k 0 + 4 ∧ ALN_cnt_LO.COUNT.addr i 0 + 4 ≠ ALN_cnt_LO.COUNT.addr k 0 ∧
    ALN_cnt_LO.COUNT.addr i 0 + 4 ≠ ALN_cnt_LO.COUNT.addr k 0 + 4 := by
  simp only [Fld.addr, ALN_cnt_LO.COUNT]
  omega

/-- The counters lie below the registers of the bays. -/
theorem fabricCount_addr_lt {i : Nat} (hi : i < 13) : ALN_cnt_LO.COUNT.addr i 0 + 4 < 0x210000 := by
  simp only [Fld.addr, ALN_cnt_LO.COUNT]
  omega

theorem fabricCount_other {s : State} (hwf : s.wf = true) {i k : Nat} (h : i ≠ k) :
    (s.count ALN_cnt_LO.COUNT k).rd64 ALN_cnt_LO.COUNT i = s.rd64 ALN_cnt_LO.COUNT i := by
  obtain ⟨hll, hlh, hhl, hhh⟩ := fabricCount_addr_inj h
  exact rd64_of_reg (reg_wr64_other hwf hll hlh) (reg_wr64_other hwf hhl hhh)

/-- A count of the fabric leaves the fields of the bays. -/
theorem rd_fabricCount {s : State} (hwf : s.wf = true) {i : Nat} (hi : i < 13) {f : Fld} (hf : 0x210000 ≤ f.base) (b : Nat) :
    (s.count ALN_cnt_LO.COUNT i).rd f b = s.rd f b := by
  have hlt := fabricCount_addr_lt hi
  have hge : 0x210000 ≤ f.addr b 0 := hf.trans (by simp only [Fld.addr]; omega)
  exact rd_of_reg (reg_wr64_other hwf (by omega) (by omega))

/-- A field of a bay that counts leaves the counters of the fabric. -/
theorem fabricCount_bump {s : State} (hwf : s.wf = true) {i : Nat} (hi : i < 13) {f : Fld} (hf : 0x210000 ≤ f.base) (b : Nat) :
    (s.bump f b).rd64 ALN_cnt_LO.COUNT i = s.rd64 ALN_cnt_LO.COUNT i := by
  have hlt := fabricCount_addr_lt hi
  have hge : 0x210000 ≤ f.addr b 0 := hf.trans (by simp only [Fld.addr]; omega)
  exact rd64_of_reg (reg_wr_other hwf (by omega)) (reg_wr_other hwf (by omega))

/-! ## The oldest record reaches the fabric (R174) -/

/-- A number in the live bank of a window rests on that bank alone. -/
theorem winNat_of_winLive {s t : State} (h : t.winLive = s.winLive) (w word n : Nat) :
    t.winNat w false word n = s.winNat w false word n := by
  induction n generalizing word with
  | zero => rfl
  | succ n ih => simp [State.winNat, State.winWord, h, ih]

/-- The oldest record has left the ingest unit, and is counted. -/
def State.recordTaken (s : State) (rest : List SvRec) : State :=
  State.count { s with svi := { s.svi with recs := rest } } ALN_cnt_LO.COUNT 0

/-- A record discarded for its bay `b`: counted in the fabric and in a field of the bay. -/
def State.recordDropped (s : State) (i : Nat) (f : Fld) (b : Nat) : State := (s.count ALN_cnt_LO.COUNT i).bump f b

/-- A record of the running bay `b` goes to its row; one without a sample number is late. -/
def State.recordAt (s : State) (b : Nat) (x : SvRec) : Option Nat → State
  | none => s.staleLate b x.sub
  | some n => s.placeAt b n x

/-- What the fabric does with a record. -/
def State.recordSorted (s : State) (x : SvRec) : State :=
  let v := s.subE x.sub
  let b := subBay v
  let e := s.bayE b
  if (!s.bayRuns b || misfit v e) = true then
    let s := s.recordDropped 9 ALN_BAYb_DROP.MISFIT b
    if (misfit v e && s.bayRuns b) = true then s.raise 228 [i8 b, i16 x.sub] else s
  else if (x.steps != s.rd TIM_STATUS.STEPS) = true then
    (s.recordDropped 10 ALN_BAYb_DROP.STEP_DISCARD b).raise 226 [i8 b, i16 x.sub]
  else if (bayNsPolicy e && x.cells.any (fun c => bitOf (cellQual c) 14)) = true then s.count ALN_cnt_LO.COUNT 11
  else s.recordAt b x (sampleNumber (subRate v) (subWrap v) x.smpCnt (x.stamp + 1000 * bayAdvUs e))

theorem exec_sampleRecordPlace {s : State} {x : SvRec} {rest : List SvRec} (h : s.svi.recs = x :: rest) :
    exec .sampleRecordPlace s = .next ((s.recordTaken rest).recordSorted x) := by
  change execSampleRecordPlace s = _
  unfold execSampleRecordPlace State.recordSorted State.recordTaken State.recordDropped
  simp only [h]
  split_ifs
  · rfl
  · rfl
  · rfl
  · rfl
  · split
    next hnumber => rw [hnumber, State.recordAt]
    next hnumber => rw [hnumber, State.recordAt]

theorem recordTaken_keep (s : State) (rest : List SvRec) : Keep 0x400000000100 s (s.recordTaken rest) :=
  ((Keep.refl _ s).svi _ rfl).count .aln rfl rfl

theorem recordTaken_svi (s : State) (rest : List SvRec) : (s.recordTaken rest).svi = { s.svi with recs := rest } :=
  (fabricCount_keep _ 0).parts .svi rfl

theorem went_recordTaken (s : State) (rest : List SvRec) (w e : Nat) :
    (s.recordTaken rest).went w false e = s.went w false e :=
  winNat_of_winLive ((recordTaken_keep s rest).parts .winLive rfl) ..

theorem subE_recordTaken (s : State) (rest : List SvRec) (i : Nat) : (s.recordTaken rest).subE i = s.subE i :=
  went_recordTaken s rest 4 i

theorem bayE_recordTaken (s : State) (rest : List SvRec) (b : Nat) : (s.recordTaken rest).bayE b = s.bayE b :=
  went_recordTaken s rest 5 b

theorem bayRuns_recordTaken {s : State} (hwf : s.wf = true) (rest : List SvRec) (b : Nat) :
    (s.recordTaken rest).bayRuns b = s.bayRuns b :=
  on_of_rd (rd_fabricCount (s := { s with svi := { s.svi with recs := rest } }) hwf (by decide) (by decide) b)

theorem steps_recordTaken {s : State} (hwf : s.wf = true) (rest : List SvRec) :
    (s.recordTaken rest).rd TIM_STATUS.STEPS = s.rd TIM_STATUS.STEPS :=
  (recordTaken_keep s rest).rdIn .tim hwf rfl rfl rfl

theorem recordDropped_keep (s : State) (i : Nat) {f : Fld} (hf : f.inBlk .aln = true) (b : Nat) :
    Keep 0x100 s (s.recordDropped i f b) :=
  (fabricCount_keep s i).bump .aln hf rfl

theorem recordDropped_count {s : State} (hwf : s.wf = true) {i : Nat} (hi : i < 13) {f : Fld} (hf : 0x210000 ≤ f.base) (b : Nat) :
    (s.recordDropped i f b).rd64 ALN_cnt_LO.COUNT i = (s.rd64 ALN_cnt_LO.COUNT i + 1) % 2 ^ 64 := by
  rw [State.recordDropped, fabricCount_bump ((fabricCount_keep s i).wf hwf) hi hf, rd64_count_same hwf (fabricCount_fits hi)]

/-- A record that is taken and dropped leaves the rows and counts once, and an event of it touches neither. -/
theorem recordTaken_dropped {s t : State} (hwf : s.wf = true) {rest : List SvRec} {i : Nat} (hi : i < 13) (h0 : i ≠ 0) {f : Fld}
    (hblk : f.inBlk .aln = true) (hf : 0x210000 ≤ f.base) {b : Nat}
    (hraise : Keep 0x400100004 ((s.recordTaken rest).recordDropped i f b) t) :
    t.aln = s.aln ∧ t.rd64 ALN_cnt_LO.COUNT i = (s.rd64 ALN_cnt_LO.COUNT i + 1) % 2 ^ 64 := by
  have htaken := recordTaken_keep s rest
  have hdrop := recordDropped_keep (s.recordTaken rest) i hblk b
  have hother : (s.recordTaken rest).rd64 ALN_cnt_LO.COUNT i = s.rd64 ALN_cnt_LO.COUNT i :=
    fabricCount_other (s := { s with svi := { s.svi with recs := rest } }) hwf h0
  refine ⟨(hraise.parts .aln rfl).trans ((hdrop.parts .aln rfl).trans (htaken.parts .aln rfl)), ?_⟩
  rw [hraise.rd64In .aln (hdrop.wf (htaken.wf hwf)) rfl (fabricCount_fits hi) rfl,
    recordDropped_count (htaken.wf hwf) hi hf, hother]

theorem recordAt_keep (s : State) (b : Nat) (x : SvRec) (n : Option Nat) : Keep 0x580f82bc06701f0c s (s.recordAt b x n) := by
  cases n with
  | none => exact (State.staleLate_keep ..).mono rfl
  | some n => exact State.placeAt_keep ..

/-- Whatever becomes of a record, the ingest unit is as it was. -/
theorem recordSorted_keep (s : State) (x : SvRec) : Keep 0x580f82bc06701f0c s (s.recordSorted x) := by
  have hdrop (i : Nat) {f : Fld} (hf : f.inBlk .aln = true) (b : Nat) : Keep 0x580f82bc06701f0c s (s.recordDropped i f b) :=
    (recordDropped_keep s i hf b).mono rfl
  unfold State.recordSorted
  refine .ite (.ite ((State.raise_keep ..).step (hdrop 9 rfl _) rfl) (hdrop 9 rfl _)) (.ite ?stepped (.ite ?notSync ?placed))
  case stepped => exact (State.raise_keep ..).step (hdrop 10 rfl _) rfl
  case notSync => exact (fabricCount_keep s 11).mono rfl
  case placed => exact recordAt_keep ..

/-! ## The oldest record, by what its bay and its subscription are -/

section
variable {s : State} {x : SvRec} {rest : List SvRec} (hrecs : s.svi.recs = x :: rest)
include hrecs

theorem sampleRecordPlace_taken_does : Does .sampleRecordPlace s (fun t => t.svi.recs = rest) := by
  have hsvi : ((s.recordTaken rest).recordSorted x).svi = (s.recordTaken rest).svi := (recordSorted_keep ..).parts .svi rfl
  exact does_of_exec (exec_sampleRecordPlace hrecs) (by rw [hsvi, recordTaken_svi])

variable (hwf : s.wf = true)
include hwf

theorem sampleRecordPlace_misfit_does
    (hbad : s.bayRuns (subBay (s.subE x.sub)) = false ∨ misfit (s.subE x.sub) (s.bayE (subBay (s.subE x.sub))) = true) :
    Does .sampleRecordPlace s (fun t => t.aln = s.aln ∧
      t.rd64 ALN_cnt_LO.COUNT 9 = (s.rd64 ALN_cnt_LO.COUNT 9 + 1) % 2 ^ 64) := by
  refine does_of_exec (exec_sampleRecordPlace hrecs) ?_
  rw [State.recordSorted]
  simp only [subE_recordTaken, bayE_recordTaken, bayRuns_recordTaken hwf]
  rw [if_pos (by simpa using hbad)]
  exact recordTaken_dropped hwf (by decide) (by decide) rfl (by decide) (.ite (State.raise_keep ..) (.refl _ _))

variable (hrun : s.bayRuns (subBay (s.subE x.sub)) = true)
  (hfit : misfit (s.subE x.sub) (s.bayE (subBay (s.subE x.sub))) = false)
include hrun hfit

theorem sampleRecordPlace_stepped_does (hsteps : x.steps ≠ s.rd TIM_STATUS.STEPS) :
    Does .sampleRecordPlace s (fun t => t.aln = s.aln ∧ s.told 226 < t.told 226 ∧
      t.rd64 ALN_cnt_LO.COUNT 10 = (s.rd64 ALN_cnt_LO.COUNT 10 + 1) % 2 ^ 64) := by
  refine does_of_exec (exec_sampleRecordPlace hrecs) ?_
  rw [State.recordSorted]
  simp only [subE_recordTaken, bayE_recordTaken, bayRuns_recordTaken hwf, steps_recordTaken hwf]
  rw [if_neg (by simp [hrun, hfit]), if_pos (by simpa using hsteps)]
  have htold := ((recordDropped_keep (s.recordTaken rest) 10 (f := ALN_BAYb_DROP.STEP_DISCARD) rfl
    (subBay (s.subE x.sub))).parts .evt rfl).trans ((recordTaken_keep s rest).parts .evt rfl)
  obtain ⟨haln, hcount⟩ := recordTaken_dropped hwf (i := 10) (f := ALN_BAYb_DROP.STEP_DISCARD) (by decide) (by decide) rfl
    (by decide) (State.raise_keep ..)
  exact ⟨haln, (told_of_evt htold 226).symm.trans_lt (told_lt_raise ..), hcount⟩

theorem exec_sampleRecordPlace_placed {n : Nat} (hsteps : x.steps = s.rd TIM_STATUS.STEPS)
    (hsync : (bayNsPolicy (s.bayE (subBay (s.subE x.sub))) && x.cells.any (fun c => bitOf (cellQual c) 14)) = false)
    (hnumber : sampleNumber (subRate (s.subE x.sub)) (subWrap (s.subE x.sub)) x.smpCnt
      (x.stamp + 1000 * bayAdvUs (s.bayE (subBay (s.subE x.sub)))) = some n) :
    exec .sampleRecordPlace s = .next ((s.recordTaken rest).placeAt (subBay (s.subE x.sub)) n x) := by
  rw [exec_sampleRecordPlace hrecs, State.recordSorted]
  simp only [subE_recordTaken, bayE_recordTaken, bayRuns_recordTaken hwf, steps_recordTaken hwf]
  rw [if_neg (by simp [hrun, hfit]), if_neg (by simp [hsteps]), if_neg (by simp [hsync]), hnumber, State.recordAt]

end

/-- Settles O19: the rows by the equations of their commands, and a record by what its bay and its subscription are. -/
theorem alignmentCommands : Obligations.AlignmentCommands := by
  unfold Obligations.AlignmentCommands
  refine ⟨?instant, ?holdExpire, ?taken, ?misfit, ?stepped, ?placed⟩
  case instant => exact fun s b hb hrun => does_of_exec (exec_rowInstant hb hrun) rfl
  case holdExpire => exact fun s b hb hrun hdue => does_of_exec (exec_rowHoldExpire hb hrun hdue) rfl
  case taken => exact fun s x rest hrecs => sampleRecordPlace_taken_does hrecs
  case misfit => exact fun s x rest hwf hrecs hbad => sampleRecordPlace_misfit_does hrecs hwf hbad
  case stepped =>
    exact fun s x rest hwf hrecs hrun hfit hsteps => sampleRecordPlace_stepped_does hrecs hwf hrun hfit hsteps
  case placed =>
    exact fun s x rest n hwf hrecs hrun hfit hsteps hsync hnumber =>
      does_of_exec (exec_sampleRecordPlace_placed hrecs hwf hrun hfit hsteps hsync hnumber) rfl

end Sys2Proof.Machine

/-!
The recorder: bursts from the write-combining buffer, triggers by the host, segments that close and their export, and a harmonic record
that is written.
-/
namespace Sys2Proof.Machine

/-! ## Bursts (R247) -/

theorem exec_recBurstWrite_gathered {s : State} {b : Nat} {x : BufRow} {l : List BufRow} (hbuf : s.bufOf b = x :: l)
    (hfull : 65536 ≤ bufBytes (x :: l)) : exec (.recBurstWrite b) s = .next (s.flushBay b) := by
  change execRecBurstWrite b s = _
  rw [execRecBurstWrite, hbuf]
  exact if_pos hfull

theorem exec_recBurstWrite_aged {s : State} {b : Nat} {x : BufRow} {l : List BufRow} (hbuf : s.bufOf b = x :: l)
    (hfull : bufBytes (x :: l) < 65536) :
    exec (.recBurstWrite b) s = .next ((s.advanceTo (x.arrived + 1000 * max 1 (s.rd REC_FLUSH.FLUSH_US))).flushBay b) := by
  change execRecBurstWrite b s = _
  rw [execRecBurstWrite, hbuf]
  exact if_neg hfull.not_ge

/-! ## Triggers by the host (R248) -/

/-- A write of REC_CMD names a capture set. -/
def State.nameSet (s : State) (val : Word) : State := s.wr REC_CMD.SET (bitsOf val.toNat 0 4)

theorem nameSet_keep (s : State) (val : Word) : Keep 0x800 s (s.nameSet val) := (Keep.refl _ s).wr .recd rfl rfl

/-- A register other than REC_CMD is as it was. -/
theorem rd_nameSet {s : State} (hwf : s.wf = true) (val : Word) {f : Fld} (hf : f.addr 0 0 ≠ REC_CMD.SET.addr 0 0) :
    (s.nameSet val).rd f = s.rd f :=
  rd_wr_addr hwf hf

theorem set_nameSet {s : State} (hwf : s.wf = true) (val : Word) : (s.nameSet val).rd REC_CMD.SET = bitsOf val.toNat 0 4 :=
  (rd_wr_same hwf (by decide) rfl).trans (Nat.mod_mod ..)

theorem enable_nameSet {s : State} (hwf : s.wf = true) (val : Word) : (s.nameSet val).on REC_CFG.ENABLE = s.on REC_CFG.ENABLE :=
  on_of_rd (rd_nameSet hwf val (by decide))

/-- The GTC value that REC_CMD_TIME holds. -/
def State.cmdTime (s : State) : Nat :=
  s.rd REC_CMD_TIME_NS.T % 2 ^ 30 + (s.rd REC_CMD_TIME_SEC_LO.T + s.rd REC_CMD_TIME_SEC_HI.T % 2 ^ 16 * 2 ^ 32) * nsPerSec

/-- The trigger that a write of REC_CMD with GO is. -/
def State.cmdTrigger (s : State) : Trigger :=
  if s.cmdTime = 0 then { tick := s.tick, gtc := s.tim.gtc } else { tick := s.tickAt s.cmdTime, gtc := s.cmdTime }

theorem exec_recCmdTrigger (s : State) (val : Word) : exec (.recCmdTrigger val) s =
    if !bitOf val.toNat 4 || !(s.nameSet val).on REC_CFG.ENABLE then .next (s.nameSet val)
    else .next ((s.nameSet val).fireSet (bitsOf val.toNat 0 4) (s.nameSet val).cmdTrigger) := rfl

theorem cmdTime_nameSet {s : State} (hwf : s.wf = true) (val : Word) : (s.nameSet val).cmdTime = s.cmdTime := by
  simp only [State.cmdTime, rd_nameSet hwf val (f := REC_CMD_TIME_NS.T) (by decide),
    rd_nameSet hwf val (f := REC_CMD_TIME_SEC_LO.T) (by decide), rd_nameSet hwf val (f := REC_CMD_TIME_SEC_HI.T) (by decide)]

/-- A REC_CMD_TIME of 0 is the tick of the write. -/
theorem cmdTrigger_nameSet {s : State} (hwf : s.wf = true) (val : Word) (h : s.cmdTime = 0) :
    (s.nameSet val).cmdTrigger = { tick := s.tick, gtc := s.tim.gtc } := by
  have hk := nameSet_keep s val
  have htick : (s.nameSet val).tick = s.tick := hk.parts .tick rfl
  have htim : (s.nameSet val).tim = s.tim := hk.parts .tim rfl
  rw [State.cmdTrigger, if_pos ((cmdTime_nameSet hwf val).trans h), htick, htim]

theorem exec_recCmdTrigger_now {s : State} {val : Word} (hwf : s.wf = true) (hgo : bitOf val.toNat 4 = true)
    (hen : s.on REC_CFG.ENABLE = true) (htime : s.cmdTime = 0) : exec (.recCmdTrigger val) s =
      .next ((s.nameSet val).fireSet (bitsOf val.toNat 0 4) { tick := s.tick, gtc := s.tim.gtc }) := by
  rw [exec_recCmdTrigger, if_neg (by simp [hgo, enable_nameSet hwf, hen]), cmdTrigger_nameSet hwf val htime]

theorem exec_recCmdTrigger_idle {s : State} {val : Word} (hwf : s.wf = true)
    (h : bitOf val.toNat 4 = false ∨ s.on REC_CFG.ENABLE = false) : exec (.recCmdTrigger val) s = .next (s.nameSet val) := by
  rw [exec_recCmdTrigger, if_pos (by simpa [enable_nameSet hwf] using h)]

/-! ## Segments (R253) -/

theorem exec_segmentClose {s : State} {b c : Nat} {g : Seg}
    (hopen : s.rec_.segs.find? (fun g => g.bay == b && g.set == c && g.close.isNone) = some g) :
    exec (.segmentClose b c) s = .next ((s.advanceTo (s.segDue g)).closeSeg g false) := by
  change execSegmentClose b c s = _
  rw [execSegmentClose, hopen]

/-! ## Exports (R255, R256) -/

/-- The segment whose export comes first is one of the segments there are. -/
theorem firstClosed_mem {s : State} {g : Seg} (h : s.firstClosed = some g) : g ∈ s.rec_.segs := by
  unfold State.firstClosed at h
  refine List.foldlRecOn (motive := fun m => ∀ g, m = some g → g ∈ s.rec_.segs) _ _ (by simp) (fun m hm x hx => ?_) g h
  have hx : x ∈ s.rec_.segs := List.mem_of_mem_filter hx
  cases m with
  | none => simpa using hx
  | some y =>
    dsimp only
    split
    · simpa using hx
    · exact hm

theorem exec_segmentExportStart {s : State} {g : Seg} (hexp : s.rec_.exp = none) (hon : s.rd PWR_STATUS.PSTATE = 0)
    (hfirst : s.firstClosed = some g) : exec .segmentExportStart s = .next (s.bulkTouch.exportBegin g) := by
  change execSegmentExportStart s = _
  rw [execSegmentExportStart, if_neg (by simp [hexp, hon]), hfirst]

/-- A second after the failure: the export is no longer one that failed. -/
def State.retryReached (s : State) : State :=
  let u := s.advanceTo (s.rec_.failedAt - 1 + nsPerSec)
  { u with rec_ := { u.rec_ with failedAt := 0 } }

section
variable {s : State} {x : Export} {g : Seg} (hexp : s.rec_.exp = some x)
  (hseg : s.rec_.segs.find? (fun g => g.id == x.seg) = some g)
include hexp hseg

theorem exec_segmentExportStepDone {good : Bool} (hdone : x.done = some good) : exec .segmentExportStepDone s =
    if !good then .next (s.exportFail (s.rd REC_SETc_MAX.NS g.set) x)
    else if x.step < 3 then .next (s.exportStep g { x with step := x.step + 1, done := none })
    else .next (s.exportDone g x) := by
  change execSegmentExportStepDone s = _
  simp only [execSegmentExportStepDone, hexp, hdone, hseg]

theorem exec_segmentExportRetry (hfailed : s.rec_.failedAt ≠ 0) (hon : s.rd PWR_STATUS.PSTATE = 0) :
    exec .segmentExportRetry s = .next (s.retryReached.exportBegin g) := by
  change execSegmentExportRetry s = _
  simp only [execSegmentExportRetry, hexp, hseg]
  exact if_neg (by simp [hfailed, hon])

end

theorem retryReached_keep (s : State) : Keep 0x4000000000000 (s.advanceTo (s.rec_.failedAt - 1 + nsPerSec)) s.retryReached :=
  (Keep.refl _ _).recd _ rfl

theorem le_tick_retryReached (s : State) : s.rec_.failedAt - 1 + nsPerSec ≤ s.retryReached.tick :=
  (advanceTo_le_tick ..).trans (retryReached_keep s).tick

theorem segs_retryReached (s : State) : s.retryReached.rec_.segs = s.rec_.segs := by
  have hrec : (s.advanceTo (s.rec_.failedAt - 1 + nsPerSec)).rec_ = s.rec_ := (State.advanceTo_keep ..).parts .recd rfl
  rw [State.retryReached, hrec]

/-- The export is set back to its first step and counted as failed. -/
def State.exportSetBack (s : State) (r : Nat) (x : Export) : State :=
  ((s.setExp (some { x with step := 1, owed := 0, bad := false, done := none })).wr REC_NSr_HEAD.BUSY 0 r).count REC_cnt_LO.COUNT 4

theorem exportSetBack_keep (s : State) (r : Nat) (x : Export) : Keep 0x800
    (s.setExp (some { x with step := 1, owed := 0, bad := false, done := none })) (s.exportSetBack r x) :=
  ((Keep.refl _ _).wr .recd rfl rfl).count .recd rfl rfl

/-- The moment of the failure is noted for the retry. -/
def State.exportFailed (s : State) (r : Nat) (x : Export) : State :=
  { s.exportSetBack r x with rec_ := { (s.exportSetBack r x).rec_ with failedAt := (s.exportSetBack r x).tick + 1 } }

theorem exportFail_eq (s : State) (r : Nat) (x : Export) : s.exportFail r x = (s.exportFailed r x).raise 291 [i8 r] := rfl

/-- A failed export waits for its retry from step 1, and is reported (R256). -/
theorem exportFail_shows (s : State) (r : Nat) (x : Export) : (s.exportFail r x).rec_.failedAt = s.tick + 1 ∧
    s.told 291 < (s.exportFail r x).told 291 ∧ ∃ y, (s.exportFail r x).rec_.exp = some y ∧ y.step = 1 ∧ y.seg = x.seg := by
  have hback := exportSetBack_keep s r x
  have htick : (s.exportSetBack r x).tick = s.tick := hback.parts .tick rfl
  have hevt : (s.exportFailed r x).evt = s.evt := hback.parts .evt rfl
  have hexp : (s.exportSetBack r x).rec_.exp = some { x with step := 1, owed := 0, bad := false, done := none } :=
    congrArg RecSt.exp (hback.parts .recd rfl)
  have hrec : (s.exportFail r x).rec_ = { (s.exportSetBack r x).rec_ with failedAt := (s.exportSetBack r x).tick + 1 } :=
    (State.raise_keep (s.exportFailed r x) 291 [i8 r] none none).parts .recd rfl
  refine ⟨?failedAt, ?told, { x with step := 1, owed := 0, bad := false, done := none }, ?exp, rfl, rfl⟩
  case failedAt => rw [hrec, htick]
  case told =>
    rw [exportFail_eq, ← told_of_evt hevt]
    exact told_lt_raise ..
  case exp => rw [hrec, hexp]

/-! ## Harmonic records (R205) -/

theorem exec_harmonicRecordWritten {s : State} {c : Nat} {j : HarmJob} (hjob : (s.pch c).harm = some j) :
    exec (.harmonicRecordWritten c) s =
      .next ((((s.setPch c { s.pch c with harm := none }).putRecord (s.harmAddr j.slot) j.bytes).count PHE_cnt_LO.COUNT 3).cal 434) := by
  change execHarmonicRecordWritten c s = _
  rw [execHarmonicRecordWritten, hjob]
  rfl

/-- Settles O30: each command from its `exec_` equation, and a failed export by what it shows. -/
theorem recorderCommands : Obligations.RecorderCommands := by
  unfold Obligations.RecorderCommands
  refine ⟨?gathered, ?aged, ?fired, ?named, ?closed, ?started, ?step, ?finished, ?failed, ?retried, ?harmonic⟩
  case gathered => exact fun s b x l hbuf hfull => does_of_exec (exec_recBurstWrite_gathered hbuf hfull) rfl
  case aged =>
    exact fun s b x l hbuf hfull => does_of_exec (exec_recBurstWrite_aged hbuf hfull)
      ⟨(advanceTo_le_tick ..).trans (State.flushBay_keep ..).tick, rfl⟩
  case fired =>
    exact fun s val hwf hgo hen hns hlo hhi =>
      does_of_exec (exec_recCmdTrigger_now hwf hgo hen (by simp [State.cmdTime, hns, hlo, hhi])) rfl
  case named =>
    exact fun s val hwf h => does_of_exec (exec_recCmdTrigger_idle hwf h)
      ⟨set_nameSet hwf val, (nameSet_keep s val).parts .recd rfl⟩
  case closed =>
    exact fun s b c g hopen => does_of_exec (exec_segmentClose hopen)
      ⟨(advanceTo_le_tick ..).trans (State.closeSeg_keep ..).tick, rfl⟩
  case started =>
    exact fun s g hexp hon hfirst => does_of_exec (exec_segmentExportStart hexp hon hfirst) ⟨rfl, firstClosed_mem hfirst⟩
  case step =>
    exact fun s x g hexp hdone hseg hstep =>
      does_of_exec ((exec_segmentExportStepDone hexp hseg hdone).trans (if_pos hstep)) rfl
  case finished =>
    exact fun s x g hexp hdone hseg hstep =>
      does_of_exec ((exec_segmentExportStepDone hexp hseg hdone).trans (if_neg hstep.not_gt)) rfl
  case failed =>
    exact fun s x g hexp hdone hseg => does_of_exec (exec_segmentExportStepDone hexp hseg hdone) (exportFail_shows ..)
  case retried =>
    intro s x g hexp hfailed hon hseg
    have hlate := (le_tick_retryReached s).trans (State.exportBegin_keep s.retryReached g).tick
    rw [nsPerSec] at hlate
    exact does_of_exec (exec_segmentExportRetry hexp hseg hfailed hon)
      ⟨by omega, s.retryReached, rfl, segs_retryReached s, rfl⟩
  case harmonic => exact fun s c j _ hjob => does_of_exec (exec_harmonicRecordWritten hjob) rfl

end Sys2Proof.Machine

/-!
The Parting path: publications that are sent again, writes to the arm and unlatch registers, the two scans, and the intake of GOOSE frames.
-/
namespace Sys2Proof.Machine

/-! ## Publications (R231) -/

theorem pub_advanceTo (s : State) (t p : Nat) : (s.advanceTo t).pub p = s.pub p := by
  rw [State.pub, (State.advanceTo_keep s t).parts .trp rfl, State.pub]

/-- The interval of publication `p` is over. -/
def State.pubDue (s : State) (p : Nat) : State := (s.advanceTo (s.pub p).next).setPub p { s.pub p with woken := false }

theorem exec_gooseRetransmit {s : State} {p : Nat} (hrun : (s.pub p).running = true) (hopen : s.pubOpen p = true)
    (hwoken : (s.pub p).woken = false) : exec (.gooseRetransmit p) s = .next ((s.pubDue p).pubAgain p) := by
  have hgo : (!(s.pub p).running || !s.pubOpen p || ((s.pub p).woken && !s.pubPortUp p)) = false := by simp [hrun, hopen, hwoken]
  change execGooseRetransmit p s = _
  rw [execGooseRetransmit, hgo, State.pubDue]
  simp only [pub_advanceTo]
  rfl

theorem le_tick_pubAgain (s : State) (p : Nat) : (s.pub p).next ≤ ((s.pubDue p).pubAgain p).tick :=
  calc (s.pub p).next ≤ (s.advanceTo (s.pub p).next).tick := advanceTo_le_tick ..
    _ ≤ (s.pubDue p).tick := (State.setPub_keep ..).tick
    _ ≤ ((s.pubDue p).pubAgain p).tick := (State.pubAgain_keep ..).tick

/-! ## One bit of an array of words -/

/-- A word with one bit set names that bit alone. -/
theorem bits_two_pow {j : Nat} (hj : j < 32) : (List.range 32).filter (bitOf (BitVec.ofNat 32 (2 ^ j)).toNat) = [j] := by
  have hword : (BitVec.ofNat 32 (2 ^ j)).toNat = 2 ^ j := Nat.mod_eq_of_lt (Nat.pow_lt_pow_right (by decide) hj)
  have hbit : bitOf (2 ^ j) = fun i => decide (i = j) := funext fun i => by simp [bitOf_eq_testBit, Nat.testBit_two_pow, eq_comm]
  rw [hword, hbit, List.filter_eq, List.count_eq_one_of_mem List.nodup_range (List.mem_range.2 hj), List.replicate_one]

theorem bitAt_setBitAt_same {s : State} (hwf : s.wf = true) {f : Fld} (hlo : f.lo = 0) (hw : f.w = 32) {k : Nat}
    (hf : f.fits (k / 32) 0 = true) (b : Bool) : (s.setBitAt f k b).bitAt f k = b := by
  rw [State.bitAt, State.setBitAt, rd_wr_same hwf (by omega) hf, hw, bitOf_mod_two_pow _ (Nat.mod_lt _ (by decide)), bitOf_setBit]

/-! ## The arm and unlatch registers (R223, R225, R344) -/

/-- The command of a write to an arm register. -/
def armCmd (set : Bool) (k : Nat) (val : Word) : Instr := if set then .termArmSet k val else .termArmClear k val

theorem exec_armCmd (s : State) {k : Nat} (hk : k < 8) (set : Bool) (val : Word) :
    exec (armCmd set k val) s = .next (s.armWrite k val.toNat set) := by
  cases set
  case false => exact if_neg (Nat.not_le.2 hk)
  case true => exact if_neg (Nat.not_le.2 hk)

/-- Of a gated term, a write to its arm register changes the wanted bit. -/
theorem armWrite_gated {s : State} {k j : Nat} (hj : j < 32) (hgate : s.gatedTerm (32 * k + j) = true) (set : Bool) :
    s.armWrite k (BitVec.ofNat 32 (2 ^ j)).toNat set = s.setBitAt RMA_ARM_WANTk.WANT (32 * k + j) set := by
  rw [State.armWrite, bits_two_pow hj]
  exact if_pos hgate

theorem armWant_fits {t : Nat} (ht : t < 256) : RMA_ARM_WANTk.WANT.fits (t / 32) 0 = true := by
  have hword : t / 32 < 8 := by omega
  simp [Fld.fits, RMA_ARM_WANTk.WANT, hword]

theorem termstate_fits {t : Nat} (ht : t < 256) : TRP_TERMt_STATUS.STATE.fits t 0 = true := by simp [Fld.fits, TRP_TERMt_STATUS.STATE, ht]

/-- The wanted bit of term `t` is all that changes. -/
theorem armWant_shows {s : State} (hwf : s.wf = true) {t : Nat} (ht : t < 256) (b : Bool) :
    (s.setBitAt RMA_ARM_WANTk.WANT t b).bitAt RMA_ARM_WANTk.WANT t = b ∧ (s.setBitAt RMA_ARM_WANTk.WANT t b).trp = s.trp ∧
      (s.setBitAt RMA_ARM_WANTk.WANT t b).termState t = s.termState t := by
  have hkeep : Keep 0x4000 s (s.setBitAt RMA_ARM_WANTk.WANT t b) := (Keep.refl _ s).setBitAt .rma rfl rfl
  exact ⟨bitAt_setBitAt_same hwf rfl rfl (armWant_fits ht) b, hkeep.parts .trp rfl, hkeep.rdIn .trp hwf rfl (termstate_fits ht) rfl⟩

theorem exec_termUnlatch {s : State} {k j : Nat} (hk : k < 8) (hj : j < 32) (hst : s.termState (32 * k + j) ≠ 0) :
    exec (.termUnlatch k (BitVec.ofNat 32 (2 ^ j))) s =
      .next ((s.wr TRP_TERMt_STATUS.UNLATCH 1 (32 * k + j)).termEval (32 * k + j) none []).recHandle := by
  change execTermUnlatch k (BitVec.ofNat 32 (2 ^ j)) s = _
  rw [execTermUnlatch, if_neg (Nat.not_le.2 hk), bits_two_pow hj]
  simp only [forEach, if_neg hst]

/-! ## Scans at the multiples of the GTC -/

/-- What a scan does at the next multiple of `p` leaves the clock and the GTC there. -/
theorem scan_clock {m p : Nat} {s t : State} (hp : 0 < p) (hwrap : p ∣ gtcRange) (hrun : s.tim.carried = false)
    (k : Keep m (s.advanceTo (s.nextGtc p)) t) (htick : m.testBit Part.tick.bit = false) (htim : m.testBit Part.tim.bit = false) :
    s.tick < t.tick ∧ t.tim.gtc % p = 0 := by
  rw [k.parts .tick htick, k.parts .tim htim, tick_advanceTo_nextGtc s hp]
  exact ⟨tick_lt_nextGtc s hp, gtc_advanceTo_nextGtc hp hwrap hrun⟩

/-! ## The scan for stale comparators (R220) -/

/-- The comparators without an evaluation within STALE. -/
def State.staleCmps (s : State) : List Nat :=
  s.validCmps.filter (fun c => 2 ≤ s.cmpState c && decide ((s.cmp c).lastTick + 100000 * cmpStale (s.cmpE c) < s.tick))

/-- The comparators listed are Blocked. -/
def State.blockCmps (s : State) (l : List Nat) : State := forEach l (fun c u => u.setCmpState c ((u.cmp c).lastN - 1) (1, 0)) s

/-- The comparators listed are Blocked, and the terms they belong to are evaluated. -/
def State.staleTo (s : State) (l : List Nat) : State := (s.blockCmps l).evalTerms l (fun _ => none) l

theorem exec_comparatorStaleScan (s : State) : exec .comparatorStaleScan s =
    .next ((s.advanceTo (s.nextGtc 100000)).staleTo (s.advanceTo (s.nextGtc 100000)).staleCmps) := rfl

theorem blockCmps_keep (s : State) (l : List Nat) : Keep 0x4004000400100404 s (s.blockCmps l) :=
  .forEach (.refl _ s) fun _ _ => State.setCmpState_keep ..

theorem staleTo_keep (s : State) (l : List Nat) : Keep 0x5006020400100c04 s (s.staleTo l) :=
  (State.evalTerms_keep ..).step ((blockCmps_keep s l).mono rfl) rfl

/-! ## The counters of the path -/

theorem tripCount_fits {i : Nat} (hi : i < 18) : TRP_cnt_LO.COUNT.fits i 0 = true := by simp [Fld.fits, TRP_cnt_LO.COUNT, hi]

theorem tripCount_keep (s : State) (i : Nat) : Keep 0x400 s (s.count TRP_cnt_LO.COUNT i) := (Keep.refl _ s).count .trp rfl rfl

theorem tripCount_other {s : State} (hwf : s.wf = true) {i k : Nat} (h : i ≠ k) :
    (s.count TRP_cnt_LO.COUNT k).rd64 TRP_cnt_LO.COUNT i = s.rd64 TRP_cnt_LO.COUNT i := by
  refine rd64_of_reg (reg_wr64_other hwf ?_ ?_) (reg_wr64_other hwf ?_ ?_)
  all_goals
    simp only [Fld.addr, TRP_cnt_LO.COUNT]
    omega

/-- The counters lie below the other registers that the intake writes. -/
theorem tripCount_addr_lt {i : Nat} (hi : i < 18) : TRP_cnt_LO.COUNT.addr i 0 + 4 < 0x300190 := by
  simp only [Fld.addr, TRP_cnt_LO.COUNT]
  omega

theorem tripCount_wr {s : State} (hwf : s.wf = true) {i : Nat} (hi : i < 18) {f : Fld} (hf : 0x300190 ≤ f.base) (v k : Nat) :
    (s.wr f v k).rd64 TRP_cnt_LO.COUNT i = s.rd64 TRP_cnt_LO.COUNT i := by
  have hlt := tripCount_addr_lt hi
  have hge : 0x300190 ≤ f.addr k 0 := hf.trans (by simp only [Fld.addr]; omega)
  exact rd64_of_reg (reg_wr_other hwf (by omega)) (reg_wr_other hwf (by omega))

/-! ## Frames received (R242) -/

/-- From `s` to `t` no further frame counts as received (counter 7). -/
structure SameReceived (s t : State) : Prop where
  wf : s.wf = true → t.wf = true
  received : s.wf = true → t.rd64 TRP_cnt_LO.COUNT 7 = s.rd64 TRP_cnt_LO.COUNT 7

namespace SameReceived

variable {s t u : State}

theorem refl (s : State) : SameReceived s s := ⟨id, fun _ => rfl⟩

theorem trans (h1 : SameReceived s t) (h2 : SameReceived t u) : SameReceived s u :=
  ⟨fun h => h2.wf (h1.wf h), fun h => (h2.received (h1.wf h)).trans (h1.received h)⟩

theorem ite {c : Prop} [Decidable c] (ht : SameReceived s t) (hu : SameReceived s u) : SameReceived s (if c then t else u) := by
  split
  · exact ht
  · exact hu

/-- An operation that leaves the registers of the path alone. -/
theorem keep {m : Nat} (h : SameReceived s t) (k : Keep m t u) (hm : m.testBit Blk.trp.bit = false) : SameReceived s u :=
  h.trans ⟨k.wf, fun hwf => k.rd64In .trp hwf rfl rfl hm⟩

/-- Another counter counts. -/
theorem count (h : SameReceived s t) {i : Nat} (hi : 7 ≠ i) : SameReceived s (t.count TRP_cnt_LO.COUNT i) :=
  h.trans ⟨(tripCount_keep t i).wf, fun hwf => tripCount_other hwf hi⟩

theorem wr (h : SameReceived s t) {f : Fld} {v k : Nat} (hf : 0x300190 ≤ f.base) : SameReceived s (t.wr f v k) :=
  h.trans ⟨fun hwf => wr_wf hwf .., fun hwf => tripCount_wr hwf (by decide) hf v k⟩

theorem raise (h : SameReceived s t) (n : Nat) (items : List Item) : SameReceived s (t.raise n items) :=
  h.keep (State.raise_keep ..) rfl

theorem setGsub (h : SameReceived s t) (g : Nat) (y : GsubSt) : SameReceived s (t.setGsub g y) := h.keep (State.setGsub_keep ..) rfl

theorem setGsubState (h : SameReceived s t) (g v : Nat) : SameReceived s (t.setGsubState g v) :=
  h.trans (.ite (.refl t) (((refl t).wr (by decide)).raise ..))

theorem gooseSlot (h : SameReceived s t) (g : Nat) (f : RxFrame) (a : App) (first : Bool) : SameReceived s (t.gooseSlot g f a first) := by
  refine h.trans ?_
  unfold State.gooseSlot
  extract_lets prod used slots sec q0 q1 q2 q3 q4 b base stored trp next
  clear_value b base
  have hstored : SameReceived t stored := ((refl t).keep (State.rtWrite_keep ..) rfl).wr (by decide)
  have hnext : SameReceived t next := hstored.trans ⟨id, fun _ => rfl⟩
  exact .ite (((refl t).wr (by decide)).raise ..) (.ite (hnext.raise ..) hnext)

theorem gooseAccept (h : SameReceived s t) (g : Nat) (f : RxFrame) (a : App) (x : Goose) (auth new : Bool) :
    SameReceived s (t.gooseAccept g f a x auth new) := by
  refine h.trans ?_
  unfold State.gooseAccept
  extract_lets first counted gsub noted numbered v flagged valued shown
  have hnumbered : SameReceived t numbered := (((refl t).keep (State.cal_keep ..) rfl).setGsub ..).wr (by decide)
  have hflagged : SameReceived t flagged := ((hnumbered.wr (by decide)).wr (by decide)).wr (by decide)
  have hvalued : SameReceived t valued := ((hflagged.wr (by decide)).wr (by decide)).wr (by decide)
  have hshown : SameReceived t shown := ((hvalued.wr (by decide)).setGsubState ..).gooseSlot ..
  exact .ite (hnumbered.wr (by decide)) (.ite (hshown.keep (State.recTrigger_keep ..) rfl) hshown)

theorem gooseSequence (h : SameReceived s t) (g : Nat) (f : RxFrame) (a : App) (x : Goose) (auth : Bool) :
    SameReceived s (t.gooseSequence g f a x auth) := by
  unfold State.gooseSequence
  refine .ite (h.gooseAccept ..) ?_
  cases gooseSeq (t.rd TRP_GSUBs_STNUM.NUM g) (t.rd TRP_GSUBs_SQNUM.NUM g) x.st x.sq with
  | again => exact h.gooseAccept ..
  | new => exact h.gooseAccept ..
  | dup => exact (h.setGsub ..).count (by decide)
  | stale => exact .ite ((h.raise ..).gooseAccept ..) (((h.setGsub ..).count (by decide)).raise ..)

theorem gooseMalformed (h : SameReceived s t) (who : Item) (a : App) : SameReceived s (t.gooseMalformed who a) :=
  (h.count (by decide)).raise ..

/-- Counter 7 counts before the checks of R238; none of their outcomes counts there. -/
theorem gooseChecks (s : State) (f : RxFrame) (a : App) : SameReceived s (s.gooseChecks f a) := by
  have h := refl s
  unfold State.gooseChecks
  split
  case h_1 => exact h.gooseMalformed ..
  case h_2 =>
    extract_lets +onlyGivenNames hit
    cases hit with
    | none => exact (h.count (by decide)).raise ..
    | some g =>
      extract_lets +onlyGivenNames sim window
      refine .ite (h.count (by decide)) ?_
      extract_lets +onlyGivenNames old now
      refine .ite ((h.setGsub ..).count (by decide)) ?_
      extract_lets +onlyGivenNames admitted
      have hadmitted : SameReceived s admitted := h.setGsub ..
      split
      case h_1 => exact (hadmitted.count (by decide)).raise ..
      case h_2 =>
        split
        case h_1 => exact hadmitted.gooseMalformed ..
        case h_2 => exact .ite ((hadmitted.count (by decide)).raise ..) (hadmitted.gooseSequence ..)

end SameReceived

/-! ## The intake of GOOSE frames (R238, R242) -/

/-- The oldest frame has left the intake FIFO, which holds `l`, and counts as received. -/
def State.gooseTaken (s : State) (l : List RxFrame) : State :=
  State.count { s with ppl := { s.ppl with gooseIn := l } } TRP_cnt_LO.COUNT 7

/-- A frame whose application part does not read is counted and reported. -/
def State.gooseUnread (s : State) (f : RxFrame) : State :=
  (s.count TRP_cnt_LO.COUNT 10).raise 265 [i8 f.port, i16 (beAt f.bytes (payloadAt f.bytes) 2)]

section

variable {s : State} {f : RxFrame} {l : List RxFrame} (hin : s.ppl.gooseIn = f :: l)
include hin

theorem exec_gooseFrameIntake_unread (hread : readApp f.bytes = none) :
    exec .gooseFrameIntake s = .next ((s.gooseTaken l).gooseUnread f) := by
  change execGooseFrameIntake s = _
  simp only [execGooseFrameIntake, hin, hread]
  rfl

theorem exec_gooseFrameIntake_read {a : App} (hread : readApp f.bytes = some a) :
    exec .gooseFrameIntake s = .next ((s.gooseTaken l).gooseChecks f a) := by
  change execGooseFrameIntake s = _
  simp only [execGooseFrameIntake, hin, hread]
  rfl

end

theorem gooseTaken_keep (s : State) (l : List RxFrame) : Keep 0x40000000400 s (s.gooseTaken l) :=
  ((Keep.refl _ s).ppl _ rfl).count .trp rfl rfl

theorem gooseTaken_gooseIn (s : State) (l : List RxFrame) : (s.gooseTaken l).ppl.gooseIn = l :=
  congrArg PplSt.gooseIn ((tripCount_keep _ 7).parts .ppl rfl)

theorem gooseTaken_received {s : State} (hwf : s.wf = true) (l : List RxFrame) :
    (s.gooseTaken l).rd64 TRP_cnt_LO.COUNT 7 = (s.rd64 TRP_cnt_LO.COUNT 7 + 1) % 2 ^ 64 :=
  rd64_count_same (s := { s with ppl := { s.ppl with gooseIn := l } }) hwf (tripCount_fits (by decide))

theorem gooseTaken_count {s : State} (hwf : s.wf = true) (l : List RxFrame) {i : Nat} (hi : i ≠ 7) :
    (s.gooseTaken l).rd64 TRP_cnt_LO.COUNT i = s.rd64 TRP_cnt_LO.COUNT i :=
  tripCount_other (s := { s with ppl := { s.ppl with gooseIn := l } }) hwf hi

theorem gooseUnread_keep (s : State) (f : RxFrame) : Keep 0x400100404 s (s.gooseUnread f) :=
  (State.raise_keep ..).step ((tripCount_keep s 10).mono rfl) rfl

theorem SameReceived.gooseUnread (s : State) (f : RxFrame) : SameReceived s (s.gooseUnread f) := ((refl s).count (by decide)).raise ..

/-- What is done with a frame taken neither touches the FIFO nor counts it again. -/
theorem gooseIntake_shows {m : Nat} {s t : State} (hwf : s.wf = true) {l : List RxFrame} (k : Keep m (s.gooseTaken l) t)
    (hm : m.testBit Part.ppl.bit = false) (h : SameReceived (s.gooseTaken l) t) :
    t.ppl.gooseIn = l ∧ t.rd64 TRP_cnt_LO.COUNT 7 = (s.rd64 TRP_cnt_LO.COUNT 7 + 1) % 2 ^ 64 := by
  rw [k.parts .ppl hm, h.received ((gooseTaken_keep s l).wf hwf), gooseTaken_received hwf]
  exact ⟨gooseTaken_gooseIn s l, rfl⟩

theorem gooseFrameIntake_does {s : State} (hwf : s.wf = true) {f : RxFrame} {l : List RxFrame} (hin : s.ppl.gooseIn = f :: l) :
    Does .gooseFrameIntake s (fun t => t.ppl.gooseIn = l ∧
      t.rd64 TRP_cnt_LO.COUNT 7 = (s.rd64 TRP_cnt_LO.COUNT 7 + 1) % 2 ^ 64) := by
  cases hread : readApp f.bytes with
  | none =>
    exact does_of_exec (exec_gooseFrameIntake_unread hin hread) (gooseIntake_shows hwf (gooseUnread_keep ..) rfl (.gooseUnread ..))
  | some a =>
    exact does_of_exec (exec_gooseFrameIntake_read hin hread)
      (gooseIntake_shows hwf (State.gooseChecks_keep ..) rfl (.gooseChecks ..))

theorem gooseUnread_shows {s : State} (hwf : s.wf = true) (f : RxFrame) (l : List RxFrame) :
    s.told 265 < ((s.gooseTaken l).gooseUnread f).told 265 ∧ ((s.gooseTaken l).gooseUnread f).trp = s.trp ∧
      ((s.gooseTaken l).gooseUnread f).rd64 TRP_cnt_LO.COUNT 10 = (s.rd64 TRP_cnt_LO.COUNT 10 + 1) % 2 ^ 64 := by
  have htaken := gooseTaken_keep s l
  have hcounted := (tripCount_keep (s.gooseTaken l) 10).step (htaken.mono (m' := 0x40000000400) rfl) rfl
  refine ⟨?told, ?trp, ?count⟩
  case told =>
    rw [← told_of_evt (hcounted.parts .evt rfl)]
    exact told_lt_raise ..
  case trp => rw [(gooseUnread_keep ..).parts .trp rfl, htaken.parts .trp rfl]
  case count =>
    rw [State.gooseUnread, (State.raise_keep ..).rd64In .trp (hcounted.wf hwf) rfl (tripCount_fits (by decide)) rfl,
      rd64_count_same (htaken.wf hwf) (tripCount_fits (by decide)), gooseTaken_count hwf l (by decide)]

/-! ## The scan for lost subscriptions (R240) -/

theorem gsubstate_fits {g : Nat} (hg : g < 2048) : TRP_GSUBs_STATE.STATE.fits g 0 = true := by simp [Fld.fits, TRP_GSUBs_STATE.STATE, hg]

theorem gsubstate_count {s : State} (hwf : s.wf = true) {i : Nat} (hi : i < 18) (g : Nat) :
    (s.count TRP_cnt_LO.COUNT i).rd TRP_GSUBs_STATE.STATE g = s.rd TRP_GSUBs_STATE.STATE g := by
  have hlt := tripCount_addr_lt hi
  refine rd_of_reg (reg_wr64_other hwf ?_ ?_)
  all_goals
    simp only [Fld.addr, TRP_GSUBs_STATE.STATE] at hlt ⊢
    omega

/-- A change of a subscription's state is told; of the states it changes that one alone. -/
theorem gsubstate_setGsubState {s : State} (hwf : s.wf = true) {g v : Nat} (hg : g < 2048) (hv : v < 4) (j : Nat) :
    (s.setGsubState j v).rd TRP_GSUBs_STATE.STATE g = if g = j then v else s.rd TRP_GSUBs_STATE.STATE g := by
  unfold State.setGsubState
  extract_lets st
  split
  case isTrue hst =>
    split
    case isTrue hgj => rw [hgj]; exact hst
    case isFalse => rfl
  case isFalse =>
    rw [(State.raise_keep ..).rdIn .trp (wr_wf hwf ..) rfl (gsubstate_fits hg) rfl]
    split
    case isTrue hgj =>
      subst hgj
      exact (rd_wr_same hwf (by decide) (gsubstate_fits hg)).trans (Nat.mod_eq_of_lt hv)
    case isFalse hgj =>
      refine rd_wr_addr hwf ?_
      simp only [Fld.addr, TRP_GSUBs_STATE.STATE]
      omega

/-- The subscriptions whose timeAllowedtoLive is over. -/
def State.lateGsubs (s : State) : List Nat :=
  s.validGsubs.filter (fun g => s.rd TRP_GSUBs_STATE.STATE g == 1 &&
    decide ((s.gsub g).lastTick + 1000000 * (s.gsub g).tal < s.tick))

/-- A subscription is Lost, and counted. -/
def State.loseGsub (s : State) (g : Nat) : State := (s.count TRP_cnt_LO.COUNT 15).setGsubState g 2

/-- The subscriptions listed are Lost, one after another. -/
def State.loseGsubs (s : State) (l : List Nat) : State := forEach l (fun g u => u.loseGsub g) s

theorem exec_gooseLossScan (s : State) : exec .gooseLossScan s =
    .next ((s.advanceTo (s.nextGtc 1000000)).loseGsubs (s.advanceTo (s.nextGtc 1000000)).lateGsubs) := rfl

theorem loseGsub_keep (s : State) (g : Nat) : Keep 0x400100404 s (s.loseGsub g) :=
  (State.setGsubState_keep ..).step ((tripCount_keep s 15).mono rfl) rfl

theorem loseGsubs_keep (s : State) (l : List Nat) : Keep 0x400100404 s (s.loseGsubs l) :=
  .forEach (.refl _ s) fun g u => loseGsub_keep u g

theorem gsubstate_loseGsub {s : State} (hwf : s.wf = true) {g : Nat} (hg : g < 2048) (j : Nat) :
    (s.loseGsub j).rd TRP_GSUBs_STATE.STATE g = if g = j then 2 else s.rd TRP_GSUBs_STATE.STATE g := by
  rw [State.loseGsub, gsubstate_setGsubState ((tripCount_keep s 15).wf hwf) hg (by decide), gsubstate_count hwf (by decide)]

/-- Each subscription listed is Lost, and stays so. -/
theorem gsubstate_loseGsubs {g : Nat} (hg : g < 2048) (l : List Nat) {s : State} (hwf : s.wf = true) :
    (s.loseGsubs l).rd TRP_GSUBs_STATE.STATE g = if g ∈ l then 2 else s.rd TRP_GSUBs_STATE.STATE g := by
  induction l generalizing s with
  | nil => rfl
  | cons j l ih =>
    have htail := ih ((loseGsub_keep s j).wf hwf)
    rw [gsubstate_loseGsub hwf hg] at htail
    refine htail.trans ?_
    by_cases hl : g ∈ l <;> simp [hl]

theorem validGsubs_advanceTo (s : State) (t : Nat) : (s.advanceTo t).validGsubs = s.validGsubs := by
  unfold State.advanceTo
  split <;> rfl

theorem gsub_advanceTo (s : State) (t g : Nat) : (s.advanceTo t).gsub g = s.gsub g := by
  rw [State.gsub, (State.advanceTo_keep s t).parts .trp rfl, State.gsub]

/-- A subscription that is late by now is found at any later tick too. -/
theorem mem_lateGsubs_advanceTo {s : State} {t g : Nat} (hvalid : g ∈ s.validGsubs) (hst : s.rd TRP_GSUBs_STATE.STATE g = 1)
    (hlate : (s.gsub g).lastTick + 1000000 * (s.gsub g).tal < s.tick) : g ∈ (s.advanceTo t).lateGsubs := by
  have htick := hlate.trans_le (State.advanceTo_keep s t).tick
  refine List.mem_filter.2 ⟨by rwa [validGsubs_advanceTo], ?_⟩
  simp [rd_advanceTo, gsub_advanceTo, hst, htick]

theorem gooseLossScan_does {s : State} (hwf : s.wf = true) (hrun : s.tim.carried = false) : Does .gooseLossScan s (fun t =>
    s.tick < t.tick ∧ t.tim.gtc % 1000000 = 0 ∧ ∀ g, g ∈ s.validGsubs → g < 2048 → s.rd TRP_GSUBs_STATE.STATE g = 1 →
      (s.gsub g).lastTick + 1000000 * (s.gsub g).tal < s.tick → t.rd TRP_GSUBs_STATE.STATE g = 2) := by
  have hnow := State.advanceTo_keep s (s.nextGtc 1000000)
  have hlose := loseGsubs_keep (s.advanceTo (s.nextGtc 1000000)) (s.advanceTo (s.nextGtc 1000000)).lateGsubs
  obtain ⟨htick, hgtc⟩ := scan_clock (by decide) (by decide) hrun hlose rfl rfl
  refine does_of_exec (exec_gooseLossScan s) ⟨htick, hgtc, fun g hvalid hg hst hlate => ?_⟩
  rw [gsubstate_loseGsubs hg _ (hnow.wf hwf), if_pos (mem_lateGsubs_advanceTo hvalid hst hlate)]

/-- Settles O34: each command from its `exec_` equation; a frame taken counts once, since no check counts it again (`SameReceived`), and
a scan keeps the clock where it stands (`scan_clock`). -/
theorem tripCommands : Obligations.TripCommands := by
  unfold Obligations.TripCommands
  refine ⟨?retransmit, ?armSet, ?armClear, ?gated, ?unlatch, ?stale, ?intake, ?unread, ?read, ?loss⟩
  case retransmit =>
    exact fun s p hrun hopen hwoken => does_of_exec (exec_gooseRetransmit hrun hopen hwoken) ⟨le_tick_pubAgain s p, rfl⟩
  case armSet => exact fun s k val hk => does_of_exec (exec_armCmd s hk true val) rfl
  case armClear => exact fun s k val hk => does_of_exec (exec_armCmd s hk false val) rfl
  case gated =>
    intro s k j set hwf hk hj hgate
    have hexec := exec_armCmd s hk set (BitVec.ofNat 32 (2 ^ j))
    rw [armWrite_gated hj hgate] at hexec
    exact does_of_exec hexec (armWant_shows hwf (by omega) set)
  case unlatch => exact fun s k j _ hk hj hst => does_of_exec (exec_termUnlatch hk hj hst) rfl
  case stale =>
    exact fun s hrun => does_of_exec (exec_comparatorStaleScan s) (scan_clock (by decide) (by decide) hrun (staleTo_keep ..) rfl rfl)
  case intake => exact fun s f l hwf hin => gooseFrameIntake_does hwf hin
  case unread =>
    exact fun s f l hwf hin hread => does_of_exec (exec_gooseFrameIntake_unread hin hread) (gooseUnread_shows hwf f l)
  case read => exact fun s f l a hin hread => does_of_exec (exec_gooseFrameIntake_read hin hread) rfl
  case loss => exact fun s hwf hrun => gooseLossScan_does hwf hrun

end Sys2Proof.Machine

/-!
Every command completes; what changes the boot flash, the OTP and the loader area; and what cores, channels, the DMA engine and the
memories leave as it was.
-/
namespace Sys2Proof.Machine

/-- Settles O46: `exec_gives` gives each command its next state, and `Keep` says that the queue stays and the clock does not run back. -/
theorem everyCommandCompletes : Obligations.EveryCommandCompletes := by
  unfold Obligations.EveryCommandCompletes
  intro c s
  obtain ⟨t, hexec, k⟩ := exec_gives c s
  exact ⟨t, hexec, k.pending, k.tick⟩

/-- A part that a command's line in the table `touch` does not name is as it was. -/
theorem same_of_exec {c : Instr} {s t : State} (h : exec c s = .next t) (p : Part) (hp : (touch c).testBit p.bit = false) :
    p.same s t := (exec_keep h).parts p hp

/-- Only the end of an operation of the update engine, and a reset, reach the boot flash. -/
theorem flash_of_exec {c : Instr} {s t : State} (h : exec c s = .next t) (hresets : Instr.resets c = false)
    (hprogram : ∀ d, c ≠ .flashProgramDone d) (herase : c ≠ .flashEraseDone) : t.boot.flash = s.boot.flash := by
  refine same_of_exec h .flash ?_
  cases c
  case flashProgramDone d => exact absurd rfl (hprogram d)
  case flashEraseDone => exact absurd rfl herase
  any_goals contradiction
  all_goals (rw [touch]; rfl)

/-- Only a provision and a floor word, and a reset, reach the OTP. -/
theorem otp_of_exec {c : Instr} {s t : State} (h : exec c s = .next t) (hresets : Instr.resets c = false)
    (hprovision : ∀ a d, c ≠ .recoveryProvision a d) (hfloor : c ≠ .floorProgram) (hdone : c ≠ .floorProgramDone) :
    Part.otp.same s t := by
  refine same_of_exec h .otp ?_
  cases c
  case recoveryProvision a d => exact absurd rfl (hprovision a d)
  case floorProgram => exact absurd rfl hfloor
  case floorProgramDone => exact absurd rfl hdone
  any_goals contradiction
  all_goals (rw [touch]; rfl)

/-- Only a load, and a reset, reach the loader area. -/
theorem loader_of_exec {c : Instr} {s t : State} (h : exec c s = .next t) (hresets : Instr.resets c = false)
    (hload : ∀ a n d, c ≠ .recoveryLoad a n d) : t.boot.loader = s.boot.loader := by
  refine same_of_exec h .loader ?_
  cases c
  case recoveryLoad a n d => exact absurd rfl (hload a n d)
  any_goals contradiction
  all_goals (rw [touch]; rfl)

/-- Settles O49: the line in `touch` of every other command names neither the flash nor the OTP nor the loader area. -/
theorem onlyTheirCommandsChangeFlashAndOtp : Obligations.OnlyTheirCommandsChangeFlashAndOtp := by
  unfold Obligations.OnlyTheirCommandsChangeFlashAndOtp
  intro c s t h hresets
  exact ⟨flash_of_exec h hresets, otp_of_exec h hresets, loader_of_exec h hresets⟩

/-- Settles O56: the line in `touch` of each command of cores, channels, the engine and the memories stays within the zones and parts
named. -/
theorem coreAndEngineFrame : Obligations.CoreAndEngineFrame := by
  unfold Obligations.CoreAndEngineFrame
  refine ⟨fun c s t hc h => only_of_exec h ?spindles, fun c s t hc h => only_of_exec h ?moving⟩
  all_goals
    cases c
    any_goals contradiction
    all_goals (rw [touch]; rfl)

end Sys2Proof.Machine

/-!
Two groups of statements about the host interface that fail: MSIX.SIZE can show more entries than the MSI-X table has room for, and a
clause about doorbells asks for no canonical store of registers.
-/
namespace Sys2Proof.Machine

/-! ## The unmasking of a vector beyond the table (R268) -/

/-- PF0 shows 2,049 vectors, one more than lie below its pending-bit array, and entry 96 is pending. -/
def vectorBeyondTable : State :=
  { regs := [(HIF_FNf_MSIX.SIZE.addr 0 0, 0x800#32), (pbaAddr 0 96, 1#32)] }

/-- The mask word of entry 2,048 would lie where the pending bits of entries 96 to 127 do. -/
theorem msixAddr_beyond : msixAddr 0 2048 3 = pbaAddr 0 96 := by decide

/-- The mask bit of entry 2,048 is cleared. -/
def vectorBeyondTable.unmasked : State :=
  vectorBeyondTable.setReg (pbaAddr 0 96) (BitVec.ofNat 32 (setBit (vectorBeyondTable.reg (pbaAddr 0 96)).toNat 0 false))

theorem exec_msixVectorUnmask_beyond :
    exec (.msixVectorUnmask 0 2048) vectorBeyondTable = .next vectorBeyondTable.unmasked := by
  have hopen : vectorBeyondTable.unmasked.msixOpen 0 = false := by decide +kernel
  change execMsixVectorUnmask 0 2048 vectorBeyondTable = _
  rw [execMsixVectorUnmask, if_neg (by decide +kernel), msixAddr_beyond, ← vectorBeyondTable.unmasked, State.msixFlush, if_pos (by simp [hopen])]

/-- Refutes O10: the clause on a function that may not send takes every MSIX.SIZE, and with one above 2,047 the mask word of entry 2,048
is a word of the pending-bit array (`msixAddr_beyond`), so the unmasking clears the pending bit of entry 96. -/
theorem not_linkAndFunctionSwitches : ¬ Obligations.LinkAndFunctionSwitches := by
  unfold Obligations.LinkAndFunctionSwitches
  rintro ⟨-, -, -, -, -, hclosed⟩
  obtain ⟨t, hexec, -, -, hpending⟩ :=
    hclosed vectorBeyondTable 0 2048 (by decide +kernel) (by decide) (by decide +kernel) (by decide +kernel)
  rw [exec_msixVectorUnmask_beyond] at hexec
  obtain rfl := Host.Outcome.next.inj hexec
  have hkept := hpending 96
  have hwas : vectorBeyondTable.msixPending 0 96 = true := by decide +kernel
  have hgone : vectorBeyondTable.unmasked.msixPending 0 96 = false := by decide +kernel
  rw [hwas, hgone] at hkept
  cases hkept

/-! ## A doorbell in the pages that a System Page Size adds (R266, R289) -/

/-- The register that holds the numbers of VFs is listed behind the count of TLPs received, which is about to wrap; function 8 takes
memory requests and may have eight rings. -/
def vfsListedBehindCount : State :=
  { regs := [(HIF_cnt_LO.COUNT.addr 0 0, 0xFFFFFFFF#32), (HIF_cnt_LO.COUNT.addr 0 0 + 4, 0xFFFFFFFF#32), (HIF_PF_VFS.PF1.addr 0 0, 1#32),
             (HIF_FNf_STATE.MSE.addr 8 0, 0x10000000#32), (QMG_ADM_ALLOW.ALLOW.addr 8 0, 8#32)] }

/-- Before the write the VF BAR has four doorbell pages; the wrap uncovers the VF of PF1, whose allowance gives eight. -/
theorem doorbellSize_vfsListedBehindCount :
    doorbellSize (vfsListedBehindCount.vfAllow (vfsListedBehindCount.pfOf 8)) = 4 * 4096 ∧
      doorbellSize ((vfsListedBehindCount.tlpIn 8).vfAllow ((vfsListedBehindCount.tlpIn 8).pfOf 8)) = 8 * 4096 := by
  decide +kernel

/-- The write in page 4 lies in the doorbell BAR that the TLP leaves, and at no doorbell's offset: it is a bad access. -/
theorem exec_doorbellWrite_vfsListedBehindCount :
    exec (.doorbellWrite 8 4 4 true 0) vfsListedBehindCount = .next (vfsListedBehindCount.tlpIn 8).bad := by
  have hopen : (vfsListedBehindCount.tlpIn 8).memOpen 8 = true := by decide +kernel
  change execDoorbellWrite 8 4 4 true 0 vfsListedBehindCount = _
  simp [execDoorbellWrite, hopen, doorbellSize_vfsListedBehindCount.2]

/-- Refutes O14: the last clause takes every store of registers, and in one that is not in rising order the count of the TLP can uncover
another number of VFs, with which the page has a doorbell (`doorbellSize_vfsListedBehindCount`). -/
theorem not_ringService : ¬ Obligations.RingService := by
  unfold Obligations.RingService
  rintro ⟨-, -, -, -, -, -, -, -, -, -, -, hspare⟩
  obtain ⟨t, hexec, ht⟩ := hspare vfsListedBehindCount 8 4 4 true 0 (by decide +kernel) (by decide)
    (Nat.le_of_eq doorbellSize_vfsListedBehindCount.1)
  rw [exec_doorbellWrite_vfsListedBehindCount, ht] at hexec
  have hcount := congrArg (fun u : State => u.rd GLB_BAD_ACCESS.COUNT) (Host.Outcome.next.inj hexec)
  have hdiffer : (vfsListedBehindCount.tlpIn 8).bad.rd GLB_BAD_ACCESS.COUNT ≠ (vfsListedBehindCount.tlpIn 8).rd GLB_BAD_ACCESS.COUNT := by
    decide +kernel
  exact hdiffer hcount

end Sys2Proof.Machine

/-!
The answer to a configuration request: what the TLPs of a request leave of the registers, and what a read and a write of configuration
space depend on.
-/
namespace Sys2Proof.Machine

/-! ## Registers that a TLP leaves -/

/-- The zones and parts that counting and raising reach: EVT and Calipers, the event unit, and what is given out. -/
def tellMask : Nat := 0x1000000400100004

theorem zoneNo_hif {a : Nat} (h : 0x600000 ≤ a) : zoneNo a = 21 ∨ zoneNo a = 22 := by
  by_cases hhigh : 0x700000 ≤ a
  · exact .inr (zoneNo_high hhigh)
  · exact .inl (zoneNo_blk (b := .hif) h (Nat.lt_of_not_le hhigh))

/-- Counting and raising reach neither HIF nor a function's own space. -/
theorem tellMask_hif {a : Nat} (h : 0x600000 ≤ a) : tellMask.testBit (zoneNo a) = false := by
  rcases zoneNo_hif h with hz | hz <;> rw [hz] <;> rfl

/-- A received TLP counts in counter 0 of HIF, and leaves every other register outside EVT and Calipers. -/
theorem reg_tlpIn {s : State} (hwf : s.wf = true) (f : Nat) {a : Nat} (hz : tellMask.testBit (zoneNo a) = false)
    (hlo : a ≠ HIF_cnt_LO.COUNT.addr 0 0) (hhi : a ≠ HIF_cnt_LO.COUNT.addr 0 0 + 4) : (s.tlpIn f).reg a = s.reg a :=
  ((State.cal_keep ..).regs (wr64_wf hwf ..) a hz).trans (reg_wr64_other hwf hlo hhi)

/-- A TLP sent counts in counter 1 of HIF, and leaves every other register outside EVT and Calipers. -/
theorem reg_tlpOut {s : State} (hwf : s.wf = true) (f : Nat) (o : Out) {a : Nat} (hz : tellMask.testBit (zoneNo a) = false)
    (hlo : a ≠ HIF_cnt_LO.COUNT.addr 1 0) (hhi : a ≠ HIF_cnt_LO.COUNT.addr 1 0 + 4) : (s.tlpOut f o).reg a = s.reg a :=
  ((State.cal_keep ..).regs (wr64_wf (s := s.out o) hwf ..) a hz).trans (reg_wr64_other (s := s.out o) hwf hlo hhi)

/-- A TLP is given out. -/
theorem mem_sent_tlpOut (s : State) (f : Nat) (o : Out) : o ∈ (s.tlpOut f o).sent := (tlpOut_sent s f o).subset List.mem_cons_self

/-- No counter lies among the states of the functions. -/
theorem state_addr_ge (f : Nat) : 0x601000 ≤ HIF_FNf_STATE.PRESENT.addr f 0 := by
  simp only [Fld.addr, HIF_FNf_STATE.PRESENT]
  omega

theorem reg_tlpIn_state {s : State} (hwf : s.wf = true) (f n : Nat) :
    (s.tlpIn f).reg (HIF_FNf_STATE.PRESENT.addr n 0) = s.reg (HIF_FNf_STATE.PRESENT.addr n 0) := by
  have hge := state_addr_ge n
  exact reg_tlpIn hwf f (tellMask_hif (by omega)) (Nat.ne_of_gt (Nat.lt_of_lt_of_le (by decide) hge))
    (Nat.ne_of_gt (Nat.lt_of_lt_of_le (by decide) hge))

/-! ## What configuration space is read from (R264 to R267) -/

/-- Two states whose configuration space reads alike: the HIF block, the numbers of VFs, the allowances, and the device's number. -/
structure SameConfig (s t : State) : Prop where
  hif : t.hif = s.hif
  vfs : t.reg (HIF_PF_VFS.PF1.addr 0 0) = s.reg (HIF_PF_VFS.PF1.addr 0 0)
  allow : ∀ f, t.reg (QMG_ADM_ALLOW.ALLOW.addr f 0) = s.reg (QMG_ADM_ALLOW.ALLOW.addr f 0)
  uid : t.reg 8 = s.reg 8 ∧ t.reg 12 = s.reg 12

theorem sameConfig_tlpIn {s : State} (hwf : s.wf = true) (f : Nat) : SameConfig s (s.tlpIn f) where
  hif := (State.tlpIn_keep s f).parts .hif rfl
  vfs := reg_tlpIn hwf f rfl (by decide) (by decide)
  allow n := by
    have hge : 0x8010018 ≤ QMG_ADM_ALLOW.ALLOW.addr n 0 := by simp only [Fld.addr, QMG_ADM_ALLOW.ALLOW]; omega
    exact reg_tlpIn hwf f (tellMask_hif (by omega)) (Nat.ne_of_gt (Nat.lt_of_lt_of_le (by decide) hge))
      (Nat.ne_of_gt (Nat.lt_of_lt_of_le (by decide) hge))
  uid := ⟨reg_tlpIn hwf f rfl (by decide) (by decide), reg_tlpIn hwf f rfl (by decide) (by decide)⟩

theorem totalVfs_of_reg {s t : State} (h : t.reg (HIF_PF_VFS.PF1.addr 0 0) = s.reg (HIF_PF_VFS.PF1.addr 0 0)) (n : Nat) :
    t.totalVfs n = s.totalVfs n := by
  have hvfs {f : Fld} (hf : f.addr 0 0 = HIF_PF_VFS.PF1.addr 0 0) : t.rd f = s.rd f := rd_of_reg (by rw [hf]; exact h)
  simp only [State.totalVfs, hvfs (f := HIF_PF_VFS.PF1) rfl, hvfs (f := HIF_PF_VFS.PF2) rfl, hvfs (f := HIF_PF_VFS.PF3) rfl,
    hvfs (f := HIF_PF_VFS.PF4) rfl]

section
variable {s t : State} (h : SameConfig s t)
include h

theorem SameConfig.cfg (f : Nat) : t.cfg f = s.cfg f := by rw [State.cfg, h.hif, State.cfg]

theorem SameConfig.totalVfs (n : Nat) : t.totalVfs n = s.totalVfs n := totalVfs_of_reg h.vfs n

theorem SameConfig.vfBase (n : Nat) : t.vfBase n = s.vfBase n := by
  rw [State.vfBase, funext h.totalVfs, State.vfBase]

theorem SameConfig.pfOf (f : Nat) : t.pfOf f = s.pfOf f := by simp only [State.pfOf, h.vfBase]

theorem SameConfig.vfsOf (f : Nat) : t.vfsOf f = s.vfsOf f := by simp only [State.vfsOf, h.vfBase, h.totalVfs, h.cfg]

theorem SameConfig.vfAllow (n : Nat) : t.vfAllow n = s.vfAllow n := by
  have hallow (f : Nat) : t.rd QMG_ADM_ALLOW.ALLOW f = s.rd QMG_ADM_ALLOW.ALLOW f := rd_of_reg (h.allow f)
  simp only [State.vfAllow, h.totalVfs, h.vfBase, hallow]

theorem SameConfig.bellBar (f : Nat) : t.bellBar f = s.bellBar f := by
  have hallow : t.rd QMG_ADM_ALLOW.ALLOW f = s.rd QMG_ADM_ALLOW.ALLOW f := rd_of_reg (h.allow f)
  simp only [State.bellBar, State.sysPageBytes, hallow, h.vfAllow, h.pfOf, h.cfg]

/-- What a read of configuration space returns. -/
theorem SameConfig.cfgRead (f : Nat) (reg : CfgReg) : t.cfgRead f reg = s.cfgRead f reg := by
  obtain ⟨hlo, hhi⟩ := h.uid
  cases reg
  case serial hi =>
    simp only [State.cfgRead]
    cases hi <;> simp [hlo, hhi]
  case ids | classRev => simp only [State.cfgRead, State.deviceId, State.classCode, h.pfOf]
  case vfOffset => simp only [State.cfgRead, State.firstVfOffset, h.vfBase, h.hif]
  all_goals simp only [State.cfgRead, h.bellBar, h.vfBase, h.cfg, h.totalVfs, h.hif]

theorem SameConfig.setCfg_hif (f : Nat) (c : FnCfg) : (t.setCfg f c).hif = (s.setCfg f c).hif := by
  rw [State.setCfg, State.setCfg, h.hif]

/-- What a write of configuration space leaves of the HIF block. -/
theorem SameConfig.cfgWrite_hif (f v : Nat) (reg : CfgReg) : (t.cfgWrite f v reg).hif = (s.cfgWrite f v reg).hif := by
  cases reg
  case numVfs =>
    simp only [State.cfgWrite, h.cfg, h.totalVfs]
    split
    · exact h.hif
    · rw [(State.raise_keep ..).parts .hif rfl, (State.raise_keep ..).parts .hif rfl, h.setCfg_hif]
  case pmeEn | pmeStatus =>
    simp only [State.cfgWrite, h.hif]
    split
    · rfl
    · exact h.hif
  case ariHier =>
    simp only [State.cfgWrite, h.hif]
    split
    · rw [((Keep.refl 0x200000 _).wr .hif rfl rfl).parts .hif rfl, ((Keep.refl 0x200000 _).wr .hif rfl rfl).parts .hif rfl]
    · exact h.hif
  case ecrcCheck | ecrcGen | maxReadReq | extTag | relaxed | tag10 | ctoValue | ctoDisable | other =>
    simp only [State.cfgWrite, h.cfg]
    exact h.setCfg_hif ..
  case bar | vfBar | romBar | sysPage =>
    simp only [State.cfgWrite, h.cfg]
    split
    · exact h.setCfg_hif ..
    · exact h.hif
  all_goals exact h.hif

end

/-! ## CONFIG_REQUEST (R280) -/

/-- The TLP that answers a request to function `f`. -/
theorem answered_shows (s : State) (f : Nat) (o : Out) : o ∈ (s.tlpOut f o).sent ∧ (s.tlpOut f o).hif = s.hif :=
  ⟨mem_sent_tlpOut s f o, (State.tlpOut_keep s f o).parts .hif rfl⟩

section
variable {s : State} {f : Nat} (hwf : s.wf = true)
include hwf

theorem on_state_tlpIn {g : Fld} (n : Nat) (hg : g.addr n 0 = HIF_FNf_STATE.PRESENT.addr n 0) : (s.tlpIn f).on g n = s.on g n :=
  on_of_rd (rd_of_reg (by rw [hg]; exact reg_tlpIn_state hwf f n))

theorem exec_configRequest_absent (reg : CfgReg) (write : Bool) (val : Word) (hpresent : s.on HIF_FNf_STATE.PRESENT f = false) :
    exec (.configRequest f reg write val) s = .next ((s.tlpIn f).tlpOut f (.urReply f)) :=
  if_pos (by rw [on_state_tlpIn hwf f rfl, hpresent]; rfl)

variable (hpresent : s.on HIF_FNf_STATE.PRESENT f = true)
include hpresent

theorem exec_configRequest_present (reg : CfgReg) (write : Bool) (val : Word) :
    exec (.configRequest f reg write val) s =
      if !s.on HIF_FNf_STATE.READY f then .next ((s.tlpIn f).tlpOut f (.crs f))
      else if write then .next (((s.tlpIn f).cfgWrite f val.toNat reg).tlpOut f (.cfgReply f 0))
      else .next ((s.tlpIn f).tlpOut f (.cfgReply f ((s.tlpIn f).cfgRead f reg))) := by
  rw [← on_state_tlpIn (f := f) (g := HIF_FNf_STATE.READY) hwf f rfl]
  exact if_neg (by rw [on_state_tlpIn hwf f rfl, hpresent]; decide)

theorem exec_configRequest_notReady (reg : CfgReg) (write : Bool) (val : Word) (hready : s.on HIF_FNf_STATE.READY f = false) :
    exec (.configRequest f reg write val) s = .next ((s.tlpIn f).tlpOut f (.crs f)) := by
  rw [exec_configRequest_present hwf hpresent, if_pos (by simp [hready])]

theorem exec_configRequest_read (reg : CfgReg) (val : Word) (hready : s.on HIF_FNf_STATE.READY f = true) :
    exec (.configRequest f reg false val) s = .next ((s.tlpIn f).tlpOut f (.cfgReply f (s.cfgRead f reg))) := by
  rw [exec_configRequest_present hwf hpresent, if_neg (by simp [hready]), if_neg (by decide), (sameConfig_tlpIn hwf f).cfgRead]

theorem exec_configRequest_write (reg : CfgReg) (val : Word) (hready : s.on HIF_FNf_STATE.READY f = true) :
    exec (.configRequest f reg true val) s = .next (((s.tlpIn f).cfgWrite f val.toNat reg).tlpOut f (.cfgReply f 0)) := by
  rw [exec_configRequest_present hwf hpresent, if_neg (by simp [hready]), if_pos rfl]

end

/-- A write of ARI Capable Hierarchy at PF0 is held, and shows as the bus of the VFs (R265). -/
theorem ariHier_shows {s : State} (hwf : s.wf = true) (v : Nat) :
    (s.cfgWrite 0 v .ariHier).hif.ariHier = (v % 2 == 1) ∧ (s.cfgWrite 0 v .ariHier).rd HIF_VF_ROUTE.NEXT_BUS = 1 - v % 2 := by
  have hset := rd_wr_same (s := { s with hif := { s.hif with ariHier := v % 2 == 1 } }) hwf (f := HIF_VF_ROUTE.NEXT_BUS)
    (v := 1 - v % 2) (i := 0) (j := 0) (by decide) rfl
  refine ⟨rfl, hset.trans ?_⟩
  exact Nat.mod_eq_of_lt (by simp only [HIF_VF_ROUTE.NEXT_BUS]; omega)

/-- Settles O11: the request is a TLP, which leaves the function's state and its configuration space as they were (`SameConfig`). -/
theorem configurationRequests : Obligations.ConfigurationRequests := by
  unfold Obligations.ConfigurationRequests
  refine ⟨?absent, ?notReady, ?read, ?write, ?ari⟩
  case absent =>
    intro s f reg write val hwf _ hpresent
    obtain ⟨hsent, hhif⟩ := answered_shows (s.tlpIn f) f (.urReply f)
    exact does_of_exec (exec_configRequest_absent hwf reg write val hpresent) ⟨hsent, hhif.trans (sameConfig_tlpIn hwf f).hif⟩
  case notReady =>
    intro s f reg write val hwf _ hpresent hready
    obtain ⟨hsent, hhif⟩ := answered_shows (s.tlpIn f) f (.crs f)
    exact does_of_exec (exec_configRequest_notReady hwf hpresent reg write val hready) ⟨hsent, hhif.trans (sameConfig_tlpIn hwf f).hif⟩
  case read =>
    intro s f reg val hwf _ hpresent hready
    obtain ⟨hsent, hhif⟩ := answered_shows (s.tlpIn f) f (.cfgReply f (s.cfgRead f reg))
    exact does_of_exec (exec_configRequest_read hwf hpresent reg val hready) ⟨hsent, hhif.trans (sameConfig_tlpIn hwf f).hif⟩
  case write =>
    intro s f reg val hwf _ hpresent hready
    obtain ⟨hsent, hhif⟩ := answered_shows ((s.tlpIn f).cfgWrite f val.toNat reg) f (.cfgReply f 0)
    exact does_of_exec (exec_configRequest_write hwf hpresent reg val hready)
      ⟨hsent, hhif.trans ((sameConfig_tlpIn hwf f).cfgWrite_hif f val.toNat reg)⟩
  case ari =>
    intro s val hwf hpresent hready
    obtain ⟨-, hhif⟩ := answered_shows ((s.tlpIn 0).cfgWrite 0 val.toNat .ariHier) 0 (.cfgReply 0 0)
    have hwfIn := (State.tlpIn_keep s 0).wf hwf
    obtain ⟨hari, hbus⟩ := ariHier_shows hwfIn val.toNat
    have hwfWrite := wr_wf (s := { s.tlpIn 0 with hif := { (s.tlpIn 0).hif with ariHier := val.toNat % 2 == 1 } }) hwfIn
      HIF_VF_ROUTE.NEXT_BUS (1 - val.toNat % 2) 0 0
    refine does_of_exec (exec_configRequest_write hwf hpresent .ariHier val hready) ⟨by rw [hhif, hari], ?_⟩
    rw [← hbus]
    exact rd_of_reg (reg_tlpOut hwfWrite 0 _ rfl (by decide) (by decide))

end Sys2Proof.Machine

/-!
What takes a function out of service and what brings it back: the reset of the HIF domain, and the VFs that VF Enable starts.
-/
namespace Sys2Proof.Machine

/-! ## The reset of the HIF domain (R467) -/

/-- The HIF domain with every function and every register of it reset, and the link not yet where the reset leaves it. -/
def State.hifEmptied (s : State) : State :=
  let pfs := (List.range 5).filter (fun f => s.on HIF_FNf_STATE.PRESENT f)
  let fns := (List.range 256).filter (fun f => s.on HIF_FNf_STATE.PRESENT f)
  let stopped := (State.dmaStopHost { s with hif := { s.hif with reads := [], waiting := [], quar := [], arrived := [] } }).dmaStopped
  let ringless := forEach stopped.ringsPresent (fun g s => s.dropRing g) stopped
  let pairless := forEach fns (fun f s => (if s.pfOf f = 3 then s.resetCtl f else s).dropQps f) ringless
  let released := (pairless.forceAbort (fun o => o == 0)).abortHolders (fun a => a == 0)
  let vfless := forEach pfs (fun f s => s.vfsGone f) released
  let awake := forEach fns (fun f s => if s.rd HIF_FNf_STATE.DSTATE f = 0 then s else s.raise 313 [i8 f, i8 0]) vfless
  let cleared := { awake.clearHif with hif := { awake.clearHif.hif with cfg := [], ariHier := false, drsSent := false } }
  forEach pfs (fun f s => (s.setCfg f { initializing := true }).wr HIF_FNf_STATE.PRESENT 1 f) cleared

theorem hifReset_eq (s : State) (ltssm : Nat) :
    s.hifReset ltssm = (if s.rd HIF_LINK_STATUS.LTSSM = 3 || s.rd HIF_LINK_STATUS.LTSSM = 5 then
      (s.hifEmptied.wr HIF_LINK_STATUS.LTSSM ltssm).raise 304 [i8 ltssm] else s.hifEmptied.wr HIF_LINK_STATUS.LTSSM ltssm).showReady := rfl

/-- An operation keeps the stores canonical. -/
def KeepsWf (f : State → State) : Prop := ∀ u, u.wf = true → (f u).wf = true

theorem KeepsWf.of_keep {m : Nat} {f : State → State} (h : ∀ u, Keep m u (f u)) : KeepsWf f := fun u => (h u).wf

theorem wf_forEach {α : Type} {l : List α} {f : α → State → State} (h : ∀ x, KeepsWf (f x)) {s : State} (hs : s.wf = true) :
    (forEach l f s).wf = true := by
  induction l generalizing s with
  | nil => exact hs
  | cons x l ih => exact ih (h x s hs)

theorem hifEmptied_wf {s : State} (hwf : s.wf = true) : s.hifEmptied.wf = true := by
  unfold State.hifEmptied
  extract_lets pfs fns unit stopped ringless pairless released vfless awake space unit' cleared
  have hstopped : stopped.wf = true := (State.dmaStopped_keep _).wf ((State.dmaStopHost_keep _).wf hwf)
  have hringless : ringless.wf = true := wf_forEach (fun g => .of_keep fun u => State.dropRing_keep u g) hstopped
  have hpairless : pairless.wf = true := wf_forEach (fun f u hu => (State.dropQps_keep ..).wf (by
    split
    · exact (State.resetCtl_keep u f).wf hu
    · exact hu)) hringless
  have hreleased : released.wf = true := (State.abortHolders_keep ..).wf ((State.forceAbort_keep ..).wf hpairless)
  have hvfless : vfless.wf = true := wf_forEach (fun f => .of_keep fun u => State.vfsGone_keep u f) hreleased
  have hawake : awake.wf = true := wf_forEach (fun f u hu => by
    split
    · exact hu
    · exact (State.raise_keep ..).wf hu) hvfless
  have hcleared : cleared.wf = true := (State.clearHif_keep awake).wf hawake
  exact wf_forEach (fun f u hu => wr_wf (s := u.setCfg f { initializing := true }) hu ..) hcleared

/-- After the reset the link is where the cause of the reset puts it. -/
theorem rd_hifReset_ltssm {s : State} (hwf : s.wf = true) {v : Nat} (hv : v < 16) : (s.hifReset v).rd HIF_LINK_STATUS.LTSSM = v := by
  have hset := rd_wr_same (hifEmptied_wf hwf) (f := HIF_LINK_STATUS.LTSSM) (v := v) (i := 0) (j := 0) (by decide) rfl
  have hset' := wr_wf (hifEmptied_wf hwf) HIF_LINK_STATUS.LTSSM v 0 0
  have htold : ∀ u : State, u.wf = true → u.showReady.rd HIF_LINK_STATUS.LTSSM = u.rd HIF_LINK_STATUS.LTSSM :=
    fun u hu => (State.showReady_keep u).rdIn .hif hu rfl rfl rfl
  rw [hifReset_eq]
  split
  · rw [htold _ ((State.raise_keep ..).wf hset'), (State.raise_keep ..).rdIn .hif hset' rfl rfl rfl, hset]
    exact Nat.mod_eq_of_lt hv
  · rw [htold _ hset', hset]
    exact Nat.mod_eq_of_lt hv

/-! ## The VFs that VF Enable starts (R280) -/

/-- A VF comes into being, initialising, with its PF's D-state `d`. -/
def State.vfStarted (s : State) (d v : Nat) : State :=
  (s.setCfg v { initializing := true }).setWord HIF_FNf_STATE.PRESENT
    (HIF_FNf_STATE.DSTATE.put (HIF_FNf_STATE.PRESENT.put (s.reg (HIF_FNf_STATE.PRESENT.addr v 0)) 1) d) v

/-- VF Enable of PF `f` is set. -/
def State.vfSet (s : State) (f : Nat) : State := s.setCfg f { s.cfg f with vfEnable := true }

/-- VF Enable of PF `f` is set, and its VFs have started. -/
def State.vfsStarted (s : State) (f : Nat) : State :=
  forEach ((s.vfSet f).vfsOf f) (fun v u => u.vfStarted ((s.vfSet f).rd HIF_FNf_STATE.DSTATE f) v) (s.vfSet f)

theorem exec_vfEnable {s : State} {f : Nat} (h0 : f ≠ 0) (h4 : f ≤ 4) (hready : s.on HIF_FNf_STATE.READY f = true)
    (hoff : (s.cfg f).vfEnable = false) :
    exec (.vfEnable f) s = .next ((s.vfsStarted f).showReady.raise 315 [i8 f, i16 ((s.vfsStarted f).cfg f).numVfs]) :=
  if_neg (by simp [h0, hready, hoff]; omega)

theorem vfStarted_wf {s : State} (hwf : s.wf = true) (d v : Nat) : (s.vfStarted d v).wf = true := by
  unfold State.vfStarted State.setWord
  split
  · exact setReg_wf (s := s.setCfg v { initializing := true }) hwf ..
  · exact hwf

theorem reg_vfStarted_other {s : State} (hwf : s.wf = true) (d v : Nat) {a : Nat} (ha : a ≠ HIF_FNf_STATE.PRESENT.addr v 0) :
    (s.vfStarted d v).reg a = s.reg a := by
  unfold State.vfStarted State.setWord
  split
  · exact reg_setReg_other (s := s.setCfg v { initializing := true }) hwf _ ha
  · rfl

theorem cfg_vfStarted (s : State) (d : Nat) {v f : Nat} (hne : f ≠ v) : (s.vfStarted d v).cfg f = s.cfg f := by
  have hcfg : (s.vfStarted d v).hif = (s.setCfg v { initializing := true }).hif := by
    unfold State.vfStarted State.setWord
    split <;> rfl
  rw [State.cfg, hcfg]
  exact cellGet_cellSet_ne_other s.hif.cfg (by decide) hne

/-- A VF that has started is present, and no other function's presence changes. -/
theorem present_vfStarted {s : State} (hwf : s.wf = true) (d v w : Nat) (hw : w < 256) :
    (s.vfStarted d v).on HIF_FNf_STATE.PRESENT w = (s.on HIF_FNf_STATE.PRESENT w || w == v) := by
  by_cases hv : w = v
  case pos =>
    subst hv
    have hfits : HIF_FNf_STATE.PRESENT.fits w 0 = true := by simp [Fld.fits, HIF_FNf_STATE.PRESENT, hw]
    have hone : (s.vfStarted d w).rd HIF_FNf_STATE.PRESENT w = 1 := by
      rw [State.rd, State.vfStarted, State.setWord, if_pos hfits, reg_setReg_same (s := s.setCfg w { initializing := true }) hwf]
      rw [bitsOf_put_above (f := HIF_FNf_STATE.DSTATE) (by decide) _ _ (by decide), bitsOf_put_same (by decide)]
      rfl
    simp [State.on, hone]
  case neg =>
    have haddr : HIF_FNf_STATE.PRESENT.addr w 0 ≠ HIF_FNf_STATE.PRESENT.addr v 0 := by
      simp only [Fld.addr, HIF_FNf_STATE.PRESENT]
      omega
    rw [on_of_rd (rd_of_reg (reg_vfStarted_other hwf d v haddr))]
    simp [hv]

/-- What the start of the VFs of a PF leaves of the PF, and which functions are present then. -/
theorem vfStarted_all {f d : Nat} {l : List Nat} (hl : ∀ v ∈ l, f ≠ v) {s : State} (hwf : s.wf = true) :
    let t := forEach l (fun v u => u.vfStarted d v) s
    t.wf = true ∧ t.cfg f = s.cfg f ∧ (∀ a, a < 0x601000 → t.reg a = s.reg a) ∧
      ∀ w, w < 256 → t.on HIF_FNf_STATE.PRESENT w = (s.on HIF_FNf_STATE.PRESENT w || l.contains w) := by
  induction l generalizing s with
  | nil => exact ⟨hwf, rfl, fun _ _ => rfl, fun w _ => by simp [forEach]⟩
  | cons v l ih =>
    obtain ⟨hv, hl⟩ := List.forall_mem_cons.1 hl
    obtain ⟨hwf', hcfg, hreg, hpresent⟩ := ih hl (vfStarted_wf hwf d v)
    refine ⟨hwf', hcfg.trans (cfg_vfStarted s d hv), fun a ha => (hreg a ha).trans (reg_vfStarted_other hwf d v ?_), fun w hw => ?_⟩
    · have := state_addr_ge v
      omega
    · rw [forEach, hpresent w hw, present_vfStarted hwf d v w hw, List.contains_cons, Bool.or_assoc]

theorem vfSet_cfg (s : State) (f : Nat) : (s.vfSet f).cfg f = { s.cfg f with vfEnable := true } :=
  cellGet_cellSet_ne s.hif.cfg f fun h => by cases congrArg FnCfg.vfEnable h

theorem ne_of_mem_vfsOf {s : State} {f v : Nat} (hf : f < 8) (hv : v ∈ s.vfsOf f) : f ≠ v := by
  unfold State.vfsOf at hv
  split at hv
  · cases hv
  · obtain ⟨k, -, rfl⟩ := List.mem_map.1 hv
    unfold State.vfBase
    omega

theorem vfStarted_keep (s : State) (d v : Nat) : Keep 0x1000200000 s (s.vfStarted d v) :=
  ((State.setCfg_keep s v { initializing := true }).mono rfl).setWord .hif rfl rfl

/-- The VFs that are enabled follow from the configuration of their PF and the register of their numbers. -/
theorem vfsOf_of_same {s t : State} {f : Nat} (hcfg : t.cfg f = s.cfg f)
    (hvfs : t.reg (HIF_PF_VFS.PF1.addr 0 0) = s.reg (HIF_PF_VFS.PF1.addr 0 0)) : t.vfsOf f = s.vfsOf f := by
  have htotal : t.totalVfs = s.totalVfs := funext (totalVfs_of_reg hvfs)
  simp only [State.vfsOf, State.vfBase, htotal, hcfg]

/-- Showing which functions are ready hides no event; a change raises one. -/
theorem toldGrows_showReady (s : State) : ToldGrows s s.showReady := by
  unfold State.showReady
  extract_lets +onlyGivenNames up pf vf shown
  have hshown : Keep 1 s shown := ((Keep.refl _ s).wr .glb rfl rfl).wr .glb rfl rfl
  exact .ite (.refl s) (.trans (.of_keep hshown rfl) (.raise shown _ _ _ _))

theorem vfEnable_does {s : State} {f : Nat} (hwf : s.wf = true) (h0 : f ≠ 0) (h4 : f ≤ 4) (hready : s.on HIF_FNf_STATE.READY f = true)
    (hoff : (s.cfg f).vfEnable = false) :
    Does (.vfEnable f) s (fun t => (t.cfg f).vfEnable = true ∧ s.told 315 < t.told 315 ∧
      ∀ v ∈ t.vfsOf f, v < 256 → t.on HIF_FNf_STATE.PRESENT v = true) := by
  have hwfSet : (s.vfSet f).wf = true := hwf
  obtain ⟨hwfStarted, hcfg, hreg, hpresent⟩ := vfStarted_all (d := (s.vfSet f).rd HIF_FNf_STATE.DSTATE f)
    (fun v hv => ne_of_mem_vfsOf (s := s.vfSet f) (f := f) (by omega) hv) hwfSet
  have kshow := State.showReady_keep (s.vfsStarted f)
  have k : Keep 0x400100005 (s.vfsStarted f)
      ((s.vfsStarted f).showReady.raise 315 [i8 f, i16 ((s.vfsStarted f).cfg f).numVfs]) := (State.raise_keep ..).step kshow rfl
  refine does_of_exec (exec_vfEnable h0 h4 hready hoff) ⟨?enable, ?told, ?present⟩
  case enable =>
    rw [State.cfg, k.parts .hif rfl, ← State.cfg, State.vfsStarted, hcfg, vfSet_cfg]
  case told =>
    have hstarted : ToldGrows s (s.vfsStarted f) := .trans (.of_keep (State.setCfg_keep ..) rfl)
      (.forEach (fun v u => .of_keep (vfStarted_keep u _ v) rfl) (s.vfSet f))
    exact Nat.lt_of_le_of_lt (Nat.le_trans (hstarted 315) (toldGrows_showReady _ 315)) (told_lt_raise ..)
  case present =>
    intro v hv hlt
    have hsame : (s.vfsStarted f).vfsOf f = (s.vfSet f).vfsOf f := vfsOf_of_same hcfg (hreg _ (by decide))
    have hin : v ∈ (s.vfSet f).vfsOf f := by
      rw [← hsame, ← vfsOf_of_same (congrArg (fun h : HifSt => tabGet h.cfg f) (k.parts .hif rfl)) (k.regs hwfStarted _ rfl)]
      exact hv
    have hstate : ((s.vfsStarted f).showReady.raise 315 [i8 f, i16 ((s.vfsStarted f).cfg f).numVfs]).on HIF_FNf_STATE.PRESENT v =
        (s.vfsStarted f).on HIF_FNf_STATE.PRESENT v :=
      on_of_rd (k.rdIn .hif hwfStarted rfl (by simp [Fld.fits, HIF_FNf_STATE.PRESENT, hlt]) rfl)
    rw [hstate, State.vfsStarted, hpresent v hlt]
    simp [hin]

/-! ## The commands, one by one -/

theorem perstAssert_does {s : State} (hwf : s.wf = true) (hhigh : s.pins.perstN = true) :
    Does .perstAssert s (fun t => t.rd HIF_LINK_STATUS.LTSSM = 0 ∧
      t = State.hifReset ({ s with pins := { s.pins with perstN := false } }.raise 314 [i8 0]) 0) := by
  have hpins : State.wf { s with pins := { s.pins with perstN := false } } = true := hwf
  exact does_of_exec (if_neg (by simp [hhigh])) ⟨rd_hifReset_ltssm ((State.raise_keep ..).wf hpins) (by decide), rfl⟩

/-- Settles O12: each command from its equation; the link after a reset by `rd_hifReset_ltssm`, the VFs by `vfStarted_all`. -/
theorem functionService : Obligations.FunctionService := by
  unfold Obligations.FunctionService
  refine ⟨?masterOn, ?masterOff, ?flr, ?initDone, ?d3hot, ?d0, ?vfEnable, ?vfDisable, ?hot, ?down, ?perst⟩
  case masterOn => exact fun s f hpresent => does_of_exec (if_pos hpresent) rfl
  case masterOff => exact fun s f hpresent hon => does_of_exec (if_pos (by simp [hpresent, hon])) rfl
  case flr => exact fun s f hpresent hready => does_of_exec (if_neg (by simp [hpresent, hready])) rfl
  case initDone =>
    exact fun s f hpresent hinit hquiet hperst hrun hready =>
      does_of_exec (if_pos (by simp [hpresent, hinit, hquiet, hperst, hrun, hready])) rfl
  case d3hot =>
    exact fun s f hf hpresent hstate => does_of_exec (if_neg (by simp [hpresent, hstate]; omega)) rfl
  case d0 =>
    exact fun s f hf hpresent hstate => does_of_exec (if_neg (by simp [hpresent, hstate]; omega)) rfl
  case vfEnable => exact fun s f => vfEnable_does
  case vfDisable => exact fun s f h0 h4 hon => does_of_exec (if_neg (by simp [h0, hon]; omega)) rfl
  case hot => exact fun s hwf => does_of_exec rfl ⟨rd_hifReset_ltssm hwf (by decide), rfl⟩
  case down => exact fun s hwf => does_of_exec rfl ⟨rd_hifReset_ltssm hwf (by decide), rfl⟩
  case perst => exact fun s => perstAssert_does

end Sys2Proof.Machine

/-!
Completions, timeouts and quarantined tags: what a received completion does by the read or the quarantined tag that it names.
-/
namespace Sys2Proof.Machine

/-! ## A completion that is looked at (R273, R276, R282) -/

/-- A completion that the link accepts, and whose ECRC is not held against it. -/
def Lookable (s : State) (check : TlpCheck) : Prop := check = .good ∨ (check = .ecrc ∧ (s.cfg 0).ecrcCheck = false)

/-- The read of function `f` with tag `tag`. -/
def State.readOf (s : State) (f tag : Nat) : Option ReadReq := s.hif.reads.find? (fun r => r.fn == f && r.tag == tag)

/-- Is the tag in quarantine? -/
def State.quarantined (s : State) (f tag : Nat) : Bool := s.hif.quar.any (fun q => q.1 == f && q.2.1 == tag)

theorem hif_tlpIn (s : State) (f : Nat) : (s.tlpIn f).hif = s.hif := (State.tlpIn_keep s f).parts .hif rfl

/-- The tag of function `f` leaves quarantine. -/
def State.unquarantine (s : State) (f tag : Nat) : State :=
  { s with hif := { s.hif with quar := s.hif.quar.filter (fun q => !(q.1 == f && q.2.1 == tag)) } }

/-- A late completion: its tag leaves quarantine, and it is counted and told (R276). -/
def State.lateTaken (s : State) (f tag : Nat) : State :=
  (((s.unquarantine f tag).count HIF_cnt_LO.COUNT 3).bump HIF_FNf_CPL.LATE f).raise 307 [i8 f, i16 tag]

section
variable {s : State} {check : TlpCheck} {f tag : Nat} (hcheck : Lookable s check)
include hcheck

theorem exec_completionReceive_late (lower count status : Nat) (bytes : List Byte) (poisoned : Bool)
    (hread : s.readOf f tag = none) (hquar : s.quarantined f tag = true) :
    exec (.completionReceive f tag lower count status bytes poisoned check) s =
      .next ((((s.tlpIn f).lateTaken f tag).showTags f).retryWaiting) := by
  have hread' : (s.tlpIn f).readOf f tag = none := by rw [State.readOf, hif_tlpIn]; exact hread
  have hquar' : (s.tlpIn f).quarantined f tag = true := by rw [State.quarantined, hif_tlpIn]; exact hquar
  unfold State.readOf at hread'
  unfold State.quarantined at hquar'
  change execCompletionReceive f tag lower count status bytes poisoned check s = _
  rcases hcheck with rfl | ⟨rfl, hoff⟩
  · simp [execCompletionReceive, linkError, hread', hquar', State.lateTaken, State.unquarantine]
  · have hoff' : ((s.tlpIn f).cfg 0).ecrcCheck = false := by rw [State.cfg, hif_tlpIn]; exact hoff
    simp [execCompletionReceive, linkError, hoff', hread', hquar', State.lateTaken, State.unquarantine]

theorem exec_completionReceive_unexpected (lower count status : Nat) (bytes : List Byte) (poisoned : Bool)
    (hread : s.readOf f tag = none) (hquar : s.quarantined f tag = false) :
    exec (.completionReceive f tag lower count status bytes poisoned check) s = .next ((s.tlpIn f).unexpected f) := by
  unfold State.readOf at hread
  unfold State.quarantined at hquar
  change execCompletionReceive f tag lower count status bytes poisoned check s = _
  rcases hcheck with rfl | ⟨rfl, hoff⟩
  · simp [execCompletionReceive, linkError, hif_tlpIn, hread, hquar]
  · have hoff' : ((s.tlpIn f).cfg 0).ecrcCheck = false := by rw [State.cfg, hif_tlpIn]; exact hoff
    simp [execCompletionReceive, linkError, hoff', hif_tlpIn, hread, hquar]

end

/-- A read that goes out leaves the tags in quarantine as they are. -/
theorem quar_issueRead (s : State) (r : ReadReq) : (s.issueRead r).hif.quar = s.hif.quar := by
  unfold State.issueRead
  split
  · rfl
  · extract_lets +onlyGivenNames req src sent told
    have htold : told.hif = sent.hif := (State.cal_keep ..).parts .hif rfl
    rw [(State.showTags_keep ..).parts .hif rfl, (State.tlpOut_keep ..).parts .hif rfl, htold]

theorem quar_retryWaiting (s : State) : s.retryWaiting.hif.quar = s.hif.quar := by
  unfold State.retryWaiting
  split
  · rfl
  · exact quar_issueRead ..

/-- The tags that stay in quarantine once one has left it and what waited has gone out. -/
theorem quar_after (s : State) (f : Nat) : ((s.showTags f).retryWaiting).hif.quar = s.hif.quar := by
  rw [quar_retryWaiting, (State.showTags_keep s f).parts .hif rfl]

theorem hif_lateTaken (s : State) (f tag : Nat) : (s.lateTaken f tag).hif = (s.unquarantine f tag).hif := by
  have k : Keep 0x200000 (s.unquarantine f tag) (((s.unquarantine f tag).count HIF_cnt_LO.COUNT 3).bump HIF_FNf_CPL.LATE f) :=
    ((Keep.refl _ _).count .hif rfl rfl).bump .hif rfl rfl
  exact ((State.raise_keep ..).parts .hif rfl).trans (k.parts .hif rfl)

theorem quarantined_unquarantine (s : State) (f tag : Nat) : (s.unquarantine f tag).quarantined f tag = false := by
  refine List.any_eq_false.2 fun q hq => ?_
  have hleft := (List.mem_filter.1 hq).2
  simpa [imp_iff_not_or] using hleft

theorem quarantined_after {s t : State} {f tag : Nat} (h : t.hif.quar = (s.unquarantine f tag).hif.quar) :
    t.quarantined f tag = false := by
  rw [State.quarantined, h]
  exact quarantined_unquarantine s f tag

theorem hif_unexpected (s : State) (f : Nat) : (s.unexpected f).hif = s.hif := by
  have k : Keep 0x1000000400300004 s ((s.count HIF_cnt_LO.COUNT 4).bump HIF_FNf_DROP.UNEXP (s.reporter f)) :=
    ((Keep.refl _ s).count .hif rfl rfl).bump .hif rfl rfl
  exact ((State.raise_keep ..).parts .hif rfl).trans (((State.aer_keep ..).step k rfl).parts .hif rfl)

/-! ## A completion of an outstanding read (R273) -/

section
variable {s : State} {f tag : Nat} {r : ReadReq} (hread : s.readOf f tag = some r) (howed : r.owed = false)
include hread howed

theorem exec_completionReceive_status {status : Nat} (lower count : Nat) (bytes : List Byte) (hstatus : status ≠ 0) :
    exec (.completionReceive f tag lower count status bytes false .good) s =
      .next ((((s.tlpIn f).dropRead f tag).readFailed r 4).readOver r) := by
  unfold State.readOf at hread
  change execCompletionReceive f tag lower count status bytes false .good s = _
  simp [execCompletionReceive, linkError, hif_tlpIn, hread, hstatus, howed, State.countOwed]

/-- The piece that a read awaits next, cut where R273 lets it be cut. -/
theorem exec_completionReceive_fits {bytes : List Byte}
    (hcut : r.got.length + bytes.length = r.len ∨
      (r.got.length + bytes.length < r.len ∧ (r.addr + r.got.length + bytes.length) % 64 = 0)) :
    exec (.completionReceive f tag ((r.addr + r.got.length) % 128) (r.len - r.got.length) 0 bytes false .good) s =
      if r.got.length + bytes.length < r.len then
        .next { s.tlpIn f with hif := { (s.tlpIn f).hif with
          reads := (s.tlpIn f).hif.reads.map (fun x => if x.fn == f && x.tag == tag then { r with got := r.got ++ bytes } else x) } }
      else .next ((((s.tlpIn f).dropRead f tag).readDone { r with got := r.got ++ bytes }).readOver r) := by
  have hfits : r.fits ((r.addr + r.got.length) % 128) (r.len - r.got.length) bytes.length = true := by
    rcases hcut with h | ⟨hlt, hrcb⟩
    · simp [ReadReq.fits, ← h]
    · simp [ReadReq.fits, rcb, hrcb]
      omega
  unfold State.readOf at hread
  change execCompletionReceive f tag _ _ 0 bytes false .good s = _
  simp [execCompletionReceive, linkError, hif_tlpIn, hread, hfits, howed, State.countOwed]

end

/-- The read holds what has come of its data. -/
theorem readOf_map {l : List ReadReq} {f tag : Nat} {r : ReadReq} (hread : l.find? (fun r => r.fn == f && r.tag == tag) = some r)
    (bytes : List Byte) :
    (l.map (fun x => if x.fn == f && x.tag == tag then { r with got := r.got ++ bytes } else x)).find?
      (fun r => r.fn == f && r.tag == tag) = some { r with got := r.got ++ bytes } := by
  have hr := List.find?_some hread
  induction l with
  | nil => cases hread
  | cons x l ih =>
    rw [List.map_cons, List.find?_cons]
    cases hx : (x.fn == f && x.tag == tag) with
    | true => simp only [if_true, hr]
    | false =>
      rw [List.find?_cons, hx] at hread
      simp only [Bool.false_eq_true, if_false, hx]
      exact ih hread

/-! ## Timeouts (R274 to R277, R279) -/

/-- The read of function `f` with tag `tag` has timed out: counted, reported and told. -/
def State.readTimedOut (s : State) (f tag : Nat) (r : ReadReq) : State :=
  ((((((s.advanceTo (r.issue + s.cplTimeout f)).count HIF_cnt_LO.COUNT 2).bump HIF_FNf_CPL.CTO f).cal 1363 1 { req := some f }).aer f
    .completionTimeout).raise 306 [i8 f, i16 tag])

theorem exec_completionTimeout {s : State} {f tag : Nat} {r : ReadReq} (hread : s.readOf f tag = some r)
    (hon : (s.cfg f).ctoDisable = false) :
    exec (.completionTimeout f tag) s =
      .next (((((s.readTimedOut f tag r).dropRead f tag).quarantine f tag).readFailed r 1).readOver r) := by
  unfold State.readOf at hread
  change execCompletionTimeout f tag s = _
  simp [execCompletionTimeout, hread, hon, State.readTimedOut]

theorem le_tick_readTimedOut (s : State) (f tag : Nat) (r : ReadReq) : r.issue + s.cplTimeout f ≤ (s.readTimedOut f tag r).tick := by
  have k : Keep 0x1000000400300004 (s.advanceTo (r.issue + s.cplTimeout f)) (s.readTimedOut f tag r) :=
    (State.raise_keep ..).step ((State.aer_keep ..).step ((State.cal_keep ..).step
      (((Keep.refl _ _).count .hif rfl rfl).bump .hif rfl rfl) rfl) rfl) rfl
  exact Nat.le_trans (advanceTo_le_tick ..) k.tick

theorem exec_tagQuarantineExpire {s : State} {f tag : Nat} {q : Nat × Nat × Nat}
    (hquar : s.hif.quar.find? (fun q => q.1 == f && q.2.1 == tag) = some q) :
    exec (.tagQuarantineExpire f tag) s =
      .next (((((s.advanceTo (q.2.2 + 1000000 * max 1 (s.rd HIF_QUAR.QUAR_MS))).unquarantine f tag).showTags f).retryWaiting)) := by
  change execTagQuarantineExpire f tag s = _
  simp [execTagQuarantineExpire, hquar, State.unquarantine]

/-- Every tag of `l` that is still owed to function `f` enters quarantine. -/
def State.owedQuarantined (s : State) (f : Nat) (l : List ReadReq) : State :=
  forEach l (fun r u => (u.dropRead f r.tag).quarantine f r.tag) s

theorem reads_quarantine (s : State) (f tag : Nat) : (s.quarantine f tag).hif.reads = s.hif.reads := by
  unfold State.quarantine
  extract_lets +onlyGivenNames n src u
  split
  · rw [(State.raise_keep ..).parts .hif rfl]
  · rfl

/-- A read that is left over was there, and is none of those whose tags went to quarantine. -/
theorem mem_reads_owedQuarantined {f : Nat} {l : List ReadReq} {s : State} {x : ReadReq}
    (hx : x ∈ (s.owedQuarantined f l).hif.reads) : x ∈ s.hif.reads ∧ ∀ r ∈ l, x.fn = f → x.tag ≠ r.tag := by
  induction l generalizing s with
  | nil => exact ⟨hx, fun r hr => by cases hr⟩
  | cons r l ih =>
    obtain ⟨hmem, hrest⟩ := ih (s := (s.dropRead f r.tag).quarantine f r.tag) hx
    rw [reads_quarantine] at hmem
    obtain ⟨hmem, hkeep⟩ := List.mem_filter.1 hmem
    refine ⟨hmem, List.forall_mem_cons.2 ⟨fun hfn htag => ?_, hrest⟩⟩
    simp [hfn, htag] at hkeep

theorem exec_flrDeadline {s : State} {f : Nat} (hbusy : s.on HIF_FNf_STATE.FLR_BUSY f = true)
    (hquiet : s.on HIF_FNf_STATE.QUIESCED f = true) :
    exec (.flrDeadline f) s =
      .next ((((((s.advanceTo ((s.cfg f).flrTick + 100000000)).owedQuarantined f
        ((s.advanceTo ((s.cfg f).flrTick + 100000000)).hif.reads.filter (fun r => r.fn == f))).showTags f).retryWaiting).settle f).dmaStopped) :=
  if_neg (by simp [hbusy, hquiet])

theorem flrDeadline_does {s : State} {f : Nat} (hbusy : s.on HIF_FNf_STATE.FLR_BUSY f = true)
    (hquiet : s.on HIF_FNf_STATE.QUIESCED f = true) :
    Does (.flrDeadline f) s (fun t => (s.cfg f).flrTick + 100000000 ≤ t.tick ∧
      ∃ u : State, t = (((u.showTags f).retryWaiting).settle f).dmaStopped ∧ ∀ r ∈ u.hif.reads, r.fn ≠ f) := by
  have hexec := exec_flrDeadline hbusy hquiet
  have htick := advanceTo_le_tick s ((s.cfg f).flrTick + 100000000)
  generalize s.advanceTo ((s.cfg f).flrTick + 100000000) = v at hexec htick
  have kquar : Keep 0x1400100004 v (v.owedQuarantined f (v.hif.reads.filter (fun r => r.fn == f))) :=
    Keep.forEach (.refl _ v) fun r u => (State.quarantine_keep ..).step ((State.dropRead_keep ..).mono rfl) rfl
  refine does_of_exec hexec ⟨?tick, _, rfl, fun x hx hfn => ?none⟩
  case tick =>
    calc (s.cfg f).flrTick + 100000000 ≤ v.tick := htick
      _ ≤ _ := kquar.tick
      _ ≤ _ := (State.showTags_keep ..).tick
      _ ≤ _ := (State.retryWaiting_keep _).tick
      _ ≤ _ := (State.settle_keep ..).tick
      _ ≤ _ := (State.dmaStopped_keep _).tick
  case none =>
    obtain ⟨hmem, hother⟩ := mem_reads_owedQuarantined hx
    exact hother x (List.mem_filter.2 ⟨hmem, by simp [hfn]⟩) hfn rfl

/-! ## The way to L2 (R262) -/

theorem exec_turnOff {s : State} (f tag lower count status : Nat) (bytes : List Byte) (poisoned : Bool)
    (hlink : s.rd HIF_LINK_STATUS.LTSSM = 3 ∨ s.rd HIF_LINK_STATUS.LTSSM = 5) :
    exec (.completionReceive f tag lower count status bytes poisoned .turnOff) s =
      .next ((s.wr HIF_LINK_STATUS.LTSSM 6).raise 304 [i8 6]) := by
  have henter : s.enterL2 = (s.wr HIF_LINK_STATUS.LTSSM 6).raise 304 [i8 6] := if_pos (by simpa using hlink)
  rw [← henter]
  rfl

theorem turnOff_does {s : State} (f tag lower count status : Nat) (bytes : List Byte) (poisoned : Bool) (hwf : s.wf = true)
    (hlink : s.rd HIF_LINK_STATUS.LTSSM = 3 ∨ s.rd HIF_LINK_STATUS.LTSSM = 5) :
    Does (.completionReceive f tag lower count status bytes poisoned .turnOff) s (fun t => t.rd HIF_LINK_STATUS.LTSSM = 6 ∧
      t.hif = s.hif ∧ t.rings = s.rings ∧ s.told 304 < t.told 304) := by
  have k : Keep 0x200000 s (s.wr HIF_LINK_STATUS.LTSSM 6) := (Keep.refl _ s).wr .hif rfl rfl
  refine does_of_exec (exec_turnOff f tag lower count status bytes poisoned hlink) ⟨?link, ?hif, ?rings, ?told⟩
  case link => rw [(State.raise_keep ..).rdIn .hif (k.wf hwf) rfl rfl rfl, rd_wr_same hwf (by decide) rfl]; rfl
  case hif => rw [(State.raise_keep ..).parts .hif rfl, k.parts .hif rfl]
  case rings => rw [(State.raise_keep ..).parts .rings rfl, k.parts .rings rfl]
  case told =>
    rw [← told_of_evt (k.parts .evt rfl) 304]
    exact told_lt_raise ..

/-- Settles O13: each completion by the read or the quarantined tag that it names, each timeout by what it leaves. -/
theorem completionsAndTags : Obligations.CompletionsAndTags := by
  unfold Obligations.CompletionsAndTags
  refine ⟨?link, ?status, ?late, ?unexpected, ?piece, ?last, ?timeout, ?quarantine, ?flr, ?turnOff⟩
  case link =>
    intro s f tag lower count status bytes poisoned check e hlink
    have hexec : exec (.completionReceive f tag lower count status bytes poisoned check) s = .next (s.aer 0 e) := by
      change execCompletionReceive f tag lower count status bytes poisoned check s = _
      simp only [execCompletionReceive, hlink]
    exact does_of_exec hexec ⟨rfl, (State.aer_keep s 0 e).parts .hif rfl, mem_sent_aer s 0 e⟩
  case status =>
    intro s f tag lower count status bytes r hread howed hstatus
    exact does_of_exec (exec_completionReceive_status hread howed lower count bytes hstatus) rfl
  case late =>
    intro s f tag lower count status bytes poisoned check hcheck hread hquar
    refine does_of_exec (exec_completionReceive_late hcheck lower count status bytes poisoned hread hquar) ?_
    exact quarantined_after ((quar_after ..).trans (congrArg HifSt.quar (hif_lateTaken (s.tlpIn f) f tag)))
  case unexpected =>
    intro s f tag lower count status bytes poisoned check hcheck hread hquar
    exact does_of_exec (exec_completionReceive_unexpected hcheck lower count status bytes poisoned hread hquar)
      ⟨rfl, (hif_unexpected ..).trans (hif_tlpIn s f)⟩
  case piece =>
    intro s f tag bytes r hread howed hlt hrcb
    refine does_of_exec ((exec_completionReceive_fits hread howed (.inr ⟨hlt, hrcb⟩)).trans (if_pos hlt)) ?_
    exact readOf_map (by rw [hif_tlpIn]; exact hread) bytes
  case last =>
    intro s f tag bytes r hread howed hlen
    exact does_of_exec ((exec_completionReceive_fits hread howed (.inl hlen)).trans (if_neg (by omega))) rfl
  case timeout =>
    intro s f tag r hread hon
    have htick := le_tick_readTimedOut s f tag r
    refine does_of_exec (exec_completionTimeout hread hon) ⟨?_, _, rfl, rfl⟩
    calc r.issue + s.cplTimeout f ≤ (s.readTimedOut f tag r).tick := htick
      _ ≤ _ := (State.dropRead_keep ..).tick
      _ ≤ _ := (State.quarantine_keep ..).tick
      _ ≤ _ := (State.readFailed_keep ..).tick
      _ ≤ _ := (State.readOver_keep ..).tick
  case quarantine =>
    intro s f tag q hquar
    have hhif : ∀ t, (s.advanceTo t).hif = s.hif := fun t => (State.advanceTo_keep s t).parts .hif rfl
    refine does_of_exec (exec_tagQuarantineExpire hquar) ⟨?_, (quar_after ..).trans ?_⟩
    · calc q.2.2 + 1000000 * max 1 (s.rd HIF_QUAR.QUAR_MS) ≤ _ := advanceTo_le_tick ..
        _ ≤ _ := (State.showTags_keep (State.unquarantine _ f tag) f).tick
        _ ≤ _ := (State.retryWaiting_keep _).tick
    · rw [State.unquarantine, hhif]
  case flr => exact fun s f _ => flrDeadline_does
  case turnOff => exact fun s f tag lower count status bytes poisoned => turnOff_does f tag lower count status bytes poisoned

end Sys2Proof.Machine

/-!
The admin ring and its commands: the three writes of QMG_ADM_CFG, and the commands that the admin ring takes.
-/
namespace Sys2Proof.Machine

/-! ## Writes of QMG_ADM_CFG (R295, R298) -/

/-- Setting a register that holds no ring's STATE leaves the list of ring words as it is. -/
theorem filterMap_cellSet_of_not_covers {f : Fld} {a : Nat} (ha : f.covers a = false) (l : Tab Word) (v : Word) :
    (cellSet resetOf l a v).filterMap (fun p => if f.covers p.1 then some (f.index p.1).1 else none) =
      l.filterMap (fun p => if f.covers p.1 then some (f.index p.1).1 else none) := by
  induction l with
  | nil =>
    unfold cellSet
    split <;> simp [ha]
  | cons p l ih =>
    obtain ⟨k, w⟩ := p
    unfold cellSet
    split
    · split <;> simp [ha]
    · split
      next hk =>
        subst hk
        split <;> simp [ha]
      next => rw [List.filterMap_cons, ih, List.filterMap_cons]

theorem not_desc_of_admCfg (f : Nat) : QMG_RINGg_DESC.STATE.covers (QMG_ADM_CFG.ENABLE.addr f 0) = false := by
  simp [Fld.covers, Fld.addr, QMG_RINGg_DESC.STATE, QMG_ADM_CFG.ENABLE]
  omega

/-- The rings' descriptors do not lie at the admin ring's control register. -/
theorem desc_ne_admCfg {g : Nat} (hg : g < 16384) (f : Nat) : QMG_RINGg_DESC.STATE.addr g 0 ≠ QMG_ADM_CFG.ENABLE.addr f 0 := by
  simp only [Fld.addr, QMG_RINGg_DESC.STATE, QMG_ADM_CFG.ENABLE]
  omega

theorem index_lt_of_desc_covers {a : Nat} (h : QMG_RINGg_DESC.STATE.covers a = true) : (QMG_RINGg_DESC.STATE.index a).1 < 16384 := by
  simp only [Fld.covers, QMG_RINGg_DESC.STATE] at h
  split at h
  · cases h
  · simp only [Fld.index, QMG_RINGg_DESC.STATE]
    simp at h
    simp
    omega

theorem lt_of_mem_ringsPresent {s : State} {g : Nat} (h : g ∈ s.ringsPresent) : g < 16384 := by
  obtain ⟨p, -, hp⟩ := List.mem_filterMap.1 (List.mem_filter.1 h).1
  split at hp
  next hcov =>
    cases hp
    exact index_lt_of_desc_covers hcov
  next => cases hp

/-- A write of QMG_ADM_CFG leaves every function's rings as they are. -/
theorem findRing_wr_admCfg {s : State} (hwf : s.wf = true) (v f h n : Nat) :
    (s.wr QMG_ADM_CFG.ENABLE v f).findRing h n = s.findRing h n := by
  have hdesc : ∀ g < 16384, (s.wr QMG_ADM_CFG.ENABLE v f).reg (QMG_RINGg_DESC.STATE.addr g 0) = s.reg (QMG_RINGg_DESC.STATE.addr g 0) :=
    fun g hg => reg_wr_other hwf (desc_ne_admCfg hg f)
  have hlist : (s.wr QMG_ADM_CFG.ENABLE v f).regs.filterMap
        (fun p => if QMG_RINGg_DESC.STATE.covers p.1 then some (QMG_RINGg_DESC.STATE.index p.1).1 else none) =
      s.regs.filterMap (fun p => if QMG_RINGg_DESC.STATE.covers p.1 then some (QMG_RINGg_DESC.STATE.index p.1).1 else none) := by
    unfold State.wr
    split
    · exact filterMap_cellSet_of_not_covers (not_desc_of_admCfg f) ..
    · rfl
  have hpresent : (s.wr QMG_ADM_CFG.ENABLE v f).ringsPresent = s.ringsPresent := by
    unfold State.ringsPresent
    rw [hlist]
    refine List.filter_congr fun g hg => on_of_rd (rd_of_reg (hdesc g ?_))
    obtain ⟨p, -, hp⟩ := List.mem_filterMap.1 hg
    split at hp
    next hcov =>
      cases hp
      exact index_lt_of_desc_covers hcov
    next => cases hp
  have hrings : (s.wr QMG_ADM_CFG.ENABLE v f).ringsOf h = s.ringsOf h := by
    unfold State.ringsOf
    rw [hpresent]
    exact List.filter_congr fun g hg => by
      rw [rd_of_reg (f := QMG_RINGg_DESC.FN) (i := g) (j := 0) (hdesc g (lt_of_mem_ringsPresent hg))]
  unfold State.findRing
  rw [hrings]
  refine List.find?_congr fun g hg => ?_
  rw [rd_of_reg (f := QMG_RINGg_DESC.RING) (i := g) (j := 0) (hdesc g (lt_of_mem_ringsPresent (List.mem_filter.1 hg).1))]

section
variable {s : State} {f : Nat} {val : Word}

theorem exec_adminRingEnable_off (hoff : s.on QMG_ADM_CFG.ENABLE f = false) (hval : bitOf val.toNat 31 = false) :
    exec (.adminRingEnable f val) s =
      .next ((s.wr QMG_ADM_CFG.LOG2 (bitsOf val.toNat 16 5) f).wr QMG_ADM_CFG.VECTOR (bitsOf val.toNat 0 11) f) := by
  change execAdminRingEnable f val s = _
  simp [execAdminRingEnable, hoff, hval]

theorem exec_adminRingEnable_make {g : Nat} (hoff : s.on QMG_ADM_CFG.ENABLE f = false) (hval : bitOf val.toNat 31 = true)
    (hlo : 6 ≤ bitsOf val.toNat 16 5) (hhi : bitsOf val.toNat 16 5 ≤ 16)
    (hbase : (s.rd QMG_ADM_BASE_LO.BASE f + s.rd QMG_ADM_BASE_HI.BASE f * 2 ^ 32) % 4096 = 0) (hfree : s.freeRing = some g)
    (hnone : s.findRing f 0 = none) :
    exec (.adminRingEnable f val) s = .next ((((s.wr QMG_ADM_CFG.LOG2 (bitsOf val.toNat 16 5) f).wr QMG_ADM_CFG.VECTOR
      (bitsOf val.toNat 0 11) f).wr QMG_ADM_CFG.ENABLE 1 f).makeRing g f 0 0 (bitsOf val.toNat 16 5)
        { base := s.rd QMG_ADM_BASE_LO.BASE f + s.rd QMG_ADM_BASE_HI.BASE f * 2 ^ 32, vector := bitsOf val.toNat 0 11, ien := true,
          icount := 1 }) := by
  have hgood : (decide (bitsOf val.toNat 16 5 < 6) || decide (16 < bitsOf val.toNat 16 5) ||
      (s.rd QMG_ADM_BASE_LO.BASE f + s.rd QMG_ADM_BASE_HI.BASE f * 2 ^ 32) % 4096 != 0) = false := by
    rw [hbase, decide_eq_false (Nat.not_lt.2 hlo), decide_eq_false (Nat.not_lt.2 hhi)]
    rfl
  change execAdminRingEnable f val s = _
  simp only [execAdminRingEnable, hoff, hval, hgood, hfree, hnone, Bool.false_eq_true, if_false, Bool.not_true]

theorem exec_adminRingEnable_destroy {g : Nat} (hwf : s.wf = true) (hon : s.on QMG_ADM_CFG.ENABLE f = true)
    (hval : bitOf val.toNat 31 = false) (hlog : bitsOf val.toNat 16 5 = s.rd QMG_ADM_CFG.LOG2 f)
    (hvec : bitsOf val.toNat 0 11 = s.rd QMG_ADM_CFG.VECTOR f) (hring : s.findRing f 0 = some g) :
    exec (.adminRingEnable f val) s = .next ((s.wr QMG_ADM_CFG.ENABLE 0 f).beginDestroy g) := by
  have hstill : (s.wr QMG_ADM_CFG.ENABLE 0 f).findRing f 0 = some g := (findRing_wr_admCfg hwf ..).trans hring
  change execAdminRingEnable f val s = _
  simp [execAdminRingEnable, hon, hval, hlog, hvec, hstill]

theorem adminRingEnable_off_does (hwf : s.wf = true) (hf : f < 256) (hoff : s.on QMG_ADM_CFG.ENABLE f = false)
    (hval : bitOf val.toNat 31 = false) :
    Does (.adminRingEnable f val) s (fun t => t.rd QMG_ADM_CFG.LOG2 f = bitsOf val.toNat 16 5 ∧
      t.rd QMG_ADM_CFG.VECTOR f = bitsOf val.toNat 0 11 ∧ t.on QMG_ADM_CFG.ENABLE f = false ∧ t.rings = s.rings) := by
  have hlog : QMG_ADM_CFG.LOG2.fits f 0 = true := by simp [Fld.fits, QMG_ADM_CFG.LOG2, hf]
  have hvec : QMG_ADM_CFG.VECTOR.fits f 0 = true := by simp [Fld.fits, QMG_ADM_CFG.VECTOR, hf]
  have hwf' : (s.wr QMG_ADM_CFG.LOG2 (bitsOf val.toNat 16 5) f).wf = true := wr_wf hwf ..
  have k : Keep 0x400000 s ((s.wr QMG_ADM_CFG.LOG2 (bitsOf val.toNat 16 5) f).wr QMG_ADM_CFG.VECTOR (bitsOf val.toNat 0 11) f) :=
    ((Keep.refl _ s).wrFn (by decide) rfl).wrFn (by decide) rfl
  refine does_of_exec (exec_adminRingEnable_off hoff hval) ⟨?log, ?vec, ?enable, k.parts .rings rfl⟩
  case log =>
    rw [rd_wr_bits hwf' (by decide) (.inl (by decide)), rd_wr_same hwf (by decide) hlog]
    exact Nat.mod_mod ..
  case vec =>
    rw [rd_wr_same hwf' (by decide) hvec]
    exact Nat.mod_mod ..
  case enable =>
    rw [State.on, rd_wr_bits hwf' (by decide) (.inl (by decide)), rd_wr_bits hwf (by decide) (.inl (by decide))]
    exact hoff

end

/-! ## The common admin commands (R299) -/

section
variable {s : State} {g : Nat} {j : Job}

theorem exec_createRing_make {h : Nat} (hjob : s.jobOf g 2 = some j)
    (hgood : s.createRefused (s.rd QMG_RINGg_DESC.FN g) j.qw = 0)
    (hnone : s.findRing (s.rd QMG_RINGg_DESC.FN g) (bitsOf (qwAt j.qw 1) 0 14) = none) (hfree : s.freeRing = some h)
    (hvec : bitsOf (qwAt j.qw 7) 0 11 ≤ s.rd HIF_FNf_MSIX.SIZE (s.rd QMG_RINGg_DESC.FN g)) :
    exec (.createRing g) s = .next
      ((s.makeRing h (s.rd QMG_RINGg_DESC.FN g) (bitsOf (qwAt j.qw 1) 0 14) (bitsOf (qwAt j.qw 1) 22 2) (bitsOf (qwAt j.qw 1) 16 5)
        { base := qwAt j.qw 6, ro := bitOf (qwAt j.qw 1) 24, prefetch := bitsOf (qwAt j.qw 1) 25 5, bind := bitsOf (qwAt j.qw 1) 32 32,
          vector := bitsOf (qwAt j.qw 7) 0 11, ien := bitOf (qwAt j.qw 7) 11, icount := bitsOf (qwAt j.qw 7) 16 12,
          itime := bitsOf (qwAt j.qw 7) 32 16 }).finishJob g j.idx 0 0 0 h) := by
  change execCreateRing g s = _
  simp only [execCreateRing, hjob, hgood, hnone, hfree, Nat.not_lt.2 hvec, bne_self_eq_false, Bool.false_eq_true, Option.isSome_none,
    if_false]

theorem exec_createRing_refused (hjob : s.jobOf g 2 = some j) (hbad : s.createRefused (s.rd QMG_RINGg_DESC.FN g) j.qw ≠ 0) :
    exec (.createRing g) s = .next (s.createFail.finishJob g j.idx 4 (s.createRefused (s.rd QMG_RINGg_DESC.FN g) j.qw)) := by
  change execCreateRing g s = _
  simp [execCreateRing, hjob, hbad]

variable {h : Nat} (hring : s.findRing (s.rd QMG_RINGg_DESC.FN g) (bitsOf (qwAt j.qw 1) 0 14) = some h)
include hring

theorem exec_destroyRing (hjob : s.jobOf g 3 = some j) (hn : bitsOf (qwAt j.qw 1) 0 14 ≠ 0) :
    exec (.destroyRing g) s = .next (s.beginDestroy h) := by
  change execDestroyRing g s = _
  simp [execDestroyRing, hjob, hn, hring]

theorem exec_modifyRing (hjob : s.jobOf g 4 = some j)
    (hvec : bitsOf (qwAt j.qw 7) 0 11 ≤ s.rd HIF_FNf_MSIX.SIZE (s.rd QMG_RINGg_DESC.FN g)) :
    exec (.modifyRing g) s = .next ((s.setRing h { s.ring h with
      ro := bitOf (qwAt j.qw 1) 24, vector := bitsOf (qwAt j.qw 7) 0 11, ien := bitOf (qwAt j.qw 7) 11,
      icount := bitsOf (qwAt j.qw 7) 16 12, itime := bitsOf (qwAt j.qw 7) 32 16 }).finishJob g j.idx 0) := by
  change execModifyRing g s = _
  simp [execModifyRing, hjob, hring, hvec]

theorem exec_queryRing (hjob : s.jobOf g 5 = some j) :
    exec (.queryRing g) s = .next (s.finishJob g j.idx 0 0 (s.rd QMG_RINGg_CONS.CONS h)
      (s.rd QMG_RINGg_DESC.STATE h + s.rd QMG_RINGg_DESC.LOG2 h * 2 ^ 3 + s.rd QMG_RINGg_DESC.TYPE h * 2 ^ 8)) := by
  change execQueryRing g s = _
  simp [execQueryRing, hjob, hring]

theorem exec_ringCounters (hjob : s.jobOf g 6 = some j) :
    exec (.ringCounters g) s = .next (s.answerJob g j ((s.ring h).cnt.flatMap (leBytes 8) ++ leBytes 8 0)) := by
  change execRingCounters g s = _
  simp [execRingCounters, hjob, hring]

end

/-- A command that names a ring that is not there answers Not Found. -/
theorem exec_of_no_ring {s : State} {g op : Nat} {c : Instr} {j : Job} (hjob : s.jobOf g op = some j)
    (hcmd : (c = .destroyRing g ∧ op = 3 ∧ bitsOf (qwAt j.qw 1) 0 14 ≠ 0) ∨ (c = .modifyRing g ∧ op = 4) ∨
      (c = .queryRing g ∧ op = 5) ∨ (c = .ringCounters g ∧ op = 6))
    (hnone : s.findRing (s.rd QMG_RINGg_DESC.FN g) (bitsOf (qwAt j.qw 1) 0 14) = none) :
    exec c s = .next (s.finishJob g j.idx 5) := by
  rcases hcmd with ⟨rfl, rfl, hn⟩ | ⟨rfl, rfl⟩ | ⟨rfl, rfl⟩ | ⟨rfl, rfl⟩
  · change execDestroyRing g s = _
    simp [execDestroyRing, hjob, hn, hnone]
  · change execModifyRing g s = _
    simp [execModifyRing, hjob, hnone]
  · change execQueryRing g s = _
    simp [execQueryRing, hjob, hnone]
  · change execRingCounters g s = _
    simp [execRingCounters, hjob, hnone]

/-- Settles O15: each write of QMG_ADM_CFG by ENABLE before and after, each command by the job at the head of its ring. -/
theorem adminCommands : Obligations.AdminCommands := by
  unfold Obligations.AdminCommands
  refine ⟨?off, ?make, ?destroyAdmin, ?noOp, ?identify, ?create, ?refused, ?destroy, ?modify, ?query, ?counters, ?noRing⟩
  case off => exact fun s f val hwf hf => adminRingEnable_off_does hwf hf
  case make =>
    exact fun s f g val _ _ hoff hval hlo hhi hbase hfree hnone =>
      does_of_exec (exec_adminRingEnable_make hoff hval hlo hhi hbase hfree hnone) rfl
  case destroyAdmin =>
    exact fun s f g val hwf _ hon hval hlog hvec hring =>
      does_of_exec (exec_adminRingEnable_destroy hwf hon hval hlog hvec hring) rfl
  case noOp =>
    intro s g j hjob
    have hexec : exec (.noOp g) s = .next (s.finishJob g j.idx 0) := by
      change execNoOp g s = _
      simp [execNoOp, hjob]
    exact does_of_exec hexec rfl
  case identify =>
    intro s g j hjob
    have hexec : exec (.identify g) s = .next (s.answerJob g j (s.identity (s.rd QMG_RINGg_DESC.FN g))) := by
      change execIdentify g s = _
      simp [execIdentify, hjob]
    exact does_of_exec hexec rfl
  case create => exact fun s g h j hjob hgood hnone hfree hvec => does_of_exec (exec_createRing_make hjob hgood hnone hfree hvec) rfl
  case refused => exact fun s g j hjob hbad => does_of_exec (exec_createRing_refused hjob hbad) rfl
  case destroy => exact fun s g h j hjob hn hring => does_of_exec (exec_destroyRing hring hjob hn) rfl
  case modify => exact fun s g h j hjob hring hvec => does_of_exec (exec_modifyRing hring hjob hvec) rfl
  case query => exact fun s g h j hjob hring => does_of_exec (exec_queryRing hring hjob) rfl
  case counters => exact fun s g h j hjob hring => does_of_exec (exec_ringCounters hring hjob) rfl
  case noRing => exact fun s g c op j hjob hcmd hnone => does_of_exec (exec_of_no_ring hjob hcmd hnone) rfl

end Sys2Proof.Machine

/-!
The states of a drive slot: what setting a slot's state does to the registers, the slot's record and the events, and each command of R317
and R318 by the state that it finds.
-/
namespace Sys2Proof.Machine

/-! ## The state of a slot -/

theorem rd_lt (s : State) (f : Fld) (i j : Nat) : s.rd f i j < 2 ^ f.w := Nat.mod_lt _ (Nat.two_pow_pos _)

theorem ds_setDs_of_ne (s : State) (d : Nat) {x : DsSt} (hx : x ≠ default) : (s.setDs d x).ds d = x :=
  cellGet_cellSet_ne s.stg.slots d hx

theorem fits_dsStatus {d : Nat} (hd : d < 4) {f : Fld} (hn : f.n1 = 4) (hm : f.n2 = 1) : f.fits d 0 = true := by
  simp [Fld.fits, hn, hm, hd]

/-- A change of state: the register, the time of the change and source 336. -/
theorem setSstate_of_ne {s : State} {d v : Nat} (h : s.sstate d ≠ v) :
    s.setSstate d v = ((s.wr STG_DSn_STATUS.SSTATE v d).setDs d { s.ds d with from_ := s.tick }).raise 336 [i8 d, i8 (s.sstate d), i8 v] :=
  if_neg h

theorem sstate_setSstate {s : State} {d v : Nat} (hwf : s.wf = true) (hd : d < 4) (hv : v < 8) : (s.setSstate d v).sstate d = v := by
  by_cases h : s.sstate d = v
  case pos => rw [show s.setSstate d v = s from if_pos h, h]
  case neg =>
    have hwf' : (s.wr STG_DSn_STATUS.SSTATE v d).wf = true := wr_wf hwf ..
    have hfit : STG_DSn_STATUS.SSTATE.fits d 0 = true := fits_dsStatus hd rfl rfl
    rw [setSstate_of_ne h, State.sstate, (State.raise_keep ..).rdIn .stg ((State.setDs_keep ..).wf hwf') rfl hfit rfl,
      (State.setDs_keep ..).rdIn .stg hwf' rfl hfit rfl, rd_wr_same hwf (by decide) hfit]
    exact Nat.mod_eq_of_lt hv

/-- A field of the STG registers beside SSTATE stays as it was. -/
theorem rd_setSstate {s : State} {f : Fld} {d v i j : Nat} (hwf : s.wf = true) (hblk : f.inBlk .stg = true) (hfit : f.fits i j = true)
    (hlo : 3 ≤ f.lo) : (s.setSstate d v).rd f i j = s.rd f i j := by
  by_cases h : s.sstate d = v
  case pos => rw [show s.setSstate d v = s from if_pos h]
  case neg =>
    have hwf' : (s.wr STG_DSn_STATUS.SSTATE v d).wf = true := wr_wf hwf ..
    rw [setSstate_of_ne h, (State.raise_keep ..).rdIn .stg ((State.setDs_keep ..).wf hwf') hblk hfit rfl,
      (State.setDs_keep ..).rdIn .stg hwf' hblk hfit rfl, rd_wr_bits (f := STG_DSn_STATUS.SSTATE) hwf (by decide) (.inl hlo)]

theorem on_setSstate {s : State} {f : Fld} {d v i j : Nat} (hwf : s.wf = true) (hblk : f.inBlk .stg = true) (hfit : f.fits i j = true)
    (hlo : 3 ≤ f.lo) : (s.setSstate d v).on f i j = s.on f i j := on_of_rd (rd_setSstate hwf hblk hfit hlo)

theorem told_setSstate {s : State} {d v : Nat} (h : s.sstate d ≠ v) : s.told 336 < (s.setSstate d v).told 336 := by
  have k : Keep 0x10000000002000 s ((s.wr STG_DSn_STATUS.SSTATE v d).setDs d { s.ds d with from_ := s.tick }) :=
    (State.setDs_keep ..).step ((Keep.refl _ s).wr .stg rfl rfl) rfl
  rw [setSstate_of_ne h, ← told_of_evt (k.parts .evt rfl) 336]
  exact told_lt_raise ..

theorem ds_setSstate {s : State} {d v : Nat} (h : s.sstate d ≠ v) (hx : ({ s.ds d with from_ := s.tick } : DsSt) ≠ default) :
    (s.setSstate d v).ds d = { s.ds d with from_ := s.tick } := by
  rw [setSstate_of_ne h, State.ds, (State.raise_keep ..).parts .stg rfl]
  exact ds_setDs_of_ne _ _ hx

/-! ## A slot's record set on the way -/

section
variable {s : State} {d : Nat} {x : DsSt}

theorem sstate_setDs : (s.setDs d x).sstate d = s.sstate d := rfl

theorem on_setDs {f : Fld} {i j : Nat} : (s.setDs d x).on f i j = s.on f i j := rfl

theorem setDs_wf (hwf : s.wf = true) : (s.setDs d x).wf = true := (State.setDs_keep ..).wf hwf

/-- The record and the state of a slot change together, and source 336 tells it. -/
theorem setDs_setSstate_does {v : Nat} (hwf : s.wf = true) (hd : d < 4) (hv : v < 8) (hne : s.sstate d ≠ v)
    (hx : x ≠ default) (hx' : ({ x with from_ := s.tick } : DsSt) ≠ default) :
    ((s.setDs d x).setSstate d v).sstate d = v ∧ ((s.setDs d x).setSstate d v).ds d = { x with from_ := s.tick } ∧
      s.told 336 < ((s.setDs d x).setSstate d v).told 336 := by
  have hds : (s.setDs d x).ds d = x := ds_setDs_of_ne s d hx
  refine ⟨sstate_setSstate (setDs_wf hwf) hd hv, ?ds, told_setSstate (s := s.setDs d x) hne⟩
  rw [ds_setSstate (s := s.setDs d x) hne (by rw [hds]; exact hx'), hds]
  rfl

end

/-- A record with a nonzero power LED is not the default one. -/
theorem dsSt_ne_default_of_led {x : DsSt} (hled : x.led ≠ 0) : x ≠ default := fun h => hled (h ▸ rfl)

/-! ## The commands (R317, R318) -/

section
variable {s : State} {d : Nat} (hd : d < 4)
include hd

theorem exec_slotPresentDebounce (hempty : s.sstate d = 0) (hwf : s.wf = true) :
    exec (.slotPresentDebounce d) s = .next ((s.wr STG_DSn_STATUS.PRSNT 1 d).enterPresent d) := by
  have hstill : (s.wr STG_DSn_STATUS.PRSNT 1 d).sstate d = 0 :=
    (rd_wr_bits hwf (by decide) (.inr (by decide))).trans hempty
  change execSlotPresentDebounce d s = _
  simp [execSlotPresentDebounce, Nat.not_le.2 hd, hstill]

/-- Outside AUTO_ON a slot that enters Present stays there. -/
theorem enterPresent_of_not_auto (hwf : s.wf = true) (hauto : s.on STG_DSn_CFG.AUTO_ON d = false) :
    s.enterPresent d = s.setSstate d 1 := by
  have hauto' : (s.setSstate d 1).on STG_DSn_CFG.AUTO_ON d = false :=
    (on_setSstate hwf rfl (fits_dsStatus hd rfl rfl) (by decide)).trans hauto
  simp [State.enterPresent, hauto']

theorem slotPresentDebounce_does (hwf : s.wf = true) (hempty : s.sstate d = 0) (hauto : s.on STG_DSn_CFG.AUTO_ON d = false) :
    Does (.slotPresentDebounce d) s (fun t => t.on STG_DSn_STATUS.PRSNT d = true ∧ t.sstate d = 1 ∧ s.told 336 < t.told 336) := by
  have hwf' : (s.wr STG_DSn_STATUS.PRSNT 1 d).wf = true := wr_wf hwf ..
  have hstate : (s.wr STG_DSn_STATUS.PRSNT 1 d).sstate d ≠ 1 := by
    rw [State.sstate, rd_wr_bits hwf (by decide) (.inr (by decide)), show s.rd STG_DSn_STATUS.SSTATE d = 0 from hempty]
    decide
  have hauto' : (s.wr STG_DSn_STATUS.PRSNT 1 d).on STG_DSn_CFG.AUTO_ON d = false :=
    (on_of_rd (rd_wr_bits hwf (by decide) (.inl (by decide)))).trans hauto
  refine does_of_exec ((exec_slotPresentDebounce hd hempty hwf).trans (congrArg _ (enterPresent_of_not_auto hd hwf' hauto'))) ?_
  refine ⟨?prsnt, sstate_setSstate hwf' hd (by decide), ?told⟩
  case prsnt =>
    rw [on_setSstate hwf' rfl (fits_dsStatus hd rfl rfl) (by decide)]
    exact on_wr_same hwf (by decide) rfl (fits_dsStatus hd rfl rfl) true
  case told =>
    have k : Keep 0x2000 s (s.wr STG_DSn_STATUS.PRSNT 1 d) := (Keep.refl _ s).wr .stg rfl rfl
    rw [← told_of_evt (k.parts .evt rfl) 336]
    exact told_setSstate hstate

theorem exec_slotPowerOn : exec (.slotPowerOn d) s = .next (s.slotPower d) := if_neg (by omega)

theorem slotPowerOn_does (hwf : s.wf = true) (hpresent : s.sstate d = 1) (henable : s.on STG_DSn_CFG.ENABLE d = true) :
    Does (.slotPowerOn d) s (fun t => t.sstate d = 2 ∧ (t.ds d).pwren = true ∧ (t.ds d).led = 2 ∧ (t.ds d).from_ = s.tick ∧
      s.told 336 < t.told 336) := by
  have hpower : s.slotPower d = (s.setDs d { s.ds d with pwren := true, led := 2 }).setSstate d 2 := by
    unfold State.sstate at hpresent
    simp [State.slotPower, hpresent, henable]
  obtain ⟨hstate, hds, htold⟩ := setDs_setSstate_does (x := { s.ds d with pwren := true, led := 2 }) (v := 2) hwf hd (by decide)
    (by rw [hpresent]; decide) (dsSt_ne_default_of_led (Nat.succ_ne_zero 1)) (dsSt_ne_default_of_led (Nat.succ_ne_zero 1))
  refine does_of_exec ((exec_slotPowerOn hd).trans (congrArg _ hpower)) ?_
  rw [hds]
  exact ⟨hstate, rfl, rfl, rfl, htold⟩

omit hd in
theorem slotPower_of_not_present (h : s.sstate d ≠ 1 ∨ s.on STG_DSn_CFG.ENABLE d = false) : s.slotPower d = s := by
  refine if_pos ?_
  unfold State.sstate at h
  rcases h with h | h <;> simp [h]

end

section
variable {s : State} {d : Nat} (hd : d < 4) (hwf : s.wf = true)
include hd hwf

/-- The power delay is over: DSn_PERST_N is deasserted and the slot trains (R317). -/
theorem slotPowerDelayExpire_does (hpower : s.sstate d = 2) (hprsnt : s.on STG_DSn_STATUS.PRSNT d = true)
    (hms : s.rd STG_DSn_CFG.PWR_DELAY_MS d ≠ 0) :
    Does (.slotPowerDelayExpire d) s (fun t => t.sstate d = 3 ∧
      (s.ds d).from_ + 1000000 * s.rd STG_DSn_CFG.PWR_DELAY_MS d ≤ t.tick ∧ s.told 336 < t.told 336) := by
  have hexec : exec (.slotPowerDelayExpire d) s =
      let v := s.advanceTo ((s.ds d).from_ + 1000000 * s.rd STG_DSn_CFG.PWR_DELAY_MS d)
      let u := (v.setDs d { v.ds d with perst := false }).setSstate d 3
      .next (if u.on STG_DSn_STATUS.PRSNT d then u else u.slotLost d true) := by
    change execSlotPowerDelayExpire d s = _
    simp [execSlotPowerDelayExpire, Nat.not_le.2 hd, hpower, hms]
  have htick := advanceTo_le_tick s ((s.ds d).from_ + 1000000 * s.rd STG_DSn_CFG.PWR_DELAY_MS d)
  have kadv := State.advanceTo_keep s ((s.ds d).from_ + 1000000 * s.rd STG_DSn_CFG.PWR_DELAY_MS d)
  generalize s.advanceTo ((s.ds d).from_ + 1000000 * s.rd STG_DSn_CFG.PWR_DELAY_MS d) = v at hexec htick kadv
  have hwfv : v.wf = true := kadv.wf hwf
  have hstate : v.sstate d ≠ 3 := by
    rw [State.sstate, kadv.rdIn .stg hwf rfl (fits_dsStatus hd rfl rfl) rfl, show s.rd STG_DSn_STATUS.SSTATE d = 2 from hpower]
    decide
  have hstill : ((v.setDs d { v.ds d with perst := false }).setSstate d 3).on STG_DSn_STATUS.PRSNT d = true := by
    rw [on_setSstate (setDs_wf hwfv) rfl (fits_dsStatus hd rfl rfl) (by decide), on_setDs,
      on_of_rd (kadv.rdIn .stg hwf rfl (fits_dsStatus hd rfl rfl) rfl), hprsnt]
  have hx : ∀ t, ({ v.ds d with perst := false, from_ := t } : DsSt) ≠ default := fun t h =>
    Bool.false_ne_true (congrArg DsSt.perst h)
  obtain ⟨hnow, -, htold⟩ := setDs_setSstate_does (x := { v.ds d with perst := false }) (v := 3) hwfv hd (by decide) hstate
    (hx _) (hx _)
  refine does_of_exec (hexec.trans (congrArg _ (if_pos hstill))) ⟨hnow, ?tick, ?told⟩
  case tick =>
    calc _ ≤ v.tick := htick
      _ ≤ _ := (State.setDs_keep ..).tick
      _ ≤ _ := (State.setSstate_keep ..).tick
  case told => rwa [told_of_evt (kadv.parts .evt rfl) 336] at htold

/-- What a ready drive shows: the rate and width that its slot's limits allow (R317). -/
def State.driveShown (s : State) (d rate width : Nat) : State :=
  (s.wr STG_DSn_STATUS.RATE (min rate (s.rd STG_DSn_CFG.MAX_RATE d)) d).wr STG_DSn_STATUS.WIDTH
    (min width (s.rd STG_DSn_CFG.MAX_WIDTH d)) d

omit hd hwf in
theorem driveShown_keep (rate width : Nat) : Keep 0x2000 s (s.driveShown d rate width) :=
  ((Keep.refl _ s).wr .stg rfl rfl).wr .stg rfl rfl

omit hd hwf in
/-- The namespaces on a drive are read off the namespace slots' registers alone. -/
theorem onDrive_of_reg {t : State} (h : ∀ n < 64, t.reg (STG_NSs_CFG.VALID.addr n 0) = s.reg (STG_NSs_CFG.VALID.addr n 0)) :
    t.onDrive d = s.onDrive d := by
  have hvalid : ∀ n, t.nsValid n = s.nsValid n := fun n => by
    by_cases hn : n < 64
    · rw [State.nsValid, State.on, rd_of_reg (f := STG_NSs_CFG.VALID) (h n hn), State.nsValid, State.on]
    · simp [State.nsValid, hn]
  unfold State.onDrive
  rw [funext hvalid]
  refine List.flatMap_congr fun n hn => ?_
  have hlt : n < 64 := List.mem_range.1 (List.mem_filter.1 hn).1
  have hsides : t.nsSides n = s.nsSides n := by
    rw [State.nsSides, State.nsMirrored, State.on, rd_of_reg (f := STG_NSs_CFG.KIND) (h n hlt),
      rd_of_reg (f := STG_NSs_CFG.DRIVE_B_EN) (h n hlt), State.nsSides, State.nsMirrored, State.on]
  have hdrive : ∀ i, t.nsDrive n i = s.nsDrive n i := fun i => by
    rw [State.nsDrive, rd_of_reg (f := STG_NSs_CFG.DRIVE_A) (h n hlt), rd_of_reg (f := STG_NSs_CFG.DRIVE_B) (h n hlt), State.nsDrive]
  rw [hsides, funext hdrive]

omit hd hwf in
/-- The registers of the namespace slots stay as they are while a slot's STATUS register is written. -/
theorem ns_ne_dsStatus (n : Nat) : STG_NSs_CFG.VALID.addr n 0 ≠ STG_DSn_STATUS.SSTATE.addr d 0 := by
  simp only [Fld.addr, STG_NSs_CFG.VALID, STG_DSn_STATUS.SSTATE]
  omega

omit hd in
theorem onDrive_driveShown (rate width : Nat) : (s.driveShown d rate width).onDrive d = s.onDrive d :=
  onDrive_of_reg fun n _ =>
    (reg_wr_other (f := STG_DSn_STATUS.WIDTH) (wr_wf hwf ..) (ns_ne_dsStatus n)).trans
      (reg_wr_other (f := STG_DSn_STATUS.RATE) hwf (ns_ne_dsStatus n))

omit hd in
theorem onDrive_setSstate (v : Nat) : (s.setSstate d v).onDrive d = s.onDrive d := by
  by_cases h : s.sstate d = v
  case pos => rw [show s.setSstate d v = s from if_pos h]
  case neg =>
    refine onDrive_of_reg fun n hn => ?_
    have hin := Fld.addr_in (b := .stg) (n := 0) (f := STG_NSs_CFG.VALID) (i := n) (j := 0) rfl (by simp [Fld.fits, STG_NSs_CFG.VALID, hn])
    have hzone : zoneNo (STG_NSs_CFG.VALID.addr n 0) = 13 := zoneNo_blk (b := .stg) hin.1 (by omega)
    have kwr := reg_wr_other (v := v) hwf (ns_ne_dsStatus (d := d) n)
    rw [setSstate_of_ne h, (State.raise_keep ..).regs (setDs_wf (wr_wf hwf ..)) _ (by rw [hzone]; rfl)]
    exact kwr

/-- The record of a trained drive: its rate and width, its LED on, its slot Up (R317). -/
theorem slotDriveReady_does (rate width : Nat) (htrain : s.sstate d = 3) (hnone : s.onDrive d = []) :
    Does (.slotDriveReady d rate width) s (fun t => ∃ u : State, t = u.stgSettle ∧ u.sstate d = 4 ∧ (u.ds d).led = 1 ∧
      u.rd STG_DSn_STATUS.RATE d = min rate (s.rd STG_DSn_CFG.MAX_RATE d) ∧
      u.rd STG_DSn_STATUS.WIDTH d = min width (s.rd STG_DSn_CFG.MAX_WIDTH d)) := by
  have hwidth : (s.wr STG_DSn_STATUS.RATE (min rate (s.rd STG_DSn_CFG.MAX_RATE d)) d).rd STG_DSn_CFG.MAX_WIDTH d =
      s.rd STG_DSn_CFG.MAX_WIDTH d := rd_wr_addr hwf (by simp [Fld.addr, STG_DSn_CFG.MAX_WIDTH, STG_DSn_STATUS.RATE])
  have hwfr : (s.wr STG_DSn_STATUS.RATE (min rate (s.rd STG_DSn_CFG.MAX_RATE d)) d).wf = true := wr_wf hwf ..
  have hshown : (s.driveShown d rate width).rd STG_DSn_STATUS.RATE d = min rate (s.rd STG_DSn_CFG.MAX_RATE d) ∧
      (s.driveShown d rate width).rd STG_DSn_STATUS.WIDTH d = min width (s.rd STG_DSn_CFG.MAX_WIDTH d) := by
    constructor
    · rw [State.driveShown, rd_wr_bits hwfr (by decide) (.inl (by decide)), rd_wr_same hwf (by decide) (fits_dsStatus hd rfl rfl)]
      exact Nat.mod_eq_of_lt (Nat.lt_of_le_of_lt (Nat.min_le_right ..) (rd_lt ..))
    · rw [State.driveShown, rd_wr_same hwfr (by decide) (fits_dsStatus hd rfl rfl)]
      exact Nat.mod_eq_of_lt (Nat.lt_of_le_of_lt (Nat.min_le_right ..) (rd_lt ..))
  have hon : (s.driveShown d rate width).onDrive d = [] := (onDrive_driveShown hwf rate width).trans hnone
  have hstate : (s.driveShown d rate width).sstate d = 3 :=
    ((rd_wr_bits hwfr (by decide) (.inr (by decide))).trans (rd_wr_bits hwf (by decide) (.inr (by decide)))).trans htrain
  have hwfv : (s.driveShown d rate width).wf = true := (driveShown_keep rate width).wf hwf
  obtain ⟨hrate, hwd⟩ := hshown
  have hexec : exec (.slotDriveReady d rate width) s =
      let v := s.driveShown d rate width
      .next ((v.setDs d { v.ds d with led := 1 }).setSstate d 4).stgSettle := by
    have hon' : (((s.driveShown d rate width).setDs d { (s.driveShown d rate width).ds d with led := 1 }).setSstate d 4).onDrive d = [] :=
      (onDrive_setSstate (setDs_wf hwfv) 4).trans hon
    unfold State.driveShown at hon' ⊢
    change execSlotDriveReady d rate width s = _
    simp only [execSlotDriveReady, Nat.not_le.2 hd, htrain, hwidth, hon', decide_false, bne_self_eq_false, Bool.or_false,
      Bool.false_eq_true, if_false]
    rfl
  generalize s.driveShown d rate width = v at hexec hrate hwd hstate hwfv
  obtain ⟨hnow, hds, -⟩ := setDs_setSstate_does (x := { v.ds d with led := 1 }) (v := 4) hwfv hd (by decide)
    (by rw [hstate]; decide) (dsSt_ne_default_of_led Nat.one_ne_zero) (dsSt_ne_default_of_led Nat.one_ne_zero)
  refine does_of_exec hexec ⟨_, rfl, hnow, by rw [hds], ?rateShown, ?widthShown⟩
  case rateShown => exact (rd_setSstate (setDs_wf hwfv) rfl (fits_dsStatus hd rfl rfl) (by decide)).trans hrate
  case widthShown => exact (rd_setSstate (setDs_wf hwfv) rfl (fits_dsStatus hd rfl rfl) (by decide)).trans hwd

/-- A press of the attention button (R317): the first starts the 5 s timer, the second cancels it. -/
theorem slotAttnPress_does {v w led : Nat} (hrem : (s.ds d).removing = 0) (hv : s.sstate d = v)
    (hcase : (v = 4 ∧ w = 5 ∧ led = 2) ∨ (v = 5 ∧ w = 4 ∧ led = 1)) :
    Does (.slotAttnPress d) s (fun t => t.sstate d = w ∧ (t.ds d).led = led ∧ s.told 336 < t.told 336) := by
  have hexec : exec (.slotAttnPress d) s = .next ((s.setDs d { s.ds d with led := led }).setSstate d w) := by
    change execSlotAttnPress d s = _
    rcases hcase with ⟨rfl, rfl, rfl⟩ | ⟨rfl, rfl, rfl⟩ <;> simp [execSlotAttnPress, Nat.not_le.2 hd, hrem, hv]
  have hled : led ≠ 0 := by omega
  obtain ⟨hnow, hds, htold⟩ := setDs_setSstate_does (x := { s.ds d with led := led }) (v := w) hwf hd (by omega) (by omega)
    (dsSt_ne_default_of_led hled) (dsSt_ne_default_of_led hled)
  exact does_of_exec hexec ⟨hnow, by rw [hds], htold⟩

/-- A Present slot whose drive has gone empties (R317). -/
theorem slotLost_present_does (hpresent : s.sstate d = 1) :
    Does (.slotLost d true) s (fun t => t.sstate d = 0 ∧ t.on STG_DSn_STATUS.PRSNT d = false ∧ s.told 336 < t.told 336) := by
  have hexec : exec (.slotLost d true) s = .next ((s.wr STG_DSn_STATUS.PRSNT 0 d).setSstate d 0) := by
    change execSlotLost d true s = _
    simp [execSlotLost, Nat.not_le.2 hd, hpresent]
  have hwf' : (s.wr STG_DSn_STATUS.PRSNT 0 d).wf = true := wr_wf hwf ..
  have hstate : (s.wr STG_DSn_STATUS.PRSNT 0 d).sstate d ≠ 0 := by
    rw [State.sstate, rd_wr_bits hwf (by decide) (.inr (by decide)), show s.rd STG_DSn_STATUS.SSTATE d = 1 from hpresent]
    decide
  refine does_of_exec hexec ⟨sstate_setSstate hwf' hd (by decide), ?prsnt, ?told⟩
  case prsnt =>
    rw [on_setSstate hwf' rfl (fits_dsStatus hd rfl rfl) (by decide)]
    exact on_wr_same hwf (by decide) rfl (fits_dsStatus hd rfl rfl) false
  case told =>
    have k : Keep 0x2000 s (s.wr STG_DSn_STATUS.PRSNT 0 d) := (Keep.refl _ s).wr .stg rfl rfl
    rw [← told_of_evt (k.parts .evt rfl) 336]
    exact told_setSstate hstate

/-- A slot in Fault is cleared: it is Present, or it empties (R317). -/
theorem slotFaultClear_gone_does (hfault : s.sstate d = 6) :
    Does (.slotFaultClear d true) s (fun t => t.sstate d = 0 ∧ t.on STG_DSn_STATUS.PRSNT d = false ∧ s.told 336 < t.told 336) := by
  have hwf' : (s.wr STG_DSn_STATUS.PRSNT 0 d).wf = true := wr_wf hwf ..
  have hgone : (s.wr STG_DSn_STATUS.PRSNT 0 d).on STG_DSn_STATUS.PRSNT d = false :=
    on_wr_same hwf (by decide) rfl (fits_dsStatus hd rfl rfl) false
  have hstate : (s.wr STG_DSn_STATUS.PRSNT 0 d).sstate d ≠ 0 := by
    rw [State.sstate, rd_wr_bits hwf (by decide) (.inr (by decide)), show s.rd STG_DSn_STATUS.SSTATE d = 6 from hfault]
    decide
  have k : Keep 0x2000 s (s.wr STG_DSn_STATUS.PRSNT 0 d) := (Keep.refl _ s).wr .stg rfl rfl
  have hexec : exec (.slotFaultClear d true) s =
      let v := s.wr STG_DSn_STATUS.PRSNT 0 d
      .next ((v.setDs d { v.ds d with attn := v.on STG_DSn_CTRL.ATTN_LED d }).setSstate d 0) := by
    change execSlotFaultClear d true s = _
    simp [execSlotFaultClear, Nat.not_le.2 hd, hfault, on_setDs, hgone]
  have htold := told_of_evt (k.parts .evt rfl) 336
  generalize s.wr STG_DSn_STATUS.PRSNT 0 d = v at hexec hwf' hgone hstate htold
  refine does_of_exec hexec ⟨sstate_setSstate (setDs_wf hwf') hd (by decide), ?prsnt, ?told⟩
  case prsnt => exact (on_setSstate (setDs_wf hwf') rfl (fits_dsStatus hd rfl rfl) (by decide)).trans hgone
  case told =>
    rw [← htold]
    exact told_setSstate (s := v.setDs d _) hstate

theorem slotFaultClear_does (hfault : s.sstate d = 6) (hprsnt : s.on STG_DSn_STATUS.PRSNT d = true)
    (hauto : s.on STG_DSn_CFG.AUTO_ON d = false) :
    Does (.slotFaultClear d false) s (fun t => t.sstate d = 1 ∧ s.told 336 < t.told 336) := by
  have hexec : exec (.slotFaultClear d false) s =
      .next ((s.setDs d { s.ds d with attn := s.on STG_DSn_CTRL.ATTN_LED d }).setSstate d 1) := by
    refine Eq.trans ?_ (congrArg _ (enterPresent_of_not_auto hd (setDs_wf hwf) hauto))
    change execSlotFaultClear d false s = _
    simp [execSlotFaultClear, Nat.not_le.2 hd, hfault, on_setDs, hprsnt]
  exact does_of_exec hexec ⟨sstate_setSstate (setDs_wf hwf) hd (by decide),
    told_setSstate (s := s.setDs d _) (by rw [sstate_setDs, hfault]; decide)⟩

end

/-! ## Timers and losses of a slot -/

section
variable {s : State} {d : Nat} (hd : d < 4)
include hd

theorem exec_slotTrainTimeout (htrain : s.sstate d = 3) :
    exec (.slotTrainTimeout d) s =
      .next (((s.advanceTo ((s.ds d).from_ + 10000000000)).powerOffSlot d).setSstate d 6).stgSettle := by
  change execSlotTrainTimeout d s = _
  simp [execSlotTrainTimeout, Nat.not_le.2 hd, htrain]

theorem exec_slotAttnTimeout (hattn : s.sstate d = 5) (hrem : (s.ds d).removing = 0) :
    exec (.slotAttnTimeout d) s = .next ((s.advanceTo ((s.ds d).from_ + 5000000000)).startRemoval d) := by
  change execSlotAttnTimeout d s = _
  simp [execSlotAttnTimeout, Nat.not_le.2 hd, hattn, hrem]

theorem exec_slotPowerOff (hup : s.sstate d = 4 ∨ s.sstate d = 5) (hrem : (s.ds d).removing = 0) :
    exec (.slotPowerOff d) s = .next (s.setDs d { s.ds d with removing := 1, from_ := s.tick }).stgSettle := by
  change execSlotPowerOff d s = _
  simp [execSlotPowerOff, Nat.not_le.2 hd, State.startRemoval, hup, hrem]

theorem exec_slotRemovalWaitExpire (hrem : (s.ds d).removing = 1) :
    exec (.slotRemovalWaitExpire d) s =
      .next (((s.advanceTo ((s.ds d).from_ + 5000000000)).abandon d true).shutdownSlot d).stgSettle := by
  have hstill : ((s.advanceTo ((s.ds d).from_ + 5000000000)).ds d).removing = 1 := by
    rw [State.ds, (State.advanceTo_keep ..).parts .stg rfl]
    exact hrem
  change execSlotRemovalWaitExpire d s = _
  simp [execSlotRemovalWaitExpire, Nat.not_le.2 hd, hrem, hstill]

theorem exec_slotPowerFault (hlo : 2 ≤ s.sstate d) (hhi : s.sstate d ≤ 5) :
    exec (.slotPowerFault d) s =
      let u := (s.powerOffSlot d).setSstate d 6
      .next (((u.setDs d { u.ds d with attn := true }).raise 337 [i8 d]).abandon d true).stgSettle := by
  change execSlotPowerFault d s = _
  simp [execSlotPowerFault, Nat.not_le.2 hd, hlo, hhi]

theorem exec_slotLost_trained (gone : Bool) (hlo : 3 ≤ s.sstate d) (hhi : s.sstate d ≤ 5) :
    exec (.slotLost d gone) s = .next ((if gone then s.wr STG_DSn_STATUS.PRSNT 0 d else s).slotLost d gone) := by
  change execSlotLost d gone s = _
  simp [execSlotLost, Nat.not_le.2 hd, hlo, hhi]

end

/-- Settles O26: each command by the state that it finds the slot in. -/
theorem slotCommands : Obligations.SlotCommands := by
  unfold Obligations.SlotCommands
  refine ⟨?present, ?powerOn, ?noPower, ?delay, ?ready, ?train, ?press, ?cancel, ?attn, ?off, ?wait, ?fault, ?lost, ?empty, ?gone,
    ?clear⟩
  case present => exact fun s d hwf hd => slotPresentDebounce_does hd hwf
  case powerOn => exact fun s d hwf hd => slotPowerOn_does hd hwf
  case noPower => exact fun s d _ hd h => does_of_exec (exec_slotPowerOn hd) (slotPower_of_not_present h)
  case delay => exact fun s d hwf hd => slotPowerDelayExpire_does hd hwf
  case ready => exact fun s d rate width hwf hd => slotDriveReady_does hd hwf rate width
  case train =>
    intro s d hd htrain
    refine does_of_exec (exec_slotTrainTimeout hd htrain) ⟨?_, rfl⟩
    calc (s.ds d).from_ + 10000000000 ≤ _ := advanceTo_le_tick ..
      _ ≤ _ := (State.powerOffSlot_keep ..).tick
      _ ≤ _ := (State.setSstate_keep ..).tick
      _ ≤ _ := (State.stgSettle_keep ..).tick
  case press => exact fun s d hwf hd hrem hup => slotAttnPress_does hd hwf hrem hup (.inl ⟨rfl, rfl, rfl⟩)
  case cancel => exact fun s d hwf hd hrem hattn => slotAttnPress_does hd hwf hrem hattn (.inr ⟨rfl, rfl, rfl⟩)
  case attn =>
    intro s d hd hattn hrem
    refine does_of_exec (exec_slotAttnTimeout hd hattn hrem) ⟨?_, rfl⟩
    exact Nat.le_trans (advanceTo_le_tick ..) (State.startRemoval_keep ..).tick
  case off => exact fun s d hd hup hrem => does_of_exec (exec_slotPowerOff hd hup hrem) rfl
  case wait =>
    intro s d hd hrem
    refine does_of_exec (exec_slotRemovalWaitExpire hd hrem) ⟨?_, rfl⟩
    calc (s.ds d).from_ + 5000000000 ≤ _ := advanceTo_le_tick ..
      _ ≤ _ := (State.abandon_keep ..).tick
      _ ≤ _ := (State.shutdownSlot_keep ..).tick
      _ ≤ _ := (State.stgSettle_keep ..).tick
  case fault => exact fun s d hd hlo hhi => does_of_exec (exec_slotPowerFault hd hlo hhi) rfl
  case lost => exact fun s d gone _ hd hlo hhi => does_of_exec (exec_slotLost_trained hd gone hlo hhi) rfl
  case empty => exact fun s d hwf hd => slotLost_present_does hd hwf
  case gone => exact fun s d hwf hd => slotFaultClear_gone_does hd hwf
  case clear => exact fun s d hwf hd => slotFaultClear_does hd hwf

end Sys2Proof.Machine

/-!
The NVMe controllers and their admin commands: what an answer gives out and leaves, and each command on a controller that runs outside
PS2.
-/
namespace Sys2Proof.Machine

/-! ## What a Calipers count leaves -/

theorem calFilteredOne_none_keep (s : State) (j n : Nat) : Keep 0x400100004 s (s.calFilteredOne j n none) := by
  have hset (v : Nat) : Keep 0x400100004 s (s.wr64 CAL_CNTe_LO.COUNT v (1408 + j)) := (Keep.refl _ s).wr64 .cal rfl rfl
  unfold State.calFilteredOne
  refine .ite (.refl _ s) (.ite ?_ (State.calAdd_keep ..))
  extract_lets v u
  exact .ite (hset v) ((State.raise_keep u ..).step ((State.calAdd_keep ..).step (hset 0) rfl) rfl)

/-- An event that no thread causes interrupts none, so that it gives nothing out. -/
theorem cal_none_keep (s : State) (e n : Nat) : Keep 0x400100004 s (s.cal e n) := by
  unfold State.cal
  extract_lets u
  have hu : Keep 0x400100004 s u := .ite (.refl _ s) (State.calAdd_keep ..)
  exact hu.forEach fun j x => calFilteredOne_none_keep x j n

theorem sent_cal_none (s : State) (e n : Nat) : (s.cal e n).sent = s.sent := (cal_none_keep ..).parts .sent rfl

theorem ctl_cal (s : State) (e n : Nat) (a : CalAttr) (f : Nat) : (s.cal e n a).ctl f = s.ctl f := by
  rw [State.ctl, (State.cal_keep ..).parts .stg rfl, State.ctl]

theorem stg_cal (s : State) (e n : Nat) (a : CalAttr) : (s.cal e n a).stg = s.stg := (State.cal_keep ..).parts .stg rfl

theorem tick_cal (s : State) (e n : Nat) (a : CalAttr) : (s.cal e n a).tick = s.tick := (State.cal_keep ..).parts .tick rfl

/-- What counting and raising leave of what configuration space is read from. -/
theorem sameConfig_of_keep {s t : State} (k : Keep tellMask s t) (hwf : s.wf = true) : SameConfig s t where
  hif := k.parts .hif rfl
  vfs := k.regs hwf _ rfl
  allow n := k.regs hwf _ (tellMask_hif (by simp only [Fld.addr, QMG_ADM_ALLOW.ALLOW]; omega))
  uid := ⟨k.regs hwf _ rfl, k.regs hwf _ rfl⟩

/-! ## The states of the functions while a completion is written -/

/-- The registers stay canonical, and the states of the functions as they are. -/
structure SameStates (s t : State) : Prop where
  wf : s.wf = true → t.wf = true
  regs : s.wf = true → ∀ n < 256, t.reg (HIF_FNf_STATE.PRESENT.addr n 0) = s.reg (HIF_FNf_STATE.PRESENT.addr n 0)

theorem SameStates.refl (s : State) : SameStates s s := ⟨id, fun _ _ _ => rfl⟩

theorem SameStates.trans {s t u : State} (h1 : SameStates s t) (h2 : SameStates t u) : SameStates s u :=
  ⟨fun h => h2.wf (h1.wf h), fun h n hn => (h2.regs (h1.wf h) n hn).trans (h1.regs h n hn)⟩

theorem SameStates.ite {s t u : State} {c : Prop} [Decidable c] (ht : SameStates s t) (hu : SameStates s u) :
    SameStates s (if c then t else u) := by
  split
  · exact ht
  · exact hu

/-- An operation that reaches neither HIF nor the functions' own spaces leaves the states. -/
theorem SameStates.of_keep {m : Nat} {s t : State} (k : Keep m s t) (h21 : m.testBit 21 = false) (h22 : m.testBit 22 = false) :
    SameStates s t := ⟨k.wf, fun hwf n _ => k.regs hwf _ (by
      have hge := state_addr_ge n
      rcases zoneNo_hif (a := HIF_FNf_STATE.PRESENT.addr n 0) (by omega) with hz | hz <;> rw [hz] <;> assumption)⟩

theorem SameStates.forEach {α : Type} {l : List α} {f : α → State → State} (h : ∀ x u, SameStates u (f x u)) (s : State) :
    SameStates s (forEach l f s) := by
  induction l generalizing s with
  | nil => exact .refl s
  | cons x l ih => exact (h x s).trans (ih (f x s))

theorem sameStates_tlpOut (s : State) (f : Nat) (o : Out) : SameStates s (s.tlpOut f o) :=
  ⟨(State.tlpOut_keep ..).wf, fun hwf n _ => by
    have hge := state_addr_ge n
    exact reg_tlpOut hwf f o (tellMask_hif (by omega)) (Nat.ne_of_gt (Nat.lt_of_lt_of_le (by decide) hge))
      (Nat.ne_of_gt (Nat.lt_of_lt_of_le (by decide) hge))⟩

theorem sameStates_setMsixPending (s : State) (f e : Nat) (b : Bool) : SameStates s (s.setMsixPending f e b) :=
  ⟨(State.setMsixPending_keep ..).wf, fun hwf n hn => reg_setReg_other hwf _ (by
    simp only [Fld.addr, HIF_FNf_STATE.PRESENT, pbaAddr, fnBase]
    omega)⟩

theorem sameStates_msixFire (s : State) (f e : Nat) : SameStates s (s.msixFire f e) :=
  .ite (sameStates_setMsixPending ..) (sameStates_tlpOut ..)

theorem sentGrows_msixFire (s : State) (f e : Nat) : SentGrows s (s.msixFire f e) :=
  .ite (.of_keep (State.setMsixPending_keep ..) rfl) (.trans (.out s _) (tlpOut_sent ..))

theorem canComplete_of_same {s t : State} {f : Nat} (h : SameStates s t) (hwf : s.wf = true) (hf : f < 256) :
    t.canComplete f = s.canComplete f := by
  have hreg := h.regs hwf f hf
  simp only [State.canComplete, State.on, rd_of_reg (f := HIF_FNf_STATE.BME) hreg, rd_of_reg (f := HIF_FNf_STATE.DSTATE) hreg,
    rd_of_reg (f := HIF_FNf_STATE.FAULT) hreg]

/-! ## Completions (R278, R296) -/

section
variable (s : State) (f qid cid status result : Nat) (bytes : List Byte)

/-- What a written completion does besides: the vector of its queue fires, or nothing. -/
theorem postNvme_cases : s.postNvme f qid cid status result bytes = s.out (.nvme f qid cid status result bytes) ∨
    ∃ e, s.postNvme f qid cid status result bytes = (s.out (.nvme f qid cid status result bytes)).msixFire f e := by
  unfold State.postNvme
  extract_lets u
  split
  · exact .inr ⟨_, rfl⟩
  split
  · exact .inl rfl
  split
  · exact .inl rfl
  split
  · exact .inr ⟨_, rfl⟩
  · exact .inl rfl

theorem mem_sent_postNvme : Out.nvme f qid cid status result bytes ∈ (s.postNvme f qid cid status result bytes).sent := by
  rcases postNvme_cases s f qid cid status result bytes with h | ⟨e, h⟩ <;> rw [h]
  · exact List.mem_cons_self
  · exact (sentGrows_msixFire ..).subset List.mem_cons_self

theorem sameStates_postNvme : SameStates s (s.postNvme f qid cid status result bytes) := by
  have hout : SameStates s (s.out (.nvme f qid cid status result bytes)) := ⟨id, fun _ _ _ => rfl⟩
  rcases postNvme_cases s f qid cid status result bytes with h | ⟨e, h⟩ <;> rw [h]
  · exact hout
  · exact hout.trans (sameStates_msixFire ..)

theorem sameStates_setCtl (x : CtlSt) : SameStates s (s.setCtl f x) := ⟨id, fun _ _ _ => rfl⟩

theorem sameStates_answerNvme : SameStates s (s.answerNvme f qid cid status result bytes) :=
  .ite (sameStates_postNvme ..) (sameStates_setCtl ..)

variable {s f} (h : s.canComplete f = true)
include h

theorem answerNvme_of_can : s.answerNvme f qid cid status result bytes = s.postNvme f qid cid status result bytes := if_pos h

theorem mem_sent_answerNvme : Out.nvme f qid cid status result bytes ∈ (s.answerNvme f qid cid status result bytes).sent := by
  rw [answerNvme_of_can (h := h)]
  exact mem_sent_postNvme ..

theorem stg_answerNvme : (s.answerNvme f qid cid status result bytes).stg = s.stg := by
  rw [answerNvme_of_can (h := h)]
  exact (State.postNvme_keep ..).parts .stg rfl

theorem ctl_answerNvme : (s.answerNvme f qid cid status result bytes).ctl f = s.ctl f := by
  rw [State.ctl, stg_answerNvme (h := h), State.ctl]

end

/-- A host command that is over is no longer among the commands. -/
theorem cmds_forEach_answer (l : List HostCmd) (s : State) :
    (forEach l (fun c s => if c.dead then s else s.answerNvme c.f c.qid c.cid 0) s).stg.cmds = s.stg.cmds := by
  induction l generalizing s with
  | nil => rfl
  | cons c l ih =>
    refine (ih _).trans ?_
    beta_reduce
    split
    · rfl
    · unfold State.answerNvme
      split
      · rw [(State.postNvme_keep ..).parts .stg rfl]
      · rfl

theorem not_mem_cmds_dropHost {s : State} {h : Nat} {x : HostCmd} (hx : x ∈ (s.dropHost h).stg.cmds) : x.id ≠ h := by
  unfold State.dropHost at hx
  extract_lets +onlyGivenNames src1 u l src2 v at hx
  rw [cmds_forEach_answer] at hx
  obtain ⟨y, hy, rfl⟩ := List.mem_map.1 (List.mem_filter.1 hx).1
  have hid : y.id ≠ h := by simpa using (List.mem_filter.1 hy).2
  split <;> exact hid

theorem sameStates_dropHost (s : State) (h : Nat) : SameStates s (s.dropHost h) := by
  unfold State.dropHost
  extract_lets +onlyGivenNames src1 u l src2 v
  exact .trans (t := v) ⟨id, fun _ _ _ => rfl⟩ (.forEach (fun c u => .ite (.refl u) (sameStates_answerNvme ..)) v)

/-! ## A controller that runs -/

section
variable {s : State} {f : Nat} (hwf : s.wf = true) (hrun : s.ctlRuns f = true)
include hrun

theorem lt_of_ctlRuns : f < 256 := by
  simp only [State.ctlRuns, Bool.and_eq_true, decide_eq_true_eq] at hrun
  exact hrun.1.1.1.1.1

theorem en_of_ctlRuns : (s.ctl f).en = true := by
  simp only [State.ctlRuns, Bool.and_eq_true] at hrun
  exact hrun.1.1.2

theorem canComplete_of_ctlRuns : s.canComplete f = true := by
  have hmaster : s.canMaster f = true := by
    simp only [State.ctlRuns, Bool.and_eq_true] at hrun
    exact hrun.1.2
  simp only [State.canMaster, Bool.and_eq_true] at hmaster
  simp only [State.canComplete, Bool.and_eq_true]
  exact ⟨hmaster.1.1.1, hmaster.2⟩

/-- Outside PS2 an admin command is counted and taken at once (R302). -/
theorem admin_of_runs (hps : (s.ctl f).ps ≠ 2) (g : State → State) : s.admin f g = .next (g (s.cal 624)) := by
  have hwake : s.wakeCtl f = s := if_pos (by simpa using hps)
  rw [State.admin, if_pos hrun, hwake]

include hwf

theorem canComplete_cal : (s.cal 624).canComplete f = true := by
  rw [canComplete_of_same (.of_keep (State.cal_keep s 624 1 {}) rfl rfl) hwf (lt_of_ctlRuns hrun)]
  exact canComplete_of_ctlRuns hrun

/-- A command that only answers. -/
theorem answered_does {c : Instr} {cid status result : Nat} {bytes : List Byte}
    (hexec : exec c s = .next ((s.cal 624).answerNvme f 0 cid status result bytes)) :
    Does c s (fun t => Out.nvme f 0 cid status result bytes ∈ t.sent ∧ t.stg = s.stg) :=
  does_of_exec hexec ⟨mem_sent_answerNvme 0 cid status result bytes (canComplete_cal hwf hrun),
    (stg_answerNvme 0 cid status result bytes (canComplete_cal hwf hrun)).trans (stg_cal ..)⟩

/-- A command that changes its controller's record, and answers. -/
theorem setAnswered_does {c : Instr} {x : CtlSt} {cid status result : Nat} {bytes : List Byte}
    (hexec : exec c s = .next (((s.cal 624).setCtl f x).answerNvme f 0 cid status result bytes)) (hx : x.en = true) :
    Does c s (fun t => Out.nvme f 0 cid status result bytes ∈ t.sent ∧ t.ctl f = x) := by
  have hcan : ((s.cal 624).setCtl f x).canComplete f = true := canComplete_cal hwf hrun
  have hne : x ≠ default := fun h => by rw [h] at hx; cases hx
  exact does_of_exec hexec ⟨mem_sent_answerNvme 0 cid status result bytes hcan,
    (ctl_answerNvme 0 cid status result bytes hcan).trans (cellGet_cellSet_ne _ _ hne)⟩

end

end Sys2Proof.Machine

/-!
The admin commands of R302, R305 and R312, one by one, on a controller that runs outside PS2.
-/
namespace Sys2Proof.Machine

/-! ## Bits of a word that has one of them set -/

theorem testBit_add_two_pow_of_ne {v i j : Nat} (hclear : v.testBit i = false) (hne : j ≠ i) :
    (v + 2 ^ i).testBit j = v.testBit j := by
  rcases Nat.lt_or_gt_of_ne hne with hlt | hgt
  · rw [Nat.add_comm, Nat.testBit_two_pow_add_gt hlt]
  · obtain ⟨k, rfl⟩ := Nat.exists_eq_add_of_lt hgt
    have heven : v / 2 ^ i % 2 = 0 := by
      rw [Nat.testBit_eq_decide_div_mod_eq] at hclear
      have := of_decide_eq_false hclear
      omega
    have hdiv : (v + 2 ^ i) / 2 ^ (i + 1) = v / 2 ^ (i + 1) := by
      rw [Nat.pow_succ, ← Nat.div_div_eq_div_mul, ← Nat.div_div_eq_div_mul, Nat.add_div_right _ (Nat.two_pow_pos i)]
      omega
    have hsplit : ∀ x : Nat, x.testBit (i + k + 1) = (x / 2 ^ (i + 1)).testBit k := fun x => by
      rw [Nat.testBit_div_two_pow]
      congr 1
      omega
    rw [hsplit, hdiv, hsplit]

/-- A bit that is set stays set when another is set. -/
theorem bitOf_setBit_true {v i j : Nat} (h : bitOf v j = true) : bitOf (setBit v i true) j = true := by
  by_cases hij : j = i
  · rw [hij, bitOf_setBit]
  · unfold setBit
    split
    case isTrue => exact h
    case isFalse hclear =>
      rw [bitOf_eq_testBit] at h hclear ⊢
      rw [if_pos rfl, testBit_add_two_pow_of_ne (by simpa using hclear) hij, h]

section
variable {s : State} {f : Nat} (hrun : s.ctlRuns f = true) (hps : (s.ctl f).ps ≠ 2)
include hrun hps

/-! ## Identify, logs and features (R302) -/

theorem exec_nvmeIdentify_controller (cid cntid : Nat) : exec (.nvmeIdentify f cid 1 0 cntid) s =
    .next ((s.cal 624).answerNvme f 0 cid 0 0 ((s.cal 624).identifyCtl f)) := by
  change execNvmeIdentify f cid 1 0 cntid s = _
  exact admin_of_runs hrun hps _

theorem exec_nvmeIdentify_unknown {cns : Nat} (cid nsid cntid : Nat) (hcns : cns ∉ [0, 1, 2, 3, 0x10, 0x12]) :
    exec (.nvmeIdentify f cid cns nsid cntid) s = .next ((s.cal 624).answerNvme f 0 cid 2) := by
  simp only [List.mem_cons, List.not_mem_nil, or_false, not_or] at hcns
  obtain ⟨h0, h1, h2, h3, h10, h12⟩ := hcns
  change execNvmeIdentify f cid cns nsid cntid s = _
  rw [execNvmeIdentify, admin_of_runs hrun hps]
  simp only [if_neg h0, if_neg h1, if_neg h2, if_neg h3, if_neg h10, if_neg h12]

theorem exec_nvmeGetLogPage_unknown {lid : Nat} (cid len : Nat) (hlid : lid ∉ [1, 2, 5, 6]) :
    exec (.nvmeGetLogPage f cid lid len) s = .next ((s.cal 624).answerNvme f 0 cid 0x109) := by
  change execNvmeGetLogPage f cid lid len s = _
  rw [execNvmeGetLogPage, admin_of_runs hrun hps]
  simp only [List.contains_eq_mem, hlid, decide_false, Bool.not_false, if_true]

/-- The bytes that a log page answers with. -/
def State.logBytes (s : State) (f lid : Nat) : List Byte :=
  if lid = 5 then effectsLog f else if lid = 6 then s.testLog f (nvmeFree (0x100 + lid) f s.free) else nvmeFree (0x100 + lid) f s.free

/-- Reading the SMART / Health log unmasks its events. -/
def State.logRead (s : State) (f lid : Nat) : State :=
  (if lid = 2 then s.setCtl f { s.ctl f with masked := (s.ctl f).masked.filter (fun t => t != 1) } else s).draw

theorem exec_nvmeGetLogPage {lid : Nat} (cid len : Nat) (hlid : lid ∈ [1, 2, 5, 6]) :
    exec (.nvmeGetLogPage f cid lid len) s =
      .next (((s.cal 624).logRead f lid).answerNvme f 0 cid 0 0 (((s.cal 624).logBytes f lid).take len)) := by
  change execNvmeGetLogPage f cid lid len s = _
  rw [execNvmeGetLogPage, admin_of_runs hrun hps]
  simp only [List.contains_eq_mem, hlid, decide_true, Bool.not_true, Bool.false_eq_true, if_false]
  rfl

theorem exec_nvmeSetFeatures_plain {fid : Nat} (cid v : Nat) (hfid : fid ∈ [1, 8, 0x0B]) :
    exec (.nvmeSetFeatures f cid fid v) s = .next (((s.cal 624).setCtl f
      { s.ctl f with features := cellSet (fun _ => 0) (s.ctl f).features fid v }).answerNvme f 0 cid 0) := by
  change execNvmeSetFeatures f cid fid v s = _
  rw [execNvmeSetFeatures, admin_of_runs hrun hps]
  simp only [List.mem_cons, List.not_mem_nil, or_false] at hfid
  rcases hfid with rfl | rfl | rfl <;> simp [featureOk, ctl_cal]

theorem exec_nvmeSetFeatures_queues (cid v : Nat) (hsqs : (s.ctl f).sqs = []) (hcqs : (s.ctl f).cqs = []) :
    exec (.nvmeSetFeatures f cid 7 v) s =
      let r := min (v % 2 ^ 16) (ioQueues f - 1) + min (v / 2 ^ 16 % 2 ^ 16) (ioQueues f - 1) * 2 ^ 16
      .next (((s.cal 624).setCtl f { s.ctl f with features := cellSet (fun _ => 0) (s.ctl f).features 7 r }).answerNvme f 0 cid 0 r) := by
  change execNvmeSetFeatures f cid 7 v s = _
  rw [execNvmeSetFeatures, admin_of_runs hrun hps]
  simp [featureOk, ctl_cal, hsqs, hcqs]

theorem exec_nvmeSetFeatures_timestamp (cid v : Nat) :
    exec (.nvmeSetFeatures f cid 0x0E v) s = .next (((s.cal 624).setCtl f
      { s.ctl f with stamp := v % 2 ^ 48, stampFrom := s.tick, stampSet := true }).answerNvme f 0 cid 0) := by
  change execNvmeSetFeatures f cid 0x0E v s = _
  rw [execNvmeSetFeatures, admin_of_runs hrun hps]
  simp [featureOk, ctl_cal, tick_cal]

theorem exec_nvmeGetFeatures_power (cid v : Nat) :
    exec (.nvmeGetFeatures f cid 2 v) s = .next ((s.cal 624).answerNvme f 0 cid 0 (s.ctl f).ps) := by
  change execNvmeGetFeatures f cid 2 v s = _
  rw [execNvmeGetFeatures, admin_of_runs hrun hps]
  simp [featureOk, ctl_cal]

omit hrun hps in
theorem timestamp_cal : (s.cal 624).timestamp f = s.timestamp f := by
  rw [State.timestamp, ctl_cal, tick_cal, State.timestamp]

theorem exec_nvmeGetFeatures_timestamp (cid v : Nat) :
    exec (.nvmeGetFeatures f cid 0x0E v) s = .next ((s.cal 624).answerNvme f 0 cid 0 0 (leBytes 8 (s.timestamp f))) := by
  change execNvmeGetFeatures f cid 0x0E v s = _
  rw [execNvmeGetFeatures, admin_of_runs hrun hps]
  simp [featureOk, timestamp_cal]

/-! ## Queues (R302) -/

omit hps in
theorem msixSize_cal (hwf : s.wf = true) : (s.cal 624).rd HIF_FNf_MSIX.SIZE f = s.rd HIF_FNf_MSIX.SIZE f :=
  (State.cal_keep s 624 1 {}).rdIn .hif hwf rfl (by simp [Fld.fits, HIF_FNf_MSIX.SIZE, lt_of_ctlRuns hrun]) rfl

theorem exec_nvmeCreateIoCq {qid size vec : Nat} (hwf : s.wf = true) (cid : Nat) (ien : Bool) (h0 : qid ≠ 0) (hmax : qid ≤ ioQueues f)
    (hnew : (s.ctl f).cqs.any (fun q => q.qid == qid) = false) (hlo : 2 ≤ size) (hhi : size ≤ 4096)
    (hvec : vec ≤ s.rd HIF_FNf_MSIX.SIZE f) :
    exec (.nvmeCreateIoCq f cid qid size vec ien) s = .next (((s.cal 624).setCtl f
      { s.ctl f with cqs := (s.ctl f).cqs ++ [{ qid := qid, vector := vec, ien := ien }] }).answerNvme f 0 cid 0) := by
  change execNvmeCreateIoCq f cid qid size vec ien s = _
  rw [execNvmeCreateIoCq, admin_of_runs hrun hps]
  simp only [ctl_cal, msixSize_cal hrun hwf, hnew, h0, Nat.not_lt.2 hmax, Nat.not_lt.2 hlo, Nat.not_lt.2 hhi, Nat.not_lt.2 hvec,
    decide_false, Bool.or_false, Bool.false_eq_true, if_false]

theorem exec_nvmeCreateIoSq {qid size cq : Nat} (cid prio : Nat) (h0 : qid ≠ 0) (hmax : qid ≤ ioQueues f)
    (hcq : (s.ctl f).cqs.any (fun q => q.qid == cq) = true) (hnew : (s.ctl f).sqs.any (fun q => q.qid == qid) = false)
    (hlo : 2 ≤ size) (hhi : size ≤ 4096) :
    exec (.nvmeCreateIoSq f cid qid size cq prio) s = .next (((s.cal 624).setCtl f { s.ctl f with
      sqs := (s.ctl f).sqs ++ [{ qid := qid, cq := cq, prio := if (s.ctl f).wrr then prio % 4 else 2 }] }).answerNvme f 0 cid 0) := by
  change execNvmeCreateIoSq f cid qid size cq prio s = _
  rw [execNvmeCreateIoSq, admin_of_runs hrun hps]
  simp only [ctl_cal, hcq, hnew, h0, Nat.not_lt.2 hmax, Nat.not_lt.2 hlo, Nat.not_lt.2 hhi, decide_false, Bool.or_false, Bool.not_true,
    Bool.false_eq_true, if_false]

theorem exec_nvmeDeleteIoCq {qid : Nat} (cid : Nat) (h0 : qid ≠ 0) (hthere : (s.ctl f).cqs.any (fun q => q.qid == qid) = true)
    (hfree : (s.ctl f).sqs.any (fun q => q.cq == qid) = false) :
    exec (.nvmeDeleteIoCq f cid qid) s = .next (((s.cal 624).setCtl f
      { s.ctl f with cqs := (s.ctl f).cqs.filter (fun q => q.qid != qid) }).answerNvme f 0 cid 0) := by
  change execNvmeDeleteIoCq f cid qid s = _
  rw [execNvmeDeleteIoCq, admin_of_runs hrun hps]
  simp only [ctl_cal, hthere, hfree, h0, decide_false, Bool.or_false, Bool.not_true, Bool.false_eq_true, if_false]

/-- The completions of the commands of a queue that is deleted. -/
def State.queueAborted (s : State) (f qid : Nat) : State :=
  forEach (s.stg.cmds.filter (fun c => c.f == f && c.qid == qid && !c.dead)) (fun c s => s.answerNvme f qid c.cid 0x08) s

/-- The commands of a queue that is deleted are dead. -/
def State.queueDead (s : State) (f qid : Nat) : State :=
  { s with stg := { s.stg with cmds := s.stg.cmds.map (fun (c : HostCmd) =>
      if c.f == f && c.qid == qid && !c.dead then { c with dead := true } else c) } }

theorem exec_nvmeDeleteIoSq {qid : Nat} (cid : Nat) (h0 : qid ≠ 0) (hthere : (s.ctl f).sqs.any (fun q => q.qid == qid) = true) :
    exec (.nvmeDeleteIoSq f cid qid) s =
      let u := ((s.cal 624).queueAborted f qid).queueDead f qid
      .next ((u.setCtl f { u.ctl f with sqs := (s.ctl f).sqs.filter (fun q => q.qid != qid) }).answerNvme f 0 cid 0) := by
  change execNvmeDeleteIoSq f cid qid s = _
  rw [execNvmeDeleteIoSq, admin_of_runs hrun hps]
  simp only [ctl_cal, hthere, h0, decide_false, Bool.or_false, Bool.not_true, Bool.false_eq_true, if_false]
  rfl

end

/-- Answers of a function that can complete leave the storage block, and the states of the functions. -/
theorem queueAborted_leaves {s : State} {f : Nat} (hwf : s.wf = true) (hf : f < 256) (hcan : s.canComplete f = true) (qid : Nat)
    (l : List HostCmd) :
    (forEach l (fun c s => s.answerNvme f qid c.cid 0x08) s).stg = s.stg ∧
      (forEach l (fun c s => s.answerNvme f qid c.cid 0x08) s).canComplete f = true := by
  induction l generalizing s with
  | nil => exact ⟨rfl, hcan⟩
  | cons c l ih =>
    have hsame : SameStates s (s.answerNvme f qid c.cid 0x08) := sameStates_answerNvme ..
    obtain ⟨hstg, hthen⟩ := ih (s := s.answerNvme f qid c.cid 0x08) (hsame.wf hwf) ((canComplete_of_same hsame hwf hf).trans hcan)
    exact ⟨hstg.trans (stg_answerNvme _ _ _ _ _ hcan), hthen⟩

theorem nvmeDeleteIoSq_does {s : State} {f qid : Nat} (hwf : s.wf = true) (hrun : s.ctlRuns f = true) (hps : (s.ctl f).ps ≠ 2)
    (cid : Nat) (h0 : qid ≠ 0) (hthere : (s.ctl f).sqs.any (fun q => q.qid == qid) = true) :
    Does (.nvmeDeleteIoSq f cid qid) s (fun t => Out.nvme f 0 cid 0 0 [] ∈ t.sent ∧
      (t.ctl f).sqs = (s.ctl f).sqs.filter (fun q => q.qid != qid) ∧ ∀ c ∈ t.stg.cmds, c.f = f → c.qid = qid → c.dead = true) := by
  obtain ⟨hstg, hcan⟩ := queueAborted_leaves ((State.cal_keep s 624 1 {}).wf hwf) (lt_of_ctlRuns hrun) (canComplete_cal hwf hrun) qid
    ((s.cal 624).stg.cmds.filter (fun c => c.f == f && c.qid == qid && !c.dead))
  have hexec := exec_nvmeDeleteIoSq hrun hps cid h0 hthere
  have hctl : ((((s.cal 624).queueAborted f qid).queueDead f qid).ctl f).en = true := by
    have hsame : ((s.cal 624).queueAborted f qid).stg.ctls = s.stg.ctls := (congrArg StgSt.ctls hstg).trans (congrArg _ (stg_cal ..))
    show (tabGet ((s.cal 624).queueAborted f qid).stg.ctls f).en = true
    rw [hsame]
    exact en_of_ctlRuns hrun
  have hdead : ∀ c ∈ (((s.cal 624).queueAborted f qid).queueDead f qid).stg.cmds, c.f = f → c.qid = qid → c.dead = true := by
    intro c hc hcf hcq
    obtain ⟨x, -, rfl⟩ := List.mem_map.1 hc
    split at hcf
    next hmine => rw [if_pos hmine]
    next hnot =>
      rw [if_neg hnot] at hcq ⊢
      simpa [hcf, hcq] using hnot
  have hcan' : (((s.cal 624).queueAborted f qid).queueDead f qid).canComplete f = true := hcan
  generalize ((s.cal 624).queueAborted f qid).queueDead f qid = u at hexec hctl hdead hcan'
  have hne : ({ u.ctl f with sqs := (s.ctl f).sqs.filter (fun q => q.qid != qid) } : CtlSt) ≠ default := fun h => by
    have := congrArg CtlSt.en h
    rw [show ({ u.ctl f with sqs := (s.ctl f).sqs.filter (fun q => q.qid != qid) } : CtlSt).en = true from hctl] at this
    cases this
  have hcan2 : (u.setCtl f { u.ctl f with sqs := (s.ctl f).sqs.filter (fun q => q.qid != qid) }).canComplete f = true := hcan'
  refine does_of_exec hexec ⟨mem_sent_answerNvme _ _ _ _ _ hcan2, ?sqs, ?dead⟩
  case sqs =>
    rw [ctl_answerNvme (h := hcan2), State.ctl, State.setCtl]
    rw [show tabGet (tabSet u.stg.ctls f _) f = _ from cellGet_cellSet_ne _ _ hne]
  case dead =>
    rw [stg_answerNvme (h := hcan2)]
    exact hdead

end Sys2Proof.Machine

/-!
The remaining admin commands of PF3's controllers: aborts, events, attachments and self-tests, and the theorem that settles them all.
-/
namespace Sys2Proof.Machine

section
variable {s : State} {f : Nat} (hrun : s.ctlRuns f = true) (hps : (s.ctl f).ps ≠ 2)
include hrun hps

/-! ## Abort and Asynchronous Event Request (R302) -/

theorem exec_nvmeAbort_none {sqid acid : Nat} (cid : Nat)
    (hnone : s.stg.cmds.find? (fun c => c.f == f && c.qid == sqid && c.cid == acid && c.phase == 0 && c.op != 3) = none) :
    exec (.nvmeAbort f cid sqid acid) s = .next ((s.cal 624).answerNvme f 0 cid 0 1) := by
  change execNvmeAbort f cid sqid acid s = _
  rw [execNvmeAbort, admin_of_runs hrun hps]
  simp only [stg_cal, hnone]

theorem exec_nvmeAbort_some {sqid acid : Nat} {c : HostCmd} (cid : Nat)
    (hsome : s.stg.cmds.find? (fun c => c.f == f && c.qid == sqid && c.cid == acid && c.phase == 0 && c.op != 3) = some c) :
    exec (.nvmeAbort f cid sqid acid) s = .next (((s.cal 624).endHost c.id 0x07).answerNvme f 0 cid 0 0) := by
  change execNvmeAbort f cid sqid acid s = _
  rw [execNvmeAbort, admin_of_runs hrun hps]
  simp only [stg_cal, hsome]

theorem exec_nvmeAsyncEventRequest_event {r : Nat} {l : List Nat} (cid : Nat) (hev : (s.ctl f).events = r :: l) :
    exec (.nvmeAsyncEventRequest f cid) s =
      .next (((s.cal 624).setCtl f { s.ctl f with events := l }).answerNvme f 0 cid 0 r) := by
  change execNvmeAsyncEventRequest f cid s = _
  rw [execNvmeAsyncEventRequest, admin_of_runs hrun hps]
  simp only [ctl_cal, hev]

theorem exec_nvmeAsyncEventRequest_wait (cid : Nat) (hev : (s.ctl f).events = []) (hroom : (s.ctl f).aers.length ≤ aerl f) :
    exec (.nvmeAsyncEventRequest f cid) s = .next ((s.cal 624).setCtl f { s.ctl f with aers := (s.ctl f).aers ++ [cid] }) := by
  change execNvmeAsyncEventRequest f cid s = _
  rw [execNvmeAsyncEventRequest, admin_of_runs hrun hps]
  simp only [ctl_cal, hev, Nat.not_lt.2 hroom, if_false]

theorem exec_nvmeAsyncEventRequest_full (cid : Nat) (hev : (s.ctl f).events = []) (hfull : aerl f < (s.ctl f).aers.length) :
    exec (.nvmeAsyncEventRequest f cid) s = .next ((s.cal 624).answerNvme f 0 cid 0x105) := by
  change execNvmeAsyncEventRequest f cid s = _
  rw [execNvmeAsyncEventRequest, admin_of_runs hrun hps]
  simp only [ctl_cal, hev, hfull, if_true]

/-! ## Self-tests (R312, R313) -/

theorem exec_deviceSelfTest_busy {stc : Nat} (cid nsid : Nat) (hstc : stc = 1 ∨ stc = 2) (hbusy : s.stg.test.isSome = true) :
    exec (.deviceSelfTest f cid nsid stc) s = .next ((s.cal 624).answerNvme f 0 cid 0x11D) := by
  change execDeviceSelfTest f cid nsid stc s = _
  rw [execDeviceSelfTest, admin_of_runs hrun hps]
  rcases hstc with rfl | rfl <;> simp [stg_cal, hbusy]

theorem exec_deviceSelfTest_abort {x : TestSt} (cid : Nat) (htest : s.stg.test = some x) (hmine : x.f = f) :
    exec (.deviceSelfTest f cid 0 15) s = .next (((s.cal 624).endTest x 1).answerNvme f 0 cid 0).stgSettle := by
  change execDeviceSelfTest f cid 0 15 s = _
  rw [execDeviceSelfTest, admin_of_runs hrun hps]
  simp [stg_cal, htest, hmine]

end

/-- The self-test that a command starts: over the namespaces that it names. -/
def State.newTest (s : State) (f nsid stc : Nat) : TestSt :=
  let l := (List.range 64).filter (fun n => s.attachedTo f n && (nsid == 0xFFFFFFFF || nsid == n + 1))
  let exts := l.flatMap (fun n => (s.nsSides n).map (fun i =>
    ({ s := n, d := s.nsDrive n i, base := s.nsBase n, size := s.nsSize n } : TestExt)))
  { f := f, extended := stc == 2, nsid := nsid, exts := exts, smart := if stc = 1 then (exts.map (fun x => x.d)).eraseDups else [] }

theorem fits_attach {n f : Nat} (hn : n < 64) (hf : f < 256) : STG_NSs_ATTACHw.CTRL.fits n (f / 32) = true := by
  have hw : f / 32 < 8 := by omega
  simp [Fld.fits, STG_NSs_ATTACHw.CTRL, hn, hw]

/-- An operation that leaves the STG registers leaves which controllers a namespace is attached to. -/
theorem attachedTo_of_keep {m : Nat} {s t : State} (k : Keep m s t) (hwf : s.wf = true) (hm : m.testBit 13 = false) {f : Nat}
    (hf : f < 256) (n : Nat) : t.attachedTo f n = s.attachedTo f n := by
  by_cases hn : n < 64
  · rw [State.attachedTo, State.nsValid, State.on, k.rdIn .stg hwf rfl (by simp [Fld.fits, STG_NSs_CFG.VALID, hn]) hm,
      k.rdIn .stg hwf rfl (fits_attach hn hf) hm, State.attachedTo, State.nsValid, State.on]
  · simp [State.attachedTo, State.nsValid, hn]

theorem nsValid_of_keep {m : Nat} {s t : State} (k : Keep m s t) (hwf : s.wf = true) (hm : m.testBit 13 = false) (n : Nat) :
    t.nsValid n = s.nsValid n := by
  by_cases hn : n < 64
  · rw [State.nsValid, State.on, k.rdIn .stg hwf rfl (by simp [Fld.fits, STG_NSs_CFG.VALID, hn]) hm, State.nsValid, State.on]
  · simp [State.nsValid, hn]

theorem exec_deviceSelfTest_start {s : State} {f nsid stc : Nat} (hwf : s.wf = true) (hrun : s.ctlRuns f = true) (hps : (s.ctl f).ps ≠ 2)
    (cid : Nat) (hstc : stc = 1 ∨ stc = 2) (hidle : s.stg.test = none)
    (hns : nsid = 0 ∨ nsid = 0xFFFFFFFF ∨ s.attachedTo f (nsid - 1) = true) :
    exec (.deviceSelfTest f cid nsid stc) s =
      .next (((s.cal 624).setTest (some ((s.cal 624).newTest f nsid stc))).answerNvme f 0 cid 0).stgSettle := by
  have hatt : (s.cal 624).attachedTo f (nsid - 1) = s.attachedTo f (nsid - 1) :=
    attachedTo_of_keep (State.cal_keep ..) hwf rfl (lt_of_ctlRuns hrun) _
  have hgood : (nsid != 0 && nsid != 0xFFFFFFFF && !(s.cal 624).attachedTo f (nsid - 1)) = false := by
    rw [hatt]
    rcases hns with h | h | h <;> simp [h]
  have hcode : stc ≠ 15 ∧ (stc != 1 && stc != 2) = false := by rcases hstc with rfl | rfl <;> decide
  change execDeviceSelfTest f cid nsid stc s = _
  rw [execDeviceSelfTest, admin_of_runs hrun hps]
  simp only [stg_cal, hidle, hgood, hcode.1, hcode.2, Option.isSome_none, Bool.false_eq_true, if_false]
  rfl

/-! ## Namespace Attachment (R305) -/

/-- The attachment of slot `n` to controller `c`, in the register. -/
def State.attachBit (s : State) (n c : Nat) : State :=
  s.wr STG_NSs_ATTACHw.CTRL (setBit (s.rd STG_NSs_ATTACHw.CTRL n (c / 32)) (c % 32) true) n (c / 32)

theorem setAttach_eq (s : State) (n c : Nat) : ∃ a b, s.setAttach n c true = (s.attachBit n c).stgStore a b := ⟨_, _, rfl⟩

theorem attach_addr_ne (n c k : Nat) : STG_NSs_CFG.VALID.addr k 0 ≠ STG_NSs_ATTACHw.CTRL.addr n (c / 32) ∨ 8 ≤ c / 32 := by
  simp only [Fld.addr, STG_NSs_CFG.VALID, STG_NSs_ATTACHw.CTRL]
  omega

section
variable {s : State} {n c : Nat} (hwf : s.wf = true) (hn : n < 64) (hc : c < 256)
include hwf hn hc

omit hn in
theorem nsValid_attachBit : (s.attachBit n c).nsValid n = s.nsValid n := by
  have hne : STG_NSs_CFG.VALID.addr n 0 ≠ STG_NSs_ATTACHw.CTRL.addr n (c / 32) := by
    rcases attach_addr_ne n c n with h | h
    · exact h
    · omega
  rw [State.nsValid, State.on, State.attachBit, rd_wr_addr hwf hne, State.nsValid, State.on]

/-- The word of ATTACH that holds controller `c` gains its bit. -/
theorem rd_attachBit : (s.attachBit n c).rd STG_NSs_ATTACHw.CTRL n (c / 32) =
    setBit (s.rd STG_NSs_ATTACHw.CTRL n (c / 32)) (c % 32) true % 2 ^ 32 := rd_wr_same hwf (by decide) (fits_attach hn hc)

theorem attachedTo_attachBit_same (hvalid : s.nsValid n = true) : (s.attachBit n c).attachedTo c n = true := by
  rw [State.attachedTo, nsValid_attachBit hwf hc, hvalid, rd_attachBit hwf hn hc,
    bitOf_mod_two_pow _ (Nat.mod_lt _ (by decide)), bitOf_setBit]
  rfl

theorem attachedTo_attachBit_of {k : Nat} (hatt : s.attachedTo k n = true) : (s.attachBit n c).attachedTo k n = true := by
  rw [State.attachedTo, Bool.and_eq_true] at hatt ⊢
  refine ⟨(nsValid_attachBit hwf hc).trans hatt.1, ?_⟩
  by_cases hword : k / 32 = c / 32
  · rw [hword, rd_attachBit hwf hn hc, bitOf_mod_two_pow _ (Nat.mod_lt _ (by decide))]
    exact bitOf_setBit_true (hword ▸ hatt.2)
  · rw [State.attachBit, rd_wr_addr hwf]
    · exact hatt.2
    · simp only [Fld.addr, STG_NSs_ATTACHw.CTRL]
      omega

end

theorem stgStore_attachedTo {s : State} (hwf : s.wf = true) (a : Nat) (b : List Byte) {k : Nat} (hk : k < 256) (n : Nat) :
    (s.stgStore a b).attachedTo k n = s.attachedTo k n := attachedTo_of_keep (State.stgStore_keep ..) hwf rfl hk n

/-- Every controller of the list is attached; none that was attached is lost; and completions go on. -/
theorem forEach_setAttach {n f : Nat} (hn : n < 64) (hf : f < 256) (l : List Nat) (hl : ∀ c ∈ l, c < 256) {s : State} (hwf : s.wf = true)
    (hvalid : s.nsValid n = true) :
    let t := forEach l (fun c s => s.setAttach n c true) s
    t.wf = true ∧ t.canComplete f = s.canComplete f ∧ (∀ k < 256, s.attachedTo k n = true ∨ k ∈ l → t.attachedTo k n = true) := by
  induction l generalizing s with
  | nil => exact ⟨hwf, rfl, fun k _ h => h.resolve_right (List.not_mem_nil)⟩
  | cons c l ih =>
    have hc : c < 256 := hl c List.mem_cons_self
    have kset := State.setAttach_keep s n c true
    obtain ⟨a, b, hset⟩ := setAttach_eq s n c
    have hwfb : (s.attachBit n c).wf = true := wr_wf hwf ..
    have hvalid' : (s.setAttach n c true).nsValid n = true := by
      rw [hset, nsValid_of_keep (State.stgStore_keep ..) hwfb rfl, nsValid_attachBit hwf hc, hvalid]
    obtain ⟨hwf', hcan, hatt⟩ := ih (fun k hk => hl k (List.mem_cons_of_mem c hk)) (s := s.setAttach n c true) (kset.wf hwf) hvalid'
    refine ⟨hwf', hcan.trans (canComplete_of_same (.of_keep kset rfl rfl) hwf hf), fun k hk h => hatt k hk ?_⟩
    rw [hset, stgStore_attachedTo hwfb a b hk]
    rcases h with h | h
    · exact .inl (attachedTo_attachBit_of hwf hn hc h)
    · rcases List.mem_cons.1 h with rfl | h
      · exact .inl (attachedTo_attachBit_same hwf hn hc hvalid)
      · exact .inr h

theorem lt_of_ctlListed {s : State} {c : Nat} {e : Bool} (h : s.ctlListed c e = true) : c < 256 := by
  simp only [State.ctlListed, Bool.and_eq_true, decide_eq_true_eq] at h
  exact h.1.1

theorem lt_of_nsValid {s : State} {n : Nat} (h : s.nsValid n = true) : n < 64 := by
  simp only [State.nsValid, Bool.and_eq_true, decide_eq_true_eq] at h
  exact h.1

theorem ctlListed_of_same {s t : State} (h : SameConfig s t) (c : Nat) (e : Bool) : t.ctlListed c e = s.ctlListed c e := by
  rw [State.ctlListed, h.pfOf, h.vfsOf, State.ctlListed]

theorem namespaceAttachment_does {s : State} {nsid : Nat} {ctrls : List Nat} (hwf : s.wf = true) (hrun : s.ctlRuns 3 = true)
    (hps : (s.ctl 3).ps ≠ 2) (cid : Nat) (h0 : nsid ≠ 0) (hvalid : s.nsValid (nsid - 1) = true) (hsome : ctrls ≠ [])
    (hlisted : ctrls.any (fun c => !s.ctlListed c true) = false) (hnew : ctrls.any (fun c => s.attachedTo c (nsid - 1)) = false) :
    Does (.namespaceAttachment 3 cid nsid false ctrls) s (fun t => Out.nvme 3 0 cid 0 0 [] ∈ t.sent ∧
      ∀ c ∈ ctrls, t.attachedTo c (nsid - 1) = true) := by
  have kcal := State.cal_keep s 624 1 {}
  have hwfc : (s.cal 624).wf = true := kcal.wf hwf
  have hlt : ∀ c ∈ ctrls, c < 256 := fun c hc => lt_of_ctlListed (s := s) (e := true)
    (by simpa using List.any_eq_false.1 hlisted c hc)
  have hvalidc : (s.cal 624).nsValid (nsid - 1) = true := (nsValid_of_keep kcal hwf rfl _).trans hvalid
  have hlistedc : ctrls.any (fun c => !(s.cal 624).ctlListed c true) = false := by
    rw [← hlisted]
    exact congrArg ctrls.any (funext fun c => by rw [ctlListed_of_same (sameConfig_of_keep kcal hwf)])
  have hnewc : ctrls.any (fun c => (s.cal 624).attachedTo c (nsid - 1)) = false := by
    refine List.any_eq_false.2 fun c hc => ?_
    rw [attachedTo_of_keep kcal hwf rfl (hlt c hc)]
    exact List.any_eq_false.1 hnew c hc
  have hexec : exec (.namespaceAttachment 3 cid nsid false ctrls) s =
      .next ((forEach ctrls (fun c s => s.setAttach (nsid - 1) c true) (s.cal 624)).answerNvme 3 0 cid 0) := by
    change execNamespaceAttachment 3 cid nsid false ctrls s = _
    rw [execNamespaceAttachment, admin_of_runs hrun hps]
    simp [h0, hvalidc, hsome, hlistedc, hnewc]
  obtain ⟨hwf', hcan, hatt⟩ := forEach_setAttach (lt_of_nsValid hvalidc) (f := 3) (by decide) ctrls hlt hwfc hvalidc
  have hcan' := hcan.trans (canComplete_cal hwf hrun)
  refine does_of_exec hexec ⟨mem_sent_answerNvme _ _ _ _ _ hcan', fun c hc => ?_⟩
  rw [attachedTo_of_keep (State.answerNvme_keep ..) hwf' rfl (hlt c hc)]
  exact hatt c (hlt c hc) (.inr hc)

/-! ## Logs, timestamps and aborted commands -/

/-- Reading a log leaves the states of the functions. -/
theorem sameStates_logRead (s : State) (f lid : Nat) : SameStates s (s.logRead f lid) :=
  .trans (.ite (sameStates_setCtl ..) (.refl s)) (.of_keep (State.draw_keep _) rfl rfl)

theorem nvmeGetLogPage_does {s : State} {f lid : Nat} (hwf : s.wf = true) (hrun : s.ctlRuns f = true) (hps : (s.ctl f).ps ≠ 2)
    (cid len : Nat) (hlid : lid ∈ [1, 2, 5, 6]) :
    Does (.nvmeGetLogPage f cid lid len) s (fun t => Out.nvme f 0 cid 0 0 (((s.cal 624).logBytes f lid).take len) ∈ t.sent) := by
  have hwfc : (s.cal 624).wf = true := (State.cal_keep s 624 1 {}).wf hwf
  refine does_of_exec (exec_nvmeGetLogPage hrun hps cid len hlid) (mem_sent_answerNvme _ _ _ _ _ ?_)
  exact (canComplete_of_same (sameStates_logRead ..) hwfc (lt_of_ctlRuns hrun)).trans (canComplete_cal hwf hrun)

theorem length_leBytes (n v : Nat) : (leBytes n v).length = n := by
  induction n generalizing v with
  | zero => rfl
  | succ n ih => rw [leBytes, List.length_cons, ih]

theorem leNat_leBytes (n v : Nat) : leNat (leBytes n v) = v % 256 ^ n := by
  induction n generalizing v with
  | zero => rw [Nat.pow_zero, Nat.mod_one]; rfl
  | succ n ih =>
    rw [leBytes, leNat, ih, BitVec.toNat_ofNat, show 256 ^ (n + 1) = 256 * 256 ^ n from Nat.pow_succ', Nat.mod_mul]

theorem take_leBytes (n k v : Nat) : (leBytes (n + k) v).take n = leBytes n v := by
  induction n generalizing v with
  | zero => rw [List.take_zero]; rfl
  | succ n ih => rw [Nat.add_right_comm, leBytes, List.take_succ_cons, ih, leBytes]

/-- The milliseconds lie in the first six bytes of the timestamp, whose origin lies above them. -/
theorem leNat_timestamp (s : State) (f : Nat) : leNat ((leBytes 8 (s.timestamp f)).take 6) =
    ((s.ctl f).stamp + (s.tick - (s.ctl f).stampFrom) / 1000000) % 2 ^ 48 := by
  rw [take_leBytes 6 2, leNat_leBytes, State.timestamp]
  omega

theorem sameStates_endHost (s : State) (h status : Nat) : SameStates s (s.endHost h status) := by
  unfold State.endHost
  split
  · exact .refl s
  · exact .trans (.ite (.refl s) (sameStates_answerNvme ..)) (sameStates_dropHost ..)

theorem not_mem_cmds_endHost {s : State} {c x : HostCmd} {status : Nat} (hc : c ∈ s.stg.cmds)
    (hx : x ∈ (s.endHost c.id status).stg.cmds) : x.id ≠ c.id := by
  unfold State.endHost at hx
  split at hx
  next hnone => exact absurd (List.find?_eq_none.1 hnone c hc) (by simp)
  next => exact not_mem_cmds_dropHost hx

theorem nvmeAbort_does {s : State} {f sqid acid : Nat} {c : HostCmd} (hwf : s.wf = true) (hrun : s.ctlRuns f = true)
    (hps : (s.ctl f).ps ≠ 2) (cid : Nat)
    (hsome : s.stg.cmds.find? (fun c => c.f == f && c.qid == sqid && c.cid == acid && c.phase == 0 && c.op != 3) = some c) :
    Does (.nvmeAbort f cid sqid acid) s (fun t => t = ((s.cal 624).endHost c.id 0x07).answerNvme f 0 cid 0 0 ∧
      Out.nvme f 0 cid 0 0 [] ∈ t.sent ∧ ∀ x ∈ t.stg.cmds, x.id ≠ c.id) := by
  have hwfc : (s.cal 624).wf = true := (State.cal_keep s 624 1 {}).wf hwf
  have hcan : ((s.cal 624).endHost c.id 0x07).canComplete f = true :=
    (canComplete_of_same (sameStates_endHost ..) hwfc (lt_of_ctlRuns hrun)).trans (canComplete_cal hwf hrun)
  have hmem : c ∈ (s.cal 624).stg.cmds := by
    rw [stg_cal]
    exact List.mem_of_find?_eq_some hsome
  refine does_of_exec (exec_nvmeAbort_some hrun hps cid hsome) ⟨rfl, mem_sent_answerNvme _ _ _ _ _ hcan, fun x hx => ?_⟩
  rw [stg_answerNvme (h := hcan)] at hx
  exact not_mem_cmds_endHost hmem hx

theorem Does.imp {c : Instr} {s : State} {P Q : State → Prop} (h : Does c s P) (hPQ : ∀ t, P t → Q t) : Does c s Q :=
  Exists.imp (fun t ht => ⟨ht.1, hPQ t ht.2⟩) h

/-- Settles O27: each admin command answers, with the record of its controller that it leaves. -/
theorem nvmeAdminCommands : Obligations.NvmeAdminCommands := by
  unfold Obligations.NvmeAdminCommands
  refine ⟨?enable, ?reset, ?identify, ?unknownIdentify, ?unknownLog, ?log, ?feature, ?queues, ?power, ?createCq, ?createSq, ?deleteSq,
    ?deleteCq, ?abortNone, ?aerWait, ?attach, ?testBusy, ?testAbort, ?testStart, ?aerEvent, ?aerFull, ?setTimestamp, ?getTimestamp,
    ?effects, ?abortSome⟩
  case enable =>
    intro s f wrr hf hpf hpresent hready hoff
    have hexec : exec (.nvmeControllerEnable f wrr) s =
        .next (s.setCtl f { en := true, wrr := wrr, test := (s.ctl f).test, stampFrom := s.tick }) := by
      change execNvmeControllerEnable f wrr s = _
      simp [execNvmeControllerEnable, hf, hpf, hpresent, hready, hoff]
    exact does_of_exec hexec (cellGet_cellSet_ne _ _ fun h => Bool.true_eq_false_eq_False (congrArg CtlSt.en h))
  case reset =>
    intro s f hf hpf hon
    have hexec : exec (.nvmeControllerReset f) s = .next (s.resetCtl f) := by
      change execNvmeControllerReset f s = _
      simp [execNvmeControllerReset, hf, hpf, hon]
    exact does_of_exec hexec rfl
  case identify =>
    exact fun s f cid cntid hwf hrun hps => (answered_does hwf hrun (exec_nvmeIdentify_controller hrun hps cid cntid)).imp fun _ h => h.1
  case unknownIdentify =>
    exact fun s f cid cns nsid cntid hwf hrun hps hcns =>
      (answered_does hwf hrun (exec_nvmeIdentify_unknown hrun hps cid nsid cntid hcns)).imp fun _ h => h.1
  case unknownLog =>
    exact fun s f cid lid len hwf hrun hps hlid =>
      (answered_does hwf hrun (exec_nvmeGetLogPage_unknown hrun hps cid len hlid)).imp fun _ h => h.1
  case log =>
    exact fun s f cid lid len hwf hrun hps hlid =>
      (nvmeGetLogPage_does hwf hrun hps cid len hlid).imp fun _ h => ⟨_, List.length_take_le .., h⟩
  case feature =>
    exact fun s f cid fid v hwf hrun hps hfid =>
      (setAnswered_does hwf hrun (exec_nvmeSetFeatures_plain hrun hps cid v hfid) (en_of_ctlRuns hrun)).imp
        fun _ h => ⟨h.1, congrArg CtlSt.features h.2⟩
  case queues =>
    exact fun s f cid v hwf hrun hps hsqs hcqs =>
      (setAnswered_does hwf hrun (exec_nvmeSetFeatures_queues hrun hps cid v hsqs hcqs) (en_of_ctlRuns hrun)).imp fun _ h => h.1
  case power => exact fun s f cid v hwf hrun hps => answered_does hwf hrun (exec_nvmeGetFeatures_power hrun hps cid v)
  case createCq =>
    exact fun s f cid qid size vec ien hwf hrun hps h0 hmax hnew hlo hhi hvec =>
      (setAnswered_does hwf hrun (exec_nvmeCreateIoCq hrun hps hwf cid ien h0 hmax hnew hlo hhi hvec) (en_of_ctlRuns hrun)).imp
        fun _ h => ⟨h.1, congrArg CtlSt.cqs h.2⟩
  case createSq =>
    exact fun s f cid qid size cq prio hwf hrun hps h0 hmax hcq hnew hlo hhi =>
      (setAnswered_does hwf hrun (exec_nvmeCreateIoSq hrun hps cid prio h0 hmax hcq hnew hlo hhi) (en_of_ctlRuns hrun)).imp
        fun _ h => ⟨h.1, congrArg CtlSt.sqs h.2⟩
  case deleteSq => exact fun s f cid qid hwf hrun hps h0 hthere => nvmeDeleteIoSq_does hwf hrun hps cid h0 hthere
  case deleteCq =>
    exact fun s f cid qid hwf hrun hps h0 hthere hfree =>
      (setAnswered_does hwf hrun (exec_nvmeDeleteIoCq hrun hps cid h0 hthere hfree) (en_of_ctlRuns hrun)).imp
        fun _ h => ⟨h.1, congrArg CtlSt.cqs h.2⟩
  case abortNone =>
    exact fun s f cid sqid acid hwf hrun hps hnone => answered_does hwf hrun (exec_nvmeAbort_none hrun hps cid hnone)
  case aerWait =>
    intro s f cid hwf hrun hps hev hroom
    have hne : ({ s.ctl f with aers := (s.ctl f).aers ++ [cid] } : CtlSt) ≠ default := fun h =>
      List.append_ne_nil_of_right_ne_nil _ (List.cons_ne_nil cid []) (congrArg CtlSt.aers h)
    refine does_of_exec (exec_nvmeAsyncEventRequest_wait hrun hps cid hev hroom) ⟨?_, sent_cal_none ..⟩
    rw [State.ctl, State.setCtl]
    rw [show tabGet (tabSet (s.cal 624).stg.ctls f _) f = _ from cellGet_cellSet_ne _ _ hne]
  case attach =>
    exact fun s cid nsid ctrls hwf hrun hps h0 hvalid hsome hlisted hnew =>
      namespaceAttachment_does hwf hrun hps cid h0 hvalid hsome hlisted hnew
  case testBusy =>
    exact fun s f cid nsid stc hwf hrun hps hstc hbusy => answered_does hwf hrun (exec_deviceSelfTest_busy hrun hps cid nsid hstc hbusy)
  case testAbort =>
    exact fun s f cid x _ hrun hps htest hmine => does_of_exec (exec_deviceSelfTest_abort hrun hps cid htest hmine) rfl
  case testStart =>
    exact fun s f cid nsid stc hwf hrun hps hstc hidle hns =>
      does_of_exec (exec_deviceSelfTest_start hwf hrun hps cid hstc hidle hns) ⟨_, rfl, rfl, rfl, rfl⟩
  case aerEvent =>
    exact fun s f cid r l hwf hrun hps hev =>
      (setAnswered_does hwf hrun (exec_nvmeAsyncEventRequest_event hrun hps cid hev) (en_of_ctlRuns hrun)).imp
        fun _ h => ⟨h.1, congrArg CtlSt.events h.2, (congrArg CtlSt.aers h.2).trans rfl⟩
  case aerFull =>
    exact fun s f cid hwf hrun hps hev hfull => answered_does hwf hrun (exec_nvmeAsyncEventRequest_full hrun hps cid hev hfull)
  case setTimestamp =>
    exact fun s f cid v hwf hrun hps =>
      (setAnswered_does hwf hrun (exec_nvmeSetFeatures_timestamp hrun hps cid v) (en_of_ctlRuns hrun)).imp
        fun _ h => ⟨h.1, congrArg CtlSt.stamp h.2, congrArg CtlSt.stampFrom h.2⟩
  case getTimestamp =>
    exact fun s f cid v hwf hrun hps =>
      (answered_does hwf hrun (exec_nvmeGetFeatures_timestamp hrun hps cid v)).imp
        fun _ h => ⟨_, _, rfl, leNat_timestamp s f, length_leBytes .., h⟩
  case effects =>
    exact fun s f cid len hwf hrun hps => nvmeGetLogPage_does (lid := 5) hwf hrun hps cid len (by decide)
  case abortSome => exact fun s f cid sqid acid c hwf hrun hps hsome => nvmeAbort_does hwf hrun hps cid hsome

end Sys2Proof.Machine

/-!
The I/O commands, the completions of the drives, and a rebuild: nothing that the storage block does takes back what was given out, and
each command by the state that it finds.
-/
namespace Sys2Proof.Machine

/-! ## What the storage block gives out stays given out -/

section
variable (s : State)

theorem SentGrows.answerNvme (f qid cid status result : Nat) (bytes : List Byte) :
    SentGrows s (s.answerNvme f qid cid status result bytes) := by
  refine .ite ?_ (.of_keep (State.setCtl_keep ..) rfl)
  rcases postNvme_cases s f qid cid status result bytes with h | ⟨e, h⟩ <;> rw [h]
  · exact .out s _
  · exact .trans (.out s _) (sentGrows_msixFire ..)

theorem SentGrows.dropHost (h : Nat) : SentGrows s (s.dropHost h) := by
  unfold State.dropHost
  extract_lets +onlyGivenNames src1 u l src2 v
  have huv : SentGrows s v := List.suffix_refl _
  exact huv.trans (.forEach (fun c x => .ite (.refl x) (.answerNvme x ..)) v)

theorem SentGrows.endHost (h status : Nat) (bytes : List Byte) : SentGrows s (s.endHost h status bytes) := by
  unfold State.endHost
  split
  · exact .refl s
  · exact .trans (.ite (.refl s) (.answerNvme s ..)) (.dropHost _ h)

theorem SentGrows.ctlEvent (f type r : Nat) : SentGrows s (s.ctlEvent f type r) := by
  unfold State.ctlEvent
  extract_lets x
  refine .ite (.refl s) ?_
  split
  · exact .of_keep (State.setCtl_keep ..) rfl
  · exact .trans (.of_keep (State.setCtl_keep ..) rfl) (.answerNvme _ ..)

theorem SentGrows.readOverH (h : Nat) : SentGrows s (s.readOverH h) := by
  unfold State.readOverH
  split
  · exact .refl s
  · exact .ite (.refl s) (.ite (.endHost s ..) (.ite (.endHost s ..) (.endHost s ..)))

theorem SentGrows.issue (c : DrvCmd) : SentGrows s (s.issue c) := by
  unfold State.issue
  extract_lets +onlyGivenNames u _ v
  have hu : SentGrows s u := .of_keep (State.noteIssue_keep ..) rfl
  have hv : SentGrows u v := List.suffix_refl _
  exact hu.trans (hv.trans (.trans (.out v _) (cal_sent ..)))

theorem SentGrows.issueAll (n : Nat) : SentGrows s (s.issueAll n) := by
  induction n generalizing s with
  | zero => exact .refl s
  | succ n ih =>
    unfold State.issueAll
    split
    · exact .refl s
    · exact .trans (.issue s _) (ih _)

theorem SentGrows.commitWrite (c : HostCmd) : SentGrows s (s.commitWrite c) := by
  unfold State.commitWrite
  extract_lets +onlyGivenNames e x seq u old src v w y
  have hu : SentGrows s u := .trans (.of_keep (State.mramWrite_keep ..) rfl) (.of_keep (State.mramWrite_keep ..) rfl)
  have hv : SentGrows u v := .of_keep ((Keep.refl 0x10000000000000 u).stg _ rfl) rfl
  have hw : SentGrows v w := .of_keep (State.setEnt_keep ..) rfl
  have hy : SentGrows w y := .forEach (fun p z => .of_keep (State.retire_keep ..) rfl) w
  have hend : SentGrows y ((y.endHost c.id 0).cal 626) := .trans (.endHost y ..) (cal_sent ..)
  exact hu.trans (hv.trans (hw.trans (hy.trans (hend.trans (.of_keep (State.kickEnts_keep _) rfl)))))

theorem SentGrows.tryCommit (h : Nat) : SentGrows s (s.tryCommit h) := by
  unfold State.tryCommit
  split
  · exact .refl s
  refine .ite ?_ (.commitWrite s _)
  extract_lets +onlyGivenNames u
  have hu : SentGrows s u := List.suffix_refl _
  have hraise : SentGrows u (State.raise { u with stg := { u.stg with heldTold := true } } 344) :=
    .trans (t := { u with stg := { u.stg with heldTold := true } }) (List.suffix_refl _) (.of_keep (State.raise_keep ..) rfl)
  exact hu.trans (.ite (.of_keep (State.showJrnl_keep _) rfl) (hraise.trans (.of_keep (State.showJrnl_keep _) rfl)))

theorem SentGrows.writeOver (h : Nat) : SentGrows s (s.writeOver h) := by
  unfold State.writeOver
  split
  · exact .refl s
  extract_lets took
  exact .ite (.refl s) (.ite (.endHost s ..) (.ite (.trans (.of_keep (State.setEnt_keep ..) rfl) (.endHost _ ..))
    (.trans (.of_keep (State.setEnt_keep ..) rfl) (.tryCommit _ h))))

/-- Several drive commands submitted one after another. -/
theorem SentGrows.submitted {α : Type} (l : List α) (g : α → State → DrvCmd) :
    SentGrows s (Sys2Proof.Machine.forEach l (fun p s => s.submit (g p s)) s) :=
  .forEach (fun _ u => .of_keep (State.submit_keep u _) rfl) s

theorem SentGrows.beginWrite (c : HostCmd) : SentGrows s (s.beginWrite c) := by
  unfold State.beginWrite
  refine .ite (.endHost s ..) (.ite ?_ (.ite (.refl s) ?_))
  · split
    · exact .refl s
    extract_lets +onlyGivenNames u t
    have hu : SentGrows s u := .of_keep (State.noteWrite_keep ..) rfl
    refine hu.trans (.ite (.endHost u ..) ?_)
    extract_lets +onlyGivenNames v w
    have hw : SentGrows u w := .trans (t := v) (.of_keep (State.setEnt_keep ..) rfl) (.of_keep (State.updHost_keep ..) rfl)
    exact hw.trans (.submitted w t _)
  · extract_lets +onlyGivenNames u l v w
    have hu : SentGrows s u := .forEach (fun _ x => .of_keep (State.noteWrite_keep ..) rfl) s
    have hv : SentGrows u v := .of_keep (State.updHost_keep ..) rfl
    have hw : SentGrows v w := .submitted v l _
    exact hu.trans (hv.trans (hw.trans (.ite (.endHost w ..) (.refl w))))

theorem SentGrows.kickWrites : SentGrows s s.kickWrites := .forEach (fun c u => .beginWrite u c) s

theorem SentGrows.hostReadEnd (c : DrvCmd) (h off : Nat) (good : Bool) (bytes : List Byte) (code : Nat) (lost : Bool) :
    SentGrows s (s.hostReadEnd c h off good bytes code lost) := by
  have hover : ∀ (k : Nat) (g : HostCmd → HostCmd) (k' : Nat), SentGrows s ((s.updHost k g).readOverH k') :=
    fun k g k' => .trans (.of_keep (State.updHost_keep ..) rfl) (.readOverH _ k')
  unfold State.hostReadEnd
  refine .ite (hover ..) ?_
  extract_lets i
  split
  · exact .refl s
  split
  · exact .of_keep (State.submit_keep ..) rfl
  · exact hover ..

theorem SentGrows.hostWriteEnd (c : DrvCmd) (h : Nat) (good : Bool) (code : Nat) : SentGrows s (s.hostWriteEnd c h good code) :=
  .trans (.of_keep (State.updHost_keep ..) rfl) (.writeOver _ h)

theorem SentGrows.driveEnd (c : DrvCmd) (good lost : Bool) (bytes : List Byte) : SentGrows s (s.driveEnd c good lost bytes) := by
  unfold State.driveEnd
  extract_lets code
  split
  case h_1 => exact .ite (.hostReadEnd s ..) (.hostWriteEnd s ..)
  case h_2 => exact .hostWriteEnd s ..
  case h_3 => exact .of_keep (State.homeDone_keep ..) rfl
  case h_4 =>
    exact .ite (.trans (.of_keep (State.setEnt_keep ..) rfl) (.of_keep (State.copyEnt_keep ..) rfl)) (.of_keep (State.setEnt_keep ..) rfl)
  case h_5 =>
    refine .ite (.refl s) ?_
    split
    · exact .refl s
    · exact .of_keep (State.submit_keep ..) rfl
  case h_6 => exact .ite (.of_keep (State.chunkDone_keep ..) rfl) (.refl s)
  case h_7 =>
    split
    · exact .ite (.refl s) (.of_keep (State.setTest_keep ..) rfl)
    · exact .refl s
  case h_8 =>
    split
    · exact .refl s
    · exact List.suffix_refl _
  all_goals exact .refl s

theorem SentGrows.abandon (d : Nat) (surprise : Bool) : SentGrows s (s.abandon d surprise) := by
  unfold State.abandon
  extract_lets +onlyGivenNames out late src u v w x y
  have hu : SentGrows s u := List.suffix_refl _
  have hv : SentGrows u v := .ite (.of_keep (State.raise_keep ..) rfl) (.refl u)
  have hw : SentGrows v w := .forEach (fun p z => .of_keep (State.dropSide_keep ..) rfl) v
  have hx : SentGrows w x := .forEach (fun c z => .driveEnd z c false true []) w
  have hy : SentGrows x y := .forEach (fun p z => .forEach (fun e z => .ite (.of_keep (State.setEnt_keep ..) rfl) (.refl z)) z) x
  exact hu.trans (hv.trans (hw.trans (hx.trans (hy.trans (.forEach (fun p z => .of_keep (State.updOnline_keep ..) rfl) y)))))

theorem SentGrows.shutdownSlot (d : Nat) : SentGrows s (s.shutdownSlot d) := by
  unfold State.shutdownSlot
  extract_lets +onlyGivenNames x u c src
  have hu : SentGrows s u := .of_keep (State.setDs_keep ..) rfl
  exact hu.trans (List.suffix_cons _ _)

theorem SentGrows.removed (d : Nat) : SentGrows s (s.removed d) := by
  unfold State.removed
  extract_lets +onlyGivenNames u
  have hu : SentGrows s u :=
    .trans (.of_keep (State.powerOffSlot_keep ..) rfl) (.trans (.of_keep (State.setSstate_keep ..) rfl) (.abandon _ d false))
  exact hu.trans (.ite (.of_keep (State.slotPower_keep ..) rfl) (.refl u))

theorem SentGrows.kickDetach : SentGrows s s.kickDetach := by
  unfold State.kickDetach
  extract_lets +onlyGivenNames l src u
  have hu : SentGrows s u := List.suffix_refl _
  exact hu.trans (.forEach (fun x z => .answerNvme z ..) u)

theorem SentGrows.stgSettle : SentGrows s s.stgSettle := by
  unfold State.stgSettle
  extract_lets +onlyGivenNames u v w x y z
  have hu : SentGrows s u := .trans (.of_keep (State.kickEnts_keep _) rfl) (.kickWrites _)
  have hv : SentGrows u v := .issueAll u _
  have hw : SentGrows v w := .forEach (fun n p => .of_keep (State.kickRebuild_keep ..) rfl) v
  have hx : SentGrows w x := .forEach (fun d p => .of_keep (State.kickTest_keep ..) rfl) w
  have hy : SentGrows x y := .issueAll x _
  have hz : SentGrows y z := .forEach (fun d p => .ite (.shutdownSlot p d) (.refl p)) y
  have hend : SentGrows z z.testOver.kickDetach.kickDrain.showJrnl :=
    .trans (.of_keep (State.testOver_keep _) rfl) (.trans (.kickDetach _)
      (.trans (.of_keep (State.kickDrain_keep _) rfl) (.of_keep (State.showJrnl_keep _) rfl)))
  exact hu.trans (hv.trans (hw.trans (hx.trans (hy.trans (hz.trans hend)))))

theorem SentGrows.smartWarning (d warn : Nat) : SentGrows s (s.smartWarning d warn) :=
  .trans (.of_keep (State.raise_keep s 346 [i8 d, i8 warn] none none) rfl) (.forEach (fun f u => .ctlEvent u f ..) _)

theorem SentGrows.driveDone (id : Nat) (good : Bool) (bytes : List Byte) (warn : Nat) :
    SentGrows s (s.driveDone id good bytes warn) := by
  unfold State.driveDone
  split
  · exact .refl s
  extract_lets +onlyGivenNames src u bad v w x y
  have hu : SentGrows s u := List.suffix_refl _
  have hv : SentGrows u v := .ite (.smartWarning u ..) (.refl u)
  have hw : SentGrows v w := .ite (.of_keep (State.dropSide_keep ..) rfl) (.refl v)
  have hx : SentGrows w x := .driveEnd w ..
  have hy : SentGrows x y := .ite (.removed x _) (.refl x)
  exact hu.trans (hv.trans (hw.trans (hx.trans (hy.trans (.stgSettle y)))))

end

/-! ## I/O commands (R302, R304, R306) -/

/-- The status with which an I/O command is refused is read off registers of the storage block. -/
theorem ioStatus_of_keep {m : Nat} {s t : State} (k : Keep m s t) (hwf : s.wf = true) (hm : m.testBit 13 = false) {f : Nat}
    (hf : f < 256) (nsid : Nat) (write : Bool) (limit : Nat) (ranges : List (Nat × Nat)) :
    t.ioStatus f nsid write limit ranges = s.ioStatus f nsid write limit ranges := by
  have hatt := attachedTo_of_keep k hwf hm hf (nsid - 1)
  by_cases hat : s.attachedTo f (nsid - 1) = true
  case neg =>
    rw [State.ioStatus, hatt, State.ioStatus]
    simp [hat]
  case pos =>
    have hn : nsid - 1 < 64 := lt_of_nsValid (Bool.and_eq_true .. |>.mp hat).1
    have hkind : t.rd STG_NSs_CFG.KIND (nsid - 1) = s.rd STG_NSs_CFG.KIND (nsid - 1) :=
      k.rdIn .stg hwf rfl (by simp [Fld.fits, STG_NSs_CFG.KIND, hn]) hm
    have hsize : t.nsSize (nsid - 1) = s.nsSize (nsid - 1) :=
      k.rd64In .stg hwf rfl (by simp [Fld.fits, STG_NSs_SIZE_LO.BLOCKS, hn]) hm
    have honline : t.nsOnlineBit (nsid - 1) = s.nsOnlineBit (nsid - 1) :=
      on_of_rd (k.rdIn .stg hwf rfl (by simp [Fld.fits, STG_NSs_STATE.ONLINE, hn]) hm)
    rw [State.ioStatus, hatt, hkind, hsize, honline, State.ioStatus]

section
variable {s : State} {f qid nsid op limit : Nat} {ranges : List (Nat × Nat)} {q : SqSt} (hwf : s.wf = true) (hrun : s.ctlRuns f = true)
  (hps : (s.ctl f).ps ≠ 2) (hq : (s.ctl f).sqs.find? (fun q => q.qid == qid) = some q)
include hwf hrun hps hq

/-- An I/O command that is taken becomes a host command and begins. -/
theorem ioCommand_taken (cid : Nat) (data : List Byte) (begin_ : HostCmd → State → State)
    (hgood : s.ioStatus f nsid (op == 1 || op == 2 || op == 5) limit ranges = none) :
    s.ioCommand f qid cid nsid op limit ranges data begin_ =
      .next (begin_ ((s.cal 624).hostTaken q f qid cid nsid op ranges data).1
        ((s.cal 624).hostTaken q f qid cid nsid op ranges data).2).stgSettle := by
  have hwake : s.wakeCtl f = s := if_pos (by simpa using hps)
  have hgood' : (s.cal 624).ioStatus f nsid (op == 1 || op == 2 || op == 5) limit ranges = none :=
    (ioStatus_of_keep (State.cal_keep ..) hwf rfl (lt_of_ctlRuns hrun) ..).trans hgood
  simp only [State.ioCommand, hrun, Bool.not_true, Bool.false_eq_true, if_false, hq, hwake, hgood']
  rfl

/-- An I/O command that is refused is answered, and nothing else of the storage block changes. -/
theorem ioCommand_refused (cid : Nat) (data : List Byte) (begin_ : HostCmd → State → State) {e : Nat}
    (hbad : s.ioStatus f nsid (op == 1 || op == 2 || op == 5) limit ranges = some e) :
    s.ioCommand f qid cid nsid op limit ranges data begin_ = .next ((s.cal 624).answerNvme f qid cid e) := by
  have hwake : s.wakeCtl f = s := if_pos (by simpa using hps)
  have hbad' : (s.cal 624).ioStatus f nsid (op == 1 || op == 2 || op == 5) limit ranges = some e :=
    (ioStatus_of_keep (State.cal_keep ..) hwf rfl (lt_of_ctlRuns hrun) ..).trans hbad
  simp only [State.ioCommand, hrun, Bool.not_true, Bool.false_eq_true, if_false, hq, hwake, hbad']

end

theorem refused_does {s : State} {f : Nat} (hwf : s.wf = true) (hrun : s.ctlRuns f = true) {c : Instr} {qid cid e : Nat}
    (hexec : exec c s = .next ((s.cal 624).answerNvme f qid cid e)) :
    Does c s (fun t => Out.nvme f qid cid e 0 [] ∈ t.sent ∧ t.stg = s.stg) :=
  does_of_exec hexec ⟨mem_sent_answerNvme qid cid e 0 [] (canComplete_cal hwf hrun),
    (stg_answerNvme qid cid e 0 [] (canComplete_cal hwf hrun)).trans (stg_cal ..)⟩

/-- A Flush with no other command outstanding has nothing to wait for. -/
theorem flush_waits_for_none {s : State} {q : SqSt} {f qid cid nsid : Nat} (hnone : s.stg.cmds = []) :
    let p := (s.cal 624).hostTaken q f qid cid nsid 3 [] []
    (p.2.stg.cmds.filter (fun x => x.s == p.1.s && x.id != p.1.id && (x.op == 1 || x.op == 2) && !x.dead)).map (fun x => x.id) = [] := by
  simp [State.hostTaken, stg_cal, hnone]

/-! ## Completions of the drives (R307, R308, R316) -/

/-- The clock does not run back while the command of a reset drive fails. -/
theorem le_tick_driveReset (v : State) (c : DrvCmd) (id : Nat) :
    v.tick ≤ (((v.out (.driveReset c.d)).raise 339 [i8 c.d]).driveDone id false [] 0).tick :=
  Nat.le_trans (State.raise_keep (v.out (.driveReset c.d)) 339 [i8 c.d] none none).tick (State.driveDone_keep ..).tick

theorem mem_sent_driveReset (v : State) (c : DrvCmd) (id : Nat) :
    Out.driveReset c.d ∈ (((v.out (.driveReset c.d)).raise 339 [i8 c.d]).driveDone id false [] 0).sent := by
  have hsent : Out.driveReset c.d ∈ ((v.out (.driveReset c.d)).raise 339 [i8 c.d]).sent :=
    (SentGrows.of_keep (State.raise_keep (v.out (.driveReset c.d)) 339 [i8 c.d] none none) rfl).subset List.mem_cons_self
  exact (SentGrows.driveDone _ id false [] 0).subset hsent

section
variable {s : State} {id : Nat} {c : DrvCmd} (hcmd : s.stg.drives.find? (fun c => c.id == id) = some c)
include hcmd

/-- A drive that has not answered for 30 s: its controller is reset, it is told, and the command fails. -/
theorem exec_driveCmdTimeout : exec (.driveCmdTimeout id) s =
    .next ((((s.advanceTo (c.issue + 30000000000)).out (.driveReset c.d)).raise 339 [i8 c.d]).driveDone id false [] 0) := by
  change execDriveCmdTimeout id s = _
  rw [execDriveCmdTimeout, hcmd]

theorem driveCmdTimeout_does :
    Does (.driveCmdTimeout id) s (fun t => c.issue + 30000000000 ≤ t.tick ∧
      t = (((s.advanceTo (c.issue + 30000000000)).out (.driveReset c.d)).raise 339 [i8 c.d]).driveDone id false [] 0 ∧
      Out.driveReset c.d ∈ t.sent) := by
  have hexec := exec_driveCmdTimeout hcmd
  have htick := advanceTo_le_tick s (c.issue + 30000000000)
  generalize s.advanceTo (c.issue + 30000000000) = v at hexec htick ⊢
  exact does_of_exec hexec ⟨Nat.le_trans htick (le_tick_driveReset v c id), rfl, mem_sent_driveReset v c id⟩

end

/-- Settles O28: each I/O command that is taken begins, each that is refused is answered, and a drive's command ends. -/
theorem nvmeIoCommands : Obligations.NvmeIoCommands := by
  unfold Obligations.NvmeIoCommands
  refine ⟨?read, ?write, ?zeroes, ?flush, ?compare, ?dataset, ?readRefused, ?writeRefused, ?complete, ?timeout, ?rebuild⟩
  case read =>
    intro s f qid cid nsid lba n q hwf hrun hps hq hgood
    have hexec : exec (.nvmeRead f qid cid nsid lba n) s = execNvmeRead f qid cid nsid lba n s := rfl
    exact does_of_exec (hexec.trans (ioCommand_taken hwf hrun hps hq cid [] _ hgood)) rfl
  case write =>
    intro s f qid cid nsid lba n data q hwf hrun hps hq hgood
    have hexec : exec (.nvmeWrite f qid cid nsid lba n data) s = execNvmeWrite f qid cid nsid lba n data s := rfl
    exact does_of_exec (hexec.trans (ioCommand_taken hwf hrun hps hq cid _ _ hgood)) rfl
  case zeroes =>
    intro s f qid cid nsid lba n q hwf hrun hps hq hgood
    have hexec : exec (.nvmeWriteZeroes f qid cid nsid lba n) s = execNvmeWriteZeroes f qid cid nsid lba n s := rfl
    exact does_of_exec (hexec.trans (ioCommand_taken hwf hrun hps hq cid [] _ hgood)) rfl
  case flush =>
    intro s f qid cid nsid q hwf hrun hps hq hgood hnone
    have hexec : exec (.nvmeFlush f qid cid nsid) s = execNvmeFlush f qid cid nsid s := rfl
    refine does_of_exec (hexec.trans (ioCommand_taken hwf hrun hps hq cid [] _ hgood)) ?_
    dsimp only
    rw [flush_waits_for_none hnone]
    rfl
  case compare =>
    intro s f qid cid nsid lba n data q hwf hrun hps hq hgood
    have hexec : exec (.nvmeCompare f qid cid nsid lba n data) s = execNvmeCompare f qid cid nsid lba n data s := rfl
    exact does_of_exec (hexec.trans (ioCommand_taken hwf hrun hps hq cid _ _ hgood)) rfl
  case dataset =>
    intro s f qid cid nsid dealloc ranges q hwf hrun hps hq hgood
    have hexec : exec (.nvmeDatasetManagement f qid cid nsid dealloc ranges) s =
        execNvmeDatasetManagement f qid cid nsid dealloc ranges s := rfl
    exact does_of_exec (hexec.trans (ioCommand_taken hwf hrun hps hq cid [] _ hgood)) rfl
  case readRefused =>
    intro s f qid cid nsid lba n e q hwf hrun hps hq hbad
    have hexec : exec (.nvmeRead f qid cid nsid lba n) s = execNvmeRead f qid cid nsid lba n s := rfl
    exact refused_does hwf hrun (hexec.trans (ioCommand_refused hwf hrun hps hq cid [] _ hbad))
  case writeRefused =>
    intro s f qid cid nsid lba n e data q hwf hrun hps hq hbad
    have hexec : exec (.nvmeWrite f qid cid nsid lba n data) s = execNvmeWrite f qid cid nsid lba n data s := rfl
    exact refused_does hwf hrun (hexec.trans (ioCommand_refused hwf hrun hps hq cid _ _ hbad))
  case complete => exact fun s id warn good bytes c _ => does_of_exec (c := .driveCmdComplete id good bytes warn) rfl rfl
  case timeout => exact fun s id c => driveCmdTimeout_does
  case rebuild =>
    intro s n hvalid
    have hexec : exec (.nsRebuild n) s = .next (s.startRebuild n).stgSettle := by
      change execNsRebuild n s = _
      simp [execNsRebuild, hvalid, lt_of_nsValid hvalid]
    exact does_of_exec hexec rfl

end Sys2Proof.Machine

/-!
A group of statements about the DMA engine that fails: a clause about the resumption of a channel takes tables of channels that list a
channel twice.
-/
namespace Sys2Proof.Machine

/-- Channel 0 is Paused; its record is listed twice, first as the record of a channel that has no descriptor. -/
def channelListedTwice : State :=
  { regs := [(DMA_CHn_STATUS.STATE.addr 0 0, 0x60000000#32)], dma := { chans := [(0, {}), (0, { p := 5 })] } }

theorem dmaCh_channelListedTwice : channelListedTwice.dmaCh 0 = {} := rfl

theorem exec_dmaResume_channelListedTwice :
    exec (.dmaResume 0) channelListedTwice = .next (channelListedTwice.dmaGoOn 0) := rfl

/-- A record that equals the one of an unlisted channel is taken off the list, and the second one shows. -/
theorem dmaCh_dmaGoOn_channelListedTwice : ((channelListedTwice.dmaGoOn 0).dmaCh 0).p = 5 := by decide +kernel

/-- Refutes O60: the clause on DMA_RESUME takes every table of channels, and in one that lists a channel twice the resumption of a channel
without a descriptor uncovers another progress point (`dmaCh_dmaGoOn_channelListedTwice`). -/
theorem not_dmaAndAbortComplete : ¬ Obligations.DmaAndAbortComplete := by
  unfold Obligations.DmaAndAbortComplete
  rintro ⟨-, -, hresume, -⟩
  obtain ⟨t, hexec, -, -, hp, -⟩ := hresume channelListedTwice 0 (by decide +kernel) (by decide) (by decide +kernel) rfl
  obtain rfl := Host.Outcome.next.inj (exec_dmaResume_channelListedTwice.symm.trans hexec)
  rw [dmaCh_dmaGoOn_channelListedTwice, dmaCh_channelListedTwice] at hp
  cases hp

end Sys2Proof.Machine

/-!
The commands and the bursts of a DMA channel: what an error and a pause show, and each command by the state that it finds.
-/
namespace Sys2Proof.Machine

/-! ## The registers of a channel (R384) -/

theorem fits_dma {ch : Nat} (hch : ch < 32) {f : Fld} (hn : f.n1 = 32) (hm : f.n2 = 1) : f.fits ch 0 = true := by
  simp [Fld.fits, hn, hm, hch]

/-- What is published of a channel lies beside its control and status registers. -/
theorem reg_showDma {s : State} (hwf : s.wf = true) (ch : Nat) {a : Nat}
    (ha : a = DMA_CHn_CTRL.PAUSE.addr ch 0 ∨ a = DMA_CHn_STATUS.STATE.addr ch 0) : (s.showDma ch).reg a = s.reg a := by
  have hne : a ≠ DMA_CHn_SRC_CUR_LO.ADDR.addr ch 0 ∧ a ≠ DMA_CHn_SRC_CUR_LO.ADDR.addr ch 0 + 4 ∧
      a ≠ DMA_CHn_DST_CUR_LO.ADDR.addr ch 0 ∧ a ≠ DMA_CHn_DST_CUR_LO.ADDR.addr ch 0 + 4 ∧ a ≠ DMA_CHn_REMAIN.BYTES.addr ch 0 := by
    simp only [Fld.addr, DMA_CHn_CTRL.PAUSE, DMA_CHn_STATUS.STATE] at ha
    simp only [Fld.addr, DMA_CHn_SRC_CUR_LO.ADDR, DMA_CHn_DST_CUR_LO.ADDR, DMA_CHn_REMAIN.BYTES]
    omega
  obtain ⟨hsrc, hsrc', hdst, hdst', hrem⟩ := hne
  have hwf1 : (s.wr64 DMA_CHn_SRC_CUR_LO.ADDR (((s.dmaCh ch).src + (s.dmaCh ch).p) % 2 ^ 64) ch).wf = true := wr64_wf hwf ..
  exact (reg_wr_other (wr64_wf hwf1 ..) hrem).trans ((reg_wr64_other hwf1 hdst hdst').trans (reg_wr64_other hwf hsrc hsrc'))

theorem rd_raise_dma {s : State} (hwf : s.wf = true) {ch : Nat} (hch : ch < 32) {f : Fld} (hblk : f.inBlk .dma = true) (hn : f.n1 = 32)
    (hm : f.n2 = 1) (src : Nat) (items : List Item) : (s.raise src items).rd f ch = s.rd f ch :=
  (State.raise_keep ..).rdIn .dma hwf hblk (fits_dma hch hn hm) rfl

/-! ## Errors and pauses (R386) -/

/-- The state and the error code of a channel that enters Error. -/
def State.dmaErrorShown (s : State) (ch err : Nat) : State :=
  let s := (s.dropDmaReads ch).setDmaCh ch { s.dmaCh ch with reads := [], writes := [], err := 0 }
  ((s.wr DMA_CHn_STATUS.STATE 5 ch).wr DMA_CHn_STATUS.ERR err ch).showDma ch

theorem dmaError_eq (s : State) (ch err : Nat) :
    s.dmaError ch err = ((s.dmaErrorShown ch err).count DMA_cnt_LO.COUNT 2).raise 433 [i8 ch, i8 err] := rfl

section
variable {s : State} {ch : Nat} (hwf : s.wf = true) (hch : ch < 32)
include hwf

omit hwf in
theorem dmaErrorShown_keep (err : Nat) : Keep 0x20001000020000 s (s.dmaErrorShown ch err) :=
  (State.showDma_keep ..).step ((((State.setDmaCh_keep ..).step ((State.dropDmaReads_keep s ch).mono rfl) rfl).wr .dma rfl rfl).wr .dma
    rfl rfl) rfl

include hch

theorem dmaErrorShown_shows (err : Nat) : (s.dmaErrorShown ch err).dmaState ch = 5 ∧
    (s.dmaErrorShown ch err).rd DMA_CHn_STATUS.ERR ch = err % 8 := by
  unfold State.dmaErrorShown
  extract_lets +onlyGivenNames src u
  have hwfu : u.wf = true := ((State.setDmaCh_keep ..).step ((State.dropDmaReads_keep s ch).mono rfl) rfl : Keep 0x20001000000000 s u).wf hwf
  have hwf1 : (u.wr DMA_CHn_STATUS.STATE 5 ch).wf = true := wr_wf hwfu ..
  have hreg := reg_showDma (wr_wf hwf1 (f := DMA_CHn_STATUS.ERR) (v := err) (i := ch) (j := 0)) ch (.inr rfl)
  constructor
  · rw [State.dmaState, rd_of_reg hreg, rd_wr_bits hwf1 (by decide) (.inl (by decide)),
      rd_wr_same hwfu (by decide) (fits_dma hch rfl rfl)]
    rfl
  · rw [rd_of_reg (f := DMA_CHn_STATUS.ERR) hreg, rd_wr_same hwf1 (by decide) (fits_dma hch rfl rfl)]
    rfl

/-- A channel that enters Error shows it, with its code, and tells it. -/
theorem dmaError_shows {err : Nat} (herr : err < 8) : (s.dmaError ch err).dmaState ch = 5 ∧
    (s.dmaError ch err).rd DMA_CHn_STATUS.ERR ch = err ∧ s.told 433 < (s.dmaError ch err).told 433 := by
  obtain ⟨hstate, hcode⟩ := dmaErrorShown_shows hwf hch err
  have kshown := dmaErrorShown_keep (s := s) (ch := ch) err
  have hwf' : (s.dmaErrorShown ch err).wf = true := kshown.wf hwf
  have hcount : ((s.dmaErrorShown ch err).count DMA_cnt_LO.COUNT 2).reg (DMA_CHn_STATUS.STATE.addr ch 0) =
      (s.dmaErrorShown ch err).reg (DMA_CHn_STATUS.STATE.addr ch 0) := by
    refine reg_wr64_other hwf' ?_ ?_ <;> simp only [Fld.addr, DMA_CHn_STATUS.STATE, DMA_cnt_LO.COUNT] <;> omega
  have hwfc : ((s.dmaErrorShown ch err).count DMA_cnt_LO.COUNT 2).wf = true := wr64_wf hwf' ..
  have ktold : Keep 0x20001000020000 s ((s.dmaErrorShown ch err).count DMA_cnt_LO.COUNT 2) := kshown.count .dma rfl rfl
  rw [dmaError_eq]
  refine ⟨?state, ?code, ?told⟩
  case state => rw [State.dmaState, rd_raise_dma hwfc hch rfl rfl rfl, rd_of_reg hcount, ← hstate, State.dmaState]
  case code =>
    rw [rd_raise_dma hwfc hch rfl rfl rfl, rd_of_reg (f := DMA_CHn_STATUS.ERR) hcount, hcode]
    exact Nat.mod_eq_of_lt herr
  case told =>
    rw [← told_of_evt (ktold.parts .evt rfl) 433]
    exact told_lt_raise ..

/-- A channel that is to fail with no write outstanding is in Error at once. -/
theorem dmaFail_shows {err : Nat} (herr : err < 8) (hnone : (s.dmaCh ch).writes = []) : (s.dmaFail ch err).dmaState ch = 5 ∧
    (s.dmaFail ch err).rd DMA_CHn_STATUS.ERR ch = err ∧ s.told 433 < (s.dmaFail ch err).told 433 := by
  have hfail : s.dmaFail ch err = (s.dropDmaReads ch).dmaError ch err := if_pos (by
    rw [show (s.dropDmaReads ch).dmaCh ch = s.dmaCh ch from rfl, hnone]
    rfl)
  rw [hfail]
  exact dmaError_shows (s := s.dropDmaReads ch) ((State.dropDmaReads_keep ..).wf hwf) hch herr

/-- A Running channel that is to pause: PAUSE reads 1, and the state Pausing. -/
theorem dmaHold_sets : ((s.wr DMA_CHn_CTRL.PAUSE 1 ch).wr DMA_CHn_STATUS.STATE 2 ch).dmaState ch = 2 ∧
    ((s.wr DMA_CHn_CTRL.PAUSE 1 ch).wr DMA_CHn_STATUS.STATE 2 ch).on DMA_CHn_CTRL.PAUSE ch = true := by
  have hwf1 : (s.wr DMA_CHn_CTRL.PAUSE 1 ch).wf = true := wr_wf hwf ..
  constructor
  · exact rd_wr_same hwf1 (by decide) (fits_dma hch rfl rfl)
  · rw [on_of_rd (rd_wr_addr hwf1 (by simp only [Fld.addr, DMA_CHn_CTRL.PAUSE, DMA_CHn_STATUS.STATE]; omega))]
    exact on_wr_same hwf (by decide) rfl (fits_dma hch rfl rfl) true

omit hch in
theorem dmaState_wr_pause (v : Nat) : (s.wr DMA_CHn_CTRL.PAUSE v ch).dmaState ch = s.dmaState ch :=
  rd_wr_addr hwf (by simp only [Fld.addr, DMA_CHn_CTRL.PAUSE, DMA_CHn_STATUS.STATE]; omega)

end

/-! ## The commands (R386) -/

theorem dmaCh_wr (s : State) (f : Fld) (v i ch : Nat) : (s.wr f v i).dmaCh ch = s.dmaCh ch := by
  unfold State.wr
  split <;> rfl

section
variable {s : State} {ch : Nat} (hwf : s.wf = true) (hch : ch < 32)
include hwf hch

theorem exec_dmaPause_running (hrun : s.dmaState ch = 1) (herr : (s.dmaCh ch).err = 0) :
    exec (.dmaPause ch) s = .next (((s.wr DMA_CHn_CTRL.PAUSE 1 ch).wr DMA_CHn_STATUS.STATE 2 ch).dmaNext ch) := by
  change execDmaPause ch s = _
  rw [execDmaPause, if_neg (by omega), State.dmaHold]
  simp [dmaState_wr_pause hwf, dmaCh_wr, hrun, herr]

/-- With nothing outstanding a Pausing channel is Paused (R386). -/
theorem dmaPause_done_does (hrun : s.dmaState ch = 1) (herr : (s.dmaCh ch).err = 0) (hreads : (s.dmaCh ch).reads = [])
    (hwrites : (s.dmaCh ch).writes = []) (hleft : (s.dmaCh ch).p < (s.dmaCh ch).len) :
    Does (.dmaPause ch) s (fun t => t.dmaState ch = 3 ∧ t.on DMA_CHn_CTRL.PAUSE ch = true ∧ s.told 435 < t.told 435) := by
  have hexec := exec_dmaPause_running hwf hch hrun herr
  obtain ⟨hstate, hpause⟩ := dmaHold_sets hwf hch
  have k : Keep 0x20000 s ((s.wr DMA_CHn_CTRL.PAUSE 1 ch).wr DMA_CHn_STATUS.STATE 2 ch) :=
    ((Keep.refl _ s).wr .dma rfl rfl).wr .dma rfl rfl
  have hrec : ((s.wr DMA_CHn_CTRL.PAUSE 1 ch).wr DMA_CHn_STATUS.STATE 2 ch).dmaCh ch = s.dmaCh ch := (dmaCh_wr ..).trans (dmaCh_wr ..)
  have hwfv := k.wf hwf
  have htold := told_of_evt (k.parts .evt rfl) 435
  generalize (s.wr DMA_CHn_CTRL.PAUSE 1 ch).wr DMA_CHn_STATUS.STATE 2 ch = v at *
  have hnext : v.dmaNext ch = ((v.wr DMA_CHn_STATUS.STATE 3 ch).showDma ch).raise 435 [i8 ch] := by
    rw [State.dmaNext, hrec]
    simp [herr, hstate, hreads, hwrites, Nat.not_le.2 hleft]
    rfl
  have hwf3 : (v.wr DMA_CHn_STATUS.STATE 3 ch).wf = true := wr_wf hwfv ..
  have kshow : Keep 0x20000 v ((v.wr DMA_CHn_STATUS.STATE 3 ch).showDma ch) :=
    (State.showDma_keep ..).step ((Keep.refl _ v).wr .dma rfl rfl) rfl
  refine does_of_exec (hexec.trans (congrArg _ hnext)) ⟨?state, ?pause, ?told⟩
  case state =>
    rw [State.dmaState, rd_raise_dma (kshow.wf hwfv) hch rfl rfl rfl, rd_of_reg (reg_showDma hwf3 ch (.inr rfl)),
      rd_wr_same hwfv (by decide) (fits_dma hch rfl rfl)]
    rfl
  case pause =>
    rw [on_of_rd (rd_raise_dma (kshow.wf hwfv) hch rfl rfl rfl ..), on_of_rd (rd_of_reg (reg_showDma hwf3 ch (.inl rfl))),
      on_of_rd (rd_wr_addr hwfv (by simp only [Fld.addr, DMA_CHn_CTRL.PAUSE, DMA_CHn_STATUS.STATE]; omega))]
    exact hpause
  case told =>
    rw [← htold, ← told_of_evt (kshow.parts .evt rfl) 435]
    exact told_lt_raise ..

/-- While data is on its way a channel that is to pause is Pausing, and issues nothing (R386). -/
theorem dmaPause_waits_does (hrun : s.dmaState ch = 1) (herr : (s.dmaCh ch).err = 0) (hreads : (s.dmaCh ch).reads ≠ [])
    (hleft : (s.dmaCh ch).p < (s.dmaCh ch).len) :
    Does (.dmaPause ch) s (fun t => t.dmaState ch = 2 ∧ t.on DMA_CHn_CTRL.PAUSE ch = true ∧ t.dma = s.dma) := by
  have hexec := exec_dmaPause_running hwf hch hrun herr
  obtain ⟨hstate, hpause⟩ := dmaHold_sets hwf hch
  have k : Keep 0x20000 s ((s.wr DMA_CHn_CTRL.PAUSE 1 ch).wr DMA_CHn_STATUS.STATE 2 ch) :=
    ((Keep.refl _ s).wr .dma rfl rfl).wr .dma rfl rfl
  have hrec : ((s.wr DMA_CHn_CTRL.PAUSE 1 ch).wr DMA_CHn_STATUS.STATE 2 ch).dmaCh ch = s.dmaCh ch := (dmaCh_wr ..).trans (dmaCh_wr ..)
  have hdma := k.parts .dma rfl
  generalize (s.wr DMA_CHn_CTRL.PAUSE 1 ch).wr DMA_CHn_STATUS.STATE 2 ch = v at hexec hstate hpause hrec hdma
  have hnext : v.dmaNext ch = v := by
    rw [State.dmaNext, hrec]
    simp [herr, hstate, hreads, Nat.not_le.2 hleft, State.dmaIssue]
  exact does_of_exec (hexec.trans (congrArg _ hnext)) ⟨hstate, hpause, hdma⟩

theorem exec_dmaResume_paused (hpaused : s.dmaState ch = 3) (herr : (s.dmaCh ch).err = 0) :
    exec (.dmaResume ch) s = .next (((s.wr DMA_CHn_CTRL.PAUSE 0 ch).wr DMA_CHn_STATUS.STATE 1 ch).dmaGo ch) := by
  change execDmaResume ch s = _
  rw [execDmaResume, if_neg (by omega), State.dmaGoOn]
  simp [dmaState_wr_pause hwf, dmaCh_wr, hpaused, herr]

theorem exec_dmaStart_idle {who : Nat} (hopen : s.shut who = false) (hidle : s.dmaState ch ∈ [0, 4, 5]) :
    exec (.dmaStart who ch false) s = .next ((((((s.wr DMA_CHn_CTRL.PAUSE 0 ch).wr DMA_CHn_STATUS.OWNER who ch).wr
      DMA_CHn_STATUS.MISM 0 ch).wr DMA_CHn_STATUS.ERR 0 ch).wr DMA_CHn_STATUS.STATE 1 ch).dmaLoad ch (s.rd64 DMA_CHn_DESC_LO.DESC ch)
        true) := by
  have hbusy : s.dmaBusy ch = false := by
    unfold State.dmaState at hidle
    simp only [State.dmaBusy, List.contains_eq_mem, hidle, decide_true, Bool.not_true]
  have hdesc : ∀ {f : Fld} {u : State} {v : Nat}, u.wf = true → f.addr ch 0 = DMA_CHn_CTRL.PAUSE.addr ch 0 ∨
      f.addr ch 0 = DMA_CHn_STATUS.STATE.addr ch 0 → (u.wr f v ch).rd64 DMA_CHn_DESC_LO.DESC ch = u.rd64 DMA_CHn_DESC_LO.DESC ch := by
    intro f u v hu hf
    simp only [Fld.addr, DMA_CHn_CTRL.PAUSE, DMA_CHn_STATUS.STATE] at hf
    refine rd64_of_reg (reg_wr_other hu ?_) (reg_wr_other hu ?_) <;> simp only [Fld.addr, DMA_CHn_DESC_LO.DESC] <;> omega
  have hwf1 : (s.wr DMA_CHn_CTRL.PAUSE 0 ch).wf = true := wr_wf hwf ..
  have hwf2 : ((s.wr DMA_CHn_CTRL.PAUSE 0 ch).wr DMA_CHn_STATUS.OWNER who ch).wf = true := wr_wf hwf1 ..
  have hwf3 : (((s.wr DMA_CHn_CTRL.PAUSE 0 ch).wr DMA_CHn_STATUS.OWNER who ch).wr DMA_CHn_STATUS.MISM 0 ch).wf = true := wr_wf hwf2 ..
  change execDmaStart who ch false s = _
  simp only [execDmaStart, hopen, hbusy, Nat.not_le.2 hch, Bool.false_eq_true, if_false, Bool.false_and, Bool.not_false]
  rw [show b2n false = 0 from rfl, hdesc (f := DMA_CHn_STATUS.ERR) hwf3 (.inr rfl), hdesc (f := DMA_CHn_STATUS.MISM) hwf2 (.inr rfl),
    hdesc (f := DMA_CHn_STATUS.OWNER) hwf1 (.inr rfl), hdesc (f := DMA_CHn_CTRL.PAUSE) hwf (.inl rfl)]

omit hwf in
theorem exec_dmaStart_busy {who : Nat} (p : Bool) (hopen : s.shut who = false) (hbusy : s.dmaState ch ∉ [0, 4, 5]) :
    exec (.dmaStart who ch p) s = .next (if p then s.bad.dmaHold ch else s.bad.dmaGoOn ch) := by
  have hbusy' : s.dmaBusy ch = true := by
    unfold State.dmaState at hbusy
    simp only [State.dmaBusy, List.contains_eq_mem, hbusy, decide_false, Bool.not_false]
  change execDmaStart who ch p s = _
  simp only [execDmaStart, hopen, hbusy', Nat.not_le.2 hch, Bool.false_eq_true, if_false, if_true]

end

/-! ## Data (R382, R383) -/

section
variable {s : State} {ch : Nat} (hch : ch < 32)
include hch

theorem exec_dmaAbort (hrun : s.dmaState ch ∈ [1, 2, 3]) : exec (.dmaAbort ch) s = .next (s.dmaFail ch 1) := by
  change execDmaAbort ch s = _
  simp only [execDmaAbort, hch, List.contains_eq_mem, hrun, decide_true, Bool.and_self, if_true]

theorem exec_dmaReadData_ecc {x : Nat × Nat} {l : List (Nat × Nat)} (hreads : (s.dmaCh ch).reads = x :: l) :
    exec (.dmaReadData ch true) s = .next (s.dmaFail ch 2) := by
  change execDmaReadData ch true s = _
  simp [execDmaReadData, Nat.not_le.2 hch, hreads]

/-- A burst of a copy whose ranges lie apart: its data is used and written, and a response is awaited. -/
theorem exec_dmaReadData_copy {o n : Nat} {l : List (Nat × Nat)} {b : List Byte} (hreads : (s.dmaCh ch).reads = (o, n) :: l)
    (hop : (s.dmaCh ch).op ≠ 2) (hspace : (s.dmaCh ch).sspace ≠ 1) (hapart : (s.dmaCh ch).overlaps = false)
    (hget : s.dmaGet ch false (s.dmaCh ch).sspace ((s.dmaCh ch).src + o) n = (some b, false)) :
    exec (.dmaReadData ch false) s = .next (((((s.dmaUsed ch false ((s.dmaCh ch).src + o) n).setDmaCh ch
      { s.dmaCh ch with reads := l, writes := (s.dmaCh ch).writes ++ [n] }).dmaPut (s.dmaCh ch).dspace ((s.dmaCh ch).dst + o) b)).dmaNext ch) := by
  change execDmaReadData ch false s = _
  simp [execDmaReadData, Nat.not_le.2 hch, hreads, hop, hspace, hapart, hget]

theorem exec_dmaWriteResponse_good {n : Nat} {l : List Nat} (hwrites : (s.dmaCh ch).writes = n :: l) :
    exec (.dmaWriteResponse ch true) s =
      .next (((s.setDmaCh ch { s.dmaCh ch with p := (s.dmaCh ch).p + n, writes := l }).showDma ch).dmaNext ch) := by
  change execDmaWriteResponse ch true s = _
  simp [execDmaWriteResponse, Nat.not_le.2 hch, hwrites]

theorem exec_dmaWriteResponse_bad {n : Nat} {l : List Nat} (hwrites : (s.dmaCh ch).writes = n :: l) :
    exec (.dmaWriteResponse ch false) s = .next ((s.setDmaCh ch { s.dmaCh ch with writes := l }).dmaFail ch 6) := by
  change execDmaWriteResponse ch false s = _
  simp [execDmaWriteResponse, Nat.not_le.2 hch, hwrites]

end

/-- Settles O29: each command by the state of its channel, each burst by what its data and its response leave. -/
theorem dmaCommands : Obligations.DmaCommands := by
  unfold Obligations.DmaCommands
  refine ⟨?start, ?busy, ?pause, ?pausing, ?resume, ?abort, ?ecc, ?data, ?good, ?bad⟩
  case start => exact fun s who ch hopen hwf hch hidle => does_of_exec (exec_dmaStart_idle hwf hch hopen hidle) rfl
  case busy => exact fun s who ch p hopen hwf hch hbusy => does_of_exec (exec_dmaStart_busy hch p hopen hbusy) rfl
  case pause => exact fun s ch hwf hch => dmaPause_done_does hwf hch
  case pausing => exact fun s ch hwf hch => dmaPause_waits_does hwf hch
  case resume => exact fun s ch hwf hch hpaused herr => does_of_exec (exec_dmaResume_paused hwf hch hpaused herr) rfl
  case abort =>
    exact fun s ch hwf hch hrun hnone => does_of_exec (exec_dmaAbort hch hrun) (dmaFail_shows hwf hch (by decide) hnone)
  case ecc =>
    exact fun s ch x l hwf hch hreads hnone => does_of_exec (exec_dmaReadData_ecc hch hreads) (dmaFail_shows hwf hch (by decide) hnone)
  case data =>
    exact fun s ch o n l b hch hreads hop hspace hapart hget =>
      does_of_exec (exec_dmaReadData_copy hch hreads hop hspace hapart hget) rfl
  case good => exact fun s ch n l hch hwrites => does_of_exec (exec_dmaWriteResponse_good hch hwrites) rfl
  case bad => exact fun s ch n l hch hwrites => does_of_exec (exec_dmaWriteResponse_bad hch hwrites) rfl

end Sys2Proof.Machine

/-!
What counting and raising leave: the registers outside the counters, the overflow flags and the event unit's own counts.
-/
namespace Sys2Proof.Machine

/-! ## The registers that a count or an event may change -/

/-- The registers of the counters (R430), of the overflow flags (R435) and of the event unit's counters and limits (R447, R448). -/
def isCounted (a : Nat) : Prop :=
  (0x590000 ≤ a ∧ a < 0x593000) ∨ (0x580400 ≤ a ∧ a < 0x5804C0) ∨ (0x20100 ≤ a ∧ a < 0x20138) ∨ (0x21000 ≤ a ∧ a < 0x22000)

/-- From `s` to `t` no register outside the counted ones changes. -/
structure CountsOnly (s t : State) : Prop where
  wf : s.wf = true → t.wf = true
  reg : s.wf = true → ∀ a, ¬ isCounted a → t.reg a = s.reg a

theorem CountsOnly.refl (s : State) : CountsOnly s s := ⟨id, fun _ _ _ => rfl⟩

theorem CountsOnly.trans {s t u : State} (h1 : CountsOnly s t) (h2 : CountsOnly t u) : CountsOnly s u :=
  ⟨fun h => h2.wf (h1.wf h), fun h a ha => (h2.reg (h1.wf h) a ha).trans (h1.reg h a ha)⟩

theorem CountsOnly.of_regs {s t : State} (hwf : s.wf = true → t.wf = true) (h : t.regs = s.regs) : CountsOnly s t :=
  ⟨hwf, fun _ a _ => by rw [State.reg, h, State.reg]⟩

theorem CountsOnly.ite {s t u : State} {c : Prop} [Decidable c] (ht : CountsOnly s t) (hu : CountsOnly s u) :
    CountsOnly s (if c then t else u) := by
  split
  · exact ht
  · exact hu

theorem CountsOnly.forEach {α : Type} {l : List α} {f : α → State → State} (h : ∀ x u, CountsOnly u (f x u)) (s : State) :
    CountsOnly s (forEach l f s) := by
  induction l generalizing s with
  | nil => exact .refl s
  | cons x l ih => exact (h x s).trans (ih (f x s))

theorem CountsOnly.evt (s : State) (e : EvtSt) : CountsOnly s { s with evt := e } := .of_regs id rfl

theorem CountsOnly.out (s : State) (o : Out) : CountsOnly s (s.out o) := .of_regs (State.out_keep s o).wf rfl

/-- A write to a field whose registers are counted ones. -/
theorem CountsOnly.wr (s : State) {f : Fld} {v i : Nat} (hf : f.fits i 0 = true → isCounted (f.addr i 0)) : CountsOnly s (s.wr f v i) := by
  refine ⟨fun h => wr_wf h .., fun h a ha => ?_⟩
  unfold State.wr
  split
  case isTrue hfits => exact reg_setReg_other h _ fun e => ha (by rw [e]; exact hf hfits)
  case isFalse => rfl

theorem CountsOnly.wr64 (s : State) {f : Fld} {v i : Nat}
    (hf : f.fits i 0 = true → isCounted (f.addr i 0) ∧ isCounted (f.addr i 0 + 4)) : CountsOnly s (s.wr64 f v i) := by
  refine ⟨fun h => wr64_wf h .., fun h a ha => ?_⟩
  unfold State.wr64
  split
  case isTrue hfits =>
    obtain ⟨hlo, hhi⟩ := hf hfits
    rw [reg_setReg_other (setReg_wf h _ _) _ fun e => ha (by rwa [e]), reg_setReg_other h _ fun e => ha (by rwa [e])]
  case isFalse => rfl

theorem fits_lt {f : Fld} {i j : Nat} (h : f.fits i j = true) (hn : f.n1 ≠ 0) : i < f.n1 := by
  simp only [Fld.fits, Bool.and_eq_true, Bool.or_eq_true, decide_eq_true_eq, beq_iff_eq] at h
  exact h.1.resolve_left hn

theorem isCounted_cnt {e : Nat} (h : CAL_CNTe_LO.COUNT.fits e 0 = true) :
    isCounted (CAL_CNTe_LO.COUNT.addr e 0) ∧ isCounted (CAL_CNTe_LO.COUNT.addr e 0 + 4) := by
  have hlt := fits_lt h (by decide)
  simp only [CAL_CNTe_LO.COUNT, Fld.addr, isCounted] at hlt ⊢
  omega

theorem isCounted_ovf {k : Nat} (h : CAL_OVFk.OVF.fits k 0 = true) : isCounted (CAL_OVFk.OVF.addr k 0) := by
  have hlt := fits_lt h (by decide)
  simp only [CAL_OVFk.OVF, Fld.addr, isCounted] at hlt ⊢
  omega

theorem isCounted_evtCnt {i : Nat} (h : EVT_cnt_LO.COUNT.fits i 0 = true) :
    isCounted (EVT_cnt_LO.COUNT.addr i 0) ∧ isCounted (EVT_cnt_LO.COUNT.addr i 0 + 4) := by
  have hlt := fits_lt h (by decide)
  simp only [EVT_cnt_LO.COUNT, Fld.addr, isCounted] at hlt ⊢
  omega

theorem isCounted_suppressed {i : Nat} (h : EVT_SRCs_CTL.SUPPRESSED.fits i 0 = true) : isCounted (EVT_SRCs_CTL.SUPPRESSED.addr i 0) := by
  have hlt := fits_lt h (by decide)
  simp only [EVT_SRCs_CTL.SUPPRESSED, Fld.addr, isCounted] at hlt ⊢
  omega

theorem CountsOnly.wrCnt (s : State) (v e : Nat) : CountsOnly s (s.wr64 CAL_CNTe_LO.COUNT v e) := .wr64 s isCounted_cnt

theorem CountsOnly.evtCount (s : State) (i : Nat) : CountsOnly s (s.count EVT_cnt_LO.COUNT i) := by
  unfold State.count
  exact .wr64 s isCounted_evtCnt

/-! ## Counting and raising -/

/-- A property of the state that an operation answers beside a value. -/
def ofFst {α : Type} (P : State → Prop) (p : State × α) : Prop := P p.1

theorem ofFst_ite {α : Type} {P : State → Prop} {a b : State × α} {c : Prop} [Decidable c] (ha : ofFst P a) (hb : ofFst P b) :
    ofFst P (if c then a else b) := by
  split
  · exact ha
  · exact hb

/-- What an operation on a counter and on its flag keeps, an addition to a counter keeps. -/
theorem rel_calBump {R : State → State → Prop} (hrefl : ∀ s, R s s) (htrans : ∀ {s t u}, R s t → R t u → R s u)
    (hcount : ∀ s v e, R s (s.wr64 CAL_CNTe_LO.COUNT v e)) (hflag : ∀ s e, R s (s.setBitAt CAL_OVFk.OVF e true))
    (s : State) (fuel e n : Nat) : R s (s.calBump fuel e n).1 := by
  change ofFst (R s) _
  induction fuel generalizing s e n with
  | zero => exact hrefl s
  | succ fuel ih =>
    unfold State.calBump
    extract_lets v u hit w p
    have hu : R s u := hcount ..
    clear_value u
    have hw : R s w := by
      unfold w
      split
      · exact htrans hu (hflag _ _)
      · exact hu
    clear_value w
    have hp : ofFst (R s) p := ofFst_ite (htrans hw (ih ..)) hw
    clear_value p
    exact ofFst_ite hu hp

theorem CountsOnly.calBump (s : State) (fuel e n : Nat) : CountsOnly s (s.calBump fuel e n).1 :=
  rel_calBump .refl .trans .wrCnt (fun u _ => .wr u isCounted_ovf) s fuel e n

theorem CountsOnly.holdRec (s : State) (r : EvRec) : CountsOnly s (s.holdRec r) := (CountsOnly.evtCount s 0).trans (.evt _ _)

theorem CountsOnly.raise (s : State) (src : Nat) (items : List Item) (grain at_ : Option Nat) :
    CountsOnly s (s.raise src items grain at_) := by
  unfold State.raise
  extract_lets key a b held
  have hb : CountsOnly s b :=
    ((CountsOnly.evtCount s 2).trans (CountsOnly.wr _ isCounted_suppressed)).trans (.calBump a 1536 97 1)
  refine .ite ?_ (.holdRec s _)
  split
  · exact hb.trans (.evt b _)
  · exact (CountsOnly.holdRec s _).trans (.evt _ _)

theorem CountsOnly.calAdd (s : State) (e n : Nat) : CountsOnly s (s.calAdd e n) := by
  have hbump := CountsOnly.calBump s 1536 e n
  unfold State.calAdd
  generalize s.calBump 1536 e n = p at hbump ⊢
  exact hbump.trans (.forEach (fun _ u => .raise u _ _ _ _) p.1)

theorem CountsOnly.calFilteredOne (s : State) (j n : Nat) (agent : Option Nat) : CountsOnly s (s.calFilteredOne j n agent) := by
  have hset (v : Nat) : CountsOnly s (s.wr64 CAL_CNTe_LO.COUNT v (1408 + j)) := .wrCnt s v _
  unfold State.calFilteredOne
  refine .ite (.refl s) (.ite ?_ (.calAdd s _ _))
  extract_lets v u
  refine .ite (hset v) (.trans (t := u) (.trans (hset 0) (.calAdd _ _ _)) ?_)
  split
  · exact .out u _
  · exact .raise u _ _ _ _

theorem CountsOnly.cal (s : State) (e n : Nat) (a : CalAttr) : CountsOnly s (s.cal e n a) :=
  .trans (.ite (.refl s) (.calAdd s _ _)) (.forEach (fun j u => .calFilteredOne u j n a.agent) _)

/-! ## Overflow flags stay set -/

/-- The overflow flags that were set stay set. -/
structure FlagsStay (s t : State) : Prop where
  wf : s.wf = true → t.wf = true
  flag : s.wf = true → ∀ e < 1536, s.bitAt CAL_OVFk.OVF e = true → t.bitAt CAL_OVFk.OVF e = true

theorem FlagsStay.refl (s : State) : FlagsStay s s := ⟨id, fun _ _ _ h => h⟩

theorem FlagsStay.trans {s t u : State} (h1 : FlagsStay s t) (h2 : FlagsStay t u) : FlagsStay s u :=
  ⟨fun h => h2.wf (h1.wf h), fun h e he hset => h2.flag (h1.wf h) e he (h1.flag h e he hset)⟩

theorem FlagsStay.ite {s t u : State} {c : Prop} [Decidable c] (ht : FlagsStay s t) (hu : FlagsStay s u) :
    FlagsStay s (if c then t else u) := by
  split
  · exact ht
  · exact hu

theorem FlagsStay.forEach {α : Type} {l : List α} {f : α → State → State} (h : ∀ x u, FlagsStay u (f x u)) (s : State) :
    FlagsStay s (forEach l f s) := by
  induction l generalizing s with
  | nil => exact .refl s
  | cons x l ih => exact (h x s).trans (ih (f x s))

theorem ovf_fits {e : Nat} (he : e < 1536) : CAL_OVFk.OVF.fits (e / 32) 0 = true := by
  have hk : e / 32 < 48 := by omega
  simp [Fld.fits, CAL_OVFk.OVF, hk]

/-- An operation that leaves the registers of the flags. -/
theorem FlagsStay.of_reg {s t : State} (hwf : s.wf = true → t.wf = true)
    (h : s.wf = true → ∀ k < 48, t.reg (CAL_OVFk.OVF.addr k 0) = s.reg (CAL_OVFk.OVF.addr k 0)) : FlagsStay s t :=
  ⟨hwf, fun hs e he hset => by
    rw [State.bitAt, rd_of_reg (h hs (e / 32) (by omega))]
    exact hset⟩

/-- An operation that leaves the registers of Calipers. -/
theorem FlagsStay.of_keep {m : Nat} {s t : State} (k : Keep m s t) (hm : m.testBit 20 = false) : FlagsStay s t :=
  .of_reg k.wf fun hs i hi => k.regs hs _ (by
    have hlo : Blk.cal.base ≤ CAL_OVFk.OVF.addr i 0 :=
      Nat.le_trans (by decide : Blk.cal.base ≤ 0x580400) (by simp only [Fld.addr, CAL_OVFk.OVF]; omega)
    have hhi : CAL_OVFk.OVF.addr i 0 < Blk.cal.top :=
      Nat.lt_of_lt_of_le (by simp only [Fld.addr, CAL_OVFk.OVF]; omega) (by decide : 0x5804C0 ≤ Blk.cal.top)
    rw [zoneNo_blk hlo hhi]
    exact hm)

theorem FlagsStay.wrCnt (s : State) (v e : Nat) : FlagsStay s (s.wr64 CAL_CNTe_LO.COUNT v e) :=
  .of_reg (fun h => wr64_wf h ..) fun hs k hk => reg_wr64_other hs
    (by simp only [Fld.addr, CAL_OVFk.OVF, CAL_CNTe_LO.COUNT]; omega) (by simp only [Fld.addr, CAL_OVFk.OVF, CAL_CNTe_LO.COUNT]; omega)

theorem FlagsStay.setFlag (s : State) (e : Nat) : FlagsStay s (s.setBitAt CAL_OVFk.OVF e true) := by
  refine ⟨fun h => wr_wf h .., fun hs x hx hset => ?_⟩
  by_cases hword : x / 32 = e / 32
  · have hfit : CAL_OVFk.OVF.fits (e / 32) 0 = true := hword ▸ ovf_fits hx
    rw [State.bitAt, hword] at hset ⊢
    rw [State.setBitAt, rd_wr_same hs (by decide) hfit, bitOf_mod_two_pow _ (show x % 32 < CAL_OVFk.OVF.w from Nat.mod_lt _ (by decide))]
    exact bitOf_setBit_true hset
  · rw [State.bitAt, State.setBitAt, rd_wr_addr hs (by simp only [Fld.addr, CAL_OVFk.OVF]; omega)]
    exact hset

theorem FlagsStay.calBump (s : State) (fuel e n : Nat) : FlagsStay s (s.calBump fuel e n).1 :=
  rel_calBump .refl .trans .wrCnt .setFlag s fuel e n

theorem FlagsStay.raise (s : State) (src : Nat) (items : List Item) (grain at_ : Option Nat) :
    FlagsStay s (s.raise src items grain at_) := by
  have hheld (r : EvRec) : FlagsStay s (s.holdRec r) := .of_keep (State.holdRec_keep ..) rfl
  have hevt (u : State) (e : EvtSt) : FlagsStay u { u with evt := e } := .of_keep (.evt (.refl 0x400000000 u) _ rfl) rfl
  unfold State.raise
  extract_lets key a b held
  have ha : FlagsStay s a := .of_keep (.bump .evt (.count .evt (.refl 4 s) rfl rfl) rfl rfl) rfl
  clear_value a
  have hb : FlagsStay s b := ha.trans (.calBump a 1536 97 1)
  refine .ite ?_ (hheld _)
  split
  · exact hb.trans (hevt _ _)
  · exact (hheld _).trans (hevt _ _)

end Sys2Proof.Machine

/-!
Calipers: a counter that wraps, a counter that samples, and the histogram units.
-/
namespace Sys2Proof.Machine

/-! ## Counters that wrap or sample (R435, R436) -/

section
variable {s : State} {e : Nat} (he : e < 1535) (hcyc : s.calCyc e = false) (hfull : s.rd64 CAL_CNTe_LO.COUNT e = 2 ^ 48 - 1)

theorem cnt_fits (h : e < 1536) : CAL_CNTe_LO.COUNT.fits e 0 = true := by simp [Fld.fits, CAL_CNTe_LO.COUNT, h]

include he hcyc hfull

theorem exec_counterWrap : exec (.counterWrap e) s = .next (s.calAdd e 1) := by
  change execCounterWrap e s = _
  simp [execCounterWrap, hcyc, hfull, show e < 1536 by omega]

omit he hcyc in
/-- What the wrap of a counter that feeds no other counter leaves, and the counters whose wrap is told. -/
theorem calBump_wraps (hchain : s.bitAt CAL_CHAINk.CHAIN e = false) : s.calBump 1536 e 1 =
    if s.bitAt CAL_OVF_EVTk.EN e then ((s.wr64 CAL_CNTe_LO.COUNT 0 e).setBitAt CAL_OVFk.OVF e true, [e])
    else (s.wr64 CAL_CNTe_LO.COUNT 0 e, []) := by
  rw [State.calBump]
  simp only [hfull, hchain, Bool.and_false]
  cases s.bitAt CAL_OVF_EVTk.EN e <;> rfl

omit hcyc in
theorem cnt_calAdd_wraps (hwf : s.wf = true) (hchain : s.bitAt CAL_CHAINk.CHAIN e = false)
    (hquiet : s.bitAt CAL_OVF_EVTk.EN e = false) : (s.calAdd e 1).rd64 CAL_CNTe_LO.COUNT e = 0 := by
  rw [State.calAdd, calBump_wraps hfull hchain, hquiet]
  exact rd64_wr64_same hwf (cnt_fits (by omega))

omit hcyc in
/-- A wrap that is told sets its overflow flag and raises source 480. -/
theorem calAdd_wraps_told (hwf : s.wf = true) (hchain : s.bitAt CAL_CHAINk.CHAIN e = false)
    (htell : s.bitAt CAL_OVF_EVTk.EN e = true) :
    (s.calAdd e 1).bitAt CAL_OVFk.OVF e = true ∧ s.told 480 < (s.calAdd e 1).told 480 := by
  have hset : Keep 0x100000 s (s.wr64 CAL_CNTe_LO.COUNT 0 e) := (Keep.refl _ s).wr64 .cal rfl rfl
  have hflag := hset.setBitAt .cal (f := CAL_OVFk.OVF) (k := e) (v := true) rfl rfl
  rw [State.calAdd, calBump_wraps hfull hchain, htell]
  change (State.raise _ 480 [i16 e]).bitAt _ _ = true ∧ _ < (State.raise _ 480 [i16 e]).told 480
  refine ⟨(FlagsStay.raise _ _ _ _ _).flag (hflag.wf hwf) e (by omega)
    (bitAt_setBitAt_same (hset.wf hwf) rfl rfl (ovf_fits (by omega)) true), ?_⟩
  have htold := told_lt_raise ((s.wr64 CAL_CNTe_LO.COUNT 0 e).setBitAt CAL_OVFk.OVF e true) 480 [i16 e] none none
  rwa [told_of_evt (hflag.parts .evt rfl)] at htold
end

theorem exec_calSamplePeriod {s : State} {j agent : Nat} (hj : j < 128) (hon : s.on CAL_FCj_SEL.SAMPLE_EN j = true)
    (hfed : s.calFed (1408 + j) = false) (hcyc : s.calCyc (1408 + j) = false)
    (hdue : s.rd CAL_FCj_PERIOD.PERIOD j ≤ s.rd64 CAL_CNTe_LO.COUNT (1408 + j) + 1) :
    exec (.calSamplePeriod j agent) s = .next (
      if 768 ≤ s.rd CAL_FCj_SEL.EVENT j ∧ s.rd CAL_FCj_SEL.EVENT j < 1168 then
        ((s.wr64 CAL_CNTe_LO.COUNT 0 (1408 + j)).calAdd 1312 1).out (.threadIrq agent)
      else ((s.wr64 CAL_CNTe_LO.COUNT 0 (1408 + j)).calAdd 1312 1).raise 481 [i16 (1408 + j)]) := by
  have hfire := Nat.not_lt.2 hdue
  change execCalSamplePeriod j agent s = _
  simp only [execCalSamplePeriod, Nat.not_le.2 hj, hon, hfed, hcyc, hdue, State.calFilteredOne, hfire]
  by_cases hcpu : 768 ≤ s.rd CAL_FCj_SEL.EVENT j ∧ s.rd CAL_FCj_SEL.EVENT j < 1168
  · simp [hcpu]
  · simp [hcpu, -not_and]

/-! ## One pass over a list -/

theorem forEach_rel {α : Type} {R : State → State → Prop} (hrefl : ∀ s, R s s) (htrans : ∀ {s t u}, R s t → R t u → R s u)
    {f : α → State → State} {l : List α} (h : ∀ y ∈ l, ∀ u, R u (f y u)) (s : State) : R s (forEach l f s) := by
  induction l generalizing s with
  | nil => exact hrefl s
  | cons y l ih => exact htrans (h y List.mem_cons_self s) (ih (fun z hz => h z (List.mem_cons_of_mem _ hz)) _)

/-- A pass over a list in which every other element keeps a relation: before and after the element itself the relation holds. -/
theorem forEach_at {α : Type} {R : State → State → Prop} (hrefl : ∀ s, R s s) (htrans : ∀ {s t u}, R s t → R t u → R s u)
    {f : α → State → State} {x : α} (hother : ∀ y, y ≠ x → ∀ u, R u (f y u)) {l : List α} (hnodup : l.Nodup) (hx : x ∈ l) (s : State) :
    ∃ w, R s w ∧ R (f x w) (forEach l f s) := by
  induction l generalizing s with
  | nil => exact absurd hx (List.not_mem_nil)
  | cons y l ih =>
    obtain ⟨hy, hl⟩ := List.nodup_cons.1 hnodup
    by_cases hyx : y = x
    · subst hyx
      exact ⟨s, hrefl s, forEach_rel hrefl htrans (fun z hz => hother z (ne_of_mem_of_not_mem hz hy)) _⟩
    · obtain ⟨w, hw, hrest⟩ := ih hl ((List.mem_cons.1 hx).resolve_left (Ne.symm hyx)) (f y s)
      exact ⟨w, htrans (hother y hyx s) hw, hrest⟩

/-! ## The registers of a histogram unit (R438 to R440) -/

/-- The registers of unit `u`: its configuration, its extremes and its bins. -/
def isUnitReg (u a : Nat) : Prop :=
  (0x584000 + 0x40 * u ≤ a ∧ a < 0x584040 + 0x40 * u) ∨ (0x5A0000 + 0x100 * u ≤ a ∧ a < 0x5A0100 + 0x100 * u)

/-- From `s` to `t` no register of unit `u` changes. -/
structure SameUnit (u : Nat) (s t : State) : Prop where
  wf : s.wf = true → t.wf = true
  reg : s.wf = true → ∀ a, isUnitReg u a → t.reg a = s.reg a

theorem SameUnit.refl {u : Nat} (s : State) : SameUnit u s s := ⟨id, fun _ _ _ => rfl⟩

theorem SameUnit.trans {u : Nat} {s t w : State} (h1 : SameUnit u s t) (h2 : SameUnit u t w) : SameUnit u s w :=
  ⟨fun h => h2.wf (h1.wf h), fun h a ha => (h2.reg (h1.wf h) a ha).trans (h1.reg h a ha)⟩

theorem SameUnit.of_counts {u : Nat} (hu : u < 64) {s t : State} (h : CountsOnly s t) : SameUnit u s t :=
  ⟨h.wf, fun hwf a ha => h.reg hwf a (by
    simp only [isUnitReg, isCounted] at ha ⊢
    omega)⟩

theorem SameUnit.wr {u : Nat} (s : State) {f : Fld} (v : Nat) {i : Nat} (hf : f.fits i 0 = true → ¬ isUnitReg u (f.addr i 0)) :
    SameUnit u s (s.wr f v i) := by
  by_cases hfit : f.fits i 0 = true
  · exact ⟨fun h => wr_wf h .., fun h a ha => reg_wr_other h fun e => hf hfit (by rwa [← e])⟩
  · rw [State.wr, if_neg hfit]
    exact .refl s

theorem SameUnit.wrBin {u x : Nat} (hu : u < 64) (hx : x ≠ u) (s : State) (v : Nat) {i : Nat} (hi : i < 32) :
    SameUnit u s (s.wr64 CAL_HUu_BINi_LO.COUNT v x i) := by
  by_cases hfit : CAL_HUu_BINi_LO.COUNT.fits x i = true
  · have hlt : x < 64 := fits_lt hfit (by decide)
    refine ⟨fun h => wr64_wf h .., fun h a ha => ?_⟩
    simp only [isUnitReg] at ha
    exact reg_wr64_other h (by simp only [Fld.addr, CAL_HUu_BINi_LO.COUNT]; omega)
      (by simp only [Fld.addr, CAL_HUu_BINi_LO.COUNT]; omega)
  · rw [State.wr64, if_neg hfit]
    exact .refl s

theorem histBin_lt (log2 : Bool) (unit v : Nat) : histBin log2 unit v < 32 := by
  unfold histBin
  split
  · split <;> omega
  · omega

/-! ## A sample at one unit -/

theorem bin_fits {u i : Nat} (hu : u < 64) (hi : i < 32) : CAL_HUu_BINi_LO.COUNT.fits u i = true := by
  simp [Fld.fits, CAL_HUu_BINi_LO.COUNT, hu, hi]

/-- The bin that a sample of `v` counts in. -/
def State.binOf (s : State) (u v : Nat) : Nat := histBin (s.on CAL_HUu_CFG.MODE u) (s.rd CAL_HUu_UNIT.NS u) v

theorem binOf_lt (s : State) (u v : Nat) : s.binOf u v < 32 := histBin_lt ..

/-- A sample counts in its bin. -/
def State.binned (s : State) (u v : Nat) : State :=
  s.wr64 CAL_HUu_BINi_LO.COUNT (satAdd 48 (s.rd64 CAL_HUu_BINi_LO.COUNT u (s.binOf u v)) 1) u (s.binOf u v)

/-- A sample counts in its bin and in MAX. -/
def State.sampled (s : State) (u v : Nat) : State :=
  (s.binned u v).wr CAL_HUu_MAX.VALUE (max ((s.binned u v).rd CAL_HUu_MAX.VALUE u) (min v 0xFFFFFFFF)) u

theorem histOne_frozen {s : State} {x : Nat} (v : Nat) (hfrozen : s.on CAL_HUu_CTRL.FREEZE x = true) :
    s.histOne x v = s.bump CAL_HUu_MISSED.VALUE x := by
  rw [State.histOne, if_pos hfrozen]

/-- Beyond the unit's registers a sample only counts. -/
theorem counts_histOne {s : State} {x : Nat} (v : Nat) (hrun : s.on CAL_HUu_CTRL.FREEZE x = false) :
    CountsOnly (s.sampled x v) (s.histOne x v) := by
  rw [State.histOne, if_neg (by simp [hrun])]
  exact (CountsOnly.cal (s.sampled x v) 1313 1 {}).trans (.ite (.raise ..) (.refl _))

theorem max_apart {u x : Nat} (hu : u < 64) (hx : x ≠ u) (hfit : CAL_HUu_MAX.VALUE.fits x 0 = true) :
    ¬ isUnitReg u (CAL_HUu_MAX.VALUE.addr x 0) := by
  have hlt := fits_lt hfit (by decide)
  simp only [isUnitReg, Fld.addr, CAL_HUu_MAX.VALUE] at hlt ⊢
  omega

theorem missed_apart {u x : Nat} (hu : u < 64) (hx : x ≠ u) (hfit : CAL_HUu_MISSED.VALUE.fits x 0 = true) :
    ¬ isUnitReg u (CAL_HUu_MISSED.VALUE.addr x 0) := by
  have hlt := fits_lt hfit (by decide)
  simp only [isUnitReg, Fld.addr, CAL_HUu_MISSED.VALUE] at hlt ⊢
  omega

/-- A sample at another unit leaves the registers of this one. -/
theorem SameUnit.histOne {u x : Nat} (hu : u < 64) (hx : x ≠ u) (s : State) (v : Nat) : SameUnit u s (s.histOne x v) := by
  cases hf : s.on CAL_HUu_CTRL.FREEZE x
  case true =>
    rw [histOne_frozen v hf]
    exact .wr s _ (missed_apart hu hx)
  case false =>
    have hbin : SameUnit u s (s.binned x v) := .wrBin hu hx s _ (binOf_lt ..)
    have hmax : SameUnit u (s.binned x v) (s.sampled x v) := .wr _ _ (max_apart hu hx)
    exact (hbin.trans hmax).trans (.of_counts hu (counts_histOne v hf))

section
variable {s t : State} {u : Nat} (hsame : SameUnit u s t) (hwf : s.wf = true)
include hsame hwf

theorem SameUnit.rd {f : Fld} (hf : isUnitReg u (f.addr u 0)) : t.rd f u = s.rd f u := rd_of_reg (hsame.reg hwf _ hf)

theorem SameUnit.on {f : Fld} (hf : isUnitReg u (f.addr u 0)) : t.on f u = s.on f u := on_of_rd (hsame.rd hwf hf)

theorem SameUnit.bin {i : Nat} (hi : i < 32) : t.rd64 CAL_HUu_BINi_LO.COUNT u i = s.rd64 CAL_HUu_BINi_LO.COUNT u i :=
  rd64_of_reg (hsame.reg hwf _ (by simp only [isUnitReg, Fld.addr, CAL_HUu_BINi_LO.COUNT]; omega))
    (hsame.reg hwf _ (by simp only [isUnitReg, Fld.addr, CAL_HUu_BINi_LO.COUNT]; omega))
end

/-- The fields of unit `u` stand among its registers. -/
theorem isUnitReg_of_base {u : Nat} {f : Fld} (hs : f.s1 = 0x40) (hlo : 0x584000 ≤ f.base) (hhi : f.base < 0x584040) :
    isUnitReg u (f.addr u 0) := by
  simp only [isUnitReg, Fld.addr, hs]
  omega

/-! ### What the sample shows at its unit -/

section
variable {s : State} {u v : Nat} (hwf : s.wf = true) (hu : u < 64)

theorem histCfg_fits (hu : u < 64) {f : Fld} (h1 : f.n1 = 64) (h2 : f.n2 = 1) : f.fits u 0 = true := by
  simp [Fld.fits, h1, h2, hu]

include hwf hu

theorem frozen_shows (hfrozen : s.on CAL_HUu_CTRL.FREEZE u = true) :
    (s.histOne u v).rd CAL_HUu_MISSED.VALUE u = min (s.rd CAL_HUu_MISSED.VALUE u + 1) (2 ^ CAL_HUu_MISSED.VALUE.w - 1) ∧
    (s.histOne u v).rd CAL_HUu_MAX.VALUE u = s.rd CAL_HUu_MAX.VALUE u ∧
    ∀ i, (s.histOne u v).rd64 CAL_HUu_BINi_LO.COUNT u i = s.rd64 CAL_HUu_BINi_LO.COUNT u i := by
  rw [histOne_frozen v hfrozen, State.bump]
  refine ⟨(rd_wr_same hwf (by decide) (histCfg_fits hu rfl rfl)).trans (Nat.mod_eq_of_lt ?_), rd_wr_addr hwf ?_, fun i =>
    rd64_of_reg (reg_wr_other hwf ?_) (reg_wr_other hwf ?_)⟩
  · exact Nat.lt_of_le_of_lt (Nat.min_le_right ..) (Nat.sub_lt (Nat.two_pow_pos _) Nat.one_pos)
  all_goals
    simp only [Fld.addr, CAL_HUu_MISSED.VALUE, CAL_HUu_MAX.VALUE, CAL_HUu_BINi_LO.COUNT]
    omega

theorem histOne_shows (hrun : s.on CAL_HUu_CTRL.FREEZE u = false) :
    (s.histOne u v).rd CAL_HUu_MAX.VALUE u = max (s.rd CAL_HUu_MAX.VALUE u) (min v 0xFFFFFFFF) ∧
    (s.histOne u v).rd64 CAL_HUu_BINi_LO.COUNT u (s.binOf u v) =
      min (s.rd64 CAL_HUu_BINi_LO.COUNT u (s.binOf u v) + 1) (2 ^ 48 - 1) := by
  have hwfb : (s.binned u v).wf = true := wr64_wf hwf ..
  have hcount : SameUnit u (s.sampled u v) (s.histOne u v) := .of_counts hu (counts_histOne v hrun)
  have hmax : (s.binned u v).rd CAL_HUu_MAX.VALUE u = s.rd CAL_HUu_MAX.VALUE u := by
    refine rd_of_reg (reg_wr64_other hwf ?_ ?_)
    all_goals
      simp only [Fld.addr, CAL_HUu_MAX.VALUE, CAL_HUu_BINi_LO.COUNT]
      omega
  have hbin : (s.binned u v).rd64 CAL_HUu_BINi_LO.COUNT u (s.binOf u v) =
      satAdd 48 (s.rd64 CAL_HUu_BINi_LO.COUNT u (s.binOf u v)) 1 % 2 ^ 64 := rd64_wr64_same hwf (bin_fits hu (binOf_lt ..))
  constructor
  · rw [hcount.rd (wr_wf hwfb ..) (isUnitReg_of_base rfl (by decide) (by decide)), State.sampled,
      rd_wr_same hwfb (by decide) (histCfg_fits hu rfl rfl), hmax]
    have hlt := rd_lt s CAL_HUu_MAX.VALUE u 0
    simp only [CAL_HUu_MAX.VALUE] at hlt ⊢
    omega
  · have hkept : (s.sampled u v).rd64 CAL_HUu_BINi_LO.COUNT u (s.binOf u v) =
        (s.binned u v).rd64 CAL_HUu_BINi_LO.COUNT u (s.binOf u v) := by
      refine rd64_of_reg (reg_wr_other hwfb ?_) (reg_wr_other hwfb ?_)
      all_goals
        simp only [Fld.addr, CAL_HUu_MAX.VALUE, CAL_HUu_BINi_LO.COUNT]
        omega
    rw [hcount.bin (wr_wf hwfb ..) (binOf_lt ..), hkept, hbin, satAdd]
    omega

/-- A sample at a probe reaches the unit that watches it; what the other units do leaves its registers. -/
theorem exec_histogramSample {probe index : Nat} (hprobe : probe ≠ 0) (hat : s.rd CAL_HUu_CFG.PROBE u = probe)
    (hidx : s.on CAL_HUu_CFG.ANY u = true ∨ s.rd CAL_HUu_CFG.INDEX u = index) :
    ∃ w t, exec (.histogramSample probe index v) s = .next t ∧ SameUnit u s w ∧ SameUnit u (w.histOne u v) t := by
  have hother (x : Nat) (hx : x ≠ u) (w : State) : SameUnit u w
      (if w.rd CAL_HUu_CFG.PROBE x == probe && (w.on CAL_HUu_CFG.ANY x || w.rd CAL_HUu_CFG.INDEX x == index) then w.histOne x v
      else w) := by
    split
    · exact .histOne hu hx w v
    · exact .refl w
  obtain ⟨w, hw, ht⟩ := forEach_at (R := SameUnit u) (x := u) .refl .trans hother List.nodup_range (List.mem_range.2 hu) s
  refine ⟨w, _, if_neg hprobe, hw, ?_⟩
  have hcfg {f : Fld} (hb : f.base = 0x584000) (hs : f.s1 = 0x40) : isUnitReg u (f.addr u 0) :=
    isUnitReg_of_base hs (by omega) (by omega)
  have htakes : (w.rd CAL_HUu_CFG.PROBE u == probe && (w.on CAL_HUu_CFG.ANY u || w.rd CAL_HUu_CFG.INDEX u == index)) = true := by
    rw [hw.rd hwf (hcfg rfl rfl), hw.on hwf (hcfg rfl rfl), hw.rd hwf (hcfg rfl rfl), hat]
    simpa using hidx
  rwa [if_pos htakes] at ht

theorem histogramSample_frozen {probe index : Nat} (hprobe : probe ≠ 0) (hat : s.rd CAL_HUu_CFG.PROBE u = probe)
    (hidx : s.on CAL_HUu_CFG.ANY u = true ∨ s.rd CAL_HUu_CFG.INDEX u = index) (hfrozen : s.on CAL_HUu_CTRL.FREEZE u = true) :
    Does (.histogramSample probe index v) s (fun t => t.rd CAL_HUu_MAX.VALUE u = s.rd CAL_HUu_MAX.VALUE u ∧
      t.rd CAL_HUu_MISSED.VALUE u = min (s.rd CAL_HUu_MISSED.VALUE u + 1) (2 ^ CAL_HUu_MISSED.VALUE.w - 1) ∧
      ∀ i, i < 32 → t.rd64 CAL_HUu_BINi_LO.COUNT u i = s.rd64 CAL_HUu_BINi_LO.COUNT u i) := by
  obtain ⟨w, t, hexec, hw, ht⟩ := exec_histogramSample hwf hu hprobe hat hidx (v := v)
  have hreg {f : Fld} (hs : f.s1 = 0x40) (hlo : 0x584000 ≤ f.base) (hhi : f.base < 0x584040) := isUnitReg_of_base (u := u) hs hlo hhi
  have hwfw := hw.wf hwf
  obtain ⟨hmissed, hmax, hbins⟩ := frozen_shows (v := v) hwfw hu ((hw.on hwf (hreg rfl (by decide) (by decide))).trans hfrozen)
  have hwfh : (w.histOne u v).wf = true := by
    rw [histOne_frozen v ((hw.on hwf (hreg rfl (by decide) (by decide))).trans hfrozen)]
    exact wr_wf hwfw ..
  refine does_of_exec hexec ⟨?_, ?_, fun i hi => (ht.bin hwfh hi).trans ((hbins i).trans (hw.bin hwf hi))⟩
  · rw [ht.rd hwfh (hreg rfl (by decide) (by decide)), hmax, hw.rd hwf (hreg rfl (by decide) (by decide))]
  · rw [ht.rd hwfh (hreg rfl (by decide) (by decide)), hmissed, hw.rd hwf (hreg rfl (by decide) (by decide))]

theorem histogramSample_counts {probe index : Nat} (hprobe : probe ≠ 0) (hat : s.rd CAL_HUu_CFG.PROBE u = probe)
    (hidx : s.on CAL_HUu_CFG.ANY u = true ∨ s.rd CAL_HUu_CFG.INDEX u = index) (hrun : s.on CAL_HUu_CTRL.FREEZE u = false) :
    Does (.histogramSample probe index v) s (fun t =>
      t.rd CAL_HUu_MAX.VALUE u = max (s.rd CAL_HUu_MAX.VALUE u) (min v 0xFFFFFFFF) ∧
      t.rd64 CAL_HUu_BINi_LO.COUNT u (s.binOf u v) = min (s.rd64 CAL_HUu_BINi_LO.COUNT u (s.binOf u v) + 1) (2 ^ 48 - 1)) := by
  obtain ⟨w, t, hexec, hw, ht⟩ := exec_histogramSample hwf hu hprobe hat hidx (v := v)
  have hreg {f : Fld} (hs : f.s1 = 0x40) (hlo : 0x584000 ≤ f.base) (hhi : f.base < 0x584040) := isUnitReg_of_base (u := u) hs hlo hhi
  have hwfw := hw.wf hwf
  have hfree := (hw.on hwf (hreg rfl (by decide) (by decide))).trans hrun
  have hbin : w.binOf u v = s.binOf u v := by
    rw [State.binOf, hw.on hwf (hreg rfl (by decide) (by decide)), hw.rd hwf (hreg rfl (by decide) (by decide)), State.binOf]
  have hwfh : (w.histOne u v).wf = true := (counts_histOne v hfree).wf (wr_wf (wr64_wf hwfw ..) ..)
  obtain ⟨hmax, hcount⟩ := histOne_shows (v := v) hwfw hu hfree
  rw [hbin] at hcount
  refine does_of_exec hexec ⟨?_, ?_⟩
  · rw [ht.rd hwfh (hreg rfl (by decide) (by decide)), hmax, hw.rd hwf (hreg rfl (by decide) (by decide))]
  · rw [ht.bin hwfh (binOf_lt ..), hcount, hw.bin hwf (binOf_lt ..)]
end

/-! ## CLEAR (R440) -/

section
variable {s : State} {u : Nat} (hwf : s.wf = true) (hu : u < 64)

/-- The bins of unit `u` are zeroed. -/
def State.binsCleared (s : State) (u : Nat) : State := forEach (List.range 32) (fun i s => s.wr64 CAL_HUu_BINi_LO.COUNT 0 u i) s

theorem exec_histogramClear (hu : u < 64) : exec (.histogramClear u) s = .next ((s.binsCleared u).wr CAL_HUu_MAX.VALUE 0 u) :=
  if_pos hu

theorem binsCleared_wf (hwf : s.wf = true) : (s.binsCleared u).wf = true :=
  wf_forEach (fun _ _ h => wr64_wf h ..) hwf

include hu

theorem bin_binsCleared (hwf : s.wf = true) {i : Nat} (hi : i < 32) : (s.binsCleared u).rd64 CAL_HUu_BINi_LO.COUNT u i = 0 := by
  let R (a b : State) : Prop := a.wf = true → b.wf = true ∧ b.rd64 CAL_HUu_BINi_LO.COUNT u i = a.rd64 CAL_HUu_BINi_LO.COUNT u i
  have hother (x : Nat) (hx : x ≠ i) (w : State) : R w (w.wr64 CAL_HUu_BINi_LO.COUNT 0 u x) := fun h => by
    refine ⟨wr64_wf h .., rd64_of_reg (reg_wr64_other h ?_ ?_) (reg_wr64_other h ?_ ?_)⟩
    all_goals
      simp only [Fld.addr, CAL_HUu_BINi_LO.COUNT]
      omega
  obtain ⟨w, hw, ht⟩ := forEach_at (R := R) (x := i) (fun _ h => ⟨h, rfl⟩)
    (fun h1 h2 h => ⟨(h2 (h1 h).1).1, (h2 (h1 h).1).2.trans (h1 h).2⟩) hother List.nodup_range (List.mem_range.2 hi) s
  exact (ht (wr64_wf (hw hwf).1 ..)).2.trans (rd64_wr64_same (hw hwf).1 (bin_fits hu hi))

omit hu in
theorem reg_binsCleared (hu : u < 64) (hwf : s.wf = true) {a : Nat} (ha : a < 0x5A0000) : (s.binsCleared u).reg a = s.reg a := by
  let R (x y : State) : Prop := x.wf = true → y.wf = true ∧ y.reg a = x.reg a
  have hbin (i : Nat) (w : State) : R w (w.wr64 CAL_HUu_BINi_LO.COUNT 0 u i) := fun h => by
    refine ⟨wr64_wf h .., reg_wr64_other h ?_ ?_⟩
    all_goals
      simp only [Fld.addr, CAL_HUu_BINi_LO.COUNT]
      omega
  exact (forEach_rel (R := R) (fun _ h => ⟨h, rfl⟩) (fun h1 h2 h => ⟨(h2 (h1 h).1).1, (h2 (h1 h).1).2.trans (h1 h).2⟩)
    (fun i _ => hbin i) s hwf).2

/-- A clear leaves the fields of the units apart from MAX. -/
theorem rd_cleared (hwf : s.wf = true) {f : Fld} (hs : f.s1 = 0x40) (hlo : 0x584000 ≤ f.base) (hhi : f.base < 0x584040)
    (hne : f.base ≠ CAL_HUu_MAX.VALUE.base) : ((s.binsCleared u).wr CAL_HUu_MAX.VALUE 0 u).rd f u = s.rd f u := by
  have haddr : f.addr u 0 ≠ CAL_HUu_MAX.VALUE.addr u 0 := by
    simp only [Fld.addr, hs, CAL_HUu_MAX.VALUE] at hne ⊢
    omega
  rw [rd_wr_addr (binsCleared_wf hwf) haddr]
  exact rd_of_reg (reg_binsCleared hu hwf (by simp only [Fld.addr, hs]; omega))

theorem cleared_shows (hwf : s.wf = true) :
    (∀ i, i < 32 → ((s.binsCleared u).wr CAL_HUu_MAX.VALUE 0 u).rd64 CAL_HUu_BINi_LO.COUNT u i = 0) ∧
    ((s.binsCleared u).wr CAL_HUu_MAX.VALUE 0 u).rd CAL_HUu_MAX.VALUE u = 0 := by
  have hwfb : (s.binsCleared u).wf = true := binsCleared_wf hwf
  refine ⟨fun i hi => ?_, rd_wr_same hwfb (by decide) (histCfg_fits hu rfl rfl)⟩
  rw [← bin_binsCleared hu hwf hi]
  refine rd64_of_reg (reg_wr_other hwfb ?_) (reg_wr_other hwfb ?_)
  all_goals
    simp only [Fld.addr, CAL_HUu_BINi_LO.COUNT, CAL_HUu_MAX.VALUE]
    omega
end

/-! ## The obligations -/

/-- Settles O18: each wrap is one addition to the counter, and what the other units, the counts and the events write stands outside the
registers of the unit in question. -/
theorem calipersCommands : Obligations.CalipersCommands := by
  unfold Obligations.CalipersCommands
  refine ⟨?wrap, ?wrapTold, ?sample, ?clear, ?frozen, ?counted⟩
  case wrap =>
    exact fun s e hwf he hcyc hfull hchain hquiet =>
      does_of_exec (exec_counterWrap he hcyc hfull) (cnt_calAdd_wraps he hfull hwf hchain hquiet)
  case wrapTold =>
    exact fun s e hwf he hcyc hfull hchain htell =>
      does_of_exec (exec_counterWrap he hcyc hfull) ⟨rfl, calAdd_wraps_told he hfull hwf hchain htell⟩
  case sample => exact fun s j agent hj hon hfed hcyc hdue => does_of_exec (exec_calSamplePeriod hj hon hfed hcyc hdue) rfl
  case clear =>
    intro s u i hwf hu hi
    obtain ⟨hbins, hmax⟩ := cleared_shows hu hwf
    exact does_of_exec (exec_histogramClear hu) ⟨hbins i hi, hmax⟩
  case frozen =>
    intro s u probe index v hwf hu hprobe hat hidx hfrozen
    obtain ⟨t, hexec, -, hmissed, hbins⟩ := histogramSample_frozen (v := v) hwf hu hprobe hat hidx hfrozen
    exact does_of_exec hexec ⟨hmissed, hbins⟩
  case counted => exact fun s u probe index v hwf hu hprobe hat hidx hrun => histogramSample_counts hwf hu hprobe hat hidx hrun

/-- Settles O59: a clear leaves the configuration of the unit, so that the sample that follows finds it and counts from 0. -/
theorem histogramClearAndFreeze : Obligations.HistogramClearAndFreeze := by
  unfold Obligations.HistogramClearAndFreeze
  refine ⟨?clear, fun s u probe index v hwf hu hprobe hat hidx hfrozen => histogramSample_frozen hwf hu hprobe hat hidx hfrozen⟩
  case clear =>
    intro s u probe index v hwf hu hprobe hat hidx
    obtain ⟨hbins, hmax⟩ := cleared_shows hu hwf
    have hrd {f : Fld} (hs : f.s1 = 0x40) (hlo : 0x584000 ≤ f.base) (hhi : f.base < 0x584040) (hne : f.base ≠ CAL_HUu_MAX.VALUE.base) :=
      rd_cleared hu hwf hs hlo hhi hne
    refine does_of_exec (exec_histogramClear hu) ⟨hbins, hmax, hrd rfl (by decide) (by decide) (by decide), fun hrun => ?_⟩
    have hbin : ((s.binsCleared u).wr CAL_HUu_MAX.VALUE 0 u).binOf u v = s.binOf u v := by
      rw [State.binOf, on_of_rd (hrd rfl (by decide) (by decide) (by decide)), hrd rfl (by decide) (by decide) (by decide), State.binOf]
    obtain ⟨w, hexec, hwmax, hwbin⟩ := histogramSample_counts (v := v) (wr_wf (binsCleared_wf hwf) ..) hu hprobe
      ((hrd rfl (by decide) (by decide) (by decide)).trans hat)
      (by rwa [on_of_rd (hrd rfl (by decide) (by decide) (by decide)), hrd rfl (by decide) (by decide) (by decide)])
      ((on_of_rd (hrd rfl (by decide) (by decide) (by decide))).trans hrun)
    rw [hbin, hbins _ (binOf_lt ..)] at hwbin
    rw [hmax] at hwmax
    exact does_of_exec hexec ⟨hwbin, by omega⟩

end Sys2Proof.Machine

/-!
The event unit: the release of a record, the end of a rate-limit window, the slots of the journal, and the pulse of EVT_OUT.
-/
namespace Sys2Proof.Machine

/-! ## The first record in the order of R68 -/

/-- The key of that order. -/
def EvRec.comes (a b : EvRec) : Prop :=
  a.steps < b.steps ∨ (a.steps = b.steps ∧ (a.gtc < b.gtc ∨ (a.gtc = b.gtc ∧ a.src < b.src)))

theorem before_iff (a b : EvRec) : a.before b = true ↔ a.comes b := by
  simp [EvRec.before, EvRec.comes]

theorem not_before_trans {a b c : EvRec} (hab : a.before b = false) (hbc : b.before c = false) : a.before c = false := by
  rw [Bool.eq_false_iff, ne_eq, before_iff, EvRec.comes] at hab hbc ⊢
  omega

theorem not_before_of_before {a b : EvRec} (h : a.before b = true) : b.before a = false := by
  rw [before_iff, EvRec.comes] at h
  rw [Bool.eq_false_iff, ne_eq, before_iff, EvRec.comes]
  omega

theorem not_before_self (a : EvRec) : a.before a = false := by
  rw [Bool.eq_false_iff, ne_eq, before_iff, EvRec.comes]
  omega

/-- No record of the list comes before the first. -/
theorem not_before_firstRec {l rest : List EvRec} {r : EvRec} (h : firstRec l = some (r, rest)) : ∀ x ∈ l, x.before r = false := by
  induction l generalizing r rest with
  | nil => simp [firstRec] at h
  | cons y l ih =>
    rw [firstRec] at h
    cases hl : firstRec l with
    | none =>
      have hnil : l = [] := by
        cases l with
        | nil => rfl
        | cons z t =>
          rw [firstRec] at hl
          split at hl
          · simp at hl
          · split at hl <;> simp at hl
      simp only [hl, Option.some.injEq, Prod.mk.injEq] at h
      obtain ⟨rfl, -⟩ := h
      simpa [hnil] using not_before_self y
    | some p =>
      obtain ⟨m, tail⟩ := p
      have hmin := ih hl
      simp only [hl] at h
      by_cases hm : m.before y = true
      · simp only [hm, if_true, Option.some.injEq, Prod.mk.injEq] at h
        obtain ⟨rfl, -⟩ := h
        simpa [not_before_of_before hm] using hmin
      · simp only [hm, Option.some.injEq, Prod.mk.injEq, Bool.false_eq_true, if_false] at h
        obtain ⟨rfl, -⟩ := h
        rw [Bool.not_eq_true] at hm
        simpa [not_before_self] using fun x hx => not_before_trans (hmin x hx) hm

/-! ## Release and windows (R447, R448) -/

theorem evt_advanceTo (s : State) (t : Nat) : (s.advanceTo t).evt = s.evt := (State.advanceTo_keep ..).parts .evt rfl

/-- The first record ends its hold. -/
def State.unheld (s : State) (r : EvRec) (rest : List EvRec) : State :=
  { s.advanceTo (r.tick + 2000) with evt := { s.evt with held := rest } }

theorem le_tick_release (s : State) (r : EvRec) (rest : List EvRec) : r.tick + 2000 ≤ ((s.unheld r rest).release r).tick :=
  calc r.tick + 2000 ≤ (s.advanceTo (r.tick + 2000)).tick := advanceTo_le_tick ..
    _ ≤ ((s.unheld r rest).release r).tick := (State.release_keep (s.unheld r rest) r).tick

theorem exec_eventRelease {s : State} {r : EvRec} {rest : List EvRec} (h : firstRec s.evt.held = some (r, rest)) :
    exec .eventRelease s = .next ((s.unheld r rest).release r) := by
  change execEventRelease s = _
  simp only [execEventRelease, h, evt_advanceTo]
  rfl

section
variable {s : State} {src inst : Nat} {w : RateWin} (hwin : s.evt.wins.find? (fun w => w.src == src && w.inst == inst) = some w)

/-- The windows that stay open when the one of a source and its key ends. -/
def State.otherWins (s : State) (src inst : Nat) : List RateWin := s.evt.wins.filter (fun v => !(v.src == src && v.inst == inst))

theorem find_otherWins (s : State) (src inst : Nat) : (s.otherWins src inst).find? (fun w => w.src == src && w.inst == inst) = none := by
  rw [List.find?_eq_none]
  intro x hx
  exact Bool.not_eq_true _ ▸ Bool.not_eq_true' _ ▸ (List.mem_filter.1 hx).2

/-- The summary record of a window that ends. -/
def State.summaryRec (s : State) (src : Nat) (w : RateWin) : EvRec := { s.mkRec src w.last none with summary := true, suppressed := w.count }

/-- The window that a summary record opens. -/
def State.nextWin (s : State) (src inst : Nat) (w : RateWin) : RateWin := { src := src, inst := inst, endTick := s.tick + rateTicks, last := w.last }

/-- The window is over and its summary is held, with a new window. -/
def State.windowOver (s : State) (src inst : Nat) (w : RateWin) : State :=
  State.holdRec { s.advanceTo w.endTick with
    evt := { s.evt with wins := s.otherWins src inst ++ [(s.advanceTo w.endTick).nextWin src inst w] } }
    ((s.advanceTo w.endTick).summaryRec src w)

theorem windowOver_shows (s : State) (src inst : Nat) (w : RateWin) : w.endTick ≤ (s.windowOver src inst w).tick ∧
    (s.windowOver src inst w).evt.wins.find? (fun w => w.src == src && w.inst == inst) =
      some { src := src, inst := inst, endTick := (s.windowOver src inst w).tick + 100000000, count := 0, last := w.last } ∧
    ∃ r, (s.windowOver src inst w).evt.held = s.evt.held ++ [r] ∧ r.src = src ∧ r.summary = true ∧ r.suppressed = w.count ∧
      r.items = w.last := by
  have htick : (s.windowOver src inst w).tick = (s.advanceTo w.endTick).tick := (State.holdRec_keep ..).parts .tick rfl
  refine ⟨(advanceTo_le_tick ..).trans_eq htick.symm, ?_, (s.advanceTo w.endTick).summaryRec src w, rfl, rfl, rfl, rfl, rfl⟩
  have hwins : (s.windowOver src inst w).evt.wins = s.otherWins src inst ++ [(s.advanceTo w.endTick).nextWin src inst w] := rfl
  rw [hwins, List.find?_append, find_otherWins, htick]
  simp [State.nextWin, rateTicks]

include hwin

theorem exec_rateLimitWindowEnd_idle (hidle : w.count = 0) : exec (.rateLimitWindowEnd src inst) s =
    .next { s.advanceTo w.endTick with evt := { s.evt with wins := s.otherWins src inst } } := by
  change execRateLimitWindowEnd src inst s = _
  simp only [execRateLimitWindowEnd, hwin, hidle, if_true, evt_advanceTo]
  rfl

theorem exec_rateLimitWindowEnd (hcount : w.count ≠ 0) :
    exec (.rateLimitWindowEnd src inst) s = .next (s.windowOver src inst w) := by
  change execRateLimitWindowEnd src inst s = _
  simp only [execRateLimitWindowEnd, hwin, hcount, if_false, evt_advanceTo]
  rfl
end

/-! ## What a count and an event leave of the journal's queue -/

/-- The queue of the journal and its slot in progress are the same. -/
def SameQueue (s t : State) : Prop := t.evt.jq = s.evt.jq ∧ t.evt.jwriting = s.evt.jwriting

theorem SameQueue.refl (s : State) : SameQueue s s := ⟨rfl, rfl⟩

theorem SameQueue.trans {s t u : State} (h1 : SameQueue s t) (h2 : SameQueue t u) : SameQueue s u :=
  ⟨h2.1.trans h1.1, h2.2.trans h1.2⟩

theorem SameQueue.ite {s t u : State} {c : Prop} [Decidable c] (ht : SameQueue s t) (hu : SameQueue s u) :
    SameQueue s (if c then t else u) := by
  split
  · exact ht
  · exact hu

theorem SameQueue.forEach {α : Type} {l : List α} {f : α → State → State} (h : ∀ x u, SameQueue u (f x u)) (s : State) :
    SameQueue s (forEach l f s) := by
  induction l generalizing s with
  | nil => exact .refl s
  | cons x l ih => exact (h x s).trans (ih (f x s))

theorem SameQueue.of_keep {m : Nat} {s t : State} (k : Keep m s t) (hm : m.testBit 34 = false) : SameQueue s t := by
  have h := k.parts .evt hm
  exact ⟨by rw [h], by rw [h]⟩

theorem SameQueue.raise (s : State) (src : Nat) (items : List Item) (grain at_ : Option Nat) :
    SameQueue s (s.raise src items grain at_) := by
  rcases raise_evt_cases s src items grain at_ with ⟨r, -, h⟩ | ⟨r, w, -, -, h⟩ | ⟨v, key, -, -, -, h⟩
  all_goals
    rw [SameQueue, h]
    exact ⟨rfl, rfl⟩

theorem SameQueue.calAdd (s : State) (e n : Nat) : SameQueue s (s.calAdd e n) := by
  have hbump : SameQueue s (s.calBump 1536 e n).1 := .of_keep (State.calBump_keep ..) rfl
  unfold State.calAdd
  generalize s.calBump 1536 e n = p at hbump ⊢
  exact hbump.trans (.forEach (fun _ u => .raise u _ _ _ _) p.1)

theorem SameQueue.calFilteredOne (s : State) (j n : Nat) (agent : Option Nat) : SameQueue s (s.calFilteredOne j n agent) := by
  have hset (v : Nat) : SameQueue s (s.wr64 CAL_CNTe_LO.COUNT v (1408 + j)) := .of_keep (.wr64 .cal (.refl 0x100000 s) rfl rfl) rfl
  unfold State.calFilteredOne
  refine .ite (.refl s) (.ite ?_ (.calAdd s _ _))
  extract_lets v u
  refine .ite (hset v) (.trans (t := u) (.trans (hset 0) (.calAdd _ _ _)) ?_)
  split
  · exact .of_keep (State.out_keep ..) rfl
  · exact .raise u _ _ _ _

theorem SameQueue.cal (s : State) (e n : Nat) (a : CalAttr) : SameQueue s (s.cal e n a) :=
  .trans (.ite (.refl s) (.calAdd s _ _)) (.forEach (fun j u => .calFilteredOne u j n a.agent) _)

/-! ## The slots of the journal (R453) -/

/-- The slot of the record in progress is complete. -/
def State.slotWritten (s : State) (r : EvRec) : State :=
  (s.advanceTo (s.evt.jstart + 540)).mramWrite (64 * (s.jseq % 16384)) (r.bytes s.jseq)

/-- And JSEQ is the next. -/
def State.slotStored (s : State) (r : EvRec) : State := (s.slotWritten r).wr64 EVT_JSEQ_LO.JSEQ ((s.jseq + 1) % 2 ^ 48)

/-- It is counted, and its record leaves the queue. -/
def State.slotCounted (s : State) (r : EvRec) (rest : List EvRec) : State :=
  let u := ((s.slotStored r).count EVT_cnt_LO.COUNT 1).cal 96
  { u with evt := { u.evt with jq := rest, jwriting := false } }

/-- A journal that begins anew is told. -/
def State.slotDone (s : State) (r : EvRec) (rest : List EvRec) : State :=
  if s.jseq % 16384 = 0 && s.jseq != 0 then (s.slotCounted r rest).raise 5 [i64 s.jseq] else s.slotCounted r rest

theorem jseq_advanceTo (s : State) (t : Nat) : (s.advanceTo t).jseq = s.jseq := by
  rw [State.jseq, State.rd64, State.reg, State.reg, advanceTo_regs]
  rfl

theorem exec_journalSlotWritten {s : State} {r : EvRec} {rest : List EvRec} (hwriting : s.evt.jwriting = true) (hq : s.evt.jq = r :: rest) :
    exec .journalSlotWritten s = .next (s.slotDone r rest).startJournal := by
  change execJournalSlotWritten s = _
  simp only [execJournalSlotWritten, hwriting, hq, jseq_advanceTo]
  rfl

theorem length_bytes (r : EvRec) (j : Nat) : (r.bytes j).length = 64 := by
  simp [EvRec.bytes, EvRec.bytesWith, length_leBytes]

theorem mramRead_mramWrite {s : State} (hwf : s.wf = true) (a : Nat) {b : List Byte} {n : Nat} (hn : b.length = n) :
    (s.mramWrite a b).mramRead a n = b := by
  subst hn
  exact memRead_memWrite (State.wf_iff.1 hwf).2.2.2.1 a b

theorem slotWritten_keep (s : State) (r : EvRec) : Keep 0x8000004800000000 s (s.slotWritten r) :=
  (State.mramWrite_keep ..).step ((State.advanceTo_keep ..).step (.refl _ s) rfl) rfl

theorem slotStored_writes (s : State) (r : EvRec) : Keep 4 (s.slotWritten r) (s.slotStored r) := .wr64 .evt (.refl _ _) rfl rfl

theorem slotStored_keep (s : State) (r : EvRec) : Keep 0x8000004800000004 s (s.slotStored r) :=
  (slotStored_writes s r).step ((slotWritten_keep s r).mono rfl) rfl

section
variable (s : State) (r : EvRec) (rest : List EvRec)

/-- From the stored slot on, the end of a slot counts and may raise. -/
theorem slotDone_keep : Keep 0x400100004 (s.slotStored r) (s.slotDone r rest) := by
  have hcount : Keep 0x400100004 (s.slotStored r) (((s.slotStored r).count EVT_cnt_LO.COUNT 1).cal 96) :=
    (cal_none_keep ..).step (.count .evt (.refl _ _) rfl rfl) rfl
  have hq : Keep 0x400100004 (s.slotStored r) (s.slotCounted r rest) := hcount.evt _ rfl
  exact .ite ((State.raise_keep ..).step hq rfl) hq

theorem counts_slotDone : CountsOnly (s.slotStored r) (s.slotDone r rest) := by
  have hq : CountsOnly (s.slotStored r) (s.slotCounted r rest) :=
    ((CountsOnly.evtCount _ 1).trans (CountsOnly.cal _ 96 1 {})).trans (.evt _ _)
  exact .ite (hq.trans (.raise ..)) hq

theorem queue_slotDone : (s.slotDone r rest).evt.jq = rest ∧ (s.slotDone r rest).evt.jwriting = false :=
  SameQueue.ite (s := s.slotCounted r rest) (.raise ..) (.refl _)

theorem tick_slotDone : s.evt.jstart + 540 ≤ (s.slotDone r rest).tick :=
  calc s.evt.jstart + 540 ≤ (s.advanceTo (s.evt.jstart + 540)).tick := advanceTo_le_tick ..
    _ = (s.slotWritten r).tick := ((State.mramWrite_keep ..).parts .tick rfl).symm
    _ ≤ (s.slotStored r).tick := (slotStored_writes s r).tick
    _ ≤ (s.slotDone r rest).tick := (slotDone_keep s r rest).tick

variable {s} (hwf : s.wf = true)
include hwf

theorem slotDone_wf : (s.slotDone r rest).wf = true := (slotDone_keep s r rest).wf ((slotStored_keep s r).wf hwf)

theorem jseq_slotDone : (s.slotDone r rest).rd64 EVT_JSEQ_LO.JSEQ = (s.jseq + 1) % 2 ^ 48 := by
  have hwfs := (slotStored_keep s r).wf hwf
  have hstored : (s.slotStored r).rd64 EVT_JSEQ_LO.JSEQ = (s.jseq + 1) % 2 ^ 48 % 2 ^ 64 :=
    rd64_wr64_same ((slotWritten_keep s r).wf hwf) rfl
  rw [rd64_of_reg ((counts_slotDone s r rest).reg hwfs _ (by unfold isCounted; decide))
    ((counts_slotDone s r rest).reg hwfs _ (by unfold isCounted; decide)), hstored]
  omega

/-- The slot holds the record. -/
theorem mramRead_slotDone : (s.slotDone r rest).mramRead (64 * (s.jseq % 16384)) 64 = r.bytes s.jseq := by
  rw [State.mramRead, (slotDone_keep s r rest).parts .mram rfl, (slotStored_writes s r).parts .mram rfl]
  exact mramRead_mramWrite ((State.advanceTo_keep ..).wf hwf) _ (length_bytes r s.jseq)
end

theorem nvRefused_slotDone {s : State} (hwf : s.wf = true) (r : EvRec) (rest : List EvRec) :
    (s.slotDone r rest).on PWR_STATUS.NV_REFUSED = s.on PWR_STATUS.NV_REFUSED :=
  on_of_rd (((slotDone_keep s r rest).rdIn .pwr ((slotStored_keep s r).wf hwf) rfl rfl rfl).trans
    ((slotStored_keep s r).rdIn .pwr hwf rfl rfl rfl))

/-! ### The next slot -/

theorem jseq_showJournal {s : State} (hwf : s.wf = true) : s.showJournal.rd64 EVT_JSEQ_LO.JSEQ = s.rd64 EVT_JSEQ_LO.JSEQ :=
  rd64_of_reg ((reg_wr_other (wr_wf hwf ..) (by decide)).trans (reg_wr_other hwf (by decide)))
    ((reg_wr_other (wr_wf hwf ..) (by decide)).trans (reg_wr_other hwf (by decide)))

theorem startJournal_empty {s : State} (hq : s.evt.jq = []) : s.startJournal = s.showJournal := if_pos (by simp [hq])

/-- The slot of the next record is begun. -/
def State.slotBegun (s : State) : State :=
  let u := s.mramWrite (64 * (s.jseq % 16384)) (leBytes 8 (2 ^ 64 - 1))
  { u with evt := { u.evt with jwriting := true, jstart := u.tick } }

theorem startJournal_next {s : State} (hq : s.evt.jq ≠ []) (hidle : s.evt.jwriting = false) (hnv : s.on PWR_STATUS.NV_REFUSED = false) :
    s.startJournal = s.slotBegun.showJournal := if_neg (by simp [hq, hidle, hnv])

theorem slotBegun_wf {s : State} (hwf : s.wf = true) : s.slotBegun.wf = true :=
  (Keep.evt (State.mramWrite_keep s (64 * (s.jseq % 16384)) (leBytes 8 (2 ^ 64 - 1)) |>.mono (m' := 0x4400000000) rfl) _ rfl).wf hwf

theorem slotBegun_shows (s : State) : s.slotBegun.tick = s.tick ∧ s.slotBegun.rd64 EVT_JSEQ_LO.JSEQ = s.rd64 EVT_JSEQ_LO.JSEQ ∧
    s.slotBegun.evt.jq = s.evt.jq ∧ s.slotBegun.evt.jwriting = true := ⟨rfl, rfl, rfl, rfl⟩

/-- Reading bytes apart from those written finds them as they were. -/
theorem memRead_memWrite_apart {d : Nat → Byte} {m : Tab Byte} (h : cellsWf d m = true) (a : Nat) (b : List Byte) (n : Nat) {k : Nat}
    (hk : k + n ≤ a ∨ a + b.length ≤ k) : memRead d (memWrite d m a b) k n = memRead d m k n := by
  induction n generalizing k with
  | zero => rfl
  | succ n ih => rw [memRead, memRead, ih (by omega), memWrite_other h a b (by omega)]

/-- The slot before is another one. -/
theorem mramRead_slotBegun {s : State} (hwf : s.wf = true) {j : Nat} (hj : s.rd64 EVT_JSEQ_LO.JSEQ = (j + 1) % 2 ^ 48) :
    s.slotBegun.mramRead (64 * (j % 16384)) 64 = s.mramRead (64 * (j % 16384)) 64 := by
  have hslot : s.jseq % 16384 = (j + 1) % 16384 := by
    rw [State.jseq, hj]
    omega
  refine memRead_memWrite_apart (State.wf_iff.1 hwf).2.2.2.1 _ _ _ ?_
  rw [length_leBytes]
  omega

theorem showJournal_shows {s : State} (hwf : s.wf = true) : s.showJournal.rd64 EVT_JSEQ_LO.JSEQ = s.rd64 EVT_JSEQ_LO.JSEQ ∧
    s.showJournal.evt = s.evt ∧ s.showJournal.mram = s.mram ∧ s.showJournal.tick = s.tick :=
  have k := State.showJournal_keep s
  ⟨jseq_showJournal hwf, k.parts .evt rfl, k.parts .mram rfl, k.parts .tick rfl⟩

/-! ## The obligation -/

/-- At its end the pulse is over, whatever stands pending. -/
theorem evtOut_pulseEnd {s : State} (hmode : s.on EVT_CFG.OUT_MODE = true) :
    ((s.advanceTo s.evt.outPulseEnd).showEvtOut).pins.evtOut = false := by
  have hon : (s.advanceTo s.evt.outPulseEnd).on EVT_CFG.OUT_MODE = true := (on_of_rd (rd_advanceTo ..)).trans hmode
  have hlate := advanceTo_le_tick s s.evt.outPulseEnd
  simp [State.showEvtOut, hon, evt_advanceTo, hlate]

/-- Settles O17: counting and raising leave JSEQ and the queue alone, and the slot that is begun next is another one. -/
theorem eventCommands : Obligations.EventCommands := by
  unfold Obligations.EventCommands
  refine ⟨?release, ?windowIdle, ?windowEnd, ?slotNext, ?slotLast, ?pulse⟩
  case release =>
    intro s r rest h
    exact does_of_exec (exec_eventRelease h)
      ⟨le_tick_release s r rest, not_before_firstRec h, rfl⟩
  case windowIdle =>
    intro s src inst w hwin hidle
    refine does_of_exec (exec_rateLimitWindowEnd_idle hwin hidle) ⟨advanceTo_le_tick .., rfl, find_otherWins ..⟩
  case windowEnd =>
    intro s src inst w hwin hcount
    exact does_of_exec (exec_rateLimitWindowEnd hwin hcount) (windowOver_shows s src inst w)
  case slotNext =>
    intro s r rest hwf hwriting hq hrest hnv
    have hwfd := slotDone_wf r rest hwf
    obtain ⟨hjq, hidle⟩ := queue_slotDone s r rest
    obtain ⟨hseq, hevt, hmram, htick⟩ := showJournal_shows (slotBegun_wf hwfd)
    refine does_of_exec (exec_journalSlotWritten hwriting hq) ?_
    have hon := (nvRefused_slotDone hwf r rest).trans hnv
    have hne : (s.slotDone r rest).evt.jq ≠ [] := by rwa [hjq]
    rw [startJournal_next hne hidle hon]
    obtain ⟨hbtick, hbseq, hbq, hbwriting⟩ := slotBegun_shows (s.slotDone r rest)
    refine ⟨(tick_slotDone s r rest).trans_eq (htick.trans hbtick).symm, (hseq.trans hbseq).trans (jseq_slotDone r rest hwf), ?_, ?_, ?_⟩
    · rw [hevt, hbq, hjq]
    · rw [hevt, hbwriting]
    · rw [State.mramRead, hmram]
      exact (mramRead_slotBegun hwfd (jseq_slotDone r rest hwf)).trans (mramRead_slotDone r rest hwf)
  case slotLast =>
    intro s r hwf hwriting hq
    have hwfd := slotDone_wf r [] hwf
    obtain ⟨hjq, hidle⟩ := queue_slotDone s r []
    obtain ⟨hseq, hevt, hmram, htick⟩ := showJournal_shows hwfd
    refine does_of_exec (exec_journalSlotWritten hwriting hq) ?_
    rw [startJournal_empty hjq]
    refine ⟨(tick_slotDone s r []).trans_eq htick.symm, hseq.trans (jseq_slotDone r [] hwf), ?_, ?_, ?_⟩
    · rw [hevt, hjq]
    · rw [hevt, hidle]
    · rw [State.mramRead, hmram]
      exact mramRead_slotDone r [] hwf
  case pulse =>
    intro s hmode
    exact does_of_exec rfl ⟨(advanceTo_le_tick ..), evtOut_pulseEnd hmode⟩

end Sys2Proof.Machine

/-!
The entry to Standby and its ends: the holds, the wait for drives, and the wake sources.
-/
namespace Sys2Proof.Machine

theorem tick_advanceTo (s : State) (t : Nat) : (s.advanceTo t).tick = max t s.tick := by
  unfold State.advanceTo
  split
  · omega
  · change s.tick + (t - s.tick) = _
    omega

theorem pins_advanceTo (s : State) (t : Nat) : (s.advanceTo t).pins = s.pins := (State.advanceTo_keep ..).parts .pins rfl

theorem rec_advanceTo (s : State) (t : Nat) : (s.advanceTo t).rec_ = s.rec_ := (State.advanceTo_keep ..).parts .recd rfl

/-! ## The holds (R471) -/

section
variable {s : State}

/-- The hold of the pin, or of SOFT, is asserted. -/
def State.holdAsserted (s : State) (soft : Bool) : State :=
  if soft then s.wr PWR_STBY.SOFT 1 else State.wr { s with pins := { s.pins with stbyReqN := false } } PWR_STATUS.STBY_PIN 1

/-- The pin is released. -/
def State.pinReleased (s : State) : State := ({ s with pins := { s.pins with stbyReqN := true } }).wr PWR_STATUS.STBY_PIN 0

theorem exec_standbyHoldAssert (s : State) (soft : Bool) : exec (.standbyHoldAssert soft) s = .next (s.holdAsserted soft).standbyCheck := rfl

theorem exec_standbyHoldRelease (s : State) : exec .standbyHoldRelease s = .next s.pinReleased.wakeCheck := rfl

variable (hwf : s.wf = true)
include hwf

theorem held_holdAsserted (soft : Bool) : (s.holdAsserted soft).held = true := by
  have hpin (u : State) (hu : u.wf = true) : (u.wr PWR_STATUS.STBY_PIN 1).on PWR_STATUS.STBY_PIN = true := on_wr_same hu (by decide) rfl rfl true
  have hsoft : (s.wr PWR_STBY.SOFT 1).on PWR_STBY.SOFT = true := on_wr_same hwf (by decide) rfl rfl true
  cases soft
  case false => exact Bool.or_eq_true_iff.2 (.inl (hpin { s with pins := { s.pins with stbyReqN := false } } hwf))
  case true => exact Bool.or_eq_true_iff.2 (.inr hsoft)

theorem pstate_holdAsserted (soft : Bool) : (s.holdAsserted soft).pstate = s.pstate := by
  have hpin (u : State) (hu : u.wf = true) : (u.wr PWR_STATUS.STBY_PIN 1).pstate = u.pstate :=
    rd_wr_bits (f := PWR_STATUS.STBY_PIN) (g := PWR_STATUS.PSTATE) hu (by decide) (.inr (by decide))
  have hsoft : (s.wr PWR_STBY.SOFT 1).rd PWR_STATUS.PSTATE = s.rd PWR_STATUS.PSTATE := rd_wr_addr hwf (by decide)
  cases soft
  case false => exact hpin { s with pins := { s.pins with stbyReqN := false } } hwf
  case true => exact hsoft

omit hwf in
theorem phase_holdAsserted (s : State) (soft : Bool) : (s.holdAsserted soft).boot.phase = s.boot.phase := by
  cases soft <;> rfl

theorem released_shows : s.pinReleased.on PWR_STATUS.STBY_PIN = false ∧ s.pinReleased.pstate = s.pstate ∧
    s.pinReleased.on PWR_STBY.SOFT = s.on PWR_STBY.SOFT := by
  have hu : State.wf { s with pins := { s.pins with stbyReqN := true } } = true := hwf
  exact ⟨on_wr_same hu (by decide) rfl rfl false, rd_wr_bits (f := PWR_STATUS.STBY_PIN) (g := PWR_STATUS.PSTATE) hu (by decide) (.inr (by decide)),
    on_of_rd (rd_wr_addr hu (by decide))⟩

end

/-- A held device that runs enters. -/
theorem standbyCheck_enters {s : State} (hheld : s.held = true) (hrun : s.pstate = 0) (hphase : s.boot.phase = 4) :
    s.standbyCheck = s.standbyBegin.standbyGo := if_pos (by simp [hheld, hrun, hphase])

theorem standbyCheck_stays {s : State} (hrun : s.pstate ≠ 0) : s.standbyCheck = s := if_neg (by simp [hrun])

theorem wakeCheck_wakes {s : State} (hst : s.pstate = 2) (hfree : s.held = false) : s.wakeCheck = s.wake := if_pos (by simp [hst, hfree])

theorem wakeCheck_stays {s : State} (hst : s.pstate ≠ 2) : s.wakeCheck = s := if_neg (by simp [hst])

theorem held_iff {s : State} : s.held = false ↔ s.on PWR_STATUS.STBY_PIN = false ∧ s.on PWR_STBY.SOFT = false := Bool.or_eq_false_iff

/-! ## The wait for drives (R472) -/

/-- The drives that are still waited for. -/
def State.lateDrives (s : State) : List Nat := [0, 1, 2, 3].filter (fun d => s.sstate d == 4 || s.sstate d == 5)

/-- What is still outstanding at them is abandoned. -/
def State.lateAbandoned (s : State) (l : List Nat) : State :=
  forEach l (fun d s => ((s.powerOffSlot d).setSstate d 1).abandon d true) s

theorem lateDrives_eq_nil {s : State} (h : s.drivesWaited = false) : s.lateDrives = [] := by
  rw [State.lateDrives, List.filter_eq_nil_iff]
  simpa [State.drivesWaited] using h

theorem lateDrives_ne_nil {s : State} (h : s.drivesWaited = true) : s.lateDrives ≠ [] := by
  obtain ⟨d, hd, hup⟩ := List.any_eq_true.1 h
  exact List.ne_nil_of_mem (List.mem_filter.2 ⟨hd, hup⟩)

section
variable {s : State} (hst : s.pstate = 1) (hdrain : s.pwr.draining = true)
include hst hdrain

theorem exec_standbyDriveWaitDone : exec .standbyDriveWaitDone s =
    .next (((if s.lateDrives.isEmpty then s else s.advanceTo (s.pwr.from_ + 70000000)).lateAbandoned s.lateDrives).stgSettle.standbyGo) :=
  if_neg (by simp [hst, hdrain])

theorem exec_standbyDriveWaitDone_none (hnone : s.drivesWaited = false) :
    exec .standbyDriveWaitDone s = .next s.stgSettle.standbyGo := by
  rw [exec_standbyDriveWaitDone hst hdrain, lateDrives_eq_nil hnone]
  rfl

theorem exec_standbyDriveWaitDone_late (hlate : s.drivesWaited = true) : exec .standbyDriveWaitDone s =
    .next (((s.advanceTo (s.pwr.from_ + 70000000)).lateAbandoned s.lateDrives).stgSettle.standbyGo) := by
  rw [exec_standbyDriveWaitDone hst hdrain, if_neg (by simpa using lateDrives_ne_nil hlate)]
end

theorem tick_lateAbandoned (s : State) (l : List Nat) : s.tick ≤ (s.lateAbandoned l).tick :=
  (Keep.forEach (m := 0x1014404400702004) (.refl _ s) fun d u =>
    (State.abandon_keep ((u.powerOffSlot d).setSstate d 1) d true).step ((State.setSstate_keep (u.powerOffSlot d) d 1).step
      ((State.powerOffSlot_keep u d).mono rfl) rfl) rfl).tick

theorem tick_settled (s : State) : s.tick ≤ s.stgSettle.standbyGo.tick :=
  (State.stgSettle_keep s).tick.trans (State.standbyGo_keep _).tick

/-! ## The wake sources (R471) -/

theorem exec_wakeTimerExpire {s : State} (hst : s.pstate = 2) (hon : s.on PWR_WAKE.TIMER = true) : exec .wakeTimerExpire s =
    .next ((s.advanceTo (s.pwr.from_ + 1000000000 * s.rd PWR_WAKE_TIMER.S)).wakeSource 2) := if_neg (by simp [hst, hon])

/-- TRIG_IN is at a level from tick `x` on. -/
def State.trigTaken (s : State) (lvl : Bool) (x : Nat) : State :=
  let u := s.advanceTo x
  { u with pins := { u.pins with trigIn := lvl }, rec_ := { u.rec_ with trigFrom := u.tick } }

theorem trigTaken_shows (s : State) (lvl : Bool) (x : Nat) : (s.trigTaken lvl x).pins.trigIn = lvl ∧
    (s.trigTaken lvl x).rec_.trigFrom = max x s.tick ∧ (s.trigTaken lvl x).regs = s.regs ∧ (s.trigTaken lvl x).tick = max x s.tick :=
  ⟨rfl, tick_advanceTo .., advanceTo_regs .., tick_advanceTo ..⟩

section
variable {s : State} {lvl : Bool} {x : Nat} (hlvl : s.pins.trigIn ≠ lvl)
include hlvl

/-- An edge of the polarity that triggers, after the debounce. -/
theorem exec_trigInEdge_triggers (hrun : s.pstate = 0) (hedge : (lvl == (s.rd REC_CFG.EDGE == 1)) = false)
    (hlong : s.rec_.trigFrom + 1000 * s.rd REC_CFG.DEBOUNCE_US ≤ max x s.tick) : exec (.trigInEdge lvl x) s =
    .next ((((s.trigTaken lvl x).raise 297).recTrigger 5 0 (s.trigTaken lvl x).tick (s.trigTaken lvl x).tim.gtc).wakeSource 1) := by
  have hst : (s.advanceTo x).pstate = 0 := (rd_advanceTo ..).trans hrun
  have hdiff : ((s.advanceTo x).pins.trigIn == lvl) = false := by simpa [pins_advanceTo] using hlvl
  have hedge' : (lvl == ((s.trigTaken lvl x).rd REC_CFG.EDGE == 1)) = false := by
    rwa [rd_of_reg (s := s) (by rw [State.reg, (trigTaken_shows s lvl x).2.2.1, State.reg])]
  have hlong' : ¬ (s.advanceTo x).tick - (s.advanceTo x).rec_.trigFrom < 1000 * (s.trigTaken lvl x).rd REC_CFG.DEBOUNCE_US := by
    rw [tick_advanceTo, rec_advanceTo, rd_of_reg (s := s) (by rw [State.reg, (trigTaken_shows s lvl x).2.2.1, State.reg])]
    omega
  have htrig : (s.advanceTo x).trigEdge lvl =
      (((s.trigTaken lvl x).raise 297).recTrigger 5 0 (s.trigTaken lvl x).tick (s.trigTaken lvl x).tim.gtc, true) :=
    (if_neg (ne_true_of_eq_false hdiff)).trans (if_neg (ne_true_of_eq_false (Bool.or_eq_false_iff.2 ⟨hedge', decide_eq_false hlong'⟩)))
  change execTrigInEdge lvl x s = _
  simp only [execTrigInEdge, hst, htrig, if_true]

/-- In Standby an edge of the other polarity is noted. -/
theorem exec_trigInEdge_standby (hst : s.pstate = 2) (hedge : (lvl == (s.rd REC_CFG.EDGE == 1)) = true) :
    exec (.trigInEdge lvl x) s = .next (s.trigTaken lvl x) := by
  have hst' : (s.advanceTo x).pstate ≠ 0 := by
    rw [State.pstate, rd_advanceTo, ← State.pstate, hst]
    decide
  have hdiff : ((s.advanceTo x).pins.trigIn == lvl) = false := by simpa [pins_advanceTo] using hlvl
  have hedge' : (lvl != ((s.advanceTo x).rd REC_CFG.EDGE == 1)) = false := by
    rw [rd_advanceTo, bne, hedge]
    rfl
  change execTrigInEdge lvl x s = _
  simp only [execTrigInEdge, hst', hdiff, hedge', Bool.false_and, if_false, Bool.false_eq_true]
  rfl
end

/-! ## PERST_N rises (R281) -/

/-- The port's reset is over. -/
def State.perstHigh (s : State) : State := State.raise { s with pins := { s.pins with perstN := true, wakeN := true } } 314 [i8 1]

theorem exec_perstDeassert {s : State} (hlow : s.pins.perstN = false) : exec .perstDeassert s = .next (s.perstHigh.wakeSource 0) :=
  if_neg (by simp [hlow])

theorem perstHigh_shows (s : State) : s.perstHigh.pins.perstN = true ∧ s.perstHigh.pins.wakeN = true ∧ s.told 314 < s.perstHigh.told 314 := by
  have hpins : s.perstHigh.pins = { s.pins with perstN := true, wakeN := true } := (State.raise_keep ..).parts .pins rfl
  rw [hpins]
  exact ⟨rfl, rfl, told_lt_raise { s with pins := { s.pins with perstN := true, wakeN := true } } 314 [i8 1] none none⟩

theorem rd_perstHigh {s : State} (hwf : s.wf = true) {f : Fld} (hf : f.inBlk .pwr = true) (hfit : f.fits 0 0 = true) :
    s.perstHigh.rd f = s.rd f :=
  (State.raise_keep { s with pins := { s.pins with perstN := true, wakeN := true } } 314 [i8 1] none none).rdIn .pwr hwf hf hfit rfl

/-- A wake source that clears SOFT. -/
def State.softCleared (s : State) (k : Nat) : State := (s.wr PWR_STBY.SOFT 0).setPwr { s.pwr with source := k + 1 }

theorem softCleared_shows {s : State} (hwf : s.wf = true) (k : Nat) : (s.softCleared k).pins = s.pins ∧
    (s.softCleared k).on PWR_STBY.SOFT = false ∧ (s.softCleared k).pwr.source = k + 1 ∧ (s.softCleared k).pstate = s.pstate ∧
    (s.softCleared k).on PWR_STATUS.STBY_PIN = s.on PWR_STATUS.STBY_PIN :=
  ⟨((State.setPwr_keep ..).step ((Keep.refl 0x80000000000002 s).wr .pwr rfl rfl) rfl).parts .pins rfl,
    on_wr_same hwf (by decide) rfl rfl false, rfl, rd_wr_addr (f := PWR_STBY.SOFT) (g := PWR_STATUS.PSTATE) hwf (by decide),
    on_of_rd (rd_wr_addr (f := PWR_STBY.SOFT) hwf (by decide))⟩

theorem wakeSource_perst {s : State} (hon : s.on PWR_WAKE.PERST = true) (hsoft : s.on PWR_STBY.SOFT = true) :
    s.wakeSource 0 = (s.softCleared 0).wakeCheck := if_neg (by simp [hon, hsoft])

theorem wakeSource_perst_off {s : State} (hoff : s.on PWR_WAKE.PERST = false) : s.wakeSource 0 = s := if_pos (by simp [hoff])

/-! ## The obligation -/

/-- Settles O25: a hold stands or is gone by its own bit, and every wait ends no earlier than it may. -/
theorem standbyCommands : Obligations.StandbyCommands := by
  unfold Obligations.StandbyCommands
  refine ⟨?assert, ?assertEntering, ?release, ?releaseRunning, ?none, ?late, ?timer, ?trig, ?trigStandby, ?perst, ?perstWakes⟩
  case assert =>
    intro s soft hwf hphase hrun
    have hgo := standbyCheck_enters (held_holdAsserted hwf soft) ((pstate_holdAsserted hwf soft).trans hrun)
      ((phase_holdAsserted s soft).trans hphase)
    exact does_of_exec (exec_standbyHoldAssert s soft) hgo
  case assertEntering =>
    intro s hwf hst
    have hstay : (s.holdAsserted true).pstate = 1 := (pstate_holdAsserted hwf true).trans hst
    refine does_of_exec (exec_standbyHoldAssert s true) ?_
    rw [standbyCheck_stays (by omega)]
    have hsoft : (s.wr PWR_STBY.SOFT 1).on PWR_STBY.SOFT = true := on_wr_same hwf (by decide) rfl rfl true
    exact ⟨rfl, hsoft, hstay⟩
  case release =>
    intro s hwf hst hsoft
    obtain ⟨hpin, hkeep, hsame⟩ := released_shows hwf
    have hwake := wakeCheck_wakes (hkeep.trans hst) (held_iff.2 ⟨hpin, hsame.trans hsoft⟩)
    exact does_of_exec (exec_standbyHoldRelease s) hwake
  case releaseRunning =>
    intro s hwf hst
    obtain ⟨hpin, hkeep, -⟩ := released_shows hwf
    refine does_of_exec (exec_standbyHoldRelease s) ?_
    rw [wakeCheck_stays (by rwa [hkeep])]
    exact ⟨rfl, hpin, hkeep⟩
  case none => exact fun s hst hdrain hnone => does_of_exec (exec_standbyDriveWaitDone_none hst hdrain hnone) rfl
  case late =>
    intro s hst hdrain hlate
    refine does_of_exec (exec_standbyDriveWaitDone_late hst hdrain hlate) ⟨?_, rfl⟩
    exact (advanceTo_le_tick ..).trans ((tick_lateAbandoned ..).trans (tick_settled _))
  case timer =>
    intro s hst hon
    exact does_of_exec (exec_wakeTimerExpire hst hon) ⟨(advanceTo_le_tick ..).trans (State.wakeSource_keep ..).tick, rfl⟩
  case trig =>
    intro s lvl x hrun hlvl hedge hlong
    obtain ⟨htrig, hfrom, -, htick⟩ := trigTaken_shows s lvl x
    refine does_of_exec (exec_trigInEdge_triggers hlvl hrun hedge hlong) ⟨s.trigTaken lvl x, htrig, hfrom, ?_⟩
    rw [htick, Nat.cast_max]
  case trigStandby =>
    intro s lvl x hst hlvl hedge
    obtain ⟨htrig, hfrom, hregs, -⟩ := trigTaken_shows s lvl x
    exact does_of_exec (exec_trigInEdge_standby hlvl hst hedge) ⟨htrig, hfrom, hregs⟩
  case perst =>
    intro s hwf hlow hoff
    refine does_of_exec (exec_perstDeassert hlow) ?_
    rw [wakeSource_perst_off ((on_of_rd (rd_perstHigh hwf rfl rfl)).trans hoff)]
    exact perstHigh_shows s
  case perstWakes =>
    intro s hwf hlow hon hsoft hst hpin
    have hwfp : s.perstHigh.wf = true := (State.raise_keep ..).wf hwf
    obtain ⟨hpins, hclear, hsource, hkeep, hsame⟩ := softCleared_shows hwfp 0
    refine does_of_exec (exec_perstDeassert hlow) ⟨s.perstHigh.softCleared 0, ?_, hclear, hsource, ?_⟩
    · rw [hpins]
      exact (perstHigh_shows s).1
    · rw [wakeSource_perst ((on_of_rd (rd_perstHigh hwf rfl rfl)).trans hon) ((on_of_rd (rd_perstHigh hwf rfl rfl)).trans hsoft)]
      exact wakeCheck_wakes (hkeep.trans ((rd_perstHigh hwf rfl rfl).trans hst))
        (held_iff.2 ⟨hsame.trans ((on_of_rd (rd_perstHigh hwf rfl rfl)).trans hpin), hclear⟩)

end Sys2Proof.Machine

/-!
Message channels: reservation, words, the head slot, and the threads that a debugger halts.
-/
namespace Sys2Proof.Machine

/-! ## A channel's record and registers -/

theorem chan_setChan_of_ne (s : State) (ch : Nat) {c : ChanSt} (hc : c ≠ default) : (s.setChan ch c).chan ch = c :=
  cellGet_cellSet_ne s.cpu.chans ch hc

theorem regs_setChan (s : State) (ch : Nat) (c : ChanSt) : (s.setChan ch c).regs = s.regs := rfl

section
variable {s : State} {who ch : Nat}

theorem chan_fits {f : Fld} (h1 : f.n1 = 1024) (h2 : f.n2 = 1) (hch : ch < 1024) : f.fits ch 0 = true := by
  simp [Fld.fits, h1, h2, hch]

section
variable (hopen : s.shut who = false) (hch : ch < 1024) (hvalid : s.on CPU_CHch_CFG.VALID ch = true)
include hopen hch hvalid

/-- The holder of a channel whose reservation was aborted reads Aborted once (R372). -/
theorem exec_channelReserve_aborted (hab : (s.chan ch).aborted.contains who = true) : exec (.channelReserve who ch) s =
    .next ((s.setChan ch { s.chan ch with aborted := (s.chan ch).aborted.filter (fun a => a != who) }).answer 3) := by
  change execChannelReserve who ch s = _
  simp only [execChannelReserve, hopen, hvalid, hab, Nat.not_le.2 hch]
  rfl

variable (hab : (s.chan ch).aborted.contains who = false) (hscope : s.outOfScope ch who = false)
include hab hscope

theorem exec_channelReserve_busy (hbusy : s.on CPU_CHch_STATUS.BUSY ch = true) (hother : s.rd CPU_CHch_STATUS.HOLDER ch ≠ who) :
    exec (.channelReserve who ch) s = .next (s.chanBusy ch who) := by
  change execChannelReserve who ch s = _
  simp only [execChannelReserve, hopen, hvalid, hab, hscope, hbusy, hother, Nat.not_le.2 hch]
  rfl

variable (hfree : s.on CPU_CHch_STATUS.BUSY ch = false)
include hfree

theorem exec_channelReserve_full (hfull : s.rd CPU_CHch_CFG.DEPTH ch ≤ (s.chan ch).msgs.length) :
    exec (.channelReserve who ch) s = .next (s.answer 2) := by
  change execChannelReserve who ch s = _
  simp only [execChannelReserve, hopen, hvalid, hab, hscope, hfree, hfull, Nat.not_le.2 hch]
  rfl

/-- A channel is reserved for an agent. -/
def State.chanReserved (s : State) (who ch : Nat) : State := (s.wr CPU_CHch_STATUS.BUSY 1 ch).wr CPU_CHch_STATUS.HOLDER who ch

theorem exec_channelReserve (hroom : (s.chan ch).msgs.length < s.rd CPU_CHch_CFG.DEPTH ch) : exec (.channelReserve who ch) s =
    .next (((s.chanReserved who ch).setChan ch { s.chan ch with words := List.replicate 16 0, header := false }).answer 0) := by
  change execChannelReserve who ch s = _
  simp only [execChannelReserve, hopen, hvalid, hab, hscope, hfree, Nat.not_le.2 hch, Nat.not_le.2 hroom]
  rfl
end

theorem chanReserved_shows (hwf : s.wf = true) (hch : ch < 1024) (hwho : who < 256) :
    (s.chanReserved who ch).on CPU_CHch_STATUS.BUSY ch = true ∧ (s.chanReserved who ch).rd CPU_CHch_STATUS.HOLDER ch = who := by
  have hbusy : (s.wr CPU_CHch_STATUS.BUSY 1 ch).on CPU_CHch_STATUS.BUSY ch = true := on_wr_same hwf (by decide) rfl (chan_fits rfl rfl hch) true
  refine ⟨(on_of_rd (rd_wr_bits (wr_wf hwf ..) (by decide) (.inl (by decide)))).trans hbusy, ?_⟩
  exact (rd_wr_same (wr_wf hwf ..) (by decide) (chan_fits rfl rfl hch)).trans (Nat.mod_eq_of_lt hwho)

/-- What a Busy answer shows (R371). -/
theorem chanBusy_shows (hwf : s.wf = true) (hch : ch < 1024) : (s.chanBusy ch who).reply = 1 ∧
    (s.chanBusy ch who).rd CPU_CHch_ABORT.BUSY_SEEN ch =
      min (s.rd CPU_CHch_ABORT.BUSY_SEEN ch + 1) (2 ^ CPU_CHch_ABORT.BUSY_SEEN.w - 1) ∧
    (s.chanBusy ch who).rd CPU_CHch_STATUS.HOLDER ch = s.rd CPU_CHch_STATUS.HOLDER ch := by
  have hwfb : (s.bump CPU_CHch_ABORT.BUSY_SEEN ch).wf = true := wr_wf hwf ..
  have hseen : (s.bump CPU_CHch_ABORT.BUSY_SEEN ch).rd CPU_CHch_ABORT.BUSY_SEEN ch =
      min (s.rd CPU_CHch_ABORT.BUSY_SEEN ch + 1) (2 ^ CPU_CHch_ABORT.BUSY_SEEN.w - 1) :=
    (rd_wr_same hwf (by decide) (chan_fits rfl rfl hch)).trans
      (Nat.mod_eq_of_lt (Nat.lt_of_le_of_lt (Nat.min_le_right ..) (Nat.sub_lt (Nat.two_pow_pos _) Nat.one_pos)))
  have hholder : (s.bump CPU_CHch_ABORT.BUSY_SEEN ch).rd CPU_CHch_STATUS.HOLDER ch = s.rd CPU_CHch_STATUS.HOLDER ch :=
    rd_wr_addr hwf (by simp only [Fld.addr, CPU_CHch_ABORT.BUSY_SEEN, CPU_CHch_STATUS.HOLDER]; omega)
  have k := State.calCore_keep (s.bump CPU_CHch_ABORT.BUSY_SEEN ch) who 8
  exact ⟨rfl, (k.rdIn .cpu hwfb rfl (chan_fits rfl rfl hch) rfl).trans hseen,
    (k.rdIn .cpu hwfb rfl (chan_fits rfl rfl hch) rfl).trans hholder⟩

/-! ## Words (R372) -/

/-- A word reaches the reserved message. -/
def State.wordTaken (s : State) (ch w v : Nat) : State :=
  s.setChan ch { s.chan ch with words := (s.chan ch).words.set w v, header := true }

/-- The header as the channel keeps it: bits 15 to 8 are the sender's. -/
def headerOf (who v : Nat) : Nat := v - bitsOf v 8 8 * 256 + who % 256 * 256

theorem bitsOf_headerOf (who v : Nat) : bitsOf (headerOf who v) 0 4 = bitsOf v 0 4 := by
  simp only [headerOf, bitsOf]
  omega

variable (hopen : s.shut who = false) (hch : ch < 1024)

section
variable (hbusy : s.on CPU_CHch_STATUS.BUSY ch = true) (hmine : s.rd CPU_CHch_STATUS.HOLDER ch = who) {w : Nat} {val : Word}
include hopen hch hbusy hmine

theorem exec_channelWordWrite_header (hlen : (s.chan ch).words.length = 16) (hlong : bitsOf val.toNat 0 4 ≠ 0) :
    exec (.channelWordWrite who ch 0 val) s = .next (s.wordTaken ch 0 (headerOf who val.toNat)) := by
  have hgo : ¬ 0 = bitsOf (((s.chan ch).words.set 0 (headerOf who val.toNat)).getD 0 0) 0 4 := by
    rw [List.getD_eq_getElem _ _ (by simp [hlen]), List.getElem_set_self, bitsOf_headerOf]
    exact hlong.symm
  change execChannelWordWrite who ch 0 val s = _
  exact (if_neg (by simp [hopen])).trans ((if_neg (by simp [hch])).trans ((if_neg (by simp [hbusy, hmine])).trans (if_neg hgo)))

/-- The last word of a message commits it. -/
theorem exec_channelWordWrite_last (hw0 : 0 < w) (hw : w < 16) (hhead : (s.chan ch).header = true)
    (hlast : w = bitsOf ((s.chan ch).words.getD 0 0) 0 4) : exec (.channelWordWrite who ch w val) s =
    .next (((s.wordTaken ch w val.toNat).chanFree ch).chanPush ch ((s.chan ch).words.set w val.toNat)) := by
  have hgo : w = bitsOf (((s.chan ch).words.set w val.toNat).getD 0 0) 0 4 := by
    rwa [List.getD, List.getElem?_set_ne (by omega), ← List.getD]
  have hne : w ≠ 0 := by omega
  change execChannelWordWrite who ch w val s = _
  simp only [execChannelWordWrite, hne, if_false]
  exact (if_neg (by simp [hopen])).trans ((if_neg (by simp [hch, hw])).trans
    ((if_neg (by simp [hbusy, hmine, hhead])).trans (if_pos hgo)))
end

include hopen hch in
theorem exec_channelWordWrite_other {w : Nat} {val : Word} (hw : w < 16)
    (hother : s.on CPU_CHch_STATUS.BUSY ch = false ∨ s.rd CPU_CHch_STATUS.HOLDER ch ≠ who) :
    exec (.channelWordWrite who ch w val) s = .next (s.count CPU_cnt_LO.COUNT 5) := by
  have hnot : (s.on CPU_CHch_STATUS.BUSY ch && s.rd CPU_CHch_STATUS.HOLDER ch == who) = false := by
    rw [Bool.and_eq_false_iff, beq_eq_false_iff_ne]
    exact hother
  change execChannelWordWrite who ch w val s = _
  simp only [execChannelWordWrite, hopen, hnot, Nat.not_le.2 hch, Nat.not_le.2 hw]
  rfl

/-! ## The head slot (R374) -/

/-- Showing a channel writes COUNT and the RD words alone. -/
theorem reg_showChan (hwf : s.wf = true) {a : Nat} (ha : a < 0x4B0000) (hne : a ≠ CPU_CHch_STATUS.COUNT.addr ch 0) :
    (s.showChan ch).reg a = s.reg a := by
  let R (x y : State) : Prop := x.wf = true → y.wf = true ∧ y.reg a = x.reg a
  have hword (i v : Nat) (u : State) : R u (u.wr CPU_CHch_RDw.WORD v ch i) := fun h =>
    ⟨wr_wf h .., reg_wr_other h (by simp only [Fld.addr, CPU_CHch_RDw.WORD]; omega)⟩
  have hall := (forEach_rel (R := R) (fun _ h => ⟨h, rfl⟩) (fun h1 h2 h => ⟨(h2 (h1 h).1).1, (h2 (h1 h).1).2.trans (h1 h).2⟩)
    (l := List.range 16) (fun i _ => hword i (((s.chan ch).msgs.headD []).getD i 0))
    (s.wr CPU_CHch_STATUS.COUNT (s.chan ch).msgs.length ch) (wr_wf hwf ..)).2
  exact hall.trans (reg_wr_other hwf hne)

theorem word_showChan (hwf : s.wf = true) (hch : ch < 1024) :
    (s.showChan ch).rd CPU_CHch_RDw.WORD ch 0 = ((s.chan ch).msgs.headD []).getD 0 0 % 2 ^ 32 := by
  let R (x y : State) : Prop := x.wf = true → y.wf = true ∧ y.rd CPU_CHch_RDw.WORD ch 0 = x.rd CPU_CHch_RDw.WORD ch 0
  have hfit : CPU_CHch_RDw.WORD.fits ch 0 = true := by simp [Fld.fits, CPU_CHch_RDw.WORD, hch]
  have hother (i : Nat) (hi : i ≠ 0) (u : State) : R u (u.wr CPU_CHch_RDw.WORD (((s.chan ch).msgs.headD []).getD i 0) ch i) := fun h =>
    ⟨wr_wf h .., rd_wr_addr h (by simp only [Fld.addr, CPU_CHch_RDw.WORD]; omega)⟩
  obtain ⟨w, hw, ht⟩ := forEach_at (R := R) (x := 0) (fun _ h => ⟨h, rfl⟩)
    (fun h1 h2 h => ⟨(h2 (h1 h).1).1, (h2 (h1 h).1).2.trans (h1 h).2⟩) hother List.nodup_range (List.mem_range.2 (by decide : 0 < 16))
    (s.wr CPU_CHch_STATUS.COUNT (s.chan ch).msgs.length ch)
  obtain ⟨hwfw, -⟩ := hw (wr_wf hwf ..)
  exact (ht (wr_wf hwfw ..)).2.trans (rd_wr_same hwfw (by decide) hfit)

theorem exec_channelPop (hch : ch < 1024) : exec (.channelPop ch) s =
    .next ((s.setChan ch { s.chan ch with msgs := (s.chan ch).msgs.tail }).showChan ch) := if_neg (Nat.not_le.2 hch)

/-! ## The release of a reservation (R372) -/

theorem rd_showChan_status (hwf : s.wf = true) {f : Fld} (hb : f.base = 0x490004) (hs : f.s1 = 0x20) (hlo : 5 ≤ f.lo) (hch : ch < 1024) :
    (s.showChan ch).rd f ch = s.rd f ch := by
  let R (x y : State) : Prop := x.wf = true → y.wf = true ∧ y.rd f ch = x.rd f ch
  have hword (i v : Nat) (u : State) : R u (u.wr CPU_CHch_RDw.WORD v ch i) := fun h =>
    ⟨wr_wf h .., rd_wr_addr h (by simp only [Fld.addr, hb, hs, CPU_CHch_RDw.WORD]; omega)⟩
  have hall := (forEach_rel (R := R) (fun _ h => ⟨h, rfl⟩) (fun h1 h2 h => ⟨(h2 (h1 h).1).1, (h2 (h1 h).1).2.trans (h1 h).2⟩)
    (l := List.range 16) (fun i _ => hword i (((s.chan ch).msgs.headD []).getD i 0))
    (s.wr CPU_CHch_STATUS.COUNT (s.chan ch).msgs.length ch) (wr_wf hwf ..)).2
  exact hall.trans (rd_wr_bits hwf (by decide) (.inl hlo))

/-- A message is put in a channel and counted. -/
def State.pushed (s : State) (ch : Nat) (words : List Nat) : State :=
  (s.setChan ch { s.chan ch with msgs := (s.chan ch).msgs ++ [words] }).count CPU_cnt_LO.COUNT 4

theorem chanPush_eq (s : State) (ch : Nat) (words : List Nat) : s.chanPush ch words = (s.pushed ch words).showChan ch := rfl

/-- A message that is put in a channel leaves who holds it. -/
theorem rd_chanPush_status (hwf : s.wf = true) {f : Fld} (hb : f.base = 0x490004) (hs : f.s1 = 0x20) (hlo : 5 ≤ f.lo) (hch : ch < 1024)
    (words : List Nat) : (s.chanPush ch words).rd f ch = s.rd f ch := by
  have hcount (u : State) (hu : u.wf = true) : (u.count CPU_cnt_LO.COUNT 4).rd f ch = u.rd f ch := by
    unfold State.count
    refine rd_of_reg (reg_wr64_other hu ?_ ?_)
    all_goals
      simp only [Fld.addr, hb, hs, CPU_cnt_LO.COUNT]
      omega
  have hwfs : (s.setChan ch { s.chan ch with msgs := (s.chan ch).msgs ++ [words] }).wf = true := (State.setChan_keep ..).wf hwf
  have hwfp : (s.pushed ch words).wf = true := wr64_wf hwfs ..
  rw [chanPush_eq, rd_showChan_status hwfp hb hs hlo hch]
  exact hcount _ hwfs

theorem chanFree_shows (hwf : s.wf = true) (hch : ch < 1024) :
    (s.chanFree ch).on CPU_CHch_STATUS.BUSY ch = false ∧ (s.chanFree ch).rd CPU_CHch_STATUS.HOLDER ch = 0xFF := by
  have hwf1 : (s.wr CPU_CHch_STATUS.BUSY 0 ch).wf = true := wr_wf hwf ..
  have hwf2 : ((s.wr CPU_CHch_STATUS.BUSY 0 ch).wr CPU_CHch_STATUS.HELD 0 ch).wf = true := wr_wf hwf1 ..
  have hbusy : (s.wr CPU_CHch_STATUS.BUSY 0 ch).on CPU_CHch_STATUS.BUSY ch = false := on_wr_same hwf (by decide) rfl (chan_fits rfl rfl hch) false
  have hheld := on_of_rd (rd_wr_bits (f := CPU_CHch_STATUS.HELD) (g := CPU_CHch_STATUS.BUSY) (v := 0) (i := ch) (j := 0) (k := ch) (l := 0)
    hwf1 (by decide) (.inl (by decide)))
  have hholder := on_of_rd (rd_wr_bits (f := CPU_CHch_STATUS.HOLDER) (g := CPU_CHch_STATUS.BUSY) (v := 0xFF) (i := ch) (j := 0) (k := ch)
    (l := 0) hwf2 (by decide) (.inl (by decide)))
  have hset := rd_wr_same (f := CPU_CHch_STATUS.HOLDER) (v := 0xFF) hwf2 (by decide) (chan_fits rfl rfl hch)
  exact ⟨hholder.trans (hheld.trans hbusy), hset⟩

/-! ## Halted threads (R373, R444) -/

/-- A thread is halted, and this is told. -/
def State.haltedNow (s : State) (agent : Nat) : State :=
  State.raise { s with cpu := { s.cpu with halted := s.cpu.halted ++ [agent] } } 497 [i8 agent, i8 1]

/-- The holds of a thread's channels count from now. -/
def State.heldChans (s : State) (l : List Nat) : State :=
  forEach l (fun ch s => (s.wr CPU_CHch_STATUS.HELD 1 ch).setChan ch { s.chan ch with holdFrom := s.tick }) s

theorem halted_haltedNow (s : State) (agent : Nat) : (s.haltedNow agent).cpu.halted = s.cpu.halted ++ [agent] :=
  congrArg (·.halted) ((State.raise_keep ..).parts .cpu rfl)

theorem cpu_wr (s : State) (f : Fld) (v i j : Nat) : (s.wr f v i j).cpu = s.cpu := by
  unfold State.wr
  split <;> rfl

theorem halted_heldChans (s : State) (l : List Nat) : (s.heldChans l).cpu.halted = s.cpu.halted :=
  forEach_rel (R := fun u v => v.cpu.halted = u.cpu.halted) (fun _ => rfl) (fun h1 h2 => h2.trans h1)
    (fun ch _ u => congrArg (·.halted) (cpu_wr u CPU_CHch_STATUS.HELD 1 ch 0)) s

theorem exec_debugHalt {agent : Nat} (hthread : isThread agent = true) (hrun : s.cpu.halted.contains agent = false)
    (hjtag : s.pins.jtagMode = true) : exec (.debugHalt agent) s =
    .next ((s.haltedNow agent).heldChans ((s.haltedNow agent).chanListed.filter (fun ch =>
      (s.haltedNow agent).on CPU_CHch_STATUS.BUSY ch && (s.haltedNow agent).rd CPU_CHch_STATUS.HOLDER ch == agent))) :=
  if_neg (by rw [hthread, hrun, hjtag]; decide)

/-- The holds of a thread's channels end. -/
def State.unheldChans (s : State) (l : List Nat) : State := forEach l (fun ch s => s.wr CPU_CHch_STATUS.HELD 0 ch) s

theorem unheldChans_keep (s : State) (l : List Nat) : Keep 0x10000 s (s.unheldChans l) :=
  (Keep.refl _ s).forEach fun _ u => (Keep.refl _ u).wr .cpu rfl rfl

/-- A thread is no longer halted, and this is told. -/
def State.resumed (s : State) (agent : Nat) : State :=
  State.raise { s with cpu := { s.cpu with halted := s.cpu.halted.filter (fun a => a != agent) } } 497 [i8 agent, i8 0]

theorem resumed_shows (s : State) (agent : Nat) : (s.resumed agent).cpu.halted = s.cpu.halted.filter (fun a => a != agent) ∧
    s.told 497 < (s.resumed agent).told 497 :=
  ⟨congrArg (·.halted) ((State.raise_keep ..).parts .cpu rfl),
    told_lt_raise { s with cpu := { s.cpu with halted := s.cpu.halted.filter (fun a => a != agent) } } 497 [i8 agent, i8 0] none none⟩

theorem exec_debugResume {agent : Nat} (hhalted : s.cpu.halted.contains agent = true) : exec (.debugResume agent) s =
    .next ((s.resumed agent).unheldChans ((s.resumed agent).chanListed.filter (fun ch =>
      (s.resumed agent).on CPU_CHch_STATUS.BUSY ch && (s.resumed agent).rd CPU_CHch_STATUS.HOLDER ch == agent))) := by
  change ok (s.debugResume agent) = _
  rw [State.debugResume, hhalted]
  rfl

theorem exec_channelHoldTimeout (hch : ch < 1024) (hheld : s.on CPU_CHch_STATUS.HELD ch = true) (hlimit : s.rd CPU_CHch_CFG.HOLD_US ch ≠ 0) :
    exec (.channelHoldTimeout ch) s =
      .next (((s.advanceTo ((s.chan ch).holdFrom + 1000 * s.rd CPU_CHch_CFG.HOLD_US ch)).chanAbort ch).raise
        (400 + 4 * agentCluster (s.rd CPU_CHch_STATUS.HOLDER ch) + 3) [i16 ch, i8 (s.rd CPU_CHch_STATUS.HOLDER ch)]) :=
  if_neg (by simp [hch, hheld, hlimit])

theorem le_tick_holdOver (s : State) (t ch src : Nat) (items : List Item) :
    t ≤ (((s.advanceTo t).chanAbort ch).raise src items).tick :=
  (advanceTo_le_tick s t).trans ((State.chanAbort_keep ..).tick.trans (State.raise_keep ..).tick)
end

/-! ## The obligation -/

/-- Settles O21: a message's words and the channel's record are one record, and who holds a channel stands in its own bits. -/
theorem channelCommands : Obligations.ChannelCommands := by
  unfold Obligations.ChannelCommands
  refine ⟨?reserve, ?full, ?busy, ?aborted, ?header, ?last, ?other, ?pop, ?popNext, ?halt, ?resume, ?hold⟩
  case reserve =>
    intro s who ch hopen hwf hch hvalid hab hscope hfree hroom hwho
    obtain ⟨hbusy, hholder⟩ := chanReserved_shows hwf hch hwho
    exact does_of_exec (exec_channelReserve hopen hch hvalid hab hscope hfree hroom) ⟨rfl, hbusy, hholder⟩
  case full =>
    intro s who ch hopen hch hvalid hab hscope hfree hfull
    exact does_of_exec (exec_channelReserve_full hopen hch hvalid hab hscope hfree hfull) ⟨rfl, rfl⟩
  case busy =>
    intro s who ch hopen hwf hch hvalid hab hscope hbusy hother
    exact does_of_exec (exec_channelReserve_busy hopen hch hvalid hab hscope hbusy hother) (chanBusy_shows hwf hch)
  case aborted =>
    intro s who ch hopen hch hvalid hab
    exact does_of_exec (exec_channelReserve_aborted hopen hch hvalid hab) ⟨rfl, rfl⟩
  case header =>
    intro s who ch val hopen hch hbusy hmine hlen hlong
    have hset : (s.wordTaken ch 0 (headerOf who val.toNat)).chan ch =
        { s.chan ch with words := (s.chan ch).words.set 0 (headerOf who val.toNat), header := true } :=
      chan_setChan_of_ne s ch fun h => Bool.noConfusion (congrArg ChanSt.header h : true = false)
    refine does_of_exec (exec_channelWordWrite_header hopen hch hbusy hmine hlen hlong) ?_
    rw [hset]
    refine ⟨rfl, ?_, rfl⟩
    rw [List.getD_eq_getElem _ _ (by simp [hlen]), List.getElem_set_self]
    rfl
  case last =>
    intro s who ch w val hopen hwf hch hw0 hw hbusy hmine hlen hhead hlast
    have hwfw : (s.wordTaken ch w val.toNat).wf = true := (State.setChan_keep ..).wf hwf
    obtain ⟨hfree, hnone⟩ := chanFree_shows hwfw hch
    have hwff := (State.chanFree_keep (s.wordTaken ch w val.toNat) ch).wf hwfw
    refine does_of_exec (exec_channelWordWrite_last hopen hch hbusy hmine hw0 hw hhead hlast) ⟨?_, ?_, rfl⟩
    · exact (on_of_rd (rd_chanPush_status hwff rfl rfl (by decide) hch _)).trans hfree
    · exact (rd_chanPush_status hwff rfl rfl (by decide) hch _).trans hnone
  case other =>
    intro s who ch w val hopen hwf hch hw hother
    exact does_of_exec (exec_channelWordWrite_other hopen hch hw hother)
      ⟨((Keep.refl 0x10000 s).count .cpu rfl rfl).parts .cpu rfl, rd64_count_same hwf rfl⟩
  case pop => exact fun s ch hch => does_of_exec (exec_channelPop hch) rfl
  case popNext =>
    intro s ch m x l hwf hch hmsgs
    have hset : (s.setChan ch { s.chan ch with msgs := (s.chan ch).msgs.tail }).chan ch = { s.chan ch with msgs := x :: l } := by
      rw [hmsgs]
      exact chan_setChan_of_ne s ch fun h => List.cons_ne_nil x l (congrArg ChanSt.msgs h : x :: l = [])
    refine does_of_exec (exec_channelPop hch) ⟨?_, ?_⟩
    · rw [State.chan, (State.showChan_keep ..).parts .cpu rfl, ← State.chan, hset]
    · rw [word_showChan ((State.setChan_keep ..).wf hwf) hch, hset]
      rfl
  case halt =>
    intro s agent hthread hrun hjtag
    exact does_of_exec (exec_debugHalt hthread hrun hjtag) ((halted_heldChans ..).trans (halted_haltedNow ..))
  case resume =>
    intro s agent hhalted
    obtain ⟨hgone, htold⟩ := resumed_shows s agent
    have k := unheldChans_keep (s.resumed agent)
    refine does_of_exec (exec_debugResume hhalted) ⟨?_, ?_⟩
    · rw [(k _).parts .cpu rfl, hgone]
    · rwa [told_of_evt ((k _).parts .evt rfl)]
  case hold =>
    intro s ch hch hheld hlimit
    exact does_of_exec (exec_channelHoldTimeout hch hheld hlimit) ⟨le_tick_holdOver .., rfl⟩

end Sys2Proof.Machine

/-!
The Spindle cores: what a fault, a restart, a retirement and a reload leave in the registers of the clusters.
-/
namespace Sys2Proof.Machine

/-! ## The registers of the clusters -/

/-- The counters of the CPU block and the registers of its clusters. -/
def isClusterReg (a : Nat) : Prop := (0x480100 ≤ a ∧ a < 0x480138) ∨ (0x481000 ≤ a ∧ a < 0x482000)

/-- From `s` to `t` none of them changes. -/
structure SameClusters (s t : State) : Prop where
  wf : s.wf = true → t.wf = true
  reg : s.wf = true → ∀ a, isClusterReg a → t.reg a = s.reg a

theorem SameClusters.refl (s : State) : SameClusters s s := ⟨id, fun _ _ _ => rfl⟩

theorem SameClusters.trans {s t u : State} (h1 : SameClusters s t) (h2 : SameClusters t u) : SameClusters s u :=
  ⟨fun h => h2.wf (h1.wf h), fun h a ha => (h2.reg (h1.wf h) a ha).trans (h1.reg h a ha)⟩

theorem SameClusters.ite {s t u : State} {c : Prop} [Decidable c] (ht : SameClusters s t) (hu : SameClusters s u) :
    SameClusters s (if c then t else u) := by
  split
  · exact ht
  · exact hu

theorem SameClusters.forEach {α : Type} {l : List α} {f : α → State → State} (h : ∀ x u, SameClusters u (f x u)) (s : State) :
    SameClusters s (forEach l f s) := forEach_rel .refl .trans (fun x _ => h x) s

theorem SameClusters.of_counts {s t : State} (h : CountsOnly s t) : SameClusters s t :=
  ⟨h.wf, fun hwf a ha => h.reg hwf a (by
    simp only [isClusterReg, isCounted] at ha ⊢
    omega)⟩

theorem SameClusters.of_keep {m : Nat} {s t : State} (k : Keep m s t) (hm : m.testBit 16 = false) : SameClusters s t :=
  ⟨k.wf, fun hwf a ha => k.regs hwf a (by
    have hlo : Blk.cpu.base ≤ a := (show 0x480000 ≤ a by unfold isClusterReg at ha; omega)
    have hhi : a < Blk.cpu.top := Nat.lt_of_lt_of_le (show a < 0x482000 by unfold isClusterReg at ha; omega) (by decide)
    rw [zoneNo_blk hlo hhi]
    exact hm)⟩

theorem SameClusters.raise (s : State) (src : Nat) (items : List Item) : SameClusters s (s.raise src items) := .of_counts (.raise ..)

/-! ### Channels and stages -/

/-- A write to a register of the channels. -/
theorem SameClusters.wrChan (s : State) {f : Fld} (v i : Nat) (hf : 0x490000 ≤ f.base) : SameClusters s (s.wr f v i) :=
  ⟨fun h => wr_wf h .., fun h a ha => reg_wr_other h (by
    simp only [isClusterReg, Fld.addr] at ha ⊢
    omega)⟩

theorem SameClusters.chanFree (s : State) (ch : Nat) : SameClusters s (s.chanFree ch) :=
  (((SameClusters.wrChan s _ ch (by decide)).trans (.wrChan _ _ ch (by decide))).trans (.wrChan _ _ ch (by decide))).trans
    (.of_keep (State.setChan_keep ..) rfl)

theorem SameClusters.chanAbort (s : State) (ch : Nat) : SameClusters s (s.chanAbort ch) := by
  unfold State.chanAbort
  exact .ite (.refl s) (((SameClusters.wrChan s _ ch (by decide)).trans (.chanFree _ ch)).trans (.of_keep (State.setChan_keep ..) rfl))

theorem SameClusters.abortHolders (s : State) (p : Nat → Bool) : SameClusters s (s.abortHolders p) :=
  .forEach (fun ch u => .chanAbort u ch) s

theorem base_mod (b : Blk) : b.base % 0x10000 = 0 := by cases b <;> rfl

theorem SameClusters.forceAbort (s : State) (owner : Nat → Bool) : SameClusters s (s.forceAbort owner) := by
  refine .forEach (fun b u => ?_) s
  have hend : SameClusters u (u.abortStage b) := by
    have kfree := State.freeMark_keep u b
    refine ⟨(State.abortStage_keep u b).wf, fun hwf a ha => (reg_endStage_other (kfree.wf hwf) 5 0 ?_ ?_).trans
      ((SameClusters.of_keep kfree rfl).reg hwf a ha)⟩
    all_goals
      have hmod := base_mod b
      unfold isClusterReg at ha
      omega
  exact hend.trans (.of_counts (.raise ..))

/-! ### Cores -/

/-- The register of core `c` of cluster `k`. -/
def coreAddr (k c : Nat) : Nat := 0x481040 + 0x100 * k + 0x10 * c

/-- From `s` to `t` no register of the clusters changes but those of the cores of cluster `k`, and a core in state `v` stays so. -/
structure CoresOnly (k v : Nat) (s t : State) : Prop where
  wf : s.wf = true → t.wf = true
  reg : s.wf = true → ∀ a, isClusterReg a → (∀ c < 5, a ≠ coreAddr k c) → t.reg a = s.reg a
  state : s.wf = true → k < 8 → ∀ c < 5, s.coreState k c = v → t.coreState k c = v

section
variable {k v : Nat}

theorem CoresOnly.refl (s : State) : CoresOnly k v s s := ⟨id, fun _ _ _ _ => rfl, fun _ _ _ _ => id⟩

theorem CoresOnly.trans {s t u : State} (h1 : CoresOnly k v s t) (h2 : CoresOnly k v t u) : CoresOnly k v s u :=
  ⟨fun h => h2.wf (h1.wf h), fun h a ha hc => (h2.reg (h1.wf h) a ha hc).trans (h1.reg h a ha hc),
    fun h hk c hc hv => h2.state (h1.wf h) hk c hc (h1.state h hk c hc hv)⟩

theorem CoresOnly.ite {s t u : State} {c : Prop} [Decidable c] (ht : CoresOnly k v s t) (hu : CoresOnly k v s u) :
    CoresOnly k v s (if c then t else u) := by
  split
  · exact ht
  · exact hu

theorem isClusterReg_core {k c : Nat} (hk : k < 8) (hc : c < 5) : isClusterReg (coreAddr k c) := by
  unfold isClusterReg coreAddr
  omega

theorem CoresOnly.of_same {s t : State} (h : SameClusters s t) : CoresOnly k v s t :=
  ⟨h.wf, fun hwf a ha _ => h.reg hwf a ha, fun hwf hk c hc hv =>
    (rd_of_reg (f := CPU_CLk_COREc_STATUS.CSTATE) (i := k) (j := c) (h.reg hwf _ (isClusterReg_core hk hc))).trans hv⟩

theorem CoresOnly.forEach {α : Type} {l : List α} {f : α → State → State} (h : ∀ x u, CoresOnly k v u (f x u)) (s : State) :
    CoresOnly k v s (forEach l f s) := forEach_rel .refl .trans (fun x _ => h x) s

/-- A field of a core's register. -/
structure IsCoreFld (f : Fld) : Prop where
  base : f.base = 0x481040
  s1 : f.s1 = 0x100
  s2 : f.s2 = 0x10
  n1 : f.n1 = 8
  n2 : f.n2 = 5
  bits : f.lo + f.w ≤ 32

theorem IsCoreFld.addr {f : Fld} (h : IsCoreFld f) (k c : Nat) : f.addr k c = coreAddr k c := by
  simp only [Fld.addr, h.base, h.s1, h.s2, coreAddr]

theorem IsCoreFld.fits {f : Fld} (h : IsCoreFld f) {k c : Nat} (hk : k < 8) (hc : c < 5) : f.fits k c = true := by
  simp [Fld.fits, h.n1, h.n2, hk, hc]

theorem isCoreFld_cstate : IsCoreFld CPU_CLk_COREc_STATUS.CSTATE := ⟨rfl, rfl, rfl, rfl, rfl, by decide⟩
theorem isCoreFld_logical : IsCoreFld CPU_CLk_COREc_STATUS.LOGICAL := ⟨rfl, rfl, rfl, rfl, rfl, by decide⟩
theorem isCoreFld_fcode : IsCoreFld CPU_CLk_COREc_STATUS.FCODE := ⟨rfl, rfl, rfl, rfl, rfl, by decide⟩
theorem isCoreFld_fthread : IsCoreFld CPU_CLk_COREc_STATUS.FTHREAD := ⟨rfl, rfl, rfl, rfl, rfl, by decide⟩
theorem isCoreFld_parked : IsCoreFld CPU_CLk_COREc_STATUS.PARKED := ⟨rfl, rfl, rfl, rfl, rfl, by decide⟩
theorem isCoreFld_waiting : IsCoreFld CPU_CLk_COREc_STATUS.WAITING := ⟨rfl, rfl, rfl, rfl, rfl, by decide⟩

theorem snd_lt_of_fits {f : Fld} {i j : Nat} (h : f.fits i j = true) : j < f.n2 := by
  simp only [Fld.fits, Bool.and_eq_true, decide_eq_true_eq] at h
  exact h.2

/-- A write to a field of one core changes the register of that core alone. -/
theorem reg_wrCore {s : State} (hwf : s.wf = true) {f : Fld} (hf : IsCoreFld f) (x c : Nat) {a : Nat} (ha : ∀ c < 5, a ≠ coreAddr k c) :
    (s.wr f x k c).reg a = s.reg a := by
  unfold State.wr
  split
  case isTrue hfit =>
    have hc : c < 5 := hf.n2 ▸ snd_lt_of_fits hfit
    exact reg_setReg_other hwf _ (by rw [hf.addr]; exact ha c hc)
  case isFalse => rfl

/-- A field of a core apart from its state. -/
theorem CoresOnly.wrCore (s : State) {f : Fld} (hf : IsCoreFld f) (hlow : f.lo + f.w ≤ 29) (x c : Nat) : CoresOnly k v s (s.wr f x k c) :=
  ⟨fun h => wr_wf h .., fun h _ _ ha => reg_wrCore h hf x c ha, fun h _ _ _ hv => (rd_wr_bits h hf.bits (.inl hlow)).trans hv⟩

theorem CoresOnly.setCore (s : State) (c : Nat) : CoresOnly k v s (s.setCore k c v) := by
  unfold State.setCore
  refine .ite (.refl s) (.trans (t := s.wr CPU_CLk_COREc_STATUS.CSTATE v k c) ?_ (.of_same (.raise ..)))
  refine ⟨fun h => wr_wf h .., fun h _ _ ha => reg_wrCore h isCoreFld_cstate v c ha, fun h hk d hd hv => ?_⟩
  by_cases hdc : d = c
  · subst hdc
    have hlt := rd_lt s CPU_CLk_COREc_STATUS.CSTATE k d
    have hsame := rd_wr_same (v := v) h (by decide) (isCoreFld_cstate.fits hk hd)
    rw [State.coreState] at hv
    rw [hv] at hlt
    exact hsame.trans (Nat.mod_eq_of_lt hlt)
  · have hne : CPU_CLk_COREc_STATUS.CSTATE.addr k d ≠ CPU_CLk_COREc_STATUS.CSTATE.addr k c := by
      rw [isCoreFld_cstate.addr, isCoreFld_cstate.addr, coreAddr, coreAddr]
      omega
    exact (rd_wr_addr h hne).trans hv

theorem CoresOnly.stopThreads (s : State) (g c : Nat) : CoresOnly k v s (s.stopThreads k g c) :=
  ((CoresOnly.wrCore s isCoreFld_waiting (by decide) 0 c).trans (.of_same (.abortHolders _ _))).trans (.of_same ⟨id, fun _ _ _ => rfl⟩)

end

/-! ## What the operations of one core show -/

section
variable {s : State} {k c : Nat}

/-- A field of a core's register is as it was where the registers of the clusters are. -/
theorem SameClusters.core {s t : State} (h : SameClusters s t) (hwf : s.wf = true) {f : Fld} (hf : IsCoreFld f) (hk : k < 8) (hc : c < 5) :
    t.rd f k c = s.rd f k c := rd_of_reg (h.reg hwf _ (by rw [hf.addr]; exact isClusterReg_core hk hc))

theorem SameClusters.rd {s t : State} (h : SameClusters s t) (hwf : s.wf = true) {f : Fld} {i : Nat} (hf : isClusterReg (f.addr i 0)) :
    t.rd f i = s.rd f i := rd_of_reg (h.reg hwf _ hf)

/-- A register of the cluster that is none of its cores'. -/
theorem CoresOnly.rd {v : Nat} {s t : State} (h : CoresOnly k v s t) (hwf : s.wf = true) {f : Fld} (hs : f.s1 = 0x100)
    (hlo : 0x481000 ≤ f.base) (hhi : f.base < 0x481040) (hk : k < 8) : t.rd f k = s.rd f k :=
  rd_of_reg (h.reg hwf _ (by simp only [isClusterReg, Fld.addr, hs]; omega) fun c hc => by
    simp only [Fld.addr, hs, coreAddr]
    omega)

theorem coreState_of_eq {v : Nat} (hc : s.coreState k c = v) : s.setCore k c v = s := if_pos hc

/-- The state of a core that changes, and what its register shows beside it. -/
theorem setCore_shows (hwf : s.wf = true) (hk : k < 8) (hc : c < 5) {v : Nat} (hv : v < 8) : (s.setCore k c v).coreState k c = v ∧
    ∀ f, IsCoreFld f → f.lo + f.w ≤ 29 → (s.setCore k c v).rd f k c = s.rd f k c := by
  by_cases hsame : s.coreState k c = v
  · rw [coreState_of_eq hsame]
    exact ⟨hsame, fun _ _ _ => rfl⟩
  · have htold : SameClusters (s.wr CPU_CLk_COREc_STATUS.CSTATE v k c) (s.setCore k c v) := by
      rw [State.setCore, if_neg hsame]
      exact .raise ..
    have hwfw : (s.wr CPU_CLk_COREc_STATUS.CSTATE v k c).wf = true := wr_wf hwf ..
    refine ⟨(htold.core hwfw isCoreFld_cstate hk hc).trans ((rd_wr_same hwf (by decide) (isCoreFld_cstate.fits hk hc)).trans
      (Nat.mod_eq_of_lt hv)), fun f hf hlow => (htold.core hwfw hf hk hc).trans (rd_wr_bits hwf (by decide) (.inr hlow))⟩

theorem setCore_wf (hwf : s.wf = true) (v : Nat) : (s.setCore k c v).wf = true := (State.setCore_keep ..).wf hwf

/-- A core whose state changes is told. -/
theorem told_setCore {v : Nat} (hne : s.coreState k c ≠ v) : s.told (400 + 4 * k + 1) < (s.setCore k c v).told (400 + 4 * k + 1) := by
  have hwr : Keep 0x10000 s (s.wr CPU_CLk_COREc_STATUS.CSTATE v k c) := (Keep.refl _ s).wr .cpu rfl rfl
  rw [State.setCore, if_neg hne]
  have htold := told_lt_raise (s.wr CPU_CLk_COREc_STATUS.CSTATE v k c) (400 + 4 * k + 1) [i8 c] none none
  rwa [told_of_evt (hwr.parts .evt rfl)] at htold

/-! ### A warm start (R365, R366) -/

/-- The partitions of a logical core. -/
def State.partsAt (s : State) (k g : Nat) : List Nat := (s.partsOf k).filter (fun p => bitOf (s.part p).cores g)

/-- The regions that the image marks COLD are loaded again. -/
def State.coldLoaded (s : State) (k g : Nat) : State := forEach (s.partsAt k g) (fun p s => if (s.part p).cold then s.coldLoad p else s) s

/-- The core shows its threads and its logical position. -/
def State.placed (s : State) (k g c : Nat) : State :=
  ((s.coldLoaded k g).wr CPU_CLk_COREc_STATUS.PARKED (15 - (s.coldLoaded k g).coreThreads k g) k c).wr CPU_CLk_COREc_STATUS.LOGICAL g k c

theorem warmStart_eq (s : State) (k g c : Nat) : s.warmStart k g c =
    (forEach (s.partsAt k g) (fun _ s => s.raise (400 + 4 * k + 1) [i8 c]) ((s.placed k g c).setCore k c 0)).showParts k := rfl

theorem same_coldLoaded (s : State) (k g : Nat) : SameClusters s (s.coldLoaded k g) :=
  .forEach (fun _ u => .ite (.of_keep (State.coldLoad_keep ..) rfl) (.refl u)) s

theorem same_started (s : State) (k c : Nat) (l : List Nat) :
    SameClusters s ((forEach l (fun _ s => s.raise (400 + 4 * k + 1) [i8 c]) s).showParts k) :=
  (SameClusters.forEach (fun _ u => .raise u _ _) s).trans (.of_keep (State.showParts_keep ..) rfl)

theorem CoresOnly.warmStart (s : State) (k g c : Nat) : CoresOnly k 0 s (s.warmStart k g c) := by
  have hplaced : CoresOnly k 0 s (s.placed k g c) := (CoresOnly.of_same (same_coldLoaded s k g)).trans
    ((CoresOnly.wrCore _ isCoreFld_parked (by decide) _ c).trans (.wrCore _ isCoreFld_logical (by decide) g c))
  rw [warmStart_eq]
  exact hplaced.trans ((CoresOnly.setCore _ c).trans (.of_same (same_started ..)))

theorem warmStart_shows (hwf : s.wf = true) (hk : k < 8) (hc : c < 5) (g : Nat) : (s.warmStart k g c).coreState k c = 0 ∧
    (s.warmStart k g c).rd CPU_CLk_COREc_STATUS.LOGICAL k c = g % 4 := by
  have hwfl : (s.coldLoaded k g).wf = true := (same_coldLoaded s k g).wf hwf
  have hwfp : (s.placed k g c).wf = true := wr_wf (wr_wf hwfl ..) ..
  have hwfs := setCore_wf (k := k) (c := c) hwfp 0
  have hlog : (s.placed k g c).rd CPU_CLk_COREc_STATUS.LOGICAL k c = g % 2 ^ 2 :=
    rd_wr_same (wr_wf hwfl ..) (by decide) (isCoreFld_logical.fits hk hc)
  obtain ⟨hactive, hrest⟩ := setCore_shows hwfp hk hc (v := 0) (by decide)
  rw [warmStart_eq, State.coreState]
  exact ⟨((same_started ..).core hwfs isCoreFld_cstate hk hc).trans hactive,
    ((same_started ..).core hwfs isCoreFld_logical hk hc).trans ((hrest _ isCoreFld_logical (by decide)).trans hlog)⟩

end

end Sys2Proof.Machine

/-!
The commands of the clusters: faults, restarts, retirement, reloads, deadlocks and the transmit rings.
-/
namespace Sys2Proof.Machine

/-! ## Faults (R367, R368) -/

section
variable {s : State} {k c fcode th pc : Nat}

/-- A fault is recorded and told. -/
def State.faultNoted (s : State) (k c fcode th pc : Nat) : State :=
  ((((s.wr CPU_CLk_COREc_STATUS.FCODE fcode k c).wr CPU_CLk_COREc_STATUS.FTHREAD th k c).wr64 CPU_CLk_COREc_FPC_LO.PC pc k c).count
    CPU_cnt_LO.COUNT 0).raise (400 + 4 * k) [i8 c, i8 fcode]

/-- The core stops with what it held. -/
def State.faultStopped (s : State) (k g c fcode th pc : Nat) : State :=
  ((((s.faultNoted k c fcode th pc).setCore k c 2).stopThreads k g c).forceAbort (fun o => o == coreOwner k g)).showParts k

/-- What follows by the policy of the cluster. -/
def State.faultPolicy (s : State) (k g c fcode : Nat) : State :=
  match s.rd CPU_CLk_CFG.RETIRE_POLICY k, fcode == 3 with
  | 1, false => s.autoRestart k g c
  | 2, false => s.autoRestart k g c
  | 2, true => s.retireCore k c
  | 3, _ => s.retireCore k c
  | _, _ => s

theorem coreFault_eq {g : Nat} (hg : s.logical k c = some g) :
    s.coreFault k c fcode th pc = (s.faultStopped k g c fcode th pc).faultPolicy k g c fcode := by
  rw [State.coreFault, hg]
  rfl

theorem faultPolicy_none {g : Nat} (hpolicy : s.rd CPU_CLk_CFG.RETIRE_POLICY k = 0) : s.faultPolicy k g c fcode = s := by
  rw [State.faultPolicy, hpolicy]
  rfl

/-- What a core that runs is. -/
theorem of_coreRuns (h : s.coreRuns k c th = true) : k < 8 ∧ c < 5 ∧ th < 4 ∧ s.coreState k c = 0 ∧ ∃ g, s.logical k c = some g := by
  simp only [State.coreRuns, Bool.and_eq_true, decide_eq_true_eq, beq_iff_eq, Option.isSome_iff_exists] at h
  obtain ⟨⟨⟨⟨⟨⟨⟨hk, hc⟩, hth⟩, hst⟩, hg⟩, -⟩, -⟩, -⟩ := h
  exact ⟨hk, hc, hth, hst, hg⟩

theorem exec_coreFault (hrun : s.coreRuns k c th = true) (h1 : 1 ≤ fcode) (h5 : fcode ≤ 5) :
    exec (.coreFault k c fcode th pc) s = .next (s.coreFault k c fcode th pc) := if_pos (by simp [hrun, h1, h5])

theorem exec_coreWatchdogExpire {since : Nat} (hrun : s.coreRuns k c th = true)
    (hbusy : bitOf (s.rd CPU_CLk_COREc_STATUS.WAITING k c) th = false) :
    exec (.coreWatchdogExpire k c th pc since) s = .next ((s.advanceTo (since + 10000000)).coreFault k c 7 th pc) :=
  if_pos (by simp [hrun, hbusy])

theorem faultNoted_wf (hwf : s.wf = true) : (s.faultNoted k c fcode th pc).wf = true :=
  (State.raise_keep ..).wf (wr64_wf (wr64_wf (wr_wf (wr_wf hwf ..) ..) ..) ..)

/-- What the record of a fault shows. -/
theorem faultNoted_shows (hwf : s.wf = true) (hk : k < 8) (hc : c < 5) (hf : fcode < 256) (hth : th < 4) :
    (s.faultNoted k c fcode th pc).rd CPU_CLk_COREc_STATUS.FCODE k c = fcode ∧
    (s.faultNoted k c fcode th pc).rd CPU_CLk_COREc_STATUS.FTHREAD k c = th ∧
    (s.faultNoted k c fcode th pc).rd CPU_CLk_CFG.RETIRE_POLICY k = s.rd CPU_CLk_CFG.RETIRE_POLICY k := by
  have hwf1 : (s.wr CPU_CLk_COREc_STATUS.FCODE fcode k c).wf = true := wr_wf hwf ..
  have hwf2 : ((s.wr CPU_CLk_COREc_STATUS.FCODE fcode k c).wr CPU_CLk_COREc_STATUS.FTHREAD th k c).wf = true := wr_wf hwf1 ..
  have hcode := rd_wr_same (v := fcode) hwf (by decide) (isCoreFld_fcode.fits hk hc)
  have hthread := rd_wr_same (v := th) hwf1 (by decide) (isCoreFld_fthread.fits hk hc)
  have hkept := rd_wr_bits (f := CPU_CLk_COREc_STATUS.FTHREAD) (g := CPU_CLk_COREc_STATUS.FCODE) (v := th) (i := k) (j := c) (k := k)
    (l := c) hwf1 (by decide) (.inl (by decide))
  have hrest (u : State) (hu : u.wf = true) (a : Nat) (hpc : a ≠ 0x481044 + 0x100 * k + 0x10 * c) (hpc4 : a ≠ 0x481048 + 0x100 * k + 0x10 * c)
      (hcnt : a ≠ 0x480100) (hcnt4 : a ≠ 0x480104) (ha : isClusterReg a) :
      (((u.wr64 CPU_CLk_COREc_FPC_LO.PC pc k c).count CPU_cnt_LO.COUNT 0).raise (400 + 4 * k) [i8 c, i8 fcode]).reg a = u.reg a := by
    have hcount : ((u.wr64 CPU_CLk_COREc_FPC_LO.PC pc k c).count CPU_cnt_LO.COUNT 0).reg a = (u.wr64 CPU_CLk_COREc_FPC_LO.PC pc k c).reg a := by
      unfold State.count
      exact reg_wr64_other (wr64_wf hu ..) hcnt hcnt4
    have hset : (u.wr64 CPU_CLk_COREc_FPC_LO.PC pc k c).reg a = u.reg a :=
      reg_wr64_other hu (by simp only [Fld.addr, CPU_CLk_COREc_FPC_LO.PC]; omega) (by simp only [Fld.addr, CPU_CLk_COREc_FPC_LO.PC]; omega)
    exact ((SameClusters.raise _ _ _).reg (wr64_wf (wr64_wf hu ..) ..) a ha).trans (hcount.trans hset)
  have hcore {f : Fld} (hf : IsCoreFld f) : (s.faultNoted k c fcode th pc).rd f k c =
      ((s.wr CPU_CLk_COREc_STATUS.FCODE fcode k c).wr CPU_CLk_COREc_STATUS.FTHREAD th k c).rd f k c := by
    refine rd_of_reg (hrest _ hwf2 _ ?_ ?_ ?_ ?_ (by rw [hf.addr]; exact isClusterReg_core hk hc))
    all_goals
      rw [hf.addr, coreAddr]
      omega
  refine ⟨?_, ?_, ?_⟩
  · exact (hcore isCoreFld_fcode).trans (hkept.trans (hcode.trans (Nat.mod_eq_of_lt hf)))
  · exact (hcore isCoreFld_fthread).trans (hthread.trans (Nat.mod_eq_of_lt hth))
  · have hcfg : isClusterReg (CPU_CLk_CFG.RETIRE_POLICY.addr k 0) := by
      simp only [isClusterReg, Fld.addr, CPU_CLk_CFG.RETIRE_POLICY]
      omega
    have hother (d : Nat) (_ : d < 5) : CPU_CLk_CFG.RETIRE_POLICY.addr k 0 ≠ coreAddr k d := by
      simp only [Fld.addr, CPU_CLk_CFG.RETIRE_POLICY, coreAddr]
      omega
    refine (rd_of_reg (hrest _ hwf2 _ ?_ ?_ ?_ ?_ hcfg)).trans
      (rd_of_reg ((reg_wrCore hwf1 isCoreFld_fthread th c hother).trans (reg_wrCore hwf isCoreFld_fcode fcode c hother)))
    all_goals
      simp only [Fld.addr, CPU_CLk_CFG.RETIRE_POLICY]
      omega

/-- From the stop of the threads on, a fault leaves the registers of the clusters. -/
theorem same_faultStopped (s : State) (k g c fcode th pc : Nat) :
    CoresOnly k 2 (s.faultNoted k c fcode th pc) (s.faultStopped k g c fcode th pc) :=
  (((CoresOnly.setCore _ c).trans (.stopThreads _ g c)).trans (.of_same (.forceAbort ..))).trans
    (.of_same (.of_keep (State.showParts_keep ..) rfl))

/-- Beside the waiting threads, stopping a core's threads leaves the registers of the clusters. -/
theorem same_stopThreads (s : State) (k g c : Nat) :
    SameClusters (s.wr CPU_CLk_COREc_STATUS.WAITING 0 k c) (s.stopThreads k g c) :=
  (SameClusters.abortHolders _ (onCore k g)).trans ⟨id, fun _ _ _ => rfl⟩

theorem rd_stopThreads (hwf : s.wf = true) (hk : k < 8) (hc : c < 5) (g : Nat) {f : Fld} (hf : IsCoreFld f) (hlo : 4 ≤ f.lo) :
    (s.stopThreads k g c).rd f k c = s.rd f k c :=
  ((same_stopThreads s k g c).core (wr_wf hwf ..) hf hk hc).trans (rd_wr_bits hwf (by decide) (.inl hlo))

theorem faultStopped_shows (hwf : s.wf = true) (hk : k < 8) (hc : c < 5) (hf : fcode < 256) (hth : th < 4) (g : Nat) :
    (s.faultStopped k g c fcode th pc).coreState k c = 2 ∧
    (s.faultStopped k g c fcode th pc).rd CPU_CLk_COREc_STATUS.FCODE k c = fcode ∧
    (s.faultStopped k g c fcode th pc).rd CPU_CLk_COREc_STATUS.FTHREAD k c = th ∧
    (s.faultStopped k g c fcode th pc).rd CPU_CLk_CFG.RETIRE_POLICY k = s.rd CPU_CLk_CFG.RETIRE_POLICY k := by
  have hwfn : (s.faultNoted k c fcode th pc).wf = true := faultNoted_wf hwf
  obtain ⟨hcode, hthread, hpolicy⟩ := faultNoted_shows (pc := pc) hwf hk hc hf hth
  obtain ⟨hstop, hkept⟩ := setCore_shows hwfn hk hc (v := 2) (by decide)
  have hwfs := setCore_wf (k := k) (c := c) hwfn 2
  have hwft : (((s.faultNoted k c fcode th pc).setCore k c 2).stopThreads k g c).wf = true := (State.stopThreads_keep ..).wf hwfs
  have hsame : SameClusters (((s.faultNoted k c fcode th pc).setCore k c 2).stopThreads k g c) (s.faultStopped k g c fcode th pc) :=
    (SameClusters.forceAbort ..).trans (.of_keep (State.showParts_keep ..) rfl)
  have hcore {f : Fld} (hf : IsCoreFld f) (hlo : 4 ≤ f.lo) : (s.faultStopped k g c fcode th pc).rd f k c =
      ((s.faultNoted k c fcode th pc).setCore k c 2).rd f k c := (hsame.core hwft hf hk hc).trans (rd_stopThreads hwfs hk hc g hf hlo)
  refine ⟨(hcore isCoreFld_cstate (by decide)).trans hstop, ?_, ?_, ?_⟩
  · exact (hcore isCoreFld_fcode (by decide)).trans ((hkept _ isCoreFld_fcode (by decide)).trans hcode)
  · exact (hcore isCoreFld_fthread (by decide)).trans ((hkept _ isCoreFld_fthread (by decide)).trans hthread)
  · exact ((same_faultStopped ..).rd hwfn rfl (by decide) (by decide) hk).trans hpolicy

/-- A fault with no policy leaves the core stopped. -/
theorem coreFault_stops (hwf : s.wf = true) (hrun : s.coreRuns k c th = true) (h1 : 1 ≤ fcode) (h5 : fcode ≤ 5)
    (hpolicy : s.rd CPU_CLk_CFG.RETIRE_POLICY k = 0) : Does (.coreFault k c fcode th pc) s (fun t => t.coreState k c = 2 ∧
      t.rd CPU_CLk_COREc_STATUS.FCODE k c = fcode ∧ t.rd CPU_CLk_COREc_STATUS.FTHREAD k c = th) := by
  obtain ⟨hk, hc, hth, -, g, hg⟩ := of_coreRuns hrun
  obtain ⟨hstop, hcode, hthread, hkept⟩ := faultStopped_shows (pc := pc) hwf hk hc (by omega : fcode < 256) hth g
  refine does_of_exec (exec_coreFault hrun h1 h5) ?_
  rw [coreFault_eq hg, faultPolicy_none (hkept.trans hpolicy)]
  exact ⟨hstop, hcode, hthread⟩

/-! ### Deadlock (R375) -/

/-- In any store a register that holds more than its reset value stays, whatever other register is written. -/
def ListedStays (a : Nat) (s t : State) : Prop := s.reg a ≠ resetOf a → t.reg a = s.reg a

theorem ListedStays.refl {a : Nat} (s : State) : ListedStays a s s := fun _ => rfl

theorem ListedStays.trans {a : Nat} {s t u : State} (h1 : ListedStays a s t) (h2 : ListedStays a t u) : ListedStays a s u :=
  fun h => (h2 (by rwa [h1 h])).trans (h1 h)

theorem ListedStays.of_regs {a : Nat} {s t : State} (h : t.regs = s.regs) : ListedStays a s t := fun _ => by rw [State.reg, h, State.reg]

theorem ListedStays.ite {a : Nat} {s t u : State} {c : Prop} [Decidable c] (ht : ListedStays a s t) (hu : ListedStays a s u) :
    ListedStays a s (if c then t else u) := by
  split
  · exact ht
  · exact hu

theorem ListedStays.setReg {a b : Nat} (s : State) (v : Word) (hb : a ≠ b) : ListedStays a s (s.setReg b v) :=
  fun h => cellGet_cellSet_of_lt_or_ne s.regs v hb (.inr h)

theorem ListedStays.wr {a : Nat} (s : State) {f : Fld} (v i j : Nat) (ha : a ≠ f.addr i j) : ListedStays a s (s.wr f v i j) := by
  unfold State.wr
  split
  · exact .setReg s _ ha
  · exact .refl s

theorem ListedStays.wr64 {a : Nat} (s : State) {f : Fld} (v i : Nat) (hlo : a ≠ f.addr i 0) (hhi : a ≠ f.addr i 0 + 4) :
    ListedStays a s (s.wr64 f v i) := by
  unfold State.wr64
  split
  · exact (ListedStays.setReg s _ hlo).trans (.setReg _ _ hhi)
  · exact .refl s

theorem ListedStays.count {a : Nat} (s : State) {f : Fld} (i : Nat) (hlo : a ≠ f.addr i 0) (hhi : a ≠ f.addr i 0 + 4) :
    ListedStays a s (s.count f i) := by
  unfold State.count
  exact .wr64 s _ _ hlo hhi

/-- What a raise writes, it writes in the event unit's counts and in Calipers. -/
theorem ListedStays.raise {a : Nat} (h1 : 0x400000 ≤ a) (h2 : a < 0x500000) {n : Nat} (hn : n < 512) (s : State) (items : List Item) :
    ListedStays a s (s.raise n items) := by
  have hcount (u : State) (i : Nat) (hi : i < 7) : ListedStays a u (u.count EVT_cnt_LO.COUNT i) :=
    .count u i (by simp only [Fld.addr, EVT_cnt_LO.COUNT]; omega) (by simp only [Fld.addr, EVT_cnt_LO.COUNT]; omega)
  have hheld (r : EvRec) : ListedStays a s (s.holdRec r) := (hcount s 0 (by decide)).trans (.of_regs rfl)
  have hevt (u : State) (e : EvtSt) : ListedStays a u { u with evt := e } := .of_regs rfl
  have hbump (u : State) : ListedStays a u (u.calBump 1536 97 1).1 :=
    rel_calBump .refl .trans
      (fun u v e => .wr64 u v e (by simp only [Fld.addr, CAL_CNTe_LO.COUNT]; omega) (by simp only [Fld.addr, CAL_CNTe_LO.COUNT]; omega))
      (fun u e => .wr u _ _ _ (by simp only [Fld.addr, CAL_OVFk.OVF]; omega)) u 1536 97 1
  unfold State.raise
  extract_lets key x y
  have hx : ListedStays a s x :=
    (hcount s 2 (by decide)).trans (.wr _ _ _ _ (by simp only [Fld.addr, EVT_SRCs_CTL.SUPPRESSED]; omega))
  clear_value x
  have hy : ListedStays a s y := hx.trans (hbump x)
  clear_value y
  refine .ite ?_ (hheld _)
  split
  · exact hy.trans (hevt _ _)
  · exact (hheld _).trans (hevt _ _)

/-- The core shows its threads waiting, and the deadlock is counted and told. -/
def State.deadlocked (s : State) (k c : Nat) : State :=
  ((s.wr CPU_CLk_COREc_STATUS.WAITING (15 - s.rd CPU_CLk_COREc_STATUS.PARKED k c) k c).count CPU_cnt_LO.COUNT 3).raise (400 + 4 * k + 2) [i8 c]

theorem act_deadlocked (hk : k < 8) (hact : s.on CPU_CLk_CFG.DL_ACT k = true) : (s.deadlocked k c).on CPU_CLk_CFG.DL_ACT k = true := by
  have haddr : CPU_CLk_CFG.DL_ACT.addr k 0 = 0x481000 + 0x100 * k := by simp only [Fld.addr, CPU_CLk_CFG.DL_ACT]; omega
  have hreset : ∀ k < 8, resetOf (0x481000 + 0x100 * k) = 0 := by decide +kernel
  have hlisted : s.reg (CPU_CLk_CFG.DL_ACT.addr k 0) ≠ resetOf (CPU_CLk_CFG.DL_ACT.addr k 0) := by
    intro h
    rw [State.on, State.rd, h, haddr, hreset k hk] at hact
    exact absurd hact (by decide)
  have hwait : 0x481000 + 0x100 * k ≠ CPU_CLk_COREc_STATUS.WAITING.addr k c := by
    simp only [Fld.addr, CPU_CLk_COREc_STATUS.WAITING]
    omega
  have hcnt : 0x481000 + 0x100 * k ≠ CPU_cnt_LO.COUNT.addr 3 0 ∧ 0x481000 + 0x100 * k ≠ CPU_cnt_LO.COUNT.addr 3 0 + 4 := by
    simp only [Fld.addr, CPU_cnt_LO.COUNT]
    omega
  have hstay : ListedStays (0x481000 + 0x100 * k) s (s.deadlocked k c) :=
    (ListedStays.wr s _ k c hwait).trans ((ListedStays.count _ 3 hcnt.1 hcnt.2).trans
      (.raise (by omega) (by omega) (by omega) _ _))
  rw [← haddr] at hstay
  rw [on_of_rd (rd_of_reg (hstay hlisted)), hact]

theorem exec_coreDeadlock {since g : Nat} (hg : s.logical k c = some g) (hrun : s.coreRuns k c th = true)
    (hhalt : s.cpu.halted.any (onCore k g) = false) (hact : s.on CPU_CLk_CFG.DL_ACT k = true) :
    exec (.coreDeadlock k c th pc since) s =
      .next (((s.advanceTo (since + 1000 * max 1 (s.rd CPU_CLk_CFG.DL_US k))).deadlocked k c).coreFault k c 6 th pc) := by
  obtain ⟨hk, -⟩ := of_coreRuns hrun
  have hon := act_deadlocked (s := s.advanceTo (since + 1000 * max 1 (s.rd CPU_CLk_CFG.DL_US k))) (c := c) hk
    ((on_of_rd (rd_advanceTo ..)).trans hact)
  change execCoreDeadlock k c th pc since s = _
  rw [execCoreDeadlock, hg]
  exact (if_neg (by simp [hrun, hhalt])).trans (if_pos hon)

theorem tick_deadlocked (s : State) (k c : Nat) : s.tick ≤ (s.deadlocked k c).tick :=
  ((State.raise_keep ..).step (((Keep.refl 0x400110004 _).wr .cpu rfl rfl).count .cpu rfl rfl) rfl).tick

theorem le_tick_deadlock (s : State) (t k c th pc : Nat) : t ≤ (((s.advanceTo t).deadlocked k c).coreFault k c 6 th pc).tick :=
  (advanceTo_le_tick s t).trans ((tick_deadlocked (s.advanceTo t) k c).trans (State.coreFault_keep ..).tick)

end

/-! ## Commands of a cluster (R368 to R370) -/

theorem forEach_mem {α : Type} {R : State → State → Prop} (hrefl : ∀ s, R s s) (htrans : ∀ {s t u}, R s t → R t u → R s u)
    {f : α → State → State} (h : ∀ y u, R u (f y u)) {l : List α} {x : α} (hx : x ∈ l) (s : State) :
    ∃ w, R s w ∧ R (f x w) (forEach l f s) := by
  induction l generalizing s with
  | nil => exact absurd hx List.not_mem_nil
  | cons y l ih =>
    rcases List.mem_cons.1 hx with rfl | hx
    · exact ⟨s, hrefl s, forEach_rel hrefl htrans (fun z _ => h z) _⟩
    · obtain ⟨w, hw, hrest⟩ := ih hx (f y s)
      exact ⟨w, htrans (h y s) hw, hrest⟩

section
variable {s : State} {who k c : Nat}

/-- CTRL records the core that a command names. -/
def State.named (s : State) (k c : Nat) : State := s.wr CPU_CLk_CTRL.CORE c k

/-- Naming a core changes no other register of the cluster. -/
theorem rd_named (hwf : s.wf = true) {f : Fld} {i j : Nat} (hne : f.addr i j ≠ 0x481008 + 0x100 * k) : (s.named k c).rd f i j = s.rd f i j :=
  rd_wr_addr hwf (by simp only [Fld.addr, CPU_CLk_CTRL.CORE] at hne ⊢; omega)

theorem logical_of_rd {t : State} (h : t.rd CPU_CLk_STATUS.MAP k = s.rd CPU_CLk_STATUS.MAP k) (d : Nat) : t.logical k d = s.logical k d := by
  simp only [State.logical, State.physCore, h]

theorem status_ne_ctrl (k : Nat) : CPU_CLk_STATUS.MAP.addr k 0 ≠ 0x481008 + 0x100 * k := by
  simp only [Fld.addr, CPU_CLk_STATUS.MAP]
  omega

theorem named_shows (hwf : s.wf = true) : (∀ d, (s.named k c).logical k d = s.logical k d) ∧
    (s.named k c).rd CPU_CLk_STATUS.STATE k = s.rd CPU_CLk_STATUS.STATE k ∧ ∀ d < 5, (s.named k c).coreState k d = s.coreState k d := by
  have hstatus := status_ne_ctrl k
  refine ⟨fun d => logical_of_rd (rd_named hwf hstatus) d, rd_named hwf hstatus, fun d _ => rd_named hwf ?_⟩
  simp only [Fld.addr, CPU_CLk_COREc_STATUS.CSTATE]
  omega

theorem lt_of_logical {g : Nat} (hg : s.logical k c = some g) : g < 4 := List.mem_range.1 (List.mem_of_find?_eq_some hg)

section
variable (hopen : s.shut who = false) (hk : k < 8)
include hopen hk

/-- A command that R370 refuses is counted and ignored. -/
theorem exec_clusterCmd_refused {i : Instr} (hi : i = .coreRestart who k c ∨ i = .coreRetire who k c ∨ i = .clusterReload who k)
    (hmay : s.mayCommand who k = false) : exec i s = .next s.bad := by
  have hcmd (f : State → State) : s.clusterCmd who k c f = .next s.bad :=
    (if_neg (by omega)).trans (if_pos (by simp [hmay]))
  have hshut : ¬ s.shut who = true := by simp [hopen]
  rcases hi with rfl | rfl | rfl
  · exact (if_neg hshut).trans (hcmd _)
  · exact (if_neg hshut).trans (hcmd _)
  · exact (if_neg hshut).trans ((if_neg (by omega)).trans (if_pos (by simp [hmay])))

variable (hwf : s.wf = true) (hc : c < 5) (hmay : s.mayCommand who k = true)
include hwf hc hmay

theorem exec_coreRestart {g : Nat} (hg : s.logical k c = some g) (hst : s.coreState k c = 2) (hrun : s.rd CPU_CLk_STATUS.STATE k = 0) :
    exec (.coreRestart who k c) s = .next ((s.named k c).warmStart k g c) := by
  obtain ⟨hlog, hstate, hcore⟩ := named_shows (k := k) (c := c) hwf
  have hgo : (decide (c < 5) && (s.named k c).coreState k c == 2 && (s.named k c).rd CPU_CLk_STATUS.STATE k == 0) = true := by
    simp [hc, hcore c hc, hst, hstate, hrun]
  change execCoreRestart who k c s = _
  rw [execCoreRestart, if_neg (by simp [hopen]), State.clusterCmd, if_neg (by omega), if_neg (by simp [hmay]), ← State.named]
  simp only [hlog, hg, hgo, if_true]

theorem exec_coreRetire (hst : s.coreState k c = 2 ∨ s.coreState k c = 0) (hrun : s.rd CPU_CLk_STATUS.STATE k = 0) :
    exec (.coreRetire who k c) s = .next ((s.named k c).retireCore k c) := by
  obtain ⟨-, hstate, hcore⟩ := named_shows (k := k) (c := c) hwf
  change execCoreRetire who k c s = _
  rw [execCoreRetire, if_neg (by simp [hopen]), State.clusterCmd, if_neg (by omega), if_neg (by simp [hmay]), ← State.named,
    if_pos (by simpa [hc, hcore c hc, hstate, hrun] using hst)]
end
end

end Sys2Proof.Machine

/-!
The reload of a cluster, the return of a retired core, and the doorbell of the transmit rings.
-/
namespace Sys2Proof.Machine

/-! ## Restore and self-test (R368) -/

section
variable {s : State} {k c : Nat} (hwf : s.wf = true) (hk : k < 8) (hc : c < 5)

theorem exec_coreRestore (hwf : s.wf = true) (hk : k < 8) (hc : c < 5) (hst : s.coreState k c = 3) :
    exec (.coreRestore k c) s = .next ((s.named k c).setCore k c 4) := by
  obtain ⟨-, -, hcore⟩ := named_shows (k := k) (c := c) hwf
  change execCoreRestore k c s = _
  rw [execCoreRestore, if_neg (by omega), ← State.named]
  exact if_pos (by simp [hc, hcore c hc, hst])

theorem exec_coreSelfTestDone_passed (hk : k < 8) (hc : c < 5) (hst : s.coreState k c = 4) :
    exec (.coreSelfTestDone k c true) s = .next ((s.setCore k c 1).wr CPU_CLk_STATUS.SPARE c k) := by
  change execCoreSelfTestDone k c true s = _
  rw [execCoreSelfTestDone, if_neg (by simp [hk, hc, hst])]
  exact if_pos rfl

theorem exec_coreSelfTestDone_failed (hk : k < 8) (hc : c < 5) (hst : s.coreState k c = 4) :
    exec (.coreSelfTestDone k c false) s = .next (s.setCore k c 3) := by
  change execCoreSelfTestDone k c false s = _
  rw [execCoreSelfTestDone, if_neg (by simp [hk, hc, hst])]
  exact if_neg Bool.false_ne_true

include hwf hk hc

/-- The spare is the core that passed. -/
theorem spare_shows : ((s.setCore k c 1).wr CPU_CLk_STATUS.SPARE c k).coreState k c = 1 ∧
    ((s.setCore k c 1).wr CPU_CLk_STATUS.SPARE c k).rd CPU_CLk_STATUS.SPARE k = c := by
  have hwfs := setCore_wf (k := k) (c := c) hwf 1
  have hcore : CPU_CLk_COREc_STATUS.CSTATE.addr k c ≠ CPU_CLk_STATUS.SPARE.addr k 0 := by
    simp only [Fld.addr, CPU_CLk_COREc_STATUS.CSTATE, CPU_CLk_STATUS.SPARE]
    omega
  have hfit : CPU_CLk_STATUS.SPARE.fits k 0 = true := by simp [Fld.fits, CPU_CLk_STATUS.SPARE, hk]
  exact ⟨(rd_wr_addr hwfs hcore).trans (setCore_shows hwf hk hc (by decide)).1,
    (rd_wr_same hwfs (by decide) hfit).trans (Nat.mod_eq_of_lt (show c < 2 ^ 3 by omega))⟩
end

/-! ## Reload (R369) -/

section
variable {s : State} {k : Nat}

theorem status_fits (hk : k < 8) {f : Fld} (h1 : f.n1 = 8) (h2 : f.n2 = 1) : f.fits k 0 = true := by simp [Fld.fits, h1, h2, hk]

theorem physCore_of_rd {t : State} (h : t.rd CPU_CLk_STATUS.MAP k = s.rd CPU_CLk_STATUS.MAP k) (g : Nat) : t.physCore k g = s.physCore k g := by
  rw [State.physCore, h, State.physCore]

/-- A reload is counted, and the cluster is in it. -/
def State.reloadBegun (s : State) (k : Nat) : State := (s.count CPU_cnt_LO.COUNT 2).wr CPU_CLk_STATUS.STATE 1 k

/-- The core at one logical position stops, its threads parked. -/
def State.positionStopped (s : State) (k g : Nat) : State :=
  ((s.setCore k (s.physCore k g) 2).stopThreads k g (s.physCore k g)).wr CPU_CLk_COREc_STATUS.PARKED 15 k (s.physCore k g)

/-- Every core at a logical position stops. -/
def State.reloadStopped (s : State) (k : Nat) : State := forEach (List.range 4) (fun g s => s.positionStopped k g) s

/-- What the cores had staged is aborted. -/
def State.reloadAborted (s : State) (k : Nat) : State :=
  (s.forceAbort (fun o => decide (coreOwner k 0 ≤ o) && decide (o ≤ coreOwner k 3))).showParts k

theorem exec_clusterReload {who : Nat} (hopen : s.shut who = false) (hk : k < 8) (hmay : s.mayCommand who k = true)
    (hrun : s.rd CPU_CLk_STATUS.STATE k = 0) :
    exec (.clusterReload who k) s = .next (((s.reloadBegun k).reloadStopped k).reloadAborted k) :=
  (if_neg (by simp [hopen])).trans ((if_neg (by omega)).trans ((if_neg (by simp [hmay])).trans (if_neg (by simp [hrun]))))

theorem reloadBegun_shows (hwf : s.wf = true) (hk : k < 8) : (s.reloadBegun k).rd CPU_CLk_STATUS.STATE k = 1 ∧
    (s.reloadBegun k).rd CPU_CLk_STATUS.MAP k = s.rd CPU_CLk_STATUS.MAP k ∧
    (s.reloadBegun k).rd64 CPU_cnt_LO.COUNT 2 = (s.rd64 CPU_cnt_LO.COUNT 2 + 1) % 2 ^ 64 := by
  have hwfc : (s.count CPU_cnt_LO.COUNT 2).wf = true := wr64_wf hwf ..
  have hmap : (s.count CPU_cnt_LO.COUNT 2).rd CPU_CLk_STATUS.MAP k = s.rd CPU_CLk_STATUS.MAP k := by
    unfold State.count
    refine rd_of_reg (reg_wr64_other hwf ?_ ?_)
    all_goals
      simp only [Fld.addr, CPU_CLk_STATUS.MAP, CPU_cnt_LO.COUNT]
      omega
  refine ⟨rd_wr_same hwfc (by decide) (status_fits hk rfl rfl), (rd_wr_bits hwfc (by decide) (.inr (by decide))).trans hmap, ?_⟩
  refine Eq.trans (rd64_of_reg (reg_wr_other hwfc ?_) (reg_wr_other hwfc ?_)) (rd64_count_same hwf rfl)
  all_goals
    simp only [Fld.addr, CPU_CLk_STATUS.STATE, CPU_cnt_LO.COUNT]
    omega

theorem CoresOnly.positionStopped (s : State) (g : Nat) : CoresOnly k 2 s (s.positionStopped k g) :=
  ((CoresOnly.setCore s _).trans (.stopThreads _ g _)).trans (.wrCore _ isCoreFld_parked (by decide) 15 _)

theorem positionStopped_shows (hwf : s.wf = true) (hk : k < 8) {g : Nat} (hc : s.physCore k g < 5) :
    (s.positionStopped k g).coreState k (s.physCore k g) = 2 := by
  have hset := (setCore_shows hwf hk hc (v := 2) (by decide)).1
  exact (((CoresOnly.stopThreads (k := k) (v := 2) _ g _).trans (.wrCore _ isCoreFld_parked (by decide) 15 _)).state
    (setCore_wf hwf 2) hk _ hc hset)

theorem CoresOnly.reload (s : State) : CoresOnly k 2 s ((s.reloadStopped k).reloadAborted k) :=
  (CoresOnly.forEach (fun g u => .positionStopped u g) s).trans
    ((CoresOnly.of_same (.forceAbort ..)).trans (.of_same (.of_keep (State.showParts_keep ..) rfl)))

/-- Every core at a logical position stands stopped. -/
theorem reload_stops (hwf : s.wf = true) (hk : k < 8) {g : Nat} (hg : g < 4) (hc : s.physCore k g < 5) :
    ((s.reloadStopped k).reloadAborted k).coreState k (s.physCore k g) = 2 := by
  obtain ⟨w, hw, hrest⟩ := forEach_mem (R := CoresOnly k 2) .refl .trans (fun g u => .positionStopped u g) (List.mem_range.2 hg) s
  have hphys : w.physCore k g = s.physCore k g := physCore_of_rd (hw.rd hwf rfl (by decide) (by decide) hk) g
  have hstop := positionStopped_shows (g := g) (hw.wf hwf) hk (hphys ▸ hc)
  rw [hphys] at hstop
  have hwfw := (CoresOnly.positionStopped (k := k) w g).wf (hw.wf hwf)
  exact (hrest.trans ((CoresOnly.of_same (.forceAbort ..)).trans (.of_same (.of_keep (State.showParts_keep ..) rfl)))).state hwfw hk _ hc hstop

theorem clusterReload_shows (hwf : s.wf = true) (hk : k < 8) (hphys : ∀ g, g < 4 → s.physCore k g < 5) :
    (((s.reloadBegun k).reloadStopped k).reloadAborted k).rd CPU_CLk_STATUS.STATE k = 1 ∧
    (((s.reloadBegun k).reloadStopped k).reloadAborted k).rd64 CPU_cnt_LO.COUNT 2 = (s.rd64 CPU_cnt_LO.COUNT 2 + 1) % 2 ^ 64 ∧
    ∀ g, g < 4 → (((s.reloadBegun k).reloadStopped k).reloadAborted k).coreState k (s.physCore k g) = 2 := by
  have hwfb : (s.reloadBegun k).wf = true := wr_wf (wr64_wf hwf ..) ..
  obtain ⟨hstate, hmap, hcount⟩ := reloadBegun_shows hwf hk
  have hrel := CoresOnly.reload (k := k) (s.reloadBegun k)
  have hcnt {a : Nat} (h1 : 0x480100 ≤ a) (h2 : a < 0x480138) := hrel.reg hwfb a (.inl ⟨h1, h2⟩) (fun c _ => by
    unfold coreAddr
    omega)
  refine ⟨(hrel.rd hwfb rfl (by decide) (by decide) hk).trans hstate,
    (rd64_of_reg (hcnt (by decide) (by decide)) (hcnt (by decide) (by decide))).trans hcount, fun g hg => ?_⟩
  have heq := physCore_of_rd hmap g
  rw [← heq]
  exact reload_stops hwfb hk hg (heq ▸ hphys g hg)

/-! ### The end of a reload -/

/-- Every partition's region is loaded again, and the cluster is out of the reload. -/
def State.reloaded (s : State) (k : Nat) : State := (forEach (s.partsOf k) (fun p s => s.coldLoad p) s).wr CPU_CLk_STATUS.STATE 0 k

/-- The partitions start on every logical position. -/
def State.allStarted (s : State) (k : Nat) : State := forEach (List.range 4) (fun g s => s.warmStart k g (s.physCore k g)) s

theorem exec_clusterReloadDone (hk : k < 8) (hst : s.rd CPU_CLk_STATUS.STATE k = 1) :
    exec (.clusterReloadDone k) s = .next (((s.reloaded k).allStarted k).raise (400 + 4 * k + 1) [i8 7]) := if_neg (by simp [hk, hst])

theorem reloaded_shows (hwf : s.wf = true) (hk : k < 8) : (s.reloaded k).wf = true ∧ (s.reloaded k).rd CPU_CLk_STATUS.STATE k = 0 ∧
    (s.reloaded k).rd CPU_CLk_STATUS.MAP k = s.rd CPU_CLk_STATUS.MAP k := by
  have hload : SameClusters s (forEach (s.partsOf k) (fun p s => s.coldLoad p) s) :=
    .forEach (fun _ u => .of_keep (State.coldLoad_keep ..) rfl) s
  have hwfl := hload.wf hwf
  refine ⟨wr_wf hwfl .., rd_wr_same hwfl (by decide) (status_fits hk rfl rfl), (rd_wr_bits hwfl (by decide) (.inr (by decide))).trans
    (hload.rd hwf ?_)⟩
  simp only [isClusterReg, Fld.addr, CPU_CLk_STATUS.MAP]
  omega

theorem CoresOnly.allStarted (s : State) : CoresOnly k 0 s ((s.allStarted k).raise (400 + 4 * k + 1) [i8 7]) :=
  (CoresOnly.forEach (fun g u => .warmStart u k g _) s).trans (.of_same (.raise ..))

theorem clusterReloadDone_shows (hwf : s.wf = true) (hk : k < 8) (hphys : ∀ g, g < 4 → s.physCore k g < 5) :
    (((s.reloaded k).allStarted k).raise (400 + 4 * k + 1) [i8 7]).rd CPU_CLk_STATUS.STATE k = 0 ∧
    ∀ g, g < 4 → (((s.reloaded k).allStarted k).raise (400 + 4 * k + 1) [i8 7]).coreState k (s.physCore k g) = 0 := by
  obtain ⟨hwfr, hstate, hmap⟩ := reloaded_shows hwf hk
  refine ⟨((CoresOnly.allStarted (k := k) (s.reloaded k)).rd hwfr rfl (by decide) (by decide) hk).trans hstate, fun g hg => ?_⟩
  obtain ⟨w, hw, hrest⟩ := forEach_mem (R := CoresOnly k 0) (f := fun g s => s.warmStart k g (s.physCore k g)) .refl .trans
    (fun g u => .warmStart u k g _) (List.mem_range.2 hg) (s.reloaded k)
  have heq : w.physCore k g = s.physCore k g := (physCore_of_rd (hw.rd hwfr rfl (by decide) (by decide) hk) g).trans (physCore_of_rd hmap g)
  have hactive := (warmStart_shows (hw.wf hwfr) hk (hphys g hg) g).1
  rw [← heq] at hactive
  have hlt := hphys g hg
  rw [← heq] at hlt ⊢
  exact (hrest.trans (.of_same (.raise ..))).state ((CoresOnly.warmStart w k g _).wf (hw.wf hwfr)) hk _ hlt hactive
end

/-! ## Transmit rings (R376) -/

section
variable {s : State} {k : Nat} {val : Word} (hwf : s.wf = true) (hk : k < 8)

/-- How many entries a tail submits. -/
def State.fwDue (s : State) (k : Nat) (val : Word) : Nat := (val.toNat + 2 ^ 32 - (tabGet s.cpu.tx k).cons) % 2 ^ 32

/-- The tail is written. -/
def State.tailed (s : State) (k : Nat) (val : Word) : State := s.wr CPU_CLk_TXTAIL.TAIL val.toNat k

include hwf hk

theorem exec_fwTxDoorbell : exec (.fwTxDoorbell k val) s = .next (if 2 ^ s.rd CPU_CLk_TXCFG.LOG2 k < s.fwDue k val then s.tailed k val
    else (s.tailed k val).fwTake k val.toNat (s.fwDue k val)) := by
  have hlog : (s.tailed k val).rd CPU_CLk_TXCFG.LOG2 k = s.rd CPU_CLk_TXCFG.LOG2 k :=
    rd_wr_addr hwf (by simp only [Fld.addr, CPU_CLk_TXCFG.LOG2, CPU_CLk_TXTAIL.TAIL]; omega)
  have hdue : (s.tailed k val).fwDue k val = s.fwDue k val := by
    rw [State.fwDue, State.tailed, cpu_wr, ← State.fwDue]
  change execFwTxDoorbell k val s = _
  rw [execFwTxDoorbell, if_neg (by omega)]
  extract_lets u due
  have hu : u = s.tailed k val := rfl
  have hd : due = u.fwDue k val := rfl
  clear_value due
  clear_value u
  rw [hd, hu, hlog, hdue]
  exact (apply_ite ok _ _ _).symm
end

/-! ## The obligations -/

/-- Settles O22: what a command does to one core leaves the registers of the cluster that the next step reads. -/
theorem coreCommands : Obligations.CoreCommands := by
  unfold Obligations.CoreCommands
  refine ⟨?fault, ?stops, ?watchdog, ?restart, ?retire, ?refused, ?restore, ?passed, ?failed, ?reload, ?reloadDone, ?deadlock, ?ahead,
    ?doorbell⟩
  case fault => exact fun s k c fcode th pc hrun h1 h5 => does_of_exec (exec_coreFault hrun h1 h5) rfl
  case stops => exact fun s k c fcode th pc hwf hrun h1 h5 hpolicy => coreFault_stops hwf hrun h1 h5 hpolicy
  case watchdog =>
    intro s k c th pc since hrun hbusy
    exact does_of_exec (exec_coreWatchdogExpire hrun hbusy) ⟨(advanceTo_le_tick ..).trans (State.coreFault_keep ..).tick, rfl⟩
  case restart =>
    intro s who k c g hopen hwf hk hc hmay hg hst hrun
    obtain ⟨hactive, hlog⟩ := warmStart_shows (wr_wf hwf ..) hk hc g (s := s.named k c)
    exact does_of_exec (exec_coreRestart hopen hk hwf hc hmay hg hst hrun) ⟨hactive, hlog.trans (Nat.mod_eq_of_lt (lt_of_logical hg)), rfl⟩
  case retire =>
    intro s who k c hopen hwf hk hc hmay hst hrun
    exact does_of_exec (exec_coreRetire hopen hk hwf hc hmay hst hrun) rfl
  case refused => exact fun s c who k x hopen hcmd hk hmay => does_of_exec (exec_clusterCmd_refused hopen hk hcmd hmay) rfl
  case restore =>
    intro s k c hwf hk hc hst
    have hst' : (s.named k c).coreState k c = 3 := ((named_shows hwf).2.2 c hc).trans hst
    have htold := told_setCore (s := s.named k c) (k := k) (c := c) (v := 4) (by omega)
    have hname : Keep 0x10000 s (s.named k c) := (Keep.refl _ s).wr .cpu rfl rfl
    rw [told_of_evt (hname.parts .evt rfl)] at htold
    exact does_of_exec (exec_coreRestore hwf hk hc hst) ⟨(setCore_shows (wr_wf hwf ..) hk hc (by decide)).1, htold⟩
  case passed => exact fun s k c hwf hk hc hst => does_of_exec (exec_coreSelfTestDone_passed hk hc hst) (spare_shows hwf hk hc)
  case failed =>
    exact fun s k c hwf hk hc hst => does_of_exec (exec_coreSelfTestDone_failed hk hc hst) (setCore_shows hwf hk hc (by decide)).1
  case reload =>
    intro s who k hopen hwf hk hmay hrun hphys
    exact does_of_exec (exec_clusterReload hopen hk hmay hrun) (clusterReload_shows hwf hk hphys)
  case reloadDone => exact fun s k hwf hk hst hphys => does_of_exec (exec_clusterReloadDone hk hst) (clusterReloadDone_shows hwf hk hphys)
  case deadlock =>
    intro s k c th pc since g hg hrun hhalt hact
    refine does_of_exec (exec_coreDeadlock hg hrun hhalt hact) ⟨le_tick_deadlock .., ?_⟩
    rw [State.deadlocked, rd_advanceTo]
  case ahead =>
    intro s k val hwf hk hahead
    refine does_of_exec (exec_fwTxDoorbell hwf hk) ?_
    rw [if_pos (show 2 ^ s.rd CPU_CLk_TXCFG.LOG2 k < s.fwDue k val from hahead)]
    exact ⟨(rd_wr_same hwf (by decide) (status_fits hk rfl rfl)).trans (Nat.mod_eq_of_lt val.isLt), cpu_wr ..⟩
  case doorbell =>
    intro s k val hwf hk hroom
    exact does_of_exec (exec_fwTxDoorbell hwf hk) (if_neg (Nat.not_lt.2 hroom))

/-- Settles O58: what `mayCommand` asks of the requester is that it is a thread of another cluster. -/
theorem protectedClusterCommands : Obligations.ProtectedClusterCommands := by
  unfold Obligations.ProtectedClusterCommands
  refine ⟨?refused, ?taken⟩
  case refused =>
    intro s c who k x hopen hwf hk hprot hwho hcmd
    have hmay : s.mayCommand who k = false := by
      rcases hwho with h | h <;> simp [State.mayCommand, hprot, h]
    exact does_of_exec (exec_clusterCmd_refused hopen hk hcmd hmay) ⟨rd_bad_count hwf, (State.bad_keep s).parts .cpu rfl,
      (State.bad_keep s).parts .stage rfl, fun a ha => (State.bad_keep s).regs hwf a (by rw [zoneNo, ha]; rfl)⟩
  case taken =>
    intro s who k x g hopen hwf hk hx hprot hthread hother hrun hg hst hphys
    have hmay : s.mayCommand who k = true := by simp [State.mayCommand, hthread, hother]
    exact ⟨does_of_exec (exec_coreRestart hopen hk hwf hx hmay hg hst hrun) (warmStart_shows (wr_wf hwf ..) hk hx g).1,
      does_of_exec (exec_coreRetire hopen hk hwf hx hmay (.inl hst) hrun) rfl,
      does_of_exec (exec_clusterReload hopen hk hmay hrun) (clusterReload_shows hwf hk hphys).1⟩

end Sys2Proof.Machine

/-!
What a reset of the device domain leaves: the commands at which the device, or the always-on island, is reset.
-/
namespace Sys2Proof.Machine

/-! ## The device reset (R467, R468) -/

/-- The device domain as the reset finds it: the always-on counter carries time, and the flash has stopped. -/
def State.halted (s : State) (lost : Bool) : State := s.timCarry.flashStops lost

/-- The cause that a reset records. -/
def State.causeOf (s : State) (cause : Nat) (lost : Bool) : Nat :=
  if (s.halted lost).boot.phase ≤ 1 then min (s.halted lost).pwr.cause cause else cause

/-- The device domain as the reset clears it. -/
def State.cleared (s : State) (cause : Nat) (lost : Bool) : State := (s.halted lost).clearDevice (s.causeOf cause lost) lost

/-- The status of PWR and TIM is written again. -/
def State.statusBack (s : State) (unknown : Nat) : State :=
  ((s.wr PWR_STATUS.PSTATE 0).wr PWR_STATUS.RESET_CAUSE 0).wr TIM_STATUS.TIME_UNKNOWN unknown

theorem deviceReset_eq (s : State) (cause : Nat) (lost : Bool) : s.deviceReset cause lost =
    ((s.cleared cause lost).statusBack ((s.halted lost).rd TIM_STATUS.TIME_UNKNOWN)).showOtp.showUpdRec := rfl

theorem halted_keep (s : State) (lost : Bool) : Keep 0x4100000800000000 s (s.halted lost) :=
  (State.flashStops_keep ..).step ((State.timCarry_keep s).mono rfl) rfl

theorem halted_phase (s : State) (lost : Bool) : (s.halted lost).boot.phase = s.boot.phase := by
  obtain ⟨-, hphase, -⟩ := (halted_keep s lost).parts .boot rfl
  exact hphase

theorem causeOf_running {s : State} (h : 2 ≤ s.boot.phase) (cause : Nat) (lost : Bool) : s.causeOf cause lost = cause :=
  if_neg (by rw [halted_phase]; omega)

theorem statusBack_keep (s : State) (unknown : Nat) : Keep 0xa s (s.statusBack unknown) :=
  (((Keep.refl 0xa s).wr .pwr rfl rfl).wr .pwr rfl rfl).wr .tim rfl rfl

/-- From the clearing on, the reset writes registers of PWR, TIM and BOOT alone. -/
theorem deviceReset_keep_cleared (s : State) (cause : Nat) (lost : Bool) : Keep 0x8000a (s.cleared cause lost) (s.deviceReset cause lost) :=
  (State.showUpdRec_keep _).step ((State.showOtp_keep _).step ((statusBack_keep (s.cleared cause lost) _).mono rfl) rfl) rfl

theorem clearDevice_reg {s : State} (hwf : s.wf = true) (cause : Nat) (lost : Bool) {a : Nat} (ha : alwaysOn a = false) :
    (s.clearDevice cause lost).reg a = resetOf a :=
  cellGet_cellDrop_hit (fun k => !alwaysOn k) (State.wf_iff.1 hwf).1 (by rw [ha]; rfl)

theorem cleared_wf {s : State} (hwf : s.wf = true) (cause : Nat) (lost : Bool) : (s.cleared cause lost).wf = true :=
  (State.clearDevice_keep ..).wf ((halted_keep s lost).wf hwf)

theorem ne_of_alwaysOn {a b : Nat} (ha : alwaysOn a = false) (hb : alwaysOn b = true) : a ≠ b := fun e => by
  rw [e, hb] at ha
  exact Bool.noConfusion ha

/-- A register outside the always-on domain, BOOT and TIM reads its reset value after the reset. -/
theorem deviceReset_reg {s : State} (hwf : s.wf = true) (cause : Nat) (lost : Bool) {a : Nat} (ha : alwaysOn a = false)
    (hboot : blkOfAddr a ≠ some .boot) (htim : blkOfAddr a ≠ some .tim) : (s.deviceReset cause lost).reg a = resetOf a := by
  have hpwr : a ≠ 0x10000 := ne_of_alwaysOn ha (by decide)
  have htime : a ≠ 0x40010 := fun e => htim (by rw [e]; decide)
  have hzone : zoneNo a ≠ 19 := fun e => hboot (zoneBit_injective ((zoneNo_eq a).symm.trans e))
  have hbits : Nat.testBit 0x80000 (zoneNo a) = false := by
    rw [show 0x80000 = 2 ^ 19 from rfl, Nat.testBit_two_pow]
    simpa using hzone.symm
  have hc := cleared_wf hwf cause lost
  have hshown : Keep 0x80000 ((s.cleared cause lost).statusBack ((s.halted lost).rd TIM_STATUS.TIME_UNKNOWN)) (s.deviceReset cause lost) :=
    (State.showUpdRec_keep _).step (State.showOtp_keep _) rfl
  rw [hshown.regs ((statusBack_keep _ _).wf hc) a hbits, State.statusBack, reg_wr_other (wr_wf (wr_wf hc ..) ..) htime,
    reg_wr_other (wr_wf hc ..) hpwr, reg_wr_other hc hpwr]
  exact clearDevice_reg ((halted_keep s lost).wf hwf) _ lost ha

/-- The device is in Running after the reset. -/
theorem deviceReset_pstate {s : State} (hwf : s.wf = true) (cause : Nat) (lost : Bool) :
    (s.deviceReset cause lost).rd PWR_STATUS.PSTATE = 0 := by
  have hc := cleared_wf hwf cause lost
  have hshown : Keep 0x80000 ((s.cleared cause lost).statusBack ((s.halted lost).rd TIM_STATUS.TIME_UNKNOWN)) (s.deviceReset cause lost) :=
    (State.showUpdRec_keep _).step (State.showOtp_keep _) rfl
  have hstored : ((s.cleared cause lost).wr PWR_STATUS.PSTATE 0).rd PWR_STATUS.PSTATE = 0 := rd_wr_same hc (by decide) rfl
  rw [hshown.rdIn .pwr ((statusBack_keep _ _).wf hc) rfl rfl rfl, State.statusBack, rd_wr_addr (wr_wf (wr_wf hc ..) ..) (by decide),
    rd_wr_bits (wr_wf hc ..) (by decide) (.inl (by decide)), hstored]

theorem deviceReset_restarted (s : State) (cause : Nat) (lost : Bool) : Restarted s (s.deviceReset cause lost) := by
  have k := deviceReset_keep_cleared s cause lost
  obtain ⟨-, hphase, -⟩ := k.parts .boot rfl
  refine ⟨hphase, congrArg Pins.rstoutN (k.parts .pins rfl), k.parts .rings rfl, congrArg HifSt.reads (k.parts .hif rfl),
    congrArg EvtSt.held (k.parts .evt rfl), k.parts .stage rfl, k.parts .winLive rfl, fun hwf => ⟨deviceReset_pstate hwf cause lost, ?_⟩⟩
  exact fun a ha hboot htim => deviceReset_reg hwf cause lost ha hboot htim

theorem clearDevice_shows (s : State) (cause : Nat) (lost : Bool) : (s.clearDevice cause lost).pwr.cause = cause ∧
    (s.clearDevice cause lost).pwr.vin = s.pwr.vin ∧ (s.clearDevice cause lost).pwr.vaux = s.pwr.vaux ∧
    (s.clearDevice cause lost).pins.resetN = s.pins.resetN := ⟨rfl, rfl, rfl, rfl⟩

/-- What the reset records of the supplies and of the pins that no reset drives. -/
theorem deviceReset_shows (s : State) (cause : Nat) (lost : Bool) : (s.deviceReset cause lost).pwr.cause = s.causeOf cause lost ∧
    (s.deviceReset cause lost).pwr.vin = s.pwr.vin ∧ (s.deviceReset cause lost).pwr.vaux = s.pwr.vaux ∧
    (s.deviceReset cause lost).pins.resetN = s.pins.resetN := by
  have k := deviceReset_keep_cleared s cause lost
  obtain ⟨hcause, hvin, hvaux, hresetN⟩ := clearDevice_shows (s.halted lost) (s.causeOf cause lost) lost
  rw [k.parts .pwr rfl, k.parts .pins rfl, State.cleared]
  exact ⟨hcause, hvin.trans (congrArg PwrSt.vin ((halted_keep s lost).parts .pwr rfl)),
    hvaux.trans (congrArg PwrSt.vaux ((halted_keep s lost).parts .pwr rfl)),
    hresetN.trans (congrArg Pins.resetN ((halted_keep s lost).parts .pins rfl))⟩

theorem deviceReset_memories (s : State) (cause : Nat) (lost : Bool) : (s.deviceReset cause lost).mram = s.mram ∧
    (s.deviceReset cause lost).rt = (if lost then [] else s.rt) ∧ (s.deviceReset cause lost).bulk = (if lost then [] else s.bulk) ∧
    (s.deviceReset cause lost).boot.digest = s.boot.digest := by
  have k := deviceReset_keep_cleared s cause lost
  have h := halted_keep s lost
  have hrt : (s.cleared cause lost).rt = if lost then [] else (s.halted lost).rt := rfl
  have hbulk : (s.cleared cause lost).bulk = if lost then [] else (s.halted lost).bulk := rfl
  refine ⟨(k.parts .mram rfl).trans (h.parts .mram rfl), ?_, ?_, ?_⟩
  · rw [k.parts .rt rfl, hrt, h.parts .rt rfl]
  · rw [k.parts .bulk rfl, hbulk, h.parts .bulk rfl]
  · obtain ⟨hcleared, -⟩ := k.parts .otp rfl
    obtain ⟨hhalted, -⟩ := h.parts .otp rfl
    exact hcleared.trans hhalted

/-- A state that shows of the device domain what a restarted one does is restarted. -/
theorem Restarted.same {s u t : State} (h : Restarted s u) (hphase : t.boot.phase = u.boot.phase) (hrst : t.pins.rstoutN = u.pins.rstoutN)
    (hrings : t.rings = u.rings) (hreads : t.hif.reads = u.hif.reads) (hheld : t.evt.held = u.evt.held) (hstage : t.stage = u.stage)
    (hwin : t.winLive = u.winLive) (hregs : s.wf = true → t.rd PWR_STATUS.PSTATE = u.rd PWR_STATUS.PSTATE ∧
      ∀ a, alwaysOn a = false → t.reg a = u.reg a) : Restarted s t := by
  obtain ⟨h1, h2, h3, h4, h5, h6, h7, hr⟩ := h
  refine ⟨hphase.trans h1, hrst.trans h2, hrings.trans h3, hreads.trans h4, hheld.trans h5, hstage.trans h6, hwin.trans h7, fun hwf => ?_⟩
  obtain ⟨hps, hreg⟩ := hr hwf
  obtain ⟨hps', hreg'⟩ := hregs hwf
  exact ⟨hps'.trans hps, fun a ha hb ht => (hreg' a ha).trans (hreg a ha hb ht)⟩

/-- The state before the reset counts with its canonical form alone. -/
theorem Restarted.before {s s' t : State} (h : Restarted s' t) (hwf : s.wf = true → s'.wf = true) : Restarted s t := by
  obtain ⟨h1, h2, h3, h4, h5, h6, h7, hr⟩ := h
  exact ⟨h1, h2, h3, h4, h5, h6, h7, fun h => hr (hwf h)⟩

/-! ## The device fault (R459) -/

/-- The journal queue with the record of the fault. -/
def State.faultQueued (s : State) (cause blk : Nat) : State :=
  let r := s.mkRec 1 [i8 cause, i8 blk] none
  let q := match s.evt.jwriting, s.evt.jq with | true, h :: t => h :: r :: t | _, q => r :: q
  { s with evt := { s.evt with jq := q.take 64, jlost := s.evt.jlost + (q.length - 64) } }

/-- FAULT_N is driven. -/
def State.faultDriven (s : State) : State := { s with pins := { s.pins with faultN := false } }

theorem deviceFault_eq (s : State) (cause blk : Nat) :
    s.deviceFault cause blk = ((s.faultQueued cause blk).deviceReset cause).faultDriven.startJournal := rfl

theorem startJournal_cases (s : State) : s.startJournal = s.showJournal ∨ s.startJournal = s.slotBegun.showJournal := by
  unfold State.startJournal
  split
  · exact .inl rfl
  · exact .inr rfl

theorem reg_showJournal {s : State} (hwf : s.wf = true) {a : Nat} (ha : a ≠ EVT_STATUS.QUEUE.addr 0 0) : s.showJournal.reg a = s.reg a := by
  rw [State.showJournal, reg_wr_other (f := EVT_STATUS.HELD) (wr_wf hwf ..) ha, reg_wr_other hwf ha]

theorem reg_startJournal {s : State} (hwf : s.wf = true) {a : Nat} (ha : a ≠ EVT_STATUS.QUEUE.addr 0 0) : s.startJournal.reg a = s.reg a := by
  rcases startJournal_cases s with h | h
  · rw [h, reg_showJournal hwf ha]
  · rw [h, reg_showJournal (slotBegun_wf hwf) ha]
    rfl

theorem held_startJournal (s : State) : s.startJournal.evt.held = s.evt.held := by
  rcases startJournal_cases s with h | h
  · rw [h, (State.showJournal_keep s).parts .evt rfl]
  · rw [h, (State.showJournal_keep s.slotBegun).parts .evt rfl]
    rfl

theorem faultQueued_wf {s : State} (hwf : s.wf = true) (cause blk : Nat) : (s.faultQueued cause blk).wf = true := hwf

theorem faultQueued_shows (s : State) (cause blk : Nat) : (s.faultQueued cause blk).boot = s.boot ∧ (s.faultQueued cause blk).pwr = s.pwr :=
  ⟨rfl, rfl⟩

theorem faultDriven_shows (u : State) : u.faultDriven.boot = u.boot ∧ u.faultDriven.pwr = u.pwr ∧ u.faultDriven.pins.faultN = false ∧
    u.faultDriven.regs = u.regs := ⟨rfl, rfl, rfl, rfl⟩

/-- FAULT_N and the journal leave the device restarted. -/
theorem Restarted.journal {s u : State} (h : Restarted s u) (hwfu : s.wf = true → u.wf = true) : Restarted s u.faultDriven.startJournal := by
  have hdriven : Restarted s u.faultDriven := h.same rfl rfl rfl rfl rfl rfl rfl fun _ => ⟨rfl, fun _ _ => rfl⟩
  have hwfd : s.wf = true → u.faultDriven.wf = true := hwfu
  generalize u.faultDriven = v at hdriven hwfd
  have k := State.startJournal_keep v
  obtain ⟨-, hphase, -⟩ := k.parts .boot rfl
  refine hdriven.same hphase (congrArg Pins.rstoutN (k.parts .pins rfl)) (k.parts .rings rfl) (congrArg HifSt.reads (k.parts .hif rfl))
    (held_startJournal v) (k.parts .stage rfl) (k.parts .winLive rfl) fun hwf => ⟨?_, fun a ha => ?_⟩
  · exact k.rdIn .pwr (hwfd hwf) rfl rfl rfl
  · exact reg_startJournal (hwfd hwf) (ne_of_alwaysOn ha (by decide))

theorem deviceFault_restarted (s : State) (cause blk : Nat) : Restarted s (s.deviceFault cause blk) := by
  rw [deviceFault_eq]
  exact ((deviceReset_restarted (s.faultQueued cause blk) cause false).before fun hwf => faultQueued_wf hwf cause blk).journal
    fun hwf => (State.deviceReset_keep ..).wf (faultQueued_wf hwf cause blk)

theorem journal_shows (u : State) : u.faultDriven.startJournal.pins.faultN = false ∧ u.faultDriven.startJournal.pwr = u.pwr := by
  have k := State.startJournal_keep u.faultDriven
  obtain ⟨-, hpwr, hpin, -⟩ := faultDriven_shows u
  rw [k.parts .pins rfl, k.parts .pwr rfl]
  exact ⟨hpin, hpwr⟩

theorem deviceFault_shows (s : State) (cause blk : Nat) : (s.deviceFault cause blk).pins.faultN = false ∧
    (2 ≤ s.boot.phase → (s.deviceFault cause blk).pwr.cause = cause) := by
  obtain ⟨hboot, -⟩ := faultQueued_shows s cause blk
  obtain ⟨hcause, -⟩ := deviceReset_shows (s.faultQueued cause blk) cause false
  obtain ⟨hpin, hpwr⟩ := journal_shows ((s.faultQueued cause blk).deviceReset cause)
  rw [deviceFault_eq]
  refine ⟨hpin, fun hrun => ?_⟩
  rw [hpwr, hcause, causeOf_running (by rwa [hboot])]

/-- The clock does not run back over a device fault. -/
theorem deviceFault_tick (s : State) (cause blk : Nat) : s.tick ≤ (s.deviceFault cause blk).tick := (State.deviceFault_keep s cause blk).tick

/-! ## The causes within the device (R458, R459, R462, R463) -/

section
variable {s : State}

theorem exec_watchdogExpire (h : s.wdogRuns = true) : exec .watchdogExpire s =
    .next ((s.advanceTo (s.evt.wdogFrom + 1000000 * s.rd EVT_WDOG.TIMEOUT_MS)).deviceFault 5 2) := if_neg (by simp [h])

theorem exec_internalRamError_blockWide (s : State) {blk : Nat} (h : blk < 22) : exec (.internalRamError blk .blockWide) s =
    .next (((s.hifRamError blk .blockWide).noteRam true blk 0).deviceFault 6 blk) := if_neg (by omega)

theorem exec_internalRamError_corrected (s : State) {blk : Nat} (h : blk < 22) (i : Nat) : exec (.internalRamError blk (.corrected i)) s =
    .next (((s.hifRamError blk (.corrected i)).noteRam false blk i).raise 3 [i8 blk]) := if_neg (by omega)

/-- The pin PWR_OK is at the level that the supply gives. -/
def State.pwrOkAt (s : State) (back : Bool) : State := { s with pins := { s.pins with pwrOk := back } }

theorem exec_supplyTrip_running {rail : Nat} (back : Bool) (hr : rail < 12) (hphase : s.boot.phase ≠ 0) (hrun : s.pstate = 0) :
    exec (.supplyTrip rail back) s = .next ((s.deviceFault 7 1).pwrOkAt back) := by
  change execSupplyTrip rail back s = _
  rw [execSupplyTrip, if_neg (by omega), if_pos (by simp [hphase, hrun])]
  rfl

theorem exec_supplyTrip_reset {rail : Nat} (back : Bool) (hr : rail < 12) (hphase : s.boot.phase = 0) :
    exec (.supplyTrip rail back) s = .next (s.pwrOkAt back) := by
  change execSupplyTrip rail back s = _
  rw [execSupplyTrip, if_neg (by omega), if_neg (by simp [hphase])]
  rfl

/-- The trip temperature holds the device in reset. -/
def State.overheated (s : State) : State := s.setPwr { s.pwr with hot := true }

theorem exec_thermalTrip {c : Int} (hc : 16 * 165 ≤ c) (hphase : s.boot.phase ≠ 0) : exec (.thermalTrip c) s =
    .next ((s.setTemp c).deviceFault 8 1).overheated := by
  have hset : (s.setTemp c).boot.phase = s.boot.phase := by
    obtain ⟨-, h, -⟩ := (State.setTemp_keep s c).parts .boot rfl
    exact h
  change execThermalTrip c s = _
  rw [execThermalTrip, if_neg (by omega), if_pos (by simp [hset, hphase])]
  rfl
end

theorem Restarted.pwrOkAt {s u : State} (h : Restarted s u) (back : Bool) : Restarted s (u.pwrOkAt back) :=
  h.same rfl rfl rfl rfl rfl rfl rfl fun _ => ⟨rfl, fun _ _ => rfl⟩

theorem Restarted.overheated {s u : State} (h : Restarted s u) : Restarted s u.overheated :=
  h.same rfl rfl rfl rfl rfl rfl rfl fun _ => ⟨rfl, fun _ _ => rfl⟩

theorem pwrOkAt_shows (u : State) (back : Bool) : (u.pwrOkAt back).pins.faultN = u.pins.faultN ∧ (u.pwrOkAt back).pins.pwrOk = back ∧
    (u.pwrOkAt back).pwr = u.pwr := ⟨rfl, rfl, rfl⟩

theorem overheated_shows (u : State) : u.overheated.pins = u.pins ∧ u.overheated.pwr.hot = true ∧ u.overheated.pwr.cause = u.pwr.cause :=
  ⟨rfl, rfl, rfl⟩

/-- A device fault after something that left the boot phase and the canonical form. -/
theorem deviceFault_after {m : Nat} {s u : State} (k : Keep m s u) (hm : m.testBit 59 = false) (cause blk : Nat) :
    Restarted s (u.deviceFault cause blk) ∧ (u.deviceFault cause blk).pins.faultN = false ∧
      (2 ≤ s.boot.phase → (u.deviceFault cause blk).pwr.cause = cause) := by
  obtain ⟨-, hphase, -⟩ := k.parts .boot hm
  obtain ⟨hpin, hcause⟩ := deviceFault_shows u cause blk
  exact ⟨(deviceFault_restarted u cause blk).before k.wf, hpin, fun h => hcause (hphase ▸ h)⟩

/-! ## Pins and supplies (R461, R469) -/

/-- RESET_N is low. -/
def State.resetNLow (s : State) : State := { s with pins := { s.pins with resetN := false } }

theorem exec_resetNAssert {s : State} (h : s.pins.resetN = true) : exec .resetNAssert s = .next (s.resetNLow.deviceReset 3) :=
  if_neg (by simp [h])

theorem resetNLow_shows (s : State) : s.resetNLow.pins.resetN = false ∧ s.resetNLow.boot = s.boot ∧ (s.wf = true → s.resetNLow.wf = true) :=
  ⟨rfl, rfl, id⟩

/-- The input stage has stopped. -/
def State.unpowered (s : State) : State :=
  { s with pwr := { s.pwr with powered := false }, pins := { s.pins with pwrOk := false } }

theorem exec_vinOff {s : State} {mv : Nat} (h : s.pwr.powered = true) : exec (.vinOff mv) s =
    .next ((s.setVin mv).deviceReset 2 true).unpowered := by
  have hset : (s.setVin mv).pwr.powered = true := (setVin_pwr s mv).2.trans h
  change execVinOff mv s = _
  rw [execVinOff, if_neg (by simp [hset])]
  rfl

theorem Restarted.unpowered {s u : State} (h : Restarted s u) : Restarted s u.unpowered :=
  h.same rfl rfl rfl rfl rfl rfl rfl fun _ => ⟨rfl, fun _ _ => rfl⟩

theorem unpowered_shows (u : State) : u.unpowered.pwr.powered = false ∧ u.unpowered.pins.pwrOk = false ∧ u.unpowered.rt = u.rt ∧
    u.unpowered.bulk = u.bulk ∧ u.unpowered.pwr.vin = u.pwr.vin := ⟨rfl, rfl, rfl, rfl, rfl⟩

/-! ### The always-on island (R461, R467) -/

/-- The supply of the always-on island. -/
def State.vauxAt (s : State) (present : Bool) : State := { s with pwr := { s.pwr with vaux := present } }

/-- The always-on island as its reset clears it. -/
def State.auxCleared (s : State) : State := (s.deviceReset 1).clearAux

/-- The input levels and the boot block are shown again. -/
def State.auxShown (s : State) : State :=
  ((s.wr PWR_STATUS.STBY_PIN (b2n (!s.pins.stbyReqN))).wr PWR_STATUS.PWRFAIL (b2n (!s.pins.pwrfailN))).showOtp.showUpdRec

/-- The refusals are looked at again, with the level of VIN that is known. -/
def State.vinAgain (s : State) : State := match s.pwr.vin with | some v => s.setVin v | none => s.nvCheck

theorem auxReset_eq (s : State) : s.auxReset = s.auxCleared.auxShown.vinAgain := rfl

theorem exec_vauxLow {s : State} (mv : Nat) (h : s.pwr.vaux = true) : exec (.vauxLow mv) s =
    .next ((s.vauxAt false).auxReset.setVaux mv) := if_neg (by simp [h])

theorem exec_vauxPowerOn {s : State} (mv : Nat) (h : s.pwr.vaux = false) : exec (.vauxPowerOn mv) s =
    .next ((s.vauxAt true).auxReset.setVaux mv).leaveReset := if_neg (by simp [h])

theorem clearAux_shows (s : State) : s.clearAux.pwr.vaux = s.pwr.vaux ∧ s.clearAux.pwr.cause = 1 ∧ s.clearAux.boot.phase = s.boot.phase ∧
    s.clearAux.boot.digest = s.boot.digest ∧ s.clearAux.rings = [] ∧ s.clearAux.hif.reads = [] ∧ s.clearAux.mram = s.mram :=
  ⟨rfl, rfl, rfl, rfl, rfl, rfl, rfl⟩

theorem auxShown_keep (s : State) : Keep 0x80002 s s.auxShown :=
  (State.showUpdRec_keep _).step ((State.showOtp_keep _).step (((Keep.refl 0x80002 s).wr .pwr rfl rfl).wr .pwr rfl rfl) rfl) rfl

theorem vinAgain_keep (s : State) : Keep 0x1080000600100006 s s.vinAgain := by
  unfold State.vinAgain
  split
  · exact (State.setVin_keep ..).mono rfl
  · exact State.nvCheck_keep s

theorem nvCheck_supply (s : State) : s.nvCheck.pwr.vaux = s.pwr.vaux ∧ s.nvCheck.pwr.cause = s.pwr.cause := by
  rcases nvCheck_cases s with ⟨x, h⟩ | ⟨c, hoff, h⟩
  · rw [h]
    exact ⟨rfl, rfl⟩
  · rw [h, nvBegin_pwr c hoff]
    exact ⟨rfl, rfl⟩

theorem vinAgain_supply (s : State) : s.vinAgain.pwr.vaux = s.pwr.vaux ∧ s.vinAgain.pwr.cause = s.pwr.cause := by
  unfold State.vinAgain
  split
  case h_1 v _ =>
    obtain ⟨hvaux, hcause⟩ := nvCheck_supply (s.vinShown v)
    rw [setVin_eq, hvaux, hcause, vinShown_pwr]
    exact ⟨rfl, rfl⟩
  case h_2 => exact nvCheck_supply s

/-- What the reset of the island leaves, from the state with its supply on. -/
theorem auxReset_shows (s : State) : s.auxReset.pwr.vaux = s.pwr.vaux ∧ s.auxReset.pwr.cause = 1 ∧ s.auxReset.boot.phase = 0 ∧
    s.auxReset.boot.digest = s.boot.digest ∧ s.auxReset.rings = [] ∧ s.auxReset.hif.reads = [] ∧ s.auxReset.mram = s.mram := by
  have ks := auxShown_keep s.auxCleared
  have kv := vinAgain_keep s.auxCleared.auxShown
  obtain ⟨hvaux, hcause⟩ := vinAgain_supply s.auxCleared.auxShown
  obtain ⟨hv, hc, hphase, hdigest, hrings, hreads, hmram⟩ := clearAux_shows (s.deviceReset 1)
  obtain ⟨-, -, hv0, -⟩ := deviceReset_shows s 1 false
  obtain ⟨hmram0, -, -, hdigest0⟩ := deviceReset_memories s 1 false
  obtain ⟨hphase0, -⟩ := deviceReset_restarted s 1 false
  obtain ⟨-, hps, -⟩ := ks.parts .boot rfl
  obtain ⟨-, hpv, -⟩ := kv.parts .boot rfl
  obtain ⟨hds, -⟩ := ks.parts .otp rfl
  obtain ⟨hdv, -⟩ := kv.parts .otp rfl
  rw [auxReset_eq]
  refine ⟨?_, ?_, (hpv.trans hps).trans (hphase.trans hphase0), (hdv.trans hds).trans (hdigest.trans hdigest0), ?_, ?_, ?_⟩
  · rw [hvaux, ks.parts .pwr rfl]
    exact hv.trans hv0
  · rw [hcause, ks.parts .pwr rfl]
    exact hc
  · rw [kv.parts .rings rfl, ks.parts .rings rfl]
    exact hrings
  · rw [kv.parts .hif rfl, ks.parts .hif rfl]
    exact hreads
  · rw [kv.parts .mram rfl, ks.parts .mram rfl]
    exact hmram.trans hmram0

theorem vauxAt_shows (s : State) (b : Bool) : (s.vauxAt b).pwr.vaux = b ∧ (s.vauxAt b).boot = s.boot ∧ (s.vauxAt b).mram = s.mram :=
  ⟨rfl, rfl, rfl⟩

/-- The same, once PWR shows the level of VAUX. -/
theorem auxReset_setVaux_shows (s : State) (b : Bool) (mv : Nat) : let t := (s.vauxAt b).auxReset.setVaux mv
    t.pwr.vaux = b ∧ t.pwr.cause = 1 ∧ t.boot.phase = 0 ∧ t.rings = [] ∧ t.hif.reads = [] ∧ t.mram = s.mram ∧
      t.boot.digest = s.boot.digest := by
  obtain ⟨hv, hc, hphase, hdigest, hrings, hreads, hmram⟩ := auxReset_shows (s.vauxAt b)
  obtain ⟨hb, hboot, hm⟩ := vauxAt_shows s b
  have k := State.setVaux_keep (s.vauxAt b).auxReset mv
  obtain ⟨-, hp, -⟩ := k.parts .boot rfl
  obtain ⟨hd, -⟩ := k.parts .otp rfl
  refine ⟨?_, ?_, hp.trans hphase, ?_, ?_, ?_, hd.trans (hdigest.trans (by rw [hboot]))⟩
  · rw [k.parts .pwr rfl, hv, hb]
  · rw [k.parts .pwr rfl, hc]
  · rw [k.parts .rings rfl, hrings]
  · rw [k.parts .hif rfl, hreads]
  · rw [k.parts .mram rfl, hmram, hm]

theorem leaveReset_phase {s : State} (h : s.boot.phase = 0) : s.leaveReset.boot.phase ≤ 1 := by
  unfold State.leaveReset
  split
  · exact Nat.le_refl 1
  · omega

theorem leaveReset_rest (s : State) : s.leaveReset.pwr = s.pwr ∧ s.leaveReset.mram = s.mram ∧ s.leaveReset.rings = s.rings :=
  have k := State.leaveReset_keep s
  ⟨k.parts .pwr rfl, k.parts .mram rfl, k.parts .rings rfl⟩

/-! ## Errors in an internal RAM that reset nothing (R282, R458) -/

theorem ToldGrows.tlpOut (s : State) (f : Nat) (o : Out) : ToldGrows s (s.tlpOut f o) :=
  (ToldGrows.of_keep (State.out_keep s o) rfl).trans
    ((ToldGrows.of_keep ((Keep.refl 0x200000 (s.out o)).count .hif (f := HIF_cnt_LO.COUNT) (i := 1) rfl rfl) rfl).trans (.cal _ _ _ _))

theorem aer_corrected (s : State) (f : Nat) : s.aer f .correctedInternal =
    s.tlpOut (s.reporter f) (.aer (s.reporter f) .correctedInternal .cor) := by
  rw [State.aer]
  exact if_pos rfl

theorem hifRamError_corrected (s : State) (blk i : Nat) : ToldGrows s (s.hifRamError blk (.corrected i)) := by
  unfold State.hifRamError
  split
  · exact .refl s
  · change ToldGrows s (s.aer 0 .correctedInternal)
    rw [aer_corrected]
    exact .tlpOut s _ _

theorem noteRam_shows {s : State} (hwf : s.wf = true) {blk : Nat} (hblk : blk < 22) (ue : Bool) (i : Nat) :
    (s.noteRam ue blk i).on EVT_RAM_ERR.UE = ue ∧ (s.noteRam ue blk i).rd EVT_RAM_ERR.BLOCK = blk := by
  have hue := wr_wf hwf EVT_RAM_ERR.UE (b2n ue) 0 0
  have hblkwf := wr_wf hue EVT_RAM_ERR.BLOCK blk 0 0
  have hset : (s.wr EVT_RAM_ERR.UE (b2n ue)).on EVT_RAM_ERR.UE = ue := on_wr_same hwf (by decide) rfl rfl ue
  have hnum : ((s.wr EVT_RAM_ERR.UE (b2n ue)).wr EVT_RAM_ERR.BLOCK blk).rd EVT_RAM_ERR.BLOCK = blk % 2 ^ 5 := rd_wr_same hue (by decide) rfl
  refine ⟨?_, ?_⟩
  · refine Eq.trans ?_ hset
    exact on_of_rd ((rd_wr_bits (f := EVT_RAM_ERR.INDEX) (g := EVT_RAM_ERR.UE) hblkwf (by decide) (.inl (by decide))).trans
      (rd_wr_bits (f := EVT_RAM_ERR.BLOCK) (g := EVT_RAM_ERR.UE) hue (by decide) (.inl (by decide))))
  · refine (rd_wr_bits (f := EVT_RAM_ERR.INDEX) (g := EVT_RAM_ERR.BLOCK) hblkwf (by decide) (.inl (by decide))).trans (hnum.trans (Nat.mod_eq_of_lt ?_))
    omega

theorem exec_internalRamError_ring {s : State} {blk : Nat} (g : Nat) (hblk : blk < 22) (hhif : blk ≠ Blk.hif.bit) :
    exec (.internalRamError blk (.ring g)) s =
      .next (((s.noteRam true blk g).restartItem (.ring g)).raise 2 [i8 blk, i16 g]) := by
  have herr : s.hifRamError blk (.ring g) = s := if_pos (by simpa using hhif)
  have hrestart (u : State) : u.ramRestart blk (.ring g) = u.restartItem (.ring g) := if_pos (by simpa using hhif)
  change execInternalRamError blk (.ring g) s = _
  rw [execInternalRamError, if_neg (by omega), herr]
  exact congrArg (fun u : State => Host.Outcome.next (u.raise 2 [i8 blk, i16 g])) (hrestart _)

theorem exec_internalRamError_hifRing {s : State} {g : Nat} {j : Job} (hj : s.headJob g = some j) :
    exec (.internalRamError Blk.hif.bit (.ring g)) s =
      .next ((((s.aer 0 .uncorrectableInternal).noteRam true Blk.hif.bit g).finishJob g j.idx 3).raise 2 [i8 Blk.hif.bit, i16 g]) := by
  have hrings : ((s.aer 0 .uncorrectableInternal).noteRam true Blk.hif.bit g).rings = s.rings :=
    ((State.noteRam_keep ..).parts .rings rfl).trans ((State.aer_keep ..).parts .rings rfl)
  have hhead : ((s.aer 0 .uncorrectableInternal).noteRam true Blk.hif.bit g).headJob g = some j := by
    rw [← hj, State.headJob, State.ring, hrings, State.headJob, State.ring]
  have herr : s.hifRamError Blk.hif.bit (.ring g) = s.aer 0 .uncorrectableInternal := if_neg (by decide)
  have hrestart (u : State) (h : u.headJob g = some j) : u.ramRestart Blk.hif.bit (.ring g) = u.finishJob g j.idx 3 := by
    rw [State.ramRestart, if_neg (by decide), h]
  change execInternalRamError Blk.hif.bit (.ring g) s = _
  rw [execInternalRamError, if_neg (by decide), herr]
  exact congrArg (fun u : State => Host.Outcome.next (u.raise 2 [i8 Blk.hif.bit, i16 g])) (hrestart _ hhead)

/-! ## The obligation -/

/-- Settles O23: every cause runs the one device reset, which drops every register outside the always-on domain; what follows it
writes the journal's status and the supply's own state. -/
theorem deviceResets : Obligations.DeviceResets := by
  unfold Obligations.DeviceResets
  refine ⟨?watchdog, ?blockWide, ?trip, ?thermal, ?resetN, ?vinOff, ?vauxLow, ?vauxOn, ?tripInReset, ?corrected, ?ring, ?hifRing⟩
  case watchdog =>
    intro s hrun
    refine does_of_exec (exec_watchdogExpire hrun) ?_
    obtain ⟨hre, hpin, hcause⟩ := deviceFault_after (State.advanceTo_keep s (s.evt.wdogFrom + 1000000 * s.rd EVT_WDOG.TIMEOUT_MS)) rfl 5 2
    exact ⟨hre, hpin, (advanceTo_le_tick ..).trans (deviceFault_tick ..), hcause⟩
  case blockWide =>
    intro s blk hblk
    exact does_of_exec (exec_internalRamError_blockWide s hblk)
      (deviceFault_after (m := 0x1000000400300004) ((State.noteRam_keep ..).step (State.hifRamError_keep ..) rfl) rfl 6 blk)
  case trip =>
    intro s rail back _ hrail hphase hrun
    refine does_of_exec (exec_supplyTrip_running back hrail hphase hrun) ?_
    obtain ⟨hpin, hcause⟩ := deviceFault_shows s 7 1
    obtain ⟨hf, hok, hpwr⟩ := pwrOkAt_shows (s.deviceFault 7 1) back
    exact ⟨(deviceFault_restarted s 7 1).pwrOkAt back, hf.trans hpin, hok, fun h => (congrArg PwrSt.cause hpwr).trans (hcause h)⟩
  case thermal =>
    intro s c hc hphase
    refine does_of_exec (exec_thermalTrip hc hphase) ?_
    obtain ⟨hre, hpin, hcause⟩ := deviceFault_after (State.setTemp_keep s c) rfl 8 1
    obtain ⟨hpins, hhot, hc⟩ := overheated_shows ((s.setTemp c).deviceFault 8 1)
    exact ⟨hre.overheated, (congrArg Pins.faultN hpins).trans hpin, hhot, fun h => hc.trans (hcause h)⟩
  case resetN =>
    intro s h
    refine does_of_exec (exec_resetNAssert h) ?_
    obtain ⟨hlow, hboot, hwf⟩ := resetNLow_shows s
    obtain ⟨hcause, -, -, hpin⟩ := deviceReset_shows s.resetNLow 3 false
    exact ⟨(deviceReset_restarted s.resetNLow 3 false).before hwf, hpin.trans hlow,
      fun hrun => hcause.trans (causeOf_running (by rwa [hboot]) 3 false)⟩
  case vinOff =>
    intro s mv h
    refine does_of_exec (exec_vinOff h) ?_
    obtain ⟨hpow, hok, hrt, hbulk, hvin⟩ := unpowered_shows ((s.setVin mv).deviceReset 2 true)
    obtain ⟨-, hrt0, hbulk0, -⟩ := deviceReset_memories (s.setVin mv) 2 true
    obtain ⟨-, hvin0, -, -⟩ := deviceReset_shows (s.setVin mv) 2 true
    exact ⟨((deviceReset_restarted (s.setVin mv) 2 true).before (State.setVin_keep s mv).wf).unpowered, hpow, hok, hrt.trans hrt0,
      hbulk.trans hbulk0, hvin.trans (hvin0.trans (setVin_pwr s mv).1)⟩
  case vauxLow => exact fun s mv h => does_of_exec (exec_vauxLow mv h) (auxReset_setVaux_shows s false mv)
  case vauxOn =>
    intro s mv h
    refine does_of_exec (exec_vauxPowerOn mv h) ?_
    obtain ⟨hv, hc, hphase, hrings, -, hmram, -⟩ := auxReset_setVaux_shows s true mv
    obtain ⟨hpwr, hm, hr⟩ := leaveReset_rest ((s.vauxAt true).auxReset.setVaux mv)
    exact ⟨(congrArg PwrSt.vaux hpwr).trans hv, (congrArg PwrSt.cause hpwr).trans hc, hm.trans hmram, hr.trans hrings, leaveReset_phase hphase⟩
  case tripInReset => exact fun s rail back hrail hphase => does_of_exec (exec_supplyTrip_reset back hrail hphase) rfl
  case corrected =>
    intro s blk i hwf hblk
    refine does_of_exec (exec_internalRamError_corrected s hblk i) ?_
    have hwfe := (State.hifRamError_keep s blk (.corrected i)).wf hwf
    have hwfn := (State.noteRam_keep _ false blk i).wf hwfe
    obtain ⟨hue, hnum⟩ := noteRam_shows hwfe hblk false i
    have hraise := (CountsOnly.raise ((s.hifRamError blk (.corrected i)).noteRam false blk i) 3 [i8 blk] none none).reg hwfn
      (EVT_RAM_ERR.UE.addr 0 0) (by unfold isCounted; decide)
    refine ⟨(on_of_rd (rd_of_reg hraise)).trans hue, (rd_of_reg (f := EVT_RAM_ERR.BLOCK) hraise).trans hnum, ?_⟩
    exact Nat.lt_of_le_of_lt ((hifRamError_corrected s blk i).trans (.of_keep (State.noteRam_keep ..) rfl) 3) (told_lt_raise ..)
  case ring => exact fun s blk g hblk hhif => does_of_exec (exec_internalRamError_ring g hblk hhif) rfl
  case hifRing => exact fun s g j hj => does_of_exec (exec_internalRamError_hifRing hj) rfl

end Sys2Proof.Machine

/-!
The start and the restarts of the device: the ROM, stage 2, the recovery loader and the reboots.
-/
namespace Sys2Proof.Machine

/-! ## The ROM (R414, R415, R417) -/

/-- Time returns at a start (R51, R52). -/
def State.timeBack (s : State) : State := if s.pwr.cause = 1 then s.setTim { aoTick := s.tick } else s.timReturn

/-- The straps are sampled, and the size of a slot is known. -/
def State.strapped (s : State) (straps half : Nat) : State :=
  State.setBoot { s with pins := { s.pins with straps := straps % 256 } } { s.boot with half := half }

/-- Half the flash of `mib` MiB. -/
def halfOf (mib : Nat) : Nat := max 16 (min 256 mib) * 2 ^ 20 / 2

/-- Every by-pass keeps the reason of the start. -/
def State.bypassNoted (s : State) : State :=
  forEach (List.range 12) (fun p u => (u.wr FPT_PAIRp_STATUS.REASON (if s.pwr.cause ≤ 2 then 1 else 2) p).setPair p
    { u.pair p with causes := u.bypCauses p }) { s with fpt := { s.fpt with powerHold := 0 } }

/-- The cause of the reset is shown and told. -/
def State.causeShown (s : State) : State := (s.wr PWR_STATUS.RESET_CAUSE s.pwr.cause).scanJournal.raise 0 [i8 s.pwr.cause]

/-- The boot block shows the OTP and the bus of the flash. -/
def State.bootShown (s : State) (straps : Nat) : State := s.showOtp.wr BOOT_STATUS.OCTAL (b2n (bitOf straps 0 && bitOf straps 1))

/-- The device as the ROM has set it up, before it looks at a slot. -/
def State.romStarted (s : State) (straps mib : Nat) : State :=
  ((((s.leaveReset.timeBack).strapped straps (halfOf mib)).bypassNoted).causeShown).bootShown straps

theorem timeBack_keep (s : State) : Keep 0x800000000 s s.timeBack := .ite (State.setTim_keep ..) (State.timReturn_keep s)

theorem bypassNoted_keep (s : State) : Keep 0x20000000010 s s.bypassNoted :=
  Keep.forEach ((Keep.refl _ s).fpt _ rfl) fun _ u => (State.setPair_keep ..).step ((Keep.refl 0x20000000010 u).wr .fpt rfl rfl) rfl

theorem causeShown_keep (s : State) : Keep 0x400100006 s s.causeShown :=
  (State.raise_keep ..).step ((State.scanJournal_keep _).step ((Keep.refl 0x400100006 s).wr .pwr rfl rfl) rfl) rfl

theorem bootShown_keep (s : State) (straps : Nat) : Keep 0x80000 s (s.bootShown straps) := (State.showOtp_keep s).wr .boot rfl rfl

/-- The ROM keeps the straps, the pins and the cause until it has chosen. -/
theorem afterStraps_keep (u : State) (straps : Nat) : Keep 0x20400180016 u ((u.bypassNoted).causeShown.bootShown straps) :=
  (bootShown_keep ..).step ((causeShown_keep _).step ((bypassNoted_keep u).mono rfl) rfl) rfl

theorem strapped_shows (s : State) (straps half : Nat) : (s.strapped straps half).pins.straps = straps % 256 ∧
    (s.strapped straps half).pins.rstoutN = s.pins.rstoutN ∧ (s.strapped straps half).pins.faultN = s.pins.faultN ∧
    (s.strapped straps half).boot.half = half ∧ (s.strapped straps half).boot.phase = s.boot.phase ∧
    (s.strapped straps half).boot.digest = s.boot.digest ∧ (s.strapped straps half).pwr = s.pwr ∧
    (s.wf = true → (s.strapped straps half).wf = true) := ⟨rfl, rfl, rfl, rfl, rfl, rfl, rfl, id⟩

section
variable {s : State} (hphase : s.boot.phase = 0) (hrun : s.mayRun = true)
include hphase hrun

theorem leaveReset_shows : s.leaveReset.boot.phase = 1 ∧ s.leaveReset.boot.digest = s.boot.digest ∧ s.leaveReset.pins.rstoutN = true ∧
    s.leaveReset.pins.faultN = true ∧ s.leaveReset.pwr = s.pwr := by
  rw [leaveReset_of_mayRun hphase hrun]
  exact ⟨rfl, rfl, rfl, rfl, rfl⟩

variable (straps mib : Nat)

theorem romStarted_shows : (s.romStarted straps mib).pins.straps = straps % 256 ∧ (s.romStarted straps mib).pins.rstoutN = true ∧
    (s.romStarted straps mib).pins.faultN = true ∧ (s.romStarted straps mib).boot.half = halfOf mib ∧
    (s.romStarted straps mib).boot.digest = s.boot.digest := by
  obtain ⟨-, hdigest, hrst, hfault, -⟩ := leaveReset_shows hphase hrun
  have kt := timeBack_keep s.leaveReset
  have ka := afterStraps_keep (s.leaveReset.timeBack.strapped straps (halfOf mib)) straps
  obtain ⟨hs, hr, hf, hh, -, hd, -⟩ := strapped_shows s.leaveReset.timeBack straps (halfOf mib)
  obtain ⟨-, -, hhalf, -⟩ := ka.parts .boot rfl
  obtain ⟨hotp, -⟩ := ka.parts .otp rfl
  obtain ⟨hotp', -⟩ := kt.parts .otp rfl
  have hpins : (s.romStarted straps mib).pins = (s.leaveReset.timeBack.strapped straps (halfOf mib)).pins := ka.parts .pins rfl
  have hpinst : s.leaveReset.timeBack.pins = s.leaveReset.pins := kt.parts .pins rfl
  rw [hpinst] at hr hf
  rw [hpins]
  exact ⟨hs, hr.trans hrst, hf.trans hfault, hhalf.trans hh, hotp.trans (hd.trans (hotp'.trans hdigest))⟩

omit hphase hrun in
theorem rd_causeShown {u : State} (hwf : u.wf = true) : u.causeShown.rd PWR_STATUS.RESET_CAUSE = u.pwr.cause % 256 := by
  have hset : (u.wr PWR_STATUS.RESET_CAUSE u.pwr.cause).rd PWR_STATUS.RESET_CAUSE = u.pwr.cause % 256 := rd_wr_same hwf (by decide) rfl
  have hwfw := wr_wf hwf PWR_STATUS.RESET_CAUSE u.pwr.cause 0 0
  rw [← hset, State.causeShown, (State.raise_keep ..).rdIn .pwr ((State.scanJournal_keep _).wf hwfw) rfl rfl rfl,
    (State.scanJournal_keep _).rdIn .pwr hwfw rfl rfl rfl]

theorem rd_romStarted (hwf : s.wf = true) : (s.romStarted straps mib).rd PWR_STATUS.RESET_CAUSE = s.pwr.cause % 256 := by
  obtain ⟨-, -, -, -, hpwr⟩ := leaveReset_shows hphase hrun
  have kt := timeBack_keep s.leaveReset
  obtain ⟨-, -, -, -, -, -, hp, hw⟩ := strapped_shows s.leaveReset.timeBack straps (halfOf mib)
  have kb := bypassNoted_keep (s.leaveReset.timeBack.strapped straps (halfOf mib))
  have hwfb := kb.wf (hw (kt.wf ((State.leaveReset_keep s).wf hwf)))
  have hcause : (s.leaveReset.timeBack.strapped straps (halfOf mib)).bypassNoted.pwr = s.pwr :=
    (kb.parts .pwr rfl).trans (hp.trans ((kt.parts .pwr rfl).trans hpwr))
  rw [State.romStarted, (bootShown_keep ..).rdIn .pwr ((causeShown_keep _).wf hwfb) rfl rfl rfl, rd_causeShown hwfb, hcause]

/-- The ROM has entered the recovery loader. -/
def State.inRecovery (u : State) : State := u.setBoot { u.boot with phase := 2, alt := 0 }

/-- The ROM looks at the slots. -/
def State.romChooses (u : State) (bad : Nat) : State := (u.romHeaders bad).romTry bad ((u.romHeaders bad).slotOrder bad)

theorem exec_romBoot_recovery (bad : Nat) (h : s.boot.digest.length ≠ 48 ∨ bitOf straps 6 = false) :
    exec (.romBoot straps mib bad) s = .next (s.romStarted straps mib).inRecovery := by
  obtain ⟨hone, -⟩ := leaveReset_shows hphase hrun
  obtain ⟨-, -, -, -, hdigest⟩ := romStarted_shows hphase hrun straps mib
  have hgo : (s.leaveReset.boot.phase != 1) = false := by simp [hone]
  have hrec : ((s.romStarted straps mib).boot.digest.length != 48 || !bitOf straps 6) = true := by simpa [hdigest] using h
  exact (if_neg (ne_true_of_eq_false hgo)).trans (if_pos hrec)

theorem exec_romBoot_slots (bad : Nat) (hkey : s.boot.digest.length = 48) (hsecure : bitOf straps 6 = true) :
    exec (.romBoot straps mib bad) s = .next ((s.romStarted straps mib).romChooses bad) := by
  obtain ⟨hone, -⟩ := leaveReset_shows hphase hrun
  obtain ⟨-, -, -, -, hdigest⟩ := romStarted_shows hphase hrun straps mib
  have hgo : (s.leaveReset.boot.phase != 1) = false := by simp [hone]
  have hslots : ((s.romStarted straps mib).boot.digest.length != 48 || !bitOf straps 6) = false := by simp [hdigest, hkey, hsecure]
  exact (if_neg (ne_true_of_eq_false hgo)).trans (if_neg (ne_true_of_eq_false hslots))
end

theorem inRecovery_shows (u : State) : u.inRecovery.boot.phase = 2 ∧ u.inRecovery.boot.alt = 0 ∧ u.inRecovery.pins = u.pins ∧
    u.inRecovery.boot.half = u.boot.half ∧ u.inRecovery.regs = u.regs := ⟨rfl, rfl, rfl, rfl, rfl⟩

/-- The ROM ends in the recovery loader, or in a slot's stage 2. -/
theorem romTry_ends (s : State) (bad : Nat) (l : List Nat) :
    (s.romTry bad l).boot.alt = 0 ∧ ((s.romTry bad l).boot.phase = 2 ∨ (s.romTry bad l).boot.phase = 3) := by
  induction l generalizing s with
  | nil => exact ⟨rfl, .inl rfl⟩
  | cons n l ih =>
    rw [State.romTry]
    dsimp only
    split
    · exact ih _
    · exact ⟨rfl, .inr rfl⟩

/-! ## Stage 2 (R416, R417) -/

/-- The image that the manifest of slot `n` names, and its other components. -/
def State.partOf (u : State) (n k : Nat) (p : Comp → Bool) : List Byte :=
  match (manComps (manOf (u.slotRead n 0 4096) u.boot.half (u.slotRead n))).find? (fun c => c.typ == k && p c) with
  | some c => u.slotRead n c.off c.len
  | none => []

/-- The REASON of the components of slot `n`, all of them readable. -/
def State.whyFails (u : State) (n : Nat) : Nat :=
  if u.compCheck (u.slotRead n) (fun c => c.typ != 1) ≠ 0 then u.compCheck (u.slotRead n) (fun c => c.typ != 1)
  else imageReason (u.partOf n 3 fun _ => true) (manKey (manOf (u.slotRead n 0 4096) u.boot.half (u.slotRead n)))

/-- Stage 2 on slot `n`, all of whose components can be read. -/
def State.stage2On (u : State) (n : Nat) : State :=
  if u.whyFails n ≠ 0 then u.stage2Fails n (u.whyFails n) else
    match imageTlvs (u.partOf n 3 fun _ => true) with
    | none => u.stage2Fails n 12
    | some l => u.stage2Runs n (u.partOf n 3 fun _ => true) l (fun p => u.partOf n 2 fun c => c.index == p) (u.partOf n 4 fun _ => true)

section
variable {s : State} (hphase : s.boot.phase = 3)
include hphase

theorem exec_stage2Boot_unreadable : exec (.stage2Boot true) s =
    .next (s.trainMemory.stage2Fails (s.trainMemory.rd BOOT_STATUS.RUN_SLOT) 11) :=
  (if_neg (by simp [hphase])).trans (if_pos rfl)

theorem exec_stage2Boot_readable : exec (.stage2Boot false) s =
    .next (s.trainMemory.stage2On (s.trainMemory.rd BOOT_STATUS.RUN_SLOT)) := by
  change execStage2Boot false s = _
  unfold execStage2Boot
  rw [if_neg (by simp [hphase])]
  extract_lets u n rd m part image r1 r2
  change _ = Host.Outcome.next (u.stage2On n)
  clear_value n u
  have hpart (k : Nat) (p : Comp → Bool) : part k p = u.partOf n k p := by
    unfold part m rd State.partOf
    cases List.find? (fun c => c.typ == k && p c) (manComps (manOf (u.slotRead n 0 4096) u.boot.half (u.slotRead n))) <;> rfl
  have himage : image = u.partOf n 3 fun _ => true := by
    unfold image
    rw [hpart]
  have hread : r1 = u.compCheck (u.slotRead n) (fun c => c.typ != 1) := if_neg (by decide)
  have hwhy : r2 = u.whyFails n := by
    unfold r2 State.whyFails m rd
    rw [hread, himage]
    simp only [bne_iff_ne]
  rw [hwhy]
  unfold State.stage2On
  simp only [hpart, himage]
  by_cases hw : u.whyFails n = 0
  · rw [if_neg (by simp [hw]), if_neg (by simp [hw])]
    cases imageTlvs (u.partOf n 3 fun _ => true) <;> rfl
  · rw [if_pos (by simp [hw]), if_pos hw]
end

/-! ## The recovery loader (R418) -/

theorem recFrame_good {s : State} (hphase : s.boot.phase = 2) (f : State → State) : s.recFrame true f = .next (f s) :=
  if_pos (by simp [hphase])

/-- The digest is in the OTP. -/
def State.provisioned (s : State) (digest : List Byte) : State := (s.setBoot { s.boot with digest := digest }).showOtp

theorem provisioned_shows (s : State) (digest : List Byte) : (s.provisioned digest).boot.digest = digest ∧
    (s.provisioned digest).sent = s.sent := by
  have k := State.showOtp_keep (s.setBoot { s.boot with digest := digest })
  obtain ⟨hotp, -⟩ := k.parts .otp rfl
  exact ⟨hotp, k.parts .sent rfl⟩

theorem recAnswer_sent {s t : State} (h : t.sent = s.sent) (cmd : Nat) (payload : List Nat) :
    (t.recAnswer cmd payload).sent = (s.recAnswer cmd payload).sent := congrArg (_ :: ·) h

theorem loaderPut_sent (s : State) (off : Nat) (data : List Byte) : (s.loaderPut off data).sent = s.sent := rfl

theorem recAnswer_boot (s : State) (cmd : Nat) (payload : List Nat) : (s.recAnswer cmd payload).boot = s.boot := rfl

section
variable {s : State} (hphase : s.boot.phase = 2)
include hphase

theorem exec_recoveryPing : exec (.recoveryPing true) s = .next (s.recAnswer 1 [0]) := by
  change execRecoveryPing true s = _
  rw [execRecoveryPing, recFrame_good hphase]

theorem exec_recoveryProvision {digest : List Byte} (hlen : digest.length = 48) (hblank : s.boot.digest.length ≠ 48)
    (hnv : s.on PWR_STATUS.NV_REFUSED = false) :
    exec (.recoveryProvision true digest) s = .next ((s.provisioned digest).recAnswer 2 [0]) := by
  have hok : ¬ (digest.length != 48 || s.boot.digest.length == 48 || s.on PWR_STATUS.NV_REFUSED) = true := by simp [hlen, hblank, hnv]
  change execRecoveryProvision true digest s = _
  rw [execRecoveryProvision, recFrame_good hphase, if_neg hok]
  rfl

theorem exec_recoveryProvision_refused {digest : List Byte}
    (h : digest.length ≠ 48 ∨ s.boot.digest.length = 48 ∨ s.on PWR_STATUS.NV_REFUSED = true) :
    exec (.recoveryProvision true digest) s = .next (s.recAnswer 2 [1]) := by
  have hrefused : (digest.length != 48 || s.boot.digest.length == 48 || s.on PWR_STATUS.NV_REFUSED) = true := by
    simpa [or_assoc] using h
  change execRecoveryProvision true digest s = _
  rw [execRecoveryProvision, recFrame_good hphase, if_pos hrefused]

theorem exec_recoveryLoad {off : Nat} {data : List Byte} (hdata : data ≠ []) (hlen : data.length ≤ 4096)
    (hfits : off + data.length ≤ loaderSize) :
    exec (.recoveryLoad true off data) s = .next ((s.loaderPut off data).recAnswer 3 [0]) := by
  have hgood : (true && decide (data.length ≤ 4100)) = true := by
    rw [Bool.true_and]
    exact decide_eq_true (by omega)
  have htaken : ¬ (data.isEmpty || decide (4096 < data.length) || decide (loaderSize < off + data.length)) = true := by
    simpa [hdata] using ⟨hlen, hfits⟩
  change execRecoveryLoad true off data s = _
  rw [execRecoveryLoad, hgood, recFrame_good hphase, if_neg htaken]

theorem exec_recoveryStatus : exec (.recoveryStatus true) s = .next (s.recAnswer 5 [0, s.rd BOOT_SLOTn_STATUS.REASON 0,
    s.rd BOOT_SLOTn_STATUS.REASON 1, 128 * s.rd BOOT_STATUS.KEY_SET + s.rd BOOT_STATUS.FLOOR_USED]) := by
  change execRecoveryStatus true s = _
  rw [execRecoveryStatus, recFrame_good hphase]

theorem exec_recoveryRun_fails (h : s.loaderReason ≠ 0) : exec (.recoveryRun true) s = .next (s.recAnswer 4 [2, s.loaderReason]) := by
  change execRecoveryRun true s = _
  rw [execRecoveryRun, recFrame_good hphase]
  dsimp only
  rw [if_pos (bne_iff_ne.2 h)]

end

/-- A loaded image runs. -/
def State.loaderRuns (s : State) : State := (s.recAnswer 4 [0]).setBoot { s.boot with phase := 5 }

/-- The boot block shows that it runs. -/
def State.recoveryShown (s : State) : State := ((s.wr BOOT_STATUS.RECOVERY 1).wr BOOT_STATUS.ROM_LOCKED 1).wr BOOT_RUN_SEQ.SEQ 0

theorem exec_recoveryRun {s : State} (hphase : s.boot.phase = 2) (h : s.loaderReason = 0) :
    exec (.recoveryRun true) s = .next (s.loaderRuns.recoveryShown.raise 18) := by
  have hok : ¬ (s.loaderReason != 0) = true := by rw [h]; decide
  change execRecoveryRun true s = _
  rw [execRecoveryRun, recFrame_good hphase]
  dsimp only
  rw [if_neg hok]
  rfl

theorem loaderRuns_shows (s : State) : s.loaderRuns.boot.phase = 5 ∧ s.loaderRuns.sent = (s.recAnswer 4 [0]).sent ∧
    (s.wf = true → s.loaderRuns.wf = true) ∧ s.loaderRuns.evt = s.evt := ⟨rfl, rfl, id, rfl⟩

theorem recoveryShown_keep (s : State) : Keep 0x80000 s s.recoveryShown :=
  (((Keep.refl 0x80000 s).wr .boot rfl rfl).wr .boot rfl rfl).wr .boot rfl rfl

theorem recoveryShown_shows {s : State} (hwf : s.wf = true) : s.recoveryShown.on BOOT_STATUS.RECOVERY = true ∧
    s.recoveryShown.on BOOT_STATUS.ROM_LOCKED = true ∧ s.recoveryShown.rd BOOT_RUN_SEQ.SEQ = 0 := by
  have hwf1 := wr_wf hwf BOOT_STATUS.RECOVERY 1 0 0
  have hwf2 := wr_wf hwf1 BOOT_STATUS.ROM_LOCKED 1 0 0
  have hrec : (s.wr BOOT_STATUS.RECOVERY 1).on BOOT_STATUS.RECOVERY = true := on_wr_same hwf (by decide) rfl rfl true
  have hlock : ((s.wr BOOT_STATUS.RECOVERY 1).wr BOOT_STATUS.ROM_LOCKED 1).on BOOT_STATUS.ROM_LOCKED = true :=
    on_wr_same hwf1 (by decide) rfl rfl true
  refine ⟨?_, ?_, rd_wr_same hwf2 (by decide) rfl⟩
  · exact (on_of_rd ((rd_wr_addr (f := BOOT_RUN_SEQ.SEQ) (g := BOOT_STATUS.RECOVERY) hwf2 (by decide)).trans
      (rd_wr_bits (f := BOOT_STATUS.ROM_LOCKED) (g := BOOT_STATUS.RECOVERY) hwf1 (by decide) (.inr (by decide))))).trans hrec
  · exact (on_of_rd (rd_wr_addr (f := BOOT_RUN_SEQ.SEQ) (g := BOOT_STATUS.ROM_LOCKED) hwf2 (by decide))).trans hlock

/-- What a run of the loader area leaves. -/
theorem recoveryRun_shows {s : State} (hwf : s.wf = true) : let t := s.loaderRuns.recoveryShown.raise 18
    t.boot.phase = 5 ∧ t.on BOOT_STATUS.RECOVERY = true ∧ t.on BOOT_STATUS.ROM_LOCKED = true ∧ t.rd BOOT_RUN_SEQ.SEQ = 0 ∧
      s.told 18 < t.told 18 ∧ t.sent = (s.recAnswer 4 [0]).sent := by
  obtain ⟨hfive, hsent, hwfr, hevt⟩ := loaderRuns_shows s
  have ks := recoveryShown_keep s.loaderRuns
  obtain ⟨hrec, hlock, hseq⟩ := recoveryShown_shows (hwfr hwf)
  have kr := State.raise_keep s.loaderRuns.recoveryShown 18 [] none none
  have hwfs := ks.wf (hwfr hwf)
  obtain ⟨-, hp, -⟩ := ks.parts .boot rfl
  obtain ⟨-, hp', -⟩ := kr.parts .boot rfl
  have htold : s.loaderRuns.recoveryShown.told 18 = s.told 18 := told_of_evt ((ks.parts .evt rfl).trans hevt) 18
  refine ⟨hp'.trans (hp.trans hfive), ?_, ?_, ?_, ?_, (kr.parts .sent rfl).trans ((ks.parts .sent rfl).trans hsent)⟩
  · exact (on_of_rd (kr.rdIn .boot hwfs rfl rfl rfl)).trans hrec
  · exact (on_of_rd (kr.rdIn .boot hwfs rfl rfl rfl)).trans hlock
  · exact (kr.rdIn .boot hwfs rfl rfl rfl).trans hseq
  · rw [← htold]
    exact told_lt_raise ..

/-! ## The restarts (R417, R467) -/

/-- The running slot is tried last at the next start. -/
def State.otherFirst (s : State) : State := s.setBoot { s.boot with alt := s.rd BOOT_STATUS.RUN_SLOT + 1 }

theorem exec_deviceReboot (s : State) : exec .deviceReboot s = .next (s.deviceReset 4) := rfl

theorem exec_deviceRebootAlt (s : State) : exec .deviceRebootAlt s = .next (s.otherFirst.deviceReset 4) := rfl

theorem otherFirst_shows (s : State) : s.otherFirst.boot.alt = s.rd BOOT_STATUS.RUN_SLOT + 1 ∧ s.otherFirst.mram = s.mram ∧
    (s.wf = true → s.otherFirst.wf = true) := ⟨rfl, rfl, id⟩

theorem clearDevice_alt (s : State) (cause : Nat) (lost : Bool) : (s.clearDevice cause lost).boot.alt = s.boot.alt := rfl

theorem deviceReset_alt (s : State) (cause : Nat) (lost : Bool) : (s.deviceReset cause lost).boot.alt = s.boot.alt := by
  obtain ⟨halt, -⟩ := (deviceReset_keep_cleared s cause lost).parts .boot rfl
  obtain ⟨halted, -⟩ := (halted_keep s lost).parts .boot rfl
  exact halt.trans ((clearDevice_alt (s.halted lost) _ lost).trans halted)

/-! ## The obligation -/

/-- Settles O20: the ROM keeps what it sampled until it has chosen, the loader answers what it did, and a reboot is the device reset. -/
theorem bootCommands : Obligations.BootCommands := by
  unfold Obligations.BootCommands
  refine ⟨?rom, ?slots, ?unreadable, ?stage2, ?ping, ?provision, ?provisionRefused, ?load, ?run, ?status, ?reboot, ?rebootAlt⟩
  case rom =>
    intro s straps mib bad hwf hphase hrun hkey
    refine does_of_exec (exec_romBoot_recovery hphase hrun straps mib bad hkey) ?_
    obtain ⟨hs, hr, hf, hh, -⟩ := romStarted_shows hphase hrun straps mib
    obtain ⟨h2, h0, hpins, hhalf, hregs⟩ := inRecovery_shows (s.romStarted straps mib)
    rw [hpins, hhalf]
    exact ⟨h2, h0, hr, hf, hs, hh, (rd_of_reg (by rw [State.reg, hregs, State.reg])).trans (rd_romStarted hphase hrun straps mib hwf)⟩
  case slots =>
    intro s straps mib bad hphase hrun hkey hsecure
    exact does_of_exec (exec_romBoot_slots hphase hrun straps mib bad hkey hsecure) (romTry_ends ..)
  case unreadable => exact fun s hphase => does_of_exec (exec_stage2Boot_unreadable hphase) rfl
  case stage2 =>
    intro s hphase u n m part image why
    refine does_of_exec (exec_stage2Boot_readable hphase) ?_
    change u.stage2On n = _
    clear_value n u
    have hpart (k : Nat) (p : Comp → Bool) : part k p = u.partOf n k p := by
      unfold part m State.partOf
      cases List.find? (fun c => c.typ == k && p c) (manComps (manOf (u.slotRead n 0 4096) u.boot.half (u.slotRead n))) <;> rfl
    have himage : image = u.partOf n 3 fun _ => true := by
      unfold image
      rw [hpart]
    have hwhy : why = u.whyFails n := by
      unfold why State.whyFails m
      rw [himage]
    rw [hwhy]
    unfold State.stage2On
    simp only [hpart, himage] <;> (
      by_cases hw : u.whyFails n = 0
      · refine (if_neg (not_not_intro hw)).trans (Eq.trans ?_ (if_neg (not_not_intro hw)).symm)
        cases imageTlvs (u.partOf n 3 fun _ => true) <;> rfl
      · exact (if_pos hw).trans (if_pos hw).symm)
  case ping => exact fun s hphase => does_of_exec (exec_recoveryPing hphase) rfl
  case provision =>
    intro s digest hphase hlen hblank hnv
    refine does_of_exec (exec_recoveryProvision hphase hlen hblank hnv) ?_
    obtain ⟨hdigest, hsent⟩ := provisioned_shows s digest
    have hboot := recAnswer_boot (s.provisioned digest) 2 [0]
    exact ⟨(congrArg BootSt.digest hboot).trans hdigest, recAnswer_sent hsent 2 [0]⟩
  case provisionRefused => exact fun s digest hphase h => does_of_exec (exec_recoveryProvision_refused hphase h) rfl
  case load =>
    intro s off data hwf hphase hdata hlen hfits
    refine does_of_exec (exec_recoveryLoad hphase hdata hlen hfits) ⟨?_, recAnswer_sent (loaderPut_sent s off data) 3 [0]⟩
    exact memRead_memWrite (State.wf_iff.1 hwf).2.2.2.2.2.2.2 off data
  case run =>
    intro s hwf hphase
    by_cases hok : s.loaderReason = 0
    · refine does_of_exec (exec_recoveryRun hphase hok) ?_
      rw [if_pos hok]
      exact recoveryRun_shows hwf
    · refine does_of_exec (exec_recoveryRun_fails hphase hok) ?_
      rw [if_neg hok]
  case status => exact fun s hphase => does_of_exec (exec_recoveryStatus hphase) rfl
  case reboot =>
    intro s
    obtain ⟨hcause, -⟩ := deviceReset_shows s 4 false
    obtain ⟨hmram, -⟩ := deviceReset_memories s 4 false
    exact does_of_exec (exec_deviceReboot s) ⟨deviceReset_restarted s 4 false, hmram, fun h => hcause.trans (causeOf_running h 4 false)⟩
  case rebootAlt =>
    intro s
    obtain ⟨halt, hmram, hwf⟩ := otherFirst_shows s
    obtain ⟨hmram', -⟩ := deviceReset_memories s.otherFirst 4 false
    exact does_of_exec (exec_deviceRebootAlt s) ⟨(deviceReset_restarted s.otherFirst 4 false).before hwf, hmram'.trans hmram,
      (deviceReset_alt s.otherFirst 4 false).trans halt⟩

end Sys2Proof.Machine

/-!
The update engine, the floor word, and the partitions in service.
-/
namespace Sys2Proof.Machine

/-! ## The commands of the engine (R424) -/

section
variable {s : State} {g : Nat} {j : Job}

theorem exec_updateBegin (hj : s.pf0Job g 0xA0 = some j) (hidle : s.boot.upd.job = none) (hwant : s.boot.upd.want = 0)
    (hphase : s.updPhase ∈ [0, 4, 5]) : exec (.updateBegin g) s =
      .next (s.setUpd { want := 1, job := some (g, j.idx), told := s.boot.upd.told }).updGo := by
  change execUpdateBegin g s = _
  rw [execUpdateBegin, hj]
  dsimp only
  rw [if_neg (by simp [hidle, hwant]), if_pos (by simpa [or_assoc] using hphase)]

theorem exec_updateBegin_refused (hj : s.pf0Job g 0xA0 = some j) (hidle : s.boot.upd.job = none) (hwant : s.boot.upd.want = 0)
    (hphase : s.updPhase ∉ [0, 4, 5]) : exec (.updateBegin g) s = .next (s.finishJob g j.idx 0x110) := by
  change execUpdateBegin g s = _
  rw [execUpdateBegin, hj]
  dsimp only
  rw [if_neg (by simp [hidle, hwant]), if_neg (by simpa [and_assoc] using hphase)]
  rfl

theorem exec_updateWrite (hj : s.pf0Job g 0xA1 = some j) (hidle : s.boot.upd.job = none) (hwant : s.boot.upd.want = 0)
    (hphase : s.updPhase = 2) (hdata : s.boot.upd.data = []) (hoff : qwAt j.qw 1 % 256 = 0)
    (hfits : qwAt j.qw 1 + j.bytes.length ≤ s.boot.half) (hseq : 0xF00 < qwAt j.qw 1 ∨ qwAt j.qw 1 + j.bytes.length ≤ 0xF00)
    (hpages : j.bytes.length % 256 = 0) (hsome : 256 ≤ j.bytes.length) (hmost : j.bytes.length ≤ 1048576) :
    exec (.updateWrite g) s =
      .next (s.setUpd { s.boot.upd with job := some (g, j.idx), off := qwAt j.qw 1, data := j.bytes, page := 0 }).updGo := by
  have hplace : ¬ (qwAt j.qw 1 % 256 != 0 || decide (s.boot.half < qwAt j.qw 1 + j.bytes.length) ||
      decide (qwAt j.qw 1 ≤ 0xF00) && decide (0xF00 < qwAt j.qw 1 + j.bytes.length)) = true := by
    simp only [Bool.or_eq_true, Bool.and_eq_true, bne_iff_ne, decide_eq_true_eq]
    omega
  have hlen : ¬ (j.bytes.length % 256 != 0 || decide (j.bytes.length < 256) || decide (1048576 < j.bytes.length)) = true := by
    simp only [Bool.or_eq_true, bne_iff_ne, decide_eq_true_eq]
    omega
  change execUpdateWrite g s = _
  rw [execUpdateWrite, hj]
  dsimp only
  rw [if_neg (by simp [hidle]), if_neg (by simp [hphase, hdata, hwant]), if_neg hplace, if_neg hlen]

theorem exec_updateWrite_refused (hj : s.pf0Job g 0xA1 = some j) (hidle : s.boot.upd.job = none) (hphase : s.updPhase ≠ 2) :
    exec (.updateWrite g) s = .next (s.finishJob g j.idx 0x110) := by
  change execUpdateWrite g s = _
  rw [execUpdateWrite, hj]
  dsimp only
  rw [if_neg (by simp [hidle]), if_pos (by simp [hphase])]
  rfl

theorem exec_updateFinish (hj : s.pf0Job g 0xA2 = some j) (hidle : s.boot.upd.job = none) (hwant : s.boot.upd.want = 0)
    (hphase : s.updPhase = 2) (hdata : s.boot.upd.data = []) : exec (.updateFinish g) s =
      .next (s.setUpd { s.boot.upd with job := some (g, j.idx), want := 3 }).updGo := by
  change execUpdateFinish g s = _
  rw [execUpdateFinish, hj]
  dsimp only
  rw [if_neg (by simp [hidle]), if_neg (by simp [hphase, hdata, hwant])]

theorem exec_updateAbort (hfn : s.rd QMG_RINGg_DESC.FN g = 0)
    (hj : (s.ring g).jobs.find? (fun j => j.done.isNone && j.ready && j.opcode == 0xA3) = some j) (hlo : 1 ≤ s.updPhase)
    (hhi : s.updPhase ≤ 3) : exec (.updateAbort g) s = .next (s.updAbort (some (g, j.idx))) := by
  change execUpdateAbort g s = _
  rw [execUpdateAbort, if_neg (by simp [hfn]), hj]
  dsimp only
  rw [if_pos (by simp [hlo, hhi])]
end

/-! ## The flash operations (R424) -/

/-- The sector under way reads erased. -/
def State.sectorErased (s : State) : State :=
  ((s.flashErase s.updSector).setUpd { s.boot.upd with busy := false, sector := s.boot.upd.sector + 1 }).wr
    BOOT_UPD_PROGRESS.SECTORS (s.boot.upd.sector + 1)

/-- A page reads back as `got`. -/
def State.pageRead (s : State) (got : List Byte) : State :=
  ((s.flashPut s.updPage.1 (got.take 256)).cal 1264).wr BOOT_UPD_PROGRESS.MIB ((s.boot.upd.pages + 1) / 4096)

/-- What the engine keeps once a page has been programmed. -/
def State.pageDone (s : State) : UpdSt := { s.boot.upd with busy := false, pages := s.boot.upd.pages + 1 }

section
variable {s : State} (hbusy : s.boot.upd.busy = true)
include hbusy

theorem exec_flashEraseDone (hphase : s.updPhase = 1) : exec .flashEraseDone s = .next s.sectorErased.updGo.showSpiWp :=
  if_neg (by simp [hbusy, hphase])

variable (hphase : 2 ≤ s.updPhase) (hseq : s.boot.upd.seq = none)
include hphase hseq

theorem exec_flashProgramDone_match : exec (.flashProgramDone s.updPage.2) s =
    .next ((s.pageRead s.updPage.2).setUpd { s.pageDone with page := s.boot.upd.page + 1 }).updGo.showSpiWp := by
  change execFlashProgramDone s.updPage.2 s = _
  rw [execFlashProgramDone]
  dsimp only
  rw [if_neg (by simpa [hbusy] using Nat.lt_of_succ_le hphase), if_neg (by simp [hseq]), if_pos rfl]
  rfl

theorem exec_flashProgramDone_mismatch {got : List Byte} (hgot : got ≠ s.updPage.2) : exec (.flashProgramDone got) s =
    .next ((((s.pageRead got).setUpd { s.pageDone with job := none, data := [], page := 0 }).updDone s.boot.upd.job 0x111).updGo.showSpiWp) := by
  change execFlashProgramDone got s = _
  rw [execFlashProgramDone]
  dsimp only
  rw [if_neg (by simpa [hbusy] using Nat.lt_of_succ_le hphase), if_neg (by simp [hseq]), if_neg hgot]
  rfl
end

theorem setUpd_shows (s : State) (u : UpdSt) : (s.setUpd u).boot.upd = u ∧ (s.setUpd u).boot.flash = s.boot.flash := ⟨rfl, rfl⟩

/-- The engine's next thing leaves the flash as it is. -/
theorem flash_updGo (s : State) : s.updGo.showSpiWp.boot.flash = s.boot.flash :=
  ((State.showSpiWp_keep _).parts .flash rfl).trans ((State.updGo_keep s).parts .flash rfl)

theorem flash_sectorErased (s : State) : s.sectorErased.boot.flash = (s.flashErase s.updSector).boot.flash := by
  have k : Keep 0x80000 ((s.flashErase s.updSector).setUpd { s.boot.upd with busy := false, sector := s.boot.upd.sector + 1 })
      s.sectorErased := (Keep.refl _ _).wr .boot rfl rfl
  exact (k.parts .flash rfl).trans (setUpd_shows _ _).2

theorem flashErase_erased {s : State} (hwf : s.wf = true) {b a : Nat} (hlo : b ≤ a) (hhi : a < b + 65536) :
    cellGet flashShip (s.flashErase b).boot.flash a = 0xFF#8 :=
  cellGet_cellDrop_hit (fun k => decide (b ≤ k) && decide (k < b + 65536)) (State.wf_iff.1 hwf).2.2.2.2.2.2.1 (by simp [hlo, hhi])

theorem flash_pageRead (s : State) (got : List Byte) :
    (s.pageRead got).boot.flash = (s.flashPut s.updPage.1 (got.take 256)).boot.flash := by
  have k : Keep 0x400180004 (s.flashPut s.updPage.1 (got.take 256)) (s.pageRead got) :=
    ((cal_none_keep _ 1264 1).mono rfl).wr .boot rfl rfl
  exact k.parts .flash rfl

theorem flashRead_flashPut {s : State} (hwf : s.wf = true) (a : Nat) (b : List Byte) {n : Nat} (hn : b.length = n) :
    (s.flashPut a b).flashRead a n = b := by
  subst hn
  exact memRead_memWrite (State.wf_iff.1 hwf).2.2.2.2.2.2.1 a b

theorem flashRead_of_flash {s t : State} (h : t.boot.flash = s.boot.flash) (a n : Nat) : t.flashRead a n = s.flashRead a n := by
  rw [State.flashRead, h, State.flashRead]

/-! ## The Finish check (R413, R424) -/

/-- What the engine keeps of the check's outcome: the REASON `r`, the SEQ `q` of the manifest and the running one. -/
def UpdSt.checked (u : UpdSt) (r q running : Nat) : UpdSt :=
  if r != 0 then { u with fail := some (0x112, r) }
  else if q ≤ running then { u with fail := some (0x113, 0) }
  else { u with seq := some q, seqOk := false }

theorem checked_shows {u : UpdSt} (hseq : u.seq = none) (hfail : u.fail = none) (r q running : Nat) :
    ((u.checked r q running).seq = none ↔ (u.checked r q running).fail ≠ none) ∧ (u.checked r q running).job = u.job := by
  unfold UpdSt.checked
  split
  · simp [hseq]
  · split
    · simp [hseq]
    · simp [hfail]

/-- The check ends with the REASON of the slot and the SEQ of its manifest. -/
theorem exec_updateCheckDone {s : State} (hphase : s.updPhase = 3) (hseq : s.boot.upd.seq = none) (hfail : s.boot.upd.fail = none)
    (hstop : s.boot.upd.stop = false) (hwant : s.boot.upd.want = 0) : ∃ r q, exec .updateCheckDone s =
      .next (s.setUpd (s.boot.upd.checked r q (s.rd BOOT_RUN_SEQ.SEQ))).updGo := by
  change ∃ r q, execUpdateCheckDone s = _
  rw [execUpdateCheckDone]
  extract_lets rd r0 r1 r2 q v
  rw [if_neg (by simp [hphase, hseq, hfail, hstop, hwant])]
  exact ⟨r2, q, rfl⟩

/-! ## The roll-back floor (R419) -/

/-- What keeps every part of the boot block keeps the block. -/
theorem Keep.boot {m : Nat} {s t : State} (k : Keep m s t) (hflash : m.testBit 56 = false) (hotp : m.testBit 57 = false)
    (hloader : m.testBit 58 = false) (hboot : m.testBit 59 = false) : t.boot = s.boot := by
  have h56 := k.parts .flash hflash
  obtain ⟨hd, hf, hv⟩ := k.parts .otp hotp
  have h58 := k.parts .loader hloader
  obtain ⟨ha, hp, hh, hps, hfn, hu⟩ := k.parts .boot hboot
  revert h56 hd hf hv h58 ha hp hh hps hfn hu
  unfold Part.same
  cases s.boot
  cases t.boot
  rintro rfl rfl rfl rfl rfl rfl rfl rfl rfl rfl rfl
  rfl

section
variable {s : State} (hidle : s.rd BOOT_FLOOR_CMD.STATE ≠ 1)
include hidle

theorem exec_floorProgram (habove : s.boot.floors.getLastD 0 < s.rd BOOT_FLOOR_NEW.VALUE)
    (hrun : s.rd BOOT_FLOOR_NEW.VALUE ≤ s.rd BOOT_RUN_SEQ.SEQ) (hroom : s.boot.floors.length < 16) (hnv : s.on PWR_STATUS.NV_REFUSED = false) :
    exec .floorProgram s = .next ((s.setBoot { s.boot with floorVal := s.rd BOOT_FLOOR_NEW.VALUE + 1 }).wr BOOT_FLOOR_CMD.STATE 1) := by
  have hok : ¬ (decide (s.rd BOOT_FLOOR_NEW.VALUE ≤ s.boot.floors.getLastD 0) || decide (s.rd BOOT_RUN_SEQ.SEQ < s.rd BOOT_FLOOR_NEW.VALUE) ||
      decide (16 ≤ s.boot.floors.length) || s.on PWR_STATUS.NV_REFUSED) = true := by
    simp only [hnv, Bool.or_eq_true, decide_eq_true_eq, Bool.false_eq_true, or_false]
    omega
  exact (if_neg hidle).trans (if_neg hok)

theorem exec_floorProgram_refused (hbelow : s.rd BOOT_FLOOR_NEW.VALUE ≤ s.boot.floors.getLastD 0) :
    exec .floorProgram s = .next ((s.wr BOOT_FLOOR_CMD.STATE 3).raise 25) := by
  have hno : (decide (s.rd BOOT_FLOOR_NEW.VALUE ≤ s.boot.floors.getLastD 0) || decide (s.rd BOOT_RUN_SEQ.SEQ < s.rd BOOT_FLOOR_NEW.VALUE) ||
      decide (16 ≤ s.boot.floors.length) || s.on PWR_STATUS.NV_REFUSED) = true := by simp only [decide_eq_true hbelow, Bool.true_or]
  exact (if_neg hidle).trans (if_pos hno)
end

/-- A floor word is in the OTP. -/
def State.floorWord (s : State) (v : Nat) : State := s.setBoot { s.boot with floors := s.boot.floors ++ [v], floorVal := 0 }

theorem exec_floorProgramDone {s : State} {v : Nat} (hv : s.boot.floorVal = v + 1) :
    exec .floorProgramDone s = .next (((s.floorWord v).showOtp.wr BOOT_FLOOR_CMD.STATE 2).raise 24 [i32 v]) := by
  change execFloorProgramDone s = _
  rw [execFloorProgramDone, if_neg (by omega), hv]
  rfl

theorem floorWord_shows (s : State) (v : Nat) : (s.floorWord v).boot.floors = s.boot.floors ++ [v] ∧ (s.floorWord v).boot.floorVal = 0 ∧
    (s.floorWord v).evt = s.evt ∧ (s.wf = true → (s.floorWord v).wf = true) := ⟨rfl, rfl, rfl, id⟩

theorem rd_showOtp_floor {s : State} (hwf : s.wf = true) : s.showOtp.rd BOOT_FLOOR.FLOOR = s.boot.floors.getLastD 0 % 2 ^ 32 := by
  unfold State.showOtp
  extract_lets n
  exact rd_wr_same (wr_wf (wr_wf (wr_wf hwf ..) ..) ..) (by decide) rfl

/-- What a floor word leaves. -/
theorem floorDone_shows {s : State} (hwf : s.wf = true) (v : Nat) : let t := ((s.floorWord v).showOtp.wr BOOT_FLOOR_CMD.STATE 2).raise 24 [i32 v]
    t.boot.floors = s.boot.floors ++ [v] ∧ t.boot.floorVal = 0 ∧ t.rd BOOT_FLOOR_CMD.STATE = 2 ∧ t.rd BOOT_FLOOR.FLOOR = v % 2 ^ 32 ∧
      s.told 24 < t.told 24 := by
  obtain ⟨hfloors, hval, hevt, hwfw⟩ := floorWord_shows s v
  have ko := State.showOtp_keep (s.floorWord v)
  have hwfo := ko.wf (hwfw hwf)
  have kw : Keep 0x80000 (s.floorWord v) ((s.floorWord v).showOtp.wr BOOT_FLOOR_CMD.STATE 2) := ko.wr .boot rfl rfl
  have kr := State.raise_keep ((s.floorWord v).showOtp.wr BOOT_FLOOR_CMD.STATE 2) 24 [i32 v] none none
  have hwfs := kw.wf (hwfw hwf)
  obtain ⟨-, hf, hz⟩ := kw.parts .otp rfl
  obtain ⟨-, hf', hz'⟩ := kr.parts .otp rfl
  have hstate : ((s.floorWord v).showOtp.wr BOOT_FLOOR_CMD.STATE 2).rd BOOT_FLOOR_CMD.STATE = 2 := rd_wr_same hwfo (by decide) rfl
  have hlast : (s.floorWord v).showOtp.rd BOOT_FLOOR.FLOOR = v % 2 ^ 32 := by
    rw [rd_showOtp_floor (hwfw hwf), hfloors, List.getLastD_concat]
  have htold : ((s.floorWord v).showOtp.wr BOOT_FLOOR_CMD.STATE 2).told 24 = s.told 24 := told_of_evt ((kw.parts .evt rfl).trans hevt) 24
  refine ⟨hf'.trans (hf.trans hfloors), hz'.trans (hz.trans hval), ?_, ?_, ?_⟩
  · exact (kr.rdIn .boot hwfs rfl rfl rfl).trans hstate
  · exact (kr.rdIn .boot hwfs rfl rfl rfl).trans ((rd_wr_addr (f := BOOT_FLOOR_CMD.STATE) (g := BOOT_FLOOR.FLOOR) hwfo (by decide)).trans hlast)
  · rw [← htold]
    exact told_lt_raise ..

theorem floorProgram_shows {s : State} (hwf : s.wf = true) (v : Nat) :
    let t := (s.setBoot { s.boot with floorVal := v + 1 }).wr BOOT_FLOOR_CMD.STATE 1
    t.rd BOOT_FLOOR_CMD.STATE = 1 ∧ t.boot.floorVal = v + 1 ∧ t.boot.floors = s.boot.floors := by
  have hset : State.wf (s.setBoot { s.boot with floorVal := v + 1 }) = true := hwf
  have k : Keep 0x80000 (s.setBoot { s.boot with floorVal := v + 1 }) ((s.setBoot { s.boot with floorVal := v + 1 }).wr BOOT_FLOOR_CMD.STATE 1) :=
    (Keep.refl _ _).wr .boot rfl rfl
  obtain ⟨-, hfloors, hval⟩ := k.parts .otp rfl
  exact ⟨rd_wr_same hset (by decide) rfl, hval, hfloors⟩

theorem floorRefused_shows {s : State} (hwf : s.wf = true) : let t := (s.wr BOOT_FLOOR_CMD.STATE 3).raise 25
    t.rd BOOT_FLOOR_CMD.STATE = 3 ∧ t.boot = s.boot ∧ s.told 25 < t.told 25 := by
  have kw : Keep 0x80000 s (s.wr BOOT_FLOOR_CMD.STATE 3) := (Keep.refl _ s).wr .boot rfl rfl
  have kr := State.raise_keep (s.wr BOOT_FLOOR_CMD.STATE 3) 25 [] none none
  have hset : (s.wr BOOT_FLOOR_CMD.STATE 3).rd BOOT_FLOOR_CMD.STATE = 3 := rd_wr_same hwf (by decide) rfl
  have htold : (s.wr BOOT_FLOOR_CMD.STATE 3).told 25 = s.told 25 := told_of_evt (kw.parts .evt rfl) 25
  refine ⟨(kr.rdIn .boot (kw.wf hwf) rfl rfl rfl).trans hset, ?_, ?_⟩
  · exact (kr.boot rfl rfl rfl rfl).trans (kw.boot rfl rfl rfl rfl)
  · rw [← htold]
    exact told_lt_raise ..

/-! ## The partitions in service (R427, R428) -/

/-- The component of the partition package of a job. -/
def Job.component (j : Job) : List Byte := slice j.bytes (pkgManLen j.bytes) (manComp j.bytes 0).len

/-- A partition's new copy is pending. -/
def State.partLoaded (s : State) (p : Nat) (b : List Byte) : State :=
  (((s.setPart p { s.part p with pending := b }).rtWrite (s.part p).pend b).wr BOOT_PARTp_STATUS.PSTATE 3 p).raise 23 [i8 p]

section
variable {s : State} {g : Nat} {j : Job}

theorem exec_loadPartition (hj : s.pf0Job g 0xA8 = some j) (hp : s.rd BOOT_PARTp_STATUS.PSTATE (bitsOf (qwAt j.qw 1) 0 6) ≠ 0)
    (hok : s.pkgReason (bitsOf (qwAt j.qw 1) 0 6) j.bytes = 0) : exec (.loadPartition g) s =
      .next ((s.partLoaded (bitsOf (qwAt j.qw 1) 0 6) j.component).finishJob g j.idx 0) := by
  have hreason : ¬ (s.pkgReason (bitsOf (qwAt j.qw 1) 0 6) j.bytes != 0) = true := by rw [hok]; decide
  change execLoadPartition g s = _
  rw [execLoadPartition, hj]
  dsimp only
  rw [if_neg hp, if_neg hreason]
  rfl

theorem exec_loadPartition_refused (hj : s.pf0Job g 0xA8 = some j) (hp : s.rd BOOT_PARTp_STATUS.PSTATE (bitsOf (qwAt j.qw 1) 0 6) ≠ 0)
    (hbad : s.pkgReason (bitsOf (qwAt j.qw 1) 0 6) j.bytes ≠ 0) : exec (.loadPartition g) s =
      .next (s.finishJob g j.idx 0x112 (s.pkgReason (bitsOf (qwAt j.qw 1) 0 6) j.bytes)) := by
  change execLoadPartition g s = _
  rw [execLoadPartition, hj]
  dsimp only
  rw [if_neg hp, if_pos (bne_iff_ne.2 hbad)]

theorem exec_activatePartition (hj : s.pf0Job g 0xA9 = some j) (hprot : s.on BOOT_PARTp_STATUS.PROT (bitsOf (qwAt j.qw 1) 0 6) = false)
    (hpend : s.rd BOOT_PARTp_STATUS.PSTATE (bitsOf (qwAt j.qw 1) 0 6) = 3) : exec (.activatePartition g) s =
      .next ((s.activate (bitsOf (qwAt j.qw 1) 0 6)).finishJob g j.idx 0) := by
  change execActivatePartition g s = _
  rw [execActivatePartition, hj]
  dsimp only
  rw [if_neg (by simp [hprot]), if_neg (by simp [hpend])]

theorem exec_activatePartition_protected (hj : s.pf0Job g 0xA9 = some j)
    (hprot : s.on BOOT_PARTp_STATUS.PROT (bitsOf (qwAt j.qw 1) 0 6) = true) : exec (.activatePartition g) s =
      .next (s.finishJob g j.idx 0x114) := by
  change execActivatePartition g s = _
  rw [execActivatePartition, hj]
  dsimp only
  rw [if_pos hprot]
end

section
variable {s : State} {who p : Nat} (hopen : s.shut who = false) (hp : p < 64)
include hopen hp

theorem exec_partitionActivateReg (hprot : s.on BOOT_PARTp_STATUS.PROT p = true) (hthread : isThread who = true)
    (hother : agentCluster who ≠ s.rd BOOT_PARTp_STATUS.CLUSTER p) (hpend : s.rd BOOT_PARTp_STATUS.PSTATE p = 3) :
    exec (.partitionActivateReg who p) s = .next (s.activate p) := by
  change execPartitionActivateReg who p s = _
  rw [execPartitionActivateReg, if_neg (by simp [hopen]), if_neg (by omega), if_neg (by simp [hprot, hthread, hother]),
    if_neg (by simp [hpend])]

theorem exec_partitionActivateReg_ignored (h : s.on BOOT_PARTp_STATUS.PROT p = false ∨ isThread who = false ∨
    agentCluster who = s.rd BOOT_PARTp_STATUS.CLUSTER p) : exec (.partitionActivateReg who p) s = .next s.bad := by
  change execPartitionActivateReg who p s = _
  rw [execPartitionActivateReg, if_neg (by simp [hopen]), if_neg (by omega), if_pos (by simpa [or_assoc] using h)]
end

/-! ## The obligation -/

/-- Settles O32: each command of the engine is the work that it asks for, and nothing that the engine does next touches the flash. -/
theorem updateCommands : Obligations.UpdateCommands := by
  unfold Obligations.UpdateCommands
  refine ⟨?begin, ?beginRefused, ?write, ?writeRefused, ?finish, ?abort, ?erased, ?programmed, ?mismatch, ?check, ?floor, ?floorRefused,
    ?floorDone, ?load, ?activate, ?guarded, ?activateReg, ?ignored⟩
  case begin => exact fun s g j hj hidle hwant hphase => does_of_exec (exec_updateBegin hj hidle hwant hphase) rfl
  case beginRefused => exact fun s g j hj hidle hwant hphase => does_of_exec (exec_updateBegin_refused hj hidle hwant hphase) rfl
  case write =>
    intro s g j hj hidle hwant hphase hdata hoff hfits hseq hpages hsome hmost
    exact does_of_exec (exec_updateWrite hj hidle hwant hphase hdata hoff hfits hseq hpages hsome hmost) rfl
  case writeRefused => exact fun s g j hj hidle hphase => does_of_exec (exec_updateWrite_refused hj hidle hphase) rfl
  case finish => exact fun s g j hj hidle hwant hphase hdata => does_of_exec (exec_updateFinish hj hidle hwant hphase hdata) rfl
  case abort => exact fun s g j hfn hj hlo hhi => does_of_exec (exec_updateAbort hfn hj hlo hhi) rfl
  case erased =>
    intro s hwf hbusy hphase
    refine does_of_exec (exec_flashEraseDone hbusy hphase) ⟨rfl, fun a hlo hhi => ?_⟩
    rw [flash_updGo, flash_sectorErased, flashErase_erased hwf hlo hhi]
  case programmed =>
    intro s hwf hbusy hphase hseq hlen
    refine does_of_exec (exec_flashProgramDone_match hbusy hphase hseq) ?_
    rw [flashRead_of_flash ((flash_updGo _).trans ((setUpd_shows _ _).2.trans (flash_pageRead s s.updPage.2))),
      List.take_of_length_le (Nat.le_of_eq hlen), flashRead_flashPut hwf _ _ hlen]
  case mismatch =>
    intro s got _ hbusy hphase hseq hgot
    obtain ⟨hupd, -⟩ := setUpd_shows (s.pageRead got) { s.pageDone with job := none, data := [], page := 0 }
    exact does_of_exec (exec_flashProgramDone_mismatch hbusy hphase hseq hgot)
      ⟨(s.pageRead got).setUpd { s.pageDone with job := none, data := [], page := 0 }, by rw [hupd], by rw [hupd], rfl⟩
  case check =>
    intro s hphase hseq hfail hstop hwant
    obtain ⟨r, q, h⟩ := exec_updateCheckDone hphase hseq hfail hstop hwant
    obtain ⟨hone, hjob⟩ := checked_shows hseq hfail r q (s.rd BOOT_RUN_SEQ.SEQ)
    exact does_of_exec h ⟨_, rfl, hone, hjob⟩
  case floor =>
    intro s hwf hidle habove hrun hroom hnv
    exact does_of_exec (exec_floorProgram hidle habove hrun hroom hnv) (floorProgram_shows hwf _)
  case floorRefused => exact fun s hwf hidle hbelow => does_of_exec (exec_floorProgram_refused hidle hbelow) (floorRefused_shows hwf)
  case floorDone => exact fun s v hwf hv => does_of_exec (exec_floorProgramDone hv) (floorDone_shows hwf v)
  case load =>
    intro s g j hj hp p b
    by_cases hok : s.pkgReason p j.bytes = 0
    · refine does_of_exec (exec_loadPartition hj hp hok) ?_
      rw [if_neg (not_not_intro hok)]
      rfl
    · refine does_of_exec (exec_loadPartition_refused hj hp hok) ?_
      rw [if_pos hok]
  case activate => exact fun s g j hj hprot hpend => does_of_exec (exec_activatePartition hj hprot hpend) rfl
  case guarded => exact fun s g j hj hprot => does_of_exec (exec_activatePartition_protected hj hprot) rfl
  case activateReg =>
    exact fun s who p hopen hp hprot hthread hother hpend => does_of_exec (exec_partitionActivateReg hopen hp hprot hthread hother hpend) rfl
  case ignored => exact fun s who p hopen hp h => does_of_exec (exec_partitionActivateReg_ignored hopen hp h) rfl

end Sys2Proof.Machine

/-!
The memory controllers: refresh, temperature, retraining and repair.
-/
namespace Sys2Proof.Machine

theorem mem_advanceTo (s : State) (t : Nat) : (s.advanceTo t).mem = s.mem := (State.advanceTo_keep s t).parts .mem rfl

theorem on_advanceTo (s : State) (t : Nat) (f : Fld) (i j : Nat) : (s.advanceTo t).on f i j = s.on f i j := on_of_rd (rd_advanceTo ..)

theorem reg_of_regs {s t : State} (h : t.regs = s.regs) (a : Nat) : t.reg a = s.reg a := congrArg (fun l => cellGet resetOf l a) h

theorem rd_of_regs {s t : State} (h : t.regs = s.regs) (f : Fld) (i j : Nat) : t.rd f i j = s.rd f i j := rd_of_reg (reg_of_regs h _)

theorem rd64_of_regs {s t : State} (h : t.regs = s.regs) (f : Fld) (i j : Nat) : t.rd64 f i j = s.rd64 f i j :=
  rd64_of_reg (reg_of_regs h _) (reg_of_regs h _)

theorem setMem_shows (s : State) (m : MemSt) : (s.setMem m).mem = m ∧ (s.setMem m).tick = s.tick ∧ (s.setMem m).regs = s.regs ∧
    (s.setMem m).evt = s.evt ∧ (s.wf = true → (s.setMem m).wf = true) := ⟨rfl, rfl, rfl, rfl, id⟩

/-! ## Refresh (R396, R397) -/

/-- A bank's refresh falls due. -/
def State.refreshNoted (s : State) (c ch k : Nat) : State :=
  let u := s.advanceTo (cellGet (fun _ => 0) s.mem.refAt k + s.refInterval c ch)
  u.setMem { u.mem with refAt := cellSet (fun _ => 0) u.mem.refAt k u.tick }

/-- The bank owes it. -/
def State.refreshOwed (s : State) (c ch k : Nat) : State :=
  let u := s.refreshNoted c ch k
  u.setOwed k (cellGet (fun _ => 0) u.mem.owed k + 1)

theorem refreshNoted_shows (s : State) (c ch k : Nat) : (s.refreshNoted c ch k).mem.owed = s.mem.owed ∧
    (s.refreshNoted c ch k).regs = s.regs ∧ cellGet (fun _ => 0) s.mem.refAt k + s.refInterval c ch ≤ (s.refreshNoted c ch k).tick := by
  unfold State.refreshNoted
  have hmem := mem_advanceTo s (cellGet (fun _ => 0) s.mem.refAt k + s.refInterval c ch)
  have hregs := advanceTo_regs s (cellGet (fun _ => 0) s.mem.refAt k + s.refInterval c ch)
  have htick := advanceTo_le_tick s (cellGet (fun _ => 0) s.mem.refAt k + s.refInterval c ch)
  generalize s.advanceTo (cellGet (fun _ => 0) s.mem.refAt k + s.refInterval c ch) = u at hmem hregs htick
  rw [← hmem]
  exact ⟨rfl, hregs, hmem ▸ htick⟩

theorem refreshOwed_shows (s : State) (c ch k : Nat) :
    (s.refreshOwed c ch k).mem.owed = cellSet (fun _ => 0) s.mem.owed k (cellGet (fun _ => 0) s.mem.owed k + 1) ∧
    (s.refreshOwed c ch k).quiet = s.quiet ∧ cellGet (fun _ => 0) s.mem.refAt k + s.refInterval c ch ≤ (s.refreshOwed c ch k).tick := by
  obtain ⟨howed, hregs, htick⟩ := refreshNoted_shows s c ch k
  have hquiet : (s.refreshNoted c ch k).quiet = s.quiet := on_of_rd (rd_of_regs hregs ..)
  unfold State.refreshOwed
  generalize s.refreshNoted c ch k = u at howed hquiet htick
  refine ⟨?_, hquiet, htick⟩
  rw [← howed]
  rfl

theorem exec_memRefreshDue {s : State} {c ch : Nat} (bank : Nat) (htr : s.on MEM_CLc_STATUS.TRAINED c = true) (hch : ch < s.chansOf c)
    (hsr : s.on MEM_CLc_STATUS.IN_SR c = false) (hclass : c = 1 ∨ s.quiet = false)
    (howed : cellGet (fun _ => 0) s.mem.owed (bankKey c ch bank) + 1 < 8) :
    exec (.memRefreshDue c ch bank false 0 []) s = .next (s.refreshOwed c ch (bankKey c ch bank)) := by
  obtain ⟨-, hquiet, -⟩ := refreshOwed_shows s c ch (bankKey c ch bank)
  obtain ⟨hnoted, -, -⟩ := refreshNoted_shows s c ch (bankKey c ch bank)
  have hgo : ¬ (!s.on MEM_CLc_STATUS.TRAINED c || decide (s.chansOf c ≤ ch) || s.on MEM_CLc_STATUS.IN_SR c) = true := by simp [htr, hsr, hch]
  have hopen : ¬ (decide (c = 0) && (s.refreshOwed c ch (bankKey c ch bank)).quiet) = true := by
    rw [hquiet]
    rcases hclass with rfl | h
    · simp
    · simp [h]
  have hfew : cellGet (fun _ => 0) (s.refreshNoted c ch (bankKey c ch bank)).mem.owed (bankKey c ch bank) + 1 < 8 := by rwa [hnoted]
  exact (if_neg hgo).trans ((if_neg hopen).trans ((if_neg Bool.false_ne_true).trans (if_pos hfew)))

/-! ## Updates and retraining (R400, R401) -/

/-- What an update leaves: the channel's last update is now. -/
theorem updateDone_shows (s : State) (c ch : Nat) : (s.updateDone c ch).mem.last = cellSet (fun _ => 0) s.mem.last (4 * c + ch) s.tick ∧
    (s.updateDone c ch).tick = s.tick ∧ ToldGrows s (s.updateDone c ch) := by
  unfold State.updateDone
  extract_lets k asked src u
  have hu : u.mem.last = cellSet (fun _ => 0) s.mem.last (4 * c + ch) s.tick ∧ u.tick = s.tick ∧ u.evt = s.evt := ⟨rfl, rfl, rfl⟩
  obtain ⟨hlast, htick, hevt⟩ := hu
  clear_value u
  have hgrows : ToldGrows s u := fun n => Nat.le_of_eq (told_of_evt hevt n).symm
  split
  · have k := State.raise_keep u 453 [i8 0, i8 ch] none none
    exact ⟨(congrArg MemSt.last (k.parts .mem rfl)).trans hlast, (k.parts .tick rfl).trans htick, hgrows.trans (.raise u _ _ _ _)⟩
  · exact ⟨hlast, htick, hgrows⟩

theorem exec_memRetrainDue {s : State} {ch : Nat} (htr : s.on MEM_CLc_STATUS.TRAINED 1 = true) (hch : ch < s.chansOf 1)
    (hms : s.on MEM_TRAIN.RETRAIN_MS = true) : exec (.memRetrainDue 1 ch) s =
      .next ((s.advanceTo (cellGet (fun _ => 0) s.mem.last (4 + ch) + 1000000 * s.rd MEM_TRAIN.RETRAIN_MS)).updateDone 1 ch) := by
  have hgo : ¬ (!s.on MEM_CLc_STATUS.TRAINED 1 || decide (s.chansOf 1 ≤ ch)) = true := by simp [htr, hch]
  change execMemRetrainDue 1 ch s = _
  rw [execMemRetrainDue, if_neg hgo]
  dsimp only
  rw [if_pos hms]
  exact congrArg ok (if_pos rfl)

theorem exec_memRetrainDeadline {s : State} {c ch x : Nat} (hdue : cellGet (fun _ => 0) s.mem.due (4 * c + ch) = x + 1) :
    exec (.memRetrainDeadline c ch) s = .next (((s.advanceTo (x + 1000000 * s.rd MEM_TRAIN.DEADLINE_MS)).updateDone c ch).raise 452
      [i8 c, i8 ch] none (some (4 * c + ch))) := by
  change execMemRetrainDeadline c ch s = _
  rw [execMemRetrainDeadline, hdue]

/-- The request for a retraining is shown. -/
def State.trainShown (s : State) (c ch : Nat) : State := (s.wr MEM_TRAIN_CMD.CLASS c).wr MEM_TRAIN_CMD.CHANNEL ch

theorem trainShown_shows {s : State} (hwf : s.wf = true) {c ch : Nat} (hc : c < 2) (hch : ch < 8) :
    (s.trainShown c ch).rd MEM_TRAIN_CMD.CLASS = c ∧ (s.trainShown c ch).rd MEM_TRAIN_CMD.CHANNEL = ch ∧
    (s.trainShown c ch).chansOf c = s.chansOf c ∧ (s.trainShown c ch).mem = s.mem := by
  have hwf1 := wr_wf hwf MEM_TRAIN_CMD.CLASS c 0 0
  have hclass : (s.wr MEM_TRAIN_CMD.CLASS c).rd MEM_TRAIN_CMD.CLASS = c :=
    (rd_wr_same hwf (by decide) rfl).trans (Nat.mod_eq_of_lt hc)
  have hapart : ∀ k < 2, MEM_CLc_STATUS.CHANNELS.addr k 0 ≠ 0x500020 := by decide
  refine ⟨?_, (rd_wr_same hwf1 (by decide) rfl).trans (Nat.mod_eq_of_lt hch), ?_, rfl⟩
  · exact (rd_wr_bits (f := MEM_TRAIN_CMD.CHANNEL) (g := MEM_TRAIN_CMD.CLASS) hwf1 (by decide) (.inl (by decide))).trans hclass
  · exact (rd_wr_addr (f := MEM_TRAIN_CMD.CHANNEL) (g := MEM_CLc_STATUS.CHANNELS) hwf1 (hapart c hc)).trans
      (rd_wr_addr (f := MEM_TRAIN_CMD.CLASS) (g := MEM_CLc_STATUS.CHANNELS) hwf (hapart c hc))

/-- A bulk channel is to be retrained. -/
def State.bulkAsked (s : State) (ch : Nat) : State :=
  s.setMem { s.mem with training := if s.mem.training.contains ch then s.mem.training else s.mem.training ++ [ch] }

/-- A real-time channel is to be retrained. -/
def State.rtAsked (s : State) (ch : Nat) : State :=
  s.setMem { s.mem with
    asked := if s.mem.asked.contains ch then s.mem.asked else s.mem.asked ++ [ch]
    due := if cellGet (fun _ => 0) s.mem.due ch = 0 then cellSet (fun _ => 0) s.mem.due ch (s.tick + 1) else s.mem.due }

theorem mem_kept {l : List Nat} (x : Nat) : x ∈ (if l.contains x then l else l ++ [x]) := by
  split
  case isTrue h => exact List.contains_iff_mem.1 h
  case isFalse => exact List.mem_append_right _ (List.mem_singleton_self x)

theorem bulkAsked_shows (s : State) (ch : Nat) : ch ∈ (s.bulkAsked ch).mem.training ∧ (s.bulkAsked ch).regs = s.regs := ⟨mem_kept ch, rfl⟩

theorem rtAsked_shows (s : State) (ch : Nat) : ch ∈ (s.rtAsked ch).mem.asked ∧ (s.rtAsked ch).regs = s.regs := ⟨mem_kept ch, rfl⟩

theorem bitsOf_lt (x lo w : Nat) : bitsOf x lo w < 2 ^ w := Nat.mod_lt _ (Nat.two_pow_pos w)

section
variable {s : State} (hwf : s.wf = true) {val : Word}
include hwf

theorem exec_memRetrainRequest_bulk (hc : bitsOf val.toNat 3 1 = 1) (hch : bitsOf val.toNat 0 3 < s.chansOf 1) :
    exec (.memRetrainRequest val) s = .next ((s.trainShown 1 (bitsOf val.toNat 0 3)).bulkAsked (bitsOf val.toNat 0 3)) := by
  obtain ⟨-, -, hchans, -⟩ := trainShown_shows hwf (c := 1) (by decide) (bitsOf_lt val.toNat 0 3)
  have hfits : ¬ (s.trainShown 1 (bitsOf val.toNat 0 3)).chansOf 1 ≤ bitsOf val.toNat 0 3 := by
    rw [hchans]
    omega
  change execMemRetrainRequest val s = _
  rw [execMemRetrainRequest, hc]
  exact (if_neg hfits).trans (if_pos rfl)

theorem exec_memRetrainRequest_rt (hc : bitsOf val.toNat 3 1 = 0) (hch : bitsOf val.toNat 0 3 < s.chansOf 0) :
    exec (.memRetrainRequest val) s = .next ((s.trainShown 0 (bitsOf val.toNat 0 3)).rtAsked (bitsOf val.toNat 0 3)) := by
  obtain ⟨-, -, hchans, -⟩ := trainShown_shows hwf (c := 0) (by decide) (bitsOf_lt val.toNat 0 3)
  have hfits : ¬ (s.trainShown 0 (bitsOf val.toNat 0 3)).chansOf 0 ≤ bitsOf val.toNat 0 3 := by
    rw [hchans]
    omega
  change execMemRetrainRequest val s = _
  rw [execMemRetrainRequest, hc]
  exact (if_neg hfits).trans (if_neg (by decide))
end

/-- A bulk channel has been retrained. -/
def State.bulkTrained (s : State) (ch : Nat) : State :=
  s.setMem { s.mem with
    training := s.mem.training.filter (fun x => x != ch)
    last := cellSet (fun _ => 0) s.mem.last (4 + ch) s.tick }

theorem exec_memRetrainDone {s : State} {ch : Nat} (h : s.mem.training.contains ch = true) :
    exec (.memRetrainDone ch) s = .next ((s.bulkTrained ch).raise 453 [i8 1, i8 ch]) :=
  if_neg (by rw [h]; decide)

theorem bulkTrained_shows (s : State) (ch : Nat) : (s.bulkTrained ch).mem.training.contains ch = false ∧ (s.bulkTrained ch).evt = s.evt :=
  ⟨by simp [State.bulkTrained, State.setMem], rfl⟩

/-! ## Temperatures (R396, R400) -/

/-- From `s` to `t` nothing that a reading of die `d` turns on changes: the clock, the channels, and its own register. -/
structure SameDie (d : Nat) (s t : State) : Prop where
  wf : s.wf = true → t.wf = true
  tick : t.tick = s.tick
  chans : s.wf = true → ∀ c < 2, t.chansOf c = s.chansOf c
  deg : s.wf = true → t.rd MEM_TEMPd.DEGC d = s.rd MEM_TEMPd.DEGC d

theorem SameDie.refl (d : Nat) (s : State) : SameDie d s s := ⟨id, rfl, fun _ _ _ => rfl, fun _ => rfl⟩

theorem SameDie.trans {d : Nat} {s t u : State} (h1 : SameDie d s t) (h2 : SameDie d t u) : SameDie d s u :=
  ⟨fun h => h2.wf (h1.wf h), h2.tick.trans h1.tick, fun h c hc => (h2.chans (h1.wf h) c hc).trans (h1.chans h c hc),
    fun h => (h2.deg (h1.wf h)).trans (h1.deg h)⟩

/-- What changes neither the clock nor a register of MEM. -/
theorem SameDie.of_keep {m d : Nat} {s t : State} (hd : d < 8) (k : Keep m s t) (hmem : m.testBit 18 = false) (htick : m.testBit 63 = false) :
    SameDie d s t := by
  have hzone : ∀ a, 0x500000 ≤ a → a < 0x510000 → zoneNo a = 18 := fun a h1 h2 => zoneNo_blk (b := .mem) h1 (Nat.lt_of_lt_of_le h2 (by decide))
  have hreg (h : s.wf = true) (a : Nat) (h1 : 0x500000 ≤ a) (h2 : a < 0x510000) : t.reg a = s.reg a :=
    k.regs h a (by rw [hzone a h1 h2]; exact hmem)
  have hchans : ∀ c < 2, 0x500000 ≤ MEM_CLc_STATUS.CHANNELS.addr c 0 ∧ MEM_CLc_STATUS.CHANNELS.addr c 0 < 0x510000 := by decide
  have hdeg : ∀ d < 8, 0x500000 ≤ MEM_TEMPd.DEGC.addr d 0 ∧ MEM_TEMPd.DEGC.addr d 0 < 0x510000 := by decide
  refine ⟨k.wf, k.parts .tick htick, fun h c hc => rd_of_reg (hreg h _ (hchans c hc).1 (hchans c hc).2), fun h => ?_⟩
  exact rd_of_reg (hreg h _ (hdeg d hd).1 (hdeg d hd).2)

/-- A die that is hot is refreshed at 4 times the rate. -/
def State.dieShown (s : State) (was : Bool) (d : Nat) (t : Int) : State :=
  let now := if was then decide (120 < t) else decide (125 < t)
  let u := s.setMem { s.mem with hot := if now = was then s.mem.hot else if now then d :: s.mem.hot else s.mem.hot.filter (fun x => x != d) }
  let u := if now = was then u else u.raise 451 [i8 (d / 4), i8 (d % 4), i8 (if now then 4 else 1)]
  if 10 ≤ (t - cellGet (fun _ => 0) u.mem.atTemp d).natAbs then u.updateDue (d / 4) (d % 4) else u

/-- A die is read. -/
def State.dieRead (temps : List Int) (d : Nat) (s : State) : State :=
  if s.chansOf (d / 4) ≤ d % 4 then s else (s.wr MEM_TEMPd.DEGC (unsgn 8 (temps.getD d 0)) d).dieShown (s.mem.hot.contains d) d (temps.getD d 0)

theorem dieShown_keep (s : State) (was : Bool) (d : Nat) (t : Int) : Keep 0x40000400100004 s (s.dieShown was d t) := by
  unfold State.dieShown
  extract_lets now src u v
  have hu : Keep 0x40000400100004 s u := (State.setMem_keep s _).mono rfl
  have hv : Keep 0x40000400100004 s v := .ite hu ((State.raise_keep ..).step hu rfl)
  exact .ite ((State.updateDue_keep ..).step hv rfl) hv

theorem SameDie.dieRead {d e : Nat} (he : e < 8) (hde : d ≠ e) (temps : List Int) (s : State) :
    SameDie e s (State.dieRead temps d s) := by
  unfold State.dieRead
  split
  · exact .refl e s
  · have hwr : SameDie e s (s.wr MEM_TEMPd.DEGC (unsgn 8 (temps.getD d 0)) d) := by
      have hchans : ∀ c < 2, ∀ d < 8, MEM_CLc_STATUS.CHANNELS.addr c 0 ≠ MEM_TEMPd.DEGC.addr d 0 := by decide
      have hdies : ∀ d < 8, ∀ e < 8, d ≠ e → MEM_TEMPd.DEGC.addr e 0 ≠ MEM_TEMPd.DEGC.addr d 0 := by decide
      by_cases hd : d < 8
      · exact ⟨fun h => wr_wf h .., ((Keep.refl 0x40000 s).wr .mem rfl rfl).parts .tick rfl, fun h c hc => rd_wr_addr h (hchans c hc d hd),
          fun h => rd_wr_addr h (hdies d hd e he hde)⟩
      · have hfits : ¬ MEM_TEMPd.DEGC.fits d 0 = true := fun h => hd (fits_lt h (by decide))
        rw [State.wr, if_neg hfits]
        exact .refl e s
    exact hwr.trans (.of_keep he (dieShown_keep ..) rfl rfl)

/-- A die whose channel is fitted shows its reading. -/
theorem rd_dieRead {s : State} (hwf : s.wf = true) {d : Nat} (hd : d < 8) (hch : d % 4 < s.chansOf (d / 4)) (temps : List Int) :
    (State.dieRead temps d s).rd MEM_TEMPd.DEGC d = unsgn 8 (temps.getD d 0) := by
  have hfits : ∀ d < 8, MEM_TEMPd.DEGC.fits d 0 = true := by decide
  have hset : (s.wr MEM_TEMPd.DEGC (unsgn 8 (temps.getD d 0)) d).rd MEM_TEMPd.DEGC d = unsgn 8 (temps.getD d 0) :=
    (rd_wr_same hwf (by decide) (hfits d hd)).trans (Nat.mod_eq_of_lt (unsgn_lt 8 _))
  rw [State.dieRead, if_neg (by omega), (SameDie.of_keep hd (dieShown_keep ..) rfl rfl).deg (wr_wf hwf ..), hset]

/-- Every die is read. -/
def State.diesRead (s : State) (temps : List Int) : State := forEach (List.range 8) (State.dieRead temps) s

/-- The rates of the two classes are shown. -/
def State.ratesShown (s : State) : State :=
  (s.wr MEM_CLc_STATUS.MULT4 (b2n (s.mem.hot.any fun d => d / 4 == 0)) 0).wr MEM_CLc_STATUS.MULT4 (b2n (s.mem.hot.any fun d => d / 4 == 1)) 1

theorem exec_memTempRead (s : State) (temps : List Int) :
    exec (.memTempRead temps) s = .next ((s.advanceTo (s.nextScan 4000000)).diesRead temps).ratesShown := by
  change execMemTempRead temps s = _
  unfold execMemTempRead epochTicks
  extract_lets u v any
  have hv : v = u.diesRead temps := by
    refine congrArg (fun f => forEach (List.range 8) f u) (funext fun d => funext fun w => ?_)
    unfold State.dieRead
    refine ite_congr rfl (fun _ => rfl) fun _ => ?_
    rfl
  rw [← hv]
  rfl

theorem ratesShown_shows (s : State) : s.ratesShown.tick = s.tick ∧ (s.wf = true → ∀ d < 8, s.ratesShown.rd MEM_TEMPd.DEGC d = s.rd MEM_TEMPd.DEGC d) := by
  have hapart : ∀ c < 2, ∀ d < 8, MEM_TEMPd.DEGC.addr d 0 ≠ MEM_CLc_STATUS.MULT4.addr c 0 := by decide
  have hk : Keep 0x40000 s s.ratesShown := ((Keep.refl _ s).wr .mem rfl rfl).wr .mem rfl rfl
  refine ⟨hk.parts .tick rfl, fun hwf d hd => ?_⟩
  exact (rd_wr_addr (f := MEM_CLc_STATUS.MULT4) (g := MEM_TEMPd.DEGC) (wr_wf hwf ..) (hapart 1 (by decide) d hd)).trans
    (rd_wr_addr (f := MEM_CLc_STATUS.MULT4) (g := MEM_TEMPd.DEGC) hwf (hapart 0 (by decide) d hd))

theorem dieRead_keep (temps : List Int) (d : Nat) (s : State) : Keep 0x40000400140004 s (State.dieRead temps d s) :=
  .ite (.refl _ s) ((dieShown_keep ..).step ((Keep.refl 0x40000400140004 s).wr .mem rfl rfl) rfl)

theorem diesRead_keep (s : State) (temps : List Int) : Keep 0x40000400140004 s (s.diesRead temps) :=
  .forEach (.refl _ s) fun d u => dieRead_keep temps d u

/-- Every die whose channel is fitted shows its reading once all are read. -/
theorem rd_diesRead {s : State} (hwf : s.wf = true) (temps : List Int) {e : Nat} (he : e < 8) (hch : e % 4 < s.chansOf (e / 4)) :
    (s.diesRead temps).rd MEM_TEMPd.DEGC e = unsgn 8 (temps.getD e 0) := by
  obtain ⟨w, hw, hrest⟩ := forEach_at (R := SameDie e) (f := State.dieRead temps) (x := e) (SameDie.refl e) SameDie.trans
    (fun d hd u => SameDie.dieRead he hd temps u) List.nodup_range (List.mem_range.2 he) s
  have hchw : e % 4 < w.chansOf (e / 4) := by rwa [hw.chans hwf (e / 4) (by omega)]
  rw [State.diesRead, hrest.deg ((dieRead_keep temps e w).wf (hw.wf hwf)), rd_dieRead (hw.wf hwf) he hchw]

/-! ## Repair (R403, R404) -/

/-- STATE of the repair command follows a repair that the command asked for. -/
def State.repairShown (s : State) (r : Repair) (st : Nat) : State := if r.cmd then s.wr MEM_REPAIR_CMD.STATE st else s

/-- A repair is over, one way or the other. -/
def State.repairGone (s : State) (r : Repair) : State := s.setMem { s.mem with repairs := s.mem.repairs.filter (fun x => x != r) }

/-- A repair runs. -/
def State.repairRuns (s : State) (r : Repair) : State :=
  s.setMem { s.mem with repairs := s.mem.repairs.map (fun x => if x = r then { x with running := true } else x) }

/-- A repair waits. -/
def State.repairWaits (s : State) (r : Repair) : State := s.setMem { s.mem with repairs := s.mem.repairs ++ [r] }

theorem failRepair_eq (s : State) (r : Repair) : s.failRepair r = ((s.repairGone r).repairShown r 4).raise 455 [i8 r.cls, i64 r.off] := rfl

theorem startRepair_eq (s : State) (r : Repair) : s.startRepair r = ((s.repairRuns r).repairShown r 2).raise 454 [i8 r.cls, i64 r.off] := rfl

theorem queueRepair_rt {r : Repair} (h : r.cls = 0) (s : State) : s.queueRepair r = (s.repairWaits r).repairShown r 1 :=
  if_neg (by rw [h]; decide)

theorem repairGone_shows (s : State) (r : Repair) : r ∉ (s.repairGone r).mem.repairs ∧ (s.repairGone r).evt = s.evt ∧
    (s.repairGone r).regs = s.regs ∧ (s.wf = true → (s.repairGone r).wf = true) :=
  ⟨by simp [State.repairGone, State.setMem], rfl, rfl, id⟩

theorem repairRuns_shows (s : State) (r : Repair) : (s.repairRuns r).evt = s.evt ∧ (s.repairRuns r).tick = s.tick ∧
    (s.wf = true → (s.repairRuns r).wf = true) := ⟨rfl, rfl, id⟩

theorem repairWaits_shows (s : State) (r : Repair) : (s.repairWaits r).mem.repairs = s.mem.repairs ++ [r] ∧
    (s.wf = true → (s.repairWaits r).wf = true) := ⟨rfl, id⟩

theorem repairShown_keep (s : State) (r : Repair) (st : Nat) : Keep 0x40000 s (s.repairShown r st) :=
  .ite ((Keep.refl _ s).wr .mem rfl rfl) (.refl _ s)

theorem rd_repairShown {s : State} (hwf : s.wf = true) {r : Repair} (hcmd : r.cmd = true) {st : Nat} (hst : st < 8) :
    (s.repairShown r st).rd MEM_REPAIR_CMD.STATE = st := by
  rw [State.repairShown, if_pos hcmd]
  exact (rd_wr_same hwf (by decide) rfl).trans (Nat.mod_eq_of_lt hst)

/-- STATE and the source of a repair's step: what a repair's end or start shows after the raise. -/
theorem repairTold_shows {s : State} (hwf : s.wf = true) (r : Repair) (hcmd : r.cmd = true) {st : Nat} (hst : st < 8) (n : Nat)
    (items : List Item) : let t := (s.repairShown r st).raise n items
    t.rd MEM_REPAIR_CMD.STATE = st ∧ s.told n < t.told n ∧ t.mem = s.mem ∧ t.tick = s.tick := by
  have ks := repairShown_keep s r st
  have kr := State.raise_keep (s.repairShown r st) n items none none
  refine ⟨?_, ?_, (kr.parts .mem rfl).trans (ks.parts .mem rfl), (kr.parts .tick rfl).trans (ks.parts .tick rfl)⟩
  · exact (kr.rdIn .mem (ks.wf hwf) rfl rfl rfl).trans (rd_repairShown hwf hcmd hst)
  · rw [← told_of_evt (ks.parts .evt rfl) n]
    exact told_lt_raise ..

theorem failRepair_shows {s : State} (hwf : s.wf = true) {r : Repair} (hcmd : r.cmd = true) :
    (s.failRepair r).rd MEM_REPAIR_CMD.STATE = 4 ∧ r ∉ (s.failRepair r).mem.repairs ∧ s.told 455 < (s.failRepair r).told 455 := by
  obtain ⟨hgone, hevt, -, hwfg⟩ := repairGone_shows s r
  obtain ⟨hst, htold, hmem, -⟩ := repairTold_shows (hwfg hwf) r hcmd (st := 4) (by decide) 455 [i8 r.cls, i64 r.off]
  rw [failRepair_eq, hmem, ← told_of_evt hevt]
  exact ⟨hst, hgone, htold⟩

theorem startRepair_shows {s : State} (hwf : s.wf = true) {r : Repair} (hcmd : r.cmd = true) :
    (s.startRepair r).rd MEM_REPAIR_CMD.STATE = 2 ∧ s.told 454 < (s.startRepair r).told 454 ∧ (s.startRepair r).tick = s.tick := by
  obtain ⟨hevt, htick, hwfr⟩ := repairRuns_shows s r
  obtain ⟨hst, htold, -, htick'⟩ := repairTold_shows (hwfr hwf) r hcmd (st := 2) (by decide) 454 [i8 r.cls, i64 r.off]
  rw [startRepair_eq, htick', htick, ← told_of_evt hevt]
  exact ⟨hst, htold, rfl⟩

/-! ### The command (R403) -/

/-- The repair command is shown. -/
def State.repairAsked (s : State) (c m : Nat) : State := (s.wr MEM_REPAIR_CMD.CLASS c).wr MEM_REPAIR_CMD.MODE m

/-- The repair that it asks for. -/
def State.askedRepair (s : State) (c m : Nat) : Repair := { cls := c, off := s.rd64 MEM_REPAIR_ADDR_LO.OFFSET, mode := m, from_ := s.tick }

theorem usable_of_regs {s t : State} {c : Nat} (h : t.reg (MEM_CLc_STATUS.CHANNELS.addr c 0) = s.reg (MEM_CLc_STATUS.CHANNELS.addr c 0)) :
    t.usable c = s.usable c := by
  rw [State.usable, rd_of_reg (f := MEM_CLc_STATUS.CHANNELS) h, rd_of_reg (f := MEM_CLc_STATUS.GIB) h, State.usable]

theorem repairAsked_shows {s : State} (hwf : s.wf = true) {c : Nat} (m : Nat) (hc : c < 2) :
    (s.repairAsked c m).rd MEM_REPAIR_CMD.STATE = s.rd MEM_REPAIR_CMD.STATE ∧ (s.repairAsked c m).usable c = s.usable c ∧
    (s.repairAsked c m).rd64 MEM_REPAIR_ADDR_LO.OFFSET = s.rd64 MEM_REPAIR_ADDR_LO.OFFSET ∧ (s.repairAsked c m).wf = true ∧
    (s.repairAsked c m).mem = s.mem ∧ (s.repairAsked c m).evt = s.evt := by
  have hwf1 := wr_wf hwf MEM_REPAIR_CMD.CLASS c 0 0
  have hreg (a : Nat) (ha : a ≠ 0x500038) : (s.repairAsked c m).reg a = s.reg a :=
    (reg_wr_other (f := MEM_REPAIR_CMD.MODE) hwf1 ha).trans (reg_wr_other (f := MEM_REPAIR_CMD.CLASS) hwf ha)
  have hapart : ∀ c < 2, MEM_CLc_STATUS.CHANNELS.addr c 0 ≠ 0x500038 := by decide
  refine ⟨?_, usable_of_regs (hreg _ (hapart c hc)), rd64_of_reg (hreg _ (by decide)) (hreg _ (by decide)), wr_wf hwf1 .., rfl, rfl⟩
  exact (rd_wr_bits (f := MEM_REPAIR_CMD.MODE) (g := MEM_REPAIR_CMD.STATE) hwf1 (by decide) (.inl (by decide))).trans
    (rd_wr_bits (f := MEM_REPAIR_CMD.CLASS) (g := MEM_REPAIR_CMD.STATE) hwf (by decide) (.inl (by decide)))

section
variable {s : State} (hwf : s.wf = true) {val : Word} (hidle : s.rd MEM_REPAIR_CMD.STATE ∉ [1, 2])
include hwf hidle

theorem exec_memRepairRequest : exec (.memRepairRequest val) s =
    let u := s.repairAsked (bitsOf val.toNat 0 1) (bitsOf val.toNat 1 1)
    let r := u.askedRepair (bitsOf val.toNat 0 1) (bitsOf val.toNat 1 1)
    if u.usable (bitsOf val.toNat 0 1) ≤ r.off then .next (u.failRepair r) else .next (u.queueRepair r) := by
  obtain ⟨hst, -⟩ := repairAsked_shows hwf (bitsOf val.toNat 1 1) (bitsOf_lt val.toNat 0 1)
  rw [← hst] at hidle
  simp only [List.mem_cons, List.not_mem_nil, or_false, not_or] at hidle
  obtain ⟨hone, htwo⟩ := hidle
  have hgo : ¬ (decide ((s.repairAsked (bitsOf val.toNat 0 1) (bitsOf val.toNat 1 1)).rd MEM_REPAIR_CMD.STATE = 1) ||
      decide ((s.repairAsked (bitsOf val.toNat 0 1) (bitsOf val.toNat 1 1)).rd MEM_REPAIR_CMD.STATE = 2)) = true := by
    rw [decide_eq_false hone, decide_eq_false htwo]
    decide
  exact if_neg hgo

theorem exec_memRepairRequest_outside (hout : s.usable (bitsOf val.toNat 0 1) ≤ s.rd64 MEM_REPAIR_ADDR_LO.OFFSET) :
    Does (.memRepairRequest val) s (fun t => t.rd MEM_REPAIR_CMD.STATE = 4 ∧ s.told 455 < t.told 455) := by
  obtain ⟨-, hus, hoff, hwfu, -, hevt⟩ := repairAsked_shows hwf (bitsOf val.toNat 1 1) (bitsOf_lt val.toNat 0 1)
  have hexec := exec_memRepairRequest hwf (val := val) hidle
  generalize s.repairAsked (bitsOf val.toNat 0 1) (bitsOf val.toNat 1 1) = u at hus hoff hwfu hevt hexec
  rw [← hus, ← hoff] at hout
  obtain ⟨hst, -, htold⟩ := failRepair_shows hwfu (r := u.askedRepair (bitsOf val.toNat 0 1) (bitsOf val.toNat 1 1)) rfl
  rw [told_of_evt hevt] at htold
  exact does_of_exec (hexec.trans (if_pos hout)) ⟨hst, htold⟩

theorem exec_memRepairRequest_rt (hin : s.rd64 MEM_REPAIR_ADDR_LO.OFFSET < s.usable (bitsOf val.toNat 0 1)) (hc : bitsOf val.toNat 0 1 = 0) :
    Does (.memRepairRequest val) s (fun t => t.rd MEM_REPAIR_CMD.STATE = 1 ∧ ∃ r, t.mem.repairs = s.mem.repairs ++ [r] ∧
      r.cls = 0 ∧ r.off = s.rd64 MEM_REPAIR_ADDR_LO.OFFSET ∧ r.mode = bitsOf val.toNat 1 1) := by
  obtain ⟨-, hus, hoff, hwfu, hmem, -⟩ := repairAsked_shows hwf (bitsOf val.toNat 1 1) (bitsOf_lt val.toNat 0 1)
  have hexec := exec_memRepairRequest hwf (val := val) hidle
  generalize s.repairAsked (bitsOf val.toNat 0 1) (bitsOf val.toNat 1 1) = u at hus hoff hwfu hmem hexec
  obtain ⟨hwaits, hwfw⟩ := repairWaits_shows u (u.askedRepair (bitsOf val.toNat 0 1) (bitsOf val.toNat 1 1))
  have ks := repairShown_keep (u.repairWaits (u.askedRepair (bitsOf val.toNat 0 1) (bitsOf val.toNat 1 1)))
    (u.askedRepair (bitsOf val.toNat 0 1) (bitsOf val.toNat 1 1)) 1
  have hroom : ¬ u.usable (bitsOf val.toNat 0 1) ≤ (u.askedRepair (bitsOf val.toNat 0 1) (bitsOf val.toNat 1 1)).off := by
    rw [← hus, ← hoff] at hin
    exact Nat.not_le.2 hin
  refine does_of_exec (hexec.trans (if_neg hroom)) ?_
  rw [queueRepair_rt (r := u.askedRepair (bitsOf val.toNat 0 1) (bitsOf val.toNat 1 1)) hc, ks.parts .mem rfl, hwaits, hmem]
  exact ⟨rd_repairShown (hwfw hwfu) rfl (by decide), _, rfl, hc, hoff, rfl⟩
end

theorem exec_memRepairWaitExpire {s : State} {r : Repair} {l : List Repair} (h : s.waitingRepairs = r :: l) :
    exec .memRepairWaitExpire s = .next ((s.advanceTo (r.from_ + 1000000 * s.rd MEM_CFG.REPAIR_WAIT_MS)).startRepair r) := by
  change execMemRepairWaitExpire s = _
  rw [execMemRepairWaitExpire, h]

/-! ### The end of a repair (R403) -/

/-- The repair log holds the repair. -/
def State.repairLogged (s : State) (c die bank row mode n : Nat) : State :=
  (s.mramWrite (repairLogAt n) (leBytes 8 (c + die % 2 ^ 8 * 2 ^ 8 + bank % 2 ^ 8 * 2 ^ 16 + row % 2 ^ 32 * 2 ^ 32))).mramWrite
    (repairLogAt n + 56) (leBytes 8 (1 + mode))

/-- The log's length and the count of repairs go up. -/
def State.repairCounted (s : State) (n : Nat) : State := (s.wr MEM_REPAIR_CMD.LOG_USED (n + 1)).count MEM_cnt_LO.COUNT 5

section
variable {s : State} {c : Nat} {r : Repair} (hr : s.mem.repairs.find? (fun r => r.cls == c && r.running) = some r) (die bank row : Nat)
  (remapped : Bool)
include hr

theorem exec_memRepairDone_fails : exec (.memRepairDone c false remapped die bank row) s = .next (s.failRepair r) := by
  change execMemRepairDone c false remapped die bank row s = _
  rw [execMemRepairDone, hr]
  exact if_pos rfl

theorem exec_memRepairDone (hlog : s.rd MEM_REPAIR_CMD.LOG_USED < repairLogSize) (hnv : s.on PWR_STATUS.NV_REFUSED = false) :
    exec (.memRepairDone c true remapped die bank row) s =
      .next (((((s.repairLogged c die bank row (if remapped then 1 else r.mode) (s.rd MEM_REPAIR_CMD.LOG_USED)).repairCounted
        (s.rd MEM_REPAIR_CMD.LOG_USED)).repairGone r).repairShown r 3).raise 454 [i8 r.cls, i64 r.off]) := by
  have hok : ¬ (!true || decide (repairLogSize ≤ s.rd MEM_REPAIR_CMD.LOG_USED)) = true := by
    rw [decide_eq_false (by omega)]
    decide
  change execMemRepairDone c true remapped die bank row s = _
  rw [execMemRepairDone, hr]
  dsimp only
  rw [if_neg hok, if_neg (by rw [hnv]; decide)]
  rfl
end

theorem repairLogged_keep (s : State) (c die bank row mode n : Nat) : Keep 0x4000000000 s (s.repairLogged c die bank row mode n) :=
  (State.mramWrite_keep ..).step (State.mramWrite_keep ..) rfl

theorem repairCounted_shows {s : State} (hwf : s.wf = true) {n : Nat} (hn : n < 1024) :
    (s.repairCounted n).rd MEM_REPAIR_CMD.LOG_USED = n + 1 ∧ (s.repairCounted n).wf = true ∧ (s.repairCounted n).evt = s.evt := by
  have hwf1 := wr_wf hwf MEM_REPAIR_CMD.LOG_USED (n + 1) 0 0
  have hset : (s.wr MEM_REPAIR_CMD.LOG_USED (n + 1)).rd MEM_REPAIR_CMD.LOG_USED = n + 1 :=
    (rd_wr_same hwf (by decide) rfl).trans (Nat.mod_eq_of_lt (Nat.lt_of_le_of_lt hn (by decide)))
  have k : Keep 0x40000 s (s.repairCounted n) := ((Keep.refl _ s).wr .mem rfl rfl).count .mem rfl rfl
  refine ⟨(rd_of_reg ?_).trans hset, k.wf hwf, k.parts .evt rfl⟩
  rw [State.repairCounted]
  unfold State.count
  exact reg_wr64_other hwf1 (by decide) (by decide)

/-- What a repair that succeeded leaves. -/
theorem repairDone_shows {s : State} (hwf : s.wf = true) {n : Nat} (hn : n < 1024) (r : Repair) :
    let t := (((s.repairCounted n).repairGone r).repairShown r 3).raise 454 [i8 r.cls, i64 r.off]
    t.rd MEM_REPAIR_CMD.LOG_USED = n + 1 ∧ r ∉ t.mem.repairs ∧ s.told 454 < t.told 454 := by
  obtain ⟨hlog, hwfc, hevtc⟩ := repairCounted_shows hwf hn
  obtain ⟨hgone, hevt, hregs, hwfg⟩ := repairGone_shows (s.repairCounted n) r
  have ks := repairShown_keep ((s.repairCounted n).repairGone r) r 3
  have kr := State.raise_keep (((s.repairCounted n).repairGone r).repairShown r 3) 454 [i8 r.cls, i64 r.off] none none
  have hbits : (((s.repairCounted n).repairGone r).repairShown r 3).rd MEM_REPAIR_CMD.LOG_USED =
      ((s.repairCounted n).repairGone r).rd MEM_REPAIR_CMD.LOG_USED := by
    unfold State.repairShown
    split
    · exact rd_wr_bits (f := MEM_REPAIR_CMD.STATE) (g := MEM_REPAIR_CMD.LOG_USED) (hwfg hwfc) (by decide) (.inr (by decide))
    · rfl
  refine ⟨?_, ?_, ?_⟩
  · exact (kr.rdIn .mem (ks.wf (hwfg hwfc)) rfl rfl rfl).trans
      (hbits.trans ((rd_of_regs hregs ..).trans hlog))
  · rw [kr.parts .mem rfl, ks.parts .mem rfl]
    exact hgone
  · rw [← told_of_evt ((ks.parts .evt rfl).trans (hevt.trans hevtc)) 454]
    exact told_lt_raise ..

end Sys2Proof.Machine

/-!
The memory controllers: errors, scrubbing, self-refresh, the self-test, and the register access to MRAM.
-/
namespace Sys2Proof.Machine

/-! ## Errors (R391) -/

/-- An entry of the error FIFO. -/
def eccEntry (c off : Nat) (ue : Bool) (req : Nat) : Nat × Nat :=
  (off % 2 ^ 32, off / 2 ^ 32 % 256 + req % 32 * 2 ^ 24 + c % 2 * 2 ^ 29 + b2n ue * 2 ^ 30 + 2 ^ 31)

/-- An error is in the FIFO, while it has room. -/
def State.eccNoted (s : State) (e : Nat × Nat) : State :=
  if s.mem.ecc.length < eccFifo then s.setMem { s.mem with ecc := s.mem.ecc ++ [e] } else s

theorem eccNoted_shows (s : State) (e : Nat × Nat) :
    (s.eccNoted e).mem.ecc.length = min (s.mem.ecc.length + 1) (max eccFifo s.mem.ecc.length) ∧ (s.eccNoted e).regs = s.regs ∧
    (s.eccNoted e).evt = s.evt ∧ (s.wf = true → (s.eccNoted e).wf = true) := by
  unfold State.eccNoted
  split
  case isTrue h =>
    refine ⟨?_, rfl, rfl, id⟩
    change (s.mem.ecc ++ [e]).length = _
    rw [List.length_append, List.length_singleton]
    omega
  case isFalse h => exact ⟨by omega, rfl, rfl, id⟩

theorem exec_dramEccError_ue (s : State) (c off req row : Nat) : exec (.dramEccError c off true req row) s =
    .next (((s.eccNoted (eccEntry c off true req)).count MEM_cnt_LO.COUNT 1).raise 449 [i8 c, i64 off, i8 req]) := rfl

/-- What an error that could not be corrected leaves. -/
theorem eccError_shows {s : State} (hwf : s.wf = true) (items : List Item) : let t := (s.count MEM_cnt_LO.COUNT 1).raise 449 items
    s.told 449 < t.told 449 ∧ t.rd64 MEM_cnt_LO.COUNT 1 = (s.rd64 MEM_cnt_LO.COUNT 1 + 1) % 2 ^ 64 ∧ t.mem = s.mem := by
  have kc : Keep 0x40000 s (s.count MEM_cnt_LO.COUNT 1) := (Keep.refl _ s).count .mem rfl rfl
  have kr := State.raise_keep (s.count MEM_cnt_LO.COUNT 1) 449 items none none
  refine ⟨?_, ?_, (kr.parts .mem rfl).trans (kc.parts .mem rfl)⟩
  · rw [← told_of_evt (kc.parts .evt rfl) 449]
    exact told_lt_raise ..
  · exact (kr.rd64In .mem (kc.wf hwf) rfl rfl rfl).trans (rd64_count_same hwf rfl)

theorem exec_memEccPop {s : State} {who : Nat} (hopen : s.shut who = false) : exec (.memEccPop who) s = .next (s.eccPop who) :=
  if_neg (by rw [hopen]; decide)

theorem readCopy_ne (lo hi : Nat) : ({ valid := true, addr := lo, val := hi } : Hold) ≠ default :=
  fun h => Bool.noConfusion (congrArg Hold.valid h : true = false)

theorem copyHi_shows (s : State) (who lo hi : Nat) : tabGet (s.copyHi who lo hi).rdHold who = { valid := true, addr := lo, val := hi } :=
  cellGet_cellSet_ne _ _ (readCopy_ne lo hi)

theorem eccPop_shows (s : State) (who : Nat) : (s.eccPop who).reply = (s.mem.ecc.headD (0, 0)).1 ∧ (s.eccPop who).mem.ecc = s.mem.ecc.drop 1 ∧
    tabGet (s.eccPop who).rdHold who = { valid := true, addr := MEM_ECC_LO.ENTRY.addr 0 0, val := (s.mem.ecc.headD (0, 0)).2 } :=
  ⟨rfl, rfl, copyHi_shows s who _ _⟩

/-! ## Scrubbing, throttles and self-refresh (R391, R394, R397) -/

/-- A pass of the scrubber ends. -/
def State.scrubbed (s : State) : State := s.setMem { s.mem with scrubFrom := s.tick }

theorem exec_memScrubPass {s : State} (h : s.on MEM_CFG.SCRUB_H = true) : exec .memScrubPass s =
    .next ((s.advanceTo (s.mem.scrubFrom + 3600000000000 * s.rd MEM_CFG.SCRUB_H)).scrubbed.count MEM_cnt_LO.COUNT 8) := by
  change execMemScrubPass s = _
  rw [execMemScrubPass, if_pos h]
  rfl

theorem scrubbed_shows (s : State) : s.scrubbed.mem.scrubFrom = s.tick ∧ s.scrubbed.tick = s.tick ∧ s.scrubbed.regs = s.regs ∧
    (s.wf = true → s.scrubbed.wf = true) := ⟨rfl, rfl, rfl, id⟩

theorem exec_memRdEpochEnd (s : State) : exec .memRdEpochEnd s = .next ((s.advanceTo (s.nextScan 4000000)).wr MEM_THROTTLE.REQ 0) := rfl

/-- The bulk class is about to enter self-refresh: its masked segments are lost. -/
def State.bulkIdle (s : State) : State := (s.advanceTo (s.mem.bulkAt + 1000 * s.rd MEM_SR.IDLE_US)).showSegs.dropMasked

/-- The bulk class is in self-refresh. -/
def State.bulkSleeps (s : State) : State := (s.wr MEM_CLc_STATUS.IN_SR 1 1).count MEM_cnt_LO.COUNT 6

theorem exec_bulkIdleSelfRefresh {s : State} (htr : s.on MEM_CLc_STATUS.TRAINED 1 = true) (hsr : s.on MEM_CLc_STATUS.IN_SR 1 = false)
    (hus : s.on MEM_SR.IDLE_US = true) : exec .bulkIdleSelfRefresh s = .next s.bulkIdle.bulkSleeps := by
  have hgo : ¬ (!s.on MEM_CLc_STATUS.TRAINED 1 || s.on MEM_CLc_STATUS.IN_SR 1) = true := by
    rw [htr, hsr]
    decide
  change execBulkIdleSelfRefresh s = _
  rw [execBulkIdleSelfRefresh, if_neg hgo, if_pos hus]
  rfl

theorem bulkIdle_keep (s : State) : Keep 0x8000010c00140004 s s.bulkIdle :=
  (State.dropMasked_keep _).step ((State.showSegs_keep _).step ((State.advanceTo_keep ..).mono rfl) rfl) rfl

theorem tick_bulkIdle (s : State) : s.mem.bulkAt + 1000 * s.rd MEM_SR.IDLE_US ≤ s.bulkIdle.tick :=
  calc s.mem.bulkAt + 1000 * s.rd MEM_SR.IDLE_US
    _ ≤ (s.advanceTo (s.mem.bulkAt + 1000 * s.rd MEM_SR.IDLE_US)).tick := advanceTo_le_tick ..
    _ ≤ (s.advanceTo (s.mem.bulkAt + 1000 * s.rd MEM_SR.IDLE_US)).showSegs.tick := (State.showSegs_keep _).tick
    _ ≤ s.bulkIdle.tick := (State.dropMasked_keep _).tick

theorem bulkSleeps_shows {s : State} (hwf : s.wf = true) : s.bulkSleeps.on MEM_CLc_STATUS.IN_SR 1 = true ∧ s.tick ≤ s.bulkSleeps.tick := by
  have hset : (s.wr MEM_CLc_STATUS.IN_SR 1 1).on MEM_CLc_STATUS.IN_SR 1 = true := on_wr_same hwf (by decide) rfl rfl true
  have k : Keep 0x40000 s s.bulkSleeps := ((Keep.refl _ s).wr .mem rfl rfl).count .mem rfl rfl
  refine ⟨(on_of_rd (rd_of_reg ?_)).trans hset, k.tick⟩
  unfold State.bulkSleeps State.count
  exact reg_wr64_other (wr_wf hwf ..) (by decide) (by decide)

/-! ## The self-test (R402) -/

/-- A test runs on `n` bytes from `a` on. -/
def State.testBegun (s : State) (a n : Nat) : State :=
  (State.bulkTouch (s.setMem { s.mem with testBase := a, testLen := n })).dropBulk (fun k => decide (a ≤ k) && decide (k < a + n))

section
variable {s : State} (hidle : s.rd MEM_TEST.STATE ≠ 1)
include hidle

theorem exec_memTestStart_refused (h : s.rd64 MEM_TEST_BASE_LO.BYTES % 65536 ≠ 0) :
    exec .memTestStart s = .next (s.wr MEM_TEST.STATE 4) := by
  have hno : (s.rd64 MEM_TEST_BASE_LO.BYTES % 65536 != 0 || s.rd64 MEM_TEST_LEN_LO.BYTES % 65536 != 0 ||
      decide (s.usable 1 < s.rd64 MEM_TEST_BASE_LO.BYTES + s.rd64 MEM_TEST_LEN_LO.BYTES) ||
      s.meetsRing (s.rd64 MEM_TEST_BASE_LO.BYTES) (s.rd64 MEM_TEST_LEN_LO.BYTES)) = true := by
    rw [bne_iff_ne.2 h, Bool.true_or, Bool.true_or, Bool.true_or]
  exact (if_neg hidle).trans (if_pos hno)

theorem exec_memTestStart (hbase : s.rd64 MEM_TEST_BASE_LO.BYTES % 65536 = 0) (hlen : s.rd64 MEM_TEST_LEN_LO.BYTES % 65536 = 0)
    (hin : s.rd64 MEM_TEST_BASE_LO.BYTES + s.rd64 MEM_TEST_LEN_LO.BYTES ≤ s.usable 1)
    (hring : s.meetsRing (s.rd64 MEM_TEST_BASE_LO.BYTES) (s.rd64 MEM_TEST_LEN_LO.BYTES) = false) : exec .memTestStart s =
      .next ((s.testBegun (s.rd64 MEM_TEST_BASE_LO.BYTES) (s.rd64 MEM_TEST_LEN_LO.BYTES)).wr MEM_TEST.STATE 1) := by
  have hok : ¬ (s.rd64 MEM_TEST_BASE_LO.BYTES % 65536 != 0 || s.rd64 MEM_TEST_LEN_LO.BYTES % 65536 != 0 ||
      decide (s.usable 1 < s.rd64 MEM_TEST_BASE_LO.BYTES + s.rd64 MEM_TEST_LEN_LO.BYTES) ||
      s.meetsRing (s.rd64 MEM_TEST_BASE_LO.BYTES) (s.rd64 MEM_TEST_LEN_LO.BYTES)) = true := by
    rw [hbase, hlen, hring, decide_eq_false (Nat.not_lt.2 hin)]
    decide
  exact (if_neg hidle).trans (if_neg hok)
end

theorem bulkTouch_range (s : State) : s.bulkTouch.mem.testBase = s.mem.testBase ∧ s.bulkTouch.mem.testLen = s.mem.testLen := by
  unfold State.bulkTouch
  split <;> exact ⟨rfl, rfl⟩

theorem testBegun_keep (s : State) (a n : Nat) : Keep 0x40010000040000 s (s.testBegun a n) :=
  (State.dropBulk_keep ..).step ((State.bulkTouch_keep _).step ((State.setMem_keep ..).mono rfl) rfl) rfl

/-- A test that has begun. -/
theorem testStarted_shows {s : State} (hwf : s.wf = true) (a n : Nat) : let t := (s.testBegun a n).wr MEM_TEST.STATE 1
    t.rd MEM_TEST.STATE = 1 ∧ t.mem.testBase = a ∧ t.mem.testLen = n := by
  obtain ⟨hbase, hlen⟩ := bulkTouch_range (s.setMem { s.mem with testBase := a, testLen := n })
  have kw : Keep 0x40000 (s.testBegun a n) ((s.testBegun a n).wr MEM_TEST.STATE 1) := (Keep.refl _ _).wr .mem rfl rfl
  have kd := State.dropBulk_keep (State.bulkTouch (s.setMem { s.mem with testBase := a, testLen := n }))
    (fun k => decide (a ≤ k) && decide (k < a + n))
  have hmem := (kw.parts .mem rfl).trans (kd.parts .mem rfl)
  refine ⟨rd_wr_same ((testBegun_keep s a n).wf hwf) (by decide) rfl, ?_, ?_⟩
  · exact (congrArg MemSt.testBase hmem).trans hbase
  · exact (congrArg MemSt.testLen hmem).trans hlen

theorem exec_memTestAbort {s : State} (h : s.rd MEM_TEST.STATE = 1) : exec .memTestAbort s = .next (s.testEnds 0) := if_pos h

theorem exec_memTestDone {s : State} (pass : Bool) (h : s.rd MEM_TEST.STATE = 1) : exec (.memTestDone pass) s =
    .next ((s.testEnds (if pass then 2 else 3)).raise 459 [i8 (if pass then 2 else 3)]) := if_pos h

/-- The tested range is dropped. -/
def State.testDropped (s : State) : State :=
  s.bulkTouch.dropBulk (fun k => decide (s.mem.testBase ≤ k) && decide (k < s.mem.testBase + s.mem.testLen))

theorem testEnds_eq (s : State) (st : Nat) : s.testEnds st = s.testDropped.wr MEM_TEST.STATE st := rfl

theorem testDropped_keep (s : State) : Keep 0x40010000040000 s s.testDropped :=
  (State.dropBulk_keep ..).step ((State.bulkTouch_keep s).mono rfl) rfl

theorem rd_testEnds {s : State} (hwf : s.wf = true) {st : Nat} (hst : st < 8) : (s.testEnds st).rd MEM_TEST.STATE = st := by
  rw [testEnds_eq]
  exact (rd_wr_same ((testDropped_keep s).wf hwf) (by decide) rfl).trans (Nat.mod_eq_of_lt hst)

/-- The tested range reads zeros. -/
theorem bulk_testEnds {s : State} (hwf : s.wf = true) (st : Nat) {a : Nat} (hlo : s.mem.testBase ≤ a) (hhi : a < s.mem.testBase + s.mem.testLen) :
    cellGet bulkShip (s.testEnds st).bulk a = 0#8 := by
  have kw : Keep 0x40000 s.testDropped (s.testDropped.wr MEM_TEST.STATE st) := (Keep.refl _ _).wr .mem rfl rfl
  rw [testEnds_eq, kw.parts .bulk rfl]
  exact cellGet_cellDrop_hit (fun k => decide (s.mem.testBase ≤ k) && decide (k < s.mem.testBase + s.mem.testLen))
    (State.wf_iff.1 ((State.bulkTouch_keep s).wf hwf)).2.2.2.2.2.1 (by simp [hlo, hhi])

/-! ## The register access to MRAM (R405 to R407) -/

/-- The MRAM address of the data port. -/
def State.mramAt (s : State) : Nat := 8 * s.rd MEM_MRAM_ADDR.OFFSET

/-- The data port holds the quadword that is written. -/
def State.mramPort (s : State) (who : Nat) (val : Word) : State :=
  (s.takeHi who (MEM_MRAM_DATA_LO.DATA.addr 0 0) val.toNat).1.wr64 MEM_MRAM_DATA_LO.DATA
    (s.takeHi who (MEM_MRAM_DATA_LO.DATA.addr 0 0) val.toNat).2

section
variable {s : State} {who : Nat} (hopen : s.shut who = false)
include hopen

theorem exec_mramDataRead : exec (.mramDataRead who) s = .next (s.mramDataRead who) := if_neg (by rw [hopen]; decide)

theorem exec_mramDataWrite_kept (val : Word) (h : (s.mramPort who val).mramAt < 0x200000) : exec (.mramDataWrite who val) s =
    .next ((s.mramPort who val).mramRefused (s.mramPort who val).mramAt) :=
  (if_neg (by rw [hopen]; decide)).trans (if_pos h)

theorem exec_mramDataWrite (val : Word) (h : 0x200000 ≤ (s.mramPort who val).mramAt) : exec (.mramDataWrite who val) s =
    .next ((s.mramPort who val).mramStore (s.mramPort who val).mramAt
      (leBytes 8 (s.takeHi who (MEM_MRAM_DATA_LO.DATA.addr 0 0) val.toNat).2)) :=
  (if_neg (by rw [hopen]; decide)).trans (if_neg (Nat.not_lt.2 h))
end

theorem mramDataRead_shows (s : State) (who : Nat) : (s.mramDataRead who).reply = leNat (s.mramRead s.mramAt 8) % 2 ^ 32 ∧
    tabGet (s.mramDataRead who).rdHold who =
      { valid := true, addr := MEM_MRAM_DATA_LO.DATA.addr 0 0, val := leNat (s.mramRead s.mramAt 8) / 2 ^ 32 } :=
  ⟨rfl, copyHi_shows s who _ _⟩

theorem ToldGrows.bad (s : State) : ToldGrows s s.bad :=
  (ToldGrows.of_keep ((Keep.refl 1 s).bump .glb (f := GLB_BAD_ACCESS.COUNT) rfl rfl) rfl).trans (.cal _ _ _ _)

theorem ToldGrows.takeHi (s : State) (who lo hi : Nat) : ToldGrows s (s.takeHi who lo hi).1 := by
  unfold State.takeHi
  dsimp only
  split
  · exact .refl s
  · exact .bad s

/-- What the data port leaves: the address, the refusals and the memory. -/
theorem mramPort_shows {s : State} (hwf : s.wf = true) (who : Nat) (val : Word) : (s.mramPort who val).mramAt = s.mramAt ∧
    (s.mramPort who val).on PWR_STATUS.NV_REFUSED = s.on PWR_STATUS.NV_REFUSED ∧ (s.mramPort who val).mram = s.mram ∧
    ToldGrows s (s.mramPort who val) ∧ (s.mramPort who val).wf = true := by
  have kt := State.takeHi_keep s who (MEM_MRAM_DATA_LO.DATA.addr 0 0) val.toNat
  have hgrows := ToldGrows.takeHi s who (MEM_MRAM_DATA_LO.DATA.addr 0 0) val.toNat
  unfold State.mramPort
  generalize s.takeHi who (MEM_MRAM_DATA_LO.DATA.addr 0 0) val.toNat = p at kt hgrows
  have kw : Keep 0x40000 p.1 (p.1.wr64 MEM_MRAM_DATA_LO.DATA p.2) := (Keep.refl _ _).wr64 .mem rfl rfl
  have haddr : (p.1.wr64 MEM_MRAM_DATA_LO.DATA p.2).rd MEM_MRAM_ADDR.OFFSET = s.rd MEM_MRAM_ADDR.OFFSET :=
    (rd_of_reg (reg_wr64_other (kt.wf hwf) (by decide) (by decide))).trans (kt.rdIn .mem hwf rfl rfl rfl)
  refine ⟨congrArg (8 * ·) haddr, on_of_rd ((kw.rdIn .pwr (kt.wf hwf) rfl rfl rfl).trans (kt.rdIn .pwr hwf rfl rfl rfl)),
    (kw.parts .mram rfl).trans (kt.parts .mram rfl), hgrows.trans (.of_keep kw rfl), kw.wf (kt.wf hwf)⟩

theorem mramRefused_shows (s : State) (a : Nat) : (s.mramRefused a).mram = s.mram ∧ s.told 460 < (s.mramRefused a).told 460 := by
  have kc : Keep 0x4000000000040000 s (s.count MEM_cnt_LO.COUNT 7).draw :=
    (State.draw_keep _).step ((Keep.refl 0x40000 s).count .mem rfl rfl |>.mono rfl) rfl
  refine ⟨(State.mramRefused_keep s a).parts .mram rfl, ?_⟩
  rw [← told_of_evt (kc.parts .evt rfl) 460]
  exact told_lt_raise ..

theorem mramStore_open {s : State} (hnv : s.on PWR_STATUS.NV_REFUSED = false) (a : Nat) (b : List Byte) : s.mramStore a b = s.mramWrite a b :=
  if_neg (by rw [hnv]; decide)

theorem mramStore_refused {s : State} (hnv : s.on PWR_STATUS.NV_REFUSED = true) (a v : Nat) : s.mramStore a (leBytes 8 v) = s.mramRefused a := by
  rw [State.mramStore, if_pos hnv, length_leBytes]
  rfl

/-- Settles O31: each command's own registers and fields, read off a canonical state once the counts and events are seen to leave them. -/
theorem memoryCommands : Obligations.MemoryCommands := by
  unfold Obligations.MemoryCommands
  refine ⟨?refresh, ?temps, ?retrain, ?deadline, ?trainBulk, ?trainRt, ?trained, ?repairOut, ?repairRt, ?repairWait, ?repairFails, ?repaired,
    ?ecc, ?eccPop, ?scrub, ?epoch, ?idle, ?testRefused, ?testStart, ?testAbort, ?testDone, ?mramRead, ?mramWrite, ?mramRefused⟩
  case refresh =>
    intro s c ch bank _ htr _ hch hsr hclass howed
    refine does_of_exec (exec_memRefreshDue bank htr hch hsr hclass howed) ?_
    obtain ⟨ho, -, ht⟩ := refreshOwed_shows s c ch (bankKey c ch bank)
    exact ⟨ht, ho⟩
  case temps =>
    intro s temps hwf
    refine does_of_exec (exec_memTempRead s temps) ?_
    have hwfu := (State.advanceTo_keep s (s.nextScan 4000000)).wf hwf
    obtain ⟨htick, hdeg⟩ := ratesShown_shows ((s.advanceTo (s.nextScan 4000000)).diesRead temps)
    have hread := (diesRead_keep (s.advanceTo (s.nextScan 4000000)) temps)
    rw [htick, hread.parts .tick rfl, tick_advanceTo_nextScan s (by decide)]
    refine ⟨tick_lt_nextScan s (by decide), Nat.mul_mod_left .., fun d hd hch => ?_⟩
    rw [hdeg (hread.wf hwfu) d hd]
    exact rd_diesRead hwfu temps hd (by rwa [State.chansOf, rd_advanceTo])
  case retrain =>
    intro s ch htr hch hms
    refine does_of_exec (exec_memRetrainDue htr hch hms) ?_
    obtain ⟨hlast, htick, -⟩ := updateDone_shows (s.advanceTo (cellGet (fun _ => 0) s.mem.last (4 + ch) + 1000000 * s.rd MEM_TRAIN.RETRAIN_MS)) 1 ch
    rw [hlast, htick, mem_advanceTo]
    exact ⟨advanceTo_le_tick .., rfl⟩
  case deadline =>
    intro s c ch x hdue
    refine does_of_exec (exec_memRetrainDeadline hdue) ?_
    obtain ⟨hlast, htick, htold⟩ := updateDone_shows (s.advanceTo (x + 1000000 * s.rd MEM_TRAIN.DEADLINE_MS)) c ch
    have kr := State.raise_keep ((s.advanceTo (x + 1000000 * s.rd MEM_TRAIN.DEADLINE_MS)).updateDone c ch) 452 [i8 c, i8 ch] none (some (4 * c + ch))
    have hgrows : ToldGrows s (s.advanceTo (x + 1000000 * s.rd MEM_TRAIN.DEADLINE_MS)) := .of_keep (State.advanceTo_keep ..) rfl
    rw [kr.parts .mem rfl, kr.parts .tick rfl, hlast, htick, mem_advanceTo]
    exact ⟨advanceTo_le_tick .., Nat.lt_of_le_of_lt ((hgrows.trans htold) 452) (told_lt_raise ..), rfl⟩
  case trainBulk =>
    intro s val hwf hc hch
    refine does_of_exec (exec_memRetrainRequest_bulk hwf hc hch) ?_
    obtain ⟨hclass, hchan, -, -⟩ := trainShown_shows hwf (c := 1) (by decide) (bitsOf_lt val.toNat 0 3)
    obtain ⟨hmem, hregs⟩ := bulkAsked_shows (s.trainShown 1 (bitsOf val.toNat 0 3)) (bitsOf val.toNat 0 3)
    exact ⟨hmem, (rd_of_regs hregs ..).trans hclass, (rd_of_regs hregs ..).trans hchan⟩
  case trainRt =>
    intro s val hwf hc hch
    refine does_of_exec (exec_memRetrainRequest_rt hwf hc hch) ?_
    obtain ⟨hclass, -, -, -⟩ := trainShown_shows hwf (c := 0) (by decide) (bitsOf_lt val.toNat 0 3)
    obtain ⟨hmem, hregs⟩ := rtAsked_shows (s.trainShown 0 (bitsOf val.toNat 0 3)) (bitsOf val.toNat 0 3)
    exact ⟨hmem, (rd_of_regs hregs ..).trans hclass⟩
  case trained =>
    intro s ch h
    refine does_of_exec (exec_memRetrainDone h) ?_
    obtain ⟨hgone, hevt⟩ := bulkTrained_shows s ch
    rw [(State.raise_keep ..).parts .mem rfl, ← told_of_evt hevt]
    exact ⟨hgone, told_lt_raise ..⟩
  case repairOut => exact fun s val hwf hidle hout => exec_memRepairRequest_outside hwf hidle hout
  case repairRt => exact fun s val hwf hidle hin hc => exec_memRepairRequest_rt hwf hidle hin hc
  case repairWait =>
    intro s r l hwf h hcmd
    refine does_of_exec (exec_memRepairWaitExpire h) ?_
    have ka := State.advanceTo_keep s (r.from_ + 1000000 * s.rd MEM_CFG.REPAIR_WAIT_MS)
    obtain ⟨hst, htold, htick⟩ := startRepair_shows (ka.wf hwf) hcmd
    rw [htick, ← told_of_evt (ka.parts .evt rfl) 454]
    exact ⟨advanceTo_le_tick .., hst, htold⟩
  case repairFails =>
    exact fun s c die bank row remapped r hwf hr hcmd => does_of_exec (exec_memRepairDone_fails hr die bank row remapped) (failRepair_shows hwf hcmd)
  case repaired =>
    intro s c die bank row remapped r hwf hr hlog hnv
    refine does_of_exec (exec_memRepairDone hr die bank row remapped hlog hnv) ?_
    have kl := repairLogged_keep s c die bank row (if remapped then 1 else r.mode) (s.rd MEM_REPAIR_CMD.LOG_USED)
    rw [← told_of_evt (kl.parts .evt rfl) 454]
    exact repairDone_shows (kl.wf hwf) hlog r
  case ecc =>
    intro s c off req row hwf
    refine does_of_exec (exec_dramEccError_ue s c off req row) ?_
    obtain ⟨hlen, hregs, hevt, hwfn⟩ := eccNoted_shows s (eccEntry c off true req)
    obtain ⟨htold, hcnt, hmem⟩ := eccError_shows (hwfn hwf) [i8 c, i64 off, i8 req]
    rw [told_of_evt hevt] at htold
    refine ⟨htold, hcnt.trans ?_, (congrArg (fun m : MemSt => m.ecc.length) hmem).trans hlen⟩
    rw [rd64_of_regs hregs]
  case eccPop => exact fun s who hopen => does_of_exec (exec_memEccPop hopen) (eccPop_shows s who)
  case scrub =>
    intro s hwf h
    refine does_of_exec (exec_memScrubPass h) ?_
    have ka := State.advanceTo_keep s (s.mem.scrubFrom + 3600000000000 * s.rd MEM_CFG.SCRUB_H)
    have hle := advanceTo_le_tick s (s.mem.scrubFrom + 3600000000000 * s.rd MEM_CFG.SCRUB_H)
    have hregs := advanceTo_regs s (s.mem.scrubFrom + 3600000000000 * s.rd MEM_CFG.SCRUB_H)
    generalize s.advanceTo (s.mem.scrubFrom + 3600000000000 * s.rd MEM_CFG.SCRUB_H) = u at ka hle hregs
    obtain ⟨hfrom, htick, hregs', hwfs⟩ := scrubbed_shows u
    have kc : Keep 0x40000 u.scrubbed (u.scrubbed.count MEM_cnt_LO.COUNT 8) := (Keep.refl _ _).count .mem rfl rfl
    refine ⟨?_, ?_, (rd64_count_same (hwfs (ka.wf hwf)) rfl).trans ?_⟩
    · rw [kc.parts .mem rfl, kc.parts .tick rfl, hfrom, htick]
    · rw [kc.parts .tick rfl, htick]
      exact hle
    · rw [rd64_of_regs (hregs'.trans hregs)]
  case epoch =>
    intro s hwf
    refine does_of_exec (exec_memRdEpochEnd s) ?_
    have kw : Keep 0x40000 (s.advanceTo (s.nextScan 4000000)) ((s.advanceTo (s.nextScan 4000000)).wr MEM_THROTTLE.REQ 0) :=
      (Keep.refl _ _).wr .mem rfl rfl
    rw [kw.parts .tick rfl, tick_advanceTo_nextScan s (by decide)]
    exact ⟨rd_wr_same ((State.advanceTo_keep ..).wf hwf) (by decide) rfl, tick_lt_nextScan s (by decide), Nat.mul_mod_left ..⟩
  case idle =>
    intro s hwf htr hsr hus
    refine does_of_exec (exec_bulkIdleSelfRefresh htr hsr hus) ?_
    obtain ⟨hon, htick⟩ := bulkSleeps_shows ((bulkIdle_keep s).wf hwf)
    exact ⟨hon, (tick_bulkIdle s).trans htick⟩
  case testRefused =>
    intro s hwf hidle h
    have kw : Keep 0x40000 s (s.wr MEM_TEST.STATE 4) := (Keep.refl _ s).wr .mem rfl rfl
    exact does_of_exec (exec_memTestStart_refused hidle h) ⟨rd_wr_same hwf (by decide) rfl, kw.parts .bulk rfl⟩
  case testStart =>
    exact fun s hwf hidle hbase hlen hin hring => does_of_exec (exec_memTestStart hidle hbase hlen hin hring) (testStarted_shows hwf _ _)
  case testAbort =>
    exact fun s hwf h => does_of_exec (exec_memTestAbort h) ⟨rd_testEnds hwf (by decide), fun a hlo hhi => bulk_testEnds hwf 0 hlo hhi⟩
  case testDone =>
    intro s pass hwf h
    refine does_of_exec (exec_memTestDone pass h) ?_
    have ke := State.testEnds_keep s (if pass then 2 else 3)
    have hst : (s.testEnds (if pass then 2 else 3)).rd MEM_TEST.STATE = if pass then 2 else 3 := rd_testEnds hwf (by cases pass <;> decide)
    rw [(State.raise_keep ..).rdIn .mem (ke.wf hwf) rfl rfl rfl, hst, ← told_of_evt (ke.parts .evt rfl) 459]
    exact ⟨rfl, told_lt_raise ..⟩
  case mramRead =>
    intro s who hopen
    obtain ⟨hreply, hhold⟩ := mramDataRead_shows s who
    refine does_of_exec (exec_mramDataRead hopen) ⟨hreply, ?_, ?_⟩
    · rw [hhold]
    · rw [hhold]
      rfl
  case mramWrite =>
    intro s who val hopen hwf hlo hnv
    obtain ⟨hat, hon, -, -, hwfp⟩ := mramPort_shows hwf who val
    refine does_of_exec (exec_mramDataWrite hopen val (by rwa [hat])) ?_
    rw [mramStore_open (hon.trans hnv), hat]
    exact mramRead_mramWrite hwfp _ (length_leBytes ..)
  case mramRefused =>
    intro s who val hopen hwf h
    obtain ⟨hat, hon, hmram, hgrows, -⟩ := mramPort_shows hwf who val
    obtain ⟨hkeep, htold⟩ := mramRefused_shows (s.mramPort who val) (s.mramPort who val).mramAt
    have hboth := And.intro (hkeep.trans hmram) (Nat.lt_of_le_of_lt (hgrows 460) htold)
    by_cases hlow : (s.mramPort who val).mramAt < 0x200000
    · exact does_of_exec (exec_mramDataWrite_kept hopen val hlow) hboth
    · refine does_of_exec (exec_mramDataWrite hopen val (Nat.not_lt.1 hlow)) ?_
      rw [hat] at hlow
      rw [mramStore_refused (hon.trans (h.resolve_left hlow))]
      exact hboth

end Sys2Proof.Machine

/-!
The twin: heartbeats, the silence of their paths, and the roles.
-/
namespace Sys2Proof.Machine

/-! ## What sending leaves of the link's own record -/

/-- From `s` to `t` the link's record changes in its queue pairs and in the snapshot it owes alone. -/
def LinkStays (s t : State) : Prop := ∃ q b, t.rma = { s.rma with qps := q, snapOwed := b }

theorem LinkStays.of_rma {s t : State} (h : t.rma = s.rma) : LinkStays s t := ⟨s.rma.qps, s.rma.snapOwed, h⟩

theorem LinkStays.trans {s t u : State} (h1 : LinkStays s t) (h2 : LinkStays t u) : LinkStays s u := by
  obtain ⟨q, b, h⟩ := h1
  obtain ⟨q', b', h'⟩ := h2
  exact ⟨q', b', by rw [h', h]⟩

theorem LinkStays.of_keep {m : Nat} {s t : State} (k : Keep m s t) (hm : m.testBit 51 = false) : LinkStays s t := .of_rma (k.parts .rma hm)

theorem LinkStays.setQp (s : State) (q : Nat) (v : QpSt) : LinkStays s (s.setQp q v) := ⟨_, _, rfl⟩

theorem LinkStays.sendNew (s : State) (q op : Nat) (ackReq : Bool) (ext data : List Byte) (n : Nat) :
    LinkStays s (s.sendNew q op ackReq ext data n) := by
  unfold State.sendNew
  extract_lets c p u v
  exact (LinkStays.setQp ..).trans ((LinkStays.of_keep (State.sendPkt_keep v q p) rfl).trans (.of_keep (State.advanceNpsn_keep ..) rfl))

theorem LinkStays.sendData (s : State) (q : Nat) (write imm : Bool) (va rkey immV len mtu n fuel : Nat) (d : List Byte) (i : Nat) :
    LinkStays s (s.sendData q write imm va rkey immV len mtu n fuel d i) := by
  induction fuel generalizing s d i with
  | zero => exact .of_rma rfl
  | succ fuel ih =>
    unfold State.sendData
    extract_lets last ext u
    have hu : LinkStays s u := .sendNew ..
    clear_value u
    split
    · exact hu
    · exact hu.trans (ih ..)

theorem LinkStays.mirrorWrite (s : State) (off : Nat) (d : List Byte) : LinkStays s (s.mirrorWrite off d) := by
  unfold State.mirrorWrite
  split
  · unfold State.sendMsg
    extract_lets c mtu n u v
    exact .trans (t := v) (.setQp ..) (.sendData ..)
  · exact .of_rma rfl

theorem LinkStays.mirrorResume (s : State) : LinkStays s s.mirrorResume := by
  unfold State.mirrorResume
  extract_lets q c u
  split
  · exact .of_rma rfl
  have hu : LinkStays s u := .of_keep (State.setCtx_keep ..) rfl
  clear_value u
  have hraise : LinkStays u (u.raise 366 [i8 3]) := .of_keep (State.raise_keep ..) rfl
  refine hu.trans (hraise.trans (.trans (t := { u.raise 366 [i8 3] with rma := { (u.raise 366 [i8 3]).rma with snapOwed := true } })
    ⟨_, _, rfl⟩ ?_))
  unfold State.rateStart
  split
  · exact .setQp ..
  · exact .of_rma rfl

/-! ## The heartbeat that is sent (R342) -/

/-- A heartbeat is due: the clock reaches it, and the next sequence number is taken. -/
def State.beatDue (s : State) : State :=
  let u := s.advanceTo (s.rma.hbFrom + s.hbUs)
  { u with rma := { u.rma with hbFrom := u.tick, hbSeq := u.rma.hbSeq + 1 } }

/-- A heartbeat goes out on the mirror QP and as a raw frame. -/
def State.beatSent (s : State) : State :=
  (s.mirrorWrite 0 s.hbBlock).linkSend (s.rd RMA_TWIN_CFG.HB_PORT) (beBytes 6 Config.heartbeatMac ++
    beBytes 6 (Config.fabricMac (s.rd RMA_TWIN_CFG.HB_PORT)) ++ beBytes 2 0x88B6 ++ s.hbBlock)

theorem exec_heartbeatSend {s : State} (hrole : s.rd RMA_TWIN_STATUS.ROLE ≠ 0) : exec .heartbeatSend s = .next s.beatDue.beatSent :=
  if_neg hrole

theorem rma_advanceTo (s : State) (t : Nat) : (s.advanceTo t).rma = s.rma := (State.advanceTo_keep ..).parts .rma rfl

theorem beatDue_shows (s : State) : s.rma.hbFrom + s.hbUs ≤ s.beatDue.tick ∧ s.beatDue.rma.hbFrom = s.beatDue.tick ∧
    s.beatDue.rma.hbSeq = s.rma.hbSeq + 1 :=
  ⟨advanceTo_le_tick .., rfl, congrArg (fun r : RmaSt => r.hbSeq + 1) (rma_advanceTo s _)⟩

theorem beatSent_shows (s : State) : s.beatSent.tick = s.tick ∧ s.beatSent.rma.hbFrom = s.rma.hbFrom ∧
    s.beatSent.rma.hbSeq = s.rma.hbSeq := by
  have hsend := State.linkSend_keep (s.mirrorWrite 0 s.hbBlock) (s.rd RMA_TWIN_CFG.HB_PORT) (beBytes 6 Config.heartbeatMac ++
    beBytes 6 (Config.fabricMac (s.rd RMA_TWIN_CFG.HB_PORT)) ++ beBytes 2 0x88B6 ++ s.hbBlock) 0
  obtain ⟨q, b, hrma⟩ := (LinkStays.mirrorWrite s 0 s.hbBlock).trans (.of_keep hsend rfl)
  rw [State.beatSent]
  exact ⟨(hsend.parts .tick rfl).trans ((State.mirrorWrite_keep ..).parts .tick rfl), by rw [hrma], by rw [hrma]⟩

/-! ## The role and the flags of RMA_TWIN_STATUS -/

/-- From `s` to `t` RMA_TWIN_STATUS reads as before. -/
structure StatusStays (s t : State) : Prop where
  wf : s.wf = true → t.wf = true
  reg : s.wf = true → t.reg 0x40100C = s.reg 0x40100C

theorem StatusStays.refl (s : State) : StatusStays s s := ⟨id, fun _ => rfl⟩

theorem StatusStays.trans {s t u : State} (h1 : StatusStays s t) (h2 : StatusStays t u) : StatusStays s u :=
  ⟨fun h => h2.wf (h1.wf h), fun h => (h2.reg (h1.wf h)).trans (h1.reg h)⟩

theorem StatusStays.of_keep {m : Nat} {s t : State} (k : Keep m s t) (hm : m.testBit 14 = false) : StatusStays s t :=
  ⟨k.wf, fun hwf => k.regs hwf _ hm⟩

theorem StatusStays.rd {s t : State} (h : StatusStays s t) (hwf : s.wf = true) {f : Fld} (hf : f.addr 0 0 = 0x40100C) :
    t.rd f = s.rd f := rd_of_reg (by rw [hf, h.reg hwf])

theorem StatusStays.on {s t : State} (h : StatusStays s t) (hwf : s.wf = true) {f : Fld} (hf : f.addr 0 0 = 0x40100C) :
    t.on f = s.on f := on_of_rd (h.rd hwf hf)

theorem StatusStays.want (s : State) (k : Nat) (b : Bool) : StatusStays s (s.setBitAt RMA_ARM_WANTk.WANT k b) :=
  ⟨fun hwf => wr_wf hwf .., fun hwf => reg_wr_other hwf (by simp only [Fld.addr, RMA_ARM_WANTk.WANT]; omega)⟩

theorem StatusStays.gateTerms (s : State) : StatusStays s s.gateTerms := by
  unfold State.gateTerms
  refine forEach_rel .refl .trans (fun t _ u => ?_) s
  extract_lets was v w
  have hv : StatusStays u v := .want ..
  clear_value v
  have hw : Keep 0x400100404 v w := (State.raise_keep (v.showArm t false) _ _ _ _).step ((State.showArm_keep ..).mono rfl) rfl
  clear_value w
  split
  · exact hv
  split
  · exact hv.trans (.of_keep hw rfl)
  · exact hv.trans (.of_keep ((State.setTerm_keep ..).step (.ite (hw.wr .trp rfl rfl) hw) rfl) rfl)

section
variable {s : State} (hwf : s.wf = true)
include hwf

/-- A change of role shows it and leaves the other bits of the register. -/
theorem setRole_shows {v : Nat} (hv : v < 8) : (s.setRole v).rd RMA_TWIN_STATUS.ROLE = v ∧
    ∀ f : Fld, f.addr 0 0 = 0x40100C → f.lo + f.w ≤ 29 → (s.setRole v).rd f = s.rd f := by
  unfold State.setRole
  extract_lets old
  split
  case isTrue hsame => exact ⟨hsame, fun _ _ _ => rfl⟩
  have hraise : StatusStays (s.wr RMA_TWIN_STATUS.ROLE v) ((s.wr RMA_TWIN_STATUS.ROLE v).raise 362 [i8 old, i8 v]) :=
    .of_keep (State.raise_keep ..) rfl
  have hwfr := wr_wf hwf RMA_TWIN_STATUS.ROLE v 0 0
  refine ⟨(hraise.rd hwfr rfl).trans ((rd_wr_same hwf (by decide) rfl).trans (Nat.mod_eq_of_lt hv)), fun f hf hlo => ?_⟩
  exact (hraise.rd hwfr hf).trans (rd_wr_bits hwf (by decide) (.inr hlo))

theorem toStandby_shows : s.toStandby.rd RMA_TWIN_STATUS.ROLE = 3 ∧
    ∀ f : Fld, f.addr 0 0 = 0x40100C → f.lo + f.w ≤ 29 → s.toStandby.rd f = s.rd f := by
  have hgate := StatusStays.gateTerms s
  obtain ⟨hrole, hrest⟩ := setRole_shows (hgate.wf hwf) (v := 3) (by decide)
  exact ⟨hrole, fun f hf hlo => (hrest f hf hlo).trans (hgate.rd hwf hf)⟩
end

theorem told_setRole {s : State} {v : Nat} (h : s.rd RMA_TWIN_STATUS.ROLE ≠ v) : s.told 362 < (s.setRole v).told 362 := by
  have htold := told_lt_raise (s.wr RMA_TWIN_STATUS.ROLE v) 362 [i8 (s.rd RMA_TWIN_STATUS.ROLE), i8 v] none none
  rw [told_of_evt (((Keep.refl 0x4000 s).wr .rma rfl rfl).parts .evt rfl)] at htold
  rw [State.setRole]
  exact Nat.lt_of_lt_of_eq htold (congrArg (fun u : State => u.told 362) (if_neg h).symm)

/-! ## What a heartbeat block does (R342, R343) -/

/-- The peer's configuration is compared with this device's. -/
def State.crcTold (s : State) (crc : Nat) : State :=
  if crc != s.rma.cfgCrc then (s.wr RMA_TWIN_STATUS.CRC_MISMATCH 1).raise 365 [i32 crc] else s.wr RMA_TWIN_STATUS.CRC_MISMATCH 0

/-- The clock of seeking starts again. -/
def State.seekAgain (s : State) : State := { s with rma := { s.rma with seekFrom := s.tick } }

/-- What hearing the twin leaves, before the roles are compared. -/
def State.twinHeard (s : State) (crc : Nat) : State := (s.crcTold crc).mirrorResume.seekAgain

/-- The roles of the two devices meet: `role`, `prio` and `uid` are the peer's. -/
def State.roleMet (s : State) (role prio uid : Nat) : State :=
  if s.rd RMA_TWIN_STATUS.ROLE = 1 && role = 2 then s.toStandby
  else if s.rd RMA_TWIN_STATUS.ROLE = 1 && role = 1 then (if s.wins prio uid then s.setRole 2 else s.toStandby)
  else if s.rd RMA_TWIN_STATUS.ROLE = 2 && role = 2 && !s.wins prio uid then (s.raise 367 [i32 uid]).toStandby
  else s

theorem gotHeartbeat_eq (s : State) (b : List Byte) :
    s.gotHeartbeat b = (s.twinHeard (leAt b 20 4)).roleMet (leAt b 16 1) (leAt b 17 1) (leAt b 8 8) := by
  unfold State.gotHeartbeat
  extract_lets uid role prio crc u v src w me
  have hw : w = s.twinHeard crc := rfl
  unfold me
  rw [hw]
  rfl

theorem crcTold_keep (s : State) (crc : Nat) :
    Keep 0x400100004 (s.wr RMA_TWIN_STATUS.CRC_MISMATCH (b2n (crc != s.rma.cfgCrc))) (s.crcTold crc) := by
  unfold State.crcTold
  split
  case isTrue h =>
    rw [h]
    exact State.raise_keep ..
  case isFalse h =>
    rw [Bool.not_eq_true] at h
    rw [h]
    exact .refl _ _

theorem twinHeard_keep (s : State) (crc : Nat) :
    Keep 0x8000406100004 (s.wr RMA_TWIN_STATUS.CRC_MISMATCH (b2n (crc != s.rma.cfgCrc))) (s.twinHeard crc) :=
  ((State.mirrorResume_keep _).step ((crcTold_keep s crc).mono rfl) rfl).rma _ rfl

theorem twinHeard_rma (s : State) (crc : Nat) :
    ∃ q b n, (s.twinHeard crc).rma = { s.rma with qps := q, snapOwed := b, seekFrom := n } := by
  have hcrc : (s.crcTold crc).rma = s.rma := (crcTold_keep s crc).parts .rma rfl
  obtain ⟨q, b, h⟩ := (LinkStays.of_rma hcrc).trans (.mirrorResume _)
  exact ⟨q, b, _, congrArg (fun r : RmaSt => { r with seekFrom := (s.crcTold crc).mirrorResume.tick }) h⟩

section
variable {s : State} (hwf : s.wf = true) (crc : Nat)
include hwf

theorem twinHeard_wf : (s.twinHeard crc).wf = true := (twinHeard_keep ..).wf (wr_wf hwf ..)

/-- Hearing the twin changes no field of the link's registers but CRC_MISMATCH. -/
theorem rd_twinHeard {f : Fld} (hf : f.inBlk .rma = true) (hi : f.fits 0 0 = true)
    (hd : 27 ≤ f.lo ∨ f.lo + f.w ≤ 26 ∨ f.addr 0 0 ≠ 0x40100C) :
    (s.twinHeard crc).rd f = s.rd f := by
  refine ((twinHeard_keep ..).rdIn .rma (wr_wf hwf ..) hf hi rfl).trans ?_
  by_cases ha : f.addr 0 0 = 0x40100C
  · exact rd_wr_bits hwf (by decide) (hd.imp_right fun h => h.resolve_right (absurd ha))
  · exact rd_wr_addr hwf ha

theorem crc_twinHeard : (s.twinHeard crc).on RMA_TWIN_STATUS.CRC_MISMATCH = (crc != s.rma.cfgCrc) :=
  (on_of_rd ((twinHeard_keep ..).rdIn .rma (wr_wf hwf ..) rfl rfl rfl)).trans (on_wr_same hwf (by decide) rfl rfl _)

theorem wins_twinHeard (prio uid : Nat) : (s.twinHeard crc).wins prio uid = s.wins prio uid := by
  have hprio : (s.twinHeard crc).rd RMA_TWIN_CFG.PRIO = s.rd RMA_TWIN_CFG.PRIO := rd_twinHeard hwf crc rfl rfl (.inr (.inr (by decide)))
  have k : Keep 0x8000406104004 s (s.twinHeard crc) := (twinHeard_keep s crc).step ((Keep.refl 0x4000 s).wr .rma rfl rfl |>.mono rfl) rfl
  have huid : (s.twinHeard crc).rd64 GLB_UID_LO.UID = s.rd64 GLB_UID_LO.UID := k.rd64In .glb hwf rfl rfl rfl
  rw [State.wins, hprio, huid, State.wins]
end

/-- The role after the roles have met: the device's own `me`, the peer's `role`, and whether the device wins. -/
def metRole (me role : Nat) (wins : Bool) : Nat :=
  if me = 1 ∧ role = 2 then 3 else if me = 1 ∧ role = 1 then (if wins then 2 else 3)
  else if me = 2 ∧ role = 2 ∧ wins = false then 3 else me

theorem roleMet_shows {s : State} (hwf : s.wf = true) (role prio uid : Nat) :
    (s.roleMet role prio uid).rd RMA_TWIN_STATUS.ROLE = metRole (s.rd RMA_TWIN_STATUS.ROLE) role (s.wins prio uid) ∧
    ∀ f : Fld, f.addr 0 0 = 0x40100C → f.lo + f.w ≤ 29 → (s.roleMet role prio uid).rd f = s.rd f := by
  have hstandby := toStandby_shows hwf
  have hraise : StatusStays s (s.raise 367 [i32 uid]) := .of_keep (State.raise_keep ..) rfl
  obtain ⟨hyield, hyieldRest⟩ := toStandby_shows (hraise.wf hwf)
  simp only [State.roleMet, metRole, Bool.and_eq_true, decide_eq_true_eq, Bool.not_eq_true', and_assoc]
  split
  · exact hstandby
  split
  · split
    · exact setRole_shows hwf (by decide)
    · exact hstandby
  split
  · exact ⟨hyield, fun f hf hlo => (hyieldRest f hf hlo).trans (hraise.rd hwf hf)⟩
  · exact ⟨rfl, fun _ _ _ => rfl⟩

theorem roleMet_keep (s : State) (role prio uid : Nat) : Keep 0x400104404 s (s.roleMet role prio uid) := by
  have hstandby (u : State) (h : Keep 0x400104404 s u) : Keep 0x400104404 s u.toStandby := (State.toStandby_keep u).step h rfl
  have h0 := Keep.refl 0x400104404 s
  exact .ite (hstandby s h0) (.ite (.ite ((State.setRole_keep ..).mono rfl) (hstandby s h0))
    (.ite (hstandby _ ((State.raise_keep ..).mono rfl)) h0))

/-- What a block leaves of the state that heard it. -/
structure Heard (s t : State) (b : List Byte) : Prop where
  role : t.rd RMA_TWIN_STATUS.ROLE = metRole (s.rd RMA_TWIN_STATUS.ROLE) (leAt b 16 1) (s.wins (leAt b 17 1) (leAt b 8 8))
  crc : t.on RMA_TWIN_STATUS.CRC_MISMATCH = (leAt b 20 4 != s.rma.cfgCrc)
  paths : t.on RMA_TWIN_STATUS.RAW_PATH = s.on RMA_TWIN_STATUS.RAW_PATH ∧ t.on RMA_TWIN_STATUS.QP_PATH = s.on RMA_TWIN_STATUS.QP_PATH
  beats : t.rma.hbRaw = s.rma.hbRaw ∧ t.rma.hbQp = s.rma.hbQp ∧ t.rma.hbNew = s.rma.hbNew
  ppl : t.ppl = s.ppl

theorem heard_gotHeartbeat {s : State} (hwf : s.wf = true) (b : List Byte) : Heard s (s.gotHeartbeat b) b := by
  rw [gotHeartbeat_eq]
  have hwfh := twinHeard_wf hwf (leAt b 20 4)
  obtain ⟨q, o, n, hrma⟩ := twinHeard_rma s (leAt b 20 4)
  have hother {f : Fld} (hf : f.inBlk .rma = true) (hi : f.fits 0 0 = true) (hlo : 27 ≤ f.lo) :
      (s.twinHeard (leAt b 20 4)).rd f = s.rd f := rd_twinHeard hwf _ hf hi (.inl hlo)
  have hcrc := crc_twinHeard hwf (leAt b 20 4)
  have hwins := wins_twinHeard hwf (leAt b 20 4) (leAt b 17 1) (leAt b 8 8)
  have hppl : (s.twinHeard (leAt b 20 4)).ppl = s.ppl := (twinHeard_keep ..).parts .ppl rfl
  generalize s.twinHeard (leAt b 20 4) = u at *
  obtain ⟨hrole, hrest⟩ := roleMet_shows hwfh (leAt b 16 1) (leAt b 17 1) (leAt b 8 8)
  have k := roleMet_keep u (leAt b 16 1) (leAt b 17 1) (leAt b 8 8)
  have hrma' : (u.roleMet (leAt b 16 1) (leAt b 17 1) (leAt b 8 8)).rma = { s.rma with qps := q, snapOwed := o, seekFrom := n } :=
    (k.parts .rma rfl).trans hrma
  refine ⟨?_, ?_, ⟨?_, ?_⟩, ⟨?_, ?_, ?_⟩, (k.parts .ppl rfl).trans hppl⟩
  · rw [hrole, hwins, hother rfl rfl (by decide)]
  · exact (on_of_rd (hrest _ rfl (by decide))).trans hcrc
  · exact on_of_rd ((hrest _ rfl (by decide)).trans (hother rfl rfl (by decide)))
  · exact on_of_rd ((hrest _ rfl (by decide)).trans (hother rfl rfl (by decide)))
  · rw [hrma']
  · rw [hrma']
  · rw [hrma']

/-! ## The heartbeat that is received (R343) -/

/-- A frame leaves the link's queue. -/
def State.rmaTaken (s : State) (l : List RxFrame) : State := { s with ppl := { s.ppl with rmaIn := l } }

/-- The raw path has delivered a heartbeat. -/
def State.rawBeat (s : State) : State :=
  let u := s.wr RMA_TWIN_STATUS.RAW_PATH 1
  { u with rma := { u.rma with hbRaw := u.tick + 1 } }

/-- The mirror QP has delivered a heartbeat. -/
def State.qpBeat (s : State) : State :=
  let u := State.wr { s with rma := { s.rma with hbNew := false } } RMA_TWIN_STATUS.QP_PATH 1
  { u with rma := { u.rma with hbQp := u.tick + 1 } }

section
variable {s : State} {f : RxFrame} {l : List RxFrame} (hin : s.ppl.rmaIn = f :: l) (htype : etherType f.bytes = 0x88B6)
include hin htype

theorem exec_heartbeatReceive_raw (hrole : s.rd RMA_TWIN_STATUS.ROLE ≠ 0) (hport : f.port = s.rd RMA_TWIN_CFG.HB_PORT) :
    exec (.heartbeatReceive true) s = .next ((s.rmaTaken l).rawBeat.gotHeartbeat (slice f.bytes (payloadAt f.bytes) 64)) := by
  have hgo : ¬ (!(s.rd RMA_TWIN_STATUS.ROLE != 0) || f.port != (s.rmaTaken l).rd RMA_TWIN_CFG.HB_PORT) = true := by
    change ¬ (!(s.rd RMA_TWIN_STATUS.ROLE != 0) || f.port != s.rd RMA_TWIN_CFG.HB_PORT) = true
    simp [hrole, hport]
  change execHeartbeatReceive true s = _
  rw [execHeartbeatReceive]
  simp only [if_true, hin]
  exact (if_neg (by simp [htype])).trans (if_neg hgo)

theorem exec_heartbeatReceive_elsewhere (h : s.rd RMA_TWIN_STATUS.ROLE = 0 ∨ f.port ≠ s.rd RMA_TWIN_CFG.HB_PORT) :
    exec (.heartbeatReceive true) s = .next (s.rmaTaken l) := by
  have hgo : (!(s.rd RMA_TWIN_STATUS.ROLE != 0) || f.port != (s.rmaTaken l).rd RMA_TWIN_CFG.HB_PORT) = true := by
    change (!(s.rd RMA_TWIN_STATUS.ROLE != 0) || f.port != s.rd RMA_TWIN_CFG.HB_PORT) = true
    rcases h with h | h <;> simp [h]
  change execHeartbeatReceive true s = _
  rw [execHeartbeatReceive]
  simp only [if_true, hin]
  exact (if_neg (by simp [htype])).trans (if_pos hgo)
end

theorem exec_heartbeatReceive_qp {s : State} (hnew : s.rma.hbNew = true) (hrole : s.rd RMA_TWIN_STATUS.ROLE ≠ 0) :
    exec (.heartbeatReceive false) s = .next (s.qpBeat.gotHeartbeat (s.qpBeat.rtRead s.qpBeat.mirBase 64)) := by
  change execHeartbeatReceive false s = _
  rw [execHeartbeatReceive]
  exact (if_neg (by decide)).trans ((if_neg (by simp [hnew])).trans (if_neg (by simp [hrole])))

theorem rawBeat_shows {s : State} (hwf : s.wf = true) : s.rawBeat.wf = true ∧ s.rawBeat.on RMA_TWIN_STATUS.RAW_PATH = true ∧
    s.rawBeat.rma.hbRaw = s.tick + 1 ∧ s.rawBeat.rd RMA_TWIN_STATUS.ROLE = s.rd RMA_TWIN_STATUS.ROLE ∧
    (∀ prio uid, s.rawBeat.wins prio uid = s.wins prio uid) := by
  have hprio : s.rawBeat.rd RMA_TWIN_CFG.PRIO = s.rd RMA_TWIN_CFG.PRIO := rd_wr_addr (f := RMA_TWIN_STATUS.RAW_PATH) hwf (by decide)
  have huid : s.rawBeat.rd64 GLB_UID_LO.UID = s.rd64 GLB_UID_LO.UID :=
    ((Keep.refl 0x4000 s).wr .rma (f := RMA_TWIN_STATUS.RAW_PATH) (v := 1) (i := 0) (j := 0) rfl rfl).rd64In .glb hwf rfl rfl rfl
  refine ⟨wr_wf hwf .., on_wr_same hwf (by decide) rfl rfl true, rfl, rd_wr_bits hwf (by decide) (.inl (by decide)), fun prio uid => ?_⟩
  rw [State.wins, hprio, huid, State.wins]

theorem rawBeat_rest (s : State) : s.rawBeat.rma.cfgCrc = s.rma.cfgCrc ∧ s.rawBeat.ppl = s.ppl := ⟨rfl, rfl⟩

theorem rmaTaken_rest (s : State) (l : List RxFrame) : (s.rmaTaken l).ppl.rmaIn = l ∧ (s.rmaTaken l).regs = s.regs ∧
    (s.rmaTaken l).rma = s.rma ∧ (s.rmaTaken l).tick = s.tick ∧ (s.rmaTaken l).wf = s.wf := ⟨rfl, rfl, rfl, rfl, rfl⟩

theorem qpBeat_shows {s : State} (hwf : s.wf = true) : s.qpBeat.wf = true ∧ s.qpBeat.on RMA_TWIN_STATUS.QP_PATH = true ∧
    s.qpBeat.rtRead s.qpBeat.mirBase 64 = s.rtRead s.mirBase 64 := by
  have hwf' : State.wf { s with rma := { s.rma with hbNew := false } } = true := hwf
  have hlo : s.qpBeat.rd RMA_MIR_BASE_LO.BASE = s.rd RMA_MIR_BASE_LO.BASE :=
    rd_wr_addr (f := RMA_TWIN_STATUS.QP_PATH) hwf' (by decide)
  have hhi : s.qpBeat.rd RMA_MIR_BASE_HI.BASE = s.rd RMA_MIR_BASE_HI.BASE :=
    rd_wr_addr (f := RMA_TWIN_STATUS.QP_PATH) hwf' (by decide)
  have hbase : s.qpBeat.mirBase = s.mirBase := by rw [State.mirBase, hlo, hhi, State.mirBase]
  exact ⟨wr_wf hwf' .., on_wr_same hwf' (by decide) rfl rfl true, by rw [hbase]; rfl⟩

theorem qpBeat_rest (s : State) : s.qpBeat.rma.hbNew = false ∧ s.qpBeat.rma.hbQp = s.tick + 1 ∧ s.qpBeat.rma.cfgCrc = s.rma.cfgCrc :=
  ⟨rfl, rfl, rfl⟩

/-! ## Silence (R342) -/

/-- The flag of a path; `raw` names the path of raw frames. -/
def pathFlag (raw : Bool) : Fld := if raw then RMA_TWIN_STATUS.RAW_PATH else RMA_TWIN_STATUS.QP_PATH

/-- A path that has delivered falls silent: its flag is cleared, and event 363 names it. -/
def State.silenced (s : State) (raw : Bool) : State := (s.wr (pathFlag raw) 0).raise 363 [i8 (b2n raw)]

theorem pathSilent_eq (s : State) (raw : Bool) : s.pathSilent raw = if s.on (pathFlag raw) then s.silenced raw else s := by
  cases raw <;> rfl

theorem told_silenced (s : State) (raw : Bool) : s.told 363 < (s.silenced raw).told 363 := by
  have htold := told_lt_raise (s.wr (pathFlag raw) 0) 363 [i8 (b2n raw)] none none
  have k : Keep 0x4000 s (s.wr (pathFlag raw) 0) := (Keep.refl 0x4000 s).wr .rma (by cases raw <;> rfl) rfl
  rwa [told_of_evt (k.parts .evt rfl)] at htold

theorem rd_silenced {s : State} (hwf : s.wf = true) (raw : Bool) {f : Fld} (hf : f.addr 0 0 = 0x40100C)
    (hd : (pathFlag raw).lo + 1 ≤ f.lo ∨ f.lo + f.w ≤ (pathFlag raw).lo) : (s.silenced raw).rd f = s.rd f := by
  have hraise : StatusStays (s.wr (pathFlag raw) 0) (s.silenced raw) := .of_keep (State.raise_keep ..) rfl
  refine (hraise.rd (wr_wf hwf ..) hf).trans (rd_wr_bits hwf (by cases raw <;> decide) ?_)
  cases raw <;> exact hd

theorem off_silenced {s : State} (hwf : s.wf = true) (raw : Bool) : (s.silenced raw).on (pathFlag raw) = false := by
  have hraise : StatusStays (s.wr (pathFlag raw) 0) (s.silenced raw) := .of_keep (State.raise_keep ..) rfl
  cases raw
  · exact (hraise.on (wr_wf hwf ..) rfl).trans (on_wr_same hwf (by decide) rfl rfl false)
  · exact (hraise.on (wr_wf hwf ..) rfl).trans (on_wr_same hwf (by decide) rfl rfl false)

/-- A path is silent from here on; the other bits of the status stay. -/
theorem pathSilent_shows {s : State} (hwf : s.wf = true) (raw : Bool) : (s.pathSilent raw).on (pathFlag raw) = false ∧
    (∀ f : Fld, f.addr 0 0 = 0x40100C → (pathFlag raw).lo + 1 ≤ f.lo ∨ f.lo + f.w ≤ (pathFlag raw).lo →
      (s.pathSilent raw).rd f = s.rd f) ∧
    (s.on (pathFlag raw) = true → s.told 363 < (s.pathSilent raw).told 363) ∧ ToldGrows s (s.pathSilent raw) := by
  rw [pathSilent_eq]
  split
  case isTrue =>
    exact ⟨off_silenced hwf raw, fun f hf hd => rd_silenced hwf raw hf hd, fun _ => told_silenced s raw,
      ToldGrows.trans (ToldGrows.of_keep ((Keep.refl 0x4000 s).wr .rma (by cases raw <;> rfl) rfl) rfl) (ToldGrows.raise _ _ _ _ _)⟩
  case isFalse hoff => exact ⟨by simpa using hoff, fun _ _ _ => rfl, fun hon => absurd hon hoff, ToldGrows.refl s⟩

theorem exec_heartbeatPathSilent_raw {s : State} (hon : s.on RMA_TWIN_STATUS.RAW_PATH = true) :
    exec (.heartbeatPathSilent true) s = .next ((s.advanceTo (s.rma.hbRaw - 1 + s.silentTicks)).silenced true) := by
  change execHeartbeatPathSilent true s = _
  exact (if_pos rfl).trans (if_neg (by simp [hon]))

theorem exec_heartbeatPathSilent_qp {s : State} (hon : s.on RMA_TWIN_STATUS.QP_PATH = true) :
    exec (.heartbeatPathSilent false) s = .next ((s.advanceTo (s.rma.hbQp - 1 + s.silentTicks)).silenced false) := by
  change execHeartbeatPathSilent false s = _
  exact (if_neg (by decide)).trans (if_neg (by simp [hon]))

theorem pathSilence_shows {s : State} (hwf : s.wf = true) (t : Nat) (raw : Bool) : t ≤ ((s.advanceTo t).silenced raw).tick ∧
    ((s.advanceTo t).silenced raw).on (pathFlag raw) = false ∧ s.told 363 < ((s.advanceTo t).silenced raw).told 363 := by
  have k : Keep 0x400104004 (s.advanceTo t) ((s.advanceTo t).silenced raw) :=
    (State.raise_keep ..).step ((Keep.refl 0x400104004 _).wr .rma (by cases raw <;> rfl) rfl) rfl
  have htold := told_silenced (s.advanceTo t) raw
  rw [told_of_evt ((State.advanceTo_keep s t).parts .evt rfl)] at htold
  exact ⟨le_of_le_of_eq (advanceTo_le_tick s t) (k.parts .tick rfl).symm,
    off_silenced ((State.advanceTo_keep s t).wf hwf) raw, htold⟩

/-! ## Both paths silent, and the takeover (R342, R345) -/

/-- Both paths are silent. -/
def State.bothSilent (s : State) : State :=
  ((s.advanceTo (max s.rma.hbQp s.rma.hbRaw - 1 + s.silentTicks)).pathSilent false).pathSilent true

section
variable {s : State} (hheard : max s.rma.hbQp s.rma.hbRaw ≠ 0)
include hheard

theorem exec_twinSilent (hrole : s.bothSilent.rd RMA_TWIN_STATUS.ROLE ≠ 3) : exec .twinSilent s = .next s.bothSilent :=
  (if_neg hheard).trans (if_neg hrole)

theorem exec_twinSilent_standby (hrole : s.bothSilent.rd RMA_TWIN_STATUS.ROLE = 3) : exec .twinSilent s = .next s.bothSilent.takeover :=
  (if_neg hheard).trans (if_pos hrole)
end

theorem bothSilent_keep (s : State) : Keep 0x400104004 (s.advanceTo (max s.rma.hbQp s.rma.hbRaw - 1 + s.silentTicks)) s.bothSilent :=
  (State.pathSilent_keep ..).step (State.pathSilent_keep ..) rfl

theorem bothSilent_shows {s : State} (hwf : s.wf = true) : s.bothSilent.wf = true ∧
    max s.rma.hbQp s.rma.hbRaw - 1 + s.silentTicks ≤ s.bothSilent.tick ∧
    s.bothSilent.rd RMA_TWIN_STATUS.ROLE = s.rd RMA_TWIN_STATUS.ROLE ∧ s.bothSilent.on RMA_TWIN_STATUS.RAW_PATH = false ∧
    s.bothSilent.on RMA_TWIN_STATUS.QP_PATH = false ∧
    ((s.on RMA_TWIN_STATUS.RAW_PATH = true ∨ s.on RMA_TWIN_STATUS.QP_PATH = true) → s.told 363 < s.bothSilent.told 363) ∧
    s.bothSilent.rma = s.rma := by
  have k := bothSilent_keep s
  have ka := State.advanceTo_keep s (max s.rma.hbQp s.rma.hbRaw - 1 + s.silentTicks)
  have hrd (f : Fld) := rd_advanceTo s (max s.rma.hbQp s.rma.hbRaw - 1 + s.silentTicks) f 0 0
  have hle := advanceTo_le_tick s (max s.rma.hbQp s.rma.hbRaw - 1 + s.silentTicks)
  unfold State.bothSilent at k ⊢
  generalize max s.rma.hbQp s.rma.hbRaw - 1 + s.silentTicks = n at *
  have hwfa := ka.wf hwf
  have htold := told_of_evt (ka.parts .evt rfl) 363
  have hrma : (s.advanceTo n).rma = s.rma := ka.parts .rma rfl
  generalize s.advanceTo n = a at *
  obtain ⟨hqp, hqpRest, hqpTold, hqpGrows⟩ := pathSilent_shows hwfa false
  have hwfq := (State.pathSilent_keep a false).wf hwfa
  obtain ⟨hraw, hrawRest, hrawTold, hrawGrows⟩ := pathSilent_shows hwfq true
  refine ⟨k.wf hwfa, le_of_le_of_eq hle (k.parts .tick rfl).symm, ?_, hraw, ?_, fun hon => ?_, (k.parts .rma rfl).trans hrma⟩
  · exact (hrawRest _ rfl (.inl (by decide))).trans ((hqpRest _ rfl (.inl (by decide))).trans (hrd _))
  · exact (on_of_rd (hrawRest RMA_TWIN_STATUS.QP_PATH rfl (.inl (by decide)))).trans hqp
  · rw [← htold]
    rcases hon with hon | hon
    · have : (a.pathSilent false).on RMA_TWIN_STATUS.RAW_PATH = true :=
        (on_of_rd ((hqpRest RMA_TWIN_STATUS.RAW_PATH rfl (.inr (by decide))).trans (hrd _))).trans hon
      exact Nat.lt_of_le_of_lt (hqpGrows 363) (hrawTold this)
    · exact Nat.lt_of_lt_of_le (hqpTold ((on_of_rd (hrd RMA_TWIN_STATUS.QP_PATH)).trans hon)) (hrawGrows 363)

/-- After the change of role a takeover touches no register of the link. -/
theorem takeover_after_role (s : State) : Keep 0x5002020400100404 (s.setRole 2) s.takeover := by
  unfold State.takeover
  extract_lets snap ts at_ termAt pubAt seq u v
  clear_value snap ts at_ termAt pubAt
  have hu : Keep 0x5002020400100404 (s.setRole 2) u := (State.raise_keep ..).mono rfl
  clear_value u
  have hv : Keep 0x5002020400100404 (s.setRole 2) v := by
    unfold v
    split
    · exact (State.raise_keep ..).step hu rfl
    · refine hu.forEach fun p x => ?_
      extract_lets b y
      have hy : Keep 0x5002020400100404 x y := (((Keep.refl _ x).wr .trp rfl rfl).wr .trp rfl rfl).wr .trp rfl rfl
      clear_value y
      exact (State.setPub_keep ..).step (hy.wr .trp rfl rfl) rfl
  clear_value v
  refine hv.forEach fun t x => ?_
  extract_lets e p arm a b c
  have ha : Keep 0x5002020400100404 x a := State.armTo_keep ..
  clear_value a
  have hb : Keep 0x5002020400100404 x b := (State.setTerm_keep ..).step ha rfl
  clear_value b
  have hc : Keep 0x5002020400100404 x c :=
    .ite (.ite ((State.pubAgain_keep ..).step hb rfl) hb) (.ite ((State.pubChange_keep ..).step ha rfl) ha)
  clear_value c
  exact (State.pubResume_keep ..).step hc rfl

theorem takeover_shows {s : State} (hwf : s.wf = true) : s.takeover.rd RMA_TWIN_STATUS.ROLE = 2 ∧ s.takeover.tick = s.tick :=
  ⟨((takeover_after_role s).rdIn .rma ((State.setRole_keep s 2).wf hwf) rfl rfl rfl).trans (setRole_shows hwf (by decide)).1,
    (State.takeover_keep s).parts .tick rfl⟩

/-! ## Seeking (R343) -/

theorem exec_twinSeekExpire {s : State} (hrole : s.rd RMA_TWIN_STATUS.ROLE = 1) : exec .twinSeekExpire s =
    .next ((s.advanceTo (s.rma.seekFrom + 1000000 * s.rd RMA_TWIN_SEEK.SEEK_MS)).setRole 2) :=
  if_neg (by simp [hrole])

theorem seekExpired_shows {s : State} (hwf : s.wf = true) (hrole : s.rd RMA_TWIN_STATUS.ROLE = 1) (t : Nat) :
    t ≤ ((s.advanceTo t).setRole 2).tick ∧ ((s.advanceTo t).setRole 2).rd RMA_TWIN_STATUS.ROLE = 2 ∧
    s.told 362 < ((s.advanceTo t).setRole 2).told 362 := by
  have ka := State.advanceTo_keep s t
  have htold : (s.advanceTo t).told 362 < ((s.advanceTo t).setRole 2).told 362 := told_setRole (by rw [rd_advanceTo, hrole]; decide)
  rw [told_of_evt (ka.parts .evt rfl)] at htold
  exact ⟨le_of_le_of_eq (advanceTo_le_tick s t) ((State.setRole_keep ..).parts .tick rfl).symm,
    (setRole_shows (ka.wf hwf) (by decide)).1, htold⟩

/-- Settles O43: a heartbeat that is sent or received, the silence of its paths, and the role each of them leaves. -/
theorem twinCommands : Obligations.TwinCommands := by
  refine ⟨?sent, ?raw, ?elsewhere, ?mirror, ?rawSilent, ?qpSilent, ?takeover, ?silent, ?seek⟩
  case sent =>
    intro s hrole
    obtain ⟨hdue, hfrom, hseq⟩ := beatDue_shows s
    obtain ⟨htick, hfrom', hseq'⟩ := beatSent_shows s.beatDue
    exact does_of_exec (exec_heartbeatSend hrole) ⟨hdue.trans_eq htick.symm, (hfrom'.trans hfrom).trans htick.symm, hseq'.trans hseq⟩
  case raw =>
    rintro s f l b hwf hin htype hrole hport rfl
    obtain ⟨htaken, hregs, hrma, htick, hwft⟩ := rmaTaken_rest s l
    obtain ⟨hwfr, hpath, hraw, hme, hwins⟩ := rawBeat_shows (hwft.trans hwf)
    obtain ⟨hcrc, hppl⟩ := rawBeat_rest (s.rmaTaken l)
    have h := heard_gotHeartbeat hwfr (slice f.bytes (payloadAt f.bytes) 64)
    refine does_of_exec (exec_heartbeatReceive_raw hin htype hrole hport) ⟨?_, h.paths.1.trans hpath, h.beats.1.trans hraw, ?_, ?_⟩
    · rw [h.ppl, hppl, htaken]
    · rw [h.crc, hcrc, hrma]
    · rw [h.role, hwins, hme]
      rfl
  case elsewhere =>
    intro s f l hin htype h
    obtain ⟨htaken, hregs, hrma, -, -⟩ := rmaTaken_rest s l
    exact does_of_exec (exec_heartbeatReceive_elsewhere hin htype h) ⟨htaken, hregs, hrma⟩
  case mirror =>
    intro s hwf hnew hrole
    obtain ⟨hwfq, hpath, hblock⟩ := qpBeat_shows hwf
    obtain ⟨hold, htick, hcrc⟩ := qpBeat_rest s
    have h := heard_gotHeartbeat hwfq (s.qpBeat.rtRead s.qpBeat.mirBase 64)
    refine does_of_exec (exec_heartbeatReceive_qp hnew hrole) ⟨h.beats.2.2.trans hold, h.paths.2.trans hpath, h.beats.2.1.trans htick, ?_⟩
    rw [h.crc, hcrc, hblock]
  case rawSilent =>
    intro s hwf hon
    exact does_of_exec (exec_heartbeatPathSilent_raw hon) (pathSilence_shows hwf _ true)
  case qpSilent =>
    intro s hwf hon
    exact does_of_exec (exec_heartbeatPathSilent_qp hon) (pathSilence_shows hwf _ false)
  case takeover =>
    intro s hwf hheard hrole
    obtain ⟨hwfb, hdue, hme, -⟩ := bothSilent_shows hwf
    obtain ⟨hnow, htick⟩ := takeover_shows hwfb
    exact does_of_exec (exec_twinSilent_standby hheard (hme.trans hrole)) ⟨hdue.trans_eq htick.symm, hnow⟩
  case silent =>
    intro s hwf hheard hrole
    obtain ⟨-, hdue, hme, hraw, hqp, htold, hrma⟩ := bothSilent_shows hwf
    exact does_of_exec (exec_twinSilent hheard (hme ▸ hrole)) ⟨hdue, hme, hraw, hqp, htold, hrma⟩
  case seek =>
    intro s hwf hrole
    exact does_of_exec (exec_twinSeekExpire hrole) (seekExpired_shows hwf hrole _)

end Sys2Proof.Machine

/-!
The commands on queue pairs and regions, and the entries posted on their rings.
-/
namespace Sys2Proof.Machine

/-! ## Commands on an existing queue pair (R336, R338) -/

/-- The queue pair that a command names. -/
def Job.qp (j : Job) : Nat := bitsOf (qwAt j.qw 1) 0 16

/-- MODIFY_QP on a Valid context, with an image of 256 bytes. -/
def State.qpModified (s : State) (g : Nat) (j : Job) (q : Nat) : State :=
  let v := s.maskImage (s.ctx q) (leNat (j.bytes.take 256)) (bitsOf (qwAt j.qw 1) 32 16)
  let u := s.setCtx q v
  let w := if ctxState.get v = 4 && ctxState.get (s.ctx q) != 4 then u.qpError q 2 0x104
    else if ctxState.get v = 0 then u.setQp q {} else u.rateStart q
  if !qpStep (ctxState.get (s.ctx q)) (ctxState.get v) || (ctxMode.get v = 1 && ctxEnc.get v = 1) then s.finishJob g j.idx 4 16
  else (w.finishJob g j.idx 0).pumpQp q

/-- QUERY_QP on a Valid context. -/
def State.qpQueried (s : State) (g : Nat) (j : Job) (q : Nat) : State :=
  if j.room < 256 then s.finishJob g j.idx 1 0 256
  else ((s.writeFrags (s.rd QMG_RINGg_DESC.FN g) (s.ring g).ro j.frags (leBytes 256 (s.ctx q % 2 ^ 768))).ringCount g 5 256).finishJob
    g j.idx 0 0 256

section
variable {s : State} {g : Nat} {j : Job} (hfn : s.pfOf (s.rd QMG_RINGg_DESC.FN g) = 4)
include hfn

theorem exec_modifyQp (hj : s.jobOf g 0x81 = some j) : exec (.modifyQp g) s =
    .next (s.onQp g j fun q => if j.bytes.length < 256 then s.finishJob g j.idx 4 24 else s.qpModified g j q) := by
  change execModifyQp g s = _
  rw [execModifyQp, if_neg (by simp [hfn]), hj]
  rfl

theorem exec_queryQp (hj : s.jobOf g 0x82 = some j) : exec (.queryQp g) s = .next (s.onQp g j fun q => s.qpQueried g j q) := by
  change execQueryQp g s = _
  rw [execQueryQp, if_neg (by simp [hfn]), hj]
  rfl

theorem exec_destroyQp (hj : s.jobOf g 0x83 = some j) :
    exec (.destroyQp g) s = .next (s.onQp g j fun q => (s.dropQp q).finishJob g j.idx 0) := by
  change execDestroyQp g s = _
  rw [execDestroyQp, if_neg (by simp [hfn]), hj]

/-- The three commands take the same way to the queue pair that they name. -/
theorem exec_onQp {c : Instr} (h : (s.jobOf g 0x81 = some j ∧ c = .modifyQp g) ∨ (s.jobOf g 0x82 = some j ∧ c = .queryQp g) ∨
    (s.jobOf g 0x83 = some j ∧ c = .destroyQp g)) : ∃ act, exec c s = .next (s.onQp g j act) := by
  rcases h with ⟨hj, rfl⟩ | ⟨hj, rfl⟩ | ⟨hj, rfl⟩
  · exact ⟨_, exec_modifyQp hfn hj⟩
  · exact ⟨_, exec_queryQp hfn hj⟩
  · exact ⟨_, exec_destroyQp hfn hj⟩
end

section
variable {s : State} {g : Nat} {j : Job} (act : Nat → State)

theorem onQp_refused (h : s.qpNamable (s.rd QMG_RINGg_DESC.FN g) j.qp = false ∨ tabGet s.rma.owner j.qp = 0) :
    s.onQp g j act = s.finishJob g j.idx 4 8 := if_pos (by
  simp only [Bool.or_eq_true, Bool.not_eq_true', decide_eq_true_eq]
  exact h)

variable (hname : s.qpNamable (s.rd QMG_RINGg_DESC.FN g) j.qp = true) (howner : tabGet s.rma.owner j.qp ≠ 0)
include hname howner

theorem onQp_fetches (hslot : s.slotOf j.qp = none) : s.onQp g j act = s.fetchCtx j.qp :=
  (if_neg (by
    simp only [Bool.or_eq_true, Bool.not_eq_true', decide_eq_true_eq, not_or, Bool.not_eq_false]
    exact ⟨hname, howner⟩)).trans (if_pos (by
    rw [Option.isNone_iff_eq_none]
    exact hslot))

theorem onQp_acts (hslot : (s.slotOf j.qp).isSome = true) : s.onQp g j act = act j.qp :=
  (if_neg (by
    simp only [Bool.or_eq_true, Bool.not_eq_true', decide_eq_true_eq, not_or, Bool.not_eq_false]
    exact ⟨hname, howner⟩)).trans (if_neg (by
    rw [Option.isNone_iff_eq_none]
    exact fun hnone => by
      rw [Job.qp, hnone] at hslot
      exact absurd hslot (by decide)))
end

/-! ## CREATE_QP (R338) -/

/-- A queue pair takes slot `i` for function `f`, with context `v`. -/
def State.qpPlaced (s : State) (i f q v : Nat) : State :=
  let u := (s.setSlot i { st := 2, qp := q, last := s.tick }).setWinNat 11 false (64 * i) 64 v
  { u with rma := { u.rma with owner := tabSet u.rma.owner q (f + 1) } }

/-- The image as a new queue pair holds it. -/
def State.newCtx (s : State) (j : Job) (f : Nat) : Nat :=
  ctxFn.set (ctxPin.set (ctxValid.set (s.sealImage (leNat (j.bytes.take 256))) 1) 0) f

/-- A queue pair's own record starts anew. -/
def State.qpStarted (s : State) (q : Nat) : State := (s.setQp q {}).rateStart q

theorem qpStarted_keep (s : State) (q : Nat) : Keep 0x8000000000000 s (s.qpStarted q) :=
  (State.rateStart_keep ..).step (State.setQp_keep ..) rfl

theorem LinkStays.rateStart (s : State) (q : Nat) : LinkStays s (s.rateStart q) := by
  unfold State.rateStart
  split
  · exact .setQp ..
  · exact .of_rma rfl

theorem LinkStays.qpStarted (s : State) (q : Nat) : LinkStays s (s.qpStarted q) := (LinkStays.setQp ..).trans (.rateStart ..)

section
variable {s : State} {g : Nat} {j : Job} (hfn : s.pfOf (s.rd QMG_RINGg_DESC.FN g) = 4) (hj : s.jobOf g 0x80 = some j)
  (hlen : 256 ≤ j.bytes.length)
include hfn hj hlen

theorem exec_createQp_refused (h : s.qpNamable (s.rd QMG_RINGg_DESC.FN g) j.qp = false ∨ tabGet s.rma.owner j.qp ≠ 0 ∨
    s.on RMA_BS_CTRL.ENABLE = false) : exec (.createQp g) s = .next (s.finishJob g j.idx 4 8) := by
  change execCreateQp g s = _
  rw [execCreateQp, if_neg (by simp [hfn]), hj]
  refine (if_neg (Nat.not_lt.2 hlen)).trans (if_pos ?_)
  simp only [Bool.or_eq_true, Bool.not_eq_true', bne_iff_ne, or_assoc]
  exact h

variable (hname : s.qpNamable (s.rd QMG_RINGg_DESC.FN g) j.qp = true) (howner : tabGet s.rma.owner j.qp = 0)
  (hstore : s.on RMA_BS_CTRL.ENABLE = true)
  (hmode : ¬(ctxMode.get (leNat (j.bytes.take 256)) = 1 ∧ ctxEnc.get (leNat (j.bytes.take 256)) = 1))
include hname howner hstore hmode

theorem exec_createQp_waits (hfull : s.freeSlot = none) : exec (.createQp g) s = .next s.evict := by
  have hgo : ¬ (!s.qpNamable (s.rd QMG_RINGg_DESC.FN g) j.qp || tabGet s.rma.owner j.qp != 0 || !s.on RMA_BS_CTRL.ENABLE) = true := by
    simp [hname, howner, hstore]
  change execCreateQp g s = _
  rw [execCreateQp, if_neg (by simp [hfn]), hj]
  refine (if_neg (Nat.not_lt.2 hlen)).trans ((if_neg hgo).trans ((if_neg (by simpa using hmode)).trans ?_))
  rw [hfull]

theorem exec_createQp {i : Nat} (hfree : s.freeSlot = some i) : exec (.createQp g) s =
    .next (((s.qpPlaced i (s.rd QMG_RINGg_DESC.FN g) j.qp (s.newCtx j (s.rd QMG_RINGg_DESC.FN g))).qpStarted j.qp).finishJob
      g j.idx 0 0 0 (0x10000 + j.qp)) := by
  have hgo : ¬ (!s.qpNamable (s.rd QMG_RINGg_DESC.FN g) j.qp || tabGet s.rma.owner j.qp != 0 || !s.on RMA_BS_CTRL.ENABLE) = true := by
    simp [hname, howner, hstore]
  change execCreateQp g s = _
  rw [execCreateQp, if_neg (by simp [hfn]), hj]
  refine (if_neg (Nat.not_lt.2 hlen)).trans ((if_neg hgo).trans ((if_neg (by simpa using hmode)).trans ?_))
  rw [hfree]
  rfl
end

theorem rma_setSlot (s : State) (i : Nat) (v : SlotSt) : (s.setSlot i v).rma = { s.rma with slots := tabSet s.rma.slots i v } :=
  (State.showCache_keep _).parts .rma rfl

theorem rma_finishJob (s : State) (g i status detail len result : Nat) : (s.finishJob g i status detail len result).rma = s.rma :=
  (State.finishJob_keep ..).parts .rma rfl

theorem qpPlaced_rma (s : State) (i f q v : Nat) : (s.qpPlaced i f q v).rma = { s.rma with
    owner := tabSet s.rma.owner q (f + 1), slots := tabSet s.rma.slots i { st := 2, qp := q, last := s.tick } } := by
  have h : ((s.setSlot i { st := 2, qp := q, last := s.tick }).setWinNat 11 false (64 * i) 64 v).rma =
      { s.rma with slots := tabSet s.rma.slots i { st := 2, qp := q, last := s.tick } } :=
    ((State.setWinNat_keep ..).parts .rma rfl).trans (rma_setSlot ..)
  exact congrArg (fun r : RmaSt => { r with owner := tabSet r.owner q (f + 1) }) h

theorem qpPlaced_keep (s : State) (i f q v : Nat) : Keep 0x8000006004000 s (s.qpPlaced i f q v) :=
  ((State.setWinNat_keep ..).step ((State.setSlot_keep ..).mono rfl) rfl).rma _ rfl

/-- What CREATE_QP leaves, before its job ends. -/
theorem qpCreated_shows (s : State) (i f q v : Nat) : tabGet ((s.qpPlaced i f q v).qpStarted q).rma.owner q = f + 1 ∧
    tabGet ((s.qpPlaced i f q v).qpStarted q).rma.slots i = { st := 2, qp := q, last := s.tick } ∧
    ((s.qpPlaced i f q v).qpStarted q).rings = s.rings := by
  obtain ⟨l, b, h⟩ := LinkStays.qpStarted (s.qpPlaced i f q v) q
  rw [qpPlaced_rma] at h
  refine ⟨?_, ?_, ((qpStarted_keep ..).parts .rings rfl).trans ((qpPlaced_keep ..).parts .rings rfl)⟩
  · rw [h]
    exact cellGet_cellSet_ne _ _ (Nat.succ_ne_zero f)
  · rw [h]
    exact cellGet_cellSet_ne _ _ fun hdef => Nat.succ_ne_zero 1 (congrArg SlotSt.st hdef)

/-! ## DESTROY_QP (R338, R339) -/

theorem rma_setHeld (s : State) (l : List HeldPkt) : (s.setHeld l).rma = { s.rma with held := l } := (State.showMiss_keep _).parts .rma rfl

/-- What a dropped queue pair leaves of the packets held and of the fetches wanted. -/
theorem dropQp_shows (s : State) (q : Nat) : (s.dropQp q).rma.want = s.rma.want.filter (fun x => x != q) ∧
    (s.dropQp q).rma.held = s.rma.held.filter (fun h => !(h.qp == q)) := by
  unfold State.dropQp
  extract_lets u v w src x
  have hu : u.rma = s.rma := ((Keep.refl 0x1800003400701004 s).forEach fun g y => State.flushRing_keep y g).parts .rma rfl
  clear_value u
  have hv : v.rma.want = s.rma.want ∧ v.rma.held = s.rma.held := by
    unfold v
    split
    case h_1 i _ =>
      rw [(State.setWinNat_keep ..).parts .rma rfl, rma_setSlot, hu]
      exact ⟨rfl, rfl⟩
    case h_2 => exact ⟨congrArg RmaSt.want hu, congrArg RmaSt.held hu⟩
  clear_value v
  have hw : w.rma = { v.rma with held := v.rma.held.filter (fun h => !(h.qp == q)) } := rma_setHeld ..
  clear_value w
  have hstore : ((x.setQp q {}).storeWrite (x.ctxAddr q) (List.replicate 256 0#8)).rma = (x.setQp q {}).rma :=
    (State.storeWrite_keep ..).parts .rma rfl
  rw [hstore]
  refine ⟨?_, ?_⟩
  · change w.rma.want.filter _ = _
    rw [hw, ← hv.1]
  · change w.rma.held = _
    rw [hw, ← hv.2]

/-! ## Regions (R338) -/

/-- A region is registered for function `f`. -/
def State.regionPlaced (s : State) (f r : Nat) (v : RegSt) : State :=
  let u := (s.roomForRegion.setRegion r v).storeWrite (s.regionAddr r) (regionBytes v)
  { u with rma := { u.rma with regOwner := tabSet u.rma.regOwner r (f + 1) } }

/-- The entry that REGISTER_REGION makes. -/
def State.newRegion (s : State) (j : Job) : RegSt :=
  { st := 2, iova := qwAt j.qw 6, len := qwAt j.qw 7, tag := bitsOf (qwAt j.qw 1) 16 8, acc := bitsOf (qwAt j.qw 1) 24 3, last := s.tick }

/-- A region is no longer registered. -/
def State.regionDropped (s : State) (r : Nat) : State :=
  let u := (s.setRegion r {}).storeWrite (s.regionAddr r) (List.replicate 32 0#8)
  { u with rma := { u.rma with regOwner := tabSet u.rma.regOwner r 0 } }

section
variable {s : State} {g : Nat} {j : Job} (hfn : s.pfOf (s.rd QMG_RINGg_DESC.FN g) = 4)
include hfn

theorem exec_registerRegion (hj : s.jobOf g 0x84 = some j)
    (hfree : tabGet s.rma.regOwner j.qp = 0 ∨ tabGet s.rma.regOwner j.qp = s.rd QMG_RINGg_DESC.FN g + 1) :
    exec (.registerRegion g) s = .next ((s.regionPlaced (s.rd QMG_RINGg_DESC.FN g) j.qp (s.newRegion j)).finishJob g j.idx 0 0 0
      (j.qp * 256 + bitsOf (qwAt j.qw 1) 16 8)) := by
  have howner : ¬ (tabGet s.rma.regOwner j.qp != 0 && tabGet s.rma.regOwner j.qp != s.rd QMG_RINGg_DESC.FN g + 1) = true := by
    simp only [Bool.and_eq_true, bne_iff_ne]
    omega
  have hpos : (j.qp * 256 + bitsOf (qwAt j.qw 1) 16 8) = j.qp * 256 + (s.newRegion j).tag := rfl
  change execRegisterRegion g s = _
  rw [execRegisterRegion, if_neg (by simp [hfn]), hj, hpos]
  exact if_neg howner

theorem exec_registerRegion_refused (hj : s.jobOf g 0x84 = some j) (howned : tabGet s.rma.regOwner j.qp ≠ 0)
    (hother : tabGet s.rma.regOwner j.qp ≠ s.rd QMG_RINGg_DESC.FN g + 1) :
    exec (.registerRegion g) s = .next (s.finishJob g j.idx 4 8) := by
  change execRegisterRegion g s = _
  rw [execRegisterRegion, if_neg (by simp [hfn]), hj]
  refine if_pos ?_
  simp only [Bool.and_eq_true, bne_iff_ne]
  exact ⟨howned, hother⟩

theorem exec_deregisterRegion (hj : s.jobOf g 0x85 = some j)
    (hmine : tabGet s.rma.regOwner j.qp = s.rd QMG_RINGg_DESC.FN g + 1) :
    exec (.deregisterRegion g) s = .next ((s.regionDropped j.qp).finishJob g j.idx 0) := by
  change execDeregisterRegion g s = _
  rw [execDeregisterRegion, if_neg (by simp [hfn]), hj]
  exact if_neg (not_not_intro hmine ∘ bne_iff_ne.1)

theorem exec_deregisterRegion_refused (hj : s.jobOf g 0x85 = some j)
    (hother : tabGet s.rma.regOwner j.qp ≠ s.rd QMG_RINGg_DESC.FN g + 1) :
    exec (.deregisterRegion g) s = .next (s.finishJob g j.idx 4 8) := by
  change execDeregisterRegion g s = _
  rw [execDeregisterRegion, if_neg (by simp [hfn]), hj]
  exact if_pos (bne_iff_ne.2 hother)

/-! ## Posted entries (R338) -/

theorem exec_postSend (htype : s.rd QMG_RINGg_DESC.TYPE g = 1)
    (hposted : (s.ring g).jobs.any (fun j => j.done.isNone && !j.posted) = true) : exec (.postSend g) s =
    .next (if (s.slotOf (s.ring g).bind).isSome then s.pumpQp (s.ring g).bind else s.fetchCtx (s.ring g).bind) := by
  change execPostSend g s = _
  rw [execPostSend, if_neg (by simp [hfn, htype])]
  refine (if_neg (by simp only [hposted]; decide)).trans ?_
  split <;> rfl

theorem exec_postReceive (htype : s.rd QMG_RINGg_DESC.TYPE g = 2) : exec (.postReceive g) s =
    .next (if ctxState.get ((s.postBuffer g 0x91).ctx ((s.postBuffer g 0x91).ring g).bind) = 4 then (s.postBuffer g 0x91).flushRing g
      else s.postBuffer g 0x91) := by
  change execPostReceive g s = _
  rw [execPostReceive, if_neg (by simp [hfn, htype])]
end

theorem regionPlaced_shows (s : State) (f r : Nat) {v : RegSt} (hv : v.st = 2) :
    tabGet (s.regionPlaced f r v).rma.regOwner r = f + 1 ∧ (s.regionPlaced f r v).region r = v ∧ (s.regionPlaced f r v).rings = s.rings := by
  have hne : v ≠ default := fun h => absurd (congrArg RegSt.st h) (by rw [hv]; decide)
  have hrma : ((s.roomForRegion.setRegion r v).storeWrite (s.regionAddr r) (regionBytes v)).rma = (s.roomForRegion.setRegion r v).rma :=
    (State.storeWrite_keep ..).parts .rma rfl
  refine ⟨cellGet_cellSet_ne _ _ (Nat.succ_ne_zero f), ?_, ?_⟩
  · change tabGet ((s.roomForRegion.setRegion r v).storeWrite (s.regionAddr r) (regionBytes v)).rma.regs r = v
    rw [hrma]
    exact cellGet_cellSet_ne _ _ hne
  · exact ((State.storeWrite_keep (s.roomForRegion.setRegion r v) _ _).parts .rings rfl).trans ((State.roomForRegion_keep s).parts .rings rfl)

theorem regionDropped_shows (s : State) (r : Nat) : (s.regionDropped r).rma.regs = tabSet s.rma.regs r {} ∧
    (s.regionDropped r).rma.regOwner = tabSet s.rma.regOwner r 0 ∧ (s.regionDropped r).rings = s.rings := by
  have k := State.storeWrite_keep (s.setRegion r {}) (s.regionAddr r) (List.replicate 32 0#8)
  have hrma : ((s.setRegion r {}).storeWrite (s.regionAddr r) (List.replicate 32 0#8)).rma = (s.setRegion r {}).rma := k.parts .rma rfl
  refine ⟨(congrArg RmaSt.regs hrma).trans rfl, ?_, k.parts .rings rfl⟩
  exact (congrArg (fun x : RmaSt => tabSet x.regOwner r 0) hrma).trans rfl

/-- Settles O42: each command on a queue pair or a region, and the entries posted on their rings. -/
theorem queuePairCommands : Obligations.QueuePairCommands := by
  refine ⟨?create, ?createRefused, ?modify, ?fetch, ?refused, ?query, ?destroy, ?register, ?registerRefused, ?deregister,
    ?deregisterRefused, ?send, ?receive⟩
  case create =>
    intro s g j hfn hj hlen hname howner hstore hmode
    rcases hfree : s.freeSlot with _ | i
    · refine does_of_exec (exec_createQp_waits hfn hj hlen hname howner hstore hmode hfree) ⟨fun _ => rfl, fun i hi => ?_⟩
      exact absurd hi (by simp)
    · obtain ⟨ho, hs, hrings⟩ := qpCreated_shows s i (s.rd QMG_RINGg_DESC.FN g) j.qp (s.newCtx j (s.rd QMG_RINGg_DESC.FN g))
      refine does_of_exec (exec_createQp hfn hj hlen hname howner hstore hmode hfree) ⟨fun h => absurd h (by simp), fun i' hi => ?_⟩
      obtain rfl := Option.some.inj hi
      rw [rma_finishJob]
      exact ⟨ho, hs, _, rfl, hrings⟩
  case createRefused =>
    exact fun s g j hfn hj hlen h => does_of_exec (exec_createQp_refused hfn hj hlen h) rfl
  case modify =>
    rintro s g j q hfn hj rfl hname howner hslot hlen
    refine does_of_exec (exec_modifyQp hfn hj) ?_
    rw [onQp_acts _ hname howner hslot, if_neg (Nat.not_lt.2 hlen)]
    rfl
  case fetch =>
    intro s g j c hfn hc hname howner hslot
    obtain ⟨act, h⟩ := exec_onQp hfn hc
    exact does_of_exec h (onQp_fetches act hname howner hslot)
  case refused =>
    intro s g j c hfn hc hno
    obtain ⟨act, h⟩ := exec_onQp hfn hc
    exact does_of_exec h (onQp_refused act hno)
  case query =>
    rintro s g j q hfn hj rfl hname howner hslot
    refine does_of_exec (exec_queryQp hfn hj) ?_
    rw [onQp_acts _ hname howner hslot]
    rfl
  case destroy =>
    rintro s g j q hfn hj rfl hname howner hslot
    refine does_of_exec (exec_destroyQp hfn hj) ?_
    rw [onQp_acts _ hname howner hslot, rma_finishJob]
    exact ⟨rfl, dropQp_shows s j.qp⟩
  case register =>
    rintro s g j r hfn hj rfl hfree
    obtain ⟨ho, hr, hrings⟩ := regionPlaced_shows s (s.rd QMG_RINGg_DESC.FN g) j.qp (v := s.newRegion j) rfl
    refine does_of_exec (exec_registerRegion hfn hj hfree) ?_
    rw [State.region, rma_finishJob]
    exact ⟨ho, hr, _, rfl, hrings⟩
  case registerRefused =>
    rintro s g j r hfn hj rfl howned hother
    exact does_of_exec (exec_registerRegion_refused hfn hj howned hother) rfl
  case deregister =>
    rintro s g j r hfn hj rfl hmine
    exact does_of_exec (exec_deregisterRegion hfn hj hmine) ⟨_, rfl, regionDropped_shows s j.qp⟩
  case deregisterRefused =>
    rintro s g j r hfn hj rfl hother
    exact does_of_exec (exec_deregisterRegion_refused hfn hj hother) rfl
  case send => exact fun s g hfn htype hposted => does_of_exec (exec_postSend hfn htype hposted) rfl
  case receive => exact fun s g hfn htype => does_of_exec (exec_postReceive hfn htype) rfl

end Sys2Proof.Machine

/-!
The Tailstock link: packets, timers and retries, the miss buffer, and the context cache.
-/
namespace Sys2Proof.Machine

/-! ## Packets and timers (R323, R331, R332) -/

section
variable {s : State} {q : Nat}

theorem exec_rocePacketReceive {f : RxFrame} {l : List RxFrame} (hin : s.ppl.rmaIn = f :: l) (htype : etherType f.bytes ≠ 0x88B6) :
    exec .rocePacketReceive s = .next (if s.on RMA_CFG.ENABLE then ((s.rmaTaken l).roceFrame f).serveWant else s.rmaTaken l) := by
  change execRocePacketReceive s = _
  rw [execRocePacketReceive, hin]
  refine (if_neg htype).trans ?_
  by_cases hon : s.on RMA_CFG.ENABLE = true
  · exact (if_pos hon).trans (congrArg Host.Outcome.next (if_pos hon).symm)
  · exact (if_neg hon).trans (congrArg Host.Outcome.next (if_neg hon).symm)

theorem exec_roceAckTimer (hrun : (s.qp q).ackFrom ≠ 0) (hslot : (s.slotOf q).isSome = true) : exec (.roceAckTimer q) s =
    .next ((s.advanceTo ((s.qp q).ackFrom - 1 + 1000 * s.rd RMA_ACK.ACK_US)).sendAck q) :=
  if_neg (by simp [hrun, Option.isSome_iff_ne_none.1 hslot])

/-- The ack timeout on a clock that has reached it (R332, R333). -/
def State.ackLate (s : State) (q c : Nat) : State :=
  if ctxRetryLeft.get c = 0 then (s.raise 353 [i16 q]).qpError q 0 0x101
  else (s.putCtx q ctxRetryLeft (ctxRetryLeft.get c - 1)).resendFrom q (ctxUna.get c)

theorem exec_roceAckTimeout (hrun : (s.qp q).timerFrom ≠ 0) (hset : ctxTimeout.get (s.ctx q) ≠ 0) (hrts : ctxState.get (s.ctx q) = 3) :
    exec (.roceAckTimeout q) s =
      .next ((s.advanceTo ((s.qp q).timerFrom - 1 + 4096 * 2 ^ ctxTimeout.get (s.ctx q))).ackLate q (s.ctx q)) := by
  change execRoceAckTimeout q s = _
  unfold execRoceAckTimeout
  extract_lets u c v
  have hv : s.advanceTo ((s.qp q).timerFrom - 1 + 4096 * 2 ^ ctxTimeout.get (s.ctx q)) = v := rfl
  rw [hv]
  clear_value v
  refine (if_neg (by simp [u, c, hrun, hset, hrts])).trans ?_
  unfold State.ackLate
  by_cases hleft : ctxRetryLeft.get (s.ctx q) = 0
  · exact (if_pos hleft).trans (congrArg Host.Outcome.next (if_pos hleft).symm)
  · exact (if_neg hleft).trans (congrArg Host.Outcome.next (if_neg hleft).symm)

theorem exec_roceRnrWaitExpire (hwait : (s.qp q).rnrUntil ≠ 0) : exec (.roceRnrWaitExpire q) s =
    .next ((((s.advanceTo ((s.qp q).rnrUntil - 1)).setQp q { s.qp q with rnrUntil := 0 }).resendFrom q (s.qp q).rnrPsn).pumpQp q) :=
  if_neg hwait
end

/-! ## The send rate (R324) -/

theorem CtxFld.get_set (f : CtxFld) (v x : Nat) : f.get (f.set v x) = x % 2 ^ f.w := by
  obtain ⟨off, w⟩ := f
  have hlow : v % 2 ^ off < 2 ^ off := Nat.mod_lt _ (Nat.two_pow_pos off)
  have hx : x % 2 ^ w < 2 ^ w := Nat.mod_lt _ (Nat.two_pow_pos w)
  have hsplit := Nat.div_add_mod v (2 ^ off)
  have hhigh := Nat.div_add_mod (v / 2 ^ off) (2 ^ w)
  simp only [CtxFld.get, CtxFld.set, bitsOf]
  generalize x % 2 ^ w = y at *
  generalize v / 2 ^ off / 2 ^ w = a at *
  generalize v / 2 ^ off % 2 ^ w = b at *
  generalize v % 2 ^ off = c at *
  have hset : v - b * 2 ^ off + y * 2 ^ off = 2 ^ off * (2 ^ w * a + y) + c := by
    rw [← hhigh] at hsplit
    rw [← hsplit, Nat.mul_add, Nat.mul_comm b, Nat.mul_comm y, Nat.mul_add]
    omega
  rw [hset, Nat.mul_add_div (Nat.two_pow_pos off), Nat.div_eq_of_lt hlow, Nat.add_zero, Nat.mul_add_mod, Nat.mod_eq_of_lt hx]

theorem CtxFld.get_mod (f : CtxFld) (v : Nat) {n : Nat} (h : f.off + f.w ≤ n) : f.get (v % 2 ^ n) = f.get v := by
  obtain ⟨off, w⟩ := f
  obtain ⟨k, rfl⟩ := Nat.exists_eq_add_of_le h
  simp only [CtxFld.get, bitsOf]
  rw [Nat.add_assoc, Nat.pow_add, Nat.mod_mul_right_div_self, Nat.mod_mod_of_dvd _ (Nat.pow_dvd_pow 2 (Nat.le_add_right w k))]

theorem slotBound_of_slotOf {s : State} {q : Nat} (h : (s.slotOf q).isSome = true) : ∃ i, s.slotBound q = some i := by
  rw [State.slotOf, Option.isSome_map, List.find?_isSome] at h
  obtain ⟨p, hp, hval⟩ := h
  simp only [Bool.and_eq_true, beq_iff_eq] at hval
  refine Option.isSome_iff_exists.1 ?_
  rw [State.slotBound, Option.isSome_map, List.find?_isSome]
  exact ⟨p, hp, by simp [hval.1, hval.2]⟩

theorem slotBound_of_rma {s t : State} (h : t.rma = s.rma) (q : Nat) : t.slotBound q = s.slotBound q := by
  rw [State.slotBound, h, State.slotBound]

theorem ctx_putCtx {s : State} (hwf : s.wf = true) {q i : Nat} (hslot : s.slotBound q = some i) (f : CtxFld) (x : Nat) :
    (s.putCtx q f x).ctx q = f.set (s.ctx q) x % 2 ^ 2048 := by
  have hslot' : (s.putCtx q f x).slotBound q = some i := (slotBound_of_rma ((State.putCtx_keep ..).parts .rma rfl) q).trans hslot
  rw [State.ctx, hslot', State.putCtx, State.setCtx, hslot]
  dsimp only
  rw [winNat_setWinNat 64 hwf, show 32 * 64 = 2048 from rfl, Nat.mod_mod]

theorem lineRate_le (s : State) (n : Nat) : s.lineRate n ≤ 10000 := by
  unfold State.lineRate
  extract_lets m
  split <;> omega

theorem lineRate_advanceTo (s : State) (t n : Nat) : (s.advanceTo t).lineRate n = s.lineRate n := by
  unfold State.lineRate
  extract_lets m
  rw [on_advanceTo, rd_advanceTo]

theorem ctx_of_slots {s t : State} {q : Nat} (hslot : t.slotBound q = s.slotBound q) (hwin : t.winLive = s.winLive) : t.ctx q = s.ctx q := by
  have hnat (word n : Nat) : t.winNat 11 false word n = s.winNat 11 false word n := winNat_of_winLive hwin ..
  simp only [State.ctx, hslot, hnat]

theorem ctx_advanceTo (s : State) (t q : Nat) : (s.advanceTo t).ctx q = s.ctx q :=
  ctx_of_slots (slotBound_of_rma (rma_advanceTo s t) q) ((State.advanceTo_keep s t).parts .winLive rfl)

/-- The rate rises by one step. -/
def State.rateRaised (s : State) (q : Nat) : State :=
  s.putCtx q ctxRate (min (ctxRate.get (s.ctx q) + s.rd RMA_RATE.AI_STEP) (s.lineRate (ctxPort.get (s.ctx q))))

/-- The time without a CNP starts again. -/
def State.rateAgain (s : State) (q : Nat) : State := s.setQp q { s.qp q with rateFrom := s.tick + 1 }

theorem exec_roceRateIncrease {s : State} {q : Nat} (hslot : (s.slotOf q).isSome = true) (hrun : (s.qp q).rateFrom ≠ 0) :
    exec (.roceRateIncrease q) s =
      .next (((s.advanceTo ((s.qp q).rateFrom - 1 + 1000 * s.rd RMA_RATE.AI_US)).rateRaised q).rateAgain q) :=
  if_neg (by simp [hrun, Option.isSome_iff_ne_none.1 hslot])

theorem rateAgain_shows (s : State) (q : Nat) : (s.rateAgain q).tick = s.tick ∧ ((s.rateAgain q).qp q).rateFrom = s.tick + 1 ∧
    (s.rateAgain q).ctx q = s.ctx q := by
  have hne : ({ s.qp q with rateFrom := s.tick + 1 } : QpSt) ≠ default := fun h => Nat.succ_ne_zero _ (congrArg QpSt.rateFrom h)
  have hqp : (s.rateAgain q).qp q = { s.qp q with rateFrom := s.tick + 1 } := cellGet_cellSet_ne s.rma.qps q hne
  exact ⟨rfl, by rw [hqp], ctx_of_slots rfl rfl⟩

theorem rate_rateRaised {s : State} (hwf : s.wf = true) {q i : Nat} (hslot : s.slotBound q = some i) :
    ctxRate.get ((s.rateRaised q).ctx q) =
      min (ctxRate.get (s.ctx q) + s.rd RMA_RATE.AI_STEP) (s.lineRate (ctxPort.get (s.ctx q))) := by
  have hle := lineRate_le s (ctxPort.get (s.ctx q))
  unfold State.rateRaised
  rw [ctx_putCtx hwf hslot, CtxFld.get_mod _ _ (by decide), CtxFld.get_set]
  exact Nat.mod_eq_of_lt (Nat.lt_of_le_of_lt (Nat.min_le_right ..) (Nat.lt_of_le_of_lt hle (by decide)))

/-! ## Selective NAKs (R333) -/

theorem exec_srNakRepeat {s : State} {q m : Nat} (hm : ∃ x ∈ s.openNaks q, x.2 = m) (hmin : ∀ x ∈ s.openNaks q, m ≤ x.2) :
    exec (.srNakRepeat q) s = .next ((s.advanceTo (m + 10000 * s.rd RMA_ACK.SR_NAK_US)).nakGaps q
      (((s.openNaks q).filter fun x => decide (x.2 + 10000 * s.rd RMA_ACK.SR_NAK_US ≤
        (s.advanceTo (m + 10000 * s.rd RMA_ACK.SR_NAK_US)).tick)).map fun x => x.1)) := by
  change execSrNakRepeat q s = _
  rw [execSrNakRepeat]
  rcases hl : s.openNaks q with _ | ⟨x, t⟩
  · rw [hl] at hm
    simp at hm
  rw [hl] at hm hmin
  have hfirst : (t.map fun y => y.2).foldl min x.2 = m := by
    have hmin? : ((x :: t).map fun y => y.2).min? = some m :=
      List.min?_eq_some_iff.2 ⟨List.mem_map.2 hm, fun b hb => by
        obtain ⟨y, hy, rfl⟩ := List.mem_map.1 hb
        exact hmin y hy⟩
    rw [List.map_cons, List.min?_cons'] at hmin?
    exact Option.some.inj hmin?
  dsimp only
  rw [hfirst]

/-! ## The miss buffer (R329) -/

theorem rd64_count {s : State} (h : s.wf = true) {f : Fld} {i j : Nat} (hf : f.fits i j = true) (n : Nat) :
    (s.count f i j n).rd64 f i j = (s.rd64 f i j + n) % 2 ^ 64 := by
  rw [State.count, rd64_wr64_same h hf, Nat.mod_mod]

/-- The registers of the link but RMA_STATUS read as before. -/
structure StatusOnly (s t : State) : Prop where
  wf : s.wf = true → t.wf = true
  reg : s.wf = true → ∀ a, zoneNo a = 14 → a ≠ 0x400020 → t.reg a = s.reg a

theorem StatusOnly.refl (s : State) : StatusOnly s s := ⟨id, fun _ _ _ _ => rfl⟩

theorem StatusOnly.trans {s t u : State} (h1 : StatusOnly s t) (h2 : StatusOnly t u) : StatusOnly s u :=
  ⟨fun h => h2.wf (h1.wf h), fun h a hz ha => (h2.reg (h1.wf h) a hz ha).trans (h1.reg h a hz ha)⟩

theorem StatusOnly.of_keep {m : Nat} {s t : State} (k : Keep m s t) (hm : m.testBit 14 = false) : StatusOnly s t :=
  ⟨k.wf, fun hwf a hz _ => k.regs hwf a (by rwa [hz])⟩

theorem StatusOnly.wr (s : State) {f : Fld} (v : Nat) (hf : f.addr 0 0 = 0x400020) : StatusOnly s (s.wr f v) :=
  ⟨fun hwf => wr_wf hwf .., fun hwf _ _ ha => reg_wr_other hwf (by rwa [hf])⟩

theorem StatusOnly.showMiss (s : State) : StatusOnly s s.showMiss := by
  unfold State.showMiss
  extract_lets use u
  have hu : StatusOnly s u := .wr _ _ rfl
  clear_value u use
  have hpause (b : Bool) (n src : Nat) (items : List Item) :
      StatusOnly s (((u.wr RMA_STATUS.PAUSING n).missPause b).raise src items) :=
    have k : Keep 0x1000100400100004 (u.wr RMA_STATUS.PAUSING n) (((u.wr RMA_STATUS.PAUSING n).missPause b).raise src items) :=
      (State.raise_keep ..).step (State.missPause_keep ..) rfl
    hu.trans ((StatusOnly.wr u n rfl).trans (.of_keep k rfl))
  split
  · exact hpause ..
  split
  · exact hpause ..
  · exact hu

theorem StatusOnly.setHeld (s : State) (l : List HeldPkt) : StatusOnly s (s.setHeld l) :=
  .trans (t := { s with rma := { s.rma with held := l } }) ⟨id, fun _ _ _ _ => rfl⟩ (.showMiss _)

/-- Is a packet held for a context, as long as `w` allows at `tick`? -/
def heldLong (w tick : Nat) (x : HeldPkt) : Bool := x.psn == 0 && decide (x.tick + w ≤ tick)

/-- The packets held too long are discarded and counted. -/
def State.missDropped (s : State) (w : Nat) : State :=
  (s.count RMA_cnt_LO.COUNT 3 0 (s.rma.held.filter (heldLong w s.tick)).length).setHeld
    (s.rma.held.filter fun x => !heldLong w s.tick x)

theorem exec_missHoldTimeout {s : State} {h : HeldPkt} {l : List HeldPkt} {w : Nat}
    (hheld : s.rma.held.filter (fun h => h.psn == 0) = h :: l)
    (hw : w = 1000 * (if s.rd RMA_MISS.MISS_TO = 0 then 1000 else s.rd RMA_MISS.MISS_TO)) :
    exec .missHoldTimeout s = .next ((s.advanceTo (h.tick + w)).missDropped w) := by
  change execMissHoldTimeout s = _
  rw [execMissHoldTimeout, hheld, hw]
  rfl

theorem missDropped_shows {s : State} (hwf : s.wf = true) (w : Nat) : (s.missDropped w).tick = s.tick ∧
    (s.missDropped w).rma.held = s.rma.held.filter (fun x => !heldLong w s.tick x) ∧
    (s.missDropped w).rd64 RMA_cnt_LO.COUNT 3 =
      (s.rd64 RMA_cnt_LO.COUNT 3 + (s.rma.held.filter (heldLong w s.tick)).length) % 2 ^ 64 := by
  unfold State.missDropped
  generalize s.rma.held.filter (fun x => !heldLong w s.tick x) = kept
  generalize (s.rma.held.filter (heldLong w s.tick)).length = n
  have hcount := rd64_count hwf (f := RMA_cnt_LO.COUNT) (i := 3) (j := 0) rfl n
  have kc : Keep 0x4000 s (s.count RMA_cnt_LO.COUNT 3 0 n) := (Keep.refl 0x4000 s).count .rma rfl rfl
  have hwfc := kc.wf hwf
  have htick : (s.count RMA_cnt_LO.COUNT 3 0 n).tick = s.tick := kc.parts .tick rfl
  generalize s.count RMA_cnt_LO.COUNT 3 0 n = u at *
  have hstay := StatusOnly.setHeld u kept
  refine ⟨((State.setHeld_keep ..).parts .tick rfl).trans htick, congrArg RmaSt.held (rma_setHeld u kept), ?_⟩
  rw [← hcount]
  exact rd64_of_reg (hstay.reg hwfc _ (by decide) (by decide)) (hstay.reg hwfc _ (by decide) (by decide))

/-! ## The context cache (R328, R330) -/

theorem ToldGrows.issueRead (s : State) (r : ReadReq) : ToldGrows s (s.issueRead r) := by
  unfold State.issueRead
  split
  case h_1 => exact .of_keep ((Keep.refl 0x1000000000 s).hif _ rfl) rfl
  case h_2 t _ =>
    extract_lets r' src u v
    have hu : ToldGrows s u := .of_keep ((Keep.refl 0x1000000000 s).hif _ rfl) rfl
    clear_value u
    exact hu.trans ((ToldGrows.cal u _ _ _).trans ((ToldGrows.tlpOut v _ _).trans (.of_keep (State.showTags_keep ..) rfl)))

theorem ToldGrows.dmaRead (s : State) (f addr len : Nat) (why : Purpose) (off : Nat) : ToldGrows s (s.dmaRead f addr len why off) :=
  .forEach (fun _ u => .issueRead u _) s

theorem ToldGrows.dmaWrite (s : State) (f addr : Nat) (bytes : List Byte) (relaxed : Bool) :
    ToldGrows s (s.dmaWrite f addr bytes relaxed) := by
  unfold State.dmaWrite
  split
  · exact .refl s
  · exact .tlpOut s _ _

theorem ToldGrows.evict (s : State) : ToldGrows s s.evict := by
  unfold State.evict
  split
  · exact .refl s
  split
  · exact .refl s
  · extract_lets v u
    have hu : ToldGrows s u := .of_keep ((State.setSlot_keep ..).count .rma rfl rfl) rfl
    clear_value u
    exact hu.trans (.dmaWrite u _ _ _ _)

theorem ToldGrows.fetchCtx (s : State) (q : Nat) : ToldGrows s (s.fetchCtx q) := by
  unfold State.fetchCtx
  split
  · exact .refl s
  split
  case h_1 i _ =>
    have hslot : ToldGrows s ((s.setSlot i { st := 1, qp := q, last := s.tick }).count RMA_cnt_LO.COUNT 5) :=
      .of_keep ((State.setSlot_keep ..).count .rma rfl rfl) rfl
    generalize (s.setSlot i { st := 1, qp := q, last := s.tick }).count RMA_cnt_LO.COUNT 5 = u at *
    exact hslot.trans ((ToldGrows.cal u _ _ _).trans (.dmaRead _ _ _ _ _ _))
  case h_2 =>
    refine ToldGrows.trans ?_ (.evict _)
    split
    · exact .refl s
    · exact .of_keep ((Keep.refl 0x8000000000000 s).rma _ rfl) rfl

theorem ToldGrows.serveWant (s : State) : ToldGrows s s.serveWant := by
  unfold State.serveWant
  split
  · exact .refl s
  case h_2 q t _ =>
    split
    · exact .trans (t := { s with rma := { s.rma with want := t } }) (.of_keep ((Keep.refl 0x8000000000000 s).rma _ rfl) rfl) (.fetchCtx _ q)
    · exact .evict s

/-- The bytes that have arrived for `why` when a fetch is over. -/
def State.fetched (s : State) (why : Purpose) : List Byte := arrivedBytes (s.takeArrived why).2

/-- The fetch for context `x` fails: its packets are discarded. -/
def State.ctxLost (s : State) (i x : Nat) : State :=
  let u := (s.setSlot i {}).raise 356 [i16 x]
  ((u.count RMA_cnt_LO.COUNT 3 0 (u.rma.held.filter (fun h => h.qp == x)).length).setHeld
    (u.rma.held.filter (fun h => !(h.qp == x)))).serveWant

theorem rma_arrivalTaken (s : State) (why : Purpose) : (s.takeArrived why).1.rma = s.rma := rfl

section
variable {s : State} {x i : Nat} (hx : x < 65536) (hslot : s.slotBound x = some i) (hst : (tabGet s.rma.slots i).st = 1)
include hx hslot hst

theorem exec_contextFetchDone_lost (hfail : (s.takeArrived (.context x)).2.any (fun a => a.err != 0) = true) :
    exec (.contextFetchDone x) s = .next ((s.takeArrived (.context x)).1.ctxLost i x) := by
  have hrma := rma_arrivalTaken s (.context x)
  change execContextFetchDone x s = _
  unfold execContextFetchDone
  extract_lets +onlyGivenNames p need failed
  have hp : s.takeArrived (.context x) = p := rfl
  have hf : failed = true := hfail
  rw [hp] at hrma ⊢
  clear_value failed p need
  subst hf
  have hslot' : p.1.slotBound x = some i := (slotBound_of_rma hrma x).trans hslot
  have hst' : ¬ ((tabGet p.1.rma.slots i).st != 1) = true := by rw [hrma]; simp [hst]
  refine (if_neg (by simp)).trans ((if_pos hx).trans ?_)
  rw [hslot']
  refine (if_neg hst').trans ((if_pos rfl).trans ?_)
  unfold State.ctxLost
  have hheld : ((p.1.setSlot i {}).raise 356 [i16 x]).rma.held = p.1.rma.held := by
    rw [(State.raise_keep ..).parts .rma rfl, rma_setSlot]
  dsimp only
  rw [hheld]

theorem exec_contextFetchDone (hgood : (s.takeArrived (.context x)).2.any (fun a => a.err != 0) = false)
    (hlen : 256 ≤ (arrivedBytes (s.takeArrived (.context x)).2).length) : exec (.contextFetchDone x) s =
    .next ((((s.takeArrived (.context x)).1.setSlot i { st := 2, qp := x, last := s.tick }).setWinNat 11 false (64 * i) 64
      (leNat (arrivedBytes (s.takeArrived (.context x)).2))).qpReady x) := by
  have hrma := rma_arrivalTaken s (.context x)
  change execContextFetchDone x s = _
  unfold execContextFetchDone
  extract_lets +onlyGivenNames p need failed
  have hp : s.takeArrived (.context x) = p := rfl
  have hneed : need = 256 := if_pos hx
  have hf : failed = false := hgood
  have htick : p.1.tick = s.tick := rfl
  rw [hp] at hrma hlen ⊢
  clear_value failed p need
  subst hf
  have hslot' : p.1.slotBound x = some i := (slotBound_of_rma hrma x).trans hslot
  have hst' : ¬ ((tabGet p.1.rma.slots i).st != 1) = true := by rw [hrma]; simp [hst]
  refine (if_neg (by simpa [hneed] using hlen)).trans ((if_pos hx).trans ?_)
  rw [hslot']
  refine (if_neg hst').trans ((if_neg (by decide)).trans ?_)
  rw [htick]
end

/-- The fetch for region `r` fails: the packets held for it are discarded. -/
def State.regionLost (s : State) (r : Nat) : State :=
  (((s.setRegion r {}).raise 356 [i16 r]).count RMA_cnt_LO.COUNT 3 0 (s.rma.held.filter (fun h => h.region == r + 1)).length).setHeld
    (s.rma.held.filter (fun h => !(h.region == r + 1)))

/-- The fetch for region `r` brings `b`. -/
def State.regionFetched (s : State) (r : Nat) (b : List Byte) (tick : Nat) : State :=
  forEach (((s.rma.held.filter (fun h => h.region == r + 1)).map (fun h => h.qp)).eraseDups) (fun q u => u.qpReady q)
    (s.setRegion r { st := 2, iova := leAt b 0 8, len := leAt b 8 8, tag := leAt b 16 1, acc := leAt b 17 1, last := tick })

section
variable {s : State} {r : Nat} (hst : (s.region r).st = 1)
include hst

theorem exec_contextFetchDone_regionLost
    (hfail : (s.takeArrived (.context (65536 + r))).2.any (fun a => a.err != 0) = true) :
    exec (.contextFetchDone (65536 + r)) s = .next ((s.takeArrived (.context (65536 + r))).1.regionLost r) := by
  have hrma := rma_arrivalTaken s (.context (65536 + r))
  have hr : 65536 + r - 65536 = r := Nat.add_sub_cancel_left 65536 r
  change execContextFetchDone (65536 + r) s = _
  unfold execContextFetchDone
  extract_lets +onlyGivenNames p need failed
  have hp : s.takeArrived (.context (65536 + r)) = p := rfl
  have hf : failed = true := hfail
  rw [hp] at hrma ⊢
  rw [hr]
  clear_value failed p need
  subst hf
  have hst' : ¬ ((p.1.region r).st != 1) = true := by rw [State.region, hrma, ← State.region]; simp [hst]
  refine (if_neg (by simp)).trans ((if_neg (by omega)).trans ((if_neg hst').trans ((if_pos rfl).trans ?_)))
  have hheld : ((p.1.setRegion r {}).raise 356 [i16 r]).rma.held = p.1.rma.held := by
    rw [(State.raise_keep ..).parts .rma rfl]
    rfl
  unfold State.regionLost
  dsimp only
  rw [hheld]

theorem exec_contextFetchDone_region
    (hgood : (s.takeArrived (.context (65536 + r))).2.any (fun a => a.err != 0) = false)
    (hlen : 32 ≤ (arrivedBytes (s.takeArrived (.context (65536 + r))).2).length) : exec (.contextFetchDone (65536 + r)) s =
    .next ((s.takeArrived (.context (65536 + r))).1.regionFetched r (arrivedBytes (s.takeArrived (.context (65536 + r))).2) s.tick) := by
  have hrma := rma_arrivalTaken s (.context (65536 + r))
  have hr : 65536 + r - 65536 = r := Nat.add_sub_cancel_left 65536 r
  change execContextFetchDone (65536 + r) s = _
  unfold execContextFetchDone
  extract_lets +onlyGivenNames p need failed
  have hp : s.takeArrived (.context (65536 + r)) = p := rfl
  have hneed : need = 32 := if_neg (by omega)
  have hf : failed = false := hgood
  have htick : p.1.tick = s.tick := rfl
  rw [hp] at hlen hrma ⊢
  rw [hr]
  clear_value failed p need
  subst hf
  have hst' : ¬ ((p.1.region r).st != 1) = true := by rw [State.region, hrma, ← State.region]; simp [hst]
  refine (if_neg (by simpa [hneed] using hlen)).trans ((if_neg (by omega)).trans ((if_neg hst').trans ((if_neg (by decide)).trans ?_)))
  unfold State.regionFetched
  rw [htick]
end

section
variable {s : State} {i : Nat} (hst : (tabGet s.rma.slots i).st = 3)
include hst

theorem exec_contextWritebackDone_failed : exec (.contextWritebackDone i false) s =
    .next (((s.setSlot i { tabGet s.rma.slots i with st := 2, last := s.tick }).raise 356 [i16 (tabGet s.rma.slots i).qp]).serveWant) := by
  change execContextWritebackDone i false s = _
  exact (if_neg (by simp [hst])).trans (if_pos rfl)

/-- The slot is Valid again, and its queue pair goes on. -/
def State.slotRevived (s : State) (i : Nat) : State :=
  ((s.setSlot i { tabGet s.rma.slots i with st := 2 }).count RMA_cnt_LO.COUNT 4).qpReady (tabGet s.rma.slots i).qp

theorem exec_contextWritebackDone_work (hwork : s.rma.held.any (fun h => h.qp == (tabGet s.rma.slots i).qp) = true ∨
    s.qpWaits (tabGet s.rma.slots i).qp = true) : exec (.contextWritebackDone i true) s =
    .next (if (s.slotRevived i).rma.want.isEmpty then s.slotRevived i else (s.slotRevived i).evict) := by
  change execContextWritebackDone i true s = _
  exact (if_neg (by simp [hst])).trans ((if_neg (by decide)).trans (if_pos (by simpa using hwork)))

theorem exec_contextWritebackDone_idle (hheld : s.rma.held.any (fun h => h.qp == (tabGet s.rma.slots i).qp) = false)
    (hwaits : s.qpWaits (tabGet s.rma.slots i).qp = false) :
    exec (.contextWritebackDone i true) s = .next ((s.setSlot i {}).serveWant) := by
  change execContextWritebackDone i true s = _
  exact (if_neg (by simp [hst])).trans ((if_neg (by decide)).trans (if_neg (by simp only [hheld, hwaits]; decide)))
end

theorem told_writebackFailed (s : State) (i : Nat) (v : SlotSt) (items : List Item) :
    s.told 356 < (((s.setSlot i v).raise 356 items).serveWant).told 356 := by
  have htold := told_lt_raise (s.setSlot i v) 356 items none none
  rw [told_of_evt ((State.setSlot_keep ..).parts .evt rfl)] at htold
  exact Nat.lt_of_lt_of_le htold (ToldGrows.serveWant _ 356)

/-- Settles O41: packets, timers and retries of the link, the packets that its miss buffer drops, and its context cache. -/
theorem linkTransport : Obligations.LinkTransport := by
  refine ⟨?packet, ?ackTimer, ?ackTimeout, ?rnr, ?rate, ?nak, ?miss, ?ctxLost, ?ctxFetched, ?regionLost, ?regionFetched,
    ?writebackFailed, ?work, ?idle⟩
  case packet => exact fun s f l hin htype => does_of_exec (exec_rocePacketReceive hin htype) rfl
  case ackTimer => exact fun s q hrun hslot => does_of_exec (exec_roceAckTimer hrun hslot) rfl
  case ackTimeout => exact fun s q hrun hset hrts => does_of_exec (exec_roceAckTimeout hrun hset hrts) rfl
  case rnr => exact fun s q hwait => does_of_exec (exec_roceRnrWaitExpire hwait) rfl
  case rate =>
    intro s q hwf hslot hrun
    obtain ⟨i, hbound⟩ := slotBound_of_slotOf hslot
    refine does_of_exec (exec_roceRateIncrease hslot hrun) ?_
    have hle := advanceTo_le_tick s ((s.qp q).rateFrom - 1 + 1000 * s.rd RMA_RATE.AI_US)
    generalize (s.qp q).rateFrom - 1 + 1000 * s.rd RMA_RATE.AI_US = n at *
    have hrate := rate_rateRaised ((State.advanceTo_keep s n).wf hwf) ((slotBound_of_rma (rma_advanceTo s n) q).trans hbound)
    rw [ctx_advanceTo, rd_advanceTo, lineRate_advanceTo] at hrate
    have htick : ((s.advanceTo n).rateRaised q).tick = (s.advanceTo n).tick := (State.putCtx_keep ..).parts .tick rfl
    obtain ⟨htick', hfrom, hctx⟩ := rateAgain_shows ((s.advanceTo n).rateRaised q) q
    rw [htick', hctx]
    exact ⟨hle.trans_eq htick.symm, hfrom, hrate⟩
  case nak => exact fun s q m hm hmin => does_of_exec (exec_srNakRepeat hm hmin) ⟨_, rfl, rfl⟩
  case miss =>
    intro s h l w hwf hheld hw
    refine does_of_exec (exec_missHoldTimeout hheld hw) ?_
    obtain ⟨htick, hkept, hcount⟩ := missDropped_shows ((State.advanceTo_keep s (h.tick + w)).wf hwf) w
    rw [rma_advanceTo] at hkept hcount
    have hbefore : (s.advanceTo (h.tick + w)).rd64 RMA_cnt_LO.COUNT 3 = s.rd64 RMA_cnt_LO.COUNT 3 :=
      rd64_of_regs (advanceTo_regs ..) _ _ _
    rw [hbefore] at hcount
    rw [htick]
    exact ⟨advanceTo_le_tick .., hkept, hcount⟩
  case ctxLost => exact fun s x i hx hslot hst hfail => does_of_exec (exec_contextFetchDone_lost hx hslot hst hfail) rfl
  case ctxFetched =>
    exact fun s x i hx hslot hst hgood hlen => does_of_exec (exec_contextFetchDone hx hslot hst hgood hlen) rfl
  case regionLost =>
    intro s r hst hfail
    exact does_of_exec (exec_contextFetchDone_regionLost hst hfail) ⟨_, congrArg RmaSt.held (rma_setHeld ..), rfl, rfl⟩
  case regionFetched =>
    rintro s r b hst hgood rfl hlen
    exact does_of_exec (exec_contextFetchDone_region hst hgood hlen) rfl
  case writebackFailed =>
    exact fun s i hst => does_of_exec (exec_contextWritebackDone_failed hst) ⟨told_writebackFailed .., rfl⟩
  case work => exact fun s i hst hwork => does_of_exec (exec_contextWritebackDone_work hst hwork) ⟨_, rfl, rfl⟩
  case idle => exact fun s i hst hheld hwaits => does_of_exec (exec_contextWritebackDone_idle hst hheld hwaits) rfl

end Sys2Proof.Machine
